-- ==== Sys2Proof/Word.lean ====
section
/-! DEFINITION. The word types of the module's registers, memories and fabric addresses, and bytes as little-endian
numbers (R13). -/
namespace Sys2Proof

/-- One byte of memory, of a mailbox payload or of an image. -/
abbrev Byte := BitVec 8
/-- A register (every register of the map is 64 bits wide). -/
abbrev Word := BitVec 64
/-- A lane, an accumulator or any 32-bit element. -/
abbrev Lane := BitVec 32

/-- Physical core ID, row × 16 + column (R8). -/
abbrev CoreId := Fin 160
/-- Cluster number, cy × 4 + cx (R5). -/
abbrev ClusterId := Fin 20
/-- Flask number. -/
abbrev FlaskId := Fin 16
/-- Runner port number (R7). -/
abbrev PortId := Fin 24
/-- Ladle engine instance, cluster × 4 + engine (R52). -/
abbrev LdlId := Fin 80
/-- Host port number. -/
abbrev HostId := Fin 2

/-- The number that a little-endian byte string spells (R13). -/
def leNat : List Byte → Nat
  | [] => 0
  | b :: bs => b.toNat + 256 * leNat bs

/-- The first `n` bytes of a number, little-endian (R13). -/
def natLe : Nat → Nat → List Byte
  | 0, _ => []
  | n + 1, v => BitVec.ofNat 8 v :: natLe n (v / 256)

/-- Bits `[lo + len - 1 : lo]` of a number. -/
def bitsOf (v lo len : Nat) : Nat := v / 2 ^ lo % 2 ^ len

/-- Bit `i` of a number, as a Boolean. -/
def bitOf (v i : Nat) : Bool := v / 2 ^ i % 2 == 1

/-- A Boolean as a bit. -/
def b2n (b : Bool) : Nat := if b then 1 else 0

/-- A number with bit `i` set. -/
def setBit (v i : Nat) : Nat := if bitOf v i then v else v + 2 ^ i

/-- A number with bit `i` cleared. -/
def clrBit (v i : Nat) : Nat := if bitOf v i then v - 2 ^ i else v

/-- A count that saturates at `top`. -/
def satAdd (top v n : Nat) : Nat := if v + n > top then top else v + n

end Sys2Proof
end

