-- ==== Sys2Proof/Machine/Operands.lean ====
section
/-! DEFINITION. The operand forms of the commands: who accesses, what a message or a record carries, what the outside
world reports. The opcode table names the commands and no operands; these are the fields that the rules of each
command speak of (log entry 1). -/
namespace Sys2Proof

/-- Who makes a register access (R17, R48): host software through a port, an initiator by fabric address, the Slosy
probe, Crucible's firmware. -/
inductive Src where
  | host (port : HostId)
  | fabric
  | slosy
  | crucible
  deriving DecidableEq, Repr

/-- What a register write names: a BAR0 byte, a BAR2 byte, or a field of a host function's configuration space that
R466 and R469 describe. -/
inductive RegTarget where
  | bar0 (off : Nat)
  | bar2 (off : Nat)
  | cfgMsixEnable (port : HostId)
  | cfgFunctionMask (port : HostId)
  | cfgMaxRead (port : HostId)
  deriving DecidableEq, Repr

/-- The form of an elastic access (R266, R331). -/
inductive AccessOp where
  | read (len : Nat)
  | write (data : List Byte)
  | addOnWrite (fmt : Nat) (data : List Byte)
  deriving DecidableEq, Repr

/-- An incoming access by fabric address (R45 to R47, R265): the FA, the operation, whether the initiator is Crucible,
its flask on this module, whether its flask lies in another module of the pour and that pour's tag, the arrival counter
the write names, the Ladle job it serves. -/
structure FabricReq where
  fa : Nat
  op : AccessOp
  crucible : Bool
  flask : Option FlaskId
  pourTag : Nat
  counter : Option Nat
  poison : Bool
  deriving DecidableEq, Repr

/-- A decision record (R80) as a copy of it arrives: the fields and whether its CRC checks. -/
structure Decision where
  seq : Nat
  pstep : Nat
  temper : Nat
  bubbles : Nat
  target : Nat
  tag : Nat
  crcOk : Bool
  deriving DecidableEq, Repr

/-- A flask control record (R239). -/
structure CtlRec where
  seq : Nat
  kind : Nat
  mouldIdLow : Nat
  target : Nat
  tag : Nat
  crcOk : Bool
  deriving DecidableEq, Repr

/-- A Sprue beat (R353, R357): the tile flags, NULL, ELASTIC, the frame tag, the flow, the row and the payload. -/
structure Beat where
  flags : Nat
  null : Bool
  elastic : Bool
  frame : Nat
  epoch : Nat
  flow : Nat
  row : Nat
  payload : List Byte
  deriving DecidableEq, Repr

/-- What a router finds as it receives a beat (R358): nothing, a header corrected, a header that cannot be read, a payload
parity error. -/
inductive BeatFault where
  | none | corrected | unreadable | parity
  deriving DecidableEq, Repr

/-- What leaves a router in a slot (R354, R369): what its table names, an elastic beat injected here (RSP or REQ), or the
oldest elastic beat held from an input in a class. -/
inductive Departure where
  | scheduled
  | inject (rsp : Bool) (beat : Beat)
  | forward (input : Fin 8) (rsp : Bool)
  deriving DecidableEq, Repr

/-- An elastic cell (R391). -/
structure ElCell where
  eseq : Nat
  rsp : Bool
  dest : Nat
  src : Nat
  flags : Nat
  seg : Nat
  last : Bool
  bytes : List Byte
  deriving DecidableEq, Repr

/-- What stands in a cell position of a superframe: a cell of either kind, an idle cell, or a cell lost with its
codeword, of which the receiver knows that it was scheduled or not (R391, R392). -/
inductive Cell where
  | scheduled (sseq : Nat) (beat : Beat)
  | elastic (cell : ElCell)
  | idle
  | lost (sseq : Option Nat)
  deriving DecidableEq, Repr

/-- A superframe as a port receives it (R388 to R392): the header fields, whether the header's CRC checks and the tag it
carries authenticates the superframe before it, codewords corrected and lost, control messages of a reserved
KIND (R394), and the cell positions. -/
structure Superframe where
  seq : Nat
  sender : Nat
  port : Nat
  creditReq : Nat
  creditRsp : Nat
  eAck : Nat
  eNak : Bool
  laneMap : Nat
  keyEpoch : Nat
  crcOk : Bool
  tagOk : Bool
  corrected : Nat
  uncorr : Nat
  badCtl : Nat
  cells : List Cell
  deriving DecidableEq, Repr

/-- A lane's qualification window (R399): pre-FEC errors, and for each number of corrected symbols 1 to 15 the codewords
that had it, and the uncorrectable codewords. -/
structure LaneWindow where
  errors : Nat
  counts : List Nat
  uncorr : Nat
  deriving DecidableEq, Repr

/-- A HELLO (R418): the sending port, POUR_TAG, MODULE, the peer module and port expected, the low 8 bytes of the serial number. -/
structure HelloMsg where
  sender : Nat
  tag : Nat
  module : Nat
  peer : Nat
  peerPort : Nat
  serial : Nat
  deriving DecidableEq, Repr

/-- A KEY_OFFER (R658, R660) as Saffron finds it: a rekey or an exchange; whether the chain verifies and SERIAL matches the
certificate; the low 8 bytes of SERIAL; the peer's lifecycle; the epoch and START_SEQ of a rekey. -/
structure KeyOffer where
  rekey : Bool
  chainOk : Bool
  certOk : Bool
  serial : Nat
  lifecycle : Nat
  epoch : Nat
  startSeq : Nat
  deriving DecidableEq, Repr

/-- Why a regulator tile fails (R499). -/
inductive TileCause where
  | overcurrent
  | overtemperature
  | output
  | wear
  deriving DecidableEq, Repr

/-- What the module measures of its energy in 10 µs (R520), in µJ: the input energy, each cluster's core-rail energy, each
core's activity estimate (physical core, weight), and pools of shared energy with the weight of each flask (bytes or
cells moved for it). -/
structure EnergySample where
  input : Nat
  rails : List Nat
  activity : List (Nat × Nat)
  pools : List (Nat × List (Nat × Nat))
  deriving DecidableEq, Repr

/-- How a host fetch read completes (R455). -/
inductive FetchResult where
  | data (entries : List (List Byte))
  | unsupported
  | abort
  | poisoned
  deriving DecidableEq, Repr

/-- A vector-unit instruction's operand fields (R219), and the lanes of source registers (register × 1,024 + lane) whose
parity fails as they are read (R191). -/
structure VopArgs where
  vu : Fin 4
  nonsat : Bool
  opc : Nat
  vd : Fin 64
  va : Fin 64
  vb : Fin 64
  vc : Fin 64
  fmt : Nat
  imm : BitVec 32
  sreg : Fin 32
  tag : Fin 4096
  parity : List Nat
  deriving DecidableEq, Repr

/-- A SAMPLE instruction's operand fields (R219). -/
structure SampleArgs where
  vu : Fin 4
  vd : Fin 64
  vmaxBlocks : Nat
  kmax : Nat
  imm : BitVec 32
  sreg : Fin 32
  tag : Fin 4096
  deriving DecidableEq, Repr

/-- A SYNC_REQ or SYNC_RSP message (R396): the time stamps it carries. -/
structure SyncMsg where
  exchange : Nat
  t1 : Nat
  t2 : Nat
  t3 : Nat
  deriving DecidableEq, Repr

/-- Errors that an engine's storage shows during an operation (R152, R191, R264): accumulator entries (row × 32 +
column) struck by parity, lines of scratchpad reads found corrected or uncorrectable, operand lines that lost a bank
conflict with the winner's requester ID. -/
structure EngFaults where
  parity : List Nat
  abufParity : List Nat
  uncorrected : List Nat
  corrected : List Nat
  conflicts : List (Nat × Nat)
  deriving DecidableEq, Repr

/-- What a patrol scrub read finds (R275): the bank, and nothing, a corrected or an uncorrectable error; whether the pass
has taken more than twice its nominal time. -/
structure ScrubFinding where
  bank : Fin 64
  corrected : Bool
  uncorrected : Bool
  behind : Bool
  deriving DecidableEq, Repr

/-- An ECC error a cache access meets, in the cache line or in DRAM (R285, R291). -/
inductive CacheFault where
  | none
  | cacheCorrected
  | cacheUncorrected
  | dramCorrected
  | dramUncorrected
  deriving DecidableEq, Repr

/-- How a target acknowledges a sector write (R333, R337). -/
inductive AckOutcome where
  | committed
  | discarded
  | refused
  deriving DecidableEq, Repr

/-- What MB_MOULD_LOAD learns outside the module's own state (R234 checks 8 and 12, R236): whether the signature
verifies, whether every neighbour route of each base row can be padded, whether a section's verify from the bank
fails. -/
structure LoadEnv where
  signatureOk : Bool
  padOk : List Nat
  verifyFail : Bool
  deriving DecidableEq, Repr

/-- A unit that a wear monitor watches (R620). For an ME, the column to which a diagnostic run has localised the fault. -/
inductive WearUnit where
  | row (core : CoreId) (bank : Fin 64) (row : Fin 65536)
  | me (core : CoreId) (engine : Fin 64) (column : Option (Fin 32))
  | se (core : CoreId)
  | vu (core : CoreId)
  | trackGroup (segment : Fin 31) (group : Fin 272) (linkCore : CoreId)
  | lane (port : PortId) (lane : Fin 4)
  | tile (tile : Fin 256)
  | margin (cluster : ClusterId)
  | stack (stack : Fin 20)
  deriving DecidableEq, Repr

/-- How a diagnostic run of Pepper ends (R624): whether it completed, the hashes of the pair (its lower core first) and of
the referee, the column to which an ME's column checks point. -/
structure PepRun where
  complete : Bool
  first : Nat
  second : Nat
  referee : Nat
  column : Option (Fin 32)
  deriving DecidableEq, Repr

/-- What a boot meets outside the module's own state (R573, R577, R580, R585 to R589): an error of the flash device (0 none, 1 no
SFDP, 2 too small, 3 no 4-byte read) and what its tables say; whether the identity and TRIM fuse blocks check; whether the image in each
slot verifies; a stage whose step fails, with its unit; units that fail the self-test (kind, location, the core of a link group);
caches and stacks that fail; cores whose agent fails both copies; ports whose attempt ends in UP; whether the cell domain is found
reset; the milliseconds taken. -/
structure BootEnv where
  flashErr : Fin 4
  sizeLog2 : Nat
  quad : Bool
  clockMhz : Nat
  fusesOk : Bool
  sigA : Bool
  sigB : Bool
  stageFault : Option (Nat × Nat)
  selfTest : List (Nat × Nat × Nat)
  cacheFail : List ClusterId
  hbmFail : List (Fin 20)
  agentBad : List CoreId
  portsUp : List PortId
  cellLost : Bool
  ms : Nat
  deriving DecidableEq, Repr

/-- The straps as Anise samples them (R698): SB_ADDR, SB_MODE, FORCE_RECOVERY. -/
structure Straps where
  sbAddr : Fin 8
  i3c : Bool
  forceRecovery : Bool
  deriving DecidableEq, Repr

/-- What a breakpoint is held against (R687): an access by fabric address, whether it writes, the word at the address as written; the
code of an event; and the requester and logical core that R694 records, 0x7F and 0xFF where there are none. -/
structure BpHit where
  fa : Nat
  write : Bool
  word : Nat
  code : Nat
  requester : Fin 128
  core : Fin 256
  deriving DecidableEq, Repr

/-- The kinds of message the module sends (R396, R390 to R394, R81, R239, R418, R613, R83, R245, R411, R514, R594). -/
inductive MsgKind where
  | syncReq | syncRsp | arm | go | withdraw | ack | haltBeacon | fenceBeacon | flaskCtl | done | start | hello | form
  | report | abort | slotDigest | laneSwap | laneSwapAck | elasticReq | elasticRsp | writeFault | keyOffer | keyAccept
  | telemetry | credit | queueEntry | haltNotice | superframe | beat | flush | flushAck | sideband | slosy | inBand
  deriving DecidableEq, Repr

end Sys2Proof
end

