-- ==== Sys2Proof/Syntax.lean ====
section
/-! DEFINITION. The commands of the module: one constructor per row of spec/opcode_table.json, with the operands its
rules name. -/
namespace Sys2Proof

/-- A command or event of the module (spec/opcode_table.json). -/
inductive Instr where
  /-- REGISTER_WRITE (R17). A host, fabric, Slosy or firmware write to a register that has no row of its own, with field behaviour by type, reserved-encoding handling and the W1C same-cycle rule. -/
  | registerWrite (src : Src) (tgt : RegTarget) (data : List Byte) (hwSet : Word)
  /-- FA_FAULT_VALID_CLEAR (R59). Writing 1 to MOD_FA_FAULT_INFO.VALID zeroes COUNT and re-arms capture of the next decode fault. -/
  | faFaultValidClear (fault : Option FabricReq)
  /-- APERTURE_DENIED_READ (R60). A read of MOD_APERTURE_CTL returns DENIED and clears it in the same read. -/
  | apertureDeniedRead
  /-- PEAK_CLR (R64). Writing 1 to CLU_THERM.PEAK_CLR reloads PEAK with the current TEMP. -/
  | peakClr (cluster : ClusterId)
  /-- FABRIC_ACCESS (R47). An incoming fabric-address access is checked in order and served, or failed with poison or discard. -/
  | fabricAccess (req : FabricReq)
  /-- HOST_DRAM_ACCESS (R50). A host BAR4 access to the DRAM window is served through the home cache, or returns 0 or is discarded where no DRAM lies or access is refused. -/
  | hostDramAccess (port : HostId) (off len : Nat) (data : Option (List Byte))
  /-- APERTURE_ACCESS (R51). A host access to the BAR4 scratchpad aperture is served by physical core when the aperture is open, and otherwise refused and counted. -/
  | apertureAccess (port : HostId) (core : CoreId) (off : BitVec 28) (len : Nat) (data : Option (List Byte))
  /-- TRACK_GROUP_FAILURE (R29). A seam track group fails and is substituted, or, with no spare left, its core is fenced or the module goes out of service. -/
  | trackGroupFailure (segment : Fin 31) (group : Fin 272) (linkCore : CoreId) (reason : Nat)
  /-- TRACK_GROUP_SUBSTITUTION (R28). Once its function is drained, or at boot, a spare group replaces a failed group and the change is recorded in the slag map. -/
  | trackGroupSubstitution (segment : Fin 31) (group : Fin 272)
  /-- IN_SERVICE_FENCE (R36). A core is fenced in service: affected flasks are drained, the row map is rewritten, GEN is incremented and the flasks are reloaded. -/
  | inServiceFence (core : CoreId) (reason : Nat) (agentBad : List Nat)
  /-- SYNC_TIMER (R69). Every 64 µs a port sends SYNC_REQ to its upstream neighbour, or on any UP link, to measure offset and delay. -/
  | syncTimer (port : PortId) (tc : Nat)
  /-- SYNC_REQ (R396). A received SYNC_REQ is stamped and answered with a SYNC_RSP. -/
  | syncReq (port : PortId) (msg : SyncMsg) (rxTc : Nat) (txTc : Nat)
  /-- SYNC_RSP (R396). A received SYNC_RSP yields offset and delay, which update alignment, TC stepping or slewing, and the alignment state. -/
  | syncRsp (port : PortId) (msg : SyncMsg) (rxTc : Nat) (calib skew : Int)
  /-- UPSTREAM_PORT_LOST (R71). Loss of the upstream port moves alignment to HOLDOVER, to the alternative upstream, or to LOST. -/
  | upstreamPortLost (port : PortId) (altAccepted : Bool)
  /-- ACQUIRE_TIMEOUT (R71). A module still not ALIGNED 10 ms after entering ACQUIRING goes to LOST. -/
  | acquireTimeout (tc : Nat)
  /-- HOLDOVER_ERROR_LIMIT (R72). The bounded holdover error reaches 6 ns and alignment goes to LOST. -/
  | holdoverErrorLimit (tc : Nat)
  /-- FRAME_BOUNDARY (R74). After 8,192 core cycles a new frame begins: the frame registers update, pending changes and halts apply, and allowances grow. -/
  | frameBoundary (tc : Nat)
  /-- HOLD_POINT_START (R75). Every 128 cycles a hold point starts, and if it is bubbled or debug-held the scheduled work stands still for it. -/
  | holdPointStart (tc : Nat)
  /-- FLASK_EPOCH_START (R74). At its epoch TC or the next grid frame boundary, a flask enters RUN with SC 0. -/
  | flaskEpochStart (flask : FlaskId) (tc : Nat)
  /-- ARM_SEND (R516). At the first frame of window k+2 the master chooses P-step, temper and bubbles for window k+3 and sends ARM on three paths. -/
  | armSend (tc : Nat)
  /-- ARM (R82). A region receives an ARM decision record, checks it, prepares the rail and divider, and acknowledges it or withholds its acknowledgement. -/
  | arm (rec : Decision) (offGrid : Bool) (regionFault : Bool)
  /-- ACK (R81). An aggregated ACK rises up tree 0 once the module and all of its children have acknowledged. -/
  | ack (port : PortId) (seq_ : Nat)
  /-- ARM_DEADLINE (R81). At T − 2 frames the master sends GO if every acknowledgement arrived, and WITHDRAW otherwise. -/
  | armDeadline (tc : Nat)
  /-- GO (R81). A region receives and holds a GO decision record for its armed window. -/
  | go (rec : Decision)
  /-- WITHDRAW (R83). A region receives WITHDRAW, treats the window as withdrawn and lowers any rail it raised. -/
  | withdraw (rec : Decision)
  /-- GO_DEADLINE (R83). At T − 256 ns, a module holding ARM without GO or WITHDRAW, or holding no ARM, halts its pour flasks at T. -/
  | goDeadline (tc : Nat)
  /-- DECISION_COMMIT (R81). At T the regions holding GO apply the P-step, temper and bubbles, and the change epoch advances. -/
  | decisionCommit (tc : Nat) (relockFail : List Nat)
  /-- SEQ_IDLE (R210). The IDLE instruction occupies n + 1 cycles. -/
  | seqIdle (core : CoreId) (n : BitVec 32)
  /-- SEQ_ISSUE (R211). The ISSUE instruction reads a descriptor entry, relocates it and queues it at an ME or SE. -/
  | seqIssue (core : CoreId) (unit : Fin 72) (index : Fin 4096) (reloc : Fin 32) (mask : BitVec 9)
  /-- SEQ_LDL (R210). The LDL instruction issues a Ladle descriptor to engine 0–3 of the core's cluster. -/
  | seqLdl (core : CoreId) (engine : Fin 4) (index : Fin 4096) (reloc : Fin 32) (mask : BitVec 16)
  /-- SEQ_WAITS (R210). The WAITS instruction waits until SC reaches s[base] + offset. -/
  | seqWaits (core : CoreId) (base : Fin 32) (offset : BitVec 48)
  /-- SEQ_LOOP (R213). The LOOP instruction repeats its body count times with no added cycle between passes. -/
  | seqLoop (core : CoreId) (ctr : Fin 4) (fromReg : Bool) (reg : Fin 32) (count : BitVec 32) (last : Nat)
  /-- SEQ_BR (R212). The BR instruction tests its condition and either skips a static block or continues, taking the same time in both cases. -/
  | seqBr (core : CoreId) (cond : Fin 5) (a : Fin 32) (b : Fin 64) (target : Nat) (len : BitVec 32)
  /-- ALU_ADD (R210). The ALU ADD operation adds two registers. -/
  | aluAdd (core : CoreId) (rd ra rb : Fin 32)
  /-- ALU_SUB (R210). The ALU SUB operation subtracts one register from another. -/
  | aluSub (core : CoreId) (rd ra rb : Fin 32)
  /-- ALU_AND (R210). The ALU AND operation takes the bitwise AND of two registers. -/
  | aluAnd (core : CoreId) (rd ra rb : Fin 32)
  /-- ALU_OR (R210). The ALU OR operation takes the bitwise OR of two registers. -/
  | aluOr (core : CoreId) (rd ra rb : Fin 32)
  /-- ALU_XOR (R210). The ALU XOR operation takes the bitwise XOR of two registers. -/
  | aluXor (core : CoreId) (rd ra rb : Fin 32)
  /-- ALU_SHL (R210). The ALU SHL operation shifts a register left. -/
  | aluShl (core : CoreId) (rd ra rb : Fin 32)
  /-- ALU_SHR (R210). The ALU SHR operation shifts a register right. -/
  | aluShr (core : CoreId) (rd ra rb : Fin 32)
  /-- ALU_LI (R210). The ALU LI operation loads a 64-bit immediate into a register. -/
  | aluLi (core : CoreId) (rd : Fin 32) (imm : Word)
  /-- ALU_ADDI (R210). The ALU ADDI operation adds an immediate to a register. -/
  | aluAddi (core : CoreId) (rd ra : Fin 32) (imm : Word)
  /-- ALU_READ_SC (R210). The ALU READ_SC operation loads the schedule cycle counter into a register. -/
  | aluReadSc (core : CoreId) (rd : Fin 32)
  /-- SEQ_TMETA (R217). The TMETA instruction loads a tile metadata entry as it stands in that cycle. -/
  | seqTmeta (core : CoreId) (rd : Fin 32) (tag : Fin 4096)
  /-- SEQ_WAITA (R216). The WAITA instruction occupies n + 1 cycles before comparing an arrival counter. -/
  | seqWaita (core : CoreId) (rd : Fin 32) (ctr : Fin 4096) (thr : Fin 32) (isFault : Bool) (n : BitVec 32)
  /-- WAITA_COMPARE (R216). At WAITA's last cycle the arrival counter is compared with the threshold, and rd is set or the compare faults. -/
  | waitaCompare (core : CoreId) (sameCycle : Nat)
  /-- QOP_SEND (R244). QOP SEND sends one entry on an ELASTIC_TX queue if it holds credit, and otherwise returns NOT_READY. -/
  | qopSend (core : CoreId) (queue : Fin 8192) (rd areg : Fin 32) (addr : BitVec 28)
  /-- QOP_POP (R218). QOP POP takes the oldest entry of a LOCAL, ELASTIC_RX or HOST_SUBMIT queue into scratchpad. -/
  | qopPop (core : CoreId) (queue : Fin 8192) (rd areg : Fin 32) (addr : BitVec 28)
  /-- QOP_POST (R453). QOP POST pushes an entry to a LOCAL or HOST_POST queue if there is room. -/
  | qopPost (core : CoreId) (queue : Fin 8192) (rd areg : Fin 32) (addr : BitVec 28)
  /-- QOP_LEVEL (R218). QOP LEVEL returns the queue's entry count and result code. -/
  | qopLevel (core : CoreId) (queue : Fin 8192) (rd : Fin 32)
  /-- SEQ_HALT (R222). The HALT instruction ends the program, and when every core of the flask has halted the flask enters HALTED. -/
  | seqHalt (core : CoreId)
  /-- VOP_MOVE (R220). A VOP of the move class (COPY, SELECT, CMPLT, CMPEQ, BCAST) executes on a VU. -/
  | vopMove (core : CoreId) (args : VopArgs)
  /-- VOP_ARITHMETIC (R182). A VOP of the arithmetic class, including CVT and the integer operations, executes on a VU. -/
  | vopArithmetic (core : CoreId) (args : VopArgs)
  /-- VOP_FMA (R182). The fused multiply-add VOP executes with a single rounding. -/
  | vopFma (core : CoreId) (args : VopArgs)
  /-- VOP_PERMUTE (R220). A PERM or LSHIFT VOP rearranges the lanes of a vector. -/
  | vopPermute (core : CoreId) (args : VopArgs)
  /-- VOP_INGRESS (R181). An INGRESS VOP reads and consumes an ingress slot. -/
  | vopIngress (core : CoreId) (args : VopArgs)
  /-- VOP_SPECIAL_FUNCTION (R184). A special-function VOP computes a correctly rounded function with its special-input results. -/
  | vopSpecialFunction (core : CoreId) (args : VopArgs)
  /-- VOP_REDUCE (R121). A reduction VOP reduces the lanes of a vector by the fixed tree. -/
  | vopReduce (core : CoreId) (args : VopArgs)
  /-- VOP_LOAD (R221). A LOAD VOP reads 1,024 packed elements from scratchpad and widens each into its lane. -/
  | vopLoad (core : CoreId) (args : VopArgs) (conflicts : List (Nat × Nat))
  /-- VOP_STORE (R221). A STORE VOP converts the lanes and writes 1,024 packed elements to scratchpad. -/
  | vopStore (core : CoreId) (args : VopArgs) (conflicts : List (Nat × Nat))
  /-- VOP_QUANT (R104). A QUANT VOP quantises 32 blocks into an MX format and stores the elements and their scales. -/
  | vopQuant (core : CoreId) (args : VopArgs) (conflicts : List (Nat × Nat))
  /-- VOP_SAMPLE (R190). A SAMPLE VOP is accepted and waits for any earlier SAMPLE on the same VU. -/
  | vopSample (core : CoreId) (args : SampleArgs)
  /-- SAMPLE_START (R186). A SAMPLE begins its D cycles by reading and validating its sampler record. -/
  | sampleStart (core : CoreId) (vu : Fin 4)
  /-- TOKEN_CHOSEN (R188). At the end of step 5 of D the sampler chooses a token and writes VD and VU_SAMP_LAST. -/
  | tokenChosen (core : CoreId) (vu : Fin 4)
  /-- ME_MMA_START (R136). An MMA starts at its fetch phase once its bank and shape allow, and its beats enter the array. -/
  | meMmaStart (core : CoreId) (engine : Fin 64) (quad : Fin 4) (faults : EngFaults)
  /-- ME_DRAIN (R137). The tile's rows drain, chain-add, convert and issue to their destination, and the metadata and hash are updated. -/
  | meDrain (core : CoreId) (engine : Fin 64) (quad : Fin 4) (faults : EngFaults)
  /-- ME_LOAD_A_START (R142). A LOAD_A starts after its predecessor and moves lines into the A buffer in free load cycles. -/
  | meLoadAStart (core : CoreId) (engine : Fin 64)
  /-- SE_SMMA_START (R177). An SMMA starts on an even fetch phase and reads compressed operands. -/
  | seSmmaStart (core : CoreId) (engine : Fin 8) (faults : EngFaults)
  /-- SE_DRAIN (R177). An SE tile's rows drain, chain-add, convert and issue to their destination. -/
  | seDrain (core : CoreId) (engine : Fin 8) (faults : EngFaults)
  /-- SE_LOAD_A_START (R178). An SE LOAD_A starts and fills the SE's A buffer. -/
  | seLoadAStart (core : CoreId) (engine : Fin 8)
  /-- TEMPER_SWITCH (R241). At the first switch point at or after a committed temper change, the sequencer and slot tables move to the new temper. -/
  | temperSwitch (core : CoreId) (point : Fin 65536)
  /-- FLASK_HALT_POINT (R238). A flask with an armed halt or switch reaches its quiesce point or frame boundary and enters HALTED. -/
  | flaskHaltPoint (flask : FlaskId) (point : Nat) (quiesce : Bool) (frameBoundary : Bool) (tc : Nat)
  /-- START_TIMEOUT (R238). A module that holds no START 1 ms after its report raises DECISION_MISSING and its flasks stay HALTED. -/
  | startTimeout (flask : FlaskId) (tc : Nat)
  /-- CREDIT_TIMER (R245). A receiver sends a credit packet once CREDIT_BATCH pops accumulate, or 256 cycles after an uncovered pop. -/
  | creditTimer (queue : Fin 2097152)
  /-- CREDIT_PACKET (R245). A sender receives a cumulative credit count and updates its credit. -/
  | creditPacket (queue : Fin 2097152) (consumed : BitVec 16)
  /-- ELASTIC_ENTRY_ARRIVAL (R247). An entry reaches an ELASTIC_RX queue and is placed in its ring, or discarded. -/
  | elasticEntryArrival (queue : Fin 2097152) (peer tag : Nat) (entry : List Byte) (poison : Bool)
  /-- ELASTIC_ACCESS_TIMEOUT (R265). An elastic access that waits 65,536 cycles without a free bank cycle completes with an error. -/
  | elasticAccessTimeout (core : CoreId) (op : AccessOp)
  /-- GATHER_FLUSH (R268). A gather-buffer entry is flushed 256 cycles after its last merge. -/
  | gatherFlush (core : CoreId) (line : Nat)
  /-- ECC_WRITE_BACK (R273). A corrected line is written back in its bank's next free cycle, and the row's occasion count is updated. -/
  | eccWriteBack (core : CoreId) (line : Nat)
  /-- ROW_SUBSTITUTION (R276). A failing row is copied to a spare row in free cycles and the bank's row map is switched. -/
  | rowSubstitution (core : CoreId) (bank : Fin 64) (row : Nat) (reason : Nat)
  /-- SCRUB_ROW (R275). At each scrub interval one physical row per bank is read and corrected. -/
  | scrubRow (core : CoreId) (finding : ScrubFinding)
  /-- ZEROING_COMPLETE (R279). The zeroing that follows a change of owner ends and the core reads IDLE. -/
  | zeroingComplete (core : CoreId)
  /-- CACHE_ACCESS (R283). A DRAM access at its home cluster cache hits or fills, allocates, and evicts a line. -/
  | cacheAccess (off : Nat) (write : Option (List Byte)) (fault : CacheFault)
  /-- PREFETCH_ISSUE (R286). A stream tracker issues its next sector when STREAM-way room allows, or drops a prefetch outside the region. -/
  | prefetchIssue (cluster : ClusterId) (engine : LdlId) (ctx : Fin 4)
  /-- HBM_REFRESH (R290). A bank's refresh interval expires and the controller refreshes it. -/
  | hbmRefresh (stack : Fin 20) (channel : Fin 64) (bank : Fin 64) (tc : Nat)
  /-- HBM_TEMP_SAMPLE (R290). A stack temperature reading sets the refresh rate and may raise HBM_HOT or HBM_OVERTEMP. -/
  | hbmTempSample (stack : Fin 20) (temp : Fin 256)
  /-- HBM_PATROL (R291). The controller patrol reads each DRAM line once in every 24 hours. -/
  | hbmPatrol (stack : Fin 20) (findings : List (Nat × Bool))
  /-- LDL_SCHED_SLOT (R334). A scheduled channel's slot reads eight plan lines and issues up to two sector writes. -/
  | ldlSchedSlot (engine : LdlId) (channel : Fin 8) (lost : List (Nat × Nat))
  /-- LDL_CONTEXT_START (R309). An elastic descriptor enters a free context in issue and rotation order and begins its plans. -/
  | ldlContextStart (engine : LdlId) (ctx : Fin 4) (remote : List (Nat × List Byte))
  /-- SECTOR_WRITE (R333). A target commits a whole sector write once its last beat arrives and its CRC checks, or discards it. -/
  | sectorWrite (engine : LdlId) (ctx : Fin 4) (write : Nat) (crcOk : Bool)
  /-- SECTOR_BEAT_TIMEOUT (R333). A sector whose last beat has not arrived 1 µs after its first is discarded. -/
  | sectorBeatTimeout (engine : LdlId) (ctx : Fin 4) (write : Nat)
  /-- SECTOR_ACK (R337). A sector acknowledgement reaches the engine; a first discard is resent and a second fails the descriptor. -/
  | sectorAck (engine : LdlId) (ctx : Fin 4) (write : Nat) (outcome : AckOutcome)
  /-- LDL_ABORT (R344). Writing LDL_CTL.ABORT bit n applies a master reset to elastic context n. -/
  | ldlAbort (engine : LdlId) (mask : Fin 16)
  /-- ABORT_RESOLVE_TIMEOUT (R341). 4 µs after a master reset, unresolved writes count as not committed and the progress is captured with EXACT 0. -/
  | abortResolveTimeout (engine : LdlId) (ctx : Fin 4)
  /-- ABORT_CAPTURE (R341). When every issued write has resolved, LAST_SECTOR, WINDOW, STATUS and CAUSE are captured. -/
  | abortCapture (engine : LdlId) (ctx : Fin 4)
  /-- SPRUE_BEAT_RECEIVE (R358). A router receives a beat, checks its header and parity, runs the slip checks, and forwards or delivers the beat. -/
  | sprueBeatReceive (core : CoreId) (input : Fin 8) (sc : Nat) (beat : Beat) (fault : BeatFault) (rsp : Bool) (credits : Fin 5 × Fin 5) (lost : List (Nat × Nat))
  /-- HALT_NOTICE (R368). A Vent halt notice reaches a core, and its flask halts at the next frame boundary. -/
  | haltNotice (core : CoreId)
  /-- VENT_FLIT_RECEIVE (R376). A Vent flit is received, and retried on a CRC failure. -/
  | ventFlitReceive (link : Fin 31) (cluster : ClusterId) (cls : Fin 3) (header : Bool) (occupancy : Fin 9) (crcOk : Bool)
  /-- SUPERFRAME_RECEIVE (R390). A port receives a superframe, checks its header, credits and acknowledgements, authenticates it, and dispatches its cells. -/
  | superframeReceive (port : PortId) (sf : Superframe) (tc : Nat)
  /-- SCHEDULED_CELL (R405). A scheduled cell is placed in the release buffer, or discarded as late or on overflow. -/
  | scheduledCell (port : PortId) (sseq : Fin 2048) (beat : Beat)
  /-- ELASTIC_CELL (R393). An elastic cell is accepted in order or discarded with E_NAK set. -/
  | elasticCell (port : PortId) (cell : ElCell)
  /-- ELASTIC_RESEND_TIMEOUT (R393). With no header advancing E_ACK for 4 µs, the sender resends from E_ACK. -/
  | elasticResendTimeout (port : PortId) (tc : Nat)
  /-- RELEASE_CYCLE (R405). At an RX entry's release cycle the port releases the head cell, a poisoned beat, or a NULL beat. -/
  | releaseCycle (port : PortId) (sc : Nat)
  /-- DONE (R239). A DONE control record rises up tree 0, and the master collects the reports before START. -/
  | done (port : PortId) (rec : CtlRec)
  /-- ARM_HALT (R238). An ARM_HALT control record is checked and acknowledged for a pour halt. -/
  | armHalt (rec : CtlRec)
  /-- ARM_SWITCH (R238). An ARM_SWITCH control record is checked against the staged MOULD_ID and acknowledged. -/
  | armSwitch (rec : CtlRec)
  /-- FLASK_GO (R239). A flask-control GO record commits an armed halt, switch or hold at T. -/
  | flaskGo (rec : CtlRec)
  /-- FLASK_WITHDRAW (R239). A flask-control WITHDRAW record cancels the armed halt, switch or hold. -/
  | flaskWithdraw (rec : CtlRec)
  /-- START (R238). A START record sets the new epoch at which the switched or resumed Mould begins at SC 0. -/
  | start (rec : CtlRec)
  /-- ARM_HOLD (R684). An ARM_HOLD record arms a pour-scope debug hold at a window boundary. -/
  | armHold (rec : CtlRec)
  /-- ARM_RELEASE (R684). An ARM_RELEASE record arms the release of a pour debug hold, optionally for STEP frames. -/
  | armRelease (rec : CtlRec)
  /-- HALT_BEACON (R83). A halt beacon of the module's pour is forwarded and halts that pour's flasks at the next frame boundary. -/
  | haltBeacon (port : PortId) (cause : Nat) (origin : Nat) (seq_ : Nat) (frame : Nat) (tag : Nat) (tc : Nat)
  /-- FENCE_BEACON (R613). A fence beacon is forwarded and recorded so that culprit reports naming its origin become consequential. -/
  | fenceBeacon (port : PortId) (unit : Nat) (origin : Nat) (seq_ : Nat) (frame : Nat) (tag : Nat) (detail : Nat) (tc : Nat)
  /-- HELLO (R418). A HELLO is checked against the pour plan and sets the port's peer. -/
  | hello (port : PortId) (msg : HelloMsg)
  /-- FORM (R419). A FORM message chooses the module's tree upstreams and is forwarded with its depth, or completes the formation. -/
  | form (port : PortId) (tree : Fin 4) (tag : Nat) (depth : Nat) (children : List PortId) (routes : List (Nat × Nat))
  /-- REPORT (R418). A REPORT is aggregated up tree 0 for FORMED or READY with its digests and status. -/
  | report (port : PortId) (phase : Fin 3) (count : Nat) (digest : Nat) (bindSum : Nat) (status : Nat) (failing : Nat) (routes : List (Nat × Nat))
  /-- ABORT (R418). A flooded ABORT ends pour formation FAILED and returns MOD_POUR_ID and alignment to their initial state. -/
  | abort (tag : Nat) (status : Nat) (failing : Nat)
  /-- SLOT_DIGEST (R407). A peer's slot digests are compared with this port's own RX and TX digests. -/
  | slotDigest (port : PortId) (temper : Fin 4) (mouldId : Nat) (tx : Nat) (rx : Nat)
  /-- LANE_SWAP (R401). A LANE_SWAP request is received and acknowledged, or resolved against a crossing request. -/
  | laneSwap (port : PortId) (lane : Fin 4) (target : Nat) (sender : Nat)
  /-- LANE_SWAP_ACK (R401). A LANE_SWAP_ACK confirms the target superframe of a lane swap. -/
  | laneSwapAck (port : PortId) (lane : Fin 4) (target : Nat)
  /-- LANE_SWAP_APPLY (R401). At the target superframe both ends change LANE_MAP, and the slag entry is recorded. -/
  | laneSwapApply (port : PortId)
  /-- LANE_SWAP_ABANDON (R401). A swap whose ACK has not arrived 2 superframes before the target is abandoned, and the port retrains. -/
  | laneSwapAbandon (port : PortId)
  /-- PORT_ENABLE (R398). Rhozel enables a port and, on signal detect, the port enters TRAIN. -/
  | portEnable (port : PortId) (signal : Bool) (tc : Nat)
  /-- TRAIN_COMPLETE (R398). Equalisation is agreed on all lanes, or the attempt fails within 200 ms. -/
  | trainComplete (port : PortId) (ok : Bool) (tc : Nat)
  /-- LOCK_COMPLETE (R398). Codeword lock and deskew complete, or the attempt fails within 10 ms. -/
  | lockComplete (port : PortId) (ok : Bool) (tc : Nat)
  /-- QUALIFY_WINDOW_END (R399). A 0.5 s qualification window ends and each lane passes or fails. -/
  | qualifyWindowEnd (port : PortId) (windows : List LaneWindow) (tc : Nat)
  /-- LANE_LOCK_LOSS (R398). An active lane loses lock; a loss beyond 1 µs takes the port to DOWN. -/
  | laneLockLoss (port : PortId) (lane : Fin 5) (beyond : Bool) (tc : Nat)
  /-- ELASTIC_REQUEST (R411). A Runner elastic request is forwarded, served at its target, or answered with no route. -/
  | elasticRequest (port : PortId)
  /-- ELASTIC_RESPONSE (R411). A response message completes the initiator's access, or is dropped when it cannot be forwarded. -/
  | elasticResponse (port : PortId)
  /-- WRITE_FAULT (R414). A received WRITE_FAULT is written as an event and sets the flask's posted-fault mask bit. -/
  | writeFault (far : Nat) (tag : Nat) (status : Nat) (fidx : Fin 1024) (tc : Nat) (fa : Nat) (count : Nat)
  /-- POUR_FORM_TIMEOUT (R418). A pour formation not complete 10 s after acceptance ends FAILED with status 0x0223. -/
  | pourFormTimeout (tc : Nat)
  /-- KEY_OFFER (R658). A KEY_OFFER is verified, and the link keys are derived or refused, or a rekey offer is answered. -/
  | keyOffer (port : PortId) (offer : KeyOffer) (tc : Nat)
  /-- KEY_ACCEPT (R659). A KEY_ACCEPT fixes the START_SEQ from which each direction encrypts. -/
  | keyAccept (port : PortId) (startSeq : Nat) (macOk : Bool)
  /-- KEY_EXCHANGE_TIMEOUT (R659). An exchange not complete 10 ms after its first offer restarts with new ephemerals. -/
  | keyExchangeTimeout (port : PortId) (tc : Nat)
  /-- REKEY_TIMER (R424). A port rekeys before 2^31 superframes, and a rekey not agreed in 1 s takes the port to DOWN. -/
  | rekeyTimer (port : PortId) (tc : Nat)
  /-- QUEUE_DB_SUBMIT (R452). A doorbell write for HOST_SUBMIT sets T if valid, or sets DB_ERR. -/
  | queueDbSubmit (queue : Fin 2097152) (count : BitVec 16) (tc : Nat)
  /-- QUEUE_DB_POST (R453). A doorbell write for HOST_POST sets H if valid, or sets DB_ERR. -/
  | queueDbPost (queue : Fin 2097152) (count : BitVec 16) (tc : Nat)
  /-- QUEUE_CTL_WRITE (R460). A QUEUE_CTL write stores fields and requests ENABLED or DISABLING. -/
  | queueCtlWrite (queue : Fin 2097152) (val : Word) (byteMask : Fin 256)
  /-- QUEUE_BASE_WRITE (R459). A QUEUE_BASE write sets the ring address in DISABLED, or is refused with CFG_ERR. -/
  | queueBaseWrite (queue : Fin 2097152) (val : Word) (byteMask : Fin 256)
  /-- QUEUE_WM_WRITE (R454). A QUEUE_WM write sets LEVEL or clears HIT, re-arming the watermark and reloading Q_PEAK. -/
  | queueWmWrite (queue : Fin 2097152) (val : Word) (byteMask : Fin 256) (sameCycleFire : Bool)
  /-- HOST_FETCH_READ (R452). While T differs from F and the shadow has room, the queue engine issues a read of ring entries. -/
  | hostFetchRead (queue : Fin 2097152)
  /-- HOST_FETCH_COMPLETION (R455). A fetch completion fills the shadow and advances F, or puts the queue in FAULT. -/
  | hostFetchCompletion (queue : Fin 2097152) (res : FetchResult)
  /-- HOST_COMPLETION_TIMEOUT (R455). A fetch read exceeding the completion timeout puts its queue in FAULT. -/
  | hostCompletionTimeout (queue : Fin 2097152)
  /-- HOST_POST_WRITE (R453). An accepted post is written to the host ring as one 64 B TLP with its phase bit. -/
  | hostPostWrite (queue : Fin 2097152) (tc : Nat)
  /-- MSIX_HOLDOFF_EXPIRY (R453). When HOLDOFF has elapsed since the previous message, one MSI-X message covers every post due meanwhile. -/
  | msixHoldoffExpiry (queue : Fin 2097152) (tc : Nat)
  /-- QUEUE_DISABLE_COMPLETE (R451). DISABLING ends when reads and posts have resolved, and the queue enters DISABLED or ENABLED. -/
  | queueDisableComplete (queue : Fin 2097152)
  /-- EVENT_RECORD_WRITE (R464). A formed event record is written to every configured ring it is bound for, or counts as lost. -/
  | eventRecordWrite
  /-- EVENT_WINDOW_CLOSE (R494). A 1 ms coalescing window closes and its record is formed with its COUNT and TC_LAST. -/
  | eventWindowClose (index : Fin 256) (tc : Nat)
  /-- EVR_HEAD_WRITE (R465). A write of MOD_EVR_HEAD_n sets H if valid, and freed room lets the pending EVENTS_LOST record be written. -/
  | evrHeadWrite (ring : Fin 17) (head : BitVec 32)
  /-- PORT_FLR (R470). A Function Level Reset of a host port resets its function, disables its queues and stops its rings. -/
  | portFlr (port : HostId)
  /-- PORT_HOT_RESET (R470). A hot reset or PERST# assertion of a host port affects only that port, as for FLR. -/
  | portHotReset (port : HostId) (perst : Bool)
  /-- HOST_LINK_LOSS (R470). Loss of a host link disables its queues and rings and discards posts not yet issued. -/
  | hostLinkLoss (port : HostId)
  /-- D3HOT_ENTRY (R555). Putting a host function in D3hot behaves as a reset of that port. -/
  | d3hotEntry (port : HostId)
  /-- MB_SUBMIT (R474). A GO write to an open slot accepts the command, checks its arguments and writes STATUS. -/
  | mbSubmit (slot : Fin 16) (submit : Word) (byteMask : Fin 256) (tc : Nat)
  /-- MB_CANCEL (R476). A CANCEL write requests cancellation of a busy slot's command. -/
  | mbCancel (slot : Fin 16) (val : Byte)
  /-- MB_COMMAND_START (R475). A command held in ACCEPTED starts when the ordering rules allow. -/
  | mbCommandStart (slot : Fin 17)
  /-- MB_INFO_GET (R484). Returns the info record. -/
  | mbInfoGet (slot : Fin 17)
  /-- MB_SLAG_READ (R482). Returns slag map image bytes from OFFSET. -/
  | mbSlagRead (slot : Fin 17)
  /-- MB_EVENT_RING_SET (R464). Configures or disables an event ring, writing held records to ring 0 first. -/
  | mbEventRingSet (slot : Fin 17)
  /-- MB_FLASK_LIST (R487). Returns the 16 flask records. -/
  | mbFlaskList (slot : Fin 17)
  /-- MB_FLASK_CREATE (R482). Creates a flask with cores and a DRAM region, zeroing on the change of owner. -/
  | mbFlaskCreate (slot : Fin 17)
  /-- MB_FLASK_DESTROY (R482). Destroys a flask, zeroing its cores and closing its DRAM region. -/
  | mbFlaskDestroy (slot : Fin 17)
  /-- MB_MOULD_LOAD (R234). Copies, checks and writes a Mould image into a flask's banks, or stages it. -/
  | mbMouldLoad (slot : Fin 17) (env : LoadEnv)
  /-- MB_MOULD_SWITCH (R238). Switches a flask to its staged Mould. -/
  | mbMouldSwitch (slot : Fin 17) (tc : Nat)
  /-- MB_MOULD_UNLOAD (R482). Unloads a flask's Mould, passing its cores through RESET. -/
  | mbMouldUnload (slot : Fin 17)
  /-- MB_FLASK_START (R482). Starts a READY single-module flask at an epoch. -/
  | mbFlaskStart (slot : Fin 17)
  /-- MB_FLASK_HALT (R482). Arms a halt at a quiesce point or frame boundary. -/
  | mbFlaskHalt (slot : Fin 17)
  /-- MB_FLASK_RESUME (R482). Resumes a flask halted at a quiesce point. -/
  | mbFlaskResume (slot : Fin 17)
  /-- MB_FLASK_RESET (R482). Resets a flask. -/
  | mbFlaskReset (slot : Fin 17)
  /-- MB_SCAN_OUT (R248). Writes a halted flask's scan image to DRAM. -/
  | mbScanOut (slot : Fin 17)
  /-- MB_SCAN_IN (R252). Checks a scan image and restores the flask to READY. -/
  | mbScanIn (slot : Fin 17)
  /-- MB_CACHE_FLUSH (R482). Writes back a flask's dirty cache lines. -/
  | mbCacheFlush (slot : Fin 17)
  /-- MB_CACHE_PART_SET (R284). Sets the number of STREAM ways. -/
  | mbCachePartSet (slot : Fin 17)
  /-- MB_POUR_FORM (R418). Forms a pour from a pour plan. -/
  | mbPourForm (slot : Fin 17)
  /-- MB_POUR_START (R420). At the master, checks readiness and digests and sends START. -/
  | mbPourStart (slot : Fin 17)
  /-- MB_POUR_LEAVE (R422). Leaves the pour while no pour flask runs. -/
  | mbPourLeave (slot : Fin 17)
  /-- MB_FLUSH_POSTED (R415). Waits until a flask's posted writes are resolved and returns its posted-fault mask. -/
  | mbFlushPosted (slot : Fin 17) (tc : Nat)
  /-- MB_PORT_CTL (R486). Disables, enables or retrains Runner ports and reports each port's outcome. -/
  | mbPortCtl (slot : Fin 17)
  /-- MB_FENCE (R615). Fences or substitutes a unit by KIND. -/
  | mbFence (slot : Fin 17)
  /-- MB_COMPUTE_RESET (R596). Performs a compute-only reset. -/
  | mbComputeReset (slot : Fin 17) (env : BootEnv) (tc : Nat)
  /-- MB_PEPPER_SET (R622). Sets the Pepper share. -/
  | mbPepperSet (slot : Fin 17)
  /-- MB_REDUNDANCY_SET (R627). Turns full redundancy mode on or off for a flask without a Mould. -/
  | mbRedundancySet (slot : Fin 17)
  /-- MB_FLASK_DRAIN (R609). Waits for the drain and scans out a fault-halted flask. -/
  | mbFlaskDrain (slot : Fin 17)
  /-- MB_PSTEP_SET (R85). Requests a new P-step through a decision window or a short stop. -/
  | mbPstepSet (slot : Fin 17) (relockFail : List Nat)
  /-- MB_CAP_SET (R511). Sets the module power cap. -/
  | mbCapSet (slot : Fin 17)
  /-- MB_PSTATE_SET (R538). Requests a power state, commits an entry or starts an exit. -/
  | mbPstateSet (slot : Fin 17) (tc : Nat)
  /-- MB_ENERGY_READ (R520). Returns an energy account, coarsened for tenant slots. -/
  | mbEnergyRead (slot : Fin 17)
  /-- MB_TAMPER_ACK (R664). Acknowledges tamper log entries and clears the latch if possible. -/
  | mbTamperAck (slot : Fin 17)
  /-- MB_WEIGHT_KEY_LOAD (R656). Checks and installs a weight key, or installs or revokes a Mould-signing key. -/
  | mbWeightKeyLoad (slot : Fin 17) (verified : Bool)
  /-- MB_TAMPER_LOG_READ (R663). Returns tamper log bytes from OFFSET. -/
  | mbTamperLogRead (slot : Fin 17)
  /-- MB_FW_STAGE (R591). Checks a firmware image, writes it to the inactive slot and stages it. -/
  | mbFwStage (slot : Fin 17) (signatureOk readBackOk : Bool)
  /-- MB_FW_ACTIVATE (R592). Makes the staged slot active, now or at next boot. -/
  | mbFwActivate (slot : Fin 17) (env : BootEnv) (tc : Nat)
  /-- MB_APERTURE_SET (R680). Opens or closes the scratchpad aperture under a level 3 grant. -/
  | mbApertureSet (slot : Fin 17)
  /-- MB_EVENT_TEST (R482). Writes a test event from source Crucible. -/
  | mbEventTest (slot : Fin 17)
  /-- MB_POLL (R490). On the sideband, returns the virtual slot's current status and result. -/
  | mbPoll
  /-- SIDEBAND_REQUEST (R490). An MCTP vendor-defined request is handled through the sideband's virtual slot. -/
  | sidebandRequest (submit : Word) (args : List Byte) (session : Option Nat) (tc : Nat)
  /-- INPUT_SAMPLE (R496). Every 1 µs the input monitor samples voltage and current and reacts to the input range. -/
  | inputSample (millivolts : Int) (tenthAmps : Nat) (watts : Nat) (tc : Nat)
  /-- PWR_AUX_FAULT (R498). A fault in an auxiliary regulator raises a FATAL event. -/
  | pwrAuxFault
  /-- TILE_FAULT (R499). A regulator tile fails, opens its output switch and starts the ramp of a spare. -/
  | tileFault (tile : Fin 256) (cause : TileCause)
  /-- TILE_SPARED (R499). A spare tile reaches its setpoint, closes its switch and is recorded, or is marked SPARE_FAILED. -/
  | tileSpared (tile : Fin 256) (ok : Bool)
  /-- VMIN_SAMPLE (R502). Each microsecond the cluster adjusts LOOP_c from the lowest minimum-voltage sample and logs if needed. -/
  | vminSample (cluster : ClusterId) (sensor : Fin 32) (millivolts : Nat) (bubbleEdge : Bool) (tc : Nat)
  /-- RISER_NOTICE (R507). A load tag's notice is issued L cycles ahead, and the tiles pre-bias for the step. -/
  | riserNotice (cluster : ClusterId) (level : Fin 1024)
  /-- BUCKET_GRANT (R510). An un-noticed load step is granted when both current-slew buckets hold its amount. -/
  | bucketGrant (cluster : ClusterId) (amps : Nat) (tc : Nat)
  /-- DECISION_WINDOW_END (R512). At a window's end the module computes its required bubbles per temper. -/
  | decisionWindowEnd (watts : Nat) (bubbleWatts : Nat) (currents : List (Nat × Nat)) (tc : Nat)
  /-- TELEMETRY_SEND (R514). At the earlier of child arrival and the deadline, the module sends its aggregated telemetry record upward. -/
  | telemetrySend (tc : Nat)
  /-- TELEMETRY_RECEIVE (R535). A child's posted telemetry record lands in PWR_TELEM_IN_p. -/
  | telemetryReceive (port : PortId) (bytes : List Byte)
  /-- THERMAL_SAMPLE (R518). Every 1 µs the thermal sensors are read and the derate, warning and trip thresholds are applied. -/
  | thermalSample (readings : List (Nat × Nat))
  /-- ENERGY_ACCOUNT (R520). Every 10 µs the measured energy is divided among the 17 accounts. -/
  | energyAccount (sample : EnergySample) (tc : Nat)
  /-- PSTATE_ENTRY_COMPLETE (R543). The entry stages finish, the target state is reached, DONE is written, and a latched wake replays. -/
  | pstateEntryComplete (tc : Nat)
  /-- PSTATE_EXIT (R544). An exit runs the regulators, oscillators, memories and logic back to IDLE or RUN. -/
  | pstateExit (tc : Nat)
  /-- PST_READY_TIMEOUT (R546). A ready signal missing its bound is retried, fenced or made FATAL. -/
  | pstReadyTimeout (signal : Fin 5) (unit : Nat) (other retryOk : Bool)
  /-- WAKE_PIN (R547). A falling edge of WAKE_N sets the PIN latch if enabled. -/
  | wakePin
  /-- WAKE_TIMER (R550). A tick, or a write, on which COUNT ≥ COMPARE sets the TIMER latch. -/
  | wakeTimer (ticks : Nat)
  /-- WAKE_I3C (R549). An address match in STANDBY is NACKed and sets the I3C latch. -/
  | wakeI3c (address : Fin 128)
  /-- WAKE_PERST (R547). A PERST# deassertion in STANDBY sets its latch. -/
  | wakePerst (port : HostId)
  /-- WAKE_HOST (R566). Writing PST_WAKE_REQ.WAKE sets the HOST latch. -/
  | wakeHost (wake : Bool)
  /-- PST_TIMER_WRITE (R550). A write of PST_TIMER sets COMPARE and re-tests the TIMER condition. -/
  | pstTimerWrite (val : Word) (byteMask : Fin 256)
  /-- PST_WAKE_EN_WRITE (R564). A write of PST_WAKE_EN enables sources and re-tests the TIMER condition. -/
  | pstWakeEnWrite (val : Word) (byteMask : Fin 256)
  /-- XTAL_FAIL (R550). The Anise crystal stops, PST_TICKS stops and XTAL_FAIL is set. -/
  | xtalFail
  /-- CORE_DOMAIN_ON_REQUEST (R551). An on-request queues a domain, or marks it PENDING_ON during shutdown. -/
  | coreDomainOnRequest (core : CoreId)
  /-- CORE_DOMAIN_OFF_REQUEST (R551). An off-request starts a shutdown, or is held during a ramp. -/
  | coreDomainOffRequest (core : CoreId)
  /-- CORE_DOMAIN_GRANT (R553). A queued domain is granted its ramp within the cluster and module limits. -/
  | coreDomainGrant
  /-- CORE_DOMAIN_RAMP_DONE (R552). A domain finishes its ramp and is ON. -/
  | coreDomainRampDone (core : CoreId) (tc : Nat)
  /-- CORE_DOMAIN_SHUTDOWN_DONE (R554). A shutdown completes to OFF_SAFE or RETAINED, or queues a pending on-request. -/
  | coreDomainShutdownDone (core : CoreId)
  /-- POWER_ON (R580). The 48 V input returns and the cold power-on sequence runs to READY. -/
  | powerOn (env : BootEnv) (straps : Straps) (resetLow : Bool)
  /-- MODULE_RESET (R699). RESET_N held low for at least 10 µs starts a module reset from step 2. -/
  | moduleReset (lowNs tc : Nat)
  /-- WATCHDOG_EXPIRY (R595). The image-stage watchdog expires and causes a management reset. -/
  | watchdogExpiry (env : BootEnv) (tc : Nat)
  /-- PLDM_QUERY_DEVICE_IDS (R593). PLDM QueryDeviceIdentifiers. -/
  | pldmQueryDeviceIds
  /-- PLDM_GET_FW_PARAMETERS (R593). PLDM GetFirmwareParameters. -/
  | pldmGetFwParameters
  /-- PLDM_REQUEST_UPDATE (R593). PLDM RequestUpdate, answered RETRY while a class 0x06 command runs. -/
  | pldmRequestUpdate (transfer : Nat)
  /-- PLDM_PASS_COMPONENT_TABLE (R593). PLDM PassComponentTable. -/
  | pldmPassComponentTable (cls ident : BitVec 16) (last : Bool)
  /-- PLDM_UPDATE_COMPONENT (R593). PLDM UpdateComponent starts the transfer, checking and verify of the image. -/
  | pldmUpdateComponent (cls ident : BitVec 16) (size : BitVec 32)
  /-- PLDM_ACTIVATE_FIRMWARE (R593). PLDM ActivateFirmware acts as MB_FW_ACTIVATE with MODE 0. -/
  | pldmActivateFirmware (selfContained : Bool)
  /-- PLDM_GET_STATUS (R593). PLDM GetStatus. -/
  | pldmGetStatus
  /-- PLDM_CANCEL_UPDATE_COMPONENT (R593). PLDM CancelUpdateComponent. -/
  | pldmCancelUpdateComponent
  /-- PLDM_CANCEL_UPDATE (R593). PLDM CancelUpdate. -/
  | pldmCancelUpdate
  /-- PLDM_GET_SENSOR_READING (R594). Returns a numeric sensor reading. -/
  | pldmGetSensorReading (sensor : BitVec 16)
  /-- PLDM_GET_STATE_SENSOR_READINGS (R594). Returns the boot-stage state sensor. -/
  | pldmGetStateSensorReadings (sensor : BitVec 16)
  /-- PLDM_GET_PDR (R594). Returns platform descriptor records. -/
  | pldmGetPdr (handle : BitVec 32)
  /-- MCTP_CONTROL (R702). An MCTP control message is served on the sideband. -/
  | mctpControl (command eid : BitVec 8)
  /-- I3C_SETDASA (R702). Assigns the I3C dynamic address from the static address. -/
  | i3cSetdasa (static dynamic : Fin 128)
  /-- I3C_ENTDAA (R702). Dynamic address assignment by ENTDAA. -/
  | i3cEntdaa (dynamic : Fin 128)
  /-- SPDM_GET_VERSION (R647). SPDM GET_VERSION. -/
  | spdmGetVersion
  /-- SPDM_GET_CAPABILITIES (R647). SPDM GET_CAPABILITIES. -/
  | spdmGetCapabilities
  /-- SPDM_NEGOTIATE_ALGORITHMS (R647). SPDM NEGOTIATE_ALGORITHMS. -/
  | spdmNegotiateAlgorithms (supported : Bool)
  /-- SPDM_GET_DIGESTS (R647). SPDM GET_DIGESTS. -/
  | spdmGetDigests
  /-- SPDM_GET_CERTIFICATE (R647). SPDM GET_CERTIFICATE for slot 0. -/
  | spdmGetCertificate (certSlot : Fin 8) (length : BitVec 16)
  /-- SPDM_CHALLENGE (R647). SPDM CHALLENGE signed with the Alias key. -/
  | spdmChallenge (certSlot : Fin 8)
  /-- SPDM_GET_MEASUREMENTS (R648). Returns the signed measurement blocks. -/
  | spdmGetMeasurements (index : BitVec 8)
  /-- SPDM_KEY_EXCHANGE (R647). SPDM KEY_EXCHANGE opens a session. -/
  | spdmKeyExchange (id : BitVec 32)
  /-- SPDM_FINISH (R647). SPDM FINISH completes a session. -/
  | spdmFinish (id : BitVec 32) (verified : Bool)
  /-- SPDM_HEARTBEAT (R647). SPDM HEARTBEAT. -/
  | spdmHeartbeat (id : BitVec 32)
  /-- SPDM_KEY_UPDATE (R647). SPDM KEY_UPDATE. -/
  | spdmKeyUpdate (id : BitVec 32)
  /-- SPDM_END_SESSION (R647). SPDM END_SESSION. -/
  | spdmEndSession (id : BitVec 32)
  /-- FLASK_DRAIN (R608). A fault-halted or repair-halted flask is drained: contexts aborted, cells discarded, messages resolved, lines written back. -/
  | flaskDrain (flask : FlaskId) (tc : Nat)
  /-- CULPRIT_WINDOW_CLOSE (R612). A 100 µs culprit window closes and writes a coalesced report unless it is consequential. -/
  | culpritWindowClose (index : Fin 64) (tc : Nat)
  /-- AUTO_REPAIR (R616). Rhozel performs a repair that a monitor or rule calls for, or raises REPAIR_PENDING. -/
  | autoRepair (kind : Nat) (location : Nat) (reason : Nat)
  /-- PENDING_REPAIR_APPLY (R619). A pending repair takes effect at the last drain, a compute-only reset or a management reset. -/
  | pendingRepairApply (kind : Nat) (location : Nat)
  /-- WEAR_MONITOR (R620). A wear monitor crossing its threshold triggers its repair or a warning. -/
  | wearMonitor (unit : WearUnit) (value : Nat) (tc : Nat)
  /-- LIFE_HOUR (R709). Hourly, the equivalent-hours count is updated, warning at 87,600. -/
  | lifeHour (tj10 : Int) (fast : Bool) (tc : Nat)
  /-- PEPPER_TILE_START (R622). A Pepper tile starts in an open window when the allowance and buckets permit. -/
  | pepperTileStart (core : CoreId) (unit : Fin 76) (window : Nat) (hash : Nat) (tc : Nat)
  /-- PEPPER_COMPARE (R624). The comparator compares a pair's tile hashes and starts a diagnostic run on mismatch. -/
  | pepperCompare (core : CoreId) (unit : Fin 76)
  /-- PEPPER_DIAGNOSTIC (R624). A diagnostic run with a referee resolves to transient, culprit or unresolved. -/
  | pepperDiagnostic (core : CoreId) (unit : Fin 76) (result : PepRun)
  /-- SPARE_CORE_CHECK (R626). Daily, each spare core is powered, Pepper-checked and powered off again. -/
  | spareCoreCheck (core : CoreId) (culprit : Bool)
  /-- REDUNDANCY_COMPARE (R629). A shadow compares a primary's tile hash with its own. -/
  | redundancyCompare (core : CoreId) (unit : Fin 76) (tag : Fin 4096) (primary : Nat) (shadow : Nat) (tileTc : Nat)
  /-- REDUNDANCY_HASH_TIMEOUT (R629). A hash with no counterpart 64 cycles after its drain counts as unequal. -/
  | redundancyHashTimeout (core : CoreId) (unit : Fin 76) (tag : Fin 4096) (hash : Nat) (tileTc : Nat)
  /-- TAMPER_SENSOR (R662). A tamper sensor event latches TAMPER, logs an entry and, with input power, zeroises keys. -/
  | tamperSensor (sensor : Fin 8) (inputPower : Bool) (seconds : Nat)
  /-- SLOT_ROLE_WRITE (R668). A write of SAF_SLOT_ROLE sets roles and LOCK, or is discarded while locked. -/
  | slotRoleWrite (val : Word) (byteMask : Fin 256)
  /-- SLOT_FLASK_WRITE (R669). A write of SAF_SLOT_FLASK binds TENANT slots, or is discarded while locked. -/
  | slotFlaskWrite (val : Word) (byteMask : Fin 256)
  /-- SLOSY_FRAME (R675). A Slosy request frame is checked, deduplicated by TAG and dispatched. -/
  | slosyFrame (wire : List Byte) (tc : Nat)
  /-- SLOSY_INFO (R681). Returns identity, lifecycle, level and holds. -/
  | slosyInfo
  /-- SLOSY_AUTH_REQ (R677). Returns a fresh nonce, or 0x07 during lockout. -/
  | slosyAuthReq
  /-- SLOSY_AUTH_GRANT (R677). Verifies a grant record and sets the debug level and SESSION. -/
  | slosyAuthGrant (verified : Bool) (seconds : Nat)
  /-- SLOSY_AUTH_DROP (R678). Ends the grant. -/
  | slosyAuthDrop
  /-- SLOSY_LIFECYCLE (R680). Moves an OWNED module to FIELD_DEBUG, zeroising keys. -/
  | slosyLifecycle
  /-- SLOSY_READ (R682). Reads by fabric address as a Crucible elastic access. -/
  | slosyRead (tc : Nat)
  /-- SLOSY_WRITE (R682). Writes by fabric address as a Crucible elastic access. -/
  | slosyWrite (tc : Nat)
  /-- SLOSY_APERTURE_READ (R682). Reads scratchpad by physical core ID. -/
  | slosyApertureRead
  /-- SLOSY_HOLD (R684). Arms a debug hold of a flask or pour at a boundary. -/
  | slosyHold (tc : Nat)
  /-- SLOSY_RELEASE (R684). Arms the release of a debug hold. -/
  | slosyRelease (tc : Nat)
  /-- SLOSY_STEP (R684). Releases a held flask for COUNT units and holds it again. -/
  | slosyStep (tc : Nat)
  /-- SLOSY_HOLD_STAT (R681). Returns a flask's hold state, SC and TC. -/
  | slosyHoldStat
  /-- SLOSY_BP_SET (R687). Configures a breakpoint. -/
  | slosyBpSet
  /-- SLOSY_BP_CLEAR (R687). Clears a breakpoint. -/
  | slosyBpClear
  /-- SLOSY_BP_STAT (R681). Returns the breakpoint hit registers. -/
  | slosyBpStat
  /-- SLOSY_SCAN_CORE (R686). Reads a held core's record. -/
  | slosyScanCore
  /-- DEBUG_HOLD_APPLY (R683). At its boundary a hold, release or step takes effect and SC freezes or resumes. -/
  | debugHoldApply (flask : FlaskId) (tc : Nat)
  /-- DBG_BP_HIT (R688). A breakpoint match is captured, logged, pulses ATTN or arms a hold. -/
  | dbgBpHit (bp : Fin 8) (hit : BpHit) (tc : Nat)
  /-- GRANT_EXPIRY (R678). A grant's DURATION elapses, it ends and the aperture closes. -/
  | grantExpiry (seconds : Nat)
  /-- AUTH_LOCKOUT_EXPIRY (R679). The 60 s lockout after four refused grants ends. -/
  | authLockoutExpiry (seconds : Nat)
  /-- REFCLK_LOST (R701). Eight missing edges of the system reference put the PLLs in holdover and raise REFCLK_LOST. -/
  | refclkLost (tc : Nat)
  /-- REFCLK_BACKUP_SWITCH (R701). After 1 s without reference the PLLs move to the backup oscillator. -/
  | refclkBackupSwitch (tc : Nat)
  /-- REFCLK_RESTORED (R701). The reference returns and the PLLs move back to it. -/
  | refclkRestored (tc : Nat)
  /-- TAP_BYPASS (R703). TAP BYPASS instruction. -/
  | tapBypass (env : BootEnv) (tc : Nat)
  /-- TAP_IDCODE (R703). TAP IDCODE instruction. -/
  | tapIdcode (env : BootEnv) (tc : Nat)
  /-- TAP_SAMPLE_PRELOAD (R703). TAP SAMPLE/PRELOAD instruction. -/
  | tapSamplePreload (pins preload : List Bool) (env : BootEnv) (tc : Nat)
  /-- TAP_EXTEST (R703). TAP EXTEST holds compute in reset, and leaving it starts a module reset. -/
  | tapExtest (env : BootEnv) (tc : Nat)
  /-- SPRUE_DEPARTURE (R354). At a slot that a SRC 8 or SRC 9 entry names, the router reads the payload from scratchpad or the output buffer and drives the beat, or a NULL beat; elastic beats leave in elastic slots. -/
  | sprueDeparture (core : CoreId) (out : Fin 8) (sc : Nat) (what : Departure) (lost : List (Nat × Nat))
  /-- SUPERFRAME_SEND (R388). Every 170 ns a port assembles and sends a superframe with its header, control slots and cells, encrypted and FEC-coded. -/
  | superframeSend (port : PortId)
  /-- SIGNAL_DETECTED (R398). Signal appears on all five lanes of an enabled port in DOWN and the port enters TRAIN. -/
  | signalDetected (port : PortId) (tc : Nat)
  /-- RESET_N_RELEASE (R699). RESET_N returns high, the straps are sampled and the held reset or power-on sequence continues from step 2. -/
  | resetNRelease (env : BootEnv) (straps : Straps) (tc : Nat)
  /-- HOST_LINK_UP (R581). A host port's PCI Express link trains and comes up, so posts, fetches, event rings and messages on that port can proceed. -/
  | hostLinkUp (port : HostId) (speed : Fin 7) (width : Fin 17) (flit : Bool)
  /-- RETURN_TO_D0 (R555). Host software returns a function from D3hot to D0, which resets the function's configuration state with No_Soft_Reset 0. -/
  | returnToD0 (port : HostId)
  /-- BUS_MASTER_ENABLE (R471). Host software sets or clears Bus Master Enable, which stops or resumes the function's fetches, posts and token records. -/
  | busMasterEnable (port : HostId) (on : Bool)
  /-- POUR_START_TIMEOUT (R420). If READY is not complete 1 s after MB_POUR_START, the command ends FAILED with status 0x0223. -/
  | pourStartTimeout (tc : Nat)
  /-- FLUSH_ACK_TIMEOUT (R415). A FLUSH_ACK missing 1 ms after the FLUSH ends MB_FLUSH_POSTED FAILED with status 0x0223 and lists the modules that did not answer. -/
  | flushAckTimeout (slot : Fin 17) (tc : Nat)
  /-- TAMPER_SENSOR_DEASSERT (R661). An asserted tamper sensor deasserts, which updates SAF_TAMPER.LIVE and re-arms logging of that sensor. -/
  | tamperSensorDeassert (sensor : Fin 8)
  /-- PLDM_FIRMWARE_DATA (R593). The update agent's response to RequestFirmwareData, or to TransferComplete, VerifyComplete or ApplyComplete, reaches the device and delivers image data or acknowledgement. -/
  | pldmFirmwareData (data : List Byte) (signatureOk readBackOk : Bool) (env : BootEnv)
  deriving DecidableEq, Repr

end Sys2Proof
end

