-- ==== Sys2Proof/WellFormed.lean ====
section
/-! DEFINITION. Which commands are well formed: the widths that the rules give the fields of messages, records and data that the
operand types do not already bound. -/
namespace Sys2Proof

/-- A value fits a number of bits. -/
def fits (n v : Nat) : Bool := decide (v < 2 ^ n)

/-- A decision record (R80). -/
def Decision.wf (d : Decision) : Bool :=
  fits 16 d.seq && fits 4 d.pstep && fits 2 d.temper && decide (d.bubbles ≤ 48) && fits 64 d.target && fits 64 d.tag

/-- A flask control record (R239). -/
def CtlRec.wf (r : CtlRec) : Bool :=
  fits 16 r.seq && decide (0x11 ≤ r.kind) && decide (r.kind ≤ 0x18) && fits 32 r.mouldIdLow && fits 64 r.target && fits 64 r.tag

/-- A beat (R353, R357): 128 B of payload, five flags. -/
def Beat.wf (b : Beat) : Bool := fits 5 b.flags && b.payload.length == 128

/-- An elastic cell (R391). -/
def ElCell.wf (c : ElCell) : Bool :=
  fits 8 c.eseq && fits 16 c.dest && fits 16 c.src && fits 5 c.flags && decide (c.seg ≤ 2) && c.bytes.length == 128

/-- A cell position (R391). -/
def Cell.wf : Cell → Bool
  | .scheduled q b => fits 11 q && b.wf
  | .elastic c => c.wf
  | .idle => true
  | .lost q => (match q with | some n => fits 11 n | none => true)

/-- A superframe (R388 to R392). -/
def Superframe.wf (f : Superframe) : Bool := f.cells.all Cell.wf

/-- A HELLO (R418). -/
def HelloMsg.wf (m : HelloMsg) : Bool :=
  decide (m.sender < 24) && fits 32 m.tag && fits 16 m.module && fits 16 m.peer && fits 8 m.peerPort && fits 64 m.serial

/-- A SYNC message (R396). -/
def SyncMsg.wf (m : SyncMsg) : Bool := fits 32 m.exchange && fits 64 m.t1 && fits 64 m.t2 && fits 64 m.t3

/-- A qualification window (R399): counts for 1 to 15 corrected symbols. -/
def LaneWindow.wf (w : LaneWindow) : Bool := w.counts.length == 15

/-- An energy sample (R520): one rail per cluster, physical cores. -/
def EnergySample.wf (e : EnergySample) : Bool := e.rails.length == 20 && e.activity.all (fun a => decide (a.1 < 160))

/-- A fetch's data is entries of 64 B (R447). -/
def FetchResult.wf : FetchResult → Bool
  | .data es => es.all (fun e => e.length == 64)
  | _ => true

/-- Data of an access: at most 4 KiB. -/
def dataOk (b : List Byte) : Bool := decide (b.length ≤ 4096)

/-- An access form (R266). -/
def AccessOp.wf : AccessOp → Bool
  | .read n => decide (n ≤ 4096)
  | .write b => dataOk b
  | .addOnWrite f b => fits 8 f && dataOk b

/-- An access by fabric address (R45). -/
def FabricReq.wf (r : FabricReq) : Bool := fits 64 r.fa && r.op.wf && fits 32 r.pourTag

/-- A register write's target lies in its window (R48, R49). -/
def RegTarget.wf : RegTarget → Bool
  | .bar0 off => fits 24 off
  | .bar2 off => fits 27 off
  | _ => true

/-- A departure (R354). -/
def Departure.wf : Departure → Bool
  | .inject _ b => b.wf
  | _ => true

/-- What a breakpoint is held against (R687). -/
def BpHit.wf (h : BpHit) : Bool := fits 64 h.fa && fits 64 h.word && fits 16 h.code

/-- What a boot meets (R580): stages 1 to 7, units that the slag map can name. -/
def BootEnv.wf (e : BootEnv) : Bool :=
  (match e.stageFault with | some x => decide (x.1 ≤ 7) && fits 16 x.2 | none => true) &&
  e.selfTest.all (fun u => decide (1 ≤ u.1) && decide (u.1 ≤ 6) && fits 32 u.2.1 && decide (u.2.2 < 160))

/-- A command is well formed. -/
def Instr.wf : Instr → Bool
  | .registerWrite _ tgt data _ => tgt.wf && dataOk data
  | .faFaultValidClear fault => (match fault with | some r => r.wf | none => true)
  | .apertureDeniedRead => true
  | .peakClr .. => true
  | .fabricAccess req => req.wf
  | .hostDramAccess _ _ _ data => (match data with | some b => dataOk b | none => true)
  | .apertureAccess _ _ _ _ data => (match data with | some b => dataOk b | none => true)
  | .trackGroupFailure .. => true
  | .trackGroupSubstitution .. => true
  | .inServiceFence .. => true
  | .syncTimer _ tc => fits 64 tc
  | .syncReq _ msg _ _ => msg.wf
  | .syncRsp _ msg _ _ _ => msg.wf
  | .upstreamPortLost .. => true
  | .acquireTimeout tc => fits 64 tc
  | .holdoverErrorLimit tc => fits 64 tc
  | .frameBoundary tc => fits 64 tc
  | .holdPointStart tc => fits 64 tc
  | .flaskEpochStart _ tc => fits 64 tc
  | .armSend tc => fits 64 tc
  | .arm rec _ _ => rec.wf
  | .ack .. => true
  | .armDeadline tc => fits 64 tc
  | .go rec => rec.wf
  | .withdraw rec => rec.wf
  | .goDeadline tc => fits 64 tc
  | .decisionCommit tc _ => fits 64 tc
  | .seqIdle .. => true
  | .seqIssue .. => true
  | .seqLdl .. => true
  | .seqWaits .. => true
  | .seqLoop .. => true
  | .seqBr .. => true
  | .aluAdd .. => true
  | .aluSub .. => true
  | .aluAnd .. => true
  | .aluOr .. => true
  | .aluXor .. => true
  | .aluShl .. => true
  | .aluShr .. => true
  | .aluLi .. => true
  | .aluAddi .. => true
  | .aluReadSc .. => true
  | .seqTmeta .. => true
  | .seqWaita .. => true
  | .waitaCompare .. => true
  | .qopSend .. => true
  | .qopPop .. => true
  | .qopPost .. => true
  | .qopLevel .. => true
  | .seqHalt .. => true
  | .vopMove .. => true
  | .vopArithmetic .. => true
  | .vopFma .. => true
  | .vopPermute .. => true
  | .vopIngress .. => true
  | .vopSpecialFunction .. => true
  | .vopReduce .. => true
  | .vopLoad .. => true
  | .vopStore .. => true
  | .vopQuant .. => true
  | .vopSample .. => true
  | .sampleStart .. => true
  | .tokenChosen .. => true
  | .meMmaStart .. => true
  | .meDrain .. => true
  | .meLoadAStart .. => true
  | .seSmmaStart .. => true
  | .seDrain .. => true
  | .seLoadAStart .. => true
  | .temperSwitch .. => true
  | .flaskHaltPoint _ _ _ _ tc => fits 64 tc
  | .startTimeout _ tc => fits 64 tc
  | .creditTimer .. => true
  | .creditPacket .. => true
  | .elasticEntryArrival _ _ _ entry _ => entry.length == 64
  | .elasticAccessTimeout _ op => op.wf
  | .gatherFlush .. => true
  | .eccWriteBack .. => true
  | .rowSubstitution .. => true
  | .scrubRow .. => true
  | .zeroingComplete .. => true
  | .cacheAccess _ write _ => (match write with | some b => dataOk b | none => true)
  | .prefetchIssue .. => true
  | .hbmRefresh _ _ _ tc => fits 64 tc
  | .hbmTempSample .. => true
  | .hbmPatrol .. => true
  | .ldlSchedSlot .. => true
  | .ldlContextStart _ _ remote => remote.all (fun x => dataOk x.2)
  | .sectorWrite .. => true
  | .sectorBeatTimeout .. => true
  | .sectorAck .. => true
  | .ldlAbort .. => true
  | .abortResolveTimeout .. => true
  | .abortCapture .. => true
  | .sprueBeatReceive _ _ _ beat _ _ _ _ => beat.wf
  | .haltNotice .. => true
  | .ventFlitReceive .. => true
  | .superframeReceive _ sf tc => sf.wf && fits 64 tc
  | .scheduledCell _ _ beat => beat.wf
  | .elasticCell _ cell => cell.wf
  | .elasticResendTimeout _ tc => fits 64 tc
  | .releaseCycle .. => true
  | .done _ rec => rec.wf
  | .armHalt rec => rec.wf
  | .armSwitch rec => rec.wf
  | .flaskGo rec => rec.wf
  | .flaskWithdraw rec => rec.wf
  | .start rec => rec.wf
  | .armHold rec => rec.wf
  | .armRelease rec => rec.wf
  | .haltBeacon _ _ _ _ _ _ tc => fits 64 tc
  | .fenceBeacon _ _ _ _ _ _ _ tc => fits 64 tc
  | .hello _ msg => msg.wf
  | .form .. => true
  | .report .. => true
  | .abort .. => true
  | .slotDigest .. => true
  | .laneSwap .. => true
  | .laneSwapAck .. => true
  | .laneSwapApply .. => true
  | .laneSwapAbandon .. => true
  | .portEnable _ _ tc => fits 64 tc
  | .trainComplete _ _ tc => fits 64 tc
  | .lockComplete _ _ tc => fits 64 tc
  | .qualifyWindowEnd _ windows tc => windows.all LaneWindow.wf && fits 64 tc
  | .laneLockLoss _ _ _ tc => fits 64 tc
  | .elasticRequest .. => true
  | .elasticResponse .. => true
  | .writeFault _ _ _ _ tc _ _ => fits 64 tc
  | .pourFormTimeout tc => fits 64 tc
  | .keyOffer _ _ tc => fits 64 tc
  | .keyAccept .. => true
  | .keyExchangeTimeout _ tc => fits 64 tc
  | .rekeyTimer _ tc => fits 64 tc
  | .queueDbSubmit _ _ tc => fits 64 tc
  | .queueDbPost _ _ tc => fits 64 tc
  | .queueCtlWrite .. => true
  | .queueBaseWrite .. => true
  | .queueWmWrite .. => true
  | .hostFetchRead .. => true
  | .hostFetchCompletion _ res => res.wf
  | .hostCompletionTimeout .. => true
  | .hostPostWrite _ tc => fits 64 tc
  | .msixHoldoffExpiry _ tc => fits 64 tc
  | .queueDisableComplete .. => true
  | .eventRecordWrite => true
  | .eventWindowClose _ tc => fits 64 tc
  | .evrHeadWrite .. => true
  | .portFlr .. => true
  | .portHotReset .. => true
  | .hostLinkLoss .. => true
  | .d3hotEntry .. => true
  | .mbSubmit _ _ _ tc => fits 64 tc
  | .mbCancel .. => true
  | .mbCommandStart .. => true
  | .mbInfoGet .. => true
  | .mbSlagRead .. => true
  | .mbEventRingSet .. => true
  | .mbFlaskList .. => true
  | .mbFlaskCreate .. => true
  | .mbFlaskDestroy .. => true
  | .mbMouldLoad .. => true
  | .mbMouldSwitch _ tc => fits 64 tc
  | .mbMouldUnload .. => true
  | .mbFlaskStart .. => true
  | .mbFlaskHalt .. => true
  | .mbFlaskResume .. => true
  | .mbFlaskReset .. => true
  | .mbScanOut .. => true
  | .mbScanIn .. => true
  | .mbCacheFlush .. => true
  | .mbCachePartSet .. => true
  | .mbPourForm .. => true
  | .mbPourStart .. => true
  | .mbPourLeave .. => true
  | .mbFlushPosted _ tc => fits 64 tc
  | .mbPortCtl .. => true
  | .mbFence .. => true
  | .mbComputeReset _ env tc => env.wf && fits 64 tc
  | .mbPepperSet .. => true
  | .mbRedundancySet .. => true
  | .mbFlaskDrain .. => true
  | .mbPstepSet .. => true
  | .mbCapSet .. => true
  | .mbPstateSet _ tc => fits 64 tc
  | .mbEnergyRead .. => true
  | .mbTamperAck .. => true
  | .mbWeightKeyLoad .. => true
  | .mbTamperLogRead .. => true
  | .mbFwStage .. => true
  | .mbFwActivate _ env tc => env.wf && fits 64 tc
  | .mbApertureSet .. => true
  | .mbEventTest .. => true
  | .mbPoll => true
  | .sidebandRequest _ args _ tc => dataOk args && fits 64 tc
  | .inputSample _ _ _ tc => fits 64 tc
  | .pwrAuxFault => true
  | .tileFault .. => true
  | .tileSpared .. => true
  | .vminSample _ _ _ _ tc => fits 64 tc
  | .riserNotice .. => true
  | .bucketGrant _ _ tc => fits 64 tc
  | .decisionWindowEnd _ _ _ tc => fits 64 tc
  | .telemetrySend tc => fits 64 tc
  | .telemetryReceive _ bytes => bytes.length == 64
  | .thermalSample .. => true
  | .energyAccount sample tc => sample.wf && fits 64 tc
  | .pstateEntryComplete tc => fits 64 tc
  | .pstateExit tc => fits 64 tc
  | .pstReadyTimeout .. => true
  | .wakePin => true
  | .wakeTimer .. => true
  | .wakeI3c .. => true
  | .wakePerst .. => true
  | .wakeHost .. => true
  | .pstTimerWrite .. => true
  | .pstWakeEnWrite .. => true
  | .xtalFail => true
  | .coreDomainOnRequest .. => true
  | .coreDomainOffRequest .. => true
  | .coreDomainGrant => true
  | .coreDomainRampDone _ tc => fits 64 tc
  | .coreDomainShutdownDone .. => true
  | .powerOn env _ _ => env.wf
  | .moduleReset _ tc => fits 64 tc
  | .watchdogExpiry env tc => env.wf && fits 64 tc
  | .pldmQueryDeviceIds => true
  | .pldmGetFwParameters => true
  | .pldmRequestUpdate .. => true
  | .pldmPassComponentTable .. => true
  | .pldmUpdateComponent .. => true
  | .pldmActivateFirmware .. => true
  | .pldmGetStatus => true
  | .pldmCancelUpdateComponent => true
  | .pldmCancelUpdate => true
  | .pldmGetSensorReading .. => true
  | .pldmGetStateSensorReadings .. => true
  | .pldmGetPdr .. => true
  | .mctpControl .. => true
  | .i3cSetdasa .. => true
  | .i3cEntdaa .. => true
  | .spdmGetVersion => true
  | .spdmGetCapabilities => true
  | .spdmNegotiateAlgorithms .. => true
  | .spdmGetDigests => true
  | .spdmGetCertificate .. => true
  | .spdmChallenge .. => true
  | .spdmGetMeasurements .. => true
  | .spdmKeyExchange .. => true
  | .spdmFinish .. => true
  | .spdmHeartbeat .. => true
  | .spdmKeyUpdate .. => true
  | .spdmEndSession .. => true
  | .flaskDrain _ tc => fits 64 tc
  | .culpritWindowClose _ tc => fits 64 tc
  | .autoRepair .. => true
  | .pendingRepairApply .. => true
  | .wearMonitor _ _ tc => fits 64 tc
  | .lifeHour _ _ tc => fits 64 tc
  | .pepperTileStart _ _ _ _ tc => fits 64 tc
  | .pepperCompare .. => true
  | .pepperDiagnostic .. => true
  | .spareCoreCheck .. => true
  | .redundancyCompare .. => true
  | .redundancyHashTimeout .. => true
  | .tamperSensor .. => true
  | .slotRoleWrite .. => true
  | .slotFlaskWrite .. => true
  | .slosyFrame wire tc => dataOk wire && fits 64 tc
  | .slosyInfo => true
  | .slosyAuthReq => true
  | .slosyAuthGrant .. => true
  | .slosyAuthDrop => true
  | .slosyLifecycle => true
  | .slosyRead tc => fits 64 tc
  | .slosyWrite tc => fits 64 tc
  | .slosyApertureRead => true
  | .slosyHold tc => fits 64 tc
  | .slosyRelease tc => fits 64 tc
  | .slosyStep tc => fits 64 tc
  | .slosyHoldStat => true
  | .slosyBpSet => true
  | .slosyBpClear => true
  | .slosyBpStat => true
  | .slosyScanCore => true
  | .debugHoldApply _ tc => fits 64 tc
  | .dbgBpHit _ hit tc => hit.wf && fits 64 tc
  | .grantExpiry .. => true
  | .authLockoutExpiry .. => true
  | .refclkLost tc => fits 64 tc
  | .refclkBackupSwitch tc => fits 64 tc
  | .refclkRestored tc => fits 64 tc
  | .tapBypass env tc => env.wf && fits 64 tc
  | .tapIdcode env tc => env.wf && fits 64 tc
  | .tapSamplePreload _ _ env tc => env.wf && fits 64 tc
  | .tapExtest env tc => env.wf && fits 64 tc
  | .sprueDeparture _ _ _ what _ => what.wf
  | .superframeSend .. => true
  | .signalDetected _ tc => fits 64 tc
  | .resetNRelease env _ tc => env.wf && fits 64 tc
  | .hostLinkUp .. => true
  | .returnToD0 .. => true
  | .busMasterEnable .. => true
  | .pourStartTimeout tc => fits 64 tc
  | .flushAckTimeout _ tc => fits 64 tc
  | .tamperSensorDeassert .. => true
  | .pldmFirmwareData data _ _ env => dataOk data && env.wf

end Sys2Proof
end

