-- ==== Sys2Proof/Config.lean ====
section
/-! DEFINITION. The free values of the model: constants with no body, so that a claim about them holds whatever they
are. Each stands where the spec gives an effect and leaves one value open. -/
namespace Sys2Proof.Config

/-- The n-th value that the spec leaves open where it states the effect and not the value; applied to the counter of
draws in State (log entry 3). -/
opaque freeNat : Nat → Nat

/-- Which of two zeros of opposite sign a minimum (`false`) or maximum (`true`) returns: R98 calls them equal and no rule
names the one returned (log entry 7). `true` picks the first operand. -/
opaque zeroPick : Bool → Bool

/-- The direction of LSHIFT, which R220 names without one (log entry 8): `true` moves values to higher lanes. -/
opaque lshiftUp : Bool

/-- Byte `i` of a 64-byte unit decrypted with a weight key (R656): the key by its count of loading, the tweak, the stored bytes.
AES-256-XTS and the key itself, which never leaves Saffron (R645), are left uninterpreted (log entry 41). -/
opaque weightByte : Nat → Nat → List (BitVec 8) → Nat → BitVec 8

/-- SHA-384 of a byte string, as a number, left uninterpreted (R648, log entry 41). -/
opaque sha384 : List (BitVec 8) → Nat

/-- The release public key of the n-th drawing, its 97 bytes as a number (R644, R648, log entry 41). -/
opaque releasePoint : Nat → Nat

/-- Osinaund's JEDEC manufacturer identity, IDCODE[11:1] (R703), which the spec does not number (log entry 5). -/
opaque jedecId : Nat

end Sys2Proof.Config
end

