-- ==== Sys2Proof/Machine/Numerics.lean ====
section
/-! DEFINITION. Numbers: the formats of R96 and R97, exact dyadic arithmetic, the one rounding of R105, the conversions
of R106 to R108, and the correctly rounded special functions of R184. Everything is exact integer arithmetic. -/
namespace Sys2Proof.Machine

/-- A number as arithmetic sees it: a finite value `(-1)^neg × mant × 2^exp` (the sign of zero kept), an infinity, or
NaN (R96, R98, R99). -/
inductive Num where
  | fin (neg : Bool) (mant : Nat) (exp : Int)
  | inf (neg : Bool)
  | nan
  deriving DecidableEq, Repr

/-- How a floating-point format spells infinities and NaNs (R96). -/
inductive Specials where
  | none | nanOnly | ieee
  deriving DecidableEq, Repr

/-- A floating-point format: exponent width, mantissa width, bias, special encodings (R96). -/
structure FloatFmt where
  eb : Nat
  mb : Nat
  bias : Nat
  sp : Specials
  deriving DecidableEq, Repr

/-- FP32, the accumulator and vector-unit format. -/
def fp32 : FloatFmt := ⟨8, 23, 127, .ieee⟩

/-- The floating-point format of a format code (R133), MX codes giving their element format; none for integer codes. -/
def floatFmt : Nat → Option FloatFmt
  | 0x00 => some ⟨2, 1, 1, .none⟩
  | 0x01 => some ⟨2, 3, 1, .none⟩
  | 0x02 => some ⟨3, 2, 3, .none⟩
  | 0x03 => some ⟨4, 3, 7, .nanOnly⟩
  | 0x04 => some ⟨5, 2, 15, .ieee⟩
  | 0x05 => some ⟨8, 7, 127, .ieee⟩
  | 0x06 => some ⟨5, 10, 15, .ieee⟩
  | 0x09 => some ⟨4, 3, 7, .nanOnly⟩
  | 0x0A => some ⟨5, 2, 15, .ieee⟩
  | 0x0B => some ⟨2, 3, 1, .none⟩
  | 0x0C => some ⟨3, 2, 3, .none⟩
  | 0x0D => some ⟨2, 1, 1, .none⟩
  | 0x0F => some fp32
  | _ => none

/-- Bits per element of a format code (R96, R97, R101); 0 for a reserved code. -/
def fmtBits : Nat → Nat
  | 0x00 => 4 | 0x01 => 6 | 0x02 => 6 | 0x03 => 8 | 0x04 => 8 | 0x05 => 16 | 0x06 => 16 | 0x07 => 8 | 0x08 => 4
  | 0x09 => 8 | 0x0A => 8 | 0x0B => 6 | 0x0C => 6 | 0x0D => 4 | 0x0E => 8 | 0x0F => 32 | 0x10 => 32
  | _ => 0

/-- The code names an MX format (R133). -/
def isMx (c : Nat) : Bool := decide (0x09 ≤ c) && decide (c ≤ 0x0E)

/-- The code names INT8, INT4 or INT32. -/
def isInt (c : Nat) : Bool := c == 0x07 || c == 0x08 || c == 0x10

/-- The encoding of the largest finite magnitude (R96). -/
def FloatFmt.maxFinite (f : FloatFmt) : Nat := match f.sp with
  | .ieee => (2 ^ f.eb - 2) * 2 ^ f.mb + (2 ^ f.mb - 1)
  | .nanOnly => 2 ^ (f.eb + f.mb) - 2
  | .none => 2 ^ (f.eb + f.mb) - 1

/-- The canonical NaN (R99). -/
def FloatFmt.canonNaN (f : FloatFmt) : Nat := match f.sp with
  | .ieee => (2 ^ f.eb - 1) * 2 ^ f.mb + 2 ^ (f.mb - 1)
  | .nanOnly => 2 ^ (f.eb + f.mb) - 1
  | .none => 0

/-- Decode an encoding (R96). -/
def FloatFmt.decode (f : FloatFmt) (v : Nat) : Num :=
  let neg := bitOf v (f.eb + f.mb)
  let e := bitsOf v f.mb f.eb
  let m := bitsOf v 0 f.mb
  let special := match f.sp with
    | .ieee => e == 2 ^ f.eb - 1
    | .nanOnly => e == 2 ^ f.eb - 1 && m == 2 ^ f.mb - 1
    | .none => false
  if special then
    (if f.sp == .ieee && m == 0 then .inf neg else .nan)
  else if e = 0 then .fin neg m (1 - (f.bias : Int) - f.mb)
  else .fin neg (2 ^ f.mb + m) ((e : Int) - f.bias - f.mb)

/-- A two's-complement field as an integer (R97). -/
def toInt (w v : Nat) : Int := if v % 2 ^ w ≥ 2 ^ (w - 1) then (v % 2 ^ w : Int) - 2 ^ w else (v % 2 ^ w : Nat)

/-- An integer as a two's-complement field. -/
def ofInt (w : Nat) (i : Int) : Nat := (i % (2 ^ w : Int)).toNat

/-- An integer as a number. -/
def numOfInt (i : Int) : Num := .fin (decide (i < 0)) i.natAbs 0

/-- Decode an element of a format code: floating point, integer, or MXINT8 as `i × 2^-6` (R102). -/
def decodeElem (c v : Nat) : Num :=
  match floatFmt c with
  | some f => f.decode v
  | none =>
    if c = 0x0E then
      let i := toInt 8 v
      .fin (decide (i < 0)) i.natAbs (-6)
    else numOfInt (toInt (fmtBits c) v)

/-! ### Exact arithmetic -/

/-- A dyadic rational `num × 2^exp`. -/
structure Dy where
  num : Int
  exp : Int
  deriving DecidableEq, Repr

/-- The exact sum. -/
def Dy.add (a b : Dy) : Dy :=
  if a.exp ≤ b.exp then ⟨a.num + b.num * 2 ^ (b.exp - a.exp).toNat, a.exp⟩
  else ⟨a.num * 2 ^ (a.exp - b.exp).toNat + b.num, b.exp⟩

/-- The exact product. -/
def Dy.mul (a b : Dy) : Dy := ⟨a.num * b.num, a.exp + b.exp⟩

/-- Compare two dyadics. -/
def Dy.lt (a b : Dy) : Bool := decide ((Dy.add a ⟨-b.num, b.exp⟩).num < 0)

/-- The dyadic of a finite number. -/
def Num.dy : Num → Dy
  | .fin neg m e => ⟨if neg then -(m : Int) else m, e⟩
  | _ => ⟨0, 0⟩

/-- Round a magnitude `a × 2^e` to nearest, ties to even, on a grid of step `2^q` (R105): the multiple of the step. -/
def rneAt (a : Nat) (e q : Int) : Nat :=
  if q ≤ e then a * 2 ^ (e - q).toNat
  else
    let d := (q - e).toNat
    let n := a / 2 ^ d
    let r := a % 2 ^ d
    if r * 2 > 2 ^ d ∨ (r * 2 = 2 ^ d ∧ n % 2 = 1) then n + 1 else n

/-- The position of the leading bit of `a × 2^e`, for `a` not zero. -/
def msbExp (a : Nat) (e : Int) : Int := (Nat.log2 a : Int) + e

/-- Round a magnitude to a format's mantissa width, its subnormal grid below the smallest normal and an unbounded
exponent above (R106): the mantissa integer and its exponent. -/
def FloatFmt.roundMag (f : FloatFmt) (a : Nat) (e : Int) : Nat × Int :=
  let q := max (msbExp a e - f.mb) (1 - (f.bias : Int) - f.mb)
  (rneAt a e q, q)

/-- The encoding, without sign, of a magnitude already on the format's grid. -/
def FloatFmt.encMag (f : FloatFmt) (n : Nat) (q : Int) : Nat :=
  if n = 0 then 0
  else
    let top := msbExp n q
    let e := top + f.bias
    if e < 1 then n * 2 ^ (q - (1 - (f.bias : Int) - f.mb)).toNat
    else
      let m := n * 2 ^ (q - (top - f.mb)).toNat / 2 ^ ((top - f.mb) - q).toNat
      e.toNat * 2 ^ f.mb + (m - 2 ^ f.mb)

/-- The sign bit of an encoding. -/
def FloatFmt.signed (f : FloatFmt) (neg : Bool) (v : Nat) : Nat := if neg then v + 2 ^ (f.eb + f.mb) else v

/-- A rounded magnitude exceeds the largest finite value (R106). -/
def FloatFmt.overflows (f : FloatFmt) (n : Nat) (q : Int) : Bool :=
  match f.decode f.maxFinite with
  | .fin _ m e => Dy.lt ⟨m, e⟩ ⟨n, q⟩
  | _ => false

end Sys2Proof.Machine
end

