-- ==== Sys2Proof/Machine/Flags.lean ====
section
/-! DEFINITION. Tile flags (R116) and every computation that sets them: conversions (R106, R107), accumulator and chain
updates (R111 to R114, R120), MX quantisation (R104), vector-unit arithmetic (R182) and the special functions (R184). -/
namespace Sys2Proof.Machine

/-- The tile flags, in the bit order of the tile metadata (R116, R150). -/
structure Flags where
  ovf : Bool
  nan : Bool
  inf : Bool
  csat : Bool
  poison : Bool
  deriving DecidableEq, Repr

namespace Flags

/-- No flag. -/
def none : Flags := ⟨false, false, false, false, false⟩
/-- The flags of either (R116). -/
def or (a b : Flags) : Flags :=
  ⟨a.ovf || b.ovf, a.nan || b.nan, a.inf || b.inf, a.csat || b.csat, a.poison || b.poison⟩
/-- Bits [4:0] of a tile metadata entry. -/
def bits (f : Flags) : Nat := b2n f.ovf + 2 * b2n f.nan + 4 * b2n f.inf + 8 * b2n f.csat + 16 * b2n f.poison
/-- The flags of bits [4:0]. -/
def ofBits (v : Nat) : Flags := ⟨bitOf v 0, bitOf v 1, bitOf v 2, bitOf v 3, bitOf v 4⟩
/-- OVF alone. -/
def justOvf : Flags := { none with ovf := true }
/-- NAN alone. -/
def justNan : Flags := { none with nan := true }
/-- INF alone. -/
def justInf : Flags := { none with inf := true }
/-- CSAT alone. -/
def justCsat : Flags := { none with csat := true }
/-- POISON when set. -/
def poisonIf (b : Bool) : Flags := { none with poison := b }

end Flags

/-! ### Conversion (R105 to R108) -/

/-- Convert a number to a floating-point format; `nonsat` is the conversion mode of R107. -/
def FloatFmt.convert (f : FloatFmt) (nonsat : Bool) : Num → Nat × Flags
  | .nan => match f.sp with
    | .none => (0, Flags.justNan)
    | _ => (f.canonNaN, Flags.justNan)
  | .inf neg => match f.sp, nonsat with
    | .ieee, true => (f.signed neg ((2 ^ f.eb - 1) * 2 ^ f.mb), Flags.justInf)
    | .nanOnly, true => (f.canonNaN, Flags.justNan)
    | _, _ => (f.signed neg f.maxFinite, Flags.justCsat)
  | .fin neg a e =>
    if a = 0 then (f.signed neg 0, Flags.none)
    else
      let (n, q) := f.roundMag a e
      if f.overflows n q then
        match f.sp, nonsat with
        | .ieee, true => (f.signed neg ((2 ^ f.eb - 1) * 2 ^ f.mb), Flags.justInf)
        | .nanOnly, true => (f.canonNaN, Flags.justNan)
        | _, _ => (f.signed neg f.maxFinite, Flags.justCsat)
      else (f.signed neg (f.encMag n q), Flags.none)

/-- Saturate an integer to a two's-complement width. -/
def satInt (w : Nat) (i : Int) : Int × Bool :=
  if i > 2 ^ (w - 1) - 1 then (2 ^ (w - 1) - 1, true)
  else if i < -(2 ^ (w - 1)) then (-(2 ^ (w - 1)), true)
  else (i, false)

/-- Convert a number to an integer format: rounded, then saturated (R107). -/
def convertInt (w : Nat) : Num → Nat × Flags
  | .nan => (0, Flags.justNan)
  | .inf neg => (ofInt w (if neg then -(2 ^ (w - 1)) else 2 ^ (w - 1) - 1), Flags.justCsat)
  | .fin neg a e =>
    let n := rneAt a e 0
    let (v, s) := satInt w (if neg then -(n : Int) else n)
    (ofInt w v, if s then Flags.justCsat else Flags.none)

/-- Convert a number to a format code, not MX (R107). -/
def convertTo (c : Nat) (nonsat : Bool) (x : Num) : Nat × Flags :=
  match floatFmt c with
  | some f => f.convert nonsat x
  | none => convertInt (fmtBits c) x

/-- An FP32 encoding as a number. -/
def f32 (v : Nat) : Num := fp32.decode v

/-- The FP32 encoding of an exact dyadic, rounded once, overflow going to infinity (vector-unit arithmetic, R182); a
zero result takes the sign given. -/
def f32Inf (zneg : Bool) (d : Dy) : Nat × Flags :=
  if d.num = 0 then (fp32.signed zneg 0, Flags.none)
  else fp32.convert true (.fin (decide (d.num < 0)) d.num.natAbs d.exp)

/-! ### Groups and accumulators (R109 to R114) -/

/-- A group's exact result (R111). -/
inductive Grp where
  | fin (d : Dy)
  | inf (neg : Bool)
  | nan
  deriving DecidableEq, Repr

/-- The sum of two group results; opposite infinities give NaN (R113). -/
def Grp.add : Grp → Grp → Grp
  | .nan, _ => .nan
  | _, .nan => .nan
  | .inf a, .inf b => if a = b then .inf a else .nan
  | .inf a, .fin _ => .inf a
  | .fin _, .inf b => .inf b
  | .fin a, .fin b => .fin (a.add b)

/-- The exact product of two elements; zero times infinity is NaN (R112). -/
def Num.prod : Num → Num → Grp
  | .nan, _ => .nan
  | _, .nan => .nan
  | .inf a, .inf b => .inf (xor a b)
  | .inf a, .fin b m _ => if m = 0 then .nan else .inf (xor a b)
  | .fin a m _, .inf b => if m = 0 then .nan else .inf (xor a b)
  | a@(.fin _ _ _), b@(.fin _ _ _) => .fin (a.dy.mul b.dy)

/-- The exact sum of a group's products (R111 step 1 and 2). -/
def grpSum : List (Num × Num) → Grp
  | [] => .fin ⟨0, 0⟩
  | (a, b) :: t => (Num.prod a b).add (grpSum t)

/-- Multiply a group result by a power of two (R111 step 2). -/
def Grp.scale (k : Int) : Grp → Grp
  | .fin d => .fin ⟨d.num, d.exp + k⟩
  | g => g

/-- An FP32 sum by finite operands, saturating with OVF (R114); an exact zero is +0. -/
def f32Sat (d : Dy) : Nat × Flags :=
  if d.num = 0 then (0, Flags.none)
  else
    let (v, fl) := fp32.convert false (.fin (decide (d.num < 0)) d.num.natAbs d.exp)
    (v, if fl.csat then Flags.justOvf else Flags.none)

/-- An FP32 sum that an update leaves as it is: INF where it is infinite (R116). -/
def accKeep (acc : Nat) : Nat × Flags := (acc, if (match f32 acc with | .inf _ => true | _ => false) then Flags.justInf else Flags.none)

/-- Add a group result to an FP32 accumulator (R111 step 3, R112, R113, R114, R120). -/
def accAdd (acc : Nat) (g : Grp) : Nat × Flags :=
  match f32 acc with
  | .nan => (fp32.canonNaN, Flags.none)
  | a =>
    match g with
    | .nan => (fp32.canonNaN, Flags.justNan)
    | .inf neg =>
      match a with
      | .inf an => if an = neg then accKeep acc else (fp32.canonNaN, Flags.justNan)
      | _ => (fp32.signed neg ((2 ^ fp32.eb - 1) * 2 ^ fp32.mb), Flags.justInf)
    | .fin d =>
      if d.num = 0 then accKeep acc
      else match a with
        | .inf _ => accKeep acc
        | _ => f32Sat (a.dy.add d)

/-- Add an exact integer to an INT32 accumulator (R114). -/
def accAddInt (acc : Nat) (i : Int) : Nat × Flags :=
  let (v, s) := satInt 32 (toInt 32 acc + i)
  (ofInt 32 v, if s then Flags.justOvf else Flags.none)

/-- A chain link over FP32 partials (R120): a zero partial leaves the running sum unchanged. -/
def chainAdd (running part : Nat) : Nat × Flags :=
  match f32 part with
  | .nan => match f32 running with
    | .nan => (fp32.canonNaN, Flags.none)
    | _ => (fp32.canonNaN, Flags.justNan)
  | .inf n => accAdd running (.inf n)
  | x => accAdd running (.fin x.dy)

/-! ### MX quantisation (R104) -/

/-- `emax` of an MX element format (R104 step 3). -/
def mxEmax : Nat → Int
  | 0x09 => 8 | 0x0A => 15 | 0x0B => 2 | 0x0C => 4 | 0x0D => 2 | _ => 0

/-- The largest magnitude's leading-bit position among finite values; none when all are zero. -/
def amaxExp : List Num → Option Int
  | [] => none
  | x :: t =>
    match x, amaxExp t with
    | .fin _ m e, r =>
      if m = 0 then r else match r with
        | none => some (msbExp m e)
        | some q => some (max q (msbExp m e))
    | _, r => r

/-- Quantise a block of FP32 values: the scale byte, the elements, and NAN (R104). -/
def mxQuant (c : Nat) (xs : List Num) : Nat × List Nat × Flags :=
  if xs.any (fun x => match x with | .fin _ _ _ => false | _ => true) then
    (0xFF, xs.map (fun _ => 0), Flags.justNan)
  else
    let enc : Num → Nat := fun x =>
      match floatFmt c with
      | some f => (f.convert false x).1
      | none => match x with
        | .fin n m e => (convertInt 8 (.fin n m (e + 6))).1
        | _ => 0
    match amaxExp xs with
    | none => (0x00, xs.map enc, Flags.none)
    | some q =>
      let e := max (-127) (min 127 (q - mxEmax c))
      ((e + 127).toNat,
        xs.map (fun x => match x with
          | .fin n m ex => enc (.fin n m (ex - e))
          | y => enc y), Flags.none)

/-! ### Special functions: fixed-point evaluation with 320 fraction bits, then one rounding (R184) -/

/-- The fraction bits of the fixed-point evaluations. DEDUCED: wide enough that the one rounding of R184 falls as the
exact value's does (log entry 6). -/
def fxBits : Nat := 320

/-- Sum of `r^k / k!` for `n` further terms, in fixed point. -/
def expSeries (r : Int) : Nat → Nat → Int → Int
  | 0, _, _ => 0
  | n + 1, k, term => term + expSeries r n (k + 1) (term * r / 2 ^ fxBits / (k + 1 : Nat))

/-- e^r for |r| ≤ 1, in fixed point. -/
def expFx (r : Int) : Int := expSeries r 90 0 (2 ^ fxBits)

/-- Sum of `z^(2k+1) / (2k+1)` for `n` further terms, in fixed point. -/
def atanhSeries (z2 : Int) : Nat → Nat → Int → Int
  | 0, _, _ => 0
  | n + 1, k, p => p / (2 * k + 1 : Nat) + atanhSeries z2 n (k + 1) (p * z2 / 2 ^ fxBits)

/-- ln 2 in fixed point: 2 artanh(1/3). -/
def ln2Fx : Int := 2 * atanhSeries (2 ^ fxBits / 9) 110 0 (2 ^ fxBits / 3)

/-- A dyadic in fixed point (exact when its exponent is at least −320). -/
def toFx (d : Dy) : Int :=
  if 0 ≤ d.exp + fxBits then d.num * 2 ^ (d.exp + fxBits).toNat else d.num / 2 ^ (-(d.exp + fxBits)).toNat

/-- e^x of a fixed-point x, as a dyadic. -/
def expDy (x : Int) : Dy :=
  let n := x / ln2Fx
  ⟨expFx (x - n * ln2Fx), n - fxBits⟩

/-- 2^x of a fixed-point x, as a dyadic; exact for an integer x. -/
def exp2Dy (x : Int) : Dy :=
  let n := x / 2 ^ fxBits
  let fr := x - n * 2 ^ fxBits
  if fr = 0 then ⟨1, n⟩ else ⟨expFx (fr * ln2Fx / 2 ^ fxBits), n - fxBits⟩

/-- ln of a positive magnitude `a × 2^e`, in fixed point, as (exponent part, ln of the mantissa in [2/3, 4/3]). -/
def lnParts (a : Nat) (e : Int) : Int × Int :=
  let k := msbExp a e
  let m : Int := toFx ⟨a, e - k⟩
  let (k, m) := if 3 * m > 4 * 2 ^ fxBits then (k + 1, m / 2) else (k, m)
  let z := (m - 2 ^ fxBits) * 2 ^ fxBits / (m + 2 ^ fxBits)
  (k, 2 * atanhSeries (z * z / 2 ^ fxBits) 200 0 z)

/-- The quotient of two dyadics with a sticky last bit, sign positive operands assumed by the caller's signs. -/
def divDy (a b : Dy) : Dy :=
  let na := a.num.natAbs * 2 ^ fxBits
  let q := na / b.num.natAbs
  let s := if na % b.num.natAbs = 0 then 2 * q else 2 * q + 1
  ⟨if (decide (a.num < 0)) = (decide (b.num < 0)) then s else -(s : Int), a.exp - b.exp - fxBits - 1⟩

/-- The integer square root by bisection on its bits. -/
def isqrtGo (n : Nat) : Nat → Nat → Nat
  | 0, r => r
  | b + 1, r => let t := r + 2 ^ b; isqrtGo n b (if t * t ≤ n then t else r)

/-- The square root of a positive magnitude, with a sticky last bit. -/
def sqrtDy (a : Nat) (e : Int) : Dy :=
  let e' := if e % 2 = 0 then e else e - 1
  let a' := (if e % 2 = 0 then a else a * 2) * 2 ^ (2 * 64)
  let r := isqrtGo a' (Nat.log2 a' / 2 + 1) 0
  ⟨if r * r = a' then 2 * r else 2 * r + 1, e' / 2 - 64 - 1⟩

/-- Round a positive or negative exact-or-sticky dyadic to FP32, overflow to infinity with INF. -/
def spRound (d : Dy) : Nat × Flags := f32Inf false d

/-- +∞, −∞ and 1 as FP32. -/
def f32PosInf : Nat := 0x7F800000
def f32NegInf : Nat := 0xFF800000
def f32One : Nat := 0x3F800000

/-- The canonical NaN with NAN set (R99, R184). -/
def spNan : Nat × Flags := (fp32.canonNaN, Flags.justNan)

/-- e^d for an exact finite dyadic d. -/
def expOf (d : Dy) : Nat × Flags :=
  if Dy.lt ⟨90, 0⟩ d then (f32PosInf, Flags.justInf)
  else if Dy.lt d ⟨-150, 0⟩ then (0, Flags.none)
  else if d.num = 0 then (f32One, Flags.none)
  else spRound (expDy (toFx d))

/-- EXP (R184). -/
def spExp : Num → Nat × Flags
  | .nan => spNan
  | .inf neg => if neg then (0, Flags.none) else (f32PosInf, Flags.none)
  | x => expOf x.dy

/-- EXP2 (R184). -/
def spExp2 : Num → Nat × Flags
  | .nan => spNan
  | .inf neg => if neg then (0, Flags.none) else (f32PosInf, Flags.none)
  | x =>
    let d := x.dy
    if Dy.lt ⟨129, 0⟩ d then (f32PosInf, Flags.justInf)
    else if Dy.lt d ⟨-151, 0⟩ then (0, Flags.none)
    else spRound (exp2Dy (toFx d))

/-- EXPD(x, s) = exp(x − s) (R184). -/
def spExpd : Num → Num → Nat × Flags
  | .nan, _ => spNan
  | _, .nan => spNan
  | .inf a, .inf b => if a = b then spNan else if a then (0, Flags.none) else (f32PosInf, Flags.none)
  | .inf a, _ => if a then (0, Flags.none) else (f32PosInf, Flags.none)
  | _, .inf b => if b then (f32PosInf, Flags.none) else (0, Flags.none)
  | x, s => expOf (x.dy.add ⟨-s.dy.num, s.dy.exp⟩)

/-- LOG2 and LOGE (R184). -/
def spLog (base2 : Bool) : Num → Nat × Flags
  | .nan => spNan
  | .inf neg => if neg then spNan else (f32PosInf, Flags.none)
  | .fin neg m e =>
    if m = 0 then (f32NegInf, Flags.justInf)
    else if neg then spNan
    else
      let (k, l) := lnParts m e
      if base2 then
        (if l = 0 then spRound ⟨k, 0⟩
         else spRound ⟨k * 2 ^ fxBits + l * 2 ^ fxBits / ln2Fx, -(fxBits : Int)⟩)
      else spRound ⟨k * ln2Fx + l, -(fxBits : Int)⟩

/-- RCP (R184). -/
def spRcp : Num → Nat × Flags
  | .nan => spNan
  | .inf neg => (fp32.signed neg 0, Flags.none)
  | .fin neg m e =>
    if m = 0 then (if neg then f32NegInf else f32PosInf, Flags.justInf)
    else spRound (divDy ⟨1, 0⟩ (Num.fin neg m e).dy)

/-- SQRT (R184). -/
def spSqrt : Num → Nat × Flags
  | .nan => spNan
  | .inf neg => if neg then spNan else (f32PosInf, Flags.none)
  | .fin neg m e =>
    if m = 0 then (fp32.signed neg 0, Flags.none)
    else if neg then spNan
    else spRound (sqrtDy m e)

/-- RSQRT (R184): the reciprocal square root through the square root of the exact reciprocal's numerator. -/
def spRsqrt : Num → Nat × Flags
  | .nan => spNan
  | .inf neg => if neg then spNan else (0, Flags.none)
  | .fin neg m e =>
    if m = 0 then (if neg then f32NegInf else f32PosInf, Flags.justInf)
    else if neg then spNan
    else
      let q := 2 ^ 400 / m
      let s := if 2 ^ 400 % m = 0 then q * 4 else q * 4 + 1
      spRound (sqrtDy s (-e - 402))

/-- TANH (R184). -/
def spTanh : Num → Nat × Flags
  | .nan => spNan
  | .inf neg => (fp32.signed neg f32One, Flags.none)
  | .fin neg m e =>
    let d := (Num.fin neg m e).dy
    if m = 0 then (fp32.signed neg 0, Flags.none)
    else if Dy.lt ⟨50, 0⟩ ⟨m, e⟩ then (fp32.signed neg f32One, Flags.none)
    else
      let x := expDy (2 * toFx d)
      let fx := toFx x
      spRound ⟨(fx - 2 ^ fxBits) * 2 ^ fxBits / (fx + 2 ^ fxBits), -(fxBits : Int)⟩

/-- 1 / (1 + e^−x) of a dyadic of moderate size, in fixed point with extra bits, as a dyadic. -/
def sigmoidDy (d : Dy) : Dy :=
  let ex := expDy (toFx ⟨d.num, d.exp⟩)
  let num := ex
  let den := ex.add ⟨1, 0⟩
  divDy num den

/-- SIGMOID (R184). -/
def spSigmoid : Num → Nat × Flags
  | .nan => spNan
  | .inf neg => if neg then (0, Flags.none) else (f32One, Flags.none)
  | x =>
    let d := x.dy
    if Dy.lt ⟨50, 0⟩ d then (f32One, Flags.none)
    else if Dy.lt d ⟨-200, 0⟩ then (0, Flags.none)
    else spRound (sigmoidDy d)

/-- SILU (R184). -/
def spSilu : Num → Nat × Flags
  | .nan => spNan
  | .inf neg => if neg then (fp32.signed true 0, Flags.none) else (f32PosInf, Flags.none)
  | .fin neg m e =>
    let d := (Num.fin neg m e).dy
    if m = 0 then (fp32.signed neg 0, Flags.none)
    else if Dy.lt ⟨50, 0⟩ d then spRound d
    else if Dy.lt d ⟨-300, 0⟩ then (fp32.signed true 0, Flags.none)
    else spRound (d.mul (sigmoidDy d))

/-! ### Vector-unit arithmetic on one lane (R182) -/

/-- FP32 add or subtract: one rounding, overflow to infinity (R182). -/
def vAdd (sub : Bool) (a b : Nat) : Nat × Flags :=
  let y := match f32 b with
    | .fin n m e => Num.fin (xor n sub) m e
    | .inf n => .inf (xor n sub)
    | .nan => .nan
  match f32 a, y with
  | .nan, _ => spNan
  | _, .nan => spNan
  | .inf p, .inf q => if p = q then (if p then f32NegInf else f32PosInf, Flags.justInf) else spNan
  | .inf p, _ => (if p then f32NegInf else f32PosInf, Flags.justInf)
  | _, .inf q => (if q then f32NegInf else f32PosInf, Flags.justInf)
  | x@(.fin n1 _ _), z@(.fin n2 _ _) => f32Inf (n1 && n2) (x.dy.add z.dy)

/-- FP32 multiply (R182). -/
def vMul (a b : Nat) : Nat × Flags :=
  match Num.prod (f32 a) (f32 b) with
  | .nan => spNan
  | .inf n => (if n then f32NegInf else f32PosInf, Flags.justInf)
  | .fin d => f32Inf (xor (bitOf a 31) (bitOf b 31)) d

/-- Fused multiply-add, rounded once (R182). -/
def vFma (a b c : Nat) : Nat × Flags :=
  match Num.prod (f32 a) (f32 b), f32 c with
  | .nan, _ => spNan
  | _, .nan => spNan
  | .inf p, .inf q => if p = q then (if p then f32NegInf else f32PosInf, Flags.justInf) else spNan
  | .inf p, _ => (if p then f32NegInf else f32PosInf, Flags.justInf)
  | _, .inf q => (if q then f32NegInf else f32PosInf, Flags.justInf)
  | .fin d, z@(.fin n _ _) => f32Inf ((xor (bitOf a 31) (bitOf b 31)) && n) (d.add z.dy)

/-- The numeric order of two numbers that are not NaN, both zeros equal (R98): less than. -/
def Num.lt : Num → Num → Bool
  | .nan, _ => false
  | _, .nan => false
  | .inf a, .inf b => a && !b
  | .inf a, _ => a
  | _, .inf b => !b
  | x, y => Dy.lt x.dy y.dy

/-- Equal as numbers, both zeros equal (R98); NaN equals nothing. -/
def Num.eqv (x y : Num) : Bool :=
  match x, y with
  | .nan, _ => false
  | _, .nan => false
  | _, _ => !(Num.lt x y) && !(Num.lt y x)

/-- Minimum or maximum; a NaN gives NaN with NAN (R121), an infinite result INF (R116). Of equal values the first is
returned, and of two zeros of opposite sign the one `Config.zeroPick` names. -/
def vMinMax (isMax : Bool) (a b : Nat) : Nat × Flags :=
  match f32 a, f32 b with
  | .nan, _ => spNan
  | _, .nan => spNan
  | x, y =>
    let second := if Num.eqv x y then a != b && !(Config.zeroPick isMax) else if isMax then Num.lt x y else Num.lt y x
    let r := if second then b else a
    (r, match f32 r with
      | .inf _ => Flags.justInf
      | _ => Flags.none)

/-- An FP32 result that carries a special through: NaN canonical with NAN, infinity with INF (R116). -/
def vSpecial (v : Nat) : Nat × Flags :=
  match f32 v with
  | .nan => spNan
  | .inf _ => (v, Flags.justInf)
  | _ => (v, Flags.none)

/-- Floor, ceiling (`up`) and truncate, the exact integral value; zero keeps its sign (R182). -/
def vIntegral (mode : Nat) (v : Nat) : Nat × Flags :=
  match f32 v with
  | .fin neg m e =>
    if e ≥ 0 ∨ m = 0 then (v, Flags.none)
    else
      let q := m / 2 ^ (-e).toNat
      let r := m % 2 ^ (-e).toNat
      let n := if r = 0 then q
        else match mode with
          | 0 => if neg then q + 1 else q
          | 1 => if neg then q else q + 1
          | _ => q
      fp32.convert true (.fin neg n 0)
  | _ => vSpecial v

end Sys2Proof.Machine
end

