-- ==== Sys2Proof/Machine/Map.lean ====
section
/-! DEFINITION. Sparse maps: lists of (key, value) pairs in one canonical form, keys strictly rising and no entry
equal to what an unlisted key reads as, so that equal maps are equal data. Memories, register fields and every indexed
unit of the module are held in them. -/
namespace Sys2Proof.Machine

/-- A sparse map from numbers; an unlisted key reads as the default its reader names. -/
abbrev NMap (α : Type) := List (Nat × α)

namespace NMap
variable {α : Type}

/-- The value at a key. -/
def get (d : α) : NMap α → Nat → α
  | [], _ => d
  | (a, v) :: t, k => if a = k then v else get d t k

/-- Insert before the first larger key. -/
def ins : NMap α → Nat → α → NMap α
  | [], k, v => [(k, v)]
  | (a, w) :: t, k, v => if k < a then (k, v) :: (a, w) :: t else (a, w) :: ins t k v

/-- Remove a key. -/
def del : NMap α → Nat → NMap α
  | [], _ => []
  | (a, w) :: t, k => if a = k then del t k else (a, w) :: del t k

/-- Write a key, keeping the canonical form: writing the default removes the entry. -/
def put [DecidableEq α] (d : α) (m : NMap α) (k : Nat) (v : α) : NMap α :=
  if v = d then del m k else ins (del m k) k v

/-- Change the value at a key. -/
def upd [DecidableEq α] (d : α) (m : NMap α) (k : Nat) (f : α → α) : NMap α :=
  put d m k (f (get d m k))

/-- Every key from `lo` up to but not including `hi` back to the default. -/
def clear : NMap α → Nat → Nat → NMap α
  | [], _, _ => []
  | (a, w) :: t, lo, hi => if lo ≤ a ∧ a < hi then clear t lo hi else (a, w) :: clear t lo hi

/-- Keys strictly rising. -/
def rising (m : NMap α) : Bool := decide (m.Pairwise (fun a b => a.1 < b.1))

/-- The canonical form: keys strictly rising, no value equal to the default. -/
def wf [DecidableEq α] (d : α) (m : NMap α) : Bool := m.rising && m.all (fun e => decide (e.2 ≠ d))

end NMap

/-! Sets of numbers, held as strictly rising lists. -/
namespace NSet

/-- Membership. -/
def mem (s : List Nat) (k : Nat) : Bool := s.elem k

/-- Add a member, keeping the order. -/
def add : List Nat → Nat → List Nat
  | [], k => [k]
  | a :: t, k => if k = a then a :: t else if k < a then k :: a :: t else a :: add t k

/-- Remove a member. -/
def del (s : List Nat) (k : Nat) : List Nat := s.filter (fun a => a != k)

/-- Remove every member from `lo` up to but not including `hi`. -/
def clear (s : List Nat) (lo hi : Nat) : List Nat := s.filter (fun a => !(decide (lo ≤ a) && decide (a < hi)))

/-- Add or remove. -/
def set (s : List Nat) (k : Nat) (b : Bool) : List Nat := if b then add s k else del s k

/-- The canonical form: members strictly rising. -/
def wf (s : List Nat) : Bool := decide (s.Pairwise (fun a b => a < b))

end NSet

/-! Byte memories: lists of `Host.Cell`, an unlisted address reading 0. -/
namespace Mem

/-- One byte. -/
def rd (m : List Host.Cell) (a : Nat) : Byte := NMap.get 0 m a

/-- Store one byte. -/
def wr (m : List Host.Cell) (a : Nat) (b : Byte) : List Host.Cell := NMap.put 0 m a b

/-- `n` bytes from an address, ascending. -/
def rdN (m : List Host.Cell) (a : Nat) : Nat → List Byte
  | 0 => []
  | n + 1 => rd m a :: rdN m (a + 1) n

/-- Store a byte string from an address, ascending. -/
def wrN (m : List Host.Cell) (a : Nat) : List Byte → List Host.Cell
  | [] => m
  | b :: bs => wrN (wr m a b) (a + 1) bs

end Mem

/-- The canonical form of a memory: addresses strictly rising and no entry equal to 0, which an unlisted address reads as. -/
def Memory.wf (m : List Host.Cell) : Bool := NMap.wf 0 m

end Sys2Proof.Machine
end

