-- ==== Sys2Proof/Machine/Regs.lean ====
section
/-! DEFINITION. The register map: every register of the module under its own name, its place (R52, R53, R457) and its
fields with their types and reset values, as the register tables of the spec give them (R16, R17). -/
namespace Sys2Proof.Machine

/-- Every register, named as the spec names it. -/
inductive Reg where
  | MOD_ID
  | MOD_GRID_STAT
  | MOD_POUR_ID
  | MOD_ROW_MAP_r
  | MOD_FA_FAULT_ADDR
  | MOD_FA_FAULT_INFO
  | MOD_APERTURE_CTL
  | CLU_ID
  | CLU_CORES
  | CLU_THERM
  | CLU_VENT
  | TC_NOW
  | TC_ALIGN_STAT
  | TC_FRAME
  | TC_FRAME_TC
  | CLK_PSTEP
  | CLK_ARM_TARGET
  | CLK_ARM
  | CLK_CHG_STAT
  | CLK_STOP_STAT
  | ME_CAP
  | ME_CTL
  | ME_STAT
  | ME_FLAGS
  | ME_TILES
  | ME_GATED
  | ME_STALL
  | ME_ERR
  | ME_HASH
  | ME_LAST_TAG
  | SE_STAT
  | SE_FLAGS
  | SE_TILES
  | SE_SKIPPED
  | SE_STALL
  | SE_ERR
  | SE_HASH
  | VU_STAT
  | VU_FLAGS
  | VU_ERR
  | VU_SAMP_COUNT
  | VU_SAMP_LAST
  | VU_SAMP_STALL
  | CORE_STAT
  | CORE_SEQ
  | CORE_SC
  | CORE_MOULD
  | CORE_SEQ_ERR
  | CORE_QSTAT
  | SPD_STAT
  | SPD_ECC
  | SPD_ECC_ADDR
  | SPD_CONFLICT
  | SPD_SCRUB_CTL
  | SPD_SCRUB_STAT
  | SPD_ELASTIC
  | CCH_PART
  | CCH_HITS
  | CCH_MISSES
  | CCH_PF
  | CCH_ECC
  | CCH_HBM
  | CCH_HBM_ERR
  | LDL_CTL
  | LDL_STAT
  | LDL_ERR
  | LDL_FLAGS
  | LDL_CTX_n
  | LDL_CTXW_n
  | LDL_SECTORS
  | LDL_CLAMP
  | SPR_STAT
  | SPR_SLIP
  | SPR_SLIP_INFO
  | SPR_ERR
  | SPR_ELASTIC
  | VNT_STAT
  | VNT_ERR
  | RUN_STAT
  | RUN_DELAY
  | RUN_FEC
  | RUN_LANE_l
  | RUN_SCHED
  | RUN_ERR
  | RUN_ELASTIC
  | QUEUE_DB
  | QUEUE_BASE
  | QUEUE_CTL
  | QUEUE_STAT
  | QUEUE_WM
  | QUEUE_LEVEL
  | MOD_EVR_HEAD_n
  | MOD_EVR_TAIL_n
  | MOD_HOST_STAT_p
  | MOD_HOST_ERR_p
  | MOD_MB_SUMMARY
  | PWR_INPUT
  | PWR_CAP
  | PWR_BUDGET
  | PWR_VMIN_CTL
  | PWR_VMIN_STAT
  | PWR_SLEW
  | PWR_THERM
  | PWR_RISER_LEAD
  | PWR_CLUSTER_c
  | PWR_ENERGY_n
  | PWR_TILE_t
  | PWR_TELEM_IN_p
  | PST_STAT
  | PST_CTL
  | PST_WAKE_EN
  | PST_WAKE_STAT
  | PST_WAKE_REQ
  | PST_TICKS
  | PST_TIMER
  | PST_PAD_HOLD
  | PST_RAMP
  | PST_STAT_TICK_TC0
  | PST_CORE_PWR_r
  | MOD_BOOT_STAT
  | MOD_BOOT_ERR
  | MOD_RESET_STAT
  | MOD_PORT_BOOT
  | MOD_FLASH_INFO
  | PEP_CTL
  | PEP_SEED
  | PEP_STAT
  | PEP_RESOLVE
  | PEP_LAST
  | PEP_SWEEP
  | MOD_FAULT_CTL
  | MOD_FAULT_STAT
  | SAF_STAT
  | SAF_SLOT_ROLE
  | SAF_SLOT_FLASK
  | SAF_TAMPER
  | SAF_SECONDS
  | SAF_KEYS
  | SAF_ERR
  | DBG_STAT
  | DBG_HOLD
  | DBG_BP_MATCH_n
  | DBG_BP_LIMIT_n
  | DBG_BP_CTL_n
  | DBG_BP_HIT_n
  | MOD_LIFE
  deriving DecidableEq, Repr

/-- How a field answers reads and writes (R17). -/
inductive FTy where
  | ro | rw | w1c | w1s | wo | rc
  deriving DecidableEq, Repr

/-- A register field: its register, its lowest bit, its width, its type and its reset value. Reserved bits are no field:
they read 0 and ignore writes (R17, R18). -/
structure Fld where
  reg : Reg
  lo : Nat
  len : Nat
  ty : FTy
  reset : Nat
  deriving DecidableEq, Repr

/-- A register's position in the enumeration. -/
def Reg.ix : Reg → Nat
  | .MOD_ID => 0
  | .MOD_GRID_STAT => 1
  | .MOD_POUR_ID => 2
  | .MOD_ROW_MAP_r => 3
  | .MOD_FA_FAULT_ADDR => 4
  | .MOD_FA_FAULT_INFO => 5
  | .MOD_APERTURE_CTL => 6
  | .CLU_ID => 7
  | .CLU_CORES => 8
  | .CLU_THERM => 9
  | .CLU_VENT => 10
  | .TC_NOW => 11
  | .TC_ALIGN_STAT => 12
  | .TC_FRAME => 13
  | .TC_FRAME_TC => 14
  | .CLK_PSTEP => 15
  | .CLK_ARM_TARGET => 16
  | .CLK_ARM => 17
  | .CLK_CHG_STAT => 18
  | .CLK_STOP_STAT => 19
  | .ME_CAP => 20
  | .ME_CTL => 21
  | .ME_STAT => 22
  | .ME_FLAGS => 23
  | .ME_TILES => 24
  | .ME_GATED => 25
  | .ME_STALL => 26
  | .ME_ERR => 27
  | .ME_HASH => 28
  | .ME_LAST_TAG => 29
  | .SE_STAT => 30
  | .SE_FLAGS => 31
  | .SE_TILES => 32
  | .SE_SKIPPED => 33
  | .SE_STALL => 34
  | .SE_ERR => 35
  | .SE_HASH => 36
  | .VU_STAT => 37
  | .VU_FLAGS => 38
  | .VU_ERR => 39
  | .VU_SAMP_COUNT => 40
  | .VU_SAMP_LAST => 41
  | .VU_SAMP_STALL => 42
  | .CORE_STAT => 43
  | .CORE_SEQ => 44
  | .CORE_SC => 45
  | .CORE_MOULD => 46
  | .CORE_SEQ_ERR => 47
  | .CORE_QSTAT => 48
  | .SPD_STAT => 49
  | .SPD_ECC => 50
  | .SPD_ECC_ADDR => 51
  | .SPD_CONFLICT => 52
  | .SPD_SCRUB_CTL => 53
  | .SPD_SCRUB_STAT => 54
  | .SPD_ELASTIC => 55
  | .CCH_PART => 56
  | .CCH_HITS => 57
  | .CCH_MISSES => 58
  | .CCH_PF => 59
  | .CCH_ECC => 60
  | .CCH_HBM => 61
  | .CCH_HBM_ERR => 62
  | .LDL_CTL => 63
  | .LDL_STAT => 64
  | .LDL_ERR => 65
  | .LDL_FLAGS => 66
  | .LDL_CTX_n => 67
  | .LDL_CTXW_n => 68
  | .LDL_SECTORS => 69
  | .LDL_CLAMP => 70
  | .SPR_STAT => 71
  | .SPR_SLIP => 72
  | .SPR_SLIP_INFO => 73
  | .SPR_ERR => 74
  | .SPR_ELASTIC => 75
  | .VNT_STAT => 76
  | .VNT_ERR => 77
  | .RUN_STAT => 78
  | .RUN_DELAY => 79
  | .RUN_FEC => 80
  | .RUN_LANE_l => 81
  | .RUN_SCHED => 82
  | .RUN_ERR => 83
  | .RUN_ELASTIC => 84
  | .QUEUE_DB => 85
  | .QUEUE_BASE => 86
  | .QUEUE_CTL => 87
  | .QUEUE_STAT => 88
  | .QUEUE_WM => 89
  | .QUEUE_LEVEL => 90
  | .MOD_EVR_HEAD_n => 91
  | .MOD_EVR_TAIL_n => 92
  | .MOD_HOST_STAT_p => 93
  | .MOD_HOST_ERR_p => 94
  | .MOD_MB_SUMMARY => 95
  | .PWR_INPUT => 96
  | .PWR_CAP => 97
  | .PWR_BUDGET => 98
  | .PWR_VMIN_CTL => 99
  | .PWR_VMIN_STAT => 100
  | .PWR_SLEW => 101
  | .PWR_THERM => 102
  | .PWR_RISER_LEAD => 103
  | .PWR_CLUSTER_c => 104
  | .PWR_ENERGY_n => 105
  | .PWR_TILE_t => 106
  | .PWR_TELEM_IN_p => 107
  | .PST_STAT => 108
  | .PST_CTL => 109
  | .PST_WAKE_EN => 110
  | .PST_WAKE_STAT => 111
  | .PST_WAKE_REQ => 112
  | .PST_TICKS => 113
  | .PST_TIMER => 114
  | .PST_PAD_HOLD => 115
  | .PST_RAMP => 116
  | .PST_STAT_TICK_TC0 => 117
  | .PST_CORE_PWR_r => 118
  | .MOD_BOOT_STAT => 119
  | .MOD_BOOT_ERR => 120
  | .MOD_RESET_STAT => 121
  | .MOD_PORT_BOOT => 122
  | .MOD_FLASH_INFO => 123
  | .PEP_CTL => 124
  | .PEP_SEED => 125
  | .PEP_STAT => 126
  | .PEP_RESOLVE => 127
  | .PEP_LAST => 128
  | .PEP_SWEEP => 129
  | .MOD_FAULT_CTL => 130
  | .MOD_FAULT_STAT => 131
  | .SAF_STAT => 132
  | .SAF_SLOT_ROLE => 133
  | .SAF_SLOT_FLASK => 134
  | .SAF_TAMPER => 135
  | .SAF_SECONDS => 136
  | .SAF_KEYS => 137
  | .SAF_ERR => 138
  | .DBG_STAT => 139
  | .DBG_HOLD => 140
  | .DBG_BP_MATCH_n => 141
  | .DBG_BP_LIMIT_n => 142
  | .DBG_BP_CTL_n => 143
  | .DBG_BP_HIT_n => 144
  | .MOD_LIFE => 145

/-- Where a register's instances lie: `base + i × s1 + j × s2`, instance number `i × n2 + j`. -/
structure Place where
  base : Nat
  n1 : Nat
  s1 : Nat
  n2 : Nat
  s2 : Nat
  deriving DecidableEq, Repr

/-- The place of each register in BAR0 (R52, R53), and of the doorbell words in BAR2 (R457). -/
def Reg.place : Reg → Place
  | .MOD_ID => ⟨0x0, 1, 0x0, 1, 0x0⟩
  | .MOD_GRID_STAT => ⟨0x8, 1, 0x0, 1, 0x0⟩
  | .MOD_POUR_ID => ⟨0x10, 1, 0x0, 1, 0x0⟩
  | .MOD_ROW_MAP_r => ⟨0x100, 10, 0x8, 1, 0x0⟩
  | .MOD_FA_FAULT_ADDR => ⟨0x200, 1, 0x0, 1, 0x0⟩
  | .MOD_FA_FAULT_INFO => ⟨0x208, 1, 0x0, 1, 0x0⟩
  | .MOD_APERTURE_CTL => ⟨0x300, 1, 0x0, 1, 0x0⟩
  | .CLU_ID => ⟨0x200000, 20, 0x4000, 1, 0x0⟩
  | .CLU_CORES => ⟨0x200008, 20, 0x4000, 1, 0x0⟩
  | .CLU_THERM => ⟨0x200010, 20, 0x4000, 1, 0x0⟩
  | .CLU_VENT => ⟨0x200018, 20, 0x4000, 1, 0x0⟩
  | .TC_NOW => ⟨0x10000, 1, 0x0, 1, 0x0⟩
  | .TC_ALIGN_STAT => ⟨0x10008, 1, 0x0, 1, 0x0⟩
  | .TC_FRAME => ⟨0x10010, 1, 0x0, 1, 0x0⟩
  | .TC_FRAME_TC => ⟨0x10018, 1, 0x0, 1, 0x0⟩
  | .CLK_PSTEP => ⟨0x20000, 1, 0x0, 1, 0x0⟩
  | .CLK_ARM_TARGET => ⟨0x20010, 1, 0x0, 1, 0x0⟩
  | .CLK_ARM => ⟨0x20008, 1, 0x0, 1, 0x0⟩
  | .CLK_CHG_STAT => ⟨0x20018, 1, 0x0, 1, 0x0⟩
  | .CLK_STOP_STAT => ⟨0x20020, 1, 0x0, 1, 0x0⟩
  | .ME_CAP => ⟨0x408000, 160, 0x10000, 64, 0x200⟩
  | .ME_CTL => ⟨0x408008, 160, 0x10000, 64, 0x200⟩
  | .ME_STAT => ⟨0x408010, 160, 0x10000, 64, 0x200⟩
  | .ME_FLAGS => ⟨0x408018, 160, 0x10000, 64, 0x200⟩
  | .ME_TILES => ⟨0x408020, 160, 0x10000, 64, 0x200⟩
  | .ME_GATED => ⟨0x408028, 160, 0x10000, 64, 0x200⟩
  | .ME_STALL => ⟨0x408030, 160, 0x10000, 64, 0x200⟩
  | .ME_ERR => ⟨0x408038, 160, 0x10000, 64, 0x200⟩
  | .ME_HASH => ⟨0x408040, 160, 0x10000, 64, 0x200⟩
  | .ME_LAST_TAG => ⟨0x408048, 160, 0x10000, 64, 0x200⟩
  | .SE_STAT => ⟨0x404000, 160, 0x10000, 8, 0x200⟩
  | .SE_FLAGS => ⟨0x404008, 160, 0x10000, 8, 0x200⟩
  | .SE_TILES => ⟨0x404010, 160, 0x10000, 8, 0x200⟩
  | .SE_SKIPPED => ⟨0x404018, 160, 0x10000, 8, 0x200⟩
  | .SE_STALL => ⟨0x404020, 160, 0x10000, 8, 0x200⟩
  | .SE_ERR => ⟨0x404028, 160, 0x10000, 8, 0x200⟩
  | .SE_HASH => ⟨0x404030, 160, 0x10000, 8, 0x200⟩
  | .VU_STAT => ⟨0x403000, 160, 0x10000, 4, 0x400⟩
  | .VU_FLAGS => ⟨0x403008, 160, 0x10000, 4, 0x400⟩
  | .VU_ERR => ⟨0x403010, 160, 0x10000, 4, 0x400⟩
  | .VU_SAMP_COUNT => ⟨0x403018, 160, 0x10000, 4, 0x400⟩
  | .VU_SAMP_LAST => ⟨0x403020, 160, 0x10000, 4, 0x400⟩
  | .VU_SAMP_STALL => ⟨0x403028, 160, 0x10000, 4, 0x400⟩
  | .CORE_STAT => ⟨0x400000, 160, 0x10000, 1, 0x0⟩
  | .CORE_SEQ => ⟨0x400008, 160, 0x10000, 1, 0x0⟩
  | .CORE_SC => ⟨0x400010, 160, 0x10000, 1, 0x0⟩
  | .CORE_MOULD => ⟨0x400018, 160, 0x10000, 1, 0x0⟩
  | .CORE_SEQ_ERR => ⟨0x400020, 160, 0x10000, 1, 0x0⟩
  | .CORE_QSTAT => ⟨0x400028, 160, 0x10000, 1, 0x0⟩
  | .SPD_STAT => ⟨0x402000, 160, 0x10000, 1, 0x0⟩
  | .SPD_ECC => ⟨0x402008, 160, 0x10000, 1, 0x0⟩
  | .SPD_ECC_ADDR => ⟨0x402010, 160, 0x10000, 1, 0x0⟩
  | .SPD_CONFLICT => ⟨0x402018, 160, 0x10000, 1, 0x0⟩
  | .SPD_SCRUB_CTL => ⟨0x402020, 160, 0x10000, 1, 0x0⟩
  | .SPD_SCRUB_STAT => ⟨0x402028, 160, 0x10000, 1, 0x0⟩
  | .SPD_ELASTIC => ⟨0x402030, 160, 0x10000, 1, 0x0⟩
  | .CCH_PART => ⟨0x280000, 20, 0x4000, 1, 0x0⟩
  | .CCH_HITS => ⟨0x280008, 20, 0x4000, 1, 0x0⟩
  | .CCH_MISSES => ⟨0x280010, 20, 0x4000, 1, 0x0⟩
  | .CCH_PF => ⟨0x280018, 20, 0x4000, 1, 0x0⟩
  | .CCH_ECC => ⟨0x280020, 20, 0x4000, 1, 0x0⟩
  | .CCH_HBM => ⟨0x280028, 20, 0x4000, 1, 0x0⟩
  | .CCH_HBM_ERR => ⟨0x280030, 20, 0x4000, 1, 0x0⟩
  | .LDL_CTL => ⟨0x300000, 80, 0x1000, 1, 0x0⟩
  | .LDL_STAT => ⟨0x300008, 80, 0x1000, 1, 0x0⟩
  | .LDL_ERR => ⟨0x300010, 80, 0x1000, 1, 0x0⟩
  | .LDL_FLAGS => ⟨0x300018, 80, 0x1000, 1, 0x0⟩
  | .LDL_CTX_n => ⟨0x300020, 80, 0x1000, 4, 0x10⟩
  | .LDL_CTXW_n => ⟨0x300028, 80, 0x1000, 4, 0x10⟩
  | .LDL_SECTORS => ⟨0x300060, 80, 0x1000, 1, 0x0⟩
  | .LDL_CLAMP => ⟨0x300068, 80, 0x1000, 1, 0x0⟩
  | .SPR_STAT => ⟨0x401000, 160, 0x10000, 1, 0x0⟩
  | .SPR_SLIP => ⟨0x401008, 160, 0x10000, 1, 0x0⟩
  | .SPR_SLIP_INFO => ⟨0x401010, 160, 0x10000, 1, 0x0⟩
  | .SPR_ERR => ⟨0x401018, 160, 0x10000, 1, 0x0⟩
  | .SPR_ELASTIC => ⟨0x401020, 160, 0x10000, 1, 0x0⟩
  | .VNT_STAT => ⟨0x80000, 1, 0x0, 1, 0x0⟩
  | .VNT_ERR => ⟨0x80008, 1, 0x0, 1, 0x0⟩
  | .RUN_STAT => ⟨0x100000, 24, 0x4000, 1, 0x0⟩
  | .RUN_DELAY => ⟨0x100008, 24, 0x4000, 1, 0x0⟩
  | .RUN_FEC => ⟨0x100010, 24, 0x4000, 1, 0x0⟩
  | .RUN_LANE_l => ⟨0x100018, 24, 0x4000, 5, 0x8⟩
  | .RUN_SCHED => ⟨0x100040, 24, 0x4000, 1, 0x0⟩
  | .RUN_ERR => ⟨0x100048, 24, 0x4000, 1, 0x0⟩
  | .RUN_ELASTIC => ⟨0x100050, 24, 0x4000, 1, 0x0⟩
  | .QUEUE_DB => ⟨0x0, 2097152, 0x40, 1, 0x0⟩
  | .QUEUE_BASE => ⟨0x8, 2097152, 0x40, 1, 0x0⟩
  | .QUEUE_CTL => ⟨0x10, 2097152, 0x40, 1, 0x0⟩
  | .QUEUE_STAT => ⟨0x18, 2097152, 0x40, 1, 0x0⟩
  | .QUEUE_WM => ⟨0x20, 2097152, 0x40, 1, 0x0⟩
  | .QUEUE_LEVEL => ⟨0x28, 2097152, 0x40, 1, 0x0⟩
  | .MOD_EVR_HEAD_n => ⟨0x800, 17, 0x10, 1, 0x0⟩
  | .MOD_EVR_TAIL_n => ⟨0x808, 17, 0x10, 1, 0x0⟩
  | .MOD_HOST_STAT_p => ⟨0x400, 2, 0x8, 1, 0x0⟩
  | .MOD_HOST_ERR_p => ⟨0x410, 2, 0x8, 1, 0x0⟩
  | .MOD_MB_SUMMARY => ⟨0xA00, 1, 0x0, 1, 0x0⟩
  | .PWR_INPUT => ⟨0x30000, 1, 0x0, 1, 0x0⟩
  | .PWR_CAP => ⟨0x30008, 1, 0x0, 1, 0x0⟩
  | .PWR_BUDGET => ⟨0x30010, 1, 0x0, 1, 0x0⟩
  | .PWR_VMIN_CTL => ⟨0x30018, 1, 0x0, 1, 0x0⟩
  | .PWR_VMIN_STAT => ⟨0x30020, 1, 0x0, 1, 0x0⟩
  | .PWR_SLEW => ⟨0x30028, 1, 0x0, 1, 0x0⟩
  | .PWR_THERM => ⟨0x30030, 1, 0x0, 1, 0x0⟩
  | .PWR_RISER_LEAD => ⟨0x30038, 1, 0x0, 1, 0x0⟩
  | .PWR_CLUSTER_c => ⟨0x30100, 20, 0x8, 1, 0x0⟩
  | .PWR_ENERGY_n => ⟨0x30200, 17, 0x8, 1, 0x0⟩
  | .PWR_TILE_t => ⟨0x31000, 256, 0x8, 1, 0x0⟩
  | .PWR_TELEM_IN_p => ⟨0x34000, 24, 0x40, 8, 0x8⟩
  | .PST_STAT => ⟨0x40000, 1, 0x0, 1, 0x0⟩
  | .PST_CTL => ⟨0x40008, 1, 0x0, 1, 0x0⟩
  | .PST_WAKE_EN => ⟨0x40010, 1, 0x0, 1, 0x0⟩
  | .PST_WAKE_STAT => ⟨0x40018, 1, 0x0, 1, 0x0⟩
  | .PST_WAKE_REQ => ⟨0x40020, 1, 0x0, 1, 0x0⟩
  | .PST_TICKS => ⟨0x40028, 1, 0x0, 1, 0x0⟩
  | .PST_TIMER => ⟨0x40030, 1, 0x0, 1, 0x0⟩
  | .PST_PAD_HOLD => ⟨0x40038, 1, 0x0, 1, 0x0⟩
  | .PST_RAMP => ⟨0x40040, 1, 0x0, 1, 0x0⟩
  | .PST_STAT_TICK_TC0 => ⟨0x40048, 1, 0x0, 1, 0x0⟩
  | .PST_CORE_PWR_r => ⟨0x40100, 10, 0x8, 1, 0x0⟩
  | .MOD_BOOT_STAT => ⟨0xB00, 1, 0x0, 1, 0x0⟩
  | .MOD_BOOT_ERR => ⟨0xB08, 1, 0x0, 1, 0x0⟩
  | .MOD_RESET_STAT => ⟨0xB10, 1, 0x0, 1, 0x0⟩
  | .MOD_PORT_BOOT => ⟨0xB18, 1, 0x0, 1, 0x0⟩
  | .MOD_FLASH_INFO => ⟨0xB20, 1, 0x0, 1, 0x0⟩
  | .PEP_CTL => ⟨0x60000, 1, 0x0, 1, 0x0⟩
  | .PEP_SEED => ⟨0x60008, 1, 0x0, 1, 0x0⟩
  | .PEP_STAT => ⟨0x60010, 1, 0x0, 1, 0x0⟩
  | .PEP_RESOLVE => ⟨0x60018, 1, 0x0, 1, 0x0⟩
  | .PEP_LAST => ⟨0x60020, 1, 0x0, 1, 0x0⟩
  | .PEP_SWEEP => ⟨0x60028, 1, 0x0, 1, 0x0⟩
  | .MOD_FAULT_CTL => ⟨0xC00, 1, 0x0, 1, 0x0⟩
  | .MOD_FAULT_STAT => ⟨0xC08, 1, 0x0, 1, 0x0⟩
  | .SAF_STAT => ⟨0x50000, 1, 0x0, 1, 0x0⟩
  | .SAF_SLOT_ROLE => ⟨0x50008, 1, 0x0, 1, 0x0⟩
  | .SAF_SLOT_FLASK => ⟨0x50010, 1, 0x0, 1, 0x0⟩
  | .SAF_TAMPER => ⟨0x50018, 1, 0x0, 1, 0x0⟩
  | .SAF_SECONDS => ⟨0x50020, 1, 0x0, 1, 0x0⟩
  | .SAF_KEYS => ⟨0x50028, 1, 0x0, 1, 0x0⟩
  | .SAF_ERR => ⟨0x50030, 1, 0x0, 1, 0x0⟩
  | .DBG_STAT => ⟨0x70000, 1, 0x0, 1, 0x0⟩
  | .DBG_HOLD => ⟨0x70008, 1, 0x0, 1, 0x0⟩
  | .DBG_BP_MATCH_n => ⟨0x70108, 8, 0x20, 1, 0x0⟩
  | .DBG_BP_LIMIT_n => ⟨0x70110, 8, 0x20, 1, 0x0⟩
  | .DBG_BP_CTL_n => ⟨0x70100, 8, 0x20, 1, 0x0⟩
  | .DBG_BP_HIT_n => ⟨0x70118, 8, 0x20, 1, 0x0⟩
  | .MOD_LIFE => ⟨0xD00, 1, 0x0, 1, 0x0⟩

/-- The register is fabric-visible (R47 check 6). -/
def Reg.visible : Reg → Bool
  | .MOD_ID => true
  | .MOD_GRID_STAT => true
  | .CLU_ID => true
  | .CLU_CORES => true
  | .ME_CAP => true
  | .ME_FLAGS => true
  | .ME_TILES => true
  | .SE_FLAGS => true
  | .SE_TILES => true
  | .VU_FLAGS => true
  | .VU_SAMP_COUNT => true
  | .CORE_STAT => true
  | .CORE_SC => true
  | .SPD_STAT => true
  | .SPD_ECC => true
  | .SPR_STAT => true
  | .RUN_STAT => true
  | .PWR_TELEM_IN_p => true
  | _ => false

/-- The rule of the spec that gives a register (its number). -/
def Reg.rule : Reg → Nat
  | .MOD_ID => 54
  | .MOD_GRID_STAT => 55
  | .MOD_POUR_ID => 56
  | .MOD_ROW_MAP_r => 57
  | .MOD_FA_FAULT_ADDR => 58
  | .MOD_FA_FAULT_INFO => 59
  | .MOD_APERTURE_CTL => 60
  | .CLU_ID => 62
  | .CLU_CORES => 63
  | .CLU_THERM => 64
  | .CLU_VENT => 65
  | .TC_NOW => 88
  | .TC_ALIGN_STAT => 89
  | .TC_FRAME => 90
  | .TC_FRAME_TC => 91
  | .CLK_PSTEP => 92
  | .CLK_ARM_TARGET => 93
  | .CLK_ARM => 93
  | .CLK_CHG_STAT => 94
  | .CLK_STOP_STAT => 95
  | .ME_CAP => 157
  | .ME_CTL => 158
  | .ME_STAT => 159
  | .ME_FLAGS => 160
  | .ME_TILES => 161
  | .ME_GATED => 162
  | .ME_STALL => 163
  | .ME_ERR => 164
  | .ME_HASH => 165
  | .ME_LAST_TAG => 166
  | .SE_STAT => 194
  | .SE_FLAGS => 195
  | .SE_TILES => 196
  | .SE_SKIPPED => 197
  | .SE_STALL => 198
  | .SE_ERR => 199
  | .SE_HASH => 200
  | .VU_STAT => 201
  | .VU_FLAGS => 202
  | .VU_ERR => 203
  | .VU_SAMP_COUNT => 204
  | .VU_SAMP_LAST => 205
  | .VU_SAMP_STALL => 206
  | .CORE_STAT => 254
  | .CORE_SEQ => 255
  | .CORE_SC => 256
  | .CORE_MOULD => 257
  | .CORE_SEQ_ERR => 258
  | .CORE_QSTAT => 259
  | .SPD_STAT => 294
  | .SPD_ECC => 295
  | .SPD_ECC_ADDR => 296
  | .SPD_CONFLICT => 297
  | .SPD_SCRUB_CTL => 298
  | .SPD_SCRUB_STAT => 299
  | .SPD_ELASTIC => 300
  | .CCH_PART => 301
  | .CCH_HITS => 302
  | .CCH_MISSES => 302
  | .CCH_PF => 303
  | .CCH_ECC => 304
  | .CCH_HBM => 305
  | .CCH_HBM_ERR => 306
  | .LDL_CTL => 344
  | .LDL_STAT => 345
  | .LDL_ERR => 346
  | .LDL_FLAGS => 347
  | .LDL_CTX_n => 348
  | .LDL_CTXW_n => 349
  | .LDL_SECTORS => 350
  | .LDL_CLAMP => 351
  | .SPR_STAT => 378
  | .SPR_SLIP => 379
  | .SPR_SLIP_INFO => 380
  | .SPR_ERR => 381
  | .SPR_ELASTIC => 382
  | .VNT_STAT => 383
  | .VNT_ERR => 384
  | .RUN_STAT => 427
  | .RUN_DELAY => 428
  | .RUN_FEC => 429
  | .RUN_LANE_l => 430
  | .RUN_SCHED => 431
  | .RUN_ERR => 432
  | .RUN_ELASTIC => 433
  | .QUEUE_DB => 458
  | .QUEUE_BASE => 459
  | .QUEUE_CTL => 460
  | .QUEUE_STAT => 461
  | .QUEUE_WM => 462
  | .QUEUE_LEVEL => 463
  | .MOD_EVR_HEAD_n => 465
  | .MOD_EVR_TAIL_n => 465
  | .MOD_HOST_STAT_p => 471
  | .MOD_HOST_ERR_p => 471
  | .MOD_MB_SUMMARY => 495
  | .PWR_INPUT => 524
  | .PWR_CAP => 525
  | .PWR_BUDGET => 526
  | .PWR_VMIN_CTL => 527
  | .PWR_VMIN_STAT => 528
  | .PWR_SLEW => 529
  | .PWR_THERM => 530
  | .PWR_RISER_LEAD => 531
  | .PWR_CLUSTER_c => 532
  | .PWR_ENERGY_n => 533
  | .PWR_TILE_t => 534
  | .PWR_TELEM_IN_p => 535
  | .PST_STAT => 562
  | .PST_CTL => 563
  | .PST_WAKE_EN => 564
  | .PST_WAKE_STAT => 565
  | .PST_WAKE_REQ => 566
  | .PST_TICKS => 567
  | .PST_TIMER => 567
  | .PST_PAD_HOLD => 568
  | .PST_RAMP => 569
  | .PST_STAT_TICK_TC0 => 570
  | .PST_CORE_PWR_r => 571
  | .MOD_BOOT_STAT => 601
  | .MOD_BOOT_ERR => 602
  | .MOD_RESET_STAT => 603
  | .MOD_PORT_BOOT => 604
  | .MOD_FLASH_INFO => 605
  | .PEP_CTL => 634
  | .PEP_SEED => 635
  | .PEP_STAT => 636
  | .PEP_RESOLVE => 637
  | .PEP_LAST => 638
  | .PEP_SWEEP => 639
  | .MOD_FAULT_CTL => 640
  | .MOD_FAULT_STAT => 641
  | .SAF_STAT => 667
  | .SAF_SLOT_ROLE => 668
  | .SAF_SLOT_FLASK => 669
  | .SAF_TAMPER => 670
  | .SAF_SECONDS => 671
  | .SAF_KEYS => 672
  | .SAF_ERR => 673
  | .DBG_STAT => 691
  | .DBG_HOLD => 692
  | .DBG_BP_MATCH_n => 693
  | .DBG_BP_LIMIT_n => 693
  | .DBG_BP_CTL_n => 693
  | .DBG_BP_HIT_n => 694
  | .MOD_LIFE => 710

namespace F
/-- MOD_ID.FAMILY (R54). -/
def MOD_ID_FAMILY : Fld := ⟨.MOD_ID, 48, 16, .ro, 0x3⟩
/-- MOD_ID.PART (R54). -/
def MOD_ID_PART : Fld := ⟨.MOD_ID, 32, 16, .ro, 0x20⟩
/-- MOD_ID.STEPPING (R54). -/
def MOD_ID_STEPPING : Fld := ⟨.MOD_ID, 24, 8, .ro, 0xB0⟩
/-- MOD_ID.COMPAT_LEVEL (R54). -/
def MOD_ID_COMPAT_LEVEL : Fld := ⟨.MOD_ID, 16, 8, .ro, 0x1⟩
/-- MOD_GRID_STAT.WIDTH (R55). -/
def MOD_GRID_STAT_WIDTH : Fld := ⟨.MOD_GRID_STAT, 0, 4, .ro, 0x0⟩
/-- MOD_GRID_STAT.ROWS (R55). -/
def MOD_GRID_STAT_ROWS : Fld := ⟨.MOD_GRID_STAT, 4, 4, .ro, 0xA⟩
/-- MOD_GRID_STAT.SPARES (R55). -/
def MOD_GRID_STAT_SPARES : Fld := ⟨.MOD_GRID_STAT, 8, 8, .ro, 0x0⟩
/-- MOD_GRID_STAT.GEN (R55). -/
def MOD_GRID_STAT_GEN : Fld := ⟨.MOD_GRID_STAT, 16, 16, .ro, 0x0⟩
/-- MOD_GRID_STAT.COMPAT_ACTIVE (R55). -/
def MOD_GRID_STAT_COMPAT_ACTIVE : Fld := ⟨.MOD_GRID_STAT, 32, 1, .ro, 0x0⟩
/-- MOD_GRID_STAT.COMPAT_BASE (R55). -/
def MOD_GRID_STAT_COMPAT_BASE : Fld := ⟨.MOD_GRID_STAT, 33, 2, .ro, 0x0⟩
/-- MOD_GRID_STAT.OUT_OF_SERVICE (R55). -/
def MOD_GRID_STAT_OUT_OF_SERVICE : Fld := ⟨.MOD_GRID_STAT, 35, 1, .ro, 0x0⟩
/-- MOD_POUR_ID.MODULE (R56). -/
def MOD_POUR_ID_MODULE : Fld := ⟨.MOD_POUR_ID, 0, 16, .ro, 0x0⟩
/-- MOD_POUR_ID.POUR_TAG (R56). -/
def MOD_POUR_ID_POUR_TAG : Fld := ⟨.MOD_POUR_ID, 16, 32, .ro, 0x0⟩
/-- MOD_ROW_MAP_r.MAP (R57). -/
def MOD_ROW_MAP_r_MAP : Fld := ⟨.MOD_ROW_MAP_r, 0, 64, .ro, 0xFFFFFFFFFFFFFFFF⟩
/-- MOD_FA_FAULT_ADDR.FA (R58). -/
def MOD_FA_FAULT_ADDR_FA : Fld := ⟨.MOD_FA_FAULT_ADDR, 0, 64, .ro, 0x0⟩
/-- MOD_FA_FAULT_INFO.REASON (R59). -/
def MOD_FA_FAULT_INFO_REASON : Fld := ⟨.MOD_FA_FAULT_INFO, 0, 4, .ro, 0x0⟩
/-- MOD_FA_FAULT_INFO.WRITE (R59). -/
def MOD_FA_FAULT_INFO_WRITE : Fld := ⟨.MOD_FA_FAULT_INFO, 4, 1, .ro, 0x0⟩
/-- MOD_FA_FAULT_INFO.COUNT (R59). -/
def MOD_FA_FAULT_INFO_COUNT : Fld := ⟨.MOD_FA_FAULT_INFO, 16, 16, .ro, 0x0⟩
/-- MOD_FA_FAULT_INFO.VALID (R59). -/
def MOD_FA_FAULT_INFO_VALID : Fld := ⟨.MOD_FA_FAULT_INFO, 63, 1, .w1c, 0x0⟩
/-- MOD_APERTURE_CTL.EN (R60). -/
def MOD_APERTURE_CTL_EN : Fld := ⟨.MOD_APERTURE_CTL, 0, 1, .ro, 0x0⟩
/-- MOD_APERTURE_CTL.WR_EN (R60). -/
def MOD_APERTURE_CTL_WR_EN : Fld := ⟨.MOD_APERTURE_CTL, 1, 1, .ro, 0x0⟩
/-- MOD_APERTURE_CTL.DENIED (R60). -/
def MOD_APERTURE_CTL_DENIED : Fld := ⟨.MOD_APERTURE_CTL, 32, 32, .rc, 0x0⟩
/-- CLU_ID.CX (R62). -/
def CLU_ID_CX : Fld := ⟨.CLU_ID, 0, 2, .ro, 0x0⟩
/-- CLU_ID.CY (R62). -/
def CLU_ID_CY : Fld := ⟨.CLU_ID, 2, 3, .ro, 0x0⟩
/-- CLU_ID.STACK_A (R62). -/
def CLU_ID_STACK_A : Fld := ⟨.CLU_ID, 8, 5, .ro, 0x0⟩
/-- CLU_ID.STACK_B (R62). -/
def CLU_ID_STACK_B : Fld := ⟨.CLU_ID, 16, 5, .ro, 0x0⟩
/-- CLU_ID.PORT_BASE (R62). -/
def CLU_ID_PORT_BASE : Fld := ⟨.CLU_ID, 24, 5, .ro, 0x0⟩
/-- CLU_ID.HOST0 (R62). -/
def CLU_ID_HOST0 : Fld := ⟨.CLU_ID, 29, 1, .ro, 0x0⟩
/-- CLU_ID.HOST1 (R62). -/
def CLU_ID_HOST1 : Fld := ⟨.CLU_ID, 30, 1, .ro, 0x0⟩
/-- CLU_ID.MGMT (R62). -/
def CLU_ID_MGMT : Fld := ⟨.CLU_ID, 31, 1, .ro, 0x0⟩
/-- CLU_CORES.LOGICAL (R63). -/
def CLU_CORES_LOGICAL : Fld := ⟨.CLU_CORES, 0, 8, .ro, 0x0⟩
/-- CLU_CORES.FENCED (R63). -/
def CLU_CORES_FENCED : Fld := ⟨.CLU_CORES, 8, 8, .ro, 0x0⟩
/-- CLU_CORES.SPARE (R63). -/
def CLU_CORES_SPARE : Fld := ⟨.CLU_CORES, 16, 8, .ro, 0x0⟩
/-- CLU_CORES.ON (R63). -/
def CLU_CORES_ON : Fld := ⟨.CLU_CORES, 24, 8, .ro, 0x0⟩
/-- CLU_THERM.TEMP (R64). -/
def CLU_THERM_TEMP : Fld := ⟨.CLU_THERM, 0, 8, .ro, 0x0⟩
/-- CLU_THERM.PEAK (R64). -/
def CLU_THERM_PEAK : Fld := ⟨.CLU_THERM, 8, 8, .ro, 0x0⟩
/-- CLU_THERM.CORE_MAX (R64). -/
def CLU_THERM_CORE_MAX : Fld := ⟨.CLU_THERM, 16, 8, .ro, 0x0⟩
/-- CLU_THERM.CORE_MAX_K (R64). -/
def CLU_THERM_CORE_MAX_K : Fld := ⟨.CLU_THERM, 24, 3, .ro, 0x0⟩
/-- CLU_THERM.PEAK_CLR (R64). -/
def CLU_THERM_PEAK_CLR : Fld := ⟨.CLU_THERM, 32, 1, .wo, 0x0⟩
/-- CLU_THERM.HIGH (R64). -/
def CLU_THERM_HIGH : Fld := ⟨.CLU_THERM, 33, 1, .w1c, 0x0⟩
/-- CLU_VENT.PACKETS (R65). -/
def CLU_VENT_PACKETS : Fld := ⟨.CLU_VENT, 0, 32, .ro, 0x0⟩
/-- CLU_VENT.CTL_MAX (R65). -/
def CLU_VENT_CTL_MAX : Fld := ⟨.CLU_VENT, 32, 4, .ro, 0x0⟩
/-- CLU_VENT.RSP_MAX (R65). -/
def CLU_VENT_RSP_MAX : Fld := ⟨.CLU_VENT, 36, 4, .ro, 0x0⟩
/-- CLU_VENT.REQ_MAX (R65). -/
def CLU_VENT_REQ_MAX : Fld := ⟨.CLU_VENT, 40, 4, .ro, 0x0⟩
/-- TC_NOW.COUNT (R88). -/
def TC_NOW_COUNT : Fld := ⟨.TC_NOW, 0, 64, .ro, 0x0⟩
/-- TC_ALIGN_STAT.STATE (R89). -/
def TC_ALIGN_STAT_STATE : Fld := ⟨.TC_ALIGN_STAT, 0, 3, .ro, 0x0⟩
/-- TC_ALIGN_STAT.MASTER (R89). -/
def TC_ALIGN_STAT_MASTER : Fld := ⟨.TC_ALIGN_STAT, 3, 1, .ro, 0x0⟩
/-- TC_ALIGN_STAT.UPSTREAM (R89). -/
def TC_ALIGN_STAT_UPSTREAM : Fld := ⟨.TC_ALIGN_STAT, 8, 5, .ro, 0x1F⟩
/-- TC_ALIGN_STAT.HOPS (R89). -/
def TC_ALIGN_STAT_HOPS : Fld := ⟨.TC_ALIGN_STAT, 16, 5, .ro, 0x0⟩
/-- TC_ALIGN_STAT.ERROR (R89). -/
def TC_ALIGN_STAT_ERROR : Fld := ⟨.TC_ALIGN_STAT, 32, 16, .ro, 0x0⟩
/-- TC_FRAME.FRAME (R90). -/
def TC_FRAME_FRAME : Fld := ⟨.TC_FRAME, 0, 48, .ro, 0x0⟩
/-- TC_FRAME.HOLD (R90). -/
def TC_FRAME_HOLD : Fld := ⟨.TC_FRAME, 48, 6, .ro, 0x0⟩
/-- TC_FRAME.EPOCH (R90). -/
def TC_FRAME_EPOCH : Fld := ⟨.TC_FRAME, 54, 4, .ro, 0x0⟩
/-- TC_FRAME_TC.TC (R91). -/
def TC_FRAME_TC_TC : Fld := ⟨.TC_FRAME_TC, 0, 64, .ro, 0x0⟩
/-- CLK_PSTEP.CURRENT (R92). -/
def CLK_PSTEP_CURRENT : Fld := ⟨.CLK_PSTEP, 0, 4, .ro, 0xC⟩
/-- CLK_PSTEP.BAND (R92). -/
def CLK_PSTEP_BAND : Fld := ⟨.CLK_PSTEP, 4, 1, .ro, 0x1⟩
/-- CLK_PSTEP.BUBBLES (R92). -/
def CLK_PSTEP_BUBBLES : Fld := ⟨.CLK_PSTEP, 8, 6, .ro, 0x0⟩
/-- CLK_PSTEP.TEMPER (R92). -/
def CLK_PSTEP_TEMPER : Fld := ⟨.CLK_PSTEP, 14, 2, .ro, 0x0⟩
/-- CLK_PSTEP.SEQ (R92). -/
def CLK_PSTEP_SEQ : Fld := ⟨.CLK_PSTEP, 16, 16, .ro, 0x0⟩
/-- CLK_ARM_TARGET.T (R93). -/
def CLK_ARM_TARGET_T : Fld := ⟨.CLK_ARM_TARGET, 0, 64, .ro, 0x0⟩
/-- CLK_ARM.VALID (R93). -/
def CLK_ARM_VALID : Fld := ⟨.CLK_ARM, 0, 1, .ro, 0x0⟩
/-- CLK_ARM.ACKED (R93). -/
def CLK_ARM_ACKED : Fld := ⟨.CLK_ARM, 1, 1, .ro, 0x0⟩
/-- CLK_ARM.GO (R93). -/
def CLK_ARM_GO : Fld := ⟨.CLK_ARM, 2, 1, .ro, 0x0⟩
/-- CLK_ARM.WITHDRAWN (R93). -/
def CLK_ARM_WITHDRAWN : Fld := ⟨.CLK_ARM, 3, 1, .ro, 0x0⟩
/-- CLK_ARM.PSTEP (R93). -/
def CLK_ARM_PSTEP : Fld := ⟨.CLK_ARM, 4, 4, .ro, 0x0⟩
/-- CLK_ARM.BUBBLES (R93). -/
def CLK_ARM_BUBBLES : Fld := ⟨.CLK_ARM, 8, 6, .ro, 0x0⟩
/-- CLK_ARM.TEMPER (R93). -/
def CLK_ARM_TEMPER : Fld := ⟨.CLK_ARM, 14, 2, .ro, 0x0⟩
/-- CLK_ARM.SEQ (R93). -/
def CLK_ARM_SEQ : Fld := ⟨.CLK_ARM, 16, 16, .ro, 0x0⟩
/-- CLK_ARM.NACK_REASON (R93). -/
def CLK_ARM_NACK_REASON : Fld := ⟨.CLK_ARM, 32, 4, .ro, 0x0⟩
/-- CLK_CHG_STAT.COMMITTED (R94). -/
def CLK_CHG_STAT_COMMITTED : Fld := ⟨.CLK_CHG_STAT, 0, 16, .ro, 0x0⟩
/-- CLK_CHG_STAT.WITHDRAWN (R94). -/
def CLK_CHG_STAT_WITHDRAWN : Fld := ⟨.CLK_CHG_STAT, 16, 16, .ro, 0x0⟩
/-- CLK_CHG_STAT.DESYNC (R94). -/
def CLK_CHG_STAT_DESYNC : Fld := ⟨.CLK_CHG_STAT, 32, 1, .w1c, 0x0⟩
/-- CLK_CHG_STAT.MISSING (R94). -/
def CLK_CHG_STAT_MISSING : Fld := ⟨.CLK_CHG_STAT, 33, 1, .w1c, 0x0⟩
/-- CLK_CHG_STAT.CONFLICT (R94). -/
def CLK_CHG_STAT_CONFLICT : Fld := ⟨.CLK_CHG_STAT, 34, 1, .w1c, 0x0⟩
/-- CLK_CHG_STAT.ALIGN (R94). -/
def CLK_CHG_STAT_ALIGN : Fld := ⟨.CLK_CHG_STAT, 35, 1, .w1c, 0x0⟩
/-- CLK_STOP_STAT.STOPPED (R95). -/
def CLK_STOP_STAT_STOPPED : Fld := ⟨.CLK_STOP_STAT, 0, 20, .ro, 0x0⟩
/-- CLK_STOP_STAT.RELOCK_FAIL (R95). -/
def CLK_STOP_STAT_RELOCK_FAIL : Fld := ⟨.CLK_STOP_STAT, 32, 20, .w1c, 0x0⟩
/-- ME_CAP.WIDTH (R157). -/
def ME_CAP_WIDTH : Fld := ⟨.ME_CAP, 0, 6, .ro, 0x20⟩
/-- ME_CAP.BYPASS (R157). -/
def ME_CAP_BYPASS : Fld := ⟨.ME_CAP, 6, 1, .ro, 0x0⟩
/-- ME_CAP.BYPASS_COL (R157). -/
def ME_CAP_BYPASS_COL : Fld := ⟨.ME_CAP, 7, 5, .ro, 0x0⟩
/-- ME_CAP.QUAD_NARROW (R157). -/
def ME_CAP_QUAD_NARROW : Fld := ⟨.ME_CAP, 12, 4, .ro, 0x0⟩
/-- ME_CTL.GATE_DIS (R158). -/
def ME_CTL_GATE_DIS : Fld := ⟨.ME_CTL, 0, 1, .rw, 0x0⟩
/-- ME_STAT.BUSY (R159). -/
def ME_STAT_BUSY : Fld := ⟨.ME_STAT, 0, 4, .ro, 0x0⟩
/-- ME_STAT.SHAPE (R159). -/
def ME_STAT_SHAPE : Fld := ⟨.ME_STAT, 4, 1, .ro, 0x0⟩
/-- ME_STAT.BANK (R159). -/
def ME_STAT_BANK : Fld := ⟨.ME_STAT, 5, 4, .ro, 0x0⟩
/-- ME_STAT.HELD (R159). -/
def ME_STAT_HELD : Fld := ⟨.ME_STAT, 9, 4, .ro, 0x0⟩
/-- ME_FLAGS.OVF (R160). -/
def ME_FLAGS_OVF : Fld := ⟨.ME_FLAGS, 0, 1, .w1c, 0x0⟩
/-- ME_FLAGS.NAN (R160). -/
def ME_FLAGS_NAN : Fld := ⟨.ME_FLAGS, 1, 1, .w1c, 0x0⟩
/-- ME_FLAGS.INF (R160). -/
def ME_FLAGS_INF : Fld := ⟨.ME_FLAGS, 2, 1, .w1c, 0x0⟩
/-- ME_FLAGS.CSAT (R160). -/
def ME_FLAGS_CSAT : Fld := ⟨.ME_FLAGS, 3, 1, .w1c, 0x0⟩
/-- ME_FLAGS.POISON (R160). -/
def ME_FLAGS_POISON : Fld := ⟨.ME_FLAGS, 4, 1, .w1c, 0x0⟩
/-- ME_TILES.COUNT (R161). -/
def ME_TILES_COUNT : Fld := ⟨.ME_TILES, 0, 64, .ro, 0x0⟩
/-- ME_GATED.COUNT (R162). -/
def ME_GATED_COUNT : Fld := ⟨.ME_GATED, 0, 64, .ro, 0x0⟩
/-- ME_STALL.SWAP (R163). -/
def ME_STALL_SWAP : Fld := ⟨.ME_STALL, 0, 32, .ro, 0x0⟩
/-- ME_STALL.SHAPE (R163). -/
def ME_STALL_SHAPE : Fld := ⟨.ME_STALL, 32, 32, .ro, 0x0⟩
/-- ME_ERR.PARITY (R164). -/
def ME_ERR_PARITY : Fld := ⟨.ME_ERR, 0, 16, .ro, 0x0⟩
/-- ME_ERR.PARITY_SEEN (R164). -/
def ME_ERR_PARITY_SEEN : Fld := ⟨.ME_ERR, 16, 1, .w1c, 0x0⟩
/-- ME_ERR.CHAIN_LATE (R164). -/
def ME_ERR_CHAIN_LATE : Fld := ⟨.ME_ERR, 17, 1, .w1c, 0x0⟩
/-- ME_ERR.OP_INVALID (R164). -/
def ME_ERR_OP_INVALID : Fld := ⟨.ME_ERR, 18, 1, .w1c, 0x0⟩
/-- ME_ERR.LAST_REASON (R164). -/
def ME_ERR_LAST_REASON : Fld := ⟨.ME_ERR, 24, 4, .ro, 0x0⟩
/-- ME_HASH.HASH (R165). -/
def ME_HASH_HASH : Fld := ⟨.ME_HASH, 0, 64, .ro, 0x0⟩
/-- ME_LAST_TAG.TAG (R166). -/
def ME_LAST_TAG_TAG : Fld := ⟨.ME_LAST_TAG, 0, 12, .ro, 0x0⟩
/-- ME_LAST_TAG.QUAD (R166). -/
def ME_LAST_TAG_QUAD : Fld := ⟨.ME_LAST_TAG, 12, 2, .ro, 0x0⟩
/-- SE_STAT.BUSY (R194). -/
def SE_STAT_BUSY : Fld := ⟨.SE_STAT, 0, 1, .ro, 0x0⟩
/-- SE_STAT.BANK (R194). -/
def SE_STAT_BANK : Fld := ⟨.SE_STAT, 1, 1, .ro, 0x0⟩
/-- SE_STAT.HELD (R194). -/
def SE_STAT_HELD : Fld := ⟨.SE_STAT, 2, 1, .ro, 0x0⟩
/-- SE_FLAGS.OVF (R195). -/
def SE_FLAGS_OVF : Fld := ⟨.SE_FLAGS, 0, 1, .w1c, 0x0⟩
/-- SE_FLAGS.NAN (R195). -/
def SE_FLAGS_NAN : Fld := ⟨.SE_FLAGS, 1, 1, .w1c, 0x0⟩
/-- SE_FLAGS.INF (R195). -/
def SE_FLAGS_INF : Fld := ⟨.SE_FLAGS, 2, 1, .w1c, 0x0⟩
/-- SE_FLAGS.CSAT (R195). -/
def SE_FLAGS_CSAT : Fld := ⟨.SE_FLAGS, 3, 1, .w1c, 0x0⟩
/-- SE_FLAGS.POISON (R195). -/
def SE_FLAGS_POISON : Fld := ⟨.SE_FLAGS, 4, 1, .w1c, 0x0⟩
/-- SE_TILES.COUNT (R196). -/
def SE_TILES_COUNT : Fld := ⟨.SE_TILES, 0, 64, .ro, 0x0⟩
/-- SE_SKIPPED.COUNT (R197). -/
def SE_SKIPPED_COUNT : Fld := ⟨.SE_SKIPPED, 0, 64, .ro, 0x0⟩
/-- SE_STALL.SWAP (R198). -/
def SE_STALL_SWAP : Fld := ⟨.SE_STALL, 0, 32, .ro, 0x0⟩
/-- SE_ERR.PARITY (R199). -/
def SE_ERR_PARITY : Fld := ⟨.SE_ERR, 0, 16, .ro, 0x0⟩
/-- SE_ERR.PARITY_SEEN (R199). -/
def SE_ERR_PARITY_SEEN : Fld := ⟨.SE_ERR, 16, 1, .w1c, 0x0⟩
/-- SE_ERR.CHAIN_LATE (R199). -/
def SE_ERR_CHAIN_LATE : Fld := ⟨.SE_ERR, 17, 1, .w1c, 0x0⟩
/-- SE_ERR.OP_INVALID (R199). -/
def SE_ERR_OP_INVALID : Fld := ⟨.SE_ERR, 18, 1, .w1c, 0x0⟩
/-- SE_ERR.META (R199). -/
def SE_ERR_META : Fld := ⟨.SE_ERR, 19, 1, .w1c, 0x0⟩
/-- SE_ERR.OVERRUN (R199). -/
def SE_ERR_OVERRUN : Fld := ⟨.SE_ERR, 20, 1, .w1c, 0x0⟩
/-- SE_ERR.LAST_REASON (R199). -/
def SE_ERR_LAST_REASON : Fld := ⟨.SE_ERR, 24, 4, .ro, 0x0⟩
/-- SE_HASH.HASH (R200). -/
def SE_HASH_HASH : Fld := ⟨.SE_HASH, 0, 64, .ro, 0x0⟩
/-- VU_STAT.BUSY (R201). -/
def VU_STAT_BUSY : Fld := ⟨.VU_STAT, 0, 1, .ro, 0x0⟩
/-- VU_STAT.SAMPLING (R201). -/
def VU_STAT_SAMPLING : Fld := ⟨.VU_STAT, 1, 1, .ro, 0x0⟩
/-- VU_STAT.INGRESS_ROWS (R201). -/
def VU_STAT_INGRESS_ROWS : Fld := ⟨.VU_STAT, 8, 8, .ro, 0x0⟩
/-- VU_FLAGS.OVF (R202). -/
def VU_FLAGS_OVF : Fld := ⟨.VU_FLAGS, 0, 1, .w1c, 0x0⟩
/-- VU_FLAGS.NAN (R202). -/
def VU_FLAGS_NAN : Fld := ⟨.VU_FLAGS, 1, 1, .w1c, 0x0⟩
/-- VU_FLAGS.INF (R202). -/
def VU_FLAGS_INF : Fld := ⟨.VU_FLAGS, 2, 1, .w1c, 0x0⟩
/-- VU_FLAGS.CSAT (R202). -/
def VU_FLAGS_CSAT : Fld := ⟨.VU_FLAGS, 3, 1, .w1c, 0x0⟩
/-- VU_FLAGS.POISON (R202). -/
def VU_FLAGS_POISON : Fld := ⟨.VU_FLAGS, 4, 1, .w1c, 0x0⟩
/-- VU_ERR.PARITY (R203). -/
def VU_ERR_PARITY : Fld := ⟨.VU_ERR, 0, 16, .ro, 0x0⟩
/-- VU_ERR.PARITY_SEEN (R203). -/
def VU_ERR_PARITY_SEEN : Fld := ⟨.VU_ERR, 16, 1, .w1c, 0x0⟩
/-- VU_ERR.INGRESS_FAULT (R203). -/
def VU_ERR_INGRESS_FAULT : Fld := ⟨.VU_ERR, 17, 1, .w1c, 0x0⟩
/-- VU_ERR.OP_INVALID (R203). -/
def VU_ERR_OP_INVALID : Fld := ⟨.VU_ERR, 18, 1, .w1c, 0x0⟩
/-- VU_ERR.SAMP_PARAM (R203). -/
def VU_ERR_SAMP_PARAM : Fld := ⟨.VU_ERR, 19, 1, .w1c, 0x0⟩
/-- VU_SAMP_COUNT.COUNT (R204). -/
def VU_SAMP_COUNT_COUNT : Fld := ⟨.VU_SAMP_COUNT, 0, 64, .ro, 0x0⟩
/-- VU_SAMP_LAST.TOKEN (R205). -/
def VU_SAMP_LAST_TOKEN : Fld := ⟨.VU_SAMP_LAST, 0, 32, .ro, 0x0⟩
/-- VU_SAMP_LAST.OUTCOME (R205). -/
def VU_SAMP_LAST_OUTCOME : Fld := ⟨.VU_SAMP_LAST, 32, 2, .ro, 0x0⟩
/-- VU_SAMP_LAST.POISON (R205). -/
def VU_SAMP_LAST_POISON : Fld := ⟨.VU_SAMP_LAST, 34, 1, .ro, 0x0⟩
/-- VU_SAMP_LAST.POSITION (R205). -/
def VU_SAMP_LAST_POSITION : Fld := ⟨.VU_SAMP_LAST, 40, 24, .ro, 0x0⟩
/-- VU_SAMP_STALL.CYCLES (R206). -/
def VU_SAMP_STALL_CYCLES : Fld := ⟨.VU_SAMP_STALL, 0, 32, .ro, 0x0⟩
/-- CORE_STAT.STATE (R254). -/
def CORE_STAT_STATE : Fld := ⟨.CORE_STAT, 0, 3, .ro, 0x0⟩
/-- CORE_STAT.FENCED (R254). -/
def CORE_STAT_FENCED : Fld := ⟨.CORE_STAT, 3, 1, .ro, 0x0⟩
/-- CORE_STAT.SPARE (R254). -/
def CORE_STAT_SPARE : Fld := ⟨.CORE_STAT, 4, 1, .ro, 0x0⟩
/-- CORE_STAT.FLASK (R254). -/
def CORE_STAT_FLASK : Fld := ⟨.CORE_STAT, 8, 4, .ro, 0x0⟩
/-- CORE_STAT.STAGED (R254). -/
def CORE_STAT_STAGED : Fld := ⟨.CORE_STAT, 12, 1, .ro, 0x0⟩
/-- CORE_STAT.BANK (R254). -/
def CORE_STAT_BANK : Fld := ⟨.CORE_STAT, 13, 1, .ro, 0x0⟩
/-- CORE_STAT.COMPAT (R254). -/
def CORE_STAT_COMPAT : Fld := ⟨.CORE_STAT, 14, 1, .ro, 0x0⟩
/-- CORE_SEQ.PC (R255). -/
def CORE_SEQ_PC : Fld := ⟨.CORE_SEQ, 0, 14, .ro, 0x0⟩
/-- CORE_SEQ.TEMPER (R255). -/
def CORE_SEQ_TEMPER : Fld := ⟨.CORE_SEQ, 14, 2, .ro, 0x0⟩
/-- CORE_SEQ.SWITCH_POINT (R255). -/
def CORE_SEQ_SWITCH_POINT : Fld := ⟨.CORE_SEQ, 16, 16, .ro, 0xFFFF⟩
/-- CORE_SC.SC (R256). -/
def CORE_SC_SC : Fld := ⟨.CORE_SC, 0, 48, .ro, 0x0⟩
/-- CORE_MOULD.ACTIVE_ID (R257). -/
def CORE_MOULD_ACTIVE_ID : Fld := ⟨.CORE_MOULD, 0, 32, .ro, 0x0⟩
/-- CORE_MOULD.STAGED_ID (R257). -/
def CORE_MOULD_STAGED_ID : Fld := ⟨.CORE_MOULD, 32, 32, .ro, 0x0⟩
/-- CORE_SEQ_ERR.LATE (R258). -/
def CORE_SEQ_ERR_LATE : Fld := ⟨.CORE_SEQ_ERR, 0, 1, .w1c, 0x0⟩
/-- CORE_SEQ_ERR.ISSUE_OVERFLOW (R258). -/
def CORE_SEQ_ERR_ISSUE_OVERFLOW : Fld := ⟨.CORE_SEQ_ERR, 1, 1, .w1c, 0x0⟩
/-- CORE_SEQ_ERR.ARRIVAL_LATE (R258). -/
def CORE_SEQ_ERR_ARRIVAL_LATE : Fld := ⟨.CORE_SEQ_ERR, 2, 1, .w1c, 0x0⟩
/-- CORE_SEQ_ERR.LAST_PC (R258). -/
def CORE_SEQ_ERR_LAST_PC : Fld := ⟨.CORE_SEQ_ERR, 16, 14, .ro, 0x0⟩
/-- CORE_QSTAT.NOCREDIT (R259). -/
def CORE_QSTAT_NOCREDIT : Fld := ⟨.CORE_QSTAT, 0, 32, .ro, 0x0⟩
/-- CORE_QSTAT.OVERRUN (R259). -/
def CORE_QSTAT_OVERRUN : Fld := ⟨.CORE_QSTAT, 32, 32, .ro, 0x0⟩
/-- SPD_STAT.ZEROING (R294). -/
def SPD_STAT_ZEROING : Fld := ⟨.SPD_STAT, 0, 1, .ro, 0x0⟩
/-- SPD_STAT.SPARE_MIN (R294). -/
def SPD_STAT_SPARE_MIN : Fld := ⟨.SPD_STAT, 8, 7, .ro, 0x40⟩
/-- SPD_STAT.SPARE_MIN_BANK (R294). -/
def SPD_STAT_SPARE_MIN_BANK : Fld := ⟨.SPD_STAT, 16, 6, .ro, 0x0⟩
/-- SPD_ECC.CORR (R295). -/
def SPD_ECC_CORR : Fld := ⟨.SPD_ECC, 0, 32, .ro, 0x0⟩
/-- SPD_ECC.UNCORR (R295). -/
def SPD_ECC_UNCORR : Fld := ⟨.SPD_ECC, 32, 16, .ro, 0x0⟩
/-- SPD_ECC.CORR_SEEN (R295). -/
def SPD_ECC_CORR_SEEN : Fld := ⟨.SPD_ECC, 48, 1, .w1c, 0x0⟩
/-- SPD_ECC.UNCORR_SEEN (R295). -/
def SPD_ECC_UNCORR_SEEN : Fld := ⟨.SPD_ECC, 49, 1, .w1c, 0x0⟩
/-- SPD_ECC_ADDR.OFFSET (R296). -/
def SPD_ECC_ADDR_OFFSET : Fld := ⟨.SPD_ECC_ADDR, 0, 28, .ro, 0x0⟩
/-- SPD_ECC_ADDR.UNCORR (R296). -/
def SPD_ECC_ADDR_UNCORR : Fld := ⟨.SPD_ECC_ADDR, 28, 1, .ro, 0x0⟩
/-- SPD_ECC_ADDR.SCRUB (R296). -/
def SPD_ECC_ADDR_SCRUB : Fld := ⟨.SPD_ECC_ADDR, 29, 1, .ro, 0x0⟩
/-- SPD_CONFLICT.COUNT (R297). -/
def SPD_CONFLICT_COUNT : Fld := ⟨.SPD_CONFLICT, 0, 16, .ro, 0x0⟩
/-- SPD_CONFLICT.WINNER (R297). -/
def SPD_CONFLICT_WINNER : Fld := ⟨.SPD_CONFLICT, 16, 7, .ro, 0x0⟩
/-- SPD_CONFLICT.LOSER (R297). -/
def SPD_CONFLICT_LOSER : Fld := ⟨.SPD_CONFLICT, 24, 7, .ro, 0x0⟩
/-- SPD_CONFLICT.SEEN (R297). -/
def SPD_CONFLICT_SEEN : Fld := ⟨.SPD_CONFLICT, 31, 1, .w1c, 0x0⟩
/-- SPD_SCRUB_CTL.DIS (R298). -/
def SPD_SCRUB_CTL_DIS : Fld := ⟨.SPD_SCRUB_CTL, 0, 1, .rw, 0x0⟩
/-- SPD_SCRUB_CTL.INTERVAL (R298). -/
def SPD_SCRUB_CTL_INTERVAL : Fld := ⟨.SPD_SCRUB_CTL, 4, 4, .rw, 0x4⟩
/-- SPD_SCRUB_STAT.PASSES (R299). -/
def SPD_SCRUB_STAT_PASSES : Fld := ⟨.SPD_SCRUB_STAT, 0, 32, .ro, 0x0⟩
/-- SPD_SCRUB_STAT.ROW (R299). -/
def SPD_SCRUB_STAT_ROW : Fld := ⟨.SPD_SCRUB_STAT, 32, 17, .ro, 0x0⟩
/-- SPD_SCRUB_STAT.BEHIND (R299). -/
def SPD_SCRUB_STAT_BEHIND : Fld := ⟨.SPD_SCRUB_STAT, 49, 1, .w1c, 0x0⟩
/-- SPD_ELASTIC.TIMEOUT (R300). -/
def SPD_ELASTIC_TIMEOUT : Fld := ⟨.SPD_ELASTIC, 0, 16, .ro, 0x0⟩
/-- SPD_ELASTIC.TIMEOUT_SEEN (R300). -/
def SPD_ELASTIC_TIMEOUT_SEEN : Fld := ⟨.SPD_ELASTIC, 16, 1, .w1c, 0x0⟩
/-- SPD_ELASTIC.GATHER_USED (R300). -/
def SPD_ELASTIC_GATHER_USED : Fld := ⟨.SPD_ELASTIC, 17, 5, .ro, 0x0⟩
/-- CCH_PART.STREAM_WAYS (R301). -/
def CCH_PART_STREAM_WAYS : Fld := ⟨.CCH_PART, 0, 4, .ro, 0x4⟩
/-- CCH_HITS.COUNT (R302). -/
def CCH_HITS_COUNT : Fld := ⟨.CCH_HITS, 0, 64, .ro, 0x0⟩
/-- CCH_MISSES.COUNT (R302). -/
def CCH_MISSES_COUNT : Fld := ⟨.CCH_MISSES, 0, 64, .ro, 0x0⟩
/-- CCH_PF.ISSUED (R303). -/
def CCH_PF_ISSUED : Fld := ⟨.CCH_PF, 0, 32, .ro, 0x0⟩
/-- CCH_PF.DROPPED (R303). -/
def CCH_PF_DROPPED : Fld := ⟨.CCH_PF, 32, 32, .ro, 0x0⟩
/-- CCH_ECC.CORR (R304). -/
def CCH_ECC_CORR : Fld := ⟨.CCH_ECC, 0, 32, .ro, 0x0⟩
/-- CCH_ECC.UNCORR (R304). -/
def CCH_ECC_UNCORR : Fld := ⟨.CCH_ECC, 32, 16, .ro, 0x0⟩
/-- CCH_ECC.CORR_SEEN (R304). -/
def CCH_ECC_CORR_SEEN : Fld := ⟨.CCH_ECC, 48, 1, .w1c, 0x0⟩
/-- CCH_ECC.UNCORR_SEEN (R304). -/
def CCH_ECC_UNCORR_SEEN : Fld := ⟨.CCH_ECC, 49, 1, .w1c, 0x0⟩
/-- CCH_ECC.DIRTY_LOSS (R304). -/
def CCH_ECC_DIRTY_LOSS : Fld := ⟨.CCH_ECC, 50, 1, .w1c, 0x0⟩
/-- CCH_HBM.TEMP_A (R305). -/
def CCH_HBM_TEMP_A : Fld := ⟨.CCH_HBM, 0, 8, .ro, 0x0⟩
/-- CCH_HBM.TEMP_B (R305). -/
def CCH_HBM_TEMP_B : Fld := ⟨.CCH_HBM, 8, 8, .ro, 0x0⟩
/-- CCH_HBM.FAST_REFRESH_A (R305). -/
def CCH_HBM_FAST_REFRESH_A : Fld := ⟨.CCH_HBM, 16, 1, .ro, 0x0⟩
/-- CCH_HBM.FAST_REFRESH_B (R305). -/
def CCH_HBM_FAST_REFRESH_B : Fld := ⟨.CCH_HBM, 17, 1, .ro, 0x0⟩
/-- CCH_HBM.HOT (R305). -/
def CCH_HBM_HOT : Fld := ⟨.CCH_HBM, 18, 1, .w1c, 0x0⟩
/-- CCH_HBM.CORR (R305). -/
def CCH_HBM_CORR : Fld := ⟨.CCH_HBM, 32, 16, .ro, 0x0⟩
/-- CCH_HBM.UNCORR (R305). -/
def CCH_HBM_UNCORR : Fld := ⟨.CCH_HBM, 48, 16, .ro, 0x0⟩
/-- CCH_HBM_ERR.OFFSET (R306). -/
def CCH_HBM_ERR_OFFSET : Fld := ⟨.CCH_HBM_ERR, 0, 41, .ro, 0x0⟩
/-- CCH_HBM_ERR.VALID (R306). -/
def CCH_HBM_ERR_VALID : Fld := ⟨.CCH_HBM_ERR, 63, 1, .w1c, 0x0⟩
/-- LDL_CTL.ABORT (R344). -/
def LDL_CTL_ABORT : Fld := ⟨.LDL_CTL, 0, 4, .wo, 0x0⟩
/-- LDL_STAT.LAST_SECTOR (R345). -/
def LDL_STAT_LAST_SECTOR : Fld := ⟨.LDL_STAT, 0, 24, .ro, 0x0⟩
/-- LDL_STAT.CTX (R345). -/
def LDL_STAT_CTX : Fld := ⟨.LDL_STAT, 24, 2, .ro, 0x0⟩
/-- LDL_STAT.STATUS (R345). -/
def LDL_STAT_STATUS : Fld := ⟨.LDL_STAT, 26, 3, .ro, 0x0⟩
/-- LDL_STAT.EXACT (R345). -/
def LDL_STAT_EXACT : Fld := ⟨.LDL_STAT, 29, 1, .ro, 0x0⟩
/-- LDL_STAT.VALID (R345). -/
def LDL_STAT_VALID : Fld := ⟨.LDL_STAT, 31, 1, .w1c, 0x0⟩
/-- LDL_STAT.OOB_WR (R345). -/
def LDL_STAT_OOB_WR : Fld := ⟨.LDL_STAT, 32, 24, .ro, 0x0⟩
/-- LDL_ERR.INVALID (R346). -/
def LDL_ERR_INVALID : Fld := ⟨.LDL_ERR, 0, 1, .w1c, 0x0⟩
/-- LDL_ERR.SCHED_OVERLAP (R346). -/
def LDL_ERR_SCHED_OVERLAP : Fld := ⟨.LDL_ERR, 1, 1, .w1c, 0x0⟩
/-- LDL_ERR.READ_FAULT (R346). -/
def LDL_ERR_READ_FAULT : Fld := ⟨.LDL_ERR, 2, 1, .w1c, 0x0⟩
/-- LDL_ERR.WRITE_FAIL (R346). -/
def LDL_ERR_WRITE_FAIL : Fld := ⟨.LDL_ERR, 3, 1, .w1c, 0x0⟩
/-- LDL_ERR.CMP_OVERFLOW (R346). -/
def LDL_ERR_CMP_OVERFLOW : Fld := ⟨.LDL_ERR, 4, 1, .w1c, 0x0⟩
/-- LDL_ERR.META (R346). -/
def LDL_ERR_META : Fld := ⟨.LDL_ERR, 5, 1, .w1c, 0x0⟩
/-- LDL_ERR.LAST_REASON (R346). -/
def LDL_ERR_LAST_REASON : Fld := ⟨.LDL_ERR, 8, 4, .ro, 0x0⟩
/-- LDL_ERR.CMP_COUNT (R346). -/
def LDL_ERR_CMP_COUNT : Fld := ⟨.LDL_ERR, 16, 16, .ro, 0x0⟩
/-- LDL_ERR.META_COUNT (R346). -/
def LDL_ERR_META_COUNT : Fld := ⟨.LDL_ERR, 32, 16, .ro, 0x0⟩
/-- LDL_FLAGS.OVF (R347). -/
def LDL_FLAGS_OVF : Fld := ⟨.LDL_FLAGS, 0, 1, .w1c, 0x0⟩
/-- LDL_FLAGS.NAN (R347). -/
def LDL_FLAGS_NAN : Fld := ⟨.LDL_FLAGS, 1, 1, .w1c, 0x0⟩
/-- LDL_FLAGS.INF (R347). -/
def LDL_FLAGS_INF : Fld := ⟨.LDL_FLAGS, 2, 1, .w1c, 0x0⟩
/-- LDL_FLAGS.POISON (R347). -/
def LDL_FLAGS_POISON : Fld := ⟨.LDL_FLAGS, 4, 1, .w1c, 0x0⟩
/-- LDL_CTX_n.LAST_SECTOR (R348). -/
def LDL_CTX_n_LAST_SECTOR : Fld := ⟨.LDL_CTX_n, 0, 24, .ro, 0x0⟩
/-- LDL_CTX_n.STATUS (R348). -/
def LDL_CTX_n_STATUS : Fld := ⟨.LDL_CTX_n, 24, 3, .ro, 0x0⟩
/-- LDL_CTX_n.EXACT (R348). -/
def LDL_CTX_n_EXACT : Fld := ⟨.LDL_CTX_n, 27, 1, .ro, 0x0⟩
/-- LDL_CTX_n.BUSY (R348). -/
def LDL_CTX_n_BUSY : Fld := ⟨.LDL_CTX_n, 28, 1, .ro, 0x0⟩
/-- LDL_CTX_n.ABORTING (R348). -/
def LDL_CTX_n_ABORTING : Fld := ⟨.LDL_CTX_n, 29, 1, .ro, 0x0⟩
/-- LDL_CTX_n.CORE (R348). -/
def LDL_CTX_n_CORE : Fld := ⟨.LDL_CTX_n, 32, 8, .ro, 0x0⟩
/-- LDL_CTX_n.TAG (R348). -/
def LDL_CTX_n_TAG : Fld := ⟨.LDL_CTX_n, 40, 12, .ro, 0x0⟩
/-- LDL_CTX_n.FLASK (R348). -/
def LDL_CTX_n_FLASK : Fld := ⟨.LDL_CTX_n, 52, 4, .ro, 0x0⟩
/-- LDL_CTX_n.CAUSE (R348). -/
def LDL_CTX_n_CAUSE : Fld := ⟨.LDL_CTX_n, 56, 3, .ro, 0x0⟩
/-- LDL_CTXW_n.WINDOW (R349). -/
def LDL_CTXW_n_WINDOW : Fld := ⟨.LDL_CTXW_n, 0, 31, .ro, 0x0⟩
/-- LDL_SECTORS.COUNT (R350). -/
def LDL_SECTORS_COUNT : Fld := ⟨.LDL_SECTORS, 0, 64, .ro, 0x0⟩
/-- LDL_CLAMP.CLAMP_RD (R351). -/
def LDL_CLAMP_CLAMP_RD : Fld := ⟨.LDL_CLAMP, 0, 32, .ro, 0x0⟩
/-- SPR_STAT.PERIOD_LOG2 (R378). -/
def SPR_STAT_PERIOD_LOG2 : Fld := ⟨.SPR_STAT, 0, 4, .ro, 0x0⟩
/-- SPR_STAT.TEMPER (R378). -/
def SPR_STAT_TEMPER : Fld := ⟨.SPR_STAT, 4, 2, .ro, 0x0⟩
/-- SPR_STAT.ACTIVE (R378). -/
def SPR_STAT_ACTIVE : Fld := ⟨.SPR_STAT, 6, 1, .ro, 0x0⟩
/-- SPR_STAT.OFF (R378). -/
def SPR_STAT_OFF : Fld := ⟨.SPR_STAT, 7, 1, .ro, 0x0⟩
/-- SPR_STAT.SKIP (R378). -/
def SPR_STAT_SKIP : Fld := ⟨.SPR_STAT, 8, 6, .ro, 0x0⟩
/-- SPR_SLIP.CAUSE (R379). -/
def SPR_SLIP_CAUSE : Fld := ⟨.SPR_SLIP, 0, 3, .ro, 0x0⟩
/-- SPR_SLIP.SEEN (R379). -/
def SPR_SLIP_SEEN : Fld := ⟨.SPR_SLIP, 3, 1, .w1c, 0x0⟩
/-- SPR_SLIP.INPUT (R379). -/
def SPR_SLIP_INPUT : Fld := ⟨.SPR_SLIP, 4, 4, .ro, 0x0⟩
/-- SPR_SLIP.COUNT (R379). -/
def SPR_SLIP_COUNT : Fld := ⟨.SPR_SLIP, 32, 16, .ro, 0x0⟩
/-- SPR_SLIP_INFO.SLOT (R380). -/
def SPR_SLIP_INFO_SLOT : Fld := ⟨.SPR_SLIP_INFO, 0, 13, .ro, 0x0⟩
/-- SPR_SLIP_INFO.FLOW (R380). -/
def SPR_SLIP_INFO_FLOW : Fld := ⟨.SPR_SLIP_INFO, 16, 16, .ro, 0x0⟩
/-- SPR_SLIP_INFO.ORIGIN (R380). -/
def SPR_SLIP_INFO_ORIGIN : Fld := ⟨.SPR_SLIP_INFO, 32, 16, .ro, 0x0⟩
/-- SPR_SLIP_INFO.TAG_SEEN (R380). -/
def SPR_SLIP_INFO_TAG_SEEN : Fld := ⟨.SPR_SLIP_INFO, 48, 16, .ro, 0x0⟩
/-- SPR_ERR.PARITY (R381). -/
def SPR_ERR_PARITY : Fld := ⟨.SPR_ERR, 0, 16, .ro, 0x0⟩
/-- SPR_ERR.HDR_CORR (R381). -/
def SPR_ERR_HDR_CORR : Fld := ⟨.SPR_ERR, 16, 16, .ro, 0x0⟩
/-- SPR_ERR.PARITY_SEEN (R381). -/
def SPR_ERR_PARITY_SEEN : Fld := ⟨.SPR_ERR, 32, 1, .w1c, 0x0⟩
/-- SPR_ERR.OVERWRITE (R381). -/
def SPR_ERR_OVERWRITE : Fld := ⟨.SPR_ERR, 33, 1, .w1c, 0x0⟩
/-- SPR_ELASTIC.SENT (R382). -/
def SPR_ELASTIC_SENT : Fld := ⟨.SPR_ELASTIC, 0, 32, .ro, 0x0⟩
/-- SPR_ELASTIC.LOST (R382). -/
def SPR_ELASTIC_LOST : Fld := ⟨.SPR_ELASTIC, 32, 16, .ro, 0x0⟩
/-- VNT_STAT.UP (R383). -/
def VNT_STAT_UP : Fld := ⟨.VNT_STAT, 0, 31, .ro, 0x7FFFFFFF⟩
/-- VNT_ERR.LINK_DOWN (R384). -/
def VNT_ERR_LINK_DOWN : Fld := ⟨.VNT_ERR, 0, 31, .w1c, 0x0⟩
/-- VNT_ERR.RETRIES (R384). -/
def VNT_ERR_RETRIES : Fld := ⟨.VNT_ERR, 32, 32, .ro, 0x0⟩
/-- RUN_STAT.STATE (R427). -/
def RUN_STAT_STATE : Fld := ⟨.RUN_STAT, 0, 3, .ro, 0x0⟩
/-- RUN_STAT.ENCRYPTED (R427). -/
def RUN_STAT_ENCRYPTED : Fld := ⟨.RUN_STAT, 3, 1, .ro, 0x0⟩
/-- RUN_STAT.SPARE_USED (R427). -/
def RUN_STAT_SPARE_USED : Fld := ⟨.RUN_STAT, 4, 1, .ro, 0x0⟩
/-- RUN_STAT.SPARE_FOR (R427). -/
def RUN_STAT_SPARE_FOR : Fld := ⟨.RUN_STAT, 5, 2, .ro, 0x0⟩
/-- RUN_STAT.LANE_OK (R427). -/
def RUN_STAT_LANE_OK : Fld := ⟨.RUN_STAT, 8, 5, .ro, 0x0⟩
/-- RUN_STAT.TREE_UP (R427). -/
def RUN_STAT_TREE_UP : Fld := ⟨.RUN_STAT, 13, 3, .ro, 0x0⟩
/-- RUN_STAT.POUR_LINK (R427). -/
def RUN_STAT_POUR_LINK : Fld := ⟨.RUN_STAT, 16, 1, .ro, 0x0⟩
/-- RUN_STAT.KEY_EPOCH (R427). -/
def RUN_STAT_KEY_EPOCH : Fld := ⟨.RUN_STAT, 24, 8, .ro, 0x0⟩
/-- RUN_STAT.PEER_MODULE (R427). -/
def RUN_STAT_PEER_MODULE : Fld := ⟨.RUN_STAT, 32, 16, .ro, 0x0⟩
/-- RUN_STAT.PEER_PORT (R427). -/
def RUN_STAT_PEER_PORT : Fld := ⟨.RUN_STAT, 48, 5, .ro, 0x0⟩
/-- RUN_STAT.PEER_VALID (R427). -/
def RUN_STAT_PEER_VALID : Fld := ⟨.RUN_STAT, 53, 1, .ro, 0x0⟩
/-- RUN_DELAY.DELAY_PS (R428). -/
def RUN_DELAY_DELAY_PS : Fld := ⟨.RUN_DELAY, 0, 32, .ro, 0x0⟩
/-- RUN_DELAY.HOP_BOUND (R428). -/
def RUN_DELAY_HOP_BOUND : Fld := ⟨.RUN_DELAY, 32, 16, .ro, 0x0⟩
/-- RUN_FEC.CORRECTED (R429). -/
def RUN_FEC_CORRECTED : Fld := ⟨.RUN_FEC, 0, 40, .ro, 0x0⟩
/-- RUN_FEC.UNCORR (R429). -/
def RUN_FEC_UNCORR : Fld := ⟨.RUN_FEC, 40, 16, .ro, 0x0⟩
/-- RUN_LANE_l.ERRORS (R430). -/
def RUN_LANE_l_ERRORS : Fld := ⟨.RUN_LANE_l, 0, 32, .ro, 0x0⟩
/-- RUN_LANE_l.PASS (R430). -/
def RUN_LANE_l_PASS : Fld := ⟨.RUN_LANE_l, 32, 1, .ro, 0x0⟩
/-- RUN_LANE_l.OUT (R430). -/
def RUN_LANE_l_OUT : Fld := ⟨.RUN_LANE_l, 33, 1, .ro, 0x0⟩
/-- RUN_LANE_l.UNCORR (R430). -/
def RUN_LANE_l_UNCORR : Fld := ⟨.RUN_LANE_l, 34, 1, .ro, 0x0⟩
/-- RUN_LANE_l.MAX_SYMBOLS (R430). -/
def RUN_LANE_l_MAX_SYMBOLS : Fld := ⟨.RUN_LANE_l, 36, 4, .ro, 0x0⟩
/-- RUN_LANE_l.WINDOWS (R430). -/
def RUN_LANE_l_WINDOWS : Fld := ⟨.RUN_LANE_l, 48, 16, .ro, 0x0⟩
/-- RUN_SCHED.TX (R431). -/
def RUN_SCHED_TX : Fld := ⟨.RUN_SCHED, 0, 32, .ro, 0x0⟩
/-- RUN_SCHED.RELEASED (R431). -/
def RUN_SCHED_RELEASED : Fld := ⟨.RUN_SCHED, 32, 32, .ro, 0x0⟩
/-- RUN_ERR.LOST (R432). -/
def RUN_ERR_LOST : Fld := ⟨.RUN_ERR, 0, 16, .ro, 0x0⟩
/-- RUN_ERR.LATE (R432). -/
def RUN_ERR_LATE : Fld := ⟨.RUN_ERR, 16, 16, .ro, 0x0⟩
/-- RUN_ERR.LOST_SEEN (R432). -/
def RUN_ERR_LOST_SEEN : Fld := ⟨.RUN_ERR, 32, 1, .w1c, 0x0⟩
/-- RUN_ERR.LATE_SEEN (R432). -/
def RUN_ERR_LATE_SEEN : Fld := ⟨.RUN_ERR, 33, 1, .w1c, 0x0⟩
/-- RUN_ERR.AUTH_FAIL (R432). -/
def RUN_ERR_AUTH_FAIL : Fld := ⟨.RUN_ERR, 34, 1, .w1c, 0x0⟩
/-- RUN_ERR.LANE_SWAPPED (R432). -/
def RUN_ERR_LANE_SWAPPED : Fld := ⟨.RUN_ERR, 35, 1, .w1c, 0x0⟩
/-- RUN_ERR.LINK_DOWN (R432). -/
def RUN_ERR_LINK_DOWN : Fld := ⟨.RUN_ERR, 36, 1, .w1c, 0x0⟩
/-- RUN_ERR.RELEASE_OVERFLOW (R432). -/
def RUN_ERR_RELEASE_OVERFLOW : Fld := ⟨.RUN_ERR, 37, 1, .w1c, 0x0⟩
/-- RUN_ERR.CTL_BAD (R432). -/
def RUN_ERR_CTL_BAD : Fld := ⟨.RUN_ERR, 38, 1, .w1c, 0x0⟩
/-- RUN_ELASTIC.REPLAYS (R433). -/
def RUN_ELASTIC_REPLAYS : Fld := ⟨.RUN_ELASTIC, 0, 16, .ro, 0x0⟩
/-- RUN_ELASTIC.DROPPED (R433). -/
def RUN_ELASTIC_DROPPED : Fld := ⟨.RUN_ELASTIC, 16, 16, .ro, 0x0⟩
/-- RUN_ELASTIC.NO_CREDIT (R433). -/
def RUN_ELASTIC_NO_CREDIT : Fld := ⟨.RUN_ELASTIC, 32, 16, .ro, 0x0⟩
/-- QUEUE_DB.COUNT (R458). -/
def QUEUE_DB_COUNT : Fld := ⟨.QUEUE_DB, 0, 16, .wo, 0x0⟩
/-- QUEUE_BASE.ADDR (R459). -/
def QUEUE_BASE_ADDR : Fld := ⟨.QUEUE_BASE, 12, 52, .rw, 0x0⟩
/-- QUEUE_CTL.ENABLE (R460). -/
def QUEUE_CTL_ENABLE : Fld := ⟨.QUEUE_CTL, 0, 1, .rw, 0x0⟩
/-- QUEUE_CTL.PORT (R460). -/
def QUEUE_CTL_PORT : Fld := ⟨.QUEUE_CTL, 1, 1, .rw, 0x0⟩
/-- QUEUE_CTL.INT_EN (R460). -/
def QUEUE_CTL_INT_EN : Fld := ⟨.QUEUE_CTL, 2, 1, .rw, 0x0⟩
/-- QUEUE_CTL.HOLDOFF (R460). -/
def QUEUE_CTL_HOLDOFF : Fld := ⟨.QUEUE_CTL, 8, 8, .rw, 0x0⟩
/-- QUEUE_CTL.VECTOR (R460). -/
def QUEUE_CTL_VECTOR : Fld := ⟨.QUEUE_CTL, 16, 11, .rw, 0x0⟩
/-- QUEUE_STAT.STATE (R461). -/
def QUEUE_STAT_STATE : Fld := ⟨.QUEUE_STAT, 0, 3, .ro, 0x0⟩
/-- QUEUE_STAT.KIND (R461). -/
def QUEUE_STAT_KIND : Fld := ⟨.QUEUE_STAT, 3, 1, .ro, 0x0⟩
/-- QUEUE_STAT.DEPTH_LOG2 (R461). -/
def QUEUE_STAT_DEPTH_LOG2 : Fld := ⟨.QUEUE_STAT, 4, 4, .ro, 0x0⟩
/-- QUEUE_STAT.DEV_COUNT (R461). -/
def QUEUE_STAT_DEV_COUNT : Fld := ⟨.QUEUE_STAT, 16, 16, .ro, 0x0⟩
/-- QUEUE_STAT.DB_ERR (R461). -/
def QUEUE_STAT_DB_ERR : Fld := ⟨.QUEUE_STAT, 32, 1, .w1c, 0x0⟩
/-- QUEUE_STAT.FETCH_ERR (R461). -/
def QUEUE_STAT_FETCH_ERR : Fld := ⟨.QUEUE_STAT, 33, 1, .w1c, 0x0⟩
/-- QUEUE_STAT.CFG_ERR (R461). -/
def QUEUE_STAT_CFG_ERR : Fld := ⟨.QUEUE_STAT, 34, 1, .w1c, 0x0⟩
/-- QUEUE_STAT.POST_DROP (R461). -/
def QUEUE_STAT_POST_DROP : Fld := ⟨.QUEUE_STAT, 35, 1, .w1c, 0x0⟩
/-- QUEUE_STAT.FAULT_CAUSE (R461). -/
def QUEUE_STAT_FAULT_CAUSE : Fld := ⟨.QUEUE_STAT, 36, 3, .ro, 0x0⟩
/-- QUEUE_WM.LEVEL (R462). -/
def QUEUE_WM_LEVEL : Fld := ⟨.QUEUE_WM, 0, 13, .rw, 0x0⟩
/-- QUEUE_WM.HIT (R462). -/
def QUEUE_WM_HIT : Fld := ⟨.QUEUE_WM, 31, 1, .w1c, 0x0⟩
/-- QUEUE_WM.EVENTS (R462). -/
def QUEUE_WM_EVENTS : Fld := ⟨.QUEUE_WM, 32, 32, .ro, 0x0⟩
/-- QUEUE_LEVEL.LIVE (R463). -/
def QUEUE_LEVEL_LIVE : Fld := ⟨.QUEUE_LEVEL, 0, 13, .ro, 0x0⟩
/-- QUEUE_LEVEL.Q_PEAK (R463). -/
def QUEUE_LEVEL_Q_PEAK : Fld := ⟨.QUEUE_LEVEL, 16, 13, .ro, 0x0⟩
/-- MOD_EVR_HEAD_n.HEAD (R465). -/
def MOD_EVR_HEAD_n_HEAD : Fld := ⟨.MOD_EVR_HEAD_n, 0, 32, .rw, 0x0⟩
/-- MOD_EVR_TAIL_n.TAIL (R465). -/
def MOD_EVR_TAIL_n_TAIL : Fld := ⟨.MOD_EVR_TAIL_n, 0, 32, .ro, 0x0⟩
/-- MOD_EVR_TAIL_n.LOST (R465). -/
def MOD_EVR_TAIL_n_LOST : Fld := ⟨.MOD_EVR_TAIL_n, 32, 16, .ro, 0x0⟩
/-- MOD_EVR_TAIL_n.ENABLED (R465). -/
def MOD_EVR_TAIL_n_ENABLED : Fld := ⟨.MOD_EVR_TAIL_n, 48, 1, .ro, 0x0⟩
/-- MOD_EVR_TAIL_n.LOST_SEEN (R465). -/
def MOD_EVR_TAIL_n_LOST_SEEN : Fld := ⟨.MOD_EVR_TAIL_n, 49, 1, .w1c, 0x0⟩
/-- MOD_EVR_TAIL_n.DEPTH_LOG2 (R465). -/
def MOD_EVR_TAIL_n_DEPTH_LOG2 : Fld := ⟨.MOD_EVR_TAIL_n, 50, 4, .ro, 0x0⟩
/-- MOD_HOST_STAT_p.LINK_UP (R471). -/
def MOD_HOST_STAT_p_LINK_UP : Fld := ⟨.MOD_HOST_STAT_p, 0, 1, .ro, 0x0⟩
/-- MOD_HOST_STAT_p.SPEED (R471). -/
def MOD_HOST_STAT_p_SPEED : Fld := ⟨.MOD_HOST_STAT_p, 1, 3, .ro, 0x0⟩
/-- MOD_HOST_STAT_p.WIDTH (R471). -/
def MOD_HOST_STAT_p_WIDTH : Fld := ⟨.MOD_HOST_STAT_p, 4, 5, .ro, 0x0⟩
/-- MOD_HOST_STAT_p.FLIT (R471). -/
def MOD_HOST_STAT_p_FLIT : Fld := ⟨.MOD_HOST_STAT_p, 9, 1, .ro, 0x0⟩
/-- MOD_HOST_STAT_p.BUS_MASTER (R471). -/
def MOD_HOST_STAT_p_BUS_MASTER : Fld := ⟨.MOD_HOST_STAT_p, 10, 1, .ro, 0x0⟩
/-- MOD_HOST_STAT_p.MSIX_EN (R471). -/
def MOD_HOST_STAT_p_MSIX_EN : Fld := ⟨.MOD_HOST_STAT_p, 11, 1, .ro, 0x0⟩
/-- MOD_HOST_STAT_p.FLR_SEEN (R471). -/
def MOD_HOST_STAT_p_FLR_SEEN : Fld := ⟨.MOD_HOST_STAT_p, 12, 1, .w1c, 0x0⟩
/-- MOD_HOST_STAT_p.LINK_LOST (R471). -/
def MOD_HOST_STAT_p_LINK_LOST : Fld := ⟨.MOD_HOST_STAT_p, 13, 1, .w1c, 0x0⟩
/-- MOD_HOST_ERR_p.POISON_RD (R471). -/
def MOD_HOST_ERR_p_POISON_RD : Fld := ⟨.MOD_HOST_ERR_p, 0, 16, .ro, 0x0⟩
/-- MOD_HOST_ERR_p.BAD_SIZE (R471). -/
def MOD_HOST_ERR_p_BAD_SIZE : Fld := ⟨.MOD_HOST_ERR_p, 16, 16, .ro, 0x0⟩
/-- MOD_HOST_ERR_p.CPL_TIMEOUT (R471). -/
def MOD_HOST_ERR_p_CPL_TIMEOUT : Fld := ⟨.MOD_HOST_ERR_p, 32, 16, .ro, 0x0⟩
/-- MOD_HOST_ERR_p.DISCARDED (R471). -/
def MOD_HOST_ERR_p_DISCARDED : Fld := ⟨.MOD_HOST_ERR_p, 48, 16, .ro, 0x0⟩
/-- MOD_MB_SUMMARY.BUSY (R495). -/
def MOD_MB_SUMMARY_BUSY : Fld := ⟨.MOD_MB_SUMMARY, 0, 16, .ro, 0x0⟩
/-- MOD_MB_SUMMARY.TERMINAL (R495). -/
def MOD_MB_SUMMARY_TERMINAL : Fld := ⟨.MOD_MB_SUMMARY, 16, 16, .w1c, 0x0⟩
/-- MOD_MB_SUMMARY.SIDEBAND_BUSY (R495). -/
def MOD_MB_SUMMARY_SIDEBAND_BUSY : Fld := ⟨.MOD_MB_SUMMARY, 32, 1, .ro, 0x0⟩
/-- MOD_MB_SUMMARY.RUNNING_LONG (R495). -/
def MOD_MB_SUMMARY_RUNNING_LONG : Fld := ⟨.MOD_MB_SUMMARY, 48, 16, .ro, 0x0⟩
/-- PWR_INPUT.VIN (R524). -/
def PWR_INPUT_VIN : Fld := ⟨.PWR_INPUT, 0, 16, .ro, 0x0⟩
/-- PWR_INPUT.IIN (R524). -/
def PWR_INPUT_IIN : Fld := ⟨.PWR_INPUT, 16, 16, .ro, 0x0⟩
/-- PWR_INPUT.PIN (R524). -/
def PWR_INPUT_PIN : Fld := ⟨.PWR_INPUT, 32, 16, .ro, 0x0⟩
/-- PWR_CAP.CAP_W (R525). -/
def PWR_CAP_CAP_W : Fld := ⟨.PWR_CAP, 0, 16, .ro, 0x30D4⟩
/-- PWR_CAP.BUBBLE_W (R525). -/
def PWR_CAP_BUBBLE_W : Fld := ⟨.PWR_CAP, 16, 16, .ro, 0x0⟩
/-- PWR_BUDGET.REQ_0 (R526). -/
def PWR_BUDGET_REQ_0 : Fld := ⟨.PWR_BUDGET, 0, 6, .ro, 0x0⟩
/-- PWR_BUDGET.REQ_1 (R526). -/
def PWR_BUDGET_REQ_1 : Fld := ⟨.PWR_BUDGET, 8, 6, .ro, 0x0⟩
/-- PWR_BUDGET.REQ_2 (R526). -/
def PWR_BUDGET_REQ_2 : Fld := ⟨.PWR_BUDGET, 16, 6, .ro, 0x0⟩
/-- PWR_BUDGET.REQ_3 (R526). -/
def PWR_BUDGET_REQ_3 : Fld := ⟨.PWR_BUDGET, 24, 6, .ro, 0x0⟩
/-- PWR_BUDGET.DERATE (R526). -/
def PWR_BUDGET_DERATE : Fld := ⟨.PWR_BUDGET, 32, 9, .ro, 0x100⟩
/-- PWR_BUDGET.UNMET (R526). -/
def PWR_BUDGET_UNMET : Fld := ⟨.PWR_BUDGET, 48, 1, .w1c, 0x0⟩
/-- PWR_BUDGET.STALE (R526). -/
def PWR_BUDGET_STALE : Fld := ⟨.PWR_BUDGET, 49, 1, .w1c, 0x0⟩
/-- PWR_VMIN_CTL.LOG_MARGIN (R527). -/
def PWR_VMIN_CTL_LOG_MARGIN : Fld := ⟨.PWR_VMIN_CTL, 0, 8, .rw, 0xF⟩
/-- PWR_VMIN_STAT.HEAD (R528). -/
def PWR_VMIN_STAT_HEAD : Fld := ⟨.PWR_VMIN_STAT, 0, 16, .ro, 0x0⟩
/-- PWR_VMIN_STAT.BREACHES (R528). -/
def PWR_VMIN_STAT_BREACHES : Fld := ⟨.PWR_VMIN_STAT, 16, 16, .ro, 0x0⟩
/-- PWR_VMIN_STAT.LIMIT_US (R528). -/
def PWR_VMIN_STAT_LIMIT_US : Fld := ⟨.PWR_VMIN_STAT, 32, 16, .ro, 0x0⟩
/-- PWR_VMIN_STAT.BREACH_SEEN (R528). -/
def PWR_VMIN_STAT_BREACH_SEEN : Fld := ⟨.PWR_VMIN_STAT, 48, 1, .w1c, 0x0⟩
/-- PWR_VMIN_STAT.LIMIT_SEEN (R528). -/
def PWR_VMIN_STAT_LIMIT_SEEN : Fld := ⟨.PWR_VMIN_STAT, 49, 1, .w1c, 0x0⟩
/-- PWR_SLEW.WAITS (R529). -/
def PWR_SLEW_WAITS : Fld := ⟨.PWR_SLEW, 0, 16, .ro, 0x0⟩
/-- PWR_SLEW.MAX_WAIT (R529). -/
def PWR_SLEW_MAX_WAIT : Fld := ⟨.PWR_SLEW, 16, 16, .ro, 0x0⟩
/-- PWR_THERM.TJ_MAX (R530). -/
def PWR_THERM_TJ_MAX : Fld := ⟨.PWR_THERM, 0, 8, .ro, 0x0⟩
/-- PWR_THERM.TJ_SOURCE (R530). -/
def PWR_THERM_TJ_SOURCE : Fld := ⟨.PWR_THERM, 8, 8, .ro, 0x0⟩
/-- PWR_THERM.THBM_MAX (R530). -/
def PWR_THERM_THBM_MAX : Fld := ⟨.PWR_THERM, 16, 8, .ro, 0x0⟩
/-- PWR_THERM.HIGH (R530). -/
def PWR_THERM_HIGH : Fld := ⟨.PWR_THERM, 32, 1, .w1c, 0x0⟩
/-- PWR_THERM.TRIPPED (R530). -/
def PWR_THERM_TRIPPED : Fld := ⟨.PWR_THERM, 33, 1, .ro, 0x0⟩
/-- PWR_RISER_LEAD.LEAD (R531). -/
def PWR_RISER_LEAD_LEAD : Fld := ⟨.PWR_RISER_LEAD, 0, 12, .ro, 0xBF8⟩
/-- PWR_CLUSTER_c.SETPOINT (R532). -/
def PWR_CLUSTER_c_SETPOINT : Fld := ⟨.PWR_CLUSTER_c, 0, 10, .ro, 0x0⟩
/-- PWR_CLUSTER_c.TRIM (R532). -/
def PWR_CLUSTER_c_TRIM : Fld := ⟨.PWR_CLUSTER_c, 16, 8, .ro, 0x0⟩
/-- PWR_CLUSTER_c.LOOP (R532). -/
def PWR_CLUSTER_c_LOOP : Fld := ⟨.PWR_CLUSTER_c, 24, 8, .ro, 0x0⟩
/-- PWR_CLUSTER_c.TILES_IN (R532). -/
def PWR_CLUSTER_c_TILES_IN : Fld := ⟨.PWR_CLUSTER_c, 32, 4, .ro, 0x0⟩
/-- PWR_CLUSTER_c.MARGIN (R532). -/
def PWR_CLUSTER_c_MARGIN : Fld := ⟨.PWR_CLUSTER_c, 40, 8, .ro, 0x0⟩
/-- PWR_CLUSTER_c.TEMP (R532). -/
def PWR_CLUSTER_c_TEMP : Fld := ⟨.PWR_CLUSTER_c, 48, 8, .ro, 0x0⟩
/-- PWR_CLUSTER_c.AT_LIMIT (R532). -/
def PWR_CLUSTER_c_AT_LIMIT : Fld := ⟨.PWR_CLUSTER_c, 56, 1, .ro, 0x0⟩
/-- PWR_ENERGY_n.UJ (R533). -/
def PWR_ENERGY_n_UJ : Fld := ⟨.PWR_ENERGY_n, 0, 64, .ro, 0x0⟩
/-- PWR_TILE_t.STATE (R534). -/
def PWR_TILE_t_STATE : Fld := ⟨.PWR_TILE_t, 0, 3, .ro, 0x0⟩
/-- PWR_TILE_t.SERVES (R534). -/
def PWR_TILE_t_SERVES : Fld := ⟨.PWR_TILE_t, 8, 8, .ro, 0xFF⟩
/-- PWR_TILE_t.CURRENT (R534). -/
def PWR_TILE_t_CURRENT : Fld := ⟨.PWR_TILE_t, 16, 16, .ro, 0x0⟩
/-- PWR_TILE_t.TEMP (R534). -/
def PWR_TILE_t_TEMP : Fld := ⟨.PWR_TILE_t, 32, 8, .ro, 0x0⟩
/-- PWR_TILE_t.OC (R534). -/
def PWR_TILE_t_OC : Fld := ⟨.PWR_TILE_t, 40, 1, .w1c, 0x0⟩
/-- PWR_TILE_t.OT (R534). -/
def PWR_TILE_t_OT : Fld := ⟨.PWR_TILE_t, 41, 1, .w1c, 0x0⟩
/-- PWR_TILE_t.WEAR (R534). -/
def PWR_TILE_t_WEAR : Fld := ⟨.PWR_TILE_t, 42, 1, .w1c, 0x0⟩
/-- PWR_TELEM_IN_p.RECORD (R535). -/
def PWR_TELEM_IN_p_RECORD : Fld := ⟨.PWR_TELEM_IN_p, 0, 64, .ro, 0x0⟩
/-- PST_STAT.STATE (R562). -/
def PST_STAT_STATE : Fld := ⟨.PST_STAT, 0, 3, .ro, 0x0⟩
/-- PST_STAT.PHASE (R562). -/
def PST_STAT_PHASE : Fld := ⟨.PST_STAT, 3, 2, .ro, 0x0⟩
/-- PST_STAT.TARGET (R562). -/
def PST_STAT_TARGET : Fld := ⟨.PST_STAT, 5, 3, .ro, 0x0⟩
/-- PST_STAT.ABANDONED (R562). -/
def PST_STAT_ABANDONED : Fld := ⟨.PST_STAT, 8, 1, .w1c, 0x0⟩
/-- PST_STAT.REPLAYED (R562). -/
def PST_STAT_REPLAYED : Fld := ⟨.PST_STAT, 9, 1, .w1c, 0x0⟩
/-- PST_STAT.READY_FAULT (R562). -/
def PST_STAT_READY_FAULT : Fld := ⟨.PST_STAT, 10, 1, .w1c, 0x0⟩
/-- PST_STAT.XTAL_FAIL (R562). -/
def PST_STAT_XTAL_FAIL : Fld := ⟨.PST_STAT, 11, 1, .ro, 0x0⟩
/-- PST_CTL.WAKE_TARGET (R563). -/
def PST_CTL_WAKE_TARGET : Fld := ⟨.PST_CTL, 0, 1, .rw, 0x0⟩
/-- PST_WAKE_EN.EN (R564). -/
def PST_WAKE_EN_EN : Fld := ⟨.PST_WAKE_EN, 0, 6, .rw, 0x25⟩
/-- PST_WAKE_STAT.LATCH (R565). -/
def PST_WAKE_STAT_LATCH : Fld := ⟨.PST_WAKE_STAT, 0, 6, .w1c, 0x0⟩
/-- PST_WAKE_STAT.LAST (R565). -/
def PST_WAKE_STAT_LAST : Fld := ⟨.PST_WAKE_STAT, 8, 6, .ro, 0x0⟩
/-- PST_WAKE_STAT.EXITS (R565). -/
def PST_WAKE_STAT_EXITS : Fld := ⟨.PST_WAKE_STAT, 16, 16, .ro, 0x0⟩
/-- PST_WAKE_REQ.WAKE (R566). -/
def PST_WAKE_REQ_WAKE : Fld := ⟨.PST_WAKE_REQ, 0, 1, .wo, 0x0⟩
/-- PST_TICKS.COUNT (R567). -/
def PST_TICKS_COUNT : Fld := ⟨.PST_TICKS, 0, 48, .ro, 0x0⟩
/-- PST_TIMER.COMPARE (R567). -/
def PST_TIMER_COMPARE : Fld := ⟨.PST_TIMER, 0, 48, .rw, 0xFFFFFFFFFFFF⟩
/-- PST_PAD_HOLD.HOLD (R568). -/
def PST_PAD_HOLD_HOLD : Fld := ⟨.PST_PAD_HOLD, 0, 6, .ro, 0x3F⟩
/-- PST_RAMP.RAMPING (R569). -/
def PST_RAMP_RAMPING : Fld := ⟨.PST_RAMP, 0, 5, .ro, 0x0⟩
/-- PST_RAMP.QUEUED (R569). -/
def PST_RAMP_QUEUED : Fld := ⟨.PST_RAMP, 8, 8, .ro, 0x0⟩
/-- PST_RAMP.PENDING_ONS (R569). -/
def PST_RAMP_PENDING_ONS : Fld := ⟨.PST_RAMP, 16, 16, .ro, 0x0⟩
/-- PST_STAT_TICK_TC0.TICKS (R570). -/
def PST_STAT_TICK_TC0_TICKS : Fld := ⟨.PST_STAT_TICK_TC0, 0, 48, .ro, 0x0⟩
/-- PST_CORE_PWR_r.STATE (R571). -/
def PST_CORE_PWR_r_STATE : Fld := ⟨.PST_CORE_PWR_r, 0, 48, .ro, 0x0⟩
/-- MOD_BOOT_STAT.STAGE (R601). -/
def MOD_BOOT_STAT_STAGE : Fld := ⟨.MOD_BOOT_STAT, 0, 4, .ro, 0x0⟩
/-- MOD_BOOT_STAT.READY (R601). -/
def MOD_BOOT_STAT_READY : Fld := ⟨.MOD_BOOT_STAT, 4, 1, .ro, 0x0⟩
/-- MOD_BOOT_STAT.FALLBACK (R601). -/
def MOD_BOOT_STAT_FALLBACK : Fld := ⟨.MOD_BOOT_STAT, 5, 1, .ro, 0x0⟩
/-- MOD_BOOT_STAT.SLOT (R601). -/
def MOD_BOOT_STAT_SLOT : Fld := ⟨.MOD_BOOT_STAT, 6, 1, .ro, 0x0⟩
/-- MOD_BOOT_STAT.PORTS_UP (R601). -/
def MOD_BOOT_STAT_PORTS_UP : Fld := ⟨.MOD_BOOT_STAT, 8, 5, .ro, 0x0⟩
/-- MOD_BOOT_STAT.BOOT_MS (R601). -/
def MOD_BOOT_STAT_BOOT_MS : Fld := ⟨.MOD_BOOT_STAT, 32, 16, .ro, 0x0⟩
/-- MOD_BOOT_ERR.REJECT_A (R602). -/
def MOD_BOOT_ERR_REJECT_A : Fld := ⟨.MOD_BOOT_ERR, 0, 8, .ro, 0x0⟩
/-- MOD_BOOT_ERR.REJECT_B (R602). -/
def MOD_BOOT_ERR_REJECT_B : Fld := ⟨.MOD_BOOT_ERR, 8, 8, .ro, 0x0⟩
/-- MOD_BOOT_ERR.REJECT_LAST (R602). -/
def MOD_BOOT_ERR_REJECT_LAST : Fld := ⟨.MOD_BOOT_ERR, 16, 8, .ro, 0x0⟩
/-- MOD_BOOT_ERR.FLASH_ERR (R602). -/
def MOD_BOOT_ERR_FLASH_ERR : Fld := ⟨.MOD_BOOT_ERR, 24, 4, .ro, 0x0⟩
/-- MOD_BOOT_ERR.SELFTEST_FENCES (R602). -/
def MOD_BOOT_ERR_SELFTEST_FENCES : Fld := ⟨.MOD_BOOT_ERR, 32, 8, .ro, 0x0⟩
/-- MOD_BOOT_ERR.STAGE_FAULT (R602). -/
def MOD_BOOT_ERR_STAGE_FAULT : Fld := ⟨.MOD_BOOT_ERR, 40, 1, .w1c, 0x0⟩
/-- MOD_BOOT_ERR.AGENT_FAULT (R602). -/
def MOD_BOOT_ERR_AGENT_FAULT : Fld := ⟨.MOD_BOOT_ERR, 41, 1, .w1c, 0x0⟩
/-- MOD_RESET_STAT.LAST (R603). -/
def MOD_RESET_STAT_LAST : Fld := ⟨.MOD_RESET_STAT, 0, 3, .ro, 0x0⟩
/-- MOD_RESET_STAT.IN_PROGRESS (R603). -/
def MOD_RESET_STAT_IN_PROGRESS : Fld := ⟨.MOD_RESET_STAT, 3, 1, .ro, 0x0⟩
/-- MOD_RESET_STAT.COMPUTE_RESETS (R603). -/
def MOD_RESET_STAT_COMPUTE_RESETS : Fld := ⟨.MOD_RESET_STAT, 16, 16, .ro, 0x0⟩
/-- MOD_RESET_STAT.MGMT_RESETS (R603). -/
def MOD_RESET_STAT_MGMT_RESETS : Fld := ⟨.MOD_RESET_STAT, 32, 16, .ro, 0x0⟩
/-- MOD_PORT_BOOT.MASK (R604). -/
def MOD_PORT_BOOT_MASK : Fld := ⟨.MOD_PORT_BOOT, 0, 24, .ro, 0xFFFFFF⟩
/-- MOD_FLASH_INFO.SIZE_LOG2 (R605). -/
def MOD_FLASH_INFO_SIZE_LOG2 : Fld := ⟨.MOD_FLASH_INFO, 0, 6, .ro, 0x0⟩
/-- MOD_FLASH_INFO.QUAD (R605). -/
def MOD_FLASH_INFO_QUAD : Fld := ⟨.MOD_FLASH_INFO, 6, 1, .ro, 0x0⟩
/-- MOD_FLASH_INFO.CLOCK_MHZ (R605). -/
def MOD_FLASH_INFO_CLOCK_MHZ : Fld := ⟨.MOD_FLASH_INFO, 8, 8, .ro, 0x0⟩
/-- MOD_FLASH_INFO.DIR_GEN (R605). -/
def MOD_FLASH_INFO_DIR_GEN : Fld := ⟨.MOD_FLASH_INFO, 32, 32, .ro, 0x0⟩
/-- PEP_CTL.SHARE (R634). -/
def PEP_CTL_SHARE : Fld := ⟨.PEP_CTL, 0, 14, .ro, 0x64⟩
/-- PEP_SEED.SEED (R635). -/
def PEP_SEED_SEED : Fld := ⟨.PEP_SEED, 0, 64, .ro, 0x0⟩
/-- PEP_STAT.TILES (R636). -/
def PEP_STAT_TILES : Fld := ⟨.PEP_STAT, 0, 32, .ro, 0x0⟩
/-- PEP_STAT.MISMATCHES (R636). -/
def PEP_STAT_MISMATCHES : Fld := ⟨.PEP_STAT, 32, 16, .ro, 0x0⟩
/-- PEP_STAT.STARVED (R636). -/
def PEP_STAT_STARVED : Fld := ⟨.PEP_STAT, 48, 16, .ro, 0x0⟩
/-- PEP_RESOLVE.TRANSIENTS (R637). -/
def PEP_RESOLVE_TRANSIENTS : Fld := ⟨.PEP_RESOLVE, 0, 16, .ro, 0x0⟩
/-- PEP_RESOLVE.CULPRITS (R637). -/
def PEP_RESOLVE_CULPRITS : Fld := ⟨.PEP_RESOLVE, 16, 16, .ro, 0x0⟩
/-- PEP_RESOLVE.UNRESOLVED (R637). -/
def PEP_RESOLVE_UNRESOLVED : Fld := ⟨.PEP_RESOLVE, 32, 16, .ro, 0x0⟩
/-- PEP_LAST.CORE (R638). -/
def PEP_LAST_CORE : Fld := ⟨.PEP_LAST, 0, 8, .ro, 0x0⟩
/-- PEP_LAST.TYPE (R638). -/
def PEP_LAST_TYPE : Fld := ⟨.PEP_LAST, 8, 2, .ro, 0x0⟩
/-- PEP_LAST.UNIT (R638). -/
def PEP_LAST_UNIT : Fld := ⟨.PEP_LAST, 10, 6, .ro, 0x0⟩
/-- PEP_LAST.COMBO (R638). -/
def PEP_LAST_COMBO : Fld := ⟨.PEP_LAST, 16, 4, .ro, 0x0⟩
/-- PEP_LAST.COLUMN (R638). -/
def PEP_LAST_COLUMN : Fld := ⟨.PEP_LAST, 20, 5, .ro, 0x0⟩
/-- PEP_LAST.LOCALISED (R638). -/
def PEP_LAST_LOCALISED : Fld := ⟨.PEP_LAST, 25, 1, .ro, 0x0⟩
/-- PEP_LAST.VALID (R638). -/
def PEP_LAST_VALID : Fld := ⟨.PEP_LAST, 63, 1, .w1c, 0x0⟩
/-- PEP_SWEEP.FRAME (R639). -/
def PEP_SWEEP_FRAME : Fld := ⟨.PEP_SWEEP, 0, 48, .ro, 0x0⟩
/-- MOD_FAULT_CTL.AUTO_REPAIR (R640). -/
def MOD_FAULT_CTL_AUTO_REPAIR : Fld := ⟨.MOD_FAULT_CTL, 0, 1, .rw, 0x1⟩
/-- MOD_FAULT_STAT.CONSEQUENTIAL (R641). -/
def MOD_FAULT_STAT_CONSEQUENTIAL : Fld := ⟨.MOD_FAULT_STAT, 0, 32, .ro, 0x0⟩
/-- MOD_FAULT_STAT.WINDOWS_OPEN (R641). -/
def MOD_FAULT_STAT_WINDOWS_OPEN : Fld := ⟨.MOD_FAULT_STAT, 32, 7, .ro, 0x0⟩
/-- MOD_FAULT_STAT.OVERFLOW (R641). -/
def MOD_FAULT_STAT_OVERFLOW : Fld := ⟨.MOD_FAULT_STAT, 39, 1, .w1c, 0x0⟩
/-- MOD_FAULT_STAT.PENDING (R641). -/
def MOD_FAULT_STAT_PENDING : Fld := ⟨.MOD_FAULT_STAT, 40, 1, .ro, 0x0⟩
/-- MOD_FAULT_STAT.BEACONS_SENT (R641). -/
def MOD_FAULT_STAT_BEACONS_SENT : Fld := ⟨.MOD_FAULT_STAT, 48, 16, .ro, 0x0⟩
/-- SAF_STAT.LIFECYCLE (R667). -/
def SAF_STAT_LIFECYCLE : Fld := ⟨.SAF_STAT, 0, 4, .ro, 0x2⟩
/-- SAF_STAT.TAMPER (R667). -/
def SAF_STAT_TAMPER : Fld := ⟨.SAF_STAT, 4, 1, .ro, 0x0⟩
/-- SAF_STAT.RELEASE_KEY (R667). -/
def SAF_STAT_RELEASE_KEY : Fld := ⟨.SAF_STAT, 5, 1, .ro, 0x0⟩
/-- SAF_STAT.MIN_SVN (R667). -/
def SAF_STAT_MIN_SVN : Fld := ⟨.SAF_STAT, 8, 8, .ro, 0x0⟩
/-- SAF_STAT.SEALED (R667). -/
def SAF_STAT_SEALED : Fld := ⟨.SAF_STAT, 16, 16, .ro, 0x0⟩
/-- SAF_STAT.FW_REVOKED (R667). -/
def SAF_STAT_FW_REVOKED : Fld := ⟨.SAF_STAT, 32, 4, .ro, 0x0⟩
/-- SAF_SLOT_ROLE.TENANT (R668). -/
def SAF_SLOT_ROLE_TENANT : Fld := ⟨.SAF_SLOT_ROLE, 0, 16, .rw, 0x0⟩
/-- SAF_SLOT_ROLE.LOCK (R668). -/
def SAF_SLOT_ROLE_LOCK : Fld := ⟨.SAF_SLOT_ROLE, 16, 1, .w1s, 0x0⟩
/-- SAF_SLOT_FLASK.FLASK (R669). -/
def SAF_SLOT_FLASK_FLASK : Fld := ⟨.SAF_SLOT_FLASK, 0, 64, .rw, 0x0⟩
/-- SAF_TAMPER.LATCHED (R670). -/
def SAF_TAMPER_LATCHED : Fld := ⟨.SAF_TAMPER, 0, 1, .ro, 0x0⟩
/-- SAF_TAMPER.LIVE (R670). -/
def SAF_TAMPER_LIVE : Fld := ⟨.SAF_TAMPER, 1, 7, .ro, 0x0⟩
/-- SAF_TAMPER.OVERFLOW (R670). -/
def SAF_TAMPER_OVERFLOW : Fld := ⟨.SAF_TAMPER, 16, 16, .ro, 0x0⟩
/-- SAF_TAMPER.NEWEST (R670). -/
def SAF_TAMPER_NEWEST : Fld := ⟨.SAF_TAMPER, 32, 32, .ro, 0x0⟩
/-- SAF_SECONDS.SECONDS (R671). -/
def SAF_SECONDS_SECONDS : Fld := ⟨.SAF_SECONDS, 0, 64, .ro, 0x0⟩
/-- SAF_KEYS.MOULD_PRESENT (R672). -/
def SAF_KEYS_MOULD_PRESENT : Fld := ⟨.SAF_KEYS, 0, 8, .ro, 0x1⟩
/-- SAF_KEYS.MOULD_REVOKED (R672). -/
def SAF_KEYS_MOULD_REVOKED : Fld := ⟨.SAF_KEYS, 8, 8, .ro, 0x0⟩
/-- SAF_ERR.HOST_DENIED (R673). -/
def SAF_ERR_HOST_DENIED : Fld := ⟨.SAF_ERR, 0, 16, .ro, 0x0⟩
/-- SAF_ERR.KEY_REJECT (R673). -/
def SAF_ERR_KEY_REJECT : Fld := ⟨.SAF_ERR, 16, 1, .w1c, 0x0⟩
/-- SAF_ERR.LINK_REFUSED (R673). -/
def SAF_ERR_LINK_REFUSED : Fld := ⟨.SAF_ERR, 17, 1, .w1c, 0x0⟩
/-- DBG_STAT.LEVEL (R691). -/
def DBG_STAT_LEVEL : Fld := ⟨.DBG_STAT, 0, 2, .ro, 0x0⟩
/-- DBG_STAT.FLAGS (R691). -/
def DBG_STAT_FLAGS : Fld := ⟨.DBG_STAT, 2, 3, .ro, 0x0⟩
/-- DBG_STAT.SESSION (R691). -/
def DBG_STAT_SESSION : Fld := ⟨.DBG_STAT, 8, 16, .ro, 0x0⟩
/-- DBG_STAT.SCOPE (R691). -/
def DBG_STAT_SCOPE : Fld := ⟨.DBG_STAT, 24, 16, .ro, 0x0⟩
/-- DBG_STAT.FAILS (R691). -/
def DBG_STAT_FAILS : Fld := ⟨.DBG_STAT, 40, 8, .ro, 0x0⟩
/-- DBG_HOLD.HELD (R692). -/
def DBG_HOLD_HELD : Fld := ⟨.DBG_HOLD, 0, 16, .ro, 0x0⟩
/-- DBG_HOLD.ARMED (R692). -/
def DBG_HOLD_ARMED : Fld := ⟨.DBG_HOLD, 16, 16, .ro, 0x0⟩
/-- DBG_BP_MATCH_n.MATCH (R693). -/
def DBG_BP_MATCH_n_MATCH : Fld := ⟨.DBG_BP_MATCH_n, 0, 64, .rw, 0x0⟩
/-- DBG_BP_LIMIT_n.LIMIT (R693). -/
def DBG_BP_LIMIT_n_LIMIT : Fld := ⟨.DBG_BP_LIMIT_n, 0, 64, .rw, 0x0⟩
/-- DBG_BP_CTL_n.KIND (R693). -/
def DBG_BP_CTL_n_KIND : Fld := ⟨.DBG_BP_CTL_n, 0, 3, .rw, 0x0⟩
/-- DBG_BP_CTL_n.ACTION (R693). -/
def DBG_BP_CTL_n_ACTION : Fld := ⟨.DBG_BP_CTL_n, 3, 2, .rw, 0x0⟩
/-- DBG_BP_CTL_n.RD (R693). -/
def DBG_BP_CTL_n_RD : Fld := ⟨.DBG_BP_CTL_n, 5, 1, .rw, 0x0⟩
/-- DBG_BP_CTL_n.WR (R693). -/
def DBG_BP_CTL_n_WR : Fld := ⟨.DBG_BP_CTL_n, 6, 1, .rw, 0x0⟩
/-- DBG_BP_CTL_n.FLASK (R693). -/
def DBG_BP_CTL_n_FLASK : Fld := ⟨.DBG_BP_CTL_n, 8, 4, .rw, 0x0⟩
/-- DBG_BP_CTL_n.VALUE (R693). -/
def DBG_BP_CTL_n_VALUE : Fld := ⟨.DBG_BP_CTL_n, 32, 32, .rw, 0x0⟩
/-- DBG_BP_HIT_n.HIT (R694). -/
def DBG_BP_HIT_n_HIT : Fld := ⟨.DBG_BP_HIT_n, 0, 1, .w1c, 0x0⟩
/-- DBG_BP_HIT_n.REQUESTER (R694). -/
def DBG_BP_HIT_n_REQUESTER : Fld := ⟨.DBG_BP_HIT_n, 1, 7, .ro, 0x0⟩
/-- DBG_BP_HIT_n.CORE (R694). -/
def DBG_BP_HIT_n_CORE : Fld := ⟨.DBG_BP_HIT_n, 8, 8, .ro, 0x0⟩
/-- DBG_BP_HIT_n.COUNT (R694). -/
def DBG_BP_HIT_n_COUNT : Fld := ⟨.DBG_BP_HIT_n, 16, 16, .ro, 0x0⟩
/-- DBG_BP_HIT_n.TC_LOW (R694). -/
def DBG_BP_HIT_n_TC_LOW : Fld := ⟨.DBG_BP_HIT_n, 32, 32, .ro, 0x0⟩
/-- MOD_LIFE.EQ_HOURS (R710). -/
def MOD_LIFE_EQ_HOURS : Fld := ⟨.MOD_LIFE, 0, 32, .ro, 0x0⟩
/-- MOD_LIFE.POWER_HOURS (R710). -/
def MOD_LIFE_POWER_HOURS : Fld := ⟨.MOD_LIFE, 32, 32, .ro, 0x0⟩
end F

/-- The fields of a register. -/
def Reg.fields : Reg → List Fld
  | .MOD_ID => [F.MOD_ID_FAMILY, F.MOD_ID_PART, F.MOD_ID_STEPPING, F.MOD_ID_COMPAT_LEVEL]
  | .MOD_GRID_STAT => [F.MOD_GRID_STAT_WIDTH, F.MOD_GRID_STAT_ROWS, F.MOD_GRID_STAT_SPARES, F.MOD_GRID_STAT_GEN, F.MOD_GRID_STAT_COMPAT_ACTIVE, F.MOD_GRID_STAT_COMPAT_BASE, F.MOD_GRID_STAT_OUT_OF_SERVICE]
  | .MOD_POUR_ID => [F.MOD_POUR_ID_MODULE, F.MOD_POUR_ID_POUR_TAG]
  | .MOD_ROW_MAP_r => [F.MOD_ROW_MAP_r_MAP]
  | .MOD_FA_FAULT_ADDR => [F.MOD_FA_FAULT_ADDR_FA]
  | .MOD_FA_FAULT_INFO => [F.MOD_FA_FAULT_INFO_REASON, F.MOD_FA_FAULT_INFO_WRITE, F.MOD_FA_FAULT_INFO_COUNT, F.MOD_FA_FAULT_INFO_VALID]
  | .MOD_APERTURE_CTL => [F.MOD_APERTURE_CTL_EN, F.MOD_APERTURE_CTL_WR_EN, F.MOD_APERTURE_CTL_DENIED]
  | .CLU_ID => [F.CLU_ID_CX, F.CLU_ID_CY, F.CLU_ID_STACK_A, F.CLU_ID_STACK_B, F.CLU_ID_PORT_BASE, F.CLU_ID_HOST0, F.CLU_ID_HOST1, F.CLU_ID_MGMT]
  | .CLU_CORES => [F.CLU_CORES_LOGICAL, F.CLU_CORES_FENCED, F.CLU_CORES_SPARE, F.CLU_CORES_ON]
  | .CLU_THERM => [F.CLU_THERM_TEMP, F.CLU_THERM_PEAK, F.CLU_THERM_CORE_MAX, F.CLU_THERM_CORE_MAX_K, F.CLU_THERM_PEAK_CLR, F.CLU_THERM_HIGH]
  | .CLU_VENT => [F.CLU_VENT_PACKETS, F.CLU_VENT_CTL_MAX, F.CLU_VENT_RSP_MAX, F.CLU_VENT_REQ_MAX]
  | .TC_NOW => [F.TC_NOW_COUNT]
  | .TC_ALIGN_STAT => [F.TC_ALIGN_STAT_STATE, F.TC_ALIGN_STAT_MASTER, F.TC_ALIGN_STAT_UPSTREAM, F.TC_ALIGN_STAT_HOPS, F.TC_ALIGN_STAT_ERROR]
  | .TC_FRAME => [F.TC_FRAME_FRAME, F.TC_FRAME_HOLD, F.TC_FRAME_EPOCH]
  | .TC_FRAME_TC => [F.TC_FRAME_TC_TC]
  | .CLK_PSTEP => [F.CLK_PSTEP_CURRENT, F.CLK_PSTEP_BAND, F.CLK_PSTEP_BUBBLES, F.CLK_PSTEP_TEMPER, F.CLK_PSTEP_SEQ]
  | .CLK_ARM_TARGET => [F.CLK_ARM_TARGET_T]
  | .CLK_ARM => [F.CLK_ARM_VALID, F.CLK_ARM_ACKED, F.CLK_ARM_GO, F.CLK_ARM_WITHDRAWN, F.CLK_ARM_PSTEP, F.CLK_ARM_BUBBLES, F.CLK_ARM_TEMPER, F.CLK_ARM_SEQ, F.CLK_ARM_NACK_REASON]
  | .CLK_CHG_STAT => [F.CLK_CHG_STAT_COMMITTED, F.CLK_CHG_STAT_WITHDRAWN, F.CLK_CHG_STAT_DESYNC, F.CLK_CHG_STAT_MISSING, F.CLK_CHG_STAT_CONFLICT, F.CLK_CHG_STAT_ALIGN]
  | .CLK_STOP_STAT => [F.CLK_STOP_STAT_STOPPED, F.CLK_STOP_STAT_RELOCK_FAIL]
  | .ME_CAP => [F.ME_CAP_WIDTH, F.ME_CAP_BYPASS, F.ME_CAP_BYPASS_COL, F.ME_CAP_QUAD_NARROW]
  | .ME_CTL => [F.ME_CTL_GATE_DIS]
  | .ME_STAT => [F.ME_STAT_BUSY, F.ME_STAT_SHAPE, F.ME_STAT_BANK, F.ME_STAT_HELD]
  | .ME_FLAGS => [F.ME_FLAGS_OVF, F.ME_FLAGS_NAN, F.ME_FLAGS_INF, F.ME_FLAGS_CSAT, F.ME_FLAGS_POISON]
  | .ME_TILES => [F.ME_TILES_COUNT]
  | .ME_GATED => [F.ME_GATED_COUNT]
  | .ME_STALL => [F.ME_STALL_SWAP, F.ME_STALL_SHAPE]
  | .ME_ERR => [F.ME_ERR_PARITY, F.ME_ERR_PARITY_SEEN, F.ME_ERR_CHAIN_LATE, F.ME_ERR_OP_INVALID, F.ME_ERR_LAST_REASON]
  | .ME_HASH => [F.ME_HASH_HASH]
  | .ME_LAST_TAG => [F.ME_LAST_TAG_TAG, F.ME_LAST_TAG_QUAD]
  | .SE_STAT => [F.SE_STAT_BUSY, F.SE_STAT_BANK, F.SE_STAT_HELD]
  | .SE_FLAGS => [F.SE_FLAGS_OVF, F.SE_FLAGS_NAN, F.SE_FLAGS_INF, F.SE_FLAGS_CSAT, F.SE_FLAGS_POISON]
  | .SE_TILES => [F.SE_TILES_COUNT]
  | .SE_SKIPPED => [F.SE_SKIPPED_COUNT]
  | .SE_STALL => [F.SE_STALL_SWAP]
  | .SE_ERR => [F.SE_ERR_PARITY, F.SE_ERR_PARITY_SEEN, F.SE_ERR_CHAIN_LATE, F.SE_ERR_OP_INVALID, F.SE_ERR_META, F.SE_ERR_OVERRUN, F.SE_ERR_LAST_REASON]
  | .SE_HASH => [F.SE_HASH_HASH]
  | .VU_STAT => [F.VU_STAT_BUSY, F.VU_STAT_SAMPLING, F.VU_STAT_INGRESS_ROWS]
  | .VU_FLAGS => [F.VU_FLAGS_OVF, F.VU_FLAGS_NAN, F.VU_FLAGS_INF, F.VU_FLAGS_CSAT, F.VU_FLAGS_POISON]
  | .VU_ERR => [F.VU_ERR_PARITY, F.VU_ERR_PARITY_SEEN, F.VU_ERR_INGRESS_FAULT, F.VU_ERR_OP_INVALID, F.VU_ERR_SAMP_PARAM]
  | .VU_SAMP_COUNT => [F.VU_SAMP_COUNT_COUNT]
  | .VU_SAMP_LAST => [F.VU_SAMP_LAST_TOKEN, F.VU_SAMP_LAST_OUTCOME, F.VU_SAMP_LAST_POISON, F.VU_SAMP_LAST_POSITION]
  | .VU_SAMP_STALL => [F.VU_SAMP_STALL_CYCLES]
  | .CORE_STAT => [F.CORE_STAT_STATE, F.CORE_STAT_FENCED, F.CORE_STAT_SPARE, F.CORE_STAT_FLASK, F.CORE_STAT_STAGED, F.CORE_STAT_BANK, F.CORE_STAT_COMPAT]
  | .CORE_SEQ => [F.CORE_SEQ_PC, F.CORE_SEQ_TEMPER, F.CORE_SEQ_SWITCH_POINT]
  | .CORE_SC => [F.CORE_SC_SC]
  | .CORE_MOULD => [F.CORE_MOULD_ACTIVE_ID, F.CORE_MOULD_STAGED_ID]
  | .CORE_SEQ_ERR => [F.CORE_SEQ_ERR_LATE, F.CORE_SEQ_ERR_ISSUE_OVERFLOW, F.CORE_SEQ_ERR_ARRIVAL_LATE, F.CORE_SEQ_ERR_LAST_PC]
  | .CORE_QSTAT => [F.CORE_QSTAT_NOCREDIT, F.CORE_QSTAT_OVERRUN]
  | .SPD_STAT => [F.SPD_STAT_ZEROING, F.SPD_STAT_SPARE_MIN, F.SPD_STAT_SPARE_MIN_BANK]
  | .SPD_ECC => [F.SPD_ECC_CORR, F.SPD_ECC_UNCORR, F.SPD_ECC_CORR_SEEN, F.SPD_ECC_UNCORR_SEEN]
  | .SPD_ECC_ADDR => [F.SPD_ECC_ADDR_OFFSET, F.SPD_ECC_ADDR_UNCORR, F.SPD_ECC_ADDR_SCRUB]
  | .SPD_CONFLICT => [F.SPD_CONFLICT_COUNT, F.SPD_CONFLICT_WINNER, F.SPD_CONFLICT_LOSER, F.SPD_CONFLICT_SEEN]
  | .SPD_SCRUB_CTL => [F.SPD_SCRUB_CTL_DIS, F.SPD_SCRUB_CTL_INTERVAL]
  | .SPD_SCRUB_STAT => [F.SPD_SCRUB_STAT_PASSES, F.SPD_SCRUB_STAT_ROW, F.SPD_SCRUB_STAT_BEHIND]
  | .SPD_ELASTIC => [F.SPD_ELASTIC_TIMEOUT, F.SPD_ELASTIC_TIMEOUT_SEEN, F.SPD_ELASTIC_GATHER_USED]
  | .CCH_PART => [F.CCH_PART_STREAM_WAYS]
  | .CCH_HITS => [F.CCH_HITS_COUNT]
  | .CCH_MISSES => [F.CCH_MISSES_COUNT]
  | .CCH_PF => [F.CCH_PF_ISSUED, F.CCH_PF_DROPPED]
  | .CCH_ECC => [F.CCH_ECC_CORR, F.CCH_ECC_UNCORR, F.CCH_ECC_CORR_SEEN, F.CCH_ECC_UNCORR_SEEN, F.CCH_ECC_DIRTY_LOSS]
  | .CCH_HBM => [F.CCH_HBM_TEMP_A, F.CCH_HBM_TEMP_B, F.CCH_HBM_FAST_REFRESH_A, F.CCH_HBM_FAST_REFRESH_B, F.CCH_HBM_HOT, F.CCH_HBM_CORR, F.CCH_HBM_UNCORR]
  | .CCH_HBM_ERR => [F.CCH_HBM_ERR_OFFSET, F.CCH_HBM_ERR_VALID]
  | .LDL_CTL => [F.LDL_CTL_ABORT]
  | .LDL_STAT => [F.LDL_STAT_LAST_SECTOR, F.LDL_STAT_CTX, F.LDL_STAT_STATUS, F.LDL_STAT_EXACT, F.LDL_STAT_VALID, F.LDL_STAT_OOB_WR]
  | .LDL_ERR => [F.LDL_ERR_INVALID, F.LDL_ERR_SCHED_OVERLAP, F.LDL_ERR_READ_FAULT, F.LDL_ERR_WRITE_FAIL, F.LDL_ERR_CMP_OVERFLOW, F.LDL_ERR_META, F.LDL_ERR_LAST_REASON, F.LDL_ERR_CMP_COUNT, F.LDL_ERR_META_COUNT]
  | .LDL_FLAGS => [F.LDL_FLAGS_OVF, F.LDL_FLAGS_NAN, F.LDL_FLAGS_INF, F.LDL_FLAGS_POISON]
  | .LDL_CTX_n => [F.LDL_CTX_n_LAST_SECTOR, F.LDL_CTX_n_STATUS, F.LDL_CTX_n_EXACT, F.LDL_CTX_n_BUSY, F.LDL_CTX_n_ABORTING, F.LDL_CTX_n_CORE, F.LDL_CTX_n_TAG, F.LDL_CTX_n_FLASK, F.LDL_CTX_n_CAUSE]
  | .LDL_CTXW_n => [F.LDL_CTXW_n_WINDOW]
  | .LDL_SECTORS => [F.LDL_SECTORS_COUNT]
  | .LDL_CLAMP => [F.LDL_CLAMP_CLAMP_RD]
  | .SPR_STAT => [F.SPR_STAT_PERIOD_LOG2, F.SPR_STAT_TEMPER, F.SPR_STAT_ACTIVE, F.SPR_STAT_OFF, F.SPR_STAT_SKIP]
  | .SPR_SLIP => [F.SPR_SLIP_CAUSE, F.SPR_SLIP_SEEN, F.SPR_SLIP_INPUT, F.SPR_SLIP_COUNT]
  | .SPR_SLIP_INFO => [F.SPR_SLIP_INFO_SLOT, F.SPR_SLIP_INFO_FLOW, F.SPR_SLIP_INFO_ORIGIN, F.SPR_SLIP_INFO_TAG_SEEN]
  | .SPR_ERR => [F.SPR_ERR_PARITY, F.SPR_ERR_HDR_CORR, F.SPR_ERR_PARITY_SEEN, F.SPR_ERR_OVERWRITE]
  | .SPR_ELASTIC => [F.SPR_ELASTIC_SENT, F.SPR_ELASTIC_LOST]
  | .VNT_STAT => [F.VNT_STAT_UP]
  | .VNT_ERR => [F.VNT_ERR_LINK_DOWN, F.VNT_ERR_RETRIES]
  | .RUN_STAT => [F.RUN_STAT_STATE, F.RUN_STAT_ENCRYPTED, F.RUN_STAT_SPARE_USED, F.RUN_STAT_SPARE_FOR, F.RUN_STAT_LANE_OK, F.RUN_STAT_TREE_UP, F.RUN_STAT_POUR_LINK, F.RUN_STAT_KEY_EPOCH, F.RUN_STAT_PEER_MODULE, F.RUN_STAT_PEER_PORT, F.RUN_STAT_PEER_VALID]
  | .RUN_DELAY => [F.RUN_DELAY_DELAY_PS, F.RUN_DELAY_HOP_BOUND]
  | .RUN_FEC => [F.RUN_FEC_CORRECTED, F.RUN_FEC_UNCORR]
  | .RUN_LANE_l => [F.RUN_LANE_l_ERRORS, F.RUN_LANE_l_PASS, F.RUN_LANE_l_OUT, F.RUN_LANE_l_UNCORR, F.RUN_LANE_l_MAX_SYMBOLS, F.RUN_LANE_l_WINDOWS]
  | .RUN_SCHED => [F.RUN_SCHED_TX, F.RUN_SCHED_RELEASED]
  | .RUN_ERR => [F.RUN_ERR_LOST, F.RUN_ERR_LATE, F.RUN_ERR_LOST_SEEN, F.RUN_ERR_LATE_SEEN, F.RUN_ERR_AUTH_FAIL, F.RUN_ERR_LANE_SWAPPED, F.RUN_ERR_LINK_DOWN, F.RUN_ERR_RELEASE_OVERFLOW, F.RUN_ERR_CTL_BAD]
  | .RUN_ELASTIC => [F.RUN_ELASTIC_REPLAYS, F.RUN_ELASTIC_DROPPED, F.RUN_ELASTIC_NO_CREDIT]
  | .QUEUE_DB => [F.QUEUE_DB_COUNT]
  | .QUEUE_BASE => [F.QUEUE_BASE_ADDR]
  | .QUEUE_CTL => [F.QUEUE_CTL_ENABLE, F.QUEUE_CTL_PORT, F.QUEUE_CTL_INT_EN, F.QUEUE_CTL_HOLDOFF, F.QUEUE_CTL_VECTOR]
  | .QUEUE_STAT => [F.QUEUE_STAT_STATE, F.QUEUE_STAT_KIND, F.QUEUE_STAT_DEPTH_LOG2, F.QUEUE_STAT_DEV_COUNT, F.QUEUE_STAT_DB_ERR, F.QUEUE_STAT_FETCH_ERR, F.QUEUE_STAT_CFG_ERR, F.QUEUE_STAT_POST_DROP, F.QUEUE_STAT_FAULT_CAUSE]
  | .QUEUE_WM => [F.QUEUE_WM_LEVEL, F.QUEUE_WM_HIT, F.QUEUE_WM_EVENTS]
  | .QUEUE_LEVEL => [F.QUEUE_LEVEL_LIVE, F.QUEUE_LEVEL_Q_PEAK]
  | .MOD_EVR_HEAD_n => [F.MOD_EVR_HEAD_n_HEAD]
  | .MOD_EVR_TAIL_n => [F.MOD_EVR_TAIL_n_TAIL, F.MOD_EVR_TAIL_n_LOST, F.MOD_EVR_TAIL_n_ENABLED, F.MOD_EVR_TAIL_n_LOST_SEEN, F.MOD_EVR_TAIL_n_DEPTH_LOG2]
  | .MOD_HOST_STAT_p => [F.MOD_HOST_STAT_p_LINK_UP, F.MOD_HOST_STAT_p_SPEED, F.MOD_HOST_STAT_p_WIDTH, F.MOD_HOST_STAT_p_FLIT, F.MOD_HOST_STAT_p_BUS_MASTER, F.MOD_HOST_STAT_p_MSIX_EN, F.MOD_HOST_STAT_p_FLR_SEEN, F.MOD_HOST_STAT_p_LINK_LOST]
  | .MOD_HOST_ERR_p => [F.MOD_HOST_ERR_p_POISON_RD, F.MOD_HOST_ERR_p_BAD_SIZE, F.MOD_HOST_ERR_p_CPL_TIMEOUT, F.MOD_HOST_ERR_p_DISCARDED]
  | .MOD_MB_SUMMARY => [F.MOD_MB_SUMMARY_BUSY, F.MOD_MB_SUMMARY_TERMINAL, F.MOD_MB_SUMMARY_SIDEBAND_BUSY, F.MOD_MB_SUMMARY_RUNNING_LONG]
  | .PWR_INPUT => [F.PWR_INPUT_VIN, F.PWR_INPUT_IIN, F.PWR_INPUT_PIN]
  | .PWR_CAP => [F.PWR_CAP_CAP_W, F.PWR_CAP_BUBBLE_W]
  | .PWR_BUDGET => [F.PWR_BUDGET_REQ_0, F.PWR_BUDGET_REQ_1, F.PWR_BUDGET_REQ_2, F.PWR_BUDGET_REQ_3, F.PWR_BUDGET_DERATE, F.PWR_BUDGET_UNMET, F.PWR_BUDGET_STALE]
  | .PWR_VMIN_CTL => [F.PWR_VMIN_CTL_LOG_MARGIN]
  | .PWR_VMIN_STAT => [F.PWR_VMIN_STAT_HEAD, F.PWR_VMIN_STAT_BREACHES, F.PWR_VMIN_STAT_LIMIT_US, F.PWR_VMIN_STAT_BREACH_SEEN, F.PWR_VMIN_STAT_LIMIT_SEEN]
  | .PWR_SLEW => [F.PWR_SLEW_WAITS, F.PWR_SLEW_MAX_WAIT]
  | .PWR_THERM => [F.PWR_THERM_TJ_MAX, F.PWR_THERM_TJ_SOURCE, F.PWR_THERM_THBM_MAX, F.PWR_THERM_HIGH, F.PWR_THERM_TRIPPED]
  | .PWR_RISER_LEAD => [F.PWR_RISER_LEAD_LEAD]
  | .PWR_CLUSTER_c => [F.PWR_CLUSTER_c_SETPOINT, F.PWR_CLUSTER_c_TRIM, F.PWR_CLUSTER_c_LOOP, F.PWR_CLUSTER_c_TILES_IN, F.PWR_CLUSTER_c_MARGIN, F.PWR_CLUSTER_c_TEMP, F.PWR_CLUSTER_c_AT_LIMIT]
  | .PWR_ENERGY_n => [F.PWR_ENERGY_n_UJ]
  | .PWR_TILE_t => [F.PWR_TILE_t_STATE, F.PWR_TILE_t_SERVES, F.PWR_TILE_t_CURRENT, F.PWR_TILE_t_TEMP, F.PWR_TILE_t_OC, F.PWR_TILE_t_OT, F.PWR_TILE_t_WEAR]
  | .PWR_TELEM_IN_p => [F.PWR_TELEM_IN_p_RECORD]
  | .PST_STAT => [F.PST_STAT_STATE, F.PST_STAT_PHASE, F.PST_STAT_TARGET, F.PST_STAT_ABANDONED, F.PST_STAT_REPLAYED, F.PST_STAT_READY_FAULT, F.PST_STAT_XTAL_FAIL]
  | .PST_CTL => [F.PST_CTL_WAKE_TARGET]
  | .PST_WAKE_EN => [F.PST_WAKE_EN_EN]
  | .PST_WAKE_STAT => [F.PST_WAKE_STAT_LATCH, F.PST_WAKE_STAT_LAST, F.PST_WAKE_STAT_EXITS]
  | .PST_WAKE_REQ => [F.PST_WAKE_REQ_WAKE]
  | .PST_TICKS => [F.PST_TICKS_COUNT]
  | .PST_TIMER => [F.PST_TIMER_COMPARE]
  | .PST_PAD_HOLD => [F.PST_PAD_HOLD_HOLD]
  | .PST_RAMP => [F.PST_RAMP_RAMPING, F.PST_RAMP_QUEUED, F.PST_RAMP_PENDING_ONS]
  | .PST_STAT_TICK_TC0 => [F.PST_STAT_TICK_TC0_TICKS]
  | .PST_CORE_PWR_r => [F.PST_CORE_PWR_r_STATE]
  | .MOD_BOOT_STAT => [F.MOD_BOOT_STAT_STAGE, F.MOD_BOOT_STAT_READY, F.MOD_BOOT_STAT_FALLBACK, F.MOD_BOOT_STAT_SLOT, F.MOD_BOOT_STAT_PORTS_UP, F.MOD_BOOT_STAT_BOOT_MS]
  | .MOD_BOOT_ERR => [F.MOD_BOOT_ERR_REJECT_A, F.MOD_BOOT_ERR_REJECT_B, F.MOD_BOOT_ERR_REJECT_LAST, F.MOD_BOOT_ERR_FLASH_ERR, F.MOD_BOOT_ERR_SELFTEST_FENCES, F.MOD_BOOT_ERR_STAGE_FAULT, F.MOD_BOOT_ERR_AGENT_FAULT]
  | .MOD_RESET_STAT => [F.MOD_RESET_STAT_LAST, F.MOD_RESET_STAT_IN_PROGRESS, F.MOD_RESET_STAT_COMPUTE_RESETS, F.MOD_RESET_STAT_MGMT_RESETS]
  | .MOD_PORT_BOOT => [F.MOD_PORT_BOOT_MASK]
  | .MOD_FLASH_INFO => [F.MOD_FLASH_INFO_SIZE_LOG2, F.MOD_FLASH_INFO_QUAD, F.MOD_FLASH_INFO_CLOCK_MHZ, F.MOD_FLASH_INFO_DIR_GEN]
  | .PEP_CTL => [F.PEP_CTL_SHARE]
  | .PEP_SEED => [F.PEP_SEED_SEED]
  | .PEP_STAT => [F.PEP_STAT_TILES, F.PEP_STAT_MISMATCHES, F.PEP_STAT_STARVED]
  | .PEP_RESOLVE => [F.PEP_RESOLVE_TRANSIENTS, F.PEP_RESOLVE_CULPRITS, F.PEP_RESOLVE_UNRESOLVED]
  | .PEP_LAST => [F.PEP_LAST_CORE, F.PEP_LAST_TYPE, F.PEP_LAST_UNIT, F.PEP_LAST_COMBO, F.PEP_LAST_COLUMN, F.PEP_LAST_LOCALISED, F.PEP_LAST_VALID]
  | .PEP_SWEEP => [F.PEP_SWEEP_FRAME]
  | .MOD_FAULT_CTL => [F.MOD_FAULT_CTL_AUTO_REPAIR]
  | .MOD_FAULT_STAT => [F.MOD_FAULT_STAT_CONSEQUENTIAL, F.MOD_FAULT_STAT_WINDOWS_OPEN, F.MOD_FAULT_STAT_OVERFLOW, F.MOD_FAULT_STAT_PENDING, F.MOD_FAULT_STAT_BEACONS_SENT]
  | .SAF_STAT => [F.SAF_STAT_LIFECYCLE, F.SAF_STAT_TAMPER, F.SAF_STAT_RELEASE_KEY, F.SAF_STAT_MIN_SVN, F.SAF_STAT_SEALED, F.SAF_STAT_FW_REVOKED]
  | .SAF_SLOT_ROLE => [F.SAF_SLOT_ROLE_TENANT, F.SAF_SLOT_ROLE_LOCK]
  | .SAF_SLOT_FLASK => [F.SAF_SLOT_FLASK_FLASK]
  | .SAF_TAMPER => [F.SAF_TAMPER_LATCHED, F.SAF_TAMPER_LIVE, F.SAF_TAMPER_OVERFLOW, F.SAF_TAMPER_NEWEST]
  | .SAF_SECONDS => [F.SAF_SECONDS_SECONDS]
  | .SAF_KEYS => [F.SAF_KEYS_MOULD_PRESENT, F.SAF_KEYS_MOULD_REVOKED]
  | .SAF_ERR => [F.SAF_ERR_HOST_DENIED, F.SAF_ERR_KEY_REJECT, F.SAF_ERR_LINK_REFUSED]
  | .DBG_STAT => [F.DBG_STAT_LEVEL, F.DBG_STAT_FLAGS, F.DBG_STAT_SESSION, F.DBG_STAT_SCOPE, F.DBG_STAT_FAILS]
  | .DBG_HOLD => [F.DBG_HOLD_HELD, F.DBG_HOLD_ARMED]
  | .DBG_BP_MATCH_n => [F.DBG_BP_MATCH_n_MATCH]
  | .DBG_BP_LIMIT_n => [F.DBG_BP_LIMIT_n_LIMIT]
  | .DBG_BP_CTL_n => [F.DBG_BP_CTL_n_KIND, F.DBG_BP_CTL_n_ACTION, F.DBG_BP_CTL_n_RD, F.DBG_BP_CTL_n_WR, F.DBG_BP_CTL_n_FLASK, F.DBG_BP_CTL_n_VALUE]
  | .DBG_BP_HIT_n => [F.DBG_BP_HIT_n_HIT, F.DBG_BP_HIT_n_REQUESTER, F.DBG_BP_HIT_n_CORE, F.DBG_BP_HIT_n_COUNT, F.DBG_BP_HIT_n_TC_LOW]
  | .MOD_LIFE => [F.MOD_LIFE_EQ_HOURS, F.MOD_LIFE_POWER_HOURS]

/-- Every register, in the order of the chapters, the doorbell words apart. -/
def Reg.all : List Reg := [
  .MOD_ID, .MOD_GRID_STAT, .MOD_POUR_ID, .MOD_ROW_MAP_r, .MOD_FA_FAULT_ADDR, .MOD_FA_FAULT_INFO,
  .MOD_APERTURE_CTL, .CLU_ID, .CLU_CORES, .CLU_THERM, .CLU_VENT, .TC_NOW,
  .TC_ALIGN_STAT, .TC_FRAME, .TC_FRAME_TC, .CLK_PSTEP, .CLK_ARM_TARGET, .CLK_ARM,
  .CLK_CHG_STAT, .CLK_STOP_STAT, .ME_CAP, .ME_CTL, .ME_STAT, .ME_FLAGS,
  .ME_TILES, .ME_GATED, .ME_STALL, .ME_ERR, .ME_HASH, .ME_LAST_TAG,
  .SE_STAT, .SE_FLAGS, .SE_TILES, .SE_SKIPPED, .SE_STALL, .SE_ERR,
  .SE_HASH, .VU_STAT, .VU_FLAGS, .VU_ERR, .VU_SAMP_COUNT, .VU_SAMP_LAST,
  .VU_SAMP_STALL, .CORE_STAT, .CORE_SEQ, .CORE_SC, .CORE_MOULD, .CORE_SEQ_ERR,
  .CORE_QSTAT, .SPD_STAT, .SPD_ECC, .SPD_ECC_ADDR, .SPD_CONFLICT, .SPD_SCRUB_CTL,
  .SPD_SCRUB_STAT, .SPD_ELASTIC, .CCH_PART, .CCH_HITS, .CCH_MISSES, .CCH_PF,
  .CCH_ECC, .CCH_HBM, .CCH_HBM_ERR, .LDL_CTL, .LDL_STAT, .LDL_ERR,
  .LDL_FLAGS, .LDL_CTX_n, .LDL_CTXW_n, .LDL_SECTORS, .LDL_CLAMP, .SPR_STAT,
  .SPR_SLIP, .SPR_SLIP_INFO, .SPR_ERR, .SPR_ELASTIC, .VNT_STAT, .VNT_ERR,
  .RUN_STAT, .RUN_DELAY, .RUN_FEC, .RUN_LANE_l, .RUN_SCHED, .RUN_ERR,
  .RUN_ELASTIC, .MOD_EVR_HEAD_n, .MOD_EVR_TAIL_n, .MOD_HOST_STAT_p, .MOD_HOST_ERR_p, .MOD_MB_SUMMARY,
  .PWR_INPUT, .PWR_CAP, .PWR_BUDGET, .PWR_VMIN_CTL, .PWR_VMIN_STAT, .PWR_SLEW,
  .PWR_THERM, .PWR_RISER_LEAD, .PWR_CLUSTER_c, .PWR_ENERGY_n, .PWR_TILE_t, .PWR_TELEM_IN_p,
  .PST_STAT, .PST_CTL, .PST_WAKE_EN, .PST_WAKE_STAT, .PST_WAKE_REQ, .PST_TICKS,
  .PST_TIMER, .PST_PAD_HOLD, .PST_RAMP, .PST_STAT_TICK_TC0, .PST_CORE_PWR_r, .MOD_BOOT_STAT,
  .MOD_BOOT_ERR, .MOD_RESET_STAT, .MOD_PORT_BOOT, .MOD_FLASH_INFO, .PEP_CTL, .PEP_SEED,
  .PEP_STAT, .PEP_RESOLVE, .PEP_LAST, .PEP_SWEEP, .MOD_FAULT_CTL, .MOD_FAULT_STAT,
  .SAF_STAT, .SAF_SLOT_ROLE, .SAF_SLOT_FLASK, .SAF_TAMPER, .SAF_SECONDS, .SAF_KEYS,
  .SAF_ERR, .DBG_STAT, .DBG_HOLD, .DBG_BP_MATCH_n, .DBG_BP_LIMIT_n, .DBG_BP_CTL_n,
  .DBG_BP_HIT_n, .MOD_LIFE]

/-- The words of a doorbell page (R457 to R463). -/
def Reg.queueWords : List Reg := [.QUEUE_DB, .QUEUE_BASE, .QUEUE_CTL, .QUEUE_STAT, .QUEUE_WM, .QUEUE_LEVEL]

/-- The instance of a register whose 8 bytes start at an offset. -/
def Reg.instAt (r : Reg) (off : Nat) : Option Nat :=
  let p := r.place
  if off < p.base then none
  else
    let d := off - p.base
    let i := if p.s1 = 0 then 0 else if p.n1 = 1 then 0 else d / p.s1
    let d' := d - i * p.s1
    let j := if p.n2 = 1 then 0 else d' / p.s2
    if i < p.n1 ∧ j < p.n2 ∧ d = i * p.s1 + j * p.s2 then some (i * p.n2 + j) else none

/-- The first register of a list with an instance at an offset. -/
def Reg.findIn (off : Nat) : List Reg → Option (Reg × Nat)
  | [] => none
  | r :: rs => match r.instAt off with
    | some i => some (r, i)
    | none => Reg.findIn off rs

/-- The register at a BAR0 (or MREG) offset, none at an unassigned one (R19). -/
def Reg.atBar0 (off : Nat) : Option (Reg × Nat) := Reg.findIn off Reg.all

end Sys2Proof.Machine
end

