-- ==== Sys2Proof/Machine/State.lean ====
section
/-! DEFINITION. The state of the module: everything the spec gives it, as plain data, and the state after reset. -/
namespace Sys2Proof.Machine

/-- Why a step can stop with a fault. No access of this module faults: an address that does not exist reads 0 or
poison and discards writes (R19, R47, R50). -/
inductive Fault where
  /-- Raised by INPUT_SAMPLE outside the absolute maximum ratings of R705, beyond which the spec gives no behaviour.
  Safe: the hardware may go on, the model stops. -/
  | beyondRatings
  deriving DecidableEq, Repr

/-- Why a command has no meaning. -/
inductive Refusal where
  /-- A command whose meaning is not written yet, by its mnemonic: only the dispatcher answers with it. Safe. -/
  | notModelled (mnemonic : String)
  deriving DecidableEq, Repr

/-- What the last access answered its requester: bytes, poisoned or in error, a status code where the command has one. -/
structure RespSt where
  bytes : List Byte
  poison : Bool
  status : Nat
  deriving DecidableEq, Repr

/-- A message the module has sent: through a Runner port (`port` < 24), to all its tree, on the sideband or Slosy; its
kind as the rule that sends it names it, and its fields as numbers. -/
structure OutMsg where
  port : Nat
  kind : MsgKind
  fields : List Nat
  deriving DecidableEq, Repr

/-- An entry of the slag map (R42, R43). -/
structure SlagEntry where
  kind : Nat
  state : Nat
  reason : Nat
  flags : Nat
  location : Nat
  spare : Nat
  tc : Nat
  deriving DecidableEq, Repr

/-- The slag map (R40, R41): the running copy in Crucible memory, the fuse entries, the boot-flash copy with the state
of its CRC, and the header fields. -/
structure SlagSt where
  run : List SlagEntry
  fused : List SlagEntry
  flash : List SlagEntry
  flashCrcOk : Bool
  generation : Nat
  serial : Nat
  tcUpdated : Nat
  width : Nat
  deriving DecidableEq, Repr

/-- Failed track groups (segment × 512 + group) and the substitutions waiting for their function to be drained
(segment, failed group, spare, reason) (R28, R29). -/
structure SeamSt where
  failed : List Nat
  waiting : List (Nat × Nat × Nat × Nat)
  deriving DecidableEq, Repr

/-- Alignment beside TC_ALIGN_STAT (R69 to R73): consecutive good and bad exchanges, the TC of entry to the state, the
alternative upstream port of pour formation, the correction in nanoseconds still to be slewed, the TC of the last slewed
nanosecond. -/
structure AlignSt where
  good : Nat
  bad : Nat
  entered : Nat
  alternative : Option Nat
  slew : Int
  slewedAt : Nat
  deriving DecidableEq, Repr

/-- The frame grid (R74): whether it runs, and its epoch TC once fixed. -/
structure GridClk where
  running : Bool
  epoch : Option Nat
  bubbled : Bool
  deriving DecidableEq, Repr

/-- The decision in progress (R80 to R86): the first good copy of ARM held, whether GO is held, a conflict seen, the
acknowledgements received from children, the values in force before the last commit, the rail raised for an armed
step, a P-step request waiting for a window (slot, P-step) and the one a window carries, the SEQ to send next, the record the
master sent, the SEQ of a failed decision whose values return to `prev` once the pour is drained (R84), the frame of the last
commit, the frame of the last temper change. -/
structure DecisionSt where
  arm : Option Decision
  conflict : Bool
  childAcks : List Nat
  ackSent : Bool
  prev : Nat × Nat × Nat
  railRaised : Bool
  request : Option (Nat × Nat)
  carried : Option (Nat × Nat)
  nextSeq : Nat
  sent : Option Decision
  revert : Option Nat
  lastCommit : Nat
  lastTemper : Nat
  deriving DecidableEq, Repr

/-- The flask control record in progress (R238 to R240): the record armed, whether this module acknowledged it, the children
that have, whether the aggregated acknowledgement rose, GO and WITHDRAW held, at the master the mailbox slot that asked,
the children that reported DONE, whether this module's own DONE rose. -/
structure CtlSt where
  armed : Option CtlRec
  acked : Bool
  childAcks : List Nat
  ackSent : Bool
  go : Bool
  slot : Option Nat
  dones : List Nat
  doneSent : Bool
  deriving DecidableEq, Repr

/-- No record in progress. -/
def CtlSt.none : CtlSt :=
  { armed := Option.none, acked := false, childAcks := [], ackSent := false, go := false, slot := Option.none, dones := [], doneSent := false }

/-- A row of 128 bytes in the Sprue output or arrival buffer (R363) or in an ingress slot (R181): its bytes, its flags
(in the output buffer with the row's index in bits [12:8], R357), whether it is valid and unconsumed. -/
structure BufRow where
  bytes : List Byte
  flags : Nat
  valid : Bool
  deriving DecidableEq, Repr

/-- A tile of an ME or SE from its start to its drain (R136 to R141, R177): the descriptor's bytes, the quadrant, the
bank, the start cycle S and the beat cycles Kc in schedule cycles, the flags so far. -/
structure Tile where
  desc : List Byte
  quad : Nat
  bank : Nat
  start : Nat
  beats : Nat
  initAt : List Nat
  flags : Flags
  deriving DecidableEq, Repr

/-- A descriptor waiting in an engine's queue, with the SC of its issue (R214). -/
structure Queued where
  desc : List Byte
  issued : Nat
  deriving DecidableEq, Repr

/-- A row waiting in a chain register (R148): the schedule cycle from which it is present, its values, its flags. -/
structure ChainRow where
  row : Nat
  present : Nat
  vals : List Nat
  flags : Flags
  deriving DecidableEq, Repr

/-- An engine, ME or SE (R126 to R154, R171 to R178): two accumulator banks (key row × 32 + column), the A buffer with
its poisoned and parity-struck lines, chain registers (key quadrant), descriptor queues, tiles in flight oldest first,
the tiles held for INIT 2, the bank each quadrant filled last, per quadrant and bank (key quadrant × 2 + bank) the end
S + Kc of its last tile, doubled, with 1 added for a tile that was held, the last descriptor issued per quadrant, the
earliest start that the last tile of a quadrant leaves, the issue cycle of the last row drained, the last load cycle, the
shape in force. -/
structure EngSt where
  bank0 : List (Nat × Nat)
  bank1 : List (Nat × Nat)
  abuf : List Host.Cell
  abufPoison : List Nat
  abufParity : List Nat
  chain : List (Nat × List ChainRow)
  chainPoison : List Nat
  queue : List Queued
  loads : List Queued
  tiles : List Tile
  held : List Tile
  lastBank : List (Nat × Nat)
  bankFree : List (Nat × Nat)
  lastDesc : List (Nat × List Byte)
  nextStart : List (Nat × Nat)
  allDrained : Nat
  loadEnd : Nat
  shape : Nat
  deriving DecidableEq, Repr

/-- An engine with everything zeroed (R154, R192). -/
def EngSt.zero : EngSt :=
  { bank0 := [], bank1 := [], abuf := [], abufPoison := [], abufParity := [], chain := [], chainPoison := [], queue := [],
    loads := [], tiles := [], held := [], lastBank := [], bankFree := [], lastDesc := [], nextStart := [], allDrained := 0,
    loadEnd := 0, shape := 0 }

/-- A SAMPLE on its way (R185, R190): its bounds, the record address, its destination register and tile tag, and once started the record's
fields and the logits it scanned. -/
structure SampleOp where
  recAddr : Nat
  vmax : Nat
  kmax : Nat
  vd : Nat
  tag : Nat
  issued : Nat
  start : Nat
  valid : Bool
  poison : Bool
  record : List Byte
  logits : List (Nat × Bool)
  deriving DecidableEq, Repr

/-- A vector unit (R181): 64 registers (key register × 1,024 + lane), per-register flags, the ingress
buffer, operation starts by class (R183), the SAMPLE in progress and those waiting, the cycle
after which the next SAMPLE may start. -/
structure VuSt where
  regs : List (Nat × Nat)
  regFlags : List (Nat × Nat)
  ingress : List (Nat × BufRow)
  starts : List (Nat × Nat)
  sample : Option SampleOp
  waiting : List SampleOp
  sampleFree : Nat
  deriving DecidableEq, Repr

/-- A vector unit with everything zeroed (R192). -/
def VuSt.zero : VuSt :=
  { regs := [], regFlags := [], ingress := [], starts := [], sample := none, waiting := [], sampleFree := 0 }

/-- An active hardware loop (R213): its counter, its body's first and last PC, the passes left after this one. -/
structure LoopSt where
  ctr : Nat
  first : Nat
  last : Nat
  left : Nat
  deriving DecidableEq, Repr

/-- A WAITA in progress (R216): destination, counter, threshold, FAULT mode, SC of its last cycle. -/
structure WaitSt where
  rd : Nat
  ctr : Nat
  thr : Nat
  isFault : Bool
  last : Nat
  deriving DecidableEq, Repr

/-- A gather-buffer entry (R267): line, bytes, mask, SC-independent age order kept by the list, oldest first. -/
structure GatherEnt where
  line : Nat
  bytes : List Byte
  mask : Nat
  poison : Bool
  deriving DecidableEq, Repr

/-- A core (R207 to R222, R260 to R280): scalar registers, active loops innermost first, QOP results not yet written
(due SC, register, value), a WAITA in progress, whether it has executed HALT, arrival counters, tile
metadata, the gather buffer, row occasions and marks, spare rows in use, its owner, the Sprue output and arrival
buffers, the frame of its last SCHEDULE_DESYNC, elastic beats held per input and class (true RSP), and credits spent per
output and class (key output × 2 + class) (R363, R368, R370). -/
structure CoreSt where
  scalars : List (Nat × Nat)
  loops : List LoopSt
  qopDue : List (Nat × Nat × Nat)
  wait : Option WaitSt
  halted : Bool
  arrive : List (Nat × Nat)
  tmeta : List (Nat × Nat)
  gather : List GatherEnt
  occasions : List (Nat × Nat)
  rewritten : List Nat
  badRows : List Nat
  rowMap : List (Nat × Nat)
  sparesUsed : List (Nat × Nat)
  owner : Option (Nat × Nat)
  writeBack : List Nat
  sprOut : List (Nat × BufRow)
  sprArr : List (Nat × BufRow)
  slipFrame : Option Nat
  elIn : List (Nat × Bool × Beat)
  elUsed : List (Nat × Nat)
  deriving DecidableEq, Repr

/-- A core after reset. -/
def CoreSt.init : CoreSt :=
  { scalars := [], loops := [], qopDue := [], wait := none, halted := false, arrive := [],
    tmeta := [], gather := [], occasions := [], rewritten := [], badRows := [], rowMap := [], sparesUsed := [], owner := none,
    writeBack := [], sprOut := [], sprArr := [], slipFrame := none,
    elIn := [], elUsed := [] }

/-- What a halt, switch or hold still to come is (R238, R240, MB_FLASK_HALT). -/
inductive HaltKind where
  | host | switch | fault
  deriving DecidableEq, Repr

/-- A halt or switch armed for a flask: its kind, at a quiesce point or at a frame boundary, at or after a TC, for a
mailbox slot if one asked, the CAUSE a scan image reports (R249). -/
structure HaltReq where
  kind : HaltKind
  quiesce : Bool
  target : Nat
  slot : Option Nat
  cause : Nat
  deriving DecidableEq, Repr

/-- A Mould of a flask (R224 to R233): header fields, core list, slot tables and bindings as their section bytes, the base row of a
compatibility block. -/
structure MouldSt where
  present : Bool
  id : Nat
  format : Nat
  flags : Nat
  tempers : Nat
  width : Nat
  cores : List Nat
  pourSize : Nat
  pourModule : Nat
  digest : Nat
  dramBytes : Nat
  sections : List (Nat × Nat × Nat × List Byte)
  base : Nat
  deriving DecidableEq, Repr

/-- No Mould. -/
def MouldSt.none : MouldSt :=
  { present := false, id := 0, format := 0, flags := 0, tempers := 0, width := 0, cores := [], pourSize := 0, pourModule := 0,
    digest := 0, dramBytes := 0, sections := [], base := 0 }

/-- A flask (R278, R282, R238 to R242, R608): identity, cores, region, Moulds, armed halts, the halt point it reached,
START bookkeeping, whether its region is sealed (R654), drain state, posted-write state (R412 to R415), redundancy. -/
structure FlaskSt where
  live : Bool
  gen : Nat
  cores : List Nat
  baseGib : Nat
  gib : Nat
  active : MouldSt
  staged : MouldSt
  halt : Option HaltReq
  haltSc : Nat
  haltTc : Nat
  haltFrame : Nat
  haltPoint : Nat
  haltCause : Nat
  atQuiesce : Bool
  resumed : Bool
  startAt : Option Nat
  reported : Option Nat
  isSealed : Bool
  draining : Bool
  drained : Bool
  faultHalt : Bool
  postedMask : List Nat
  writeFaults : Nat
  postedTo : List Nat
  redundant : Bool
  discarded : Nat
  switchSlot : Option Nat
  gridStart : Bool
  marks : List (Nat × Nat × Nat)
  reason : Nat
  deriving DecidableEq, Repr

/-- A flask number not in use. -/
def FlaskSt.none : FlaskSt :=
  { live := false, gen := 0, cores := [], baseGib := 0, gib := 0, active := MouldSt.none, staged := MouldSt.none,
    halt := Option.none, haltSc := 0, haltTc := 0, haltFrame := 0, haltPoint := 0xFFFF, haltCause := 0, atQuiesce := false,
    resumed := false, startAt := Option.none, reported := Option.none,
    isSealed := false, draining := false, drained := false, faultHalt := false, postedMask := [], writeFaults := 0,
    postedTo := [], redundant := false, discarded := 0, switchSlot := Option.none, gridStart := false, marks := [], reason := 0 }

/-- A line of a cluster cache (R283 to R286): the line number (offset / 256), dirty, prefetched and not yet read, read
by its stream, placed in a STREAM way. The data of a line is kept in the DRAM contents: the caches need no coherence
protocol (R281), so one copy of each byte serves (log entry 12). Most recently used last. -/
structure CacheLine where
  line : Nat
  dirty : Bool
  prefetched : Bool
  spent : Bool
  stream : Bool
  deriving DecidableEq, Repr

/-- A stream tracker (R286): the Ladle engine and context that opened it, the lines still to fetch, the depth, how many
are ahead of the reads. -/
structure TrackerSt where
  engine : Nat
  ctx : Nat
  flask : Nat
  todo : List Nat
  depth : Nat
  ahead : Nat
  deriving DecidableEq, Repr

/-- A cluster cache: its lines and its trackers. -/
structure CacheSt where
  lines : List CacheLine
  trackers : List TrackerSt
  deriving DecidableEq, Repr

/-- An empty cache. -/
def CacheSt.empty : CacheSt := { lines := [], trackers := [] }

/-- A Ladle descriptor waiting for a context, or in a channel: its 256 bytes after relocation, the issuing physical and
logical core, its flask. -/
structure LdlJob where
  desc : List Byte
  core : Nat
  logical : Nat
  flask : Nat
  deriving DecidableEq, Repr

/-- An elastic context's progress beside LDL_CTX_n (R327, R337, R341): the job, source lines that another module supplies
(FA / 64, bytes), the lines of the read plan read so far with their poison, writes issued and unresolved, writes committed,
writes discarded once, outcomes at targets on their way back, whether a read failed, whether an overflow and a faulty group
have been reported, the cause of a master reset in progress (0 none, 4 a write failure). -/
structure CtxSt where
  job : Option LdlJob
  remote : List (Nat × List Byte)
  lines : List (List Byte × Bool)
  issued : Nat
  open_ : List Nat
  committed : List Nat
  resent : List Nat
  atTarget : List (Nat × AckOutcome)
  readFault : Bool
  told : Bool × Bool
  abortCause : Nat
  deriving DecidableEq, Repr

/-- An empty context. -/
def CtxSt.empty : CtxSt :=
  { job := none, remote := [], lines := [], issued := 0, open_ := [], committed := [], resent := [], atTarget := [],
    readFault := false, told := (false, false), abortCause := 0 }

/-- A scheduled channel (R308, R334): its job, the slot it is at, the lines read so far (bytes, poison), the number of the
next write to issue, the reports made. -/
structure ChanSt where
  job : Option LdlJob
  slot : Nat
  lines : List (List Byte × Bool)
  issued : Nat
  told : Bool × Bool
  deriving DecidableEq, Repr

/-- An idle channel. -/
def ChanSt.idle : ChanSt := { job := none, slot := 0, lines := [], issued := 0, told := (false, false) }

/-- A Ladle engine (R307 to R309): contexts 0 to 3, channels 0 to 7 by local core index, jobs waiting in issue order,
the logical core served last. -/
structure LdlSt where
  ctxs : List (Nat × CtxSt)
  chans : List (Nat × ChanSt)
  waiting : List LdlJob
  lastServed : Nat
  deriving DecidableEq, Repr

/-- An idle engine. -/
def LdlSt.idle : LdlSt := { ctxs := [], chans := [], waiting := [], lastServed := 139 }

/-- A cell in a release buffer (R405): its SSEQ and the beat it carries. -/
structure RelCell where
  sseq : Nat
  beat : Beat
  deriving DecidableEq, Repr

/-- A lane swap under way (R401): the logical lane, the target SF_SEQ, whether this end asked for it, whether it is
agreed, the reason it records. -/
structure SwapSt where
  lane : Nat
  target : Nat
  mine : Bool
  agreed : Bool
  reason : Nat
  deriving DecidableEq, Repr

/-- A port's keys (R423, R424, R658 to R660): an exchange or rekey under way (0 none, 1 offered, 2 offer accepted) since a
TC, the agreed START_SEQ of each direction, whether the receive direction runs under a key, the SF_SEQ at which the key in use began, the serial of the peer. -/
structure KeySt where
  phase : Nat
  rekey : Bool
  since : Nat
  txFrom : Option Nat
  rxFrom : Option Nat
  rxOn : Bool
  began : Nat
  peerSerial : Nat
  deriving DecidableEq, Repr

/-- A Runner port beside its registers (R385 to R408): enabled by Rhozel, the TC of entry to its state, the TCs at which
attempts ended in DOWN, the lane map, consecutive failing windows per physical lane and consecutive windows with an
uncorrectable codeword, a swap under way, SF_SEQ of both directions, scheduled cells
waiting to be sent and the next SSEQ of both directions, the release buffer with the SSEQs known lost, elastic cells not
acknowledged, waiting, to be sent again, and received and not yet taken, the elastic sequence and credit state, the keys, the next EXCHANGE, the digests a peer sent. -/
structure PortSt where
  enabled : Bool
  entered : Nat
  fails : List Nat
  laneMap : Nat
  badWindows : List (Nat × Nat)
  badUncorr : List (Nat × Nat)
  spareFailed : Bool
  swap : Option SwapSt
  txSeq : Nat
  rxSeq : Option Nat
  txCells : List RelCell
  txSseq : Nat
  rxSseq : Nat
  release : List RelCell
  lostSseq : List Nat
  unacked : List ElCell
  waiting : List ElCell
  again : List ElCell
  rxElastic : List ElCell
  eNext : Nat
  eExpect : Nat
  nakDue : Bool
  freedReq : Nat
  freedRsp : Nat
  creditReq : Nat
  creditRsp : Nat
  sentReq : Nat
  sentRsp : Nat
  ackAt : Nat
  keys : KeySt
  exchange : Nat
  lastFaults : List (Nat × Nat × Nat)
  deriving DecidableEq, Repr

/-- A port after module reset. -/
def PortSt.down : PortSt :=
  { enabled := false, entered := 0, fails := [], laneMap := 0o3210, badWindows := [], badUncorr := [], spareFailed := false,
    swap := none, txSeq := 0, rxSeq := none, txCells := [], txSseq := 0, rxSseq := 0, release := [],
    lostSseq := [], unacked := [], waiting := [], again := [], rxElastic := [], eNext := 0, eExpect := 0, nakDue := false, freedReq := 0,
    freedRsp := 0, creditReq := 0, creditRsp := 0, sentReq := 0, sentRsp := 0, ackAt := 0,
    keys := { phase := 0, rekey := false, since := 0, txFrom := none, rxFrom := none, rxOn := false, began := 0, peerSerial := 0 },
    exchange := 0, lastFaults := [] }

/-- What a subtree of tree 0 has reported (R418, R420): the phase, the modules covered, the POUR_DIGEST, the sum of
bindings, the first bad status and the module that failed. -/
structure Report where
  phase : Nat
  count : Nat
  digest : Nat
  bindSum : Nat
  status : Nat
  failing : Nat
  deriving DecidableEq, Repr

/-- The pour (R409, R417 to R422): the plan in force (size, master, per port the peer module, peer port and USE), how far
formation has come (0 none, 1 forming, 2 formed), the TC of acceptance, ports whose HELLO agreed, the depth and upstream
port of each tree, children of tree 0, their reports, whether this module's own report has risen in each phase, the tree-0
depth of the neighbour at each port, the status of a failure found here, floods seen (origin, SEQ, TC), the forwarding
table, a SLOT_DIGEST mismatch, the mailbox slot of a start under way, the SEQ of the next beacon. -/
structure PourSt where
  size : Nat
  master : Nat
  ports : List (Nat × Nat × Nat × Bool)
  phase : Nat
  since : Nat
  hello : List Nat
  depth : List (Nat × Nat)
  up : List (Nat × Nat)
  children : List Nat
  reports : List (Nat × Report)
  formedSent : Bool
  readySent : Bool
  heard : List (Nat × Nat)
  fail : Nat
  seen : List (Nat × Nat × Nat)
  routes : List (Nat × Nat)
  digestBad : Bool
  starting : Option Nat
  beaconSeq : Nat
  deriving DecidableEq, Repr

/-- No pour. -/
def PourSt.none : PourSt :=
  { size := 0, master := 0, ports := [], phase := 0, since := 0, hello := [], depth := [], up := [], children := [],
    reports := [], formedSent := false, readySent := false, heard := [], fail := 0, seen := [], routes := [], digestBad := false,
    starting := Option.none, beaconSeq := 0 }

/-- A window of culprit reports (R612): the key, the first report's fields, the count and the distinct detecting units. -/
structure CulWin where
  code : Nat
  module : Nat
  core : Nat
  who : List Nat
  flask : Nat
  count : Nat
  units : List (Nat × Nat)
  first : Nat
  last : Nat
  frame : Nat
  detail : List (Nat × Nat)
  deriving DecidableEq, Repr

/-- Fault handling beside its registers (R612 to R619): open culprit windows, fence beacons received (origin, TC), halt
beacons received (origin, frame, TC), fence beacons sent for own units (core, TC), repairs waiting for their drain
(kind, location, reason, mailbox slot, flasks still to drain), repairs pending for a reset, consecutive failures of each Vent link (R376),
wear warnings given (kind, location, TC) (R620). -/
structure FaultSt where
  windows : List CulWin
  fenceIn : List (Nat × Nat)
  haltIn : List (Nat × Nat × Nat)
  fenceOut : List (Nat × Nat)
  repairs : List (Nat × Nat × Nat × Option Nat)
  pendings : List (Nat × Nat × Nat)
  vent : List (Nat × Nat)
  warned : List (Nat × Nat × Nat)
  deriving DecidableEq, Repr

/-- Pepper beside its registers (R621 to R626): the growth of every allowance so far in 1/10,000 cycle, per unit (core × 76 +
unit) the allowance and the growth when it was last settled, tiles started, results not yet compared (unit, tile number, hash,
TC), diagnostic runs (unit of the pair's lower core, tile number, frame, repeats), the TC of the last passing tile per unit and combination (unit × 14 +
combination), the pairs of unit and combination completed since the last sweep, a share that waits for a frame boundary. -/
structure PepSt where
  grown : Nat
  allow : List (Nat × (Nat × Nat))
  tile : List (Nat × Nat)
  hashes : List (Nat × Nat × Nat × Nat)
  diag : List (Nat × Nat × Nat × Nat)
  passed : List (Nat × Nat)
  swept : List Nat
  share : Option Nat
  deriving DecidableEq, Repr

/-- Pepper after reset. -/
def PepSt.init : PepSt :=
  { grown := 0, allow := [], tile := [], hashes := [], diag := [], passed := [], swept := [], share := none }

/-- A hardware queue's kind (R231). -/
inductive QKind where
  | unbound | local | elasticTx | elasticRx | hostSubmit | hostPost
  deriving DecidableEq, Repr

/-- A hardware queue: its binding (R231, R449) and its counters. For a host-kind queue `tail`, `fetched`, `popped` are
T, F, P and `written`, `head` are W, H (R450); for a ring in scratchpad `written` counts entries placed, `popped`
entries taken (R244). `reads` are the entry counts of fetches outstanding, `posts` the accepted posts not yet issued
(R453), `msgDue` a message held back by HOLDOFF. -/
structure QueueSt where
  kind : QKind
  depthLog2 : Nat
  ring : Nat
  peer : Nat
  creditBatch : Nat
  vector : Nat
  hostParam : Nat
  tail : Nat
  fetched : Nat
  popped : Nat
  written : Nat
  head : Nat
  sent : Nat
  consumed : Nat
  credited : Nat
  uncoveredAt : Option Nat
  /-- Entries in the shadow of a HOST_SUBMIT queue; their bytes lie in scratchpad (R449, R452). -/
  shadow : Nat
  reads : List Nat
  posts : List (List Byte)
  dropped : Nat
  lastMsg : Option Nat
  msgDue : Bool
  dbFaultAt : Option Nat
  deriving DecidableEq, Repr

/-- A queue with no binding (R451). -/
def QueueSt.none : QueueSt :=
  { kind := .unbound, depthLog2 := 0, ring := 0, peer := 0, creditBatch := 0, vector := 0, hostParam := 0,
    tail := 0, fetched := 0, popped := 0, written := 0, head := 0, sent := 0, consumed := 0, credited := 0,
    uncoveredAt := Option.none, shadow := 0, reads := [], posts := [], dropped := 0, lastMsg := Option.none,
    msgDue := false, dbFaultAt := Option.none }

/-- An MSI-X table entry: address, data, masked (R469). -/
structure MsixEntry where
  addr : Nat
  data : Nat
  masked : Bool
  deriving DecidableEq, Repr

/-- A table entry after reset: masked, as PCI Express has it (R469). -/
def MsixEntry.reset : MsixEntry := { addr := 0, data := 0, masked := true }

/-- A posted write that the device has sent to host memory, or an MSI-X message (R467): port, address, bytes. -/
structure HostWr where
  port : Nat
  addr : Nat
  bytes : List Byte
  deriving DecidableEq, Repr

/-- An event ring beside its registers (R464): configured, base, depth exponent, port, vector, the full 32-bit counters
and lost count, the TCs and SEQ the lost count covers, stopped by a reset of its port (R470). -/
structure RingSt where
  configured : Bool
  base : Nat
  depthLog2 : Nat
  port : Nat
  vector : Nat
  lost : Nat
  lostFirst : Nat
  lostLast : Nat
  lostSeq : Nat
  stopped : Bool
  deriving DecidableEq, Repr

/-- A ring not configured. -/
def RingSt.none : RingSt :=
  { configured := false, base := 0, depthLog2 := 0, port := 0, vector := 0, lost := 0, lostFirst := 0, lostLast := 0,
    lostSeq := 0, stopped := false }

/-- A host port's configuration state beside MOD_HOST_STAT (R466, R469): the Function Mask, the Max Read Request Size in
bytes, the MSI-X pending bits, D3hot, and the reads outstanding in order (queue, address, length) of which a completion
is still due. -/
structure HostPort where
  funcMask : Bool
  mrrs : Nat
  pba : List Nat
  d3hot : Bool
  deriving DecidableEq, Repr

/-- A port after reset (512 B reads: the base specification's default). -/
def HostPort.none : HostPort := { funcMask := false, mrrs := 512, pba := [], d3hot := false }

/-- An event record (R491). `detail` is the 28 DETAIL bytes as a little-endian number. -/
structure EvRec where
  code : Nat
  sev : Nat
  flags : Nat
  module : Nat
  cluster : Nat
  core : Nat
  unit : Nat
  flask : Nat
  count : Nat
  corrob : Nat
  seq : Nat
  tcFirst : Nat
  tcLast : Nat
  detail : Nat
  deriving DecidableEq, Repr

/-- Crucible's event state (R494, R582): open coalescing windows, the next SEQ, records formed and not yet written, the
records held before ring 0 is first configured, and whether it has been. -/
structure EventSt where
  windows : List EvRec
  seq : Nat
  formed : List EvRec
  held : List EvRec
  ring0Seen : Bool
  deriving DecidableEq, Repr

/-- A mailbox slot (R472, R478): SUBMIT, the status word's fields, the header fields, the payload area, and Rhozel's
copy of the accepted command with its order of acceptance, how far it has got and what it waits for (R475). -/
structure MbSlot where
  submit : Nat
  seq : Nat
  state : Nat
  progress : Nat
  result : Nat
  resultLen : Nat
  vector : Nat
  notify : Nat
  cancel : Nat
  tcAccepted : Nat
  tcEnd : Nat
  refused : Nat
  payload : List Host.Cell
  cmd : Nat
  args : List Byte
  order : Nat
  phase : Nat
  waitOn : List Nat
  deriving DecidableEq, Repr

/-- A slot after reset. -/
def MbSlot.none : MbSlot :=
  { submit := 0, seq := 0, state := 0, progress := 0, result := 0, resultLen := 0, vector := 0, notify := 0, cancel := 0,
    tcAccepted := 0, tcEnd := 0, refused := 0, payload := [], cmd := 0, args := [], order := 0, phase := 0, waitOn := [] }

/-- A telemetry record (R514). `req` holds b′ for the four tempers, 0xFF for an absent one. -/
structure Telem where
  seq : Nat
  flags : Nat
  modules : Nat
  req : List Nat
  tj : Nat
  thbm : Nat
  worst : Nat
  power : Nat
  deriving DecidableEq, Repr

/-- Power control beside its registers (R496 to R520): since when the input has been low and whether its fault stands; the
slew buckets in milliamperes (clusters with an unlisted one full) and the TC of their last refill, requests that wait in
order of arrival (cluster, mA, since); per cluster the microseconds in a row at or above floor + 35 mV, the lowest sample
of the frame (TC, sensor, mV, flags), the lowest margin and the start of its millisecond, the level and pre-bias of the
Riser notices in force; the minimum-voltage log; spares that ramp or serve (failed tile, reason, mailbox slot); the
window last ended, the aggregated record, children's last good records, the windows in a row each has been missing; the
accounts as they stood at the last multiple of 10 ms. -/
structure PowerSt where
  lowSince : Option Nat
  fault : Bool
  clusters : List (Nat × Int)
  module : Int
  refillAt : Nat
  waiting : List (Nat × Nat × Nat)
  calm : List (Nat × Nat)
  low : List (Nat × (Nat × Nat × Nat × Nat))
  margin : List (Nat × (Nat × Nat))
  riser : List (Nat × (Nat × Nat))
  log : List (Nat × List Byte)
  replacing : List (Nat × (Nat × Nat × Option Nat))
  window : Nat
  record : Option Telem
  childLast : List (Nat × List Byte)
  misses : List (Nat × Nat)
  snapTc : Nat
  snap : List Nat
  deriving DecidableEq, Repr

/-- Power control after reset: full buckets. -/
def PowerSt.init : PowerSt :=
  { lowSince := none, fault := false, clusters := [], module := 1200000, refillAt := 0, waiting := [], calm := [], low := [],
    margin := [], riser := [], log := [], replacing := [], window := 0, record := none, childLast := [], misses := [],
    snapTc := 0, snap := [] }

/-- Anise beside its registers (R538 to R559): core domains queued in order of arrival, off-requests held until a ramp ends,
domains whose arrays are retained, the cause of an exit in progress (0 command, 1 wake, 2 replay), Runner ports that were enabled
when DORMANT was entered, pad groups whose domain failed a ready check. -/
structure PstSt where
  queue : List Nat
  offHeld : List Nat
  retained : List Nat
  cause : Nat
  ports : List Nat
  failed : List Nat
  deriving DecidableEq, Repr

/-- Anise at power-up. -/
def PstSt.init : PstSt := { queue := [], offHeld := [], retained := [], cause := 0, ports := [], failed := [] }


/-- The boot directory in force (R575): whether a copy checks, its generation, the slot to boot, TRIAL, the staged slot (0xFF
none), the rejected slots, the bytes written to each slot. -/
structure BootDir where
  ok : Bool
  gen : Nat
  active : Nat
  trial : Nat
  staged : Nat
  rejected : Nat
  lenA : Nat
  lenB : Nat
  deriving DecidableEq, Repr

/-- A PLDM firmware update in progress (R593): the state of DSP0267 (0 idle, 1 learn components, 2 ready to transfer, 3 download,
4 verify, 5 apply, 6 activate), the image size announced, the bytes received, the result the device has to report, the transfer size agreed. -/
structure PldmSt where
  state : Nat
  size : Nat
  image : List Byte
  result : Nat
  transfer : Nat
  deriving DecidableEq, Repr

/-- No update. -/
def PldmSt.idle : PldmSt := { state := 0, size := 0, image := [], result := 0, transfer := 0 }

/-- Boot (R572 to R598): the directory, the two image slots and the port boot mask of the flash (none where erased), the fused
voltage trims, the running image's version, SVN, key and digest-covered bytes, the boot ROM's version, whether the image had its TRIAL
cleared at an earlier boot, whether RESET_N holds Crucible in reset and what continues at its release (0 none, 1 module reset,
2 cold power-on), whether an image that was handed control with
TRIAL 1 has not reached READY since, the update over PLDM. -/
structure BootSt where
  dir : BootDir
  slotA : List Byte
  slotB : List Byte
  portMask : Option Nat
  trims : List Nat
  fwVersion : Nat
  fwSvn : Nat
  fwKey : Nat
  image : List Byte
  romVersion : Nat
  proven : Bool
  held : Nat
  tried : Bool
  pldm : PldmSt
  deriving DecidableEq, Repr

/-- Boot flash and fuses as the model takes them at reset: erased flash. -/
def BootSt.init : BootSt :=
  { dir := { ok := false, gen := 0, active := 0, trial := 0, staged := 0xFF, rejected := 0, lenA := 0, lenB := 0 },
    slotA := [], slotB := [], portMask := none, trims := [], fwVersion := 0, fwSvn := 0, fwKey := 0, image := [], romVersion := 0,
    proven := false, held := 0, tried := false, pldm := PldmSt.idle }


/-- A weight key in force (R655, R656): its flask, index, range from the region's start, and MOULD_ID. The key itself never
leaves Saffron (R645): the model names it by the count of keys loaded. -/
structure WeightKey where
  flask : Nat
  index : Nat
  base : Nat
  len : Nat
  mould : Nat
  key : Nat
  deriving DecidableEq, Repr

/-- An entry of the tamper log (R663). -/
structure TamperEnt where
  index : Nat
  code : Nat
  power : Nat
  acked : Bool
  seconds : Nat
  deriving DecidableEq, Repr

/-- An SPDM session (R647): its identifier, whether its handshake is complete. -/
structure SpdmSess where
  id : Nat
  done : Bool
  deriving DecidableEq, Repr

/-- Saffron beside its registers (R642 to R664): weight keys and the count of those loaded, the Mould-signing public keys by slot, the
tamper log's entries, whether the release key waits for the latch to clear, the release keys drawn so far, how far an SPDM connection
has come (0 none, 1 version, 2 capabilities, 3 algorithms) and its sessions. -/
structure SafSt where
  keys : List WeightKey
  loaded : Nat
  mouldKeys : List (Nat × List Byte)
  log : List TamperEnt
  drawn : Nat
  spdm : Nat
  sessions : List SpdmSess
  deriving DecidableEq, Repr

/-- Saffron with an empty store. -/
def SafSt.init : SafSt := { keys := [], loaded := 0, mouldKeys := [], log := [], drawn := 0, spdm := 0, sessions := [] }


/-- A debug hold, release or step armed for a flask (R684): its kind (0 hold, 1 release, 2 step), the boundary TC, whether
it has pour scope, and the units a step runs before the hold resumes. -/
structure HoldArm where
  flask : Nat
  kind : Nat
  at_ : Nat
  pour : Bool
  units : Nat
  deriving DecidableEq, Repr

/-- A Slosy request being served (R675): TAG, CMD, SESSION and payload. -/
structure SlosyReq where
  tag : Nat
  cmd : Nat
  session : Nat
  payload : List Byte
  deriving DecidableEq, Repr

/-- Slosy beside its registers (R674 to R688): armed changes, the TC at which a hold last ended, the TC at which each held
flask's hold began, the current nonce, the request being served, the previous request with its stored response, the
second at which the grant and the lockout end, the grant's SIGNER, the TC until which SLOSY_ATTN is low, breakpoints of
kind TC that have fired. -/
structure DbgSt where
  armed : List HoldArm
  lastHeld : Nat
  heldTc : List (Nat × Nat)
  nonce : Option Nat
  req : Option SlosyReq
  prev : Option (SlosyReq × (Nat × List Byte))
  grantEnd : Option Nat
  lockEnd : Option Nat
  attnUntil : Nat
  fired : List Nat
  deriving DecidableEq, Repr

/-- The instruction in the TAP's instruction register (R703). -/
inductive TapIr where
  | idcode | bypass | sample | extest
  deriving DecidableEq, Repr

/-- Pins, reference clocks, sideband addresses, the TAP and the life count (R695 to R710): whether THERMTRIP_N is low, the straps SB_ADDR,
SB_MODE and FORCE_RECOVERY as last sampled, the TC at which the system reference was lost and whether the PLLs run from the backup
oscillator, the I3C dynamic address, the MCTP endpoint, the TAP's instruction, the boundary-scan cells' captured and preloaded values,
the fraction of an equivalent hour in 2^−32, whether the life warning was given. -/
structure SvcSt where
  thermTrip : Bool
  sbAddr : Nat
  i3c : Bool
  forceRecovery : Bool
  refLost : Option Nat
  backup : Bool
  dynAddr : Option Nat
  eid : Nat
  tap : TapIr
  cells : List Bool
  lifeFrac : Nat
  lifeWarned : Bool
  deriving DecidableEq, Repr

/-- Unconnected straps read as their pulls (R698); the TAP starts in IDCODE. -/
def SvcSt.init : SvcSt :=
  { thermTrip := false, sbAddr := 0, i3c := true, forceRecovery := false, refLost := none, backup := false, dynAddr := none, eid := 0,
    tap := .idcode, cells := [], lifeFrac := 0, lifeWarned := false }


/-- The state of the module. -/
structure State where
  /-- Every field of every register, key `FKey`; an unlisted field holds its reset value (R17). -/
  flds : NMap Nat
  /-- The slag map (R40 to R44). -/
  slag : SlagSt
  /-- Seam track groups (R26 to R29). -/
  seam : SeamSt
  /-- Alignment beside its registers (R66 to R73). -/
  align : AlignSt
  /-- The frame grid beside its registers (R74 to R76). -/
  gclk : GridClk
  /-- The decision in progress (R80 to R86). -/
  dec : DecisionSt
  /-- The flask control record in progress (R238 to R240). -/
  ctl : CtlSt
  /-- Cores by physical core ID, beside their registers; unlisted: `CoreSt.init`. -/
  cores : NMap CoreSt
  /-- Matrix engines, key core × 64 + engine; unlisted: `EngSt.zero`. -/
  mes : NMap EngSt
  /-- Sparse engines, key core × 8 + engine; unlisted: `EngSt.zero`. -/
  ses : NMap EngSt
  /-- Vector units, key core × 4 + unit; unlisted: `VuSt.zero`. -/
  vus : NMap VuSt
  /-- Scratchpad bytes, key physical core × 2^28 + byte offset (R46, R260). -/
  spd : List Host.Cell
  /-- Poisoned scratchpad lines, key physical core × 2^22 + line (R117, R272). -/
  spdPoison : List Nat
  /-- DRAM bytes by offset, with the home caches' contents (R281, R283). -/
  dram : List Host.Cell
  /-- Poisoned 64 B granules of DRAM, offset / 64 (R291). -/
  dramPoison : List Nat
  /-- 64 KiB units of DRAM whose written bit is set (R292). -/
  dramWritten : List Nat
  /-- Cluster caches (R283 to R286); unlisted: `CacheSt.empty`. -/
  caches : NMap CacheSt
  /-- Stacks to which only refresh is issued (R290). -/
  refreshOnly : List Nat
  /-- TC of the last refresh of each bank, key (stack × 64 + pseudo-channel) × 64 + bank (R290). -/
  refreshed : NMap Nat
  /-- Flasks by number; unlisted: `FlaskSt.none`. -/
  flasks : NMap FlaskSt
  /-- Hardware queues by 21-bit queue ID; unlisted: `QueueSt.none`. -/
  queues : NMap QueueSt
  /-- Ladle engines by instance; unlisted: `LdlSt.idle`. -/
  ldls : NMap LdlSt
  /-- MSI-X tables, key port × 2,048 + vector (R469); unlisted: masked, zero. -/
  msix : NMap MsixEntry
  /-- Host functions' configuration state; unlisted: `HostPort.none`. -/
  hports : NMap HostPort
  /-- Posted writes and messages sent to the hosts, oldest first (R467). -/
  hostOut : List HostWr
  /-- Event rings (R464); unlisted: `RingSt.none`. -/
  rings : NMap RingSt
  /-- Crucible's event state (R491 to R494, R582). -/
  ev : EventSt
  /-- Mailbox slots 0 to 15 and the sideband's virtual slot 16 (R472, R490); unlisted: `MbSlot.none`. -/
  slots : NMap MbSlot
  /-- Commands accepted so far, for the orderings of R475. -/
  mbOrder : Nat
  /-- Messages sent by the module on its links and ports, oldest first. -/
  msgs : List OutMsg
  /-- Runner ports beside their registers; unlisted: `PortSt.down`. -/
  ports : NMap PortSt
  /-- The pour (R409, R416 to R422). -/
  pour : PourSt
  /-- Fault handling beside its registers (R611 to R619). -/
  faults : FaultSt
  /-- Pepper beside its registers (R621 to R626). -/
  pep : PepSt
  /-- Power control beside its registers (R496 to R520). -/
  power : PowerSt
  /-- The data the last read or request delivered to its requester. -/
  resp : Option RespSt
  /-- Slosy beside its registers (R674 to R688). -/
  dbg : DbgSt
  /-- Anise beside its registers (R537 to R559). -/
  pst : PstSt
  /-- Boot flash, fuses and resets (R572 to R598). -/
  boot : BootSt
  /-- Saffron beside its registers (R642 to R664). -/
  saf : SafSt
  /-- Pins, clocks, sideband addresses, TAP and life count (R695 to R710). -/
  svc : SvcSt
  /-- The model's own field: how many free values have been drawn (log entry 3). -/
  freeCtr : Nat
  /-- The commands waiting, first in, first out. -/
  pending : List Instr
  deriving DecidableEq, Repr

/-- The module right after reset (R583, R598): every register field unlisted and so at its reset value, memories with
nothing listed, every unit idle, no command waiting. -/
def State.reset : State where
  flds := []
  slag := { run := [], fused := [], flash := [], flashCrcOk := true, generation := 0, serial := 0, tcUpdated := 0, width := 0 }
  seam := { failed := [], waiting := [] }
  align := { good := 0, bad := 0, entered := 0, alternative := none, slew := 0, slewedAt := 0 }
  gclk := { running := false, epoch := none, bubbled := false }
  dec := { arm := none, conflict := false, childAcks := [], ackSent := false, prev := (12, 0, 0), railRaised := false, request := none, carried := none, nextSeq := 0, sent := none, revert := none, lastCommit := 0, lastTemper := 0 }
  ctl := CtlSt.none
  cores := []
  mes := []
  ses := []
  vus := []
  spd := []
  spdPoison := []
  dram := []
  dramPoison := []
  dramWritten := []
  caches := []
  refreshOnly := []
  refreshed := []
  flasks := []
  queues := []
  ldls := []
  msix := []
  hports := []
  hostOut := []
  rings := []
  ev := { windows := [], seq := 0, formed := [], held := [], ring0Seen := false }
  slots := []
  mbOrder := 0
  msgs := []
  ports := []
  pour := PourSt.none
  faults := { windows := [], fenceIn := [], haltIn := [], fenceOut := [], repairs := [], pendings := [], vent := [], warned := [] }
  pep := PepSt.init
  power := PowerSt.init
  resp := none
  dbg := { armed := [], lastHeld := 0, heldTc := [], nonce := none, req := none, prev := none, grantEnd := none, lockEnd := none, attnUntil := 0, fired := [] }
  pst := PstSt.init
  boot := BootSt.init
  saf := SafSt.init
  svc := SvcSt.init
  freeCtr := 0
  pending := []

end Sys2Proof.Machine
end

