-- ==== Sys2Proof/Machine/Upd.lean ====
section
/-! DEFINITION. The elementary updates of the state, effects built from them, and the readers of the indexed units. Every
command's meaning is an effect: a function from the state to the updates it makes, in order. What a step can do to the
state is therefore said once, in `Upd.apply`; no update touches the queue of waiting commands. -/
namespace Sys2Proof.Machine

/-- A field's key in the store: instance, register, lowest bit, width. -/
def Fld.key (f : Fld) (i : Nat) : Nat := ((i * 256 + f.reg.ix) * 64 + f.lo) * 128 + f.len

/-- The reset value of a field of an instance: the table's, but CLU_ID, whose fields read the values of R62. -/
def Fld.resetAt (f : Fld) (i : Nat) : Nat :=
  match f.reg with
  | .CLU_ID =>
    let cx := i % 4
    let cy := i / 4
    if f.lo = 0 then cx
    else if f.lo = 2 then cy
    else if f.lo = 8 then (if cx = 0 then 2 * cy else if cx = 3 then 10 + 2 * cy else 0x1F)
    else if f.lo = 16 then (if cx = 0 then 2 * cy + 1 else if cx = 3 then 11 + 2 * cy else 0x1F)
    else if f.lo = 24 then (if cy = 0 then 3 * cx else if cy = 4 then 12 + 3 * cx else 0x1F)
    else if f.lo = 29 then b2n (i == 0)
    else if f.lo = 30 then b2n (i == 19)
    else b2n (i == 0)
  | _ => f.reset

/-- A field lies within the 64 bits of a register. -/
def Fld.inReg (f : Fld) : Bool := decide (f.lo < 64) && decide (f.len ≤ 64)

/-- A field of a register that the hardware does not fix: MOD_ID (R54) and CLU_ID (R62) read one value for ever. -/
def Fld.settable (f : Fld) : Bool := f.reg != .MOD_ID && f.reg != .CLU_ID && f.inReg

/-- The register number a key names. -/
def regOfKey (k : Nat) : Nat := k / 8192 % 256

/-- The instance a key names. -/
def instOfKey (k : Nat) : Nat := k / 2097152

/-- An elementary update. -/
inductive Upd where
  /-- A register field takes a value, cut to its width, unless the hardware fixes it. -/
  | fld (f : Fld) (i v : Nat)
  /-- Every field of every register but those listed returns to its reset value. -/
  | fldsKeep (rs : List Nat)
  /-- The fields of the registers listed, of instances from `lo` up to `hi`, return to their reset values. -/
  | fldsDrop (rs : List Nat) (lo hi : Nat)
  /-- `slag` takes a value. -/
  | slag (v : SlagSt)
  /-- `seam` takes a value. -/
  | seam (v : SeamSt)
  /-- `align` takes a value. -/
  | align (v : AlignSt)
  /-- `gclk` takes a value. -/
  | gclk (v : GridClk)
  /-- `dec` takes a value. -/
  | dec (v : DecisionSt)
  /-- `ctl` takes a value. -/
  | ctl (v : CtlSt)
  /-- One unit of `cores`. -/
  | cores (k : Nat) (v : CoreSt)
  /-- A range of `cores` to its default. -/
  | coresClear (lo hi : Nat)
  /-- One unit of `mes`. -/
  | mes (k : Nat) (v : EngSt)
  /-- A range of `mes` to its default. -/
  | mesClear (lo hi : Nat)
  /-- One unit of `ses`. -/
  | ses (k : Nat) (v : EngSt)
  /-- A range of `ses` to its default. -/
  | sesClear (lo hi : Nat)
  /-- One unit of `vus`. -/
  | vus (k : Nat) (v : VuSt)
  /-- A range of `vus` to its default. -/
  | vusClear (lo hi : Nat)
  /-- Bytes stored in `spd` from an address. -/
  | spd (a : Nat) (bs : List Byte)
  /-- A range of `spd` zeroed. -/
  | spdClear (lo hi : Nat)
  /-- A member of `spdPoison` joins or leaves. -/
  | spdPoison (k : Nat) (b : Bool)
  /-- A range of `spdPoison` emptied. -/
  | spdPoisonClear (lo hi : Nat)
  /-- Bytes stored in `dram` from an address. -/
  | dram (a : Nat) (bs : List Byte)
  /-- A range of `dram` zeroed. -/
  | dramClear (lo hi : Nat)
  /-- A member of `dramPoison` joins or leaves. -/
  | dramPoison (k : Nat) (b : Bool)
  /-- A range of `dramPoison` emptied. -/
  | dramPoisonClear (lo hi : Nat)
  /-- A member of `dramWritten` joins or leaves. -/
  | dramWritten (k : Nat) (b : Bool)
  /-- A range of `dramWritten` emptied. -/
  | dramWrittenClear (lo hi : Nat)
  /-- One unit of `caches`. -/
  | caches (k : Nat) (v : CacheSt)
  /-- A range of `caches` to its default. -/
  | cachesClear (lo hi : Nat)
  /-- A member of `refreshOnly` joins or leaves. -/
  | refreshOnly (k : Nat) (b : Bool)
  /-- A range of `refreshOnly` emptied. -/
  | refreshOnlyClear (lo hi : Nat)
  /-- One unit of `refreshed`. -/
  | refreshed (k : Nat) (v : Nat)
  /-- A range of `refreshed` to its default. -/
  | refreshedClear (lo hi : Nat)
  /-- One unit of `flasks`. -/
  | flasks (k : Nat) (v : FlaskSt)
  /-- A range of `flasks` to its default. -/
  | flasksClear (lo hi : Nat)
  /-- One unit of `queues`. -/
  | queues (k : Nat) (v : QueueSt)
  /-- A range of `queues` to its default. -/
  | queuesClear (lo hi : Nat)
  /-- One unit of `ldls`. -/
  | ldls (k : Nat) (v : LdlSt)
  /-- A range of `ldls` to its default. -/
  | ldlsClear (lo hi : Nat)
  /-- One unit of `msix`. -/
  | msix (k : Nat) (v : MsixEntry)
  /-- A range of `msix` to its default. -/
  | msixClear (lo hi : Nat)
  /-- One unit of `hports`. -/
  | hports (k : Nat) (v : HostPort)
  /-- A range of `hports` to its default. -/
  | hportsClear (lo hi : Nat)
  /-- `hostOut` grows by one. -/
  | hostOut (x : HostWr)
  /-- One unit of `rings`. -/
  | rings (k : Nat) (v : RingSt)
  /-- A range of `rings` to its default. -/
  | ringsClear (lo hi : Nat)
  /-- `ev` takes a value. -/
  | ev (v : EventSt)
  /-- One unit of `slots`. -/
  | slots (k : Nat) (v : MbSlot)
  /-- A range of `slots` to its default. -/
  | slotsClear (lo hi : Nat)
  /-- `mbOrder` takes a value. -/
  | mbOrder (v : Nat)
  /-- `msgs` grows by one. -/
  | msgs (x : OutMsg)
  /-- One unit of `ports`. -/
  | ports (k : Nat) (v : PortSt)
  /-- A range of `ports` to its default. -/
  | portsClear (lo hi : Nat)
  /-- `pour` takes a value. -/
  | pour (v : PourSt)
  /-- `faults` takes a value. -/
  | faults (v : FaultSt)
  /-- `pep` takes a value. -/
  | pep (v : PepSt)
  /-- `power` takes a value. -/
  | power (v : PowerSt)
  /-- `resp` takes a value. -/
  | resp (v : Option RespSt)
  /-- `dbg` takes a value. -/
  | dbg (v : DbgSt)
  /-- `pst` takes a value. -/
  | pst (v : PstSt)
  /-- `boot` takes a value. -/
  | boot (v : BootSt)
  /-- `saf` takes a value. -/
  | saf (v : SafSt)
  /-- `svc` takes a value. -/
  | svc (v : SvcSt)
  /-- `freeCtr` takes a value. -/
  | freeCtr (v : Nat)
  deriving DecidableEq, Repr

/-- What an elementary update does. -/
def Upd.apply : Upd → State → State
  | .fld f i v, s => if f.settable then { s with flds := NMap.put (f.resetAt i) s.flds (f.key i) (v % 2 ^ f.len) } else s
  | .fldsDrop rs lo hi, s =>
    { s with flds := s.flds.filter (fun e => !(rs.elem (regOfKey e.1) && decide (lo ≤ instOfKey e.1) && decide (instOfKey e.1 < hi))) }
  | .fldsKeep rs, s => { s with flds := s.flds.filter (fun e => rs.elem (regOfKey e.1)) }
  | .slag v, s => { s with slag := v }
  | .seam v, s => { s with seam := v }
  | .align v, s => { s with align := v }
  | .gclk v, s => { s with gclk := v }
  | .dec v, s => { s with dec := v }
  | .ctl v, s => { s with ctl := v }
  | .cores k v, s => { s with cores := NMap.put CoreSt.init s.cores k v }
  | .coresClear lo hi, s => { s with cores := NMap.clear s.cores lo hi }
  | .mes k v, s => { s with mes := NMap.put EngSt.zero s.mes k v }
  | .mesClear lo hi, s => { s with mes := NMap.clear s.mes lo hi }
  | .ses k v, s => { s with ses := NMap.put EngSt.zero s.ses k v }
  | .sesClear lo hi, s => { s with ses := NMap.clear s.ses lo hi }
  | .vus k v, s => { s with vus := NMap.put VuSt.zero s.vus k v }
  | .vusClear lo hi, s => { s with vus := NMap.clear s.vus lo hi }
  | .spd a bs, s => { s with spd := Mem.wrN s.spd a bs }
  | .spdClear lo hi, s => { s with spd := NMap.clear s.spd lo hi }
  | .spdPoison k b, s => { s with spdPoison := NSet.set s.spdPoison k b }
  | .spdPoisonClear lo hi, s => { s with spdPoison := NSet.clear s.spdPoison lo hi }
  | .dram a bs, s => { s with dram := Mem.wrN s.dram a bs }
  | .dramClear lo hi, s => { s with dram := NMap.clear s.dram lo hi }
  | .dramPoison k b, s => { s with dramPoison := NSet.set s.dramPoison k b }
  | .dramPoisonClear lo hi, s => { s with dramPoison := NSet.clear s.dramPoison lo hi }
  | .dramWritten k b, s => { s with dramWritten := NSet.set s.dramWritten k b }
  | .dramWrittenClear lo hi, s => { s with dramWritten := NSet.clear s.dramWritten lo hi }
  | .caches k v, s => { s with caches := NMap.put CacheSt.empty s.caches k v }
  | .cachesClear lo hi, s => { s with caches := NMap.clear s.caches lo hi }
  | .refreshOnly k b, s => { s with refreshOnly := NSet.set s.refreshOnly k b }
  | .refreshOnlyClear lo hi, s => { s with refreshOnly := NSet.clear s.refreshOnly lo hi }
  | .refreshed k v, s => { s with refreshed := NMap.put 0 s.refreshed k v }
  | .refreshedClear lo hi, s => { s with refreshed := NMap.clear s.refreshed lo hi }
  | .flasks k v, s => { s with flasks := NMap.put FlaskSt.none s.flasks k v }
  | .flasksClear lo hi, s => { s with flasks := NMap.clear s.flasks lo hi }
  | .queues k v, s => { s with queues := NMap.put QueueSt.none s.queues k v }
  | .queuesClear lo hi, s => { s with queues := NMap.clear s.queues lo hi }
  | .ldls k v, s => { s with ldls := NMap.put LdlSt.idle s.ldls k v }
  | .ldlsClear lo hi, s => { s with ldls := NMap.clear s.ldls lo hi }
  | .msix k v, s => { s with msix := NMap.put MsixEntry.reset s.msix k v }
  | .msixClear lo hi, s => { s with msix := NMap.clear s.msix lo hi }
  | .hports k v, s => { s with hports := NMap.put HostPort.none s.hports k v }
  | .hportsClear lo hi, s => { s with hports := NMap.clear s.hports lo hi }
  | .hostOut x, s => { s with hostOut := s.hostOut ++ [x] }
  | .rings k v, s => { s with rings := NMap.put RingSt.none s.rings k v }
  | .ringsClear lo hi, s => { s with rings := NMap.clear s.rings lo hi }
  | .ev v, s => { s with ev := v }
  | .slots k v, s => { s with slots := NMap.put MbSlot.none s.slots k v }
  | .slotsClear lo hi, s => { s with slots := NMap.clear s.slots lo hi }
  | .mbOrder v, s => { s with mbOrder := v }
  | .msgs x, s => { s with msgs := s.msgs ++ [x] }
  | .ports k v, s => { s with ports := NMap.put PortSt.down s.ports k v }
  | .portsClear lo hi, s => { s with ports := NMap.clear s.ports lo hi }
  | .pour v, s => { s with pour := v }
  | .faults v, s => { s with faults := v }
  | .pep v, s => { s with pep := v }
  | .power v, s => { s with power := v }
  | .resp v, s => { s with resp := v }
  | .dbg v, s => { s with dbg := v }
  | .pst v, s => { s with pst := v }
  | .boot v, s => { s with boot := v }
  | .saf v, s => { s with saf := v }
  | .svc v, s => { s with svc := v }
  | .freeCtr v, s => { s with freeCtr := v }

/-- Updates made in order. -/
def applyAll : List Upd → State → State
  | [], s => s
  | u :: us, s => applyAll us (u.apply s)

/-- An effect: the updates a command makes, read off the state it meets. -/
abbrev Eff := State → List Upd

/-- No effect. -/
def nop : Eff := fun _ => []

/-- Effects one after the other, each meeting the state the earlier ones leave. -/
def seq : List Eff → Eff
  | [], _ => []
  | e :: es, s => let us := e s; us ++ seq es (applyAll us s)

/-- An effect under a condition. -/
def when (b : Bool) (e : Eff) : Eff := if b then e else nop

/-- One of two effects. -/
def either (b : Bool) (e e' : Eff) : Eff := if b then e else e'

/-- An effect that depends on the state it meets. -/
def rd (k : State → Eff) : Eff := fun s => k s s

/-- An effect for each member of a list, in order. -/
def each {α : Type} (l : List α) (f : α → Eff) : Eff := seq (l.map f)

/-- Elementary updates as an effect. -/
def upd (us : List Upd) : Eff := fun _ => us

/-- The state an effect leaves. -/
def Eff.on (e : Eff) (s : State) : State := applyAll (e s) s

/-- Run an effect: every command but one ends in a next state. -/
def run (e : Eff) (s : State) : Host.Outcome State Fault Refusal := .next (Eff.on e s)

/-- A register field's value. -/
def State.fget (s : State) (f : Fld) (i : Nat) : Nat := NMap.get (f.resetAt i) s.flds (f.key i)

/-- A one-bit field's value. -/
def State.flag (s : State) (f : Fld) (i : Nat) : Bool := s.fget f i == 1

/-- A register field takes a value. -/
def fset (f : Fld) (i v : Nat) : Eff := fun _ => [.fld f i v]

/-- A one-bit field takes a value. -/
def fput (f : Fld) (i : Nat) (b : Bool) : Eff := fset f i (b2n b)

/-- A count wraps at its width. -/
def fadd (f : Fld) (i n : Nat) : Eff := fun s => [.fld f i (s.fget f i + n)]

/-- A count saturates at its width. -/
def fsat (f : Fld) (i n : Nat) : Eff := fun s => [.fld f i (satAdd (2 ^ f.len - 1) (s.fget f i) n)]

/-- A field keeps the larger of its value and another. -/
def fmax (f : Fld) (i v : Nat) : Eff := fun s => [.fld f i (max (s.fget f i) v)]

/-- A register's instance back at its reset value. -/
def regReset (r : Reg) (i : Nat) : Eff := fun _ => r.fields.map (fun f => .fld f i (f.resetAt i))

/-- A unit of `cores`. -/
def State.core (s : State) (k : Nat) : CoreSt := NMap.get CoreSt.init s.cores k

/-- A unit of `mes`. -/
def State.me (s : State) (k : Nat) : EngSt := NMap.get EngSt.zero s.mes k

/-- A unit of `ses`. -/
def State.se (s : State) (k : Nat) : EngSt := NMap.get EngSt.zero s.ses k

/-- A unit of `vus`. -/
def State.vu (s : State) (k : Nat) : VuSt := NMap.get VuSt.zero s.vus k

/-- A unit of `caches`. -/
def State.cache (s : State) (k : Nat) : CacheSt := NMap.get CacheSt.empty s.caches k

/-- A unit of `refreshed`. -/
def State.refreshedAt (s : State) (k : Nat) : Nat := NMap.get 0 s.refreshed k

/-- A unit of `flasks`. -/
def State.flask (s : State) (k : Nat) : FlaskSt := NMap.get FlaskSt.none s.flasks k

/-- A unit of `queues`. -/
def State.queue (s : State) (k : Nat) : QueueSt := NMap.get QueueSt.none s.queues k

/-- A unit of `ldls`. -/
def State.ldl (s : State) (k : Nat) : LdlSt := NMap.get LdlSt.idle s.ldls k

/-- A unit of `msix`. -/
def State.msixEntry (s : State) (k : Nat) : MsixEntry := NMap.get MsixEntry.reset s.msix k

/-- A unit of `hports`. -/
def State.hport (s : State) (k : Nat) : HostPort := NMap.get HostPort.none s.hports k

/-- A unit of `rings`. -/
def State.ring (s : State) (k : Nat) : RingSt := NMap.get RingSt.none s.rings k

/-- A unit of `slots`. -/
def State.slot (s : State) (k : Nat) : MbSlot := NMap.get MbSlot.none s.slots k

/-- A unit of `ports`. -/
def State.port (s : State) (k : Nat) : PortSt := NMap.get PortSt.down s.ports k

/-- A unit of `cores` changes. -/
def onCore (k : Nat) (f : CoreSt → CoreSt) : Eff := fun s => [.cores k (f (s.core k))]

/-- A unit of `mes` changes. -/
def onMe (k : Nat) (f : EngSt → EngSt) : Eff := fun s => [.mes k (f (s.me k))]

/-- A unit of `ses` changes. -/
def onSe (k : Nat) (f : EngSt → EngSt) : Eff := fun s => [.ses k (f (s.se k))]

/-- A unit of `vus` changes. -/
def onVu (k : Nat) (f : VuSt → VuSt) : Eff := fun s => [.vus k (f (s.vu k))]

/-- A unit of `caches` changes. -/
def onCache (k : Nat) (f : CacheSt → CacheSt) : Eff := fun s => [.caches k (f (s.cache k))]

/-- A unit of `flasks` changes. -/
def onFlask (k : Nat) (f : FlaskSt → FlaskSt) : Eff := fun s => [.flasks k (f (s.flask k))]

/-- A unit of `queues` changes. -/
def onQueue (k : Nat) (f : QueueSt → QueueSt) : Eff := fun s => [.queues k (f (s.queue k))]

/-- A unit of `ldls` changes. -/
def onLdl (k : Nat) (f : LdlSt → LdlSt) : Eff := fun s => [.ldls k (f (s.ldl k))]

/-- A unit of `msix` changes. -/
def onMsixEntry (k : Nat) (f : MsixEntry → MsixEntry) : Eff := fun s => [.msix k (f (s.msixEntry k))]

/-- A unit of `hports` changes. -/
def onHport (k : Nat) (f : HostPort → HostPort) : Eff := fun s => [.hports k (f (s.hport k))]

/-- A unit of `rings` changes. -/
def onRing (k : Nat) (f : RingSt → RingSt) : Eff := fun s => [.rings k (f (s.ring k))]

/-- A unit of `slots` changes. -/
def onSlot (k : Nat) (f : MbSlot → MbSlot) : Eff := fun s => [.slots k (f (s.slot k))]

/-- A unit of `ports` changes. -/
def onPort (k : Nat) (f : PortSt → PortSt) : Eff := fun s => [.ports k (f (s.port k))]

end Sys2Proof.Machine
end

