-- ==== Sys2Proof/Machine/Ops.lean ====
section
/-! DEFINITION. The named operations that the commands share: time, the logical grid, ownership, events, messages, host
writes, memory with its poison, CRCs and the ends of mailbox commands. -/
namespace Sys2Proof.Machine

/-! Time. -/

/-- The time counter (R66). -/
def State.tc (s : State) : Nat := s.fget F.TC_NOW_COUNT 0

/-- The time counter reaches a time that a command carries; it never runs back here. -/
def tcTo (t : Nat) : Eff := fun s => [.fld F.TC_NOW_COUNT 0 (max s.tc (t % 2 ^ 64))]

/-- The frame in progress (R90). -/
def State.frame (s : State) : Nat := s.fget F.TC_FRAME_FRAME 0

/-- The next free value (log entry 3): the effect it enters, with the count of draws advanced. -/
def draw (k : Nat → Eff) : Eff := rd fun s => seq [upd [.freeCtr (s.freeCtr + 1)], k (Config.freeNat s.freeCtr)]

/-! The grid (R5 to R9, R33, R57). -/

/-- The cluster of a physical core (R8). -/
def clusterOf (p : Nat) : Nat := p / 32 * 4 + p % 16 / 4

/-- The local core index within the cluster (R61). -/
def localOf (p : Nat) : Nat := p / 16 % 2 * 4 + p % 4

/-- The physical core of a cluster and a local core index. -/
def physAt (c k : Nat) : Nat := (c / 4 * 2 + k / 4) * 16 + c % 4 * 4 + k % 4

/-- The logical column of a physical column in a row map (R57): 15 for none. -/
def rowNibble (m c : Nat) : Nat := bitsOf m (4 * c) 4

/-- The logical core ID of a physical core, none when it holds no logical column. -/
def State.logOf (s : State) (p : Nat) : Option Nat :=
  let n := rowNibble (s.fget F.MOD_ROW_MAP_r_MAP (p / 16)) (p % 16)
  if n < 14 then some (p / 16 * 14 + n) else none

/-- The physical column that holds a logical column. -/
def findCol (m n : Nat) : Nat → Option Nat
  | 0 => none
  | k + 1 => match findCol m n k with
    | some c => some c
    | none => if rowNibble m k = n then some k else none

/-- The physical core behind a logical core ID; none when the ID is 140 or above or vacant (R34). -/
def State.physOf (s : State) (l : Nat) : Option Nat :=
  if l < 140 then
    (findCol (s.fget F.MOD_ROW_MAP_r_MAP (l / 14)) (l % 14) 16).map (fun c => l / 14 * 16 + c)
  else none

/-- The module's number in its pour and the pour's tag (R56). -/
def State.module (s : State) : Nat := s.fget F.MOD_POUR_ID_MODULE 0
/-- The pour's tag. -/
def State.pourTag (s : State) : Nat := s.fget F.MOD_POUR_ID_POUR_TAG 0

/-- A core's state (R222, R254): 0 IDLE, 1 LOAD, 2 READY, 3 RUN, 4 HALTED, 5 RESET. -/
def State.coreState (s : State) (p : Nat) : Nat := s.fget F.CORE_STAT_STATE p

/-- The flask that owns a core (R278). -/
def State.flaskOf (s : State) (p : Nat) : Option Nat := (s.core p).owner.map (fun o => o.1)

/-- The flask number of an event source, 0xFF for none. -/
def orFF : Option Nat → Nat
  | some v => v
  | none => 0xFF

/-- The physical cores of a flask, in the order of its core list. -/
def State.flaskPhys (s : State) (f : Nat) : List Nat := (s.flask f).cores.filterMap s.physOf

/-- The physical cores that a flask's active Mould runs on (R229): its own core list; every core of a flask without a Mould. -/
def State.mouldPhys (s : State) (f : Nat) : List Nat :=
  if (s.flask f).active.present then (s.flask f).active.cores.filterMap s.physOf else s.flaskPhys f

/-- The state of a flask's cores, IDLE for a flask without cores. -/
def State.flaskState (s : State) (f : Nat) : Nat :=
  match s.mouldPhys f with
  | [] => 0
  | p :: _ => s.coreState p

/-- A flask exists and its cores are in a given state. -/
def State.flaskIn (s : State) (f st : Nat) : Bool := (s.flask f).live && s.flaskState f == st

/-- The live flasks. -/
def State.liveFlasks (s : State) : List Nat := (List.range 16).filter (fun f => (s.flask f).live)

/-- The flasks in RUN. -/
def State.running (s : State) : List Nat := s.liveFlasks.filter (fun f => s.flaskState f == 3)

/-- A flask that belongs to the multi-module pour (R224 POUR_SIZE). -/
def State.inPour (s : State) (f : Nat) : Bool := (s.flask f).live && (s.flask f).active.present && decide ((s.flask f).active.pourSize > 1)

/-- The flasks of the pour. -/
def State.pourFlasks (s : State) : List Nat := s.liveFlasks.filter s.inPour

/-- A state for every core that a flask's Mould runs on. -/
def setFlaskState (f st : Nat) : Eff := rd fun s => upd ((s.mouldPhys f).map (fun p => .fld F.CORE_STAT_STATE p st))

/-- The schedule advances for a core: its flask runs, its hold point is not bubbled and no debug hold stands (R75, R207,
R683). -/
def State.scheduled (s : State) (p : Nat) : Bool :=
  s.coreState p == 3 && !s.gclk.bubbled &&
  (match s.flaskOf p with
   | some f => !bitOf (s.fget F.DBG_HOLD_HELD 0) f
   | none => true)

/-- The schedule cycle counter of a core (R207). -/
def State.sc (s : State) (p : Nat) : Nat := s.fget F.CORE_SC_SC p

/-! CRCs (R713). -/

/-- One bit of a reflected CRC. -/
def crcBit (poly c : Nat) : Nat := if c % 2 = 1 then (c / 2) ^^^ poly else c / 2

/-- `n` bits. -/
def crcBits (poly : Nat) : Nat → Nat → Nat
  | 0, c => c
  | n + 1, c => crcBits poly n (crcBit poly c)

/-- The bytes of a message. -/
def crcBytes (poly : Nat) : List Byte → Nat → Nat
  | [], c => c
  | b :: bs, c => crcBytes poly bs (crcBits poly 8 (c ^^^ b.toNat))

/-- CRC-32 with the IEEE 802.3 polynomial, reflected. -/
def crc32 (bs : List Byte) : Nat := crcBytes 0xEDB88320 bs 0xFFFFFFFF ^^^ 0xFFFFFFFF

/-- CRC-64 with the ECMA-182 polynomial, reflected. -/
def crc64 (bs : List Byte) : Nat := crcBytes 0xC96C5795D7870F42 bs 0xFFFFFFFFFFFFFFFF ^^^ 0xFFFFFFFFFFFFFFFF

/-! Records packed as R480 gives. -/

/-- The next offset aligned for a field of a size: a multiple of the size, of 8 B from 16 B up (R480). -/
def alignTo (size pos : Nat) : Nat :=
  let a := if size ≥ 16 then 8 else max size 1
  (pos + a - 1) / a * a

/-- Fields (size, value) packed in order from a position, with zero padding between them (R480). -/
def packFrom (pos : Nat) : List (Nat × Nat) → List Byte
  | [] => []
  | (n, v) :: t =>
    let p := alignTo n pos
    natLe (p - pos) 0 ++ natLe n v ++ packFrom (p + n) t

/-- Fields packed from offset 0. -/
def pack (l : List (Nat × Nat)) : List Byte := packFrom 0 l

/-- The length a list of field sizes packs to. -/
def packLen : List Nat → Nat → Nat
  | [], pos => pos
  | n :: t, pos => packLen t (alignTo n pos + n)

/-! Bytes of a bounded list. -/

/-- The number in `n` bytes at an offset of a byte string, bytes past its end reading 0. -/
def leAt (bs : List Byte) (off n : Nat) : Nat := leNat ((bs.drop off).take n)

/-- Bytes cut or padded with zeros to a length. -/
def fitTo (n : Nat) (bs : List Byte) : List Byte := bs.take n ++ List.replicate (n - bs.length) 0

/-! Events (R23, R491 to R494). -/

/-- The source of an event. -/
structure Who where
  cluster : Nat
  core : Nat
  unit : Nat
  flask : Nat
  deriving DecidableEq, Repr

/-- No named source. -/
def nobody : Who := ⟨0xFF, 0xFF, 0xFF, 0xFF⟩

/-- Crucible. -/
def crucible : Who := { nobody with unit := 0xFD }

/-- A flask with no unit named. -/
def flaskWho (f : Nat) : Who := { nobody with flask := f }

/-- A unit of a physical core: its cluster, logical core and owner. -/
def State.who (s : State) (p u : Nat) : Who := ⟨clusterOf p, orFF (s.logOf p), u, orFF (s.flaskOf p)⟩

/-- A record takes its sequence number as it is formed (R494). -/
def EventSt.form (e : EventSt) (r : EvRec) : EventSt :=
  { e with seq := (e.seq + 1) % 65536, formed := e.formed ++ [{ r with seq := e.seq }] }

/-- Two occurrences of one key (R494): CODE, MODULE, CLUSTER, CORE, UNIT and the first 8 B of DETAIL. -/
def EvRec.sameKey (a b : EvRec) : Bool :=
  a.code == b.code && a.module == b.module && a.cluster == b.cluster && a.core == b.core && a.unit == b.unit &&
  a.detail % 2 ^ 64 == b.detail % 2 ^ 64

/-- An occurrence joins its key's open window. -/
def joinWindow (r : EvRec) : List EvRec → Option (List EvRec)
  | [] => none
  | w :: ws =>
    if w.sameKey r then some ({ w with count := satAdd 0xFFFF w.count 1, tcLast := r.tcFirst, flags := setBit w.flags 0 } :: ws)
    else (joinWindow r ws).map (fun t => w :: t)

/-- An occurrence of an event (R494): a CORRECTED one joins or opens a window while one of 256 is free; any other is formed
at once. -/
def EventSt.occur (e : EventSt) (r : EvRec) : EventSt :=
  if r.sev = 0 then
    match joinWindow r e.windows with
    | some ws => { e with windows := ws }
    | none => if e.windows.length < 256 then { e with windows := e.windows ++ [r] } else e.form r
  else e.form r

/-- The record of one occurrence now. -/
def State.occurrence (s : State) (code sev flags : Nat) (w : Who) (detail : List Byte) : EvRec :=
  { code, sev, flags, module := s.module, cluster := w.cluster, core := w.core, unit := w.unit, flask := w.flask, count := 1,
    corrob := 0, seq := 0, tcFirst := s.tc, tcLast := s.tc, detail := leNat (detail.take 28) }

/-- Raise an event with its detail fields (size, value) packed under R480 (R492). -/
def raise (code sev : Nat) (w : Who) (detail : List (Nat × Nat)) : Eff :=
  fun s => [.ev (s.ev.occur (s.occurrence code sev 0 w (pack detail)))]

/-- The 64 bytes of a record with a phase bit (R491). -/
def EvRec.bytes (r : EvRec) (phase : Nat) : List Byte :=
  natLe 2 r.code ++ natLe 1 r.sev ++ natLe 1 r.flags ++ natLe 2 r.module ++ natLe 1 r.cluster ++ natLe 1 r.core ++
  natLe 1 r.unit ++ natLe 1 r.flask ++ natLe 2 r.count ++ natLe 2 r.corrob ++ natLe 2 r.seq ++ natLe 8 r.tcFirst ++
  natLe 8 r.tcLast ++ natLe 28 r.detail ++ natLe 3 0 ++ natLe 1 phase

/-! Messages of the module. -/

/-- Destinations of a message that are no port: the trees, the flood, the parent in tree 0, the sideband, Slosy. -/
def toTrees : Nat := 100
/-- On every pour port (R395). -/
def toFlood : Nat := 101
/-- Up tree 0 (R395). -/
def toParent : Nat := 102
/-- The management sideband. -/
def toSideband : Nat := 103
/-- The Slosy port. -/
def toSlosy : Nat := 104
/-- The Vent and the elastic Sprue share of this module. -/
def toVent : Nat := 105

/-- Send a message. -/
def send (port : Nat) (kind : MsgKind) (fields : List Nat) : Eff := upd [.msgs { port, kind, fields }]

/-- A fence beacon (R397, R613), while the module is in a pour. -/
def fenceBeacon (unit core cluster code flask reason : Nat) : Eff := rd fun s =>
  when (s.pourTag != 0)
    (seq [send toFlood .fenceBeacon [unit, s.module, core, cluster, s.frame, s.pourTag, code + flask * 65536 + reason * 2 ^ 24],
      fadd F.MOD_FAULT_STAT_BEACONS_SENT 0 1,
      upd [.faults { s.faults with fenceOut := s.faults.fenceOut ++ [(core, s.tc)] }]])

/-- A fence beacon for a unit of a core whose flask belongs to the pour (R613). -/
def coreBeacon (p unit code reason : Nat) : Eff := rd fun s =>
  match s.flaskOf p with
  | some f => when (s.inPour f) (fenceBeacon unit (orFF (s.logOf p)) (clusterOf p) code f reason)
  | none => nop

/-- A halt beacon (R397) with its cause. -/
def haltBeacon (cause : Nat) : Eff := rd fun s =>
  when (s.pourTag != 0) (send toFlood .haltBeacon [cause, s.module, s.frame, s.pourTag])

/-! Host writes (R453, R467, R469, R471). -/

/-- A port's function can initiate: link up, Bus Master Enable set, not in D3hot. -/
def State.portReady (s : State) (p : Nat) : Bool :=
  s.flag F.MOD_HOST_STAT_p_LINK_UP p && s.flag F.MOD_HOST_STAT_p_BUS_MASTER p && !(s.hport p).d3hot

/-- A posted write to host memory. -/
def hostWrite (p addr : Nat) (bs : List Byte) : Eff := upd [.hostOut { port := p, addr, bytes := bs }]

/-- An MSI-X message of a vector (R469): written, or left pending when masked or disabled; none on a port that cannot
carry it (R477). -/
def msixSend (p v : Nat) : Eff := rd fun s =>
  let e := s.msixEntry (p * 2048 + v)
  when (s.portReady p)
    (either (s.flag F.MOD_HOST_STAT_p_MSIX_EN p && !(s.hport p).funcMask && !e.masked)
      (hostWrite p e.addr (natLe 4 e.data))
      (onHport p (fun h => { h with pba := NSet.add h.pba v })))

/-- The messages of a port that are pending and no longer masked go out and their pending bits clear (R469). -/
def msixDrain (p : Nat) : Eff := rd fun s =>
  each (s.hport p).pba (fun v => rd fun s =>
    let e := s.msixEntry (p * 2048 + v)
    when (s.portReady p && s.flag F.MOD_HOST_STAT_p_MSIX_EN p && !(s.hport p).funcMask && !e.masked)
      (seq [hostWrite p e.addr (natLe 4 e.data), onHport p (fun h => { h with pba := NSet.del h.pba v })]))

/-! Scratchpad and DRAM contents with their poison. -/

/-- The first address of a physical core's scratchpad in the store. -/
def spdBase (p : Nat) : Nat := p * 2 ^ 28

/-- Bytes of scratchpad. -/
def State.spdRd (s : State) (p off n : Nat) : List Byte := Mem.rdN s.spd (spdBase p + off) n

/-- The numbers of the blocks of a size that a byte range touches. -/
def touched (size off n : Nat) : List Nat :=
  if n = 0 then [] else (List.range ((off + n - 1) / size - off / size + 1)).map (fun i => off / size + i)

/-- A block lies wholly in a byte range. -/
def covers (size off n b : Nat) : Bool := decide (off ≤ b * size) && decide (b * size + size ≤ off + n)

/-- Some line of a scratchpad range is poisoned (R117). -/
def State.spdPoisoned (s : State) (p off n : Nat) : Bool :=
  (touched 64 off n).any (fun l => NSet.mem s.spdPoison (p * 2 ^ 22 + l))

/-- Store bytes in scratchpad: poison marks every line touched; clean data removes it from the lines it overwrites whole
(R118). A write of a row that has had a correction marks it rewritten and makes a write-back still due unnecessary
(R273). -/
def spdWr (p off : Nat) (bs : List Byte) (poison : Bool) : Eff := fun s =>
  let ls := touched 64 off bs.length
  let c := s.core p
  let hit := ls.filter (fun l => c.occasions.any (fun o => o.1 == l))
  .spd (spdBase p + off) bs ::
    (ls.filter (fun l => poison || covers 64 off bs.length l)).map (fun l => .spdPoison (p * 2 ^ 22 + l) poison) ++
  (if hit.isEmpty then []
   else [.cores p { c with rewritten := hit.foldl NSet.add c.rewritten, writeBack := hit.foldl NSet.del c.writeBack }])

/-- Mark one line of scratchpad poisoned. -/
def spdMark (p line : Nat) : Eff := upd [.spdPoison (p * 2 ^ 22 + line) true]

/-- Zero a core's scratchpad with its poison (R279). -/
def spdZero (p : Nat) : Eff := upd [.spdClear (spdBase p) (spdBase (p + 1)), .spdPoisonClear (p * 2 ^ 22) ((p + 1) * 2 ^ 22)]

/-- The bank and row of a line (R261). -/
def bankOf (line : Nat) : Nat :=
  bitsOf line 0 6 ^^^ bitsOf line 6 6 ^^^ bitsOf line 12 6 ^^^ bitsOf line 18 4
/-- The row of a line within its bank. -/
def rowOf (line : Nat) : Nat := line / 64

/-- The DRAM capacity (1,280 GiB). -/
def dramSize : Nat := 1280 * 2 ^ 30

/-- One byte of DRAM: zero in a unit whose written bit is clear (R292). -/
def State.dramByte (s : State) (off : Nat) : Byte :=
  if NSet.mem s.dramWritten (off / 65536) then Mem.rd s.dram off else 0

/-- Bytes of DRAM. -/
def State.dramRd (s : State) (off : Nat) : Nat → List Byte
  | 0 => []
  | n + 1 => s.dramByte off :: s.dramRd (off + 1) n

/-- The weight key whose sealed range holds a DRAM offset, with the start of the range (R656). -/
def State.weightAt (s : State) (off : Nat) : Option (WeightKey × Nat) :=
  s.saf.keys.findSome? (fun k =>
    let lo := (s.flask k.flask).baseGib * 2 ^ 30 + k.base
    if lo ≤ off ∧ off < lo + k.len then some (k, lo) else none)

/-- A byte range meets a sealed range (R656). -/
def State.weightMeets (s : State) (off n : Nat) : Bool :=
  s.saf.keys.any (fun k =>
    let lo := (s.flask k.flask).baseGib * 2 ^ 30 + k.base
    decide (lo < off + n) && decide (off < lo + k.len))

/-- One byte of DRAM as the device reads it: a sealed range is decrypted with its weight key (R656). -/
def State.devByte (s : State) (off : Nat) : Byte :=
  match s.weightAt off with
  | some (k, lo) => Config.weightByte k.key ((off - lo) / 64) (s.dramRd (off / 64 * 64) 64) (off % 64)
  | none => s.dramByte off

/-- Bytes of DRAM as the device reads them. -/
def State.devRd (s : State) (off : Nat) : Nat → List Byte
  | 0 => []
  | n + 1 => s.devByte off :: s.devRd (off + 1) n

/-- Some 64 B of a DRAM range is poisoned. -/
def State.dramPoisoned (s : State) (off n : Nat) : Bool :=
  (touched 64 off n).any (fun g => NSet.mem s.dramWritten (g / 1024) && NSet.mem s.dramPoison g)

/-- Store bytes in DRAM: a unit's first write zeroes the rest of the unit (R292). -/
def dramWr (off : Nat) (bs : List Byte) (poison : Bool) : Eff := rd fun s =>
  let us := (touched 65536 off bs.length).filter (fun u => !NSet.mem s.dramWritten u)
  seq [
    upd (us.flatMap (fun u => [.dramClear (u * 65536) ((u + 1) * 65536), .dramPoisonClear (u * 1024) ((u + 1) * 1024),
      .dramWritten u true])),
    upd (.dram off bs ::
      ((touched 64 off bs.length).filter (fun g => poison || covers 64 off bs.length g)).map (fun g => .dramPoison g poison))]

/-- The flask whose DRAM region holds an offset (R282). -/
def State.regionOf (s : State) (off : Nat) : Option Nat :=
  s.liveFlasks.find? (fun f =>
    decide ((s.flask f).baseGib * 2 ^ 30 ≤ off) && decide (off < ((s.flask f).baseGib + (s.flask f).gib) * 2 ^ 30))

/-- The stack of a DRAM offset (R281). -/
def stackOf (off : Nat) : Nat := off / 4096 % 20

/-- The home cluster of a DRAM offset (R281). -/
def homeOf (off : Nat) : Nat :=
  let c := off / 4096
  let st := c % 20
  (if st < 10 then st / 2 else (st - 10) / 2) * 4 + c / 20 % 4

/-- The cluster that holds a stack's controller, and whether it is its stack A (R6). -/
def stackCluster (st : Nat) : Nat × Bool :=
  if st < 10 then (st / 2 * 4, st % 2 == 0) else ((st - 10) / 2 * 4 + 3, st % 2 == 0)

/-! Answers to requesters. -/

/-- What the requester of an access receives. -/
def answer (bs : List Byte) (poison : Bool) (status : Nat) : Eff := upd [.resp (some { bytes := bs, poison, status })]

/-! Bits of wider fields. -/

/-- One bit of a field takes a value. -/
def fbit (f : Fld) (i b : Nat) (v : Bool) : Eff := fun s => [.fld f i (if v then setBit (s.fget f i) b else clrBit (s.fget f i) b)]

/-! The ends of mailbox commands (R477 to R479, R495). -/

/-- The lowest status word state that is neither busy: IDLE 0, DONE 4, FAILED 5 are open (R473). -/
def MbSlot.isOpen (m : MbSlot) : Bool := m.state == 0 || m.state == 4 || m.state == 5

/-- A message of a slot, when its NOTIFY bit asks for one (R477). -/
def mbNotify (k bit : Nat) : Eff := rd fun s =>
  let m := s.slot k
  when (decide (k < 16) && bitOf m.notify bit) (msixSend (b2n (bitOf m.notify 1)) m.vector)

/-- The summary bits of a slot (R495): whether it is busy. -/
def mbBusy (k : Nat) (b : Bool) : Eff :=
  if k < 16 then fbit F.MOD_MB_SUMMARY_BUSY 0 k b else fput F.MOD_MB_SUMMARY_SIDEBAND_BUSY 0 b

/-- The end of a command: its state and result word, its end time, the TERMINAL bit and the message (R477, R478, R495). -/
def mbEnd (k st result progress : Nat) : Eff := rd fun s =>
  seq [onSlot k (fun m => { m with state := st, result, progress, tcEnd := s.tc }),
    mbBusy k false,
    when (decide (k < 16)) (seq [fbit F.MOD_MB_SUMMARY_TERMINAL 0 k true, fbit F.MOD_MB_SUMMARY_RUNNING_LONG 0 k false]),
    mbNotify k 0]

/-- Result bytes placed in the payload from offset 0, RESULT_LEN covering them (R479). -/
def mbResult (k : Nat) (bs : List Byte) : Eff :=
  onSlot k (fun m => { m with payload := Mem.wrN [] 0 bs, resultLen := bs.length })

/-- DONE with an inline result. -/
def mbDone (k inline_ : Nat) : Eff := mbEnd k 4 inline_ 0xFF

/-- DONE with result bytes. -/
def mbDoneWith (k : Nat) (bs : List Byte) : Eff := seq [mbResult k bs, mbDone k 0]

/-- FAILED with a status. -/
def mbFail (k status : Nat) : Eff := rd fun s => mbEnd k 5 status (s.slot k).progress

/-- A slot's running command is the one named. -/
def State.mbRuns (s : State) (k cmd : Nat) : Bool :=
  (s.slot k).cmd == cmd && ((s.slot k).state == 2 || (s.slot k).state == 3)

/-- The effect of a command that its slot is running, with its arguments; without that command running, nothing. -/
def mbCommand (k cmd : Nat) (e : List Byte → Eff) : Eff := rd fun s => when (s.mbRuns k cmd) (e (s.slot k).args)

/-- A running slot that holds a command naming a flask, or of a class. -/
def State.slotsRunning (s : State) (pred : MbSlot → Bool) : List Nat :=
  (List.range 17).filter (fun k => ((s.slot k).state == 2 || (s.slot k).state == 3) && pred (s.slot k))

/-! Moulds (R227). -/

/-- The bytes of a section of a Mould by kind, scope (logical core or port) and temper. -/
def MouldSt.sect (m : MouldSt) (kind scope temper : Nat) : List Byte :=
  match m.sections.find? (fun x => x.1 == kind && x.2.1 == scope && x.2.2.1 == temper) with
  | some x => x.2.2.2
  | _ => []

end Sys2Proof.Machine
end

