-- ==== Sys2Proof/Machine/Contain.lean ====
section
/-! DEFINITION. Containment shared by the families: stopping and zeroing cores, flask reset, fault halts, the FATAL halt,
the slag map and the logical grid. -/
namespace Sys2Proof.Machine

/-! Cores. -/

/-- Engines, vector units and sequencer of a core stopped and zeroed (R154, R192, R209): accumulators, chain registers,
buffers, vector registers, scalar registers, loops, PC and SC. Counters and flag registers keep their values. -/
def coreStop (p : Nat) : Eff := fun s =>
  let c := s.core p
  [.mesClear (p * 64) (p * 64 + 64), .sesClear (p * 8) (p * 8 + 8), .vusClear (p * 4) (p * 4 + 4),
   .fldsDrop [Reg.ME_STAT.ix] (p * 64) (p * 64 + 64), .fldsDrop [Reg.SE_STAT.ix] (p * 8) (p * 8 + 8),
   .fldsDrop [Reg.VU_STAT.ix] (p * 4) (p * 4 + 4),
   .fldsDrop [Reg.CORE_SEQ.ix, Reg.CORE_SC.ix, Reg.SPR_STAT.ix] p (p + 1),
   .cores p { c with scalars := [], loops := [], qopDue := [], wait := none, halted := false, sprOut := [], sprArr := [] }]

/-- The registers of the doorbell pages. -/
def queueRegs : List Nat := Reg.queueWords.map Reg.ix

/-- Every queue context of a logical core zeroed with its doorbell page (R456). -/
def queuesZero (l : Nat) : Eff := upd [.queuesClear (l * 8192) (l * 8192 + 8192), .fldsDrop queueRegs (l * 8192) (l * 8192 + 8192)]

/-- A core's Mould marks and arrival counters emptied as its Mould is unloaded (R222, R270). Its program banks (R208) are
the sections of its flask's Moulds. -/
def coreUnload (p : Nat) : Eff := fun s =>
  [.cores p { s.core p with arrive := [] },
   .fldsDrop [Reg.CORE_MOULD.ix] p (p + 1), .fld F.CORE_STAT_STAGED p 0]

/-- A core passes into RESET by a flask reset or an unload: everything but scratchpad, gather buffer and tile metadata
zeroed (R154, R192, R222, R270, R456). -/
def coreReset (p : Nat) : Eff := rd fun s =>
  seq [coreStop p, coreUnload p, (match s.logOf p with | some l => queuesZero l | none => nop),
    fset F.CORE_STAT_STATE p 5]

/-- A core passes into RESET on a change of owner: as a flask reset, with the gather buffer and the tile metadata zeroed
and the zeroing of its scratchpad begun (R279 steps 1 to 3). -/
def coreZero (p : Nat) (owner : Option (Nat × Nat)) : Eff :=
  seq [coreReset p, onCore p (fun c => { c with owner, gather := [], tmeta := [], arrive := [], writeBack := [] }),
    fset F.SPD_ELASTIC_GATHER_USED p 0,
    fset F.CORE_STAT_FLASK p (match owner with | some o => o.1 | none => 0), fset F.SPD_STAT_ZEROING p 1]

/-! Ladle contexts under a master reset (R340, R341 step 1). -/

/-- A list entry by key. -/
def assoc {α : Type} (d : α) (l : List (Nat × α)) (k : Nat) : α := NMap.get d l k

/-- Contexts of an engine that a predicate picks stop issuing with a cause; channels and waiting jobs it picks end. -/
def ldlAbortIf (cause : Nat) (pick : LdlJob → Bool) (chans : Bool) (e : Nat) : Eff := rd fun s =>
  let l := s.ldl e
  let hit := l.ctxs.filter (fun c => match c.2.job with | some j => pick j && c.2.abortCause == 0 | none => false)
  seq [upd [.ldls e { l with
        ctxs := l.ctxs.map (fun c => if hit.any (fun h => h.1 == c.1) then (c.1, { c.2 with abortCause := cause }) else c),
        chans := if chans then l.chans.filter (fun c => match c.2.job with | some j => !pick j | none => true) else l.chans,
        waiting := l.waiting.filter (fun j => !pick j) }],
    each hit (fun h => fset F.LDL_CTX_n_ABORTING (e * 4 + h.1) 1)]

/-- A master reset of every engine's contexts that a predicate picks. -/
def ldlAbort (cause : Nat) (pick : LdlJob → Bool) (chans : Bool) : Eff := rd fun s =>
  each (s.ldls.map (fun e => e.1)) (ldlAbortIf cause pick chans)

/-! Debug holds (R685). -/

/-- A flask is in a debug hold. -/
def State.held (s : State) (f : Nat) : Bool := bitOf (s.fget F.DBG_HOLD_HELD 0) f

/-- ARMED of a flask follows what is armed for it (R692). -/
def armedBit (f : Nat) : Eff := rd fun s => fbit F.DBG_HOLD_ARMED 0 f (s.dbg.armed.any (fun a => a.flask == f))

/-- A flask's debug hold, armed or in force, ends. -/
def holdEnd (f : Nat) : Eff := rd fun s =>
  seq [fbit F.DBG_HOLD_HELD 0 f false,
    upd [.dbg { s.dbg with armed := s.dbg.armed.filter (fun a => a.flask != f), heldTc := s.dbg.heldTc.filter (fun x => x.1 != f),
                           lastHeld := if s.held f then s.tc else s.dbg.lastHeld }],
    armedBit f]

/-! The Slosy response (R675). -/

/-- The response to the request being served: sent, stored for a repetition of its TAG, and the request is over. -/
def slosyAnswer (status : Nat) (payload : List Byte) : Eff := rd fun s =>
  match s.dbg.req with
  | none => nop
  | some r =>
    let body := natLe 2 0x3C5A ++ natLe 1 r.tag ++ natLe 1 status ++ natLe 2 payload.length ++ natLe 2 (s.fget F.DBG_STAT_SESSION 0) ++ payload
    seq [upd [.dbg { s.dbg with req := none, prev := some (r, status, payload) }],
      send toSlosy .slosy ((body ++ natLe 4 (crc32 body)).map BitVec.toNat), answer payload false status]

/-! Flask reset (R222, R606). -/

/-- A logical core lies in the compatibility block of a base row (R38). -/
def inBlock (base l : Nat) : Bool := decide (base ≤ l / 14) && decide (l / 14 < base + 8) && decide (l % 14 < 12)

/-- The compatibility block and the cores that lie in it (R38, R55, R254). -/
def compatPut (base : Option Nat) : Eff := rd fun s =>
  seq [fput F.MOD_GRID_STAT_COMPAT_ACTIVE 0 base.isSome, fset F.MOD_GRID_STAT_COMPAT_BASE 0 (base.getD 0),
    upd ((List.range 160).map (fun p => .fld F.CORE_STAT_COMPAT p (b2n (match base, s.logOf p with
      | some b, some l => inBlock b l
      | _, _ => false))))]

/-- The compatibility block ends with the Mould that made it (R38, R55). -/
def compatEnd (f : Nat) : Eff := rd fun s =>
  when ((s.flask f).active.present && (s.flask f).active.format == 1) (compatPut none)

/-- Running mailbox commands that a flask's reset ends (R598, R609): those of a set of codes that name it. -/
def failFlaskSlots (f : Nat) (cmds : List Nat) (status : Nat) : Eff := rd fun s =>
  each (s.slotsRunning (fun m => cmds.elem m.cmd && leAt m.args 0 1 == f)) (fun k => mbFail k status)

/-- A flask's Mould and everything armed on it end; it keeps its cores, region, owner, posted-fault mask and redundancy
mode. -/
def FlaskSt.unload (x : FlaskSt) : FlaskSt :=
  { x with active := MouldSt.none, staged := MouldSt.none, halt := Option.none, atQuiesce := false, resumed := false,
           startAt := Option.none, reported := Option.none, draining := false, drained := false,
           faultHalt := false, switchSlot := Option.none, haltSc := 0, haltPoint := 0xFFFF, haltCause := 0 }

/-- Flask reset: its cores stop and pass to RESET, its Ladle work is aborted, its Mould is unloaded. -/
def flaskReset (f : Nat) : Eff := rd fun s =>
  seq [ldlAbort 1 (fun j => j.flask == f) true, compatEnd f, each (s.flaskPhys f) coreReset, holdEnd f,
    onFlask f FlaskSt.unload, failFlaskSlots f [0x0104, 0x0106, 0x0107, 0x0108, 0x010A, 0x010B, 0x0305] 0x0210]

/-- A CONTAINED event of the flask-reset path (R606): the event, the reset, and the beacon when the flask is of the pour
(R613). -/
def contain (f code : Nat) (w : Who) (detail : List (Nat × Nat)) : Eff := rd fun s =>
  seq [raise code 2 w detail, flaskReset f, when (s.inPour f) (fenceBeacon 0x10 w.core w.cluster code f 0)]

/-- The same raised by a core: against its flask, or DEFERRED when it has none (R274). -/
def containCore (p code unit : Nat) (detail : List (Nat × Nat)) : Eff := rd fun s =>
  match s.flaskOf p with
  | some f => contain f code (s.who p unit) detail
  | none => raise code 1 (s.who p unit) detail

/-! Culprit reports (R611, R612). -/

/-- The record of a window of culprit reports. -/
def State.culpritRecord (s : State) (w : CulWin) : EvRec :=
  let mine := w.module == s.module && w.core != 0xFF
  let cl := match s.physOf w.core with | some p => clusterOf p | none => 0xFF
  { code := w.code, sev := if w.code = 0x0106 then 2 else 1, flags := 2 + b2n (decide (w.count > 1)), module := s.module,
    cluster := if mine then cl else 0xFF, core := if mine then w.core else 0xFF, unit := 0xFF, flask := w.flask,
    count := w.count, corrob := w.units.length, seq := 0, tcFirst := w.first, tcLast := w.last,
    detail := leNat ((pack w.detail).take 28) }

/-- WINDOWS_OPEN follows the windows. -/
def windowsOpen : Eff := rd fun s => fset F.MOD_FAULT_STAT_WINDOWS_OPEN 0 s.faults.windows.length

/-- A culprit report: the code, the suspected culprit's module and core, the flask, the detecting unit (core, input or
engine), and the detail fields CAUSE, EXPECTED_EPOCH, SEEN_EPOCH, FLOW and SLOT (R612). -/
def culpritReport (code m c flask : Nat) (unit : Nat × Nat) (cause expect seen flow slot : Nat) : Eff := rd fun s =>
  let w : CulWin :=
    { code, module := m, core := c, who := [], flask, count := 1, units := [unit], first := s.tc, last := s.tc,
      frame := s.frame,
      detail := [(2, m), (1, c), (1, cause), (1, expect), (1, seen), (2, s.fget F.CLK_PSTEP_SEQ 0), (8, s.frame), (2, flow),
        (2, slot)] }
  let same (x : CulWin) := x.code == code && x.module == m && x.core == c
  if s.faults.windows.any same then
    upd [.faults { s.faults with windows := s.faults.windows.map (fun x => if same x then
      { x with count := satAdd 0xFFFF x.count 1, last := s.tc,
               units := if x.units.elem unit then x.units else x.units ++ [unit] } else x) }]
  else if s.faults.windows.length < 64 then
    seq [upd [.faults { s.faults with windows := s.faults.windows ++ [w] }], windowsOpen]
  else seq [upd [.ev (s.ev.form { s.culpritRecord w with flags := 2 })], fset F.MOD_FAULT_STAT_OVERFLOW 0 1]

/-! Halts (R238, R606 to R610). -/

/-- ACTIVE of every router with a table follows its schedule (R378). -/
def sprSync : Eff := rd fun s =>
  upd (s.liveFlasks.flatMap (fun f => (s.mouldPhys f).map (fun p =>
    .fld F.SPR_STAT_ACTIVE p (b2n (s.fget F.SPR_STAT_PERIOD_LOG2 p != 0 && s.scheduled p)))))

/-- A flask enters HALTED: where and why is recorded for its scan image (R249). A mailbox command that waits for the halt
is done; one that waits for a switch fails when the halt is not at a quiesce point. -/
def haltNow (f cause point : Nat) (quiesce fault : Bool) : Eff := rd fun s =>
  let sc := match s.mouldPhys f with | p :: _ => s.sc p | [] => 0
  seq [setFlaskState f 4,
    (match (s.flask f).halt with
     | some h => (match h.slot with
       | some k => when (((s.slot k).state == 2 || (s.slot k).state == 3) && leAt (s.slot k).args 0 1 == f)
           (if h.kind = .switch then when (!quiesce) (mbFail k 0x0210) else mbDoneWith k (pack [(8, sc), (2, point)]))
       | none => nop)
     | none => nop),
    onFlask f (fun x => { x with halt := none, haltSc := sc, haltTc := s.tc, haltFrame := s.frame, haltPoint := point,
                                 haltCause := cause, atQuiesce := quiesce, faultHalt := fault, draining := fault,
                                 drained := false }),
    when fault (holdEnd f), sprSync]

/-- A fault halt armed for the first frame boundary at or after a TC of a running flask (R606); a flask that is not in RUN, or already on
its way, is left as it is. -/
def faultHaltFrom (f cause t : Nat) : Eff := rd fun s =>
  when (s.flaskIn f 3)
    (onFlask f (fun x => { x with halt := some { kind := .fault, quiesce := false, target := t, slot := none, cause } }))

/-- The same at the next frame boundary. -/
def faultHaltAtFrame (f cause : Nat) : Eff := faultHaltFrom f cause 0

/-- Every flask of the pour takes a fault halt at the first frame boundary at or after a TC. -/
def haltPourFlasks (cause t : Nat) : Eff := rd fun s => each s.pourFlasks (fun f => faultHaltFrom f cause t)

/-- Every running flask of the module halts at once (R610). -/
def haltModule (cause : Nat) : Eff := rd fun s => each s.running (fun f => haltNow f cause 0xFFFF false true)

/-- A FATAL event (R610): the event, the beacon while a pour flask runs, and the halt of every flask. -/
def fatal (code : Nat) (w : Who) (detail : List (Nat × Nat)) : Eff := rd fun s =>
  let inRun := s.pourFlasks.any (fun f => s.flaskIn f 3)
  seq [raise code 3 w detail, when inRun (fenceBeacon 0x11 w.core w.cluster code 0xFF 0), haltModule 4]

/-! The slag map (R40 to R44). -/

/-- The entry for a unit, when the running copy has one. -/
def State.slagEntry (s : State) (kind loc : Nat) : Option SlagEntry :=
  s.slag.run.find? (fun e => e.kind == kind && e.location == loc)

/-- The map is full for a kind (R44). -/
def State.slagFull (s : State) (kind : Nat) : Bool :=
  decide (s.slag.run.length ≥ 4096) ||
  (kind != 1 && decide ((s.slag.run.filter (fun e => e.kind != 1)).length ≥ 3936))

/-- An entry joins a list: one for the same unit is replaced, but a FENCED state stands (R586). -/
def slagPut (e : SlagEntry) : List SlagEntry → List SlagEntry
  | [] => [e]
  | x :: xs =>
    if x.kind = e.kind ∧ x.location = e.location then (if x.state = 1 then x :: xs else e :: xs) else x :: slagPut e xs

/-- Record a unit in the running copy and in flash, with the header brought up to date (R40, R41). -/
def slagRecord (kind state reason loc spare : Nat) : Eff := rd fun s =>
  let e : SlagEntry := { kind, state, reason, flags := 0, location := loc, spare, tc := s.tc }
  upd [.slag { s.slag with run := slagPut e s.slag.run, flash := slagPut e s.slag.flash, flashCrcOk := true,
                           generation := (s.slag.generation + 1) % 2 ^ 32, tcUpdated := s.tc }]

/-- UNIT_FENCED with the new GENERATION (R632). -/
def raiseFenced (kind reason loc : Nat) : Eff := rd fun s =>
  raise 0x0A06 0 nobody [(1, kind), (1, reason), (4, loc), (4, s.slag.generation)]

/-- UNIT_SUBSTITUTED (R632). -/
def raiseSubstituted (kind reason loc spare : Nat) : Eff := raise 0x0A07 0 nobody [(1, kind), (1, reason), (4, loc), (2, spare)]

/-- SPARE_EXHAUSTED (R632). -/
def raiseExhausted (kind loc : Nat) : Eff := raise 0x0A0A 0 nobody [(1, kind), (4, loc)]

/-! The logical grid (R32, R33, R55, R57, R63). -/

/-- A core is healthy: no entry records it as fenced (R32). -/
def State.healthy (s : State) (p : Nat) : Bool := match s.slagEntry 1 p with | some e => e.state != 1 | none => true

/-- Healthy cores of a core-row. -/
def State.healthyIn (s : State) (r : Nat) : Nat := ((List.range 16).filter (fun c => s.healthy (r * 16 + c))).length

/-- The logical width that the slag map gives (R32). -/
def State.slagWidth (s : State) : Nat := (List.range 10).foldl (fun w r => min w (s.healthyIn r)) 14

/-- A row map: columns 0 to W − 1 on the first W healthy cores in ascending order (R33, R57). -/
def rowMapOf (ok : Nat → Bool) (w : Nat) : Nat → Nat → Nat → Nat
  | 0, _, _ => 0
  | k + 1, c, n =>
    if ok c && decide (n < w) then n * 16 ^ c + rowMapOf ok w k (c + 1) (n + 1)
    else 15 * 16 ^ c + rowMapOf ok w k (c + 1) n

/-- A mask over the eight cores of a cluster. -/
def clusterMask (c : Nat) (f : Nat → Bool) : Nat := (List.range 8).foldl (fun m k => if f (physAt c k) then m + 2 ^ k else m) 0

/-- The cluster and core registers that follow the row maps (R63, R254). -/
def gridStatus : Eff := fun s =>
  (List.range 20).flatMap (fun c =>
    [.fld F.CLU_CORES_LOGICAL c (clusterMask c (fun p => (s.logOf p).isSome)),
     .fld F.CLU_CORES_FENCED c (clusterMask c (fun p => !s.healthy p)),
     .fld F.CLU_CORES_SPARE c (clusterMask c (fun p => s.healthy p && (s.logOf p).isNone))]) ++
  (List.range 160).flatMap (fun p =>
    [.fld F.CORE_STAT_FENCED p (b2n (!s.healthy p)), .fld F.CORE_STAT_SPARE p (b2n (s.healthy p && (s.logOf p).isNone))])

/-- One application of the slag map to the row maps (R32, R33, R35, R55). -/
def applyGrid : Eff := rd fun s =>
  let w := s.slagWidth
  seq [
    upd ((List.range 10).map (fun r => .fld F.MOD_ROW_MAP_r_MAP r (rowMapOf (fun c => s.healthy (r * 16 + c)) w 16 0 0))),
    fset F.MOD_GRID_STAT_WIDTH 0 w,
    fset F.MOD_GRID_STAT_SPARES 0 ((List.range 10).foldl (fun a r => a + (s.healthyIn r - w)) 0),
    fadd F.MOD_GRID_STAT_GEN 0 1,
    when (decide (w < 8)) (fset F.MOD_GRID_STAT_OUT_OF_SERVICE 0 1),
    upd [.slag { s.slag with width := w }],
    gridStatus]

/-! An in-service core fence (R36, R277, R278, R588). -/

/-- The flasks that own a logical core which the fence of a physical core moves: those of its row from its column
eastward, and those that hold the last column of every row when the width falls. -/
def State.movingFlasks (s : State) (p : Nat) : List Nat :=
  let w := s.fget F.MOD_GRID_STAT_WIDTH 0
  let w' := min w (s.healthyIn (p / 16) - 1)
  s.liveFlasks.filter (fun f => (s.flask f).cores.any (fun l =>
    (match s.physOf l with
     | some q => (s.logOf p).isSome && q / 16 == p / 16 && decide (p ≤ q)
     | none => false) || decide (w' ≤ l % 14)))

/-- A flask is drained at once: its elastic contexts aborted with CAUSE 3 and its run ended (R608). -/
def drainEnd (f : Nat) : Eff := seq [ldlAbort 3 (fun j => j.flask == f) true, flaskReset f]

/-- After an application of the grid, physical cores that took or lost a logical column pass to their new owner with
zeroing (R278, R279); vacant IDs leave their flasks (R34). -/
def reown (fs : List Nat) : Eff :=
  seq [
    each fs (fun f => rd fun s => onFlask f (fun x => { x with cores := x.cores.filter (fun l => (s.physOf l).isSome) })),
    rd fun s => each (List.range 160) (fun p =>
      let o := match s.logOf p with
        | some l => (s.liveFlasks.find? (fun f => (s.flask f).cores.elem l)).map (fun f => (f, (s.flask f).gen))
        | none => none
      when ((s.core p).owner != o) (coreZero p o))]

/-- Fence a core in service: the flasks whose cores move are drained, the entry is recorded, the rows are rewritten and
GEN advances; `agentBad` are cores that take a column and whose agent fails both copies: they are fenced as well
(R588). -/
def fenceCore (p reason : Nat) (agentBad : List Nat) : Eff := rd fun s =>
  let fs := s.movingFlasks p
  let r := p / 16
  let bad := agentBad.filter (fun q => q / 16 == r && q != p && s.healthy q && (s.logOf q).isNone)
  when (s.healthy p)
    (seq [each fs drainEnd,
      each fs (fun f => when (s.inPour f) (fenceBeacon 1 (orFF (s.logOf p)) (clusterOf p) 0x0A06 f reason)),
      slagRecord 1 1 reason p 0xFFFF,
      each bad (fun q => seq [slagRecord 1 1 2 q 0xFFFF, raise 0x0B07 0 nobody [(1, q)], fset F.MOD_BOOT_ERR_AGENT_FAULT 0 1]),
      applyGrid, reown fs, fset F.SPR_STAT_OFF p 1,
      raiseFenced 1 reason p,
      rd fun s' => when (decide (s'.healthyIn r ≤ s'.fget F.MOD_GRID_STAT_WIDTH 0) && (s.logOf p).isSome) (raiseExhausted 1 p)])

end Sys2Proof.Machine
end

