-- ==== Sys2Proof/Machine/Slots.lean ====
section
/-! DEFINITION. Sprue slot tables (R359, R360) as the active Mould of a core holds them. -/
namespace Sys2Proof.Machine

/-- An entry of a slot table (R360): its fields. -/
structure SprSlot where
  slot : Nat
  run : Nat
  out : Nat
  src : Nat
  flow : Nat
  addr : Nat
  step : Nat
  counter : Nat
  origin : Nat
  latency : Nat
  deriving DecidableEq, Repr

/-- The entry that 32 bytes spell (R360). -/
def SprSlot.parse (b : List Byte) : SprSlot :=
  { slot := leAt b 0 2, run := leAt b 2 2, out := leAt b 4 1, src := leAt b 5 1, flow := leAt b 6 2, addr := leAt b 8 4,
    step := leAt b 12 2, counter := leAt b 14 2, origin := leAt b 16 2, latency := leAt b 18 2 }

/-- `n` entries of a section after its head. -/
def sprSlots : Nat → List Byte → List SprSlot
  | 0, _ => []
  | n + 1, b => SprSlot.parse (b.take 32) :: sprSlots n (b.drop 32)

/-- PERIOD_LOG2 of a SPRUE_SLOTS section. -/
def sprPeriodOf (b : List Byte) : Nat := leAt b 0 1

/-- The entries of a SPRUE_SLOTS section. -/
def sprEntries (b : List Byte) : List SprSlot := sprSlots (leAt b 2 2) (b.drop 16)

/-- The active Mould of a core, with the core's logical ID. -/
def State.mouldOf (s : State) (p : Nat) : Option (MouldSt × Nat) :=
  match s.flaskOf p, s.logOf p with
  | some f, some l => if (s.flask f).active.present then some ((s.flask f).active, l) else none
  | _, _ => none

/-- A per-core, per-temper section of a core's active Mould, in a temper. -/
def State.coreSect (s : State) (p kind temper : Nat) : List Byte :=
  match s.mouldOf p with
  | some (m, l) => m.sect kind l temper
  | none => []

/-- The slot table in force at a core's router (R365). -/
def State.sprTable (s : State) (p : Nat) : List SprSlot := sprEntries (s.coreSect p 4 (s.fget F.SPR_STAT_TEMPER p))

/-- The period of the slot table in force: 0 for none. -/
def State.sprPeriod (s : State) (p : Nat) : Nat :=
  if s.fget F.SPR_STAT_PERIOD_LOG2 p = 0 then 0 else 2 ^ s.fget F.SPR_STAT_PERIOD_LOG2 p

/-- A buffer entry is one that a run touches (R360: entry increment modulo 64). -/
def SprSlot.hasEntry (e : SprSlot) (n : Nat) : Bool := (List.range e.run).any (fun k => (e.addr % 64 + k * e.step) % 64 == n)

/-- The router to which a Runner port's stop attaches (R356): the primary column's, the alternate's when the primary core
is fenced, none when both are. -/
def State.stopCore (s : State) (port : Nat) : Option Nat :=
  let q := port % 12
  let p := (if port < 12 then 0 else 9) * 16 + q + q / 3
  if s.healthy p then some p else if s.healthy (p + 1) then some (p + 1) else none

/-- The ports whose stops attach to a router. -/
def State.stopsAt (s : State) (p : Nat) : List Nat := (List.range 24).filter (fun n => s.stopCore n == some p)

/-- An entry of a RUNNER_SLOTS section (R404). -/
structure RunSlot where
  slot : Nat
  run : Nat
  dir : Nat
  flow : Nat
  latency : Nat
  originModule : Nat
  fidx : Nat
  deriving DecidableEq, Repr

/-- The entry that 16 bytes spell (R404). -/
def RunSlot.parse (b : List Byte) : RunSlot :=
  { slot := leAt b 0 2, run := leAt b 2 2, dir := leAt b 4 1, flow := leAt b 6 2, latency := leAt b 8 2,
    originModule := leAt b 10 2, fidx := leAt b 12 2 }

/-- `n` entries of a section after its head. -/
def runSlots : Nat → List Byte → List RunSlot
  | 0, _ => []
  | n + 1, b => RunSlot.parse (b.take 16) :: runSlots n (b.drop 16)

/-- The entries of a RUNNER_SLOTS section. -/
def runEntries (b : List Byte) : List RunSlot := runSlots (leAt b 2 2) (b.drop 16)

/-- The flask that binds a Runner port: the live flask whose active Mould has a RUNNER_SLOTS section for it (R227). -/
def State.portFlask (s : State) (port : Nat) : Option Nat :=
  s.liveFlasks.find? (fun f => !((s.flask f).active.sect 5 port 0).isEmpty)

/-- The RUNNER_SLOTS section in force at a port (R404): in the temper of the router its stop attaches to (R365). -/
def State.portSect (s : State) (port : Nat) : List Byte :=
  match s.portFlask port, s.stopCore port with
  | some f, some p => (s.flask f).active.sect 5 port (s.fget F.SPR_STAT_TEMPER p)
  | _, _ => []

/-- The RX entry of a flow at a port. -/
def State.rxEntry (s : State) (port flow : Nat) : Option RunSlot :=
  (runEntries (s.portSect port)).find? (fun e => e.dir == 1 && e.flow == flow)

/-- The culprit that an entry's ORIGIN names (R611): the module and core. -/
def State.culpritOf (s : State) (e : SprSlot) : Nat × Nat :=
  if bitOf e.origin 15 then
    (match s.rxEntry (bitsOf e.origin 8 5) e.flow with | some r => r.originModule | none => 0xFFFF, 0xFF)
  else (s.module, bitsOf e.origin 0 8)

/-- The Sprue arrival that feeds an arrival-buffer entry of a core. -/
def State.feeder (s : State) (p n : Nat) : Option SprSlot :=
  (s.sprTable p).find? (fun e => e.out == 8 && bitOf e.addr 28 && e.hasEntry n)

end Sys2Proof.Machine
end

