-- ==== Sys2Proof/Machine/Pour.lean ====
section
/-! DEFINITION. Pour formation, reports and start, and flask control records (R238 to R240, R407, R416 to R422): the
operations that several families share. -/
namespace Sys2Proof.Machine

/-! Clocks. -/

/-- The core clock of a P-step in MHz (R78). -/
def pstepMhz : Nat → Nat
  | 0 => 600 | 1 => 700 | 2 => 800 | 3 => 900 | 4 => 1000 | 5 => 1100 | 6 => 1200 | 7 => 1250 | 8 => 1300 | 9 => 1350
  | 10 => 1400 | 11 => 1450 | 12 => 1500 | 13 => 1600 | 14 => 1700 | _ => 1800

/-- The time of `n` frames of a P-step in nanoseconds, rounded down: 8,192 core cycles each (R74, R78). -/
def frameNs (p n : Nat) : Nat := n * 8192 * 1000 / pstepMhz p

/-- The P-step in force. -/
def State.pstep (s : State) : Nat := s.fget F.CLK_PSTEP_CURRENT 0

/-- A frame boundary of the grid at least `n` frames ahead (R74, R238). -/
def State.boundaryAfter (s : State) (n : Nat) : Nat :=
  let t := s.fget F.TC_FRAME_TC_TC 0
  t + frameNs s.pstep (n + b2n (decide (t < s.tc)))

/-! Formation (R417 to R419). -/

/-- A port's state (R398): 0 DOWN, 1 TRAIN, 2 LOCK, 3 QUALIFY, 4 UP, 5 FAILED. -/
def State.portState (s : State) (p : Nat) : Nat := s.fget F.RUN_STAT_STATE p

/-- The ports that the plan in force uses. -/
def PourSt.used (x : PourSt) : List Nat := (x.ports.filter (fun q => q.2.2.2)).map (fun q => q.1)

/-- Everything of formation returns to its initial state: MOD_POUR_ID, alignment, trees and forwarding table (R418, R422). -/
def pourClear : Eff := rd fun s =>
  seq [regReset .MOD_POUR_ID 0, regReset .TC_ALIGN_STAT 0,
    upd [.pour PourSt.none, .align { good := 0, bad := 0, entered := s.tc, alternative := none, slew := 0, slewedAt := s.align.slewedAt },
      .ctl CtlSt.none],
    each (List.range 24) (fun p => seq [fset F.RUN_STAT_TREE_UP p 0, fset F.RUN_STAT_POUR_LINK p 0])]

/-- A formation ends with a status (R418): the command fails and the module is out of its pour; links stay UP. -/
def pourAbort (status : Nat) : Eff := rd fun s =>
  when (s.pour.phase == 1)
    (seq [each (s.slotsRunning (fun m => m.cmd == 0x0201)) (fun k => mbFail k status), pourClear])

/-- The module is the timing master of its pour. -/
def State.pourMaster (s : State) : Bool := s.pourTag != 0 && s.pour.master == s.module

/-- The elastic binding sum of the module (R421). -/
def State.bindSum (s : State) : Nat :=
  let fa (q : Nat) := s.module * 2 ^ 48 + 4 * 2 ^ 44 + q * 64
  let h (a b : Nat) := crc64 (natLe 8 a ++ natLe 8 b)
  s.queues.foldl (fun t q =>
    let x := q.2
    if x.peer / 2 ^ 48 = s.module then t
    else match x.kind with
      | .elasticTx => (t + h (fa q.1) x.peer) % 2 ^ 64
      | .elasticRx => (t + 2 ^ 64 - h x.peer (fa q.1) % 2 ^ 64) % 2 ^ 64
      | _ => t) 0

/-- The module's own report of a phase, once it has one (R418, R420): 1 FORMED when every used port has exchanged HELLO and the
module is ALIGNED or is the master; 2 READY when every pour flask is READY and no other flask runs. -/
def State.ownReport (s : State) (phase : Nat) : Option Report :=
  let x := s.pour
  let digest := match s.pourFlasks with | f :: _ => (s.flask f).active.digest | [] => 0
  let r (st : Nat) : Report := { phase, count := 1, digest, bindSum := s.bindSum, status := st, failing := s.module }
  if phase = 1 then
    if x.fail ≠ 0 then some (r x.fail)
    else if x.used.any (fun p => decide (s.fget F.RUN_DELAY_DELAY_PS p > 100000)) then some (r 0x0224)
    else if x.used.all (fun p => x.hello.elem p) && (s.pourMaster || s.fget F.TC_ALIGN_STAT_STATE 0 == 2) then some (r 0)
    else none
  else if !s.pourFlasks.isEmpty && s.pourFlasks.all (fun f => s.flaskIn f 2) && (s.running.all s.inPour) then
    some (r (if x.digestBad then 0x0226 else 0))
  else none

/-- Two reports added (R418, R420, R421): the first bad status stands; POUR_DIGESTs that differ are a failure of the one
that joins. -/
def Report.add (phase : Nat) (a b : Report) : Report :=
  let bad := if a.status ≠ 0 then (a.status, a.failing)
    else if b.status ≠ 0 then (b.status, b.failing)
    else if phase = 2 ∧ a.digest ≠ b.digest then (0x0226, b.failing) else (0, 0)
  { a with count := a.count + b.count, bindSum := (a.bindSum + b.bindSum) % 2 ^ 64, status := bad.1, failing := bad.2 }

/-- The report of a subtree: this module's and every child's, once all are there (R395). -/
def State.treeReport (s : State) (phase : Nat) : Option Report :=
  let x := s.pour
  let of (p : Nat) := x.reports.find? (fun r => r.1 == p && r.2.phase == phase)
  match s.ownReport phase with
  | none => none
  | some own =>
    if x.children.all (fun p => (of p).isSome) then
      some (x.children.foldl (fun a p => match of p with | some r => a.add phase r.2 | none => a) own)
    else none

/-- The fields of a REPORT message. -/
def Report.fields (r : Report) : List Nat := [r.phase, r.count, r.digest, r.bindSum, r.status, r.failing]

/-- The formation completes on a module (R418 step 7): the forwarding table is written and the command is done. -/
def pourFormed (routes : List (Nat × Nat)) : Eff := rd fun s =>
  when (s.pour.phase == 1)
    (seq [upd [.pour { s.pour with phase := 2, routes }], each (s.slotsRunning (fun m => m.cmd == 0x0201)) (fun k => mbDone k 0)])

/-- REPORT FORMED rises (R418 step 6), or at the master the formation completes or aborts (step 7). -/
def formedReport (routes : List (Nat × Nat)) : Eff := rd fun s =>
  when (s.pour.phase == 1 && !s.pour.formedSent)
    (match s.treeReport 1 with
     | none => nop
     | some r =>
       let st := if r.status = 0 ∧ s.pourMaster = true ∧ r.count ≠ s.pour.size then 0x0225 else r.status
       seq [upd [.pour { s.pour with formedSent := true }],
         either (!s.pourMaster) (send toParent .report r.fields)
           (either (st == 0) (seq [send toFlood .form [3, s.pourTag, 0, s.pour.master, s.pour.size], pourFormed routes])
             (seq [send toFlood .abort [s.pourTag, st, r.failing], pourAbort st]))])

/-- A failure found by this module goes into its REPORT (R418). -/
def pourFail (status : Nat) : Eff := rd fun s =>
  when (s.pour.phase == 1 && s.pour.fail == 0)
    (seq [upd [.pour { s.pour with fail := status }], formedReport []])

/-- At the master, FORM leaves for the three trees once every used port has exchanged HELLO (R418 step 4). -/
def formStart : Eff := rd fun s =>
  when (s.pour.phase == 1 && s.pourMaster && s.pour.used.all (fun p => s.pour.hello.elem p))
    (each [0, 1, 2] (fun k => each s.pour.used (fun p => send p .form [k, s.pourTag, 0, s.pour.master, s.pour.size])))

/-- HELLO on a port (R418): tag, own number, the peer and port the plan expects. -/
def sendHello (p : Nat) : Eff := rd fun s =>
  let peer := match s.pour.ports.find? (fun q => q.1 == p) with | some q => (q.2.1, q.2.2.1) | none => (0, 0)
  send p .hello [p, s.pourTag, s.module, peer.1, peer.2, s.slag.serial]

/-- HELLO on every used port once all of them are UP (R418 steps 2 and 3). -/
def helloAll : Eff := rd fun s =>
  when (s.pour.phase == 1 && s.pour.used.all (fun p => s.portState p == 4)) (each s.pour.used sendHello)

/-! Slot digests (R407). -/

/-- The slot of each beat of an entry: consecutive slots of the period, elastic ones stepped over. -/
def runSlotsOf (period : Nat) : Nat → Nat → List Nat
  | 0, _ => []
  | n + 1, t =>
    let t := if t % 16 = 15 then (t + 1) % period else t
    t :: runSlotsOf period n ((t + 1) % period)

/-- Insert an entry in ascending order of slot. -/
def insSlot (x : Nat × RunSlot) : List (Nat × RunSlot) → List (Nat × RunSlot)
  | [] => [x]
  | y :: ys => if x.1 ≤ y.1 then x :: y :: ys else y :: insSlot x ys

/-- A digest over entries of one direction: FLOW, slot and RUN of each, in ascending order of slot. -/
def slotDigest (dir : Nat) (sect : List Byte) : Nat :=
  let period := 2 ^ leAt sect 0 1
  let es := ((runEntries sect).filter (fun e => e.dir == dir)).map (fun e =>
    (if dir = 0 then e.slot else (e.slot + period - e.latency % period) % period, e))
  crc64 ((es.foldr insSlot []).flatMap (fun x => natLe 2 x.2.flow ++ natLe 2 x.1 ++ natLe 2 x.2.run ++ [0, 0]))

/-- SLOT_DIGEST for every bound port and temper of a flask's active Mould (R407). -/
def sendDigests (f : Nat) : Eff := rd fun s =>
  let m := (s.flask f).active
  each (m.sections.filter (fun x => x.1 == 5)) (fun x =>
    send x.2.1 .slotDigest [x.2.2.1, m.id % 2 ^ 32, slotDigest 0 x.2.2.2, slotDigest 1 x.2.2.2])

/-! Pour start (R420). -/

/-- A flask that a START begins (R238, R420): in READY, or halted with its banks exchanged. -/
def State.startable (s : State) (f : Nat) : Bool := s.flaskIn f 2 || (s.flaskIn f 4 && (s.flask f).reported.isSome)

/-- Every READY flask of the pour begins at an epoch: on a new grid where no flask runs, else on the grid there is
(R74). -/
def startFlasks (t : Nat) : Eff := rd fun s =>
  each s.pourFlasks (fun f => when (s.startable f && (s.flask f).startAt != some t)
    (onFlask f (fun x => { x with startAt := some t, gridStart := x.reported.isNone && s.running.isEmpty })))

/-- The master's checks of R420 once READY is complete: START for the whole pour, or the command's failure. -/
def startCheck : Eff := rd fun s =>
  match s.pour.starting, s.treeReport 2 with
  | some k, some r =>
    let ok := r.status == 0 && r.count == s.pour.size && r.bindSum == 0
    let t := max (s.tc + frameNs s.pstep 4) (s.tc + 20000)
    seq [upd [.pour { s.pour with starting := none }],
      either ok
        (seq [upd [.pour { s.pour with starting := none, readySent := false, reports := s.pour.reports.filter (fun x => x.2.phase == 1) }], send toTrees .start [t, s.pourTag], startFlasks t, mbDoneWith k (pack [(8, t)])])
        (seq [raise 0x0605 0 nobody [(2, r.failing)], mbFail k 0x0226])]
  | _, _ => nop

/-- REPORT READY rises, or the master checks (R420). -/
def readyReport : Eff := rd fun s =>
  when (s.pour.phase == 2)
    (either s.pourMaster startCheck
      (when (!s.pour.readySent)
        (match s.treeReport 2 with
         | some r => seq [upd [.pour { s.pour with readySent := true }], send toParent .report r.fields]
         | none => nop)))

/-- A flask of the pour has left READY: its module's report is to be made again. -/
def readyAgain : Eff := rd fun s => upd [.pour { s.pour with readySent := false, reports := s.pour.reports.filter (fun x => x.2.phase == 1) }]

/-! Flask control records (R238 to R240, R684). -/

/-- The fields of a flask control record. -/
def ctlFields (r : CtlRec) (kind : Nat) : List Nat := [r.seq, kind, r.mouldIdLow, r.target, r.tag]

/-- This module acknowledges a record (R238): of its own pour, and for ARM_SWITCH with a staged Mould that matches. -/
def State.ctlAllows (s : State) (r : CtlRec) : Bool :=
  r.crcOk && r.tag == s.pourTag &&
  (r.kind != 0x12 || s.pourFlasks.any (fun f => (s.flask f).staged.present && (s.flask f).staged.id % 2 ^ 32 == r.mouldIdLow))

/-- The aggregated acknowledgement rises (R81 step 4, R395). -/
def ctlAckUp : Eff := rd fun s =>
  match s.ctl.armed with
  | none => nop
  | some r =>
    when (s.ctl.acked && !s.ctl.ackSent && s.pour.children.all (fun p => s.ctl.childAcks.elem p))
      (seq [upd [.ctl { s.ctl with ackSent := true }], when (!s.pourMaster) (send toParent .ack [r.seq, r.tag, r.target])])

/-- A record is armed on this module. -/
def ctlTake (r : CtlRec) (slot : Option Nat) : Eff := rd fun s =>
  seq [upd [.ctl { CtlSt.none with armed := some r, acked := s.ctlAllows r, slot }], ctlAckUp]

/-- GO commits an armed record at T (R240, R684): a halt or switch at the first quiesce point at or after T for every flask of
the pour, a debug hold or its release at T. -/
def ctlCommit (r : CtlRec) (slot : Option Nat) : Eff := rd fun s =>
  each s.pourFlasks (fun f =>
    let sw := (s.flask f).staged.present && (s.flask f).staged.id % 2 ^ 32 == r.mouldIdLow
    let halt (k : HaltKind) : Eff := when (s.flaskIn f 3)
      (onFlask f (fun x => { x with
        halt := some { kind := k, quiesce := true, target := r.target, slot, cause := 1 },
        switchSlot := if k = .switch then slot else x.switchSlot }))
    let arm (kind units : Nat) : Eff := rd fun s =>
      upd [.dbg { s.dbg with armed := s.dbg.armed ++ [{ flask := f, kind, at_ := r.target, pour := true, units }] }]
    match r.kind with
    | 0x11 => halt .host
    | 0x12 => when sw (halt .switch)
    | 0x17 => seq [arm 0 0, armedBit f]
    | 0x18 => seq [arm (if r.mouldIdLow = 0 then 1 else 2) (r.mouldIdLow % 2 ^ 24), armedBit f]
    | _ => nop)

/-- GO of the record armed: it is committed, and stays until START only for a switch (R238 to R240). -/
def ctlGo (r : CtlRec) : Eff := rd fun s =>
  seq [ctlCommit r s.ctl.slot, upd [.ctl (if r.kind = 0x12 then { s.ctl with go := true } else CtlSt.none)]]

/-- DONE rises once every switching flask of this module has exchanged its banks and every child has reported (R238, R239);
the master then sends START for a frame boundary at least four frames ahead. -/
def doneUp : Eff := rd fun s =>
  let mine := s.pourFlasks.all (fun f => match (s.flask f).halt with | some h => h.kind != .switch | none => true)
  let some_ := s.pourFlasks.any (fun f => (s.flask f).reported.isSome)
  when (some_ && mine && !s.ctl.doneSent && s.pour.children.all (fun p => s.ctl.dones.elem p))
    (seq [upd [.ctl { s.ctl with doneSent := true }],
      match s.ctl.armed with
      | none => nop
      | some r =>
        let t := s.boundaryAfter 4
        either s.pourMaster (seq [send toTrees .start [t, s.pourTag], startFlasks t, upd [.ctl CtlSt.none]])
          (send toParent .done [r.seq, r.tag])])

end Sys2Proof.Machine
end

