-- ==== Sys2Proof/Machine/Time.lean ====
section
/-! DEFINITION. Time, alignment, hold points and synchronous change (R66 to R95): shared operations and the commands of
the chapter, but the frame boundary and a flask's epoch start, which stand in Frames.lean, and the master's choice of a
decision, which stands in Power.lean. -/
namespace Sys2Proof.Machine

/-! Alignment (R66 to R73). -/

/-- A pour flask is in RUN. -/
def State.pourRuns (s : State) : Bool := s.pourFlasks.any (fun f => s.flaskIn f 3)

/-- Entry to an alignment state. -/
def alignTo' (st : Nat) : Eff := rd fun s =>
  seq [fset F.TC_ALIGN_STAT_STATE 0 st, upd [.align { s.align with good := 0, bad := 0, entered := s.tc }]]

/-- Entry to LOST (R73): the event, the halt of the pour's flasks at the next frame boundary and the halt beacon; a
formation under way ends with 0x0223 (R418). -/
def alignLost : Eff :=
  seq [alignTo' 5, fset F.TC_ALIGN_STAT_UPSTREAM 0 0x1F, fset F.CLK_CHG_STAT_ALIGN 0 1, raise 0x0102 2 crucible [(2, 0)],
    haltPourFlasks 3 0, haltBeacon 4, pourFail 0x0223]

/-- Entry to DEGRADED (R72). -/
def alignDegraded (e : Int) : Eff :=
  seq [alignTo' 3, fset F.CLK_CHG_STAT_ALIGN 0 1, raise 0x0101 0 crucible [(8, ofInt 64 e)]]

/-- The state machine of R71 on an error estimate in picoseconds. -/
def alignExchange (e : Int) : Eff := rd fun s =>
  let a := s.align
  let ok := decide (e.natAbs ≤ 2000)
  let good := if ok then a.good + 1 else 0
  let bad := if ok then 0 else a.bad + 1
  let count : Eff := upd [.align { a with good, bad }]
  match s.fget F.TC_ALIGN_STAT_STATE 0 with
  | 1 => either (decide (good ≥ 8)) (alignTo' 2) count
  | 2 => either (decide (e.natAbs > 6000)) alignLost (either (decide (bad ≥ 4)) (alignDegraded e) count)
  | 3 => either (decide (e.natAbs > 6000)) alignLost (either (decide (good ≥ 8)) (alignTo' 2) count)
  | _ => nop

/-- The correction of R70: a step while no flask of the pour runs, otherwise nanoseconds left to slew. -/
def alignCorrect (e : Int) : Eff := rd fun s =>
  let ns := (e + 500) / 1000
  either s.pourRuns (upd [.align { s.align with slew := ns }])
    (fset F.TC_NOW_COUNT 0 (((s.tc : Int) + ns).toNat))

/-- One nanosecond passes while the TC domain has its supply, in every power state but STANDBY (R66, R67, R537); in a slewed one the TC
advances by 0 or 2, at most once per 1,024 ns (R70). -/
def tick : Eff := rd fun s =>
  let a := s.align
  let may := decide (a.slew ≠ 0) && decide (a.slewedAt + 1024 ≤ s.tc)
  let up := decide (a.slew > 0)
  when (s.fget F.PST_STAT_STATE 0 != 4)
    (seq [fset F.TC_NOW_COUNT 0 (s.tc + (if may then (if up then 2 else 0) else 1)),
      when may (upd [.align { a with slew := if up then a.slew - 1 else a.slew + 1, slewedAt := s.tc }])])

/-- The upstream port is lost (R71): HOLDOVER while ALIGNED or DEGRADED, the alternative upstream where it is accepted,
LOST where none was recorded. -/
def upstreamLost (p : Nat) (altAccepted : Bool) : Eff := rd fun s =>
  let st := s.fget F.TC_ALIGN_STAT_STATE 0
  let toAlt (q : Nat) : Eff := seq [alignTo' 1, fset F.TC_ALIGN_STAT_UPSTREAM 0 q,
    rd fun s => upd [.align { s.align with alternative := none }]]
  when (s.fget F.TC_ALIGN_STAT_UPSTREAM 0 == p)
    (match st, s.align.alternative with
     | 1, some q => either altAccepted (toAlt q) alignLost
     | 1, none => alignLost
     | 2, none => seq [alignTo' 4, alignLost]
     | 3, none => seq [alignTo' 4, alignLost]
     | 2, some q => seq [alignTo' 4, when altAccepted (toAlt q)]
     | 3, some q => seq [alignTo' 4, when altAccepted (toAlt q)]
     | 4, some q => when altAccepted (toAlt q)
     | 4, none => alignLost
     | _, _ => nop)

/-! Hold points (R75, R76). -/

/-- Hold point h is bubbled in a frame of b bubbles. -/
def bubbled (b h : Nat) : Bool := (List.range b).any (fun i => (2 * i + 1) * 64 / (2 * b) == h)

/-- A hold point begins. -/
def holdPoint (h : Nat) : Eff := rd fun s =>
  seq [fset F.TC_FRAME_HOLD 0 h, upd [.gclk { s.gclk with bubbled := bubbled (s.fget F.CLK_PSTEP_BUBBLES 0) h }], sprSync]

/-! The rail (R78, R501). -/

/-- The core rail target of a P-step in millivolts (R78). -/
def pstepMv : Nat → Nat
  | 0 => 600 | 1 => 615 | 2 => 630 | 3 => 645 | 4 => 660 | 5 => 680 | 6 => 700 | 7 => 712 | 8 => 724 | 9 => 736
  | 10 => 748 | 11 => 760 | 12 => 772 | 13 => 797 | 14 => 822 | _ => 850

/-- The band of a P-step. -/
def bandOf (p : Nat) : Nat := b2n (decide (p ≥ 6))

/-- The setpoint of a cluster for a P-step: the target, TRIM and LOOP in steps of 2.5 mV, clamped (R501). -/
def State.setpoint (s : State) (c p : Nat) : Nat :=
  let half : Int := 2 * (pstepMv p : Int) + 5 * toInt 8 (s.fget F.PWR_CLUSTER_c_TRIM c) + 5 * toInt 8 (s.fget F.PWR_CLUSTER_c_LOOP c)
  ((max 1200 (min 1700 half)) / 2).toNat

/-- Every cluster's rail moves to a P-step's target. -/
def railTo (p : Nat) : Eff := rd fun s => upd ((List.range 20).map (fun c => .fld F.PWR_CLUSTER_c_SETPOINT c (s.setpoint c p)))

/-- The lead of a Riser notice at a P-step: ceil(2 µs × core clock) + 64 cycles (R507). -/
def riserLead (p : Nat) : Nat := 2 * pstepMhz p + 64

/-- A P-step comes into force with its rail and its notice lead. -/
def pstepSet (p : Nat) : Eff :=
  seq [fset F.CLK_PSTEP_CURRENT 0 p, fset F.CLK_PSTEP_BAND 0 (bandOf p), railTo p, fset F.PWR_RISER_LEAD_LEAD 0 (riserLead p)]

/-- The short stop of R86: every cluster changes band in ascending order; a cluster whose relock fails twice has its cores
fenced. -/
def shortStop (p : Nat) (relockFail : List Nat) : Eff :=
  seq [pstepSet p,
    each ((List.range 20).filter (fun c => relockFail.elem c)) (fun c =>
      seq [fbit F.CLK_STOP_STAT_RELOCK_FAIL 0 c true, each (List.range 8) (fun k => fenceCore (physAt c k) 6 [])])]

/-! Decisions (R80 to R85). -/

/-- The module chooses decisions: the pour's timing master, or a module outside a pour (R517). -/
def State.isMaster (s : State) : Bool := s.pourTag == 0 || s.flag F.TC_ALIGN_STAT_MASTER 0

/-- The reason for which a region does not acknowledge an ARM (R82, R93); 0 when it does. `region` is the number of
regions fenced or in fault. -/
def State.nackReason (s : State) (d : Decision) (offGrid regionFault : Bool) : Nat :=
  if d.tag ≠ s.pourTag then 2
  else if offGrid then 3
  else if bandOf d.pstep ≠ bandOf s.pstep ∧ s.running ≠ [] then 4
  else if s.liveFlasks.any (fun f => (if s.pourTag = 0 then s.flaskIn f 3 else s.inPour f) && (s.flask f).active.present &&
      !bitOf (s.flask f).active.tempers d.temper) then 5
  else if d.bubbles > 48 then 6
  else if regionFault then 7
  else 0

/-- Equal content of two copies of a record, whatever their CRC said. -/
def sameDecision (a b : Decision) : Bool :=
  a.seq == b.seq && a.pstep == b.pstep && a.temper == b.temper && a.bubbles == b.bubbles && a.target == b.target && a.tag == b.tag

/-- A conflict of copies (R83). -/
def decisionConflict : Eff := rd fun s =>
  when (!s.dec.conflict)
    (seq [upd [.dec { s.dec with conflict := true }], fset F.CLK_CHG_STAT_CONFLICT 0 1,
      raise 0x0105 2 crucible [(2, s.fget F.CLK_ARM_SEQ 0)], haltPourFlasks 3 (s.fget F.CLK_ARM_TARGET_T 0), haltBeacon 3])

/-- The aggregated acknowledgement rises once this module and every child have acknowledged (R81, R395). -/
def ackUp : Eff := rd fun s =>
  match s.dec.arm with
  | none => nop
  | some d =>
    when (s.flag F.CLK_ARM_ACKED 0 && !s.dec.ackSent && s.pour.children.all (fun p => s.dec.childAcks.elem p))
      (seq [upd [.dec { s.dec with ackSent := true }], when (!s.isMaster) (send toParent .ack [d.seq, d.tag, d.target])])

/-- Preparation of a region: the rail rises for a higher P-step of the same band (R81 step 3). -/
def armRail (d : Decision) : Eff := rd fun s =>
  when (decide (d.pstep > s.pstep) && bandOf d.pstep == bandOf s.pstep)
    (seq [railTo d.pstep, upd [.dec { s.dec with railRaised := true }]])

/-- A raised rail falls back (R83). -/
def dropRail : Eff := rd fun s => when s.dec.railRaised (seq [railTo s.pstep, upd [.dec { s.dec with railRaised := false }]])

/-- A region takes the first good copy of an ARM. -/
def armTake (d : Decision) (offGrid regionFault : Bool) : Eff := rd fun s =>
  let why := s.nackReason d offGrid regionFault
  seq [upd [.dec { s.dec with arm := some d, conflict := false, childAcks := [], ackSent := false, railRaised := false }],
    fset F.CLK_ARM_TARGET_T 0 d.target, fset F.CLK_ARM_VALID 0 1, fset F.CLK_ARM_GO 0 0, fset F.CLK_ARM_WITHDRAWN 0 0,
    fset F.CLK_ARM_PSTEP 0 d.pstep, fset F.CLK_ARM_BUBBLES 0 d.bubbles, fset F.CLK_ARM_TEMPER 0 d.temper, fset F.CLK_ARM_SEQ 0 d.seq,
    fset F.CLK_ARM_NACK_REASON 0 why, fput F.CLK_ARM_ACKED 0 (why == 0),
    when (why == 0) (seq [armRail d, ackUp])]

/-- A copy of ARM (R81 to R83): it is forwarded down the trees; the first good copy is taken, an equal one discarded, a
different one of the same SEQ is a conflict. -/
def armCopy (d : Decision) (offGrid regionFault : Bool) : Eff := rd fun s =>
  either (!d.crcOk) (when (!s.flag F.CLK_ARM_VALID 0) (fset F.CLK_ARM_NACK_REASON 0 1))
    (match s.dec.arm with
     | some a =>
       if a.seq = d.seq then when (!sameDecision a d) decisionConflict
       else seq [send toTrees .arm [d.seq, d.pstep, d.temper, d.bubbles, d.target, d.tag], armTake d offGrid regionFault]
     | none => seq [send toTrees .arm [d.seq, d.pstep, d.temper, d.bubbles, d.target, d.tag], armTake d offGrid regionFault])

/-- A P-step request carried by a window ends withdrawn (R83, R85). -/
def requestFails : Eff := rd fun s =>
  match s.dec.carried with
  | some (k, _) => seq [upd [.dec { s.dec with carried := none }], when (s.mbRuns k 0x0401) (mbFail k 0x0207)]
  | none => nop

/-- WITHDRAW is held (R83). -/
def withdrawn : Eff := rd fun s =>
  when (s.flag F.CLK_ARM_VALID 0 && !s.flag F.CLK_ARM_WITHDRAWN 0)
    (seq [fset F.CLK_ARM_WITHDRAWN 0 1, fset F.CLK_ARM_GO 0 0, fadd F.CLK_CHG_STAT_WITHDRAWN 0 1, dropRail])

/-- The armed window is over. -/
def armClear : Eff := rd fun s =>
  seq [upd [.dec { s.dec with arm := none, conflict := false, childAcks := [], ackSent := false, railRaised := false }],
    fset F.CLK_ARM_VALID 0 0, fset F.CLK_ARM_ACKED 0 0, fset F.CLK_ARM_GO 0 0, fset F.CLK_ARM_WITHDRAWN 0 0]

/-- A pour module that holds no GO, WITHDRAW or ARM when it must (R83). -/
def decisionMissing (t : Nat) : Eff := rd fun s =>
  seq [fset F.CLK_CHG_STAT_MISSING 0 1, raise 0x0104 2 crucible [(2, s.fget F.CLK_ARM_SEQ 0)], haltPourFlasks 3 t, haltBeacon 2,
    dropRail, armClear]

/-! Commands. -/

/-- SYNC_TIMER: every 64 µs an UP port sends SYNC_REQ (R69, R396). -/
def execSyncTimer (port : PortId) (tc : Nat) (s : State) : Host.Outcome State Fault Refusal :=
  run (seq [tcTo tc, rd fun s =>
    let x := s.port port.val
    when (s.portState port.val == 4)
      (seq [send port.val .syncReq [x.exchange, s.tc * 16], onPort port.val (fun x => { x with exchange := (x.exchange + 1) % 2 ^ 32 })])]) s

/-- SYNC_REQ: stamped and answered (R396). Stamps are in sixteenths of a nanosecond. -/
def execSyncReq (port : PortId) (msg : SyncMsg) (rxTc txTc : Nat) (s : State) : Host.Outcome State Fault Refusal :=
  run (seq [tcTo (txTc / 16), rd fun s =>
    when (s.portState port.val == 4) (send port.val .syncRsp [msg.exchange, rxTc, txTc])]) s

/-- SYNC_RSP: offset and delay (R396), RUN_DELAY (R402), and on the upstream port the correction and the alignment state
(R69 to R72). `calib` is the fixed part of the delay, `skew` that of the offset, in picoseconds. -/
def execSyncRsp (port : PortId) (msg : SyncMsg) (rxTc : Nat) (calib skew : Int) (s : State) : Host.Outcome State Fault Refusal :=
  run (seq [tcTo (rxTc / 16), rd fun s =>
    let p := port.val
    let f : Int := (msg.t2 : Int) - msg.t1
    let b : Int := (rxTc : Int) - msg.t3
    let off := (f - b) * 125 / 4 - skew
    let d := ((f + b) * 125 / 4 - calib).toNat
    when (s.portState p == 4)
      (seq [fset F.RUN_DELAY_DELAY_PS p d, fset F.RUN_DELAY_HOP_BOUND p ((174000 + d + 999) / 1000),
        when (decide (d > 100000) && s.flag F.RUN_STAT_POUR_LINK p && s.pour.phase == 1) (pourFail 0x0224),
        rd fun s => when (s.fget F.TC_ALIGN_STAT_UPSTREAM 0 == p && [1, 2, 3].elem (s.fget F.TC_ALIGN_STAT_STATE 0))
          (seq [fset F.TC_ALIGN_STAT_ERROR 0 (ofInt 16 (max (-32768) (min 32767 off))), alignExchange off,
            rd fun s => when (s.fget F.TC_ALIGN_STAT_STATE 0 != 5) (alignCorrect off),
            formedReport []])])]) s

/-- UPSTREAM_PORT_LOST (R71). -/
def execUpstreamPortLost (port : PortId) (altAccepted : Bool) (s : State) : Host.Outcome State Fault Refusal :=
  run (upstreamLost port.val altAccepted) s

/-- ACQUIRE_TIMEOUT: 10 ms in ACQUIRING (R71). -/
def execAcquireTimeout (tc : Nat) (s : State) : Host.Outcome State Fault Refusal :=
  run (seq [tcTo tc, rd fun s =>
    when (s.fget F.TC_ALIGN_STAT_STATE 0 == 1 && decide (s.align.entered + 10000000 ≤ s.tc)) alignLost]) s

/-- HOLDOVER_ERROR_LIMIT: the bound, which grows by 0.05 ns each millisecond from the last estimate, reaches 6 ns (R72). -/
def execHoldoverErrorLimit (tc : Nat) (s : State) : Host.Outcome State Fault Refusal :=
  run (seq [tcTo tc, rd fun s =>
    let last := (toInt 16 (s.fget F.TC_ALIGN_STAT_ERROR 0)).natAbs
    when (s.fget F.TC_ALIGN_STAT_STATE 0 == 4 && decide (last + (s.tc - s.align.entered) / 20000 ≥ 6000)) alignLost]) s

/-- HOLD_POINT_START: the next hold point of the frame begins (R75). -/
def execHoldPointStart (tc : Nat) (s : State) : Host.Outcome State Fault Refusal :=
  run (seq [tcTo tc, rd fun s =>
    let h := s.fget F.TC_FRAME_HOLD 0 + 1
    when (s.gclk.running && decide (h < 64)) (holdPoint h)]) s

/-- ARM (R81, R82). -/
def execArm (rec : Decision) (offGrid regionFault : Bool) (s : State) : Host.Outcome State Fault Refusal :=
  run (armCopy rec offGrid regionFault) s

/-- ACK: a tree-0 child's aggregated acknowledgement (R81, R395). -/
def execAck (port : PortId) (seq_ : Nat) (s : State) : Host.Outcome State Fault Refusal :=
  run (rd fun s =>
    seq [
      when (match s.dec.arm with | some d => d.seq == seq_ | none => false)
        (seq [upd [.dec { s.dec with childAcks := NSet.add s.dec.childAcks port.val }], ackUp]),
      when (match s.ctl.armed with | some r => r.seq == seq_ | none => false)
        (seq [upd [.ctl { s.ctl with childAcks := NSet.add s.ctl.childAcks port.val }], ctlAckUp])]) s

/-- At the arm deadline the master sends GO for an armed flask control record that every module acknowledged, WITHDRAW
otherwise (R83, R238). -/
def ctlDeadline : Eff := rd fun s =>
  match s.ctl.armed with
  | none => nop
  | some r =>
    when (s.pourMaster && !s.ctl.go)
      (either s.ctl.ackSent
        (seq [send toTrees .flaskCtl (ctlFields r 0x13), ctlGo r, when (decide (0x17 ≤ r.kind)) (slosyAnswer 0 (natLe 8 r.target))])
        (seq [send toTrees .flaskCtl (ctlFields r 0x14), raise 0x0103 0 crucible [(2, r.seq)], when (decide (0x17 ≤ r.kind)) (slosyAnswer 4 []),
          (match s.ctl.slot with | some k => mbFail k 0x0207 | none => nop), upd [.ctl CtlSt.none]]))

/-- ARM_DEADLINE: the master sends GO when every acknowledgement has arrived, WITHDRAW otherwise (R81, R83, R238). -/
def execArmDeadline (tc : Nat) (s : State) : Host.Outcome State Fault Refusal :=
  run (seq [tcTo tc, ctlDeadline, rd fun s =>
    match s.dec.arm with
    | none => nop
    | some d =>
      let fields := [d.seq, d.pstep, d.temper, d.bubbles, d.target, d.tag]
      when (s.isMaster && !s.flag F.CLK_ARM_GO 0 && !s.flag F.CLK_ARM_WITHDRAWN 0)
        (either s.dec.ackSent
          (seq [send toTrees .go fields, fset F.CLK_ARM_GO 0 1])
          (seq [send toTrees .withdraw fields, withdrawn, raise 0x0103 0 crucible [(2, d.seq)], requestFails]))]) s

/-- GO: a region receives GO for its armed window (R81, R83). -/
def execGo (rec : Decision) (s : State) : Host.Outcome State Fault Refusal :=
  run (rd fun s =>
    match s.dec.arm with
    | none => nop
    | some d =>
      when (rec.crcOk && rec.seq == d.seq && s.flag F.CLK_ARM_VALID 0)
        (either (!sameDecision d rec) decisionConflict
          (when (!s.flag F.CLK_ARM_GO 0 && !s.flag F.CLK_ARM_WITHDRAWN 0)
            (seq [send toTrees .go [d.seq, d.pstep, d.temper, d.bubbles, d.target, d.tag],
              when (s.flag F.CLK_ARM_ACKED 0) (fset F.CLK_ARM_GO 0 1)])))) s

/-- WITHDRAW (R83). -/
def execWithdraw (rec : Decision) (s : State) : Host.Outcome State Fault Refusal :=
  run (rd fun s =>
    match s.dec.arm with
    | none => nop
    | some d =>
      when (rec.crcOk && rec.seq == d.seq && !s.flag F.CLK_ARM_WITHDRAWN 0)
        (seq [send toTrees .withdraw [d.seq, d.pstep, d.temper, d.bubbles, d.target, d.tag], withdrawn])) s

/-- GO_DEADLINE: a pour module holds neither GO nor WITHDRAW, or no ARM, 256 ns before T (R83, R238). -/
def execGoDeadline (tc : Nat) (s : State) : Host.Outcome State Fault Refusal :=
  run (seq [tcTo tc, rd fun s =>
    let ctl := s.ctl.armed.isSome && !s.ctl.go
    when (s.pourTag != 0 && (ctl || !(s.flag F.CLK_ARM_VALID 0 && (s.flag F.CLK_ARM_GO 0 || s.flag F.CLK_ARM_WITHDRAWN 0))))
      (seq [when ctl (upd [.ctl CtlSt.none]), decisionMissing (s.tc + 256)])]) s

/-- The frame that has just begun carries the epoch in force (R81 step 8): the newest mark of every running flask. -/
def remark : Eff := rd fun s =>
  each s.running (fun f => onFlask f (fun x => { x with marks := match x.marks with
    | m :: ms => (m.1, m.2.1, s.fget F.TC_FRAME_EPOCH 0) :: ms
    | [] => [] }))

/-- DECISION_COMMIT: at T the regions that hold GO apply the record and the change epoch advances (R81 steps 7 and 8); a
step across bands is a short stop (R85). `relockFail` are the clusters whose relock retry fails. -/
def execDecisionCommit (tc : Nat) (relockFail : List Nat) (s : State) : Host.Outcome State Fault Refusal :=
  run (seq [tcTo tc, rd fun s =>
    match s.dec.arm with
    | none => nop
    | some d =>
      when (decide (d.target ≤ s.tc))
        (seq [
          when (s.flag F.CLK_ARM_GO 0 && !s.dec.conflict)
            (seq [upd [.dec { s.dec with prev := (s.pstep, s.fget F.CLK_PSTEP_TEMPER 0, s.fget F.CLK_PSTEP_BUBBLES 0),
                                         carried := none, lastCommit := s.frame, lastTemper := if d.temper = s.fget F.CLK_PSTEP_TEMPER 0 then s.dec.lastTemper else s.frame }],
              either (bandOf d.pstep != bandOf s.pstep) (shortStop d.pstep relockFail) (pstepSet d.pstep),
              fset F.CLK_PSTEP_TEMPER 0 d.temper, fset F.CLK_PSTEP_BUBBLES 0 d.bubbles, fset F.CLK_PSTEP_SEQ 0 d.seq,
              fadd F.TC_FRAME_EPOCH 0 1, fadd F.CLK_CHG_STAT_COMMITTED 0 1,
              remark, holdPoint (s.fget F.TC_FRAME_HOLD 0),
              match s.dec.carried with
              | some (k, _) => when (s.mbRuns k 0x0401)
                  (seq [mbDone k d.pstep,
                    when (bandOf d.pstep != bandOf s.pstep) (onSlot k (fun m => { m with tcEnd := d.target + 150000 }))])
              | none => nop]),
          armClear])]) s

end Sys2Proof.Machine
end

