-- ==== Sys2Proof/Machine/Power.lean ====
section
/-! DEFINITION. Power delivery, capping and the energy budget (R496 to R536): shared operations and the commands of the
chapter, with the master's choice of a decision (R516) and the mailbox commands that set P-step and cap and read energy. -/
namespace Sys2Proof.Machine

/-! Sections of a Mould (R227). -/

/-- An entry of the TEMPERS section (R505): its start. -/
def temperAt (t : Nat) : Nat := 16 + 128 * t

/-- PERIOD_SC of a temper. -/
def MouldSt.period (m : MouldSt) (t : Nat) : Nat := leAt (m.sect 9 0 0) (temperAt t + 4) 4

/-- CEFF of a temper and cluster. -/
def MouldSt.ceff (m : MouldSt) (t c : Nat) : Nat := leAt (m.sect 9 0 0) (temperAt t + 16 + 2 * c) 2

/-- The flasks whose tempers count: the pour's, or outside a pour those in RUN (R517). -/
def State.budgetFlasks (s : State) : List Nat := if s.pourTag = 0 then s.running else s.pourFlasks

/-- A temper that every counted flask holds. -/
def State.temperHeld (s : State) (t : Nat) : Bool :=
  s.budgetFlasks.all (fun f => (s.flask f).active.present && bitOf (s.flask f).active.tempers t)

/-- The switched capacitance of a cluster over the counted flasks. -/
def State.ceff (s : State) (t c : Nat) : Nat := (s.budgetFlasks.map (fun f => (s.flask f).active.ceff t c)).foldl (· + ·) 0

/-! The slew buckets (R510). -/

/-- The level of a cluster's bucket in milliamperes. -/
def PowerSt.bucket (p : PowerSt) (c : Nat) : Int := assoc 150000 p.clusters c

/-- Both kinds of bucket refill to a TC: 50 mA and 500 mA each nanosecond. -/
def PowerSt.refill (p : PowerSt) (tc : Nat) : PowerSt :=
  let dt : Int := (tc - p.refillAt : Nat)
  { p with clusters := p.clusters.map (fun x => (x.1, min 150000 (x.2 + 50 * dt))), module := min 1200000 (p.module + 500 * dt),
           refillAt := max tc p.refillAt }

/-- Both buckets hold an amount; one above a bucket's capacity needs that bucket full. -/
def PowerSt.holds (p : PowerSt) (c ma : Nat) : Bool :=
  decide (min (ma : Int) 150000 ≤ p.bucket c) && decide (min (ma : Int) 1200000 ≤ p.module)

/-- Both buckets are debited; one granted above a capacity drives its bucket to zero. -/
def PowerSt.debit (p : PowerSt) (c ma : Nat) : PowerSt :=
  { p with clusters := NMap.put 150000 p.clusters c (p.bucket c - min (ma : Int) 150000), module := p.module - min (ma : Int) 1200000 }

/-- A noticed step debits at once and may take a bucket down to minus its capacity. -/
def PowerSt.debitNoticed (p : PowerSt) (c ma : Nat) : PowerSt :=
  { p with clusters := NMap.put 150000 p.clusters c (max (-150000) (p.bucket c - ma)), module := max (-1200000) (p.module - ma) }

/-- The request of a cluster that is first in its order. -/
def PowerSt.first (p : PowerSt) (c : Nat) : Option (Nat × Nat × Nat) := p.waiting.find? (fun w => w.1 == c)

/-- A request for an un-noticed step: granted when it is first and both buckets hold it, otherwise it waits. -/
def bucketAsk (c ma : Nat) : Eff := rd fun s =>
  let p := s.power.refill s.tc
  match p.waiting.find? (fun w => w.1 == c && w.2.1 == ma) with
  | none =>
    if (p.first c).isNone ∧ p.holds c ma = true then upd [.power (p.debit c ma)]
    else seq [upd [.power { p with waiting := p.waiting ++ [(c, ma, s.tc)] }], fsat F.PWR_SLEW_WAITS 0 1]
  | some w =>
    if p.first c = some w ∧ p.holds c ma = true then
      seq [upd [.power ({ p with waiting := p.waiting.erase w }.debit c ma)], fmax F.PWR_SLEW_MAX_WAIT 0 (min 0xFFFF (s.tc - w.2.2))]
    else upd [.power p]

/-! Tiles (R497, R499, R500). -/

/-- A spare tile can be connected to a cluster (R497). -/
def spareReaches (t c : Nat) : Bool :=
  let s := t - 240
  decide (t ≥ 240) && (c == s % 4 * 4 + s / 4 || c == (s % 4 + 1) * 4 + s / 4)

/-- The lowest-numbered idle spare that reaches a cluster. -/
def State.freeTile (s : State) (c : Nat) : Option Nat :=
  (List.range 256).find? (fun t => spareReaches t c && s.fget F.PWR_TILE_t_STATE t == 2)

/-- A spare starts its ramp for a failed tile; with none that reaches the cluster, that is said once (R499, R632). -/
def spareRamp (failed c reason : Nat) (slot : Option Nat) : Eff := rd fun s =>
  match s.freeTile c with
  | some t => seq [fset F.PWR_TILE_t_STATE t 4, fset F.PWR_TILE_t_SERVES t c,
      upd [.power { s.power with replacing := NMap.ins (NMap.del s.power.replacing t) t (failed, reason, slot) }]]
  | none => seq [raiseExhausted 6 failed, match slot with | some k => mbFail k 0x0304 | none => nop]

/-- A tile leaves service: its switch opens and its cluster loses it; below ten tiles the cluster's cores are fenced. -/
def tileOut (t : Nat) : Eff := rd fun s =>
  let c := s.fget F.PWR_TILE_t_SERVES t
  seq [fset F.PWR_TILE_t_STATE t 3, fset F.PWR_TILE_t_SERVES t 0xFF, fset F.PWR_TILE_t_CURRENT t 0,
    when (s.fget F.PWR_TILE_t_STATE t == 1 && decide (c < 20))
      (seq [fset F.PWR_CLUSTER_c_TILES_IN c (s.fget F.PWR_CLUSTER_c_TILES_IN c - 1),
        rd fun s => when (decide (s.fget F.PWR_CLUSTER_c_TILES_IN c < 10)) (each (List.range 8) (fun k => fenceCore (physAt c k) 6 []))])]

/-! The minimum-voltage loop (R502 to R504). -/

/-- The entry of a cluster's lowest sample of the frame goes to the log when it lies below floor + LOG_MARGIN or the frame
held a breach (R504). -/
def vminLog (c : Nat) : Eff := rd fun s =>
  match s.power.low.find? (fun e => e.1 == c) with
  | none => nop
  | some (_, tc, k, mv, flags) =>
    let floor := pstepMv s.pstep - 70
    let n := s.fget F.PWR_VMIN_STAT_HEAD 0 % 256
    let entry := pack [(8, tc), (8, s.frame + s.fget F.TC_FRAME_HOLD 0 * 2 ^ 48), (1, c), (1, k), (2, mv),
      (2, s.fget F.PWR_CLUSTER_c_SETPOINT c), (2, floor), (1, flags)] ++ natLe 7 0
    seq [
      when (decide (mv < floor + s.fget F.PWR_VMIN_CTL_LOG_MARGIN 0) || bitOf flags 0)
        (seq [upd [.power { s.power with log := NMap.ins (NMap.del s.power.log n) n entry }], fadd F.PWR_VMIN_STAT_HEAD 0 1]),
      rd fun s => upd [.power { s.power with low := NMap.del s.power.low c }]]

/-- The frame ends for every cluster's log. -/
def vminFrameEnd : Eff := each (List.range 20) vminLog

/-- LOOP moves by steps of 2.5 mV within its bounds and the clamp of R501; a rise they prevent sets AT_LIMIT. -/
def loopBy (c sensor mv : Nat) (steps : Int) : Eff := rd fun s =>
  let old := toInt 8 (s.fget F.PWR_CLUSTER_c_LOOP c)
  let new := max (-8) (min 16 (old + steps))
  let want := 2 * (pstepMv s.pstep : Int) + 5 * toInt 8 (s.fget F.PWR_CLUSTER_c_TRIM c) + 5 * new
  let limit := decide (steps > 0) && (decide (old + steps > 16) || decide (want > 1700))
  seq [fset F.PWR_CLUSTER_c_LOOP c (ofInt 8 new), fput F.PWR_CLUSTER_c_AT_LIMIT c limit,
    rd fun s => fset F.PWR_CLUSTER_c_SETPOINT c (s.setpoint c s.pstep),
    when limit (seq [fset F.PWR_VMIN_STAT_LIMIT_SEEN 0 1, raise 0x0806 0 ⟨c, 0xFF, 0xFF, 0xFF⟩ [(1, c), (1, sensor), (2, mv)]])]

/-- The flasks that own a core of a cluster. -/
def State.flasksIn (s : State) (c : Nat) : List Nat :=
  s.liveFlasks.filter (fun f => (s.flaskPhys f).any (fun p => clusterOf p == c))

/-- One microsecond's lowest sample M of a cluster (R502, R503). -/
def vminSample (c sensor mv : Nat) (edge : Bool) : Eff := rd fun s =>
  let floor := pstepMv s.pstep - 70
  let p := s.power
  let breach := decide (mv < floor)
  let calm := if mv ≥ floor + 35 then assoc 0 p.calm c + 1 else 0
  let drop := calm == 16
  let flags := b2n breach + 2 * b2n (decide ((assoc (0, 0) p.riser c).2 > 0)) + 4 * b2n edge + 8 * s.fget F.PWR_CLUSTER_c_AT_LIMIT c
  let low := match p.low.find? (fun e => e.1 == c) with
    | some (_, t, k, m, fl) => if mv < m then (s.tc, sensor, mv, flags ||| (fl &&& 1)) else (t, k, m, fl ||| (flags &&& 1))
    | none => (s.tc, sensor, mv, flags)
  let (since, least) := assoc (s.tc, 0xFF) p.margin c
  let m := min 0xFF (mv - floor)
  let margin := if since + 1000000 ≤ s.tc then (s.tc, m) else (since, min least m)
  seq [
    upd [.power { p with calm := NMap.put 0 p.calm c (if drop then 0 else calm), low := NMap.ins (NMap.del p.low c) c low,
                         margin := NMap.ins (NMap.del p.margin c) c margin }],
    fset F.PWR_CLUSTER_c_MARGIN c margin.2,
    (if breach then loopBy c sensor mv 4
     else if mv < floor + 5 then loopBy c sensor mv 4
     else if mv < floor + 20 then loopBy c sensor mv 1
     else if drop then loopBy c sensor mv (-1)
     else fset F.PWR_CLUSTER_c_AT_LIMIT c 0),
    rd fun s => when ((List.range 20).any (fun k => s.flag F.PWR_CLUSTER_c_AT_LIMIT k)) (fsat F.PWR_VMIN_STAT_LIMIT_US 0 1),
    when breach (seq [fsat F.PWR_VMIN_STAT_BREACHES 0 1, fset F.PWR_VMIN_STAT_BREACH_SEEN 0 1,
      each (s.flasksIn c) (fun f => contain f 0x0807 ⟨c, 0xFF, 0xFF, f⟩ [(1, c), (1, sensor), (2, mv)])])]

/-! Riser notices (R505 to R509). -/

/-- The pre-bias of a rise in microvolts: min(25 mV, 40 µΩ × ΔI), ΔI = ΔLEVEL × setpoint × core clock (R507). -/
def preBias (dNf mv mhz : Nat) : Nat := min 25000 (40 * dNf * mv * mhz / 1000000)

/-- A notice of a level (R507). -/
def riserNotice (c level : Nat) : Eff := rd fun s =>
  let (old, _) := assoc (0, 0) s.power.riser c
  let bias := preBias (level - old) (s.fget F.PWR_CLUSTER_c_SETPOINT c) (pstepMhz s.pstep)
  let ma := (max level old - min level old) * s.fget F.PWR_CLUSTER_c_SETPOINT c * pstepMhz s.pstep / 1000
  upd [.power ({ s.power.refill s.tc with riser := NMap.ins (NMap.del s.power.riser c) c (level, bias) }.debitNoticed c ma)]

/-! The budget (R511 to R517). -/

/-- The derate of R513 in percent. -/
def State.derate (s : State) : Nat :=
  let dj := max 50 (100 - 3 * (s.fget F.PWR_THERM_TJ_MAX 0 - 95))
  let dh := max 50 (100 - 5 * (s.fget F.PWR_THERM_THBM_MAX 0 - 93))
  min dj dh

/-- Ceiling of a quotient of integers, the divisor positive. -/
def ceilDiv (n d : Int) : Int := -((-n) / d)

/-- b′ of R512 before its clamp, from P, b, B, the ratio st / sc of capacitances, and the limit as a fraction n / d:
all terms of A_t and C′ over the common denominator (64 − b) × sc × d. `slack` is the 100 W below which A_t − B counts as
none. -/
def bubblesFor (p b bub st sc n d slack : Nat) : Int :=
  let k : Int := (64 - (b : Int)) * sc * d
  let dn : Int := 64 * ((p : Int) - bub) * st * d
  let at_ : Int := bub * k + dn
  let c : Int := (n : Int) * (64 - b) * sc
  if dn < slack * k then (if at_ ≤ c then 0 else 48)
  else ceilDiv (64 * (at_ - c)) dn

/-- b′ of a temper: the largest over the module's power and each cluster's current limit (R500, R512). -/
def State.required (s : State) (t watts bubW : Nat) (currents : List (Nat × Nat)) : Int :=
  let b := s.fget F.CLK_PSTEP_BUBBLES 0
  let cur := s.fget F.CLK_PSTEP_TEMPER 0
  let all := fun t => ((List.range 20).map (s.ceff t)).foldl (· + ·) 0
  let sc := if all cur = 0 then 1 else all cur
  let st := if all cur = 0 then 1 else all t
  let whole := bubblesFor watts b bubW st sc (s.fget F.PWR_CAP_CAP_W 0 * 98 * s.derate) 10000 100
  (List.range 20).foldl (fun m c =>
    match currents[c]? with
    | some (ma, bma) =>
      let k := s.ceff cur c
      max m (bubblesFor ma b bma (if k = 0 then 1 else s.ceff t c) (if k = 0 then 1 else k)
        (s.fget F.PWR_CLUSTER_c_TILES_IN c * 75000 * 95) 100 0)
    | none => m) whole

/-- A requirement as the registers and records carry it, clamped to 0 to 48. -/
def clamp48 (i : Int) : Nat := (max 0 (min 48 i)).toNat

/-- The requirement registers of the four tempers. -/
def reqField : Nat → Fld
  | 0 => F.PWR_BUDGET_REQ_0 | 1 => F.PWR_BUDGET_REQ_1 | 2 => F.PWR_BUDGET_REQ_2 | _ => F.PWR_BUDGET_REQ_3

/-- The bytes of a telemetry record (R514). -/
def Telem.bytes (r : Telem) : List Byte :=
  let b := natLe 2 r.seq ++ natLe 1 r.flags ++ natLe 1 0 ++ natLe 4 r.modules ++ r.req.flatMap (natLe 1) ++ natLe 1 r.tj ++ natLe 1 r.thbm ++
    natLe 2 r.worst ++ natLe 8 r.power ++ natLe 36 0
  b ++ natLe 4 (crc32 b)

/-- A record read back; none when its CRC fails. -/
def Telem.parse (bs : List Byte) : Option Telem :=
  if crc32 (bs.take 60) = leAt bs 60 4 then
    some { seq := leAt bs 0 2, flags := leAt bs 2 1, modules := leAt bs 4 4, req := (List.range 4).map (fun t => leAt bs (8 + t) 1),
           tj := leAt bs 12 1, thbm := leAt bs 13 1, worst := leAt bs 14 2, power := leAt bs 16 8 }
  else none

/-- The module's own record of the window last ended. -/
def State.ownTelem (s : State) : Telem :=
  let req := (List.range 4).map (fun t => let v := s.fget (reqField t) 0; if v = 63 then 0xFF else v)
  { seq := s.power.window % 65536, flags := 2 * s.fget F.PWR_BUDGET_UNMET 0, modules := 1, req,
    tj := s.fget F.PWR_THERM_TJ_MAX 0, thbm := s.fget F.PWR_THERM_THBM_MAX 0, worst := s.module, power := s.fget F.PWR_INPUT_PIN 0 }

/-- The record in a port's registers. -/
def State.telemBytes (s : State) (p : Nat) : List Byte :=
  (List.range 8).flatMap (fun w => natLe 8 (s.fget F.PWR_TELEM_IN_p_RECORD (p * 8 + w)))

/-- The record used for a child: its own of the window, or its last good one with every requirement raised (R515). -/
def State.childTelem (s : State) (p : Nat) : Telem × Bool :=
  match Telem.parse (s.telemBytes p) with
  | some r => if r.seq = s.power.window % 65536 then (r, false) else (raised r, true)
  | none => match (Telem.parse (assoc [] s.power.childLast p)) with
    | some r => (raised r, true)
    | none => (raised { seq := 0, flags := 0, modules := 0, req := [0, 0, 0, 0], tj := 0, thbm := 0, worst := 0, power := 0 }, true)
where
  /-- Every byte below 0xFF raised by 8 up to 48; 48 from the fourth window in a row. -/
  raised (r : Telem) : Telem :=
    { r with flags := r.flags ||| 1,
             req := r.req.map (fun q => if q = 0xFF then q else if assoc 0 s.power.misses p + 1 ≥ 4 then 48 else min 48 (q + 8)) }

/-- Two records aggregated (R514); `cur` is the temper in force. -/
def Telem.join (cur : Nat) (a b : Telem) : Telem :=
  { seq := a.seq, flags := a.flags ||| b.flags, modules := a.modules + b.modules,
    req := (List.range 4).map (fun t => max (a.req.getD t 0) (b.req.getD t 0)), tj := max a.tj b.tj, thbm := max a.thbm b.thbm,
    worst := if b.req.getD cur 0 > a.req.getD cur 0 then b.worst else a.worst, power := a.power + b.power }

/-- The temper and bubbles the master chooses from a record (R516): the best rate, lower number on a tie, changed only for
a gain of 2 % and 4 windows after the last change; bubbles fall by at most 4. -/
def State.choose (s : State) (r : Telem) : Nat × Nat :=
  let cur := s.fget F.CLK_PSTEP_TEMPER 0
  let period := fun t => match s.budgetFlasks with | f :: _ => max 1 ((s.flask f).active.period t) | [] => 1
  let ok := fun t => r.req.getD t 0xFF != 0xFF
  let better := fun a b => decide ((64 - r.req.getD a 0xFF) * period b > (64 - r.req.getD b 0xFF) * period a)
  let best := ((List.range 4).filter ok).foldl (fun m t => match m with
    | none => some t
    | some x => if better t x then some t else some x) (none : Option Nat)
  let t := match best with
    | none => cur
    | some x =>
      if x = cur then cur
      else if ok cur = false then x
      else if s.dec.lastTemper + 32 ≤ s.frame ∧ (64 - r.req.getD x 0) * period cur * 100 ≥ (64 - r.req.getD cur 0) * period x * 102 then x
      else cur
  (t, max (min 48 (r.req.getD t 0)) (s.fget F.CLK_PSTEP_BUBBLES 0 - 4))

/-! Commands. -/

/-- THERMTRIP_N is driven low (R697). -/
def thermPin : Eff := rd fun s => upd [.svc { s.svc with thermTrip := true }]

/-- Compute rails off after an input fault (R496). -/
def inputFault : Eff := rd fun s =>
  when (!s.power.fault)
    (seq [upd [.power { s.power with fault := true }], thermPin, fatal 0x0802 nobody [(8, s.fget F.PWR_INPUT_VIN 0)],
      each (List.range 20) (fun c => fset F.PWR_CLUSTER_c_SETPOINT c 0),
      each (List.range 240) (fun t => when (s.fget F.PWR_TILE_t_STATE t == 1) (fset F.PWR_TILE_t_STATE t 0))])

/-- INPUT_SAMPLE: the input monitor's reading (R496, R524). Beyond the absolute maximum ratings the spec gives no behaviour
(R705). -/
def execInputSample (millivolts : Int) (tenthAmps watts tc : Nat) (s : State) : Host.Outcome State Fault Refusal :=
  if millivolts < -1000 ∨ 65000 < millivolts then .fault .beyondRatings
  else run (seq [tcTo tc, rd fun s =>
    let mv := millivolts.toNat
    let low := decide (mv < 40000)
    let since := s.power.lowSince.getD s.tc
    seq [fset F.PWR_INPUT_VIN 0 (mv / 10), fset F.PWR_INPUT_IIN 0 tenthAmps, fset F.PWR_INPUT_PIN 0 watts,
      upd [.power { s.power with lowSince := if low then some since else none }],
      (if mv < 36000 ∨ 62000 < mv ∨ (low = true ∧ since + 1000000 < s.tc) then inputFault
       else when low (raise 0x0801 0 nobody [(8, mv / 10)]))]]) s

/-- PWR_AUX_FAULT (R498). -/
def execPwrAuxFault (s : State) : Host.Outcome State Fault Refusal := run (fatal 0x0803 nobody [(8, 0)]) s

/-- TILE_FAULT: a tile fails and a spare starts its ramp (R499 steps 1 and 2). -/
def execTileFault (tile : Fin 256) (cause : TileCause) (s : State) : Host.Outcome State Fault Refusal :=
  run (rd fun s =>
    let t := tile.val
    let c := s.fget F.PWR_TILE_t_SERVES t
    let st := s.fget F.PWR_TILE_t_STATE t
    let n := match cause with | .overcurrent => 0 | .overtemperature => 1 | .output => 2 | .wear => 3
    when (st != 3 && st != 0)
      (seq [(match cause with
          | .overcurrent => fset F.PWR_TILE_t_OC t 1
          | .overtemperature => fset F.PWR_TILE_t_OT t 1
          | .wear => fset F.PWR_TILE_t_WEAR t 1
          | .output => nop),
        tileOut t, raise 0x0804 0 nobody [(1, t), (1, n)],
        (if st = 1 ∧ c < 20 then spareRamp t c 6 none else nop),
        when (st == 2) (slagRecord 6 3 6 t 0xFFFF)])) s

/-- TILE_SPARED: a ramping spare reaches its setpoint and serves, or is recorded as failed and the next is tried (R499
steps 3 and 4). -/
def execTileSpared (tile : Fin 256) (ok : Bool) (s : State) : Host.Outcome State Fault Refusal :=
  run (rd fun s =>
    let t := tile.val
    let c := s.fget F.PWR_TILE_t_SERVES t
    match s.power.replacing.find? (fun e => e.1 == t) with
    | none => nop
    | some (_, failed, reason, slot) =>
      when (s.fget F.PWR_TILE_t_STATE t == 4)
        (either ok
          (seq [fset F.PWR_TILE_t_STATE t 1, fadd F.PWR_CLUSTER_c_TILES_IN c 1, slagRecord 6 2 reason failed t,
            upd [.power { s.power with replacing := NMap.del s.power.replacing t }],
            raise 0x0805 0 nobody [(8, t)],
            each ((s.flasksIn c).filter s.inPour) (fun f => fenceBeacon 6 0xFF c 0x0805 f reason),
            rd fun s => match slot with | some k => mbDone k s.slag.generation | none => nop])
          (seq [fset F.PWR_TILE_t_STATE t 3, fset F.PWR_TILE_t_SERVES t 0xFF, slagRecord 6 3 reason t 0xFFFF,
            upd [.power { s.power with replacing := NMap.del s.power.replacing t }],
            spareRamp failed c reason slot]))) s

/-- VMIN_SAMPLE (R502 to R504). -/
def execVminSample (cluster : ClusterId) (sensor : Fin 32) (millivolts : Nat) (bubbleEdge : Bool) (tc : Nat) (s : State) :
    Host.Outcome State Fault Refusal :=
  run (seq [tcTo tc, vminSample cluster.val sensor.val (millivolts % 65536) bubbleEdge]) s

/-- RISER_NOTICE (R507 to R509). -/
def execRiserNotice (cluster : ClusterId) (level : Fin 1024) (s : State) : Host.Outcome State Fault Refusal :=
  run (riserNotice cluster.val level.val) s

/-- BUCKET_GRANT: an un-noticed step asks the buckets, or a waiting one is granted (R510). -/
def execBucketGrant (cluster : ClusterId) (amps tc : Nat) (s : State) : Host.Outcome State Fault Refusal :=
  run (seq [tcTo tc, bucketAsk cluster.val (amps * 1000)]) s

/-- ARM_SEND: the master chooses the next window's values and sends ARM (R516, R81 step 1). -/
def execArmSend (tc : Nat) (s : State) : Host.Outcome State Fault Refusal :=
  run (seq [tcTo tc, rd fun s =>
    let (t, b) := match s.power.record with
      | some r => s.choose r
      | none => (s.fget F.CLK_PSTEP_TEMPER 0, s.fget F.CLK_PSTEP_BUBBLES 0)
    let p := match s.dec.request with | some (_, p) => p | none => s.pstep
    let d : Decision := { seq := s.dec.nextSeq, pstep := p, temper := t, bubbles := b,
                          target := s.fget F.TC_FRAME_TC_TC 0 + frameNs s.pstep 8, tag := s.pourTag, crcOk := true }
    when (s.isMaster && s.gclk.running && s.frame % 8 == 0 && !s.flag F.CLK_ARM_VALID 0)
      (seq [upd [.dec { s.dec with nextSeq := (s.dec.nextSeq + 1) % 65536, sent := some d, carried := s.dec.request, request := none }],
        send toTrees .arm [d.seq, d.pstep, d.temper, d.bubbles, d.target, d.tag], armTake d false false])]) s

/-- The window that ends contains a held hold point. -/
def State.heldWindow (s : State) : Bool :=
  s.fget F.DBG_HOLD_HELD 0 != 0 || (s.dbg.lastHeld != 0 && decide (s.tc < s.dbg.lastHeld + frameNs s.pstep 8))

/-- DECISION_WINDOW_END: the required bubbles of each temper (R512, R513), from the window's average input power, the power
in its bubbled hold points when it had any, and each cluster's average and bubbled currents in milliamperes. A window that contains a
held hold point is left out, and the requirements stay (R683). -/
def execDecisionWindowEnd (watts bubbleWatts : Nat) (currents : List (Nat × Nat)) (tc : Nat) (s : State) :
    Host.Outcome State Fault Refusal :=
  run (seq [tcTo tc,
    rd fun s => when (decide (s.fget F.CLK_PSTEP_BUBBLES 0 ≥ 1) && !s.heldWindow) (fset F.PWR_CAP_BUBBLE_W 0 bubbleWatts),
    rd fun s => if s.heldWindow then upd [.power { s.power with window := if s.frame % 8 = 0 then s.frame / 8 - 1 else s.frame / 8 }] else
      let bub := s.fget F.PWR_CAP_BUBBLE_W 0
      let need := fun t => s.required t watts bub currents
      let cur := s.fget F.CLK_PSTEP_TEMPER 0
      seq [upd [.power { s.power with window := if s.frame % 8 = 0 then s.frame / 8 - 1 else s.frame / 8 }],
        fset F.PWR_BUDGET_DERATE 0 (s.derate * 256 / 100),
        each (List.range 4) (fun t => fset (reqField t) 0 (if s.temperHeld t then clamp48 (need t) else 63)),
        when (s.temperHeld cur && decide (need cur > 48))
          (seq [fset F.PWR_BUDGET_UNMET 0 1,
            raise 0x0808 0 nobody [(1, 48), (4, s.fget F.PWR_CAP_CAP_W 0 * 98 * s.derate / 10000)]])]]) s

/-- TELEMETRY_SEND: the aggregated record rises, or is the pour's at the master (R514, R515); a cap set before it is in
force (R511). -/
def execTelemetrySend (tc : Nat) (s : State) : Host.Outcome State Fault Refusal :=
  run (seq [tcTo tc, rd fun s =>
    let cs := s.pour.children.map (fun p => (p, s.childTelem p))
    let r := cs.foldl (fun a c => a.join (s.fget F.CLK_PSTEP_TEMPER 0) c.2.1) s.ownTelem
    let stale := cs.filter (fun c => c.2.2)
    let fourth := stale.filter (fun c => assoc 0 s.power.misses c.1 == 3)
    seq [
      upd [.power { s.power with
        record := some r,
        misses := cs.map (fun c => (c.1, if c.2.2 then assoc 0 s.power.misses c.1 + 1 else 0)),
        childLast := cs.map (fun c => (c.1, if c.2.2 then assoc [] s.power.childLast c.1 else s.telemBytes c.1)) }],
      when (!stale.isEmpty) (fset F.PWR_BUDGET_STALE 0 1),
      each fourth (fun c => raise 0x0809 0 nobody [(8, c.1)]),
      when (!s.isMaster) (send toParent .telemetry (r.bytes.map BitVec.toNat)),
      each (s.slotsRunning (fun m => m.cmd == 0x0402)) (fun k => mbDone k 0)]]) s

/-- TELEMETRY_RECEIVE: a child's record lands in its port's registers (R535); one of a window already sent is late and is
discarded (R515). -/
def execTelemetryReceive (port : PortId) (bytes : List Byte) (s : State) : Host.Outcome State Fault Refusal :=
  run (rd fun s =>
    let late := match Telem.parse bytes, s.power.record with
      | some r, some o => decide ((o.seq + 65536 - r.seq) % 65536 < 32768)
      | _, _ => false
    when (s.pour.children.elem port.val && !late)
      (upd ((List.range 8).map (fun w => .fld F.PWR_TELEM_IN_p_RECORD (port.val * 8 + w) (leAt bytes (8 * w) 8))))) s

/-- The highest reading of a list of (source, °C), the lowest source on a tie. -/
def hottest (l : List (Nat × Nat)) : Nat × Nat := l.foldl (fun m x => if x.2 > m.2 then x else m) (l.headD (0, 0))

/-- THERMAL_SAMPLE: the junction sensors are read (R518, R519); a reading is (physical core, or 160 + cluster, and °C). -/
def execThermalSample (readings : List (Nat × Nat)) (s : State) : Host.Outcome State Fault Refusal :=
  run (rd fun s =>
    let rs := readings.filter (fun x => decide (x.1 < 180) && decide (x.2 < 256))
    let (src, t) := hottest rs
    let hbm := (List.range 20).foldl (fun m c => max m (max (s.fget F.CCH_HBM_TEMP_A c) (s.fget F.CCH_HBM_TEMP_B c))) 0
    seq [fset F.PWR_THERM_TJ_MAX 0 t, fset F.PWR_THERM_TJ_SOURCE 0 src, fset F.PWR_THERM_THBM_MAX 0 hbm,
      each (List.range 20) (fun c =>
        let own := (rs.filter (fun x => x.1 == 160 + c))
        let cores := rs.filter (fun x => decide (x.1 < 160) && clusterOf x.1 == c)
        let (p, m) := hottest cores
        let top := max m (own.headD (0, 0)).2
        seq [each own (fun x => seq [fset F.CLU_THERM_TEMP c x.2, fmax F.CLU_THERM_PEAK c x.2]),
          when (!cores.isEmpty) (seq [fset F.CLU_THERM_CORE_MAX c m, fset F.CLU_THERM_CORE_MAX_K c (localOf p)]),
          when (!(own.isEmpty && cores.isEmpty)) (fset F.PWR_CLUSTER_c_TEMP c top),
          when (decide (top ≥ 105)) (fset F.CLU_THERM_HIGH c 1)]),
      when (decide (t ≥ 105)) (seq [fset F.PWR_THERM_HIGH 0 1, raise 0x080A 0 nobody [(8, src)]]),
      when (decide (t ≥ 115) && !s.flag F.PWR_THERM_TRIPPED 0)
        (seq [fset F.PWR_THERM_TRIPPED 0 1, thermPin, fatal 0x080B nobody [(8, src)]])]) s

/-- An energy divided by weights: the share of one. -/
def share (e w total : Nat) : Nat := if total = 0 then 0 else e * w / total

/-- What an account gains from a sample (R520): core-rail energy by activity, shared pools by weight. -/
def State.energyOf (s : State) (x : EnergySample) (f : Nat) : Nat :=
  let rail := x.activity.foldl (fun a e =>
    let c := clusterOf e.1
    let tot := x.activity.foldl (fun t y => if clusterOf y.1 = c then t + y.2 else t) 0
    if s.flaskOf e.1 = some f then a + share (x.rails.getD c 0) e.2 tot else a) 0
  x.pools.foldl (fun a p =>
    let tot := p.2.foldl (fun t y => t + y.2) 0
    p.2.foldl (fun a y => if y.1 = f then a + share p.1 y.2 tot else a) a) rail

/-- ENERGY_ACCOUNT: the measured energy joins the 17 accounts, whose gains sum to the input (R520); at each multiple of
10 ms the accounts are held for tenants (R651). -/
def execEnergyAccount (sample : EnergySample) (tc : Nat) (s : State) : Host.Outcome State Fault Refusal :=
  run (seq [
    rd fun s => when (decide (s.power.snapTc / 10000000 < tc / 10000000) && decide (tc ≥ s.tc))
      (upd [.power { s.power with snapTc := tc / 10000000 * 10000000, snap := (List.range 17).map (fun n => s.fget F.PWR_ENERGY_n_UJ n) }]),
    tcTo tc,
    rd fun s =>
      let gains := (List.range 16).map (s.energyOf sample)
      let used := gains.foldl (· + ·) 0
      seq [each (List.range 16) (fun f => fadd F.PWR_ENERGY_n_UJ f (gains.getD f 0)),
        fadd F.PWR_ENERGY_n_UJ 16 (sample.input - used)]]) s

/-! Mailbox commands. -/

/-- MB_PSTEP_SET (R85, R86): within the band the request waits for a window; across bands outside a pour the short stop is
performed at once. `relockFail` are the clusters whose relock retry fails. -/
def execMbPstepSet (slot : Fin 17) (relockFail : List Nat) (s : State) : Host.Outcome State Fault Refusal :=
  run (mbCommand slot.val 0x0401 (fun args => rd fun s =>
    let k := slot.val
    let p := leAt args 0 1
    let cross := bandOf p != bandOf s.pstep
    let asked := match s.dec.request, s.dec.carried with
      | some (j, _), _ => j == k
      | _, some (j, _) => j == k
      | _, _ => false
    if asked then nop
    else if !s.isMaster then mbFail k 0x0209
    else if s.dec.request.isSome ∨ s.dec.carried.isSome then mbFail k 0x0208
    else if cross ∧ (if s.pourTag = 0 then s.running ≠ [] else s.pourRuns = true) then mbFail k 0x020A
    else if cross ∧ s.pourTag = 0 then seq [shortStop p relockFail, mbDone k p]
    else upd [.dec { s.dec with request := some (k, p) }])) s

/-- MB_CAP_SET (R511): the cap changes at once and the command ends with the next telemetry record. -/
def execMbCapSet (slot : Fin 17) (s : State) : Host.Outcome State Fault Refusal :=
  run (mbCommand slot.val 0x0402 (fun args => fset F.PWR_CAP_CAP_W 0 (leAt args 0 4))) s

/-- MB_ENERGY_READ (R520), coarsened for a TENANT slot (R651). -/
def execMbEnergyRead (slot : Fin 17) (s : State) : Host.Outcome State Fault Refusal :=
  run (mbCommand slot.val 0x0404 (fun args => rd fun s =>
    let n := leAt args 0 1
    let tenant := decide (slot.val < 16) && bitOf (s.fget F.SAF_SLOT_ROLE_TENANT 0) slot.val
    mbDoneWith slot.val (if tenant then pack [(8, s.power.snap.getD n 0 / 100000 * 100000), (8, s.power.snapTc)]
      else pack [(8, s.fget F.PWR_ENERGY_n_UJ n), (8, s.tc)]))) s

end Sys2Proof.Machine
end

