-- ==== Sys2Proof/Machine/Domains.lean ====
section
/-! DEFINITION. Core power domains (R551 to R554, R569, R571). States: 0 OFF_SAFE, 1 QUEUED, 2 RAMPING, 3 ON, 4 SHUTTING,
5 PENDING_ON, 6 RETAINED. -/
namespace Sys2Proof.Machine

/-- A domain's state (R571). -/
def State.domain (s : State) (p : Nat) : Nat := bitsOf (s.fget F.PST_CORE_PWR_r_STATE (p / 16)) (3 * (p % 16)) 3

/-- The cores whose domains are in a state. -/
def State.domainsIn (s : State) (st : Nat) : List Nat := (List.range 160).filter (fun p => s.domain p == st)

/-- The counts of PST_RAMP follow the domains (R569). -/
def rampCount : Eff := rd fun s =>
  seq [fset F.PST_RAMP_RAMPING 0 (s.domainsIn 2).length,
    fset F.PST_RAMP_QUEUED 0 ((s.domainsIn 1).length + (s.domainsIn 5).length)]

/-- A row of domain states with one changed. -/
def rowPut (row col v : Nat) : Nat := row - bitsOf row (3 * col) 3 * 8 ^ col + v % 8 * 8 ^ col

/-- A domain enters a state. -/
def domainSet (p v : Nat) : Eff := rd fun s =>
  seq [fset F.PST_CORE_PWR_r_STATE (p / 16) (rowPut (s.fget F.PST_CORE_PWR_r_STATE (p / 16)) (p % 16) v), rampCount]

/-- Where a domain rests when it is off: RETAINED while its arrays are kept, OFF_SAFE otherwise. -/
def State.restOf (s : State) (p : Nat) : Nat := if NSet.mem s.pst.retained p then 6 else 0

/-- An on-request (R551, R554): a repeated one changes nothing. -/
def domainOn (p : Nat) : Eff := rd fun s =>
  match s.domain p with
  | 0 | 6 => seq [upd [.pst { s.pst with queue := s.pst.queue ++ [p] }], domainSet p 1]
  | 4 => seq [domainSet p 5, fsat F.PST_RAMP_PENDING_ONS 0 1]
  | 2 => upd [.pst { s.pst with offHeld := NSet.del s.pst.offHeld p }]
  | _ => nop

/-- An off-request (R551). -/
def domainOff (p : Nat) : Eff := rd fun s =>
  match s.domain p with
  | 1 => seq [upd [.pst { s.pst with queue := s.pst.queue.filter (fun q => q != p) }], domainSet p (s.restOf p)]
  | 2 => upd [.pst { s.pst with offHeld := NSet.add s.pst.offHeld p }]
  | 3 => domainSet p 4
  | _ => nop

/-- The earliest queued request that both limits allow (R553). -/
def State.nextGrant (s : State) : Option Nat :=
  let r := s.domainsIn 2
  if r.length ≥ 16 then none
  else s.pst.queue.find? (fun p => decide ((r.filter (fun q => clusterOf q == clusterOf p)).length < 4))

/-- An off-request takes a domain out of ramping or on with its arrays abandoned, for a ready timeout (R546, R551). -/
def domainLost (p : Nat) : Eff := rd fun s =>
  seq [upd [.pst { s.pst with queue := s.pst.queue.filter (fun q => q != p), offHeld := NSet.del s.pst.offHeld p,
                              retained := NSet.del s.pst.retained p }], domainSet p 0]

/-- CORE_DOMAIN_ON_REQUEST (R551). -/
def execCoreDomainOnRequest (core : CoreId) (s : State) : Host.Outcome State Fault Refusal := run (domainOn core.val) s

/-- CORE_DOMAIN_OFF_REQUEST (R551). -/
def execCoreDomainOffRequest (core : CoreId) (s : State) : Host.Outcome State Fault Refusal := run (domainOff core.val) s

/-- CORE_DOMAIN_GRANT (R553). -/
def execCoreDomainGrant (s : State) : Host.Outcome State Fault Refusal :=
  run (rd fun s =>
    match s.nextGrant with
    | some p => seq [upd [.pst { s.pst with queue := s.pst.queue.filter (fun q => q != p) }], domainSet p 2]
    | none => nop) s

/-- CORE_DOMAIN_RAMP_DONE (R552): its 16 header groups have taken 2 A each from the slew buckets; an off-request held meanwhile starts
the shutdown at once. -/
def execCoreDomainRampDone (core : CoreId) (tc : Nat) (s : State) : Host.Outcome State Fault Refusal :=
  run (seq [tcTo tc, rd fun s =>
    let p := core.val
    let c := clusterOf p
    let pw := s.power.refill s.tc
    when (s.domain p == 2 && (pw.first c).isNone && pw.holds c 32000)
      (seq [upd [.power (pw.debit c 32000)], domainSet p 3,
        rd fun s => either (NSet.mem s.pst.offHeld p)
          (seq [upd [.pst { s.pst with offHeld := NSet.del s.pst.offHeld p }], domainSet p 4])
          (upd [.pst { s.pst with retained := NSet.del s.pst.retained p }])])]) s

/-- CORE_DOMAIN_SHUTDOWN_DONE (R551, R554): to RETAINED while the module enters NAP, else to OFF_SAFE; a pending on-request is
queued. -/
def execCoreDomainShutdownDone (core : CoreId) (s : State) : Host.Outcome State Fault Refusal :=
  run (rd fun s =>
    let p := core.val
    let keep := s.fget F.PST_STAT_PHASE 0 == 1 && s.fget F.PST_STAT_TARGET 0 == 2
    let st := s.domain p
    when (st == 4 || st == 5)
      (seq [upd [.pst { s.pst with retained := if keep then NSet.add s.pst.retained p else NSet.del s.pst.retained p,
                                   queue := if st = 5 then s.pst.queue ++ [p] else s.pst.queue }],
        domainSet p (if st = 5 then 1 else if keep then 6 else 0)])) s

end Sys2Proof.Machine
end

