-- ==== Sys2Proof/Machine/Plan.lean ====
section
/-! DEFINITION. Ladle descriptors (R311, R312) and the read and write plans they determine (R314 to R326): pure functions of
the 256 bytes, written from the iteration order alone. Addresses are bit positions: eight times a fabric address. -/
namespace Sys2Proof.Machine

/-- A dimension record (R312). -/
structure LDim where
  count : Nat
  srcStride : Int
  dstStride : Int
  srcStart : Int
  srcLimit : Nat
  dstStart : Int
  dstLimit : Nat
  deriving DecidableEq, Repr

/-- A Ladle descriptor (R311). -/
structure LDesc where
  op : Nat
  xform : Nat
  fmt : Nat
  dims : Nat
  flags : Nat
  pace : Nat
  nnz : Nat
  counter : Nat
  depth : Nat
  tag : Nat
  src : Nat
  dst : Nat
  metaFa : Nat
  aux : Nat
  resume : Nat
  skip : Nat
  ds : List LDim
  deriving DecidableEq, Repr

/-- A little-endian number in a byte string. -/
def byteNum (b : List Byte) (off n : Nat) : Nat := leNat ((b.drop off).take n)

/-- The record at an offset (R312). -/
def LDim.parse (b : List Byte) (o : Nat) : LDim :=
  { count := bitsOf (byteNum b o 4) 0 17, srcStride := toInt 32 (byteNum b (o + 4) 4), dstStride := toInt 32 (byteNum b (o + 8) 4),
    srcStart := toInt 32 (byteNum b (o + 12) 4), srcLimit := bitsOf (byteNum b (o + 16) 4) 0 31,
    dstStart := toInt 32 (byteNum b (o + 20) 4), dstLimit := bitsOf (byteNum b (o + 24) 4) 0 31 }

/-- The descriptor that 256 bytes spell (R311). -/
def LDesc.parse (b : List Byte) : LDesc :=
  { op := byteNum b 0 1, xform := byteNum b 1 1, fmt := byteNum b 2 1, dims := byteNum b 3 1, flags := byteNum b 4 2,
    pace := byteNum b 6 1, nnz := byteNum b 7 1, counter := bitsOf (byteNum b 8 2) 0 12, depth := byteNum b 0xA 1,
    tag := bitsOf (byteNum b 0xC 2) 0 12, src := byteNum b 0x10 8, dst := byteNum b 0x18 8, metaFa := byteNum b 0x20 8,
    aux := byteNum b 0x28 8, resume := bitsOf (byteNum b 0x30 4) 0 24, skip := bitsOf (byteNum b 0x34 4) 0 31,
    ds := (List.range (min (byteNum b 3 1) 6)).map (fun d => LDim.parse b (0x40 + 32 * d)) }

/-- FLAGS.SCHED. -/
def LDesc.sched (d : LDesc) : Bool := bitOf d.flags 0
/-- FLAGS.COLLIDE_FAULT. -/
def LDesc.collideFault (d : LDesc) : Bool := bitOf d.flags 1
/-- FLAGS.STREAM. -/
def LDesc.stream (d : LDesc) : Bool := bitOf d.flags 2
/-- FLAGS.CNT_EN. -/
def LDesc.cntEn (d : LDesc) : Bool := bitOf d.flags 3
/-- FLAGS.CNT_SEL. -/
def LDesc.cntSel (d : LDesc) : Bool := bitOf d.flags 4
/-- The tile width w that FLAGS.TW gives. -/
def LDesc.tw (d : LDesc) : Nat := if bitOf d.flags 5 then 16 else 32
/-- The element size s in bits. -/
def LDesc.size (d : LDesc) : Nat := fmtBits d.fmt
/-- The transform is one of TILE and TILE_T. -/
def LDesc.tiles (d : LDesc) : Bool := d.xform == 1 || d.xform == 2
/-- The transform compresses. -/
def LDesc.compresses (d : LDesc) : Bool := d.xform == 3 || d.xform == 4
/-- The transform expands. -/
def LDesc.expands (d : LDesc) : Bool := d.xform == 5 || d.xform == 6
/-- The form is SBM, not S24. -/
def LDesc.sbm (d : LDesc) : Bool := d.xform == 4 || d.xform == 6
/-- Elements in a group or block (R168, R169). -/
def LDesc.group (d : LDesc) : Nat := if d.sbm then 32 else 4
/-- Stored values per group or block. -/
def LDesc.slots (d : LDesc) : Nat := if d.sbm then d.nnz else 2
/-- Metadata bits per group or block. -/
def LDesc.metaBits (d : LDesc) : Nat := if d.sbm then 32 else 4
/-- Columns N of COMPRESS and EXPAND. -/
def LDesc.cols (d : LDesc) : Nat := bitsOf d.aux 0 6
/-- The tile stride TS. -/
def LDesc.ts (d : LDesc) : Int := toInt 32 (bitsOf d.aux 0 32)
/-- The metadata stride MS. -/
def LDesc.ms (d : LDesc) : Int := toInt 32 (bitsOf d.aux 32 32)
/-- A record of a dimension, one iteration without extent where the descriptor has none. -/
def LDesc.dim (d : LDesc) (n : Nat) : LDim := d.ds.getD n ⟨1, 0, 0, 0, 1, 0, 1⟩

/-! Iteration points (R314 to R316). -/

/-- The indices of a point: its number written in the mixed base of the counts, dimension 0 first. -/
def digits : List LDim → Nat → List Nat
  | [], _ => []
  | x :: xs, n => n % x.count :: digits xs (n / x.count)

/-- The number of points. -/
def LDesc.points (d : LDesc) : Nat := d.ds.foldl (fun n x => n * x.count) 1

/-- An index clamped to a range 0 to limit − 1 (R315). -/
def clampIx (limit : Nat) (i : Int) : Nat := if i < 0 then 0 else min i.toNat (limit - 1)

/-- Source indices of a point, clamped, and whether any was (R315). -/
def srcIx : List LDim → List Nat → List Nat × Bool
  | x :: xs, i :: is =>
    let v := x.srcStart + i
    let r := srcIx xs is
    let c := clampIx x.srcLimit v
    (c :: r.1, r.2 || decide (v ≠ c))
  | _, _ => ([], false)

/-- Destination indices of a point, none when it is dropped (R316). -/
def dstIx : List LDim → List Nat → Option (List Nat)
  | x :: xs, i :: is =>
    let v := x.dstStart + i
    if v < 0 ∨ v ≥ x.dstLimit then none else (dstIx xs is).map (fun r => v.toNat :: r)
  | _, _ => some []

/-- A fabric address moved by a signed number of bytes, as a bit position. -/
def bitPos (fa : Nat) (delta : Int) : Nat := (((fa : Int) + delta) % 2 ^ 64).toNat * 8

/-- Σ of indices times strides over dimensions from 1 (source), skipping `drop` more. -/
def strideSum (f : LDim → Int) : List LDim → List Nat → Int
  | x :: xs, i :: is => f x * i + strideSum f xs is
  | _, _ => 0

/-- The bit position of a point's source element (R315). -/
def LDesc.srcBit (d : LDesc) (c : List Nat) : Nat :=
  bitPos d.src (strideSum LDim.srcStride (d.ds.drop 1) (c.drop 1)) + c.headD 0 * d.size

/-- The bit position of a point's destination (R316, R320). -/
def LDesc.dstBit (d : LDesc) (e : List Nat) : Nat :=
  let w := d.tw
  let e0 := e.headD 0
  let e1 := e.getD 1 0
  if d.xform = 1 then
    bitPos d.dst (e0 / w * d.ts + strideSum LDim.dstStride (d.ds.drop 2) (e.drop 2)) + (e1 * w + e0 % w) * d.size
  else if d.xform = 2 then
    bitPos d.dst (e1 / w * d.ts + strideSum LDim.dstStride (d.ds.drop 2) (e.drop 2)) + (e0 * w + e1 % w) * d.size
  else bitPos d.dst (strideSum LDim.dstStride (d.ds.drop 1) (e.drop 1)) + e0 * d.size

/-! Values as the plan knows them: where their bits come from. -/

/-- Bits of a line of the read plan: its number, the first bit, the count. -/
structure LSrc where
  read : Nat
  bit : Nat
  len : Nat
  deriving DecidableEq, Repr

/-- What a destination element receives: the bits of a source element, a constant, a stored value, the indices or bitmap
of a compressed group (R322), an element of an expanded group (R323): its metadata, its stored values, its position. -/
inductive LVal where
  | bits (e : List LSrc)
  | const (v : Nat)
  | slot (elems : List (List LSrc)) (k : Nat)
  | index (elems : List (List LSrc))
  | elem (md : List LSrc) (vals : List (List LSrc)) (pos : Nat)
  deriving DecidableEq, Repr

/-- Bits of an open sector that one element, or a part of one, fills: the first bit, the count, the value, the bits of the
value that lie in an earlier sector. -/
structure LPart where
  off : Nat
  len : Nat
  val : LVal
  skip : Nat
  deriving DecidableEq, Repr

/-- A sector in assembly, or a sector write (R326): sector number FA / 256, the mask with one bit per 2 bits of data, its
parts in order, the reads that must have been made before it. -/
structure LSec where
  sector : Nat
  mask : Nat
  parts : List LPart
  need : Nat
  deriving DecidableEq, Repr

/-- The state in which the plans are drawn up: line staging, least recently used first (line FA / 64, read number), lines
read so far, newest first, and their count, the line in progress, open sectors in the order they were opened, sector
writes, newest first, and their count, the resolved elements of the last rows, newest first, dropped points, clamped
elements, and the byte ranges touched: source, metadata, destination. -/
structure LPlan where
  stage : List (Nat × Nat)
  reads : List Nat
  nr : Nat
  cur : Nat
  opens : List LSec
  writes : List LSec
  nw : Nat
  hist : List (List LSrc)
  oob : Nat
  clamped : Nat
  srcRange : Option (Nat × Nat)
  metaRange : Option (Nat × Nat)
  dstRange : Option (Nat × Nat)
  deriving DecidableEq, Repr

/-- Before the first point. -/
def LPlan.start : LPlan :=
  { stage := [], reads := [], nr := 0, cur := 0, opens := [], writes := [], nw := 0, hist := [], oob := 0, clamped := 0,
    srcRange := none, metaRange := none, dstRange := none }

/-- A byte range widened by a run of bits. -/
def widenTo (r : Option (Nat × Nat)) (bit len : Nat) : Option (Nat × Nat) :=
  match r with
  | none => some (bit / 8, (bit + len - 1) / 8)
  | some (lo, hi) => some (min lo (bit / 8), max hi ((bit + len - 1) / 8))

/-- A line in staging becomes the most recently used; one that is not there is read, evicting the least recently used
of 512 (R325). -/
def LPlan.touch (p : LPlan) (line : Nat) : LPlan × Nat :=
  match p.stage.find? (fun x => x.1 == line) with
  | some x => ({ p with stage := p.stage.filter (fun y => y.1 != line) ++ [x] }, x.2)
  | none =>
    ({ p with stage := (if p.stage.length ≥ 512 then p.stage.drop 1 else p.stage) ++ [(line, p.nr)], reads := line :: p.reads,
              nr := p.nr + 1 }, p.nr)

/-- The bits of an element at a bit position, which may lie in two lines. -/
def LPlan.fetch (p : LPlan) (bit len : Nat) : LPlan × List LSrc :=
  let l := bit / 512
  let n := min len (512 - bit % 512)
  let (p, r) := p.touch l
  if n < len then
    let (p, r') := p.touch (l + 1)
    (p, [⟨r, bit % 512, n⟩, ⟨r', 0, len - n⟩])
  else (p, [⟨r, bit % 512, len⟩])

/-- Several runs of bits in turn. -/
def LPlan.fetchAll (p : LPlan) (len : Nat) : List Nat → LPlan × List (List LSrc)
  | [] => (p, [])
  | b :: bs =>
    let (p, e) := p.fetch b len
    let (p, es) := p.fetchAll len bs
    (p, e :: es)

/-- The reads a value needs. -/
def needOf (e : List LSrc) : Nat := e.foldl (fun n x => max n (x.read + 1)) 0

/-- The reads that a value needs before it is known. -/
def LVal.need : LVal → Nat
  | .bits e => needOf e
  | .const _ => 0
  | .slot es _ => es.foldl (fun n e => max n (needOf e)) 0
  | .index es => es.foldl (fun n e => max n (needOf e)) 0
  | .elem m es _ => es.foldl (fun n e => max n (needOf e)) (needOf m)

/-- A full mask. -/
def fullMask : Nat := 2 ^ 1024 - 1

/-- A sector becomes the next sector write. -/
def LPlan.close (p : LPlan) (s : LSec) : LPlan :=
  { p with opens := p.opens.filter (fun x => x.sector != s.sector), writes := s :: p.writes, nw := p.nw + 1 }

/-- Sectors whose masks are full close in the order they were opened (R326). -/
def LPlan.flush (p : LPlan) : LPlan := (p.opens.filter (fun s => s.mask == fullMask)).foldl LPlan.close p

/-- The descriptor ends: the remaining open sectors close in order. -/
def LPlan.finish (p : LPlan) : LPlan := (p.flush).opens.foldl LPlan.close p.flush

/-- The mask of a part. -/
def LPart.mask (x : LPart) : Nat := (2 ^ (x.len / 2) - 1) * 2 ^ (x.off / 2)

/-- The open sector a part goes into: the one that holds its sector, unless it is full or, under ACCUMULATE, already holds
a contribution to the same bits; else a new one, the earliest opened closing when 64 are open (R326). -/
def LPlan.place (p : LPlan) (acc : Bool) (sector : Nat) (x : LPart) : LPlan :=
  let p := match p.opens.find? (fun s => s.sector == sector) with
    | some s => if s.mask == fullMask then p.flush else if acc && (s.mask &&& x.mask) != 0 then p.close s else p
    | none => p
  let add (s : LSec) : LSec := { s with mask := s.mask ||| x.mask, parts := s.parts ++ [x], need := max s.need x.val.need }
  if p.opens.any (fun s => s.sector == sector) then
    { p with opens := p.opens.map (fun s => if s.sector = sector then add s else s) }
  else
    let p := if p.opens.length < 64 then p else p.flush
    let p := if p.opens.length < 64 then p else match p.opens with | s :: _ => p.close s | [] => p
    { p with opens := p.opens ++ [add ⟨sector, 0, [], 0⟩] }

/-- An element is written at a bit position, in one sector or across two. -/
def LPlan.emit (p : LPlan) (acc : Bool) (bit len : Nat) (v : LVal) : LPlan :=
  let n := min len (2048 - bit % 2048)
  let p := { p with dstRange := widenTo p.dstRange bit len }
  let p := p.place acc (bit / 2048) ⟨bit % 2048, n, v, 0⟩
  if n < len then p.place acc (bit / 2048 + 1) ⟨0, len - n, v, n⟩ else p

/-- Several elements in turn. -/
def LPlan.emitAll (p : LPlan) (len : Nat) : List (Nat × LVal) → LPlan
  | [] => p
  | x :: xs => (p.emit false x.1 len x.2).emitAll len xs

/-- Passing to another source line closes the sectors that became full on the one before. -/
def LPlan.enter (p : LPlan) (line : Nat) : LPlan := if line = p.cur then p else { p.flush with cur := line }

/-- A point of COMPRESS (R322): the element is read, and with the last one of a group or block its values and metadata are
written. -/
def LDesc.compressAt (d : LDesc) (p : LPlan) (i : List Nat) : LPlan :=
  let w := d.tw
  let (c, cl) := srcIx d.ds i
  let c0 := i.headD 0
  let k := c0 / w
  let j := c0 % w
  let g := k / d.group
  let keep (h : List (List LSrc)) := h.take (32 * w)
  if j ≥ d.cols then { p with hist := keep ([] :: p.hist) }
  else
    let bit := d.srcBit c
    let p := p.enter (bit / 512)
    let (p, e) := p.fetch bit d.size
    let p := { p with hist := keep (e :: p.hist), clamped := p.clamped + b2n cl, srcRange := widenTo p.srcRange bit d.size }
    match dstIx d.ds i with
    | none => { p with oob := p.oob + 1 }
    | some ix =>
      if k % d.group ≠ d.group - 1 then p
      else
        let elems := (List.range d.group).map (fun t => p.hist.getD ((d.group - 1 - t) * w) [])
        let e1 := ix.getD 1 0
        let vbase := bitPos d.dst ((d.dim 1).dstStride * e1)
        let mbase := bitPos d.metaFa (d.ms * e1)
        let n := g * d.cols + j
        let p := p.emitAll d.size ((List.range d.slots).map (fun s => (vbase + (n * d.slots + s) * d.size, LVal.slot elems s)))
        let at_ := mbase + n * d.metaBits
        { p.place false (at_ / 2048) ⟨at_ % 2048, d.metaBits, .index elems, 0⟩ with metaRange := widenTo p.metaRange at_ d.metaBits }

/-- A point of EXPAND (R323). -/
def LDesc.expandAt (d : LDesc) (p : LPlan) (i : List Nat) : LPlan :=
  let w := d.tw
  let c0 := i.headD 0
  let k := c0 / w
  let j := c0 % w
  match dstIx d.ds i with
  | none => { p with oob := p.oob + 1 }
  | some ix =>
    let out := d.dstBit ix
    if j ≥ d.cols then p.emit false out d.size (.const 0)
    else
      let e1 := ix.getD 1 0
      let n := k / d.group * d.cols + j
      let mbit := bitPos d.metaFa (d.ms * e1) + n * d.metaBits
      let vbase := bitPos d.src ((d.dim 1).srcStride * e1)
      let vbits := (List.range d.slots).map (fun s => vbase + (n * d.slots + s) * d.size)
      let p := p.enter ((if mbit < vbase then vbits.headD mbit else mbit) / 512)
      let p := { p with metaRange := widenTo p.metaRange mbit d.metaBits,
                        srcRange := vbits.foldl (fun r b => widenTo r b d.size) p.srcRange }
      if mbit < vbase then
        let (p, m) := p.fetch mbit d.metaBits
        let (p, vs) := p.fetchAll d.size vbits
        p.emit false out d.size (.elem m vs (k % d.group))
      else
        let (p, vs) := p.fetchAll d.size vbits
        let (p, m) := p.fetch mbit d.metaBits
        p.emit false out d.size (.elem m vs (k % d.group))

/-- A point of COPY or ACCUMULATE without compression. -/
def LDesc.moveAt (d : LDesc) (p : LPlan) (i : List Nat) : LPlan :=
  let (c, cl) := srcIx d.ds i
  let bit := d.srcBit c
  let p := p.enter (bit / 512)
  let (p, e) := p.fetch bit d.size
  let p := { p with clamped := p.clamped + b2n cl, srcRange := widenTo p.srcRange bit d.size }
  match dstIx d.ds i with
  | none => { p with oob := p.oob + 1 }
  | some ix => p.emit (d.op == 2) (d.dstBit ix) d.size (.bits e)

/-- A point of FILL (R318): with no source line in progress, a full sector closes at once. -/
def LDesc.fillAt (d : LDesc) (p : LPlan) (i : List Nat) : LPlan :=
  match dstIx d.ds i with
  | none => { p with oob := p.oob + 1 }
  | some ix => (p.emit false (d.dstBit ix) d.size (.const (bitsOf d.aux 0 d.size))).flush

/-- One point. -/
def LDesc.pointAt (d : LDesc) (p : LPlan) (n : Nat) : LPlan :=
  let i := digits d.ds n
  if d.op = 3 then d.fillAt p i
  else if d.compresses then d.compressAt p i
  else if d.expands then d.expandAt p i
  else d.moveAt p i

/-- The points from a number on, in iteration order (R314). -/
def LDesc.run (d : LDesc) : Nat → Nat → LPlan → LPlan
  | 0, _, p => p
  | k + 1, n, p => d.run k (n + 1) (d.pointAt p n)

/-- The plans of a descriptor (R325, R326). -/
def LDesc.plan (d : LDesc) : LPlan := (d.run d.points 0 LPlan.start).finish

/-! Values with the lines at hand. -/

/-- The lines of the read plan read so far. -/
abbrev Lines := List (List Byte × Bool)

/-- Bits of the lines read. -/
def srcNum (ls : Lines) : List LSrc → Nat
  | [] => 0
  | x :: xs => bitsOf (leNat (ls.getD x.read ([], true)).1) x.bit x.len + 2 ^ x.len * srcNum ls xs

/-- Some of the bits come from a poisoned line. -/
def srcBad (ls : Lines) (e : List LSrc) : Bool := e.any (fun x => (ls.getD x.read ([], true)).2)

/-- An element is neither +0 nor −0 (R322). -/
def nonZero (fmt v : Nat) : Bool := match floatFmt fmt with
  | some f => bitsOf v 0 (f.eb + f.mb) != 0
  | none => v != 0

/-- Positions in a list of the values that are not zero. -/
def nonZeros (fmt : Nat) : Nat → List Nat → List Nat
  | _, [] => []
  | i, v :: vs => if nonZero fmt v then i :: nonZeros fmt (i + 1) vs else nonZeros fmt (i + 1) vs

/-- The positions whose values a compressed group stores, none for +0, by slot (R322). -/
def storedAt (sbm : Bool) (nz : List Nat) : List (Option Nat) :=
  if sbm then nz.map some
  else match nz with
    | [] => [none, none]
    | [p] => if p < 3 then [some p, none] else [none, some p]
    | p :: q :: _ => [some p, some q]

/-- The metadata of a compressed group and whether it overflows (R322). -/
def indexOf (sbm : Bool) (nnz : Nat) (nz : List Nat) : Nat × Bool :=
  if sbm then (nz.foldl (fun m t => m + 2 ^ t) 0, decide (nz.length > nnz))
  else match nz with
    | [] => (4, false)
    | [p] => (if p < 3 then p + 12 else 14, false)
    | [p, q] => (p + 4 * q, false)
    | _ => (0, true)

/-- Population count of the low `n` bits. -/
def popLow (v : Nat) : Nat → Nat
  | 0 => 0
  | n + 1 => popLow v n + b2n (bitOf v n)

/-- Metadata is faulty (R170). -/
def badIndex (sbm : Bool) (nnz m : Nat) : Bool :=
  if sbm then decide (popLow m 32 > nnz) else decide (m % 4 ≥ m / 4 % 4)

/-- The slot that stores an element, when one does. -/
def slotFor (sbm : Bool) (m pos : Nat) : Option Nat :=
  if sbm then (if bitOf m pos then some (popLow m pos) else none)
  else if m % 4 = pos then some 0 else if m / 4 % 4 = pos then some 1 else none

/-- A value with the lines at hand: the number, whether it carries poison, whether it is a compression overflow, whether it
is the first element of a faulty group. -/
def LVal.eval (d : LDesc) (ls : Lines) : LVal → Nat × Bool × Bool × Bool
  | .bits e => (srcNum ls e, srcBad ls e, false, false)
  | .const v => (v, false, false, false)
  | .slot es k =>
    let vs := es.map (srcNum ls)
    let v := match (storedAt d.sbm (nonZeros d.fmt 0 vs)).getD k none with
      | some t => vs.getD t 0
      | none => 0
    (v, es.any (srcBad ls), false, false)
  | .index es =>
    let r := indexOf d.sbm d.nnz (nonZeros d.fmt 0 (es.map (srcNum ls)))
    (r.1, es.any (srcBad ls), r.2, false)
  | .elem m vs pos =>
    let mv := srcNum ls m
    if badIndex d.sbm d.nnz mv then (0, true, false, pos == 0)
    else match slotFor d.sbm mv pos with
      | some s => (srcNum ls (vs.getD s []), srcBad ls m || srcBad ls (vs.getD s []), false, false)
      | none => (0, srcBad ls m, false, false)

/-- A sector write with its data (R326, R328, R330): for each part the first bit, the count, the value, its poison; and
the overflows and faulty groups it reports. -/
structure SecData where
  sector : Nat
  mask : Nat
  parts : List (Nat × Nat × Nat × Bool)
  overflows : Nat
  faulty : Nat
  deriving DecidableEq, Repr

/-- The data of a sector write. -/
def LSec.data (d : LDesc) (ls : Lines) (s : LSec) : SecData :=
  let vs := s.parts.map (fun x => (x, x.val.eval d ls))
  { sector := s.sector, mask := s.mask,
    parts := vs.map (fun x => (x.1.off, x.1.len, bitsOf x.2.1 x.1.skip x.1.len, x.2.2.1)),
    overflows := (vs.filter (fun x => x.2.2.2.1)).length,
    faulty := (vs.filter (fun x => x.2.2.2.2 && x.1.skip == 0)).length }

/-! ACCUMULATE (R330). -/

/-- One contribution to an element: the new value and its flags. -/
def accElem (fmt x v : Nat) : Nat × Flags :=
  if fmt = 0x10 then accAddInt x (toInt 32 v)
  else
    let f := if fmt = 5 then (⟨8, 7, 127, .ieee⟩ : FloatFmt) else fp32
    match f.decode x, f.decode v with
    | .nan, _ => (f.canonNaN, Flags.justNan)
    | _, .nan => (f.canonNaN, Flags.justNan)
    | .inf a, .inf b => if a = b then (x, Flags.justInf) else (f.canonNaN, Flags.justNan)
    | .inf _, _ => (x, Flags.justInf)
    | _, .inf b => (f.signed b ((2 ^ f.eb - 1) * 2 ^ f.mb), Flags.justInf)
    | a, b =>
      let t := b.dy
      if t.num = 0 then (x, Flags.none)
      else
        let d := a.dy.add t
        if d.num = 0 then (0, Flags.none)
        else
          let r := f.convert false (.fin (decide (d.num < 0)) d.num.natAbs d.exp)
          (r.1, if r.2.csat then Flags.justOvf else Flags.none)

/-- Bits of a number replaced. -/
def putBits (v off len x : Nat) : Nat := v - bitsOf v off len * 2 ^ off + x % 2 ^ len * 2 ^ off

/-- The parts of a sector applied to the 256 bytes that stand at the target, as one number: the new contents, the flags of
ACCUMULATE and the granules (0 to 3) that carry poison. A poisoned operand enters as +0 (R117). -/
def applyParts (acc : Bool) (fmt : Nat) (oldBad : List Nat) : List (Nat × Nat × Nat × Bool) → Nat × Flags × List Nat → Nat × Flags × List Nat
  | [], r => r
  | (off, len, v, bad) :: t, (n, fl, ps) =>
    if acc then
      let xb := oldBad.elem (off / 512)
      let x := if xb then 0 else bitsOf n off len
      let r := accElem fmt x (if bad then 0 else v)
      applyParts acc fmt oldBad t
        (putBits n off len r.1, (fl.or r.2).or (Flags.poisonIf (xb || bad)), if xb || bad then off / 512 :: ps else ps)
    else
      applyParts acc fmt oldBad t
        (putBits n off len v, fl, if bad then off / 512 :: (off + len - 1) / 512 :: ps else ps)

end Sys2Proof.Machine
end

