-- ==== Sys2Proof/Machine/RegFile.lean ====
section
/-! DEFINITION. Reading and writing registers by field type (R17 to R20). -/
namespace Sys2Proof.Machine

/-- What a read of a register returns: every field at its place, WO fields and reserved bits as 0 (R17, R18). -/
def State.regVal (s : State) (r : Reg) (i : Nat) : Nat :=
  r.fields.foldl (fun v f => v + (if f.ty = .wo then 0 else s.fget f i * 2 ^ f.lo)) 0

/-- A read clears the RC fields whose bits lie in the bytes read (R17). -/
def regReadClears (r : Reg) (i lo len : Nat) : Eff :=
  upd ((r.fields.filter (fun f => f.ty == .rc && decide (f.lo < lo + len) && decide (lo < f.lo + f.len))).map (fun f => .fld f i 0))

/-- An encoding of an RW field that its table reserves (R18). -/
def reservedEncoding (f : Fld) (v : Nat) : Bool :=
  (f == F.DBG_BP_CTL_n_KIND && decide (v > 4)) || (f == F.DBG_BP_CTL_n_ACTION && decide (v > 2))

/-- A write of some bits of a register: `mask` says which bits the write covers (R17, R18). WO fields act by their own
commands. -/
def regWrite (r : Reg) (i mask v : Nat) : Eff := rd fun s =>
  upd (r.fields.filterMap (fun f =>
    let m := bitsOf mask f.lo f.len
    let x := bitsOf v f.lo f.len
    let old := s.fget f i
    match f.ty with
    | .rw =>
      let new := (x &&& m) + (old - (old &&& m))
      if m = 0 ∨ reservedEncoding f new = true then none else some (.fld f i new)
    | .w1c => if x &&& m = 0 then none else some (.fld f i (old - (old &&& (x &&& m))))
    | .w1s => if x &&& m = 0 then none else some (.fld f i (old ||| (x &&& m)))
    | _ => none))

/-- The bits that `n` bytes at a byte offset of a register cover. -/
def byteMask (off n : Nat) : Nat := (2 ^ (8 * n) - 1) * 2 ^ (8 * off)

end Sys2Proof.Machine
end

