-- ==== Sys2Proof/Machine/Scratchpad.lean ====
section
/-! DEFINITION. Scratchpad, gather buffer, arrival counters, cluster caches and DRAM (R260 to R306): shared operations and
the commands of the chapter. -/
namespace Sys2Proof.Machine

/-! Arrival counters (R270, R271). -/

/-- A counter's value. -/
def State.arrival (s : State) (p k : Nat) : Nat := NMap.get 0 (s.core p).arrive k

/-- A counter increases by a number of increments, modulo 2^32. -/
def arriveBy (p k n : Nat) : Eff := onCore p (fun c => { c with arrive := NMap.put 0 c.arrive k ((NMap.get 0 c.arrive k + n) % 2 ^ 32) })

/-- A counter has reached a threshold (R271). -/
def reached (counter thr : Nat) : Bool := decide ((counter + 2 ^ 32 - thr % 2 ^ 32) % 2 ^ 32 < 2 ^ 31)

/-! The gather buffer (R267, R268). -/

/-- GATHER_USED follows the buffer (R300). -/
def gatherCount (p : Nat) : Eff := rd fun s => fset F.SPD_ELASTIC_GATHER_USED p (s.core p).gather.length

/-- A line with an entry's masked bytes laid over it. -/
def overlay (mask : Nat) : Nat → List Byte → List Byte → List Byte
  | i, o :: os, n :: ns => (if bitOf mask i then n else o) :: overlay mask (i + 1) os ns
  | _, os, _ => os

/-- Write an entry to its line (R268). -/
def gatherStore (p : Nat) (g : GatherEnt) : Eff := rd fun s =>
  let old := s.spdRd p (g.line * 64) 64
  let whole := g.mask == 2 ^ 64 - 1
  spdWr p (g.line * 64) (overlay g.mask 0 old g.bytes) (g.poison || (!whole && s.spdPoisoned p (g.line * 64) 64))

/-- Flush the entry that holds a line. -/
def gatherFlush (p line : Nat) : Eff := rd fun s =>
  match (s.core p).gather.find? (fun g => g.line == line) with
  | some g => seq [onCore p (fun c => { c with gather := c.gather.filter (fun e => e.line != line) }), gatherStore p g, gatherCount p]
  | none => nop

/-- Flush every entry, oldest first. -/
def gatherFlushAll (p : Nat) : Eff := rd fun s => each ((s.core p).gather.map (fun g => g.line)) (gatherFlush p)

/-- A full-line write supersedes an entry (R267). -/
def gatherDrop (p line : Nat) : Eff :=
  seq [onCore p (fun c => { c with gather := c.gather.filter (fun e => e.line != line) }), gatherCount p]

/-- Bytes placed at an offset of a 64-byte line. -/
def placeAt (off : Nat) (bs line : List Byte) : List Byte := line.take off ++ bs ++ line.drop (off + bs.length)

/-- A mask of `n` bytes from an offset. -/
def maskAt (off n : Nat) : Nat := (2 ^ n - 1) * 2 ^ off

/-- Merge a narrow write into its line's entry, taking a free entry, or the oldest one's after a flush (R267); an entry
whose mask is full is flushed (R268). -/
def gatherWrite (p off : Nat) (bs : List Byte) (poison : Bool) : Eff :=
  let line := off / 64
  let m := maskAt (off % 64) bs.length
  seq [
    rd fun s =>
      let g := (s.core p).gather
      match g.find? (fun e => e.line == line) with
      | some _ => nop
      | none =>
        seq [when (decide (g.length ≥ 16)) (match g with | e :: _ => gatherFlush p e.line | [] => nop),
          onCore p (fun c => { c with gather := c.gather ++ [{ line, bytes := List.replicate 64 0, mask := 0, poison := false }] })],
    onCore p (fun c => { c with gather := c.gather.map (fun e => if e.line == line then
      { e with bytes := placeAt (off % 64) bs e.bytes, mask := e.mask ||| m, poison := e.poison || poison } else e) }),
    gatherCount p,
    rd fun s => match (s.core p).gather.find? (fun e => e.line == line) with
      | some e => when (e.mask == 2 ^ 64 - 1) (gatherFlush p line)
      | none => nop]

/-- What a narrow read returns: the line with the masked bytes of its entry laid over it (R267). -/
def State.gatherRead (s : State) (p off n : Nat) : List Byte × Bool :=
  let line := off / 64
  let l := s.spdRd p (line * 64) 64
  match (s.core p).gather.find? (fun e => e.line == line) with
  | some e => (((overlay e.mask 0 l e.bytes).drop (off % 64)).take n, s.spdPoisoned p (line * 64) 64 || e.poison)
  | none => ((l.drop (off % 64)).take n, s.spdPoisoned p (line * 64) 64)

/-! Scratchpad ECC (R272 to R277). -/

/-- The line of a bank and row (R261 read backwards). -/
def lineOf (bank row : Nat) : Nat := row * 64 + (bank ^^^ bitsOf row 0 6 ^^^ bitsOf row 6 6 ^^^ bitsOf row 12 4)

/-- A corrected error of a line (R273): counted, captured while no uncorrectable one is, and, when it is a new occasion,
counted for its row. -/
def spdCorrected (p line : Nat) (scrub : Bool) : Eff := rd fun s =>
  let c := s.core p
  let n := NMap.get 0 c.occasions line
  let fresh := n == 0 || NSet.mem c.rewritten line
  seq [fsat F.SPD_ECC_CORR p 1, fset F.SPD_ECC_CORR_SEEN p 1,
    when (!s.flag F.SPD_ECC_UNCORR_SEEN p)
      (seq [fset F.SPD_ECC_ADDR_OFFSET p (line * 64), fset F.SPD_ECC_ADDR_UNCORR p 0, fput F.SPD_ECC_ADDR_SCRUB p scrub]),
    raise 0x0302 0 (s.who p 109) [(8, line * 64)],
    onCore p (fun c => { c with writeBack := NSet.add c.writeBack line }),
    when fresh (onCore p (fun c => { c with occasions := NMap.put 0 c.occasions line (n + 1), rewritten := NSet.del c.rewritten line,
                                            badRows := if n + 1 ≥ 3 then NSet.add c.badRows line else c.badRows }))]

/-- An uncorrectable error of a line (R274). -/
def spdUncorrected (p line : Nat) (scrub : Bool) : Eff :=
  seq [spdMark p line, fsat F.SPD_ECC_UNCORR p 1, fset F.SPD_ECC_UNCORR_SEEN p 1,
    fset F.SPD_ECC_ADDR_OFFSET p (line * 64), fset F.SPD_ECC_ADDR_UNCORR p 1, fput F.SPD_ECC_ADDR_SCRUB p scrub,
    onCore p (fun c => { c with badRows := NSet.add c.badRows line }),
    containCore p 0x0303 109 [(8, line * 64)]]

/-- The lowest spare row of a bank that is neither in use nor failed. -/
def CoreSt.freeSpare (c : CoreSt) (bank : Nat) : Option Nat :=
  (List.range 64).find? (fun i => NMap.get 0 c.sparesUsed (bank * 64 + i) == 0)

/-- Unused spare rows of a bank. -/
def CoreSt.unusedSpares (c : CoreSt) (bank : Nat) : Nat :=
  64 - (c.sparesUsed.filter (fun e => e.1 / 64 == bank)).length

/-- SPARE_MIN and its bank (R294). -/
def spareMin (p : Nat) : Eff := rd fun s =>
  let c := s.core p
  let m := (List.range 64).foldl (fun a b => min a (c.unusedSpares b)) 64
  seq [fset F.SPD_STAT_SPARE_MIN p m,
    fset F.SPD_STAT_SPARE_MIN_BANK p (((List.range 64).find? (fun b => c.unusedSpares b == m)).getD 0)]

/-- The slag location of a scratchpad row (R43). -/
def rowLoc (p bank row : Nat) : Nat := p + bank * 2 ^ 8 + row * 2 ^ 14

/-- Substitute a spare for a row in service; with no spare left, or the map full, the core is fenced (R44, R276, R277). -/
def substituteRow (p bank row reason : Nat) : Eff := rd fun s =>
  let c := s.core p
  let line := lineOf bank row
  match (if s.slagFull 3 then none else c.freeSpare bank) with
  | none => fenceCore p reason []
  | some i =>
    let old := NMap.get 0 c.rowMap line
    seq [slagRecord 3 2 reason (rowLoc p bank row) i,
      onCore p (fun c => { c with
        rowMap := NMap.put 0 c.rowMap line (i + 1),
        sparesUsed := NMap.put 0 (if old = 0 then c.sparesUsed else NMap.put 0 c.sparesUsed (bank * 64 + (old - 1)) 2) (bank * 64 + i) 1,
        badRows := NSet.del c.badRows line, occasions := NMap.put 0 c.occasions line 0 }),
      spareMin p, raiseSubstituted 3 reason (rowLoc p bank row) i, coreBeacon p 3 0x0A07 reason,
      rd fun s' => when ((s'.core p).freeSpare bank).isNone (raiseExhausted 3 (rowLoc p bank row))]

/-! Cluster caches (R283 to R286, R302). -/

/-- The set of a line (R283): a line number is its DRAM offset / 256. -/
def cacheSet (line : Nat) : Nat := (line / 16 / 80 * 16 + line % 16) % 16384

/-- The first line of a set and group in least-recently-used order, spent prefetched lines first among STREAM ways. -/
def evictee (ls : List CacheLine) (set : Nat) (stream : Bool) : Option CacheLine :=
  let g := ls.filter (fun l => cacheSet l.line == set && l.stream == stream)
  match g.find? (fun l => l.spent) with
  | some l => some l
  | none => g.find? (fun l => !l.prefetched)

/-- Allocate a line in its group, evicting the least recently used one when the group's ways are full; none when a
prefetch must wait for room (R284). -/
def CacheSt.alloc (c : CacheSt) (ways : Nat) (n : CacheLine) : Option CacheSt :=
  let set := cacheSet n.line
  let cap := if n.stream then ways else 16 - ways
  let used := (c.lines.filter (fun l => cacheSet l.line == set && l.stream == n.stream)).length
  if used < cap then some { c with lines := c.lines ++ [n] }
  else match evictee c.lines set n.stream with
    | some v => some { c with lines := c.lines.filter (fun l => l.line != v.line) ++ [n] }
    | none => none

/-- The stream of a demand access: the Ladle engine and context that read. -/
abbrev Reader := Option (Nat × Nat)

/-- A demand access to a line at its home cache: found or filled, most recently used, dirty when written (R283, R284,
R302). -/
def cacheLineAccess (line : Nat) (write : Bool) (rdr : Reader) : Eff := rd fun s =>
  let h := homeOf (line * 256)
  let c := s.cache h
  match c.lines.find? (fun l => l.line == line) with
  | some l =>
    let l' : CacheLine := { l with dirty := l.dirty || write, prefetched := false, spent := l.spent || (l.stream && l.prefetched) }
    seq [fadd F.CCH_HITS_COUNT h 1,
      upd [.caches h { c with
        lines := c.lines.filter (fun x => x.line != line) ++ [l'],
        trackers := if l.prefetched then c.trackers.map (fun t => if rdr == some (t.engine, t.ctx) then { t with ahead := t.ahead - 1 } else t)
                    else c.trackers }]]
  | none =>
    let n : CacheLine := { line, dirty := write, prefetched := false, spent := false, stream := false }
    seq [fadd F.CCH_MISSES_COUNT h 1,
      match c.alloc (s.fget F.CCH_PART_STREAM_WAYS h) n with
      | some c' => upd [.caches h c']
      | none => nop]

/-- A demand access to every line a byte range touches. -/
def cacheAccess (off n : Nat) (write : Bool) (rdr : Reader) : Eff := each (touched 256 off n) (fun l => cacheLineAccess l write rdr)

/-- A DRAM read through the home caches. -/
def dramRead (off n : Nat) (rdr : Reader) : Eff := cacheAccess off n false rdr

/-- A DRAM write through the home caches. -/
def dramWrite (off : Nat) (bs : List Byte) (poison : Bool) : Eff := seq [cacheAccess off bs.length true none, dramWr off bs poison]

/-- Every dirty line of a byte range is written back (R248, R482). -/
def cacheClean (lo hi : Nat) : Eff := rd fun s =>
  each s.caches (fun e => upd [.caches e.1 { e.2 with
    lines := e.2.lines.map (fun l => if lo ≤ l.line * 256 ∧ l.line * 256 < hi then { l with dirty := false } else l) }])

/-- Every line of a byte range is discarded (R292 step 2). -/
def cacheDiscard (lo hi : Nat) : Eff := rd fun s =>
  each s.caches (fun e => upd [.caches e.1 { e.2 with
    lines := e.2.lines.filter (fun l => !(decide (lo ≤ l.line * 256) && decide (l.line * 256 < hi))) }])

/-- Accesses to a stack to which only refresh is issued wait without an answer (R290). -/
def State.dramOpen (s : State) (off n : Nat) : Bool := (touched 4096 off n).all (fun c => !NSet.mem s.refreshOnly (c % 20))

/-! DRAM ECC (R291). -/

/-- The error fields of a stack's controller. -/
def hbmCorrected (off : Nat) : Eff :=
  let c := (stackCluster (stackOf off)).1
  seq [fsat F.CCH_HBM_CORR c 1, raise 0x0308 0 ⟨c, 0xFF, 111, 0xFF⟩ [(8, off)]]

/-- An uncorrectable DRAM read: poisoned, captured, raised against the flask whose region holds it. -/
def hbmUncorrected (off : Nat) : Eff := rd fun s =>
  let c := (stackCluster (stackOf off)).1
  seq [upd [.dramWritten (off / 65536) true, .dramPoison (off / 64) true], fsat F.CCH_HBM_UNCORR c 1,
    when (!s.flag F.CCH_HBM_ERR_VALID c) (seq [fset F.CCH_HBM_ERR_OFFSET c off, fset F.CCH_HBM_ERR_VALID c 1]),
    match s.regionOf off with
    | some f => contain f 0x0309 ⟨c, 0xFF, 111, f⟩ [(8, off)]
    | none => raise 0x0309 1 ⟨c, 0xFF, 111, 0xFF⟩ [(8, off)]]

/-- A corrected error in a cache line, or a clean line refetched (R285). -/
def cchCorrected (h off : Nat) : Eff :=
  seq [fsat F.CCH_ECC_CORR h 1, fset F.CCH_ECC_CORR_SEEN h 1, raise 0x0306 0 ⟨h, 0xFF, 110, 0xFF⟩ [(8, off)]]

/-- An uncorrectable error in a cache line (R285). -/
def cchUncorrected (h line : Nat) : Eff := rd fun s =>
  let dirty := (s.cache h).lines.any (fun l => l.line == line && l.dirty)
  seq [fsat F.CCH_ECC_UNCORR h 1, fset F.CCH_ECC_UNCORR_SEEN h 1,
    either dirty
      (seq [fset F.CCH_ECC_DIRTY_LOSS h 1, upd ((List.range 4).map (fun i => .dramPoison (line * 4 + i) true)),
        match s.regionOf (line * 256) with
        | some f => contain f 0x0307 ⟨h, 0xFF, 110, f⟩ [(8, line * 256)]
        | none => raise 0x0307 1 ⟨h, 0xFF, 110, 0xFF⟩ [(8, line * 256)]])
      (cchCorrected h (line * 256))]

/-! Commands. -/

/-- ELASTIC_ACCESS_TIMEOUT: an elastic access that found no free cycle ends in error (R265). -/
def execElasticAccessTimeout (core : CoreId) (op : AccessOp) (s : State) : Host.Outcome State Fault Refusal :=
  run (seq [fsat F.SPD_ELASTIC_TIMEOUT core.val 1, fset F.SPD_ELASTIC_TIMEOUT_SEEN core.val 1,
    (match op with
     | .read n => answer (List.replicate n 0) true 0
     | _ => answer [] false 1),
    rd fun s => raise 0x0305 1 (s.who core.val 109) [(8, s.fget F.SPD_ELASTIC_TIMEOUT core.val)]]) s

/-- GATHER_FLUSH: an entry of the gather buffer is written to its line (R268). -/
def execGatherFlush (core : CoreId) (line : Nat) (s : State) : Host.Outcome State Fault Refusal :=
  run (gatherFlush core.val line) s

/-- ECC_WRITE_BACK: a corrected line is written back in a free cycle, unless it has been written meanwhile (R273). -/
def execEccWriteBack (core : CoreId) (line : Nat) (s : State) : Host.Outcome State Fault Refusal :=
  run (rd fun s => when (NSet.mem (s.core core.val).writeBack line)
    (onCore core.val (fun c => { c with writeBack := NSet.del c.writeBack line, rewritten := NSet.add c.rewritten line }))) s

/-- ROW_SUBSTITUTION: a spare row takes a row's place (R276). For reason 0x03 the row must be one that R273 or R274
names. -/
def execRowSubstitution (core : CoreId) (bank : Fin 64) (row reason : Nat) (s : State) : Host.Outcome State Fault Refusal :=
  run (rd fun s => when (decide (row < 65536) && (reason != 3 || NSet.mem (s.core core.val).badRows (lineOf bank.val row)))
    (substituteRow core.val bank.val row reason)) s

/-- SCRUB_ROW: the patrol scrub reads its next physical row of each bank (R275, R299). -/
def execScrubRow (core : CoreId) (finding : ScrubFinding) (s : State) : Host.Outcome State Fault Refusal :=
  run (rd fun s =>
    let p := core.val
    let row := s.fget F.SPD_SCRUB_STAT_ROW p
    let bank := finding.bank.val
    let c := s.core p
    let line := if row < 65536 then some (lineOf bank row)
      else (c.rowMap.find? (fun e => bankOf e.1 == bank && e.2 == row - 65536 + 1)).map (fun e => e.1)
    when (!s.flag F.SPD_SCRUB_CTL_DIS p)
      (seq [
        (match line with
         | some l => seq [when finding.corrected (spdCorrected p l true), when finding.uncorrected (spdUncorrected p l true)]
         | none => seq [
             when finding.corrected (seq [fsat F.SPD_ECC_CORR p 1, fset F.SPD_ECC_CORR_SEEN p 1]),
             when finding.uncorrected (seq [fsat F.SPD_ECC_UNCORR p 1, fset F.SPD_ECC_UNCORR_SEEN p 1,
               onCore p (fun c => { c with sparesUsed := NMap.put 0 c.sparesUsed (bank * 64 + (row - 65536)) 2 }), spareMin p])]),
        either (decide (row ≥ 65599))
          (seq [fset F.SPD_SCRUB_STAT_ROW p 0, fadd F.SPD_SCRUB_STAT_PASSES p 1])
          (fset F.SPD_SCRUB_STAT_ROW p (row + 1)),
        when finding.behind (fset F.SPD_SCRUB_STAT_BEHIND p 1)])) s

/-- The result of MB_FLASK_CREATE (R482). -/
def State.createResult (s : State) (f : Nat) : List Byte :=
  pack [(4, (s.flask f).gen), (8, (s.flask f).baseGib * 2 ^ 30)]

/-- Mailbox commands that wait for cores to finish their zeroing end when the last one has (R280). -/
def zeroingWaiters : Eff := rd fun s =>
  each (s.slotsRunning (fun m => (m.cmd == 0x0101 || m.cmd == 0x0102 || m.cmd == 0x0105 || m.cmd == 0x0109) && m.phase == 1))
    (fun k =>
      let m := s.slot k
      let f := leAt m.args 0 1
      when (m.waitOn.all (fun p => s.coreState p != 5))
        (either (m.cmd == 0x0101) (mbDoneWith k (s.createResult f)) (mbDone k 0)))

/-- ZEROING_COMPLETE: the zeroing of a core in RESET ends and the core is IDLE (R222, R279 step 4). -/
def execZeroingComplete (core : CoreId) (s : State) : Host.Outcome State Fault Refusal :=
  run (rd fun s =>
    let p := core.val
    seq [when (s.flag F.SPD_STAT_ZEROING p) (seq [spdZero p, fset F.SPD_STAT_ZEROING p 0]),
      when (s.coreState p == 5) (fset F.CORE_STAT_STATE p 0),
      zeroingWaiters]) s

/-- CACHE_ACCESS: a DRAM access at its home cache, with the ECC error it meets (R281 to R285, R291). -/
def execCacheAccess (off : Nat) (write : Option (List Byte)) (fault : CacheFault) (s : State) : Host.Outcome State Fault Refusal :=
  run (rd fun s =>
    let line := off / 256
    let h := homeOf off
    let present := (s.cache h).lines.any (fun l => l.line == line)
    when (decide (off < dramSize) && s.dramOpen off 1)
      (seq [
        (match fault with
         | .none => nop
         | .cacheCorrected => when present (cchCorrected h (line * 256))
         | .cacheUncorrected => when present (cchUncorrected h line)
         | .dramCorrected => when (!present) (hbmCorrected off)
         | .dramUncorrected => when (!present) (hbmUncorrected off)),
        (match write with
         | some bs => dramWrite off (bs.take (256 - off % 256)) false
         | none => seq [dramRead (line * 256) 256 none,
             rd fun s => answer (s.devRd (line * 256) 256) (s.dramPoisoned (line * 256) 256) 0])])) s

/-- PREFETCH_ISSUE: a stream tracker fetches its next line, or drops one outside its flask's region (R284, R286). -/
def execPrefetchIssue (cluster : ClusterId) (engine : LdlId) (ctx : Fin 4) (s : State) : Host.Outcome State Fault Refusal :=
  run (rd fun s =>
    let h := cluster.val
    let c := s.cache h
    match c.trackers.find? (fun t => t.engine == engine.val && t.ctx == ctx.val) with
    | none => nop
    | some t =>
      match t.todo with
      | [] => nop
      | line :: rest =>
        let next (t' : TrackerSt) (c : CacheSt) : CacheSt :=
          { c with trackers := c.trackers.map (fun x => if x.engine == t.engine && x.ctx == t.ctx then t' else x) }
        if s.regionOf (line * 256) != some t.flask then
          seq [fsat F.CCH_PF_DROPPED h 1, onCache h (next { t with todo := rest })]
        else if t.ahead ≥ t.depth then nop
        else if c.lines.any (fun l => l.line == line) then onCache h (next { t with todo := rest })
        else
          match c.alloc (s.fget F.CCH_PART_STREAM_WAYS h) { line, dirty := false, prefetched := true, spent := false, stream := true } with
          | some c' => seq [upd [.caches h (next { t with todo := rest, ahead := t.ahead + 1 } c')], fadd F.CCH_PF_ISSUED h 1]
          | none => nop) s

/-- HBM_REFRESH: the controller refreshes a bank (R290). -/
def execHbmRefresh (stack : Fin 20) (channel bank : Fin 64) (tc : Nat) (s : State) : Host.Outcome State Fault Refusal :=
  run (seq [tcTo tc, rd fun s => upd [.refreshed ((stack.val * 64 + channel.val) * 64 + bank.val) s.tc]]) s

/-- HBM_TEMP_SAMPLE: a stack's temperature is read and its thresholds applied (R290, R305). -/
def execHbmTempSample (stack : Fin 20) (temp : Fin 256) (s : State) : Host.Outcome State Fault Refusal :=
  run (rd fun s =>
    let (c, a) := stackCluster stack.val
    let w : Who := ⟨c, 0xFF, 111, 0xFF⟩
    seq [fset (if a then F.CCH_HBM_TEMP_A else F.CCH_HBM_TEMP_B) c temp.val,
      fput (if a then F.CCH_HBM_FAST_REFRESH_A else F.CCH_HBM_FAST_REFRESH_B) c (decide (temp.val > 85)),
      when (decide (temp.val > 95)) (seq [fset F.CCH_HBM_HOT c 1, raise 0x030A 0 w [(8, temp.val)]]),
      when (decide (temp.val ≥ 105) && !NSet.mem s.refreshOnly stack.val)
        (seq [upd [.refreshOnly stack.val true], fatal 0x030B w [(8, temp.val)]])]) s

/-- HBM_PATROL: the controller patrol meets errors in lines of a stack (R291); each finding is an offset and whether it
was uncorrectable. -/
def execHbmPatrol (stack : Fin 20) (findings : List (Nat × Bool)) (s : State) : Host.Outcome State Fault Refusal :=
  run (each (findings.filter (fun x => decide (x.1 < dramSize) && stackOf x.1 == stack.val))
    (fun x => either x.2 (hbmUncorrected x.1) (hbmCorrected x.1))) s

end Sys2Proof.Machine
end

