-- ==== Sys2Proof/Machine/Fabric.lean ====
section
/-! DEFINITION. The fabric address check that every target makes (R45 to R47), and reads and writes of scratchpad and DRAM
by fabric address. -/
namespace Sys2Proof.Machine

/-- Who makes an access by fabric address: Crucible or not, its flask on this module, the tag of the pour it belongs to
through another module. -/
structure Initiator where
  crucible : Bool
  flask : Option Nat
  tag : Nat
  deriving DecidableEq, Repr

/-- The space of an FA (R45). -/
def faSpace (fa : Nat) : Nat := bitsOf fa 44 4
/-- The module of an FA (R45). -/
def faModule (fa : Nat) : Nat := bitsOf fa 48 16
/-- The logical core of an FA in SCRATCH or CREG (R46). -/
def faCore (fa : Nat) : Nat := bitsOf fa 36 8
/-- The scratchpad offset of an FA in SCRATCH (R46). -/
def faSpd (fa : Nat) : Nat := bitsOf fa 0 28
/-- The DRAM offset of an FA in DRAM (R46). -/
def faDram (fa : Nat) : Nat := bitsOf fa 0 41

/-- The logical core whose resource an FA names, for SCRATCH, CREG and QUEUE. -/
def faOwnerCore (fa : Nat) : Option Nat :=
  match faSpace fa with
  | 0 | 2 => some (faCore fa)
  | 4 => some (bitsOf fa 6 21 / 8192)
  | _ => none

/-- A flask is one that an initiator may reach (R47 check 5). -/
def State.reaches (s : State) (i : Initiator) : Option Nat → Bool
  | none => false
  | some f =>
    s.flaskState f == 3 && (s.flask f).live &&
    (i.crucible || i.flask == some f ||
     (s.inPour f && s.pourTag != 0 &&
      (i.tag == s.pourTag || (match i.flask with | some g => s.inPour g | none => false))))

/-- The module is in RUN or IDLE, and enters no deeper state (R541, R543 step 3). -/
def State.inService (s : State) : Bool :=
  decide (s.fget F.PST_STAT_STATE 0 ≤ 1) && !(s.fget F.PST_STAT_PHASE 0 == 1 && decide (s.fget F.PST_STAT_TARGET 0 ≥ 2))

/-- The register behind an FA in CREG or MREG (R46, R52, R53). -/
def State.faReg (s : State) (fa : Nat) : Option (Reg × Nat) :=
  if faSpace fa = 2 then
    match s.physOf (faCore fa) with
    | some p => Reg.atBar0 (0x400000 + p * 0x10000 + bitsOf fa 0 16 / 8 * 8)
    | none => none
  else Reg.atBar0 (bitsOf fa 0 24 / 8 * 8)

/-- The first check of an incoming FA that fails gives the reason, 0 for none (R47). `len` bytes are accessed; `formOk`
says that the form's size and alignment are permitted (R266, R331). -/
def State.faReason (s : State) (i : Initiator) (fa len : Nat) (write formOk : Bool) : Nat :=
  let sp := faSpace fa
  if sp > 4 then 1
  else if (match faOwnerCore fa with | some l => (s.physOf l).isNone | none => false) then 2
  else if (match sp with
    | 0 => bitsOf fa 28 8 != 0
    | 1 => bitsOf fa 41 3 != 0
    | 2 => bitsOf fa 16 20 != 0
    | 3 => bitsOf fa 24 20 != 0
    | _ => bitsOf fa 27 17 != 0) then 3
  else if !formOk || (match sp with
    | 0 => decide (faSpd fa + len > 2 ^ 28)
    | 1 => decide (faDram fa + len > dramSize) || (write && s.weightMeets (faDram fa) len)
    | 2 => decide (bitsOf fa 0 16 + len > 2 ^ 16)
    | 3 => decide (bitsOf fa 0 24 + len > 0xFE0000)
    | _ => decide (bitsOf fa 0 6 + len > 64)) then 4
  else if (match sp with
    | 0 | 2 => !s.inService || !s.reaches i ((faOwnerCore fa).bind (fun l => (s.physOf l).bind s.flaskOf))
    | 1 => !(i.crucible || s.reaches i (s.regionOf (faDram fa)))
    | 3 => write && !i.crucible
    | _ => !s.reaches i ((faOwnerCore fa).bind (fun l => (s.physOf l).bind s.flaskOf))) then 5
  else if (sp == 2 || sp == 3) && !(match s.faReg fa with | some r => r.1.visible | none => false) then 6
  else 0

/-- A decode fault (R47, R58, R59). -/
def faFault (fa reason : Nat) (write : Bool) : Eff := rd fun s =>
  seq [
    when (!s.flag F.MOD_FA_FAULT_INFO_VALID 0)
      (seq [fset F.MOD_FA_FAULT_ADDR_FA 0 fa, fset F.MOD_FA_FAULT_INFO_REASON 0 reason, fput F.MOD_FA_FAULT_INFO_WRITE 0 write,
        fset F.MOD_FA_FAULT_INFO_VALID 0 1]),
    fsat F.MOD_FA_FAULT_INFO_COUNT 0 1,
    raise 0x0301 1 nobody [(8, fa), (1, reason)]]

/-- What a read of scratchpad or DRAM by FA returns once its checks have passed: bytes and poison. -/
def State.faData (s : State) (fa len : Nat) : List Byte × Bool :=
  if faSpace fa = 0 then
    match s.physOf (faCore fa) with
    | some p => if len < 64 then s.gatherRead p (faSpd fa) len else (s.spdRd p (faSpd fa) len, s.spdPoisoned p (faSpd fa) len)
    | none => (List.replicate len 0, true)
  else (s.devRd (faDram fa) len, s.dramPoisoned (faDram fa) len)

/-- Lines of a core's scratchpad written whole: entries of the gather buffer that hold them are superseded (R267). -/
def lineWrite (p off : Nat) (bs : List Byte) (poison : Bool) : Eff :=
  seq [each (touched 64 off bs.length) (gatherDrop p), spdWr p off bs poison]

/-- Store bytes of scratchpad or DRAM by FA once the checks have passed. -/
def faStore (fa : Nat) (bs : List Byte) (poison : Bool) : Eff := rd fun s =>
  if faSpace fa = 0 then
    match s.physOf (faCore fa) with
    | some p => if bs.length < 64 then gatherWrite p (faSpd fa) bs poison else lineWrite p (faSpd fa) bs poison
    | none => nop
  else dramWrite (faDram fa) bs poison

/-- A write that names an arrival counter has reached its core: the gather buffer is flushed, then the counter increases
(R268, R270). -/
def arriveAfter (p k : Nat) : Eff := seq [gatherFlushAll p, arriveBy p k 1]

end Sys2Proof.Machine
end

