-- ==== Sys2Proof/Machine/Elastic.lean ====
section
/-! DEFINITION. Elastic messages between modules (R391, R409 to R413): their bytes, the cells that carry them, routes, and
WRITE_FAULT. -/
namespace Sys2Proof.Machine

/-- A request message (R411): descriptor and data, padded, with the CRC-32 of both in the last four bytes. -/
def reqBytes (fa op size fmt flags tag counter core pour : Nat) (data : List Byte) : List Byte :=
  let b := natLe 8 fa ++ natLe 1 op ++ natLe 1 size ++ natLe 1 fmt ++ natLe 1 flags ++ natLe 4 tag ++ natLe 2 counter ++ natLe 1 core ++
    [0] ++ natLe 4 pour ++ natLe 8 0 ++ data
  let n := (b.length + 4 + 127) / 128 * 128
  b ++ natLe (n - 4 - b.length) 0 ++ natLe 4 (crc32 b)

/-- A response message (R411). -/
def rspBytes (tag op status fidx tc : Nat) (data : List Byte) : List Byte :=
  let b := natLe 4 tag ++ natLe 1 op ++ natLe 1 status ++ natLe 2 fidx ++ natLe 8 tc ++ data
  b ++ natLe ((b.length + 127) / 128 * 128 - b.length) 0

/-- The cells of a message (R391). -/
def cellsFrom (rsp : Bool) (flags dest src : Nat) : Nat → Nat → List Byte → List ElCell
  | 0, _, _ => []
  | n + 1, seg, b =>
    { eseq := 0, rsp, dest, src, flags, seg, last := n == 0, bytes := b.take 128 } :: cellsFrom rsp flags dest src n (seg + 1) (b.drop 128)

/-- A message's cells join a port's elastic queue. -/
def cellsOut (port : Nat) (rsp poison : Bool) (dest src : Nat) (b : List Byte) : Eff :=
  onPort port (fun x => { x with waiting := x.waiting ++ cellsFrom rsp (16 * b2n poison) dest src (b.length / 128) 0 b })

/-- The port or network that leads to a module: the Vent within this one, else the pour's forwarding table, of ports that
are UP (R409, R410). -/
def State.routeTo (s : State) (m : Nat) : Option Nat :=
  if m = s.module then some toVent
  else (s.pour.routes.find? (fun r => r.1 == m && s.fget F.RUN_STAT_STATE r.2 == 4)).map (fun r => r.2)

/-- Send a message of this module to a module, with the bytes that carry it between modules. Without a route the module
itself answers with STATUS 0x11 (R411, R413). -/
def sendMod (m : Nat) (k : MsgKind) (rsp poison : Bool) (fields : List Nat) (bytes : List Byte) : Eff := rd fun s =>
  match s.routeTo m with
  | some r => if r < 24 then cellsOut r rsp poison m s.module bytes else send r k fields
  | none =>
    match k with
    | .queueEntry => send toVent .writeFault [s.module, fields.getD 2 0, 0x11, 1023, s.tc, 1, fields.headD 0]
    | .elasticReq => send toVent .elasticRsp [s.module, 0x11, fields.getD 1 0]
    | _ => nop

/-- A WRITE_FAULT response to the module that sent a posted write (R413): at most one per flow index and frame, further
faults of the frame counted in the next. -/
def writeFault (m fidx tag status fa : Nat) : Eff := rd fun s =>
  match s.routeTo m with
  | none => nop
  | some r =>
    let port := if r < 24 then r else 0
    let fs := (s.port port).lastFaults
    let out (count : Nat) : Eff :=
      sendMod m .writeFault true false [m, tag, status, fidx, s.tc, count, fa] (rspBytes tag 0x83 status fidx s.tc (natLe 8 fa ++ natLe 2 count))
    match fs.find? (fun x => x.1 == fidx) with
    | some x =>
      let keep (n : Nat) : Eff := onPort port (fun q => { q with lastFaults := fs.map (fun y => if y.1 == fidx then (fidx, s.frame, n) else y) })
      if x.2.1 = s.frame then keep (x.2.2 + 1) else seq [keep 0, out (x.2.2 + 1)]
    | none => seq [onPort port (fun q => { q with lastFaults := fs ++ [(fidx, s.frame, 0)] }), out 1]

end Sys2Proof.Machine
end

