-- ==== Sys2Proof/Machine/Engines.lean ====
section
/-! DEFINITION. What matrix and sparse engines share: descriptors and their checks (R132 to R134, R175, R176), operand
reads, tile arithmetic (R109 to R114), tile timing (R136 to R142, R177, R178), drains, chains, metadata and hashes
(R147 to R153). -/
namespace Sys2Proof.Machine

/-- An engine of a core: an ME, or an SE when `se` is set. -/
structure Eng where
  core : Nat
  se : Bool
  n : Nat
  deriving DecidableEq, Repr

/-- Its number among the engines of its kind. -/
def Eng.key (u : Eng) : Nat := if u.se then u.core * 8 + u.n else u.core * 64 + u.n

/-- Its requester ID and event unit (R264). -/
def Eng.unit (u : Eng) : Nat := if u.se then 64 + u.n else u.n

/-- Its state. -/
def State.eng (s : State) (u : Eng) : EngSt := if u.se then s.se u.key else s.me u.key

/-- Its state changes. -/
def onEng (u : Eng) (f : EngSt → EngSt) : Eff := if u.se then onSe u.key f else onMe u.key f

/-- A field that both kinds have: the ME's, the SE's. -/
def Eng.fld (u : Eng) (me se : Fld) : Fld := if u.se then se else me

/-! Descriptors (R132, R175). -/

/-- The fields of an engine descriptor; `form`, `nnz` and `metaAddr` are an SE's, `quadShape` and `quad` an ME's. -/
structure Desc where
  op : Nat
  quadShape : Bool
  quad : Nat
  form : Nat
  fmtA : Nat
  fmtB : Nat
  m : Nat
  n : Nat
  tag : Nat
  k : Nat
  init : Nat
  drain : Nat
  outFmt : Nat
  nonsat : Bool
  aSrc : Nat
  chainSrc : Nat
  outDest : Nat
  vuSel : Nat
  aAddr : Nat
  bAddr : Nat
  metaAddr : Nat
  scaleA : Nat
  scaleB : Nat
  outAddr : Nat
  stride : Nat
  initAddr : Nat
  chainAddr : Nat
  chainEng : Nat
  chainQuad : Nat
  chainTag : Nat
  outScale : Nat
  nnz : Nat
  deriving DecidableEq, Repr

/-- The fields that 64 bytes spell. -/
def parseDesc (se : Bool) (b : List Byte) : Desc :=
  let at_ (me s n : Nat) : Nat := leAt b (if se then s else me) n
  let shape := leAt b 1 1
  let ctl := leAt b 0xF 1
  let ce := at_ 0x30 0x35 1
  { op := leAt b 0 1, quadShape := !se && bitOf shape 0, quad := if se then 0 else bitsOf shape 1 2, form := shape,
    fmtA := leAt b 2 1, fmtB := leAt b 3 1, m := leAt b 4 1, n := leAt b 5 1, tag := bitsOf (leAt b 6 2) 0 12,
    k := leAt b 8 4, init := leAt b 0xC 1, drain := leAt b 0xD 1, outFmt := leAt b 0xE 1, nonsat := bitOf ctl 0,
    aSrc := bitsOf ctl 1 1, chainSrc := bitsOf ctl 2 2, outDest := bitsOf ctl 4 2, vuSel := bitsOf ctl 6 2,
    aAddr := leAt b 0x10 4, bAddr := leAt b 0x14 4, metaAddr := leAt b 0x18 4, scaleA := at_ 0x18 0x1C 4,
    scaleB := at_ 0x1C 0x20 4, outAddr := at_ 0x20 0x24 4, stride := at_ 0x24 0x28 4, initAddr := at_ 0x28 0x2C 4,
    chainAddr := at_ 0x2C 0x30 4, chainEng := if se then bitsOf ce 0 3 else bitsOf ce 0 6,
    chainQuad := if se then 0 else bitsOf ce 6 2, chainTag := at_ 0x32 0x36 2, outScale := at_ 0x34 0x38 4,
    nnz := leAt b 0x34 1 }

/-- Rows of the shape: 32, 16 in quadrant shape and for an SE. -/
def Desc.rows (d : Desc) (se : Bool) : Nat := if se || d.quadShape then 16 else 32

/-- Columns of the shape's layouts: 32, 16 in quadrant shape. -/
def Desc.cols (d : Desc) : Nat := if d.quadShape then 16 else 32

/-- The row of R109 in which two formats pair. -/
def pairRow (a b : Nat) : Option Nat :=
  if a = 0 ∧ b = 0 then some 1
  else if a ≤ 4 ∧ b ≤ 4 then some 2
  else if a = 5 ∧ b = 5 then some 3
  else if a = 6 ∧ b = 6 then some 4
  else if a = 0xD ∧ b = 0xD then some 5
  else if isMx a && isMx b then some 6
  else if (a = 7 ∨ a = 8) ∧ (b = 7 ∨ b = 8) then some 7
  else none

/-- The pairing's group size (R109, R110). -/
def groupOf (row : Nat) : Nat := if row = 1 then 2 else if row = 5 ∨ row = 6 then 32 else 1

/-- Twice the products per MAC per cycle of an ME (R109). -/
def rate2 (row : Nat) : Nat := if row = 1 ∨ row = 5 then 4 else if row = 3 ∨ row = 4 then 1 else 2

/-- Stored products per cycle of an SE's cell (R172). -/
def lanesOf (row : Nat) : Nat := rate2 row

/-- The accumulator is INT32 (R109 row 7). -/
def Desc.isInt (d : Desc) : Bool := pairRow d.fmtA d.fmtB == some 7

/-- The group size of a descriptor. -/
def Desc.group (d : Desc) : Nat := groupOf ((pairRow d.fmtA d.fmtB).getD 2)

/-- Beat cycles (R130, R172). -/
def Desc.beats (d : Desc) (se : Bool) : Nat :=
  let row := (pairRow d.fmtA d.fmtB).getD 2
  if se then
    let l := lanesOf row
    if d.form = 1 then (d.k + 2 * l - 1) / (2 * l)
    else d.k / 32 * max (fmtBits d.fmtA / 2) ((d.nnz + l - 1) / l)
  else d.k * 2 / rate2 row

/-- Bytes that a run of elements takes. -/
def byteLen (bits n : Nat) : Nat := (bits * n + 7) / 8

/-- An extent starts 64 B aligned and lies within a limit. -/
def fits (addr n limit : Nat) : Bool := addr % 64 == 0 && decide (addr + n ≤ limit)

/-- Some byte of a list that is to be 0 is not. -/
def anySet (bs : List Byte) : Bool := bs.any (fun b => b != 0)

/-- A reserved field or bit is set (R132, R134, R175): reason 0x1. -/
def Desc.reserved (d : Desc) (se : Bool) (b : List Byte) : Bool :=
  let mxOut := d.drain == 2 && isMx d.outFmt
  let addrs := [d.aAddr, d.bAddr, d.scaleA, d.scaleB, d.outAddr, d.initAddr, d.chainAddr, d.outScale] ++ (if se then [d.metaAddr] else [])
  (d.op != 1 && d.op != 2) || decide (leAt b 6 2 ≥ 4096) || decide (d.init > 2) || addrs.any (fun a => decide (a ≥ 2 ^ 28)) ||
  decide (d.chainTag ≥ 4096) || (d.chainSrc != 1 && d.chainTag != 0) || (!mxOut && d.outScale != 0) ||
  (if se then decide (leAt b 0x35 1 ≥ 8) || anySet (b.drop 0x3C)
   else decide (leAt b 1 1 ≥ 8) || (!d.quadShape && d.quad != 0) || anySet ((b.drop 0x31).take 1) || anySet (b.drop 0x38)) ||
  (d.op == 2 && (anySet ((b.drop 1).take 7) || anySet ((b.drop 0xC).take 4) ||
    (if se then anySet ((b.drop 0x14).take 0x10) || anySet (b.drop 0x28) else anySet ((b.drop 0x14).take 0xC) || anySet (b.drop 0x24))))

/-- An address or its extent lies outside (R134, reason 0x7). -/
def Desc.misplaced (d : Desc) (se : Bool) : Bool :=
  let sp := 2 ^ 28
  let wA := if se then 16 else d.cols
  let aLen := byteLen (fmtBits d.fmtA) (d.k * wA)
  let rowsLen := (d.m - 1) * 128 + 4 * d.cols
  let of := if d.drain = 1 then (if d.isInt then 0x10 else 0x0F) else d.outFmt
  !(if d.aSrc = 1 then decide (d.aAddr < 2 ^ 15) && fits d.aAddr aLen 32768 else fits d.aAddr aLen sp) ||
  (if se then
     (if d.form = 1 then !fits d.bAddr (byteLen (fmtBits d.fmtB) (d.k / 2 * d.n)) sp || !fits d.metaAddr (byteLen 4 (d.k / 4 * d.n)) sp
      else !fits d.bAddr (byteLen (fmtBits d.fmtB) (d.k / 32 * d.n * d.nnz)) sp || !fits d.metaAddr (d.k / 32 * d.n * 4) sp)
   else !fits d.bAddr (byteLen (fmtBits d.fmtB) (d.k * d.cols)) sp) ||
  (isMx d.fmtA && !fits d.scaleA (d.k / 32 * wA) sp) || (isMx d.fmtB && !fits d.scaleB (d.k / 32 * d.cols) sp) ||
  (d.init == 1 && !fits d.initAddr rowsLen sp) ||
  (d.chainSrc == 1 && !fits d.chainAddr rowsLen sp) || (d.chainSrc == 3 && decide (d.chainAddr ≥ 64)) ||
  (d.outDest == 1 && decide (d.outAddr ≥ 64)) || (d.outDest == 3 && decide (d.outAddr ≥ 128)) ||
  ((d.drain == 1 || d.drain == 2) &&
    ((d.outDest == 0 && (d.stride % 64 != 0 || !fits d.outAddr ((d.m - 1) * d.stride + byteLen (fmtBits of) d.n) sp)) ||
     (d.drain == 2 && isMx d.outFmt && !fits d.outScale d.m sp)))

/-- The previous MMA of the quadrant leaves a tile that INIT 2 may continue (R134, reason 0x8). -/
def Desc.continues (d p : Desc) : Bool :=
  p.drain == 0 && p.quadShape == d.quadShape && p.m == d.m && p.n == d.n && p.isInt == d.isInt

/-- A drain that R134 (reason 0x9) refuses. -/
def Desc.badDrain (d : Desc) : Bool :=
  decide (d.drain > 2) ||
  (d.drain == 2 &&
    ((isMx d.outFmt && (d.quadShape || d.n != 32 || d.outDest != 0)) || (!d.isInt && d.outFmt == 0x10) ||
     (d.isInt && !(d.outFmt == 0x10 || d.outFmt == 0xF || d.outFmt == 7 || d.outFmt == 8))))

/-- What validation knows of the engine (R134, R144): its number, the presented width of the descriptor's shape, the
descriptor issued before it on its quadrant (none: not checked, as at load), a relocation that left the scratchpad
(R211), whether some descriptor feeds this engine's chain register with a tile of a shape and quadrant. -/
structure DescEnv where
  n : Nat
  width : Nat
  prev : Option (Option Desc)
  relocOut : Bool
  fed : Bool → Nat → Bool

/-- The reason code of the first check that fails, 0 for a valid descriptor (R134, R176). -/
def descReason (se : Bool) (v : DescEnv) (b : List Byte) : Nat :=
  let d := parseDesc se b
  if d.reserved se b then 1
  else if d.op = 2 then
    (if d.k < 64 ∨ d.k > 32768 ∨ d.k % 64 ≠ 0 then 5
     else if v.relocOut || !fits d.aAddr d.k (2 ^ 28) || !fits d.outAddr d.k 32768 then 7 else 0)
  else if d.fmtA > 0xE ∨ d.fmtB > 0xE ∨ (d.drain = 2 ∧ d.outFmt > 0x10) then 2
  else match pairRow d.fmtA d.fmtB with
    | none => 3
    | some row =>
      if d.m < 1 ∨ d.m > d.rows se ∨ d.n < 1 ∨ d.n > v.width then 4
      else if d.k < 1 ∨ d.k > 65536 ∨ d.k % groupOf row ≠ 0 ∨ (se = true ∧ d.form = 1 ∧ d.k % 4 ≠ 0) ∨ (se = true ∧ d.form = 2 ∧ d.k % 32 ≠ 0) then 5
      else if (d.quadShape || se) && d.aSrc != 1 then 6
      else if v.relocOut || d.misplaced se then 7
      else if d.init == 2 && (match v.prev with | some (some p) => !d.continues p | some none => true | none => false) then 8
      else if d.badDrain then 9
      else if (d.chainSrc == 2 && !v.fed d.quadShape d.quad) ||
        (d.outDest == 2 && (d.chainEng == v.n || (!d.quadShape && d.chainQuad != 0))) then 0xA
      else if se = true ∧ ¬ ((d.form = 1 ∧ d.nnz = 0) ∨ (d.form = 2 ∧ 1 ≤ d.nnz ∧ d.nnz ≤ 32)) then 0xB
      else 0

/-- The 64-byte entries of a DESCRIPTORS section. -/
def descEntries : Nat → List Byte → List (List Byte)
  | 0, _ => []
  | n + 1, b => b.take 64 :: descEntries n (b.drop 64)

/-- Some descriptor of a section sends its tile to an engine's chain register (R134, reason 0xA). -/
def fedBy (se : Bool) (sect : List Byte) (n : Nat) (quadShape : Bool) (quad : Nat) : Bool :=
  (descEntries (sect.length / 64) sect).any (fun b =>
    let d := parseDesc se b
    d.op == 1 && d.drain != 0 && d.outDest == 2 && d.chainEng == n && d.quadShape == quadShape && (!quadShape || d.chainQuad == quad))

/-! Operand reads (R117, R129, R130, R168, R169). -/

/-- A byte store as a port reads it: its bytes and its poisoned or lost lines. -/
structure Store where
  rd : Nat → Byte
  bad : Nat → Bool

/-- A core's scratchpad, with lines lost in bank conflicts (R264). -/
def State.spdStore (s : State) (p : Nat) (lost : List Nat) : Store :=
  { rd := fun a => Mem.rd s.spd (spdBase p + a), bad := fun l => NSet.mem s.spdPoison (p * 2 ^ 22 + l) || lost.elem l }

/-- An A buffer. -/
def EngSt.store (e : EngSt) : Store :=
  { rd := fun a => Mem.rd e.abuf a, bad := fun l => NSet.mem e.abufPoison l || NSet.mem e.abufParity l }

/-- Bytes from a store. -/
def Store.bytes (t : Store) (a : Nat) : Nat → List Byte
  | 0 => []
  | n + 1 => t.rd a :: t.bytes (a + 1) n

/-- Element `i` of a packed run of `w`-bit elements, and whether a line it lies in is bad (R100). -/
def Store.elem (t : Store) (base w i : Nat) : Nat × Bool :=
  let lo := base * 8 + w * i
  (bitsOf (leNat (t.bytes (lo / 8) ((lo % 8 + w + 7) / 8))) (lo % 8) w, t.bad (lo / 512) || t.bad ((lo + w - 1) / 512))

/-- An operand element as the arithmetic sees it: the number, whether poison made it +0, the exponent of its block's
scale, whether that scale is NaN (R103, R117). -/
structure Elt where
  num : Num
  bad : Bool
  sc : Int
  nanSc : Bool
  deriving DecidableEq, Repr

/-- +0 in place of a poisoned element. -/
def Elt.poisoned : Elt := ⟨.fin false 0 0, true, 0, false⟩

/-- An element under its scale byte. -/
def eltOf (fmt : Nat) (raw scale : Nat × Bool) : Elt :=
  if raw.2 || (isMx fmt && scale.2) then Elt.poisoned
  else if isMx fmt then
    (if scale.1 = 0xFF then ⟨.nan, false, 0, true⟩ else ⟨decodeElem fmt raw.1, false, (scale.1 : Int) - 127, false⟩)
  else ⟨decodeElem fmt raw.1, false, 0, false⟩

/-- Element (i, k) of A: column-major, `w` rows wide, with its scale at block × w + i (R130, R321). -/
def aElt (d : Desc) (st sp : Store) (w i k : Nat) : Elt :=
  eltOf d.fmtA (st.elem d.aAddr (fmtBits d.fmtA) (k * w + i)) (sp.elem d.scaleA 8 (k / 32 * w + i))

/-- Element (k, j) of a dense B (R130). -/
def bDense (d : Desc) (sp : Store) (k j : Nat) : Elt :=
  eltOf d.fmtB (sp.elem d.bAddr (fmtBits d.fmtB) (k * d.cols + j)) (sp.elem d.scaleB 8 (k / 32 * d.cols + j))

/-- The number of set bits below position `n`. -/
def popBelow (v : Nat) : Nat → Nat
  | 0 => 0
  | n + 1 => popBelow v n + b2n (bitOf v n)

/-- The slot of a compressed tile that stores element (k, j): `none` for a faulty or unreadable group, `some none` for an
element that is not stored (R168 to R170). -/
def slotOf (d : Desc) (sp : Store) (k j : Nat) : Option (Option Nat) :=
  if d.form = 1 then
    let u := k / 4 * d.n + j
    let m := sp.elem d.metaAddr 4 u
    if m.2 || decide (m.1 % 4 ≥ m.1 / 4) then none
    else if k % 4 = m.1 % 4 then some (some (u * 2)) else if k % 4 = m.1 / 4 then some (some (u * 2 + 1)) else some none
  else
    let u := k / 32 * d.n + j
    let m := sp.elem d.metaAddr 32 u
    if m.2 || decide (popBelow m.1 32 > d.nnz) then none
    else if bitOf m.1 (k % 32) then some (some (u * d.nnz + popBelow m.1 (k % 32))) else some none

/-- Element (k, j) of a compressed B: what the dense form holds there (R173); +0 where the metadata is faulty (R170). -/
def bSparse (d : Desc) (sp : Store) (k j : Nat) : Elt :=
  match slotOf d sp k j with
  | none => Elt.poisoned
  | some (some n) => eltOf d.fmtB (sp.elem d.bAddr (fmtBits d.fmtB) n) (sp.elem d.scaleB 8 (k / 32 * d.cols + j))
  | some none => eltOf d.fmtB (0, false) (sp.elem d.scaleB 8 (k / 32 * d.cols + j))

/-! Tile arithmetic (R109 to R114, R143). -/

/-- A zero element. -/
def Elt.isZero (a : Elt) : Bool := match a.num with | .fin _ m _ => m == 0 | _ => false

/-- A finite element. -/
def Elt.finite (a : Elt) : Bool := match a.num with | .fin _ _ _ => true | _ => false

/-- A product that zero-detect gating holds back (R143). -/
def gates (a b : Elt) : Bool := (a.isZero || b.isZero) && a.finite && b.finite && !a.bad && !b.bad && !a.nanSc && !b.nanSc

/-- A group's exact result (R111): the products' exact sum under the two scales. -/
def groupSum (ps : List (Elt × Elt)) : Grp :=
  let k : Int := match ps.find? (fun p => !p.1.bad && !p.2.bad) with | some p => p.1.sc + p.2.sc | none => 0
  (grpSum (ps.map (fun p => (p.1.num, p.2.num)))).scale k

/-- A cell on its way: the accumulator, its flags, products gated. -/
structure Cell1 where
  acc : Nat
  flags : Flags
  gated : Nat
  deriving DecidableEq, Repr

/-- One group enters a cell (R111 step 3). -/
def Cell1.add (isInt_ : Bool) (c : Cell1) (ps : List (Elt × Elt)) : Cell1 :=
  let g := groupSum ps
  let r := if isInt_ then (match g with | .fin d => accAddInt c.acc (d.num * 2 ^ d.exp.toNat) | _ => (c.acc, Flags.none)) else accAdd c.acc g
  { acc := r.1, flags := (c.flags.or r.2).or (Flags.poisonIf (ps.any (fun p => p.1.bad || p.2.bad))),
    gated := c.gated + (ps.filter (fun p => gates p.1 p.2)).length }

/-- The groups of a cell in ascending order along k (R110). -/
def cellRun (isInt_ : Bool) (g : Nat) (a b : Nat → Elt) (k : Nat) (c : Cell1) : Cell1 :=
  (List.range (k / g)).foldl (fun c n => c.add isInt_ ((List.range g).map (fun t => (a (n * g + t), b (n * g + t))))) c

/-- The flags that an accumulator's first value sets (R116). -/
def startFlags (isInt_ : Bool) (v : Nat) : Flags :=
  if isInt_ then Flags.none else match f32 v with | .nan => Flags.justNan | .inf _ => Flags.justInf | _ => Flags.none

/-- The first value of a cell under INIT (R132, R140): +0, the tile at INIT_ADDR in rows below M, or the bank's. -/
def cellStart (d : Desc) (sp : Store) (bank : List (Nat × Nat)) (r0 c0 i j : Nat) : Cell1 :=
  if d.init = 2 then { acc := NMap.get 0 bank ((r0 + i) * 32 + c0 + j), flags := Flags.none, gated := 0 }
  else if d.init = 1 ∧ i < d.m then
    let v := sp.elem (d.initAddr + i * 128) 32 j
    { acc := if v.2 then 0 else v.1, flags := (startFlags d.isInt (if v.2 then 0 else v.1)).or (Flags.poisonIf v.2), gated := 0 }
  else { acc := 0, flags := Flags.none, gated := 0 }

/-- Every cell of a tile: key, value. Rows of the whole shape take part, columns below N (R130, R151). -/
def tileRun (se : Bool) (d : Desc) (st sp : Store) (bank : List (Nat × Nat)) (r0 c0 : Nat) : List (Nat × Cell1) :=
  let w := if se then 16 else d.cols
  (List.range (d.rows se)).flatMap (fun i => (List.range d.n).map (fun j =>
    ((r0 + i) * 32 + c0 + j,
     cellRun d.isInt d.group (aElt d st sp w i) (fun k => if se then bSparse d sp k j else bDense d sp k j) d.k
       (cellStart d sp bank r0 c0 i j))))

/-! Tile timing (R136 to R142, R177, R178). Schedule cycles stand for frame cycles in every phase: a flask's SC 0 falls
on a frame boundary and a bubble takes 128 cycles. -/

/-- The first row and column of a tile in the array. -/
def Desc.origin (d : Desc) : Nat × Nat := if d.quadShape then (d.quad / 2 * 16, d.quad % 2 * 16) else (0, 0)

/-- The least start at or after a cycle that the fetch phase allows. -/
def alignS (d : Desc) (lo : Nat) : Nat :=
  if d.quadShape then lo + (d.quad + 1 + 4 - lo % 4) % 4 else lo + (1 + 2 - lo % 2) % 2

/-- The least cycle at or after one whose drain-port lanes serve the tile (R138). -/
def ownLane (d : Desc) (c : Nat) : Nat := if d.quadShape then c + (c + d.quad / 2) % 2 else c

/-- The cycle in which row `i` of a tile that ends its beats at `e` drains (step 6). -/
def drainCycle (se : Bool) (d : Desc) (e i : Nat) : Nat :=
  if se then e + 37 + i else if d.quadShape then ownLane d (e + 19) + 2 * i else e + 35 + i

/-- The cycle in which a bank's row is free again: its drain, or its step 9 for a tile that was held (R140). -/
def freeCycle (se : Bool) (d : Desc) (mark i : Nat) : Nat := drainCycle se d (mark / 2) i + (if mark % 2 = 1 then 3 else 0)

/-- The step 9 cycle of the last row of a tile (R137, R177). -/
def lastIssue (se : Bool) (d : Desc) (e : Nat) : Nat := drainCycle se d e (d.rows se - 1) + 3

/-- The cycles in which INIT rows enter (R140). -/
def initRows (se : Bool) (d : Desc) (issued mark : Nat) : List Nat :=
  if d.init = 1 then
    ((List.range d.m).foldl (fun (acc : List Nat × Nat) i =>
      let c := ownLane d (max (max (issued + 2) (if mark = 0 then 0 else freeCycle se d mark i + 1)) acc.2)
      (acc.1 ++ [c], c + 1)) ([], 0)).1
  else []

/-- The cycle in which an engine fetches operands for a tile in flight, or reads INIT or running-sum rows for it: no load
cycle (R142). -/
def Tile.reads (se : Bool) (t : Tile) (c : Nat) : Bool :=
  let d := parseDesc se t.desc
  let f := t.start - 1
  (decide (f ≤ c) && decide (c < f + t.beats) && (c - f) % (if d.quadShape then 4 else 2) == 0) || t.initAt.elem (c + 1) ||
  (d.chainSrc == 1 && (List.range d.m).any (fun i => drainCycle se d (t.start + t.beats) i + 1 == c))

/-- The last of `n` load cycles from a cycle on. -/
def loadCycles (busy : Nat → Bool) : Nat → Nat → Nat → Nat
  | 0, c, _ => c
  | fuel + 1, c, n =>
    if busy c then loadCycles busy fuel (c + 1) n
    else if n ≤ 1 then c else loadCycles busy fuel (c + 1) (n - 1)

/-- The start cycle of a tile and the cycles held for the shape and for the bank (R136, R139 to R142). -/
def EngSt.startCycle (e : EngSt) (se : Bool) (d : Desc) (issued bank : Nat) (initAt : List Nat) : Nat × Nat × Nat :=
  let free := alignS d (max (issued + 2) (NMap.get 0 e.nextStart d.quad))
  let shaped := if !se && e.shape != b2n d.quadShape && e.allDrained != 0 then alignS d (max free (e.allDrained + 3)) else free
  let mark := NMap.get 0 e.bankFree (d.quad * 2 + bank)
  let bankLo := if mark = 0 then 0 else (List.range (d.rows se)).foldl (fun m i => max m (freeCycle se d mark i + 1 - i)) 0
  let initLo := initAt.foldl (fun m c => max m (c + 2)) 0
  let loadLo := if !se && !d.quadShape && d.aSrc == 0 && decide (issued ≤ e.loadEnd) then e.loadEnd + 2 else 0
  let st := alignS d (max (max shaped bankLo) (max initLo loadLo))
  (st, shaped - free, st - shaped)

/-! Engine status. -/

/-- A mask over quadrants: those of a list of tiles, all four for a full-shape one. -/
def quadMask (ts : List Tile) : Nat :=
  (List.range 4).foldl (fun m q => if ts.any (fun t => !(parseDesc false t.desc).quadShape || t.quad == q) then m + 2 ^ q else m) 0

/-- ME_STAT and SE_STAT follow the engine (R159, R194). -/
def engStat (u : Eng) : Eff := rd fun s =>
  let e := s.eng u
  if u.se then
    upd [.fld F.SE_STAT_BUSY u.key (b2n !e.tiles.isEmpty), .fld F.SE_STAT_BANK u.key (NMap.get 0 e.lastBank 0),
      .fld F.SE_STAT_HELD u.key (b2n !e.held.isEmpty)]
  else
    upd [.fld F.ME_STAT_BUSY u.key (quadMask e.tiles), .fld F.ME_STAT_SHAPE u.key e.shape,
      .fld F.ME_STAT_BANK u.key ((List.range 4).foldl (fun m q => m + NMap.get 0 e.lastBank q * 2 ^ q) 0),
      .fld F.ME_STAT_HELD u.key (quadMask e.held)]

/-- The quadrants a descriptor occupies. -/
def Desc.quads (d : Desc) : List Nat := if d.quadShape then [d.quad] else [0, 1, 2, 3]

/-- A value for each quadrant a descriptor occupies. -/
def setQuads (d : Desc) (m : List (Nat × Nat)) (v : Nat) : List (Nat × Nat) := d.quads.foldl (fun m q => NMap.put 0 m q v) m

/-- A bank's contents. -/
def EngSt.bank (e : EngSt) (b : Nat) : List (Nat × Nat) := if b = 0 then e.bank0 else e.bank1

/-- A bank takes new contents. -/
def EngSt.setBank (e : EngSt) (b : Nat) (m : List (Nat × Nat)) : EngSt := if b = 0 then { e with bank0 := m } else { e with bank1 := m }

/-- A tile shares quadrants with a descriptor. -/
def Tile.meets (t : Tile) (se : Bool) (d : Desc) : Bool :=
  !d.quadShape || !(parseDesc se t.desc).quadShape || t.quad == d.quad

/-! Errors (R149, R152, R264). -/

/-- A scheduled access lost its bank cycle (R264, R297). -/
def spdConflict (p winner loser : Nat) : Eff := rd fun s =>
  seq [fsat F.SPD_CONFLICT_COUNT p 1, fset F.SPD_CONFLICT_WINNER p winner, fset F.SPD_CONFLICT_LOSER p loser,
    fset F.SPD_CONFLICT_SEEN p 1, raise 0x0304 1 (s.who p loser) [(1, winner), (1, loser)]]

/-- What an operation's storage shows as it runs: ECC findings of the lines it reads and lost bank cycles. -/
def engFaults (u : Eng) (f : EngFaults) : Eff :=
  seq [each f.conflicts (fun c => spdConflict u.core c.2 u.unit), each f.corrected (fun l => spdCorrected u.core l false),
    each f.uncorrected (fun l => spdUncorrected u.core l false)]

/-- Parity errors of an engine (R152, R191). -/
def engParity (u : Eng) (n : Nat) : Eff := rd fun s =>
  when (decide (n > 0))
    (seq [fsat (u.fld F.ME_ERR_PARITY F.SE_ERR_PARITY) u.key n, fset (u.fld F.ME_ERR_PARITY_SEEN F.SE_ERR_PARITY_SEEN) u.key 1,
      raise (if u.se then 0x0206 else 0x0203) 1 (s.who u.core u.unit) []])

/-- A chain row missing or doubled (R149, R178): the bit and the culprit report. -/
def chainLate (u : Eng) (d : Desc) : Eff := rd fun s =>
  let own := (s.module, orFF (s.logOf u.core))
  let (cul, flow, slot) :=
    if d.chainSrc = 3 then
      match s.feeder u.core d.chainAddr with
      | some e => (s.culpritOf e, e.flow, e.slot)
      | none => (own, 0, 0)
    else (own, 0, 0)
  seq [fset (u.fld F.ME_ERR_CHAIN_LATE F.SE_ERR_CHAIN_LATE) u.key 1,
    culpritReport (if u.se then 0x0205 else 0x0202) cul.1 cul.2 (orFF (s.flaskOf u.core)) (u.core, u.unit) 0 0 0 flow slot]

/-! Starting a tile. -/

/-- The descriptor that starts next on a quadrant: the first queued one of its shape and quadrant, no descriptor of
another shape before it (R141, R214). -/
def nextQueued (se : Bool) (quad : Nat) : List Queued → Option Queued
  | [] => none
  | c :: t =>
    let d := parseDesc se c.desc
    if d.quadShape then
      (if d.quad = quad then some c
       else (nextQueued se quad t).filter (fun x => (parseDesc se x.desc).quadShape))
    else if quad = 0 then some c else none

/-- An engine can start a queued descriptor now: its bank is not in flight, its shape is in force or nothing is in flight,
no earlier LOAD_A still waits, and for INIT 2 the tile is held (R134, R140 to R142). -/
def EngSt.canStart (e : EngSt) (se : Bool) (c : Queued) (bank : Nat) : Bool :=
  let d := parseDesc se c.desc
  !e.tiles.any (fun t => t.meets se d && t.bank == bank) && (se || e.shape == b2n d.quadShape || e.tiles.isEmpty) &&
  (se || d.quadShape || d.aSrc == 1 || !e.loads.any (fun l => decide (l.issued < c.issued))) &&
  (d.init != 2 || e.held.any (fun t => t.meets se d && t.bank == bank))

/-- The state after a tile has begun: its cells computed in its bank, its times fixed. -/
def EngSt.begin (e : EngSt) (se : Bool) (c : Queued) (bank : Nat) (sp : Store) : EngSt × Tile × Nat × Nat × Nat :=
  let d := parseDesc se c.desc
  let initAt := initRows se d c.issued (NMap.get 0 e.bankFree (d.quad * 2 + bank))
  let st := e.startCycle se d c.issued bank initAt
  let kc := d.beats se
  let cells := tileRun se d (if d.aSrc = 1 then e.store else sp) sp (e.bank bank) d.origin.1 d.origin.2
  let was := match e.held.find? (fun t => t.meets se d && t.bank == bank) with | some t => t.flags | none => Flags.none
  let flags := cells.foldl (fun f x => f.or x.2.flags) (if d.init = 2 then was else Flags.none)
  let t : Tile := { desc := c.desc, quad := d.quad, bank, start := st.1, beats := kc, initAt, flags }
  let e' := e.setBank bank (cells.foldl (fun m x => NMap.put 0 m x.1 x.2.acc) (e.bank bank))
  ({ e' with
      queue := e.queue.erase c, tiles := e.tiles ++ [t],
      held := e.held.filter (fun h => !(h.meets se d && h.bank == bank)), lastBank := setQuads d e.lastBank bank,
      nextStart := setQuads d e.nextStart (st.1 + kc), shape := if se then e.shape else b2n d.quadShape,
      bankFree := if se || e.shape == b2n d.quadShape then e.bankFree else [] },
   t, cells.foldl (fun n x => n + x.2.gated) 0, st.2.1, st.2.2)

/-- The bank a descriptor fills: the one of its predecessor for INIT 2, else the other (R132, R139). -/
def EngSt.nextBank (e : EngSt) (d : Desc) : Nat :=
  let last := NMap.get 1 e.lastBank d.quad
  if d.init = 2 then last else 1 - last

/-- A LOAD_A moves its lines (R142). -/
def loadAStart (u : Eng) : Eff := rd fun s =>
  let e := s.eng u
  match e.loads with
  | [] => nop
  | l :: ls =>
    let d := parseDesc u.se l.desc
    let waits := e.queue.any (fun q =>
      let x := parseDesc u.se q.desc
      !u.se && !x.quadShape && x.aSrc == 0 && decide (q.issued < l.issued))
    let lastA := e.tiles.foldl (fun m t =>
      let x := parseDesc u.se t.desc
      if u.se || x.quadShape || x.aSrc == 1 then m else max m (t.start - 1 + (t.beats + 1) / 2 * 2 - 1)) 0
    let first := max (l.issued + 2) (max (if e.loadEnd = 0 then 0 else e.loadEnd + 1) lastA)
    let n := d.k / 64
    let last := loadCycles (fun c => e.tiles.any (fun t => t.reads u.se c)) (2 ^ 20) first n
    let lines := (List.range n).map (fun i => (d.outAddr / 64 + i, NSet.mem s.spdPoison (u.core * 2 ^ 22 + d.aAddr / 64 + i)))
    when (s.scheduled u.core && !waits)
      (onEng u (fun e => { e with
        loads := ls, loadEnd := last, abuf := Mem.wrN e.abuf d.outAddr (s.spdRd u.core d.aAddr d.k),
        abufPoison := lines.foldl (fun m x => NSet.set m x.1 x.2) e.abufPoison,
        abufParity := lines.foldl (fun m x => NSet.del m x.1) e.abufParity }))

/-! Drains (R137, R147 to R153). -/

/-- A row of the incoming running sum: values by column, flags, missing. -/
structure InRow where
  vals : Nat → Nat
  flags : Flags
  late : Bool

/-- No running sum at a row: +0. -/
def InRow.zero (late : Bool) : InRow := { vals := fun _ => 0, flags := Flags.poisonIf late, late }

/-- Row `i` of the incoming running sum (R132, R148, R149, R363): a poisoned granule or beat enters as +0. -/
def inRow (se : Bool) (d : Desc) (t : Tile) (e : EngSt) (arr : List (Nat × BufRow)) (sp : Store) (i : Nat) : InRow :=
  if d.chainSrc = 1 then
    { vals := fun j => let v := sp.elem (d.chainAddr + i * 128) 32 j; if v.2 then 0 else v.1,
      flags := Flags.poisonIf ((List.range d.n).any (fun j => (sp.elem (d.chainAddr + i * 128) 32 j).2)), late := false }
  else if d.chainSrc = 2 then
    match (assoc [] e.chain d.quad).find? (fun r => r.row == i && decide (r.present ≤ drainCycle se d (t.start + t.beats) i + 1)) with
    | some r => { vals := fun j => (r.vals[j]?).getD 0, flags := r.flags, late := false }
    | none => InRow.zero true
  else
    match arr.find? (fun r => r.1 == (d.chainAddr + i) % 64 && r.2.valid) with
    | some r =>
      let bad := bitOf r.2.flags 4
      { vals := fun j => if bad then 0 else leAt r.2.bytes (4 * j) 4, flags := Flags.ofBits r.2.flags, late := false }
    | none => InRow.zero true

/-- One element through steps 6 and 7: the local value, struck or not, added to the running sum (R120, R152). -/
def chainElt (d : Desc) (local_ : Nat) (inc : Option Nat) : Nat × Flags :=
  match inc with
  | none => (local_, Flags.none)
  | some r => if d.isInt then accAddInt r (toInt 32 local_) else
    let v := chainAdd r local_
    (v.1, v.2.or (startFlags false r))

/-- Step 8: the element in the format it is written in (R115). -/
def drainElt (d : Desc) (v : Nat) : Nat × Flags :=
  if d.drain = 1 then (v, Flags.none)
  else if d.isInt then (if d.outFmt = 0x10 then (v, Flags.none) else convertTo d.outFmt d.nonsat (numOfInt (toInt 32 v)))
  else convertTo d.outFmt d.nonsat (f32 v)

/-- A drained row: the elements written, the scale byte of an MX row, its flags. -/
structure OutRow where
  vals : List Nat
  scale : Option Nat
  flags : Flags
  deriving DecidableEq, Repr

/-- Row `i` of a tile through steps 6 to 8. `struck` are the cells whose parity fails. -/
def outRow (se : Bool) (d : Desc) (t : Tile) (e : EngSt) (arr : List (Nat × BufRow)) (sp : Store) (struck : List Nat) (i : Nat) : OutRow × Bool :=
  let inc := if d.chainSrc = 0 then none else some (inRow se d t e arr sp i)
  let cells := (List.range d.n).map (fun j =>
    let k := (d.origin.1 + i) * 32 + d.origin.2 + j
    let v := if struck.elem k then 0 else NMap.get 0 (e.bank t.bank) k
    chainElt d v (inc.map (fun r => r.vals j)))
  let fl := cells.foldl (fun f c => f.or c.2) (match inc with | some r => r.flags | none => Flags.none)
  let late := match inc with | some r => r.late | none => false
  if d.drain = 2 ∧ isMx d.outFmt = true then
    let q := mxQuant d.outFmt (cells.map (fun c => f32 c.1))
    ({ vals := q.2.1, scale := some q.1, flags := fl.or q.2.2 }, late)
  else
    let o := cells.map (fun c => drainElt d c.1)
    ({ vals := o.map (fun x => x.1), scale := none, flags := o.foldl (fun f x => f.or x.2) fl }, late)

/-- The width in bits of the elements a tile writes. -/
def Desc.outBits (d : Desc) : Nat := if d.drain = 1 then 32 else fmtBits d.outFmt

/-- A packed run of elements as a number (R100). -/
def packNum (w : Nat) : List Nat → Nat
  | [] => 0
  | v :: t => v % 2 ^ w + 2 ^ w * packNum w t

/-- A packed run over the bytes it replaces: the bits of its last byte that it does not reach keep their value. -/
def packOver (w : Nat) (vals : List Nat) (old : Nat → Byte) : List Byte :=
  let bits := w * vals.length
  let n := bits / 8
  let v := packNum w vals
  natLe n v ++ (if bits % 8 = 0 then [] else [BitVec.ofNat 8 (v / 2 ^ (8 * n) + (old n).toNat / 2 ^ (bits % 8) * 2 ^ (bits % 8))])

/-- A scheduled scratchpad write, line by line; a line that lost its bank cycle is not written and is poisoned (R264). -/
def spdWrLost (p off : Nat) (bs : List Byte) (poison : Bool) (lost : List Nat) : Eff :=
  each (touched 64 off bs.length) (fun l =>
    let lo := max off (l * 64)
    let part := (bs.drop (lo - off)).take (min (off + bs.length) (l * 64 + 64) - lo)
    either (lost.elem l) (spdMark p l) (spdWr p lo part poison))

/-- A row laid over the 128 bytes of a buffer entry: columns that are not written keep their bytes. -/
def rowOver (w : Nat) (vals : List Nat) (old : List Byte) : List Byte :=
  let base := if old.isEmpty then List.replicate 128 0 else old
  let bs := packOver w vals (fun n => (base[n]?).getD 0)
  bs ++ base.drop bs.length

/-- VU_STAT.INGRESS_ROWS follows the ingress buffer (R201). -/
def ingressRows (v : Nat) : Eff := rd fun s =>
  fset F.VU_STAT_INGRESS_ROWS v (((s.vu v).ingress.filter (fun r => r.2.valid)).length)

/-- A row reaches an ingress slot of a vector unit (R181): discarded, the held row marked (bit 5 of its flags), while the
slot holds an unconsumed one. -/
def ingressRow (p vu slot : Nat) (w : Nat) (vals : List Nat) (fl : Flags) : Eff := rd fun s =>
  let v := p * 4 + vu
  let was := assoc ⟨[], 0, false⟩ (s.vu v).ingress slot
  either was.valid
    (seq [onVu v (fun x => { x with ingress := NMap.put ⟨[], 0, false⟩ x.ingress slot { was with flags := setBit was.flags 5 } }),
      fset F.VU_ERR_INGRESS_FAULT v 1, raise 0x020B 1 (s.who p (72 + vu)) []])
    (seq [onVu v (fun x => { x with ingress := NMap.put ⟨[], 0, false⟩ x.ingress slot ⟨rowOver w vals was.bytes, fl.bits, true⟩ }), ingressRows v])

/-- A row reaches the chain register of an engine of the same kind, 2 cycles after step 9 (R148): a row of an index that
is still unconsumed is discarded and poisons the receiving tile (R149). -/
def chainRow (u : Eng) (quad i at_ : Nat) (vals : List Nat) (fl : Flags) : Eff := rd fun s =>
  let rows := assoc [] (s.eng u).chain quad
  either (rows.any (fun r => r.row == i))
    (seq [onEng u (fun e => { e with chainPoison := NSet.add e.chainPoison quad }),
      chainLate u { parseDesc u.se [] with chainSrc := 2 }])
    (onEng u (fun e => { e with chain := NMap.put [] e.chain quad (assoc [] e.chain quad ++ [{ row := i, present := at_, vals, flags := fl }]) }))

/-- Step 9 for a row. -/
def issueRow (u : Eng) (d : Desc) (t : Tile) (lost : List Nat) (fl : Flags) (i : Nat) (r : OutRow) : Eff := rd fun s =>
  match d.outDest with
  | 0 =>
    let a := d.outAddr + i * d.stride
    spdWrLost u.core a (packOver d.outBits r.vals (fun n => Mem.rd s.spd (spdBase u.core + a + n))) fl.poison lost
  | 1 =>
    let n := (d.outAddr + i) % 64
    let was := assoc ⟨[], 0, false⟩ (s.core u.core).sprOut n
    onCore u.core (fun c => { c with sprOut := NMap.put ⟨[], 0, false⟩ c.sprOut n ⟨rowOver d.outBits r.vals was.bytes, fl.bits + 256 * i, true⟩ })
  | 2 => chainRow { u with n := d.chainEng } d.chainQuad i (drainCycle u.se d (t.start + t.beats) i + 5) r.vals fl
  | _ => ingressRow u.core d.vuSel ((d.outAddr + i) % 128) d.outBits r.vals fl

/-- The tile metadata entry of an operation (R150, R179). -/
def metaEntry (fl : Flags) (tag frame n quad : Nat) (held : Bool) (unit : Nat) : Nat :=
  fl.bits + tag * 2 ^ 8 + frame % 65536 * 2 ^ 24 + n * 2 ^ 40 + quad * 2 ^ 46 + b2n held * 2 ^ 48 + unit * 2 ^ 49

/-- A tile's entry is written, with the sticky flags (R150, R160, R195). -/
def writeMeta (p tag : Nat) (entry : Nat) : Eff := onCore p (fun c => { c with tmeta := NMap.put 0 c.tmeta tag entry })

/-- The sticky flag register of a unit takes the flags of a tile. -/
def orFlags (fs : List Fld) (i : Nat) (fl : Flags) : Eff :=
  each (fs.zip [fl.ovf, fl.nan, fl.inf, fl.csat, fl.poison]) (fun x => when x.2 (fset x.1 i 1))

/-- The five flag fields of an engine. -/
def Eng.flagFields (u : Eng) : List Fld :=
  if u.se then [F.SE_FLAGS_OVF, F.SE_FLAGS_NAN, F.SE_FLAGS_INF, F.SE_FLAGS_CSAT, F.SE_FLAGS_POISON]
  else [F.ME_FLAGS_OVF, F.ME_FLAGS_NAN, F.ME_FLAGS_INF, F.ME_FLAGS_CSAT, F.ME_FLAGS_POISON]

/-- What ends every tile: its metadata entry, sticky flags, the tile count (R150, R160, R161). -/
def tileEnd (u : Eng) (d : Desc) (fl : Flags) : Eff := rd fun s =>
  seq [writeMeta u.core d.tag (metaEntry fl d.tag s.frame u.n d.quad (d.drain == 0) (b2n u.se)),
    orFlags u.flagFields u.key fl, fadd (u.fld F.ME_TILES_COUNT F.SE_TILES_COUNT) u.key 1,
    when (!u.se) (seq [fset F.ME_LAST_TAG_TAG u.key d.tag, fset F.ME_LAST_TAG_QUAD u.key d.quad]),
    engStat u]

/-- The engine after a tile has left its bank: its end marks the bank and the last drained row. -/
def EngSt.leave (e : EngSt) (se : Bool) (d : Desc) (t : Tile) : EngSt :=
  let fin := t.start + t.beats
  { e with
    tiles := e.tiles.erase t,
    held := if d.drain = 0 then e.held ++ [t] else e.held,
    bankFree := d.quads.foldl (fun m q => NMap.put 0 m (q * 2 + t.bank) (fin * 2 + b2n (d.drain == 0))) e.bankFree,
    allDrained := max e.allDrained (lastIssue se d fin) }

/-- The hash of a drained tile (R153): its values, four bytes each, then the flags byte. -/
def tileHash (rows : List OutRow) (fl : Flags) : Nat :=
  crc64 (rows.flatMap (fun r => r.vals.flatMap (natLe 4)) ++ natLe 1 fl.bits)

/-- A tile drains (R137, R138, R177), or is held (DRAIN 0). -/
def drainTile (u : Eng) (t : Tile) (f : EngFaults) : Eff := rd fun s =>
  let d := parseDesc u.se t.desc
  let e := s.eng u
  let lost := f.conflicts.map (fun c => c.1)
  if d.drain = 0 then seq [onEng u (fun e => e.leave u.se d t), tileEnd u d t.flags]
  else
    let sp := s.spdStore u.core lost
    let struck := f.parity.filter (fun k => decide (k / 32 < d.origin.1 + d.m) && decide (d.origin.1 ≤ k / 32) &&
      decide (k % 32 < d.origin.2 + d.n) && decide (d.origin.2 ≤ k % 32))
    let rs := (List.range d.m).map (outRow u.se d t e (s.core u.core).sprArr sp struck)
    let rows := rs.map (fun r => r.1)
    let late := rs.any (fun r => r.2)
    let fl := (rows.foldl (fun f r => f.or r.flags) t.flags).or
      (Flags.poisonIf (!struck.isEmpty || (d.chainSrc == 2 && NSet.mem e.chainPoison d.quad)))
    let fl := if d.chainSrc = 1 then fl.or (Flags.ofBits (NMap.get 0 (s.core u.core).tmeta d.chainTag)) else fl
    seq [
      onEng u (fun e => { e.leave u.se d t with
        chain := if d.chainSrc = 2 then
            NMap.put [] e.chain d.quad ((assoc [] e.chain d.quad).filter (fun r =>
              decide (r.row ≥ d.m) || decide (r.present > drainCycle u.se d (t.start + t.beats) r.row + 1)))
          else e.chain,
        chainPoison := if d.chainSrc = 2 then NSet.del e.chainPoison d.quad else e.chainPoison }),
      when (d.chainSrc == 3) (onCore u.core (fun c => { c with sprArr := c.sprArr.map (fun r =>
        if (List.range d.m).any (fun i => (d.chainAddr + i) % 64 == r.1) then (r.1, { r.2 with valid := false }) else r) })),
      each ((List.range d.m).zip rows) (fun r => issueRow u d t lost fl r.1 r.2),
      when (d.drain == 2 && isMx d.outFmt)
        (spdWrLost u.core d.outScale (rows.map (fun r => BitVec.ofNat 8 (r.scale.getD 0))) fl.poison lost),
      engParity u struck.length, when late (chainLate u d),
      fset (u.fld F.ME_HASH_HASH F.SE_HASH_HASH) u.key (tileHash rows fl), tileEnd u d fl]

/-- The tile in flight on a quadrant that drains next. -/
def EngSt.drains (e : EngSt) (se : Bool) (quad : Nat) : Option Tile :=
  e.tiles.find? (fun t => t.quad == quad && ((parseDesc se t.desc).quadShape || quad == 0))

/-- A drain command on an engine. -/
def engDrain (u : Eng) (quad : Nat) (f : EngFaults) : Eff :=
  seq [engFaults u f, rd fun s =>
    match (s.eng u).drains u.se quad with
    | some t => when (s.scheduled u.core) (drainTile u t f)
    | none => nop]

/-- A start command on an engine: lines of the A buffer struck by parity first, then the tile. `after` is what the kind
adds, from the descriptor, the operand store and the products gated. -/
def engStart (u : Eng) (quad : Nat) (f : EngFaults) (after : Desc → Store → Nat → Eff) : Eff :=
  seq [engFaults u f,
    rd fun s =>
      let e := s.eng u
      match nextQueued u.se quad e.queue with
      | none => nop
      | some c =>
        let d := parseDesc u.se c.desc
        let bank := e.nextBank d
        let hit := f.abufParity.filter (fun l => !NSet.mem e.abufParity l)
        when (s.scheduled u.core && e.canStart u.se c bank)
          (seq [
            onEng u (fun e => { e with abufParity := hit.foldl NSet.add e.abufParity }), engParity u hit.length,
            rd fun s =>
              let sp := s.spdStore u.core (f.conflicts.map (fun x => x.1))
              let r := (s.eng u).begin u.se c bank sp
              seq [onEng u (fun _ => r.1), fsat (u.fld F.ME_STALL_SWAP F.SE_STALL_SWAP) u.key r.2.2.2.2,
                when (!u.se) (fsat F.ME_STALL_SHAPE u.key r.2.2.2.1), after d sp r.2.2.1, engStat u]])]

/-! Issue (R135, R211, R214). -/

/-- The width an engine presents to a descriptor (R144). -/
def State.presented (s : State) (u : Eng) (d : Desc) : Nat :=
  if u.se then 32
  else if d.quadShape then (if bitOf (s.fget F.ME_CAP_QUAD_NARROW u.key) d.quad then 15 else 16)
  else s.fget F.ME_CAP_WIDTH u.key

/-- Room for a descriptor in its queue (R214). -/
def EngSt.accepts (e : EngSt) (se : Bool) (b : List Byte) : Bool :=
  let d := parseDesc se b
  if d.op = 2 then decide (e.loads.length < 4)
  else decide ((e.queue.filter (fun q =>
    let x := parseDesc se q.desc
    x.quadShape == d.quadShape && x.quad == d.quad)).length < 4)

/-- A descriptor is issued to an engine (R135, R176, R214): a full queue, a failing descriptor, or a place in the queue. -/
def engIssue (u : Eng) (b : List Byte) (relocOut : Bool) (overflow : Eff) : Eff := rd fun s =>
  let e := s.eng u
  let d := parseDesc u.se b
  let sect := s.coreSect u.core 3 (s.fget F.CORE_SEQ_TEMPER u.core)
  let r := descReason u.se
    { n := u.n, width := s.presented u d, prev := some ((e.lastDesc.find? (fun x => x.1 == d.quad)).map (fun x => parseDesc u.se x.2)),
      relocOut, fed := fedBy u.se sect u.n } b
  if !e.accepts u.se b then overflow
  else if r ≠ 0 then
    seq [fset (u.fld F.ME_ERR_OP_INVALID F.SE_ERR_OP_INVALID) u.key 1, fset (u.fld F.ME_ERR_LAST_REASON F.SE_ERR_LAST_REASON) u.key r,
      containCore u.core (if u.se then 0x0204 else 0x0201) u.unit [(1, r)]]
  else if d.op = 2 then onEng u (fun e => { e with loads := e.loads ++ [{ desc := b, issued := s.sc u.core }] })
  else onEng u (fun e => { e with
    queue := e.queue ++ [{ desc := b, issued := s.sc u.core }],
    lastDesc := d.quads.foldl (fun m q => (m.filter (fun x => x.1 != q)) ++ [(q, b)]) e.lastDesc })

end Sys2Proof.Machine
end

