-- ==== Sys2Proof/Machine/Host.lean ====
section
/-! DEFINITION. Host-kind queues, event rings and the host ports (R445 to R471): shared operations and the commands of the
chapter. -/
namespace Sys2Proof.Machine

/-! Queue state (R449 to R451). -/

/-- A queue's state word (R451): 0 UNBOUND, 1 DISABLED, 2 ENABLED, 3 DISABLING, 4 FAULT. -/
def State.qState (s : State) (q : Nat) : Nat := s.fget F.QUEUE_STAT_STATE q

/-- The queue has a host kind. -/
def QueueSt.isHost (x : QueueSt) : Bool := x.kind == .hostSubmit || x.kind == .hostPost

/-- A difference of 16-bit counters (R450). -/
def sub16 (a b : Nat) : Nat := (a + 65536 - b % 65536) % 65536

/-- The live level (R450). -/
def QueueSt.live (x : QueueSt) : Nat :=
  match x.kind with
  | .hostSubmit => sub16 x.tail x.popped
  | .hostPost => sub16 x.written x.head
  | _ => 0

/-- Entries in the ring. -/
def QueueSt.depth (x : QueueSt) : Nat := 2 ^ x.depthLog2

/-- Entries the shadow of a HOST_SUBMIT queue holds (R449). -/
def QueueSt.shadowSize (x : QueueSt) : Nat := 2 ^ bitsOf x.hostParam 0 3

/-- The scratchpad address of entry n in the shadow (R449, log entry 120). -/
def QueueSt.shadowAddr (x : QueueSt) (n : Nat) : Nat := (bitsOf x.hostParam 6 22 + n % x.shadowSize) * 64

/-- A token queue (R448). -/
def QueueSt.isToken (x : QueueSt) : Bool := bitOf x.hostParam 30

/-- The port of a queue (R460). -/
def State.qPort (s : State) (q : Nat) : Nat := s.fget F.QUEUE_CTL_PORT q

/-- The physical core of a queue ID. -/
def State.qPhys (s : State) (q : Nat) : Option Nat := s.physOf (q / 8192)

/-- The event source of a queue. -/
def State.qWho (s : State) (q unit : Nat) : Who := match s.qPhys q with | some p => s.who p unit | none => nobody

/-- The watermark fires when it is armed and the live level has reached LEVEL (R454). -/
def watermark (q : Nat) : Eff := rd fun s =>
  let lv := s.fget F.QUEUE_WM_LEVEL q
  let n := (s.queue q).live
  when (decide (lv ≠ 0) && !s.flag F.QUEUE_WM_HIT q && decide (lv ≤ n))
    (seq [fset F.QUEUE_WM_HIT q 1, fadd F.QUEUE_WM_EVENTS q 1,
      raise 0x0701 0 (s.qWho q 0xFE) [(4, q), (2, lv), (2, n)]])

/-- The page's read-only words follow the counters (R461, R463), and the watermark is tested. -/
def queueSync (q : Nat) : Eff := rd fun s =>
  let x := s.queue q
  seq [fset F.QUEUE_STAT_DEV_COUNT q (match x.kind with | .hostSubmit => x.fetched | _ => x.written),
    fset F.QUEUE_LEVEL_LIVE q x.live, fmax F.QUEUE_LEVEL_Q_PEAK q x.live, watermark q]

/-- Q_PEAK reloaded with the live level. -/
def peakReload (q : Nat) : Eff := rd fun s => fset F.QUEUE_LEVEL_Q_PEAK q (s.queue q).live

/-- A queue enters ENABLED with its counters zeroed (R450, R451). -/
def queueEnable (q : Nat) : Eff :=
  seq [onQueue q (fun x => { x with tail := 0, fetched := 0, popped := 0, written := 0, head := 0, shadow := 0, posts := [] }),
    fset F.QUEUE_STAT_STATE q 2, peakReload q, queueSync q]

/-- Records a token queue could not take (R448). -/
def tokenDrop (q n : Nat) : Eff :=
  seq [onQueue q (fun x => { x with dropped := if x.isToken then satAdd 0xFFFF x.dropped n else x.dropped }), fset F.QUEUE_STAT_POST_DROP q 1]

/-- A queue enters DISABLING: shadow entries and posts not yet issued are discarded (R451); a port's reset counts the
posts (R470). -/
def queueDisabling (q : Nat) (countPort : Bool) : Eff := rd fun s =>
  let x := s.queue q
  let n := x.posts.length
  seq [fset F.QUEUE_STAT_STATE q 3,
    onQueue q (fun x => { x with shadow := 0, posts := [] }),
    when (decide (n > 0)) (fset F.QUEUE_STAT_POST_DROP q 1),
    when x.isToken (onQueue q (fun x => { x with dropped := satAdd 0xFFFF x.dropped n })),
    when countPort (fsat F.MOD_HOST_ERR_p_DISCARDED (s.qPort q) n)]

/-- A fetch fault (R455). -/
def queueFault (q cause : Nat) : Eff := rd fun s =>
  seq [fset F.QUEUE_STAT_FETCH_ERR q 1, fset F.QUEUE_STAT_FAULT_CAUSE q cause,
    when (s.qState q == 2) (fset F.QUEUE_STAT_STATE q 4),
    raise 0x0703 1 (s.qWho q (112 + s.qPort q)) [(8, q)]]

/-- An invalid doorbell (R452): DB_ERR, and the event at most once per queue per 1 ms. -/
def doorbellBad (q : Nat) : Eff := rd fun s =>
  let due := match (s.queue q).dbFaultAt with | some t => decide (t + 1000000 ≤ s.tc) | none => true
  seq [fset F.QUEUE_STAT_DB_ERR q 1,
    when due (seq [onQueue q (fun x => { x with dbFaultAt := some s.tc }), raise 0x0702 1 (s.qWho q (112 + s.qPort q)) [(8, q)]])]

/-- A doorbell of a HOST_SUBMIT queue (R452). -/
def doorbellSubmit (q count : Nat) : Eff := rd fun s =>
  let x := s.queue q
  when (x.kind == .hostSubmit && s.qState q != 0 && s.qState q != 4)
    (either (decide (sub16 count x.fetched ≤ x.depth))
      (seq [onQueue q (fun x => { x with tail := count % 65536 }), queueSync q])
      (doorbellBad q))

/-- A doorbell of a HOST_POST queue (R453). -/
def doorbellPost (q count : Nat) : Eff := rd fun s =>
  let x := s.queue q
  when (x.kind == .hostPost && s.qState q != 0 && s.qState q != 4)
    (either (decide (sub16 x.written count ≤ x.depth))
      (seq [onQueue q (fun x => { x with head := count % 65536 }), queueSync q])
      (doorbellBad q))

/-- A post would be accepted (R453, R471). -/
def State.canPost (s : State) (q : Nat) : Bool :=
  let x := s.queue q
  x.kind == .hostPost && s.qState q == 2 && decide (sub16 x.written x.head < x.depth) &&
  s.flag F.MOD_HOST_STAT_p_BUS_MASTER (s.qPort q)

/-- Bytes 0x20 and 0x21 of a token entry carry DROPPED (R447, R448). -/
def tokenEntry (dropped : Nat) (e : List Byte) : List Byte := e.take 32 ++ natLe 2 dropped ++ e.drop 34

/-- An accepted post advances W and waits to be issued (R453). -/
def postAccept (q : Nat) (e : List Byte) : Eff :=
  seq [onQueue q (fun x => { x with written := (x.written + 1) % 65536,
                                    posts := x.posts ++ [if x.isToken then tokenEntry x.dropped e else e],
                                    dropped := if x.isToken then 0 else x.dropped }),
    queueSync q]

/-- A sampler record posted to a HOST_POST queue, or discarded and counted (R448). -/
def postRecord (q : Nat) (e : List Byte) : Eff := rd fun s => either (s.canPost q) (postAccept q e) (tokenDrop q 1)

/-- An entry with its phase bit: 1 on the first pass through the ring (R453). -/
def withPhase (e : List Byte) (n depth : Nat) : List Byte :=
  e.take 63 ++ [BitVec.ofNat 8 ((leAt e 63 1) / 2 * 2 + (1 - n / depth % 2))]

/-- A message of a queue falls due (R453). -/
def queueMsg (q : Nat) : Eff := rd fun s =>
  let x := s.queue q
  let hold := s.fget F.QUEUE_CTL_HOLDOFF q * 1000
  let early := match x.lastMsg with | some t => decide (s.tc < t + hold) | none => false
  when (s.flag F.QUEUE_CTL_INT_EN q)
    (either early (onQueue q (fun x => { x with msgDue := true }))
      (seq [msixSend (s.qPort q) (s.fget F.QUEUE_CTL_VECTOR q), onQueue q (fun x => { x with lastMsg := some s.tc, msgDue := false })]))

/-- The bits a write with a byte mask covers. -/
def coverMask (m : Nat) : Nat → Nat
  | 0 => 0
  | k + 1 => coverMask m k + (if bitOf m k then 0xFF * 2 ^ (8 * k) else 0)

/-- A field's bits after a write of a word under a bit mask. -/
def mergeField (f : Fld) (old w cover : Nat) : Nat :=
  let c := bitsOf cover f.lo f.len
  (old &&& (2 ^ f.len - 1 - c)) ||| (bitsOf w f.lo f.len &&& c)

/-- A write of a page's QUEUE_CTL word (R451, R460). -/
def queueCtlWrite (q w cover : Nat) : Eff := rd fun s =>
  let st := s.qState q
  let port := mergeField F.QUEUE_CTL_PORT (s.fget F.QUEUE_CTL_PORT q) w cover
  let vec := mergeField F.QUEUE_CTL_VECTOR (s.fget F.QUEUE_CTL_VECTOR q) w cover
  let en := mergeField F.QUEUE_CTL_ENABLE (s.fget F.QUEUE_CTL_ENABLE q) w cover
  let moved := port != s.fget F.QUEUE_CTL_PORT q || vec != s.fget F.QUEUE_CTL_VECTOR q
  when (st != 0)
    (seq [
      either (st == 1 || !moved) (seq [fset F.QUEUE_CTL_PORT q port, fset F.QUEUE_CTL_VECTOR q vec]) (fset F.QUEUE_STAT_CFG_ERR q 1),
      fset F.QUEUE_CTL_ENABLE q en,
      fset F.QUEUE_CTL_INT_EN q (mergeField F.QUEUE_CTL_INT_EN (s.fget F.QUEUE_CTL_INT_EN q) w cover),
      fset F.QUEUE_CTL_HOLDOFF q (mergeField F.QUEUE_CTL_HOLDOFF (s.fget F.QUEUE_CTL_HOLDOFF q) w cover),
      when (bitOf cover 0)
        (if en = 1 then
          when (st == 1) (either (s.fget F.QUEUE_BASE_ADDR q != 0) (queueEnable q) (fset F.QUEUE_STAT_CFG_ERR q 1))
         else when (st == 2 || st == 4) (queueDisabling q false))])

/-- A write of a page's QUEUE_BASE word (R459). -/
def queueBaseWrite (q w cover : Nat) : Eff := rd fun s =>
  let st := s.qState q
  when (st != 0)
    (either (st == 1) (fset F.QUEUE_BASE_ADDR q (mergeField F.QUEUE_BASE_ADDR (s.fget F.QUEUE_BASE_ADDR q) w cover))
      (fset F.QUEUE_STAT_CFG_ERR q 1))

/-- A write of a page's QUEUE_WM word (R454, R462). -/
def queueWmWrite (q w cover : Nat) (sameCycleFire : Bool) : Eff := rd fun s =>
  let lv := s.fget F.QUEUE_WM_LEVEL q
  let armed := decide (lv ≠ 0) && !s.flag F.QUEUE_WM_HIT q
  when (s.qState q != 0)
    (seq [
      when (bitOf cover 31 && bitOf w 31)
        (seq [when (!(sameCycleFire && armed)) (fset F.QUEUE_WM_HIT q 0),
          when (sameCycleFire && armed) (watermark q), peakReload q]),
      fset F.QUEUE_WM_LEVEL q (mergeField F.QUEUE_WM_LEVEL lv w cover),
      watermark q])

/-- A write of a page's QUEUE_STAT word: its W1C bits (R461). -/
def queueStatWrite (q w cover : Nat) : Eff := rd fun s =>
  when (s.qState q != 0)
    (each [F.QUEUE_STAT_DB_ERR, F.QUEUE_STAT_FETCH_ERR, F.QUEUE_STAT_CFG_ERR, F.QUEUE_STAT_POST_DROP]
      (fun f => when (bitOf w f.lo && bitOf cover f.lo) (fset f q 0)))

/-- A write of a page's QUEUE_DB word (R458). -/
def queueDbWrite (q w cover : Nat) : Eff := rd fun s =>
  when (bitOf cover 0)
    (either ((s.queue q).kind == .hostSubmit) (doorbellSubmit q (w % 65536)) (doorbellPost q (w % 65536)))

/-- A write of a doorbell page's word, at an offset within the page. -/
def queueWordWrite (q word w cover : Nat) (sameCycleFire : Bool) : Eff :=
  match word with
  | 0 => queueDbWrite q w cover
  | 1 => queueBaseWrite q w cover
  | 2 => queueCtlWrite q w cover
  | 3 => queueStatWrite q w cover
  | 4 => queueWmWrite q w cover sameCycleFire
  | _ => nop

/-- A queue takes a host-kind binding (R449, R451): DISABLED, base 0, the binding's VECTOR. -/
def queueBindHost (q : Nat) (x : QueueSt) : Eff :=
  seq [upd [.fldsDrop queueRegs q (q + 1), .queues q x], fset F.QUEUE_STAT_STATE q 1,
    fset F.QUEUE_STAT_KIND q (match x.kind with | .hostPost => 1 | _ => 0), fset F.QUEUE_STAT_DEPTH_LOG2 q x.depthLog2,
    fset F.QUEUE_CTL_VECTOR q x.vector]

/-! Event rings (R464, R465, R491, R492, R582). -/

/-- A ring can take a record now: configured, running, its port ready, and room in it. -/
def State.ringRoom (s : State) (n : Nat) : Bool :=
  let r := s.ring n
  r.configured && !r.stopped && s.portReady r.port &&
  decide ((s.fget F.MOD_EVR_TAIL_n_TAIL n + 2 ^ 32 - s.fget F.MOD_EVR_HEAD_n_HEAD n) % 2 ^ 32 < 2 ^ r.depthLog2)

/-- Write a record to a ring that has room, with its phase bit and message (R453, R464). -/
def ringWrite (n : Nat) (r : EvRec) : Eff := rd fun s =>
  let g := s.ring n
  let w := s.fget F.MOD_EVR_TAIL_n_TAIL n
  seq [hostWrite g.port (g.base + w % 2 ^ g.depthLog2 * 64) (r.bytes (1 - w / 2 ^ g.depthLog2 % 2)),
    fadd F.MOD_EVR_TAIL_n_TAIL n 1, msixSend g.port g.vector]

/-- A record a ring could not take adds to its lost count (R464, R492). -/
def ringLose (n : Nat) (r : EvRec) : Eff := rd fun s =>
  let g := s.ring n
  let c := satAdd 0xFFFFFFFF g.lost 1
  seq [onRing n (fun g => { g with lost := c, lostFirst := if g.lost = 0 then r.tcFirst else g.lostFirst, lostLast := r.tcLast,
                                   lostSeq := r.seq }),
    fset F.MOD_EVR_TAIL_n_LOST n (min c 0xFFFF), fset F.MOD_EVR_TAIL_n_LOST_SEEN n 1]

/-- The EVENTS_LOST record of a ring (R492). -/
def State.lostRecord (s : State) (n : Nat) : EvRec :=
  let g := s.ring n
  { code := 1, sev := 0, flags := 0, module := s.module, cluster := 0xFF, core := 0xFF, unit := 0xFF,
    flask := if n = 0 then 0xFF else n - 1, count := 1, corrob := 0, seq := g.lostSeq, tcFirst := g.lostFirst,
    tcLast := g.lostLast, detail := g.lost }

/-- Once room returns, the lost count is reported and zeroed (R464). -/
def ringReport (n : Nat) : Eff := rd fun s =>
  when (decide ((s.ring n).lost > 0) && s.ringRoom n)
    (seq [ringWrite n (s.lostRecord n), onRing n (fun g => { g with lost := 0 }), fset F.MOD_EVR_TAIL_n_LOST n 0])

/-- A record bound for a ring (R464): written after any pending EVENTS_LOST, lost, or, on ring 0 before its first
configuration, held (R582). -/
def ringOffer (n : Nat) (r : EvRec) : Eff := rd fun s =>
  if (s.ring n).configured then
    seq [ringReport n, rd fun s => either (s.ringRoom n && (s.ring n).lost == 0) (ringWrite n r) (ringLose n r)]
  else if n = 0 ∧ s.ev.ring0Seen = false then
    if s.ev.held.length < 64 then upd [.ev { s.ev with held := s.ev.held ++ [r] }] else ringLose 0 r
  else nop

/-- ENABLED of a ring follows its configuration and its port (R465). -/
def ringStatus (n : Nat) : Eff := rd fun s =>
  let g := s.ring n
  fput F.MOD_EVR_TAIL_n_ENABLED n (g.configured && !g.stopped && s.flag F.MOD_HOST_STAT_p_LINK_UP g.port)

/-- ENABLED of every ring on a port. -/
def portRings (p : Nat) : Eff := rd fun s => each ((List.range 17).filter (fun n => (s.ring n).configured && (s.ring n).port == p)) ringStatus

/-! Ports (R470, R471). -/

/-- Function Level Reset, hot reset or link loss of a port (R470). -/
def portReset (p : Nat) : Eff := rd fun s =>
  let qs := (s.queues.filter (fun e => e.2.isHost && s.qPort e.1 == p && s.qState e.1 != 0)).map (fun e => e.1)
  seq [
    upd [.hports p HostPort.none, .msixClear (p * 2048) (p * 2048 + 2048)],
    fset F.MOD_HOST_STAT_p_BUS_MASTER p 0, fset F.MOD_HOST_STAT_p_MSIX_EN p 0,
    each qs (fun q => seq [queueDisabling q true, fset F.QUEUE_STAT_FAULT_CAUSE q 5, fset F.QUEUE_CTL_ENABLE q 0,
      onQueue q (fun x => { x with reads := [] })]),
    each ((List.range 17).filter (fun n => (s.ring n).configured && (s.ring n).port == p))
      (fun n => seq [onRing n (fun g => { g with stopped := true }), ringStatus n])]

/-- The link of a port is down: SPEED reads 0 (R471). -/
def portDown (p : Nat) : Eff :=
  seq [fset F.MOD_HOST_STAT_p_LINK_UP p 0, fset F.MOD_HOST_STAT_p_SPEED p 0, portRings p]

/-! Commands. -/

/-- QUEUE_DB_SUBMIT (R452). -/
def execQueueDbSubmit (queue : Fin 2097152) (count : BitVec 16) (tc : Nat) (s : State) : Host.Outcome State Fault Refusal :=
  run (seq [tcTo tc, doorbellSubmit queue.val count.toNat]) s

/-- QUEUE_DB_POST (R453). -/
def execQueueDbPost (queue : Fin 2097152) (count : BitVec 16) (tc : Nat) (s : State) : Host.Outcome State Fault Refusal :=
  run (seq [tcTo tc, doorbellPost queue.val count.toNat]) s

/-- QUEUE_CTL_WRITE (R451, R460). -/
def execQueueCtlWrite (queue : Fin 2097152) (val : Word) (byteMask : Fin 256) (s : State) : Host.Outcome State Fault Refusal :=
  run (queueCtlWrite queue.val val.toNat (coverMask byteMask.val 8)) s

/-- QUEUE_BASE_WRITE (R459). -/
def execQueueBaseWrite (queue : Fin 2097152) (val : Word) (byteMask : Fin 256) (s : State) : Host.Outcome State Fault Refusal :=
  run (queueBaseWrite queue.val val.toNat (coverMask byteMask.val 8)) s

/-- QUEUE_WM_WRITE (R454, R462). -/
def execQueueWmWrite (queue : Fin 2097152) (val : Word) (byteMask : Fin 256) (sameCycleFire : Bool) (s : State) :
    Host.Outcome State Fault Refusal :=
  run (queueWmWrite queue.val val.toNat (coverMask byteMask.val 8) sameCycleFire) s

/-- The entries a fetch read would cover (R452): to T, the free shadow, the Max Read Request Size, the end of the ring. -/
def State.fetchSpan (s : State) (q : Nat) : Nat :=
  let x := s.queue q
  let out := x.reads.foldl (· + ·) 0
  let next := (x.fetched + out) % 65536
  min (min (sub16 x.tail next) (x.shadowSize - min x.shadowSize (x.shadow + out)))
    (min ((s.hport (s.qPort q)).mrrs / 64) (x.depth - next % x.depth))

/-- HOST_FETCH_READ: the queue engine reads the next entries of the ring (R452). -/
def execHostFetchRead (queue : Fin 2097152) (s : State) : Host.Outcome State Fault Refusal :=
  run (rd fun s =>
    let q := queue.val
    let n := s.fetchSpan q
    when ((s.queue q).kind == .hostSubmit && s.qState q == 2 && s.portReady (s.qPort q) && decide (n > 0))
      (onQueue q (fun x => { x with reads := x.reads ++ [n] }))) s

/-- The entries of a completed read enter the shadow in scratchpad, in ring order (R452). -/
def shadowFill (q n : Nat) (es : List (List Byte)) : Eff := rd fun s =>
  let x := s.queue q
  match s.qPhys q with
  | some p => each (List.range n) (fun i => spdWr p (x.shadowAddr (x.fetched + i)) (fitTo 64 ((es.drop i).headD [])) false)
  | none => nop

/-- HOST_FETCH_COMPLETION: the oldest read of a queue completes (R452, R455); completions due from before the queue's
zeroing are discarded (R456). -/
def execHostFetchCompletion (queue : Fin 2097152) (res : FetchResult) (s : State) : Host.Outcome State Fault Refusal :=
  run (rd fun s =>
    let q := queue.val
    let x := s.queue q
    match x.reads with
    | [] => nop
    | n :: rest =>
      seq [onQueue q (fun x => { x with reads := rest }),
        when (s.qState q == 2)
          (match res with
           | .data es => seq [shadowFill q n es, onQueue q (fun x => { x with shadow := x.shadow + n, fetched := (x.fetched + n) % 65536 }), queueSync q]
           | .unsupported => queueFault q 2
           | .abort => queueFault q 3
           | .poisoned => queueFault q 4)]) s

/-- HOST_COMPLETION_TIMEOUT: a fetch read exceeds its port's completion timeout (R455). -/
def execHostCompletionTimeout (queue : Fin 2097152) (s : State) : Host.Outcome State Fault Refusal :=
  run (rd fun s =>
    let q := queue.val
    match (s.queue q).reads with
    | [] => nop
    | _ :: rest =>
      seq [onQueue q (fun x => { x with reads := rest }), fsat F.MOD_HOST_ERR_p_CPL_TIMEOUT (s.qPort q) 1,
        when (s.qState q == 2) (queueFault q 1)]) s

/-- HOST_POST_WRITE: the oldest accepted post is written to the host ring, and its message falls due (R453). -/
def execHostPostWrite (queue : Fin 2097152) (tc : Nat) (s : State) : Host.Outcome State Fault Refusal :=
  run (seq [tcTo tc, rd fun s =>
    let q := queue.val
    let x := s.queue q
    match x.posts with
    | [] => nop
    | e :: rest =>
      let n := sub16 x.written x.posts.length
      when (s.qState q == 2 && s.portReady (s.qPort q))
        (seq [hostWrite (s.qPort q) (s.fget F.QUEUE_BASE_ADDR q * 4096 + n % x.depth * 64) (withPhase e n x.depth),
          onQueue q (fun x => { x with posts := rest }), queueMsg q])]) s

/-- MSIX_HOLDOFF_EXPIRY: one message covers the posts that fell due during HOLDOFF (R453). -/
def execMsixHoldoffExpiry (queue : Fin 2097152) (tc : Nat) (s : State) : Host.Outcome State Fault Refusal :=
  run (seq [tcTo tc, rd fun s =>
    let q := queue.val
    let x := s.queue q
    let due := match x.lastMsg with | some t => decide (t + s.fget F.QUEUE_CTL_HOLDOFF q * 1000 ≤ s.tc) | none => true
    when (x.msgDue && due)
      (seq [msixSend (s.qPort q) (s.fget F.QUEUE_CTL_VECTOR q), onQueue q (fun x => { x with lastMsg := some s.tc, msgDue := false })])]) s

/-- QUEUE_DISABLE_COMPLETE: DISABLING ends once reads and posts have resolved (R451). -/
def execQueueDisableComplete (queue : Fin 2097152) (s : State) : Host.Outcome State Fault Refusal :=
  run (rd fun s =>
    let q := queue.val
    let x := s.queue q
    when (s.qState q == 3 && x.reads.isEmpty && x.posts.isEmpty)
      (either (s.flag F.QUEUE_CTL_ENABLE q) (queueEnable q) (fset F.QUEUE_STAT_STATE q 1))) s

/-- EVENT_RECORD_WRITE: the oldest formed record goes to ring 0 and to its flask's ring (R464). -/
def execEventRecordWrite (s : State) : Host.Outcome State Fault Refusal :=
  run (rd fun s =>
    match s.ev.formed with
    | [] => nop
    | r :: rest =>
      seq [upd [.ev { s.ev with formed := rest }], ringOffer 0 r, when (decide (r.flask < 16)) (ringOffer (r.flask + 1) r)]) s

/-- EVENT_WINDOW_CLOSE: a coalescing window of 1 ms closes and its record is formed (R494). -/
def execEventWindowClose (index : Fin 256) (tc : Nat) (s : State) : Host.Outcome State Fault Refusal :=
  run (seq [tcTo tc, rd fun s =>
    match s.ev.windows[index.val]? with
    | none => nop
    | some w => when (decide (w.tcFirst + 1000000 ≤ s.tc))
        (upd [.ev ({ s.ev with windows := s.ev.windows.eraseIdx index.val }.form w)])]) s

/-- A write of a ring's head (R465): valid when it leaves no more than the ring holds. -/
def evrHeadWrite (n head : Nat) : Eff := rd fun s =>
  when (decide ((s.fget F.MOD_EVR_TAIL_n_TAIL n + 2 ^ 32 - head) % 2 ^ 32 ≤ 2 ^ (s.ring n).depthLog2) && (s.ring n).configured)
    (seq [fset F.MOD_EVR_HEAD_n_HEAD n head, ringReport n])

/-- EVR_HEAD_WRITE (R465). -/
def execEvrHeadWrite (ring : Fin 17) (head : BitVec 32) (s : State) : Host.Outcome State Fault Refusal :=
  run (evrHeadWrite ring.val head.toNat) s

/-- PORT_FLR (R470). -/
def execPortFlr (port : HostId) (s : State) : Host.Outcome State Fault Refusal :=
  run (seq [portReset port.val, fset F.MOD_HOST_STAT_p_FLR_SEEN port.val 1]) s

/-- PORT_HOT_RESET: a hot reset, or an assertion of PERST#, which also takes the link down (R470, R581). -/
def execPortHotReset (port : HostId) (perst : Bool) (s : State) : Host.Outcome State Fault Refusal :=
  run (seq [portReset port.val, fset F.MOD_HOST_STAT_p_FLR_SEEN port.val 1, when perst (portDown port.val)]) s

/-- HOST_LINK_LOSS (R470, R471). -/
def execHostLinkLoss (port : HostId) (s : State) : Host.Outcome State Fault Refusal :=
  run (rd fun s => when (s.flag F.MOD_HOST_STAT_p_LINK_UP port.val)
    (seq [portReset port.val, portDown port.val, fset F.MOD_HOST_STAT_p_LINK_LOST port.val 1])) s

/-- HOST_LINK_UP: a port's link trains once its PHY is enabled (R471, R581). -/
def execHostLinkUp (port : HostId) (speed : Fin 7) (width : Fin 17) (flit : Bool) (s : State) : Host.Outcome State Fault Refusal :=
  run (rd fun s =>
    let p := port.val
    when (decide (s.fget F.MOD_BOOT_STAT_STAGE 0 ≥ 1) && decide (speed.val ≥ 1) && [1, 2, 4, 8, 16].elem width.val)
      (seq [fset F.MOD_HOST_STAT_p_LINK_UP p 1, fset F.MOD_HOST_STAT_p_SPEED p speed.val, fset F.MOD_HOST_STAT_p_WIDTH p width.val,
        fput F.MOD_HOST_STAT_p_FLIT p flit, portRings p])) s

/-- BUS_MASTER_ENABLE: host software sets or clears Bus Master Enable (R471); messages left pending go out when it is
set. -/
def execBusMasterEnable (port : HostId) (on : Bool) (s : State) : Host.Outcome State Fault Refusal :=
  run (seq [fput F.MOD_HOST_STAT_p_BUS_MASTER port.val on, msixDrain port.val]) s

end Sys2Proof.Machine
end

