-- ==== Sys2Proof/Machine/Sequencer.lean ====
section
/-! DEFINITION. The core sequencer (R207 to R222) and elastic queues (R244 to R247): shared operations and the commands. A
core's SC advances with the instructions it executes; a command of an instruction that cannot execute now (its core not
in RUN, bubbled, held, halted or in a WAITA) changes nothing. -/
namespace Sys2Proof.Machine

/-! Registers, programs and the advance of the PC. -/

/-- A scalar register; s0 reads 0 (R209). -/
def State.scalar (s : State) (p r : Nat) : Nat := if r = 0 then 0 else NMap.get 0 (s.core p).scalars r

/-- A scalar register takes a value, modulo 2^64; writes to s0 are discarded (R209). -/
def setScalar (p r v : Nat) : Eff :=
  if r = 0 then nop else onCore p (fun c => { c with scalars := NMap.put 0 c.scalars r (v % 2 ^ 64) })

/-- A switch point of a program (R228): PC, number, QUIESCE. -/
structure SwitchPt where
  pc : Nat
  n : Nat
  quiesce : Bool
  deriving DecidableEq, Repr

/-- `n` entries of a switch point table. -/
def switchPts : Nat → List Byte → List SwitchPt
  | 0, _ => []
  | n + 1, b => { pc := leAt b 0 4, n := leAt b 4 2, quiesce := bitOf (leAt b 6 1) 0 } :: switchPts n (b.drop 8)

/-- The switch points of a PROGRAM section (R228). -/
def progPts (sect : List Byte) : List SwitchPt := switchPts (leAt sect 4 2) (sect.drop 16)

/-- Where the instructions of a PROGRAM section start (R228). -/
def progBase (sect : List Byte) : Nat := (16 + 8 * leAt sect 4 2 + 63) / 64 * 64

/-- The instruction at a PC of a PROGRAM section. -/
def instrAt (sect : List Byte) (pc : Nat) : List Byte := (sect.drop (progBase sect + 16 * pc)).take 16

/-- The program a core runs. -/
def State.program (s : State) (p : Nat) : List Byte := s.coreSect p 2 (s.fget F.CORE_SEQ_TEMPER p)

/-- The PC after the instruction at `pc`, with the loops: the last PC of a body leads back to its first while passes are
left (R213). -/
def loopNext : List LoopSt → Nat → Nat × List LoopSt
  | [], pc => (pc + 1, [])
  | l :: ls, pc =>
    if pc = l.last then (if l.left > 0 then (l.first, { l with left := l.left - 1 } :: ls) else loopNext ls pc)
    else (pc + 1, l :: ls)

/-- A sequencer can execute an instruction now. -/
def State.seqReady (s : State) (p : Nat) : Bool := s.scheduled p && !(s.core p).halted && (s.core p).wait.isNone

/-- QOP results that are due are written (R218). -/
def settle (p : Nat) : Eff := rd fun s =>
  let c := s.core p
  let due := c.qopDue.filter (fun q => decide (q.1 ≤ s.sc p))
  when (!due.isEmpty)
    (seq [onCore p (fun c => { c with qopDue := c.qopDue.filter (fun q => decide (q.1 > s.sc p)) }),
      each due (fun q => setScalar p q.2.1 q.2.2)])

/-- The latency of a VU operation class (R183): 0 move, 1 arithmetic, 2 fused, 3 permute, 4 special function, 5 reduction,
6 load or store. -/
def vuLatency : Nat → Nat
  | 0 => 2 | 1 => 4 | 2 => 5 | 3 => 6 | 4 => 14 | 5 => 24 | _ => 24

/-- VU_STAT.BUSY follows the operations in flight of a core's units (R201). -/
def vuBusy (p : Nat) : Eff := rd fun s =>
  upd (((List.range 4).map (fun v => p * 4 + v)).filter (fun k => !(s.vu k).starts.isEmpty || s.flag F.VU_STAT_BUSY k)
    |>.map (fun k => .fld F.VU_STAT_BUSY k
      (b2n ((s.vu k).starts.any (fun o => decide (o.2 + vuLatency o.1 > s.sc p)) || (s.vu k).sample.isSome || !(s.vu k).waiting.isEmpty))))

/-- The PC moves to an instruction; passing to a switch point records its number (R255). -/
def setPc (p pc : Nat) : Eff := rd fun s =>
  seq [fset F.CORE_SEQ_PC p pc,
    (match (progPts (s.program p)).find? (fun x => x.pc == pc) with
     | some x => fset F.CORE_SEQ_SWITCH_POINT p x.n
     | none => nop)]

/-- An instruction ends: SC advances by its cycles, the PC by the loops or to a target. -/
def advance (p cycles : Nat) (target : Option Nat) : Eff := rd fun s =>
  let n := match target with
    | some t => (t, (s.core p).loops)
    | none => loopNext (s.core p).loops (s.fget F.CORE_SEQ_PC p)
  seq [fadd F.CORE_SC_SC p cycles, onCore p (fun c => { c with loops := n.2 }), setPc p n.1, vuBusy p]

/-- One instruction of a core: results due are settled, its effect happens, and unless it ended the flask's run the core
advances. -/
def seqStep (p cycles : Nat) (target : Option Nat) (body : Eff) : Eff := rd fun s =>
  when (s.seqReady p) (seq [settle p, body, rd fun s => when (s.coreState p == 3) (advance p cycles target)])

/-- A sequencer error (R214 to R216, R258): the bit, the PC, the event that resets the flask. -/
def seqError (p : Nat) (f : Fld) (code : Nat) : Eff := rd fun s =>
  seq [fset f p 1, fset F.CORE_SEQ_ERR_LAST_PC p (s.fget F.CORE_SEQ_PC p), containCore p code 0xFE [(2, s.fget F.CORE_SEQ_PC p)]]

/-- An issue to a full queue (R214). -/
def issueOverflow (p : Nat) : Eff := seqError p F.CORE_SEQ_ERR_ISSUE_OVERFLOW 0x0108

/-- One field of a descriptor relocated: bits [27:0] take the sum's, and whether the sum stays below 2^28 (R211). -/
def relocField (b : List Byte) (off add : Nat) : List Byte × Bool :=
  let v := leAt b off 4
  let t := v % 2 ^ 28 + add % 2 ^ 28
  (b.take off ++ natLe 4 (v / 2 ^ 28 * 2 ^ 28 + t % 2 ^ 28) ++ b.drop (off + 4), decide (t < 2 ^ 28))

/-- A descriptor relocated under a mask: the copy that is issued, and whether some sum left the scratchpad (R211). -/
def relocate (b : List Byte) (mask add n : Nat) : List Byte × Bool :=
  (List.range n).foldl (fun (a : List Byte × Bool) i =>
    if bitOf mask i then let r := relocField a.1 (0x10 + 4 * i) add; (r.1, a.2 || !r.2) else a) (b, false)

/-- Bytes of a core's DESCRIPTORS section from an entry on (R208). -/
def State.descAt (s : State) (p index len : Nat) : List Byte :=
  let b := ((s.coreSect p 3 (s.fget F.CORE_SEQ_TEMPER p)).drop (64 * index)).take len
  b ++ List.replicate (len - b.length) 0

/-! Elastic queues (R231, R244 to R247). -/

/-- The queue ID of an FA in QUEUE space (R46). -/
def faQueue (fa : Nat) : Nat := bitsOf fa 6 21

/-- The FA of a queue's page (R46). -/
def faOfQueue (m q : Nat) : Nat := m * 2 ^ 48 + 4 * 2 ^ 44 + q * 64

/-- An entry discarded at a full ring or from a queue that is no peer (R247, R189): counted at a core, the event raised. -/
def queueOverrun (p q : Nat) : Eff := rd fun s =>
  seq [fsat F.CORE_QSTAT_OVERRUN p 1, raise 0x0504 1 (s.who p 0xFE) [(4, q)]]

/-- Entries in a ring held in scratchpad (R218). -/
def QueueSt.ringCount (x : QueueSt) : Nat := sub16 x.written x.popped

/-- The scratchpad address of a ring's entry. -/
def QueueSt.entryAddr (x : QueueSt) (n : Nat) : Nat := x.ring + n % x.depth * 64

/-- An entry pushed on a ring in a core's scratchpad that has room. -/
def ringPush (p q : Nat) (e : List Byte) (poison : Bool) : Eff := rd fun s =>
  let x := s.queue q
  seq [spdWr p (x.entryAddr x.written) e poison, onQueue q (fun x => { x with written := (x.written + 1) % 65536 })]

/-- The depth of the ring behind an ELASTIC_TX queue (R244): its peer's on this module; another module's is not known
here and is a free value. -/
def State.peerDepth (s : State) (q : Nat) (k : Nat → Eff) : Eff :=
  let fa := (s.queue q).peer
  if faModule fa = s.module then k (s.queue (faQueue fa)).depth else draw (fun v => k (2 ^ (1 + v % 12)))

/-- QOP results (R218): written 4 cycles after the QOP executes. -/
def qopResult (p rd_ v : Nat) : Eff := rd fun s => onCore p (fun c => { c with qopDue := c.qopDue ++ [(s.sc p + 4, rd_, v)] })

/-- The scratchpad address of a QOP's entry. -/
def State.qopAddr (s : State) (p areg addr : Nat) : Nat := (s.scalar p areg + addr) % 2 ^ 64

/-- The entry a QOP reads: 64 bytes of scratchpad with their poison; outside it the bytes are a free value. -/
def qopEntry (p a : Nat) (k : List Byte → Bool → Eff) : Eff := rd fun s =>
  if a + 64 ≤ 2 ^ 28 then k (s.spdRd p a 64) (s.spdPoisoned p a 64) else draw (fun v => k (natLe 64 v) false)

/-- The entry a QOP delivers; outside scratchpad it goes nowhere. -/
def qopDeliver (p a : Nat) (e : List Byte) (poison : Bool) : Eff := if a + 64 ≤ 2 ^ 28 then spdWr p a e poison else nop

/-- SEND (R244): with credit, the entry leaves for the peer and one credit is spent. -/
def qopSend (p q rd_ a : Nat) : Eff := rd fun s =>
  let x := s.queue q
  match x.kind with
  | .unbound => qopResult p rd_ 2
  | .elasticTx => s.peerDepth q (fun d =>
      either (decide (sub16 x.sent x.consumed < d))
        (qopEntry p a (fun e poison => rd fun s =>
          let m := faModule x.peer
          seq [onQueue q (fun x => { x with sent := (x.sent + 1) % 2 ^ 19 }),
            sendMod m .queueEntry false poison ([x.peer, q, (q % 8192) * 2 ^ 19 + x.sent, b2n poison] ++ e.map BitVec.toNat)
              (reqBytes x.peer 5 4 0 0 ((q % 8192) * 2 ^ 19 + x.sent) 0 (q / 8192) s.pourTag e),
            (match s.flaskOf p with
             | some f => when (m != s.module && !(s.flask f).postedTo.elem m)
                 (onFlask f (fun y => { y with postedTo := y.postedTo ++ [m] }))
             | none => nop),
            qopResult p rd_ 0]))
        (seq [fsat F.CORE_QSTAT_NOCREDIT p 1, qopResult p rd_ 1]))
  | _ => qopResult p rd_ 1

/-- POP (R218, R245, R451): the oldest entry of a ring or of a shadow. -/
def qopPop (p q rd_ a : Nat) : Eff := rd fun s =>
  let x := s.queue q
  match x.kind with
  | .unbound => qopResult p rd_ 2
  | .hostSubmit =>
    let at_ := x.shadowAddr (x.fetched + 64 - x.shadow)
    either (x.shadow != 0 && (s.qState q == 2 || s.qState q == 4))
      (seq [qopDeliver p a (s.spdRd p at_ 64) (s.spdPoisoned p at_ 64),
        onQueue q (fun x => { x with shadow := x.shadow - 1, popped := (x.popped + 1) % 65536 }), queueSync q, qopResult p rd_ 0])
      (qopResult p rd_ 1)
  | .local | .elasticRx =>
    if x.ringCount = 0 then qopResult p rd_ 1
    else
      let at_ := x.entryAddr x.popped
      seq [qopDeliver p a (s.spdRd p at_ 64) (s.spdPoisoned p at_ 64),
        onQueue q (fun x => { x with popped := (x.popped + 1) % 65536,
                                     uncoveredAt := if x.kind = .elasticRx ∧ x.uncoveredAt = none then some (s.sc p) else x.uncoveredAt }),
        qopResult p rd_ 0]
  | _ => qopResult p rd_ 1

/-- POST (R218, R453): an entry for a LOCAL ring with room or an accepting HOST_POST queue. -/
def qopPost (p q rd_ a : Nat) : Eff := rd fun s =>
  let x := s.queue q
  match x.kind with
  | .unbound => qopResult p rd_ 2
  | .local =>
    either (decide (x.ringCount < x.depth)) (seq [qopEntry p a (fun e poison => ringPush p q e poison), qopResult p rd_ 0]) (qopResult p rd_ 1)
  | .hostPost => either (s.canPost q) (seq [qopEntry p a (fun e _ => postAccept q e), qopResult p rd_ 0]) (qopResult p rd_ 1)
  | _ => qopResult p rd_ 1

/-- LEVEL (R218): the entry count and the result code in bits [33:32]. -/
def qopLevel (p q rd_ : Nat) : Eff := rd fun s =>
  let x := s.queue q
  qopResult p rd_ (match x.kind with
    | .unbound => 2 * 2 ^ 32
    | .local | .elasticRx => x.ringCount
    | .elasticTx => sub16 x.sent x.consumed
    | .hostSubmit | .hostPost => x.live)

/-- The queue ID of a queue number of a core. -/
def State.queueId (s : State) (p n : Nat) : Nat := match s.logOf p with | some l => l * 8192 + n | none => 140 * 8192 + n

/-- A credit packet for what has been popped (R245). -/
def creditSend (q : Nat) : Eff := rd fun s =>
  let x := s.queue q
  seq [sendMod (faModule x.peer) .credit false false [x.peer, q, x.popped] (reqBytes x.peer 6 0 0 0 x.popped 0 (q / 8192) s.pourTag (natLe 4 x.popped)), onQueue q (fun x => { x with credited := x.popped, uncoveredAt := none })]

/-- A sender takes the cumulative count of its receiver's pops (R245). -/
def creditTake (q consumed : Nat) : Eff := rd fun s =>
  when ((s.queue q).kind == .elasticTx) (onQueue q (fun x => { x with consumed := consumed % 65536 }))

/-- An entry from the queue of an FA, with its write tag, is placed in the ring, or discarded when the ring is full or the
sender is no peer (R247); another module's is reported back (R413). -/
def entryArrive (q peer tag : Nat) (entry : List Byte) (poison : Bool) : Eff := rd fun s =>
  let x := s.queue q
  match s.qPhys q with
  | none => nop
  | some p =>
    when (x.kind == .elasticRx)
      (either (x.peer == peer && decide (x.ringCount < x.depth))
        (ringPush p q (entry.take 64 ++ List.replicate (64 - entry.length) 0) poison)
        (seq [queueOverrun p q, when (faModule peer != s.module) (writeFault (faModule peer) 1023 tag 0x12 (faOfQueue s.module q))]))

/-! Commands: control flow (R210 to R217, R222). -/

/-- SEQ_IDLE (R210). -/
def execSeqIdle (core : CoreId) (n : BitVec 32) (s : State) : Host.Outcome State Fault Refusal :=
  run (seqStep core.val (n.toNat + 1) none nop) s

/-- SEQ_ISSUE (R211, R214): a descriptor entry, relocated, goes to an ME or SE. -/
def execSeqIssue (core : CoreId) (unit : Fin 72) (index : Fin 4096) (reloc : Fin 32) (mask : BitVec 9) (s : State) :
    Host.Outcome State Fault Refusal :=
  run (seqStep core.val 1 none (rd fun s =>
    let p := core.val
    let r := relocate (s.descAt p index.val 64) mask.toNat (s.scalar p reloc.val) 9
    engIssue ⟨p, decide (unit.val ≥ 64), unit.val % 64⟩ r.1 r.2 (issueOverflow p))) s

/-- SEQ_WAITS (R210, R215): the next instruction executes at s[base] + offset; a target that is not later resets the
flask. -/
def execSeqWaits (core : CoreId) (base : Fin 32) (offset : BitVec 48) (s : State) : Host.Outcome State Fault Refusal :=
  run (rd fun s =>
    let p := core.val
    when (s.seqReady p) (seq [settle p, rd fun s =>
      let target := (s.scalar p base.val + offset.toNat) % 2 ^ 64
      either (decide (s.sc p < target)) (seqStep p (target - s.sc p) none nop) (seqError p F.CORE_SEQ_ERR_LATE 0x0107)])) s

/-- SEQ_LOOP (R213): the body from the next PC to `last` runs `count` times; a count of 0 from a register skips it. -/
def execSeqLoop (core : CoreId) (ctr : Fin 4) (fromReg : Bool) (reg : Fin 32) (count : BitVec 32) (last : Nat) (s : State) :
    Host.Outcome State Fault Refusal :=
  run (rd fun s =>
    let p := core.val
    when (s.seqReady p) (seq [settle p, rd fun s =>
      let n := if fromReg then s.scalar p reg.val else count.toNat
      let pc := s.fget F.CORE_SEQ_PC p
      either (n == 0)
        (seq [fset F.CORE_SEQ_PC p last, seqStep p 1 none nop])
        (seq [onCore p (fun c => { c with loops := { ctr := ctr.val, first := pc + 1, last, left := n - 1 } :: c.loops }),
          seqStep p 1 (some (pc + 1)) nop])])) s

/-- The condition of a BR (R210): EQ, NE, LTU, GEU, BITSET. -/
def State.brTaken (s : State) (p cond a b : Nat) : Bool :=
  let x := s.scalar p a
  match cond with
  | 0 => x == s.scalar p (b % 32)
  | 1 => x != s.scalar p (b % 32)
  | 2 => decide (x < s.scalar p (b % 32))
  | 3 => decide (x ≥ s.scalar p (b % 32))
  | _ => bitOf x b

/-- SEQ_BR (R212): taken, the target after 2 + LEN cycles; not taken, the next PC after 2. -/
def execSeqBr (core : CoreId) (cond : Fin 5) (a : Fin 32) (b : Fin 64) (target : Nat) (len : BitVec 32) (s : State) :
    Host.Outcome State Fault Refusal :=
  run (rd fun s =>
    let p := core.val
    when (s.seqReady p) (seq [settle p, rd fun s =>
      either (s.brTaken p cond.val a.val b.val) (seqStep p (2 + len.toNat) (some target) nop) (seqStep p 2 none nop)])) s

/-- SEQ_TMETA (R217): the tile metadata entry as it stands. -/
def execSeqTmeta (core : CoreId) (rd_ : Fin 32) (tag : Fin 4096) (s : State) : Host.Outcome State Fault Refusal :=
  run (seqStep core.val 1 none (rd fun s => setScalar core.val rd_.val (NMap.get 0 (s.core core.val).tmeta tag.val))) s

/-- SEQ_WAITA (R216): the core waits to the last cycle of the window, in which WAITA_COMPARE falls. -/
def execSeqWaita (core : CoreId) (rd_ : Fin 32) (ctr : Fin 4096) (thr : Fin 32) (isFault : Bool) (n : BitVec 32) (s : State) :
    Host.Outcome State Fault Refusal :=
  run (rd fun s =>
    let p := core.val
    when (s.seqReady p)
      (seq [settle p, fadd F.CORE_SC_SC p n.toNat,
        rd fun s => onCore p (fun c => { c with
          wait := some { rd := rd_.val, ctr := ctr.val, thr := thr.val, isFault, last := s.sc p } })])) s

/-- WAITA_COMPARE (R216, R271): the compare at the last cycle; increments of that cycle are not seen. -/
def execWaitaCompare (core : CoreId) (sameCycle : Nat) (s : State) : Host.Outcome State Fault Refusal :=
  run (rd fun s =>
    let p := core.val
    match (s.core p).wait with
    | none => nop
    | some w =>
      when (s.scheduled p && s.sc p == w.last)
        (seq [settle p, onCore p (fun c => { c with wait := none }), rd fun s =>
          let hit := reached ((s.arrival p w.ctr + 2 ^ 32 - sameCycle % 2 ^ 32) % 2 ^ 32) (s.scalar p w.thr)
          either (hit || !w.isFault)
            (seqStep p 1 none (setScalar p w.rd (b2n hit)))
            (seqError p F.CORE_SEQ_ERR_ARRIVAL_LATE 0x0109)])) s

/-- SEQ_HALT (R222): the program ends; once every core of the flask has executed HALT the flask enters HALTED. -/
def execSeqHalt (core : CoreId) (s : State) : Host.Outcome State Fault Refusal :=
  run (rd fun s =>
    let p := core.val
    when (s.seqReady p)
      (seq [settle p, fadd F.CORE_SC_SC p 1, onCore p (fun c => { c with halted := true }),
        rd fun s => match s.flaskOf p with
          | some f => when ((s.mouldPhys f).all (fun q => (s.core q).halted)) (haltNow f 2 0xFFFF false false)
          | none => nop])) s

/-! Commands: the ALU (R210). -/

/-- An ALU operation: rd takes a function of two registers, modulo 2^64. -/
def alu (core : CoreId) (d ra rb : Fin 32) (f : Nat → Nat → Nat) : Eff :=
  seqStep core.val 1 none (rd fun s => setScalar core.val d.val (f (s.scalar core.val ra.val) (s.scalar core.val rb.val)))

/-- A shift: rd takes a function of a register and an amount below 64; for a larger amount no rule gives the result. -/
def aluShift (core : CoreId) (d ra rb : Fin 32) (f : Nat → Nat → Nat) : Eff :=
  seqStep core.val 1 none (rd fun s =>
    let n := s.scalar core.val rb.val
    if n < 64 then setScalar core.val d.val (f (s.scalar core.val ra.val) n) else draw (fun v => setScalar core.val d.val v))

/-- ALU_ADD. -/
def execAluAdd (core : CoreId) (d ra rb : Fin 32) (s : State) : Host.Outcome State Fault Refusal := run (alu core d ra rb (fun a b => a + b)) s

/-- ALU_SUB. -/
def execAluSub (core : CoreId) (d ra rb : Fin 32) (s : State) : Host.Outcome State Fault Refusal :=
  run (alu core d ra rb (fun a b => a + 2 ^ 64 - b)) s

/-- ALU_AND. -/
def execAluAnd (core : CoreId) (d ra rb : Fin 32) (s : State) : Host.Outcome State Fault Refusal := run (alu core d ra rb (fun a b => a &&& b)) s

/-- ALU_OR. -/
def execAluOr (core : CoreId) (d ra rb : Fin 32) (s : State) : Host.Outcome State Fault Refusal := run (alu core d ra rb (fun a b => a ||| b)) s

/-- ALU_XOR. -/
def execAluXor (core : CoreId) (d ra rb : Fin 32) (s : State) : Host.Outcome State Fault Refusal := run (alu core d ra rb (fun a b => a ^^^ b)) s

/-- ALU_SHL. -/
def execAluShl (core : CoreId) (d ra rb : Fin 32) (s : State) : Host.Outcome State Fault Refusal :=
  run (aluShift core d ra rb (fun a n => a * 2 ^ n)) s

/-- ALU_SHR. -/
def execAluShr (core : CoreId) (d ra rb : Fin 32) (s : State) : Host.Outcome State Fault Refusal :=
  run (aluShift core d ra rb (fun a n => a / 2 ^ n)) s

/-- ALU_LI. -/
def execAluLi (core : CoreId) (d : Fin 32) (imm : Word) (s : State) : Host.Outcome State Fault Refusal :=
  run (seqStep core.val 1 none (setScalar core.val d.val imm.toNat)) s

/-- ALU_ADDI. -/
def execAluAddi (core : CoreId) (d ra : Fin 32) (imm : Word) (s : State) : Host.Outcome State Fault Refusal :=
  run (alu core d ra 0 (fun a _ => a + imm.toNat)) s

/-- ALU_READ_SC. -/
def execAluReadSc (core : CoreId) (d : Fin 32) (s : State) : Host.Outcome State Fault Refusal :=
  run (seqStep core.val 1 none (rd fun s => setScalar core.val d.val (s.sc core.val))) s

/-! Commands: queue operations and elastic traffic (R218, R244 to R247). -/

/-- QOP_SEND. -/
def execQopSend (core : CoreId) (queue : Fin 8192) (d areg : Fin 32) (addr : BitVec 28) (s : State) : Host.Outcome State Fault Refusal :=
  run (seqStep core.val 1 none (rd fun s =>
    qopSend core.val (s.queueId core.val queue.val) d.val (s.qopAddr core.val areg.val addr.toNat))) s

/-- QOP_POP. -/
def execQopPop (core : CoreId) (queue : Fin 8192) (d areg : Fin 32) (addr : BitVec 28) (s : State) : Host.Outcome State Fault Refusal :=
  run (seqStep core.val 1 none (rd fun s =>
    qopPop core.val (s.queueId core.val queue.val) d.val (s.qopAddr core.val areg.val addr.toNat))) s

/-- QOP_POST. -/
def execQopPost (core : CoreId) (queue : Fin 8192) (d areg : Fin 32) (addr : BitVec 28) (s : State) : Host.Outcome State Fault Refusal :=
  run (seqStep core.val 1 none (rd fun s =>
    qopPost core.val (s.queueId core.val queue.val) d.val (s.qopAddr core.val areg.val addr.toNat))) s

/-- QOP_LEVEL. -/
def execQopLevel (core : CoreId) (queue : Fin 8192) (d : Fin 32) (s : State) : Host.Outcome State Fault Refusal :=
  run (seqStep core.val 1 none (rd fun s => qopLevel core.val (s.queueId core.val queue.val) d.val)) s

/-- CREDIT_TIMER: a receiver sends a credit packet once CREDIT_BATCH pops have accumulated, or 256 cycles after a pop
that none covers (R245). -/
def execCreditTimer (queue : Fin 2097152) (s : State) : Host.Outcome State Fault Refusal :=
  run (rd fun s =>
    let q := queue.val
    let x := s.queue q
    let late := match x.uncoveredAt, s.qPhys q with | some t, some p => decide (t + 256 ≤ s.sc p) | _, _ => false
    when (x.kind == .elasticRx && x.popped != x.credited && (decide (sub16 x.popped x.credited ≥ x.creditBatch) || late))
      (creditSend q)) s

/-- CREDIT_PACKET: a sender takes the cumulative count of its receiver's pops (R245). -/
def execCreditPacket (queue : Fin 2097152) (consumed : BitVec 16) (s : State) : Host.Outcome State Fault Refusal :=
  run (creditTake queue.val consumed.toNat) s

/-- ELASTIC_ENTRY_ARRIVAL: an entry from the queue of an FA, with its write tag, reaches its ring (R247, R413). -/
def execElasticEntryArrival (queue : Fin 2097152) (peer tag : Nat) (entry : List Byte) (poison : Bool) (s : State) :
    Host.Outcome State Fault Refusal :=
  run (entryArrive queue.val peer tag entry poison) s

end Sys2Proof.Machine
end

