-- ==== Sys2Proof/Machine/Access.lean ====
section
/-! DEFINITION. An access by fabric address served at its target (R45 to R47, R265 to R270, R331). -/
namespace Sys2Proof.Machine

/-- The bytes an operation moves. -/
def opLen : AccessOp → Nat
  | .read n => n
  | .write b => b.length
  | .addOnWrite _ b => b.length

/-- The operation writes. -/
def opWrites : AccessOp → Bool
  | .read _ => false
  | _ => true

/-- A form's size and alignment are permitted at its target (R266, R331, R457; registers and doorbell words are read and written as 4 or 8 aligned
bytes, a queue takes entries of 64 B). -/
def formOk (fa : Nat) (op : AccessOp) : Bool :=
  let n := opLen op
  let natural (l : List Nat) := l.elem n && fa % n == 0
  match faSpace fa, op with
  | 0, .addOnWrite fmt _ => natural [64, 256] && (fmt == 5 || fmt == 0xF || fmt == 0x10)
  | 1, .addOnWrite fmt _ => natural [64, 256] && (fmt == 5 || fmt == 0xF || fmt == 0x10)
  | 0, _ => natural [4, 8, 16, 32, 64, 256]
  | 1, _ => natural [4, 8, 16, 32, 64, 256]
  | 2, .addOnWrite _ _ => false
  | 3, .addOnWrite _ _ => false
  | 2, _ => natural [4, 8]
  | 3, _ => natural [4, 8]
  | _, .write _ => natural [4, 8, 64]
  | _, .read _ => natural [4, 8]
  | _, _ => false

/-- Elements of data as parts of a line or sector. -/
def dataParts (w : Nat) (poison : Bool) : Nat → Nat → Nat → List (Nat × Nat × Nat × Bool)
  | 0, _, _ => []
  | n + 1, off, v => (off, w, v % 2 ^ w, poison) :: dataParts w poison n (off + w) (v / 2 ^ w)

/-- An add-on-write of one or four lines (R266, R330, R331): entries of the gather buffer that hold them are flushed first. -/
def addOn (fa fmt : Nat) (data : List Byte) (poison : Bool) : Eff :=
  let w := fmtBits fmt
  let n := data.length / 64
  let lines : Eff := rd fun s =>
    let old := s.faData fa data.length
    let bad := (List.range n).filter (fun l => (s.faData (fa + 64 * l) 64).2)
    let r := applyParts true fmt bad (dataParts w poison (data.length * 8 / w) 0 (leNat data)) (leNat old.1, Flags.none, [])
    each (List.range n) (fun l => faStore (fa + 64 * l) (natLe 64 (r.1 / 2 ^ (512 * l))) (r.2.2.elem l || bad.elem l))
  rd fun s =>
    if faSpace fa = 0 then
      (match s.physOf (faCore fa) with
       | some p => seq [each (touched 64 (faSpd fa) data.length) (gatherFlush p), lines]
       | none => nop)
    else lines

/-- What a read of a doorbell page's word returns: 0 for a queue in UNBOUND (R457). -/
def State.queueWord (s : State) (q word : Nat) : Nat :=
  if s.qState q = 0 then 0
  else match Reg.queueWords[word]? with
    | some r => s.regVal r q
    | none => 0

/-- An access that passed every check takes effect: a register or a doorbell word as BAR0 and BAR2 give them (R457), a parent's
telemetry record by its child's Crucible (R535); `k` receives what it returns: bytes, poison, 0. -/
def serveOk (fa : Nat) (op : AccessOp) (counter : Option Nat) (poison : Bool) (peer tag : Nat) (k : List Byte → Bool → Nat → Eff) : Eff := rd fun s =>
  let count : Eff := match counter, s.physOf (faCore fa) with
    | some c, some p => when (faSpace fa == 0) (arriveAfter p c)
    | _, _ => nop
  match faSpace fa with
  | 4 => match op with
    | .write b =>
      if b.length = 64 then seq [entryArrive (faQueue fa) peer tag b poison, k [] false 0]
      else seq [queueWordWrite (faQueue fa) (fa % 64 / 8) (leNat b * 2 ^ (8 * (fa % 8))) (byteMask (fa % 8) b.length) false, k [] false 0]
    | .read n => k (((natLe 8 (s.queueWord (faQueue fa) (fa % 64 / 8))).drop (fa % 8)).take n) false 0
    | _ => nop
  | 2 | 3 =>
    match s.faReg fa, op with
    | some (r, i), .read n => seq [k ((natLe 8 (s.regVal r i)).drop (fa % 8) |>.take n) false 0, regReadClears r i (8 * (fa % 8)) (8 * n)]
    | some (r, i), .write b =>
      let mask := byteMask (fa % 8) b.length
      let v := leNat b * 2 ^ (8 * (fa % 8))
      if r = .PWR_TELEM_IN_p then
        seq [upd [.fld F.PWR_TELEM_IN_p_RECORD i ((v &&& mask) + (s.fget F.PWR_TELEM_IN_p_RECORD i - (s.fget F.PWR_TELEM_IN_p_RECORD i &&& mask)))],
          k [] false 0]
      else seq [regWrite r i mask v, k [] false 0]
    | _, _ => nop
  | _ =>
    match op with
    | .read n => seq [when (faSpace fa == 1) (dramRead (faDram fa) n none), rd fun s => k (s.faData fa n).1 (s.faData fa n).2 0]
    | .write b => seq [faStore fa b poison, count, k [] false 0]
    | .addOnWrite fmt b => seq [addOn fa fmt b poison, count, k [] false 0]

/-- An access by fabric address (R47): checked in order; a read that fails returns poisoned data, a write that fails is
discarded. An access to a stack to which only refresh is issued waits (R290). -/
def serve (i : Initiator) (fa : Nat) (op : AccessOp) (counter : Option Nat) (poison : Bool) (peer tag : Nat)
    (k : List Byte → Bool → Nat → Eff) : Eff := rd fun s =>
  let r := s.faReason i fa (opLen op) (opWrites op) (formOk fa op)
  if r ≠ 0 then seq [faFault fa r (opWrites op), k (match op with | .read n => List.replicate n 0 | _ => []) (!opWrites op) r]
  else when (faSpace fa != 1 || s.dramOpen (faDram fa) (opLen op)) (serveOk fa op counter poison peer tag k)

end Sys2Proof.Machine
end

