-- ==== Sys2Proof/Machine/Ladle.lean ====
section
/-! DEFINITION. The Ladle engines (R307 to R351): issue and validation, scheduled channels, elastic contexts, sector writes
and acknowledgements, interruption and capture. A context's plans are recomputed from its descriptor (`LDesc.plan`). -/
namespace Sys2Proof.Machine

/-! Validation (R311 to R313, R317, R320, R322, R324, R330, R332, R335, R339). -/

/-- Reserved fields and bits, and fields that an operation leaves at 0 (R311, R312). -/
def ldlReserved (b : List Byte) (d : LDesc) : Bool :=
  let auxUsed := d.op == 3 || d.tiles || d.compresses || d.expands
  let meta_ := d.compresses || d.expands
  decide (d.flags ≥ 64) || decide (byteNum b 8 2 ≥ 4096) || byteNum b 0xB 1 != 0 || decide (byteNum b 0xC 2 ≥ 4096) ||
  byteNum b 0xE 2 != 0 || (!meta_ && d.metaFa != 0) || (!auxUsed && d.aux != 0) ||
  (!meta_ && decide (d.aux ≥ 2 ^ 32)) || (meta_ && bitsOf d.aux 6 26 != 0) || (!d.sbm && d.nnz != 0) ||
  decide (byteNum b 0x30 4 ≥ 2 ^ 24) || decide (byteNum b 0x34 4 ≥ 2 ^ 31) || byteNum b 0x38 8 != 0 ||
  (List.range 6).any (fun i =>
    let o := 0x40 + 32 * i
    if i < d.dims then
      decide (byteNum b o 4 ≥ 2 ^ 17) || decide (byteNum b (o + 0x10) 4 ≥ 2 ^ 31) || decide (byteNum b (o + 0x18) 4 ≥ 2 ^ 31) ||
      byteNum b (o + 0x1C) 4 != 0 || (i == 0 && (byteNum b (o + 4) 4 != 0 || byteNum b (o + 8) 4 != 0))
    else byteNum b o 32 != 0)

/-- OP and XFORM and their combination (R311, R324). -/
def LDesc.combines (d : LDesc) : Bool :=
  decide (d.xform ≤ 6) && (d.op == 1 || ((d.op == 2 || d.op == 3) && decide (d.xform ≤ 2)))

/-- The format is valid for the operation (R330, R339). -/
def LDesc.fmtOk (d : LDesc) : Bool :=
  if d.op = 2 then d.fmt == 5 || d.fmt == 0xF || d.fmt == 0x10
  else if d.compresses || d.expands then decide (d.fmt ≤ 0xE)
  else decide (d.fmt ≤ 0x10)

/-- Counts and extents are in range (R312). -/
def LDesc.rangesOk (d : LDesc) : Bool :=
  decide (1 ≤ d.dims) && decide (d.dims ≤ 6) &&
  d.ds.all (fun x => decide (1 ≤ x.count) && decide (x.count ≤ 65536) && decide (1 ≤ x.srcLimit) && decide (1 ≤ x.dstLimit))

/-- Alignment (R317, R320, R339). -/
def LDesc.aligned (d : LDesc) : Bool :=
  let x := d.dim 0
  let lines (i : Int) : Bool := i * d.size % 512 == 0
  (d.op == 3 || d.src % 64 == 0) && d.dst % 64 == 0 &&
  (d.ds.drop 1).all (fun x => (d.op == 3 || x.srcStride % 64 == 0) && x.dstStride % 64 == 0) &&
  lines x.count && (d.op == 3 || lines x.srcStart) && lines x.dstStart &&
  (!d.tiles || d.ts % 64 == 0) && (!(d.compresses || d.expands) || d.ms % 64 == 0)

/-- The geometry of the transforms (R320, R322, R323). -/
def LDesc.geometry (d : LDesc) : Bool :=
  let x := d.dim 0
  if d.tiles then (d.dim 1).dstStride == 0
  else if d.compresses || d.expands then
    decide (d.dims ≤ 2) && x.srcStart == 0 && x.dstStart == 0 && x.srcLimit == x.count && x.dstLimit == x.count &&
    x.count % d.tw == 0 && x.count / d.tw % d.group == 0 && decide (1 ≤ d.cols) && decide (d.cols ≤ d.tw) &&
    (!d.sbm || (decide (1 ≤ d.nnz) && decide (d.nnz ≤ 32)))
  else true

/-- Two byte ranges meet. -/
def meets : Option (Nat × Nat) → Option (Nat × Nat) → Bool
  | some a, some b => decide (a.1 ≤ b.2) && decide (b.1 ≤ a.2)
  | _, _ => false

/-- The footprints overlap (R339 reason 0x7): metadata is written by COMPRESS and read by EXPAND. -/
def LDesc.overlaps (d : LDesc) (p : LPlan) : Bool :=
  meets p.srcRange p.dstRange || (d.compresses && meets p.srcRange p.metaRange) || (d.expands && meets p.metaRange p.dstRange)

/-- Insert by the size of the destination stride. -/
def insStride (x : LDim) : List LDim → List LDim
  | [] => [x]
  | y :: ys => if x.dstStride.natAbs ≤ y.dstStride.natAbs then x :: y :: ys else y :: insStride x ys

/-- The remaining dimensions of the COLLIDE_FAULT test in ascending order of stride. -/
def stridesOk : Nat → List LDim → Bool
  | _, [] => true
  | e, x :: xs => decide (x.dstStride.natAbs ≥ e) && stridesOk (e + x.dstStride.natAbs * (x.count - 1)) xs

/-- The COLLIDE_FAULT test (R332). -/
def LDesc.separate (d : LDesc) : Bool :=
  let rest (n : Nat) := ((d.ds.drop n).filter (fun x => decide (x.count > 1))).foldr insStride []
  if d.tiles then
    let (col, row) := if d.xform = 1 then (d.dim 0, d.dim 1) else (d.dim 1, d.dim 0)
    let t := (col.dstLimit + d.tw - 1) / d.tw
    let one := row.dstLimit * d.tw * d.size / 8
    (decide (t ≤ 1) || decide (d.ts.natAbs ≥ one)) && stridesOk ((t - 1) * d.ts.natAbs + one) (rest 2)
  else stridesOk (((d.dim 0).count * d.size + 7) / 8) (rest 1)

/-- The spaces that the addresses name (R339 reason 0x5); `own` is the high part, above the scratchpad offset, of the
issuing core's own addresses. -/
def LDesc.spacesOk (d : LDesc) (own : Nat) : Bool :=
  let plain (fa : Nat) := decide (faSpace fa ≤ 1)
  let mine (fa : Nat) := fa / 2 ^ 28 == own
  let meta_ := d.compresses || d.expands
  (d.op == 3 || plain d.src) && plain d.dst && (!meta_ || plain d.metaFa) &&
  (!d.sched || ((d.op == 3 || mine d.src) && mine d.dst && (!meta_ || mine d.metaFa)))

/-- The reason of the first check that fails, 0 for a valid descriptor (R339). A relocation that leaves the scratchpad
fails with reason 0x7 (R211). -/
def ldlReason (own : Nat) (maskOk relocOut : Bool) (b : List Byte) : Nat :=
  let d := LDesc.parse b
  if !d.combines || ldlReserved b d || !maskOk then 1
  else if !d.fmtOk then 2
  else if !d.rangesOk then 3
  else
    let p := d.plan
    if p.nw > 2 ^ 24 then 3
    else if !d.aligned then 4
    else if !d.spacesOk own then 5
    else if !d.geometry then 6
    else if relocOut || d.overlaps p then 7
    else if d.collideFault && !d.separate then 8
    else if (d.pace != 0) != d.sched || (d.depth != 0) != d.stream || (d.stream && (d.op == 3 || faSpace d.src != 1)) ||
      (d.cntSel && faSpace d.dst != 0) then 9
    else if d.resume ≥ p.nw then 0xA
    else 0

/-! Plans of a job. -/

/-- The descriptor of a job. -/
def LdlJob.d (j : LdlJob) : LDesc := LDesc.parse j.desc

/-- A write is not performed: it lies before RESUME or SKIP marks it (R311, R342). -/
def LDesc.skips (d : LDesc) (w : Nat) : Bool := decide (w < d.resume) || (decide (w > d.resume) && decide (w ≤ d.resume + 31) && bitOf d.skip (w - d.resume - 1))

/-- The first write from a number on that is performed. -/
def LDesc.nextWrite (d : LDesc) (nw : Nat) (w : Nat) : Option Nat := ((List.range (nw - w)).map (fun i => w + i)).find? (fun x => !d.skips x)

/-- The number of leading writes that committed, those performed before counted with them (R341). -/
def leading (ok : Nat → Bool) (nw : Nat) : Nat := ((List.range nw).find? (fun w => !ok w)).getD nw

/-- The source of an engine's events. -/
def ldlWho (e : Nat) (j : LdlJob) : Who := ⟨e / 4, j.logical, 80 + e % 4, j.flask⟩

/-- Dropped points and clamped elements of a plan are counted (R315, R316). -/
def planCounts (e : Nat) (p : LPlan) : Eff := seq [fsat F.LDL_STAT_OOB_WR e p.oob, fsat F.LDL_CLAMP_CLAMP_RD e p.clamped]

/-- Overflows and faulty groups of a sector write: counted, and the first of a descriptor raised (R322, R323). -/
def secReports (e : Nat) (j : LdlJob) (told : Bool × Bool) (x : SecData) : Eff :=
  seq [
    when (decide (x.overflows > 0))
      (seq [fsat F.LDL_ERR_CMP_COUNT e x.overflows, fset F.LDL_ERR_CMP_OVERFLOW e 1,
        when (!told.1) (rd fun s => raise 0x0404 1 (ldlWho e j) [(8, s.fget F.LDL_ERR_CMP_COUNT e)])]),
    when (decide (x.faulty > 0))
      (seq [fsat F.LDL_ERR_META_COUNT e x.faulty, fset F.LDL_ERR_META e 1,
        when (!told.2) (rd fun s => raise 0x0405 1 (ldlWho e j) [(8, s.fget F.LDL_ERR_META_COUNT e)])])]

/-- What has been reported after a sector write. -/
def toldAfter (told : Bool × Bool) (x : SecData) : Bool × Bool := (told.1 || decide (x.overflows > 0), told.2 || decide (x.faulty > 0))

/-- The flags of ACCUMULATE (R330, R347). -/
def ldlFlags (e : Nat) (f : Flags) : Eff :=
  seq [when f.ovf (fset F.LDL_FLAGS_OVF e 1), when f.nan (fset F.LDL_FLAGS_NAN e 1), when f.inf (fset F.LDL_FLAGS_INF e 1),
    when f.poison (fset F.LDL_FLAGS_POISON e 1)]

/-- A sector laid over the 256 bytes at its target: for each line that its mask touches, its number 0 to 3, its new bytes,
whether it is written poisoned, whether it is written whole (R328, R333); and the flags. -/
def laySector (d : LDesc) (x : SecData) (old : List Byte) (oldBad : List Nat) : List (Nat × List Byte × Bool × Bool) × Flags :=
  let acc := d.op == 2
  let r := applyParts acc d.fmt oldBad x.parts (leNat old, Flags.none, [])
  (((List.range 4).filter (fun l => bitsOf x.mask (256 * l) 256 != 0)).map (fun l =>
    let whole := bitsOf x.mask (256 * l) 256 == 2 ^ 256 - 1
    (l, natLe 64 (r.1 / 2 ^ (512 * l)), r.2.2.elem l || (oldBad.elem l && (acc || !whole)), whole)), r.2.1)

/-! Issue (R210, R214, R308, R309, R339). -/

/-- A descriptor that fails at issue: recorded, and the flask reset. -/
def ldlFail (p e reason : Nat) : Eff :=
  seq [fset F.LDL_ERR_INVALID e 1, fset F.LDL_ERR_LAST_REASON e reason, containCore p 0x0401 (80 + e % 4) [(8, reason)]]

/-- A valid descriptor enters its channel or joins the jobs waiting for a context. -/
def ldlIssue (p e : Nat) (j : LdlJob) : Eff := rd fun s =>
  let l := s.ldl e
  if j.d.sched then
    let k := localOf p
    if (assoc ChanSt.idle l.chans k).job.isSome then
      seq [fset F.LDL_ERR_SCHED_OVERLAP e 1, containCore p 0x0402 (80 + e % 4) [(8, s.fget F.LDL_ERR_LAST_REASON e)]]
    else onLdl e (fun l => { l with chans := NMap.put ChanSt.idle l.chans k { ChanSt.idle with job := some j, issued := j.d.resume } })
  else if (l.waiting.filter (fun x => x.core == p)).length ≥ 16 then issueOverflow p
  else onLdl e (fun l => { l with waiting := l.waiting ++ [j] })

/-- SEQ_LDL: the LDL instruction reads four descriptor entries, relocates them, and issues the descriptor (R210, R211,
R313, R339). -/
def execSeqLdl (core : CoreId) (engine : Fin 4) (index : Fin 4096) (reloc : Fin 32) (mask : BitVec 16) (s : State) :
    Host.Outcome State Fault Refusal :=
  run (seqStep core.val 1 none (rd fun s =>
    let p := core.val
    let e := clusterOf p * 4 + engine.val
    let m := mask.toNat
    let r := relocate (s.descAt p index.val 256) (m % 32) (s.scalar p reloc.val) 5
    let lg := orFF (s.logOf p)
    let own := s.module * 2 ^ 20 + lg * 2 ^ 8
    let reason := ldlReason own (m == bitsOf m 0 1 + 4 * bitsOf m 2 1 + 16 * bitsOf m 4 1) r.2 r.1
    if reason = 0 then ldlIssue p e { desc := r.1, core := p, logical := lg, flask := (s.flaskOf p).getD 0 }
    else ldlFail p e reason)) s

/-! Scheduled channels (R307, R334). -/

/-- A line of the issuing core's own scratchpad as a channel reads it; a line outside it, or lost in a bank conflict, is
poisoned (R264). -/
def State.chanLine (s : State) (p own line : Nat) (lost : List Nat) : List Byte × Bool :=
  if line / 2 ^ 22 = own then
    let l := line % 2 ^ 22
    (s.spdRd p (l * 64) 64, NSet.mem s.spdPoison (p * 2 ^ 22 + l) || lost.elem l)
  else (List.replicate 64 0, true)

/-- A sector write of a channel: lines of the core's own scratchpad; a line lost in a bank conflict is marked poisoned
instead. -/
def chanWrite (p e own : Nat) (d : LDesc) (x : SecData) (lost : List Nat) : Eff := rd fun s =>
  if x.sector / 2 ^ 20 = own then
    let base := x.sector % 2 ^ 20 * 256
    let bad := (List.range 4).filter (fun l => NSet.mem s.spdPoison (p * 2 ^ 22 + base / 64 + l))
    let r := laySector d x (s.spdRd p base 256) bad
    seq [each r.1 (fun l => either (lost.elem (base / 64 + l.1)) (spdMark p (base / 64 + l.1)) (spdWr p (base + 64 * l.1) l.2.1 l.2.2.1)),
      ldlFlags e r.2, fadd F.LDL_SECTORS_COUNT e 1]
  else nop

/-- The writes that a slot issues: at most two, in order, whose reads were all made before (R334). -/
def slotWrites (d : LDesc) (ws : List LSec) (have_ : Nat) : Nat → Nat → List (Nat × LSec)
  | 0, _ => []
  | n + 1, w =>
    match d.nextWrite ws.length w with
    | none => []
    | some x => match ws[x]? with
      | some sec => if sec.need ≤ have_ then (x, sec) :: slotWrites d ws have_ n (x + 1) else []
      | none => []

/-- LDL_SCHED_SLOT: a channel's slot reads eight plan lines and issues up to two sector writes (R334); `lost` are lines that
lose their bank's cycle with the winner's requester ID (R264). -/
def execLdlSchedSlot (engine : LdlId) (channel : Fin 8) (lost : List (Nat × Nat)) (s : State) : Host.Outcome State Fault Refusal :=
  run (rd fun s =>
    let e := engine.val
    let k := channel.val
    let p := physAt (e / 4) k
    let c := assoc ChanSt.idle (s.ldl e).chans k
    match c.job with
    | none => nop
    | some j =>
      let d := j.d
      let pl := d.plan
      let ws := pl.writes.reverse
      let own := s.module * 2 ^ 20 + j.logical * 2 ^ 8
      let gone := lost.map (fun x => x.1)
      let lines := c.lines ++ ((pl.reads.reverse.drop (8 * c.slot)).take 8).map (fun l => s.chanLine p own l gone)
      let go := slotWrites d ws (8 * c.slot) 2 c.issued
      let datas := go.map (fun x => x.2.data d lines)
      let next := match go.getLast? with | some x => x.1 + 1 | none => c.issued
      let done := (d.nextWrite ws.length next).isNone && decide (8 * (c.slot + 1) ≥ pl.nr)
      let c' : ChanSt := { c with slot := c.slot + 1, lines, issued := next, told := datas.foldl toldAfter c.told }
      when (s.scheduled p)
        (seq [
          when (c.slot == 0) (planCounts e pl),
          each lost (fun x => spdConflict p x.2 (80 + e % 4)),
          seq (datas.map (fun x => chanWrite p e own d x gone)),
          secReports e j c.told
            { sector := 0, mask := 0, parts := [], overflows := (datas.map SecData.overflows).sum, faulty := (datas.map SecData.faulty).sum },
          onLdl e (fun l => { l with chans := NMap.put ChanSt.idle l.chans k (if done then ChanSt.idle else c') }),
          when (done && d.cntEn) (arriveAfter p d.counter)])) s

/-! Elastic contexts (R307 to R309, R327, R335, R337, R338, R341). -/

/-- A context's state. -/
def State.ctx (s : State) (e n : Nat) : CtxSt := assoc CtxSt.empty (s.ldl e).ctxs n

/-- A change to a context. -/
def onCtx (e n : Nat) (f : CtxSt → CtxSt) : Eff :=
  onLdl e (fun l => { l with ctxs := NMap.put CtxSt.empty l.ctxs n (f (assoc CtxSt.empty l.ctxs n)) })

/-- A write counts as committed in a context (R341). -/
def CtxSt.did (c : CtxSt) (d : LDesc) (w : Nat) : Bool := d.skips w || c.committed.elem w

/-- LDL_CTX_n.LAST_SECTOR shows a running context's progress (R348). -/
def ctxProgress (e n : Nat) : Eff := rd fun s =>
  match (s.ctx e n).job with
  | some j => fset F.LDL_CTX_n_LAST_SECTOR (e * 4 + n) (leading ((s.ctx e n).did j.d) j.d.plan.nw)
  | none => nop

/-- The trackers of a context close. -/
def trackersClose (e n : Nat) : Eff := rd fun s =>
  each s.caches (fun c => when (c.2.trackers.any (fun t => t.engine == e && t.ctx == n))
    (onCache c.1 (fun c => { c with trackers := c.trackers.filter (fun t => !(t.engine == e && t.ctx == n)) })))

/-- The arrival counter that a completed descriptor increments (R338): the issuing core's, or the one of the core that DST
names, on its own module or by message to another. -/
def ldlArrive (j : LdlJob) : Eff := rd fun s =>
  let d := j.d
  when d.cntEn
    (if d.cntSel then
       (if faModule d.dst = s.module then (match s.physOf (faCore d.dst) with | some p => arriveAfter p d.counter | none => nop)
        else sendMod (faModule d.dst) .elasticReq false false [3, d.dst, d.counter] (reqBytes d.dst 2 0xFF 0 1 d.tag d.counter j.logical s.pourTag []))
     else arriveAfter j.core d.counter)

/-- A context ends with a status (R337, R341): its progress is shown and, unless it completed, captured; a status other
than OK raises LDL_DESC_FAULT. -/
def ctxEnd (e n status exact cause : Nat) : Eff := rd fun s =>
  let c := s.ctx e n
  let i := e * 4 + n
  match c.job with
  | none => nop
  | some j =>
    let d := j.d
    let nw := d.plan.nw
    let last := leading (c.did d) nw
    let window := (List.range 31).foldl (fun m b => if last + 1 + b < nw ∧ c.did d (last + 1 + b) = true then m + 2 ^ b else m) 0
    let captured := status == 1 || status == 3
    seq [fset F.LDL_CTX_n_LAST_SECTOR i last, fset F.LDL_CTX_n_STATUS i status, fset F.LDL_CTX_n_EXACT i exact,
      fset F.LDL_CTX_n_BUSY i 0, fset F.LDL_CTX_n_ABORTING i 0, fset F.LDL_CTX_n_CAUSE i cause,
      when captured
        (seq [fset F.LDL_CTXW_n_WINDOW i window, fset F.LDL_STAT_LAST_SECTOR e last, fset F.LDL_STAT_CTX e n, fset F.LDL_STAT_STATUS e status,
          fset F.LDL_STAT_EXACT e exact, fset F.LDL_STAT_VALID e 1]),
      when (status == 2) (fset F.LDL_ERR_READ_FAULT e 1),
      when (status == 3) (fset F.LDL_ERR_WRITE_FAIL e 1),
      when (status != 0) (raise 0x0403 1 (ldlWho e j) [(1, j.logical), (2, d.tag), (1, status), (4, last)]),
      trackersClose e n, onCtx e n (fun _ => CtxSt.empty),
      when (status == 0) (ldlArrive j)]

/-- A descriptor every write of which has been acknowledged completes (R337). -/
def ctxDone (e n : Nat) : Eff := rd fun s =>
  let c := s.ctx e n
  match c.job with
  | none => nop
  | some j =>
    let p := j.d.plan
    when (c.abortCause == 0 && c.open_.isEmpty && (j.d.nextWrite p.nw c.issued).isNone && c.lines.length == p.nr)
      (ctxEnd e n (if c.readFault then 2 else 0) 0 0)

/-- One line of the read plan is read (R325, R328, R335, R337): from this module under the checks of R47, or as another module
supplied it; a failed read returns poisoned data. -/
def ctxRead (e n line : Nat) (j : LdlJob) : Eff := rd fun s =>
  let fa := line * 64
  let put (x : List Byte × Bool) (bad : Bool) : Eff := onCtx e n (fun c => { c with lines := c.lines ++ [x], readFault := c.readFault || bad })
  let ask : Eff := sendMod (faModule fa) .elasticReq false false [0, fa, 64] (reqBytes fa 1 4 0 0 j.d.tag 0 j.logical s.pourTag [])
  if faModule fa = s.module then
    let r := s.faReason ⟨false, some j.flask, 0⟩ fa 64 false (decide (faSpace fa ≤ 1))
    if r = 0 then seq [when (faSpace fa == 1) (dramRead (faDram fa) 64 (some (e, n))), put (s.faData fa 64) false]
    else seq [faFault fa r false, put (List.replicate 64 0, true) true]
  else match (s.ctx e n).remote.find? (fun x => x.1 == line) with
    | some x => seq [ask, put (x.2, false) false]
    | none => seq [ask, put (List.replicate 64 0, true) true]

/-- The read plan runs on until a number of lines have been read. -/
def ctxReads (e n upTo : Nat) : Eff := rd fun s =>
  match (s.ctx e n).job with
  | none => nop
  | some j => each ((j.d.plan.reads.reverse.take upTo).drop (s.ctx e n).lines.length) (fun l => ctxRead e n l j)

/-- Open the trackers of a stream in the home cache of each address it reads, where one of 32 is free (R286, R335). -/
def trackersOpen (e n : Nat) (j : LdlJob) : Eff :=
  let d := j.d
  let lines := (d.plan.reads.reverse.map (fun l => faDram (l * 64) / 256)).foldr (fun l acc => if acc.head? = some l then acc else l :: acc) []
  when d.stream (each (List.range 20) (fun h => rd fun s =>
    let mine := lines.filter (fun l => homeOf (l * 256) == h)
    when (!mine.isEmpty && decide ((s.cache h).trackers.length < 32))
      (onCache h (fun c => { c with trackers := c.trackers ++ [{ engine := e, ctx := n, flask := j.flask, todo := mine, depth := d.depth, ahead := 0 }] }))))

/-- The job that enters a free context next: the oldest of the core next in rotation (R309). -/
def LdlSt.pick (l : LdlSt) : Option LdlJob :=
  ((List.range 140).map (fun i => (l.lastServed + 1 + i) % 140)).findSome? (fun c => l.waiting.find? (fun j => j.logical == c))

/-- A list without the first entry that equals one. -/
def dropFirst (j : LdlJob) : List LdlJob → List LdlJob
  | [] => []
  | x :: xs => if x = j then xs else x :: dropFirst j xs

/-- LDL_CONTEXT_START: the next waiting descriptor enters a free context (R309, R348); `remote` are the source lines that
other modules will supply. -/
def execLdlContextStart (engine : LdlId) (ctx : Fin 4) (remote : List (Nat × List Byte)) (s : State) : Host.Outcome State Fault Refusal :=
  run (rd fun s =>
    let e := engine.val
    let n := ctx.val
    let i := e * 4 + n
    match (s.ctx e n).job, (s.ldl e).pick with
    | none, some j =>
      let p := j.d.plan
      seq [onLdl e (fun l => { l with waiting := dropFirst j l.waiting, lastServed := j.logical }),
        onCtx e n (fun _ => { CtxSt.empty with job := some j, remote, issued := j.d.resume }),
        fset F.LDL_CTX_n_STATUS i 0, fset F.LDL_CTX_n_EXACT i 0, fset F.LDL_CTX_n_BUSY i 1, fset F.LDL_CTX_n_ABORTING i 0,
        fset F.LDL_CTX_n_CORE i j.logical, fset F.LDL_CTX_n_TAG i j.d.tag, fset F.LDL_CTX_n_FLASK i j.flask, fset F.LDL_CTX_n_CAUSE i 0,
        fset F.LDL_CTXW_n_WINDOW i 0, planCounts e p, trackersOpen e n j, ctxProgress e n,
        when (j.d.nextWrite p.nw j.d.resume).isNone (ctxReads e n p.nr), ctxDone e n]
    | _, _ => nop) s

/-! Sector writes (R327, R333). -/

/-- A write may go now: it is one discarded once that is to be sent again, or the next in order within the 32 that follow
the lowest unacknowledged, with no earlier write to its sector open (R327). -/
def CtxSt.mayGo (c : CtxSt) (d : LDesc) (ws : List LSec) (w : Nat) : Bool :=
  c.abortCause == 0 && !(c.atTarget.any (fun x => x.1 == w)) &&
  ((c.open_.elem w && c.resent.elem w) ||
   (d.nextWrite ws.length c.issued == some w && decide (c.open_.length < 32) &&
    (match c.open_ with | o :: _ => decide (w ≤ o + 32) | [] => true) &&
    c.open_.all (fun o => match ws[o]?, ws[w]? with | some a, some b => a.sector != b.sector | _, _ => false)))

/-- The DRAM that a write's reads and its target touch answers now (R290). -/
def State.sectorOpen (s : State) (fas : List Nat) : Bool :=
  fas.all (fun fa => faModule fa != s.module || faSpace fa != 1 || s.dramOpen (faDram fa) 64)

/-- A sector is committed at a target on this module: every masked bit of its four lines at once (R333). -/
def sectorCommit (e : Nat) (d : LDesc) (x : SecData) : Eff := rd fun s =>
  let fa := x.sector * 256
  let old := s.faData fa 256
  let bad := (List.range 4).filter (fun l => (s.faData (fa + 64 * l) 64).2)
  let r := laySector d x old.1 bad
  seq [
    if faSpace fa = 0 then
      (match s.physOf (faCore fa) with
       | some p => each r.1 (fun l => either l.2.2.2 (lineWrite p (faSpd fa + 64 * l.1) l.2.1 l.2.2.1) (spdWr p (faSpd fa + 64 * l.1) l.2.1 l.2.2.1))
       | none => nop)
    else seq [cacheAccess (faDram fa) 256 true none, each r.1 (fun l => dramWr (faDram fa + 64 * l.1) l.2.1 l.2.2.1)],
    ldlFlags e r.2, fadd F.LDL_SECTORS_COUNT e 1]

/-- A sector write leaves a context: its reads are made, it is sent, and a target on this module commits or discards it;
`arrives` says that its last beat comes within 1 µs with a good CRC. -/
def sectorGo (e n w : Nat) (arrives : Bool) : Eff := rd fun s =>
  let c := s.ctx e n
  match c.job with
  | none => nop
  | some j =>
    let d := j.d
    let p := d.plan
    let ws := p.writes.reverse
    match ws[w]? with
    | none => nop
    | some sec =>
      let upTo := if (d.nextWrite ws.length (w + 1)).isNone then p.nr else sec.need
      let fa := sec.sector * 256
      when (c.mayGo d ws w && s.sectorOpen (fa :: ((p.reads.reverse.take upTo).drop c.lines.length).map (fun l => l * 64)))
        (seq [
          ctxReads e n upTo,
          rd fun s =>
            let x := sec.data d (s.ctx e n).lines
            let fresh := !c.open_.elem w
            let local_ := faModule fa == s.module
            let r := s.faReason ⟨false, some j.flask, 0⟩ fa 256 true (decide (faSpace fa ≤ 1))
            let out := if !arrives then AckOutcome.discarded else if r = 0 then AckOutcome.committed else AckOutcome.refused
            seq [
              when fresh (seq [secReports e j c.told x, onCtx e n (fun c => { c with told := toldAfter c.told x })]),
              onCtx e n (fun c => { c with
                issued := if fresh then w + 1 else c.issued, open_ := if fresh then c.open_ ++ [w] else c.open_,
                resent := if fresh then c.resent else c.resent,
                atTarget := if local_ then c.atTarget ++ [(w, out)] else c.atTarget }),
              either local_
                (seq [when (out == .committed) (sectorCommit e d x), when (out == .refused) (faFault fa r true)])
                (sendMod (faModule fa) .elasticReq false false ([1, fa, d.op, d.fmt, x.mask] ++ x.parts.flatMap (fun y => [y.1, y.2.1, y.2.2.1]))
                  (reqBytes fa (if d.op = 2 then 4 else 2) 5 (if d.op = 2 then d.fmt else 0) 0 (e * 2 ^ 25 + n * 2 ^ 23 + w % 2 ^ 23) 0 j.logical s.pourTag
                    (natLe 256 (x.parts.foldl (fun n y => putBits n y.1 y.2.1 y.2.2.1) 0) ++
                     (if x.mask = fullMask then [] else natLe 128 x.mask))))]])

/-- SECTOR_WRITE: a sector write of a context reaches its target whole, and is committed if its CRC checks, else
discarded (R327, R333). -/
def execSectorWrite (engine : LdlId) (ctx : Fin 4) (write : Nat) (crcOk : Bool) (s : State) : Host.Outcome State Fault Refusal :=
  run (sectorGo engine.val ctx.val write crcOk) s

/-- SECTOR_BEAT_TIMEOUT: a sector's last beat has not arrived 1 µs after its first and it is discarded (R333). -/
def execSectorBeatTimeout (engine : LdlId) (ctx : Fin 4) (write : Nat) (s : State) : Host.Outcome State Fault Refusal :=
  run (sectorGo engine.val ctx.val write false) s

/-- An acknowledgement reaches its context (R327, R337, R341). -/
def sectorAck (e n w : Nat) (told : AckOutcome) : Eff := rd fun s =>
  let c := s.ctx e n
  match c.job with
  | none => nop
  | some j =>
    let ws := j.d.plan.writes.reverse
    let local_ := match ws[w]? with | some x => faModule (x.sector * 256) == s.module | none => false
    let out := (c.atTarget.find? (fun x => x.1 == w)).map (fun x => x.2)
    let c' : CtxSt := { c with open_ := c.open_.filter (fun x => x != w), atTarget := c.atTarget.filter (fun x => x.1 != w) }
    let stop : Eff := seq [onCtx e n (fun _ => { c' with abortCause := 4 }), fset F.LDL_CTX_n_ABORTING (e * 4 + n) 1]
    when (c.open_.elem w && (!local_ || out.isSome))
      (match (if local_ then out.getD told else told) with
       | .committed =>
         seq [onCtx e n (fun _ => { c' with committed := NSet.add c.committed w }), when (!local_) (fadd F.LDL_SECTORS_COUNT e 1),
           ctxProgress e n, ctxDone e n]
       | .discarded =>
         if c.abortCause ≠ 0 then onCtx e n (fun _ => c')
         else if c.resent.elem w then stop
         else onCtx e n (fun _ => { c' with open_ := c.open_, resent := c.resent ++ [w] })
       | .refused => if c.abortCause ≠ 0 then onCtx e n (fun _ => c') else stop)

/-- SECTOR_ACK: a sector's acknowledgement reaches the engine (R327, R337). -/
def execSectorAck (engine : LdlId) (ctx : Fin 4) (write : Nat) (outcome : AckOutcome) (s : State) : Host.Outcome State Fault Refusal :=
  run (sectorAck engine.val ctx.val write outcome) s

/-! Interruption (R340, R341, R344). -/

/-- A context stops issuing under a master reset. -/
def ctxAbort (e n cause : Nat) : Eff := rd fun s =>
  when ((s.ctx e n).job.isSome && (s.ctx e n).abortCause == 0)
    (seq [onCtx e n (fun c => { c with abortCause := cause }), fset F.LDL_CTX_n_ABORTING (e * 4 + n) 1])

/-- LDL_ABORT: LDL_CTL.ABORT bits are written (R340, R344). -/
def execLdlAbort (engine : LdlId) (mask : Fin 16) (s : State) : Host.Outcome State Fault Refusal :=
  run (each ((List.range 4).filter (fun n => bitOf mask.val n)) (fun n => ctxAbort engine.val n 3)) s

/-- The status and cause that a context's interruption reports (R337, R348). -/
def ctxCapture (e n exact : Nat) : Eff := rd fun s =>
  let c := s.ctx e n
  ctxEnd e n (if c.abortCause = 4 then 3 else 1) exact c.abortCause

/-- ABORT_RESOLVE_TIMEOUT: 4 µs after a master reset, unresolved writes count as not committed (R341). -/
def execAbortResolveTimeout (engine : LdlId) (ctx : Fin 4) (s : State) : Host.Outcome State Fault Refusal :=
  run (rd fun s =>
    let c := s.ctx engine.val ctx.val
    when (c.abortCause != 0) (ctxCapture engine.val ctx.val (b2n c.open_.isEmpty))) s

/-- ABORT_CAPTURE: every issued write has resolved and the progress is captured (R341). -/
def execAbortCapture (engine : LdlId) (ctx : Fin 4) (s : State) : Host.Outcome State Fault Refusal :=
  run (rd fun s =>
    let c := s.ctx engine.val ctx.val
    when (c.abortCause != 0 && c.open_.isEmpty) (ctxCapture engine.val ctx.val 1)) s

end Sys2Proof.Machine
end

