-- ==== Sys2Proof/Machine/Runner.lean ====
section
/-! DEFINITION. Runner ports (R385, R398 to R401): training, qualification, spare lanes and what leaving UP does; link keys
(R423, R424, R658 to R660). -/
namespace Sys2Proof.Machine

/-- A port as an event source: the cluster of its primary column (R7, R356) and its unit (R491). -/
def portWho (n f : Nat) : Who :=
  let q := n % 12
  { cluster := clusterOf ((if n < 12 then 0 else 9) * 16 + q + q / 3), core := 0xFF, unit := 84 + n, flask := f }

/-- The flasks whose RUNNER_SLOTS use a port. -/
def State.portFlasks (s : State) (n : Nat) : List Nat := s.liveFlasks.filter (fun f => !((s.flask f).active.sect 5 n 0).isEmpty)

/-- The plan in force uses a port. -/
def State.portUsed (s : State) (n : Nat) : Bool := s.pour.used.elem n

/-! MB_PORT_CTL's records (R486). -/

/-- A port has reached the end that an MB_PORT_CTL operation waits for (R486): DOWN for a disable, out of DOWN for an
enable, UP or FAILED for a retrain. -/
def portFinal (op st : Nat) : Bool :=
  match op with
  | 0 => st == 0
  | 1 => st != 0
  | _ => decide (st ≥ 4)

/-- The record of a port: its state, the lanes that passed, the lane its spare serves, the attempts made. -/
def State.portRecord (s : State) (n op : Nat) : List Byte :=
  let st := s.portState n
  let spare := if s.flag F.RUN_STAT_SPARE_USED n then s.fget F.RUN_STAT_SPARE_FOR n else 0xFF
  let tries := if op = 0 then 0 else (s.port n).fails.length + b2n (st != 5 && st != 0)
  natLe 1 n ++ natLe 1 st ++ natLe 1 (s.fget F.RUN_STAT_LANE_OK n) ++ natLe 1 spare ++ natLe 1 tries ++ natLe 3 0

/-- A port finishes for one command: its record joins the result, and the last port ends the command. -/
def portCtlEnd (n k : Nat) : Eff := rd fun s =>
  let m := s.slot k
  let total := ((List.range 24).filter (fun p => bitOf (leAt m.args 0 4) p)).length
  let left := m.waitOn.filter (fun p => p != n)
  let bs := Mem.rdN m.payload 0 m.resultLen ++ s.portRecord n (leAt m.args 4 1)
  let bad := (List.range (bs.length / 8)).any (fun i => leAt bs (8 * i + 1) 1 == 5)
  seq [mbResult k bs,
    onSlot k (fun x => { x with waitOn := left, state := 3, progress := min 255 (256 * (total - left.length) / max total 1) }),
    when left.isEmpty (either bad (mbFail k 0x0505) (mbDone k 0))]

/-- A port has changed its state: commands that wait for it take its record. -/
def portCtl (n : Nat) : Eff := rd fun s =>
  each (s.slotsRunning (fun m => m.cmd == 0x0205 && m.waitOn.elem n && portFinal (leAt m.args 4 1) (s.portState n)))
    (fun k => portCtlEnd n k)

/-! The state machine (R398). -/

/-- A port enters a state. -/
def portTo (n st : Nat) : Eff := rd fun s =>
  seq [fset F.RUN_STAT_STATE n st, onPort n (fun x => { x with entered := s.tc }), portCtl n]

/-- A port leaves UP (R398, R606, R613): its keys and its peer are gone, the flasks that use it take a CONTAINED event and halt
at the next frame boundary, and both ends tell the pour. -/
def leaveUp (n : Nat) : Eff := rd fun s =>
  let fs := s.portFlasks n
  seq [
    fset F.RUN_STAT_ENCRYPTED n 0, fset F.RUN_STAT_PEER_VALID n 0, fset F.RUN_ERR_LINK_DOWN n 1,
    onPort n (fun x => { x with swap := none, keys := { x.keys with phase := 0, rekey := false, txFrom := none, rxFrom := none, rxOn := false } }),
    portTo n 0,
    when fs.isEmpty (raise 0x0601 0 (portWho n 0xFF) [(8, n)]),
    each fs (fun f => seq [raise 0x0601 2 (portWho n f) [(8, n)],
      when (s.inPour f) (fenceBeacon 0x12 n 0xFF 0x0601 f 0), faultHaltAtFrame f 4])]

/-- A port is taken to DOWN from whatever state it is in. -/
def portDrop (n : Nat) : Eff := rd fun s => if s.portState n = 4 then leaveUp n else portTo n 0

/-- An attempt from DOWN has ended (R398): the third within 10 s ends in FAILED; a formation that needs the port fails
(R418). -/
def attemptFail (n : Nat) : Eff := rd fun s =>
  let fs := (s.port n).fails.filter (fun t => decide (s.tc < t + 10000000000)) ++ [s.tc]
  seq [onPort n (fun x => { x with fails := fs }),
    either (decide (fs.length ≥ 3)) (seq [portTo n 5, when (s.portUsed n) (pourFail 0x0223)]) (portTo n 0)]

/-- A port enters UP (R398, R418, R658): HELLO goes to its peer and, once every port of the plan is up, its key exchange
begins. -/
def portUp (n : Nat) : Eff := rd fun s =>
  seq [
    onPort n (fun x => { x with
      txSseq := 0, rxSseq := 0, txCells := [], release := [], lostSseq := [], rxSeq := none,
      badWindows := [], badUncorr := [], swap := none, keys := { x.keys with phase := 1, rekey := false, since := s.tc } }),
    portTo n 4, onPort n (fun x => { x with fails := [] }), send n .keyOffer [n, 0, 0, 0],
    rd fun s => either (s.pour.phase == 1 && s.portUsed n) helloAll (sendHello n)]

/-- PORT_ENABLE: Rhozel enables a port (R398). -/
def execPortEnable (port : PortId) (signal : Bool) (tc : Nat) (s : State) : Host.Outcome State Fault Refusal :=
  run (seq [tcTo tc, onPort port.val (fun x => { x with enabled := true }),
    rd fun s => when (s.portState port.val == 0 && signal) (portTo port.val 1)]) s

/-- SIGNAL_DETECTED on all five lanes (R398). -/
def execSignalDetected (port : PortId) (tc : Nat) (s : State) : Host.Outcome State Fault Refusal :=
  run (seq [tcTo tc, rd fun s => when (s.portState port.val == 0 && (s.port port.val).enabled) (portTo port.val 1)]) s

/-- A phase of an attempt ends within its bound, or the attempt fails. -/
def attemptStep (n st next bound : Nat) (ok : Bool) : Eff := rd fun s =>
  when (s.portState n == st) (either (ok && decide (s.tc ≤ (s.port n).entered + bound)) (portTo n next) (attemptFail n))

/-- TRAIN_COMPLETE: equalisation and precoding agreed within 200 ms, or not (R398). -/
def execTrainComplete (port : PortId) (ok : Bool) (tc : Nat) (s : State) : Host.Outcome State Fault Refusal :=
  run (seq [tcTo tc, attemptStep port.val 1 2 200000000 ok]) s

/-- LOCK_COMPLETE: codeword lock and deskew within 10 ms, or not (R398). -/
def execLockComplete (port : PortId) (ok : Bool) (tc : Nat) (s : State) : Host.Outcome State Fault Refusal :=
  run (seq [tcTo tc, attemptStep port.val 2 3 10000000 ok]) s

/-! Qualification windows (R399, R400). -/

/-- The codewords of a window. -/
def windowWords : Nat := 20588235

/-- The count of codewords with k corrected symbols, 0 < k < 16; with none, the codewords that remain. -/
def winN (w : LaneWindow) (k : Nat) : Nat :=
  if k = 0 then windowWords - w.counts.foldl (fun a x => a + x) 0 - w.uncorr else w.counts.getD (k - 1) 0

/-- The largest k up to a bound with at least ten codewords. -/
def winPeak (w : LaneWindow) : Nat → Nat
  | 0 => 0
  | k + 1 => if winN w (k + 1) ≥ 10 then k + 1 else winPeak w k

/-- The projected codeword loss is below 10^-15 (R399). -/
def winLossOk (w : LaneWindow) : Bool :=
  let b := winPeak w 15
  if b = 0 then true
  else if b = 15 then false
  else decide (winN w b ^ (17 - b) * 10 ^ 15 < windowWords * winN w (b - 1) ^ (16 - b))

/-- A window passes (R399). -/
def winPasses (w : LaneWindow) : Bool := decide (w.errors ≤ 2688000) && w.uncorr == 0 && winLossOk w

/-- The most corrected symbols in any codeword, up to a bound. -/
def winMost (w : LaneWindow) : Nat → Nat
  | 0 => 0
  | k + 1 => if winN w (k + 1) > 0 then k + 1 else winMost w k

/-- The window of a lane. -/
def laneWin (ws : List LaneWindow) (l : Nat) : LaneWindow := ws.getD l { errors := 0, counts := [], uncorr := 0 }

/-- The lane registers after a window (R430). -/
def laneRegs (n : Nat) (ws : List LaneWindow) : Eff :=
  seq [each (List.range 5) (fun l =>
      let w := laneWin ws l
      let i := n * 5 + l
      seq [fset F.RUN_LANE_l_ERRORS i (min w.errors 0xFFFFFFFF), fput F.RUN_LANE_l_PASS i (winPasses w), fput F.RUN_LANE_l_UNCORR i (w.uncorr != 0),
        fset F.RUN_LANE_l_MAX_SYMBOLS i (winMost w 15), fadd F.RUN_LANE_l_WINDOWS i 1]),
    fset F.RUN_STAT_LANE_OK n ((List.range 5).foldl (fun m l => m + 2 ^ l * b2n (winPasses (laneWin ws l))) 0)]

/-- The physical lane that carries a logical lane. -/
def State.physLane (s : State) (n l : Nat) : Nat := bitsOf (s.port n).laneMap (3 * l) 3

/-- The logical lane of a physical lane. -/
def State.logLane (s : State) (n p : Nat) : Option Nat := (List.range 4).find? (fun l => s.physLane n l == p)

/-- The spare is qualified and free (R400, R401). -/
def State.spareFree (s : State) (n : Nat) : Bool :=
  bitOf (s.fget F.RUN_STAT_LANE_OK n) 4 && !(s.port n).spareFailed && !s.flag F.RUN_STAT_SPARE_USED n && (s.port n).swap.isNone

/-- The spare takes a logical lane (R398, R401): recorded in the slag map, with its event, at the end that found the
failure. -/
def laneSpared (n l reason : Nat) (note : Bool) : Eff := rd fun s =>
  let p := s.physLane n l
  seq [
    onPort n (fun x => { x with laneMap := x.laneMap - bitsOf x.laneMap (3 * l) 3 * 8 ^ l + 4 * 8 ^ l, swap := none,
                                badWindows := NMap.put 0 x.badWindows p 0, badUncorr := NMap.put 0 x.badUncorr p 0 }),
    fset F.RUN_STAT_SPARE_USED n 1, fset F.RUN_STAT_SPARE_FOR n l, fset F.RUN_LANE_l_OUT (n * 5 + p) 1, fset F.RUN_ERR_LANE_SWAPPED n 1,
    when note (seq [slagRecord 5 2 reason (n + 32 * p) 4, raise 0x0602 0 (portWho n 0xFF) [(8, n + 32 * p)],
      (match s.portFlask n with | some f => when (s.inPour f) (fenceBeacon 5 0xFF 0xFF 0x0602 f reason) | none => nop)])]

/-- A lane in service has failed (R400, R401): a swap is requested while a qualified spare is free and no swap is under way;
otherwise the port goes to DOWN. -/
def laneFail (n l reason : Nat) : Eff := rd fun s =>
  let t := ((s.port n).txSeq + 64) % 2 ^ 32
  either (s.spareFree n)
    (seq [onPort n (fun x => { x with swap := some { lane := l, target := t, mine := true, agreed := false, reason } }),
      send n .laneSwap [n, l, t, if s.pourTag = 0 then 0xFFFF else s.module]])
    (leaveUp n)

/-- QUALIFY's window ends (R398): four lanes that pass bring the port up, the spare in the place of one that fails. -/
def qualified (n : Nat) (ws : List LaneWindow) : Eff :=
  let bad := (List.range 5).filter (fun l => !(winPasses (laneWin ws l)))
  match bad with
  | [] => portUp n
  | [l] => seq [onPort n (fun x => { x with laneMap := 0o3210 }), fset F.RUN_STAT_SPARE_USED n 0, fset F.RUN_STAT_SPARE_FOR n 0,
      either (decide (l < 4)) (laneSpared n l 5 true) (fset F.RUN_LANE_l_OUT (n * 5 + 4) 1), portUp n]
  | _ => attemptFail n

/-- A window ends in UP (R400): lanes in service that fail are replaced, a spare that fails twice is recorded. -/
def windowInUp (n : Nat) (ws : List LaneWindow) : Eff := rd fun s =>
  let x := s.port n
  let bads (l : Nat) := if winPasses (laneWin ws l) then 0 else NMap.get 0 x.badWindows l + 1
  let uncs (l : Nat) := if (laneWin ws l).uncorr = 0 then 0 else NMap.get 0 x.badUncorr l + 1
  let all (f : Nat → Nat) := (List.range 5).foldl (fun m l => NMap.put 0 m l (f l)) []
  let failing := (List.range 5).filter (fun l => decide (bads l ≥ 2) || decide (uncs l ≥ 2))
  seq [
    onPort n (fun x => { x with badWindows := all bads, badUncorr := all uncs }),
    when ((s.logLane n 4).isNone && !x.spareFailed && decide (bads 4 ≥ 2))
      (seq [onPort n (fun x => { x with spareFailed := true }), fset F.RUN_LANE_l_OUT (n * 5 + 4) 1, slagRecord 5 3 5 (n + 128) 0xFFFF]),
    each (failing.filterMap (s.logLane n)) (fun l => rd fun s =>
      when (s.portState n == 4 && (match (s.port n).swap with | some w => w.lane != l | none => true)) (laneFail n l 5))]

/-- QUALIFY_WINDOW_END: a 0.5 s window of every lane ends (R398 to R400, R430). -/
def execQualifyWindowEnd (port : PortId) (windows : List LaneWindow) (tc : Nat) (s : State) : Host.Outcome State Fault Refusal :=
  run (seq [tcTo tc, rd fun s =>
    let st := s.portState port.val
    when (st == 3 || st == 4) (seq [laneRegs port.val windows, if st = 3 then qualified port.val windows else windowInUp port.val windows])]) s

/-- LANE_LOCK_LOSS: a physical lane loses lock, for up to 1 µs or for longer (R398, R400). -/
def execLaneLockLoss (port : PortId) (lane : Fin 5) (beyond : Bool) (tc : Nat) (s : State) : Host.Outcome State Fault Refusal :=
  run (seq [tcTo tc, rd fun s =>
    let n := port.val
    match s.portState n with
    | 4 => match s.logLane n lane.val with
      | some l => if beyond then leaveUp n else laneFail n l 5
      | none => nop
    | 2 => attemptFail n
    | 3 => attemptFail n
    | _ => nop]) s

/-! Lane swaps (R401). -/

/-- This end's request goes ahead of a crossing one: its SENDER is lower, or before formation its serial number. -/
def State.swapAhead (s : State) (n sender : Nat) : Bool :=
  if s.pourTag = 0 then decide (s.slag.serial % 2 ^ 64 < (s.port n).keys.peerSerial) else decide (s.module < sender)

/-- LANE_SWAP: the peer asks to replace a lane (R401). -/
def execLaneSwap (port : PortId) (lane : Fin 4) (target : Nat) (sender : Nat) (s : State) : Host.Outcome State Fault Refusal :=
  run (rd fun s =>
    let n := port.val
    let agree : Eff :=
      seq [onPort n (fun x => { x with swap := some { lane := lane.val, target, mine := false, agreed := true, reason := 5 } }),
        send n .laneSwapAck [n, lane.val, target]]
    when (s.portState n == 4)
      (match (s.port n).swap with
       | some w => when (w.mine && !w.agreed && !s.swapAhead n sender) (seq [agree, leaveUp n])
       | none => when (!s.flag F.RUN_STAT_SPARE_USED n) agree)) s

/-- LANE_SWAP_ACK: the peer agrees (R401). -/
def execLaneSwapAck (port : PortId) (lane : Fin 4) (target : Nat) (s : State) : Host.Outcome State Fault Refusal :=
  run (rd fun s =>
    match (s.port port.val).swap with
    | some w => when (w.mine && w.lane == lane.val && w.target == target) (onPort port.val (fun x => { x with swap := some { w with agreed := true } }))
    | none => nop) s

/-- LANE_SWAP_APPLY: at the target superframe both ends change LANE_MAP (R401). -/
def execLaneSwapApply (port : PortId) (s : State) : Host.Outcome State Fault Refusal :=
  run (rd fun s =>
    match (s.port port.val).swap with
    | some w => when (w.agreed && s.portState port.val == 4) (laneSpared port.val w.lane w.reason w.mine)
    | none => nop) s

/-- LANE_SWAP_ABANDON: no acknowledgement two superframes before the target (R401). -/
def execLaneSwapAbandon (port : PortId) (s : State) : Host.Outcome State Fault Refusal :=
  run (rd fun s =>
    match (s.port port.val).swap with
    | some w => when (w.mine && !w.agreed && s.portState port.val == 4) (leaveUp port.val)
    | none => nop) s

/-! Link keys (R423, R424, R658 to R660). -/

/-- A superframe fails authentication (R423). -/
def authFail (n : Nat) : Eff := rd fun s =>
  seq [each (s.portFlasks n) (fun f => raise 0x0603 2 (portWho n f) [(8, n)]), fset F.RUN_ERR_AUTH_FAIL n 1, leaveUp n]

/-- A key offer is refused (R659): 0 chain, 1 serial, 2 lifecycle, 3 HMAC. -/
def keyRefuse (n reason : Nat) : Eff :=
  seq [fset F.SAF_ERR_LINK_REFUSED 0 1, raise 0x0904 0 nobody [(1, n), (1, reason)], leaveUp n]

/-- This end's START_SEQ: 64 superframes ahead. -/
def State.keyStart (s : State) (n : Nat) : Nat := ((s.port n).txSeq + 64) % 2 ^ 32

/-- Change a port's key state. -/
def onKeys (n : Nat) (f : KeySt → KeySt) : Eff := onPort n (fun x => { x with keys := f x.keys })

/-- An offer of new keys (R658). -/
def keyOffer (n : Nat) (o : KeyOffer) : Eff := rd fun s =>
  let k := (s.port n).keys
  let own := s.fget F.SAF_STAT_LIFECYCLE 0
  if !o.chainOk then keyRefuse n 0
  else if !o.certOk || (s.flag F.RUN_STAT_PEER_VALID n && o.serial != k.peerSerial) then keyRefuse n 1
  else if !(o.lifecycle == 2 || o.lifecycle == own) then keyRefuse n 2
  else seq [
    onKeys n (fun k => { k with phase := 2, rekey := false, since := if k.phase = 0 then s.tc else k.since, peerSerial := o.serial,
                                txFrom := some (s.keyStart n) }),
    send n .keyAccept [n, s.keyStart n]]

/-- A rekey offer (R660): of two that cross, the end with the lower serial goes ahead. -/
def rekeyOffer (n : Nat) (o : KeyOffer) : Eff := rd fun s =>
  let k := (s.port n).keys
  let next := (s.fget F.RUN_STAT_KEY_EPOCH n + 1) % 256
  let mine := k.phase != 0 && k.rekey
  when (s.flag F.RUN_STAT_ENCRYPTED n && o.epoch == next && !(mine && decide (s.slag.serial % 2 ^ 64 < k.peerSerial)))
    (seq [onKeys n (fun k => { k with phase := 0, rekey := false, txFrom := some (s.keyStart n), rxFrom := some o.startSeq }),
      send n .keyAccept [n, s.keyStart n]])

/-- KEY_OFFER (R658, R660). -/
def execKeyOffer (port : PortId) (offer : KeyOffer) (tc : Nat) (s : State) : Host.Outcome State Fault Refusal :=
  run (seq [tcTo tc, rd fun s =>
    when (s.portState port.val == 4) (if offer.rekey then rekeyOffer port.val offer else keyOffer port.val offer)]) s

/-- KEY_ACCEPT: the peer's START_SEQ and its proof over both offers (R659, R660). -/
def execKeyAccept (port : PortId) (startSeq : Nat) (macOk : Bool) (s : State) : Host.Outcome State Fault Refusal :=
  run (rd fun s =>
    let n := port.val
    let k := (s.port n).keys
    when (s.portState n == 4 && (k.phase == 2 || (k.phase == 1 && k.rekey)))
      (either (macOk || k.rekey)
        (seq [onKeys n (fun k => { k with phase := 0, rekey := false, rxFrom := some startSeq }), fset F.RUN_STAT_ENCRYPTED n 1])
        (keyRefuse n 3))) s

/-- KEY_EXCHANGE_TIMEOUT: an exchange starts again after 10 ms; one or a rekey not agreed within 1 s takes the port to DOWN
(R424, R659). -/
def execKeyExchangeTimeout (port : PortId) (tc : Nat) (s : State) : Host.Outcome State Fault Refusal :=
  run (seq [tcTo tc, rd fun s =>
    let n := port.val
    let k := (s.port n).keys
    when (s.portState n == 4 && k.phase != 0)
      (either (decide (k.since + 1000000000 ≤ s.tc)) (leaveUp n)
        (when (!k.rekey && decide (k.since + 10000000 ≤ s.tc))
          (seq [onKeys n (fun k => { k with phase := 1, txFrom := none }), send n .keyOffer [n, 0, 0, 0]])))]) s

/-- REKEY_TIMER: a rekey begins with an offer of the next KEY_EPOCH (R424, R660). -/
def execRekeyTimer (port : PortId) (tc : Nat) (s : State) : Host.Outcome State Fault Refusal :=
  run (seq [tcTo tc, rd fun s =>
    let n := port.val
    when (s.flag F.RUN_STAT_ENCRYPTED n && (s.port n).keys.phase == 0)
      (seq [onKeys n (fun k => { k with phase := 1, rekey := true, since := s.tc, txFrom := some (s.keyStart n) }),
        send n .keyOffer [n, 1, (s.fget F.RUN_STAT_KEY_EPOCH n + 1) % 256, s.keyStart n]])]) s

end Sys2Proof.Machine
end

