-- ==== Sys2Proof/Machine/Sprue.lean ====
section
/-! DEFINITION. The Sprue and the Vent (R352 to R384): beats in and out of a router, the slip detector, the buffers, the
elastic share, halt notices and Vent flits. A slot is named by its schedule cycle. -/
namespace Sys2Proof.Machine

/-- The destination of beats driven onto a link of the Sprue. -/
def toSprue : Nat := 106

/-- A slot is elastic (R359). -/
def elasticSlot (sc : Nat) : Bool := sc % 16 == 15

/-- The ordinal of a slot among the slots of a period that are not elastic. -/
def slotIdx (x : Nat) : Nat := x / 16 * 15 + x % 16

/-- The beat of an entry that falls on a schedule cycle (R360): beats take consecutive slots of their origin, which lies
LATENCY cycles back, and step over elastic ones. -/
def SprSlot.beatAt (e : SprSlot) (period sc : Nat) : Option Nat :=
  let lat := if e.src < 8 then e.latency else 0
  let back (x : Nat) := (x + period * (lat / period + 1) - lat) % period
  let now := back (sc % period)
  let first := back (e.slot % period)
  if period = 0 ∨ elasticSlot now = true then none
  else
    let n := period * 15 / 16
    let k := (slotIdx now + n - slotIdx first) % n
    if k < e.run then some k else none

/-- The entries of a router's table that take part in a cycle: those with a source, and their beat numbers. -/
def State.slotsAt (s : State) (p src sc : Nat) : List (SprSlot × Nat) :=
  (s.sprTable p).filterMap (fun e => if e.src = src then (e.beatAt (s.sprPeriod p) sc).map (fun k => (e, k)) else none)

/-- The frame and change epoch of a schedule cycle of a flask (R367): those of the last frame that began at or before it. -/
def State.tagAt (s : State) (f c : Nat) : Nat × Nat :=
  match (s.flask f).marks.find? (fun m => decide (m.1 ≤ c)) with
  | some m => m.2
  | none => (s.frame, s.fget F.TC_FRAME_EPOCH 0)

/-- The fields of a beat as a message carries them (R357). -/
def beatFields (b : Beat) : List Nat :=
  [b.flags, b2n b.null, b2n b.elastic, b.frame, b.epoch, b.flow, b.row] ++ b.payload.map BitVec.toNat

/-- A scheduled cell joins a port's transmit queue with the next SSEQ (R391, R402). -/
def cellQueue (port : Nat) (b : Beat) : Eff := rd fun s =>
  onPort port (fun x => { x with txCells := (s.port port).txCells ++ [{ sseq := (s.port port).txSseq, beat := b }],
                                 txSseq := ((s.port port).txSseq + 1) % 2048 })

/-- A beat is driven on an output: to the neighbour, or through a port stop to the port whose TX entry names its flow
(R352, R354, R356, R404). -/
def drive (p out : Nat) (b : Beat) : Eff := rd fun s =>
  if (p / 16 = 0 ∧ out = 4) ∨ (p / 16 = 9 ∧ out = 5) then
    each ((s.stopsAt p).filter (fun n => (runEntries (s.portSect n)).any (fun e => e.dir == 0 && e.flow == b.flow))) (fun n => cellQueue n b)
  else send toSprue .beat ([p, out] ++ beatFields b)

/-- A beat carries POISON. -/
def beatBad (b : Beat) : Bool := bitOf b.flags 4

/-- A beat with POISON set. -/
def beatPoison (b : Beat) : Beat := { b with flags := setBit b.flags 4 }

/-- The arrival buffer takes a row; an entry that still holds an unconsumed one keeps it, poisoned (R363). -/
def bufArrive (p n : Nat) (b : Beat) : Eff := rd fun s =>
  let was := assoc ⟨[], 0, false⟩ (s.core p).sprArr n
  let put (r : BufRow) : Eff := onCore p (fun c => { c with sprArr := NMap.put ⟨[], 0, false⟩ c.sprArr n r })
  either was.valid
    (seq [put { was with flags := setBit was.flags 4 }, fset F.SPR_ERR_OVERWRITE p 1, raise 0x0502 1 (s.who p 108) [(8, n)]])
    (put ⟨b.payload, b.flags, true⟩)

/-- A beat arrives at the local port under an entry with OUT 8 (R354, R363, R364): into scratchpad, or the arrival
buffer; the run's last beat increments the counter. -/
def localArrive (p : Nat) (e : SprSlot) (k : Nat) (b : Beat) (lost : List Nat) : Eff :=
  seq [
    if bitOf e.addr 28 then bufArrive p ((e.addr % 64 + k * e.step) % 64) b
    else spdWrLost p (e.addr % 2 ^ 28 + k * e.step * 128) b.payload (beatBad b) lost,
    when (bitOf e.counter 12 && k + 1 == e.run) (arriveBy p (e.counter % 4096) 1)]

/-- A beat of an input goes where the entries of its slot send it (R361). -/
def dispatch (p : Nat) (es : List (SprSlot × Nat)) (b : Beat) (lost : List Nat) : Eff :=
  each es (fun x => if x.1.out = 8 then localArrive p x.1 x.2 b lost else when (decide (x.1.out < 8)) (drive p x.1.out b))

/-- The cause of the first slip check that a beat fails, 0 for none (R367). -/
def slipCause (e : SprSlot) (tag : Nat × Nat) (readable : Bool) (b : Beat) : Nat :=
  if !readable || b.null || b.elastic then 1
  else if b.flow ≠ e.flow then 3
  else if b.frame ≠ tag.1 % 4096 then 4
  else if b.epoch ≠ tag.2 % 16 then 5
  else 0

/-- The epochs of two ends differ (R83): a decision that only this end has applied has failed, and its values return once the pour
is drained (R84). -/
def decisionFails (own seen : Nat) : Eff := rd fun s =>
  when (own % 16 == (seen + 1) % 16) (upd [.dec { s.dec with revert := some (s.fget F.CLK_PSTEP_SEQ 0) }])

/-- A failed slip check (R368): captured, counted, reported once a frame, DESYNC set, a halt notice sent, the flask halted at
the next frame boundary and the pour told. -/
def slip (p f input cause slot flow origin seen : Nat) (cul : Nat × Nat) (tag : Nat × Nat) (seenEpoch : Nat) : Eff := rd fun s =>
  seq [
    fsat F.SPR_SLIP_COUNT p 1,
    when (!s.flag F.SPR_SLIP_SEEN p)
      (seq [fset F.SPR_SLIP_CAUSE p cause, fset F.SPR_SLIP_INPUT p input, fset F.SPR_SLIP_SEEN p 1, fset F.SPR_SLIP_INFO_SLOT p slot,
        fset F.SPR_SLIP_INFO_FLOW p flow, fset F.SPR_SLIP_INFO_ORIGIN p origin, fset F.SPR_SLIP_INFO_TAG_SEEN p seen]),
    when ((s.core p).slipFrame != some s.frame)
      (seq [onCore p (fun c => { c with slipFrame := some s.frame }),
        culpritReport 0x0106 cul.1 cul.2 f (p, input) cause (tag.2 % 16) seenEpoch flow slot]),
    fset F.CLK_CHG_STAT_DESYNC 0 1,
    send toVent .haltNotice [f],
    faultHaltAtFrame f 3,
    when (s.inPour f) (seq [haltBeacon 1, when (cause == 5) (decisionFails tag.2 seenEpoch)])]

/-- A scheduled input slot (R358, R361, R367): the beat is checked and goes where its entries send it, poisoned when a
check fails. -/
def inputSlot (p f input sc : Nat) (es : List (SprSlot × Nat)) (readable : Bool) (b : Beat) (lost : List Nat) : Eff := rd fun s =>
  match es with
  | [] =>
    when (readable && !b.null && !b.elastic)
      (slip p f input 2 (sc % max (s.sprPeriod p) 1) 0 0 (b.frame + b.epoch * 4096) (s.module, 0xFF) (s.tagAt f sc) b.epoch)
  | (e, _) :: _ =>
    let tag := s.tagAt f (sc - e.latency)
    let cause := slipCause e tag readable b
    let b : Beat := if readable then b else { b with null := true }
    seq [
      when (cause != 0) (slip p f input cause (sc % max (s.sprPeriod p) 1) e.flow e.origin (b.frame + b.epoch * 4096) (s.culpritOf e) tag b.epoch),
      dispatch p es (if cause = 0 then b else beatPoison b) lost]

/-- An elastic beat at a router (R369 to R371): for its own core it is taken at once and its credit returned; otherwise it is
held, at most four of a class per input. -/
def elasticIn (p input : Nat) (rsp : Bool) (b : Beat) : Eff := rd fun s =>
  let c := s.core p
  let lose : Eff := seq [fsat F.SPR_ELASTIC_LOST p 1, send toSprue .credit [p, input, b2n rsp]]
  if s.physOf (b.flow % 256) = some p then send toSprue .credit [p, input, b2n rsp]
  else either (decide ((c.elIn.filter (fun x => x.1 == input && x.2.1 == rsp)).length < 4))
    (onCore p (fun c => { c with elIn := c.elIn ++ [(input, rsp, b)] })) lose

/-- Credits that return for an output's two classes (R370). -/
def elasticCredit (p out : Nat) (req rsp : Nat) : Eff :=
  let back (k n : Nat) (m : List (Nat × Nat)) := NMap.put 0 m k (NMap.get 0 m k - n)
  onCore p (fun c => { c with elUsed := back (out * 2) req (back (out * 2 + 1) rsp c.elUsed) })

/-- SPRUE_BEAT_RECEIVE: a router receives a beat on an input in a schedule cycle (R358, R367 to R371); `rsp` is an elastic
beat's class, `credits` what returns on the facing link (REQ, RSP), `lost` lines of an arrival that lose their bank's cycle
with the winner (R264). -/
def execSprueBeatReceive (core : CoreId) (input : Fin 8) (sc : Nat) (beat : Beat) (fault : BeatFault) (rsp : Bool)
    (credits : Fin 5 × Fin 5) (lost : List (Nat × Nat)) (s : State) : Host.Outcome State Fault Refusal :=
  run (rd fun s =>
    let p := core.val
    let readable := fault != .unreadable
    let b := if fault = .parity then beatPoison beat else beat
    let es := s.slotsAt p input.val sc
    seq [
      elasticCredit p input.val credits.1.val credits.2.val,
      when (fault == .corrected) (fsat F.SPR_ERR_HDR_CORR p 1),
      when (fault == .parity)
        (seq [fsat F.SPR_ERR_PARITY p 1, fset F.SPR_ERR_PARITY_SEEN p 1,
          rd fun s => raise 0x0501 1 (s.who p 108) [(8, s.fget F.SPR_ERR_PARITY p)]]),
      each lost (fun x => spdConflict p x.2 77),
      (match s.flaskOf p with
       | some f => when (s.scheduled p && s.sprPeriod p != 0 && !elasticSlot sc) (inputSlot p f input.val sc es readable b (lost.map (fun x => x.1)))
       | none => nop),
      either readable (when (b.elastic && !b.null) (elasticIn p input.val rsp b))
        (when es.isEmpty (seq [fsat F.SPR_ELASTIC_LOST p 1, send toSprue .credit [p, input.val, b2n rsp]]))]) s

/-- The beat that an entry with SRC 8 or 9 sends (R354, R357, R363): from scratchpad or the output buffer, NULL while the
core is not in RUN (R223). -/
def departs (p f : Nat) (e : SprSlot) (k sc : Nat) (lost : List Nat) : Eff := rd fun s =>
  let tag := s.tagAt f sc
  let base : Beat := { flags := 0, null := false, elastic := false, frame := tag.1 % 4096, epoch := tag.2 % 16, flow := e.flow, row := 0,
                       payload := List.replicate 128 0 }
  let b : Beat :=
    if s.coreState p ≠ 3 then { base with null := true }
    else if e.src = 8 then
      let a := e.addr % 2 ^ 28 + k * e.step * 128
      let bad := s.spdPoisoned p a 128 || (touched 64 a 128).any (fun l => lost.elem l)
      { base with payload := s.spdRd p a 128, flags := 16 * b2n bad }
    else
      let n := (e.addr % 64 + k * e.step) % 64
      let r := assoc ⟨[], 0, false⟩ (s.core p).sprOut n
      { base with payload := r.bytes ++ List.replicate (128 - r.bytes.length) 0, flags := r.flags % 32, row := r.flags / 256 % 32 }
  drive p e.out b

/-- SPRUE_DEPARTURE: a slot of an output in a schedule cycle (R354, R359, R361, R369, R370): the beat that a SRC 8 or 9 entry
names, a NULL beat where no entry does, or an elastic beat in an elastic slot. -/
def execSprueDeparture (core : CoreId) (out : Fin 8) (sc : Nat) (what : Departure) (lost : List (Nat × Nat)) (s : State) :
    Host.Outcome State Fault Refusal :=
  run (rd fun s =>
    let p := core.val
    let o := out.val
    let free (rsp : Bool) := decide (NMap.get 0 (s.core p).elUsed (o * 2 + b2n rsp) < 4)
    let spend (rsp : Bool) : Eff :=
      onCore p (fun c => { c with elUsed := NMap.put 0 c.elUsed (o * 2 + b2n rsp) (NMap.get 0 c.elUsed (o * 2 + b2n rsp) + 1) })
    let elastic := elasticSlot sc || !s.scheduled p
    match what with
    | .scheduled =>
      let es := ((s.slotsAt p 8 sc) ++ (s.slotsAt p 9 sc)).filter (fun x => x.1.out == o)
      (match s.flaskOf p with
       | some f => when (!s.gclk.bubbled && s.sprPeriod p != 0 && !elasticSlot sc)
           (seq [each lost (fun x => spdConflict p x.2 78), each es (fun x => departs p f x.1 x.2 sc (lost.map (fun x => x.1)))])
       | none => nop)
    | .inject rsp b => when (elastic && free rsp) (seq [spend rsp, drive p o { b with elastic := true, null := false }, fadd F.SPR_ELASTIC_SENT p 1])
    | .forward input rsp =>
      match (s.core p).elIn.find? (fun x => x.1 == input.val && x.2.1 == rsp) with
      | some x => when (elastic && free rsp)
          (seq [spend rsp, onCore p (fun c => { c with elIn := c.elIn.erase x }), drive p o x.2.2, send toSprue .credit [p, input.val, b2n rsp]])
      | none => nop) s

/-- HALT_NOTICE: a Vent halt notice reaches a core, whose flask halts at the next frame boundary (R368). -/
def execHaltNotice (core : CoreId) (s : State) : Host.Outcome State Fault Refusal :=
  run (rd fun s => match s.flaskOf core.val with | some f => faultHaltAtFrame f 3 | none => nop) s

/-- VENT_FLIT_RECEIVE: a flit on a Vent link (R65, R376): counted, or sent again; after eight failures in a row the link goes
out of service. `occupancy` is that of the input buffer that takes the flit. -/
def execVentFlitReceive (link : Fin 31) (cluster : ClusterId) (cls : Fin 3) (header : Bool) (occupancy : Fin 9) (crcOk : Bool) (s : State) :
    Host.Outcome State Fault Refusal :=
  run (rd fun s =>
    let l := link.val
    let n := NMap.get 0 s.faults.vent l + 1
    let fails (k : Nat) : Eff := upd [.faults { s.faults with vent := NMap.put 0 s.faults.vent l k }]
    when (bitOf (s.fget F.VNT_STAT_UP 0) l)
      (either crcOk
        (seq [fails 0, when header (fadd F.CLU_VENT_PACKETS cluster.val 1),
          fmax (match cls.val with | 0 => F.CLU_VENT_CTL_MAX | 1 => F.CLU_VENT_RSP_MAX | _ => F.CLU_VENT_REQ_MAX) cluster.val occupancy.val])
        (either (decide (n ≥ 8))
          (seq [fails 0, fbit F.VNT_STAT_UP 0 l false, fbit F.VNT_ERR_LINK_DOWN 0 l true,
            rd fun s => fatal 0x0503 { nobody with cluster := cluster.val } [(8, s.fget F.VNT_ERR_LINK_DOWN 0)]])
          (seq [fails n, fsat F.VNT_ERR_RETRIES 0 1])))) s

end Sys2Proof.Machine
end

