-- ==== Sys2Proof/Machine/Links.lean ====
section
/-! DEFINITION. What crosses a Runner link (R388 to R393, R402 to R415): superframes, scheduled and elastic cells, the
release of scheduled beats, elastic messages served and answered, write faults. -/
namespace Sys2Proof.Machine

/-! Scheduled cells (R391, R405). -/

/-- A scheduled cell reaches the release buffer of a port (R405): late, without room, or held. -/
def schedCell (n sseq : Nat) (b : Beat) : Eff := rd fun s =>
  let x := s.port n
  if (sseq + 2048 - x.rxSseq) % 2048 ≥ 1024 then seq [fsat F.RUN_ERR_LATE n 1, fset F.RUN_ERR_LATE_SEEN n 1]
  else if x.release.length ≥ 512 then
    seq [onPort n (fun x => { x with lostSseq := x.lostSseq ++ [sseq] }), fset F.RUN_ERR_RELEASE_OVERFLOW n 1]
  else onPort n (fun x => { x with release := x.release ++ [{ sseq, beat := b }] })

/-- SCHEDULED_CELL: a scheduled cell is received. -/
def execScheduledCell (port : PortId) (sseq : Fin 2048) (beat : Beat) (s : State) : Host.Outcome State Fault Refusal :=
  run (schedCell port.val sseq.val beat) s

/-- The Sprue input that a port's stop drives (R356): N for ports 0 to 11, S for ports 12 to 23. -/
def stopInput (n : Nat) : Nat := if n < 12 then 4 else 5

/-- The destination field of a beat that a port hands to its router. -/
def fromPort (n : Nat) : Nat := 256 + n

/-- One beat is released (R405): the head cell's, a poisoned one in place of a lost cell, whose sender is told (R413), or a NULL
one. -/
def releaseBeat (n sc : Nat) (r : RunSlot) (e : SprSlot) : Eff := rd fun s =>
  let x := s.port n
  let want := x.rxSseq
  let tag := match s.portFlask n with | some f => s.tagAt f (sc + 2 - e.latency) | none => (0, 0)
  let made (flags : Nat) (null : Bool) (bs : List Byte) : Beat :=
    { flags, null, elastic := false, frame := tag.1 % 4096, epoch := tag.2 % 16, flow := r.flow, row := 0, payload := bs }
  let out (b : Beat) : Eff := send toSprue .beat ([fromPort n, stopInput n] ++ beatFields b)
  let held := match x.release with | c :: _ => some c | [] => none
  let lost := x.lostSseq.elem want || (match held with | some c => c.sseq != want | none => false)
  seq [
    (match held with
     | some c =>
       if c.sseq = want then seq [out c.beat, onPort n (fun x => { x with release := x.release.drop 1 })] else nop
     | none => nop),
    when (!(match held with | some c => c.sseq == want | none => false))
      (either lost
        (seq [draw (fun v => out (made 16 false (natLe 128 v))), fsat F.RUN_ERR_LOST n 1, fset F.RUN_ERR_LOST_SEEN n 1,
          writeFault r.originModule r.fidx (r.flow * 65536 + tag.2 % 16 * 4096 + tag.1 % 4096) 0x10 0])
        (out (made 0 true (List.replicate 128 0)))),
    onPort n (fun x => { x with rxSseq := (want + 1) % 2048, lostSseq := x.lostSseq.filter (fun q => q != want) }),
    fadd F.RUN_SCHED_RELEASED n 1]

/-- RELEASE_CYCLE: a schedule cycle at a port (R405): each RX entry whose Sprue entry takes a beat two cycles later releases
one. Bubbled hold points stop release (R75). -/
def execReleaseCycle (port : PortId) (sc : Nat) (s : State) : Host.Outcome State Fault Refusal :=
  run (rd fun s =>
    let n := port.val
    match s.stopCore n with
    | none => nop
    | some p =>
      when (s.scheduled p && s.sprPeriod p != 0)
        (each (s.slotsAt p (stopInput n) (sc + 2)) (fun e =>
          match s.rxEntry n e.1.flow with
          | some r => releaseBeat n sc r e.1
          | none => nop))) s

/-! Elastic cells (R393). -/

/-- An elastic cell is accepted in order; any other asks for a resend (R393). -/
def elCell (n : Nat) (c : ElCell) : Eff := rd fun s =>
  either (c.eseq == (s.port n).eExpect)
    (onPort n (fun x => { x with rxElastic := x.rxElastic ++ [c], eExpect := (x.eExpect + 1) % 256 }))
    (onPort n (fun x => { x with nakDue := true }))

/-- ELASTIC_CELL: an elastic cell is received. -/
def execElasticCell (port : PortId) (cell : ElCell) (s : State) : Host.Outcome State Fault Refusal := run (elCell port.val cell) s

/-- The cells kept go out again from E_ACK (R393). -/
def resend (n : Nat) : Eff := rd fun s =>
  when (!(s.port n).unacked.isEmpty)
    (seq [onPort n (fun x => { x with again := x.unacked, ackAt := s.tc }), fsat F.RUN_ELASTIC_REPLAYS n 1])

/-- ELASTIC_RESEND_TIMEOUT: 4 µs without a header that advances E_ACK (R393). -/
def execElasticResendTimeout (port : PortId) (tc : Nat) (s : State) : Host.Outcome State Fault Refusal :=
  run (seq [tcTo tc, rd fun s => when (decide ((s.port port.val).ackAt + 4000 ≤ s.tc)) (resend port.val)]) s

/-- E_ACK of a header (R393): the cells before it are no longer kept. -/
def ackTo (n e : Nat) : Eff := rd fun s =>
  let x := s.port n
  let passed (c : ElCell) := decide ((e + 256 - c.eseq) % 256 - 1 < 128) && (e + 256 - c.eseq) % 256 != 0
  when (x.unacked.any passed)
    (onPort n (fun x => { x with unacked := x.unacked.filter (fun c => !passed c), again := x.again.filter (fun c => !passed c), ackAt := s.tc }))

/-! Superframes (R388 to R393, R423). -/

/-- One cell position of a received superframe (R391, R392). -/
def cellIn (n : Nat) : Cell → Eff
  | .scheduled q b => schedCell n (q % 2048) b
  | .elastic c => elCell n c
  | .idle => nop
  | .lost (some q) => onPort n (fun x => { x with lostSseq := x.lostSseq ++ [q % 2048] })
  | .lost none => nop

/-- A direction has come to the SF_SEQ from which it is encrypted (R424, R659); before it superframes are in clear. -/
def started (start seq_ : Option Nat) : Bool :=
  match start, seq_ with
  | some a, some q => decide ((q + 2 ^ 32 - a % 2 ^ 32) % 2 ^ 32 < 2 ^ 31)
  | _, _ => true

/-- SUPERFRAME_RECEIVE: a port receives a superframe (R387 to R394, R423): in clear before the peer's first START_SEQ, authenticated
from there on. SF_SEQ counts on where the header cannot be read (R388). -/
def execSuperframeReceive (port : PortId) (sf : Superframe) (tc : Nat) (s : State) : Host.Outcome State Fault Refusal :=
  run (seq [tcTo tc, rd fun s =>
    let n := port.val
    let x := s.port n
    let q := if sf.crcOk then some sf.seq else x.rxSeq.map (fun q => (q + 1) % 2 ^ 32)
    let keyed := s.flag F.RUN_STAT_ENCRYPTED n && (x.keys.rxOn || started x.keys.rxFrom q)
    when (s.portState n == 4)
      (seq [
        fadd F.RUN_FEC_CORRECTED n sf.corrected, fsat F.RUN_FEC_UNCORR n sf.uncorr,
        when (decide (sf.badCtl > 0)) (fset F.RUN_ERR_CTL_BAD n 1),
        either (keyed && !(sf.crcOk && sf.tagOk)) (authFail n)
          (seq [
            onPort n (fun x => { x with rxSeq := q, keys := { x.keys with rxOn := x.keys.rxOn || keyed } }),
            when sf.crcOk (seq [
              onPort n (fun x => { x with creditReq := sf.creditReq % 65536, creditRsp := sf.creditRsp % 65536 }),
              ackTo n (sf.eAck % 256), when sf.eNak (resend n)]),
            when keyed (each sf.cells (cellIn n))])])]) s

/-- What a superframe takes from the waiting elastic cells: under credit for 64 cells of a class (R393), with at most 128
unacknowledged, while positions are free. Cells that do not go stay, in order. -/
def takeCells : List ElCell → Nat → PortSt → List ElCell → List ElCell × PortSt
  | [], _, x, out => (out, x)
  | c :: t, room, x, out =>
    let used := if c.rsp then (x.sentRsp + 65536 - x.creditRsp) % 65536 else (x.sentReq + 65536 - x.creditReq) % 65536
    if room = 0 ∨ used ≥ 64 ∨ x.unacked.length ≥ 128 then takeCells t room { x with waiting := x.waiting ++ [c] } out
    else
      let c := { c with eseq := x.eNext }
      takeCells t (room - 1)
        { x with eNext := (x.eNext + 1) % 256, unacked := x.unacked ++ [c],
                 sentReq := if c.rsp then x.sentReq else (x.sentReq + 1) % 65536,
                 sentRsp := if c.rsp then (x.sentRsp + 1) % 65536 else x.sentRsp } (out ++ [c])

/-- The fields of an elastic cell as a message carries them (R391). -/
def elFields (c : ElCell) : List Nat := [c.flags, b2n c.rsp, c.dest, c.src, c.eseq, c.seg, b2n c.last] ++ c.bytes.map BitVec.toNat

/-- SUPERFRAME_SEND: a port sends its next superframe (R388 to R393, R424): header, scheduled cells first, elastic cells in
what is left. A new key takes effect at its START_SEQ. -/
def execSuperframeSend (port : PortId) (s : State) : Host.Outcome State Fault Refusal :=
  run (rd fun s =>
    let n := port.val
    let x := s.port n
    let q := (x.txSeq + 1) % 2 ^ 32
    let newKey := match x.keys.txFrom with | some t => s.flag F.RUN_STAT_ENCRYPTED n && x.keys.phase == 0 && decide ((q + 2 ^ 32 - t) % 2 ^ 32 < 2 ^ 31) | none => false
    let epoch := if newKey then (s.fget F.RUN_STAT_KEY_EPOCH n + 1) % 256 else s.fget F.RUN_STAT_KEY_EPOCH n
    let open_ := s.flag F.RUN_STAT_ENCRYPTED n && (newKey || x.keys.txFrom.isNone || x.keys.rekey || x.keys.began != 0)
    let sched := if open_ then x.txCells.take 125 else []
    let room := 125 - sched.length
    let again := if open_ then x.again.take room else []
    let taken := if open_ then takeCells x.waiting (room - again.length) { x with waiting := [] } [] else ([], x)
    let idle := room - again.length - taken.1.length
    let y := taken.2
    when (s.portState n == 4)
      (seq [
        when newKey (fset F.RUN_STAT_KEY_EPOCH n epoch),
        onPort n (fun _ => { y with
          txSeq := q, txCells := x.txCells.drop sched.length, again := x.again.drop again.length, nakDue := false,
          ackAt := if x.unacked.isEmpty then s.tc else x.ackAt,
          keys := if newKey then { x.keys with txFrom := none, began := q } else x.keys }),
        fadd F.RUN_SCHED_TX n sched.length,
        when open_ (fsat F.RUN_ELASTIC_NO_CREDIT n (min idle y.waiting.length)),
        send n .superframe
          ([q, if s.pourTag = 0 then 0xFFFF else s.module, n, 4, x.freedReq, x.freedRsp, x.eExpect, b2n x.nakDue, x.laneMap, epoch] ++
           sched.flatMap (fun c => [0, c.sseq] ++ beatFields c.beat) ++ (again ++ taken.1).flatMap (fun c => 1 :: elFields c))])) s

/-! Elastic messages (R409 to R411). -/

/-- The oldest complete message of a class in a list of cells: its cells, and the list without them. Cells of one message follow
one another in order. -/
def takeMsg (rsp : Bool) : List ElCell → List ElCell → List ElCell → Option (List ElCell × List ElCell)
  | [], _, _ => none
  | c :: t, got, others =>
    if c.rsp == rsp then
      if c.last then some (got ++ [c], others ++ t) else takeMsg rsp t (got ++ [c]) others
    else takeMsg rsp t got (others ++ [c])

/-- The oldest complete message of a class leaves the buffers of a port, which are free again (R393). -/
def popMsg (n : Nat) (rsp : Bool) (k : List ElCell → ElCell → Eff) : Eff := rd fun s =>
  match takeMsg rsp (s.port n).rxElastic [] [] with
  | some (cs, others) =>
    seq [onPort n (fun x => { x with rxElastic := others,
                                     freedReq := if rsp then x.freedReq else (x.freedReq + cs.length) % 65536,
                                     freedRsp := if rsp then (x.freedRsp + cs.length) % 65536 else x.freedRsp }),
      match cs with | c :: _ => k cs c | [] => nop]
  | none => nop

/-- The bytes of each SIZE code (R411); the model's own code 0xFF carries an arrival increment alone (R338). -/
def sizeOf : Nat → Nat
  | 0 => 4 | 1 => 8 | 2 => 16 | 3 => 32 | 4 => 64 | 5 => 256 | _ => 0

/-- A response of this module to a request (R411). -/
def respond (m tag op status : Nat) (poison : Bool) (data : List Byte) : Eff := rd fun s =>
  sendMod m .elasticRsp true poison [m, tag, op, status] (rspBytes tag op status 0 s.tc data)

/-- The answer to a request that fails with a status: none for a credit packet. -/
def refuseReq (m op tag status fa : Nat) : Eff :=
  match op with
  | 1 => respond m tag 0x81 status true []
  | 2 => respond m tag 0x82 status false []
  | 3 => writeFault m 1023 tag status fa
  | 4 => respond m tag 0x82 status false []
  | 5 => writeFault m 1023 tag status fa
  | 7 => respond m tag 0x87 status false []
  | _ => nop

/-- A write of some bits of a sector: the bits that a mask leaves out keep their value (one mask bit for two of data). -/
def maskBits (old new mask : Nat) : Nat → Nat
  | 0 => 0
  | n + 1 => maskBits old new mask n + bitsOf (if bitOf mask n then new else old) (2 * n) 2 * 2 ^ (2 * n)

/-- A request served at its target (R411, R413): read, write, posted write, accumulate, queue entry, credit, flush. -/
def serveReq (src : Nat) (bs : List Byte) (poison : Bool) : Eff := rd fun s =>
  let fa := leAt bs 0 8
  let op := leAt bs 8 1
  let n := sizeOf (leAt bs 9 1)
  let fmt := leAt bs 10 1
  let cnt := if leAt bs 11 1 % 2 = 1 then some (leAt bs 16 2) else none
  let tag := leAt bs 12 4
  let core := leAt bs 18 1
  let who : Initiator := { crucible := core == 0xFF, flask := none, tag := leAt bs 20 4 }
  let dlen := if op = 1 ∨ op = 7 then 0 else if op = 6 then 4 else n
  let part := op == 2 && n == 256 && decide (bs.length > 384)
  let data := (bs.drop 32).take dlen
  let crcOk := crc32 (bs.take (32 + dlen + if part then 128 else 0)) == leAt bs (bs.length - 4) 4
  let ack (ok : Nat) : Eff := respond src tag ok 0 false []
  let served (o : AccessOp) (k : List Byte → Bool → Nat → Eff) : Eff := serve who fa o cnt poison (faOfQueue src (core * 8192 + tag / 2 ^ 19)) tag k
  when crcOk
    (match op with
     | 1 => served (.read n) (fun b p r => respond src tag 0x81 r (p || r != 0) b)
     | 2 =>
       let old := leNat (s.faData fa 256).1
       let d := if part then natLe 256 (maskBits old (leNat data) (leAt bs 288 128) 1024) else data
       let r := s.faReason who fa 4 true true
       if n = 0 then
         either (r == 0)
           (match cnt, s.physOf (faCore fa) with | some c, some p => arriveAfter p c | _, _ => nop)
           (faFault fa r true)
       else served (.write d) (fun _ _ r => respond src tag 0x82 r false [])
     | 3 => served (.write data) (fun _ _ r => when (r != 0) (writeFault src 1023 tag r fa))
     | 4 => served (.addOnWrite fmt data) (fun _ _ r => respond src tag 0x82 r false [])
     | 5 => served (.write data) (fun _ _ r => when (r != 0) (writeFault src 1023 tag r fa))
     | 6 =>
       let r := s.faReason who fa 64 true true
       either (r == 0) (creditTake (faQueue fa) (leNat data)) (faFault fa r true)
     | 7 => ack 0x87
     | _ => nop)

/-- The message passes to another port (R409): its cells join that port's queue. -/
def forward (r : Nat) (cs : List ElCell) : Eff := onPort r (fun x => { x with waiting := x.waiting ++ cs })

/-- ELASTIC_REQUEST: the oldest complete request that a port has received is served, forwarded, or answered with STATUS 0x11
(R409 to R411). -/
def execElasticRequest (port : PortId) (s : State) : Host.Outcome State Fault Refusal :=
  run (popMsg port.val false (fun cs c => rd fun s =>
    let bs := cs.flatMap (fun x => x.bytes)
    if c.dest = s.module then serveReq c.src bs (cs.any (fun x => bitOf x.flags 4))
    else match s.routeTo c.dest with
      | some r => forward r cs
      | none => refuseReq c.src (leAt bs 8 1) (leAt bs 12 4) 0x11 (leAt bs 0 8))) s

/-! Write faults and flushes (R413 to R415). -/

/-- The flask that owns the flow or queue of a WRITE_FAULT (R412, R414). -/
def State.faultOwner (s : State) (tag fidx fa : Nat) : Option Nat :=
  if fidx < 1023 then
    s.liveFlasks.find? (fun f => (s.flask f).active.sections.any (fun x =>
      x.1 == 5 && (runEntries x.2.2.2).any (fun e => e.dir == 0 && e.flow == tag / 65536)))
  else
    match s.queues.find? (fun q => q.2.kind == .elasticTx && q.2.peer == fa && q.1 % 8192 == tag / 2 ^ 19) with
    | some q => (s.physOf (q.1 / 8192)).bind s.flaskOf
    | none => none

/-- Crucible receives a WRITE_FAULT (R414): the event, the posted-fault mask, and the count of faults. -/
def faultTake (far tag status fidx tc fa count : Nat) : Eff := rd fun s =>
  let f := s.faultOwner tag fidx fa
  seq [raise 0x0604 1 { crucible with flask := orFF f } [(4, tag), (2, far), (1, status), (1, 0), (8, tc), (8, fa), (2, count), (2, fidx)],
    match f with
    | some f => onFlask f (fun x => { x with postedMask := NSet.add x.postedMask fidx, writeFaults := x.writeFaults + count })
    | none => nop]

/-- WRITE_FAULT: a WRITE_FAULT response reaches Crucible (R414). -/
def execWriteFault (far : Nat) (tag : Nat) (status : Nat) (fidx : Fin 1024) (tc : Nat) (fa : Nat) (count : Nat) (s : State) :
    Host.Outcome State Fault Refusal := run (faultTake far tag status fidx.val tc fa count) s

/-- A FLUSH_ACK: commands that wait for the module wait no longer (R415). -/
def flushAck (m : Nat) : Eff := rd fun s =>
  each (s.slotsRunning (fun x => x.cmd == 0x0204)) (fun k => onSlot k (fun x => { x with waitOn := x.waitOn.filter (fun q => q != m) }))

/-- ELASTIC_RESPONSE: the oldest complete response that a port has received is forwarded, dropped, or taken by what waits for
it (R337, R411, R414, R415). -/
def execElasticResponse (port : PortId) (s : State) : Host.Outcome State Fault Refusal :=
  run (popMsg port.val true (fun cs c => rd fun s =>
    let bs := cs.flatMap (fun x => x.bytes)
    let tag := leAt bs 0 4
    let status := leAt bs 5 1
    if c.dest ≠ s.module then
      match s.routeTo c.dest with
      | some r => forward r cs
      | none => fsat F.RUN_ELASTIC_DROPPED port.val 1
    else match leAt bs 4 1 with
      | 0x81 => answer (bs.drop 16) (cs.any (fun x => bitOf x.flags 4)) status
      | 0x82 => sectorAck (tag / 2 ^ 25) (tag / 2 ^ 23 % 4) (tag % 2 ^ 23) (if status = 0 then .committed else .refused)
      | 0x83 => faultTake c.src tag status (leAt bs 6 2) (leAt bs 8 8) (leAt bs 16 8) (leAt bs 24 2)
      | 0x87 => flushAck c.src
      | _ => nop)) s

end Sys2Proof.Machine
end

