-- ==== Sys2Proof/Machine/Pours.lean ====
section
/-! DEFINITION. Pours (R83, R238 to R240, R395, R397, R407, R413 to R422, R486): formation, start, flask control records,
beacons, the flush of posted writes and port control. -/
namespace Sys2Proof.Machine

/-! Formation (R417 to R419). -/

/-- The alternative upstream (R419): of tree 1, else of tree 2, where the neighbour's tree-0 depth is lower than this
module's. -/
def pourAlternative : Eff := rd fun s =>
  let x := s.pour
  let mine := assoc 0 x.depth 0
  let ok (k : Nat) : Option Nat := (x.up.find? (fun u => u.1 == k)).bind (fun u =>
    (x.heard.find? (fun h => h.1 == u.2)).bind (fun h => if h.2 < mine then some u.2 else none))
  upd [.align { s.align with alternative := (ok 1).orElse (fun _ => ok 2) }]

/-- Every port of the plan has exchanged HELLO: the master sends FORM, and a report may rise (R418). -/
def helloDone : Eff := rd fun s =>
  when (s.pour.used.all (fun p => s.pour.hello.elem p)) (seq [formStart, formedReport []])

/-- HELLO (R418): the peer is known, and in a formation the message is checked against the plan. -/
def execHello (port : PortId) (msg : HelloMsg) (s : State) : Host.Outcome State Fault Refusal :=
  run (rd fun s =>
    let n := port.val
    let plan := s.pour.ports.find? (fun q => q.1 == n)
    let agrees := match plan with
      | some q => msg.tag == s.pourTag && msg.module == q.2.1 && msg.sender == q.2.2.1 && msg.peer == s.module && msg.peerPort == n
      | none => false
    when (s.portState n == 4)
      (seq [fset F.RUN_STAT_PEER_MODULE n msg.module, fset F.RUN_STAT_PEER_PORT n msg.sender, fset F.RUN_STAT_PEER_VALID n 1,
        onKeys n (fun k => { k with peerSerial := msg.serial }),
        when (s.pour.phase == 1 && s.portUsed n && msg.tag != 0)
          (either agrees (seq [upd [.pour { s.pour with hello := NSet.add s.pour.hello n }], helloDone]) (pourFail 0x0221))])) s

/-- A copy of FORM(k) on a port is better than the upstream in force (R419): for trees 1 and 2 first one that no lower tree
uses, then the lower depth, then the lower port. -/
def PourSt.better (x : PourSt) (k p d : Nat) : Bool :=
  let shared (q : Nat) := b2n (x.up.any (fun u => decide (u.1 < k) && u.2 == q))
  match x.up.find? (fun u => u.1 == k) with
  | Option.none => true
  | some u =>
    let was := (shared u.2, assoc 0 x.depth k, u.2)
    let now := (shared p, d, p)
    decide (now.1 < was.1) || (now.1 == was.1 && (decide (now.2.1 < was.2.1) || (now.2.1 == was.2.1 && decide (now.2.2 < was.2.2))))

/-- FORM(k) names an upstream (R419): it is forwarded with DEPTH + 1; tree 0 is the timing tree. -/
def formTake (k p d : Nat) (children : List Nat) : Eff := rd fun s =>
  let x := s.pour
  let d' := d + 1
  let deep := decide (k > 0) && decide (d' > 16)
  let up := if deep then assoc p x.up 0 else p
  let dep := if deep then assoc 0 x.depth 0 else d'
  seq [
    upd [.pour { x with up := (x.up.filter (fun u => u.1 != k)) ++ [(k, up)], depth := (x.depth.filter (fun u => u.1 != k)) ++ [(k, dep)],
                        children := if k = 0 then children else x.children }],
    each (List.range 24) (fun q => fbit F.RUN_STAT_TREE_UP q k (q == up)),
    when (k == 0) (seq [fset F.TC_ALIGN_STAT_UPSTREAM 0 p, fset F.TC_ALIGN_STAT_HOPS 0 d', fset F.TC_ALIGN_STAT_STATE 0 1,
      rd fun s => upd [.align { s.align with good := 0, bad := 0, entered := s.tc }]]),
    when (k == 0 && decide (d' > 16)) (pourFail 0x0222),
    each (x.used.filter (fun q => q != p)) (fun q => send q .form [k, s.pourTag, dep, x.master, x.size])]

/-- FORM (R418, R419): a tree's upstream is chosen, or the formation is COMPLETE. -/
def execForm (port : PortId) (tree : Fin 4) (tag : Nat) (depth : Nat) (children : List PortId) (routes : List (Nat × Nat)) (s : State) :
    Host.Outcome State Fault Refusal :=
  run (rd fun s =>
    let n := port.val
    when (s.pour.phase == 1 && tag == s.pourTag && s.portUsed n && !s.pourMaster)
      (if tree.val = 3 then seq [send toFlood .form [3, tag, n, s.pour.master, s.pour.size], pourFormed routes]
       else seq [
         when (tree.val == 0) (upd [.pour { s.pour with heard := (s.pour.heard.filter (fun h => h.1 != n)) ++ [(n, depth)] }]),
         when (s.pour.better tree.val n (depth + 1)) (formTake tree.val n depth (children.map (fun c => c.val))),
         pourAlternative])) s

/-- REPORT: a tree-0 child's report of its subtree (R395, R418, R420). -/
def execReport (port : PortId) (phase : Fin 3) (count : Nat) (digest : Nat) (bindSum : Nat) (status : Nat) (failing : Nat)
    (routes : List (Nat × Nat)) (s : State) : Host.Outcome State Fault Refusal :=
  run (rd fun s =>
    let r : Report := { phase := phase.val, count, digest, bindSum, status, failing }
    when (s.pourTag != 0)
      (seq [upd [.pour { s.pour with reports := (s.pour.reports.filter (fun x => !(x.1 == port.val && x.2.phase == phase.val))) ++ [(port.val, r)] }],
        if phase.val = 1 then formedReport routes else if phase.val = 2 then readyReport else nop])) s

/-- ABORT: the formation ends with a status everywhere (R418). -/
def execAbort (tag : Nat) (status : Nat) (failing : Nat) (s : State) : Host.Outcome State Fault Refusal :=
  run (rd fun s => when (s.pour.phase == 1 && tag == s.pourTag) (seq [send toFlood .abort [tag, status, failing], pourAbort status])) s

/-- SLOT_DIGEST (R407): the peer's digests of a temper are compared with this end's, crosswise; a mismatch is reported at pour
start. -/
def execSlotDigest (port : PortId) (temper : Fin 4) (mouldId : Nat) (tx : Nat) (rx : Nat) (s : State) : Host.Outcome State Fault Refusal :=
  run (rd fun s =>
    match s.portFlask port.val with
    | none => nop
    | some f =>
      let m := (s.flask f).active
      let sect := m.sect 5 port.val temper.val
      let ok := mouldId == m.id % 2 ^ 32 && tx == slotDigest 1 sect && rx == slotDigest 0 sect
      when (!ok) (upd [.pour { s.pour with digestBad := true }])) s

/-- POUR_FORM_TIMEOUT: a formation not complete 10 s after acceptance fails (R418). -/
def execPourFormTimeout (tc : Nat) (s : State) : Host.Outcome State Fault Refusal :=
  run (seq [tcTo tc, rd fun s => when (decide (s.pour.since + 10000000000 ≤ s.tc)) (pourAbort 0x0223)]) s

/-- A plan's port word (R417): peer module, peer port, USE. -/
def planPort (args : List Byte) (p : Nat) : Nat × Nat × Nat × Bool :=
  let w := leAt args (16 + 4 * p) 4
  (p, bitsOf w 0 16, bitsOf w 16 5, bitOf w 21)

/-- A plan is within range (R417). -/
def planOk (args : List Byte) : Bool :=
  let size := leAt args 4 4
  let m := leAt args 8 2
  leAt args 0 4 != 0 && decide (2 ≤ size) && decide (size ≤ 65536) && decide (m < size) && decide (leAt args 10 2 < size) && leAt args 12 4 == 0 &&
  (List.range 24).all (fun p =>
    let q := planPort args p
    leAt args (16 + 4 * p) 4 / 2 ^ 22 == 0 && (!q.2.2.2 || (decide (q.2.1 < size) && q.2.1 != m && decide (q.2.2.1 < 24))))

/-- MB_POUR_FORM (R417, R418): the plan is accepted, its ports are brought up, and HELLO goes out once they are. -/
def execMbPourForm (slot : Fin 17) (s : State) : Host.Outcome State Fault Refusal :=
  run (mbCommand slot.val 0x0201 (fun args => rd fun s =>
    let ports := (List.range 24).map (planPort args)
    let m := leAt args 8 2
    let master := leAt args 10 2
    if (s.slot slot.val).phase ≠ 0 then nop
    else if !planOk args then mbFail slot.val 0x0150
    else if s.pourTag ≠ 0 then mbFail slot.val 0x0220
    else seq [
      onSlot slot.val (fun x => { x with phase := 1 }),
      fset F.MOD_POUR_ID_MODULE 0 m, fset F.MOD_POUR_ID_POUR_TAG 0 (leAt args 0 4),
      upd [.pour { PourSt.none with size := leAt args 4 4, master, ports, phase := 1, since := s.tc, beaconSeq := s.pour.beaconSeq }],
      fput F.TC_ALIGN_STAT_MASTER 0 (m == master),
      each ports (fun q => seq [fput F.RUN_STAT_POUR_LINK q.1 q.2.2.2,
        when q.2.2.2 (seq [onPort q.1 (fun x => { x with enabled := true }),
          when (s.portState q.1 == 5) (seq [onPort q.1 (fun x => { x with fails := [] }), portTo q.1 0])])]),
      helloAll])) s

/-- MB_POUR_LEAVE (R422). -/
def execMbPourLeave (slot : Fin 17) (s : State) : Host.Outcome State Fault Refusal :=
  run (mbCommand slot.val 0x0203 (fun _ => rd fun s =>
    if s.pourRuns then mbFail slot.val 0x0228 else seq [pourClear, mbDone slot.val 0])) s

/-! Start (R420). -/

/-- MB_POUR_START (R420): only at the timing master of a formed pour. -/
def execMbPourStart (slot : Fin 17) (s : State) : Host.Outcome State Fault Refusal :=
  run (mbCommand slot.val 0x0202 (fun _ => rd fun s =>
    if !s.pourMaster || s.pour.phase ≠ 2 then mbFail slot.val 0x0227
    else seq [upd [.pour { s.pour with starting := some slot.val }], startCheck])) s

/-- POUR_START_TIMEOUT: READY not complete 1 s after the command (R420). -/
def execPourStartTimeout (tc : Nat) (s : State) : Host.Outcome State Fault Refusal :=
  run (seq [tcTo tc, rd fun s =>
    match s.pour.starting with
    | some k => when (decide ((s.slot k).tcAccepted + 1000000000 ≤ s.tc)) (seq [upd [.pour { s.pour with starting := none }], mbFail k 0x0223])
    | none => nop]) s

/-- START (R239, R420): every READY flask of the pour begins at the epoch named. -/
def execStart (rec : CtlRec) (s : State) : Host.Outcome State Fault Refusal :=
  run (rd fun s =>
    when (rec.crcOk && rec.tag == s.pourTag && s.pourTag != 0 && s.pourFlasks.any (fun f => s.startable f && (s.flask f).startAt != some rec.target))
      (seq [send toTrees .start [rec.target, rec.tag], startFlasks rec.target, upd [.ctl CtlSt.none], readyAgain])) s

/-! Flask control records (R238 to R240). -/

/-- Equal content of two copies. -/
def sameRec (a b : CtlRec) : Bool := a.seq == b.seq && a.kind == b.kind && a.mouldIdLow == b.mouldIdLow && a.target == b.target && a.tag == b.tag

/-- Copies of a flask control record that conflict (R83). -/
def ctlConflict (t : Nat) : Eff := rd fun s =>
  seq [upd [.ctl CtlSt.none], fset F.CLK_CHG_STAT_CONFLICT 0 1,
    raise 0x0105 2 crucible [(2, match s.ctl.armed with | some r => r.seq | none => 0)], haltPourFlasks 3 t, haltBeacon 3]

/-- A copy of an arming record (R81 to R83, R238): forwarded and taken when it is the first good one, discarded when it equals the one
held. -/
def ctlArm (kind : Nat) (r : CtlRec) : Eff := rd fun s =>
  let r := { r with kind }
  when (r.crcOk && s.pourTag != 0)
    (match s.ctl.armed with
     | some a =>
       if sameRec a r then nop
       else if a.seq = r.seq then ctlConflict a.target
       else seq [send toTrees .flaskCtl (ctlFields r kind), ctlTake r none]
     | none => seq [send toTrees .flaskCtl (ctlFields r kind), ctlTake r none])

/-- ARM_HALT (R238, R239). -/
def execArmHalt (rec : CtlRec) (s : State) : Host.Outcome State Fault Refusal := run (ctlArm 0x11 rec) s

/-- ARM_SWITCH (R238, R239). -/
def execArmSwitch (rec : CtlRec) (s : State) : Host.Outcome State Fault Refusal := run (ctlArm 0x12 rec) s

/-- ARM_HOLD: a pour-scope debug hold (R239, R684). -/
def execArmHold (rec : CtlRec) (s : State) : Host.Outcome State Fault Refusal := run (ctlArm 0x17 rec) s

/-- ARM_RELEASE: the release of a pour-scope hold, or a step (R239, R684). -/
def execArmRelease (rec : CtlRec) (s : State) : Host.Outcome State Fault Refusal := run (ctlArm 0x18 rec) s

/-- FLASK_GO: the armed record is committed at T by a module that acknowledged it (R81, R83, R240). -/
def execFlaskGo (rec : CtlRec) (s : State) : Host.Outcome State Fault Refusal :=
  run (rd fun s =>
    match s.ctl.armed with
    | none => nop
    | some r =>
      when (rec.crcOk && rec.seq == r.seq && !s.ctl.go)
        (either (rec.target != r.target || rec.tag != r.tag) (ctlConflict r.target)
          (seq [send toTrees .flaskCtl (ctlFields r 0x13),
            when s.ctl.acked (ctlGo r)]))) s

/-- FLASK_WITHDRAW (R83). -/
def execFlaskWithdraw (rec : CtlRec) (s : State) : Host.Outcome State Fault Refusal :=
  run (rd fun s =>
    match s.ctl.armed with
    | none => nop
    | some r => when (rec.crcOk && rec.seq == r.seq && !s.ctl.go) (seq [send toTrees .flaskCtl (ctlFields r 0x14), upd [.ctl CtlSt.none]])) s

/-- DONE: a tree-0 child's modules have exchanged their banks (R238, R239). -/
def execDone (port : PortId) (rec : CtlRec) (s : State) : Host.Outcome State Fault Refusal :=
  run (rd fun s =>
    when (rec.crcOk && (match s.ctl.armed with | some r => r.seq == rec.seq | none => false))
      (seq [upd [.ctl { s.ctl with dones := NSet.add s.ctl.dones port.val }], doneUp])) s

/-! Beacons (R83, R395, R397, R613, R614). -/

/-- A flood copy already seen within the last millisecond (R395), or this module's own. -/
def State.floodSeen (s : State) (origin q : Nat) : Bool :=
  origin == s.module || s.pour.seen.any (fun x => x.1 == origin && x.2.1 == q && decide (s.tc < x.2.2 + 1000000))

/-- A flood copy is remembered. -/
def floodNote (origin q : Nat) : Eff := rd fun s =>
  upd [.pour { s.pour with seen := (s.pour.seen.filter (fun x => decide (s.tc < x.2.2 + 1000000))) ++ [(origin, q, s.tc)] }]

/-- The decision that failed at another module (R83), when this module has applied it since that module's frame or is to apply it:
its values return once the pour is drained (R84). -/
def State.failedDecision (s : State) (frame : Nat) : Option Nat :=
  if frame < s.dec.lastCommit then some (s.fget F.CLK_PSTEP_SEQ 0)
  else if s.flag F.CLK_ARM_GO 0 then s.dec.arm.map (fun d => d.seq)
  else s.dec.revert

/-- HALT_BEACON (R83, R397): forwarded; one of the module's own pour halts that pour's flasks at the next frame boundary. -/
def execHaltBeacon (port : PortId) (cause : Nat) (origin : Nat) (seq_ : Nat) (frame : Nat) (tag : Nat) (tc : Nat) (s : State) :
    Host.Outcome State Fault Refusal :=
  run (seq [tcTo tc, rd fun s =>
    when (!s.floodSeen origin (2 * seq_))
      (seq [floodNote origin (2 * seq_), send toFlood .haltBeacon [cause, origin, frame, tag, seq_, port.val],
        when (tag == s.pourTag && s.pourTag != 0)
          (seq [upd [.faults { s.faults with haltIn := s.faults.haltIn ++ [(origin, frame, s.tc)] }],
            when (cause == 2 || cause == 3) (upd [.dec { s.dec with revert := s.failedDecision frame }]),
            haltPourFlasks 3 0])])]) s

/-- FENCE_BEACON (R397, R613, R614): forwarded; one of the module's own pour is remembered, so that reports against its origin
are known to be consequential. -/
def execFenceBeacon (port : PortId) (unit : Nat) (origin : Nat) (seq_ : Nat) (frame : Nat) (tag : Nat) (detail : Nat) (tc : Nat) (s : State) :
    Host.Outcome State Fault Refusal :=
  run (seq [tcTo tc, rd fun s =>
    when (!s.floodSeen origin (2 * seq_ + 1))
      (seq [floodNote origin (2 * seq_ + 1), send toFlood .fenceBeacon [unit, origin, frame, tag, detail, seq_, port.val],
        when (tag == s.pourTag && s.pourTag != 0)
          (upd [.faults { s.faults with fenceIn := s.faults.fenceIn ++ [(origin, s.tc)] }])])]) s

/-! The flush of posted writes (R415). -/

/-- The posted-fault mask as 128 bytes. -/
def maskBytes (m : List Nat) : List Byte := natLe 128 (m.foldl (fun a b => a + 2 ^ b) 0)

/-- The modules that a flush asks. -/
def State.flushList (s : State) (f : Nat) : List Nat :=
  if (s.flask f).postedTo.length > 256 then (List.range s.pour.size).filter (fun m => m != s.module) else (s.flask f).postedTo

/-- The schedule count that a flush waits for: that of the named flask while a flask of the pour runs. -/
def State.flushSc (s : State) (f : Nat) : Nat := match s.mouldPhys f with | p :: _ => s.sc p | [] => 0

/-- Scheduled beats have had their time (R415 step 2); a held flask counts as not in RUN (R683). -/
def State.flushWaited (s : State) (f sc0 t0 : Nat) : Bool :=
  if s.pourFlasks.any (fun g => s.flaskIn g 3 && !s.held g) then decide (sc0 + 32768 ≤ s.flushSc f) else decide (t0 + 20000 ≤ s.tc)

/-- MB_FLUSH_POSTED (R415): the first time it asks every module that the flask has written to; later it completes once all
have answered and scheduled beats have had their time. -/
def execMbFlushPosted (slot : Fin 17) (tc : Nat) (s : State) : Host.Outcome State Fault Refusal :=
  run (seq [tcTo tc, mbCommand slot.val 0x0204 (fun args => rd fun s =>
    let k := slot.val
    let f := leAt args 0 1
    let x := s.flask f
    let m := s.slot k
    if m.phase = 0 then
      let ms := s.flushList f
      seq [onSlot k (fun m => { m with phase := 1 + s.flushSc f, waitOn := ms }), onFlask f (fun x => { x with postedTo := [] }),
        each ms (fun q => sendMod q .flush false false [q] (reqBytes (q * 2 ^ 48) 7 0 0 0 k 0 0xFF s.pourTag []))]
    else when (m.waitOn.isEmpty && s.flushWaited f (m.phase - 1) m.tcAccepted)
      (seq [mbDoneWith k (maskBytes x.postedMask ++ natLe 4 x.writeFaults),
        when (bitOf (leAt args 1 1) 0) (onFlask f (fun x => { x with postedMask := [], writeFaults := 0 }))]))]) s

/-- FLUSH_ACK_TIMEOUT: a FLUSH_ACK missing after 1 ms ends the command with the modules that have not answered (R415). -/
def execFlushAckTimeout (slot : Fin 17) (tc : Nat) (s : State) : Host.Outcome State Fault Refusal :=
  run (seq [tcTo tc, mbCommand slot.val 0x0204 (fun _ => rd fun s =>
    let m := s.slot slot.val
    when (!m.waitOn.isEmpty && decide (m.tcAccepted + 1000000 ≤ s.tc))
      (seq [mbResult slot.val (m.waitOn.flatMap (fun q => natLe 2 q)), mbFail slot.val 0x0223]))]) s

/-! Port control (R486). -/

/-- MB_PORT_CTL (R398, R486): the ports named are disabled, enabled or retrained. -/
def execMbPortCtl (slot : Fin 17) (s : State) : Host.Outcome State Fault Refusal :=
  run (mbCommand slot.val 0x0205 (fun args => rd fun s =>
    let k := slot.val
    let op := leAt args 4 1
    let ports := (List.range 24).filter (fun p => bitOf (leAt args 0 4) p)
    if (s.slot k).phase ≠ 0 then nop
    else if leAt args 0 4 ≥ 2 ^ 24 ∨ op > 2 then mbFail k 0x0103
    else if ports.isEmpty then mbDone k 0
    else seq [
      onSlot k (fun m => { m with phase := 1, waitOn := ports }),
      each ports (fun p =>
        match op with
        | 0 => seq [onPort p (fun x => { x with enabled := false }), portDrop p]
        | 1 => seq [onPort p (fun x => { x with enabled := true }), portCtl p]
        | _ => seq [onPort p (fun x => { x with enabled := true, fails := [] }), portDrop p])])) s

end Sys2Proof.Machine
end

