-- ==== Sys2Proof/Machine/Vector.lean ====
section
/-! DEFINITION. Vector units (R181 to R184, R219 to R221) and the token sampler (R185 to R190): shared operations and the
commands. An operation takes its effect on registers and scratchpad when its instruction executes; its class, start and
latency (R183) are kept for VU_STAT and the unit's queue. -/
namespace Sys2Proof.Machine

/-! Issue (R183, R214). -/

/-- Cycles between starts of one class (R183). -/
def vuInterval : Nat → Nat
  | 3 => 2 | 4 => 4 | 5 => 4 | 6 => 16 | _ => 1

/-- The class of an operation code, none for an unlisted one (R220). -/
def vopClass (c : Nat) : Option Nat :=
  if 1 ≤ c ∧ c ≤ 5 then some 0
  else if 0x10 ≤ c ∧ c ≤ 0x1F then some 1
  else if c = 0x20 then some 2
  else if 0x28 ≤ c ∧ c ≤ 0x2A then some 3
  else if 0x30 ≤ c ∧ c ≤ 0x3A then some 4
  else if 0x40 ≤ c ∧ c ≤ 0x43 then some 5
  else if 0x48 ≤ c ∧ c ≤ 0x4A then some 6
  else none

/-- Operations a unit holds that have not started. -/
def VuSt.queued (v : VuSt) (sc : Nat) : Nat := (v.starts.filter (fun o => decide (o.2 > sc))).length + v.waiting.length

/-- An operation of a class enters a unit at a schedule cycle. -/
def VuSt.accept (v : VuSt) (cls sc : Nat) : VuSt :=
  let st := v.starts.foldl (fun m o => if o.1 = cls then max m (o.2 + vuInterval cls) else m) (sc + 1)
  { v with starts := v.starts.filter (fun o => decide (o.2 + max (vuLatency o.1) (vuInterval o.1) > sc)) ++ [(cls, st)] }

/-! Validity (R221). -/

/-- The address of an operation: IMM's address bits and the scalar register. -/
def State.vopAddr (s : State) (p : Nat) (imm : BitVec 32) (sreg : Nat) : Nat := imm.toNat + s.scalar p sreg

/-- Bytes an operation on scratchpad covers (R221). -/
def vopExtent (a : VopArgs) : Nat := 1024 * fmtBits a.fmt / 8 + (if a.opc = 0x4A then 32 else 0)

/-- The operation is valid (R221). -/
def State.vopValid (s : State) (p cls : Nat) (a : VopArgs) : Bool :=
  vopClass a.opc == some cls &&
  (if a.opc = 0x1A ∨ a.opc = 0x48 ∨ a.opc = 0x49 then decide (a.fmt ≤ 0x10) && !isMx a.fmt
   else if a.opc = 0x4A then isMx a.fmt else a.fmt == 0) &&
  (cls != 6 || fits (s.vopAddr p a.imm a.sreg.val) (vopExtent a) (2 ^ 28)) && (a.opc != 0x2A || decide (a.imm.toNat < 128))

/-! Registers. -/

/-- The lanes of a register, with those struck by parity at +0 (R191). -/
def VuSt.lanes (v : VuSt) (struck : List Nat) (r : Nat) : List Nat :=
  (List.range 1024).map (fun i => if struck.elem (r * 1024 + i) then 0 else NMap.get 0 v.regs (r * 1024 + i))

/-- The flags of a register. -/
def VuSt.flagsOf (v : VuSt) (r : Nat) : Flags := Flags.ofBits (NMap.get 0 v.regFlags r)

/-- A register takes lanes and flags. -/
def VuSt.setReg (v : VuSt) (r : Nat) (xs : List Nat) (fl : Flags) : VuSt :=
  { v with
    regs := ((List.range 1024).zip xs).foldl (fun m x => NMap.put 0 m (r * 1024 + x.1) (x.2 % 2 ^ 32)) v.regs,
    regFlags := NMap.put 0 v.regFlags r fl.bits }

/-- 1,024 free values as lanes. -/
def drawLanes (k : (Nat → Nat) → Eff) : Eff := rd fun s =>
  seq [upd [.freeCtr (s.freeCtr + 1024)], k (fun i => Config.freeNat (s.freeCtr + i) % 2 ^ 32)]

/-- What ends every operation: the unit's sticky flags, its tile metadata entry (R179, R202), parity errors counted. -/
def vopEnd (p : Nat) (v : Nat) (tag : Nat) (fl : Flags) : Eff := rd fun s =>
  seq [writeMeta p tag (metaEntry fl tag s.frame v 0 false 2),
    orFlags [F.VU_FLAGS_OVF, F.VU_FLAGS_NAN, F.VU_FLAGS_INF, F.VU_FLAGS_CSAT, F.VU_FLAGS_POISON] (p * 4 + v) fl]

/-- Parity errors of a unit's storage (R191). -/
def vuParity (p v n : Nat) : Eff := rd fun s =>
  when (decide (n > 0))
    (seq [fsat F.VU_ERR_PARITY (p * 4 + v) n, fset F.VU_ERR_PARITY_SEEN (p * 4 + v) 1, raise 0x020A 1 (s.who p (72 + v)) []])

/-- A VOP of a class: refused issue, failed validation, or its effect (R203, R214, R221). -/
def vop (core : CoreId) (cls : Nat) (a : VopArgs) (body : Eff) : Eff :=
  let p := core.val
  let k := p * 4 + a.vu.val
  seqStep p 1 none (rd fun s =>
    if (s.vu k).queued (s.sc p) ≥ 8 then issueOverflow p
    else if s.vopValid p cls a then
      seq [onVu k (fun v => v.accept cls (s.sc p)), vuParity p a.vu.val a.parity.length, body]
    else seq [fset F.VU_ERR_OP_INVALID k 1, containCore p 0x0209 (72 + a.vu.val) [(1, a.opc)]])

/-- A VOP whose lanes and own flags come from its source registers: it writes VD with the sources' flags joined (R116). -/
def vopLanes (core : CoreId) (a : VopArgs) (srcs : List Nat) (f : List (List Nat) → List (Nat × Flags)) : Eff := rd fun s =>
  let p := core.val
  let k := p * 4 + a.vu.val
  let v := s.vu k
  let out := f (srcs.map (v.lanes a.parity))
  let fl := (out.foldl (fun g x => g.or x.2) (srcs.foldl (fun g r => g.or (v.flagsOf r)) Flags.none)).or
    (Flags.poisonIf (a.parity.any (fun e => srcs.elem (e / 1024))))
  seq [onVu k (fun v => v.setReg a.vd.val (out.map (fun x => x.1)) fl), vopEnd p a.vu.val a.tag.val fl]

/-- One source, lane by lane. -/
def lanes1 (f : Nat → Nat × Flags) : List (List Nat) → List (Nat × Flags)
  | x :: _ => x.map f
  | _ => []

/-- Two sources, lane by lane. -/
def lanes2 (f : Nat → Nat → Nat × Flags) : List (List Nat) → List (Nat × Flags)
  | x :: y :: _ => (x.zip y).map (fun e => f e.1 e.2)
  | _ => []

/-- Three sources, lane by lane. -/
def lanes3 (f : Nat → Nat → Nat → Nat × Flags) : List (List Nat) → List (Nat × Flags)
  | x :: y :: z :: _ => (x.zip (y.zip z)).map (fun e => f e.1 e.2.1 e.2.2)
  | _ => []

/-- No flag. -/
def clean (v : Nat) : Nat × Flags := (v, Flags.none)

/-- NAN when an operand of a comparison is NaN (R116). -/
def cmpFlags (a b : Nat) : Flags := if f32 a = .nan ∨ f32 b = .nan then Flags.justNan else Flags.none

/-- An element widened into its lane (R108, R221): FP32, or INT32 for an integer format. -/
def widen (fmt v : Nat) : Nat × Flags :=
  match floatFmt fmt with
  | some f => vSpecial (fp32.convert true (f.decode v)).1
  | none => clean (ofInt 32 (toInt (fmtBits fmt) v))

/-- CVT of one lane (R221). -/
def cvtLane (fmt : Nat) (nonsat : Bool) (v : Nat) : Nat × Flags :=
  if fmt = 0x0F then convertTo 0x0F nonsat (numOfInt (toInt 32 v))
  else
    let r := convertTo fmt nonsat (f32 v)
    ((widen fmt r.1).1, r.2)

/-- A lane narrowed for STORE (R221). -/
def storeLane (fmt : Nat) (nonsat : Bool) (v : Nat) : Nat × Flags :=
  if isInt fmt then
    (if fmt = 0x10 then clean v else
      let r := satInt (fmtBits fmt) (toInt 32 v)
      (ofInt (fmtBits fmt) r.1, if r.2 then Flags.justCsat else Flags.none))
  else convertTo fmt nonsat (f32 v)

/-- A saturating integer result (R182). -/
def satLane (i : Int) : Nat × Flags :=
  let r := satInt 32 i
  (ofInt 32 r.1, if r.2 then Flags.justOvf else Flags.none)

/-! Commands. -/

/-- VOP_MOVE: COPY, SELECT, CMPLT, CMPEQ, BCAST (R220). -/
def execVopMove (core : CoreId) (args : VopArgs) (s : State) : Host.Outcome State Fault Refusal :=
  run (vop core 0 args (rd fun s =>
    let a := args.va.val
    let b := args.vb.val
    match args.opc with
    | 1 => vopLanes core args [a] (lanes1 clean)
    | 2 => vopLanes core args [a, b, args.vc.val] (lanes3 (fun x y m => clean (if m = 0 then y else x)))
    | 3 => vopLanes core args [a, b] (lanes2 (fun x y => (b2n (Num.lt (f32 x) (f32 y)), cmpFlags x y)))
    | 4 => vopLanes core args [a, b] (lanes2 (fun x y => (b2n (Num.eqv (f32 x) (f32 y)), cmpFlags x y)))
    | _ =>
      let v := if args.imm = 0 then s.scalar core.val args.sreg.val % 2 ^ 32 else args.imm.toNat
      vopLanes core args [] (fun _ => List.replicate 1024 (clean v)))) s

/-- VOP_ARITHMETIC: the arithmetic class, CVT and the integer operations (R182, R220, R221). -/
def execVopArithmetic (core : CoreId) (args : VopArgs) (s : State) : Host.Outcome State Fault Refusal :=
  let a := args.va.val
  let b := args.vb.val
  let one (f : Nat → Nat × Flags) : Eff := vopLanes core args [a] (lanes1 f)
  let two (f : Nat → Nat → Nat × Flags) : Eff := vopLanes core args [a, b] (lanes2 f)
  run (vop core 1 args (match args.opc with
    | 0x10 => two (vAdd false)
    | 0x11 => two (vAdd true)
    | 0x12 => two vMul
    | 0x13 => two (vMinMax false)
    | 0x14 => two (vMinMax true)
    | 0x15 => one (fun v => vSpecial (v % 2 ^ 31))
    | 0x16 => one (fun v => vSpecial (v ^^^ 2 ^ 31))
    | 0x17 => one (vIntegral 0)
    | 0x18 => one (vIntegral 1)
    | 0x19 => one (vIntegral 2)
    | 0x1A => one (cvtLane args.fmt args.nonsat)
    | 0x1B => two (fun x y => clean ((x + y) % 2 ^ 32))
    | 0x1C => two (fun x y => clean ((x + 2 ^ 32 - y) % 2 ^ 32))
    | 0x1D => two (fun x y => clean (x * y % 2 ^ 32))
    | 0x1E => two (fun x y => satLane (toInt 32 x + toInt 32 y))
    | _ => two (fun x y => satLane (toInt 32 x - toInt 32 y)))) s

/-- VOP_FMA: VA × VB + VC, rounded once (R182). -/
def execVopFma (core : CoreId) (args : VopArgs) (s : State) : Host.Outcome State Fault Refusal :=
  run (vop core 2 args (vopLanes core args [args.va.val, args.vb.val, args.vc.val] (lanes3 vFma))) s

/-- VOP_PERMUTE: PERM, with VB giving source lanes, and LSHIFT by IMM lanes (R220). A source lane that does not exist and
a lane that a shift leaves empty hold free values. -/
def execVopPermute (core : CoreId) (args : VopArgs) (s : State) : Host.Outcome State Fault Refusal :=
  let n := args.imm.toNat
  let pick (xs : List Nat) (i : Nat) (free : Nat) : Nat × Flags := clean ((xs[i]?).getD free)
  run (vop core 3 { args with opc := if args.opc = 0x2A then 0 else args.opc }
    (drawLanes (fun free =>
      if args.opc = 0x28 then
        vopLanes core args [args.va.val, args.vb.val] (fun r => match r with
          | x :: y :: _ => (List.range 1024).map (fun i => pick x ((y[i]?).getD 0) (free i))
          | _ => [])
      else
        vopLanes core args [args.va.val] (lanes1 clean ∘ fun r => match r with
          | x :: _ => [(List.range 1024).map (fun i =>
              (if Config.lshiftUp then (if n ≤ i then (x[i - n]?).getD (free i) else free i) else (x[i + n]?).getD (free i)))]
          | _ => [])))) s

/-- VOP_INGRESS: lanes 0 to 31 take the row of an ingress slot, which is consumed; a row that another met and was lost
enters as +0 (R181). The other lanes, and every lane of a slot that holds no row, hold free values. -/
def execVopIngress (core : CoreId) (args : VopArgs) (s : State) : Host.Outcome State Fault Refusal :=
  run (vop core 3 { args with opc := if args.opc = 0x2A then 0x2A else 0 } (drawLanes (fun free => rd fun s =>
    let p := core.val
    let k := p * 4 + args.vu.val
    let r := assoc ⟨[], 0, false⟩ (s.vu k).ingress args.imm.toNat
    let lost := bitOf r.flags 5
    let fl := if r.valid then (Flags.ofBits (r.flags % 32)).or (Flags.poisonIf lost) else Flags.none
    let xs := (List.range 1024).map (fun i => if i < 32 && r.valid then (if lost then 0 else leAt r.bytes (4 * i) 4) else free i)
    seq [onVu k (fun v => { v.setReg args.vd.val xs fl with
        ingress := NMap.put ⟨[], 0, false⟩ v.ingress args.imm.toNat { r with valid := false, flags := r.flags % 32 } }),
      ingressRows k, vopEnd p args.vu.val args.tag.val fl]))) s

/-- VOP_SPECIAL_FUNCTION (R184, R220). -/
def execVopSpecialFunction (core : CoreId) (args : VopArgs) (s : State) : Host.Outcome State Fault Refusal :=
  let one (f : Num → Nat × Flags) : Eff := vopLanes core args [args.va.val] (lanes1 (fun v => f (f32 v)))
  run (vop core 4 args (match args.opc with
    | 0x30 => one spExp
    | 0x31 => one spExp2
    | 0x32 => vopLanes core args [args.va.val, args.vb.val] (lanes2 (fun x y => spExpd (f32 x) (f32 y)))
    | 0x33 => one (spLog true)
    | 0x34 => one (spLog false)
    | 0x35 => one spRcp
    | 0x36 => one spSqrt
    | 0x37 => one spRsqrt
    | 0x38 => one spTanh
    | 0x39 => one spSigmoid
    | _ => one spSilu)) s

/-- One level of the reduction tree: lane i with lane i + d (R121). -/
def foldHalf {α : Type} (f : α → α → α) (xs : List α) (d : Nat) : List α := ((xs.take d).zip (xs.drop d)).map (fun e => f e.1 e.2)

/-- The reduction tree over 1,024 lanes: d = 512, 256, … , 1 (R121). -/
def reduceTree {α : Type} (f : α → α → α) (xs : List α) : List α :=
  [512, 256, 128, 64, 32, 16, 8, 4, 2, 1].foldl (foldHalf f) xs

/-- Two lanes of a sum or a maximum, flags joined. -/
def reduce2 (f : Nat → Nat → Nat × Flags) (a b : Nat × Flags) : Nat × Flags :=
  let r := f a.1 b.1
  (r.1, (a.2.or b.2).or r.2)

/-- Two lanes of an arg-maximum: value and index; the lower index among equal values (R121). -/
def argMax2 (a b : Nat × Nat) : Nat × Nat :=
  if f32 a.1 = .nan then a else if f32 b.1 = .nan then b
  else if Num.lt (f32 a.1) (f32 b.1) then b
  else if Num.lt (f32 b.1) (f32 a.1) then a
  else if a.2 ≤ b.2 then a else b

/-- A reduction's result in lane 0 (and 1), the other lanes zero (R220). -/
def reduced (xs : List (Nat × Flags)) : List (Nat × Flags) := xs ++ List.replicate (1024 - xs.length) (clean 0)

/-- VOP_REDUCE: RSUM, RMAX, RMIN, RARGMAX over the lanes (R121, R220). With a NaN among the lanes the index of RARGMAX is
a free value. -/
def execVopReduce (core : CoreId) (args : VopArgs) (s : State) : Host.Outcome State Fault Refusal :=
  let tree (f : Nat → Nat → Nat × Flags) : Eff := vopLanes core args [args.va.val] (fun r => match r with
    | x :: _ => reduced (reduceTree (reduce2 f) (x.map (fun v => (v, if f32 v = .nan then Flags.justNan else Flags.none))))
    | _ => [])
  run (vop core 5 args (match args.opc with
    | 0x40 => tree (vAdd false)
    | 0x41 => tree (vMinMax true)
    | 0x42 => tree (vMinMax false)
    | _ => draw (fun free => vopLanes core args [args.va.val] (fun r => match r with
      | x :: _ =>
        match reduceTree argMax2 (x.zip (List.range 1024)) with
        | m :: _ =>
          let v := vSpecial m.1
          reduced [v, clean (if f32 m.1 = .nan then free % 2 ^ 32 else m.2)]
        | [] => []
      | _ => [])))) s

/-- VOP_LOAD: 1,024 packed elements widened into the lanes (R117, R221). -/
def execVopLoad (core : CoreId) (args : VopArgs) (conflicts : List (Nat × Nat)) (s : State) : Host.Outcome State Fault Refusal :=
  run (vop core 6 { args with opc := if args.opc = 0x48 then 0x48 else 0 } (seq [
    each conflicts (fun c => spdConflict core.val c.2 (72 + args.vu.val)),
    rd fun s =>
      let p := core.val
      let st := s.spdStore p (conflicts.map (fun c => c.1))
      let a := s.vopAddr p args.imm args.sreg.val
      let es := (List.range 1024).map (st.elem a (fmtBits args.fmt))
      let out := es.map (fun e => if e.2 then (0, Flags.poisonIf true) else widen args.fmt e.1)
      vopLanes core args [] (fun _ => out)])) s

/-- VOP_STORE: the lanes converted and written packed (R118, R221). -/
def execVopStore (core : CoreId) (args : VopArgs) (conflicts : List (Nat × Nat)) (s : State) : Host.Outcome State Fault Refusal :=
  run (vop core 6 { args with opc := if args.opc = 0x49 then 0x49 else 0 } (seq [
    each conflicts (fun c => spdConflict core.val c.2 (72 + args.vu.val)),
    rd fun s =>
      let p := core.val
      let v := s.vu (p * 4 + args.vu.val)
      let out := (v.lanes args.parity args.va.val).map (storeLane args.fmt args.nonsat)
      let fl := (out.foldl (fun g x => g.or x.2) (v.flagsOf args.va.val)).or (Flags.poisonIf (!args.parity.isEmpty))
      seq [spdWrLost p (s.vopAddr p args.imm args.sreg.val) (packOver (fmtBits args.fmt) (out.map (fun x => x.1)) (fun _ => 0)) fl.poison
          (conflicts.map (fun c => c.1)),
        vopEnd p args.vu.val args.tag.val fl]])) s

/-- The 32 blocks of 32 lanes. -/
def blocks32 (xs : List Nat) : List (List Nat) := (List.range 32).map (fun b => (xs.drop (32 * b)).take 32)

/-- VOP_QUANT: 32 blocks quantised to an MX format, their scale bytes after the elements (R104, R221). -/
def execVopQuant (core : CoreId) (args : VopArgs) (conflicts : List (Nat × Nat)) (s : State) : Host.Outcome State Fault Refusal :=
  run (vop core 6 { args with opc := if args.opc = 0x4A then 0x4A else 0 } (seq [
    each conflicts (fun c => spdConflict core.val c.2 (72 + args.vu.val)),
    rd fun s =>
      let p := core.val
      let v := s.vu (p * 4 + args.vu.val)
      let qs := (blocks32 (v.lanes args.parity args.va.val)).map (fun b => mxQuant args.fmt (b.map f32))
      let fl := (qs.foldl (fun g q => g.or q.2.2) (v.flagsOf args.va.val)).or (Flags.poisonIf (!args.parity.isEmpty))
      seq [spdWrLost p (s.vopAddr p args.imm args.sreg.val)
          (packOver (fmtBits args.fmt) (qs.flatMap (fun q => q.2.1)) (fun _ => 0) ++ qs.map (fun q => BitVec.ofNat 8 q.1)) fl.poison
          (conflicts.map (fun c => c.1)),
        vopEnd p args.vu.val args.tag.val fl]])) s

/-! The sampler (R185 to R190). -/

/-- One Philox-4×32 round. -/
def philoxRound (k0 k1 : Nat) (c : Nat × Nat × Nat × Nat) : Nat × Nat × Nat × Nat :=
  let a := 0xD2511F53 * c.1
  let b := 0xCD9E8D57 * c.2.2.1
  ((b / 2 ^ 32) ^^^ c.2.1 ^^^ k0, b % 2 ^ 32, (a / 2 ^ 32) ^^^ c.2.2.2 ^^^ k1, a % 2 ^ 32)

/-- Rounds of Philox, the key advancing after each. -/
def philox : Nat → Nat → Nat → Nat × Nat × Nat × Nat → Nat × Nat × Nat × Nat
  | 0, _, _, c => c
  | n + 1, k0, k1, c => philox n ((k0 + 0x9E3779B9) % 2 ^ 32) ((k1 + 0xBB67AE85) % 2 ^ 32) (philoxRound k0 k1 c)

/-- The draw u of a record, an exact FP32 value in [0, 1) (R187). -/
def sampleDraw (r : List Byte) : Nat :=
  let x0 := (philox 10 (leAt r 0x10 4) (leAt r 0x14 4) (leAt r 0x18 4, leAt r 0x1C 4, leAt r 0xC 4, leAt r 0x2C 4)).1
  (fp32.convert true (.fin false (x0 / 256) (-24))).1

/-- TOP_K in effect: 0 means 4,096 (R185). -/
def topK (r : List Byte) : Nat := if leAt r 8 2 = 0 then 4096 else leAt r 8 2

/-- A record is valid under a SAMPLE's bounds (R185, R186). -/
def recordValid (vmax kmax : Nat) (r : List Byte) : Bool :=
  (match f32 (leAt r 0 4) with | .fin neg m _ => !neg || m == 0 | _ => false) &&
  (match f32 (leAt r 4 4) with | .fin neg m e => !neg && m != 0 && !Dy.lt ⟨1, 0⟩ ⟨m, e⟩ | _ => false) &&
  decide (leAt r 8 2 ≤ 4096) && decide (leAt r 0xA 2 ≤ 1) && decide (1 ≤ leAt r 0x20 4) && decide (leAt r 0x20 4 ≤ 1048576) &&
  decide (leAt r 0x20 4 ≤ vmax) && decide (topK r ≤ kmax) && fits (leAt r 0x24 4) (leAt r 0x20 4 * 4) (2 ^ 28) &&
  decide (leAt r 0x28 4 < 2 ^ 21) && !anySet (r.drop 0x30)

/-- A candidate: index and FP32 value. -/
abbrev Cand := Nat × Nat

/-- Candidate order: value descending, index ascending (R188 step 4). -/
def candBefore (a b : Cand) : Bool := Num.lt (f32 b.2) (f32 a.2) || (Num.eqv (f32 a.2) (f32 b.2) && decide (a.1 < b.1))

/-- Insert a candidate in order. -/
def candInsert (c : Cand) : List Cand → List Cand
  | [] => [c]
  | x :: xs => if candBefore c x then c :: x :: xs else x :: candInsert c xs

/-- Running sums of weights, in candidate order (R188 step 5). -/
def runSums : Nat → List Nat → List Nat
  | _, [] => []
  | acc, w :: ws => let t := (vAdd false acc w).1; t :: runSums t ws

/-- Steps 4 to 7 of R188: the chosen candidate among values that survived step 3, with TOP_P and the draw. -/
def drawToken (k topP u : Nat) (zs : List Cand) : Option Nat :=
  let cs := (zs.foldl (fun l c => candInsert c l) []).take k
  match cs with
  | [] => none
  | c0 :: _ =>
    let ws := cs.map (fun c => (spExpd (f32 c.2) (f32 c0.2)).1)
    let sums := match ws with | w :: rest => w :: runSums w rest | [] => []
    let total := sums.getLastD 0
    let h := (vMul topP total).1
    let n := match sums.findIdx? (fun t => !Num.lt (f32 t) (f32 h)) with | some j => j + 1 | none => cs.length
    let r := (vMul u ((sums[n - 1]?).getD 0)).1
    let j := match (sums.take n).findIdx? (fun t => Num.lt (f32 r) (f32 t)) with | some j => j | none => n - 1
    (cs[j]?).map (fun c => c.1)

/-- The choice of a token from a valid record and its logits (R188): the token, none for NO_CANDIDATE, and the flags.
A product that overflows to −∞ sets INF (R182), and is excluded. -/
def chooseToken (r : List Byte) (logits : List (Nat × Bool)) : Option Nat × Flags :=
  let ls := (List.range logits.length).zip (logits.map (fun l => if l.2 then 0 else l.1))
  let nanFl := if ls.any (fun c => f32 c.2 == .nan) then Flags.justNan else Flags.none
  let live := ls.filter (fun c => f32 c.2 != .nan && f32 c.2 != .inf true)
  let invT := leAt r 0 4
  if bitOf (leAt r 0xA 2) 0 || (match f32 invT with | .fin _ m _ => m == 0 | _ => false) || topK r == 1 then
    (((live.foldl (fun (b : Option Cand) c => match b with | none => some c | some x => if candBefore c x then some c else some x) none).map
      (fun c => c.1)), nanFl)
  else
    let zs := live.map (fun c => (c.1, (vMul c.2 invT).1))
    let lowFl := if zs.any (fun c => f32 c.2 == .inf true) then Flags.justInf else Flags.none
    match zs.find? (fun c => f32 c.2 == .inf false) with
    | some c => (some c.1, nanFl.or Flags.justInf)
    | none => (drawToken (topK r) (leAt r 4 4) (sampleDraw r) (zs.filter (fun c => f32 c.2 != .inf true)), nanFl.or lowFl)

/-- The token record a sampler posts (R447). -/
def tokenRecord (r : List Byte) (token outcome : Nat) (poison : Bool) (tc module_ : Nat) : List Byte :=
  natLe 1 1 ++ natLe 1 outcome ++ natLe 1 (b2n poison) ++ natLe 1 0 ++ natLe 4 token ++ natLe 8 (leAt r 0x18 8) ++
  natLe 4 (leAt r 0xC 4) ++ natLe 4 (leAt r 0x2C 4) ++ natLe 8 tc ++ natLe 2 0 ++ natLe 2 module_ ++ natLe 4 token ++ natLe 24 0

/-- The record delivered to the queue that QUEUE names, or discarded and counted (R189, R448). -/
def samplePost (p q : Nat) (rec_ : List Byte) : Eff := rd fun s =>
  let x := s.queue q
  let inside := match s.qPhys q with | some o => s.flaskOf o == s.flaskOf p && (s.flaskOf p).isSome | none => false
  match x.kind, s.qPhys q with
  | .hostPost, _ => either inside (postRecord q rec_) (queueOverrun p q)
  | .local, some o =>
    either (inside && decide (x.ringCount < x.depth)) (ringPush o q (rec_.take 32 ++ natLe 4 0 ++ rec_.drop 36) false) (queueOverrun p q)
  | _, _ => queueOverrun p q

/-- D, the length of a SAMPLE in cycles (R190). -/
def SampleOp.cycles (o : SampleOp) : Nat := (o.vmax + 1023) / 1024 + o.kmax + (o.kmax + 255) / 256 + 168

/-- VOP_SAMPLE: a SAMPLE is accepted and waits for any earlier one on its unit (R186, R190, R221). -/
def execVopSample (core : CoreId) (args : SampleArgs) (s : State) : Host.Outcome State Fault Refusal :=
  let p := core.val
  let k := p * 4 + args.vu.val
  run (seqStep p 1 none (rd fun s =>
    let a := s.vopAddr p args.imm args.sreg.val
    if (s.vu k).queued (s.sc p) ≥ 8 then issueOverflow p
    else if 1 ≤ args.vmaxBlocks ∧ args.vmaxBlocks ≤ 1024 ∧ 1 ≤ args.kmax ∧ args.kmax ≤ 4096 ∧ fits a 64 (2 ^ 28) = true then
      onVu k (fun v => { v with waiting := v.waiting ++ [{
        recAddr := a, vmax := args.vmaxBlocks * 1024, kmax := args.kmax, vd := args.vd.val, tag := args.tag.val, issued := s.sc p,
        start := 0, valid := false, poison := false, record := [], logits := [] }] })
    else seq [fset F.VU_ERR_OP_INVALID k 1, containCore p 0x0209 (72 + args.vu.val) [(1, 0x50)]])) s

/-- SAMPLE_START: the oldest waiting SAMPLE begins: its record is read and validated, its logits scanned (R186, R188 step 1,
R190). -/
def execSampleStart (core : CoreId) (vu : Fin 4) (s : State) : Host.Outcome State Fault Refusal :=
  run (rd fun s =>
    let p := core.val
    let k := p * 4 + vu.val
    match (s.vu k).waiting with
    | [] => nop
    | o :: rest =>
      when (s.scheduled p && (s.vu k).sample.isNone)
        (let bad := s.spdPoisoned p o.recAddr 64
         let r := if bad then List.replicate 64 0 else s.spdRd p o.recAddr 64
         let ok := !bad && recordValid o.vmax o.kmax r
         let st := s.spdStore p []
         let logits := if ok then (List.range (leAt r 0x20 4)).map (st.elem (leAt r 0x24 4) 32) else []
         let start := max (o.issued + 1) (s.vu k).sampleFree
         let o' := { o with start, valid := ok, poison := bad || logits.any (fun l => l.2), record := r, logits }
         seq [onVu k (fun v => { v with waiting := rest, sample := some o', sampleFree := start + o.cycles }),
           fset F.VU_STAT_SAMPLING k 1, fsat F.VU_SAMP_STALL_CYCLES k (start - (o.issued + 1)),
           when (!ok) (seq [fset F.VU_ERR_SAMP_PARAM k 1, raise 0x020C 1 (s.who p (72 + vu.val)) []])])) s

/-- TOKEN_CHOSEN: the SAMPLE in progress chooses its token, writes VD, VU_SAMP_LAST and its record (R188, R189, R204, R205,
R443). -/
def execTokenChosen (core : CoreId) (vu : Fin 4) (s : State) : Host.Outcome State Fault Refusal :=
  run (rd fun s =>
    let p := core.val
    let k := p * 4 + vu.val
    match (s.vu k).sample with
    | none => nop
    | some o =>
      when (s.scheduled p)
        (let ch := if o.valid then chooseToken o.record o.logits else (none, Flags.none)
         let outcome := if o.valid then (if ch.1.isSome then 0 else 1) else 2
         let token := ch.1.getD 0xFFFFFFFF
         let fl := ch.2.or (Flags.poisonIf o.poison)
         seq [onVu k (fun v => { v.setReg o.vd ([token, outcome, b2n o.poison] ++ List.replicate 1021 0) fl with sample := none }),
           vopEnd p vu.val o.tag fl, fset F.VU_STAT_SAMPLING k 0, fadd F.VU_SAMP_COUNT_COUNT k 1,
           fset F.VU_SAMP_LAST_TOKEN k token, fset F.VU_SAMP_LAST_OUTCOME k outcome, fput F.VU_SAMP_LAST_POISON k o.poison,
           fset F.VU_SAMP_LAST_POSITION k (leAt o.record 0x18 8),
           samplePost p (leAt o.record 0x28 4 % 2 ^ 21) (tokenRecord o.record token outcome o.poison s.tc s.module), vuBusy p])) s

end Sys2Proof.Machine
end

