-- ==== Sys2Proof/Machine/Image.lean ====
section
/-! DEFINITION. Mould images (R224 to R233, R505, R506, R621) and checks 1 to 15 and 17 to 22 of R234 on them. Every check
answers the first rejection it finds. -/
namespace Sys2Proof.Machine

/-- A rejection (R235): its status, section, core, unit, reason, index and image offset. -/
structure Reject where
  status : Nat
  sect : Nat
  core : Nat
  unit : Nat
  reason : Nat
  index : Nat
  off : Nat
  deriving DecidableEq, Repr

/-- The 16 B detail record (R235). -/
def Reject.bytes (r : Reject) : List Byte :=
  natLe 2 r.status ++ natLe 2 r.sect ++ natLe 2 r.core ++ natLe 1 r.unit ++ natLe 1 r.reason ++ natLe 4 r.index ++ natLe 4 r.off

/-- A rejection for the header or the trailer. -/
def Reject.hdr (status off : Nat) : Reject := { status, sect := 0xFFFF, core := 0xFFFF, unit := 0xFF, reason := 0, index := 0, off }

/-- A rejection for a section that a core or port lacks: it names the core or port, and the section table. -/
def Reject.lacks (status core : Nat) : Reject := { Reject.hdr status 0x100 with core }

/-- A check's answer: nothing, or a rejection. -/
def must (ok : Bool) (r : Reject) : Option Reject := if ok then none else some r

/-- A section of an image (R226). -/
structure Sec where
  idx : Nat
  kind : Nat
  temper : Nat
  core : Nat
  off : Nat
  len : Nat
  crc : Nat
  bytes : List Byte
  deriving DecidableEq, Repr

/-- A rejection that names a section. -/
def Sec.bad (x : Sec) (status : Nat) : Reject :=
  { status, sect := x.idx, core := x.core, unit := 0xFF, reason := 0, index := 0, off := x.off }

/-- The section of an entry of the table. -/
def secAt (b : List Byte) (i : Nat) : Sec :=
  let h := 0x100 + 32 * i
  { idx := i, kind := leAt b h 1, temper := leAt b (h + 1) 1, core := leAt b (h + 2) 2, off := leAt b (h + 4) 4, len := leAt b (h + 8) 4,
    crc := leAt b (h + 12) 4, bytes := (b.drop (leAt b (h + 4) 4)).take (leAt b (h + 8) 4) }

/-- The sections of an image. -/
def secsOf (b : List Byte) : List Sec := (List.range (leAt b 0x18 2)).map (secAt b)

/-- An image as the checks see it: its bytes, sections, FORMAT, tempers, the core list as the image has it. -/
structure Img where
  b : List Byte
  secs : List Sec
  fmt1 : Bool
  tempers : Nat
  cores : List Nat
  deriving DecidableEq, Repr

/-- The image that bytes spell. -/
def Img.parse (b : List Byte) : Img :=
  let secs := secsOf b
  let fl := match secs.find? (fun x => x.kind == 1) with | some x => x.bytes | none => []
  { b, secs, fmt1 := leAt b 4 2 == 1, tempers := leAt b 0x1A 1, cores := ((fl.drop 16).take (leAt fl 0 2)).map BitVec.toNat }

/-- A section by kind, core and temper. -/
def Img.sec (m : Img) (kind core temper : Nat) : Option Sec := m.secs.find? (fun x => x.kind == kind && x.core == core && x.temper == temper)

/-- Its bytes. -/
def Img.bytes (m : Img) (kind core temper : Nat) : List Byte := match m.sec kind core temper with | some x => x.bytes | none => []

/-- The logical core behind a core number of the image: its own, or translated by the base row of the compatibility block
(R38). -/
def Img.logical (m : Img) (base n : Nat) : Nat := if m.fmt1 then (base + n / 12) * 14 + n % 12 else n

/-! Checks 1 to 12: header, table and resources. -/

/-- The module's own stepping as a bit of STEPPING_MASK (R224). -/
def stepBit : Nat → Nat
  | 0xA0 => 0 | 0xA1 => 1 | 0xB0 => 2 | _ => 31

/-- Checks 1 to 6: the header (R224). -/
def State.checkHeader (s : State) (b : List Byte) (len : Nat) : Option Reject :=
  let fmt := leAt b 4 2
  let total := leAt b 0x14 4
  (must (decide (256 ≤ b.length) && leAt b 0 4 == 0x444C4F4D && (fmt == 2 || fmt == 1) && leAt b 6 2 == 0x100) (.hdr 0x0120 0)).orElse fun _ =>
  (must (total == len && b.length == total && total % 64 == 0 && decide (total ≤ 0x40000000)) (.hdr 0x0121 0x14)).orElse fun _ =>
  (must (leAt b 8 2 == 3) (.hdr 0x0122 8)).orElse fun _ =>
  (must (leAt b 10 2 == (if fmt = 2 then 0x20 else 0x12)) (.hdr 0x0123 10)).orElse fun _ =>
  (must (fmt == 1 || bitOf (leAt b 12 4) (stepBit (s.fget F.MOD_ID_STEPPING 0))) (.hdr 0x0124 12)).orElse fun _ =>
  must (leAt b 0x10 1 == s.fget F.MOD_ID_COMPAT_LEVEL 0) (.hdr 0x0125 0x10)

/-- Checks 7 and 8: the key and the signature (R225, R657). -/
def State.checkSigned (s : State) (b : List Byte) (signatureOk : Bool) : Option Reject :=
  let k := leAt b 0x11 1
  (must (decide (k < 8) && bitOf (s.fget F.SAF_KEYS_MOULD_PRESENT 0) k && !bitOf (s.fget F.SAF_KEYS_MOULD_REVOKED 0) k) (.hdr 0x0401 0x11)).orElse fun _ =>
  must signatureOk (.hdr 0x0402 (leAt b 0x14 4 - 128))

/-- The kinds that are per temper (R227). -/
def secPerTemper (k : Nat) : Bool := [2, 3, 4, 5, 8, 11].elem k
/-- The kinds that are per core (R227). -/
def secPerCore (k : Nat) : Bool := [2, 3, 4, 6, 7, 10, 11].elem k

/-- A section's entry has the form of R226, R227 and R232. -/
def Img.secOk (m : Img) (x : Sec) : Bool :=
  (decide (1 ≤ x.kind) && decide (x.kind ≤ 11)) && !(m.fmt1 && [8, 9, 11].elem x.kind) &&
  (if secPerTemper x.kind then decide (x.temper < m.tempers) else x.temper == 0xFF) &&
  (if secPerCore x.kind then m.cores.elem x.core else if x.kind = 5 then decide (x.core < 24) else x.core == 0xFFFF) &&
  x.off % 64 == 0 && decide (0x100 + 32 * m.secs.length ≤ x.off) && decide (x.off + x.len + 128 ≤ m.b.length) &&
  !anySet ((m.b.drop (0x110 + 32 * x.idx)).take 16) && crc32 x.bytes == x.crc

/-- Two entries of the table clash: the same KIND, TEMPER and CORE, or bytes that overlap (R226). -/
def Sec.clash (x y : Sec) : Bool :=
  (x.kind == y.kind && x.temper == y.temper && x.core == y.core) || (decide (x.off < y.off + y.len) && decide (y.off < x.off + x.len))

/-- A list ascends strictly. -/
def ascends : List Nat → Bool
  | a :: b :: t => decide (a < b) && ascends (b :: t)
  | _ => true

/-- Check 9: the section table (R226, R227, R229, R232). -/
def Img.checkTable (m : Img) : Option Reject :=
  let fl := m.bytes 1 0xFFFF 0xFF
  let whole := decide (1 ≤ m.secs.length) && decide (m.secs.length ≤ 4096) && decide (1 ≤ m.tempers) && decide (m.tempers ≤ 4) &&
    decide (0x100 + 32 * m.secs.length + 128 ≤ m.b.length)
  (must whole (.hdr 0x0126 0x18)).orElse fun _ =>
  ((m.secs.find? (fun x => !m.secOk x || m.secs.any (fun y => decide (y.idx < x.idx) && x.clash y))).map
    (fun x => { x.bad 0x0126 with off := 0x100 + 32 * x.idx })).orElse fun _ =>
  (must ((m.sec 1 0xFFFF 0xFF).isSome && (m.fmt1 || (m.sec 9 0xFFFF 0xFF).isSome)) (.hdr 0x0126 0x100)).orElse fun _ =>
  ((m.sec 1 0xFFFF 0xFF).bind (fun x => must (leAt fl 0 2 == leAt m.b 0x1C 2 && decide (1 ≤ leAt fl 0 2) && decide (leAt fl 0 2 ≤ 140) &&
      !anySet ((fl.drop 2).take 6) && decide (16 + leAt fl 0 2 ≤ fl.length) && !anySet (fl.drop (16 + leAt fl 0 2)) && ascends m.cores)
    (x.bad 0x0126))).orElse fun _ =>
  (m.cores.find? (fun c => (m.sec 6 c 0xFF).isNone || (m.sec 7 c 0xFF).isNone)).map (fun c => Reject.lacks 0x0126 c)

/-- The row maps as GRID_HASH takes them (R224). -/
def State.gridHash (s : State) : Nat := crc64 ((List.range 10).flatMap (fun r => natLe 8 (s.fget F.MOD_ROW_MAP_r_MAP r)))

/-- Check 10: GRID_HASH and POUR_MODULE. -/
def State.checkGrid (s : State) (m : Img) : Option Reject :=
  (must (leAt m.b 0x30 8 == (if m.fmt1 then 0 else s.gridHash)) (.hdr 0x0127 0x30)).orElse fun _ =>
  must (decide (leAt m.b 0x38 4 ≤ 1) || leAt m.b 0x3C 2 == s.module) (.hdr 0x0127 0x3C)

/-- A logical core is a non-vacant core of a flask. -/
def State.flaskHas (s : State) (f l : Nat) : Bool := (s.flask f).cores.elem l && (s.physOf l).isSome

/-- Check 11: the cores and the DRAM (R282). -/
def State.checkCores (s : State) (f : Nat) (m : Img) : Option Reject :=
  let fl := m.sec 1 0xFFFF 0xFF
  let bad := if m.fmt1 then none else (m.cores.findIdx? (fun c => !s.flaskHas f c))
  match fl with
  | none => none
  | some x =>
    match bad with
    | some i => some { x.bad 0x0301 with core := m.cores.getD i 0, index := i, off := x.off + 16 + i }
    | none => must (decide (leAt x.bytes 8 8 ≤ (s.flask f).gib * 2 ^ 30)) { x.bad 0x0301 with off := x.off + 8 }

/-- The base row of the compatibility block (R39): the lowest of 0 to 2 whose routes can be padded and whose cores are the
flask's. -/
def State.compatRow (s : State) (f : Nat) (m : Img) (padOk : List Nat) : Option Nat :=
  [0, 1, 2].find? (fun b => padOk.elem b && m.cores.all (fun n => decide (n < 96) && s.flaskHas f (m.logical b n)))

/-- Check 12: the compatibility block (R39). -/
def State.checkCompat (s : State) (f : Nat) (m : Img) (padOk : List Nat) : Option Reject :=
  must (!m.fmt1 || (decide (12 ≤ s.fget F.MOD_GRID_STAT_WIDTH 0) && !s.flag F.MOD_GRID_STAT_COMPAT_ACTIVE 0 && (s.compatRow f m padOk).isSome)) (.hdr 0x0302 4)

/-! Programs (R210 to R213, R228). -/

/-- The instructions of a PROGRAM section. -/
def progCount (p : List Byte) : Nat := leAt p 0 4

/-- Instructions that a PROGRAM section can hold at most, of those it counts. -/
def progHeld (p : List Byte) : Nat := min (progCount p) (p.length / 16)

/-- The loops of a program: (PC of the LOOP, counter, last PC of its body). -/
def progLoops (p : List Byte) : List (Nat × Nat × Nat) :=
  (List.range (progHeld p)).filterMap (fun pc => let i := instrAt p pc; if leAt i 0 1 = 5 then some (pc, leAt i 1 1, leAt i 8 4) else none)

/-- The loops whose body holds a PC, outermost first. -/
def loopsAround (ls : List (Nat × Nat × Nat)) (pc : Nat) : List (Nat × Nat × Nat) := ls.filter (fun l => decide (l.1 < pc) && decide (pc ≤ l.2.2))

/-- The cycles of a static block from a PC up to another (R212); none where it is not static. -/
def blockCycles (p : List Byte) : Nat → Nat → Nat → Option Nat
  | 0, _, _ => none
  | fuel + 1, pc, stop =>
    if stop ≤ pc then some 0
    else
      let i := instrAt p pc
      match leAt i 0 1 with
      | 0 => (blockCycles p fuel (pc + 1) stop).map (fun n => n + leAt i 4 4 + 1)
      | 5 =>
        let last := leAt i 8 4
        if bitOf (leAt i 2 1) 0 ∨ stop ≤ last ∨ last < pc then none
        else match blockCycles p fuel (pc + 1) (last + 1), blockCycles p fuel (last + 1) stop with
          | some a, some b => some (1 + leAt i 4 4 * a + b)
          | _, _ => none
      | 1 => (blockCycles p fuel (pc + 1) stop).map (fun n => n + 1)
      | 2 => (blockCycles p fuel (pc + 1) stop).map (fun n => n + 1)
      | 3 => (blockCycles p fuel (pc + 1) stop).map (fun n => n + 1)
      | 7 => (blockCycles p fuel (pc + 1) stop).map (fun n => n + 1)
      | 8 => (blockCycles p fuel (pc + 1) stop).map (fun n => n + 1)
      | 10 => (blockCycles p fuel (pc + 1) stop).map (fun n => n + 1)
      | _ => none

/-- The bits an opcode names in each of its 16 bytes (R210); a VOP is checked by check 18. -/
def opMask : Nat → List Nat
  | 0 => [0xFF, 0, 0, 0, 0xFF, 0xFF, 0xFF, 0xFF, 0, 0, 0, 0, 0, 0, 0, 0]
  | 1 => [0xFF, 0xFF, 0xFF, 0xF, 0x1F, 0xFF, 1, 0, 0, 0, 0, 0, 0, 0, 0, 0]
  | 2 => [0xFF, 0xFF, 0xFF, 0xF, 0x1F, 0xFF, 0xFF, 0, 0, 0, 0, 0, 0, 0, 0, 0]
  | 3 => List.replicate 16 0xFF
  | 4 => [0xFF, 0x1F, 0xFF, 0xFF, 0xFF, 0xFF, 0xFF, 0xFF, 0, 0, 0, 0, 0, 0, 0, 0]
  | 5 => [0xFF, 3, 1, 0x1F, 0xFF, 0xFF, 0xFF, 0xFF, 0xFF, 0xFF, 0xFF, 0xFF, 0, 0, 0, 0]
  | 6 => [0xFF, 7, 0x1F, 0x3F, 0xFF, 0xFF, 0xFF, 0xFF, 0xFF, 0xFF, 0xFF, 0xFF, 0, 0, 0, 0]
  | 7 => [0xFF, 0xF, 0x1F, 0x1F, 0x1F, 0, 0, 0, 0xFF, 0xFF, 0xFF, 0xFF, 0xFF, 0xFF, 0xFF, 0xFF]
  | 8 => [0xFF, 0x1F, 0xFF, 0xF, 0, 0, 0, 0, 0, 0, 0, 0, 0, 0, 0, 0]
  | 9 => [0xFF, 0x1F, 0xFF, 0xF, 0x1F, 1, 0, 0, 0xFF, 0xFF, 0xFF, 0xFF, 0, 0, 0, 0]
  | 10 => [0xFF, 3, 0xFF, 0x1F, 0x1F, 0x1F, 0, 0, 0xFF, 0xFF, 0xFF, 0xF, 0, 0, 0, 0]
  | 15 => [0xFF, 0, 0, 0, 0, 0, 0, 0, 0, 0, 0, 0, 0, 0, 0, 0]
  | _ => []

/-- Reason 1: an opcode or operation that is not defined, or a reserved bit. -/
def instrReserved (i : List Byte) : Bool :=
  let op := leAt i 0 1
  let m := opMask op
  m.isEmpty || (m.zip i).any (fun x => x.2.toNat - (x.2.toNat &&& x.1) != 0) ||
  (op == 6 && (decide (leAt i 1 1 > 4) || (leAt i 1 1 != 4 && decide (leAt i 3 1 ≥ 32)))) || (op == 7 && decide (leAt i 1 1 > 9))

/-- An operation fits the kind of a binding (R218). -/
def qopFits (op kind : Nat) : Bool :=
  match op with
  | 0 => kind == 2
  | 1 => kind == 1 || kind == 3 || kind == 0x10
  | 2 => kind == 1 || kind == 0x11
  | _ => true

/-- The bindings of a QUEUES section (R231): their 32 bytes. -/
def qBinds (b : List Byte) : List (List Byte) := (List.range (b.length / 32)).map (fun i => (b.drop (32 * i)).take 32)

/-- The reason that check 17 gives an instruction, 0 for none (R211 to R218, R235). -/
def instrReason (p desc queues : List Byte) (pc : Nat) : Nat :=
  let i := instrAt p pc
  let n := progCount p
  let op := leAt i 0 1
  let ls := progLoops p
  let entries := desc.length / 64
  if instrReserved i then 1
  else match op with
    | 5 =>
      let last := leAt i 8 4
      let around := loopsAround ls pc
      if last ≥ n then 2
      else if decide (last ≤ pc) || around.length ≥ 4 || around.any (fun l => l.2.1 == leAt i 1 1 || decide (l.2.2 < last)) ||
        (!bitOf (leAt i 2 1) 0 && leAt i 4 4 == 0) then 3 else 0
    | 6 =>
      let t := leAt i 4 4
      if t ≥ n then 2
      else if decide (t ≤ pc) || (match (loopsAround ls pc).getLast? with | some l => decide (t > l.2.2) | none => !(loopsAround ls t).isEmpty) ||
        (match (loopsAround ls pc).getLast? with | some l => (loopsAround ls t).getLast? != some l | none => false) ||
        blockCycles p (n + 1) (pc + 1) t != some (leAt i 8 4) then 4 else 0
    | 1 => if leAt i 1 1 ≥ 72 ∨ leAt i 2 2 ≥ entries then 5 else 0
    | 2 => if leAt i 1 1 ≥ 4 ∨ leAt i 2 2 + 4 > entries then 5 else 0
    | 10 =>
      (match (qBinds queues).find? (fun q => leAt q 0 2 == leAt i 2 2) with
       | some q => if qopFits (leAt i 1 1) (leAt q 2 1) then 0 else 5
       | none => if leAt i 2 2 ≥ 8192 then 1 else 0)
    | _ => 0

/-- Check 17 for one program: its head, each instruction, the last one HALT; `used` bytes of the bank over all tempers. -/
def progReject (x : Sec) (desc queues : List Byte) (used : Nat) : Option Reject :=
  let p := x.bytes
  let n := progCount p
  let bad (unit reason index off : Nat) : Reject := { x.bad 0x0135 with unit, reason, index, off := x.off + off }
  let head := decide (1 ≤ n) && decide (1 ≤ leAt p 4 2) && decide (leAt p 4 2 ≤ 256) && !anySet ((p.drop 6).take 10) &&
    decide (progBase p + 16 * n ≤ p.length)
  let badPt (f : Nat → Bool) (reason : Nat) : Option Reject :=
    ((List.range (leAt p 4 2)).find? f).map (fun i => bad 0xFE reason (leAt p (16 + 8 * i) 4) (16 + 8 * i))
  (must (decide (n ≤ 16384)) (bad 0xFE 6 0 0)).orElse fun _ =>
  (must head (bad 0xFE 1 0 0)).orElse fun _ =>
  (badPt (fun i => decide (1 < leAt p (16 + 8 * i + 6) 2)) 1).orElse fun _ =>
  (badPt (fun i => decide (n ≤ leAt p (16 + 8 * i) 4)) 2).orElse fun _ =>
  (((List.range n).find? (fun pc => instrReason p desc queues pc != 0)).map
    (fun pc => bad 0xFE (instrReason p desc queues pc) pc (progBase p + 16 * pc))).orElse fun _ =>
  (must (decide (used ≤ 524288) && decide (desc.length / 64 ≤ 4096) && desc.length % 64 == 0) (bad 0xFE 6 0 0)).orElse fun _ =>
  must (leAt (instrAt p (n - 1)) 0 1 == 15) (bad 0xFE 7 (n - 1) (progBase p + 16 * (n - 1)))

/-- The (core, temper) pairs of an image. -/
def Img.places (m : Img) : List (Nat × Nat) := m.cores.flatMap (fun c => (List.range m.tempers).map (fun t => (c, t)))

/-- Bank bytes of a core over all tempers (R208). -/
def Img.bankUse (m : Img) (c : Nat) : Nat := (List.range m.tempers).foldl (fun a t => a + (m.bytes 2 c t).length + (m.bytes 3 c t).length) 0

/-- Check 17. -/
def Img.checkPrograms (m : Img) : Option Reject :=
  m.places.findSome? (fun q => (m.sec 2 q.1 q.2).bind (fun x => progReject x (m.bytes 3 q.1 q.2) (m.bytes 6 q.1 0xFF) (m.bankUse q.1)))

/-! Operations, descriptors and records (checks 18 to 21). -/

/-- Each instruction of an opcode in each program: the place, the section, the PC and the 16 bytes. -/
def Img.instrs (m : Img) (op : Nat) : List ((Nat × Nat) × Sec × Nat × List Byte) :=
  m.places.flatMap (fun q => match m.sec 2 q.1 q.2 with
    | some x => (List.range (progHeld x.bytes)).filterMap (fun pc =>
        let i := instrAt x.bytes pc
        if leAt i 0 1 = op then some (q, x, pc, i) else none)
    | none => [])

/-- A VOP instruction is valid at load, SREG taken as 0 (R219 to R221). -/
def vopOk (i : List Byte) : Bool :=
  let c := leAt i 2 1
  let fmt := leAt i 7 1
  let a := leAt i 8 4
  let frame := decide (leAt i 1 1 < 8) && decide (leAt i 3 1 < 64) && decide (leAt i 0xC 1 < 32) && decide (leAt i 0xD 2 < 4096) && leAt i 0xF 1 == 0
  if c = 0x50 then
    frame && decide (1 ≤ leAt i 4 2) && decide (leAt i 4 2 ≤ 1024) && decide (1 ≤ leAt i 6 2) && decide (leAt i 6 2 ≤ 4096) && fits a 64 (2 ^ 28)
  else match vopClass c with
    | none => false
    | some cls =>
      frame && decide (leAt i 4 1 < 64) && decide (leAt i 5 1 < 64) && decide (leAt i 6 1 < 64) &&
      (if c = 0x1A ∨ c = 0x48 ∨ c = 0x49 then decide (fmt ≤ 0x10) && !isMx fmt else if c = 0x4A then isMx fmt else fmt == 0) &&
      (cls != 6 || fits a (1024 * fmtBits fmt / 8 + (if c = 0x4A then 32 else 0)) (2 ^ 28)) && (c != 0x2A || decide (a < 128))

/-- Check 18. -/
def Img.checkVops (m : Img) : Option Reject :=
  ((m.instrs 3).find? (fun x => !vopOk x.2.2.2)).map (fun x =>
    { x.2.1.bad 0x0134 with unit := 72 + leAt x.2.2.2 1 1 % 4, index := x.2.2.1, off := x.2.1.off + progBase x.2.1.bytes + 16 * x.2.2.1 })

/-- The reason that the descriptor of an ISSUE fails for (R134, R176), 0 for none. -/
def State.issueReason (s : State) (m : Img) (base : Nat) (q : Nat × Nat) (i : List Byte) : Nat :=
  let unit := leAt i 1 1
  let se := decide (unit ≥ 64)
  let sect := m.bytes 3 q.1 q.2
  let b := (sect.drop (64 * leAt i 2 2)).take 64
  let n := if se then unit - 64 else unit
  let p := (s.physOf (m.logical base q.1)).getD 0
  descReason se { n, width := s.presented { se, core := p, n } (parseDesc se b), prev := none, relocOut := false, fed := fedBy se sect n } b

/-- Checks 19 and 20: every descriptor that an ISSUE names. -/
def State.checkDescs (s : State) (m : Img) (base : Nat) (se : Bool) : Option Reject :=
  ((m.instrs 1).find? (fun x => decide (leAt x.2.2.2 1 1 ≥ 64) == se && s.issueReason m base x.1 x.2.2.2 != 0)).map (fun x =>
    let i := x.2.2.2
    match m.sec 3 x.1.1 x.1.2 with
    | some d => { d.bad (if se then 0x0132 else 0x0131) with
        unit := leAt i 1 1, reason := s.issueReason m base x.1 i, index := leAt i 2 2, off := d.off + 64 * leAt i 2 2 }
    | none => x.2.1.bad (if se then 0x0132 else 0x0131))

/-- The records of an INIT_DATA section (R227): address, length, where the bytes start. -/
def initRecs : Nat → List Byte → Nat → List (Nat × Nat × Nat)
  | 0, _, _ => []
  | fuel + 1, b, at_ =>
    if b.length < at_ + 8 then []
    else
      let n := leAt b (at_ + 4) 4
      (leAt b at_ 4, n, at_ + 8) :: initRecs fuel b (at_ + (8 + n + 63) / 64 * 64)

/-- The first record of INIT_DATA that is cut off or lies outside scratchpad, if there is one: its index and where it starts
(R227). -/
def initBad (b : List Byte) : Option (Nat × Nat) :=
  let rs := initRecs (b.length / 64 + 1) b 0
  match rs.findIdx? (fun r => decide (b.length < r.2.2 + r.2.1) || decide (2 ^ 28 < r.1 + r.2.1)) with
  | some i => some (i, (rs.getD i (0, 0, 8)).2.2 - 8)
  | none =>
    let stop := match rs.getLast? with | some r => r.2.2 - 8 + (8 + r.2.1 + 63) / 64 * 64 | none => 0
    if stop < b.length then some (rs.length, stop) else none

/-! Regions and bindings (R230, R231). -/

/-- A declaration of a REGIONS section (R230). -/
structure RegDecl where
  base : Nat
  len : Nat
  kind : Nat
  form : Nat
  fmt : Nat
  nnz : Nat
  metaBase : Nat
  metaLen : Nat
  deriving DecidableEq, Repr

/-- The declarations that a section spells. -/
def regDecls (b : List Byte) : List RegDecl :=
  (List.range (b.length / 32)).map (fun i =>
    let d := b.drop (32 * i)
    { base := leAt d 0 4, len := leAt d 4 4, kind := leAt d 8 1, form := leAt d 9 1, fmt := leAt d 10 1, nnz := leAt d 11 1, metaBase := leAt d 12 4,
      metaLen := leAt d 16 4 })

/-- A range lies in another. -/
def within (a n base len : Nat) : Bool := decide (base ≤ a) && decide (a + n ≤ base + len)

/-- Two ranges share a byte. -/
def rangesMeet (a n b m : Nat) : Bool := decide (a < b + m) && decide (b < a + n)

/-- A declaration is well formed (R230). -/
def RegDecl.ok (r : RegDecl) : Bool :=
  r.base % 64 == 0 && r.len % 64 == 0 && decide (r.base + r.len ≤ 2 ^ 28) && decide (1 ≤ r.kind) && decide (r.kind ≤ 4) && decide (r.form ≤ 2) &&
  (r.fmt == 0xFF || decide (r.fmt ≤ 0x10)) && (if r.form = 2 then decide (1 ≤ r.nnz) && decide (r.nnz ≤ 32) else r.nnz == 0) &&
  (if r.form = 0 then r.metaBase == 0 && r.metaLen == 0 else decide (r.metaBase + r.metaLen ≤ 2 ^ 28))

/-- The value and metadata lengths that a descriptor reads as its B operand (R134, R176). -/
def Desc.bLens (d : Desc) (se : Bool) : Nat × Nat :=
  if !se then (byteLen (fmtBits d.fmtB) (d.k * d.cols), 0)
  else if d.form = 1 then (byteLen (fmtBits d.fmtB) (d.k / 2 * d.n), byteLen 4 (d.k / 4 * d.n))
  else (byteLen (fmtBits d.fmtB) (d.k / 32 * d.n * d.nnz), d.k / 32 * d.n * 4)

/-- A descriptor's B operand lies in a region of the right form (R180, check 14); a descriptor that gives no B range, since its
formats, K or address are out of range, is left to checks 19 and 20. -/
def Desc.inRegion (d : Desc) (se : Bool) (rs : List RegDecl) : Bool :=
  let n := d.bLens se
  d.op != 1 || decide (d.fmtA > 0xE) || decide (d.fmtB > 0xE) || (pairRow d.fmtA d.fmtB).isNone || decide (d.k < 1) || decide (d.k > 65536) ||
  decide (d.bAddr ≥ 2 ^ 28) || rs.any (fun r =>
    within d.bAddr n.1 r.base r.len &&
    (if se then r.form == d.form && (d.form != 2 || r.nnz == d.nnz) && within d.metaAddr n.2 r.metaBase r.metaLen else r.form == 0 || r.fmt == 0xFF))

/-- Check 14: regions, the B ranges of descriptors, the records of INIT_DATA. -/
def Img.checkRegions (m : Img) : Option Reject :=
  (m.cores.findSome? (fun c => (m.sec 7 c 0xFF).bind (fun x =>
    let rs := regDecls x.bytes
    let areas (r : RegDecl) := [(r.base, r.len), (r.metaBase, r.metaLen)].filter (fun a => a.2 != 0)
    let bad (i : Nat) := match rs[i]? with
      | some r => !r.ok || anySet ((x.bytes.drop (32 * i + 20)).take 12) ||
          (rs.take i).any (fun q => (areas q).any (fun a => (areas r).any (fun b => rangesMeet a.1 a.2 b.1 b.2))) ||
          (r.form != 0 && rangesMeet r.base r.len r.metaBase r.metaLen)
      | none => false
    (must (x.bytes.length % 32 == 0) (x.bad 0x0129)).orElse fun _ =>
    ((List.range rs.length).find? bad).map (fun i => { x.bad 0x0129 with index := i, off := x.off + 32 * i })))).orElse fun _ =>
  (((m.instrs 1).find? (fun x =>
    let i := x.2.2.2
    let se := decide (leAt i 1 1 ≥ 64)
    !(parseDesc se (((m.bytes 3 x.1.1 x.1.2).drop (64 * leAt i 2 2)).take 64)).inRegion se (regDecls (m.bytes 7 x.1.1 0xFF)))).map (fun x =>
      match m.sec 3 x.1.1 x.1.2 with
      | some d => { d.bad 0x0129 with unit := leAt x.2.2.2 1 1, index := leAt x.2.2.2 2 2, off := d.off + 64 * leAt x.2.2.2 2 2 }
      | none => x.2.1.bad 0x0129)).orElse fun _ =>
  m.cores.findSome? (fun c => (m.sec 10 c 0xFF).bind (fun x => (initBad x.bytes).map (fun o => { x.bad 0x0129 with index := o.1, off := x.off + o.2 })))

/-- The byte that INIT_DATA gives a scratchpad address, the last record that holds it deciding. -/
def initByte (b : List Byte) (rs : List (Nat × Nat × Nat)) (a : Nat) : Option Byte :=
  rs.foldl (fun x r => if r.1 ≤ a ∧ a < r.1 + r.2.1 then b[r.2.2 + (a - r.1)]? else x) none

/-- The bytes that INIT_DATA gives a scratchpad range, when it gives all of them. -/
def initAt (b : List Byte) (a n : Nat) : Option (List Byte) :=
  let rs := initRecs (b.length / 64 + 1) b 0
  let bs := (List.range n).filterMap (fun i => initByte b rs (a + i))
  if bs.length = n then some bs else none

/-- The line addresses of a scratchpad range that a record of INIT_DATA touches. -/
def initLines (b : List Byte) (base len : Nat) : List Nat :=
  (initRecs (b.length / 64 + 1) b 0).flatMap (fun r =>
    let lo := max r.1 base
    let hi := min (r.1 + r.2.1) (base + len)
    if lo < hi then (List.range ((hi + 63) / 64 - lo / 64)).map (fun i => (lo / 64 + i) * 64) else [])

/-- Check 21: a sampler record known at load and invalid (R186). A SAMPLE's record is taken under its bounds, a line of a
SAMPLER region under the widest ones. -/
def Img.checkRecords (m : Img) : Option Reject :=
  (((m.instrs 3).find? (fun x =>
    let i := x.2.2.2
    leAt i 2 1 == 0x50 && (match initAt (m.bytes 10 x.1.1 0xFF) (leAt i 8 4) 64 with
      | some r => !recordValid (leAt i 4 2 * 1024) (leAt i 6 2) r
      | none => false))).map (fun x =>
    { x.2.1.bad 0x0133 with unit := 72 + leAt x.2.2.2 1 1 % 4, index := x.2.2.1, off := x.2.1.off + progBase x.2.1.bytes + 16 * x.2.2.1 })).orElse fun _ =>
  m.cores.findSome? (fun c => (m.sec 7 c 0xFF).bind (fun y =>
    let b := m.bytes 10 c 0xFF
    let rs := regDecls y.bytes
    ((List.range rs.length).find? (fun i => match rs[i]? with
      | some r => r.kind == 4 && (initLines b r.base r.len).any (fun a => match initAt b a 64 with
        | some x => !recordValid 1048576 4096 x
        | none => false)
      | none => false)).map (fun i => { y.bad 0x0133 with index := i, off := y.off + 32 * i })))

/-- A PEER of an image's own terms, translated for FORMAT 1 (R38). -/
def Img.peerOf (m : Img) (base module fa : Nat) : Nat :=
  if m.fmt1 && faModule fa == module then
    faOfQueue module (m.logical base (faQueue fa / 8192) * 8192 + faQueue fa % 8192)
  else fa

/-- Ring and shadow of a binding: base, bytes, entries. -/
def bindRings (q : List Byte) : List (Nat × Nat × Nat) :=
  let k := leAt q 2 1
  let d := 2 ^ leAt q 3 1
  let h := leAt q 0x14 4
  if k = 1 ∨ k = 3 then [(leAt q 0xC 4, 64 * d, d)]
  else if k = 0x10 then [(bitsOf h 6 22 * 64, 64 * 2 ^ bitsOf h 0 3, 2 ^ bitsOf h 0 3)] else []

/-- A binding is well formed (R231, R449). -/
def bindOk (q : List Byte) : Bool :=
  let k := leAt q 2 1
  let d := leAt q 3 1
  let h := leAt q 0x14 4
  let elastic := k == 2 || k == 3
  [1, 2, 3, 0x10, 0x11].elem k && decide (leAt q 0 2 < 8192) && (if k = 2 then d == 0 else decide (1 ≤ d) && decide (d ≤ 12)) &&
  (elastic || leAt q 4 8 == 0) && (!elastic || (faSpace (leAt q 4 8) == 4 && bitsOf (leAt q 4 8) 27 17 == 0)) &&
  (k == 1 || k == 3 || leAt q 0xC 4 == 0) && decide (leAt q 0xC 4 < 2 ^ 28) &&
  (if k = 3 then decide (1 ≤ leAt q 0x10 2) && decide (leAt q 0x10 2 ≤ 16) else leAt q 0x10 2 == 0) &&
  (decide (k ≥ 0x10) || (leAt q 0x12 2 == 0 && h == 0)) && decide (leAt q 0x12 2 < 2048) && leAt q 0x18 8 == 0 &&
  (k != 0x10 || (decide (1 ≤ bitsOf h 0 3) && decide (bitsOf h 0 3 ≤ 6) && bitsOf h 3 3 == 0 && bitsOf h 28 2 == 0 && !bitOf h 31 && !bitOf h 30)) &&
  (k != 0x11 || h - (if bitOf h 30 then 2 ^ 30 else 0) == 0)

/-- The binding behind an own-module peer FA has the opposite elastic kind. -/
def Img.peerBound (m : Img) (base module fa kind : Nat) : Bool :=
  m.cores.any (fun c => m.logical base c == faQueue fa / 8192 &&
    (qBinds (m.bytes 6 c 0xFF)).any (fun q => leAt q 0 2 == faQueue fa % 8192 && leAt q 2 1 == 5 - kind)) &&
  faModule fa == module

/-- Check 15. -/
def State.checkBindings (s : State) (m : Img) (base : Nat) : Option Reject :=
  m.cores.findSome? (fun c => (m.sec 6 c 0xFF).bind (fun x =>
    let qs := qBinds x.bytes
    let rings := (regDecls (m.bytes 7 c 0xFF)).filter (fun r => r.kind == 3)
    let entries (i : Nat) := ((qs.take i).flatMap bindRings).foldl (fun a r => a + r.2.2) 0
    let bad (i : Nat) := match qs[i]? with
      | some q =>
        let fa := m.peerOf base s.module (leAt q 4 8)
        !bindOk q || decide (entries (i + 1) > 32768) || (qs.take i).any (fun p => leAt p 0 2 == leAt q 0 2) ||
        (bindRings q).any (fun a => !rings.any (fun r => within a.1 a.2.1 r.base r.len)) ||
        ((leAt q 2 1 == 2 || leAt q 2 1 == 3) && faModule fa == s.module && !m.peerBound base s.module fa (leAt q 2 1))
      | none => false
    (must (x.bytes.length % 32 == 0) (x.bad 0x012A)).orElse fun _ =>
    ((List.range qs.length).find? bad).map (fun i =>
      { x.bad 0x012A with index := leAt (qs.getD i []) 0 2, off := x.off + 32 * i })))

/-! Tempers (check 13). -/

/-- The loops that enclose each switch point, by counter, outermost first, in order of switch point number. -/
def ptLoops (p : List Byte) : List (Nat × List Nat) :=
  (progPts p).map (fun q => (q.n, (loopsAround (progLoops p) q.pc).map (fun l => l.2.1)))

/-- Two programs declare the same switch points in loops of the same counters. -/
def samePts (a b : List Byte) : Bool :=
  (ptLoops a).all (fun x => (ptLoops b).elem x) && (ptLoops b).all (fun x => (ptLoops a).elem x)

/-- No switch point number is listed twice. -/
def ptsOnce (p : List Byte) : Bool :=
  let ns := (progPts p).map (fun q => q.n)
  ns.eraseDups.length == ns.length

/-- A load tag has the form of R506. -/
def tagOk (b : List Byte) : Bool :=
  decide (3664 ≤ leAt b 2 3) && decide (leAt b 5 1 < 20) && decide (leAt b 6 2 ≤ 1023)

/-- The first of n places at which a list of keys, switch point then OFFSET, descends. -/
def descendsAt (key : Nat → Nat × Nat) (n : Nat) : Option Nat :=
  (List.range n).find? (fun i => decide (1 ≤ i) &&
    (decide ((key i).1 < (key (i - 1)).1) || ((key i).1 == (key (i - 1)).1 && decide ((key i).2 < (key (i - 1)).2))))

/-- The highest LEVEL among a cluster's tags, 0 with none (R505). -/
def peakOf (tags : List (List Byte)) (c : Nat) : Nat :=
  tags.foldl (fun a t => if leAt t 5 1 = c then max a (leAt t 6 2) else a) 0

/-- The first of two places in a list of n items: of one that is bad, of one out of order. -/
def firstBad (n : Nat) (bad : Nat → Bool) (key : Nat → Nat × Nat) : Option Nat :=
  match (List.range n).find? bad, descendsAt key n with
  | some a, some b => some (min a b)
  | some a, none => some a
  | none, x => x

/-- Where a TEMPERS section of n entries first breaks R505 or R506: in its head, an entry or a tag. -/
def tempersBad (b : List Byte) (n : Nat) : Option Nat :=
  if leAt b 0 1 != n || anySet ((b.drop 1).take 15) || decide (b.length < 16 + 128 * n) then some 0
  else (List.range n).findSome? (fun t =>
    let e := b.drop (temperAt t)
    let off := leAt e 8 4
    let cnt := leAt e 12 4
    let tag (i : Nat) := (b.drop (off + 8 * i)).take 8
    if !(leAt e 0 1 == t && !anySet ((e.drop 1).take 3) && decide (1 ≤ leAt e 4 4) && off % 8 == 0 && decide (1 ≤ cnt) && decide (cnt ≤ 65536) &&
      decide (off + 8 * cnt ≤ b.length) && !anySet ((e.drop 0x60).take 32)) then some (temperAt t)
    else match firstBad cnt (fun i => !tagOk (tag i)) (fun i => (leAt (tag i) 0 2, leAt (tag i) 2 3)) with
      | some i => some (off + 8 * i)
      | none =>
        let tags := (List.range cnt).map tag
        if (List.range 20).all (fun c => leAt e (0x38 + 2 * c) 2 == peakOf tags c) then none else some (temperAt t + 0x38))

/-- Units of a KIND of R621 on a core: MEs, SEs, VUs. -/
def windowUnits : Nat → Nat
  | 0 => 64 | 1 => 8 | _ => 4

/-- Where an IDLE_MAP section first breaks R621: in its head or a window. -/
def idleMapBad (b : List Byte) : Option Nat :=
  let n := leAt b 0 4
  let w (i : Nat) := (b.drop (16 + 16 * i)).take 16
  let ok (i : Nat) := decide (256 ≤ leAt (w i) 2 2) && decide (leAt (w i) 7 1 ≤ 2) && decide (leAt (w i) 8 8 < 2 ^ windowUnits (leAt (w i) 7 1))
  if b.length < 16 || decide (n > 65536) || anySet ((b.drop 4).take 12) || decide (b.length < 16 + 16 * n) || anySet (b.drop (16 + 16 * n)) then some 0
  else (firstBad n (fun i => !ok i) (fun i => (leAt (w i) 0 2, leAt (w i) 4 3))).map (fun i => 16 + 16 * i)

/-- Check 13. -/
def Img.checkTempers (m : Img) : Option Reject :=
  let ts := List.range m.tempers
  let kinds := if m.fmt1 then [2, 3, 4] else [2, 3, 4, 11]
  let ports := ((m.secs.filter (fun x => x.kind == 5)).map (fun x => x.core)).eraseDups
  let lackCore (c : Nat) := kinds.any (fun k => ts.any (fun t => (m.sec k c t).isNone))
  (must (!(m.fmt1 && (m.tempers != 1 || bitOf (leAt m.b 0x12 2) 1))) (.hdr 0x0128 0x12)).orElse fun _ =>
  (must (m.fmt1 || ts.all (fun t => (m.sec 8 0xFFFF t).isSome)) (.hdr 0x0128 0x100)).orElse fun _ =>
  ((ports.find? (fun p => ts.any (fun t => (m.sec 5 p t).isNone))).map (fun p => Reject.lacks 0x0128 p)).orElse fun _ =>
  ((m.cores.find? lackCore).map (fun c => Reject.lacks 0x0128 c)).orElse fun _ =>
  (m.places.findSome? (fun q => (m.sec 2 q.1 q.2).bind (fun x =>
    must (ptsOnce x.bytes && samePts (m.bytes 2 q.1 0) x.bytes) (x.bad 0x0128)))).orElse fun _ =>
  if m.fmt1 then none
  else
    ((m.secs.find? (fun x => x.kind == 8 && x.bytes != m.bytes 8 0xFFFF 0)).map (fun x => x.bad 0x0128)).orElse fun _ =>
    ((m.sec 9 0xFFFF 0xFF).bind (fun x => (tempersBad x.bytes m.tempers).map (fun o => { x.bad 0x0128 with off := x.off + o }))).orElse fun _ =>
    m.places.findSome? (fun q => (m.sec 11 q.1 q.2).bind (fun x => (idleMapBad x.bytes).map (fun o => { x.bad 0x0128 with off := x.off + o })))

/-! Staging (check 22). -/

/-- A range is free to a Mould's core (R230). -/
def freeIn (rs : List RegDecl) (a n : Nat) : Bool := rs.all (fun r => !rangesMeet a n r.base r.len && !rangesMeet a n r.metaBase r.metaLen)

/-- Check 22: the INIT_DATA of a staged Mould lies in scratchpad free to the active one; the staged bank is not in use. -/
def State.checkStaging (s : State) (f : Nat) (m : Img) (base : Nat) : Option Reject :=
  let x := s.flask f
  let busy := match x.halt with | some h => h.kind == .switch | none => false
  (must (!busy) (.hdr 0x0303 0)).orElse fun _ =>
  m.cores.findSome? (fun c => (m.sec 10 c 0xFF).bind (fun y =>
    let rs := regDecls (x.active.sect 7 (m.logical base c) 0)
    let recs := initRecs (y.bytes.length / 64 + 1) y.bytes 0
    (recs.findIdx? (fun r => !freeIn rs r.1 r.2.1)).map (fun i =>
      { y.bad 0x0303 with index := i, off := y.off + (recs.getD i (0, 0, 8)).2.2 - 8 })))

end Sys2Proof.Machine
end

