-- ==== Sys2Proof/Machine/Tables.lean ====
section
/-! DEFINITION. Check 16 of R234: the rules on Sprue slot tables (R360, R362) and on Runner slot tables (R403, R404, R406), and
all 22 checks in order. -/
namespace Sys2Proof.Machine

/-! Links between routers (R354, R355, R366). -/

/-- The seam segments between two columns of one row, from a column eastward over a number of steps. -/
def seamsEast (p : Nat) : Nat → Nat
  | 0 => 0
  | n + 1 => seamsEast p n + b2n (clusterOf (p + n) != clusterOf (p + n + 1))

/-- The first core that holds a logical column, eastward or westward, and how many cores that hold none lie before it. -/
def State.skipTo (s : State) (p : Nat) (east : Bool) : Option (Nat × Nat) :=
  let room := if east then 15 - p % 16 else p % 16
  ((List.range room).find? (fun j => (s.logOf (if east then p + j + 1 else p - j - 1)).isSome)).map
    (fun j => (if east then p + j + 1 else p - j - 1, j))

/-- The router that an output leads to and the latency of the hop (R354, R355). -/
def State.linkTo (s : State) (p out : Nat) : Option (Nat × Nat) :=
  let beside (ok : Bool) (q : Nat) : Option (Nat × Nat) :=
    if ok && (s.logOf q).isSome then some (q, 2 + b2n (clusterOf p != clusterOf q)) else none
  match out with
  | 0 => beside (decide (p % 16 < 15)) (p + 1)
  | 1 => beside (decide (p % 16 < 15)) (p + 1)
  | 2 => beside (decide (p % 16 > 0)) (p - 1)
  | 3 => beside (decide (p % 16 > 0)) (p - 1)
  | 4 => beside (decide (p ≥ 16)) (p - 16)
  | 5 => beside (decide (p < 144)) (p + 16)
  | 6 => (s.skipTo p true).map (fun x => (x.1, 2 + x.2 + seamsEast p (x.2 + 1)))
  | 7 => (s.skipTo p false).map (fun x => (x.1, 2 + x.2 + seamsEast x.1 (x.2 + 1)))
  | _ => none

/-- The neighbour of a compatibility number on the BV-12 grid (R38). -/
def compatTo (n out : Nat) : Option Nat :=
  match out with
  | 0 => if n % 12 < 11 then some (n + 1) else none
  | 1 => if n % 12 < 11 then some (n + 1) else none
  | 2 => if n % 12 > 0 then some (n - 1) else none
  | 3 => if n % 12 > 0 then some (n - 1) else none
  | 4 => if n ≥ 12 then some (n - 12) else none
  | 5 => if n < 84 then some (n + 12) else none
  | _ => none

/-- The output of the neighbouring router that drives an input (R360). -/
def opposite : Nat → Nat
  | 0 => 2 | 1 => 3 | 2 => 0 | 3 => 1 | 4 => 5 | 5 => 4 | 6 => 7 | _ => 6

/-- The image's core behind an output of one of its cores, with the latency of the hop: 10 cycles in a compatibility block
(R366). -/
def State.imgLink (s : State) (m : Img) (c out : Nat) : Option (Nat × Nat) :=
  if m.fmt1 then (compatTo c out).bind (fun n => if m.cores.elem n then some (n, 10) else none)
  else (s.physOf c).bind (fun p => (s.linkTo p out).bind (fun x => (s.logOf x.1).bind (fun l => if m.cores.elem l then some (l, x.2) else none)))

/-! Slots. -/

/-- The slot with an ordinal among those that are not elastic. -/
def slotOfIdx (i : Nat) : Nat := i / 15 * 16 + i % 15

/-- The slot of beat k of an entry (R360). -/
def SprSlot.beatSlot (e : SprSlot) (period k : Nat) : Nat :=
  let lat := if e.src < 8 then e.latency else 0
  let first := (e.slot + period * (lat / max period 1 + 1) - lat) % max period 1
  (slotOfIdx ((slotIdx first + k) % max (period * 15 / 16) 1) + lat) % max period 1

/-- The slots of an entry's beats. -/
def SprSlot.slots (e : SprSlot) (period : Nat) : List Nat := (List.range e.run).map (fun k => e.beatSlot period k)

/-- Rule 1 for an entry (R360, R362). -/
def SprSlot.inRange (e : SprSlot) (period : Nat) (b : List Byte) : Bool :=
  let last := (e.run - 1) * e.step * 128
  let spdAddr := e.addr % 128 == 0 && decide (e.addr + last + 128 ≤ 2 ^ 28)
  decide (e.slot < period) && decide (1 ≤ e.run) && decide (e.run ≤ period * 15 / 16) && decide (e.out ≤ 8) && decide (e.src ≤ 9) && e.flow != 0 &&
  (if e.out = 8 then decide (e.src < 8) else true) && (e.out == 8 || !elasticSlot e.slot) &&
  (if e.src = 9 then decide (e.addr < 64)
   else if e.src = 8 then spdAddr
   else if e.out = 8 then (if bitOf e.addr 28 then decide (e.addr % 2 ^ 28 < 64) && decide (e.addr < 2 ^ 29) else spdAddr) else decide (e.addr < 2 ^ 29)) &&
  decide (e.counter < 8192) && bitsOf e.origin 13 2 == 0 && !anySet ((b.drop 20).take 12) &&
  (e.out == 8 || (e.slots period).all (fun t => !elasticSlot t))

/-- The entries of the router of an image's core in a temper. -/
def Img.router (m : Img) (c t : Nat) : List SprSlot := sprEntries (m.bytes 4 c t)

/-- The ports of an edge router's side, 4 (N) or 5 (S), that the image binds in a temper (R356). -/
def State.stopPorts (s : State) (m : Img) (c side t : Nat) : List Nat :=
  match s.physOf c with
  | none => []
  | some p => (s.stopsAt p).filter (fun n => decide ((n < 12) = (side = 4)) && (m.sec 5 n t).isSome)

/-- Rule 3 for an output or input: it joins a core of the flask, or a port that the image binds. -/
def State.linkOk (s : State) (m : Img) (c t side : Nat) : Bool :=
  decide (8 ≤ side) || (s.imgLink m c side).isSome || ((side == 4 || side == 5) && !(s.stopPorts m c side t).isEmpty)

/-- Rule 4 for an entry: every beat is fed by a beat of its flow, at the hop's latency earlier, and LATENCY is the sum along
the flow; a beat from a port stop is one that an RX entry of its flow releases (R406 rule 2). -/
def State.fedOk (s : State) (m : Img) (c t period : Nat) (e : SprSlot) : Bool :=
  if e.src ≥ 8 then true
  else if e.beatSlot period 0 ≠ e.slot then false
  else match s.imgLink m c e.src with
    | some (q, hop) =>
      let gs := (m.router q t).filter (fun g => g.out == opposite e.src && g.flow == e.flow)
      sprPeriodOf (m.bytes 4 q t) == sprPeriodOf (m.bytes 4 c t) &&
      (e.slots period).all (fun x => gs.any (fun g =>
        e.latency == hop + (if g.src < 8 then g.latency else 0) && (g.slots period).elem ((x + period * (hop / max period 1 + 1) - hop) % max period 1)))
    | none =>
      let rs := (s.stopPorts m c e.src t).flatMap (fun n => (runEntries (m.bytes 5 n t)).filter (fun r => r.dir == 1 && r.flow == e.flow))
      (e.slots period).all (fun x => rs.any (fun r => (SprSlot.slots { e with slot := (r.slot + 2) % max period 1, run := r.run } period).elem x))

/-- Rule 2: another entry before this one holds a slot of its output. -/
def outClash (period : Nat) (e : SprSlot) (before : List SprSlot) : Bool :=
  before.any (fun g => g.out == e.out && (g.slots period).any (fun x => (e.slots period).elem x))

/-- Entry i of a core's table in a temper breaks a rule of R362. Rule 5 adds nothing to rule 2: a skip path ends at the first
router that holds a logical column (R355), so beats of two routers share no segment past a switched-off core. -/
def State.sprueBreaks (s : State) (m : Img) (rule c t : Nat) (x : Sec) (i : Nat) : Bool :=
  let period := 2 ^ sprPeriodOf x.bytes
  let es := m.router c t
  match es[i]? with
  | none => false
  | some e =>
    match rule with
    | 1 => !e.inRange period ((x.bytes.drop (16 + 32 * i)).take 32)
    | 2 => outClash period e (es.take i)
    | 3 => !(s.linkOk m c t e.out && s.linkOk m c t e.src)
    | _ => !s.fedOk m c t period e

/-- The head and length of a SPRUE_SLOTS section (R360). -/
def sprueHeadOk (b : List Byte) : Bool :=
  decide (6 ≤ sprPeriodOf b) && decide (sprPeriodOf b ≤ 13) && decide (1 ≤ leAt b 2 2) && decide (leAt b 2 2 ≤ 16384) &&
  b.length == 16 + 32 * leAt b 2 2 && leAt b 1 1 == 0 && !anySet ((b.drop 4).take 12)

/-- The Sprue tables of an image (R362): the first rule broken over all of them, and the first entry that breaks it. -/
def State.checkSprue (s : State) (m : Img) : Option Reject :=
  [1, 2, 3, 4].findSome? (fun rule => m.places.findSome? (fun q => (m.sec 4 q.1 q.2).bind (fun x =>
    (must (rule != 1 || sprueHeadOk x.bytes) (x.bad 0x012B)).orElse fun _ =>
    ((List.range (m.router q.1 q.2).length).find? (s.sprueBreaks m rule q.1 q.2 x)).map
      (fun i => { x.bad 0x012B with index := i, off := x.off + 16 + 32 * i }))))

/-! Runner tables (R403, R404, R406). -/

/-- The slots of an entry's beats: consecutive, the elastic ones of the Sprue entry beside it stepped over; `shift` is the distance
to that entry. -/
def RunSlot.slots (r : RunSlot) (period : Nat) : List Nat :=
  let sh := if r.dir = 0 then period - 2 else 2
  let e : SprSlot := { slot := (r.slot + sh) % max period 1, run := r.run, out := 0, src := 8, flow := 0, addr := 0, step := 0, counter := 0, origin := 0, latency := 0 }
  (e.slots period).map (fun x => (x + period - sh % max period 1) % max period 1)

/-- Rule 3: in every window of w cycles at most ⌊6w / 16⌋ + 32 cells are sent (R403). -/
def txRateOk (period : Nat) (slots : List Nat) : Bool :=
  let twice := slots ++ slots.map (fun x => x + period)
  slots.all (fun a => twice.all (fun b =>
    decide (b < a) || decide ((twice.filter (fun x => decide (a ≤ x) && decide (x ≤ b))).length ≤ 6 * (b - a + 1) / 16 + 32)))

/-- Rule 5: at no cycle would more than 512 cells wait, a cell waiting from the peer's TX slot to its release. -/
def rxRoomOk (period : Nat) (rs : List RunSlot) : Bool :=
  let spans := rs.flatMap (fun r => (r.slots period).map (fun x => (x, r.latency)))
  spans.all (fun c => decide ((spans.foldl (fun a x => a + (x.2 + period - 1 - (x.1 + period - c.1) % max period 1) / max period 1) 0) ≤ 512))

/-- The least LATENCY of an RX entry in cycles: (Λ + 12 ns) at 1.8 GHz, rounded up (R406 rule 4). -/
def State.minLatency (s : State) (n : Nat) : Nat := ((s.fget F.RUN_DELAY_HOP_BOUND n + 12) * 18 + 9) / 10

/-- An entry has the form of R404 and its neighbour in the router's table (R406 rules 2 and 4). -/
def State.runEntryOk (s : State) (m : Img) (n t c period : Nat) (r : RunSlot) (b : List Byte) : Bool :=
  let side := if n < 12 then 4 else 5
  decide (r.slot < period) && decide (1 ≤ r.run) && decide (r.run ≤ 4096) && decide (r.dir ≤ 1) && leAt b 5 1 == 0 && r.flow != 0 && decide (r.fidx ≤ 1022) &&
  leAt b 14 2 == 0 &&
  (if r.dir = 0 then r.latency == 0 && r.originModule == 0 &&
     (m.router c t).any (fun e => e.flow == r.flow && e.out == side && e.slot == (r.slot + period - 2) % max period 1)
   else decide (s.minLatency n ≤ r.latency) && decide (r.latency ≤ 1024) &&
     (m.router c t).any (fun e => e.flow == r.flow && e.src == side && e.slot == (r.slot + 2) % max period 1))

/-- The Runner tables of an image (R406). -/
def State.checkRunner (s : State) (m : Img) (base : Nat) : Option Reject :=
  (m.secs.filter (fun x => x.kind == 5)).findSome? (fun x =>
    let n := x.core
    let lg := leAt x.bytes 0 1
    let period := 2 ^ lg
    let rs := runEntries x.bytes
    match (s.stopCore n).bind s.logOf with
    | none => some (x.bad 0x012B)
    | some l =>
      match m.cores.find? (fun c => m.logical base c == l) with
      | none => some (x.bad 0x012B)
      | some c =>
        let head := s.portState n == 4 && lg == sprPeriodOf (m.bytes 4 c x.temper) && leAt x.bytes 1 1 == 0 && decide (1 ≤ leAt x.bytes 2 2) &&
          decide (leAt x.bytes 2 2 ≤ 8192) && x.bytes.length == 16 + 16 * leAt x.bytes 2 2 && leAt x.bytes 4 2 == s.fget F.RUN_STAT_PEER_MODULE n &&
          leAt x.bytes 6 1 == s.fget F.RUN_STAT_PEER_PORT n && !anySet ((x.bytes.drop 7).take 9)
        let bad (i : Nat) := match rs[i]? with
          | some r => !s.runEntryOk m n x.temper c period r ((x.bytes.drop (16 + 16 * i)).take 16)
          | none => false
        (must head (x.bad 0x012B)).orElse fun _ =>
        (((List.range rs.length).find? bad).map (fun i => { x.bad 0x012B with index := i, off := x.off + 16 + 16 * i })).orElse fun _ =>
        must (txRateOk period ((rs.filter (fun r => r.dir == 0)).flatMap (fun r => r.slots period)) &&
          rxRoomOk period (rs.filter (fun r => r.dir == 1))) (x.bad 0x012B))

/-! All the checks (R234). -/

/-- The first check that an image fails, in the order of R234; `base` is the base row of a FORMAT 1 image's block. -/
def State.mouldCheck (s : State) (f : Nat) (staging : Bool) (env : LoadEnv) (b : List Byte) (len : Nat) : Option Reject :=
  let m := Img.parse b
  let base := (s.compatRow f m env.padOk).getD 0
  let checks : List (Unit → Option Reject) :=
    [fun _ => s.checkHeader b len, fun _ => s.checkSigned b env.signatureOk, fun _ => m.checkTable, fun _ => s.checkGrid m,
     fun _ => s.checkCores f m, fun _ => s.checkCompat f m env.padOk, fun _ => m.checkTempers, fun _ => m.checkRegions,
     fun _ => s.checkBindings m base, fun _ => s.checkSprue m, fun _ => s.checkRunner m base, fun _ => m.checkPrograms, fun _ => m.checkVops,
     fun _ => s.checkDescs m base false, fun _ => s.checkDescs m base true, fun _ => m.checkRecords,
     fun _ => if staging then s.checkStaging f m base else none]
  checks.findSome? (fun k => k ())

end Sys2Proof.Machine
end

