-- ==== Sys2Proof/Machine/Moulds.lean ====
section
/-! DEFINITION. Loading, staging and switching Moulds, tempers, and starting, halting and resetting flasks (R222, R236 to R242,
R482). -/
namespace Sys2Proof.Machine

/-! Queue bindings (R231, R242, R449). -/

/-- A binding's kind. -/
def bindKind : Nat → QKind
  | 1 => .local
  | 2 => .elasticTx
  | 3 => .elasticRx
  | 0x10 => .hostSubmit
  | 0x11 => .hostPost
  | _ => .unbound

/-- The queue that a binding makes: an empty ring and full credits. -/
def QueueSt.ofBinding (b : List Byte) : QueueSt :=
  { QueueSt.none with kind := bindKind (leAt b 2 1), depthLog2 := leAt b 3 1, ring := leAt b 0xC 4, peer := leAt b 4 8,
                      creditBatch := leAt b 0x10 2, vector := leAt b 0x12 2, hostParam := leAt b 0x14 4 }

/-- A queue takes a binding. -/
def putBinding (q : Nat) (b : List Byte) : Eff :=
  let x := QueueSt.ofBinding b
  if x.isHost then queueBindHost q x else upd [.fldsDrop queueRegs q (q + 1), .queues q x]

/-- A queue loses its binding. -/
def dropBinding (q : Nat) : Eff := upd [.fldsDrop queueRegs q (q + 1), .queues q QueueSt.none]

/-- The bindings of a Mould with their queue IDs. -/
def MouldSt.binds (m : MouldSt) : List (Nat × List Byte) :=
  m.cores.flatMap (fun l => (qBinds (m.sect 6 l 0)).map (fun b => (l * 8192 + leAt b 0 2, b)))

/-- Entries that a queue loses with its binding (R242). -/
def QueueSt.lost (x : QueueSt) : Nat :=
  match x.kind with
  | .local | .elasticRx => x.ringCount
  | .hostSubmit => sub16 x.tail x.popped
  | .hostPost => x.posts.length
  | _ => 0

/-- The entries that a change of Moulds discards (R242). -/
def State.switchLoss (s : State) (old new : MouldSt) : Nat :=
  let nb := new.binds
  (old.binds.filter (fun x => !nb.elem x)).foldl (fun a x => a + (s.queue x.1).lost) 0

/-- Queues whose binding is byte-identical in both Moulds keep their context; every other one takes its new binding, or none
(R242). -/
def switchQueues (old new : MouldSt) : Eff :=
  let ob := old.binds
  let nb := new.binds
  seq [each (ob.filter (fun x => !nb.any (fun y => y.1 == x.1))) (fun x => dropBinding x.1),
    each (nb.filter (fun x => !ob.elem x)) (fun x => putBinding x.1 x.2)]

/-! Moulds from images. -/

/-- The synthetic TEMPERS section of a FORMAT 1 image (R233): PERIOD_SC 8,192, no tags, CEFF and PEAK 96 nF times the block
cores of each cluster. -/
def State.synthTempers (s : State) (base : Nat) : List Byte :=
  let n (c : Nat) := ((List.range 160).filter (fun p => clusterOf p == c && (match s.logOf p with | some l => inBlock base l | none => false))).length
  let loads := (List.range 20).flatMap (fun c => natLe 2 (96 * n c))
  natLe 1 1 ++ natLe 15 0 ++ natLe 4 0 ++ natLe 4 8192 ++ natLe 8 0 ++ loads ++ loads ++ natLe 32 0

/-- A binding in the module's own terms (R38). -/
def Img.bindBytes (m : Img) (base module : Nat) (b : List Byte) : List Byte :=
  b.take 4 ++ natLe 8 (m.peerOf base module (leAt b 4 8)) ++ b.drop 12

/-- A section as the Mould holds it: kind, logical core or port, temper, bytes. -/
def Img.part (m : Img) (base module : Nat) (x : Sec) : Nat × Nat × Nat × List Byte :=
  (x.kind, (if secPerCore x.kind then m.logical base x.core else if x.kind = 5 then x.core else 0),
    (if x.temper = 0xFF then 0 else x.temper),
    if x.kind = 6 then (qBinds x.bytes).flatMap (m.bindBytes base module) else x.bytes)

/-- The Mould that an image spells (R224 to R233). -/
def State.mouldFrom (s : State) (m : Img) (base : Nat) : MouldSt :=
  { present := true, id := leAt m.b 0x20 16, format := leAt m.b 4 2, flags := leAt m.b 0x12 2, tempers := 2 ^ m.tempers - 1,
    width := leAt m.b 0x1B 1, cores := m.cores.map (m.logical base), pourSize := leAt m.b 0x38 4, pourModule := leAt m.b 0x3C 2,
    digest := leAt m.b 0x40 8, dramBytes := leAt (m.bytes 1 0xFFFF 0xFF) 8 8,
    sections := m.secs.map (m.part base s.module) ++ (if m.fmt1 then [(9, 0, 0, s.synthTempers base)] else []), base }

/-- A number inserted into a rising list of bindings. -/
def insBind (x : Nat × List Byte) : List (Nat × List Byte) → List (Nat × List Byte)
  | [] => [x]
  | y :: ys => if x.1 ≤ y.1 then x :: y :: ys else y :: insBind x ys

/-- The Mould record of MB_MOULD_LOAD (R485). -/
def MouldSt.record (m : MouldSt) (tempers : Nat) : List Byte :=
  let hq := (m.binds.filter (fun x => decide (leAt x.2 2 1 ≥ 0x10))).foldr insBind []
  natLe 16 m.id ++ natLe 2 m.flags ++ natLe 1 tempers ++ natLe 1 m.width ++ natLe 2 m.cores.length ++ natLe 2 hq.length ++
  natLe 1 (b2n (decide (hq.length > 508))) ++ natLe 7 0 ++
  (hq.take 508).flatMap (fun x => natLe 4 x.1 ++ natLe 1 (leAt x.2 2 1) ++ natLe 1 (leAt x.2 3 1) ++ natLe 2 (leAt x.2 0x12 2))

/-! Loading (R222, R234 to R237). -/

/-- The sequencer of a core at the start of a program (R228, R238): PC 0, SC 0, no loop, in a temper with its slot table
(R365). Results of queue operations still due are written. -/
def progStart (p temper : Nat) : Eff := seq [
  rd fun s => each (s.core p).qopDue (fun q => setScalar p q.2.1 q.2.2),
  onCore p (fun c => { c with loops := [], qopDue := [], wait := none, halted := false }),
  regReset .CORE_SEQ p, regReset .CORE_SC p, fset F.CORE_SEQ_TEMPER p temper,
  rd fun s => seq [fset F.SPR_STAT_PERIOD_LOG2 p (sprPeriodOf (s.coreSect p 4 temper)), fset F.SPR_STAT_TEMPER p temper]]

/-- The temper in which a Mould's programs begin: the one in force, 0 when the Mould lacks it (R228). -/
def State.startTemper (s : State) (m : MouldSt) : Nat :=
  let t := s.fget F.CLK_PSTEP_TEMPER 0
  if bitOf m.tempers t then t else 0

/-- INIT_DATA of a Mould is written into scratchpad (R227, R236, R243). -/
def writeInit (m : MouldSt) : Eff := rd fun s =>
  each m.cores (fun l => match s.physOf l with
    | some p =>
      let b := m.sect 10 l 0
      seq [gatherFlushAll p, each (initRecs (b.length / 64 + 1) b 0) (fun r => spdWr p r.1 ((b.drop r.2.2).take r.2.1) false)]
    | none => nop)

/-- The registers that name a flask's Moulds (R254, R257). -/
def mouldRegs (f : Nat) : Eff := rd fun s =>
  let x := s.flask f
  each (s.flaskPhys f) (fun p => seq [
    fset F.CORE_MOULD_ACTIVE_ID p (x.active.id % 2 ^ 32), fset F.CORE_MOULD_STAGED_ID p (x.staged.id % 2 ^ 32),
    fput F.CORE_STAT_STAGED p x.staged.present])

/-- A first load (R222, R236): the cores pass through LOAD, their registers at their reset values, and end in READY. -/
def loadFirst (f : Nat) (m : MouldSt) : Eff := seq [
  compatEnd f,
  rd fun s => each (s.flask f).active.binds (fun x => dropBinding x.1),
  setFlaskState f 0,
  onFlask f (fun x => { x with active := m, resumed := false, startAt := none, reported := none, atQuiesce := false, faultHalt := false,
                               draining := false, drained := false }),
  when (m.format == 1) (compatPut (some m.base)),
  rd fun s => each (s.mouldPhys f) coreStop,
  setFlaskState f 1, writeInit m,
  each m.binds (fun x => putBinding x.1 x.2),
  rd fun s => each (s.mouldPhys f) (fun p => progStart p (s.startTemper m)),
  mouldRegs f, setFlaskState f 2]

/-- A verify failure after the checks of a first load: the cores go from LOAD to RESET (R236). -/
def loadLost (f : Nat) : Eff := rd fun s => seq [compatEnd f, each (s.flaskPhys f) coreReset, onFlask f FlaskSt.unload]

/-- A DRAM range of a command (R482): below 1,280 GiB, 64 B aligned, outside every flask region but the named flask's. -/
def State.rangeOk (s : State) (f off len : Nat) : Bool :=
  off % 64 == 0 && decide (off + len ≤ dramSize) &&
  s.liveFlasks.all (fun g => g == f || !rangesMeet off len ((s.flask g).baseGib * 2 ^ 30) ((s.flask g).gib * 2 ^ 30))

/-- MB_MOULD_LOAD (R222, R234 to R237, R485, R627): a Mould is checked, and loaded into idle or READY cores or staged. -/
def execMbMouldLoad (slot : Fin 17) (env : LoadEnv) (s : State) : Host.Outcome State Fault Refusal :=
  run (mbCommand slot.val 0x0103 (fun args => rd fun s =>
    let k := slot.val
    let f := leAt args 0 1
    let staging := leAt args 1 1 == 1
    let src := leAt args 8 8
    let len := leAt args 16 4
    let x := s.flask f
    let stateOk := if staging then x.active.present && [2, 3, 4].elem (s.flaskState f)
      else (s.flaskPhys f).all (fun p => s.coreState p == 0 || s.coreState p == 2)
    let b := s.devRd src len
    let m := Img.parse b
    let mould := s.mouldFrom m ((s.compatRow f m env.padOk).getD 0)
    let done := seq [mouldRegs f, readyAgain, readyReport, mbDoneWith k (mould.record m.tempers)]
    if !x.live then mbFail k 0x0213
    else if !stateOk then mbFail k 0x0210
    else if !s.rangeOk f src len then mbFail k 0x0502
    else if bitOf (leAt b 0x12 2) 1 != x.redundant then mbFail k 0x0210
    else match s.mouldCheck f staging env b len with
      | some r => seq [mbResult k r.bytes, mbFail k r.status]
      | none =>
        either staging
          (either env.verifyFail (seq [onFlask f (fun x => { x with staged := MouldSt.none }), mouldRegs f, mbFail k 0x0506])
            (seq [onFlask f (fun x => { x with staged := mould }), writeInit mould, done]))
          (either env.verifyFail (seq [loadLost f, mbFail k 0x0506]) (seq [loadFirst f mould, sendDigests f, done])))) s

/-! Switching (R238 to R242). -/

/-- The active and staged banks of a flask are exchanged with the slot tables and bindings (R238, R242); its cores are left in
a state. -/
def bankSwap (f st : Nat) : Eff := rd fun s =>
  let old := (s.flask f).active
  let new := (s.flask f).staged
  seq [compatEnd f, setFlaskState f 0, switchQueues old new,
    onFlask f (fun x => { x with active := new, staged := old, discarded := s.switchLoss old new, halt := none, resumed := false,
                                 startAt := none, reported := none, atQuiesce := false, faultHalt := false, draining := false, drained := false,
                                 haltPoint := 0xFFFF }),
    when (new.format == 1) (compatPut (some new.base)),
    rd fun s => each (s.flaskPhys f) (fun p => fset F.CORE_STAT_BANK p (1 - s.fget F.CORE_STAT_BANK p)),
    rd fun s => each (s.mouldPhys f) (fun p => progStart p (s.startTemper new)),
    mouldRegs f, setFlaskState f st, sendDigests f]

/-- A window boundary (a multiple of 8 frames) at or after a TC and at least 4 frames ahead (R81, R238, R482). -/
def State.windowAfter (s : State) (t : Nat) : Nat :=
  let t0 := s.fget F.TC_FRAME_TC_TC 0
  let ahead := 4 + b2n (decide (t0 < s.tc))
  let far := ((t - t0) * pstepMhz s.pstep + 8192 * 1000 - 1) / (8192 * 1000)
  let j := max ahead far
  t0 + frameNs s.pstep (j + (8 - (s.frame + j) % 8) % 8)

/-- The timing master arms a flask control record for a mailbox command (R238, R239). -/
def ctlArmFor (k kind id target : Nat) : Eff := rd fun s =>
  let r : CtlRec := { seq := s.dec.nextSeq, kind, mouldIdLow := id, target, tag := s.pourTag, crcOk := true }
  seq [onSlot k (fun m => { m with phase := 1 }), upd [.dec { s.dec with nextSeq := (s.dec.nextSeq + 1) % 65536 }],
    send toTrees .flaskCtl (ctlFields r kind), ctlTake r (some k)]

/-- A command arms a halt or switch of its pour through the timing master (R238): another module refuses, and the master
waits for an earlier record. -/
def pourArm (k kind id target : Nat) : Eff := rd fun s =>
  if !s.pourMaster then mbFail k 0x0209 else when s.ctl.armed.isNone (ctlArmFor k kind id (s.windowAfter target))

/-- A halt or switch armed on this module alone. -/
def armLocal (k f : Nat) (kind : HaltKind) (quiesce : Bool) (target : Nat) : Eff :=
  seq [onSlot k (fun m => { m with phase := 1 }),
    onFlask f (fun x => { x with halt := some { kind, quiesce, target, slot := some k, cause := 1 },
                                 switchSlot := if kind = .switch then some k else x.switchSlot })]

/-- MB_MOULD_SWITCH (R238, R242): at once on a flask in HALTED or READY, after a fault halt only once it is drained; on a
running flask by halting at a quiesce point. -/
def execMbMouldSwitch (slot : Fin 17) (tc : Nat) (s : State) : Host.Outcome State Fault Refusal :=
  run (seq [tcTo tc, mbCommand slot.val 0x0104 (fun args => rd fun s =>
    let k := slot.val
    let f := leAt args 0 1
    let target := leAt args 8 8
    let x := s.flask f
    if (s.slot k).phase ≠ 0 then nop
    else if !x.live || !x.staged.present || !x.active.present || x.halt.isSome then mbFail k 0x0210
    else if s.flaskState f = 2 ∨ s.flaskState f = 4 then
      if x.faultHalt && !x.drained then mbFail k 0x0210
      else seq [bankSwap f 2, readyAgain, readyReport, rd fun s => mbDone k (s.flask f).discarded]
    else if s.flaskState f ≠ 3 then mbFail k 0x0210
    else if s.inPour f then pourArm k 0x12 (x.staged.id % 2 ^ 32) target
    else armLocal k f .switch true (if target = 0 then s.windowAfter 0 else target))]) s

/-- A running flask exchanges its banks at its quiesce point (R238, R240): in a pour it reports, outside one it restarts at the first
frame boundary at least four frames ahead. -/
def switchHalted (f : Nat) : Eff := seq [
  bankSwap f 4,
  rd fun s => onFlask f (fun x => { x with reported := some s.tc, gridStart := false }),
  rd fun s => either (s.inPour f) doneUp (onFlask f (fun x => { x with startAt := some (s.boundaryAfter 4) }))]

/-- FLASK_HALT_POINT (R238, R240, R606): a flask with a halt or switch armed reaches a quiesce point or frame boundary at or
after its target and enters HALTED. -/
def execFlaskHaltPoint (flask : FlaskId) (point : Nat) (quiesce frameBoundary : Bool) (tc : Nat) (s : State) :
    Host.Outcome State Fault Refusal :=
  run (seq [tcTo tc, rd fun s =>
    let f := flask.val
    match (s.flask f).halt with
    | none => nop
    | some h =>
      let here := if h.quiesce then quiesce else frameBoundary
      when (s.flaskIn f 3 && here && decide (h.target ≤ s.tc))
        (seq [haltNow f h.cause (if quiesce then point else 0xFFFF) quiesce (h.kind == .fault),
          when (h.kind == .switch && (s.flask f).staged.present) (switchHalted f)])]) s

/-- START_TIMEOUT (R238): no START within 1 ms of this module's report; its flasks remain HALTED. -/
def execStartTimeout (flask : FlaskId) (tc : Nat) (s : State) : Host.Outcome State Fault Refusal :=
  run (seq [tcTo tc, rd fun s =>
    let f := flask.val
    match (s.flask f).reported with
    | none => nop
    | some t =>
      when ((s.flask f).startAt.isNone && decide (t + 1000000 ≤ s.tc))
        (seq [fset F.CLK_CHG_STAT_MISSING 0 1,
          raise 0x0104 2 (flaskWho f) [(2, match s.ctl.armed with | some r => r.seq | none => 0)],
          onFlask f (fun x => { x with reported := none, switchSlot := none }),
          (match (s.flask f).switchSlot with | some k => when (s.mbRuns k 0x0104) (mbFail k 0x0207) | none => nop)])]) s

/-- TEMPER_SWITCH (R241, R365): at a switch point the sequencer and the slot tables move to the temper in force; loops keep
their counts and take the bounds of the new program. -/
def execTemperSwitch (core : CoreId) (point : Fin 65536) (s : State) : Host.Outcome State Fault Refusal :=
  run (rd fun s =>
    let p := core.val
    let t := s.fget F.CLK_PSTEP_TEMPER 0
    let pc := s.fget F.CORE_SEQ_PC p
    let here := (progPts (s.program p)).any (fun q => q.n == point.val && q.pc == pc)
    let new := s.coreSect p 2 t
    match (progPts new).find? (fun q => q.n == point.val) with
    | some q =>
      when (s.seqReady p && here && t != s.fget F.CORE_SEQ_TEMPER p)
        (seq [
          onCore p (fun c => { c with loops := c.loops.map (fun l =>
            match (loopsAround (progLoops new) q.pc).find? (fun y => y.2.1 == l.ctr) with
            | some y => { l with first := y.1 + 1, last := y.2.2 }
            | none => l) }),
          fset F.CORE_SEQ_PC p q.pc, fset F.CORE_SEQ_TEMPER p t, fset F.CORE_SEQ_SWITCH_POINT p point.val,
          fset F.SPR_STAT_PERIOD_LOG2 p (sprPeriodOf (s.coreSect p 4 t)), fset F.SPR_STAT_TEMPER p t])
    | none => nop) s

/-! Start, halt, resume, reset, unload (R222, R482). -/

/-- MB_FLASK_START (R74, R482): a READY flask of no multi-module pour starts at an epoch. -/
def execMbFlaskStart (slot : Fin 17) (s : State) : Host.Outcome State Fault Refusal :=
  run (mbCommand slot.val 0x0106 (fun args => rd fun s =>
    let k := slot.val
    let f := leAt args 0 1
    let t := if leAt args 8 8 = 0 then (s.slot k).tcAccepted + 20000 else leAt args 8 8
    if (s.slot k).phase ≠ 0 then nop
    else if !s.flaskIn f 2 then mbFail k 0x0210
    else if s.inPour f then mbFail k 0x0229
    else seq [onSlot k (fun m => { m with phase := 1 }), onFlask f (fun x => { x with startAt := some t, gridStart := true })])) s

/-- MB_FLASK_HALT (R238, R240, R482): a halt armed at a quiesce point or at a frame boundary. -/
def execMbFlaskHalt (slot : Fin 17) (s : State) : Host.Outcome State Fault Refusal :=
  run (mbCommand slot.val 0x0107 (fun args => rd fun s =>
    let k := slot.val
    let f := leAt args 0 1
    let quiesce := leAt args 1 1 == 0
    if (s.slot k).phase ≠ 0 then nop
    else if !s.flaskIn f 3 || (s.flask f).halt.isSome then mbFail k 0x0210
    else if s.inPour f && quiesce then pourArm k 0x11 0 (leAt args 8 8)
    else armLocal k f .host quiesce (leAt args 8 8))) s

/-- MB_FLASK_RESUME (R74, R222): a flask halted at a quiesce point runs on from the next frame boundary. -/
def execMbFlaskResume (slot : Fin 17) (s : State) : Host.Outcome State Fault Refusal :=
  run (mbCommand slot.val 0x0108 (fun args => rd fun s =>
    let k := slot.val
    let f := leAt args 0 1
    let x := s.flask f
    if (s.slot k).phase ≠ 0 then nop
    else if !s.flaskIn f 4 || !x.atQuiesce || x.faultHalt || x.reported.isSome then mbFail k 0x0210
    else seq [onSlot k (fun m => { m with phase := 1 }),
      onFlask f (fun x => { x with resumed := true, startAt := some s.tc, gridStart := false })])) s

/-- A flask is reset for a mailbox command, which ends when its cores have left RESET (R222, R280). -/
def resetFor (k f : Nat) : Eff := rd fun s =>
  let ps := s.flaskPhys f
  seq [flaskReset f, readyAgain,
    either ps.isEmpty (mbDone k 0) (onSlot k (fun m => { m with phase := 1, waitOn := ps }))]

/-- MB_FLASK_RESET (R154, R192, R222). -/
def execMbFlaskReset (slot : Fin 17) (s : State) : Host.Outcome State Fault Refusal :=
  run (mbCommand slot.val 0x0109 (fun args => rd fun s =>
    let k := slot.val
    let f := leAt args 0 1
    if (s.slot k).phase ≠ 0 then nop else if !(s.flask f).live then mbFail k 0x0213 else resetFor k f)) s

/-- MB_MOULD_UNLOAD (R222): the cores of a READY or HALTED flask pass through RESET. -/
def execMbMouldUnload (slot : Fin 17) (s : State) : Host.Outcome State Fault Refusal :=
  run (mbCommand slot.val 0x0105 (fun args => rd fun s =>
    let k := slot.val
    let f := leAt args 0 1
    if (s.slot k).phase ≠ 0 then nop
    else if !(s.flask f).active.present || !(s.flaskIn f 2 || s.flaskIn f 4) then mbFail k 0x0210
    else resetFor k f)) s

/-! Creation and destruction (R278 to R282, R292, R654). -/

/-- A region of a number of GiB below the reserved range (R653) that no flask holds: the lowest base in GiB. -/
def State.freeRegion (s : State) (gib : Nat) : Option Nat :=
  (List.range 1264).find? (fun b => decide (b + gib ≤ 1264) &&
    s.liveFlasks.all (fun g => !rangesMeet b gib (s.flask g).baseGib (s.flask g).gib))

/-- A flask number whose flask is gone keeps its generation (R278), its posted-fault mask and its count (R414). -/
def FlaskSt.gone (x : FlaskSt) : FlaskSt := { FlaskSt.none with gen := x.gen, postedMask := x.postedMask, writeFaults := x.writeFaults }

/-- A flask's weight keys end with its ownership of the region (R644, R654). -/
def weightsEnd (f : Nat) : Eff := rd fun s =>
  seq [upd [.saf { s.saf with keys := s.saf.keys.filter (fun k => k.flask != f) }], fbit F.SAF_STAT_SEALED 0 f false]

/-- A region changes its owner (R292): its cache lines are discarded and its written bits cleared. -/
def regionOpen (base gib : Nat) : Eff :=
  let lo := base * 2 ^ 30
  let hi := (base + gib) * 2 ^ 30
  seq [cacheDiscard lo hi, upd [.dramWrittenClear (lo / 65536) (hi / 65536), .dramClear lo hi, .dramPoisonClear (lo / 64) (hi / 64)]]

/-- MB_FLASK_CREATE (R278 to R282, R482): cores and a DRAM region take their owner; the command ends when the zeroing does
(R280). -/
def execMbFlaskCreate (slot : Fin 17) (s : State) : Host.Outcome State Fault Refusal :=
  run (mbCommand slot.val 0x0101 (fun args => rd fun s =>
    let k := slot.val
    let f := leAt args 0 1
    let gib := leAt args 2 2
    let cores := (List.range 140).filter (fun l => bitOf (leAt args 8 18) l)
    let free (l : Nat) := (s.physOf l).isSome && s.liveFlasks.all (fun g => !(s.flask g).cores.elem l)
    if (s.slot k).phase ≠ 0 then nop
    else if (s.flask f).live then mbFail k 0x0212
    else if s.flag F.MOD_GRID_STAT_OUT_OF_SERVICE 0 then mbFail k 0x0214
    else if !cores.all free then mbFail k 0x0304
    else match s.freeRegion gib with
      | none => mbFail k 0x0305
      | some base =>
        let gen := (s.flask f).gen + 1
        let ps := cores.filterMap s.physOf
        seq [onFlask f (fun x => { x.gone with live := true, gen, cores, baseGib := base, gib }),
          regionOpen base gib, each ps (fun p => coreZero p (some (f, gen))),
          either ps.isEmpty (rd fun s => mbDoneWith k (s.createResult f)) (onSlot k (fun m => { m with phase := 1, waitOn := ps }))])) s

/-- MB_FLASK_DESTROY (R278, R279, R292, R482): its cores lose their owner and are zeroed, its region is closed. A flask in RUN
is reset first. -/
def execMbFlaskDestroy (slot : Fin 17) (s : State) : Host.Outcome State Fault Refusal :=
  run (mbCommand slot.val 0x0102 (fun args => rd fun s =>
    let k := slot.val
    let f := leAt args 0 1
    let x := s.flask f
    let ps := s.flaskPhys f
    if (s.slot k).phase ≠ 0 then nop
    else if !x.live then mbFail k 0x0213
    else seq [flaskReset f, each ps (fun p => coreZero p none), regionOpen x.baseGib x.gib,
      weightsEnd f, onFlask f FlaskSt.gone, readyAgain,
      either ps.isEmpty (mbDone k 0) (onSlot k (fun m => { m with phase := 1, waitOn := ps }))])) s

/-! Caches (R284, R482). -/

/-- MB_CACHE_FLUSH: the dirty lines of a flask's region are written back. -/
def execMbCacheFlush (slot : Fin 17) (s : State) : Host.Outcome State Fault Refusal :=
  run (mbCommand slot.val 0x010C (fun args => rd fun s =>
    let x := s.flask (leAt args 0 1)
    either x.live (seq [cacheClean (x.baseGib * 2 ^ 30) ((x.baseGib + x.gib) * 2 ^ 30), mbDone slot.val 0]) (mbFail slot.val 0x0213))) s

/-- A Mould runs a Ladle descriptor that names a stream (R284, R335). -/
def MouldSt.streams (m : MouldSt) : Bool :=
  m.sections.any (fun x => x.1 == 2 && (List.range (progCount x.2.2.2)).any (fun pc =>
    let i := instrAt x.2.2.2 pc
    leAt i 0 1 == 2 && bitOf (leAt ((m.sect 3 x.2.1 x.2.2.1).drop (64 * leAt i 2 2)) 4 2) 2))

/-- MB_CACHE_PART_SET: the division of every cache, while no flask that names a stream runs (R284). -/
def execMbCachePartSet (slot : Fin 17) (s : State) : Host.Outcome State Fault Refusal :=
  run (mbCommand slot.val 0x010D (fun args => rd fun s =>
    if s.running.any (fun f => (s.flask f).active.streams) then mbFail slot.val 0x0210
    else seq [each (List.range 20) (fun c => fset F.CCH_PART_STREAM_WAYS c (leAt args 0 1)), mbDone slot.val 0])) s

end Sys2Proof.Machine
end

