-- ==== Sys2Proof/Machine/Repairs.lean ====
section
/-! DEFINITION. Drains, repairs in service, pending repairs, wear monitors and culprit windows (R26 to R29, R36, R608,
R611 to R620). -/
namespace Sys2Proof.Machine

/-! Seam track groups (R26 to R29). -/

/-- The lowest spare group of a segment that has not failed and serves no other. -/
def State.freeGroup (s : State) (seg : Nat) : Option Nat :=
  ((List.range 16).map (fun i => 256 + i)).find? (fun g =>
    !NSet.mem s.seam.failed (seg * 512 + g) && !s.seam.waiting.any (fun w => w.1 == seg && w.2.2.1 == g) &&
    !s.slag.run.any (fun e => e.kind == 4 && bitsOf e.location 0 5 == seg && e.state == 2 && e.spare == g))

/-- The clusters at the two ends of a segment (R26). -/
def segmentEnds (seg : Nat) : Nat × Nat :=
  if seg < 15 then (seg / 3 * 4 + seg % 3, seg / 3 * 4 + seg % 3 + 1) else (seg - 15, seg - 15 + 4)

/-- Track groups that carry Sprue links or skip paths, in the order of the allotment table (R27). -/
def sprueGroup (seg g : Nat) : Bool := decide (g < if seg < 15 then 208 else 160)

/-- The location of a track group (R43). -/
def groupLoc (seg g : Nat) : Nat := seg + 32 * g

/-- The flasks whose slot tables can use a segment: those with cores at both its ends. -/
def State.segmentFlasks (s : State) (seg : Nat) : List Nat :=
  let e := segmentEnds seg
  s.liveFlasks.filter (fun f => (s.flaskPhys f).any (fun p => clusterOf p == e.1) && (s.flaskPhys f).any (fun p => clusterOf p == e.2))

/-- A spare group takes the place of a failed one (R28). -/
def groupSub (seg g : Nat) : Eff := rd fun s =>
  match s.seam.waiting.find? (fun w => w.1 == seg && w.2.1 == g) with
  | none => nop
  | some (_, _, spare, reason) => seq [
      upd [.seam { s.seam with waiting := s.seam.waiting.filter (fun w => !(w.1 == seg && w.2.1 == g)) }],
      slagRecord 4 2 reason (groupLoc seg g) spare, raiseSubstituted 4 reason (groupLoc seg g) spare,
      each ((s.segmentFlasks seg).filter s.inPour) (fun f => fenceBeacon 4 0xFF 0xFF 0x0A07 f reason),
      rd fun s => when (s.freeGroup seg).isNone (raiseExhausted 4 (groupLoc seg g))]

/-! Repairs (R608, R615 to R619). -/

/-- Every flask that a repair needs drained (R615): for a track group of another function than the Sprue's, every flask. -/
def State.repairFlasks (s : State) (kind loc : Nat) : List Nat :=
  match kind with
  | 1 => s.movingFlasks loc
  | 2 => s.liveFlasks.filter (fun f => (s.flaskPhys f).elem (bitsOf loc 0 8))
  | 4 => if sprueGroup (bitsOf loc 0 5) (bitsOf loc 5 9) then s.segmentFlasks (bitsOf loc 0 5) else s.liveFlasks
  | _ => []

/-- A flask still has to be drained: in RUN, or halted with its drain under way. -/
def State.mustDrain (s : State) (f : Nat) : Bool := s.flaskIn f 3 || (s.flaskIn f 4 && (s.flask f).draining && !(s.flask f).drained)

/-- The flasks for which a repair still waits. -/
def State.repairWaits (s : State) (kind loc : Nat) : List Nat := (s.repairFlasks kind loc).filter s.mustDrain

/-- An engine's column is bypassed (R144, R146): its presented width follows. -/
def bypass (loc reason : Nat) : Eff :=
  let p := bitsOf loc 0 8
  let i := p * 64 + bitsOf loc 8 6
  let c := bitsOf loc 14 5
  seq [slagRecord 2 1 reason loc 0xFFFF, fset F.ME_CAP_WIDTH i 31, fset F.ME_CAP_BYPASS i 1, fset F.ME_CAP_BYPASS_COL i c,
    fset F.ME_CAP_QUAD_NARROW i (if c < 16 then 5 else 10), raiseFenced 2 reason loc, coreBeacon p 2 0x0A06 reason]

/-- The unit of a repair is fenced or replaced (R615). -/
def repairDo (kind loc reason : Nat) : Eff :=
  match kind with
  | 1 => fenceCore loc reason []
  | 2 => bypass loc reason
  | 3 => substituteRow (bitsOf loc 0 8) (bitsOf loc 8 6) (bitsOf loc 14 18) reason
  | 4 => groupSub (bitsOf loc 0 5) (bitsOf loc 5 9)
  | 5 => rd fun s => (match s.logLane (bitsOf loc 0 5) (bitsOf loc 5 3) with
      | some l => laneFail (bitsOf loc 0 5) l reason
      | none => nop)
  | 6 => rd fun s => seq [tileOut loc, spareRamp loc (s.fget F.PWR_TILE_t_SERVES loc) reason none]
  | _ => nop

/-- MB_FENCE is done, with the GENERATION. -/
def fenceDone (k : Nat) : Eff := rd fun s => mbDone k s.slag.generation

/-- A flask halts for a repair (R608): at a quiesce point for MB_FENCE, at the next frame boundary otherwise. -/
def repairHalt (host : Bool) (f : Nat) : Eff := rd fun s =>
  when (s.flaskIn f 3 && (s.flask f).halt.isNone)
    (onFlask f (fun x => { x with halt := some { kind := .fault, quiesce := host, target := s.tc, slot := none, cause := if host then 1 else 4 } }))

/-- The first repair in order that can be performed is, one at a time; the first that cannot has its flasks halted (R617). -/
def repairRun : Nat → Eff
  | 0 => nop
  | n + 1 => rd fun s =>
    match s.faults.repairs with
    | [] => nop
    | (kind, loc, reason, slot) :: rest =>
      let ws := s.repairWaits kind loc
      if ws.isEmpty then
        seq [upd [.faults { s.faults with repairs := rest }], repairDo kind loc reason,
          (match slot with | some k => when (s.mbRuns k 0x0301) (fenceDone k) | none => nop), repairRun n]
      else each ws (repairHalt slot.isSome)

/-- Repairs go on. -/
def repairs : Eff := rd fun s => repairRun s.faults.repairs.length

/-- A repair joins the order (R617). -/
def repairAsk (kind loc reason : Nat) (slot : Option Nat) : Eff :=
  seq [rd fun s => upd [.faults { s.faults with repairs := s.faults.repairs ++ [(kind, loc, reason, slot)] }], repairs]

/-- PENDING follows the pending repairs (R619). -/
def pendingFlag : Eff := rd fun s => fput F.MOD_FAULT_STAT_PENDING 0 (!s.faults.pendings.isEmpty)

/-- A repair becomes pending (R616, R619). -/
def pend (kind loc reason : Nat) (say : Bool) : Eff := rd fun s =>
  when (!s.faults.pendings.any (fun x => x.1 == kind && x.2.1 == loc))
    (seq [upd [.faults { s.faults with pendings := s.faults.pendings ++ [(kind, loc, reason)] }], pendingFlag,
      when say (raise 0x0A0B 0 nobody [(1, kind), (1, reason), (4, loc)])])

/-- A pending repair takes effect. -/
def pendingDo (x : Nat × Nat × Nat) : Eff := rd fun s =>
  seq [upd [.faults { s.faults with pendings := s.faults.pendings.filter (fun y => y != x) }], pendingFlag, repairDo x.1 x.2.1 x.2.2]

/-- Every pending repair takes effect (R595, R596 step 4). -/
def pendingAll : Eff := rd fun s => each s.faults.pendings pendingDo

/-- A repair that Rhozel decides (R616): a drain needs AUTO_REPAIR; a group that the Sprue does not use waits for a reset
unless no flask runs (R376, R619). -/
def autoRepair (kind loc reason : Nat) : Eff := rd fun s =>
  let free := kind == 3 || kind == 5 || kind == 6
  if free then repairDo kind loc reason
  else if !s.flag F.MOD_FAULT_CTL_AUTO_REPAIR 0 then pend kind loc reason true
  else if kind = 4 ∧ sprueGroup (bitsOf loc 0 5) (bitsOf loc 5 9) = false ∧ s.running ≠ [] then pend kind loc reason false
  else repairAsk kind loc reason none

/-- A track group fails (R28, R29): with a spare the repair is decided; with none, a core link group fences its core and any
other ends the module's service. -/
def groupFail (seg g linkCore reason : Nat) : Eff := rd fun s =>
  when (!NSet.mem s.seam.failed (seg * 512 + g))
    (seq [upd [.seam { s.seam with failed := NSet.add s.seam.failed (seg * 512 + g) }],
      match (if s.slagFull 4 then none else s.freeGroup seg) with
      | some spare =>
        if g ≥ 256 ∧ !s.slag.run.any (fun e => e.kind == 4 && bitsOf e.location 0 5 == seg && e.spare == g) then
          slagRecord 4 3 reason (groupLoc seg g) 0xFFFF
        else seq [upd [.seam { s.seam with failed := NSet.add s.seam.failed (seg * 512 + g), waiting := s.seam.waiting ++ [(seg, g, spare, reason)] }],
          autoRepair 4 (groupLoc seg g) reason]
      | none =>
        if g < 160 then fenceCore linkCore reason []
        else seq [fset F.MOD_GRID_STAT_OUT_OF_SERVICE 0 1, fatal 0x0A0C nobody [(1, seg), (2, g)]]])

/-- TRACK_GROUP_FAILURE (R28, R29). -/
def execTrackGroupFailure (segment : Fin 31) (group : Fin 272) (linkCore : CoreId) (reason : Nat) (s : State) :
    Host.Outcome State Fault Refusal :=
  run (groupFail segment.val group.val linkCore.val reason) s

/-- TRACK_GROUP_SUBSTITUTION (R28): once every flask that uses the group is drained. -/
def execTrackGroupSubstitution (segment : Fin 31) (group : Fin 272) (s : State) : Host.Outcome State Fault Refusal :=
  run (rd fun s => when (s.repairWaits 4 (groupLoc segment.val group.val)).isEmpty (groupSub segment.val group.val)) s

/-- IN_SERVICE_FENCE (R36): the flasks whose cores move are drained, then the row is rewritten and GEN advances. -/
def execInServiceFence (core : CoreId) (reason : Nat) (agentBad : List Nat) (s : State) : Host.Outcome State Fault Refusal :=
  run (rd fun s =>
    let ws := s.repairWaits 1 core.val
    if ws.isEmpty then fenceCore core.val reason agentBad else repairAsk 1 core.val reason none) s

/-- The commands and flasks of a drain: no elastic context of the flask is left (R608 step 2). -/
def State.drainedContexts (s : State) (f : Nat) : Bool :=
  s.ldls.all (fun e => e.2.ctxs.all (fun c => match c.2.job with | some j => j.flask != f | none => true))

/-- The flask's scheduled cells waiting to be sent or released are discarded (R608 step 3). -/
def dropCells (f : Nat) : Eff := rd fun s =>
  each ((List.range 24).filter (fun n => s.portFlask n == some f)) (fun n => onPort n (fun x => { x with txCells := [], release := [] }))

/-- The values in force before a decision that failed, once every flask of the pour that halted for a fault is drained (R84). -/
def valuesReturn : Eff := rd fun s =>
  let done := s.pourFlasks.all (fun f => !s.flaskIn f 3 && (!(s.flask f).draining || (s.flask f).drained))
  when (done && s.dec.revert == some (s.fget F.CLK_PSTEP_SEQ 0))
    (seq [pstepSet s.dec.prev.1, fset F.CLK_PSTEP_TEMPER 0 s.dec.prev.2.1, fset F.CLK_PSTEP_BUBBLES 0 s.dec.prev.2.2,
      upd [.dec { s.dec with revert := none }]])

/-- FLASK_DRAIN (R84, R608): the elastic contexts of a flask that halted for a fault or a repair are aborted; once all are captured its
cells are discarded, its dirty lines written back and FLASK_DRAINED is raised. -/
def execFlaskDrain (flask : FlaskId) (tc : Nat) (s : State) : Host.Outcome State Fault Refusal :=
  run (seq [tcTo tc, rd fun s =>
    let f := flask.val
    let x := s.flask f
    when (s.flaskIn f 4 && x.draining && !x.drained)
      (seq [ldlAbort 3 (fun j => j.flask == f) false, dropCells f,
        when (s.drainedContexts f)
          (seq [cacheClean (x.baseGib * 2 ^ 30) ((x.baseGib + x.gib) * 2 ^ 30),
            onFlask f (fun x => { x with drained := true }),
            raise 0x0A09 0 (flaskWho f) [(1, f), (1, x.haltCause), (4, (s.tc - x.haltTc) / 1000)], when (s.inPour f) valuesReturn, repairs])])]) s

/-- AUTO_REPAIR (R616, R617). -/
def execAutoRepair (kind : Nat) (location : Nat) (reason : Nat) (s : State) : Host.Outcome State Fault Refusal :=
  run (autoRepair kind location reason) s

/-- PENDING_REPAIR_APPLY (R619): the last flask that uses the unit is drained. -/
def execPendingRepairApply (kind : Nat) (location : Nat) (s : State) : Host.Outcome State Fault Refusal :=
  run (rd fun s =>
    match s.faults.pendings.find? (fun x => x.1 == kind && x.2.1 == location) with
    | some x => when (s.repairWaits kind location).isEmpty (pendingDo x)
    | none => nop) s

/-! MB_FENCE (R615). -/

/-- A LOCATION names a unit of its KIND (R43). -/
def locOk (kind loc : Nat) : Bool :=
  match kind with
  | 1 => decide (loc < 160)
  | 2 => decide (bitsOf loc 0 8 < 160) && decide (loc < 2 ^ 19)
  | 3 => decide (bitsOf loc 0 8 < 160) && decide (bitsOf loc 14 18 < 65536)
  | 4 => decide (bitsOf loc 0 5 < 31) && decide (loc / 32 < 272)
  | 5 => decide (bitsOf loc 0 5 < 24) && decide (loc / 32 < 5)
  | 6 => decide (loc < 256)
  | _ => false

/-- MB_FENCE cannot be carried out: no spare, or the width would fall below 8 (R615). -/
def State.fenceRefused (s : State) (kind loc : Nat) : Bool :=
  match kind with
  | 1 => decide (min (s.fget F.MOD_GRID_STAT_WIDTH 0) (s.healthyIn (loc / 16) - 1) < 8)
  | 2 => s.flag F.ME_CAP_BYPASS (bitsOf loc 0 8 * 64 + bitsOf loc 8 6)
  | 4 => (s.freeGroup (bitsOf loc 0 5)).isNone
  | 5 => bitsOf loc 5 3 != 4 && !(s.portState (bitsOf loc 0 5) == 4 && s.spareFree (bitsOf loc 0 5))
  | 6 => s.fget F.PWR_TILE_t_STATE loc == 1 && (s.freeTile (s.fget F.PWR_TILE_t_SERVES loc)).isNone
  | _ => false

/-- A unit that is itself an idle spare, or not in service: it is recorded and nothing takes its place. -/
def spareOut (kind loc : Nat) : Eff := rd fun s =>
  match kind with
  | 5 => when (bitsOf loc 5 3 == 4) (seq [onPort (bitsOf loc 0 5) (fun x => { x with spareFailed := true }),
      fset F.RUN_LANE_l_OUT (bitsOf loc 0 5 * 5 + 4) 1, slagRecord 5 3 7 loc 0xFFFF])
  | 6 => when (s.fget F.PWR_TILE_t_STATE loc == 2) (seq [tileOut loc, slagRecord 6 3 7 loc 0xFFFF])
  | _ => nop

/-- The first pass of MB_FENCE over a unit in service. -/
def fenceStart (k kind loc : Nat) : Eff := rd fun s =>
  let hold := onSlot k (fun m => { m with phase := 1 })
  match kind with
  | 3 => seq [repairDo 3 loc 7, fenceDone k]
  | 4 => seq [hold, rd fun s => (match s.freeGroup (bitsOf loc 0 5) with
      | some spare => upd [.seam { failed := NSet.add s.seam.failed (bitsOf loc 0 5 * 512 + bitsOf loc 5 9),
                                   waiting := s.seam.waiting ++ [(bitsOf loc 0 5, bitsOf loc 5 9, spare, 7)] }]
      | none => nop),
      if sprueGroup (bitsOf loc 0 5) (bitsOf loc 5 9) = false ∧ s.running ≠ [] then seq [pend 4 loc 7 false, fenceDone k]
      else repairAsk 4 loc 7 (some k)]
  | 5 => if bitsOf loc 5 3 = 4 then seq [spareOut 5 loc, fenceDone k] else seq [hold, repairDo 5 loc 7]
  | 6 => if s.fget F.PWR_TILE_t_STATE loc = 1 then
      seq [hold, tileOut loc, spareRamp loc (s.fget F.PWR_TILE_t_SERVES loc) 7 (some k)]
    else seq [spareOut 6 loc, fenceDone k]
  | _ => seq [hold, repairAsk kind loc 7 (some k)]

/-- MB_FENCE (R615, R617): a unit already fenced or substituted is done; otherwise its repair joins the order, and the command
ends with it. -/
def execMbFence (slot : Fin 17) (s : State) : Host.Outcome State Fault Refusal :=
  run (mbCommand slot.val 0x0301 (fun args => rd fun s =>
    let k := slot.val
    let kind := leAt args 0 1
    let loc := leAt args 4 4
    if !locOk kind loc then mbFail k 0x0103
    else if (s.slagEntry kind loc).isSome then fenceDone k
    else if (s.slot k).phase ≠ 0 then
      (if kind = 5 ∧ s.portState (bitsOf loc 0 5) ≠ 4 then mbFail k 0x0304 else repairs)
    else if s.fenceRefused kind loc then mbFail k 0x0304
    else fenceStart k kind loc)) s

/-! Culprit windows (R612, R614). -/

/-- A window's report is consequential (R614). -/
def State.consequential (s : State) (w : CulWin) : Bool :=
  s.faults.fenceIn.any (fun b => b.1 == w.module && decide (w.first ≤ b.2 + 1000000) && decide (b.2 ≤ s.tc)) ||
  s.faults.haltIn.any (fun b => b.1 != s.module && (decide (b.2.1 < w.frame) || (b.2.1 == w.frame && decide (b.1 < s.module)))) ||
  (w.module == s.module && s.faults.fenceOut.any (fun b => b.1 == w.core && decide (w.first ≤ b.2) && decide (b.2 ≤ s.tc)))

/-- CULPRIT_WINDOW_CLOSE: 100 µs after its first report a window's record is written, unless it is consequential. -/
def execCulpritWindowClose (index : Fin 64) (tc : Nat) (s : State) : Host.Outcome State Fault Refusal :=
  run (seq [tcTo tc, rd fun s =>
    match s.faults.windows[index.val]? with
    | none => nop
    | some w =>
      when (decide (w.first + 100000 ≤ s.tc))
        (seq [upd [.faults { s.faults with windows := s.faults.windows.eraseIdx index.val }], windowsOpen,
          either (s.consequential w) (fsat F.MOD_FAULT_STAT_CONSEQUENTIAL 0 w.count) (upd [.ev (s.ev.form (s.culpritRecord w))])])]) s

/-! Wear monitors (R620). -/

/-- A warning, at most one per unit in 24 h. -/
def wearWarn (kind loc value : Nat) : Eff := rd fun s =>
  let recent := s.faults.warned.any (fun w => w.1 == kind && w.2.1 == loc && decide (s.tc < w.2.2 + 86400000000000))
  when (!recent)
    (seq [upd [.faults { s.faults with warned := (s.faults.warned.filter (fun w => !(w.1 == kind && w.2.1 == loc))) ++ [(kind, loc, s.tc)] }],
      raise 0x0A08 0 nobody [(1, kind), (4, loc), (4, value)]])

/-- WEAR_MONITOR (R620): a measure of a unit that has reached its threshold. `value` is the count, for a lane the mean BER in units
of 10⁻⁸, for a tile the loss in tenths of a percentage point, for a margin the mean in tenths of a millivolt. -/
def execWearMonitor (unit : WearUnit) (value : Nat) (tc : Nat) (s : State) : Host.Outcome State Fault Refusal :=
  run (seq [tcTo tc, rd fun s =>
    match unit with
    | .row core bank row => when (decide (value ≥ 3)) (autoRepair 3 (rowLoc core.val bank.val row.val) 3)
    | .me core engine column => when (decide (value ≥ 4)) (match column with
        | some c => autoRepair 2 (core.val + engine.val * 2 ^ 8 + c.val * 2 ^ 14) 6
        | none => autoRepair 1 core.val 6)
    | .se core => when (decide (value ≥ 4)) (autoRepair 1 core.val 6)
    | .vu core => when (decide (value ≥ 4)) (autoRepair 1 core.val 6)
    | .trackGroup seg g c => when (decide (value ≥ 16)) (groupFail seg.val g.val c.val 6)
    | .lane n l => when (decide (value > 240) && s.portState n.val == 4)
        (either (s.spareFree n.val) (laneFail n.val l.val 6) (wearWarn 5 (n.val + 32 * s.physLane n.val l.val) value))
    | .tile t => when (decide (value ≥ 30) && s.fget F.PWR_TILE_t_STATE t.val == 1)
        (seq [fset F.PWR_TILE_t_WEAR t.val 1, raise 0x0804 0 nobody [(1, t.val), (1, 3)], repairDo 6 t.val 6])
    | .margin c => when (decide (value > 300)) (wearWarn 8 c.val value)
    | .stack st => when (decide (value ≥ 256)) (wearWarn 7 st.val value)]) s

end Sys2Proof.Machine
end

