-- ==== Sys2Proof/Machine/Pepper.lean ====
section
/-! DEFINITION. Pepper and full redundancy mode (R621 to R630, R634 to R639). The result that a unit under test drains comes with
the command that reports it. -/
namespace Sys2Proof.Machine

/-! Allowances (R622), in 1/10,000 cycle. -/

/-- The cap of an allowance. -/
def pepCap : Nat := 1024 * 10000

/-- A unit's key. -/
def pepKey (p u : Nat) : Nat := p * 76 + u

/-- A unit's allowance. -/
def PepSt.left (x : PepSt) (key : Nat) : Nat :=
  let a := NMap.get (0, 0) x.allow key
  min pepCap (a.1 + (x.grown - a.2))

/-- A unit's type and number within it: 0 ME, 1 SE, 2 VU. -/
def pepUnit (u : Nat) : Nat × Nat := if u < 64 then (0, u) else if u < 72 then (1, u - 64) else (2, u - 72)

/-- A core in service and powered: healthy and with a logical column (R551). -/
def State.coreServes (s : State) (p : Nat) : Bool := s.healthy p && (s.logOf p).isSome

/-- A core's partner (R624). -/
def State.partner (s : State) (p : Nat) : Option Nat :=
  let q := if p % 2 = 0 then p + 1 else p - 1
  if s.coreServes q then some q
  else ((List.range 160).find? (fun c => clusterOf c == clusterOf p && c != p && s.coreServes c))

/-- Results of a unit not yet compared. -/
def PepSt.waiting (x : PepSt) (key : Nat) : List (Nat × Nat × Nat × Nat) := x.hashes.filter (fun h => h.1 == key)

/-- A core whose flask is in a debug hold, where STARVED does not count (R683). -/
def State.coreHeld (s : State) (p : Nat) : Bool := s.coreState p == 3 && (match s.flaskOf p with | some f => s.held f | none => false)

/-- Pepper at a frame boundary (R622, R624): units at their cap or 16 tiles ahead are counted, a new share takes effect, allowances
grow. -/
def pepFrame : Eff := rd fun s =>
  let x := s.pep
  let units := ((List.range 160).filter s.coreServes).flatMap (fun p => if s.coreHeld p then [] else (List.range 76).map (pepKey p))
  let share := s.fget F.PEP_CTL_SHARE 0
  seq [
    when (decide (share > 0))
      (fsat F.PEP_STAT_STARVED 0 (units.filter (fun k => decide (pepCap ≤ x.left k) || decide ((x.waiting k).length ≥ 16))).length),
    (match x.share with | some v => fset F.PEP_CTL_SHARE 0 v | none => nop),
    rd fun s => upd [.pep { s.pep with grown := s.pep.grown + s.fget F.PEP_CTL_SHARE 0 * 8192, share := none }]]

/-- A window of a unit can be open (R233, R621): always outside RUN, and in RUN for a FORMAT 2 Mould. -/
def State.pepWindow (s : State) (p : Nat) : Bool :=
  s.coreState p != 3 || (match s.mouldOf p with | some (m, _) => m.format == 2 | none => false)

/-- PEPPER_TILE_START (R622, R623): with `window` cycles of a window left, 256 of allowance and 8 A granted, a unit starts its next
tile and gives its hash. -/
def execPepperTileStart (core : CoreId) (unit : Fin 76) (window : Nat) (hash : Nat) (tc : Nat) (s : State) : Host.Outcome State Fault Refusal :=
  run (seq [tcTo tc, rd fun s =>
    let key := pepKey core.val unit.val
    let x := s.pep
    let pw := s.power.refill s.tc
    let c := clusterOf core.val
    let n := NMap.get 0 x.tile key
    let bubble := s.coreState core.val == 3 && !s.scheduled core.val
    when (decide (s.fget F.PEP_CTL_SHARE 0 > 0) && decide (window ≥ 256) && s.pepWindow core.val && !bubble && s.coreServes core.val &&
        decide (256 * 10000 ≤ x.left key) && decide ((x.waiting key).length < 16) && (pw.first c).isNone && pw.holds c 8000)
      (upd [.power (pw.debit c 8000),
        .pep { x with allow := NMap.put (0, 0) x.allow key (x.left key - 256 * 10000, x.grown), tile := NMap.put 0 x.tile key (n + 1),
                      hashes := x.hashes ++ [(key, n, hash % 2 ^ 64, s.tc)] }])]) s

/-- The fields of a Pepper event: the pair, unit type, unit, combination, tile (R632). -/
def pepDetail (p q u n : Nat) : List (Nat × Nat) := [(1, p), (1, q), (1, (pepUnit u).1), (1, (pepUnit u).2), (1, n % 14), (4, n)]

/-- Every unit in service has completed every combination: the sweep is recorded (R625, R639). Block cores of a FORMAT 1 Mould in RUN are
left out (R233). -/
def pepSweep : Eff := rd fun s =>
  let cores := (List.range 160).filter (fun p => s.coreServes p && s.pepWindow p)
  let all := cores.all (fun p => (List.range (76 * 14)).all (fun i => NSet.mem s.pep.swept (p * 76 * 14 + i)))
  when all (seq [fset F.PEP_SWEEP_FRAME 0 s.frame, upd [.pep { s.pep with swept := [] }]])

/-- A tile has passed on a unit. -/
def PepSt.pass (x : PepSt) (key n tc : Nat) : PepSt :=
  { x with passed := NMap.put 0 x.passed (key * 14 + n % 14) tc, swept := NSet.add x.swept (key * 14 + n % 14) }

/-- PEPPER_COMPARE (R624): the oldest tile that a unit and its partner's have both run is compared. -/
def execPepperCompare (core : CoreId) (unit : Fin 76) (s : State) : Host.Outcome State Fault Refusal :=
  run (rd fun s =>
    let p := core.val
    let u := unit.val
    match s.partner p with
    | none => nop
    | some q =>
      let x := s.pep
      match (x.waiting (pepKey p u)).findSome? (fun a => ((x.waiting (pepKey q u)).find? (fun b => b.2.1 == a.2.1)).map (fun b => (a, b))) with
      | none => nop
      | some (a, b) =>
        let n := a.2.1
        let rest : PepSt := { x with hashes := x.hashes.filter (fun h => h != a && h != b) }
        seq [fadd F.PEP_STAT_TILES 0 1,
          either (a.2.2.1 == b.2.2.1)
            (seq [upd [.pep ((rest.pass a.1 n a.2.2.2).pass b.1 n b.2.2.2)], pepSweep])
            (seq [upd [.pep { rest with diag := rest.diag ++ [(pepKey (min p q) u, n, s.frame, 0)] }],
              fsat F.PEP_STAT_MISMATCHES 0 1, raise 0x0A01 0 (s.who p u) (pepDetail p q u n)])]) s

/-- A unit is named the culprit (R624): captured, raised with its last passing tile, repaired. -/
def pepCulprit (p u n : Nat) (column : Option (Fin 32)) : Eff := rd fun s =>
  let col := if u < 64 then column else none
  let cv := match col with | some c => c.val | none => 0xFF
  seq [fsat F.PEP_RESOLVE_CULPRITS 0 1,
    fset F.PEP_LAST_CORE 0 p, fset F.PEP_LAST_TYPE 0 (pepUnit u).1, fset F.PEP_LAST_UNIT 0 (pepUnit u).2, fset F.PEP_LAST_COMBO 0 (n % 14),
    fset F.PEP_LAST_COLUMN 0 (if col.isSome then cv else 0), fput F.PEP_LAST_LOCALISED 0 col.isSome, fset F.PEP_LAST_VALID 0 1,
    raise 0x0A02 1 (s.who p u)
      [(1, p), (1, (pepUnit u).1), (1, (pepUnit u).2), (1, n % 14), (1, cv), (8, NMap.get 0 s.pep.passed (pepKey p u * 14 + n % 14))],
    match col with
    | some c => if s.flag F.ME_CAP_BYPASS (p * 64 + u) then autoRepair 1 p 4 else autoRepair 2 (p + u * 2 ^ 8 + c.val * 2 ^ 14) 4
    | none => autoRepair 1 p 4]

/-- PEPPER_DIAGNOSTIC (R624): a diagnostic run of a pair and a referee ends. `core` is the lower core of the pair. -/
def execPepperDiagnostic (core : CoreId) (unit : Fin 76) (result : PepRun) (s : State) : Host.Outcome State Fault Refusal :=
  run (rd fun s =>
    let p := core.val
    let u := unit.val
    let q := (s.partner p).getD p
    match s.pep.diag.find? (fun d => d.1 == pepKey p u) with
    | none => nop
    | some (key, n, since, tries) =>
      let done := upd [.pep { s.pep with diag := s.pep.diag.filter (fun d => d != (key, n, since, tries)) }]
      let ok := result.complete && decide (s.frame ≤ since + 64)
      let a := result.first
      let b := result.second
      let r := result.referee
      if ok ∧ a = b ∧ b = r then seq [done, fsat F.PEP_RESOLVE_TRANSIENTS 0 1, raise 0x0A03 0 (s.who p u) (pepDetail p q u n)]
      else if ok ∧ r = a ∧ a ≠ b then seq [done, pepCulprit q u n result.column]
      else if ok ∧ r = b ∧ a ≠ b then seq [done, pepCulprit p u n result.column]
      else if tries = 0 then
        upd [.pep { s.pep with diag := s.pep.diag.map (fun d => if d == (key, n, since, tries) then (key, n, s.frame, 1) else d) }]
      else seq [done, fsat F.PEP_RESOLVE_UNRESOLVED 0 1, raise 0x0A04 1 (s.who p u) (pepDetail p q u n), autoRepair 1 p 4, autoRepair 1 q 4]) s

/-- SPARE_CORE_CHECK (R626): a spare core named the culprit is recorded as fenced. -/
def execSpareCoreCheck (core : CoreId) (culprit : Bool) (s : State) : Host.Outcome State Fault Refusal :=
  run (rd fun s =>
    let p := core.val
    when (culprit && s.healthy p && (s.logOf p).isNone)
      (seq [slagRecord 1 1 4 p 0xFFFF, gridStatus, fset F.MOD_GRID_STAT_SPARES 0 (s.fget F.MOD_GRID_STAT_SPARES 0 - 1), raiseFenced 1 4 p,
        when (decide (s.healthyIn (p / 16) ≤ s.fget F.MOD_GRID_STAT_WIDTH 0 + 1)) (raiseExhausted 1 p)])) s

/-- MB_PEPPER_SET (R622, R634): the share takes effect at the next frame boundary. -/
def execMbPepperSet (slot : Fin 17) (s : State) : Host.Outcome State Fault Refusal :=
  run (mbCommand slot.val 0x0303 (fun args => rd fun s =>
    seq [upd [.pep { s.pep with share := some (leAt args 0 2) }], mbDone slot.val 0])) s

/-! Full redundancy mode (R627 to R630). -/

/-- The partner of a logical core in a redundancy pair. -/
def pairOf (l : Nat) : Nat := if l % 2 = 0 then l + 1 else l - 1

/-- MB_REDUNDANCY_SET (R627). -/
def execMbRedundancySet (slot : Fin 17) (s : State) : Host.Outcome State Fault Refusal :=
  run (mbCommand slot.val 0x0304 (fun args => rd fun s =>
    let f := leAt args 0 1
    let on := leAt args 1 1 == 1
    let x := s.flask f
    if !x.live then mbFail slot.val 0x0213
    else if x.active.present || x.staged.present then mbFail slot.val 0x0210
    else if on && !x.cores.all (fun l => x.cores.elem (pairOf l) && (s.physOf (pairOf l)).isSome) then mbFail slot.val 0x0304
    else seq [onFlask f (fun x => { x with redundant := on }), mbDone slot.val 0])) s

/-- A hash of a primary differs from its shadow's, or one is missing (R629, R630). -/
def redundancyBad (p u tag tileTc primary shadow : Nat) : Eff := rd fun s =>
  match s.flaskOf p with
  | some f => when ((s.flask f).redundant && s.flaskIn f 3)
      (contain f 0x0A05 (s.who p u)
        [(1, pairOf ((s.logOf p).getD 0)), (1, u), (2, tag), (8, tileTc), (4, primary % 2 ^ 32), (4, shadow % 2 ^ 32)])
  | none => nop

/-- REDUNDANCY_COMPARE (R629, R630): the shadow `core` compares the primary's hash with its own. -/
def execRedundancyCompare (core : CoreId) (unit : Fin 76) (tag : Fin 4096) (primary shadow tileTc : Nat) (s : State) :
    Host.Outcome State Fault Refusal :=
  run (when (primary % 2 ^ 64 != shadow % 2 ^ 64) (redundancyBad core.val unit.val tag.val tileTc primary shadow)) s

/-- REDUNDANCY_HASH_TIMEOUT (R629): a hash that has no counterpart counts as unequal; the missing one is a free value. -/
def execRedundancyHashTimeout (core : CoreId) (unit : Fin 76) (tag : Fin 4096) (hash tileTc : Nat) (s : State) :
    Host.Outcome State Fault Refusal :=
  run (draw (fun v => redundancyBad core.val unit.val tag.val tileTc v hash)) s

end Sys2Proof.Machine
end

