-- ==== Sys2Proof/Machine/Frames.lean ====
section
/-! DEFINITION. The start of a flask at an epoch and the frame boundary (R74 to R76, R90, R238, R606). -/
namespace Sys2Proof.Machine

/-- Boundary marks of a flask: the SC, the frame and the change epoch there, newest first, 40 at most (R238, R249). -/
def mark (sc frame epoch : Nat) (l : List (Nat × Nat × Nat)) : List (Nat × Nat × Nat) := ((sc, frame, epoch) :: l).take 40

/-- The schedule cycles of the frame in progress (R75): 128 less for every bubble. -/
def State.frameSc (s : State) : Nat := 8192 - 128 * s.fget F.CLK_PSTEP_BUBBLES 0

/-- The grid begins at an epoch (R74): frame 0 starts there. -/
def gridBegin (tc : Nat) : Eff := rd fun s =>
  seq [upd [.gclk { s.gclk with running := true, epoch := some tc }], fset F.TC_FRAME_FRAME 0 0, fset F.TC_FRAME_EPOCH 0 0, fset F.TC_FRAME_TC_TC 0 tc, holdPoint 0]

/-- Mailbox commands that wait for a flask to run are done. -/
def startedSlots (f : Nat) : Eff := rd fun s =>
  seq [
    each (s.slotsRunning (fun m => m.cmd == 0x0106 && leAt m.args 0 1 == f)) (fun k => mbDoneWith k (pack [(8, s.fget F.TC_FRAME_TC_TC 0)])),
    each (s.slotsRunning (fun m => m.cmd == 0x0108 && leAt m.args 0 1 == f)) (fun k => mbDone k 0),
    (match (s.flask f).switchSlot with
     | some k => when (s.mbRuns k 0x0104 && leAt (s.slot k).args 0 1 == f) (mbDone k (s.flask f).discarded)
     | none => nop),
    onFlask f (fun x => { x with switchSlot := none })]

/-- A flask enters RUN (R74, R222, R228): from the start of its programs, or from where it halted when it resumes. -/
def flaskRuns (f : Nat) : Eff := rd fun s =>
  let x := s.flask f
  seq [
    when (!x.resumed) (each (s.mouldPhys f) (fun p => progStart p (s.startTemper x.active))),
    setFlaskState f 3,
    rd fun s => onFlask f (fun x => { x with startAt := none, resumed := false, gridStart := false, reported := none, atQuiesce := false,
                                             marks := [(s.flushSc f, s.frame, s.fget F.TC_FRAME_EPOCH 0)] }),
    sprSync, startedSlots f]

/-- FLASK_EPOCH_START (R74, R238, R420): at the TC of its epoch on a new grid, else at the first frame boundary at or after
it; not while core clocks are gated or compute rails are off (R496, R519). -/
def execFlaskEpochStart (flask : FlaskId) (tc : Nat) (s : State) : Host.Outcome State Fault Refusal :=
  run (seq [tcTo tc, rd fun s =>
    let f := flask.val
    let x := s.flask f
    match x.startAt with
    | none => nop
    | some t =>
      when ((s.startable f || (s.flaskIn f 4 && x.resumed)) && decide (t ≤ s.tc) && !s.svc.thermTrip)
        (either (x.gridStart && s.running.isEmpty) (seq [gridBegin s.tc, flaskRuns f])
          (when (s.gclk.running && decide (t ≤ s.fget F.TC_FRAME_TC_TC 0) && s.tc == s.fget F.TC_FRAME_TC_TC 0) (flaskRuns f)))]) s

/-- Every running flask notes where its schedule stands as a frame ends. -/
def markFrame (old : State) : Eff := rd fun s =>
  each s.running (fun f => onFlask f (fun x => { x with
    marks := mark ((match x.marks with | m :: _ => m.1 | [] => 0) + old.frameSc) s.frame (s.fget F.TC_FRAME_EPOCH 0) x.marks }))

/-- FRAME_BOUNDARY (R74 to R76, R90): the next frame begins; minimum-voltage logs end, halts armed for a frame boundary take
place, Pepper's allowances grow. -/
def execFrameBoundary (tc : Nat) (s : State) : Host.Outcome State Fault Refusal :=
  run (seq [tcTo tc, rd fun s =>
    when (s.gclk.running && decide (s.fget F.TC_FRAME_TC_TC 0 < s.tc))
      (seq [vminFrameEnd, fadd F.TC_FRAME_FRAME 0 1, fset F.TC_FRAME_TC_TC 0 s.tc, holdPoint 0, markFrame s,
        rd fun s => each s.running (fun f => match (s.flask f).halt with
          | some h => when (!h.quiesce && decide (h.target ≤ s.tc)) (haltNow f h.cause 0xFFFF false (h.kind == .fault))
          | none => nop),
        pepFrame])]) s

end Sys2Proof.Machine
end

