-- ==== Sys2Proof/Machine/Boot.lean ====
section
/-! DEFINITION. Boot and the resets (R572 to R598, R699): the firmware image's checks, the power-on sequence, module, management and
compute-only reset, staging and activating firmware. What the boot meets comes with the command (`BootEnv`). -/
namespace Sys2Proof.Machine

/-! The boot directory and firmware images (R574 to R578). -/

/-- One directory write (R575): GENERATION + 1. -/
def dirWrite (f : BootDir → BootDir) : Eff := rd fun s =>
  let d := { f s.boot.dir with gen := (s.boot.dir.gen + 1) % 2 ^ 32, ok := true }
  seq [upd [.boot { s.boot with dir := d }], fset F.MOD_FLASH_INFO_DIR_GEN 0 d.gen]

/-- The bytes of an image slot. -/
def BootSt.slotBytes (b : BootSt) (n : Nat) : List Byte := if n = 0 then b.slotA else b.slotB

/-- The length the directory gives a slot; without a directory, what the slot holds. -/
def BootSt.slotLen (b : BootSt) (n : Nat) : Nat :=
  if b.dir.ok then (if n = 0 then b.dir.lenA else b.dir.lenB) else (b.slotBytes n).length

/-- The first check of R577 that an image fails: its reject code and the offset of the field. -/
def State.fwCheck (s : State) (b : List Byte) (len : Nat) (sig : Bool) : Option (Nat × Nat) :=
  let total := leAt b 0x14 4
  let load := leAt b 0x20 4
  let agent := leAt b 0x28 4
  let agentLen := leAt b 0x2C 4
  let tests : List (Bool × Nat × Nat) := [
    (decide (256 ≤ b.length) && leAt b 0 4 == 0x5A4F4852 && leAt b 4 2 == 1 && leAt b 6 2 == 0x100, 1, 0),
    (total == len && b.length == total && total % 64 == 0 && decide (total ≤ 2 ^ 24) && decide (0x100 + load + 128 ≤ total) &&
      agent % 64 == 0 && decide (1 ≤ agentLen) && decide (agentLen ≤ 65536) && decide (agent + agentLen + 128 ≤ total), 2, 0x14),
    (leAt b 8 2 == 3, 3, 8), (leAt b 10 2 == 0x20, 4, 10),
    (bitOf (leAt b 12 4) (stepBit (s.fget F.MOD_ID_STEPPING 0)), 5, 12),
    (decide (leAt b 0x10 1 ≤ 3) && !bitOf (s.fget F.SAF_STAT_FW_REVOKED 0) (leAt b 0x10 1), 6, 0x10),
    (decide (s.fget F.SAF_STAT_MIN_SVN 0 ≤ leAt b 0x18 4), 7, 0x18), (sig, 8, total - 128)]
  (tests.find? (fun t => !t.1)).map (fun t => t.2)

/-- The mailbox status of a reject code (R577). -/
def rejectStatus : Nat → Nat
  | 1 => 0x0120 | 2 => 0x0121 | 3 => 0x0122 | 4 => 0x0123 | 5 => 0x0124 | 6 => 0x0401 | 7 => 0x0401 | _ => 0x0402

/-- FW_IMAGE_REJECTED (R577, R599): from slot A or B, MB_FW_STAGE or PLDM. -/
def fwReject (source : Nat) (r : Nat × Nat) : Eff :=
  seq [fset (match source with | 0 => F.MOD_BOOT_ERR_REJECT_A | 1 => F.MOD_BOOT_ERR_REJECT_B | _ => F.MOD_BOOT_ERR_REJECT_LAST) 0 r.1,
    raise 0x0B02 0 nobody [(1, source), (1, r.1), (4, r.2)]]

/-- A verified image is written to the slot that ACTIVE does not name, and the directory with it (R591). -/
def fwStore (b : List Byte) : Eff := rd fun s =>
  let n := 1 - s.boot.dir.active
  seq [upd [.boot (if n = 0 then { s.boot with slotA := b } else { s.boot with slotB := b })],
    dirWrite (fun d => { d with staged := n, rejected := clrBit d.rejected n, lenA := if n = 0 then b.length else d.lenA,
                                lenB := if n = 0 then d.lenB else b.length })]

/-- The staged slot becomes ACTIVE with TRIAL 1 (R592). -/
def fwActivate : Eff := rd fun s => dirWrite (fun d => { d with active := s.boot.dir.staged % 2, trial := 1, staged := 0xFF })

/-! The slag map at boot (R40, R586). -/

/-- An entry that a corrupt flash copy still yields (R40): its kind, state, reason and location name a unit. -/
def SlagEntry.sane (e : SlagEntry) : Bool :=
  decide (1 ≤ e.state) && decide (e.state ≤ 3) && decide (1 ≤ e.reason) && decide (e.reason ≤ 7) && e.flags == 0 &&
  (match e.kind with
   | 1 => decide (e.location < 160)
   | 2 => decide (bitsOf e.location 0 8 < 160) && decide (e.location < 2 ^ 19)
   | 3 => decide (bitsOf e.location 0 8 < 160) && decide (bitsOf e.location 14 18 < 65600)
   | 4 => decide (bitsOf e.location 0 5 < 31) && decide (bitsOf e.location 5 9 < 272) && decide (e.location < 2 ^ 14)
   | 5 => decide (bitsOf e.location 0 5 < 24) && decide (bitsOf e.location 5 3 < 5) && decide (e.location < 2 ^ 8)
   | 6 => decide (e.location < 256)
   | _ => false)

/-- The effect of an entry on its unit (R586): a bypassed column, a substituted or failed row, a failed track group, a lane out
of service. Tiles and cores follow the map as a whole. -/
def slagApply (e : SlagEntry) : Eff :=
  let p := bitsOf e.location 0 8
  match e.kind with
  | 2 =>
    let i := p * 64 + bitsOf e.location 8 6
    let c := bitsOf e.location 14 5
    seq [fset F.ME_CAP_WIDTH i 31, fset F.ME_CAP_BYPASS i 1, fset F.ME_CAP_BYPASS_COL i c, fset F.ME_CAP_QUAD_NARROW i (if c < 16 then 5 else 10)]
  | 3 =>
    let bank := bitsOf e.location 8 6
    let row := bitsOf e.location 14 18
    seq [
      onCore p (fun x => if e.state = 3 then { x with sparesUsed := NMap.put 0 x.sparesUsed (bank * 64 + (row - 65536)) 2 }
        else { x with rowMap := NMap.put 0 x.rowMap (lineOf bank row) (e.spare + 1),
                      sparesUsed := NMap.put 0 x.sparesUsed (bank * 64 + e.spare) 1 }),
      spareMin p]
  | 4 => rd fun s => upd [.seam { s.seam with failed := NSet.add s.seam.failed (bitsOf e.location 0 5 * 512 + bitsOf e.location 5 9) }]
  | 5 =>
    let n := bitsOf e.location 0 5
    let l := bitsOf e.location 5 3
    seq [fset F.RUN_LANE_l_OUT (n * 5 + l) 1,
      when (e.state == 2 && decide (l < 4)) (seq [onPort n (fun x => { x with laneMap := x.laneMap - bitsOf x.laneMap (3 * l) 3 * 8 ^ l + 4 * 8 ^ l }),
        fset F.RUN_STAT_SPARE_USED n 1, fset F.RUN_STAT_SPARE_FOR n l]),
      when (e.state == 3) (onPort n (fun x => { x with spareFailed := true }))]
  | _ => nop

/-- Core-rail tiles come on (R497, R499): failed ones stay out, spares that serve take their cluster. -/
def tilesOn : Eff := rd fun s =>
  let bad (t : Nat) := s.slag.run.any (fun e => e.kind == 6 && e.location == t)
  let serves (t : Nat) : Option Nat := (s.slag.run.find? (fun e => e.kind == 6 && e.state == 2 && e.spare == t)).map (fun e => e.location / 12)
  let row (t : Nat) : Nat × Nat :=
    if bad t then (3, 0xFF)
    else if t < 240 then (1, t / 12)
    else match serves t with
      | some c => (1, c)
      | none => (2, 0xFF)
  seq [upd ((List.range 256).flatMap (fun t => [.fld F.PWR_TILE_t_STATE t (row t).1, .fld F.PWR_TILE_t_SERVES t (row t).2])),
    upd ((List.range 20).map (fun c => .fld F.PWR_CLUSTER_c_TILES_IN c ((List.range 256).filter (fun t => row t == (1, c))).length))]

/-- A spare chosen anew for a unit (R40, R587): a row, a track group, a lane or a tile; a core is fenced where none is left for a
row, or for a link group. -/
def slagRepair (kind loc core reason : Nat) : Eff := rd fun s =>
  let put (st spare : Nat) : Eff := seq [slagRecord kind st reason loc spare, slagApply { kind, state := st, reason, flags := 0, location := loc, spare, tc := 0 }]
  match kind with
  | 1 => slagRecord 1 1 reason loc 0xFFFF
  | 2 => if s.slagFull 2 then slagRecord 1 1 reason (bitsOf loc 0 8) 0xFFFF else put 1 0xFFFF
  | 3 =>
    if bitsOf loc 14 18 ≥ 65536 then put 3 0xFFFF
    else match (if s.slagFull 3 then none else (s.core (bitsOf loc 0 8)).freeSpare (bitsOf loc 8 6)) with
      | some i => put 2 i
      | none => slagRecord 1 1 reason (bitsOf loc 0 8) 0xFFFF
  | 4 =>
    let seg := bitsOf loc 0 5
    let g := bitsOf loc 5 9
    match (if s.slagFull 4 then none else s.freeGroup seg) with
    | some spare => put 2 spare
    | none => if g < 160 then slagRecord 1 1 reason core 0xFFFF
        else seq [fset F.MOD_GRID_STAT_OUT_OF_SERVICE 0 1, raise 0x0A0C 3 nobody [(1, seg), (2, g)]]
  | 5 => put 2 4
  | 6 =>
    if loc ≥ 240 then put 3 0xFFFF
    else match s.freeTile (loc / 12) with
      | some t => seq [put 2 t, tilesOn]
      | none => raiseExhausted 6 loc
  | _ => nop

/-- The running copy is built from the fused and the flash entries (R40, R586); of a flash copy whose CRC fails the sane
entries are kept, with spares chosen anew, and a fresh copy is written. -/
def slagMerge : Eff := rd fun s =>
  let kept := s.slag.flash.filter SlagEntry.sane
  let plain (e : SlagEntry) := e.kind == 1 || e.kind == 2 || e.state == 3
  let now := if s.slag.flashCrcOk then s.slag.flash else kept.filter plain
  let run := (s.slag.fused ++ now).foldl (fun l e => slagPut e l) []
  seq [upd [.slag { s.slag with run }], each run slagApply,
    when (!s.slag.flashCrcOk)
      (seq [each (kept.filter (fun e => !plain e)) (fun e => slagRepair e.kind e.location 0 e.reason),
        raise 0x0B0A 0 nobody [(2, kept.length), (4, s.slag.generation)],
        rd fun s => upd [.slag { s.slag with flash := s.slag.run, flashCrcOk := true }]])]

/-- A unit that the self-test finds failed (R587). -/
def selfTestFail (u : Nat × Nat × Nat) : Eff :=
  seq [slagRepair u.1 u.2.1 u.2.2 2, fsat F.MOD_BOOT_ERR_SELFTEST_FENCES 0 1, raise 0x0B04 0 nobody [(1, u.1), (4, u.2.1)]]

/-- A core whose agent fails both copies (R588). -/
def agentFail (p : Nat) : Eff := rd fun s =>
  when (s.healthy p) (seq [slagRecord 1 1 2 p 0xFFFF, raise 0x0B07 0 nobody [(1, p)], fset F.MOD_BOOT_ERR_AGENT_FAULT 0 1])

/-- Domains of cores that hold a logical column are on, every other one off (R551, R588). -/
def domainsOn : Eff := rd fun s =>
  seq [upd ((List.range 10).map (fun r => .fld F.PST_CORE_PWR_r_STATE r
      ((List.range 16).foldl (fun a c => a + (if s.coreServes (r * 16 + c) then 3 * 8 ^ c else 0)) 0))),
    rd fun s => upd [.pst { s.pst with queue := [], offHeld := [], retained := [] }], rampCount]

/-! What resets clear. -/

/-- The registers that Anise holds (R561). -/
def aniseRegs : List Nat := [Reg.PST_CTL.ix, Reg.PST_WAKE_EN.ix, Reg.PST_WAKE_STAT.ix, Reg.PST_TICKS.ix, Reg.PST_TIMER.ix, Reg.PST_PAD_HOLD.ix]

/-- The registers whose values fuses, Saffron's store or the cell hold (R666, R710). -/
def storeRegs : List Nat := [Reg.SAF_STAT.ix, Reg.SAF_TAMPER.ix, Reg.SAF_SECONDS.ix, Reg.SAF_KEYS.ix, Reg.MOD_LIFE.ix]

/-- Everything that does not survive a cold power-on or module reset returns to its reset value; the registers named stay. -/
def clearAll (keep : List Nat) : Eff := rd fun s =>
  seq [
    upd [.fldsKeep keep, .slag { s.slag with run := [] }, .seam State.reset.seam, .align State.reset.align, .gclk State.reset.gclk,
      .dec State.reset.dec, .ctl CtlSt.none, .coresClear 0 160, .mesClear 0 (160 * 64), .sesClear 0 (160 * 8), .vusClear 0 (160 * 4),
      .spdClear 0 (160 * 2 ^ 28), .spdPoisonClear 0 (160 * 2 ^ 22), .dramClear 0 dramSize, .dramPoisonClear 0 (dramSize / 64),
      .dramWrittenClear 0 (dramSize / 65536), .cachesClear 0 20, .refreshOnlyClear 0 20, .refreshedClear 0 (20 * 4096),
      .flasksClear 0 16, .queuesClear 0 (2 ^ 21), .ldlsClear 0 80, .msixClear 0 4096, .hportsClear 0 2, .ringsClear 0 17,
      .ev State.reset.ev, .slotsClear 0 17, .portsClear 0 24, .pour PourSt.none, .faults State.reset.faults, .pep PepSt.init,
      .power PowerSt.init, .dbg State.reset.dbg, .pst PstSt.init, .boot { s.boot with pldm := PldmSt.idle, held := 0 },
      .saf { s.saf with keys := [], sessions := [], spdm := 0 }, .svc { s.svc with thermTrip := false, dynAddr := none, eid := 0 }],
    fset F.SAF_STAT_SEALED 0 0, fset F.SAF_STAT_RELEASE_KEY 0 0]

/-- A release key is drawn (R644). -/
def releaseDraw : Eff := rd fun s =>
  seq [upd [.saf { s.saf with drawn := s.saf.drawn + 1 }], fset F.SAF_STAT_RELEASE_KEY 0 1]

/-- FIELD_DEBUG returns to OWNED (R643). -/
def lifecycleBack : Eff := rd fun s =>
  when (s.fget F.SAF_STAT_LIFECYCLE 0 == 3) (seq [fset F.SAF_STAT_LIFECYCLE 0 2, raise 0x0906 0 nobody [(1, 3), (1, 2)]])

/-- The newest entry of the tamper log. -/
def SafSt.newest (x : SafSt) : Option TamperEnt :=
  x.log.foldl (fun m e => match m with | some a => if a.index < e.index then some e else m | none => some e) none

/-- A tamper latch found set at power-up is told once READY is reached (R662). -/
def tamperTold : Eff := rd fun s =>
  when (s.flag F.SAF_STAT_TAMPER 0)
    (match s.saf.newest with
     | some e => raise 0x0901 0 nobody [(1, e.code), (4, e.index), (8, e.seconds)]
     | none => nop)

/-- The backup clock has reached a second (R671). -/
def secondsTo (n : Nat) : Eff := fmax F.SAF_SECONDS_SECONDS 0 n

/-- A tamper event is logged in the slot of the lowest acknowledged entry, or counted in OVERFLOW (R663); the latch is set. -/
def tamperLog (code power : Nat) : Eff := rd fun s =>
  let l := s.saf.log
  let n := s.fget F.SAF_TAMPER_NEWEST 0 + 1
  let old := (l.filter (fun e => e.acked)).foldl (fun m e => match m with | some i => some (min i e.index) | none => some e.index) (none : Option Nat)
  let ent : TamperEnt := { index := n, code, power, acked := false, seconds := s.fget F.SAF_SECONDS_SECONDS 0 }
  let put (l : List TamperEnt) : Eff := seq [upd [.saf { s.saf with log := l }], fset F.SAF_TAMPER_NEWEST 0 n]
  seq [
    (if l.length < 64 then put (l ++ [ent])
     else match old with
       | some i => put (l.map (fun e => if e.index = i then ent else e))
       | none => fsat F.SAF_TAMPER_OVERFLOW 0 1),
    fset F.SAF_TAMPER_LATCHED 0 1, fset F.SAF_STAT_TAMPER 0 1]

/-- The cell domain found reset at power-up (R661, R663): the log starts again with a STATE_LOSS entry as INDEX 1. -/
def cellReset : Eff := rd fun s =>
  seq [upd [.saf { s.saf with log := [] }], regReset .SAF_TAMPER 0, fset F.SAF_SECONDS_SECONDS 0 0, tamperLog 6 1]

/-! The power-on sequence (R580). -/

/-- A debug grant ends (R678): the aperture closes at once. -/
def grantEnds : Eff := rd fun s =>
  seq [upd [.dbg { s.dbg with grantEnd := none }], fset F.DBG_STAT_LEVEL 0 (if s.fget F.SAF_STAT_LIFECYCLE 0 = 1 then 3 else 0),
    fset F.DBG_STAT_FLAGS 0 (if s.fget F.SAF_STAT_LIFECYCLE 0 = 1 then 7 else 0), fset F.DBG_STAT_SESSION 0 0, fset F.DBG_STAT_SCOPE 0 0,
    fset F.MOD_APERTURE_CTL_EN 0 0, fset F.MOD_APERTURE_CTL_WR_EN 0 0]

/-- An image takes over (R580 step 7): its version, SVN and key, whether its TRIAL was cleared before. -/
def imageRuns (n : Nat) (fallback : Bool) : Eff := rd fun s =>
  let b := s.boot.slotBytes n
  seq [
    upd [.boot { s.boot with fwVersion := leAt b 0x1C 4, fwSvn := leAt b 0x18 4, fwKey := leAt b 0x10 1, image := b.take (b.length - 128),
                             proven := !fallback && s.boot.dir.trial == 0 && s.boot.dir.ok, tried := s.boot.dir.trial == 1 && !fallback }],
    fset F.MOD_BOOT_STAT_STAGE 0 3, fset F.MOD_BOOT_STAT_SLOT 0 n, fput F.MOD_BOOT_STAT_FALLBACK 0 fallback, releaseDraw]

/-- RECOVERY (R579). -/
def recovery : Eff := fset F.MOD_BOOT_STAT_STAGE 0 8

/-- The slots in the order they are tried, with whether each is a fallback (R575, R578). -/
def BootSt.order (b : BootSt) : List Nat := if b.dir.ok then [b.dir.active % 2, 1 - b.dir.active % 2] else [0, 1]

/-- Steps 5 and 6 (R573, R575, R577, R578): the image that boots, or RECOVERY. -/
def imageLoad (env : BootEnv) : Eff := rd fun s =>
  let b := s.boot
  let sig (n : Nat) := if n = 0 then env.sigA else env.sigB
  let check (n : Nat) := s.fwCheck ((b.slotBytes n).take (b.slotLen n)) (b.slotLen n) (sig n)
  let stale (n : Nat) := b.tried && b.dir.ok && n == b.dir.active % 2
  let n0 := b.order.headD 0
  let bad (n : Nat) : Eff := match check n with | some r => fwReject n r | none => nop
  seq [
    fset F.MOD_FLASH_INFO_SIZE_LOG2 0 env.sizeLog2, fput F.MOD_FLASH_INFO_QUAD 0 env.quad, fset F.MOD_FLASH_INFO_CLOCK_MHZ 0 env.clockMhz,
    if s.svc.forceRecovery then recovery
    else if env.flashErr.val ≠ 0 then seq [fset F.MOD_BOOT_ERR_FLASH_ERR 0 env.flashErr.val, recovery]
    else seq [
      fset F.MOD_FLASH_INFO_DIR_GEN 0 b.dir.gen,
      when (!b.dir.ok) (fset F.MOD_BOOT_ERR_FLASH_ERR 0 4),
      fset F.MOD_BOOT_STAT_STAGE 0 2,
      if (check n0).isNone && !stale n0 then imageRuns n0 false
      else seq [bad n0, bad (1 - n0), if (check (1 - n0)).isNone then imageRuns (1 - n0) true else recovery]]]

/-- A stage's step fails (R580); in RECOVERY no further step runs. -/
def stageFault (x : Nat × Nat) : Eff := rd fun s => when (s.fget F.MOD_BOOT_STAT_STAGE 0 != 8) <| seq [fset F.MOD_BOOT_ERR_STAGE_FAULT 0 1, raise 0x0B08 3 nobody [(1, x.1), (2, x.2)]]

/-- The boot goes on to a stage: it lies below the failing one, and the image runs where the stage needs it. -/
def upTo (env : BootEnv) (stage : Nat) (e : Eff) : Eff := rd fun s =>
  when ((match env.stageFault with | some (k, _) => decide (stage ≤ k) | none => true) &&
      (decide (stage < 3) || (decide (s.fget F.MOD_BOOT_STAT_STAGE 0 + 1 ≥ stage) && decide (s.fget F.MOD_BOOT_STAT_STAGE 0 < 8)))) e

/-- A pad group is released (R559). -/
def padOff (g : Nat) : Eff := fbit F.PST_PAD_HOLD_HOLD 0 g false

/-- READY (R578, R589, R590, R646): directory, minimum SVN, out-of-service causes, BOOT_READY. -/
def bootReady (env : BootEnv) : Eff := rd fun s =>
  let w := s.fget F.MOD_GRID_STAT_WIDTH 0
  let cause := if w < 8 then 1 else if !env.hbmFail.isEmpty then 2 else if !env.cacheFail.isEmpty then 3 else 0
  let slot := s.fget F.MOD_BOOT_STAT_SLOT 0
  let fb := s.flag F.MOD_BOOT_STAT_FALLBACK 0
  let up := ((List.range 24).filter (fun p => s.portState p == 4)).length
  let svn := min s.boot.fwSvn 64
  let newly := (List.range s.boot.fwKey).foldl (fun m k => setBit m k) 0
  seq [
    fset F.MOD_BOOT_STAT_STAGE 0 7, fset F.MOD_BOOT_STAT_READY 0 1, fset F.MOD_BOOT_STAT_PORTS_UP 0 up,
    fset F.MOD_BOOT_STAT_BOOT_MS 0 (min env.ms 0xFFFF), when (cause != 0) (fset F.MOD_GRID_STAT_OUT_OF_SERVICE 0 1),
    (if fb then seq [dirWrite (fun d => { d with active := slot, trial := 0, rejected := setBit d.rejected (1 - slot) }),
        raise 0x0B03 0 nobody [(1, slot), (1, 1 - slot)]]
     else when (s.boot.dir.trial == 1) (dirWrite (fun d => { d with trial := 0 }))),
    rd fun s => upd [.boot { s.boot with tried := false }],
    when s.boot.proven (seq [
      when (decide (svn > s.fget F.SAF_STAT_MIN_SVN 0))
        (seq [fset F.SAF_STAT_MIN_SVN 0 svn, raise 0x0905 0 nobody [(1, svn), (1, newly)]]),
      fset F.SAF_STAT_FW_REVOKED 0 (s.fget F.SAF_STAT_FW_REVOKED 0 ||| newly)]),
    raise 0x0B01 0 nobody [(2, min env.ms 0xFFFF), (1, slot), (1, b2n fb), (1, w), (1, up), (1, cause)],
    tamperTold]

/-- The grid is applied (R13, R586 step 6 of the map, R580 step 13): cores with failed agents leave first. -/
def bootGrid (env : BootEnv) : Eff :=
  seq [each (env.agentBad.map (fun p => p.val)) agentFail, applyGrid, domainsOn]

/-- Ports of the boot mask are enabled, and each completes its attempt (R580 step 11). -/
def bootPorts (env : BootEnv) : Eff := rd fun s =>
  let mask := s.boot.portMask.getD 0xFFFFFF
  let ups := env.portsUp.map (fun p => p.val)
  seq [fset F.MOD_PORT_BOOT_MASK 0 mask, when (decide (mask % 2 ^ 24 ≠ 0)) (padOff 5),
    each ((List.range 24).filter (fun p => bitOf mask p)) (fun p =>
      seq [onPort p (fun x => { x with enabled := true }), either (ups.elem p) (portUp p) (attemptFail p)])]

/-- Steps 2 to 14 of a cold power-on or module reset. -/
def bootFull (env : BootEnv) : Eff := seq [
  grantEnds, fset F.MOD_BOOT_STAT_STAGE 0 1, padOff 0, padOff 1, padOff 2, padOff 3,
  either env.fusesOk (upTo env 2 (imageLoad env)) (stageFault (1, 0)),
  rd fun s => upd ((List.range 20).map (fun c => .fld F.PWR_CLUSTER_c_TRIM c (s.boot.trims.getD c 0))),
  when env.fusesOk (seq [
    upTo env 4 (seq [slagMerge, fset F.MOD_BOOT_STAT_STAGE 0 4, tilesOn, pstepSet 12]),
    upTo env 5 (seq [
      each env.hbmFail (fun c => seq [fset F.PST_STAT_READY_FAULT 0 1, raise 0x080E 3 nobody [(1, 2), (2, c.val)]]),
      when env.hbmFail.isEmpty (padOff 4),
      each (env.cacheFail.map (fun c => c.val)) (fun c => each (List.range 8) (fun k => slagRepair 1 (physAt c k) 0 2)),
      each (env.selfTest.filter (fun u => u.1 == 3 || u.1 == 4 || u.1 == 6)) selfTestFail,
      fset F.MOD_BOOT_STAT_STAGE 0 5, bootPorts env]),
    upTo env 6 (seq [each (env.selfTest.filter (fun u => u.1 == 1 || u.1 == 2)) selfTestFail, fset F.MOD_BOOT_STAT_STAGE 0 6, bootGrid env]),
    upTo env 7 (bootReady env),
    (match env.stageFault with | some x => stageFault x | none => nop)])]

/-- The straps are sampled (R698). -/
def strapsIn (x : Straps) : Eff := rd fun s =>
  upd [.svc { s.svc with sbAddr := x.sbAddr.val, i3c := x.i3c, forceRecovery := x.forceRecovery }]

/-- POWER_ON (R537, R545, R572, R580, R699): a cold power-on from STANDBY keeps Anise; a return of the 48 V input starts Anise too. With
RESET_N low the sequence waits at step 2. -/
def execPowerOn (env : BootEnv) (straps : Straps) (resetLow : Bool) (s : State) : Host.Outcome State Fault Refusal :=
  run (rd fun s =>
    let standby := s.fget F.PST_STAT_STATE 0 == 4
    let latch := s.fget F.PST_WAKE_STAT_LATCH 0
    seq [
      clearAll (if standby then storeRegs ++ aniseRegs else storeRegs),
      fset F.PST_PAD_HOLD_HOLD 0 0x3F,
      when standby (seq [fset F.PST_STAT_XTAL_FAIL 0 (s.fget F.PST_STAT_XTAL_FAIL 0), fset F.PST_STAT_REPLAYED 0 (s.fget F.PST_STAT_REPLAYED 0)]),
      when (!standby) (strapsIn straps),
      when env.cellLost cellReset,
      when standby (seq [fset F.PST_STAT_TICK_TC0_TICKS 0 (s.fget F.PST_TICKS_COUNT 0), fset F.PST_WAKE_STAT_LAST 0 latch,
        fset F.PST_WAKE_STAT_LATCH 0 0, fadd F.PST_WAKE_STAT_EXITS 0 1, raise 0x080C 0 nobody [(1, 4), (1, 0), (1, s.pst.cause), (1, latch)]]),
      lifecycleBack,
      either resetLow (rd fun s => upd [.boot { s.boot with held := 2 }])
        (seq [tcTo (env.ms * 1000000), bootFull env])]) s

/-- MODULE_RESET (R572, R699): RESET_N low for at least 10 µs; Crucible is held until its release. In STANDBY nobody watches it. -/
def execModuleReset (lowNs tc : Nat) (s : State) : Host.Outcome State Fault Refusal :=
  run (rd fun s =>
    when (decide (lowNs ≥ 10000) && s.fget F.PST_STAT_STATE 0 != 4)
      (seq [tcTo tc, clearAll (storeRegs ++ aniseRegs ++ [Reg.TC_NOW.ix]), lifecycleBack, fset F.MOD_RESET_STAT_LAST 0 1,
        rd fun s => upd [.boot { s.boot with held := 1 }]])) s

/-- RESET_N_RELEASE (R698, R699): the straps are sampled and the held sequence goes on from step 2. -/
def execResetNRelease (env : BootEnv) (straps : Straps) (tc : Nat) (s : State) : Host.Outcome State Fault Refusal :=
  run (rd fun s =>
    when (s.boot.held != 0)
      (seq [tcTo tc, strapsIn straps, rd fun s => upd [.boot { s.boot with held := 0 }], bootFull env])) s

/-! Compute-only reset (R596 to R598). -/

/-- Dirty lines of host data are lost as the caches are invalidated: what DRAM holds there is open. -/
def dirtyLost : Eff := rd fun s =>
  let ls := (s.caches.flatMap (fun c => (c.2.lines.filter (fun l => l.dirty)).map (fun l => l.line))).filter (fun l => (s.regionOf (l * 256)).isNone)
  each ls (fun l => draw (fun v => upd [.dram (l * 256) (natLe 256 v)]))

/-- Steps 1 to 4 (R340, R341, R425, R596): flasks halt and are destroyed, elastic contexts captured, release buffers emptied. -/
def computeStop : Eff := seq [
  rd fun s => each (s.slotsRunning (fun m => m.cmd / 256 == 1 || m.cmd == 0x0301 || m.cmd == 0x0204)) (fun k => mbFail k 0x0210),
  ldlAbort 2 (fun _ => true) true,
  rd fun s => each s.ldls (fun e => each (e.2.ctxs.filter (fun c => c.2.abortCause != 0)) (fun c => ctxCapture e.1 c.1 (b2n c.2.open_.isEmpty))),
  each (List.range 24) (fun n => onPort n (fun x => { x with txCells := [], release := [] })),
  dirtyLost,
  rd fun s => each s.liveFlasks (fun f =>
    let x := s.flask f
    seq [flaskReset f, each (s.flaskPhys f) (fun p => coreZero p none), regionOpen x.baseGib x.gib, weightsEnd f, onFlask f FlaskSt.gone]),
  rd fun s => each ((List.range 160).filter (fun p => s.coreState p == 5)) (fun p =>
    seq [when (s.flag F.SPD_STAT_ZEROING p) (seq [spdZero p, fset F.SPD_STAT_ZEROING p 0]), fset F.CORE_STAT_STATE p 0]),
  upd [.cachesClear 0 20], readyAgain, pendingAll]

/-- Steps 5 to 8: rails and domains that a trip gated, the engines' self-test, core agents, the grid. -/
def computeStart (env : BootEnv) : Eff := seq [
  rd fun s => when (s.svc.thermTrip)
    (seq [upd [.svc { s.svc with thermTrip := false }, .power { s.power with fault := false }], tilesOn, pstepSet s.pstep]),
  each (env.selfTest.filter (fun u => u.1 == 2 || u.1 == 1)) selfTestFail,
  bootGrid env]

/-- A compute-only reset, with its event. -/
def computeReset (env : BootEnv) : Eff := rd fun s =>
  let before := (List.range 160).filter s.healthy
  seq [fset F.MOD_RESET_STAT_IN_PROGRESS 0 1, computeStop, computeStart env,
    fset F.MOD_RESET_STAT_IN_PROGRESS 0 0, fset F.MOD_RESET_STAT_LAST 0 4, fadd F.MOD_RESET_STAT_COMPUTE_RESETS 0 1,
    rd fun s => raise 0x0B05 0 nobody [(4, env.ms * 1000), (1, (before.filter (fun p => !s.healthy p)).length)]]

/-- MB_COMPUTE_RESET (R596 to R598): every such command accepted before its end completes with it; held commands that name a flask find
none. -/
def execMbComputeReset (slot : Fin 17) (env : BootEnv) (tc : Nat) (s : State) : Host.Outcome State Fault Refusal :=
  run (seq [tcTo tc, mbCommand slot.val 0x0302 (fun _ => seq [
    computeReset env,
    rd fun s => each ((List.range 17).filter (fun k => s.mbRuns k 0x0302 || ((s.slot k).cmd == 0x0302 && (s.slot k).state == 1))) (fun k => mbDone k 0),
    rd fun s => each ((List.range 17).filter (fun k => let m := s.slot k
      m.state == 1 && ((m.cmd / 256 == 1 && m.cmd != 0x0101 && m.cmd != 0x010D) || m.cmd == 0x0204))) (fun k => mbFail k 0x0213)])]) s

/-! Management reset (R595). -/

/-- A management reset of a cause (2 by command, 3 by the watchdog): a compute-only reset, then Crucible from step 2 without steps 3
and 9 to 12. -/
def managementReset (cause : Nat) (env : BootEnv) : Eff := seq [
  computeStop,
  rd fun s => upd [.slotsClear 0 17, .ringsClear 0 17, .ev { State.reset.ev with seq := s.ev.seq },
    .fldsDrop [Reg.MOD_MB_SUMMARY.ix, Reg.MOD_EVR_HEAD_n.ix, Reg.MOD_EVR_TAIL_n.ix, Reg.SAF_SLOT_ROLE.ix, Reg.SAF_SLOT_FLASK.ix,
      Reg.MOD_BOOT_STAT.ix, Reg.MOD_BOOT_ERR.ix] 0 17,
    .boot { s.boot with pldm := PldmSt.idle }, .saf { s.saf with sessions := [], spdm := 0 }],
  pourClear, grantEnds,
  fset F.MOD_RESET_STAT_LAST 0 cause, fadd F.MOD_RESET_STAT_MGMT_RESETS 0 1, fset F.MOD_BOOT_STAT_STAGE 0 1,
  either env.fusesOk (upTo env 2 (imageLoad env)) (stageFault (1, 0)),
  when env.fusesOk (seq [
    upTo env 4 (fset F.MOD_BOOT_STAT_STAGE 0 4),
    upTo env 5 (fset F.MOD_BOOT_STAT_STAGE 0 5),
    upTo env 6 (seq [computeStart env, fset F.MOD_BOOT_STAT_STAGE 0 6]),
    upTo env 7 (seq [bootReady env, raise 0x0B06 0 nobody [(1, cause)]]),
    (match env.stageFault with | some x => stageFault x | none => nop)])]

/-- WATCHDOG_EXPIRY (R595): the image stage serves its watchdog no more. -/
def execWatchdogExpiry (env : BootEnv) (tc : Nat) (s : State) : Host.Outcome State Fault Refusal :=
  run (rd fun s =>
    let st := s.fget F.MOD_BOOT_STAT_STAGE 0
    when (decide (3 ≤ st) && decide (st ≤ 7) && s.boot.held == 0) (seq [tcTo tc, managementReset 3 env])) s

/-! Staging and activating firmware (R591, R592). -/

/-- MB_FW_STAGE (R591). -/
def execMbFwStage (slot : Fin 17) (signatureOk readBackOk : Bool) (s : State) : Host.Outcome State Fault Refusal :=
  run (mbCommand slot.val 0x0601 (fun args => rd fun s =>
    let k := slot.val
    let src := leAt args 0 8
    let len := leAt args 8 4
    let b := s.devRd src (min len (2 ^ 24 + 1))
    if !s.rangeOk 16 src len then mbFail k 0x0502
    else match s.fwCheck b len signatureOk with
      | some r => seq [fwReject 2 r, mbFail k (rejectStatus r.1)]
      | none => if readBackOk then seq [fset F.MOD_BOOT_ERR_REJECT_LAST 0 0, fwStore b, mbDone k 0] else mbFail k 0x0506)) s

/-- MB_FW_ACTIVATE (R592): with MODE 1 a management reset follows once DONE is written. -/
def execMbFwActivate (slot : Fin 17) (env : BootEnv) (tc : Nat) (s : State) : Host.Outcome State Fault Refusal :=
  run (seq [tcTo tc, mbCommand slot.val 0x0602 (fun args => rd fun s =>
    either (s.boot.dir.staged == 0xFF) (mbFail slot.val 0x0210)
      (seq [fwActivate, mbDone slot.val 0, when (leAt args 0 1 == 1) (managementReset 2 env)]))]) s

end Sys2Proof.Machine
end

