-- ==== Sys2Proof/Machine/PowerStates.lean ====
section
/-! DEFINITION. Power states, wake and D3hot (R537 to R571). STATE: 0 RUN, 1 IDLE, 2 NAP, 3 DORMANT, 4 STANDBY; PHASE: 0 resting,
1 ENTERING, 2 EXITING. -/
namespace Sys2Proof.Machine

/-- The last power state reached (R562). -/
def State.pstate (s : State) : Nat := s.fget F.PST_STAT_STATE 0
/-- Resting, entering or exiting. -/
def State.phase (s : State) : Nat := s.fget F.PST_STAT_PHASE 0
/-- The wake latches (R565). -/
def State.latches (s : State) : Nat := s.fget F.PST_WAKE_STAT_LATCH 0

/-- The preconditions of an entry fail (R539). -/
def State.entryRefused (s : State) (st : Nat) : Bool :=
  let en := s.fget F.PST_WAKE_EN_EN 0
  !s.running.isEmpty ||
  (st == 2 && !s.liveFlasks.all (fun f => s.flaskIn f 0 || s.flaskIn f 2 || (s.flaskIn f 4 && (s.flask f).atQuiesce))) ||
  (decide (st ≥ 3) && (s.liveFlasks.any (fun f => (s.flask f).active.present || (s.flask f).staged.present) || s.pourRuns)) ||
  (st == 4 && (en % 32 == 0 || (en % 32 == 2 && s.flag F.PST_STAT_XTAL_FAIL 0)))

/-- An exit begins (R542, R544, R553): on-requests of every core in service in ascending order. -/
def exitBegin (target cause : Nat) : Eff := rd fun s =>
  seq [fset F.PST_STAT_PHASE 0 2, fset F.PST_STAT_TARGET 0 target, upd [.pst { s.pst with cause }],
    when (decide (s.pstate ≥ 2) && decide (s.pstate ≤ 3)) (each ((List.range 160).filter s.coreServes) domainOn)]

/-- The wake latches end the state the module rests in (R542, R547): a replay when they were set during the entry (R548). -/
def wakeExit (cause : Nat) : Eff := rd fun s =>
  when (s.phase == 0 && decide (s.pstate ≥ 1) && decide (s.latches ≠ 0))
    (exitBegin (if s.pstate = 4 then 0 else s.fget F.PST_CTL_WAKE_TARGET 0) cause)

/-- A source acts in the state that rests or is being entered (R547); PIN, TIMER and HOST also latch in RUN, where they abandon an
entry (R548). -/
def State.armed (s : State) (b : Nat) : Bool :=
  let st := if s.phase = 1 then s.fget F.PST_STAT_TARGET 0 else s.pstate
  match b with
  | 0 | 1 => true
  | 5 => decide (st ≤ 3)
  | _ => st == 4

/-- A trigger sets its latch while its source is enabled (R547). -/
def latchSet (b : Nat) : Eff := rd fun s =>
  when (bitOf (s.fget F.PST_WAKE_EN_EN 0) b && s.armed b) (seq [fbit F.PST_WAKE_STAT_LATCH 0 b true, wakeExit 1])

/-- Anise's test of the TIMER condition (R550). -/
def timerTest : Eff := rd fun s =>
  when (decide (s.fget F.PST_TIMER_COMPARE 0 ≤ s.fget F.PST_TICKS_COUNT 0) && !s.flag F.PST_STAT_XTAL_FAIL 0) (latchSet 1)

/-- An entry is abandoned by a latch ordered before its commit (R548). -/
def entryAbandoned (k st : Nat) : Eff := rd fun s =>
  seq [fset F.PST_STAT_ABANDONED 0 1, raise 0x080D 0 nobody [(1, st), (1, s.latches)], mbFail k 0x0207]

/-- An entry commits and quiesces (R543 steps 2 to 4): gather buffers flush, caches write back, core domains shut. -/
def entryCommit (k st : Nat) : Eff := rd fun s =>
  seq [fset F.PST_STAT_PHASE 0 1, fset F.PST_STAT_TARGET 0 st, onSlot k (fun m => { m with phase := 1 }),
    when (st == 4) (mbDone k 4),
    each (s.cores.map (fun e => e.1)) gatherFlushAll,
    when (decide (st ≥ 2)) (seq [cacheClean 0 dramSize, each (List.range 160) domainOff])]

/-- MB_PSTATE_SET (R538, R539, R548): while the module enters or exits a state it waits. -/
def execMbPstateSet (slot : Fin 17) (tc : Nat) (s : State) : Host.Outcome State Fault Refusal :=
  run (seq [tcTo tc, mbCommand slot.val 0x0403 (fun args => rd fun s =>
    let k := slot.val
    let st := leAt args 0 1
    if (s.slot k).phase ≠ 0 ∨ s.phase ≠ 0 then nop
    else if st > 4 then mbFail k 0x0103
    else if st = s.pstate then mbDone k st
    else if st < s.pstate then
      if st ≤ 1 then seq [onSlot k (fun m => { m with phase := 1 }), exitBegin st 0] else mbFail k 0x0210
    else if s.entryRefused st then mbFail k 0x0210
    else if s.latches ≠ 0 then entryAbandoned k st
    else entryCommit k st)]) s

/-- The registers of a core that its domain holds and DORMANT loses. -/
def coreRegs : List Nat :=
  [Reg.ME_CTL, .ME_STAT, .ME_FLAGS, .ME_TILES, .ME_GATED, .ME_STALL, .ME_ERR, .ME_HASH, .ME_LAST_TAG, .SE_STAT, .SE_FLAGS, .SE_TILES,
   .SE_SKIPPED, .SE_STALL, .SE_ERR, .SE_HASH, .VU_STAT, .VU_FLAGS, .VU_ERR, .VU_SAMP_COUNT, .VU_SAMP_LAST, .VU_SAMP_STALL, .CORE_SEQ,
   .CORE_SC, .CORE_MOULD, .CORE_SEQ_ERR, .CORE_QSTAT, .SPD_ECC, .SPD_ECC_ADDR, .SPD_CONFLICT, .SPD_SCRUB_CTL, .SPD_SCRUB_STAT,
   .SPD_ELASTIC, .SPR_SLIP, .SPR_SLIP_INFO, .SPR_ERR, .SPR_ELASTIC].map Reg.ix

/-- The arrays of engines and vector units, which no state below IDLE retains (R543 step 6). -/
def enginesLost : Eff := upd [.mesClear 0 (160 * 64), .sesClear 0 (160 * 8), .vusClear 0 (160 * 4)]

/-- DORMANT takes the cores' contents, with the scratchpad zeroed as R279 gives before any core can be reached again (R541, R544). -/
def coresLost : Eff := rd fun s =>
  seq [upd (.fldsDrop coreRegs 0 (160 * 64) :: .spdClear 0 (160 * 2 ^ 28) :: .spdPoisonClear 0 (160 * 2 ^ 22) ::
      s.cores.map (fun e => .cores e.1 { CoreSt.init with owner := e.2.owner, rowMap := e.2.rowMap, sparesUsed := e.2.sparesUsed,
                                                          badRows := e.2.badRows })),
    upd [.queuesClear 0 (2 ^ 21), .fldsDrop queueRegs 0 (2 ^ 21)],
    upd ((List.range 160).map (fun p => .fld F.CORE_STAT_STATE p 0)),
    rd fun s => each (s.domainsIn 6) (fun p => domainSet p 0), rd fun s => upd [.pst { s.pst with retained := [] }]]

/-- Runner ports go DOWN and the module leaves its pour (R422, R543); the ports enabled before are remembered. -/
def linksOff : Eff := rd fun s =>
  let on := (List.range 24).filter (fun p => (s.port p).enabled)
  seq [upd [.pst { s.pst with ports := on }],
    each on (fun p => seq [onPort p (fun x => { x with enabled := false }), portDrop p]),
    rd fun s => when (s.pourTag != 0) pourClear]

/-- What a state takes from the module as its entry ends (R537, R543 steps 5 to 8, R556). -/
def entryEffect (st : Nat) : Eff := rd fun s =>
  seq [
    ldlAbort 3 (fun _ => true) true,
    when (decide (st ≥ 2)) (seq [enginesLost, upd [.cachesClear 0 20]]),
    when (decide (st ≥ 3)) (seq [linksOff, coresLost]),
    when (st == 4) (seq [clearAll (storeRegs ++ aniseRegs), fset F.PST_STAT_XTAL_FAIL 0 (s.fget F.PST_STAT_XTAL_FAIL 0),
      fset F.PST_STAT_ABANDONED 0 (s.fget F.PST_STAT_ABANDONED 0)]),
    fset F.PST_PAD_HOLD_HOLD 0 (s.fget F.PST_PAD_HOLD_HOLD 0 ||| (match st with | 2 => 0x10 | 3 => 0x30 | 4 => 0x3F | _ => 0))]

/-- PSTATE_ENTRY_COMPLETE (R543 step 9, R548): once every core domain is off where the state needs it, the target is reached, DONE
is written, and a wake latched since the commit is replayed. -/
def execPstateEntryComplete (tc : Nat) (s : State) : Host.Outcome State Fault Refusal :=
  run (seq [tcTo tc, rd fun s =>
    let old := s.pstate
    let st := s.fget F.PST_STAT_TARGET 0
    when (s.phase == 1 && (decide (st < 2) || (List.range 160).all (fun p => s.domain p == 0 || s.domain p == 6)))
      (seq [entryEffect st,
        fset F.PST_STAT_STATE 0 st, fset F.PST_STAT_PHASE 0 0, fset F.PST_STAT_TARGET 0 st,
        rd fun s => each ((List.range 17).filter (fun k => s.mbRuns k 0x0403 && (s.slot k).phase == 1)) (fun k => mbDone k st),
        raise 0x080C 0 nobody [(1, old), (1, st), (1, 0), (1, s.latches)],
        when (decide (s.latches ≠ 0)) (fset F.PST_STAT_REPLAYED 0 1), wakeExit 2])]) s

/-- PSTATE_EXIT (R544, R547, R559): once every core in service is ON, the module reaches IDLE or RUN; held pads are released, the
latches are copied to LAST and cleared, ports come back, the command that asked is done. -/
def execPstateExit (tc : Nat) (s : State) : Host.Outcome State Fault Refusal :=
  run (seq [tcTo tc, rd fun s =>
    let old := s.pstate
    let st := s.fget F.PST_STAT_TARGET 0
    let ready := decide (old < 2) || ((List.range 160).filter s.coreServes).all (fun p => s.domain p == 3)
    when (s.phase == 2 && decide (1 ≤ old) && decide (old ≤ 3) && ready)
      (seq [
        when (decide (old ≥ 2)) enginesLost,
        each ([4, 5].filter (fun g => !s.pst.failed.elem g)) padOff,
        fset F.PST_STAT_STATE 0 st, fset F.PST_STAT_PHASE 0 0,
        fset F.PST_WAKE_STAT_LAST 0 s.latches, fset F.PST_WAKE_STAT_LATCH 0 0, fadd F.PST_WAKE_STAT_EXITS 0 1,
        each s.pst.ports (fun p => onPort p (fun x => { x with enabled := true })),
        upd [.pst { s.pst with ports := [], failed := [] }],
        rd fun s => each ((List.range 17).filter (fun k => s.mbRuns k 0x0403 && (s.slot k).phase == 1)) (fun k => mbDone k st),
        raise 0x080C 0 nobody [(1, old), (1, st), (1, s.pst.cause), (1, s.latches)]])]) s

/-! Ready signals (R546). -/

/-- The flasks that own a core of a list. -/
def State.ownersOf (s : State) (ps : List Nat) : List Nat := s.liveFlasks.filter (fun f => (s.flaskPhys f).any (fun p => ps.elem p))

/-- Cores are fenced for a ready signal that stays away, against the flasks that own them; the cores that take their columns are
powered. -/
def readyFence (ps : List Nat) (detail : List (Nat × Nat)) : Eff := rd fun s =>
  let fs := s.ownersOf ps
  seq [either fs.isEmpty (raise 0x080E 0 nobody detail) (each fs (fun f => contain f 0x080E (flaskWho f) detail)),
    each ps (fun p => seq [domainLost p, fenceCore p 6 []]),
    rd fun s => when (s.phase == 2) (each ((List.range 160).filter s.coreServes) domainOn)]

/-- PST_READY_TIMEOUT (R546): signal 0 PWR_GOOD, 1 LOCK, 2 HBM_READY, 3 ARRAY_READY, 4 core ON of a unit; `other` says that the rail is an
auxiliary one, or the PLL a Runner port's; `retryOk` that the one retry succeeds. -/
def execPstReadyTimeout (signal : Fin 5) (unit : Nat) (other retryOk : Bool) (s : State) : Host.Outcome State Fault Refusal :=
  run (rd fun s =>
    let detail := [(1, signal.val), (2, unit)]
    let cluster := (List.range 8).map (physAt (unit % 20))
    when (s.phase == 2)
      (seq [fset F.PST_STAT_READY_FAULT 0 1,
        match signal.val, other with
        | 0, true => seq [raise 0x080E 3 nobody detail, fatal 0x0803 nobody [(8, 0)]]
        | 0, false => either retryOk (raise 0x080E 0 nobody detail) (readyFence cluster detail)
        | 1, true => seq [raise 0x080E 0 nobody detail, when (decide (unit < 24)) (rd fun s => upd [.pst { s.pst with ports := s.pst.ports.filter (fun p => p != unit) }])]
        | 1, false => either retryOk (raise 0x080E 0 nobody detail)
            (seq [fbit F.CLK_STOP_STAT_RELOCK_FAIL 0 (unit % 20) true, readyFence cluster detail])
        | 2, _ => seq [fatal 0x080E nobody detail, rd fun s => upd [.pst { s.pst with failed := NSet.add s.pst.failed 4 }]]
        | _, _ => readyFence [unit % 160] detail])) s

/-! Wake (R547 to R550, R564 to R567). -/

/-- WAKE_PIN: a falling edge of WAKE_N. -/
def execWakePin (s : State) : Host.Outcome State Fault Refusal := run (latchSet 0) s

/-- WAKE_TIMER: PST_TICKS reaches a count, and Anise tests it (R550). -/
def execWakeTimer (ticks : Nat) (s : State) : Host.Outcome State Fault Refusal :=
  run (rd fun s => when (!s.flag F.PST_STAT_XTAL_FAIL 0)
    (seq [fmax F.PST_TICKS_COUNT 0 (ticks % 2 ^ 48), timerTest])) s

/-- WAKE_I3C: an address on the sideband in STANDBY; only the module's own static address wakes it (R549). -/
def execWakeI3c (address : Fin 128) (s : State) : Host.Outcome State Fault Refusal :=
  run (rd fun s => when (address.val == 0x48 + s.svc.sbAddr) (latchSet 2)) s

/-- WAKE_PERST: a deassertion edge of a host port's PERST# (R547). -/
def execWakePerst (port : HostId) (s : State) : Host.Outcome State Fault Refusal := run (latchSet (3 + port.val)) s

/-- WAKE_HOST: a write of PST_WAKE_REQ (R566). -/
def execWakeHost (wake : Bool) (s : State) : Host.Outcome State Fault Refusal := run (when wake (latchSet 5)) s

/-- PST_TIMER_WRITE (R550, R567). -/
def execPstTimerWrite (val : Word) (byteMask : Fin 256) (s : State) : Host.Outcome State Fault Refusal :=
  run (seq [regWrite .PST_TIMER 0 (coverMask byteMask.val 8) val.toNat, timerTest]) s

/-- PST_WAKE_EN_WRITE (R550, R564). -/
def execPstWakeEnWrite (val : Word) (byteMask : Fin 256) (s : State) : Host.Outcome State Fault Refusal :=
  run (seq [regWrite .PST_WAKE_EN 0 (coverMask byteMask.val 8) val.toNat, timerTest]) s

/-- XTAL_FAIL (R550). -/
def execXtalFail (s : State) : Host.Outcome State Fault Refusal := run (fset F.PST_STAT_XTAL_FAIL 0 1) s

/-! D3hot (R555). -/

/-- D3HOT_ENTRY: as a reset of the port (R470). -/
def execD3hotEntry (port : HostId) (s : State) : Host.Outcome State Fault Refusal :=
  run (seq [portReset port.val, onHport port.val (fun h => { h with d3hot := true })]) s

/-- RETURN_TO_D0: the function's configuration state is reset. -/
def execReturnToD0 (port : HostId) (s : State) : Host.Outcome State Fault Refusal :=
  run (rd fun s => when (s.hport port.val).d3hot
    (seq [upd [.hports port.val HostPort.none, .msixClear (port.val * 2048) (port.val * 2048 + 2048)],
      fset F.MOD_HOST_STAT_p_BUS_MASTER port.val 0, fset F.MOD_HOST_STAT_p_MSIX_EN port.val 0])) s

end Sys2Proof.Machine
end

