-- ==== Sys2Proof/Machine/Scan.lean ====
section
/-! DEFINITION. Scan images (R248 to R252): scan-out, scan-in and the drain command. The spec gives the places and contents of an
image; the order of the fields within a core header and a queue context is the model's (log entry 40). -/
namespace Sys2Proof.Machine

/-! The image. -/

/-- The length of a core record (R250). -/
def recordLen : Nat := 0x390000

/-- The core header but its CRC: logical ID, PC, loops with their bounds, scalar registers, pending QOP results. -/
def State.scanHead (s : State) (p l : Nat) : List Byte :=
  let c := s.core p
  fitTo 4092 (natLe 8 l ++ natLe 8 (s.fget F.CORE_SEQ_PC p) ++ natLe 8 c.loops.length ++
    fitTo 128 (c.loops.flatMap (fun x => natLe 8 x.ctr ++ natLe 8 x.first ++ natLe 8 x.last ++ natLe 8 x.left)) ++
    (List.range 32).flatMap (fun r => natLe 8 (s.scalar p r)) ++ natLe 8 c.qopDue.length ++
    c.qopDue.flatMap (fun q => natLe 8 q.1 ++ natLe 8 q.2.1 ++ natLe 8 q.2.2))

/-- A binding's kind as R231 codes it. -/
def kindCode : QKind → Nat
  | .unbound => 0
  | .local => 1
  | .elasticTx => 2
  | .elasticRx => 3
  | .hostSubmit => 0x10
  | .hostPost => 0x11

/-- A queue context: kind, depth, counters, credits, sent and consumed counts. -/
def QueueSt.context (x : QueueSt) : List Byte :=
  fitTo 32 (natLe 1 (kindCode x.kind) ++ natLe 1 x.depthLog2 ++ natLe 2 x.tail ++ natLe 2 x.fetched ++ natLe 2 x.popped ++ natLe 2 x.written ++
    natLe 2 x.head ++ natLe 4 x.sent ++ natLe 2 x.consumed ++ natLe 2 x.credited ++ natLe 2 x.dropped)

/-- The rest of a core record (R250). -/
def State.scanBody (s : State) (p l : Nat) : List Byte :=
  fitTo 4096 (natLe 8 (s.regVal .SPD_SCRUB_CTL p) ++ (List.range 64).flatMap (fun n => natLe 8 (s.regVal .ME_CTL (p * 64 + n)))) ++
  (List.range 4096).flatMap (fun k => natLe 4 (s.arrival p k)) ++
  (List.range 4096).flatMap (fun k => natLe 8 (NMap.get 0 (s.core p).tmeta k)) ++
  List.replicate 0x2000 0 ++
  (List.range 8192).flatMap (fun q => (s.queue (l * 8192 + q)).context) ++
  (List.range 4).flatMap (fun v => (List.range 65536).flatMap (fun i => natLe 4 (NMap.get 0 (s.vu (p * 4 + v)).regs i))) ++
  (List.range 64).flatMap (fun n => Mem.rdN (s.me (p * 64 + n)).abuf 0 32768) ++
  (List.range 8).flatMap (fun n => Mem.rdN (s.se (p * 8 + n)).abuf 0 32768)

/-- A core record. -/
def State.scanRecord (s : State) (p l : Nat) : List Byte :=
  let h := s.scanHead p l
  let b := s.scanBody p l
  h ++ natLe 4 (crc32 (h ++ b)) ++ b

/-- The regions that an image includes: core, region index, base, length (R249). -/
def MouldSt.scanRegions (m : MouldSt) : List (Nat × Nat × Nat × Nat) :=
  (m.cores.flatMap (fun l =>
    let rs := regDecls (m.sect 7 l 0)
    (List.range rs.length).filterMap (fun i => match rs[i]? with
      | some r => if r.kind = 2 ∨ r.kind = 4 then some (l, i, r.base, r.len) else Option.none
      | Option.none => Option.none))).take 120

/-- Where the bytes of each region start in an image. -/
def regionOffs (off : Nat) : List (Nat × Nat × Nat × Nat) → List (Nat × (Nat × Nat × Nat × Nat))
  | [] => []
  | r :: rs => (off, r) :: regionOffs (off + r.2.2.2) rs

/-- The regions of a flask's image with their offsets. -/
def State.scanPlan (s : State) (f : Nat) (regions : Bool) : List (Nat × (Nat × Nat × Nat × Nat)) :=
  let m := (s.flask f).active
  regionOffs (0x1000 + m.cores.length * recordLen) (if regions then m.scanRegions else [])

/-- TOTAL_LEN of a flask's image. -/
def State.scanLen (s : State) (f : Nat) (regions : Bool) : Nat :=
  let m := (s.flask f).active
  0x1000 + m.cores.length * recordLen + (if regions then (m.scanRegions.foldl (fun a r => a + r.2.2.2) 0) else 0)

/-- The bytes of a region of a logical core. -/
def State.regionBytes (s : State) (r : Nat × Nat × Nat × Nat) : List Byte :=
  match s.physOf r.1 with
  | some p => s.spdRd p r.2.2.1 r.2.2.2
  | none => List.replicate r.2.2.2 0

/-- The header of an image with a given CRC field (R249). -/
def State.scanHeader (s : State) (f : Nat) (regions : Bool) (crc : Nat) : List Byte :=
  let x := s.flask f
  let m := x.active
  let temper := match s.mouldPhys f with | p :: _ => s.fget F.CORE_SEQ_TEMPER p | [] => 0
  let plan := s.scanPlan f regions
  natLe 4 0x4E414353 ++ natLe 2 1 ++ natLe 2 (b2n x.atQuiesce + 2 * b2n regions + 4 * b2n (m.format == 1)) ++ natLe 16 m.id ++ natLe 8 x.haltSc ++
  natLe 8 x.haltTc ++ natLe 8 x.haltFrame ++ natLe 2 m.cores.length ++ natLe 2 x.haltPoint ++ natLe 1 temper ++ natLe 1 x.haltCause ++
  natLe 2 plan.length ++ natLe 8 (s.scanLen f regions) ++ natLe 4 crc ++ natLe 188 0 ++
  fitTo 3840 (plan.flatMap (fun r => natLe 2 r.2.1 ++ natLe 2 r.2.2.1 ++ natLe 4 0 ++ natLe 8 r.2.2.2.2 ++ natLe 8 r.1 ++
    natLe 4 (crc32 (s.regionBytes r.2)) ++ natLe 4 0))

/-- The lines of a region of scratchpad are written to DRAM with their poison. -/
def copyOut (dst : Nat) (r : Nat × Nat × Nat × Nat) : Eff := rd fun s =>
  match s.physOf r.1 with
  | some p => each (List.range (r.2.2.2 / 64)) (fun i =>
      dramWrite (dst + 64 * i) (s.spdRd p (r.2.2.1 + 64 * i) 64) (s.spdPoisoned p (r.2.2.1 + 64 * i) 64))
  | none => nop

/-- Scan-out of a halted flask into DRAM (R248 to R250): the dirty lines of its region are written back first. -/
def scanOut (f dst : Nat) (regions : Bool) : Eff := seq [
  rd fun s => each (s.mouldPhys f) gatherFlushAll,
  rd fun s => cacheClean ((s.flask f).baseGib * 2 ^ 30) (((s.flask f).baseGib + (s.flask f).gib) * 2 ^ 30),
  rd fun s =>
    let m := (s.flask f).active
    seq [dramWrite dst (s.scanHeader f regions (crc32 (s.scanHeader f regions 0))) false,
      each (List.range m.cores.length) (fun i =>
        let l := m.cores.getD i 0
        match s.physOf l with
        | some p => dramWrite (dst + 0x1000 + i * recordLen) (s.scanRecord p l) false
        | none => nop),
      each (s.scanPlan f regions) (fun r => copyOut (dst + r.1) r.2)]]

/-- A sealed flask's image lies within its own region (R654). -/
def State.sealAllows (s : State) (f off len : Nat) : Bool :=
  let x := s.flask f
  !x.isSealed || within off len (x.baseGib * 2 ^ 30) (x.gib * 2 ^ 30)

/-- The common part of MB_SCAN_OUT and MB_FLASK_DRAIN: DST at offset 8, MAX_LEN at 16. -/
def scanOutCmd (k f : Nat) (args : List Byte) (regions : Bool) : Eff := rd fun s =>
  let dst := leAt args 8 8
  let n := s.scanLen f regions
  if !s.rangeOk f dst (leAt args 16 8) then mbFail k 0x0502
  else if !s.sealAllows f dst (leAt args 16 8) then mbFail k 0x0403
  else if leAt args 16 8 < n then mbFail k 0x0305
  else seq [scanOut f dst regions, mbDoneWith k (pack [(8, n)])]

/-- MB_SCAN_OUT (R248 to R251, R482). -/
def execMbScanOut (slot : Fin 17) (s : State) : Host.Outcome State Fault Refusal :=
  run (mbCommand slot.val 0x010A (fun args => rd fun s =>
    let f := leAt args 0 1
    if !s.flaskIn f 4 || !(s.flask f).active.present then mbFail slot.val 0x0210
    else scanOutCmd slot.val f args (bitOf (leAt args 1 1) 0))) s

/-- MB_FLASK_DRAIN (R609): the scan-out of a halted flask once its drain is over, with VOLATILE and SAMPLER regions. -/
def execMbFlaskDrain (slot : Fin 17) (s : State) : Host.Outcome State Fault Refusal :=
  run (mbCommand slot.val 0x0305 (fun args => rd fun s =>
    let f := leAt args 0 1
    let x := s.flask f
    if !s.flaskIn f 4 || !x.active.present then mbFail slot.val 0x0210
    else when (!x.draining || x.drained) (scanOutCmd slot.val f args true))) s

/-! Scan-in (R252). -/

/-- Record `i` of an image. -/
def recordAt (b : List Byte) (i : Nat) : List Byte := (b.drop (0x1000 + i * recordLen)).take recordLen

/-- Entry `i` of an image's region table: core, region index, length, offset, CRC. -/
def regionAt (b : List Byte) (i : Nat) : Nat × Nat × Nat × Nat × Nat :=
  let e := b.drop (0x100 + 32 * i)
  (leAt e 0 2, leAt e 2 2, leAt e 8 8, leAt e 16 8, leAt e 24 4)

/-- Check 2: the CRCs of header, records and regions, which lie in the image whole (R249, R250). -/
def scanCrcOk (b : List Byte) : Bool :=
  let n := leAt b 0x30 2
  let h := b.take 0x1000
  leAt b 0x38 8 == b.length && decide (0x1000 + n * recordLen ≤ b.length) && crc32 (h.take 0x40 ++ natLe 4 0 ++ h.drop 0x44) == leAt b 0x40 4 &&
  (List.range n).all (fun i => let r := recordAt b i; crc32 (r.take 4092 ++ r.drop 4096) == leAt r 4092 4) &&
  (List.range (leAt b 0x36 2)).all (fun i => let e := regionAt b i; decide (e.2.2.2.1 + e.2.2.1 ≤ b.length) && crc32 ((b.drop e.2.2.2.1).take e.2.2.1) == e.2.2.2.2)

/-- Check 3: MOULD_ID and the core list. -/
def scanFits (m : MouldSt) (b : List Byte) : Bool :=
  m.present && leAt b 8 16 == m.id && leAt b 0x30 2 == m.cores.length &&
  (List.range m.cores.length).all (fun i => leAt (recordAt b i) 0 8 == m.cores.getD i 0)

/-- A map from numbers of a fixed size in a byte string. -/
def mapFrom (b : List Byte) (off size n : Nat) : List (Nat × Nat) :=
  (List.range n).foldl (fun m k => NMap.put 0 m k (leAt b (off + size * k) size)) []

/-- A queue context restored over the binding in force; entries that lay in a HOST_SUBMIT shadow are fetched again. -/
def QueueSt.restore (x : QueueSt) (b : List Byte) : QueueSt :=
  { x with tail := leAt b 2 2, fetched := if x.kind = .hostSubmit then leAt b 6 2 else leAt b 4 2, popped := leAt b 6 2,
           written := leAt b 8 2, head := leAt b 10 2, sent := leAt b 12 4, consumed := leAt b 16 2, credited := leAt b 18 2,
           dropped := leAt b 20 2, shadow := 0, reads := [], posts := [], uncoveredAt := Option.none }

/-- A core takes its record, with the SC, switch point and temper of the header (R250, R252). -/
def restoreCore (p l sc point temper : Nat) (r : List Byte) : Eff := seq [
  progStart p temper,
  onCore p (fun c => { c with
    loops := (List.range (min 4 (leAt r 16 8))).map (fun i =>
      { ctr := leAt r (24 + 32 * i) 8, first := leAt r (32 + 32 * i) 8, last := leAt r (40 + 32 * i) 8, left := leAt r (48 + 32 * i) 8 }),
    scalars := (List.range 32).foldl (fun m k => NMap.put 0 m k (leAt r (152 + 8 * k) 8)) [],
    qopDue := (List.range (min 160 (leAt r 408 8))).map (fun i => (leAt r (416 + 24 * i) 8, leAt r (424 + 24 * i) 8, leAt r (432 + 24 * i) 8)),
    arrive := mapFrom r 0x2000 4 4096, tmeta := mapFrom r 0x6000 8 4096 }),
  fset F.CORE_SEQ_PC p (leAt r 8 8), fset F.CORE_SEQ_SWITCH_POINT p point, fset F.CORE_SC_SC p sc,
  fset F.SPD_SCRUB_CTL_DIS p (leAt r 0x1000 8), fset F.SPD_SCRUB_CTL_INTERVAL p (bitsOf (leAt r 0x1000 8) 4 4),
  upd ((List.range 64).map (fun n => .fld F.ME_CTL_GATE_DIS (p * 64 + n) (leAt r (0x1008 + 8 * n) 8))),
  rd fun s => each (s.queues.filter (fun q => q.1 / 8192 == l)) (fun q => onQueue q.1 (fun x => x.restore (r.drop (0x10000 + 32 * (q.1 % 8192))))),
  each (List.range 4) (fun v => onVu (p * 4 + v) (fun _ => { VuSt.zero with regs := mapFrom r (0x50000 + 0x40000 * v) 4 65536 })),
  each (List.range 64) (fun n => onMe (p * 64 + n) (fun e => { EngSt.zero with shape := e.shape, abuf := Mem.wrN [] 0 ((r.drop (0x150000 + 0x8000 * n)).take 0x8000) })),
  each (List.range 8) (fun n => onSe (p * 8 + n) (fun e => { EngSt.zero with shape := e.shape, abuf := Mem.wrN [] 0 ((r.drop (0x350000 + 0x8000 * n)).take 0x8000) }))]

/-- Every core and region of an image restored; the flask is READY and resumes at the captured switch point (R252). -/
def scanIn (f : Nat) (b : List Byte) : Eff := rd fun s =>
  let m := (s.flask f).active
  seq [
    each (List.range m.cores.length) (fun i =>
      let l := m.cores.getD i 0
      match s.physOf l with
      | some p => restoreCore p l (leAt b 0x18 8) (leAt b 0x32 2) (leAt b 0x34 1) (recordAt b i)
      | none => nop),
    each (List.range (leAt b 0x36 2)) (fun i =>
      let e := regionAt b i
      match s.physOf e.1, (regDecls (m.sect 7 e.1 0))[e.2.1]? with
      | some p, some r => seq [gatherFlushAll p, spdWr p r.base ((b.drop e.2.2.2.1).take (min e.2.2.1 r.len)) false]
      | _, _ => nop),
    onFlask f (fun x => { x with resumed := true, startAt := none, reported := none, halt := none, faultHalt := false, draining := false,
                                 drained := false }),
    setFlaskState f 2]

/-- MB_SCAN_IN (R251, R252, R482). -/
def execMbScanIn (slot : Fin 17) (s : State) : Host.Outcome State Fault Refusal :=
  run (mbCommand slot.val 0x010B (fun args => rd fun s =>
    let k := slot.val
    let f := leAt args 0 1
    let src := leAt args 8 8
    let len := leAt args 16 8
    let b := (s.devRd src len).take (leAt (s.devRd src (min len 64)) 0x38 8)
    if !s.rangeOk f src len then mbFail k 0x0502
    else if !s.sealAllows f src len then mbFail k 0x0403
    else if leAt b 0 4 ≠ 0x4E414353 ∨ leAt b 4 2 ≠ 1 then mbFail k 0x0140
    else if !scanCrcOk b then mbFail k 0x0141
    else if !scanFits (s.flask f).active b then mbFail k 0x0142
    else if !(s.flaskIn f 2 || s.flaskIn f 4) then mbFail k 0x0210
    else if !bitOf (leAt b 6 2) 0 then mbFail k 0x0211
    else seq [scanIn f b, readyAgain, readyReport, mbDone k 0])) s

end Sys2Proof.Machine
end

