-- ==== Sys2Proof/Machine/Mailbox.lean ====
section
/-! DEFINITION. The Rhozel mailbox (R472 to R490): the command table, the checks at acceptance, the orderings, cancellation, and the
commands of the mailbox chapter itself. -/
namespace Sys2Proof.Machine

/-! The command table (R482): each command's argument fields as (size, largest value). -/

/-- A field of a size that takes any value. -/
def anyOf (n : Nat) : Nat × Nat := (n, 2 ^ (8 * n) - 1)

/-- FLASK, 0 to 15. -/
def argFlask : Nat × Nat := (1, 15)

/-- The argument fields of each command (R482); the key record of MB_WEIGHT_KEY_LOAD has its own layouts (R655). -/
def cmdForms : List (Nat × List (Nat × Nat)) := [
  (0x0001, []),
  (0x0002, [anyOf 4]),
  (0x0003, [(1, 16), (1, 1), (1, 16), (2, 2047), anyOf 8]),
  (0x0004, []),
  (0x0101, [argFlask, anyOf 2, (18, 2 ^ 140 - 1)]),
  (0x0102, [argFlask]),
  (0x0103, [argFlask, (1, 1), anyOf 8, anyOf 4]),
  (0x0104, [argFlask, anyOf 8]),
  (0x0105, [argFlask]),
  (0x0106, [argFlask, anyOf 8]),
  (0x0107, [argFlask, (1, 1), anyOf 8]),
  (0x0108, [argFlask]),
  (0x0109, [argFlask]),
  (0x010A, [argFlask, (1, 1), anyOf 8, anyOf 8]),
  (0x010B, [argFlask, anyOf 8, anyOf 8]),
  (0x010C, [argFlask]),
  (0x010D, [(1, 12)]),
  (0x0201, [anyOf 112]),
  (0x0202, []),
  (0x0203, []),
  (0x0204, [argFlask, (1, 1)]),
  (0x0205, [(4, 2 ^ 24 - 1), (1, 2)]),
  (0x0301, [anyOf 1, anyOf 4]),
  (0x0302, []),
  (0x0303, [(2, 10000)]),
  (0x0304, [argFlask, (1, 1)]),
  (0x0305, [argFlask, anyOf 8, anyOf 8]),
  (0x0401, [(1, 15)]),
  (0x0402, [(4, 14000)]),
  (0x0403, [(1, 4)]),
  (0x0404, [(1, 16)]),
  (0x0501, [anyOf 4]),
  (0x0502, []),
  (0x0503, [anyOf 4]),
  (0x0601, [anyOf 8, anyOf 4]),
  (0x0602, [(1, 1)]),
  (0x0701, [(1, 1), (1, 1)]),
  (0x0702, [anyOf 2, (1, 1)])]

/-- The fields of a command; MB_POLL exists only on the sideband's slot 16 (R490). -/
def cmdForm (k cmd : Nat) : Option (List (Nat × Nat)) :=
  if k = 16 ∧ cmd = 0 then some [] else (cmdForms.find? (fun x => x.1 == cmd)).map (fun x => x.2)

/-- A length rounded up to a multiple of 8 (R480). -/
def upTo8 (n : Nat) : Nat := (n + 7) / 8 * 8

/-- The field values that packed arguments hold (R480). -/
def unpackFrom (pos : Nat) (args : List Byte) : List Nat → List Nat
  | [] => []
  | n :: t => leAt args (alignTo n pos) n :: unpackFrom (alignTo n pos + n) args t

/-- The record length of a TYPE of MB_WEIGHT_KEY_LOAD (R655). -/
def keyRecordLen : Nat → Option Nat
  | 1 => some 240
  | 2 => some 208
  | 3 => some 104
  | _ => none

/-- ARG_LEN is the packed length rounded up to a multiple of 8 (R480); a key record of no listed TYPE has no length of its own and is
refused by check 1 of R656. -/
def argLenOk (cmd len : Nat) (form : List (Nat × Nat)) (args : List Byte) : Bool :=
  if cmd = 0x0502 then
    (match keyRecordLen (leAt args 8 1) with
     | some n => len == 8 + n
     | none => decide (9 ≤ len) && decide (len ≤ 4096))
  else len == upTo8 (packLen (form.map (fun x => x.1)) 0)

/-- Every field in its range, padding 0 (R480, R482). -/
def argsOk (cmd : Nat) (form : List (Nat × Nat)) (args : List Byte) : Bool :=
  if cmd = 0x0502 then decide (leAt args 0 1 ≤ 15) && leAt args 1 7 == 0
  else
    let vs := unpackFrom 0 args (form.map (fun x => x.1))
    (vs.zip form).all (fun x => decide (x.1 ≤ x.2.2)) &&
    leNat args == leNat (pack ((form.map (fun x => x.1)).zip vs)) &&
    (match cmd with
     | 0x0003 => decide (6 ≤ leAt args 2 1) && leAt args 8 8 % 4096 == 0
     | 0x0301 => locOk (leAt args 0 1) (leAt args 4 4)
     | 0x0402 => decide (4000 ≤ leAt args 0 4)
     | _ => true)

/-! Who may issue what (R490, R649, R650). -/

/-- Commands that name a flask in their first byte. -/
def namesFlask (cmd : Nat) : Bool :=
  (decide (0x0101 ≤ cmd) && decide (cmd ≤ 0x010C)) || [0x0204, 0x0304, 0x0305, 0x0404, 0x0502].elem cmd

/-- A slot is a TENANT slot (R649); the sideband's is always OPERATOR. -/
def State.tenant (s : State) (k : Nat) : Bool := decide (k < 16) && bitOf (s.fget F.SAF_SLOT_ROLE_TENANT 0) k

/-- The flask to which a slot is bound. -/
def State.tenantFlask (s : State) (k : Nat) : Nat := bitsOf (s.fget F.SAF_SLOT_FLASK_FLASK 0) (4 * k) 4

/-- What a TENANT slot bound to flask `f` may issue (R650). -/
def tenantMay (f cmd : Nat) (args : List Byte) : Bool :=
  let own := leAt args 0 1 == f
  match cmd with
  | 0x0001 | 0x0004 => true
  | 0x0003 => leAt args 0 1 == f + 1
  | 0x0502 => own && leAt args 8 1 == 1
  | _ => own && [0x0103, 0x0104, 0x0105, 0x0106, 0x0107, 0x0108, 0x0109, 0x010A, 0x010B, 0x010C, 0x0305, 0x0204, 0x0404].elem cmd

/-- The debug level in force: 3 without a grant in MANUFACTURE (R676). -/
def State.dbgLevel (s : State) : Nat := if s.fget F.SAF_STAT_LIFECYCLE 0 = 1 then 3 else s.fget F.DBG_STAT_LEVEL 0

/-- The grant flags in force: all of them in MANUFACTURE (R676). -/
def State.dbgFlags (s : State) : Nat := if s.fget F.SAF_STAT_LIFECYCLE 0 = 1 then 7 else s.fget F.DBG_STAT_FLAGS 0

/-- A level 3 grant permits the aperture to open as asked (R680). -/
def State.apertureMay (s : State) (wr : Nat) : Bool :=
  s.dbgLevel == 3 && bitOf s.dbgFlags 1 && (wr == 0 || bitOf s.dbgFlags 0)

/-- The requester or channel may issue the command (R490, R647, R649, R650, R680). -/
def State.mbAllowed (s : State) (k cmd : Nat) (args : List Byte) (secured : Bool) : Bool :=
  (decide (k < 16) || ([0x00, 0x04, 0x06].elem (cmd / 256) || cmd == 0x0301 || (cmd / 256 == 5 && secured))) &&
  (!s.tenant k || tenantMay (s.tenantFlask k) cmd args) &&
  (cmd != 0x0701 || s.apertureMay (leAt args 1 1))

/-! What the module's condition refuses. -/

/-- Commands accepted before READY (R582). -/
def beforeReady : List Nat := [0x0000, 0x0001, 0x0003, 0x0601, 0x0602, 0x0501, 0x0503, 0x0402]

/-- Commands refused on a module out of service (R590). -/
def oosRefuses (cmd : Nat) (args : List Byte) : Bool :=
  [0x0101, 0x0103, 0x0104, 0x0106, 0x0108, 0x010B, 0x0201, 0x0202, 0x0401, 0x0304].elem cmd || (cmd == 0x0502 && leAt args 8 1 == 1)

/-- The power state that a module rests in or moves through: while it enters one, that state. -/
def State.pstDepth (s : State) : Nat := if s.phase = 1 then s.fget F.PST_STAT_TARGET 0 else s.pstate

/-- Commands refused while the module is not in RUN (R540); MB_COMPUTE_RESET waits while a state is entered or left (R598). -/
def State.restRefuses (s : State) (cmd : Nat) : Bool :=
  let d := s.pstDepth
  let notRun := s.pstate != 0 || s.phase != 0
  let nap := notRun && (d == 2 || d == 3)
  (notRun && [0x0106, 0x0108, 0x0104, 0x0401].elem cmd) ||
  (nap && [0x0103, 0x010A, 0x010B, 0x0305, 0x0101, 0x010C].elem cmd) ||
  (nap && s.phase == 0 && cmd == 0x0302) ||
  (notRun && d == 3 && cmd == 0x0201) ||
  (notRun && d == 2 && cmd == 0x0205)

/-- The status of a request that conflicts with the module's condition at acceptance (R85, R475, R539, R540, R596); 0 for none. -/
def State.mbConflict (s : State) (k cmd : Nat) (args : List Byte) : Nat :=
  if s.restRefuses cmd then 0x0210
  else match cmd with
    | 0x0401 =>
      if !s.isMaster then 0x0209
      else if (List.range 17).any (fun j => j != k && (s.slot j).cmd == 0x0401 && !(s.slot j).isOpen) then 0x0208
      else 0
    | 0x0302 => if s.fget F.PWR_THERM_TJ_MAX 0 ≥ 100 then 0x0210 else 0
    | 0x0403 => if s.phase = 0 ∧ leAt args 0 1 > s.pstate ∧ s.entryRefused (leAt args 0 1) = true then 0x0210 else 0
    | _ => 0

/-- The status that acceptance gives a command (R474, R480, R481); 0 when it passes. -/
def State.mbCheck (s : State) (k len cmd : Nat) (args : List Byte) (secured : Bool) : Nat :=
  match cmdForm k cmd with
  | none => 0x0101
  | some form =>
    if !s.mbAllowed k cmd args secured then 0x0403
    else if !s.flag F.MOD_BOOT_STAT_READY 0 && !beforeReady.elem cmd then 0x0215
    else if !argLenOk cmd len form args then 0x0102
    else if !argsOk cmd form args then 0x0103
    else if s.flag F.MOD_GRID_STAT_OUT_OF_SERVICE 0 && oosRefuses cmd args then 0x0214
    else s.mbConflict k cmd args

/-! Orderings (R475). -/

/-- Commands that can last longer than 200 µs. -/
def isLong (cmd : Nat) : Bool :=
  [0x0101, 0x0102, 0x0103, 0x0104, 0x0106, 0x0107, 0x010A, 0x010B, 0x010C, 0x0201, 0x0202, 0x0204, 0x0205, 0x0301, 0x0302, 0x0305,
   0x0401, 0x0402, 0x0403, 0x0601].elem cmd

/-- Commands that can start a flask (R539). -/
def startsFlask (cmd : Nat) : Bool := [0x0104, 0x0106, 0x0108, 0x0202].elem cmd

/-- A command is running. -/
def MbSlot.runs (m : MbSlot) : Bool := m.state == 2 || m.state == 3

/-- Another busy slot stands in a command's way by order of acceptance: it runs, or was accepted earlier and waits. -/
def MbSlot.before (x m : MbSlot) : Bool := x.runs || (x.state == 1 && decide (x.order < m.order))

/-- An accepted command may start (R475, R539, R542, R593, R598; the TAP's EXTEST holds compute in reset, R703). -/
def State.mayStart (s : State) (k : Nat) : Bool :=
  let m := s.slot k
  let others := ((List.range 17).filter (fun j => j != k)).map s.slot
  m.state == 1 &&
  !(namesFlask m.cmd && others.any (fun x => x.before m && namesFlask x.cmd && leAt x.args 0 1 == leAt m.args 0 1)) &&
  !([2, 4, 6].elem (m.cmd / 256) && others.any (fun x => x.before m && x.cmd / 256 == m.cmd / 256)) &&
  !(m.cmd / 256 == 6 && s.boot.pldm.state != 0) &&
  !(isLong m.cmd && decide ((others.filter (fun x => x.runs && isLong x.cmd)).length ≥ 4)) &&
  !((m.cmd == 0x0403 || m.cmd == 0x0302) && s.phase != 0) &&
  !(s.svc.tap == .extest && (m.cmd / 256 == 1 || m.cmd == 0x0301 || m.cmd == 0x0302 || m.cmd == 0x0204)) &&
  !(startsFlask m.cmd && others.any (fun x => x.cmd == 0x0403 && decide (leAt x.args 0 1 > s.pstate) && x.phase == 0 && x.before m)) &&
  !(m.cmd == 0x0403 && decide (leAt m.args 0 1 > s.pstate) && others.any (fun x => startsFlask x.cmd && x.before m))

/-- A held command starts when the orderings allow; one that the power state has come to refuse fails (R475, R478, R540). -/
def mbStart (k : Nat) : Eff := rd fun s =>
  when (s.mayStart k)
    (either (s.restRefuses (s.slot k).cmd) (mbFail k 0x0210)
      (seq [onSlot k (fun m => { m with state := 2 }),
        when (decide (k < 16) && isLong (s.slot k).cmd) (fbit F.MOD_MB_SUMMARY_RUNNING_LONG 0 k true)]))

/-! Submission (R472 to R474). -/

/-- Acceptance of the command in SUBMIT (R474): the arguments are copied, the slot is cleared, the command is checked, and it waits,
starts or fails. -/
def mbAccept (k : Nat) (secured : Bool) : Eff := rd fun s =>
  let m := s.slot k
  let cmd := bitsOf m.submit 0 16
  let len := bitsOf m.submit 16 13
  let args := Mem.rdN m.payload 0 (min len 4096)
  let st := s.mbCheck k len cmd args secured
  seq [
    onSlot k (fun m => { m with payload := [], resultLen := 0, tcAccepted := s.tc, refused := 0, cancel := 0, tcEnd := 0,
                                submit := m.submit % 2 ^ 63, seq := bitsOf m.submit 32 16, state := 1, progress := 0, result := 0,
                                cmd, args, order := s.mbOrder + 1, phase := 0, waitOn := [] }),
    upd [.mbOrder (s.mbOrder + 1)], mbBusy k true,
    either (st != 0) (mbFail k st) (mbStart k)]

/-- SUBMIT as it is held: its reserved bits read 0 (R472). -/
def submitBits (v : Nat) : Nat := bitsOf v 0 29 + bitsOf v 32 16 * 2 ^ 32 + bitsOf v 63 1 * 2 ^ 63

/-- A write of bytes into a number. -/
def mergeBytes (old off : Nat) (bs : List Byte) : Nat :=
  let m := byteMask off bs.length
  (old - (old &&& m)) + leNat bs * 2 ^ (8 * off)

/-- The part of a write of `bs` at `off` that falls on `n` bytes from `lo`, with its offset in them. -/
def partOf (off : Nat) (bs : List Byte) (lo n : Nat) : Nat × List Byte :=
  if off ≥ lo then (off - lo, bs.take (n - (off - lo))) else (0, (bs.drop (lo - off)).take n)

/-- The mailbox is open: from step 7 of R580 (R581, R582). -/
def State.mbServed (s : State) : Bool := [3, 4, 5, 6, 7, 9].elem (s.fget F.MOD_BOOT_STAT_STAGE 0)

/-- Cancellation requested while the slot is busy (R476): what is cancellable at this point ends with 0x0201. -/
def mbCancel (k : Nat) : Eff := rd fun s =>
  let m := s.slot k
  let honoured := m.state == 1 || (m.runs && [0x0103, 0x010A, 0x0305, 0x0205, 0x0601, 0x0204].elem m.cmd)
  if m.isOpen then when (m.state != 0 && m.cancel != 2) (onSlot k (fun m => { m with cancel := 1 }))
  else seq [
    onSlot k (fun m => { m with cancel := 1 }),
    when honoured (seq [
      onSlot k (fun m => { m with cancel := 2 }), mbFail k 0x0201,
      when (m.runs && m.cmd == 0x0205) (each m.waitOn (fun p => seq [onPort p (fun x => { x with enabled := false }), portDrop p]))])]

/-- A host write of bytes within a slot (R473, R474): discarded and counted while the slot is busy, but for CANCEL; a write that sets
GO submits the command. -/
def mbWrite (k off : Nat) (bs : List Byte) : Eff := rd fun s =>
  let m := s.slot k
  let hits (lo n : Nat) : Bool := decide (off < lo + n) && decide (lo < off + bs.length)
  let put (lo n old : Nat) : Nat := let x := partOf off bs lo n; if hits lo n then mergeBytes old x.1 x.2 else old
  let submit := submitBits (put 0 8 m.submit)
  let vector := put 0x14 2 m.vector
  let pay := partOf off bs 0x1000 0x1000
  seq [
    if m.isOpen then
      (if off = 0x17 ∧ bs.length = 1 then nop else
       onSlot k (fun m => { m with submit, vector := if vector < 2048 then vector else m.vector, notify := put 0x16 1 m.notify % 8,
                                   payload := if hits 0x1000 0x1000 then Mem.wrN m.payload pay.1 pay.2 else m.payload }))
    else when (off != 0x17 || bs.length != 1) (onSlot k (fun m => { m with refused := satAdd 0xFFFF m.refused 1 })),
    when (hits 0x17 1 && (bs.drop (0x17 - off)).headD 0 == 1) (mbCancel k),
    when (m.isOpen && hits 7 1 && bitOf submit 63) (mbAccept k false)]

/-- The bytes of a slot's header (R472, R478). -/
def MbSlot.header (m : MbSlot) : List Byte :=
  natLe 8 m.submit ++ natLe 4 m.result ++ natLe 1 m.progress ++ natLe 1 m.state ++ natLe 2 m.seq ++ natLe 4 m.resultLen ++
  natLe 2 m.vector ++ natLe 1 m.notify ++ natLe 1 m.cancel ++ natLe 8 m.tcAccepted ++ natLe 8 m.tcEnd ++ natLe 2 m.refused

/-- A byte of a slot as the host reads it (R472). -/
def MbSlot.byteAt (m : MbSlot) (off : Nat) : Byte := if off < 0x1000 then m.header.getD off 0 else Mem.rd m.payload (off - 0x1000)

/-- MB_SUBMIT (R473 to R475): a write of SUBMIT under a byte mask; one that sets GO while the slot is open submits the command. -/
def execMbSubmit (slot : Fin 16) (submit : Word) (byteMask : Fin 256) (tc : Nat) (s : State) : Host.Outcome State Fault Refusal :=
  run (seq [tcTo tc, rd fun s =>
    let k := slot.val
    let m := s.slot k
    let cover := coverMask byteMask.val 8
    let v := submitBits ((submit.toNat &&& cover) + (m.submit - (m.submit &&& cover)))
    when s.mbServed (if m.isOpen then
      seq [onSlot k (fun m => { m with submit := v }), when (bitOf byteMask.val 7 && bitOf v 63) (mbAccept k false)]
    else onSlot k (fun m => { m with refused := satAdd 0xFFFF m.refused 1 }))]) s

/-- MB_CANCEL (R476): a write of CANCEL; 0x01 requests cancellation. -/
def execMbCancel (slot : Fin 16) (val : Byte) (s : State) : Host.Outcome State Fault Refusal :=
  run (rd fun s => when (s.mbServed && val == 1) (mbCancel slot.val)) s

/-- MB_COMMAND_START (R475). -/
def execMbCommandStart (slot : Fin 17) (s : State) : Host.Outcome State Fault Refusal := run (mbStart slot.val) s

/-! Commands of class 0x00 and MB_EVENT_TEST (R482). -/

/-- COMMANDS of the info record (R484). -/
def commandBits : Nat := cmdForms.foldl (fun v x => v + 2 ^ (x.1 / 256 * 256 + x.1 % 256)) 0

/-- The info record (R484); WIDTH and SLAG_GENERATION read 0 until the grid is applied (R582). -/
def State.infoRecord (s : State) : List Byte :=
  let w := s.fget F.MOD_GRID_STAT_WIDTH 0
  let applied := s.flag F.MOD_BOOT_STAT_READY 0 || w != 0
  natLe 2 (s.fget F.MOD_ID_FAMILY 0) ++ natLe 2 (s.fget F.MOD_ID_PART 0) ++ natLe 1 (s.fget F.MOD_ID_STEPPING 0) ++
  natLe 1 (s.fget F.MOD_ID_COMPAT_LEVEL 0) ++ natLe 1 1 ++ natLe 1 0 ++ natLe 4 s.boot.fwVersion ++ natLe 4 s.boot.fwSvn ++
  natLe 4 s.boot.romVersion ++ natLe 2 0x0006 ++ natLe 1 w ++ natLe 1 16 ++ natLe 16 s.slag.serial ++ natLe 8 dramSize ++
  natLe 4 (if applied then s.slag.generation else 0) ++ natLe 4 s.pourTag ++ natLe 2 s.module ++
  natLe 1 (s.fget F.SAF_STAT_LIFECYCLE 0) ++ natLe 5 0 ++ natLe 256 commandBits

/-- MB_INFO_GET. -/
def execMbInfoGet (slot : Fin 17) (s : State) : Host.Outcome State Fault Refusal :=
  run (mbCommand slot.val 0x0001 (fun _ => rd fun s => mbDoneWith slot.val s.infoRecord)) s

/-- An entry of the slag map image (R42). -/
def SlagEntry.bytes (e : SlagEntry) : List Byte :=
  natLe 1 e.kind ++ natLe 1 e.state ++ natLe 1 e.reason ++ natLe 1 e.flags ++ natLe 4 e.location ++ natLe 2 e.spare ++ natLe 6 0 ++
  natLe 8 e.tc ++ natLe 8 0

/-- The slag map image of the running copy (R41). -/
def State.slagImage (s : State) : List Byte :=
  let es := s.slag.run.flatMap SlagEntry.bytes
  let head (crc : Nat) := natLe 4 0x47414C53 ++ natLe 2 1 ++ natLe 2 s.slag.run.length ++ natLe 4 s.slag.generation ++ natLe 4 0 ++
    natLe 16 s.slag.serial ++ natLe 8 s.slag.tcUpdated ++ natLe 1 s.slag.width ++ natLe 3 0 ++ natLe 4 crc ++ natLe 16 0
  head (crc32 (head 0 ++ es)) ++ es

/-- MB_SLAG_READ (R40, R41). -/
def execMbSlagRead (slot : Fin 17) (s : State) : Host.Outcome State Fault Refusal :=
  run (mbCommand slot.val 0x0002 (fun args => rd fun s => mbDoneWith slot.val ((s.slagImage.drop (leAt args 0 4)).take 4096))) s

/-- A ring is configured: its counters start from 0, and on ring 0 the records held since the boot go first (R464, R582). -/
def ringSet (n port depth vector base : Nat) : Eff := rd fun s =>
  seq [
    onRing n (fun g => { g with configured := base != 0, base, depthLog2 := depth, port, vector, stopped := false }),
    when (base != 0) (seq [
      fset F.MOD_EVR_TAIL_n_TAIL n 0, fset F.MOD_EVR_HEAD_n_HEAD n 0, fset F.MOD_EVR_TAIL_n_DEPTH_LOG2 n (depth - 2),
      when (n == 0 && !s.ev.ring0Seen) (seq [upd [.ev { s.ev with held := [], ring0Seen := true }],
        each s.ev.held (fun r => rd fun s => either (s.ringRoom 0) (ringWrite 0 r) (ringLose 0 r))]),
      ringReport n]),
    ringStatus n]

/-- MB_EVENT_RING_SET (R464, R465, R482, R582). -/
def execMbEventRingSet (slot : Fin 17) (s : State) : Host.Outcome State Fault Refusal :=
  run (mbCommand slot.val 0x0003 (fun args =>
    seq [ringSet (leAt args 0 1) (leAt args 1 1) (leAt args 2 1) (leAt args 4 2) (leAt args 8 8), mbDone slot.val 0])) s

/-- A flask record (R487). -/
def State.flaskRecord (s : State) (f : Nat) (shown : Bool) : List Byte :=
  let x := s.flask f
  natLe 1 f ++
  (if x.live && shown then
    natLe 1 (1 + s.flaskState f) ++ natLe 2 x.cores.length ++ natLe 4 x.gen ++ natLe 2 x.baseGib ++ natLe 2 x.gib ++
      natLe 4 (x.active.id % 2 ^ 32)
   else natLe 15 0)

/-- MB_FLASK_LIST (R487); a TENANT slot sees its own flask (R650). -/
def execMbFlaskList (slot : Fin 17) (s : State) : Host.Outcome State Fault Refusal :=
  run (mbCommand slot.val 0x0004 (fun _ => rd fun s =>
    mbDoneWith slot.val ((List.range 16).flatMap (fun f =>
      s.flaskRecord f (!s.tenant slot.val || s.tenantFlask slot.val == f))))) s

/-- MB_EVENT_TEST (R482, R491): an event with the TEST flag from Crucible. Its DETAIL, which no rule gives, is a free value. -/
def execMbEventTest (slot : Fin 17) (s : State) : Host.Outcome State Fault Refusal :=
  run (mbCommand slot.val 0x0702 (fun args => draw fun v =>
    seq [fun s => [.ev (s.ev.occur (s.occurrence (leAt args 0 2) (leAt args 2 1) 4 crucible (natLe 8 v)))], mbDone slot.val 0])) s

/-- MB_APERTURE_SET (R51, R680): opens or closes the scratchpad aperture while the grant is in force. -/
def execMbApertureSet (slot : Fin 17) (s : State) : Host.Outcome State Fault Refusal :=
  run (mbCommand slot.val 0x0701 (fun args => rd fun s =>
    either (s.apertureMay (leAt args 1 1))
      (seq [fset F.MOD_APERTURE_CTL_EN 0 (leAt args 0 1), fset F.MOD_APERTURE_CTL_WR_EN 0 (leAt args 1 1), mbDone slot.val 0])
      (mbFail slot.val 0x0403))) s

/-! The sideband path (R490). -/

/-- The response body: STATUS, RESULT_LEN, TC_ACCEPTED, TC_END, then the result bytes (R490). -/
def MbSlot.response (m : MbSlot) : List Byte :=
  natLe 4 m.result ++ natLe 1 m.progress ++ natLe 1 m.state ++ natLe 2 m.seq ++ natLe 4 m.resultLen ++ natLe 8 m.tcAccepted ++
  natLe 8 m.tcEnd ++ Mem.rdN m.payload 0 m.resultLen

/-- The virtual slot's response goes to the board management controller. -/
def sidebandAnswer : Eff := rd fun s => answer (s.slot 16).response false 0

/-- The message travels in a completed SPDM session (R647). -/
def State.isSecured (s : State) (session : Option Nat) : Bool :=
  match session with
  | some n => s.saf.sessions.any (fun x => x.id == n && x.done)
  | none => false

/-- MB_POLL (R490): the current STATUS and result. -/
def execMbPoll (s : State) : Host.Outcome State Fault Refusal := run (rd fun s => when s.mbServed sidebandAnswer) s

/-- SIDEBAND_REQUEST (R490, R647): a request body through the virtual slot; on a busy slot it starts nothing. -/
def execSidebandRequest (submit : Word) (args : List Byte) (session : Option Nat) (tc : Nat) (s : State) : Host.Outcome State Fault Refusal :=
  run (seq [tcTo tc, rd fun s =>
    let v := submitBits submit.toNat
    let poll := v % 2 ^ 29 == 0
    when s.mbServed (seq [
      when ((s.slot 16).isOpen && !poll)
        (seq [onSlot 16 (fun m => { m with submit := v, payload := Mem.wrN [] 0 (args.take 4096) }), mbAccept 16 (s.isSecured session)]),
      sidebandAnswer])]) s

end Sys2Proof.Machine
end

