-- ==== Sys2Proof/Machine/Security.lean ====
section
/-! DEFINITION. Saffron (R642 to R673): weight keys and Mould-signing keys, the tamper monitor and its log, slot roles. Whether a tag
or a signature verifies comes with the command. -/
namespace Sys2Proof.Machine

/-! Key records (R655 to R657). -/

/-- Bytes of a record are all 0. -/
def zeroAt (b : List Byte) (off n : Nat) : Bool := leAt b off n == 0

/-- Check 1 of R656: TYPE, INDEX, reserved bytes, the form of the range. -/
def keyForm (b : List Byte) : Bool :=
  let index := leAt b 1 1
  zeroAt b 2 6 &&
  (match leAt b 0 1 with
   | 1 => decide (index ≤ 7) && zeroAt b 0x89 7 && zeroAt b 0x9C 4 && leAt b 0x18 8 % 4096 == 0 && leAt b 0x20 8 % 4096 == 0 && leAt b 0x20 8 != 0
   | 2 => decide (1 ≤ index) && decide (index ≤ 7) && zeroAt b 0x69 7
   | 3 => decide (index ≤ 7)
   | _ => false)

/-- The first TYPE 2 record of slot 1 needs no signature when it comes from the sideband (R657). -/
def State.firstOwner (s : State) (k : Nat) (b : List Byte) : Bool :=
  leAt b 0 1 == 2 && leAt b 1 1 == 1 && !bitOf (s.fget F.SAF_KEYS_MOULD_PRESENT 0) 1 && zeroAt b 0x70 96 && k == 16

/-- The checks of R656 in order, as (passes, check, status). -/
def State.keyChecks (s : State) (k f : Nat) (b : List Byte) (verified : Bool) : List (Bool × Nat × Nat) :=
  let weight := leAt b 0 1 == 1
  let x := s.flask f
  let base := leAt b 0x18 8
  let len := leAt b 0x20 8
  let index := leAt b 1 1
  let id := leAt b 8 16
  let mine := s.saf.keys.filter (fun w => w.flask == f)
  [(keyForm b, 1, 0x0103),
   (if weight then s.fget F.SAF_STAT_LIFECYCLE 0 == 2 else !s.tenant k, 2, 0x0403),
   (!s.flag F.SAF_STAT_TAMPER 0, 3, 0x0404),
   (!weight || x.live, 4, 0x0213),
   (!weight || decide (base + len ≤ x.gib * 2 ^ 30), 5, 0x0502),
   (!weight || mine.all (fun w => w.index != index && !rangesMeet base len w.base w.len), 6, 0x0210),
   (!weight || id == 0 || (x.active.present && id == x.active.id), 7, 0x0210),
   (if weight then verified else s.firstOwner k b || (verified && bitOf (s.fget F.SAF_KEYS_MOULD_PRESENT 0) 1), 8, 0x0402)]

/-- A weight key enters the decrypt stages and its flask becomes sealed (R654, R656). -/
def weightInstall (f : Nat) (b : List Byte) : Eff := rd fun s =>
  let n := s.saf.loaded + 1
  let w : WeightKey := { flask := f, index := leAt b 1 1, base := leAt b 0x18 8, len := leAt b 0x20 8, mould := leAt b 8 16, key := n }
  seq [upd [.saf { s.saf with keys := s.saf.keys ++ [w], loaded := n }], onFlask f (fun x => { x with isSealed := true }),
    fbit F.SAF_STAT_SEALED 0 f true]

/-- A Mould-signing key is installed or revoked (R657). -/
def mouldKeyChange (slot : Nat) (b : List Byte) : Eff := rd fun s =>
  if leAt b 0 1 = 2 then
    seq [upd [.saf { s.saf with mouldKeys := NMap.ins (NMap.del s.saf.mouldKeys slot) slot ((b.drop 8).take 97) }],
      fbit F.SAF_KEYS_MOULD_PRESENT 0 slot true, raise 0x0907 0 nobody [(1, slot), (1, 0)]]
  else seq [fbit F.SAF_KEYS_MOULD_REVOKED 0 slot true, raise 0x0907 0 nobody [(1, slot), (1, 1)]]

/-- MB_WEIGHT_KEY_LOAD (R655 to R657): `verified` says whether the tag or the signature of the record verifies. -/
def execMbWeightKeyLoad (slot : Fin 17) (verified : Bool) (s : State) : Host.Outcome State Fault Refusal :=
  run (mbCommand slot.val 0x0502 (fun args => rd fun s =>
    let k := slot.val
    let f := leAt args 0 1
    let b := args.drop 8
    let index := leAt b 1 1
    match (s.keyChecks k f b verified).find? (fun c => !c.1) with
    | some c => seq [fset F.SAF_ERR_KEY_REJECT 0 1, raise 0x0903 0 nobody [(1, leAt b 0 1), (1, index), (1, c.2.1)], mbFail k c.2.2]
    | none =>
      if leAt b 0 1 = 1 then seq [weightInstall f b, mbDone k 0]
      else if leAt b 0 1 = 2 ∧ bitOf (s.fget F.SAF_KEYS_MOULD_REVOKED 0) index = true then mbFail k 0x0210
      else if leAt b 0 1 = 3 ∧ index = 1 then mbFail k 0x0210
      else seq [mouldKeyChange index b, mbDone k 0])) s

/-! Tamper (R661 to R664). -/

/-- Weight keys are zeroised (R643, R662): the lines of sealed ranges are discarded; every flask that held one raises
SAF_KEYS_ZEROIZED with a cause and is reset. -/
def keysZeroised (cause : Nat) : Eff := rd fun s =>
  let ks := s.saf.keys
  let fs := (List.range 16).filter (fun f => ks.any (fun w => w.flask == f))
  seq [
    each ks (fun w => let lo := (s.flask w.flask).baseGib * 2 ^ 30 + w.base; cacheDiscard lo (lo + w.len)),
    upd [.saf { s.saf with keys := [] }],
    each fs (fun f => contain f 0x0902 (flaskWho f) [(1, f), (1, cause)])]

/-- TAMPER_SENSOR (R661, R662): a sensor event sets the latch and is logged, once while the sensor stays asserted. With input power the
weight keys and the release key go, a debug grant ends and SAF_TAMPER is raised. Sensors 0x01 to 0x04 are watched on the cell alone;
TEST_FORCE counts outside MANUFACTURE. -/
def execTamperSensor (sensor : Fin 8) (inputPower : Bool) (seconds : Nat) (s : State) : Host.Outcome State Fault Refusal :=
  run (seq [secondsTo seconds, rd fun s =>
    let c := sensor.val
    let watched := decide (1 ≤ c) && c != 6 && (inputPower || decide (c ≤ 4)) && (c != 7 || s.fget F.SAF_STAT_LIFECYCLE 0 != 1)
    when (watched && !bitOf (s.fget F.SAF_TAMPER_LIVE 0) (c - 1))
      (seq [
        fbit F.SAF_TAMPER_LIVE 0 (c - 1) true, tamperLog c (b2n inputPower),
        when inputPower (seq [
          keysZeroised 0, fset F.SAF_STAT_RELEASE_KEY 0 0, grantEnds,
          rd fun s => each (s.slotsRunning (fun m => m.cmd == 0x0502)) (fun k => mbFail k 0x0404),
          rd fun s => raise 0x0901 0 nobody [(1, c), (4, s.fget F.SAF_TAMPER_NEWEST 0), (8, s.fget F.SAF_SECONDS_SECONDS 0)]])])]) s

/-- TAMPER_SENSOR_DEASSERT (R661). -/
def execTamperSensorDeassert (sensor : Fin 8) (s : State) : Host.Outcome State Fault Refusal :=
  run (when (decide (1 ≤ sensor.val)) (fbit F.SAF_TAMPER_LIVE 0 (sensor.val - 1) false)) s

/-- The latch clears (R662, R664): a new release key is drawn. -/
def latchClear : Eff := rd fun s =>
  when (s.flag F.SAF_STAT_TAMPER 0)
    (seq [fset F.SAF_STAT_TAMPER 0 0, fset F.SAF_TAMPER_LATCHED 0 0, when (!s.flag F.SAF_STAT_RELEASE_KEY 0) releaseDraw])

/-- MB_TAMPER_ACK (R664): entries up to LOG_INDEX are acknowledged; the latch clears when none is left unacknowledged and no sensor is
asserted. -/
def execMbTamperAck (slot : Fin 17) (s : State) : Host.Outcome State Fault Refusal :=
  run (mbCommand slot.val 0x0501 (fun args => rd fun s =>
    let n := leAt args 0 4
    let newest := s.fget F.SAF_TAMPER_NEWEST 0
    let log := s.saf.log.map (fun e => if e.index ≤ n then { e with acked := true } else e)
    if n > newest then mbFail slot.val 0x0103
    else seq [
      upd [.saf { s.saf with log }], when (n == newest) (fset F.SAF_TAMPER_OVERFLOW 0 0),
      when (log.all (fun e => e.acked) && s.fget F.SAF_TAMPER_LIVE 0 == 0) latchClear,
      rd fun s => mbDone slot.val (s.fget F.SAF_STAT_TAMPER 0)])) s

/-- An entry of the tamper log (R663). -/
def TamperEnt.bytes (e : TamperEnt) : List Byte :=
  natLe 4 e.index ++ natLe 1 e.code ++ natLe 1 e.power ++ natLe 1 (b2n e.acked) ++ natLe 1 0 ++ natLe 8 e.seconds

/-- The tamper log's 1,040 bytes (R663). -/
def State.tamperImage (s : State) : List Byte :=
  let es := s.saf.log.flatMap TamperEnt.bytes
  let all (crc : Nat) := natLe 4 0x4C504D54 ++ natLe 4 (s.fget F.SAF_TAMPER_NEWEST 0) ++ natLe 2 (s.fget F.SAF_TAMPER_OVERFLOW 0) ++
    natLe 1 (s.fget F.SAF_TAMPER_LATCHED 0) ++ natLe 1 0 ++ natLe 4 crc ++ es ++ natLe (1024 - es.length) 0
  all (crc32 (all 0))

/-- MB_TAMPER_LOG_READ (R663). -/
def execMbTamperLogRead (slot : Fin 17) (s : State) : Host.Outcome State Fault Refusal :=
  run (mbCommand slot.val 0x0503 (fun args => rd fun s => mbDoneWith slot.val (s.tamperImage.drop (leAt args 0 4)))) s

/-! Slot roles (R649, R668, R669). -/

/-- A host write of a role register, discarded while LOCK is 1. -/
def roleWrite (r : Reg) (val : Word) (bm : Nat) : Eff := rd fun s =>
  when (s.mbServed && !s.flag F.SAF_SLOT_ROLE_LOCK 0) (regWrite r 0 (coverMask bm 8) val.toNat)

/-- SLOT_ROLE_WRITE (R668). -/
def execSlotRoleWrite (val : Word) (byteMask : Fin 256) (s : State) : Host.Outcome State Fault Refusal :=
  run (roleWrite .SAF_SLOT_ROLE val byteMask.val) s

/-- SLOT_FLASK_WRITE (R669). -/
def execSlotFlaskWrite (val : Word) (byteMask : Fin 256) (s : State) : Host.Outcome State Fault Refusal :=
  run (roleWrite .SAF_SLOT_FLASK val byteMask.val) s

end Sys2Proof.Machine
end

