-- ==== Sys2Proof/Machine/Slosy.lean ====
section
/-! DEFINITION. The Slosy debug port (R674 to R694): frames, authorisation, access, debug holds, breakpoints. A frame that passes the
checks of every request becomes the request being served; its command answers it. -/
namespace Sys2Proof.Machine

/-! Requests (R675, R676, R681). -/

/-- The level each command needs, and its payload lengths as (least, largest) (R676, R681). -/
def slosyForm : Nat → Option (Nat × Nat × Nat)
  | 0x01 => some (0, 0, 0)
  | 0x02 => some (0, 0, 0)
  | 0x03 => some (0, 160, 160)
  | 0x04 => some (1, 0, 0)
  | 0x05 => some (3, 0, 0)
  | 0x10 => some (1, 10, 10)
  | 0x11 => some (2, 12, 1024)
  | 0x12 => some (3, 10, 10)
  | 0x20 => some (2, 16, 16)
  | 0x21 => some (2, 16, 16)
  | 0x22 => some (2, 8, 8)
  | 0x23 => some (1, 1, 1)
  | 0x30 => some (2, 32, 32)
  | 0x31 => some (2, 1, 1)
  | 0x32 => some (1, 0, 0)
  | 0x40 => some (2, 10, 10)
  | _ => none

/-- The bytes from the first SYNC on. -/
def slosySync : List Byte → List Byte
  | a :: b :: t => if a = 0x3C ∧ b = 0x5A then a :: b :: t else slosySync (b :: t)
  | _ => []

/-- The request that bytes on the wire spell, when the frame is whole, its LEN in range and its CRC right. -/
def slosyParse (wire : List Byte) : Option SlosyReq :=
  let b := slosySync wire
  let n := leAt b 4 2
  if b.length < 12 + n ∨ n > 1024 ∨ crc32 (b.take (8 + n)) ≠ leAt b (8 + n) 4 then none
  else some { tag := leAt b 2 1, cmd := leAt b 3 1, session := leAt b 6 2, payload := (b.drop 8).take n }

/-- The status that refuses a request before it is served (R675, R676, R678); 0 for none. -/
def State.slosyCheck (s : State) (r : SlosyReq) : Nat :=
  match slosyForm r.cmd with
  | none => 1
  | some (level, lo, hi) =>
    if r.payload.length < lo ∨ hi < r.payload.length then 2
    else if s.dbgLevel < level ∨ (level > 0 ∧ r.session ≠ s.fget F.DBG_STAT_SESSION 0) then 3
    else 0

/-- SLOSY_FRAME (R674, R675): bytes from the probe. A frame that does not check is discarded; a repetition of the previous request
receives its stored response; before step 7 only INFO is served. -/
def execSlosyFrame (wire : List Byte) (tc : Nat) (s : State) : Host.Outcome State Fault Refusal :=
  run (seq [tcTo tc, rd fun s =>
    let stage := s.fget F.MOD_BOOT_STAT_STAGE 0
    match slosyParse wire with
    | none => nop
    | some r =>
      when (decide (stage ≥ 1) && (s.mbServed || r.cmd == 0x01) && s.dbg.req.isNone)
        (seq [upd [.dbg { s.dbg with req := some r }],
          (match s.dbg.prev with
           | some (p, st, bytes) => if p = r then slosyAnswer st bytes else rd fun s => when (s.slosyCheck r != 0) (slosyAnswer (s.slosyCheck r) [])
           | none => rd fun s => when (s.slosyCheck r != 0) (slosyAnswer (s.slosyCheck r) []))])]) s

/-- A command serves the request that names it. -/
def slosyServe (cmd : Nat) (e : List Byte → Eff) : Eff := rd fun s =>
  match s.dbg.req with
  | some r => when (r.cmd == cmd) (e r.payload)
  | none => nop

/-- A flask is in the scope of the grant in force; every flask is at level 3 (R676, R677). -/
def State.inScope (s : State) (f : Nat) : Bool := s.dbgLevel == 3 || bitOf (s.fget F.DBG_STAT_SCOPE 0) f

/-- A status when something is refused, else an effect. -/
def refuseIf (l : List (Bool × Nat)) (e : Eff) : Eff :=
  match l.find? (fun x => x.1) with
  | some x => slosyAnswer x.2 []
  | none => e

/-! Identity and authorisation (R677 to R681). -/

/-- SLOSY_INFO. -/
def execSlosyInfo (s : State) : Host.Outcome State Fault Refusal :=
  run (slosyServe 0x01 (fun _ => rd fun s => slosyAnswer 0 (pack [(8, s.regVal .MOD_ID 0), (16, s.slag.serial),
    (1, s.fget F.SAF_STAT_LIFECYCLE 0), (1, s.dbgLevel), (8, s.regVal .DBG_HOLD 0)]))) s

/-- SLOSY_AUTH_REQ: a fresh nonce, or 0x07 while locked out (R677, R679). -/
def execSlosyAuthReq (s : State) : Host.Outcome State Fault Refusal :=
  run (slosyServe 0x02 (fun _ => rd fun s =>
    if s.dbg.lockEnd.isSome then slosyAnswer 7 []
    else draw fun v => rd fun s =>
      seq [upd [.dbg { s.dbg with nonce := some (v % 2 ^ 256) }],
        slosyAnswer 0 (pack [(32, v % 2 ^ 256), (16, s.slag.serial), (1, s.fget F.SAF_STAT_LIFECYCLE 0), (1, s.fget F.SAF_STAT_TAMPER 0)])])) s

/-- The signer's key is present and not revoked (R644, R672, R677). -/
def State.signerOk (s : State) (n : Nat) : Bool :=
  if n = 0 then bitOf (s.fget F.SAF_KEYS_MOULD_PRESENT 0) 1 && !bitOf (s.fget F.SAF_KEYS_MOULD_REVOKED 0) 1
  else decide (0x10 ≤ n) && decide (n ≤ 0x13) && !bitOf (s.fget F.SAF_STAT_FW_REVOKED 0) (n - 0x10)

/-- The reason for which a grant record is refused (R677, R689). -/
def State.grantRefusal (s : State) (b : List Byte) (verified : Bool) : Option Nat :=
  let level := leAt b 0x30 1
  let checks : List (Bool × Nat) := [
    (s.dbg.nonce == some (leAt b 0 32), 0), (leAt b 0x20 16 == s.slag.serial, 1), (s.signerOk (leAt b 0x38 1), 2), (verified, 3),
    (!s.flag F.SAF_STAT_TAMPER 0 || level == 1, 4), (s.fget F.SAF_STAT_LIFECYCLE 0 != 4 || decide (leAt b 0x38 1 ≥ 0x10), 5)]
  (checks.find? (fun c => !c.1)).map (fun c => c.2)

/-- The fields of a grant record are in range (R677). -/
def grantForm (b : List Byte) : Bool :=
  let level := leAt b 0x30 1
  let secs := leAt b 0x34 4
  decide (1 ≤ level) && decide (level ≤ 3) && decide (leAt b 0x31 1 < 8) && decide (1 ≤ secs) && decide (secs ≤ 604800) && leAt b 0x39 7 == 0

/-- SLOSY_AUTH_GRANT (R677, R679): `verified` says whether the signature verifies; the nonce is consumed either way. -/
def execSlosyAuthGrant (verified : Bool) (seconds : Nat) (s : State) : Host.Outcome State Fault Refusal :=
  run (seq [secondsTo seconds, slosyServe 0x03 (fun b => rd fun s =>
    let level := leAt b 0x30 1
    let signer := leAt b 0x38 1
    let now := s.fget F.SAF_SECONDS_SECONDS 0
    let refusal := s.grantRefusal b verified
    seq [upd [.dbg { s.dbg with nonce := none }],
      if !grantForm b then slosyAnswer 2 []
      else match refusal with
        | some why => seq [
            fsat F.DBG_STAT_FAILS 0 1, raise 0x0C02 0 nobody [(1, why)],
            rd fun s => when (decide (s.fget F.DBG_STAT_FAILS 0 ≥ 4)) (upd [.dbg { s.dbg with lockEnd := some (now + 60) }]),
            slosyAnswer 3 []]
        | none => seq [
            grantEnds, fset F.DBG_STAT_FAILS 0 0, fset F.DBG_STAT_LEVEL 0 level, fset F.DBG_STAT_FLAGS 0 (leAt b 0x31 1),
            fset F.DBG_STAT_SCOPE 0 (leAt b 0x32 2), draw fun v => fset F.DBG_STAT_SESSION 0 (v % 65535 + 1),
            rd fun s => upd [.dbg { s.dbg with grantEnd := some (now + leAt b 0x34 4) }],
            raise 0x0C01 0 nobody [(1, level), (1, signer), (1, leAt b 0x31 1), (2, leAt b 0x32 2)], slosyAnswer 0 (natLe 1 level)]])]) s

/-- SLOSY_AUTH_DROP (R678). -/
def execSlosyAuthDrop (s : State) : Host.Outcome State Fault Refusal := run (slosyServe 0x04 (fun _ => seq [grantEnds, slosyAnswer 0 []])) s

/-- Every flask passes through the owner change of R278 and its region's key with it (R643). -/
def ownersChange : Eff := rd fun s =>
  each s.liveFlasks (fun f =>
    let x := s.flask f
    seq [flaskReset f, each (s.flaskPhys f) (fun p => coreZero p (some (f, x.gen + 1))), regionOpen x.baseGib x.gib,
      onFlask f (fun x => { x with gen := x.gen + 1, isSealed := false }), fbit F.SAF_STAT_SEALED 0 f false])

/-- SLOSY_LIFECYCLE (R643, R680): an OWNED module moves to FIELD_DEBUG; the grant ends. -/
def execSlosyLifecycle (s : State) : Host.Outcome State Fault Refusal :=
  run (slosyServe 0x05 (fun _ => rd fun s =>
    refuseIf [(!bitOf s.dbgFlags 2, 3), (s.fget F.SAF_STAT_LIFECYCLE 0 != 2, 4)]
      (seq [keysZeroised 1, ownersChange, readyAgain, fset F.SAF_STAT_LIFECYCLE 0 3, raise 0x0906 0 nobody [(1, 2), (1, 3)], grantEnds,
        slosyAnswer 0 (natLe 1 3)]))) s

/-- GRANT_EXPIRY: DURATION has elapsed (R678). -/
def execGrantExpiry (seconds : Nat) (s : State) : Host.Outcome State Fault Refusal :=
  run (seq [secondsTo seconds, rd fun s =>
    match s.dbg.grantEnd with
    | some t => when (decide (t ≤ s.fget F.SAF_SECONDS_SECONDS 0)) grantEnds
    | none => nop]) s

/-- AUTH_LOCKOUT_EXPIRY (R679). -/
def execAuthLockoutExpiry (seconds : Nat) (s : State) : Host.Outcome State Fault Refusal :=
  run (seq [secondsTo seconds, rd fun s =>
    match s.dbg.lockEnd with
    | some t => when (decide (t ≤ s.fget F.SAF_SECONDS_SECONDS 0)) (upd [.dbg { s.dbg with lockEnd := none }])
    | none => nop]) s

/-! Access by fabric address (R682). -/

/-- Crucible as an initiator. -/
def slosyInit : Initiator := { crucible := true, flask := none, tag := 0 }

/-- The flask that an address belongs to. -/
def State.faFlask (s : State) (fa : Nat) : Option Nat :=
  if faSpace fa = 1 then s.regionOf (faDram fa) else (faOwnerCore fa).bind (fun l => (s.physOf l).bind s.flaskOf)

/-- What refuses an access before it is made (R676, R682): another module, a space or scope the level does not reach, a sealed flask
below level 3. -/
def State.slosyReach (s : State) (fa : Nat) : List (Bool × Nat) :=
  let sp := faSpace fa
  let f := s.faFlask fa
  [(faModule fa != s.module, 2),
   (sp == 4 || (decide (sp ≤ 1) && decide (s.dbgLevel < 2)), 3),
   (decide (sp ≤ 2) && (match f with | some f => !s.inScope f | none => decide (s.dbgLevel < 3)), 3),
   (decide (sp ≤ 2) && decide (s.dbgLevel < 3) && (match f with | some f => (s.flask f).isSealed | none => false), 5)]

/-- The largest permitted form at an address: a power of 2 up to 64, 8 for registers, that divides the address and fits. -/
def pieceLen (fa n : Nat) : Nat :=
  let cap := if faSpace fa = 2 ∨ faSpace fa = 3 then 8 else 64
  ([64, 32, 16, 8].find? (fun k => decide (k ≤ cap) && decide (k ≤ n) && fa % k == 0)).getD 4

/-- A read in pieces; `k` receives the bytes, or none at the first piece in error (R682). -/
def slosyReads : Nat → Nat → Nat → List Byte → (Option (List Byte) → Eff) → Eff
  | 0, _, _, acc, k => k (some acc)
  | fuel + 1, fa, n, acc, k =>
    if n = 0 then k (some acc)
    else
      let m := pieceLen fa n
      serve slosyInit fa (.read m) none false 0 0 (fun bs poison why =>
        if why ≠ 0 ∨ poison = true then k none else slosyReads fuel (fa + m) (n - m) (acc ++ bs) k)

/-- A write of some bits of a register by Slosy: RW fields only (R682). -/
def regWriteRw (r : Reg) (i mask v : Nat) : Eff := rd fun s =>
  upd ((r.fields.filter (fun f => f.ty == .rw)).filterMap (fun f =>
    let m := bitsOf mask f.lo f.len
    let old := s.fget f i
    let new := (bitsOf v f.lo f.len &&& m) + (old - (old &&& m))
    if m = 0 ∨ reservedEncoding f new = true then none else some (.fld f i new)))

/-- One piece of a write. -/
def slosyPut (fa : Nat) (bs : List Byte) (k : Nat → Eff) : Eff := rd fun s =>
  let op := AccessOp.write bs
  if faSpace fa = 2 ∨ faSpace fa = 3 then
    let why := s.faReason slosyInit fa bs.length true (formOk fa op)
    if why ≠ 0 then seq [faFault fa why true, k why]
    else match s.faReg fa with
      | some (r, i) => seq [regWriteRw r i (byteMask (fa % 8) bs.length) (leNat bs * 2 ^ (8 * (fa % 8))), k 0]
      | none => k 0
  else serve slosyInit fa op none false 0 0 (fun _ _ why => k why)

/-- A write in pieces, up to the first in error. -/
def slosyWrites : Nat → Nat → List Byte → (Bool → Eff) → Eff
  | 0, _, _, k => k true
  | fuel + 1, fa, bs, k =>
    if bs.length = 0 then k true
    else
      let m := pieceLen fa bs.length
      slosyPut fa (bs.take m) (fun why => if why ≠ 0 then k false else slosyWrites fuel (fa + m) (bs.drop m) k)

/-- A size of a read: 4 to 1,024, a multiple of 4. -/
def sizeOk (n : Nat) : Bool := decide (4 ≤ n) && decide (n ≤ 1024) && n % 4 == 0

/-- SLOSY_READ. -/
def execSlosyRead (tc : Nat) (s : State) : Host.Outcome State Fault Refusal :=
  run (seq [tcTo tc, slosyServe 0x10 (fun b => rd fun s =>
    let fa := leAt b 0 8
    let n := leAt b 8 2
    refuseIf ((!sizeOk n, 2) :: s.slosyReach fa)
      (slosyReads 256 fa n [] (fun r => match r with | some bs => slosyAnswer 0 bs | none => slosyAnswer 6 [])))]) s

/-- SLOSY_WRITE: needs WRITE (R680). -/
def execSlosyWrite (tc : Nat) (s : State) : Host.Outcome State Fault Refusal :=
  run (seq [tcTo tc, slosyServe 0x11 (fun b => rd fun s =>
    let fa := leAt b 0 8
    let data := b.drop 8
    refuseIf ((!sizeOk data.length, 2) :: (!bitOf s.dbgFlags 0, 3) :: s.slosyReach fa)
      (slosyWrites 256 fa data (fun ok => slosyAnswer (if ok then 0 else 6) [])))]) s

/-- SLOSY_APERTURE_READ (R50, R682): scratchpad by physical core; a sealed flask's core is closed (R654). -/
def execSlosyApertureRead (s : State) : Host.Outcome State Fault Refusal :=
  run (slosyServe 0x12 (fun b => rd fun s =>
    let p := leAt b 0 1
    let off := leAt b 4 4
    let n := leAt b 8 2
    refuseIf [(!sizeOk n || decide (p ≥ 160) || decide (off + n > 2 ^ 28), 2), (!s.inService, 4),
        (match s.flaskOf p with | some f => (s.flask f).isSealed | none => false, 5), (s.spdPoisoned p off n, 6)]
      (slosyAnswer 0 (s.spdRd p off n)))) s

/-! Debug holds (R683 to R686). -/

/-- The first start of a hold point of the grid at or after a TC (R684). -/
def State.holdPointAfter (s : State) (t : Nat) : Nat :=
  let t0 := s.fget F.TC_FRAME_TC_TC 0
  let mhz := pstepMhz s.pstep
  t0 + ((t - t0) * mhz + 127999) / 128000 * 128000 / mhz

/-- The boundary `n` hold points, or frames, after a boundary (R684). -/
def State.boundaryPlus (s : State) (t n : Nat) (pour : Bool) : Nat :=
  if pour then t + frameNs s.pstep n
  else
    let t0 := s.fget F.TC_FRAME_TC_TC 0
    let mhz := pstepMhz s.pstep
    t0 + (((t - t0) * mhz + 127999) / 128000 + n) * 128000 / mhz

/-- A change is armed for a flask. -/
def holdArm (a : HoldArm) : Eff := seq [rd fun s => upd [.dbg { s.dbg with armed := s.dbg.armed ++ [a] }], armedBit a.flask]

/-- A change of pour scope: the timing master sends a flask control record; the response follows GO or WITHDRAW (R684). -/
def holdPour (kind count target : Nat) : Eff := rd fun s =>
  let r : CtlRec := { seq := s.dec.nextSeq, kind, mouldIdLow := count, target := s.windowAfter target, tag := s.pourTag, crcOk := true }
  refuseIf [(!s.pourMaster || s.ctl.armed.isSome, 4)]
    (seq [upd [.dec { s.dec with nextSeq := (s.dec.nextSeq + 1) % 65536 }], send toTrees .flaskCtl (ctlFields r kind), ctlTake r none])

/-- A change of one flask at the first hold point at or after TARGET and at least 3 µs ahead, or of its pour. -/
def holdChange (f kind units target : Nat) (pour : Bool) : Eff := rd fun s =>
  let at_ := s.holdPointAfter (max target (s.tc + 3000))
  either pour (holdPour (if kind = 0 then 0x17 else 0x18) units target)
    (seq [holdArm { flask := f, kind, at_, pour := false, units }, slosyAnswer 0 (natLe 8 at_)])

/-- The TC at which a held flask's hold began; 0 for none. -/
def State.heldAt (s : State) (f : Nat) : Nat := assoc 0 s.dbg.heldTc f

/-- SLOSY_HOLD. -/
def execSlosyHold (tc : Nat) (s : State) : Host.Outcome State Fault Refusal :=
  run (seq [tcTo tc, slosyServe 0x20 (fun b => rd fun s =>
    let f := leAt b 0 1
    let pour := leAt b 1 1 == 1
    refuseIf [(decide (f > 15) || decide (leAt b 1 1 > 1), 2), (!s.inScope f, 3), (!s.flaskIn f 3 || s.inPour f != pour, 4)]
      (either (s.held f) (slosyAnswer 0 (natLe 8 (s.heldAt f))) (holdChange f 0 0 (leAt b 8 8) pour)))]) s

/-- SLOSY_RELEASE. -/
def execSlosyRelease (tc : Nat) (s : State) : Host.Outcome State Fault Refusal :=
  run (seq [tcTo tc, slosyServe 0x21 (fun b => rd fun s =>
    let f := leAt b 0 1
    refuseIf [(decide (f > 15), 2), (!s.inScope f, 3)]
      (either (!s.held f) (slosyAnswer 0 (natLe 8 (leAt b 8 8))) (holdChange f 1 0 (leAt b 8 8) (s.inPour f))))]) s

/-- SLOSY_STEP. -/
def execSlosyStep (tc : Nat) (s : State) : Host.Outcome State Fault Refusal :=
  run (seq [tcTo tc, slosyServe 0x22 (fun b => rd fun s =>
    let f := leAt b 0 1
    let n := leAt b 4 4
    refuseIf [(decide (f > 15) || n == 0 || decide (n > 1048576), 2), (!s.inScope f, 3), (!s.held f, 4)] (holdChange f 2 n 0 (s.inPour f)))]) s

/-- SLOSY_HOLD_STAT: held in bit 0 and armed in bit 1, SC, TC at the hold. -/
def execSlosyHoldStat (s : State) : Host.Outcome State Fault Refusal :=
  run (slosyServe 0x23 (fun b => rd fun s =>
    let f := leAt b 0 1
    refuseIf [(decide (f > 15), 2)]
      (slosyAnswer 0 (pack [(1, b2n (s.held f) + 2 * b2n (bitOf (s.fget F.DBG_HOLD_ARMED 0) f)), (8, s.flushSc f), (8, s.heldAt f)])))) s

/-- A hold begins (R683); one on a flask already held changes nothing (R685). -/
def holdBegin (f : Nat) : Eff := rd fun s =>
  when (s.flaskIn f 3 && !s.held f)
    (seq [fbit F.DBG_HOLD_HELD 0 f true, upd [.dbg { s.dbg with heldTc := NMap.put 0 s.dbg.heldTc f s.tc }],
      raise 0x0C03 0 (flaskWho f) [(1, f), (1, 0), (8, s.flushSc f)]])

/-- A hold ends (R684). -/
def holdRelease (f : Nat) : Eff := rd fun s =>
  when (s.held f)
    (seq [fbit F.DBG_HOLD_HELD 0 f false, upd [.dbg { s.dbg with heldTc := NMap.del s.dbg.heldTc f, lastHeld := s.tc }],
      raise 0x0C03 0 (flaskWho f) [(1, f), (1, 1), (8, s.flushSc f)]])

/-- DEBUG_HOLD_APPLY (R683, R684): at its boundary the oldest change armed for a flask takes effect; a step arms the hold that follows
it. -/
def execDebugHoldApply (flask : FlaskId) (tc : Nat) (s : State) : Host.Outcome State Fault Refusal :=
  run (seq [tcTo tc, rd fun s =>
    let f := flask.val
    match s.dbg.armed.find? (fun a => a.flask == f) with
    | none => nop
    | some a =>
      when (decide (a.at_ ≤ s.tc))
        (seq [upd [.dbg { s.dbg with armed := s.dbg.armed.erase a }],
          (if a.kind = 0 then holdBegin f
           else seq [holdRelease f,
             when (a.kind == 2) (holdArm { a with kind := 0, units := 0, at_ := s.boundaryPlus a.at_ a.units a.pour })]),
          armedBit f, sprSync])]) s

/-- SLOSY_SCAN_CORE (R686): the record of a core of a held flask. -/
def execSlosyScanCore (s : State) : Host.Outcome State Fault Refusal :=
  run (slosyServe 0x40 (fun b => rd fun s =>
    let f := leAt b 0 1
    let l := leAt b 1 1
    let off := leAt b 4 4
    let n := leAt b 8 2
    refuseIf [(decide (f > 15) || !(s.flask f).cores.elem l || n == 0 || decide (n > 1024) || decide (off + n > recordLen), 2),
        (!s.inScope f, 3), (!s.held f || (s.physOf l).isNone, 4), ((s.flask f).isSealed, 5)]
      (match s.physOf l with
       | some p => slosyAnswer 0 (((s.scanRecord p l).drop off).take n)
       | none => nop))) s

/-! Breakpoints (R687, R688). -/

/-- The range of an ADDRESS breakpoint, or the word of a DATA one, meets a sealed flask. -/
def State.bpSealed (s : State) (lo hi : Nat) : Bool :=
  s.liveFlasks.any (fun f =>
    let x := s.flask f
    x.isSealed && (
      (faSpace lo == 1 && decide (faDram lo < (x.baseGib + x.gib) * 2 ^ 30) && decide (x.baseGib * 2 ^ 30 ≤ max (faDram lo) (faDram hi))) ||
      (faSpace lo == 0 && x.cores.any (fun l => decide (faCore lo ≤ l) && decide (l ≤ max (faCore lo) (faCore hi))))))

/-- SLOSY_BP_SET. -/
def execSlosyBpSet (s : State) : Host.Outcome State Fault Refusal :=
  run (slosyServe 0x30 (fun b => rd fun s =>
    let n := leAt b 0 1
    let ctl := leAt b 8 8
    let kind := bitsOf ctl 0 3
    let action := bitsOf ctl 3 2
    let f := bitsOf ctl 8 4
    let lo := leAt b 16 8
    let hi := if kind = 1 then leAt b 24 8 else lo
    refuseIf [(decide (n > 7) || decide (kind > 4) || action == 3 || bitOf ctl 7 || bitsOf ctl 12 20 != 0, 2),
        (action == 2 && !s.inScope f, 3), (action == 2 && s.inPour f, 4), ((kind == 1 || kind == 2) && s.bpSealed lo hi, 5)]
      (seq [regWrite .DBG_BP_CTL_n n (2 ^ 64 - 1) ctl, fset F.DBG_BP_MATCH_n_MATCH n (leAt b 16 8), fset F.DBG_BP_LIMIT_n_LIMIT n (leAt b 24 8),
        upd [.dbg { s.dbg with fired := NSet.del s.dbg.fired n }], slosyAnswer 0 []]))) s

/-- SLOSY_BP_CLEAR. -/
def execSlosyBpClear (s : State) : Host.Outcome State Fault Refusal :=
  run (slosyServe 0x31 (fun b => rd fun s =>
    let n := leAt b 0 1
    refuseIf [(decide (n > 7), 2)]
      (seq [regReset .DBG_BP_CTL_n n, regReset .DBG_BP_MATCH_n n, regReset .DBG_BP_LIMIT_n n, regReset .DBG_BP_HIT_n n,
        upd [.dbg { s.dbg with fired := NSet.del s.dbg.fired n }], slosyAnswer 0 []]))) s

/-- SLOSY_BP_STAT: DBG_BP_HIT_0 to 7. -/
def execSlosyBpStat (s : State) : Host.Outcome State Fault Refusal :=
  run (slosyServe 0x32 (fun _ => rd fun s => slosyAnswer 0 ((List.range 8).flatMap (fun n => natLe 8 (s.regVal .DBG_BP_HIT_n n))))) s

/-- A breakpoint matches (R687). -/
def State.bpMatches (s : State) (n : Nat) (h : BpHit) : Bool :=
  let m := s.fget F.DBG_BP_MATCH_n_MATCH n
  let l := s.fget F.DBG_BP_LIMIT_n_LIMIT n
  match s.fget F.DBG_BP_CTL_n_KIND n with
  | 1 => decide (m / 64 ≤ h.fa / 64) && decide (h.fa / 64 ≤ l / 64) && (if h.write then s.flag F.DBG_BP_CTL_n_WR n else s.flag F.DBG_BP_CTL_n_RD n)
  | 2 => h.write && h.fa / 4 == m / 4 && (h.word &&& l) % 2 ^ 32 == (s.fget F.DBG_BP_CTL_n_VALUE n &&& l) % 2 ^ 32
  | 3 => decide (m ≤ s.tc) && !NSet.mem s.dbg.fired n
  | 4 => (h.code &&& bitsOf m 16 16) % 2 ^ 16 == m % 2 ^ 16
  | _ => false

/-- A hit captured (R688, R694). -/
def bpCapture (n req core fa : Nat) : Eff := rd fun s =>
  let action := s.fget F.DBG_BP_CTL_n_ACTION n
  let f := s.fget F.DBG_BP_CTL_n_FLASK n
  seq [
    fset F.DBG_BP_HIT_n_HIT n 1, fset F.DBG_BP_HIT_n_REQUESTER n req, fset F.DBG_BP_HIT_n_CORE n core, fsat F.DBG_BP_HIT_n_COUNT n 1,
    fset F.DBG_BP_HIT_n_TC_LOW n s.tc, raise 0x0C04 0 nobody [(1, n), (1, req), (1, core), (8, fa), (8, s.tc)],
    when (action == 1) (rd fun s => upd [.dbg { s.dbg with attnUntil := s.tc + 1000 }]),
    when (action == 2 && s.flaskIn f 3 && !s.held f && !s.inPour f && !s.dbg.armed.any (fun a => a.flask == f))
      (holdArm { flask := f, kind := 0, at_ := s.holdPointAfter (s.tc + 3000), pour := false, units := 0 })]

/-- DBG_BP_HIT (R687, R688): an access, a TC or an event is held against a breakpoint. A hit of TC or EVENT has no address: its FA is a
free value. -/
def execDbgBpHit (bp : Fin 8) (hit : BpHit) (tc : Nat) (s : State) : Host.Outcome State Fault Refusal :=
  run (seq [tcTo tc, rd fun s =>
    let n := bp.val
    let kind := s.fget F.DBG_BP_CTL_n_KIND n
    when (s.bpMatches n hit)
      (if kind ≤ 2 then bpCapture n hit.requester.val hit.core.val hit.fa
       else seq [when (kind == 3) (upd [.dbg { s.dbg with fired := NSet.add s.dbg.fired n }]), draw fun v => bpCapture n 0x7F 0xFF (v % 2 ^ 64)])]) s

end Sys2Proof.Machine
end

