-- ==== Sys2Proof/Machine/Grid.lean ====
section
/-! DEFINITION. Accesses to the module from outside: register writes (R17 to R20, R48, R49, R468, R469), accesses by fabric address
(R47), and the host's windows onto DRAM and scratchpad (R50, R51, R541, R653, R654). -/
namespace Sys2Proof.Machine

/-! Registers with an effect of their own. -/

/-- A write of some bits of a register, with the W1C bits that hardware sets in the same cycle (R17, R20). -/
def regWriteHw (r : Reg) (i mask v hw : Nat) : Eff :=
  seq [regWrite r i mask v, rd fun s => upd (r.fields.filterMap (fun f =>
    let x := bitsOf (mask &&& v &&& hw) f.lo f.len
    if f.ty = .w1c ∧ x ≠ 0 then some (.fld f i (s.fget f i ||| x)) else none))]

/-- VALID is cleared, COUNT with it (R59). -/
def faRearm : Eff := seq [fset F.MOD_FA_FAULT_INFO_VALID 0 0, fset F.MOD_FA_FAULT_INFO_COUNT 0 0]

/-- PEAK is reloaded (R64). -/
def peakClear (c : Nat) : Eff := rd fun s => fset F.CLU_THERM_PEAK c (s.fget F.CLU_THERM_TEMP c)

/-- A write of some bits of a register, with what writing it does: the registers of R59, R64, R344, R465, R564, R566, R567, R668 and
R669, and every other one by the types of its fields. -/
def regStore (r : Reg) (i mask v hw : Nat) : Eff := rd fun s =>
  let one (b : Nat) := bitOf (mask &&& v) b
  match r with
  | .MOD_FA_FAULT_INFO => when (one 63) faRearm
  | .CLU_THERM => seq [regWriteHw r i mask v hw, when (one 32) (peakClear i)]
  | .LDL_CTL => each ((List.range 4).filter one) (fun n => ctxAbort i n 3)
  | .MOD_EVR_HEAD_n => when (mask % 2 ^ 32 == 2 ^ 32 - 1) (evrHeadWrite i (v % 2 ^ 32))
  | .PST_TIMER => seq [regWriteHw r i mask v hw, timerTest]
  | .PST_WAKE_EN => seq [regWriteHw r i mask v hw, timerTest]
  | .PST_WAKE_REQ => when (one 0) (latchSet 5)
  | .SAF_SLOT_ROLE => when (!s.flag F.SAF_SLOT_ROLE_LOCK 0) (regWriteHw r i mask v hw)
  | .SAF_SLOT_FLASK => when (!s.flag F.SAF_SLOT_ROLE_LOCK 0) (regWriteHw r i mask v hw)
  | _ => regWriteHw r i mask v hw

/-! BAR0 (R48, R468, R469, R579, R581). -/

/-- Registers that only Rhozel or Slosy write (R344, R690). -/
def hostReadOnly : Reg → Bool
  | .LDL_CTL | .DBG_STAT | .DBG_HOLD | .DBG_BP_MATCH_n | .DBG_BP_LIMIT_n | .DBG_BP_CTL_n | .DBG_BP_HIT_n => true
  | _ => false

/-- The port's function answers memory requests: not in D3hot (R555), its port powered (R541). -/
def State.hostServed (s : State) (p : Nat) : Bool := !(s.hport p).d3hot && s.pstate != 4

/-- A size and alignment that registers and doorbell pages accept. -/
def wordOk (off n : Nat) : Bool := (n == 4 || n == 8) && off % n == 0

/-- An access of a size or alignment that is not accepted (R468). -/
def badSize (p : Nat) : Eff := fsat F.MOD_HOST_ERR_p_BAD_SIZE p 1

/-- A write within a function's MSI-X table (R469), an entry being address, data and Vector Control; a vector that is no longer
masked sends its pending message. -/
def msixTableWrite (p off : Nat) (bs : List Byte) : Eff := rd fun s =>
  let v := off / 16
  let e := s.msixEntry (p * 2048 + v)
  let w := mergeBytes (e.addr + e.data * 2 ^ 64 + b2n e.masked * 2 ^ 96) (off % 16) bs
  seq [onMsixEntry (p * 2048 + v) (fun _ => { addr := bitsOf w 0 64, data := bitsOf w 64 32, masked := bitOf w 96 }), msixDrain p]

/-- A host write to BAR0. -/
def bar0Write (p off : Nat) (bs : List Byte) (hw : Nat) : Eff := rd fun s =>
  let n := bs.length
  if 0xFE0000 ≤ off then
    let o := (off - 0xFE0000) % 0x2000
    if off ≥ 2 ^ 24 ∨ n = 0 ∨ o + n > 0x2000 then badSize p
    else when s.mbServed (mbWrite ((off - 0xFE0000) / 0x2000) o bs)
  else if !wordOk off n then badSize p
  else if 0xF00000 ≤ off ∧ off < 0xF08000 then when s.mbServed (msixTableWrite p (off - 0xF00000) bs)
  else match Reg.atBar0 (off / 8 * 8) with
    | some (r, i) =>
      when ((s.mbServed || r == .MOD_ID || r == .MOD_BOOT_STAT || r == .MOD_BOOT_ERR) && !hostReadOnly r)
        (regStore r i (byteMask (off % 8) n) (leNat bs * 2 ^ (8 * (off % 8))) hw)
    | none => nop

/-- A write to BAR2 (R49, R457): a page of a vacant core, and every page before step 7, is unassigned. -/
def bar2Write (off : Nat) (bs : List Byte) (hw : Nat) : Eff := rd fun s =>
  when (s.mbServed && decide (off < 2 ^ 27) && (s.qPhys (off / 64)).isSome)
    (queueWordWrite (off / 64) (off % 64 / 8) (leNat bs * 2 ^ (8 * (off % 8))) (byteMask (off % 8) bs.length) (bitOf hw 31))

/-- Fields of a function's configuration space (R466, R469): MSI-X Enable, Function Mask, Max Read Request Size by its encoding. -/
def cfgWrite (t : RegTarget) (v : Nat) : Eff :=
  match t with
  | .cfgMsixEnable p => seq [fput F.MOD_HOST_STAT_p_MSIX_EN p.val (bitOf v 0), msixDrain p.val]
  | .cfgFunctionMask p => seq [onHport p.val (fun h => { h with funcMask := bitOf v 0 }), msixDrain p.val]
  | .cfgMaxRead p => when (decide (v ≤ 5)) (onHport p.val (fun h => { h with mrrs := 128 * 2 ^ v }))
  | _ => nop

/-- REGISTER_WRITE (R17, R18, R20): by the host through a port, by an access by fabric address that passed R47, by Slosy, which reaches
RW fields only (R682), or by Crucible. A register with a row of its own acts as that row says. -/
def execRegisterWrite (src : Src) (tgt : RegTarget) (data : List Byte) (hwSet : Word) (s : State) : Host.Outcome State Fault Refusal :=
  run (rd fun s =>
    let hw := hwSet.toNat
    let at_ (off : Nat) (k : Reg → Nat → Nat → Nat → Eff) : Eff :=
      when (wordOk off data.length) (match Reg.atBar0 (off / 8 * 8) with
        | some (r, i) => k r i (byteMask (off % 8) data.length) (leNat data * 2 ^ (8 * (off % 8)))
        | none => nop)
    match src, tgt with
    | .host p, .bar0 off => when (s.hostServed p.val) (bar0Write p.val off data hw)
    | .host p, .bar2 off => when (s.hostServed p.val) (either (wordOk off data.length) (bar2Write off data hw) (badSize p.val))
    | .host _, t => cfgWrite t (leNat data)
    | .fabric, .bar0 off => at_ off (fun r i m v => when (r.visible && decide (0x400000 ≤ off)) (regStore r i m v hw))
    | .slosy, .bar0 off => at_ off (fun r i m v => when r.visible (regWriteRw r i m v))
    | .crucible, .bar0 off => at_ off (fun r i m v => regStore r i m v hw)
    | _, .bar2 off => when (wordOk off data.length) (bar2Write off data hw)
    | _, _ => nop) s

/-- PEAK_CLR (R64). -/
def execPeakClr (cluster : ClusterId) (s : State) : Host.Outcome State Fault Refusal := run (peakClear cluster.val) s

/-- APERTURE_DENIED_READ (R17, R60): the register is delivered and DENIED cleared in the same read. -/
def execApertureDeniedRead (s : State) : Host.Outcome State Fault Refusal :=
  run (rd fun s => either s.mbServed
    (seq [answer (natLe 8 (s.regVal .MOD_APERTURE_CTL 0)) false 0, regReadClears .MOD_APERTURE_CTL 0 0 64])
    (answer (natLe 8 0) false 0)) s

/-! Accesses by fabric address (R45 to R47). -/

/-- An access that names this module is checked and served; its requester is answered. -/
def fabricServe (req : FabricReq) : Eff := rd fun s =>
  when (faModule req.fa == s.module)
    (serve { crucible := req.crucible, flask := req.flask.map (fun f => f.val), tag := req.pourTag } req.fa req.op req.counter req.poison
      0 0 answer)

/-- FABRIC_ACCESS (R47). -/
def execFabricAccess (req : FabricReq) (s : State) : Host.Outcome State Fault Refusal := run (fabricServe req) s

/-- FA_FAULT_VALID_CLEAR (R59): an access that fails its checks in the same cycle is captured anew, so that VALID stays set. -/
def execFaFaultValidClear (fault : Option FabricReq) (s : State) : Host.Outcome State Fault Refusal :=
  run (seq [faRearm, match fault with | some r => fabricServe r | none => nop]) s

/-! BAR4 (R50, R51, R468, R541, R653, R654). -/

/-- BAR4 reaches memories: from the end of step 10 (R581), in RUN and IDLE (R541). -/
def State.bar4Open (s : State) : Bool := [5, 6, 7, 9].elem (s.fget F.MOD_BOOT_STAT_STAGE 0) && s.inService

/-- Some live sealed flask's region meets a DRAM range (R654). -/
def State.sealedMeets (s : State) (off n : Nat) : Bool :=
  s.liveFlasks.any (fun f => (s.flask f).isSealed && rangesMeet off n ((s.flask f).baseGib * 2 ^ 30) ((s.flask f).gib * 2 ^ 30))

/-- A DRAM range lies in one sealed range (R656). -/
def State.weightHolds (s : State) (off n : Nat) : Bool :=
  s.saf.keys.any (fun k => within off n ((s.flask k.flask).baseGib * 2 ^ 30 + k.base) k.len)

/-- An access that the controls refuse: Rhozel's reserve (R653), a sealed region but for writes into its sealed ranges (R654). -/
def State.hostDenied (s : State) (off n : Nat) (write : Bool) : Bool :=
  rangesMeet off n (1264 * 2 ^ 30) (16 * 2 ^ 30) || (s.sealedMeets off n && !(write && s.weightHolds off n))

/-- HOST_DRAM_ACCESS: a read of `len` bytes or a write of `data`. Where no DRAM lies, and where the access is refused, a read returns 0
and a write is discarded. -/
def execHostDramAccess (port : HostId) (off len : Nat) (data : Option (List Byte)) (s : State) : Host.Outcome State Fault Refusal :=
  run (rd fun s =>
    let n := match data with | some b => b.length | none => len
    let here := min n (dramSize - off)
    let zero : Eff := when data.isNone (answer (List.replicate len 0) false 0)
    when (s.hostServed port.val)
      (if !s.bar4Open || here == 0 then zero
       else if s.hostDenied off here data.isSome then
         seq [fsat F.SAF_ERR_HOST_DENIED 0 1, raise 0x0908 0 nobody [(1, port.val), (8, off)], zero]
       else when (s.dramOpen off here)
         (match data with
          | some b => dramWrite off (b.take here) false
          | none => seq [dramRead off here none,
              either (s.dramPoisoned off here)
                (seq [fsat F.MOD_HOST_ERR_p_POISON_RD port.val 1, answer (List.replicate len 0) true 0])
                (answer (s.dramRd off here ++ List.replicate (len - here) 0) false 0)]))) s

/-- Pieces (offset, bytes) of a byte range, one for each line it touches. -/
def linePieces (off n : Nat) : List (Nat × Nat) :=
  (touched 64 off n).map (fun l => (max off (l * 64), min (off + n) (l * 64 + 64) - max off (l * 64)))

/-- Aperture bytes as elastic reads find them, with their poison (R265, R267). -/
def State.apertureRd (s : State) (p off n : Nat) : List Byte × Bool :=
  let parts := (linePieces off n).map (fun x => s.gatherRead p x.1 x.2)
  (parts.flatMap (fun x => x.1), parts.any (fun x => x.2))

/-- Aperture bytes stored as elastic writes: whole lines directly, the rest through the gather buffer. -/
def apertureWr (p off : Nat) (bs : List Byte) : Eff :=
  each (linePieces off bs.length) (fun x =>
    let b := (bs.drop (x.1 - off)).take x.2
    either (x.2 == 64) (lineWrite p x.1 b false) (gatherWrite p x.1 b false))

/-- APERTURE_ACCESS (R51, R60, R541, R654): closed, or to a core of a sealed flask, an access is refused and counted, as is a write
while WR_EN is 0. Bytes past the core's scratchpad are not reached. -/
def execApertureAccess (port : HostId) (core : CoreId) (off : BitVec 28) (len : Nat) (data : Option (List Byte)) (s : State) :
    Host.Outcome State Fault Refusal :=
  run (rd fun s =>
    let p := core.val
    let n := min (match data with | some b => b.length | none => len) (2 ^ 28 - off.toNat)
    let zero : Eff := when data.isNone (answer (List.replicate len 0) false 0)
    let closed := !s.flag F.MOD_APERTURE_CTL_EN 0 || (data.isSome && !s.flag F.MOD_APERTURE_CTL_WR_EN 0) ||
      (match s.flaskOf p with | some f => (s.flask f).isSealed | none => false)
    when (s.hostServed port.val)
      (if !s.bar4Open then zero
       else if closed then seq [fsat F.MOD_APERTURE_CTL_DENIED 0 1, zero]
       else match data with
         | some b => apertureWr p off.toNat (b.take n)
         | none =>
           let r := s.apertureRd p off.toNat n
           answer (if r.2 then List.replicate len 0 else r.1 ++ List.replicate (len - n) 0) r.2 0)) s

end Sys2Proof.Machine
end

