-- ==== Sys2Proof/Machine/Matrix.lean ====
section
/-! DEFINITION. Matrix engines (R126 to R166): the commands. -/
namespace Sys2Proof.Machine

/-- A matrix engine of a core. -/
def meOf (core : CoreId) (engine : Fin 64) : Eng := ⟨core.val, false, engine.val⟩

/-- ME_MMA_START (R129, R136 to R143): the descriptor next in a quadrant's queue starts; operands are read, its cells
accumulate in its bank, products gated and cycles held are counted. Quadrant 0 names the engine in full shape. -/
def execMeMmaStart (core : CoreId) (engine : Fin 64) (quad : Fin 4) (faults : EngFaults) (s : State) :
    Host.Outcome State Fault Refusal :=
  let u := meOf core engine
  run (engStart u quad.val faults (fun _ _ gated => rd fun s => when (!s.flag F.ME_CTL_GATE_DIS u.key) (fadd F.ME_GATED_COUNT u.key gated))) s

/-- ME_DRAIN (R137, R138, R147 to R153): the oldest tile of a quadrant drains or is held. -/
def execMeDrain (core : CoreId) (engine : Fin 64) (quad : Fin 4) (faults : EngFaults) (s : State) :
    Host.Outcome State Fault Refusal :=
  run (engDrain (meOf core engine) quad.val faults) s

/-- ME_LOAD_A_START (R142): the oldest LOAD_A moves its lines into the A buffer. -/
def execMeLoadAStart (core : CoreId) (engine : Fin 64) (s : State) : Host.Outcome State Fault Refusal :=
  run (loadAStart (meOf core engine)) s

end Sys2Proof.Machine
end

