-- ==== Sys2Proof/Machine/Service.lean ====
section
/-! DEFINITION. Reference clocks, the test access port and the life count (R701, R703, R709, R710). -/
namespace Sys2Proof.Machine

/-! The system reference (R701). -/

/-- REFCLK_LOST: the PLLs hold their frequency; told once. -/
def execRefclkLost (tc : Nat) (s : State) : Host.Outcome State Fault Refusal :=
  run (seq [tcTo tc, rd fun s =>
    when s.svc.refLost.isNone (seq [upd [.svc { s.svc with refLost := some s.tc }], raise 0x0B09 0 nobody [(1, 0)]])]) s

/-- REFCLK_BACKUP_SWITCH: 1 s after the loss the PLLs move to the backup oscillator. -/
def execRefclkBackupSwitch (tc : Nat) (s : State) : Host.Outcome State Fault Refusal :=
  run (seq [tcTo tc, rd fun s =>
    match s.svc.refLost with
    | some t => when (decide (t + 1000000000 ≤ s.tc)) (upd [.svc { s.svc with backup := true }])
    | none => nop]) s

/-- REFCLK_RESTORED: the PLLs move back. -/
def execRefclkRestored (tc : Nat) (s : State) : Host.Outcome State Fault Refusal :=
  run (seq [tcTo tc, rd fun s =>
    when s.svc.refLost.isSome
      (seq [upd [.svc { s.svc with refLost := none, backup := false }], raise 0x0B09 0 nobody [(1, 1)]])]) s

/-! The test access port (R703). -/

/-- An instruction enters the instruction register; leaving EXTEST starts a module reset, RESET_N being high. -/
def tapLoad (ir : TapIr) (env : BootEnv) (tc : Nat) : Eff := rd fun s =>
  let leaves := s.svc.tap == .extest && ir != .extest
  seq [upd [.svc { s.svc with tap := ir }],
    when leaves (seq [tcTo tc, clearAll (storeRegs ++ aniseRegs ++ [Reg.TC_NOW.ix]), lifecycleBack, fset F.MOD_RESET_STAT_LAST 0 1, bootFull env])]

/-- TAP_BYPASS; outside MANUFACTURE every instruction but the four reads as it. -/
def execTapBypass (env : BootEnv) (tc : Nat) (s : State) : Host.Outcome State Fault Refusal := run (tapLoad .bypass env tc) s

/-- IDCODE (R703). -/
def idcode : Nat := 3 * 2 ^ 28 + 0x0020 * 2 ^ 12 + Config.jedecId % 2 ^ 11 * 2 + 1

/-- TAP_IDCODE: the identity is shifted out. -/
def execTapIdcode (env : BootEnv) (tc : Nat) (s : State) : Host.Outcome State Fault Refusal :=
  run (seq [tapLoad .idcode env tc, answer (natLe 4 idcode) false 0]) s

/-- Bits as bytes, the first bit lowest. -/
def bitsLe : List Bool → Nat
  | [] => 0
  | b :: t => b2n b + 2 * bitsLe t

/-- TAP_SAMPLE_PRELOAD: the pins' levels are captured and shifted out, the cells preloaded. -/
def execTapSamplePreload (pins preload : List Bool) (env : BootEnv) (tc : Nat) (s : State) : Host.Outcome State Fault Refusal :=
  run (seq [tapLoad .sample env tc, rd fun s => upd [.svc { s.svc with cells := preload }],
    answer (natLe ((pins.length + 7) / 8) (bitsLe pins)) false 0]) s

/-- TAP_EXTEST: compute enters compute-only reset and stays in it; the pins follow the cells. -/
def execTapExtest (env : BootEnv) (tc : Nat) (s : State) : Host.Outcome State Fault Refusal :=
  run (rd fun s => seq [tapLoad .extest env tc,
    when (s.svc.tap != .extest) (seq [tcTo tc, fset F.MOD_RESET_STAT_IN_PROGRESS 0 1, when (s.flag F.MOD_BOOT_STAT_READY 0) (fset F.MOD_BOOT_STAT_STAGE 0 9),
      computeStop])]) s

/-! The design life (R709, R710). -/

/-- Bit by bit from bit `n - 1` down, the largest number whose hundredth power is not above `x`. -/
def root100 (x : Nat) : Nat → Nat → Nat
  | 0, r => r
  | n + 1, r => root100 x n (if (r + 2 ^ n) ^ 100 ≤ x then r + 2 ^ n else r)

/-- Equivalent hours of one hour, in units of 2⁻³² h rounded down: 2^((Tj − 85) / 10), Tj in tenths of a degree, by half as much again
for an hour mostly at P-steps 13 to 15. -/
def lifeHour (tj10 : Int) (fast : Bool) : Nat :=
  let h := root100 (2 ^ (3200 + tj10 - 850).toNat) 64 0
  if fast then h * 3 / 2 else h

/-- LIFE_HOUR (R709, R710): the counts advance by an hour; 87,600 equivalent hours are told once. The warning names no location. -/
def execLifeHour (tj10 : Int) (fast : Bool) (tc : Nat) (s : State) : Host.Outcome State Fault Refusal :=
  run (seq [tcTo tc, rd fun s =>
    let f := s.svc.lifeFrac + lifeHour tj10 fast
    seq [upd [.svc { s.svc with lifeFrac := f % 2 ^ 32 }], fsat F.MOD_LIFE_EQ_HOURS 0 (f / 2 ^ 32), fsat F.MOD_LIFE_POWER_HOURS 0 1,
      rd fun s =>
        let h := s.fget F.MOD_LIFE_EQ_HOURS 0
        when (decide (h ≥ 87600) && !s.svc.lifeWarned)
          (seq [upd [.svc { s.svc with lifeWarned := true }], draw (fun v => raise 0x0A08 0 nobody [(1, 9), (4, v), (4, h)])])]]) s

end Sys2Proof.Machine
end

