-- ==== Sys2Proof/Machine/Sideband.lean ====
section
/-! DEFINITION. The management sideband beside Rhozel's own messages (R579, R593, R594, R647, R648, R702): PLDM firmware update,
PLDM sensors, MCTP control, the I3C address, SPDM. A response's completion or error code is the status of the answer, 0 for success;
the response holds the fields the rules name. -/
namespace Sys2Proof.Machine

/-- The stage of the boot (R601). -/
def State.stage (s : State) : Nat := s.fget F.MOD_BOOT_STAT_STAGE 0

/-- An answer with a completion code alone. -/
def code (n : Nat) : Eff := answer [] false n

/-! PLDM for Firmware Update (R593): the states are those of DSP0267, 0 idle, 1 learn components, 2 ready to transfer, 3 download,
4 verify, 5 apply, 6 activate. -/

/-- Firmware update is served: from step 7, and in RECOVERY (R579). -/
def State.pldmServed (s : State) : Bool := s.mbServed || s.stage == 8

/-- The update changes. -/
def onPldm (f : PldmSt → PldmSt) : Eff := rd fun s => upd [.boot { s.boot with pldm := f s.boot.pldm }]

/-- A request that needs one of some states: without an update NOT_IN_UPDATE_MODE, in another state INVALID_STATE_FOR_COMMAND. -/
def inUpdate (states : List Nat) (e : Eff) : Eff := rd fun s =>
  when s.pldmServed
    (if states.elem s.boot.pldm.state then e else code (if s.boot.pldm.state = 0 then 0x80 else 0x84))

/-- The one component: classification 0x000A, identifier 0x0001. -/
def isRhozel (cls ident : Nat) : Bool := cls == 0x000A && ident == 0x0001

/-- PLDM_QUERY_DEVICE_IDS: one device; its descriptors are a free value. -/
def execPldmQueryDeviceIds (s : State) : Host.Outcome State Fault Refusal :=
  run (rd fun s => when s.pldmServed (draw fun v => answer (natLe 8 v) false 0)) s

/-- PLDM_GET_FW_PARAMETERS: the component and the running version. -/
def execPldmGetFwParameters (s : State) : Host.Outcome State Fault Refusal :=
  run (rd fun s => when s.pldmServed (answer (natLe 2 0x000A ++ natLe 2 0x0001 ++ natLe 4 s.boot.fwVersion) false 0)) s

/-- PLDM_REQUEST_UPDATE: retried while a mailbox command of class 0x06 runs. -/
def execPldmRequestUpdate (transfer : Nat) (s : State) : Host.Outcome State Fault Refusal :=
  run (rd fun s => when s.pldmServed
    (if s.boot.pldm.state ≠ 0 then code 0x81
     else if !(s.slotsRunning (fun m => m.cmd / 256 == 6)).isEmpty then code 0x8E
     else seq [onPldm (fun _ => { PldmSt.idle with state := 1, transfer := min transfer 4096 }), code 0])) s

/-- PLDM_PASS_COMPONENT_TABLE: a component is named; the last one ends the table. -/
def execPldmPassComponentTable (cls ident : BitVec 16) (last : Bool) (s : State) : Host.Outcome State Fault Refusal :=
  run (inUpdate [1] (seq [when last (onPldm (fun p => { p with state := 2 })),
    answer (natLe 1 (b2n (!isRhozel cls.toNat ident.toNat))) false 0])) s

/-- The device asks for the next bytes of the image (RequestFirmwareData), or reports the end of the transfer. -/
def pldmAsk : Eff := rd fun s =>
  let p := s.boot.pldm
  if p.image.length < p.size then send toSideband .sideband [0x15, p.image.length, min p.transfer (p.size - p.image.length)]
  else send toSideband .sideband [0x16, 0]

/-- PLDM_UPDATE_COMPONENT: the transfer of the component's image starts. -/
def execPldmUpdateComponent (cls ident : BitVec 16) (size : BitVec 32) (s : State) : Host.Outcome State Fault Refusal :=
  run (inUpdate [2]
    (either (isRhozel cls.toNat ident.toNat)
      (seq [onPldm (fun p => { p with state := 3, size := size.toNat, image := [], result := 0 }), answer (natLe 1 0) false 0, pldmAsk])
      (answer (natLe 1 1) false 0))) s

/-- Verification (R577, R591): the result of VerifyComplete is 0, 0x90 + the reject code, or 0x01 where the slot does not read back. In
RECOVERY the image goes to slot A (R579). -/
def pldmVerify (sig readBack : Bool) : Eff := rd fun s =>
  let p := s.boot.pldm
  let n := p.image
  let check := s.fwCheck n p.size sig
  let res := match check with | some r => 0x90 + r.1 | none => if readBack then 0 else 1
  seq [onPldm (fun p => { p with state := 4, result := res }),
    (match check with
     | some r => fwReject 3 r
     | none => when readBack (seq [fset F.MOD_BOOT_ERR_REJECT_LAST 0 0,
         if s.stage = 8 then upd [.boot { s.boot with slotA := n, pldm := { p with state := 4, result := 0 } }] else fwStore n])),
    send toSideband .sideband [0x17, res]]

/-- The image accepted in RECOVERY is made ACTIVE with TRIAL 1 and booted, whatever the FORCE_RECOVERY strap was sampled as (R579, R698). -/
def recoveryBoot (env : BootEnv) : Eff := rd fun s =>
  let forced := s.svc.forceRecovery
  let n := s.boot.slotA.length
  seq [dirWrite (fun d => { d with active := 0, trial := 1, staged := 0xFF, rejected := clrBit d.rejected 0, lenA := n }),
    onPldm (fun _ => PldmSt.idle),
    rd fun s => upd [.svc { s.svc with forceRecovery := false }], bootFull env,
    rd fun s => upd [.svc { s.svc with forceRecovery := forced }]]

/-- PLDM_FIRMWARE_DATA: the update agent answers the device's last request. Image bytes join the image; the acknowledgement of
TransferComplete starts the verification, of VerifyComplete the apply, of ApplyComplete ends it. -/
def execPldmFirmwareData (data : List Byte) (signatureOk readBackOk : Bool) (env : BootEnv) (s : State) : Host.Outcome State Fault Refusal :=
  run (rd fun s =>
    let p := s.boot.pldm
    when s.pldmServed
      (if p.state = 3 then
        (if p.image.length < p.size then
           seq [onPldm (fun p => { p with image := p.image ++ data.take (min p.transfer (p.size - p.image.length)) }), pldmAsk]
         else pldmVerify signatureOk readBackOk)
       else if p.state = 4 ∧ p.result = 0 then seq [onPldm (fun p => { p with state := 5 }), send toSideband .sideband [0x18, 0]]
       else if p.state = 5 then either (s.stage == 8) (recoveryBoot env) (onPldm (fun p => { p with state := 2 }))
       else nop)) s

/-- PLDM_ACTIVATE_FIRMWARE: as MB_FW_ACTIVATE with MODE 0; the update ends. -/
def execPldmActivateFirmware (selfContained : Bool) (s : State) : Host.Outcome State Fault Refusal :=
  run (inUpdate [2] (rd fun s =>
    if selfContained then code 0x8C
    else if s.boot.dir.staged = 0xFF then code 0x85
    else seq [fwActivate, onPldm (fun _ => PldmSt.idle), code 0])) s

/-- PLDM_GET_STATUS: the state of the update. -/
def execPldmGetStatus (s : State) : Host.Outcome State Fault Refusal :=
  run (rd fun s => when s.pldmServed (answer (natLe 1 s.boot.pldm.state) false 0)) s

/-- PLDM_CANCEL_UPDATE_COMPONENT. -/
def execPldmCancelUpdateComponent (s : State) : Host.Outcome State Fault Refusal :=
  run (inUpdate [3, 4, 5] (seq [onPldm (fun p => { p with state := 2, size := 0, image := [], result := 0 }), code 0])) s

/-- PLDM_CANCEL_UPDATE. -/
def execPldmCancelUpdate (s : State) : Host.Outcome State Fault Refusal :=
  run (inUpdate [1, 2, 3, 4, 5] (seq [onPldm (fun _ => PldmSt.idle), code 0])) s

/-! PLDM sensors (R594). -/

/-- The reading of a numeric sensor: W, 0.01 V, °C. -/
def State.sensor (s : State) (id : Nat) : Option Nat :=
  match id with
  | 0x0001 => some (s.fget F.PWR_INPUT_PIN 0)
  | 0x0002 => some (s.fget F.PWR_INPUT_VIN 0)
  | 0x0003 => some (s.fget F.PWR_THERM_TJ_MAX 0)
  | 0x0004 => some (s.fget F.PWR_THERM_THBM_MAX 0)
  | _ => none

/-- PLDM_GET_SENSOR_READING: an ID that names no numeric sensor is answered INVALID_SENSOR_ID. -/
def execPldmGetSensorReading (sensor : BitVec 16) (s : State) : Host.Outcome State Fault Refusal :=
  run (rd fun s => when s.mbServed (match s.sensor sensor.toNat with | some v => answer (natLe 4 v) false 0 | none => code 0x80)) s

/-- PLDM_GET_STATE_SENSOR_READINGS: the boot stage. -/
def execPldmGetStateSensorReadings (sensor : BitVec 16) (s : State) : Host.Outcome State Fault Refusal :=
  run (rd fun s => when s.mbServed (either (sensor.toNat == 0x0010) (answer (natLe 1 s.stage) false 0) (code 0x80))) s

/-- PLDM_GET_PDR: the record of a sensor in table order, handle 0 being the first: its sensor ID; the rest of the record is a free value. -/
def execPldmGetPdr (handle : BitVec 32) (s : State) : Host.Outcome State Fault Refusal :=
  run (rd fun s => when s.mbServed
    (match [0x0001, 0x0002, 0x0003, 0x0004, 0x0010][handle.toNat - 1]? with
     | some id => draw fun v => answer (natLe 2 id ++ natLe 8 v) false 0
     | none => code 0x82)) s

/-! MCTP control and the I3C address (R583, R702). -/

/-- MCTP_CONTROL: Set Endpoint ID (1), Get Endpoint ID (2), Get Message Type Support (5); version and UUID (3, 4) are free values; any
other command is answered unsupported. Served by the ROM stage from step 3 (R583). -/
def execMctpControl (command : BitVec 8) (eid : BitVec 8) (s : State) : Host.Outcome State Fault Refusal :=
  run (rd fun s => when (decide (s.stage ≥ 1))
    (match command.toNat with
     | 1 => if eid.toNat = 0 ∨ eid.toNat = 0xFF then code 2 else seq [upd [.svc { s.svc with eid := eid.toNat }], answer (natLe 1 eid.toNat) false 0]
     | 2 => answer (natLe 1 s.svc.eid) false 0
     | 3 => draw fun v => answer (natLe 16 v) false 0
     | 4 => draw fun v => answer (natLe 4 v) false 0
     | 5 => answer [0x00, 0x01, 0x05, 0x06, 0x7E] false 0
     | _ => code 5)) s

/-- The sideband target acknowledges on I3C: SB_MODE 1, and Crucible serves it. -/
def State.i3cServed (s : State) : Bool := s.svc.i3c && decide (s.stage ≥ 1)

/-- I3C_SETDASA: the static address 0x48 + SB_ADDR receives a dynamic address (R698). -/
def execI3cSetdasa (static dynamic : Fin 128) (s : State) : Host.Outcome State Fault Refusal :=
  run (rd fun s => when (s.i3cServed && s.svc.dynAddr.isNone && static.val == 0x48 + s.svc.sbAddr) (upd [.svc { s.svc with dynAddr := some dynamic.val }])) s

/-- I3C_ENTDAA: a target without a dynamic address receives one. -/
def execI3cEntdaa (dynamic : Fin 128) (s : State) : Host.Outcome State Fault Refusal :=
  run (rd fun s => when (s.i3cServed && s.svc.dynAddr.isNone) (upd [.svc { s.svc with dynAddr := some dynamic.val }])) s

/-! SPDM (R647, R648). The error codes are those of DSP0274: 0x01 invalid request, 0x02 invalid session, 0x04 unexpected request,
0x06 decrypt error, 0x0A session limit exceeded. -/

/-- A request that needs an SPDM connection at a point (1 version, 2 capabilities, 3 algorithms). -/
def spdmAt (p : Nat) (e : Eff) : Eff := rd fun s => when s.mbServed (either (decide (s.saf.spdm ≥ p)) e (code 4))

/-- A request within a completed session. -/
def inSession (id : Nat) (e : Eff) : Eff := rd fun s => when s.mbServed (either (s.isSecured (some id)) e (code 2))

/-- SPDM_GET_VERSION: 1.2; negotiation starts again. -/
def execSpdmGetVersion (s : State) : Host.Outcome State Fault Refusal :=
  run (rd fun s => when s.mbServed (seq [upd [.saf { s.saf with spdm := 1 }], answer (natLe 1 0x12) false 0])) s

/-- SPDM_GET_CAPABILITIES: CERT, CHAL, MEAS with signature, ENCRYPT, MAC, KEY_EX, HBEAT, KEY_UPD. -/
def execSpdmGetCapabilities (s : State) : Host.Outcome State Fault Refusal :=
  run (spdmAt 1 (rd fun s => either (s.saf.spdm == 1) (seq [upd [.saf { s.saf with spdm := 2 }], answer (natLe 4 0x62D6) false 0]) (code 4))) s

/-- SPDM_NEGOTIATE_ALGORITHMS: ECDSA P-384, SHA-384, secp384r1, AES-256-GCM, measurement hash SHA-384, or, when the requester offers
less, an invalid request. -/
def execSpdmNegotiateAlgorithms (supported : Bool) (s : State) : Host.Outcome State Fault Refusal :=
  run (spdmAt 2 (rd fun s =>
    if s.saf.spdm ≠ 2 then code 4
    else either supported
      (seq [upd [.saf { s.saf with spdm := 3 }], answer (natLe 4 0x80 ++ natLe 4 0x02 ++ natLe 2 0x10 ++ natLe 2 0x02 ++ natLe 4 0x04) false 0])
      (code 1))) s

/-- SPDM_GET_DIGESTS: slot 0; the digest of the certificate chain is a free value. -/
def execSpdmGetDigests (s : State) : Host.Outcome State Fault Refusal :=
  run (spdmAt 3 (draw fun v => answer (natLe 1 1 ++ natLe 48 v) false 0)) s

/-- SPDM_GET_CERTIFICATE: slot 0 only; the chain's bytes are a free value. -/
def execSpdmGetCertificate (certSlot : Fin 8) (length : BitVec 16) (s : State) : Host.Outcome State Fault Refusal :=
  run (spdmAt 3 (either (certSlot.val == 0) (draw fun v => answer (natLe length.toNat v) false 0) (code 1))) s

/-- SPDM_CHALLENGE: slot 0, signed with the Alias key; the signature is a free value. -/
def execSpdmChallenge (certSlot : Fin 8) (s : State) : Host.Outcome State Fault Refusal :=
  run (spdmAt 3 (either (certSlot.val == 0) (draw fun v => answer (natLe 96 v) false 0) (code 1))) s

/-- The blocks of R648 that the module's state fixes; digests of what the state does not hold are free values. -/
def State.measurement (s : State) (index free : Nat) : Option (List Byte) :=
  match index with
  | 1 => some (natLe 48 free)
  | 2 => some (natLe 48 (Config.sha384 s.boot.image))
  | 3 => some (natLe 4 s.boot.fwSvn ++ natLe 4 (s.fget F.SAF_STAT_MIN_SVN 0))
  | 4 => some (natLe 1 (s.fget F.SAF_STAT_LIFECYCLE 0) ++ natLe 1 s.dbgLevel)
  | 5 => some (natLe 48 free)
  | 6 => some (natLe 48 free)
  | 7 => some (natLe 1 (s.fget F.SAF_STAT_TAMPER 0) ++ natLe 4 (s.fget F.SAF_TAMPER_NEWEST 0))
  | 8 => some (natLe 97 (if s.flag F.SAF_STAT_RELEASE_KEY 0 then Config.releasePoint s.saf.drawn else free))
  | n =>
    if n < 16 ∨ 32 ≤ n then none
    else
      let x := s.flask (n - 16)
      some (if x.live && x.active.present then natLe 48 free ++ natLe 16 x.active.id ++ natLe 1 (b2n x.isSealed) else natLe 65 0)

/-- SPDM_GET_MEASUREMENTS: index 0 asks for the number of blocks. -/
def execSpdmGetMeasurements (index : BitVec 8) (s : State) : Host.Outcome State Fault Refusal :=
  run (spdmAt 3 (draw fun v => rd fun s =>
    if index.toNat = 0 then answer (natLe 1 24) false 0
    else match s.measurement index.toNat v with
      | some b => draw fun g => answer (b ++ natLe 96 g) false 0
      | none => code 1)) s

/-- SPDM_KEY_EXCHANGE: a session of the identifier agreed opens its handshake; at most 4 at once. -/
def execSpdmKeyExchange (id : BitVec 32) (s : State) : Host.Outcome State Fault Refusal :=
  run (spdmAt 3 (rd fun s =>
    if s.saf.sessions.length ≥ 4 then code 0x0A
    else if s.saf.sessions.any (fun x => x.id == id.toNat) then code 1
    else seq [upd [.saf { s.saf with sessions := s.saf.sessions ++ [{ id := id.toNat, done := false }] }],
      draw fun v => answer (natLe 96 v) false 0])) s

/-- SPDM_FINISH: the requester's verification data decides whether the session is complete. -/
def execSpdmFinish (id : BitVec 32) (verified : Bool) (s : State) : Host.Outcome State Fault Refusal :=
  run (spdmAt 3 (rd fun s =>
    let l := s.saf.sessions
    if !l.any (fun x => x.id == id.toNat && !x.done) then code 2
    else either verified
      (seq [upd [.saf { s.saf with sessions := l.map (fun x => if x.id = id.toNat then { x with done := true } else x) }], code 0])
      (seq [upd [.saf { s.saf with sessions := l.filter (fun x => x.id != id.toNat) }], code 6]))) s

/-- SPDM_HEARTBEAT. -/
def execSpdmHeartbeat (id : BitVec 32) (s : State) : Host.Outcome State Fault Refusal := run (inSession id.toNat (code 0)) s

/-- SPDM_KEY_UPDATE: the session's keys, which never leave Saffron, move on. -/
def execSpdmKeyUpdate (id : BitVec 32) (s : State) : Host.Outcome State Fault Refusal := run (inSession id.toNat (code 0)) s

/-- SPDM_END_SESSION. -/
def execSpdmEndSession (id : BitVec 32) (s : State) : Host.Outcome State Fault Refusal :=
  run (inSession id.toNat (rd fun s => seq [upd [.saf { s.saf with sessions := s.saf.sessions.filter (fun x => x.id != id.toNat) }], code 0])) s

end Sys2Proof.Machine
end

