-- ==== Sys2Proof/Machine/Sparse.lean ====
section
/-! DEFINITION. Sparse engines (R167 to R179): the commands. -/
namespace Sys2Proof.Machine

/-- A sparse engine of a core. -/
def seOf (core : CoreId) (engine : Fin 8) : Eng := ⟨core.val, true, engine.val⟩

/-- Some metadata of a compressed tile is faulty (R170): a unit whose bits can be read and break the rule of its form. -/
def metaFaulty (d : Desc) (sp : Store) : Bool :=
  let w := if d.form = 1 then 4 else 32
  (List.range (d.k / w * d.n)).any (fun i =>
    let m := sp.elem d.metaAddr w i
    !m.2 && (if d.form = 1 then decide (m.1 % 4 ≥ m.1 / 4) else decide (popBelow m.1 32 > d.nnz)))

/-- The elements of a tile's B that are not stored. -/
def unstored (d : Desc) (sp : Store) : Nat :=
  (List.range d.k).foldl (fun c k => (List.range d.n).foldl (fun c j => match slotOf d sp k j with | some none => c + 1 | _ => c) c) 0

/-- SE_SMMA_START (R170 to R174, R177, R178): the descriptor next in the queue starts; faulty metadata is reported, and
products skipped are counted. -/
def execSeSmmaStart (core : CoreId) (engine : Fin 8) (faults : EngFaults) (s : State) : Host.Outcome State Fault Refusal :=
  let u := seOf core engine
  run (engStart u 0 faults (fun d sp _ => rd fun s =>
    seq [fadd F.SE_SKIPPED_COUNT u.key (16 * unstored d sp),
      when (metaFaulty d sp)
        (if d.form = 1 then seq [fset F.SE_ERR_META u.key 1, raise 0x0207 1 (s.who u.core u.unit) []]
         else seq [fset F.SE_ERR_OVERRUN u.key 1, raise 0x0208 1 (s.who u.core u.unit) []])])) s

/-- SE_DRAIN (R177 to R179): the oldest tile drains or is held. -/
def execSeDrain (core : CoreId) (engine : Fin 8) (faults : EngFaults) (s : State) : Host.Outcome State Fault Refusal :=
  run (engDrain (seOf core engine) 0 faults) s

/-- SE_LOAD_A_START (R178): the oldest LOAD_A moves its lines into the A buffer. -/
def execSeLoadAStart (core : CoreId) (engine : Fin 8) (s : State) : Host.Outcome State Fault Refusal :=
  run (loadAStart (seOf core engine)) s

end Sys2Proof.Machine
end

