-- ==== Sys2Proof/Machine/Dispatch.lean ====
section
/-! DEFINITION. The dispatcher: one arm per command. -/
namespace Sys2Proof.Machine

def exec (i : Instr) (s : State) : Host.Outcome State Fault Refusal :=
  match i with
  | .registerWrite src tgt data hwSet => Sys2Proof.Machine.execRegisterWrite src tgt data hwSet s
  | .faFaultValidClear fault => Sys2Proof.Machine.execFaFaultValidClear fault s
  | .apertureDeniedRead => Sys2Proof.Machine.execApertureDeniedRead s
  | .peakClr cluster => Sys2Proof.Machine.execPeakClr cluster s
  | .fabricAccess req => Sys2Proof.Machine.execFabricAccess req s
  | .hostDramAccess port off len data => Sys2Proof.Machine.execHostDramAccess port off len data s
  | .apertureAccess port core off len data => Sys2Proof.Machine.execApertureAccess port core off len data s
  | .trackGroupFailure segment group linkCore reason => Sys2Proof.Machine.execTrackGroupFailure segment group linkCore reason s
  | .trackGroupSubstitution segment group => Sys2Proof.Machine.execTrackGroupSubstitution segment group s
  | .inServiceFence core reason agentBad => Sys2Proof.Machine.execInServiceFence core reason agentBad s
  | .syncTimer port tc => Sys2Proof.Machine.execSyncTimer port tc s
  | .syncReq port msg rxTc txTc => Sys2Proof.Machine.execSyncReq port msg rxTc txTc s
  | .syncRsp port msg rxTc calib skew => Sys2Proof.Machine.execSyncRsp port msg rxTc calib skew s
  | .upstreamPortLost port altAccepted => Sys2Proof.Machine.execUpstreamPortLost port altAccepted s
  | .acquireTimeout tc => Sys2Proof.Machine.execAcquireTimeout tc s
  | .holdoverErrorLimit tc => Sys2Proof.Machine.execHoldoverErrorLimit tc s
  | .frameBoundary tc => Sys2Proof.Machine.execFrameBoundary tc s
  | .holdPointStart tc => Sys2Proof.Machine.execHoldPointStart tc s
  | .flaskEpochStart flask tc => Sys2Proof.Machine.execFlaskEpochStart flask tc s
  | .armSend tc => Sys2Proof.Machine.execArmSend tc s
  | .arm rec offGrid regionFault => Sys2Proof.Machine.execArm rec offGrid regionFault s
  | .ack port seq_ => Sys2Proof.Machine.execAck port seq_ s
  | .armDeadline tc => Sys2Proof.Machine.execArmDeadline tc s
  | .go rec => Sys2Proof.Machine.execGo rec s
  | .withdraw rec => Sys2Proof.Machine.execWithdraw rec s
  | .goDeadline tc => Sys2Proof.Machine.execGoDeadline tc s
  | .decisionCommit tc relockFail => Sys2Proof.Machine.execDecisionCommit tc relockFail s
  | .seqIdle core n => Sys2Proof.Machine.execSeqIdle core n s
  | .seqIssue core unit index reloc mask => Sys2Proof.Machine.execSeqIssue core unit index reloc mask s
  | .seqLdl core engine index reloc mask => Sys2Proof.Machine.execSeqLdl core engine index reloc mask s
  | .seqWaits core base offset => Sys2Proof.Machine.execSeqWaits core base offset s
  | .seqLoop core ctr fromReg reg count last => Sys2Proof.Machine.execSeqLoop core ctr fromReg reg count last s
  | .seqBr core cond a b target len => Sys2Proof.Machine.execSeqBr core cond a b target len s
  | .aluAdd core rd ra rb => Sys2Proof.Machine.execAluAdd core rd ra rb s
  | .aluSub core rd ra rb => Sys2Proof.Machine.execAluSub core rd ra rb s
  | .aluAnd core rd ra rb => Sys2Proof.Machine.execAluAnd core rd ra rb s
  | .aluOr core rd ra rb => Sys2Proof.Machine.execAluOr core rd ra rb s
  | .aluXor core rd ra rb => Sys2Proof.Machine.execAluXor core rd ra rb s
  | .aluShl core rd ra rb => Sys2Proof.Machine.execAluShl core rd ra rb s
  | .aluShr core rd ra rb => Sys2Proof.Machine.execAluShr core rd ra rb s
  | .aluLi core rd imm => Sys2Proof.Machine.execAluLi core rd imm s
  | .aluAddi core rd ra imm => Sys2Proof.Machine.execAluAddi core rd ra imm s
  | .aluReadSc core rd => Sys2Proof.Machine.execAluReadSc core rd s
  | .seqTmeta core rd tag => Sys2Proof.Machine.execSeqTmeta core rd tag s
  | .seqWaita core rd ctr thr isFault n => Sys2Proof.Machine.execSeqWaita core rd ctr thr isFault n s
  | .waitaCompare core sameCycle => Sys2Proof.Machine.execWaitaCompare core sameCycle s
  | .qopSend core queue rd areg addr => Sys2Proof.Machine.execQopSend core queue rd areg addr s
  | .qopPop core queue rd areg addr => Sys2Proof.Machine.execQopPop core queue rd areg addr s
  | .qopPost core queue rd areg addr => Sys2Proof.Machine.execQopPost core queue rd areg addr s
  | .qopLevel core queue rd => Sys2Proof.Machine.execQopLevel core queue rd s
  | .seqHalt core => Sys2Proof.Machine.execSeqHalt core s
  | .vopMove core args => Sys2Proof.Machine.execVopMove core args s
  | .vopArithmetic core args => Sys2Proof.Machine.execVopArithmetic core args s
  | .vopFma core args => Sys2Proof.Machine.execVopFma core args s
  | .vopPermute core args => Sys2Proof.Machine.execVopPermute core args s
  | .vopIngress core args => Sys2Proof.Machine.execVopIngress core args s
  | .vopSpecialFunction core args => Sys2Proof.Machine.execVopSpecialFunction core args s
  | .vopReduce core args => Sys2Proof.Machine.execVopReduce core args s
  | .vopLoad core args conflicts => Sys2Proof.Machine.execVopLoad core args conflicts s
  | .vopStore core args conflicts => Sys2Proof.Machine.execVopStore core args conflicts s
  | .vopQuant core args conflicts => Sys2Proof.Machine.execVopQuant core args conflicts s
  | .vopSample core args => Sys2Proof.Machine.execVopSample core args s
  | .sampleStart core vu => Sys2Proof.Machine.execSampleStart core vu s
  | .tokenChosen core vu => Sys2Proof.Machine.execTokenChosen core vu s
  | .meMmaStart core engine quad faults => Sys2Proof.Machine.execMeMmaStart core engine quad faults s
  | .meDrain core engine quad faults => Sys2Proof.Machine.execMeDrain core engine quad faults s
  | .meLoadAStart core engine => Sys2Proof.Machine.execMeLoadAStart core engine s
  | .seSmmaStart core engine faults => Sys2Proof.Machine.execSeSmmaStart core engine faults s
  | .seDrain core engine faults => Sys2Proof.Machine.execSeDrain core engine faults s
  | .seLoadAStart core engine => Sys2Proof.Machine.execSeLoadAStart core engine s
  | .temperSwitch core point => Sys2Proof.Machine.execTemperSwitch core point s
  | .flaskHaltPoint flask point quiesce frameBoundary tc => Sys2Proof.Machine.execFlaskHaltPoint flask point quiesce frameBoundary tc s
  | .startTimeout flask tc => Sys2Proof.Machine.execStartTimeout flask tc s
  | .creditTimer queue => Sys2Proof.Machine.execCreditTimer queue s
  | .creditPacket queue consumed => Sys2Proof.Machine.execCreditPacket queue consumed s
  | .elasticEntryArrival queue peer tag entry poison => Sys2Proof.Machine.execElasticEntryArrival queue peer tag entry poison s
  | .elasticAccessTimeout core op => Sys2Proof.Machine.execElasticAccessTimeout core op s
  | .gatherFlush core line => Sys2Proof.Machine.execGatherFlush core line s
  | .eccWriteBack core line => Sys2Proof.Machine.execEccWriteBack core line s
  | .rowSubstitution core bank row reason => Sys2Proof.Machine.execRowSubstitution core bank row reason s
  | .scrubRow core finding => Sys2Proof.Machine.execScrubRow core finding s
  | .zeroingComplete core => Sys2Proof.Machine.execZeroingComplete core s
  | .cacheAccess off write fault => Sys2Proof.Machine.execCacheAccess off write fault s
  | .prefetchIssue cluster engine ctx => Sys2Proof.Machine.execPrefetchIssue cluster engine ctx s
  | .hbmRefresh stack channel bank tc => Sys2Proof.Machine.execHbmRefresh stack channel bank tc s
  | .hbmTempSample stack temp => Sys2Proof.Machine.execHbmTempSample stack temp s
  | .hbmPatrol stack findings => Sys2Proof.Machine.execHbmPatrol stack findings s
  | .ldlSchedSlot engine channel lost => Sys2Proof.Machine.execLdlSchedSlot engine channel lost s
  | .ldlContextStart engine ctx remote => Sys2Proof.Machine.execLdlContextStart engine ctx remote s
  | .sectorWrite engine ctx write crcOk => Sys2Proof.Machine.execSectorWrite engine ctx write crcOk s
  | .sectorBeatTimeout engine ctx write => Sys2Proof.Machine.execSectorBeatTimeout engine ctx write s
  | .sectorAck engine ctx write outcome => Sys2Proof.Machine.execSectorAck engine ctx write outcome s
  | .ldlAbort engine mask => Sys2Proof.Machine.execLdlAbort engine mask s
  | .abortResolveTimeout engine ctx => Sys2Proof.Machine.execAbortResolveTimeout engine ctx s
  | .abortCapture engine ctx => Sys2Proof.Machine.execAbortCapture engine ctx s
  | .sprueBeatReceive core input sc beat fault rsp credits lost => Sys2Proof.Machine.execSprueBeatReceive core input sc beat fault rsp credits lost s
  | .haltNotice core => Sys2Proof.Machine.execHaltNotice core s
  | .ventFlitReceive link cluster cls header occupancy crcOk => Sys2Proof.Machine.execVentFlitReceive link cluster cls header occupancy crcOk s
  | .superframeReceive port sf tc => Sys2Proof.Machine.execSuperframeReceive port sf tc s
  | .scheduledCell port sseq beat => Sys2Proof.Machine.execScheduledCell port sseq beat s
  | .elasticCell port cell => Sys2Proof.Machine.execElasticCell port cell s
  | .elasticResendTimeout port tc => Sys2Proof.Machine.execElasticResendTimeout port tc s
  | .releaseCycle port sc => Sys2Proof.Machine.execReleaseCycle port sc s
  | .done port rec => Sys2Proof.Machine.execDone port rec s
  | .armHalt rec => Sys2Proof.Machine.execArmHalt rec s
  | .armSwitch rec => Sys2Proof.Machine.execArmSwitch rec s
  | .flaskGo rec => Sys2Proof.Machine.execFlaskGo rec s
  | .flaskWithdraw rec => Sys2Proof.Machine.execFlaskWithdraw rec s
  | .start rec => Sys2Proof.Machine.execStart rec s
  | .armHold rec => Sys2Proof.Machine.execArmHold rec s
  | .armRelease rec => Sys2Proof.Machine.execArmRelease rec s
  | .haltBeacon port cause origin seq_ frame tag tc => Sys2Proof.Machine.execHaltBeacon port cause origin seq_ frame tag tc s
  | .fenceBeacon port unit origin seq_ frame tag detail tc => Sys2Proof.Machine.execFenceBeacon port unit origin seq_ frame tag detail tc s
  | .hello port msg => Sys2Proof.Machine.execHello port msg s
  | .form port tree tag depth children routes => Sys2Proof.Machine.execForm port tree tag depth children routes s
  | .report port phase count digest bindSum status failing routes => Sys2Proof.Machine.execReport port phase count digest bindSum status failing routes s
  | .abort tag status failing => Sys2Proof.Machine.execAbort tag status failing s
  | .slotDigest port temper mouldId tx rx => Sys2Proof.Machine.execSlotDigest port temper mouldId tx rx s
  | .laneSwap port lane target sender => Sys2Proof.Machine.execLaneSwap port lane target sender s
  | .laneSwapAck port lane target => Sys2Proof.Machine.execLaneSwapAck port lane target s
  | .laneSwapApply port => Sys2Proof.Machine.execLaneSwapApply port s
  | .laneSwapAbandon port => Sys2Proof.Machine.execLaneSwapAbandon port s
  | .portEnable port signal tc => Sys2Proof.Machine.execPortEnable port signal tc s
  | .trainComplete port ok tc => Sys2Proof.Machine.execTrainComplete port ok tc s
  | .lockComplete port ok tc => Sys2Proof.Machine.execLockComplete port ok tc s
  | .qualifyWindowEnd port windows tc => Sys2Proof.Machine.execQualifyWindowEnd port windows tc s
  | .laneLockLoss port lane beyond tc => Sys2Proof.Machine.execLaneLockLoss port lane beyond tc s
  | .elasticRequest port => Sys2Proof.Machine.execElasticRequest port s
  | .elasticResponse port => Sys2Proof.Machine.execElasticResponse port s
  | .writeFault far tag status fidx tc fa count => Sys2Proof.Machine.execWriteFault far tag status fidx tc fa count s
  | .pourFormTimeout tc => Sys2Proof.Machine.execPourFormTimeout tc s
  | .keyOffer port offer tc => Sys2Proof.Machine.execKeyOffer port offer tc s
  | .keyAccept port startSeq macOk => Sys2Proof.Machine.execKeyAccept port startSeq macOk s
  | .keyExchangeTimeout port tc => Sys2Proof.Machine.execKeyExchangeTimeout port tc s
  | .rekeyTimer port tc => Sys2Proof.Machine.execRekeyTimer port tc s
  | .queueDbSubmit queue count tc => Sys2Proof.Machine.execQueueDbSubmit queue count tc s
  | .queueDbPost queue count tc => Sys2Proof.Machine.execQueueDbPost queue count tc s
  | .queueCtlWrite queue val byteMask => Sys2Proof.Machine.execQueueCtlWrite queue val byteMask s
  | .queueBaseWrite queue val byteMask => Sys2Proof.Machine.execQueueBaseWrite queue val byteMask s
  | .queueWmWrite queue val byteMask sameCycleFire => Sys2Proof.Machine.execQueueWmWrite queue val byteMask sameCycleFire s
  | .hostFetchRead queue => Sys2Proof.Machine.execHostFetchRead queue s
  | .hostFetchCompletion queue res => Sys2Proof.Machine.execHostFetchCompletion queue res s
  | .hostCompletionTimeout queue => Sys2Proof.Machine.execHostCompletionTimeout queue s
  | .hostPostWrite queue tc => Sys2Proof.Machine.execHostPostWrite queue tc s
  | .msixHoldoffExpiry queue tc => Sys2Proof.Machine.execMsixHoldoffExpiry queue tc s
  | .queueDisableComplete queue => Sys2Proof.Machine.execQueueDisableComplete queue s
  | .eventRecordWrite => Sys2Proof.Machine.execEventRecordWrite s
  | .eventWindowClose index tc => Sys2Proof.Machine.execEventWindowClose index tc s
  | .evrHeadWrite ring head => Sys2Proof.Machine.execEvrHeadWrite ring head s
  | .portFlr port => Sys2Proof.Machine.execPortFlr port s
  | .portHotReset port perst => Sys2Proof.Machine.execPortHotReset port perst s
  | .hostLinkLoss port => Sys2Proof.Machine.execHostLinkLoss port s
  | .d3hotEntry port => Sys2Proof.Machine.execD3hotEntry port s
  | .mbSubmit slot submit byteMask tc => Sys2Proof.Machine.execMbSubmit slot submit byteMask tc s
  | .mbCancel slot val => Sys2Proof.Machine.execMbCancel slot val s
  | .mbCommandStart slot => Sys2Proof.Machine.execMbCommandStart slot s
  | .mbInfoGet slot => Sys2Proof.Machine.execMbInfoGet slot s
  | .mbSlagRead slot => Sys2Proof.Machine.execMbSlagRead slot s
  | .mbEventRingSet slot => Sys2Proof.Machine.execMbEventRingSet slot s
  | .mbFlaskList slot => Sys2Proof.Machine.execMbFlaskList slot s
  | .mbFlaskCreate slot => Sys2Proof.Machine.execMbFlaskCreate slot s
  | .mbFlaskDestroy slot => Sys2Proof.Machine.execMbFlaskDestroy slot s
  | .mbMouldLoad slot env => Sys2Proof.Machine.execMbMouldLoad slot env s
  | .mbMouldSwitch slot tc => Sys2Proof.Machine.execMbMouldSwitch slot tc s
  | .mbMouldUnload slot => Sys2Proof.Machine.execMbMouldUnload slot s
  | .mbFlaskStart slot => Sys2Proof.Machine.execMbFlaskStart slot s
  | .mbFlaskHalt slot => Sys2Proof.Machine.execMbFlaskHalt slot s
  | .mbFlaskResume slot => Sys2Proof.Machine.execMbFlaskResume slot s
  | .mbFlaskReset slot => Sys2Proof.Machine.execMbFlaskReset slot s
  | .mbScanOut slot => Sys2Proof.Machine.execMbScanOut slot s
  | .mbScanIn slot => Sys2Proof.Machine.execMbScanIn slot s
  | .mbCacheFlush slot => Sys2Proof.Machine.execMbCacheFlush slot s
  | .mbCachePartSet slot => Sys2Proof.Machine.execMbCachePartSet slot s
  | .mbPourForm slot => Sys2Proof.Machine.execMbPourForm slot s
  | .mbPourStart slot => Sys2Proof.Machine.execMbPourStart slot s
  | .mbPourLeave slot => Sys2Proof.Machine.execMbPourLeave slot s
  | .mbFlushPosted slot tc => Sys2Proof.Machine.execMbFlushPosted slot tc s
  | .mbPortCtl slot => Sys2Proof.Machine.execMbPortCtl slot s
  | .mbFence slot => Sys2Proof.Machine.execMbFence slot s
  | .mbComputeReset slot env tc => Sys2Proof.Machine.execMbComputeReset slot env tc s
  | .mbPepperSet slot => Sys2Proof.Machine.execMbPepperSet slot s
  | .mbRedundancySet slot => Sys2Proof.Machine.execMbRedundancySet slot s
  | .mbFlaskDrain slot => Sys2Proof.Machine.execMbFlaskDrain slot s
  | .mbPstepSet slot relockFail => Sys2Proof.Machine.execMbPstepSet slot relockFail s
  | .mbCapSet slot => Sys2Proof.Machine.execMbCapSet slot s
  | .mbPstateSet slot tc => Sys2Proof.Machine.execMbPstateSet slot tc s
  | .mbEnergyRead slot => Sys2Proof.Machine.execMbEnergyRead slot s
  | .mbTamperAck slot => Sys2Proof.Machine.execMbTamperAck slot s
  | .mbWeightKeyLoad slot verified => Sys2Proof.Machine.execMbWeightKeyLoad slot verified s
  | .mbTamperLogRead slot => Sys2Proof.Machine.execMbTamperLogRead slot s
  | .mbFwStage slot signatureOk readBackOk => Sys2Proof.Machine.execMbFwStage slot signatureOk readBackOk s
  | .mbFwActivate slot env tc => Sys2Proof.Machine.execMbFwActivate slot env tc s
  | .mbApertureSet slot => Sys2Proof.Machine.execMbApertureSet slot s
  | .mbEventTest slot => Sys2Proof.Machine.execMbEventTest slot s
  | .mbPoll => Sys2Proof.Machine.execMbPoll s
  | .sidebandRequest submit args session tc => Sys2Proof.Machine.execSidebandRequest submit args session tc s
  | .inputSample millivolts tenthAmps watts tc => Sys2Proof.Machine.execInputSample millivolts tenthAmps watts tc s
  | .pwrAuxFault => Sys2Proof.Machine.execPwrAuxFault s
  | .tileFault tile cause => Sys2Proof.Machine.execTileFault tile cause s
  | .tileSpared tile ok => Sys2Proof.Machine.execTileSpared tile ok s
  | .vminSample cluster sensor millivolts bubbleEdge tc => Sys2Proof.Machine.execVminSample cluster sensor millivolts bubbleEdge tc s
  | .riserNotice cluster level => Sys2Proof.Machine.execRiserNotice cluster level s
  | .bucketGrant cluster amps tc => Sys2Proof.Machine.execBucketGrant cluster amps tc s
  | .decisionWindowEnd watts bubbleWatts currents tc => Sys2Proof.Machine.execDecisionWindowEnd watts bubbleWatts currents tc s
  | .telemetrySend tc => Sys2Proof.Machine.execTelemetrySend tc s
  | .telemetryReceive port bytes => Sys2Proof.Machine.execTelemetryReceive port bytes s
  | .thermalSample readings => Sys2Proof.Machine.execThermalSample readings s
  | .energyAccount sample tc => Sys2Proof.Machine.execEnergyAccount sample tc s
  | .pstateEntryComplete tc => Sys2Proof.Machine.execPstateEntryComplete tc s
  | .pstateExit tc => Sys2Proof.Machine.execPstateExit tc s
  | .pstReadyTimeout signal unit other retryOk => Sys2Proof.Machine.execPstReadyTimeout signal unit other retryOk s
  | .wakePin => Sys2Proof.Machine.execWakePin s
  | .wakeTimer ticks => Sys2Proof.Machine.execWakeTimer ticks s
  | .wakeI3c address => Sys2Proof.Machine.execWakeI3c address s
  | .wakePerst port => Sys2Proof.Machine.execWakePerst port s
  | .wakeHost wake => Sys2Proof.Machine.execWakeHost wake s
  | .pstTimerWrite val byteMask => Sys2Proof.Machine.execPstTimerWrite val byteMask s
  | .pstWakeEnWrite val byteMask => Sys2Proof.Machine.execPstWakeEnWrite val byteMask s
  | .xtalFail => Sys2Proof.Machine.execXtalFail s
  | .coreDomainOnRequest core => Sys2Proof.Machine.execCoreDomainOnRequest core s
  | .coreDomainOffRequest core => Sys2Proof.Machine.execCoreDomainOffRequest core s
  | .coreDomainGrant => Sys2Proof.Machine.execCoreDomainGrant s
  | .coreDomainRampDone core tc => Sys2Proof.Machine.execCoreDomainRampDone core tc s
  | .coreDomainShutdownDone core => Sys2Proof.Machine.execCoreDomainShutdownDone core s
  | .powerOn env straps resetLow => Sys2Proof.Machine.execPowerOn env straps resetLow s
  | .moduleReset lowNs tc => Sys2Proof.Machine.execModuleReset lowNs tc s
  | .watchdogExpiry env tc => Sys2Proof.Machine.execWatchdogExpiry env tc s
  | .pldmQueryDeviceIds => Sys2Proof.Machine.execPldmQueryDeviceIds s
  | .pldmGetFwParameters => Sys2Proof.Machine.execPldmGetFwParameters s
  | .pldmRequestUpdate transfer => Sys2Proof.Machine.execPldmRequestUpdate transfer s
  | .pldmPassComponentTable cls ident last => Sys2Proof.Machine.execPldmPassComponentTable cls ident last s
  | .pldmUpdateComponent cls ident size => Sys2Proof.Machine.execPldmUpdateComponent cls ident size s
  | .pldmActivateFirmware selfContained => Sys2Proof.Machine.execPldmActivateFirmware selfContained s
  | .pldmGetStatus => Sys2Proof.Machine.execPldmGetStatus s
  | .pldmCancelUpdateComponent => Sys2Proof.Machine.execPldmCancelUpdateComponent s
  | .pldmCancelUpdate => Sys2Proof.Machine.execPldmCancelUpdate s
  | .pldmGetSensorReading sensor => Sys2Proof.Machine.execPldmGetSensorReading sensor s
  | .pldmGetStateSensorReadings sensor => Sys2Proof.Machine.execPldmGetStateSensorReadings sensor s
  | .pldmGetPdr handle => Sys2Proof.Machine.execPldmGetPdr handle s
  | .mctpControl command eid => Sys2Proof.Machine.execMctpControl command eid s
  | .i3cSetdasa static dynamic => Sys2Proof.Machine.execI3cSetdasa static dynamic s
  | .i3cEntdaa dynamic => Sys2Proof.Machine.execI3cEntdaa dynamic s
  | .spdmGetVersion => Sys2Proof.Machine.execSpdmGetVersion s
  | .spdmGetCapabilities => Sys2Proof.Machine.execSpdmGetCapabilities s
  | .spdmNegotiateAlgorithms supported => Sys2Proof.Machine.execSpdmNegotiateAlgorithms supported s
  | .spdmGetDigests => Sys2Proof.Machine.execSpdmGetDigests s
  | .spdmGetCertificate certSlot length => Sys2Proof.Machine.execSpdmGetCertificate certSlot length s
  | .spdmChallenge certSlot => Sys2Proof.Machine.execSpdmChallenge certSlot s
  | .spdmGetMeasurements index => Sys2Proof.Machine.execSpdmGetMeasurements index s
  | .spdmKeyExchange id => Sys2Proof.Machine.execSpdmKeyExchange id s
  | .spdmFinish id verified => Sys2Proof.Machine.execSpdmFinish id verified s
  | .spdmHeartbeat id => Sys2Proof.Machine.execSpdmHeartbeat id s
  | .spdmKeyUpdate id => Sys2Proof.Machine.execSpdmKeyUpdate id s
  | .spdmEndSession id => Sys2Proof.Machine.execSpdmEndSession id s
  | .flaskDrain flask tc => Sys2Proof.Machine.execFlaskDrain flask tc s
  | .culpritWindowClose index tc => Sys2Proof.Machine.execCulpritWindowClose index tc s
  | .autoRepair kind location reason => Sys2Proof.Machine.execAutoRepair kind location reason s
  | .pendingRepairApply kind location => Sys2Proof.Machine.execPendingRepairApply kind location s
  | .wearMonitor unit value tc => Sys2Proof.Machine.execWearMonitor unit value tc s
  | .lifeHour tj10 fast tc => Sys2Proof.Machine.execLifeHour tj10 fast tc s
  | .pepperTileStart core unit window hash tc => Sys2Proof.Machine.execPepperTileStart core unit window hash tc s
  | .pepperCompare core unit => Sys2Proof.Machine.execPepperCompare core unit s
  | .pepperDiagnostic core unit result => Sys2Proof.Machine.execPepperDiagnostic core unit result s
  | .spareCoreCheck core culprit => Sys2Proof.Machine.execSpareCoreCheck core culprit s
  | .redundancyCompare core unit tag primary shadow tileTc => Sys2Proof.Machine.execRedundancyCompare core unit tag primary shadow tileTc s
  | .redundancyHashTimeout core unit tag hash tileTc => Sys2Proof.Machine.execRedundancyHashTimeout core unit tag hash tileTc s
  | .tamperSensor sensor inputPower seconds => Sys2Proof.Machine.execTamperSensor sensor inputPower seconds s
  | .slotRoleWrite val byteMask => Sys2Proof.Machine.execSlotRoleWrite val byteMask s
  | .slotFlaskWrite val byteMask => Sys2Proof.Machine.execSlotFlaskWrite val byteMask s
  | .slosyFrame wire tc => Sys2Proof.Machine.execSlosyFrame wire tc s
  | .slosyInfo => Sys2Proof.Machine.execSlosyInfo s
  | .slosyAuthReq => Sys2Proof.Machine.execSlosyAuthReq s
  | .slosyAuthGrant verified seconds => Sys2Proof.Machine.execSlosyAuthGrant verified seconds s
  | .slosyAuthDrop => Sys2Proof.Machine.execSlosyAuthDrop s
  | .slosyLifecycle => Sys2Proof.Machine.execSlosyLifecycle s
  | .slosyRead tc => Sys2Proof.Machine.execSlosyRead tc s
  | .slosyWrite tc => Sys2Proof.Machine.execSlosyWrite tc s
  | .slosyApertureRead => Sys2Proof.Machine.execSlosyApertureRead s
  | .slosyHold tc => Sys2Proof.Machine.execSlosyHold tc s
  | .slosyRelease tc => Sys2Proof.Machine.execSlosyRelease tc s
  | .slosyStep tc => Sys2Proof.Machine.execSlosyStep tc s
  | .slosyHoldStat => Sys2Proof.Machine.execSlosyHoldStat s
  | .slosyBpSet => Sys2Proof.Machine.execSlosyBpSet s
  | .slosyBpClear => Sys2Proof.Machine.execSlosyBpClear s
  | .slosyBpStat => Sys2Proof.Machine.execSlosyBpStat s
  | .slosyScanCore => Sys2Proof.Machine.execSlosyScanCore s
  | .debugHoldApply flask tc => Sys2Proof.Machine.execDebugHoldApply flask tc s
  | .dbgBpHit bp hit tc => Sys2Proof.Machine.execDbgBpHit bp hit tc s
  | .grantExpiry seconds => Sys2Proof.Machine.execGrantExpiry seconds s
  | .authLockoutExpiry seconds => Sys2Proof.Machine.execAuthLockoutExpiry seconds s
  | .refclkLost tc => Sys2Proof.Machine.execRefclkLost tc s
  | .refclkBackupSwitch tc => Sys2Proof.Machine.execRefclkBackupSwitch tc s
  | .refclkRestored tc => Sys2Proof.Machine.execRefclkRestored tc s
  | .tapBypass env tc => Sys2Proof.Machine.execTapBypass env tc s
  | .tapIdcode env tc => Sys2Proof.Machine.execTapIdcode env tc s
  | .tapSamplePreload pins preload env tc => Sys2Proof.Machine.execTapSamplePreload pins preload env tc s
  | .tapExtest env tc => Sys2Proof.Machine.execTapExtest env tc s
  | .sprueDeparture core out sc what lost => Sys2Proof.Machine.execSprueDeparture core out sc what lost s
  | .superframeSend port => Sys2Proof.Machine.execSuperframeSend port s
  | .signalDetected port tc => Sys2Proof.Machine.execSignalDetected port tc s
  | .resetNRelease env straps tc => Sys2Proof.Machine.execResetNRelease env straps tc s
  | .hostLinkUp port speed width flit => Sys2Proof.Machine.execHostLinkUp port speed width flit s
  | .returnToD0 port => Sys2Proof.Machine.execReturnToD0 port s
  | .busMasterEnable port on => Sys2Proof.Machine.execBusMasterEnable port on s
  | .pourStartTimeout tc => Sys2Proof.Machine.execPourStartTimeout tc s
  | .flushAckTimeout slot tc => Sys2Proof.Machine.execFlushAckTimeout slot tc s
  | .tamperSensorDeassert sensor => Sys2Proof.Machine.execTamperSensorDeassert sensor s
  | .pldmFirmwareData data signatureOk readBackOk env => Sys2Proof.Machine.execPldmFirmwareData data signatureOk readBackOk env s

end Sys2Proof.Machine
end

