-- ==== Sys2Proof/Machine/Claims.lean ====
section
/-! DEFINITION. Words the statements use: what a step did, said of the states before and after it. No meaning uses them. -/
namespace Sys2Proof.Machine

/-- The time counter after a command that carries a time: it moves on to that time and never back (R66, log entry 2). -/
def State.clockAt (s : State) (tc : Nat) : Nat := max s.tc (tc % 2 ^ 64) % 2 ^ 64

/-- One event of a code and severity has occurred (R491, R494). -/
def Raised (s t : State) (code sev : Nat) : Prop := ∃ r : EvRec, r.code = code ∧ r.sev = sev ∧ t.ev = s.ev.occur r

/-- A message has been sent. -/
def Sent (s t : State) (port : Nat) (kind : MsgKind) (fields : List Nat) : Prop := t.msgs = s.msgs ++ [({ port := port, kind := kind, fields := fields } : OutMsg)]

/-- A mailbox slot holds a command that ended DONE with an inline result (R475, R477). -/
def SlotDone (t : State) (k inline_ : Nat) : Prop := (t.slot k).state = 4 ∧ (t.slot k).result = inline_

/-- A mailbox slot holds a command that ended FAILED with a status (R475, R477). -/
def SlotFailed (t : State) (k status : Nat) : Prop := (t.slot k).state = 5 ∧ (t.slot k).result = status

/-- The state in which the QOP results due at a core are written (R218). -/
def State.due (s : State) (p : Nat) : State := Eff.on (settle p) s

/-- An instruction of a core has ended: SC has advanced by its cycles, the PC has gone on by the loops (R210, R213). -/
def Advanced (s t : State) (p cycles : Nat) : Prop :=
  t.sc p = (s.sc p + cycles) % 2 ^ F.CORE_SC_SC.len ∧
  t.fget F.CORE_SEQ_PC p = (loopNext (s.core p).loops (s.fget F.CORE_SEQ_PC p)).1 % 2 ^ F.CORE_SEQ_PC.len

/-- A scalar register of a core holds a value modulo 2^64, s0 still 0, and its other scalar registers are those of `x` (R209). -/
def SetScalar (x t : State) (p d v : Nat) : Prop :=
  t.scalar p d = (if d = 0 then 0 else v % 2 ^ 64) ∧ ∀ r, r ≠ d → t.scalar p r = x.scalar p r

/-- Every other core is left alone: its state, its SC and its PC. -/
def Apart (s t : State) (p : Nat) : Prop :=
  ∀ q, q ≠ p → t.core q = s.core q ∧ t.sc q = s.sc q ∧ t.fget F.CORE_SEQ_PC q = s.fget F.CORE_SEQ_PC q

/-- A QOP's result code is due at a register four cycles on (R218). -/
def QopCode (s t : State) (p d code : Nat) : Prop := (t.core p).qopDue = ((s.due p).core p).qopDue ++ [(s.sc p + 4, d, code)]

/-- A vector register of a unit holds the lanes of a result (R181). -/
def Lanes (t : State) (k r : Nat) (xs : List (Nat × Flags)) : Prop := (t.vu k).lanes [] r = xs.map (fun x => x.1 % 2 ^ 32)

/-- The requester of the access or request just served has received bytes and a status. -/
def Answered (t : State) (status : Nat) (bytes : List Byte) : Prop := t.resp = some { bytes, poison := false, status }

/-- The Slosy request in service has been answered: the response is sent and stored, and the request is over (R675). -/
def SlosyAnswered (t : State) (r : SlosyReq) (status : Nat) (bytes : List Byte) : Prop :=
  Answered t status bytes ∧ t.dbg.req = none ∧ t.dbg.prev = some (r, status, bytes)

/-- The commands that may be a power-on, a module reset or the loss of a power domain: they return whole register blocks to their reset
values (R543, R580, R592, R703). -/
def clearsBlocks : Instr → Bool
  | .powerOn .. => true
  | .moduleReset .. => true
  | .pstateEntryComplete .. => true
  | .pldmFirmwareData .. => true
  | .tapBypass .. => true
  | .tapIdcode .. => true
  | .tapSamplePreload .. => true
  | .tapExtest .. => true
  | _ => false

/-- The registers whose write does something beside what the types of their fields say, each with a command of its own (R59, R64, R344,
R465, R564 to R567, R668, R669). -/
def actsOnWrite (r : Reg) : Bool :=
  [Reg.MOD_FA_FAULT_INFO, .CLU_THERM, .LDL_CTL, .MOD_EVR_HEAD_n, .PST_TIMER, .PST_WAKE_EN, .PST_WAKE_REQ, .SAF_SLOT_ROLE, .SAF_SLOT_FLASK].elem r

/-- What a write of all 64 bits `v` leaves in a field, by its type, `hw` being the bits that hardware sets in the same cycle (R17, R18, R20). -/
def fieldAfter (f : Fld) (old v hw : Nat) : Nat :=
  let x := bitsOf v f.lo f.len
  match f.ty with
  | .rw => if reservedEncoding f x = true then old else x
  | .w1c => (old - (old &&& x)) ||| (x &&& bitsOf hw f.lo f.len)
  | .w1s => old ||| x
  | _ => old

end Sys2Proof.Machine
end

