-- ==== Sys2Proof/Safety.lean ====
section
/-! DEFINITION. What counts as a well-formed state and a safe outcome, in the terms the statements use. -/
namespace Sys2Proof.Machine

/-- A register number that the hardware fixes (R54, R62). -/
def hardReg (ix : Nat) : Bool := ix == Reg.MOD_ID.ix || ix == Reg.CLU_ID.ix

/-- The register fields: keys rising, every value within its field's width, nothing stored for a register that the hardware fixes. -/
def fldsWf (m : NMap Nat) : Bool :=
  m.rising && m.all (fun e => decide (e.2 < 2 ^ (e.1 % 128)) && !hardReg (regOfKey e.1))

/-- The state is canonical: memories, maps and sets of it in their one form, register fields within their widths, fixed registers as the
hardware fixes them. -/
structure State.Wf (s : State) : Prop where
  flds : fldsWf s.flds = true
  cores : NMap.wf CoreSt.init s.cores = true
  mes : NMap.wf EngSt.zero s.mes = true
  ses : NMap.wf EngSt.zero s.ses = true
  vus : NMap.wf VuSt.zero s.vus = true
  spd : Memory.wf s.spd = true
  spdPoison : NSet.wf s.spdPoison = true
  dram : Memory.wf s.dram = true
  dramPoison : NSet.wf s.dramPoison = true
  dramWritten : NSet.wf s.dramWritten = true
  caches : NMap.wf CacheSt.empty s.caches = true
  refreshOnly : NSet.wf s.refreshOnly = true
  refreshed : NMap.wf 0 s.refreshed = true
  flasks : NMap.wf FlaskSt.none s.flasks = true
  queues : NMap.wf QueueSt.none s.queues = true
  ldls : NMap.wf LdlSt.idle s.ldls = true
  msix : NMap.wf MsixEntry.reset s.msix = true
  hports : NMap.wf HostPort.none s.hports = true
  rings : NMap.wf RingSt.none s.rings = true
  slots : NMap.wf MbSlot.none s.slots = true
  ports : NMap.wf PortSt.down s.ports = true

/-- The outcome is a state: neither a fault nor a refusal. -/
def Safe : Host.Outcome State Fault Refusal → Prop
  | .next _ => True
  | .fault _ => False
  | .refused _ => False

/-! Parts of the state, for saying what a command leaves alone. -/

/-- A part of the state: the fields of one register, all register fields, or one field of `State`. -/
inductive Part where
  | fld (r : Reg)
  | flds | slag | seam | align | gclk | dec | ctl | cores | mes | ses | vus | spd | spdPoison | dram | dramPoison | dramWritten | caches | refreshOnly | refreshed | flasks | queues | ldls | msix | hports | hostOut | rings | ev | slots | mbOrder | msgs | ports | pour | faults | pep | power | resp | dbg | pst | boot | saf | svc | freeCtr
  deriving DecidableEq, Repr

/-- The queue is the same, and so is every part but those listed. -/
structure SameBut (ps : List Part) (s t : State) : Prop where
  pending : t.pending = s.pending
  fld : ∀ f i, f.inReg = true → Part.flds ∉ ps → Part.fld f.reg ∉ ps → t.fget f i = s.fget f i
  slag : Part.slag ∉ ps → t.slag = s.slag
  seam : Part.seam ∉ ps → t.seam = s.seam
  align : Part.align ∉ ps → t.align = s.align
  gclk : Part.gclk ∉ ps → t.gclk = s.gclk
  dec : Part.dec ∉ ps → t.dec = s.dec
  ctl : Part.ctl ∉ ps → t.ctl = s.ctl
  cores : Part.cores ∉ ps → t.cores = s.cores
  mes : Part.mes ∉ ps → t.mes = s.mes
  ses : Part.ses ∉ ps → t.ses = s.ses
  vus : Part.vus ∉ ps → t.vus = s.vus
  spd : Part.spd ∉ ps → t.spd = s.spd
  spdPoison : Part.spdPoison ∉ ps → t.spdPoison = s.spdPoison
  dram : Part.dram ∉ ps → t.dram = s.dram
  dramPoison : Part.dramPoison ∉ ps → t.dramPoison = s.dramPoison
  dramWritten : Part.dramWritten ∉ ps → t.dramWritten = s.dramWritten
  caches : Part.caches ∉ ps → t.caches = s.caches
  refreshOnly : Part.refreshOnly ∉ ps → t.refreshOnly = s.refreshOnly
  refreshed : Part.refreshed ∉ ps → t.refreshed = s.refreshed
  flasks : Part.flasks ∉ ps → t.flasks = s.flasks
  queues : Part.queues ∉ ps → t.queues = s.queues
  ldls : Part.ldls ∉ ps → t.ldls = s.ldls
  msix : Part.msix ∉ ps → t.msix = s.msix
  hports : Part.hports ∉ ps → t.hports = s.hports
  hostOut : Part.hostOut ∉ ps → t.hostOut = s.hostOut
  rings : Part.rings ∉ ps → t.rings = s.rings
  ev : Part.ev ∉ ps → t.ev = s.ev
  slots : Part.slots ∉ ps → t.slots = s.slots
  mbOrder : Part.mbOrder ∉ ps → t.mbOrder = s.mbOrder
  msgs : Part.msgs ∉ ps → t.msgs = s.msgs
  ports : Part.ports ∉ ps → t.ports = s.ports
  pour : Part.pour ∉ ps → t.pour = s.pour
  faults : Part.faults ∉ ps → t.faults = s.faults
  pep : Part.pep ∉ ps → t.pep = s.pep
  power : Part.power ∉ ps → t.power = s.power
  resp : Part.resp ∉ ps → t.resp = s.resp
  dbg : Part.dbg ∉ ps → t.dbg = s.dbg
  pst : Part.pst ∉ ps → t.pst = s.pst
  boot : Part.boot ∉ ps → t.boot = s.boot
  saf : Part.saf ∉ ps → t.saf = s.saf
  svc : Part.svc ∉ ps → t.svc = s.svc
  freeCtr : Part.freeCtr ∉ ps → t.freeCtr = s.freeCtr

end Sys2Proof.Machine
end

