-- ==== Sys2Proof/Certificates/Slice0/Obligations.lean ====
section
/-! DEFINITION. The statements about the model. A clause about a command says, for every state and operands, that `exec` answers a next
state, what that state holds, and, by `SameBut`, which parts of the state it leaves alone. -/
open Sys2Proof Sys2Proof.Machine

/-- Every access command answers a next state. A read of MOD_APERTURE_CTL delivers it and clears DENIED; PEAK_CLR reloads PEAK with TEMP; clearing
VALID zeroes COUNT and re-arms capture; an access by fabric address for this module that fails a check returns poisoned data or is discarded and
is captured if no fault was; an aperture access while the aperture is closed, of a write while WR_EN is 0, or to a sealed flask's core, is counted
in DENIED, reads 0 and stores nothing; a host access to DRAM that the controls refuse is counted in HOST_DENIED, reads 0 and stores nothing. (R17,
R47, R50, R51, R59, R60, R64, R653, R654) -/
def Obligations.FabricAndHostAccesses : Prop :=
  (∀ (src : Src) (tgt : RegTarget) (data : List Byte) (hw : Word) (s : State),
    ∃ t, exec (.registerWrite src tgt data hw) s = .next t ∧ SameBut [.ev, .faults, .flasks, .fld .CLU_THERM, .fld .LDL_CTX_n, .fld .MOD_EVR_HEAD_n,
        .fld .MOD_EVR_TAIL_n, .fld .MOD_FAULT_STAT, .fld .MOD_FA_FAULT_INFO, .fld .MOD_HOST_ERR_p, .fld .MOD_HOST_STAT_p, .fld .MOD_MB_SUMMARY,
        .fld .PST_CORE_PWR_r, .fld .PST_RAMP, .fld .PST_STAT, .fld .PST_WAKE_STAT, .fld .QUEUE_BASE, .fld .QUEUE_CTL, .fld .QUEUE_LEVEL,
        .fld .QUEUE_STAT, .fld .QUEUE_WM, .fld .RUN_ERR, .fld .RUN_STAT, .flds, .hostOut, .hports, .ldls, .mbOrder, .msgs, .msix, .ports, .pst,
        .queues, .rings, .slots] s t) ∧
  (∀ (c : ClusterId) (s : State), ∃ t, exec (.peakClr c) s = .next t ∧ SameBut [.fld .CLU_THERM] s t ∧
    t.fget F.CLU_THERM_PEAK c.val = s.fget F.CLU_THERM_TEMP c.val % 2 ^ 8 ∧
    ∀ f i, f.inReg = true → f ≠ F.CLU_THERM_PEAK ∨ i ≠ c.val → f.reg ≠ .CLU_THERM ∨ f ∈ Reg.CLU_THERM.fields → t.fget f i = s.fget f i) ∧
  (∀ s : State, ∃ t, exec .apertureDeniedRead s = .next t ∧ SameBut [.fld .MOD_APERTURE_CTL, .resp] s t ∧
    (s.mbServed = true → t.resp = some { bytes := natLe 8 (s.regVal .MOD_APERTURE_CTL 0), poison := false, status := 0 } ∧
      t.fget F.MOD_APERTURE_CTL_DENIED 0 = 0 ∧ t.fget F.MOD_APERTURE_CTL_EN 0 = s.fget F.MOD_APERTURE_CTL_EN 0 ∧
      t.fget F.MOD_APERTURE_CTL_WR_EN 0 = s.fget F.MOD_APERTURE_CTL_WR_EN 0) ∧
    (s.mbServed = false → t = { s with resp := some { bytes := natLe 8 0, poison := false, status := 0 } })) ∧
  (∀ (fault : Option FabricReq) (s : State), ∃ t, exec (.faFaultValidClear fault) s = .next t ∧ SameBut [.caches, .cores, .dram, .dramPoison,
      .dramWritten, .ev, .fld .CCH_HITS, .fld .CCH_MISSES, .fld .CORE_QSTAT, .fld .MOD_FA_FAULT_ADDR, .fld .MOD_FA_FAULT_INFO, .fld .MOD_HOST_ERR_p,
      .fld .PWR_TELEM_IN_p, .fld .QUEUE_BASE, .fld .QUEUE_CTL, .fld .QUEUE_LEVEL, .fld .QUEUE_STAT, .fld .QUEUE_WM, .fld .SPD_ELASTIC, .flds, .msgs,
      .ports, .queues, .resp, .spd, .spdPoison] s t ∧
    (fault = none → t.fget F.MOD_FA_FAULT_INFO_VALID 0 = 0 ∧ t.fget F.MOD_FA_FAULT_INFO_COUNT 0 = 0)) ∧
  (∀ (req : FabricReq) (s : State), ∃ t, exec (.fabricAccess req) s = .next t ∧ SameBut [.caches, .cores, .dram, .dramPoison, .dramWritten, .ev,
      .fld .CCH_HITS, .fld .CCH_MISSES, .fld .CORE_QSTAT, .fld .MOD_FA_FAULT_ADDR, .fld .MOD_FA_FAULT_INFO, .fld .MOD_HOST_ERR_p,
      .fld .PWR_TELEM_IN_p, .fld .QUEUE_BASE, .fld .QUEUE_CTL, .fld .QUEUE_LEVEL, .fld .QUEUE_STAT, .fld .QUEUE_WM, .fld .SPD_ELASTIC, .flds, .msgs,
      .ports, .queues, .resp, .spd, .spdPoison] s t ∧
    (faModule req.fa = s.module →
      s.faReason { crucible := req.crucible, flask := req.flask.map (fun f => f.val), tag := req.pourTag } req.fa (opLen req.op)
        (opWrites req.op) (formOk req.fa req.op) ≠ 0 →
      SameBut [.ev, .fld .MOD_FA_FAULT_ADDR, .fld .MOD_FA_FAULT_INFO, .resp] s t ∧ (opWrites req.op = false → ∃ r, t.resp = some r ∧ r.poison =
          true))) ∧
  (∀ (p : HostId) (core : CoreId) (off : BitVec 28) (len : Nat) (data : Option (List Byte)) (s : State),
    ∃ t, exec (.apertureAccess p core off len data) s = .next t ∧ SameBut [.cores, .fld .MOD_APERTURE_CTL, .fld .SPD_ELASTIC, .resp, .spd,
        .spdPoison] s t ∧
    (s.hostServed p.val = true → s.bar4Open = true →
      (s.flag F.MOD_APERTURE_CTL_EN 0 = false ∨ (data.isSome = true ∧ s.flag F.MOD_APERTURE_CTL_WR_EN 0 = false)) →
      SameBut [.fld .MOD_APERTURE_CTL, .resp] s t ∧
      t.fget F.MOD_APERTURE_CTL_DENIED 0 = min (s.fget F.MOD_APERTURE_CTL_DENIED 0 + 1) (2 ^ 32 - 1) ∧
      (data = none → t.resp = some { bytes := List.replicate len 0, poison := false, status := 0 }))) ∧
  (∀ (p : HostId) (off len : Nat) (data : Option (List Byte)) (s : State),
    ∃ t, exec (.hostDramAccess p off len data) s = .next t ∧ SameBut [.caches, .dram, .dramPoison, .dramWritten, .ev, .fld .CCH_HITS,
        .fld .CCH_MISSES, .fld .MOD_HOST_ERR_p, .fld .SAF_ERR, .resp] s t ∧
    (s.hostServed p.val = true → s.bar4Open = true → off + len ≤ dramSize → data = none → 0 < len → s.hostDenied off len false = true →
      SameBut [.fld .SAF_ERR, .ev, .resp] s t ∧ t.resp = some { bytes := List.replicate len 0, poison := false, status := 0 }))

/-- On an UP port SYNC_TIMER sends SYNC_REQ with the next exchange number and the time, SYNC_REQ is answered with its exchange number and both stamps,
and SYNC_RSP sets the port's delay register; on a port that is not UP each only moves the time on. Outside a formation, the loss of the upstream
port takes an ALIGNED or DEGRADED module to HOLDOVER, and to LOST where no alternative was recorded, or to ACQUIRING on an alternative it accepts;
ACQUIRING for 10 ms and a holdover error bound of 6 ns end in LOST. (R69, R70, R71, R72, R73, R396, R402) -/
def Obligations.AlignmentCommandsAct : Prop :=
  (∀ (p : PortId) (tc : Nat) (s : State), ∃ t, exec (.syncTimer p tc) s = .next t ∧ SameBut [.fld .TC_NOW, .msgs, .ports] s t ∧ t.tc = s.clockAt tc ∧
    (s.portState p.val = 4 → Sent s t p.val .syncReq [(s.port p.val).exchange, t.tc * 16] ∧
      (t.port p.val).exchange = ((s.port p.val).exchange + 1) % 2 ^ 32) ∧
    (s.portState p.val ≠ 4 → SameBut [.fld .TC_NOW] s t)) ∧
  (∀ (p : PortId) (msg : SyncMsg) (rx tx : Nat) (s : State), ∃ t, exec (.syncReq p msg rx tx) s = .next t ∧ SameBut [.fld .TC_NOW, .msgs] s t ∧
    (s.portState p.val = 4 → Sent s t p.val .syncRsp [msg.exchange, rx, tx]) ∧
    (s.portState p.val ≠ 4 → SameBut [.fld .TC_NOW] s t)) ∧
  (∀ (p : PortId) (msg : SyncMsg) (rx : Nat) (calib skew : Int) (s : State),
    ∃ t, exec (.syncRsp p msg rx calib skew) s = .next t ∧ SameBut [.align, .ctl, .ev, .flasks, .fld .CLK_CHG_STAT, .fld .MOD_MB_SUMMARY,
        .fld .MOD_POUR_ID, .fld .RUN_DELAY, .fld .RUN_STAT, .fld .TC_ALIGN_STAT, .fld .TC_NOW, .hostOut, .hports, .msgs, .pour, .slots] s t ∧
    (s.portState p.val = 4 → t.fget F.RUN_DELAY_DELAY_PS p.val =
      ((((msg.t2 : Int) - msg.t1) + ((rx : Int) - msg.t3)) * 125 / 4 - calib).toNat % 2 ^ F.RUN_DELAY_DELAY_PS.len) ∧
    (s.portState p.val ≠ 4 → SameBut [.fld .TC_NOW] s t)) ∧
  (∀ (p : PortId) (alt : Bool) (s : State), ∃ t, exec (.upstreamPortLost p alt) s = .next t ∧ SameBut [.align, .ctl, .ev, .flasks,
      .fld .CLK_CHG_STAT, .fld .MOD_MB_SUMMARY, .fld .MOD_POUR_ID, .fld .RUN_STAT, .fld .TC_ALIGN_STAT, .hostOut, .hports, .msgs, .pour, .slots] s t
      ∧
    (s.fget F.TC_ALIGN_STAT_UPSTREAM 0 ≠ p.val → t = s) ∧
    (s.fget F.TC_ALIGN_STAT_UPSTREAM 0 = p.val → s.fget F.TC_ALIGN_STAT_STATE 0 = 2 ∨ s.fget F.TC_ALIGN_STAT_STATE 0 = 3 → s.pour.phase ≠ 1 →
      (s.align.alternative = none → t.fget F.TC_ALIGN_STAT_STATE 0 = 5) ∧
      (∀ q, s.align.alternative = some q → alt = false → t.fget F.TC_ALIGN_STAT_STATE 0 = 4) ∧
      (∀ q, s.align.alternative = some q → alt = true →
        t.fget F.TC_ALIGN_STAT_STATE 0 = 1 ∧ t.fget F.TC_ALIGN_STAT_UPSTREAM 0 = q % 2 ^ F.TC_ALIGN_STAT_UPSTREAM.len))) ∧
  (∀ (tc : Nat) (s : State), ∃ t, exec (.acquireTimeout tc) s = .next t ∧ SameBut [.align, .ctl, .ev, .flasks, .fld .CLK_CHG_STAT,
      .fld .MOD_MB_SUMMARY, .fld .MOD_POUR_ID, .fld .RUN_STAT, .fld .TC_ALIGN_STAT, .fld .TC_NOW, .hostOut, .hports, .msgs, .pour, .slots] s t ∧
    (s.fget F.TC_ALIGN_STAT_STATE 0 = 1 → s.align.entered + 10000000 ≤ s.clockAt tc → s.pour.phase ≠ 1 →
      t.fget F.TC_ALIGN_STAT_STATE 0 = 5 ∧ t.fget F.CLK_CHG_STAT_ALIGN 0 = 1) ∧
    (s.fget F.TC_ALIGN_STAT_STATE 0 ≠ 1 → SameBut [.fld .TC_NOW] s t)) ∧
  (∀ (tc : Nat) (s : State), ∃ t, exec (.holdoverErrorLimit tc) s = .next t ∧ SameBut [.align, .ctl, .ev, .flasks, .fld .CLK_CHG_STAT,
      .fld .MOD_MB_SUMMARY, .fld .MOD_POUR_ID, .fld .RUN_STAT, .fld .TC_ALIGN_STAT, .fld .TC_NOW, .hostOut, .hports, .msgs, .pour, .slots] s t ∧
    (s.fget F.TC_ALIGN_STAT_STATE 0 = 4 → s.pour.phase ≠ 1 →
      (toInt 16 (s.fget F.TC_ALIGN_STAT_ERROR 0)).natAbs + (s.clockAt tc - s.align.entered) / 20000 ≥ 6000 →
      t.fget F.TC_ALIGN_STAT_STATE 0 = 5 ∧ t.fget F.CLK_CHG_STAT_ALIGN 0 = 1) ∧
    (s.fget F.TC_ALIGN_STAT_STATE 0 ≠ 4 → SameBut [.fld .TC_NOW] s t))

/-- While the grid runs, HOLD_POINT_START moves to the next hold point of a frame, bubbled as the frame's bubbles say, and FRAME_BOUNDARY starts the
next frame with hold point 0 at its time. A flask that is due enters RUN on every core of its Mould, and its epoch is used up. Where its occasion
is absent each command only moves the time on. (R74, R75, R76, R90, R238, R420) -/
def Obligations.GridTimeCommandsAct : Prop :=
  (∀ (tc : Nat) (s : State), ∃ t, exec (.holdPointStart tc) s = .next t ∧ SameBut [.fld .SPR_STAT, .fld .TC_FRAME, .fld .TC_NOW, .gclk] s t ∧ t.tc =
      s.clockAt tc ∧
    (s.gclk.running = true → s.fget F.TC_FRAME_HOLD 0 + 1 < 64 →
      t.fget F.TC_FRAME_HOLD 0 = s.fget F.TC_FRAME_HOLD 0 + 1 ∧
      t.gclk.bubbled = bubbled (s.fget F.CLK_PSTEP_BUBBLES 0) (s.fget F.TC_FRAME_HOLD 0 + 1)) ∧
    (s.gclk.running = false ∨ 64 ≤ s.fget F.TC_FRAME_HOLD 0 + 1 → SameBut [.fld .TC_NOW] s t)) ∧
  (∀ (tc : Nat) (s : State), ∃ t, exec (.frameBoundary tc) s = .next t ∧ SameBut [.dbg, .flasks, .fld .CORE_STAT, .fld .DBG_HOLD,
      .fld .MOD_MB_SUMMARY, .fld .PEP_CTL, .fld .PEP_STAT, .fld .PWR_VMIN_STAT, .fld .SPR_STAT, .fld .TC_FRAME, .fld .TC_FRAME_TC, .fld .TC_NOW,
      .gclk, .hostOut, .hports, .pep, .power, .slots] s t ∧ t.tc = s.clockAt tc ∧
    (s.gclk.running = true → s.fget F.TC_FRAME_TC_TC 0 < s.clockAt tc →
      t.fget F.TC_FRAME_FRAME 0 = (s.fget F.TC_FRAME_FRAME 0 + 1) % 2 ^ F.TC_FRAME_FRAME.len ∧
      t.fget F.TC_FRAME_TC_TC 0 = s.clockAt tc ∧ t.fget F.TC_FRAME_HOLD 0 = 0) ∧
    (s.gclk.running = false ∨ s.clockAt tc ≤ s.fget F.TC_FRAME_TC_TC 0 → SameBut [.fld .TC_NOW] s t)) ∧
  (∀ (f : FlaskId) (tc : Nat) (s : State), ∃ t, exec (.flaskEpochStart f tc) s = .next t ∧ SameBut [.cores, .flasks, .fld .CORE_SC, .fld .CORE_SEQ,
      .fld .CORE_STAT, .fld .MOD_MB_SUMMARY, .fld .SPR_STAT, .fld .TC_FRAME, .fld .TC_FRAME_TC, .fld .TC_NOW, .gclk, .hostOut, .hports, .slots] s t
      ∧
    t.tc = s.clockAt tc ∧
    (∀ at_, (s.flask f.val).startAt = some at_ → at_ ≤ s.clockAt tc → s.startable f.val = true → s.svc.thermTrip = false →
      (s.flask f.val).gridStart = true → s.running = [] →
      (t.flask f.val).startAt = none ∧ t.gclk.running = true ∧ t.fget F.TC_FRAME_TC_TC 0 = s.clockAt tc ∧
      ∀ p ∈ s.mouldPhys f.val, t.coreState p = 3) ∧
    ((s.flask f.val).startAt = none → SameBut [.fld .TC_NOW] s t))

/-- A good copy of an ARM is taken whole, with the reason for not acknowledging it; an equal copy changes nothing and a copy with a bad CRC is noted
while none is held; an acknowledgement is counted for its port. At the arm deadline the master sends GO where every acknowledgement came and
WITHDRAW otherwise; a region holds GO only for a window it acknowledged; WITHDRAW ends a window; a pour module without either at the deadline
drops its window and notes it. At its time a decision with GO comes into force with P-step, temper and bubbles, and the change epoch advances; one
without GO changes nothing in force; the window is over in both cases. (R80, R81, R82, R83, R85, R86, R238) -/
def Obligations.SynchronousChangeCommandsAct : Prop :=
  (∀ (d : Decision) (off reg : Bool) (s : State), ∃ t, exec (.arm d off reg) s = .next t ∧ SameBut [.dec, .ev, .flasks, .fld .CLK_ARM,
      .fld .CLK_ARM_TARGET, .fld .CLK_CHG_STAT, .fld .PWR_CLUSTER_c, .msgs] s t ∧
    (d.crcOk = true → s.dec.arm = none →
      t.dec.arm = some d ∧ t.fget F.CLK_ARM_VALID 0 = 1 ∧ t.fget F.CLK_ARM_SEQ 0 = d.seq % 2 ^ F.CLK_ARM_SEQ.len ∧
      t.fget F.CLK_ARM_TARGET_T 0 = d.target % 2 ^ F.CLK_ARM_TARGET_T.len ∧ t.fget F.CLK_ARM_NACK_REASON 0 = s.nackReason d off reg ∧
      t.fget F.CLK_ARM_ACKED 0 = b2n (s.nackReason d off reg == 0)) ∧
    (d.crcOk = true → ∀ a, s.dec.arm = some a → sameDecision a d = true → t = s) ∧
    (d.crcOk = false → s.fget F.CLK_ARM_VALID 0 = 0 → SameBut [.fld .CLK_ARM] s t ∧ t.fget F.CLK_ARM_NACK_REASON 0 = 1)) ∧
  (∀ (p : PortId) (n : Nat) (s : State), ∃ t, exec (.ack p n) s = .next t ∧ SameBut [.ctl, .dec, .msgs] s t ∧
    (∀ d, s.dec.arm = some d → d.seq = n → p.val ∈ t.dec.childAcks) ∧
    (∀ r, s.ctl.armed = some r → r.seq = n → p.val ∈ t.ctl.childAcks) ∧
    (s.dec.arm = none → s.ctl.armed = none → t = s)) ∧
  (∀ (tc : Nat) (s : State), ∃ t, exec (.armDeadline tc) s = .next t ∧ SameBut [.ctl, .dbg, .dec, .ev, .flasks, .fld .CLK_ARM, .fld .CLK_CHG_STAT,
      .fld .DBG_HOLD, .fld .MOD_MB_SUMMARY, .fld .PWR_CLUSTER_c, .fld .TC_NOW, .hostOut, .hports, .msgs, .resp, .slots] s t ∧ t.tc = s.clockAt tc ∧
    (∀ d, s.ctl.armed = none → s.dec.arm = some d → s.isMaster = true → s.fget F.CLK_ARM_GO 0 = 0 → s.fget F.CLK_ARM_WITHDRAWN 0 = 0 →
      (s.dec.ackSent = true → t.fget F.CLK_ARM_GO 0 = 1 ∧ Sent s t toTrees .go [d.seq, d.pstep, d.temper, d.bubbles, d.target, d.tag]) ∧
      (s.dec.ackSent = false → s.fget F.CLK_ARM_VALID 0 = 1 → t.fget F.CLK_ARM_WITHDRAWN 0 = 1 ∧ t.fget F.CLK_ARM_GO 0 = 0)) ∧
    (s.ctl.armed = none → s.dec.arm = none → SameBut [.fld .TC_NOW] s t)) ∧
  (∀ (r : Decision) (s : State), ∃ t, exec (.go r) s = .next t ∧ SameBut [.dec, .ev, .flasks, .fld .CLK_ARM, .fld .CLK_CHG_STAT, .msgs] s t ∧
    (∀ d, s.dec.arm = some d → r.crcOk = true → sameDecision d r = true → s.fget F.CLK_ARM_VALID 0 = 1 → s.fget F.CLK_ARM_GO 0 = 0 →
      s.fget F.CLK_ARM_WITHDRAWN 0 = 0 → t.fget F.CLK_ARM_GO 0 = b2n (s.flag F.CLK_ARM_ACKED 0) ∧
      Sent s t toTrees .go [d.seq, d.pstep, d.temper, d.bubbles, d.target, d.tag]) ∧
    (s.dec.arm = none ∨ r.crcOk = false → t = s)) ∧
  (∀ (r : Decision) (s : State), ∃ t, exec (.withdraw r) s = .next t ∧ SameBut [.dec, .fld .CLK_ARM, .fld .CLK_CHG_STAT, .fld .PWR_CLUSTER_c, .msgs]
      s t ∧
    (∀ d, s.dec.arm = some d → r.crcOk = true → r.seq = d.seq → s.fget F.CLK_ARM_VALID 0 = 1 → s.fget F.CLK_ARM_WITHDRAWN 0 = 0 →
      t.fget F.CLK_ARM_WITHDRAWN 0 = 1 ∧ t.fget F.CLK_ARM_GO 0 = 0 ∧
      t.fget F.CLK_CHG_STAT_WITHDRAWN 0 = (s.fget F.CLK_CHG_STAT_WITHDRAWN 0 + 1) % 2 ^ F.CLK_CHG_STAT_WITHDRAWN.len) ∧
    (s.dec.arm = none ∨ r.crcOk = false → t = s)) ∧
  (∀ (tc : Nat) (s : State), ∃ t, exec (.goDeadline tc) s = .next t ∧ SameBut [.ctl, .dec, .ev, .flasks, .fld .CLK_ARM, .fld .CLK_CHG_STAT,
      .fld .PWR_CLUSTER_c, .fld .TC_NOW, .msgs] s t ∧ t.tc = s.clockAt tc ∧
    (s.pourTag ≠ 0 → s.fget F.CLK_ARM_VALID 0 = 0 →
      t.fget F.CLK_CHG_STAT_MISSING 0 = 1 ∧ t.dec.arm = none ∧ t.fget F.CLK_ARM_VALID 0 = 0) ∧
    (s.pourTag = 0 → SameBut [.fld .TC_NOW] s t)) ∧
  (∀ (tc : Nat) (relockFail : List Nat) (s : State), ∃ t, exec (.decisionCommit tc relockFail) s = .next t ∧
    SameBut [.cores, .dbg, .dec, .ev, .faults, .flasks, .fld .CLK_ARM, .fld .CLK_CHG_STAT, .fld .CLK_PSTEP, .fld .CLK_STOP_STAT, .fld .CLU_CORES,
        .fld .CORE_MOULD, .fld .CORE_SC, .fld .CORE_SEQ, .fld .CORE_STAT, .fld .DBG_HOLD, .fld .LDL_CTX_n, .fld .ME_STAT, .fld .MOD_BOOT_ERR,
        .fld .MOD_FAULT_STAT, .fld .MOD_GRID_STAT, .fld .MOD_MB_SUMMARY, .fld .MOD_ROW_MAP_r, .fld .PWR_CLUSTER_c, .fld .PWR_RISER_LEAD,
        .fld .QUEUE_BASE, .fld .QUEUE_CTL, .fld .QUEUE_DB, .fld .QUEUE_LEVEL, .fld .QUEUE_STAT, .fld .QUEUE_WM, .fld .SE_STAT, .fld .SPD_ELASTIC,
        .fld .SPD_STAT, .fld .SPR_STAT, .fld .TC_FRAME, .fld .TC_NOW, .fld .VU_STAT, .gclk, .hostOut, .hports, .ldls, .mes, .msgs, .queues, .ses,
        .slag, .slots, .vus] s t ∧ t.tc = s.clockAt tc ∧
    (∀ d, s.dec.arm = some d → d.target ≤ s.clockAt tc → s.dec.conflict = false → bandOf d.pstep = bandOf s.pstep →
      t.dec.arm = none ∧ t.fget F.CLK_ARM_VALID 0 = 0 ∧
      (s.fget F.CLK_ARM_GO 0 = 1 → t.fget F.CLK_PSTEP_CURRENT 0 = d.pstep % 2 ^ F.CLK_PSTEP_CURRENT.len ∧
        t.fget F.CLK_PSTEP_TEMPER 0 = d.temper % 2 ^ F.CLK_PSTEP_TEMPER.len ∧
        t.fget F.CLK_PSTEP_BUBBLES 0 = d.bubbles % 2 ^ F.CLK_PSTEP_BUBBLES.len ∧
        t.fget F.TC_FRAME_EPOCH 0 = (s.fget F.TC_FRAME_EPOCH 0 + 1) % 2 ^ F.TC_FRAME_EPOCH.len) ∧
      (s.fget F.CLK_ARM_GO 0 = 0 → SameBut [.dec, .fld .CLK_ARM, .fld .TC_NOW] s t)) ∧
    (s.dec.arm = none → SameBut [.fld .TC_NOW] s t))

/-- The loss of the reference is noted with its time and told once, and 1 s later the backup takes over; its return clears both and is told.
TAP_BYPASS, TAP_IDCODE and TAP_SAMPLE_PRELOAD select their instruction, the second shifts the identity out and the third the pins in and the
preload values into the cells; TAP_EXTEST from another instruction holds the module with IN_PROGRESS 1. LIFE_HOUR adds an hour to POWER_HOURS,
saturating, and the equivalent of its temperature to EQ_HOURS. (R696, R700, R703, R704, R709, R710) -/
def Obligations.ReferenceTapAndLifeCommandsAct : Prop :=
  (∀ (tc : Nat) (s : State), ∃ t, exec (.refclkLost tc) s = .next t ∧ SameBut [.ev, .fld .TC_NOW, .svc] s t ∧
    t.tc = s.clockAt tc ∧
    (s.svc.refLost = none → t.svc = { s.svc with refLost := some t.tc } ∧ Raised s t 0x0B09 0) ∧
    (∀ a, s.svc.refLost = some a → SameBut [.fld .TC_NOW] s t)) ∧
  (∀ (tc : Nat) (s : State), ∃ t, exec (.refclkBackupSwitch tc) s = .next t ∧ SameBut [.fld .TC_NOW, .svc] s t ∧
    t.tc = s.clockAt tc ∧
    (∀ a, s.svc.refLost = some a → a + 1000000000 ≤ s.clockAt tc → t.svc = { s.svc with backup := true }) ∧
    (s.svc.refLost = none → SameBut [.fld .TC_NOW] s t)) ∧
  (∀ (tc : Nat) (s : State), ∃ t, exec (.refclkRestored tc) s = .next t ∧ SameBut [.ev, .fld .TC_NOW, .svc] s t ∧
    t.tc = s.clockAt tc ∧
    (∀ a, s.svc.refLost = some a → t.svc = { s.svc with refLost := none, backup := false } ∧ Raised s t 0x0B09 0) ∧
    (s.svc.refLost = none → SameBut [.fld .TC_NOW] s t)) ∧
  (∀ (env : BootEnv) (tc : Nat) (s : State), ∃ t, exec (.tapBypass env tc) s = .next t ∧ SameBut [.align, .boot, .caches, .cores, .ctl, .dbg, .dec,
      .dram, .dramPoison, .dramWritten, .ev, .faults, .flasks, .fld .CLK_PSTEP, .fld .CLU_CORES, .fld .CORE_STAT, .fld .DBG_STAT, .fld .ME_CAP,
      .fld .MOD_APERTURE_CTL, .fld .MOD_BOOT_ERR, .fld .MOD_BOOT_STAT, .fld .MOD_FLASH_INFO, .fld .MOD_GRID_STAT, .fld .MOD_MB_SUMMARY,
      .fld .MOD_PORT_BOOT, .fld .MOD_POUR_ID, .fld .MOD_RESET_STAT, .fld .MOD_ROW_MAP_r, .fld .PST_CORE_PWR_r, .fld .PST_PAD_HOLD, .fld .PST_RAMP,
      .fld .PST_STAT, .fld .PWR_CLUSTER_c, .fld .PWR_RISER_LEAD, .fld .PWR_TILE_t, .fld .RUN_LANE_l, .fld .RUN_STAT, .fld .SAF_STAT, .fld .SPD_STAT,
      .fld .TC_ALIGN_STAT, .fld .TC_NOW, .flds, .gclk, .hostOut, .hports, .ldls, .mes, .msgs, .msix, .pep, .ports, .pour, .power, .pst, .queues,
      .refreshOnly, .refreshed, .rings, .saf, .seam, .ses, .slag, .slots, .spd, .spdPoison, .svc, .vus] s t ∧
    (s.svc.tap ≠ .extest → t = { s with svc := { s.svc with tap := .bypass } }) ∧
    (s.svc.tap = .extest → t.svc.tap = .bypass ∧ t.fget F.MOD_RESET_STAT_LAST 0 = 1)) ∧
  (∀ (env : BootEnv) (tc : Nat) (s : State), ∃ t, exec (.tapIdcode env tc) s = .next t ∧ SameBut [.align, .boot, .caches, .cores, .ctl, .dbg, .dec,
      .dram, .dramPoison, .dramWritten, .ev, .faults, .flasks, .fld .CLK_PSTEP, .fld .CLU_CORES, .fld .CORE_STAT, .fld .DBG_STAT, .fld .ME_CAP,
      .fld .MOD_APERTURE_CTL, .fld .MOD_BOOT_ERR, .fld .MOD_BOOT_STAT, .fld .MOD_FLASH_INFO, .fld .MOD_GRID_STAT, .fld .MOD_MB_SUMMARY,
      .fld .MOD_PORT_BOOT, .fld .MOD_POUR_ID, .fld .MOD_RESET_STAT, .fld .MOD_ROW_MAP_r, .fld .PST_CORE_PWR_r, .fld .PST_PAD_HOLD, .fld .PST_RAMP,
      .fld .PST_STAT, .fld .PWR_CLUSTER_c, .fld .PWR_RISER_LEAD, .fld .PWR_TILE_t, .fld .RUN_LANE_l, .fld .RUN_STAT, .fld .SAF_STAT, .fld .SPD_STAT,
      .fld .TC_ALIGN_STAT, .fld .TC_NOW, .flds, .gclk, .hostOut, .hports, .ldls, .mes, .msgs, .msix, .pep, .ports, .pour, .power, .pst, .queues,
      .refreshOnly, .refreshed, .resp, .rings, .saf, .seam, .ses, .slag, .slots, .spd, .spdPoison, .svc, .vus] s t ∧
    (s.svc.tap ≠ .extest → t.svc = { s.svc with tap := .idcode } ∧ SameBut [.svc, .resp] s t) ∧
    t.resp = some { bytes := natLe 4 (3 * 2 ^ 28 + 0x0020 * 2 ^ 12 + Config.jedecId % 2 ^ 11 * 2 + 1), poison := false, status := 0 }) ∧
  (∀ (pins preload : List Bool) (env : BootEnv) (tc : Nat) (s : State), ∃ t, exec (.tapSamplePreload pins preload env tc) s = .next t ∧ SameBut
      [.align, .boot, .caches, .cores, .ctl, .dbg, .dec, .dram, .dramPoison, .dramWritten, .ev, .faults, .flasks, .fld .CLK_PSTEP, .fld .CLU_CORES,
      .fld .CORE_STAT, .fld .DBG_STAT, .fld .ME_CAP, .fld .MOD_APERTURE_CTL, .fld .MOD_BOOT_ERR, .fld .MOD_BOOT_STAT, .fld .MOD_FLASH_INFO,
      .fld .MOD_GRID_STAT, .fld .MOD_MB_SUMMARY, .fld .MOD_PORT_BOOT, .fld .MOD_POUR_ID, .fld .MOD_RESET_STAT, .fld .MOD_ROW_MAP_r,
      .fld .PST_CORE_PWR_r, .fld .PST_PAD_HOLD, .fld .PST_RAMP, .fld .PST_STAT, .fld .PWR_CLUSTER_c, .fld .PWR_RISER_LEAD, .fld .PWR_TILE_t,
      .fld .RUN_LANE_l, .fld .RUN_STAT, .fld .SAF_STAT, .fld .SPD_STAT, .fld .TC_ALIGN_STAT, .fld .TC_NOW, .flds, .gclk, .hostOut, .hports, .ldls,
      .mes, .msgs, .msix, .pep, .ports, .pour, .power, .pst, .queues, .refreshOnly, .refreshed, .resp, .rings, .saf, .seam, .ses, .slag, .slots,
      .spd, .spdPoison, .svc, .vus] s t ∧
    (s.svc.tap ≠ .extest → t.svc = { s.svc with tap := .sample, cells := preload } ∧ SameBut [.svc, .resp] s t) ∧
    t.svc.cells = preload ∧
    (∃ bs, t.resp = some { bytes := bs, poison := false, status := 0 } ∧ bs.length = (pins.length + 7) / 8)) ∧
  (∀ (env : BootEnv) (tc : Nat) (s : State), ∃ t, exec (.tapExtest env tc) s = .next t ∧ SameBut [.align, .boot, .caches, .cores, .ctl, .dbg, .dec,
      .dram, .dramPoison, .dramWritten, .ev, .faults, .flasks, .fld .CLK_PSTEP, .fld .CLU_CORES, .fld .CORE_MOULD, .fld .CORE_SC, .fld .CORE_SEQ,
      .fld .CORE_STAT, .fld .DBG_HOLD, .fld .DBG_STAT, .fld .LDL_CTXW_n, .fld .LDL_CTX_n, .fld .LDL_ERR, .fld .LDL_STAT, .fld .ME_CAP,
      .fld .ME_STAT, .fld .MOD_APERTURE_CTL, .fld .MOD_BOOT_ERR, .fld .MOD_BOOT_STAT, .fld .MOD_FAULT_STAT, .fld .MOD_FLASH_INFO,
      .fld .MOD_GRID_STAT, .fld .MOD_MB_SUMMARY, .fld .MOD_PORT_BOOT, .fld .MOD_POUR_ID, .fld .MOD_RESET_STAT, .fld .MOD_ROW_MAP_r,
      .fld .PST_CORE_PWR_r, .fld .PST_PAD_HOLD, .fld .PST_RAMP, .fld .PST_STAT, .fld .PWR_CLUSTER_c, .fld .PWR_RISER_LEAD, .fld .PWR_TILE_t,
      .fld .QUEUE_BASE, .fld .QUEUE_CTL, .fld .QUEUE_DB, .fld .QUEUE_LEVEL, .fld .QUEUE_STAT, .fld .QUEUE_WM, .fld .RUN_ERR, .fld .RUN_LANE_l,
      .fld .RUN_STAT, .fld .SAF_STAT, .fld .SE_STAT, .fld .SPD_ELASTIC, .fld .SPD_STAT, .fld .SPR_STAT, .fld .TC_ALIGN_STAT, .fld .TC_NOW,
      .fld .VU_STAT, .flds, .freeCtr, .gclk, .hostOut, .hports, .ldls, .mes, .msgs, .msix, .pep, .ports, .pour, .power, .pst, .queues, .refreshOnly,
      .refreshed, .rings, .saf, .seam, .ses, .slag, .slots, .spd, .spdPoison, .svc, .vus] s t ∧
    (s.svc.tap = .extest → t = s) ∧
    (s.svc.tap ≠ .extest → t.tc = s.clockAt tc ∧ t.svc.tap = .extest ∧ t.fget F.MOD_RESET_STAT_IN_PROGRESS 0 = 1)) ∧
  (∀ (tj10 : Int) (fast : Bool) (tc : Nat) (s : State), ∃ t, exec (.lifeHour tj10 fast tc) s = .next t ∧ SameBut [.ev, .fld .MOD_LIFE, .fld .TC_NOW,
      .freeCtr, .svc] s t ∧
    t.tc = s.clockAt tc ∧
    t.fget F.MOD_LIFE_POWER_HOURS 0 = min (s.fget F.MOD_LIFE_POWER_HOURS 0 + 1) (2 ^ F.MOD_LIFE_POWER_HOURS.len - 1) ∧
    t.fget F.MOD_LIFE_EQ_HOURS 0 = min (s.fget F.MOD_LIFE_EQ_HOURS 0 + (s.svc.lifeFrac + Machine.lifeHour tj10 fast) / 2 ^ 32) (2 ^
        F.MOD_LIFE_EQ_HOURS.len - 1) ∧
    t.svc.lifeFrac = (s.svc.lifeFrac + Machine.lifeHour tj10 fast) % 2 ^ 32)

/-- POWER_ON with RESET_N low waits at step 2; from STANDBY it counts the exit and clears the latch. Otherwise, as after RESET_N_RELEASE of a held
module, good fuses and no failing step lead to READY or RECOVERY, and bad fuses end in stage 1 with STAGE_FAULT. MODULE_RESET takes 10 µs and no
STANDBY, and holds the module. MB_COMPUTE_RESET and the watchdog in stages 3 to 7 count their reset and record its cause. MB_FW_STAGE stores an
image that passes the check, or fails with the status of the check; MB_FW_ACTIVATE makes the staged slot active with TRIAL, or fails with 0x0210.
(R572, R578, R580, R591, R592, R595, R596, R597, R699) -/
def Obligations.ResetAndFirmwareCommandsAct : Prop :=
  (∀ (env : BootEnv) (x : Straps) (low : Bool) (s : State), ∃ t, exec (.powerOn env x low) s = .next t ∧ SameBut [.align, .boot, .caches, .cores,
      .ctl, .dbg, .dec, .dram, .dramPoison, .dramWritten, .ev, .faults, .flasks, .fld .CLK_PSTEP, .fld .CLU_CORES, .fld .CORE_STAT, .fld .DBG_STAT,
      .fld .ME_CAP, .fld .MOD_APERTURE_CTL, .fld .MOD_BOOT_ERR, .fld .MOD_BOOT_STAT, .fld .MOD_FLASH_INFO, .fld .MOD_GRID_STAT,
      .fld .MOD_MB_SUMMARY, .fld .MOD_PORT_BOOT, .fld .MOD_POUR_ID, .fld .MOD_ROW_MAP_r, .fld .PST_CORE_PWR_r, .fld .PST_PAD_HOLD, .fld .PST_RAMP,
      .fld .PST_STAT, .fld .PST_STAT_TICK_TC0, .fld .PST_WAKE_STAT, .fld .PWR_CLUSTER_c, .fld .PWR_RISER_LEAD, .fld .PWR_TILE_t, .fld .RUN_LANE_l,
      .fld .RUN_STAT, .fld .SAF_SECONDS, .fld .SAF_STAT, .fld .SAF_TAMPER, .fld .SPD_STAT, .fld .TC_ALIGN_STAT, .fld .TC_NOW, .flds, .gclk,
      .hostOut, .hports, .ldls, .mes, .msgs, .msix, .pep, .ports, .pour, .power, .pst, .queues, .refreshOnly, .refreshed, .rings, .saf, .seam, .ses,
      .slag, .slots, .spd, .spdPoison, .svc, .vus] s t ∧
    (low = true → t.boot.held = 2) ∧
    (s.fget F.PST_STAT_STATE 0 = 4 → t.fget F.PST_WAKE_STAT_LATCH 0 = 0 ∧ t.fget F.PST_WAKE_STAT_EXITS 0 = (s.fget F.PST_WAKE_STAT_EXITS 0 + 1) % 2
        ^ F.PST_WAKE_STAT_EXITS.len) ∧
    (low = false → env.fusesOk = false → t.fget F.MOD_BOOT_STAT_STAGE 0 = 1 ∧ t.fget F.MOD_BOOT_ERR_STAGE_FAULT 0 = 1) ∧
    (low = false → env.fusesOk = true → env.stageFault = none → t.fget F.MOD_BOOT_STAT_STAGE 0 = 8 ∨ (t.fget F.MOD_BOOT_STAT_STAGE 0 = 7 ∧ t.fget
        F.MOD_BOOT_STAT_READY 0 = 1))) ∧
  (∀ (lowNs tc : Nat) (s : State), ∃ t, exec (.moduleReset lowNs tc) s = .next t ∧ SameBut [.align, .boot, .caches, .cores, .ctl, .dbg, .dec, .dram,
      .dramPoison, .dramWritten, .ev, .faults, .flasks, .fld .MOD_RESET_STAT, .fld .SAF_STAT, .fld .TC_NOW, .flds, .gclk, .hports, .ldls, .mes,
      .msix, .pep, .ports, .pour, .power, .pst, .queues, .refreshOnly, .refreshed, .rings, .saf, .seam, .ses, .slag, .slots, .spd, .spdPoison, .svc,
      .vus] s t ∧
    (10000 ≤ lowNs → s.fget F.PST_STAT_STATE 0 ≠ 4 → t.tc = s.clockAt tc ∧ t.boot.held = 1 ∧ t.fget F.MOD_RESET_STAT_LAST 0 = 1) ∧
    (lowNs < 10000 ∨ s.fget F.PST_STAT_STATE 0 = 4 → t = s)) ∧
  (∀ (env : BootEnv) (x : Straps) (tc : Nat) (s : State), ∃ t, exec (.resetNRelease env x tc) s = .next t ∧ SameBut [.align, .boot, .cores, .ctl,
      .dbg, .ev, .fld .CLK_PSTEP, .fld .CLU_CORES, .fld .CORE_STAT, .fld .DBG_STAT, .fld .ME_CAP, .fld .MOD_APERTURE_CTL, .fld .MOD_BOOT_ERR,
      .fld .MOD_BOOT_STAT, .fld .MOD_FLASH_INFO, .fld .MOD_GRID_STAT, .fld .MOD_MB_SUMMARY, .fld .MOD_PORT_BOOT, .fld .MOD_POUR_ID,
      .fld .MOD_ROW_MAP_r, .fld .PST_CORE_PWR_r, .fld .PST_PAD_HOLD, .fld .PST_RAMP, .fld .PST_STAT, .fld .PWR_CLUSTER_c, .fld .PWR_RISER_LEAD,
      .fld .PWR_TILE_t, .fld .RUN_LANE_l, .fld .RUN_STAT, .fld .SAF_STAT, .fld .SPD_STAT, .fld .TC_ALIGN_STAT, .fld .TC_NOW, .hostOut, .hports,
      .msgs, .ports, .pour, .pst, .saf, .seam, .slag, .slots, .svc] s t ∧
    (s.boot.held = 0 → t = s) ∧
    (s.boot.held ≠ 0 → t.tc = s.clockAt tc ∧ t.boot.held = 0 ∧ t.svc.sbAddr = x.sbAddr.val) ∧
    (s.boot.held ≠ 0 → env.fusesOk = false → s.fget F.MOD_BOOT_ERR_STAGE_FAULT 0 = 0 → t.fget F.MOD_BOOT_STAT_STAGE 0 = 1 ∧ t.fget
        F.MOD_BOOT_ERR_STAGE_FAULT 0 = 1) ∧
    (s.boot.held ≠ 0 → env.fusesOk = true → env.stageFault = none → t.fget F.MOD_BOOT_STAT_STAGE 0 = 8 ∨ (t.fget F.MOD_BOOT_STAT_STAGE 0 = 7 ∧
        t.fget F.MOD_BOOT_STAT_READY 0 = 1))) ∧
  (∀ (k : Fin 17) (env : BootEnv) (tc : Nat) (s : State), ∃ t, exec (.mbComputeReset k env tc) s = .next t ∧ SameBut [.caches, .cores, .dbg, .dram,
      .dramPoison, .dramWritten, .ev, .faults, .flasks, .fld .CLK_PSTEP, .fld .CLU_CORES, .fld .CORE_MOULD, .fld .CORE_SC, .fld .CORE_SEQ,
      .fld .CORE_STAT, .fld .DBG_HOLD, .fld .LDL_CTXW_n, .fld .LDL_CTX_n, .fld .LDL_ERR, .fld .LDL_STAT, .fld .ME_CAP, .fld .ME_STAT,
      .fld .MOD_BOOT_ERR, .fld .MOD_FAULT_STAT, .fld .MOD_GRID_STAT, .fld .MOD_MB_SUMMARY, .fld .MOD_RESET_STAT, .fld .MOD_ROW_MAP_r,
      .fld .PST_CORE_PWR_r, .fld .PST_RAMP, .fld .PWR_CLUSTER_c, .fld .PWR_RISER_LEAD, .fld .PWR_TILE_t, .fld .QUEUE_BASE, .fld .QUEUE_CTL,
      .fld .QUEUE_DB, .fld .QUEUE_LEVEL, .fld .QUEUE_STAT, .fld .QUEUE_WM, .fld .RUN_ERR, .fld .RUN_LANE_l, .fld .RUN_STAT, .fld .SAF_STAT,
      .fld .SE_STAT, .fld .SPD_ELASTIC, .fld .SPD_STAT, .fld .SPR_STAT, .fld .TC_NOW, .fld .VU_STAT, .freeCtr, .hostOut, .hports, .ldls, .mes,
      .msgs, .ports, .pour, .power, .pst, .queues, .saf, .seam, .ses, .slag, .slots, .spd, .spdPoison, .svc, .vus] s t ∧
    t.tc = s.clockAt tc ∧
    (s.mbRuns k.val 0x0302 = true → t.fget F.MOD_RESET_STAT_LAST 0 = 4 ∧ t.fget F.MOD_RESET_STAT_IN_PROGRESS 0 = 0 ∧ t.fget
        F.MOD_RESET_STAT_COMPUTE_RESETS 0 = (s.fget F.MOD_RESET_STAT_COMPUTE_RESETS 0 + 1) % 2 ^ F.MOD_RESET_STAT_COMPUTE_RESETS.len) ∧
    (s.mbRuns k.val 0x0302 = false → SameBut [.fld .TC_NOW] s t)) ∧
  (∀ (env : BootEnv) (tc : Nat) (s : State), ∃ t, exec (.watchdogExpiry env tc) s = .next t ∧ SameBut [.align, .boot, .caches, .cores, .ctl, .dbg,
      .dram, .dramPoison, .dramWritten, .ev, .faults, .flasks, .fld .CLK_PSTEP, .fld .CLU_CORES, .fld .CORE_MOULD, .fld .CORE_SC, .fld .CORE_SEQ,
      .fld .CORE_STAT, .fld .DBG_HOLD, .fld .DBG_STAT, .fld .LDL_CTXW_n, .fld .LDL_CTX_n, .fld .LDL_ERR, .fld .LDL_STAT, .fld .ME_CAP,
      .fld .ME_STAT, .fld .MOD_APERTURE_CTL, .fld .MOD_BOOT_ERR, .fld .MOD_BOOT_STAT, .fld .MOD_EVR_HEAD_n, .fld .MOD_EVR_TAIL_n,
      .fld .MOD_FAULT_STAT, .fld .MOD_FLASH_INFO, .fld .MOD_GRID_STAT, .fld .MOD_MB_SUMMARY, .fld .MOD_POUR_ID, .fld .MOD_RESET_STAT,
      .fld .MOD_ROW_MAP_r, .fld .PST_CORE_PWR_r, .fld .PST_RAMP, .fld .PWR_CLUSTER_c, .fld .PWR_RISER_LEAD, .fld .PWR_TILE_t, .fld .QUEUE_BASE,
      .fld .QUEUE_CTL, .fld .QUEUE_DB, .fld .QUEUE_LEVEL, .fld .QUEUE_STAT, .fld .QUEUE_WM, .fld .RUN_ERR, .fld .RUN_LANE_l, .fld .RUN_STAT,
      .fld .SAF_SLOT_FLASK, .fld .SAF_SLOT_ROLE, .fld .SAF_STAT, .fld .SE_STAT, .fld .SPD_ELASTIC, .fld .SPD_STAT, .fld .SPR_STAT,
      .fld .TC_ALIGN_STAT, .fld .TC_NOW, .fld .VU_STAT, .freeCtr, .hostOut, .hports, .ldls, .mes, .msgs, .ports, .pour, .power, .pst, .queues,
      .rings, .saf, .seam, .ses, .slag, .slots, .spd, .spdPoison, .svc, .vus] s t ∧
    (3 ≤ s.fget F.MOD_BOOT_STAT_STAGE 0 → s.fget F.MOD_BOOT_STAT_STAGE 0 ≤ 7 → s.boot.held = 0 → t.tc = s.clockAt tc ∧ t.fget F.MOD_RESET_STAT_LAST
        0 = 3 ∧ t.fget F.MOD_RESET_STAT_MGMT_RESETS 0 = (s.fget F.MOD_RESET_STAT_MGMT_RESETS 0 + 1) % 2 ^ F.MOD_RESET_STAT_MGMT_RESETS.len) ∧
    (s.fget F.MOD_BOOT_STAT_STAGE 0 < 3 ∨ 7 < s.fget F.MOD_BOOT_STAT_STAGE 0 ∨ s.boot.held ≠ 0 → t = s)) ∧
  (∀ (k : Fin 17) (sig back : Bool) (s : State), ∃ t, exec (.mbFwStage k sig back) s = .next t ∧ SameBut [.boot, .ev, .fld .MOD_BOOT_ERR,
      .fld .MOD_FLASH_INFO, .fld .MOD_MB_SUMMARY, .hostOut, .hports, .slots] s t ∧
    (s.mbRuns k.val 0x0601 = true → s.rangeOk 16 (leAt (s.slot k.val).args 0 8) (leAt (s.slot k.val).args 8 4) = false → SlotFailed t k.val 0x0502 ∧
        t.boot = s.boot) ∧
    (s.mbRuns k.val 0x0601 = true → s.rangeOk 16 (leAt (s.slot k.val).args 0 8) (leAt (s.slot k.val).args 8 4) = true →
      s.fwCheck (s.devRd (leAt (s.slot k.val).args 0 8) (min (leAt (s.slot k.val).args 8 4) (2 ^ 24 + 1))) (leAt (s.slot k.val).args 8 4) sig = none
          → back = true →
      SlotDone t k.val 0 ∧ t.fget F.MOD_BOOT_ERR_REJECT_LAST 0 = 0 ∧ t.boot.dir.staged = 1 - s.boot.dir.active ∧ t.boot.dir.active =
          s.boot.dir.active) ∧
    (s.mbRuns k.val 0x0601 = true → ∀ r, s.rangeOk 16 (leAt (s.slot k.val).args 0 8) (leAt (s.slot k.val).args 8 4) = true →
      s.fwCheck (s.devRd (leAt (s.slot k.val).args 0 8) (min (leAt (s.slot k.val).args 8 4) (2 ^ 24 + 1))) (leAt (s.slot k.val).args 8 4) sig = some
          r → SlotFailed t k.val (rejectStatus r.1) ∧ t.boot = s.boot) ∧
    (s.mbRuns k.val 0x0601 = false → t = s)) ∧
  (∀ (k : Fin 17) (env : BootEnv) (tc : Nat) (s : State), ∃ t, exec (.mbFwActivate k env tc) s = .next t ∧ SameBut [.align, .boot, .caches, .cores,
      .ctl, .dbg, .dram, .dramPoison, .dramWritten, .ev, .faults, .flasks, .fld .CLK_PSTEP, .fld .CLU_CORES, .fld .CORE_MOULD, .fld .CORE_SC,
      .fld .CORE_SEQ, .fld .CORE_STAT, .fld .DBG_HOLD, .fld .DBG_STAT, .fld .LDL_CTXW_n, .fld .LDL_CTX_n, .fld .LDL_ERR, .fld .LDL_STAT,
      .fld .ME_CAP, .fld .ME_STAT, .fld .MOD_APERTURE_CTL, .fld .MOD_BOOT_ERR, .fld .MOD_BOOT_STAT, .fld .MOD_EVR_HEAD_n, .fld .MOD_EVR_TAIL_n,
      .fld .MOD_FAULT_STAT, .fld .MOD_FLASH_INFO, .fld .MOD_GRID_STAT, .fld .MOD_MB_SUMMARY, .fld .MOD_POUR_ID, .fld .MOD_RESET_STAT,
      .fld .MOD_ROW_MAP_r, .fld .PST_CORE_PWR_r, .fld .PST_RAMP, .fld .PWR_CLUSTER_c, .fld .PWR_RISER_LEAD, .fld .PWR_TILE_t, .fld .QUEUE_BASE,
      .fld .QUEUE_CTL, .fld .QUEUE_DB, .fld .QUEUE_LEVEL, .fld .QUEUE_STAT, .fld .QUEUE_WM, .fld .RUN_ERR, .fld .RUN_LANE_l, .fld .RUN_STAT,
      .fld .SAF_SLOT_FLASK, .fld .SAF_SLOT_ROLE, .fld .SAF_STAT, .fld .SE_STAT, .fld .SPD_ELASTIC, .fld .SPD_STAT, .fld .SPR_STAT,
      .fld .TC_ALIGN_STAT, .fld .TC_NOW, .fld .VU_STAT, .freeCtr, .hostOut, .hports, .ldls, .mes, .msgs, .ports, .pour, .power, .pst, .queues,
      .rings, .saf, .seam, .ses, .slag, .slots, .spd, .spdPoison, .svc, .vus] s t ∧
    t.tc = s.clockAt tc ∧
    (s.mbRuns k.val 0x0602 = true → s.boot.dir.staged = 0xFF → SlotFailed t k.val 0x0210 ∧ t.boot = s.boot) ∧
    (s.mbRuns k.val 0x0602 = true → s.boot.dir.staged ≠ 0xFF → leAt (s.slot k.val).args 0 1 ≠ 1 → SlotDone t k.val 0 ∧ t.boot.dir.active =
        s.boot.dir.staged % 2 ∧ t.boot.dir.trial = 1 ∧ t.boot.dir.staged = 0xFF) ∧
    (s.mbRuns k.val 0x0602 = true → s.boot.dir.staged ≠ 0xFF → leAt (s.slot k.val).args 0 1 = 1 → t.fget F.MOD_RESET_STAT_LAST 0 = 2) ∧
    (s.mbRuns k.val 0x0602 = false → SameBut [.fld .TC_NOW] s t))

/-- An on-request queues an OFF_SAFE or RETAINED domain, turns SHUTDOWN into SHUTDOWN_WAIT counting it, and withdraws a held off-request; an off-
request takes a queued domain out, holds for a ramping one and shuts an on one down. A grant takes the earliest queued request that the limits
allow into RAMPING. RAMP_DONE turns RAMPING into ON when the buckets carry it, or into SHUTDOWN where an off-request is held. SHUTDOWN_DONE ends a
shutdown. In the other states each changes nothing but the time. (R551, R553, R554, R569) -/
def Obligations.CoreDomainCommandsAct : Prop :=
  (∀ (c : CoreId) (s : State), ∃ t, exec (.coreDomainOnRequest c) s = .next t ∧ SameBut [.fld .PST_CORE_PWR_r, .fld .PST_RAMP, .pst] s t ∧
    (s.domain c.val = 0 ∨ s.domain c.val = 6 → t.domain c.val = 1 ∧ t.pst.queue = s.pst.queue ++ [c.val]) ∧
    (s.domain c.val = 4 → t.domain c.val = 5 ∧ t.pst = s.pst ∧ t.fget F.PST_RAMP_PENDING_ONS 0 = min (s.fget F.PST_RAMP_PENDING_ONS 0 + 1) (2 ^
        F.PST_RAMP_PENDING_ONS.len - 1)) ∧
    (s.domain c.val = 2 → NSet.mem t.pst.offHeld c.val = false ∧ SameBut [.pst] s t) ∧
    (s.domain c.val = 1 ∨ s.domain c.val = 3 ∨ s.domain c.val = 5 ∨ s.domain c.val = 7 → t = s)) ∧
  (∀ (c : CoreId) (s : State), ∃ t, exec (.coreDomainOffRequest c) s = .next t ∧ SameBut [.fld .PST_CORE_PWR_r, .fld .PST_RAMP, .pst] s t ∧
    (s.domain c.val = 1 → t.domain c.val = (if NSet.mem s.pst.retained c.val = true then 6 else 0) ∧ c.val ∉ t.pst.queue) ∧
    (s.domain c.val = 2 → NSet.mem t.pst.offHeld c.val = true ∧ SameBut [.pst] s t) ∧
    (s.domain c.val = 3 → t.domain c.val = 4 ∧ t.pst = s.pst) ∧
    (s.domain c.val = 0 ∨ 3 < s.domain c.val → t = s)) ∧
  (∀ (s : State), ∃ t, exec .coreDomainGrant s = .next t ∧ SameBut [.fld .PST_CORE_PWR_r, .fld .PST_RAMP, .pst] s t ∧
    (s.nextGrant = none → t = s) ∧
    (∀ p, p < 160 → s.nextGrant = some p → t.domain p = 2 ∧ t.pst.queue = s.pst.queue.filter (fun q => q != p))) ∧
  (∀ (c : CoreId) (tc : Nat) (s : State), ∃ t, exec (.coreDomainRampDone c tc) s = .next t ∧ SameBut [.fld .PST_CORE_PWR_r, .fld .PST_RAMP,
      .fld .TC_NOW, .power, .pst] s t ∧
    t.tc = s.clockAt tc ∧
    (s.domain c.val = 2 → ((s.power.refill (s.clockAt tc)).first (clusterOf c.val)).isNone = true →
      (s.power.refill (s.clockAt tc)).holds (clusterOf c.val) 32000 = true → t.domain c.val = (if NSet.mem s.pst.offHeld c.val = true then 4 else 3) ∧
      NSet.mem t.pst.offHeld c.val = false ∧ t.power = (s.power.refill (s.clockAt tc)).debit (clusterOf c.val) 32000) ∧
    (s.domain c.val ≠ 2 → SameBut [.fld .TC_NOW] s t)) ∧
  (∀ (c : CoreId) (s : State), ∃ t, exec (.coreDomainShutdownDone c) s = .next t ∧ SameBut [.fld .PST_CORE_PWR_r, .fld .PST_RAMP, .pst] s t ∧
    (s.domain c.val = 5 → t.domain c.val = 1 ∧ t.pst.queue = s.pst.queue ++ [c.val]) ∧
    (s.domain c.val = 4 → t.domain c.val = (if s.fget F.PST_STAT_PHASE 0 = 1 ∧ s.fget F.PST_STAT_TARGET 0 = 2 then 6 else 0) ∧ t.pst.queue =
        s.pst.queue) ∧
    (s.domain c.val ≠ 4 → s.domain c.val ≠ 5 → t = s))

/-- For a core that can execute, with the QOP results due written first: IDLE n takes n + 1 cycles; ISSUE relocates the descriptor and puts it in the
engine's queue, or sets ISSUE_OVERFLOW where that is full, or OP_INVALID; WAITS goes on at its target and sets LATE where the target is not later;
LOOP opens a body or, with a count of 0, skips it; BR takes 2 cycles, and LEN more to the target where taken; TMETA reads an entry; WAITA waits to
the end of its window, where WAITA_COMPARE writes whether the counter has reached the threshold, or sets ARRIVAL_LATE; HALT ends the program. A
core that cannot execute is left as it is. (R209, R210, R211, R212, R213, R214, R215, R216, R217, R222, R271) -/
def Obligations.SequencerFlowCommandsAct : Prop :=
  (∀ (c : CoreId) (n : BitVec 32) (s : State), ∃ t, exec (.seqIdle c n) s = .next t ∧ SameBut [.cores, .fld .CORE_SC, .fld .CORE_SEQ, .fld .VU_STAT]
      s t ∧
    (s.seqReady c.val = true → Advanced s t c.val (n.toNat + 1) ∧ Apart s t c.val ∧ ∀ r, t.scalar c.val r = (s.due c.val).scalar c.val r) ∧
    (s.seqReady c.val = false → t = s)) ∧
  (∀ (c : CoreId) (unit : Fin 72) (index : Fin 4096) (reloc : Fin 32) (mask : BitVec 9) (s : State), ∃ t, exec (.seqIssue c unit index reloc mask) s
      = .next t ∧ SameBut [.cores, .dbg, .ev, .faults, .flasks, .fld .CORE_MOULD, .fld .CORE_SC, .fld .CORE_SEQ, .fld .CORE_SEQ_ERR,
      .fld .CORE_STAT, .fld .DBG_HOLD, .fld .LDL_CTX_n, .fld .ME_ERR, .fld .ME_STAT, .fld .MOD_FAULT_STAT, .fld .MOD_GRID_STAT,
      .fld .MOD_MB_SUMMARY, .fld .QUEUE_BASE, .fld .QUEUE_CTL, .fld .QUEUE_DB, .fld .QUEUE_LEVEL, .fld .QUEUE_STAT, .fld .QUEUE_WM, .fld .SE_ERR,
      .fld .SE_STAT, .fld .SPR_STAT, .fld .VU_STAT, .hostOut, .hports, .ldls, .mes, .msgs, .queues, .ses, .slots, .vus] s t ∧
    (s.seqReady c.val = true → ∀ b out u,
      relocate ((s.due c.val).descAt c.val index.val 64) mask.toNat ((s.due c.val).scalar c.val reloc.val) 9 = (b, out) → u = Eng.mk c.val (decide
          (64 ≤ unit.val)) (unit.val % 64) →
      ((s.eng u).accepts u.se b = false → t.fget F.CORE_SEQ_ERR_ISSUE_OVERFLOW c.val = 1 ∧
        t.fget F.CORE_SEQ_ERR_LAST_PC c.val = s.fget F.CORE_SEQ_PC c.val % 2 ^ F.CORE_SEQ_ERR_LAST_PC.len) ∧
      ((s.eng u).accepts u.se b = true →
        (Advanced s t c.val 1 ∧ (t.eng u).queue = (s.eng u).queue ++ [{ desc := b, issued := s.sc c.val }]) ∨
        (Advanced s t c.val 1 ∧ (t.eng u).loads = (s.eng u).loads ++ [{ desc := b, issued := s.sc c.val }]) ∨
        t.fget (u.fld F.ME_ERR_OP_INVALID F.SE_ERR_OP_INVALID) u.key = 1)) ∧
    (s.seqReady c.val = false → t = s)) ∧
  (∀ (c : CoreId) (base : Fin 32) (offset : BitVec 48) (s : State), ∃ t, exec (.seqWaits c base offset) s = .next t ∧ SameBut [.cores, .dbg, .ev,
      .faults, .flasks, .fld .CORE_MOULD, .fld .CORE_SC, .fld .CORE_SEQ, .fld .CORE_SEQ_ERR, .fld .CORE_STAT, .fld .DBG_HOLD, .fld .LDL_CTX_n,
      .fld .ME_STAT, .fld .MOD_FAULT_STAT, .fld .MOD_GRID_STAT, .fld .MOD_MB_SUMMARY, .fld .QUEUE_BASE, .fld .QUEUE_CTL, .fld .QUEUE_DB,
      .fld .QUEUE_LEVEL, .fld .QUEUE_STAT, .fld .QUEUE_WM, .fld .SE_STAT, .fld .SPR_STAT, .fld .VU_STAT, .hostOut, .hports, .ldls, .mes, .msgs,
      .queues, .ses, .slots, .vus] s t ∧
    (s.seqReady c.val = true → ∀ T, T = ((s.due c.val).scalar c.val base.val + offset.toNat) % 2 ^ 64 →
      (s.sc c.val < T → Advanced s t c.val (T - s.sc c.val) ∧ Apart s t c.val) ∧
      (T ≤ s.sc c.val → t.fget F.CORE_SEQ_ERR_LATE c.val = 1 ∧
        t.fget F.CORE_SEQ_ERR_LAST_PC c.val = s.fget F.CORE_SEQ_PC c.val % 2 ^ F.CORE_SEQ_ERR_LAST_PC.len)) ∧
    (s.seqReady c.val = false → t = s)) ∧
  (∀ (c : CoreId) (ctr : Fin 4) (fromReg : Bool) (reg : Fin 32) (count : BitVec 32) (last : Nat) (s : State), ∃ t, exec (.seqLoop c ctr fromReg reg
      count last) s = .next t ∧ SameBut [.cores, .fld .CORE_SC, .fld .CORE_SEQ, .fld .VU_STAT] s t ∧
    (s.seqReady c.val = true → ∀ n, n = (if fromReg = true then (s.due c.val).scalar c.val reg.val else count.toNat) →
      t.sc c.val = (s.sc c.val + 1) % 2 ^ F.CORE_SC_SC.len ∧ Apart s t c.val ∧
      (n = 0 → t.fget F.CORE_SEQ_PC c.val = (loopNext (s.core c.val).loops (last % 2 ^ F.CORE_SEQ_PC.len)).1 % 2 ^ F.CORE_SEQ_PC.len) ∧
      (n ≠ 0 → t.fget F.CORE_SEQ_PC c.val = (s.fget F.CORE_SEQ_PC c.val + 1) % 2 ^ F.CORE_SEQ_PC.len ∧
        (t.core c.val).loops = { ctr := ctr.val, first := s.fget F.CORE_SEQ_PC c.val + 1, last := last, left := n - 1 } :: (s.core c.val).loops)) ∧
    (s.seqReady c.val = false → t = s)) ∧
  (∀ (c : CoreId) (cond : Fin 5) (a : Fin 32) (b : Fin 64) (target : Nat) (len : BitVec 32) (s : State), ∃ t, exec (.seqBr c cond a b target len) s
      = .next t ∧ SameBut [.cores, .fld .CORE_SC, .fld .CORE_SEQ, .fld .VU_STAT] s t ∧
    (s.seqReady c.val = true → Apart s t c.val ∧
      ((s.due c.val).brTaken c.val cond.val a.val b.val = true → t.sc c.val = (s.sc c.val + (2 + len.toNat)) % 2 ^ F.CORE_SC_SC.len ∧
        t.fget F.CORE_SEQ_PC c.val = target % 2 ^ F.CORE_SEQ_PC.len) ∧
      ((s.due c.val).brTaken c.val cond.val a.val b.val = false → Advanced s t c.val 2)) ∧
    (s.seqReady c.val = false → t = s)) ∧
  (∀ (c : CoreId) (d : Fin 32) (tag : Fin 4096) (s : State), ∃ t, exec (.seqTmeta c d tag) s = .next t ∧ SameBut [.cores, .fld .CORE_SC,
      .fld .CORE_SEQ, .fld .VU_STAT] s t ∧
    (s.seqReady c.val = true → Advanced s t c.val 1 ∧ Apart s t c.val ∧ SetScalar (s.due c.val) t c.val d.val (NMap.get 0 (s.core c.val).tmeta
        tag.val)) ∧
    (s.seqReady c.val = false → t = s)) ∧
  (∀ (c : CoreId) (d : Fin 32) (ctr : Fin 4096) (thr : Fin 32) (isFault : Bool) (n : BitVec 32) (s : State), ∃ t, exec (.seqWaita c d ctr thr
      isFault n) s = .next t ∧ SameBut [.cores, .fld .CORE_SC] s t ∧
    (s.seqReady c.val = true → t.sc c.val = (s.sc c.val + n.toNat) % 2 ^ F.CORE_SC_SC.len ∧ Apart s t c.val ∧
      (t.core c.val).wait = some { rd := d.val, ctr := ctr.val, thr := thr.val, isFault := isFault, last := t.sc c.val }) ∧
    (s.seqReady c.val = false → t = s)) ∧
  (∀ (c : CoreId) (sameCycle : Nat) (s : State), ∃ t, exec (.waitaCompare c sameCycle) s = .next t ∧ SameBut [.cores, .dbg, .ev, .faults, .flasks,
      .fld .CORE_MOULD, .fld .CORE_SC, .fld .CORE_SEQ, .fld .CORE_SEQ_ERR, .fld .CORE_STAT, .fld .DBG_HOLD, .fld .LDL_CTX_n, .fld .ME_STAT,
      .fld .MOD_FAULT_STAT, .fld .MOD_GRID_STAT, .fld .MOD_MB_SUMMARY, .fld .QUEUE_BASE, .fld .QUEUE_CTL, .fld .QUEUE_DB, .fld .QUEUE_LEVEL,
      .fld .QUEUE_STAT, .fld .QUEUE_WM, .fld .SE_STAT, .fld .SPR_STAT, .fld .VU_STAT, .hostOut, .hports, .ldls, .mes, .msgs, .queues, .ses, .slots,
      .vus] s t ∧
    ((s.core c.val).wait = none → t = s) ∧
    (∀ w, (s.core c.val).wait = some w → s.scheduled c.val = true → s.sc c.val = w.last → (s.core c.val).halted = false →
      ∀ hit, hit = reached ((s.arrival c.val w.ctr + 2 ^ 32 - sameCycle % 2 ^ 32) % 2 ^ 32) ((s.due c.val).scalar c.val w.thr) →
      (hit = true ∨ w.isFault = false → Advanced s t c.val 1 ∧ Apart s t c.val ∧ (t.core c.val).wait = none ∧
        SetScalar (s.due c.val) t c.val w.rd (b2n hit)) ∧
      (hit = false → w.isFault = true → t.fget F.CORE_SEQ_ERR_ARRIVAL_LATE c.val = 1))) ∧
  (∀ (c : CoreId) (s : State), ∃ t, exec (.seqHalt c) s = .next t ∧ SameBut [.cores, .dbg, .flasks, .fld .CORE_SC, .fld .CORE_STAT, .fld .DBG_HOLD,
      .fld .MOD_MB_SUMMARY, .fld .SPR_STAT, .hostOut, .hports, .slots] s t ∧
    (s.seqReady c.val = true → t.sc c.val = (s.sc c.val + 1) % 2 ^ F.CORE_SC_SC.len ∧ (t.core c.val).halted = true ∧ Apart s t c.val ∧
      ∀ f, s.flaskOf c.val = some f → (∀ q ∈ s.mouldPhys f, q ≠ c.val → (s.core q).halted = true) → ∀ q ∈ s.mouldPhys f, t.coreState q = 4) ∧
    (s.seqReady c.val = false → t = s))

/-- For a core that can execute, with the QOP results due written first, each ALU command writes its destination modulo 2^64 (s0 staying 0), keeps
every other scalar register, takes one cycle and leaves every other core alone; a shift by less than 64 moves in zeros, and a shift by 64 or more,
for which no rule gives a result, writes some value (log entry 3). A core that cannot execute is left as it is. (R207, R209, R210) -/
def Obligations.ScalarCommandsCompute : Prop :=
  (∀ (c : CoreId) (d ra rb : Fin 32) (s : State), ∃ t, exec (.aluAdd c d ra rb) s = .next t ∧ SameBut [.cores, .fld .CORE_SC, .fld .CORE_SEQ,
      .fld .VU_STAT] s t ∧
    (s.seqReady c.val = true → Advanced s t c.val 1 ∧ Apart s t c.val ∧ SetScalar (s.due c.val) t c.val d.val ((s.due c.val).scalar c.val ra.val +
        (s.due c.val).scalar c.val rb.val)) ∧
    (s.seqReady c.val = false → t = s)) ∧
  (∀ (c : CoreId) (d ra rb : Fin 32) (s : State), ∃ t, exec (.aluSub c d ra rb) s = .next t ∧ SameBut [.cores, .fld .CORE_SC, .fld .CORE_SEQ,
      .fld .VU_STAT] s t ∧
    (s.seqReady c.val = true → Advanced s t c.val 1 ∧ Apart s t c.val ∧ SetScalar (s.due c.val) t c.val d.val ((s.due c.val).scalar c.val ra.val + 2
        ^ 64 - (s.due c.val).scalar c.val rb.val)) ∧
    (s.seqReady c.val = false → t = s)) ∧
  (∀ (c : CoreId) (d ra rb : Fin 32) (s : State), ∃ t, exec (.aluAnd c d ra rb) s = .next t ∧ SameBut [.cores, .fld .CORE_SC, .fld .CORE_SEQ,
      .fld .VU_STAT] s t ∧
    (s.seqReady c.val = true → Advanced s t c.val 1 ∧ Apart s t c.val ∧ SetScalar (s.due c.val) t c.val d.val ((s.due c.val).scalar c.val ra.val &&&
        (s.due c.val).scalar c.val rb.val)) ∧
    (s.seqReady c.val = false → t = s)) ∧
  (∀ (c : CoreId) (d ra rb : Fin 32) (s : State), ∃ t, exec (.aluOr c d ra rb) s = .next t ∧ SameBut [.cores, .fld .CORE_SC, .fld .CORE_SEQ,
      .fld .VU_STAT] s t ∧
    (s.seqReady c.val = true → Advanced s t c.val 1 ∧ Apart s t c.val ∧ SetScalar (s.due c.val) t c.val d.val ((s.due c.val).scalar c.val ra.val |||
        (s.due c.val).scalar c.val rb.val)) ∧
    (s.seqReady c.val = false → t = s)) ∧
  (∀ (c : CoreId) (d ra rb : Fin 32) (s : State), ∃ t, exec (.aluXor c d ra rb) s = .next t ∧ SameBut [.cores, .fld .CORE_SC, .fld .CORE_SEQ,
      .fld .VU_STAT] s t ∧
    (s.seqReady c.val = true → Advanced s t c.val 1 ∧ Apart s t c.val ∧ SetScalar (s.due c.val) t c.val d.val ((s.due c.val).scalar c.val ra.val ^^^
        (s.due c.val).scalar c.val rb.val)) ∧
    (s.seqReady c.val = false → t = s)) ∧
  (∀ (c : CoreId) (d ra rb : Fin 32) (s : State), ∃ t, exec (.aluShl c d ra rb) s = .next t ∧ SameBut [.cores, .fld .CORE_SC, .fld .CORE_SEQ,
      .fld .VU_STAT, .freeCtr] s t ∧
    (s.seqReady c.val = true → Advanced s t c.val 1 ∧ Apart s t c.val ∧
      ((s.due c.val).scalar c.val rb.val < 64 → SetScalar (s.due c.val) t c.val d.val ((s.due c.val).scalar c.val ra.val * 2 ^ ((s.due c.val).scalar
          c.val rb.val))) ∧ ∃ v, SetScalar (s.due c.val) t c.val d.val v) ∧
    (s.seqReady c.val = false → t = s)) ∧
  (∀ (c : CoreId) (d ra rb : Fin 32) (s : State), ∃ t, exec (.aluShr c d ra rb) s = .next t ∧ SameBut [.cores, .fld .CORE_SC, .fld .CORE_SEQ,
      .fld .VU_STAT, .freeCtr] s t ∧
    (s.seqReady c.val = true → Advanced s t c.val 1 ∧ Apart s t c.val ∧
      ((s.due c.val).scalar c.val rb.val < 64 → SetScalar (s.due c.val) t c.val d.val ((s.due c.val).scalar c.val ra.val / 2 ^ ((s.due c.val).scalar
          c.val rb.val))) ∧ ∃ v, SetScalar (s.due c.val) t c.val d.val v) ∧
    (s.seqReady c.val = false → t = s)) ∧
  (∀ (c : CoreId) (d : Fin 32) (imm : Word) (s : State), ∃ t, exec (.aluLi c d imm) s = .next t ∧ SameBut [.cores, .fld .CORE_SC, .fld .CORE_SEQ,
      .fld .VU_STAT] s t ∧
    (s.seqReady c.val = true → Advanced s t c.val 1 ∧ Apart s t c.val ∧ SetScalar (s.due c.val) t c.val d.val imm.toNat) ∧
    (s.seqReady c.val = false → t = s)) ∧
  (∀ (c : CoreId) (d ra : Fin 32) (imm : Word) (s : State), ∃ t, exec (.aluAddi c d ra imm) s = .next t ∧ SameBut [.cores, .fld .CORE_SC,
      .fld .CORE_SEQ, .fld .VU_STAT] s t ∧
    (s.seqReady c.val = true → Advanced s t c.val 1 ∧ Apart s t c.val ∧ SetScalar (s.due c.val) t c.val d.val ((s.due c.val).scalar c.val ra.val +
        imm.toNat)) ∧
    (s.seqReady c.val = false → t = s)) ∧
  (∀ (c : CoreId) (d : Fin 32) (s : State), ∃ t, exec (.aluReadSc c d) s = .next t ∧ SameBut [.cores, .fld .CORE_SC, .fld .CORE_SEQ, .fld .VU_STAT]
      s t ∧
    (s.seqReady c.val = true → Advanced s t c.val 1 ∧ Apart s t c.val ∧ SetScalar (s.due c.val) t c.val d.val (s.sc c.val)) ∧
    (s.seqReady c.val = false → t = s))

/-- A QOP writes its result code four cycles on: 2 for an unbound queue. SEND with credit counts the entry sent and answers 0, and without credit
counts NOCREDIT and answers 1; POP takes the oldest entry of a ring to the address and answers 0, or 1 where the ring is empty; POST places an
entry where the queue accepts one, or answers 1; LEVEL answers the count. A receiver sends credit for what was popped once a batch is complete or
256 cycles have passed, and a sender takes the cumulative count. An entry from the peer is placed in a ring with room; at a full ring it is
counted in OVERRUN. (R218, R231, R244, R245, R247, R413, R453) -/
def Obligations.QueueCommandsAct : Prop :=
  (∀ (c : CoreId) (queue : Fin 8192) (d areg : Fin 32) (addr : BitVec 28) (s : State), ∃ t, exec (.qopSend c queue d areg addr) s = .next t ∧
      SameBut [.cores, .flasks, .fld .CORE_QSTAT, .fld .CORE_SC, .fld .CORE_SEQ, .fld .VU_STAT, .freeCtr, .msgs, .ports, .queues] s t ∧
    (s.seqReady c.val = true → ∀ q, q = s.queueId c.val queue.val → (s.queue q).kind = .unbound → QopCode s t c.val d.val 2 ∧ Advanced s t c.val 1 ∧
        SameBut [.cores, .fld .CORE_SC, .fld .CORE_SEQ, .fld .VU_STAT] s t) ∧
    (s.seqReady c.val = true → ∀ q, q = s.queueId c.val queue.val → (s.queue q).kind = .elasticTx → faModule (s.queue q).peer = s.module →
      (sub16 (s.queue q).sent (s.queue q).consumed < (s.queue (faQueue (s.queue q).peer)).depth →
        QopCode s t c.val d.val 0 ∧ Advanced s t c.val 1 ∧ (t.queue q).sent = ((s.queue q).sent + 1) % 2 ^ 19) ∧
      ((s.queue (faQueue (s.queue q).peer)).depth ≤ sub16 (s.queue q).sent (s.queue q).consumed →
        QopCode s t c.val d.val 1 ∧ Advanced s t c.val 1 ∧ t.queues = s.queues ∧ t.msgs = s.msgs ∧
        t.fget F.CORE_QSTAT_NOCREDIT c.val = min (s.fget F.CORE_QSTAT_NOCREDIT c.val + 1) (2 ^ F.CORE_QSTAT_NOCREDIT.len - 1))) ∧
    (s.seqReady c.val = false → t = s)) ∧
  (∀ (c : CoreId) (queue : Fin 8192) (d areg : Fin 32) (addr : BitVec 28) (s : State), ∃ t, exec (.qopPop c queue d areg addr) s = .next t ∧ SameBut
      [.cores, .ev, .fld .CORE_SC, .fld .CORE_SEQ, .fld .QUEUE_LEVEL, .fld .QUEUE_STAT, .fld .QUEUE_WM, .fld .VU_STAT, .queues, .spd, .spdPoison] s
      t ∧
    (s.seqReady c.val = true → ∀ q, q = s.queueId c.val queue.val → (s.queue q).kind = .unbound → QopCode s t c.val d.val 2 ∧ Advanced s t c.val 1) ∧
    (s.seqReady c.val = true → ∀ q, q = s.queueId c.val queue.val → (s.queue q).kind = .local ∨ (s.queue q).kind = .elasticRx →
      ((s.queue q).ringCount = 0 → QopCode s t c.val d.val 1 ∧ t.queues = s.queues ∧ t.spd = s.spd) ∧
      ((s.queue q).ringCount ≠ 0 → QopCode s t c.val d.val 0 ∧ (t.queue q).popped = ((s.queue q).popped + 1) % 65536 ∧
        ∀ a, a = (s.due c.val).qopAddr c.val areg.val addr.toNat → (a + 64 ≤ 2 ^ 28 → t.spdRd c.val a 64 = s.spdRd c.val ((s.queue q).entryAddr
            (s.queue q).popped) 64) ∧
        ∀ i, (i < spdBase c.val + a ∨ spdBase c.val + a + 64 ≤ i) → Mem.rd t.spd i = Mem.rd s.spd i)) ∧
    (s.seqReady c.val = true → ∀ q, q = s.queueId c.val queue.val → (s.queue q).kind = .hostSubmit →
      ((s.queue q).shadow = 0 ∨ (s.qState q ≠ 2 ∧ s.qState q ≠ 4) → QopCode s t c.val d.val 1 ∧ t.queues = s.queues ∧ t.spd = s.spd) ∧
      ((s.queue q).shadow ≠ 0 → s.qState q = 2 ∨ s.qState q = 4 → QopCode s t c.val d.val 0 ∧
        (t.queue q).popped = ((s.queue q).popped + 1) % 65536 ∧ (t.queue q).shadow = (s.queue q).shadow - 1 ∧
        ∀ a, a = (s.due c.val).qopAddr c.val areg.val addr.toNat → (a + 64 ≤ 2 ^ 28 → t.spdRd c.val a 64 = s.spdRd c.val ((s.queue q).shadowAddr
            ((s.queue q).fetched + 64 - (s.queue q).shadow)) 64))) ∧
    (s.seqReady c.val = false → t = s)) ∧
  (∀ (c : CoreId) (queue : Fin 8192) (d areg : Fin 32) (addr : BitVec 28) (s : State), ∃ t, exec (.qopPost c queue d areg addr) s = .next t ∧
      SameBut [.cores, .ev, .fld .CORE_SC, .fld .CORE_SEQ, .fld .QUEUE_LEVEL, .fld .QUEUE_STAT, .fld .QUEUE_WM, .fld .VU_STAT, .freeCtr, .queues,
      .spd, .spdPoison] s t ∧
    (s.seqReady c.val = true → ∀ q, q = s.queueId c.val queue.val → (s.queue q).kind = .unbound → QopCode s t c.val d.val 2 ∧ Advanced s t c.val 1) ∧
    (s.seqReady c.val = true → ∀ q, q = s.queueId c.val queue.val → (s.queue q).kind = .local → ((s.queue q).depth ≤ (s.queue q).ringCount → QopCode
        s t c.val d.val 1 ∧ t.queues = s.queues ∧ t.spd = s.spd) ∧
      ((s.queue q).ringCount < (s.queue q).depth → QopCode s t c.val d.val 0 ∧ (t.queue q).written = ((s.queue q).written + 1) % 65536 ∧
        ∀ a, a = (s.due c.val).qopAddr c.val areg.val addr.toNat → a + 64 ≤ 2 ^ 28 →
        t.spdRd c.val ((s.queue q).entryAddr (s.queue q).written) 64 = s.spdRd c.val a 64)) ∧
    (s.seqReady c.val = true → ∀ q, q = s.queueId c.val queue.val → (s.queue q).kind = .hostPost → (s.canPost q = true → QopCode s t c.val d.val 0)
        ∧ (s.canPost q = false → QopCode s t c.val d.val 1 ∧ t.queues = s.queues)) ∧
    (s.seqReady c.val = false → t = s)) ∧
  (∀ (c : CoreId) (queue : Fin 8192) (d : Fin 32) (s : State), ∃ t, exec (.qopLevel c queue d) s = .next t ∧ SameBut [.cores, .fld .CORE_SC,
      .fld .CORE_SEQ, .fld .VU_STAT] s t ∧
    (s.seqReady c.val = true → ∀ q, q = s.queueId c.val queue.val → Advanced s t c.val 1 ∧ t.queues = s.queues) ∧
    (s.seqReady c.val = true → ∀ q, q = s.queueId c.val queue.val → (s.queue q).kind = .unbound → QopCode s t c.val d.val (2 * 2 ^ 32)) ∧
    (s.seqReady c.val = true → ∀ q, q = s.queueId c.val queue.val → (s.queue q).kind = .local ∨ (s.queue q).kind = .elasticRx → QopCode s t c.val
        d.val (s.queue q).ringCount) ∧
    (s.seqReady c.val = true → ∀ q, q = s.queueId c.val queue.val → (s.queue q).kind = .elasticTx → QopCode s t c.val d.val (sub16 (s.queue q).sent
        (s.queue q).consumed)) ∧
    (s.seqReady c.val = true → ∀ q, q = s.queueId c.val queue.val → (s.queue q).kind = .hostSubmit ∨ (s.queue q).kind = .hostPost → QopCode s t
        c.val d.val (s.queue q).live) ∧
    (s.seqReady c.val = false → t = s)) ∧
  (∀ (queue : Fin 2097152) (s : State), ∃ t, exec (.creditTimer queue) s = .next t ∧ SameBut [.msgs, .ports, .queues] s t ∧
    (∀ x, x = s.queue queue.val → x.kind = .elasticRx → x.popped ≠ x.credited → x.creditBatch ≤ sub16 x.popped x.credited →
      (t.queue queue.val).credited = x.popped) ∧
    ((s.queue queue.val).kind ≠ .elasticRx ∨ (s.queue queue.val).popped = (s.queue queue.val).credited → t = s)) ∧
  (∀ (queue : Fin 2097152) (n : BitVec 16) (s : State), ∃ t, exec (.creditPacket queue n) s = .next t ∧ SameBut [.queues] s t ∧
    ((s.queue queue.val).kind = .elasticTx → (t.queue queue.val) = { s.queue queue.val with consumed := n.toNat }) ∧
    ((s.queue queue.val).kind ≠ .elasticTx → t = s)) ∧
  (∀ (queue : Fin 2097152) (peer tag : Nat) (entry : List Byte) (poison : Bool) (s : State), ∃ t, exec (.elasticEntryArrival queue peer tag entry
      poison) s = .next t ∧ SameBut [.cores, .ev, .fld .CORE_QSTAT, .msgs, .ports, .queues, .spd, .spdPoison] s t ∧
    (s.qPhys queue.val = none → t = s) ∧
    (∀ p, s.qPhys queue.val = some p → (s.queue queue.val).kind = .elasticRx →
      ((s.queue queue.val).peer = peer → (s.queue queue.val).ringCount < (s.queue queue.val).depth → entry.length = 64 →
        (t.queue queue.val).written = ((s.queue queue.val).written + 1) % 65536 ∧
        t.spdRd p ((s.queue queue.val).entryAddr (s.queue queue.val).written) 64 = entry) ∧
      ((s.queue queue.val).peer ≠ peer ∨ (s.queue queue.val).depth ≤ (s.queue queue.val).ringCount →
        t.queues = s.queues ∧ t.spd = s.spd ∧
        t.fget F.CORE_QSTAT_OVERRUN p = min (s.fget F.CORE_QSTAT_OVERRUN p + 1) (2 ^ F.CORE_QSTAT_OVERRUN.len - 1))))

/-- Where the next queued descriptor of a quadrant can start, ME_MMA_START takes it from the queue with its tile in flight, its cells computed in the
engine's bank, and adds the gated products unless GATE_DIS is set. ME_DRAIN takes the tile in flight out of its bank, counts it, holds it where
DRAIN is 0, and changes no byte of scratchpad outside the rows of its output and its scale bytes. ME_LOAD_A_START moves the lines of the oldest
LOAD_A into the A buffer and changes no other byte of it. (R132, R134, R136, R137, R138, R140, R141, R142, R143, R161, R214) -/
def Obligations.MatrixEngineCommandsAct : Prop :=
  (∀ (c : CoreId) (e : Fin 64) (quad : Fin 4) (f : EngFaults) (s : State), ∃ t, exec (.meMmaStart c e quad f) s = .next t ∧ SameBut [.cores, .dbg,
      .ev, .faults, .flasks, .fld .CORE_MOULD, .fld .CORE_SC, .fld .CORE_SEQ, .fld .CORE_STAT, .fld .DBG_HOLD, .fld .LDL_CTX_n, .fld .ME_ERR,
      .fld .ME_GATED, .fld .ME_STALL, .fld .ME_STAT, .fld .MOD_FAULT_STAT, .fld .MOD_GRID_STAT, .fld .MOD_MB_SUMMARY, .fld .QUEUE_BASE,
      .fld .QUEUE_CTL, .fld .QUEUE_DB, .fld .QUEUE_LEVEL, .fld .QUEUE_STAT, .fld .QUEUE_WM, .fld .SE_ERR, .fld .SE_STALL, .fld .SE_STAT,
      .fld .SPD_CONFLICT, .fld .SPD_ECC, .fld .SPD_ECC_ADDR, .fld .SPR_STAT, .fld .VU_STAT, .hostOut, .hports, .ldls, .mes, .msgs, .queues, .ses,
      .slots, .spdPoison, .vus] s t ∧
    (∀ u q, u = meOf c e → f.uncorrected = [] → s.scheduled c.val = true → nextQueued false quad.val (s.eng u).queue = some q →
      (s.eng u).canStart false q ((s.eng u).nextBank (parseDesc false q.desc)) = true →
      ∀ x, x = EngSt.begin
          { s.eng u with abufParity := (f.abufParity.filter (fun l => !NSet.mem (s.eng u).abufParity l)).foldl NSet.add (s.eng u).abufParity } false
          q
        ((s.eng u).nextBank (parseDesc false q.desc)) (s.spdStore c.val (f.conflicts.map (fun y => y.1))) →
      t.eng u = x.1 ∧ x.2.1 ∈ (t.eng u).tiles ∧ (s.flag F.ME_CTL_GATE_DIS u.key = false → t.fget F.ME_GATED_COUNT u.key = (s.fget F.ME_GATED_COUNT
          u.key + x.2.2.1) % 2 ^ F.ME_GATED_COUNT.len) ∧
      (s.flag F.ME_CTL_GATE_DIS u.key = true → t.fget F.ME_GATED_COUNT u.key = s.fget F.ME_GATED_COUNT u.key)) ∧
    (∀ u, u = meOf c e → f = { parity := [], abufParity := [], uncorrected := [], corrected := [], conflicts := [] } → nextQueued false quad.val
        (s.eng u).queue = none → t = s)) ∧
  (∀ (c : CoreId) (e : Fin 64) (quad : Fin 4) (f : EngFaults) (s : State), ∃ t, exec (.meDrain c e quad f) s = .next t ∧ SameBut [.cores, .dbg, .ev,
      .faults, .flasks, .fld .CORE_MOULD, .fld .CORE_SC, .fld .CORE_SEQ, .fld .CORE_STAT, .fld .DBG_HOLD, .fld .LDL_CTX_n, .fld .ME_ERR,
      .fld .ME_FLAGS, .fld .ME_HASH, .fld .ME_LAST_TAG, .fld .ME_STAT, .fld .ME_TILES, .fld .MOD_FAULT_STAT, .fld .MOD_GRID_STAT,
      .fld .MOD_MB_SUMMARY, .fld .QUEUE_BASE, .fld .QUEUE_CTL, .fld .QUEUE_DB, .fld .QUEUE_LEVEL, .fld .QUEUE_STAT, .fld .QUEUE_WM, .fld .SE_ERR,
      .fld .SE_FLAGS, .fld .SE_HASH, .fld .SE_STAT, .fld .SE_TILES, .fld .SPD_CONFLICT, .fld .SPD_ECC, .fld .SPD_ECC_ADDR, .fld .SPR_STAT,
      .fld .VU_ERR, .fld .VU_STAT, .hostOut, .hports, .ldls, .mes, .msgs, .queues, .ses, .slots, .spd, .spdPoison, .vus] s t ∧
    (∀ u x, u = meOf c e → f.uncorrected = [] → s.scheduled c.val = true → (s.eng u).drains false quad.val = some x →
      ∀ d, d = parseDesc false x.desc →
      (t.eng u).tiles = (s.eng u).tiles.erase x ∧ (t.eng u).held = (if d.drain = 0 then (s.eng u).held ++ [x] else (s.eng u).held) ∧
      t.fget (u.fld F.ME_TILES_COUNT F.SE_TILES_COUNT) u.key = (s.fget (u.fld F.ME_TILES_COUNT F.SE_TILES_COUNT) u.key + 1) % 2 ^
          F.ME_TILES_COUNT.len ∧
      (d.drain = 0 → t.spd = s.spd) ∧
      (∀ a, (∀ i, i < d.m → a < spdBase c.val + d.outAddr + i * d.stride ∨
          spdBase c.val + d.outAddr + i * d.stride + (d.outBits * d.n + 7) / 8 ≤ a) →
        (a < spdBase c.val + d.outScale ∨ spdBase c.val + d.outScale + d.m ≤ a) → Mem.rd t.spd a = Mem.rd s.spd a))) ∧
  (∀ (c : CoreId) (e : Fin 64) (s : State), ∃ t, exec (.meLoadAStart c e) s = .next t ∧ SameBut [.mes, .ses] s t ∧
    (∀ u l ls, u = meOf c e → (s.eng u).loads = l :: ls → s.scheduled c.val = true → (∀ q ∈ (s.eng u).queue, l.issued ≤ q.issued) →
      (t.eng u).loads = ls ∧ (∀ i, i < (parseDesc false l.desc).k →
        Mem.rd (t.eng u).abuf ((parseDesc false l.desc).outAddr + i) = Mem.rd s.spd (spdBase c.val + (parseDesc false l.desc).aAddr + i)) ∧
      ∀ a, (a < (parseDesc false l.desc).outAddr ∨ (parseDesc false l.desc).outAddr + (parseDesc false l.desc).k ≤ a) →
        Mem.rd (t.eng u).abuf a = Mem.rd (s.eng u).abuf a) ∧
    (∀ u, u = meOf c e → (s.eng u).loads = [] → t = s))

/-- As for the matrix engines; SE_SMMA_START also adds 16 for every element of B that is not stored to SKIPPED, and sets META or OVERRUN where the
tile's metadata break the rule of its form. (R169, R170, R171, R176, R177, R178, R194) -/
def Obligations.SparseEngineCommandsAct : Prop :=
  (∀ (c : CoreId) (e : Fin 8) (f : EngFaults) (s : State), ∃ t, exec (.seSmmaStart c e f) s = .next t ∧ SameBut [.cores, .dbg, .ev, .faults,
      .flasks, .fld .CORE_MOULD, .fld .CORE_SC, .fld .CORE_SEQ, .fld .CORE_STAT, .fld .DBG_HOLD, .fld .LDL_CTX_n, .fld .ME_ERR, .fld .ME_STALL,
      .fld .ME_STAT, .fld .MOD_FAULT_STAT, .fld .MOD_GRID_STAT, .fld .MOD_MB_SUMMARY, .fld .QUEUE_BASE, .fld .QUEUE_CTL, .fld .QUEUE_DB,
      .fld .QUEUE_LEVEL, .fld .QUEUE_STAT, .fld .QUEUE_WM, .fld .SE_ERR, .fld .SE_SKIPPED, .fld .SE_STALL, .fld .SE_STAT, .fld .SPD_CONFLICT,
      .fld .SPD_ECC, .fld .SPD_ECC_ADDR, .fld .SPR_STAT, .fld .VU_STAT, .hostOut, .hports, .ldls, .mes, .msgs, .queues, .ses, .slots, .spdPoison,
      .vus] s t ∧
    (∀ u q, u = seOf c e → f.uncorrected = [] → s.scheduled c.val = true → nextQueued true 0 (s.eng u).queue = some q →
      (s.eng u).canStart true q ((s.eng u).nextBank (parseDesc true q.desc)) = true →
      ∀ x, x = EngSt.begin
          { s.eng u with abufParity := (f.abufParity.filter (fun l => !NSet.mem (s.eng u).abufParity l)).foldl NSet.add (s.eng u).abufParity } true
          q
        ((s.eng u).nextBank (parseDesc true q.desc)) (s.spdStore c.val (f.conflicts.map (fun y => y.1))) →
      t.eng u = x.1 ∧ x.2.1 ∈ (t.eng u).tiles ∧ (∀ d sp, d = parseDesc true q.desc → sp = s.spdStore c.val (f.conflicts.map (fun y => y.1)) →
        t.fget F.SE_SKIPPED_COUNT u.key = (s.fget F.SE_SKIPPED_COUNT u.key + 16 * unstored d sp) % 2 ^ F.SE_SKIPPED_COUNT.len ∧
        (metaFaulty d sp = true → t.fget (if d.form = 1 then F.SE_ERR_META else F.SE_ERR_OVERRUN) u.key = 1))) ∧
    (∀ u, u = seOf c e → f = { parity := [], abufParity := [], uncorrected := [], corrected := [], conflicts := [] } → nextQueued true 0 (s.eng
        u).queue = none → t = s)) ∧
  (∀ (c : CoreId) (e : Fin 8) (f : EngFaults) (s : State), ∃ t, exec (.seDrain c e f) s = .next t ∧ SameBut [.cores, .dbg, .ev, .faults, .flasks,
      .fld .CORE_MOULD, .fld .CORE_SC, .fld .CORE_SEQ, .fld .CORE_STAT, .fld .DBG_HOLD, .fld .LDL_CTX_n, .fld .ME_ERR, .fld .ME_FLAGS,
      .fld .ME_HASH, .fld .ME_LAST_TAG, .fld .ME_STAT, .fld .ME_TILES, .fld .MOD_FAULT_STAT, .fld .MOD_GRID_STAT, .fld .MOD_MB_SUMMARY,
      .fld .QUEUE_BASE, .fld .QUEUE_CTL, .fld .QUEUE_DB, .fld .QUEUE_LEVEL, .fld .QUEUE_STAT, .fld .QUEUE_WM, .fld .SE_ERR, .fld .SE_FLAGS,
      .fld .SE_HASH, .fld .SE_STAT, .fld .SE_TILES, .fld .SPD_CONFLICT, .fld .SPD_ECC, .fld .SPD_ECC_ADDR, .fld .SPR_STAT, .fld .VU_ERR,
      .fld .VU_STAT, .hostOut, .hports, .ldls, .mes, .msgs, .queues, .ses, .slots, .spd, .spdPoison, .vus] s t ∧
    (∀ u x, u = seOf c e → f.uncorrected = [] → s.scheduled c.val = true → (s.eng u).drains true 0 = some x →
      ∀ d, d = parseDesc true x.desc →
      (t.eng u).tiles = (s.eng u).tiles.erase x ∧ (t.eng u).held = (if d.drain = 0 then (s.eng u).held ++ [x] else (s.eng u).held) ∧
      t.fget (u.fld F.ME_TILES_COUNT F.SE_TILES_COUNT) u.key = (s.fget (u.fld F.ME_TILES_COUNT F.SE_TILES_COUNT) u.key + 1) % 2 ^
          F.ME_TILES_COUNT.len ∧
      (d.drain = 0 → t.spd = s.spd) ∧
      (∀ a, (∀ i, i < d.m → a < spdBase c.val + d.outAddr + i * d.stride ∨
          spdBase c.val + d.outAddr + i * d.stride + (d.outBits * d.n + 7) / 8 ≤ a) →
        (a < spdBase c.val + d.outScale ∨ spdBase c.val + d.outScale + d.m ≤ a) → Mem.rd t.spd a = Mem.rd s.spd a))) ∧
  (∀ (c : CoreId) (e : Fin 8) (s : State), ∃ t, exec (.seLoadAStart c e) s = .next t ∧ SameBut [.mes, .ses] s t ∧
    (∀ u l ls, u = seOf c e → (s.eng u).loads = l :: ls → s.scheduled c.val = true → (∀ q ∈ (s.eng u).queue, l.issued ≤ q.issued) →
      (t.eng u).loads = ls ∧ (∀ i, i < (parseDesc true l.desc).k →
        Mem.rd (t.eng u).abuf ((parseDesc true l.desc).outAddr + i) = Mem.rd s.spd (spdBase c.val + (parseDesc true l.desc).aAddr + i)) ∧
      ∀ a, (a < (parseDesc true l.desc).outAddr ∨ (parseDesc true l.desc).outAddr + (parseDesc true l.desc).k ≤ a) →
        Mem.rd (t.eng u).abuf a = Mem.rd (s.eng u).abuf a) ∧
    (∀ u, u = seOf c e → (s.eng u).loads = [] → t = s))

/-- A valid operation issued to a unit with room takes one cycle of the sequencer, writes the 1,024 lanes of VD as its code says, from the lanes of
its sources, and keeps every other register of the unit; the codes named here are COPY, SELECT, ADD, SUB, MUL, MIN, MAX, ABS, NEG, the integer
sums and products, FMA, PERM with source lanes below 1,024, INGRESS of a valid row, the special functions and the sum, maximum and minimum
reductions. An issue to a full unit sets ISSUE_OVERFLOW, an invalid operation sets OP_INVALID, and a core that cannot execute is left as it is.
(R181, R184, R203, R214, R219, R220, R221) -/
def Obligations.VectorOperationsCompute : Prop :=
  (∀ (c : CoreId) (a : VopArgs) (s : State), ∃ t, exec (.vopMove c a) s = .next t ∧ SameBut [.cores, .dbg, .ev, .faults, .flasks, .fld .CORE_MOULD,
      .fld .CORE_SC, .fld .CORE_SEQ, .fld .CORE_SEQ_ERR, .fld .CORE_STAT, .fld .DBG_HOLD, .fld .LDL_CTX_n, .fld .ME_STAT, .fld .MOD_FAULT_STAT,
      .fld .MOD_GRID_STAT, .fld .MOD_MB_SUMMARY, .fld .QUEUE_BASE, .fld .QUEUE_CTL, .fld .QUEUE_DB, .fld .QUEUE_LEVEL, .fld .QUEUE_STAT,
      .fld .QUEUE_WM, .fld .SE_STAT, .fld .SPR_STAT, .fld .VU_ERR, .fld .VU_FLAGS, .fld .VU_STAT, .hostOut, .hports, .ldls, .mes, .msgs, .queues,
      .ses, .slots, .vus] s t ∧
    (∀ v, v = s.vu (c.val * 4 + a.vu.val) → s.seqReady c.val = true → v.queued (s.sc c.val) < 8 → (s.due c.val).vopValid c.val 0 a = true →
      Advanced s t c.val 1 ∧ (∀ r, r ≠ a.vd.val → (t.vu (c.val * 4 + a.vu.val)).lanes [] r = v.lanes [] r) ∧
      (a.opc = 0x01 → Lanes t (c.val * 4 + a.vu.val) a.vd.val (lanes1 (clean) [v.lanes a.parity a.va.val])) ∧
      (a.opc = 0x02 → Lanes t (c.val * 4 + a.vu.val) a.vd.val (lanes3 (fun x y m => clean (if m = 0 then y else x)) [v.lanes a.parity a.va.val,
          v.lanes a.parity a.vb.val, v.lanes a.parity a.vc.val]))) ∧
    (s.seqReady c.val = true → 8 ≤ (s.vu (c.val * 4 + a.vu.val)).queued (s.sc c.val) → t.fget F.CORE_SEQ_ERR_ISSUE_OVERFLOW c.val = 1) ∧
    (s.seqReady c.val = true → (s.vu (c.val * 4 + a.vu.val)).queued (s.sc c.val) < 8 → (s.due c.val).vopValid c.val 0 a = false →
      t.fget F.VU_ERR_OP_INVALID (c.val * 4 + a.vu.val) = 1) ∧
    (s.seqReady c.val = false → t = s)) ∧
  (∀ (c : CoreId) (a : VopArgs) (s : State), ∃ t, exec (.vopArithmetic c a) s = .next t ∧ SameBut [.cores, .dbg, .ev, .faults, .flasks,
      .fld .CORE_MOULD, .fld .CORE_SC, .fld .CORE_SEQ, .fld .CORE_SEQ_ERR, .fld .CORE_STAT, .fld .DBG_HOLD, .fld .LDL_CTX_n, .fld .ME_STAT,
      .fld .MOD_FAULT_STAT, .fld .MOD_GRID_STAT, .fld .MOD_MB_SUMMARY, .fld .QUEUE_BASE, .fld .QUEUE_CTL, .fld .QUEUE_DB, .fld .QUEUE_LEVEL,
      .fld .QUEUE_STAT, .fld .QUEUE_WM, .fld .SE_STAT, .fld .SPR_STAT, .fld .VU_ERR, .fld .VU_FLAGS, .fld .VU_STAT, .hostOut, .hports, .ldls, .mes,
      .msgs, .queues, .ses, .slots, .vus] s t ∧
    (∀ v, v = s.vu (c.val * 4 + a.vu.val) → s.seqReady c.val = true → v.queued (s.sc c.val) < 8 → (s.due c.val).vopValid c.val 1 a = true →
      Advanced s t c.val 1 ∧ (∀ r, r ≠ a.vd.val → (t.vu (c.val * 4 + a.vu.val)).lanes [] r = v.lanes [] r) ∧
      (a.opc = 0x10 → Lanes t (c.val * 4 + a.vu.val) a.vd.val (lanes2 (vAdd false) [v.lanes a.parity a.va.val, v.lanes a.parity a.vb.val])) ∧
      (a.opc = 0x11 → Lanes t (c.val * 4 + a.vu.val) a.vd.val (lanes2 (vAdd true) [v.lanes a.parity a.va.val, v.lanes a.parity a.vb.val])) ∧
      (a.opc = 0x12 → Lanes t (c.val * 4 + a.vu.val) a.vd.val (lanes2 (vMul) [v.lanes a.parity a.va.val, v.lanes a.parity a.vb.val])) ∧
      (a.opc = 0x13 → Lanes t (c.val * 4 + a.vu.val) a.vd.val (lanes2 (vMinMax false) [v.lanes a.parity a.va.val, v.lanes a.parity a.vb.val])) ∧
      (a.opc = 0x14 → Lanes t (c.val * 4 + a.vu.val) a.vd.val (lanes2 (vMinMax true) [v.lanes a.parity a.va.val, v.lanes a.parity a.vb.val])) ∧
      (a.opc = 0x15 → Lanes t (c.val * 4 + a.vu.val) a.vd.val (lanes1 (fun x => vSpecial (x % 2 ^ 31)) [v.lanes a.parity a.va.val])) ∧
      (a.opc = 0x16 → Lanes t (c.val * 4 + a.vu.val) a.vd.val (lanes1 (fun x => vSpecial (x ^^^ 2 ^ 31)) [v.lanes a.parity a.va.val])) ∧
      (a.opc = 0x1B → Lanes t (c.val * 4 + a.vu.val) a.vd.val (lanes2 (fun x y => clean ((x + y) % 2 ^ 32)) [v.lanes a.parity a.va.val, v.lanes
          a.parity a.vb.val])) ∧
      (a.opc = 0x1C → Lanes t (c.val * 4 + a.vu.val) a.vd.val (lanes2 (fun x y => clean ((x + 2 ^ 32 - y) % 2 ^ 32)) [v.lanes a.parity a.va.val,
          v.lanes a.parity a.vb.val])) ∧
      (a.opc = 0x1D → Lanes t (c.val * 4 + a.vu.val) a.vd.val (lanes2 (fun x y => clean (x * y % 2 ^ 32)) [v.lanes a.parity a.va.val, v.lanes
          a.parity a.vb.val]))) ∧
    (s.seqReady c.val = true → 8 ≤ (s.vu (c.val * 4 + a.vu.val)).queued (s.sc c.val) → t.fget F.CORE_SEQ_ERR_ISSUE_OVERFLOW c.val = 1) ∧
    (s.seqReady c.val = true → (s.vu (c.val * 4 + a.vu.val)).queued (s.sc c.val) < 8 → (s.due c.val).vopValid c.val 1 a = false →
      t.fget F.VU_ERR_OP_INVALID (c.val * 4 + a.vu.val) = 1) ∧
    (s.seqReady c.val = false → t = s)) ∧
  (∀ (c : CoreId) (a : VopArgs) (s : State), ∃ t, exec (.vopFma c a) s = .next t ∧ SameBut [.cores, .dbg, .ev, .faults, .flasks, .fld .CORE_MOULD,
      .fld .CORE_SC, .fld .CORE_SEQ, .fld .CORE_SEQ_ERR, .fld .CORE_STAT, .fld .DBG_HOLD, .fld .LDL_CTX_n, .fld .ME_STAT, .fld .MOD_FAULT_STAT,
      .fld .MOD_GRID_STAT, .fld .MOD_MB_SUMMARY, .fld .QUEUE_BASE, .fld .QUEUE_CTL, .fld .QUEUE_DB, .fld .QUEUE_LEVEL, .fld .QUEUE_STAT,
      .fld .QUEUE_WM, .fld .SE_STAT, .fld .SPR_STAT, .fld .VU_ERR, .fld .VU_FLAGS, .fld .VU_STAT, .hostOut, .hports, .ldls, .mes, .msgs, .queues,
      .ses, .slots, .vus] s t ∧
    (∀ v, v = s.vu (c.val * 4 + a.vu.val) → s.seqReady c.val = true → v.queued (s.sc c.val) < 8 → (s.due c.val).vopValid c.val 2 a = true →
      Advanced s t c.val 1 ∧ (∀ r, r ≠ a.vd.val → (t.vu (c.val * 4 + a.vu.val)).lanes [] r = v.lanes [] r) ∧
      Lanes t (c.val * 4 + a.vu.val) a.vd.val (lanes3 (vFma) [v.lanes a.parity a.va.val, v.lanes a.parity a.vb.val, v.lanes a.parity a.vc.val])) ∧
    (s.seqReady c.val = true → 8 ≤ (s.vu (c.val * 4 + a.vu.val)).queued (s.sc c.val) → t.fget F.CORE_SEQ_ERR_ISSUE_OVERFLOW c.val = 1) ∧
    (s.seqReady c.val = true → (s.vu (c.val * 4 + a.vu.val)).queued (s.sc c.val) < 8 → (s.due c.val).vopValid c.val 2 a = false →
      t.fget F.VU_ERR_OP_INVALID (c.val * 4 + a.vu.val) = 1) ∧
    (s.seqReady c.val = false → t = s)) ∧
  (∀ (c : CoreId) (a : VopArgs) (s : State), ∃ t, exec (.vopPermute c a) s = .next t ∧ SameBut [.cores, .dbg, .ev, .faults, .flasks,
      .fld .CORE_MOULD, .fld .CORE_SC, .fld .CORE_SEQ, .fld .CORE_SEQ_ERR, .fld .CORE_STAT, .fld .DBG_HOLD, .fld .LDL_CTX_n, .fld .ME_STAT,
      .fld .MOD_FAULT_STAT, .fld .MOD_GRID_STAT, .fld .MOD_MB_SUMMARY, .fld .QUEUE_BASE, .fld .QUEUE_CTL, .fld .QUEUE_DB, .fld .QUEUE_LEVEL,
      .fld .QUEUE_STAT, .fld .QUEUE_WM, .fld .SE_STAT, .fld .SPR_STAT, .fld .VU_ERR, .fld .VU_FLAGS, .fld .VU_STAT, .freeCtr, .hostOut, .hports,
      .ldls, .mes, .msgs, .queues, .ses, .slots, .vus] s t ∧
    (∀ v, v = s.vu (c.val * 4 + a.vu.val) → s.seqReady c.val = true → v.queued (s.sc c.val) < 8 → a.opc ≠ 0x2A → (s.due c.val).vopValid c.val 3 a =
        true →
      Advanced s t c.val 1 ∧ (∀ r, r ≠ a.vd.val → (t.vu (c.val * 4 + a.vu.val)).lanes [] r = v.lanes [] r) ∧
      (a.opc = 0x28 → ∀ i, i < 1024 → ∀ j, (v.lanes a.parity a.vb.val)[i]? = some j → j < 1024 →
        ((t.vu (c.val * 4 + a.vu.val)).lanes [] a.vd.val)[i]? = ((v.lanes a.parity a.va.val)[j]?).map (fun x => x % 2 ^ 32))) ∧
    (s.seqReady c.val = true → 8 ≤ (s.vu (c.val * 4 + a.vu.val)).queued (s.sc c.val) → t.fget F.CORE_SEQ_ERR_ISSUE_OVERFLOW c.val = 1) ∧
    (a.opc ≠ 0x2A → s.seqReady c.val = true → (s.vu (c.val * 4 + a.vu.val)).queued (s.sc c.val) < 8 → (s.due c.val).vopValid c.val 3 a = false →
      t.fget F.VU_ERR_OP_INVALID (c.val * 4 + a.vu.val) = 1) ∧
    (s.seqReady c.val = false → t = s)) ∧
  (∀ (c : CoreId) (a : VopArgs) (s : State), ∃ t, exec (.vopIngress c a) s = .next t ∧ SameBut [.cores, .dbg, .ev, .faults, .flasks,
      .fld .CORE_MOULD, .fld .CORE_SC, .fld .CORE_SEQ, .fld .CORE_SEQ_ERR, .fld .CORE_STAT, .fld .DBG_HOLD, .fld .LDL_CTX_n, .fld .ME_STAT,
      .fld .MOD_FAULT_STAT, .fld .MOD_GRID_STAT, .fld .MOD_MB_SUMMARY, .fld .QUEUE_BASE, .fld .QUEUE_CTL, .fld .QUEUE_DB, .fld .QUEUE_LEVEL,
      .fld .QUEUE_STAT, .fld .QUEUE_WM, .fld .SE_STAT, .fld .SPR_STAT, .fld .VU_ERR, .fld .VU_FLAGS, .fld .VU_STAT, .freeCtr, .hostOut, .hports,
      .ldls, .mes, .msgs, .queues, .ses, .slots, .vus] s t ∧
    (∀ v, v = s.vu (c.val * 4 + a.vu.val) → s.seqReady c.val = true → v.queued (s.sc c.val) < 8 → a.opc = 0x2A → (s.due c.val).vopValid c.val 3 a =
        true →
      Advanced s t c.val 1 ∧ (∀ r, r ≠ a.vd.val → (t.vu (c.val * 4 + a.vu.val)).lanes [] r = v.lanes [] r) ∧
      (∀ r, r = assoc ⟨[], 0, false⟩ v.ingress a.imm.toNat → r.valid = true → bitOf r.flags 5 = false → ∀ i, i < 32 →
        ((t.vu (c.val * 4 + a.vu.val)).lanes [] a.vd.val)[i]? = some (leAt r.bytes (4 * i) 4 % 2 ^ 32)) ∧
      (assoc ⟨[], 0, false⟩ (t.vu (c.val * 4 + a.vu.val)).ingress a.imm.toNat).valid = false) ∧
    (s.seqReady c.val = true → 8 ≤ (s.vu (c.val * 4 + a.vu.val)).queued (s.sc c.val) → t.fget F.CORE_SEQ_ERR_ISSUE_OVERFLOW c.val = 1) ∧
    (a.opc = 0x2A → s.seqReady c.val = true → (s.vu (c.val * 4 + a.vu.val)).queued (s.sc c.val) < 8 → (s.due c.val).vopValid c.val 3 a = false →
      t.fget F.VU_ERR_OP_INVALID (c.val * 4 + a.vu.val) = 1) ∧
    (s.seqReady c.val = false → t = s)) ∧
  (∀ (c : CoreId) (a : VopArgs) (s : State), ∃ t, exec (.vopSpecialFunction c a) s = .next t ∧ SameBut [.cores, .dbg, .ev, .faults, .flasks,
      .fld .CORE_MOULD, .fld .CORE_SC, .fld .CORE_SEQ, .fld .CORE_SEQ_ERR, .fld .CORE_STAT, .fld .DBG_HOLD, .fld .LDL_CTX_n, .fld .ME_STAT,
      .fld .MOD_FAULT_STAT, .fld .MOD_GRID_STAT, .fld .MOD_MB_SUMMARY, .fld .QUEUE_BASE, .fld .QUEUE_CTL, .fld .QUEUE_DB, .fld .QUEUE_LEVEL,
      .fld .QUEUE_STAT, .fld .QUEUE_WM, .fld .SE_STAT, .fld .SPR_STAT, .fld .VU_ERR, .fld .VU_FLAGS, .fld .VU_STAT, .hostOut, .hports, .ldls, .mes,
      .msgs, .queues, .ses, .slots, .vus] s t ∧
    (∀ v, v = s.vu (c.val * 4 + a.vu.val) → s.seqReady c.val = true → v.queued (s.sc c.val) < 8 → (s.due c.val).vopValid c.val 4 a = true →
      Advanced s t c.val 1 ∧ (∀ r, r ≠ a.vd.val → (t.vu (c.val * 4 + a.vu.val)).lanes [] r = v.lanes [] r) ∧
      (a.opc = 0x30 → Lanes t (c.val * 4 + a.vu.val) a.vd.val (lanes1 (fun x => spExp (f32 x)) [v.lanes a.parity a.va.val])) ∧
      (a.opc = 0x31 → Lanes t (c.val * 4 + a.vu.val) a.vd.val (lanes1 (fun x => spExp2 (f32 x)) [v.lanes a.parity a.va.val])) ∧
      (a.opc = 0x33 → Lanes t (c.val * 4 + a.vu.val) a.vd.val (lanes1 (fun x => spLog true (f32 x)) [v.lanes a.parity a.va.val])) ∧
      (a.opc = 0x34 → Lanes t (c.val * 4 + a.vu.val) a.vd.val (lanes1 (fun x => spLog false (f32 x)) [v.lanes a.parity a.va.val])) ∧
      (a.opc = 0x35 → Lanes t (c.val * 4 + a.vu.val) a.vd.val (lanes1 (fun x => spRcp (f32 x)) [v.lanes a.parity a.va.val])) ∧
      (a.opc = 0x36 → Lanes t (c.val * 4 + a.vu.val) a.vd.val (lanes1 (fun x => spSqrt (f32 x)) [v.lanes a.parity a.va.val])) ∧
      (a.opc = 0x37 → Lanes t (c.val * 4 + a.vu.val) a.vd.val (lanes1 (fun x => spRsqrt (f32 x)) [v.lanes a.parity a.va.val])) ∧
      (a.opc = 0x38 → Lanes t (c.val * 4 + a.vu.val) a.vd.val (lanes1 (fun x => spTanh (f32 x)) [v.lanes a.parity a.va.val])) ∧
      (a.opc = 0x39 → Lanes t (c.val * 4 + a.vu.val) a.vd.val (lanes1 (fun x => spSigmoid (f32 x)) [v.lanes a.parity a.va.val])) ∧
      (a.opc = 0x3A → Lanes t (c.val * 4 + a.vu.val) a.vd.val (lanes1 (fun x => spSilu (f32 x)) [v.lanes a.parity a.va.val]))) ∧
    (s.seqReady c.val = true → 8 ≤ (s.vu (c.val * 4 + a.vu.val)).queued (s.sc c.val) → t.fget F.CORE_SEQ_ERR_ISSUE_OVERFLOW c.val = 1) ∧
    (s.seqReady c.val = true → (s.vu (c.val * 4 + a.vu.val)).queued (s.sc c.val) < 8 → (s.due c.val).vopValid c.val 4 a = false →
      t.fget F.VU_ERR_OP_INVALID (c.val * 4 + a.vu.val) = 1) ∧
    (s.seqReady c.val = false → t = s)) ∧
  (∀ (c : CoreId) (a : VopArgs) (s : State), ∃ t, exec (.vopReduce c a) s = .next t ∧ SameBut [.cores, .dbg, .ev, .faults, .flasks,
      .fld .CORE_MOULD, .fld .CORE_SC, .fld .CORE_SEQ, .fld .CORE_SEQ_ERR, .fld .CORE_STAT, .fld .DBG_HOLD, .fld .LDL_CTX_n, .fld .ME_STAT,
      .fld .MOD_FAULT_STAT, .fld .MOD_GRID_STAT, .fld .MOD_MB_SUMMARY, .fld .QUEUE_BASE, .fld .QUEUE_CTL, .fld .QUEUE_DB, .fld .QUEUE_LEVEL,
      .fld .QUEUE_STAT, .fld .QUEUE_WM, .fld .SE_STAT, .fld .SPR_STAT, .fld .VU_ERR, .fld .VU_FLAGS, .fld .VU_STAT, .freeCtr, .hostOut, .hports,
      .ldls, .mes, .msgs, .queues, .ses, .slots, .vus] s t ∧
    (∀ v, v = s.vu (c.val * 4 + a.vu.val) → s.seqReady c.val = true → v.queued (s.sc c.val) < 8 → (s.due c.val).vopValid c.val 5 a = true →
      Advanced s t c.val 1 ∧ (∀ r, r ≠ a.vd.val → (t.vu (c.val * 4 + a.vu.val)).lanes [] r = v.lanes [] r) ∧
      (a.opc = 0x40 → Lanes t (c.val * 4 + a.vu.val) a.vd.val (reduced (reduceTree (reduce2 (vAdd false)) ((v.lanes a.parity a.va.val).map (fun x =>
          (x, if f32 x = .nan then Flags.justNan else Flags.none)))))) ∧
      (a.opc = 0x41 → Lanes t (c.val * 4 + a.vu.val) a.vd.val (reduced (reduceTree (reduce2 (vMinMax true)) ((v.lanes a.parity a.va.val).map (fun x
          => (x, if f32 x = .nan then Flags.justNan else Flags.none)))))) ∧
      (a.opc = 0x42 → Lanes t (c.val * 4 + a.vu.val) a.vd.val (reduced (reduceTree (reduce2 (vMinMax false)) ((v.lanes a.parity a.va.val).map (fun x
          => (x, if f32 x = .nan then Flags.justNan else Flags.none))))))) ∧
    (s.seqReady c.val = true → 8 ≤ (s.vu (c.val * 4 + a.vu.val)).queued (s.sc c.val) → t.fget F.CORE_SEQ_ERR_ISSUE_OVERFLOW c.val = 1) ∧
    (s.seqReady c.val = true → (s.vu (c.val * 4 + a.vu.val)).queued (s.sc c.val) < 8 → (s.due c.val).vopValid c.val 5 a = false →
      t.fget F.VU_ERR_OP_INVALID (c.val * 4 + a.vu.val) = 1) ∧
    (s.seqReady c.val = false → t = s))

/-- LOAD writes the lanes of VD with the elements at its address, widened. STORE and QUANT write the packed run at their address and change no other
byte of scratchpad and no register. A valid SAMPLE waits in its unit; SAMPLE_START takes the first that waits, with SAMPLING 1, and sets
SAMP_PARAM for a record that breaks the bounds; TOKEN_CHOSEN ends it: the count goes up by one, and the token, the outcome and the poison mark are
recorded. (R185, R186, R189, R190, R202, R220, R221) -/
def Obligations.VectorMemoryAndSamplerCommandsAct : Prop :=
  (∀ (c : CoreId) (a : VopArgs) (conflicts : List (Nat × Nat)) (s : State), ∃ t, exec (.vopLoad c a conflicts) s = .next t ∧ SameBut [.cores, .dbg,
      .ev, .faults, .flasks, .fld .CORE_MOULD, .fld .CORE_SC, .fld .CORE_SEQ, .fld .CORE_SEQ_ERR, .fld .CORE_STAT, .fld .DBG_HOLD, .fld .LDL_CTX_n,
      .fld .ME_STAT, .fld .MOD_FAULT_STAT, .fld .MOD_GRID_STAT, .fld .MOD_MB_SUMMARY, .fld .QUEUE_BASE, .fld .QUEUE_CTL, .fld .QUEUE_DB,
      .fld .QUEUE_LEVEL, .fld .QUEUE_STAT, .fld .QUEUE_WM, .fld .SE_STAT, .fld .SPD_CONFLICT, .fld .SPR_STAT, .fld .VU_ERR, .fld .VU_FLAGS,
      .fld .VU_STAT, .hostOut, .hports, .ldls, .mes, .msgs, .queues, .ses, .slots, .vus] s t ∧
    (∀ v, v = s.vu (c.val * 4 + a.vu.val) → s.seqReady c.val = true → v.queued (s.sc c.val) < 8 → a.opc = 0x48 → (s.due c.val).vopValid c.val 6 a =
        true →
      Advanced s t c.val 1 ∧ (∀ r, r ≠ a.vd.val → (t.vu (c.val * 4 + a.vu.val)).lanes [] r = v.lanes [] r) ∧
      (∀ A, A = (s.due c.val).vopAddr c.val a.imm a.sreg.val →
        Lanes t (c.val * 4 + a.vu.val) a.vd.val ((List.range 1024).map (fun i =>
          let e := (s.spdStore c.val (conflicts.map (fun y => y.1))).elem A (fmtBits a.fmt) i
          if e.2 then (0, Flags.poisonIf true) else widen a.fmt e.1)))) ∧
    (s.seqReady c.val = true → 8 ≤ (s.vu (c.val * 4 + a.vu.val)).queued (s.sc c.val) → t.fget F.CORE_SEQ_ERR_ISSUE_OVERFLOW c.val = 1) ∧
    (a.opc = 0x48 → s.seqReady c.val = true → (s.vu (c.val * 4 + a.vu.val)).queued (s.sc c.val) < 8 → (s.due c.val).vopValid c.val 6 a = false →
      t.fget F.VU_ERR_OP_INVALID (c.val * 4 + a.vu.val) = 1) ∧
    (s.seqReady c.val = false → t = s)) ∧
  (∀ (c : CoreId) (a : VopArgs) (conflicts : List (Nat × Nat)) (s : State), ∃ t, exec (.vopStore c a conflicts) s = .next t ∧ SameBut [.cores, .dbg,
      .ev, .faults, .flasks, .fld .CORE_MOULD, .fld .CORE_SC, .fld .CORE_SEQ, .fld .CORE_SEQ_ERR, .fld .CORE_STAT, .fld .DBG_HOLD, .fld .LDL_CTX_n,
      .fld .ME_STAT, .fld .MOD_FAULT_STAT, .fld .MOD_GRID_STAT, .fld .MOD_MB_SUMMARY, .fld .QUEUE_BASE, .fld .QUEUE_CTL, .fld .QUEUE_DB,
      .fld .QUEUE_LEVEL, .fld .QUEUE_STAT, .fld .QUEUE_WM, .fld .SE_STAT, .fld .SPD_CONFLICT, .fld .SPR_STAT, .fld .VU_ERR, .fld .VU_FLAGS,
      .fld .VU_STAT, .hostOut, .hports, .ldls, .mes, .msgs, .queues, .ses, .slots, .spd, .spdPoison, .vus] s t ∧
    (∀ v, v = s.vu (c.val * 4 + a.vu.val) → s.seqReady c.val = true → v.queued (s.sc c.val) < 8 → a.opc = 0x49 → (s.due c.val).vopValid c.val 6 a =
        true →
      ∀ A, A = (s.due c.val).vopAddr c.val a.imm a.sreg.val → ∀ bs, bs = packOver (fmtBits a.fmt) (((v.lanes a.parity a.va.val).map (storeLane a.fmt
          a.nonsat)).map (fun x => x.1)) (fun _ => 0) →
      Advanced s t c.val 1 ∧ (t.vu (c.val * 4 + a.vu.val)).regs = v.regs ∧
      (conflicts = [] → t.spdRd c.val A bs.length = bs) ∧
      ∀ i, (i < spdBase c.val + A ∨ spdBase c.val + A + bs.length ≤ i) → Mem.rd t.spd i = Mem.rd s.spd i) ∧
    (s.seqReady c.val = true → 8 ≤ (s.vu (c.val * 4 + a.vu.val)).queued (s.sc c.val) → t.fget F.CORE_SEQ_ERR_ISSUE_OVERFLOW c.val = 1) ∧
    (a.opc = 0x49 → s.seqReady c.val = true → (s.vu (c.val * 4 + a.vu.val)).queued (s.sc c.val) < 8 → (s.due c.val).vopValid c.val 6 a = false →
      t.fget F.VU_ERR_OP_INVALID (c.val * 4 + a.vu.val) = 1) ∧
    (s.seqReady c.val = false → t = s)) ∧
  (∀ (c : CoreId) (a : VopArgs) (conflicts : List (Nat × Nat)) (s : State), ∃ t, exec (.vopQuant c a conflicts) s = .next t ∧ SameBut [.cores, .dbg,
      .ev, .faults, .flasks, .fld .CORE_MOULD, .fld .CORE_SC, .fld .CORE_SEQ, .fld .CORE_SEQ_ERR, .fld .CORE_STAT, .fld .DBG_HOLD, .fld .LDL_CTX_n,
      .fld .ME_STAT, .fld .MOD_FAULT_STAT, .fld .MOD_GRID_STAT, .fld .MOD_MB_SUMMARY, .fld .QUEUE_BASE, .fld .QUEUE_CTL, .fld .QUEUE_DB,
      .fld .QUEUE_LEVEL, .fld .QUEUE_STAT, .fld .QUEUE_WM, .fld .SE_STAT, .fld .SPD_CONFLICT, .fld .SPR_STAT, .fld .VU_ERR, .fld .VU_FLAGS,
      .fld .VU_STAT, .hostOut, .hports, .ldls, .mes, .msgs, .queues, .ses, .slots, .spd, .spdPoison, .vus] s t ∧
    (∀ v, v = s.vu (c.val * 4 + a.vu.val) → s.seqReady c.val = true → v.queued (s.sc c.val) < 8 → a.opc = 0x4A → (s.due c.val).vopValid c.val 6 a =
        true →
      ∀ A, A = (s.due c.val).vopAddr c.val a.imm a.sreg.val → ∀ bs, bs = packOver (fmtBits a.fmt) ((blocks32 (v.lanes a.parity a.va.val)).flatMap
          (fun b => (mxQuant a.fmt (b.map f32)).2.1)) (fun _ => 0) ++
        (blocks32 (v.lanes a.parity a.va.val)).map (fun b => BitVec.ofNat 8 (mxQuant a.fmt (b.map f32)).1) →
      Advanced s t c.val 1 ∧ (t.vu (c.val * 4 + a.vu.val)).regs = v.regs ∧
      (conflicts = [] → t.spdRd c.val A bs.length = bs) ∧
      ∀ i, (i < spdBase c.val + A ∨ spdBase c.val + A + bs.length ≤ i) → Mem.rd t.spd i = Mem.rd s.spd i) ∧
    (s.seqReady c.val = true → 8 ≤ (s.vu (c.val * 4 + a.vu.val)).queued (s.sc c.val) → t.fget F.CORE_SEQ_ERR_ISSUE_OVERFLOW c.val = 1) ∧
    (a.opc = 0x4A → s.seqReady c.val = true → (s.vu (c.val * 4 + a.vu.val)).queued (s.sc c.val) < 8 → (s.due c.val).vopValid c.val 6 a = false →
      t.fget F.VU_ERR_OP_INVALID (c.val * 4 + a.vu.val) = 1) ∧
    (s.seqReady c.val = false → t = s)) ∧
  (∀ (c : CoreId) (a : SampleArgs) (s : State), ∃ t, exec (.vopSample c a) s = .next t ∧ SameBut [.cores, .dbg, .ev, .faults, .flasks,
      .fld .CORE_MOULD, .fld .CORE_SC, .fld .CORE_SEQ, .fld .CORE_SEQ_ERR, .fld .CORE_STAT, .fld .DBG_HOLD, .fld .LDL_CTX_n, .fld .ME_STAT,
      .fld .MOD_FAULT_STAT, .fld .MOD_GRID_STAT, .fld .MOD_MB_SUMMARY, .fld .QUEUE_BASE, .fld .QUEUE_CTL, .fld .QUEUE_DB, .fld .QUEUE_LEVEL,
      .fld .QUEUE_STAT, .fld .QUEUE_WM, .fld .SE_STAT, .fld .SPR_STAT, .fld .VU_ERR, .fld .VU_STAT, .hostOut, .hports, .ldls, .mes, .msgs, .queues,
      .ses, .slots, .vus] s t ∧
    (∀ v A, v = s.vu (c.val * 4 + a.vu.val) → A = (s.due c.val).vopAddr c.val a.imm a.sreg.val → s.seqReady c.val = true →
      (8 ≤ v.queued (s.sc c.val) → t.fget F.CORE_SEQ_ERR_ISSUE_OVERFLOW c.val = 1) ∧
      (v.queued (s.sc c.val) < 8 → 1 ≤ a.vmaxBlocks → a.vmaxBlocks ≤ 1024 → 1 ≤ a.kmax → a.kmax ≤ 4096 → fits A 64 (2 ^ 28) = true →
        Advanced s t c.val 1 ∧ (t.vu (c.val * 4 + a.vu.val)).waiting.length = v.waiting.length + 1) ∧
      (v.queued (s.sc c.val) < 8 → a.vmaxBlocks = 0 ∨ 1024 < a.vmaxBlocks ∨ a.kmax = 0 ∨ 4096 < a.kmax ∨ fits A 64 (2 ^ 28) = false →
        t.fget F.VU_ERR_OP_INVALID (c.val * 4 + a.vu.val) = 1)) ∧
    (s.seqReady c.val = false → t = s)) ∧
  (∀ (c : CoreId) (vu : Fin 4) (s : State), ∃ t, exec (.sampleStart c vu) s = .next t ∧ SameBut [.ev, .fld .VU_ERR, .fld .VU_SAMP_STALL,
      .fld .VU_STAT, .vus] s t ∧
    ((s.vu (c.val * 4 + vu.val)).waiting = [] → t = s) ∧
    (∀ o rest, (s.vu (c.val * 4 + vu.val)).waiting = o :: rest → s.scheduled c.val = true → (s.vu (c.val * 4 + vu.val)).sample = none →
      (t.vu (c.val * 4 + vu.val)).waiting = rest ∧ (t.vu (c.val * 4 + vu.val)).sample.isSome = true ∧ t.fget F.VU_STAT_SAMPLING (c.val * 4 + vu.val)
          = 1 ∧
      (s.spdPoisoned c.val o.recAddr 64 = true ∨ recordValid o.vmax o.kmax (s.spdRd c.val o.recAddr 64) = false →
        t.fget F.VU_ERR_SAMP_PARAM (c.val * 4 + vu.val) = 1 ∧ Raised s t 0x020C 1))) ∧
  (∀ (c : CoreId) (vu : Fin 4) (s : State), ∃ t, exec (.tokenChosen c vu) s = .next t ∧ SameBut [.cores, .ev, .fld .CORE_QSTAT, .fld .QUEUE_LEVEL,
      .fld .QUEUE_STAT, .fld .QUEUE_WM, .fld .VU_FLAGS, .fld .VU_SAMP_COUNT, .fld .VU_SAMP_LAST, .fld .VU_STAT, .queues, .spd, .spdPoison, .vus] s t
      ∧
    ((s.vu (c.val * 4 + vu.val)).sample = none → t = s) ∧
    (∀ o, (s.vu (c.val * 4 + vu.val)).sample = some o → s.scheduled c.val = true →
      (t.vu (c.val * 4 + vu.val)).sample = none ∧ t.fget F.VU_STAT_SAMPLING (c.val * 4 + vu.val) = 0 ∧
      t.fget F.VU_SAMP_COUNT_COUNT (c.val * 4 + vu.val) = (s.fget F.VU_SAMP_COUNT_COUNT (c.val * 4 + vu.val) + 1) % 2 ^ F.VU_SAMP_COUNT_COUNT.len ∧
      t.fget F.VU_SAMP_LAST_OUTCOME (c.val * 4 + vu.val) =
        (if o.valid = false then 2 else if (chooseToken o.record o.logits).1.isSome = true then 0 else 1) ∧
      t.fget F.VU_SAMP_LAST_TOKEN (c.val * 4 + vu.val) =
        (if o.valid = true then (chooseToken o.record o.logits).1.getD 0xFFFFFFFF else 0xFFFFFFFF) % 2 ^ F.VU_SAMP_LAST_TOKEN.len ∧
      t.fget F.VU_SAMP_LAST_POISON (c.val * 4 + vu.val) = b2n o.poison))

/-- A timed-out elastic access is counted, marked and answered poisoned, or with status 1 for a write. A gather flush stores the masked bytes of its
entry in the line, and no other byte, and drops the entry. A write-back due is made and marks the line rewritten. A row in service that may be
substituted is mapped to the lowest free spare of its bank. The scrubber passes to the next row, from the last to row 0 with a pass counted,
unless DIS is set. Zeroing done leaves the core's scratchpad 0, ZEROING 0 and the core out of state 5. (R44, R260, R267, R268, R273, R275, R276,
R277, R279, R280, R300) -/
def Obligations.ScratchpadCommandsAct : Prop :=
  (∀ (c : CoreId) (op : AccessOp) (s : State), ∃ t, exec (.elasticAccessTimeout c op) s = .next t ∧ SameBut [.ev, .fld .SPD_ELASTIC, .resp] s t ∧
    t.fget F.SPD_ELASTIC_TIMEOUT c.val = min (s.fget F.SPD_ELASTIC_TIMEOUT c.val + 1) (2 ^ F.SPD_ELASTIC_TIMEOUT.len - 1) ∧ t.fget
        F.SPD_ELASTIC_TIMEOUT_SEEN c.val = 1 ∧ Raised s t 0x0305 1 ∧
    (∀ n, op = .read n → t.resp = some { bytes := List.replicate n 0, poison := true, status := 0 }) ∧
    ((∀ n, op ≠ .read n) → t.resp = some { bytes := [], poison := false, status := 1 })) ∧
  (∀ (c : CoreId) (line : Nat) (s : State), ∃ t, exec (.gatherFlush c line) s = .next t ∧ SameBut [.cores, .fld .SPD_ELASTIC, .spd, .spdPoison] s t ∧
    ((s.core c.val).gather.find? (fun g => g.line == line) = none → t = s) ∧
    (∀ g, (s.core c.val).gather.find? (fun g => g.line == line) = some g →
      (t.core c.val).gather = (s.core c.val).gather.filter (fun e => e.line != line) ∧
      (g.bytes.length = 64 → t.spdRd c.val (line * 64) 64 = overlay g.mask 0 (s.spdRd c.val (line * 64) 64) g.bytes) ∧
      (∀ a, (a < spdBase c.val + line * 64 ∨ spdBase c.val + line * 64 + 64 ≤ a) → Mem.rd t.spd a = Mem.rd s.spd a) ∧
      t.fget F.SPD_ELASTIC_GATHER_USED c.val = ((s.core c.val).gather.filter (fun e => e.line != line)).length % 2 ^ F.SPD_ELASTIC_GATHER_USED.len)) ∧
  (∀ (c : CoreId) (line : Nat) (s : State), ∃ t, exec (.eccWriteBack c line) s = .next t ∧ SameBut [.cores] s t ∧
    (NSet.mem (s.core c.val).writeBack line = true → NSet.mem (t.core c.val).writeBack line = false ∧ NSet.mem (t.core c.val).rewritten line = true) ∧
    (NSet.mem (s.core c.val).writeBack line = false → t = s)) ∧
  (∀ (c : CoreId) (bank : Fin 64) (row reason : Nat) (s : State), ∃ t, exec (.rowSubstitution c bank row reason) s = .next t ∧ SameBut [.cores,
      .dbg, .ev, .faults, .flasks, .fld .CLU_CORES, .fld .CORE_MOULD, .fld .CORE_SC, .fld .CORE_SEQ, .fld .CORE_STAT, .fld .DBG_HOLD,
      .fld .LDL_CTX_n, .fld .ME_STAT, .fld .MOD_BOOT_ERR, .fld .MOD_FAULT_STAT, .fld .MOD_GRID_STAT, .fld .MOD_MB_SUMMARY, .fld .MOD_ROW_MAP_r,
      .fld .QUEUE_BASE, .fld .QUEUE_CTL, .fld .QUEUE_DB, .fld .QUEUE_LEVEL, .fld .QUEUE_STAT, .fld .QUEUE_WM, .fld .SE_STAT, .fld .SPD_ELASTIC,
      .fld .SPD_STAT, .fld .SPR_STAT, .fld .VU_STAT, .hostOut, .hports, .ldls, .mes, .msgs, .queues, .ses, .slag, .slots, .vus] s t ∧
    (∀ i, row < 65536 → (reason ≠ 3 ∨ NSet.mem (s.core c.val).badRows (lineOf bank.val row) = true) → s.slagFull 3 = false →
      (s.core c.val).freeSpare bank.val = some i → NMap.get 0 (t.core c.val).rowMap (lineOf bank.val row) = i + 1 ∧
      NSet.mem (t.core c.val).badRows (lineOf bank.val row) = false ∧ NMap.get 0 (t.core c.val).sparesUsed (bank.val * 64 + i) = 1) ∧
    (65536 ≤ row ∨ (reason = 3 ∧ NSet.mem (s.core c.val).badRows (lineOf bank.val row) = false) → t = s)) ∧
  (∀ (c : CoreId) (x : ScrubFinding) (s : State), ∃ t, exec (.scrubRow c x) s = .next t ∧ SameBut [.cores, .dbg, .ev, .faults, .flasks,
      .fld .CORE_MOULD, .fld .CORE_SC, .fld .CORE_SEQ, .fld .CORE_STAT, .fld .DBG_HOLD, .fld .LDL_CTX_n, .fld .ME_STAT, .fld .MOD_FAULT_STAT,
      .fld .MOD_GRID_STAT, .fld .MOD_MB_SUMMARY, .fld .QUEUE_BASE, .fld .QUEUE_CTL, .fld .QUEUE_DB, .fld .QUEUE_LEVEL, .fld .QUEUE_STAT,
      .fld .QUEUE_WM, .fld .SE_STAT, .fld .SPD_ECC, .fld .SPD_ECC_ADDR, .fld .SPD_SCRUB_STAT, .fld .SPD_STAT, .fld .SPR_STAT, .fld .VU_STAT,
      .hostOut, .hports, .ldls, .mes, .msgs, .queues, .ses, .slots, .spdPoison, .vus] s t ∧
    (s.fget F.SPD_SCRUB_CTL_DIS c.val = 1 → t = s) ∧
    (s.fget F.SPD_SCRUB_CTL_DIS c.val = 0 → 65599 ≤ s.fget F.SPD_SCRUB_STAT_ROW c.val → t.fget F.SPD_SCRUB_STAT_ROW c.val = 0 ∧ t.fget
        F.SPD_SCRUB_STAT_PASSES c.val = (s.fget F.SPD_SCRUB_STAT_PASSES c.val + 1) % 2 ^ F.SPD_SCRUB_STAT_PASSES.len) ∧
    (s.fget F.SPD_SCRUB_CTL_DIS c.val = 0 → s.fget F.SPD_SCRUB_STAT_ROW c.val < 65599 → t.fget F.SPD_SCRUB_STAT_ROW c.val = s.fget
        F.SPD_SCRUB_STAT_ROW c.val + 1) ∧
    (s.fget F.SPD_SCRUB_CTL_DIS c.val = 0 → x.behind = true → t.fget F.SPD_SCRUB_STAT_BEHIND c.val = 1)) ∧
  (∀ (c : CoreId) (s : State), ∃ t, exec (.zeroingComplete c) s = .next t ∧ SameBut [.fld .CORE_STAT, .fld .MOD_MB_SUMMARY, .fld .SPD_STAT,
      .hostOut, .hports, .slots, .spd, .spdPoison] s t ∧
    (s.fget F.SPD_STAT_ZEROING c.val = 1 → t.fget F.SPD_STAT_ZEROING c.val = 0 ∧ ∀ a, a < 2 ^ 28 → Mem.rd t.spd (spdBase c.val + a) = 0) ∧
    (s.fget F.SPD_STAT_ZEROING c.val = 0 → t.spd = s.spd) ∧
    (∀ a, (a < spdBase c.val ∨ spdBase (c.val + 1) ≤ a) → Mem.rd t.spd a = Mem.rd s.spd a) ∧
    t.coreState c.val = (if s.coreState c.val = 5 then 0 else s.coreState c.val))

/-- An access to an offset within DRAM that is not held for refresh reads the line, or stores its bytes and no other byte; a corrected DRAM error of a
line that is not cached is counted. A prefetch of a line outside its flask's region is dropped and counted, a cached one is passed over, and
nothing is issued beyond the depth. A refresh notes its time. A temperature sample is recorded, sets FAST_REFRESH above 85, HOT above 95, and
stops other accesses from 105 on. A patrol finding is counted, and an uncorrectable one poisons its unit. (R281, R284, R285, R286, R287, R290,
R291, R292, R293) -/
def Obligations.CacheAndDramCommandsAct : Prop :=
  (∀ (off : Nat) (w : Option (List Byte)) (f : CacheFault) (s : State), ∃ t, exec (.cacheAccess off w f) s = .next t ∧ SameBut [.caches, .cores,
      .dbg, .dram, .dramPoison, .dramWritten, .ev, .faults, .flasks, .fld .CCH_ECC, .fld .CCH_HBM, .fld .CCH_HBM_ERR, .fld .CCH_HITS,
      .fld .CCH_MISSES, .fld .CORE_MOULD, .fld .CORE_SC, .fld .CORE_SEQ, .fld .CORE_STAT, .fld .DBG_HOLD, .fld .LDL_CTX_n, .fld .ME_STAT,
      .fld .MOD_FAULT_STAT, .fld .MOD_GRID_STAT, .fld .MOD_MB_SUMMARY, .fld .QUEUE_BASE, .fld .QUEUE_CTL, .fld .QUEUE_DB, .fld .QUEUE_LEVEL,
      .fld .QUEUE_STAT, .fld .QUEUE_WM, .fld .SE_STAT, .fld .SPR_STAT, .fld .VU_STAT, .hostOut, .hports, .ldls, .mes, .msgs, .queues, .resp, .ses,
      .slots, .vus] s t ∧
    (dramSize ≤ off ∨ s.dramOpen off 1 = false → t = s) ∧
    (off < dramSize → s.dramOpen off 1 = true → f = .none → w = none →
      t.resp = some { bytes := s.devRd (off / 256 * 256) 256, poison := s.dramPoisoned (off / 256 * 256) 256, status := 0 } ∧ t.dram = s.dram) ∧
    (∀ bs a, off < dramSize → s.dramOpen off 1 = true → f = .none → w = some bs →
      (∀ i, i < (bs.take (256 - off % 256)).length → t.dramByte (off + i) = (bs.take (256 - off % 256)).getD i 0) ∧
      (a < off ∨ off + (bs.take (256 - off % 256)).length ≤ a → t.dramByte a = s.dramByte a)) ∧
    (off < dramSize → s.dramOpen off 1 = true → f = .dramCorrected → (s.cache (homeOf off)).lines.any (fun l => l.line == off / 256) = false →
      t.fget F.CCH_HBM_CORR (stackCluster (stackOf off)).1 = min (s.fget F.CCH_HBM_CORR (stackCluster (stackOf off)).1 + 1) (2 ^ F.CCH_HBM_CORR.len
          - 1))) ∧
  (∀ (h : ClusterId) (e : LdlId) (x : Fin 4) (s : State), ∃ t, exec (.prefetchIssue h e x) s = .next t ∧ SameBut [.caches, .fld .CCH_PF] s t ∧
    ((s.cache h.val).trackers.find? (fun k => k.engine == e.val && k.ctx == x.val) = none → t = s) ∧
    (∀ k, (s.cache h.val).trackers.find? (fun k => k.engine == e.val && k.ctx == x.val) = some k →
      (k.todo = [] → t = s) ∧
      (∀ l ls, k.todo = l :: ls → s.regionOf (l * 256) ≠ some k.flask →
        t.fget F.CCH_PF_DROPPED h.val = min (s.fget F.CCH_PF_DROPPED h.val + 1) (2 ^ F.CCH_PF_DROPPED.len - 1) ∧ (t.cache h.val).lines = (s.cache
            h.val).lines) ∧
      (∀ l ls, k.todo = l :: ls → s.regionOf (l * 256) = some k.flask → k.depth ≤ k.ahead → t = s))) ∧
  (∀ (st : Fin 20) (ch bk : Fin 64) (tc : Nat) (s : State), ∃ t, exec (.hbmRefresh st ch bk tc) s = .next t ∧ SameBut [.fld .TC_NOW, .refreshed] s t ∧
    t.tc = s.clockAt tc ∧
    t.refreshedAt ((st.val * 64 + ch.val) * 64 + bk.val) = t.tc) ∧
  (∀ (st : Fin 20) (temp : Fin 256) (s : State), ∃ t, exec (.hbmTempSample st temp) s = .next t ∧ SameBut [.dbg, .ev, .faults, .flasks,
      .fld .CCH_HBM, .fld .CORE_STAT, .fld .DBG_HOLD, .fld .MOD_FAULT_STAT, .fld .MOD_MB_SUMMARY, .fld .SPR_STAT, .hostOut, .hports, .msgs,
      .refreshOnly, .slots] s t ∧
    (∀ h a, stackCluster st.val = (h, a) → t.fget (if a = true then F.CCH_HBM_TEMP_A else F.CCH_HBM_TEMP_B) h = temp.val ∧ t.fget (if a = true then
        F.CCH_HBM_FAST_REFRESH_A else F.CCH_HBM_FAST_REFRESH_B) h = b2n (decide (85 < temp.val)) ∧ (95 < temp.val → t.fget F.CCH_HBM_HOT h = 1)) ∧
    (105 ≤ temp.val → NSet.mem t.refreshOnly st.val = true)) ∧
  (∀ (st : Fin 20) (fs : List (Nat × Bool)) (s : State), ∃ t, exec (.hbmPatrol st fs) s = .next t ∧ SameBut [.cores, .dbg, .dramPoison,
      .dramWritten, .ev, .faults, .flasks, .fld .CCH_HBM, .fld .CCH_HBM_ERR, .fld .CORE_MOULD, .fld .CORE_SC, .fld .CORE_SEQ, .fld .CORE_STAT,
      .fld .DBG_HOLD, .fld .LDL_CTX_n, .fld .ME_STAT, .fld .MOD_FAULT_STAT, .fld .MOD_GRID_STAT, .fld .MOD_MB_SUMMARY, .fld .QUEUE_BASE,
      .fld .QUEUE_CTL, .fld .QUEUE_DB, .fld .QUEUE_LEVEL, .fld .QUEUE_STAT, .fld .QUEUE_WM, .fld .SE_STAT, .fld .SPR_STAT, .fld .VU_STAT, .hostOut,
      .hports, .ldls, .mes, .msgs, .queues, .ses, .slots, .vus] s t ∧
    ((∀ x ∈ fs, dramSize ≤ x.1 ∨ stackOf x.1 ≠ st.val) → t = s) ∧
    (∀ off, fs = [(off, false)] → off < dramSize → stackOf off = st.val →
      t.fget F.CCH_HBM_CORR (stackCluster st.val).1 = min (s.fget F.CCH_HBM_CORR (stackCluster st.val).1 + 1) (2 ^ F.CCH_HBM_CORR.len - 1) ∧ Raised
          s t 0x0308 0) ∧
    (∀ off, fs = [(off, true)] → off < dramSize → stackOf off = st.val → t.dramPoisoned (off / 64 * 64) 64 = true ∧
      t.fget F.CCH_HBM_UNCORR (stackCluster st.val).1 = min (s.fget F.CCH_HBM_UNCORR (stackCluster st.val).1 + 1) (2 ^ F.CCH_HBM_UNCORR.len - 1)))

/-- A beat whose parity fails is counted. In a scheduled slot of a core in RUN a beat that passes the checks of its entry is driven on the entry's
output, and one that fails is a slip: counted, with DESYNC set. A scheduled departure from scratchpad drives its 128 bytes with the flow of its
entry; an injected elastic beat needs a credit of its class, spends it and is counted. A halt notice arms a fault halt at the next frame boundary
for a flask in RUN. A flit with a good CRC clears the retry count of its link and, with a header, is counted; a bad one is counted, and the eighth
in a row takes the link down. (R352, R354, R361, R363, R367, R368, R370, R387, R388) -/
def Obligations.SprueAndVentCommandsAct : Prop :=
  (∀ (c : CoreId) (i : Fin 8) (sc : Nat) (b : Beat) (f : BeatFault) (rsp : Bool) (cr : Fin 5 × Fin 5) (lost : List (Nat × Nat)) (s : State), ∃ t,
      exec (.sprueBeatReceive c i sc b f rsp cr lost) s = .next t ∧ SameBut [.cores, .dec, .ev, .faults, .flasks, .fld .CLK_CHG_STAT,
      .fld .MOD_FAULT_STAT, .fld .SPD_CONFLICT, .fld .SPR_ELASTIC, .fld .SPR_ERR, .fld .SPR_SLIP, .fld .SPR_SLIP_INFO, .msgs, .ports, .spd,
      .spdPoison] s t ∧
    (f = .parity → t.fget F.SPR_ERR_PARITY c.val = min (s.fget F.SPR_ERR_PARITY c.val + 1) (2 ^ F.SPR_ERR_PARITY.len - 1) ∧ t.fget
        F.SPR_ERR_PARITY_SEEN c.val = 1) ∧
    (∀ fl e k, f = .none → lost = [] → b.elastic = false → s.flaskOf c.val = some fl → s.scheduled c.val = true → s.sprPeriod c.val ≠ 0 →
        elasticSlot sc = false →
      s.slotsAt c.val i.val sc = [(e, k)] →
      (slipCause e (s.tagAt fl (sc - e.latency)) true b = 0 → e.out < 8 → (c.val / 16 ≠ 0 ∨ e.out ≠ 4) → (c.val / 16 ≠ 9 ∨ e.out ≠ 5) → 
        Sent s t toSprue .beat ([c.val, e.out] ++ beatFields b)) ∧
      (slipCause e (s.tagAt fl (sc - e.latency)) true b ≠ 0 → t.fget F.CLK_CHG_STAT_DESYNC 0 = 1 ∧
        t.fget F.SPR_SLIP_COUNT c.val = min (s.fget F.SPR_SLIP_COUNT c.val + 1) (2 ^ F.SPR_SLIP_COUNT.len - 1)))) ∧
  (∀ (c : CoreId) (o : Fin 8) (sc : Nat) (w : Departure) (lost : List (Nat × Nat)) (s : State), ∃ t, exec (.sprueDeparture c o sc w lost) s = .next
      t ∧ SameBut [.cores, .ev, .fld .SPD_CONFLICT, .fld .SPR_ELASTIC, .msgs, .ports] s t ∧
    (∀ fl e k, w = .scheduled → lost = [] → s.flaskOf c.val = some fl → s.gclk.bubbled = false → s.sprPeriod c.val ≠ 0 → elasticSlot sc = false →
      ((s.slotsAt c.val 8 sc) ++ (s.slotsAt c.val 9 sc)).filter (fun x => x.1.out == o.val) = [(e, k)] → e.src = 8 → s.coreState c.val = 3 → (c.val
          / 16 ≠ 0 ∨ o.val ≠ 4) → (c.val / 16 ≠ 9 ∨ o.val ≠ 5) →
      ∃ b : Beat, Sent s t toSprue .beat ([c.val, o.val] ++ beatFields b) ∧ b.flow = e.flow ∧ b.null = false ∧
        b.payload = s.spdRd c.val (e.addr % 2 ^ 28 + k * e.step * 128) 128) ∧
    (∀ rsp b, w = .inject rsp b → ∀ n, n = NMap.get 0 (s.core c.val).elUsed (o.val * 2 + b2n rsp) →
      ((elasticSlot sc = true ∨ s.scheduled c.val = false) → n < 4 →
        NMap.get 0 (t.core c.val).elUsed (o.val * 2 + b2n rsp) = n + 1 ∧
        t.fget F.SPR_ELASTIC_SENT c.val = (s.fget F.SPR_ELASTIC_SENT c.val + 1) % 2 ^ F.SPR_ELASTIC_SENT.len) ∧
      (4 ≤ n ∨ (elasticSlot sc = false ∧ s.scheduled c.val = true) → t = s))) ∧
  (∀ (c : CoreId) (s : State), ∃ t, exec (.haltNotice c) s = .next t ∧ SameBut [.flasks] s t ∧
    (s.flaskOf c.val = none → t = s) ∧
    (∀ f, s.flaskOf c.val = some f → (s.flaskIn f 3 = false → t = s) ∧
      (s.flaskIn f 3 = true → SameBut [.flasks] s t ∧
        (t.flask f).halt = some { kind := .fault, quiesce := false, target := 0, slot := none, cause := 3 }))) ∧
  (∀ (l : Fin 31) (h : ClusterId) (k : Fin 3) (hd : Bool) (occ : Fin 9) (ok : Bool) (s : State), ∃ t, exec (.ventFlitReceive l h k hd occ ok) s =
      .next t ∧ SameBut [.dbg, .ev, .faults, .flasks, .fld .CLU_VENT, .fld .CORE_STAT, .fld .DBG_HOLD, .fld .MOD_FAULT_STAT, .fld .MOD_MB_SUMMARY,
      .fld .SPR_STAT, .fld .VNT_ERR, .fld .VNT_STAT, .hostOut, .hports, .msgs, .slots] s t ∧
    (bitOf (s.fget F.VNT_STAT_UP 0) l.val = false → t = s) ∧
    (bitOf (s.fget F.VNT_STAT_UP 0) l.val = true → ok = true → NMap.get 0 t.faults.vent l.val = 0 ∧
      (hd = true → t.fget F.CLU_VENT_PACKETS h.val = (s.fget F.CLU_VENT_PACKETS h.val + 1) % 2 ^ F.CLU_VENT_PACKETS.len)) ∧
    (∀ n, n = NMap.get 0 s.faults.vent l.val + 1 → bitOf (s.fget F.VNT_STAT_UP 0) l.val = true → ok = false →
      (n < 8 → NMap.get 0 t.faults.vent l.val = n ∧ t.fget F.VNT_ERR_RETRIES 0 = min (s.fget F.VNT_ERR_RETRIES 0 + 1) (2 ^ F.VNT_ERR_RETRIES.len -
          1)) ∧
      (8 ≤ n → bitOf (t.fget F.VNT_STAT_UP 0) l.val = false ∧ bitOf (t.fget F.VNT_ERR_LINK_DOWN 0) l.val = true)))

/-- SEQ_LDL puts a valid descriptor in its channel or among the jobs that wait, sets SCHED_OVERLAP or ISSUE_OVERFLOW where there is no room, and
records the reason of an invalid one. A scheduled slot advances its channel or ends it. A context takes the picked job. A sector write that may go
is open until its acknowledgement, which counts a committed write, sends a discarded one once more, and ends a refused one in a master reset with
cause 4. An abort by mask marks each running context with cause 3; once its writes are resolved, or at the time-out, the context is captured and
empty, BUSY 0, with its cause and EXACT. (R211, R307, R309, R327, R333, R337, R340, R341, R346, R348) -/
def Obligations.LadleCommandsAct : Prop :=
  (∀ (c : CoreId) (e : Fin 4) (index : Fin 4096) (reloc : Fin 32) (mask : BitVec 16) (s : State), ∃ t, exec (.seqLdl c e index reloc mask) s = .next
      t ∧ SameBut [.cores, .dbg, .ev, .faults, .flasks, .fld .CORE_MOULD, .fld .CORE_SC, .fld .CORE_SEQ, .fld .CORE_SEQ_ERR, .fld .CORE_STAT,
      .fld .DBG_HOLD, .fld .LDL_CTX_n, .fld .LDL_ERR, .fld .ME_STAT, .fld .MOD_FAULT_STAT, .fld .MOD_GRID_STAT, .fld .MOD_MB_SUMMARY,
      .fld .QUEUE_BASE, .fld .QUEUE_CTL, .fld .QUEUE_DB, .fld .QUEUE_LEVEL, .fld .QUEUE_STAT, .fld .QUEUE_WM, .fld .SE_STAT, .fld .SPR_STAT,
      .fld .VU_STAT, .hostOut, .hports, .ldls, .mes, .msgs, .queues, .ses, .slots, .vus] s t ∧
    (s.seqReady c.val = true → ∀ m E b out lg reason, m = mask.toNat → E = clusterOf c.val * 4 + e.val → lg = orFF (s.logOf c.val) →
      relocate ((s.due c.val).descAt c.val index.val 256) (m % 32) ((s.due c.val).scalar c.val reloc.val) 5 = (b, out) →
      reason = ldlReason (s.module * 2 ^ 20 + lg * 2 ^ 8) (m == bitsOf m 0 1 + 4 * bitsOf m 2 1 + 16 * bitsOf m 4 1) out b →
      ∀ j : LdlJob, j = { desc := b, core := c.val, logical := lg, flask := (s.flaskOf c.val).getD 0 } →
      (reason ≠ 0 → t.fget F.LDL_ERR_INVALID E = 1 ∧ t.fget F.LDL_ERR_LAST_REASON E = reason % 2 ^ F.LDL_ERR_LAST_REASON.len) ∧
      (reason = 0 → j.d.sched = true → (assoc ChanSt.idle (s.ldl E).chans (localOf c.val)).job = none →
        Advanced s t c.val 1 ∧ (assoc ChanSt.idle (t.ldl E).chans (localOf c.val)).job = some j) ∧
      (reason = 0 → j.d.sched = true → (assoc ChanSt.idle (s.ldl E).chans (localOf c.val)).job.isSome = true → t.fget F.LDL_ERR_SCHED_OVERLAP E = 1) ∧
      (reason = 0 → j.d.sched = false → ((s.ldl E).waiting.filter (fun x => x.core == c.val)).length < 16 →
        Advanced s t c.val 1 ∧ (t.ldl E).waiting = (s.ldl E).waiting ++ [j]) ∧
      (reason = 0 → j.d.sched = false → 16 ≤ ((s.ldl E).waiting.filter (fun x => x.core == c.val)).length →
        t.fget F.CORE_SEQ_ERR_ISSUE_OVERFLOW c.val = 1)) ∧
    (s.seqReady c.val = false → t = s)) ∧
  (∀ (e : LdlId) (k : Fin 8) (lost : List (Nat × Nat)) (s : State), ∃ t, exec (.ldlSchedSlot e k lost) s = .next t ∧ SameBut [.cores, .ev,
      .fld .LDL_CLAMP, .fld .LDL_ERR, .fld .LDL_FLAGS, .fld .LDL_SECTORS, .fld .LDL_STAT, .fld .SPD_CONFLICT, .fld .SPD_ELASTIC, .ldls, .spd,
      .spdPoison] s t ∧
    ((assoc ChanSt.idle (s.ldl e.val).chans k.val).job = none → t = s) ∧
    (s.scheduled (physAt (e.val / 4) k.val) = false → t = s) ∧
    (∀ j, (assoc ChanSt.idle (s.ldl e.val).chans k.val).job = some j → s.scheduled (physAt (e.val / 4) k.val) = true →
      assoc ChanSt.idle (t.ldl e.val).chans k.val = ChanSt.idle ∨ ((assoc ChanSt.idle (t.ldl e.val).chans k.val).job = some j ∧
        (assoc ChanSt.idle (t.ldl e.val).chans k.val).slot = (assoc ChanSt.idle (s.ldl e.val).chans k.val).slot + 1))) ∧
  (∀ (e : LdlId) (n : Fin 4) (r : List (Nat × List Byte)) (s : State), ∃ t, exec (.ldlContextStart e n r) s = .next t ∧ SameBut [.caches, .cores,
      .ev, .fld .CCH_HITS, .fld .CCH_MISSES, .fld .LDL_CLAMP, .fld .LDL_CTXW_n, .fld .LDL_CTX_n, .fld .LDL_ERR, .fld .LDL_STAT,
      .fld .MOD_FA_FAULT_ADDR, .fld .MOD_FA_FAULT_INFO, .fld .SPD_ELASTIC, .ldls, .msgs, .ports, .spd, .spdPoison] s t ∧
    ((s.ctx e.val n.val).job.isSome = true ∨ (s.ldl e.val).pick = none → t = s) ∧
    (∀ j, (s.ctx e.val n.val).job = none → (s.ldl e.val).pick = some j → (t.ldl e.val).waiting = dropFirst j (s.ldl e.val).waiting ∧ (t.ldl
        e.val).lastServed = j.logical ∧
      (((t.ctx e.val n.val).job = some j ∧ t.fget F.LDL_CTX_n_BUSY (e.val * 4 + n.val) = 1) ∨
       ((t.ctx e.val n.val) = CtxSt.empty ∧ t.fget F.LDL_CTX_n_BUSY (e.val * 4 + n.val) = 0)))) ∧
  (∀ (e : LdlId) (n : Fin 4) (w : Nat) (ok : Bool) (s : State), ∃ t, exec (.sectorWrite e n w ok) s = .next t ∧ SameBut [.caches, .cores, .dram,
      .dramPoison, .dramWritten, .ev, .fld .CCH_HITS, .fld .CCH_MISSES, .fld .LDL_ERR, .fld .LDL_FLAGS, .fld .LDL_SECTORS, .fld .MOD_FA_FAULT_ADDR,
      .fld .MOD_FA_FAULT_INFO, .fld .SPD_ELASTIC, .ldls, .msgs, .ports, .spd, .spdPoison] s t ∧
    ((s.ctx e.val n.val).job = none → t = s) ∧
    (∀ j sec, (s.ctx e.val n.val).job = some j → j.d.plan.writes.reverse[w]? = some sec → (s.ctx e.val n.val).mayGo j.d j.d.plan.writes.reverse w =
        true →
      s.sectorOpen (sec.sector * 256 :: ((j.d.plan.reads.reverse.take (if (j.d.nextWrite j.d.plan.writes.reverse.length (w + 1)).isNone = true then
          j.d.plan.nr
        else sec.need)).drop (s.ctx e.val n.val).lines.length).map (fun l => l * 64)) = true → (s.ctx e.val n.val).open_.elem w = false →
      (t.ctx e.val n.val).open_ = (s.ctx e.val n.val).open_ ++ [w] ∧ (t.ctx e.val n.val).issued = w + 1 ∧
      (faModule (sec.sector * 256) = s.module → ∃ o, (t.ctx e.val n.val).atTarget = (s.ctx e.val n.val).atTarget ++ [(w, o)] ∧ (ok = false → o =
          .discarded)))) ∧
  (∀ (e : LdlId) (n : Fin 4) (w : Nat) (s : State), ∃ t, exec (.sectorBeatTimeout e n w) s = .next t ∧ SameBut [.caches, .cores, .dram, .dramPoison,
      .dramWritten, .ev, .fld .CCH_HITS, .fld .CCH_MISSES, .fld .LDL_ERR, .fld .LDL_FLAGS, .fld .LDL_SECTORS, .fld .MOD_FA_FAULT_ADDR,
      .fld .MOD_FA_FAULT_INFO, .fld .SPD_ELASTIC, .ldls, .msgs, .ports, .spd, .spdPoison] s t ∧
    ((s.ctx e.val n.val).job = none → t = s) ∧
    (∀ j sec, (s.ctx e.val n.val).job = some j → j.d.plan.writes.reverse[w]? = some sec → (s.ctx e.val n.val).mayGo j.d j.d.plan.writes.reverse w =
        true →
      s.sectorOpen (sec.sector * 256 :: ((j.d.plan.reads.reverse.take (if (j.d.nextWrite j.d.plan.writes.reverse.length (w + 1)).isNone = true then
          j.d.plan.nr
        else sec.need)).drop (s.ctx e.val n.val).lines.length).map (fun l => l * 64)) = true → (s.ctx e.val n.val).open_.elem w = false →
      (t.ctx e.val n.val).open_ = (s.ctx e.val n.val).open_ ++ [w] ∧ (t.ctx e.val n.val).issued = w + 1 ∧
      (faModule (sec.sector * 256) = s.module → ∃ o, (t.ctx e.val n.val).atTarget = (s.ctx e.val n.val).atTarget ++ [(w, o)] ∧ o = .discarded))) ∧
  (∀ (e : LdlId) (n : Fin 4) (w : Nat) (o : AckOutcome) (s : State), ∃ t, exec (.sectorAck e n w o) s = .next t ∧ SameBut [.caches, .cores, .ev,
      .fld .LDL_CTXW_n, .fld .LDL_CTX_n, .fld .LDL_ERR, .fld .LDL_SECTORS, .fld .LDL_STAT, .fld .SPD_ELASTIC, .ldls, .msgs, .ports, .spd,
      .spdPoison] s t ∧
    ((s.ctx e.val n.val).job = none ∨ (s.ctx e.val n.val).open_.elem w = false → t = s) ∧
    (∀ j sec, (s.ctx e.val n.val).job = some j → (s.ctx e.val n.val).open_.elem w = true → j.d.plan.writes.reverse[w]? = some sec → faModule
        (sec.sector * 256) ≠ s.module →
      (o = .committed → t.fget F.LDL_SECTORS_COUNT e.val = (s.fget F.LDL_SECTORS_COUNT e.val + 1) % 2 ^ F.LDL_SECTORS_COUNT.len) ∧
      (o = .discarded → (s.ctx e.val n.val).abortCause = 0 → (s.ctx e.val n.val).resent.elem w = false → (t.ctx e.val n.val).open_ = (s.ctx e.val
          n.val).open_ ∧ (t.ctx e.val n.val).resent = (s.ctx e.val n.val).resent ++ [w]) ∧
      (o = .refused ∨ (o = .discarded ∧ (s.ctx e.val n.val).resent.elem w = true) → (s.ctx e.val n.val).abortCause = 0 →
        (t.ctx e.val n.val).abortCause = 4 ∧ (t.ctx e.val n.val).open_.elem w = false ∧ t.fget F.LDL_CTX_n_ABORTING (e.val * 4 + n.val) = 1))) ∧
  (∀ (e : LdlId) (m : Fin 16) (s : State), ∃ t, exec (.ldlAbort e m) s = .next t ∧ SameBut [.fld .LDL_CTX_n, .ldls] s t ∧
    (∀ n, n < 4 → (bitOf m.val n = true → (s.ctx e.val n).job.isSome = true → (s.ctx e.val n).abortCause = 0 →
        (t.ctx e.val n) = { s.ctx e.val n with abortCause := 3 } ∧ t.fget F.LDL_CTX_n_ABORTING (e.val * 4 + n) = 1) ∧
      (bitOf m.val n = false → t.ctx e.val n = s.ctx e.val n))) ∧
  (∀ (e : LdlId) (n : Fin 4) (s : State), ∃ t, exec (.abortResolveTimeout e n) s = .next t ∧ SameBut [.caches, .cores, .ev, .fld .LDL_CTXW_n,
      .fld .LDL_CTX_n, .fld .LDL_ERR, .fld .LDL_STAT, .fld .SPD_ELASTIC, .ldls, .msgs, .ports, .spd, .spdPoison] s t ∧
    ((s.ctx e.val n.val).abortCause = 0 → t = s) ∧
    ((s.ctx e.val n.val).abortCause ≠ 0 → (s.ctx e.val n.val).job.isSome = true → (t.ctx e.val n.val) = CtxSt.empty ∧ t.fget F.LDL_CTX_n_BUSY (e.val
        * 4 + n.val) = 0 ∧
      t.fget F.LDL_CTX_n_STATUS (e.val * 4 + n.val) = (if (s.ctx e.val n.val).abortCause = 4 then 3 else 1) ∧
      t.fget F.LDL_CTX_n_EXACT (e.val * 4 + n.val) = b2n (s.ctx e.val n.val).open_.isEmpty ∧ t.fget F.LDL_CTX_n_CAUSE (e.val * 4 + n.val) = (s.ctx
          e.val n.val).abortCause % 2 ^ F.LDL_CTX_n_CAUSE.len)) ∧
  (∀ (e : LdlId) (n : Fin 4) (s : State), ∃ t, exec (.abortCapture e n) s = .next t ∧ SameBut [.caches, .cores, .ev, .fld .LDL_CTXW_n,
      .fld .LDL_CTX_n, .fld .LDL_ERR, .fld .LDL_STAT, .fld .SPD_ELASTIC, .ldls, .msgs, .ports, .spd, .spdPoison] s t ∧
    ((s.ctx e.val n.val).abortCause = 0 ∨ (s.ctx e.val n.val).open_ ≠ [] → t = s) ∧
    ((s.ctx e.val n.val).abortCause ≠ 0 → (s.ctx e.val n.val).open_ = [] → (s.ctx e.val n.val).job.isSome = true → (t.ctx e.val n.val) = CtxSt.empty ∧
      t.fget F.LDL_CTX_n_BUSY (e.val * 4 + n.val) = 0 ∧ t.fget F.LDL_CTX_n_EXACT (e.val * 4 + n.val) = 1 ∧
      t.fget F.LDL_CTX_n_STATUS (e.val * 4 + n.val) = (if (s.ctx e.val n.val).abortCause = 4 then 3 else 1)))

/-- A scheduled cell is held for release, or is late and counted, or finds no room and is lost; a release cycle moves its port's SSEQ on and counts
the beat. An elastic cell in order is accepted, another asks for a resend; cells unacknowledged for 4 µs go out again. A superframe on an UP port
moves SF_SEQ on; one received counts its FEC corrections, and on a keyed port a bad CRC or tag sets AUTH_FAIL. The oldest complete elastic request
or response leaves the buffer and frees its cells. A WRITE_FAULT is told and counted at its flask. (R389, R390, R392, R393, R394, R405, R411,
R413, R414, R423) -/
def Obligations.RunnerLinkCommandsAct : Prop :=
  (∀ (p : PortId) (q : Fin 2048) (b : Beat) (s : State), ∃ t, exec (.scheduledCell p q b) s = .next t ∧ SameBut [.fld .RUN_ERR, .ports] s t ∧
    (1024 ≤ (q.val + 2048 - (s.port p.val).rxSseq) % 2048 → t.fget F.RUN_ERR_LATE p.val = min (s.fget F.RUN_ERR_LATE p.val + 1) (2 ^
        F.RUN_ERR_LATE.len - 1) ∧ t.fget F.RUN_ERR_LATE_SEEN p.val = 1 ∧ t.ports = s.ports) ∧
    ((q.val + 2048 - (s.port p.val).rxSseq) % 2048 < 1024 → 512 ≤ (s.port p.val).release.length → (t.port p.val) =
        { (s.port p.val) with lostSseq := (s.port p.val).lostSseq ++ [q.val] } ∧ t.fget F.RUN_ERR_RELEASE_OVERFLOW p.val = 1) ∧
    ((q.val + 2048 - (s.port p.val).rxSseq) % 2048 < 1024 → (s.port p.val).release.length < 512 → SameBut [.ports] s t ∧ (t.port p.val) = { (s.port
        p.val) with release := (s.port p.val).release ++ [{ sseq := q.val, beat := b }] })) ∧
  (∀ (p : PortId) (sc : Nat) (s : State), ∃ t, exec (.releaseCycle p sc) s = .next t ∧ SameBut [.fld .RUN_ERR, .fld .RUN_SCHED, .freeCtr, .msgs,
      .ports] s t ∧
    (s.stopCore p.val = none → t = s) ∧
    (∀ c e k r, s.stopCore p.val = some c → s.scheduled c = true → s.sprPeriod c ≠ 0 → s.slotsAt c (stopInput p.val) (sc + 2) = [(e, k)] →
      s.rxEntry p.val e.flow = some r → (t.port p.val).rxSseq = ((s.port p.val).rxSseq + 1) % 2048 ∧ t.fget F.RUN_SCHED_RELEASED p.val = (s.fget
          F.RUN_SCHED_RELEASED p.val + 1) % 2 ^ F.RUN_SCHED_RELEASED.len)) ∧
  (∀ (p : PortId) (x : ElCell) (s : State), ∃ t, exec (.elasticCell p x) s = .next t ∧ SameBut [.ports] s t ∧
    (x.eseq = (s.port p.val).eExpect → (t.port p.val) =
        { (s.port p.val) with rxElastic := (s.port p.val).rxElastic ++ [x], eExpect := ((s.port p.val).eExpect + 1) % 256 }) ∧
    (x.eseq ≠ (s.port p.val).eExpect → (t.port p.val) = { (s.port p.val) with nakDue := true })) ∧
  (∀ (p : PortId) (tc : Nat) (s : State), ∃ t, exec (.elasticResendTimeout p tc) s = .next t ∧ SameBut [.fld .RUN_ELASTIC, .fld .TC_NOW, .ports] s t ∧
    t.tc = s.clockAt tc ∧
    ((s.port p.val).ackAt + 4000 ≤ s.clockAt tc → (s.port p.val).unacked ≠ [] → (t.port p.val).again = (s.port p.val).unacked ∧ (t.port p.val).ackAt
        = t.tc ∧ t.fget F.RUN_ELASTIC_REPLAYS p.val = min (s.fget F.RUN_ELASTIC_REPLAYS p.val + 1) (2 ^ F.RUN_ELASTIC_REPLAYS.len - 1)) ∧
    (s.clockAt tc < (s.port p.val).ackAt + 4000 ∨ (s.port p.val).unacked = [] → SameBut [.fld .TC_NOW] s t)) ∧
  (∀ (p : PortId) (sf : Superframe) (tc : Nat) (s : State), ∃ t, exec (.superframeReceive p sf tc) s = .next t ∧ SameBut [.ev, .faults, .flasks,
      .fld .MOD_FAULT_STAT, .fld .MOD_MB_SUMMARY, .fld .RUN_ELASTIC, .fld .RUN_ERR, .fld .RUN_FEC, .fld .RUN_STAT, .fld .TC_NOW, .hostOut, .hports,
      .msgs, .ports, .slots] s t ∧
    t.tc = s.clockAt tc ∧
    (s.portState p.val ≠ 4 → SameBut [.fld .TC_NOW] s t) ∧
    (s.portState p.val = 4 → t.fget F.RUN_FEC_CORRECTED p.val = (s.fget F.RUN_FEC_CORRECTED p.val + sf.corrected) % 2 ^ F.RUN_FEC_CORRECTED.len) ∧
    (s.portState p.val = 4 → s.fget F.RUN_STAT_ENCRYPTED p.val = 1 → sf.crcOk = false ∨ sf.tagOk = false → t.fget F.RUN_ERR_AUTH_FAIL p.val = 1) ∧
    (s.portState p.val = 4 → sf.crcOk = true → s.fget F.RUN_STAT_ENCRYPTED p.val = 0 ∨ sf.tagOk = true → (t.port p.val).rxSeq = some sf.seq)) ∧
  (∀ (p : PortId) (s : State), ∃ t, exec (.superframeSend p) s = .next t ∧ SameBut [.fld .RUN_ELASTIC, .fld .RUN_SCHED, .fld .RUN_STAT, .msgs,
      .ports] s t ∧
    (s.portState p.val ≠ 4 → t = s) ∧
    (s.portState p.val = 4 → (t.port p.val).txSeq = ((s.port p.val).txSeq + 1) % 2 ^ 32 ∧ ∃ fs, Sent s t p.val .superframe fs)) ∧
  (∀ (p : PortId) (s : State), ∃ t, exec (.elasticRequest p) s = .next t ∧ SameBut [.caches, .cores, .dram, .dramPoison, .dramWritten, .ev,
      .fld .CCH_HITS, .fld .CCH_MISSES, .fld .CORE_QSTAT, .fld .MOD_FA_FAULT_ADDR, .fld .MOD_FA_FAULT_INFO, .fld .MOD_HOST_ERR_p,
      .fld .PWR_TELEM_IN_p, .fld .QUEUE_BASE, .fld .QUEUE_CTL, .fld .QUEUE_LEVEL, .fld .QUEUE_STAT, .fld .QUEUE_WM, .fld .SPD_ELASTIC, .flds, .msgs,
      .ports, .queues, .spd, .spdPoison] s t ∧
    (takeMsg false (s.port p.val).rxElastic [] [] = none → t = s) ∧
    (∀ cs rest, takeMsg false (s.port p.val).rxElastic [] [] = some (cs, rest) →
      (t.port p.val).rxElastic = rest ∧ (t.port p.val).freedReq = ((s.port p.val).freedReq + cs.length) % 65536)) ∧
  (∀ (far tag status : Nat) (fidx : Fin 1024) (tc fa n : Nat) (s : State), ∃ t, exec (.writeFault far tag status fidx tc fa n) s = .next t ∧ SameBut
      [.ev, .flasks] s t ∧
    Raised s t 0x0604 1 ∧
    (s.faultOwner tag fidx.val fa = none → SameBut [.ev] s t) ∧
    (∀ f, s.faultOwner tag fidx.val fa = some f → (t.flask f).writeFaults = (s.flask f).writeFaults + n ∧ NSet.mem (t.flask f).postedMask fidx.val =
        true)) ∧
  (∀ (p : PortId) (s : State), ∃ t, exec (.elasticResponse p) s = .next t ∧ SameBut [.caches, .cores, .ev, .flasks, .fld .LDL_CTXW_n,
      .fld .LDL_CTX_n, .fld .LDL_ERR, .fld .LDL_SECTORS, .fld .LDL_STAT, .fld .RUN_ELASTIC, .fld .SPD_ELASTIC, .ldls, .msgs, .ports, .resp, .slots,
      .spd, .spdPoison] s t ∧
    (takeMsg true (s.port p.val).rxElastic [] [] = none → t = s) ∧
    (∀ cs rest, takeMsg true (s.port p.val).rxElastic [] [] = some (cs, rest) →
      (t.port p.val).rxElastic = rest ∧ (t.port p.val).freedRsp = ((s.port p.val).freedRsp + cs.length) % 65536))

/-- An enabled port in DOWN trains once a signal is seen. TRAIN that ends well within 200 ms leads to LOCK, LOCK within 10 ms to QUALIFY; otherwise
the attempt has failed and the port is DOWN, or FAILED after the third failure within 10 s. A qualification window is recorded for all five lanes;
in QUALIFY it brings the port UP when all five pass and fails the attempt when two or more fail. Loss of lock ends an attempt, and in UP takes the
port to DOWN beyond repair, or asks for the free spare. In the other states each only moves the time on. (R397, R398, R399, R400, R401, R430) -/
def Obligations.PortStateCommandsAct : Prop :=
  (∀ (p : PortId) (sig : Bool) (tc : Nat) (s : State), ∃ t, exec (.portEnable p sig tc) s = .next t ∧ SameBut [.fld .MOD_MB_SUMMARY, .fld .RUN_STAT,
      .fld .TC_NOW, .hostOut, .hports, .ports, .slots] s t ∧
    t.tc = s.clockAt tc ∧
    (t.port p.val).enabled = true ∧
    (s.portState p.val = 0 → sig = true → t.portState p.val = 1 ∧ (t.port p.val).entered = t.tc) ∧
    (s.portState p.val ≠ 0 ∨ sig = false → t.portState p.val = s.portState p.val)) ∧
  (∀ (p : PortId) (tc : Nat) (s : State), ∃ t, exec (.signalDetected p tc) s = .next t ∧ SameBut [.fld .MOD_MB_SUMMARY, .fld .RUN_STAT,
      .fld .TC_NOW, .hostOut, .hports, .ports, .slots] s t ∧
    t.tc = s.clockAt tc ∧
    (s.portState p.val = 0 → (s.port p.val).enabled = true → t.portState p.val = 1 ∧ (t.port p.val).entered = t.tc) ∧
    (s.portState p.val ≠ 0 ∨ (s.port p.val).enabled = false → SameBut [.fld .TC_NOW] s t)) ∧
  (∀ (p : PortId) (ok : Bool) (tc : Nat) (s : State), ∃ t, exec (.trainComplete p ok tc) s = .next t ∧ SameBut [.align, .ctl, .fld .MOD_MB_SUMMARY,
      .fld .MOD_POUR_ID, .fld .RUN_STAT, .fld .TC_ALIGN_STAT, .fld .TC_NOW, .hostOut, .hports, .msgs, .ports, .pour, .slots] s t ∧
    t.tc = s.clockAt tc ∧
    (s.portState p.val = 1 → ok = true → s.clockAt tc ≤ (s.port p.val).entered + 200000000 → t.portState p.val = 2 ∧ (t.port p.val).entered = t.tc) ∧
    (s.portState p.val = 1 → (ok = false ∨ (s.port p.val).entered + 200000000 < s.clockAt tc) → s.pour.phase ≠ 1 → t.portState p.val = (if 3 ≤
        ((s.port p.val).fails.filter (fun x => decide (s.clockAt tc < x + 10000000000)) ++ [s.clockAt tc]).length then 5 else 0)) ∧
    (s.portState p.val ≠ 1 → SameBut [.fld .TC_NOW] s t)) ∧
  (∀ (p : PortId) (ok : Bool) (tc : Nat) (s : State), ∃ t, exec (.lockComplete p ok tc) s = .next t ∧ SameBut [.align, .ctl, .fld .MOD_MB_SUMMARY,
      .fld .MOD_POUR_ID, .fld .RUN_STAT, .fld .TC_ALIGN_STAT, .fld .TC_NOW, .hostOut, .hports, .msgs, .ports, .pour, .slots] s t ∧
    t.tc = s.clockAt tc ∧
    (s.portState p.val = 2 → ok = true → s.clockAt tc ≤ (s.port p.val).entered + 10000000 → t.portState p.val = 3 ∧ (t.port p.val).entered = t.tc) ∧
    (s.portState p.val = 2 → (ok = false ∨ (s.port p.val).entered + 10000000 < s.clockAt tc) → s.pour.phase ≠ 1 → t.portState p.val = (if 3 ≤
        ((s.port p.val).fails.filter (fun x => decide (s.clockAt tc < x + 10000000000)) ++ [s.clockAt tc]).length then 5 else 0)) ∧
    (s.portState p.val ≠ 2 → SameBut [.fld .TC_NOW] s t)) ∧
  (∀ (p : PortId) (ws : List LaneWindow) (tc : Nat) (s : State), ∃ t, exec (.qualifyWindowEnd p ws tc) s = .next t ∧ SameBut [.align, .ctl, .ev,
      .faults, .flasks, .fld .MOD_FAULT_STAT, .fld .MOD_MB_SUMMARY, .fld .MOD_POUR_ID, .fld .RUN_ERR, .fld .RUN_LANE_l, .fld .RUN_STAT,
      .fld .TC_ALIGN_STAT, .fld .TC_NOW, .hostOut, .hports, .msgs, .ports, .pour, .slag, .slots] s t ∧
    t.tc = s.clockAt tc ∧
    (s.portState p.val = 3 ∨ s.portState p.val = 4 → ∀ l, l < 5 →
      t.fget F.RUN_LANE_l_PASS (p.val * 5 + l) = b2n (winPasses (laneWin ws l)) ∧
      t.fget F.RUN_LANE_l_WINDOWS (p.val * 5 + l) = (s.fget F.RUN_LANE_l_WINDOWS (p.val * 5 + l) + 1) % 2 ^ F.RUN_LANE_l_WINDOWS.len) ∧
    (s.portState p.val = 3 → (∀ l, l < 5 → winPasses (laneWin ws l) = true) → t.portState p.val = 4 ∧ (t.port p.val).fails = []) ∧
    (s.portState p.val = 3 → 2 ≤ ((List.range 5).filter (fun l => !(winPasses (laneWin ws l)))).length → s.pour.phase ≠ 1 → t.portState p.val = (if
        3 ≤ ((s.port p.val).fails.filter (fun x => decide (s.clockAt tc < x + 10000000000)) ++ [s.clockAt tc]).length then 5 else 0)) ∧
    (s.portState p.val ≠ 3 → s.portState p.val ≠ 4 → SameBut [.fld .TC_NOW] s t)) ∧
  (∀ (p : PortId) (l : Fin 5) (b : Bool) (tc : Nat) (s : State), ∃ t, exec (.laneLockLoss p l b tc) s = .next t ∧ SameBut [.align, .ctl, .ev,
      .faults, .flasks, .fld .MOD_FAULT_STAT, .fld .MOD_MB_SUMMARY, .fld .MOD_POUR_ID, .fld .RUN_ERR, .fld .RUN_STAT, .fld .TC_ALIGN_STAT,
      .fld .TC_NOW, .hostOut, .hports, .msgs, .ports, .pour, .slots] s t ∧
    t.tc = s.clockAt tc ∧
    (s.portState p.val = 2 ∨ s.portState p.val = 3 → s.pour.phase ≠ 1 → t.portState p.val = (if 3 ≤ ((s.port p.val).fails.filter (fun x => decide
        (s.clockAt tc < x + 10000000000)) ++ [s.clockAt tc]).length then 5 else 0)) ∧
    (∀ x, s.portState p.val = 4 → s.logLane p.val l.val = some x → b = true → t.portState p.val = 0 ∧ t.fget F.RUN_ERR_LINK_DOWN p.val = 1) ∧
    (∀ x, s.portState p.val = 4 → s.logLane p.val l.val = some x → b = false → s.spareFree p.val = true →
      (t.port p.val).swap = some { lane := x, target := ((s.port p.val).txSeq + 64) % 2 ^ 32, mine := true, agreed := false, reason := 5 }) ∧
    (s.portState p.val = 4 → s.logLane p.val l.val = none → SameBut [.fld .TC_NOW] s t) ∧
    (s.portState p.val ≠ 2 → s.portState p.val ≠ 3 → s.portState p.val ≠ 4 → SameBut [.fld .TC_NOW] s t))

/-- On an UP port a peer's LANE_SWAP is agreed to while no swap is under way and the spare is free; an acknowledgement of the own request makes it
agreed; an agreed swap puts the spare in the lane's place, and one given up takes the port to DOWN. A KEY_OFFER that passes the checks is accepted
and one that fails refused, which takes the port to DOWN; KEY_ACCEPT ends an exchange and sets ENCRYPTED; an exchange of 1 s ends in DOWN, and one
of 10 ms is begun again; the rekey timer of an encrypted idle port offers new keys. (R401, R423, R424, R658, R659, R660) -/
def Obligations.LaneSwapAndKeyCommandsAct : Prop :=
  (∀ (p : PortId) (l : Fin 4) (target sender : Nat) (s : State), ∃ t, exec (.laneSwap p l target sender) s = .next t ∧ SameBut [.ev, .faults,
      .flasks, .fld .MOD_FAULT_STAT, .fld .MOD_MB_SUMMARY, .fld .RUN_ERR, .fld .RUN_STAT, .hostOut, .hports, .msgs, .ports, .slots] s t ∧
    (s.portState p.val ≠ 4 → t = s) ∧
    (s.portState p.val = 4 → (s.port p.val).swap = none → s.fget F.RUN_STAT_SPARE_USED p.val = 0 → SameBut [.ports, .msgs] s t ∧
      (t.port p.val).swap = some { lane := l.val, target := target, mine := false, agreed := true, reason := 5 } ∧ Sent s t p.val .laneSwapAck
          [p.val, l.val, target]) ∧
    (s.portState p.val = 4 → (s.port p.val).swap = none → s.fget F.RUN_STAT_SPARE_USED p.val = 1 → t = s)) ∧
  (∀ (p : PortId) (l : Fin 4) (target : Nat) (s : State), ∃ t, exec (.laneSwapAck p l target) s = .next t ∧ SameBut [.ports] s t ∧
    ((s.port p.val).swap = none → t = s) ∧
    (∀ w, (s.port p.val).swap = some w →
      (w.mine = true → w.lane = l.val → w.target = target → (t.port p.val).swap = some { w with agreed := true }) ∧
      (w.mine = false ∨ w.lane ≠ l.val ∨ w.target ≠ target → t = s))) ∧
  (∀ (p : PortId) (s : State), ∃ t, exec (.laneSwapApply p) s = .next t ∧ SameBut [.ev, .faults, .fld .MOD_FAULT_STAT, .fld .RUN_ERR,
      .fld .RUN_LANE_l, .fld .RUN_STAT, .msgs, .ports, .slag] s t ∧
    ((s.port p.val).swap = none → t = s) ∧
    (∀ w, (s.port p.val).swap = some w →
      (w.agreed = true → s.portState p.val = 4 → (t.port p.val).swap = none ∧ t.fget F.RUN_STAT_SPARE_USED p.val = 1 ∧
        t.fget F.RUN_STAT_SPARE_FOR p.val = w.lane % 2 ^ F.RUN_STAT_SPARE_FOR.len ∧ t.fget F.RUN_ERR_LANE_SWAPPED p.val = 1) ∧
      (w.agreed = false ∨ s.portState p.val ≠ 4 → t = s))) ∧
  (∀ (p : PortId) (s : State), ∃ t, exec (.laneSwapAbandon p) s = .next t ∧ SameBut [.ev, .faults, .flasks, .fld .MOD_FAULT_STAT,
      .fld .MOD_MB_SUMMARY, .fld .RUN_ERR, .fld .RUN_STAT, .hostOut, .hports, .msgs, .ports, .slots] s t ∧
    ((s.port p.val).swap = none → t = s) ∧
    (∀ w, (s.port p.val).swap = some w →
      (w.mine = true → w.agreed = false → s.portState p.val = 4 → t.portState p.val = 0 ∧ t.fget F.RUN_ERR_LINK_DOWN p.val = 1) ∧
      (w.mine = false ∨ w.agreed = true ∨ s.portState p.val ≠ 4 → t = s))) ∧
  (∀ (p : PortId) (o : KeyOffer) (tc : Nat) (s : State), ∃ t, exec (.keyOffer p o tc) s = .next t ∧ SameBut [.ev, .faults, .flasks,
      .fld .MOD_FAULT_STAT, .fld .MOD_MB_SUMMARY, .fld .RUN_ERR, .fld .RUN_STAT, .fld .SAF_ERR, .fld .TC_NOW, .hostOut, .hports, .msgs, .ports,
      .slots] s t ∧
    t.tc = s.clockAt tc ∧
    (s.portState p.val ≠ 4 → SameBut [.fld .TC_NOW] s t) ∧
    (s.portState p.val = 4 → o.rekey = false → o.chainOk = false ∨ o.certOk = false ∨ (o.lifecycle ≠ 2 ∧ o.lifecycle ≠ s.fget F.SAF_STAT_LIFECYCLE
        0) →
      t.fget F.SAF_ERR_LINK_REFUSED 0 = 1 ∧ t.portState p.val = 0) ∧
    (s.portState p.val = 4 → o.rekey = false → o.chainOk = true → o.certOk = true → (s.fget F.RUN_STAT_PEER_VALID p.val = 0 ∨ o.serial = (s.port
        p.val).keys.peerSerial) →
      (o.lifecycle = 2 ∨ o.lifecycle = s.fget F.SAF_STAT_LIFECYCLE 0) → (t.port p.val).keys.phase = 2 ∧ (t.port p.val).keys.peerSerial = o.serial ∧
          ∃ q, Sent s t p.val .keyAccept [p.val, q]) ∧
    (s.portState p.val = 4 → o.rekey = true → s.fget F.RUN_STAT_ENCRYPTED p.val = 1 → o.epoch = (s.fget F.RUN_STAT_KEY_EPOCH p.val + 1) % 256 →
        (s.port p.val).keys.phase = 0 →
      (t.port p.val).keys.rxFrom = some o.startSeq ∧ ∃ q, Sent s t p.val .keyAccept [p.val, q])) ∧
  (∀ (p : PortId) (q : Nat) (ok : Bool) (s : State), ∃ t, exec (.keyAccept p q ok) s = .next t ∧ SameBut [.ev, .faults, .flasks,
      .fld .MOD_FAULT_STAT, .fld .MOD_MB_SUMMARY, .fld .RUN_ERR, .fld .RUN_STAT, .fld .SAF_ERR, .hostOut, .hports, .msgs, .ports, .slots] s t ∧
    (s.portState p.val ≠ 4 ∨ ((s.port p.val).keys.phase ≠ 2 ∧ ((s.port p.val).keys.phase ≠ 1 ∨ (s.port p.val).keys.rekey = false)) → t = s) ∧
    (s.portState p.val = 4 → (s.port p.val).keys.phase = 2 → ok = true → (t.port p.val).keys =
        { (s.port p.val).keys with phase := 0, rekey := false, rxFrom := some q } ∧ t.fget F.RUN_STAT_ENCRYPTED p.val = 1) ∧
    (s.portState p.val = 4 → (s.port p.val).keys.phase = 2 → (s.port p.val).keys.rekey = false → ok = false → t.fget F.SAF_ERR_LINK_REFUSED 0 = 1 ∧
        t.portState p.val = 0)) ∧
  (∀ (p : PortId) (tc : Nat) (s : State), ∃ t, exec (.keyExchangeTimeout p tc) s = .next t ∧ SameBut [.ev, .faults, .flasks, .fld .MOD_FAULT_STAT,
      .fld .MOD_MB_SUMMARY, .fld .RUN_ERR, .fld .RUN_STAT, .fld .TC_NOW, .hostOut, .hports, .msgs, .ports, .slots] s t ∧
    t.tc = s.clockAt tc ∧
    (s.portState p.val ≠ 4 ∨ (s.port p.val).keys.phase = 0 ∨ s.clockAt tc < (s.port p.val).keys.since + 10000000 → SameBut [.fld .TC_NOW] s t) ∧
    (s.portState p.val = 4 → (s.port p.val).keys.phase ≠ 0 → (s.port p.val).keys.since + 1000000000 ≤ s.clockAt tc → t.portState p.val = 0) ∧
    (s.portState p.val = 4 → (s.port p.val).keys.phase ≠ 0 → (s.port p.val).keys.rekey = false → (s.port p.val).keys.since + 10000000 ≤ s.clockAt tc
        → s.clockAt tc < (s.port p.val).keys.since + 1000000000 →
      (t.port p.val).keys.phase = 1 ∧ (t.port p.val).keys.txFrom = none ∧ Sent s t p.val .keyOffer [p.val, 0, 0, 0])) ∧
  (∀ (p : PortId) (tc : Nat) (s : State), ∃ t, exec (.rekeyTimer p tc) s = .next t ∧ SameBut [.fld .TC_NOW, .msgs, .ports] s t ∧
    t.tc = s.clockAt tc ∧
    (s.fget F.RUN_STAT_ENCRYPTED p.val = 0 ∨ (s.port p.val).keys.phase ≠ 0 → SameBut [.fld .TC_NOW] s t) ∧
    (s.fget F.RUN_STAT_ENCRYPTED p.val = 1 → (s.port p.val).keys.phase = 0 → (t.port p.val).keys.phase = 1 ∧ (t.port p.val).keys.rekey = true ∧
        (t.port p.val).keys.since = t.tc ∧ ∃ q, Sent s t p.val .keyOffer [p.val, 1, (s.fget F.RUN_STAT_KEY_EPOCH p.val + 1) % 256, q]))

/-- HELLO on an UP port names the peer of that port. FORM of the flooded end completes the formation; a better FORM of tree 0 names the upstream, the
hops and the alignment state. REPORT is kept per port and phase, and a module that now has all reports sends its own to its parent once. ABORT
with this pour's tag, and 10 s without completion, clear the pour and its tag. A slot digest that disagrees with the loaded Mould is remembered. A
pour start that is not complete after 1 s fails. Without the occasion nothing changes but the time. (R418, R419, R420, R422, R407) -/
def Obligations.PourFormationCommandsAct : Prop :=
  (∀ (port : PortId) (msg : HelloMsg) (s : State), ∃ t, exec (.hello port msg) s = .next t ∧ SameBut [.align, .ctl, .fld .MOD_MB_SUMMARY,
      .fld .MOD_POUR_ID, .fld .RUN_STAT, .fld .TC_ALIGN_STAT, .hostOut, .hports, .msgs, .ports, .pour, .slots] s t ∧
    (s.portState port.val ≠ 4 → t = s) ∧
    (s.portState port.val = 4 → t.fget F.RUN_STAT_PEER_MODULE port.val = msg.module % 2 ^ F.RUN_STAT_PEER_MODULE.len ∧
      t.fget F.RUN_STAT_PEER_PORT port.val = msg.sender % 2 ^ F.RUN_STAT_PEER_PORT.len ∧ t.fget F.RUN_STAT_PEER_VALID port.val = 1 ∧ (t.port
          port.val).keys.peerSerial = msg.serial) ∧
    (s.portState port.val = 4 → s.pour.phase ≠ 1 ∨ s.portUsed port.val = false ∨ msg.tag = 0 → t.pour = s.pour)) ∧
  (∀ (port : PortId) (tree : Fin 4) (tag depth : Nat) (children : List PortId) (routes : List (Nat × Nat)) (s : State), ∃ t, exec (.form port tree
      tag depth children routes) s = .next t ∧ SameBut [.align, .ctl, .fld .MOD_MB_SUMMARY, .fld .MOD_POUR_ID, .fld .RUN_STAT, .fld .TC_ALIGN_STAT,
      .hostOut, .hports, .msgs, .pour, .slots] s t ∧
    ((s.pour.phase == 1 && tag == s.pourTag && s.portUsed port.val && !s.pourMaster) = false → t = s) ∧
    ((s.pour.phase == 1 && tag == s.pourTag && s.portUsed port.val && !s.pourMaster) = true → tree.val = 3 → t.pour.phase = 2 ∧ t.pour.routes =
        routes) ∧
    ((s.pour.phase == 1 && tag == s.pourTag && s.portUsed port.val && !s.pourMaster) = true → tree.val = 0 → s.pour.better 0 port.val (depth + 1) =
        true → depth < 16 →
      t.fget F.TC_ALIGN_STAT_UPSTREAM 0 = port.val % 2 ^ F.TC_ALIGN_STAT_UPSTREAM.len ∧ t.fget F.TC_ALIGN_STAT_HOPS 0 = (depth + 1) % 2 ^
          F.TC_ALIGN_STAT_HOPS.len ∧ t.fget F.TC_ALIGN_STAT_STATE 0 = 1)) ∧
  (∀ (port : PortId) (phase : Fin 3) (count digest bindSum status failing : Nat) (routes : List (Nat × Nat)) (s : State), ∃ t, exec (.report port
      phase count digest bindSum status failing routes) s = .next t ∧ SameBut [.align, .ctl, .ev, .flasks, .fld .MOD_MB_SUMMARY, .fld .MOD_POUR_ID,
      .fld .RUN_STAT, .fld .TC_ALIGN_STAT, .hostOut, .hports, .msgs, .pour, .slots] s t ∧
    (s.pourTag = 0 → t = s) ∧
    (s.pourTag ≠ 0 → phase.val = 0 → t.pour = { s.pour with reports := (s.pour.reports.filter (fun x => !(x.1 == port.val && x.2.phase ==
        phase.val))) ++ [(port.val, { phase := phase.val, count, digest, bindSum, status, failing })] }) ∧
    (∀ (x : State) (r : Report), s.pourTag ≠ 0 → phase.val = 1 → s.pour.phase = 1 → s.pour.formedSent = false → s.pourMaster = false → x = { s with
        pour := { s.pour with reports := (s.pour.reports.filter (fun x => !(x.1 == port.val && x.2.phase == phase.val))) ++ [(port.val,
        { phase := phase.val, count, digest, bindSum, status, failing })] } } → x.treeReport 1 = some r →
      t.pour.formedSent = true ∧ Sent s t toParent .report r.fields) ∧
    (∀ (x : State) (r : Report), s.pourTag ≠ 0 → phase.val = 2 → s.pour.phase = 2 → s.pour.readySent = false → s.pourMaster = false → x = { s with
        pour := { s.pour with reports := (s.pour.reports.filter (fun x => !(x.1 == port.val && x.2.phase == phase.val))) ++ [(port.val,
        { phase := phase.val, count, digest, bindSum, status, failing })] } } → x.treeReport 2 = some r →
      t.pour.readySent = true ∧ Sent s t toParent .report r.fields)) ∧
  (∀ (tag status failing : Nat) (s : State), ∃ t, exec (.abort tag status failing) s = .next t ∧ SameBut [.align, .ctl, .fld .MOD_MB_SUMMARY,
      .fld .MOD_POUR_ID, .fld .RUN_STAT, .fld .TC_ALIGN_STAT, .hostOut, .hports, .msgs, .pour, .slots] s t ∧
    (s.pour.phase ≠ 1 ∨ tag ≠ s.pourTag → t = s) ∧
    (s.pour.phase = 1 → tag = s.pourTag → t.pour = PourSt.none ∧ t.pourTag = 0)) ∧
  (∀ (port : PortId) (temper : Fin 4) (mouldId tx rx : Nat) (s : State), ∃ t, exec (.slotDigest port temper mouldId tx rx) s = .next t ∧ SameBut
      [.pour] s t ∧
    (s.portFlask port.val = none → t = s) ∧
    (∀ f x, s.portFlask port.val = some f → x = ((s.flask f).active.sect 5 port.val temper.val) →
      (mouldId = (s.flask f).active.id % 2 ^ 32 → tx = slotDigest 1 x → rx = slotDigest 0 x → t = s) ∧
      (mouldId ≠ (s.flask f).active.id % 2 ^ 32 ∨ tx ≠ slotDigest 1 x ∨ rx ≠ slotDigest 0 x → t.pour.digestBad = true))) ∧
  (∀ (tc : Nat) (s : State), ∃ t, exec (.pourFormTimeout tc) s = .next t ∧ SameBut [.align, .ctl, .fld .MOD_MB_SUMMARY, .fld .MOD_POUR_ID,
      .fld .RUN_STAT, .fld .TC_ALIGN_STAT, .fld .TC_NOW, .hostOut, .hports, .pour, .slots] s t ∧
    t.tc = s.clockAt tc ∧
    (s.pour.phase ≠ 1 ∨ s.clockAt tc < s.pour.since + 10000000000 → SameBut [.fld .TC_NOW] s t) ∧
    (s.pour.phase = 1 → s.pour.since + 10000000000 ≤ s.clockAt tc → t.pour = PourSt.none ∧ t.pourTag = 0)) ∧
  (∀ (tc : Nat) (s : State), ∃ t, exec (.pourStartTimeout tc) s = .next t ∧ SameBut [.fld .MOD_MB_SUMMARY, .fld .TC_NOW, .hostOut, .hports, .pour,
      .slots] s t ∧
    t.tc = s.clockAt tc ∧
    (s.pour.starting = none → SameBut [.fld .TC_NOW] s t) ∧
    (∀ k, s.pour.starting = some k →
      (s.clockAt tc < (s.slot k).tcAccepted + 1000000000 → SameBut [.fld .TC_NOW] s t) ∧
      ((s.slot k).tcAccepted + 1000000000 ≤ s.clockAt tc → t.pour.starting = none ∧ SlotFailed t k 0x0223)))

/-- START with this pour's tag is forwarded on the trees and gives every READY flask of the pour its start time. An arming record is taken when none
is held, ignored when equal to the one held, and a conflict when it reuses the sequence number. GO of the record held is forwarded, and commits it
when this module has acknowledged it; a GO that differs in target or tag is a conflict. WITHDRAW drops it. DONE is noted. A copy with a bad CRC,
and one of another record, changes nothing. (R81, R82, R83, R238, R239, R240, R684) -/
def Obligations.FlaskControlRecordsAct : Prop :=
  (∀ (rec : CtlRec) (s : State), ∃ t, exec (.start rec) s = .next t ∧ SameBut [.ctl, .flasks, .msgs, .pour] s t ∧
    ((rec.crcOk && rec.tag == s.pourTag && s.pourTag != 0 && s.pourFlasks.any (fun f => s.startable f && (s.flask f).startAt != some rec.target)) =
        false → t = s) ∧
    ((rec.crcOk && rec.tag == s.pourTag && s.pourTag != 0 && s.pourFlasks.any (fun f => s.startable f && (s.flask f).startAt != some rec.target)) =
        true → t.ctl = CtlSt.none ∧ Sent s t toTrees .start [rec.target, rec.tag] ∧
      ∀ f, f ∈ s.pourFlasks → s.startable f = true → (t.flask f).startAt = some rec.target)) ∧
  (∀ (rec : CtlRec) (s : State), ∃ t, exec (.armHalt rec) s = .next t ∧ SameBut [.ctl, .ev, .flasks, .fld .CLK_CHG_STAT, .msgs] s t ∧
    (rec.crcOk = false ∨ s.pourTag = 0 → t = s) ∧
    (rec.crcOk = true → s.pourTag ≠ 0 → s.ctl.armed = none → t.ctl.armed = some { rec with kind := 0x11 }) ∧
    (∀ a, rec.crcOk = true → s.pourTag ≠ 0 → s.ctl.armed = some a →
      (sameRec a { rec with kind := 0x11 } = true → t = s) ∧
      (a.seq = rec.seq → sameRec a { rec with kind := 0x11 } = false → t.ctl = CtlSt.none ∧ t.fget F.CLK_CHG_STAT_CONFLICT 0 = 1) ∧
      (a.seq ≠ rec.seq → t.ctl.armed = some { rec with kind := 0x11 }))) ∧
  (∀ (rec : CtlRec) (s : State), ∃ t, exec (.armSwitch rec) s = .next t ∧ SameBut [.ctl, .ev, .flasks, .fld .CLK_CHG_STAT, .msgs] s t ∧
    (rec.crcOk = false ∨ s.pourTag = 0 → t = s) ∧
    (rec.crcOk = true → s.pourTag ≠ 0 → s.ctl.armed = none → t.ctl.armed = some { rec with kind := 0x12 }) ∧
    (∀ a, rec.crcOk = true → s.pourTag ≠ 0 → s.ctl.armed = some a →
      (sameRec a { rec with kind := 0x12 } = true → t = s) ∧
      (a.seq = rec.seq → sameRec a { rec with kind := 0x12 } = false → t.ctl = CtlSt.none ∧ t.fget F.CLK_CHG_STAT_CONFLICT 0 = 1) ∧
      (a.seq ≠ rec.seq → t.ctl.armed = some { rec with kind := 0x12 }))) ∧
  (∀ (rec : CtlRec) (s : State), ∃ t, exec (.armHold rec) s = .next t ∧ SameBut [.ctl, .ev, .flasks, .fld .CLK_CHG_STAT, .msgs] s t ∧
    (rec.crcOk = false ∨ s.pourTag = 0 → t = s) ∧
    (rec.crcOk = true → s.pourTag ≠ 0 → s.ctl.armed = none → t.ctl.armed = some { rec with kind := 0x17 }) ∧
    (∀ a, rec.crcOk = true → s.pourTag ≠ 0 → s.ctl.armed = some a →
      (sameRec a { rec with kind := 0x17 } = true → t = s) ∧
      (a.seq = rec.seq → sameRec a { rec with kind := 0x17 } = false → t.ctl = CtlSt.none ∧ t.fget F.CLK_CHG_STAT_CONFLICT 0 = 1) ∧
      (a.seq ≠ rec.seq → t.ctl.armed = some { rec with kind := 0x17 }))) ∧
  (∀ (rec : CtlRec) (s : State), ∃ t, exec (.armRelease rec) s = .next t ∧ SameBut [.ctl, .ev, .flasks, .fld .CLK_CHG_STAT, .msgs] s t ∧
    (rec.crcOk = false ∨ s.pourTag = 0 → t = s) ∧
    (rec.crcOk = true → s.pourTag ≠ 0 → s.ctl.armed = none → t.ctl.armed = some { rec with kind := 0x18 }) ∧
    (∀ a, rec.crcOk = true → s.pourTag ≠ 0 → s.ctl.armed = some a →
      (sameRec a { rec with kind := 0x18 } = true → t = s) ∧
      (a.seq = rec.seq → sameRec a { rec with kind := 0x18 } = false → t.ctl = CtlSt.none ∧ t.fget F.CLK_CHG_STAT_CONFLICT 0 = 1) ∧
      (a.seq ≠ rec.seq → t.ctl.armed = some { rec with kind := 0x18 }))) ∧
  (∀ (rec : CtlRec) (s : State), ∃ t, exec (.flaskGo rec) s = .next t ∧ SameBut [.ctl, .dbg, .ev, .flasks, .fld .CLK_CHG_STAT, .fld .DBG_HOLD,
      .msgs] s t ∧
    (s.ctl.armed = none ∨ (∃ a, s.ctl.armed = some a ∧ (rec.crcOk = false ∨ rec.seq ≠ a.seq ∨ s.ctl.go = true)) → t = s) ∧
    (∀ a, s.ctl.armed = some a → rec.crcOk = true → rec.seq = a.seq → s.ctl.go = false →
      (rec.target ≠ a.target ∨ rec.tag ≠ a.tag → t.ctl = CtlSt.none ∧ t.fget F.CLK_CHG_STAT_CONFLICT 0 = 1) ∧
      (rec.target = a.target → rec.tag = a.tag → Sent s t toTrees .flaskCtl (ctlFields a 0x13) ∧
        (s.ctl.acked = false → t.ctl = s.ctl) ∧ (s.ctl.acked = true → a.kind ≠ 0x12 → t.ctl = CtlSt.none) ∧
        (s.ctl.acked = true → a.kind = 0x12 → t.ctl = { s.ctl with go := true })))) ∧
  (∀ (rec : CtlRec) (s : State), ∃ t, exec (.flaskWithdraw rec) s = .next t ∧ SameBut [.ctl, .msgs] s t ∧
    (s.ctl.armed = none ∨ (∃ a, s.ctl.armed = some a ∧ (rec.crcOk = false ∨ rec.seq ≠ a.seq ∨ s.ctl.go = true)) → t = s) ∧
    (∀ a, s.ctl.armed = some a → rec.crcOk = true → rec.seq = a.seq → s.ctl.go = false →
      t.ctl = CtlSt.none ∧ Sent s t toTrees .flaskCtl (ctlFields a 0x14))) ∧
  (∀ (port : PortId) (rec : CtlRec) (s : State), ∃ t, exec (.done port rec) s = .next t ∧ SameBut [.ctl, .flasks, .msgs] s t ∧
    (s.ctl.armed = none ∨ (∃ a, s.ctl.armed = some a ∧ (rec.crcOk = false ∨ a.seq ≠ rec.seq)) → t = s) ∧
    (∀ a, s.ctl.armed = some a → rec.crcOk = true → a.seq = rec.seq → s.ctl.doneSent = true →
      t.ctl = { s.ctl with dones := NSet.add s.ctl.dones port.val }))

/-- POUR_FORM fails on a plan out of range or in a pour, and else forms one with the plan's numbers; POUR_LEAVE fails while a pour flask runs and else
clears the pour; POUR_START is the master's alone and ends when the reports agree. FLUSH asks the modules written to, waits for them and the
schedule, ends with the mask and the fault count, and fails after 1 ms without acknowledgement. PORT_CTL disables, enables or restarts ports. A
beacon is flooded on once, and taken when its tag is this pour's. (R395, R415, R417, R418, R420, R422, R606) -/
def Obligations.PourMailboxAndBeaconCommandsAct : Prop :=
  (∀ (k : Fin 17) (s : State), ∃ t, exec (.mbPourForm k) s = .next t ∧ SameBut [.fld .MOD_MB_SUMMARY, .fld .MOD_POUR_ID, .fld .RUN_STAT,
      .fld .TC_ALIGN_STAT, .hostOut, .hports, .msgs, .ports, .pour, .slots] s t ∧
    (s.mbRuns k.val 0x0201 = true → (s.slot k.val).phase ≠ 0 → t = s) ∧
    (s.mbRuns k.val 0x0201 = true → (s.slot k.val).phase = 0 → planOk (s.slot k.val).args = false → SlotFailed t k.val 0x0150 ∧ t.pour = s.pour) ∧
    (s.mbRuns k.val 0x0201 = true → (s.slot k.val).phase = 0 → planOk (s.slot k.val).args = true → s.pourTag ≠ 0 → SlotFailed t k.val 0x0220 ∧
        t.pour = s.pour) ∧
    (s.mbRuns k.val 0x0201 = true → (s.slot k.val).phase = 0 → planOk (s.slot k.val).args = true → s.pourTag = 0 →
      t.module = leAt (s.slot k.val).args 8 2 % 2 ^ F.MOD_POUR_ID_MODULE.len ∧ t.pourTag = leAt (s.slot k.val).args 0 4 % 2 ^
          F.MOD_POUR_ID_POUR_TAG.len ∧
      t.pour.phase = 1 ∧ t.pour.size = leAt (s.slot k.val).args 4 4 ∧ t.pour.master = leAt (s.slot k.val).args 10 2 ∧ t.pour.ports = (List.range
          24).map (planPort (s.slot k.val).args)) ∧
    (s.mbRuns k.val 0x0201 = false → t = s)) ∧
  (∀ (k : Fin 17) (s : State), ∃ t, exec (.mbPourLeave k) s = .next t ∧ SameBut [.align, .ctl, .fld .MOD_MB_SUMMARY, .fld .MOD_POUR_ID,
      .fld .RUN_STAT, .fld .TC_ALIGN_STAT, .hostOut, .hports, .pour, .slots] s t ∧
    (s.mbRuns k.val 0x0203 = true → s.pourRuns = true → SlotFailed t k.val 0x0228 ∧ t.pour = s.pour) ∧
    (s.mbRuns k.val 0x0203 = true → s.pourRuns = false → SlotDone t k.val 0 ∧ t.pour = PourSt.none ∧ t.pourTag = 0) ∧
    (s.mbRuns k.val 0x0203 = false → t = s)) ∧
  (∀ (k : Fin 17) (s : State), ∃ t, exec (.mbPourStart k) s = .next t ∧ SameBut [.ev, .flasks, .fld .MOD_MB_SUMMARY, .hostOut, .hports, .msgs,
      .pour, .slots] s t ∧
    (s.mbRuns k.val 0x0202 = true → (s.pourMaster = false ∨ s.pour.phase ≠ 2) → SlotFailed t k.val 0x0227) ∧
    (s.mbRuns k.val 0x0202 = true → s.pourMaster = true → s.pour.phase = 2 → s.treeReport 2 = none → t.pour =
        { s.pour with starting := some k.val }) ∧
    (s.mbRuns k.val 0x0202 = true → ∀ r, s.pourMaster = true → s.pour.phase = 2 → s.treeReport 2 = some r →
      (r.status = 0 → r.count = s.pour.size → r.bindSum = 0 → SlotDone t k.val 0 ∧ ∃ T, s.tc + 20000 ≤ T ∧
          { port := toTrees, kind := .start, fields := [T, s.pourTag] } ∈ t.msgs) ∧
      (r.status ≠ 0 ∨ r.count ≠ s.pour.size ∨ r.bindSum ≠ 0 → SlotFailed t k.val 0x0226 ∧ t.pour.starting = none)) ∧
    (s.mbRuns k.val 0x0202 = false → t = s)) ∧
  (∀ (k : Fin 17) (tc : Nat) (s : State), ∃ t, exec (.mbFlushPosted k tc) s = .next t ∧ SameBut [.flasks, .fld .MOD_MB_SUMMARY, .fld .TC_NOW,
      .hostOut, .hports, .msgs, .ports, .slots] s t ∧
    t.tc = s.clockAt tc ∧
    (s.mbRuns k.val 0x0204 = true → (s.slot k.val).phase = 0 → (t.slot k.val).waitOn = s.flushList (leAt (s.slot k.val).args 0 1) ∧ (t.flask (leAt
        (s.slot k.val).args 0 1)).postedTo = [] ∧ (t.slot k.val).phase = 1 + s.flushSc (leAt (s.slot k.val).args 0 1)) ∧
    (s.mbRuns k.val 0x0204 = true → (s.slot k.val).phase ≠ 0 → (s.slot k.val).waitOn ≠ [] → SameBut [.fld .TC_NOW] s t) ∧
    (s.mbRuns k.val 0x0204 = true → ∀ x, (s.slot k.val).phase ≠ 0 → (s.slot k.val).waitOn = [] → SameBut [.fld .TC_NOW] s x → x.tc = s.clockAt tc →
      (x.flushWaited (leAt (s.slot k.val).args 0 1) ((s.slot k.val).phase - 1) (s.slot k.val).tcAccepted = false → SameBut [.fld .TC_NOW] s t) ∧
      (x.flushWaited (leAt (s.slot k.val).args 0 1) ((s.slot k.val).phase - 1) (s.slot k.val).tcAccepted = true → SlotDone t k.val 0 ∧
        (bitOf (leAt (s.slot k.val).args 1 1) 0 = true → (t.flask (leAt (s.slot k.val).args 0 1)).postedMask = [] ∧ (t.flask (leAt (s.slot
            k.val).args 0 1)).writeFaults = 0))) ∧
    (s.mbRuns k.val 0x0204 = false → SameBut [.fld .TC_NOW] s t)) ∧
  (∀ (k : Fin 17) (tc : Nat) (s : State), ∃ t, exec (.flushAckTimeout k tc) s = .next t ∧ SameBut [.fld .MOD_MB_SUMMARY, .fld .TC_NOW, .hostOut,
      .hports, .slots] s t ∧
    t.tc = s.clockAt tc ∧
    (s.mbRuns k.val 0x0204 = true → (s.slot k.val).waitOn = [] ∨ s.clockAt tc < (s.slot k.val).tcAccepted + 1000000 → SameBut [.fld .TC_NOW] s t) ∧
    (s.mbRuns k.val 0x0204 = true → (s.slot k.val).waitOn ≠ [] → (s.slot k.val).tcAccepted + 1000000 ≤ s.clockAt tc → SlotFailed t k.val 0x0223) ∧
    (s.mbRuns k.val 0x0204 = false → SameBut [.fld .TC_NOW] s t)) ∧
  (∀ (k : Fin 17) (s : State), ∃ t, exec (.mbPortCtl k) s = .next t ∧ SameBut [.ev, .faults, .flasks, .fld .MOD_FAULT_STAT, .fld .MOD_MB_SUMMARY,
      .fld .RUN_ERR, .fld .RUN_STAT, .hostOut, .hports, .msgs, .ports, .slots] s t ∧
    (s.mbRuns k.val 0x0205 = true → (s.slot k.val).phase ≠ 0 → t = s) ∧
    (s.mbRuns k.val 0x0205 = true → (s.slot k.val).phase = 0 → 2 ^ 24 ≤ leAt (s.slot k.val).args 0 4 ∨ 2 < leAt (s.slot k.val).args 4 1 → SlotFailed
        t k.val 0x0103 ∧ t.ports = s.ports) ∧
    (s.mbRuns k.val 0x0205 = true → (s.slot k.val).phase = 0 → leAt (s.slot k.val).args 0 4 = 0 → leAt (s.slot k.val).args 4 1 ≤ 2 → SlotDone t
        k.val 0 ∧ t.ports = s.ports) ∧
    (s.mbRuns k.val 0x0205 = true → ∀ p, (s.slot k.val).phase = 0 → leAt (s.slot k.val).args 0 4 < 2 ^ 24 → leAt (s.slot k.val).args 4 1 ≤ 2 → p <
        24 → bitOf (leAt (s.slot k.val).args 0 4) p = true →
      (t.port p).enabled = decide (leAt (s.slot k.val).args 4 1 ≠ 0) ∧ (leAt (s.slot k.val).args 4 1 ≠ 1 → t.portState p = 0)) ∧
    (s.mbRuns k.val 0x0205 = false → t = s)) ∧
  (∀ (port : PortId) (cause origin q frame tag tc : Nat) (s : State), ∃ t, exec (.haltBeacon port cause origin q frame tag tc) s = .next t ∧ SameBut
      [.dec, .faults, .flasks, .fld .TC_NOW, .msgs, .pour] s t ∧
    t.tc = s.clockAt tc ∧
    (origin = s.module ∨ s.pour.seen.any (fun x => x.1 == origin && x.2.1 == 2 * q && decide (s.clockAt tc < x.2.2 + 1000000)) = true → SameBut
        [.fld .TC_NOW] s t) ∧
    (origin ≠ s.module → s.pour.seen.any (fun x => x.1 == origin && x.2.1 == 2 * q && decide (s.clockAt tc < x.2.2 + 1000000)) = false → Sent s t
        toFlood .haltBeacon [cause, origin, frame, tag, q, port.val] ∧
      (tag = s.pourTag → s.pourTag ≠ 0 → t.faults.haltIn = s.faults.haltIn ++ [(origin, frame, t.tc)]) ∧ (tag = s.pourTag → s.pourTag ≠ 0 → cause =
          2 ∨ cause = 3 → t.dec.revert = s.failedDecision frame) ∧ (tag ≠ s.pourTag ∨ s.pourTag = 0 → t.faults = s.faults ∧ t.flasks = s.flasks))) ∧
  (∀ (port : PortId) (unit origin q frame tag detail tc : Nat) (s : State), ∃ t, exec (.fenceBeacon port unit origin q frame tag detail tc) s =
      .next t ∧ SameBut [.faults, .fld .TC_NOW, .msgs, .pour] s t ∧
    t.tc = s.clockAt tc ∧
    (origin = s.module ∨ s.pour.seen.any (fun x => x.1 == origin && x.2.1 == (2 * q + 1) && decide (s.clockAt tc < x.2.2 + 1000000)) = true →
        SameBut [.fld .TC_NOW] s t) ∧
    (origin ≠ s.module → s.pour.seen.any (fun x => x.1 == origin && x.2.1 == (2 * q + 1) && decide (s.clockAt tc < x.2.2 + 1000000)) = false → Sent
        s t toFlood .fenceBeacon [unit, origin, frame, tag, detail, q, port.val] ∧
      (tag = s.pourTag → s.pourTag ≠ 0 → t.faults.fenceIn = s.faults.fenceIn ++ [(origin, t.tc)]) ∧ (tag ≠ s.pourTag ∨ s.pourTag = 0 → t.faults =
          s.faults)))

/-- MOULD_LOAD fails with 0x0213 for a flask that does not exist, 0x0210 in a state that forbids it, 0x0502 outside its region, with the status of the
first image check that fails, or with 0x0506 when the copy does not verify; else it is done, and the Mould is the flask's active one (first load)
or its staged one (staging). MOULD_SWITCH exchanges the banks of a flask that does not run. MOULD_UNLOAD and FLASK_RESET unload the flask and take
its cores to RESET. A halt point at the target halts a running flask, and one for a switch exchanges its banks. A switch without START in 1 ms is
missing. At a temper switch point a core goes on at the same point of the new program. (R222, R223, R234, R236, R238, R242, R243, R244) -/
def Obligations.MouldCommandsAct : Prop :=
  (∀ (k : Fin 17) (env : LoadEnv) (s : State), ∃ t, exec (.mbMouldLoad k env) s = .next t ∧ SameBut [.cores, .ev, .flasks, .fld .CORE_MOULD,
      .fld .CORE_SC, .fld .CORE_SEQ, .fld .CORE_STAT, .fld .ME_STAT, .fld .MOD_GRID_STAT, .fld .MOD_MB_SUMMARY, .fld .QUEUE_BASE, .fld .QUEUE_CTL,
      .fld .QUEUE_DB, .fld .QUEUE_LEVEL, .fld .QUEUE_STAT, .fld .QUEUE_WM, .fld .SE_STAT, .fld .SPD_ELASTIC, .fld .SPR_STAT, .fld .VU_STAT,
      .hostOut, .hports, .mes, .msgs, .pour, .queues, .ses, .slots, .spd, .spdPoison, .vus] s t ∧
    (s.mbRuns k.val 0x0103 = true → (s.flask (leAt (s.slot k.val).args 0 1)).live = false → SlotFailed t k.val 0x0213 ∧ t.flasks = s.flasks) ∧
    (s.mbRuns k.val 0x0103 = true → ∀ (b : List Byte) (stageOk : Bool), b = s.devRd (leAt (s.slot k.val).args 8 8) (leAt (s.slot k.val).args 16 4) →
      stageOk = (if leAt (s.slot k.val).args 1 1 = 1 then (s.flask (leAt (s.slot k.val).args 0 1)).active.present && [2, 3, 4].elem (s.flaskState
          (leAt (s.slot k.val).args 0 1)) else (s.flaskPhys (leAt (s.slot k.val).args 0 1)).all (fun p => s.coreState p == 0 || s.coreState p == 2))
          →
      ((s.flask (leAt (s.slot k.val).args 0 1)).live = true → stageOk = false → SlotFailed t k.val 0x0210 ∧ t.flasks = s.flasks) ∧
      ((s.flask (leAt (s.slot k.val).args 0 1)).live = true → stageOk = true → s.rangeOk (leAt (s.slot k.val).args 0 1) (leAt (s.slot k.val).args 8
          8) (leAt (s.slot k.val).args 16 4) = false → SlotFailed t k.val 0x0502 ∧ t.flasks = s.flasks) ∧
      ((s.flask (leAt (s.slot k.val).args 0 1)).live = true → stageOk = true → s.rangeOk (leAt (s.slot k.val).args 0 1) (leAt (s.slot k.val).args 8
          8) (leAt (s.slot k.val).args 16 4) = true → bitOf (leAt b 0x12 2) 1 ≠ (s.flask (leAt (s.slot k.val).args 0 1)).redundant → SlotFailed t
          k.val 0x0210 ∧ t.flasks = s.flasks) ∧
      (∀ r, (s.flask (leAt (s.slot k.val).args 0 1)).live = true → stageOk = true → s.rangeOk (leAt (s.slot k.val).args 0 1) (leAt (s.slot
          k.val).args 8 8) (leAt (s.slot k.val).args 16 4) = true → bitOf (leAt b 0x12 2) 1 = (s.flask (leAt (s.slot k.val).args 0 1)).redundant →
          s.mouldCheck (leAt (s.slot k.val).args 0 1) (leAt (s.slot k.val).args 1 1 == 1) env b (leAt (s.slot k.val).args 16 4) = some r →
          SlotFailed t k.val r.status ∧ t.flasks = s.flasks) ∧
      ((s.flask (leAt (s.slot k.val).args 0 1)).live = true → stageOk = true → s.rangeOk (leAt (s.slot k.val).args 0 1) (leAt (s.slot k.val).args 8
          8) (leAt (s.slot k.val).args 16 4) = true → bitOf (leAt b 0x12 2) 1 = (s.flask (leAt (s.slot k.val).args 0 1)).redundant → s.mouldCheck
          (leAt (s.slot k.val).args 0 1) (leAt (s.slot k.val).args 1 1 == 1) env b (leAt (s.slot k.val).args 16 4) = none → env.verifyFail = true →
          SlotFailed t k.val 0x0506) ∧
      ((s.flask (leAt (s.slot k.val).args 0 1)).live = true → stageOk = true → s.rangeOk (leAt (s.slot k.val).args 0 1) (leAt (s.slot k.val).args 8
          8) (leAt (s.slot k.val).args 16 4) = true → bitOf (leAt b 0x12 2) 1 = (s.flask (leAt (s.slot k.val).args 0 1)).redundant → s.mouldCheck
          (leAt (s.slot k.val).args 0 1) (leAt (s.slot k.val).args 1 1 == 1) env b (leAt (s.slot k.val).args 16 4) = none → env.verifyFail = false →
          SlotDone t k.val 0 ∧
        (if leAt (s.slot k.val).args 1 1 = 1 then (t.flask (leAt (s.slot k.val).args 0 1)).staged else (t.flask (leAt (s.slot k.val).args 0
            1)).active) = s.mouldFrom (Img.parse b) ((s.compatRow (leAt (s.slot k.val).args 0 1) (Img.parse b) env.padOk).getD 0))) ∧
    (s.mbRuns k.val 0x0103 = false → t = s)) ∧
  (∀ (k : Fin 17) (tc : Nat) (s : State), ∃ t, exec (.mbMouldSwitch k tc) s = .next t ∧ SameBut [.cores, .ctl, .dec, .ev, .flasks, .fld .CORE_MOULD,
      .fld .CORE_SC, .fld .CORE_SEQ, .fld .CORE_STAT, .fld .MOD_GRID_STAT, .fld .MOD_MB_SUMMARY, .fld .QUEUE_BASE, .fld .QUEUE_CTL, .fld .QUEUE_DB,
      .fld .QUEUE_LEVEL, .fld .QUEUE_STAT, .fld .QUEUE_WM, .fld .SPR_STAT, .fld .TC_NOW, .hostOut, .hports, .msgs, .pour, .queues, .slots] s t ∧
    t.tc = s.clockAt tc ∧
    (s.mbRuns k.val 0x0104 = true → (s.slot k.val).phase ≠ 0 → SameBut [.fld .TC_NOW] s t) ∧
    (s.mbRuns k.val 0x0104 = true → (s.slot k.val).phase = 0 → (s.flask (leAt (s.slot k.val).args 0 1)).live = false ∨ (s.flask (leAt (s.slot
        k.val).args 0 1)).staged.present = false ∨ (s.flask (leAt (s.slot k.val).args 0 1)).active.present = false ∨ (s.flask (leAt (s.slot
        k.val).args 0 1)).halt.isSome = true → SlotFailed t k.val 0x0210 ∧ t.flasks = s.flasks) ∧
    (s.mbRuns k.val 0x0104 = true → (s.slot k.val).phase = 0 → (s.flask (leAt (s.slot k.val).args 0 1)).live = true → (s.flask (leAt (s.slot
        k.val).args 0 1)).staged.present = true → (s.flask (leAt (s.slot k.val).args 0 1)).active.present = true → (s.flask (leAt (s.slot
        k.val).args 0 1)).halt = none →
      (s.flaskState (leAt (s.slot k.val).args 0 1) = 2 → (s.flask (leAt (s.slot k.val).args 0 1)).faultHalt = false → SlotDone t k.val (t.flask
          (leAt (s.slot k.val).args 0 1)).discarded ∧ (t.flask (leAt (s.slot k.val).args 0 1)).active = (s.flask (leAt (s.slot k.val).args 0
          1)).staged ∧ (t.flask (leAt (s.slot k.val).args 0 1)).staged = (s.flask (leAt (s.slot k.val).args 0 1)).active) ∧
      (s.flaskState (leAt (s.slot k.val).args 0 1) = 3 → s.inPour (leAt (s.slot k.val).args 0 1) = false → ∃ at_, (t.flask (leAt (s.slot k.val).args
          0 1)).halt = some { kind := .switch, quiesce := true, target := at_, slot := some k.val, cause := 1 } ∧ (leAt (s.slot k.val).args 8 8 ≠ 0
          → at_ = leAt (s.slot k.val).args 8 8)) ∧
      (s.flaskState (leAt (s.slot k.val).args 0 1) = 0 → SlotFailed t k.val 0x0210)) ∧
    (s.mbRuns k.val 0x0104 = false → SameBut [.fld .TC_NOW] s t)) ∧
  (∀ (flask : FlaskId) (point : Nat) (quiesce frameBoundary : Bool) (tc : Nat) (s : State), ∃ t, exec (.flaskHaltPoint flask point quiesce
      frameBoundary tc) s = .next t ∧ SameBut [.cores, .ctl, .dbg, .flasks, .fld .CORE_MOULD, .fld .CORE_SC, .fld .CORE_SEQ, .fld .CORE_STAT,
      .fld .DBG_HOLD, .fld .MOD_GRID_STAT, .fld .MOD_MB_SUMMARY, .fld .QUEUE_BASE, .fld .QUEUE_CTL, .fld .QUEUE_DB, .fld .QUEUE_LEVEL,
      .fld .QUEUE_STAT, .fld .QUEUE_WM, .fld .SPR_STAT, .fld .TC_NOW, .hostOut, .hports, .msgs, .queues, .slots] s t ∧
    t.tc = s.clockAt tc ∧
    ((s.flask flask.val).halt = none → SameBut [.fld .TC_NOW] s t) ∧
    (∀ h, (s.flask flask.val).halt = some h →
      (s.flaskIn flask.val 3 = false ∨ (if h.quiesce then quiesce else frameBoundary) = false ∨ s.clockAt tc < h.target → SameBut [.fld .TC_NOW] s
          t) ∧
      (s.flaskIn flask.val 3 = true → (if h.quiesce then quiesce else frameBoundary) = true → h.target ≤ s.clockAt tc → h.kind ≠ .switch →
        (t.flask flask.val).halt = none ∧ (t.flask flask.val).haltPoint = (if quiesce then point else 0xFFFF) ∧ (t.flask flask.val).atQuiesce =
            quiesce ∧
        (t.flask flask.val).haltCause = h.cause ∧ (t.flask flask.val).haltTc = t.tc ∧ ∀ p, p ∈ s.mouldPhys flask.val → t.coreState p = 4) ∧
      (s.flaskIn flask.val 3 = true → (if h.quiesce then quiesce else frameBoundary) = true → h.target ≤ s.clockAt tc → h.kind = .switch → (s.flask
          flask.val).staged.present = true →
        (t.flask flask.val).active = (s.flask flask.val).staged ∧ (t.flask flask.val).staged = (s.flask flask.val).active))) ∧
  (∀ (flask : FlaskId) (tc : Nat) (s : State), ∃ t, exec (.startTimeout flask tc) s = .next t ∧ SameBut [.ev, .flasks, .fld .CLK_CHG_STAT,
      .fld .MOD_MB_SUMMARY, .fld .TC_NOW, .hostOut, .hports, .slots] s t ∧
    t.tc = s.clockAt tc ∧
    ((s.flask flask.val).reported = none → SameBut [.fld .TC_NOW] s t) ∧
    (∀ r, (s.flask flask.val).reported = some r →
      ((s.flask flask.val).startAt.isSome = true ∨ s.clockAt tc < r + 1000000 → SameBut [.fld .TC_NOW] s t) ∧
      ((s.flask flask.val).startAt = none → r + 1000000 ≤ s.clockAt tc → t.fget F.CLK_CHG_STAT_MISSING 0 = 1 ∧ (t.flask flask.val).reported =
          none))) ∧
  (∀ (core : CoreId) (point : Fin 65536) (s : State), ∃ t, exec (.temperSwitch core point) s = .next t ∧ SameBut [.cores, .fld .CORE_SEQ,
      .fld .SPR_STAT] s t ∧
    (s.seqReady core.val = false ∨ s.fget F.CLK_PSTEP_TEMPER 0 = s.fget F.CORE_SEQ_TEMPER core.val → t = s) ∧
    (∀ q, s.seqReady core.val = true → s.fget F.CLK_PSTEP_TEMPER 0 ≠ s.fget F.CORE_SEQ_TEMPER core.val →
      (progPts (s.program core.val)).any (fun q => q.n == point.val && q.pc == s.fget F.CORE_SEQ_PC core.val) = true →
      (progPts (s.coreSect core.val 2 (s.fget F.CLK_PSTEP_TEMPER 0))).find? (fun q => q.n == point.val) = some q →
      t.fget F.CORE_SEQ_PC core.val = q.pc % 2 ^ F.CORE_SEQ_PC.len ∧ t.fget F.CORE_SEQ_TEMPER core.val = s.fget F.CLK_PSTEP_TEMPER 0 % 2 ^
          F.CORE_SEQ_TEMPER.len ∧
      t.fget F.CORE_SEQ_SWITCH_POINT core.val = point.val % 2 ^ F.CORE_SEQ_SWITCH_POINT.len)) ∧
  (∀ (k : Fin 17) (s : State), ∃ t, exec (.mbMouldUnload k) s = .next t ∧ SameBut [.cores, .dbg, .flasks, .fld .CORE_MOULD, .fld .CORE_SC,
      .fld .CORE_SEQ, .fld .CORE_STAT, .fld .DBG_HOLD, .fld .LDL_CTX_n, .fld .ME_STAT, .fld .MOD_GRID_STAT, .fld .MOD_MB_SUMMARY, .fld .QUEUE_BASE,
      .fld .QUEUE_CTL, .fld .QUEUE_DB, .fld .QUEUE_LEVEL, .fld .QUEUE_STAT, .fld .QUEUE_WM, .fld .SE_STAT, .fld .SPR_STAT, .fld .VU_STAT, .hostOut,
      .hports, .ldls, .mes, .pour, .queues, .ses, .slots, .vus] s t ∧
    (s.mbRuns k.val 0x0105 = true → (s.slot k.val).phase ≠ 0 → t = s) ∧
    (s.mbRuns k.val 0x0105 = true → (s.slot k.val).phase = 0 → (s.flask (leAt (s.slot k.val).args 0 1)).active.present = false ∨ (s.flaskIn (leAt
        (s.slot k.val).args 0 1) 2 = false ∧ s.flaskIn (leAt (s.slot k.val).args 0 1) 4 = false) → SlotFailed t k.val 0x0210 ∧ t.flasks = s.flasks)
        ∧
    (s.mbRuns k.val 0x0105 = true → (s.slot k.val).phase = 0 → (s.flask (leAt (s.slot k.val).args 0 1)).active.present = true → s.flaskIn (leAt
        (s.slot k.val).args 0 1) 2 = true ∨ s.flaskIn (leAt (s.slot k.val).args 0 1) 4 = true → (t.flask (leAt (s.slot k.val).args 0 1)).active =
        MouldSt.none ∧ (t.flask (leAt (s.slot k.val).args 0 1)).staged = MouldSt.none ∧ ∀ p, p ∈ s.flaskPhys (leAt (s.slot k.val).args 0 1) →
        t.coreState p = 5) ∧
    (s.mbRuns k.val 0x0105 = false → t = s)) ∧
  (∀ (k : Fin 17) (s : State), ∃ t, exec (.mbFlaskReset k) s = .next t ∧ SameBut [.cores, .dbg, .flasks, .fld .CORE_MOULD, .fld .CORE_SC,
      .fld .CORE_SEQ, .fld .CORE_STAT, .fld .DBG_HOLD, .fld .LDL_CTX_n, .fld .ME_STAT, .fld .MOD_GRID_STAT, .fld .MOD_MB_SUMMARY, .fld .QUEUE_BASE,
      .fld .QUEUE_CTL, .fld .QUEUE_DB, .fld .QUEUE_LEVEL, .fld .QUEUE_STAT, .fld .QUEUE_WM, .fld .SE_STAT, .fld .SPR_STAT, .fld .VU_STAT, .hostOut,
      .hports, .ldls, .mes, .pour, .queues, .ses, .slots, .vus] s t ∧
    (s.mbRuns k.val 0x0109 = true → (s.slot k.val).phase ≠ 0 → t = s) ∧
    (s.mbRuns k.val 0x0109 = true → (s.slot k.val).phase = 0 → (s.flask (leAt (s.slot k.val).args 0 1)).live = false → SlotFailed t k.val 0x0213 ∧
        t.flasks = s.flasks) ∧
    (s.mbRuns k.val 0x0109 = true → (s.slot k.val).phase = 0 → (s.flask (leAt (s.slot k.val).args 0 1)).live = true → (t.flask (leAt (s.slot
        k.val).args 0 1)).active = MouldSt.none ∧ (t.flask (leAt (s.slot k.val).args 0 1)).staged = MouldSt.none ∧ ∀ p, p ∈ s.flaskPhys (leAt
        (s.slot k.val).args 0 1) → t.coreState p = 5) ∧
    (s.mbRuns k.val 0x0109 = false → t = s))

/-- FLASK_CREATE fails for a flask that exists, a module out of service, cores that are absent or taken, or no room; else the flask exists with its
cores and region and its next generation, and its cores are in RESET for it. FLASK_DESTROY ends a flask, its generation kept. FLASK_START sets the
start time of a READY flask outside a pour, 20 us after acceptance where none is given; FLASK_HALT arms a halt at a quiesce point or a frame
boundary; FLASK_RESUME restarts a flask halted at a quiesce point. CACHE_FLUSH needs a flask; CACHE_PART_SET needs that no running Mould streams.
(R222, R248, R278, R279, R292, R482) -/
def Obligations.FlaskCommandsAct : Prop :=
  (∀ (k : Fin 17) (s : State), ∃ t, exec (.mbFlaskStart k) s = .next t ∧ SameBut [.flasks, .fld .MOD_MB_SUMMARY, .hostOut, .hports, .slots] s t ∧
    (s.mbRuns k.val 0x0106 = true → (s.slot k.val).phase ≠ 0 → t = s) ∧
    (s.mbRuns k.val 0x0106 = true → (s.slot k.val).phase = 0 → s.flaskIn (leAt (s.slot k.val).args 0 1) 2 = false → SlotFailed t k.val 0x0210 ∧
        t.flasks = s.flasks) ∧
    (s.mbRuns k.val 0x0106 = true → (s.slot k.val).phase = 0 → s.flaskIn (leAt (s.slot k.val).args 0 1) 2 = true → s.inPour (leAt (s.slot
        k.val).args 0 1) = true → SlotFailed t k.val 0x0229 ∧ t.flasks = s.flasks) ∧
    (s.mbRuns k.val 0x0106 = true → (s.slot k.val).phase = 0 → s.flaskIn (leAt (s.slot k.val).args 0 1) 2 = true → s.inPour (leAt (s.slot
        k.val).args 0 1) = false → (t.slot k.val).phase = 1 ∧ (t.flask (leAt (s.slot k.val).args 0 1)).startAt = some (if leAt (s.slot k.val).args 8
        8 = 0 then (s.slot k.val).tcAccepted + 20000 else leAt (s.slot k.val).args 8 8) ∧ (t.flask (leAt (s.slot k.val).args 0 1)).gridStart = true)
        ∧
    (s.mbRuns k.val 0x0106 = false → t = s)) ∧
  (∀ (k : Fin 17) (s : State), ∃ t, exec (.mbFlaskHalt k) s = .next t ∧ SameBut [.ctl, .dec, .flasks, .fld .MOD_MB_SUMMARY, .hostOut, .hports,
      .msgs, .slots] s t ∧
    (s.mbRuns k.val 0x0107 = true → (s.slot k.val).phase ≠ 0 → t = s) ∧
    (s.mbRuns k.val 0x0107 = true → (s.slot k.val).phase = 0 → s.flaskIn (leAt (s.slot k.val).args 0 1) 3 = false ∨ (s.flask (leAt (s.slot
        k.val).args 0 1)).halt.isSome = true → SlotFailed t k.val 0x0210 ∧ t.flasks = s.flasks) ∧
    (s.mbRuns k.val 0x0107 = true → (s.slot k.val).phase = 0 → s.flaskIn (leAt (s.slot k.val).args 0 1) 3 = true → (s.flask (leAt (s.slot
        k.val).args 0 1)).halt = none → s.inPour (leAt (s.slot k.val).args 0 1) = false ∨ leAt (s.slot k.val).args 1 1 ≠ 0 → (t.flask (leAt (s.slot
        k.val).args 0 1)).halt = some
        { kind := .host, quiesce := leAt (s.slot k.val).args 1 1 == 0, target := leAt (s.slot k.val).args 8 8, slot := some k.val, cause := 1 }) ∧
    (s.mbRuns k.val 0x0107 = true → (s.slot k.val).phase = 0 → s.flaskIn (leAt (s.slot k.val).args 0 1) 3 = true → (s.flask (leAt (s.slot
        k.val).args 0 1)).halt = none → s.inPour (leAt (s.slot k.val).args 0 1) = true → leAt (s.slot k.val).args 1 1 = 0 → s.pourMaster = false →
        SlotFailed t k.val 0x0209) ∧
    (s.mbRuns k.val 0x0107 = false → t = s)) ∧
  (∀ (k : Fin 17) (s : State), ∃ t, exec (.mbFlaskResume k) s = .next t ∧ SameBut [.flasks, .fld .MOD_MB_SUMMARY, .hostOut, .hports, .slots] s t ∧
    (s.mbRuns k.val 0x0108 = true → (s.slot k.val).phase ≠ 0 → t = s) ∧
    (s.mbRuns k.val 0x0108 = true → (s.slot k.val).phase = 0 → s.flaskIn (leAt (s.slot k.val).args 0 1) 4 = false ∨ (s.flask (leAt (s.slot
        k.val).args 0 1)).atQuiesce = false ∨ (s.flask (leAt (s.slot k.val).args 0 1)).faultHalt = true ∨ (s.flask (leAt (s.slot k.val).args 0
        1)).reported.isSome = true → SlotFailed t k.val 0x0210 ∧ t.flasks = s.flasks) ∧
    (s.mbRuns k.val 0x0108 = true → (s.slot k.val).phase = 0 → s.flaskIn (leAt (s.slot k.val).args 0 1) 4 = true → (s.flask (leAt (s.slot
        k.val).args 0 1)).atQuiesce = true → (s.flask (leAt (s.slot k.val).args 0 1)).faultHalt = false → (s.flask (leAt (s.slot k.val).args 0
        1)).reported = none → (t.flask (leAt (s.slot k.val).args 0 1)).resumed = true ∧ (t.flask (leAt (s.slot k.val).args 0 1)).startAt = some s.tc
        ∧ (t.slot k.val).phase = 1) ∧
    (s.mbRuns k.val 0x0108 = false → t = s)) ∧
  (∀ (k : Fin 17) (s : State), ∃ t, exec (.mbFlaskCreate k) s = .next t ∧ SameBut [.caches, .cores, .dram, .dramPoison, .dramWritten, .flasks,
      .fld .CORE_MOULD, .fld .CORE_SC, .fld .CORE_SEQ, .fld .CORE_STAT, .fld .ME_STAT, .fld .MOD_MB_SUMMARY, .fld .QUEUE_BASE, .fld .QUEUE_CTL,
      .fld .QUEUE_DB, .fld .QUEUE_LEVEL, .fld .QUEUE_STAT, .fld .QUEUE_WM, .fld .SE_STAT, .fld .SPD_ELASTIC, .fld .SPD_STAT, .fld .SPR_STAT,
      .fld .VU_STAT, .hostOut, .hports, .mes, .queues, .ses, .slots, .vus] s t ∧
    (s.mbRuns k.val 0x0101 = true → (s.slot k.val).phase ≠ 0 → t = s) ∧
    (s.mbRuns k.val 0x0101 = true → (s.slot k.val).phase = 0 → (s.flask (leAt (s.slot k.val).args 0 1)).live = true → SlotFailed t k.val 0x0212 ∧
        t.flasks = s.flasks) ∧
    (s.mbRuns k.val 0x0101 = true → (s.slot k.val).phase = 0 → (s.flask (leAt (s.slot k.val).args 0 1)).live = false → s.fget
        F.MOD_GRID_STAT_OUT_OF_SERVICE 0 = 1 → SlotFailed t k.val 0x0214 ∧ t.flasks = s.flasks) ∧
    (s.mbRuns k.val 0x0101 = true → (s.slot k.val).phase = 0 → (s.flask (leAt (s.slot k.val).args 0 1)).live = false → s.fget
        F.MOD_GRID_STAT_OUT_OF_SERVICE 0 ≠ 1 → ¬ (∀ l, l ∈ ((List.range 140).filter (fun l => bitOf (leAt (s.slot k.val).args 8 18) l)) → (s.physOf
        l).isSome = true ∧ ∀ g, g ∈ s.liveFlasks → l ∉ (s.flask g).cores) → SlotFailed t k.val 0x0304 ∧ t.flasks = s.flasks) ∧
    (s.mbRuns k.val 0x0101 = true → (s.slot k.val).phase = 0 → (s.flask (leAt (s.slot k.val).args 0 1)).live = false → s.fget
        F.MOD_GRID_STAT_OUT_OF_SERVICE 0 ≠ 1 → (∀ l, l ∈ ((List.range 140).filter (fun l => bitOf (leAt (s.slot k.val).args 8 18) l)) → (s.physOf
        l).isSome = true ∧ ∀ g, g ∈ s.liveFlasks → l ∉ (s.flask g).cores) → s.freeRegion (leAt (s.slot k.val).args 2 2) = none → SlotFailed t k.val
        0x0305 ∧ t.flasks = s.flasks) ∧
    (s.mbRuns k.val 0x0101 = true → ∀ base, (s.slot k.val).phase = 0 → (s.flask (leAt (s.slot k.val).args 0 1)).live = false → s.fget
        F.MOD_GRID_STAT_OUT_OF_SERVICE 0 ≠ 1 → (∀ l, l ∈ ((List.range 140).filter (fun l => bitOf (leAt (s.slot k.val).args 8 18) l)) → (s.physOf
        l).isSome = true ∧ ∀ g, g ∈ s.liveFlasks → l ∉ (s.flask g).cores) → s.freeRegion (leAt (s.slot k.val).args 2 2) = some base →
      (t.flask (leAt (s.slot k.val).args 0 1)).live = true ∧ (t.flask (leAt (s.slot k.val).args 0 1)).gen = (s.flask (leAt (s.slot k.val).args 0
          1)).gen + 1 ∧ (t.flask (leAt (s.slot k.val).args 0 1)).cores = ((List.range 140).filter (fun l => bitOf (leAt (s.slot k.val).args 8 18)
          l)) ∧ (t.flask (leAt (s.slot k.val).args 0 1)).baseGib = base ∧ (t.flask (leAt (s.slot k.val).args 0 1)).gib = leAt (s.slot k.val).args 2
          2 ∧
      (((List.range 140).filter (fun l => bitOf (leAt (s.slot k.val).args 8 18) l)) = [] → SlotDone t k.val 0) ∧
      ∀ l p, l ∈ ((List.range 140).filter (fun l => bitOf (leAt (s.slot k.val).args 8 18) l)) → s.physOf l = some p → t.coreState p = 5 ∧ (t.core
          p).owner = some (leAt (s.slot k.val).args 0 1, (s.flask (leAt (s.slot k.val).args 0 1)).gen + 1)) ∧
    (s.mbRuns k.val 0x0101 = false → t = s)) ∧
  (∀ (k : Fin 17) (s : State), ∃ t, exec (.mbFlaskDestroy k) s = .next t ∧ SameBut [.caches, .cores, .dbg, .dram, .dramPoison, .dramWritten,
      .flasks, .fld .CORE_MOULD, .fld .CORE_SC, .fld .CORE_SEQ, .fld .CORE_STAT, .fld .DBG_HOLD, .fld .LDL_CTX_n, .fld .ME_STAT,
      .fld .MOD_GRID_STAT, .fld .MOD_MB_SUMMARY, .fld .QUEUE_BASE, .fld .QUEUE_CTL, .fld .QUEUE_DB, .fld .QUEUE_LEVEL, .fld .QUEUE_STAT,
      .fld .QUEUE_WM, .fld .SAF_STAT, .fld .SE_STAT, .fld .SPD_ELASTIC, .fld .SPD_STAT, .fld .SPR_STAT, .fld .VU_STAT, .hostOut, .hports, .ldls,
      .mes, .pour, .queues, .saf, .ses, .slots, .vus] s t ∧
    (s.mbRuns k.val 0x0102 = true → (s.slot k.val).phase ≠ 0 → t = s) ∧
    (s.mbRuns k.val 0x0102 = true → (s.slot k.val).phase = 0 → (s.flask (leAt (s.slot k.val).args 0 1)).live = false → SlotFailed t k.val 0x0213 ∧
        t.flasks = s.flasks) ∧
    (s.mbRuns k.val 0x0102 = true → (s.slot k.val).phase = 0 → (s.flask (leAt (s.slot k.val).args 0 1)).live = true → (t.flask (leAt (s.slot
        k.val).args 0 1)).live = false ∧ (t.flask (leAt (s.slot k.val).args 0 1)).gen = (s.flask (leAt (s.slot k.val).args 0 1)).gen ∧ ∀ p, p ∈
        s.flaskPhys (leAt (s.slot k.val).args 0 1) → t.coreState p = 5 ∧ (t.core p).owner = none) ∧
    (s.mbRuns k.val 0x0102 = false → t = s)) ∧
  (∀ (k : Fin 17) (s : State), ∃ t, exec (.mbCacheFlush k) s = .next t ∧ SameBut [.caches, .fld .MOD_MB_SUMMARY, .hostOut, .hports, .slots] s t ∧
    (s.mbRuns k.val 0x010C = true → (s.flask (leAt (s.slot k.val).args 0 1)).live = false → SlotFailed t k.val 0x0213 ∧ t.caches = s.caches) ∧
    (s.mbRuns k.val 0x010C = true → (s.flask (leAt (s.slot k.val).args 0 1)).live = true → SlotDone t k.val 0 ∧ ∀ c l, s.Wf → l ∈ (t.cache c).lines
        → (s.flask (leAt (s.slot k.val).args 0 1)).baseGib * 2 ^ 30 ≤ l.line * 256 → l.line * 256 < ((s.flask (leAt (s.slot k.val).args 0
        1)).baseGib + (s.flask (leAt (s.slot k.val).args 0 1)).gib) * 2 ^ 30 → l.dirty = false) ∧
    (s.mbRuns k.val 0x010C = false → t = s)) ∧
  (∀ (k : Fin 17) (s : State), ∃ t, exec (.mbCachePartSet k) s = .next t ∧ SameBut [.fld .CCH_PART, .fld .MOD_MB_SUMMARY, .hostOut, .hports, .slots]
      s t ∧
    (s.mbRuns k.val 0x010D = true → s.running.any (fun f => (s.flask f).active.streams) = true → SlotFailed t k.val 0x0210) ∧
    (s.mbRuns k.val 0x010D = true → s.running.any (fun f => (s.flask f).active.streams) = false → SlotDone t k.val 0 ∧ ∀ c, c < 20 → t.fget
        F.CCH_PART_STREAM_WAYS c = leAt (s.slot k.val).args 0 1 % 2 ^ F.CCH_PART_STREAM_WAYS.len) ∧
    (s.mbRuns k.val 0x010D = false → t = s))

/-- A write of SUBMIT to an open slot is held, and with GO its command is accepted: the arguments are copied, and it waits, runs or fails. A write to
a busy slot is counted. A cancelled command that waits fails with 0x0201, as does a running one of the cancellable commands; another running one
goes on. A waiting command starts when the orderings allow, or fails where the power state refuses it. The sideband slot takes a request while
open, and every poll answers with its response. Before the mailbox is open nothing changes but the time. (R472, R473, R474, R475, R476, R490,
R540) -/
def Obligations.MailboxSlotCommandsAct : Prop :=
  (∀ (slot : Fin 16) (submit : Word) (byteMask : Fin 256) (tc : Nat) (s : State), ∃ t, exec (.mbSubmit slot submit byteMask tc) s = .next t ∧
      SameBut [.fld .MOD_MB_SUMMARY, .fld .TC_NOW, .hostOut, .hports, .mbOrder, .slots] s t ∧
    t.tc = s.clockAt tc ∧
    (s.mbServed = false → SameBut [.fld .TC_NOW] s t) ∧
    (s.mbServed = true → (s.slot slot.val).isOpen = false → (t.slot slot.val).refused = satAdd 0xFFFF (s.slot slot.val).refused 1 ∧ (t.slot
        slot.val).state = (s.slot slot.val).state) ∧
    (∀ v, v = submitBits ((submit.toNat &&& coverMask byteMask.val 8) + ((s.slot slot.val).submit - ((s.slot slot.val).submit &&& coverMask
        byteMask.val 8))) → s.mbServed = true → (s.slot slot.val).isOpen = true → bitOf byteMask.val 7 = false ∨ bitOf v 63 = false → t.slot
        slot.val = { (s.slot slot.val) with submit := v }) ∧
    (∀ v, v = submitBits ((submit.toNat &&& coverMask byteMask.val 8) + ((s.slot slot.val).submit - ((s.slot slot.val).submit &&& coverMask
        byteMask.val 8))) → s.mbServed = true → (s.slot slot.val).isOpen = true → bitOf byteMask.val 7 = true → bitOf v 63 = true →
      (t.slot slot.val).cmd = v % 2 ^ 16 ∧ (t.slot slot.val).args = Mem.rdN (s.slot slot.val).payload 0 (min (bitsOf v 16 13) 4096) ∧ (t.slot
          slot.val).seq = bitsOf v 32 16 ∧
      (t.slot slot.val).tcAccepted = t.tc ∧ (t.slot slot.val).refused = 0 ∧ ((t.slot slot.val).state = 1 ∨ (t.slot slot.val).state = 2 ∨ (t.slot
          slot.val).state = 5))) ∧
  (∀ (slot : Fin 16) (val : Byte) (s : State), ∃ t, exec (.mbCancel slot val) s = .next t ∧ SameBut [.ev, .faults, .flasks, .fld .MOD_FAULT_STAT,
      .fld .MOD_MB_SUMMARY, .fld .RUN_ERR, .fld .RUN_STAT, .hostOut, .hports, .msgs, .ports, .slots] s t ∧
    (s.mbServed = false ∨ val ≠ 1 → t = s) ∧
    (s.mbServed = true → val = 1 → (s.slot slot.val).isOpen = true → (s.slot slot.val).state ≠ 0 → (s.slot slot.val).cancel ≠ 2 → t.slot slot.val =
        { (s.slot slot.val) with cancel := 1 }) ∧
    (s.mbServed = true → val = 1 → (s.slot slot.val).state = 1 → SlotFailed t slot.val 0x0201 ∧ (t.slot slot.val).cancel = 2) ∧
    (s.mbServed = true → val = 1 → (s.slot slot.val).runs = true → [0x0103, 0x010A, 0x0305, 0x0205, 0x0601, 0x0204].elem (s.slot slot.val).cmd =
        true → SlotFailed t slot.val 0x0201 ∧ (t.slot slot.val).cancel = 2) ∧
    (s.mbServed = true → val = 1 → (s.slot slot.val).runs = true → [0x0103, 0x010A, 0x0305, 0x0205, 0x0601, 0x0204].elem (s.slot slot.val).cmd =
        false → t.slot slot.val = { (s.slot slot.val) with cancel := 1 })) ∧
  (∀ (slot : Fin 17) (s : State), ∃ t, exec (.mbCommandStart slot) s = .next t ∧ SameBut [.fld .MOD_MB_SUMMARY, .hostOut, .hports, .slots] s t ∧
    (s.mayStart slot.val = false → t = s) ∧
    (s.mayStart slot.val = true → s.restRefuses (s.slot slot.val).cmd = true → SlotFailed t slot.val 0x0210) ∧
    (s.mayStart slot.val = true → s.restRefuses (s.slot slot.val).cmd = false → (t.slot slot.val).state = 2 ∧ (t.slot slot.val).cmd = (s.slot
        slot.val).cmd)) ∧
  (∀ (s : State), ∃ t, exec .mbPoll s = .next t ∧ SameBut [.resp] s t ∧
    (s.mbServed = false → t = s) ∧
    (s.mbServed = true → t.resp = some { bytes := (s.slot 16).response, poison := false, status := 0 } ∧ t.slots = s.slots)) ∧
  (∀ (submit : Word) (args : List Byte) (session : Option Nat) (tc : Nat) (s : State), ∃ t, exec (.sidebandRequest submit args session tc) s = .next
      t ∧ SameBut [.fld .MOD_MB_SUMMARY, .fld .TC_NOW, .hostOut, .hports, .mbOrder, .resp, .slots] s t ∧
    t.tc = s.clockAt tc ∧
    (s.mbServed = false → SameBut [.fld .TC_NOW] s t) ∧
    (s.mbServed = true → t.resp = some { bytes := (t.slot 16).response, poison := false, status := 0 }) ∧
    (s.mbServed = true → (s.slot 16).isOpen = false ∨ submitBits submit.toNat % 2 ^ 29 = 0 → t.slots = s.slots) ∧
    (s.mbServed = true → (s.slot 16).isOpen = true → submitBits submit.toNat % 2 ^ 29 ≠ 0 → (t.slot 16).cmd = submit.toNat % 2 ^ 16 ∧ (t.slot
        16).tcAccepted = t.tc ∧ (t.slot 16).state ≠ 0))

/-- INFO_GET, SLAG_READ and FLASK_LIST end with their record in the payload; EVENT_RING_SET configures a ring; EVENT_TEST makes one event of the code
and severity named; APERTURE_SET sets the enables where a grant allows it and else fails with 0x0403. (R464, R479, R482, R487, R680) -/
def Obligations.MailboxQueryCommandsAct : Prop :=
  (∀ (k : Fin 17) (s : State), ∃ t, exec (.mbInfoGet k) s = .next t ∧ SameBut [.fld .MOD_MB_SUMMARY, .hostOut, .hports, .slots] s t ∧
    (s.mbRuns k.val 0x0001 = true → SlotDone t k.val 0 ∧ (t.slot k.val).payload = Mem.wrN [] 0 s.infoRecord ∧ (t.slot k.val).resultLen =
        s.infoRecord.length) ∧
    (s.mbRuns k.val 0x0001 = false → t = s)) ∧
  (∀ (k : Fin 17) (s : State), ∃ t, exec (.mbSlagRead k) s = .next t ∧ SameBut [.fld .MOD_MB_SUMMARY, .hostOut, .hports, .slots] s t ∧
    (s.mbRuns k.val 0x0002 = true → SlotDone t k.val 0 ∧ (t.slot k.val).payload = Mem.wrN [] 0 ((s.slagImage.drop (leAt (s.slot k.val).args 0
        4)).take 4096) ∧ (t.slot k.val).resultLen = ((s.slagImage.drop (leAt (s.slot k.val).args 0 4)).take 4096).length) ∧
    (s.mbRuns k.val 0x0002 = false → t = s)) ∧
  (∀ (k : Fin 17) (s : State), ∃ t, exec (.mbEventRingSet k) s = .next t ∧ SameBut [.ev, .fld .MOD_EVR_HEAD_n, .fld .MOD_EVR_TAIL_n,
      .fld .MOD_MB_SUMMARY, .hostOut, .hports, .rings, .slots] s t ∧
    (s.mbRuns k.val 0x0003 = true → SlotDone t k.val 0 ∧ (t.ring (leAt (s.slot k.val).args 0 1)).configured = decide (leAt (s.slot k.val).args 8 8 ≠
        0) ∧ (t.ring (leAt (s.slot k.val).args 0 1)).base = leAt (s.slot k.val).args 8 8 ∧ (t.ring (leAt (s.slot k.val).args 0 1)).port = leAt
        (s.slot k.val).args 1 1 ∧ (t.ring (leAt (s.slot k.val).args 0 1)).depthLog2 = leAt (s.slot k.val).args 2 1 ∧ (t.ring (leAt (s.slot
        k.val).args 0 1)).vector = leAt (s.slot k.val).args 4 2) ∧
    (s.mbRuns k.val 0x0003 = false → t = s)) ∧
  (∀ (k : Fin 17) (s : State), ∃ t, exec (.mbFlaskList k) s = .next t ∧ SameBut [.fld .MOD_MB_SUMMARY, .hostOut, .hports, .slots] s t ∧
    (s.mbRuns k.val 0x0004 = true → ∀ b, b = (List.range 16).flatMap (fun f => s.flaskRecord f (!s.tenant k.val || s.tenantFlask k.val == f)) →
      SlotDone t k.val 0 ∧ (t.slot k.val).payload = Mem.wrN [] 0 b ∧ (t.slot k.val).resultLen = b.length) ∧
    (s.mbRuns k.val 0x0004 = false → t = s)) ∧
  (∀ (k : Fin 17) (s : State), ∃ t, exec (.mbEventTest k) s = .next t ∧ SameBut [.ev, .fld .MOD_MB_SUMMARY, .freeCtr, .hostOut, .hports, .slots] s t ∧
    (s.mbRuns k.val 0x0702 = true → SlotDone t k.val 0 ∧ Raised s t (leAt (s.slot k.val).args 0 2) (leAt (s.slot k.val).args 2 1) ∧ t.freeCtr =
        s.freeCtr + 1) ∧
    (s.mbRuns k.val 0x0702 = false → t = s)) ∧
  (∀ (k : Fin 17) (s : State), ∃ t, exec (.mbApertureSet k) s = .next t ∧ SameBut [.fld .MOD_APERTURE_CTL, .fld .MOD_MB_SUMMARY, .hostOut, .hports,
      .slots] s t ∧
    (s.mbRuns k.val 0x0701 = true → s.apertureMay (leAt (s.slot k.val).args 1 1) = false → SlotFailed t k.val 0x0403 ∧ t.fget F.MOD_APERTURE_CTL_EN
        0 = s.fget F.MOD_APERTURE_CTL_EN 0) ∧
    (s.mbRuns k.val 0x0701 = true → s.apertureMay (leAt (s.slot k.val).args 1 1) = true → SlotDone t k.val 0 ∧ t.fget F.MOD_APERTURE_CTL_EN 0 = leAt
        (s.slot k.val).args 0 1 % 2 ^ F.MOD_APERTURE_CTL_EN.len ∧ t.fget F.MOD_APERTURE_CTL_WR_EN 0 = leAt (s.slot k.val).args 1 1 % 2 ^
        F.MOD_APERTURE_CTL_WR_EN.len) ∧
    (s.mbRuns k.val 0x0701 = false → t = s))

/-- A track group that fails is recorded as failed; with no spare left a link group fences its core, and any other takes the module out of service. A
substitution waits for its flasks and then records the spare. A healthy core whose flasks need no drain is fenced at once. A drain of a halted
flask goes on until its contexts are done. With AUTO_REPAIR off a repair that needs a drain is pending. A pending repair is carried out when
nothing waits. FENCE of a unit out of service is done with the GENERATION. A culprit window closes 100 us after its first event. A wear value
below its limit does nothing. (R28, R29, R36, R608, R615, R616, R617, R619, R620) -/
def Obligations.RepairCommandsAct : Prop :=
  (∀ (segment : Fin 31) (group : Fin 272) (linkCore : CoreId) (reason : Nat) (s : State), ∃ t, exec (.trackGroupFailure segment group linkCore
      reason) s = .next t ∧ SameBut [.cores, .dbg, .ev, .faults, .flasks, .fld .CLU_CORES, .fld .CORE_MOULD, .fld .CORE_SC, .fld .CORE_SEQ,
      .fld .CORE_STAT, .fld .DBG_HOLD, .fld .LDL_CTX_n, .fld .ME_CAP, .fld .ME_STAT, .fld .MOD_BOOT_ERR, .fld .MOD_FAULT_STAT, .fld .MOD_GRID_STAT,
      .fld .MOD_MB_SUMMARY, .fld .MOD_ROW_MAP_r, .fld .PWR_CLUSTER_c, .fld .PWR_TILE_t, .fld .QUEUE_BASE, .fld .QUEUE_CTL, .fld .QUEUE_DB,
      .fld .QUEUE_LEVEL, .fld .QUEUE_STAT, .fld .QUEUE_WM, .fld .RUN_ERR, .fld .RUN_STAT, .fld .SE_STAT, .fld .SPD_ELASTIC, .fld .SPD_STAT,
      .fld .SPR_STAT, .fld .VU_STAT, .hostOut, .hports, .ldls, .mes, .msgs, .ports, .power, .queues, .seam, .ses, .slag, .slots, .vus] s t ∧
    (NSet.mem s.seam.failed (segment.val * 512 + group.val) = true → t = s) ∧
    (NSet.mem s.seam.failed (segment.val * 512 + group.val) = false → s.freeGroup segment.val = none → 160 ≤ group.val → t.fget
        F.MOD_GRID_STAT_OUT_OF_SERVICE 0 = 1 ∧ Raised s t 0x0A0C 3) ∧
    (NSet.mem s.seam.failed (segment.val * 512 + group.val) = false → s.freeGroup segment.val = none → group.val < 160 → s.healthy linkCore.val =
        true → t.healthy linkCore.val = false) ∧
    (NSet.mem s.seam.failed (segment.val * 512 + group.val) = false → NSet.mem t.seam.failed (segment.val * 512 + group.val) = true)) ∧
  (∀ (segment : Fin 31) (group : Fin 272) (s : State), ∃ t, exec (.trackGroupSubstitution segment group) s = .next t ∧ SameBut [.ev, .faults,
      .fld .MOD_FAULT_STAT, .msgs, .seam, .slag] s t ∧
    (s.repairWaits 4 (groupLoc segment.val group.val) ≠ [] → t = s) ∧
    (s.seam.waiting.find? (fun w => w.1 == segment.val && w.2.1 == group.val) = none → t = s) ∧
    (∀ w, s.repairWaits 4 (groupLoc segment.val group.val) = [] → s.seam.waiting.find? (fun w => w.1 == segment.val && w.2.1 == group.val) = some w
        → s.slagEntry 4 (groupLoc segment.val group.val) = none →
      t.seam.waiting = s.seam.waiting.filter (fun w => !(w.1 == segment.val && w.2.1 == group.val)) ∧
      ∃ e, t.slagEntry 4 (groupLoc segment.val group.val) = some e ∧ e.state = 2 ∧ e.reason = w.2.2.2 ∧ e.spare = w.2.2.1)) ∧
  (∀ (core : CoreId) (reason : Nat) (agentBad : List Nat) (s : State), ∃ t, exec (.inServiceFence core reason agentBad) s = .next t ∧ SameBut
      [.cores, .dbg, .ev, .faults, .flasks, .fld .CLU_CORES, .fld .CORE_MOULD, .fld .CORE_SC, .fld .CORE_SEQ, .fld .CORE_STAT, .fld .DBG_HOLD,
      .fld .LDL_CTX_n, .fld .ME_CAP, .fld .ME_STAT, .fld .MOD_BOOT_ERR, .fld .MOD_FAULT_STAT, .fld .MOD_GRID_STAT, .fld .MOD_MB_SUMMARY,
      .fld .MOD_ROW_MAP_r, .fld .PWR_CLUSTER_c, .fld .PWR_TILE_t, .fld .QUEUE_BASE, .fld .QUEUE_CTL, .fld .QUEUE_DB, .fld .QUEUE_LEVEL,
      .fld .QUEUE_STAT, .fld .QUEUE_WM, .fld .RUN_ERR, .fld .RUN_STAT, .fld .SE_STAT, .fld .SPD_ELASTIC, .fld .SPD_STAT, .fld .SPR_STAT,
      .fld .VU_STAT, .hostOut, .hports, .ldls, .mes, .msgs, .ports, .power, .queues, .seam, .ses, .slag, .slots, .vus] s t ∧
    (s.repairWaits 1 core.val = [] → s.healthy core.val = false → t = s) ∧
    (s.repairWaits 1 core.val = [] → s.healthy core.val = true → t.healthy core.val = false) ∧
    (s.repairWaits 1 core.val ≠ [] → s.faults.repairs = [] → t.faults.repairs = [(1, core.val, reason, none)])) ∧
  (∀ (flask : FlaskId) (tc : Nat) (s : State), ∃ t, exec (.flaskDrain flask tc) s = .next t ∧ SameBut [.caches, .cores, .dbg, .dec, .ev, .faults,
      .flasks, .fld .CLK_PSTEP, .fld .CLU_CORES, .fld .CORE_MOULD, .fld .CORE_SC, .fld .CORE_SEQ, .fld .CORE_STAT, .fld .DBG_HOLD, .fld .LDL_CTX_n,
      .fld .ME_CAP, .fld .ME_STAT, .fld .MOD_BOOT_ERR, .fld .MOD_FAULT_STAT, .fld .MOD_GRID_STAT, .fld .MOD_MB_SUMMARY, .fld .MOD_ROW_MAP_r,
      .fld .PWR_CLUSTER_c, .fld .PWR_RISER_LEAD, .fld .PWR_TILE_t, .fld .QUEUE_BASE, .fld .QUEUE_CTL, .fld .QUEUE_DB, .fld .QUEUE_LEVEL,
      .fld .QUEUE_STAT, .fld .QUEUE_WM, .fld .RUN_ERR, .fld .RUN_STAT, .fld .SE_STAT, .fld .SPD_ELASTIC, .fld .SPD_STAT, .fld .SPR_STAT,
      .fld .TC_NOW, .fld .VU_STAT, .hostOut, .hports, .ldls, .mes, .msgs, .ports, .power, .queues, .seam, .ses, .slag, .slots, .vus] s t ∧
    t.tc = s.clockAt tc ∧
    ((s.flaskIn flask.val 4 && (s.flask flask.val).draining && !(s.flask flask.val).drained) = false → SameBut [.fld .TC_NOW] s t) ∧
    ((s.flaskIn flask.val 4 && (s.flask flask.val).draining && !(s.flask flask.val).drained) = true → s.drainedContexts flask.val = true →
        s.faults.repairs = [] → (t.flask flask.val).drained = true ∧ Raised s t 0x0A09 0) ∧
    ((s.flaskIn flask.val 4 && (s.flask flask.val).draining && !(s.flask flask.val).drained) = true → s.drainedContexts flask.val = true →
        s.faults.repairs = [] →
      s.inPour flask.val = true → s.dec.revert = some (s.fget F.CLK_PSTEP_SEQ 0) →
      (∀ g ∈ s.pourFlasks, g ≠ flask.val → s.flaskIn g 3 = false ∧ ((s.flask g).draining = false ∨ (s.flask g).drained = true)) →
      t.dec.revert = none ∧ t.pstep = s.dec.prev.1 % 2 ^ F.CLK_PSTEP_CURRENT.len ∧ t.fget F.CLK_PSTEP_TEMPER 0 = s.dec.prev.2.1 % 2 ^
          F.CLK_PSTEP_TEMPER.len ∧
      t.fget F.CLK_PSTEP_BUBBLES 0 = s.dec.prev.2.2 % 2 ^ F.CLK_PSTEP_BUBBLES.len)) ∧
  (∀ (kind location reason : Nat) (s : State), ∃ t, exec (.autoRepair kind location reason) s = .next t ∧ SameBut [.cores, .dbg, .ev, .faults,
      .flasks, .fld .CLU_CORES, .fld .CORE_MOULD, .fld .CORE_SC, .fld .CORE_SEQ, .fld .CORE_STAT, .fld .DBG_HOLD, .fld .LDL_CTX_n, .fld .ME_CAP,
      .fld .ME_STAT, .fld .MOD_BOOT_ERR, .fld .MOD_FAULT_STAT, .fld .MOD_GRID_STAT, .fld .MOD_MB_SUMMARY, .fld .MOD_ROW_MAP_r, .fld .PWR_CLUSTER_c,
      .fld .PWR_TILE_t, .fld .QUEUE_BASE, .fld .QUEUE_CTL, .fld .QUEUE_DB, .fld .QUEUE_LEVEL, .fld .QUEUE_STAT, .fld .QUEUE_WM, .fld .RUN_ERR,
      .fld .RUN_STAT, .fld .SE_STAT, .fld .SPD_ELASTIC, .fld .SPD_STAT, .fld .SPR_STAT, .fld .VU_STAT, .hostOut, .hports, .ldls, .mes, .msgs,
      .ports, .power, .queues, .seam, .ses, .slag, .slots, .vus] s t ∧
    (kind ≠ 3 → kind ≠ 5 → kind ≠ 6 → s.fget F.MOD_FAULT_CTL_AUTO_REPAIR 0 = 0 →
      (s.faults.pendings.any (fun x => x.1 == kind && x.2.1 == location) = true → t = s) ∧
      (s.faults.pendings.any (fun x => x.1 == kind && x.2.1 == location) = false → t.faults.pendings = s.faults.pendings ++ [(kind, location,
          reason)] ∧ Raised s t 0x0A0B 0))) ∧
  (∀ (kind location : Nat) (s : State), ∃ t, exec (.pendingRepairApply kind location) s = .next t ∧ SameBut [.cores, .dbg, .ev, .faults, .flasks,
      .fld .CLU_CORES, .fld .CORE_MOULD, .fld .CORE_SC, .fld .CORE_SEQ, .fld .CORE_STAT, .fld .DBG_HOLD, .fld .LDL_CTX_n, .fld .ME_CAP,
      .fld .ME_STAT, .fld .MOD_BOOT_ERR, .fld .MOD_FAULT_STAT, .fld .MOD_GRID_STAT, .fld .MOD_MB_SUMMARY, .fld .MOD_ROW_MAP_r, .fld .PWR_CLUSTER_c,
      .fld .PWR_TILE_t, .fld .QUEUE_BASE, .fld .QUEUE_CTL, .fld .QUEUE_DB, .fld .QUEUE_LEVEL, .fld .QUEUE_STAT, .fld .QUEUE_WM, .fld .RUN_ERR,
      .fld .RUN_STAT, .fld .SE_STAT, .fld .SPD_ELASTIC, .fld .SPD_STAT, .fld .SPR_STAT, .fld .VU_STAT, .hostOut, .hports, .ldls, .mes, .msgs,
      .ports, .power, .queues, .seam, .ses, .slag, .slots, .vus] s t ∧
    (s.faults.pendings.find? (fun x => x.1 == kind && x.2.1 == location) = none ∨ s.repairWaits kind location ≠ [] → t = s) ∧
    (∀ x, s.faults.pendings.find? (fun x => x.1 == kind && x.2.1 == location) = some x → s.repairWaits kind location = [] → kind = 1 → s.healthy
        location = true → t.healthy location = false)) ∧
  (∀ (k : Fin 17) (s : State), ∃ t, exec (.mbFence k) s = .next t ∧ SameBut [.cores, .dbg, .ev, .faults, .flasks, .fld .CLU_CORES, .fld .CORE_MOULD,
      .fld .CORE_SC, .fld .CORE_SEQ, .fld .CORE_STAT, .fld .DBG_HOLD, .fld .LDL_CTX_n, .fld .ME_CAP, .fld .ME_STAT, .fld .MOD_BOOT_ERR,
      .fld .MOD_FAULT_STAT, .fld .MOD_GRID_STAT, .fld .MOD_MB_SUMMARY, .fld .MOD_ROW_MAP_r, .fld .PWR_CLUSTER_c, .fld .PWR_TILE_t, .fld .QUEUE_BASE,
      .fld .QUEUE_CTL, .fld .QUEUE_DB, .fld .QUEUE_LEVEL, .fld .QUEUE_STAT, .fld .QUEUE_WM, .fld .RUN_ERR, .fld .RUN_LANE_l, .fld .RUN_STAT,
      .fld .SE_STAT, .fld .SPD_ELASTIC, .fld .SPD_STAT, .fld .SPR_STAT, .fld .VU_STAT, .hostOut, .hports, .ldls, .mes, .msgs, .ports, .power,
      .queues, .seam, .ses, .slag, .slots, .vus] s t ∧
    (s.mbRuns k.val 0x0301 = true → locOk (leAt (s.slot k.val).args 0 1) (leAt (s.slot k.val).args 4 4) = false → SlotFailed t k.val 0x0103 ∧ t.slag
        = s.slag) ∧
    (s.mbRuns k.val 0x0301 = true → locOk (leAt (s.slot k.val).args 0 1) (leAt (s.slot k.val).args 4 4) = true → (s.slagEntry (leAt (s.slot
        k.val).args 0 1) (leAt (s.slot k.val).args 4 4)).isSome = true → SlotDone t k.val s.slag.generation ∧ t.slag = s.slag) ∧
    (s.mbRuns k.val 0x0301 = true → locOk (leAt (s.slot k.val).args 0 1) (leAt (s.slot k.val).args 4 4) = true → s.slagEntry (leAt (s.slot
        k.val).args 0 1) (leAt (s.slot k.val).args 4 4) = none → (s.slot k.val).phase = 0 → s.fenceRefused (leAt (s.slot k.val).args 0 1) (leAt
        (s.slot k.val).args 4 4) = true → SlotFailed t k.val 0x0304 ∧ t.slag = s.slag) ∧
    (s.mbRuns k.val 0x0301 = true → locOk (leAt (s.slot k.val).args 0 1) (leAt (s.slot k.val).args 4 4) = true → s.slagEntry (leAt (s.slot
        k.val).args 0 1) (leAt (s.slot k.val).args 4 4) = none → (s.slot k.val).phase = 0 → s.fenceRefused (leAt (s.slot k.val).args 0 1) (leAt
        (s.slot k.val).args 4 4) = false → leAt (s.slot k.val).args 0 1 = 3 → SlotDone t k.val t.slag.generation) ∧
    (s.mbRuns k.val 0x0301 = true → locOk (leAt (s.slot k.val).args 0 1) (leAt (s.slot k.val).args 4 4) = true → s.slagEntry (leAt (s.slot
        k.val).args 0 1) (leAt (s.slot k.val).args 4 4) = none → (s.slot k.val).phase = 0 → s.fenceRefused (leAt (s.slot k.val).args 0 1) (leAt
        (s.slot k.val).args 4 4) = false → leAt (s.slot k.val).args 0 1 = 1 ∨ leAt (s.slot k.val).args 0 1 = 2 → (t.slot k.val).phase = 1) ∧
    (s.mbRuns k.val 0x0301 = false → t = s)) ∧
  (∀ (index : Fin 64) (tc : Nat) (s : State), ∃ t, exec (.culpritWindowClose index tc) s = .next t ∧ SameBut [.ev, .faults, .fld .MOD_FAULT_STAT,
      .fld .TC_NOW] s t ∧
    t.tc = s.clockAt tc ∧
    (s.faults.windows[index.val]? = none → SameBut [.fld .TC_NOW] s t) ∧
    (∀ w, s.faults.windows[index.val]? = some w →
      (s.clockAt tc < w.first + 100000 → SameBut [.fld .TC_NOW] s t) ∧
      (w.first + 100000 ≤ s.clockAt tc → t.faults.windows = s.faults.windows.eraseIdx index.val ∧ t.fget F.MOD_FAULT_STAT_WINDOWS_OPEN 0 =
          t.faults.windows.length % 2 ^ F.MOD_FAULT_STAT_WINDOWS_OPEN.len))) ∧
  (∀ (unit : WearUnit) (value tc : Nat) (s : State), ∃ t, exec (.wearMonitor unit value tc) s = .next t ∧ SameBut [.cores, .dbg, .ev, .faults,
      .flasks, .fld .CLU_CORES, .fld .CORE_MOULD, .fld .CORE_SC, .fld .CORE_SEQ, .fld .CORE_STAT, .fld .DBG_HOLD, .fld .LDL_CTX_n, .fld .ME_CAP,
      .fld .ME_STAT, .fld .MOD_BOOT_ERR, .fld .MOD_FAULT_STAT, .fld .MOD_GRID_STAT, .fld .MOD_MB_SUMMARY, .fld .MOD_ROW_MAP_r, .fld .PWR_CLUSTER_c,
      .fld .PWR_TILE_t, .fld .QUEUE_BASE, .fld .QUEUE_CTL, .fld .QUEUE_DB, .fld .QUEUE_LEVEL, .fld .QUEUE_STAT, .fld .QUEUE_WM, .fld .RUN_ERR,
      .fld .RUN_STAT, .fld .SE_STAT, .fld .SPD_ELASTIC, .fld .SPD_STAT, .fld .SPR_STAT, .fld .TC_NOW, .fld .VU_STAT, .hostOut, .hports, .ldls, .mes,
      .msgs, .ports, .power, .queues, .seam, .ses, .slag, .slots, .vus] s t ∧
    t.tc = s.clockAt tc ∧
    (value < 3 → SameBut [.fld .TC_NOW] s t) ∧
    (∀ x, unit = .tile x → value < 30 ∨ s.fget F.PWR_TILE_t_STATE x.val ≠ 1 → SameBut [.fld .TC_NOW] s t) ∧
    (∀ x, unit = .tile x → 30 ≤ value → s.fget F.PWR_TILE_t_STATE x.val = 1 → t.fget F.PWR_TILE_t_WEAR x.val = 1) ∧
    (∀ c, unit = .margin c → value ≤ 300 → SameBut [.fld .TC_NOW] s t) ∧
    (∀ c, unit = .margin c → 300 < value → s.faults.warned.any (fun w => w.1 == 8 && w.2.1 == c.val && decide (s.clockAt tc < w.2.2 +
        86400000000000)) = false →
      ∃ r : EvRec, r.code = 0x0A08 ∧ r.sev = 0 ∧ t.ev = s.ev.occur r) ∧
    (∀ x, unit = .stack x → value < 256 → SameBut [.fld .TC_NOW] s t) ∧
    (∀ p l, unit = .lane p l → value ≤ 240 ∨ s.portState p.val ≠ 4 → SameBut [.fld .TC_NOW] s t))

/-- A test tile starts when the share is above zero, the window is 256 cycles, the unit has 256 cycles of allowance and the slew buckets hold it; its
hash then waits. Two waiting hashes of one tile are compared: equal ones pass, unequal ones count a mismatch and start a diagnosis. Three equal
results are a transient; a unit that alone differs is the culprit; a first unresolved run is made again, a second counts. A healthy unmapped core
found at fault is fenced. SHARE is taken at a frame boundary. Redundancy needs a live flask with no Mould and pairs that exist. Redundant hashes
that differ contain the flask. (R621, R622, R623, R624, R625, R626, R627, R629, R630) -/
def Obligations.PepperCommandsAct : Prop :=
  (∀ (core : CoreId) (unit : Fin 76) (window hash tc : Nat) (s : State), ∃ t, exec (.pepperTileStart core unit window hash tc) s = .next t ∧ SameBut
      [.fld .TC_NOW, .pep, .power] s t ∧
    t.tc = s.clockAt tc ∧
    (s.fget F.PEP_CTL_SHARE 0 = 0 ∨ window < 256 ∨ s.pepWindow core.val = false ∨ s.coreServes core.val = false ∨ 16 ≤ (s.pep.waiting (pepKey
        core.val unit.val)).length ∨ s.pep.left (pepKey core.val unit.val) < 2560000 → SameBut [.fld .TC_NOW] s t) ∧
    (∀ pw, pw = s.power.refill (s.clockAt tc) → 0 < s.fget F.PEP_CTL_SHARE 0 → 256 ≤ window → s.pepWindow core.val = true → s.coreState core.val ≠ 3
        → s.coreServes core.val = true →
      2560000 ≤ s.pep.left (pepKey core.val unit.val) → (s.pep.waiting (pepKey core.val unit.val)).length < 16 → pw.first (clusterOf core.val) =
          none → pw.holds (clusterOf core.val) 8000 = true →
      t.power = pw.debit (clusterOf core.val) 8000 ∧ t.pep.hashes = s.pep.hashes ++ [((pepKey core.val unit.val), NMap.get 0 s.pep.tile (pepKey
          core.val unit.val), hash % 2 ^ 64, t.tc)])) ∧
  (∀ (core : CoreId) (unit : Fin 76) (s : State), ∃ t, exec (.pepperCompare core unit) s = .next t ∧ SameBut [.ev, .fld .PEP_STAT, .fld .PEP_SWEEP,
      .pep] s t ∧
    (s.partner core.val = none → t = s) ∧
    (∀ q m, s.partner core.val = some q → m = (s.pep.waiting (pepKey core.val unit.val)).findSome? (fun a => ((s.pep.waiting (pepKey q
        unit.val)).find? (fun b => b.2.1 == a.2.1)).map (fun b => (a, b))) →
      (m = none → t = s) ∧ (m ≠ none → t.fget F.PEP_STAT_TILES 0 = (s.fget F.PEP_STAT_TILES 0 + 1) % 2 ^ F.PEP_STAT_TILES.len) ∧
      (∀ a b, m = some (a, b) → a.2.2.1 = b.2.2.1 → t.fget F.PEP_STAT_MISMATCHES 0 = s.fget F.PEP_STAT_MISMATCHES 0 ∧ t.pep.diag = s.pep.diag) ∧
      (∀ a b, m = some (a, b) → a.2.2.1 ≠ b.2.2.1 → t.fget F.PEP_STAT_MISMATCHES 0 = min (s.fget F.PEP_STAT_MISMATCHES 0 + 1) (2 ^
          F.PEP_STAT_MISMATCHES.len - 1) ∧ Raised s t 0x0A01 0 ∧
        t.pep.diag = s.pep.diag ++ [(pepKey (min core.val q) unit.val, a.2.1, s.frame, 0)]))) ∧
  (∀ (core : CoreId) (unit : Fin 76) (result : PepRun) (s : State), ∃ t, exec (.pepperDiagnostic core unit result) s = .next t ∧ SameBut [.cores,
      .dbg, .ev, .faults, .flasks, .fld .CLU_CORES, .fld .CORE_MOULD, .fld .CORE_SC, .fld .CORE_SEQ, .fld .CORE_STAT, .fld .DBG_HOLD,
      .fld .LDL_CTX_n, .fld .ME_CAP, .fld .ME_STAT, .fld .MOD_BOOT_ERR, .fld .MOD_FAULT_STAT, .fld .MOD_GRID_STAT, .fld .MOD_MB_SUMMARY,
      .fld .MOD_ROW_MAP_r, .fld .PEP_LAST, .fld .PEP_RESOLVE, .fld .PWR_CLUSTER_c, .fld .PWR_TILE_t, .fld .QUEUE_BASE, .fld .QUEUE_CTL,
      .fld .QUEUE_DB, .fld .QUEUE_LEVEL, .fld .QUEUE_STAT, .fld .QUEUE_WM, .fld .RUN_ERR, .fld .RUN_STAT, .fld .SE_STAT, .fld .SPD_ELASTIC,
      .fld .SPD_STAT, .fld .SPR_STAT, .fld .VU_STAT, .hostOut, .hports, .ldls, .mes, .msgs, .pep, .ports, .power, .queues, .seam, .ses, .slag,
      .slots, .vus] s t ∧
    (s.pep.diag.find? (fun d => d.1 == (pepKey core.val unit.val)) = none → t = s) ∧
    (∀ d, s.pep.diag.find? (fun d => d.1 == (pepKey core.val unit.val)) = some d → result.complete = true → s.frame ≤ d.2.2.1 + 64 → result.first =
        result.second → result.second = result.referee → t.fget F.PEP_RESOLVE_TRANSIENTS 0 = min (s.fget F.PEP_RESOLVE_TRANSIENTS 0 + 1) (2 ^
        F.PEP_RESOLVE_TRANSIENTS.len - 1) ∧ Raised s t 0x0A03 0 ∧ t.pep.diag = s.pep.diag.filter (fun x => x != d)) ∧
    (∀ d, s.pep.diag.find? (fun d => d.1 == (pepKey core.val unit.val)) = some d → result.complete = true → s.frame ≤ d.2.2.1 + 64 → result.referee
        = result.first → result.first ≠ result.second → t.fget F.PEP_RESOLVE_CULPRITS 0 = min (s.fget F.PEP_RESOLVE_CULPRITS 0 + 1) (2 ^
        F.PEP_RESOLVE_CULPRITS.len - 1) ∧ t.fget F.PEP_LAST_CORE 0 = ((s.partner core.val).getD core.val) % 2 ^ F.PEP_LAST_CORE.len ∧ t.fget
        F.PEP_LAST_VALID 0 = 1) ∧
    (∀ d, s.pep.diag.find? (fun d => d.1 == (pepKey core.val unit.val)) = some d → result.complete = true → s.frame ≤ d.2.2.1 + 64 → result.referee
        = result.second → result.first ≠ result.second → t.fget F.PEP_RESOLVE_CULPRITS 0 = min (s.fget F.PEP_RESOLVE_CULPRITS 0 + 1) (2 ^
        F.PEP_RESOLVE_CULPRITS.len - 1) ∧ t.fget F.PEP_LAST_CORE 0 = core.val % 2 ^ F.PEP_LAST_CORE.len ∧ t.fget F.PEP_LAST_VALID 0 = 1) ∧
    (∀ d, s.pep.diag.find? (fun d => d.1 == (pepKey core.val unit.val)) = some d → (result.complete = false ∨ d.2.2.1 + 64 < s.frame ∨
        (result.referee ≠ result.first ∧ result.referee ≠ result.second)) → (d.2.2.2 = 0 → t.pep.diag = s.pep.diag.map (fun x => if x == d then
        (d.1, d.2.1, s.frame, 1) else x)) ∧
      (d.2.2.2 ≠ 0 → t.fget F.PEP_RESOLVE_UNRESOLVED 0 = min (s.fget F.PEP_RESOLVE_UNRESOLVED 0 + 1) (2 ^ F.PEP_RESOLVE_UNRESOLVED.len - 1)))) ∧
  (∀ (core : CoreId) (culprit : Bool) (s : State), ∃ t, exec (.spareCoreCheck core culprit) s = .next t ∧ SameBut [.ev, .fld .CLU_CORES,
      .fld .CORE_STAT, .fld .MOD_GRID_STAT, .slag] s t ∧
    (culprit = false ∨ s.healthy core.val = false ∨ (s.logOf core.val).isSome = true → t = s) ∧
    (culprit = true → s.healthy core.val = true → s.logOf core.val = none → t.healthy core.val = false)) ∧
  (∀ (k : Fin 17) (s : State), ∃ t, exec (.mbPepperSet k) s = .next t ∧ SameBut [.fld .MOD_MB_SUMMARY, .hostOut, .hports, .pep, .slots] s t ∧
    (s.mbRuns k.val 0x0303 = true → SlotDone t k.val 0 ∧ t.pep = { s.pep with share := some (leAt (s.slot k.val).args 0 2) }) ∧
    (s.mbRuns k.val 0x0303 = false → t = s)) ∧
  (∀ (k : Fin 17) (s : State), ∃ t, exec (.mbRedundancySet k) s = .next t ∧ SameBut [.flasks, .fld .MOD_MB_SUMMARY, .hostOut, .hports, .slots] s t ∧
    (s.mbRuns k.val 0x0304 = true → (s.flask (leAt (s.slot k.val).args 0 1)).live = false → SlotFailed t k.val 0x0213 ∧ t.flasks = s.flasks) ∧
    (s.mbRuns k.val 0x0304 = true → (s.flask (leAt (s.slot k.val).args 0 1)).live = true → (s.flask (leAt (s.slot k.val).args 0 1)).active.present =
        true ∨ (s.flask (leAt (s.slot k.val).args 0 1)).staged.present = true → SlotFailed t k.val 0x0210 ∧ t.flasks = s.flasks) ∧
    (s.mbRuns k.val 0x0304 = true → (s.flask (leAt (s.slot k.val).args 0 1)).live = true → (s.flask (leAt (s.slot k.val).args 0 1)).active.present =
        false → (s.flask (leAt (s.slot k.val).args 0 1)).staged.present = false → leAt (s.slot k.val).args 1 1 ≠ 1 → SlotDone t k.val 0 ∧ (t.flask
        (leAt (s.slot k.val).args 0 1)).redundant = false) ∧
    (s.mbRuns k.val 0x0304 = true → (s.flask (leAt (s.slot k.val).args 0 1)).live = true → (s.flask (leAt (s.slot k.val).args 0 1)).active.present =
        false → (s.flask (leAt (s.slot k.val).args 0 1)).staged.present = false → leAt (s.slot k.val).args 1 1 = 1 →
      ((∀ l, l ∈ (s.flask (leAt (s.slot k.val).args 0 1)).cores → pairOf l ∈ (s.flask (leAt (s.slot k.val).args 0 1)).cores ∧ (s.physOf (pairOf
          l)).isSome = true) → SlotDone t k.val 0 ∧ (t.flask (leAt (s.slot k.val).args 0 1)).redundant = true) ∧
      (¬ (∀ l, l ∈ (s.flask (leAt (s.slot k.val).args 0 1)).cores → pairOf l ∈ (s.flask (leAt (s.slot k.val).args 0 1)).cores ∧ (s.physOf (pairOf
          l)).isSome = true) → SlotFailed t k.val 0x0304 ∧ t.flasks = s.flasks)) ∧
    (s.mbRuns k.val 0x0304 = false → t = s)) ∧
  (∀ (core : CoreId) (unit : Fin 76) (tag : Fin 4096) (primary shadow tileTc : Nat) (s : State), ∃ t, exec (.redundancyCompare core unit tag primary
      shadow tileTc) s = .next t ∧ SameBut [.cores, .dbg, .ev, .faults, .flasks, .fld .CORE_MOULD, .fld .CORE_SC, .fld .CORE_SEQ, .fld .CORE_STAT,
      .fld .DBG_HOLD, .fld .LDL_CTX_n, .fld .ME_STAT, .fld .MOD_FAULT_STAT, .fld .MOD_GRID_STAT, .fld .MOD_MB_SUMMARY, .fld .QUEUE_BASE,
      .fld .QUEUE_CTL, .fld .QUEUE_DB, .fld .QUEUE_LEVEL, .fld .QUEUE_STAT, .fld .QUEUE_WM, .fld .SE_STAT, .fld .SPR_STAT, .fld .VU_STAT, .hostOut,
      .hports, .ldls, .mes, .msgs, .queues, .ses, .slots, .vus] s t ∧
    (primary % 2 ^ 64 = shadow % 2 ^ 64 → t = s) ∧
    (s.flaskOf core.val = none → t = s) ∧
    (∀ f, primary % 2 ^ 64 ≠ shadow % 2 ^ 64 → s.flaskOf core.val = some f →
      ((s.flask f).redundant = false ∨ s.flaskIn f 3 = false → t = s) ∧
      ((s.flask f).redundant = true → s.flaskIn f 3 = true → Raised s t 0x0A05 2 ∧ (t.flask f).active = MouldSt.none))) ∧
  (∀ (core : CoreId) (unit : Fin 76) (tag : Fin 4096) (hash tileTc : Nat) (s : State), ∃ t, exec (.redundancyHashTimeout core unit tag hash tileTc)
      s = .next t ∧ SameBut [.cores, .dbg, .ev, .faults, .flasks, .fld .CORE_MOULD, .fld .CORE_SC, .fld .CORE_SEQ, .fld .CORE_STAT, .fld .DBG_HOLD,
      .fld .LDL_CTX_n, .fld .ME_STAT, .fld .MOD_FAULT_STAT, .fld .MOD_GRID_STAT, .fld .MOD_MB_SUMMARY, .fld .QUEUE_BASE, .fld .QUEUE_CTL,
      .fld .QUEUE_DB, .fld .QUEUE_LEVEL, .fld .QUEUE_STAT, .fld .QUEUE_WM, .fld .SE_STAT, .fld .SPR_STAT, .fld .VU_STAT, .freeCtr, .hostOut,
      .hports, .ldls, .mes, .msgs, .queues, .ses, .slots, .vus] s t ∧
    t.freeCtr = s.freeCtr + 1 ∧
    (s.flaskOf core.val = none → t.ev = s.ev ∧ t.flasks = s.flasks) ∧
    (∀ f, s.flaskOf core.val = some f →
      ((s.flask f).redundant = false ∨ s.flaskIn f 3 = false → t.ev = s.ev ∧ t.flasks = s.flasks) ∧
      ((s.flask f).redundant = true → s.flaskIn f 3 = true → Raised s t 0x0A05 2 ∧ (t.flask f).active = MouldSt.none)))

/-- SCAN_OUT and FLASK_DRAIN need a halted flask with a Mould (0x0210), a destination in its region (0x0502) that the seal allows (0x0403) and that
holds the image (0x0305), and end with the image's length; FLASK_DRAIN waits while the flask drains. SCAN_IN refuses, in this order, a source
outside the region, one the seal forbids, a wrong header, a wrong CRC, an image that does not fit the Mould, a flask neither READY nor HALTED, and
an image not at a quiesce point; else the flask is READY to resume. (R248, R249, R250, R251, R252, R482) -/
def Obligations.ScanCommandsAct : Prop :=
  (∀ (k : Fin 17) (s : State), ∃ t, exec (.mbScanOut k) s = .next t ∧ SameBut [.caches, .cores, .dram, .dramPoison, .dramWritten, .fld .CCH_HITS,
      .fld .CCH_MISSES, .fld .MOD_MB_SUMMARY, .fld .SPD_ELASTIC, .hostOut, .hports, .slots, .spd, .spdPoison] s t ∧
    (s.mbRuns k.val 0x010A = true → s.flaskIn (leAt (s.slot k.val).args 0 1) 4 = false ∨ (s.flask (leAt (s.slot k.val).args 0 1)).active.present =
        false → SlotFailed t k.val 0x0210) ∧
    (s.mbRuns k.val 0x010A = true → s.flaskIn (leAt (s.slot k.val).args 0 1) 4 = true → (s.flask (leAt (s.slot k.val).args 0 1)).active.present =
        true → s.rangeOk (leAt (s.slot k.val).args 0 1) (leAt (s.slot k.val).args 8 8) (leAt (s.slot k.val).args 16 8) = false → SlotFailed t k.val
        0x0502) ∧
    (s.mbRuns k.val 0x010A = true → s.flaskIn (leAt (s.slot k.val).args 0 1) 4 = true → (s.flask (leAt (s.slot k.val).args 0 1)).active.present =
        true → s.rangeOk (leAt (s.slot k.val).args 0 1) (leAt (s.slot k.val).args 8 8) (leAt (s.slot k.val).args 16 8) = true → s.sealAllows (leAt
        (s.slot k.val).args 0 1) (leAt (s.slot k.val).args 8 8) (leAt (s.slot k.val).args 16 8) = false → SlotFailed t k.val 0x0403) ∧
    (s.mbRuns k.val 0x010A = true → s.flaskIn (leAt (s.slot k.val).args 0 1) 4 = true → (s.flask (leAt (s.slot k.val).args 0 1)).active.present =
        true → s.rangeOk (leAt (s.slot k.val).args 0 1) (leAt (s.slot k.val).args 8 8) (leAt (s.slot k.val).args 16 8) = true → s.sealAllows (leAt
        (s.slot k.val).args 0 1) (leAt (s.slot k.val).args 8 8) (leAt (s.slot k.val).args 16 8) = true → leAt (s.slot k.val).args 16 8 < s.scanLen
        (leAt (s.slot k.val).args 0 1) (bitOf (leAt (s.slot k.val).args 1 1) 0) → SlotFailed t k.val 0x0305) ∧
    (s.mbRuns k.val 0x010A = true → s.flaskIn (leAt (s.slot k.val).args 0 1) 4 = true → (s.flask (leAt (s.slot k.val).args 0 1)).active.present =
        true → s.rangeOk (leAt (s.slot k.val).args 0 1) (leAt (s.slot k.val).args 8 8) (leAt (s.slot k.val).args 16 8) = true → s.sealAllows (leAt
        (s.slot k.val).args 0 1) (leAt (s.slot k.val).args 8 8) (leAt (s.slot k.val).args 16 8) = true → s.scanLen (leAt (s.slot k.val).args 0 1)
        (bitOf (leAt (s.slot k.val).args 1 1) 0) ≤ leAt (s.slot k.val).args 16 8 → SlotDone t k.val 0 ∧ (t.slot k.val).payload = Mem.wrN [] 0 (natLe
        8 (s.scanLen (leAt (s.slot k.val).args 0 1) (bitOf (leAt (s.slot k.val).args 1 1) 0))) ∧ (t.slot k.val).resultLen = 8) ∧
    (s.mbRuns k.val 0x010A = false → t = s)) ∧
  (∀ (k : Fin 17) (s : State), ∃ t, exec (.mbFlaskDrain k) s = .next t ∧ SameBut [.caches, .cores, .dram, .dramPoison, .dramWritten, .fld .CCH_HITS,
      .fld .CCH_MISSES, .fld .MOD_MB_SUMMARY, .fld .SPD_ELASTIC, .hostOut, .hports, .slots, .spd, .spdPoison] s t ∧
    (s.mbRuns k.val 0x0305 = true → s.flaskIn (leAt (s.slot k.val).args 0 1) 4 = false ∨ (s.flask (leAt (s.slot k.val).args 0 1)).active.present =
        false → SlotFailed t k.val 0x0210) ∧
    (s.mbRuns k.val 0x0305 = true → s.flaskIn (leAt (s.slot k.val).args 0 1) 4 = true → (s.flask (leAt (s.slot k.val).args 0 1)).active.present =
        true → (s.flask (leAt (s.slot k.val).args 0 1)).draining = false ∨ (s.flask (leAt (s.slot k.val).args 0 1)).drained = true → s.rangeOk (leAt
        (s.slot k.val).args 0 1) (leAt (s.slot k.val).args 8 8) (leAt (s.slot k.val).args 16 8) = false → SlotFailed t k.val 0x0502) ∧
    (s.mbRuns k.val 0x0305 = true → s.flaskIn (leAt (s.slot k.val).args 0 1) 4 = true → (s.flask (leAt (s.slot k.val).args 0 1)).active.present =
        true → (s.flask (leAt (s.slot k.val).args 0 1)).draining = false ∨ (s.flask (leAt (s.slot k.val).args 0 1)).drained = true → s.rangeOk (leAt
        (s.slot k.val).args 0 1) (leAt (s.slot k.val).args 8 8) (leAt (s.slot k.val).args 16 8) = true → s.sealAllows (leAt (s.slot k.val).args 0 1)
        (leAt (s.slot k.val).args 8 8) (leAt (s.slot k.val).args 16 8) = false → SlotFailed t k.val 0x0403) ∧
    (s.mbRuns k.val 0x0305 = true → s.flaskIn (leAt (s.slot k.val).args 0 1) 4 = true → (s.flask (leAt (s.slot k.val).args 0 1)).active.present =
        true → (s.flask (leAt (s.slot k.val).args 0 1)).draining = false ∨ (s.flask (leAt (s.slot k.val).args 0 1)).drained = true → s.rangeOk (leAt
        (s.slot k.val).args 0 1) (leAt (s.slot k.val).args 8 8) (leAt (s.slot k.val).args 16 8) = true → s.sealAllows (leAt (s.slot k.val).args 0 1)
        (leAt (s.slot k.val).args 8 8) (leAt (s.slot k.val).args 16 8) = true → leAt (s.slot k.val).args 16 8 < s.scanLen (leAt (s.slot k.val).args
        0 1) true → SlotFailed t k.val 0x0305) ∧
    (s.mbRuns k.val 0x0305 = true → s.flaskIn (leAt (s.slot k.val).args 0 1) 4 = true → (s.flask (leAt (s.slot k.val).args 0 1)).active.present =
        true → (s.flask (leAt (s.slot k.val).args 0 1)).draining = false ∨ (s.flask (leAt (s.slot k.val).args 0 1)).drained = true → s.rangeOk (leAt
        (s.slot k.val).args 0 1) (leAt (s.slot k.val).args 8 8) (leAt (s.slot k.val).args 16 8) = true → s.sealAllows (leAt (s.slot k.val).args 0 1)
        (leAt (s.slot k.val).args 8 8) (leAt (s.slot k.val).args 16 8) = true → s.scanLen (leAt (s.slot k.val).args 0 1) true ≤ leAt (s.slot
        k.val).args 16 8 → SlotDone t k.val 0 ∧ (t.slot k.val).payload = Mem.wrN [] 0 (natLe 8 (s.scanLen (leAt (s.slot k.val).args 0 1) true)) ∧
        (t.slot k.val).resultLen = 8) ∧
    (s.mbRuns k.val 0x0305 = true → s.flaskIn (leAt (s.slot k.val).args 0 1) 4 = true → (s.flask (leAt (s.slot k.val).args 0 1)).active.present =
        true → (s.flask (leAt (s.slot k.val).args 0 1)).draining = true → (s.flask (leAt (s.slot k.val).args 0 1)).drained = false → t = s) ∧
    (s.mbRuns k.val 0x0305 = false → t = s)) ∧
  (∀ (k : Fin 17) (s : State), ∃ t, exec (.mbScanIn k) s = .next t ∧ SameBut [.cores, .ev, .flasks, .fld .CORE_SC, .fld .CORE_SEQ, .fld .CORE_STAT,
      .fld .ME_CTL, .fld .MOD_MB_SUMMARY, .fld .SPD_ELASTIC, .fld .SPD_SCRUB_CTL, .fld .SPR_STAT, .hostOut, .hports, .mes, .msgs, .pour, .queues,
      .ses, .slots, .spd, .spdPoison, .vus] s t ∧
    (s.mbRuns k.val 0x010B = true → s.rangeOk (leAt (s.slot k.val).args 0 1) (leAt (s.slot k.val).args 8 8) (leAt (s.slot k.val).args 16 8) = false
        → SlotFailed t k.val 0x0502 ∧ t.flasks = s.flasks) ∧
    (s.mbRuns k.val 0x010B = true → s.rangeOk (leAt (s.slot k.val).args 0 1) (leAt (s.slot k.val).args 8 8) (leAt (s.slot k.val).args 16 8) = true →
        s.sealAllows (leAt (s.slot k.val).args 0 1) (leAt (s.slot k.val).args 8 8) (leAt (s.slot k.val).args 16 8) = false → SlotFailed t k.val
        0x0403 ∧ t.flasks = s.flasks) ∧
    (s.mbRuns k.val 0x010B = true → ∀ b, b = (s.devRd (leAt (s.slot k.val).args 8 8) (leAt (s.slot k.val).args 16 8)).take (leAt (s.devRd (leAt
        (s.slot k.val).args 8 8) (min (leAt (s.slot k.val).args 16 8) 64)) 0x38 8) → s.rangeOk (leAt (s.slot k.val).args 0 1) (leAt (s.slot
        k.val).args 8 8) (leAt (s.slot k.val).args 16 8) = true → s.sealAllows (leAt (s.slot k.val).args 0 1) (leAt (s.slot k.val).args 8 8) (leAt
        (s.slot k.val).args 16 8) = true →
      (leAt b 0 4 ≠ 0x4E414353 ∨ leAt b 4 2 ≠ 1 → SlotFailed t k.val 0x0140) ∧
      (leAt b 0 4 = 0x4E414353 → leAt b 4 2 = 1 →
        (scanCrcOk b = false → SlotFailed t k.val 0x0141) ∧ (scanCrcOk b = true → scanFits (s.flask (leAt (s.slot k.val).args 0 1)).active b = false
            → SlotFailed t k.val 0x0142) ∧
        (scanCrcOk b = true → scanFits (s.flask (leAt (s.slot k.val).args 0 1)).active b = true → s.flaskIn (leAt (s.slot k.val).args 0 1) 2 = false
            → s.flaskIn (leAt (s.slot k.val).args 0 1) 4 = false → SlotFailed t k.val 0x0210) ∧
        (scanCrcOk b = true → scanFits (s.flask (leAt (s.slot k.val).args 0 1)).active b = true → s.flaskIn (leAt (s.slot k.val).args 0 1) 2 = true
            ∨ s.flaskIn (leAt (s.slot k.val).args 0 1) 4 = true → bitOf (leAt b 6 2) 0 = false → SlotFailed t k.val 0x0211) ∧
        (scanCrcOk b = true → scanFits (s.flask (leAt (s.slot k.val).args 0 1)).active b = true → s.flaskIn (leAt (s.slot k.val).args 0 1) 2 = true
            ∨ s.flaskIn (leAt (s.slot k.val).args 0 1) 4 = true → bitOf (leAt b 6 2) 0 = true →
          SlotDone t k.val 0 ∧ (t.flask (leAt (s.slot k.val).args 0 1)).resumed = true ∧ (t.flask (leAt (s.slot k.val).args 0 1)).halt = none ∧
              (t.flask (leAt (s.slot k.val).args 0 1)).active = (s.flask (leAt (s.slot k.val).args 0 1)).active ∧ ∀ p, p ∈ s.mouldPhys (leAt (s.slot
              k.val).args 0 1) → t.coreState p = 2))) ∧
    (s.mbRuns k.val 0x010B = false → t = s))

/-- An input sample sets VIN, IIN and PIN, and outside 36 to 62 V takes the compute rails off with a FATAL event. A power tile that fails leaves
service with the flag of its cause, and a spare that comes up serves its cluster. A voltage sample below the floor is a breach, counted. A riser
notice sets the level of its cluster. A slew request is granted when it is first and both buckets hold it, and otherwise waits. A loss of
auxiliary power is FATAL. (R496, R498, R499, R502, R503, R507, R509) -/
def Obligations.PowerDeliveryCommandsAct : Prop :=
  (∀ (mv : Int) (ta watts tc : Nat) (s : State), -1000 ≤ mv → mv ≤ 65000 → ∃ t, exec (.inputSample mv ta watts tc) s = .next t ∧ SameBut [.dbg, .ev,
      .faults, .flasks, .fld .CORE_STAT, .fld .DBG_HOLD, .fld .MOD_FAULT_STAT, .fld .MOD_MB_SUMMARY, .fld .PWR_CLUSTER_c, .fld .PWR_INPUT,
      .fld .PWR_TILE_t, .fld .SPR_STAT, .fld .TC_NOW, .hostOut, .hports, .msgs, .power, .slots, .svc] s t ∧
    t.tc = s.clockAt tc ∧
    t.fget F.PWR_INPUT_VIN 0 = mv.toNat / 10 % 2 ^ F.PWR_INPUT_VIN.len ∧ t.fget F.PWR_INPUT_IIN 0 = ta % 2 ^ F.PWR_INPUT_IIN.len ∧ t.fget
        F.PWR_INPUT_PIN 0 = watts % 2 ^ F.PWR_INPUT_PIN.len ∧
    t.power.lowSince = (if mv.toNat < 40000 then some (s.power.lowSince.getD t.tc) else none) ∧
    (s.power.fault = false → mv < 36000 ∨ 62000 < mv → t.power.fault = true ∧ t.svc.thermTrip = true ∧ Raised s t 0x0802 3 ∧ ∀ c, c < 20 → t.fget
        F.PWR_CLUSTER_c_SETPOINT c = 0) ∧
    (40000 ≤ mv → mv ≤ 62000 → t.power.fault = s.power.fault ∧ t.ev = s.ev)) ∧
  (∀ (s : State), ∃ t, exec .pwrAuxFault s = .next t ∧ SameBut [.dbg, .ev, .faults, .flasks, .fld .CORE_STAT, .fld .DBG_HOLD, .fld .MOD_FAULT_STAT,
      .fld .MOD_MB_SUMMARY, .fld .SPR_STAT, .hostOut, .hports, .msgs, .slots] s t ∧
    Raised s t 0x0803 3) ∧
  (∀ (tile : Fin 256) (cause : TileCause) (s : State), ∃ t, exec (.tileFault tile cause) s = .next t ∧ SameBut [.cores, .dbg, .ev, .faults, .flasks,
      .fld .CLU_CORES, .fld .CORE_MOULD, .fld .CORE_SC, .fld .CORE_SEQ, .fld .CORE_STAT, .fld .DBG_HOLD, .fld .LDL_CTX_n, .fld .ME_STAT,
      .fld .MOD_BOOT_ERR, .fld .MOD_FAULT_STAT, .fld .MOD_GRID_STAT, .fld .MOD_MB_SUMMARY, .fld .MOD_ROW_MAP_r, .fld .PWR_CLUSTER_c,
      .fld .PWR_TILE_t, .fld .QUEUE_BASE, .fld .QUEUE_CTL, .fld .QUEUE_DB, .fld .QUEUE_LEVEL, .fld .QUEUE_STAT, .fld .QUEUE_WM, .fld .SE_STAT,
      .fld .SPD_ELASTIC, .fld .SPD_STAT, .fld .SPR_STAT, .fld .VU_STAT, .hostOut, .hports, .ldls, .mes, .msgs, .power, .queues, .ses, .slag, .slots,
      .vus] s t ∧
    (s.fget F.PWR_TILE_t_STATE tile.val = 0 ∨ s.fget F.PWR_TILE_t_STATE tile.val = 3 → t = s) ∧
    (s.fget F.PWR_TILE_t_STATE tile.val ≠ 0 → s.fget F.PWR_TILE_t_STATE tile.val ≠ 3 → t.fget F.PWR_TILE_t_STATE tile.val = 3 ∧ t.fget
        F.PWR_TILE_t_SERVES tile.val = 0xFF ∧ (cause = .overcurrent → t.fget F.PWR_TILE_t_OC tile.val = 1) ∧ (cause = .overtemperature → t.fget
        F.PWR_TILE_t_OT tile.val = 1) ∧ (cause = .wear → t.fget F.PWR_TILE_t_WEAR tile.val = 1))) ∧
  (∀ (tile : Fin 256) (ok : Bool) (s : State), ∃ t, exec (.tileSpared tile ok) s = .next t ∧ SameBut [.ev, .faults, .fld .MOD_FAULT_STAT,
      .fld .MOD_MB_SUMMARY, .fld .PWR_CLUSTER_c, .fld .PWR_TILE_t, .hostOut, .hports, .msgs, .power, .slag, .slots] s t ∧
    (s.power.replacing.find? (fun e => e.1 == tile.val) = none ∨ s.fget F.PWR_TILE_t_STATE tile.val ≠ 4 → t = s) ∧
    (∀ e, s.power.replacing.find? (fun e => e.1 == tile.val) = some e → s.fget F.PWR_TILE_t_STATE tile.val = 4 →
      (ok = true → t.fget F.PWR_TILE_t_STATE tile.val = 1 ∧ t.fget F.PWR_CLUSTER_c_TILES_IN (s.fget F.PWR_TILE_t_SERVES tile.val) = (s.fget
          F.PWR_CLUSTER_c_TILES_IN (s.fget F.PWR_TILE_t_SERVES tile.val) + 1) % 2 ^ F.PWR_CLUSTER_c_TILES_IN.len) ∧
      (ok = false → t.fget F.PWR_TILE_t_STATE tile.val = 3 ∧ t.fget F.PWR_TILE_t_SERVES tile.val = 0xFF))) ∧
  (∀ (cluster : ClusterId) (sensor : Fin 32) (mv : Nat) (bubbleEdge : Bool) (tc : Nat) (s : State), ∃ t, exec (.vminSample cluster sensor mv
      bubbleEdge tc) s = .next t ∧ SameBut [.cores, .dbg, .ev, .faults, .flasks, .fld .CORE_MOULD, .fld .CORE_SC, .fld .CORE_SEQ, .fld .CORE_STAT,
      .fld .DBG_HOLD, .fld .LDL_CTX_n, .fld .ME_STAT, .fld .MOD_FAULT_STAT, .fld .MOD_GRID_STAT, .fld .MOD_MB_SUMMARY, .fld .PWR_CLUSTER_c,
      .fld .PWR_VMIN_STAT, .fld .QUEUE_BASE, .fld .QUEUE_CTL, .fld .QUEUE_DB, .fld .QUEUE_LEVEL, .fld .QUEUE_STAT, .fld .QUEUE_WM, .fld .SE_STAT,
      .fld .SPR_STAT, .fld .TC_NOW, .fld .VU_STAT, .hostOut, .hports, .ldls, .mes, .msgs, .power, .queues, .ses, .slots, .vus] s t ∧
    t.tc = s.clockAt tc ∧
    (mv % 65536 < pstepMv s.pstep - 70 → t.fget F.PWR_VMIN_STAT_BREACH_SEEN 0 = 1 ∧ t.fget F.PWR_VMIN_STAT_BREACHES 0 = min (s.fget
        F.PWR_VMIN_STAT_BREACHES 0 + 1) (2 ^ F.PWR_VMIN_STAT_BREACHES.len - 1)) ∧
    (pstepMv s.pstep - 70 ≤ mv % 65536 → t.fget F.PWR_VMIN_STAT_BREACH_SEEN 0 = s.fget F.PWR_VMIN_STAT_BREACH_SEEN 0 ∧ t.fget
        F.PWR_VMIN_STAT_BREACHES 0 = s.fget F.PWR_VMIN_STAT_BREACHES 0 ∧ t.flasks = s.flasks)) ∧
  (∀ (cluster : ClusterId) (level : Fin 1024) (s : State), ∃ t, exec (.riserNotice cluster level) s = .next t ∧ SameBut [.power] s t ∧
    (assoc (0, 0) t.power.riser cluster.val).1 = level.val ∧ t.power.refillAt = max s.tc s.power.refillAt) ∧
  (∀ (cluster : ClusterId) (amps tc : Nat) (s : State), ∃ t, exec (.bucketGrant cluster amps tc) s = .next t ∧ SameBut [.fld .PWR_SLEW,
      .fld .TC_NOW, .power] s t ∧
    t.tc = s.clockAt tc ∧
    (∀ p, p = s.power.refill (s.clockAt tc) → p.waiting.find? (fun w => w.1 == cluster.val && w.2.1 == amps * 1000) = none →
      (p.first cluster.val = none → p.holds cluster.val (amps * 1000) = true → t.power = p.debit cluster.val (amps * 1000)) ∧
      (p.first cluster.val ≠ none ∨ p.holds cluster.val (amps * 1000) = false → t.power =
          { p with waiting := p.waiting ++ [(cluster.val, amps * 1000, t.tc)] } ∧ t.fget F.PWR_SLEW_WAITS 0 = min (s.fget F.PWR_SLEW_WAITS 0 + 1) (2
          ^ F.PWR_SLEW_WAITS.len - 1))) ∧
    (∀ p w, p = s.power.refill (s.clockAt tc) → p.waiting.find? (fun w => w.1 == cluster.val && w.2.1 == amps * 1000) = some w →
      (p.first cluster.val = some w → p.holds cluster.val (amps * 1000) = true → t.power = PowerSt.debit { p with waiting := p.waiting.erase w }
          cluster.val (amps * 1000)) ∧
      (p.first cluster.val ≠ some w ∨ p.holds cluster.val (amps * 1000) = false → t.power = p)))

/-- At a window boundary the timing master sends ARM with the next sequence number. The end of a decision window sets DERATE and the requirement of
every temper, 63 for one that is not held, unless a debug hold lies in it. A module's telemetry record joins its own with its children's, goes to
its parent, and completes CAP_SET. A child's record is stored unless it is late. The hottest reading is TJ_MAX; at 115 C the module trips. Energy
counters grow by the accounts' shares. PSTEP_SET is the master's; CAP_SET sets the cap; ENERGY_READ returns a counter, to a tenant in steps of 0.1
J. (R81, R86, R511, R512, R513, R514, R515, R516, R517, R518, R520, R522) -/
def Obligations.PowerCappingCommandsAct : Prop :=
  (∀ (tc : Nat) (s : State), ∃ t, exec (.armSend tc) s = .next t ∧ SameBut [.dec, .fld .CLK_ARM, .fld .CLK_ARM_TARGET, .fld .PWR_CLUSTER_c,
      .fld .TC_NOW, .msgs] s t ∧
    t.tc = s.clockAt tc ∧
    ((s.isMaster && s.gclk.running && s.frame % 8 == 0 && !s.flag F.CLK_ARM_VALID 0) = false → SameBut [.fld .TC_NOW] s t) ∧
    ((s.isMaster && s.gclk.running && s.frame % 8 == 0 && !s.flag F.CLK_ARM_VALID 0) = true →
      t.fget F.CLK_ARM_VALID 0 = 1 ∧ t.fget F.CLK_ARM_SEQ 0 = s.dec.nextSeq % 2 ^ F.CLK_ARM_SEQ.len ∧ t.dec.nextSeq = (s.dec.nextSeq + 1) % 65536 ∧
      t.fget F.CLK_ARM_TARGET_T 0 = (s.fget F.TC_FRAME_TC_TC 0 + frameNs s.pstep 8) % 2 ^ F.CLK_ARM_TARGET_T.len)) ∧
  (∀ (watts bubbleWatts : Nat) (currents : List (Nat × Nat)) (tc : Nat) (s : State), ∃ t, exec (.decisionWindowEnd watts bubbleWatts currents tc) s
      = .next t ∧ SameBut [.ev, .fld .PWR_BUDGET, .fld .PWR_CAP, .fld .TC_NOW, .power] s t ∧
    t.tc = s.clockAt tc ∧
    (∀ x, SameBut [.fld .TC_NOW] s x → x.tc = s.clockAt tc → x.heldWindow = true →
      t.power.window = (if s.frame % 8 = 0 then s.frame / 8 - 1 else s.frame / 8) ∧ t.fget F.PWR_BUDGET_DERATE 0 = s.fget F.PWR_BUDGET_DERATE 0) ∧
    (∀ x, SameBut [.fld .TC_NOW] s x → x.tc = s.clockAt tc → x.heldWindow = false →
      t.fget F.PWR_BUDGET_DERATE 0 = s.derate * 256 / 100 % 2 ^ F.PWR_BUDGET_DERATE.len ∧
      (1 ≤ s.fget F.CLK_PSTEP_BUBBLES 0 → t.fget F.PWR_CAP_BUBBLE_W 0 = bubbleWatts % 2 ^ F.PWR_CAP_BUBBLE_W.len) ∧
      ∀ n, n < 4 → s.temperHeld n = false → t.fget (reqField n) 0 = 63)) ∧
  (∀ (tc : Nat) (s : State), ∃ t, exec (.telemetrySend tc) s = .next t ∧ SameBut [.ev, .fld .MOD_MB_SUMMARY, .fld .PWR_BUDGET, .fld .TC_NOW,
      .hostOut, .hports, .msgs, .power, .slots] s t ∧
    t.tc = s.clockAt tc ∧
    t.power.record = some ((s.pour.children.map (fun p => (p, s.childTelem p))).foldl (fun a c => a.join (s.fget F.CLK_PSTEP_TEMPER 0) c.2.1)
        s.ownTelem) ∧
    ((s.pour.children.any (fun p => (s.childTelem p).2)) = true → t.fget F.PWR_BUDGET_STALE 0 = 1) ∧
    (s.isMaster = true → t.msgs = s.msgs) ∧
    (s.isMaster = false → Sent s t toParent .telemetry (((s.pour.children.map (fun p => (p, s.childTelem p))).foldl (fun a c => a.join (s.fget
        F.CLK_PSTEP_TEMPER 0) c.2.1) s.ownTelem).bytes.map BitVec.toNat)) ∧
    (∀ k, k < 17 → s.mbRuns k 0x0402 = true → SlotDone t k 0)) ∧
  (∀ (port : PortId) (bytes : List Byte) (s : State), ∃ t, exec (.telemetryReceive port bytes) s = .next t ∧ SameBut [.fld .PWR_TELEM_IN_p] s t ∧
    (s.pour.children.elem port.val = false → t = s) ∧
    (s.pour.children.elem port.val = true → Telem.parse bytes = none ∨ s.power.record = none → ∀ w, w < 8 → t.fget F.PWR_TELEM_IN_p_RECORD (port.val
        * 8 + w) = leAt bytes (8 * w) 8 % 2 ^ F.PWR_TELEM_IN_p_RECORD.len) ∧
    (∀ r o, s.pour.children.elem port.val = true → Telem.parse bytes = some r → s.power.record = some o →
      ((o.seq + 65536 - r.seq) % 65536 < 32768 → t = s) ∧ (32768 ≤ (o.seq + 65536 - r.seq) % 65536 → ∀ w, w < 8 → t.fget F.PWR_TELEM_IN_p_RECORD
          (port.val * 8 + w) = leAt bytes (8 * w) 8 % 2 ^ F.PWR_TELEM_IN_p_RECORD.len))) ∧
  (∀ (readings : List (Nat × Nat)) (s : State), ∃ t, exec (.thermalSample readings) s = .next t ∧ SameBut [.dbg, .ev, .faults, .flasks,
      .fld .CLU_THERM, .fld .CORE_STAT, .fld .DBG_HOLD, .fld .MOD_FAULT_STAT, .fld .MOD_MB_SUMMARY, .fld .PWR_CLUSTER_c, .fld .PWR_THERM,
      .fld .SPR_STAT, .hostOut, .hports, .msgs, .slots, .svc] s t ∧
    (∀ x, x = hottest (readings.filter (fun x => decide (x.1 < 180) && decide (x.2 < 256))) →
      t.fget F.PWR_THERM_TJ_MAX 0 = x.2 % 2 ^ F.PWR_THERM_TJ_MAX.len ∧ t.fget F.PWR_THERM_TJ_SOURCE 0 = x.1 % 2 ^ F.PWR_THERM_TJ_SOURCE.len ∧
      (105 ≤ x.2 → t.fget F.PWR_THERM_HIGH 0 = 1) ∧ (x.2 < 105 → t.ev = s.ev ∧ t.flasks = s.flasks) ∧
      (115 ≤ x.2 → t.fget F.PWR_THERM_TRIPPED 0 = 1 ∧ (s.fget F.PWR_THERM_TRIPPED 0 = 0 → t.svc.thermTrip = true)))) ∧
  (∀ (sample : EnergySample) (tc : Nat) (s : State), ∃ t, exec (.energyAccount sample tc) s = .next t ∧ SameBut [.fld .PWR_ENERGY_n, .fld .TC_NOW,
      .power] s t ∧
    t.tc = s.clockAt tc ∧
    (∀ f, f < 16 → t.fget F.PWR_ENERGY_n_UJ f = (s.fget F.PWR_ENERGY_n_UJ f + s.energyOf sample f) % 2 ^ F.PWR_ENERGY_n_UJ.len)) ∧
  (∀ (k : Fin 17) (fail : List Nat) (s : State), ∃ t, exec (.mbPstepSet k fail) s = .next t ∧ SameBut [.cores, .dbg, .dec, .ev, .faults, .flasks,
      .fld .CLK_PSTEP, .fld .CLK_STOP_STAT, .fld .CLU_CORES, .fld .CORE_MOULD, .fld .CORE_SC, .fld .CORE_SEQ, .fld .CORE_STAT, .fld .DBG_HOLD,
      .fld .LDL_CTX_n, .fld .ME_STAT, .fld .MOD_BOOT_ERR, .fld .MOD_FAULT_STAT, .fld .MOD_GRID_STAT, .fld .MOD_MB_SUMMARY, .fld .MOD_ROW_MAP_r,
      .fld .PWR_CLUSTER_c, .fld .PWR_RISER_LEAD, .fld .QUEUE_BASE, .fld .QUEUE_CTL, .fld .QUEUE_DB, .fld .QUEUE_LEVEL, .fld .QUEUE_STAT,
      .fld .QUEUE_WM, .fld .SE_STAT, .fld .SPD_ELASTIC, .fld .SPD_STAT, .fld .SPR_STAT, .fld .VU_STAT, .hostOut, .hports, .ldls, .mes, .msgs,
      .queues, .ses, .slag, .slots, .vus] s t ∧
    (s.mbRuns k.val 0x0401 = true → ∀ p, s.dec.request = some (k.val, p) → t = s) ∧
    (s.mbRuns k.val 0x0401 = true → s.dec.request = none → s.dec.carried = none → s.isMaster = false → SlotFailed t k.val 0x0209) ∧
    (s.mbRuns k.val 0x0401 = true → ∀ j p, s.dec.request = some (j, p) → j ≠ k.val → s.isMaster = true → SlotFailed t k.val 0x0208) ∧
    (s.mbRuns k.val 0x0401 = true → s.dec.request = none → s.dec.carried = none → s.isMaster = true → bandOf (leAt (s.slot k.val).args 0 1) ≠ bandOf
        s.pstep → (if s.pourTag = 0 then s.running ≠ [] else s.pourRuns = true) → SlotFailed t k.val 0x020A) ∧
    (s.mbRuns k.val 0x0401 = true → s.dec.request = none → s.dec.carried = none → s.isMaster = true → bandOf (leAt (s.slot k.val).args 0 1) ≠ bandOf
        s.pstep → s.pourTag = 0 → s.running = [] → fail = [] → SlotDone t k.val (leAt (s.slot k.val).args 0 1)) ∧
    (s.mbRuns k.val 0x0401 = true → s.dec.request = none → s.dec.carried = none → s.isMaster = true → bandOf (leAt (s.slot k.val).args 0 1) = bandOf
        s.pstep → t.dec.request = some (k.val, leAt (s.slot k.val).args 0 1)) ∧
    (s.mbRuns k.val 0x0401 = false → t = s)) ∧
  (∀ (k : Fin 17) (s : State), ∃ t, exec (.mbCapSet k) s = .next t ∧ SameBut [.fld .PWR_CAP] s t ∧
    (s.mbRuns k.val 0x0402 = true → t.fget F.PWR_CAP_CAP_W 0 = leAt (s.slot k.val).args 0 4 % 2 ^ F.PWR_CAP_CAP_W.len) ∧
    (s.mbRuns k.val 0x0402 = false → t = s)) ∧
  (∀ (k : Fin 17) (s : State), ∃ t, exec (.mbEnergyRead k) s = .next t ∧ SameBut [.fld .MOD_MB_SUMMARY, .hostOut, .hports, .slots] s t ∧
    (s.mbRuns k.val 0x0404 = true → SlotDone t k.val 0 ∧ (t.slot k.val).resultLen = 16) ∧
    (s.mbRuns k.val 0x0404 = true → (k.val = 16 ∨ bitOf (s.fget F.SAF_SLOT_ROLE_TENANT 0) k.val = false → (t.slot k.val).payload = Mem.wrN [] 0
        (natLe 8 (s.fget F.PWR_ENERGY_n_UJ (leAt (s.slot k.val).args 0 1)) ++ natLe 8 s.tc))) ∧
    (s.mbRuns k.val 0x0404 = true → k.val < 16 → bitOf (s.fget F.SAF_SLOT_ROLE_TENANT 0) k.val = true → (t.slot k.val).payload = Mem.wrN [] 0 (natLe
        8 (s.power.snap.getD (leAt (s.slot k.val).args 0 1) 0 / 100000 * 100000) ++ natLe 8 s.power.snapTc)) ∧
    (s.mbRuns k.val 0x0404 = false → t = s))

/-- PSTATE_SET fails on a state out of range, is done for the state the module is in, begins an exit for a lighter one, and for a deeper one fails
where the entry is refused, is abandoned with 0x0207 where a wake latch is set, and else commits. An entry ends when every core domain is off and
an exit when every one is on: the state is the target, and an exit copies the latches to LAST and clears them. A wake trigger sets its latch while
its source is enabled and armed. PST_TICKS follows the wake timer while the crystal runs. D3hot resets the port's host state, and a return to D0
does so again. (R537, R539, R542, R543, R544, R546, R547, R548, R549, R550) -/
def Obligations.PowerStateCommandsAct : Prop :=
  (∀ (k : Fin 17) (tc : Nat) (s : State), ∃ t, exec (.mbPstateSet k tc) s = .next t ∧ SameBut [.caches, .cores, .ev, .fld .MOD_MB_SUMMARY,
      .fld .PST_CORE_PWR_r, .fld .PST_RAMP, .fld .PST_STAT, .fld .SPD_ELASTIC, .fld .TC_NOW, .hostOut, .hports, .pst, .slots, .spd, .spdPoison] s t
      ∧
    t.tc = s.clockAt tc ∧
    (s.mbRuns k.val 0x0403 = true → (s.slot k.val).phase ≠ 0 ∨ s.phase ≠ 0 → SameBut [.fld .TC_NOW] s t) ∧
    (s.mbRuns k.val 0x0403 = true → (s.slot k.val).phase = 0 → s.phase = 0 → 4 < leAt (s.slot k.val).args 0 1 → SlotFailed t k.val 0x0103) ∧
    (s.mbRuns k.val 0x0403 = true → (s.slot k.val).phase = 0 → s.phase = 0 → leAt (s.slot k.val).args 0 1 ≤ 4 → leAt (s.slot k.val).args 0 1 =
        s.pstate → SlotDone t k.val s.pstate ∧ t.pstate = s.pstate) ∧
    (s.mbRuns k.val 0x0403 = true → (s.slot k.val).phase = 0 → s.phase = 0 → leAt (s.slot k.val).args 0 1 ≤ 4 → leAt (s.slot k.val).args 0 1 <
        s.pstate → leAt (s.slot k.val).args 0 1 ≤ 1 → t.phase = 2 ∧ t.fget F.PST_STAT_TARGET 0 = leAt (s.slot k.val).args 0 1) ∧
    (s.mbRuns k.val 0x0403 = true → (s.slot k.val).phase = 0 → s.phase = 0 → leAt (s.slot k.val).args 0 1 ≤ 4 → leAt (s.slot k.val).args 0 1 <
        s.pstate → 1 < leAt (s.slot k.val).args 0 1 → SlotFailed t k.val 0x0210) ∧
    (s.mbRuns k.val 0x0403 = true → (s.slot k.val).phase = 0 → s.phase = 0 → leAt (s.slot k.val).args 0 1 ≤ 4 → s.pstate < leAt (s.slot k.val).args
        0 1 → s.entryRefused (leAt (s.slot k.val).args 0 1) = true → SlotFailed t k.val 0x0210) ∧
    (s.mbRuns k.val 0x0403 = true → (s.slot k.val).phase = 0 → s.phase = 0 → leAt (s.slot k.val).args 0 1 ≤ 4 → s.pstate < leAt (s.slot k.val).args
        0 1 → s.entryRefused (leAt (s.slot k.val).args 0 1) = false → s.latches ≠ 0 → SlotFailed t k.val 0x0207 ∧ t.fget F.PST_STAT_ABANDONED 0 = 1
        ∧ Raised s t 0x080D 0 ∧ t.latches = s.latches ∧ t.pstate = s.pstate) ∧
    (s.mbRuns k.val 0x0403 = true → (s.slot k.val).phase = 0 → s.phase = 0 → leAt (s.slot k.val).args 0 1 ≤ 4 → s.pstate < leAt (s.slot k.val).args
        0 1 → s.entryRefused (leAt (s.slot k.val).args 0 1) = false → s.latches = 0 → t.phase = 1 ∧ t.fget F.PST_STAT_TARGET 0 = leAt (s.slot
        k.val).args 0 1 ∧ (leAt (s.slot k.val).args 0 1 = 4 → SlotDone t k.val 4)) ∧
    (s.mbRuns k.val 0x0403 = false → SameBut [.fld .TC_NOW] s t)) ∧
  (∀ (tc : Nat) (s : State), ∃ t, exec (.pstateEntryComplete tc) s = .next t ∧ SameBut [.align, .boot, .caches, .cores, .ctl, .dbg, .dec, .dram,
      .dramPoison, .dramWritten, .ev, .faults, .flasks, .fld .CORE_MOULD, .fld .CORE_QSTAT, .fld .CORE_SC, .fld .CORE_SEQ, .fld .CORE_SEQ_ERR,
      .fld .CORE_STAT, .fld .LDL_CTX_n, .fld .ME_CTL, .fld .ME_ERR, .fld .ME_FLAGS, .fld .ME_GATED, .fld .ME_HASH, .fld .ME_LAST_TAG,
      .fld .ME_STALL, .fld .ME_STAT, .fld .ME_TILES, .fld .MOD_FAULT_STAT, .fld .MOD_MB_SUMMARY, .fld .MOD_POUR_ID, .fld .PST_CORE_PWR_r,
      .fld .PST_PAD_HOLD, .fld .PST_RAMP, .fld .PST_STAT, .fld .QUEUE_BASE, .fld .QUEUE_CTL, .fld .QUEUE_DB, .fld .QUEUE_LEVEL, .fld .QUEUE_STAT,
      .fld .QUEUE_WM, .fld .RUN_ERR, .fld .RUN_STAT, .fld .SAF_STAT, .fld .SE_ERR, .fld .SE_FLAGS, .fld .SE_HASH, .fld .SE_SKIPPED, .fld .SE_STALL,
      .fld .SE_STAT, .fld .SE_TILES, .fld .SPD_CONFLICT, .fld .SPD_ECC, .fld .SPD_ECC_ADDR, .fld .SPD_ELASTIC, .fld .SPD_SCRUB_CTL,
      .fld .SPD_SCRUB_STAT, .fld .SPR_ELASTIC, .fld .SPR_ERR, .fld .SPR_SLIP, .fld .SPR_SLIP_INFO, .fld .TC_ALIGN_STAT, .fld .TC_NOW, .fld .VU_ERR,
      .fld .VU_FLAGS, .fld .VU_SAMP_COUNT, .fld .VU_SAMP_LAST, .fld .VU_SAMP_STALL, .fld .VU_STAT, .flds, .gclk, .hostOut, .hports, .ldls, .mes,
      .msgs, .msix, .pep, .ports, .pour, .power, .pst, .queues, .refreshOnly, .refreshed, .rings, .saf, .seam, .ses, .slag, .slots, .spd,
      .spdPoison, .svc, .vus] s t ∧
    ((s.phase == 1 && (decide (s.fget F.PST_STAT_TARGET 0 < 2) || (List.range 160).all (fun p => s.domain p == 0 || s.domain p == 6))) = false →
        SameBut [.fld .TC_NOW] s t) ∧
    ((s.phase == 1 && (decide (s.fget F.PST_STAT_TARGET 0 < 2) || (List.range 160).all (fun p => s.domain p == 0 || s.domain p == 6))) = true →
        t.pstate = s.fget F.PST_STAT_TARGET 0 % 2 ^ F.PST_STAT_STATE.len ∧ (t.latches = 0 → t.phase = 0))) ∧
  (∀ (tc : Nat) (s : State), ∃ t, exec (.pstateExit tc) s = .next t ∧ SameBut [.ev, .fld .MOD_MB_SUMMARY, .fld .PST_PAD_HOLD, .fld .PST_STAT,
      .fld .PST_WAKE_STAT, .fld .TC_NOW, .hostOut, .hports, .mes, .ports, .pst, .ses, .slots, .vus] s t ∧
    t.tc = s.clockAt tc ∧
    ((s.phase == 2 && decide (1 ≤ s.pstate) && decide (s.pstate ≤ 3) && (decide (s.pstate < 2) || ((List.range 160).filter s.coreServes).all (fun p
        => s.domain p == 3))) = false → SameBut [.fld .TC_NOW] s t) ∧
    ((s.phase == 2 && decide (1 ≤ s.pstate) && decide (s.pstate ≤ 3) && (decide (s.pstate < 2) || ((List.range 160).filter s.coreServes).all (fun p
        => s.domain p == 3))) = true → t.pstate = s.fget F.PST_STAT_TARGET 0 % 2 ^ F.PST_STAT_STATE.len ∧ t.phase = 0 ∧
      t.fget F.PST_WAKE_STAT_LAST 0 = s.latches % 2 ^ F.PST_WAKE_STAT_LAST.len ∧ t.latches = 0 ∧ t.fget F.PST_WAKE_STAT_EXITS 0 = (s.fget
          F.PST_WAKE_STAT_EXITS 0 + 1) % 2 ^ F.PST_WAKE_STAT_EXITS.len)) ∧
  (∀ (signal : Fin 5) (unit : Nat) (other retryOk : Bool) (s : State), ∃ t, exec (.pstReadyTimeout signal unit other retryOk) s = .next t ∧ SameBut
      [.cores, .dbg, .ev, .faults, .flasks, .fld .CLK_STOP_STAT, .fld .CLU_CORES, .fld .CORE_MOULD, .fld .CORE_SC, .fld .CORE_SEQ, .fld .CORE_STAT,
      .fld .DBG_HOLD, .fld .LDL_CTX_n, .fld .ME_STAT, .fld .MOD_BOOT_ERR, .fld .MOD_FAULT_STAT, .fld .MOD_GRID_STAT, .fld .MOD_MB_SUMMARY,
      .fld .MOD_ROW_MAP_r, .fld .PST_CORE_PWR_r, .fld .PST_RAMP, .fld .PST_STAT, .fld .QUEUE_BASE, .fld .QUEUE_CTL, .fld .QUEUE_DB,
      .fld .QUEUE_LEVEL, .fld .QUEUE_STAT, .fld .QUEUE_WM, .fld .SE_STAT, .fld .SPD_ELASTIC, .fld .SPD_STAT, .fld .SPR_STAT, .fld .VU_STAT,
      .hostOut, .hports, .ldls, .mes, .msgs, .pst, .queues, .ses, .slag, .slots, .vus] s t ∧
    (s.phase ≠ 2 → t = s) ∧
    (s.phase = 2 → t.fget F.PST_STAT_READY_FAULT 0 = 1)) ∧
  (∀ (s : State), ∃ t, exec .wakePin s = .next t ∧ SameBut [.fld .PST_CORE_PWR_r, .fld .PST_RAMP, .fld .PST_STAT, .fld .PST_WAKE_STAT, .pst] s t ∧
    (bitOf (s.fget F.PST_WAKE_EN_EN 0) 0 = false ∨ s.armed 0 = false → t = s) ∧
    (bitOf (s.fget F.PST_WAKE_EN_EN 0) 0 = true → s.armed 0 = true → bitOf (t.fget F.PST_WAKE_STAT_LATCH 0) 0 = true)) ∧
  (∀ (ticks : Nat) (s : State), ∃ t, exec (.wakeTimer ticks) s = .next t ∧ SameBut [.fld .PST_CORE_PWR_r, .fld .PST_RAMP, .fld .PST_STAT,
      .fld .PST_TICKS, .fld .PST_WAKE_STAT, .pst] s t ∧
    (s.fget F.PST_STAT_XTAL_FAIL 0 = 1 → t = s) ∧
    (s.fget F.PST_STAT_XTAL_FAIL 0 = 0 → t.fget F.PST_TICKS_COUNT 0 = max (s.fget F.PST_TICKS_COUNT 0) (ticks % 2 ^ 48) % 2 ^
        F.PST_TICKS_COUNT.len)) ∧
  (∀ (address : Fin 128) (s : State), ∃ t, exec (.wakeI3c address) s = .next t ∧ SameBut [.fld .PST_CORE_PWR_r, .fld .PST_RAMP, .fld .PST_STAT,
      .fld .PST_WAKE_STAT, .pst] s t ∧
    (address.val ≠ 0x48 + s.svc.sbAddr ∨ bitOf (s.fget F.PST_WAKE_EN_EN 0) 2 = false ∨ s.armed 2 = false → t = s) ∧
    (address.val = 0x48 + s.svc.sbAddr → bitOf (s.fget F.PST_WAKE_EN_EN 0) 2 = true → s.armed 2 = true → bitOf (t.fget F.PST_WAKE_STAT_LATCH 0) 2 =
        true)) ∧
  (∀ (port : HostId) (s : State), ∃ t, exec (.wakePerst port) s = .next t ∧ SameBut [.fld .PST_CORE_PWR_r, .fld .PST_RAMP, .fld .PST_STAT,
      .fld .PST_WAKE_STAT, .pst] s t ∧
    (bitOf (s.fget F.PST_WAKE_EN_EN 0) (3 + port.val) = false ∨ s.armed (3 + port.val) = false → t = s) ∧
    (bitOf (s.fget F.PST_WAKE_EN_EN 0) (3 + port.val) = true → s.armed (3 + port.val) = true → bitOf (t.fget F.PST_WAKE_STAT_LATCH 0) (3 + port.val)
        = true)) ∧
  (∀ (wake : Bool) (s : State), ∃ t, exec (.wakeHost wake) s = .next t ∧ SameBut [.fld .PST_CORE_PWR_r, .fld .PST_RAMP, .fld .PST_STAT,
      .fld .PST_WAKE_STAT, .pst] s t ∧
    (wake = false ∨ bitOf (s.fget F.PST_WAKE_EN_EN 0) 5 = false ∨ s.armed 5 = false → t = s) ∧
    (wake = true → bitOf (s.fget F.PST_WAKE_EN_EN 0) 5 = true → s.armed 5 = true → bitOf (t.fget F.PST_WAKE_STAT_LATCH 0) 5 = true)) ∧
  (∀ (val : Word) (byteMask : Fin 256) (s : State), ∃ t, exec (.pstTimerWrite val byteMask) s = .next t ∧ SameBut [.fld .PST_CORE_PWR_r,
      .fld .PST_RAMP, .fld .PST_STAT, .fld .PST_TIMER, .fld .PST_WAKE_STAT, .pst] s t ∧
    (byteMask.val = 255 → t.fget F.PST_TIMER_COMPARE 0 = bitsOf val.toNat F.PST_TIMER_COMPARE.lo F.PST_TIMER_COMPARE.len) ∧
    (byteMask.val = 0 → t.fget F.PST_TIMER_COMPARE 0 = s.fget F.PST_TIMER_COMPARE 0)) ∧
  (∀ (val : Word) (byteMask : Fin 256) (s : State), ∃ t, exec (.pstWakeEnWrite val byteMask) s = .next t ∧ SameBut [.fld .PST_CORE_PWR_r,
      .fld .PST_RAMP, .fld .PST_STAT, .fld .PST_WAKE_EN, .fld .PST_WAKE_STAT, .pst] s t ∧
    (byteMask.val = 255 → t.fget F.PST_WAKE_EN_EN 0 = bitsOf val.toNat F.PST_WAKE_EN_EN.lo F.PST_WAKE_EN_EN.len) ∧
    (byteMask.val = 0 → t.fget F.PST_WAKE_EN_EN 0 = s.fget F.PST_WAKE_EN_EN 0)) ∧
  (∀ (s : State), ∃ t, exec .xtalFail s = .next t ∧ SameBut [.fld .PST_STAT] s t ∧
    t.fget F.PST_STAT_XTAL_FAIL 0 = 1) ∧
  (∀ (port : HostId) (s : State), ∃ t, exec (.d3hotEntry port) s = .next t ∧ SameBut [.fld .MOD_EVR_TAIL_n, .fld .MOD_HOST_ERR_p,
      .fld .MOD_HOST_STAT_p, .fld .QUEUE_CTL, .fld .QUEUE_STAT, .hports, .msix, .queues, .rings] s t ∧
    (t.hport port.val).d3hot = true ∧ t.fget F.MOD_HOST_STAT_p_BUS_MASTER port.val = 0 ∧ t.fget F.MOD_HOST_STAT_p_MSIX_EN port.val = 0) ∧
  (∀ (port : HostId) (s : State), ∃ t, exec (.returnToD0 port) s = .next t ∧ SameBut [.fld .MOD_HOST_STAT_p, .hports, .msix] s t ∧
    ((s.hport port.val).d3hot = false → t = s) ∧
    ((s.hport port.val).d3hot = true → t.hport port.val = HostPort.none ∧ t.fget F.MOD_HOST_STAT_p_BUS_MASTER port.val = 0 ∧ t.fget
        F.MOD_HOST_STAT_p_MSIX_EN port.val = 0))

/-- A key record that fails one of the checks fails the command with the status of the first, sets KEY_REJECT and raises one event; a weight key that
passes seals its flask, a Mould-signing key is installed or revoked. A watched tamper sensor that was not already asserted is logged, latches
TAMPER, and with input power removes the weight keys, the release key and the grant. An acknowledged log clears the latch when nothing is live.
The log's bytes are returned. A slot role register is written by the host until LOCK. (R643, R654, R656, R657, R662, R663, R664, R668, R669) -/
def Obligations.SecurityCommandsAct : Prop :=
  (∀ (k : Fin 17) (v : Bool) (s : State), ∃ t, exec (.mbWeightKeyLoad k v) s = .next t ∧ SameBut [.ev, .flasks, .fld .MOD_MB_SUMMARY, .fld .SAF_ERR,
      .fld .SAF_KEYS, .fld .SAF_STAT, .hostOut, .hports, .saf, .slots] s t ∧
    (s.mbRuns k.val 0x0502 = true → ∀ c, (s.keyChecks k.val (leAt (s.slot k.val).args 0 1) ((s.slot k.val).args.drop 8) v).find? (fun c => !c.1) =
        some c → SlotFailed t k.val c.2.2 ∧ t.fget F.SAF_ERR_KEY_REJECT 0 = 1 ∧ Raised s t 0x0903 0 ∧ t.saf = s.saf) ∧
    (s.mbRuns k.val 0x0502 = true → (s.keyChecks k.val (leAt (s.slot k.val).args 0 1) ((s.slot k.val).args.drop 8) v).find? (fun c => !c.1) = none →
        leAt ((s.slot k.val).args.drop 8) 0 1 = 1 → SlotDone t k.val 0 ∧ (t.flask (leAt (s.slot k.val).args 0 1)).isSealed = true ∧
      ∃ w, t.saf.keys = s.saf.keys ++ [w] ∧ w.flask = leAt (s.slot k.val).args 0 1 ∧ w.index = leAt ((s.slot k.val).args.drop 8) 1 1 ∧ w.base = leAt
          ((s.slot k.val).args.drop 8) 0x18 8 ∧ w.len = leAt ((s.slot k.val).args.drop 8) 0x20 8) ∧
    (s.mbRuns k.val 0x0502 = true → (s.keyChecks k.val (leAt (s.slot k.val).args 0 1) ((s.slot k.val).args.drop 8) v).find? (fun c => !c.1) = none →
        leAt ((s.slot k.val).args.drop 8) 0 1 = 2 → leAt ((s.slot k.val).args.drop 8) 1 1 < 32 → bitOf (s.fget F.SAF_KEYS_MOULD_REVOKED 0) (leAt
        ((s.slot k.val).args.drop 8) 1 1) = true → SlotFailed t k.val 0x0210 ∧ t.saf = s.saf) ∧
    (s.mbRuns k.val 0x0502 = true → (s.keyChecks k.val (leAt (s.slot k.val).args 0 1) ((s.slot k.val).args.drop 8) v).find? (fun c => !c.1) = none →
        leAt ((s.slot k.val).args.drop 8) 0 1 = 3 → leAt ((s.slot k.val).args.drop 8) 1 1 = 1 → SlotFailed t k.val 0x0210 ∧ t.saf = s.saf) ∧
    (s.mbRuns k.val 0x0502 = true → (s.keyChecks k.val (leAt (s.slot k.val).args 0 1) ((s.slot k.val).args.drop 8) v).find? (fun c => !c.1) = none →
        leAt ((s.slot k.val).args.drop 8) 0 1 = 2 → bitOf (s.fget F.SAF_KEYS_MOULD_REVOKED 0) (leAt ((s.slot k.val).args.drop 8) 1 1) = false →
        SlotDone t k.val 0 ∧ Raised s t 0x0907 0) ∧
    (s.mbRuns k.val 0x0502 = true → (s.keyChecks k.val (leAt (s.slot k.val).args 0 1) ((s.slot k.val).args.drop 8) v).find? (fun c => !c.1) = none →
        leAt ((s.slot k.val).args.drop 8) 0 1 = 3 → leAt ((s.slot k.val).args.drop 8) 1 1 ≠ 1 → SlotDone t k.val 0 ∧ Raised s t 0x0907 0) ∧
    (s.mbRuns k.val 0x0502 = false → t = s)) ∧
  (∀ (sensor : Fin 8) (inputPower : Bool) (seconds : Nat) (s : State), ∃ t, exec (.tamperSensor sensor inputPower seconds) s = .next t ∧ SameBut
      [.caches, .cores, .dbg, .ev, .faults, .flasks, .fld .CORE_MOULD, .fld .CORE_SC, .fld .CORE_SEQ, .fld .CORE_STAT, .fld .DBG_HOLD,
      .fld .DBG_STAT, .fld .LDL_CTX_n, .fld .ME_STAT, .fld .MOD_APERTURE_CTL, .fld .MOD_FAULT_STAT, .fld .MOD_GRID_STAT, .fld .MOD_MB_SUMMARY,
      .fld .QUEUE_BASE, .fld .QUEUE_CTL, .fld .QUEUE_DB, .fld .QUEUE_LEVEL, .fld .QUEUE_STAT, .fld .QUEUE_WM, .fld .SAF_SECONDS, .fld .SAF_STAT,
      .fld .SAF_TAMPER, .fld .SE_STAT, .fld .SPR_STAT, .fld .VU_STAT, .hostOut, .hports, .ldls, .mes, .msgs, .queues, .saf, .ses, .slots, .vus] s t
      ∧
    t.fget F.SAF_SECONDS_SECONDS 0 = max (s.fget F.SAF_SECONDS_SECONDS 0) seconds % 2 ^ F.SAF_SECONDS_SECONDS.len ∧
    ((decide (1 ≤ sensor.val) && sensor.val != 6 && (inputPower || decide (sensor.val ≤ 4)) && (sensor.val != 7 || s.fget F.SAF_STAT_LIFECYCLE 0 !=
        1) && !bitOf (s.fget F.SAF_TAMPER_LIVE 0) (sensor.val - 1)) = false → t.saf = s.saf ∧ t.ev = s.ev ∧ t.fget F.SAF_STAT_TAMPER 0 = s.fget
        F.SAF_STAT_TAMPER 0) ∧
    ((decide (1 ≤ sensor.val) && sensor.val != 6 && (inputPower || decide (sensor.val ≤ 4)) && (sensor.val != 7 || s.fget F.SAF_STAT_LIFECYCLE 0 !=
        1) && !bitOf (s.fget F.SAF_TAMPER_LIVE 0) (sensor.val - 1)) = true → t.fget F.SAF_STAT_TAMPER 0 = 1 ∧ t.fget F.SAF_TAMPER_LATCHED 0 = 1 ∧
        (inputPower = true → t.saf.keys = [] ∧ t.fget F.SAF_STAT_RELEASE_KEY 0 = 0 ∧ t.dbg.grantEnd = none) ∧ (inputPower = false → t.saf.keys =
        s.saf.keys ∧ t.ev = s.ev))) ∧
  (∀ (sensor : Fin 8) (s : State), ∃ t, exec (.tamperSensorDeassert sensor) s = .next t ∧ SameBut [.fld .SAF_TAMPER] s t ∧
    (sensor.val = 0 → t = s) ∧
    (1 ≤ sensor.val → ∀ n, n < 7 → bitOf (t.fget F.SAF_TAMPER_LIVE 0) n = (bitOf (s.fget F.SAF_TAMPER_LIVE 0) n && n != sensor.val - 1))) ∧
  (∀ (k : Fin 17) (s : State), ∃ t, exec (.mbTamperAck k) s = .next t ∧ SameBut [.fld .MOD_MB_SUMMARY, .fld .SAF_STAT, .fld .SAF_TAMPER, .hostOut,
      .hports, .saf, .slots] s t ∧
    (s.mbRuns k.val 0x0501 = true → s.fget F.SAF_TAMPER_NEWEST 0 < leAt (s.slot k.val).args 0 4 → SlotFailed t k.val 0x0103 ∧ t.saf = s.saf) ∧
    (s.mbRuns k.val 0x0501 = true → leAt (s.slot k.val).args 0 4 ≤ s.fget F.SAF_TAMPER_NEWEST 0 → SlotDone t k.val (t.fget F.SAF_STAT_TAMPER 0) ∧
        t.saf.log = (s.saf.log.map (fun e => if e.index ≤ leAt (s.slot k.val).args 0 4 then { e with acked := true } else e))) ∧
    (s.mbRuns k.val 0x0501 = true → leAt (s.slot k.val).args 0 4 ≤ s.fget F.SAF_TAMPER_NEWEST 0 → (s.saf.log.map (fun e => if e.index ≤ leAt (s.slot
        k.val).args 0 4 then { e with acked := true } else e)).all (fun e => e.acked) = true → s.fget F.SAF_TAMPER_LIVE 0 = 0 → s.fget
        F.SAF_STAT_TAMPER 0 = 1 → t.fget F.SAF_STAT_TAMPER 0 = 0 ∧ t.fget F.SAF_TAMPER_LATCHED 0 = 0) ∧
    (s.mbRuns k.val 0x0501 = true → leAt (s.slot k.val).args 0 4 ≤ s.fget F.SAF_TAMPER_NEWEST 0 → ((s.saf.log.map (fun e => if e.index ≤ leAt
        (s.slot k.val).args 0 4 then { e with acked := true } else e)).all (fun e => e.acked) = false ∨ s.fget F.SAF_TAMPER_LIVE 0 ≠ 0) → t.fget
        F.SAF_STAT_TAMPER 0 = s.fget F.SAF_STAT_TAMPER 0) ∧
    (s.mbRuns k.val 0x0501 = false → t = s)) ∧
  (∀ (k : Fin 17) (s : State), ∃ t, exec (.mbTamperLogRead k) s = .next t ∧ SameBut [.fld .MOD_MB_SUMMARY, .hostOut, .hports, .slots] s t ∧
    (s.mbRuns k.val 0x0503 = true → SlotDone t k.val 0 ∧ (t.slot k.val).payload = Mem.wrN [] 0 (s.tamperImage.drop (leAt (s.slot k.val).args 0 4)) ∧
        (t.slot k.val).resultLen = (s.tamperImage.drop (leAt (s.slot k.val).args 0 4)).length) ∧
    (s.mbRuns k.val 0x0503 = false → t = s)) ∧
  (∀ (val : Word) (m : Fin 256) (s : State), ∃ t, exec (.slotRoleWrite val m) s = .next t ∧ SameBut [.fld .SAF_SLOT_ROLE] s t ∧
    (s.mbServed = false ∨ s.fget F.SAF_SLOT_ROLE_LOCK 0 = 1 → t = s) ∧
    (m.val = 0 → t = s) ∧
    (s.mbServed = true → s.fget F.SAF_SLOT_ROLE_LOCK 0 ≠ 1 → m.val = 255 → t.fget F.SAF_SLOT_ROLE_TENANT 0 = bitsOf val.toNat
        F.SAF_SLOT_ROLE_TENANT.lo F.SAF_SLOT_ROLE_TENANT.len)) ∧
  (∀ (val : Word) (m : Fin 256) (s : State), ∃ t, exec (.slotFlaskWrite val m) s = .next t ∧ SameBut [.fld .SAF_SLOT_FLASK] s t ∧
    (s.mbServed = false ∨ s.fget F.SAF_SLOT_ROLE_LOCK 0 = 1 → t = s) ∧
    (m.val = 0 → t = s) ∧
    (s.mbServed = true → s.fget F.SAF_SLOT_ROLE_LOCK 0 ≠ 1 → m.val = 255 → t.fget F.SAF_SLOT_FLASK_FLASK 0 = bitsOf val.toNat
        F.SAF_SLOT_FLASK_FLASK.lo F.SAF_SLOT_FLASK_FLASK.len))

/-- Firmware update requests are answered from the update in progress: RequestUpdate opens one unless one is open or a firmware command runs, the
component table and UpdateComponent lead to the transfer, each piece of data is kept and the next asked for, ActivateFirmware makes the staged
slot active, and the cancels go back. A request in another state is refused. Sensors answer W, 10 mV and degrees C, an unknown one 0x80. MCTP
control sets and tells the endpoint ID. An I3C address is taken once. The field layouts are the model's presumption (see NOTES.md). (R490, R549,
R577, R579, R591, R592, R593, R594) -/
def Obligations.SidebandUpdateCommandsAct : Prop :=
  (∀ (s : State), ∃ t, exec .pldmQueryDeviceIds s = .next t ∧ SameBut [.freeCtr, .resp] s t ∧
    (s.pldmServed = false → t = s) ∧
    (s.pldmServed = true → Answered t 0 (natLe 8 (Config.freeNat s.freeCtr)) ∧ t.freeCtr = s.freeCtr + 1)) ∧
  (∀ (s : State), ∃ t, exec .pldmGetFwParameters s = .next t ∧ SameBut [.resp] s t ∧
    (s.pldmServed = false → t = s) ∧
    (s.pldmServed = true → Answered t 0 (natLe 2 0x000A ++ natLe 2 0x0001 ++ natLe 4 s.boot.fwVersion))) ∧
  (∀ (transfer : Nat) (s : State), ∃ t, exec (.pldmRequestUpdate transfer) s = .next t ∧ SameBut [.boot, .resp] s t ∧
    (s.pldmServed = false → t = s) ∧
    (s.pldmServed = true → s.boot.pldm.state ≠ 0 → Answered t 0x81 [] ∧ t.boot = s.boot) ∧
    (s.pldmServed = true → s.boot.pldm.state = 0 → s.slotsRunning (fun m => m.cmd / 256 == 6) ≠ [] → Answered t 0x8E [] ∧ t.boot = s.boot) ∧
    (s.pldmServed = true → s.boot.pldm.state = 0 → s.slotsRunning (fun m => m.cmd / 256 == 6) = [] → Answered t 0 [] ∧ t.boot.pldm =
        { PldmSt.idle with state := 1, transfer := min transfer 4096 })) ∧
  (∀ (cls ident : BitVec 16) (last : Bool) (s : State), ∃ t, exec (.pldmPassComponentTable cls ident last) s = .next t ∧ SameBut [.boot, .resp] s t ∧
    (s.pldmServed = false → t = s) ∧
    (s.pldmServed = true → s.boot.pldm.state ≠ 1 → Answered t (if s.boot.pldm.state = 0 then 0x80 else 0x84) [] ∧ t.boot = s.boot) ∧
    (s.pldmServed = true → s.boot.pldm.state = 1 → t.boot.pldm.state = (if last then 2 else 1)) ∧
    (s.pldmServed = true → s.boot.pldm.state = 1 → cls.toNat = 0x000A → ident.toNat = 1 → Answered t 0 (natLe 1 0)) ∧
    (s.pldmServed = true → s.boot.pldm.state = 1 → cls.toNat ≠ 0x000A ∨ ident.toNat ≠ 1 → Answered t 0 (natLe 1 1))) ∧
  (∀ (cls ident : BitVec 16) (size : BitVec 32) (s : State), ∃ t, exec (.pldmUpdateComponent cls ident size) s = .next t ∧ SameBut [.boot, .msgs,
      .resp] s t ∧
    (s.pldmServed = false → t = s) ∧
    (s.pldmServed = true → s.boot.pldm.state ≠ 2 → Answered t (if s.boot.pldm.state = 0 then 0x80 else 0x84) [] ∧ t.boot = s.boot) ∧
    (s.pldmServed = true → s.boot.pldm.state = 2 → cls.toNat = 0x000A → ident.toNat = 1 → Answered t 0 (natLe 1 0) ∧ t.boot.pldm.state = 3 ∧
        t.boot.pldm.size = size.toNat ∧ t.boot.pldm.image = []) ∧
    (s.pldmServed = true → s.boot.pldm.state = 2 → cls.toNat ≠ 0x000A ∨ ident.toNat ≠ 1 → Answered t 0 (natLe 1 1) ∧ t.boot = s.boot)) ∧
  (∀ (data : List Byte) (sig back : Bool) (env : BootEnv) (s : State), ∃ t, exec (.pldmFirmwareData data sig back env) s = .next t ∧ SameBut
      [.align, .boot, .cores, .ctl, .dbg, .ev, .fld .CLK_PSTEP, .fld .CLU_CORES, .fld .CORE_STAT, .fld .DBG_STAT, .fld .ME_CAP,
      .fld .MOD_APERTURE_CTL, .fld .MOD_BOOT_ERR, .fld .MOD_BOOT_STAT, .fld .MOD_FLASH_INFO, .fld .MOD_GRID_STAT, .fld .MOD_MB_SUMMARY,
      .fld .MOD_PORT_BOOT, .fld .MOD_POUR_ID, .fld .MOD_ROW_MAP_r, .fld .PST_CORE_PWR_r, .fld .PST_PAD_HOLD, .fld .PST_RAMP, .fld .PST_STAT,
      .fld .PWR_CLUSTER_c, .fld .PWR_RISER_LEAD, .fld .PWR_TILE_t, .fld .RUN_LANE_l, .fld .RUN_STAT, .fld .SAF_STAT, .fld .SPD_STAT,
      .fld .TC_ALIGN_STAT, .hostOut, .hports, .msgs, .ports, .pour, .pst, .saf, .seam, .slag, .slots, .svc] s t ∧
    (s.pldmServed = false → t = s) ∧
    (s.pldmServed = true → s.boot.pldm.state = 3 → s.boot.pldm.image.length < s.boot.pldm.size → t.boot.pldm.image = s.boot.pldm.image ++ data.take
        (min s.boot.pldm.transfer (s.boot.pldm.size - s.boot.pldm.image.length)) ∧ t.boot.pldm.state = 3) ∧
    (s.pldmServed = true → s.boot.pldm.state = 3 → s.boot.pldm.size ≤ s.boot.pldm.image.length → t.boot.pldm.state = 4) ∧
    (s.pldmServed = true → s.boot.pldm.state = 4 → s.boot.pldm.result = 0 → t.boot.pldm.state = 5 ∧ Sent s t toSideband .sideband [0x18, 0]) ∧
    (s.pldmServed = true → s.boot.pldm.state = 5 → s.stage ≠ 8 → t.boot.pldm.state = 2) ∧
    (s.pldmServed = true → s.boot.pldm.state ≠ 3 → s.boot.pldm.state ≠ 5 → s.boot.pldm.state ≠ 4 ∨ s.boot.pldm.result ≠ 0 → t = s)) ∧
  (∀ (selfContained : Bool) (s : State), ∃ t, exec (.pldmActivateFirmware selfContained) s = .next t ∧ SameBut [.boot, .fld .MOD_FLASH_INFO, .resp]
      s t ∧
    (s.pldmServed = false → t = s) ∧
    (s.pldmServed = true → s.boot.pldm.state ≠ 2 → Answered t (if s.boot.pldm.state = 0 then 0x80 else 0x84) [] ∧ t.boot = s.boot) ∧
    (s.pldmServed = true → s.boot.pldm.state = 2 → selfContained = true → Answered t 0x8C [] ∧ t.boot = s.boot) ∧
    (s.pldmServed = true → s.boot.pldm.state = 2 → selfContained = false → s.boot.dir.staged = 0xFF → Answered t 0x85 [] ∧ t.boot = s.boot) ∧
    (s.pldmServed = true → s.boot.pldm.state = 2 → selfContained = false → s.boot.dir.staged ≠ 0xFF → Answered t 0 [] ∧ t.boot.pldm = PldmSt.idle ∧
        t.boot.dir.active = s.boot.dir.staged % 2 ∧ t.boot.dir.staged = 0xFF)) ∧
  (∀ (s : State), ∃ t, exec .pldmGetStatus s = .next t ∧ SameBut [.resp] s t ∧
    (s.pldmServed = false → t = s) ∧
    (s.pldmServed = true → Answered t 0 (natLe 1 s.boot.pldm.state))) ∧
  (∀ (s : State), ∃ t, exec .pldmCancelUpdateComponent s = .next t ∧ SameBut [.boot, .resp] s t ∧
    (s.pldmServed = false → t = s) ∧
    (s.pldmServed = true → s.boot.pldm.state ≠ 3 → s.boot.pldm.state ≠ 4 → s.boot.pldm.state ≠ 5 → Answered t (if s.boot.pldm.state = 0 then 0x80
        else 0x84) [] ∧ t.boot = s.boot) ∧
    (s.pldmServed = true → (s.boot.pldm.state = 3 ∨ s.boot.pldm.state = 4 ∨ s.boot.pldm.state = 5) → Answered t 0 [] ∧ t.boot.pldm.state = 2 ∧
        t.boot.pldm.image = [])) ∧
  (∀ (s : State), ∃ t, exec .pldmCancelUpdate s = .next t ∧ SameBut [.boot, .resp] s t ∧
    (s.pldmServed = false → t = s) ∧
    (s.pldmServed = true → s.boot.pldm.state ≠ 1 → s.boot.pldm.state ≠ 2 → s.boot.pldm.state ≠ 3 → s.boot.pldm.state ≠ 4 → s.boot.pldm.state ≠ 5 →
        Answered t (if s.boot.pldm.state = 0 then 0x80 else 0x84) [] ∧ t.boot = s.boot) ∧
    (s.pldmServed = true → (s.boot.pldm.state = 1 ∨ s.boot.pldm.state = 2 ∨ s.boot.pldm.state = 3 ∨ s.boot.pldm.state = 4 ∨ s.boot.pldm.state = 5) →
        Answered t 0 [] ∧ t.boot.pldm = PldmSt.idle)) ∧
  (∀ (sensor : BitVec 16) (s : State), ∃ t, exec (.pldmGetSensorReading sensor) s = .next t ∧ SameBut [.resp] s t ∧
    (s.mbServed = false → t = s) ∧
    (s.mbServed = true → s.sensor sensor.toNat = none → Answered t 0x80 []) ∧
    (∀ v, s.mbServed = true → s.sensor sensor.toNat = some v → Answered t 0 (natLe 4 v))) ∧
  (∀ (sensor : BitVec 16) (s : State), ∃ t, exec (.pldmGetStateSensorReadings sensor) s = .next t ∧ SameBut [.resp] s t ∧
    (s.mbServed = false → t = s) ∧
    (s.mbServed = true → sensor.toNat ≠ 0x0010 → Answered t 0x80 []) ∧
    (s.mbServed = true → sensor.toNat = 0x0010 → Answered t 0 (natLe 1 s.stage))) ∧
  (∀ (handle : BitVec 32) (s : State), ∃ t, exec (.pldmGetPdr handle) s = .next t ∧ SameBut [.freeCtr, .resp] s t ∧
    (s.mbServed = false → t = s) ∧
    (∀ id, s.mbServed = true → [0x0001, 0x0002, 0x0003, 0x0004, 0x0010][handle.toNat - 1]? = some id → Answered t 0 (natLe 2 id ++ natLe 8
        (Config.freeNat s.freeCtr))) ∧
    (s.mbServed = true → 6 ≤ handle.toNat → Answered t 0x82 [])) ∧
  (∀ (command eid : BitVec 8) (s : State), ∃ t, exec (.mctpControl command eid) s = .next t ∧ SameBut [.freeCtr, .resp, .svc] s t ∧
    (s.stage = 0 → t = s) ∧
    (1 ≤ s.stage → command.toNat = 1 → eid.toNat = 0 ∨ eid.toNat = 0xFF → Answered t 2 [] ∧ t.svc = s.svc) ∧
    (1 ≤ s.stage → command.toNat = 1 → eid.toNat ≠ 0 → eid.toNat ≠ 0xFF → Answered t 0 (natLe 1 eid.toNat) ∧ t.svc.eid = eid.toNat) ∧
    (1 ≤ s.stage → command.toNat = 2 → Answered t 0 (natLe 1 s.svc.eid)) ∧
    (1 ≤ s.stage → command.toNat = 3 → Answered t 0 (natLe 16 (Config.freeNat s.freeCtr))) ∧
    (1 ≤ s.stage → command.toNat = 4 → Answered t 0 (natLe 4 (Config.freeNat s.freeCtr))) ∧
    (1 ≤ s.stage → command.toNat = 5 → Answered t 0 ([0x00, 0x01, 0x05, 0x06, 0x7E])) ∧
    (1 ≤ s.stage → command.toNat = 0 ∨ 6 ≤ command.toNat → Answered t 5 [])) ∧
  (∀ (static dynamic : Fin 128) (s : State), ∃ t, exec (.i3cSetdasa static dynamic) s = .next t ∧ SameBut [.svc] s t ∧
    ((s.i3cServed && s.svc.dynAddr.isNone && static.val == 0x48 + s.svc.sbAddr) = false → t = s) ∧
    ((s.i3cServed && s.svc.dynAddr.isNone && static.val == 0x48 + s.svc.sbAddr) = true → t.svc = { s.svc with dynAddr := some dynamic.val })) ∧
  (∀ (dynamic : Fin 128) (s : State), ∃ t, exec (.i3cEntdaa dynamic) s = .next t ∧ SameBut [.svc] s t ∧
    ((s.i3cServed && s.svc.dynAddr.isNone) = false → t = s) ∧
    ((s.i3cServed && s.svc.dynAddr.isNone) = true → t.svc = { s.svc with dynAddr := some dynamic.val }))

/-- GET_VERSION, GET_CAPABILITIES and NEGOTIATE_ALGORITHMS open a connection in that order; digests, certificates, challenges and measurements need
one and are otherwise refused. KEY_EXCHANGE opens one of at most four sessions, a verified FINISH completes it and a failed one removes it.
HEARTBEAT, KEY_UPDATE and END_SESSION need a completed session. Digests and signatures that the state does not hold are free values, and the codes
are the model's presumption (see NOTES.md). (R647, R648) -/
def Obligations.SidebandAttestationCommandsAct : Prop :=
  (∀ (s : State), ∃ t, exec .spdmGetVersion s = .next t ∧ SameBut [.resp, .saf] s t ∧
    (s.mbServed = false → t = s) ∧
    (s.mbServed = true → Answered t 0 (natLe 1 0x12) ∧ t.saf.spdm = 1 ∧ t.saf.sessions = s.saf.sessions)) ∧
  (∀ (s : State), ∃ t, exec .spdmGetCapabilities s = .next t ∧ SameBut [.resp, .saf] s t ∧
    (s.mbServed = false → t = s) ∧
    (s.mbServed = true → s.saf.spdm < 1 → Answered t 4 [] ∧ t.saf = s.saf) ∧
    (s.mbServed = true → 1 ≤ s.saf.spdm → s.saf.spdm = 1 → Answered t 0 (natLe 4 0x62D6) ∧ t.saf.spdm = 2) ∧
    (s.mbServed = true → 1 ≤ s.saf.spdm → s.saf.spdm ≠ 1 → Answered t 4 [] ∧ t.saf = s.saf)) ∧
  (∀ (supported : Bool) (s : State), ∃ t, exec (.spdmNegotiateAlgorithms supported) s = .next t ∧ SameBut [.resp, .saf] s t ∧
    (s.mbServed = false → t = s) ∧
    (s.mbServed = true → s.saf.spdm < 2 → Answered t 4 [] ∧ t.saf = s.saf) ∧
    (s.mbServed = true → 2 ≤ s.saf.spdm → s.saf.spdm ≠ 2 → Answered t 4 [] ∧ t.saf = s.saf) ∧
    (s.mbServed = true → 2 ≤ s.saf.spdm → s.saf.spdm = 2 → supported = false → Answered t 1 [] ∧ t.saf = s.saf) ∧
    (s.mbServed = true → 2 ≤ s.saf.spdm → s.saf.spdm = 2 → supported = true → t.saf.spdm = 3 ∧ Answered t 0 (natLe 4 0x80 ++ natLe 4 0x02 ++ natLe 2
        0x10 ++ natLe 2 0x02 ++ natLe 4 0x04))) ∧
  (∀ (s : State), ∃ t, exec .spdmGetDigests s = .next t ∧ SameBut [.freeCtr, .resp] s t ∧
    (s.mbServed = false → t = s) ∧
    (s.mbServed = true → s.saf.spdm < 3 → Answered t 4 [] ∧ t.saf = s.saf) ∧
    (s.mbServed = true → 3 ≤ s.saf.spdm → Answered t 0 (natLe 1 1 ++ natLe 48 (Config.freeNat s.freeCtr)))) ∧
  (∀ (certSlot : Fin 8) (length : BitVec 16) (s : State), ∃ t, exec (.spdmGetCertificate certSlot length) s = .next t ∧ SameBut [.freeCtr, .resp] s
      t ∧
    (s.mbServed = false → t = s) ∧
    (s.mbServed = true → s.saf.spdm < 3 → Answered t 4 [] ∧ t.saf = s.saf) ∧
    (s.mbServed = true → 3 ≤ s.saf.spdm → certSlot.val = 0 → Answered t 0 (natLe length.toNat (Config.freeNat s.freeCtr))) ∧
    (s.mbServed = true → 3 ≤ s.saf.spdm → certSlot.val ≠ 0 → Answered t 1 [])) ∧
  (∀ (certSlot : Fin 8) (s : State), ∃ t, exec (.spdmChallenge certSlot) s = .next t ∧ SameBut [.freeCtr, .resp] s t ∧
    (s.mbServed = false → t = s) ∧
    (s.mbServed = true → s.saf.spdm < 3 → Answered t 4 [] ∧ t.saf = s.saf) ∧
    (s.mbServed = true → 3 ≤ s.saf.spdm → certSlot.val = 0 → Answered t 0 (natLe 96 (Config.freeNat s.freeCtr))) ∧
    (s.mbServed = true → 3 ≤ s.saf.spdm → certSlot.val ≠ 0 → Answered t 1 [])) ∧
  (∀ (index : BitVec 8) (s : State), ∃ t, exec (.spdmGetMeasurements index) s = .next t ∧ SameBut [.freeCtr, .resp] s t ∧
    (s.mbServed = false → t = s) ∧
    (s.mbServed = true → s.saf.spdm < 3 → Answered t 4 [] ∧ t.saf = s.saf) ∧
    (s.mbServed = true → 3 ≤ s.saf.spdm → index.toNat = 0 → Answered t 0 (natLe 1 24)) ∧
    (s.mbServed = true → 3 ≤ s.saf.spdm → index.toNat ≠ 0 → s.measurement index.toNat (Config.freeNat s.freeCtr) = none → Answered t 1 []) ∧
    (s.mbServed = true → 3 ≤ s.saf.spdm → ∀ b, index.toNat ≠ 0 → s.measurement index.toNat (Config.freeNat s.freeCtr) = some b → Answered t 0 (b ++
        natLe 96 (Config.freeNat (s.freeCtr + 1))))) ∧
  (∀ (id : BitVec 32) (s : State), ∃ t, exec (.spdmKeyExchange id) s = .next t ∧ SameBut [.freeCtr, .resp, .saf] s t ∧
    (s.mbServed = false → t = s) ∧
    (s.mbServed = true → s.saf.spdm < 3 → Answered t 4 [] ∧ t.saf = s.saf) ∧
    (s.mbServed = true → 3 ≤ s.saf.spdm → 4 ≤ s.saf.sessions.length → Answered t 0x0A [] ∧ t.saf = s.saf) ∧
    (s.mbServed = true → 3 ≤ s.saf.spdm → s.saf.sessions.length < 4 → s.saf.sessions.any (fun x => x.id == id.toNat) = true → Answered t 1 [] ∧
        t.saf = s.saf) ∧
    (s.mbServed = true → 3 ≤ s.saf.spdm → s.saf.sessions.length < 4 → s.saf.sessions.any (fun x => x.id == id.toNat) = false → t.saf.sessions =
        s.saf.sessions ++ [{ id := id.toNat, done := false }] ∧ Answered t 0 (natLe 96 (Config.freeNat s.freeCtr)))) ∧
  (∀ (id : BitVec 32) (verified : Bool) (s : State), ∃ t, exec (.spdmFinish id verified) s = .next t ∧ SameBut [.resp, .saf] s t ∧
    (s.mbServed = false → t = s) ∧
    (s.mbServed = true → s.saf.spdm < 3 → Answered t 4 [] ∧ t.saf = s.saf) ∧
    (s.mbServed = true → 3 ≤ s.saf.spdm → s.saf.sessions.any (fun x => x.id == id.toNat && !x.done) = false → Answered t 2 [] ∧ t.saf = s.saf) ∧
    (s.mbServed = true → 3 ≤ s.saf.spdm → s.saf.sessions.any (fun x => x.id == id.toNat && !x.done) = true → verified = true → Answered t 0 [] ∧
        t.isSecured (some id.toNat) = true) ∧
    (s.mbServed = true → 3 ≤ s.saf.spdm → s.saf.sessions.any (fun x => x.id == id.toNat && !x.done) = true → verified = false → Answered t 6 [] ∧
        t.isSecured (some id.toNat) = false)) ∧
  (∀ (id : BitVec 32) (s : State), ∃ t, exec (.spdmHeartbeat id) s = .next t ∧ SameBut [.resp] s t ∧
    (s.mbServed = false → t = s) ∧
    (s.mbServed = true → s.isSecured (some id.toNat) = false → Answered t 2 [] ∧ t.saf = s.saf) ∧
    (s.mbServed = true → s.isSecured (some id.toNat) = true → Answered t 0 [] ∧ t.saf = s.saf)) ∧
  (∀ (id : BitVec 32) (s : State), ∃ t, exec (.spdmKeyUpdate id) s = .next t ∧ SameBut [.resp] s t ∧
    (s.mbServed = false → t = s) ∧
    (s.mbServed = true → s.isSecured (some id.toNat) = false → Answered t 2 [] ∧ t.saf = s.saf) ∧
    (s.mbServed = true → s.isSecured (some id.toNat) = true → Answered t 0 [] ∧ t.saf = s.saf)) ∧
  (∀ (id : BitVec 32) (s : State), ∃ t, exec (.spdmEndSession id) s = .next t ∧ SameBut [.resp, .saf] s t ∧
    (s.mbServed = false → t = s) ∧
    (s.mbServed = true → s.isSecured (some id.toNat) = false → Answered t 2 [] ∧ t.saf = s.saf) ∧
    (s.mbServed = true → s.isSecured (some id.toNat) = true → Answered t 0 [] ∧ t.isSecured (some id.toNat) = false))

/-- A frame with a good CRC is served when nothing else is; a repetition of the last request is answered as before, and one that fails the checks with
its status. INFO tells the identity. AUTH_REQ gives a fresh nonce, and is refused in a lockout. A grant record with all checks passed opens its
level and scope and clears FAILS; a refused one counts in FAILS with an event. AUTH_DROP and expiry end the grant; a lockout ends at its second.
LIFECYCLE leads from OWNED to FIELD_DEBUG where the grant allows, without keys. A command changes nothing while another request, or none, is in
service. (R643, R674, R675, R676, R677, R678, R679, R680, R681) -/
def Obligations.SlosySessionCommandsAct : Prop :=
  (∀ (wire : List Byte) (tc : Nat) (s : State), ∃ t, exec (.slosyFrame wire tc) s = .next t ∧ SameBut [.dbg, .fld .TC_NOW, .msgs, .resp] s t ∧
    t.tc = s.clockAt tc ∧
    (slosyParse wire = none → SameBut [.fld .TC_NOW] s t) ∧
    (∀ r, slosyParse wire = some r → (decide (1 ≤ s.fget F.MOD_BOOT_STAT_STAGE 0) && (s.mbServed || r.cmd == 0x01) && s.dbg.req.isNone) = false →
        SameBut [.fld .TC_NOW] s t) ∧
    (∀ r, slosyParse wire = some r → (decide (1 ≤ s.fget F.MOD_BOOT_STAT_STAGE 0) && (s.mbServed || r.cmd == 0x01) && s.dbg.req.isNone) = true →
        s.dbg.prev = none → s.slosyCheck r = 0 → t.dbg.req = some r ∧ t.resp = s.resp ∧ t.msgs = s.msgs) ∧
    (∀ r, slosyParse wire = some r → (decide (1 ≤ s.fget F.MOD_BOOT_STAT_STAGE 0) && (s.mbServed || r.cmd == 0x01) && s.dbg.req.isNone) = true →
        s.dbg.prev = none → s.slosyCheck r ≠ 0 → SlosyAnswered t r (s.slosyCheck r) []) ∧
    (∀ r st bytes, slosyParse wire = some r → (decide (1 ≤ s.fget F.MOD_BOOT_STAT_STAGE 0) && (s.mbServed || r.cmd == 0x01) && s.dbg.req.isNone) =
        true → s.dbg.prev = some (r, st, bytes) → SlosyAnswered t r st bytes) ∧
    (∀ r p, slosyParse wire = some r → (decide (1 ≤ s.fget F.MOD_BOOT_STAT_STAGE 0) && (s.mbServed || r.cmd == 0x01) && s.dbg.req.isNone) = true →
        s.dbg.prev = some p → p.1 ≠ r → s.slosyCheck r = 0 → t.dbg.req = some r ∧ t.resp = s.resp ∧ t.msgs = s.msgs) ∧
    (∀ r p, slosyParse wire = some r → (decide (1 ≤ s.fget F.MOD_BOOT_STAT_STAGE 0) && (s.mbServed || r.cmd == 0x01) && s.dbg.req.isNone) = true →
        s.dbg.prev = some p → p.1 ≠ r → s.slosyCheck r ≠ 0 → SlosyAnswered t r (s.slosyCheck r) [])) ∧
  (∀ (s : State), ∃ t, exec .slosyInfo s = .next t ∧ SameBut [.dbg, .msgs, .resp] s t ∧
    (∀ r, s.dbg.req = some r → r.cmd = 0x01 → SlosyAnswered t r 0 (natLe 8 (s.regVal .MOD_ID 0) ++ natLe 16 s.slag.serial ++ natLe 1 (s.fget
        F.SAF_STAT_LIFECYCLE 0) ++ natLe 1 s.dbgLevel ++ natLe 8 (s.regVal .DBG_HOLD 0))) ∧
    (s.dbg.req = none → t = s) ∧
    (∀ r, s.dbg.req = some r → r.cmd ≠ 0x01 → t = s)) ∧
  (∀ (s : State), ∃ t, exec .slosyAuthReq s = .next t ∧ SameBut [.dbg, .freeCtr, .msgs, .resp] s t ∧
    (∀ r, s.dbg.req = some r → r.cmd = 0x02 → s.dbg.lockEnd.isSome = true → SlosyAnswered t r 7 []) ∧
    (∀ r, s.dbg.req = some r → r.cmd = 0x02 → s.dbg.lockEnd = none → t.dbg.nonce = some (Config.freeNat s.freeCtr % 2 ^ 256) ∧ t.freeCtr = s.freeCtr
        + 1 ∧ SlosyAnswered t r 0 (natLe 32 (Config.freeNat s.freeCtr % 2 ^ 256) ++ natLe 16 s.slag.serial ++ natLe 1 (s.fget F.SAF_STAT_LIFECYCLE
        0) ++ natLe 1 (s.fget F.SAF_STAT_TAMPER 0))) ∧
    (s.dbg.req = none → t = s) ∧
    (∀ r, s.dbg.req = some r → r.cmd ≠ 0x02 → t = s)) ∧
  (∀ (v : Bool) (seconds : Nat) (s : State), ∃ t, exec (.slosyAuthGrant v seconds) s = .next t ∧ SameBut [.dbg, .ev, .fld .DBG_STAT,
      .fld .MOD_APERTURE_CTL, .fld .SAF_SECONDS, .freeCtr, .msgs, .resp] s t ∧
    t.fget F.SAF_SECONDS_SECONDS 0 = max (s.fget F.SAF_SECONDS_SECONDS 0) seconds % 2 ^ F.SAF_SECONDS_SECONDS.len ∧
    (s.dbg.req = none → t.dbg = s.dbg ∧ t.ev = s.ev) ∧
    (∀ r, s.dbg.req = some r → r.cmd = 0x03 → grantForm r.payload = false → SlosyAnswered t r 2 [] ∧ t.dbg.nonce = none ∧ t.fget F.DBG_STAT_FAILS 0
        = s.fget F.DBG_STAT_FAILS 0) ∧
    (∀ r why, s.dbg.req = some r → r.cmd = 0x03 → grantForm r.payload = true → s.grantRefusal r.payload v = some why → SlosyAnswered t r 3 [] ∧
        t.dbg.nonce = none ∧ Raised s t 0x0C02 0 ∧ t.fget F.DBG_STAT_FAILS 0 = min (s.fget F.DBG_STAT_FAILS 0 + 1) (2 ^ F.DBG_STAT_FAILS.len - 1) ∧
        (4 ≤ t.fget F.DBG_STAT_FAILS 0 → t.dbg.lockEnd = some (t.fget F.SAF_SECONDS_SECONDS 0 + 60))) ∧
    (∀ r, s.dbg.req = some r → r.cmd = 0x03 → grantForm r.payload = true → s.grantRefusal r.payload v = none → SlosyAnswered t r 0 (natLe 1 (leAt
        r.payload 48 1)) ∧ t.dbg.nonce = none ∧ Raised s t 0x0C01 0 ∧ t.fget F.DBG_STAT_FAILS 0 = 0 ∧
        t.fget F.DBG_STAT_LEVEL 0 = leAt r.payload 48 1 % 2 ^ F.DBG_STAT_LEVEL.len ∧ t.fget F.DBG_STAT_SCOPE 0 = leAt r.payload 50 2 % 2 ^
            F.DBG_STAT_SCOPE.len ∧ t.dbg.grantEnd = some (t.fget F.SAF_SECONDS_SECONDS 0 + leAt r.payload 52 4))) ∧
  (∀ (s : State), ∃ t, exec .slosyAuthDrop s = .next t ∧ SameBut [.dbg, .fld .DBG_STAT, .fld .MOD_APERTURE_CTL, .msgs, .resp] s t ∧
    (∀ r, s.dbg.req = some r → r.cmd = 0x04 → SlosyAnswered t r 0 [] ∧ t.dbg.grantEnd = none ∧ t.fget F.MOD_APERTURE_CTL_EN 0 = 0) ∧
    (s.dbg.req = none → t = s) ∧
    (∀ r, s.dbg.req = some r → r.cmd ≠ 0x04 → t = s)) ∧
  (∀ (s : State), ∃ t, exec .slosyLifecycle s = .next t ∧ SameBut [.caches, .cores, .dbg, .dram, .dramPoison, .dramWritten, .ev, .faults, .flasks,
      .fld .CORE_MOULD, .fld .CORE_SC, .fld .CORE_SEQ, .fld .CORE_STAT, .fld .DBG_HOLD, .fld .DBG_STAT, .fld .LDL_CTX_n, .fld .ME_STAT,
      .fld .MOD_APERTURE_CTL, .fld .MOD_FAULT_STAT, .fld .MOD_GRID_STAT, .fld .MOD_MB_SUMMARY, .fld .QUEUE_BASE, .fld .QUEUE_CTL, .fld .QUEUE_DB,
      .fld .QUEUE_LEVEL, .fld .QUEUE_STAT, .fld .QUEUE_WM, .fld .SAF_STAT, .fld .SE_STAT, .fld .SPD_ELASTIC, .fld .SPD_STAT, .fld .SPR_STAT,
      .fld .VU_STAT, .hostOut, .hports, .ldls, .mes, .msgs, .pour, .queues, .resp, .saf, .ses, .slots, .vus] s t ∧
    (∀ r, s.dbg.req = some r → r.cmd = 0x05 → bitOf s.dbgFlags 2 = false → SlosyAnswered t r 3 []) ∧
    (∀ r, s.dbg.req = some r → r.cmd = 0x05 → bitOf s.dbgFlags 2 = true → s.fget F.SAF_STAT_LIFECYCLE 0 ≠ 2 → SlosyAnswered t r 4 []) ∧
    (∀ r, s.dbg.req = some r → r.cmd = 0x05 → bitOf s.dbgFlags 2 = true → s.fget F.SAF_STAT_LIFECYCLE 0 = 2 → SlosyAnswered t r 0 (natLe 1 3) ∧
        t.fget F.SAF_STAT_LIFECYCLE 0 = 3 ∧ t.saf.keys = [] ∧ t.dbg.grantEnd = none) ∧
    (s.dbg.req = none → t = s) ∧
    (∀ r, s.dbg.req = some r → r.cmd ≠ 0x05 → t = s)) ∧
  (∀ (seconds : Nat) (s : State), ∃ t, exec (.grantExpiry seconds) s = .next t ∧ SameBut [.dbg, .fld .DBG_STAT, .fld .MOD_APERTURE_CTL,
      .fld .SAF_SECONDS] s t ∧
    t.fget F.SAF_SECONDS_SECONDS 0 = max (s.fget F.SAF_SECONDS_SECONDS 0) seconds % 2 ^ F.SAF_SECONDS_SECONDS.len ∧
    (s.dbg.grantEnd = none → t.dbg = s.dbg) ∧
    (∀ e, s.dbg.grantEnd = some e → (t.fget F.SAF_SECONDS_SECONDS 0 < e → t.dbg = s.dbg) ∧ (e ≤ t.fget F.SAF_SECONDS_SECONDS 0 → t.dbg.grantEnd =
        none ∧ t.fget F.MOD_APERTURE_CTL_EN 0 = 0))) ∧
  (∀ (seconds : Nat) (s : State), ∃ t, exec (.authLockoutExpiry seconds) s = .next t ∧ SameBut [.dbg, .fld .SAF_SECONDS] s t ∧
    t.fget F.SAF_SECONDS_SECONDS 0 = max (s.fget F.SAF_SECONDS_SECONDS 0) seconds % 2 ^ F.SAF_SECONDS_SECONDS.len ∧
    (s.dbg.lockEnd = none → t.dbg = s.dbg) ∧
    (∀ e, s.dbg.lockEnd = some e → (t.fget F.SAF_SECONDS_SECONDS 0 < e → t.dbg = s.dbg) ∧ (e ≤ t.fget F.SAF_SECONDS_SECONDS 0 → t.dbg.lockEnd =
        none)))

/-- READ and WRITE of a wrong size answer 2, one that the level, scope or a seal forbids answers that status, and a word elsewhere answers 0 with the
data, or 6. APERTURE_READ returns the scratchpad's bytes. SCAN_CORE returns part of the record of a held core. HOLD, RELEASE and STEP answer 2 for
a bad flask, 3 out of scope, 4 in the wrong state, and outside a pour arm the change at the first hold point at or after the target and 3 us
ahead. HOLD_STAT tells held, armed, SC and the TC of the hold. An armed change is applied at its time. (R50, R677, R682, R683, R684, R685, R686) -/
def Obligations.SlosyAccessAndHoldCommandsAct : Prop :=
  (∀ (tc : Nat) (s : State), ∃ t, exec (.slosyRead tc) s = .next t ∧ SameBut [.caches, .cores, .dbg, .dram, .dramPoison, .dramWritten, .ev,
      .fld .CCH_HITS, .fld .CCH_MISSES, .fld .CORE_QSTAT, .fld .MOD_FA_FAULT_ADDR, .fld .MOD_FA_FAULT_INFO, .fld .MOD_HOST_ERR_p,
      .fld .PWR_TELEM_IN_p, .fld .QUEUE_BASE, .fld .QUEUE_CTL, .fld .QUEUE_LEVEL, .fld .QUEUE_STAT, .fld .QUEUE_WM, .fld .SPD_ELASTIC, .fld .TC_NOW,
      .flds, .msgs, .ports, .queues, .resp, .spd, .spdPoison] s t ∧
    t.tc = s.clockAt tc ∧
    (∀ r, s.dbg.req = some r → r.cmd = 0x10 → sizeOk (leAt r.payload 8 2) = false → SlosyAnswered t r 2 []) ∧
    (∀ r x, s.dbg.req = some r → r.cmd = 0x10 → sizeOk (leAt r.payload 8 2) = true → (s.slosyReach (leAt r.payload 0 8)).find? (fun x => x.1) = some
        x → SlosyAnswered t r x.2 []) ∧
    (∀ r, s.dbg.req = some r → r.cmd = 0x10 → sizeOk (leAt r.payload 8 2) = true → (s.slosyReach (leAt r.payload 0 8)).find? (fun x => x.1) = none →
        leAt r.payload 8 2 = 4 → faSpace (leAt r.payload 0 8) ≠ 1 → ∃ st bs, (st = 0 ∨ st = 6) ∧ SlosyAnswered t r st bs) ∧
    (s.dbg.req = none → SameBut [.fld .TC_NOW] s t) ∧
    (∀ r, s.dbg.req = some r → r.cmd ≠ 0x10 → SameBut [.fld .TC_NOW] s t)) ∧
  (∀ (tc : Nat) (s : State), ∃ t, exec (.slosyWrite tc) s = .next t ∧ SameBut [.caches, .cores, .dbg, .dram, .dramPoison, .dramWritten, .ev,
      .fld .CCH_HITS, .fld .CCH_MISSES, .fld .CORE_QSTAT, .fld .MOD_FA_FAULT_ADDR, .fld .MOD_FA_FAULT_INFO, .fld .MOD_HOST_ERR_p,
      .fld .PWR_TELEM_IN_p, .fld .QUEUE_BASE, .fld .QUEUE_CTL, .fld .QUEUE_LEVEL, .fld .QUEUE_STAT, .fld .QUEUE_WM, .fld .SPD_ELASTIC, .fld .TC_NOW,
      .flds, .msgs, .ports, .queues, .resp, .spd, .spdPoison] s t ∧
    t.tc = s.clockAt tc ∧
    (∀ r, s.dbg.req = some r → r.cmd = 0x11 → sizeOk (r.payload.drop 8).length = false → SlosyAnswered t r 2 []) ∧
    (∀ r, s.dbg.req = some r → r.cmd = 0x11 → sizeOk (r.payload.drop 8).length = true → bitOf s.dbgFlags 0 = false → SlosyAnswered t r 3 []) ∧
    (∀ r x, s.dbg.req = some r → r.cmd = 0x11 → sizeOk (r.payload.drop 8).length = true → bitOf s.dbgFlags 0 = true → (s.slosyReach (leAt r.payload
        0 8)).find? (fun x => x.1) = some x → SlosyAnswered t r x.2 []) ∧
    (∀ r, s.dbg.req = some r → r.cmd = 0x11 → sizeOk (r.payload.drop 8).length = true → bitOf s.dbgFlags 0 = true → (s.slosyReach (leAt r.payload 0
        8)).find? (fun x => x.1) = none → (r.payload.drop 8).length = 4 → faSpace (leAt r.payload 0 8) ≠ 1 → ∃ st, (st = 0 ∨ st = 6) ∧ SlosyAnswered
        t r st []) ∧
    (s.dbg.req = none → SameBut [.fld .TC_NOW] s t) ∧
    (∀ r, s.dbg.req = some r → r.cmd ≠ 0x11 → SameBut [.fld .TC_NOW] s t)) ∧
  (∀ (s : State), ∃ t, exec .slosyApertureRead s = .next t ∧ SameBut [.dbg, .msgs, .resp] s t ∧
    (∀ r, s.dbg.req = some r → r.cmd = 0x12 → sizeOk (leAt r.payload 8 2) = false ∨ 160 ≤ leAt r.payload 0 1 ∨ 2 ^ 28 < leAt r.payload 4 4 + leAt
        r.payload 8 2 → SlosyAnswered t r 2 []) ∧
    (∀ r, s.dbg.req = some r → r.cmd = 0x12 → sizeOk (leAt r.payload 8 2) = true → leAt r.payload 0 1 < 160 → leAt r.payload 4 4 + leAt r.payload 8
        2 ≤ 2 ^ 28 → s.inService = true → (∀ f, s.flaskOf (leAt r.payload 0 1) = some f → (s.flask f).isSealed = false) → s.spdPoisoned (leAt
        r.payload 0 1) (leAt r.payload 4 4) (leAt r.payload 8 2) = false → SlosyAnswered t r 0 (s.spdRd (leAt r.payload 0 1) (leAt r.payload 4 4)
        (leAt r.payload 8 2))) ∧
    (s.dbg.req = none → t = s) ∧
    (∀ r, s.dbg.req = some r → r.cmd ≠ 0x12 → t = s)) ∧
  (∀ (tc : Nat) (s : State), ∃ t, exec (.slosyHold tc) s = .next t ∧ SameBut [.ctl, .dbg, .dec, .fld .DBG_HOLD, .fld .TC_NOW, .msgs, .resp] s t ∧
    t.tc = s.clockAt tc ∧
    (∀ r, s.dbg.req = some r → r.cmd = 0x20 → 15 < leAt r.payload 0 1 ∨ 1 < leAt r.payload 1 1 → SlosyAnswered t r 2 []) ∧
    (∀ r, s.dbg.req = some r → r.cmd = 0x20 → leAt r.payload 0 1 ≤ 15 → leAt r.payload 1 1 ≤ 1 → s.inScope (leAt r.payload 0 1) = false →
        SlosyAnswered t r 3 []) ∧
    (∀ r, s.dbg.req = some r → r.cmd = 0x20 → leAt r.payload 0 1 ≤ 15 → leAt r.payload 1 1 ≤ 1 → s.inScope (leAt r.payload 0 1) = true → s.flaskIn
        (leAt r.payload 0 1) 3 = false → SlosyAnswered t r 4 []) ∧
    (∀ r, s.dbg.req = some r → r.cmd = 0x20 → leAt r.payload 0 1 ≤ 15 → leAt r.payload 1 1 = 0 → s.inScope (leAt r.payload 0 1) = true → s.flaskIn
        (leAt r.payload 0 1) 3 = true → s.inPour (leAt r.payload 0 1) = false → s.held (leAt r.payload 0 1) = true → SlosyAnswered t r 0 (natLe 8
        (s.heldAt (leAt r.payload 0 1))) ∧ t.dbg.armed = s.dbg.armed) ∧
    (∀ r, s.dbg.req = some r → r.cmd = 0x20 → leAt r.payload 0 1 ≤ 15 → leAt r.payload 1 1 = 0 → s.inScope (leAt r.payload 0 1) = true → s.flaskIn
        (leAt r.payload 0 1) 3 = true → s.inPour (leAt r.payload 0 1) = false → s.held (leAt r.payload 0 1) = false → SlosyAnswered t r 0 (natLe 8
        (s.holdPointAfter (max (leAt r.payload 8 8) (t.tc + 3000)))) ∧ t.dbg.armed = s.dbg.armed ++
        [{ flask := leAt r.payload 0 1, kind := 0, at_ := s.holdPointAfter (max (leAt r.payload 8 8) (t.tc + 3000)), pour := false, units := 0 }]) ∧
    (s.dbg.req = none → SameBut [.fld .TC_NOW] s t) ∧
    (∀ r, s.dbg.req = some r → r.cmd ≠ 0x20 → SameBut [.fld .TC_NOW] s t)) ∧
  (∀ (tc : Nat) (s : State), ∃ t, exec (.slosyRelease tc) s = .next t ∧ SameBut [.ctl, .dbg, .dec, .fld .DBG_HOLD, .fld .TC_NOW, .msgs, .resp] s t ∧
    t.tc = s.clockAt tc ∧
    (∀ r, s.dbg.req = some r → r.cmd = 0x21 → 15 < leAt r.payload 0 1 → SlosyAnswered t r 2 []) ∧
    (∀ r, s.dbg.req = some r → r.cmd = 0x21 → leAt r.payload 0 1 ≤ 15 → s.inScope (leAt r.payload 0 1) = false → SlosyAnswered t r 3 []) ∧
    (∀ r, s.dbg.req = some r → r.cmd = 0x21 → leAt r.payload 0 1 ≤ 15 → s.inScope (leAt r.payload 0 1) = true → s.held (leAt r.payload 0 1) = false
        → SlosyAnswered t r 0 (natLe 8 (leAt r.payload 8 8))) ∧
    (∀ r, s.dbg.req = some r → r.cmd = 0x21 → leAt r.payload 0 1 ≤ 15 → s.inScope (leAt r.payload 0 1) = true → s.held (leAt r.payload 0 1) = true →
        s.inPour (leAt r.payload 0 1) = false → SlosyAnswered t r 0 (natLe 8 (s.holdPointAfter (max (leAt r.payload 8 8) (t.tc + 3000)))) ∧
        t.dbg.armed = s.dbg.armed ++
        [{ flask := leAt r.payload 0 1, kind := 1, at_ := s.holdPointAfter (max (leAt r.payload 8 8) (t.tc + 3000)), pour := false, units := 0 }]) ∧
    (s.dbg.req = none → SameBut [.fld .TC_NOW] s t) ∧
    (∀ r, s.dbg.req = some r → r.cmd ≠ 0x21 → SameBut [.fld .TC_NOW] s t)) ∧
  (∀ (tc : Nat) (s : State), ∃ t, exec (.slosyStep tc) s = .next t ∧ SameBut [.ctl, .dbg, .dec, .fld .DBG_HOLD, .fld .TC_NOW, .msgs, .resp] s t ∧
    t.tc = s.clockAt tc ∧
    (∀ r, s.dbg.req = some r → r.cmd = 0x22 → 15 < leAt r.payload 0 1 ∨ leAt r.payload 4 4 = 0 ∨ 1048576 < leAt r.payload 4 4 → SlosyAnswered t r 2
        []) ∧
    (∀ r, s.dbg.req = some r → r.cmd = 0x22 → leAt r.payload 0 1 ≤ 15 → leAt r.payload 4 4 ≠ 0 → leAt r.payload 4 4 ≤ 1048576 → s.inScope (leAt
        r.payload 0 1) = false → SlosyAnswered t r 3 []) ∧
    (∀ r, s.dbg.req = some r → r.cmd = 0x22 → leAt r.payload 0 1 ≤ 15 → leAt r.payload 4 4 ≠ 0 → leAt r.payload 4 4 ≤ 1048576 → s.inScope (leAt
        r.payload 0 1) = true → s.held (leAt r.payload 0 1) = false → SlosyAnswered t r 4 []) ∧
    (∀ r e, s.dbg.req = some r → r.cmd = 0x22 → leAt r.payload 0 1 ≤ 15 → leAt r.payload 4 4 ≠ 0 → leAt r.payload 4 4 ≤ 1048576 → s.inScope (leAt
        r.payload 0 1) = true → s.held (leAt r.payload 0 1) = true → s.inPour (leAt r.payload 0 1) = false → e = s.holdPointAfter (t.tc + 3000) →
        SlosyAnswered t r 0 (natLe 8 e) ∧ t.dbg.armed = s.dbg.armed ++
        [{ flask := leAt r.payload 0 1, kind := 2, at_ := e, pour := false, units := leAt r.payload 4 4 }]) ∧
    (s.dbg.req = none → SameBut [.fld .TC_NOW] s t) ∧
    (∀ r, s.dbg.req = some r → r.cmd ≠ 0x22 → SameBut [.fld .TC_NOW] s t)) ∧
  (∀ (s : State), ∃ t, exec .slosyHoldStat s = .next t ∧ SameBut [.dbg, .msgs, .resp] s t ∧
    (∀ r, s.dbg.req = some r → r.cmd = 0x23 → 15 < leAt r.payload 0 1 → SlosyAnswered t r 2 []) ∧
    (∀ r, s.dbg.req = some r → r.cmd = 0x23 → leAt r.payload 0 1 ≤ 15 → SlosyAnswered t r 0 (natLe 1 (b2n (s.held (leAt r.payload 0 1)) + 2 * b2n
        (bitOf (s.fget F.DBG_HOLD_ARMED 0) (leAt r.payload 0 1))) ++ natLe 8 (s.flushSc (leAt r.payload 0 1)) ++ natLe 8 (s.heldAt (leAt r.payload 0
        1)))) ∧
    (s.dbg.req = none → t = s) ∧
    (∀ r, s.dbg.req = some r → r.cmd ≠ 0x23 → t = s)) ∧
  (∀ (flask : FlaskId) (tc : Nat) (s : State), ∃ t, exec (.debugHoldApply flask tc) s = .next t ∧ SameBut [.dbg, .ev, .fld .DBG_HOLD,
      .fld .SPR_STAT, .fld .TC_NOW] s t ∧
    t.tc = s.clockAt tc ∧
    (s.dbg.armed.find? (fun a => a.flask == flask.val) = none → SameBut [.fld .TC_NOW] s t) ∧
    (∀ a, s.dbg.armed.find? (fun a => a.flask == flask.val) = some a →
      (s.clockAt tc < a.at_ → SameBut [.fld .TC_NOW] s t) ∧
      (a.at_ ≤ s.clockAt tc → a.kind = 0 → t.dbg.armed = s.dbg.armed.erase a ∧ (s.flaskIn flask.val 3 = true → t.held flask.val = true)) ∧
      (a.at_ ≤ s.clockAt tc → a.kind ≠ 0 → t.held flask.val = false))) ∧
  (∀ (s : State), ∃ t, exec .slosyScanCore s = .next t ∧ SameBut [.dbg, .msgs, .resp] s t ∧
    (∀ r, s.dbg.req = some r → r.cmd = 0x40 → 15 < leAt r.payload 0 1 ∨ leAt r.payload 1 1 ∉ (s.flask (leAt r.payload 0 1)).cores ∨ leAt r.payload 8
        2 = 0 ∨ 1024 < leAt r.payload 8 2 ∨ recordLen < leAt r.payload 4 4 + leAt r.payload 8 2 → SlosyAnswered t r 2 []) ∧
    (∀ r p, s.dbg.req = some r → r.cmd = 0x40 → leAt r.payload 0 1 ≤ 15 → leAt r.payload 1 1 ∈ (s.flask (leAt r.payload 0 1)).cores → leAt r.payload
        8 2 ≠ 0 → leAt r.payload 8 2 ≤ 1024 → leAt r.payload 4 4 + leAt r.payload 8 2 ≤ recordLen → s.inScope (leAt r.payload 0 1) = true → s.held
        (leAt r.payload 0 1) = true → s.physOf (leAt r.payload 1 1) = some p → (s.flask (leAt r.payload 0 1)).isSealed = false → SlosyAnswered t r 0
        (((s.scanRecord p (leAt r.payload 1 1)).drop (leAt r.payload 4 4)).take (leAt r.payload 8 2))) ∧
    (s.dbg.req = none → t = s) ∧
    (∀ r, s.dbg.req = some r → r.cmd ≠ 0x40 → t = s))

/-- BP_SET answers 2 for a breakpoint above 7 and for reserved encodings, 3 for a flask out of scope, and else writes the breakpoint's three
registers. BP_CLEAR returns the breakpoint's registers to their reset values. BP_STAT returns the eight hit registers. A hit that matches is
captured: HIT, the requester, the core, the low TC and a count that saturates, with one event; one that does not match does nothing. (R687, R688,
R694) -/
def Obligations.SlosyBreakpointCommandsAct : Prop :=
  (∀ (s : State), ∃ t, exec .slosyBpSet s = .next t ∧ SameBut [.dbg, .fld .DBG_BP_CTL_n, .fld .DBG_BP_LIMIT_n, .fld .DBG_BP_MATCH_n, .msgs, .resp] s
      t ∧
    (∀ r, s.dbg.req = some r → r.cmd = 0x30 → 7 < leAt r.payload 0 1 ∨ 4 < bitsOf (leAt r.payload 8 8) 0 3 ∨ bitsOf (leAt r.payload 8 8) 3 2 = 3 ∨
        bitOf (leAt r.payload 8 8) 7 = true ∨ bitsOf (leAt r.payload 8 8) 12 20 ≠ 0 → SlosyAnswered t r 2 []) ∧
    (∀ r, s.dbg.req = some r → r.cmd = 0x30 → leAt r.payload 0 1 ≤ 7 → bitsOf (leAt r.payload 8 8) 0 3 ≤ 4 → bitsOf (leAt r.payload 8 8) 3 2 ≠ 3 →
        bitOf (leAt r.payload 8 8) 7 = false → bitsOf (leAt r.payload 8 8) 12 20 = 0 → bitsOf (leAt r.payload 8 8) 3 2 = 2 → s.inScope (bitsOf (leAt
        r.payload 8 8) 8 4) = false → SlosyAnswered t r 3 []) ∧
    (∀ r, s.dbg.req = some r → r.cmd = 0x30 → leAt r.payload 0 1 ≤ 7 → bitsOf (leAt r.payload 8 8) 0 3 ≤ 4 → bitsOf (leAt r.payload 8 8) 3 2 ≠ 3 →
        bitOf (leAt r.payload 8 8) 7 = false → bitsOf (leAt r.payload 8 8) 12 20 = 0 → bitsOf (leAt r.payload 8 8) 3 2 ≠ 2 → bitsOf (leAt r.payload
        8 8) 0 3 ≠ 1 → bitsOf (leAt r.payload 8 8) 0 3 ≠ 2 → SlosyAnswered t r 0 [] ∧ t.fget F.DBG_BP_CTL_n_KIND (leAt r.payload 0 1) = bitsOf (leAt
        r.payload 8 8) 0 3 ∧ t.fget F.DBG_BP_CTL_n_ACTION (leAt r.payload 0 1) = bitsOf (leAt r.payload 8 8) 3 2 ∧
        t.fget F.DBG_BP_MATCH_n_MATCH (leAt r.payload 0 1) = leAt r.payload 16 8 % 2 ^ F.DBG_BP_MATCH_n_MATCH.len ∧ t.fget F.DBG_BP_LIMIT_n_LIMIT
            (leAt r.payload 0 1) = leAt r.payload 24 8 % 2 ^ F.DBG_BP_LIMIT_n_LIMIT.len) ∧
    (s.dbg.req = none → t = s) ∧
    (∀ r, s.dbg.req = some r → r.cmd ≠ 0x30 → t = s)) ∧
  (∀ (s : State), ∃ t, exec .slosyBpClear s = .next t ∧ SameBut [.dbg, .fld .DBG_BP_CTL_n, .fld .DBG_BP_HIT_n, .fld .DBG_BP_LIMIT_n,
      .fld .DBG_BP_MATCH_n, .msgs, .resp] s t ∧
    (∀ r, s.dbg.req = some r → r.cmd = 0x31 → 7 < leAt r.payload 0 1 → SlosyAnswered t r 2 []) ∧
    (∀ r, s.dbg.req = some r → r.cmd = 0x31 → leAt r.payload 0 1 ≤ 7 → SlosyAnswered t r 0 [] ∧ t.fget F.DBG_BP_CTL_n_KIND (leAt r.payload 0 1) =
        F.DBG_BP_CTL_n_KIND.resetAt (leAt r.payload 0 1) ∧ t.fget F.DBG_BP_MATCH_n_MATCH (leAt r.payload 0 1) = F.DBG_BP_MATCH_n_MATCH.resetAt (leAt
        r.payload 0 1) ∧ t.fget F.DBG_BP_HIT_n_HIT (leAt r.payload 0 1) = F.DBG_BP_HIT_n_HIT.resetAt (leAt r.payload 0 1)) ∧
    (s.dbg.req = none → t = s) ∧
    (∀ r, s.dbg.req = some r → r.cmd ≠ 0x31 → t = s)) ∧
  (∀ (s : State), ∃ t, exec .slosyBpStat s = .next t ∧ SameBut [.dbg, .msgs, .resp] s t ∧
    (∀ r, s.dbg.req = some r → r.cmd = 0x32 → SlosyAnswered t r 0 ((List.range 8).flatMap (fun n => natLe 8 (s.regVal .DBG_BP_HIT_n n)))) ∧
    (s.dbg.req = none → t = s) ∧
    (∀ r, s.dbg.req = some r → r.cmd ≠ 0x32 → t = s)) ∧
  (∀ (bp : Fin 8) (hit : BpHit) (tc : Nat) (s : State), ∃ t, exec (.dbgBpHit bp hit tc) s = .next t ∧ SameBut [.dbg, .ev, .fld .DBG_BP_HIT_n,
      .fld .DBG_HOLD, .fld .TC_NOW, .freeCtr] s t ∧
    t.tc = s.clockAt tc ∧
    (∀ x, SameBut [.fld .TC_NOW] s x → x.tc = s.clockAt tc → x.bpMatches bp.val hit = false → SameBut [.fld .TC_NOW] s t) ∧
    (∀ x, SameBut [.fld .TC_NOW] s x → x.tc = s.clockAt tc → x.bpMatches bp.val hit = true →
      t.fget F.DBG_BP_HIT_n_HIT bp.val = 1 ∧ t.fget F.DBG_BP_HIT_n_TC_LOW bp.val = t.tc % 2 ^ F.DBG_BP_HIT_n_TC_LOW.len ∧ Raised s t 0x0C04 0 ∧
          t.fget F.DBG_BP_HIT_n_COUNT bp.val = min (s.fget F.DBG_BP_HIT_n_COUNT bp.val + 1) (2 ^ F.DBG_BP_HIT_n_COUNT.len - 1) ∧
      (s.fget F.DBG_BP_CTL_n_KIND bp.val ≤ 2 → t.fget F.DBG_BP_HIT_n_REQUESTER bp.val = hit.requester.val % 2 ^ F.DBG_BP_HIT_n_REQUESTER.len ∧
          t.fget F.DBG_BP_HIT_n_CORE bp.val = hit.core.val % 2 ^ F.DBG_BP_HIT_n_CORE.len)))

/-- A doorbell of a bound, working queue of its kind sets the tail (or head) when it leaves no more than the depth outstanding, and else changes
neither. A control write to an unbound queue does nothing; PORT and VECTOR move only while DISABLED; the base only while DISABLED. A fetch read is
issued for the span that is free, and its completion brings the entries or a fault: 1 timeout, 2 unsupported, 3 abort, 4 poisoned. A post goes to
host memory at its place in the ring. A message held back goes out when its hold-off is over. A DISABLING queue with nothing outstanding is
DISABLED, or ENABLED again. (R450, R451, R452, R453, R454, R455, R459, R460, R462) -/
def Obligations.HostQueueCommandsAct : Prop :=
  (∀ (queue : Fin 2097152) (count : BitVec 16) (tc : Nat) (s : State), ∃ t, exec (.queueDbSubmit queue count tc) s = .next t ∧ SameBut [.ev,
      .fld .QUEUE_LEVEL, .fld .QUEUE_STAT, .fld .QUEUE_WM, .fld .TC_NOW, .queues] s t ∧
    t.tc = s.clockAt tc ∧
    ((s.queue queue.val).kind ≠ .hostSubmit ∨ s.qState queue.val = 0 ∨ s.qState queue.val = 4 → SameBut [.fld .TC_NOW] s t) ∧
    ((s.queue queue.val).kind = .hostSubmit → s.qState queue.val ≠ 0 → s.qState queue.val ≠ 4 → sub16 count.toNat (s.queue queue.val).fetched ≤
        (s.queue queue.val).depth → (t.queue queue.val).tail = count.toNat ∧ t.qState queue.val = s.qState queue.val) ∧
    ((s.queue queue.val).kind = .hostSubmit → s.qState queue.val ≠ 0 → s.qState queue.val ≠ 4 → (s.queue queue.val).depth < sub16 count.toNat
        (s.queue queue.val).fetched → (t.queue queue.val).tail = (s.queue queue.val).tail)) ∧
  (∀ (queue : Fin 2097152) (count : BitVec 16) (tc : Nat) (s : State), ∃ t, exec (.queueDbPost queue count tc) s = .next t ∧ SameBut [.ev,
      .fld .QUEUE_LEVEL, .fld .QUEUE_STAT, .fld .QUEUE_WM, .fld .TC_NOW, .queues] s t ∧
    t.tc = s.clockAt tc ∧
    ((s.queue queue.val).kind ≠ .hostPost ∨ s.qState queue.val = 0 ∨ s.qState queue.val = 4 → SameBut [.fld .TC_NOW] s t) ∧
    ((s.queue queue.val).kind = .hostPost → s.qState queue.val ≠ 0 → s.qState queue.val ≠ 4 → sub16 (s.queue queue.val).written count.toNat ≤
        (s.queue queue.val).depth → (t.queue queue.val).head = count.toNat ∧ t.qState queue.val = s.qState queue.val) ∧
    ((s.queue queue.val).kind = .hostPost → s.qState queue.val ≠ 0 → s.qState queue.val ≠ 4 → (s.queue queue.val).depth < sub16 (s.queue
        queue.val).written count.toNat → (t.queue queue.val).head = (s.queue queue.val).head)) ∧
  (∀ (queue : Fin 2097152) (val : Word) (m : Fin 256) (s : State), ∃ t, exec (.queueCtlWrite queue val m) s = .next t ∧ SameBut [.ev,
      .fld .MOD_HOST_ERR_p, .fld .QUEUE_CTL, .fld .QUEUE_LEVEL, .fld .QUEUE_STAT, .fld .QUEUE_WM, .queues] s t ∧
    (s.qState queue.val = 0 → t = s) ∧
    (s.qState queue.val = 1 → m.val = 255 → t.fget F.QUEUE_CTL_PORT queue.val = bitsOf val.toNat F.QUEUE_CTL_PORT.lo F.QUEUE_CTL_PORT.len ∧ t.fget
        F.QUEUE_CTL_VECTOR queue.val = bitsOf val.toNat F.QUEUE_CTL_VECTOR.lo F.QUEUE_CTL_VECTOR.len) ∧
    (s.qState queue.val = 1 → m.val = 255 → bitsOf val.toNat F.QUEUE_CTL_ENABLE.lo 1 = 1 → s.fget F.QUEUE_BASE_ADDR queue.val ≠ 0 → t.qState
        queue.val = 2) ∧
    (s.qState queue.val = 1 → m.val = 255 → bitsOf val.toNat F.QUEUE_CTL_ENABLE.lo 1 = 1 → s.fget F.QUEUE_BASE_ADDR queue.val = 0 → t.qState
        queue.val = 1 ∧ t.fget F.QUEUE_STAT_CFG_ERR queue.val = 1) ∧
    (s.qState queue.val = 2 ∨ s.qState queue.val = 4 → m.val = 255 → bitsOf val.toNat F.QUEUE_CTL_ENABLE.lo 1 = 0 → t.qState queue.val = 3) ∧
    (s.qState queue.val ≠ 0 → s.qState queue.val ≠ 1 → m.val = 255 → t.fget F.QUEUE_CTL_PORT queue.val = s.fget F.QUEUE_CTL_PORT queue.val ∨ t.fget
        F.QUEUE_CTL_PORT queue.val = bitsOf val.toNat F.QUEUE_CTL_PORT.lo F.QUEUE_CTL_PORT.len)) ∧
  (∀ (queue : Fin 2097152) (val : Word) (m : Fin 256) (s : State), ∃ t, exec (.queueBaseWrite queue val m) s = .next t ∧ SameBut [.fld .QUEUE_BASE,
      .fld .QUEUE_STAT] s t ∧
    (s.qState queue.val = 0 → t = s) ∧
    (s.qState queue.val = 1 → m.val = 255 → t.fget F.QUEUE_BASE_ADDR queue.val = bitsOf val.toNat F.QUEUE_BASE_ADDR.lo F.QUEUE_BASE_ADDR.len) ∧
    (s.qState queue.val ≠ 0 → s.qState queue.val ≠ 1 → t.fget F.QUEUE_BASE_ADDR queue.val = s.fget F.QUEUE_BASE_ADDR queue.val ∧ t.fget
        F.QUEUE_STAT_CFG_ERR queue.val = 1)) ∧
  (∀ (queue : Fin 2097152) (val : Word) (m : Fin 256) (fire : Bool) (s : State), ∃ t, exec (.queueWmWrite queue val m fire) s = .next t ∧ SameBut
      [.ev, .fld .QUEUE_LEVEL, .fld .QUEUE_WM] s t ∧
    (s.qState queue.val = 0 → t = s) ∧
    (s.qState queue.val ≠ 0 → m.val = 255 → t.fget F.QUEUE_WM_LEVEL queue.val = bitsOf val.toNat F.QUEUE_WM_LEVEL.lo F.QUEUE_WM_LEVEL.len)) ∧
  (∀ (queue : Fin 2097152) (s : State), ∃ t, exec (.hostFetchRead queue) s = .next t ∧ SameBut [.queues] s t ∧
    (((s.queue queue.val).kind = .hostSubmit ∧ s.qState queue.val = 2 ∧ s.portReady (s.qPort queue.val) = true ∧ 0 < s.fetchSpan queue.val) →
        (t.queue queue.val) = { (s.queue queue.val) with reads := (s.queue queue.val).reads ++ [s.fetchSpan queue.val] }) ∧
    ((s.queue queue.val).kind ≠ .hostSubmit ∨ s.qState queue.val ≠ 2 ∨ s.portReady (s.qPort queue.val) = false ∨ s.fetchSpan queue.val = 0 → t = s)) ∧
  (∀ (queue : Fin 2097152) (res : FetchResult) (s : State), ∃ t, exec (.hostFetchCompletion queue res) s = .next t ∧ SameBut [.cores, .ev,
      .fld .QUEUE_LEVEL, .fld .QUEUE_STAT, .fld .QUEUE_WM, .queues, .spd, .spdPoison] s t ∧
    ((s.queue queue.val).reads = [] → t = s) ∧
    (∀ n rest, (s.queue queue.val).reads = n :: rest → (t.queue queue.val).reads = rest ∧
      (∀ es, s.qState queue.val = 2 → res = .data es → (t.queue queue.val).fetched = ((s.queue queue.val).fetched + n) % 65536 ∧ (t.queue
          queue.val).shadow = (s.queue queue.val).shadow + n ∧ t.qState queue.val = 2 ∧
        ∀ p i, s.qPhys queue.val = some p → n ≤ (s.queue queue.val).shadowSize → i < n →
          t.spdRd p ((s.queue queue.val).shadowAddr ((s.queue queue.val).fetched + i)) 64 = fitTo 64 ((es.drop i).headD [])) ∧
      (∀ c, s.qState queue.val = 2 → (res = .unsupported ∧ c = 2) ∨ (res = .abort ∧ c = 3) ∨ (res = .poisoned ∧ c = 4) → t.qState queue.val = 4 ∧
          t.fget F.QUEUE_STAT_FAULT_CAUSE queue.val = c ∧ t.fget F.QUEUE_STAT_FETCH_ERR queue.val = 1 ∧ Raised s t 0x0703 1))) ∧
  (∀ (queue : Fin 2097152) (s : State), ∃ t, exec (.hostCompletionTimeout queue) s = .next t ∧ SameBut [.ev, .fld .MOD_HOST_ERR_p, .fld .QUEUE_STAT,
      .queues] s t ∧
    ((s.queue queue.val).reads = [] → t = s) ∧
    (∀ n rest, (s.queue queue.val).reads = n :: rest → (t.queue queue.val).reads = rest ∧
      (s.qState queue.val = 2 → t.qState queue.val = 4 ∧ t.fget F.QUEUE_STAT_FAULT_CAUSE queue.val = 1 ∧ Raised s t 0x0703 1) ∧ (s.qState queue.val
          ≠ 2 → t.ev = s.ev ∧ t.qState queue.val = s.qState queue.val) ∧
      t.fget F.MOD_HOST_ERR_p_CPL_TIMEOUT (s.qPort queue.val) = min (s.fget F.MOD_HOST_ERR_p_CPL_TIMEOUT (s.qPort queue.val) + 1) (2 ^
          F.MOD_HOST_ERR_p_CPL_TIMEOUT.len - 1))) ∧
  (∀ (queue : Fin 2097152) (tc : Nat) (s : State), ∃ t, exec (.hostPostWrite queue tc) s = .next t ∧ SameBut [.fld .TC_NOW, .hostOut, .hports,
      .queues] s t ∧
    t.tc = s.clockAt tc ∧
    ((s.queue queue.val).posts = [] ∨ s.qState queue.val ≠ 2 ∨ s.portReady (s.qPort queue.val) = false → SameBut [.fld .TC_NOW] s t) ∧
    (∀ e rest n, (s.queue queue.val).posts = e :: rest → s.qState queue.val = 2 → s.portReady (s.qPort queue.val) = true → n = sub16 (s.queue
        queue.val).written (s.queue queue.val).posts.length → (t.queue queue.val).posts = rest ∧
{ port := s.qPort queue.val, addr := s.fget F.QUEUE_BASE_ADDR queue.val * 4096 + n % (s.queue queue.val).depth * 64, bytes := withPhase e n (s.queue queue.val).depth }
          ∈ t.hostOut)) ∧
  (∀ (queue : Fin 2097152) (tc : Nat) (s : State), ∃ t, exec (.msixHoldoffExpiry queue tc) s = .next t ∧ SameBut [.fld .TC_NOW, .hostOut, .hports,
      .queues] s t ∧
    t.tc = s.clockAt tc ∧
    ((s.queue queue.val).msgDue = false → SameBut [.fld .TC_NOW] s t) ∧
    ((s.queue queue.val).msgDue = true → (s.queue queue.val).lastMsg = none → (t.queue queue.val).msgDue = false ∧ (t.queue queue.val).lastMsg =
        some t.tc) ∧
    (∀ x, (s.queue queue.val).msgDue = true → (s.queue queue.val).lastMsg = some x → (s.clockAt tc < x + s.fget F.QUEUE_CTL_HOLDOFF queue.val * 1000
        → SameBut [.fld .TC_NOW] s t) ∧
      (x + s.fget F.QUEUE_CTL_HOLDOFF queue.val * 1000 ≤ s.clockAt tc → (t.queue queue.val).msgDue = false ∧ (t.queue queue.val).lastMsg = some
          t.tc))) ∧
  (∀ (queue : Fin 2097152) (s : State), ∃ t, exec (.queueDisableComplete queue) s = .next t ∧ SameBut [.ev, .fld .QUEUE_LEVEL, .fld .QUEUE_STAT,
      .fld .QUEUE_WM, .queues] s t ∧
    (s.qState queue.val ≠ 3 ∨ (s.queue queue.val).reads ≠ [] ∨ (s.queue queue.val).posts ≠ [] → t = s) ∧
    (s.qState queue.val = 3 → (s.queue queue.val).reads = [] → (s.queue queue.val).posts = [] → s.fget F.QUEUE_CTL_ENABLE queue.val = 0 → t.qState
        queue.val = 1) ∧
    (s.qState queue.val = 3 → (s.queue queue.val).reads = [] → (s.queue queue.val).posts = [] → s.fget F.QUEUE_CTL_ENABLE queue.val = 1 → t.qState
        queue.val = 2 ∧ (t.queue queue.val).tail = 0 ∧ (t.queue queue.val).fetched = 0))

/-- FLR, hot reset and link loss reset the port: Bus Master Enable and MSI-X enable are 0, and FLR_SEEN or LINK_LOST is set. A link comes up with its
speed, width and mode from Crucible's start on. Bus Master Enable follows the host. A formed event record is offered to ring 0 and to its flask's
ring; an occurrence window closes after 1 ms, which forms its record. A ring's head is written when it is not beyond what the ring holds. (R464,
R465, R469, R470, R471, R492, R494) -/
def Obligations.HostPortAndEventCommandsAct : Prop :=
  (∀ (port : HostId) (s : State), ∃ t, exec (.portFlr port) s = .next t ∧ SameBut [.fld .MOD_EVR_TAIL_n, .fld .MOD_HOST_ERR_p,
      .fld .MOD_HOST_STAT_p, .fld .QUEUE_CTL, .fld .QUEUE_STAT, .hports, .msix, .queues, .rings] s t ∧
    t.fget F.MOD_HOST_STAT_p_FLR_SEEN port.val = 1 ∧ t.fget F.MOD_HOST_STAT_p_BUS_MASTER port.val = 0 ∧ t.fget F.MOD_HOST_STAT_p_MSIX_EN port.val =
        0 ∧ t.hport port.val = HostPort.none) ∧
  (∀ (port : HostId) (perst : Bool) (s : State), ∃ t, exec (.portHotReset port perst) s = .next t ∧ SameBut [.fld .MOD_EVR_TAIL_n,
      .fld .MOD_HOST_ERR_p, .fld .MOD_HOST_STAT_p, .fld .QUEUE_CTL, .fld .QUEUE_STAT, .hports, .msix, .queues, .rings] s t ∧
    t.fget F.MOD_HOST_STAT_p_FLR_SEEN port.val = 1 ∧ t.fget F.MOD_HOST_STAT_p_BUS_MASTER port.val = 0 ∧ t.fget F.MOD_HOST_STAT_p_MSIX_EN port.val =
        0 ∧
    (perst = true → t.fget F.MOD_HOST_STAT_p_LINK_UP port.val = 0 ∧ t.fget F.MOD_HOST_STAT_p_SPEED port.val = 0)) ∧
  (∀ (port : HostId) (s : State), ∃ t, exec (.hostLinkLoss port) s = .next t ∧ SameBut [.fld .MOD_EVR_TAIL_n, .fld .MOD_HOST_ERR_p,
      .fld .MOD_HOST_STAT_p, .fld .QUEUE_CTL, .fld .QUEUE_STAT, .hports, .msix, .queues, .rings] s t ∧
    (s.fget F.MOD_HOST_STAT_p_LINK_UP port.val ≠ 1 → t = s) ∧
    (s.fget F.MOD_HOST_STAT_p_LINK_UP port.val = 1 → t.fget F.MOD_HOST_STAT_p_LINK_UP port.val = 0 ∧ t.fget F.MOD_HOST_STAT_p_SPEED port.val = 0 ∧
        t.fget F.MOD_HOST_STAT_p_LINK_LOST port.val = 1 ∧ t.fget F.MOD_HOST_STAT_p_BUS_MASTER port.val = 0)) ∧
  (∀ (port : HostId) (speed : Fin 7) (width : Fin 17) (flit : Bool) (s : State), ∃ t, exec (.hostLinkUp port speed width flit) s = .next t ∧ SameBut
      [.fld .MOD_EVR_TAIL_n, .fld .MOD_HOST_STAT_p] s t ∧
    (s.fget F.MOD_BOOT_STAT_STAGE 0 = 0 ∨ speed.val = 0 ∨ [1, 2, 4, 8, 16].elem width.val = false → t = s) ∧
    (1 ≤ s.fget F.MOD_BOOT_STAT_STAGE 0 → 1 ≤ speed.val → [1, 2, 4, 8, 16].elem width.val = true → t.fget F.MOD_HOST_STAT_p_LINK_UP port.val = 1 ∧
        t.fget F.MOD_HOST_STAT_p_SPEED port.val = speed.val % 2 ^ F.MOD_HOST_STAT_p_SPEED.len ∧ t.fget F.MOD_HOST_STAT_p_WIDTH port.val = width.val
        % 2 ^ F.MOD_HOST_STAT_p_WIDTH.len ∧ t.fget F.MOD_HOST_STAT_p_FLIT port.val = b2n flit)) ∧
  (∀ (port : HostId) (on : Bool) (s : State), ∃ t, exec (.busMasterEnable port on) s = .next t ∧ SameBut [.fld .MOD_HOST_STAT_p, .hostOut, .hports]
      s t ∧
    t.fget F.MOD_HOST_STAT_p_BUS_MASTER port.val = b2n on) ∧
  (∀ (s : State), ∃ t, exec .eventRecordWrite s = .next t ∧ SameBut [.ev, .fld .MOD_EVR_TAIL_n, .hostOut, .hports, .rings] s t ∧
    (s.ev.formed = [] → t = s) ∧
    (∀ r rest, s.ev.formed = r :: rest → t.ev.formed = rest)) ∧
  (∀ (index : Fin 256) (tc : Nat) (s : State), ∃ t, exec (.eventWindowClose index tc) s = .next t ∧ SameBut [.ev, .fld .TC_NOW] s t ∧
    t.tc = s.clockAt tc ∧
    (s.ev.windows[index.val]? = none → SameBut [.fld .TC_NOW] s t) ∧
    (∀ w, s.ev.windows[index.val]? = some w → (s.clockAt tc < w.tcFirst + 1000000 → SameBut [.fld .TC_NOW] s t) ∧
      (w.tcFirst + 1000000 ≤ s.clockAt tc → t.ev = EventSt.form { s.ev with windows := s.ev.windows.eraseIdx index.val } w))) ∧
  (∀ (ring : Fin 17) (head : BitVec 32) (s : State), ∃ t, exec (.evrHeadWrite ring head) s = .next t ∧ SameBut [.fld .MOD_EVR_HEAD_n,
      .fld .MOD_EVR_TAIL_n, .hostOut, .hports, .rings] s t ∧
    ((s.ring ring.val).configured = false ∨ 2 ^ (s.ring ring.val).depthLog2 < (s.fget F.MOD_EVR_TAIL_n_TAIL ring.val + 2 ^ 32 - head.toNat) % 2 ^ 32
        → t = s) ∧
    ((s.ring ring.val).configured = true → (s.fget F.MOD_EVR_TAIL_n_TAIL ring.val + 2 ^ 32 - head.toNat) % 2 ^ 32 ≤ 2 ^ (s.ring ring.val).depthLog2
        → t.fget F.MOD_EVR_HEAD_n_HEAD ring.val = head.toNat % 2 ^ F.MOD_EVR_HEAD_n_HEAD.len))

/-- For every command c and state s whose queue begins with c, the step of s is exec of c on s with the queue's rest. First in, first out is the
model's own queue (log entry 2). (What each step holds (spec/95_what_each_step_holds.md)) -/
def Obligations.StepRunsTheFrontCommand : Prop :=
  ∀ (c : Instr) (cs : List Instr) (s : State), s.pending = c :: cs → step s = exec c { s with pending := cs }

/-- A step that answers a next state leaves the queue without its front command, whatever that command did: no command sends another. On an empty
queue a nanosecond passes (a design choice, log entry 2): outside STANDBY, which takes the TC domain's supply, TC advances by 1, or in a slewed
nanosecond, at least 1,024 ns after the last one, by 2 or 0, and one nanosecond less is left to slew. Nothing else changes. (R66, R67, R70, What
each step holds (spec/95_what_each_step_holds.md)) -/
def Obligations.StepTakesOneCommandOrTicks : Prop :=
  (∀ s : State, s.pending = [] → ∃ t, step s = .next t ∧ SameBut [.align, .fld .TC_NOW] s t ∧
    (s.pstate = 4 → t = s) ∧
    (s.pstate ≠ 4 → s.align.slew = 0 ∨ s.tc < s.align.slewedAt + 1024 → t.tc = (s.tc + 1) % 2 ^ 64 ∧ t.align = s.align) ∧
    (s.pstate ≠ 4 → 0 < s.align.slew → s.align.slewedAt + 1024 ≤ s.tc → t.tc = (s.tc + 2) % 2 ^ 64 ∧
      t.align = { s.align with slew := s.align.slew - 1, slewedAt := s.tc }) ∧
    (s.pstate ≠ 4 → s.align.slew < 0 → s.align.slewedAt + 1024 ≤ s.tc → t.tc = s.tc % 2 ^ 64 ∧
      t.align = { s.align with slew := s.align.slew + 1, slewedAt := s.tc })) ∧
  (∀ s t : State, step s = .next t → t.pending = s.pending.tail)

/-- If the state is well formed (memories, maps and sets in their canonical form, every register field below 2 to its width, nothing stored for the
registers the hardware fixes) and the step answers a next state, that state is well formed, for every command at the front of the queue. (R17,
R18, R54, R62) -/
def Obligations.StepKeepsTheStateWellFormed : Prop :=
  ∀ s t : State, s.Wf → step s = .next t → t.Wf

/-- The state after reset is well formed, no command waits, every register field holds the reset value of its table (a field whose table gives none
holds the model's value, log entry 4), and memory lists nothing. (R17, R54, R62, R88) -/
def Obligations.ResetIsWellFormedAndAtResetValues : Prop :=
  State.reset.Wf ∧ State.reset.pending = [] ∧ (∀ f i, State.reset.fget f i = f.resetAt i) ∧ State.reset.spd = [] ∧ State.reset.dram = []

/-- For every command and every state exec answers a next state, or the command is an input sample below -1 V or above 65 V, where the ratings of the
module end and the outcome is the fault beyondRatings. No command is refused. (R705) -/
def Obligations.OnlyInputSamplesBeyondTheRatingsStop : Prop :=
  ∀ (c : Instr) (s : State), (∃ t, exec c s = .next t) ∨
    ∃ (mv : Int) (ta watts tc : Nat), c = .inputSample mv ta watts tc ∧ (mv < -1000 ∨ 65000 < mv) ∧ exec c s = .fault .beyondRatings

/-- In a well-formed state in which a flask of the pour runs and the counter does not stand at its very end, every command leaves TC or moves it on.
Excepted are power-on and the end of an entry, which may follow a loss of the TC domain's supply. (R66, R67, R70) -/
def Obligations.TimeNeverRunsBackwardWhileThePourRuns : Prop :=
  ∀ (c : Instr) (s t : State), s.Wf → s.pourRuns = true → s.tc + 2 < 2 ^ 64 →
    (∀ env straps low, c ≠ .powerOn env straps low) → (∀ tc, c ≠ .pstateEntryComplete tc) → exec c s = .next t → s.tc ≤ t.tc

/-- Outside power-on, module reset and the loss of a power domain, PWR_CAP.CAP_W changes only by MB_CAP_SET, CCH_PART.STREAM_WAYS only by
MB_CACHE_PART_SET, and PEP_CTL.SHARE only at a frame boundary, to the share that MB_PEPPER_SET asked for. PST_TICKS follows the wake timer alone.
(R301, R525, R545, R634) -/
def Obligations.SomeRegistersHaveOneWriter : Prop :=
  ∀ (c : Instr) (s t : State), s.Wf → clearsBlocks c = false → exec c s = .next t →
    ((∀ k, c ≠ .mbCapSet k) → t.fget F.PWR_CAP_CAP_W 0 = s.fget F.PWR_CAP_CAP_W 0) ∧
    ((∀ k, c ≠ .mbCachePartSet k) → ∀ i, t.fget F.CCH_PART_STREAM_WAYS i = s.fget F.CCH_PART_STREAM_WAYS i) ∧
    ((∀ tc, c ≠ .frameBoundary tc) → t.fget F.PEP_CTL_SHARE 0 = s.fget F.PEP_CTL_SHARE 0) ∧
    ((∀ n, c ≠ .wakeTimer n) → t.fget F.PST_TICKS_COUNT 0 = s.fget F.PST_TICKS_COUNT 0)

/-- In every well-formed state MOD_ID, the register at offset 0, reads family 0x0003, part 0x0020, stepping 0xB0, compatibility level 0x01 and zero in
its reserved bits, whatever commands came before. (R54) -/
def Obligations.IdentityIsHardWired : Prop :=
  Reg.MOD_ID.place.base = 0 ∧ ∀ s : State, s.Wf → s.regVal .MOD_ID 0 = 0x0003_0020_B001_0000 ∧
    s.fget F.MOD_ID_FAMILY 0 = 0x0003 ∧ s.fget F.MOD_ID_PART 0 = 0x0020 ∧ s.fget F.MOD_ID_STEPPING 0 = 0xB0 ∧ s.fget F.MOD_ID_COMPAT_LEVEL 0 = 0x01

/-- In a well-formed state every bit of a register outside its fields reads 0. A write of all 64 bits of a register without an effect of its own
leaves each field as its type says: RW takes the bits, but keeps its value under a reserved encoding while the other fields take effect; W1C
clears the bits written 1 but those that hardware sets in the same cycle; W1S sets them; the others are unchanged. From the host it does so while
the port and the mailbox are served. (R18) -/
def Obligations.RegisterWritesFollowTheFieldTypes : Prop :=
  (∀ (s : State) (r : Reg) (i b : Nat), s.Wf → (∀ f ∈ r.fields, b < f.lo ∨ f.lo + f.len ≤ b) → bitOf (s.regVal r i) b = false) ∧
  (∀ (src : Src) (off : Nat) (data : List Byte) (hw : Word) (r : Reg) (i : Nat) (s : State), s.Wf → off % 8 = 0 → off < 0xF00000 → data.length = 8 →
    Reg.atBar0 off = some (r, i) → actsOnWrite r = false →
    (src = .crucible ∨ ∃ p, src = .host p ∧ s.hostServed p.val = true ∧ s.mbServed = true ∧ hostReadOnly r = false) →
    ∃ t, exec (.registerWrite src (.bar0 off) data hw) s = .next t ∧ SameBut [.fld r] s t ∧
      ∀ f ∈ r.fields, t.fget f i = fieldAfter f (s.fget f i) (leNat data) hw.toNat)

/-- A running MB_POUR_LEAVE ends with 0x0228 while a flask of the pour runs on the module. Otherwise MOD_POUR_ID reads 0, TC_ALIGN_STAT.STATE is FREE,
the forwarding table is empty, and every port keeps its state and its keys. (R422) -/
def Obligations.LeavingThePour : Prop :=
  ∀ (k : Fin 17) (s : State), s.mbRuns k.val 0x0203 = true → ∃ t, exec (.mbPourLeave k) s = .next t ∧ SameBut [.align, .ctl, .fld .MOD_MB_SUMMARY,
      .fld .MOD_POUR_ID, .fld .RUN_STAT, .fld .TC_ALIGN_STAT, .hostOut, .hports, .pour, .slots] s t ∧
    (s.pourRuns = true → SlotFailed t k.val 0x0228 ∧ t.pour = s.pour ∧ t.regVal .MOD_POUR_ID 0 = s.regVal .MOD_POUR_ID 0) ∧
    (s.pourRuns = false → SlotDone t k.val 0 ∧ t.regVal .MOD_POUR_ID 0 = 0 ∧ t.fget F.TC_ALIGN_STAT_STATE 0 = 0 ∧ t.pour.routes = []) ∧
    ∀ p, t.portState p = s.portState p ∧ (t.port p).keys = (s.port p).keys

/-- s0 of every core reads 0 and a write to it changes nothing; a write to another of the 32 registers holds 64 bits and leaves the rest alone. A
flask reset leaves every scalar register of the flask's cores at 0 and no hardware loop counting. (R209) -/
def Obligations.ScalarRegistersAndTheirReset : Prop :=
  (∀ (s : State) (p : Nat), s.scalar p 0 = 0) ∧ (∀ (s : State) (p v : Nat), Eff.on (setScalar p 0 v) s = s) ∧
  (∀ (s : State) (p r v q n : Nat), 0 < r → (Eff.on (setScalar p r v) s).scalar q n = (if q = p ∧ n = r then v % 2 ^ 64 else s.scalar q n)) ∧
  (∀ (k : Fin 17) (s : State), s.mbRuns k.val 0x0109 = true → (s.slot k.val).phase = 0 → (s.flask (leAt (s.slot k.val).args 0 1)).live = true →
    ∃ t, exec (.mbFlaskReset k) s = .next t ∧ SameBut [.cores, .dbg, .flasks, .fld .CORE_MOULD, .fld .CORE_SC, .fld .CORE_SEQ, .fld .CORE_STAT,
        .fld .DBG_HOLD, .fld .LDL_CTX_n, .fld .ME_STAT, .fld .MOD_GRID_STAT, .fld .MOD_MB_SUMMARY, .fld .QUEUE_BASE, .fld .QUEUE_CTL,
        .fld .QUEUE_DB, .fld .QUEUE_LEVEL, .fld .QUEUE_STAT, .fld .QUEUE_WM, .fld .SE_STAT, .fld .SPR_STAT, .fld .VU_STAT, .hostOut, .hports, .ldls,
        .mes, .pour, .queues, .ses, .slots, .vus] s t ∧
      ∀ p, p ∈ s.flaskPhys (leAt (s.slot k.val).args 0 1) → (t.core p).loops = [] ∧ ∀ r, t.scalar p r = 0)

/-- W is at most 14, at most the number of healthy cores of each of the ten core-rows, and equals one of them; a core is healthy when the slag map's
entry for it, if any, does not record it as fenced; and after an in-service fence WIDTH holds W of the map as it then is. (R32) -/
def Obligations.TheWidthFollowsTheSlagMap : Prop :=
  (∀ s : State, s.slagWidth ≤ 14 ∧ (∀ r, r < 10 → s.slagWidth ≤ s.healthyIn r) ∧ (s.slagWidth = 14 ∨ ∃ r, r < 10 ∧ s.slagWidth = s.healthyIn r)) ∧
  (∀ (s : State) (r : Nat), s.healthyIn r = ((List.range 16).filter (fun c => s.healthy (r * 16 + c))).length) ∧
  (∀ (s : State) (p : Nat), s.healthy p = true ↔ ∀ e, s.slagEntry 1 p = some e → e.state ≠ 1) ∧
  (∀ (core : CoreId) (reason : Nat) (bad : List Nat) (s : State), s.repairWaits 1 core.val = [] → s.healthy core.val = true →
    ∃ t, exec (.inServiceFence core reason bad) s = .next t ∧ SameBut [.cores, .dbg, .ev, .faults, .flasks, .fld .CLU_CORES, .fld .CORE_MOULD,
        .fld .CORE_SC, .fld .CORE_SEQ, .fld .CORE_STAT, .fld .DBG_HOLD, .fld .LDL_CTX_n, .fld .ME_CAP, .fld .ME_STAT, .fld .MOD_BOOT_ERR,
        .fld .MOD_FAULT_STAT, .fld .MOD_GRID_STAT, .fld .MOD_MB_SUMMARY, .fld .MOD_ROW_MAP_r, .fld .PWR_CLUSTER_c, .fld .PWR_TILE_t,
        .fld .QUEUE_BASE, .fld .QUEUE_CTL, .fld .QUEUE_DB, .fld .QUEUE_LEVEL, .fld .QUEUE_STAT, .fld .QUEUE_WM, .fld .RUN_ERR, .fld .RUN_STAT,
        .fld .SE_STAT, .fld .SPD_ELASTIC, .fld .SPD_STAT, .fld .SPR_STAT, .fld .VU_STAT, .hostOut, .hports, .ldls, .mes, .msgs, .ports, .power,
        .queues, .seam, .ses, .slag, .slots, .vus] s t ∧ t.fget F.MOD_GRID_STAT_WIDTH 0 = t.slagWidth)

/-- A fence that leaves W below 8 sets OUT_OF_SERVICE. While OUT_OF_SERVICE is 1, a submission of MB_MOULD_LOAD to an open slot fails at acceptance.
(R35) -/
def Obligations.TooNarrowIsOutOfService : Prop :=
  (∀ (core : CoreId) (reason : Nat) (bad : List Nat) (s : State), s.repairWaits 1 core.val = [] → s.healthy core.val = true →
    ∃ t, exec (.inServiceFence core reason bad) s = .next t ∧ SameBut [.cores, .dbg, .ev, .faults, .flasks, .fld .CLU_CORES, .fld .CORE_MOULD,
        .fld .CORE_SC, .fld .CORE_SEQ, .fld .CORE_STAT, .fld .DBG_HOLD, .fld .LDL_CTX_n, .fld .ME_CAP, .fld .ME_STAT, .fld .MOD_BOOT_ERR,
        .fld .MOD_FAULT_STAT, .fld .MOD_GRID_STAT, .fld .MOD_MB_SUMMARY, .fld .MOD_ROW_MAP_r, .fld .PWR_CLUSTER_c, .fld .PWR_TILE_t,
        .fld .QUEUE_BASE, .fld .QUEUE_CTL, .fld .QUEUE_DB, .fld .QUEUE_LEVEL, .fld .QUEUE_STAT, .fld .QUEUE_WM, .fld .RUN_ERR, .fld .RUN_STAT,
        .fld .SE_STAT, .fld .SPD_ELASTIC, .fld .SPD_STAT, .fld .SPR_STAT, .fld .VU_STAT, .hostOut, .hports, .ldls, .mes, .msgs, .ports, .power,
        .queues, .seam, .ses, .slag, .slots, .vus] s t ∧ (t.slagWidth < 8 → t.fget F.MOD_GRID_STAT_OUT_OF_SERVICE 0 = 1)) ∧
  (∀ (slot : Fin 16) (submit : Word) (tc : Nat) (s : State), s.mbServed = true → (s.slot slot.val).isOpen = true → s.fget
      F.MOD_GRID_STAT_OUT_OF_SERVICE 0 = 1 →
    submit.toNat % 2 ^ 16 = 0x0103 → bitOf submit.toNat 63 = true →
    ∃ t, exec (.mbSubmit slot submit 255 tc) s = .next t ∧ SameBut [.fld .MOD_MB_SUMMARY, .fld .TC_NOW, .hostOut, .hports, .mbOrder, .slots] s t ∧
        (t.slot slot.val).state = 5 ∧ (t.slot slot.val).cmd = 0x0103)

/-- For a slot that is no tenant's, a running MB_FLASK_LIST is done, and byte 16f of its payload begins the record of flask f: its number; 0 when it
does not exist, else 1 + the state of its cores; the number of its cores; its generation; base and size in GiB; and the low 32 bits of its active
Mould's identity. (R487) -/
def Obligations.FlaskListRecords : Prop :=
  ∀ (k : Fin 17) (s : State), s.mbRuns k.val 0x0004 = true → s.tenant k.val = false →
    ∃ t, exec (.mbFlaskList k) s = .next t ∧ SameBut [.fld .MOD_MB_SUMMARY, .hostOut, .hports, .slots] s t ∧ SlotDone t k.val 0 ∧ (t.slot
        k.val).resultLen = 256 ∧
    ∀ f, f < 16 → Mem.rdN (t.slot k.val).payload (16 * f) 2 = natLe 1 f ++ natLe 1 (if (s.flask f).live then 1 + s.flaskState f else 0) ∧
      ((s.flask f).live = true → Mem.rdN (t.slot k.val).payload (16 * f + 2) 14 = natLe 2 (s.flask f).cores.length ++ natLe 4 (s.flask f).gen ++
          natLe 2 (s.flask f).baseGib ++ natLe 2 (s.flask f).gib ++ natLe 4 ((s.flask f).active.id % 2 ^ 32))

/-- An access for this module that fails a check of R47 puts its address into MOD_FA_FAULT_ADDR and sets VALID when VALID was 0, and leaves the
address while VALID is 1; clearing VALID keeps the address. The register lies at offset 0x0200, is RO, and is 0 at reset. (R58) -/
def Obligations.TheFirstDecodeFaultIsHeld : Prop :=
  Reg.MOD_FA_FAULT_ADDR.place.base = 0x0200 ∧ F.MOD_FA_FAULT_ADDR_FA = { reg := .MOD_FA_FAULT_ADDR, lo := 0, len := 64, ty := .ro, reset := 0 } ∧
  (∀ (req : FabricReq) (s : State), faModule req.fa = s.module →
    s.faReason { crucible := req.crucible, flask := req.flask.map (fun f => f.val), tag := req.pourTag } req.fa (opLen req.op) (opWrites req.op)
        (formOk req.fa req.op) ≠ 0 →
    ∃ t, exec (.fabricAccess req) s = .next t ∧ SameBut [.caches, .cores, .dram, .dramPoison, .dramWritten, .ev, .fld .CCH_HITS, .fld .CCH_MISSES,
        .fld .CORE_QSTAT, .fld .MOD_FA_FAULT_ADDR, .fld .MOD_FA_FAULT_INFO, .fld .MOD_HOST_ERR_p, .fld .PWR_TELEM_IN_p, .fld .QUEUE_BASE,
        .fld .QUEUE_CTL, .fld .QUEUE_LEVEL, .fld .QUEUE_STAT, .fld .QUEUE_WM, .fld .SPD_ELASTIC, .flds, .msgs, .ports, .queues, .resp, .spd,
        .spdPoison] s t ∧ t.fget F.MOD_FA_FAULT_INFO_VALID 0 = 1 ∧
      t.fget F.MOD_FA_FAULT_ADDR_FA 0 = (if s.fget F.MOD_FA_FAULT_INFO_VALID 0 = 1 then s.fget F.MOD_FA_FAULT_ADDR_FA 0 else req.fa % 2 ^ 64)) ∧
  (∀ s : State, ∃ t, exec (.faFaultValidClear none) s = .next t ∧ SameBut [.caches, .cores, .dram, .dramPoison, .dramWritten, .ev, .fld .CCH_HITS,
      .fld .CCH_MISSES, .fld .CORE_QSTAT, .fld .MOD_FA_FAULT_ADDR, .fld .MOD_FA_FAULT_INFO, .fld .MOD_HOST_ERR_p, .fld .PWR_TELEM_IN_p,
      .fld .QUEUE_BASE, .fld .QUEUE_CTL, .fld .QUEUE_LEVEL, .fld .QUEUE_STAT, .fld .QUEUE_WM, .fld .SPD_ELASTIC, .flds, .msgs, .ports, .queues,
      .resp, .spd, .spdPoison] s t ∧
    t.fget F.MOD_FA_FAULT_INFO_VALID 0 = 0 ∧ t.fget F.MOD_FA_FAULT_ADDR_FA 0 = s.fget F.MOD_FA_FAULT_ADDR_FA 0)

/-- A write of all bits of SAF_SLOT_ROLE by a served host while LOCK is 0 puts its low 16 bits into TENANT, whose bit s makes slot s a tenant, and a 1
in bit 16 sets LOCK, which a 0 does not clear. While LOCK is 1, writes of SAF_SLOT_ROLE and of SAF_SLOT_FLASK change nothing. Both fields are 0 at
reset. (R668) -/
def Obligations.SlotRolesUntilTheLock : Prop :=
  F.SAF_SLOT_ROLE_TENANT = { reg := .SAF_SLOT_ROLE, lo := 0, len := 16, ty := .rw, reset := 0 } ∧ F.SAF_SLOT_ROLE_LOCK =
      { reg := .SAF_SLOT_ROLE, lo := 16, len := 1, ty := .w1s, reset := 0 } ∧
  Reg.SAF_SLOT_ROLE.place.base = 0x50000 + 0x008 ∧ (∀ s : State, s.Wf → s.regVal .SAF_SLOT_ROLE 0 < 2 ^ 17) ∧
  (∀ (val : Word) (s : State), s.Wf → s.mbServed = true → s.fget F.SAF_SLOT_ROLE_LOCK 0 = 0 → ∃ t, exec (.slotRoleWrite val 255) s = .next t ∧
      SameBut [.fld .SAF_SLOT_ROLE] s t ∧
    (∀ k, k < 16 → t.tenant k = bitOf val.toNat k) ∧ t.fget F.SAF_SLOT_ROLE_LOCK 0 = bitsOf val.toNat 16 1) ∧
  (∀ (val : Word) (m : Fin 256) (s : State), s.fget F.SAF_SLOT_ROLE_LOCK 0 = 1 → exec (.slotRoleWrite val m) s = .next s ∧ exec (.slotFlaskWrite val
      m) s = .next s)

/-- A grant record in form that a check refuses raises DBG_AUTH_FAIL and counts in FAILS; when FAILS reaches four the lockout begins, of 60 s of
SAF_SECONDS; a grant that is accepted starts the count again. While a lockout lasts AUTH_REQ answers 0x07; at its second it is over, and AUTH_REQ
answers again. (R679) -/
def Obligations.RefusedGrantsLockOut : Prop :=
  (∀ (v : Bool) (seconds : Nat) (r : SlosyReq) (why : Nat) (s : State), s.dbg.req = some r → r.cmd = 0x03 → grantForm r.payload = true →
      s.grantRefusal r.payload v = some why →
    ∃ t, exec (.slosyAuthGrant v seconds) s = .next t ∧ SameBut [.dbg, .ev, .fld .DBG_STAT, .fld .MOD_APERTURE_CTL, .fld .SAF_SECONDS, .freeCtr,
        .msgs, .resp] s t ∧ Raised s t 0x0C02 0 ∧
      t.fget F.DBG_STAT_FAILS 0 = min (s.fget F.DBG_STAT_FAILS 0 + 1) (2 ^ F.DBG_STAT_FAILS.len - 1) ∧
      (s.fget F.DBG_STAT_FAILS 0 = 3 → t.dbg.lockEnd = some (t.fget F.SAF_SECONDS_SECONDS 0 + 60)) ∧ (s.fget F.DBG_STAT_FAILS 0 < 3 → t.dbg.lockEnd
          = s.dbg.lockEnd)) ∧
  (∀ (v : Bool) (seconds : Nat) (r : SlosyReq) (s : State), s.dbg.req = some r → r.cmd = 0x03 → grantForm r.payload = true → s.grantRefusal
      r.payload v = none →
    ∃ t, exec (.slosyAuthGrant v seconds) s = .next t ∧ SameBut [.dbg, .ev, .fld .DBG_STAT, .fld .MOD_APERTURE_CTL, .fld .SAF_SECONDS, .freeCtr,
        .msgs, .resp] s t ∧ t.fget F.DBG_STAT_FAILS 0 = 0) ∧
  (∀ (r : SlosyReq) (s : State), s.dbg.req = some r → r.cmd = 0x02 → ∃ t, exec .slosyAuthReq s = .next t ∧ SameBut [.dbg, .freeCtr, .msgs, .resp] s
      t ∧
    (s.dbg.lockEnd.isSome = true → SlosyAnswered t r 7 []) ∧ (s.dbg.lockEnd = none → ∃ bytes, SlosyAnswered t r 0 bytes)) ∧
  (∀ (seconds e : Nat) (s : State), s.dbg.lockEnd = some e → ∃ t, exec (.authLockoutExpiry seconds) s = .next t ∧ SameBut [.dbg, .fld .SAF_SECONDS]
      s t ∧
    t.dbg.lockEnd = (if e ≤ t.fget F.SAF_SECONDS_SECONDS 0 then none else some e))

/-- In every state a fault of an auxiliary rail raises PWR_AUX_FAULT with severity FATAL, takes no power tile and no spare, and leaves no running
flask: the cores of every flask that ran are HALTED. (R498) -/
def Obligations.AuxiliaryRailFaultsAreFatal : Prop :=
  ∀ s : State, ∃ t, exec .pwrAuxFault s = .next t ∧ SameBut [.dbg, .ev, .faults, .flasks, .fld .CORE_STAT, .fld .DBG_HOLD, .fld .MOD_FAULT_STAT,
      .fld .MOD_MB_SUMMARY, .fld .SPR_STAT, .hostOut, .hports, .msgs, .slots] s t ∧ Raised s t 0x0803 3 ∧
    ∀ f p, f ∈ s.running → p ∈ s.mouldPhys f → t.coreState p = 4
end

