-- ==== Sys2Proof/Laws/Arms.lean ====
section
/-! SUPPORT. What each arm of `exec` is: the meaning of its command. -/
namespace Sys2Proof.Machine

theorem exec_registerWrite (src : Src) (tgt : RegTarget) (data : List Byte) (hwSet : Word) (s : State) : exec (.registerWrite src tgt data hwSet) s = execRegisterWrite src tgt data hwSet s := rfl
theorem exec_faFaultValidClear (fault : Option FabricReq) (s : State) : exec (.faFaultValidClear fault) s = execFaFaultValidClear fault s := rfl
theorem exec_apertureDeniedRead (s : State) : exec (.apertureDeniedRead) s = execApertureDeniedRead s := rfl
theorem exec_peakClr (cluster : ClusterId) (s : State) : exec (.peakClr cluster) s = execPeakClr cluster s := rfl
theorem exec_fabricAccess (req : FabricReq) (s : State) : exec (.fabricAccess req) s = execFabricAccess req s := rfl
theorem exec_hostDramAccess (port : HostId) (off len : Nat) (data : Option (List Byte)) (s : State) : exec (.hostDramAccess port off len data) s = execHostDramAccess port off len data s := rfl
theorem exec_apertureAccess (port : HostId) (core : CoreId) (off : BitVec 28) (len : Nat) (data : Option (List Byte)) (s : State) : exec (.apertureAccess port core off len data) s = execApertureAccess port core off len data s := rfl
theorem exec_trackGroupFailure (segment : Fin 31) (group : Fin 272) (linkCore : CoreId) (reason : Nat) (s : State) : exec (.trackGroupFailure segment group linkCore reason) s = execTrackGroupFailure segment group linkCore reason s := rfl
theorem exec_trackGroupSubstitution (segment : Fin 31) (group : Fin 272) (s : State) : exec (.trackGroupSubstitution segment group) s = execTrackGroupSubstitution segment group s := rfl
theorem exec_inServiceFence (core : CoreId) (reason : Nat) (agentBad : List Nat) (s : State) : exec (.inServiceFence core reason agentBad) s = execInServiceFence core reason agentBad s := rfl
theorem exec_syncTimer (port : PortId) (tc : Nat) (s : State) : exec (.syncTimer port tc) s = execSyncTimer port tc s := rfl
theorem exec_syncReq (port : PortId) (msg : SyncMsg) (rxTc : Nat) (txTc : Nat) (s : State) : exec (.syncReq port msg rxTc txTc) s = execSyncReq port msg rxTc txTc s := rfl
theorem exec_syncRsp (port : PortId) (msg : SyncMsg) (rxTc : Nat) (calib skew : Int) (s : State) : exec (.syncRsp port msg rxTc calib skew) s = execSyncRsp port msg rxTc calib skew s := rfl
theorem exec_upstreamPortLost (port : PortId) (altAccepted : Bool) (s : State) : exec (.upstreamPortLost port altAccepted) s = execUpstreamPortLost port altAccepted s := rfl
theorem exec_acquireTimeout (tc : Nat) (s : State) : exec (.acquireTimeout tc) s = execAcquireTimeout tc s := rfl
theorem exec_holdoverErrorLimit (tc : Nat) (s : State) : exec (.holdoverErrorLimit tc) s = execHoldoverErrorLimit tc s := rfl
theorem exec_frameBoundary (tc : Nat) (s : State) : exec (.frameBoundary tc) s = execFrameBoundary tc s := rfl
theorem exec_holdPointStart (tc : Nat) (s : State) : exec (.holdPointStart tc) s = execHoldPointStart tc s := rfl
theorem exec_flaskEpochStart (flask : FlaskId) (tc : Nat) (s : State) : exec (.flaskEpochStart flask tc) s = execFlaskEpochStart flask tc s := rfl
theorem exec_armSend (tc : Nat) (s : State) : exec (.armSend tc) s = execArmSend tc s := rfl
theorem exec_arm (rec : Decision) (offGrid : Bool) (regionFault : Bool) (s : State) : exec (.arm rec offGrid regionFault) s = execArm rec offGrid regionFault s := rfl
theorem exec_ack (port : PortId) (seq_ : Nat) (s : State) : exec (.ack port seq_) s = execAck port seq_ s := rfl
theorem exec_armDeadline (tc : Nat) (s : State) : exec (.armDeadline tc) s = execArmDeadline tc s := rfl
theorem exec_go (rec : Decision) (s : State) : exec (.go rec) s = execGo rec s := rfl
theorem exec_withdraw (rec : Decision) (s : State) : exec (.withdraw rec) s = execWithdraw rec s := rfl
theorem exec_goDeadline (tc : Nat) (s : State) : exec (.goDeadline tc) s = execGoDeadline tc s := rfl
theorem exec_decisionCommit (tc : Nat) (relockFail : List Nat) (s : State) : exec (.decisionCommit tc relockFail) s = execDecisionCommit tc relockFail s := rfl
theorem exec_seqIdle (core : CoreId) (n : BitVec 32) (s : State) : exec (.seqIdle core n) s = execSeqIdle core n s := rfl
theorem exec_seqIssue (core : CoreId) (unit : Fin 72) (index : Fin 4096) (reloc : Fin 32) (mask : BitVec 9) (s : State) : exec (.seqIssue core unit index reloc mask) s = execSeqIssue core unit index reloc mask s := rfl
theorem exec_seqLdl (core : CoreId) (engine : Fin 4) (index : Fin 4096) (reloc : Fin 32) (mask : BitVec 16) (s : State) : exec (.seqLdl core engine index reloc mask) s = execSeqLdl core engine index reloc mask s := rfl
theorem exec_seqWaits (core : CoreId) (base : Fin 32) (offset : BitVec 48) (s : State) : exec (.seqWaits core base offset) s = execSeqWaits core base offset s := rfl
theorem exec_seqLoop (core : CoreId) (ctr : Fin 4) (fromReg : Bool) (reg : Fin 32) (count : BitVec 32) (last : Nat) (s : State) : exec (.seqLoop core ctr fromReg reg count last) s = execSeqLoop core ctr fromReg reg count last s := rfl
theorem exec_seqBr (core : CoreId) (cond : Fin 5) (a : Fin 32) (b : Fin 64) (target : Nat) (len : BitVec 32) (s : State) : exec (.seqBr core cond a b target len) s = execSeqBr core cond a b target len s := rfl
theorem exec_aluAdd (core : CoreId) (rd ra rb : Fin 32) (s : State) : exec (.aluAdd core rd ra rb) s = execAluAdd core rd ra rb s := rfl
theorem exec_aluSub (core : CoreId) (rd ra rb : Fin 32) (s : State) : exec (.aluSub core rd ra rb) s = execAluSub core rd ra rb s := rfl
theorem exec_aluAnd (core : CoreId) (rd ra rb : Fin 32) (s : State) : exec (.aluAnd core rd ra rb) s = execAluAnd core rd ra rb s := rfl
theorem exec_aluOr (core : CoreId) (rd ra rb : Fin 32) (s : State) : exec (.aluOr core rd ra rb) s = execAluOr core rd ra rb s := rfl
theorem exec_aluXor (core : CoreId) (rd ra rb : Fin 32) (s : State) : exec (.aluXor core rd ra rb) s = execAluXor core rd ra rb s := rfl
theorem exec_aluShl (core : CoreId) (rd ra rb : Fin 32) (s : State) : exec (.aluShl core rd ra rb) s = execAluShl core rd ra rb s := rfl
theorem exec_aluShr (core : CoreId) (rd ra rb : Fin 32) (s : State) : exec (.aluShr core rd ra rb) s = execAluShr core rd ra rb s := rfl
theorem exec_aluLi (core : CoreId) (rd : Fin 32) (imm : Word) (s : State) : exec (.aluLi core rd imm) s = execAluLi core rd imm s := rfl
theorem exec_aluAddi (core : CoreId) (rd ra : Fin 32) (imm : Word) (s : State) : exec (.aluAddi core rd ra imm) s = execAluAddi core rd ra imm s := rfl
theorem exec_aluReadSc (core : CoreId) (rd : Fin 32) (s : State) : exec (.aluReadSc core rd) s = execAluReadSc core rd s := rfl
theorem exec_seqTmeta (core : CoreId) (rd : Fin 32) (tag : Fin 4096) (s : State) : exec (.seqTmeta core rd tag) s = execSeqTmeta core rd tag s := rfl
theorem exec_seqWaita (core : CoreId) (rd : Fin 32) (ctr : Fin 4096) (thr : Fin 32) (isFault : Bool) (n : BitVec 32) (s : State) : exec (.seqWaita core rd ctr thr isFault n) s = execSeqWaita core rd ctr thr isFault n s := rfl
theorem exec_waitaCompare (core : CoreId) (sameCycle : Nat) (s : State) : exec (.waitaCompare core sameCycle) s = execWaitaCompare core sameCycle s := rfl
theorem exec_qopSend (core : CoreId) (queue : Fin 8192) (rd areg : Fin 32) (addr : BitVec 28) (s : State) : exec (.qopSend core queue rd areg addr) s = execQopSend core queue rd areg addr s := rfl
theorem exec_qopPop (core : CoreId) (queue : Fin 8192) (rd areg : Fin 32) (addr : BitVec 28) (s : State) : exec (.qopPop core queue rd areg addr) s = execQopPop core queue rd areg addr s := rfl
theorem exec_qopPost (core : CoreId) (queue : Fin 8192) (rd areg : Fin 32) (addr : BitVec 28) (s : State) : exec (.qopPost core queue rd areg addr) s = execQopPost core queue rd areg addr s := rfl
theorem exec_qopLevel (core : CoreId) (queue : Fin 8192) (rd : Fin 32) (s : State) : exec (.qopLevel core queue rd) s = execQopLevel core queue rd s := rfl
theorem exec_seqHalt (core : CoreId) (s : State) : exec (.seqHalt core) s = execSeqHalt core s := rfl
theorem exec_vopMove (core : CoreId) (args : VopArgs) (s : State) : exec (.vopMove core args) s = execVopMove core args s := rfl
theorem exec_vopArithmetic (core : CoreId) (args : VopArgs) (s : State) : exec (.vopArithmetic core args) s = execVopArithmetic core args s := rfl
theorem exec_vopFma (core : CoreId) (args : VopArgs) (s : State) : exec (.vopFma core args) s = execVopFma core args s := rfl
theorem exec_vopPermute (core : CoreId) (args : VopArgs) (s : State) : exec (.vopPermute core args) s = execVopPermute core args s := rfl
theorem exec_vopIngress (core : CoreId) (args : VopArgs) (s : State) : exec (.vopIngress core args) s = execVopIngress core args s := rfl
theorem exec_vopSpecialFunction (core : CoreId) (args : VopArgs) (s : State) : exec (.vopSpecialFunction core args) s = execVopSpecialFunction core args s := rfl
theorem exec_vopReduce (core : CoreId) (args : VopArgs) (s : State) : exec (.vopReduce core args) s = execVopReduce core args s := rfl
theorem exec_vopLoad (core : CoreId) (args : VopArgs) (conflicts : List (Nat × Nat)) (s : State) : exec (.vopLoad core args conflicts) s = execVopLoad core args conflicts s := rfl
theorem exec_vopStore (core : CoreId) (args : VopArgs) (conflicts : List (Nat × Nat)) (s : State) : exec (.vopStore core args conflicts) s = execVopStore core args conflicts s := rfl
theorem exec_vopQuant (core : CoreId) (args : VopArgs) (conflicts : List (Nat × Nat)) (s : State) : exec (.vopQuant core args conflicts) s = execVopQuant core args conflicts s := rfl
theorem exec_vopSample (core : CoreId) (args : SampleArgs) (s : State) : exec (.vopSample core args) s = execVopSample core args s := rfl
theorem exec_sampleStart (core : CoreId) (vu : Fin 4) (s : State) : exec (.sampleStart core vu) s = execSampleStart core vu s := rfl
theorem exec_tokenChosen (core : CoreId) (vu : Fin 4) (s : State) : exec (.tokenChosen core vu) s = execTokenChosen core vu s := rfl
theorem exec_meMmaStart (core : CoreId) (engine : Fin 64) (quad : Fin 4) (faults : EngFaults) (s : State) : exec (.meMmaStart core engine quad faults) s = execMeMmaStart core engine quad faults s := rfl
theorem exec_meDrain (core : CoreId) (engine : Fin 64) (quad : Fin 4) (faults : EngFaults) (s : State) : exec (.meDrain core engine quad faults) s = execMeDrain core engine quad faults s := rfl
theorem exec_meLoadAStart (core : CoreId) (engine : Fin 64) (s : State) : exec (.meLoadAStart core engine) s = execMeLoadAStart core engine s := rfl
theorem exec_seSmmaStart (core : CoreId) (engine : Fin 8) (faults : EngFaults) (s : State) : exec (.seSmmaStart core engine faults) s = execSeSmmaStart core engine faults s := rfl
theorem exec_seDrain (core : CoreId) (engine : Fin 8) (faults : EngFaults) (s : State) : exec (.seDrain core engine faults) s = execSeDrain core engine faults s := rfl
theorem exec_seLoadAStart (core : CoreId) (engine : Fin 8) (s : State) : exec (.seLoadAStart core engine) s = execSeLoadAStart core engine s := rfl
theorem exec_temperSwitch (core : CoreId) (point : Fin 65536) (s : State) : exec (.temperSwitch core point) s = execTemperSwitch core point s := rfl
theorem exec_flaskHaltPoint (flask : FlaskId) (point : Nat) (quiesce : Bool) (frameBoundary : Bool) (tc : Nat) (s : State) : exec (.flaskHaltPoint flask point quiesce frameBoundary tc) s = execFlaskHaltPoint flask point quiesce frameBoundary tc s := rfl
theorem exec_startTimeout (flask : FlaskId) (tc : Nat) (s : State) : exec (.startTimeout flask tc) s = execStartTimeout flask tc s := rfl
theorem exec_creditTimer (queue : Fin 2097152) (s : State) : exec (.creditTimer queue) s = execCreditTimer queue s := rfl
theorem exec_creditPacket (queue : Fin 2097152) (consumed : BitVec 16) (s : State) : exec (.creditPacket queue consumed) s = execCreditPacket queue consumed s := rfl
theorem exec_elasticEntryArrival (queue : Fin 2097152) (peer tag : Nat) (entry : List Byte) (poison : Bool) (s : State) : exec (.elasticEntryArrival queue peer tag entry poison) s = execElasticEntryArrival queue peer tag entry poison s := rfl
theorem exec_elasticAccessTimeout (core : CoreId) (op : AccessOp) (s : State) : exec (.elasticAccessTimeout core op) s = execElasticAccessTimeout core op s := rfl
theorem exec_gatherFlush (core : CoreId) (line : Nat) (s : State) : exec (.gatherFlush core line) s = execGatherFlush core line s := rfl
theorem exec_eccWriteBack (core : CoreId) (line : Nat) (s : State) : exec (.eccWriteBack core line) s = execEccWriteBack core line s := rfl
theorem exec_rowSubstitution (core : CoreId) (bank : Fin 64) (row : Nat) (reason : Nat) (s : State) : exec (.rowSubstitution core bank row reason) s = execRowSubstitution core bank row reason s := rfl
theorem exec_scrubRow (core : CoreId) (finding : ScrubFinding) (s : State) : exec (.scrubRow core finding) s = execScrubRow core finding s := rfl
theorem exec_zeroingComplete (core : CoreId) (s : State) : exec (.zeroingComplete core) s = execZeroingComplete core s := rfl
theorem exec_cacheAccess (off : Nat) (write : Option (List Byte)) (fault : CacheFault) (s : State) : exec (.cacheAccess off write fault) s = execCacheAccess off write fault s := rfl
theorem exec_prefetchIssue (cluster : ClusterId) (engine : LdlId) (ctx : Fin 4) (s : State) : exec (.prefetchIssue cluster engine ctx) s = execPrefetchIssue cluster engine ctx s := rfl
theorem exec_hbmRefresh (stack : Fin 20) (channel : Fin 64) (bank : Fin 64) (tc : Nat) (s : State) : exec (.hbmRefresh stack channel bank tc) s = execHbmRefresh stack channel bank tc s := rfl
theorem exec_hbmTempSample (stack : Fin 20) (temp : Fin 256) (s : State) : exec (.hbmTempSample stack temp) s = execHbmTempSample stack temp s := rfl
theorem exec_hbmPatrol (stack : Fin 20) (findings : List (Nat × Bool)) (s : State) : exec (.hbmPatrol stack findings) s = execHbmPatrol stack findings s := rfl
theorem exec_ldlSchedSlot (engine : LdlId) (channel : Fin 8) (lost : List (Nat × Nat)) (s : State) : exec (.ldlSchedSlot engine channel lost) s = execLdlSchedSlot engine channel lost s := rfl
theorem exec_ldlContextStart (engine : LdlId) (ctx : Fin 4) (remote : List (Nat × List Byte)) (s : State) : exec (.ldlContextStart engine ctx remote) s = execLdlContextStart engine ctx remote s := rfl
theorem exec_sectorWrite (engine : LdlId) (ctx : Fin 4) (write : Nat) (crcOk : Bool) (s : State) : exec (.sectorWrite engine ctx write crcOk) s = execSectorWrite engine ctx write crcOk s := rfl
theorem exec_sectorBeatTimeout (engine : LdlId) (ctx : Fin 4) (write : Nat) (s : State) : exec (.sectorBeatTimeout engine ctx write) s = execSectorBeatTimeout engine ctx write s := rfl
theorem exec_sectorAck (engine : LdlId) (ctx : Fin 4) (write : Nat) (outcome : AckOutcome) (s : State) : exec (.sectorAck engine ctx write outcome) s = execSectorAck engine ctx write outcome s := rfl
theorem exec_ldlAbort (engine : LdlId) (mask : Fin 16) (s : State) : exec (.ldlAbort engine mask) s = execLdlAbort engine mask s := rfl
theorem exec_abortResolveTimeout (engine : LdlId) (ctx : Fin 4) (s : State) : exec (.abortResolveTimeout engine ctx) s = execAbortResolveTimeout engine ctx s := rfl
theorem exec_abortCapture (engine : LdlId) (ctx : Fin 4) (s : State) : exec (.abortCapture engine ctx) s = execAbortCapture engine ctx s := rfl
theorem exec_sprueBeatReceive (core : CoreId) (input : Fin 8) (sc : Nat) (beat : Beat) (fault : BeatFault) (rsp : Bool) (credits : Fin 5 × Fin 5) (lost : List (Nat × Nat)) (s : State) : exec (.sprueBeatReceive core input sc beat fault rsp credits lost) s = execSprueBeatReceive core input sc beat fault rsp credits lost s := rfl
theorem exec_haltNotice (core : CoreId) (s : State) : exec (.haltNotice core) s = execHaltNotice core s := rfl
theorem exec_ventFlitReceive (link : Fin 31) (cluster : ClusterId) (cls : Fin 3) (header : Bool) (occupancy : Fin 9) (crcOk : Bool) (s : State) : exec (.ventFlitReceive link cluster cls header occupancy crcOk) s = execVentFlitReceive link cluster cls header occupancy crcOk s := rfl
theorem exec_superframeReceive (port : PortId) (sf : Superframe) (tc : Nat) (s : State) : exec (.superframeReceive port sf tc) s = execSuperframeReceive port sf tc s := rfl
theorem exec_scheduledCell (port : PortId) (sseq : Fin 2048) (beat : Beat) (s : State) : exec (.scheduledCell port sseq beat) s = execScheduledCell port sseq beat s := rfl
theorem exec_elasticCell (port : PortId) (cell : ElCell) (s : State) : exec (.elasticCell port cell) s = execElasticCell port cell s := rfl
theorem exec_elasticResendTimeout (port : PortId) (tc : Nat) (s : State) : exec (.elasticResendTimeout port tc) s = execElasticResendTimeout port tc s := rfl
theorem exec_releaseCycle (port : PortId) (sc : Nat) (s : State) : exec (.releaseCycle port sc) s = execReleaseCycle port sc s := rfl
theorem exec_done (port : PortId) (rec : CtlRec) (s : State) : exec (.done port rec) s = execDone port rec s := rfl
theorem exec_armHalt (rec : CtlRec) (s : State) : exec (.armHalt rec) s = execArmHalt rec s := rfl
theorem exec_armSwitch (rec : CtlRec) (s : State) : exec (.armSwitch rec) s = execArmSwitch rec s := rfl
theorem exec_flaskGo (rec : CtlRec) (s : State) : exec (.flaskGo rec) s = execFlaskGo rec s := rfl
theorem exec_flaskWithdraw (rec : CtlRec) (s : State) : exec (.flaskWithdraw rec) s = execFlaskWithdraw rec s := rfl
theorem exec_start (rec : CtlRec) (s : State) : exec (.start rec) s = execStart rec s := rfl
theorem exec_armHold (rec : CtlRec) (s : State) : exec (.armHold rec) s = execArmHold rec s := rfl
theorem exec_armRelease (rec : CtlRec) (s : State) : exec (.armRelease rec) s = execArmRelease rec s := rfl
theorem exec_haltBeacon (port : PortId) (cause : Nat) (origin : Nat) (seq_ : Nat) (frame : Nat) (tag : Nat) (tc : Nat) (s : State) : exec (.haltBeacon port cause origin seq_ frame tag tc) s = execHaltBeacon port cause origin seq_ frame tag tc s := rfl
theorem exec_fenceBeacon (port : PortId) (unit : Nat) (origin : Nat) (seq_ : Nat) (frame : Nat) (tag : Nat) (detail : Nat) (tc : Nat) (s : State) : exec (.fenceBeacon port unit origin seq_ frame tag detail tc) s = execFenceBeacon port unit origin seq_ frame tag detail tc s := rfl
theorem exec_hello (port : PortId) (msg : HelloMsg) (s : State) : exec (.hello port msg) s = execHello port msg s := rfl
theorem exec_form (port : PortId) (tree : Fin 4) (tag : Nat) (depth : Nat) (children : List PortId) (routes : List (Nat × Nat)) (s : State) : exec (.form port tree tag depth children routes) s = execForm port tree tag depth children routes s := rfl
theorem exec_report (port : PortId) (phase : Fin 3) (count : Nat) (digest : Nat) (bindSum : Nat) (status : Nat) (failing : Nat) (routes : List (Nat × Nat)) (s : State) : exec (.report port phase count digest bindSum status failing routes) s = execReport port phase count digest bindSum status failing routes s := rfl
theorem exec_abort (tag : Nat) (status : Nat) (failing : Nat) (s : State) : exec (.abort tag status failing) s = execAbort tag status failing s := rfl
theorem exec_slotDigest (port : PortId) (temper : Fin 4) (mouldId : Nat) (tx : Nat) (rx : Nat) (s : State) : exec (.slotDigest port temper mouldId tx rx) s = execSlotDigest port temper mouldId tx rx s := rfl
theorem exec_laneSwap (port : PortId) (lane : Fin 4) (target : Nat) (sender : Nat) (s : State) : exec (.laneSwap port lane target sender) s = execLaneSwap port lane target sender s := rfl
theorem exec_laneSwapAck (port : PortId) (lane : Fin 4) (target : Nat) (s : State) : exec (.laneSwapAck port lane target) s = execLaneSwapAck port lane target s := rfl
theorem exec_laneSwapApply (port : PortId) (s : State) : exec (.laneSwapApply port) s = execLaneSwapApply port s := rfl
theorem exec_laneSwapAbandon (port : PortId) (s : State) : exec (.laneSwapAbandon port) s = execLaneSwapAbandon port s := rfl
theorem exec_portEnable (port : PortId) (signal : Bool) (tc : Nat) (s : State) : exec (.portEnable port signal tc) s = execPortEnable port signal tc s := rfl
theorem exec_trainComplete (port : PortId) (ok : Bool) (tc : Nat) (s : State) : exec (.trainComplete port ok tc) s = execTrainComplete port ok tc s := rfl
theorem exec_lockComplete (port : PortId) (ok : Bool) (tc : Nat) (s : State) : exec (.lockComplete port ok tc) s = execLockComplete port ok tc s := rfl
theorem exec_qualifyWindowEnd (port : PortId) (windows : List LaneWindow) (tc : Nat) (s : State) : exec (.qualifyWindowEnd port windows tc) s = execQualifyWindowEnd port windows tc s := rfl
theorem exec_laneLockLoss (port : PortId) (lane : Fin 5) (beyond : Bool) (tc : Nat) (s : State) : exec (.laneLockLoss port lane beyond tc) s = execLaneLockLoss port lane beyond tc s := rfl
theorem exec_elasticRequest (port : PortId) (s : State) : exec (.elasticRequest port) s = execElasticRequest port s := rfl
theorem exec_elasticResponse (port : PortId) (s : State) : exec (.elasticResponse port) s = execElasticResponse port s := rfl
theorem exec_writeFault (far : Nat) (tag : Nat) (status : Nat) (fidx : Fin 1024) (tc : Nat) (fa : Nat) (count : Nat) (s : State) : exec (.writeFault far tag status fidx tc fa count) s = execWriteFault far tag status fidx tc fa count s := rfl
theorem exec_pourFormTimeout (tc : Nat) (s : State) : exec (.pourFormTimeout tc) s = execPourFormTimeout tc s := rfl
theorem exec_keyOffer (port : PortId) (offer : KeyOffer) (tc : Nat) (s : State) : exec (.keyOffer port offer tc) s = execKeyOffer port offer tc s := rfl
theorem exec_keyAccept (port : PortId) (startSeq : Nat) (macOk : Bool) (s : State) : exec (.keyAccept port startSeq macOk) s = execKeyAccept port startSeq macOk s := rfl
theorem exec_keyExchangeTimeout (port : PortId) (tc : Nat) (s : State) : exec (.keyExchangeTimeout port tc) s = execKeyExchangeTimeout port tc s := rfl
theorem exec_rekeyTimer (port : PortId) (tc : Nat) (s : State) : exec (.rekeyTimer port tc) s = execRekeyTimer port tc s := rfl
theorem exec_queueDbSubmit (queue : Fin 2097152) (count : BitVec 16) (tc : Nat) (s : State) : exec (.queueDbSubmit queue count tc) s = execQueueDbSubmit queue count tc s := rfl
theorem exec_queueDbPost (queue : Fin 2097152) (count : BitVec 16) (tc : Nat) (s : State) : exec (.queueDbPost queue count tc) s = execQueueDbPost queue count tc s := rfl
theorem exec_queueCtlWrite (queue : Fin 2097152) (val : Word) (byteMask : Fin 256) (s : State) : exec (.queueCtlWrite queue val byteMask) s = execQueueCtlWrite queue val byteMask s := rfl
theorem exec_queueBaseWrite (queue : Fin 2097152) (val : Word) (byteMask : Fin 256) (s : State) : exec (.queueBaseWrite queue val byteMask) s = execQueueBaseWrite queue val byteMask s := rfl
theorem exec_queueWmWrite (queue : Fin 2097152) (val : Word) (byteMask : Fin 256) (sameCycleFire : Bool) (s : State) : exec (.queueWmWrite queue val byteMask sameCycleFire) s = execQueueWmWrite queue val byteMask sameCycleFire s := rfl
theorem exec_hostFetchRead (queue : Fin 2097152) (s : State) : exec (.hostFetchRead queue) s = execHostFetchRead queue s := rfl
theorem exec_hostFetchCompletion (queue : Fin 2097152) (res : FetchResult) (s : State) : exec (.hostFetchCompletion queue res) s = execHostFetchCompletion queue res s := rfl
theorem exec_hostCompletionTimeout (queue : Fin 2097152) (s : State) : exec (.hostCompletionTimeout queue) s = execHostCompletionTimeout queue s := rfl
theorem exec_hostPostWrite (queue : Fin 2097152) (tc : Nat) (s : State) : exec (.hostPostWrite queue tc) s = execHostPostWrite queue tc s := rfl
theorem exec_msixHoldoffExpiry (queue : Fin 2097152) (tc : Nat) (s : State) : exec (.msixHoldoffExpiry queue tc) s = execMsixHoldoffExpiry queue tc s := rfl
theorem exec_queueDisableComplete (queue : Fin 2097152) (s : State) : exec (.queueDisableComplete queue) s = execQueueDisableComplete queue s := rfl
theorem exec_eventRecordWrite (s : State) : exec (.eventRecordWrite) s = execEventRecordWrite s := rfl
theorem exec_eventWindowClose (index : Fin 256) (tc : Nat) (s : State) : exec (.eventWindowClose index tc) s = execEventWindowClose index tc s := rfl
theorem exec_evrHeadWrite (ring : Fin 17) (head : BitVec 32) (s : State) : exec (.evrHeadWrite ring head) s = execEvrHeadWrite ring head s := rfl
theorem exec_portFlr (port : HostId) (s : State) : exec (.portFlr port) s = execPortFlr port s := rfl
theorem exec_portHotReset (port : HostId) (perst : Bool) (s : State) : exec (.portHotReset port perst) s = execPortHotReset port perst s := rfl
theorem exec_hostLinkLoss (port : HostId) (s : State) : exec (.hostLinkLoss port) s = execHostLinkLoss port s := rfl
theorem exec_d3hotEntry (port : HostId) (s : State) : exec (.d3hotEntry port) s = execD3hotEntry port s := rfl
theorem exec_mbSubmit (slot : Fin 16) (submit : Word) (byteMask : Fin 256) (tc : Nat) (s : State) : exec (.mbSubmit slot submit byteMask tc) s = execMbSubmit slot submit byteMask tc s := rfl
theorem exec_mbCancel (slot : Fin 16) (val : Byte) (s : State) : exec (.mbCancel slot val) s = execMbCancel slot val s := rfl
theorem exec_mbCommandStart (slot : Fin 17) (s : State) : exec (.mbCommandStart slot) s = execMbCommandStart slot s := rfl
theorem exec_mbInfoGet (slot : Fin 17) (s : State) : exec (.mbInfoGet slot) s = execMbInfoGet slot s := rfl
theorem exec_mbSlagRead (slot : Fin 17) (s : State) : exec (.mbSlagRead slot) s = execMbSlagRead slot s := rfl
theorem exec_mbEventRingSet (slot : Fin 17) (s : State) : exec (.mbEventRingSet slot) s = execMbEventRingSet slot s := rfl
theorem exec_mbFlaskList (slot : Fin 17) (s : State) : exec (.mbFlaskList slot) s = execMbFlaskList slot s := rfl
theorem exec_mbFlaskCreate (slot : Fin 17) (s : State) : exec (.mbFlaskCreate slot) s = execMbFlaskCreate slot s := rfl
theorem exec_mbFlaskDestroy (slot : Fin 17) (s : State) : exec (.mbFlaskDestroy slot) s = execMbFlaskDestroy slot s := rfl
theorem exec_mbMouldLoad (slot : Fin 17) (env : LoadEnv) (s : State) : exec (.mbMouldLoad slot env) s = execMbMouldLoad slot env s := rfl
theorem exec_mbMouldSwitch (slot : Fin 17) (tc : Nat) (s : State) : exec (.mbMouldSwitch slot tc) s = execMbMouldSwitch slot tc s := rfl
theorem exec_mbMouldUnload (slot : Fin 17) (s : State) : exec (.mbMouldUnload slot) s = execMbMouldUnload slot s := rfl
theorem exec_mbFlaskStart (slot : Fin 17) (s : State) : exec (.mbFlaskStart slot) s = execMbFlaskStart slot s := rfl
theorem exec_mbFlaskHalt (slot : Fin 17) (s : State) : exec (.mbFlaskHalt slot) s = execMbFlaskHalt slot s := rfl
theorem exec_mbFlaskResume (slot : Fin 17) (s : State) : exec (.mbFlaskResume slot) s = execMbFlaskResume slot s := rfl
theorem exec_mbFlaskReset (slot : Fin 17) (s : State) : exec (.mbFlaskReset slot) s = execMbFlaskReset slot s := rfl
theorem exec_mbScanOut (slot : Fin 17) (s : State) : exec (.mbScanOut slot) s = execMbScanOut slot s := rfl
theorem exec_mbScanIn (slot : Fin 17) (s : State) : exec (.mbScanIn slot) s = execMbScanIn slot s := rfl
theorem exec_mbCacheFlush (slot : Fin 17) (s : State) : exec (.mbCacheFlush slot) s = execMbCacheFlush slot s := rfl
theorem exec_mbCachePartSet (slot : Fin 17) (s : State) : exec (.mbCachePartSet slot) s = execMbCachePartSet slot s := rfl
theorem exec_mbPourForm (slot : Fin 17) (s : State) : exec (.mbPourForm slot) s = execMbPourForm slot s := rfl
theorem exec_mbPourStart (slot : Fin 17) (s : State) : exec (.mbPourStart slot) s = execMbPourStart slot s := rfl
theorem exec_mbPourLeave (slot : Fin 17) (s : State) : exec (.mbPourLeave slot) s = execMbPourLeave slot s := rfl
theorem exec_mbFlushPosted (slot : Fin 17) (tc : Nat) (s : State) : exec (.mbFlushPosted slot tc) s = execMbFlushPosted slot tc s := rfl
theorem exec_mbPortCtl (slot : Fin 17) (s : State) : exec (.mbPortCtl slot) s = execMbPortCtl slot s := rfl
theorem exec_mbFence (slot : Fin 17) (s : State) : exec (.mbFence slot) s = execMbFence slot s := rfl
theorem exec_mbComputeReset (slot : Fin 17) (env : BootEnv) (tc : Nat) (s : State) : exec (.mbComputeReset slot env tc) s = execMbComputeReset slot env tc s := rfl
theorem exec_mbPepperSet (slot : Fin 17) (s : State) : exec (.mbPepperSet slot) s = execMbPepperSet slot s := rfl
theorem exec_mbRedundancySet (slot : Fin 17) (s : State) : exec (.mbRedundancySet slot) s = execMbRedundancySet slot s := rfl
theorem exec_mbFlaskDrain (slot : Fin 17) (s : State) : exec (.mbFlaskDrain slot) s = execMbFlaskDrain slot s := rfl
theorem exec_mbPstepSet (slot : Fin 17) (relockFail : List Nat) (s : State) : exec (.mbPstepSet slot relockFail) s = execMbPstepSet slot relockFail s := rfl
theorem exec_mbCapSet (slot : Fin 17) (s : State) : exec (.mbCapSet slot) s = execMbCapSet slot s := rfl
theorem exec_mbPstateSet (slot : Fin 17) (tc : Nat) (s : State) : exec (.mbPstateSet slot tc) s = execMbPstateSet slot tc s := rfl
theorem exec_mbEnergyRead (slot : Fin 17) (s : State) : exec (.mbEnergyRead slot) s = execMbEnergyRead slot s := rfl
theorem exec_mbTamperAck (slot : Fin 17) (s : State) : exec (.mbTamperAck slot) s = execMbTamperAck slot s := rfl
theorem exec_mbWeightKeyLoad (slot : Fin 17) (verified : Bool) (s : State) : exec (.mbWeightKeyLoad slot verified) s = execMbWeightKeyLoad slot verified s := rfl
theorem exec_mbTamperLogRead (slot : Fin 17) (s : State) : exec (.mbTamperLogRead slot) s = execMbTamperLogRead slot s := rfl
theorem exec_mbFwStage (slot : Fin 17) (signatureOk readBackOk : Bool) (s : State) : exec (.mbFwStage slot signatureOk readBackOk) s = execMbFwStage slot signatureOk readBackOk s := rfl
theorem exec_mbFwActivate (slot : Fin 17) (env : BootEnv) (tc : Nat) (s : State) : exec (.mbFwActivate slot env tc) s = execMbFwActivate slot env tc s := rfl
theorem exec_mbApertureSet (slot : Fin 17) (s : State) : exec (.mbApertureSet slot) s = execMbApertureSet slot s := rfl
theorem exec_mbEventTest (slot : Fin 17) (s : State) : exec (.mbEventTest slot) s = execMbEventTest slot s := rfl
theorem exec_mbPoll (s : State) : exec (.mbPoll) s = execMbPoll s := rfl
theorem exec_sidebandRequest (submit : Word) (args : List Byte) (session : Option Nat) (tc : Nat) (s : State) : exec (.sidebandRequest submit args session tc) s = execSidebandRequest submit args session tc s := rfl
theorem exec_inputSample (millivolts : Int) (tenthAmps : Nat) (watts : Nat) (tc : Nat) (s : State) : exec (.inputSample millivolts tenthAmps watts tc) s = execInputSample millivolts tenthAmps watts tc s := rfl
theorem exec_pwrAuxFault (s : State) : exec (.pwrAuxFault) s = execPwrAuxFault s := rfl
theorem exec_tileFault (tile : Fin 256) (cause : TileCause) (s : State) : exec (.tileFault tile cause) s = execTileFault tile cause s := rfl
theorem exec_tileSpared (tile : Fin 256) (ok : Bool) (s : State) : exec (.tileSpared tile ok) s = execTileSpared tile ok s := rfl
theorem exec_vminSample (cluster : ClusterId) (sensor : Fin 32) (millivolts : Nat) (bubbleEdge : Bool) (tc : Nat) (s : State) : exec (.vminSample cluster sensor millivolts bubbleEdge tc) s = execVminSample cluster sensor millivolts bubbleEdge tc s := rfl
theorem exec_riserNotice (cluster : ClusterId) (level : Fin 1024) (s : State) : exec (.riserNotice cluster level) s = execRiserNotice cluster level s := rfl
theorem exec_bucketGrant (cluster : ClusterId) (amps : Nat) (tc : Nat) (s : State) : exec (.bucketGrant cluster amps tc) s = execBucketGrant cluster amps tc s := rfl
theorem exec_decisionWindowEnd (watts : Nat) (bubbleWatts : Nat) (currents : List (Nat × Nat)) (tc : Nat) (s : State) : exec (.decisionWindowEnd watts bubbleWatts currents tc) s = execDecisionWindowEnd watts bubbleWatts currents tc s := rfl
theorem exec_telemetrySend (tc : Nat) (s : State) : exec (.telemetrySend tc) s = execTelemetrySend tc s := rfl
theorem exec_telemetryReceive (port : PortId) (bytes : List Byte) (s : State) : exec (.telemetryReceive port bytes) s = execTelemetryReceive port bytes s := rfl
theorem exec_thermalSample (readings : List (Nat × Nat)) (s : State) : exec (.thermalSample readings) s = execThermalSample readings s := rfl
theorem exec_energyAccount (sample : EnergySample) (tc : Nat) (s : State) : exec (.energyAccount sample tc) s = execEnergyAccount sample tc s := rfl
theorem exec_pstateEntryComplete (tc : Nat) (s : State) : exec (.pstateEntryComplete tc) s = execPstateEntryComplete tc s := rfl
theorem exec_pstateExit (tc : Nat) (s : State) : exec (.pstateExit tc) s = execPstateExit tc s := rfl
theorem exec_pstReadyTimeout (signal : Fin 5) (unit : Nat) (other retryOk : Bool) (s : State) : exec (.pstReadyTimeout signal unit other retryOk) s = execPstReadyTimeout signal unit other retryOk s := rfl
theorem exec_wakePin (s : State) : exec (.wakePin) s = execWakePin s := rfl
theorem exec_wakeTimer (ticks : Nat) (s : State) : exec (.wakeTimer ticks) s = execWakeTimer ticks s := rfl
theorem exec_wakeI3c (address : Fin 128) (s : State) : exec (.wakeI3c address) s = execWakeI3c address s := rfl
theorem exec_wakePerst (port : HostId) (s : State) : exec (.wakePerst port) s = execWakePerst port s := rfl
theorem exec_wakeHost (wake : Bool) (s : State) : exec (.wakeHost wake) s = execWakeHost wake s := rfl
theorem exec_pstTimerWrite (val : Word) (byteMask : Fin 256) (s : State) : exec (.pstTimerWrite val byteMask) s = execPstTimerWrite val byteMask s := rfl
theorem exec_pstWakeEnWrite (val : Word) (byteMask : Fin 256) (s : State) : exec (.pstWakeEnWrite val byteMask) s = execPstWakeEnWrite val byteMask s := rfl
theorem exec_xtalFail (s : State) : exec (.xtalFail) s = execXtalFail s := rfl
theorem exec_coreDomainOnRequest (core : CoreId) (s : State) : exec (.coreDomainOnRequest core) s = execCoreDomainOnRequest core s := rfl
theorem exec_coreDomainOffRequest (core : CoreId) (s : State) : exec (.coreDomainOffRequest core) s = execCoreDomainOffRequest core s := rfl
theorem exec_coreDomainGrant (s : State) : exec (.coreDomainGrant) s = execCoreDomainGrant s := rfl
theorem exec_coreDomainRampDone (core : CoreId) (tc : Nat) (s : State) : exec (.coreDomainRampDone core tc) s = execCoreDomainRampDone core tc s := rfl
theorem exec_coreDomainShutdownDone (core : CoreId) (s : State) : exec (.coreDomainShutdownDone core) s = execCoreDomainShutdownDone core s := rfl
theorem exec_powerOn (env : BootEnv) (straps : Straps) (resetLow : Bool) (s : State) : exec (.powerOn env straps resetLow) s = execPowerOn env straps resetLow s := rfl
theorem exec_moduleReset (lowNs tc : Nat) (s : State) : exec (.moduleReset lowNs tc) s = execModuleReset lowNs tc s := rfl
theorem exec_watchdogExpiry (env : BootEnv) (tc : Nat) (s : State) : exec (.watchdogExpiry env tc) s = execWatchdogExpiry env tc s := rfl
theorem exec_pldmQueryDeviceIds (s : State) : exec (.pldmQueryDeviceIds) s = execPldmQueryDeviceIds s := rfl
theorem exec_pldmGetFwParameters (s : State) : exec (.pldmGetFwParameters) s = execPldmGetFwParameters s := rfl
theorem exec_pldmRequestUpdate (transfer : Nat) (s : State) : exec (.pldmRequestUpdate transfer) s = execPldmRequestUpdate transfer s := rfl
theorem exec_pldmPassComponentTable (cls ident : BitVec 16) (last : Bool) (s : State) : exec (.pldmPassComponentTable cls ident last) s = execPldmPassComponentTable cls ident last s := rfl
theorem exec_pldmUpdateComponent (cls ident : BitVec 16) (size : BitVec 32) (s : State) : exec (.pldmUpdateComponent cls ident size) s = execPldmUpdateComponent cls ident size s := rfl
theorem exec_pldmActivateFirmware (selfContained : Bool) (s : State) : exec (.pldmActivateFirmware selfContained) s = execPldmActivateFirmware selfContained s := rfl
theorem exec_pldmGetStatus (s : State) : exec (.pldmGetStatus) s = execPldmGetStatus s := rfl
theorem exec_pldmCancelUpdateComponent (s : State) : exec (.pldmCancelUpdateComponent) s = execPldmCancelUpdateComponent s := rfl
theorem exec_pldmCancelUpdate (s : State) : exec (.pldmCancelUpdate) s = execPldmCancelUpdate s := rfl
theorem exec_pldmGetSensorReading (sensor : BitVec 16) (s : State) : exec (.pldmGetSensorReading sensor) s = execPldmGetSensorReading sensor s := rfl
theorem exec_pldmGetStateSensorReadings (sensor : BitVec 16) (s : State) : exec (.pldmGetStateSensorReadings sensor) s = execPldmGetStateSensorReadings sensor s := rfl
theorem exec_pldmGetPdr (handle : BitVec 32) (s : State) : exec (.pldmGetPdr handle) s = execPldmGetPdr handle s := rfl
theorem exec_mctpControl (command eid : BitVec 8) (s : State) : exec (.mctpControl command eid) s = execMctpControl command eid s := rfl
theorem exec_i3cSetdasa (static dynamic : Fin 128) (s : State) : exec (.i3cSetdasa static dynamic) s = execI3cSetdasa static dynamic s := rfl
theorem exec_i3cEntdaa (dynamic : Fin 128) (s : State) : exec (.i3cEntdaa dynamic) s = execI3cEntdaa dynamic s := rfl
theorem exec_spdmGetVersion (s : State) : exec (.spdmGetVersion) s = execSpdmGetVersion s := rfl
theorem exec_spdmGetCapabilities (s : State) : exec (.spdmGetCapabilities) s = execSpdmGetCapabilities s := rfl
theorem exec_spdmNegotiateAlgorithms (supported : Bool) (s : State) : exec (.spdmNegotiateAlgorithms supported) s = execSpdmNegotiateAlgorithms supported s := rfl
theorem exec_spdmGetDigests (s : State) : exec (.spdmGetDigests) s = execSpdmGetDigests s := rfl
theorem exec_spdmGetCertificate (certSlot : Fin 8) (length : BitVec 16) (s : State) : exec (.spdmGetCertificate certSlot length) s = execSpdmGetCertificate certSlot length s := rfl
theorem exec_spdmChallenge (certSlot : Fin 8) (s : State) : exec (.spdmChallenge certSlot) s = execSpdmChallenge certSlot s := rfl
theorem exec_spdmGetMeasurements (index : BitVec 8) (s : State) : exec (.spdmGetMeasurements index) s = execSpdmGetMeasurements index s := rfl
theorem exec_spdmKeyExchange (id : BitVec 32) (s : State) : exec (.spdmKeyExchange id) s = execSpdmKeyExchange id s := rfl
theorem exec_spdmFinish (id : BitVec 32) (verified : Bool) (s : State) : exec (.spdmFinish id verified) s = execSpdmFinish id verified s := rfl
theorem exec_spdmHeartbeat (id : BitVec 32) (s : State) : exec (.spdmHeartbeat id) s = execSpdmHeartbeat id s := rfl
theorem exec_spdmKeyUpdate (id : BitVec 32) (s : State) : exec (.spdmKeyUpdate id) s = execSpdmKeyUpdate id s := rfl
theorem exec_spdmEndSession (id : BitVec 32) (s : State) : exec (.spdmEndSession id) s = execSpdmEndSession id s := rfl
theorem exec_flaskDrain (flask : FlaskId) (tc : Nat) (s : State) : exec (.flaskDrain flask tc) s = execFlaskDrain flask tc s := rfl
theorem exec_culpritWindowClose (index : Fin 64) (tc : Nat) (s : State) : exec (.culpritWindowClose index tc) s = execCulpritWindowClose index tc s := rfl
theorem exec_autoRepair (kind : Nat) (location : Nat) (reason : Nat) (s : State) : exec (.autoRepair kind location reason) s = execAutoRepair kind location reason s := rfl
theorem exec_pendingRepairApply (kind : Nat) (location : Nat) (s : State) : exec (.pendingRepairApply kind location) s = execPendingRepairApply kind location s := rfl
theorem exec_wearMonitor (unit : WearUnit) (value : Nat) (tc : Nat) (s : State) : exec (.wearMonitor unit value tc) s = execWearMonitor unit value tc s := rfl
theorem exec_lifeHour (tj10 : Int) (fast : Bool) (tc : Nat) (s : State) : exec (.lifeHour tj10 fast tc) s = execLifeHour tj10 fast tc s := rfl
theorem exec_pepperTileStart (core : CoreId) (unit : Fin 76) (window : Nat) (hash : Nat) (tc : Nat) (s : State) : exec (.pepperTileStart core unit window hash tc) s = execPepperTileStart core unit window hash tc s := rfl
theorem exec_pepperCompare (core : CoreId) (unit : Fin 76) (s : State) : exec (.pepperCompare core unit) s = execPepperCompare core unit s := rfl
theorem exec_pepperDiagnostic (core : CoreId) (unit : Fin 76) (result : PepRun) (s : State) : exec (.pepperDiagnostic core unit result) s = execPepperDiagnostic core unit result s := rfl
theorem exec_spareCoreCheck (core : CoreId) (culprit : Bool) (s : State) : exec (.spareCoreCheck core culprit) s = execSpareCoreCheck core culprit s := rfl
theorem exec_redundancyCompare (core : CoreId) (unit : Fin 76) (tag : Fin 4096) (primary : Nat) (shadow : Nat) (tileTc : Nat) (s : State) : exec (.redundancyCompare core unit tag primary shadow tileTc) s = execRedundancyCompare core unit tag primary shadow tileTc s := rfl
theorem exec_redundancyHashTimeout (core : CoreId) (unit : Fin 76) (tag : Fin 4096) (hash : Nat) (tileTc : Nat) (s : State) : exec (.redundancyHashTimeout core unit tag hash tileTc) s = execRedundancyHashTimeout core unit tag hash tileTc s := rfl
theorem exec_tamperSensor (sensor : Fin 8) (inputPower : Bool) (seconds : Nat) (s : State) : exec (.tamperSensor sensor inputPower seconds) s = execTamperSensor sensor inputPower seconds s := rfl
theorem exec_slotRoleWrite (val : Word) (byteMask : Fin 256) (s : State) : exec (.slotRoleWrite val byteMask) s = execSlotRoleWrite val byteMask s := rfl
theorem exec_slotFlaskWrite (val : Word) (byteMask : Fin 256) (s : State) : exec (.slotFlaskWrite val byteMask) s = execSlotFlaskWrite val byteMask s := rfl
theorem exec_slosyFrame (wire : List Byte) (tc : Nat) (s : State) : exec (.slosyFrame wire tc) s = execSlosyFrame wire tc s := rfl
theorem exec_slosyInfo (s : State) : exec (.slosyInfo) s = execSlosyInfo s := rfl
theorem exec_slosyAuthReq (s : State) : exec (.slosyAuthReq) s = execSlosyAuthReq s := rfl
theorem exec_slosyAuthGrant (verified : Bool) (seconds : Nat) (s : State) : exec (.slosyAuthGrant verified seconds) s = execSlosyAuthGrant verified seconds s := rfl
theorem exec_slosyAuthDrop (s : State) : exec (.slosyAuthDrop) s = execSlosyAuthDrop s := rfl
theorem exec_slosyLifecycle (s : State) : exec (.slosyLifecycle) s = execSlosyLifecycle s := rfl
theorem exec_slosyRead (tc : Nat) (s : State) : exec (.slosyRead tc) s = execSlosyRead tc s := rfl
theorem exec_slosyWrite (tc : Nat) (s : State) : exec (.slosyWrite tc) s = execSlosyWrite tc s := rfl
theorem exec_slosyApertureRead (s : State) : exec (.slosyApertureRead) s = execSlosyApertureRead s := rfl
theorem exec_slosyHold (tc : Nat) (s : State) : exec (.slosyHold tc) s = execSlosyHold tc s := rfl
theorem exec_slosyRelease (tc : Nat) (s : State) : exec (.slosyRelease tc) s = execSlosyRelease tc s := rfl
theorem exec_slosyStep (tc : Nat) (s : State) : exec (.slosyStep tc) s = execSlosyStep tc s := rfl
theorem exec_slosyHoldStat (s : State) : exec (.slosyHoldStat) s = execSlosyHoldStat s := rfl
theorem exec_slosyBpSet (s : State) : exec (.slosyBpSet) s = execSlosyBpSet s := rfl
theorem exec_slosyBpClear (s : State) : exec (.slosyBpClear) s = execSlosyBpClear s := rfl
theorem exec_slosyBpStat (s : State) : exec (.slosyBpStat) s = execSlosyBpStat s := rfl
theorem exec_slosyScanCore (s : State) : exec (.slosyScanCore) s = execSlosyScanCore s := rfl
theorem exec_debugHoldApply (flask : FlaskId) (tc : Nat) (s : State) : exec (.debugHoldApply flask tc) s = execDebugHoldApply flask tc s := rfl
theorem exec_dbgBpHit (bp : Fin 8) (hit : BpHit) (tc : Nat) (s : State) : exec (.dbgBpHit bp hit tc) s = execDbgBpHit bp hit tc s := rfl
theorem exec_grantExpiry (seconds : Nat) (s : State) : exec (.grantExpiry seconds) s = execGrantExpiry seconds s := rfl
theorem exec_authLockoutExpiry (seconds : Nat) (s : State) : exec (.authLockoutExpiry seconds) s = execAuthLockoutExpiry seconds s := rfl
theorem exec_refclkLost (tc : Nat) (s : State) : exec (.refclkLost tc) s = execRefclkLost tc s := rfl
theorem exec_refclkBackupSwitch (tc : Nat) (s : State) : exec (.refclkBackupSwitch tc) s = execRefclkBackupSwitch tc s := rfl
theorem exec_refclkRestored (tc : Nat) (s : State) : exec (.refclkRestored tc) s = execRefclkRestored tc s := rfl
theorem exec_tapBypass (env : BootEnv) (tc : Nat) (s : State) : exec (.tapBypass env tc) s = execTapBypass env tc s := rfl
theorem exec_tapIdcode (env : BootEnv) (tc : Nat) (s : State) : exec (.tapIdcode env tc) s = execTapIdcode env tc s := rfl
theorem exec_tapSamplePreload (pins preload : List Bool) (env : BootEnv) (tc : Nat) (s : State) : exec (.tapSamplePreload pins preload env tc) s = execTapSamplePreload pins preload env tc s := rfl
theorem exec_tapExtest (env : BootEnv) (tc : Nat) (s : State) : exec (.tapExtest env tc) s = execTapExtest env tc s := rfl
theorem exec_sprueDeparture (core : CoreId) (out : Fin 8) (sc : Nat) (what : Departure) (lost : List (Nat × Nat)) (s : State) : exec (.sprueDeparture core out sc what lost) s = execSprueDeparture core out sc what lost s := rfl
theorem exec_superframeSend (port : PortId) (s : State) : exec (.superframeSend port) s = execSuperframeSend port s := rfl
theorem exec_signalDetected (port : PortId) (tc : Nat) (s : State) : exec (.signalDetected port tc) s = execSignalDetected port tc s := rfl
theorem exec_resetNRelease (env : BootEnv) (straps : Straps) (tc : Nat) (s : State) : exec (.resetNRelease env straps tc) s = execResetNRelease env straps tc s := rfl
theorem exec_hostLinkUp (port : HostId) (speed : Fin 7) (width : Fin 17) (flit : Bool) (s : State) : exec (.hostLinkUp port speed width flit) s = execHostLinkUp port speed width flit s := rfl
theorem exec_returnToD0 (port : HostId) (s : State) : exec (.returnToD0 port) s = execReturnToD0 port s := rfl
theorem exec_busMasterEnable (port : HostId) (on : Bool) (s : State) : exec (.busMasterEnable port on) s = execBusMasterEnable port on s := rfl
theorem exec_pourStartTimeout (tc : Nat) (s : State) : exec (.pourStartTimeout tc) s = execPourStartTimeout tc s := rfl
theorem exec_flushAckTimeout (slot : Fin 17) (tc : Nat) (s : State) : exec (.flushAckTimeout slot tc) s = execFlushAckTimeout slot tc s := rfl
theorem exec_tamperSensorDeassert (sensor : Fin 8) (s : State) : exec (.tamperSensorDeassert sensor) s = execTamperSensorDeassert sensor s := rfl
theorem exec_pldmFirmwareData (data : List Byte) (signatureOk readBackOk : Bool) (env : BootEnv) (s : State) : exec (.pldmFirmwareData data signatureOk readBackOk env) s = execPldmFirmwareData data signatureOk readBackOk env s := rfl

end Sys2Proof.Machine
end

