-- ==== Sys2Proof/Laws/Map.lean ====
section
/-! SUPPORT. Laws of sparse maps, sets and byte memories: a read after a write, and that every operation keeps the canonical form. -/
namespace Sys2Proof.Machine

/-! Reading after writing. -/

theorem NMap.get_del_same {α : Type} (d : α) (m : NMap α) (k : Nat) : NMap.get d (NMap.del m k) k = d := by
  induction m with
  | nil => rfl
  | cons e t ih =>
    obtain ⟨a, v⟩ := e
    by_cases h : a = k <;> simp [NMap.del, NMap.get, h, ih]

theorem NMap.get_del_ne {α : Type} (d : α) (m : NMap α) {k j : Nat} (h : k ≠ j) : NMap.get d (NMap.del m k) j = NMap.get d m j := by
  induction m with
  | nil => rfl
  | cons e t ih =>
    obtain ⟨a, v⟩ := e
    by_cases hk : a = k
    · subst hk; simp [NMap.del, NMap.get, h, ih]
    · rw [NMap.del, if_neg hk, NMap.get, NMap.get, ih]

theorem NMap.get_ins_ne {α : Type} (d : α) (m : NMap α) {k j : Nat} (v : α) (h : k ≠ j) :
    NMap.get d (NMap.ins m k v) j = NMap.get d m j := by
  induction m with
  | nil => simp [NMap.ins, NMap.get, h]
  | cons e t ih =>
    obtain ⟨a, w⟩ := e
    by_cases hk : k < a
    · simp [NMap.ins, NMap.get, hk, h]
    · rw [NMap.ins, if_neg hk, NMap.get, NMap.get, ih]

/-- Keys of a map after a removal: those of the map but the one removed. -/
theorem NMap.mem_del {α : Type} (m : NMap α) (k : Nat) (e : Nat × α) : e ∈ NMap.del m k ↔ e ∈ m ∧ e.1 ≠ k := by
  induction m with
  | nil => simp [NMap.del]
  | cons x t ih =>
    obtain ⟨a, v⟩ := x
    by_cases h : a = k
    · subst h; simp only [NMap.del, if_true, ih, List.mem_cons]
      constructor
      · rintro ⟨h1, h2⟩; exact ⟨.inr h1, h2⟩
      · rintro ⟨rfl | h1, h2⟩
        · exact absurd rfl h2
        · exact ⟨h1, h2⟩
    · simp only [NMap.del, h, if_false, List.mem_cons, ih]
      constructor
      · rintro (rfl | ⟨h1, h2⟩)
        · exact ⟨.inl rfl, h⟩
        · exact ⟨.inr h1, h2⟩
      · rintro ⟨rfl | h1, h2⟩
        · exact .inl rfl
        · exact .inr ⟨h1, h2⟩

theorem NMap.get_ins_same {α : Type} (d : α) (m : NMap α) (k : Nat) (v : α) (h : ∀ e ∈ m, e.1 ≠ k) :
    NMap.get d (NMap.ins m k v) k = v := by
  induction m with
  | nil => simp [NMap.ins, NMap.get]
  | cons e t ih =>
    obtain ⟨a, w⟩ := e
    by_cases hk : k < a
    · simp [NMap.ins, NMap.get, hk]
    · have ha : a ≠ k := h (a, w) (List.mem_cons_self ..)
      simp [NMap.ins, NMap.get, hk, ha, ih (fun e he => h e (List.mem_cons_of_mem _ he))]

/-- A read after a write to the same key gives the value written. -/
@[simp] theorem NMap.get_put_same {α : Type} [DecidableEq α] (d : α) (m : NMap α) (k : Nat) (v : α) :
    NMap.get d (NMap.put d m k v) k = v := by
  unfold NMap.put
  split
  · next h => rw [NMap.get_del_same, h]
  · exact NMap.get_ins_same d _ k v (fun e he => ((NMap.mem_del m k e).1 he).2)

/-- A write leaves every other key alone. -/
theorem NMap.get_put_ne {α : Type} [DecidableEq α] (d d' : α) (m : NMap α) {k j : Nat} (v : α) (h : k ≠ j) :
    NMap.get d (NMap.put d' m k v) j = NMap.get d m j := by
  unfold NMap.put
  split
  · exact NMap.get_del_ne d m h
  · rw [NMap.get_ins_ne d _ v h, NMap.get_del_ne d m h]

/-- Keys outside a cleared range keep their values. -/
theorem NMap.get_clear_ne {α : Type} (d : α) (m : NMap α) {lo hi j : Nat} (h : ¬(lo ≤ j ∧ j < hi)) :
    NMap.get d (NMap.clear m lo hi) j = NMap.get d m j := by
  induction m with
  | nil => rfl
  | cons e t ih =>
    obtain ⟨a, v⟩ := e
    by_cases ha : lo ≤ a ∧ a < hi
    · have : a ≠ j := by rintro rfl; exact h ha
      simp [NMap.clear, NMap.get, ha, this, ih]
    · rw [NMap.clear, if_neg ha, NMap.get, NMap.get, ih]

/-- Keys in a cleared range read as the default. -/
theorem NMap.get_clear_in {α : Type} (d : α) (m : NMap α) {lo hi j : Nat} (h : lo ≤ j ∧ j < hi) :
    NMap.get d (NMap.clear m lo hi) j = d := by
  induction m with
  | nil => rfl
  | cons e t ih =>
    obtain ⟨a, v⟩ := e
    by_cases ha : lo ≤ a ∧ a < hi
    · simp [NMap.clear, ha, ih]
    · have : a ≠ j := by rintro rfl; exact ha h
      simp [NMap.clear, NMap.get, ha, this, ih]

/-! The canonical form. -/

/-- Entries taken out by a test that keeps a key: that key reads as before. -/
theorem NMap.get_filter {α : Type} (d : α) (m : NMap α) (p : Nat × α → Bool) (k : Nat) (h : ∀ v, p (k, v) = true) :
    NMap.get d (m.filter p) k = NMap.get d m k := by
  induction m with
  | nil => rfl
  | cons e m ih =>
    obtain ⟨j, v⟩ := e
    by_cases hk : j = k
    · subst hk; simp [List.filter, h, NMap.get]
    · cases hp : p (j, v) <;> simp [List.filter, hp, NMap.get, hk, ih]

theorem NMap.rising_iff {α : Type} (m : NMap α) : m.rising = true ↔ m.Pairwise (fun a b => a.1 < b.1) := by
  simp [NMap.rising]

theorem NMap.wf_iff {α : Type} [DecidableEq α] (d : α) (m : NMap α) :
    NMap.wf d m = true ↔ m.Pairwise (fun a b => a.1 < b.1) ∧ ∀ e ∈ m, e.2 ≠ d := by
  simp [NMap.wf, NMap.rising]

theorem NMap.del_sublist {α : Type} (m : NMap α) (k : Nat) : (NMap.del m k).Sublist m := by
  induction m with
  | nil => exact .slnil
  | cons e t ih =>
    obtain ⟨a, v⟩ := e
    by_cases h : a = k
    · rw [NMap.del, if_pos h]; exact ih.cons _
    · rw [NMap.del, if_neg h]; exact ih.cons_cons _

theorem NMap.clear_sublist {α : Type} (m : NMap α) (lo hi : Nat) : (NMap.clear m lo hi).Sublist m := by
  induction m with
  | nil => exact .slnil
  | cons e t ih =>
    obtain ⟨a, v⟩ := e
    by_cases h : lo ≤ a ∧ a < hi
    · rw [NMap.clear, if_pos h]; exact ih.cons _
    · rw [NMap.clear, if_neg h]; exact ih.cons_cons _

theorem NMap.mem_ins {α : Type} (m : NMap α) (k : Nat) (v : α) (e : Nat × α) : e ∈ NMap.ins m k v ↔ e = (k, v) ∨ e ∈ m := by
  induction m with
  | nil => simp [NMap.ins]
  | cons x t ih =>
    obtain ⟨a, w⟩ := x
    by_cases h : k < a
    · simp [NMap.ins, h]
    · simp only [NMap.ins, h, if_false, List.mem_cons, ih]; tauto

theorem NMap.pairwise_ins {α : Type} (m : NMap α) (k : Nat) (v : α) (hm : m.Pairwise (fun a b => a.1 < b.1)) (hk : ∀ e ∈ m, e.1 ≠ k) :
    (NMap.ins m k v).Pairwise (fun a b => a.1 < b.1) := by
  induction m with
  | nil => simp [NMap.ins]
  | cons x t ih =>
    obtain ⟨a, w⟩ := x
    rw [List.pairwise_cons] at hm
    by_cases h : k < a
    · simp only [NMap.ins, h, if_true, List.pairwise_cons, List.mem_cons]
      exact ⟨by rintro e (rfl | he); exacts [h, lt_trans h (hm.1 e he)], hm.1, hm.2⟩
    · have hak : a ≠ k := hk (a, w) (List.mem_cons_self ..)
      simp only [NMap.ins, h, if_false, List.pairwise_cons, NMap.mem_ins]
      refine ⟨?_, ih hm.2 (fun e he => hk e (List.mem_cons_of_mem _ he))⟩
      rintro e (rfl | he)
      · show a < k; omega
      · exact hm.1 e he

/-- A write keeps the order of the keys. -/
theorem NMap.rising_put {α : Type} [DecidableEq α] (d : α) (m : NMap α) (k : Nat) (v : α) (h : m.rising = true) :
    (NMap.put d m k v).rising = true := by
  rw [NMap.rising_iff] at *
  unfold NMap.put
  split
  · exact h.sublist (NMap.del_sublist m k)
  · exact NMap.pairwise_ins _ k v (h.sublist (NMap.del_sublist m k)) (fun e he => ((NMap.mem_del m k e).1 he).2)

/-- What a map holds after a write: what it held, and the entry written. -/
theorem NMap.mem_put {α : Type} [DecidableEq α] (d : α) (m : NMap α) (k : Nat) (v : α) (e : Nat × α) (h : e ∈ NMap.put d m k v) :
    e ∈ m ∨ (e = (k, v) ∧ v ≠ d) := by
  unfold NMap.put at h
  split at h
  · exact .inl ((NMap.mem_del m k e).1 h).1
  · next hv =>
    rcases (NMap.mem_ins _ k v e).1 h with rfl | he
    · exact .inr ⟨rfl, hv⟩
    · exact .inl ((NMap.mem_del m k e).1 he).1

/-- A write keeps the canonical form. -/
theorem NMap.wf_put {α : Type} [DecidableEq α] (d : α) (m : NMap α) (k : Nat) (v : α) (h : NMap.wf d m = true) :
    NMap.wf d (NMap.put d m k v) = true := by
  have hr := NMap.rising_put d m k v (by simp [NMap.wf] at h; exact h.1)
  rw [NMap.wf_iff] at *
  refine ⟨(NMap.rising_iff _).1 hr, fun e he => ?_⟩
  rcases NMap.mem_put d m k v e he with hm | ⟨rfl, hv⟩
  · exact h.2 e hm
  · exact hv

/-- Clearing a range keeps the canonical form. -/
theorem NMap.wf_clear {α : Type} [DecidableEq α] (d : α) (m : NMap α) (lo hi : Nat) (h : NMap.wf d m = true) :
    NMap.wf d (NMap.clear m lo hi) = true := by
  rw [NMap.wf_iff] at *
  exact ⟨h.1.sublist (NMap.clear_sublist m lo hi), fun e he => h.2 e ((NMap.clear_sublist m lo hi).subset he)⟩

/-! Memories. -/

/-- A byte read where it was stored. -/
@[simp] theorem Mem.rd_wr_same (m : List Host.Cell) (a : Nat) (b : Byte) : Mem.rd (Mem.wr m a b) a = b := by simp [Mem.rd, Mem.wr]

/-- A store leaves every other byte alone. -/
theorem Mem.rd_wr_ne (m : List Host.Cell) {a c : Nat} (b : Byte) (h : a ≠ c) : Mem.rd (Mem.wr m a b) c = Mem.rd m c :=
  NMap.get_put_ne 0 0 m b h

/-- Bytes outside a stored string keep their values. -/
theorem Mem.rd_wrN_out (bs : List Byte) : ∀ (m : List Host.Cell) (a c : Nat), (c < a ∨ a + bs.length ≤ c) →
    Mem.rd (Mem.wrN m a bs) c = Mem.rd m c := by
  induction bs with
  | nil => intros; rfl
  | cons b t ih =>
    intro m a c h
    simp only [List.length_cons] at h
    rw [Mem.wrN, ih _ _ _ (by omega), Mem.rd_wr_ne _ _ (by omega)]

/-- Byte `i` of a stored string. -/
theorem Mem.rd_wrN_in (bs : List Byte) : ∀ (m : List Host.Cell) (a i : Nat), i < bs.length →
    Mem.rd (Mem.wrN m a bs) (a + i) = bs.getD i 0 := by
  induction bs with
  | nil => intro m a i h; simp at h
  | cons b t ih =>
    intro m a i h
    cases i with
    | zero => rw [Nat.add_zero, Mem.wrN, Mem.rd_wrN_out _ _ _ _ (by omega), Mem.rd_wr_same]; rfl
    | succ n =>
      rw [Mem.wrN, show a + (n + 1) = a + 1 + n by omega, ih _ _ n (by simpa using h)]; rfl

/-- A store keeps the canonical form. -/
theorem Memory.wf_wrN (bs : List Byte) : ∀ (m : List Host.Cell) (a : Nat), Memory.wf m = true → Memory.wf (Mem.wrN m a bs) = true := by
  induction bs with
  | nil => intro m a h; exact h
  | cons b t ih => intro m a h; exact ih _ _ (NMap.wf_put 0 m a b h)

/-- Clearing a range keeps the canonical form. -/
theorem Memory.wf_clear (m : List Host.Cell) (lo hi : Nat) (h : Memory.wf m = true) : Memory.wf (NMap.clear m lo hi) = true :=
  NMap.wf_clear 0 m lo hi h

/-! Sets. -/

theorem NSet.wf_iff (s : List Nat) : NSet.wf s = true ↔ s.Pairwise (fun a b => a < b) := by simp [NSet.wf]

theorem NSet.mem_add (s : List Nat) (k j : Nat) : j ∈ NSet.add s k ↔ j = k ∨ j ∈ s := by
  induction s with
  | nil => simp [NSet.add]
  | cons a t ih =>
    by_cases h : k = a
    · subst h; simp [NSet.add]
    · by_cases h' : k < a
      · simp [NSet.add, h, h']
      · simp only [NSet.add, h, h', if_false, List.mem_cons, ih]; tauto

/-- Adding or removing a member keeps the canonical form. -/
theorem NSet.wf_set (s : List Nat) (k : Nat) (b : Bool) (h : NSet.wf s = true) : NSet.wf (NSet.set s k b) = true := by
  rw [NSet.wf_iff] at *
  cases b with
  | false => exact h.sublist List.filter_sublist
  | true =>
    simp only [NSet.set, if_true]
    induction s with
    | nil => simp [NSet.add]
    | cons a t ih =>
      rw [List.pairwise_cons] at h
      by_cases hk : k = a
      · subst hk; simpa [NSet.add] using h
      · by_cases h' : k < a
        · simp only [NSet.add, hk, h', if_true, if_false, List.pairwise_cons, List.mem_cons]
          exact ⟨by rintro e (rfl | he); exacts [h', lt_trans h' (h.1 e he)], h.1, h.2⟩
        · simp only [NSet.add, hk, h', if_false, List.pairwise_cons]
          refine ⟨fun e he => ?_, ih h.2⟩
          rcases (NSet.mem_add t k e).1 he with rfl | he
          · omega
          · exact h.1 e he

/-- Emptying a range keeps the canonical form. -/
theorem NSet.wf_clear (s : List Nat) (lo hi : Nat) (h : NSet.wf s = true) : NSet.wf (NSet.clear s lo hi) = true := by
  rw [NSet.wf_iff] at *
  exact h.sublist List.filter_sublist

/-- Membership after adding or removing. -/
theorem NSet.mem_set (s : List Nat) (k j : Nat) (b : Bool) : j ∈ NSet.set s k b ↔ (if j = k then b = true else j ∈ s) := by
  cases b with
  | true => by_cases h : j = k <;> simp [NSet.set, NSet.mem_add, h]
  | false => by_cases h : j = k <;> simp [NSet.set, NSet.del, h]

end Sys2Proof.Machine
end

