-- ==== Sys2Proof/Laws/State.lean ====
section
/-! SUPPORT. Laws of the state: what each elementary update writes and leaves alone, what effects built from them do, and that every update
keeps a well-formed state well formed. -/
namespace Sys2Proof.Machine

/-! The parts of the state. -/

/-- The part that an update writes. -/
def Upd.part : Upd → Part
  | .fld f _ _ => .fld f.reg
  | .fldsKeep .. => .flds
  | .fldsDrop .. => .flds
  | .slag .. => .slag
  | .seam .. => .seam
  | .align .. => .align
  | .gclk .. => .gclk
  | .dec .. => .dec
  | .ctl .. => .ctl
  | .cores .. => .cores
  | .coresClear .. => .cores
  | .mes .. => .mes
  | .mesClear .. => .mes
  | .ses .. => .ses
  | .sesClear .. => .ses
  | .vus .. => .vus
  | .vusClear .. => .vus
  | .spd .. => .spd
  | .spdClear .. => .spd
  | .spdPoison .. => .spdPoison
  | .spdPoisonClear .. => .spdPoison
  | .dram .. => .dram
  | .dramClear .. => .dram
  | .dramPoison .. => .dramPoison
  | .dramPoisonClear .. => .dramPoison
  | .dramWritten .. => .dramWritten
  | .dramWrittenClear .. => .dramWritten
  | .caches .. => .caches
  | .cachesClear .. => .caches
  | .refreshOnly .. => .refreshOnly
  | .refreshOnlyClear .. => .refreshOnly
  | .refreshed .. => .refreshed
  | .refreshedClear .. => .refreshed
  | .flasks .. => .flasks
  | .flasksClear .. => .flasks
  | .queues .. => .queues
  | .queuesClear .. => .queues
  | .ldls .. => .ldls
  | .ldlsClear .. => .ldls
  | .msix .. => .msix
  | .msixClear .. => .msix
  | .hports .. => .hports
  | .hportsClear .. => .hports
  | .hostOut .. => .hostOut
  | .rings .. => .rings
  | .ringsClear .. => .rings
  | .ev .. => .ev
  | .slots .. => .slots
  | .slotsClear .. => .slots
  | .mbOrder .. => .mbOrder
  | .msgs .. => .msgs
  | .ports .. => .ports
  | .portsClear .. => .ports
  | .pour .. => .pour
  | .faults .. => .faults
  | .pep .. => .pep
  | .power .. => .power
  | .resp .. => .resp
  | .dbg .. => .dbg
  | .pst .. => .pst
  | .boot .. => .boot
  | .saf .. => .saf
  | .svc .. => .svc
  | .freeCtr .. => .freeCtr

/-! An update leaves every part but its own alone. -/

theorem Upd.frame_slag {u : Upd} {s : State} (h : u.part ≠ .slag) : (u.apply s).slag = s.slag := by
  cases u <;> first | rfl | exact absurd rfl h | (simp only [Upd.apply]; split <;> rfl)

theorem Upd.frame_seam {u : Upd} {s : State} (h : u.part ≠ .seam) : (u.apply s).seam = s.seam := by
  cases u <;> first | rfl | exact absurd rfl h | (simp only [Upd.apply]; split <;> rfl)

theorem Upd.frame_align {u : Upd} {s : State} (h : u.part ≠ .align) : (u.apply s).align = s.align := by
  cases u <;> first | rfl | exact absurd rfl h | (simp only [Upd.apply]; split <;> rfl)

theorem Upd.frame_gclk {u : Upd} {s : State} (h : u.part ≠ .gclk) : (u.apply s).gclk = s.gclk := by
  cases u <;> first | rfl | exact absurd rfl h | (simp only [Upd.apply]; split <;> rfl)

theorem Upd.frame_dec {u : Upd} {s : State} (h : u.part ≠ .dec) : (u.apply s).dec = s.dec := by
  cases u <;> first | rfl | exact absurd rfl h | (simp only [Upd.apply]; split <;> rfl)

theorem Upd.frame_ctl {u : Upd} {s : State} (h : u.part ≠ .ctl) : (u.apply s).ctl = s.ctl := by
  cases u <;> first | rfl | exact absurd rfl h | (simp only [Upd.apply]; split <;> rfl)

theorem Upd.frame_cores {u : Upd} {s : State} (h : u.part ≠ .cores) : (u.apply s).cores = s.cores := by
  cases u <;> first | rfl | exact absurd rfl h | (simp only [Upd.apply]; split <;> rfl)

theorem Upd.frame_mes {u : Upd} {s : State} (h : u.part ≠ .mes) : (u.apply s).mes = s.mes := by
  cases u <;> first | rfl | exact absurd rfl h | (simp only [Upd.apply]; split <;> rfl)

theorem Upd.frame_ses {u : Upd} {s : State} (h : u.part ≠ .ses) : (u.apply s).ses = s.ses := by
  cases u <;> first | rfl | exact absurd rfl h | (simp only [Upd.apply]; split <;> rfl)

theorem Upd.frame_vus {u : Upd} {s : State} (h : u.part ≠ .vus) : (u.apply s).vus = s.vus := by
  cases u <;> first | rfl | exact absurd rfl h | (simp only [Upd.apply]; split <;> rfl)

theorem Upd.frame_spd {u : Upd} {s : State} (h : u.part ≠ .spd) : (u.apply s).spd = s.spd := by
  cases u <;> first | rfl | exact absurd rfl h | (simp only [Upd.apply]; split <;> rfl)

theorem Upd.frame_spdPoison {u : Upd} {s : State} (h : u.part ≠ .spdPoison) : (u.apply s).spdPoison = s.spdPoison := by
  cases u <;> first | rfl | exact absurd rfl h | (simp only [Upd.apply]; split <;> rfl)

theorem Upd.frame_dram {u : Upd} {s : State} (h : u.part ≠ .dram) : (u.apply s).dram = s.dram := by
  cases u <;> first | rfl | exact absurd rfl h | (simp only [Upd.apply]; split <;> rfl)

theorem Upd.frame_dramPoison {u : Upd} {s : State} (h : u.part ≠ .dramPoison) : (u.apply s).dramPoison = s.dramPoison := by
  cases u <;> first | rfl | exact absurd rfl h | (simp only [Upd.apply]; split <;> rfl)

theorem Upd.frame_dramWritten {u : Upd} {s : State} (h : u.part ≠ .dramWritten) : (u.apply s).dramWritten = s.dramWritten := by
  cases u <;> first | rfl | exact absurd rfl h | (simp only [Upd.apply]; split <;> rfl)

theorem Upd.frame_caches {u : Upd} {s : State} (h : u.part ≠ .caches) : (u.apply s).caches = s.caches := by
  cases u <;> first | rfl | exact absurd rfl h | (simp only [Upd.apply]; split <;> rfl)

theorem Upd.frame_refreshOnly {u : Upd} {s : State} (h : u.part ≠ .refreshOnly) : (u.apply s).refreshOnly = s.refreshOnly := by
  cases u <;> first | rfl | exact absurd rfl h | (simp only [Upd.apply]; split <;> rfl)

theorem Upd.frame_refreshed {u : Upd} {s : State} (h : u.part ≠ .refreshed) : (u.apply s).refreshed = s.refreshed := by
  cases u <;> first | rfl | exact absurd rfl h | (simp only [Upd.apply]; split <;> rfl)

theorem Upd.frame_flasks {u : Upd} {s : State} (h : u.part ≠ .flasks) : (u.apply s).flasks = s.flasks := by
  cases u <;> first | rfl | exact absurd rfl h | (simp only [Upd.apply]; split <;> rfl)

theorem Upd.frame_queues {u : Upd} {s : State} (h : u.part ≠ .queues) : (u.apply s).queues = s.queues := by
  cases u <;> first | rfl | exact absurd rfl h | (simp only [Upd.apply]; split <;> rfl)

theorem Upd.frame_ldls {u : Upd} {s : State} (h : u.part ≠ .ldls) : (u.apply s).ldls = s.ldls := by
  cases u <;> first | rfl | exact absurd rfl h | (simp only [Upd.apply]; split <;> rfl)

theorem Upd.frame_msix {u : Upd} {s : State} (h : u.part ≠ .msix) : (u.apply s).msix = s.msix := by
  cases u <;> first | rfl | exact absurd rfl h | (simp only [Upd.apply]; split <;> rfl)

theorem Upd.frame_hports {u : Upd} {s : State} (h : u.part ≠ .hports) : (u.apply s).hports = s.hports := by
  cases u <;> first | rfl | exact absurd rfl h | (simp only [Upd.apply]; split <;> rfl)

theorem Upd.frame_hostOut {u : Upd} {s : State} (h : u.part ≠ .hostOut) : (u.apply s).hostOut = s.hostOut := by
  cases u <;> first | rfl | exact absurd rfl h | (simp only [Upd.apply]; split <;> rfl)

theorem Upd.frame_rings {u : Upd} {s : State} (h : u.part ≠ .rings) : (u.apply s).rings = s.rings := by
  cases u <;> first | rfl | exact absurd rfl h | (simp only [Upd.apply]; split <;> rfl)

theorem Upd.frame_ev {u : Upd} {s : State} (h : u.part ≠ .ev) : (u.apply s).ev = s.ev := by
  cases u <;> first | rfl | exact absurd rfl h | (simp only [Upd.apply]; split <;> rfl)

theorem Upd.frame_slots {u : Upd} {s : State} (h : u.part ≠ .slots) : (u.apply s).slots = s.slots := by
  cases u <;> first | rfl | exact absurd rfl h | (simp only [Upd.apply]; split <;> rfl)

theorem Upd.frame_mbOrder {u : Upd} {s : State} (h : u.part ≠ .mbOrder) : (u.apply s).mbOrder = s.mbOrder := by
  cases u <;> first | rfl | exact absurd rfl h | (simp only [Upd.apply]; split <;> rfl)

theorem Upd.frame_msgs {u : Upd} {s : State} (h : u.part ≠ .msgs) : (u.apply s).msgs = s.msgs := by
  cases u <;> first | rfl | exact absurd rfl h | (simp only [Upd.apply]; split <;> rfl)

theorem Upd.frame_ports {u : Upd} {s : State} (h : u.part ≠ .ports) : (u.apply s).ports = s.ports := by
  cases u <;> first | rfl | exact absurd rfl h | (simp only [Upd.apply]; split <;> rfl)

theorem Upd.frame_pour {u : Upd} {s : State} (h : u.part ≠ .pour) : (u.apply s).pour = s.pour := by
  cases u <;> first | rfl | exact absurd rfl h | (simp only [Upd.apply]; split <;> rfl)

theorem Upd.frame_faults {u : Upd} {s : State} (h : u.part ≠ .faults) : (u.apply s).faults = s.faults := by
  cases u <;> first | rfl | exact absurd rfl h | (simp only [Upd.apply]; split <;> rfl)

theorem Upd.frame_pep {u : Upd} {s : State} (h : u.part ≠ .pep) : (u.apply s).pep = s.pep := by
  cases u <;> first | rfl | exact absurd rfl h | (simp only [Upd.apply]; split <;> rfl)

theorem Upd.frame_power {u : Upd} {s : State} (h : u.part ≠ .power) : (u.apply s).power = s.power := by
  cases u <;> first | rfl | exact absurd rfl h | (simp only [Upd.apply]; split <;> rfl)

theorem Upd.frame_resp {u : Upd} {s : State} (h : u.part ≠ .resp) : (u.apply s).resp = s.resp := by
  cases u <;> first | rfl | exact absurd rfl h | (simp only [Upd.apply]; split <;> rfl)

theorem Upd.frame_dbg {u : Upd} {s : State} (h : u.part ≠ .dbg) : (u.apply s).dbg = s.dbg := by
  cases u <;> first | rfl | exact absurd rfl h | (simp only [Upd.apply]; split <;> rfl)

theorem Upd.frame_pst {u : Upd} {s : State} (h : u.part ≠ .pst) : (u.apply s).pst = s.pst := by
  cases u <;> first | rfl | exact absurd rfl h | (simp only [Upd.apply]; split <;> rfl)

theorem Upd.frame_boot {u : Upd} {s : State} (h : u.part ≠ .boot) : (u.apply s).boot = s.boot := by
  cases u <;> first | rfl | exact absurd rfl h | (simp only [Upd.apply]; split <;> rfl)

theorem Upd.frame_saf {u : Upd} {s : State} (h : u.part ≠ .saf) : (u.apply s).saf = s.saf := by
  cases u <;> first | rfl | exact absurd rfl h | (simp only [Upd.apply]; split <;> rfl)

theorem Upd.frame_svc {u : Upd} {s : State} (h : u.part ≠ .svc) : (u.apply s).svc = s.svc := by
  cases u <;> first | rfl | exact absurd rfl h | (simp only [Upd.apply]; split <;> rfl)

theorem Upd.frame_freeCtr {u : Upd} {s : State} (h : u.part ≠ .freeCtr) : (u.apply s).freeCtr = s.freeCtr := by
  cases u <;> first | rfl | exact absurd rfl h | (simp only [Upd.apply]; split <;> rfl)

/-- No update touches the queue. -/
@[simp] theorem Upd.frame_pending (u : Upd) (s : State) : (u.apply s).pending = s.pending := by
  cases u <;> first | rfl | (simp only [Upd.apply]; split <;> rfl)

/-! What an update writes. -/

@[simp] theorem Upd.slag_slag (v : SlagSt) (s : State) : ((Upd.slag v).apply s).slag = v := rfl
@[simp] theorem Upd.seam_seam (v : SeamSt) (s : State) : ((Upd.seam v).apply s).seam = v := rfl
@[simp] theorem Upd.align_align (v : AlignSt) (s : State) : ((Upd.align v).apply s).align = v := rfl
@[simp] theorem Upd.gclk_gclk (v : GridClk) (s : State) : ((Upd.gclk v).apply s).gclk = v := rfl
@[simp] theorem Upd.dec_dec (v : DecisionSt) (s : State) : ((Upd.dec v).apply s).dec = v := rfl
@[simp] theorem Upd.ctl_ctl (v : CtlSt) (s : State) : ((Upd.ctl v).apply s).ctl = v := rfl
@[simp] theorem Upd.cores_cores (k : Nat) (v : CoreSt) (s : State) : ((Upd.cores k v).apply s).cores = NMap.put CoreSt.init s.cores k v := rfl
@[simp] theorem Upd.coresClear_cores (lo hi : Nat) (s : State) : ((Upd.coresClear lo hi).apply s).cores = NMap.clear s.cores lo hi := rfl
@[simp] theorem Upd.mes_mes (k : Nat) (v : EngSt) (s : State) : ((Upd.mes k v).apply s).mes = NMap.put EngSt.zero s.mes k v := rfl
@[simp] theorem Upd.mesClear_mes (lo hi : Nat) (s : State) : ((Upd.mesClear lo hi).apply s).mes = NMap.clear s.mes lo hi := rfl
@[simp] theorem Upd.ses_ses (k : Nat) (v : EngSt) (s : State) : ((Upd.ses k v).apply s).ses = NMap.put EngSt.zero s.ses k v := rfl
@[simp] theorem Upd.sesClear_ses (lo hi : Nat) (s : State) : ((Upd.sesClear lo hi).apply s).ses = NMap.clear s.ses lo hi := rfl
@[simp] theorem Upd.vus_vus (k : Nat) (v : VuSt) (s : State) : ((Upd.vus k v).apply s).vus = NMap.put VuSt.zero s.vus k v := rfl
@[simp] theorem Upd.vusClear_vus (lo hi : Nat) (s : State) : ((Upd.vusClear lo hi).apply s).vus = NMap.clear s.vus lo hi := rfl
@[simp] theorem Upd.spd_spd (a : Nat) (bs : List Byte) (s : State) : ((Upd.spd a bs).apply s).spd = Mem.wrN s.spd a bs := rfl
@[simp] theorem Upd.spdClear_spd (lo hi : Nat) (s : State) : ((Upd.spdClear lo hi).apply s).spd = NMap.clear s.spd lo hi := rfl
@[simp] theorem Upd.spdPoison_spdPoison (k : Nat) (b : Bool) (s : State) : ((Upd.spdPoison k b).apply s).spdPoison = NSet.set s.spdPoison k b := rfl
@[simp] theorem Upd.spdPoisonClear_spdPoison (lo hi : Nat) (s : State) : ((Upd.spdPoisonClear lo hi).apply s).spdPoison = NSet.clear s.spdPoison lo hi := rfl
@[simp] theorem Upd.dram_dram (a : Nat) (bs : List Byte) (s : State) : ((Upd.dram a bs).apply s).dram = Mem.wrN s.dram a bs := rfl
@[simp] theorem Upd.dramClear_dram (lo hi : Nat) (s : State) : ((Upd.dramClear lo hi).apply s).dram = NMap.clear s.dram lo hi := rfl
@[simp] theorem Upd.dramPoison_dramPoison (k : Nat) (b : Bool) (s : State) : ((Upd.dramPoison k b).apply s).dramPoison = NSet.set s.dramPoison k b := rfl
@[simp] theorem Upd.dramPoisonClear_dramPoison (lo hi : Nat) (s : State) : ((Upd.dramPoisonClear lo hi).apply s).dramPoison = NSet.clear s.dramPoison lo hi := rfl
@[simp] theorem Upd.dramWritten_dramWritten (k : Nat) (b : Bool) (s : State) : ((Upd.dramWritten k b).apply s).dramWritten = NSet.set s.dramWritten k b := rfl
@[simp] theorem Upd.dramWrittenClear_dramWritten (lo hi : Nat) (s : State) : ((Upd.dramWrittenClear lo hi).apply s).dramWritten = NSet.clear s.dramWritten lo hi := rfl
@[simp] theorem Upd.caches_caches (k : Nat) (v : CacheSt) (s : State) : ((Upd.caches k v).apply s).caches = NMap.put CacheSt.empty s.caches k v := rfl
@[simp] theorem Upd.cachesClear_caches (lo hi : Nat) (s : State) : ((Upd.cachesClear lo hi).apply s).caches = NMap.clear s.caches lo hi := rfl
@[simp] theorem Upd.refreshOnly_refreshOnly (k : Nat) (b : Bool) (s : State) : ((Upd.refreshOnly k b).apply s).refreshOnly = NSet.set s.refreshOnly k b := rfl
@[simp] theorem Upd.refreshOnlyClear_refreshOnly (lo hi : Nat) (s : State) : ((Upd.refreshOnlyClear lo hi).apply s).refreshOnly = NSet.clear s.refreshOnly lo hi := rfl
@[simp] theorem Upd.refreshed_refreshed (k : Nat) (v : Nat) (s : State) : ((Upd.refreshed k v).apply s).refreshed = NMap.put 0 s.refreshed k v := rfl
@[simp] theorem Upd.refreshedClear_refreshed (lo hi : Nat) (s : State) : ((Upd.refreshedClear lo hi).apply s).refreshed = NMap.clear s.refreshed lo hi := rfl
@[simp] theorem Upd.flasks_flasks (k : Nat) (v : FlaskSt) (s : State) : ((Upd.flasks k v).apply s).flasks = NMap.put FlaskSt.none s.flasks k v := rfl
@[simp] theorem Upd.flasksClear_flasks (lo hi : Nat) (s : State) : ((Upd.flasksClear lo hi).apply s).flasks = NMap.clear s.flasks lo hi := rfl
@[simp] theorem Upd.queues_queues (k : Nat) (v : QueueSt) (s : State) : ((Upd.queues k v).apply s).queues = NMap.put QueueSt.none s.queues k v := rfl
@[simp] theorem Upd.queuesClear_queues (lo hi : Nat) (s : State) : ((Upd.queuesClear lo hi).apply s).queues = NMap.clear s.queues lo hi := rfl
@[simp] theorem Upd.ldls_ldls (k : Nat) (v : LdlSt) (s : State) : ((Upd.ldls k v).apply s).ldls = NMap.put LdlSt.idle s.ldls k v := rfl
@[simp] theorem Upd.ldlsClear_ldls (lo hi : Nat) (s : State) : ((Upd.ldlsClear lo hi).apply s).ldls = NMap.clear s.ldls lo hi := rfl
@[simp] theorem Upd.msix_msix (k : Nat) (v : MsixEntry) (s : State) : ((Upd.msix k v).apply s).msix = NMap.put MsixEntry.reset s.msix k v := rfl
@[simp] theorem Upd.msixClear_msix (lo hi : Nat) (s : State) : ((Upd.msixClear lo hi).apply s).msix = NMap.clear s.msix lo hi := rfl
@[simp] theorem Upd.hports_hports (k : Nat) (v : HostPort) (s : State) : ((Upd.hports k v).apply s).hports = NMap.put HostPort.none s.hports k v := rfl
@[simp] theorem Upd.hportsClear_hports (lo hi : Nat) (s : State) : ((Upd.hportsClear lo hi).apply s).hports = NMap.clear s.hports lo hi := rfl
@[simp] theorem Upd.hostOut_hostOut (x : HostWr) (s : State) : ((Upd.hostOut x).apply s).hostOut = s.hostOut ++ [x] := rfl
@[simp] theorem Upd.rings_rings (k : Nat) (v : RingSt) (s : State) : ((Upd.rings k v).apply s).rings = NMap.put RingSt.none s.rings k v := rfl
@[simp] theorem Upd.ringsClear_rings (lo hi : Nat) (s : State) : ((Upd.ringsClear lo hi).apply s).rings = NMap.clear s.rings lo hi := rfl
@[simp] theorem Upd.ev_ev (v : EventSt) (s : State) : ((Upd.ev v).apply s).ev = v := rfl
@[simp] theorem Upd.slots_slots (k : Nat) (v : MbSlot) (s : State) : ((Upd.slots k v).apply s).slots = NMap.put MbSlot.none s.slots k v := rfl
@[simp] theorem Upd.slotsClear_slots (lo hi : Nat) (s : State) : ((Upd.slotsClear lo hi).apply s).slots = NMap.clear s.slots lo hi := rfl
@[simp] theorem Upd.mbOrder_mbOrder (v : Nat) (s : State) : ((Upd.mbOrder v).apply s).mbOrder = v := rfl
@[simp] theorem Upd.msgs_msgs (x : OutMsg) (s : State) : ((Upd.msgs x).apply s).msgs = s.msgs ++ [x] := rfl
@[simp] theorem Upd.ports_ports (k : Nat) (v : PortSt) (s : State) : ((Upd.ports k v).apply s).ports = NMap.put PortSt.down s.ports k v := rfl
@[simp] theorem Upd.portsClear_ports (lo hi : Nat) (s : State) : ((Upd.portsClear lo hi).apply s).ports = NMap.clear s.ports lo hi := rfl
@[simp] theorem Upd.pour_pour (v : PourSt) (s : State) : ((Upd.pour v).apply s).pour = v := rfl
@[simp] theorem Upd.faults_faults (v : FaultSt) (s : State) : ((Upd.faults v).apply s).faults = v := rfl
@[simp] theorem Upd.pep_pep (v : PepSt) (s : State) : ((Upd.pep v).apply s).pep = v := rfl
@[simp] theorem Upd.power_power (v : PowerSt) (s : State) : ((Upd.power v).apply s).power = v := rfl
@[simp] theorem Upd.resp_resp (v : Option RespSt) (s : State) : ((Upd.resp v).apply s).resp = v := rfl
@[simp] theorem Upd.dbg_dbg (v : DbgSt) (s : State) : ((Upd.dbg v).apply s).dbg = v := rfl
@[simp] theorem Upd.pst_pst (v : PstSt) (s : State) : ((Upd.pst v).apply s).pst = v := rfl
@[simp] theorem Upd.boot_boot (v : BootSt) (s : State) : ((Upd.boot v).apply s).boot = v := rfl
@[simp] theorem Upd.saf_saf (v : SafSt) (s : State) : ((Upd.saf v).apply s).saf = v := rfl
@[simp] theorem Upd.svc_svc (v : SvcSt) (s : State) : ((Upd.svc v).apply s).svc = v := rfl
@[simp] theorem Upd.freeCtr_freeCtr (v : Nat) (s : State) : ((Upd.freeCtr v).apply s).freeCtr = v := rfl

/-! Register fields. -/

/-- The field written reads as the value, cut to its width. -/
theorem Upd.fget_fld_same {f : Fld} (h : f.settable = true) (i v : Nat) (s : State) :
    ((Upd.fld f i v).apply s).fget f i = v % 2 ^ f.len := by
  simp [State.fget, Upd.apply, h]

/-- A field at another place keeps its value. -/
theorem Upd.fget_fld_ne {f g : Fld} {i j : Nat} (v : Nat) (s : State) (h : f.key i ≠ g.key j) :
    ((Upd.fld f i v).apply s).fget g j = s.fget g j := by
  by_cases hw : f.settable = true
  · simp [State.fget, Upd.apply, hw, NMap.get_put_ne _ _ _ _ h]
  · simp [State.fget, Upd.apply, hw]

theorem Fld.inReg_iff (f : Fld) : f.inReg = true ↔ f.lo < 64 ∧ f.len ≤ 64 := by simp [Fld.inReg]

theorem Fld.settable_iff (f : Fld) : f.settable = true ↔ (f.reg ≠ .MOD_ID ∧ f.reg ≠ .CLU_ID) ∧ f.lo < 64 ∧ f.len ≤ 64 := by
  simp [Fld.settable, Fld.inReg]

theorem Reg.ix_lt (r : Reg) : r.ix < 256 := by cases r <;> decide

theorem Reg.ofNat_ix (r : Reg) : Reg.ofNat r.ix = r := by cases r <;> rfl

/-- Register numbers tell registers apart. -/
theorem Reg.ix_inj {a b : Reg} (h : a.ix = b.ix) : a = b := by
  rw [← Reg.ofNat_ix a, h, Reg.ofNat_ix b]

/-- Two keys are equal only for one register, place, width and instance. -/
theorem Fld.key_inj {f g : Fld} {i j : Nat} (hf : f.inReg = true) (hg : g.inReg = true) (h : f.key i = g.key j) :
    f.reg = g.reg ∧ f.lo = g.lo ∧ f.len = g.len ∧ i = j := by
  rw [Fld.inReg_iff] at hf hg
  have h1 := Reg.ix_lt f.reg
  have h2 := Reg.ix_lt g.reg
  unfold Fld.key at h
  exact ⟨Reg.ix_inj (by omega), by omega, by omega, by omega⟩

/-- The field written, and every other one. -/
theorem Upd.fget_fld {f g : Fld} (i j v : Nat) (s : State) (hf : f.settable = true) (hg : g.inReg = true)
    (h : f.reg = g.reg ∧ f.lo = g.lo ∧ f.len = g.len → f = g) :
    ((Upd.fld f i v).apply s).fget g j = if f = g ∧ i = j then v % 2 ^ f.len else s.fget g j := by
  split
  · next e => obtain ⟨rfl, rfl⟩ := e; exact Upd.fget_fld_same hf i v s
  · next e =>
    refine Upd.fget_fld_ne v s (fun k => e ?_)
    have k := Fld.key_inj ((Fld.inReg_iff f).2 ((Fld.settable_iff f).1 hf).2) hg k
    exact ⟨h ⟨k.1, k.2.1, k.2.2.1⟩, k.2.2.2⟩

/-- Every update but those of the field's own register leaves a field alone. -/
theorem Upd.fget_frame {u : Upd} {s : State} {g : Fld} (hg : g.inReg = true) (h : u.part ≠ .flds) (h' : u.part ≠ .fld g.reg) (i : Nat) :
    (u.apply s).fget g i = s.fget g i := by
  cases u <;> first
    | rfl
    | exact absurd rfl h
    | next f j v =>
      by_cases hs : f.settable = true
      · refine Upd.fget_fld_ne v s (fun k => h' ?_)
        rw [(Fld.key_inj ((Fld.inReg_iff f).2 ((Fld.settable_iff f).1 hs).2) hg k).1.symm]; rfl
      · simp [State.fget, Upd.apply, hs]

/-- Other registers' fields stay when the fields of some registers return to reset. -/
theorem Upd.fget_fldsDrop {g : Fld} (hg : g.inReg = true) (rs : List Nat) (lo hi : Nat) (s : State) (i : Nat) (h : g.reg.ix ∉ rs) :
    ((Upd.fldsDrop rs lo hi).apply s).fget g i = s.fget g i := by
  apply NMap.get_filter
  intro v
  rw [Fld.inReg_iff] at hg
  have h1 := Reg.ix_lt g.reg
  have k : regOfKey (g.key i) = g.reg.ix := by unfold regOfKey Fld.key; omega
  simp [k, h]

/-- A field written, read at another register, place or width. -/
theorem Upd.fget_fld_other {f g : Fld} (h : (f.inReg && g.inReg && (f.reg != g.reg || f.lo != g.lo || f.len != g.len)) = true)
    (i j v : Nat) (s : State) : ((Upd.fld f i v).apply s).fget g j = s.fget g j := by
  simp only [Bool.and_eq_true, Bool.or_eq_true, bne_iff_ne, ne_eq] at h
  refine Upd.fget_fld_ne v s (fun k => ?_)
  have k := Fld.key_inj h.1.1 h.1.2 k
  rcases h.2 with (h | h) | h
  · exact h k.1
  · exact h k.2.1
  · exact h k.2.2.1

/-- A field written, read in another instance. -/
theorem Upd.fget_fld_at {f : Fld} (hf : f.inReg = true) {i j : Nat} (h : i ≠ j) (v : Nat) (s : State) :
    ((Upd.fld f i v).apply s).fget f j = s.fget f j :=
  Upd.fget_fld_ne v s (fun k => h (Fld.key_inj hf hf k).2.2.2)

/-! Effects. -/

@[simp] theorem applyAll_nil (s : State) : applyAll [] s = s := rfl
@[simp] theorem applyAll_cons (u : Upd) (us : List Upd) (s : State) : applyAll (u :: us) s = applyAll us (u.apply s) := rfl

theorem applyAll_append (us vs : List Upd) (s : State) : applyAll (us ++ vs) s = applyAll vs (applyAll us s) := by
  induction us generalizing s with
  | nil => rfl
  | cons u us ih => exact ih _

@[simp] theorem on_nop (s : State) : Eff.on nop s = s := rfl
@[simp] theorem on_seq_nil (s : State) : Eff.on (seq []) s = s := rfl
@[simp] theorem on_seq_cons (e : Eff) (es : List Eff) (s : State) : Eff.on (seq (e :: es)) s = Eff.on (seq es) (Eff.on e s) := by
  simp only [Eff.on, seq, applyAll_append]
@[simp] theorem on_rd (k : State → Eff) (s : State) : Eff.on (rd k) s = Eff.on (k s) s := rfl
@[simp] theorem on_upd (us : List Upd) (s : State) : Eff.on (upd us) s = applyAll us s := rfl
@[simp] theorem on_when_true (e : Eff) (s : State) : Eff.on (when true e) s = Eff.on e s := rfl
@[simp] theorem on_when_false (e : Eff) (s : State) : Eff.on (when false e) s = s := rfl
@[simp] theorem on_either_true (e e' : Eff) (s : State) : Eff.on (either true e e') s = Eff.on e s := rfl
@[simp] theorem on_either_false (e e' : Eff) (s : State) : Eff.on (either false e e') s = Eff.on e' s := rfl
@[simp] theorem on_each_nil {α : Type} (f : α → Eff) (s : State) : Eff.on (each [] f) s = s := rfl
@[simp] theorem on_each_cons {α : Type} (a : α) (l : List α) (f : α → Eff) (s : State) :
    Eff.on (each (a :: l) f) s = Eff.on (each l f) (Eff.on (f a) s) := on_seq_cons _ _ _
@[simp] theorem on_fset (f : Fld) (i v : Nat) (s : State) : Eff.on (fset f i v) s = (Upd.fld f i v).apply s := rfl
@[simp] theorem on_fput (f : Fld) (i : Nat) (b : Bool) (s : State) : Eff.on (fput f i b) s = (Upd.fld f i (b2n b)).apply s := rfl
@[simp] theorem on_fadd (f : Fld) (i n : Nat) (s : State) : Eff.on (fadd f i n) s = (Upd.fld f i (s.fget f i + n)).apply s := rfl
@[simp] theorem on_fsat (f : Fld) (i n : Nat) (s : State) :
    Eff.on (fsat f i n) s = (Upd.fld f i (satAdd (2 ^ f.len - 1) (s.fget f i) n)).apply s := rfl
@[simp] theorem on_fmax (f : Fld) (i v : Nat) (s : State) : Eff.on (fmax f i v) s = (Upd.fld f i (max (s.fget f i) v)).apply s := rfl

@[simp] theorem on_tcTo (t : Nat) (s : State) : Eff.on (tcTo t) s = (Upd.fld F.TC_NOW_COUNT 0 (max s.tc (t % 2 ^ 64))).apply s := rfl
@[simp] theorem on_raise (c sv : Nat) (w : Who) (d : List (Nat × Nat)) (s : State) :
    Eff.on (raise c sv w d) s = (Upd.ev (s.ev.occur (s.occurrence c sv 0 w (pack d)))).apply s := rfl
@[simp] theorem on_send (p : Nat) (k : MsgKind) (fs : List Nat) (s : State) :
    Eff.on (send p k fs) s = (Upd.msgs { port := p, kind := k, fields := fs }).apply s := rfl
@[simp] theorem on_answer (bs : List Byte) (p : Bool) (st : Nat) (s : State) :
    Eff.on (answer bs p st) s = (Upd.resp (some { bytes := bs, poison := p, status := st })).apply s := rfl
@[simp] theorem on_fbit (f : Fld) (i b : Nat) (v : Bool) (s : State) :
    Eff.on (fbit f i b v) s = (Upd.fld f i (if v then setBit (s.fget f i) b else clrBit (s.fget f i) b)).apply s := rfl
theorem on_draw (k : Nat → Eff) (s : State) :
    Eff.on (draw k) s = Eff.on (k (Config.freeNat s.freeCtr)) ((Upd.freeCtr (s.freeCtr + 1)).apply s) := by
  simp [draw]

/-- A time that a command carries moves the time counter on, never back (R66). -/
theorem tc_tcTo (t : Nat) (s : State) : (Eff.on (tcTo t) s).tc = max s.tc (t % 2 ^ 64) % 2 ^ 64 :=
  Upd.fget_fld_same (by decide) 0 _ s

/-- Running an effect answers the state it leaves. -/
theorem run_eq (e : Eff) (s : State) : run e s = .next (Eff.on e s) := rfl

/-- What an update writes lies in a list of parts: its part stands there, or it writes registers' fields and the list names those registers
or holds all register fields. -/
def Upd.In (u : Upd) (ps : List Part) : Prop :=
  u.part ∈ ps ∨ (Part.flds ∈ ps ∧ ∃ r, u.part = .fld r) ∨
    ∃ rs lo hi, u = .fldsDrop rs lo hi ∧ ∀ i ∈ rs, Part.fld (Reg.ofNat i) ∈ ps

theorem Upd.In.mono {u : Upd} {ps qs : List Part} (h : u.In ps) (hs : ps ⊆ qs) : u.In qs := by
  rcases h with h | ⟨h, r⟩ | ⟨rs, lo, hi, rfl, h⟩
  · exact .inl (hs h)
  · exact .inr (.inl ⟨hs h, r⟩)
  · exact .inr (.inr ⟨rs, lo, hi, rfl, fun i hi => hs (h i hi)⟩)
theorem Upd.In.mem {u : Upd} {ps : List Part} (h : u.In ps) (hp : ∀ r, u.part ≠ .fld r) (hq : u.part ≠ .flds) : u.part ∈ ps := by
  rcases h with h | ⟨_, r, h⟩ | ⟨rs, lo, hi, rfl, h⟩
  · exact h
  · exact absurd h (hp r)
  · exact absurd rfl hq

/-- What an effect writes lies in a list of parts, whatever state it meets. -/
def Eff.Only (ps : List Part) (e : Eff) : Prop := ∀ s, ∀ u ∈ e s, u.In ps

theorem Eff.Only.mono {ps qs : List Part} {e : Eff} (h : e.Only ps) (hs : ps ⊆ qs) : e.Only qs := fun s u hu => (h s u hu).mono hs
theorem only_nop (ps : List Part) : Eff.Only ps nop := by intro s u hu; cases hu
theorem only_upd {ps : List Part} {us : List Upd} (h : ∀ u ∈ us, u.part ∈ ps) : Eff.Only ps (upd us) := fun _ u hu => .inl (h u hu)
theorem only_rd {ps : List Part} {k : State → Eff} (h : ∀ s, Eff.Only ps (k s)) : Eff.Only ps (rd k) := fun s u hu => h s s u hu
theorem only_when {ps : List Part} {b : Bool} {e : Eff} (h : b = true → Eff.Only ps e) : Eff.Only ps (when b e) := by
  cases b with
  | true => exact h rfl
  | false => exact only_nop ps
theorem only_either {ps : List Part} {b : Bool} {e e' : Eff} (h : Eff.Only ps e) (h' : Eff.Only ps e') : Eff.Only ps (either b e e') := by
  cases b <;> assumption
theorem only_seq {ps : List Part} : ∀ {es : List Eff}, (∀ e ∈ es, Eff.Only ps e) → Eff.Only ps (seq es)
  | [], _ => only_nop ps
  | e :: es, h => by
    intro s u hu
    simp only [seq, List.mem_append] at hu
    rcases hu with hu | hu
    · exact h e (List.mem_cons_self ..) s u hu
    · exact only_seq (fun e he => h e (List.mem_cons_of_mem _ he)) _ u hu
theorem only_each {α : Type} {ps : List Part} {l : List α} {f : α → Eff} (h : ∀ a ∈ l, Eff.Only ps (f a)) : Eff.Only ps (each l f) := by
  apply only_seq
  intro e he
  obtain ⟨a, ha, rfl⟩ := List.mem_map.1 he
  exact h a ha
theorem only_one {ps : List Part} {k : State → Upd} (h : ∀ s, (k s).part ∈ ps) : Eff.Only ps (fun s => [k s]) := by
  intro s u hu; rw [List.mem_singleton.1 hu]; exact .inl (h s)
theorem only_fset_any {ps : List Part} (h : .flds ∈ ps) (f : Fld) (i v : Nat) : Eff.Only ps (fset f i v) := by
  intro s u hu; rw [List.mem_singleton.1 hu]; exact .inr (.inl ⟨h, f.reg, rfl⟩)
theorem only_seq_nil (ps : List Part) : Eff.Only ps (seq []) := only_nop ps
theorem only_seq_cons {ps : List Part} {e : Eff} {es : List Eff} (h : Eff.Only ps e) (h' : Eff.Only ps (seq es)) :
    Eff.Only ps (seq (e :: es)) := by
  intro s u hu
  simp only [seq, List.mem_append] at hu
  rcases hu with hu | hu
  · exact h s u hu
  · exact h' _ u hu
theorem only_fset {ps : List Part} {f : Fld} (h : Part.fld f.reg ∈ ps) (i v : Nat) : Eff.Only ps (fset f i v) := only_one fun _ => h
theorem only_fput {ps : List Part} {f : Fld} (h : Part.fld f.reg ∈ ps) (i : Nat) (b : Bool) : Eff.Only ps (fput f i b) := only_one fun _ => h
theorem only_fadd {ps : List Part} {f : Fld} (h : Part.fld f.reg ∈ ps) (i n : Nat) : Eff.Only ps (fadd f i n) := only_one fun _ => h
theorem only_fsat {ps : List Part} {f : Fld} (h : Part.fld f.reg ∈ ps) (i n : Nat) : Eff.Only ps (fsat f i n) := only_one fun _ => h
theorem only_fmax {ps : List Part} {f : Fld} (h : Part.fld f.reg ∈ ps) (i n : Nat) : Eff.Only ps (fmax f i n) := only_one fun _ => h
theorem only_fbit {ps : List Part} {f : Fld} (h : Part.fld f.reg ∈ ps) (i b : Nat) (v : Bool) : Eff.Only ps (fbit f i b v) :=
  only_one fun _ => h
theorem only_raise {ps : List Part} (h : Part.ev ∈ ps) (c sv : Nat) (w : Who) (d : List (Nat × Nat)) : Eff.Only ps (raise c sv w d) :=
  only_one fun _ => h
theorem only_send {ps : List Part} (h : Part.msgs ∈ ps) (p : Nat) (k : MsgKind) (fs : List Nat) : Eff.Only ps (send p k fs) :=
  only_one fun _ => h
theorem only_answer {ps : List Part} (h : Part.resp ∈ ps) (bs : List Byte) (p : Bool) (st : Nat) : Eff.Only ps (answer bs p st) :=
  only_one fun _ => h
theorem only_tcTo {ps : List Part} (h : Part.fld .TC_NOW ∈ ps) (t : Nat) : Eff.Only ps (tcTo t) := only_one fun _ => h
theorem only_draw {ps : List Part} (h : Part.freeCtr ∈ ps) {k : Nat → Eff} (hk : ∀ v, Eff.Only ps (k v)) : Eff.Only ps (draw k) :=
  only_rd fun _ => only_seq_cons (only_upd (by simpa [Upd.part] using h)) (only_seq_cons (hk _) (only_seq_nil ps))
theorem only_onCore {ps : List Part} (h : Part.cores ∈ ps) (k : Nat) (f : CoreSt → CoreSt) : Eff.Only ps (onCore k f) := only_one fun _ => h
theorem only_onMe {ps : List Part} (h : Part.mes ∈ ps) (k : Nat) (f : EngSt → EngSt) : Eff.Only ps (onMe k f) := only_one fun _ => h
theorem only_onSe {ps : List Part} (h : Part.ses ∈ ps) (k : Nat) (f : EngSt → EngSt) : Eff.Only ps (onSe k f) := only_one fun _ => h
theorem only_onVu {ps : List Part} (h : Part.vus ∈ ps) (k : Nat) (f : VuSt → VuSt) : Eff.Only ps (onVu k f) := only_one fun _ => h
theorem only_onCache {ps : List Part} (h : Part.caches ∈ ps) (k : Nat) (f : CacheSt → CacheSt) : Eff.Only ps (onCache k f) := only_one fun _ => h
theorem only_onFlask {ps : List Part} (h : Part.flasks ∈ ps) (k : Nat) (f : FlaskSt → FlaskSt) : Eff.Only ps (onFlask k f) := only_one fun _ => h
theorem only_onQueue {ps : List Part} (h : Part.queues ∈ ps) (k : Nat) (f : QueueSt → QueueSt) : Eff.Only ps (onQueue k f) := only_one fun _ => h
theorem only_onLdl {ps : List Part} (h : Part.ldls ∈ ps) (k : Nat) (f : LdlSt → LdlSt) : Eff.Only ps (onLdl k f) := only_one fun _ => h
theorem only_onMsixEntry {ps : List Part} (h : Part.msix ∈ ps) (k : Nat) (f : MsixEntry → MsixEntry) : Eff.Only ps (onMsixEntry k f) := only_one fun _ => h
theorem only_onHport {ps : List Part} (h : Part.hports ∈ ps) (k : Nat) (f : HostPort → HostPort) : Eff.Only ps (onHport k f) := only_one fun _ => h
theorem only_onRing {ps : List Part} (h : Part.rings ∈ ps) (k : Nat) (f : RingSt → RingSt) : Eff.Only ps (onRing k f) := only_one fun _ => h
theorem only_onSlot {ps : List Part} (h : Part.slots ∈ ps) (k : Nat) (f : MbSlot → MbSlot) : Eff.Only ps (onSlot k f) := only_one fun _ => h
theorem only_onPort {ps : List Part} (h : Part.ports ∈ ps) (k : Nat) (f : PortSt → PortSt) : Eff.Only ps (onPort k f) := only_one fun _ => h
/-- The fields of a register are its own. -/
theorem Reg.fields_reg (r : Reg) : ∀ f ∈ r.fields, f.reg = r := by
  cases r <;> decide
theorem only_regReset {ps : List Part} {r : Reg} (h : Part.fld r ∈ ps) (i : Nat) : Eff.Only ps (regReset r i) := by
  intro s u hu
  obtain ⟨f, hf, rfl⟩ := List.mem_map.1 hu
  exact .inl (by rw [Upd.part, Reg.fields_reg r f hf]; exact h)

/-! Units read after one of them changed. -/

@[simp] theorem onCore_same (k : Nat) (f : CoreSt → CoreSt) (s : State) : (Eff.on (onCore k f) s).core k = f (s.core k) := by
  simp [Eff.on, onCore, State.core]
theorem onCore_ne {k j : Nat} (f : CoreSt → CoreSt) (s : State) (h : k ≠ j) : (Eff.on (onCore k f) s).core j = s.core j := by
  simp [Eff.on, onCore, State.core, NMap.get_put_ne _ _ _ _ h]
@[simp] theorem onMe_same (k : Nat) (f : EngSt → EngSt) (s : State) : (Eff.on (onMe k f) s).me k = f (s.me k) := by
  simp [Eff.on, onMe, State.me]
theorem onMe_ne {k j : Nat} (f : EngSt → EngSt) (s : State) (h : k ≠ j) : (Eff.on (onMe k f) s).me j = s.me j := by
  simp [Eff.on, onMe, State.me, NMap.get_put_ne _ _ _ _ h]
@[simp] theorem onSe_same (k : Nat) (f : EngSt → EngSt) (s : State) : (Eff.on (onSe k f) s).se k = f (s.se k) := by
  simp [Eff.on, onSe, State.se]
theorem onSe_ne {k j : Nat} (f : EngSt → EngSt) (s : State) (h : k ≠ j) : (Eff.on (onSe k f) s).se j = s.se j := by
  simp [Eff.on, onSe, State.se, NMap.get_put_ne _ _ _ _ h]
@[simp] theorem onVu_same (k : Nat) (f : VuSt → VuSt) (s : State) : (Eff.on (onVu k f) s).vu k = f (s.vu k) := by
  simp [Eff.on, onVu, State.vu]
theorem onVu_ne {k j : Nat} (f : VuSt → VuSt) (s : State) (h : k ≠ j) : (Eff.on (onVu k f) s).vu j = s.vu j := by
  simp [Eff.on, onVu, State.vu, NMap.get_put_ne _ _ _ _ h]
@[simp] theorem onCache_same (k : Nat) (f : CacheSt → CacheSt) (s : State) : (Eff.on (onCache k f) s).cache k = f (s.cache k) := by
  simp [Eff.on, onCache, State.cache]
theorem onCache_ne {k j : Nat} (f : CacheSt → CacheSt) (s : State) (h : k ≠ j) : (Eff.on (onCache k f) s).cache j = s.cache j := by
  simp [Eff.on, onCache, State.cache, NMap.get_put_ne _ _ _ _ h]
@[simp] theorem onFlask_same (k : Nat) (f : FlaskSt → FlaskSt) (s : State) : (Eff.on (onFlask k f) s).flask k = f (s.flask k) := by
  simp [Eff.on, onFlask, State.flask]
theorem onFlask_ne {k j : Nat} (f : FlaskSt → FlaskSt) (s : State) (h : k ≠ j) : (Eff.on (onFlask k f) s).flask j = s.flask j := by
  simp [Eff.on, onFlask, State.flask, NMap.get_put_ne _ _ _ _ h]
@[simp] theorem onQueue_same (k : Nat) (f : QueueSt → QueueSt) (s : State) : (Eff.on (onQueue k f) s).queue k = f (s.queue k) := by
  simp [Eff.on, onQueue, State.queue]
theorem onQueue_ne {k j : Nat} (f : QueueSt → QueueSt) (s : State) (h : k ≠ j) : (Eff.on (onQueue k f) s).queue j = s.queue j := by
  simp [Eff.on, onQueue, State.queue, NMap.get_put_ne _ _ _ _ h]
@[simp] theorem onLdl_same (k : Nat) (f : LdlSt → LdlSt) (s : State) : (Eff.on (onLdl k f) s).ldl k = f (s.ldl k) := by
  simp [Eff.on, onLdl, State.ldl]
theorem onLdl_ne {k j : Nat} (f : LdlSt → LdlSt) (s : State) (h : k ≠ j) : (Eff.on (onLdl k f) s).ldl j = s.ldl j := by
  simp [Eff.on, onLdl, State.ldl, NMap.get_put_ne _ _ _ _ h]
@[simp] theorem onMsixEntry_same (k : Nat) (f : MsixEntry → MsixEntry) (s : State) : (Eff.on (onMsixEntry k f) s).msixEntry k = f (s.msixEntry k) := by
  simp [Eff.on, onMsixEntry, State.msixEntry]
theorem onMsixEntry_ne {k j : Nat} (f : MsixEntry → MsixEntry) (s : State) (h : k ≠ j) : (Eff.on (onMsixEntry k f) s).msixEntry j = s.msixEntry j := by
  simp [Eff.on, onMsixEntry, State.msixEntry, NMap.get_put_ne _ _ _ _ h]
@[simp] theorem onHport_same (k : Nat) (f : HostPort → HostPort) (s : State) : (Eff.on (onHport k f) s).hport k = f (s.hport k) := by
  simp [Eff.on, onHport, State.hport]
theorem onHport_ne {k j : Nat} (f : HostPort → HostPort) (s : State) (h : k ≠ j) : (Eff.on (onHport k f) s).hport j = s.hport j := by
  simp [Eff.on, onHport, State.hport, NMap.get_put_ne _ _ _ _ h]
@[simp] theorem onRing_same (k : Nat) (f : RingSt → RingSt) (s : State) : (Eff.on (onRing k f) s).ring k = f (s.ring k) := by
  simp [Eff.on, onRing, State.ring]
theorem onRing_ne {k j : Nat} (f : RingSt → RingSt) (s : State) (h : k ≠ j) : (Eff.on (onRing k f) s).ring j = s.ring j := by
  simp [Eff.on, onRing, State.ring, NMap.get_put_ne _ _ _ _ h]
@[simp] theorem onSlot_same (k : Nat) (f : MbSlot → MbSlot) (s : State) : (Eff.on (onSlot k f) s).slot k = f (s.slot k) := by
  simp [Eff.on, onSlot, State.slot]
theorem onSlot_ne {k j : Nat} (f : MbSlot → MbSlot) (s : State) (h : k ≠ j) : (Eff.on (onSlot k f) s).slot j = s.slot j := by
  simp [Eff.on, onSlot, State.slot, NMap.get_put_ne _ _ _ _ h]
@[simp] theorem onPort_same (k : Nat) (f : PortSt → PortSt) (s : State) : (Eff.on (onPort k f) s).port k = f (s.port k) := by
  simp [Eff.on, onPort, State.port]
theorem onPort_ne {k j : Nat} (f : PortSt → PortSt) (s : State) (h : k ≠ j) : (Eff.on (onPort k f) s).port j = s.port j := by
  simp [Eff.on, onPort, State.port, NMap.get_put_ne _ _ _ _ h]

/-- What no update changes, updates made in order do not change. -/
theorem applyAll_frame {α : Type} (g : State → α) {us : List Upd} (h : ∀ u ∈ us, ∀ s, g (u.apply s) = g s) (s : State) :
    g (applyAll us s) = g s := by
  induction us generalizing s with
  | nil => rfl
  | cons u us ih =>
    rw [applyAll_cons, ih (fun v hv => h v (List.mem_cons_of_mem _ hv)), h u (List.mem_cons_self ..)]

/-! An effect leaves alone every part it does not write. -/

theorem Eff.Only.frame_slag {ps : List Part} {e : Eff} (h : e.Only ps) (hp : Part.slag ∉ ps) (s : State) : (Eff.on e s).slag = s.slag :=
  applyAll_frame (fun s => s.slag) (fun u hu _ => Upd.frame_slag (fun k => hp (k ▸ (h s u hu).mem (by rw [k]; nofun) (by rw [k]; nofun)))) s

theorem Eff.Only.frame_seam {ps : List Part} {e : Eff} (h : e.Only ps) (hp : Part.seam ∉ ps) (s : State) : (Eff.on e s).seam = s.seam :=
  applyAll_frame (fun s => s.seam) (fun u hu _ => Upd.frame_seam (fun k => hp (k ▸ (h s u hu).mem (by rw [k]; nofun) (by rw [k]; nofun)))) s

theorem Eff.Only.frame_align {ps : List Part} {e : Eff} (h : e.Only ps) (hp : Part.align ∉ ps) (s : State) : (Eff.on e s).align = s.align :=
  applyAll_frame (fun s => s.align) (fun u hu _ => Upd.frame_align (fun k => hp (k ▸ (h s u hu).mem (by rw [k]; nofun) (by rw [k]; nofun)))) s

theorem Eff.Only.frame_gclk {ps : List Part} {e : Eff} (h : e.Only ps) (hp : Part.gclk ∉ ps) (s : State) : (Eff.on e s).gclk = s.gclk :=
  applyAll_frame (fun s => s.gclk) (fun u hu _ => Upd.frame_gclk (fun k => hp (k ▸ (h s u hu).mem (by rw [k]; nofun) (by rw [k]; nofun)))) s

theorem Eff.Only.frame_dec {ps : List Part} {e : Eff} (h : e.Only ps) (hp : Part.dec ∉ ps) (s : State) : (Eff.on e s).dec = s.dec :=
  applyAll_frame (fun s => s.dec) (fun u hu _ => Upd.frame_dec (fun k => hp (k ▸ (h s u hu).mem (by rw [k]; nofun) (by rw [k]; nofun)))) s

theorem Eff.Only.frame_ctl {ps : List Part} {e : Eff} (h : e.Only ps) (hp : Part.ctl ∉ ps) (s : State) : (Eff.on e s).ctl = s.ctl :=
  applyAll_frame (fun s => s.ctl) (fun u hu _ => Upd.frame_ctl (fun k => hp (k ▸ (h s u hu).mem (by rw [k]; nofun) (by rw [k]; nofun)))) s

theorem Eff.Only.frame_cores {ps : List Part} {e : Eff} (h : e.Only ps) (hp : Part.cores ∉ ps) (s : State) : (Eff.on e s).cores = s.cores :=
  applyAll_frame (fun s => s.cores) (fun u hu _ => Upd.frame_cores (fun k => hp (k ▸ (h s u hu).mem (by rw [k]; nofun) (by rw [k]; nofun)))) s

theorem Eff.Only.frame_mes {ps : List Part} {e : Eff} (h : e.Only ps) (hp : Part.mes ∉ ps) (s : State) : (Eff.on e s).mes = s.mes :=
  applyAll_frame (fun s => s.mes) (fun u hu _ => Upd.frame_mes (fun k => hp (k ▸ (h s u hu).mem (by rw [k]; nofun) (by rw [k]; nofun)))) s

theorem Eff.Only.frame_ses {ps : List Part} {e : Eff} (h : e.Only ps) (hp : Part.ses ∉ ps) (s : State) : (Eff.on e s).ses = s.ses :=
  applyAll_frame (fun s => s.ses) (fun u hu _ => Upd.frame_ses (fun k => hp (k ▸ (h s u hu).mem (by rw [k]; nofun) (by rw [k]; nofun)))) s

theorem Eff.Only.frame_vus {ps : List Part} {e : Eff} (h : e.Only ps) (hp : Part.vus ∉ ps) (s : State) : (Eff.on e s).vus = s.vus :=
  applyAll_frame (fun s => s.vus) (fun u hu _ => Upd.frame_vus (fun k => hp (k ▸ (h s u hu).mem (by rw [k]; nofun) (by rw [k]; nofun)))) s

theorem Eff.Only.frame_spd {ps : List Part} {e : Eff} (h : e.Only ps) (hp : Part.spd ∉ ps) (s : State) : (Eff.on e s).spd = s.spd :=
  applyAll_frame (fun s => s.spd) (fun u hu _ => Upd.frame_spd (fun k => hp (k ▸ (h s u hu).mem (by rw [k]; nofun) (by rw [k]; nofun)))) s

theorem Eff.Only.frame_spdPoison {ps : List Part} {e : Eff} (h : e.Only ps) (hp : Part.spdPoison ∉ ps) (s : State) : (Eff.on e s).spdPoison = s.spdPoison :=
  applyAll_frame (fun s => s.spdPoison) (fun u hu _ => Upd.frame_spdPoison (fun k => hp (k ▸ (h s u hu).mem (by rw [k]; nofun) (by rw [k]; nofun)))) s

theorem Eff.Only.frame_dram {ps : List Part} {e : Eff} (h : e.Only ps) (hp : Part.dram ∉ ps) (s : State) : (Eff.on e s).dram = s.dram :=
  applyAll_frame (fun s => s.dram) (fun u hu _ => Upd.frame_dram (fun k => hp (k ▸ (h s u hu).mem (by rw [k]; nofun) (by rw [k]; nofun)))) s

theorem Eff.Only.frame_dramPoison {ps : List Part} {e : Eff} (h : e.Only ps) (hp : Part.dramPoison ∉ ps) (s : State) : (Eff.on e s).dramPoison = s.dramPoison :=
  applyAll_frame (fun s => s.dramPoison) (fun u hu _ => Upd.frame_dramPoison (fun k => hp (k ▸ (h s u hu).mem (by rw [k]; nofun) (by rw [k]; nofun)))) s

theorem Eff.Only.frame_dramWritten {ps : List Part} {e : Eff} (h : e.Only ps) (hp : Part.dramWritten ∉ ps) (s : State) : (Eff.on e s).dramWritten = s.dramWritten :=
  applyAll_frame (fun s => s.dramWritten) (fun u hu _ => Upd.frame_dramWritten (fun k => hp (k ▸ (h s u hu).mem (by rw [k]; nofun) (by rw [k]; nofun)))) s

theorem Eff.Only.frame_caches {ps : List Part} {e : Eff} (h : e.Only ps) (hp : Part.caches ∉ ps) (s : State) : (Eff.on e s).caches = s.caches :=
  applyAll_frame (fun s => s.caches) (fun u hu _ => Upd.frame_caches (fun k => hp (k ▸ (h s u hu).mem (by rw [k]; nofun) (by rw [k]; nofun)))) s

theorem Eff.Only.frame_refreshOnly {ps : List Part} {e : Eff} (h : e.Only ps) (hp : Part.refreshOnly ∉ ps) (s : State) : (Eff.on e s).refreshOnly = s.refreshOnly :=
  applyAll_frame (fun s => s.refreshOnly) (fun u hu _ => Upd.frame_refreshOnly (fun k => hp (k ▸ (h s u hu).mem (by rw [k]; nofun) (by rw [k]; nofun)))) s

theorem Eff.Only.frame_refreshed {ps : List Part} {e : Eff} (h : e.Only ps) (hp : Part.refreshed ∉ ps) (s : State) : (Eff.on e s).refreshed = s.refreshed :=
  applyAll_frame (fun s => s.refreshed) (fun u hu _ => Upd.frame_refreshed (fun k => hp (k ▸ (h s u hu).mem (by rw [k]; nofun) (by rw [k]; nofun)))) s

theorem Eff.Only.frame_flasks {ps : List Part} {e : Eff} (h : e.Only ps) (hp : Part.flasks ∉ ps) (s : State) : (Eff.on e s).flasks = s.flasks :=
  applyAll_frame (fun s => s.flasks) (fun u hu _ => Upd.frame_flasks (fun k => hp (k ▸ (h s u hu).mem (by rw [k]; nofun) (by rw [k]; nofun)))) s

theorem Eff.Only.frame_queues {ps : List Part} {e : Eff} (h : e.Only ps) (hp : Part.queues ∉ ps) (s : State) : (Eff.on e s).queues = s.queues :=
  applyAll_frame (fun s => s.queues) (fun u hu _ => Upd.frame_queues (fun k => hp (k ▸ (h s u hu).mem (by rw [k]; nofun) (by rw [k]; nofun)))) s

theorem Eff.Only.frame_ldls {ps : List Part} {e : Eff} (h : e.Only ps) (hp : Part.ldls ∉ ps) (s : State) : (Eff.on e s).ldls = s.ldls :=
  applyAll_frame (fun s => s.ldls) (fun u hu _ => Upd.frame_ldls (fun k => hp (k ▸ (h s u hu).mem (by rw [k]; nofun) (by rw [k]; nofun)))) s

theorem Eff.Only.frame_msix {ps : List Part} {e : Eff} (h : e.Only ps) (hp : Part.msix ∉ ps) (s : State) : (Eff.on e s).msix = s.msix :=
  applyAll_frame (fun s => s.msix) (fun u hu _ => Upd.frame_msix (fun k => hp (k ▸ (h s u hu).mem (by rw [k]; nofun) (by rw [k]; nofun)))) s

theorem Eff.Only.frame_hports {ps : List Part} {e : Eff} (h : e.Only ps) (hp : Part.hports ∉ ps) (s : State) : (Eff.on e s).hports = s.hports :=
  applyAll_frame (fun s => s.hports) (fun u hu _ => Upd.frame_hports (fun k => hp (k ▸ (h s u hu).mem (by rw [k]; nofun) (by rw [k]; nofun)))) s

theorem Eff.Only.frame_hostOut {ps : List Part} {e : Eff} (h : e.Only ps) (hp : Part.hostOut ∉ ps) (s : State) : (Eff.on e s).hostOut = s.hostOut :=
  applyAll_frame (fun s => s.hostOut) (fun u hu _ => Upd.frame_hostOut (fun k => hp (k ▸ (h s u hu).mem (by rw [k]; nofun) (by rw [k]; nofun)))) s

theorem Eff.Only.frame_rings {ps : List Part} {e : Eff} (h : e.Only ps) (hp : Part.rings ∉ ps) (s : State) : (Eff.on e s).rings = s.rings :=
  applyAll_frame (fun s => s.rings) (fun u hu _ => Upd.frame_rings (fun k => hp (k ▸ (h s u hu).mem (by rw [k]; nofun) (by rw [k]; nofun)))) s

theorem Eff.Only.frame_ev {ps : List Part} {e : Eff} (h : e.Only ps) (hp : Part.ev ∉ ps) (s : State) : (Eff.on e s).ev = s.ev :=
  applyAll_frame (fun s => s.ev) (fun u hu _ => Upd.frame_ev (fun k => hp (k ▸ (h s u hu).mem (by rw [k]; nofun) (by rw [k]; nofun)))) s

theorem Eff.Only.frame_slots {ps : List Part} {e : Eff} (h : e.Only ps) (hp : Part.slots ∉ ps) (s : State) : (Eff.on e s).slots = s.slots :=
  applyAll_frame (fun s => s.slots) (fun u hu _ => Upd.frame_slots (fun k => hp (k ▸ (h s u hu).mem (by rw [k]; nofun) (by rw [k]; nofun)))) s

theorem Eff.Only.frame_mbOrder {ps : List Part} {e : Eff} (h : e.Only ps) (hp : Part.mbOrder ∉ ps) (s : State) : (Eff.on e s).mbOrder = s.mbOrder :=
  applyAll_frame (fun s => s.mbOrder) (fun u hu _ => Upd.frame_mbOrder (fun k => hp (k ▸ (h s u hu).mem (by rw [k]; nofun) (by rw [k]; nofun)))) s

theorem Eff.Only.frame_msgs {ps : List Part} {e : Eff} (h : e.Only ps) (hp : Part.msgs ∉ ps) (s : State) : (Eff.on e s).msgs = s.msgs :=
  applyAll_frame (fun s => s.msgs) (fun u hu _ => Upd.frame_msgs (fun k => hp (k ▸ (h s u hu).mem (by rw [k]; nofun) (by rw [k]; nofun)))) s

theorem Eff.Only.frame_ports {ps : List Part} {e : Eff} (h : e.Only ps) (hp : Part.ports ∉ ps) (s : State) : (Eff.on e s).ports = s.ports :=
  applyAll_frame (fun s => s.ports) (fun u hu _ => Upd.frame_ports (fun k => hp (k ▸ (h s u hu).mem (by rw [k]; nofun) (by rw [k]; nofun)))) s

theorem Eff.Only.frame_pour {ps : List Part} {e : Eff} (h : e.Only ps) (hp : Part.pour ∉ ps) (s : State) : (Eff.on e s).pour = s.pour :=
  applyAll_frame (fun s => s.pour) (fun u hu _ => Upd.frame_pour (fun k => hp (k ▸ (h s u hu).mem (by rw [k]; nofun) (by rw [k]; nofun)))) s

theorem Eff.Only.frame_faults {ps : List Part} {e : Eff} (h : e.Only ps) (hp : Part.faults ∉ ps) (s : State) : (Eff.on e s).faults = s.faults :=
  applyAll_frame (fun s => s.faults) (fun u hu _ => Upd.frame_faults (fun k => hp (k ▸ (h s u hu).mem (by rw [k]; nofun) (by rw [k]; nofun)))) s

theorem Eff.Only.frame_pep {ps : List Part} {e : Eff} (h : e.Only ps) (hp : Part.pep ∉ ps) (s : State) : (Eff.on e s).pep = s.pep :=
  applyAll_frame (fun s => s.pep) (fun u hu _ => Upd.frame_pep (fun k => hp (k ▸ (h s u hu).mem (by rw [k]; nofun) (by rw [k]; nofun)))) s

theorem Eff.Only.frame_power {ps : List Part} {e : Eff} (h : e.Only ps) (hp : Part.power ∉ ps) (s : State) : (Eff.on e s).power = s.power :=
  applyAll_frame (fun s => s.power) (fun u hu _ => Upd.frame_power (fun k => hp (k ▸ (h s u hu).mem (by rw [k]; nofun) (by rw [k]; nofun)))) s

theorem Eff.Only.frame_resp {ps : List Part} {e : Eff} (h : e.Only ps) (hp : Part.resp ∉ ps) (s : State) : (Eff.on e s).resp = s.resp :=
  applyAll_frame (fun s => s.resp) (fun u hu _ => Upd.frame_resp (fun k => hp (k ▸ (h s u hu).mem (by rw [k]; nofun) (by rw [k]; nofun)))) s

theorem Eff.Only.frame_dbg {ps : List Part} {e : Eff} (h : e.Only ps) (hp : Part.dbg ∉ ps) (s : State) : (Eff.on e s).dbg = s.dbg :=
  applyAll_frame (fun s => s.dbg) (fun u hu _ => Upd.frame_dbg (fun k => hp (k ▸ (h s u hu).mem (by rw [k]; nofun) (by rw [k]; nofun)))) s

theorem Eff.Only.frame_pst {ps : List Part} {e : Eff} (h : e.Only ps) (hp : Part.pst ∉ ps) (s : State) : (Eff.on e s).pst = s.pst :=
  applyAll_frame (fun s => s.pst) (fun u hu _ => Upd.frame_pst (fun k => hp (k ▸ (h s u hu).mem (by rw [k]; nofun) (by rw [k]; nofun)))) s

theorem Eff.Only.frame_boot {ps : List Part} {e : Eff} (h : e.Only ps) (hp : Part.boot ∉ ps) (s : State) : (Eff.on e s).boot = s.boot :=
  applyAll_frame (fun s => s.boot) (fun u hu _ => Upd.frame_boot (fun k => hp (k ▸ (h s u hu).mem (by rw [k]; nofun) (by rw [k]; nofun)))) s

theorem Eff.Only.frame_saf {ps : List Part} {e : Eff} (h : e.Only ps) (hp : Part.saf ∉ ps) (s : State) : (Eff.on e s).saf = s.saf :=
  applyAll_frame (fun s => s.saf) (fun u hu _ => Upd.frame_saf (fun k => hp (k ▸ (h s u hu).mem (by rw [k]; nofun) (by rw [k]; nofun)))) s

theorem Eff.Only.frame_svc {ps : List Part} {e : Eff} (h : e.Only ps) (hp : Part.svc ∉ ps) (s : State) : (Eff.on e s).svc = s.svc :=
  applyAll_frame (fun s => s.svc) (fun u hu _ => Upd.frame_svc (fun k => hp (k ▸ (h s u hu).mem (by rw [k]; nofun) (by rw [k]; nofun)))) s

theorem Eff.Only.frame_freeCtr {ps : List Part} {e : Eff} (h : e.Only ps) (hp : Part.freeCtr ∉ ps) (s : State) : (Eff.on e s).freeCtr = s.freeCtr :=
  applyAll_frame (fun s => s.freeCtr) (fun u hu _ => Upd.frame_freeCtr (fun k => hp (k ▸ (h s u hu).mem (by rw [k]; nofun) (by rw [k]; nofun)))) s

theorem Eff.Only.fget {ps : List Part} {e : Eff} (h : e.Only ps) {f : Fld} (hf : f.inReg = true) (hp : Part.flds ∉ ps)
    (hr : Part.fld f.reg ∉ ps) (s : State) (i : Nat) : (Eff.on e s).fget f i = s.fget f i :=
  applyAll_frame (fun s => s.fget f i) (fun u hu s' => by
    rcases h s u hu with k | ⟨k, _⟩ | ⟨rs, lo, hi, rfl, k⟩
    · exact Upd.fget_frame hf (fun e => hp (e ▸ k)) (fun e => hr (e ▸ k)) i
    · exact absurd k hp
    · refine Upd.fget_fldsDrop hf rs lo hi s' i (fun e => hr ?_)
      simpa [Reg.ofNat_ix] using k _ e) s

/-- No effect touches the queue. -/
@[simp] theorem on_pending (e : Eff) (s : State) : (Eff.on e s).pending = s.pending :=
  applyAll_frame (fun s => s.pending) (fun u _ _ => Upd.frame_pending u _) s

/-- What an effect writes says what it leaves alone. -/
theorem Eff.Only.same {ps : List Part} {e : Eff} (h : e.Only ps) (s : State) : SameBut ps s (Eff.on e s) where
  pending := on_pending e s
  fld := fun _ i hf hp hr => h.fget hf hp hr s i
  slag := fun hp => h.frame_slag hp s
  seam := fun hp => h.frame_seam hp s
  align := fun hp => h.frame_align hp s
  gclk := fun hp => h.frame_gclk hp s
  dec := fun hp => h.frame_dec hp s
  ctl := fun hp => h.frame_ctl hp s
  cores := fun hp => h.frame_cores hp s
  mes := fun hp => h.frame_mes hp s
  ses := fun hp => h.frame_ses hp s
  vus := fun hp => h.frame_vus hp s
  spd := fun hp => h.frame_spd hp s
  spdPoison := fun hp => h.frame_spdPoison hp s
  dram := fun hp => h.frame_dram hp s
  dramPoison := fun hp => h.frame_dramPoison hp s
  dramWritten := fun hp => h.frame_dramWritten hp s
  caches := fun hp => h.frame_caches hp s
  refreshOnly := fun hp => h.frame_refreshOnly hp s
  refreshed := fun hp => h.frame_refreshed hp s
  flasks := fun hp => h.frame_flasks hp s
  queues := fun hp => h.frame_queues hp s
  ldls := fun hp => h.frame_ldls hp s
  msix := fun hp => h.frame_msix hp s
  hports := fun hp => h.frame_hports hp s
  hostOut := fun hp => h.frame_hostOut hp s
  rings := fun hp => h.frame_rings hp s
  ev := fun hp => h.frame_ev hp s
  slots := fun hp => h.frame_slots hp s
  mbOrder := fun hp => h.frame_mbOrder hp s
  msgs := fun hp => h.frame_msgs hp s
  ports := fun hp => h.frame_ports hp s
  pour := fun hp => h.frame_pour hp s
  faults := fun hp => h.frame_faults hp s
  pep := fun hp => h.frame_pep hp s
  power := fun hp => h.frame_power hp s
  resp := fun hp => h.frame_resp hp s
  dbg := fun hp => h.frame_dbg hp s
  pst := fun hp => h.frame_pst hp s
  boot := fun hp => h.frame_boot hp s
  saf := fun hp => h.frame_saf hp s
  svc := fun hp => h.frame_svc hp s
  freeCtr := fun hp => h.frame_freeCtr hp s

/-- A part is among those listed, or it is a register's fields and the list holds all of them. -/
def Part.covered (qs : List Part) (p : Part) : Bool :=
  qs.elem p || (qs.elem .flds && match p with | .fld _ => true | _ => false)

/-- What stays the same does so too when more parts may change. -/
theorem SameBut.mono {ps qs : List Part} {s t : State} (h : SameBut ps s t) (hs : ps.all (Part.covered qs) = true) : SameBut qs s t := by
  have g : ∀ p, (∀ r, p ≠ .fld r) → p ∉ qs → p ∉ ps := by
    intro p hr hp hq
    have k := List.all_eq_true.1 hs p hq
    cases p <;> simp_all [Part.covered]
  have gf : ∀ r, .flds ∉ qs → .fld r ∉ qs → .fld r ∉ ps := by
    intro r h1 h2 hq
    have k := List.all_eq_true.1 hs _ hq
    simp_all [Part.covered]
  exact {
    pending := h.pending
    fld := fun f i a b c => h.fld f i a (g _ nofun b) (gf _ b c)
    slag := fun hp => h.slag (g _ nofun hp)
    seam := fun hp => h.seam (g _ nofun hp)
    align := fun hp => h.align (g _ nofun hp)
    gclk := fun hp => h.gclk (g _ nofun hp)
    dec := fun hp => h.dec (g _ nofun hp)
    ctl := fun hp => h.ctl (g _ nofun hp)
    cores := fun hp => h.cores (g _ nofun hp)
    mes := fun hp => h.mes (g _ nofun hp)
    ses := fun hp => h.ses (g _ nofun hp)
    vus := fun hp => h.vus (g _ nofun hp)
    spd := fun hp => h.spd (g _ nofun hp)
    spdPoison := fun hp => h.spdPoison (g _ nofun hp)
    dram := fun hp => h.dram (g _ nofun hp)
    dramPoison := fun hp => h.dramPoison (g _ nofun hp)
    dramWritten := fun hp => h.dramWritten (g _ nofun hp)
    caches := fun hp => h.caches (g _ nofun hp)
    refreshOnly := fun hp => h.refreshOnly (g _ nofun hp)
    refreshed := fun hp => h.refreshed (g _ nofun hp)
    flasks := fun hp => h.flasks (g _ nofun hp)
    queues := fun hp => h.queues (g _ nofun hp)
    ldls := fun hp => h.ldls (g _ nofun hp)
    msix := fun hp => h.msix (g _ nofun hp)
    hports := fun hp => h.hports (g _ nofun hp)
    hostOut := fun hp => h.hostOut (g _ nofun hp)
    rings := fun hp => h.rings (g _ nofun hp)
    ev := fun hp => h.ev (g _ nofun hp)
    slots := fun hp => h.slots (g _ nofun hp)
    mbOrder := fun hp => h.mbOrder (g _ nofun hp)
    msgs := fun hp => h.msgs (g _ nofun hp)
    ports := fun hp => h.ports (g _ nofun hp)
    pour := fun hp => h.pour (g _ nofun hp)
    faults := fun hp => h.faults (g _ nofun hp)
    pep := fun hp => h.pep (g _ nofun hp)
    power := fun hp => h.power (g _ nofun hp)
    resp := fun hp => h.resp (g _ nofun hp)
    dbg := fun hp => h.dbg (g _ nofun hp)
    pst := fun hp => h.pst (g _ nofun hp)
    boot := fun hp => h.boot (g _ nofun hp)
    saf := fun hp => h.saf (g _ nofun hp)
    svc := fun hp => h.svc (g _ nofun hp)
    freeCtr := fun hp => h.freeCtr (g _ nofun hp) }

/-! Well-formed states. -/

theorem fldsWf_iff (m : NMap Nat) : fldsWf m = true ↔
    m.Pairwise (fun a b => a.1 < b.1) ∧ ∀ e ∈ m, e.2 < 2 ^ (e.1 % 128) ∧ hardReg (regOfKey e.1) = false := by
  simp [fldsWf, NMap.rising]

/-- Cutting the fields down keeps them well formed. -/
theorem fldsWf_filter (m : NMap Nat) (p : Nat × Nat → Bool) (h : fldsWf m = true) : fldsWf (m.filter p) = true := by
  rw [fldsWf_iff] at *
  exact ⟨h.1.sublist List.filter_sublist, fun e he => h.2 e (List.mem_filter.1 he).1⟩


/-- A key's remainder is its field's width. -/
theorem Fld.key_len {f : Fld} (h : f.len ≤ 64) (i : Nat) : f.key i % 128 = f.len := by unfold Fld.key; omega

/-- A key names its register. -/
theorem Fld.key_reg {f : Fld} (h : f.lo < 64 ∧ f.len ≤ 64) (i : Nat) : regOfKey (f.key i) = f.reg.ix := by
  have := Reg.ix_lt f.reg
  unfold Fld.key regOfKey; omega

theorem hardReg_ix (r : Reg) : hardReg r.ix = (r == .MOD_ID || r == .CLU_ID) := by cases r <;> decide

/-- A write of a field keeps the fields well formed. -/
theorem fldsWf_fld (f : Fld) (i v : Nat) (s : State) (h : fldsWf s.flds = true) : fldsWf ((Upd.fld f i v).apply s).flds = true := by
  by_cases hs : f.settable = true
  · have hw := hs
    rw [Fld.settable_iff] at hs
    simp only [Upd.apply, hw, if_true]
    have hr := NMap.rising_put (f.resetAt i) s.flds (f.key i) (v % 2 ^ f.len) ((NMap.rising_iff _).2 ((fldsWf_iff _).1 h).1)
    rw [fldsWf_iff] at *
    refine ⟨(NMap.rising_iff _).1 hr, fun e he => ?_⟩
    rcases NMap.mem_put _ _ _ _ e he with hm | ⟨rfl, -⟩
    · exact h.2 e hm
    · refine ⟨?_, ?_⟩
      · show v % 2 ^ f.len < 2 ^ (f.key i % 128)
        rw [Fld.key_len hs.2.2 i]; exact Nat.mod_lt _ (by positivity)
      · show hardReg (regOfKey (f.key i)) = false
        rw [Fld.key_reg hs.2 i, hardReg_ix]
        simp [hs.1.1, hs.1.2]
  · simpa [Upd.apply, hs] using h

/-- Every update keeps a well-formed state well formed: maps, memories, sets and register fields. -/
theorem Upd.wf {u : Upd} {s : State} (h : s.Wf) : (u.apply s).Wf := by
  cases u with
  | fld f i v =>
    refine { flds := fldsWf_fld f i v s h.flds, cores := ?_, mes := ?_, ses := ?_, vus := ?_, spd := ?_, spdPoison := ?_, dram := ?_, dramPoison := ?_, dramWritten := ?_, caches := ?_, refreshOnly := ?_, refreshed := ?_, flasks := ?_, queues := ?_, ldls := ?_, msix := ?_, hports := ?_, rings := ?_, slots := ?_, ports := ?_ } <;>
      simp only [Upd.apply] <;> split <;> first | exact h.cores | exact h.mes | exact h.ses | exact h.vus | exact h.spd | exact h.spdPoison | exact h.dram | exact h.dramPoison | exact h.dramWritten | exact h.caches | exact h.refreshOnly | exact h.refreshed | exact h.flasks | exact h.queues | exact h.ldls | exact h.msix | exact h.hports | exact h.rings | exact h.slots | exact h.ports
  | fldsKeep rs => exact { h with flds := fldsWf_filter _ _ h.flds }
  | fldsDrop rs lo hi => exact { h with flds := fldsWf_filter _ _ h.flds }
  | slag v => exact { h with }
  | seam v => exact { h with }
  | align v => exact { h with }
  | gclk v => exact { h with }
  | dec v => exact { h with }
  | ctl v => exact { h with }
  | cores k v => exact { h with cores := NMap.wf_put _ _ k v h.cores }
  | coresClear lo hi => exact { h with cores := NMap.wf_clear _ _ lo hi h.cores }
  | mes k v => exact { h with mes := NMap.wf_put _ _ k v h.mes }
  | mesClear lo hi => exact { h with mes := NMap.wf_clear _ _ lo hi h.mes }
  | ses k v => exact { h with ses := NMap.wf_put _ _ k v h.ses }
  | sesClear lo hi => exact { h with ses := NMap.wf_clear _ _ lo hi h.ses }
  | vus k v => exact { h with vus := NMap.wf_put _ _ k v h.vus }
  | vusClear lo hi => exact { h with vus := NMap.wf_clear _ _ lo hi h.vus }
  | spd a bs => exact { h with spd := Memory.wf_wrN bs _ a h.spd }
  | spdClear lo hi => exact { h with spd := Memory.wf_clear _ lo hi h.spd }
  | spdPoison k b => exact { h with spdPoison := NSet.wf_set _ k b h.spdPoison }
  | spdPoisonClear lo hi => exact { h with spdPoison := NSet.wf_clear _ lo hi h.spdPoison }
  | dram a bs => exact { h with dram := Memory.wf_wrN bs _ a h.dram }
  | dramClear lo hi => exact { h with dram := Memory.wf_clear _ lo hi h.dram }
  | dramPoison k b => exact { h with dramPoison := NSet.wf_set _ k b h.dramPoison }
  | dramPoisonClear lo hi => exact { h with dramPoison := NSet.wf_clear _ lo hi h.dramPoison }
  | dramWritten k b => exact { h with dramWritten := NSet.wf_set _ k b h.dramWritten }
  | dramWrittenClear lo hi => exact { h with dramWritten := NSet.wf_clear _ lo hi h.dramWritten }
  | caches k v => exact { h with caches := NMap.wf_put _ _ k v h.caches }
  | cachesClear lo hi => exact { h with caches := NMap.wf_clear _ _ lo hi h.caches }
  | refreshOnly k b => exact { h with refreshOnly := NSet.wf_set _ k b h.refreshOnly }
  | refreshOnlyClear lo hi => exact { h with refreshOnly := NSet.wf_clear _ lo hi h.refreshOnly }
  | refreshed k v => exact { h with refreshed := NMap.wf_put _ _ k v h.refreshed }
  | refreshedClear lo hi => exact { h with refreshed := NMap.wf_clear _ _ lo hi h.refreshed }
  | flasks k v => exact { h with flasks := NMap.wf_put _ _ k v h.flasks }
  | flasksClear lo hi => exact { h with flasks := NMap.wf_clear _ _ lo hi h.flasks }
  | queues k v => exact { h with queues := NMap.wf_put _ _ k v h.queues }
  | queuesClear lo hi => exact { h with queues := NMap.wf_clear _ _ lo hi h.queues }
  | ldls k v => exact { h with ldls := NMap.wf_put _ _ k v h.ldls }
  | ldlsClear lo hi => exact { h with ldls := NMap.wf_clear _ _ lo hi h.ldls }
  | msix k v => exact { h with msix := NMap.wf_put _ _ k v h.msix }
  | msixClear lo hi => exact { h with msix := NMap.wf_clear _ _ lo hi h.msix }
  | hports k v => exact { h with hports := NMap.wf_put _ _ k v h.hports }
  | hportsClear lo hi => exact { h with hports := NMap.wf_clear _ _ lo hi h.hports }
  | hostOut v => exact { h with }
  | rings k v => exact { h with rings := NMap.wf_put _ _ k v h.rings }
  | ringsClear lo hi => exact { h with rings := NMap.wf_clear _ _ lo hi h.rings }
  | ev v => exact { h with }
  | slots k v => exact { h with slots := NMap.wf_put _ _ k v h.slots }
  | slotsClear lo hi => exact { h with slots := NMap.wf_clear _ _ lo hi h.slots }
  | mbOrder v => exact { h with }
  | msgs v => exact { h with }
  | ports k v => exact { h with ports := NMap.wf_put _ _ k v h.ports }
  | portsClear lo hi => exact { h with ports := NMap.wf_clear _ _ lo hi h.ports }
  | pour v => exact { h with }
  | faults v => exact { h with }
  | pep v => exact { h with }
  | power v => exact { h with }
  | resp v => exact { h with }
  | dbg v => exact { h with }
  | pst v => exact { h with }
  | boot v => exact { h with }
  | saf v => exact { h with }
  | svc v => exact { h with }
  | freeCtr v => exact { h with }

/-- Updates made in order keep a well-formed state well formed. -/
theorem applyAll_wf : ∀ (us : List Upd) {s : State}, s.Wf → (applyAll us s).Wf
  | [], _, h => h
  | _ :: us, _, h => applyAll_wf us (Upd.wf h)

/-- Every effect keeps a well-formed state well formed. -/
theorem Eff.wf (e : Eff) {s : State} (h : s.Wf) : (Eff.on e s).Wf := applyAll_wf _ h

end Sys2Proof.Machine
end

