-- ==== Sys2Proof/Laws/Writes.lean ====
section
/-! SUPPORT. What each shared operation can write, one law per operation: whatever state it meets, it writes only the parts listed. -/
set_option linter.all false
set_option Elab.async false
namespace Sys2Proof.Machine

theorem mem_of {α : Type} {a : α} {l m : List α} (h : l ⊆ m) (ha : a ∈ l) : a ∈ m := h ha

/-- What a list of elementary updates writes lies in a list of parts. -/
def Within (ps : List Part) (us : List Upd) : Prop := ∀ u ∈ us, u.In ps

theorem within_nil (ps : List Part) : Within ps [] := fun _ h => nomatch h
theorem within_cons {ps : List Part} {u : Upd} {us : List Upd} (h : u.part ∈ ps) (h' : Within ps us) : Within ps (u :: us) := by
  intro v hv
  rcases List.mem_cons.1 hv with rfl | hv
  · exact .inl h
  · exact h' v hv
theorem within_drop {ps : List Part} {us : List Upd} (rs : List Nat) (lo hi : Nat) (h : ∀ i ∈ rs, Part.fld (Reg.ofNat i) ∈ ps) (h' : Within ps us) :
    Within ps (.fldsDrop rs lo hi :: us) := by
  intro v hv
  rcases List.mem_cons.1 hv with rfl | hv
  · exact .inr (.inr ⟨rs, lo, hi, rfl, h⟩)
  · exact h' v hv
theorem within_append {ps : List Part} {us vs : List Upd} (h : Within ps us) (h' : Within ps vs) : Within ps (us ++ vs) := by
  intro v hv
  rcases List.mem_append.1 hv with hv | hv
  · exact h v hv
  · exact h' v hv
theorem within_map {α : Type} {ps : List Part} {l : List α} {f : α → Upd} (h : ∀ a ∈ l, (f a).part ∈ ps) : Within ps (l.map f) := by
  intro v hv
  obtain ⟨a, ha, rfl⟩ := List.mem_map.1 hv
  exact .inl (h a ha)
theorem within_flatMap {α : Type} {ps : List Part} {l : List α} {f : α → List Upd} (h : ∀ a ∈ l, Within ps (f a)) :
    Within ps (l.flatMap f) := by
  intro v hv
  obtain ⟨a, ha, hv⟩ := List.mem_flatMap.1 hv
  exact h a ha v hv
theorem within_filterMap {α : Type} {ps : List Part} {l : List α} {f : α → Option Upd} (h : ∀ a ∈ l, ∀ u, f a = some u → u.In ps) :
    Within ps (l.filterMap f) := by
  intro v hv
  obtain ⟨a, ha, hv⟩ := List.mem_filterMap.1 hv
  exact h a ha v hv
/-- A write of fields of a register. -/
theorem In_fld {ps : List Part} {r : Reg} (h : .fld r ∈ ps ∨ .flds ∈ ps) {f : Fld} (hf : f ∈ r.fields) (i v : Nat) : (Upd.fld f i v).In ps := by
  have e := Reg.fields_reg r f hf
  rcases h with h | h
  · exact .inl (by rw [Upd.part, e]; exact h)
  · exact .inr (.inl ⟨h, f.reg, rfl⟩)
theorem Eng.fld_mem {pt : List Part} {u : Eng} {a b : Fld} (ha : .fld a.reg ∈ pt) (hb : .fld b.reg ∈ pt) : .fld (u.fld a b).reg ∈ pt := by
  unfold Eng.fld; split <;> assumption
theorem Eng.flag_mem {pt : List Part} {u : Eng}
    (h : ∀ f ∈ [F.ME_FLAGS_OVF, F.SE_FLAGS_OVF], .fld f.reg ∈ pt) : ∀ f ∈ u.flagFields, .fld f.reg ∈ pt := by
  have a := h F.ME_FLAGS_OVF (by simp)
  have b := h F.SE_FLAGS_OVF (by simp)
  intro f hf
  unfold Eng.flagFields at hf
  split at hf <;> fin_cases hf <;> assumption
theorem only_updates {ps : List Part} {us : List Upd} (h : Within ps us) : Eff.Only ps (upd us) := fun _ u hu => h u hu
theorem only_fun {ps : List Part} {e : State → List Upd} (h : ∀ s, Within ps (e s)) : Eff.Only ps e := fun s u hu => h s u hu
theorem only_seq_map {α : Type} {ps : List Part} {l : List α} {f : α → Eff} (h : ∀ a ∈ l, Eff.Only ps (f a)) : Eff.Only ps (seq (l.map f)) := only_each h
theorem only_mbCommand {ps : List Part} {e : List Byte → Eff} (h : ∀ b, Eff.Only ps (e b)) (k cmd : Nat) : Eff.Only ps (mbCommand k cmd e) :=
  only_rd fun _ => only_when fun _ => h _

theorem only_cacheLineAccess {pt : List Part} (hpt : [.caches, .fld .CCH_HITS, .fld .CCH_MISSES] ⊆ pt) (line : Nat) (write : Bool) (rdr : Reader) :
    Eff.Only pt (cacheLineAccess line write rdr) := by
  unfold cacheLineAccess
  repeat first
    | with_reducible exact only_nop _
    | with_reducible exact only_seq_nil _
    | with_reducible apply only_seq_cons
    | (with_reducible apply only_rd; intro)
    | (with_reducible apply only_fadd; exact mem_of hpt (by decide))
    | with_reducible apply only_updates
    | with_reducible exact within_nil _
    | (with_reducible apply within_cons; · exact mem_of hpt (by dsimp only [Upd.part]; decide))
    | with_reducible apply within_append
    | (with_reducible apply within_map; intros; exact mem_of hpt (by dsimp only [Upd.part]; decide))
    | (with_reducible apply within_flatMap; intro _ _)
    | split
    | dsimp only

theorem only_cacheAccess {pt : List Part} (hpt : [.caches, .fld .CCH_HITS, .fld .CCH_MISSES] ⊆ pt) (off : Nat) (n : Nat) (write : Bool) (rdr :
    Reader) : Eff.Only pt (cacheAccess off n write rdr) := by
  unfold cacheAccess
  repeat first
    | (with_reducible apply only_each; intro _ _)
    | (with_reducible apply only_cacheLineAccess; exact List.Subset.trans (by decide) hpt)
    | with_reducible intro _

theorem only_dramWr {pt : List Part} (hpt : [.dram, .dramPoison, .dramWritten] ⊆ pt) (off : Nat) (bs : List Byte) (poison : Bool) : Eff.Only pt
    (dramWr off bs poison) := by
  unfold dramWr
  repeat first
    | with_reducible exact only_seq_nil _
    | with_reducible apply only_seq_cons
    | (with_reducible apply only_rd; intro)
    | with_reducible apply only_updates
    | with_reducible exact within_nil _
    | (with_reducible apply within_cons; · exact mem_of hpt (by dsimp only [Upd.part]; decide))
    | with_reducible apply within_append
    | (with_reducible apply within_map; intros; exact mem_of hpt (by dsimp only [Upd.part]; decide))
    | (with_reducible apply within_flatMap; intro _ _)
    | dsimp only

theorem only_dramWrite {pt : List Part} (hpt : [.caches, .dram, .dramPoison, .dramWritten, .fld .CCH_HITS, .fld .CCH_MISSES] ⊆ pt) (off : Nat) (bs :
    List Byte) (poison : Bool) : Eff.Only pt (dramWrite off bs poison) := by
  unfold dramWrite
  repeat first
    | with_reducible exact only_seq_nil _
    | with_reducible apply only_seq_cons
    | (with_reducible apply only_cacheAccess; exact List.Subset.trans (by decide) hpt)
    | (with_reducible apply only_dramWr; exact List.Subset.trans (by decide) hpt)

theorem only_gatherCount {pt : List Part} (hpt : [.fld .SPD_ELASTIC] ⊆ pt) (p : Nat) : Eff.Only pt (gatherCount p) := by
  unfold gatherCount
  repeat first
    | (with_reducible apply only_rd; intro)
    | (with_reducible apply only_fset; exact mem_of hpt (by decide))

theorem only_spdWr {pt : List Part} (hpt : [.cores, .spd, .spdPoison] ⊆ pt) (p : Nat) (off : Nat) (bs : List Byte) (poison : Bool) : Eff.Only pt
    (spdWr p off bs poison) := by
  unfold spdWr
  repeat first
    | with_reducible exact within_nil _
    | (with_reducible apply within_cons; · exact mem_of hpt (by dsimp only [Upd.part]; decide))
    | with_reducible apply within_append
    | (with_reducible apply within_map; intros; exact mem_of hpt (by dsimp only [Upd.part]; decide))
    | (with_reducible apply within_flatMap; intro _ _)
    | split
    | dsimp only
    | (apply only_fun; intro)

theorem only_gatherStore {pt : List Part} (hpt : [.cores, .spd, .spdPoison] ⊆ pt) (p : Nat) (g : GatherEnt) : Eff.Only pt (gatherStore p g) := by
  unfold gatherStore
  repeat first
    | (with_reducible apply only_rd; intro)
    | (with_reducible apply only_spdWr; exact List.Subset.trans (by decide) hpt)
    | dsimp only

theorem only_gatherFlush {pt : List Part} (hpt : [.cores, .fld .SPD_ELASTIC, .spd, .spdPoison] ⊆ pt) (p : Nat) (line : Nat) : Eff.Only pt
    (gatherFlush p line) := by
  unfold gatherFlush
  repeat first
    | with_reducible exact only_nop _
    | with_reducible exact only_seq_nil _
    | with_reducible apply only_seq_cons
    | (with_reducible apply only_rd; intro)
    | (with_reducible apply only_onCore; exact mem_of hpt (by decide))
    | (with_reducible apply only_gatherCount; exact List.Subset.trans (by decide) hpt)
    | (with_reducible apply only_gatherStore; exact List.Subset.trans (by decide) hpt)
    | split
    | dsimp only

theorem only_gatherWrite {pt : List Part} (hpt : [.cores, .fld .SPD_ELASTIC, .spd, .spdPoison] ⊆ pt) (p : Nat) (off : Nat) (bs : List Byte) (poison
    : Bool) : Eff.Only pt (gatherWrite p off bs poison) := by
  unfold gatherWrite
  repeat first
    | with_reducible exact only_nop _
    | with_reducible exact only_seq_nil _
    | with_reducible apply only_seq_cons
    | (with_reducible apply only_rd; intro)
    | (with_reducible apply only_when; intro)
    | (with_reducible apply only_onCore; exact mem_of hpt (by decide))
    | (with_reducible apply only_gatherCount; exact List.Subset.trans (by decide) hpt)
    | (with_reducible apply only_gatherFlush; exact List.Subset.trans (by decide) hpt)
    | split
    | dsimp only

theorem only_gatherDrop {pt : List Part} (hpt : [.cores, .fld .SPD_ELASTIC] ⊆ pt) (p : Nat) (line : Nat) : Eff.Only pt (gatherDrop p line) := by
  unfold gatherDrop
  repeat first
    | with_reducible exact only_seq_nil _
    | with_reducible apply only_seq_cons
    | (with_reducible apply only_onCore; exact mem_of hpt (by decide))
    | (with_reducible apply only_gatherCount; exact List.Subset.trans (by decide) hpt)

theorem only_lineWrite {pt : List Part} (hpt : [.cores, .fld .SPD_ELASTIC, .spd, .spdPoison] ⊆ pt) (p : Nat) (off : Nat) (bs : List Byte) (poison :
    Bool) : Eff.Only pt (lineWrite p off bs poison) := by
  unfold lineWrite
  repeat first
    | with_reducible exact only_seq_nil _
    | with_reducible apply only_seq_cons
    | (with_reducible apply only_each; intro _ _)
    | (with_reducible apply only_gatherDrop; exact List.Subset.trans (by decide) hpt)
    | (with_reducible apply only_spdWr; exact List.Subset.trans (by decide) hpt)
    | with_reducible intro _

theorem only_faStore {pt : List Part} (hpt : [.caches, .cores, .dram, .dramPoison, .dramWritten, .fld .CCH_HITS, .fld .CCH_MISSES,
    .fld .SPD_ELASTIC, .spd, .spdPoison] ⊆ pt) (fa : Nat) (bs : List Byte) (poison : Bool) : Eff.Only pt (faStore fa bs poison) := by
  unfold faStore
  repeat first
    | with_reducible exact only_nop _
    | (with_reducible apply only_rd; intro)
    | (with_reducible apply only_dramWrite; exact List.Subset.trans (by decide) hpt)
    | (with_reducible apply only_gatherWrite; exact List.Subset.trans (by decide) hpt)
    | (with_reducible apply only_lineWrite; exact List.Subset.trans (by decide) hpt)
    | split
    | dsimp only

theorem only_addOn {pt : List Part} (hpt : [.caches, .cores, .dram, .dramPoison, .dramWritten, .fld .CCH_HITS, .fld .CCH_MISSES, .fld .SPD_ELASTIC,
    .spd, .spdPoison] ⊆ pt) (fa : Nat) (fmt : Nat) (data : List Byte) (poison : Bool) : Eff.Only pt (addOn fa fmt data poison) := by
  unfold addOn
  repeat first
    | with_reducible exact only_nop _
    | with_reducible exact only_seq_nil _
    | with_reducible apply only_seq_cons
    | (with_reducible apply only_rd; intro)
    | (with_reducible apply only_each; intro _ _)
    | (with_reducible apply only_faStore; exact List.Subset.trans (by decide) hpt)
    | (with_reducible apply only_gatherFlush; exact List.Subset.trans (by decide) hpt)
    | with_reducible intro _
    | split
    | dsimp only

theorem only_faFault {pt : List Part} (hpt : [.ev, .fld .MOD_FA_FAULT_ADDR, .fld .MOD_FA_FAULT_INFO] ⊆ pt) (fa : Nat) (reason : Nat) (write : Bool)
    : Eff.Only pt (faFault fa reason write) := by
  unfold faFault
  repeat first
    | with_reducible exact only_seq_nil _
    | with_reducible apply only_seq_cons
    | (with_reducible apply only_rd; intro)
    | (with_reducible apply only_when; intro)
    | (with_reducible apply only_fset; exact mem_of hpt (by decide))
    | (with_reducible apply only_fput; exact mem_of hpt (by decide))
    | (with_reducible apply only_fsat; exact mem_of hpt (by decide))
    | (with_reducible apply only_raise; exact mem_of hpt (by decide))

theorem only_arriveBy {pt : List Part} (hpt : [.cores] ⊆ pt) (p : Nat) (k : Nat) (n : Nat) : Eff.Only pt (arriveBy p k n) := by
  unfold arriveBy
  repeat first
    | (with_reducible apply only_onCore; exact mem_of hpt (by decide))

theorem only_gatherFlushAll {pt : List Part} (hpt : [.cores, .fld .SPD_ELASTIC, .spd, .spdPoison] ⊆ pt) (p : Nat) : Eff.Only pt (gatherFlushAll p)
    := by
  unfold gatherFlushAll
  repeat first
    | (with_reducible apply only_rd; intro)
    | (with_reducible apply only_each; intro _ _)
    | (with_reducible apply only_gatherFlush; exact List.Subset.trans (by decide) hpt)
    | with_reducible intro _

theorem only_arriveAfter {pt : List Part} (hpt : [.cores, .fld .SPD_ELASTIC, .spd, .spdPoison] ⊆ pt) (p : Nat) (k : Nat) : Eff.Only pt (arriveAfter
    p k) := by
  unfold arriveAfter
  repeat first
    | with_reducible exact only_seq_nil _
    | with_reducible apply only_seq_cons
    | (with_reducible apply only_arriveBy; exact List.Subset.trans (by decide) hpt)
    | (with_reducible apply only_gatherFlushAll; exact List.Subset.trans (by decide) hpt)

theorem only_dramRead {pt : List Part} (hpt : [.caches, .fld .CCH_HITS, .fld .CCH_MISSES] ⊆ pt) (off : Nat) (n : Nat) (rdr : Reader) : Eff.Only pt
    (dramRead off n rdr) := by
  unfold dramRead
  repeat first
    | (with_reducible apply only_cacheAccess; exact List.Subset.trans (by decide) hpt)

theorem only_queueOverrun {pt : List Part} (hpt : [.ev, .fld .CORE_QSTAT] ⊆ pt) (p : Nat) (q : Nat) : Eff.Only pt (queueOverrun p q) := by
  unfold queueOverrun
  repeat first
    | with_reducible exact only_seq_nil _
    | with_reducible apply only_seq_cons
    | (with_reducible apply only_rd; intro)
    | (with_reducible apply only_fsat; exact mem_of hpt (by decide))
    | (with_reducible apply only_raise; exact mem_of hpt (by decide))

theorem only_ringPush {pt : List Part} (hpt : [.cores, .queues, .spd, .spdPoison] ⊆ pt) (p : Nat) (q : Nat) (e : List Byte) (poison : Bool) :
    Eff.Only pt (ringPush p q e poison) := by
  unfold ringPush
  repeat first
    | with_reducible exact only_seq_nil _
    | with_reducible apply only_seq_cons
    | (with_reducible apply only_rd; intro)
    | (with_reducible apply only_onQueue; exact mem_of hpt (by decide))
    | (with_reducible apply only_spdWr; exact List.Subset.trans (by decide) hpt)
    | dsimp only

theorem only_cellsOut {pt : List Part} (hpt : [.ports] ⊆ pt) (port : Nat) (rsp : Bool) (poison : Bool) (dest : Nat) (src : Nat) (b : List Byte) :
    Eff.Only pt (cellsOut port rsp poison dest src b) := by
  unfold cellsOut
  repeat first
    | (with_reducible apply only_onPort; exact mem_of hpt (by decide))

theorem only_sendMod {pt : List Part} (hpt : [.msgs, .ports] ⊆ pt) (m : Nat) (k : MsgKind) (rsp : Bool) (poison : Bool) (fields : List Nat) (bytes :
    List Byte) : Eff.Only pt (sendMod m k rsp poison fields bytes) := by
  unfold sendMod
  repeat first
    | with_reducible exact only_nop _
    | (with_reducible apply only_rd; intro)
    | (with_reducible apply only_send; exact mem_of hpt (by decide))
    | (with_reducible apply only_cellsOut; exact List.Subset.trans (by decide) hpt)
    | split
    | dsimp only

theorem only_writeFault {pt : List Part} (hpt : [.msgs, .ports] ⊆ pt) (m : Nat) (fidx : Nat) (tag : Nat) (status : Nat) (fa : Nat) : Eff.Only pt
    (writeFault m fidx tag status fa) := by
  unfold writeFault
  repeat first
    | with_reducible exact only_nop _
    | with_reducible exact only_seq_nil _
    | with_reducible apply only_seq_cons
    | (with_reducible apply only_rd; intro)
    | (with_reducible apply only_onPort; exact mem_of hpt (by decide))
    | (with_reducible apply only_sendMod; exact List.Subset.trans (by decide) hpt)
    | split
    | dsimp only

theorem only_entryArrive {pt : List Part} (hpt : [.cores, .ev, .fld .CORE_QSTAT, .msgs, .ports, .queues, .spd, .spdPoison] ⊆ pt) (q : Nat) (peer :
    Nat) (tag : Nat) (entry : List Byte) (poison : Bool) : Eff.Only pt (entryArrive q peer tag entry poison) := by
  unfold entryArrive
  repeat first
    | with_reducible exact only_nop _
    | with_reducible exact only_seq_nil _
    | with_reducible apply only_seq_cons
    | (with_reducible apply only_rd; intro)
    | (with_reducible apply only_when; intro)
    | with_reducible apply only_either
    | (with_reducible apply only_queueOverrun; exact List.Subset.trans (by decide) hpt)
    | (with_reducible apply only_ringPush; exact List.Subset.trans (by decide) hpt)
    | (with_reducible apply only_writeFault; exact List.Subset.trans (by decide) hpt)
    | split
    | dsimp only

theorem only_queueBaseWrite {pt : List Part} (hpt : [.fld .QUEUE_BASE, .fld .QUEUE_STAT] ⊆ pt) (q : Nat) (w : Nat) (cover : Nat) : Eff.Only pt
    (queueBaseWrite q w cover) := by
  unfold queueBaseWrite
  repeat first
    | (with_reducible apply only_rd; intro)
    | (with_reducible apply only_when; intro)
    | with_reducible apply only_either
    | (with_reducible apply only_fset; exact mem_of hpt (by decide))
    | dsimp only

theorem only_queueDisabling {pt : List Part} (hpt : [.fld .MOD_HOST_ERR_p, .fld .QUEUE_STAT, .queues] ⊆ pt) (q : Nat) (countPort : Bool) : Eff.Only
    pt (queueDisabling q countPort) := by
  unfold queueDisabling
  repeat first
    | with_reducible exact only_seq_nil _
    | with_reducible apply only_seq_cons
    | (with_reducible apply only_rd; intro)
    | (with_reducible apply only_when; intro)
    | (with_reducible apply only_fset; exact mem_of hpt (by decide))
    | (with_reducible apply only_fsat; exact mem_of hpt (by decide))
    | (with_reducible apply only_onQueue; exact mem_of hpt (by decide))
    | dsimp only

theorem only_peakReload {pt : List Part} (hpt : [.fld .QUEUE_LEVEL] ⊆ pt) (q : Nat) : Eff.Only pt (peakReload q) := by
  unfold peakReload
  repeat first
    | (with_reducible apply only_rd; intro)
    | (with_reducible apply only_fset; exact mem_of hpt (by decide))

theorem only_watermark {pt : List Part} (hpt : [.ev, .fld .QUEUE_WM] ⊆ pt) (q : Nat) : Eff.Only pt (watermark q) := by
  unfold watermark
  repeat first
    | with_reducible exact only_seq_nil _
    | with_reducible apply only_seq_cons
    | (with_reducible apply only_rd; intro)
    | (with_reducible apply only_when; intro)
    | (with_reducible apply only_fset; exact mem_of hpt (by decide))
    | (with_reducible apply only_fadd; exact mem_of hpt (by decide))
    | (with_reducible apply only_raise; exact mem_of hpt (by decide))
    | dsimp only

theorem only_queueSync {pt : List Part} (hpt : [.ev, .fld .QUEUE_LEVEL, .fld .QUEUE_STAT, .fld .QUEUE_WM] ⊆ pt) (q : Nat) : Eff.Only pt (queueSync
    q) := by
  unfold queueSync
  repeat first
    | with_reducible exact only_seq_nil _
    | with_reducible apply only_seq_cons
    | (with_reducible apply only_rd; intro)
    | (with_reducible apply only_fset; exact mem_of hpt (by decide))
    | (with_reducible apply only_fmax; exact mem_of hpt (by decide))
    | (with_reducible apply only_watermark; exact List.Subset.trans (by decide) hpt)
    | split
    | dsimp only

theorem only_queueEnable {pt : List Part} (hpt : [.ev, .fld .QUEUE_LEVEL, .fld .QUEUE_STAT, .fld .QUEUE_WM, .queues] ⊆ pt) (q : Nat) : Eff.Only pt
    (queueEnable q) := by
  unfold queueEnable
  repeat first
    | with_reducible exact only_seq_nil _
    | with_reducible apply only_seq_cons
    | (with_reducible apply only_fset; exact mem_of hpt (by decide))
    | (with_reducible apply only_onQueue; exact mem_of hpt (by decide))
    | (with_reducible apply only_peakReload; exact List.Subset.trans (by decide) hpt)
    | (with_reducible apply only_queueSync; exact List.Subset.trans (by decide) hpt)

theorem only_queueCtlWrite {pt : List Part} (hpt : [.ev, .fld .MOD_HOST_ERR_p, .fld .QUEUE_CTL, .fld .QUEUE_LEVEL, .fld .QUEUE_STAT, .fld .QUEUE_WM,
    .queues] ⊆ pt) (q : Nat) (w : Nat) (cover : Nat) : Eff.Only pt (queueCtlWrite q w cover) := by
  unfold queueCtlWrite
  repeat first
    | with_reducible exact only_seq_nil _
    | with_reducible apply only_seq_cons
    | (with_reducible apply only_rd; intro)
    | (with_reducible apply only_when; intro)
    | with_reducible apply only_either
    | (with_reducible apply only_fset; exact mem_of hpt (by decide))
    | (with_reducible apply only_queueDisabling; exact List.Subset.trans (by decide) hpt)
    | (with_reducible apply only_queueEnable; exact List.Subset.trans (by decide) hpt)
    | split
    | dsimp only

theorem only_doorbellBad {pt : List Part} (hpt : [.ev, .fld .QUEUE_STAT, .queues] ⊆ pt) (q : Nat) : Eff.Only pt (doorbellBad q) := by
  unfold doorbellBad
  repeat first
    | with_reducible exact only_seq_nil _
    | with_reducible apply only_seq_cons
    | (with_reducible apply only_rd; intro)
    | (with_reducible apply only_when; intro)
    | (with_reducible apply only_fset; exact mem_of hpt (by decide))
    | (with_reducible apply only_raise; exact mem_of hpt (by decide))
    | (with_reducible apply only_onQueue; exact mem_of hpt (by decide))
    | split
    | dsimp only

theorem only_doorbellPost {pt : List Part} (hpt : [.ev, .fld .QUEUE_LEVEL, .fld .QUEUE_STAT, .fld .QUEUE_WM, .queues] ⊆ pt) (q : Nat) (count : Nat)
    : Eff.Only pt (doorbellPost q count) := by
  unfold doorbellPost
  repeat first
    | with_reducible exact only_seq_nil _
    | with_reducible apply only_seq_cons
    | (with_reducible apply only_rd; intro)
    | (with_reducible apply only_when; intro)
    | with_reducible apply only_either
    | (with_reducible apply only_onQueue; exact mem_of hpt (by decide))
    | (with_reducible apply only_doorbellBad; exact List.Subset.trans (by decide) hpt)
    | (with_reducible apply only_queueSync; exact List.Subset.trans (by decide) hpt)
    | dsimp only

theorem only_doorbellSubmit {pt : List Part} (hpt : [.ev, .fld .QUEUE_LEVEL, .fld .QUEUE_STAT, .fld .QUEUE_WM, .queues] ⊆ pt) (q : Nat) (count :
    Nat) : Eff.Only pt (doorbellSubmit q count) := by
  unfold doorbellSubmit
  repeat first
    | with_reducible exact only_seq_nil _
    | with_reducible apply only_seq_cons
    | (with_reducible apply only_rd; intro)
    | (with_reducible apply only_when; intro)
    | with_reducible apply only_either
    | (with_reducible apply only_onQueue; exact mem_of hpt (by decide))
    | (with_reducible apply only_doorbellBad; exact List.Subset.trans (by decide) hpt)
    | (with_reducible apply only_queueSync; exact List.Subset.trans (by decide) hpt)
    | dsimp only

theorem only_queueDbWrite {pt : List Part} (hpt : [.ev, .fld .QUEUE_LEVEL, .fld .QUEUE_STAT, .fld .QUEUE_WM, .queues] ⊆ pt) (q : Nat) (w : Nat)
    (cover : Nat) : Eff.Only pt (queueDbWrite q w cover) := by
  unfold queueDbWrite
  repeat first
    | (with_reducible apply only_rd; intro)
    | (with_reducible apply only_when; intro)
    | with_reducible apply only_either
    | (with_reducible apply only_doorbellPost; exact List.Subset.trans (by decide) hpt)
    | (with_reducible apply only_doorbellSubmit; exact List.Subset.trans (by decide) hpt)

theorem only_queueStatWrite {pt : List Part} (hpt : [.fld .QUEUE_STAT] ⊆ pt) (q w cover : Nat) : Eff.Only pt (queueStatWrite q w cover) := by
  refine only_rd fun s => only_when fun _ => only_each fun f hf => only_when fun _ => only_fset (mem_of hpt ?_) _ _
  fin_cases hf <;> decide

theorem only_queueWmWrite {pt : List Part} (hpt : [.ev, .fld .QUEUE_LEVEL, .fld .QUEUE_WM] ⊆ pt) (q : Nat) (w : Nat) (cover : Nat) (sameCycleFire :
    Bool) : Eff.Only pt (queueWmWrite q w cover sameCycleFire) := by
  unfold queueWmWrite
  repeat first
    | with_reducible exact only_seq_nil _
    | with_reducible apply only_seq_cons
    | (with_reducible apply only_rd; intro)
    | (with_reducible apply only_when; intro)
    | (with_reducible apply only_fset; exact mem_of hpt (by decide))
    | (with_reducible apply only_peakReload; exact List.Subset.trans (by decide) hpt)
    | (with_reducible apply only_watermark; exact List.Subset.trans (by decide) hpt)
    | dsimp only

theorem only_queueWordWrite {pt : List Part} (hpt : [.ev, .fld .MOD_HOST_ERR_p, .fld .QUEUE_BASE, .fld .QUEUE_CTL, .fld .QUEUE_LEVEL,
    .fld .QUEUE_STAT, .fld .QUEUE_WM, .queues] ⊆ pt) (q : Nat) (word : Nat) (w : Nat) (cover : Nat) (sameCycleFire : Bool) : Eff.Only pt
    (queueWordWrite q word w cover sameCycleFire) := by
  unfold queueWordWrite
  repeat first
    | with_reducible exact only_nop _
    | (with_reducible apply only_queueBaseWrite; exact List.Subset.trans (by decide) hpt)
    | (with_reducible apply only_queueCtlWrite; exact List.Subset.trans (by decide) hpt)
    | (with_reducible apply only_queueDbWrite; exact List.Subset.trans (by decide) hpt)
    | (with_reducible apply only_queueStatWrite; exact List.Subset.trans (by decide) hpt)
    | (with_reducible apply only_queueWmWrite; exact List.Subset.trans (by decide) hpt)
    | split
    | dsimp only

theorem only_regReadClears {ps : List Part} {r : Reg} (h : .fld r ∈ ps ∨ .flds ∈ ps) (i lo len : Nat) : Eff.Only ps (regReadClears r i lo len) := by
  intro s u hu
  obtain ⟨f, hf, rfl⟩ := List.mem_map.1 hu
  exact In_fld h (List.mem_filter.1 hf).1 _ _

theorem only_regWrite {ps : List Part} {r : Reg} (h : .fld r ∈ ps ∨ .flds ∈ ps) (i mask v : Nat) : Eff.Only ps (regWrite r i mask v) := by
  refine only_rd fun s => only_updates (within_filterMap fun f hf u hu => ?_)
  dsimp only at hu
  repeat' split at hu
  all_goals first
    | cases hu; exact In_fld h hf _ _
    | cases hu

theorem only_serveOk {pt : List Part} (hpt : [.caches, .cores, .dram, .dramPoison, .dramWritten, .ev, .fld .CCH_HITS, .fld .CCH_MISSES,
    .fld .CORE_QSTAT, .fld .MOD_HOST_ERR_p, .fld .PWR_TELEM_IN_p, .fld .QUEUE_BASE, .fld .QUEUE_CTL, .fld .QUEUE_LEVEL, .fld .QUEUE_STAT,
    .fld .QUEUE_WM, .fld .SPD_ELASTIC, .flds, .msgs, .ports, .queues, .spd, .spdPoison] ⊆ pt) (fa : Nat) (op : AccessOp) (counter : Option Nat)
    (poison : Bool) (peer : Nat) (tag : Nat) (k : List Byte → Bool → Nat → Eff) (hk : ∀ x0 x1 x2, Eff.Only pt (k x0 x1 x2)) : Eff.Only pt (serveOk
    fa op counter poison peer tag k) := by
  unfold serveOk
  repeat first
    | with_reducible exact hk ..
    | with_reducible exact only_nop _
    | with_reducible exact only_seq_nil _
    | with_reducible apply only_seq_cons
    | (with_reducible apply only_rd; intro)
    | (with_reducible apply only_when; intro)
    | (with_reducible apply only_addOn; exact List.Subset.trans (by decide) hpt)
    | (with_reducible apply only_arriveAfter; exact List.Subset.trans (by decide) hpt)
    | (with_reducible apply only_dramRead; exact List.Subset.trans (by decide) hpt)
    | (with_reducible apply only_entryArrive; exact List.Subset.trans (by decide) hpt)
    | (with_reducible apply only_faStore; exact List.Subset.trans (by decide) hpt)
    | (with_reducible apply only_queueWordWrite; exact List.Subset.trans (by decide) hpt)
    | (with_reducible apply only_regReadClears; first | exact .inl (mem_of hpt (by decide)) | exact .inr (mem_of hpt (by decide)))
    | (with_reducible apply only_regWrite; first | exact .inl (mem_of hpt (by decide)) | exact .inr (mem_of hpt (by decide)))
    | with_reducible apply only_updates
    | with_reducible exact within_nil _
    | (with_reducible apply within_cons; · exact mem_of hpt (by dsimp only [Upd.part]; decide))
    | with_reducible apply within_append
    | (with_reducible apply within_map; intros; exact mem_of hpt (by dsimp only [Upd.part]; decide))
    | (with_reducible apply within_flatMap; intro _ _)
    | split
    | dsimp only

theorem only_serve {pt : List Part} (hpt : [.caches, .cores, .dram, .dramPoison, .dramWritten, .ev, .fld .CCH_HITS, .fld .CCH_MISSES,
    .fld .CORE_QSTAT, .fld .MOD_FA_FAULT_ADDR, .fld .MOD_FA_FAULT_INFO, .fld .MOD_HOST_ERR_p, .fld .PWR_TELEM_IN_p, .fld .QUEUE_BASE,
    .fld .QUEUE_CTL, .fld .QUEUE_LEVEL, .fld .QUEUE_STAT, .fld .QUEUE_WM, .fld .SPD_ELASTIC, .flds, .msgs, .ports, .queues, .spd, .spdPoison] ⊆ pt)
    (i : Initiator) (fa : Nat) (op : AccessOp) (counter : Option Nat) (poison : Bool) (peer : Nat) (tag : Nat) (k : List Byte → Bool → Nat → Eff)
    (hk : ∀ x0 x1 x2, Eff.Only pt (k x0 x1 x2)) : Eff.Only pt (serve i fa op counter poison peer tag k) := by
  unfold serve
  repeat first
    | with_reducible exact hk ..
    | with_reducible exact only_seq_nil _
    | with_reducible apply only_seq_cons
    | (with_reducible apply only_rd; intro)
    | (with_reducible apply only_when; intro)
    | (with_reducible apply only_faFault; exact List.Subset.trans (by decide) hpt)
    | (with_reducible apply only_serveOk; · exact List.Subset.trans (by decide) hpt)
    | with_reducible intro _
    | split
    | dsimp only

theorem only_slagRecord {pt : List Part} (hpt : [.slag] ⊆ pt) (kind : Nat) (state : Nat) (reason : Nat) (loc : Nat) (spare : Nat) : Eff.Only pt
    (slagRecord kind state reason loc spare) := by
  unfold slagRecord
  repeat first
    | (with_reducible apply only_rd; intro)
    | with_reducible apply only_updates
    | with_reducible exact within_nil _
    | (with_reducible apply within_cons; · exact mem_of hpt (by dsimp only [Upd.part]; decide))
    | with_reducible apply within_append
    | (with_reducible apply within_map; intros; exact mem_of hpt (by dsimp only [Upd.part]; decide))
    | (with_reducible apply within_flatMap; intro _ _)
    | dsimp only

theorem only_agentFail {pt : List Part} (hpt : [.ev, .fld .MOD_BOOT_ERR, .slag] ⊆ pt) (p : Nat) : Eff.Only pt (agentFail p) := by
  unfold agentFail
  repeat first
    | with_reducible exact only_seq_nil _
    | with_reducible apply only_seq_cons
    | (with_reducible apply only_rd; intro)
    | (with_reducible apply only_when; intro)
    | (with_reducible apply only_fset; exact mem_of hpt (by decide))
    | (with_reducible apply only_raise; exact mem_of hpt (by decide))
    | (with_reducible apply only_slagRecord; exact List.Subset.trans (by decide) hpt)

theorem only_gridStatus {pt : List Part} (hpt : [.fld .CLU_CORES, .fld .CORE_STAT] ⊆ pt) : Eff.Only pt (gridStatus ) := by
  unfold gridStatus
  repeat first
    | with_reducible exact within_nil _
    | (with_reducible apply within_cons; · exact mem_of hpt (by dsimp only [Upd.part]; decide))
    | with_reducible apply within_append
    | (with_reducible apply within_map; intros; exact mem_of hpt (by dsimp only [Upd.part]; decide))
    | (with_reducible apply within_flatMap; intro _ _)
    | (apply only_fun; intro)

theorem only_applyGrid {pt : List Part} (hpt : [.fld .CLU_CORES, .fld .CORE_STAT, .fld .MOD_GRID_STAT, .fld .MOD_ROW_MAP_r, .slag] ⊆ pt) : Eff.Only
    pt (applyGrid ) := by
  unfold applyGrid
  repeat first
    | with_reducible exact only_seq_nil _
    | with_reducible apply only_seq_cons
    | (with_reducible apply only_rd; intro)
    | (with_reducible apply only_when; intro)
    | (with_reducible apply only_fset; exact mem_of hpt (by decide))
    | (with_reducible apply only_fadd; exact mem_of hpt (by decide))
    | (with_reducible apply only_gridStatus; exact List.Subset.trans (by decide) hpt)
    | with_reducible apply only_updates
    | with_reducible exact within_nil _
    | (with_reducible apply within_cons; · exact mem_of hpt (by dsimp only [Upd.part]; decide))
    | with_reducible apply within_append
    | (with_reducible apply within_map; intros; exact mem_of hpt (by dsimp only [Upd.part]; decide))
    | (with_reducible apply within_flatMap; intro _ _)
    | dsimp only

theorem only_rampCount {pt : List Part} (hpt : [.fld .PST_RAMP] ⊆ pt) : Eff.Only pt (rampCount ) := by
  unfold rampCount
  repeat first
    | with_reducible exact only_seq_nil _
    | with_reducible apply only_seq_cons
    | (with_reducible apply only_rd; intro)
    | (with_reducible apply only_fset; exact mem_of hpt (by decide))

theorem only_domainsOn {pt : List Part} (hpt : [.fld .PST_CORE_PWR_r, .fld .PST_RAMP, .pst] ⊆ pt) : Eff.Only pt (domainsOn ) := by
  unfold domainsOn
  repeat first
    | with_reducible exact only_seq_nil _
    | with_reducible apply only_seq_cons
    | (with_reducible apply only_rd; intro)
    | (with_reducible apply only_rampCount; exact List.Subset.trans (by decide) hpt)
    | with_reducible apply only_updates
    | with_reducible exact within_nil _
    | (with_reducible apply within_cons; · exact mem_of hpt (by dsimp only [Upd.part]; decide))
    | with_reducible apply within_append
    | (with_reducible apply within_map; intros; exact mem_of hpt (by dsimp only [Upd.part]; decide))
    | (with_reducible apply within_flatMap; intro _ _)
    | split

theorem only_bootGrid {pt : List Part} (hpt : [.ev, .fld .CLU_CORES, .fld .CORE_STAT, .fld .MOD_BOOT_ERR, .fld .MOD_GRID_STAT, .fld .MOD_ROW_MAP_r,
    .fld .PST_CORE_PWR_r, .fld .PST_RAMP, .pst, .slag] ⊆ pt) (env : BootEnv) : Eff.Only pt (bootGrid env) := by
  unfold bootGrid
  repeat first
    | with_reducible exact only_seq_nil _
    | with_reducible apply only_seq_cons
    | (with_reducible apply only_each; intro _ _)
    | (with_reducible apply only_agentFail; exact List.Subset.trans (by decide) hpt)
    | (with_reducible apply only_applyGrid; exact List.Subset.trans (by decide) hpt)
    | (with_reducible apply only_domainsOn; exact List.Subset.trans (by decide) hpt)
    | with_reducible intro _

theorem only_mbBusy {pt : List Part} (hpt : [.fld .MOD_MB_SUMMARY] ⊆ pt) (k : Nat) (b : Bool) : Eff.Only pt (mbBusy k b) := by
  unfold mbBusy
  repeat first
    | (with_reducible apply only_fput; exact mem_of hpt (by decide))
    | (with_reducible apply only_fbit; exact mem_of hpt (by decide))
    | split

theorem only_hostWrite {pt : List Part} (hpt : [.hostOut] ⊆ pt) (p : Nat) (addr : Nat) (bs : List Byte) : Eff.Only pt (hostWrite p addr bs) := by
  unfold hostWrite
  repeat first
    | with_reducible apply only_updates
    | with_reducible exact within_nil _
    | (with_reducible apply within_cons; · exact mem_of hpt (by dsimp only [Upd.part]; decide))
    | with_reducible apply within_append
    | (with_reducible apply within_map; intros; exact mem_of hpt (by dsimp only [Upd.part]; decide))
    | (with_reducible apply within_flatMap; intro _ _)

theorem only_msixSend {pt : List Part} (hpt : [.hostOut, .hports] ⊆ pt) (p : Nat) (v : Nat) : Eff.Only pt (msixSend p v) := by
  unfold msixSend
  repeat first
    | (with_reducible apply only_rd; intro)
    | (with_reducible apply only_when; intro)
    | with_reducible apply only_either
    | (with_reducible apply only_onHport; exact mem_of hpt (by decide))
    | (with_reducible apply only_hostWrite; exact List.Subset.trans (by decide) hpt)
    | dsimp only

theorem only_mbNotify {pt : List Part} (hpt : [.hostOut, .hports] ⊆ pt) (k : Nat) (bit : Nat) : Eff.Only pt (mbNotify k bit) := by
  unfold mbNotify
  repeat first
    | (with_reducible apply only_rd; intro)
    | (with_reducible apply only_when; intro)
    | (with_reducible apply only_msixSend; exact List.Subset.trans (by decide) hpt)
    | dsimp only

theorem only_mbEnd {pt : List Part} (hpt : [.fld .MOD_MB_SUMMARY, .hostOut, .hports, .slots] ⊆ pt) (k : Nat) (st : Nat) (result : Nat) (progress :
    Nat) : Eff.Only pt (mbEnd k st result progress) := by
  unfold mbEnd
  repeat first
    | with_reducible exact only_seq_nil _
    | with_reducible apply only_seq_cons
    | (with_reducible apply only_rd; intro)
    | (with_reducible apply only_when; intro)
    | (with_reducible apply only_fbit; exact mem_of hpt (by decide))
    | (with_reducible apply only_onSlot; exact mem_of hpt (by decide))
    | (with_reducible apply only_mbBusy; exact List.Subset.trans (by decide) hpt)
    | (with_reducible apply only_mbNotify; exact List.Subset.trans (by decide) hpt)

theorem only_mbDone {pt : List Part} (hpt : [.fld .MOD_MB_SUMMARY, .hostOut, .hports, .slots] ⊆ pt) (k : Nat) (inline_ : Nat) : Eff.Only pt (mbDone
    k inline_) := by
  unfold mbDone
  repeat first
    | (with_reducible apply only_mbEnd; exact List.Subset.trans (by decide) hpt)

theorem only_mbFail {pt : List Part} (hpt : [.fld .MOD_MB_SUMMARY, .hostOut, .hports, .slots] ⊆ pt) (k : Nat) (status : Nat) : Eff.Only pt (mbFail k
    status) := by
  unfold mbFail
  repeat first
    | (with_reducible apply only_rd; intro)
    | (with_reducible apply only_mbEnd; exact List.Subset.trans (by decide) hpt)

theorem only_mbResult {pt : List Part} (hpt : [.slots] ⊆ pt) (k : Nat) (bs : List Byte) : Eff.Only pt (mbResult k bs) := by
  unfold mbResult
  repeat first
    | (with_reducible apply only_onSlot; exact mem_of hpt (by decide))

theorem only_portCtlEnd {pt : List Part} (hpt : [.fld .MOD_MB_SUMMARY, .hostOut, .hports, .slots] ⊆ pt) (n : Nat) (k : Nat) : Eff.Only pt
    (portCtlEnd n k) := by
  unfold portCtlEnd
  repeat first
    | with_reducible exact only_seq_nil _
    | with_reducible apply only_seq_cons
    | (with_reducible apply only_rd; intro)
    | (with_reducible apply only_when; intro)
    | with_reducible apply only_either
    | (with_reducible apply only_onSlot; exact mem_of hpt (by decide))
    | (with_reducible apply only_mbDone; exact List.Subset.trans (by decide) hpt)
    | (with_reducible apply only_mbFail; exact List.Subset.trans (by decide) hpt)
    | (with_reducible apply only_mbResult; exact List.Subset.trans (by decide) hpt)
    | dsimp only

theorem only_portCtl {pt : List Part} (hpt : [.fld .MOD_MB_SUMMARY, .hostOut, .hports, .slots] ⊆ pt) (n : Nat) : Eff.Only pt (portCtl n) := by
  unfold portCtl
  repeat first
    | (with_reducible apply only_rd; intro)
    | (with_reducible apply only_each; intro _ _)
    | (with_reducible apply only_portCtlEnd; exact List.Subset.trans (by decide) hpt)
    | with_reducible intro _

theorem only_portTo {pt : List Part} (hpt : [.fld .MOD_MB_SUMMARY, .fld .RUN_STAT, .hostOut, .hports, .ports, .slots] ⊆ pt) (n : Nat) (st : Nat) :
    Eff.Only pt (portTo n st) := by
  unfold portTo
  repeat first
    | with_reducible exact only_seq_nil _
    | with_reducible apply only_seq_cons
    | (with_reducible apply only_rd; intro)
    | (with_reducible apply only_fset; exact mem_of hpt (by decide))
    | (with_reducible apply only_onPort; exact mem_of hpt (by decide))
    | (with_reducible apply only_portCtl; exact List.Subset.trans (by decide) hpt)

theorem only_pourClear {pt : List Part} (hpt : [.align, .ctl, .fld .MOD_POUR_ID, .fld .RUN_STAT, .fld .TC_ALIGN_STAT, .pour] ⊆ pt) : Eff.Only pt
    (pourClear ) := by
  unfold pourClear
  repeat first
    | with_reducible exact only_seq_nil _
    | with_reducible apply only_seq_cons
    | (with_reducible apply only_rd; intro)
    | (with_reducible apply only_each; intro _ _)
    | (with_reducible apply only_fset; exact mem_of hpt (by decide))
    | (with_reducible apply only_regReset; exact mem_of hpt (by decide))
    | with_reducible intro _
    | with_reducible apply only_updates
    | with_reducible exact within_nil _
    | (with_reducible apply within_cons; · exact mem_of hpt (by dsimp only [Upd.part]; decide))
    | with_reducible apply within_append
    | (with_reducible apply within_map; intros; exact mem_of hpt (by dsimp only [Upd.part]; decide))
    | (with_reducible apply within_flatMap; intro _ _)

theorem only_pourAbort {pt : List Part} (hpt : [.align, .ctl, .fld .MOD_MB_SUMMARY, .fld .MOD_POUR_ID, .fld .RUN_STAT, .fld .TC_ALIGN_STAT,
    .hostOut, .hports, .pour, .slots] ⊆ pt) (status : Nat) : Eff.Only pt (pourAbort status) := by
  unfold pourAbort
  repeat first
    | with_reducible exact only_seq_nil _
    | with_reducible apply only_seq_cons
    | (with_reducible apply only_rd; intro)
    | (with_reducible apply only_when; intro)
    | (with_reducible apply only_each; intro _ _)
    | (with_reducible apply only_mbFail; exact List.Subset.trans (by decide) hpt)
    | (with_reducible apply only_pourClear; exact List.Subset.trans (by decide) hpt)
    | with_reducible intro _

theorem only_pourFormed {pt : List Part} (hpt : [.fld .MOD_MB_SUMMARY, .hostOut, .hports, .pour, .slots] ⊆ pt) (routes : List (Nat × Nat)) :
    Eff.Only pt (pourFormed routes) := by
  unfold pourFormed
  repeat first
    | with_reducible exact only_seq_nil _
    | with_reducible apply only_seq_cons
    | (with_reducible apply only_rd; intro)
    | (with_reducible apply only_when; intro)
    | (with_reducible apply only_each; intro _ _)
    | (with_reducible apply only_mbDone; exact List.Subset.trans (by decide) hpt)
    | with_reducible intro _
    | with_reducible apply only_updates
    | with_reducible exact within_nil _
    | (with_reducible apply within_cons; · exact mem_of hpt (by dsimp only [Upd.part]; decide))
    | with_reducible apply within_append
    | (with_reducible apply within_map; intros; exact mem_of hpt (by dsimp only [Upd.part]; decide))
    | (with_reducible apply within_flatMap; intro _ _)

theorem only_formedReport {pt : List Part} (hpt : [.align, .ctl, .fld .MOD_MB_SUMMARY, .fld .MOD_POUR_ID, .fld .RUN_STAT, .fld .TC_ALIGN_STAT,
    .hostOut, .hports, .msgs, .pour, .slots] ⊆ pt) (routes : List (Nat × Nat)) : Eff.Only pt (formedReport routes) := by
  unfold formedReport
  repeat first
    | with_reducible exact only_nop _
    | with_reducible exact only_seq_nil _
    | with_reducible apply only_seq_cons
    | (with_reducible apply only_rd; intro)
    | (with_reducible apply only_when; intro)
    | with_reducible apply only_either
    | (with_reducible apply only_send; exact mem_of hpt (by decide))
    | (with_reducible apply only_pourAbort; exact List.Subset.trans (by decide) hpt)
    | (with_reducible apply only_pourFormed; exact List.Subset.trans (by decide) hpt)
    | with_reducible apply only_updates
    | with_reducible exact within_nil _
    | (with_reducible apply within_cons; · exact mem_of hpt (by dsimp only [Upd.part]; decide))
    | with_reducible apply within_append
    | (with_reducible apply within_map; intros; exact mem_of hpt (by dsimp only [Upd.part]; decide))
    | (with_reducible apply within_flatMap; intro _ _)
    | split
    | dsimp only

theorem only_pourFail {pt : List Part} (hpt : [.align, .ctl, .fld .MOD_MB_SUMMARY, .fld .MOD_POUR_ID, .fld .RUN_STAT, .fld .TC_ALIGN_STAT, .hostOut,
    .hports, .msgs, .pour, .slots] ⊆ pt) (status : Nat) : Eff.Only pt (pourFail status) := by
  unfold pourFail
  repeat first
    | with_reducible exact only_seq_nil _
    | with_reducible apply only_seq_cons
    | (with_reducible apply only_rd; intro)
    | (with_reducible apply only_when; intro)
    | (with_reducible apply only_formedReport; exact List.Subset.trans (by decide) hpt)
    | with_reducible apply only_updates
    | with_reducible exact within_nil _
    | (with_reducible apply within_cons; · exact mem_of hpt (by dsimp only [Upd.part]; decide))
    | with_reducible apply within_append
    | (with_reducible apply within_map; intros; exact mem_of hpt (by dsimp only [Upd.part]; decide))
    | (with_reducible apply within_flatMap; intro _ _)

theorem only_attemptFail {pt : List Part} (hpt : [.align, .ctl, .fld .MOD_MB_SUMMARY, .fld .MOD_POUR_ID, .fld .RUN_STAT, .fld .TC_ALIGN_STAT,
    .hostOut, .hports, .msgs, .ports, .pour, .slots] ⊆ pt) (n : Nat) : Eff.Only pt (attemptFail n) := by
  unfold attemptFail
  repeat first
    | with_reducible exact only_seq_nil _
    | with_reducible apply only_seq_cons
    | (with_reducible apply only_rd; intro)
    | (with_reducible apply only_when; intro)
    | with_reducible apply only_either
    | (with_reducible apply only_onPort; exact mem_of hpt (by decide))
    | (with_reducible apply only_portTo; exact List.Subset.trans (by decide) hpt)
    | (with_reducible apply only_pourFail; exact List.Subset.trans (by decide) hpt)
    | dsimp only

theorem only_padOff {pt : List Part} (hpt : [.fld .PST_PAD_HOLD] ⊆ pt) (g : Nat) : Eff.Only pt (padOff g) := by
  unfold padOff
  repeat first
    | (with_reducible apply only_fbit; exact mem_of hpt (by decide))

theorem only_sendHello {pt : List Part} (hpt : [.msgs] ⊆ pt) (p : Nat) : Eff.Only pt (sendHello p) := by
  unfold sendHello
  repeat first
    | (with_reducible apply only_rd; intro)
    | (with_reducible apply only_send; exact mem_of hpt (by decide))
    | split
    | dsimp only

theorem only_helloAll {pt : List Part} (hpt : [.msgs] ⊆ pt) : Eff.Only pt (helloAll ) := by
  unfold helloAll
  repeat first
    | (with_reducible apply only_rd; intro)
    | (with_reducible apply only_when; intro)
    | (with_reducible apply only_each; intro _ _)
    | (with_reducible apply only_sendHello; exact List.Subset.trans (by decide) hpt)
    | with_reducible intro _

theorem only_portUp {pt : List Part} (hpt : [.fld .MOD_MB_SUMMARY, .fld .RUN_STAT, .hostOut, .hports, .msgs, .ports, .slots] ⊆ pt) (n : Nat) :
    Eff.Only pt (portUp n) := by
  unfold portUp
  repeat first
    | with_reducible exact only_seq_nil _
    | with_reducible apply only_seq_cons
    | (with_reducible apply only_rd; intro)
    | with_reducible apply only_either
    | (with_reducible apply only_send; exact mem_of hpt (by decide))
    | (with_reducible apply only_onPort; exact mem_of hpt (by decide))
    | (with_reducible apply only_helloAll; exact List.Subset.trans (by decide) hpt)
    | (with_reducible apply only_portTo; exact List.Subset.trans (by decide) hpt)
    | (with_reducible apply only_sendHello; exact List.Subset.trans (by decide) hpt)

theorem only_bootPorts {pt : List Part} (hpt : [.align, .ctl, .fld .MOD_MB_SUMMARY, .fld .MOD_PORT_BOOT, .fld .MOD_POUR_ID, .fld .PST_PAD_HOLD,
    .fld .RUN_STAT, .fld .TC_ALIGN_STAT, .hostOut, .hports, .msgs, .ports, .pour, .slots] ⊆ pt) (env : BootEnv) : Eff.Only pt (bootPorts env) := by
  unfold bootPorts
  repeat first
    | with_reducible exact only_seq_nil _
    | with_reducible apply only_seq_cons
    | (with_reducible apply only_rd; intro)
    | (with_reducible apply only_when; intro)
    | with_reducible apply only_either
    | (with_reducible apply only_each; intro _ _)
    | (with_reducible apply only_fset; exact mem_of hpt (by decide))
    | (with_reducible apply only_onPort; exact mem_of hpt (by decide))
    | (with_reducible apply only_attemptFail; exact List.Subset.trans (by decide) hpt)
    | (with_reducible apply only_padOff; exact List.Subset.trans (by decide) hpt)
    | (with_reducible apply only_portUp; exact List.Subset.trans (by decide) hpt)
    | with_reducible intro _
    | dsimp only

theorem only_dirWrite {pt : List Part} (hpt : [.boot, .fld .MOD_FLASH_INFO] ⊆ pt) (f : BootDir → BootDir) : Eff.Only pt (dirWrite f) := by
  unfold dirWrite
  repeat first
    | with_reducible exact only_seq_nil _
    | with_reducible apply only_seq_cons
    | (with_reducible apply only_rd; intro)
    | (with_reducible apply only_fset; exact mem_of hpt (by decide))
    | with_reducible apply only_updates
    | with_reducible exact within_nil _
    | (with_reducible apply within_cons; · exact mem_of hpt (by dsimp only [Upd.part]; decide))
    | with_reducible apply within_append
    | (with_reducible apply within_map; intros; exact mem_of hpt (by dsimp only [Upd.part]; decide))
    | (with_reducible apply within_flatMap; intro _ _)
    | dsimp only

theorem only_tamperTold {pt : List Part} (hpt : [.ev] ⊆ pt) : Eff.Only pt (tamperTold ) := by
  unfold tamperTold
  repeat first
    | with_reducible exact only_nop _
    | (with_reducible apply only_rd; intro)
    | (with_reducible apply only_when; intro)
    | (with_reducible apply only_raise; exact mem_of hpt (by decide))
    | split
    | dsimp only

theorem only_bootReady {pt : List Part} (hpt : [.boot, .ev, .fld .MOD_BOOT_STAT, .fld .MOD_FLASH_INFO, .fld .MOD_GRID_STAT, .fld .SAF_STAT] ⊆ pt)
    (env : BootEnv) : Eff.Only pt (bootReady env) := by
  unfold bootReady
  repeat first
    | with_reducible exact only_seq_nil _
    | with_reducible apply only_seq_cons
    | (with_reducible apply only_rd; intro)
    | (with_reducible apply only_when; intro)
    | (with_reducible apply only_fset; exact mem_of hpt (by decide))
    | (with_reducible apply only_raise; exact mem_of hpt (by decide))
    | (with_reducible apply only_dirWrite; exact List.Subset.trans (by decide) hpt)
    | (with_reducible apply only_tamperTold; exact List.Subset.trans (by decide) hpt)
    | with_reducible apply only_updates
    | with_reducible exact within_nil _
    | (with_reducible apply within_cons; · exact mem_of hpt (by dsimp only [Upd.part]; decide))
    | with_reducible apply within_append
    | (with_reducible apply within_map; intros; exact mem_of hpt (by dsimp only [Upd.part]; decide))
    | (with_reducible apply within_flatMap; intro _ _)
    | split
    | dsimp only

theorem only_grantEnds {pt : List Part} (hpt : [.dbg, .fld .DBG_STAT, .fld .MOD_APERTURE_CTL] ⊆ pt) : Eff.Only pt (grantEnds ) := by
  unfold grantEnds
  repeat first
    | with_reducible exact only_seq_nil _
    | with_reducible apply only_seq_cons
    | (with_reducible apply only_rd; intro)
    | (with_reducible apply only_fset; exact mem_of hpt (by decide))
    | with_reducible apply only_updates
    | with_reducible exact within_nil _
    | (with_reducible apply within_cons; · exact mem_of hpt (by dsimp only [Upd.part]; decide))
    | with_reducible apply within_append
    | (with_reducible apply within_map; intros; exact mem_of hpt (by dsimp only [Upd.part]; decide))
    | (with_reducible apply within_flatMap; intro _ _)
    | split

theorem only_fwReject {pt : List Part} (hpt : [.ev, .fld .MOD_BOOT_ERR] ⊆ pt) (source : Nat) (r : Nat × Nat) : Eff.Only pt (fwReject source r) := by
  unfold fwReject
  refine only_seq_cons (only_fset ?_ _ _) (only_seq_cons (only_raise (mem_of hpt (by decide)) _ _ _ _) (only_seq_nil _))
  split <;> exact mem_of hpt (by decide)

theorem only_releaseDraw {pt : List Part} (hpt : [.fld .SAF_STAT, .saf] ⊆ pt) : Eff.Only pt (releaseDraw ) := by
  unfold releaseDraw
  repeat first
    | with_reducible exact only_seq_nil _
    | with_reducible apply only_seq_cons
    | (with_reducible apply only_rd; intro)
    | (with_reducible apply only_fset; exact mem_of hpt (by decide))
    | with_reducible apply only_updates
    | with_reducible exact within_nil _
    | (with_reducible apply within_cons; · exact mem_of hpt (by dsimp only [Upd.part]; decide))
    | with_reducible apply within_append
    | (with_reducible apply within_map; intros; exact mem_of hpt (by dsimp only [Upd.part]; decide))
    | (with_reducible apply within_flatMap; intro _ _)

theorem only_imageRuns {pt : List Part} (hpt : [.boot, .fld .MOD_BOOT_STAT, .fld .SAF_STAT, .saf] ⊆ pt) (n : Nat) (fallback : Bool) : Eff.Only pt
    (imageRuns n fallback) := by
  unfold imageRuns
  repeat first
    | with_reducible exact only_seq_nil _
    | with_reducible apply only_seq_cons
    | (with_reducible apply only_rd; intro)
    | (with_reducible apply only_fset; exact mem_of hpt (by decide))
    | (with_reducible apply only_fput; exact mem_of hpt (by decide))
    | (with_reducible apply only_releaseDraw; exact List.Subset.trans (by decide) hpt)
    | with_reducible apply only_updates
    | with_reducible exact within_nil _
    | (with_reducible apply within_cons; · exact mem_of hpt (by dsimp only [Upd.part]; decide))
    | with_reducible apply within_append
    | (with_reducible apply within_map; intros; exact mem_of hpt (by dsimp only [Upd.part]; decide))
    | (with_reducible apply within_flatMap; intro _ _)
    | dsimp only

theorem only_recovery {pt : List Part} (hpt : [.fld .MOD_BOOT_STAT] ⊆ pt) : Eff.Only pt (recovery ) := by
  unfold recovery
  repeat first
    | (with_reducible apply only_fset; exact mem_of hpt (by decide))

theorem only_imageLoad {pt : List Part} (hpt : [.boot, .ev, .fld .MOD_BOOT_ERR, .fld .MOD_BOOT_STAT, .fld .MOD_FLASH_INFO, .fld .SAF_STAT, .saf] ⊆
    pt) (env : BootEnv) : Eff.Only pt (imageLoad env) := by
  unfold imageLoad
  repeat first
    | with_reducible exact only_nop _
    | with_reducible exact only_seq_nil _
    | with_reducible apply only_seq_cons
    | (with_reducible apply only_rd; intro)
    | (with_reducible apply only_when; intro)
    | (with_reducible apply only_fset; exact mem_of hpt (by decide))
    | (with_reducible apply only_fput; exact mem_of hpt (by decide))
    | (with_reducible apply only_fwReject; exact List.Subset.trans (by decide) hpt)
    | (with_reducible apply only_imageRuns; exact List.Subset.trans (by decide) hpt)
    | (with_reducible apply only_recovery; exact List.Subset.trans (by decide) hpt)
    | split
    | dsimp only

theorem only_railTo {pt : List Part} (hpt : [.fld .PWR_CLUSTER_c] ⊆ pt) (p : Nat) : Eff.Only pt (railTo p) := by
  unfold railTo
  repeat first
    | (with_reducible apply only_rd; intro)
    | with_reducible apply only_updates
    | with_reducible exact within_nil _
    | (with_reducible apply within_cons; · exact mem_of hpt (by dsimp only [Upd.part]; decide))
    | with_reducible apply within_append
    | (with_reducible apply within_map; intros; exact mem_of hpt (by dsimp only [Upd.part]; decide))
    | (with_reducible apply within_flatMap; intro _ _)

theorem only_pstepSet {pt : List Part} (hpt : [.fld .CLK_PSTEP, .fld .PWR_CLUSTER_c, .fld .PWR_RISER_LEAD] ⊆ pt) (p : Nat) : Eff.Only pt (pstepSet
    p) := by
  unfold pstepSet
  repeat first
    | with_reducible exact only_seq_nil _
    | with_reducible apply only_seq_cons
    | (with_reducible apply only_fset; exact mem_of hpt (by decide))
    | (with_reducible apply only_railTo; exact List.Subset.trans (by decide) hpt)

theorem only_raiseExhausted {pt : List Part} (hpt : [.ev] ⊆ pt) (kind : Nat) (loc : Nat) : Eff.Only pt (raiseExhausted kind loc) := by
  unfold raiseExhausted
  repeat first
    | (with_reducible apply only_raise; exact mem_of hpt (by decide))

theorem only_spareMin {pt : List Part} (hpt : [.fld .SPD_STAT] ⊆ pt) (p : Nat) : Eff.Only pt (spareMin p) := by
  unfold spareMin
  repeat first
    | with_reducible exact only_seq_nil _
    | with_reducible apply only_seq_cons
    | (with_reducible apply only_rd; intro)
    | (with_reducible apply only_fset; exact mem_of hpt (by decide))
    | dsimp only

theorem only_slagApply {pt : List Part} (hpt : [.cores, .fld .ME_CAP, .fld .RUN_LANE_l, .fld .RUN_STAT, .fld .SPD_STAT, .ports, .seam] ⊆ pt) (e :
    SlagEntry) : Eff.Only pt (slagApply e) := by
  unfold slagApply
  repeat first
    | with_reducible exact only_nop _
    | with_reducible exact only_seq_nil _
    | with_reducible apply only_seq_cons
    | (with_reducible apply only_rd; intro)
    | (with_reducible apply only_when; intro)
    | (with_reducible apply only_fset; exact mem_of hpt (by decide))
    | (with_reducible apply only_onCore; exact mem_of hpt (by decide))
    | (with_reducible apply only_onPort; exact mem_of hpt (by decide))
    | (with_reducible apply only_spareMin; exact List.Subset.trans (by decide) hpt)
    | with_reducible apply only_updates
    | with_reducible exact within_nil _
    | (with_reducible apply within_cons; · exact mem_of hpt (by dsimp only [Upd.part]; decide))
    | with_reducible apply within_append
    | (with_reducible apply within_map; intros; exact mem_of hpt (by dsimp only [Upd.part]; decide))
    | (with_reducible apply within_flatMap; intro _ _)
    | split
    | dsimp only

theorem only_tilesOn {pt : List Part} (hpt : [.fld .PWR_CLUSTER_c, .fld .PWR_TILE_t] ⊆ pt) : Eff.Only pt (tilesOn ) := by
  unfold tilesOn
  repeat first
    | with_reducible exact only_seq_nil _
    | with_reducible apply only_seq_cons
    | (with_reducible apply only_rd; intro)
    | with_reducible apply only_updates
    | with_reducible exact within_nil _
    | (with_reducible apply within_cons; · exact mem_of hpt (by dsimp only [Upd.part]; decide))
    | with_reducible apply within_append
    | (with_reducible apply within_map; intros; exact mem_of hpt (by dsimp only [Upd.part]; decide))
    | (with_reducible apply within_flatMap; intro _ _)
    | split
    | dsimp only

theorem only_slagRepair {pt : List Part} (hpt : [.cores, .ev, .fld .ME_CAP, .fld .MOD_GRID_STAT, .fld .PWR_CLUSTER_c, .fld .PWR_TILE_t,
    .fld .RUN_LANE_l, .fld .RUN_STAT, .fld .SPD_STAT, .ports, .seam, .slag] ⊆ pt) (kind : Nat) (loc : Nat) (core : Nat) (reason : Nat) : Eff.Only pt
    (slagRepair kind loc core reason) := by
  unfold slagRepair
  repeat first
    | with_reducible exact only_nop _
    | with_reducible exact only_seq_nil _
    | with_reducible apply only_seq_cons
    | (with_reducible apply only_rd; intro)
    | (with_reducible apply only_fset; exact mem_of hpt (by decide))
    | (with_reducible apply only_raise; exact mem_of hpt (by decide))
    | (with_reducible apply only_raiseExhausted; exact List.Subset.trans (by decide) hpt)
    | (with_reducible apply only_slagApply; exact List.Subset.trans (by decide) hpt)
    | (with_reducible apply only_slagRecord; exact List.Subset.trans (by decide) hpt)
    | (with_reducible apply only_tilesOn; exact List.Subset.trans (by decide) hpt)
    | split
    | dsimp only

theorem only_selfTestFail {pt : List Part} (hpt : [.cores, .ev, .fld .ME_CAP, .fld .MOD_BOOT_ERR, .fld .MOD_GRID_STAT, .fld .PWR_CLUSTER_c,
    .fld .PWR_TILE_t, .fld .RUN_LANE_l, .fld .RUN_STAT, .fld .SPD_STAT, .ports, .seam, .slag] ⊆ pt) (u : Nat × Nat × Nat) : Eff.Only pt
    (selfTestFail u) := by
  unfold selfTestFail
  repeat first
    | with_reducible exact only_seq_nil _
    | with_reducible apply only_seq_cons
    | (with_reducible apply only_fsat; exact mem_of hpt (by decide))
    | (with_reducible apply only_raise; exact mem_of hpt (by decide))
    | (with_reducible apply only_slagRepair; exact List.Subset.trans (by decide) hpt)

theorem only_slagMerge {pt : List Part} (hpt : [.cores, .ev, .fld .ME_CAP, .fld .MOD_GRID_STAT, .fld .PWR_CLUSTER_c, .fld .PWR_TILE_t,
    .fld .RUN_LANE_l, .fld .RUN_STAT, .fld .SPD_STAT, .ports, .seam, .slag] ⊆ pt) : Eff.Only pt (slagMerge ) := by
  unfold slagMerge
  repeat first
    | with_reducible exact only_seq_nil _
    | with_reducible apply only_seq_cons
    | (with_reducible apply only_rd; intro)
    | (with_reducible apply only_when; intro)
    | (with_reducible apply only_each; intro _ _)
    | (with_reducible apply only_raise; exact mem_of hpt (by decide))
    | (with_reducible apply only_slagApply; exact List.Subset.trans (by decide) hpt)
    | (with_reducible apply only_slagRepair; exact List.Subset.trans (by decide) hpt)
    | with_reducible intro _
    | with_reducible apply only_updates
    | with_reducible exact within_nil _
    | (with_reducible apply within_cons; · exact mem_of hpt (by dsimp only [Upd.part]; decide))
    | with_reducible apply within_append
    | (with_reducible apply within_map; intros; exact mem_of hpt (by dsimp only [Upd.part]; decide))
    | (with_reducible apply within_flatMap; intro _ _)
    | split
    | dsimp only

theorem only_stageFault {pt : List Part} (hpt : [.ev, .fld .MOD_BOOT_ERR] ⊆ pt) (x : Nat × Nat) : Eff.Only pt (stageFault x) := by
  unfold stageFault
  repeat first
    | with_reducible exact only_seq_nil _
    | with_reducible apply only_seq_cons
    | (with_reducible apply only_rd; intro)
    | (with_reducible apply only_when; intro)
    | (with_reducible apply only_fset; exact mem_of hpt (by decide))
    | (with_reducible apply only_raise; exact mem_of hpt (by decide))

theorem only_upTo {pt : List Part} (hpt : [] ⊆ pt) (env : BootEnv) (stage : Nat) (e : Eff) (he : Eff.Only pt e) : Eff.Only pt (upTo env stage e) := by
  unfold upTo
  repeat first
    | with_reducible exact he
    | (with_reducible apply only_rd; intro)
    | (with_reducible apply only_when; intro)
    | split
    | dsimp only

theorem only_bootFull {pt : List Part} (hpt : [.align, .boot, .cores, .ctl, .dbg, .ev, .fld .CLK_PSTEP, .fld .CLU_CORES, .fld .CORE_STAT,
    .fld .DBG_STAT, .fld .ME_CAP, .fld .MOD_APERTURE_CTL, .fld .MOD_BOOT_ERR, .fld .MOD_BOOT_STAT, .fld .MOD_FLASH_INFO, .fld .MOD_GRID_STAT,
    .fld .MOD_MB_SUMMARY, .fld .MOD_PORT_BOOT, .fld .MOD_POUR_ID, .fld .MOD_ROW_MAP_r, .fld .PST_CORE_PWR_r, .fld .PST_PAD_HOLD, .fld .PST_RAMP,
    .fld .PST_STAT, .fld .PWR_CLUSTER_c, .fld .PWR_RISER_LEAD, .fld .PWR_TILE_t, .fld .RUN_LANE_l, .fld .RUN_STAT, .fld .SAF_STAT, .fld .SPD_STAT,
    .fld .TC_ALIGN_STAT, .hostOut, .hports, .msgs, .ports, .pour, .pst, .saf, .seam, .slag, .slots] ⊆ pt) (env : BootEnv) : Eff.Only pt (bootFull
    env) := by
  unfold bootFull
  repeat first
    | with_reducible exact only_nop _
    | with_reducible exact only_seq_nil _
    | with_reducible apply only_seq_cons
    | (with_reducible apply only_rd; intro)
    | (with_reducible apply only_when; intro)
    | with_reducible apply only_either
    | (with_reducible apply only_each; intro _ _)
    | (with_reducible apply only_fset; exact mem_of hpt (by decide))
    | (with_reducible apply only_raise; exact mem_of hpt (by decide))
    | (with_reducible apply only_bootGrid; exact List.Subset.trans (by decide) hpt)
    | (with_reducible apply only_bootPorts; exact List.Subset.trans (by decide) hpt)
    | (with_reducible apply only_bootReady; exact List.Subset.trans (by decide) hpt)
    | (with_reducible apply only_grantEnds; exact List.Subset.trans (by decide) hpt)
    | (with_reducible apply only_imageLoad; exact List.Subset.trans (by decide) hpt)
    | (with_reducible apply only_padOff; exact List.Subset.trans (by decide) hpt)
    | (with_reducible apply only_pstepSet; exact List.Subset.trans (by decide) hpt)
    | (with_reducible apply only_selfTestFail; exact List.Subset.trans (by decide) hpt)
    | (with_reducible apply only_slagMerge; exact List.Subset.trans (by decide) hpt)
    | (with_reducible apply only_slagRepair; exact List.Subset.trans (by decide) hpt)
    | (with_reducible apply only_stageFault; exact List.Subset.trans (by decide) hpt)
    | (with_reducible apply only_tilesOn; exact List.Subset.trans (by decide) hpt)
    | (with_reducible apply only_upTo; · exact List.Subset.trans (by decide) hpt)
    | with_reducible intro _
    | with_reducible apply only_updates
    | with_reducible exact within_nil _
    | (with_reducible apply within_cons; · exact mem_of hpt (by dsimp only [Upd.part]; decide))
    | with_reducible apply within_append
    | (with_reducible apply within_map; intros; exact mem_of hpt (by dsimp only [Upd.part]; decide))
    | (with_reducible apply within_flatMap; intro _ _)
    | split
    | dsimp only

theorem only_tamperLog {pt : List Part} (hpt : [.fld .SAF_STAT, .fld .SAF_TAMPER, .saf] ⊆ pt) (code : Nat) (power : Nat) : Eff.Only pt (tamperLog
    code power) := by
  unfold tamperLog
  repeat first
    | with_reducible exact only_seq_nil _
    | with_reducible apply only_seq_cons
    | (with_reducible apply only_rd; intro)
    | (with_reducible apply only_fset; exact mem_of hpt (by decide))
    | (with_reducible apply only_fsat; exact mem_of hpt (by decide))
    | with_reducible apply only_updates
    | with_reducible exact within_nil _
    | (with_reducible apply within_cons; · exact mem_of hpt (by dsimp only [Upd.part]; decide))
    | with_reducible apply within_append
    | (with_reducible apply within_map; intros; exact mem_of hpt (by dsimp only [Upd.part]; decide))
    | (with_reducible apply within_flatMap; intro _ _)
    | split
    | dsimp only

theorem only_cellReset {pt : List Part} (hpt : [.fld .SAF_SECONDS, .fld .SAF_STAT, .fld .SAF_TAMPER, .saf] ⊆ pt) : Eff.Only pt (cellReset ) := by
  unfold cellReset
  repeat first
    | with_reducible exact only_seq_nil _
    | with_reducible apply only_seq_cons
    | (with_reducible apply only_rd; intro)
    | (with_reducible apply only_fset; exact mem_of hpt (by decide))
    | (with_reducible apply only_regReset; exact mem_of hpt (by decide))
    | (with_reducible apply only_tamperLog; exact List.Subset.trans (by decide) hpt)
    | with_reducible apply only_updates
    | with_reducible exact within_nil _
    | (with_reducible apply within_cons; · exact mem_of hpt (by dsimp only [Upd.part]; decide))
    | with_reducible apply within_append
    | (with_reducible apply within_map; intros; exact mem_of hpt (by dsimp only [Upd.part]; decide))
    | (with_reducible apply within_flatMap; intro _ _)

theorem only_clearAll {pt : List Part} (hpt : [.align, .boot, .caches, .cores, .ctl, .dbg, .dec, .dram, .dramPoison, .dramWritten, .ev, .faults,
    .flasks, .fld .SAF_STAT, .flds, .gclk, .hports, .ldls, .mes, .msix, .pep, .ports, .pour, .power, .pst, .queues, .refreshOnly, .refreshed,
    .rings, .saf, .seam, .ses, .slag, .slots, .spd, .spdPoison, .svc, .vus] ⊆ pt) (keep : List Nat) : Eff.Only pt (clearAll keep) := by
  unfold clearAll
  repeat first
    | with_reducible exact only_seq_nil _
    | with_reducible apply only_seq_cons
    | (with_reducible apply only_rd; intro)
    | (with_reducible apply only_fset; exact mem_of hpt (by decide))
    | with_reducible apply only_updates
    | with_reducible exact within_nil _
    | (with_reducible apply within_cons; · exact mem_of hpt (by dsimp only [Upd.part]; decide))
    | with_reducible apply within_append
    | (with_reducible apply within_map; intros; exact mem_of hpt (by dsimp only [Upd.part]; decide))
    | (with_reducible apply within_flatMap; intro _ _)

theorem only_computeStart {pt : List Part} (hpt : [.cores, .ev, .fld .CLK_PSTEP, .fld .CLU_CORES, .fld .CORE_STAT, .fld .ME_CAP, .fld .MOD_BOOT_ERR,
    .fld .MOD_GRID_STAT, .fld .MOD_ROW_MAP_r, .fld .PST_CORE_PWR_r, .fld .PST_RAMP, .fld .PWR_CLUSTER_c, .fld .PWR_RISER_LEAD, .fld .PWR_TILE_t,
    .fld .RUN_LANE_l, .fld .RUN_STAT, .fld .SPD_STAT, .ports, .power, .pst, .seam, .slag, .svc] ⊆ pt) (env : BootEnv) : Eff.Only pt (computeStart
    env) := by
  unfold computeStart
  repeat first
    | with_reducible exact only_seq_nil _
    | with_reducible apply only_seq_cons
    | (with_reducible apply only_rd; intro)
    | (with_reducible apply only_when; intro)
    | (with_reducible apply only_each; intro _ _)
    | (with_reducible apply only_bootGrid; exact List.Subset.trans (by decide) hpt)
    | (with_reducible apply only_pstepSet; exact List.Subset.trans (by decide) hpt)
    | (with_reducible apply only_selfTestFail; exact List.Subset.trans (by decide) hpt)
    | (with_reducible apply only_tilesOn; exact List.Subset.trans (by decide) hpt)
    | with_reducible intro _
    | with_reducible apply only_updates
    | with_reducible exact within_nil _
    | (with_reducible apply within_cons; · exact mem_of hpt (by dsimp only [Upd.part]; decide))
    | with_reducible apply within_append
    | (with_reducible apply within_map; intros; exact mem_of hpt (by dsimp only [Upd.part]; decide))
    | (with_reducible apply within_flatMap; intro _ _)

theorem only_coreStop {pt : List Part} (hpt : [.cores, .fld .CORE_SC, .fld .CORE_SEQ, .fld .ME_STAT, .fld .SE_STAT, .fld .SPR_STAT, .fld .VU_STAT,
    .mes, .ses, .vus] ⊆ pt) (p : Nat) : Eff.Only pt (coreStop p) := by
  unfold coreStop
  repeat first
    | with_reducible exact within_nil _
    | (with_reducible apply within_drop; · exact fun i hi => mem_of hpt (by revert i; decide))
    | (with_reducible apply within_cons; · exact mem_of hpt (by dsimp only [Upd.part]; decide))
    | with_reducible apply within_append
    | (with_reducible apply within_map; intros; exact mem_of hpt (by dsimp only [Upd.part]; decide))
    | (with_reducible apply within_flatMap; intro _ _)
    | dsimp only
    | (apply only_fun; intro)

theorem only_coreUnload {pt : List Part} (hpt : [.cores, .fld .CORE_MOULD, .fld .CORE_STAT] ⊆ pt) (p : Nat) : Eff.Only pt (coreUnload p) := by
  unfold coreUnload
  repeat first
    | with_reducible exact within_nil _
    | (with_reducible apply within_drop; · exact fun i hi => mem_of hpt (by revert i; decide))
    | (with_reducible apply within_cons; · exact mem_of hpt (by dsimp only [Upd.part]; decide))
    | with_reducible apply within_append
    | (with_reducible apply within_map; intros; exact mem_of hpt (by dsimp only [Upd.part]; decide))
    | (with_reducible apply within_flatMap; intro _ _)
    | (apply only_fun; intro)

theorem only_queuesZero {pt : List Part} (hpt : [.fld .QUEUE_BASE, .fld .QUEUE_CTL, .fld .QUEUE_DB, .fld .QUEUE_LEVEL, .fld .QUEUE_STAT,
    .fld .QUEUE_WM, .queues] ⊆ pt) (l : Nat) : Eff.Only pt (queuesZero l) := by
  unfold queuesZero
  repeat first
    | with_reducible apply only_updates
    | with_reducible exact within_nil _
    | (with_reducible apply within_drop; · exact fun i hi => mem_of hpt (by revert i; decide))
    | (with_reducible apply within_cons; · exact mem_of hpt (by dsimp only [Upd.part]; decide))
    | with_reducible apply within_append
    | (with_reducible apply within_map; intros; exact mem_of hpt (by dsimp only [Upd.part]; decide))
    | (with_reducible apply within_flatMap; intro _ _)

theorem only_coreReset {pt : List Part} (hpt : [.cores, .fld .CORE_MOULD, .fld .CORE_SC, .fld .CORE_SEQ, .fld .CORE_STAT, .fld .ME_STAT,
    .fld .QUEUE_BASE, .fld .QUEUE_CTL, .fld .QUEUE_DB, .fld .QUEUE_LEVEL, .fld .QUEUE_STAT, .fld .QUEUE_WM, .fld .SE_STAT, .fld .SPR_STAT,
    .fld .VU_STAT, .mes, .queues, .ses, .vus] ⊆ pt) (p : Nat) : Eff.Only pt (coreReset p) := by
  unfold coreReset
  repeat first
    | with_reducible exact only_nop _
    | with_reducible exact only_seq_nil _
    | with_reducible apply only_seq_cons
    | (with_reducible apply only_rd; intro)
    | (with_reducible apply only_fset; exact mem_of hpt (by decide))
    | (with_reducible apply only_coreStop; exact List.Subset.trans (by decide) hpt)
    | (with_reducible apply only_coreUnload; exact List.Subset.trans (by decide) hpt)
    | (with_reducible apply only_queuesZero; exact List.Subset.trans (by decide) hpt)
    | split
    | dsimp only

theorem only_coreZero {pt : List Part} (hpt : [.cores, .fld .CORE_MOULD, .fld .CORE_SC, .fld .CORE_SEQ, .fld .CORE_STAT, .fld .ME_STAT,
    .fld .QUEUE_BASE, .fld .QUEUE_CTL, .fld .QUEUE_DB, .fld .QUEUE_LEVEL, .fld .QUEUE_STAT, .fld .QUEUE_WM, .fld .SE_STAT, .fld .SPD_ELASTIC,
    .fld .SPD_STAT, .fld .SPR_STAT, .fld .VU_STAT, .mes, .queues, .ses, .vus] ⊆ pt) (p : Nat) (owner : Option (Nat × Nat)) : Eff.Only pt (coreZero p
    owner) := by
  unfold coreZero
  repeat first
    | with_reducible exact only_seq_nil _
    | with_reducible apply only_seq_cons
    | (with_reducible apply only_fset; exact mem_of hpt (by decide))
    | (with_reducible apply only_onCore; exact mem_of hpt (by decide))
    | (with_reducible apply only_coreReset; exact List.Subset.trans (by decide) hpt)
    | split
    | dsimp only

theorem only_ldlArrive {pt : List Part} (hpt : [.cores, .fld .SPD_ELASTIC, .msgs, .ports, .spd, .spdPoison] ⊆ pt) (j : LdlJob) : Eff.Only pt
    (ldlArrive j) := by
  unfold ldlArrive
  repeat first
    | with_reducible exact only_nop _
    | (with_reducible apply only_rd; intro)
    | (with_reducible apply only_when; intro)
    | (with_reducible apply only_arriveAfter; exact List.Subset.trans (by decide) hpt)
    | (with_reducible apply only_sendMod; exact List.Subset.trans (by decide) hpt)
    | split
    | dsimp only

theorem only_onCtx {pt : List Part} (hpt : [.ldls] ⊆ pt) (e : Nat) (n : Nat) (f : CtxSt → CtxSt) : Eff.Only pt (onCtx e n f) := by
  unfold onCtx
  repeat first
    | (with_reducible apply only_onLdl; exact mem_of hpt (by decide))

theorem only_trackersClose {pt : List Part} (hpt : [.caches] ⊆ pt) (e : Nat) (n : Nat) : Eff.Only pt (trackersClose e n) := by
  unfold trackersClose
  repeat first
    | (with_reducible apply only_rd; intro)
    | (with_reducible apply only_when; intro)
    | (with_reducible apply only_each; intro _ _)
    | (with_reducible apply only_onCache; exact mem_of hpt (by decide))
    | with_reducible intro _

theorem only_ctxEnd {pt : List Part} (hpt : [.caches, .cores, .ev, .fld .LDL_CTXW_n, .fld .LDL_CTX_n, .fld .LDL_ERR, .fld .LDL_STAT,
    .fld .SPD_ELASTIC, .ldls, .msgs, .ports, .spd, .spdPoison] ⊆ pt) (e : Nat) (n : Nat) (status : Nat) (exact : Nat) (cause : Nat) : Eff.Only pt
    (ctxEnd e n status exact cause) := by
  unfold ctxEnd
  repeat first
    | with_reducible exact only_nop _
    | with_reducible exact only_seq_nil _
    | with_reducible apply only_seq_cons
    | (with_reducible apply only_rd; intro)
    | (with_reducible apply only_when; intro)
    | (with_reducible apply only_fset; exact mem_of hpt (by decide))
    | (with_reducible apply only_raise; exact mem_of hpt (by decide))
    | (with_reducible apply only_ldlArrive; exact List.Subset.trans (by decide) hpt)
    | (with_reducible apply only_onCtx; exact List.Subset.trans (by decide) hpt)
    | (with_reducible apply only_trackersClose; exact List.Subset.trans (by decide) hpt)
    | split
    | dsimp only

theorem only_ctxCapture {pt : List Part} (hpt : [.caches, .cores, .ev, .fld .LDL_CTXW_n, .fld .LDL_CTX_n, .fld .LDL_ERR, .fld .LDL_STAT,
    .fld .SPD_ELASTIC, .ldls, .msgs, .ports, .spd, .spdPoison] ⊆ pt) (e : Nat) (n : Nat) (exact : Nat) : Eff.Only pt (ctxCapture e n exact) := by
  unfold ctxCapture
  repeat first
    | (with_reducible apply only_rd; intro)
    | (with_reducible apply only_ctxEnd; exact List.Subset.trans (by decide) hpt)
    | split
    | dsimp only

theorem only_dirtyLost {pt : List Part} (hpt : [.dram, .freeCtr] ⊆ pt) : Eff.Only pt (dirtyLost ) := by
  unfold dirtyLost
  repeat first
    | (with_reducible apply only_rd; intro)
    | (with_reducible apply only_each; intro _ _)
    | (with_reducible apply only_draw; · exact mem_of hpt (by decide))
    | with_reducible intro _
    | with_reducible apply only_updates
    | with_reducible exact within_nil _
    | (with_reducible apply within_cons; · exact mem_of hpt (by dsimp only [Upd.part]; decide))
    | with_reducible apply within_append
    | (with_reducible apply within_map; intros; exact mem_of hpt (by dsimp only [Upd.part]; decide))
    | (with_reducible apply within_flatMap; intro _ _)
    | dsimp only

theorem only_compatPut {pt : List Part} (hpt : [.fld .CORE_STAT, .fld .MOD_GRID_STAT] ⊆ pt) (base : Option Nat) : Eff.Only pt (compatPut base) := by
  unfold compatPut
  repeat first
    | with_reducible exact only_seq_nil _
    | with_reducible apply only_seq_cons
    | (with_reducible apply only_rd; intro)
    | (with_reducible apply only_fset; exact mem_of hpt (by decide))
    | (with_reducible apply only_fput; exact mem_of hpt (by decide))
    | with_reducible apply only_updates
    | with_reducible exact within_nil _
    | (with_reducible apply within_cons; · exact mem_of hpt (by dsimp only [Upd.part]; decide))
    | with_reducible apply within_append
    | (with_reducible apply within_map; intros; exact mem_of hpt (by dsimp only [Upd.part]; decide))
    | (with_reducible apply within_flatMap; intro _ _)
    | split
    | dsimp only

theorem only_compatEnd {pt : List Part} (hpt : [.fld .CORE_STAT, .fld .MOD_GRID_STAT] ⊆ pt) (f : Nat) : Eff.Only pt (compatEnd f) := by
  unfold compatEnd
  repeat first
    | (with_reducible apply only_rd; intro)
    | (with_reducible apply only_when; intro)
    | (with_reducible apply only_compatPut; exact List.Subset.trans (by decide) hpt)

theorem only_failFlaskSlots {pt : List Part} (hpt : [.fld .MOD_MB_SUMMARY, .hostOut, .hports, .slots] ⊆ pt) (f : Nat) (cmds : List Nat) (status :
    Nat) : Eff.Only pt (failFlaskSlots f cmds status) := by
  unfold failFlaskSlots
  repeat first
    | (with_reducible apply only_rd; intro)
    | (with_reducible apply only_each; intro _ _)
    | (with_reducible apply only_mbFail; exact List.Subset.trans (by decide) hpt)
    | with_reducible intro _

theorem only_armedBit {pt : List Part} (hpt : [.fld .DBG_HOLD] ⊆ pt) (f : Nat) : Eff.Only pt (armedBit f) := by
  unfold armedBit
  repeat first
    | (with_reducible apply only_rd; intro)
    | (with_reducible apply only_fbit; exact mem_of hpt (by decide))

theorem only_holdEnd {pt : List Part} (hpt : [.dbg, .fld .DBG_HOLD] ⊆ pt) (f : Nat) : Eff.Only pt (holdEnd f) := by
  unfold holdEnd
  repeat first
    | with_reducible exact only_seq_nil _
    | with_reducible apply only_seq_cons
    | (with_reducible apply only_rd; intro)
    | (with_reducible apply only_fbit; exact mem_of hpt (by decide))
    | (with_reducible apply only_armedBit; exact List.Subset.trans (by decide) hpt)
    | with_reducible apply only_updates
    | with_reducible exact within_nil _
    | (with_reducible apply within_cons; · exact mem_of hpt (by dsimp only [Upd.part]; decide))
    | with_reducible apply within_append
    | (with_reducible apply within_map; intros; exact mem_of hpt (by dsimp only [Upd.part]; decide))
    | (with_reducible apply within_flatMap; intro _ _)
    | split

theorem only_ldlAbortIf {pt : List Part} (hpt : [.fld .LDL_CTX_n, .ldls] ⊆ pt) (cause : Nat) (pick : LdlJob → Bool) (chans : Bool) (e : Nat) :
    Eff.Only pt (ldlAbortIf cause pick chans e) := by
  unfold ldlAbortIf
  repeat first
    | with_reducible exact only_seq_nil _
    | with_reducible apply only_seq_cons
    | (with_reducible apply only_rd; intro)
    | (with_reducible apply only_each; intro _ _)
    | (with_reducible apply only_fset; exact mem_of hpt (by decide))
    | with_reducible intro _
    | with_reducible apply only_updates
    | with_reducible exact within_nil _
    | (with_reducible apply within_cons; · exact mem_of hpt (by dsimp only [Upd.part]; decide))
    | with_reducible apply within_append
    | (with_reducible apply within_map; intros; exact mem_of hpt (by dsimp only [Upd.part]; decide))
    | (with_reducible apply within_flatMap; intro _ _)
    | split
    | dsimp only

theorem only_ldlAbort {pt : List Part} (hpt : [.fld .LDL_CTX_n, .ldls] ⊆ pt) (cause : Nat) (pick : LdlJob → Bool) (chans : Bool) : Eff.Only pt
    (ldlAbort cause pick chans) := by
  unfold ldlAbort
  repeat first
    | (with_reducible apply only_rd; intro)
    | (with_reducible apply only_each; intro _ _)
    | (with_reducible apply only_ldlAbortIf; exact List.Subset.trans (by decide) hpt)
    | with_reducible intro _

theorem only_flaskReset {pt : List Part} (hpt : [.cores, .dbg, .flasks, .fld .CORE_MOULD, .fld .CORE_SC, .fld .CORE_SEQ, .fld .CORE_STAT,
    .fld .DBG_HOLD, .fld .LDL_CTX_n, .fld .ME_STAT, .fld .MOD_GRID_STAT, .fld .MOD_MB_SUMMARY, .fld .QUEUE_BASE, .fld .QUEUE_CTL, .fld .QUEUE_DB,
    .fld .QUEUE_LEVEL, .fld .QUEUE_STAT, .fld .QUEUE_WM, .fld .SE_STAT, .fld .SPR_STAT, .fld .VU_STAT, .hostOut, .hports, .ldls, .mes, .queues,
    .ses, .slots, .vus] ⊆ pt) (f : Nat) : Eff.Only pt (flaskReset f) := by
  unfold flaskReset
  repeat first
    | with_reducible exact only_seq_nil _
    | with_reducible apply only_seq_cons
    | (with_reducible apply only_rd; intro)
    | (with_reducible apply only_each; intro _ _)
    | (with_reducible apply only_onFlask; exact mem_of hpt (by decide))
    | (with_reducible apply only_compatEnd; exact List.Subset.trans (by decide) hpt)
    | (with_reducible apply only_coreReset; exact List.Subset.trans (by decide) hpt)
    | (with_reducible apply only_failFlaskSlots; exact List.Subset.trans (by decide) hpt)
    | (with_reducible apply only_holdEnd; exact List.Subset.trans (by decide) hpt)
    | (with_reducible apply only_ldlAbort; exact List.Subset.trans (by decide) hpt)
    | with_reducible intro _

theorem only_pendingFlag {pt : List Part} (hpt : [.fld .MOD_FAULT_STAT] ⊆ pt) : Eff.Only pt (pendingFlag ) := by
  unfold pendingFlag
  repeat first
    | (with_reducible apply only_rd; intro)
    | (with_reducible apply only_fput; exact mem_of hpt (by decide))

theorem only_fenceBeacon {pt : List Part} (hpt : [.faults, .fld .MOD_FAULT_STAT, .msgs] ⊆ pt) (unit : Nat) (core : Nat) (cluster : Nat) (code : Nat)
    (flask : Nat) (reason : Nat) : Eff.Only pt (fenceBeacon unit core cluster code flask reason) := by
  unfold fenceBeacon
  repeat first
    | with_reducible exact only_seq_nil _
    | with_reducible apply only_seq_cons
    | (with_reducible apply only_rd; intro)
    | (with_reducible apply only_when; intro)
    | (with_reducible apply only_fadd; exact mem_of hpt (by decide))
    | (with_reducible apply only_send; exact mem_of hpt (by decide))
    | with_reducible apply only_updates
    | with_reducible exact within_nil _
    | (with_reducible apply within_cons; · exact mem_of hpt (by dsimp only [Upd.part]; decide))
    | with_reducible apply within_append
    | (with_reducible apply within_map; intros; exact mem_of hpt (by dsimp only [Upd.part]; decide))
    | (with_reducible apply within_flatMap; intro _ _)

theorem only_coreBeacon {pt : List Part} (hpt : [.faults, .fld .MOD_FAULT_STAT, .msgs] ⊆ pt) (p : Nat) (unit : Nat) (code : Nat) (reason : Nat) :
    Eff.Only pt (coreBeacon p unit code reason) := by
  unfold coreBeacon
  repeat first
    | with_reducible exact only_nop _
    | (with_reducible apply only_rd; intro)
    | (with_reducible apply only_when; intro)
    | (with_reducible apply only_fenceBeacon; exact List.Subset.trans (by decide) hpt)
    | split
    | dsimp only

theorem only_raiseFenced {pt : List Part} (hpt : [.ev] ⊆ pt) (kind : Nat) (reason : Nat) (loc : Nat) : Eff.Only pt (raiseFenced kind reason loc) := by
  unfold raiseFenced
  repeat first
    | (with_reducible apply only_rd; intro)
    | (with_reducible apply only_raise; exact mem_of hpt (by decide))

theorem only_bypass {pt : List Part} (hpt : [.ev, .faults, .fld .ME_CAP, .fld .MOD_FAULT_STAT, .msgs, .slag] ⊆ pt) (loc : Nat) (reason : Nat) :
    Eff.Only pt (bypass loc reason) := by
  unfold bypass
  repeat first
    | with_reducible exact only_seq_nil _
    | with_reducible apply only_seq_cons
    | (with_reducible apply only_fset; exact mem_of hpt (by decide))
    | (with_reducible apply only_coreBeacon; exact List.Subset.trans (by decide) hpt)
    | (with_reducible apply only_raiseFenced; exact List.Subset.trans (by decide) hpt)
    | (with_reducible apply only_slagRecord; exact List.Subset.trans (by decide) hpt)
    | split
    | dsimp only

theorem only_drainEnd {pt : List Part} (hpt : [.cores, .dbg, .flasks, .fld .CORE_MOULD, .fld .CORE_SC, .fld .CORE_SEQ, .fld .CORE_STAT,
    .fld .DBG_HOLD, .fld .LDL_CTX_n, .fld .ME_STAT, .fld .MOD_GRID_STAT, .fld .MOD_MB_SUMMARY, .fld .QUEUE_BASE, .fld .QUEUE_CTL, .fld .QUEUE_DB,
    .fld .QUEUE_LEVEL, .fld .QUEUE_STAT, .fld .QUEUE_WM, .fld .SE_STAT, .fld .SPR_STAT, .fld .VU_STAT, .hostOut, .hports, .ldls, .mes, .queues,
    .ses, .slots, .vus] ⊆ pt) (f : Nat) : Eff.Only pt (drainEnd f) := by
  unfold drainEnd
  repeat first
    | with_reducible exact only_seq_nil _
    | with_reducible apply only_seq_cons
    | (with_reducible apply only_flaskReset; exact List.Subset.trans (by decide) hpt)
    | (with_reducible apply only_ldlAbort; exact List.Subset.trans (by decide) hpt)

theorem only_reown {pt : List Part} (hpt : [.cores, .flasks, .fld .CORE_MOULD, .fld .CORE_SC, .fld .CORE_SEQ, .fld .CORE_STAT, .fld .ME_STAT,
    .fld .QUEUE_BASE, .fld .QUEUE_CTL, .fld .QUEUE_DB, .fld .QUEUE_LEVEL, .fld .QUEUE_STAT, .fld .QUEUE_WM, .fld .SE_STAT, .fld .SPD_ELASTIC,
    .fld .SPD_STAT, .fld .SPR_STAT, .fld .VU_STAT, .mes, .queues, .ses, .vus] ⊆ pt) (fs : List Nat) : Eff.Only pt (reown fs) := by
  unfold reown
  repeat first
    | with_reducible exact only_seq_nil _
    | with_reducible apply only_seq_cons
    | (with_reducible apply only_rd; intro)
    | (with_reducible apply only_when; intro)
    | (with_reducible apply only_each; intro _ _)
    | (with_reducible apply only_onFlask; exact mem_of hpt (by decide))
    | (with_reducible apply only_coreZero; exact List.Subset.trans (by decide) hpt)
    | with_reducible intro _
    | split
    | dsimp only

theorem only_fenceCore {pt : List Part} (hpt : [.cores, .dbg, .ev, .faults, .flasks, .fld .CLU_CORES, .fld .CORE_MOULD, .fld .CORE_SC,
    .fld .CORE_SEQ, .fld .CORE_STAT, .fld .DBG_HOLD, .fld .LDL_CTX_n, .fld .ME_STAT, .fld .MOD_BOOT_ERR, .fld .MOD_FAULT_STAT, .fld .MOD_GRID_STAT,
    .fld .MOD_MB_SUMMARY, .fld .MOD_ROW_MAP_r, .fld .QUEUE_BASE, .fld .QUEUE_CTL, .fld .QUEUE_DB, .fld .QUEUE_LEVEL, .fld .QUEUE_STAT,
    .fld .QUEUE_WM, .fld .SE_STAT, .fld .SPD_ELASTIC, .fld .SPD_STAT, .fld .SPR_STAT, .fld .VU_STAT, .hostOut, .hports, .ldls, .mes, .msgs, .queues,
    .ses, .slag, .slots, .vus] ⊆ pt) (p : Nat) (reason : Nat) (agentBad : List Nat) : Eff.Only pt (fenceCore p reason agentBad) := by
  unfold fenceCore
  repeat first
    | with_reducible exact only_seq_nil _
    | with_reducible apply only_seq_cons
    | (with_reducible apply only_rd; intro)
    | (with_reducible apply only_when; intro)
    | (with_reducible apply only_each; intro _ _)
    | (with_reducible apply only_fset; exact mem_of hpt (by decide))
    | (with_reducible apply only_raise; exact mem_of hpt (by decide))
    | (with_reducible apply only_applyGrid; exact List.Subset.trans (by decide) hpt)
    | (with_reducible apply only_drainEnd; exact List.Subset.trans (by decide) hpt)
    | (with_reducible apply only_fenceBeacon; exact List.Subset.trans (by decide) hpt)
    | (with_reducible apply only_raiseExhausted; exact List.Subset.trans (by decide) hpt)
    | (with_reducible apply only_raiseFenced; exact List.Subset.trans (by decide) hpt)
    | (with_reducible apply only_reown; exact List.Subset.trans (by decide) hpt)
    | (with_reducible apply only_slagRecord; exact List.Subset.trans (by decide) hpt)
    | with_reducible intro _
    | dsimp only

theorem only_raiseSubstituted {pt : List Part} (hpt : [.ev] ⊆ pt) (kind : Nat) (reason : Nat) (loc : Nat) (spare : Nat) : Eff.Only pt
    (raiseSubstituted kind reason loc spare) := by
  unfold raiseSubstituted
  repeat first
    | (with_reducible apply only_raise; exact mem_of hpt (by decide))

theorem only_groupSub {pt : List Part} (hpt : [.ev, .faults, .fld .MOD_FAULT_STAT, .msgs, .seam, .slag] ⊆ pt) (seg : Nat) (g : Nat) : Eff.Only pt
    (groupSub seg g) := by
  unfold groupSub
  repeat first
    | with_reducible exact only_nop _
    | with_reducible exact only_seq_nil _
    | with_reducible apply only_seq_cons
    | (with_reducible apply only_rd; intro)
    | (with_reducible apply only_when; intro)
    | (with_reducible apply only_each; intro _ _)
    | (with_reducible apply only_fenceBeacon; exact List.Subset.trans (by decide) hpt)
    | (with_reducible apply only_raiseExhausted; exact List.Subset.trans (by decide) hpt)
    | (with_reducible apply only_raiseSubstituted; exact List.Subset.trans (by decide) hpt)
    | (with_reducible apply only_slagRecord; exact List.Subset.trans (by decide) hpt)
    | with_reducible intro _
    | with_reducible apply only_updates
    | with_reducible exact within_nil _
    | (with_reducible apply within_cons; · exact mem_of hpt (by dsimp only [Upd.part]; decide))
    | with_reducible apply within_append
    | (with_reducible apply within_map; intros; exact mem_of hpt (by dsimp only [Upd.part]; decide))
    | (with_reducible apply within_flatMap; intro _ _)
    | split
    | dsimp only

theorem only_faultHaltFrom {pt : List Part} (hpt : [.flasks] ⊆ pt) (f : Nat) (cause : Nat) (t : Nat) : Eff.Only pt (faultHaltFrom f cause t) := by
  unfold faultHaltFrom
  repeat first
    | (with_reducible apply only_rd; intro)
    | (with_reducible apply only_when; intro)
    | (with_reducible apply only_onFlask; exact mem_of hpt (by decide))

theorem only_faultHaltAtFrame {pt : List Part} (hpt : [.flasks] ⊆ pt) (f : Nat) (cause : Nat) : Eff.Only pt (faultHaltAtFrame f cause) := by
  unfold faultHaltAtFrame
  repeat first
    | (with_reducible apply only_faultHaltFrom; exact List.Subset.trans (by decide) hpt)

theorem only_leaveUp {pt : List Part} (hpt : [.ev, .faults, .flasks, .fld .MOD_FAULT_STAT, .fld .MOD_MB_SUMMARY, .fld .RUN_ERR, .fld .RUN_STAT,
    .hostOut, .hports, .msgs, .ports, .slots] ⊆ pt) (n : Nat) : Eff.Only pt (leaveUp n) := by
  unfold leaveUp
  repeat first
    | with_reducible exact only_seq_nil _
    | with_reducible apply only_seq_cons
    | (with_reducible apply only_rd; intro)
    | (with_reducible apply only_when; intro)
    | (with_reducible apply only_each; intro _ _)
    | (with_reducible apply only_fset; exact mem_of hpt (by decide))
    | (with_reducible apply only_raise; exact mem_of hpt (by decide))
    | (with_reducible apply only_onPort; exact mem_of hpt (by decide))
    | (with_reducible apply only_faultHaltAtFrame; exact List.Subset.trans (by decide) hpt)
    | (with_reducible apply only_fenceBeacon; exact List.Subset.trans (by decide) hpt)
    | (with_reducible apply only_portTo; exact List.Subset.trans (by decide) hpt)
    | with_reducible intro _
    | dsimp only

theorem only_laneFail {pt : List Part} (hpt : [.ev, .faults, .flasks, .fld .MOD_FAULT_STAT, .fld .MOD_MB_SUMMARY, .fld .RUN_ERR, .fld .RUN_STAT,
    .hostOut, .hports, .msgs, .ports, .slots] ⊆ pt) (n : Nat) (l : Nat) (reason : Nat) : Eff.Only pt (laneFail n l reason) := by
  unfold laneFail
  repeat first
    | with_reducible exact only_seq_nil _
    | with_reducible apply only_seq_cons
    | (with_reducible apply only_rd; intro)
    | with_reducible apply only_either
    | (with_reducible apply only_send; exact mem_of hpt (by decide))
    | (with_reducible apply only_onPort; exact mem_of hpt (by decide))
    | (with_reducible apply only_leaveUp; exact List.Subset.trans (by decide) hpt)
    | split
    | dsimp only

theorem only_spareRamp {pt : List Part} (hpt : [.ev, .fld .MOD_MB_SUMMARY, .fld .PWR_TILE_t, .hostOut, .hports, .power, .slots] ⊆ pt) (failed : Nat)
    (c : Nat) (reason : Nat) (slot : Option Nat) : Eff.Only pt (spareRamp failed c reason slot) := by
  unfold spareRamp
  repeat first
    | with_reducible exact only_nop _
    | with_reducible exact only_seq_nil _
    | with_reducible apply only_seq_cons
    | (with_reducible apply only_rd; intro)
    | (with_reducible apply only_fset; exact mem_of hpt (by decide))
    | (with_reducible apply only_mbFail; exact List.Subset.trans (by decide) hpt)
    | (with_reducible apply only_raiseExhausted; exact List.Subset.trans (by decide) hpt)
    | with_reducible apply only_updates
    | with_reducible exact within_nil _
    | (with_reducible apply within_cons; · exact mem_of hpt (by dsimp only [Upd.part]; decide))
    | with_reducible apply within_append
    | (with_reducible apply within_map; intros; exact mem_of hpt (by dsimp only [Upd.part]; decide))
    | (with_reducible apply within_flatMap; intro _ _)
    | split
    | dsimp only

theorem only_substituteRow {pt : List Part} (hpt : [.cores, .dbg, .ev, .faults, .flasks, .fld .CLU_CORES, .fld .CORE_MOULD, .fld .CORE_SC,
    .fld .CORE_SEQ, .fld .CORE_STAT, .fld .DBG_HOLD, .fld .LDL_CTX_n, .fld .ME_STAT, .fld .MOD_BOOT_ERR, .fld .MOD_FAULT_STAT, .fld .MOD_GRID_STAT,
    .fld .MOD_MB_SUMMARY, .fld .MOD_ROW_MAP_r, .fld .QUEUE_BASE, .fld .QUEUE_CTL, .fld .QUEUE_DB, .fld .QUEUE_LEVEL, .fld .QUEUE_STAT,
    .fld .QUEUE_WM, .fld .SE_STAT, .fld .SPD_ELASTIC, .fld .SPD_STAT, .fld .SPR_STAT, .fld .VU_STAT, .hostOut, .hports, .ldls, .mes, .msgs, .queues,
    .ses, .slag, .slots, .vus] ⊆ pt) (p : Nat) (bank : Nat) (row : Nat) (reason : Nat) : Eff.Only pt (substituteRow p bank row reason) := by
  unfold substituteRow
  repeat first
    | with_reducible exact only_seq_nil _
    | with_reducible apply only_seq_cons
    | (with_reducible apply only_rd; intro)
    | (with_reducible apply only_when; intro)
    | (with_reducible apply only_onCore; exact mem_of hpt (by decide))
    | (with_reducible apply only_coreBeacon; exact List.Subset.trans (by decide) hpt)
    | (with_reducible apply only_fenceCore; exact List.Subset.trans (by decide) hpt)
    | (with_reducible apply only_raiseExhausted; exact List.Subset.trans (by decide) hpt)
    | (with_reducible apply only_raiseSubstituted; exact List.Subset.trans (by decide) hpt)
    | (with_reducible apply only_slagRecord; exact List.Subset.trans (by decide) hpt)
    | (with_reducible apply only_spareMin; exact List.Subset.trans (by decide) hpt)
    | split
    | dsimp only

theorem only_tileOut {pt : List Part} (hpt : [.cores, .dbg, .ev, .faults, .flasks, .fld .CLU_CORES, .fld .CORE_MOULD, .fld .CORE_SC, .fld .CORE_SEQ,
    .fld .CORE_STAT, .fld .DBG_HOLD, .fld .LDL_CTX_n, .fld .ME_STAT, .fld .MOD_BOOT_ERR, .fld .MOD_FAULT_STAT, .fld .MOD_GRID_STAT,
    .fld .MOD_MB_SUMMARY, .fld .MOD_ROW_MAP_r, .fld .PWR_CLUSTER_c, .fld .PWR_TILE_t, .fld .QUEUE_BASE, .fld .QUEUE_CTL, .fld .QUEUE_DB,
    .fld .QUEUE_LEVEL, .fld .QUEUE_STAT, .fld .QUEUE_WM, .fld .SE_STAT, .fld .SPD_ELASTIC, .fld .SPD_STAT, .fld .SPR_STAT, .fld .VU_STAT, .hostOut,
    .hports, .ldls, .mes, .msgs, .queues, .ses, .slag, .slots, .vus] ⊆ pt) (t : Nat) : Eff.Only pt (tileOut t) := by
  unfold tileOut
  repeat first
    | with_reducible exact only_seq_nil _
    | with_reducible apply only_seq_cons
    | (with_reducible apply only_rd; intro)
    | (with_reducible apply only_when; intro)
    | (with_reducible apply only_each; intro _ _)
    | (with_reducible apply only_fset; exact mem_of hpt (by decide))
    | (with_reducible apply only_fenceCore; exact List.Subset.trans (by decide) hpt)
    | with_reducible intro _
    | dsimp only

theorem only_repairDo {pt : List Part} (hpt : [.cores, .dbg, .ev, .faults, .flasks, .fld .CLU_CORES, .fld .CORE_MOULD, .fld .CORE_SC,
    .fld .CORE_SEQ, .fld .CORE_STAT, .fld .DBG_HOLD, .fld .LDL_CTX_n, .fld .ME_CAP, .fld .ME_STAT, .fld .MOD_BOOT_ERR, .fld .MOD_FAULT_STAT,
    .fld .MOD_GRID_STAT, .fld .MOD_MB_SUMMARY, .fld .MOD_ROW_MAP_r, .fld .PWR_CLUSTER_c, .fld .PWR_TILE_t, .fld .QUEUE_BASE, .fld .QUEUE_CTL,
    .fld .QUEUE_DB, .fld .QUEUE_LEVEL, .fld .QUEUE_STAT, .fld .QUEUE_WM, .fld .RUN_ERR, .fld .RUN_STAT, .fld .SE_STAT, .fld .SPD_ELASTIC,
    .fld .SPD_STAT, .fld .SPR_STAT, .fld .VU_STAT, .hostOut, .hports, .ldls, .mes, .msgs, .ports, .power, .queues, .seam, .ses, .slag, .slots, .vus]
    ⊆ pt) (kind : Nat) (loc : Nat) (reason : Nat) : Eff.Only pt (repairDo kind loc reason) := by
  unfold repairDo
  repeat first
    | with_reducible exact only_nop _
    | with_reducible exact only_seq_nil _
    | with_reducible apply only_seq_cons
    | (with_reducible apply only_rd; intro)
    | (with_reducible apply only_bypass; exact List.Subset.trans (by decide) hpt)
    | (with_reducible apply only_fenceCore; exact List.Subset.trans (by decide) hpt)
    | (with_reducible apply only_groupSub; exact List.Subset.trans (by decide) hpt)
    | (with_reducible apply only_laneFail; exact List.Subset.trans (by decide) hpt)
    | (with_reducible apply only_spareRamp; exact List.Subset.trans (by decide) hpt)
    | (with_reducible apply only_substituteRow; exact List.Subset.trans (by decide) hpt)
    | (with_reducible apply only_tileOut; exact List.Subset.trans (by decide) hpt)
    | split
    | dsimp only

theorem only_pendingDo {pt : List Part} (hpt : [.cores, .dbg, .ev, .faults, .flasks, .fld .CLU_CORES, .fld .CORE_MOULD, .fld .CORE_SC,
    .fld .CORE_SEQ, .fld .CORE_STAT, .fld .DBG_HOLD, .fld .LDL_CTX_n, .fld .ME_CAP, .fld .ME_STAT, .fld .MOD_BOOT_ERR, .fld .MOD_FAULT_STAT,
    .fld .MOD_GRID_STAT, .fld .MOD_MB_SUMMARY, .fld .MOD_ROW_MAP_r, .fld .PWR_CLUSTER_c, .fld .PWR_TILE_t, .fld .QUEUE_BASE, .fld .QUEUE_CTL,
    .fld .QUEUE_DB, .fld .QUEUE_LEVEL, .fld .QUEUE_STAT, .fld .QUEUE_WM, .fld .RUN_ERR, .fld .RUN_STAT, .fld .SE_STAT, .fld .SPD_ELASTIC,
    .fld .SPD_STAT, .fld .SPR_STAT, .fld .VU_STAT, .hostOut, .hports, .ldls, .mes, .msgs, .ports, .power, .queues, .seam, .ses, .slag, .slots, .vus]
    ⊆ pt) (x : Nat × Nat × Nat) : Eff.Only pt (pendingDo x) := by
  unfold pendingDo
  repeat first
    | with_reducible exact only_seq_nil _
    | with_reducible apply only_seq_cons
    | (with_reducible apply only_rd; intro)
    | (with_reducible apply only_pendingFlag; exact List.Subset.trans (by decide) hpt)
    | (with_reducible apply only_repairDo; exact List.Subset.trans (by decide) hpt)
    | with_reducible apply only_updates
    | with_reducible exact within_nil _
    | (with_reducible apply within_cons; · exact mem_of hpt (by dsimp only [Upd.part]; decide))
    | with_reducible apply within_append
    | (with_reducible apply within_map; intros; exact mem_of hpt (by dsimp only [Upd.part]; decide))
    | (with_reducible apply within_flatMap; intro _ _)

theorem only_pendingAll {pt : List Part} (hpt : [.cores, .dbg, .ev, .faults, .flasks, .fld .CLU_CORES, .fld .CORE_MOULD, .fld .CORE_SC,
    .fld .CORE_SEQ, .fld .CORE_STAT, .fld .DBG_HOLD, .fld .LDL_CTX_n, .fld .ME_CAP, .fld .ME_STAT, .fld .MOD_BOOT_ERR, .fld .MOD_FAULT_STAT,
    .fld .MOD_GRID_STAT, .fld .MOD_MB_SUMMARY, .fld .MOD_ROW_MAP_r, .fld .PWR_CLUSTER_c, .fld .PWR_TILE_t, .fld .QUEUE_BASE, .fld .QUEUE_CTL,
    .fld .QUEUE_DB, .fld .QUEUE_LEVEL, .fld .QUEUE_STAT, .fld .QUEUE_WM, .fld .RUN_ERR, .fld .RUN_STAT, .fld .SE_STAT, .fld .SPD_ELASTIC,
    .fld .SPD_STAT, .fld .SPR_STAT, .fld .VU_STAT, .hostOut, .hports, .ldls, .mes, .msgs, .ports, .power, .queues, .seam, .ses, .slag, .slots, .vus]
    ⊆ pt) : Eff.Only pt (pendingAll ) := by
  unfold pendingAll
  repeat first
    | (with_reducible apply only_rd; intro)
    | (with_reducible apply only_each; intro _ _)
    | (with_reducible apply only_pendingDo; exact List.Subset.trans (by decide) hpt)
    | with_reducible intro _

theorem only_readyAgain {pt : List Part} (hpt : [.pour] ⊆ pt) : Eff.Only pt (readyAgain ) := by
  unfold readyAgain
  repeat first
    | (with_reducible apply only_rd; intro)
    | with_reducible apply only_updates
    | with_reducible exact within_nil _
    | (with_reducible apply within_cons; · exact mem_of hpt (by dsimp only [Upd.part]; decide))
    | with_reducible apply within_append
    | (with_reducible apply within_map; intros; exact mem_of hpt (by dsimp only [Upd.part]; decide))
    | (with_reducible apply within_flatMap; intro _ _)

theorem only_cacheDiscard {pt : List Part} (hpt : [.caches] ⊆ pt) (lo : Nat) (hi : Nat) : Eff.Only pt (cacheDiscard lo hi) := by
  unfold cacheDiscard
  repeat first
    | (with_reducible apply only_rd; intro)
    | (with_reducible apply only_each; intro _ _)
    | with_reducible intro _
    | with_reducible apply only_updates
    | with_reducible exact within_nil _
    | (with_reducible apply within_cons; · exact mem_of hpt (by dsimp only [Upd.part]; decide))
    | with_reducible apply within_append
    | (with_reducible apply within_map; intros; exact mem_of hpt (by dsimp only [Upd.part]; decide))
    | (with_reducible apply within_flatMap; intro _ _)

theorem only_regionOpen {pt : List Part} (hpt : [.caches, .dram, .dramPoison, .dramWritten] ⊆ pt) (base : Nat) (gib : Nat) : Eff.Only pt (regionOpen
    base gib) := by
  unfold regionOpen
  repeat first
    | with_reducible exact only_seq_nil _
    | with_reducible apply only_seq_cons
    | (with_reducible apply only_cacheDiscard; exact List.Subset.trans (by decide) hpt)
    | with_reducible apply only_updates
    | with_reducible exact within_nil _
    | (with_reducible apply within_cons; · exact mem_of hpt (by dsimp only [Upd.part]; decide))
    | with_reducible apply within_append
    | (with_reducible apply within_map; intros; exact mem_of hpt (by dsimp only [Upd.part]; decide))
    | (with_reducible apply within_flatMap; intro _ _)
    | dsimp only

theorem only_spdZero {pt : List Part} (hpt : [.spd, .spdPoison] ⊆ pt) (p : Nat) : Eff.Only pt (spdZero p) := by
  unfold spdZero
  repeat first
    | with_reducible apply only_updates
    | with_reducible exact within_nil _
    | (with_reducible apply within_cons; · exact mem_of hpt (by dsimp only [Upd.part]; decide))
    | with_reducible apply within_append
    | (with_reducible apply within_map; intros; exact mem_of hpt (by dsimp only [Upd.part]; decide))
    | (with_reducible apply within_flatMap; intro _ _)

theorem only_weightsEnd {pt : List Part} (hpt : [.fld .SAF_STAT, .saf] ⊆ pt) (f : Nat) : Eff.Only pt (weightsEnd f) := by
  unfold weightsEnd
  repeat first
    | with_reducible exact only_seq_nil _
    | with_reducible apply only_seq_cons
    | (with_reducible apply only_rd; intro)
    | (with_reducible apply only_fbit; exact mem_of hpt (by decide))
    | with_reducible apply only_updates
    | with_reducible exact within_nil _
    | (with_reducible apply within_cons; · exact mem_of hpt (by dsimp only [Upd.part]; decide))
    | with_reducible apply within_append
    | (with_reducible apply within_map; intros; exact mem_of hpt (by dsimp only [Upd.part]; decide))
    | (with_reducible apply within_flatMap; intro _ _)

theorem only_computeStop {pt : List Part} (hpt : [.caches, .cores, .dbg, .dram, .dramPoison, .dramWritten, .ev, .faults, .flasks, .fld .CLU_CORES,
    .fld .CORE_MOULD, .fld .CORE_SC, .fld .CORE_SEQ, .fld .CORE_STAT, .fld .DBG_HOLD, .fld .LDL_CTXW_n, .fld .LDL_CTX_n, .fld .LDL_ERR,
    .fld .LDL_STAT, .fld .ME_CAP, .fld .ME_STAT, .fld .MOD_BOOT_ERR, .fld .MOD_FAULT_STAT, .fld .MOD_GRID_STAT, .fld .MOD_MB_SUMMARY,
    .fld .MOD_ROW_MAP_r, .fld .PWR_CLUSTER_c, .fld .PWR_TILE_t, .fld .QUEUE_BASE, .fld .QUEUE_CTL, .fld .QUEUE_DB, .fld .QUEUE_LEVEL,
    .fld .QUEUE_STAT, .fld .QUEUE_WM, .fld .RUN_ERR, .fld .RUN_STAT, .fld .SAF_STAT, .fld .SE_STAT, .fld .SPD_ELASTIC, .fld .SPD_STAT,
    .fld .SPR_STAT, .fld .VU_STAT, .freeCtr, .hostOut, .hports, .ldls, .mes, .msgs, .ports, .pour, .power, .queues, .saf, .seam, .ses, .slag,
    .slots, .spd, .spdPoison, .vus] ⊆ pt) : Eff.Only pt (computeStop ) := by
  unfold computeStop
  repeat first
    | with_reducible exact only_seq_nil _
    | with_reducible apply only_seq_cons
    | (with_reducible apply only_rd; intro)
    | (with_reducible apply only_when; intro)
    | (with_reducible apply only_each; intro _ _)
    | (with_reducible apply only_fset; exact mem_of hpt (by decide))
    | (with_reducible apply only_onFlask; exact mem_of hpt (by decide))
    | (with_reducible apply only_onPort; exact mem_of hpt (by decide))
    | (with_reducible apply only_coreZero; exact List.Subset.trans (by decide) hpt)
    | (with_reducible apply only_ctxCapture; exact List.Subset.trans (by decide) hpt)
    | (with_reducible apply only_dirtyLost; exact List.Subset.trans (by decide) hpt)
    | (with_reducible apply only_flaskReset; exact List.Subset.trans (by decide) hpt)
    | (with_reducible apply only_ldlAbort; exact List.Subset.trans (by decide) hpt)
    | (with_reducible apply only_mbFail; exact List.Subset.trans (by decide) hpt)
    | (with_reducible apply only_pendingAll; exact List.Subset.trans (by decide) hpt)
    | (with_reducible apply only_readyAgain; exact List.Subset.trans (by decide) hpt)
    | (with_reducible apply only_regionOpen; exact List.Subset.trans (by decide) hpt)
    | (with_reducible apply only_spdZero; exact List.Subset.trans (by decide) hpt)
    | (with_reducible apply only_weightsEnd; exact List.Subset.trans (by decide) hpt)
    | with_reducible intro _
    | with_reducible apply only_updates
    | with_reducible exact within_nil _
    | (with_reducible apply within_cons; · exact mem_of hpt (by dsimp only [Upd.part]; decide))
    | with_reducible apply within_append
    | (with_reducible apply within_map; intros; exact mem_of hpt (by dsimp only [Upd.part]; decide))
    | (with_reducible apply within_flatMap; intro _ _)
    | dsimp only

theorem only_computeReset {pt : List Part} (hpt : [.caches, .cores, .dbg, .dram, .dramPoison, .dramWritten, .ev, .faults, .flasks, .fld .CLK_PSTEP,
    .fld .CLU_CORES, .fld .CORE_MOULD, .fld .CORE_SC, .fld .CORE_SEQ, .fld .CORE_STAT, .fld .DBG_HOLD, .fld .LDL_CTXW_n, .fld .LDL_CTX_n,
    .fld .LDL_ERR, .fld .LDL_STAT, .fld .ME_CAP, .fld .ME_STAT, .fld .MOD_BOOT_ERR, .fld .MOD_FAULT_STAT, .fld .MOD_GRID_STAT, .fld .MOD_MB_SUMMARY,
    .fld .MOD_RESET_STAT, .fld .MOD_ROW_MAP_r, .fld .PST_CORE_PWR_r, .fld .PST_RAMP, .fld .PWR_CLUSTER_c, .fld .PWR_RISER_LEAD, .fld .PWR_TILE_t,
    .fld .QUEUE_BASE, .fld .QUEUE_CTL, .fld .QUEUE_DB, .fld .QUEUE_LEVEL, .fld .QUEUE_STAT, .fld .QUEUE_WM, .fld .RUN_ERR, .fld .RUN_LANE_l,
    .fld .RUN_STAT, .fld .SAF_STAT, .fld .SE_STAT, .fld .SPD_ELASTIC, .fld .SPD_STAT, .fld .SPR_STAT, .fld .VU_STAT, .freeCtr, .hostOut, .hports,
    .ldls, .mes, .msgs, .ports, .pour, .power, .pst, .queues, .saf, .seam, .ses, .slag, .slots, .spd, .spdPoison, .svc, .vus] ⊆ pt) (env : BootEnv)
    : Eff.Only pt (computeReset env) := by
  unfold computeReset
  repeat first
    | with_reducible exact only_seq_nil _
    | with_reducible apply only_seq_cons
    | (with_reducible apply only_rd; intro)
    | (with_reducible apply only_fset; exact mem_of hpt (by decide))
    | (with_reducible apply only_fadd; exact mem_of hpt (by decide))
    | (with_reducible apply only_raise; exact mem_of hpt (by decide))
    | (with_reducible apply only_computeStart; exact List.Subset.trans (by decide) hpt)
    | (with_reducible apply only_computeStop; exact List.Subset.trans (by decide) hpt)
    | dsimp only

theorem only_fwActivate {pt : List Part} (hpt : [.boot, .fld .MOD_FLASH_INFO] ⊆ pt) : Eff.Only pt (fwActivate ) := by
  unfold fwActivate
  repeat first
    | (with_reducible apply only_rd; intro)
    | (with_reducible apply only_dirWrite; exact List.Subset.trans (by decide) hpt)

theorem only_fwStore {pt : List Part} (hpt : [.boot, .fld .MOD_FLASH_INFO] ⊆ pt) (b : List Byte) : Eff.Only pt (fwStore b) := by
  unfold fwStore
  repeat first
    | with_reducible exact only_seq_nil _
    | with_reducible apply only_seq_cons
    | (with_reducible apply only_rd; intro)
    | (with_reducible apply only_dirWrite; exact List.Subset.trans (by decide) hpt)
    | with_reducible apply only_updates
    | with_reducible exact within_nil _
    | (with_reducible apply within_cons; · exact mem_of hpt (by dsimp only [Upd.part]; decide))
    | with_reducible apply within_append
    | (with_reducible apply within_map; intros; exact mem_of hpt (by dsimp only [Upd.part]; decide))
    | (with_reducible apply within_flatMap; intro _ _)
    | split
    | dsimp only

theorem only_lifecycleBack {pt : List Part} (hpt : [.ev, .fld .SAF_STAT] ⊆ pt) : Eff.Only pt (lifecycleBack ) := by
  unfold lifecycleBack
  repeat first
    | with_reducible exact only_seq_nil _
    | with_reducible apply only_seq_cons
    | (with_reducible apply only_rd; intro)
    | (with_reducible apply only_when; intro)
    | (with_reducible apply only_fset; exact mem_of hpt (by decide))
    | (with_reducible apply only_raise; exact mem_of hpt (by decide))

theorem only_managementReset {pt : List Part} (hpt : [.align, .boot, .caches, .cores, .ctl, .dbg, .dram, .dramPoison, .dramWritten, .ev, .faults,
    .flasks, .fld .CLK_PSTEP, .fld .CLU_CORES, .fld .CORE_MOULD, .fld .CORE_SC, .fld .CORE_SEQ, .fld .CORE_STAT, .fld .DBG_HOLD, .fld .DBG_STAT,
    .fld .LDL_CTXW_n, .fld .LDL_CTX_n, .fld .LDL_ERR, .fld .LDL_STAT, .fld .ME_CAP, .fld .ME_STAT, .fld .MOD_APERTURE_CTL, .fld .MOD_BOOT_ERR,
    .fld .MOD_BOOT_STAT, .fld .MOD_EVR_HEAD_n, .fld .MOD_EVR_TAIL_n, .fld .MOD_FAULT_STAT, .fld .MOD_FLASH_INFO, .fld .MOD_GRID_STAT,
    .fld .MOD_MB_SUMMARY, .fld .MOD_POUR_ID, .fld .MOD_RESET_STAT, .fld .MOD_ROW_MAP_r, .fld .PST_CORE_PWR_r, .fld .PST_RAMP, .fld .PWR_CLUSTER_c,
    .fld .PWR_RISER_LEAD, .fld .PWR_TILE_t, .fld .QUEUE_BASE, .fld .QUEUE_CTL, .fld .QUEUE_DB, .fld .QUEUE_LEVEL, .fld .QUEUE_STAT, .fld .QUEUE_WM,
    .fld .RUN_ERR, .fld .RUN_LANE_l, .fld .RUN_STAT, .fld .SAF_SLOT_FLASK, .fld .SAF_SLOT_ROLE, .fld .SAF_STAT, .fld .SE_STAT, .fld .SPD_ELASTIC,
    .fld .SPD_STAT, .fld .SPR_STAT, .fld .TC_ALIGN_STAT, .fld .VU_STAT, .freeCtr, .hostOut, .hports, .ldls, .mes, .msgs, .ports, .pour, .power,
    .pst, .queues, .rings, .saf, .seam, .ses, .slag, .slots, .spd, .spdPoison, .svc, .vus] ⊆ pt) (cause : Nat) (env : BootEnv) : Eff.Only pt
    (managementReset cause env) := by
  unfold managementReset
  repeat first
    | with_reducible exact only_nop _
    | with_reducible exact only_seq_nil _
    | with_reducible apply only_seq_cons
    | (with_reducible apply only_rd; intro)
    | (with_reducible apply only_when; intro)
    | with_reducible apply only_either
    | (with_reducible apply only_fset; exact mem_of hpt (by decide))
    | (with_reducible apply only_fadd; exact mem_of hpt (by decide))
    | (with_reducible apply only_raise; exact mem_of hpt (by decide))
    | (with_reducible apply only_bootReady; exact List.Subset.trans (by decide) hpt)
    | (with_reducible apply only_computeStart; exact List.Subset.trans (by decide) hpt)
    | (with_reducible apply only_computeStop; exact List.Subset.trans (by decide) hpt)
    | (with_reducible apply only_grantEnds; exact List.Subset.trans (by decide) hpt)
    | (with_reducible apply only_imageLoad; exact List.Subset.trans (by decide) hpt)
    | (with_reducible apply only_pourClear; exact List.Subset.trans (by decide) hpt)
    | (with_reducible apply only_stageFault; exact List.Subset.trans (by decide) hpt)
    | (with_reducible apply only_upTo; · exact List.Subset.trans (by decide) hpt)
    | with_reducible apply only_updates
    | with_reducible exact within_nil _
    | (with_reducible apply within_drop; · exact fun i hi => mem_of hpt (by revert i; decide))
    | (with_reducible apply within_cons; · exact mem_of hpt (by dsimp only [Upd.part]; decide))
    | with_reducible apply within_append
    | (with_reducible apply within_map; intros; exact mem_of hpt (by dsimp only [Upd.part]; decide))
    | (with_reducible apply within_flatMap; intro _ _)
    | split
    | dsimp only

theorem only_secondsTo {pt : List Part} (hpt : [.fld .SAF_SECONDS] ⊆ pt) (n : Nat) : Eff.Only pt (secondsTo n) := by
  unfold secondsTo
  repeat first
    | (with_reducible apply only_fmax; exact mem_of hpt (by decide))

theorem only_strapsIn {pt : List Part} (hpt : [.svc] ⊆ pt) (x : Straps) : Eff.Only pt (strapsIn x) := by
  unfold strapsIn
  repeat first
    | (with_reducible apply only_rd; intro)
    | with_reducible apply only_updates
    | with_reducible exact within_nil _
    | (with_reducible apply within_cons; · exact mem_of hpt (by dsimp only [Upd.part]; decide))
    | with_reducible apply within_append
    | (with_reducible apply within_map; intros; exact mem_of hpt (by dsimp only [Upd.part]; decide))
    | (with_reducible apply within_flatMap; intro _ _)

theorem only_contain {pt : List Part} (hpt : [.cores, .dbg, .ev, .faults, .flasks, .fld .CORE_MOULD, .fld .CORE_SC, .fld .CORE_SEQ, .fld .CORE_STAT,
    .fld .DBG_HOLD, .fld .LDL_CTX_n, .fld .ME_STAT, .fld .MOD_FAULT_STAT, .fld .MOD_GRID_STAT, .fld .MOD_MB_SUMMARY, .fld .QUEUE_BASE,
    .fld .QUEUE_CTL, .fld .QUEUE_DB, .fld .QUEUE_LEVEL, .fld .QUEUE_STAT, .fld .QUEUE_WM, .fld .SE_STAT, .fld .SPR_STAT, .fld .VU_STAT, .hostOut,
    .hports, .ldls, .mes, .msgs, .queues, .ses, .slots, .vus] ⊆ pt) (f : Nat) (code : Nat) (w : Who) (detail : List (Nat × Nat)) : Eff.Only pt
    (contain f code w detail) := by
  unfold contain
  repeat first
    | with_reducible exact only_seq_nil _
    | with_reducible apply only_seq_cons
    | (with_reducible apply only_rd; intro)
    | (with_reducible apply only_when; intro)
    | (with_reducible apply only_raise; exact mem_of hpt (by decide))
    | (with_reducible apply only_fenceBeacon; exact List.Subset.trans (by decide) hpt)
    | (with_reducible apply only_flaskReset; exact List.Subset.trans (by decide) hpt)

theorem only_containCore {pt : List Part} (hpt : [.cores, .dbg, .ev, .faults, .flasks, .fld .CORE_MOULD, .fld .CORE_SC, .fld .CORE_SEQ,
    .fld .CORE_STAT, .fld .DBG_HOLD, .fld .LDL_CTX_n, .fld .ME_STAT, .fld .MOD_FAULT_STAT, .fld .MOD_GRID_STAT, .fld .MOD_MB_SUMMARY,
    .fld .QUEUE_BASE, .fld .QUEUE_CTL, .fld .QUEUE_DB, .fld .QUEUE_LEVEL, .fld .QUEUE_STAT, .fld .QUEUE_WM, .fld .SE_STAT, .fld .SPR_STAT,
    .fld .VU_STAT, .hostOut, .hports, .ldls, .mes, .msgs, .queues, .ses, .slots, .vus] ⊆ pt) (p : Nat) (code : Nat) (unit : Nat) (detail : List (Nat
    × Nat)) : Eff.Only pt (containCore p code unit detail) := by
  unfold containCore
  repeat first
    | (with_reducible apply only_rd; intro)
    | (with_reducible apply only_raise; exact mem_of hpt (by decide))
    | (with_reducible apply only_contain; exact List.Subset.trans (by decide) hpt)
    | split
    | dsimp only

theorem only_windowsOpen {pt : List Part} (hpt : [.fld .MOD_FAULT_STAT] ⊆ pt) : Eff.Only pt (windowsOpen ) := by
  unfold windowsOpen
  repeat first
    | (with_reducible apply only_rd; intro)
    | (with_reducible apply only_fset; exact mem_of hpt (by decide))

theorem only_culpritReport {pt : List Part} (hpt : [.ev, .faults, .fld .MOD_FAULT_STAT] ⊆ pt) (code : Nat) (m : Nat) (c : Nat) (flask : Nat) (unit :
    Nat × Nat) (cause : Nat) (expect : Nat) (seen : Nat) (flow : Nat) (slot : Nat) : Eff.Only pt (culpritReport code m c flask unit cause expect
    seen flow slot) := by
  unfold culpritReport
  repeat first
    | with_reducible exact only_seq_nil _
    | with_reducible apply only_seq_cons
    | (with_reducible apply only_rd; intro)
    | (with_reducible apply only_fset; exact mem_of hpt (by decide))
    | (with_reducible apply only_windowsOpen; exact List.Subset.trans (by decide) hpt)
    | with_reducible apply only_updates
    | with_reducible exact within_nil _
    | (with_reducible apply within_cons; · exact mem_of hpt (by dsimp only [Upd.part]; decide))
    | with_reducible apply within_append
    | (with_reducible apply within_map; intros; exact mem_of hpt (by dsimp only [Upd.part]; decide))
    | (with_reducible apply within_flatMap; intro _ _)
    | split
    | dsimp only

theorem only_mbDoneWith {pt : List Part} (hpt : [.fld .MOD_MB_SUMMARY, .hostOut, .hports, .slots] ⊆ pt) (k : Nat) (bs : List Byte) : Eff.Only pt
    (mbDoneWith k bs) := by
  unfold mbDoneWith
  repeat first
    | with_reducible exact only_seq_nil _
    | with_reducible apply only_seq_cons
    | (with_reducible apply only_mbDone; exact List.Subset.trans (by decide) hpt)
    | (with_reducible apply only_mbResult; exact List.Subset.trans (by decide) hpt)

theorem only_setFlaskState {pt : List Part} (hpt : [.fld .CORE_STAT] ⊆ pt) (f : Nat) (st : Nat) : Eff.Only pt (setFlaskState f st) := by
  unfold setFlaskState
  repeat first
    | (with_reducible apply only_rd; intro)
    | with_reducible apply only_updates
    | with_reducible exact within_nil _
    | (with_reducible apply within_cons; · exact mem_of hpt (by dsimp only [Upd.part]; decide))
    | with_reducible apply within_append
    | (with_reducible apply within_map; intros; exact mem_of hpt (by dsimp only [Upd.part]; decide))
    | (with_reducible apply within_flatMap; intro _ _)

theorem only_sprSync {pt : List Part} (hpt : [.fld .SPR_STAT] ⊆ pt) : Eff.Only pt (sprSync ) := by
  unfold sprSync
  repeat first
    | (with_reducible apply only_rd; intro)
    | with_reducible apply only_updates
    | with_reducible exact within_nil _
    | (with_reducible apply within_cons; · exact mem_of hpt (by dsimp only [Upd.part]; decide))
    | with_reducible apply within_append
    | (with_reducible apply within_map; intros; exact mem_of hpt (by dsimp only [Upd.part]; decide))
    | (with_reducible apply within_flatMap; intro _ _)

theorem only_haltNow {pt : List Part} (hpt : [.dbg, .flasks, .fld .CORE_STAT, .fld .DBG_HOLD, .fld .MOD_MB_SUMMARY, .fld .SPR_STAT, .hostOut,
    .hports, .slots] ⊆ pt) (f : Nat) (cause : Nat) (point : Nat) (quiesce : Bool) (fault : Bool) : Eff.Only pt (haltNow f cause point quiesce fault)
    := by
  unfold haltNow
  repeat first
    | with_reducible exact only_nop _
    | with_reducible exact only_seq_nil _
    | with_reducible apply only_seq_cons
    | (with_reducible apply only_rd; intro)
    | (with_reducible apply only_when; intro)
    | (with_reducible apply only_onFlask; exact mem_of hpt (by decide))
    | (with_reducible apply only_holdEnd; exact List.Subset.trans (by decide) hpt)
    | (with_reducible apply only_mbDoneWith; exact List.Subset.trans (by decide) hpt)
    | (with_reducible apply only_mbFail; exact List.Subset.trans (by decide) hpt)
    | (with_reducible apply only_setFlaskState; exact List.Subset.trans (by decide) hpt)
    | (with_reducible apply only_sprSync; exact List.Subset.trans (by decide) hpt)
    | split
    | dsimp only

theorem only_haltModule {pt : List Part} (hpt : [.dbg, .flasks, .fld .CORE_STAT, .fld .DBG_HOLD, .fld .MOD_MB_SUMMARY, .fld .SPR_STAT, .hostOut,
    .hports, .slots] ⊆ pt) (cause : Nat) : Eff.Only pt (haltModule cause) := by
  unfold haltModule
  repeat first
    | (with_reducible apply only_rd; intro)
    | (with_reducible apply only_each; intro _ _)
    | (with_reducible apply only_haltNow; exact List.Subset.trans (by decide) hpt)
    | with_reducible intro _

theorem only_fatal {pt : List Part} (hpt : [.dbg, .ev, .faults, .flasks, .fld .CORE_STAT, .fld .DBG_HOLD, .fld .MOD_FAULT_STAT,
    .fld .MOD_MB_SUMMARY, .fld .SPR_STAT, .hostOut, .hports, .msgs, .slots] ⊆ pt) (code : Nat) (w : Who) (detail : List (Nat × Nat)) : Eff.Only pt
    (fatal code w detail) := by
  unfold fatal
  repeat first
    | with_reducible exact only_seq_nil _
    | with_reducible apply only_seq_cons
    | (with_reducible apply only_rd; intro)
    | (with_reducible apply only_when; intro)
    | (with_reducible apply only_raise; exact mem_of hpt (by decide))
    | (with_reducible apply only_fenceBeacon; exact List.Subset.trans (by decide) hpt)
    | (with_reducible apply only_haltModule; exact List.Subset.trans (by decide) hpt)
    | dsimp only

theorem only_haltPourFlasks {pt : List Part} (hpt : [.flasks] ⊆ pt) (cause : Nat) (t : Nat) : Eff.Only pt (haltPourFlasks cause t) := by
  unfold haltPourFlasks
  repeat first
    | (with_reducible apply only_rd; intro)
    | (with_reducible apply only_each; intro _ _)
    | (with_reducible apply only_faultHaltFrom; exact List.Subset.trans (by decide) hpt)
    | with_reducible intro _

theorem only_slosyAnswer {pt : List Part} (hpt : [.dbg, .msgs, .resp] ⊆ pt) (status : Nat) (payload : List Byte) : Eff.Only pt (slosyAnswer status
    payload) := by
  unfold slosyAnswer
  repeat first
    | with_reducible exact only_nop _
    | with_reducible exact only_seq_nil _
    | with_reducible apply only_seq_cons
    | (with_reducible apply only_rd; intro)
    | (with_reducible apply only_send; exact mem_of hpt (by decide))
    | (with_reducible apply only_answer; exact mem_of hpt (by decide))
    | with_reducible apply only_updates
    | with_reducible exact within_nil _
    | (with_reducible apply within_cons; · exact mem_of hpt (by dsimp only [Upd.part]; decide))
    | with_reducible apply within_append
    | (with_reducible apply within_map; intros; exact mem_of hpt (by dsimp only [Upd.part]; decide))
    | (with_reducible apply within_flatMap; intro _ _)
    | split
    | dsimp only

theorem only_domainSet {pt : List Part} (hpt : [.fld .PST_CORE_PWR_r, .fld .PST_RAMP] ⊆ pt) (p : Nat) (v : Nat) : Eff.Only pt (domainSet p v) := by
  unfold domainSet
  repeat first
    | with_reducible exact only_seq_nil _
    | with_reducible apply only_seq_cons
    | (with_reducible apply only_rd; intro)
    | (with_reducible apply only_fset; exact mem_of hpt (by decide))
    | (with_reducible apply only_rampCount; exact List.Subset.trans (by decide) hpt)

theorem only_domainLost {pt : List Part} (hpt : [.fld .PST_CORE_PWR_r, .fld .PST_RAMP, .pst] ⊆ pt) (p : Nat) : Eff.Only pt (domainLost p) := by
  unfold domainLost
  repeat first
    | with_reducible exact only_seq_nil _
    | with_reducible apply only_seq_cons
    | (with_reducible apply only_rd; intro)
    | (with_reducible apply only_domainSet; exact List.Subset.trans (by decide) hpt)
    | with_reducible apply only_updates
    | with_reducible exact within_nil _
    | (with_reducible apply within_cons; · exact mem_of hpt (by dsimp only [Upd.part]; decide))
    | with_reducible apply within_append
    | (with_reducible apply within_map; intros; exact mem_of hpt (by dsimp only [Upd.part]; decide))
    | (with_reducible apply within_flatMap; intro _ _)

theorem only_domainOff {pt : List Part} (hpt : [.fld .PST_CORE_PWR_r, .fld .PST_RAMP, .pst] ⊆ pt) (p : Nat) : Eff.Only pt (domainOff p) := by
  unfold domainOff
  repeat first
    | with_reducible exact only_nop _
    | with_reducible exact only_seq_nil _
    | with_reducible apply only_seq_cons
    | (with_reducible apply only_rd; intro)
    | (with_reducible apply only_domainSet; exact List.Subset.trans (by decide) hpt)
    | with_reducible apply only_updates
    | with_reducible exact within_nil _
    | (with_reducible apply within_cons; · exact mem_of hpt (by dsimp only [Upd.part]; decide))
    | with_reducible apply within_append
    | (with_reducible apply within_map; intros; exact mem_of hpt (by dsimp only [Upd.part]; decide))
    | (with_reducible apply within_flatMap; intro _ _)
    | split
    | dsimp only

theorem only_domainOn {pt : List Part} (hpt : [.fld .PST_CORE_PWR_r, .fld .PST_RAMP, .pst] ⊆ pt) (p : Nat) : Eff.Only pt (domainOn p) := by
  unfold domainOn
  repeat first
    | with_reducible exact only_nop _
    | with_reducible exact only_seq_nil _
    | with_reducible apply only_seq_cons
    | (with_reducible apply only_rd; intro)
    | (with_reducible apply only_fsat; exact mem_of hpt (by decide))
    | (with_reducible apply only_domainSet; exact List.Subset.trans (by decide) hpt)
    | with_reducible apply only_updates
    | with_reducible exact within_nil _
    | (with_reducible apply within_cons; · exact mem_of hpt (by dsimp only [Upd.part]; decide))
    | with_reducible apply within_append
    | (with_reducible apply within_map; intros; exact mem_of hpt (by dsimp only [Upd.part]; decide))
    | (with_reducible apply within_flatMap; intro _ _)
    | split
    | dsimp only

theorem only_chainLate {pt : List Part} (hpt : [.ev, .faults, .fld .ME_ERR, .fld .MOD_FAULT_STAT, .fld .SE_ERR] ⊆ pt) (u : Eng) (d : Desc) :
    Eff.Only pt (chainLate u d) := by
  unfold chainLate
  repeat first
    | with_reducible exact only_seq_nil _
    | with_reducible apply only_seq_cons
    | (with_reducible apply only_rd; intro)
    | (with_reducible apply only_fset; exact Eng.fld_mem (mem_of hpt (by decide)) (mem_of hpt (by decide)))
    | (with_reducible apply only_fset; exact mem_of hpt (by decide))
    | (with_reducible apply only_culpritReport; exact List.Subset.trans (by decide) hpt)
    | with_reducible exact within_nil _
    | (with_reducible apply within_cons; · exact mem_of hpt (by dsimp only [Upd.part]; decide))
    | with_reducible apply within_append
    | (with_reducible apply within_map; intros; exact mem_of hpt (by dsimp only [Upd.part]; decide))
    | (with_reducible apply within_flatMap; intro _ _)
    | split
    | dsimp only
    | (apply only_fun; intro)

theorem only_onEng {pt : List Part} (hpt : [.mes, .ses] ⊆ pt) (u : Eng) (f : EngSt → EngSt) : Eff.Only pt (onEng u f) := by
  unfold onEng
  repeat first
    | (with_reducible apply only_onMe; exact mem_of hpt (by decide))
    | (with_reducible apply only_onSe; exact mem_of hpt (by decide))
    | split

theorem only_chainRow {pt : List Part} (hpt : [.ev, .faults, .fld .ME_ERR, .fld .MOD_FAULT_STAT, .fld .SE_ERR, .mes, .ses] ⊆ pt) (u : Eng) (quad :
    Nat) (i : Nat) (at_ : Nat) (vals : List Nat) (fl : Flags) : Eff.Only pt (chainRow u quad i at_ vals fl) := by
  unfold chainRow
  repeat first
    | with_reducible exact only_seq_nil _
    | with_reducible apply only_seq_cons
    | (with_reducible apply only_rd; intro)
    | with_reducible apply only_either
    | (with_reducible apply only_chainLate; exact List.Subset.trans (by decide) hpt)
    | (with_reducible apply only_onEng; exact List.Subset.trans (by decide) hpt)
    | dsimp only

theorem only_engParity {pt : List Part} (hpt : [.ev, .fld .ME_ERR, .fld .SE_ERR] ⊆ pt) (u : Eng) (n : Nat) : Eff.Only pt (engParity u n) := by
  unfold engParity
  repeat first
    | with_reducible exact only_seq_nil _
    | with_reducible apply only_seq_cons
    | (with_reducible apply only_rd; intro)
    | (with_reducible apply only_when; intro)
    | (with_reducible apply only_fset; exact Eng.fld_mem (mem_of hpt (by decide)) (mem_of hpt (by decide)))
    | (with_reducible apply only_fset; exact mem_of hpt (by decide))
    | (with_reducible apply only_fsat; exact Eng.fld_mem (mem_of hpt (by decide)) (mem_of hpt (by decide)))
    | (with_reducible apply only_fsat; exact mem_of hpt (by decide))
    | (with_reducible apply only_raise; exact mem_of hpt (by decide))
    | with_reducible exact within_nil _
    | (with_reducible apply within_cons; · exact mem_of hpt (by dsimp only [Upd.part]; decide))
    | with_reducible apply within_append
    | (with_reducible apply within_map; intros; exact mem_of hpt (by dsimp only [Upd.part]; decide))
    | (with_reducible apply within_flatMap; intro _ _)
    | split
    | (apply only_fun; intro)

theorem only_ingressRows {pt : List Part} (hpt : [.fld .VU_STAT] ⊆ pt) (v : Nat) : Eff.Only pt (ingressRows v) := by
  unfold ingressRows
  repeat first
    | (with_reducible apply only_rd; intro)
    | (with_reducible apply only_fset; exact mem_of hpt (by decide))

theorem only_ingressRow {pt : List Part} (hpt : [.ev, .fld .VU_ERR, .fld .VU_STAT, .vus] ⊆ pt) (p : Nat) (vu : Nat) (slot : Nat) (w : Nat) (vals :
    List Nat) (fl : Flags) : Eff.Only pt (ingressRow p vu slot w vals fl) := by
  unfold ingressRow
  repeat first
    | with_reducible exact only_seq_nil _
    | with_reducible apply only_seq_cons
    | (with_reducible apply only_rd; intro)
    | with_reducible apply only_either
    | (with_reducible apply only_fset; exact mem_of hpt (by decide))
    | (with_reducible apply only_raise; exact mem_of hpt (by decide))
    | (with_reducible apply only_onVu; exact mem_of hpt (by decide))
    | (with_reducible apply only_ingressRows; exact List.Subset.trans (by decide) hpt)
    | dsimp only

theorem only_spdMark {pt : List Part} (hpt : [.spdPoison] ⊆ pt) (p : Nat) (line : Nat) : Eff.Only pt (spdMark p line) := by
  unfold spdMark
  repeat first
    | with_reducible apply only_updates
    | with_reducible exact within_nil _
    | (with_reducible apply within_cons; · exact mem_of hpt (by dsimp only [Upd.part]; decide))
    | with_reducible apply within_append
    | (with_reducible apply within_map; intros; exact mem_of hpt (by dsimp only [Upd.part]; decide))
    | (with_reducible apply within_flatMap; intro _ _)

theorem only_spdWrLost {pt : List Part} (hpt : [.cores, .spd, .spdPoison] ⊆ pt) (p : Nat) (off : Nat) (bs : List Byte) (poison : Bool) (lost : List
    Nat) : Eff.Only pt (spdWrLost p off bs poison lost) := by
  unfold spdWrLost
  repeat first
    | with_reducible apply only_either
    | (with_reducible apply only_each; intro _ _)
    | (with_reducible apply only_spdMark; exact List.Subset.trans (by decide) hpt)
    | (with_reducible apply only_spdWr; exact List.Subset.trans (by decide) hpt)
    | with_reducible intro _
    | dsimp only

theorem only_issueRow {pt : List Part} (hpt : [.cores, .ev, .faults, .fld .ME_ERR, .fld .MOD_FAULT_STAT, .fld .SE_ERR, .fld .VU_ERR, .fld .VU_STAT,
    .mes, .ses, .spd, .spdPoison, .vus] ⊆ pt) (u : Eng) (d : Desc) (t : Tile) (lost : List Nat) (fl : Flags) (i : Nat) (r : OutRow) : Eff.Only pt
    (issueRow u d t lost fl i r) := by
  unfold issueRow
  repeat first
    | (with_reducible apply only_rd; intro)
    | (with_reducible apply only_onCore; exact mem_of hpt (by decide))
    | (with_reducible apply only_chainRow; exact List.Subset.trans (by decide) hpt)
    | (with_reducible apply only_ingressRow; exact List.Subset.trans (by decide) hpt)
    | (with_reducible apply only_spdWrLost; exact List.Subset.trans (by decide) hpt)
    | split
    | dsimp only

theorem only_engStat {pt : List Part} (hpt : [.fld .ME_STAT, .fld .SE_STAT] ⊆ pt) (u : Eng) : Eff.Only pt (engStat u) := by
  unfold engStat
  repeat first
    | (with_reducible apply only_rd; intro)
    | with_reducible apply only_updates
    | with_reducible exact within_nil _
    | (with_reducible apply within_cons; · exact mem_of hpt (by dsimp only [Upd.part]; decide))
    | with_reducible apply within_append
    | (with_reducible apply within_map; intros; exact mem_of hpt (by dsimp only [Upd.part]; decide))
    | (with_reducible apply within_flatMap; intro _ _)
    | split
    | dsimp only

theorem only_orFlags {pt : List Part} {fs : List Fld} (h : ∀ f ∈ fs, .fld f.reg ∈ pt) (i : Nat) (fl : Flags) : Eff.Only pt (orFlags fs i fl) := by
  refine only_each fun x hx => only_when fun _ => only_fset (h _ ?_) _ _
  exact (List.of_mem_zip (show (x.1, x.2) ∈ _ from hx)).1

theorem only_writeMeta {pt : List Part} (hpt : [.cores] ⊆ pt) (p : Nat) (tag : Nat) (entry : Nat) : Eff.Only pt (writeMeta p tag entry) := by
  unfold writeMeta
  repeat first
    | (with_reducible apply only_onCore; exact mem_of hpt (by decide))

theorem only_tileEnd {pt : List Part} (hpt : [.cores, .fld .ME_FLAGS, .fld .ME_LAST_TAG, .fld .ME_STAT, .fld .ME_TILES, .fld .SE_FLAGS,
    .fld .SE_STAT, .fld .SE_TILES] ⊆ pt) (u : Eng) (d : Desc) (fl : Flags) : Eff.Only pt (tileEnd u d fl) := by
  unfold tileEnd
  repeat first
    | with_reducible exact only_seq_nil _
    | with_reducible apply only_seq_cons
    | (with_reducible apply only_rd; intro)
    | (with_reducible apply only_when; intro)
    | (with_reducible apply only_fset; exact mem_of hpt (by decide))
    | (with_reducible apply only_fadd; exact Eng.fld_mem (mem_of hpt (by decide)) (mem_of hpt (by decide)))
    | (with_reducible apply only_fadd; exact mem_of hpt (by decide))
    | (with_reducible apply only_engStat; exact List.Subset.trans (by decide) hpt)
    | (apply only_orFlags; first | (intro f hf; fin_cases hf <;> exact mem_of hpt (by decide)) | exact Eng.flag_mem fun f hf => mem_of hpt (by
        revert f; decide))
    | (with_reducible apply only_writeMeta; exact List.Subset.trans (by decide) hpt)
    | with_reducible exact within_nil _
    | (with_reducible apply within_cons; · exact mem_of hpt (by dsimp only [Upd.part]; decide))
    | with_reducible apply within_append
    | (with_reducible apply within_map; intros; exact mem_of hpt (by dsimp only [Upd.part]; decide))
    | (with_reducible apply within_flatMap; intro _ _)
    | (apply only_fun; intro)

theorem only_drainTile {pt : List Part} (hpt : [.cores, .ev, .faults, .fld .ME_ERR, .fld .ME_FLAGS, .fld .ME_HASH, .fld .ME_LAST_TAG, .fld .ME_STAT,
    .fld .ME_TILES, .fld .MOD_FAULT_STAT, .fld .SE_ERR, .fld .SE_FLAGS, .fld .SE_HASH, .fld .SE_STAT, .fld .SE_TILES, .fld .VU_ERR, .fld .VU_STAT,
    .mes, .ses, .spd, .spdPoison, .vus] ⊆ pt) (u : Eng) (t : Tile) (f : EngFaults) : Eff.Only pt (drainTile u t f) := by
  unfold drainTile
  repeat first
    | with_reducible exact only_seq_nil _
    | with_reducible apply only_seq_cons
    | (with_reducible apply only_rd; intro)
    | (with_reducible apply only_when; intro)
    | (with_reducible apply only_each; intro _ _)
    | (with_reducible apply only_fset; exact Eng.fld_mem (mem_of hpt (by decide)) (mem_of hpt (by decide)))
    | (with_reducible apply only_fset; exact mem_of hpt (by decide))
    | (with_reducible apply only_onCore; exact mem_of hpt (by decide))
    | (with_reducible apply only_chainLate; exact List.Subset.trans (by decide) hpt)
    | (with_reducible apply only_engParity; exact List.Subset.trans (by decide) hpt)
    | (with_reducible apply only_issueRow; exact List.Subset.trans (by decide) hpt)
    | (with_reducible apply only_onEng; exact List.Subset.trans (by decide) hpt)
    | (with_reducible apply only_spdWrLost; exact List.Subset.trans (by decide) hpt)
    | (with_reducible apply only_tileEnd; exact List.Subset.trans (by decide) hpt)
    | with_reducible intro _
    | with_reducible exact within_nil _
    | (with_reducible apply within_cons; · exact mem_of hpt (by dsimp only [Upd.part]; decide))
    | with_reducible apply within_append
    | (with_reducible apply within_map; intros; exact mem_of hpt (by dsimp only [Upd.part]; decide))
    | (with_reducible apply within_flatMap; intro _ _)
    | split
    | dsimp only
    | (apply only_fun; intro)

theorem only_spdConflict {pt : List Part} (hpt : [.ev, .fld .SPD_CONFLICT] ⊆ pt) (p : Nat) (winner : Nat) (loser : Nat) : Eff.Only pt (spdConflict p
    winner loser) := by
  unfold spdConflict
  repeat first
    | with_reducible exact only_seq_nil _
    | with_reducible apply only_seq_cons
    | (with_reducible apply only_rd; intro)
    | (with_reducible apply only_fset; exact mem_of hpt (by decide))
    | (with_reducible apply only_fsat; exact mem_of hpt (by decide))
    | (with_reducible apply only_raise; exact mem_of hpt (by decide))

theorem only_spdCorrected {pt : List Part} (hpt : [.cores, .ev, .fld .SPD_ECC, .fld .SPD_ECC_ADDR] ⊆ pt) (p : Nat) (line : Nat) (scrub : Bool) :
    Eff.Only pt (spdCorrected p line scrub) := by
  unfold spdCorrected
  repeat first
    | with_reducible exact only_seq_nil _
    | with_reducible apply only_seq_cons
    | (with_reducible apply only_rd; intro)
    | (with_reducible apply only_when; intro)
    | (with_reducible apply only_fset; exact mem_of hpt (by decide))
    | (with_reducible apply only_fput; exact mem_of hpt (by decide))
    | (with_reducible apply only_fsat; exact mem_of hpt (by decide))
    | (with_reducible apply only_raise; exact mem_of hpt (by decide))
    | (with_reducible apply only_onCore; exact mem_of hpt (by decide))
    | split
    | dsimp only

theorem only_spdUncorrected {pt : List Part} (hpt : [.cores, .dbg, .ev, .faults, .flasks, .fld .CORE_MOULD, .fld .CORE_SC, .fld .CORE_SEQ,
    .fld .CORE_STAT, .fld .DBG_HOLD, .fld .LDL_CTX_n, .fld .ME_STAT, .fld .MOD_FAULT_STAT, .fld .MOD_GRID_STAT, .fld .MOD_MB_SUMMARY,
    .fld .QUEUE_BASE, .fld .QUEUE_CTL, .fld .QUEUE_DB, .fld .QUEUE_LEVEL, .fld .QUEUE_STAT, .fld .QUEUE_WM, .fld .SE_STAT, .fld .SPD_ECC,
    .fld .SPD_ECC_ADDR, .fld .SPR_STAT, .fld .VU_STAT, .hostOut, .hports, .ldls, .mes, .msgs, .queues, .ses, .slots, .spdPoison, .vus] ⊆ pt) (p :
    Nat) (line : Nat) (scrub : Bool) : Eff.Only pt (spdUncorrected p line scrub) := by
  unfold spdUncorrected
  repeat first
    | with_reducible exact only_seq_nil _
    | with_reducible apply only_seq_cons
    | (with_reducible apply only_fset; exact mem_of hpt (by decide))
    | (with_reducible apply only_fput; exact mem_of hpt (by decide))
    | (with_reducible apply only_fsat; exact mem_of hpt (by decide))
    | (with_reducible apply only_onCore; exact mem_of hpt (by decide))
    | (with_reducible apply only_containCore; exact List.Subset.trans (by decide) hpt)
    | (with_reducible apply only_spdMark; exact List.Subset.trans (by decide) hpt)

theorem only_engFaults {pt : List Part} (hpt : [.cores, .dbg, .ev, .faults, .flasks, .fld .CORE_MOULD, .fld .CORE_SC, .fld .CORE_SEQ,
    .fld .CORE_STAT, .fld .DBG_HOLD, .fld .LDL_CTX_n, .fld .ME_STAT, .fld .MOD_FAULT_STAT, .fld .MOD_GRID_STAT, .fld .MOD_MB_SUMMARY,
    .fld .QUEUE_BASE, .fld .QUEUE_CTL, .fld .QUEUE_DB, .fld .QUEUE_LEVEL, .fld .QUEUE_STAT, .fld .QUEUE_WM, .fld .SE_STAT, .fld .SPD_CONFLICT,
    .fld .SPD_ECC, .fld .SPD_ECC_ADDR, .fld .SPR_STAT, .fld .VU_STAT, .hostOut, .hports, .ldls, .mes, .msgs, .queues, .ses, .slots, .spdPoison,
    .vus] ⊆ pt) (u : Eng) (f : EngFaults) : Eff.Only pt (engFaults u f) := by
  unfold engFaults
  repeat first
    | with_reducible exact only_seq_nil _
    | with_reducible apply only_seq_cons
    | (with_reducible apply only_each; intro _ _)
    | (with_reducible apply only_spdConflict; exact List.Subset.trans (by decide) hpt)
    | (with_reducible apply only_spdCorrected; exact List.Subset.trans (by decide) hpt)
    | (with_reducible apply only_spdUncorrected; exact List.Subset.trans (by decide) hpt)
    | with_reducible intro _

theorem only_engDrain {pt : List Part} (hpt : [.cores, .dbg, .ev, .faults, .flasks, .fld .CORE_MOULD, .fld .CORE_SC, .fld .CORE_SEQ,
    .fld .CORE_STAT, .fld .DBG_HOLD, .fld .LDL_CTX_n, .fld .ME_ERR, .fld .ME_FLAGS, .fld .ME_HASH, .fld .ME_LAST_TAG, .fld .ME_STAT, .fld .ME_TILES,
    .fld .MOD_FAULT_STAT, .fld .MOD_GRID_STAT, .fld .MOD_MB_SUMMARY, .fld .QUEUE_BASE, .fld .QUEUE_CTL, .fld .QUEUE_DB, .fld .QUEUE_LEVEL,
    .fld .QUEUE_STAT, .fld .QUEUE_WM, .fld .SE_ERR, .fld .SE_FLAGS, .fld .SE_HASH, .fld .SE_STAT, .fld .SE_TILES, .fld .SPD_CONFLICT, .fld .SPD_ECC,
    .fld .SPD_ECC_ADDR, .fld .SPR_STAT, .fld .VU_ERR, .fld .VU_STAT, .hostOut, .hports, .ldls, .mes, .msgs, .queues, .ses, .slots, .spd, .spdPoison,
    .vus] ⊆ pt) (u : Eng) (quad : Nat) (f : EngFaults) : Eff.Only pt (engDrain u quad f) := by
  unfold engDrain
  repeat first
    | with_reducible exact only_nop _
    | with_reducible exact only_seq_nil _
    | with_reducible apply only_seq_cons
    | (with_reducible apply only_rd; intro)
    | (with_reducible apply only_when; intro)
    | (with_reducible apply only_drainTile; exact List.Subset.trans (by decide) hpt)
    | (with_reducible apply only_engFaults; exact List.Subset.trans (by decide) hpt)
    | split
    | dsimp only

theorem only_engIssue {pt : List Part} (hpt : [.cores, .dbg, .ev, .faults, .flasks, .fld .CORE_MOULD, .fld .CORE_SC, .fld .CORE_SEQ,
    .fld .CORE_STAT, .fld .DBG_HOLD, .fld .LDL_CTX_n, .fld .ME_ERR, .fld .ME_STAT, .fld .MOD_FAULT_STAT, .fld .MOD_GRID_STAT, .fld .MOD_MB_SUMMARY,
    .fld .QUEUE_BASE, .fld .QUEUE_CTL, .fld .QUEUE_DB, .fld .QUEUE_LEVEL, .fld .QUEUE_STAT, .fld .QUEUE_WM, .fld .SE_ERR, .fld .SE_STAT,
    .fld .SPR_STAT, .fld .VU_STAT, .hostOut, .hports, .ldls, .mes, .msgs, .queues, .ses, .slots, .vus] ⊆ pt) (u : Eng) (b : List Byte) (relocOut :
    Bool) (overflow : Eff) (hoverflow : Eff.Only pt overflow) : Eff.Only pt (engIssue u b relocOut overflow) := by
  unfold engIssue
  repeat first
    | with_reducible exact hoverflow
    | with_reducible exact only_seq_nil _
    | with_reducible apply only_seq_cons
    | (with_reducible apply only_rd; intro)
    | (with_reducible apply only_fset; exact Eng.fld_mem (mem_of hpt (by decide)) (mem_of hpt (by decide)))
    | (with_reducible apply only_fset; exact mem_of hpt (by decide))
    | (with_reducible apply only_containCore; exact List.Subset.trans (by decide) hpt)
    | (with_reducible apply only_onEng; exact List.Subset.trans (by decide) hpt)
    | with_reducible exact within_nil _
    | (with_reducible apply within_cons; · exact mem_of hpt (by dsimp only [Upd.part]; decide))
    | with_reducible apply within_append
    | (with_reducible apply within_map; intros; exact mem_of hpt (by dsimp only [Upd.part]; decide))
    | (with_reducible apply within_flatMap; intro _ _)
    | split
    | dsimp only
    | (apply only_fun; intro)

theorem only_engStart {pt : List Part} (hpt : [.cores, .dbg, .ev, .faults, .flasks, .fld .CORE_MOULD, .fld .CORE_SC, .fld .CORE_SEQ,
    .fld .CORE_STAT, .fld .DBG_HOLD, .fld .LDL_CTX_n, .fld .ME_ERR, .fld .ME_STALL, .fld .ME_STAT, .fld .MOD_FAULT_STAT, .fld .MOD_GRID_STAT,
    .fld .MOD_MB_SUMMARY, .fld .QUEUE_BASE, .fld .QUEUE_CTL, .fld .QUEUE_DB, .fld .QUEUE_LEVEL, .fld .QUEUE_STAT, .fld .QUEUE_WM, .fld .SE_ERR,
    .fld .SE_STALL, .fld .SE_STAT, .fld .SPD_CONFLICT, .fld .SPD_ECC, .fld .SPD_ECC_ADDR, .fld .SPR_STAT, .fld .VU_STAT, .hostOut, .hports, .ldls,
    .mes, .msgs, .queues, .ses, .slots, .spdPoison, .vus] ⊆ pt) (u : Eng) (quad : Nat) (f : EngFaults) (after : Desc → Store → Nat → Eff) (hafter :
    ∀ x0 x1 x2, Eff.Only pt (after x0 x1 x2)) : Eff.Only pt (engStart u quad f after) := by
  unfold engStart
  repeat first
    | with_reducible exact hafter ..
    | with_reducible exact only_nop _
    | with_reducible exact only_seq_nil _
    | with_reducible apply only_seq_cons
    | (with_reducible apply only_rd; intro)
    | (with_reducible apply only_when; intro)
    | (with_reducible apply only_fsat; exact Eng.fld_mem (mem_of hpt (by decide)) (mem_of hpt (by decide)))
    | (with_reducible apply only_fsat; exact mem_of hpt (by decide))
    | (with_reducible apply only_engFaults; exact List.Subset.trans (by decide) hpt)
    | (with_reducible apply only_engParity; exact List.Subset.trans (by decide) hpt)
    | (with_reducible apply only_engStat; exact List.Subset.trans (by decide) hpt)
    | (with_reducible apply only_onEng; exact List.Subset.trans (by decide) hpt)
    | with_reducible exact within_nil _
    | (with_reducible apply within_cons; · exact mem_of hpt (by dsimp only [Upd.part]; decide))
    | with_reducible apply within_append
    | (with_reducible apply within_map; intros; exact mem_of hpt (by dsimp only [Upd.part]; decide))
    | (with_reducible apply within_flatMap; intro _ _)
    | split
    | dsimp only
    | (apply only_fun; intro)

theorem only_loadAStart {pt : List Part} (hpt : [.mes, .ses] ⊆ pt) (u : Eng) : Eff.Only pt (loadAStart u) := by
  unfold loadAStart
  repeat first
    | with_reducible exact only_nop _
    | (with_reducible apply only_rd; intro)
    | (with_reducible apply only_when; intro)
    | (with_reducible apply only_onEng; exact List.Subset.trans (by decide) hpt)
    | split
    | dsimp only

theorem only_setScalar {pt : List Part} (hpt : [.cores] ⊆ pt) (p : Nat) (r : Nat) (v : Nat) : Eff.Only pt (setScalar p r v) := by
  unfold setScalar
  repeat first
    | with_reducible exact only_nop _
    | (with_reducible apply only_onCore; exact mem_of hpt (by decide))
    | split

theorem only_progStart {pt : List Part} (hpt : [.cores, .fld .CORE_SC, .fld .CORE_SEQ, .fld .SPR_STAT] ⊆ pt) (p : Nat) (temper : Nat) : Eff.Only pt
    (progStart p temper) := by
  unfold progStart
  repeat first
    | with_reducible exact only_seq_nil _
    | with_reducible apply only_seq_cons
    | (with_reducible apply only_rd; intro)
    | (with_reducible apply only_each; intro _ _)
    | (with_reducible apply only_fset; exact mem_of hpt (by decide))
    | (with_reducible apply only_onCore; exact mem_of hpt (by decide))
    | (with_reducible apply only_regReset; exact mem_of hpt (by decide))
    | (with_reducible apply only_setScalar; exact List.Subset.trans (by decide) hpt)
    | with_reducible intro _

theorem only_startedSlots {pt : List Part} (hpt : [.flasks, .fld .MOD_MB_SUMMARY, .hostOut, .hports, .slots] ⊆ pt) (f : Nat) : Eff.Only pt
    (startedSlots f) := by
  unfold startedSlots
  repeat first
    | with_reducible exact only_nop _
    | with_reducible exact only_seq_nil _
    | with_reducible apply only_seq_cons
    | (with_reducible apply only_rd; intro)
    | (with_reducible apply only_when; intro)
    | (with_reducible apply only_each; intro _ _)
    | (with_reducible apply only_onFlask; exact mem_of hpt (by decide))
    | (with_reducible apply only_mbDone; exact List.Subset.trans (by decide) hpt)
    | (with_reducible apply only_mbDoneWith; exact List.Subset.trans (by decide) hpt)
    | with_reducible intro _
    | split
    | dsimp only

theorem only_flaskRuns {pt : List Part} (hpt : [.cores, .flasks, .fld .CORE_SC, .fld .CORE_SEQ, .fld .CORE_STAT, .fld .MOD_MB_SUMMARY,
    .fld .SPR_STAT, .hostOut, .hports, .slots] ⊆ pt) (f : Nat) : Eff.Only pt (flaskRuns f) := by
  unfold flaskRuns
  repeat first
    | with_reducible exact only_seq_nil _
    | with_reducible apply only_seq_cons
    | (with_reducible apply only_rd; intro)
    | (with_reducible apply only_when; intro)
    | (with_reducible apply only_each; intro _ _)
    | (with_reducible apply only_onFlask; exact mem_of hpt (by decide))
    | (with_reducible apply only_progStart; exact List.Subset.trans (by decide) hpt)
    | (with_reducible apply only_setFlaskState; exact List.Subset.trans (by decide) hpt)
    | (with_reducible apply only_sprSync; exact List.Subset.trans (by decide) hpt)
    | (with_reducible apply only_startedSlots; exact List.Subset.trans (by decide) hpt)
    | with_reducible intro _
    | dsimp only

theorem only_holdPoint {pt : List Part} (hpt : [.fld .SPR_STAT, .fld .TC_FRAME, .gclk] ⊆ pt) (h : Nat) : Eff.Only pt (holdPoint h) := by
  unfold holdPoint
  repeat first
    | with_reducible exact only_seq_nil _
    | with_reducible apply only_seq_cons
    | (with_reducible apply only_rd; intro)
    | (with_reducible apply only_fset; exact mem_of hpt (by decide))
    | (with_reducible apply only_sprSync; exact List.Subset.trans (by decide) hpt)
    | with_reducible apply only_updates
    | with_reducible exact within_nil _
    | (with_reducible apply within_cons; · exact mem_of hpt (by dsimp only [Upd.part]; decide))
    | with_reducible apply within_append
    | (with_reducible apply within_map; intros; exact mem_of hpt (by dsimp only [Upd.part]; decide))
    | (with_reducible apply within_flatMap; intro _ _)

theorem only_gridBegin {pt : List Part} (hpt : [.fld .SPR_STAT, .fld .TC_FRAME, .fld .TC_FRAME_TC, .gclk] ⊆ pt) (tc : Nat) : Eff.Only pt (gridBegin
    tc) := by
  unfold gridBegin
  repeat first
    | with_reducible exact only_seq_nil _
    | with_reducible apply only_seq_cons
    | (with_reducible apply only_rd; intro)
    | (with_reducible apply only_fset; exact mem_of hpt (by decide))
    | (with_reducible apply only_holdPoint; exact List.Subset.trans (by decide) hpt)
    | with_reducible apply only_updates
    | with_reducible exact within_nil _
    | (with_reducible apply within_cons; · exact mem_of hpt (by dsimp only [Upd.part]; decide))
    | with_reducible apply within_append
    | (with_reducible apply within_map; intros; exact mem_of hpt (by dsimp only [Upd.part]; decide))
    | (with_reducible apply within_flatMap; intro _ _)

theorem only_markFrame {pt : List Part} (hpt : [.flasks] ⊆ pt) (old : State) : Eff.Only pt (markFrame old) := by
  unfold markFrame
  repeat first
    | (with_reducible apply only_rd; intro)
    | (with_reducible apply only_each; intro _ _)
    | (with_reducible apply only_onFlask; exact mem_of hpt (by decide))
    | with_reducible intro _
    | split
    | dsimp only

theorem only_apertureWr {pt : List Part} (hpt : [.cores, .fld .SPD_ELASTIC, .spd, .spdPoison] ⊆ pt) (p : Nat) (off : Nat) (bs : List Byte) :
    Eff.Only pt (apertureWr p off bs) := by
  unfold apertureWr
  repeat first
    | with_reducible apply only_either
    | (with_reducible apply only_each; intro _ _)
    | (with_reducible apply only_gatherWrite; exact List.Subset.trans (by decide) hpt)
    | (with_reducible apply only_lineWrite; exact List.Subset.trans (by decide) hpt)
    | with_reducible intro _
    | dsimp only

theorem only_badSize {pt : List Part} (hpt : [.fld .MOD_HOST_ERR_p] ⊆ pt) (p : Nat) : Eff.Only pt (badSize p) := by
  unfold badSize
  repeat first
    | (with_reducible apply only_fsat; exact mem_of hpt (by decide))

theorem only_mbStart {pt : List Part} (hpt : [.fld .MOD_MB_SUMMARY, .hostOut, .hports, .slots] ⊆ pt) (k : Nat) : Eff.Only pt (mbStart k) := by
  unfold mbStart
  repeat first
    | with_reducible exact only_seq_nil _
    | with_reducible apply only_seq_cons
    | (with_reducible apply only_rd; intro)
    | (with_reducible apply only_when; intro)
    | with_reducible apply only_either
    | (with_reducible apply only_fbit; exact mem_of hpt (by decide))
    | (with_reducible apply only_onSlot; exact mem_of hpt (by decide))
    | (with_reducible apply only_mbFail; exact List.Subset.trans (by decide) hpt)

theorem only_mbAccept {pt : List Part} (hpt : [.fld .MOD_MB_SUMMARY, .hostOut, .hports, .mbOrder, .slots] ⊆ pt) (k : Nat) (secured : Bool) :
    Eff.Only pt (mbAccept k secured) := by
  unfold mbAccept
  repeat first
    | with_reducible exact only_seq_nil _
    | with_reducible apply only_seq_cons
    | (with_reducible apply only_rd; intro)
    | with_reducible apply only_either
    | (with_reducible apply only_onSlot; exact mem_of hpt (by decide))
    | (with_reducible apply only_mbBusy; exact List.Subset.trans (by decide) hpt)
    | (with_reducible apply only_mbFail; exact List.Subset.trans (by decide) hpt)
    | (with_reducible apply only_mbStart; exact List.Subset.trans (by decide) hpt)
    | with_reducible apply only_updates
    | with_reducible exact within_nil _
    | (with_reducible apply within_cons; · exact mem_of hpt (by dsimp only [Upd.part]; decide))
    | with_reducible apply within_append
    | (with_reducible apply within_map; intros; exact mem_of hpt (by dsimp only [Upd.part]; decide))
    | (with_reducible apply within_flatMap; intro _ _)
    | dsimp only

theorem only_portDrop {pt : List Part} (hpt : [.ev, .faults, .flasks, .fld .MOD_FAULT_STAT, .fld .MOD_MB_SUMMARY, .fld .RUN_ERR, .fld .RUN_STAT,
    .hostOut, .hports, .msgs, .ports, .slots] ⊆ pt) (n : Nat) : Eff.Only pt (portDrop n) := by
  unfold portDrop
  repeat first
    | (with_reducible apply only_rd; intro)
    | (with_reducible apply only_leaveUp; exact List.Subset.trans (by decide) hpt)
    | (with_reducible apply only_portTo; exact List.Subset.trans (by decide) hpt)
    | split

theorem only_mbCancel {pt : List Part} (hpt : [.ev, .faults, .flasks, .fld .MOD_FAULT_STAT, .fld .MOD_MB_SUMMARY, .fld .RUN_ERR, .fld .RUN_STAT,
    .hostOut, .hports, .msgs, .ports, .slots] ⊆ pt) (k : Nat) : Eff.Only pt (mbCancel k) := by
  unfold mbCancel
  repeat first
    | with_reducible exact only_seq_nil _
    | with_reducible apply only_seq_cons
    | (with_reducible apply only_rd; intro)
    | (with_reducible apply only_when; intro)
    | (with_reducible apply only_each; intro _ _)
    | (with_reducible apply only_onSlot; exact mem_of hpt (by decide))
    | (with_reducible apply only_onPort; exact mem_of hpt (by decide))
    | (with_reducible apply only_mbFail; exact List.Subset.trans (by decide) hpt)
    | (with_reducible apply only_portDrop; exact List.Subset.trans (by decide) hpt)
    | with_reducible intro _
    | split
    | dsimp only

theorem only_mbWrite {pt : List Part} (hpt : [.ev, .faults, .flasks, .fld .MOD_FAULT_STAT, .fld .MOD_MB_SUMMARY, .fld .RUN_ERR, .fld .RUN_STAT,
    .hostOut, .hports, .mbOrder, .msgs, .ports, .slots] ⊆ pt) (k : Nat) (off : Nat) (bs : List Byte) : Eff.Only pt (mbWrite k off bs) := by
  unfold mbWrite
  repeat first
    | with_reducible exact only_nop _
    | with_reducible exact only_seq_nil _
    | with_reducible apply only_seq_cons
    | (with_reducible apply only_rd; intro)
    | (with_reducible apply only_when; intro)
    | (with_reducible apply only_onSlot; exact mem_of hpt (by decide))
    | (with_reducible apply only_mbAccept; exact List.Subset.trans (by decide) hpt)
    | (with_reducible apply only_mbCancel; exact List.Subset.trans (by decide) hpt)
    | split
    | dsimp only

theorem only_msixDrain {pt : List Part} (hpt : [.hostOut, .hports] ⊆ pt) (p : Nat) : Eff.Only pt (msixDrain p) := by
  unfold msixDrain
  repeat first
    | with_reducible exact only_seq_nil _
    | with_reducible apply only_seq_cons
    | (with_reducible apply only_rd; intro)
    | (with_reducible apply only_when; intro)
    | (with_reducible apply only_each; intro _ _)
    | (with_reducible apply only_onHport; exact mem_of hpt (by decide))
    | (with_reducible apply only_hostWrite; exact List.Subset.trans (by decide) hpt)
    | with_reducible intro _
    | dsimp only

theorem only_msixTableWrite {pt : List Part} (hpt : [.hostOut, .hports, .msix] ⊆ pt) (p : Nat) (off : Nat) (bs : List Byte) : Eff.Only pt
    (msixTableWrite p off bs) := by
  unfold msixTableWrite
  repeat first
    | with_reducible exact only_seq_nil _
    | with_reducible apply only_seq_cons
    | (with_reducible apply only_rd; intro)
    | (with_reducible apply only_onMsixEntry; exact mem_of hpt (by decide))
    | (with_reducible apply only_msixDrain; exact List.Subset.trans (by decide) hpt)
    | dsimp only

theorem only_ctxAbort {pt : List Part} (hpt : [.fld .LDL_CTX_n, .ldls] ⊆ pt) (e : Nat) (n : Nat) (cause : Nat) : Eff.Only pt (ctxAbort e n cause) :=
    by
  unfold ctxAbort
  repeat first
    | with_reducible exact only_seq_nil _
    | with_reducible apply only_seq_cons
    | (with_reducible apply only_rd; intro)
    | (with_reducible apply only_when; intro)
    | (with_reducible apply only_fset; exact mem_of hpt (by decide))
    | (with_reducible apply only_onCtx; exact List.Subset.trans (by decide) hpt)

theorem only_ringWrite {pt : List Part} (hpt : [.fld .MOD_EVR_TAIL_n, .hostOut, .hports] ⊆ pt) (n : Nat) (r : EvRec) : Eff.Only pt (ringWrite n r)
    := by
  unfold ringWrite
  repeat first
    | with_reducible exact only_seq_nil _
    | with_reducible apply only_seq_cons
    | (with_reducible apply only_rd; intro)
    | (with_reducible apply only_fadd; exact mem_of hpt (by decide))
    | (with_reducible apply only_hostWrite; exact List.Subset.trans (by decide) hpt)
    | (with_reducible apply only_msixSend; exact List.Subset.trans (by decide) hpt)
    | dsimp only

theorem only_ringReport {pt : List Part} (hpt : [.fld .MOD_EVR_TAIL_n, .hostOut, .hports, .rings] ⊆ pt) (n : Nat) : Eff.Only pt (ringReport n) := by
  unfold ringReport
  repeat first
    | with_reducible exact only_seq_nil _
    | with_reducible apply only_seq_cons
    | (with_reducible apply only_rd; intro)
    | (with_reducible apply only_when; intro)
    | (with_reducible apply only_fset; exact mem_of hpt (by decide))
    | (with_reducible apply only_onRing; exact mem_of hpt (by decide))
    | (with_reducible apply only_ringWrite; exact List.Subset.trans (by decide) hpt)

theorem only_evrHeadWrite {pt : List Part} (hpt : [.fld .MOD_EVR_HEAD_n, .fld .MOD_EVR_TAIL_n, .hostOut, .hports, .rings] ⊆ pt) (n : Nat) (head :
    Nat) : Eff.Only pt (evrHeadWrite n head) := by
  unfold evrHeadWrite
  repeat first
    | with_reducible exact only_seq_nil _
    | with_reducible apply only_seq_cons
    | (with_reducible apply only_rd; intro)
    | (with_reducible apply only_when; intro)
    | (with_reducible apply only_fset; exact mem_of hpt (by decide))
    | (with_reducible apply only_ringReport; exact List.Subset.trans (by decide) hpt)

theorem only_faRearm {pt : List Part} (hpt : [.fld .MOD_FA_FAULT_INFO] ⊆ pt) : Eff.Only pt (faRearm ) := by
  unfold faRearm
  repeat first
    | with_reducible exact only_seq_nil _
    | with_reducible apply only_seq_cons
    | (with_reducible apply only_fset; exact mem_of hpt (by decide))

theorem only_exitBegin {pt : List Part} (hpt : [.fld .PST_CORE_PWR_r, .fld .PST_RAMP, .fld .PST_STAT, .pst] ⊆ pt) (target : Nat) (cause : Nat) :
    Eff.Only pt (exitBegin target cause) := by
  unfold exitBegin
  repeat first
    | with_reducible exact only_seq_nil _
    | with_reducible apply only_seq_cons
    | (with_reducible apply only_rd; intro)
    | (with_reducible apply only_when; intro)
    | (with_reducible apply only_each; intro _ _)
    | (with_reducible apply only_fset; exact mem_of hpt (by decide))
    | (with_reducible apply only_domainOn; exact List.Subset.trans (by decide) hpt)
    | with_reducible intro _
    | with_reducible apply only_updates
    | with_reducible exact within_nil _
    | (with_reducible apply within_cons; · exact mem_of hpt (by dsimp only [Upd.part]; decide))
    | with_reducible apply within_append
    | (with_reducible apply within_map; intros; exact mem_of hpt (by dsimp only [Upd.part]; decide))
    | (with_reducible apply within_flatMap; intro _ _)

theorem only_wakeExit {pt : List Part} (hpt : [.fld .PST_CORE_PWR_r, .fld .PST_RAMP, .fld .PST_STAT, .pst] ⊆ pt) (cause : Nat) : Eff.Only pt
    (wakeExit cause) := by
  unfold wakeExit
  repeat first
    | (with_reducible apply only_rd; intro)
    | (with_reducible apply only_when; intro)
    | (with_reducible apply only_exitBegin; exact List.Subset.trans (by decide) hpt)
    | split

theorem only_latchSet {pt : List Part} (hpt : [.fld .PST_CORE_PWR_r, .fld .PST_RAMP, .fld .PST_STAT, .fld .PST_WAKE_STAT, .pst] ⊆ pt) (b : Nat) :
    Eff.Only pt (latchSet b) := by
  unfold latchSet
  repeat first
    | with_reducible exact only_seq_nil _
    | with_reducible apply only_seq_cons
    | (with_reducible apply only_rd; intro)
    | (with_reducible apply only_when; intro)
    | (with_reducible apply only_fbit; exact mem_of hpt (by decide))
    | (with_reducible apply only_wakeExit; exact List.Subset.trans (by decide) hpt)

theorem only_peakClear {pt : List Part} (hpt : [.fld .CLU_THERM] ⊆ pt) (c : Nat) : Eff.Only pt (peakClear c) := by
  unfold peakClear
  repeat first
    | (with_reducible apply only_rd; intro)
    | (with_reducible apply only_fset; exact mem_of hpt (by decide))

theorem only_regWriteHw {ps : List Part} {r : Reg} (h : .fld r ∈ ps ∨ .flds ∈ ps) (i mask v hw : Nat) : Eff.Only ps (regWriteHw r i mask v hw) := by
  refine only_seq_cons (only_regWrite h i mask v) (only_seq_cons (only_rd fun s => only_updates (within_filterMap fun f hf u hu => ?_))
      (only_seq_nil _))
  dsimp only at hu
  split at hu
  · cases hu; exact In_fld h hf _ _
  · cases hu

theorem only_timerTest {pt : List Part} (hpt : [.fld .PST_CORE_PWR_r, .fld .PST_RAMP, .fld .PST_STAT, .fld .PST_WAKE_STAT, .pst] ⊆ pt) : Eff.Only pt
    (timerTest ) := by
  unfold timerTest
  repeat first
    | (with_reducible apply only_rd; intro)
    | (with_reducible apply only_when; intro)
    | (with_reducible apply only_latchSet; exact List.Subset.trans (by decide) hpt)

theorem only_regStore {pt : List Part} (hpt : [.fld .CLU_THERM, .fld .LDL_CTX_n, .fld .MOD_EVR_HEAD_n, .fld .MOD_EVR_TAIL_n,
    .fld .MOD_FA_FAULT_INFO, .fld .PST_CORE_PWR_r, .fld .PST_RAMP, .fld .PST_STAT, .fld .PST_WAKE_STAT, .flds, .hostOut, .hports, .ldls, .pst,
    .rings] ⊆ pt) (r : Reg) (i : Nat) (mask : Nat) (v : Nat) (hw : Nat) : Eff.Only pt (regStore r i mask v hw) := by
  unfold regStore
  repeat first
    | with_reducible exact only_seq_nil _
    | with_reducible apply only_seq_cons
    | (with_reducible apply only_rd; intro)
    | (with_reducible apply only_when; intro)
    | (with_reducible apply only_each; intro _ _)
    | (with_reducible apply only_ctxAbort; exact List.Subset.trans (by decide) hpt)
    | (with_reducible apply only_evrHeadWrite; exact List.Subset.trans (by decide) hpt)
    | (with_reducible apply only_faRearm; exact List.Subset.trans (by decide) hpt)
    | (with_reducible apply only_latchSet; exact List.Subset.trans (by decide) hpt)
    | (with_reducible apply only_peakClear; exact List.Subset.trans (by decide) hpt)
    | (with_reducible apply only_regWriteHw; first | exact .inl (mem_of hpt (by decide)) | exact .inr (mem_of hpt (by decide)))
    | (with_reducible apply only_timerTest; exact List.Subset.trans (by decide) hpt)
    | with_reducible intro _
    | split
    | dsimp only

theorem only_bar0Write {pt : List Part} (hpt : [.ev, .faults, .flasks, .fld .CLU_THERM, .fld .LDL_CTX_n, .fld .MOD_EVR_HEAD_n, .fld .MOD_EVR_TAIL_n,
    .fld .MOD_FAULT_STAT, .fld .MOD_FA_FAULT_INFO, .fld .MOD_HOST_ERR_p, .fld .MOD_MB_SUMMARY, .fld .PST_CORE_PWR_r, .fld .PST_RAMP, .fld .PST_STAT,
    .fld .PST_WAKE_STAT, .fld .RUN_ERR, .fld .RUN_STAT, .flds, .hostOut, .hports, .ldls, .mbOrder, .msgs, .msix, .ports, .pst, .rings, .slots] ⊆ pt)
    (p : Nat) (off : Nat) (bs : List Byte) (hw : Nat) : Eff.Only pt (bar0Write p off bs hw) := by
  unfold bar0Write
  repeat first
    | with_reducible exact only_nop _
    | (with_reducible apply only_rd; intro)
    | (with_reducible apply only_when; intro)
    | (with_reducible apply only_badSize; exact List.Subset.trans (by decide) hpt)
    | (with_reducible apply only_mbWrite; exact List.Subset.trans (by decide) hpt)
    | (with_reducible apply only_msixTableWrite; exact List.Subset.trans (by decide) hpt)
    | (with_reducible apply only_regStore; exact List.Subset.trans (by decide) hpt)
    | split
    | dsimp only

theorem only_bar2Write {pt : List Part} (hpt : [.ev, .fld .MOD_HOST_ERR_p, .fld .QUEUE_BASE, .fld .QUEUE_CTL, .fld .QUEUE_LEVEL, .fld .QUEUE_STAT,
    .fld .QUEUE_WM, .queues] ⊆ pt) (off : Nat) (bs : List Byte) (hw : Nat) : Eff.Only pt (bar2Write off bs hw) := by
  unfold bar2Write
  repeat first
    | (with_reducible apply only_rd; intro)
    | (with_reducible apply only_when; intro)
    | (with_reducible apply only_queueWordWrite; exact List.Subset.trans (by decide) hpt)

theorem only_cfgWrite {pt : List Part} (hpt : [.fld .MOD_HOST_STAT_p, .hostOut, .hports] ⊆ pt) (t : RegTarget) (v : Nat) : Eff.Only pt (cfgWrite t
    v) := by
  unfold cfgWrite
  repeat first
    | with_reducible exact only_nop _
    | with_reducible exact only_seq_nil _
    | with_reducible apply only_seq_cons
    | (with_reducible apply only_when; intro)
    | (with_reducible apply only_fput; exact mem_of hpt (by decide))
    | (with_reducible apply only_onHport; exact mem_of hpt (by decide))
    | (with_reducible apply only_msixDrain; exact List.Subset.trans (by decide) hpt)
    | split
    | dsimp only

theorem only_fabricServe {pt : List Part} (hpt : [.caches, .cores, .dram, .dramPoison, .dramWritten, .ev, .fld .CCH_HITS, .fld .CCH_MISSES,
    .fld .CORE_QSTAT, .fld .MOD_FA_FAULT_ADDR, .fld .MOD_FA_FAULT_INFO, .fld .MOD_HOST_ERR_p, .fld .PWR_TELEM_IN_p, .fld .QUEUE_BASE,
    .fld .QUEUE_CTL, .fld .QUEUE_LEVEL, .fld .QUEUE_STAT, .fld .QUEUE_WM, .fld .SPD_ELASTIC, .flds, .msgs, .ports, .queues, .resp, .spd, .spdPoison]
    ⊆ pt) (req : FabricReq) : Eff.Only pt (fabricServe req) := by
  unfold fabricServe
  repeat first
    | (with_reducible apply only_rd; intro)
    | (with_reducible apply only_when; intro)
    | (with_reducible apply only_answer; exact mem_of hpt (by decide))
    | (with_reducible apply only_serve; · exact List.Subset.trans (by decide) hpt)
    | with_reducible intro _

theorem only_ringStatus {pt : List Part} (hpt : [.fld .MOD_EVR_TAIL_n] ⊆ pt) (n : Nat) : Eff.Only pt (ringStatus n) := by
  unfold ringStatus
  repeat first
    | (with_reducible apply only_rd; intro)
    | (with_reducible apply only_fput; exact mem_of hpt (by decide))
    | dsimp only

theorem only_portRings {pt : List Part} (hpt : [.fld .MOD_EVR_TAIL_n] ⊆ pt) (p : Nat) : Eff.Only pt (portRings p) := by
  unfold portRings
  repeat first
    | (with_reducible apply only_rd; intro)
    | (with_reducible apply only_each; intro _ _)
    | (with_reducible apply only_ringStatus; exact List.Subset.trans (by decide) hpt)
    | with_reducible intro _

theorem only_portDown {pt : List Part} (hpt : [.fld .MOD_EVR_TAIL_n, .fld .MOD_HOST_STAT_p] ⊆ pt) (p : Nat) : Eff.Only pt (portDown p) := by
  unfold portDown
  repeat first
    | with_reducible exact only_seq_nil _
    | with_reducible apply only_seq_cons
    | (with_reducible apply only_fset; exact mem_of hpt (by decide))
    | (with_reducible apply only_portRings; exact List.Subset.trans (by decide) hpt)

theorem only_portReset {pt : List Part} (hpt : [.fld .MOD_EVR_TAIL_n, .fld .MOD_HOST_ERR_p, .fld .MOD_HOST_STAT_p, .fld .QUEUE_CTL,
    .fld .QUEUE_STAT, .hports, .msix, .queues, .rings] ⊆ pt) (p : Nat) : Eff.Only pt (portReset p) := by
  unfold portReset
  repeat first
    | with_reducible exact only_seq_nil _
    | with_reducible apply only_seq_cons
    | (with_reducible apply only_rd; intro)
    | (with_reducible apply only_each; intro _ _)
    | (with_reducible apply only_fset; exact mem_of hpt (by decide))
    | (with_reducible apply only_onQueue; exact mem_of hpt (by decide))
    | (with_reducible apply only_onRing; exact mem_of hpt (by decide))
    | (with_reducible apply only_queueDisabling; exact List.Subset.trans (by decide) hpt)
    | (with_reducible apply only_ringStatus; exact List.Subset.trans (by decide) hpt)
    | with_reducible intro _
    | with_reducible apply only_updates
    | with_reducible exact within_nil _
    | (with_reducible apply within_cons; · exact mem_of hpt (by dsimp only [Upd.part]; decide))
    | with_reducible apply within_append
    | (with_reducible apply within_map; intros; exact mem_of hpt (by dsimp only [Upd.part]; decide))
    | (with_reducible apply within_flatMap; intro _ _)
    | dsimp only

theorem only_postAccept {pt : List Part} (hpt : [.ev, .fld .QUEUE_LEVEL, .fld .QUEUE_STAT, .fld .QUEUE_WM, .queues] ⊆ pt) (q : Nat) (e : List Byte)
    : Eff.Only pt (postAccept q e) := by
  unfold postAccept
  repeat first
    | with_reducible exact only_seq_nil _
    | with_reducible apply only_seq_cons
    | (with_reducible apply only_onQueue; exact mem_of hpt (by decide))
    | (with_reducible apply only_queueSync; exact List.Subset.trans (by decide) hpt)
    | split

theorem only_tokenDrop {pt : List Part} (hpt : [.fld .QUEUE_STAT, .queues] ⊆ pt) (q : Nat) (n : Nat) : Eff.Only pt (tokenDrop q n) := by
  unfold tokenDrop
  repeat first
    | with_reducible exact only_seq_nil _
    | with_reducible apply only_seq_cons
    | (with_reducible apply only_fset; exact mem_of hpt (by decide))
    | (with_reducible apply only_onQueue; exact mem_of hpt (by decide))
    | split

theorem only_postRecord {pt : List Part} (hpt : [.ev, .fld .QUEUE_LEVEL, .fld .QUEUE_STAT, .fld .QUEUE_WM, .queues] ⊆ pt) (q : Nat) (e : List Byte)
    : Eff.Only pt (postRecord q e) := by
  unfold postRecord
  repeat first
    | (with_reducible apply only_rd; intro)
    | with_reducible apply only_either
    | (with_reducible apply only_postAccept; exact List.Subset.trans (by decide) hpt)
    | (with_reducible apply only_tokenDrop; exact List.Subset.trans (by decide) hpt)

theorem only_queueBindHost {pt : List Part} (hpt : [.fld .QUEUE_BASE, .fld .QUEUE_CTL, .fld .QUEUE_DB, .fld .QUEUE_LEVEL, .fld .QUEUE_STAT,
    .fld .QUEUE_WM, .queues] ⊆ pt) (q : Nat) (x : QueueSt) : Eff.Only pt (queueBindHost q x) := by
  unfold queueBindHost
  repeat first
    | with_reducible exact only_seq_nil _
    | with_reducible apply only_seq_cons
    | (with_reducible apply only_fset; exact mem_of hpt (by decide))
    | with_reducible apply only_updates
    | with_reducible exact within_nil _
    | (with_reducible apply within_drop; · exact fun i hi => mem_of hpt (by revert i; decide))
    | (with_reducible apply within_cons; · exact mem_of hpt (by dsimp only [Upd.part]; decide))
    | with_reducible apply within_append
    | (with_reducible apply within_map; intros; exact mem_of hpt (by dsimp only [Upd.part]; decide))
    | (with_reducible apply within_flatMap; intro _ _)
    | split
    | dsimp only

theorem only_queueFault {pt : List Part} (hpt : [.ev, .fld .QUEUE_STAT] ⊆ pt) (q : Nat) (cause : Nat) : Eff.Only pt (queueFault q cause) := by
  unfold queueFault
  repeat first
    | with_reducible exact only_seq_nil _
    | with_reducible apply only_seq_cons
    | (with_reducible apply only_rd; intro)
    | (with_reducible apply only_when; intro)
    | (with_reducible apply only_fset; exact mem_of hpt (by decide))
    | (with_reducible apply only_raise; exact mem_of hpt (by decide))

theorem only_queueMsg {pt : List Part} (hpt : [.hostOut, .hports, .queues] ⊆ pt) (q : Nat) : Eff.Only pt (queueMsg q) := by
  unfold queueMsg
  repeat first
    | with_reducible exact only_seq_nil _
    | with_reducible apply only_seq_cons
    | (with_reducible apply only_rd; intro)
    | (with_reducible apply only_when; intro)
    | with_reducible apply only_either
    | (with_reducible apply only_onQueue; exact mem_of hpt (by decide))
    | (with_reducible apply only_msixSend; exact List.Subset.trans (by decide) hpt)
    | split
    | dsimp only

theorem only_ringLose {pt : List Part} (hpt : [.fld .MOD_EVR_TAIL_n, .rings] ⊆ pt) (n : Nat) (r : EvRec) : Eff.Only pt (ringLose n r) := by
  unfold ringLose
  repeat first
    | with_reducible exact only_seq_nil _
    | with_reducible apply only_seq_cons
    | (with_reducible apply only_rd; intro)
    | (with_reducible apply only_fset; exact mem_of hpt (by decide))
    | (with_reducible apply only_onRing; exact mem_of hpt (by decide))
    | split
    | dsimp only

theorem only_ringOffer {pt : List Part} (hpt : [.ev, .fld .MOD_EVR_TAIL_n, .hostOut, .hports, .rings] ⊆ pt) (n : Nat) (r : EvRec) : Eff.Only pt
    (ringOffer n r) := by
  unfold ringOffer
  repeat first
    | with_reducible exact only_nop _
    | with_reducible exact only_seq_nil _
    | with_reducible apply only_seq_cons
    | (with_reducible apply only_rd; intro)
    | with_reducible apply only_either
    | (with_reducible apply only_ringLose; exact List.Subset.trans (by decide) hpt)
    | (with_reducible apply only_ringReport; exact List.Subset.trans (by decide) hpt)
    | (with_reducible apply only_ringWrite; exact List.Subset.trans (by decide) hpt)
    | with_reducible apply only_updates
    | with_reducible exact within_nil _
    | (with_reducible apply within_cons; · exact mem_of hpt (by dsimp only [Upd.part]; decide))
    | with_reducible apply within_append
    | (with_reducible apply within_map; intros; exact mem_of hpt (by dsimp only [Upd.part]; decide))
    | (with_reducible apply within_flatMap; intro _ _)
    | split

theorem only_shadowFill {pt : List Part} (hpt : [.cores, .spd, .spdPoison] ⊆ pt) (q : Nat) (n : Nat) (es : List (List Byte)) : Eff.Only pt
    (shadowFill q n es) := by
  unfold shadowFill
  repeat first
    | with_reducible exact only_nop _
    | (with_reducible apply only_rd; intro)
    | (with_reducible apply only_each; intro _ _)
    | (with_reducible apply only_spdWr; exact List.Subset.trans (by decide) hpt)
    | with_reducible intro _
    | split
    | dsimp only

theorem only_ldlFlags {pt : List Part} (hpt : [.fld .LDL_FLAGS] ⊆ pt) (e : Nat) (f : Flags) : Eff.Only pt (ldlFlags e f) := by
  unfold ldlFlags
  repeat first
    | with_reducible exact only_seq_nil _
    | with_reducible apply only_seq_cons
    | (with_reducible apply only_when; intro)
    | (with_reducible apply only_fset; exact mem_of hpt (by decide))

theorem only_chanWrite {pt : List Part} (hpt : [.cores, .fld .LDL_FLAGS, .fld .LDL_SECTORS, .spd, .spdPoison] ⊆ pt) (p : Nat) (e : Nat) (own : Nat)
    (d : LDesc) (x : SecData) (lost : List Nat) : Eff.Only pt (chanWrite p e own d x lost) := by
  unfold chanWrite
  repeat first
    | with_reducible exact only_nop _
    | with_reducible exact only_seq_nil _
    | with_reducible apply only_seq_cons
    | (with_reducible apply only_rd; intro)
    | with_reducible apply only_either
    | (with_reducible apply only_each; intro _ _)
    | (with_reducible apply only_fadd; exact mem_of hpt (by decide))
    | (with_reducible apply only_ldlFlags; exact List.Subset.trans (by decide) hpt)
    | (with_reducible apply only_spdMark; exact List.Subset.trans (by decide) hpt)
    | (with_reducible apply only_spdWr; exact List.Subset.trans (by decide) hpt)
    | with_reducible intro _
    | split
    | dsimp only

theorem only_ctxDone {pt : List Part} (hpt : [.caches, .cores, .ev, .fld .LDL_CTXW_n, .fld .LDL_CTX_n, .fld .LDL_ERR, .fld .LDL_STAT,
    .fld .SPD_ELASTIC, .ldls, .msgs, .ports, .spd, .spdPoison] ⊆ pt) (e : Nat) (n : Nat) : Eff.Only pt (ctxDone e n) := by
  unfold ctxDone
  repeat first
    | with_reducible exact only_nop _
    | (with_reducible apply only_rd; intro)
    | (with_reducible apply only_when; intro)
    | (with_reducible apply only_ctxEnd; exact List.Subset.trans (by decide) hpt)
    | split
    | dsimp only

theorem only_ctxProgress {pt : List Part} (hpt : [.fld .LDL_CTX_n] ⊆ pt) (e : Nat) (n : Nat) : Eff.Only pt (ctxProgress e n) := by
  unfold ctxProgress
  repeat first
    | with_reducible exact only_nop _
    | (with_reducible apply only_rd; intro)
    | (with_reducible apply only_fset; exact mem_of hpt (by decide))
    | split
    | dsimp only

theorem only_ctxRead {pt : List Part} (hpt : [.caches, .ev, .fld .CCH_HITS, .fld .CCH_MISSES, .fld .MOD_FA_FAULT_ADDR, .fld .MOD_FA_FAULT_INFO,
    .ldls, .msgs, .ports] ⊆ pt) (e : Nat) (n : Nat) (line : Nat) (j : LdlJob) : Eff.Only pt (ctxRead e n line j) := by
  unfold ctxRead
  repeat first
    | with_reducible exact only_seq_nil _
    | with_reducible apply only_seq_cons
    | (with_reducible apply only_rd; intro)
    | (with_reducible apply only_when; intro)
    | (with_reducible apply only_dramRead; exact List.Subset.trans (by decide) hpt)
    | (with_reducible apply only_faFault; exact List.Subset.trans (by decide) hpt)
    | (with_reducible apply only_onCtx; exact List.Subset.trans (by decide) hpt)
    | (with_reducible apply only_sendMod; exact List.Subset.trans (by decide) hpt)
    | split
    | dsimp only

theorem only_ctxReads {pt : List Part} (hpt : [.caches, .ev, .fld .CCH_HITS, .fld .CCH_MISSES, .fld .MOD_FA_FAULT_ADDR, .fld .MOD_FA_FAULT_INFO,
    .ldls, .msgs, .ports] ⊆ pt) (e : Nat) (n : Nat) (upTo : Nat) : Eff.Only pt (ctxReads e n upTo) := by
  unfold ctxReads
  repeat first
    | with_reducible exact only_nop _
    | (with_reducible apply only_rd; intro)
    | (with_reducible apply only_each; intro _ _)
    | (with_reducible apply only_ctxRead; exact List.Subset.trans (by decide) hpt)
    | with_reducible intro _
    | split
    | dsimp only

theorem only_ldlFail {pt : List Part} (hpt : [.cores, .dbg, .ev, .faults, .flasks, .fld .CORE_MOULD, .fld .CORE_SC, .fld .CORE_SEQ, .fld .CORE_STAT,
    .fld .DBG_HOLD, .fld .LDL_CTX_n, .fld .LDL_ERR, .fld .ME_STAT, .fld .MOD_FAULT_STAT, .fld .MOD_GRID_STAT, .fld .MOD_MB_SUMMARY,
    .fld .QUEUE_BASE, .fld .QUEUE_CTL, .fld .QUEUE_DB, .fld .QUEUE_LEVEL, .fld .QUEUE_STAT, .fld .QUEUE_WM, .fld .SE_STAT, .fld .SPR_STAT,
    .fld .VU_STAT, .hostOut, .hports, .ldls, .mes, .msgs, .queues, .ses, .slots, .vus] ⊆ pt) (p : Nat) (e : Nat) (reason : Nat) : Eff.Only pt
    (ldlFail p e reason) := by
  unfold ldlFail
  repeat first
    | with_reducible exact only_seq_nil _
    | with_reducible apply only_seq_cons
    | (with_reducible apply only_fset; exact mem_of hpt (by decide))
    | (with_reducible apply only_containCore; exact List.Subset.trans (by decide) hpt)

theorem only_seqError {pt : List Part} {f : Fld} (hpt : [.cores, .dbg, .ev, .faults, .flasks, .fld .CORE_MOULD, .fld .CORE_SC, .fld .CORE_SEQ,
    .fld .CORE_SEQ_ERR, .fld .CORE_STAT, .fld .DBG_HOLD, .fld .LDL_CTX_n, .fld .ME_STAT, .fld .MOD_FAULT_STAT, .fld .MOD_GRID_STAT,
    .fld .MOD_MB_SUMMARY, .fld .QUEUE_BASE, .fld .QUEUE_CTL, .fld .QUEUE_DB, .fld .QUEUE_LEVEL, .fld .QUEUE_STAT, .fld .QUEUE_WM, .fld .SE_STAT,
    .fld .SPR_STAT, .fld .VU_STAT, .hostOut, .hports, .ldls, .mes, .msgs, .queues, .ses, .slots, .vus] ⊆ pt) (hf : .fld f.reg ∈ pt) (p : Nat) (code
    : Nat) : Eff.Only pt (seqError p f code) := by
  unfold seqError
  repeat first
    | exact only_fset hf _ _
    | with_reducible exact only_seq_nil _
    | with_reducible apply only_seq_cons
    | (with_reducible apply only_rd; intro)
    | (with_reducible apply only_fset; exact mem_of hpt (by decide))
    | (with_reducible apply only_containCore; exact List.Subset.trans (by decide) hpt)

theorem only_issueOverflow {pt : List Part} (hpt : [.cores, .dbg, .ev, .faults, .flasks, .fld .CORE_MOULD, .fld .CORE_SC, .fld .CORE_SEQ,
    .fld .CORE_SEQ_ERR, .fld .CORE_STAT, .fld .DBG_HOLD, .fld .LDL_CTX_n, .fld .ME_STAT, .fld .MOD_FAULT_STAT, .fld .MOD_GRID_STAT,
    .fld .MOD_MB_SUMMARY, .fld .QUEUE_BASE, .fld .QUEUE_CTL, .fld .QUEUE_DB, .fld .QUEUE_LEVEL, .fld .QUEUE_STAT, .fld .QUEUE_WM, .fld .SE_STAT,
    .fld .SPR_STAT, .fld .VU_STAT, .hostOut, .hports, .ldls, .mes, .msgs, .queues, .ses, .slots, .vus] ⊆ pt) (p : Nat) : Eff.Only pt (issueOverflow
    p) := by
  unfold issueOverflow
  exact only_seqError hpt (mem_of hpt (by decide)) _ _

theorem only_ldlIssue {pt : List Part} (hpt : [.cores, .dbg, .ev, .faults, .flasks, .fld .CORE_MOULD, .fld .CORE_SC, .fld .CORE_SEQ,
    .fld .CORE_SEQ_ERR, .fld .CORE_STAT, .fld .DBG_HOLD, .fld .LDL_CTX_n, .fld .LDL_ERR, .fld .ME_STAT, .fld .MOD_FAULT_STAT, .fld .MOD_GRID_STAT,
    .fld .MOD_MB_SUMMARY, .fld .QUEUE_BASE, .fld .QUEUE_CTL, .fld .QUEUE_DB, .fld .QUEUE_LEVEL, .fld .QUEUE_STAT, .fld .QUEUE_WM, .fld .SE_STAT,
    .fld .SPR_STAT, .fld .VU_STAT, .hostOut, .hports, .ldls, .mes, .msgs, .queues, .ses, .slots, .vus] ⊆ pt) (p : Nat) (e : Nat) (j : LdlJob) :
    Eff.Only pt (ldlIssue p e j) := by
  unfold ldlIssue
  repeat first
    | with_reducible exact only_seq_nil _
    | with_reducible apply only_seq_cons
    | (with_reducible apply only_rd; intro)
    | (with_reducible apply only_fset; exact mem_of hpt (by decide))
    | (with_reducible apply only_onLdl; exact mem_of hpt (by decide))
    | (with_reducible apply only_containCore; exact List.Subset.trans (by decide) hpt)
    | (with_reducible apply only_issueOverflow; exact List.Subset.trans (by decide) hpt)
    | split
    | dsimp only

theorem only_planCounts {pt : List Part} (hpt : [.fld .LDL_CLAMP, .fld .LDL_STAT] ⊆ pt) (e : Nat) (p : LPlan) : Eff.Only pt (planCounts e p) := by
  unfold planCounts
  repeat first
    | with_reducible exact only_seq_nil _
    | with_reducible apply only_seq_cons
    | (with_reducible apply only_fsat; exact mem_of hpt (by decide))

theorem only_secReports {pt : List Part} (hpt : [.ev, .fld .LDL_ERR] ⊆ pt) (e : Nat) (j : LdlJob) (told : Bool × Bool) (x : SecData) : Eff.Only pt
    (secReports e j told x) := by
  unfold secReports
  repeat first
    | with_reducible exact only_seq_nil _
    | with_reducible apply only_seq_cons
    | (with_reducible apply only_rd; intro)
    | (with_reducible apply only_when; intro)
    | (with_reducible apply only_fset; exact mem_of hpt (by decide))
    | (with_reducible apply only_fsat; exact mem_of hpt (by decide))
    | (with_reducible apply only_raise; exact mem_of hpt (by decide))

theorem only_sectorAck {pt : List Part} (hpt : [.caches, .cores, .ev, .fld .LDL_CTXW_n, .fld .LDL_CTX_n, .fld .LDL_ERR, .fld .LDL_SECTORS,
    .fld .LDL_STAT, .fld .SPD_ELASTIC, .ldls, .msgs, .ports, .spd, .spdPoison] ⊆ pt) (e : Nat) (n : Nat) (w : Nat) (told : AckOutcome) : Eff.Only pt
    (sectorAck e n w told) := by
  unfold sectorAck
  repeat first
    | with_reducible exact only_nop _
    | with_reducible exact only_seq_nil _
    | with_reducible apply only_seq_cons
    | (with_reducible apply only_rd; intro)
    | (with_reducible apply only_when; intro)
    | (with_reducible apply only_fset; exact mem_of hpt (by decide))
    | (with_reducible apply only_fadd; exact mem_of hpt (by decide))
    | (with_reducible apply only_ctxDone; exact List.Subset.trans (by decide) hpt)
    | (with_reducible apply only_ctxProgress; exact List.Subset.trans (by decide) hpt)
    | (with_reducible apply only_onCtx; exact List.Subset.trans (by decide) hpt)
    | split
    | dsimp only

theorem only_sectorCommit {pt : List Part} (hpt : [.caches, .cores, .dram, .dramPoison, .dramWritten, .fld .CCH_HITS, .fld .CCH_MISSES,
    .fld .LDL_FLAGS, .fld .LDL_SECTORS, .fld .SPD_ELASTIC, .spd, .spdPoison] ⊆ pt) (e : Nat) (d : LDesc) (x : SecData) : Eff.Only pt (sectorCommit e
    d x) := by
  unfold sectorCommit
  repeat first
    | with_reducible exact only_nop _
    | with_reducible exact only_seq_nil _
    | with_reducible apply only_seq_cons
    | (with_reducible apply only_rd; intro)
    | with_reducible apply only_either
    | (with_reducible apply only_each; intro _ _)
    | (with_reducible apply only_fadd; exact mem_of hpt (by decide))
    | (with_reducible apply only_cacheAccess; exact List.Subset.trans (by decide) hpt)
    | (with_reducible apply only_dramWr; exact List.Subset.trans (by decide) hpt)
    | (with_reducible apply only_ldlFlags; exact List.Subset.trans (by decide) hpt)
    | (with_reducible apply only_lineWrite; exact List.Subset.trans (by decide) hpt)
    | (with_reducible apply only_spdWr; exact List.Subset.trans (by decide) hpt)
    | with_reducible intro _
    | split
    | dsimp only

theorem only_sectorGo {pt : List Part} (hpt : [.caches, .cores, .dram, .dramPoison, .dramWritten, .ev, .fld .CCH_HITS, .fld .CCH_MISSES,
    .fld .LDL_ERR, .fld .LDL_FLAGS, .fld .LDL_SECTORS, .fld .MOD_FA_FAULT_ADDR, .fld .MOD_FA_FAULT_INFO, .fld .SPD_ELASTIC, .ldls, .msgs, .ports,
    .spd, .spdPoison] ⊆ pt) (e : Nat) (n : Nat) (w : Nat) (arrives : Bool) : Eff.Only pt (sectorGo e n w arrives) := by
  unfold sectorGo
  repeat first
    | with_reducible exact only_nop _
    | with_reducible exact only_seq_nil _
    | with_reducible apply only_seq_cons
    | (with_reducible apply only_rd; intro)
    | (with_reducible apply only_when; intro)
    | with_reducible apply only_either
    | (with_reducible apply only_ctxReads; exact List.Subset.trans (by decide) hpt)
    | (with_reducible apply only_faFault; exact List.Subset.trans (by decide) hpt)
    | (with_reducible apply only_onCtx; exact List.Subset.trans (by decide) hpt)
    | (with_reducible apply only_secReports; exact List.Subset.trans (by decide) hpt)
    | (with_reducible apply only_sectorCommit; exact List.Subset.trans (by decide) hpt)
    | (with_reducible apply only_sendMod; exact List.Subset.trans (by decide) hpt)
    | split
    | dsimp only

theorem only_trackersOpen {pt : List Part} (hpt : [.caches] ⊆ pt) (e : Nat) (n : Nat) (j : LdlJob) : Eff.Only pt (trackersOpen e n j) := by
  unfold trackersOpen
  repeat first
    | (with_reducible apply only_rd; intro)
    | (with_reducible apply only_when; intro)
    | (with_reducible apply only_each; intro _ _)
    | (with_reducible apply only_onCache; exact mem_of hpt (by decide))
    | with_reducible intro _
    | split
    | dsimp only

theorem only_ackTo {pt : List Part} (hpt : [.ports] ⊆ pt) (n : Nat) (e : Nat) : Eff.Only pt (ackTo n e) := by
  unfold ackTo
  repeat first
    | (with_reducible apply only_rd; intro)
    | (with_reducible apply only_when; intro)
    | (with_reducible apply only_onPort; exact mem_of hpt (by decide))
    | dsimp only

theorem only_elCell {pt : List Part} (hpt : [.ports] ⊆ pt) (n : Nat) (c : ElCell) : Eff.Only pt (elCell n c) := by
  unfold elCell
  repeat first
    | (with_reducible apply only_rd; intro)
    | with_reducible apply only_either
    | (with_reducible apply only_onPort; exact mem_of hpt (by decide))

theorem only_schedCell {pt : List Part} (hpt : [.fld .RUN_ERR, .ports] ⊆ pt) (n : Nat) (sseq : Nat) (b : Beat) : Eff.Only pt (schedCell n sseq b) :=
    by
  unfold schedCell
  repeat first
    | with_reducible exact only_seq_nil _
    | with_reducible apply only_seq_cons
    | (with_reducible apply only_rd; intro)
    | (with_reducible apply only_fset; exact mem_of hpt (by decide))
    | (with_reducible apply only_fsat; exact mem_of hpt (by decide))
    | (with_reducible apply only_onPort; exact mem_of hpt (by decide))
    | split
    | dsimp only

theorem only_cellIn {pt : List Part} (hpt : [.fld .RUN_ERR, .ports] ⊆ pt) (n : Nat) (a1 : Cell) : Eff.Only pt (cellIn n a1) := by
  unfold cellIn
  repeat first
    | with_reducible exact only_nop _
    | (with_reducible apply only_onPort; exact mem_of hpt (by decide))
    | (with_reducible apply only_elCell; exact List.Subset.trans (by decide) hpt)
    | (with_reducible apply only_schedCell; exact List.Subset.trans (by decide) hpt)
    | split

theorem only_faultTake {pt : List Part} (hpt : [.ev, .flasks] ⊆ pt) (far : Nat) (tag : Nat) (status : Nat) (fidx : Nat) (tc : Nat) (fa : Nat) (count
    : Nat) : Eff.Only pt (faultTake far tag status fidx tc fa count) := by
  unfold faultTake
  repeat first
    | with_reducible exact only_nop _
    | with_reducible exact only_seq_nil _
    | with_reducible apply only_seq_cons
    | (with_reducible apply only_rd; intro)
    | (with_reducible apply only_raise; exact mem_of hpt (by decide))
    | (with_reducible apply only_onFlask; exact mem_of hpt (by decide))
    | split
    | dsimp only

theorem only_flushAck {pt : List Part} (hpt : [.slots] ⊆ pt) (m : Nat) : Eff.Only pt (flushAck m) := by
  unfold flushAck
  repeat first
    | (with_reducible apply only_rd; intro)
    | (with_reducible apply only_each; intro _ _)
    | (with_reducible apply only_onSlot; exact mem_of hpt (by decide))
    | with_reducible intro _

theorem only_forward {pt : List Part} (hpt : [.ports] ⊆ pt) (r : Nat) (cs : List ElCell) : Eff.Only pt (forward r cs) := by
  unfold forward
  repeat first
    | (with_reducible apply only_onPort; exact mem_of hpt (by decide))

theorem only_popMsg {pt : List Part} (hpt : [.ports] ⊆ pt) (n : Nat) (rsp : Bool) (k : List ElCell → ElCell → Eff) (hk : ∀ x0 x1, Eff.Only pt (k x0
    x1)) : Eff.Only pt (popMsg n rsp k) := by
  unfold popMsg
  repeat first
    | with_reducible exact hk ..
    | with_reducible exact only_nop _
    | with_reducible exact only_seq_nil _
    | with_reducible apply only_seq_cons
    | (with_reducible apply only_rd; intro)
    | (with_reducible apply only_onPort; exact mem_of hpt (by decide))
    | split
    | dsimp only

theorem only_respond {pt : List Part} (hpt : [.msgs, .ports] ⊆ pt) (m : Nat) (tag : Nat) (op : Nat) (status : Nat) (poison : Bool) (data : List
    Byte) : Eff.Only pt (respond m tag op status poison data) := by
  unfold respond
  repeat first
    | (with_reducible apply only_rd; intro)
    | (with_reducible apply only_sendMod; exact List.Subset.trans (by decide) hpt)

theorem only_refuseReq {pt : List Part} (hpt : [.msgs, .ports] ⊆ pt) (m : Nat) (op : Nat) (tag : Nat) (status : Nat) (fa : Nat) : Eff.Only pt
    (refuseReq m op tag status fa) := by
  unfold refuseReq
  repeat first
    | with_reducible exact only_nop _
    | (with_reducible apply only_respond; exact List.Subset.trans (by decide) hpt)
    | (with_reducible apply only_writeFault; exact List.Subset.trans (by decide) hpt)
    | split
    | dsimp only

theorem only_releaseBeat {pt : List Part} (hpt : [.fld .RUN_ERR, .fld .RUN_SCHED, .freeCtr, .msgs, .ports] ⊆ pt) (n : Nat) (sc : Nat) (r : RunSlot)
    (e : SprSlot) : Eff.Only pt (releaseBeat n sc r e) := by
  unfold releaseBeat
  repeat first
    | with_reducible exact only_nop _
    | with_reducible exact only_seq_nil _
    | with_reducible apply only_seq_cons
    | (with_reducible apply only_rd; intro)
    | (with_reducible apply only_when; intro)
    | with_reducible apply only_either
    | (with_reducible apply only_draw; · exact mem_of hpt (by decide))
    | (with_reducible apply only_fset; exact mem_of hpt (by decide))
    | (with_reducible apply only_fadd; exact mem_of hpt (by decide))
    | (with_reducible apply only_fsat; exact mem_of hpt (by decide))
    | (with_reducible apply only_send; exact mem_of hpt (by decide))
    | (with_reducible apply only_onPort; exact mem_of hpt (by decide))
    | (with_reducible apply only_writeFault; exact List.Subset.trans (by decide) hpt)
    | with_reducible intro _
    | split
    | dsimp only

theorem only_resend {pt : List Part} (hpt : [.fld .RUN_ELASTIC, .ports] ⊆ pt) (n : Nat) : Eff.Only pt (resend n) := by
  unfold resend
  repeat first
    | with_reducible exact only_seq_nil _
    | with_reducible apply only_seq_cons
    | (with_reducible apply only_rd; intro)
    | (with_reducible apply only_when; intro)
    | (with_reducible apply only_fsat; exact mem_of hpt (by decide))
    | (with_reducible apply only_onPort; exact mem_of hpt (by decide))

theorem only_creditTake {pt : List Part} (hpt : [.queues] ⊆ pt) (q : Nat) (consumed : Nat) : Eff.Only pt (creditTake q consumed) := by
  unfold creditTake
  repeat first
    | (with_reducible apply only_rd; intro)
    | (with_reducible apply only_when; intro)
    | (with_reducible apply only_onQueue; exact mem_of hpt (by decide))

theorem only_serveReq {pt : List Part} (hpt : [.caches, .cores, .dram, .dramPoison, .dramWritten, .ev, .fld .CCH_HITS, .fld .CCH_MISSES,
    .fld .CORE_QSTAT, .fld .MOD_FA_FAULT_ADDR, .fld .MOD_FA_FAULT_INFO, .fld .MOD_HOST_ERR_p, .fld .PWR_TELEM_IN_p, .fld .QUEUE_BASE,
    .fld .QUEUE_CTL, .fld .QUEUE_LEVEL, .fld .QUEUE_STAT, .fld .QUEUE_WM, .fld .SPD_ELASTIC, .flds, .msgs, .ports, .queues, .spd, .spdPoison] ⊆ pt)
    (src : Nat) (bs : List Byte) (poison : Bool) : Eff.Only pt (serveReq src bs poison) := by
  unfold serveReq
  repeat first
    | with_reducible exact only_nop _
    | (with_reducible apply only_rd; intro)
    | (with_reducible apply only_when; intro)
    | with_reducible apply only_either
    | (with_reducible apply only_arriveAfter; exact List.Subset.trans (by decide) hpt)
    | (with_reducible apply only_creditTake; exact List.Subset.trans (by decide) hpt)
    | (with_reducible apply only_faFault; exact List.Subset.trans (by decide) hpt)
    | (with_reducible apply only_respond; exact List.Subset.trans (by decide) hpt)
    | (with_reducible apply only_serve; · exact List.Subset.trans (by decide) hpt)
    | (with_reducible apply only_writeFault; exact List.Subset.trans (by decide) hpt)
    | with_reducible intro _
    | split
    | dsimp only

theorem only_ringSet {pt : List Part} (hpt : [.ev, .fld .MOD_EVR_HEAD_n, .fld .MOD_EVR_TAIL_n, .hostOut, .hports, .rings] ⊆ pt) (n : Nat) (port :
    Nat) (depth : Nat) (vector : Nat) (base : Nat) : Eff.Only pt (ringSet n port depth vector base) := by
  unfold ringSet
  repeat first
    | with_reducible exact only_seq_nil _
    | with_reducible apply only_seq_cons
    | (with_reducible apply only_rd; intro)
    | (with_reducible apply only_when; intro)
    | with_reducible apply only_either
    | (with_reducible apply only_each; intro _ _)
    | (with_reducible apply only_fset; exact mem_of hpt (by decide))
    | (with_reducible apply only_onRing; exact mem_of hpt (by decide))
    | (with_reducible apply only_ringLose; exact List.Subset.trans (by decide) hpt)
    | (with_reducible apply only_ringReport; exact List.Subset.trans (by decide) hpt)
    | (with_reducible apply only_ringStatus; exact List.Subset.trans (by decide) hpt)
    | (with_reducible apply only_ringWrite; exact List.Subset.trans (by decide) hpt)
    | with_reducible intro _
    | with_reducible apply only_updates
    | with_reducible exact within_nil _
    | (with_reducible apply within_cons; · exact mem_of hpt (by dsimp only [Upd.part]; decide))
    | with_reducible apply within_append
    | (with_reducible apply within_map; intros; exact mem_of hpt (by dsimp only [Upd.part]; decide))
    | (with_reducible apply within_flatMap; intro _ _)

theorem only_sidebandAnswer {pt : List Part} (hpt : [.resp] ⊆ pt) : Eff.Only pt (sidebandAnswer ) := by
  unfold sidebandAnswer
  repeat first
    | (with_reducible apply only_rd; intro)
    | (with_reducible apply only_answer; exact mem_of hpt (by decide))

theorem only_armLocal {pt : List Part} (hpt : [.flasks, .slots] ⊆ pt) (k : Nat) (f : Nat) (kind : HaltKind) (quiesce : Bool) (target : Nat) :
    Eff.Only pt (armLocal k f kind quiesce target) := by
  unfold armLocal
  repeat first
    | with_reducible exact only_seq_nil _
    | with_reducible apply only_seq_cons
    | (with_reducible apply only_onFlask; exact mem_of hpt (by decide))
    | (with_reducible apply only_onSlot; exact mem_of hpt (by decide))
    | split

theorem only_mouldRegs {pt : List Part} (hpt : [.fld .CORE_MOULD, .fld .CORE_STAT] ⊆ pt) (f : Nat) : Eff.Only pt (mouldRegs f) := by
  unfold mouldRegs
  repeat first
    | with_reducible exact only_seq_nil _
    | with_reducible apply only_seq_cons
    | (with_reducible apply only_rd; intro)
    | (with_reducible apply only_each; intro _ _)
    | (with_reducible apply only_fset; exact mem_of hpt (by decide))
    | (with_reducible apply only_fput; exact mem_of hpt (by decide))
    | with_reducible intro _
    | dsimp only

theorem only_sendDigests {pt : List Part} (hpt : [.msgs] ⊆ pt) (f : Nat) : Eff.Only pt (sendDigests f) := by
  unfold sendDigests
  repeat first
    | (with_reducible apply only_rd; intro)
    | (with_reducible apply only_each; intro _ _)
    | (with_reducible apply only_send; exact mem_of hpt (by decide))
    | with_reducible intro _
    | dsimp only

theorem only_dropBinding {pt : List Part} (hpt : [.fld .QUEUE_BASE, .fld .QUEUE_CTL, .fld .QUEUE_DB, .fld .QUEUE_LEVEL, .fld .QUEUE_STAT,
    .fld .QUEUE_WM, .queues] ⊆ pt) (q : Nat) : Eff.Only pt (dropBinding q) := by
  unfold dropBinding
  repeat first
    | with_reducible apply only_updates
    | with_reducible exact within_nil _
    | (with_reducible apply within_drop; · exact fun i hi => mem_of hpt (by revert i; decide))
    | (with_reducible apply within_cons; · exact mem_of hpt (by dsimp only [Upd.part]; decide))
    | with_reducible apply within_append
    | (with_reducible apply within_map; intros; exact mem_of hpt (by dsimp only [Upd.part]; decide))
    | (with_reducible apply within_flatMap; intro _ _)

theorem only_putBinding {pt : List Part} (hpt : [.fld .QUEUE_BASE, .fld .QUEUE_CTL, .fld .QUEUE_DB, .fld .QUEUE_LEVEL, .fld .QUEUE_STAT,
    .fld .QUEUE_WM, .queues] ⊆ pt) (q : Nat) (b : List Byte) : Eff.Only pt (putBinding q b) := by
  unfold putBinding
  repeat first
    | (with_reducible apply only_queueBindHost; exact List.Subset.trans (by decide) hpt)
    | with_reducible apply only_updates
    | with_reducible exact within_nil _
    | (with_reducible apply within_drop; · exact fun i hi => mem_of hpt (by revert i; decide))
    | (with_reducible apply within_cons; · exact mem_of hpt (by dsimp only [Upd.part]; decide))
    | with_reducible apply within_append
    | (with_reducible apply within_map; intros; exact mem_of hpt (by dsimp only [Upd.part]; decide))
    | (with_reducible apply within_flatMap; intro _ _)
    | split
    | dsimp only

theorem only_switchQueues {pt : List Part} (hpt : [.fld .QUEUE_BASE, .fld .QUEUE_CTL, .fld .QUEUE_DB, .fld .QUEUE_LEVEL, .fld .QUEUE_STAT,
    .fld .QUEUE_WM, .queues] ⊆ pt) (old : MouldSt) (new : MouldSt) : Eff.Only pt (switchQueues old new) := by
  unfold switchQueues
  repeat first
    | with_reducible exact only_seq_nil _
    | with_reducible apply only_seq_cons
    | (with_reducible apply only_each; intro _ _)
    | (with_reducible apply only_dropBinding; exact List.Subset.trans (by decide) hpt)
    | (with_reducible apply only_putBinding; exact List.Subset.trans (by decide) hpt)
    | with_reducible intro _
    | dsimp only

theorem only_bankSwap {pt : List Part} (hpt : [.cores, .flasks, .fld .CORE_MOULD, .fld .CORE_SC, .fld .CORE_SEQ, .fld .CORE_STAT,
    .fld .MOD_GRID_STAT, .fld .QUEUE_BASE, .fld .QUEUE_CTL, .fld .QUEUE_DB, .fld .QUEUE_LEVEL, .fld .QUEUE_STAT, .fld .QUEUE_WM, .fld .SPR_STAT,
    .msgs, .queues] ⊆ pt) (f : Nat) (st : Nat) : Eff.Only pt (bankSwap f st) := by
  unfold bankSwap
  repeat first
    | with_reducible exact only_seq_nil _
    | with_reducible apply only_seq_cons
    | (with_reducible apply only_rd; intro)
    | (with_reducible apply only_when; intro)
    | (with_reducible apply only_each; intro _ _)
    | (with_reducible apply only_fset; exact mem_of hpt (by decide))
    | (with_reducible apply only_onFlask; exact mem_of hpt (by decide))
    | (with_reducible apply only_compatEnd; exact List.Subset.trans (by decide) hpt)
    | (with_reducible apply only_compatPut; exact List.Subset.trans (by decide) hpt)
    | (with_reducible apply only_mouldRegs; exact List.Subset.trans (by decide) hpt)
    | (with_reducible apply only_progStart; exact List.Subset.trans (by decide) hpt)
    | (with_reducible apply only_sendDigests; exact List.Subset.trans (by decide) hpt)
    | (with_reducible apply only_setFlaskState; exact List.Subset.trans (by decide) hpt)
    | (with_reducible apply only_switchQueues; exact List.Subset.trans (by decide) hpt)
    | with_reducible intro _
    | dsimp only

theorem only_ctlAckUp {pt : List Part} (hpt : [.ctl, .msgs] ⊆ pt) : Eff.Only pt (ctlAckUp ) := by
  unfold ctlAckUp
  repeat first
    | with_reducible exact only_nop _
    | with_reducible exact only_seq_nil _
    | with_reducible apply only_seq_cons
    | (with_reducible apply only_rd; intro)
    | (with_reducible apply only_when; intro)
    | (with_reducible apply only_send; exact mem_of hpt (by decide))
    | with_reducible apply only_updates
    | with_reducible exact within_nil _
    | (with_reducible apply within_cons; · exact mem_of hpt (by dsimp only [Upd.part]; decide))
    | with_reducible apply within_append
    | (with_reducible apply within_map; intros; exact mem_of hpt (by dsimp only [Upd.part]; decide))
    | (with_reducible apply within_flatMap; intro _ _)
    | split
    | dsimp only

theorem only_ctlTake {pt : List Part} (hpt : [.ctl, .msgs] ⊆ pt) (r : CtlRec) (slot : Option Nat) : Eff.Only pt (ctlTake r slot) := by
  unfold ctlTake
  repeat first
    | with_reducible exact only_seq_nil _
    | with_reducible apply only_seq_cons
    | (with_reducible apply only_rd; intro)
    | (with_reducible apply only_ctlAckUp; exact List.Subset.trans (by decide) hpt)
    | with_reducible apply only_updates
    | with_reducible exact within_nil _
    | (with_reducible apply within_cons; · exact mem_of hpt (by dsimp only [Upd.part]; decide))
    | with_reducible apply within_append
    | (with_reducible apply within_map; intros; exact mem_of hpt (by dsimp only [Upd.part]; decide))
    | (with_reducible apply within_flatMap; intro _ _)

theorem only_ctlArmFor {pt : List Part} (hpt : [.ctl, .dec, .msgs, .slots] ⊆ pt) (k : Nat) (kind : Nat) (id : Nat) (target : Nat) : Eff.Only pt
    (ctlArmFor k kind id target) := by
  unfold ctlArmFor
  repeat first
    | with_reducible exact only_seq_nil _
    | with_reducible apply only_seq_cons
    | (with_reducible apply only_rd; intro)
    | (with_reducible apply only_send; exact mem_of hpt (by decide))
    | (with_reducible apply only_onSlot; exact mem_of hpt (by decide))
    | (with_reducible apply only_ctlTake; exact List.Subset.trans (by decide) hpt)
    | with_reducible apply only_updates
    | with_reducible exact within_nil _
    | (with_reducible apply within_cons; · exact mem_of hpt (by dsimp only [Upd.part]; decide))
    | with_reducible apply within_append
    | (with_reducible apply within_map; intros; exact mem_of hpt (by dsimp only [Upd.part]; decide))
    | (with_reducible apply within_flatMap; intro _ _)
    | dsimp only

theorem only_writeInit {pt : List Part} (hpt : [.cores, .fld .SPD_ELASTIC, .spd, .spdPoison] ⊆ pt) (m : MouldSt) : Eff.Only pt (writeInit m) := by
  unfold writeInit
  repeat first
    | with_reducible exact only_nop _
    | with_reducible exact only_seq_nil _
    | with_reducible apply only_seq_cons
    | (with_reducible apply only_rd; intro)
    | (with_reducible apply only_each; intro _ _)
    | (with_reducible apply only_gatherFlushAll; exact List.Subset.trans (by decide) hpt)
    | (with_reducible apply only_spdWr; exact List.Subset.trans (by decide) hpt)
    | with_reducible intro _
    | split
    | dsimp only

theorem only_loadFirst {pt : List Part} (hpt : [.cores, .flasks, .fld .CORE_MOULD, .fld .CORE_SC, .fld .CORE_SEQ, .fld .CORE_STAT, .fld .ME_STAT,
    .fld .MOD_GRID_STAT, .fld .QUEUE_BASE, .fld .QUEUE_CTL, .fld .QUEUE_DB, .fld .QUEUE_LEVEL, .fld .QUEUE_STAT, .fld .QUEUE_WM, .fld .SE_STAT,
    .fld .SPD_ELASTIC, .fld .SPR_STAT, .fld .VU_STAT, .mes, .queues, .ses, .spd, .spdPoison, .vus] ⊆ pt) (f : Nat) (m : MouldSt) : Eff.Only pt
    (loadFirst f m) := by
  unfold loadFirst
  repeat first
    | with_reducible exact only_seq_nil _
    | with_reducible apply only_seq_cons
    | (with_reducible apply only_rd; intro)
    | (with_reducible apply only_when; intro)
    | (with_reducible apply only_each; intro _ _)
    | (with_reducible apply only_onFlask; exact mem_of hpt (by decide))
    | (with_reducible apply only_compatEnd; exact List.Subset.trans (by decide) hpt)
    | (with_reducible apply only_compatPut; exact List.Subset.trans (by decide) hpt)
    | (with_reducible apply only_coreStop; exact List.Subset.trans (by decide) hpt)
    | (with_reducible apply only_dropBinding; exact List.Subset.trans (by decide) hpt)
    | (with_reducible apply only_mouldRegs; exact List.Subset.trans (by decide) hpt)
    | (with_reducible apply only_progStart; exact List.Subset.trans (by decide) hpt)
    | (with_reducible apply only_putBinding; exact List.Subset.trans (by decide) hpt)
    | (with_reducible apply only_setFlaskState; exact List.Subset.trans (by decide) hpt)
    | (with_reducible apply only_writeInit; exact List.Subset.trans (by decide) hpt)
    | with_reducible intro _

theorem only_loadLost {pt : List Part} (hpt : [.cores, .flasks, .fld .CORE_MOULD, .fld .CORE_SC, .fld .CORE_SEQ, .fld .CORE_STAT, .fld .ME_STAT,
    .fld .MOD_GRID_STAT, .fld .QUEUE_BASE, .fld .QUEUE_CTL, .fld .QUEUE_DB, .fld .QUEUE_LEVEL, .fld .QUEUE_STAT, .fld .QUEUE_WM, .fld .SE_STAT,
    .fld .SPR_STAT, .fld .VU_STAT, .mes, .queues, .ses, .vus] ⊆ pt) (f : Nat) : Eff.Only pt (loadLost f) := by
  unfold loadLost
  repeat first
    | with_reducible exact only_seq_nil _
    | with_reducible apply only_seq_cons
    | (with_reducible apply only_rd; intro)
    | (with_reducible apply only_each; intro _ _)
    | (with_reducible apply only_onFlask; exact mem_of hpt (by decide))
    | (with_reducible apply only_compatEnd; exact List.Subset.trans (by decide) hpt)
    | (with_reducible apply only_coreReset; exact List.Subset.trans (by decide) hpt)
    | with_reducible intro _

theorem only_pourArm {pt : List Part} (hpt : [.ctl, .dec, .fld .MOD_MB_SUMMARY, .hostOut, .hports, .msgs, .slots] ⊆ pt) (k : Nat) (kind : Nat) (id :
    Nat) (target : Nat) : Eff.Only pt (pourArm k kind id target) := by
  unfold pourArm
  repeat first
    | (with_reducible apply only_rd; intro)
    | (with_reducible apply only_when; intro)
    | (with_reducible apply only_ctlArmFor; exact List.Subset.trans (by decide) hpt)
    | (with_reducible apply only_mbFail; exact List.Subset.trans (by decide) hpt)
    | split

theorem only_resetFor {pt : List Part} (hpt : [.cores, .dbg, .flasks, .fld .CORE_MOULD, .fld .CORE_SC, .fld .CORE_SEQ, .fld .CORE_STAT,
    .fld .DBG_HOLD, .fld .LDL_CTX_n, .fld .ME_STAT, .fld .MOD_GRID_STAT, .fld .MOD_MB_SUMMARY, .fld .QUEUE_BASE, .fld .QUEUE_CTL, .fld .QUEUE_DB,
    .fld .QUEUE_LEVEL, .fld .QUEUE_STAT, .fld .QUEUE_WM, .fld .SE_STAT, .fld .SPR_STAT, .fld .VU_STAT, .hostOut, .hports, .ldls, .mes, .pour,
    .queues, .ses, .slots, .vus] ⊆ pt) (k : Nat) (f : Nat) : Eff.Only pt (resetFor k f) := by
  unfold resetFor
  repeat first
    | with_reducible exact only_seq_nil _
    | with_reducible apply only_seq_cons
    | (with_reducible apply only_rd; intro)
    | with_reducible apply only_either
    | (with_reducible apply only_onSlot; exact mem_of hpt (by decide))
    | (with_reducible apply only_flaskReset; exact List.Subset.trans (by decide) hpt)
    | (with_reducible apply only_mbDone; exact List.Subset.trans (by decide) hpt)
    | (with_reducible apply only_readyAgain; exact List.Subset.trans (by decide) hpt)
    | dsimp only

theorem only_startFlasks {pt : List Part} (hpt : [.flasks] ⊆ pt) (t : Nat) : Eff.Only pt (startFlasks t) := by
  unfold startFlasks
  repeat first
    | (with_reducible apply only_rd; intro)
    | (with_reducible apply only_when; intro)
    | (with_reducible apply only_each; intro _ _)
    | (with_reducible apply only_onFlask; exact mem_of hpt (by decide))
    | with_reducible intro _

theorem only_doneUp {pt : List Part} (hpt : [.ctl, .flasks, .msgs] ⊆ pt) : Eff.Only pt (doneUp ) := by
  unfold doneUp
  repeat first
    | with_reducible exact only_nop _
    | with_reducible exact only_seq_nil _
    | with_reducible apply only_seq_cons
    | (with_reducible apply only_rd; intro)
    | (with_reducible apply only_when; intro)
    | with_reducible apply only_either
    | (with_reducible apply only_send; exact mem_of hpt (by decide))
    | (with_reducible apply only_startFlasks; exact List.Subset.trans (by decide) hpt)
    | with_reducible apply only_updates
    | with_reducible exact within_nil _
    | (with_reducible apply within_cons; · exact mem_of hpt (by dsimp only [Upd.part]; decide))
    | with_reducible apply within_append
    | (with_reducible apply within_map; intros; exact mem_of hpt (by dsimp only [Upd.part]; decide))
    | (with_reducible apply within_flatMap; intro _ _)
    | split
    | dsimp only

theorem only_switchHalted {pt : List Part} (hpt : [.cores, .ctl, .flasks, .fld .CORE_MOULD, .fld .CORE_SC, .fld .CORE_SEQ, .fld .CORE_STAT,
    .fld .MOD_GRID_STAT, .fld .QUEUE_BASE, .fld .QUEUE_CTL, .fld .QUEUE_DB, .fld .QUEUE_LEVEL, .fld .QUEUE_STAT, .fld .QUEUE_WM, .fld .SPR_STAT,
    .msgs, .queues] ⊆ pt) (f : Nat) : Eff.Only pt (switchHalted f) := by
  unfold switchHalted
  repeat first
    | with_reducible exact only_seq_nil _
    | with_reducible apply only_seq_cons
    | (with_reducible apply only_rd; intro)
    | with_reducible apply only_either
    | (with_reducible apply only_onFlask; exact mem_of hpt (by decide))
    | (with_reducible apply only_bankSwap; exact List.Subset.trans (by decide) hpt)
    | (with_reducible apply only_doneUp; exact List.Subset.trans (by decide) hpt)

theorem only_haltBeacon {pt : List Part} (hpt : [.msgs] ⊆ pt) (cause : Nat) : Eff.Only pt (haltBeacon cause) := by
  unfold haltBeacon
  repeat first
    | (with_reducible apply only_rd; intro)
    | (with_reducible apply only_when; intro)
    | (with_reducible apply only_send; exact mem_of hpt (by decide))

theorem only_pend {pt : List Part} (hpt : [.ev, .faults, .fld .MOD_FAULT_STAT] ⊆ pt) (kind : Nat) (loc : Nat) (reason : Nat) (say : Bool) : Eff.Only
    pt (pend kind loc reason say) := by
  unfold pend
  repeat first
    | with_reducible exact only_seq_nil _
    | with_reducible apply only_seq_cons
    | (with_reducible apply only_rd; intro)
    | (with_reducible apply only_when; intro)
    | (with_reducible apply only_raise; exact mem_of hpt (by decide))
    | (with_reducible apply only_pendingFlag; exact List.Subset.trans (by decide) hpt)
    | with_reducible apply only_updates
    | with_reducible exact within_nil _
    | (with_reducible apply within_cons; · exact mem_of hpt (by dsimp only [Upd.part]; decide))
    | with_reducible apply within_append
    | (with_reducible apply within_map; intros; exact mem_of hpt (by dsimp only [Upd.part]; decide))
    | (with_reducible apply within_flatMap; intro _ _)

theorem only_fenceDone {pt : List Part} (hpt : [.fld .MOD_MB_SUMMARY, .hostOut, .hports, .slots] ⊆ pt) (k : Nat) : Eff.Only pt (fenceDone k) := by
  unfold fenceDone
  repeat first
    | (with_reducible apply only_rd; intro)
    | (with_reducible apply only_mbDone; exact List.Subset.trans (by decide) hpt)

theorem only_repairHalt {pt : List Part} (hpt : [.flasks] ⊆ pt) (host : Bool) (f : Nat) : Eff.Only pt (repairHalt host f) := by
  unfold repairHalt
  repeat first
    | (with_reducible apply only_rd; intro)
    | (with_reducible apply only_when; intro)
    | (with_reducible apply only_onFlask; exact mem_of hpt (by decide))
    | split

theorem only_repairRun {pt : List Part} (hpt : [.cores, .dbg, .ev, .faults, .flasks, .fld .CLU_CORES, .fld .CORE_MOULD, .fld .CORE_SC,
    .fld .CORE_SEQ, .fld .CORE_STAT, .fld .DBG_HOLD, .fld .LDL_CTX_n, .fld .ME_CAP, .fld .ME_STAT, .fld .MOD_BOOT_ERR, .fld .MOD_FAULT_STAT,
    .fld .MOD_GRID_STAT, .fld .MOD_MB_SUMMARY, .fld .MOD_ROW_MAP_r, .fld .PWR_CLUSTER_c, .fld .PWR_TILE_t, .fld .QUEUE_BASE, .fld .QUEUE_CTL,
    .fld .QUEUE_DB, .fld .QUEUE_LEVEL, .fld .QUEUE_STAT, .fld .QUEUE_WM, .fld .RUN_ERR, .fld .RUN_STAT, .fld .SE_STAT, .fld .SPD_ELASTIC,
    .fld .SPD_STAT, .fld .SPR_STAT, .fld .VU_STAT, .hostOut, .hports, .ldls, .mes, .msgs, .ports, .power, .queues, .seam, .ses, .slag, .slots, .vus]
    ⊆ pt) (a0 : Nat) : Eff.Only pt (repairRun a0) := by
  induction a0 with
  | zero => exact only_nop _
  | succ n ih =>
    refine only_rd fun s => ?_
    split
    · exact only_nop _
    · dsimp only
      split
      · refine only_seq_cons (only_updates (within_cons (mem_of hpt (by dsimp only [Upd.part]; decide)) (within_nil _)))
          (only_seq_cons (by apply only_repairDo; exact List.Subset.trans (by decide) hpt) (only_seq_cons ?_ (only_seq_cons ih (only_seq_nil _))))
        split
        · exact only_when fun _ => by apply only_fenceDone; exact List.Subset.trans (by decide) hpt
        · exact only_nop _
      · exact only_each fun _ _ => by apply only_repairHalt; exact List.Subset.trans (by decide) hpt

theorem only_repairs {pt : List Part} (hpt : [.cores, .dbg, .ev, .faults, .flasks, .fld .CLU_CORES, .fld .CORE_MOULD, .fld .CORE_SC, .fld .CORE_SEQ,
    .fld .CORE_STAT, .fld .DBG_HOLD, .fld .LDL_CTX_n, .fld .ME_CAP, .fld .ME_STAT, .fld .MOD_BOOT_ERR, .fld .MOD_FAULT_STAT, .fld .MOD_GRID_STAT,
    .fld .MOD_MB_SUMMARY, .fld .MOD_ROW_MAP_r, .fld .PWR_CLUSTER_c, .fld .PWR_TILE_t, .fld .QUEUE_BASE, .fld .QUEUE_CTL, .fld .QUEUE_DB,
    .fld .QUEUE_LEVEL, .fld .QUEUE_STAT, .fld .QUEUE_WM, .fld .RUN_ERR, .fld .RUN_STAT, .fld .SE_STAT, .fld .SPD_ELASTIC, .fld .SPD_STAT,
    .fld .SPR_STAT, .fld .VU_STAT, .hostOut, .hports, .ldls, .mes, .msgs, .ports, .power, .queues, .seam, .ses, .slag, .slots, .vus] ⊆ pt) :
    Eff.Only pt (repairs ) := by
  unfold repairs
  repeat first
    | (with_reducible apply only_rd; intro)
    | (with_reducible apply only_repairRun; exact List.Subset.trans (by decide) hpt)

theorem only_repairAsk {pt : List Part} (hpt : [.cores, .dbg, .ev, .faults, .flasks, .fld .CLU_CORES, .fld .CORE_MOULD, .fld .CORE_SC,
    .fld .CORE_SEQ, .fld .CORE_STAT, .fld .DBG_HOLD, .fld .LDL_CTX_n, .fld .ME_CAP, .fld .ME_STAT, .fld .MOD_BOOT_ERR, .fld .MOD_FAULT_STAT,
    .fld .MOD_GRID_STAT, .fld .MOD_MB_SUMMARY, .fld .MOD_ROW_MAP_r, .fld .PWR_CLUSTER_c, .fld .PWR_TILE_t, .fld .QUEUE_BASE, .fld .QUEUE_CTL,
    .fld .QUEUE_DB, .fld .QUEUE_LEVEL, .fld .QUEUE_STAT, .fld .QUEUE_WM, .fld .RUN_ERR, .fld .RUN_STAT, .fld .SE_STAT, .fld .SPD_ELASTIC,
    .fld .SPD_STAT, .fld .SPR_STAT, .fld .VU_STAT, .hostOut, .hports, .ldls, .mes, .msgs, .ports, .power, .queues, .seam, .ses, .slag, .slots, .vus]
    ⊆ pt) (kind : Nat) (loc : Nat) (reason : Nat) (slot : Option Nat) : Eff.Only pt (repairAsk kind loc reason slot) := by
  unfold repairAsk
  repeat first
    | with_reducible exact only_seq_nil _
    | with_reducible apply only_seq_cons
    | (with_reducible apply only_rd; intro)
    | (with_reducible apply only_repairs; exact List.Subset.trans (by decide) hpt)
    | with_reducible apply only_updates
    | with_reducible exact within_nil _
    | (with_reducible apply within_cons; · exact mem_of hpt (by dsimp only [Upd.part]; decide))
    | with_reducible apply within_append
    | (with_reducible apply within_map; intros; exact mem_of hpt (by dsimp only [Upd.part]; decide))
    | (with_reducible apply within_flatMap; intro _ _)

theorem only_autoRepair {pt : List Part} (hpt : [.cores, .dbg, .ev, .faults, .flasks, .fld .CLU_CORES, .fld .CORE_MOULD, .fld .CORE_SC,
    .fld .CORE_SEQ, .fld .CORE_STAT, .fld .DBG_HOLD, .fld .LDL_CTX_n, .fld .ME_CAP, .fld .ME_STAT, .fld .MOD_BOOT_ERR, .fld .MOD_FAULT_STAT,
    .fld .MOD_GRID_STAT, .fld .MOD_MB_SUMMARY, .fld .MOD_ROW_MAP_r, .fld .PWR_CLUSTER_c, .fld .PWR_TILE_t, .fld .QUEUE_BASE, .fld .QUEUE_CTL,
    .fld .QUEUE_DB, .fld .QUEUE_LEVEL, .fld .QUEUE_STAT, .fld .QUEUE_WM, .fld .RUN_ERR, .fld .RUN_STAT, .fld .SE_STAT, .fld .SPD_ELASTIC,
    .fld .SPD_STAT, .fld .SPR_STAT, .fld .VU_STAT, .hostOut, .hports, .ldls, .mes, .msgs, .ports, .power, .queues, .seam, .ses, .slag, .slots, .vus]
    ⊆ pt) (kind : Nat) (loc : Nat) (reason : Nat) : Eff.Only pt (autoRepair kind loc reason) := by
  unfold autoRepair
  repeat first
    | (with_reducible apply only_rd; intro)
    | (with_reducible apply only_pend; exact List.Subset.trans (by decide) hpt)
    | (with_reducible apply only_repairAsk; exact List.Subset.trans (by decide) hpt)
    | (with_reducible apply only_repairDo; exact List.Subset.trans (by decide) hpt)
    | split
    | dsimp only

theorem only_pepCulprit {pt : List Part} (hpt : [.cores, .dbg, .ev, .faults, .flasks, .fld .CLU_CORES, .fld .CORE_MOULD, .fld .CORE_SC,
    .fld .CORE_SEQ, .fld .CORE_STAT, .fld .DBG_HOLD, .fld .LDL_CTX_n, .fld .ME_CAP, .fld .ME_STAT, .fld .MOD_BOOT_ERR, .fld .MOD_FAULT_STAT,
    .fld .MOD_GRID_STAT, .fld .MOD_MB_SUMMARY, .fld .MOD_ROW_MAP_r, .fld .PEP_LAST, .fld .PEP_RESOLVE, .fld .PWR_CLUSTER_c, .fld .PWR_TILE_t,
    .fld .QUEUE_BASE, .fld .QUEUE_CTL, .fld .QUEUE_DB, .fld .QUEUE_LEVEL, .fld .QUEUE_STAT, .fld .QUEUE_WM, .fld .RUN_ERR, .fld .RUN_STAT,
    .fld .SE_STAT, .fld .SPD_ELASTIC, .fld .SPD_STAT, .fld .SPR_STAT, .fld .VU_STAT, .hostOut, .hports, .ldls, .mes, .msgs, .ports, .power, .queues,
    .seam, .ses, .slag, .slots, .vus] ⊆ pt) (p : Nat) (u : Nat) (n : Nat) (column : Option (Fin 32)) : Eff.Only pt (pepCulprit p u n column) := by
  unfold pepCulprit
  repeat first
    | with_reducible exact only_seq_nil _
    | with_reducible apply only_seq_cons
    | (with_reducible apply only_rd; intro)
    | (with_reducible apply only_fset; exact mem_of hpt (by decide))
    | (with_reducible apply only_fput; exact mem_of hpt (by decide))
    | (with_reducible apply only_fsat; exact mem_of hpt (by decide))
    | (with_reducible apply only_raise; exact mem_of hpt (by decide))
    | (with_reducible apply only_autoRepair; exact List.Subset.trans (by decide) hpt)
    | split
    | dsimp only

theorem only_pepFrame {pt : List Part} (hpt : [.fld .PEP_CTL, .fld .PEP_STAT, .pep] ⊆ pt) : Eff.Only pt (pepFrame ) := by
  unfold pepFrame
  repeat first
    | with_reducible exact only_nop _
    | with_reducible exact only_seq_nil _
    | with_reducible apply only_seq_cons
    | (with_reducible apply only_rd; intro)
    | (with_reducible apply only_when; intro)
    | (with_reducible apply only_fset; exact mem_of hpt (by decide))
    | (with_reducible apply only_fsat; exact mem_of hpt (by decide))
    | with_reducible apply only_updates
    | with_reducible exact within_nil _
    | (with_reducible apply within_cons; · exact mem_of hpt (by dsimp only [Upd.part]; decide))
    | with_reducible apply within_append
    | (with_reducible apply within_map; intros; exact mem_of hpt (by dsimp only [Upd.part]; decide))
    | (with_reducible apply within_flatMap; intro _ _)
    | split
    | dsimp only

theorem only_pepSweep {pt : List Part} (hpt : [.fld .PEP_SWEEP, .pep] ⊆ pt) : Eff.Only pt (pepSweep ) := by
  unfold pepSweep
  repeat first
    | with_reducible exact only_seq_nil _
    | with_reducible apply only_seq_cons
    | (with_reducible apply only_rd; intro)
    | (with_reducible apply only_when; intro)
    | (with_reducible apply only_fset; exact mem_of hpt (by decide))
    | with_reducible apply only_updates
    | with_reducible exact within_nil _
    | (with_reducible apply within_cons; · exact mem_of hpt (by dsimp only [Upd.part]; decide))
    | with_reducible apply within_append
    | (with_reducible apply within_map; intros; exact mem_of hpt (by dsimp only [Upd.part]; decide))
    | (with_reducible apply within_flatMap; intro _ _)
    | dsimp only

theorem only_redundancyBad {pt : List Part} (hpt : [.cores, .dbg, .ev, .faults, .flasks, .fld .CORE_MOULD, .fld .CORE_SC, .fld .CORE_SEQ,
    .fld .CORE_STAT, .fld .DBG_HOLD, .fld .LDL_CTX_n, .fld .ME_STAT, .fld .MOD_FAULT_STAT, .fld .MOD_GRID_STAT, .fld .MOD_MB_SUMMARY,
    .fld .QUEUE_BASE, .fld .QUEUE_CTL, .fld .QUEUE_DB, .fld .QUEUE_LEVEL, .fld .QUEUE_STAT, .fld .QUEUE_WM, .fld .SE_STAT, .fld .SPR_STAT,
    .fld .VU_STAT, .hostOut, .hports, .ldls, .mes, .msgs, .queues, .ses, .slots, .vus] ⊆ pt) (p : Nat) (u : Nat) (tag : Nat) (tileTc : Nat) (primary
    : Nat) (shadow : Nat) : Eff.Only pt (redundancyBad p u tag tileTc primary shadow) := by
  unfold redundancyBad
  repeat first
    | with_reducible exact only_nop _
    | (with_reducible apply only_rd; intro)
    | (with_reducible apply only_when; intro)
    | (with_reducible apply only_contain; exact List.Subset.trans (by decide) hpt)
    | split
    | dsimp only

theorem only_ctlCommit {pt : List Part} (hpt : [.dbg, .flasks, .fld .DBG_HOLD] ⊆ pt) (r : CtlRec) (slot : Option Nat) : Eff.Only pt (ctlCommit r
    slot) := by
  unfold ctlCommit
  repeat first
    | with_reducible exact only_nop _
    | with_reducible exact only_seq_nil _
    | with_reducible apply only_seq_cons
    | (with_reducible apply only_rd; intro)
    | (with_reducible apply only_when; intro)
    | (with_reducible apply only_each; intro _ _)
    | (with_reducible apply only_onFlask; exact mem_of hpt (by decide))
    | (with_reducible apply only_armedBit; exact List.Subset.trans (by decide) hpt)
    | with_reducible intro _
    | with_reducible apply only_updates
    | with_reducible exact within_nil _
    | (with_reducible apply within_cons; · exact mem_of hpt (by dsimp only [Upd.part]; decide))
    | with_reducible apply within_append
    | (with_reducible apply within_map; intros; exact mem_of hpt (by dsimp only [Upd.part]; decide))
    | (with_reducible apply within_flatMap; intro _ _)
    | split
    | dsimp only

theorem only_ctlGo {pt : List Part} (hpt : [.ctl, .dbg, .flasks, .fld .DBG_HOLD] ⊆ pt) (r : CtlRec) : Eff.Only pt (ctlGo r) := by
  unfold ctlGo
  repeat first
    | with_reducible exact only_seq_nil _
    | with_reducible apply only_seq_cons
    | (with_reducible apply only_rd; intro)
    | (with_reducible apply only_ctlCommit; exact List.Subset.trans (by decide) hpt)
    | with_reducible apply only_updates
    | with_reducible exact within_nil _
    | (with_reducible apply within_cons; · exact mem_of hpt (by dsimp only [Upd.part]; decide))
    | with_reducible apply within_append
    | (with_reducible apply within_map; intros; exact mem_of hpt (by dsimp only [Upd.part]; decide))
    | (with_reducible apply within_flatMap; intro _ _)
    | split

theorem only_formStart {pt : List Part} (hpt : [.msgs] ⊆ pt) : Eff.Only pt (formStart ) := by
  unfold formStart
  repeat first
    | (with_reducible apply only_rd; intro)
    | (with_reducible apply only_when; intro)
    | (with_reducible apply only_each; intro _ _)
    | (with_reducible apply only_send; exact mem_of hpt (by decide))
    | with_reducible intro _

theorem only_startCheck {pt : List Part} (hpt : [.ev, .flasks, .fld .MOD_MB_SUMMARY, .hostOut, .hports, .msgs, .pour, .slots] ⊆ pt) : Eff.Only pt
    (startCheck ) := by
  unfold startCheck
  repeat first
    | with_reducible exact only_nop _
    | with_reducible exact only_seq_nil _
    | with_reducible apply only_seq_cons
    | (with_reducible apply only_rd; intro)
    | with_reducible apply only_either
    | (with_reducible apply only_raise; exact mem_of hpt (by decide))
    | (with_reducible apply only_send; exact mem_of hpt (by decide))
    | (with_reducible apply only_mbDoneWith; exact List.Subset.trans (by decide) hpt)
    | (with_reducible apply only_mbFail; exact List.Subset.trans (by decide) hpt)
    | (with_reducible apply only_startFlasks; exact List.Subset.trans (by decide) hpt)
    | with_reducible apply only_updates
    | with_reducible exact within_nil _
    | (with_reducible apply within_cons; · exact mem_of hpt (by dsimp only [Upd.part]; decide))
    | with_reducible apply within_append
    | (with_reducible apply within_map; intros; exact mem_of hpt (by dsimp only [Upd.part]; decide))
    | (with_reducible apply within_flatMap; intro _ _)
    | split
    | dsimp only

theorem only_readyReport {pt : List Part} (hpt : [.ev, .flasks, .fld .MOD_MB_SUMMARY, .hostOut, .hports, .msgs, .pour, .slots] ⊆ pt) : Eff.Only pt
    (readyReport ) := by
  unfold readyReport
  repeat first
    | with_reducible exact only_nop _
    | with_reducible exact only_seq_nil _
    | with_reducible apply only_seq_cons
    | (with_reducible apply only_rd; intro)
    | (with_reducible apply only_when; intro)
    | with_reducible apply only_either
    | (with_reducible apply only_send; exact mem_of hpt (by decide))
    | (with_reducible apply only_startCheck; exact List.Subset.trans (by decide) hpt)
    | with_reducible apply only_updates
    | with_reducible exact within_nil _
    | (with_reducible apply within_cons; · exact mem_of hpt (by dsimp only [Upd.part]; decide))
    | with_reducible apply within_append
    | (with_reducible apply within_map; intros; exact mem_of hpt (by dsimp only [Upd.part]; decide))
    | (with_reducible apply within_flatMap; intro _ _)
    | split
    | dsimp only

theorem only_ctlConflict {pt : List Part} (hpt : [.ctl, .ev, .flasks, .fld .CLK_CHG_STAT, .msgs] ⊆ pt) (t : Nat) : Eff.Only pt (ctlConflict t) := by
  unfold ctlConflict
  repeat first
    | with_reducible exact only_seq_nil _
    | with_reducible apply only_seq_cons
    | (with_reducible apply only_rd; intro)
    | (with_reducible apply only_fset; exact mem_of hpt (by decide))
    | (with_reducible apply only_raise; exact mem_of hpt (by decide))
    | (with_reducible apply only_haltBeacon; exact List.Subset.trans (by decide) hpt)
    | (with_reducible apply only_haltPourFlasks; exact List.Subset.trans (by decide) hpt)
    | with_reducible apply only_updates
    | with_reducible exact within_nil _
    | (with_reducible apply within_cons; · exact mem_of hpt (by dsimp only [Upd.part]; decide))
    | with_reducible apply within_append
    | (with_reducible apply within_map; intros; exact mem_of hpt (by dsimp only [Upd.part]; decide))
    | (with_reducible apply within_flatMap; intro _ _)
    | split
    | dsimp only

theorem only_ctlArm {pt : List Part} (hpt : [.ctl, .ev, .flasks, .fld .CLK_CHG_STAT, .msgs] ⊆ pt) (kind : Nat) (r : CtlRec) : Eff.Only pt (ctlArm
    kind r) := by
  unfold ctlArm
  repeat first
    | with_reducible exact only_nop _
    | with_reducible exact only_seq_nil _
    | with_reducible apply only_seq_cons
    | (with_reducible apply only_rd; intro)
    | (with_reducible apply only_when; intro)
    | (with_reducible apply only_send; exact mem_of hpt (by decide))
    | (with_reducible apply only_ctlConflict; exact List.Subset.trans (by decide) hpt)
    | (with_reducible apply only_ctlTake; exact List.Subset.trans (by decide) hpt)
    | split
    | dsimp only

theorem only_floodNote {pt : List Part} (hpt : [.pour] ⊆ pt) (origin : Nat) (q : Nat) : Eff.Only pt (floodNote origin q) := by
  unfold floodNote
  repeat first
    | (with_reducible apply only_rd; intro)
    | with_reducible apply only_updates
    | with_reducible exact within_nil _
    | (with_reducible apply within_cons; · exact mem_of hpt (by dsimp only [Upd.part]; decide))
    | with_reducible apply within_append
    | (with_reducible apply within_map; intros; exact mem_of hpt (by dsimp only [Upd.part]; decide))
    | (with_reducible apply within_flatMap; intro _ _)

theorem only_formTake {pt : List Part} (hpt : [.align, .ctl, .fld .MOD_MB_SUMMARY, .fld .MOD_POUR_ID, .fld .RUN_STAT, .fld .TC_ALIGN_STAT, .hostOut,
    .hports, .msgs, .pour, .slots] ⊆ pt) (k : Nat) (p : Nat) (d : Nat) (children : List Nat) : Eff.Only pt (formTake k p d children) := by
  unfold formTake
  repeat first
    | with_reducible exact only_seq_nil _
    | with_reducible apply only_seq_cons
    | (with_reducible apply only_rd; intro)
    | (with_reducible apply only_when; intro)
    | (with_reducible apply only_each; intro _ _)
    | (with_reducible apply only_fset; exact mem_of hpt (by decide))
    | (with_reducible apply only_fbit; exact mem_of hpt (by decide))
    | (with_reducible apply only_send; exact mem_of hpt (by decide))
    | (with_reducible apply only_pourFail; exact List.Subset.trans (by decide) hpt)
    | with_reducible intro _
    | with_reducible apply only_updates
    | with_reducible exact within_nil _
    | (with_reducible apply within_cons; · exact mem_of hpt (by dsimp only [Upd.part]; decide))
    | with_reducible apply within_append
    | (with_reducible apply within_map; intros; exact mem_of hpt (by dsimp only [Upd.part]; decide))
    | (with_reducible apply within_flatMap; intro _ _)
    | split
    | dsimp only

theorem only_helloDone {pt : List Part} (hpt : [.align, .ctl, .fld .MOD_MB_SUMMARY, .fld .MOD_POUR_ID, .fld .RUN_STAT, .fld .TC_ALIGN_STAT,
    .hostOut, .hports, .msgs, .pour, .slots] ⊆ pt) : Eff.Only pt (helloDone ) := by
  unfold helloDone
  repeat first
    | with_reducible exact only_seq_nil _
    | with_reducible apply only_seq_cons
    | (with_reducible apply only_rd; intro)
    | (with_reducible apply only_when; intro)
    | (with_reducible apply only_formStart; exact List.Subset.trans (by decide) hpt)
    | (with_reducible apply only_formedReport; exact List.Subset.trans (by decide) hpt)

theorem only_pourAlternative {pt : List Part} (hpt : [.align] ⊆ pt) : Eff.Only pt (pourAlternative ) := by
  unfold pourAlternative
  repeat first
    | (with_reducible apply only_rd; intro)
    | with_reducible apply only_updates
    | with_reducible exact within_nil _
    | (with_reducible apply within_cons; · exact mem_of hpt (by dsimp only [Upd.part]; decide))
    | with_reducible apply within_append
    | (with_reducible apply within_map; intros; exact mem_of hpt (by dsimp only [Upd.part]; decide))
    | (with_reducible apply within_flatMap; intro _ _)
    | split
    | dsimp only

theorem only_bucketAsk {pt : List Part} (hpt : [.fld .PWR_SLEW, .power] ⊆ pt) (c : Nat) (ma : Nat) : Eff.Only pt (bucketAsk c ma) := by
  unfold bucketAsk
  repeat first
    | with_reducible exact only_seq_nil _
    | with_reducible apply only_seq_cons
    | (with_reducible apply only_rd; intro)
    | (with_reducible apply only_fsat; exact mem_of hpt (by decide))
    | (with_reducible apply only_fmax; exact mem_of hpt (by decide))
    | with_reducible apply only_updates
    | with_reducible exact within_nil _
    | (with_reducible apply within_cons; · exact mem_of hpt (by dsimp only [Upd.part]; decide))
    | with_reducible apply within_append
    | (with_reducible apply within_map; intros; exact mem_of hpt (by dsimp only [Upd.part]; decide))
    | (with_reducible apply within_flatMap; intro _ _)
    | split
    | dsimp only

theorem only_thermPin {pt : List Part} (hpt : [.svc] ⊆ pt) : Eff.Only pt (thermPin ) := by
  unfold thermPin
  repeat first
    | (with_reducible apply only_rd; intro)
    | with_reducible apply only_updates
    | with_reducible exact within_nil _
    | (with_reducible apply within_cons; · exact mem_of hpt (by dsimp only [Upd.part]; decide))
    | with_reducible apply within_append
    | (with_reducible apply within_map; intros; exact mem_of hpt (by dsimp only [Upd.part]; decide))
    | (with_reducible apply within_flatMap; intro _ _)

theorem only_inputFault {pt : List Part} (hpt : [.dbg, .ev, .faults, .flasks, .fld .CORE_STAT, .fld .DBG_HOLD, .fld .MOD_FAULT_STAT,
    .fld .MOD_MB_SUMMARY, .fld .PWR_CLUSTER_c, .fld .PWR_TILE_t, .fld .SPR_STAT, .hostOut, .hports, .msgs, .power, .slots, .svc] ⊆ pt) : Eff.Only pt
    (inputFault ) := by
  unfold inputFault
  repeat first
    | with_reducible exact only_seq_nil _
    | with_reducible apply only_seq_cons
    | (with_reducible apply only_rd; intro)
    | (with_reducible apply only_when; intro)
    | (with_reducible apply only_each; intro _ _)
    | (with_reducible apply only_fset; exact mem_of hpt (by decide))
    | (with_reducible apply only_fatal; exact List.Subset.trans (by decide) hpt)
    | (with_reducible apply only_thermPin; exact List.Subset.trans (by decide) hpt)
    | with_reducible intro _
    | with_reducible apply only_updates
    | with_reducible exact within_nil _
    | (with_reducible apply within_cons; · exact mem_of hpt (by dsimp only [Upd.part]; decide))
    | with_reducible apply within_append
    | (with_reducible apply within_map; intros; exact mem_of hpt (by dsimp only [Upd.part]; decide))
    | (with_reducible apply within_flatMap; intro _ _)

theorem only_loopBy {pt : List Part} (hpt : [.ev, .fld .PWR_CLUSTER_c, .fld .PWR_VMIN_STAT] ⊆ pt) (c : Nat) (sensor : Nat) (mv : Nat) (steps : ℤ) :
    Eff.Only pt (loopBy c sensor mv steps) := by
  unfold loopBy
  repeat first
    | with_reducible exact only_seq_nil _
    | with_reducible apply only_seq_cons
    | (with_reducible apply only_rd; intro)
    | (with_reducible apply only_when; intro)
    | (with_reducible apply only_fset; exact mem_of hpt (by decide))
    | (with_reducible apply only_fput; exact mem_of hpt (by decide))
    | (with_reducible apply only_raise; exact mem_of hpt (by decide))
    | dsimp only

theorem only_riserNotice {pt : List Part} (hpt : [.power] ⊆ pt) (c : Nat) (level : Nat) : Eff.Only pt (riserNotice c level) := by
  unfold riserNotice
  repeat first
    | (with_reducible apply only_rd; intro)
    | with_reducible apply only_updates
    | with_reducible exact within_nil _
    | (with_reducible apply within_cons; · exact mem_of hpt (by dsimp only [Upd.part]; decide))
    | with_reducible apply within_append
    | (with_reducible apply within_map; intros; exact mem_of hpt (by dsimp only [Upd.part]; decide))
    | (with_reducible apply within_flatMap; intro _ _)
    | split
    | dsimp only

theorem only_vminLog {pt : List Part} (hpt : [.fld .PWR_VMIN_STAT, .power] ⊆ pt) (c : Nat) : Eff.Only pt (vminLog c) := by
  unfold vminLog
  repeat first
    | with_reducible exact only_nop _
    | with_reducible exact only_seq_nil _
    | with_reducible apply only_seq_cons
    | (with_reducible apply only_rd; intro)
    | (with_reducible apply only_when; intro)
    | (with_reducible apply only_fadd; exact mem_of hpt (by decide))
    | with_reducible apply only_updates
    | with_reducible exact within_nil _
    | (with_reducible apply within_cons; · exact mem_of hpt (by dsimp only [Upd.part]; decide))
    | with_reducible apply within_append
    | (with_reducible apply within_map; intros; exact mem_of hpt (by dsimp only [Upd.part]; decide))
    | (with_reducible apply within_flatMap; intro _ _)
    | split
    | dsimp only

theorem only_vminFrameEnd {pt : List Part} (hpt : [.fld .PWR_VMIN_STAT, .power] ⊆ pt) : Eff.Only pt (vminFrameEnd ) := by
  unfold vminFrameEnd
  repeat first
    | (with_reducible apply only_each; intro _ _)
    | (with_reducible apply only_vminLog; exact List.Subset.trans (by decide) hpt)
    | with_reducible intro _

theorem only_vminSample {pt : List Part} (hpt : [.cores, .dbg, .ev, .faults, .flasks, .fld .CORE_MOULD, .fld .CORE_SC, .fld .CORE_SEQ,
    .fld .CORE_STAT, .fld .DBG_HOLD, .fld .LDL_CTX_n, .fld .ME_STAT, .fld .MOD_FAULT_STAT, .fld .MOD_GRID_STAT, .fld .MOD_MB_SUMMARY,
    .fld .PWR_CLUSTER_c, .fld .PWR_VMIN_STAT, .fld .QUEUE_BASE, .fld .QUEUE_CTL, .fld .QUEUE_DB, .fld .QUEUE_LEVEL, .fld .QUEUE_STAT,
    .fld .QUEUE_WM, .fld .SE_STAT, .fld .SPR_STAT, .fld .VU_STAT, .hostOut, .hports, .ldls, .mes, .msgs, .power, .queues, .ses, .slots, .vus] ⊆ pt)
    (c : Nat) (sensor : Nat) (mv : Nat) (edge : Bool) : Eff.Only pt (vminSample c sensor mv edge) := by
  unfold vminSample
  repeat first
    | with_reducible exact only_seq_nil _
    | with_reducible apply only_seq_cons
    | (with_reducible apply only_rd; intro)
    | (with_reducible apply only_when; intro)
    | (with_reducible apply only_each; intro _ _)
    | (with_reducible apply only_fset; exact mem_of hpt (by decide))
    | (with_reducible apply only_fsat; exact mem_of hpt (by decide))
    | (with_reducible apply only_contain; exact List.Subset.trans (by decide) hpt)
    | (with_reducible apply only_loopBy; exact List.Subset.trans (by decide) hpt)
    | with_reducible intro _
    | with_reducible apply only_updates
    | with_reducible exact within_nil _
    | (with_reducible apply within_cons; · exact mem_of hpt (by dsimp only [Upd.part]; decide))
    | with_reducible apply within_append
    | (with_reducible apply within_map; intros; exact mem_of hpt (by dsimp only [Upd.part]; decide))
    | (with_reducible apply within_flatMap; intro _ _)
    | split
    | dsimp only

theorem only_coresLost {pt : List Part} (hpt : [.cores, .fld .CORE_MOULD, .fld .CORE_QSTAT, .fld .CORE_SC, .fld .CORE_SEQ, .fld .CORE_SEQ_ERR,
    .fld .CORE_STAT, .fld .ME_CTL, .fld .ME_ERR, .fld .ME_FLAGS, .fld .ME_GATED, .fld .ME_HASH, .fld .ME_LAST_TAG, .fld .ME_STALL, .fld .ME_STAT,
    .fld .ME_TILES, .fld .PST_CORE_PWR_r, .fld .PST_RAMP, .fld .QUEUE_BASE, .fld .QUEUE_CTL, .fld .QUEUE_DB, .fld .QUEUE_LEVEL, .fld .QUEUE_STAT,
    .fld .QUEUE_WM, .fld .SE_ERR, .fld .SE_FLAGS, .fld .SE_HASH, .fld .SE_SKIPPED, .fld .SE_STALL, .fld .SE_STAT, .fld .SE_TILES,
    .fld .SPD_CONFLICT, .fld .SPD_ECC, .fld .SPD_ECC_ADDR, .fld .SPD_ELASTIC, .fld .SPD_SCRUB_CTL, .fld .SPD_SCRUB_STAT, .fld .SPR_ELASTIC,
    .fld .SPR_ERR, .fld .SPR_SLIP, .fld .SPR_SLIP_INFO, .fld .VU_ERR, .fld .VU_FLAGS, .fld .VU_SAMP_COUNT, .fld .VU_SAMP_LAST, .fld .VU_SAMP_STALL,
    .fld .VU_STAT, .pst, .queues, .spd, .spdPoison] ⊆ pt) : Eff.Only pt (coresLost ) := by
  unfold coresLost
  repeat first
    | with_reducible exact only_seq_nil _
    | with_reducible apply only_seq_cons
    | (with_reducible apply only_rd; intro)
    | (with_reducible apply only_each; intro _ _)
    | (with_reducible apply only_domainSet; exact List.Subset.trans (by decide) hpt)
    | with_reducible intro _
    | with_reducible apply only_updates
    | with_reducible exact within_nil _
    | (with_reducible apply within_drop; · exact fun i hi => mem_of hpt (by revert i; decide))
    | (with_reducible apply within_cons; · exact mem_of hpt (by dsimp only [Upd.part]; decide))
    | with_reducible apply within_append
    | (with_reducible apply within_map; intros; exact mem_of hpt (by dsimp only [Upd.part]; decide))
    | (with_reducible apply within_flatMap; intro _ _)

theorem only_enginesLost {pt : List Part} (hpt : [.mes, .ses, .vus] ⊆ pt) : Eff.Only pt (enginesLost ) := by
  unfold enginesLost
  repeat first
    | with_reducible apply only_updates
    | with_reducible exact within_nil _
    | (with_reducible apply within_cons; · exact mem_of hpt (by dsimp only [Upd.part]; decide))
    | with_reducible apply within_append
    | (with_reducible apply within_map; intros; exact mem_of hpt (by dsimp only [Upd.part]; decide))
    | (with_reducible apply within_flatMap; intro _ _)

theorem only_entryAbandoned {pt : List Part} (hpt : [.ev, .fld .MOD_MB_SUMMARY, .fld .PST_STAT, .hostOut, .hports, .slots] ⊆ pt) (k : Nat) (st :
    Nat) : Eff.Only pt (entryAbandoned k st) := by
  unfold entryAbandoned
  repeat first
    | with_reducible exact only_seq_nil _
    | with_reducible apply only_seq_cons
    | (with_reducible apply only_rd; intro)
    | (with_reducible apply only_fset; exact mem_of hpt (by decide))
    | (with_reducible apply only_raise; exact mem_of hpt (by decide))
    | (with_reducible apply only_mbFail; exact List.Subset.trans (by decide) hpt)

theorem only_cacheClean {pt : List Part} (hpt : [.caches] ⊆ pt) (lo : Nat) (hi : Nat) : Eff.Only pt (cacheClean lo hi) := by
  unfold cacheClean
  repeat first
    | (with_reducible apply only_rd; intro)
    | (with_reducible apply only_each; intro _ _)
    | with_reducible intro _
    | with_reducible apply only_updates
    | with_reducible exact within_nil _
    | (with_reducible apply within_cons; · exact mem_of hpt (by dsimp only [Upd.part]; decide))
    | with_reducible apply within_append
    | (with_reducible apply within_map; intros; exact mem_of hpt (by dsimp only [Upd.part]; decide))
    | (with_reducible apply within_flatMap; intro _ _)
    | split

theorem only_entryCommit {pt : List Part} (hpt : [.caches, .cores, .fld .MOD_MB_SUMMARY, .fld .PST_CORE_PWR_r, .fld .PST_RAMP, .fld .PST_STAT,
    .fld .SPD_ELASTIC, .hostOut, .hports, .pst, .slots, .spd, .spdPoison] ⊆ pt) (k : Nat) (st : Nat) : Eff.Only pt (entryCommit k st) := by
  unfold entryCommit
  repeat first
    | with_reducible exact only_seq_nil _
    | with_reducible apply only_seq_cons
    | (with_reducible apply only_rd; intro)
    | (with_reducible apply only_when; intro)
    | (with_reducible apply only_each; intro _ _)
    | (with_reducible apply only_fset; exact mem_of hpt (by decide))
    | (with_reducible apply only_onSlot; exact mem_of hpt (by decide))
    | (with_reducible apply only_cacheClean; exact List.Subset.trans (by decide) hpt)
    | (with_reducible apply only_domainOff; exact List.Subset.trans (by decide) hpt)
    | (with_reducible apply only_gatherFlushAll; exact List.Subset.trans (by decide) hpt)
    | (with_reducible apply only_mbDone; exact List.Subset.trans (by decide) hpt)
    | with_reducible intro _

theorem only_linksOff {pt : List Part} (hpt : [.align, .ctl, .ev, .faults, .flasks, .fld .MOD_FAULT_STAT, .fld .MOD_MB_SUMMARY, .fld .MOD_POUR_ID,
    .fld .RUN_ERR, .fld .RUN_STAT, .fld .TC_ALIGN_STAT, .hostOut, .hports, .msgs, .ports, .pour, .pst, .slots] ⊆ pt) : Eff.Only pt (linksOff ) := by
  unfold linksOff
  repeat first
    | with_reducible exact only_seq_nil _
    | with_reducible apply only_seq_cons
    | (with_reducible apply only_rd; intro)
    | (with_reducible apply only_when; intro)
    | (with_reducible apply only_each; intro _ _)
    | (with_reducible apply only_onPort; exact mem_of hpt (by decide))
    | (with_reducible apply only_portDrop; exact List.Subset.trans (by decide) hpt)
    | (with_reducible apply only_pourClear; exact List.Subset.trans (by decide) hpt)
    | with_reducible intro _
    | with_reducible apply only_updates
    | with_reducible exact within_nil _
    | (with_reducible apply within_cons; · exact mem_of hpt (by dsimp only [Upd.part]; decide))
    | with_reducible apply within_append
    | (with_reducible apply within_map; intros; exact mem_of hpt (by dsimp only [Upd.part]; decide))
    | (with_reducible apply within_flatMap; intro _ _)
    | dsimp only

theorem only_entryEffect {pt : List Part} (hpt : [.align, .boot, .caches, .cores, .ctl, .dbg, .dec, .dram, .dramPoison, .dramWritten, .ev, .faults,
    .flasks, .fld .CORE_MOULD, .fld .CORE_QSTAT, .fld .CORE_SC, .fld .CORE_SEQ, .fld .CORE_SEQ_ERR, .fld .CORE_STAT, .fld .LDL_CTX_n, .fld .ME_CTL,
    .fld .ME_ERR, .fld .ME_FLAGS, .fld .ME_GATED, .fld .ME_HASH, .fld .ME_LAST_TAG, .fld .ME_STALL, .fld .ME_STAT, .fld .ME_TILES,
    .fld .MOD_FAULT_STAT, .fld .MOD_MB_SUMMARY, .fld .MOD_POUR_ID, .fld .PST_CORE_PWR_r, .fld .PST_PAD_HOLD, .fld .PST_RAMP, .fld .PST_STAT,
    .fld .QUEUE_BASE, .fld .QUEUE_CTL, .fld .QUEUE_DB, .fld .QUEUE_LEVEL, .fld .QUEUE_STAT, .fld .QUEUE_WM, .fld .RUN_ERR, .fld .RUN_STAT,
    .fld .SAF_STAT, .fld .SE_ERR, .fld .SE_FLAGS, .fld .SE_HASH, .fld .SE_SKIPPED, .fld .SE_STALL, .fld .SE_STAT, .fld .SE_TILES,
    .fld .SPD_CONFLICT, .fld .SPD_ECC, .fld .SPD_ECC_ADDR, .fld .SPD_ELASTIC, .fld .SPD_SCRUB_CTL, .fld .SPD_SCRUB_STAT, .fld .SPR_ELASTIC,
    .fld .SPR_ERR, .fld .SPR_SLIP, .fld .SPR_SLIP_INFO, .fld .TC_ALIGN_STAT, .fld .VU_ERR, .fld .VU_FLAGS, .fld .VU_SAMP_COUNT, .fld .VU_SAMP_LAST,
    .fld .VU_SAMP_STALL, .fld .VU_STAT, .flds, .gclk, .hostOut, .hports, .ldls, .mes, .msgs, .msix, .pep, .ports, .pour, .power, .pst, .queues,
    .refreshOnly, .refreshed, .rings, .saf, .seam, .ses, .slag, .slots, .spd, .spdPoison, .svc, .vus] ⊆ pt) (st : Nat) : Eff.Only pt (entryEffect
    st) := by
  unfold entryEffect
  repeat first
    | with_reducible exact only_seq_nil _
    | with_reducible apply only_seq_cons
    | (with_reducible apply only_rd; intro)
    | (with_reducible apply only_when; intro)
    | (with_reducible apply only_fset; exact mem_of hpt (by decide))
    | (with_reducible apply only_clearAll; exact List.Subset.trans (by decide) hpt)
    | (with_reducible apply only_coresLost; exact List.Subset.trans (by decide) hpt)
    | (with_reducible apply only_enginesLost; exact List.Subset.trans (by decide) hpt)
    | (with_reducible apply only_ldlAbort; exact List.Subset.trans (by decide) hpt)
    | (with_reducible apply only_linksOff; exact List.Subset.trans (by decide) hpt)
    | with_reducible apply only_updates
    | with_reducible exact within_nil _
    | (with_reducible apply within_cons; · exact mem_of hpt (by dsimp only [Upd.part]; decide))
    | with_reducible apply within_append
    | (with_reducible apply within_map; intros; exact mem_of hpt (by dsimp only [Upd.part]; decide))
    | (with_reducible apply within_flatMap; intro _ _)
    | split
    | dsimp only

theorem only_readyFence {pt : List Part} (hpt : [.cores, .dbg, .ev, .faults, .flasks, .fld .CLU_CORES, .fld .CORE_MOULD, .fld .CORE_SC,
    .fld .CORE_SEQ, .fld .CORE_STAT, .fld .DBG_HOLD, .fld .LDL_CTX_n, .fld .ME_STAT, .fld .MOD_BOOT_ERR, .fld .MOD_FAULT_STAT, .fld .MOD_GRID_STAT,
    .fld .MOD_MB_SUMMARY, .fld .MOD_ROW_MAP_r, .fld .PST_CORE_PWR_r, .fld .PST_RAMP, .fld .QUEUE_BASE, .fld .QUEUE_CTL, .fld .QUEUE_DB,
    .fld .QUEUE_LEVEL, .fld .QUEUE_STAT, .fld .QUEUE_WM, .fld .SE_STAT, .fld .SPD_ELASTIC, .fld .SPD_STAT, .fld .SPR_STAT, .fld .VU_STAT, .hostOut,
    .hports, .ldls, .mes, .msgs, .pst, .queues, .ses, .slag, .slots, .vus] ⊆ pt) (ps : List Nat) (detail : List (Nat × Nat)) : Eff.Only pt
    (readyFence ps detail) := by
  unfold readyFence
  repeat first
    | with_reducible exact only_seq_nil _
    | with_reducible apply only_seq_cons
    | (with_reducible apply only_rd; intro)
    | (with_reducible apply only_when; intro)
    | with_reducible apply only_either
    | (with_reducible apply only_each; intro _ _)
    | (with_reducible apply only_raise; exact mem_of hpt (by decide))
    | (with_reducible apply only_contain; exact List.Subset.trans (by decide) hpt)
    | (with_reducible apply only_domainLost; exact List.Subset.trans (by decide) hpt)
    | (with_reducible apply only_domainOn; exact List.Subset.trans (by decide) hpt)
    | (with_reducible apply only_fenceCore; exact List.Subset.trans (by decide) hpt)
    | with_reducible intro _
    | dsimp only

theorem only_dropCells {pt : List Part} (hpt : [.ports] ⊆ pt) (f : Nat) : Eff.Only pt (dropCells f) := by
  unfold dropCells
  repeat first
    | (with_reducible apply only_rd; intro)
    | (with_reducible apply only_each; intro _ _)
    | (with_reducible apply only_onPort; exact mem_of hpt (by decide))
    | with_reducible intro _

theorem only_spareOut {pt : List Part} (hpt : [.cores, .dbg, .ev, .faults, .flasks, .fld .CLU_CORES, .fld .CORE_MOULD, .fld .CORE_SC,
    .fld .CORE_SEQ, .fld .CORE_STAT, .fld .DBG_HOLD, .fld .LDL_CTX_n, .fld .ME_STAT, .fld .MOD_BOOT_ERR, .fld .MOD_FAULT_STAT, .fld .MOD_GRID_STAT,
    .fld .MOD_MB_SUMMARY, .fld .MOD_ROW_MAP_r, .fld .PWR_CLUSTER_c, .fld .PWR_TILE_t, .fld .QUEUE_BASE, .fld .QUEUE_CTL, .fld .QUEUE_DB,
    .fld .QUEUE_LEVEL, .fld .QUEUE_STAT, .fld .QUEUE_WM, .fld .RUN_LANE_l, .fld .SE_STAT, .fld .SPD_ELASTIC, .fld .SPD_STAT, .fld .SPR_STAT,
    .fld .VU_STAT, .hostOut, .hports, .ldls, .mes, .msgs, .ports, .queues, .ses, .slag, .slots, .vus] ⊆ pt) (kind : Nat) (loc : Nat) : Eff.Only pt
    (spareOut kind loc) := by
  unfold spareOut
  repeat first
    | with_reducible exact only_nop _
    | with_reducible exact only_seq_nil _
    | with_reducible apply only_seq_cons
    | (with_reducible apply only_rd; intro)
    | (with_reducible apply only_when; intro)
    | (with_reducible apply only_fset; exact mem_of hpt (by decide))
    | (with_reducible apply only_onPort; exact mem_of hpt (by decide))
    | (with_reducible apply only_slagRecord; exact List.Subset.trans (by decide) hpt)
    | (with_reducible apply only_tileOut; exact List.Subset.trans (by decide) hpt)
    | split
    | dsimp only

theorem only_fenceStart {pt : List Part} (hpt : [.cores, .dbg, .ev, .faults, .flasks, .fld .CLU_CORES, .fld .CORE_MOULD, .fld .CORE_SC,
    .fld .CORE_SEQ, .fld .CORE_STAT, .fld .DBG_HOLD, .fld .LDL_CTX_n, .fld .ME_CAP, .fld .ME_STAT, .fld .MOD_BOOT_ERR, .fld .MOD_FAULT_STAT,
    .fld .MOD_GRID_STAT, .fld .MOD_MB_SUMMARY, .fld .MOD_ROW_MAP_r, .fld .PWR_CLUSTER_c, .fld .PWR_TILE_t, .fld .QUEUE_BASE, .fld .QUEUE_CTL,
    .fld .QUEUE_DB, .fld .QUEUE_LEVEL, .fld .QUEUE_STAT, .fld .QUEUE_WM, .fld .RUN_ERR, .fld .RUN_LANE_l, .fld .RUN_STAT, .fld .SE_STAT,
    .fld .SPD_ELASTIC, .fld .SPD_STAT, .fld .SPR_STAT, .fld .VU_STAT, .hostOut, .hports, .ldls, .mes, .msgs, .ports, .power, .queues, .seam, .ses,
    .slag, .slots, .vus] ⊆ pt) (k : Nat) (kind : Nat) (loc : Nat) : Eff.Only pt (fenceStart k kind loc) := by
  unfold fenceStart
  repeat first
    | with_reducible exact only_nop _
    | with_reducible exact only_seq_nil _
    | with_reducible apply only_seq_cons
    | (with_reducible apply only_rd; intro)
    | (with_reducible apply only_onSlot; exact mem_of hpt (by decide))
    | (with_reducible apply only_fenceDone; exact List.Subset.trans (by decide) hpt)
    | (with_reducible apply only_pend; exact List.Subset.trans (by decide) hpt)
    | (with_reducible apply only_repairAsk; exact List.Subset.trans (by decide) hpt)
    | (with_reducible apply only_repairDo; exact List.Subset.trans (by decide) hpt)
    | (with_reducible apply only_spareOut; exact List.Subset.trans (by decide) hpt)
    | (with_reducible apply only_spareRamp; exact List.Subset.trans (by decide) hpt)
    | (with_reducible apply only_tileOut; exact List.Subset.trans (by decide) hpt)
    | with_reducible apply only_updates
    | with_reducible exact within_nil _
    | (with_reducible apply within_cons; · exact mem_of hpt (by dsimp only [Upd.part]; decide))
    | with_reducible apply within_append
    | (with_reducible apply within_map; intros; exact mem_of hpt (by dsimp only [Upd.part]; decide))
    | (with_reducible apply within_flatMap; intro _ _)
    | split
    | dsimp only

theorem only_groupFail {pt : List Part} (hpt : [.cores, .dbg, .ev, .faults, .flasks, .fld .CLU_CORES, .fld .CORE_MOULD, .fld .CORE_SC,
    .fld .CORE_SEQ, .fld .CORE_STAT, .fld .DBG_HOLD, .fld .LDL_CTX_n, .fld .ME_CAP, .fld .ME_STAT, .fld .MOD_BOOT_ERR, .fld .MOD_FAULT_STAT,
    .fld .MOD_GRID_STAT, .fld .MOD_MB_SUMMARY, .fld .MOD_ROW_MAP_r, .fld .PWR_CLUSTER_c, .fld .PWR_TILE_t, .fld .QUEUE_BASE, .fld .QUEUE_CTL,
    .fld .QUEUE_DB, .fld .QUEUE_LEVEL, .fld .QUEUE_STAT, .fld .QUEUE_WM, .fld .RUN_ERR, .fld .RUN_STAT, .fld .SE_STAT, .fld .SPD_ELASTIC,
    .fld .SPD_STAT, .fld .SPR_STAT, .fld .VU_STAT, .hostOut, .hports, .ldls, .mes, .msgs, .ports, .power, .queues, .seam, .ses, .slag, .slots, .vus]
    ⊆ pt) (seg : Nat) (g : Nat) (linkCore : Nat) (reason : Nat) : Eff.Only pt (groupFail seg g linkCore reason) := by
  unfold groupFail
  repeat first
    | with_reducible exact only_seq_nil _
    | with_reducible apply only_seq_cons
    | (with_reducible apply only_rd; intro)
    | (with_reducible apply only_when; intro)
    | (with_reducible apply only_fset; exact mem_of hpt (by decide))
    | (with_reducible apply only_autoRepair; exact List.Subset.trans (by decide) hpt)
    | (with_reducible apply only_fatal; exact List.Subset.trans (by decide) hpt)
    | (with_reducible apply only_fenceCore; exact List.Subset.trans (by decide) hpt)
    | (with_reducible apply only_slagRecord; exact List.Subset.trans (by decide) hpt)
    | with_reducible apply only_updates
    | with_reducible exact within_nil _
    | (with_reducible apply within_cons; · exact mem_of hpt (by dsimp only [Upd.part]; decide))
    | with_reducible apply within_append
    | (with_reducible apply within_map; intros; exact mem_of hpt (by dsimp only [Upd.part]; decide))
    | (with_reducible apply within_flatMap; intro _ _)
    | split
    | dsimp only

theorem only_valuesReturn {pt : List Part} (hpt : [.dec, .fld .CLK_PSTEP, .fld .PWR_CLUSTER_c, .fld .PWR_RISER_LEAD] ⊆ pt) : Eff.Only pt
    (valuesReturn ) := by
  unfold valuesReturn
  repeat first
    | with_reducible exact only_seq_nil _
    | with_reducible apply only_seq_cons
    | (with_reducible apply only_rd; intro)
    | (with_reducible apply only_when; intro)
    | (with_reducible apply only_fset; exact mem_of hpt (by decide))
    | (with_reducible apply only_pstepSet; exact List.Subset.trans (by decide) hpt)
    | with_reducible apply only_updates
    | with_reducible exact within_nil _
    | (with_reducible apply within_cons; · exact mem_of hpt (by dsimp only [Upd.part]; decide))
    | with_reducible apply within_append
    | (with_reducible apply within_map; intros; exact mem_of hpt (by dsimp only [Upd.part]; decide))
    | (with_reducible apply within_flatMap; intro _ _)
    | dsimp only

theorem only_wearWarn {pt : List Part} (hpt : [.ev, .faults] ⊆ pt) (kind : Nat) (loc : Nat) (value : Nat) : Eff.Only pt (wearWarn kind loc value) :=
    by
  unfold wearWarn
  repeat first
    | with_reducible exact only_seq_nil _
    | with_reducible apply only_seq_cons
    | (with_reducible apply only_rd; intro)
    | (with_reducible apply only_when; intro)
    | (with_reducible apply only_raise; exact mem_of hpt (by decide))
    | with_reducible apply only_updates
    | with_reducible exact within_nil _
    | (with_reducible apply within_cons; · exact mem_of hpt (by dsimp only [Upd.part]; decide))
    | with_reducible apply within_append
    | (with_reducible apply within_map; intros; exact mem_of hpt (by dsimp only [Upd.part]; decide))
    | (with_reducible apply within_flatMap; intro _ _)
    | dsimp only

theorem only_attemptStep {pt : List Part} (hpt : [.align, .ctl, .fld .MOD_MB_SUMMARY, .fld .MOD_POUR_ID, .fld .RUN_STAT, .fld .TC_ALIGN_STAT,
    .hostOut, .hports, .msgs, .ports, .pour, .slots] ⊆ pt) (n : Nat) (st : Nat) (next : Nat) (bound : Nat) (ok : Bool) : Eff.Only pt (attemptStep n
    st next bound ok) := by
  unfold attemptStep
  repeat first
    | (with_reducible apply only_rd; intro)
    | (with_reducible apply only_when; intro)
    | with_reducible apply only_either
    | (with_reducible apply only_attemptFail; exact List.Subset.trans (by decide) hpt)
    | (with_reducible apply only_portTo; exact List.Subset.trans (by decide) hpt)

theorem only_authFail {pt : List Part} (hpt : [.ev, .faults, .flasks, .fld .MOD_FAULT_STAT, .fld .MOD_MB_SUMMARY, .fld .RUN_ERR, .fld .RUN_STAT,
    .hostOut, .hports, .msgs, .ports, .slots] ⊆ pt) (n : Nat) : Eff.Only pt (authFail n) := by
  unfold authFail
  repeat first
    | with_reducible exact only_seq_nil _
    | with_reducible apply only_seq_cons
    | (with_reducible apply only_rd; intro)
    | (with_reducible apply only_each; intro _ _)
    | (with_reducible apply only_fset; exact mem_of hpt (by decide))
    | (with_reducible apply only_raise; exact mem_of hpt (by decide))
    | (with_reducible apply only_leaveUp; exact List.Subset.trans (by decide) hpt)
    | with_reducible intro _

theorem only_keyRefuse {pt : List Part} (hpt : [.ev, .faults, .flasks, .fld .MOD_FAULT_STAT, .fld .MOD_MB_SUMMARY, .fld .RUN_ERR, .fld .RUN_STAT,
    .fld .SAF_ERR, .hostOut, .hports, .msgs, .ports, .slots] ⊆ pt) (n : Nat) (reason : Nat) : Eff.Only pt (keyRefuse n reason) := by
  unfold keyRefuse
  repeat first
    | with_reducible exact only_seq_nil _
    | with_reducible apply only_seq_cons
    | (with_reducible apply only_fset; exact mem_of hpt (by decide))
    | (with_reducible apply only_raise; exact mem_of hpt (by decide))
    | (with_reducible apply only_leaveUp; exact List.Subset.trans (by decide) hpt)

theorem only_onKeys {pt : List Part} (hpt : [.ports] ⊆ pt) (n : Nat) (f : KeySt → KeySt) : Eff.Only pt (onKeys n f) := by
  unfold onKeys
  repeat first
    | (with_reducible apply only_onPort; exact mem_of hpt (by decide))

theorem only_keyOffer {pt : List Part} (hpt : [.ev, .faults, .flasks, .fld .MOD_FAULT_STAT, .fld .MOD_MB_SUMMARY, .fld .RUN_ERR, .fld .RUN_STAT,
    .fld .SAF_ERR, .hostOut, .hports, .msgs, .ports, .slots] ⊆ pt) (n : Nat) (o : KeyOffer) : Eff.Only pt (keyOffer n o) := by
  unfold keyOffer
  repeat first
    | with_reducible exact only_seq_nil _
    | with_reducible apply only_seq_cons
    | (with_reducible apply only_rd; intro)
    | (with_reducible apply only_send; exact mem_of hpt (by decide))
    | (with_reducible apply only_keyRefuse; exact List.Subset.trans (by decide) hpt)
    | (with_reducible apply only_onKeys; exact List.Subset.trans (by decide) hpt)
    | split
    | dsimp only

theorem only_laneRegs {pt : List Part} (hpt : [.fld .RUN_LANE_l, .fld .RUN_STAT] ⊆ pt) (n : Nat) (ws : List LaneWindow) : Eff.Only pt (laneRegs n
    ws) := by
  unfold laneRegs
  repeat first
    | with_reducible exact only_seq_nil _
    | with_reducible apply only_seq_cons
    | (with_reducible apply only_each; intro _ _)
    | (with_reducible apply only_fset; exact mem_of hpt (by decide))
    | (with_reducible apply only_fput; exact mem_of hpt (by decide))
    | (with_reducible apply only_fadd; exact mem_of hpt (by decide))
    | with_reducible intro _
    | dsimp only

theorem only_laneSpared {pt : List Part} (hpt : [.ev, .faults, .fld .MOD_FAULT_STAT, .fld .RUN_ERR, .fld .RUN_LANE_l, .fld .RUN_STAT, .msgs, .ports,
    .slag] ⊆ pt) (n : Nat) (l : Nat) (reason : Nat) (note : Bool) : Eff.Only pt (laneSpared n l reason note) := by
  unfold laneSpared
  repeat first
    | with_reducible exact only_nop _
    | with_reducible exact only_seq_nil _
    | with_reducible apply only_seq_cons
    | (with_reducible apply only_rd; intro)
    | (with_reducible apply only_when; intro)
    | (with_reducible apply only_fset; exact mem_of hpt (by decide))
    | (with_reducible apply only_raise; exact mem_of hpt (by decide))
    | (with_reducible apply only_onPort; exact mem_of hpt (by decide))
    | (with_reducible apply only_fenceBeacon; exact List.Subset.trans (by decide) hpt)
    | (with_reducible apply only_slagRecord; exact List.Subset.trans (by decide) hpt)
    | split
    | dsimp only

theorem only_qualified {pt : List Part} (hpt : [.align, .ctl, .ev, .faults, .fld .MOD_FAULT_STAT, .fld .MOD_MB_SUMMARY, .fld .MOD_POUR_ID,
    .fld .RUN_ERR, .fld .RUN_LANE_l, .fld .RUN_STAT, .fld .TC_ALIGN_STAT, .hostOut, .hports, .msgs, .ports, .pour, .slag, .slots] ⊆ pt) (n : Nat)
    (ws : List LaneWindow) : Eff.Only pt (qualified n ws) := by
  unfold qualified
  repeat first
    | with_reducible exact only_seq_nil _
    | with_reducible apply only_seq_cons
    | with_reducible apply only_either
    | (with_reducible apply only_fset; exact mem_of hpt (by decide))
    | (with_reducible apply only_onPort; exact mem_of hpt (by decide))
    | (with_reducible apply only_attemptFail; exact List.Subset.trans (by decide) hpt)
    | (with_reducible apply only_laneSpared; exact List.Subset.trans (by decide) hpt)
    | (with_reducible apply only_portUp; exact List.Subset.trans (by decide) hpt)
    | split
    | dsimp only

theorem only_rekeyOffer {pt : List Part} (hpt : [.msgs, .ports] ⊆ pt) (n : Nat) (o : KeyOffer) : Eff.Only pt (rekeyOffer n o) := by
  unfold rekeyOffer
  repeat first
    | with_reducible exact only_seq_nil _
    | with_reducible apply only_seq_cons
    | (with_reducible apply only_rd; intro)
    | (with_reducible apply only_when; intro)
    | (with_reducible apply only_send; exact mem_of hpt (by decide))
    | (with_reducible apply only_onKeys; exact List.Subset.trans (by decide) hpt)
    | dsimp only

theorem only_windowInUp {pt : List Part} (hpt : [.ev, .faults, .flasks, .fld .MOD_FAULT_STAT, .fld .MOD_MB_SUMMARY, .fld .RUN_ERR, .fld .RUN_LANE_l,
    .fld .RUN_STAT, .hostOut, .hports, .msgs, .ports, .slag, .slots] ⊆ pt) (n : Nat) (ws : List LaneWindow) : Eff.Only pt (windowInUp n ws) := by
  unfold windowInUp
  repeat first
    | with_reducible exact only_seq_nil _
    | with_reducible apply only_seq_cons
    | (with_reducible apply only_rd; intro)
    | (with_reducible apply only_when; intro)
    | (with_reducible apply only_each; intro _ _)
    | (with_reducible apply only_fset; exact mem_of hpt (by decide))
    | (with_reducible apply only_onPort; exact mem_of hpt (by decide))
    | (with_reducible apply only_laneFail; exact List.Subset.trans (by decide) hpt)
    | (with_reducible apply only_slagRecord; exact List.Subset.trans (by decide) hpt)
    | with_reducible intro _
    | split
    | dsimp only

theorem only_copyOut {pt : List Part} (hpt : [.caches, .dram, .dramPoison, .dramWritten, .fld .CCH_HITS, .fld .CCH_MISSES] ⊆ pt) (dst : Nat) (r :
    Nat × Nat × Nat × Nat) : Eff.Only pt (copyOut dst r) := by
  unfold copyOut
  repeat first
    | with_reducible exact only_nop _
    | (with_reducible apply only_rd; intro)
    | (with_reducible apply only_each; intro _ _)
    | (with_reducible apply only_dramWrite; exact List.Subset.trans (by decide) hpt)
    | with_reducible intro _
    | split
    | dsimp only

theorem only_restoreCore {pt : List Part} (hpt : [.cores, .fld .CORE_SC, .fld .CORE_SEQ, .fld .ME_CTL, .fld .SPD_SCRUB_CTL, .fld .SPR_STAT, .mes,
    .queues, .ses, .vus] ⊆ pt) (p : Nat) (l : Nat) (sc : Nat) (point : Nat) (temper : Nat) (r : List Byte) : Eff.Only pt (restoreCore p l sc point
    temper r) := by
  unfold restoreCore
  repeat first
    | with_reducible exact only_seq_nil _
    | with_reducible apply only_seq_cons
    | (with_reducible apply only_rd; intro)
    | (with_reducible apply only_each; intro _ _)
    | (with_reducible apply only_fset; exact mem_of hpt (by decide))
    | (with_reducible apply only_onCore; exact mem_of hpt (by decide))
    | (with_reducible apply only_onMe; exact mem_of hpt (by decide))
    | (with_reducible apply only_onSe; exact mem_of hpt (by decide))
    | (with_reducible apply only_onVu; exact mem_of hpt (by decide))
    | (with_reducible apply only_onQueue; exact mem_of hpt (by decide))
    | (with_reducible apply only_progStart; exact List.Subset.trans (by decide) hpt)
    | with_reducible intro _
    | with_reducible apply only_updates
    | with_reducible exact within_nil _
    | (with_reducible apply within_cons; · exact mem_of hpt (by dsimp only [Upd.part]; decide))
    | with_reducible apply within_append
    | (with_reducible apply within_map; intros; exact mem_of hpt (by dsimp only [Upd.part]; decide))
    | (with_reducible apply within_flatMap; intro _ _)

theorem only_scanIn {pt : List Part} (hpt : [.cores, .flasks, .fld .CORE_SC, .fld .CORE_SEQ, .fld .CORE_STAT, .fld .ME_CTL, .fld .SPD_ELASTIC,
    .fld .SPD_SCRUB_CTL, .fld .SPR_STAT, .mes, .queues, .ses, .spd, .spdPoison, .vus] ⊆ pt) (f : Nat) (b : List Byte) : Eff.Only pt (scanIn f b) :=
    by
  unfold scanIn
  repeat first
    | with_reducible exact only_nop _
    | with_reducible exact only_seq_nil _
    | with_reducible apply only_seq_cons
    | (with_reducible apply only_rd; intro)
    | (with_reducible apply only_each; intro _ _)
    | (with_reducible apply only_onFlask; exact mem_of hpt (by decide))
    | (with_reducible apply only_gatherFlushAll; exact List.Subset.trans (by decide) hpt)
    | (with_reducible apply only_restoreCore; exact List.Subset.trans (by decide) hpt)
    | (with_reducible apply only_setFlaskState; exact List.Subset.trans (by decide) hpt)
    | (with_reducible apply only_spdWr; exact List.Subset.trans (by decide) hpt)
    | with_reducible intro _
    | split
    | dsimp only

theorem only_scanOut {pt : List Part} (hpt : [.caches, .cores, .dram, .dramPoison, .dramWritten, .fld .CCH_HITS, .fld .CCH_MISSES,
    .fld .SPD_ELASTIC, .spd, .spdPoison] ⊆ pt) (f : Nat) (dst : Nat) (regions : Bool) : Eff.Only pt (scanOut f dst regions) := by
  unfold scanOut
  repeat first
    | with_reducible exact only_nop _
    | with_reducible exact only_seq_nil _
    | with_reducible apply only_seq_cons
    | (with_reducible apply only_rd; intro)
    | (with_reducible apply only_each; intro _ _)
    | (with_reducible apply only_cacheClean; exact List.Subset.trans (by decide) hpt)
    | (with_reducible apply only_copyOut; exact List.Subset.trans (by decide) hpt)
    | (with_reducible apply only_dramWrite; exact List.Subset.trans (by decide) hpt)
    | (with_reducible apply only_gatherFlushAll; exact List.Subset.trans (by decide) hpt)
    | with_reducible intro _
    | split
    | dsimp only

theorem only_scanOutCmd {pt : List Part} (hpt : [.caches, .cores, .dram, .dramPoison, .dramWritten, .fld .CCH_HITS, .fld .CCH_MISSES,
    .fld .MOD_MB_SUMMARY, .fld .SPD_ELASTIC, .hostOut, .hports, .slots, .spd, .spdPoison] ⊆ pt) (k : Nat) (f : Nat) (args : List Byte) (regions :
    Bool) : Eff.Only pt (scanOutCmd k f args regions) := by
  unfold scanOutCmd
  repeat first
    | with_reducible exact only_seq_nil _
    | with_reducible apply only_seq_cons
    | (with_reducible apply only_rd; intro)
    | (with_reducible apply only_mbDoneWith; exact List.Subset.trans (by decide) hpt)
    | (with_reducible apply only_mbFail; exact List.Subset.trans (by decide) hpt)
    | (with_reducible apply only_scanOut; exact List.Subset.trans (by decide) hpt)
    | split
    | dsimp only

theorem only_cchCorrected {pt : List Part} (hpt : [.ev, .fld .CCH_ECC] ⊆ pt) (h : Nat) (off : Nat) : Eff.Only pt (cchCorrected h off) := by
  unfold cchCorrected
  repeat first
    | with_reducible exact only_seq_nil _
    | with_reducible apply only_seq_cons
    | (with_reducible apply only_fset; exact mem_of hpt (by decide))
    | (with_reducible apply only_fsat; exact mem_of hpt (by decide))
    | (with_reducible apply only_raise; exact mem_of hpt (by decide))

theorem only_cchUncorrected {pt : List Part} (hpt : [.cores, .dbg, .dramPoison, .ev, .faults, .flasks, .fld .CCH_ECC, .fld .CORE_MOULD,
    .fld .CORE_SC, .fld .CORE_SEQ, .fld .CORE_STAT, .fld .DBG_HOLD, .fld .LDL_CTX_n, .fld .ME_STAT, .fld .MOD_FAULT_STAT, .fld .MOD_GRID_STAT,
    .fld .MOD_MB_SUMMARY, .fld .QUEUE_BASE, .fld .QUEUE_CTL, .fld .QUEUE_DB, .fld .QUEUE_LEVEL, .fld .QUEUE_STAT, .fld .QUEUE_WM, .fld .SE_STAT,
    .fld .SPR_STAT, .fld .VU_STAT, .hostOut, .hports, .ldls, .mes, .msgs, .queues, .ses, .slots, .vus] ⊆ pt) (h : Nat) (line : Nat) : Eff.Only pt
    (cchUncorrected h line) := by
  unfold cchUncorrected
  repeat first
    | with_reducible exact only_seq_nil _
    | with_reducible apply only_seq_cons
    | (with_reducible apply only_rd; intro)
    | with_reducible apply only_either
    | (with_reducible apply only_fset; exact mem_of hpt (by decide))
    | (with_reducible apply only_fsat; exact mem_of hpt (by decide))
    | (with_reducible apply only_raise; exact mem_of hpt (by decide))
    | (with_reducible apply only_cchCorrected; exact List.Subset.trans (by decide) hpt)
    | (with_reducible apply only_contain; exact List.Subset.trans (by decide) hpt)
    | with_reducible apply only_updates
    | with_reducible exact within_nil _
    | (with_reducible apply within_cons; · exact mem_of hpt (by dsimp only [Upd.part]; decide))
    | with_reducible apply within_append
    | (with_reducible apply within_map; intros; exact mem_of hpt (by dsimp only [Upd.part]; decide))
    | (with_reducible apply within_flatMap; intro _ _)
    | split
    | dsimp only

theorem only_hbmCorrected {pt : List Part} (hpt : [.ev, .fld .CCH_HBM] ⊆ pt) (off : Nat) : Eff.Only pt (hbmCorrected off) := by
  unfold hbmCorrected
  repeat first
    | with_reducible exact only_seq_nil _
    | with_reducible apply only_seq_cons
    | (with_reducible apply only_fsat; exact mem_of hpt (by decide))
    | (with_reducible apply only_raise; exact mem_of hpt (by decide))
    | dsimp only

theorem only_hbmUncorrected {pt : List Part} (hpt : [.cores, .dbg, .dramPoison, .dramWritten, .ev, .faults, .flasks, .fld .CCH_HBM,
    .fld .CCH_HBM_ERR, .fld .CORE_MOULD, .fld .CORE_SC, .fld .CORE_SEQ, .fld .CORE_STAT, .fld .DBG_HOLD, .fld .LDL_CTX_n, .fld .ME_STAT,
    .fld .MOD_FAULT_STAT, .fld .MOD_GRID_STAT, .fld .MOD_MB_SUMMARY, .fld .QUEUE_BASE, .fld .QUEUE_CTL, .fld .QUEUE_DB, .fld .QUEUE_LEVEL,
    .fld .QUEUE_STAT, .fld .QUEUE_WM, .fld .SE_STAT, .fld .SPR_STAT, .fld .VU_STAT, .hostOut, .hports, .ldls, .mes, .msgs, .queues, .ses, .slots,
    .vus] ⊆ pt) (off : Nat) : Eff.Only pt (hbmUncorrected off) := by
  unfold hbmUncorrected
  repeat first
    | with_reducible exact only_seq_nil _
    | with_reducible apply only_seq_cons
    | (with_reducible apply only_rd; intro)
    | (with_reducible apply only_when; intro)
    | (with_reducible apply only_fset; exact mem_of hpt (by decide))
    | (with_reducible apply only_fsat; exact mem_of hpt (by decide))
    | (with_reducible apply only_raise; exact mem_of hpt (by decide))
    | (with_reducible apply only_contain; exact List.Subset.trans (by decide) hpt)
    | with_reducible apply only_updates
    | with_reducible exact within_nil _
    | (with_reducible apply within_cons; · exact mem_of hpt (by dsimp only [Upd.part]; decide))
    | with_reducible apply within_append
    | (with_reducible apply within_map; intros; exact mem_of hpt (by dsimp only [Upd.part]; decide))
    | (with_reducible apply within_flatMap; intro _ _)
    | split
    | dsimp only

theorem only_zeroingWaiters {pt : List Part} (hpt : [.fld .MOD_MB_SUMMARY, .hostOut, .hports, .slots] ⊆ pt) : Eff.Only pt (zeroingWaiters ) := by
  unfold zeroingWaiters
  repeat first
    | (with_reducible apply only_rd; intro)
    | (with_reducible apply only_when; intro)
    | with_reducible apply only_either
    | (with_reducible apply only_each; intro _ _)
    | (with_reducible apply only_mbDone; exact List.Subset.trans (by decide) hpt)
    | (with_reducible apply only_mbDoneWith; exact List.Subset.trans (by decide) hpt)
    | with_reducible intro _
    | dsimp only

theorem only_keysZeroised {pt : List Part} (hpt : [.caches, .cores, .dbg, .ev, .faults, .flasks, .fld .CORE_MOULD, .fld .CORE_SC, .fld .CORE_SEQ,
    .fld .CORE_STAT, .fld .DBG_HOLD, .fld .LDL_CTX_n, .fld .ME_STAT, .fld .MOD_FAULT_STAT, .fld .MOD_GRID_STAT, .fld .MOD_MB_SUMMARY,
    .fld .QUEUE_BASE, .fld .QUEUE_CTL, .fld .QUEUE_DB, .fld .QUEUE_LEVEL, .fld .QUEUE_STAT, .fld .QUEUE_WM, .fld .SE_STAT, .fld .SPR_STAT,
    .fld .VU_STAT, .hostOut, .hports, .ldls, .mes, .msgs, .queues, .saf, .ses, .slots, .vus] ⊆ pt) (cause : Nat) : Eff.Only pt (keysZeroised cause)
    := by
  unfold keysZeroised
  repeat first
    | with_reducible exact only_seq_nil _
    | with_reducible apply only_seq_cons
    | (with_reducible apply only_rd; intro)
    | (with_reducible apply only_each; intro _ _)
    | (with_reducible apply only_cacheDiscard; exact List.Subset.trans (by decide) hpt)
    | (with_reducible apply only_contain; exact List.Subset.trans (by decide) hpt)
    | with_reducible intro _
    | with_reducible apply only_updates
    | with_reducible exact within_nil _
    | (with_reducible apply within_cons; · exact mem_of hpt (by dsimp only [Upd.part]; decide))
    | with_reducible apply within_append
    | (with_reducible apply within_map; intros; exact mem_of hpt (by dsimp only [Upd.part]; decide))
    | (with_reducible apply within_flatMap; intro _ _)
    | dsimp only

theorem only_latchClear {pt : List Part} (hpt : [.fld .SAF_STAT, .fld .SAF_TAMPER, .saf] ⊆ pt) : Eff.Only pt (latchClear ) := by
  unfold latchClear
  repeat first
    | with_reducible exact only_seq_nil _
    | with_reducible apply only_seq_cons
    | (with_reducible apply only_rd; intro)
    | (with_reducible apply only_when; intro)
    | (with_reducible apply only_fset; exact mem_of hpt (by decide))
    | (with_reducible apply only_releaseDraw; exact List.Subset.trans (by decide) hpt)

theorem only_mouldKeyChange {pt : List Part} (hpt : [.ev, .fld .SAF_KEYS, .saf] ⊆ pt) (slot : Nat) (b : List Byte) : Eff.Only pt (mouldKeyChange
    slot b) := by
  unfold mouldKeyChange
  repeat first
    | with_reducible exact only_seq_nil _
    | with_reducible apply only_seq_cons
    | (with_reducible apply only_rd; intro)
    | (with_reducible apply only_fbit; exact mem_of hpt (by decide))
    | (with_reducible apply only_raise; exact mem_of hpt (by decide))
    | with_reducible apply only_updates
    | with_reducible exact within_nil _
    | (with_reducible apply within_cons; · exact mem_of hpt (by dsimp only [Upd.part]; decide))
    | with_reducible apply within_append
    | (with_reducible apply within_map; intros; exact mem_of hpt (by dsimp only [Upd.part]; decide))
    | (with_reducible apply within_flatMap; intro _ _)
    | split

theorem only_roleWrite {ps : List Part} {r : Reg} (h : .fld r ∈ ps ∨ .flds ∈ ps) (val : Word) (bm : Nat) : Eff.Only ps (roleWrite r val bm) := by
  exact only_rd fun _ => only_when fun _ => only_regWrite h _ _ _

theorem only_weightInstall {pt : List Part} (hpt : [.flasks, .fld .SAF_STAT, .saf] ⊆ pt) (f : Nat) (b : List Byte) : Eff.Only pt (weightInstall f b)
    := by
  unfold weightInstall
  repeat first
    | with_reducible exact only_seq_nil _
    | with_reducible apply only_seq_cons
    | (with_reducible apply only_rd; intro)
    | (with_reducible apply only_fbit; exact mem_of hpt (by decide))
    | (with_reducible apply only_onFlask; exact mem_of hpt (by decide))
    | with_reducible apply only_updates
    | with_reducible exact within_nil _
    | (with_reducible apply within_cons; · exact mem_of hpt (by dsimp only [Upd.part]; decide))
    | with_reducible apply within_append
    | (with_reducible apply within_map; intros; exact mem_of hpt (by dsimp only [Upd.part]; decide))
    | (with_reducible apply within_flatMap; intro _ _)
    | dsimp only

theorem only_State.peerDepth {pt : List Part} (hpt : [.freeCtr] ⊆ pt) (s : State) (q : Nat) (k : Nat → Eff) (hk : ∀ x0, Eff.Only pt (k x0)) :
    Eff.Only pt (State.peerDepth s q k) := by
  unfold State.peerDepth
  repeat first
    | with_reducible exact hk ..
    | (with_reducible apply only_draw; · exact mem_of hpt (by decide))
    | with_reducible intro _
    | split
    | dsimp only

theorem only_setPc {pt : List Part} (hpt : [.fld .CORE_SEQ] ⊆ pt) (p : Nat) (pc : Nat) : Eff.Only pt (setPc p pc) := by
  unfold setPc
  repeat first
    | with_reducible exact only_nop _
    | with_reducible exact only_seq_nil _
    | with_reducible apply only_seq_cons
    | (with_reducible apply only_rd; intro)
    | (with_reducible apply only_fset; exact mem_of hpt (by decide))
    | split
    | dsimp only

theorem only_vuBusy {pt : List Part} (hpt : [.fld .VU_STAT] ⊆ pt) (p : Nat) : Eff.Only pt (vuBusy p) := by
  unfold vuBusy
  repeat first
    | (with_reducible apply only_rd; intro)
    | with_reducible apply only_updates
    | with_reducible exact within_nil _
    | (with_reducible apply within_cons; · exact mem_of hpt (by dsimp only [Upd.part]; decide))
    | with_reducible apply within_append
    | (with_reducible apply within_map; intros; exact mem_of hpt (by dsimp only [Upd.part]; decide))
    | (with_reducible apply within_flatMap; intro _ _)

theorem only_advance {pt : List Part} (hpt : [.cores, .fld .CORE_SC, .fld .CORE_SEQ, .fld .VU_STAT] ⊆ pt) (p : Nat) (cycles : Nat) (target : Option
    Nat) : Eff.Only pt (advance p cycles target) := by
  unfold advance
  repeat first
    | with_reducible exact only_seq_nil _
    | with_reducible apply only_seq_cons
    | (with_reducible apply only_rd; intro)
    | (with_reducible apply only_fadd; exact mem_of hpt (by decide))
    | (with_reducible apply only_onCore; exact mem_of hpt (by decide))
    | (with_reducible apply only_setPc; exact List.Subset.trans (by decide) hpt)
    | (with_reducible apply only_vuBusy; exact List.Subset.trans (by decide) hpt)
    | split
    | dsimp only

theorem only_settle {pt : List Part} (hpt : [.cores] ⊆ pt) (p : Nat) : Eff.Only pt (settle p) := by
  unfold settle
  repeat first
    | with_reducible exact only_seq_nil _
    | with_reducible apply only_seq_cons
    | (with_reducible apply only_rd; intro)
    | (with_reducible apply only_when; intro)
    | (with_reducible apply only_each; intro _ _)
    | (with_reducible apply only_onCore; exact mem_of hpt (by decide))
    | (with_reducible apply only_setScalar; exact List.Subset.trans (by decide) hpt)
    | with_reducible intro _
    | dsimp only

theorem only_seqStep {pt : List Part} (hpt : [.cores, .fld .CORE_SC, .fld .CORE_SEQ, .fld .VU_STAT] ⊆ pt) (p : Nat) (cycles : Nat) (target : Option
    Nat) (body : Eff) (hbody : Eff.Only pt body) : Eff.Only pt (seqStep p cycles target body) := by
  unfold seqStep
  repeat first
    | with_reducible exact hbody
    | with_reducible exact only_seq_nil _
    | with_reducible apply only_seq_cons
    | (with_reducible apply only_rd; intro)
    | (with_reducible apply only_when; intro)
    | (with_reducible apply only_advance; exact List.Subset.trans (by decide) hpt)
    | (with_reducible apply only_settle; exact List.Subset.trans (by decide) hpt)

theorem only_alu {pt : List Part} (hpt : [.cores, .fld .CORE_SC, .fld .CORE_SEQ, .fld .VU_STAT] ⊆ pt) (core : CoreId) (d : Fin 32) (ra : Fin 32) (rb
    : Fin 32) (f : Nat → Nat → Nat) : Eff.Only pt (alu core d ra rb f) := by
  unfold alu
  repeat first
    | (with_reducible apply only_rd; intro)
    | (with_reducible apply only_seqStep; · exact List.Subset.trans (by decide) hpt)
    | (with_reducible apply only_setScalar; exact List.Subset.trans (by decide) hpt)

theorem only_aluShift {pt : List Part} (hpt : [.cores, .fld .CORE_SC, .fld .CORE_SEQ, .fld .VU_STAT, .freeCtr] ⊆ pt) (core : CoreId) (d : Fin 32)
    (ra : Fin 32) (rb : Fin 32) (f : Nat → Nat → Nat) : Eff.Only pt (aluShift core d ra rb f) := by
  unfold aluShift
  repeat first
    | (with_reducible apply only_rd; intro)
    | (with_reducible apply only_draw; · exact mem_of hpt (by decide))
    | (with_reducible apply only_seqStep; · exact List.Subset.trans (by decide) hpt)
    | (with_reducible apply only_setScalar; exact List.Subset.trans (by decide) hpt)
    | with_reducible intro _
    | split
    | dsimp only

theorem only_creditSend {pt : List Part} (hpt : [.msgs, .ports, .queues] ⊆ pt) (q : Nat) : Eff.Only pt (creditSend q) := by
  unfold creditSend
  repeat first
    | with_reducible exact only_seq_nil _
    | with_reducible apply only_seq_cons
    | (with_reducible apply only_rd; intro)
    | (with_reducible apply only_onQueue; exact mem_of hpt (by decide))
    | (with_reducible apply only_sendMod; exact List.Subset.trans (by decide) hpt)
    | dsimp only

theorem only_qopDeliver {pt : List Part} (hpt : [.cores, .spd, .spdPoison] ⊆ pt) (p : Nat) (a : Nat) (e : List Byte) (poison : Bool) : Eff.Only pt
    (qopDeliver p a e poison) := by
  unfold qopDeliver
  repeat first
    | with_reducible exact only_nop _
    | (with_reducible apply only_spdWr; exact List.Subset.trans (by decide) hpt)
    | split

theorem only_qopEntry {pt : List Part} (hpt : [.freeCtr] ⊆ pt) (p : Nat) (a : Nat) (k : List Byte → Bool → Eff) (hk : ∀ x0 x1, Eff.Only pt (k x0
    x1)) : Eff.Only pt (qopEntry p a k) := by
  unfold qopEntry
  repeat first
    | with_reducible exact hk ..
    | (with_reducible apply only_rd; intro)
    | (with_reducible apply only_draw; · exact mem_of hpt (by decide))
    | with_reducible intro _
    | split

theorem only_qopResult {pt : List Part} (hpt : [.cores] ⊆ pt) (p : Nat) (rd_ : Nat) (v : Nat) : Eff.Only pt (qopResult p rd_ v) := by
  unfold qopResult
  repeat first
    | (with_reducible apply only_rd; intro)
    | (with_reducible apply only_onCore; exact mem_of hpt (by decide))

theorem only_qopLevel {pt : List Part} (hpt : [.cores] ⊆ pt) (p : Nat) (q : Nat) (rd_ : Nat) : Eff.Only pt (qopLevel p q rd_) := by
  unfold qopLevel
  repeat first
    | (with_reducible apply only_rd; intro)
    | (with_reducible apply only_qopResult; exact List.Subset.trans (by decide) hpt)
    | split
    | dsimp only

theorem only_qopPop {pt : List Part} (hpt : [.cores, .ev, .fld .QUEUE_LEVEL, .fld .QUEUE_STAT, .fld .QUEUE_WM, .queues, .spd, .spdPoison] ⊆ pt) (p :
    Nat) (q : Nat) (rd_ : Nat) (a : Nat) : Eff.Only pt (qopPop p q rd_ a) := by
  unfold qopPop
  repeat first
    | with_reducible exact only_seq_nil _
    | with_reducible apply only_seq_cons
    | (with_reducible apply only_rd; intro)
    | with_reducible apply only_either
    | (with_reducible apply only_onQueue; exact mem_of hpt (by decide))
    | (with_reducible apply only_qopDeliver; exact List.Subset.trans (by decide) hpt)
    | (with_reducible apply only_qopResult; exact List.Subset.trans (by decide) hpt)
    | (with_reducible apply only_queueSync; exact List.Subset.trans (by decide) hpt)
    | split
    | dsimp only

theorem only_qopPost {pt : List Part} (hpt : [.cores, .ev, .fld .QUEUE_LEVEL, .fld .QUEUE_STAT, .fld .QUEUE_WM, .freeCtr, .queues, .spd, .spdPoison]
    ⊆ pt) (p : Nat) (q : Nat) (rd_ : Nat) (a : Nat) : Eff.Only pt (qopPost p q rd_ a) := by
  unfold qopPost
  repeat first
    | with_reducible exact only_seq_nil _
    | with_reducible apply only_seq_cons
    | (with_reducible apply only_rd; intro)
    | with_reducible apply only_either
    | (with_reducible apply only_postAccept; exact List.Subset.trans (by decide) hpt)
    | (with_reducible apply only_qopEntry; · exact List.Subset.trans (by decide) hpt)
    | (with_reducible apply only_qopResult; exact List.Subset.trans (by decide) hpt)
    | (with_reducible apply only_ringPush; exact List.Subset.trans (by decide) hpt)
    | with_reducible intro _
    | split
    | dsimp only

theorem only_qopSend {pt : List Part} (hpt : [.cores, .flasks, .fld .CORE_QSTAT, .freeCtr, .msgs, .ports, .queues] ⊆ pt) (p : Nat) (q : Nat) (rd_ :
    Nat) (a : Nat) : Eff.Only pt (qopSend p q rd_ a) := by
  unfold qopSend
  repeat first
    | with_reducible exact only_nop _
    | with_reducible exact only_seq_nil _
    | with_reducible apply only_seq_cons
    | (with_reducible apply only_rd; intro)
    | (with_reducible apply only_when; intro)
    | with_reducible apply only_either
    | (with_reducible apply only_fsat; exact mem_of hpt (by decide))
    | (with_reducible apply only_onFlask; exact mem_of hpt (by decide))
    | (with_reducible apply only_onQueue; exact mem_of hpt (by decide))
    | (with_reducible apply only_State.peerDepth; · exact List.Subset.trans (by decide) hpt)
    | (with_reducible apply only_qopEntry; · exact List.Subset.trans (by decide) hpt)
    | (with_reducible apply only_qopResult; exact List.Subset.trans (by decide) hpt)
    | (with_reducible apply only_sendMod; exact List.Subset.trans (by decide) hpt)
    | with_reducible intro _
    | split
    | dsimp only

theorem only_tapLoad {pt : List Part} (hpt : [.align, .boot, .caches, .cores, .ctl, .dbg, .dec, .dram, .dramPoison, .dramWritten, .ev, .faults,
    .flasks, .fld .CLK_PSTEP, .fld .CLU_CORES, .fld .CORE_STAT, .fld .DBG_STAT, .fld .ME_CAP, .fld .MOD_APERTURE_CTL, .fld .MOD_BOOT_ERR,
    .fld .MOD_BOOT_STAT, .fld .MOD_FLASH_INFO, .fld .MOD_GRID_STAT, .fld .MOD_MB_SUMMARY, .fld .MOD_PORT_BOOT, .fld .MOD_POUR_ID,
    .fld .MOD_RESET_STAT, .fld .MOD_ROW_MAP_r, .fld .PST_CORE_PWR_r, .fld .PST_PAD_HOLD, .fld .PST_RAMP, .fld .PST_STAT, .fld .PWR_CLUSTER_c,
    .fld .PWR_RISER_LEAD, .fld .PWR_TILE_t, .fld .RUN_LANE_l, .fld .RUN_STAT, .fld .SAF_STAT, .fld .SPD_STAT, .fld .TC_ALIGN_STAT, .fld .TC_NOW,
    .flds, .gclk, .hostOut, .hports, .ldls, .mes, .msgs, .msix, .pep, .ports, .pour, .power, .pst, .queues, .refreshOnly, .refreshed, .rings, .saf,
    .seam, .ses, .slag, .slots, .spd, .spdPoison, .svc, .vus] ⊆ pt) (ir : TapIr) (env : BootEnv) (tc : Nat) : Eff.Only pt (tapLoad ir env tc) := by
  unfold tapLoad
  repeat first
    | with_reducible exact only_seq_nil _
    | with_reducible apply only_seq_cons
    | (with_reducible apply only_rd; intro)
    | (with_reducible apply only_when; intro)
    | (with_reducible apply only_fset; exact mem_of hpt (by decide))
    | (with_reducible apply only_tcTo; exact mem_of hpt (by decide))
    | (with_reducible apply only_bootFull; exact List.Subset.trans (by decide) hpt)
    | (with_reducible apply only_clearAll; exact List.Subset.trans (by decide) hpt)
    | (with_reducible apply only_lifecycleBack; exact List.Subset.trans (by decide) hpt)
    | with_reducible apply only_updates
    | with_reducible exact within_nil _
    | (with_reducible apply within_cons; · exact mem_of hpt (by dsimp only [Upd.part]; decide))
    | with_reducible apply within_append
    | (with_reducible apply within_map; intros; exact mem_of hpt (by dsimp only [Upd.part]; decide))
    | (with_reducible apply within_flatMap; intro _ _)
    | dsimp only

theorem only_code {pt : List Part} (hpt : [.resp] ⊆ pt) (n : Nat) : Eff.Only pt (code n) := by
  unfold code
  repeat first
    | (with_reducible apply only_answer; exact mem_of hpt (by decide))

theorem only_inSession {pt : List Part} (hpt : [.resp] ⊆ pt) (id : Nat) (e : Eff) (he : Eff.Only pt e) : Eff.Only pt (inSession id e) := by
  unfold inSession
  repeat first
    | with_reducible exact he
    | (with_reducible apply only_rd; intro)
    | (with_reducible apply only_when; intro)
    | with_reducible apply only_either
    | (with_reducible apply only_code; exact List.Subset.trans (by decide) hpt)

theorem only_inUpdate {pt : List Part} (hpt : [.resp] ⊆ pt) (states : List Nat) (e : Eff) (he : Eff.Only pt e) : Eff.Only pt (inUpdate states e) := by
  unfold inUpdate
  repeat first
    | with_reducible exact he
    | (with_reducible apply only_rd; intro)
    | (with_reducible apply only_when; intro)
    | (with_reducible apply only_code; exact List.Subset.trans (by decide) hpt)
    | split

theorem only_onPldm {pt : List Part} (hpt : [.boot] ⊆ pt) (f : PldmSt → PldmSt) : Eff.Only pt (onPldm f) := by
  unfold onPldm
  repeat first
    | (with_reducible apply only_rd; intro)
    | with_reducible apply only_updates
    | with_reducible exact within_nil _
    | (with_reducible apply within_cons; · exact mem_of hpt (by dsimp only [Upd.part]; decide))
    | with_reducible apply within_append
    | (with_reducible apply within_map; intros; exact mem_of hpt (by dsimp only [Upd.part]; decide))
    | (with_reducible apply within_flatMap; intro _ _)

theorem only_pldmAsk {pt : List Part} (hpt : [.msgs] ⊆ pt) : Eff.Only pt (pldmAsk ) := by
  unfold pldmAsk
  repeat first
    | (with_reducible apply only_rd; intro)
    | (with_reducible apply only_send; exact mem_of hpt (by decide))
    | split
    | dsimp only

theorem only_pldmVerify {pt : List Part} (hpt : [.boot, .ev, .fld .MOD_BOOT_ERR, .fld .MOD_FLASH_INFO, .msgs] ⊆ pt) (sig : Bool) (readBack : Bool) :
    Eff.Only pt (pldmVerify sig readBack) := by
  unfold pldmVerify
  repeat first
    | with_reducible exact only_seq_nil _
    | with_reducible apply only_seq_cons
    | (with_reducible apply only_rd; intro)
    | (with_reducible apply only_when; intro)
    | (with_reducible apply only_fset; exact mem_of hpt (by decide))
    | (with_reducible apply only_send; exact mem_of hpt (by decide))
    | (with_reducible apply only_fwReject; exact List.Subset.trans (by decide) hpt)
    | (with_reducible apply only_fwStore; exact List.Subset.trans (by decide) hpt)
    | (with_reducible apply only_onPldm; exact List.Subset.trans (by decide) hpt)
    | with_reducible apply only_updates
    | with_reducible exact within_nil _
    | (with_reducible apply within_cons; · exact mem_of hpt (by dsimp only [Upd.part]; decide))
    | with_reducible apply within_append
    | (with_reducible apply within_map; intros; exact mem_of hpt (by dsimp only [Upd.part]; decide))
    | (with_reducible apply within_flatMap; intro _ _)
    | split
    | dsimp only

theorem only_recoveryBoot {pt : List Part} (hpt : [.align, .boot, .cores, .ctl, .dbg, .ev, .fld .CLK_PSTEP, .fld .CLU_CORES, .fld .CORE_STAT,
    .fld .DBG_STAT, .fld .ME_CAP, .fld .MOD_APERTURE_CTL, .fld .MOD_BOOT_ERR, .fld .MOD_BOOT_STAT, .fld .MOD_FLASH_INFO, .fld .MOD_GRID_STAT,
    .fld .MOD_MB_SUMMARY, .fld .MOD_PORT_BOOT, .fld .MOD_POUR_ID, .fld .MOD_ROW_MAP_r, .fld .PST_CORE_PWR_r, .fld .PST_PAD_HOLD, .fld .PST_RAMP,
    .fld .PST_STAT, .fld .PWR_CLUSTER_c, .fld .PWR_RISER_LEAD, .fld .PWR_TILE_t, .fld .RUN_LANE_l, .fld .RUN_STAT, .fld .SAF_STAT, .fld .SPD_STAT,
    .fld .TC_ALIGN_STAT, .hostOut, .hports, .msgs, .ports, .pour, .pst, .saf, .seam, .slag, .slots, .svc] ⊆ pt) (env : BootEnv) : Eff.Only pt
    (recoveryBoot env) := by
  unfold recoveryBoot
  repeat first
    | with_reducible exact only_seq_nil _
    | with_reducible apply only_seq_cons
    | (with_reducible apply only_rd; intro)
    | (with_reducible apply only_bootFull; exact List.Subset.trans (by decide) hpt)
    | (with_reducible apply only_dirWrite; exact List.Subset.trans (by decide) hpt)
    | (with_reducible apply only_onPldm; exact List.Subset.trans (by decide) hpt)
    | with_reducible apply only_updates
    | with_reducible exact within_nil _
    | (with_reducible apply within_cons; · exact mem_of hpt (by dsimp only [Upd.part]; decide))
    | with_reducible apply within_append
    | (with_reducible apply within_map; intros; exact mem_of hpt (by dsimp only [Upd.part]; decide))
    | (with_reducible apply within_flatMap; intro _ _)
    | dsimp only

theorem only_spdmAt {pt : List Part} (hpt : [.resp] ⊆ pt) (p : Nat) (e : Eff) (he : Eff.Only pt e) : Eff.Only pt (spdmAt p e) := by
  unfold spdmAt
  repeat first
    | with_reducible exact he
    | (with_reducible apply only_rd; intro)
    | (with_reducible apply only_when; intro)
    | with_reducible apply only_either
    | (with_reducible apply only_code; exact List.Subset.trans (by decide) hpt)

theorem only_holdArm {pt : List Part} (hpt : [.dbg, .fld .DBG_HOLD] ⊆ pt) (a : HoldArm) : Eff.Only pt (holdArm a) := by
  unfold holdArm
  repeat first
    | with_reducible exact only_seq_nil _
    | with_reducible apply only_seq_cons
    | (with_reducible apply only_rd; intro)
    | (with_reducible apply only_armedBit; exact List.Subset.trans (by decide) hpt)
    | with_reducible apply only_updates
    | with_reducible exact within_nil _
    | (with_reducible apply within_cons; · exact mem_of hpt (by dsimp only [Upd.part]; decide))
    | with_reducible apply within_append
    | (with_reducible apply within_map; intros; exact mem_of hpt (by dsimp only [Upd.part]; decide))
    | (with_reducible apply within_flatMap; intro _ _)

theorem only_bpCapture {pt : List Part} (hpt : [.dbg, .ev, .fld .DBG_BP_HIT_n, .fld .DBG_HOLD] ⊆ pt) (n : Nat) (req : Nat) (core : Nat) (fa : Nat) :
    Eff.Only pt (bpCapture n req core fa) := by
  unfold bpCapture
  repeat first
    | with_reducible exact only_seq_nil _
    | with_reducible apply only_seq_cons
    | (with_reducible apply only_rd; intro)
    | (with_reducible apply only_when; intro)
    | (with_reducible apply only_fset; exact mem_of hpt (by decide))
    | (with_reducible apply only_fsat; exact mem_of hpt (by decide))
    | (with_reducible apply only_raise; exact mem_of hpt (by decide))
    | (with_reducible apply only_holdArm; exact List.Subset.trans (by decide) hpt)
    | with_reducible apply only_updates
    | with_reducible exact within_nil _
    | (with_reducible apply within_cons; · exact mem_of hpt (by dsimp only [Upd.part]; decide))
    | with_reducible apply within_append
    | (with_reducible apply within_map; intros; exact mem_of hpt (by dsimp only [Upd.part]; decide))
    | (with_reducible apply within_flatMap; intro _ _)
    | dsimp only

theorem only_holdBegin {pt : List Part} (hpt : [.dbg, .ev, .fld .DBG_HOLD] ⊆ pt) (f : Nat) : Eff.Only pt (holdBegin f) := by
  unfold holdBegin
  repeat first
    | with_reducible exact only_seq_nil _
    | with_reducible apply only_seq_cons
    | (with_reducible apply only_rd; intro)
    | (with_reducible apply only_when; intro)
    | (with_reducible apply only_fbit; exact mem_of hpt (by decide))
    | (with_reducible apply only_raise; exact mem_of hpt (by decide))
    | with_reducible apply only_updates
    | with_reducible exact within_nil _
    | (with_reducible apply within_cons; · exact mem_of hpt (by dsimp only [Upd.part]; decide))
    | with_reducible apply within_append
    | (with_reducible apply within_map; intros; exact mem_of hpt (by dsimp only [Upd.part]; decide))
    | (with_reducible apply within_flatMap; intro _ _)

theorem only_refuseIf {pt : List Part} (hpt : [.dbg, .msgs, .resp] ⊆ pt) (l : List (Bool × Nat)) (e : Eff) (he : Eff.Only pt e) : Eff.Only pt
    (refuseIf l e) := by
  unfold refuseIf
  repeat first
    | with_reducible exact he
    | (with_reducible apply only_slosyAnswer; exact List.Subset.trans (by decide) hpt)
    | split
    | dsimp only

theorem only_holdPour {pt : List Part} (hpt : [.ctl, .dbg, .dec, .msgs, .resp] ⊆ pt) (kind : Nat) (count : Nat) (target : Nat) : Eff.Only pt
    (holdPour kind count target) := by
  unfold holdPour
  repeat first
    | with_reducible exact only_seq_nil _
    | with_reducible apply only_seq_cons
    | (with_reducible apply only_rd; intro)
    | (with_reducible apply only_send; exact mem_of hpt (by decide))
    | (with_reducible apply only_ctlTake; exact List.Subset.trans (by decide) hpt)
    | (with_reducible apply only_refuseIf; · exact List.Subset.trans (by decide) hpt)
    | with_reducible apply only_updates
    | with_reducible exact within_nil _
    | (with_reducible apply within_cons; · exact mem_of hpt (by dsimp only [Upd.part]; decide))
    | with_reducible apply within_append
    | (with_reducible apply within_map; intros; exact mem_of hpt (by dsimp only [Upd.part]; decide))
    | (with_reducible apply within_flatMap; intro _ _)
    | dsimp only

theorem only_holdChange {pt : List Part} (hpt : [.ctl, .dbg, .dec, .fld .DBG_HOLD, .msgs, .resp] ⊆ pt) (f : Nat) (kind : Nat) (units : Nat) (target
    : Nat) (pour : Bool) : Eff.Only pt (holdChange f kind units target pour) := by
  unfold holdChange
  repeat first
    | with_reducible exact only_seq_nil _
    | with_reducible apply only_seq_cons
    | (with_reducible apply only_rd; intro)
    | with_reducible apply only_either
    | (with_reducible apply only_holdArm; exact List.Subset.trans (by decide) hpt)
    | (with_reducible apply only_holdPour; exact List.Subset.trans (by decide) hpt)
    | (with_reducible apply only_slosyAnswer; exact List.Subset.trans (by decide) hpt)
    | split
    | dsimp only

theorem only_holdRelease {pt : List Part} (hpt : [.dbg, .ev, .fld .DBG_HOLD] ⊆ pt) (f : Nat) : Eff.Only pt (holdRelease f) := by
  unfold holdRelease
  repeat first
    | with_reducible exact only_seq_nil _
    | with_reducible apply only_seq_cons
    | (with_reducible apply only_rd; intro)
    | (with_reducible apply only_when; intro)
    | (with_reducible apply only_fbit; exact mem_of hpt (by decide))
    | (with_reducible apply only_raise; exact mem_of hpt (by decide))
    | with_reducible apply only_updates
    | with_reducible exact within_nil _
    | (with_reducible apply within_cons; · exact mem_of hpt (by dsimp only [Upd.part]; decide))
    | with_reducible apply within_append
    | (with_reducible apply within_map; intros; exact mem_of hpt (by dsimp only [Upd.part]; decide))
    | (with_reducible apply within_flatMap; intro _ _)

theorem only_ownersChange {pt : List Part} (hpt : [.caches, .cores, .dbg, .dram, .dramPoison, .dramWritten, .flasks, .fld .CORE_MOULD,
    .fld .CORE_SC, .fld .CORE_SEQ, .fld .CORE_STAT, .fld .DBG_HOLD, .fld .LDL_CTX_n, .fld .ME_STAT, .fld .MOD_GRID_STAT, .fld .MOD_MB_SUMMARY,
    .fld .QUEUE_BASE, .fld .QUEUE_CTL, .fld .QUEUE_DB, .fld .QUEUE_LEVEL, .fld .QUEUE_STAT, .fld .QUEUE_WM, .fld .SAF_STAT, .fld .SE_STAT,
    .fld .SPD_ELASTIC, .fld .SPD_STAT, .fld .SPR_STAT, .fld .VU_STAT, .hostOut, .hports, .ldls, .mes, .queues, .ses, .slots, .vus] ⊆ pt) : Eff.Only
    pt (ownersChange ) := by
  unfold ownersChange
  repeat first
    | with_reducible exact only_seq_nil _
    | with_reducible apply only_seq_cons
    | (with_reducible apply only_rd; intro)
    | (with_reducible apply only_each; intro _ _)
    | (with_reducible apply only_fbit; exact mem_of hpt (by decide))
    | (with_reducible apply only_onFlask; exact mem_of hpt (by decide))
    | (with_reducible apply only_coreZero; exact List.Subset.trans (by decide) hpt)
    | (with_reducible apply only_flaskReset; exact List.Subset.trans (by decide) hpt)
    | (with_reducible apply only_regionOpen; exact List.Subset.trans (by decide) hpt)
    | with_reducible intro _
    | dsimp only

theorem only_regWriteRw {ps : List Part} {r : Reg} (h : .fld r ∈ ps ∨ .flds ∈ ps) (i mask v : Nat) : Eff.Only ps (regWriteRw r i mask v) := by
  refine only_rd fun s => only_updates (within_filterMap fun f hf u hu => ?_)
  dsimp only at hu
  split at hu
  · cases hu
  · cases hu; exact In_fld h (List.mem_filter.1 hf).1 _ _

theorem only_slosyPut {pt : List Part} (hpt : [.caches, .cores, .dram, .dramPoison, .dramWritten, .ev, .fld .CCH_HITS, .fld .CCH_MISSES,
    .fld .CORE_QSTAT, .fld .MOD_FA_FAULT_ADDR, .fld .MOD_FA_FAULT_INFO, .fld .MOD_HOST_ERR_p, .fld .PWR_TELEM_IN_p, .fld .QUEUE_BASE,
    .fld .QUEUE_CTL, .fld .QUEUE_LEVEL, .fld .QUEUE_STAT, .fld .QUEUE_WM, .fld .SPD_ELASTIC, .flds, .msgs, .ports, .queues, .spd, .spdPoison] ⊆ pt)
    (fa : Nat) (bs : List Byte) (k : Nat → Eff) (hk : ∀ x0, Eff.Only pt (k x0)) : Eff.Only pt (slosyPut fa bs k) := by
  unfold slosyPut
  repeat first
    | with_reducible exact hk ..
    | with_reducible exact only_seq_nil _
    | with_reducible apply only_seq_cons
    | (with_reducible apply only_rd; intro)
    | (with_reducible apply only_faFault; exact List.Subset.trans (by decide) hpt)
    | (with_reducible apply only_regWriteRw; first | exact .inl (mem_of hpt (by decide)) | exact .inr (mem_of hpt (by decide)))
    | (with_reducible apply only_serve; · exact List.Subset.trans (by decide) hpt)
    | with_reducible intro _
    | split
    | dsimp only

theorem only_slosyReads {pt : List Part} (hpt : [.caches, .cores, .dram, .dramPoison, .dramWritten, .ev, .fld .CCH_HITS, .fld .CCH_MISSES,
    .fld .CORE_QSTAT, .fld .MOD_FA_FAULT_ADDR, .fld .MOD_FA_FAULT_INFO, .fld .MOD_HOST_ERR_p, .fld .PWR_TELEM_IN_p, .fld .QUEUE_BASE,
    .fld .QUEUE_CTL, .fld .QUEUE_LEVEL, .fld .QUEUE_STAT, .fld .QUEUE_WM, .fld .SPD_ELASTIC, .flds, .msgs, .ports, .queues, .spd, .spdPoison] ⊆ pt)
    (a0 : Nat) (a1 : Nat) (a2 : Nat) (a3 : List Byte) (a4 : Option (List Byte) → Eff) (ha4 : ∀ x0, Eff.Only pt (a4 x0)) : Eff.Only pt (slosyReads a0
    a1 a2 a3 a4) := by
  induction a0 generalizing a1 a2 a3 with
  | zero => exact ha4 _
  | succ n ih =>
    unfold slosyReads
    split
    · exact ha4 _
    · refine only_serve (List.Subset.trans (by decide) hpt) _ _ _ _ _ _ _ _ fun _ _ _ => ?_
      split
      · exact ha4 _
      · apply ih

theorem only_slosyServe {pt : List Part} (hpt : [] ⊆ pt) (cmd : Nat) (e : List Byte → Eff) (he : ∀ x0, Eff.Only pt (e x0)) : Eff.Only pt (slosyServe
    cmd e) := by
  unfold slosyServe
  repeat first
    | with_reducible exact he ..
    | with_reducible exact only_nop _
    | (with_reducible apply only_rd; intro)
    | (with_reducible apply only_when; intro)
    | split
    | dsimp only

theorem only_slosyWrites {pt : List Part} (hpt : [.caches, .cores, .dram, .dramPoison, .dramWritten, .ev, .fld .CCH_HITS, .fld .CCH_MISSES,
    .fld .CORE_QSTAT, .fld .MOD_FA_FAULT_ADDR, .fld .MOD_FA_FAULT_INFO, .fld .MOD_HOST_ERR_p, .fld .PWR_TELEM_IN_p, .fld .QUEUE_BASE,
    .fld .QUEUE_CTL, .fld .QUEUE_LEVEL, .fld .QUEUE_STAT, .fld .QUEUE_WM, .fld .SPD_ELASTIC, .flds, .msgs, .ports, .queues, .spd, .spdPoison] ⊆ pt)
    (a0 : Nat) (a1 : Nat) (a2 : List Byte) (a3 : Bool → Eff) (ha3 : ∀ x0, Eff.Only pt (a3 x0)) : Eff.Only pt (slosyWrites a0 a1 a2 a3) := by
  induction a0 generalizing a1 a2 with
  | zero => exact ha3 _
  | succ n ih =>
    unfold slosyWrites
    split
    · exact ha3 _
    · refine only_slosyPut (List.Subset.trans (by decide) hpt) _ _ _ fun _ => ?_
      split
      · exact ha3 _
      · apply ih

theorem only_bufArrive {pt : List Part} (hpt : [.cores, .ev, .fld .SPR_ERR] ⊆ pt) (p : Nat) (n : Nat) (b : Beat) : Eff.Only pt (bufArrive p n b) := by
  unfold bufArrive
  repeat first
    | with_reducible exact only_seq_nil _
    | with_reducible apply only_seq_cons
    | (with_reducible apply only_rd; intro)
    | with_reducible apply only_either
    | (with_reducible apply only_fset; exact mem_of hpt (by decide))
    | (with_reducible apply only_raise; exact mem_of hpt (by decide))
    | (with_reducible apply only_onCore; exact mem_of hpt (by decide))
    | dsimp only

theorem only_cellQueue {pt : List Part} (hpt : [.ports] ⊆ pt) (port : Nat) (b : Beat) : Eff.Only pt (cellQueue port b) := by
  unfold cellQueue
  repeat first
    | (with_reducible apply only_rd; intro)
    | (with_reducible apply only_onPort; exact mem_of hpt (by decide))

theorem only_decisionFails {pt : List Part} (hpt : [.dec] ⊆ pt) (own : Nat) (seen : Nat) : Eff.Only pt (decisionFails own seen) := by
  unfold decisionFails
  repeat first
    | (with_reducible apply only_rd; intro)
    | (with_reducible apply only_when; intro)
    | with_reducible apply only_updates
    | with_reducible exact within_nil _
    | (with_reducible apply within_cons; · exact mem_of hpt (by dsimp only [Upd.part]; decide))
    | with_reducible apply within_append
    | (with_reducible apply within_map; intros; exact mem_of hpt (by dsimp only [Upd.part]; decide))
    | (with_reducible apply within_flatMap; intro _ _)

theorem only_drive {pt : List Part} (hpt : [.msgs, .ports] ⊆ pt) (p : Nat) (out : Nat) (b : Beat) : Eff.Only pt (drive p out b) := by
  unfold drive
  repeat first
    | (with_reducible apply only_rd; intro)
    | (with_reducible apply only_each; intro _ _)
    | (with_reducible apply only_send; exact mem_of hpt (by decide))
    | (with_reducible apply only_cellQueue; exact List.Subset.trans (by decide) hpt)
    | with_reducible intro _
    | split

theorem only_departs {pt : List Part} (hpt : [.msgs, .ports] ⊆ pt) (p : Nat) (f : Nat) (e : SprSlot) (k : Nat) (sc : Nat) (lost : List Nat) :
    Eff.Only pt (departs p f e k sc lost) := by
  unfold departs
  repeat first
    | (with_reducible apply only_rd; intro)
    | (with_reducible apply only_drive; exact List.Subset.trans (by decide) hpt)
    | split
    | dsimp only

theorem only_localArrive {pt : List Part} (hpt : [.cores, .ev, .fld .SPR_ERR, .spd, .spdPoison] ⊆ pt) (p : Nat) (e : SprSlot) (k : Nat) (b : Beat)
    (lost : List Nat) : Eff.Only pt (localArrive p e k b lost) := by
  unfold localArrive
  repeat first
    | with_reducible exact only_seq_nil _
    | with_reducible apply only_seq_cons
    | (with_reducible apply only_when; intro)
    | (with_reducible apply only_arriveBy; exact List.Subset.trans (by decide) hpt)
    | (with_reducible apply only_bufArrive; exact List.Subset.trans (by decide) hpt)
    | (with_reducible apply only_spdWrLost; exact List.Subset.trans (by decide) hpt)
    | split

theorem only_dispatch {pt : List Part} (hpt : [.cores, .ev, .fld .SPR_ERR, .msgs, .ports, .spd, .spdPoison] ⊆ pt) (p : Nat) (es : List (SprSlot ×
    Nat)) (b : Beat) (lost : List Nat) : Eff.Only pt (dispatch p es b lost) := by
  unfold dispatch
  repeat first
    | (with_reducible apply only_when; intro)
    | (with_reducible apply only_each; intro _ _)
    | (with_reducible apply only_drive; exact List.Subset.trans (by decide) hpt)
    | (with_reducible apply only_localArrive; exact List.Subset.trans (by decide) hpt)
    | with_reducible intro _
    | split

theorem only_elasticCredit {pt : List Part} (hpt : [.cores] ⊆ pt) (p : Nat) (out : Nat) (req : Nat) (rsp : Nat) : Eff.Only pt (elasticCredit p out
    req rsp) := by
  unfold elasticCredit
  repeat first
    | (with_reducible apply only_onCore; exact mem_of hpt (by decide))
    | dsimp only

theorem only_elasticIn {pt : List Part} (hpt : [.cores, .fld .SPR_ELASTIC, .msgs] ⊆ pt) (p : Nat) (input : Nat) (rsp : Bool) (b : Beat) : Eff.Only
    pt (elasticIn p input rsp b) := by
  unfold elasticIn
  repeat first
    | with_reducible exact only_seq_nil _
    | with_reducible apply only_seq_cons
    | (with_reducible apply only_rd; intro)
    | with_reducible apply only_either
    | (with_reducible apply only_fsat; exact mem_of hpt (by decide))
    | (with_reducible apply only_send; exact mem_of hpt (by decide))
    | (with_reducible apply only_onCore; exact mem_of hpt (by decide))
    | split
    | dsimp only

theorem only_slip {pt : List Part} (hpt : [.cores, .dec, .ev, .faults, .flasks, .fld .CLK_CHG_STAT, .fld .MOD_FAULT_STAT, .fld .SPR_SLIP,
    .fld .SPR_SLIP_INFO, .msgs] ⊆ pt) (p : Nat) (f : Nat) (input : Nat) (cause : Nat) (slot : Nat) (flow : Nat) (origin : Nat) (seen : Nat) (cul :
    Nat × Nat) (tag : Nat × Nat) (seenEpoch : Nat) : Eff.Only pt (slip p f input cause slot flow origin seen cul tag seenEpoch) := by
  unfold slip
  repeat first
    | with_reducible exact only_seq_nil _
    | with_reducible apply only_seq_cons
    | (with_reducible apply only_rd; intro)
    | (with_reducible apply only_when; intro)
    | (with_reducible apply only_fset; exact mem_of hpt (by decide))
    | (with_reducible apply only_fsat; exact mem_of hpt (by decide))
    | (with_reducible apply only_send; exact mem_of hpt (by decide))
    | (with_reducible apply only_onCore; exact mem_of hpt (by decide))
    | (with_reducible apply only_culpritReport; exact List.Subset.trans (by decide) hpt)
    | (with_reducible apply only_decisionFails; exact List.Subset.trans (by decide) hpt)
    | (with_reducible apply only_faultHaltAtFrame; exact List.Subset.trans (by decide) hpt)
    | (with_reducible apply only_haltBeacon; exact List.Subset.trans (by decide) hpt)

theorem only_inputSlot {pt : List Part} (hpt : [.cores, .dec, .ev, .faults, .flasks, .fld .CLK_CHG_STAT, .fld .MOD_FAULT_STAT, .fld .SPR_ERR,
    .fld .SPR_SLIP, .fld .SPR_SLIP_INFO, .msgs, .ports, .spd, .spdPoison] ⊆ pt) (p : Nat) (f : Nat) (input : Nat) (sc : Nat) (es : List (SprSlot ×
    Nat)) (readable : Bool) (b : Beat) (lost : List Nat) : Eff.Only pt (inputSlot p f input sc es readable b lost) := by
  unfold inputSlot
  repeat first
    | with_reducible exact only_seq_nil _
    | with_reducible apply only_seq_cons
    | (with_reducible apply only_rd; intro)
    | (with_reducible apply only_when; intro)
    | (with_reducible apply only_dispatch; exact List.Subset.trans (by decide) hpt)
    | (with_reducible apply only_slip; exact List.Subset.trans (by decide) hpt)
    | split
    | dsimp only

theorem only_ackUp {pt : List Part} (hpt : [.dec, .msgs] ⊆ pt) : Eff.Only pt (ackUp ) := by
  unfold ackUp
  repeat first
    | with_reducible exact only_nop _
    | with_reducible exact only_seq_nil _
    | with_reducible apply only_seq_cons
    | (with_reducible apply only_rd; intro)
    | (with_reducible apply only_when; intro)
    | (with_reducible apply only_send; exact mem_of hpt (by decide))
    | with_reducible apply only_updates
    | with_reducible exact within_nil _
    | (with_reducible apply within_cons; · exact mem_of hpt (by dsimp only [Upd.part]; decide))
    | with_reducible apply within_append
    | (with_reducible apply within_map; intros; exact mem_of hpt (by dsimp only [Upd.part]; decide))
    | (with_reducible apply within_flatMap; intro _ _)
    | split
    | dsimp only

theorem only_alignCorrect {pt : List Part} (hpt : [.align, .fld .TC_NOW] ⊆ pt) (e : ℤ) : Eff.Only pt (alignCorrect e) := by
  unfold alignCorrect
  repeat first
    | (with_reducible apply only_rd; intro)
    | with_reducible apply only_either
    | (with_reducible apply only_fset; exact mem_of hpt (by decide))
    | with_reducible apply only_updates
    | with_reducible exact within_nil _
    | (with_reducible apply within_cons; · exact mem_of hpt (by dsimp only [Upd.part]; decide))
    | with_reducible apply within_append
    | (with_reducible apply within_map; intros; exact mem_of hpt (by dsimp only [Upd.part]; decide))
    | (with_reducible apply within_flatMap; intro _ _)
    | dsimp only

theorem only_alignTo' {pt : List Part} (hpt : [.align, .fld .TC_ALIGN_STAT] ⊆ pt) (st : Nat) : Eff.Only pt (alignTo' st) := by
  unfold alignTo'
  repeat first
    | with_reducible exact only_seq_nil _
    | with_reducible apply only_seq_cons
    | (with_reducible apply only_rd; intro)
    | (with_reducible apply only_fset; exact mem_of hpt (by decide))
    | with_reducible apply only_updates
    | with_reducible exact within_nil _
    | (with_reducible apply within_cons; · exact mem_of hpt (by dsimp only [Upd.part]; decide))
    | with_reducible apply within_append
    | (with_reducible apply within_map; intros; exact mem_of hpt (by dsimp only [Upd.part]; decide))
    | (with_reducible apply within_flatMap; intro _ _)

theorem only_alignDegraded {pt : List Part} (hpt : [.align, .ev, .fld .CLK_CHG_STAT, .fld .TC_ALIGN_STAT] ⊆ pt) (e : ℤ) : Eff.Only pt (alignDegraded
    e) := by
  unfold alignDegraded
  repeat first
    | with_reducible exact only_seq_nil _
    | with_reducible apply only_seq_cons
    | (with_reducible apply only_fset; exact mem_of hpt (by decide))
    | (with_reducible apply only_raise; exact mem_of hpt (by decide))
    | (with_reducible apply only_alignTo'; exact List.Subset.trans (by decide) hpt)

theorem only_alignLost {pt : List Part} (hpt : [.align, .ctl, .ev, .flasks, .fld .CLK_CHG_STAT, .fld .MOD_MB_SUMMARY, .fld .MOD_POUR_ID,
    .fld .RUN_STAT, .fld .TC_ALIGN_STAT, .hostOut, .hports, .msgs, .pour, .slots] ⊆ pt) : Eff.Only pt (alignLost ) := by
  unfold alignLost
  repeat first
    | with_reducible exact only_seq_nil _
    | with_reducible apply only_seq_cons
    | (with_reducible apply only_fset; exact mem_of hpt (by decide))
    | (with_reducible apply only_raise; exact mem_of hpt (by decide))
    | (with_reducible apply only_alignTo'; exact List.Subset.trans (by decide) hpt)
    | (with_reducible apply only_haltBeacon; exact List.Subset.trans (by decide) hpt)
    | (with_reducible apply only_haltPourFlasks; exact List.Subset.trans (by decide) hpt)
    | (with_reducible apply only_pourFail; exact List.Subset.trans (by decide) hpt)

theorem only_alignExchange {pt : List Part} (hpt : [.align, .ctl, .ev, .flasks, .fld .CLK_CHG_STAT, .fld .MOD_MB_SUMMARY, .fld .MOD_POUR_ID,
    .fld .RUN_STAT, .fld .TC_ALIGN_STAT, .hostOut, .hports, .msgs, .pour, .slots] ⊆ pt) (e : ℤ) : Eff.Only pt (alignExchange e) := by
  unfold alignExchange
  repeat first
    | with_reducible exact only_nop _
    | (with_reducible apply only_rd; intro)
    | with_reducible apply only_either
    | (with_reducible apply only_alignDegraded; exact List.Subset.trans (by decide) hpt)
    | (with_reducible apply only_alignLost; exact List.Subset.trans (by decide) hpt)
    | (with_reducible apply only_alignTo'; exact List.Subset.trans (by decide) hpt)
    | with_reducible apply only_updates
    | with_reducible exact within_nil _
    | (with_reducible apply within_cons; · exact mem_of hpt (by dsimp only [Upd.part]; decide))
    | with_reducible apply within_append
    | (with_reducible apply within_map; intros; exact mem_of hpt (by dsimp only [Upd.part]; decide))
    | (with_reducible apply within_flatMap; intro _ _)
    | split
    | dsimp only

theorem only_armClear {pt : List Part} (hpt : [.dec, .fld .CLK_ARM] ⊆ pt) : Eff.Only pt (armClear ) := by
  unfold armClear
  repeat first
    | with_reducible exact only_seq_nil _
    | with_reducible apply only_seq_cons
    | (with_reducible apply only_rd; intro)
    | (with_reducible apply only_fset; exact mem_of hpt (by decide))
    | with_reducible apply only_updates
    | with_reducible exact within_nil _
    | (with_reducible apply within_cons; · exact mem_of hpt (by dsimp only [Upd.part]; decide))
    | with_reducible apply within_append
    | (with_reducible apply within_map; intros; exact mem_of hpt (by dsimp only [Upd.part]; decide))
    | (with_reducible apply within_flatMap; intro _ _)

theorem only_armRail {pt : List Part} (hpt : [.dec, .fld .PWR_CLUSTER_c] ⊆ pt) (d : Decision) : Eff.Only pt (armRail d) := by
  unfold armRail
  repeat first
    | with_reducible exact only_seq_nil _
    | with_reducible apply only_seq_cons
    | (with_reducible apply only_rd; intro)
    | (with_reducible apply only_when; intro)
    | (with_reducible apply only_railTo; exact List.Subset.trans (by decide) hpt)
    | with_reducible apply only_updates
    | with_reducible exact within_nil _
    | (with_reducible apply within_cons; · exact mem_of hpt (by dsimp only [Upd.part]; decide))
    | with_reducible apply within_append
    | (with_reducible apply within_map; intros; exact mem_of hpt (by dsimp only [Upd.part]; decide))
    | (with_reducible apply within_flatMap; intro _ _)

theorem only_armTake {pt : List Part} (hpt : [.dec, .fld .CLK_ARM, .fld .CLK_ARM_TARGET, .fld .PWR_CLUSTER_c, .msgs] ⊆ pt) (d : Decision) (offGrid :
    Bool) (regionFault : Bool) : Eff.Only pt (armTake d offGrid regionFault) := by
  unfold armTake
  repeat first
    | with_reducible exact only_seq_nil _
    | with_reducible apply only_seq_cons
    | (with_reducible apply only_rd; intro)
    | (with_reducible apply only_when; intro)
    | (with_reducible apply only_fset; exact mem_of hpt (by decide))
    | (with_reducible apply only_fput; exact mem_of hpt (by decide))
    | (with_reducible apply only_ackUp; exact List.Subset.trans (by decide) hpt)
    | (with_reducible apply only_armRail; exact List.Subset.trans (by decide) hpt)
    | with_reducible apply only_updates
    | with_reducible exact within_nil _
    | (with_reducible apply within_cons; · exact mem_of hpt (by dsimp only [Upd.part]; decide))
    | with_reducible apply within_append
    | (with_reducible apply within_map; intros; exact mem_of hpt (by dsimp only [Upd.part]; decide))
    | (with_reducible apply within_flatMap; intro _ _)
    | dsimp only

theorem only_decisionConflict {pt : List Part} (hpt : [.dec, .ev, .flasks, .fld .CLK_CHG_STAT, .msgs] ⊆ pt) : Eff.Only pt (decisionConflict ) := by
  unfold decisionConflict
  repeat first
    | with_reducible exact only_seq_nil _
    | with_reducible apply only_seq_cons
    | (with_reducible apply only_rd; intro)
    | (with_reducible apply only_when; intro)
    | (with_reducible apply only_fset; exact mem_of hpt (by decide))
    | (with_reducible apply only_raise; exact mem_of hpt (by decide))
    | (with_reducible apply only_haltBeacon; exact List.Subset.trans (by decide) hpt)
    | (with_reducible apply only_haltPourFlasks; exact List.Subset.trans (by decide) hpt)
    | with_reducible apply only_updates
    | with_reducible exact within_nil _
    | (with_reducible apply within_cons; · exact mem_of hpt (by dsimp only [Upd.part]; decide))
    | with_reducible apply within_append
    | (with_reducible apply within_map; intros; exact mem_of hpt (by dsimp only [Upd.part]; decide))
    | (with_reducible apply within_flatMap; intro _ _)

theorem only_armCopy {pt : List Part} (hpt : [.dec, .ev, .flasks, .fld .CLK_ARM, .fld .CLK_ARM_TARGET, .fld .CLK_CHG_STAT, .fld .PWR_CLUSTER_c,
    .msgs] ⊆ pt) (d : Decision) (offGrid : Bool) (regionFault : Bool) : Eff.Only pt (armCopy d offGrid regionFault) := by
  unfold armCopy
  repeat first
    | with_reducible exact only_seq_nil _
    | with_reducible apply only_seq_cons
    | (with_reducible apply only_rd; intro)
    | (with_reducible apply only_when; intro)
    | with_reducible apply only_either
    | (with_reducible apply only_fset; exact mem_of hpt (by decide))
    | (with_reducible apply only_send; exact mem_of hpt (by decide))
    | (with_reducible apply only_armTake; exact List.Subset.trans (by decide) hpt)
    | (with_reducible apply only_decisionConflict; exact List.Subset.trans (by decide) hpt)
    | split
    | dsimp only

theorem only_ctlDeadline {pt : List Part} (hpt : [.ctl, .dbg, .ev, .flasks, .fld .DBG_HOLD, .fld .MOD_MB_SUMMARY, .hostOut, .hports, .msgs, .resp,
    .slots] ⊆ pt) : Eff.Only pt (ctlDeadline ) := by
  unfold ctlDeadline
  repeat first
    | with_reducible exact only_nop _
    | with_reducible exact only_seq_nil _
    | with_reducible apply only_seq_cons
    | (with_reducible apply only_rd; intro)
    | (with_reducible apply only_when; intro)
    | with_reducible apply only_either
    | (with_reducible apply only_raise; exact mem_of hpt (by decide))
    | (with_reducible apply only_send; exact mem_of hpt (by decide))
    | (with_reducible apply only_ctlGo; exact List.Subset.trans (by decide) hpt)
    | (with_reducible apply only_mbFail; exact List.Subset.trans (by decide) hpt)
    | (with_reducible apply only_slosyAnswer; exact List.Subset.trans (by decide) hpt)
    | with_reducible apply only_updates
    | with_reducible exact within_nil _
    | (with_reducible apply within_cons; · exact mem_of hpt (by dsimp only [Upd.part]; decide))
    | with_reducible apply within_append
    | (with_reducible apply within_map; intros; exact mem_of hpt (by dsimp only [Upd.part]; decide))
    | (with_reducible apply within_flatMap; intro _ _)
    | split
    | dsimp only

theorem only_dropRail {pt : List Part} (hpt : [.dec, .fld .PWR_CLUSTER_c] ⊆ pt) : Eff.Only pt (dropRail ) := by
  unfold dropRail
  repeat first
    | with_reducible exact only_seq_nil _
    | with_reducible apply only_seq_cons
    | (with_reducible apply only_rd; intro)
    | (with_reducible apply only_when; intro)
    | (with_reducible apply only_railTo; exact List.Subset.trans (by decide) hpt)
    | with_reducible apply only_updates
    | with_reducible exact within_nil _
    | (with_reducible apply within_cons; · exact mem_of hpt (by dsimp only [Upd.part]; decide))
    | with_reducible apply within_append
    | (with_reducible apply within_map; intros; exact mem_of hpt (by dsimp only [Upd.part]; decide))
    | (with_reducible apply within_flatMap; intro _ _)

theorem only_decisionMissing {pt : List Part} (hpt : [.dec, .ev, .flasks, .fld .CLK_ARM, .fld .CLK_CHG_STAT, .fld .PWR_CLUSTER_c, .msgs] ⊆ pt) (t :
    Nat) : Eff.Only pt (decisionMissing t) := by
  unfold decisionMissing
  repeat first
    | with_reducible exact only_seq_nil _
    | with_reducible apply only_seq_cons
    | (with_reducible apply only_rd; intro)
    | (with_reducible apply only_fset; exact mem_of hpt (by decide))
    | (with_reducible apply only_raise; exact mem_of hpt (by decide))
    | (with_reducible apply only_armClear; exact List.Subset.trans (by decide) hpt)
    | (with_reducible apply only_dropRail; exact List.Subset.trans (by decide) hpt)
    | (with_reducible apply only_haltBeacon; exact List.Subset.trans (by decide) hpt)
    | (with_reducible apply only_haltPourFlasks; exact List.Subset.trans (by decide) hpt)

theorem only_remark {pt : List Part} (hpt : [.flasks] ⊆ pt) : Eff.Only pt (remark ) := by
  unfold remark
  repeat first
    | (with_reducible apply only_rd; intro)
    | (with_reducible apply only_each; intro _ _)
    | (with_reducible apply only_onFlask; exact mem_of hpt (by decide))
    | with_reducible intro _
    | split
    | dsimp only

theorem only_requestFails {pt : List Part} (hpt : [.dec, .fld .MOD_MB_SUMMARY, .hostOut, .hports, .slots] ⊆ pt) : Eff.Only pt (requestFails ) := by
  unfold requestFails
  repeat first
    | with_reducible exact only_nop _
    | with_reducible exact only_seq_nil _
    | with_reducible apply only_seq_cons
    | (with_reducible apply only_rd; intro)
    | (with_reducible apply only_when; intro)
    | (with_reducible apply only_mbFail; exact List.Subset.trans (by decide) hpt)
    | with_reducible apply only_updates
    | with_reducible exact within_nil _
    | (with_reducible apply within_cons; · exact mem_of hpt (by dsimp only [Upd.part]; decide))
    | with_reducible apply within_append
    | (with_reducible apply within_map; intros; exact mem_of hpt (by dsimp only [Upd.part]; decide))
    | (with_reducible apply within_flatMap; intro _ _)
    | split
    | dsimp only

theorem only_shortStop {pt : List Part} (hpt : [.cores, .dbg, .ev, .faults, .flasks, .fld .CLK_PSTEP, .fld .CLK_STOP_STAT, .fld .CLU_CORES,
    .fld .CORE_MOULD, .fld .CORE_SC, .fld .CORE_SEQ, .fld .CORE_STAT, .fld .DBG_HOLD, .fld .LDL_CTX_n, .fld .ME_STAT, .fld .MOD_BOOT_ERR,
    .fld .MOD_FAULT_STAT, .fld .MOD_GRID_STAT, .fld .MOD_MB_SUMMARY, .fld .MOD_ROW_MAP_r, .fld .PWR_CLUSTER_c, .fld .PWR_RISER_LEAD,
    .fld .QUEUE_BASE, .fld .QUEUE_CTL, .fld .QUEUE_DB, .fld .QUEUE_LEVEL, .fld .QUEUE_STAT, .fld .QUEUE_WM, .fld .SE_STAT, .fld .SPD_ELASTIC,
    .fld .SPD_STAT, .fld .SPR_STAT, .fld .VU_STAT, .hostOut, .hports, .ldls, .mes, .msgs, .queues, .ses, .slag, .slots, .vus] ⊆ pt) (p : Nat)
    (relockFail : List Nat) : Eff.Only pt (shortStop p relockFail) := by
  unfold shortStop
  repeat first
    | with_reducible exact only_seq_nil _
    | with_reducible apply only_seq_cons
    | (with_reducible apply only_each; intro _ _)
    | (with_reducible apply only_fbit; exact mem_of hpt (by decide))
    | (with_reducible apply only_fenceCore; exact List.Subset.trans (by decide) hpt)
    | (with_reducible apply only_pstepSet; exact List.Subset.trans (by decide) hpt)
    | with_reducible intro _

theorem only_tick {pt : List Part} (hpt : [.align, .fld .TC_NOW] ⊆ pt) : Eff.Only pt (tick ) := by
  unfold tick
  repeat first
    | with_reducible exact only_seq_nil _
    | with_reducible apply only_seq_cons
    | (with_reducible apply only_rd; intro)
    | (with_reducible apply only_when; intro)
    | (with_reducible apply only_fset; exact mem_of hpt (by decide))
    | with_reducible apply only_updates
    | with_reducible exact within_nil _
    | (with_reducible apply within_cons; · exact mem_of hpt (by dsimp only [Upd.part]; decide))
    | with_reducible apply within_append
    | (with_reducible apply within_map; intros; exact mem_of hpt (by dsimp only [Upd.part]; decide))
    | (with_reducible apply within_flatMap; intro _ _)
    | split
    | dsimp only

theorem only_upstreamLost {pt : List Part} (hpt : [.align, .ctl, .ev, .flasks, .fld .CLK_CHG_STAT, .fld .MOD_MB_SUMMARY, .fld .MOD_POUR_ID,
    .fld .RUN_STAT, .fld .TC_ALIGN_STAT, .hostOut, .hports, .msgs, .pour, .slots] ⊆ pt) (p : Nat) (altAccepted : Bool) : Eff.Only pt (upstreamLost p
    altAccepted) := by
  unfold upstreamLost
  repeat first
    | with_reducible exact only_nop _
    | with_reducible exact only_seq_nil _
    | with_reducible apply only_seq_cons
    | (with_reducible apply only_rd; intro)
    | (with_reducible apply only_when; intro)
    | with_reducible apply only_either
    | (with_reducible apply only_fset; exact mem_of hpt (by decide))
    | (with_reducible apply only_alignLost; exact List.Subset.trans (by decide) hpt)
    | (with_reducible apply only_alignTo'; exact List.Subset.trans (by decide) hpt)
    | with_reducible apply only_updates
    | with_reducible exact within_nil _
    | (with_reducible apply within_cons; · exact mem_of hpt (by dsimp only [Upd.part]; decide))
    | with_reducible apply within_append
    | (with_reducible apply within_map; intros; exact mem_of hpt (by dsimp only [Upd.part]; decide))
    | (with_reducible apply within_flatMap; intro _ _)
    | split
    | dsimp only

theorem only_withdrawn {pt : List Part} (hpt : [.dec, .fld .CLK_ARM, .fld .CLK_CHG_STAT, .fld .PWR_CLUSTER_c] ⊆ pt) : Eff.Only pt (withdrawn ) := by
  unfold withdrawn
  repeat first
    | with_reducible exact only_seq_nil _
    | with_reducible apply only_seq_cons
    | (with_reducible apply only_rd; intro)
    | (with_reducible apply only_when; intro)
    | (with_reducible apply only_fset; exact mem_of hpt (by decide))
    | (with_reducible apply only_fadd; exact mem_of hpt (by decide))
    | (with_reducible apply only_dropRail; exact List.Subset.trans (by decide) hpt)

theorem only_drawLanes {pt : List Part} (hpt : [.freeCtr] ⊆ pt) (k : (Nat → Nat) → Eff) (hk : ∀ x0, Eff.Only pt (k x0)) : Eff.Only pt (drawLanes k)
    := by
  unfold drawLanes
  repeat first
    | with_reducible exact hk ..
    | with_reducible exact only_seq_nil _
    | with_reducible apply only_seq_cons
    | (with_reducible apply only_rd; intro)
    | with_reducible apply only_updates
    | with_reducible exact within_nil _
    | (with_reducible apply within_cons; · exact mem_of hpt (by dsimp only [Upd.part]; decide))
    | with_reducible apply within_append
    | (with_reducible apply within_map; intros; exact mem_of hpt (by dsimp only [Upd.part]; decide))
    | (with_reducible apply within_flatMap; intro _ _)

theorem only_samplePost {pt : List Part} (hpt : [.cores, .ev, .fld .CORE_QSTAT, .fld .QUEUE_LEVEL, .fld .QUEUE_STAT, .fld .QUEUE_WM, .queues, .spd,
    .spdPoison] ⊆ pt) (p : Nat) (q : Nat) (rec_ : List Byte) : Eff.Only pt (samplePost p q rec_) := by
  unfold samplePost
  repeat first
    | (with_reducible apply only_rd; intro)
    | with_reducible apply only_either
    | (with_reducible apply only_postRecord; exact List.Subset.trans (by decide) hpt)
    | (with_reducible apply only_queueOverrun; exact List.Subset.trans (by decide) hpt)
    | (with_reducible apply only_ringPush; exact List.Subset.trans (by decide) hpt)
    | split
    | dsimp only

theorem only_vuParity {pt : List Part} (hpt : [.ev, .fld .VU_ERR] ⊆ pt) (p : Nat) (v : Nat) (n : Nat) : Eff.Only pt (vuParity p v n) := by
  unfold vuParity
  repeat first
    | with_reducible exact only_seq_nil _
    | with_reducible apply only_seq_cons
    | (with_reducible apply only_rd; intro)
    | (with_reducible apply only_when; intro)
    | (with_reducible apply only_fset; exact mem_of hpt (by decide))
    | (with_reducible apply only_fsat; exact mem_of hpt (by decide))
    | (with_reducible apply only_raise; exact mem_of hpt (by decide))

theorem only_vop {pt : List Part} (hpt : [.cores, .dbg, .ev, .faults, .flasks, .fld .CORE_MOULD, .fld .CORE_SC, .fld .CORE_SEQ, .fld .CORE_SEQ_ERR,
    .fld .CORE_STAT, .fld .DBG_HOLD, .fld .LDL_CTX_n, .fld .ME_STAT, .fld .MOD_FAULT_STAT, .fld .MOD_GRID_STAT, .fld .MOD_MB_SUMMARY,
    .fld .QUEUE_BASE, .fld .QUEUE_CTL, .fld .QUEUE_DB, .fld .QUEUE_LEVEL, .fld .QUEUE_STAT, .fld .QUEUE_WM, .fld .SE_STAT, .fld .SPR_STAT,
    .fld .VU_ERR, .fld .VU_STAT, .hostOut, .hports, .ldls, .mes, .msgs, .queues, .ses, .slots, .vus] ⊆ pt) (core : CoreId) (cls : Nat) (a : VopArgs)
    (body : Eff) (hbody : Eff.Only pt body) : Eff.Only pt (vop core cls a body) := by
  unfold vop
  repeat first
    | with_reducible exact hbody
    | with_reducible exact only_seq_nil _
    | with_reducible apply only_seq_cons
    | (with_reducible apply only_rd; intro)
    | (with_reducible apply only_fset; exact mem_of hpt (by decide))
    | (with_reducible apply only_onVu; exact mem_of hpt (by decide))
    | (with_reducible apply only_containCore; exact List.Subset.trans (by decide) hpt)
    | (with_reducible apply only_issueOverflow; exact List.Subset.trans (by decide) hpt)
    | (with_reducible apply only_seqStep; · exact List.Subset.trans (by decide) hpt)
    | (with_reducible apply only_vuParity; exact List.Subset.trans (by decide) hpt)
    | split
    | dsimp only

theorem only_vopEnd {pt : List Part} (hpt : [.cores, .fld .VU_FLAGS] ⊆ pt) (p : Nat) (v : Nat) (tag : Nat) (fl : Flags) : Eff.Only pt (vopEnd p v
    tag fl) := by
  unfold vopEnd
  repeat first
    | with_reducible exact only_seq_nil _
    | with_reducible apply only_seq_cons
    | (with_reducible apply only_rd; intro)
    | (apply only_orFlags; first | (intro f hf; fin_cases hf <;> exact mem_of hpt (by decide)) | exact Eng.flag_mem fun f hf => mem_of hpt (by
        revert f; decide))
    | (with_reducible apply only_writeMeta; exact List.Subset.trans (by decide) hpt)

theorem only_vopLanes {pt : List Part} (hpt : [.cores, .fld .VU_FLAGS, .vus] ⊆ pt) (core : CoreId) (a : VopArgs) (srcs : List Nat) (f : List (List
    Nat) → List (Nat × Flags)) : Eff.Only pt (vopLanes core a srcs f) := by
  unfold vopLanes
  repeat first
    | with_reducible exact only_seq_nil _
    | with_reducible apply only_seq_cons
    | (with_reducible apply only_rd; intro)
    | (with_reducible apply only_onVu; exact mem_of hpt (by decide))
    | (with_reducible apply only_vopEnd; exact List.Subset.trans (by decide) hpt)
    | dsimp only

end Sys2Proof.Machine
end

