-- ==== Sys2Proof/Laws/Commands.lean ====
section
/-! SUPPORT. What each command can write, one law per command: every part of the state but those listed is as before. -/
set_option linter.all false
set_option Elab.async false
namespace Sys2Proof.Machine

theorem frame_execPowerOn (env : BootEnv) (straps : Straps) (resetLow : Bool) (s : State) {t : State} (h : execPowerOn env straps resetLow s = .next
    t) :
    SameBut [.align, .boot, .caches, .cores, .ctl, .dbg, .dec, .dram, .dramPoison, .dramWritten, .ev, .faults, .flasks, .fld .CLK_PSTEP,
        .fld .CLU_CORES, .fld .CORE_STAT, .fld .DBG_STAT, .fld .ME_CAP, .fld .MOD_APERTURE_CTL, .fld .MOD_BOOT_ERR, .fld .MOD_BOOT_STAT,
        .fld .MOD_FLASH_INFO, .fld .MOD_GRID_STAT, .fld .MOD_MB_SUMMARY, .fld .MOD_PORT_BOOT, .fld .MOD_POUR_ID, .fld .MOD_ROW_MAP_r,
        .fld .PST_CORE_PWR_r, .fld .PST_PAD_HOLD, .fld .PST_RAMP, .fld .PST_STAT, .fld .PST_STAT_TICK_TC0, .fld .PST_WAKE_STAT, .fld .PWR_CLUSTER_c,
        .fld .PWR_RISER_LEAD, .fld .PWR_TILE_t, .fld .RUN_LANE_l, .fld .RUN_STAT, .fld .SAF_SECONDS, .fld .SAF_STAT, .fld .SAF_TAMPER,
        .fld .SPD_STAT, .fld .TC_ALIGN_STAT, .fld .TC_NOW, .flds, .gclk, .hostOut, .hports, .ldls, .mes, .msgs, .msix, .pep, .ports, .pour, .power,
        .pst, .queues, .refreshOnly, .refreshed, .rings, .saf, .seam, .ses, .slag, .slots, .spd, .spdPoison, .svc, .vus] s t := by
  unfold execPowerOn at h
  cases h
  refine Eff.Only.same ?_ _
  repeat first
    | with_reducible exact only_seq_nil _
    | with_reducible apply only_seq_cons
    | (with_reducible apply only_rd; intro)
    | (with_reducible apply only_when; intro)
    | with_reducible apply only_either
    | (with_reducible apply only_fset; decide)
    | (with_reducible apply only_fadd; decide)
    | (with_reducible apply only_raise; decide)
    | (with_reducible apply only_tcTo; decide)
    | (with_reducible apply only_bootFull; decide)
    | (with_reducible apply only_cellReset; decide)
    | (with_reducible apply only_clearAll; decide)
    | (with_reducible apply only_lifecycleBack; decide)
    | (with_reducible apply only_strapsIn; decide)
    | with_reducible apply only_updates
    | with_reducible exact within_nil _
    | (with_reducible apply within_cons; · exact (by dsimp only [Upd.part]; decide))
    | with_reducible apply within_append
    | (with_reducible apply within_map; intros; exact (by dsimp only [Upd.part]; decide))
    | (with_reducible apply within_flatMap; intro _ _)
    | split
    | dsimp only

theorem frame_execModuleReset (lowNs : Nat) (tc : Nat) (s : State) {t : State} (h : execModuleReset lowNs tc s = .next t) :
    SameBut [.align, .boot, .caches, .cores, .ctl, .dbg, .dec, .dram, .dramPoison, .dramWritten, .ev, .faults, .flasks, .fld .MOD_RESET_STAT,
        .fld .SAF_STAT, .fld .TC_NOW, .flds, .gclk, .hports, .ldls, .mes, .msix, .pep, .ports, .pour, .power, .pst, .queues, .refreshOnly,
        .refreshed, .rings, .saf, .seam, .ses, .slag, .slots, .spd, .spdPoison, .svc, .vus] s t := by
  unfold execModuleReset at h
  cases h
  refine Eff.Only.same ?_ _
  repeat first
    | with_reducible exact only_seq_nil _
    | with_reducible apply only_seq_cons
    | (with_reducible apply only_rd; intro)
    | (with_reducible apply only_when; intro)
    | (with_reducible apply only_fset; decide)
    | (with_reducible apply only_tcTo; decide)
    | (with_reducible apply only_clearAll; decide)
    | (with_reducible apply only_lifecycleBack; decide)
    | with_reducible apply only_updates
    | with_reducible exact within_nil _
    | (with_reducible apply within_cons; · exact (by dsimp only [Upd.part]; decide))
    | with_reducible apply within_append
    | (with_reducible apply within_map; intros; exact (by dsimp only [Upd.part]; decide))
    | (with_reducible apply within_flatMap; intro _ _)

theorem frame_execResetNRelease (env : BootEnv) (straps : Straps) (tc : Nat) (s : State) {t : State} (h : execResetNRelease env straps tc s = .next
    t) :
    SameBut [.align, .boot, .cores, .ctl, .dbg, .ev, .fld .CLK_PSTEP, .fld .CLU_CORES, .fld .CORE_STAT, .fld .DBG_STAT, .fld .ME_CAP,
        .fld .MOD_APERTURE_CTL, .fld .MOD_BOOT_ERR, .fld .MOD_BOOT_STAT, .fld .MOD_FLASH_INFO, .fld .MOD_GRID_STAT, .fld .MOD_MB_SUMMARY,
        .fld .MOD_PORT_BOOT, .fld .MOD_POUR_ID, .fld .MOD_ROW_MAP_r, .fld .PST_CORE_PWR_r, .fld .PST_PAD_HOLD, .fld .PST_RAMP, .fld .PST_STAT,
        .fld .PWR_CLUSTER_c, .fld .PWR_RISER_LEAD, .fld .PWR_TILE_t, .fld .RUN_LANE_l, .fld .RUN_STAT, .fld .SAF_STAT, .fld .SPD_STAT,
        .fld .TC_ALIGN_STAT, .fld .TC_NOW, .hostOut, .hports, .msgs, .ports, .pour, .pst, .saf, .seam, .slag, .slots, .svc] s t := by
  unfold execResetNRelease at h
  cases h
  refine Eff.Only.same ?_ _
  repeat first
    | with_reducible exact only_seq_nil _
    | with_reducible apply only_seq_cons
    | (with_reducible apply only_rd; intro)
    | (with_reducible apply only_when; intro)
    | (with_reducible apply only_tcTo; decide)
    | (with_reducible apply only_bootFull; decide)
    | (with_reducible apply only_strapsIn; decide)
    | with_reducible apply only_updates
    | with_reducible exact within_nil _
    | (with_reducible apply within_cons; · exact (by dsimp only [Upd.part]; decide))
    | with_reducible apply within_append
    | (with_reducible apply within_map; intros; exact (by dsimp only [Upd.part]; decide))
    | (with_reducible apply within_flatMap; intro _ _)

theorem frame_execMbComputeReset (slot : Fin 17) (env : BootEnv) (tc : Nat) (s : State) {t : State} (h : execMbComputeReset slot env tc s = .next t) :
    SameBut [.caches, .cores, .dbg, .dram, .dramPoison, .dramWritten, .ev, .faults, .flasks, .fld .CLK_PSTEP, .fld .CLU_CORES, .fld .CORE_MOULD,
        .fld .CORE_SC, .fld .CORE_SEQ, .fld .CORE_STAT, .fld .DBG_HOLD, .fld .LDL_CTXW_n, .fld .LDL_CTX_n, .fld .LDL_ERR, .fld .LDL_STAT,
        .fld .ME_CAP, .fld .ME_STAT, .fld .MOD_BOOT_ERR, .fld .MOD_FAULT_STAT, .fld .MOD_GRID_STAT, .fld .MOD_MB_SUMMARY, .fld .MOD_RESET_STAT,
        .fld .MOD_ROW_MAP_r, .fld .PST_CORE_PWR_r, .fld .PST_RAMP, .fld .PWR_CLUSTER_c, .fld .PWR_RISER_LEAD, .fld .PWR_TILE_t, .fld .QUEUE_BASE,
        .fld .QUEUE_CTL, .fld .QUEUE_DB, .fld .QUEUE_LEVEL, .fld .QUEUE_STAT, .fld .QUEUE_WM, .fld .RUN_ERR, .fld .RUN_LANE_l, .fld .RUN_STAT,
        .fld .SAF_STAT, .fld .SE_STAT, .fld .SPD_ELASTIC, .fld .SPD_STAT, .fld .SPR_STAT, .fld .TC_NOW, .fld .VU_STAT, .freeCtr, .hostOut, .hports,
        .ldls, .mes, .msgs, .ports, .pour, .power, .pst, .queues, .saf, .seam, .ses, .slag, .slots, .spd, .spdPoison, .svc, .vus] s t := by
  unfold execMbComputeReset at h
  cases h
  refine Eff.Only.same ?_ _
  repeat first
    | with_reducible exact only_seq_nil _
    | with_reducible apply only_seq_cons
    | (with_reducible apply only_rd; intro)
    | (with_reducible apply only_each; intro _ _)
    | with_reducible apply only_mbCommand
    | (with_reducible apply only_tcTo; decide)
    | (with_reducible apply only_computeReset; decide)
    | (with_reducible apply only_mbDone; decide)
    | (with_reducible apply only_mbFail; decide)
    | with_reducible intro _
    | dsimp only

theorem frame_execWatchdogExpiry (env : BootEnv) (tc : Nat) (s : State) {t : State} (h : execWatchdogExpiry env tc s = .next t) :
    SameBut [.align, .boot, .caches, .cores, .ctl, .dbg, .dram, .dramPoison, .dramWritten, .ev, .faults, .flasks, .fld .CLK_PSTEP, .fld .CLU_CORES,
        .fld .CORE_MOULD, .fld .CORE_SC, .fld .CORE_SEQ, .fld .CORE_STAT, .fld .DBG_HOLD, .fld .DBG_STAT, .fld .LDL_CTXW_n, .fld .LDL_CTX_n,
        .fld .LDL_ERR, .fld .LDL_STAT, .fld .ME_CAP, .fld .ME_STAT, .fld .MOD_APERTURE_CTL, .fld .MOD_BOOT_ERR, .fld .MOD_BOOT_STAT,
        .fld .MOD_EVR_HEAD_n, .fld .MOD_EVR_TAIL_n, .fld .MOD_FAULT_STAT, .fld .MOD_FLASH_INFO, .fld .MOD_GRID_STAT, .fld .MOD_MB_SUMMARY,
        .fld .MOD_POUR_ID, .fld .MOD_RESET_STAT, .fld .MOD_ROW_MAP_r, .fld .PST_CORE_PWR_r, .fld .PST_RAMP, .fld .PWR_CLUSTER_c,
        .fld .PWR_RISER_LEAD, .fld .PWR_TILE_t, .fld .QUEUE_BASE, .fld .QUEUE_CTL, .fld .QUEUE_DB, .fld .QUEUE_LEVEL, .fld .QUEUE_STAT,
        .fld .QUEUE_WM, .fld .RUN_ERR, .fld .RUN_LANE_l, .fld .RUN_STAT, .fld .SAF_SLOT_FLASK, .fld .SAF_SLOT_ROLE, .fld .SAF_STAT, .fld .SE_STAT,
        .fld .SPD_ELASTIC, .fld .SPD_STAT, .fld .SPR_STAT, .fld .TC_ALIGN_STAT, .fld .TC_NOW, .fld .VU_STAT, .freeCtr, .hostOut, .hports, .ldls,
        .mes, .msgs, .ports, .pour, .power, .pst, .queues, .rings, .saf, .seam, .ses, .slag, .slots, .spd, .spdPoison, .svc, .vus] s t := by
  unfold execWatchdogExpiry at h
  cases h
  refine Eff.Only.same ?_ _
  repeat first
    | with_reducible exact only_seq_nil _
    | with_reducible apply only_seq_cons
    | (with_reducible apply only_rd; intro)
    | (with_reducible apply only_when; intro)
    | (with_reducible apply only_tcTo; decide)
    | (with_reducible apply only_managementReset; decide)
    | dsimp only

theorem frame_execMbFwStage (slot : Fin 17) (signatureOk : Bool) (readBackOk : Bool) (s : State) {t : State} (h : execMbFwStage slot signatureOk
    readBackOk s = .next t) :
    SameBut [.boot, .ev, .fld .MOD_BOOT_ERR, .fld .MOD_FLASH_INFO, .fld .MOD_MB_SUMMARY, .hostOut, .hports, .slots] s t := by
  unfold execMbFwStage at h
  cases h
  refine Eff.Only.same ?_ _
  repeat first
    | with_reducible exact only_seq_nil _
    | with_reducible apply only_seq_cons
    | (with_reducible apply only_rd; intro)
    | with_reducible apply only_mbCommand
    | (with_reducible apply only_fset; decide)
    | (with_reducible apply only_fwReject; decide)
    | (with_reducible apply only_fwStore; decide)
    | (with_reducible apply only_mbDone; decide)
    | (with_reducible apply only_mbFail; decide)
    | with_reducible intro _
    | split
    | dsimp only

theorem frame_execMbFwActivate (slot : Fin 17) (env : BootEnv) (tc : Nat) (s : State) {t : State} (h : execMbFwActivate slot env tc s = .next t) :
    SameBut [.align, .boot, .caches, .cores, .ctl, .dbg, .dram, .dramPoison, .dramWritten, .ev, .faults, .flasks, .fld .CLK_PSTEP, .fld .CLU_CORES,
        .fld .CORE_MOULD, .fld .CORE_SC, .fld .CORE_SEQ, .fld .CORE_STAT, .fld .DBG_HOLD, .fld .DBG_STAT, .fld .LDL_CTXW_n, .fld .LDL_CTX_n,
        .fld .LDL_ERR, .fld .LDL_STAT, .fld .ME_CAP, .fld .ME_STAT, .fld .MOD_APERTURE_CTL, .fld .MOD_BOOT_ERR, .fld .MOD_BOOT_STAT,
        .fld .MOD_EVR_HEAD_n, .fld .MOD_EVR_TAIL_n, .fld .MOD_FAULT_STAT, .fld .MOD_FLASH_INFO, .fld .MOD_GRID_STAT, .fld .MOD_MB_SUMMARY,
        .fld .MOD_POUR_ID, .fld .MOD_RESET_STAT, .fld .MOD_ROW_MAP_r, .fld .PST_CORE_PWR_r, .fld .PST_RAMP, .fld .PWR_CLUSTER_c,
        .fld .PWR_RISER_LEAD, .fld .PWR_TILE_t, .fld .QUEUE_BASE, .fld .QUEUE_CTL, .fld .QUEUE_DB, .fld .QUEUE_LEVEL, .fld .QUEUE_STAT,
        .fld .QUEUE_WM, .fld .RUN_ERR, .fld .RUN_LANE_l, .fld .RUN_STAT, .fld .SAF_SLOT_FLASK, .fld .SAF_SLOT_ROLE, .fld .SAF_STAT, .fld .SE_STAT,
        .fld .SPD_ELASTIC, .fld .SPD_STAT, .fld .SPR_STAT, .fld .TC_ALIGN_STAT, .fld .TC_NOW, .fld .VU_STAT, .freeCtr, .hostOut, .hports, .ldls,
        .mes, .msgs, .ports, .pour, .power, .pst, .queues, .rings, .saf, .seam, .ses, .slag, .slots, .spd, .spdPoison, .svc, .vus] s t := by
  unfold execMbFwActivate at h
  cases h
  refine Eff.Only.same ?_ _
  repeat first
    | with_reducible exact only_seq_nil _
    | with_reducible apply only_seq_cons
    | (with_reducible apply only_rd; intro)
    | (with_reducible apply only_when; intro)
    | with_reducible apply only_either
    | with_reducible apply only_mbCommand
    | (with_reducible apply only_tcTo; decide)
    | (with_reducible apply only_fwActivate; decide)
    | (with_reducible apply only_managementReset; decide)
    | (with_reducible apply only_mbDone; decide)
    | (with_reducible apply only_mbFail; decide)
    | with_reducible intro _

theorem frame_execCoreDomainOnRequest (core : CoreId) (s : State) {t : State} (h : execCoreDomainOnRequest core s = .next t) :
    SameBut [.fld .PST_CORE_PWR_r, .fld .PST_RAMP, .pst] s t := by
  unfold execCoreDomainOnRequest at h
  cases h
  refine Eff.Only.same ?_ _
  repeat first
    | (with_reducible apply only_domainOn; decide)

theorem frame_execCoreDomainOffRequest (core : CoreId) (s : State) {t : State} (h : execCoreDomainOffRequest core s = .next t) :
    SameBut [.fld .PST_CORE_PWR_r, .fld .PST_RAMP, .pst] s t := by
  unfold execCoreDomainOffRequest at h
  cases h
  refine Eff.Only.same ?_ _
  repeat first
    | (with_reducible apply only_domainOff; decide)

theorem frame_execCoreDomainGrant (s : State) {t : State} (h : execCoreDomainGrant s = .next t) :
    SameBut [.fld .PST_CORE_PWR_r, .fld .PST_RAMP, .pst] s t := by
  unfold execCoreDomainGrant at h
  cases h
  refine Eff.Only.same ?_ _
  repeat first
    | with_reducible exact only_nop _
    | with_reducible exact only_seq_nil _
    | with_reducible apply only_seq_cons
    | (with_reducible apply only_rd; intro)
    | (with_reducible apply only_domainSet; decide)
    | with_reducible apply only_updates
    | with_reducible exact within_nil _
    | (with_reducible apply within_cons; · exact (by dsimp only [Upd.part]; decide))
    | with_reducible apply within_append
    | (with_reducible apply within_map; intros; exact (by dsimp only [Upd.part]; decide))
    | (with_reducible apply within_flatMap; intro _ _)
    | split
    | dsimp only

theorem frame_execCoreDomainRampDone (core : CoreId) (tc : Nat) (s : State) {t : State} (h : execCoreDomainRampDone core tc s = .next t) :
    SameBut [.fld .PST_CORE_PWR_r, .fld .PST_RAMP, .fld .TC_NOW, .power, .pst] s t := by
  unfold execCoreDomainRampDone at h
  cases h
  refine Eff.Only.same ?_ _
  repeat first
    | with_reducible exact only_seq_nil _
    | with_reducible apply only_seq_cons
    | (with_reducible apply only_rd; intro)
    | (with_reducible apply only_when; intro)
    | with_reducible apply only_either
    | (with_reducible apply only_tcTo; decide)
    | (with_reducible apply only_domainSet; decide)
    | with_reducible apply only_updates
    | with_reducible exact within_nil _
    | (with_reducible apply within_cons; · exact (by dsimp only [Upd.part]; decide))
    | with_reducible apply within_append
    | (with_reducible apply within_map; intros; exact (by dsimp only [Upd.part]; decide))
    | (with_reducible apply within_flatMap; intro _ _)
    | dsimp only

theorem frame_execCoreDomainShutdownDone (core : CoreId) (s : State) {t : State} (h : execCoreDomainShutdownDone core s = .next t) :
    SameBut [.fld .PST_CORE_PWR_r, .fld .PST_RAMP, .pst] s t := by
  unfold execCoreDomainShutdownDone at h
  cases h
  refine Eff.Only.same ?_ _
  repeat first
    | with_reducible exact only_seq_nil _
    | with_reducible apply only_seq_cons
    | (with_reducible apply only_rd; intro)
    | (with_reducible apply only_when; intro)
    | (with_reducible apply only_domainSet; decide)
    | with_reducible apply only_updates
    | with_reducible exact within_nil _
    | (with_reducible apply within_cons; · exact (by dsimp only [Upd.part]; decide))
    | with_reducible apply within_append
    | (with_reducible apply within_map; intros; exact (by dsimp only [Upd.part]; decide))
    | (with_reducible apply within_flatMap; intro _ _)
    | split
    | dsimp only

theorem frame_execFlaskEpochStart (flask : FlaskId) (tc : Nat) (s : State) {t : State} (h : execFlaskEpochStart flask tc s = .next t) :
    SameBut [.cores, .flasks, .fld .CORE_SC, .fld .CORE_SEQ, .fld .CORE_STAT, .fld .MOD_MB_SUMMARY, .fld .SPR_STAT, .fld .TC_FRAME,
        .fld .TC_FRAME_TC, .fld .TC_NOW, .gclk, .hostOut, .hports, .slots] s t := by
  unfold execFlaskEpochStart at h
  cases h
  refine Eff.Only.same ?_ _
  repeat first
    | with_reducible exact only_nop _
    | with_reducible exact only_seq_nil _
    | with_reducible apply only_seq_cons
    | (with_reducible apply only_rd; intro)
    | (with_reducible apply only_when; intro)
    | with_reducible apply only_either
    | (with_reducible apply only_tcTo; decide)
    | (with_reducible apply only_flaskRuns; decide)
    | (with_reducible apply only_gridBegin; decide)
    | split
    | dsimp only

theorem frame_execFrameBoundary (tc : Nat) (s : State) {t : State} (h : execFrameBoundary tc s = .next t) :
    SameBut [.dbg, .flasks, .fld .CORE_STAT, .fld .DBG_HOLD, .fld .MOD_MB_SUMMARY, .fld .PEP_CTL, .fld .PEP_STAT, .fld .PWR_VMIN_STAT,
        .fld .SPR_STAT, .fld .TC_FRAME, .fld .TC_FRAME_TC, .fld .TC_NOW, .gclk, .hostOut, .hports, .pep, .power, .slots] s t := by
  unfold execFrameBoundary at h
  cases h
  refine Eff.Only.same ?_ _
  repeat first
    | with_reducible exact only_nop _
    | with_reducible exact only_seq_nil _
    | with_reducible apply only_seq_cons
    | (with_reducible apply only_rd; intro)
    | (with_reducible apply only_when; intro)
    | (with_reducible apply only_each; intro _ _)
    | (with_reducible apply only_fset; decide)
    | (with_reducible apply only_fadd; decide)
    | (with_reducible apply only_tcTo; decide)
    | (with_reducible apply only_haltNow; decide)
    | (with_reducible apply only_holdPoint; decide)
    | (with_reducible apply only_markFrame; decide)
    | (with_reducible apply only_pepFrame; decide)
    | (with_reducible apply only_vminFrameEnd; decide)
    | with_reducible intro _
    | split
    | dsimp only

theorem frame_execRegisterWrite (src : Src) (tgt : RegTarget) (data : List Byte) (hwSet : Word) (s : State) {t : State} (h : execRegisterWrite src
    tgt data hwSet s = .next t) :
    SameBut [.ev, .faults, .flasks, .fld .CLU_THERM, .fld .LDL_CTX_n, .fld .MOD_EVR_HEAD_n, .fld .MOD_EVR_TAIL_n, .fld .MOD_FAULT_STAT,
        .fld .MOD_FA_FAULT_INFO, .fld .MOD_HOST_ERR_p, .fld .MOD_HOST_STAT_p, .fld .MOD_MB_SUMMARY, .fld .PST_CORE_PWR_r, .fld .PST_RAMP,
        .fld .PST_STAT, .fld .PST_WAKE_STAT, .fld .QUEUE_BASE, .fld .QUEUE_CTL, .fld .QUEUE_LEVEL, .fld .QUEUE_STAT, .fld .QUEUE_WM, .fld .RUN_ERR,
        .fld .RUN_STAT, .flds, .hostOut, .hports, .ldls, .mbOrder, .msgs, .msix, .ports, .pst, .queues, .rings, .slots] s t := by
  unfold execRegisterWrite at h
  cases h
  refine Eff.Only.same ?_ _
  repeat first
    | with_reducible exact only_nop _
    | (with_reducible apply only_rd; intro)
    | (with_reducible apply only_when; intro)
    | with_reducible apply only_either
    | (with_reducible apply only_badSize; decide)
    | (with_reducible apply only_bar0Write; decide)
    | (with_reducible apply only_bar2Write; decide)
    | (with_reducible apply only_cfgWrite; decide)
    | (with_reducible apply only_regStore; decide)
    | (with_reducible apply only_regWriteRw; first | exact .inl ((by decide)) | exact .inr ((by decide)))
    | split
    | dsimp only

theorem frame_execPeakClr (cluster : ClusterId) (s : State) {t : State} (h : execPeakClr cluster s = .next t) :
    SameBut [.fld .CLU_THERM] s t := by
  unfold execPeakClr at h
  cases h
  refine Eff.Only.same ?_ _
  repeat first
    | (with_reducible apply only_peakClear; decide)

theorem frame_execApertureDeniedRead (s : State) {t : State} (h : execApertureDeniedRead s = .next t) :
    SameBut [.fld .MOD_APERTURE_CTL, .resp] s t := by
  unfold execApertureDeniedRead at h
  cases h
  refine Eff.Only.same ?_ _
  repeat first
    | with_reducible exact only_seq_nil _
    | with_reducible apply only_seq_cons
    | (with_reducible apply only_rd; intro)
    | with_reducible apply only_either
    | (with_reducible apply only_answer; decide)
    | (with_reducible apply only_regReadClears; first | exact .inl ((by decide)) | exact .inr ((by decide)))

theorem frame_execFabricAccess (req : FabricReq) (s : State) {t : State} (h : execFabricAccess req s = .next t) :
    SameBut [.caches, .cores, .dram, .dramPoison, .dramWritten, .ev, .fld .CCH_HITS, .fld .CCH_MISSES, .fld .CORE_QSTAT, .fld .MOD_FA_FAULT_ADDR,
        .fld .MOD_FA_FAULT_INFO, .fld .MOD_HOST_ERR_p, .fld .PWR_TELEM_IN_p, .fld .QUEUE_BASE, .fld .QUEUE_CTL, .fld .QUEUE_LEVEL, .fld .QUEUE_STAT,
        .fld .QUEUE_WM, .fld .SPD_ELASTIC, .flds, .msgs, .ports, .queues, .resp, .spd, .spdPoison] s t := by
  unfold execFabricAccess at h
  cases h
  refine Eff.Only.same ?_ _
  repeat first
    | (with_reducible apply only_fabricServe; decide)

theorem frame_execFaFaultValidClear (fault : Option FabricReq) (s : State) {t : State} (h : execFaFaultValidClear fault s = .next t) :
    SameBut [.caches, .cores, .dram, .dramPoison, .dramWritten, .ev, .fld .CCH_HITS, .fld .CCH_MISSES, .fld .CORE_QSTAT, .fld .MOD_FA_FAULT_ADDR,
        .fld .MOD_FA_FAULT_INFO, .fld .MOD_HOST_ERR_p, .fld .PWR_TELEM_IN_p, .fld .QUEUE_BASE, .fld .QUEUE_CTL, .fld .QUEUE_LEVEL, .fld .QUEUE_STAT,
        .fld .QUEUE_WM, .fld .SPD_ELASTIC, .flds, .msgs, .ports, .queues, .resp, .spd, .spdPoison] s t := by
  unfold execFaFaultValidClear at h
  cases h
  refine Eff.Only.same ?_ _
  repeat first
    | with_reducible exact only_nop _
    | with_reducible exact only_seq_nil _
    | with_reducible apply only_seq_cons
    | (with_reducible apply only_faRearm; decide)
    | (with_reducible apply only_fabricServe; decide)
    | split
    | dsimp only

theorem frame_execHostDramAccess (port : HostId) (off : Nat) (len : Nat) (data : Option (List Byte)) (s : State) {t : State} (h : execHostDramAccess
    port off len data s = .next t) :
    SameBut [.caches, .dram, .dramPoison, .dramWritten, .ev, .fld .CCH_HITS, .fld .CCH_MISSES, .fld .MOD_HOST_ERR_p, .fld .SAF_ERR, .resp] s t := by
  unfold execHostDramAccess at h
  cases h
  refine Eff.Only.same ?_ _
  repeat first
    | with_reducible exact only_seq_nil _
    | with_reducible apply only_seq_cons
    | (with_reducible apply only_rd; intro)
    | (with_reducible apply only_when; intro)
    | with_reducible apply only_either
    | (with_reducible apply only_fsat; decide)
    | (with_reducible apply only_raise; decide)
    | (with_reducible apply only_answer; decide)
    | (with_reducible apply only_dramRead; decide)
    | (with_reducible apply only_dramWrite; decide)
    | split
    | dsimp only

theorem frame_execApertureAccess (port : HostId) (core : CoreId) (off : BitVec 28) (len : Nat) (data : Option (List Byte)) (s : State) {t : State}
    (h : execApertureAccess port core off len data s = .next t) :
    SameBut [.cores, .fld .MOD_APERTURE_CTL, .fld .SPD_ELASTIC, .resp, .spd, .spdPoison] s t := by
  unfold execApertureAccess at h
  cases h
  refine Eff.Only.same ?_ _
  repeat first
    | with_reducible exact only_seq_nil _
    | with_reducible apply only_seq_cons
    | (with_reducible apply only_rd; intro)
    | (with_reducible apply only_when; intro)
    | (with_reducible apply only_fsat; decide)
    | (with_reducible apply only_answer; decide)
    | (with_reducible apply only_apertureWr; decide)
    | split
    | dsimp only

theorem frame_execQueueDbSubmit (queue : Fin 2097152) (count : BitVec 16) (tc : Nat) (s : State) {t : State} (h : execQueueDbSubmit queue count tc s
    = .next t) :
    SameBut [.ev, .fld .QUEUE_LEVEL, .fld .QUEUE_STAT, .fld .QUEUE_WM, .fld .TC_NOW, .queues] s t := by
  unfold execQueueDbSubmit at h
  cases h
  refine Eff.Only.same ?_ _
  repeat first
    | with_reducible exact only_seq_nil _
    | with_reducible apply only_seq_cons
    | (with_reducible apply only_tcTo; decide)
    | (with_reducible apply only_doorbellSubmit; decide)

theorem frame_execQueueDbPost (queue : Fin 2097152) (count : BitVec 16) (tc : Nat) (s : State) {t : State} (h : execQueueDbPost queue count tc s =
    .next t) :
    SameBut [.ev, .fld .QUEUE_LEVEL, .fld .QUEUE_STAT, .fld .QUEUE_WM, .fld .TC_NOW, .queues] s t := by
  unfold execQueueDbPost at h
  cases h
  refine Eff.Only.same ?_ _
  repeat first
    | with_reducible exact only_seq_nil _
    | with_reducible apply only_seq_cons
    | (with_reducible apply only_tcTo; decide)
    | (with_reducible apply only_doorbellPost; decide)

theorem frame_execQueueCtlWrite (queue : Fin 2097152) (val : Word) (byteMask : Fin 256) (s : State) {t : State} (h : execQueueCtlWrite queue val
    byteMask s = .next t) :
    SameBut [.ev, .fld .MOD_HOST_ERR_p, .fld .QUEUE_CTL, .fld .QUEUE_LEVEL, .fld .QUEUE_STAT, .fld .QUEUE_WM, .queues] s t := by
  unfold execQueueCtlWrite at h
  cases h
  refine Eff.Only.same ?_ _
  repeat first
    | (with_reducible apply only_queueCtlWrite; decide)

theorem frame_execQueueBaseWrite (queue : Fin 2097152) (val : Word) (byteMask : Fin 256) (s : State) {t : State} (h : execQueueBaseWrite queue val
    byteMask s = .next t) :
    SameBut [.fld .QUEUE_BASE, .fld .QUEUE_STAT] s t := by
  unfold execQueueBaseWrite at h
  cases h
  refine Eff.Only.same ?_ _
  repeat first
    | (with_reducible apply only_queueBaseWrite; decide)

theorem frame_execQueueWmWrite (queue : Fin 2097152) (val : Word) (byteMask : Fin 256) (sameCycleFire : Bool) (s : State) {t : State} (h :
    execQueueWmWrite queue val byteMask sameCycleFire s = .next t) :
    SameBut [.ev, .fld .QUEUE_LEVEL, .fld .QUEUE_WM] s t := by
  unfold execQueueWmWrite at h
  cases h
  refine Eff.Only.same ?_ _
  repeat first
    | (with_reducible apply only_queueWmWrite; decide)

theorem frame_execHostFetchRead (queue : Fin 2097152) (s : State) {t : State} (h : execHostFetchRead queue s = .next t) :
    SameBut [.queues] s t := by
  unfold execHostFetchRead at h
  cases h
  refine Eff.Only.same ?_ _
  repeat first
    | (with_reducible apply only_rd; intro)
    | (with_reducible apply only_when; intro)
    | (with_reducible apply only_onQueue; decide)
    | dsimp only

theorem frame_execHostFetchCompletion (queue : Fin 2097152) (res : FetchResult) (s : State) {t : State} (h : execHostFetchCompletion queue res s =
    .next t) :
    SameBut [.cores, .ev, .fld .QUEUE_LEVEL, .fld .QUEUE_STAT, .fld .QUEUE_WM, .queues, .spd, .spdPoison] s t := by
  unfold execHostFetchCompletion at h
  cases h
  refine Eff.Only.same ?_ _
  repeat first
    | with_reducible exact only_nop _
    | with_reducible exact only_seq_nil _
    | with_reducible apply only_seq_cons
    | (with_reducible apply only_rd; intro)
    | (with_reducible apply only_when; intro)
    | (with_reducible apply only_onQueue; decide)
    | (with_reducible apply only_queueFault; decide)
    | (with_reducible apply only_queueSync; decide)
    | (with_reducible apply only_shadowFill; decide)
    | split
    | dsimp only

theorem frame_execHostCompletionTimeout (queue : Fin 2097152) (s : State) {t : State} (h : execHostCompletionTimeout queue s = .next t) :
    SameBut [.ev, .fld .MOD_HOST_ERR_p, .fld .QUEUE_STAT, .queues] s t := by
  unfold execHostCompletionTimeout at h
  cases h
  refine Eff.Only.same ?_ _
  repeat first
    | with_reducible exact only_nop _
    | with_reducible exact only_seq_nil _
    | with_reducible apply only_seq_cons
    | (with_reducible apply only_rd; intro)
    | (with_reducible apply only_when; intro)
    | (with_reducible apply only_fsat; decide)
    | (with_reducible apply only_onQueue; decide)
    | (with_reducible apply only_queueFault; decide)
    | split
    | dsimp only

theorem frame_execHostPostWrite (queue : Fin 2097152) (tc : Nat) (s : State) {t : State} (h : execHostPostWrite queue tc s = .next t) :
    SameBut [.fld .TC_NOW, .hostOut, .hports, .queues] s t := by
  unfold execHostPostWrite at h
  cases h
  refine Eff.Only.same ?_ _
  repeat first
    | with_reducible exact only_nop _
    | with_reducible exact only_seq_nil _
    | with_reducible apply only_seq_cons
    | (with_reducible apply only_rd; intro)
    | (with_reducible apply only_when; intro)
    | (with_reducible apply only_tcTo; decide)
    | (with_reducible apply only_onQueue; decide)
    | (with_reducible apply only_hostWrite; decide)
    | (with_reducible apply only_queueMsg; decide)
    | split
    | dsimp only

theorem frame_execMsixHoldoffExpiry (queue : Fin 2097152) (tc : Nat) (s : State) {t : State} (h : execMsixHoldoffExpiry queue tc s = .next t) :
    SameBut [.fld .TC_NOW, .hostOut, .hports, .queues] s t := by
  unfold execMsixHoldoffExpiry at h
  cases h
  refine Eff.Only.same ?_ _
  repeat first
    | with_reducible exact only_seq_nil _
    | with_reducible apply only_seq_cons
    | (with_reducible apply only_rd; intro)
    | (with_reducible apply only_when; intro)
    | (with_reducible apply only_tcTo; decide)
    | (with_reducible apply only_onQueue; decide)
    | (with_reducible apply only_msixSend; decide)
    | split
    | dsimp only

theorem frame_execQueueDisableComplete (queue : Fin 2097152) (s : State) {t : State} (h : execQueueDisableComplete queue s = .next t) :
    SameBut [.ev, .fld .QUEUE_LEVEL, .fld .QUEUE_STAT, .fld .QUEUE_WM, .queues] s t := by
  unfold execQueueDisableComplete at h
  cases h
  refine Eff.Only.same ?_ _
  repeat first
    | (with_reducible apply only_rd; intro)
    | (with_reducible apply only_when; intro)
    | with_reducible apply only_either
    | (with_reducible apply only_fset; decide)
    | (with_reducible apply only_queueEnable; decide)
    | dsimp only

theorem frame_execEventRecordWrite (s : State) {t : State} (h : execEventRecordWrite s = .next t) :
    SameBut [.ev, .fld .MOD_EVR_TAIL_n, .hostOut, .hports, .rings] s t := by
  unfold execEventRecordWrite at h
  cases h
  refine Eff.Only.same ?_ _
  repeat first
    | with_reducible exact only_nop _
    | with_reducible exact only_seq_nil _
    | with_reducible apply only_seq_cons
    | (with_reducible apply only_rd; intro)
    | (with_reducible apply only_when; intro)
    | (with_reducible apply only_ringOffer; decide)
    | with_reducible apply only_updates
    | with_reducible exact within_nil _
    | (with_reducible apply within_cons; · exact (by dsimp only [Upd.part]; decide))
    | with_reducible apply within_append
    | (with_reducible apply within_map; intros; exact (by dsimp only [Upd.part]; decide))
    | (with_reducible apply within_flatMap; intro _ _)
    | split
    | dsimp only

theorem frame_execEventWindowClose (index : Fin 256) (tc : Nat) (s : State) {t : State} (h : execEventWindowClose index tc s = .next t) :
    SameBut [.ev, .fld .TC_NOW] s t := by
  unfold execEventWindowClose at h
  cases h
  refine Eff.Only.same ?_ _
  repeat first
    | with_reducible exact only_nop _
    | with_reducible exact only_seq_nil _
    | with_reducible apply only_seq_cons
    | (with_reducible apply only_rd; intro)
    | (with_reducible apply only_when; intro)
    | (with_reducible apply only_tcTo; decide)
    | with_reducible apply only_updates
    | with_reducible exact within_nil _
    | (with_reducible apply within_cons; · exact (by dsimp only [Upd.part]; decide))
    | with_reducible apply within_append
    | (with_reducible apply within_map; intros; exact (by dsimp only [Upd.part]; decide))
    | (with_reducible apply within_flatMap; intro _ _)
    | split
    | dsimp only

theorem frame_execEvrHeadWrite (ring : Fin 17) (head : BitVec 32) (s : State) {t : State} (h : execEvrHeadWrite ring head s = .next t) :
    SameBut [.fld .MOD_EVR_HEAD_n, .fld .MOD_EVR_TAIL_n, .hostOut, .hports, .rings] s t := by
  unfold execEvrHeadWrite at h
  cases h
  refine Eff.Only.same ?_ _
  repeat first
    | (with_reducible apply only_evrHeadWrite; decide)

theorem frame_execPortFlr (port : HostId) (s : State) {t : State} (h : execPortFlr port s = .next t) :
    SameBut [.fld .MOD_EVR_TAIL_n, .fld .MOD_HOST_ERR_p, .fld .MOD_HOST_STAT_p, .fld .QUEUE_CTL, .fld .QUEUE_STAT, .hports, .msix, .queues, .rings]
        s t := by
  unfold execPortFlr at h
  cases h
  refine Eff.Only.same ?_ _
  repeat first
    | with_reducible exact only_seq_nil _
    | with_reducible apply only_seq_cons
    | (with_reducible apply only_fset; decide)
    | (with_reducible apply only_portReset; decide)

theorem frame_execPortHotReset (port : HostId) (perst : Bool) (s : State) {t : State} (h : execPortHotReset port perst s = .next t) :
    SameBut [.fld .MOD_EVR_TAIL_n, .fld .MOD_HOST_ERR_p, .fld .MOD_HOST_STAT_p, .fld .QUEUE_CTL, .fld .QUEUE_STAT, .hports, .msix, .queues, .rings]
        s t := by
  unfold execPortHotReset at h
  cases h
  refine Eff.Only.same ?_ _
  repeat first
    | with_reducible exact only_seq_nil _
    | with_reducible apply only_seq_cons
    | (with_reducible apply only_when; intro)
    | (with_reducible apply only_fset; decide)
    | (with_reducible apply only_portDown; decide)
    | (with_reducible apply only_portReset; decide)

theorem frame_execHostLinkLoss (port : HostId) (s : State) {t : State} (h : execHostLinkLoss port s = .next t) :
    SameBut [.fld .MOD_EVR_TAIL_n, .fld .MOD_HOST_ERR_p, .fld .MOD_HOST_STAT_p, .fld .QUEUE_CTL, .fld .QUEUE_STAT, .hports, .msix, .queues, .rings]
        s t := by
  unfold execHostLinkLoss at h
  cases h
  refine Eff.Only.same ?_ _
  repeat first
    | with_reducible exact only_seq_nil _
    | with_reducible apply only_seq_cons
    | (with_reducible apply only_rd; intro)
    | (with_reducible apply only_when; intro)
    | (with_reducible apply only_fset; decide)
    | (with_reducible apply only_portDown; decide)
    | (with_reducible apply only_portReset; decide)

theorem frame_execHostLinkUp (port : HostId) (speed : Fin 7) (width : Fin 17) (flit : Bool) (s : State) {t : State} (h : execHostLinkUp port speed
    width flit s = .next t) :
    SameBut [.fld .MOD_EVR_TAIL_n, .fld .MOD_HOST_STAT_p] s t := by
  unfold execHostLinkUp at h
  cases h
  refine Eff.Only.same ?_ _
  repeat first
    | with_reducible exact only_seq_nil _
    | with_reducible apply only_seq_cons
    | (with_reducible apply only_rd; intro)
    | (with_reducible apply only_when; intro)
    | (with_reducible apply only_fset; decide)
    | (with_reducible apply only_fput; decide)
    | (with_reducible apply only_portRings; decide)
    | dsimp only

theorem frame_execBusMasterEnable (port : HostId) (on : Bool) (s : State) {t : State} (h : execBusMasterEnable port on s = .next t) :
    SameBut [.fld .MOD_HOST_STAT_p, .hostOut, .hports] s t := by
  unfold execBusMasterEnable at h
  cases h
  refine Eff.Only.same ?_ _
  repeat first
    | with_reducible exact only_seq_nil _
    | with_reducible apply only_seq_cons
    | (with_reducible apply only_fput; decide)
    | (with_reducible apply only_msixDrain; decide)

theorem frame_execSeqLdl (core : CoreId) (engine : Fin 4) (index : Fin 4096) (reloc : Fin 32) (mask : BitVec 16) (s : State) {t : State} (h :
    execSeqLdl core engine index reloc mask s = .next t) :
    SameBut [.cores, .dbg, .ev, .faults, .flasks, .fld .CORE_MOULD, .fld .CORE_SC, .fld .CORE_SEQ, .fld .CORE_SEQ_ERR, .fld .CORE_STAT,
        .fld .DBG_HOLD, .fld .LDL_CTX_n, .fld .LDL_ERR, .fld .ME_STAT, .fld .MOD_FAULT_STAT, .fld .MOD_GRID_STAT, .fld .MOD_MB_SUMMARY,
        .fld .QUEUE_BASE, .fld .QUEUE_CTL, .fld .QUEUE_DB, .fld .QUEUE_LEVEL, .fld .QUEUE_STAT, .fld .QUEUE_WM, .fld .SE_STAT, .fld .SPR_STAT,
        .fld .VU_STAT, .hostOut, .hports, .ldls, .mes, .msgs, .queues, .ses, .slots, .vus] s t := by
  unfold execSeqLdl at h
  cases h
  refine Eff.Only.same ?_ _
  repeat first
    | (with_reducible apply only_rd; intro)
    | (with_reducible apply only_ldlFail; decide)
    | (with_reducible apply only_ldlIssue; decide)
    | (with_reducible apply only_seqStep; · decide)
    | split
    | dsimp only

theorem frame_execLdlSchedSlot (engine : LdlId) (channel : Fin 8) (lost : List (Nat × Nat)) (s : State) {t : State} (h : execLdlSchedSlot engine
    channel lost s = .next t) :
    SameBut [.cores, .ev, .fld .LDL_CLAMP, .fld .LDL_ERR, .fld .LDL_FLAGS, .fld .LDL_SECTORS, .fld .LDL_STAT, .fld .SPD_CONFLICT, .fld .SPD_ELASTIC,
        .ldls, .spd, .spdPoison] s t := by
  unfold execLdlSchedSlot at h
  cases h
  refine Eff.Only.same ?_ _
  repeat first
    | with_reducible exact only_nop _
    | with_reducible exact only_seq_nil _
    | with_reducible apply only_seq_cons
    | (with_reducible apply only_rd; intro)
    | (with_reducible apply only_when; intro)
    | (with_reducible apply only_seq_map; intro _ _)
    | (with_reducible apply only_each; intro _ _)
    | (with_reducible apply only_onLdl; decide)
    | (with_reducible apply only_arriveAfter; decide)
    | (with_reducible apply only_chanWrite; decide)
    | (with_reducible apply only_planCounts; decide)
    | (with_reducible apply only_secReports; decide)
    | (with_reducible apply only_spdConflict; decide)
    | with_reducible intro _
    | split
    | dsimp only

theorem frame_execLdlContextStart (engine : LdlId) (ctx : Fin 4) (remote : List (Nat × List Byte)) (s : State) {t : State} (h : execLdlContextStart
    engine ctx remote s = .next t) :
    SameBut [.caches, .cores, .ev, .fld .CCH_HITS, .fld .CCH_MISSES, .fld .LDL_CLAMP, .fld .LDL_CTXW_n, .fld .LDL_CTX_n, .fld .LDL_ERR,
        .fld .LDL_STAT, .fld .MOD_FA_FAULT_ADDR, .fld .MOD_FA_FAULT_INFO, .fld .SPD_ELASTIC, .ldls, .msgs, .ports, .spd, .spdPoison] s t := by
  unfold execLdlContextStart at h
  cases h
  refine Eff.Only.same ?_ _
  repeat first
    | with_reducible exact only_nop _
    | with_reducible exact only_seq_nil _
    | with_reducible apply only_seq_cons
    | (with_reducible apply only_rd; intro)
    | (with_reducible apply only_when; intro)
    | (with_reducible apply only_fset; decide)
    | (with_reducible apply only_onLdl; decide)
    | (with_reducible apply only_ctxDone; decide)
    | (with_reducible apply only_ctxProgress; decide)
    | (with_reducible apply only_ctxReads; decide)
    | (with_reducible apply only_onCtx; decide)
    | (with_reducible apply only_planCounts; decide)
    | (with_reducible apply only_trackersOpen; decide)
    | split
    | dsimp only

theorem frame_execSectorWrite (engine : LdlId) (ctx : Fin 4) (write : Nat) (crcOk : Bool) (s : State) {t : State} (h : execSectorWrite engine ctx
    write crcOk s = .next t) :
    SameBut [.caches, .cores, .dram, .dramPoison, .dramWritten, .ev, .fld .CCH_HITS, .fld .CCH_MISSES, .fld .LDL_ERR, .fld .LDL_FLAGS,
        .fld .LDL_SECTORS, .fld .MOD_FA_FAULT_ADDR, .fld .MOD_FA_FAULT_INFO, .fld .SPD_ELASTIC, .ldls, .msgs, .ports, .spd, .spdPoison] s t := by
  unfold execSectorWrite at h
  cases h
  refine Eff.Only.same ?_ _
  repeat first
    | (with_reducible apply only_sectorGo; decide)

theorem frame_execSectorBeatTimeout (engine : LdlId) (ctx : Fin 4) (write : Nat) (s : State) {t : State} (h : execSectorBeatTimeout engine ctx write
    s = .next t) :
    SameBut [.caches, .cores, .dram, .dramPoison, .dramWritten, .ev, .fld .CCH_HITS, .fld .CCH_MISSES, .fld .LDL_ERR, .fld .LDL_FLAGS,
        .fld .LDL_SECTORS, .fld .MOD_FA_FAULT_ADDR, .fld .MOD_FA_FAULT_INFO, .fld .SPD_ELASTIC, .ldls, .msgs, .ports, .spd, .spdPoison] s t := by
  unfold execSectorBeatTimeout at h
  cases h
  refine Eff.Only.same ?_ _
  repeat first
    | (with_reducible apply only_sectorGo; decide)

theorem frame_execSectorAck (engine : LdlId) (ctx : Fin 4) (write : Nat) (outcome : AckOutcome) (s : State) {t : State} (h : execSectorAck engine
    ctx write outcome s = .next t) :
    SameBut [.caches, .cores, .ev, .fld .LDL_CTXW_n, .fld .LDL_CTX_n, .fld .LDL_ERR, .fld .LDL_SECTORS, .fld .LDL_STAT, .fld .SPD_ELASTIC, .ldls,
        .msgs, .ports, .spd, .spdPoison] s t := by
  unfold execSectorAck at h
  cases h
  refine Eff.Only.same ?_ _
  repeat first
    | (with_reducible apply only_sectorAck; decide)

theorem frame_execLdlAbort (engine : LdlId) (mask : Fin 16) (s : State) {t : State} (h : execLdlAbort engine mask s = .next t) :
    SameBut [.fld .LDL_CTX_n, .ldls] s t := by
  unfold execLdlAbort at h
  cases h
  refine Eff.Only.same ?_ _
  repeat first
    | (with_reducible apply only_each; intro _ _)
    | (with_reducible apply only_ctxAbort; decide)
    | with_reducible intro _

theorem frame_execAbortResolveTimeout (engine : LdlId) (ctx : Fin 4) (s : State) {t : State} (h : execAbortResolveTimeout engine ctx s = .next t) :
    SameBut [.caches, .cores, .ev, .fld .LDL_CTXW_n, .fld .LDL_CTX_n, .fld .LDL_ERR, .fld .LDL_STAT, .fld .SPD_ELASTIC, .ldls, .msgs, .ports, .spd,
        .spdPoison] s t := by
  unfold execAbortResolveTimeout at h
  cases h
  refine Eff.Only.same ?_ _
  repeat first
    | (with_reducible apply only_rd; intro)
    | (with_reducible apply only_when; intro)
    | (with_reducible apply only_ctxCapture; decide)
    | dsimp only

theorem frame_execAbortCapture (engine : LdlId) (ctx : Fin 4) (s : State) {t : State} (h : execAbortCapture engine ctx s = .next t) :
    SameBut [.caches, .cores, .ev, .fld .LDL_CTXW_n, .fld .LDL_CTX_n, .fld .LDL_ERR, .fld .LDL_STAT, .fld .SPD_ELASTIC, .ldls, .msgs, .ports, .spd,
        .spdPoison] s t := by
  unfold execAbortCapture at h
  cases h
  refine Eff.Only.same ?_ _
  repeat first
    | (with_reducible apply only_rd; intro)
    | (with_reducible apply only_when; intro)
    | (with_reducible apply only_ctxCapture; decide)
    | dsimp only

theorem frame_execScheduledCell (port : PortId) (sseq : Fin 2048) (beat : Beat) (s : State) {t : State} (h : execScheduledCell port sseq beat s =
    .next t) :
    SameBut [.fld .RUN_ERR, .ports] s t := by
  unfold execScheduledCell at h
  cases h
  refine Eff.Only.same ?_ _
  repeat first
    | (with_reducible apply only_schedCell; decide)

theorem frame_execReleaseCycle (port : PortId) (sc : Nat) (s : State) {t : State} (h : execReleaseCycle port sc s = .next t) :
    SameBut [.fld .RUN_ERR, .fld .RUN_SCHED, .freeCtr, .msgs, .ports] s t := by
  unfold execReleaseCycle at h
  cases h
  refine Eff.Only.same ?_ _
  repeat first
    | with_reducible exact only_nop _
    | (with_reducible apply only_rd; intro)
    | (with_reducible apply only_when; intro)
    | (with_reducible apply only_each; intro _ _)
    | (with_reducible apply only_releaseBeat; decide)
    | with_reducible intro _
    | split
    | dsimp only

theorem frame_execElasticCell (port : PortId) (cell : ElCell) (s : State) {t : State} (h : execElasticCell port cell s = .next t) :
    SameBut [.ports] s t := by
  unfold execElasticCell at h
  cases h
  refine Eff.Only.same ?_ _
  repeat first
    | (with_reducible apply only_elCell; decide)

theorem frame_execElasticResendTimeout (port : PortId) (tc : Nat) (s : State) {t : State} (h : execElasticResendTimeout port tc s = .next t) :
    SameBut [.fld .RUN_ELASTIC, .fld .TC_NOW, .ports] s t := by
  unfold execElasticResendTimeout at h
  cases h
  refine Eff.Only.same ?_ _
  repeat first
    | with_reducible exact only_seq_nil _
    | with_reducible apply only_seq_cons
    | (with_reducible apply only_rd; intro)
    | (with_reducible apply only_when; intro)
    | (with_reducible apply only_tcTo; decide)
    | (with_reducible apply only_resend; decide)

theorem frame_execSuperframeReceive (port : PortId) (sf : Superframe) (tc : Nat) (s : State) {t : State} (h : execSuperframeReceive port sf tc s =
    .next t) :
    SameBut [.ev, .faults, .flasks, .fld .MOD_FAULT_STAT, .fld .MOD_MB_SUMMARY, .fld .RUN_ELASTIC, .fld .RUN_ERR, .fld .RUN_FEC, .fld .RUN_STAT,
        .fld .TC_NOW, .hostOut, .hports, .msgs, .ports, .slots] s t := by
  unfold execSuperframeReceive at h
  cases h
  refine Eff.Only.same ?_ _
  repeat first
    | with_reducible exact only_seq_nil _
    | with_reducible apply only_seq_cons
    | (with_reducible apply only_rd; intro)
    | (with_reducible apply only_when; intro)
    | with_reducible apply only_either
    | (with_reducible apply only_each; intro _ _)
    | (with_reducible apply only_fset; decide)
    | (with_reducible apply only_fadd; decide)
    | (with_reducible apply only_fsat; decide)
    | (with_reducible apply only_tcTo; decide)
    | (with_reducible apply only_onPort; decide)
    | (with_reducible apply only_ackTo; decide)
    | (with_reducible apply only_authFail; decide)
    | (with_reducible apply only_cellIn; decide)
    | (with_reducible apply only_resend; decide)
    | with_reducible intro _
    | dsimp only

theorem frame_execSuperframeSend (port : PortId) (s : State) {t : State} (h : execSuperframeSend port s = .next t) :
    SameBut [.fld .RUN_ELASTIC, .fld .RUN_SCHED, .fld .RUN_STAT, .msgs, .ports] s t := by
  unfold execSuperframeSend at h
  cases h
  refine Eff.Only.same ?_ _
  repeat first
    | with_reducible exact only_seq_nil _
    | with_reducible apply only_seq_cons
    | (with_reducible apply only_rd; intro)
    | (with_reducible apply only_when; intro)
    | (with_reducible apply only_fset; decide)
    | (with_reducible apply only_fadd; decide)
    | (with_reducible apply only_fsat; decide)
    | (with_reducible apply only_send; decide)
    | (with_reducible apply only_onPort; decide)
    | split
    | dsimp only

theorem frame_execElasticRequest (port : PortId) (s : State) {t : State} (h : execElasticRequest port s = .next t) :
    SameBut [.caches, .cores, .dram, .dramPoison, .dramWritten, .ev, .fld .CCH_HITS, .fld .CCH_MISSES, .fld .CORE_QSTAT, .fld .MOD_FA_FAULT_ADDR,
        .fld .MOD_FA_FAULT_INFO, .fld .MOD_HOST_ERR_p, .fld .PWR_TELEM_IN_p, .fld .QUEUE_BASE, .fld .QUEUE_CTL, .fld .QUEUE_LEVEL, .fld .QUEUE_STAT,
        .fld .QUEUE_WM, .fld .SPD_ELASTIC, .flds, .msgs, .ports, .queues, .spd, .spdPoison] s t := by
  unfold execElasticRequest at h
  cases h
  refine Eff.Only.same ?_ _
  repeat first
    | (with_reducible apply only_rd; intro)
    | (with_reducible apply only_forward; decide)
    | (with_reducible apply only_popMsg; · decide)
    | (with_reducible apply only_refuseReq; decide)
    | (with_reducible apply only_serveReq; decide)
    | with_reducible intro _
    | split
    | dsimp only

theorem frame_execWriteFault (far : Nat) (tag : Nat) (status : Nat) (fidx : Fin 1024) (tc : Nat) (fa : Nat) (count : Nat) (s : State) {t : State} (h
    : execWriteFault far tag status fidx tc fa count s = .next t) :
    SameBut [.ev, .flasks] s t := by
  unfold execWriteFault at h
  cases h
  refine Eff.Only.same ?_ _
  repeat first
    | (with_reducible apply only_faultTake; decide)

theorem frame_execElasticResponse (port : PortId) (s : State) {t : State} (h : execElasticResponse port s = .next t) :
    SameBut [.caches, .cores, .ev, .flasks, .fld .LDL_CTXW_n, .fld .LDL_CTX_n, .fld .LDL_ERR, .fld .LDL_SECTORS, .fld .LDL_STAT, .fld .RUN_ELASTIC,
        .fld .SPD_ELASTIC, .ldls, .msgs, .ports, .resp, .slots, .spd, .spdPoison] s t := by
  unfold execElasticResponse at h
  cases h
  refine Eff.Only.same ?_ _
  repeat first
    | with_reducible exact only_nop _
    | (with_reducible apply only_rd; intro)
    | (with_reducible apply only_fsat; decide)
    | (with_reducible apply only_answer; decide)
    | (with_reducible apply only_faultTake; decide)
    | (with_reducible apply only_flushAck; decide)
    | (with_reducible apply only_forward; decide)
    | (with_reducible apply only_popMsg; · decide)
    | (with_reducible apply only_sectorAck; decide)
    | with_reducible intro _
    | split
    | dsimp only

theorem frame_execMbSubmit (slot : Fin 16) (submit : Word) (byteMask : Fin 256) (tc : Nat) (s : State) {t : State} (h : execMbSubmit slot submit
    byteMask tc s = .next t) :
    SameBut [.fld .MOD_MB_SUMMARY, .fld .TC_NOW, .hostOut, .hports, .mbOrder, .slots] s t := by
  unfold execMbSubmit at h
  cases h
  refine Eff.Only.same ?_ _
  repeat first
    | with_reducible exact only_seq_nil _
    | with_reducible apply only_seq_cons
    | (with_reducible apply only_rd; intro)
    | (with_reducible apply only_when; intro)
    | (with_reducible apply only_tcTo; decide)
    | (with_reducible apply only_onSlot; decide)
    | (with_reducible apply only_mbAccept; decide)
    | split
    | dsimp only

theorem frame_execMbCancel (slot : Fin 16) (val : Byte) (s : State) {t : State} (h : execMbCancel slot val s = .next t) :
    SameBut [.ev, .faults, .flasks, .fld .MOD_FAULT_STAT, .fld .MOD_MB_SUMMARY, .fld .RUN_ERR, .fld .RUN_STAT, .hostOut, .hports, .msgs, .ports,
        .slots] s t := by
  unfold execMbCancel at h
  cases h
  refine Eff.Only.same ?_ _
  repeat first
    | (with_reducible apply only_rd; intro)
    | (with_reducible apply only_when; intro)
    | (with_reducible apply only_mbCancel; decide)

theorem frame_execMbCommandStart (slot : Fin 17) (s : State) {t : State} (h : execMbCommandStart slot s = .next t) :
    SameBut [.fld .MOD_MB_SUMMARY, .hostOut, .hports, .slots] s t := by
  unfold execMbCommandStart at h
  cases h
  refine Eff.Only.same ?_ _
  repeat first
    | (with_reducible apply only_mbStart; decide)

theorem frame_execMbInfoGet (slot : Fin 17) (s : State) {t : State} (h : execMbInfoGet slot s = .next t) :
    SameBut [.fld .MOD_MB_SUMMARY, .hostOut, .hports, .slots] s t := by
  unfold execMbInfoGet at h
  cases h
  refine Eff.Only.same ?_ _
  repeat first
    | (with_reducible apply only_rd; intro)
    | with_reducible apply only_mbCommand
    | (with_reducible apply only_mbDoneWith; decide)
    | with_reducible intro _

theorem frame_execMbSlagRead (slot : Fin 17) (s : State) {t : State} (h : execMbSlagRead slot s = .next t) :
    SameBut [.fld .MOD_MB_SUMMARY, .hostOut, .hports, .slots] s t := by
  unfold execMbSlagRead at h
  cases h
  refine Eff.Only.same ?_ _
  repeat first
    | (with_reducible apply only_rd; intro)
    | with_reducible apply only_mbCommand
    | (with_reducible apply only_mbDoneWith; decide)
    | with_reducible intro _

theorem frame_execMbEventRingSet (slot : Fin 17) (s : State) {t : State} (h : execMbEventRingSet slot s = .next t) :
    SameBut [.ev, .fld .MOD_EVR_HEAD_n, .fld .MOD_EVR_TAIL_n, .fld .MOD_MB_SUMMARY, .hostOut, .hports, .rings, .slots] s t := by
  unfold execMbEventRingSet at h
  cases h
  refine Eff.Only.same ?_ _
  repeat first
    | with_reducible exact only_seq_nil _
    | with_reducible apply only_seq_cons
    | with_reducible apply only_mbCommand
    | (with_reducible apply only_mbDone; decide)
    | (with_reducible apply only_ringSet; decide)
    | with_reducible intro _

theorem frame_execMbFlaskList (slot : Fin 17) (s : State) {t : State} (h : execMbFlaskList slot s = .next t) :
    SameBut [.fld .MOD_MB_SUMMARY, .hostOut, .hports, .slots] s t := by
  unfold execMbFlaskList at h
  cases h
  refine Eff.Only.same ?_ _
  repeat first
    | (with_reducible apply only_rd; intro)
    | with_reducible apply only_mbCommand
    | (with_reducible apply only_mbDoneWith; decide)
    | with_reducible intro _

theorem frame_execMbEventTest (slot : Fin 17) (s : State) {t : State} (h : execMbEventTest slot s = .next t) :
    SameBut [.ev, .fld .MOD_MB_SUMMARY, .freeCtr, .hostOut, .hports, .slots] s t := by
  unfold execMbEventTest at h
  cases h
  refine Eff.Only.same ?_ _
  repeat first
    | with_reducible exact only_seq_nil _
    | with_reducible apply only_seq_cons
    | (with_reducible apply only_draw; · decide)
    | with_reducible apply only_mbCommand
    | (with_reducible apply only_mbDone; decide)
    | with_reducible intro _
    | with_reducible exact within_nil _
    | (with_reducible apply within_cons; · exact (by dsimp only [Upd.part]; decide))
    | with_reducible apply within_append
    | (with_reducible apply within_map; intros; exact (by dsimp only [Upd.part]; decide))
    | (with_reducible apply within_flatMap; intro _ _)
    | (apply only_fun; intro)

theorem frame_execMbApertureSet (slot : Fin 17) (s : State) {t : State} (h : execMbApertureSet slot s = .next t) :
    SameBut [.fld .MOD_APERTURE_CTL, .fld .MOD_MB_SUMMARY, .hostOut, .hports, .slots] s t := by
  unfold execMbApertureSet at h
  cases h
  refine Eff.Only.same ?_ _
  repeat first
    | with_reducible exact only_seq_nil _
    | with_reducible apply only_seq_cons
    | (with_reducible apply only_rd; intro)
    | with_reducible apply only_either
    | with_reducible apply only_mbCommand
    | (with_reducible apply only_fset; decide)
    | (with_reducible apply only_mbDone; decide)
    | (with_reducible apply only_mbFail; decide)
    | with_reducible intro _

theorem frame_execMbPoll (s : State) {t : State} (h : execMbPoll s = .next t) :
    SameBut [.resp] s t := by
  unfold execMbPoll at h
  cases h
  refine Eff.Only.same ?_ _
  repeat first
    | (with_reducible apply only_rd; intro)
    | (with_reducible apply only_when; intro)
    | (with_reducible apply only_sidebandAnswer; decide)

theorem frame_execSidebandRequest (submit : Word) (args : List Byte) (session : Option Nat) (tc : Nat) (s : State) {t : State} (h :
    execSidebandRequest submit args session tc s = .next t) :
    SameBut [.fld .MOD_MB_SUMMARY, .fld .TC_NOW, .hostOut, .hports, .mbOrder, .resp, .slots] s t := by
  unfold execSidebandRequest at h
  cases h
  refine Eff.Only.same ?_ _
  repeat first
    | with_reducible exact only_seq_nil _
    | with_reducible apply only_seq_cons
    | (with_reducible apply only_rd; intro)
    | (with_reducible apply only_when; intro)
    | (with_reducible apply only_tcTo; decide)
    | (with_reducible apply only_onSlot; decide)
    | (with_reducible apply only_mbAccept; decide)
    | (with_reducible apply only_sidebandAnswer; decide)
    | dsimp only

theorem frame_execMeMmaStart (core : CoreId) (engine : Fin 64) (quad : Fin 4) (faults : EngFaults) (s : State) {t : State} (h : execMeMmaStart core
    engine quad faults s = .next t) :
    SameBut [.cores, .dbg, .ev, .faults, .flasks, .fld .CORE_MOULD, .fld .CORE_SC, .fld .CORE_SEQ, .fld .CORE_STAT, .fld .DBG_HOLD, .fld .LDL_CTX_n,
        .fld .ME_ERR, .fld .ME_GATED, .fld .ME_STALL, .fld .ME_STAT, .fld .MOD_FAULT_STAT, .fld .MOD_GRID_STAT, .fld .MOD_MB_SUMMARY,
        .fld .QUEUE_BASE, .fld .QUEUE_CTL, .fld .QUEUE_DB, .fld .QUEUE_LEVEL, .fld .QUEUE_STAT, .fld .QUEUE_WM, .fld .SE_ERR, .fld .SE_STALL,
        .fld .SE_STAT, .fld .SPD_CONFLICT, .fld .SPD_ECC, .fld .SPD_ECC_ADDR, .fld .SPR_STAT, .fld .VU_STAT, .hostOut, .hports, .ldls, .mes, .msgs,
        .queues, .ses, .slots, .spdPoison, .vus] s t := by
  unfold execMeMmaStart at h
  cases h
  refine Eff.Only.same ?_ _
  repeat first
    | (with_reducible apply only_rd; intro)
    | (with_reducible apply only_when; intro)
    | (with_reducible apply only_fadd; decide)
    | (with_reducible apply only_engStart; · decide)
    | with_reducible intro _
    | dsimp only

theorem frame_execMeDrain (core : CoreId) (engine : Fin 64) (quad : Fin 4) (faults : EngFaults) (s : State) {t : State} (h : execMeDrain core engine
    quad faults s = .next t) :
    SameBut [.cores, .dbg, .ev, .faults, .flasks, .fld .CORE_MOULD, .fld .CORE_SC, .fld .CORE_SEQ, .fld .CORE_STAT, .fld .DBG_HOLD, .fld .LDL_CTX_n,
        .fld .ME_ERR, .fld .ME_FLAGS, .fld .ME_HASH, .fld .ME_LAST_TAG, .fld .ME_STAT, .fld .ME_TILES, .fld .MOD_FAULT_STAT, .fld .MOD_GRID_STAT,
        .fld .MOD_MB_SUMMARY, .fld .QUEUE_BASE, .fld .QUEUE_CTL, .fld .QUEUE_DB, .fld .QUEUE_LEVEL, .fld .QUEUE_STAT, .fld .QUEUE_WM, .fld .SE_ERR,
        .fld .SE_FLAGS, .fld .SE_HASH, .fld .SE_STAT, .fld .SE_TILES, .fld .SPD_CONFLICT, .fld .SPD_ECC, .fld .SPD_ECC_ADDR, .fld .SPR_STAT,
        .fld .VU_ERR, .fld .VU_STAT, .hostOut, .hports, .ldls, .mes, .msgs, .queues, .ses, .slots, .spd, .spdPoison, .vus] s t := by
  unfold execMeDrain at h
  cases h
  refine Eff.Only.same ?_ _
  repeat first
    | (with_reducible apply only_engDrain; decide)

theorem frame_execMeLoadAStart (core : CoreId) (engine : Fin 64) (s : State) {t : State} (h : execMeLoadAStart core engine s = .next t) :
    SameBut [.mes, .ses] s t := by
  unfold execMeLoadAStart at h
  cases h
  refine Eff.Only.same ?_ _
  repeat first
    | (with_reducible apply only_loadAStart; decide)

theorem frame_execMbMouldLoad (slot : Fin 17) (env : LoadEnv) (s : State) {t : State} (h : execMbMouldLoad slot env s = .next t) :
    SameBut [.cores, .ev, .flasks, .fld .CORE_MOULD, .fld .CORE_SC, .fld .CORE_SEQ, .fld .CORE_STAT, .fld .ME_STAT, .fld .MOD_GRID_STAT,
        .fld .MOD_MB_SUMMARY, .fld .QUEUE_BASE, .fld .QUEUE_CTL, .fld .QUEUE_DB, .fld .QUEUE_LEVEL, .fld .QUEUE_STAT, .fld .QUEUE_WM, .fld .SE_STAT,
        .fld .SPD_ELASTIC, .fld .SPR_STAT, .fld .VU_STAT, .hostOut, .hports, .mes, .msgs, .pour, .queues, .ses, .slots, .spd, .spdPoison, .vus] s t
        := by
  unfold execMbMouldLoad at h
  cases h
  refine Eff.Only.same ?_ _
  repeat first
    | with_reducible exact only_seq_nil _
    | with_reducible apply only_seq_cons
    | (with_reducible apply only_rd; intro)
    | with_reducible apply only_either
    | with_reducible apply only_mbCommand
    | (with_reducible apply only_onFlask; decide)
    | (with_reducible apply only_loadFirst; decide)
    | (with_reducible apply only_loadLost; decide)
    | (with_reducible apply only_mbDoneWith; decide)
    | (with_reducible apply only_mbFail; decide)
    | (with_reducible apply only_mbResult; decide)
    | (with_reducible apply only_mouldRegs; decide)
    | (with_reducible apply only_readyAgain; decide)
    | (with_reducible apply only_readyReport; decide)
    | (with_reducible apply only_sendDigests; decide)
    | (with_reducible apply only_writeInit; decide)
    | with_reducible intro _
    | split
    | dsimp only

theorem frame_execMbMouldSwitch (slot : Fin 17) (tc : Nat) (s : State) {t : State} (h : execMbMouldSwitch slot tc s = .next t) :
    SameBut [.cores, .ctl, .dec, .ev, .flasks, .fld .CORE_MOULD, .fld .CORE_SC, .fld .CORE_SEQ, .fld .CORE_STAT, .fld .MOD_GRID_STAT,
        .fld .MOD_MB_SUMMARY, .fld .QUEUE_BASE, .fld .QUEUE_CTL, .fld .QUEUE_DB, .fld .QUEUE_LEVEL, .fld .QUEUE_STAT, .fld .QUEUE_WM,
        .fld .SPR_STAT, .fld .TC_NOW, .hostOut, .hports, .msgs, .pour, .queues, .slots] s t := by
  unfold execMbMouldSwitch at h
  cases h
  refine Eff.Only.same ?_ _
  repeat first
    | with_reducible exact only_nop _
    | with_reducible exact only_seq_nil _
    | with_reducible apply only_seq_cons
    | (with_reducible apply only_rd; intro)
    | with_reducible apply only_mbCommand
    | (with_reducible apply only_tcTo; decide)
    | (with_reducible apply only_armLocal; decide)
    | (with_reducible apply only_bankSwap; decide)
    | (with_reducible apply only_mbDone; decide)
    | (with_reducible apply only_mbFail; decide)
    | (with_reducible apply only_pourArm; decide)
    | (with_reducible apply only_readyAgain; decide)
    | (with_reducible apply only_readyReport; decide)
    | with_reducible intro _
    | split
    | dsimp only

theorem frame_execFlaskHaltPoint (flask : FlaskId) (point : Nat) (quiesce : Bool) (frameBoundary : Bool) (tc : Nat) (s : State) {t : State} (h :
    execFlaskHaltPoint flask point quiesce frameBoundary tc s = .next t) :
    SameBut [.cores, .ctl, .dbg, .flasks, .fld .CORE_MOULD, .fld .CORE_SC, .fld .CORE_SEQ, .fld .CORE_STAT, .fld .DBG_HOLD, .fld .MOD_GRID_STAT,
        .fld .MOD_MB_SUMMARY, .fld .QUEUE_BASE, .fld .QUEUE_CTL, .fld .QUEUE_DB, .fld .QUEUE_LEVEL, .fld .QUEUE_STAT, .fld .QUEUE_WM,
        .fld .SPR_STAT, .fld .TC_NOW, .hostOut, .hports, .msgs, .queues, .slots] s t := by
  unfold execFlaskHaltPoint at h
  cases h
  refine Eff.Only.same ?_ _
  repeat first
    | with_reducible exact only_nop _
    | with_reducible exact only_seq_nil _
    | with_reducible apply only_seq_cons
    | (with_reducible apply only_rd; intro)
    | (with_reducible apply only_when; intro)
    | (with_reducible apply only_tcTo; decide)
    | (with_reducible apply only_haltNow; decide)
    | (with_reducible apply only_switchHalted; decide)
    | split
    | dsimp only

theorem frame_execStartTimeout (flask : FlaskId) (tc : Nat) (s : State) {t : State} (h : execStartTimeout flask tc s = .next t) :
    SameBut [.ev, .flasks, .fld .CLK_CHG_STAT, .fld .MOD_MB_SUMMARY, .fld .TC_NOW, .hostOut, .hports, .slots] s t := by
  unfold execStartTimeout at h
  cases h
  refine Eff.Only.same ?_ _
  repeat first
    | with_reducible exact only_nop _
    | with_reducible exact only_seq_nil _
    | with_reducible apply only_seq_cons
    | (with_reducible apply only_rd; intro)
    | (with_reducible apply only_when; intro)
    | (with_reducible apply only_fset; decide)
    | (with_reducible apply only_raise; decide)
    | (with_reducible apply only_tcTo; decide)
    | (with_reducible apply only_onFlask; decide)
    | (with_reducible apply only_mbFail; decide)
    | split
    | dsimp only

theorem frame_execTemperSwitch (core : CoreId) (point : Fin 65536) (s : State) {t : State} (h : execTemperSwitch core point s = .next t) :
    SameBut [.cores, .fld .CORE_SEQ, .fld .SPR_STAT] s t := by
  unfold execTemperSwitch at h
  cases h
  refine Eff.Only.same ?_ _
  repeat first
    | with_reducible exact only_nop _
    | with_reducible exact only_seq_nil _
    | with_reducible apply only_seq_cons
    | (with_reducible apply only_rd; intro)
    | (with_reducible apply only_when; intro)
    | (with_reducible apply only_fset; decide)
    | (with_reducible apply only_onCore; decide)
    | split
    | dsimp only

theorem frame_execMbFlaskStart (slot : Fin 17) (s : State) {t : State} (h : execMbFlaskStart slot s = .next t) :
    SameBut [.flasks, .fld .MOD_MB_SUMMARY, .hostOut, .hports, .slots] s t := by
  unfold execMbFlaskStart at h
  cases h
  refine Eff.Only.same ?_ _
  repeat first
    | with_reducible exact only_nop _
    | with_reducible exact only_seq_nil _
    | with_reducible apply only_seq_cons
    | (with_reducible apply only_rd; intro)
    | with_reducible apply only_mbCommand
    | (with_reducible apply only_onFlask; decide)
    | (with_reducible apply only_onSlot; decide)
    | (with_reducible apply only_mbFail; decide)
    | with_reducible intro _
    | split
    | dsimp only

theorem frame_execMbFlaskHalt (slot : Fin 17) (s : State) {t : State} (h : execMbFlaskHalt slot s = .next t) :
    SameBut [.ctl, .dec, .flasks, .fld .MOD_MB_SUMMARY, .hostOut, .hports, .msgs, .slots] s t := by
  unfold execMbFlaskHalt at h
  cases h
  refine Eff.Only.same ?_ _
  repeat first
    | with_reducible exact only_nop _
    | (with_reducible apply only_rd; intro)
    | with_reducible apply only_mbCommand
    | (with_reducible apply only_armLocal; decide)
    | (with_reducible apply only_mbFail; decide)
    | (with_reducible apply only_pourArm; decide)
    | with_reducible intro _
    | split
    | dsimp only

theorem frame_execMbFlaskResume (slot : Fin 17) (s : State) {t : State} (h : execMbFlaskResume slot s = .next t) :
    SameBut [.flasks, .fld .MOD_MB_SUMMARY, .hostOut, .hports, .slots] s t := by
  unfold execMbFlaskResume at h
  cases h
  refine Eff.Only.same ?_ _
  repeat first
    | with_reducible exact only_nop _
    | with_reducible exact only_seq_nil _
    | with_reducible apply only_seq_cons
    | (with_reducible apply only_rd; intro)
    | with_reducible apply only_mbCommand
    | (with_reducible apply only_onFlask; decide)
    | (with_reducible apply only_onSlot; decide)
    | (with_reducible apply only_mbFail; decide)
    | with_reducible intro _
    | split
    | dsimp only

theorem frame_execMbFlaskReset (slot : Fin 17) (s : State) {t : State} (h : execMbFlaskReset slot s = .next t) :
    SameBut [.cores, .dbg, .flasks, .fld .CORE_MOULD, .fld .CORE_SC, .fld .CORE_SEQ, .fld .CORE_STAT, .fld .DBG_HOLD, .fld .LDL_CTX_n,
        .fld .ME_STAT, .fld .MOD_GRID_STAT, .fld .MOD_MB_SUMMARY, .fld .QUEUE_BASE, .fld .QUEUE_CTL, .fld .QUEUE_DB, .fld .QUEUE_LEVEL,
        .fld .QUEUE_STAT, .fld .QUEUE_WM, .fld .SE_STAT, .fld .SPR_STAT, .fld .VU_STAT, .hostOut, .hports, .ldls, .mes, .pour, .queues, .ses,
        .slots, .vus] s t := by
  unfold execMbFlaskReset at h
  cases h
  refine Eff.Only.same ?_ _
  repeat first
    | with_reducible exact only_nop _
    | (with_reducible apply only_rd; intro)
    | with_reducible apply only_mbCommand
    | (with_reducible apply only_mbFail; decide)
    | (with_reducible apply only_resetFor; decide)
    | with_reducible intro _
    | split
    | dsimp only

theorem frame_execMbMouldUnload (slot : Fin 17) (s : State) {t : State} (h : execMbMouldUnload slot s = .next t) :
    SameBut [.cores, .dbg, .flasks, .fld .CORE_MOULD, .fld .CORE_SC, .fld .CORE_SEQ, .fld .CORE_STAT, .fld .DBG_HOLD, .fld .LDL_CTX_n,
        .fld .ME_STAT, .fld .MOD_GRID_STAT, .fld .MOD_MB_SUMMARY, .fld .QUEUE_BASE, .fld .QUEUE_CTL, .fld .QUEUE_DB, .fld .QUEUE_LEVEL,
        .fld .QUEUE_STAT, .fld .QUEUE_WM, .fld .SE_STAT, .fld .SPR_STAT, .fld .VU_STAT, .hostOut, .hports, .ldls, .mes, .pour, .queues, .ses,
        .slots, .vus] s t := by
  unfold execMbMouldUnload at h
  cases h
  refine Eff.Only.same ?_ _
  repeat first
    | with_reducible exact only_nop _
    | (with_reducible apply only_rd; intro)
    | with_reducible apply only_mbCommand
    | (with_reducible apply only_mbFail; decide)
    | (with_reducible apply only_resetFor; decide)
    | with_reducible intro _
    | split
    | dsimp only

theorem frame_execMbFlaskCreate (slot : Fin 17) (s : State) {t : State} (h : execMbFlaskCreate slot s = .next t) :
    SameBut [.caches, .cores, .dram, .dramPoison, .dramWritten, .flasks, .fld .CORE_MOULD, .fld .CORE_SC, .fld .CORE_SEQ, .fld .CORE_STAT,
        .fld .ME_STAT, .fld .MOD_MB_SUMMARY, .fld .QUEUE_BASE, .fld .QUEUE_CTL, .fld .QUEUE_DB, .fld .QUEUE_LEVEL, .fld .QUEUE_STAT, .fld .QUEUE_WM,
        .fld .SE_STAT, .fld .SPD_ELASTIC, .fld .SPD_STAT, .fld .SPR_STAT, .fld .VU_STAT, .hostOut, .hports, .mes, .queues, .ses, .slots, .vus] s t
        := by
  unfold execMbFlaskCreate at h
  cases h
  refine Eff.Only.same ?_ _
  repeat first
    | with_reducible exact only_nop _
    | with_reducible exact only_seq_nil _
    | with_reducible apply only_seq_cons
    | (with_reducible apply only_rd; intro)
    | with_reducible apply only_either
    | (with_reducible apply only_each; intro _ _)
    | with_reducible apply only_mbCommand
    | (with_reducible apply only_onFlask; decide)
    | (with_reducible apply only_onSlot; decide)
    | (with_reducible apply only_coreZero; decide)
    | (with_reducible apply only_mbDoneWith; decide)
    | (with_reducible apply only_mbFail; decide)
    | (with_reducible apply only_regionOpen; decide)
    | with_reducible intro _
    | split
    | dsimp only

theorem frame_execMbFlaskDestroy (slot : Fin 17) (s : State) {t : State} (h : execMbFlaskDestroy slot s = .next t) :
    SameBut [.caches, .cores, .dbg, .dram, .dramPoison, .dramWritten, .flasks, .fld .CORE_MOULD, .fld .CORE_SC, .fld .CORE_SEQ, .fld .CORE_STAT,
        .fld .DBG_HOLD, .fld .LDL_CTX_n, .fld .ME_STAT, .fld .MOD_GRID_STAT, .fld .MOD_MB_SUMMARY, .fld .QUEUE_BASE, .fld .QUEUE_CTL,
        .fld .QUEUE_DB, .fld .QUEUE_LEVEL, .fld .QUEUE_STAT, .fld .QUEUE_WM, .fld .SAF_STAT, .fld .SE_STAT, .fld .SPD_ELASTIC, .fld .SPD_STAT,
        .fld .SPR_STAT, .fld .VU_STAT, .hostOut, .hports, .ldls, .mes, .pour, .queues, .saf, .ses, .slots, .vus] s t := by
  unfold execMbFlaskDestroy at h
  cases h
  refine Eff.Only.same ?_ _
  repeat first
    | with_reducible exact only_nop _
    | with_reducible exact only_seq_nil _
    | with_reducible apply only_seq_cons
    | (with_reducible apply only_rd; intro)
    | with_reducible apply only_either
    | (with_reducible apply only_each; intro _ _)
    | with_reducible apply only_mbCommand
    | (with_reducible apply only_onFlask; decide)
    | (with_reducible apply only_onSlot; decide)
    | (with_reducible apply only_coreZero; decide)
    | (with_reducible apply only_flaskReset; decide)
    | (with_reducible apply only_mbDone; decide)
    | (with_reducible apply only_mbFail; decide)
    | (with_reducible apply only_readyAgain; decide)
    | (with_reducible apply only_regionOpen; decide)
    | (with_reducible apply only_weightsEnd; decide)
    | with_reducible intro _
    | split
    | dsimp only

theorem frame_execMbCacheFlush (slot : Fin 17) (s : State) {t : State} (h : execMbCacheFlush slot s = .next t) :
    SameBut [.caches, .fld .MOD_MB_SUMMARY, .hostOut, .hports, .slots] s t := by
  unfold execMbCacheFlush at h
  cases h
  refine Eff.Only.same ?_ _
  repeat first
    | with_reducible exact only_seq_nil _
    | with_reducible apply only_seq_cons
    | (with_reducible apply only_rd; intro)
    | with_reducible apply only_either
    | with_reducible apply only_mbCommand
    | (with_reducible apply only_cacheClean; decide)
    | (with_reducible apply only_mbDone; decide)
    | (with_reducible apply only_mbFail; decide)
    | with_reducible intro _
    | dsimp only

theorem frame_execMbCachePartSet (slot : Fin 17) (s : State) {t : State} (h : execMbCachePartSet slot s = .next t) :
    SameBut [.fld .CCH_PART, .fld .MOD_MB_SUMMARY, .hostOut, .hports, .slots] s t := by
  unfold execMbCachePartSet at h
  cases h
  refine Eff.Only.same ?_ _
  repeat first
    | with_reducible exact only_seq_nil _
    | with_reducible apply only_seq_cons
    | (with_reducible apply only_rd; intro)
    | (with_reducible apply only_each; intro _ _)
    | with_reducible apply only_mbCommand
    | (with_reducible apply only_fset; decide)
    | (with_reducible apply only_mbDone; decide)
    | (with_reducible apply only_mbFail; decide)
    | with_reducible intro _
    | split

theorem frame_execPepperTileStart (core : CoreId) (unit : Fin 76) (window : Nat) (hash : Nat) (tc : Nat) (s : State) {t : State} (h :
    execPepperTileStart core unit window hash tc s = .next t) :
    SameBut [.fld .TC_NOW, .pep, .power] s t := by
  unfold execPepperTileStart at h
  cases h
  refine Eff.Only.same ?_ _
  repeat first
    | with_reducible exact only_seq_nil _
    | with_reducible apply only_seq_cons
    | (with_reducible apply only_rd; intro)
    | (with_reducible apply only_when; intro)
    | (with_reducible apply only_tcTo; decide)
    | with_reducible apply only_updates
    | with_reducible exact within_nil _
    | (with_reducible apply within_cons; · exact (by dsimp only [Upd.part]; decide))
    | with_reducible apply within_append
    | (with_reducible apply within_map; intros; exact (by dsimp only [Upd.part]; decide))
    | (with_reducible apply within_flatMap; intro _ _)
    | dsimp only

theorem frame_execPepperCompare (core : CoreId) (unit : Fin 76) (s : State) {t : State} (h : execPepperCompare core unit s = .next t) :
    SameBut [.ev, .fld .PEP_STAT, .fld .PEP_SWEEP, .pep] s t := by
  unfold execPepperCompare at h
  cases h
  refine Eff.Only.same ?_ _
  repeat first
    | with_reducible exact only_nop _
    | with_reducible exact only_seq_nil _
    | with_reducible apply only_seq_cons
    | (with_reducible apply only_rd; intro)
    | with_reducible apply only_either
    | (with_reducible apply only_fadd; decide)
    | (with_reducible apply only_fsat; decide)
    | (with_reducible apply only_raise; decide)
    | (with_reducible apply only_pepSweep; decide)
    | with_reducible apply only_updates
    | with_reducible exact within_nil _
    | (with_reducible apply within_cons; · exact (by dsimp only [Upd.part]; decide))
    | with_reducible apply within_append
    | (with_reducible apply within_map; intros; exact (by dsimp only [Upd.part]; decide))
    | (with_reducible apply within_flatMap; intro _ _)
    | split
    | dsimp only

theorem frame_execPepperDiagnostic (core : CoreId) (unit : Fin 76) (result : PepRun) (s : State) {t : State} (h : execPepperDiagnostic core unit
    result s = .next t) :
    SameBut [.cores, .dbg, .ev, .faults, .flasks, .fld .CLU_CORES, .fld .CORE_MOULD, .fld .CORE_SC, .fld .CORE_SEQ, .fld .CORE_STAT, .fld .DBG_HOLD,
        .fld .LDL_CTX_n, .fld .ME_CAP, .fld .ME_STAT, .fld .MOD_BOOT_ERR, .fld .MOD_FAULT_STAT, .fld .MOD_GRID_STAT, .fld .MOD_MB_SUMMARY,
        .fld .MOD_ROW_MAP_r, .fld .PEP_LAST, .fld .PEP_RESOLVE, .fld .PWR_CLUSTER_c, .fld .PWR_TILE_t, .fld .QUEUE_BASE, .fld .QUEUE_CTL,
        .fld .QUEUE_DB, .fld .QUEUE_LEVEL, .fld .QUEUE_STAT, .fld .QUEUE_WM, .fld .RUN_ERR, .fld .RUN_STAT, .fld .SE_STAT, .fld .SPD_ELASTIC,
        .fld .SPD_STAT, .fld .SPR_STAT, .fld .VU_STAT, .hostOut, .hports, .ldls, .mes, .msgs, .pep, .ports, .power, .queues, .seam, .ses, .slag,
        .slots, .vus] s t := by
  unfold execPepperDiagnostic at h
  cases h
  refine Eff.Only.same ?_ _
  repeat first
    | with_reducible exact only_nop _
    | with_reducible exact only_seq_nil _
    | with_reducible apply only_seq_cons
    | (with_reducible apply only_rd; intro)
    | (with_reducible apply only_fsat; decide)
    | (with_reducible apply only_raise; decide)
    | (with_reducible apply only_autoRepair; decide)
    | (with_reducible apply only_pepCulprit; decide)
    | with_reducible apply only_updates
    | with_reducible exact within_nil _
    | (with_reducible apply within_cons; · exact (by dsimp only [Upd.part]; decide))
    | with_reducible apply within_append
    | (with_reducible apply within_map; intros; exact (by dsimp only [Upd.part]; decide))
    | (with_reducible apply within_flatMap; intro _ _)
    | split
    | dsimp only

theorem frame_execSpareCoreCheck (core : CoreId) (culprit : Bool) (s : State) {t : State} (h : execSpareCoreCheck core culprit s = .next t) :
    SameBut [.ev, .fld .CLU_CORES, .fld .CORE_STAT, .fld .MOD_GRID_STAT, .slag] s t := by
  unfold execSpareCoreCheck at h
  cases h
  refine Eff.Only.same ?_ _
  repeat first
    | with_reducible exact only_seq_nil _
    | with_reducible apply only_seq_cons
    | (with_reducible apply only_rd; intro)
    | (with_reducible apply only_when; intro)
    | (with_reducible apply only_fset; decide)
    | (with_reducible apply only_gridStatus; decide)
    | (with_reducible apply only_raiseExhausted; decide)
    | (with_reducible apply only_raiseFenced; decide)
    | (with_reducible apply only_slagRecord; decide)
    | dsimp only

theorem frame_execMbPepperSet (slot : Fin 17) (s : State) {t : State} (h : execMbPepperSet slot s = .next t) :
    SameBut [.fld .MOD_MB_SUMMARY, .hostOut, .hports, .pep, .slots] s t := by
  unfold execMbPepperSet at h
  cases h
  refine Eff.Only.same ?_ _
  repeat first
    | with_reducible exact only_seq_nil _
    | with_reducible apply only_seq_cons
    | (with_reducible apply only_rd; intro)
    | with_reducible apply only_mbCommand
    | (with_reducible apply only_mbDone; decide)
    | with_reducible intro _
    | with_reducible apply only_updates
    | with_reducible exact within_nil _
    | (with_reducible apply within_cons; · exact (by dsimp only [Upd.part]; decide))
    | with_reducible apply within_append
    | (with_reducible apply within_map; intros; exact (by dsimp only [Upd.part]; decide))
    | (with_reducible apply within_flatMap; intro _ _)

theorem frame_execMbRedundancySet (slot : Fin 17) (s : State) {t : State} (h : execMbRedundancySet slot s = .next t) :
    SameBut [.flasks, .fld .MOD_MB_SUMMARY, .hostOut, .hports, .slots] s t := by
  unfold execMbRedundancySet at h
  cases h
  refine Eff.Only.same ?_ _
  repeat first
    | with_reducible exact only_seq_nil _
    | with_reducible apply only_seq_cons
    | (with_reducible apply only_rd; intro)
    | with_reducible apply only_mbCommand
    | (with_reducible apply only_onFlask; decide)
    | (with_reducible apply only_mbDone; decide)
    | (with_reducible apply only_mbFail; decide)
    | with_reducible intro _
    | split
    | dsimp only

theorem frame_execRedundancyCompare (core : CoreId) (unit : Fin 76) (tag : Fin 4096) (primary : Nat) (shadow : Nat) (tileTc : Nat) (s : State) {t :
    State} (h : execRedundancyCompare core unit tag primary shadow tileTc s = .next t) :
    SameBut [.cores, .dbg, .ev, .faults, .flasks, .fld .CORE_MOULD, .fld .CORE_SC, .fld .CORE_SEQ, .fld .CORE_STAT, .fld .DBG_HOLD, .fld .LDL_CTX_n,
        .fld .ME_STAT, .fld .MOD_FAULT_STAT, .fld .MOD_GRID_STAT, .fld .MOD_MB_SUMMARY, .fld .QUEUE_BASE, .fld .QUEUE_CTL, .fld .QUEUE_DB,
        .fld .QUEUE_LEVEL, .fld .QUEUE_STAT, .fld .QUEUE_WM, .fld .SE_STAT, .fld .SPR_STAT, .fld .VU_STAT, .hostOut, .hports, .ldls, .mes, .msgs,
        .queues, .ses, .slots, .vus] s t := by
  unfold execRedundancyCompare at h
  cases h
  refine Eff.Only.same ?_ _
  repeat first
    | (with_reducible apply only_when; intro)
    | (with_reducible apply only_redundancyBad; decide)

theorem frame_execRedundancyHashTimeout (core : CoreId) (unit : Fin 76) (tag : Fin 4096) (hash : Nat) (tileTc : Nat) (s : State) {t : State} (h :
    execRedundancyHashTimeout core unit tag hash tileTc s = .next t) :
    SameBut [.cores, .dbg, .ev, .faults, .flasks, .fld .CORE_MOULD, .fld .CORE_SC, .fld .CORE_SEQ, .fld .CORE_STAT, .fld .DBG_HOLD, .fld .LDL_CTX_n,
        .fld .ME_STAT, .fld .MOD_FAULT_STAT, .fld .MOD_GRID_STAT, .fld .MOD_MB_SUMMARY, .fld .QUEUE_BASE, .fld .QUEUE_CTL, .fld .QUEUE_DB,
        .fld .QUEUE_LEVEL, .fld .QUEUE_STAT, .fld .QUEUE_WM, .fld .SE_STAT, .fld .SPR_STAT, .fld .VU_STAT, .freeCtr, .hostOut, .hports, .ldls, .mes,
        .msgs, .queues, .ses, .slots, .vus] s t := by
  unfold execRedundancyHashTimeout at h
  cases h
  refine Eff.Only.same ?_ _
  repeat first
    | (with_reducible apply only_draw; · decide)
    | (with_reducible apply only_redundancyBad; decide)
    | with_reducible intro _

theorem frame_execHello (port : PortId) (msg : HelloMsg) (s : State) {t : State} (h : execHello port msg s = .next t) :
    SameBut [.align, .ctl, .fld .MOD_MB_SUMMARY, .fld .MOD_POUR_ID, .fld .RUN_STAT, .fld .TC_ALIGN_STAT, .hostOut, .hports, .msgs, .ports, .pour,
        .slots] s t := by
  unfold execHello at h
  cases h
  refine Eff.Only.same ?_ _
  repeat first
    | with_reducible exact only_seq_nil _
    | with_reducible apply only_seq_cons
    | (with_reducible apply only_rd; intro)
    | (with_reducible apply only_when; intro)
    | with_reducible apply only_either
    | (with_reducible apply only_fset; decide)
    | (with_reducible apply only_helloDone; decide)
    | (with_reducible apply only_onKeys; decide)
    | (with_reducible apply only_pourFail; decide)
    | with_reducible apply only_updates
    | with_reducible exact within_nil _
    | (with_reducible apply within_cons; · exact (by dsimp only [Upd.part]; decide))
    | with_reducible apply within_append
    | (with_reducible apply within_map; intros; exact (by dsimp only [Upd.part]; decide))
    | (with_reducible apply within_flatMap; intro _ _)
    | split
    | dsimp only

theorem frame_execForm (port : PortId) (tree : Fin 4) (tag : Nat) (depth : Nat) (children : List PortId) (routes : List (Nat × Nat)) (s : State) {t
    : State} (h : execForm port tree tag depth children routes s = .next t) :
    SameBut [.align, .ctl, .fld .MOD_MB_SUMMARY, .fld .MOD_POUR_ID, .fld .RUN_STAT, .fld .TC_ALIGN_STAT, .hostOut, .hports, .msgs, .pour, .slots] s
        t := by
  unfold execForm at h
  cases h
  refine Eff.Only.same ?_ _
  repeat first
    | with_reducible exact only_seq_nil _
    | with_reducible apply only_seq_cons
    | (with_reducible apply only_rd; intro)
    | (with_reducible apply only_when; intro)
    | (with_reducible apply only_send; decide)
    | (with_reducible apply only_formTake; decide)
    | (with_reducible apply only_pourAlternative; decide)
    | (with_reducible apply only_pourFormed; decide)
    | with_reducible apply only_updates
    | with_reducible exact within_nil _
    | (with_reducible apply within_cons; · exact (by dsimp only [Upd.part]; decide))
    | with_reducible apply within_append
    | (with_reducible apply within_map; intros; exact (by dsimp only [Upd.part]; decide))
    | (with_reducible apply within_flatMap; intro _ _)
    | split
    | dsimp only

theorem frame_execReport (port : PortId) (phase : Fin 3) (count : Nat) (digest : Nat) (bindSum : Nat) (status : Nat) (failing : Nat) (routes : List
    (Nat × Nat)) (s : State) {t : State} (h : execReport port phase count digest bindSum status failing routes s = .next t) :
    SameBut [.align, .ctl, .ev, .flasks, .fld .MOD_MB_SUMMARY, .fld .MOD_POUR_ID, .fld .RUN_STAT, .fld .TC_ALIGN_STAT, .hostOut, .hports, .msgs,
        .pour, .slots] s t := by
  unfold execReport at h
  cases h
  refine Eff.Only.same ?_ _
  repeat first
    | with_reducible exact only_nop _
    | with_reducible exact only_seq_nil _
    | with_reducible apply only_seq_cons
    | (with_reducible apply only_rd; intro)
    | (with_reducible apply only_when; intro)
    | (with_reducible apply only_formedReport; decide)
    | (with_reducible apply only_readyReport; decide)
    | with_reducible apply only_updates
    | with_reducible exact within_nil _
    | (with_reducible apply within_cons; · exact (by dsimp only [Upd.part]; decide))
    | with_reducible apply within_append
    | (with_reducible apply within_map; intros; exact (by dsimp only [Upd.part]; decide))
    | (with_reducible apply within_flatMap; intro _ _)
    | split
    | dsimp only

theorem frame_execAbort (tag : Nat) (status : Nat) (failing : Nat) (s : State) {t : State} (h : execAbort tag status failing s = .next t) :
    SameBut [.align, .ctl, .fld .MOD_MB_SUMMARY, .fld .MOD_POUR_ID, .fld .RUN_STAT, .fld .TC_ALIGN_STAT, .hostOut, .hports, .msgs, .pour, .slots] s
        t := by
  unfold execAbort at h
  cases h
  refine Eff.Only.same ?_ _
  repeat first
    | with_reducible exact only_seq_nil _
    | with_reducible apply only_seq_cons
    | (with_reducible apply only_rd; intro)
    | (with_reducible apply only_when; intro)
    | (with_reducible apply only_send; decide)
    | (with_reducible apply only_pourAbort; decide)

theorem frame_execSlotDigest (port : PortId) (temper : Fin 4) (mouldId : Nat) (tx : Nat) (rx : Nat) (s : State) {t : State} (h : execSlotDigest port
    temper mouldId tx rx s = .next t) :
    SameBut [.pour] s t := by
  unfold execSlotDigest at h
  cases h
  refine Eff.Only.same ?_ _
  repeat first
    | with_reducible exact only_nop _
    | (with_reducible apply only_rd; intro)
    | (with_reducible apply only_when; intro)
    | with_reducible apply only_updates
    | with_reducible exact within_nil _
    | (with_reducible apply within_cons; · exact (by dsimp only [Upd.part]; decide))
    | with_reducible apply within_append
    | (with_reducible apply within_map; intros; exact (by dsimp only [Upd.part]; decide))
    | (with_reducible apply within_flatMap; intro _ _)
    | split
    | dsimp only

theorem frame_execPourFormTimeout (tc : Nat) (s : State) {t : State} (h : execPourFormTimeout tc s = .next t) :
    SameBut [.align, .ctl, .fld .MOD_MB_SUMMARY, .fld .MOD_POUR_ID, .fld .RUN_STAT, .fld .TC_ALIGN_STAT, .fld .TC_NOW, .hostOut, .hports, .pour,
        .slots] s t := by
  unfold execPourFormTimeout at h
  cases h
  refine Eff.Only.same ?_ _
  repeat first
    | with_reducible exact only_seq_nil _
    | with_reducible apply only_seq_cons
    | (with_reducible apply only_rd; intro)
    | (with_reducible apply only_when; intro)
    | (with_reducible apply only_tcTo; decide)
    | (with_reducible apply only_pourAbort; decide)

theorem frame_execMbPourForm (slot : Fin 17) (s : State) {t : State} (h : execMbPourForm slot s = .next t) :
    SameBut [.fld .MOD_MB_SUMMARY, .fld .MOD_POUR_ID, .fld .RUN_STAT, .fld .TC_ALIGN_STAT, .hostOut, .hports, .msgs, .ports, .pour, .slots] s t := by
  unfold execMbPourForm at h
  cases h
  refine Eff.Only.same ?_ _
  repeat first
    | with_reducible exact only_nop _
    | with_reducible exact only_seq_nil _
    | with_reducible apply only_seq_cons
    | (with_reducible apply only_rd; intro)
    | (with_reducible apply only_when; intro)
    | (with_reducible apply only_each; intro _ _)
    | with_reducible apply only_mbCommand
    | (with_reducible apply only_fset; decide)
    | (with_reducible apply only_fput; decide)
    | (with_reducible apply only_onSlot; decide)
    | (with_reducible apply only_onPort; decide)
    | (with_reducible apply only_helloAll; decide)
    | (with_reducible apply only_mbFail; decide)
    | (with_reducible apply only_portTo; decide)
    | with_reducible intro _
    | with_reducible apply only_updates
    | with_reducible exact within_nil _
    | (with_reducible apply within_cons; · exact (by dsimp only [Upd.part]; decide))
    | with_reducible apply within_append
    | (with_reducible apply within_map; intros; exact (by dsimp only [Upd.part]; decide))
    | (with_reducible apply within_flatMap; intro _ _)
    | split
    | dsimp only

theorem frame_execMbPourLeave (slot : Fin 17) (s : State) {t : State} (h : execMbPourLeave slot s = .next t) :
    SameBut [.align, .ctl, .fld .MOD_MB_SUMMARY, .fld .MOD_POUR_ID, .fld .RUN_STAT, .fld .TC_ALIGN_STAT, .hostOut, .hports, .pour, .slots] s t := by
  unfold execMbPourLeave at h
  cases h
  refine Eff.Only.same ?_ _
  repeat first
    | with_reducible exact only_seq_nil _
    | with_reducible apply only_seq_cons
    | (with_reducible apply only_rd; intro)
    | with_reducible apply only_mbCommand
    | (with_reducible apply only_mbDone; decide)
    | (with_reducible apply only_mbFail; decide)
    | (with_reducible apply only_pourClear; decide)
    | with_reducible intro _
    | split

theorem frame_execMbPourStart (slot : Fin 17) (s : State) {t : State} (h : execMbPourStart slot s = .next t) :
    SameBut [.ev, .flasks, .fld .MOD_MB_SUMMARY, .hostOut, .hports, .msgs, .pour, .slots] s t := by
  unfold execMbPourStart at h
  cases h
  refine Eff.Only.same ?_ _
  repeat first
    | with_reducible exact only_seq_nil _
    | with_reducible apply only_seq_cons
    | (with_reducible apply only_rd; intro)
    | with_reducible apply only_mbCommand
    | (with_reducible apply only_mbFail; decide)
    | (with_reducible apply only_startCheck; decide)
    | with_reducible intro _
    | with_reducible apply only_updates
    | with_reducible exact within_nil _
    | (with_reducible apply within_cons; · exact (by dsimp only [Upd.part]; decide))
    | with_reducible apply within_append
    | (with_reducible apply within_map; intros; exact (by dsimp only [Upd.part]; decide))
    | (with_reducible apply within_flatMap; intro _ _)
    | split

theorem frame_execPourStartTimeout (tc : Nat) (s : State) {t : State} (h : execPourStartTimeout tc s = .next t) :
    SameBut [.fld .MOD_MB_SUMMARY, .fld .TC_NOW, .hostOut, .hports, .pour, .slots] s t := by
  unfold execPourStartTimeout at h
  cases h
  refine Eff.Only.same ?_ _
  repeat first
    | with_reducible exact only_nop _
    | with_reducible exact only_seq_nil _
    | with_reducible apply only_seq_cons
    | (with_reducible apply only_rd; intro)
    | (with_reducible apply only_when; intro)
    | (with_reducible apply only_tcTo; decide)
    | (with_reducible apply only_mbFail; decide)
    | with_reducible apply only_updates
    | with_reducible exact within_nil _
    | (with_reducible apply within_cons; · exact (by dsimp only [Upd.part]; decide))
    | with_reducible apply within_append
    | (with_reducible apply within_map; intros; exact (by dsimp only [Upd.part]; decide))
    | (with_reducible apply within_flatMap; intro _ _)
    | split
    | dsimp only

theorem frame_execStart (rec : CtlRec) (s : State) {t : State} (h : execStart rec s = .next t) :
    SameBut [.ctl, .flasks, .msgs, .pour] s t := by
  unfold execStart at h
  cases h
  refine Eff.Only.same ?_ _
  repeat first
    | with_reducible exact only_seq_nil _
    | with_reducible apply only_seq_cons
    | (with_reducible apply only_rd; intro)
    | (with_reducible apply only_when; intro)
    | (with_reducible apply only_send; decide)
    | (with_reducible apply only_readyAgain; decide)
    | (with_reducible apply only_startFlasks; decide)
    | with_reducible apply only_updates
    | with_reducible exact within_nil _
    | (with_reducible apply within_cons; · exact (by dsimp only [Upd.part]; decide))
    | with_reducible apply within_append
    | (with_reducible apply within_map; intros; exact (by dsimp only [Upd.part]; decide))
    | (with_reducible apply within_flatMap; intro _ _)

theorem frame_execArmHalt (rec : CtlRec) (s : State) {t : State} (h : execArmHalt rec s = .next t) :
    SameBut [.ctl, .ev, .flasks, .fld .CLK_CHG_STAT, .msgs] s t := by
  unfold execArmHalt at h
  cases h
  refine Eff.Only.same ?_ _
  repeat first
    | (with_reducible apply only_ctlArm; decide)

theorem frame_execArmSwitch (rec : CtlRec) (s : State) {t : State} (h : execArmSwitch rec s = .next t) :
    SameBut [.ctl, .ev, .flasks, .fld .CLK_CHG_STAT, .msgs] s t := by
  unfold execArmSwitch at h
  cases h
  refine Eff.Only.same ?_ _
  repeat first
    | (with_reducible apply only_ctlArm; decide)

theorem frame_execArmHold (rec : CtlRec) (s : State) {t : State} (h : execArmHold rec s = .next t) :
    SameBut [.ctl, .ev, .flasks, .fld .CLK_CHG_STAT, .msgs] s t := by
  unfold execArmHold at h
  cases h
  refine Eff.Only.same ?_ _
  repeat first
    | (with_reducible apply only_ctlArm; decide)

theorem frame_execArmRelease (rec : CtlRec) (s : State) {t : State} (h : execArmRelease rec s = .next t) :
    SameBut [.ctl, .ev, .flasks, .fld .CLK_CHG_STAT, .msgs] s t := by
  unfold execArmRelease at h
  cases h
  refine Eff.Only.same ?_ _
  repeat first
    | (with_reducible apply only_ctlArm; decide)

theorem frame_execFlaskGo (rec : CtlRec) (s : State) {t : State} (h : execFlaskGo rec s = .next t) :
    SameBut [.ctl, .dbg, .ev, .flasks, .fld .CLK_CHG_STAT, .fld .DBG_HOLD, .msgs] s t := by
  unfold execFlaskGo at h
  cases h
  refine Eff.Only.same ?_ _
  repeat first
    | with_reducible exact only_nop _
    | with_reducible exact only_seq_nil _
    | with_reducible apply only_seq_cons
    | (with_reducible apply only_rd; intro)
    | (with_reducible apply only_when; intro)
    | with_reducible apply only_either
    | (with_reducible apply only_send; decide)
    | (with_reducible apply only_ctlConflict; decide)
    | (with_reducible apply only_ctlGo; decide)
    | split
    | dsimp only

theorem frame_execFlaskWithdraw (rec : CtlRec) (s : State) {t : State} (h : execFlaskWithdraw rec s = .next t) :
    SameBut [.ctl, .msgs] s t := by
  unfold execFlaskWithdraw at h
  cases h
  refine Eff.Only.same ?_ _
  repeat first
    | with_reducible exact only_nop _
    | with_reducible exact only_seq_nil _
    | with_reducible apply only_seq_cons
    | (with_reducible apply only_rd; intro)
    | (with_reducible apply only_when; intro)
    | (with_reducible apply only_send; decide)
    | with_reducible apply only_updates
    | with_reducible exact within_nil _
    | (with_reducible apply within_cons; · exact (by dsimp only [Upd.part]; decide))
    | with_reducible apply within_append
    | (with_reducible apply within_map; intros; exact (by dsimp only [Upd.part]; decide))
    | (with_reducible apply within_flatMap; intro _ _)
    | split
    | dsimp only

theorem frame_execDone (port : PortId) (rec : CtlRec) (s : State) {t : State} (h : execDone port rec s = .next t) :
    SameBut [.ctl, .flasks, .msgs] s t := by
  unfold execDone at h
  cases h
  refine Eff.Only.same ?_ _
  repeat first
    | with_reducible exact only_seq_nil _
    | with_reducible apply only_seq_cons
    | (with_reducible apply only_rd; intro)
    | (with_reducible apply only_when; intro)
    | (with_reducible apply only_doneUp; decide)
    | with_reducible apply only_updates
    | with_reducible exact within_nil _
    | (with_reducible apply within_cons; · exact (by dsimp only [Upd.part]; decide))
    | with_reducible apply within_append
    | (with_reducible apply within_map; intros; exact (by dsimp only [Upd.part]; decide))
    | (with_reducible apply within_flatMap; intro _ _)
    | split
    | dsimp only

theorem frame_execHaltBeacon (port : PortId) (cause : Nat) (origin : Nat) (seq_ : Nat) (frame : Nat) (tag : Nat) (tc : Nat) (s : State) {t : State}
    (h : execHaltBeacon port cause origin seq_ frame tag tc s = .next t) :
    SameBut [.dec, .faults, .flasks, .fld .TC_NOW, .msgs, .pour] s t := by
  unfold execHaltBeacon at h
  cases h
  refine Eff.Only.same ?_ _
  repeat first
    | with_reducible exact only_seq_nil _
    | with_reducible apply only_seq_cons
    | (with_reducible apply only_rd; intro)
    | (with_reducible apply only_when; intro)
    | (with_reducible apply only_send; decide)
    | (with_reducible apply only_tcTo; decide)
    | (with_reducible apply only_floodNote; decide)
    | (with_reducible apply only_haltPourFlasks; decide)
    | with_reducible apply only_updates
    | with_reducible exact within_nil _
    | (with_reducible apply within_cons; · exact (by dsimp only [Upd.part]; decide))
    | with_reducible apply within_append
    | (with_reducible apply within_map; intros; exact (by dsimp only [Upd.part]; decide))
    | (with_reducible apply within_flatMap; intro _ _)

theorem frame_execFenceBeacon (port : PortId) (unit : Nat) (origin : Nat) (seq_ : Nat) (frame : Nat) (tag : Nat) (detail : Nat) (tc : Nat) (s :
    State) {t : State} (h : execFenceBeacon port unit origin seq_ frame tag detail tc s = .next t) :
    SameBut [.faults, .fld .TC_NOW, .msgs, .pour] s t := by
  unfold execFenceBeacon at h
  cases h
  refine Eff.Only.same ?_ _
  repeat first
    | with_reducible exact only_seq_nil _
    | with_reducible apply only_seq_cons
    | (with_reducible apply only_rd; intro)
    | (with_reducible apply only_when; intro)
    | (with_reducible apply only_send; decide)
    | (with_reducible apply only_tcTo; decide)
    | (with_reducible apply only_floodNote; decide)
    | with_reducible apply only_updates
    | with_reducible exact within_nil _
    | (with_reducible apply within_cons; · exact (by dsimp only [Upd.part]; decide))
    | with_reducible apply within_append
    | (with_reducible apply within_map; intros; exact (by dsimp only [Upd.part]; decide))
    | (with_reducible apply within_flatMap; intro _ _)

theorem frame_execMbFlushPosted (slot : Fin 17) (tc : Nat) (s : State) {t : State} (h : execMbFlushPosted slot tc s = .next t) :
    SameBut [.flasks, .fld .MOD_MB_SUMMARY, .fld .TC_NOW, .hostOut, .hports, .msgs, .ports, .slots] s t := by
  unfold execMbFlushPosted at h
  cases h
  refine Eff.Only.same ?_ _
  repeat first
    | with_reducible exact only_seq_nil _
    | with_reducible apply only_seq_cons
    | (with_reducible apply only_rd; intro)
    | (with_reducible apply only_when; intro)
    | (with_reducible apply only_each; intro _ _)
    | with_reducible apply only_mbCommand
    | (with_reducible apply only_tcTo; decide)
    | (with_reducible apply only_onFlask; decide)
    | (with_reducible apply only_onSlot; decide)
    | (with_reducible apply only_mbDoneWith; decide)
    | (with_reducible apply only_sendMod; decide)
    | with_reducible intro _
    | split
    | dsimp only

theorem frame_execFlushAckTimeout (slot : Fin 17) (tc : Nat) (s : State) {t : State} (h : execFlushAckTimeout slot tc s = .next t) :
    SameBut [.fld .MOD_MB_SUMMARY, .fld .TC_NOW, .hostOut, .hports, .slots] s t := by
  unfold execFlushAckTimeout at h
  cases h
  refine Eff.Only.same ?_ _
  repeat first
    | with_reducible exact only_seq_nil _
    | with_reducible apply only_seq_cons
    | (with_reducible apply only_rd; intro)
    | (with_reducible apply only_when; intro)
    | with_reducible apply only_mbCommand
    | (with_reducible apply only_tcTo; decide)
    | (with_reducible apply only_mbFail; decide)
    | (with_reducible apply only_mbResult; decide)
    | with_reducible intro _
    | dsimp only

theorem frame_execMbPortCtl (slot : Fin 17) (s : State) {t : State} (h : execMbPortCtl slot s = .next t) :
    SameBut [.ev, .faults, .flasks, .fld .MOD_FAULT_STAT, .fld .MOD_MB_SUMMARY, .fld .RUN_ERR, .fld .RUN_STAT, .hostOut, .hports, .msgs, .ports,
        .slots] s t := by
  unfold execMbPortCtl at h
  cases h
  refine Eff.Only.same ?_ _
  repeat first
    | with_reducible exact only_nop _
    | with_reducible exact only_seq_nil _
    | with_reducible apply only_seq_cons
    | (with_reducible apply only_rd; intro)
    | (with_reducible apply only_each; intro _ _)
    | with_reducible apply only_mbCommand
    | (with_reducible apply only_onSlot; decide)
    | (with_reducible apply only_onPort; decide)
    | (with_reducible apply only_mbDone; decide)
    | (with_reducible apply only_mbFail; decide)
    | (with_reducible apply only_portCtl; decide)
    | (with_reducible apply only_portDrop; decide)
    | with_reducible intro _
    | split
    | dsimp only

theorem frame_execInputSample (millivolts : ℤ) (tenthAmps : Nat) (watts : Nat) (tc : Nat) (s : State) {t : State} (h : execInputSample millivolts
    tenthAmps watts tc s = .next t) :
    SameBut [.dbg, .ev, .faults, .flasks, .fld .CORE_STAT, .fld .DBG_HOLD, .fld .MOD_FAULT_STAT, .fld .MOD_MB_SUMMARY, .fld .PWR_CLUSTER_c,
        .fld .PWR_INPUT, .fld .PWR_TILE_t, .fld .SPR_STAT, .fld .TC_NOW, .hostOut, .hports, .msgs, .power, .slots, .svc] s t := by
  unfold execInputSample at h
  split at h
  · cases h
  · cases h
    refine Eff.Only.same ?_ _
    repeat first
      | with_reducible exact only_seq_nil _
      | with_reducible apply only_seq_cons
      | (with_reducible apply only_rd; intro)
      | (with_reducible apply only_when; intro)
      | (with_reducible apply only_fset; decide)
      | (with_reducible apply only_raise; decide)
      | (with_reducible apply only_tcTo; decide)
      | (with_reducible apply only_inputFault; decide)
      | with_reducible apply only_updates
      | with_reducible exact within_nil _
      | (with_reducible apply within_cons; · exact (by dsimp only [Upd.part]; decide))
      | with_reducible apply within_append
      | (with_reducible apply within_map; intros; exact (by dsimp only [Upd.part]; decide))
      | (with_reducible apply within_flatMap; intro _ _)
      | split
      | dsimp only

theorem frame_execPwrAuxFault (s : State) {t : State} (h : execPwrAuxFault s = .next t) :
    SameBut [.dbg, .ev, .faults, .flasks, .fld .CORE_STAT, .fld .DBG_HOLD, .fld .MOD_FAULT_STAT, .fld .MOD_MB_SUMMARY, .fld .SPR_STAT, .hostOut,
        .hports, .msgs, .slots] s t := by
  unfold execPwrAuxFault at h
  cases h
  refine Eff.Only.same ?_ _
  repeat first
    | (with_reducible apply only_fatal; decide)

theorem frame_execTileFault (tile : Fin 256) (cause : TileCause) (s : State) {t : State} (h : execTileFault tile cause s = .next t) :
    SameBut [.cores, .dbg, .ev, .faults, .flasks, .fld .CLU_CORES, .fld .CORE_MOULD, .fld .CORE_SC, .fld .CORE_SEQ, .fld .CORE_STAT, .fld .DBG_HOLD,
        .fld .LDL_CTX_n, .fld .ME_STAT, .fld .MOD_BOOT_ERR, .fld .MOD_FAULT_STAT, .fld .MOD_GRID_STAT, .fld .MOD_MB_SUMMARY, .fld .MOD_ROW_MAP_r,
        .fld .PWR_CLUSTER_c, .fld .PWR_TILE_t, .fld .QUEUE_BASE, .fld .QUEUE_CTL, .fld .QUEUE_DB, .fld .QUEUE_LEVEL, .fld .QUEUE_STAT,
        .fld .QUEUE_WM, .fld .SE_STAT, .fld .SPD_ELASTIC, .fld .SPD_STAT, .fld .SPR_STAT, .fld .VU_STAT, .hostOut, .hports, .ldls, .mes, .msgs,
        .power, .queues, .ses, .slag, .slots, .vus] s t := by
  unfold execTileFault at h
  cases h
  refine Eff.Only.same ?_ _
  repeat first
    | with_reducible exact only_nop _
    | with_reducible exact only_seq_nil _
    | with_reducible apply only_seq_cons
    | (with_reducible apply only_rd; intro)
    | (with_reducible apply only_when; intro)
    | (with_reducible apply only_fset; decide)
    | (with_reducible apply only_raise; decide)
    | (with_reducible apply only_slagRecord; decide)
    | (with_reducible apply only_spareRamp; decide)
    | (with_reducible apply only_tileOut; decide)
    | split
    | dsimp only

theorem frame_execTileSpared (tile : Fin 256) (ok : Bool) (s : State) {t : State} (h : execTileSpared tile ok s = .next t) :
    SameBut [.ev, .faults, .fld .MOD_FAULT_STAT, .fld .MOD_MB_SUMMARY, .fld .PWR_CLUSTER_c, .fld .PWR_TILE_t, .hostOut, .hports, .msgs, .power,
        .slag, .slots] s t := by
  unfold execTileSpared at h
  cases h
  refine Eff.Only.same ?_ _
  repeat first
    | with_reducible exact only_nop _
    | with_reducible exact only_seq_nil _
    | with_reducible apply only_seq_cons
    | (with_reducible apply only_rd; intro)
    | (with_reducible apply only_when; intro)
    | with_reducible apply only_either
    | (with_reducible apply only_each; intro _ _)
    | (with_reducible apply only_fset; decide)
    | (with_reducible apply only_fadd; decide)
    | (with_reducible apply only_raise; decide)
    | (with_reducible apply only_fenceBeacon; decide)
    | (with_reducible apply only_mbDone; decide)
    | (with_reducible apply only_slagRecord; decide)
    | (with_reducible apply only_spareRamp; decide)
    | with_reducible intro _
    | with_reducible apply only_updates
    | with_reducible exact within_nil _
    | (with_reducible apply within_cons; · exact (by dsimp only [Upd.part]; decide))
    | with_reducible apply within_append
    | (with_reducible apply within_map; intros; exact (by dsimp only [Upd.part]; decide))
    | (with_reducible apply within_flatMap; intro _ _)
    | split
    | dsimp only

theorem frame_execVminSample (cluster : ClusterId) (sensor : Fin 32) (millivolts : Nat) (bubbleEdge : Bool) (tc : Nat) (s : State) {t : State} (h :
    execVminSample cluster sensor millivolts bubbleEdge tc s = .next t) :
    SameBut [.cores, .dbg, .ev, .faults, .flasks, .fld .CORE_MOULD, .fld .CORE_SC, .fld .CORE_SEQ, .fld .CORE_STAT, .fld .DBG_HOLD, .fld .LDL_CTX_n,
        .fld .ME_STAT, .fld .MOD_FAULT_STAT, .fld .MOD_GRID_STAT, .fld .MOD_MB_SUMMARY, .fld .PWR_CLUSTER_c, .fld .PWR_VMIN_STAT, .fld .QUEUE_BASE,
        .fld .QUEUE_CTL, .fld .QUEUE_DB, .fld .QUEUE_LEVEL, .fld .QUEUE_STAT, .fld .QUEUE_WM, .fld .SE_STAT, .fld .SPR_STAT, .fld .TC_NOW,
        .fld .VU_STAT, .hostOut, .hports, .ldls, .mes, .msgs, .power, .queues, .ses, .slots, .vus] s t := by
  unfold execVminSample at h
  cases h
  refine Eff.Only.same ?_ _
  repeat first
    | with_reducible exact only_seq_nil _
    | with_reducible apply only_seq_cons
    | (with_reducible apply only_tcTo; decide)
    | (with_reducible apply only_vminSample; decide)

theorem frame_execRiserNotice (cluster : ClusterId) (level : Fin 1024) (s : State) {t : State} (h : execRiserNotice cluster level s = .next t) :
    SameBut [.power] s t := by
  unfold execRiserNotice at h
  cases h
  refine Eff.Only.same ?_ _
  repeat first
    | (with_reducible apply only_riserNotice; decide)

theorem frame_execBucketGrant (cluster : ClusterId) (amps : Nat) (tc : Nat) (s : State) {t : State} (h : execBucketGrant cluster amps tc s = .next
    t) :
    SameBut [.fld .PWR_SLEW, .fld .TC_NOW, .power] s t := by
  unfold execBucketGrant at h
  cases h
  refine Eff.Only.same ?_ _
  repeat first
    | with_reducible exact only_seq_nil _
    | with_reducible apply only_seq_cons
    | (with_reducible apply only_tcTo; decide)
    | (with_reducible apply only_bucketAsk; decide)

theorem frame_execArmSend (tc : Nat) (s : State) {t : State} (h : execArmSend tc s = .next t) :
    SameBut [.dec, .fld .CLK_ARM, .fld .CLK_ARM_TARGET, .fld .PWR_CLUSTER_c, .fld .TC_NOW, .msgs] s t := by
  unfold execArmSend at h
  cases h
  refine Eff.Only.same ?_ _
  repeat first
    | with_reducible exact only_seq_nil _
    | with_reducible apply only_seq_cons
    | (with_reducible apply only_rd; intro)
    | (with_reducible apply only_when; intro)
    | (with_reducible apply only_send; decide)
    | (with_reducible apply only_tcTo; decide)
    | (with_reducible apply only_armTake; decide)
    | with_reducible apply only_updates
    | with_reducible exact within_nil _
    | (with_reducible apply within_cons; · exact (by dsimp only [Upd.part]; decide))
    | with_reducible apply within_append
    | (with_reducible apply within_map; intros; exact (by dsimp only [Upd.part]; decide))
    | (with_reducible apply within_flatMap; intro _ _)
    | split
    | dsimp only

theorem frame_execDecisionWindowEnd (watts : Nat) (bubbleWatts : Nat) (currents : List (Nat × Nat)) (tc : Nat) (s : State) {t : State} (h :
    execDecisionWindowEnd watts bubbleWatts currents tc s = .next t) :
    SameBut [.ev, .fld .PWR_BUDGET, .fld .PWR_CAP, .fld .TC_NOW, .power] s t := by
  unfold execDecisionWindowEnd at h
  cases h
  refine Eff.Only.same ?_ _
  repeat first
    | with_reducible exact only_seq_nil _
    | with_reducible apply only_seq_cons
    | (with_reducible apply only_rd; intro)
    | (with_reducible apply only_when; intro)
    | (with_reducible apply only_each; intro _ _)
    | (with_reducible apply only_fset; decide)
    | (apply only_fset; unfold reqField; split <;> decide)
    | (with_reducible apply only_raise; decide)
    | (with_reducible apply only_tcTo; decide)
    | with_reducible intro _
    | with_reducible apply only_updates
    | with_reducible exact within_nil _
    | (with_reducible apply within_cons; · exact (by dsimp only [Upd.part]; decide))
    | with_reducible apply within_append
    | (with_reducible apply within_map; intros; exact (by dsimp only [Upd.part]; decide))
    | (with_reducible apply within_flatMap; intro _ _)
    | split
    | dsimp only

theorem frame_execTelemetrySend (tc : Nat) (s : State) {t : State} (h : execTelemetrySend tc s = .next t) :
    SameBut [.ev, .fld .MOD_MB_SUMMARY, .fld .PWR_BUDGET, .fld .TC_NOW, .hostOut, .hports, .msgs, .power, .slots] s t := by
  unfold execTelemetrySend at h
  cases h
  refine Eff.Only.same ?_ _
  repeat first
    | with_reducible exact only_seq_nil _
    | with_reducible apply only_seq_cons
    | (with_reducible apply only_rd; intro)
    | (with_reducible apply only_when; intro)
    | (with_reducible apply only_each; intro _ _)
    | (with_reducible apply only_fset; decide)
    | (with_reducible apply only_raise; decide)
    | (with_reducible apply only_send; decide)
    | (with_reducible apply only_tcTo; decide)
    | (with_reducible apply only_mbDone; decide)
    | with_reducible intro _
    | with_reducible apply only_updates
    | with_reducible exact within_nil _
    | (with_reducible apply within_cons; · exact (by dsimp only [Upd.part]; decide))
    | with_reducible apply within_append
    | (with_reducible apply within_map; intros; exact (by dsimp only [Upd.part]; decide))
    | (with_reducible apply within_flatMap; intro _ _)
    | split
    | dsimp only

theorem frame_execTelemetryReceive (port : PortId) (bytes : List Byte) (s : State) {t : State} (h : execTelemetryReceive port bytes s = .next t) :
    SameBut [.fld .PWR_TELEM_IN_p] s t := by
  unfold execTelemetryReceive at h
  cases h
  refine Eff.Only.same ?_ _
  repeat first
    | (with_reducible apply only_rd; intro)
    | (with_reducible apply only_when; intro)
    | with_reducible apply only_updates
    | with_reducible exact within_nil _
    | (with_reducible apply within_cons; · exact (by dsimp only [Upd.part]; decide))
    | with_reducible apply within_append
    | (with_reducible apply within_map; intros; exact (by dsimp only [Upd.part]; decide))
    | (with_reducible apply within_flatMap; intro _ _)
    | split
    | dsimp only

theorem frame_execThermalSample (readings : List (Nat × Nat)) (s : State) {t : State} (h : execThermalSample readings s = .next t) :
    SameBut [.dbg, .ev, .faults, .flasks, .fld .CLU_THERM, .fld .CORE_STAT, .fld .DBG_HOLD, .fld .MOD_FAULT_STAT, .fld .MOD_MB_SUMMARY,
        .fld .PWR_CLUSTER_c, .fld .PWR_THERM, .fld .SPR_STAT, .hostOut, .hports, .msgs, .slots, .svc] s t := by
  unfold execThermalSample at h
  cases h
  refine Eff.Only.same ?_ _
  repeat first
    | with_reducible exact only_seq_nil _
    | with_reducible apply only_seq_cons
    | (with_reducible apply only_rd; intro)
    | (with_reducible apply only_when; intro)
    | (with_reducible apply only_each; intro _ _)
    | (with_reducible apply only_fset; decide)
    | (with_reducible apply only_fmax; decide)
    | (with_reducible apply only_raise; decide)
    | (with_reducible apply only_fatal; decide)
    | (with_reducible apply only_thermPin; decide)
    | with_reducible intro _
    | split
    | dsimp only

theorem frame_execEnergyAccount (sample : EnergySample) (tc : Nat) (s : State) {t : State} (h : execEnergyAccount sample tc s = .next t) :
    SameBut [.fld .PWR_ENERGY_n, .fld .TC_NOW, .power] s t := by
  unfold execEnergyAccount at h
  cases h
  refine Eff.Only.same ?_ _
  repeat first
    | with_reducible exact only_seq_nil _
    | with_reducible apply only_seq_cons
    | (with_reducible apply only_rd; intro)
    | (with_reducible apply only_when; intro)
    | (with_reducible apply only_each; intro _ _)
    | (with_reducible apply only_fadd; decide)
    | (with_reducible apply only_tcTo; decide)
    | with_reducible intro _
    | with_reducible apply only_updates
    | with_reducible exact within_nil _
    | (with_reducible apply within_cons; · exact (by dsimp only [Upd.part]; decide))
    | with_reducible apply within_append
    | (with_reducible apply within_map; intros; exact (by dsimp only [Upd.part]; decide))
    | (with_reducible apply within_flatMap; intro _ _)
    | dsimp only

theorem frame_execMbPstepSet (slot : Fin 17) (relockFail : List Nat) (s : State) {t : State} (h : execMbPstepSet slot relockFail s = .next t) :
    SameBut [.cores, .dbg, .dec, .ev, .faults, .flasks, .fld .CLK_PSTEP, .fld .CLK_STOP_STAT, .fld .CLU_CORES, .fld .CORE_MOULD, .fld .CORE_SC,
        .fld .CORE_SEQ, .fld .CORE_STAT, .fld .DBG_HOLD, .fld .LDL_CTX_n, .fld .ME_STAT, .fld .MOD_BOOT_ERR, .fld .MOD_FAULT_STAT,
        .fld .MOD_GRID_STAT, .fld .MOD_MB_SUMMARY, .fld .MOD_ROW_MAP_r, .fld .PWR_CLUSTER_c, .fld .PWR_RISER_LEAD, .fld .QUEUE_BASE,
        .fld .QUEUE_CTL, .fld .QUEUE_DB, .fld .QUEUE_LEVEL, .fld .QUEUE_STAT, .fld .QUEUE_WM, .fld .SE_STAT, .fld .SPD_ELASTIC, .fld .SPD_STAT,
        .fld .SPR_STAT, .fld .VU_STAT, .hostOut, .hports, .ldls, .mes, .msgs, .queues, .ses, .slag, .slots, .vus] s t := by
  unfold execMbPstepSet at h
  cases h
  refine Eff.Only.same ?_ _
  repeat first
    | with_reducible exact only_nop _
    | with_reducible exact only_seq_nil _
    | with_reducible apply only_seq_cons
    | (with_reducible apply only_rd; intro)
    | with_reducible apply only_mbCommand
    | (with_reducible apply only_mbDone; decide)
    | (with_reducible apply only_mbFail; decide)
    | (with_reducible apply only_shortStop; decide)
    | with_reducible intro _
    | with_reducible apply only_updates
    | with_reducible exact within_nil _
    | (with_reducible apply within_cons; · exact (by dsimp only [Upd.part]; decide))
    | with_reducible apply within_append
    | (with_reducible apply within_map; intros; exact (by dsimp only [Upd.part]; decide))
    | (with_reducible apply within_flatMap; intro _ _)
    | split
    | dsimp only

theorem frame_execMbCapSet (slot : Fin 17) (s : State) {t : State} (h : execMbCapSet slot s = .next t) :
    SameBut [.fld .PWR_CAP] s t := by
  unfold execMbCapSet at h
  cases h
  refine Eff.Only.same ?_ _
  repeat first
    | with_reducible apply only_mbCommand
    | (with_reducible apply only_fset; decide)
    | with_reducible intro _

theorem frame_execMbEnergyRead (slot : Fin 17) (s : State) {t : State} (h : execMbEnergyRead slot s = .next t) :
    SameBut [.fld .MOD_MB_SUMMARY, .hostOut, .hports, .slots] s t := by
  unfold execMbEnergyRead at h
  cases h
  refine Eff.Only.same ?_ _
  repeat first
    | (with_reducible apply only_rd; intro)
    | with_reducible apply only_mbCommand
    | (with_reducible apply only_mbDoneWith; decide)
    | with_reducible intro _
    | split
    | dsimp only

theorem frame_execMbPstateSet (slot : Fin 17) (tc : Nat) (s : State) {t : State} (h : execMbPstateSet slot tc s = .next t) :
    SameBut [.caches, .cores, .ev, .fld .MOD_MB_SUMMARY, .fld .PST_CORE_PWR_r, .fld .PST_RAMP, .fld .PST_STAT, .fld .SPD_ELASTIC, .fld .TC_NOW,
        .hostOut, .hports, .pst, .slots, .spd, .spdPoison] s t := by
  unfold execMbPstateSet at h
  cases h
  refine Eff.Only.same ?_ _
  repeat first
    | with_reducible exact only_nop _
    | with_reducible exact only_seq_nil _
    | with_reducible apply only_seq_cons
    | (with_reducible apply only_rd; intro)
    | with_reducible apply only_mbCommand
    | (with_reducible apply only_tcTo; decide)
    | (with_reducible apply only_onSlot; decide)
    | (with_reducible apply only_entryAbandoned; decide)
    | (with_reducible apply only_entryCommit; decide)
    | (with_reducible apply only_exitBegin; decide)
    | (with_reducible apply only_mbDone; decide)
    | (with_reducible apply only_mbFail; decide)
    | with_reducible intro _
    | split
    | dsimp only

set_option maxRecDepth 4000 in
theorem frame_execPstateEntryComplete (tc : Nat) (s : State) {t : State} (h : execPstateEntryComplete tc s = .next t) :
    SameBut [.align, .boot, .caches, .cores, .ctl, .dbg, .dec, .dram, .dramPoison, .dramWritten, .ev, .faults, .flasks, .fld .CORE_MOULD,
        .fld .CORE_QSTAT, .fld .CORE_SC, .fld .CORE_SEQ, .fld .CORE_SEQ_ERR, .fld .CORE_STAT, .fld .LDL_CTX_n, .fld .ME_CTL, .fld .ME_ERR,
        .fld .ME_FLAGS, .fld .ME_GATED, .fld .ME_HASH, .fld .ME_LAST_TAG, .fld .ME_STALL, .fld .ME_STAT, .fld .ME_TILES, .fld .MOD_FAULT_STAT,
        .fld .MOD_MB_SUMMARY, .fld .MOD_POUR_ID, .fld .PST_CORE_PWR_r, .fld .PST_PAD_HOLD, .fld .PST_RAMP, .fld .PST_STAT, .fld .QUEUE_BASE,
        .fld .QUEUE_CTL, .fld .QUEUE_DB, .fld .QUEUE_LEVEL, .fld .QUEUE_STAT, .fld .QUEUE_WM, .fld .RUN_ERR, .fld .RUN_STAT, .fld .SAF_STAT,
        .fld .SE_ERR, .fld .SE_FLAGS, .fld .SE_HASH, .fld .SE_SKIPPED, .fld .SE_STALL, .fld .SE_STAT, .fld .SE_TILES, .fld .SPD_CONFLICT,
        .fld .SPD_ECC, .fld .SPD_ECC_ADDR, .fld .SPD_ELASTIC, .fld .SPD_SCRUB_CTL, .fld .SPD_SCRUB_STAT, .fld .SPR_ELASTIC, .fld .SPR_ERR,
        .fld .SPR_SLIP, .fld .SPR_SLIP_INFO, .fld .TC_ALIGN_STAT, .fld .TC_NOW, .fld .VU_ERR, .fld .VU_FLAGS, .fld .VU_SAMP_COUNT,
        .fld .VU_SAMP_LAST, .fld .VU_SAMP_STALL, .fld .VU_STAT, .flds, .gclk, .hostOut, .hports, .ldls, .mes, .msgs, .msix, .pep, .ports, .pour,
        .power, .pst, .queues, .refreshOnly, .refreshed, .rings, .saf, .seam, .ses, .slag, .slots, .spd, .spdPoison, .svc, .vus] s t := by
  unfold execPstateEntryComplete at h
  cases h
  refine Eff.Only.same ?_ _
  repeat first
    | with_reducible exact only_seq_nil _
    | with_reducible apply only_seq_cons
    | (with_reducible apply only_rd; intro)
    | (with_reducible apply only_when; intro)
    | (with_reducible apply only_each; intro _ _)
    | (with_reducible apply only_fset; decide)
    | (with_reducible apply only_raise; decide)
    | (with_reducible apply only_tcTo; decide)
    | (with_reducible apply only_entryEffect; decide)
    | (with_reducible apply only_mbDone; decide)
    | (with_reducible apply only_wakeExit; decide)
    | with_reducible intro _
    | dsimp only

theorem frame_execPstateExit (tc : Nat) (s : State) {t : State} (h : execPstateExit tc s = .next t) :
    SameBut [.ev, .fld .MOD_MB_SUMMARY, .fld .PST_PAD_HOLD, .fld .PST_STAT, .fld .PST_WAKE_STAT, .fld .TC_NOW, .hostOut, .hports, .mes, .ports,
        .pst, .ses, .slots, .vus] s t := by
  unfold execPstateExit at h
  cases h
  refine Eff.Only.same ?_ _
  repeat first
    | with_reducible exact only_seq_nil _
    | with_reducible apply only_seq_cons
    | (with_reducible apply only_rd; intro)
    | (with_reducible apply only_when; intro)
    | (with_reducible apply only_each; intro _ _)
    | (with_reducible apply only_fset; decide)
    | (with_reducible apply only_fadd; decide)
    | (with_reducible apply only_raise; decide)
    | (with_reducible apply only_tcTo; decide)
    | (with_reducible apply only_onPort; decide)
    | (with_reducible apply only_enginesLost; decide)
    | (with_reducible apply only_mbDone; decide)
    | (with_reducible apply only_padOff; decide)
    | with_reducible intro _
    | with_reducible apply only_updates
    | with_reducible exact within_nil _
    | (with_reducible apply within_cons; · exact (by dsimp only [Upd.part]; decide))
    | with_reducible apply within_append
    | (with_reducible apply within_map; intros; exact (by dsimp only [Upd.part]; decide))
    | (with_reducible apply within_flatMap; intro _ _)
    | dsimp only

theorem frame_execPstReadyTimeout (signal : Fin 5) (unit : Nat) (other : Bool) (retryOk : Bool) (s : State) {t : State} (h : execPstReadyTimeout
    signal unit other retryOk s = .next t) :
    SameBut [.cores, .dbg, .ev, .faults, .flasks, .fld .CLK_STOP_STAT, .fld .CLU_CORES, .fld .CORE_MOULD, .fld .CORE_SC, .fld .CORE_SEQ,
        .fld .CORE_STAT, .fld .DBG_HOLD, .fld .LDL_CTX_n, .fld .ME_STAT, .fld .MOD_BOOT_ERR, .fld .MOD_FAULT_STAT, .fld .MOD_GRID_STAT,
        .fld .MOD_MB_SUMMARY, .fld .MOD_ROW_MAP_r, .fld .PST_CORE_PWR_r, .fld .PST_RAMP, .fld .PST_STAT, .fld .QUEUE_BASE, .fld .QUEUE_CTL,
        .fld .QUEUE_DB, .fld .QUEUE_LEVEL, .fld .QUEUE_STAT, .fld .QUEUE_WM, .fld .SE_STAT, .fld .SPD_ELASTIC, .fld .SPD_STAT, .fld .SPR_STAT,
        .fld .VU_STAT, .hostOut, .hports, .ldls, .mes, .msgs, .pst, .queues, .ses, .slag, .slots, .vus] s t := by
  unfold execPstReadyTimeout at h
  cases h
  refine Eff.Only.same ?_ _
  repeat first
    | with_reducible exact only_seq_nil _
    | with_reducible apply only_seq_cons
    | (with_reducible apply only_rd; intro)
    | (with_reducible apply only_when; intro)
    | with_reducible apply only_either
    | (with_reducible apply only_fset; decide)
    | (with_reducible apply only_fbit; decide)
    | (with_reducible apply only_raise; decide)
    | (with_reducible apply only_fatal; decide)
    | (with_reducible apply only_readyFence; decide)
    | with_reducible apply only_updates
    | with_reducible exact within_nil _
    | (with_reducible apply within_cons; · exact (by dsimp only [Upd.part]; decide))
    | with_reducible apply within_append
    | (with_reducible apply within_map; intros; exact (by dsimp only [Upd.part]; decide))
    | (with_reducible apply within_flatMap; intro _ _)
    | split
    | dsimp only

theorem frame_execWakePin (s : State) {t : State} (h : execWakePin s = .next t) :
    SameBut [.fld .PST_CORE_PWR_r, .fld .PST_RAMP, .fld .PST_STAT, .fld .PST_WAKE_STAT, .pst] s t := by
  unfold execWakePin at h
  cases h
  refine Eff.Only.same ?_ _
  repeat first
    | (with_reducible apply only_latchSet; decide)

theorem frame_execWakeTimer (ticks : Nat) (s : State) {t : State} (h : execWakeTimer ticks s = .next t) :
    SameBut [.fld .PST_CORE_PWR_r, .fld .PST_RAMP, .fld .PST_STAT, .fld .PST_TICKS, .fld .PST_WAKE_STAT, .pst] s t := by
  unfold execWakeTimer at h
  cases h
  refine Eff.Only.same ?_ _
  repeat first
    | with_reducible exact only_seq_nil _
    | with_reducible apply only_seq_cons
    | (with_reducible apply only_rd; intro)
    | (with_reducible apply only_when; intro)
    | (with_reducible apply only_fmax; decide)
    | (with_reducible apply only_timerTest; decide)

theorem frame_execWakeI3c (address : Fin 128) (s : State) {t : State} (h : execWakeI3c address s = .next t) :
    SameBut [.fld .PST_CORE_PWR_r, .fld .PST_RAMP, .fld .PST_STAT, .fld .PST_WAKE_STAT, .pst] s t := by
  unfold execWakeI3c at h
  cases h
  refine Eff.Only.same ?_ _
  repeat first
    | (with_reducible apply only_rd; intro)
    | (with_reducible apply only_when; intro)
    | (with_reducible apply only_latchSet; decide)

theorem frame_execWakePerst (port : HostId) (s : State) {t : State} (h : execWakePerst port s = .next t) :
    SameBut [.fld .PST_CORE_PWR_r, .fld .PST_RAMP, .fld .PST_STAT, .fld .PST_WAKE_STAT, .pst] s t := by
  unfold execWakePerst at h
  cases h
  refine Eff.Only.same ?_ _
  repeat first
    | (with_reducible apply only_latchSet; decide)

theorem frame_execWakeHost (wake : Bool) (s : State) {t : State} (h : execWakeHost wake s = .next t) :
    SameBut [.fld .PST_CORE_PWR_r, .fld .PST_RAMP, .fld .PST_STAT, .fld .PST_WAKE_STAT, .pst] s t := by
  unfold execWakeHost at h
  cases h
  refine Eff.Only.same ?_ _
  repeat first
    | (with_reducible apply only_when; intro)
    | (with_reducible apply only_latchSet; decide)

theorem frame_execPstTimerWrite (val : Word) (byteMask : Fin 256) (s : State) {t : State} (h : execPstTimerWrite val byteMask s = .next t) :
    SameBut [.fld .PST_CORE_PWR_r, .fld .PST_RAMP, .fld .PST_STAT, .fld .PST_TIMER, .fld .PST_WAKE_STAT, .pst] s t := by
  unfold execPstTimerWrite at h
  cases h
  refine Eff.Only.same ?_ _
  repeat first
    | with_reducible exact only_seq_nil _
    | with_reducible apply only_seq_cons
    | (with_reducible apply only_regWrite; first | exact .inl ((by decide)) | exact .inr ((by decide)))
    | (with_reducible apply only_timerTest; decide)

theorem frame_execPstWakeEnWrite (val : Word) (byteMask : Fin 256) (s : State) {t : State} (h : execPstWakeEnWrite val byteMask s = .next t) :
    SameBut [.fld .PST_CORE_PWR_r, .fld .PST_RAMP, .fld .PST_STAT, .fld .PST_WAKE_EN, .fld .PST_WAKE_STAT, .pst] s t := by
  unfold execPstWakeEnWrite at h
  cases h
  refine Eff.Only.same ?_ _
  repeat first
    | with_reducible exact only_seq_nil _
    | with_reducible apply only_seq_cons
    | (with_reducible apply only_regWrite; first | exact .inl ((by decide)) | exact .inr ((by decide)))
    | (with_reducible apply only_timerTest; decide)

theorem frame_execXtalFail (s : State) {t : State} (h : execXtalFail s = .next t) :
    SameBut [.fld .PST_STAT] s t := by
  unfold execXtalFail at h
  cases h
  refine Eff.Only.same ?_ _
  repeat first
    | (with_reducible apply only_fset; decide)

theorem frame_execD3hotEntry (port : HostId) (s : State) {t : State} (h : execD3hotEntry port s = .next t) :
    SameBut [.fld .MOD_EVR_TAIL_n, .fld .MOD_HOST_ERR_p, .fld .MOD_HOST_STAT_p, .fld .QUEUE_CTL, .fld .QUEUE_STAT, .hports, .msix, .queues, .rings]
        s t := by
  unfold execD3hotEntry at h
  cases h
  refine Eff.Only.same ?_ _
  repeat first
    | with_reducible exact only_seq_nil _
    | with_reducible apply only_seq_cons
    | (with_reducible apply only_onHport; decide)
    | (with_reducible apply only_portReset; decide)

theorem frame_execReturnToD0 (port : HostId) (s : State) {t : State} (h : execReturnToD0 port s = .next t) :
    SameBut [.fld .MOD_HOST_STAT_p, .hports, .msix] s t := by
  unfold execReturnToD0 at h
  cases h
  refine Eff.Only.same ?_ _
  repeat first
    | with_reducible exact only_seq_nil _
    | with_reducible apply only_seq_cons
    | (with_reducible apply only_rd; intro)
    | (with_reducible apply only_when; intro)
    | (with_reducible apply only_fset; decide)
    | with_reducible apply only_updates
    | with_reducible exact within_nil _
    | (with_reducible apply within_cons; · exact (by dsimp only [Upd.part]; decide))
    | with_reducible apply within_append
    | (with_reducible apply within_map; intros; exact (by dsimp only [Upd.part]; decide))
    | (with_reducible apply within_flatMap; intro _ _)

theorem frame_execTrackGroupFailure (segment : Fin 31) (group : Fin 272) (linkCore : CoreId) (reason : Nat) (s : State) {t : State} (h :
    execTrackGroupFailure segment group linkCore reason s = .next t) :
    SameBut [.cores, .dbg, .ev, .faults, .flasks, .fld .CLU_CORES, .fld .CORE_MOULD, .fld .CORE_SC, .fld .CORE_SEQ, .fld .CORE_STAT, .fld .DBG_HOLD,
        .fld .LDL_CTX_n, .fld .ME_CAP, .fld .ME_STAT, .fld .MOD_BOOT_ERR, .fld .MOD_FAULT_STAT, .fld .MOD_GRID_STAT, .fld .MOD_MB_SUMMARY,
        .fld .MOD_ROW_MAP_r, .fld .PWR_CLUSTER_c, .fld .PWR_TILE_t, .fld .QUEUE_BASE, .fld .QUEUE_CTL, .fld .QUEUE_DB, .fld .QUEUE_LEVEL,
        .fld .QUEUE_STAT, .fld .QUEUE_WM, .fld .RUN_ERR, .fld .RUN_STAT, .fld .SE_STAT, .fld .SPD_ELASTIC, .fld .SPD_STAT, .fld .SPR_STAT,
        .fld .VU_STAT, .hostOut, .hports, .ldls, .mes, .msgs, .ports, .power, .queues, .seam, .ses, .slag, .slots, .vus] s t := by
  unfold execTrackGroupFailure at h
  cases h
  refine Eff.Only.same ?_ _
  repeat first
    | (with_reducible apply only_groupFail; decide)

theorem frame_execTrackGroupSubstitution (segment : Fin 31) (group : Fin 272) (s : State) {t : State} (h : execTrackGroupSubstitution segment group
    s = .next t) :
    SameBut [.ev, .faults, .fld .MOD_FAULT_STAT, .msgs, .seam, .slag] s t := by
  unfold execTrackGroupSubstitution at h
  cases h
  refine Eff.Only.same ?_ _
  repeat first
    | (with_reducible apply only_rd; intro)
    | (with_reducible apply only_when; intro)
    | (with_reducible apply only_groupSub; decide)

theorem frame_execInServiceFence (core : CoreId) (reason : Nat) (agentBad : List Nat) (s : State) {t : State} (h : execInServiceFence core reason
    agentBad s = .next t) :
    SameBut [.cores, .dbg, .ev, .faults, .flasks, .fld .CLU_CORES, .fld .CORE_MOULD, .fld .CORE_SC, .fld .CORE_SEQ, .fld .CORE_STAT, .fld .DBG_HOLD,
        .fld .LDL_CTX_n, .fld .ME_CAP, .fld .ME_STAT, .fld .MOD_BOOT_ERR, .fld .MOD_FAULT_STAT, .fld .MOD_GRID_STAT, .fld .MOD_MB_SUMMARY,
        .fld .MOD_ROW_MAP_r, .fld .PWR_CLUSTER_c, .fld .PWR_TILE_t, .fld .QUEUE_BASE, .fld .QUEUE_CTL, .fld .QUEUE_DB, .fld .QUEUE_LEVEL,
        .fld .QUEUE_STAT, .fld .QUEUE_WM, .fld .RUN_ERR, .fld .RUN_STAT, .fld .SE_STAT, .fld .SPD_ELASTIC, .fld .SPD_STAT, .fld .SPR_STAT,
        .fld .VU_STAT, .hostOut, .hports, .ldls, .mes, .msgs, .ports, .power, .queues, .seam, .ses, .slag, .slots, .vus] s t := by
  unfold execInServiceFence at h
  cases h
  refine Eff.Only.same ?_ _
  repeat first
    | (with_reducible apply only_rd; intro)
    | (with_reducible apply only_fenceCore; decide)
    | (with_reducible apply only_repairAsk; decide)
    | split
    | dsimp only

theorem frame_execFlaskDrain (flask : FlaskId) (tc : Nat) (s : State) {t : State} (h : execFlaskDrain flask tc s = .next t) :
    SameBut [.caches, .cores, .dbg, .dec, .ev, .faults, .flasks, .fld .CLK_PSTEP, .fld .CLU_CORES, .fld .CORE_MOULD, .fld .CORE_SC, .fld .CORE_SEQ,
        .fld .CORE_STAT, .fld .DBG_HOLD, .fld .LDL_CTX_n, .fld .ME_CAP, .fld .ME_STAT, .fld .MOD_BOOT_ERR, .fld .MOD_FAULT_STAT,
        .fld .MOD_GRID_STAT, .fld .MOD_MB_SUMMARY, .fld .MOD_ROW_MAP_r, .fld .PWR_CLUSTER_c, .fld .PWR_RISER_LEAD, .fld .PWR_TILE_t,
        .fld .QUEUE_BASE, .fld .QUEUE_CTL, .fld .QUEUE_DB, .fld .QUEUE_LEVEL, .fld .QUEUE_STAT, .fld .QUEUE_WM, .fld .RUN_ERR, .fld .RUN_STAT,
        .fld .SE_STAT, .fld .SPD_ELASTIC, .fld .SPD_STAT, .fld .SPR_STAT, .fld .TC_NOW, .fld .VU_STAT, .hostOut, .hports, .ldls, .mes, .msgs,
        .ports, .power, .queues, .seam, .ses, .slag, .slots, .vus] s t := by
  unfold execFlaskDrain at h
  cases h
  refine Eff.Only.same ?_ _
  repeat first
    | with_reducible exact only_seq_nil _
    | with_reducible apply only_seq_cons
    | (with_reducible apply only_rd; intro)
    | (with_reducible apply only_when; intro)
    | (with_reducible apply only_raise; decide)
    | (with_reducible apply only_tcTo; decide)
    | (with_reducible apply only_onFlask; decide)
    | (with_reducible apply only_cacheClean; decide)
    | (with_reducible apply only_dropCells; decide)
    | (with_reducible apply only_ldlAbort; decide)
    | (with_reducible apply only_repairs; decide)
    | (with_reducible apply only_valuesReturn; decide)
    | dsimp only

theorem frame_execAutoRepair (kind : Nat) (location : Nat) (reason : Nat) (s : State) {t : State} (h : execAutoRepair kind location reason s = .next
    t) :
    SameBut [.cores, .dbg, .ev, .faults, .flasks, .fld .CLU_CORES, .fld .CORE_MOULD, .fld .CORE_SC, .fld .CORE_SEQ, .fld .CORE_STAT, .fld .DBG_HOLD,
        .fld .LDL_CTX_n, .fld .ME_CAP, .fld .ME_STAT, .fld .MOD_BOOT_ERR, .fld .MOD_FAULT_STAT, .fld .MOD_GRID_STAT, .fld .MOD_MB_SUMMARY,
        .fld .MOD_ROW_MAP_r, .fld .PWR_CLUSTER_c, .fld .PWR_TILE_t, .fld .QUEUE_BASE, .fld .QUEUE_CTL, .fld .QUEUE_DB, .fld .QUEUE_LEVEL,
        .fld .QUEUE_STAT, .fld .QUEUE_WM, .fld .RUN_ERR, .fld .RUN_STAT, .fld .SE_STAT, .fld .SPD_ELASTIC, .fld .SPD_STAT, .fld .SPR_STAT,
        .fld .VU_STAT, .hostOut, .hports, .ldls, .mes, .msgs, .ports, .power, .queues, .seam, .ses, .slag, .slots, .vus] s t := by
  unfold execAutoRepair at h
  cases h
  refine Eff.Only.same ?_ _
  repeat first
    | (with_reducible apply only_autoRepair; decide)

theorem frame_execPendingRepairApply (kind : Nat) (location : Nat) (s : State) {t : State} (h : execPendingRepairApply kind location s = .next t) :
    SameBut [.cores, .dbg, .ev, .faults, .flasks, .fld .CLU_CORES, .fld .CORE_MOULD, .fld .CORE_SC, .fld .CORE_SEQ, .fld .CORE_STAT, .fld .DBG_HOLD,
        .fld .LDL_CTX_n, .fld .ME_CAP, .fld .ME_STAT, .fld .MOD_BOOT_ERR, .fld .MOD_FAULT_STAT, .fld .MOD_GRID_STAT, .fld .MOD_MB_SUMMARY,
        .fld .MOD_ROW_MAP_r, .fld .PWR_CLUSTER_c, .fld .PWR_TILE_t, .fld .QUEUE_BASE, .fld .QUEUE_CTL, .fld .QUEUE_DB, .fld .QUEUE_LEVEL,
        .fld .QUEUE_STAT, .fld .QUEUE_WM, .fld .RUN_ERR, .fld .RUN_STAT, .fld .SE_STAT, .fld .SPD_ELASTIC, .fld .SPD_STAT, .fld .SPR_STAT,
        .fld .VU_STAT, .hostOut, .hports, .ldls, .mes, .msgs, .ports, .power, .queues, .seam, .ses, .slag, .slots, .vus] s t := by
  unfold execPendingRepairApply at h
  cases h
  refine Eff.Only.same ?_ _
  repeat first
    | with_reducible exact only_nop _
    | (with_reducible apply only_rd; intro)
    | (with_reducible apply only_when; intro)
    | (with_reducible apply only_pendingDo; decide)
    | split
    | dsimp only

theorem frame_execMbFence (slot : Fin 17) (s : State) {t : State} (h : execMbFence slot s = .next t) :
    SameBut [.cores, .dbg, .ev, .faults, .flasks, .fld .CLU_CORES, .fld .CORE_MOULD, .fld .CORE_SC, .fld .CORE_SEQ, .fld .CORE_STAT, .fld .DBG_HOLD,
        .fld .LDL_CTX_n, .fld .ME_CAP, .fld .ME_STAT, .fld .MOD_BOOT_ERR, .fld .MOD_FAULT_STAT, .fld .MOD_GRID_STAT, .fld .MOD_MB_SUMMARY,
        .fld .MOD_ROW_MAP_r, .fld .PWR_CLUSTER_c, .fld .PWR_TILE_t, .fld .QUEUE_BASE, .fld .QUEUE_CTL, .fld .QUEUE_DB, .fld .QUEUE_LEVEL,
        .fld .QUEUE_STAT, .fld .QUEUE_WM, .fld .RUN_ERR, .fld .RUN_LANE_l, .fld .RUN_STAT, .fld .SE_STAT, .fld .SPD_ELASTIC, .fld .SPD_STAT,
        .fld .SPR_STAT, .fld .VU_STAT, .hostOut, .hports, .ldls, .mes, .msgs, .ports, .power, .queues, .seam, .ses, .slag, .slots, .vus] s t := by
  unfold execMbFence at h
  cases h
  refine Eff.Only.same ?_ _
  repeat first
    | (with_reducible apply only_rd; intro)
    | with_reducible apply only_mbCommand
    | (with_reducible apply only_fenceDone; decide)
    | (with_reducible apply only_fenceStart; decide)
    | (with_reducible apply only_mbFail; decide)
    | (with_reducible apply only_repairs; decide)
    | with_reducible intro _
    | split
    | dsimp only

theorem frame_execCulpritWindowClose (index : Fin 64) (tc : Nat) (s : State) {t : State} (h : execCulpritWindowClose index tc s = .next t) :
    SameBut [.ev, .faults, .fld .MOD_FAULT_STAT, .fld .TC_NOW] s t := by
  unfold execCulpritWindowClose at h
  cases h
  refine Eff.Only.same ?_ _
  repeat first
    | with_reducible exact only_nop _
    | with_reducible exact only_seq_nil _
    | with_reducible apply only_seq_cons
    | (with_reducible apply only_rd; intro)
    | (with_reducible apply only_when; intro)
    | with_reducible apply only_either
    | (with_reducible apply only_fsat; decide)
    | (with_reducible apply only_tcTo; decide)
    | (with_reducible apply only_windowsOpen; decide)
    | with_reducible apply only_updates
    | with_reducible exact within_nil _
    | (with_reducible apply within_cons; · exact (by dsimp only [Upd.part]; decide))
    | with_reducible apply within_append
    | (with_reducible apply within_map; intros; exact (by dsimp only [Upd.part]; decide))
    | (with_reducible apply within_flatMap; intro _ _)
    | split
    | dsimp only

theorem frame_execWearMonitor (unit : WearUnit) (value : Nat) (tc : Nat) (s : State) {t : State} (h : execWearMonitor unit value tc s = .next t) :
    SameBut [.cores, .dbg, .ev, .faults, .flasks, .fld .CLU_CORES, .fld .CORE_MOULD, .fld .CORE_SC, .fld .CORE_SEQ, .fld .CORE_STAT, .fld .DBG_HOLD,
        .fld .LDL_CTX_n, .fld .ME_CAP, .fld .ME_STAT, .fld .MOD_BOOT_ERR, .fld .MOD_FAULT_STAT, .fld .MOD_GRID_STAT, .fld .MOD_MB_SUMMARY,
        .fld .MOD_ROW_MAP_r, .fld .PWR_CLUSTER_c, .fld .PWR_TILE_t, .fld .QUEUE_BASE, .fld .QUEUE_CTL, .fld .QUEUE_DB, .fld .QUEUE_LEVEL,
        .fld .QUEUE_STAT, .fld .QUEUE_WM, .fld .RUN_ERR, .fld .RUN_STAT, .fld .SE_STAT, .fld .SPD_ELASTIC, .fld .SPD_STAT, .fld .SPR_STAT,
        .fld .TC_NOW, .fld .VU_STAT, .hostOut, .hports, .ldls, .mes, .msgs, .ports, .power, .queues, .seam, .ses, .slag, .slots, .vus] s t := by
  unfold execWearMonitor at h
  cases h
  refine Eff.Only.same ?_ _
  repeat first
    | with_reducible exact only_seq_nil _
    | with_reducible apply only_seq_cons
    | (with_reducible apply only_rd; intro)
    | (with_reducible apply only_when; intro)
    | with_reducible apply only_either
    | (with_reducible apply only_fset; decide)
    | (with_reducible apply only_raise; decide)
    | (with_reducible apply only_tcTo; decide)
    | (with_reducible apply only_autoRepair; decide)
    | (with_reducible apply only_groupFail; decide)
    | (with_reducible apply only_laneFail; decide)
    | (with_reducible apply only_repairDo; decide)
    | (with_reducible apply only_wearWarn; decide)
    | split
    | dsimp only

theorem frame_execPortEnable (port : PortId) (signal : Bool) (tc : Nat) (s : State) {t : State} (h : execPortEnable port signal tc s = .next t) :
    SameBut [.fld .MOD_MB_SUMMARY, .fld .RUN_STAT, .fld .TC_NOW, .hostOut, .hports, .ports, .slots] s t := by
  unfold execPortEnable at h
  cases h
  refine Eff.Only.same ?_ _
  repeat first
    | with_reducible exact only_seq_nil _
    | with_reducible apply only_seq_cons
    | (with_reducible apply only_rd; intro)
    | (with_reducible apply only_when; intro)
    | (with_reducible apply only_tcTo; decide)
    | (with_reducible apply only_onPort; decide)
    | (with_reducible apply only_portTo; decide)

theorem frame_execSignalDetected (port : PortId) (tc : Nat) (s : State) {t : State} (h : execSignalDetected port tc s = .next t) :
    SameBut [.fld .MOD_MB_SUMMARY, .fld .RUN_STAT, .fld .TC_NOW, .hostOut, .hports, .ports, .slots] s t := by
  unfold execSignalDetected at h
  cases h
  refine Eff.Only.same ?_ _
  repeat first
    | with_reducible exact only_seq_nil _
    | with_reducible apply only_seq_cons
    | (with_reducible apply only_rd; intro)
    | (with_reducible apply only_when; intro)
    | (with_reducible apply only_tcTo; decide)
    | (with_reducible apply only_portTo; decide)

theorem frame_execTrainComplete (port : PortId) (ok : Bool) (tc : Nat) (s : State) {t : State} (h : execTrainComplete port ok tc s = .next t) :
    SameBut [.align, .ctl, .fld .MOD_MB_SUMMARY, .fld .MOD_POUR_ID, .fld .RUN_STAT, .fld .TC_ALIGN_STAT, .fld .TC_NOW, .hostOut, .hports, .msgs,
        .ports, .pour, .slots] s t := by
  unfold execTrainComplete at h
  cases h
  refine Eff.Only.same ?_ _
  repeat first
    | with_reducible exact only_seq_nil _
    | with_reducible apply only_seq_cons
    | (with_reducible apply only_tcTo; decide)
    | (with_reducible apply only_attemptStep; decide)
    | dsimp only

theorem frame_execLockComplete (port : PortId) (ok : Bool) (tc : Nat) (s : State) {t : State} (h : execLockComplete port ok tc s = .next t) :
    SameBut [.align, .ctl, .fld .MOD_MB_SUMMARY, .fld .MOD_POUR_ID, .fld .RUN_STAT, .fld .TC_ALIGN_STAT, .fld .TC_NOW, .hostOut, .hports, .msgs,
        .ports, .pour, .slots] s t := by
  unfold execLockComplete at h
  cases h
  refine Eff.Only.same ?_ _
  repeat first
    | with_reducible exact only_seq_nil _
    | with_reducible apply only_seq_cons
    | (with_reducible apply only_tcTo; decide)
    | (with_reducible apply only_attemptStep; decide)
    | dsimp only

theorem frame_execQualifyWindowEnd (port : PortId) (windows : List LaneWindow) (tc : Nat) (s : State) {t : State} (h : execQualifyWindowEnd port
    windows tc s = .next t) :
    SameBut [.align, .ctl, .ev, .faults, .flasks, .fld .MOD_FAULT_STAT, .fld .MOD_MB_SUMMARY, .fld .MOD_POUR_ID, .fld .RUN_ERR, .fld .RUN_LANE_l,
        .fld .RUN_STAT, .fld .TC_ALIGN_STAT, .fld .TC_NOW, .hostOut, .hports, .msgs, .ports, .pour, .slag, .slots] s t := by
  unfold execQualifyWindowEnd at h
  cases h
  refine Eff.Only.same ?_ _
  repeat first
    | with_reducible exact only_seq_nil _
    | with_reducible apply only_seq_cons
    | (with_reducible apply only_rd; intro)
    | (with_reducible apply only_when; intro)
    | (with_reducible apply only_tcTo; decide)
    | (with_reducible apply only_laneRegs; decide)
    | (with_reducible apply only_qualified; decide)
    | (with_reducible apply only_windowInUp; decide)
    | split
    | dsimp only

theorem frame_execLaneLockLoss (port : PortId) (lane : Fin 5) (beyond : Bool) (tc : Nat) (s : State) {t : State} (h : execLaneLockLoss port lane
    beyond tc s = .next t) :
    SameBut [.align, .ctl, .ev, .faults, .flasks, .fld .MOD_FAULT_STAT, .fld .MOD_MB_SUMMARY, .fld .MOD_POUR_ID, .fld .RUN_ERR, .fld .RUN_STAT,
        .fld .TC_ALIGN_STAT, .fld .TC_NOW, .hostOut, .hports, .msgs, .ports, .pour, .slots] s t := by
  unfold execLaneLockLoss at h
  cases h
  refine Eff.Only.same ?_ _
  repeat first
    | with_reducible exact only_nop _
    | with_reducible exact only_seq_nil _
    | with_reducible apply only_seq_cons
    | (with_reducible apply only_rd; intro)
    | (with_reducible apply only_tcTo; decide)
    | (with_reducible apply only_attemptFail; decide)
    | (with_reducible apply only_laneFail; decide)
    | (with_reducible apply only_leaveUp; decide)
    | split
    | dsimp only

theorem frame_execLaneSwap (port : PortId) (lane : Fin 4) (target : Nat) (sender : Nat) (s : State) {t : State} (h : execLaneSwap port lane target
    sender s = .next t) :
    SameBut [.ev, .faults, .flasks, .fld .MOD_FAULT_STAT, .fld .MOD_MB_SUMMARY, .fld .RUN_ERR, .fld .RUN_STAT, .hostOut, .hports, .msgs, .ports,
        .slots] s t := by
  unfold execLaneSwap at h
  cases h
  refine Eff.Only.same ?_ _
  repeat first
    | with_reducible exact only_seq_nil _
    | with_reducible apply only_seq_cons
    | (with_reducible apply only_rd; intro)
    | (with_reducible apply only_when; intro)
    | (with_reducible apply only_send; decide)
    | (with_reducible apply only_onPort; decide)
    | (with_reducible apply only_leaveUp; decide)
    | split
    | dsimp only

theorem frame_execLaneSwapAck (port : PortId) (lane : Fin 4) (target : Nat) (s : State) {t : State} (h : execLaneSwapAck port lane target s = .next
    t) :
    SameBut [.ports] s t := by
  unfold execLaneSwapAck at h
  cases h
  refine Eff.Only.same ?_ _
  repeat first
    | with_reducible exact only_nop _
    | (with_reducible apply only_rd; intro)
    | (with_reducible apply only_when; intro)
    | (with_reducible apply only_onPort; decide)
    | split
    | dsimp only

theorem frame_execLaneSwapApply (port : PortId) (s : State) {t : State} (h : execLaneSwapApply port s = .next t) :
    SameBut [.ev, .faults, .fld .MOD_FAULT_STAT, .fld .RUN_ERR, .fld .RUN_LANE_l, .fld .RUN_STAT, .msgs, .ports, .slag] s t := by
  unfold execLaneSwapApply at h
  cases h
  refine Eff.Only.same ?_ _
  repeat first
    | with_reducible exact only_nop _
    | (with_reducible apply only_rd; intro)
    | (with_reducible apply only_when; intro)
    | (with_reducible apply only_laneSpared; decide)
    | split
    | dsimp only

theorem frame_execLaneSwapAbandon (port : PortId) (s : State) {t : State} (h : execLaneSwapAbandon port s = .next t) :
    SameBut [.ev, .faults, .flasks, .fld .MOD_FAULT_STAT, .fld .MOD_MB_SUMMARY, .fld .RUN_ERR, .fld .RUN_STAT, .hostOut, .hports, .msgs, .ports,
        .slots] s t := by
  unfold execLaneSwapAbandon at h
  cases h
  refine Eff.Only.same ?_ _
  repeat first
    | with_reducible exact only_nop _
    | (with_reducible apply only_rd; intro)
    | (with_reducible apply only_when; intro)
    | (with_reducible apply only_leaveUp; decide)
    | split
    | dsimp only

theorem frame_execKeyOffer (port : PortId) (offer : KeyOffer) (tc : Nat) (s : State) {t : State} (h : execKeyOffer port offer tc s = .next t) :
    SameBut [.ev, .faults, .flasks, .fld .MOD_FAULT_STAT, .fld .MOD_MB_SUMMARY, .fld .RUN_ERR, .fld .RUN_STAT, .fld .SAF_ERR, .fld .TC_NOW,
        .hostOut, .hports, .msgs, .ports, .slots] s t := by
  unfold execKeyOffer at h
  cases h
  refine Eff.Only.same ?_ _
  repeat first
    | with_reducible exact only_seq_nil _
    | with_reducible apply only_seq_cons
    | (with_reducible apply only_rd; intro)
    | (with_reducible apply only_when; intro)
    | (with_reducible apply only_tcTo; decide)
    | (with_reducible apply only_keyOffer; decide)
    | (with_reducible apply only_rekeyOffer; decide)
    | split

theorem frame_execKeyAccept (port : PortId) (startSeq : Nat) (macOk : Bool) (s : State) {t : State} (h : execKeyAccept port startSeq macOk s = .next
    t) :
    SameBut [.ev, .faults, .flasks, .fld .MOD_FAULT_STAT, .fld .MOD_MB_SUMMARY, .fld .RUN_ERR, .fld .RUN_STAT, .fld .SAF_ERR, .hostOut, .hports,
        .msgs, .ports, .slots] s t := by
  unfold execKeyAccept at h
  cases h
  refine Eff.Only.same ?_ _
  repeat first
    | with_reducible exact only_seq_nil _
    | with_reducible apply only_seq_cons
    | (with_reducible apply only_rd; intro)
    | (with_reducible apply only_when; intro)
    | with_reducible apply only_either
    | (with_reducible apply only_fset; decide)
    | (with_reducible apply only_keyRefuse; decide)
    | (with_reducible apply only_onKeys; decide)
    | dsimp only

theorem frame_execKeyExchangeTimeout (port : PortId) (tc : Nat) (s : State) {t : State} (h : execKeyExchangeTimeout port tc s = .next t) :
    SameBut [.ev, .faults, .flasks, .fld .MOD_FAULT_STAT, .fld .MOD_MB_SUMMARY, .fld .RUN_ERR, .fld .RUN_STAT, .fld .TC_NOW, .hostOut, .hports,
        .msgs, .ports, .slots] s t := by
  unfold execKeyExchangeTimeout at h
  cases h
  refine Eff.Only.same ?_ _
  repeat first
    | with_reducible exact only_seq_nil _
    | with_reducible apply only_seq_cons
    | (with_reducible apply only_rd; intro)
    | (with_reducible apply only_when; intro)
    | with_reducible apply only_either
    | (with_reducible apply only_send; decide)
    | (with_reducible apply only_tcTo; decide)
    | (with_reducible apply only_leaveUp; decide)
    | (with_reducible apply only_onKeys; decide)
    | dsimp only

theorem frame_execRekeyTimer (port : PortId) (tc : Nat) (s : State) {t : State} (h : execRekeyTimer port tc s = .next t) :
    SameBut [.fld .TC_NOW, .msgs, .ports] s t := by
  unfold execRekeyTimer at h
  cases h
  refine Eff.Only.same ?_ _
  repeat first
    | with_reducible exact only_seq_nil _
    | with_reducible apply only_seq_cons
    | (with_reducible apply only_rd; intro)
    | (with_reducible apply only_when; intro)
    | (with_reducible apply only_send; decide)
    | (with_reducible apply only_tcTo; decide)
    | (with_reducible apply only_onKeys; decide)
    | dsimp only

theorem frame_execMbScanOut (slot : Fin 17) (s : State) {t : State} (h : execMbScanOut slot s = .next t) :
    SameBut [.caches, .cores, .dram, .dramPoison, .dramWritten, .fld .CCH_HITS, .fld .CCH_MISSES, .fld .MOD_MB_SUMMARY, .fld .SPD_ELASTIC, .hostOut,
        .hports, .slots, .spd, .spdPoison] s t := by
  unfold execMbScanOut at h
  cases h
  refine Eff.Only.same ?_ _
  repeat first
    | (with_reducible apply only_rd; intro)
    | with_reducible apply only_mbCommand
    | (with_reducible apply only_mbFail; decide)
    | (with_reducible apply only_scanOutCmd; decide)
    | with_reducible intro _
    | split
    | dsimp only

theorem frame_execMbFlaskDrain (slot : Fin 17) (s : State) {t : State} (h : execMbFlaskDrain slot s = .next t) :
    SameBut [.caches, .cores, .dram, .dramPoison, .dramWritten, .fld .CCH_HITS, .fld .CCH_MISSES, .fld .MOD_MB_SUMMARY, .fld .SPD_ELASTIC, .hostOut,
        .hports, .slots, .spd, .spdPoison] s t := by
  unfold execMbFlaskDrain at h
  cases h
  refine Eff.Only.same ?_ _
  repeat first
    | (with_reducible apply only_rd; intro)
    | (with_reducible apply only_when; intro)
    | with_reducible apply only_mbCommand
    | (with_reducible apply only_mbFail; decide)
    | (with_reducible apply only_scanOutCmd; decide)
    | with_reducible intro _
    | split
    | dsimp only

theorem frame_execMbScanIn (slot : Fin 17) (s : State) {t : State} (h : execMbScanIn slot s = .next t) :
    SameBut [.cores, .ev, .flasks, .fld .CORE_SC, .fld .CORE_SEQ, .fld .CORE_STAT, .fld .ME_CTL, .fld .MOD_MB_SUMMARY, .fld .SPD_ELASTIC,
        .fld .SPD_SCRUB_CTL, .fld .SPR_STAT, .hostOut, .hports, .mes, .msgs, .pour, .queues, .ses, .slots, .spd, .spdPoison, .vus] s t := by
  unfold execMbScanIn at h
  cases h
  refine Eff.Only.same ?_ _
  repeat first
    | with_reducible exact only_seq_nil _
    | with_reducible apply only_seq_cons
    | (with_reducible apply only_rd; intro)
    | with_reducible apply only_mbCommand
    | (with_reducible apply only_mbDone; decide)
    | (with_reducible apply only_mbFail; decide)
    | (with_reducible apply only_readyAgain; decide)
    | (with_reducible apply only_readyReport; decide)
    | (with_reducible apply only_scanIn; decide)
    | with_reducible intro _
    | split
    | dsimp only

theorem frame_execElasticAccessTimeout (core : CoreId) (op : AccessOp) (s : State) {t : State} (h : execElasticAccessTimeout core op s = .next t) :
    SameBut [.ev, .fld .SPD_ELASTIC, .resp] s t := by
  unfold execElasticAccessTimeout at h
  cases h
  refine Eff.Only.same ?_ _
  repeat first
    | with_reducible exact only_seq_nil _
    | with_reducible apply only_seq_cons
    | (with_reducible apply only_rd; intro)
    | (with_reducible apply only_fset; decide)
    | (with_reducible apply only_fsat; decide)
    | (with_reducible apply only_raise; decide)
    | (with_reducible apply only_answer; decide)
    | split
    | dsimp only

theorem frame_execGatherFlush (core : CoreId) (line : Nat) (s : State) {t : State} (h : execGatherFlush core line s = .next t) :
    SameBut [.cores, .fld .SPD_ELASTIC, .spd, .spdPoison] s t := by
  unfold execGatherFlush at h
  cases h
  refine Eff.Only.same ?_ _
  repeat first
    | (with_reducible apply only_gatherFlush; decide)

theorem frame_execEccWriteBack (core : CoreId) (line : Nat) (s : State) {t : State} (h : execEccWriteBack core line s = .next t) :
    SameBut [.cores] s t := by
  unfold execEccWriteBack at h
  cases h
  refine Eff.Only.same ?_ _
  repeat first
    | (with_reducible apply only_rd; intro)
    | (with_reducible apply only_when; intro)
    | (with_reducible apply only_onCore; decide)

theorem frame_execRowSubstitution (core : CoreId) (bank : Fin 64) (row : Nat) (reason : Nat) (s : State) {t : State} (h : execRowSubstitution core
    bank row reason s = .next t) :
    SameBut [.cores, .dbg, .ev, .faults, .flasks, .fld .CLU_CORES, .fld .CORE_MOULD, .fld .CORE_SC, .fld .CORE_SEQ, .fld .CORE_STAT, .fld .DBG_HOLD,
        .fld .LDL_CTX_n, .fld .ME_STAT, .fld .MOD_BOOT_ERR, .fld .MOD_FAULT_STAT, .fld .MOD_GRID_STAT, .fld .MOD_MB_SUMMARY, .fld .MOD_ROW_MAP_r,
        .fld .QUEUE_BASE, .fld .QUEUE_CTL, .fld .QUEUE_DB, .fld .QUEUE_LEVEL, .fld .QUEUE_STAT, .fld .QUEUE_WM, .fld .SE_STAT, .fld .SPD_ELASTIC,
        .fld .SPD_STAT, .fld .SPR_STAT, .fld .VU_STAT, .hostOut, .hports, .ldls, .mes, .msgs, .queues, .ses, .slag, .slots, .vus] s t := by
  unfold execRowSubstitution at h
  cases h
  refine Eff.Only.same ?_ _
  repeat first
    | (with_reducible apply only_rd; intro)
    | (with_reducible apply only_when; intro)
    | (with_reducible apply only_substituteRow; decide)

theorem frame_execScrubRow (core : CoreId) (finding : ScrubFinding) (s : State) {t : State} (h : execScrubRow core finding s = .next t) :
    SameBut [.cores, .dbg, .ev, .faults, .flasks, .fld .CORE_MOULD, .fld .CORE_SC, .fld .CORE_SEQ, .fld .CORE_STAT, .fld .DBG_HOLD, .fld .LDL_CTX_n,
        .fld .ME_STAT, .fld .MOD_FAULT_STAT, .fld .MOD_GRID_STAT, .fld .MOD_MB_SUMMARY, .fld .QUEUE_BASE, .fld .QUEUE_CTL, .fld .QUEUE_DB,
        .fld .QUEUE_LEVEL, .fld .QUEUE_STAT, .fld .QUEUE_WM, .fld .SE_STAT, .fld .SPD_ECC, .fld .SPD_ECC_ADDR, .fld .SPD_SCRUB_STAT, .fld .SPD_STAT,
        .fld .SPR_STAT, .fld .VU_STAT, .hostOut, .hports, .ldls, .mes, .msgs, .queues, .ses, .slots, .spdPoison, .vus] s t := by
  unfold execScrubRow at h
  cases h
  refine Eff.Only.same ?_ _
  repeat first
    | with_reducible exact only_seq_nil _
    | with_reducible apply only_seq_cons
    | (with_reducible apply only_rd; intro)
    | (with_reducible apply only_when; intro)
    | with_reducible apply only_either
    | (with_reducible apply only_fset; decide)
    | (with_reducible apply only_fadd; decide)
    | (with_reducible apply only_fsat; decide)
    | (with_reducible apply only_onCore; decide)
    | (with_reducible apply only_spareMin; decide)
    | (with_reducible apply only_spdCorrected; decide)
    | (with_reducible apply only_spdUncorrected; decide)
    | split
    | dsimp only

theorem frame_execZeroingComplete (core : CoreId) (s : State) {t : State} (h : execZeroingComplete core s = .next t) :
    SameBut [.fld .CORE_STAT, .fld .MOD_MB_SUMMARY, .fld .SPD_STAT, .hostOut, .hports, .slots, .spd, .spdPoison] s t := by
  unfold execZeroingComplete at h
  cases h
  refine Eff.Only.same ?_ _
  repeat first
    | with_reducible exact only_seq_nil _
    | with_reducible apply only_seq_cons
    | (with_reducible apply only_rd; intro)
    | (with_reducible apply only_when; intro)
    | (with_reducible apply only_fset; decide)
    | (with_reducible apply only_spdZero; decide)
    | (with_reducible apply only_zeroingWaiters; decide)
    | dsimp only

theorem frame_execCacheAccess (off : Nat) (write : Option (List Byte)) (fault : CacheFault) (s : State) {t : State} (h : execCacheAccess off write
    fault s = .next t) :
    SameBut [.caches, .cores, .dbg, .dram, .dramPoison, .dramWritten, .ev, .faults, .flasks, .fld .CCH_ECC, .fld .CCH_HBM, .fld .CCH_HBM_ERR,
        .fld .CCH_HITS, .fld .CCH_MISSES, .fld .CORE_MOULD, .fld .CORE_SC, .fld .CORE_SEQ, .fld .CORE_STAT, .fld .DBG_HOLD, .fld .LDL_CTX_n,
        .fld .ME_STAT, .fld .MOD_FAULT_STAT, .fld .MOD_GRID_STAT, .fld .MOD_MB_SUMMARY, .fld .QUEUE_BASE, .fld .QUEUE_CTL, .fld .QUEUE_DB,
        .fld .QUEUE_LEVEL, .fld .QUEUE_STAT, .fld .QUEUE_WM, .fld .SE_STAT, .fld .SPR_STAT, .fld .VU_STAT, .hostOut, .hports, .ldls, .mes, .msgs,
        .queues, .resp, .ses, .slots, .vus] s t := by
  unfold execCacheAccess at h
  cases h
  refine Eff.Only.same ?_ _
  repeat first
    | with_reducible exact only_nop _
    | with_reducible exact only_seq_nil _
    | with_reducible apply only_seq_cons
    | (with_reducible apply only_rd; intro)
    | (with_reducible apply only_when; intro)
    | (with_reducible apply only_answer; decide)
    | (with_reducible apply only_cchCorrected; decide)
    | (with_reducible apply only_cchUncorrected; decide)
    | (with_reducible apply only_dramRead; decide)
    | (with_reducible apply only_dramWrite; decide)
    | (with_reducible apply only_hbmCorrected; decide)
    | (with_reducible apply only_hbmUncorrected; decide)
    | split
    | dsimp only

theorem frame_execPrefetchIssue (cluster : ClusterId) (engine : LdlId) (ctx : Fin 4) (s : State) {t : State} (h : execPrefetchIssue cluster engine
    ctx s = .next t) :
    SameBut [.caches, .fld .CCH_PF] s t := by
  unfold execPrefetchIssue at h
  cases h
  refine Eff.Only.same ?_ _
  repeat first
    | with_reducible exact only_nop _
    | with_reducible exact only_seq_nil _
    | with_reducible apply only_seq_cons
    | (with_reducible apply only_rd; intro)
    | (with_reducible apply only_fadd; decide)
    | (with_reducible apply only_fsat; decide)
    | (with_reducible apply only_onCache; decide)
    | with_reducible apply only_updates
    | with_reducible exact within_nil _
    | (with_reducible apply within_cons; · exact (by dsimp only [Upd.part]; decide))
    | with_reducible apply within_append
    | (with_reducible apply within_map; intros; exact (by dsimp only [Upd.part]; decide))
    | (with_reducible apply within_flatMap; intro _ _)
    | split
    | dsimp only

theorem frame_execHbmRefresh (stack : Fin 20) (channel : Fin 64) (bank : Fin 64) (tc : Nat) (s : State) {t : State} (h : execHbmRefresh stack
    channel bank tc s = .next t) :
    SameBut [.fld .TC_NOW, .refreshed] s t := by
  unfold execHbmRefresh at h
  cases h
  refine Eff.Only.same ?_ _
  repeat first
    | with_reducible exact only_seq_nil _
    | with_reducible apply only_seq_cons
    | (with_reducible apply only_rd; intro)
    | (with_reducible apply only_tcTo; decide)
    | with_reducible apply only_updates
    | with_reducible exact within_nil _
    | (with_reducible apply within_cons; · exact (by dsimp only [Upd.part]; decide))
    | with_reducible apply within_append
    | (with_reducible apply within_map; intros; exact (by dsimp only [Upd.part]; decide))
    | (with_reducible apply within_flatMap; intro _ _)

theorem frame_execHbmTempSample (stack : Fin 20) (temp : Fin 256) (s : State) {t : State} (h : execHbmTempSample stack temp s = .next t) :
    SameBut [.dbg, .ev, .faults, .flasks, .fld .CCH_HBM, .fld .CORE_STAT, .fld .DBG_HOLD, .fld .MOD_FAULT_STAT, .fld .MOD_MB_SUMMARY,
        .fld .SPR_STAT, .hostOut, .hports, .msgs, .refreshOnly, .slots] s t := by
  unfold execHbmTempSample at h
  cases h
  refine Eff.Only.same ?_ _
  repeat first
    | with_reducible exact only_seq_nil _
    | with_reducible apply only_seq_cons
    | (with_reducible apply only_rd; intro)
    | (with_reducible apply only_when; intro)
    | (with_reducible apply only_fset; decide)
    | (with_reducible apply only_fput; decide)
    | (with_reducible apply only_raise; decide)
    | (with_reducible apply only_fatal; decide)
    | with_reducible apply only_updates
    | with_reducible exact within_nil _
    | (with_reducible apply within_cons; · exact (by dsimp only [Upd.part]; decide))
    | with_reducible apply within_append
    | (with_reducible apply within_map; intros; exact (by dsimp only [Upd.part]; decide))
    | (with_reducible apply within_flatMap; intro _ _)
    | split
    | dsimp only

theorem frame_execHbmPatrol (stack : Fin 20) (findings : List (Nat × Bool)) (s : State) {t : State} (h : execHbmPatrol stack findings s = .next t) :
    SameBut [.cores, .dbg, .dramPoison, .dramWritten, .ev, .faults, .flasks, .fld .CCH_HBM, .fld .CCH_HBM_ERR, .fld .CORE_MOULD, .fld .CORE_SC,
        .fld .CORE_SEQ, .fld .CORE_STAT, .fld .DBG_HOLD, .fld .LDL_CTX_n, .fld .ME_STAT, .fld .MOD_FAULT_STAT, .fld .MOD_GRID_STAT,
        .fld .MOD_MB_SUMMARY, .fld .QUEUE_BASE, .fld .QUEUE_CTL, .fld .QUEUE_DB, .fld .QUEUE_LEVEL, .fld .QUEUE_STAT, .fld .QUEUE_WM, .fld .SE_STAT,
        .fld .SPR_STAT, .fld .VU_STAT, .hostOut, .hports, .ldls, .mes, .msgs, .queues, .ses, .slots, .vus] s t := by
  unfold execHbmPatrol at h
  cases h
  refine Eff.Only.same ?_ _
  repeat first
    | with_reducible apply only_either
    | (with_reducible apply only_each; intro _ _)
    | (with_reducible apply only_hbmCorrected; decide)
    | (with_reducible apply only_hbmUncorrected; decide)
    | with_reducible intro _

theorem frame_execMbWeightKeyLoad (slot : Fin 17) (verified : Bool) (s : State) {t : State} (h : execMbWeightKeyLoad slot verified s = .next t) :
    SameBut [.ev, .flasks, .fld .MOD_MB_SUMMARY, .fld .SAF_ERR, .fld .SAF_KEYS, .fld .SAF_STAT, .hostOut, .hports, .saf, .slots] s t := by
  unfold execMbWeightKeyLoad at h
  cases h
  refine Eff.Only.same ?_ _
  repeat first
    | with_reducible exact only_seq_nil _
    | with_reducible apply only_seq_cons
    | (with_reducible apply only_rd; intro)
    | with_reducible apply only_mbCommand
    | (with_reducible apply only_fset; decide)
    | (with_reducible apply only_raise; decide)
    | (with_reducible apply only_mbDone; decide)
    | (with_reducible apply only_mbFail; decide)
    | (with_reducible apply only_mouldKeyChange; decide)
    | (with_reducible apply only_weightInstall; decide)
    | with_reducible intro _
    | split
    | dsimp only

theorem frame_execTamperSensor (sensor : Fin 8) (inputPower : Bool) (seconds : Nat) (s : State) {t : State} (h : execTamperSensor sensor inputPower
    seconds s = .next t) :
    SameBut [.caches, .cores, .dbg, .ev, .faults, .flasks, .fld .CORE_MOULD, .fld .CORE_SC, .fld .CORE_SEQ, .fld .CORE_STAT, .fld .DBG_HOLD,
        .fld .DBG_STAT, .fld .LDL_CTX_n, .fld .ME_STAT, .fld .MOD_APERTURE_CTL, .fld .MOD_FAULT_STAT, .fld .MOD_GRID_STAT, .fld .MOD_MB_SUMMARY,
        .fld .QUEUE_BASE, .fld .QUEUE_CTL, .fld .QUEUE_DB, .fld .QUEUE_LEVEL, .fld .QUEUE_STAT, .fld .QUEUE_WM, .fld .SAF_SECONDS, .fld .SAF_STAT,
        .fld .SAF_TAMPER, .fld .SE_STAT, .fld .SPR_STAT, .fld .VU_STAT, .hostOut, .hports, .ldls, .mes, .msgs, .queues, .saf, .ses, .slots, .vus] s
        t := by
  unfold execTamperSensor at h
  cases h
  refine Eff.Only.same ?_ _
  repeat first
    | with_reducible exact only_seq_nil _
    | with_reducible apply only_seq_cons
    | (with_reducible apply only_rd; intro)
    | (with_reducible apply only_when; intro)
    | (with_reducible apply only_each; intro _ _)
    | (with_reducible apply only_fset; decide)
    | (with_reducible apply only_fbit; decide)
    | (with_reducible apply only_raise; decide)
    | (with_reducible apply only_grantEnds; decide)
    | (with_reducible apply only_keysZeroised; decide)
    | (with_reducible apply only_mbFail; decide)
    | (with_reducible apply only_secondsTo; decide)
    | (with_reducible apply only_tamperLog; decide)
    | with_reducible intro _
    | dsimp only

theorem frame_execTamperSensorDeassert (sensor : Fin 8) (s : State) {t : State} (h : execTamperSensorDeassert sensor s = .next t) :
    SameBut [.fld .SAF_TAMPER] s t := by
  unfold execTamperSensorDeassert at h
  cases h
  refine Eff.Only.same ?_ _
  repeat first
    | (with_reducible apply only_when; intro)
    | (with_reducible apply only_fbit; decide)

theorem frame_execMbTamperAck (slot : Fin 17) (s : State) {t : State} (h : execMbTamperAck slot s = .next t) :
    SameBut [.fld .MOD_MB_SUMMARY, .fld .SAF_STAT, .fld .SAF_TAMPER, .hostOut, .hports, .saf, .slots] s t := by
  unfold execMbTamperAck at h
  cases h
  refine Eff.Only.same ?_ _
  repeat first
    | with_reducible exact only_seq_nil _
    | with_reducible apply only_seq_cons
    | (with_reducible apply only_rd; intro)
    | (with_reducible apply only_when; intro)
    | with_reducible apply only_mbCommand
    | (with_reducible apply only_fset; decide)
    | (with_reducible apply only_latchClear; decide)
    | (with_reducible apply only_mbDone; decide)
    | (with_reducible apply only_mbFail; decide)
    | with_reducible intro _
    | with_reducible apply only_updates
    | with_reducible exact within_nil _
    | (with_reducible apply within_cons; · exact (by dsimp only [Upd.part]; decide))
    | with_reducible apply within_append
    | (with_reducible apply within_map; intros; exact (by dsimp only [Upd.part]; decide))
    | (with_reducible apply within_flatMap; intro _ _)
    | split
    | dsimp only

theorem frame_execMbTamperLogRead (slot : Fin 17) (s : State) {t : State} (h : execMbTamperLogRead slot s = .next t) :
    SameBut [.fld .MOD_MB_SUMMARY, .hostOut, .hports, .slots] s t := by
  unfold execMbTamperLogRead at h
  cases h
  refine Eff.Only.same ?_ _
  repeat first
    | (with_reducible apply only_rd; intro)
    | with_reducible apply only_mbCommand
    | (with_reducible apply only_mbDoneWith; decide)
    | with_reducible intro _

theorem frame_execSlotRoleWrite (val : Word) (byteMask : Fin 256) (s : State) {t : State} (h : execSlotRoleWrite val byteMask s = .next t) :
    SameBut [.fld .SAF_SLOT_ROLE] s t := by
  unfold execSlotRoleWrite at h
  cases h
  refine Eff.Only.same ?_ _
  repeat first
    | (with_reducible apply only_roleWrite; first | exact .inl ((by decide)) | exact .inr ((by decide)))

theorem frame_execSlotFlaskWrite (val : Word) (byteMask : Fin 256) (s : State) {t : State} (h : execSlotFlaskWrite val byteMask s = .next t) :
    SameBut [.fld .SAF_SLOT_FLASK] s t := by
  unfold execSlotFlaskWrite at h
  cases h
  refine Eff.Only.same ?_ _
  repeat first
    | (with_reducible apply only_roleWrite; first | exact .inl ((by decide)) | exact .inr ((by decide)))

theorem frame_execSeqIdle (core : CoreId) (n : BitVec 32) (s : State) {t : State} (h : execSeqIdle core n s = .next t) :
    SameBut [.cores, .fld .CORE_SC, .fld .CORE_SEQ, .fld .VU_STAT] s t := by
  unfold execSeqIdle at h
  cases h
  refine Eff.Only.same ?_ _
  repeat first
    | with_reducible exact only_nop _
    | (with_reducible apply only_seqStep; · decide)

theorem frame_execSeqIssue (core : CoreId) (unit : Fin 72) (index : Fin 4096) (reloc : Fin 32) (mask : BitVec 9) (s : State) {t : State} (h :
    execSeqIssue core unit index reloc mask s = .next t) :
    SameBut [.cores, .dbg, .ev, .faults, .flasks, .fld .CORE_MOULD, .fld .CORE_SC, .fld .CORE_SEQ, .fld .CORE_SEQ_ERR, .fld .CORE_STAT,
        .fld .DBG_HOLD, .fld .LDL_CTX_n, .fld .ME_ERR, .fld .ME_STAT, .fld .MOD_FAULT_STAT, .fld .MOD_GRID_STAT, .fld .MOD_MB_SUMMARY,
        .fld .QUEUE_BASE, .fld .QUEUE_CTL, .fld .QUEUE_DB, .fld .QUEUE_LEVEL, .fld .QUEUE_STAT, .fld .QUEUE_WM, .fld .SE_ERR, .fld .SE_STAT,
        .fld .SPR_STAT, .fld .VU_STAT, .hostOut, .hports, .ldls, .mes, .msgs, .queues, .ses, .slots, .vus] s t := by
  unfold execSeqIssue at h
  cases h
  refine Eff.Only.same ?_ _
  repeat first
    | (with_reducible apply only_rd; intro)
    | (with_reducible apply only_engIssue; · decide)
    | (with_reducible apply only_issueOverflow; decide)
    | (with_reducible apply only_seqStep; · decide)
    | dsimp only

theorem frame_execSeqWaits (core : CoreId) (base : Fin 32) (offset : BitVec 48) (s : State) {t : State} (h : execSeqWaits core base offset s = .next
    t) :
    SameBut [.cores, .dbg, .ev, .faults, .flasks, .fld .CORE_MOULD, .fld .CORE_SC, .fld .CORE_SEQ, .fld .CORE_SEQ_ERR, .fld .CORE_STAT,
        .fld .DBG_HOLD, .fld .LDL_CTX_n, .fld .ME_STAT, .fld .MOD_FAULT_STAT, .fld .MOD_GRID_STAT, .fld .MOD_MB_SUMMARY, .fld .QUEUE_BASE,
        .fld .QUEUE_CTL, .fld .QUEUE_DB, .fld .QUEUE_LEVEL, .fld .QUEUE_STAT, .fld .QUEUE_WM, .fld .SE_STAT, .fld .SPR_STAT, .fld .VU_STAT,
        .hostOut, .hports, .ldls, .mes, .msgs, .queues, .ses, .slots, .vus] s t := by
  unfold execSeqWaits at h
  cases h
  refine Eff.Only.same ?_ _
  repeat first
    | with_reducible exact only_nop _
    | with_reducible exact only_seq_nil _
    | with_reducible apply only_seq_cons
    | (with_reducible apply only_rd; intro)
    | (with_reducible apply only_when; intro)
    | with_reducible apply only_either
    | (with_reducible refine only_seqError (by decide) ?_ _ _; decide)
    | (with_reducible apply only_seqStep; · decide)
    | (with_reducible apply only_settle; decide)
    | dsimp only

theorem frame_execSeqLoop (core : CoreId) (ctr : Fin 4) (fromReg : Bool) (reg : Fin 32) (count : BitVec 32) (last : Nat) (s : State) {t : State} (h
    : execSeqLoop core ctr fromReg reg count last s = .next t) :
    SameBut [.cores, .fld .CORE_SC, .fld .CORE_SEQ, .fld .VU_STAT] s t := by
  unfold execSeqLoop at h
  cases h
  refine Eff.Only.same ?_ _
  repeat first
    | with_reducible exact only_nop _
    | with_reducible exact only_seq_nil _
    | with_reducible apply only_seq_cons
    | (with_reducible apply only_rd; intro)
    | (with_reducible apply only_when; intro)
    | with_reducible apply only_either
    | (with_reducible apply only_fset; decide)
    | (with_reducible apply only_onCore; decide)
    | (with_reducible apply only_seqStep; · decide)
    | (with_reducible apply only_settle; decide)
    | split
    | dsimp only

theorem frame_execSeqBr (core : CoreId) (cond : Fin 5) (a : Fin 32) (b : Fin 64) (target : Nat) (len : BitVec 32) (s : State) {t : State} (h :
    execSeqBr core cond a b target len s = .next t) :
    SameBut [.cores, .fld .CORE_SC, .fld .CORE_SEQ, .fld .VU_STAT] s t := by
  unfold execSeqBr at h
  cases h
  refine Eff.Only.same ?_ _
  repeat first
    | with_reducible exact only_nop _
    | with_reducible exact only_seq_nil _
    | with_reducible apply only_seq_cons
    | (with_reducible apply only_rd; intro)
    | (with_reducible apply only_when; intro)
    | with_reducible apply only_either
    | (with_reducible apply only_seqStep; · decide)
    | (with_reducible apply only_settle; decide)
    | dsimp only

theorem frame_execSeqTmeta (core : CoreId) (rd_ : Fin 32) (tag : Fin 4096) (s : State) {t : State} (h : execSeqTmeta core rd_ tag s = .next t) :
    SameBut [.cores, .fld .CORE_SC, .fld .CORE_SEQ, .fld .VU_STAT] s t := by
  unfold execSeqTmeta at h
  cases h
  refine Eff.Only.same ?_ _
  repeat first
    | (with_reducible apply only_rd; intro)
    | (with_reducible apply only_seqStep; · decide)
    | (with_reducible apply only_setScalar; decide)

theorem frame_execSeqWaita (core : CoreId) (rd_ : Fin 32) (ctr : Fin 4096) (thr : Fin 32) (isFault : Bool) (n : BitVec 32) (s : State) {t : State}
    (h : execSeqWaita core rd_ ctr thr isFault n s = .next t) :
    SameBut [.cores, .fld .CORE_SC] s t := by
  unfold execSeqWaita at h
  cases h
  refine Eff.Only.same ?_ _
  repeat first
    | with_reducible exact only_seq_nil _
    | with_reducible apply only_seq_cons
    | (with_reducible apply only_rd; intro)
    | (with_reducible apply only_when; intro)
    | (with_reducible apply only_fadd; decide)
    | (with_reducible apply only_onCore; decide)
    | (with_reducible apply only_settle; decide)
    | dsimp only

theorem frame_execWaitaCompare (core : CoreId) (sameCycle : Nat) (s : State) {t : State} (h : execWaitaCompare core sameCycle s = .next t) :
    SameBut [.cores, .dbg, .ev, .faults, .flasks, .fld .CORE_MOULD, .fld .CORE_SC, .fld .CORE_SEQ, .fld .CORE_SEQ_ERR, .fld .CORE_STAT,
        .fld .DBG_HOLD, .fld .LDL_CTX_n, .fld .ME_STAT, .fld .MOD_FAULT_STAT, .fld .MOD_GRID_STAT, .fld .MOD_MB_SUMMARY, .fld .QUEUE_BASE,
        .fld .QUEUE_CTL, .fld .QUEUE_DB, .fld .QUEUE_LEVEL, .fld .QUEUE_STAT, .fld .QUEUE_WM, .fld .SE_STAT, .fld .SPR_STAT, .fld .VU_STAT,
        .hostOut, .hports, .ldls, .mes, .msgs, .queues, .ses, .slots, .vus] s t := by
  unfold execWaitaCompare at h
  cases h
  refine Eff.Only.same ?_ _
  repeat first
    | with_reducible exact only_nop _
    | with_reducible exact only_seq_nil _
    | with_reducible apply only_seq_cons
    | (with_reducible apply only_rd; intro)
    | (with_reducible apply only_when; intro)
    | with_reducible apply only_either
    | (with_reducible apply only_onCore; decide)
    | (with_reducible refine only_seqError (by decide) ?_ _ _; decide)
    | (with_reducible apply only_seqStep; · decide)
    | (with_reducible apply only_setScalar; decide)
    | (with_reducible apply only_settle; decide)
    | split
    | dsimp only

theorem frame_execSeqHalt (core : CoreId) (s : State) {t : State} (h : execSeqHalt core s = .next t) :
    SameBut [.cores, .dbg, .flasks, .fld .CORE_SC, .fld .CORE_STAT, .fld .DBG_HOLD, .fld .MOD_MB_SUMMARY, .fld .SPR_STAT, .hostOut, .hports, .slots]
        s t := by
  unfold execSeqHalt at h
  cases h
  refine Eff.Only.same ?_ _
  repeat first
    | with_reducible exact only_nop _
    | with_reducible exact only_seq_nil _
    | with_reducible apply only_seq_cons
    | (with_reducible apply only_rd; intro)
    | (with_reducible apply only_when; intro)
    | (with_reducible apply only_fadd; decide)
    | (with_reducible apply only_onCore; decide)
    | (with_reducible apply only_haltNow; decide)
    | (with_reducible apply only_settle; decide)
    | split
    | dsimp only

theorem frame_execAluAdd (core : CoreId) (d : Fin 32) (ra : Fin 32) (rb : Fin 32) (s : State) {t : State} (h : execAluAdd core d ra rb s = .next t) :
    SameBut [.cores, .fld .CORE_SC, .fld .CORE_SEQ, .fld .VU_STAT] s t := by
  unfold execAluAdd at h
  cases h
  refine Eff.Only.same ?_ _
  repeat first
    | (with_reducible apply only_alu; decide)

theorem frame_execAluSub (core : CoreId) (d : Fin 32) (ra : Fin 32) (rb : Fin 32) (s : State) {t : State} (h : execAluSub core d ra rb s = .next t) :
    SameBut [.cores, .fld .CORE_SC, .fld .CORE_SEQ, .fld .VU_STAT] s t := by
  unfold execAluSub at h
  cases h
  refine Eff.Only.same ?_ _
  repeat first
    | (with_reducible apply only_alu; decide)

theorem frame_execAluAnd (core : CoreId) (d : Fin 32) (ra : Fin 32) (rb : Fin 32) (s : State) {t : State} (h : execAluAnd core d ra rb s = .next t) :
    SameBut [.cores, .fld .CORE_SC, .fld .CORE_SEQ, .fld .VU_STAT] s t := by
  unfold execAluAnd at h
  cases h
  refine Eff.Only.same ?_ _
  repeat first
    | (with_reducible apply only_alu; decide)

theorem frame_execAluOr (core : CoreId) (d : Fin 32) (ra : Fin 32) (rb : Fin 32) (s : State) {t : State} (h : execAluOr core d ra rb s = .next t) :
    SameBut [.cores, .fld .CORE_SC, .fld .CORE_SEQ, .fld .VU_STAT] s t := by
  unfold execAluOr at h
  cases h
  refine Eff.Only.same ?_ _
  repeat first
    | (with_reducible apply only_alu; decide)

theorem frame_execAluXor (core : CoreId) (d : Fin 32) (ra : Fin 32) (rb : Fin 32) (s : State) {t : State} (h : execAluXor core d ra rb s = .next t) :
    SameBut [.cores, .fld .CORE_SC, .fld .CORE_SEQ, .fld .VU_STAT] s t := by
  unfold execAluXor at h
  cases h
  refine Eff.Only.same ?_ _
  repeat first
    | (with_reducible apply only_alu; decide)

theorem frame_execAluShl (core : CoreId) (d : Fin 32) (ra : Fin 32) (rb : Fin 32) (s : State) {t : State} (h : execAluShl core d ra rb s = .next t) :
    SameBut [.cores, .fld .CORE_SC, .fld .CORE_SEQ, .fld .VU_STAT, .freeCtr] s t := by
  unfold execAluShl at h
  cases h
  refine Eff.Only.same ?_ _
  repeat first
    | (with_reducible apply only_aluShift; decide)

theorem frame_execAluShr (core : CoreId) (d : Fin 32) (ra : Fin 32) (rb : Fin 32) (s : State) {t : State} (h : execAluShr core d ra rb s = .next t) :
    SameBut [.cores, .fld .CORE_SC, .fld .CORE_SEQ, .fld .VU_STAT, .freeCtr] s t := by
  unfold execAluShr at h
  cases h
  refine Eff.Only.same ?_ _
  repeat first
    | (with_reducible apply only_aluShift; decide)

theorem frame_execAluLi (core : CoreId) (d : Fin 32) (imm : Word) (s : State) {t : State} (h : execAluLi core d imm s = .next t) :
    SameBut [.cores, .fld .CORE_SC, .fld .CORE_SEQ, .fld .VU_STAT] s t := by
  unfold execAluLi at h
  cases h
  refine Eff.Only.same ?_ _
  repeat first
    | (with_reducible apply only_seqStep; · decide)
    | (with_reducible apply only_setScalar; decide)

theorem frame_execAluAddi (core : CoreId) (d : Fin 32) (ra : Fin 32) (imm : Word) (s : State) {t : State} (h : execAluAddi core d ra imm s = .next
    t) :
    SameBut [.cores, .fld .CORE_SC, .fld .CORE_SEQ, .fld .VU_STAT] s t := by
  unfold execAluAddi at h
  cases h
  refine Eff.Only.same ?_ _
  repeat first
    | (with_reducible apply only_alu; decide)

theorem frame_execAluReadSc (core : CoreId) (d : Fin 32) (s : State) {t : State} (h : execAluReadSc core d s = .next t) :
    SameBut [.cores, .fld .CORE_SC, .fld .CORE_SEQ, .fld .VU_STAT] s t := by
  unfold execAluReadSc at h
  cases h
  refine Eff.Only.same ?_ _
  repeat first
    | (with_reducible apply only_rd; intro)
    | (with_reducible apply only_seqStep; · decide)
    | (with_reducible apply only_setScalar; decide)

theorem frame_execQopSend (core : CoreId) (queue : Fin 8192) (d : Fin 32) (areg : Fin 32) (addr : BitVec 28) (s : State) {t : State} (h :
    execQopSend core queue d areg addr s = .next t) :
    SameBut [.cores, .flasks, .fld .CORE_QSTAT, .fld .CORE_SC, .fld .CORE_SEQ, .fld .VU_STAT, .freeCtr, .msgs, .ports, .queues] s t := by
  unfold execQopSend at h
  cases h
  refine Eff.Only.same ?_ _
  repeat first
    | (with_reducible apply only_rd; intro)
    | (with_reducible apply only_qopSend; decide)
    | (with_reducible apply only_seqStep; · decide)

theorem frame_execQopPop (core : CoreId) (queue : Fin 8192) (d : Fin 32) (areg : Fin 32) (addr : BitVec 28) (s : State) {t : State} (h : execQopPop
    core queue d areg addr s = .next t) :
    SameBut [.cores, .ev, .fld .CORE_SC, .fld .CORE_SEQ, .fld .QUEUE_LEVEL, .fld .QUEUE_STAT, .fld .QUEUE_WM, .fld .VU_STAT, .queues, .spd,
        .spdPoison] s t := by
  unfold execQopPop at h
  cases h
  refine Eff.Only.same ?_ _
  repeat first
    | (with_reducible apply only_rd; intro)
    | (with_reducible apply only_qopPop; decide)
    | (with_reducible apply only_seqStep; · decide)

theorem frame_execQopPost (core : CoreId) (queue : Fin 8192) (d : Fin 32) (areg : Fin 32) (addr : BitVec 28) (s : State) {t : State} (h :
    execQopPost core queue d areg addr s = .next t) :
    SameBut [.cores, .ev, .fld .CORE_SC, .fld .CORE_SEQ, .fld .QUEUE_LEVEL, .fld .QUEUE_STAT, .fld .QUEUE_WM, .fld .VU_STAT, .freeCtr, .queues,
        .spd, .spdPoison] s t := by
  unfold execQopPost at h
  cases h
  refine Eff.Only.same ?_ _
  repeat first
    | (with_reducible apply only_rd; intro)
    | (with_reducible apply only_qopPost; decide)
    | (with_reducible apply only_seqStep; · decide)

theorem frame_execQopLevel (core : CoreId) (queue : Fin 8192) (d : Fin 32) (s : State) {t : State} (h : execQopLevel core queue d s = .next t) :
    SameBut [.cores, .fld .CORE_SC, .fld .CORE_SEQ, .fld .VU_STAT] s t := by
  unfold execQopLevel at h
  cases h
  refine Eff.Only.same ?_ _
  repeat first
    | (with_reducible apply only_rd; intro)
    | (with_reducible apply only_qopLevel; decide)
    | (with_reducible apply only_seqStep; · decide)

theorem frame_execCreditTimer (queue : Fin 2097152) (s : State) {t : State} (h : execCreditTimer queue s = .next t) :
    SameBut [.msgs, .ports, .queues] s t := by
  unfold execCreditTimer at h
  cases h
  refine Eff.Only.same ?_ _
  repeat first
    | (with_reducible apply only_rd; intro)
    | (with_reducible apply only_when; intro)
    | (with_reducible apply only_creditSend; decide)
    | split
    | dsimp only

theorem frame_execCreditPacket (queue : Fin 2097152) (consumed : BitVec 16) (s : State) {t : State} (h : execCreditPacket queue consumed s = .next
    t) :
    SameBut [.queues] s t := by
  unfold execCreditPacket at h
  cases h
  refine Eff.Only.same ?_ _
  repeat first
    | (with_reducible apply only_creditTake; decide)

theorem frame_execElasticEntryArrival (queue : Fin 2097152) (peer : Nat) (tag : Nat) (entry : List Byte) (poison : Bool) (s : State) {t : State} (h
    : execElasticEntryArrival queue peer tag entry poison s = .next t) :
    SameBut [.cores, .ev, .fld .CORE_QSTAT, .msgs, .ports, .queues, .spd, .spdPoison] s t := by
  unfold execElasticEntryArrival at h
  cases h
  refine Eff.Only.same ?_ _
  repeat first
    | (with_reducible apply only_entryArrive; decide)

theorem frame_execRefclkLost (tc : Nat) (s : State) {t : State} (h : execRefclkLost tc s = .next t) :
    SameBut [.ev, .fld .TC_NOW, .svc] s t := by
  unfold execRefclkLost at h
  cases h
  refine Eff.Only.same ?_ _
  repeat first
    | with_reducible exact only_seq_nil _
    | with_reducible apply only_seq_cons
    | (with_reducible apply only_rd; intro)
    | (with_reducible apply only_when; intro)
    | (with_reducible apply only_raise; decide)
    | (with_reducible apply only_tcTo; decide)
    | with_reducible apply only_updates
    | with_reducible exact within_nil _
    | (with_reducible apply within_cons; · exact (by dsimp only [Upd.part]; decide))
    | with_reducible apply within_append
    | (with_reducible apply within_map; intros; exact (by dsimp only [Upd.part]; decide))
    | (with_reducible apply within_flatMap; intro _ _)

theorem frame_execRefclkBackupSwitch (tc : Nat) (s : State) {t : State} (h : execRefclkBackupSwitch tc s = .next t) :
    SameBut [.fld .TC_NOW, .svc] s t := by
  unfold execRefclkBackupSwitch at h
  cases h
  refine Eff.Only.same ?_ _
  repeat first
    | with_reducible exact only_nop _
    | with_reducible exact only_seq_nil _
    | with_reducible apply only_seq_cons
    | (with_reducible apply only_rd; intro)
    | (with_reducible apply only_when; intro)
    | (with_reducible apply only_tcTo; decide)
    | with_reducible apply only_updates
    | with_reducible exact within_nil _
    | (with_reducible apply within_cons; · exact (by dsimp only [Upd.part]; decide))
    | with_reducible apply within_append
    | (with_reducible apply within_map; intros; exact (by dsimp only [Upd.part]; decide))
    | (with_reducible apply within_flatMap; intro _ _)
    | split
    | dsimp only

theorem frame_execRefclkRestored (tc : Nat) (s : State) {t : State} (h : execRefclkRestored tc s = .next t) :
    SameBut [.ev, .fld .TC_NOW, .svc] s t := by
  unfold execRefclkRestored at h
  cases h
  refine Eff.Only.same ?_ _
  repeat first
    | with_reducible exact only_seq_nil _
    | with_reducible apply only_seq_cons
    | (with_reducible apply only_rd; intro)
    | (with_reducible apply only_when; intro)
    | (with_reducible apply only_raise; decide)
    | (with_reducible apply only_tcTo; decide)
    | with_reducible apply only_updates
    | with_reducible exact within_nil _
    | (with_reducible apply within_cons; · exact (by dsimp only [Upd.part]; decide))
    | with_reducible apply within_append
    | (with_reducible apply within_map; intros; exact (by dsimp only [Upd.part]; decide))
    | (with_reducible apply within_flatMap; intro _ _)

theorem frame_execTapBypass (env : BootEnv) (tc : Nat) (s : State) {t : State} (h : execTapBypass env tc s = .next t) :
    SameBut [.align, .boot, .caches, .cores, .ctl, .dbg, .dec, .dram, .dramPoison, .dramWritten, .ev, .faults, .flasks, .fld .CLK_PSTEP,
        .fld .CLU_CORES, .fld .CORE_STAT, .fld .DBG_STAT, .fld .ME_CAP, .fld .MOD_APERTURE_CTL, .fld .MOD_BOOT_ERR, .fld .MOD_BOOT_STAT,
        .fld .MOD_FLASH_INFO, .fld .MOD_GRID_STAT, .fld .MOD_MB_SUMMARY, .fld .MOD_PORT_BOOT, .fld .MOD_POUR_ID, .fld .MOD_RESET_STAT,
        .fld .MOD_ROW_MAP_r, .fld .PST_CORE_PWR_r, .fld .PST_PAD_HOLD, .fld .PST_RAMP, .fld .PST_STAT, .fld .PWR_CLUSTER_c, .fld .PWR_RISER_LEAD,
        .fld .PWR_TILE_t, .fld .RUN_LANE_l, .fld .RUN_STAT, .fld .SAF_STAT, .fld .SPD_STAT, .fld .TC_ALIGN_STAT, .fld .TC_NOW, .flds, .gclk,
        .hostOut, .hports, .ldls, .mes, .msgs, .msix, .pep, .ports, .pour, .power, .pst, .queues, .refreshOnly, .refreshed, .rings, .saf, .seam,
        .ses, .slag, .slots, .spd, .spdPoison, .svc, .vus] s t := by
  unfold execTapBypass at h
  cases h
  refine Eff.Only.same ?_ _
  repeat first
    | (with_reducible apply only_tapLoad; decide)

theorem frame_execTapIdcode (env : BootEnv) (tc : Nat) (s : State) {t : State} (h : execTapIdcode env tc s = .next t) :
    SameBut [.align, .boot, .caches, .cores, .ctl, .dbg, .dec, .dram, .dramPoison, .dramWritten, .ev, .faults, .flasks, .fld .CLK_PSTEP,
        .fld .CLU_CORES, .fld .CORE_STAT, .fld .DBG_STAT, .fld .ME_CAP, .fld .MOD_APERTURE_CTL, .fld .MOD_BOOT_ERR, .fld .MOD_BOOT_STAT,
        .fld .MOD_FLASH_INFO, .fld .MOD_GRID_STAT, .fld .MOD_MB_SUMMARY, .fld .MOD_PORT_BOOT, .fld .MOD_POUR_ID, .fld .MOD_RESET_STAT,
        .fld .MOD_ROW_MAP_r, .fld .PST_CORE_PWR_r, .fld .PST_PAD_HOLD, .fld .PST_RAMP, .fld .PST_STAT, .fld .PWR_CLUSTER_c, .fld .PWR_RISER_LEAD,
        .fld .PWR_TILE_t, .fld .RUN_LANE_l, .fld .RUN_STAT, .fld .SAF_STAT, .fld .SPD_STAT, .fld .TC_ALIGN_STAT, .fld .TC_NOW, .flds, .gclk,
        .hostOut, .hports, .ldls, .mes, .msgs, .msix, .pep, .ports, .pour, .power, .pst, .queues, .refreshOnly, .refreshed, .resp, .rings, .saf,
        .seam, .ses, .slag, .slots, .spd, .spdPoison, .svc, .vus] s t := by
  unfold execTapIdcode at h
  cases h
  refine Eff.Only.same ?_ _
  repeat first
    | with_reducible exact only_seq_nil _
    | with_reducible apply only_seq_cons
    | (with_reducible apply only_answer; decide)
    | (with_reducible apply only_tapLoad; decide)

theorem frame_execTapSamplePreload (pins : List Bool) (preload : List Bool) (env : BootEnv) (tc : Nat) (s : State) {t : State} (h :
    execTapSamplePreload pins preload env tc s = .next t) :
    SameBut [.align, .boot, .caches, .cores, .ctl, .dbg, .dec, .dram, .dramPoison, .dramWritten, .ev, .faults, .flasks, .fld .CLK_PSTEP,
        .fld .CLU_CORES, .fld .CORE_STAT, .fld .DBG_STAT, .fld .ME_CAP, .fld .MOD_APERTURE_CTL, .fld .MOD_BOOT_ERR, .fld .MOD_BOOT_STAT,
        .fld .MOD_FLASH_INFO, .fld .MOD_GRID_STAT, .fld .MOD_MB_SUMMARY, .fld .MOD_PORT_BOOT, .fld .MOD_POUR_ID, .fld .MOD_RESET_STAT,
        .fld .MOD_ROW_MAP_r, .fld .PST_CORE_PWR_r, .fld .PST_PAD_HOLD, .fld .PST_RAMP, .fld .PST_STAT, .fld .PWR_CLUSTER_c, .fld .PWR_RISER_LEAD,
        .fld .PWR_TILE_t, .fld .RUN_LANE_l, .fld .RUN_STAT, .fld .SAF_STAT, .fld .SPD_STAT, .fld .TC_ALIGN_STAT, .fld .TC_NOW, .flds, .gclk,
        .hostOut, .hports, .ldls, .mes, .msgs, .msix, .pep, .ports, .pour, .power, .pst, .queues, .refreshOnly, .refreshed, .resp, .rings, .saf,
        .seam, .ses, .slag, .slots, .spd, .spdPoison, .svc, .vus] s t := by
  unfold execTapSamplePreload at h
  cases h
  refine Eff.Only.same ?_ _
  repeat first
    | with_reducible exact only_seq_nil _
    | with_reducible apply only_seq_cons
    | (with_reducible apply only_rd; intro)
    | (with_reducible apply only_answer; decide)
    | (with_reducible apply only_tapLoad; decide)
    | with_reducible apply only_updates
    | with_reducible exact within_nil _
    | (with_reducible apply within_cons; · exact (by dsimp only [Upd.part]; decide))
    | with_reducible apply within_append
    | (with_reducible apply within_map; intros; exact (by dsimp only [Upd.part]; decide))
    | (with_reducible apply within_flatMap; intro _ _)

theorem frame_execTapExtest (env : BootEnv) (tc : Nat) (s : State) {t : State} (h : execTapExtest env tc s = .next t) :
    SameBut [.align, .boot, .caches, .cores, .ctl, .dbg, .dec, .dram, .dramPoison, .dramWritten, .ev, .faults, .flasks, .fld .CLK_PSTEP,
        .fld .CLU_CORES, .fld .CORE_MOULD, .fld .CORE_SC, .fld .CORE_SEQ, .fld .CORE_STAT, .fld .DBG_HOLD, .fld .DBG_STAT, .fld .LDL_CTXW_n,
        .fld .LDL_CTX_n, .fld .LDL_ERR, .fld .LDL_STAT, .fld .ME_CAP, .fld .ME_STAT, .fld .MOD_APERTURE_CTL, .fld .MOD_BOOT_ERR,
        .fld .MOD_BOOT_STAT, .fld .MOD_FAULT_STAT, .fld .MOD_FLASH_INFO, .fld .MOD_GRID_STAT, .fld .MOD_MB_SUMMARY, .fld .MOD_PORT_BOOT,
        .fld .MOD_POUR_ID, .fld .MOD_RESET_STAT, .fld .MOD_ROW_MAP_r, .fld .PST_CORE_PWR_r, .fld .PST_PAD_HOLD, .fld .PST_RAMP, .fld .PST_STAT,
        .fld .PWR_CLUSTER_c, .fld .PWR_RISER_LEAD, .fld .PWR_TILE_t, .fld .QUEUE_BASE, .fld .QUEUE_CTL, .fld .QUEUE_DB, .fld .QUEUE_LEVEL,
        .fld .QUEUE_STAT, .fld .QUEUE_WM, .fld .RUN_ERR, .fld .RUN_LANE_l, .fld .RUN_STAT, .fld .SAF_STAT, .fld .SE_STAT, .fld .SPD_ELASTIC,
        .fld .SPD_STAT, .fld .SPR_STAT, .fld .TC_ALIGN_STAT, .fld .TC_NOW, .fld .VU_STAT, .flds, .freeCtr, .gclk, .hostOut, .hports, .ldls, .mes,
        .msgs, .msix, .pep, .ports, .pour, .power, .pst, .queues, .refreshOnly, .refreshed, .rings, .saf, .seam, .ses, .slag, .slots, .spd,
        .spdPoison, .svc, .vus] s t := by
  unfold execTapExtest at h
  cases h
  refine Eff.Only.same ?_ _
  repeat first
    | with_reducible exact only_seq_nil _
    | with_reducible apply only_seq_cons
    | (with_reducible apply only_rd; intro)
    | (with_reducible apply only_when; intro)
    | (with_reducible apply only_fset; decide)
    | (with_reducible apply only_tcTo; decide)
    | (with_reducible apply only_computeStop; decide)
    | (with_reducible apply only_tapLoad; decide)

theorem frame_execLifeHour (tj10 : ℤ) (fast : Bool) (tc : Nat) (s : State) {t : State} (h : execLifeHour tj10 fast tc s = .next t) :
    SameBut [.ev, .fld .MOD_LIFE, .fld .TC_NOW, .freeCtr, .svc] s t := by
  unfold execLifeHour at h
  cases h
  refine Eff.Only.same ?_ _
  repeat first
    | with_reducible exact only_seq_nil _
    | with_reducible apply only_seq_cons
    | (with_reducible apply only_rd; intro)
    | (with_reducible apply only_when; intro)
    | (with_reducible apply only_draw; · decide)
    | (with_reducible apply only_fsat; decide)
    | (with_reducible apply only_raise; decide)
    | (with_reducible apply only_tcTo; decide)
    | with_reducible intro _
    | with_reducible apply only_updates
    | with_reducible exact within_nil _
    | (with_reducible apply within_cons; · exact (by dsimp only [Upd.part]; decide))
    | with_reducible apply within_append
    | (with_reducible apply within_map; intros; exact (by dsimp only [Upd.part]; decide))
    | (with_reducible apply within_flatMap; intro _ _)
    | dsimp only

theorem frame_execPldmQueryDeviceIds (s : State) {t : State} (h : execPldmQueryDeviceIds s = .next t) :
    SameBut [.freeCtr, .resp] s t := by
  unfold execPldmQueryDeviceIds at h
  cases h
  refine Eff.Only.same ?_ _
  repeat first
    | (with_reducible apply only_rd; intro)
    | (with_reducible apply only_when; intro)
    | (with_reducible apply only_draw; · decide)
    | (with_reducible apply only_answer; decide)
    | with_reducible intro _

theorem frame_execPldmGetFwParameters (s : State) {t : State} (h : execPldmGetFwParameters s = .next t) :
    SameBut [.resp] s t := by
  unfold execPldmGetFwParameters at h
  cases h
  refine Eff.Only.same ?_ _
  repeat first
    | (with_reducible apply only_rd; intro)
    | (with_reducible apply only_when; intro)
    | (with_reducible apply only_answer; decide)

theorem frame_execPldmRequestUpdate (transfer : Nat) (s : State) {t : State} (h : execPldmRequestUpdate transfer s = .next t) :
    SameBut [.boot, .resp] s t := by
  unfold execPldmRequestUpdate at h
  cases h
  refine Eff.Only.same ?_ _
  repeat first
    | with_reducible exact only_seq_nil _
    | with_reducible apply only_seq_cons
    | (with_reducible apply only_rd; intro)
    | (with_reducible apply only_when; intro)
    | (with_reducible apply only_code; decide)
    | (with_reducible apply only_onPldm; decide)
    | split

theorem frame_execPldmPassComponentTable (cls : BitVec 16) (ident : BitVec 16) (last : Bool) (s : State) {t : State} (h : execPldmPassComponentTable
    cls ident last s = .next t) :
    SameBut [.boot, .resp] s t := by
  unfold execPldmPassComponentTable at h
  cases h
  refine Eff.Only.same ?_ _
  repeat first
    | with_reducible exact only_seq_nil _
    | with_reducible apply only_seq_cons
    | (with_reducible apply only_when; intro)
    | (with_reducible apply only_answer; decide)
    | (with_reducible apply only_inUpdate; · decide)
    | (with_reducible apply only_onPldm; decide)

theorem frame_execPldmUpdateComponent (cls : BitVec 16) (ident : BitVec 16) (size : BitVec 32) (s : State) {t : State} (h : execPldmUpdateComponent
    cls ident size s = .next t) :
    SameBut [.boot, .msgs, .resp] s t := by
  unfold execPldmUpdateComponent at h
  cases h
  refine Eff.Only.same ?_ _
  repeat first
    | with_reducible exact only_seq_nil _
    | with_reducible apply only_seq_cons
    | with_reducible apply only_either
    | (with_reducible apply only_answer; decide)
    | (with_reducible apply only_inUpdate; · decide)
    | (with_reducible apply only_onPldm; decide)
    | (with_reducible apply only_pldmAsk; decide)

theorem frame_execPldmFirmwareData (data : List Byte) (signatureOk : Bool) (readBackOk : Bool) (env : BootEnv) (s : State) {t : State} (h :
    execPldmFirmwareData data signatureOk readBackOk env s = .next t) :
    SameBut [.align, .boot, .cores, .ctl, .dbg, .ev, .fld .CLK_PSTEP, .fld .CLU_CORES, .fld .CORE_STAT, .fld .DBG_STAT, .fld .ME_CAP,
        .fld .MOD_APERTURE_CTL, .fld .MOD_BOOT_ERR, .fld .MOD_BOOT_STAT, .fld .MOD_FLASH_INFO, .fld .MOD_GRID_STAT, .fld .MOD_MB_SUMMARY,
        .fld .MOD_PORT_BOOT, .fld .MOD_POUR_ID, .fld .MOD_ROW_MAP_r, .fld .PST_CORE_PWR_r, .fld .PST_PAD_HOLD, .fld .PST_RAMP, .fld .PST_STAT,
        .fld .PWR_CLUSTER_c, .fld .PWR_RISER_LEAD, .fld .PWR_TILE_t, .fld .RUN_LANE_l, .fld .RUN_STAT, .fld .SAF_STAT, .fld .SPD_STAT,
        .fld .TC_ALIGN_STAT, .hostOut, .hports, .msgs, .ports, .pour, .pst, .saf, .seam, .slag, .slots, .svc] s t := by
  unfold execPldmFirmwareData at h
  cases h
  refine Eff.Only.same ?_ _
  repeat first
    | with_reducible exact only_nop _
    | with_reducible exact only_seq_nil _
    | with_reducible apply only_seq_cons
    | (with_reducible apply only_rd; intro)
    | (with_reducible apply only_when; intro)
    | with_reducible apply only_either
    | (with_reducible apply only_send; decide)
    | (with_reducible apply only_onPldm; decide)
    | (with_reducible apply only_pldmAsk; decide)
    | (with_reducible apply only_pldmVerify; decide)
    | (with_reducible apply only_recoveryBoot; decide)
    | split
    | dsimp only

theorem frame_execPldmActivateFirmware (selfContained : Bool) (s : State) {t : State} (h : execPldmActivateFirmware selfContained s = .next t) :
    SameBut [.boot, .fld .MOD_FLASH_INFO, .resp] s t := by
  unfold execPldmActivateFirmware at h
  cases h
  refine Eff.Only.same ?_ _
  repeat first
    | with_reducible exact only_seq_nil _
    | with_reducible apply only_seq_cons
    | (with_reducible apply only_rd; intro)
    | (with_reducible apply only_code; decide)
    | (with_reducible apply only_fwActivate; decide)
    | (with_reducible apply only_inUpdate; · decide)
    | (with_reducible apply only_onPldm; decide)
    | split

theorem frame_execPldmGetStatus (s : State) {t : State} (h : execPldmGetStatus s = .next t) :
    SameBut [.resp] s t := by
  unfold execPldmGetStatus at h
  cases h
  refine Eff.Only.same ?_ _
  repeat first
    | (with_reducible apply only_rd; intro)
    | (with_reducible apply only_when; intro)
    | (with_reducible apply only_answer; decide)

theorem frame_execPldmCancelUpdateComponent (s : State) {t : State} (h : execPldmCancelUpdateComponent s = .next t) :
    SameBut [.boot, .resp] s t := by
  unfold execPldmCancelUpdateComponent at h
  cases h
  refine Eff.Only.same ?_ _
  repeat first
    | with_reducible exact only_seq_nil _
    | with_reducible apply only_seq_cons
    | (with_reducible apply only_code; decide)
    | (with_reducible apply only_inUpdate; · decide)
    | (with_reducible apply only_onPldm; decide)

theorem frame_execPldmCancelUpdate (s : State) {t : State} (h : execPldmCancelUpdate s = .next t) :
    SameBut [.boot, .resp] s t := by
  unfold execPldmCancelUpdate at h
  cases h
  refine Eff.Only.same ?_ _
  repeat first
    | with_reducible exact only_seq_nil _
    | with_reducible apply only_seq_cons
    | (with_reducible apply only_code; decide)
    | (with_reducible apply only_inUpdate; · decide)
    | (with_reducible apply only_onPldm; decide)

theorem frame_execPldmGetSensorReading (sensor : BitVec 16) (s : State) {t : State} (h : execPldmGetSensorReading sensor s = .next t) :
    SameBut [.resp] s t := by
  unfold execPldmGetSensorReading at h
  cases h
  refine Eff.Only.same ?_ _
  repeat first
    | (with_reducible apply only_rd; intro)
    | (with_reducible apply only_when; intro)
    | (with_reducible apply only_answer; decide)
    | (with_reducible apply only_code; decide)
    | split
    | dsimp only

theorem frame_execPldmGetStateSensorReadings (sensor : BitVec 16) (s : State) {t : State} (h : execPldmGetStateSensorReadings sensor s = .next t) :
    SameBut [.resp] s t := by
  unfold execPldmGetStateSensorReadings at h
  cases h
  refine Eff.Only.same ?_ _
  repeat first
    | (with_reducible apply only_rd; intro)
    | (with_reducible apply only_when; intro)
    | with_reducible apply only_either
    | (with_reducible apply only_answer; decide)
    | (with_reducible apply only_code; decide)

theorem frame_execPldmGetPdr (handle : BitVec 32) (s : State) {t : State} (h : execPldmGetPdr handle s = .next t) :
    SameBut [.freeCtr, .resp] s t := by
  unfold execPldmGetPdr at h
  cases h
  refine Eff.Only.same ?_ _
  repeat first
    | (with_reducible apply only_rd; intro)
    | (with_reducible apply only_when; intro)
    | (with_reducible apply only_draw; · decide)
    | (with_reducible apply only_answer; decide)
    | (with_reducible apply only_code; decide)
    | with_reducible intro _
    | split
    | dsimp only

theorem frame_execMctpControl (command : BitVec 8) (eid : BitVec 8) (s : State) {t : State} (h : execMctpControl command eid s = .next t) :
    SameBut [.freeCtr, .resp, .svc] s t := by
  unfold execMctpControl at h
  cases h
  refine Eff.Only.same ?_ _
  repeat first
    | with_reducible exact only_seq_nil _
    | with_reducible apply only_seq_cons
    | (with_reducible apply only_rd; intro)
    | (with_reducible apply only_when; intro)
    | (with_reducible apply only_draw; · decide)
    | (with_reducible apply only_answer; decide)
    | (with_reducible apply only_code; decide)
    | with_reducible intro _
    | with_reducible apply only_updates
    | with_reducible exact within_nil _
    | (with_reducible apply within_cons; · exact (by dsimp only [Upd.part]; decide))
    | with_reducible apply within_append
    | (with_reducible apply within_map; intros; exact (by dsimp only [Upd.part]; decide))
    | (with_reducible apply within_flatMap; intro _ _)
    | split
    | dsimp only

theorem frame_execI3cSetdasa (static : Fin 128) (dynamic : Fin 128) (s : State) {t : State} (h : execI3cSetdasa static dynamic s = .next t) :
    SameBut [.svc] s t := by
  unfold execI3cSetdasa at h
  cases h
  refine Eff.Only.same ?_ _
  repeat first
    | (with_reducible apply only_rd; intro)
    | (with_reducible apply only_when; intro)
    | with_reducible apply only_updates
    | with_reducible exact within_nil _
    | (with_reducible apply within_cons; · exact (by dsimp only [Upd.part]; decide))
    | with_reducible apply within_append
    | (with_reducible apply within_map; intros; exact (by dsimp only [Upd.part]; decide))
    | (with_reducible apply within_flatMap; intro _ _)

theorem frame_execI3cEntdaa (dynamic : Fin 128) (s : State) {t : State} (h : execI3cEntdaa dynamic s = .next t) :
    SameBut [.svc] s t := by
  unfold execI3cEntdaa at h
  cases h
  refine Eff.Only.same ?_ _
  repeat first
    | (with_reducible apply only_rd; intro)
    | (with_reducible apply only_when; intro)
    | with_reducible apply only_updates
    | with_reducible exact within_nil _
    | (with_reducible apply within_cons; · exact (by dsimp only [Upd.part]; decide))
    | with_reducible apply within_append
    | (with_reducible apply within_map; intros; exact (by dsimp only [Upd.part]; decide))
    | (with_reducible apply within_flatMap; intro _ _)

theorem frame_execSpdmGetVersion (s : State) {t : State} (h : execSpdmGetVersion s = .next t) :
    SameBut [.resp, .saf] s t := by
  unfold execSpdmGetVersion at h
  cases h
  refine Eff.Only.same ?_ _
  repeat first
    | with_reducible exact only_seq_nil _
    | with_reducible apply only_seq_cons
    | (with_reducible apply only_rd; intro)
    | (with_reducible apply only_when; intro)
    | (with_reducible apply only_answer; decide)
    | with_reducible apply only_updates
    | with_reducible exact within_nil _
    | (with_reducible apply within_cons; · exact (by dsimp only [Upd.part]; decide))
    | with_reducible apply within_append
    | (with_reducible apply within_map; intros; exact (by dsimp only [Upd.part]; decide))
    | (with_reducible apply within_flatMap; intro _ _)

theorem frame_execSpdmGetCapabilities (s : State) {t : State} (h : execSpdmGetCapabilities s = .next t) :
    SameBut [.resp, .saf] s t := by
  unfold execSpdmGetCapabilities at h
  cases h
  refine Eff.Only.same ?_ _
  repeat first
    | with_reducible exact only_seq_nil _
    | with_reducible apply only_seq_cons
    | (with_reducible apply only_rd; intro)
    | with_reducible apply only_either
    | (with_reducible apply only_answer; decide)
    | (with_reducible apply only_code; decide)
    | (with_reducible apply only_spdmAt; · decide)
    | with_reducible apply only_updates
    | with_reducible exact within_nil _
    | (with_reducible apply within_cons; · exact (by dsimp only [Upd.part]; decide))
    | with_reducible apply within_append
    | (with_reducible apply within_map; intros; exact (by dsimp only [Upd.part]; decide))
    | (with_reducible apply within_flatMap; intro _ _)

theorem frame_execSpdmNegotiateAlgorithms (supported : Bool) (s : State) {t : State} (h : execSpdmNegotiateAlgorithms supported s = .next t) :
    SameBut [.resp, .saf] s t := by
  unfold execSpdmNegotiateAlgorithms at h
  cases h
  refine Eff.Only.same ?_ _
  repeat first
    | with_reducible exact only_seq_nil _
    | with_reducible apply only_seq_cons
    | (with_reducible apply only_rd; intro)
    | with_reducible apply only_either
    | (with_reducible apply only_answer; decide)
    | (with_reducible apply only_code; decide)
    | (with_reducible apply only_spdmAt; · decide)
    | with_reducible apply only_updates
    | with_reducible exact within_nil _
    | (with_reducible apply within_cons; · exact (by dsimp only [Upd.part]; decide))
    | with_reducible apply within_append
    | (with_reducible apply within_map; intros; exact (by dsimp only [Upd.part]; decide))
    | (with_reducible apply within_flatMap; intro _ _)
    | split

theorem frame_execSpdmGetDigests (s : State) {t : State} (h : execSpdmGetDigests s = .next t) :
    SameBut [.freeCtr, .resp] s t := by
  unfold execSpdmGetDigests at h
  cases h
  refine Eff.Only.same ?_ _
  repeat first
    | (with_reducible apply only_draw; · decide)
    | (with_reducible apply only_answer; decide)
    | (with_reducible apply only_spdmAt; · decide)
    | with_reducible intro _

theorem frame_execSpdmGetCertificate (certSlot : Fin 8) (length : BitVec 16) (s : State) {t : State} (h : execSpdmGetCertificate certSlot length s =
    .next t) :
    SameBut [.freeCtr, .resp] s t := by
  unfold execSpdmGetCertificate at h
  cases h
  refine Eff.Only.same ?_ _
  repeat first
    | with_reducible apply only_either
    | (with_reducible apply only_draw; · decide)
    | (with_reducible apply only_answer; decide)
    | (with_reducible apply only_code; decide)
    | (with_reducible apply only_spdmAt; · decide)
    | with_reducible intro _

theorem frame_execSpdmChallenge (certSlot : Fin 8) (s : State) {t : State} (h : execSpdmChallenge certSlot s = .next t) :
    SameBut [.freeCtr, .resp] s t := by
  unfold execSpdmChallenge at h
  cases h
  refine Eff.Only.same ?_ _
  repeat first
    | with_reducible apply only_either
    | (with_reducible apply only_draw; · decide)
    | (with_reducible apply only_answer; decide)
    | (with_reducible apply only_code; decide)
    | (with_reducible apply only_spdmAt; · decide)
    | with_reducible intro _

theorem frame_execSpdmGetMeasurements (index : BitVec 8) (s : State) {t : State} (h : execSpdmGetMeasurements index s = .next t) :
    SameBut [.freeCtr, .resp] s t := by
  unfold execSpdmGetMeasurements at h
  cases h
  refine Eff.Only.same ?_ _
  repeat first
    | (with_reducible apply only_rd; intro)
    | (with_reducible apply only_draw; · decide)
    | (with_reducible apply only_answer; decide)
    | (with_reducible apply only_code; decide)
    | (with_reducible apply only_spdmAt; · decide)
    | with_reducible intro _
    | split
    | dsimp only

theorem frame_execSpdmKeyExchange (id : BitVec 32) (s : State) {t : State} (h : execSpdmKeyExchange id s = .next t) :
    SameBut [.freeCtr, .resp, .saf] s t := by
  unfold execSpdmKeyExchange at h
  cases h
  refine Eff.Only.same ?_ _
  repeat first
    | with_reducible exact only_seq_nil _
    | with_reducible apply only_seq_cons
    | (with_reducible apply only_rd; intro)
    | (with_reducible apply only_draw; · decide)
    | (with_reducible apply only_answer; decide)
    | (with_reducible apply only_code; decide)
    | (with_reducible apply only_spdmAt; · decide)
    | with_reducible intro _
    | with_reducible apply only_updates
    | with_reducible exact within_nil _
    | (with_reducible apply within_cons; · exact (by dsimp only [Upd.part]; decide))
    | with_reducible apply within_append
    | (with_reducible apply within_map; intros; exact (by dsimp only [Upd.part]; decide))
    | (with_reducible apply within_flatMap; intro _ _)
    | split

theorem frame_execSpdmFinish (id : BitVec 32) (verified : Bool) (s : State) {t : State} (h : execSpdmFinish id verified s = .next t) :
    SameBut [.resp, .saf] s t := by
  unfold execSpdmFinish at h
  cases h
  refine Eff.Only.same ?_ _
  repeat first
    | with_reducible exact only_seq_nil _
    | with_reducible apply only_seq_cons
    | (with_reducible apply only_rd; intro)
    | with_reducible apply only_either
    | (with_reducible apply only_code; decide)
    | (with_reducible apply only_spdmAt; · decide)
    | with_reducible apply only_updates
    | with_reducible exact within_nil _
    | (with_reducible apply within_cons; · exact (by dsimp only [Upd.part]; decide))
    | with_reducible apply within_append
    | (with_reducible apply within_map; intros; exact (by dsimp only [Upd.part]; decide))
    | (with_reducible apply within_flatMap; intro _ _)
    | split
    | dsimp only

theorem frame_execSpdmHeartbeat (id : BitVec 32) (s : State) {t : State} (h : execSpdmHeartbeat id s = .next t) :
    SameBut [.resp] s t := by
  unfold execSpdmHeartbeat at h
  cases h
  refine Eff.Only.same ?_ _
  repeat first
    | (with_reducible apply only_code; decide)
    | (with_reducible apply only_inSession; · decide)

theorem frame_execSpdmKeyUpdate (id : BitVec 32) (s : State) {t : State} (h : execSpdmKeyUpdate id s = .next t) :
    SameBut [.resp] s t := by
  unfold execSpdmKeyUpdate at h
  cases h
  refine Eff.Only.same ?_ _
  repeat first
    | (with_reducible apply only_code; decide)
    | (with_reducible apply only_inSession; · decide)

theorem frame_execSpdmEndSession (id : BitVec 32) (s : State) {t : State} (h : execSpdmEndSession id s = .next t) :
    SameBut [.resp, .saf] s t := by
  unfold execSpdmEndSession at h
  cases h
  refine Eff.Only.same ?_ _
  repeat first
    | with_reducible exact only_seq_nil _
    | with_reducible apply only_seq_cons
    | (with_reducible apply only_rd; intro)
    | (with_reducible apply only_code; decide)
    | (with_reducible apply only_inSession; · decide)
    | with_reducible apply only_updates
    | with_reducible exact within_nil _
    | (with_reducible apply within_cons; · exact (by dsimp only [Upd.part]; decide))
    | with_reducible apply within_append
    | (with_reducible apply within_map; intros; exact (by dsimp only [Upd.part]; decide))
    | (with_reducible apply within_flatMap; intro _ _)

theorem frame_execSlosyFrame (wire : List Byte) (tc : Nat) (s : State) {t : State} (h : execSlosyFrame wire tc s = .next t) :
    SameBut [.dbg, .fld .TC_NOW, .msgs, .resp] s t := by
  unfold execSlosyFrame at h
  cases h
  refine Eff.Only.same ?_ _
  repeat first
    | with_reducible exact only_nop _
    | with_reducible exact only_seq_nil _
    | with_reducible apply only_seq_cons
    | (with_reducible apply only_rd; intro)
    | (with_reducible apply only_when; intro)
    | (with_reducible apply only_tcTo; decide)
    | (with_reducible apply only_slosyAnswer; decide)
    | with_reducible apply only_updates
    | with_reducible exact within_nil _
    | (with_reducible apply within_cons; · exact (by dsimp only [Upd.part]; decide))
    | with_reducible apply within_append
    | (with_reducible apply within_map; intros; exact (by dsimp only [Upd.part]; decide))
    | (with_reducible apply within_flatMap; intro _ _)
    | split
    | dsimp only

theorem frame_execSlosyInfo (s : State) {t : State} (h : execSlosyInfo s = .next t) :
    SameBut [.dbg, .msgs, .resp] s t := by
  unfold execSlosyInfo at h
  cases h
  refine Eff.Only.same ?_ _
  repeat first
    | (with_reducible apply only_rd; intro)
    | (with_reducible apply only_slosyAnswer; decide)
    | (with_reducible apply only_slosyServe; · decide)
    | with_reducible intro _

theorem frame_execSlosyAuthReq (s : State) {t : State} (h : execSlosyAuthReq s = .next t) :
    SameBut [.dbg, .freeCtr, .msgs, .resp] s t := by
  unfold execSlosyAuthReq at h
  cases h
  refine Eff.Only.same ?_ _
  repeat first
    | with_reducible exact only_seq_nil _
    | with_reducible apply only_seq_cons
    | (with_reducible apply only_rd; intro)
    | (with_reducible apply only_draw; · decide)
    | (with_reducible apply only_slosyAnswer; decide)
    | (with_reducible apply only_slosyServe; · decide)
    | with_reducible intro _
    | with_reducible apply only_updates
    | with_reducible exact within_nil _
    | (with_reducible apply within_cons; · exact (by dsimp only [Upd.part]; decide))
    | with_reducible apply within_append
    | (with_reducible apply within_map; intros; exact (by dsimp only [Upd.part]; decide))
    | (with_reducible apply within_flatMap; intro _ _)
    | split

theorem frame_execSlosyAuthGrant (verified : Bool) (seconds : Nat) (s : State) {t : State} (h : execSlosyAuthGrant verified seconds s = .next t) :
    SameBut [.dbg, .ev, .fld .DBG_STAT, .fld .MOD_APERTURE_CTL, .fld .SAF_SECONDS, .freeCtr, .msgs, .resp] s t := by
  unfold execSlosyAuthGrant at h
  cases h
  refine Eff.Only.same ?_ _
  repeat first
    | with_reducible exact only_seq_nil _
    | with_reducible apply only_seq_cons
    | (with_reducible apply only_rd; intro)
    | (with_reducible apply only_when; intro)
    | (with_reducible apply only_draw; · decide)
    | (with_reducible apply only_fset; decide)
    | (with_reducible apply only_fsat; decide)
    | (with_reducible apply only_raise; decide)
    | (with_reducible apply only_grantEnds; decide)
    | (with_reducible apply only_secondsTo; decide)
    | (with_reducible apply only_slosyAnswer; decide)
    | (with_reducible apply only_slosyServe; · decide)
    | with_reducible intro _
    | with_reducible apply only_updates
    | with_reducible exact within_nil _
    | (with_reducible apply within_cons; · exact (by dsimp only [Upd.part]; decide))
    | with_reducible apply within_append
    | (with_reducible apply within_map; intros; exact (by dsimp only [Upd.part]; decide))
    | (with_reducible apply within_flatMap; intro _ _)
    | split
    | dsimp only

theorem frame_execSlosyAuthDrop (s : State) {t : State} (h : execSlosyAuthDrop s = .next t) :
    SameBut [.dbg, .fld .DBG_STAT, .fld .MOD_APERTURE_CTL, .msgs, .resp] s t := by
  unfold execSlosyAuthDrop at h
  cases h
  refine Eff.Only.same ?_ _
  repeat first
    | with_reducible exact only_seq_nil _
    | with_reducible apply only_seq_cons
    | (with_reducible apply only_grantEnds; decide)
    | (with_reducible apply only_slosyAnswer; decide)
    | (with_reducible apply only_slosyServe; · decide)
    | with_reducible intro _

theorem frame_execSlosyLifecycle (s : State) {t : State} (h : execSlosyLifecycle s = .next t) :
    SameBut [.caches, .cores, .dbg, .dram, .dramPoison, .dramWritten, .ev, .faults, .flasks, .fld .CORE_MOULD, .fld .CORE_SC, .fld .CORE_SEQ,
        .fld .CORE_STAT, .fld .DBG_HOLD, .fld .DBG_STAT, .fld .LDL_CTX_n, .fld .ME_STAT, .fld .MOD_APERTURE_CTL, .fld .MOD_FAULT_STAT,
        .fld .MOD_GRID_STAT, .fld .MOD_MB_SUMMARY, .fld .QUEUE_BASE, .fld .QUEUE_CTL, .fld .QUEUE_DB, .fld .QUEUE_LEVEL, .fld .QUEUE_STAT,
        .fld .QUEUE_WM, .fld .SAF_STAT, .fld .SE_STAT, .fld .SPD_ELASTIC, .fld .SPD_STAT, .fld .SPR_STAT, .fld .VU_STAT, .hostOut, .hports, .ldls,
        .mes, .msgs, .pour, .queues, .resp, .saf, .ses, .slots, .vus] s t := by
  unfold execSlosyLifecycle at h
  cases h
  refine Eff.Only.same ?_ _
  repeat first
    | with_reducible exact only_seq_nil _
    | with_reducible apply only_seq_cons
    | (with_reducible apply only_rd; intro)
    | (with_reducible apply only_fset; decide)
    | (with_reducible apply only_raise; decide)
    | (with_reducible apply only_grantEnds; decide)
    | (with_reducible apply only_keysZeroised; decide)
    | (with_reducible apply only_ownersChange; decide)
    | (with_reducible apply only_readyAgain; decide)
    | (with_reducible apply only_refuseIf; · decide)
    | (with_reducible apply only_slosyAnswer; decide)
    | (with_reducible apply only_slosyServe; · decide)
    | with_reducible intro _

theorem frame_execGrantExpiry (seconds : Nat) (s : State) {t : State} (h : execGrantExpiry seconds s = .next t) :
    SameBut [.dbg, .fld .DBG_STAT, .fld .MOD_APERTURE_CTL, .fld .SAF_SECONDS] s t := by
  unfold execGrantExpiry at h
  cases h
  refine Eff.Only.same ?_ _
  repeat first
    | with_reducible exact only_nop _
    | with_reducible exact only_seq_nil _
    | with_reducible apply only_seq_cons
    | (with_reducible apply only_rd; intro)
    | (with_reducible apply only_when; intro)
    | (with_reducible apply only_grantEnds; decide)
    | (with_reducible apply only_secondsTo; decide)
    | split
    | dsimp only

theorem frame_execAuthLockoutExpiry (seconds : Nat) (s : State) {t : State} (h : execAuthLockoutExpiry seconds s = .next t) :
    SameBut [.dbg, .fld .SAF_SECONDS] s t := by
  unfold execAuthLockoutExpiry at h
  cases h
  refine Eff.Only.same ?_ _
  repeat first
    | with_reducible exact only_nop _
    | with_reducible exact only_seq_nil _
    | with_reducible apply only_seq_cons
    | (with_reducible apply only_rd; intro)
    | (with_reducible apply only_when; intro)
    | (with_reducible apply only_secondsTo; decide)
    | with_reducible apply only_updates
    | with_reducible exact within_nil _
    | (with_reducible apply within_cons; · exact (by dsimp only [Upd.part]; decide))
    | with_reducible apply within_append
    | (with_reducible apply within_map; intros; exact (by dsimp only [Upd.part]; decide))
    | (with_reducible apply within_flatMap; intro _ _)
    | split
    | dsimp only

theorem frame_execSlosyRead (tc : Nat) (s : State) {t : State} (h : execSlosyRead tc s = .next t) :
    SameBut [.caches, .cores, .dbg, .dram, .dramPoison, .dramWritten, .ev, .fld .CCH_HITS, .fld .CCH_MISSES, .fld .CORE_QSTAT,
        .fld .MOD_FA_FAULT_ADDR, .fld .MOD_FA_FAULT_INFO, .fld .MOD_HOST_ERR_p, .fld .PWR_TELEM_IN_p, .fld .QUEUE_BASE, .fld .QUEUE_CTL,
        .fld .QUEUE_LEVEL, .fld .QUEUE_STAT, .fld .QUEUE_WM, .fld .SPD_ELASTIC, .fld .TC_NOW, .flds, .msgs, .ports, .queues, .resp, .spd,
        .spdPoison] s t := by
  unfold execSlosyRead at h
  cases h
  refine Eff.Only.same ?_ _
  repeat first
    | with_reducible exact only_seq_nil _
    | with_reducible apply only_seq_cons
    | (with_reducible apply only_rd; intro)
    | (with_reducible apply only_tcTo; decide)
    | (with_reducible apply only_refuseIf; · decide)
    | (with_reducible apply only_slosyAnswer; decide)
    | (with_reducible apply only_slosyReads; · decide)
    | (with_reducible apply only_slosyServe; · decide)
    | with_reducible intro _
    | split
    | dsimp only

theorem frame_execSlosyWrite (tc : Nat) (s : State) {t : State} (h : execSlosyWrite tc s = .next t) :
    SameBut [.caches, .cores, .dbg, .dram, .dramPoison, .dramWritten, .ev, .fld .CCH_HITS, .fld .CCH_MISSES, .fld .CORE_QSTAT,
        .fld .MOD_FA_FAULT_ADDR, .fld .MOD_FA_FAULT_INFO, .fld .MOD_HOST_ERR_p, .fld .PWR_TELEM_IN_p, .fld .QUEUE_BASE, .fld .QUEUE_CTL,
        .fld .QUEUE_LEVEL, .fld .QUEUE_STAT, .fld .QUEUE_WM, .fld .SPD_ELASTIC, .fld .TC_NOW, .flds, .msgs, .ports, .queues, .resp, .spd,
        .spdPoison] s t := by
  unfold execSlosyWrite at h
  cases h
  refine Eff.Only.same ?_ _
  repeat first
    | with_reducible exact only_seq_nil _
    | with_reducible apply only_seq_cons
    | (with_reducible apply only_rd; intro)
    | (with_reducible apply only_tcTo; decide)
    | (with_reducible apply only_refuseIf; · decide)
    | (with_reducible apply only_slosyAnswer; decide)
    | (with_reducible apply only_slosyServe; · decide)
    | (with_reducible apply only_slosyWrites; · decide)
    | with_reducible intro _
    | split
    | dsimp only

theorem frame_execSlosyApertureRead (s : State) {t : State} (h : execSlosyApertureRead s = .next t) :
    SameBut [.dbg, .msgs, .resp] s t := by
  unfold execSlosyApertureRead at h
  cases h
  refine Eff.Only.same ?_ _
  repeat first
    | (with_reducible apply only_rd; intro)
    | (with_reducible apply only_refuseIf; · decide)
    | (with_reducible apply only_slosyAnswer; decide)
    | (with_reducible apply only_slosyServe; · decide)
    | with_reducible intro _
    | split
    | dsimp only

theorem frame_execSlosyHold (tc : Nat) (s : State) {t : State} (h : execSlosyHold tc s = .next t) :
    SameBut [.ctl, .dbg, .dec, .fld .DBG_HOLD, .fld .TC_NOW, .msgs, .resp] s t := by
  unfold execSlosyHold at h
  cases h
  refine Eff.Only.same ?_ _
  repeat first
    | with_reducible exact only_seq_nil _
    | with_reducible apply only_seq_cons
    | (with_reducible apply only_rd; intro)
    | with_reducible apply only_either
    | (with_reducible apply only_tcTo; decide)
    | (with_reducible apply only_holdChange; decide)
    | (with_reducible apply only_refuseIf; · decide)
    | (with_reducible apply only_slosyAnswer; decide)
    | (with_reducible apply only_slosyServe; · decide)
    | with_reducible intro _
    | dsimp only

theorem frame_execSlosyRelease (tc : Nat) (s : State) {t : State} (h : execSlosyRelease tc s = .next t) :
    SameBut [.ctl, .dbg, .dec, .fld .DBG_HOLD, .fld .TC_NOW, .msgs, .resp] s t := by
  unfold execSlosyRelease at h
  cases h
  refine Eff.Only.same ?_ _
  repeat first
    | with_reducible exact only_seq_nil _
    | with_reducible apply only_seq_cons
    | (with_reducible apply only_rd; intro)
    | with_reducible apply only_either
    | (with_reducible apply only_tcTo; decide)
    | (with_reducible apply only_holdChange; decide)
    | (with_reducible apply only_refuseIf; · decide)
    | (with_reducible apply only_slosyAnswer; decide)
    | (with_reducible apply only_slosyServe; · decide)
    | with_reducible intro _
    | dsimp only

theorem frame_execSlosyStep (tc : Nat) (s : State) {t : State} (h : execSlosyStep tc s = .next t) :
    SameBut [.ctl, .dbg, .dec, .fld .DBG_HOLD, .fld .TC_NOW, .msgs, .resp] s t := by
  unfold execSlosyStep at h
  cases h
  refine Eff.Only.same ?_ _
  repeat first
    | with_reducible exact only_seq_nil _
    | with_reducible apply only_seq_cons
    | (with_reducible apply only_rd; intro)
    | (with_reducible apply only_tcTo; decide)
    | (with_reducible apply only_holdChange; decide)
    | (with_reducible apply only_refuseIf; · decide)
    | (with_reducible apply only_slosyServe; · decide)
    | with_reducible intro _
    | dsimp only

theorem frame_execSlosyHoldStat (s : State) {t : State} (h : execSlosyHoldStat s = .next t) :
    SameBut [.dbg, .msgs, .resp] s t := by
  unfold execSlosyHoldStat at h
  cases h
  refine Eff.Only.same ?_ _
  repeat first
    | (with_reducible apply only_rd; intro)
    | (with_reducible apply only_refuseIf; · decide)
    | (with_reducible apply only_slosyAnswer; decide)
    | (with_reducible apply only_slosyServe; · decide)
    | with_reducible intro _
    | dsimp only

theorem frame_execDebugHoldApply (flask : FlaskId) (tc : Nat) (s : State) {t : State} (h : execDebugHoldApply flask tc s = .next t) :
    SameBut [.dbg, .ev, .fld .DBG_HOLD, .fld .SPR_STAT, .fld .TC_NOW] s t := by
  unfold execDebugHoldApply at h
  cases h
  refine Eff.Only.same ?_ _
  repeat first
    | with_reducible exact only_nop _
    | with_reducible exact only_seq_nil _
    | with_reducible apply only_seq_cons
    | (with_reducible apply only_rd; intro)
    | (with_reducible apply only_when; intro)
    | (with_reducible apply only_tcTo; decide)
    | (with_reducible apply only_armedBit; decide)
    | (with_reducible apply only_holdArm; decide)
    | (with_reducible apply only_holdBegin; decide)
    | (with_reducible apply only_holdRelease; decide)
    | (with_reducible apply only_sprSync; decide)
    | with_reducible apply only_updates
    | with_reducible exact within_nil _
    | (with_reducible apply within_cons; · exact (by dsimp only [Upd.part]; decide))
    | with_reducible apply within_append
    | (with_reducible apply within_map; intros; exact (by dsimp only [Upd.part]; decide))
    | (with_reducible apply within_flatMap; intro _ _)
    | split
    | dsimp only

theorem frame_execSlosyScanCore (s : State) {t : State} (h : execSlosyScanCore s = .next t) :
    SameBut [.dbg, .msgs, .resp] s t := by
  unfold execSlosyScanCore at h
  cases h
  refine Eff.Only.same ?_ _
  repeat first
    | with_reducible exact only_nop _
    | (with_reducible apply only_rd; intro)
    | (with_reducible apply only_refuseIf; · decide)
    | (with_reducible apply only_slosyAnswer; decide)
    | (with_reducible apply only_slosyServe; · decide)
    | with_reducible intro _
    | split
    | dsimp only

theorem frame_execSlosyBpSet (s : State) {t : State} (h : execSlosyBpSet s = .next t) :
    SameBut [.dbg, .fld .DBG_BP_CTL_n, .fld .DBG_BP_LIMIT_n, .fld .DBG_BP_MATCH_n, .msgs, .resp] s t := by
  unfold execSlosyBpSet at h
  cases h
  refine Eff.Only.same ?_ _
  repeat first
    | with_reducible exact only_seq_nil _
    | with_reducible apply only_seq_cons
    | (with_reducible apply only_rd; intro)
    | (with_reducible apply only_fset; decide)
    | (with_reducible apply only_refuseIf; · decide)
    | (with_reducible apply only_regWrite; first | exact .inl ((by decide)) | exact .inr ((by decide)))
    | (with_reducible apply only_slosyAnswer; decide)
    | (with_reducible apply only_slosyServe; · decide)
    | with_reducible intro _
    | with_reducible apply only_updates
    | with_reducible exact within_nil _
    | (with_reducible apply within_cons; · exact (by dsimp only [Upd.part]; decide))
    | with_reducible apply within_append
    | (with_reducible apply within_map; intros; exact (by dsimp only [Upd.part]; decide))
    | (with_reducible apply within_flatMap; intro _ _)
    | split
    | dsimp only

theorem frame_execSlosyBpClear (s : State) {t : State} (h : execSlosyBpClear s = .next t) :
    SameBut [.dbg, .fld .DBG_BP_CTL_n, .fld .DBG_BP_HIT_n, .fld .DBG_BP_LIMIT_n, .fld .DBG_BP_MATCH_n, .msgs, .resp] s t := by
  unfold execSlosyBpClear at h
  cases h
  refine Eff.Only.same ?_ _
  repeat first
    | with_reducible exact only_seq_nil _
    | with_reducible apply only_seq_cons
    | (with_reducible apply only_rd; intro)
    | (with_reducible apply only_regReset; decide)
    | (with_reducible apply only_refuseIf; · decide)
    | (with_reducible apply only_slosyAnswer; decide)
    | (with_reducible apply only_slosyServe; · decide)
    | with_reducible intro _
    | with_reducible apply only_updates
    | with_reducible exact within_nil _
    | (with_reducible apply within_cons; · exact (by dsimp only [Upd.part]; decide))
    | with_reducible apply within_append
    | (with_reducible apply within_map; intros; exact (by dsimp only [Upd.part]; decide))
    | (with_reducible apply within_flatMap; intro _ _)
    | dsimp only

theorem frame_execSlosyBpStat (s : State) {t : State} (h : execSlosyBpStat s = .next t) :
    SameBut [.dbg, .msgs, .resp] s t := by
  unfold execSlosyBpStat at h
  cases h
  refine Eff.Only.same ?_ _
  repeat first
    | (with_reducible apply only_rd; intro)
    | (with_reducible apply only_slosyAnswer; decide)
    | (with_reducible apply only_slosyServe; · decide)
    | with_reducible intro _

theorem frame_execDbgBpHit (bp : Fin 8) (hit : BpHit) (tc : Nat) (s : State) {t : State} (h : execDbgBpHit bp hit tc s = .next t) :
    SameBut [.dbg, .ev, .fld .DBG_BP_HIT_n, .fld .DBG_HOLD, .fld .TC_NOW, .freeCtr] s t := by
  unfold execDbgBpHit at h
  cases h
  refine Eff.Only.same ?_ _
  repeat first
    | with_reducible exact only_seq_nil _
    | with_reducible apply only_seq_cons
    | (with_reducible apply only_rd; intro)
    | (with_reducible apply only_when; intro)
    | (with_reducible apply only_draw; · decide)
    | (with_reducible apply only_tcTo; decide)
    | (with_reducible apply only_bpCapture; decide)
    | with_reducible intro _
    | with_reducible apply only_updates
    | with_reducible exact within_nil _
    | (with_reducible apply within_cons; · exact (by dsimp only [Upd.part]; decide))
    | with_reducible apply within_append
    | (with_reducible apply within_map; intros; exact (by dsimp only [Upd.part]; decide))
    | (with_reducible apply within_flatMap; intro _ _)
    | split
    | dsimp only

theorem frame_execSeSmmaStart (core : CoreId) (engine : Fin 8) (faults : EngFaults) (s : State) {t : State} (h : execSeSmmaStart core engine faults
    s = .next t) :
    SameBut [.cores, .dbg, .ev, .faults, .flasks, .fld .CORE_MOULD, .fld .CORE_SC, .fld .CORE_SEQ, .fld .CORE_STAT, .fld .DBG_HOLD, .fld .LDL_CTX_n,
        .fld .ME_ERR, .fld .ME_STALL, .fld .ME_STAT, .fld .MOD_FAULT_STAT, .fld .MOD_GRID_STAT, .fld .MOD_MB_SUMMARY, .fld .QUEUE_BASE,
        .fld .QUEUE_CTL, .fld .QUEUE_DB, .fld .QUEUE_LEVEL, .fld .QUEUE_STAT, .fld .QUEUE_WM, .fld .SE_ERR, .fld .SE_SKIPPED, .fld .SE_STALL,
        .fld .SE_STAT, .fld .SPD_CONFLICT, .fld .SPD_ECC, .fld .SPD_ECC_ADDR, .fld .SPR_STAT, .fld .VU_STAT, .hostOut, .hports, .ldls, .mes, .msgs,
        .queues, .ses, .slots, .spdPoison, .vus] s t := by
  unfold execSeSmmaStart at h
  cases h
  refine Eff.Only.same ?_ _
  repeat first
    | with_reducible exact only_seq_nil _
    | with_reducible apply only_seq_cons
    | (with_reducible apply only_rd; intro)
    | (with_reducible apply only_when; intro)
    | (with_reducible apply only_fset; decide)
    | (with_reducible apply only_fadd; decide)
    | (with_reducible apply only_raise; decide)
    | (with_reducible apply only_engStart; · decide)
    | with_reducible intro _
    | split
    | dsimp only

theorem frame_execSeDrain (core : CoreId) (engine : Fin 8) (faults : EngFaults) (s : State) {t : State} (h : execSeDrain core engine faults s =
    .next t) :
    SameBut [.cores, .dbg, .ev, .faults, .flasks, .fld .CORE_MOULD, .fld .CORE_SC, .fld .CORE_SEQ, .fld .CORE_STAT, .fld .DBG_HOLD, .fld .LDL_CTX_n,
        .fld .ME_ERR, .fld .ME_FLAGS, .fld .ME_HASH, .fld .ME_LAST_TAG, .fld .ME_STAT, .fld .ME_TILES, .fld .MOD_FAULT_STAT, .fld .MOD_GRID_STAT,
        .fld .MOD_MB_SUMMARY, .fld .QUEUE_BASE, .fld .QUEUE_CTL, .fld .QUEUE_DB, .fld .QUEUE_LEVEL, .fld .QUEUE_STAT, .fld .QUEUE_WM, .fld .SE_ERR,
        .fld .SE_FLAGS, .fld .SE_HASH, .fld .SE_STAT, .fld .SE_TILES, .fld .SPD_CONFLICT, .fld .SPD_ECC, .fld .SPD_ECC_ADDR, .fld .SPR_STAT,
        .fld .VU_ERR, .fld .VU_STAT, .hostOut, .hports, .ldls, .mes, .msgs, .queues, .ses, .slots, .spd, .spdPoison, .vus] s t := by
  unfold execSeDrain at h
  cases h
  refine Eff.Only.same ?_ _
  repeat first
    | (with_reducible apply only_engDrain; decide)

theorem frame_execSeLoadAStart (core : CoreId) (engine : Fin 8) (s : State) {t : State} (h : execSeLoadAStart core engine s = .next t) :
    SameBut [.mes, .ses] s t := by
  unfold execSeLoadAStart at h
  cases h
  refine Eff.Only.same ?_ _
  repeat first
    | (with_reducible apply only_loadAStart; decide)

theorem frame_execSprueBeatReceive (core : CoreId) (input : Fin 8) (sc : Nat) (beat : Beat) (fault : BeatFault) (rsp : Bool) (credits : Fin 5 × Fin
    5) (lost : List (Nat × Nat)) (s : State) {t : State} (h : execSprueBeatReceive core input sc beat fault rsp credits lost s = .next t) :
    SameBut [.cores, .dec, .ev, .faults, .flasks, .fld .CLK_CHG_STAT, .fld .MOD_FAULT_STAT, .fld .SPD_CONFLICT, .fld .SPR_ELASTIC, .fld .SPR_ERR,
        .fld .SPR_SLIP, .fld .SPR_SLIP_INFO, .msgs, .ports, .spd, .spdPoison] s t := by
  unfold execSprueBeatReceive at h
  cases h
  refine Eff.Only.same ?_ _
  repeat first
    | with_reducible exact only_nop _
    | with_reducible exact only_seq_nil _
    | with_reducible apply only_seq_cons
    | (with_reducible apply only_rd; intro)
    | (with_reducible apply only_when; intro)
    | with_reducible apply only_either
    | (with_reducible apply only_each; intro _ _)
    | (with_reducible apply only_fset; decide)
    | (with_reducible apply only_fsat; decide)
    | (with_reducible apply only_raise; decide)
    | (with_reducible apply only_send; decide)
    | (with_reducible apply only_elasticCredit; decide)
    | (with_reducible apply only_elasticIn; decide)
    | (with_reducible apply only_inputSlot; decide)
    | (with_reducible apply only_spdConflict; decide)
    | with_reducible intro _
    | split
    | dsimp only

theorem frame_execSprueDeparture (core : CoreId) (out : Fin 8) (sc : Nat) (what : Departure) (lost : List (Nat × Nat)) (s : State) {t : State} (h :
    execSprueDeparture core out sc what lost s = .next t) :
    SameBut [.cores, .ev, .fld .SPD_CONFLICT, .fld .SPR_ELASTIC, .msgs, .ports] s t := by
  unfold execSprueDeparture at h
  cases h
  refine Eff.Only.same ?_ _
  repeat first
    | with_reducible exact only_nop _
    | with_reducible exact only_seq_nil _
    | with_reducible apply only_seq_cons
    | (with_reducible apply only_rd; intro)
    | (with_reducible apply only_when; intro)
    | (with_reducible apply only_each; intro _ _)
    | (with_reducible apply only_fadd; decide)
    | (with_reducible apply only_send; decide)
    | (with_reducible apply only_onCore; decide)
    | (with_reducible apply only_departs; decide)
    | (with_reducible apply only_drive; decide)
    | (with_reducible apply only_spdConflict; decide)
    | with_reducible intro _
    | split
    | dsimp only

theorem frame_execHaltNotice (core : CoreId) (s : State) {t : State} (h : execHaltNotice core s = .next t) :
    SameBut [.flasks] s t := by
  unfold execHaltNotice at h
  cases h
  refine Eff.Only.same ?_ _
  repeat first
    | with_reducible exact only_nop _
    | (with_reducible apply only_rd; intro)
    | (with_reducible apply only_faultHaltAtFrame; decide)
    | split
    | dsimp only

theorem frame_execVentFlitReceive (link : Fin 31) (cluster : ClusterId) (cls : Fin 3) (header : Bool) (occupancy : Fin 9) (crcOk : Bool) (s : State)
    {t : State} (h : execVentFlitReceive link cluster cls header occupancy crcOk s = .next t) :
    SameBut [.dbg, .ev, .faults, .flasks, .fld .CLU_VENT, .fld .CORE_STAT, .fld .DBG_HOLD, .fld .MOD_FAULT_STAT, .fld .MOD_MB_SUMMARY,
        .fld .SPR_STAT, .fld .VNT_ERR, .fld .VNT_STAT, .hostOut, .hports, .msgs, .slots] s t := by
  unfold execVentFlitReceive at h
  cases h
  refine Eff.Only.same ?_ _
  repeat first
    | with_reducible exact only_seq_nil _
    | with_reducible apply only_seq_cons
    | (with_reducible apply only_rd; intro)
    | (with_reducible apply only_when; intro)
    | with_reducible apply only_either
    | (with_reducible apply only_fadd; decide)
    | (with_reducible apply only_fsat; decide)
    | (with_reducible apply only_fmax; decide)
    | (with_reducible apply only_fbit; decide)
    | (with_reducible apply only_fatal; decide)
    | with_reducible apply only_updates
    | with_reducible exact within_nil _
    | (with_reducible apply within_cons; · exact (by dsimp only [Upd.part]; decide))
    | with_reducible apply within_append
    | (with_reducible apply within_map; intros; exact (by dsimp only [Upd.part]; decide))
    | (with_reducible apply within_flatMap; intro _ _)
    | split
    | dsimp only

theorem frame_execSyncTimer (port : PortId) (tc : Nat) (s : State) {t : State} (h : execSyncTimer port tc s = .next t) :
    SameBut [.fld .TC_NOW, .msgs, .ports] s t := by
  unfold execSyncTimer at h
  cases h
  refine Eff.Only.same ?_ _
  repeat first
    | with_reducible exact only_seq_nil _
    | with_reducible apply only_seq_cons
    | (with_reducible apply only_rd; intro)
    | (with_reducible apply only_when; intro)
    | (with_reducible apply only_send; decide)
    | (with_reducible apply only_tcTo; decide)
    | (with_reducible apply only_onPort; decide)
    | dsimp only

theorem frame_execSyncReq (port : PortId) (msg : SyncMsg) (rxTc : Nat) (txTc : Nat) (s : State) {t : State} (h : execSyncReq port msg rxTc txTc s =
    .next t) :
    SameBut [.fld .TC_NOW, .msgs] s t := by
  unfold execSyncReq at h
  cases h
  refine Eff.Only.same ?_ _
  repeat first
    | with_reducible exact only_seq_nil _
    | with_reducible apply only_seq_cons
    | (with_reducible apply only_rd; intro)
    | (with_reducible apply only_when; intro)
    | (with_reducible apply only_send; decide)
    | (with_reducible apply only_tcTo; decide)

theorem frame_execSyncRsp (port : PortId) (msg : SyncMsg) (rxTc : Nat) (calib : ℤ) (skew : ℤ) (s : State) {t : State} (h : execSyncRsp port msg rxTc
    calib skew s = .next t) :
    SameBut [.align, .ctl, .ev, .flasks, .fld .CLK_CHG_STAT, .fld .MOD_MB_SUMMARY, .fld .MOD_POUR_ID, .fld .RUN_DELAY, .fld .RUN_STAT,
        .fld .TC_ALIGN_STAT, .fld .TC_NOW, .hostOut, .hports, .msgs, .pour, .slots] s t := by
  unfold execSyncRsp at h
  cases h
  refine Eff.Only.same ?_ _
  repeat first
    | with_reducible exact only_seq_nil _
    | with_reducible apply only_seq_cons
    | (with_reducible apply only_rd; intro)
    | (with_reducible apply only_when; intro)
    | (with_reducible apply only_fset; decide)
    | (with_reducible apply only_tcTo; decide)
    | (with_reducible apply only_alignCorrect; decide)
    | (with_reducible apply only_alignExchange; decide)
    | (with_reducible apply only_formedReport; decide)
    | (with_reducible apply only_pourFail; decide)
    | dsimp only

theorem frame_execUpstreamPortLost (port : PortId) (altAccepted : Bool) (s : State) {t : State} (h : execUpstreamPortLost port altAccepted s = .next
    t) :
    SameBut [.align, .ctl, .ev, .flasks, .fld .CLK_CHG_STAT, .fld .MOD_MB_SUMMARY, .fld .MOD_POUR_ID, .fld .RUN_STAT, .fld .TC_ALIGN_STAT, .hostOut,
        .hports, .msgs, .pour, .slots] s t := by
  unfold execUpstreamPortLost at h
  cases h
  refine Eff.Only.same ?_ _
  repeat first
    | (with_reducible apply only_upstreamLost; decide)

theorem frame_execAcquireTimeout (tc : Nat) (s : State) {t : State} (h : execAcquireTimeout tc s = .next t) :
    SameBut [.align, .ctl, .ev, .flasks, .fld .CLK_CHG_STAT, .fld .MOD_MB_SUMMARY, .fld .MOD_POUR_ID, .fld .RUN_STAT, .fld .TC_ALIGN_STAT,
        .fld .TC_NOW, .hostOut, .hports, .msgs, .pour, .slots] s t := by
  unfold execAcquireTimeout at h
  cases h
  refine Eff.Only.same ?_ _
  repeat first
    | with_reducible exact only_seq_nil _
    | with_reducible apply only_seq_cons
    | (with_reducible apply only_rd; intro)
    | (with_reducible apply only_when; intro)
    | (with_reducible apply only_tcTo; decide)
    | (with_reducible apply only_alignLost; decide)

theorem frame_execHoldoverErrorLimit (tc : Nat) (s : State) {t : State} (h : execHoldoverErrorLimit tc s = .next t) :
    SameBut [.align, .ctl, .ev, .flasks, .fld .CLK_CHG_STAT, .fld .MOD_MB_SUMMARY, .fld .MOD_POUR_ID, .fld .RUN_STAT, .fld .TC_ALIGN_STAT,
        .fld .TC_NOW, .hostOut, .hports, .msgs, .pour, .slots] s t := by
  unfold execHoldoverErrorLimit at h
  cases h
  refine Eff.Only.same ?_ _
  repeat first
    | with_reducible exact only_seq_nil _
    | with_reducible apply only_seq_cons
    | (with_reducible apply only_rd; intro)
    | (with_reducible apply only_when; intro)
    | (with_reducible apply only_tcTo; decide)
    | (with_reducible apply only_alignLost; decide)
    | dsimp only

theorem frame_execHoldPointStart (tc : Nat) (s : State) {t : State} (h : execHoldPointStart tc s = .next t) :
    SameBut [.fld .SPR_STAT, .fld .TC_FRAME, .fld .TC_NOW, .gclk] s t := by
  unfold execHoldPointStart at h
  cases h
  refine Eff.Only.same ?_ _
  repeat first
    | with_reducible exact only_seq_nil _
    | with_reducible apply only_seq_cons
    | (with_reducible apply only_rd; intro)
    | (with_reducible apply only_when; intro)
    | (with_reducible apply only_tcTo; decide)
    | (with_reducible apply only_holdPoint; decide)
    | dsimp only

theorem frame_execArm (rec : Decision) (offGrid : Bool) (regionFault : Bool) (s : State) {t : State} (h : execArm rec offGrid regionFault s = .next
    t) :
    SameBut [.dec, .ev, .flasks, .fld .CLK_ARM, .fld .CLK_ARM_TARGET, .fld .CLK_CHG_STAT, .fld .PWR_CLUSTER_c, .msgs] s t := by
  unfold execArm at h
  cases h
  refine Eff.Only.same ?_ _
  repeat first
    | (with_reducible apply only_armCopy; decide)

theorem frame_execAck (port : PortId) (seq_ : Nat) (s : State) {t : State} (h : execAck port seq_ s = .next t) :
    SameBut [.ctl, .dec, .msgs] s t := by
  unfold execAck at h
  cases h
  refine Eff.Only.same ?_ _
  repeat first
    | with_reducible exact only_seq_nil _
    | with_reducible apply only_seq_cons
    | (with_reducible apply only_rd; intro)
    | (with_reducible apply only_when; intro)
    | (with_reducible apply only_ackUp; decide)
    | (with_reducible apply only_ctlAckUp; decide)
    | with_reducible apply only_updates
    | with_reducible exact within_nil _
    | (with_reducible apply within_cons; · exact (by dsimp only [Upd.part]; decide))
    | with_reducible apply within_append
    | (with_reducible apply within_map; intros; exact (by dsimp only [Upd.part]; decide))
    | (with_reducible apply within_flatMap; intro _ _)
    | split
    | dsimp only

theorem frame_execArmDeadline (tc : Nat) (s : State) {t : State} (h : execArmDeadline tc s = .next t) :
    SameBut [.ctl, .dbg, .dec, .ev, .flasks, .fld .CLK_ARM, .fld .CLK_CHG_STAT, .fld .DBG_HOLD, .fld .MOD_MB_SUMMARY, .fld .PWR_CLUSTER_c,
        .fld .TC_NOW, .hostOut, .hports, .msgs, .resp, .slots] s t := by
  unfold execArmDeadline at h
  cases h
  refine Eff.Only.same ?_ _
  repeat first
    | with_reducible exact only_nop _
    | with_reducible exact only_seq_nil _
    | with_reducible apply only_seq_cons
    | (with_reducible apply only_rd; intro)
    | (with_reducible apply only_when; intro)
    | with_reducible apply only_either
    | (with_reducible apply only_fset; decide)
    | (with_reducible apply only_raise; decide)
    | (with_reducible apply only_send; decide)
    | (with_reducible apply only_tcTo; decide)
    | (with_reducible apply only_ctlDeadline; decide)
    | (with_reducible apply only_requestFails; decide)
    | (with_reducible apply only_withdrawn; decide)
    | split
    | dsimp only

theorem frame_execGo (rec : Decision) (s : State) {t : State} (h : execGo rec s = .next t) :
    SameBut [.dec, .ev, .flasks, .fld .CLK_ARM, .fld .CLK_CHG_STAT, .msgs] s t := by
  unfold execGo at h
  cases h
  refine Eff.Only.same ?_ _
  repeat first
    | with_reducible exact only_nop _
    | with_reducible exact only_seq_nil _
    | with_reducible apply only_seq_cons
    | (with_reducible apply only_rd; intro)
    | (with_reducible apply only_when; intro)
    | with_reducible apply only_either
    | (with_reducible apply only_fset; decide)
    | (with_reducible apply only_send; decide)
    | (with_reducible apply only_decisionConflict; decide)
    | split
    | dsimp only

theorem frame_execWithdraw (rec : Decision) (s : State) {t : State} (h : execWithdraw rec s = .next t) :
    SameBut [.dec, .fld .CLK_ARM, .fld .CLK_CHG_STAT, .fld .PWR_CLUSTER_c, .msgs] s t := by
  unfold execWithdraw at h
  cases h
  refine Eff.Only.same ?_ _
  repeat first
    | with_reducible exact only_nop _
    | with_reducible exact only_seq_nil _
    | with_reducible apply only_seq_cons
    | (with_reducible apply only_rd; intro)
    | (with_reducible apply only_when; intro)
    | (with_reducible apply only_send; decide)
    | (with_reducible apply only_withdrawn; decide)
    | split
    | dsimp only

theorem frame_execGoDeadline (tc : Nat) (s : State) {t : State} (h : execGoDeadline tc s = .next t) :
    SameBut [.ctl, .dec, .ev, .flasks, .fld .CLK_ARM, .fld .CLK_CHG_STAT, .fld .PWR_CLUSTER_c, .fld .TC_NOW, .msgs] s t := by
  unfold execGoDeadline at h
  cases h
  refine Eff.Only.same ?_ _
  repeat first
    | with_reducible exact only_seq_nil _
    | with_reducible apply only_seq_cons
    | (with_reducible apply only_rd; intro)
    | (with_reducible apply only_when; intro)
    | (with_reducible apply only_tcTo; decide)
    | (with_reducible apply only_decisionMissing; decide)
    | with_reducible apply only_updates
    | with_reducible exact within_nil _
    | (with_reducible apply within_cons; · exact (by dsimp only [Upd.part]; decide))
    | with_reducible apply within_append
    | (with_reducible apply within_map; intros; exact (by dsimp only [Upd.part]; decide))
    | (with_reducible apply within_flatMap; intro _ _)
    | dsimp only

theorem frame_execDecisionCommit (tc : Nat) (relockFail : List Nat) (s : State) {t : State} (h : execDecisionCommit tc relockFail s = .next t) :
    SameBut [.cores, .dbg, .dec, .ev, .faults, .flasks, .fld .CLK_ARM, .fld .CLK_CHG_STAT, .fld .CLK_PSTEP, .fld .CLK_STOP_STAT, .fld .CLU_CORES,
        .fld .CORE_MOULD, .fld .CORE_SC, .fld .CORE_SEQ, .fld .CORE_STAT, .fld .DBG_HOLD, .fld .LDL_CTX_n, .fld .ME_STAT, .fld .MOD_BOOT_ERR,
        .fld .MOD_FAULT_STAT, .fld .MOD_GRID_STAT, .fld .MOD_MB_SUMMARY, .fld .MOD_ROW_MAP_r, .fld .PWR_CLUSTER_c, .fld .PWR_RISER_LEAD,
        .fld .QUEUE_BASE, .fld .QUEUE_CTL, .fld .QUEUE_DB, .fld .QUEUE_LEVEL, .fld .QUEUE_STAT, .fld .QUEUE_WM, .fld .SE_STAT, .fld .SPD_ELASTIC,
        .fld .SPD_STAT, .fld .SPR_STAT, .fld .TC_FRAME, .fld .TC_NOW, .fld .VU_STAT, .gclk, .hostOut, .hports, .ldls, .mes, .msgs, .queues, .ses,
        .slag, .slots, .vus] s t := by
  unfold execDecisionCommit at h
  cases h
  refine Eff.Only.same ?_ _
  repeat first
    | with_reducible exact only_nop _
    | with_reducible exact only_seq_nil _
    | with_reducible apply only_seq_cons
    | (with_reducible apply only_rd; intro)
    | (with_reducible apply only_when; intro)
    | with_reducible apply only_either
    | (with_reducible apply only_fset; decide)
    | (with_reducible apply only_fadd; decide)
    | (with_reducible apply only_tcTo; decide)
    | (with_reducible apply only_onSlot; decide)
    | (with_reducible apply only_armClear; decide)
    | (with_reducible apply only_holdPoint; decide)
    | (with_reducible apply only_mbDone; decide)
    | (with_reducible apply only_pstepSet; decide)
    | (with_reducible apply only_remark; decide)
    | (with_reducible apply only_shortStop; decide)
    | with_reducible apply only_updates
    | with_reducible exact within_nil _
    | (with_reducible apply within_cons; · exact (by dsimp only [Upd.part]; decide))
    | with_reducible apply within_append
    | (with_reducible apply within_map; intros; exact (by dsimp only [Upd.part]; decide))
    | (with_reducible apply within_flatMap; intro _ _)
    | split
    | dsimp only

theorem frame_execVopMove (core : CoreId) (args : VopArgs) (s : State) {t : State} (h : execVopMove core args s = .next t) :
    SameBut [.cores, .dbg, .ev, .faults, .flasks, .fld .CORE_MOULD, .fld .CORE_SC, .fld .CORE_SEQ, .fld .CORE_SEQ_ERR, .fld .CORE_STAT,
        .fld .DBG_HOLD, .fld .LDL_CTX_n, .fld .ME_STAT, .fld .MOD_FAULT_STAT, .fld .MOD_GRID_STAT, .fld .MOD_MB_SUMMARY, .fld .QUEUE_BASE,
        .fld .QUEUE_CTL, .fld .QUEUE_DB, .fld .QUEUE_LEVEL, .fld .QUEUE_STAT, .fld .QUEUE_WM, .fld .SE_STAT, .fld .SPR_STAT, .fld .VU_ERR,
        .fld .VU_FLAGS, .fld .VU_STAT, .hostOut, .hports, .ldls, .mes, .msgs, .queues, .ses, .slots, .vus] s t := by
  unfold execVopMove at h
  cases h
  refine Eff.Only.same ?_ _
  repeat first
    | (with_reducible apply only_rd; intro)
    | (with_reducible apply only_vop; · decide)
    | (with_reducible apply only_vopLanes; decide)
    | split
    | dsimp only

theorem frame_execVopArithmetic (core : CoreId) (args : VopArgs) (s : State) {t : State} (h : execVopArithmetic core args s = .next t) :
    SameBut [.cores, .dbg, .ev, .faults, .flasks, .fld .CORE_MOULD, .fld .CORE_SC, .fld .CORE_SEQ, .fld .CORE_SEQ_ERR, .fld .CORE_STAT,
        .fld .DBG_HOLD, .fld .LDL_CTX_n, .fld .ME_STAT, .fld .MOD_FAULT_STAT, .fld .MOD_GRID_STAT, .fld .MOD_MB_SUMMARY, .fld .QUEUE_BASE,
        .fld .QUEUE_CTL, .fld .QUEUE_DB, .fld .QUEUE_LEVEL, .fld .QUEUE_STAT, .fld .QUEUE_WM, .fld .SE_STAT, .fld .SPR_STAT, .fld .VU_ERR,
        .fld .VU_FLAGS, .fld .VU_STAT, .hostOut, .hports, .ldls, .mes, .msgs, .queues, .ses, .slots, .vus] s t := by
  unfold execVopArithmetic at h
  cases h
  refine Eff.Only.same ?_ _
  repeat first
    | (with_reducible apply only_vop; · decide)
    | (with_reducible apply only_vopLanes; decide)
    | split
    | dsimp only

theorem frame_execVopFma (core : CoreId) (args : VopArgs) (s : State) {t : State} (h : execVopFma core args s = .next t) :
    SameBut [.cores, .dbg, .ev, .faults, .flasks, .fld .CORE_MOULD, .fld .CORE_SC, .fld .CORE_SEQ, .fld .CORE_SEQ_ERR, .fld .CORE_STAT,
        .fld .DBG_HOLD, .fld .LDL_CTX_n, .fld .ME_STAT, .fld .MOD_FAULT_STAT, .fld .MOD_GRID_STAT, .fld .MOD_MB_SUMMARY, .fld .QUEUE_BASE,
        .fld .QUEUE_CTL, .fld .QUEUE_DB, .fld .QUEUE_LEVEL, .fld .QUEUE_STAT, .fld .QUEUE_WM, .fld .SE_STAT, .fld .SPR_STAT, .fld .VU_ERR,
        .fld .VU_FLAGS, .fld .VU_STAT, .hostOut, .hports, .ldls, .mes, .msgs, .queues, .ses, .slots, .vus] s t := by
  unfold execVopFma at h
  cases h
  refine Eff.Only.same ?_ _
  repeat first
    | (with_reducible apply only_vop; · decide)
    | (with_reducible apply only_vopLanes; decide)

theorem frame_execVopPermute (core : CoreId) (args : VopArgs) (s : State) {t : State} (h : execVopPermute core args s = .next t) :
    SameBut [.cores, .dbg, .ev, .faults, .flasks, .fld .CORE_MOULD, .fld .CORE_SC, .fld .CORE_SEQ, .fld .CORE_SEQ_ERR, .fld .CORE_STAT,
        .fld .DBG_HOLD, .fld .LDL_CTX_n, .fld .ME_STAT, .fld .MOD_FAULT_STAT, .fld .MOD_GRID_STAT, .fld .MOD_MB_SUMMARY, .fld .QUEUE_BASE,
        .fld .QUEUE_CTL, .fld .QUEUE_DB, .fld .QUEUE_LEVEL, .fld .QUEUE_STAT, .fld .QUEUE_WM, .fld .SE_STAT, .fld .SPR_STAT, .fld .VU_ERR,
        .fld .VU_FLAGS, .fld .VU_STAT, .freeCtr, .hostOut, .hports, .ldls, .mes, .msgs, .queues, .ses, .slots, .vus] s t := by
  unfold execVopPermute at h
  cases h
  refine Eff.Only.same ?_ _
  repeat first
    | (with_reducible apply only_drawLanes; · decide)
    | (with_reducible apply only_vop; · decide)
    | (with_reducible apply only_vopLanes; decide)
    | with_reducible intro _
    | split
    | dsimp only

theorem frame_execVopIngress (core : CoreId) (args : VopArgs) (s : State) {t : State} (h : execVopIngress core args s = .next t) :
    SameBut [.cores, .dbg, .ev, .faults, .flasks, .fld .CORE_MOULD, .fld .CORE_SC, .fld .CORE_SEQ, .fld .CORE_SEQ_ERR, .fld .CORE_STAT,
        .fld .DBG_HOLD, .fld .LDL_CTX_n, .fld .ME_STAT, .fld .MOD_FAULT_STAT, .fld .MOD_GRID_STAT, .fld .MOD_MB_SUMMARY, .fld .QUEUE_BASE,
        .fld .QUEUE_CTL, .fld .QUEUE_DB, .fld .QUEUE_LEVEL, .fld .QUEUE_STAT, .fld .QUEUE_WM, .fld .SE_STAT, .fld .SPR_STAT, .fld .VU_ERR,
        .fld .VU_FLAGS, .fld .VU_STAT, .freeCtr, .hostOut, .hports, .ldls, .mes, .msgs, .queues, .ses, .slots, .vus] s t := by
  unfold execVopIngress at h
  cases h
  refine Eff.Only.same ?_ _
  repeat first
    | with_reducible exact only_seq_nil _
    | with_reducible apply only_seq_cons
    | (with_reducible apply only_rd; intro)
    | (with_reducible apply only_onVu; decide)
    | (with_reducible apply only_drawLanes; · decide)
    | (with_reducible apply only_ingressRows; decide)
    | (with_reducible apply only_vop; · decide)
    | (with_reducible apply only_vopEnd; decide)
    | with_reducible intro _
    | split
    | dsimp only

theorem frame_execVopSpecialFunction (core : CoreId) (args : VopArgs) (s : State) {t : State} (h : execVopSpecialFunction core args s = .next t) :
    SameBut [.cores, .dbg, .ev, .faults, .flasks, .fld .CORE_MOULD, .fld .CORE_SC, .fld .CORE_SEQ, .fld .CORE_SEQ_ERR, .fld .CORE_STAT,
        .fld .DBG_HOLD, .fld .LDL_CTX_n, .fld .ME_STAT, .fld .MOD_FAULT_STAT, .fld .MOD_GRID_STAT, .fld .MOD_MB_SUMMARY, .fld .QUEUE_BASE,
        .fld .QUEUE_CTL, .fld .QUEUE_DB, .fld .QUEUE_LEVEL, .fld .QUEUE_STAT, .fld .QUEUE_WM, .fld .SE_STAT, .fld .SPR_STAT, .fld .VU_ERR,
        .fld .VU_FLAGS, .fld .VU_STAT, .hostOut, .hports, .ldls, .mes, .msgs, .queues, .ses, .slots, .vus] s t := by
  unfold execVopSpecialFunction at h
  cases h
  refine Eff.Only.same ?_ _
  repeat first
    | (with_reducible apply only_vop; · decide)
    | (with_reducible apply only_vopLanes; decide)
    | split
    | dsimp only

theorem frame_execVopReduce (core : CoreId) (args : VopArgs) (s : State) {t : State} (h : execVopReduce core args s = .next t) :
    SameBut [.cores, .dbg, .ev, .faults, .flasks, .fld .CORE_MOULD, .fld .CORE_SC, .fld .CORE_SEQ, .fld .CORE_SEQ_ERR, .fld .CORE_STAT,
        .fld .DBG_HOLD, .fld .LDL_CTX_n, .fld .ME_STAT, .fld .MOD_FAULT_STAT, .fld .MOD_GRID_STAT, .fld .MOD_MB_SUMMARY, .fld .QUEUE_BASE,
        .fld .QUEUE_CTL, .fld .QUEUE_DB, .fld .QUEUE_LEVEL, .fld .QUEUE_STAT, .fld .QUEUE_WM, .fld .SE_STAT, .fld .SPR_STAT, .fld .VU_ERR,
        .fld .VU_FLAGS, .fld .VU_STAT, .freeCtr, .hostOut, .hports, .ldls, .mes, .msgs, .queues, .ses, .slots, .vus] s t := by
  unfold execVopReduce at h
  cases h
  refine Eff.Only.same ?_ _
  repeat first
    | (with_reducible apply only_draw; · decide)
    | (with_reducible apply only_vop; · decide)
    | (with_reducible apply only_vopLanes; decide)
    | with_reducible intro _
    | split
    | dsimp only

theorem frame_execVopLoad (core : CoreId) (args : VopArgs) (conflicts : List (Nat × Nat)) (s : State) {t : State} (h : execVopLoad core args
    conflicts s = .next t) :
    SameBut [.cores, .dbg, .ev, .faults, .flasks, .fld .CORE_MOULD, .fld .CORE_SC, .fld .CORE_SEQ, .fld .CORE_SEQ_ERR, .fld .CORE_STAT,
        .fld .DBG_HOLD, .fld .LDL_CTX_n, .fld .ME_STAT, .fld .MOD_FAULT_STAT, .fld .MOD_GRID_STAT, .fld .MOD_MB_SUMMARY, .fld .QUEUE_BASE,
        .fld .QUEUE_CTL, .fld .QUEUE_DB, .fld .QUEUE_LEVEL, .fld .QUEUE_STAT, .fld .QUEUE_WM, .fld .SE_STAT, .fld .SPD_CONFLICT, .fld .SPR_STAT,
        .fld .VU_ERR, .fld .VU_FLAGS, .fld .VU_STAT, .hostOut, .hports, .ldls, .mes, .msgs, .queues, .ses, .slots, .vus] s t := by
  unfold execVopLoad at h
  cases h
  refine Eff.Only.same ?_ _
  repeat first
    | with_reducible exact only_seq_nil _
    | with_reducible apply only_seq_cons
    | (with_reducible apply only_rd; intro)
    | (with_reducible apply only_each; intro _ _)
    | (with_reducible apply only_spdConflict; decide)
    | (with_reducible apply only_vop; · decide)
    | (with_reducible apply only_vopLanes; decide)
    | with_reducible intro _
    | split
    | dsimp only

theorem frame_execVopStore (core : CoreId) (args : VopArgs) (conflicts : List (Nat × Nat)) (s : State) {t : State} (h : execVopStore core args
    conflicts s = .next t) :
    SameBut [.cores, .dbg, .ev, .faults, .flasks, .fld .CORE_MOULD, .fld .CORE_SC, .fld .CORE_SEQ, .fld .CORE_SEQ_ERR, .fld .CORE_STAT,
        .fld .DBG_HOLD, .fld .LDL_CTX_n, .fld .ME_STAT, .fld .MOD_FAULT_STAT, .fld .MOD_GRID_STAT, .fld .MOD_MB_SUMMARY, .fld .QUEUE_BASE,
        .fld .QUEUE_CTL, .fld .QUEUE_DB, .fld .QUEUE_LEVEL, .fld .QUEUE_STAT, .fld .QUEUE_WM, .fld .SE_STAT, .fld .SPD_CONFLICT, .fld .SPR_STAT,
        .fld .VU_ERR, .fld .VU_FLAGS, .fld .VU_STAT, .hostOut, .hports, .ldls, .mes, .msgs, .queues, .ses, .slots, .spd, .spdPoison, .vus] s t := by
  unfold execVopStore at h
  cases h
  refine Eff.Only.same ?_ _
  repeat first
    | with_reducible exact only_seq_nil _
    | with_reducible apply only_seq_cons
    | (with_reducible apply only_rd; intro)
    | (with_reducible apply only_each; intro _ _)
    | (with_reducible apply only_spdConflict; decide)
    | (with_reducible apply only_spdWrLost; decide)
    | (with_reducible apply only_vop; · decide)
    | (with_reducible apply only_vopEnd; decide)
    | with_reducible intro _
    | split
    | dsimp only

theorem frame_execVopQuant (core : CoreId) (args : VopArgs) (conflicts : List (Nat × Nat)) (s : State) {t : State} (h : execVopQuant core args
    conflicts s = .next t) :
    SameBut [.cores, .dbg, .ev, .faults, .flasks, .fld .CORE_MOULD, .fld .CORE_SC, .fld .CORE_SEQ, .fld .CORE_SEQ_ERR, .fld .CORE_STAT,
        .fld .DBG_HOLD, .fld .LDL_CTX_n, .fld .ME_STAT, .fld .MOD_FAULT_STAT, .fld .MOD_GRID_STAT, .fld .MOD_MB_SUMMARY, .fld .QUEUE_BASE,
        .fld .QUEUE_CTL, .fld .QUEUE_DB, .fld .QUEUE_LEVEL, .fld .QUEUE_STAT, .fld .QUEUE_WM, .fld .SE_STAT, .fld .SPD_CONFLICT, .fld .SPR_STAT,
        .fld .VU_ERR, .fld .VU_FLAGS, .fld .VU_STAT, .hostOut, .hports, .ldls, .mes, .msgs, .queues, .ses, .slots, .spd, .spdPoison, .vus] s t := by
  unfold execVopQuant at h
  cases h
  refine Eff.Only.same ?_ _
  repeat first
    | with_reducible exact only_seq_nil _
    | with_reducible apply only_seq_cons
    | (with_reducible apply only_rd; intro)
    | (with_reducible apply only_each; intro _ _)
    | (with_reducible apply only_spdConflict; decide)
    | (with_reducible apply only_spdWrLost; decide)
    | (with_reducible apply only_vop; · decide)
    | (with_reducible apply only_vopEnd; decide)
    | with_reducible intro _
    | split
    | dsimp only

theorem frame_execVopSample (core : CoreId) (args : SampleArgs) (s : State) {t : State} (h : execVopSample core args s = .next t) :
    SameBut [.cores, .dbg, .ev, .faults, .flasks, .fld .CORE_MOULD, .fld .CORE_SC, .fld .CORE_SEQ, .fld .CORE_SEQ_ERR, .fld .CORE_STAT,
        .fld .DBG_HOLD, .fld .LDL_CTX_n, .fld .ME_STAT, .fld .MOD_FAULT_STAT, .fld .MOD_GRID_STAT, .fld .MOD_MB_SUMMARY, .fld .QUEUE_BASE,
        .fld .QUEUE_CTL, .fld .QUEUE_DB, .fld .QUEUE_LEVEL, .fld .QUEUE_STAT, .fld .QUEUE_WM, .fld .SE_STAT, .fld .SPR_STAT, .fld .VU_ERR,
        .fld .VU_STAT, .hostOut, .hports, .ldls, .mes, .msgs, .queues, .ses, .slots, .vus] s t := by
  unfold execVopSample at h
  cases h
  refine Eff.Only.same ?_ _
  repeat first
    | with_reducible exact only_seq_nil _
    | with_reducible apply only_seq_cons
    | (with_reducible apply only_rd; intro)
    | (with_reducible apply only_fset; decide)
    | (with_reducible apply only_onVu; decide)
    | (with_reducible apply only_containCore; decide)
    | (with_reducible apply only_issueOverflow; decide)
    | (with_reducible apply only_seqStep; · decide)
    | split
    | dsimp only

theorem frame_execSampleStart (core : CoreId) (vu : Fin 4) (s : State) {t : State} (h : execSampleStart core vu s = .next t) :
    SameBut [.ev, .fld .VU_ERR, .fld .VU_SAMP_STALL, .fld .VU_STAT, .vus] s t := by
  unfold execSampleStart at h
  cases h
  refine Eff.Only.same ?_ _
  repeat first
    | with_reducible exact only_nop _
    | with_reducible exact only_seq_nil _
    | with_reducible apply only_seq_cons
    | (with_reducible apply only_rd; intro)
    | (with_reducible apply only_when; intro)
    | (with_reducible apply only_fset; decide)
    | (with_reducible apply only_fsat; decide)
    | (with_reducible apply only_raise; decide)
    | (with_reducible apply only_onVu; decide)
    | split
    | dsimp only

theorem frame_execTokenChosen (core : CoreId) (vu : Fin 4) (s : State) {t : State} (h : execTokenChosen core vu s = .next t) :
    SameBut [.cores, .ev, .fld .CORE_QSTAT, .fld .QUEUE_LEVEL, .fld .QUEUE_STAT, .fld .QUEUE_WM, .fld .VU_FLAGS, .fld .VU_SAMP_COUNT,
        .fld .VU_SAMP_LAST, .fld .VU_STAT, .queues, .spd, .spdPoison, .vus] s t := by
  unfold execTokenChosen at h
  cases h
  refine Eff.Only.same ?_ _
  repeat first
    | with_reducible exact only_nop _
    | with_reducible exact only_seq_nil _
    | with_reducible apply only_seq_cons
    | (with_reducible apply only_rd; intro)
    | (with_reducible apply only_when; intro)
    | (with_reducible apply only_fset; decide)
    | (with_reducible apply only_fput; decide)
    | (with_reducible apply only_fadd; decide)
    | (with_reducible apply only_onVu; decide)
    | (with_reducible apply only_samplePost; decide)
    | (with_reducible apply only_vopEnd; decide)
    | (with_reducible apply only_vuBusy; decide)
    | split
    | dsimp only

end Sys2Proof.Machine
end

