-- ==== Sys2Proof/Laws/Frames.lean ====
section
/-! SUPPORT. What each elementary update leaves alone, one law per field of the state and update. -/
namespace Sys2Proof.Machine
variable (s : State)

section
variable (rs : List Nat)
@[simp] theorem Upd.fldsKeep_slag : ((Upd.fldsKeep rs).apply s).slag = s.slag := rfl
@[simp] theorem Upd.fldsKeep_seam : ((Upd.fldsKeep rs).apply s).seam = s.seam := rfl
@[simp] theorem Upd.fldsKeep_align : ((Upd.fldsKeep rs).apply s).align = s.align := rfl
@[simp] theorem Upd.fldsKeep_gclk : ((Upd.fldsKeep rs).apply s).gclk = s.gclk := rfl
@[simp] theorem Upd.fldsKeep_dec : ((Upd.fldsKeep rs).apply s).dec = s.dec := rfl
@[simp] theorem Upd.fldsKeep_ctl : ((Upd.fldsKeep rs).apply s).ctl = s.ctl := rfl
@[simp] theorem Upd.fldsKeep_cores : ((Upd.fldsKeep rs).apply s).cores = s.cores := rfl
@[simp] theorem Upd.fldsKeep_mes : ((Upd.fldsKeep rs).apply s).mes = s.mes := rfl
@[simp] theorem Upd.fldsKeep_ses : ((Upd.fldsKeep rs).apply s).ses = s.ses := rfl
@[simp] theorem Upd.fldsKeep_vus : ((Upd.fldsKeep rs).apply s).vus = s.vus := rfl
@[simp] theorem Upd.fldsKeep_spd : ((Upd.fldsKeep rs).apply s).spd = s.spd := rfl
@[simp] theorem Upd.fldsKeep_spdPoison : ((Upd.fldsKeep rs).apply s).spdPoison = s.spdPoison := rfl
@[simp] theorem Upd.fldsKeep_dram : ((Upd.fldsKeep rs).apply s).dram = s.dram := rfl
@[simp] theorem Upd.fldsKeep_dramPoison : ((Upd.fldsKeep rs).apply s).dramPoison = s.dramPoison := rfl
@[simp] theorem Upd.fldsKeep_dramWritten : ((Upd.fldsKeep rs).apply s).dramWritten = s.dramWritten := rfl
@[simp] theorem Upd.fldsKeep_caches : ((Upd.fldsKeep rs).apply s).caches = s.caches := rfl
@[simp] theorem Upd.fldsKeep_refreshOnly : ((Upd.fldsKeep rs).apply s).refreshOnly = s.refreshOnly := rfl
@[simp] theorem Upd.fldsKeep_refreshed : ((Upd.fldsKeep rs).apply s).refreshed = s.refreshed := rfl
@[simp] theorem Upd.fldsKeep_flasks : ((Upd.fldsKeep rs).apply s).flasks = s.flasks := rfl
@[simp] theorem Upd.fldsKeep_queues : ((Upd.fldsKeep rs).apply s).queues = s.queues := rfl
@[simp] theorem Upd.fldsKeep_ldls : ((Upd.fldsKeep rs).apply s).ldls = s.ldls := rfl
@[simp] theorem Upd.fldsKeep_msix : ((Upd.fldsKeep rs).apply s).msix = s.msix := rfl
@[simp] theorem Upd.fldsKeep_hports : ((Upd.fldsKeep rs).apply s).hports = s.hports := rfl
@[simp] theorem Upd.fldsKeep_hostOut : ((Upd.fldsKeep rs).apply s).hostOut = s.hostOut := rfl
@[simp] theorem Upd.fldsKeep_rings : ((Upd.fldsKeep rs).apply s).rings = s.rings := rfl
@[simp] theorem Upd.fldsKeep_ev : ((Upd.fldsKeep rs).apply s).ev = s.ev := rfl
@[simp] theorem Upd.fldsKeep_slots : ((Upd.fldsKeep rs).apply s).slots = s.slots := rfl
@[simp] theorem Upd.fldsKeep_mbOrder : ((Upd.fldsKeep rs).apply s).mbOrder = s.mbOrder := rfl
@[simp] theorem Upd.fldsKeep_msgs : ((Upd.fldsKeep rs).apply s).msgs = s.msgs := rfl
@[simp] theorem Upd.fldsKeep_ports : ((Upd.fldsKeep rs).apply s).ports = s.ports := rfl
@[simp] theorem Upd.fldsKeep_pour : ((Upd.fldsKeep rs).apply s).pour = s.pour := rfl
@[simp] theorem Upd.fldsKeep_faults : ((Upd.fldsKeep rs).apply s).faults = s.faults := rfl
@[simp] theorem Upd.fldsKeep_pep : ((Upd.fldsKeep rs).apply s).pep = s.pep := rfl
@[simp] theorem Upd.fldsKeep_power : ((Upd.fldsKeep rs).apply s).power = s.power := rfl
@[simp] theorem Upd.fldsKeep_resp : ((Upd.fldsKeep rs).apply s).resp = s.resp := rfl
@[simp] theorem Upd.fldsKeep_dbg : ((Upd.fldsKeep rs).apply s).dbg = s.dbg := rfl
@[simp] theorem Upd.fldsKeep_pst : ((Upd.fldsKeep rs).apply s).pst = s.pst := rfl
@[simp] theorem Upd.fldsKeep_boot : ((Upd.fldsKeep rs).apply s).boot = s.boot := rfl
@[simp] theorem Upd.fldsKeep_saf : ((Upd.fldsKeep rs).apply s).saf = s.saf := rfl
@[simp] theorem Upd.fldsKeep_svc : ((Upd.fldsKeep rs).apply s).svc = s.svc := rfl
@[simp] theorem Upd.fldsKeep_freeCtr : ((Upd.fldsKeep rs).apply s).freeCtr = s.freeCtr := rfl
end

section
variable (rs : List Nat) (lo hi : Nat)
@[simp] theorem Upd.fldsDrop_slag : ((Upd.fldsDrop rs lo hi).apply s).slag = s.slag := rfl
@[simp] theorem Upd.fldsDrop_seam : ((Upd.fldsDrop rs lo hi).apply s).seam = s.seam := rfl
@[simp] theorem Upd.fldsDrop_align : ((Upd.fldsDrop rs lo hi).apply s).align = s.align := rfl
@[simp] theorem Upd.fldsDrop_gclk : ((Upd.fldsDrop rs lo hi).apply s).gclk = s.gclk := rfl
@[simp] theorem Upd.fldsDrop_dec : ((Upd.fldsDrop rs lo hi).apply s).dec = s.dec := rfl
@[simp] theorem Upd.fldsDrop_ctl : ((Upd.fldsDrop rs lo hi).apply s).ctl = s.ctl := rfl
@[simp] theorem Upd.fldsDrop_cores : ((Upd.fldsDrop rs lo hi).apply s).cores = s.cores := rfl
@[simp] theorem Upd.fldsDrop_mes : ((Upd.fldsDrop rs lo hi).apply s).mes = s.mes := rfl
@[simp] theorem Upd.fldsDrop_ses : ((Upd.fldsDrop rs lo hi).apply s).ses = s.ses := rfl
@[simp] theorem Upd.fldsDrop_vus : ((Upd.fldsDrop rs lo hi).apply s).vus = s.vus := rfl
@[simp] theorem Upd.fldsDrop_spd : ((Upd.fldsDrop rs lo hi).apply s).spd = s.spd := rfl
@[simp] theorem Upd.fldsDrop_spdPoison : ((Upd.fldsDrop rs lo hi).apply s).spdPoison = s.spdPoison := rfl
@[simp] theorem Upd.fldsDrop_dram : ((Upd.fldsDrop rs lo hi).apply s).dram = s.dram := rfl
@[simp] theorem Upd.fldsDrop_dramPoison : ((Upd.fldsDrop rs lo hi).apply s).dramPoison = s.dramPoison := rfl
@[simp] theorem Upd.fldsDrop_dramWritten : ((Upd.fldsDrop rs lo hi).apply s).dramWritten = s.dramWritten := rfl
@[simp] theorem Upd.fldsDrop_caches : ((Upd.fldsDrop rs lo hi).apply s).caches = s.caches := rfl
@[simp] theorem Upd.fldsDrop_refreshOnly : ((Upd.fldsDrop rs lo hi).apply s).refreshOnly = s.refreshOnly := rfl
@[simp] theorem Upd.fldsDrop_refreshed : ((Upd.fldsDrop rs lo hi).apply s).refreshed = s.refreshed := rfl
@[simp] theorem Upd.fldsDrop_flasks : ((Upd.fldsDrop rs lo hi).apply s).flasks = s.flasks := rfl
@[simp] theorem Upd.fldsDrop_queues : ((Upd.fldsDrop rs lo hi).apply s).queues = s.queues := rfl
@[simp] theorem Upd.fldsDrop_ldls : ((Upd.fldsDrop rs lo hi).apply s).ldls = s.ldls := rfl
@[simp] theorem Upd.fldsDrop_msix : ((Upd.fldsDrop rs lo hi).apply s).msix = s.msix := rfl
@[simp] theorem Upd.fldsDrop_hports : ((Upd.fldsDrop rs lo hi).apply s).hports = s.hports := rfl
@[simp] theorem Upd.fldsDrop_hostOut : ((Upd.fldsDrop rs lo hi).apply s).hostOut = s.hostOut := rfl
@[simp] theorem Upd.fldsDrop_rings : ((Upd.fldsDrop rs lo hi).apply s).rings = s.rings := rfl
@[simp] theorem Upd.fldsDrop_ev : ((Upd.fldsDrop rs lo hi).apply s).ev = s.ev := rfl
@[simp] theorem Upd.fldsDrop_slots : ((Upd.fldsDrop rs lo hi).apply s).slots = s.slots := rfl
@[simp] theorem Upd.fldsDrop_mbOrder : ((Upd.fldsDrop rs lo hi).apply s).mbOrder = s.mbOrder := rfl
@[simp] theorem Upd.fldsDrop_msgs : ((Upd.fldsDrop rs lo hi).apply s).msgs = s.msgs := rfl
@[simp] theorem Upd.fldsDrop_ports : ((Upd.fldsDrop rs lo hi).apply s).ports = s.ports := rfl
@[simp] theorem Upd.fldsDrop_pour : ((Upd.fldsDrop rs lo hi).apply s).pour = s.pour := rfl
@[simp] theorem Upd.fldsDrop_faults : ((Upd.fldsDrop rs lo hi).apply s).faults = s.faults := rfl
@[simp] theorem Upd.fldsDrop_pep : ((Upd.fldsDrop rs lo hi).apply s).pep = s.pep := rfl
@[simp] theorem Upd.fldsDrop_power : ((Upd.fldsDrop rs lo hi).apply s).power = s.power := rfl
@[simp] theorem Upd.fldsDrop_resp : ((Upd.fldsDrop rs lo hi).apply s).resp = s.resp := rfl
@[simp] theorem Upd.fldsDrop_dbg : ((Upd.fldsDrop rs lo hi).apply s).dbg = s.dbg := rfl
@[simp] theorem Upd.fldsDrop_pst : ((Upd.fldsDrop rs lo hi).apply s).pst = s.pst := rfl
@[simp] theorem Upd.fldsDrop_boot : ((Upd.fldsDrop rs lo hi).apply s).boot = s.boot := rfl
@[simp] theorem Upd.fldsDrop_saf : ((Upd.fldsDrop rs lo hi).apply s).saf = s.saf := rfl
@[simp] theorem Upd.fldsDrop_svc : ((Upd.fldsDrop rs lo hi).apply s).svc = s.svc := rfl
@[simp] theorem Upd.fldsDrop_freeCtr : ((Upd.fldsDrop rs lo hi).apply s).freeCtr = s.freeCtr := rfl
end

section
variable (v : SlagSt)
@[simp] theorem Upd.slag_flds : ((Upd.slag v).apply s).flds = s.flds := rfl
@[simp] theorem Upd.slag_seam : ((Upd.slag v).apply s).seam = s.seam := rfl
@[simp] theorem Upd.slag_align : ((Upd.slag v).apply s).align = s.align := rfl
@[simp] theorem Upd.slag_gclk : ((Upd.slag v).apply s).gclk = s.gclk := rfl
@[simp] theorem Upd.slag_dec : ((Upd.slag v).apply s).dec = s.dec := rfl
@[simp] theorem Upd.slag_ctl : ((Upd.slag v).apply s).ctl = s.ctl := rfl
@[simp] theorem Upd.slag_cores : ((Upd.slag v).apply s).cores = s.cores := rfl
@[simp] theorem Upd.slag_mes : ((Upd.slag v).apply s).mes = s.mes := rfl
@[simp] theorem Upd.slag_ses : ((Upd.slag v).apply s).ses = s.ses := rfl
@[simp] theorem Upd.slag_vus : ((Upd.slag v).apply s).vus = s.vus := rfl
@[simp] theorem Upd.slag_spd : ((Upd.slag v).apply s).spd = s.spd := rfl
@[simp] theorem Upd.slag_spdPoison : ((Upd.slag v).apply s).spdPoison = s.spdPoison := rfl
@[simp] theorem Upd.slag_dram : ((Upd.slag v).apply s).dram = s.dram := rfl
@[simp] theorem Upd.slag_dramPoison : ((Upd.slag v).apply s).dramPoison = s.dramPoison := rfl
@[simp] theorem Upd.slag_dramWritten : ((Upd.slag v).apply s).dramWritten = s.dramWritten := rfl
@[simp] theorem Upd.slag_caches : ((Upd.slag v).apply s).caches = s.caches := rfl
@[simp] theorem Upd.slag_refreshOnly : ((Upd.slag v).apply s).refreshOnly = s.refreshOnly := rfl
@[simp] theorem Upd.slag_refreshed : ((Upd.slag v).apply s).refreshed = s.refreshed := rfl
@[simp] theorem Upd.slag_flasks : ((Upd.slag v).apply s).flasks = s.flasks := rfl
@[simp] theorem Upd.slag_queues : ((Upd.slag v).apply s).queues = s.queues := rfl
@[simp] theorem Upd.slag_ldls : ((Upd.slag v).apply s).ldls = s.ldls := rfl
@[simp] theorem Upd.slag_msix : ((Upd.slag v).apply s).msix = s.msix := rfl
@[simp] theorem Upd.slag_hports : ((Upd.slag v).apply s).hports = s.hports := rfl
@[simp] theorem Upd.slag_hostOut : ((Upd.slag v).apply s).hostOut = s.hostOut := rfl
@[simp] theorem Upd.slag_rings : ((Upd.slag v).apply s).rings = s.rings := rfl
@[simp] theorem Upd.slag_ev : ((Upd.slag v).apply s).ev = s.ev := rfl
@[simp] theorem Upd.slag_slots : ((Upd.slag v).apply s).slots = s.slots := rfl
@[simp] theorem Upd.slag_mbOrder : ((Upd.slag v).apply s).mbOrder = s.mbOrder := rfl
@[simp] theorem Upd.slag_msgs : ((Upd.slag v).apply s).msgs = s.msgs := rfl
@[simp] theorem Upd.slag_ports : ((Upd.slag v).apply s).ports = s.ports := rfl
@[simp] theorem Upd.slag_pour : ((Upd.slag v).apply s).pour = s.pour := rfl
@[simp] theorem Upd.slag_faults : ((Upd.slag v).apply s).faults = s.faults := rfl
@[simp] theorem Upd.slag_pep : ((Upd.slag v).apply s).pep = s.pep := rfl
@[simp] theorem Upd.slag_power : ((Upd.slag v).apply s).power = s.power := rfl
@[simp] theorem Upd.slag_resp : ((Upd.slag v).apply s).resp = s.resp := rfl
@[simp] theorem Upd.slag_dbg : ((Upd.slag v).apply s).dbg = s.dbg := rfl
@[simp] theorem Upd.slag_pst : ((Upd.slag v).apply s).pst = s.pst := rfl
@[simp] theorem Upd.slag_boot : ((Upd.slag v).apply s).boot = s.boot := rfl
@[simp] theorem Upd.slag_saf : ((Upd.slag v).apply s).saf = s.saf := rfl
@[simp] theorem Upd.slag_svc : ((Upd.slag v).apply s).svc = s.svc := rfl
@[simp] theorem Upd.slag_freeCtr : ((Upd.slag v).apply s).freeCtr = s.freeCtr := rfl
end

section
variable (v : SeamSt)
@[simp] theorem Upd.seam_flds : ((Upd.seam v).apply s).flds = s.flds := rfl
@[simp] theorem Upd.seam_slag : ((Upd.seam v).apply s).slag = s.slag := rfl
@[simp] theorem Upd.seam_align : ((Upd.seam v).apply s).align = s.align := rfl
@[simp] theorem Upd.seam_gclk : ((Upd.seam v).apply s).gclk = s.gclk := rfl
@[simp] theorem Upd.seam_dec : ((Upd.seam v).apply s).dec = s.dec := rfl
@[simp] theorem Upd.seam_ctl : ((Upd.seam v).apply s).ctl = s.ctl := rfl
@[simp] theorem Upd.seam_cores : ((Upd.seam v).apply s).cores = s.cores := rfl
@[simp] theorem Upd.seam_mes : ((Upd.seam v).apply s).mes = s.mes := rfl
@[simp] theorem Upd.seam_ses : ((Upd.seam v).apply s).ses = s.ses := rfl
@[simp] theorem Upd.seam_vus : ((Upd.seam v).apply s).vus = s.vus := rfl
@[simp] theorem Upd.seam_spd : ((Upd.seam v).apply s).spd = s.spd := rfl
@[simp] theorem Upd.seam_spdPoison : ((Upd.seam v).apply s).spdPoison = s.spdPoison := rfl
@[simp] theorem Upd.seam_dram : ((Upd.seam v).apply s).dram = s.dram := rfl
@[simp] theorem Upd.seam_dramPoison : ((Upd.seam v).apply s).dramPoison = s.dramPoison := rfl
@[simp] theorem Upd.seam_dramWritten : ((Upd.seam v).apply s).dramWritten = s.dramWritten := rfl
@[simp] theorem Upd.seam_caches : ((Upd.seam v).apply s).caches = s.caches := rfl
@[simp] theorem Upd.seam_refreshOnly : ((Upd.seam v).apply s).refreshOnly = s.refreshOnly := rfl
@[simp] theorem Upd.seam_refreshed : ((Upd.seam v).apply s).refreshed = s.refreshed := rfl
@[simp] theorem Upd.seam_flasks : ((Upd.seam v).apply s).flasks = s.flasks := rfl
@[simp] theorem Upd.seam_queues : ((Upd.seam v).apply s).queues = s.queues := rfl
@[simp] theorem Upd.seam_ldls : ((Upd.seam v).apply s).ldls = s.ldls := rfl
@[simp] theorem Upd.seam_msix : ((Upd.seam v).apply s).msix = s.msix := rfl
@[simp] theorem Upd.seam_hports : ((Upd.seam v).apply s).hports = s.hports := rfl
@[simp] theorem Upd.seam_hostOut : ((Upd.seam v).apply s).hostOut = s.hostOut := rfl
@[simp] theorem Upd.seam_rings : ((Upd.seam v).apply s).rings = s.rings := rfl
@[simp] theorem Upd.seam_ev : ((Upd.seam v).apply s).ev = s.ev := rfl
@[simp] theorem Upd.seam_slots : ((Upd.seam v).apply s).slots = s.slots := rfl
@[simp] theorem Upd.seam_mbOrder : ((Upd.seam v).apply s).mbOrder = s.mbOrder := rfl
@[simp] theorem Upd.seam_msgs : ((Upd.seam v).apply s).msgs = s.msgs := rfl
@[simp] theorem Upd.seam_ports : ((Upd.seam v).apply s).ports = s.ports := rfl
@[simp] theorem Upd.seam_pour : ((Upd.seam v).apply s).pour = s.pour := rfl
@[simp] theorem Upd.seam_faults : ((Upd.seam v).apply s).faults = s.faults := rfl
@[simp] theorem Upd.seam_pep : ((Upd.seam v).apply s).pep = s.pep := rfl
@[simp] theorem Upd.seam_power : ((Upd.seam v).apply s).power = s.power := rfl
@[simp] theorem Upd.seam_resp : ((Upd.seam v).apply s).resp = s.resp := rfl
@[simp] theorem Upd.seam_dbg : ((Upd.seam v).apply s).dbg = s.dbg := rfl
@[simp] theorem Upd.seam_pst : ((Upd.seam v).apply s).pst = s.pst := rfl
@[simp] theorem Upd.seam_boot : ((Upd.seam v).apply s).boot = s.boot := rfl
@[simp] theorem Upd.seam_saf : ((Upd.seam v).apply s).saf = s.saf := rfl
@[simp] theorem Upd.seam_svc : ((Upd.seam v).apply s).svc = s.svc := rfl
@[simp] theorem Upd.seam_freeCtr : ((Upd.seam v).apply s).freeCtr = s.freeCtr := rfl
end

section
variable (v : AlignSt)
@[simp] theorem Upd.align_flds : ((Upd.align v).apply s).flds = s.flds := rfl
@[simp] theorem Upd.align_slag : ((Upd.align v).apply s).slag = s.slag := rfl
@[simp] theorem Upd.align_seam : ((Upd.align v).apply s).seam = s.seam := rfl
@[simp] theorem Upd.align_gclk : ((Upd.align v).apply s).gclk = s.gclk := rfl
@[simp] theorem Upd.align_dec : ((Upd.align v).apply s).dec = s.dec := rfl
@[simp] theorem Upd.align_ctl : ((Upd.align v).apply s).ctl = s.ctl := rfl
@[simp] theorem Upd.align_cores : ((Upd.align v).apply s).cores = s.cores := rfl
@[simp] theorem Upd.align_mes : ((Upd.align v).apply s).mes = s.mes := rfl
@[simp] theorem Upd.align_ses : ((Upd.align v).apply s).ses = s.ses := rfl
@[simp] theorem Upd.align_vus : ((Upd.align v).apply s).vus = s.vus := rfl
@[simp] theorem Upd.align_spd : ((Upd.align v).apply s).spd = s.spd := rfl
@[simp] theorem Upd.align_spdPoison : ((Upd.align v).apply s).spdPoison = s.spdPoison := rfl
@[simp] theorem Upd.align_dram : ((Upd.align v).apply s).dram = s.dram := rfl
@[simp] theorem Upd.align_dramPoison : ((Upd.align v).apply s).dramPoison = s.dramPoison := rfl
@[simp] theorem Upd.align_dramWritten : ((Upd.align v).apply s).dramWritten = s.dramWritten := rfl
@[simp] theorem Upd.align_caches : ((Upd.align v).apply s).caches = s.caches := rfl
@[simp] theorem Upd.align_refreshOnly : ((Upd.align v).apply s).refreshOnly = s.refreshOnly := rfl
@[simp] theorem Upd.align_refreshed : ((Upd.align v).apply s).refreshed = s.refreshed := rfl
@[simp] theorem Upd.align_flasks : ((Upd.align v).apply s).flasks = s.flasks := rfl
@[simp] theorem Upd.align_queues : ((Upd.align v).apply s).queues = s.queues := rfl
@[simp] theorem Upd.align_ldls : ((Upd.align v).apply s).ldls = s.ldls := rfl
@[simp] theorem Upd.align_msix : ((Upd.align v).apply s).msix = s.msix := rfl
@[simp] theorem Upd.align_hports : ((Upd.align v).apply s).hports = s.hports := rfl
@[simp] theorem Upd.align_hostOut : ((Upd.align v).apply s).hostOut = s.hostOut := rfl
@[simp] theorem Upd.align_rings : ((Upd.align v).apply s).rings = s.rings := rfl
@[simp] theorem Upd.align_ev : ((Upd.align v).apply s).ev = s.ev := rfl
@[simp] theorem Upd.align_slots : ((Upd.align v).apply s).slots = s.slots := rfl
@[simp] theorem Upd.align_mbOrder : ((Upd.align v).apply s).mbOrder = s.mbOrder := rfl
@[simp] theorem Upd.align_msgs : ((Upd.align v).apply s).msgs = s.msgs := rfl
@[simp] theorem Upd.align_ports : ((Upd.align v).apply s).ports = s.ports := rfl
@[simp] theorem Upd.align_pour : ((Upd.align v).apply s).pour = s.pour := rfl
@[simp] theorem Upd.align_faults : ((Upd.align v).apply s).faults = s.faults := rfl
@[simp] theorem Upd.align_pep : ((Upd.align v).apply s).pep = s.pep := rfl
@[simp] theorem Upd.align_power : ((Upd.align v).apply s).power = s.power := rfl
@[simp] theorem Upd.align_resp : ((Upd.align v).apply s).resp = s.resp := rfl
@[simp] theorem Upd.align_dbg : ((Upd.align v).apply s).dbg = s.dbg := rfl
@[simp] theorem Upd.align_pst : ((Upd.align v).apply s).pst = s.pst := rfl
@[simp] theorem Upd.align_boot : ((Upd.align v).apply s).boot = s.boot := rfl
@[simp] theorem Upd.align_saf : ((Upd.align v).apply s).saf = s.saf := rfl
@[simp] theorem Upd.align_svc : ((Upd.align v).apply s).svc = s.svc := rfl
@[simp] theorem Upd.align_freeCtr : ((Upd.align v).apply s).freeCtr = s.freeCtr := rfl
end

section
variable (v : GridClk)
@[simp] theorem Upd.gclk_flds : ((Upd.gclk v).apply s).flds = s.flds := rfl
@[simp] theorem Upd.gclk_slag : ((Upd.gclk v).apply s).slag = s.slag := rfl
@[simp] theorem Upd.gclk_seam : ((Upd.gclk v).apply s).seam = s.seam := rfl
@[simp] theorem Upd.gclk_align : ((Upd.gclk v).apply s).align = s.align := rfl
@[simp] theorem Upd.gclk_dec : ((Upd.gclk v).apply s).dec = s.dec := rfl
@[simp] theorem Upd.gclk_ctl : ((Upd.gclk v).apply s).ctl = s.ctl := rfl
@[simp] theorem Upd.gclk_cores : ((Upd.gclk v).apply s).cores = s.cores := rfl
@[simp] theorem Upd.gclk_mes : ((Upd.gclk v).apply s).mes = s.mes := rfl
@[simp] theorem Upd.gclk_ses : ((Upd.gclk v).apply s).ses = s.ses := rfl
@[simp] theorem Upd.gclk_vus : ((Upd.gclk v).apply s).vus = s.vus := rfl
@[simp] theorem Upd.gclk_spd : ((Upd.gclk v).apply s).spd = s.spd := rfl
@[simp] theorem Upd.gclk_spdPoison : ((Upd.gclk v).apply s).spdPoison = s.spdPoison := rfl
@[simp] theorem Upd.gclk_dram : ((Upd.gclk v).apply s).dram = s.dram := rfl
@[simp] theorem Upd.gclk_dramPoison : ((Upd.gclk v).apply s).dramPoison = s.dramPoison := rfl
@[simp] theorem Upd.gclk_dramWritten : ((Upd.gclk v).apply s).dramWritten = s.dramWritten := rfl
@[simp] theorem Upd.gclk_caches : ((Upd.gclk v).apply s).caches = s.caches := rfl
@[simp] theorem Upd.gclk_refreshOnly : ((Upd.gclk v).apply s).refreshOnly = s.refreshOnly := rfl
@[simp] theorem Upd.gclk_refreshed : ((Upd.gclk v).apply s).refreshed = s.refreshed := rfl
@[simp] theorem Upd.gclk_flasks : ((Upd.gclk v).apply s).flasks = s.flasks := rfl
@[simp] theorem Upd.gclk_queues : ((Upd.gclk v).apply s).queues = s.queues := rfl
@[simp] theorem Upd.gclk_ldls : ((Upd.gclk v).apply s).ldls = s.ldls := rfl
@[simp] theorem Upd.gclk_msix : ((Upd.gclk v).apply s).msix = s.msix := rfl
@[simp] theorem Upd.gclk_hports : ((Upd.gclk v).apply s).hports = s.hports := rfl
@[simp] theorem Upd.gclk_hostOut : ((Upd.gclk v).apply s).hostOut = s.hostOut := rfl
@[simp] theorem Upd.gclk_rings : ((Upd.gclk v).apply s).rings = s.rings := rfl
@[simp] theorem Upd.gclk_ev : ((Upd.gclk v).apply s).ev = s.ev := rfl
@[simp] theorem Upd.gclk_slots : ((Upd.gclk v).apply s).slots = s.slots := rfl
@[simp] theorem Upd.gclk_mbOrder : ((Upd.gclk v).apply s).mbOrder = s.mbOrder := rfl
@[simp] theorem Upd.gclk_msgs : ((Upd.gclk v).apply s).msgs = s.msgs := rfl
@[simp] theorem Upd.gclk_ports : ((Upd.gclk v).apply s).ports = s.ports := rfl
@[simp] theorem Upd.gclk_pour : ((Upd.gclk v).apply s).pour = s.pour := rfl
@[simp] theorem Upd.gclk_faults : ((Upd.gclk v).apply s).faults = s.faults := rfl
@[simp] theorem Upd.gclk_pep : ((Upd.gclk v).apply s).pep = s.pep := rfl
@[simp] theorem Upd.gclk_power : ((Upd.gclk v).apply s).power = s.power := rfl
@[simp] theorem Upd.gclk_resp : ((Upd.gclk v).apply s).resp = s.resp := rfl
@[simp] theorem Upd.gclk_dbg : ((Upd.gclk v).apply s).dbg = s.dbg := rfl
@[simp] theorem Upd.gclk_pst : ((Upd.gclk v).apply s).pst = s.pst := rfl
@[simp] theorem Upd.gclk_boot : ((Upd.gclk v).apply s).boot = s.boot := rfl
@[simp] theorem Upd.gclk_saf : ((Upd.gclk v).apply s).saf = s.saf := rfl
@[simp] theorem Upd.gclk_svc : ((Upd.gclk v).apply s).svc = s.svc := rfl
@[simp] theorem Upd.gclk_freeCtr : ((Upd.gclk v).apply s).freeCtr = s.freeCtr := rfl
end

section
variable (v : DecisionSt)
@[simp] theorem Upd.dec_flds : ((Upd.dec v).apply s).flds = s.flds := rfl
@[simp] theorem Upd.dec_slag : ((Upd.dec v).apply s).slag = s.slag := rfl
@[simp] theorem Upd.dec_seam : ((Upd.dec v).apply s).seam = s.seam := rfl
@[simp] theorem Upd.dec_align : ((Upd.dec v).apply s).align = s.align := rfl
@[simp] theorem Upd.dec_gclk : ((Upd.dec v).apply s).gclk = s.gclk := rfl
@[simp] theorem Upd.dec_ctl : ((Upd.dec v).apply s).ctl = s.ctl := rfl
@[simp] theorem Upd.dec_cores : ((Upd.dec v).apply s).cores = s.cores := rfl
@[simp] theorem Upd.dec_mes : ((Upd.dec v).apply s).mes = s.mes := rfl
@[simp] theorem Upd.dec_ses : ((Upd.dec v).apply s).ses = s.ses := rfl
@[simp] theorem Upd.dec_vus : ((Upd.dec v).apply s).vus = s.vus := rfl
@[simp] theorem Upd.dec_spd : ((Upd.dec v).apply s).spd = s.spd := rfl
@[simp] theorem Upd.dec_spdPoison : ((Upd.dec v).apply s).spdPoison = s.spdPoison := rfl
@[simp] theorem Upd.dec_dram : ((Upd.dec v).apply s).dram = s.dram := rfl
@[simp] theorem Upd.dec_dramPoison : ((Upd.dec v).apply s).dramPoison = s.dramPoison := rfl
@[simp] theorem Upd.dec_dramWritten : ((Upd.dec v).apply s).dramWritten = s.dramWritten := rfl
@[simp] theorem Upd.dec_caches : ((Upd.dec v).apply s).caches = s.caches := rfl
@[simp] theorem Upd.dec_refreshOnly : ((Upd.dec v).apply s).refreshOnly = s.refreshOnly := rfl
@[simp] theorem Upd.dec_refreshed : ((Upd.dec v).apply s).refreshed = s.refreshed := rfl
@[simp] theorem Upd.dec_flasks : ((Upd.dec v).apply s).flasks = s.flasks := rfl
@[simp] theorem Upd.dec_queues : ((Upd.dec v).apply s).queues = s.queues := rfl
@[simp] theorem Upd.dec_ldls : ((Upd.dec v).apply s).ldls = s.ldls := rfl
@[simp] theorem Upd.dec_msix : ((Upd.dec v).apply s).msix = s.msix := rfl
@[simp] theorem Upd.dec_hports : ((Upd.dec v).apply s).hports = s.hports := rfl
@[simp] theorem Upd.dec_hostOut : ((Upd.dec v).apply s).hostOut = s.hostOut := rfl
@[simp] theorem Upd.dec_rings : ((Upd.dec v).apply s).rings = s.rings := rfl
@[simp] theorem Upd.dec_ev : ((Upd.dec v).apply s).ev = s.ev := rfl
@[simp] theorem Upd.dec_slots : ((Upd.dec v).apply s).slots = s.slots := rfl
@[simp] theorem Upd.dec_mbOrder : ((Upd.dec v).apply s).mbOrder = s.mbOrder := rfl
@[simp] theorem Upd.dec_msgs : ((Upd.dec v).apply s).msgs = s.msgs := rfl
@[simp] theorem Upd.dec_ports : ((Upd.dec v).apply s).ports = s.ports := rfl
@[simp] theorem Upd.dec_pour : ((Upd.dec v).apply s).pour = s.pour := rfl
@[simp] theorem Upd.dec_faults : ((Upd.dec v).apply s).faults = s.faults := rfl
@[simp] theorem Upd.dec_pep : ((Upd.dec v).apply s).pep = s.pep := rfl
@[simp] theorem Upd.dec_power : ((Upd.dec v).apply s).power = s.power := rfl
@[simp] theorem Upd.dec_resp : ((Upd.dec v).apply s).resp = s.resp := rfl
@[simp] theorem Upd.dec_dbg : ((Upd.dec v).apply s).dbg = s.dbg := rfl
@[simp] theorem Upd.dec_pst : ((Upd.dec v).apply s).pst = s.pst := rfl
@[simp] theorem Upd.dec_boot : ((Upd.dec v).apply s).boot = s.boot := rfl
@[simp] theorem Upd.dec_saf : ((Upd.dec v).apply s).saf = s.saf := rfl
@[simp] theorem Upd.dec_svc : ((Upd.dec v).apply s).svc = s.svc := rfl
@[simp] theorem Upd.dec_freeCtr : ((Upd.dec v).apply s).freeCtr = s.freeCtr := rfl
end

section
variable (v : CtlSt)
@[simp] theorem Upd.ctl_flds : ((Upd.ctl v).apply s).flds = s.flds := rfl
@[simp] theorem Upd.ctl_slag : ((Upd.ctl v).apply s).slag = s.slag := rfl
@[simp] theorem Upd.ctl_seam : ((Upd.ctl v).apply s).seam = s.seam := rfl
@[simp] theorem Upd.ctl_align : ((Upd.ctl v).apply s).align = s.align := rfl
@[simp] theorem Upd.ctl_gclk : ((Upd.ctl v).apply s).gclk = s.gclk := rfl
@[simp] theorem Upd.ctl_dec : ((Upd.ctl v).apply s).dec = s.dec := rfl
@[simp] theorem Upd.ctl_cores : ((Upd.ctl v).apply s).cores = s.cores := rfl
@[simp] theorem Upd.ctl_mes : ((Upd.ctl v).apply s).mes = s.mes := rfl
@[simp] theorem Upd.ctl_ses : ((Upd.ctl v).apply s).ses = s.ses := rfl
@[simp] theorem Upd.ctl_vus : ((Upd.ctl v).apply s).vus = s.vus := rfl
@[simp] theorem Upd.ctl_spd : ((Upd.ctl v).apply s).spd = s.spd := rfl
@[simp] theorem Upd.ctl_spdPoison : ((Upd.ctl v).apply s).spdPoison = s.spdPoison := rfl
@[simp] theorem Upd.ctl_dram : ((Upd.ctl v).apply s).dram = s.dram := rfl
@[simp] theorem Upd.ctl_dramPoison : ((Upd.ctl v).apply s).dramPoison = s.dramPoison := rfl
@[simp] theorem Upd.ctl_dramWritten : ((Upd.ctl v).apply s).dramWritten = s.dramWritten := rfl
@[simp] theorem Upd.ctl_caches : ((Upd.ctl v).apply s).caches = s.caches := rfl
@[simp] theorem Upd.ctl_refreshOnly : ((Upd.ctl v).apply s).refreshOnly = s.refreshOnly := rfl
@[simp] theorem Upd.ctl_refreshed : ((Upd.ctl v).apply s).refreshed = s.refreshed := rfl
@[simp] theorem Upd.ctl_flasks : ((Upd.ctl v).apply s).flasks = s.flasks := rfl
@[simp] theorem Upd.ctl_queues : ((Upd.ctl v).apply s).queues = s.queues := rfl
@[simp] theorem Upd.ctl_ldls : ((Upd.ctl v).apply s).ldls = s.ldls := rfl
@[simp] theorem Upd.ctl_msix : ((Upd.ctl v).apply s).msix = s.msix := rfl
@[simp] theorem Upd.ctl_hports : ((Upd.ctl v).apply s).hports = s.hports := rfl
@[simp] theorem Upd.ctl_hostOut : ((Upd.ctl v).apply s).hostOut = s.hostOut := rfl
@[simp] theorem Upd.ctl_rings : ((Upd.ctl v).apply s).rings = s.rings := rfl
@[simp] theorem Upd.ctl_ev : ((Upd.ctl v).apply s).ev = s.ev := rfl
@[simp] theorem Upd.ctl_slots : ((Upd.ctl v).apply s).slots = s.slots := rfl
@[simp] theorem Upd.ctl_mbOrder : ((Upd.ctl v).apply s).mbOrder = s.mbOrder := rfl
@[simp] theorem Upd.ctl_msgs : ((Upd.ctl v).apply s).msgs = s.msgs := rfl
@[simp] theorem Upd.ctl_ports : ((Upd.ctl v).apply s).ports = s.ports := rfl
@[simp] theorem Upd.ctl_pour : ((Upd.ctl v).apply s).pour = s.pour := rfl
@[simp] theorem Upd.ctl_faults : ((Upd.ctl v).apply s).faults = s.faults := rfl
@[simp] theorem Upd.ctl_pep : ((Upd.ctl v).apply s).pep = s.pep := rfl
@[simp] theorem Upd.ctl_power : ((Upd.ctl v).apply s).power = s.power := rfl
@[simp] theorem Upd.ctl_resp : ((Upd.ctl v).apply s).resp = s.resp := rfl
@[simp] theorem Upd.ctl_dbg : ((Upd.ctl v).apply s).dbg = s.dbg := rfl
@[simp] theorem Upd.ctl_pst : ((Upd.ctl v).apply s).pst = s.pst := rfl
@[simp] theorem Upd.ctl_boot : ((Upd.ctl v).apply s).boot = s.boot := rfl
@[simp] theorem Upd.ctl_saf : ((Upd.ctl v).apply s).saf = s.saf := rfl
@[simp] theorem Upd.ctl_svc : ((Upd.ctl v).apply s).svc = s.svc := rfl
@[simp] theorem Upd.ctl_freeCtr : ((Upd.ctl v).apply s).freeCtr = s.freeCtr := rfl
end

section
variable (k : Nat) (v : CoreSt)
@[simp] theorem Upd.cores_flds : ((Upd.cores k v).apply s).flds = s.flds := rfl
@[simp] theorem Upd.cores_slag : ((Upd.cores k v).apply s).slag = s.slag := rfl
@[simp] theorem Upd.cores_seam : ((Upd.cores k v).apply s).seam = s.seam := rfl
@[simp] theorem Upd.cores_align : ((Upd.cores k v).apply s).align = s.align := rfl
@[simp] theorem Upd.cores_gclk : ((Upd.cores k v).apply s).gclk = s.gclk := rfl
@[simp] theorem Upd.cores_dec : ((Upd.cores k v).apply s).dec = s.dec := rfl
@[simp] theorem Upd.cores_ctl : ((Upd.cores k v).apply s).ctl = s.ctl := rfl
@[simp] theorem Upd.cores_mes : ((Upd.cores k v).apply s).mes = s.mes := rfl
@[simp] theorem Upd.cores_ses : ((Upd.cores k v).apply s).ses = s.ses := rfl
@[simp] theorem Upd.cores_vus : ((Upd.cores k v).apply s).vus = s.vus := rfl
@[simp] theorem Upd.cores_spd : ((Upd.cores k v).apply s).spd = s.spd := rfl
@[simp] theorem Upd.cores_spdPoison : ((Upd.cores k v).apply s).spdPoison = s.spdPoison := rfl
@[simp] theorem Upd.cores_dram : ((Upd.cores k v).apply s).dram = s.dram := rfl
@[simp] theorem Upd.cores_dramPoison : ((Upd.cores k v).apply s).dramPoison = s.dramPoison := rfl
@[simp] theorem Upd.cores_dramWritten : ((Upd.cores k v).apply s).dramWritten = s.dramWritten := rfl
@[simp] theorem Upd.cores_caches : ((Upd.cores k v).apply s).caches = s.caches := rfl
@[simp] theorem Upd.cores_refreshOnly : ((Upd.cores k v).apply s).refreshOnly = s.refreshOnly := rfl
@[simp] theorem Upd.cores_refreshed : ((Upd.cores k v).apply s).refreshed = s.refreshed := rfl
@[simp] theorem Upd.cores_flasks : ((Upd.cores k v).apply s).flasks = s.flasks := rfl
@[simp] theorem Upd.cores_queues : ((Upd.cores k v).apply s).queues = s.queues := rfl
@[simp] theorem Upd.cores_ldls : ((Upd.cores k v).apply s).ldls = s.ldls := rfl
@[simp] theorem Upd.cores_msix : ((Upd.cores k v).apply s).msix = s.msix := rfl
@[simp] theorem Upd.cores_hports : ((Upd.cores k v).apply s).hports = s.hports := rfl
@[simp] theorem Upd.cores_hostOut : ((Upd.cores k v).apply s).hostOut = s.hostOut := rfl
@[simp] theorem Upd.cores_rings : ((Upd.cores k v).apply s).rings = s.rings := rfl
@[simp] theorem Upd.cores_ev : ((Upd.cores k v).apply s).ev = s.ev := rfl
@[simp] theorem Upd.cores_slots : ((Upd.cores k v).apply s).slots = s.slots := rfl
@[simp] theorem Upd.cores_mbOrder : ((Upd.cores k v).apply s).mbOrder = s.mbOrder := rfl
@[simp] theorem Upd.cores_msgs : ((Upd.cores k v).apply s).msgs = s.msgs := rfl
@[simp] theorem Upd.cores_ports : ((Upd.cores k v).apply s).ports = s.ports := rfl
@[simp] theorem Upd.cores_pour : ((Upd.cores k v).apply s).pour = s.pour := rfl
@[simp] theorem Upd.cores_faults : ((Upd.cores k v).apply s).faults = s.faults := rfl
@[simp] theorem Upd.cores_pep : ((Upd.cores k v).apply s).pep = s.pep := rfl
@[simp] theorem Upd.cores_power : ((Upd.cores k v).apply s).power = s.power := rfl
@[simp] theorem Upd.cores_resp : ((Upd.cores k v).apply s).resp = s.resp := rfl
@[simp] theorem Upd.cores_dbg : ((Upd.cores k v).apply s).dbg = s.dbg := rfl
@[simp] theorem Upd.cores_pst : ((Upd.cores k v).apply s).pst = s.pst := rfl
@[simp] theorem Upd.cores_boot : ((Upd.cores k v).apply s).boot = s.boot := rfl
@[simp] theorem Upd.cores_saf : ((Upd.cores k v).apply s).saf = s.saf := rfl
@[simp] theorem Upd.cores_svc : ((Upd.cores k v).apply s).svc = s.svc := rfl
@[simp] theorem Upd.cores_freeCtr : ((Upd.cores k v).apply s).freeCtr = s.freeCtr := rfl
end

section
variable (lo hi : Nat)
@[simp] theorem Upd.coresClear_flds : ((Upd.coresClear lo hi).apply s).flds = s.flds := rfl
@[simp] theorem Upd.coresClear_slag : ((Upd.coresClear lo hi).apply s).slag = s.slag := rfl
@[simp] theorem Upd.coresClear_seam : ((Upd.coresClear lo hi).apply s).seam = s.seam := rfl
@[simp] theorem Upd.coresClear_align : ((Upd.coresClear lo hi).apply s).align = s.align := rfl
@[simp] theorem Upd.coresClear_gclk : ((Upd.coresClear lo hi).apply s).gclk = s.gclk := rfl
@[simp] theorem Upd.coresClear_dec : ((Upd.coresClear lo hi).apply s).dec = s.dec := rfl
@[simp] theorem Upd.coresClear_ctl : ((Upd.coresClear lo hi).apply s).ctl = s.ctl := rfl
@[simp] theorem Upd.coresClear_mes : ((Upd.coresClear lo hi).apply s).mes = s.mes := rfl
@[simp] theorem Upd.coresClear_ses : ((Upd.coresClear lo hi).apply s).ses = s.ses := rfl
@[simp] theorem Upd.coresClear_vus : ((Upd.coresClear lo hi).apply s).vus = s.vus := rfl
@[simp] theorem Upd.coresClear_spd : ((Upd.coresClear lo hi).apply s).spd = s.spd := rfl
@[simp] theorem Upd.coresClear_spdPoison : ((Upd.coresClear lo hi).apply s).spdPoison = s.spdPoison := rfl
@[simp] theorem Upd.coresClear_dram : ((Upd.coresClear lo hi).apply s).dram = s.dram := rfl
@[simp] theorem Upd.coresClear_dramPoison : ((Upd.coresClear lo hi).apply s).dramPoison = s.dramPoison := rfl
@[simp] theorem Upd.coresClear_dramWritten : ((Upd.coresClear lo hi).apply s).dramWritten = s.dramWritten := rfl
@[simp] theorem Upd.coresClear_caches : ((Upd.coresClear lo hi).apply s).caches = s.caches := rfl
@[simp] theorem Upd.coresClear_refreshOnly : ((Upd.coresClear lo hi).apply s).refreshOnly = s.refreshOnly := rfl
@[simp] theorem Upd.coresClear_refreshed : ((Upd.coresClear lo hi).apply s).refreshed = s.refreshed := rfl
@[simp] theorem Upd.coresClear_flasks : ((Upd.coresClear lo hi).apply s).flasks = s.flasks := rfl
@[simp] theorem Upd.coresClear_queues : ((Upd.coresClear lo hi).apply s).queues = s.queues := rfl
@[simp] theorem Upd.coresClear_ldls : ((Upd.coresClear lo hi).apply s).ldls = s.ldls := rfl
@[simp] theorem Upd.coresClear_msix : ((Upd.coresClear lo hi).apply s).msix = s.msix := rfl
@[simp] theorem Upd.coresClear_hports : ((Upd.coresClear lo hi).apply s).hports = s.hports := rfl
@[simp] theorem Upd.coresClear_hostOut : ((Upd.coresClear lo hi).apply s).hostOut = s.hostOut := rfl
@[simp] theorem Upd.coresClear_rings : ((Upd.coresClear lo hi).apply s).rings = s.rings := rfl
@[simp] theorem Upd.coresClear_ev : ((Upd.coresClear lo hi).apply s).ev = s.ev := rfl
@[simp] theorem Upd.coresClear_slots : ((Upd.coresClear lo hi).apply s).slots = s.slots := rfl
@[simp] theorem Upd.coresClear_mbOrder : ((Upd.coresClear lo hi).apply s).mbOrder = s.mbOrder := rfl
@[simp] theorem Upd.coresClear_msgs : ((Upd.coresClear lo hi).apply s).msgs = s.msgs := rfl
@[simp] theorem Upd.coresClear_ports : ((Upd.coresClear lo hi).apply s).ports = s.ports := rfl
@[simp] theorem Upd.coresClear_pour : ((Upd.coresClear lo hi).apply s).pour = s.pour := rfl
@[simp] theorem Upd.coresClear_faults : ((Upd.coresClear lo hi).apply s).faults = s.faults := rfl
@[simp] theorem Upd.coresClear_pep : ((Upd.coresClear lo hi).apply s).pep = s.pep := rfl
@[simp] theorem Upd.coresClear_power : ((Upd.coresClear lo hi).apply s).power = s.power := rfl
@[simp] theorem Upd.coresClear_resp : ((Upd.coresClear lo hi).apply s).resp = s.resp := rfl
@[simp] theorem Upd.coresClear_dbg : ((Upd.coresClear lo hi).apply s).dbg = s.dbg := rfl
@[simp] theorem Upd.coresClear_pst : ((Upd.coresClear lo hi).apply s).pst = s.pst := rfl
@[simp] theorem Upd.coresClear_boot : ((Upd.coresClear lo hi).apply s).boot = s.boot := rfl
@[simp] theorem Upd.coresClear_saf : ((Upd.coresClear lo hi).apply s).saf = s.saf := rfl
@[simp] theorem Upd.coresClear_svc : ((Upd.coresClear lo hi).apply s).svc = s.svc := rfl
@[simp] theorem Upd.coresClear_freeCtr : ((Upd.coresClear lo hi).apply s).freeCtr = s.freeCtr := rfl
end

section
variable (k : Nat) (v : EngSt)
@[simp] theorem Upd.mes_flds : ((Upd.mes k v).apply s).flds = s.flds := rfl
@[simp] theorem Upd.mes_slag : ((Upd.mes k v).apply s).slag = s.slag := rfl
@[simp] theorem Upd.mes_seam : ((Upd.mes k v).apply s).seam = s.seam := rfl
@[simp] theorem Upd.mes_align : ((Upd.mes k v).apply s).align = s.align := rfl
@[simp] theorem Upd.mes_gclk : ((Upd.mes k v).apply s).gclk = s.gclk := rfl
@[simp] theorem Upd.mes_dec : ((Upd.mes k v).apply s).dec = s.dec := rfl
@[simp] theorem Upd.mes_ctl : ((Upd.mes k v).apply s).ctl = s.ctl := rfl
@[simp] theorem Upd.mes_cores : ((Upd.mes k v).apply s).cores = s.cores := rfl
@[simp] theorem Upd.mes_ses : ((Upd.mes k v).apply s).ses = s.ses := rfl
@[simp] theorem Upd.mes_vus : ((Upd.mes k v).apply s).vus = s.vus := rfl
@[simp] theorem Upd.mes_spd : ((Upd.mes k v).apply s).spd = s.spd := rfl
@[simp] theorem Upd.mes_spdPoison : ((Upd.mes k v).apply s).spdPoison = s.spdPoison := rfl
@[simp] theorem Upd.mes_dram : ((Upd.mes k v).apply s).dram = s.dram := rfl
@[simp] theorem Upd.mes_dramPoison : ((Upd.mes k v).apply s).dramPoison = s.dramPoison := rfl
@[simp] theorem Upd.mes_dramWritten : ((Upd.mes k v).apply s).dramWritten = s.dramWritten := rfl
@[simp] theorem Upd.mes_caches : ((Upd.mes k v).apply s).caches = s.caches := rfl
@[simp] theorem Upd.mes_refreshOnly : ((Upd.mes k v).apply s).refreshOnly = s.refreshOnly := rfl
@[simp] theorem Upd.mes_refreshed : ((Upd.mes k v).apply s).refreshed = s.refreshed := rfl
@[simp] theorem Upd.mes_flasks : ((Upd.mes k v).apply s).flasks = s.flasks := rfl
@[simp] theorem Upd.mes_queues : ((Upd.mes k v).apply s).queues = s.queues := rfl
@[simp] theorem Upd.mes_ldls : ((Upd.mes k v).apply s).ldls = s.ldls := rfl
@[simp] theorem Upd.mes_msix : ((Upd.mes k v).apply s).msix = s.msix := rfl
@[simp] theorem Upd.mes_hports : ((Upd.mes k v).apply s).hports = s.hports := rfl
@[simp] theorem Upd.mes_hostOut : ((Upd.mes k v).apply s).hostOut = s.hostOut := rfl
@[simp] theorem Upd.mes_rings : ((Upd.mes k v).apply s).rings = s.rings := rfl
@[simp] theorem Upd.mes_ev : ((Upd.mes k v).apply s).ev = s.ev := rfl
@[simp] theorem Upd.mes_slots : ((Upd.mes k v).apply s).slots = s.slots := rfl
@[simp] theorem Upd.mes_mbOrder : ((Upd.mes k v).apply s).mbOrder = s.mbOrder := rfl
@[simp] theorem Upd.mes_msgs : ((Upd.mes k v).apply s).msgs = s.msgs := rfl
@[simp] theorem Upd.mes_ports : ((Upd.mes k v).apply s).ports = s.ports := rfl
@[simp] theorem Upd.mes_pour : ((Upd.mes k v).apply s).pour = s.pour := rfl
@[simp] theorem Upd.mes_faults : ((Upd.mes k v).apply s).faults = s.faults := rfl
@[simp] theorem Upd.mes_pep : ((Upd.mes k v).apply s).pep = s.pep := rfl
@[simp] theorem Upd.mes_power : ((Upd.mes k v).apply s).power = s.power := rfl
@[simp] theorem Upd.mes_resp : ((Upd.mes k v).apply s).resp = s.resp := rfl
@[simp] theorem Upd.mes_dbg : ((Upd.mes k v).apply s).dbg = s.dbg := rfl
@[simp] theorem Upd.mes_pst : ((Upd.mes k v).apply s).pst = s.pst := rfl
@[simp] theorem Upd.mes_boot : ((Upd.mes k v).apply s).boot = s.boot := rfl
@[simp] theorem Upd.mes_saf : ((Upd.mes k v).apply s).saf = s.saf := rfl
@[simp] theorem Upd.mes_svc : ((Upd.mes k v).apply s).svc = s.svc := rfl
@[simp] theorem Upd.mes_freeCtr : ((Upd.mes k v).apply s).freeCtr = s.freeCtr := rfl
end

section
variable (lo hi : Nat)
@[simp] theorem Upd.mesClear_flds : ((Upd.mesClear lo hi).apply s).flds = s.flds := rfl
@[simp] theorem Upd.mesClear_slag : ((Upd.mesClear lo hi).apply s).slag = s.slag := rfl
@[simp] theorem Upd.mesClear_seam : ((Upd.mesClear lo hi).apply s).seam = s.seam := rfl
@[simp] theorem Upd.mesClear_align : ((Upd.mesClear lo hi).apply s).align = s.align := rfl
@[simp] theorem Upd.mesClear_gclk : ((Upd.mesClear lo hi).apply s).gclk = s.gclk := rfl
@[simp] theorem Upd.mesClear_dec : ((Upd.mesClear lo hi).apply s).dec = s.dec := rfl
@[simp] theorem Upd.mesClear_ctl : ((Upd.mesClear lo hi).apply s).ctl = s.ctl := rfl
@[simp] theorem Upd.mesClear_cores : ((Upd.mesClear lo hi).apply s).cores = s.cores := rfl
@[simp] theorem Upd.mesClear_ses : ((Upd.mesClear lo hi).apply s).ses = s.ses := rfl
@[simp] theorem Upd.mesClear_vus : ((Upd.mesClear lo hi).apply s).vus = s.vus := rfl
@[simp] theorem Upd.mesClear_spd : ((Upd.mesClear lo hi).apply s).spd = s.spd := rfl
@[simp] theorem Upd.mesClear_spdPoison : ((Upd.mesClear lo hi).apply s).spdPoison = s.spdPoison := rfl
@[simp] theorem Upd.mesClear_dram : ((Upd.mesClear lo hi).apply s).dram = s.dram := rfl
@[simp] theorem Upd.mesClear_dramPoison : ((Upd.mesClear lo hi).apply s).dramPoison = s.dramPoison := rfl
@[simp] theorem Upd.mesClear_dramWritten : ((Upd.mesClear lo hi).apply s).dramWritten = s.dramWritten := rfl
@[simp] theorem Upd.mesClear_caches : ((Upd.mesClear lo hi).apply s).caches = s.caches := rfl
@[simp] theorem Upd.mesClear_refreshOnly : ((Upd.mesClear lo hi).apply s).refreshOnly = s.refreshOnly := rfl
@[simp] theorem Upd.mesClear_refreshed : ((Upd.mesClear lo hi).apply s).refreshed = s.refreshed := rfl
@[simp] theorem Upd.mesClear_flasks : ((Upd.mesClear lo hi).apply s).flasks = s.flasks := rfl
@[simp] theorem Upd.mesClear_queues : ((Upd.mesClear lo hi).apply s).queues = s.queues := rfl
@[simp] theorem Upd.mesClear_ldls : ((Upd.mesClear lo hi).apply s).ldls = s.ldls := rfl
@[simp] theorem Upd.mesClear_msix : ((Upd.mesClear lo hi).apply s).msix = s.msix := rfl
@[simp] theorem Upd.mesClear_hports : ((Upd.mesClear lo hi).apply s).hports = s.hports := rfl
@[simp] theorem Upd.mesClear_hostOut : ((Upd.mesClear lo hi).apply s).hostOut = s.hostOut := rfl
@[simp] theorem Upd.mesClear_rings : ((Upd.mesClear lo hi).apply s).rings = s.rings := rfl
@[simp] theorem Upd.mesClear_ev : ((Upd.mesClear lo hi).apply s).ev = s.ev := rfl
@[simp] theorem Upd.mesClear_slots : ((Upd.mesClear lo hi).apply s).slots = s.slots := rfl
@[simp] theorem Upd.mesClear_mbOrder : ((Upd.mesClear lo hi).apply s).mbOrder = s.mbOrder := rfl
@[simp] theorem Upd.mesClear_msgs : ((Upd.mesClear lo hi).apply s).msgs = s.msgs := rfl
@[simp] theorem Upd.mesClear_ports : ((Upd.mesClear lo hi).apply s).ports = s.ports := rfl
@[simp] theorem Upd.mesClear_pour : ((Upd.mesClear lo hi).apply s).pour = s.pour := rfl
@[simp] theorem Upd.mesClear_faults : ((Upd.mesClear lo hi).apply s).faults = s.faults := rfl
@[simp] theorem Upd.mesClear_pep : ((Upd.mesClear lo hi).apply s).pep = s.pep := rfl
@[simp] theorem Upd.mesClear_power : ((Upd.mesClear lo hi).apply s).power = s.power := rfl
@[simp] theorem Upd.mesClear_resp : ((Upd.mesClear lo hi).apply s).resp = s.resp := rfl
@[simp] theorem Upd.mesClear_dbg : ((Upd.mesClear lo hi).apply s).dbg = s.dbg := rfl
@[simp] theorem Upd.mesClear_pst : ((Upd.mesClear lo hi).apply s).pst = s.pst := rfl
@[simp] theorem Upd.mesClear_boot : ((Upd.mesClear lo hi).apply s).boot = s.boot := rfl
@[simp] theorem Upd.mesClear_saf : ((Upd.mesClear lo hi).apply s).saf = s.saf := rfl
@[simp] theorem Upd.mesClear_svc : ((Upd.mesClear lo hi).apply s).svc = s.svc := rfl
@[simp] theorem Upd.mesClear_freeCtr : ((Upd.mesClear lo hi).apply s).freeCtr = s.freeCtr := rfl
end

section
variable (k : Nat) (v : EngSt)
@[simp] theorem Upd.ses_flds : ((Upd.ses k v).apply s).flds = s.flds := rfl
@[simp] theorem Upd.ses_slag : ((Upd.ses k v).apply s).slag = s.slag := rfl
@[simp] theorem Upd.ses_seam : ((Upd.ses k v).apply s).seam = s.seam := rfl
@[simp] theorem Upd.ses_align : ((Upd.ses k v).apply s).align = s.align := rfl
@[simp] theorem Upd.ses_gclk : ((Upd.ses k v).apply s).gclk = s.gclk := rfl
@[simp] theorem Upd.ses_dec : ((Upd.ses k v).apply s).dec = s.dec := rfl
@[simp] theorem Upd.ses_ctl : ((Upd.ses k v).apply s).ctl = s.ctl := rfl
@[simp] theorem Upd.ses_cores : ((Upd.ses k v).apply s).cores = s.cores := rfl
@[simp] theorem Upd.ses_mes : ((Upd.ses k v).apply s).mes = s.mes := rfl
@[simp] theorem Upd.ses_vus : ((Upd.ses k v).apply s).vus = s.vus := rfl
@[simp] theorem Upd.ses_spd : ((Upd.ses k v).apply s).spd = s.spd := rfl
@[simp] theorem Upd.ses_spdPoison : ((Upd.ses k v).apply s).spdPoison = s.spdPoison := rfl
@[simp] theorem Upd.ses_dram : ((Upd.ses k v).apply s).dram = s.dram := rfl
@[simp] theorem Upd.ses_dramPoison : ((Upd.ses k v).apply s).dramPoison = s.dramPoison := rfl
@[simp] theorem Upd.ses_dramWritten : ((Upd.ses k v).apply s).dramWritten = s.dramWritten := rfl
@[simp] theorem Upd.ses_caches : ((Upd.ses k v).apply s).caches = s.caches := rfl
@[simp] theorem Upd.ses_refreshOnly : ((Upd.ses k v).apply s).refreshOnly = s.refreshOnly := rfl
@[simp] theorem Upd.ses_refreshed : ((Upd.ses k v).apply s).refreshed = s.refreshed := rfl
@[simp] theorem Upd.ses_flasks : ((Upd.ses k v).apply s).flasks = s.flasks := rfl
@[simp] theorem Upd.ses_queues : ((Upd.ses k v).apply s).queues = s.queues := rfl
@[simp] theorem Upd.ses_ldls : ((Upd.ses k v).apply s).ldls = s.ldls := rfl
@[simp] theorem Upd.ses_msix : ((Upd.ses k v).apply s).msix = s.msix := rfl
@[simp] theorem Upd.ses_hports : ((Upd.ses k v).apply s).hports = s.hports := rfl
@[simp] theorem Upd.ses_hostOut : ((Upd.ses k v).apply s).hostOut = s.hostOut := rfl
@[simp] theorem Upd.ses_rings : ((Upd.ses k v).apply s).rings = s.rings := rfl
@[simp] theorem Upd.ses_ev : ((Upd.ses k v).apply s).ev = s.ev := rfl
@[simp] theorem Upd.ses_slots : ((Upd.ses k v).apply s).slots = s.slots := rfl
@[simp] theorem Upd.ses_mbOrder : ((Upd.ses k v).apply s).mbOrder = s.mbOrder := rfl
@[simp] theorem Upd.ses_msgs : ((Upd.ses k v).apply s).msgs = s.msgs := rfl
@[simp] theorem Upd.ses_ports : ((Upd.ses k v).apply s).ports = s.ports := rfl
@[simp] theorem Upd.ses_pour : ((Upd.ses k v).apply s).pour = s.pour := rfl
@[simp] theorem Upd.ses_faults : ((Upd.ses k v).apply s).faults = s.faults := rfl
@[simp] theorem Upd.ses_pep : ((Upd.ses k v).apply s).pep = s.pep := rfl
@[simp] theorem Upd.ses_power : ((Upd.ses k v).apply s).power = s.power := rfl
@[simp] theorem Upd.ses_resp : ((Upd.ses k v).apply s).resp = s.resp := rfl
@[simp] theorem Upd.ses_dbg : ((Upd.ses k v).apply s).dbg = s.dbg := rfl
@[simp] theorem Upd.ses_pst : ((Upd.ses k v).apply s).pst = s.pst := rfl
@[simp] theorem Upd.ses_boot : ((Upd.ses k v).apply s).boot = s.boot := rfl
@[simp] theorem Upd.ses_saf : ((Upd.ses k v).apply s).saf = s.saf := rfl
@[simp] theorem Upd.ses_svc : ((Upd.ses k v).apply s).svc = s.svc := rfl
@[simp] theorem Upd.ses_freeCtr : ((Upd.ses k v).apply s).freeCtr = s.freeCtr := rfl
end

section
variable (lo hi : Nat)
@[simp] theorem Upd.sesClear_flds : ((Upd.sesClear lo hi).apply s).flds = s.flds := rfl
@[simp] theorem Upd.sesClear_slag : ((Upd.sesClear lo hi).apply s).slag = s.slag := rfl
@[simp] theorem Upd.sesClear_seam : ((Upd.sesClear lo hi).apply s).seam = s.seam := rfl
@[simp] theorem Upd.sesClear_align : ((Upd.sesClear lo hi).apply s).align = s.align := rfl
@[simp] theorem Upd.sesClear_gclk : ((Upd.sesClear lo hi).apply s).gclk = s.gclk := rfl
@[simp] theorem Upd.sesClear_dec : ((Upd.sesClear lo hi).apply s).dec = s.dec := rfl
@[simp] theorem Upd.sesClear_ctl : ((Upd.sesClear lo hi).apply s).ctl = s.ctl := rfl
@[simp] theorem Upd.sesClear_cores : ((Upd.sesClear lo hi).apply s).cores = s.cores := rfl
@[simp] theorem Upd.sesClear_mes : ((Upd.sesClear lo hi).apply s).mes = s.mes := rfl
@[simp] theorem Upd.sesClear_vus : ((Upd.sesClear lo hi).apply s).vus = s.vus := rfl
@[simp] theorem Upd.sesClear_spd : ((Upd.sesClear lo hi).apply s).spd = s.spd := rfl
@[simp] theorem Upd.sesClear_spdPoison : ((Upd.sesClear lo hi).apply s).spdPoison = s.spdPoison := rfl
@[simp] theorem Upd.sesClear_dram : ((Upd.sesClear lo hi).apply s).dram = s.dram := rfl
@[simp] theorem Upd.sesClear_dramPoison : ((Upd.sesClear lo hi).apply s).dramPoison = s.dramPoison := rfl
@[simp] theorem Upd.sesClear_dramWritten : ((Upd.sesClear lo hi).apply s).dramWritten = s.dramWritten := rfl
@[simp] theorem Upd.sesClear_caches : ((Upd.sesClear lo hi).apply s).caches = s.caches := rfl
@[simp] theorem Upd.sesClear_refreshOnly : ((Upd.sesClear lo hi).apply s).refreshOnly = s.refreshOnly := rfl
@[simp] theorem Upd.sesClear_refreshed : ((Upd.sesClear lo hi).apply s).refreshed = s.refreshed := rfl
@[simp] theorem Upd.sesClear_flasks : ((Upd.sesClear lo hi).apply s).flasks = s.flasks := rfl
@[simp] theorem Upd.sesClear_queues : ((Upd.sesClear lo hi).apply s).queues = s.queues := rfl
@[simp] theorem Upd.sesClear_ldls : ((Upd.sesClear lo hi).apply s).ldls = s.ldls := rfl
@[simp] theorem Upd.sesClear_msix : ((Upd.sesClear lo hi).apply s).msix = s.msix := rfl
@[simp] theorem Upd.sesClear_hports : ((Upd.sesClear lo hi).apply s).hports = s.hports := rfl
@[simp] theorem Upd.sesClear_hostOut : ((Upd.sesClear lo hi).apply s).hostOut = s.hostOut := rfl
@[simp] theorem Upd.sesClear_rings : ((Upd.sesClear lo hi).apply s).rings = s.rings := rfl
@[simp] theorem Upd.sesClear_ev : ((Upd.sesClear lo hi).apply s).ev = s.ev := rfl
@[simp] theorem Upd.sesClear_slots : ((Upd.sesClear lo hi).apply s).slots = s.slots := rfl
@[simp] theorem Upd.sesClear_mbOrder : ((Upd.sesClear lo hi).apply s).mbOrder = s.mbOrder := rfl
@[simp] theorem Upd.sesClear_msgs : ((Upd.sesClear lo hi).apply s).msgs = s.msgs := rfl
@[simp] theorem Upd.sesClear_ports : ((Upd.sesClear lo hi).apply s).ports = s.ports := rfl
@[simp] theorem Upd.sesClear_pour : ((Upd.sesClear lo hi).apply s).pour = s.pour := rfl
@[simp] theorem Upd.sesClear_faults : ((Upd.sesClear lo hi).apply s).faults = s.faults := rfl
@[simp] theorem Upd.sesClear_pep : ((Upd.sesClear lo hi).apply s).pep = s.pep := rfl
@[simp] theorem Upd.sesClear_power : ((Upd.sesClear lo hi).apply s).power = s.power := rfl
@[simp] theorem Upd.sesClear_resp : ((Upd.sesClear lo hi).apply s).resp = s.resp := rfl
@[simp] theorem Upd.sesClear_dbg : ((Upd.sesClear lo hi).apply s).dbg = s.dbg := rfl
@[simp] theorem Upd.sesClear_pst : ((Upd.sesClear lo hi).apply s).pst = s.pst := rfl
@[simp] theorem Upd.sesClear_boot : ((Upd.sesClear lo hi).apply s).boot = s.boot := rfl
@[simp] theorem Upd.sesClear_saf : ((Upd.sesClear lo hi).apply s).saf = s.saf := rfl
@[simp] theorem Upd.sesClear_svc : ((Upd.sesClear lo hi).apply s).svc = s.svc := rfl
@[simp] theorem Upd.sesClear_freeCtr : ((Upd.sesClear lo hi).apply s).freeCtr = s.freeCtr := rfl
end

section
variable (k : Nat) (v : VuSt)
@[simp] theorem Upd.vus_flds : ((Upd.vus k v).apply s).flds = s.flds := rfl
@[simp] theorem Upd.vus_slag : ((Upd.vus k v).apply s).slag = s.slag := rfl
@[simp] theorem Upd.vus_seam : ((Upd.vus k v).apply s).seam = s.seam := rfl
@[simp] theorem Upd.vus_align : ((Upd.vus k v).apply s).align = s.align := rfl
@[simp] theorem Upd.vus_gclk : ((Upd.vus k v).apply s).gclk = s.gclk := rfl
@[simp] theorem Upd.vus_dec : ((Upd.vus k v).apply s).dec = s.dec := rfl
@[simp] theorem Upd.vus_ctl : ((Upd.vus k v).apply s).ctl = s.ctl := rfl
@[simp] theorem Upd.vus_cores : ((Upd.vus k v).apply s).cores = s.cores := rfl
@[simp] theorem Upd.vus_mes : ((Upd.vus k v).apply s).mes = s.mes := rfl
@[simp] theorem Upd.vus_ses : ((Upd.vus k v).apply s).ses = s.ses := rfl
@[simp] theorem Upd.vus_spd : ((Upd.vus k v).apply s).spd = s.spd := rfl
@[simp] theorem Upd.vus_spdPoison : ((Upd.vus k v).apply s).spdPoison = s.spdPoison := rfl
@[simp] theorem Upd.vus_dram : ((Upd.vus k v).apply s).dram = s.dram := rfl
@[simp] theorem Upd.vus_dramPoison : ((Upd.vus k v).apply s).dramPoison = s.dramPoison := rfl
@[simp] theorem Upd.vus_dramWritten : ((Upd.vus k v).apply s).dramWritten = s.dramWritten := rfl
@[simp] theorem Upd.vus_caches : ((Upd.vus k v).apply s).caches = s.caches := rfl
@[simp] theorem Upd.vus_refreshOnly : ((Upd.vus k v).apply s).refreshOnly = s.refreshOnly := rfl
@[simp] theorem Upd.vus_refreshed : ((Upd.vus k v).apply s).refreshed = s.refreshed := rfl
@[simp] theorem Upd.vus_flasks : ((Upd.vus k v).apply s).flasks = s.flasks := rfl
@[simp] theorem Upd.vus_queues : ((Upd.vus k v).apply s).queues = s.queues := rfl
@[simp] theorem Upd.vus_ldls : ((Upd.vus k v).apply s).ldls = s.ldls := rfl
@[simp] theorem Upd.vus_msix : ((Upd.vus k v).apply s).msix = s.msix := rfl
@[simp] theorem Upd.vus_hports : ((Upd.vus k v).apply s).hports = s.hports := rfl
@[simp] theorem Upd.vus_hostOut : ((Upd.vus k v).apply s).hostOut = s.hostOut := rfl
@[simp] theorem Upd.vus_rings : ((Upd.vus k v).apply s).rings = s.rings := rfl
@[simp] theorem Upd.vus_ev : ((Upd.vus k v).apply s).ev = s.ev := rfl
@[simp] theorem Upd.vus_slots : ((Upd.vus k v).apply s).slots = s.slots := rfl
@[simp] theorem Upd.vus_mbOrder : ((Upd.vus k v).apply s).mbOrder = s.mbOrder := rfl
@[simp] theorem Upd.vus_msgs : ((Upd.vus k v).apply s).msgs = s.msgs := rfl
@[simp] theorem Upd.vus_ports : ((Upd.vus k v).apply s).ports = s.ports := rfl
@[simp] theorem Upd.vus_pour : ((Upd.vus k v).apply s).pour = s.pour := rfl
@[simp] theorem Upd.vus_faults : ((Upd.vus k v).apply s).faults = s.faults := rfl
@[simp] theorem Upd.vus_pep : ((Upd.vus k v).apply s).pep = s.pep := rfl
@[simp] theorem Upd.vus_power : ((Upd.vus k v).apply s).power = s.power := rfl
@[simp] theorem Upd.vus_resp : ((Upd.vus k v).apply s).resp = s.resp := rfl
@[simp] theorem Upd.vus_dbg : ((Upd.vus k v).apply s).dbg = s.dbg := rfl
@[simp] theorem Upd.vus_pst : ((Upd.vus k v).apply s).pst = s.pst := rfl
@[simp] theorem Upd.vus_boot : ((Upd.vus k v).apply s).boot = s.boot := rfl
@[simp] theorem Upd.vus_saf : ((Upd.vus k v).apply s).saf = s.saf := rfl
@[simp] theorem Upd.vus_svc : ((Upd.vus k v).apply s).svc = s.svc := rfl
@[simp] theorem Upd.vus_freeCtr : ((Upd.vus k v).apply s).freeCtr = s.freeCtr := rfl
end

section
variable (lo hi : Nat)
@[simp] theorem Upd.vusClear_flds : ((Upd.vusClear lo hi).apply s).flds = s.flds := rfl
@[simp] theorem Upd.vusClear_slag : ((Upd.vusClear lo hi).apply s).slag = s.slag := rfl
@[simp] theorem Upd.vusClear_seam : ((Upd.vusClear lo hi).apply s).seam = s.seam := rfl
@[simp] theorem Upd.vusClear_align : ((Upd.vusClear lo hi).apply s).align = s.align := rfl
@[simp] theorem Upd.vusClear_gclk : ((Upd.vusClear lo hi).apply s).gclk = s.gclk := rfl
@[simp] theorem Upd.vusClear_dec : ((Upd.vusClear lo hi).apply s).dec = s.dec := rfl
@[simp] theorem Upd.vusClear_ctl : ((Upd.vusClear lo hi).apply s).ctl = s.ctl := rfl
@[simp] theorem Upd.vusClear_cores : ((Upd.vusClear lo hi).apply s).cores = s.cores := rfl
@[simp] theorem Upd.vusClear_mes : ((Upd.vusClear lo hi).apply s).mes = s.mes := rfl
@[simp] theorem Upd.vusClear_ses : ((Upd.vusClear lo hi).apply s).ses = s.ses := rfl
@[simp] theorem Upd.vusClear_spd : ((Upd.vusClear lo hi).apply s).spd = s.spd := rfl
@[simp] theorem Upd.vusClear_spdPoison : ((Upd.vusClear lo hi).apply s).spdPoison = s.spdPoison := rfl
@[simp] theorem Upd.vusClear_dram : ((Upd.vusClear lo hi).apply s).dram = s.dram := rfl
@[simp] theorem Upd.vusClear_dramPoison : ((Upd.vusClear lo hi).apply s).dramPoison = s.dramPoison := rfl
@[simp] theorem Upd.vusClear_dramWritten : ((Upd.vusClear lo hi).apply s).dramWritten = s.dramWritten := rfl
@[simp] theorem Upd.vusClear_caches : ((Upd.vusClear lo hi).apply s).caches = s.caches := rfl
@[simp] theorem Upd.vusClear_refreshOnly : ((Upd.vusClear lo hi).apply s).refreshOnly = s.refreshOnly := rfl
@[simp] theorem Upd.vusClear_refreshed : ((Upd.vusClear lo hi).apply s).refreshed = s.refreshed := rfl
@[simp] theorem Upd.vusClear_flasks : ((Upd.vusClear lo hi).apply s).flasks = s.flasks := rfl
@[simp] theorem Upd.vusClear_queues : ((Upd.vusClear lo hi).apply s).queues = s.queues := rfl
@[simp] theorem Upd.vusClear_ldls : ((Upd.vusClear lo hi).apply s).ldls = s.ldls := rfl
@[simp] theorem Upd.vusClear_msix : ((Upd.vusClear lo hi).apply s).msix = s.msix := rfl
@[simp] theorem Upd.vusClear_hports : ((Upd.vusClear lo hi).apply s).hports = s.hports := rfl
@[simp] theorem Upd.vusClear_hostOut : ((Upd.vusClear lo hi).apply s).hostOut = s.hostOut := rfl
@[simp] theorem Upd.vusClear_rings : ((Upd.vusClear lo hi).apply s).rings = s.rings := rfl
@[simp] theorem Upd.vusClear_ev : ((Upd.vusClear lo hi).apply s).ev = s.ev := rfl
@[simp] theorem Upd.vusClear_slots : ((Upd.vusClear lo hi).apply s).slots = s.slots := rfl
@[simp] theorem Upd.vusClear_mbOrder : ((Upd.vusClear lo hi).apply s).mbOrder = s.mbOrder := rfl
@[simp] theorem Upd.vusClear_msgs : ((Upd.vusClear lo hi).apply s).msgs = s.msgs := rfl
@[simp] theorem Upd.vusClear_ports : ((Upd.vusClear lo hi).apply s).ports = s.ports := rfl
@[simp] theorem Upd.vusClear_pour : ((Upd.vusClear lo hi).apply s).pour = s.pour := rfl
@[simp] theorem Upd.vusClear_faults : ((Upd.vusClear lo hi).apply s).faults = s.faults := rfl
@[simp] theorem Upd.vusClear_pep : ((Upd.vusClear lo hi).apply s).pep = s.pep := rfl
@[simp] theorem Upd.vusClear_power : ((Upd.vusClear lo hi).apply s).power = s.power := rfl
@[simp] theorem Upd.vusClear_resp : ((Upd.vusClear lo hi).apply s).resp = s.resp := rfl
@[simp] theorem Upd.vusClear_dbg : ((Upd.vusClear lo hi).apply s).dbg = s.dbg := rfl
@[simp] theorem Upd.vusClear_pst : ((Upd.vusClear lo hi).apply s).pst = s.pst := rfl
@[simp] theorem Upd.vusClear_boot : ((Upd.vusClear lo hi).apply s).boot = s.boot := rfl
@[simp] theorem Upd.vusClear_saf : ((Upd.vusClear lo hi).apply s).saf = s.saf := rfl
@[simp] theorem Upd.vusClear_svc : ((Upd.vusClear lo hi).apply s).svc = s.svc := rfl
@[simp] theorem Upd.vusClear_freeCtr : ((Upd.vusClear lo hi).apply s).freeCtr = s.freeCtr := rfl
end

section
variable (a : Nat) (bs : List Byte)
@[simp] theorem Upd.spd_flds : ((Upd.spd a bs).apply s).flds = s.flds := rfl
@[simp] theorem Upd.spd_slag : ((Upd.spd a bs).apply s).slag = s.slag := rfl
@[simp] theorem Upd.spd_seam : ((Upd.spd a bs).apply s).seam = s.seam := rfl
@[simp] theorem Upd.spd_align : ((Upd.spd a bs).apply s).align = s.align := rfl
@[simp] theorem Upd.spd_gclk : ((Upd.spd a bs).apply s).gclk = s.gclk := rfl
@[simp] theorem Upd.spd_dec : ((Upd.spd a bs).apply s).dec = s.dec := rfl
@[simp] theorem Upd.spd_ctl : ((Upd.spd a bs).apply s).ctl = s.ctl := rfl
@[simp] theorem Upd.spd_cores : ((Upd.spd a bs).apply s).cores = s.cores := rfl
@[simp] theorem Upd.spd_mes : ((Upd.spd a bs).apply s).mes = s.mes := rfl
@[simp] theorem Upd.spd_ses : ((Upd.spd a bs).apply s).ses = s.ses := rfl
@[simp] theorem Upd.spd_vus : ((Upd.spd a bs).apply s).vus = s.vus := rfl
@[simp] theorem Upd.spd_spdPoison : ((Upd.spd a bs).apply s).spdPoison = s.spdPoison := rfl
@[simp] theorem Upd.spd_dram : ((Upd.spd a bs).apply s).dram = s.dram := rfl
@[simp] theorem Upd.spd_dramPoison : ((Upd.spd a bs).apply s).dramPoison = s.dramPoison := rfl
@[simp] theorem Upd.spd_dramWritten : ((Upd.spd a bs).apply s).dramWritten = s.dramWritten := rfl
@[simp] theorem Upd.spd_caches : ((Upd.spd a bs).apply s).caches = s.caches := rfl
@[simp] theorem Upd.spd_refreshOnly : ((Upd.spd a bs).apply s).refreshOnly = s.refreshOnly := rfl
@[simp] theorem Upd.spd_refreshed : ((Upd.spd a bs).apply s).refreshed = s.refreshed := rfl
@[simp] theorem Upd.spd_flasks : ((Upd.spd a bs).apply s).flasks = s.flasks := rfl
@[simp] theorem Upd.spd_queues : ((Upd.spd a bs).apply s).queues = s.queues := rfl
@[simp] theorem Upd.spd_ldls : ((Upd.spd a bs).apply s).ldls = s.ldls := rfl
@[simp] theorem Upd.spd_msix : ((Upd.spd a bs).apply s).msix = s.msix := rfl
@[simp] theorem Upd.spd_hports : ((Upd.spd a bs).apply s).hports = s.hports := rfl
@[simp] theorem Upd.spd_hostOut : ((Upd.spd a bs).apply s).hostOut = s.hostOut := rfl
@[simp] theorem Upd.spd_rings : ((Upd.spd a bs).apply s).rings = s.rings := rfl
@[simp] theorem Upd.spd_ev : ((Upd.spd a bs).apply s).ev = s.ev := rfl
@[simp] theorem Upd.spd_slots : ((Upd.spd a bs).apply s).slots = s.slots := rfl
@[simp] theorem Upd.spd_mbOrder : ((Upd.spd a bs).apply s).mbOrder = s.mbOrder := rfl
@[simp] theorem Upd.spd_msgs : ((Upd.spd a bs).apply s).msgs = s.msgs := rfl
@[simp] theorem Upd.spd_ports : ((Upd.spd a bs).apply s).ports = s.ports := rfl
@[simp] theorem Upd.spd_pour : ((Upd.spd a bs).apply s).pour = s.pour := rfl
@[simp] theorem Upd.spd_faults : ((Upd.spd a bs).apply s).faults = s.faults := rfl
@[simp] theorem Upd.spd_pep : ((Upd.spd a bs).apply s).pep = s.pep := rfl
@[simp] theorem Upd.spd_power : ((Upd.spd a bs).apply s).power = s.power := rfl
@[simp] theorem Upd.spd_resp : ((Upd.spd a bs).apply s).resp = s.resp := rfl
@[simp] theorem Upd.spd_dbg : ((Upd.spd a bs).apply s).dbg = s.dbg := rfl
@[simp] theorem Upd.spd_pst : ((Upd.spd a bs).apply s).pst = s.pst := rfl
@[simp] theorem Upd.spd_boot : ((Upd.spd a bs).apply s).boot = s.boot := rfl
@[simp] theorem Upd.spd_saf : ((Upd.spd a bs).apply s).saf = s.saf := rfl
@[simp] theorem Upd.spd_svc : ((Upd.spd a bs).apply s).svc = s.svc := rfl
@[simp] theorem Upd.spd_freeCtr : ((Upd.spd a bs).apply s).freeCtr = s.freeCtr := rfl
end

section
variable (lo hi : Nat)
@[simp] theorem Upd.spdClear_flds : ((Upd.spdClear lo hi).apply s).flds = s.flds := rfl
@[simp] theorem Upd.spdClear_slag : ((Upd.spdClear lo hi).apply s).slag = s.slag := rfl
@[simp] theorem Upd.spdClear_seam : ((Upd.spdClear lo hi).apply s).seam = s.seam := rfl
@[simp] theorem Upd.spdClear_align : ((Upd.spdClear lo hi).apply s).align = s.align := rfl
@[simp] theorem Upd.spdClear_gclk : ((Upd.spdClear lo hi).apply s).gclk = s.gclk := rfl
@[simp] theorem Upd.spdClear_dec : ((Upd.spdClear lo hi).apply s).dec = s.dec := rfl
@[simp] theorem Upd.spdClear_ctl : ((Upd.spdClear lo hi).apply s).ctl = s.ctl := rfl
@[simp] theorem Upd.spdClear_cores : ((Upd.spdClear lo hi).apply s).cores = s.cores := rfl
@[simp] theorem Upd.spdClear_mes : ((Upd.spdClear lo hi).apply s).mes = s.mes := rfl
@[simp] theorem Upd.spdClear_ses : ((Upd.spdClear lo hi).apply s).ses = s.ses := rfl
@[simp] theorem Upd.spdClear_vus : ((Upd.spdClear lo hi).apply s).vus = s.vus := rfl
@[simp] theorem Upd.spdClear_spdPoison : ((Upd.spdClear lo hi).apply s).spdPoison = s.spdPoison := rfl
@[simp] theorem Upd.spdClear_dram : ((Upd.spdClear lo hi).apply s).dram = s.dram := rfl
@[simp] theorem Upd.spdClear_dramPoison : ((Upd.spdClear lo hi).apply s).dramPoison = s.dramPoison := rfl
@[simp] theorem Upd.spdClear_dramWritten : ((Upd.spdClear lo hi).apply s).dramWritten = s.dramWritten := rfl
@[simp] theorem Upd.spdClear_caches : ((Upd.spdClear lo hi).apply s).caches = s.caches := rfl
@[simp] theorem Upd.spdClear_refreshOnly : ((Upd.spdClear lo hi).apply s).refreshOnly = s.refreshOnly := rfl
@[simp] theorem Upd.spdClear_refreshed : ((Upd.spdClear lo hi).apply s).refreshed = s.refreshed := rfl
@[simp] theorem Upd.spdClear_flasks : ((Upd.spdClear lo hi).apply s).flasks = s.flasks := rfl
@[simp] theorem Upd.spdClear_queues : ((Upd.spdClear lo hi).apply s).queues = s.queues := rfl
@[simp] theorem Upd.spdClear_ldls : ((Upd.spdClear lo hi).apply s).ldls = s.ldls := rfl
@[simp] theorem Upd.spdClear_msix : ((Upd.spdClear lo hi).apply s).msix = s.msix := rfl
@[simp] theorem Upd.spdClear_hports : ((Upd.spdClear lo hi).apply s).hports = s.hports := rfl
@[simp] theorem Upd.spdClear_hostOut : ((Upd.spdClear lo hi).apply s).hostOut = s.hostOut := rfl
@[simp] theorem Upd.spdClear_rings : ((Upd.spdClear lo hi).apply s).rings = s.rings := rfl
@[simp] theorem Upd.spdClear_ev : ((Upd.spdClear lo hi).apply s).ev = s.ev := rfl
@[simp] theorem Upd.spdClear_slots : ((Upd.spdClear lo hi).apply s).slots = s.slots := rfl
@[simp] theorem Upd.spdClear_mbOrder : ((Upd.spdClear lo hi).apply s).mbOrder = s.mbOrder := rfl
@[simp] theorem Upd.spdClear_msgs : ((Upd.spdClear lo hi).apply s).msgs = s.msgs := rfl
@[simp] theorem Upd.spdClear_ports : ((Upd.spdClear lo hi).apply s).ports = s.ports := rfl
@[simp] theorem Upd.spdClear_pour : ((Upd.spdClear lo hi).apply s).pour = s.pour := rfl
@[simp] theorem Upd.spdClear_faults : ((Upd.spdClear lo hi).apply s).faults = s.faults := rfl
@[simp] theorem Upd.spdClear_pep : ((Upd.spdClear lo hi).apply s).pep = s.pep := rfl
@[simp] theorem Upd.spdClear_power : ((Upd.spdClear lo hi).apply s).power = s.power := rfl
@[simp] theorem Upd.spdClear_resp : ((Upd.spdClear lo hi).apply s).resp = s.resp := rfl
@[simp] theorem Upd.spdClear_dbg : ((Upd.spdClear lo hi).apply s).dbg = s.dbg := rfl
@[simp] theorem Upd.spdClear_pst : ((Upd.spdClear lo hi).apply s).pst = s.pst := rfl
@[simp] theorem Upd.spdClear_boot : ((Upd.spdClear lo hi).apply s).boot = s.boot := rfl
@[simp] theorem Upd.spdClear_saf : ((Upd.spdClear lo hi).apply s).saf = s.saf := rfl
@[simp] theorem Upd.spdClear_svc : ((Upd.spdClear lo hi).apply s).svc = s.svc := rfl
@[simp] theorem Upd.spdClear_freeCtr : ((Upd.spdClear lo hi).apply s).freeCtr = s.freeCtr := rfl
end

section
variable (k : Nat) (b : Bool)
@[simp] theorem Upd.spdPoison_flds : ((Upd.spdPoison k b).apply s).flds = s.flds := rfl
@[simp] theorem Upd.spdPoison_slag : ((Upd.spdPoison k b).apply s).slag = s.slag := rfl
@[simp] theorem Upd.spdPoison_seam : ((Upd.spdPoison k b).apply s).seam = s.seam := rfl
@[simp] theorem Upd.spdPoison_align : ((Upd.spdPoison k b).apply s).align = s.align := rfl
@[simp] theorem Upd.spdPoison_gclk : ((Upd.spdPoison k b).apply s).gclk = s.gclk := rfl
@[simp] theorem Upd.spdPoison_dec : ((Upd.spdPoison k b).apply s).dec = s.dec := rfl
@[simp] theorem Upd.spdPoison_ctl : ((Upd.spdPoison k b).apply s).ctl = s.ctl := rfl
@[simp] theorem Upd.spdPoison_cores : ((Upd.spdPoison k b).apply s).cores = s.cores := rfl
@[simp] theorem Upd.spdPoison_mes : ((Upd.spdPoison k b).apply s).mes = s.mes := rfl
@[simp] theorem Upd.spdPoison_ses : ((Upd.spdPoison k b).apply s).ses = s.ses := rfl
@[simp] theorem Upd.spdPoison_vus : ((Upd.spdPoison k b).apply s).vus = s.vus := rfl
@[simp] theorem Upd.spdPoison_spd : ((Upd.spdPoison k b).apply s).spd = s.spd := rfl
@[simp] theorem Upd.spdPoison_dram : ((Upd.spdPoison k b).apply s).dram = s.dram := rfl
@[simp] theorem Upd.spdPoison_dramPoison : ((Upd.spdPoison k b).apply s).dramPoison = s.dramPoison := rfl
@[simp] theorem Upd.spdPoison_dramWritten : ((Upd.spdPoison k b).apply s).dramWritten = s.dramWritten := rfl
@[simp] theorem Upd.spdPoison_caches : ((Upd.spdPoison k b).apply s).caches = s.caches := rfl
@[simp] theorem Upd.spdPoison_refreshOnly : ((Upd.spdPoison k b).apply s).refreshOnly = s.refreshOnly := rfl
@[simp] theorem Upd.spdPoison_refreshed : ((Upd.spdPoison k b).apply s).refreshed = s.refreshed := rfl
@[simp] theorem Upd.spdPoison_flasks : ((Upd.spdPoison k b).apply s).flasks = s.flasks := rfl
@[simp] theorem Upd.spdPoison_queues : ((Upd.spdPoison k b).apply s).queues = s.queues := rfl
@[simp] theorem Upd.spdPoison_ldls : ((Upd.spdPoison k b).apply s).ldls = s.ldls := rfl
@[simp] theorem Upd.spdPoison_msix : ((Upd.spdPoison k b).apply s).msix = s.msix := rfl
@[simp] theorem Upd.spdPoison_hports : ((Upd.spdPoison k b).apply s).hports = s.hports := rfl
@[simp] theorem Upd.spdPoison_hostOut : ((Upd.spdPoison k b).apply s).hostOut = s.hostOut := rfl
@[simp] theorem Upd.spdPoison_rings : ((Upd.spdPoison k b).apply s).rings = s.rings := rfl
@[simp] theorem Upd.spdPoison_ev : ((Upd.spdPoison k b).apply s).ev = s.ev := rfl
@[simp] theorem Upd.spdPoison_slots : ((Upd.spdPoison k b).apply s).slots = s.slots := rfl
@[simp] theorem Upd.spdPoison_mbOrder : ((Upd.spdPoison k b).apply s).mbOrder = s.mbOrder := rfl
@[simp] theorem Upd.spdPoison_msgs : ((Upd.spdPoison k b).apply s).msgs = s.msgs := rfl
@[simp] theorem Upd.spdPoison_ports : ((Upd.spdPoison k b).apply s).ports = s.ports := rfl
@[simp] theorem Upd.spdPoison_pour : ((Upd.spdPoison k b).apply s).pour = s.pour := rfl
@[simp] theorem Upd.spdPoison_faults : ((Upd.spdPoison k b).apply s).faults = s.faults := rfl
@[simp] theorem Upd.spdPoison_pep : ((Upd.spdPoison k b).apply s).pep = s.pep := rfl
@[simp] theorem Upd.spdPoison_power : ((Upd.spdPoison k b).apply s).power = s.power := rfl
@[simp] theorem Upd.spdPoison_resp : ((Upd.spdPoison k b).apply s).resp = s.resp := rfl
@[simp] theorem Upd.spdPoison_dbg : ((Upd.spdPoison k b).apply s).dbg = s.dbg := rfl
@[simp] theorem Upd.spdPoison_pst : ((Upd.spdPoison k b).apply s).pst = s.pst := rfl
@[simp] theorem Upd.spdPoison_boot : ((Upd.spdPoison k b).apply s).boot = s.boot := rfl
@[simp] theorem Upd.spdPoison_saf : ((Upd.spdPoison k b).apply s).saf = s.saf := rfl
@[simp] theorem Upd.spdPoison_svc : ((Upd.spdPoison k b).apply s).svc = s.svc := rfl
@[simp] theorem Upd.spdPoison_freeCtr : ((Upd.spdPoison k b).apply s).freeCtr = s.freeCtr := rfl
end

section
variable (lo hi : Nat)
@[simp] theorem Upd.spdPoisonClear_flds : ((Upd.spdPoisonClear lo hi).apply s).flds = s.flds := rfl
@[simp] theorem Upd.spdPoisonClear_slag : ((Upd.spdPoisonClear lo hi).apply s).slag = s.slag := rfl
@[simp] theorem Upd.spdPoisonClear_seam : ((Upd.spdPoisonClear lo hi).apply s).seam = s.seam := rfl
@[simp] theorem Upd.spdPoisonClear_align : ((Upd.spdPoisonClear lo hi).apply s).align = s.align := rfl
@[simp] theorem Upd.spdPoisonClear_gclk : ((Upd.spdPoisonClear lo hi).apply s).gclk = s.gclk := rfl
@[simp] theorem Upd.spdPoisonClear_dec : ((Upd.spdPoisonClear lo hi).apply s).dec = s.dec := rfl
@[simp] theorem Upd.spdPoisonClear_ctl : ((Upd.spdPoisonClear lo hi).apply s).ctl = s.ctl := rfl
@[simp] theorem Upd.spdPoisonClear_cores : ((Upd.spdPoisonClear lo hi).apply s).cores = s.cores := rfl
@[simp] theorem Upd.spdPoisonClear_mes : ((Upd.spdPoisonClear lo hi).apply s).mes = s.mes := rfl
@[simp] theorem Upd.spdPoisonClear_ses : ((Upd.spdPoisonClear lo hi).apply s).ses = s.ses := rfl
@[simp] theorem Upd.spdPoisonClear_vus : ((Upd.spdPoisonClear lo hi).apply s).vus = s.vus := rfl
@[simp] theorem Upd.spdPoisonClear_spd : ((Upd.spdPoisonClear lo hi).apply s).spd = s.spd := rfl
@[simp] theorem Upd.spdPoisonClear_dram : ((Upd.spdPoisonClear lo hi).apply s).dram = s.dram := rfl
@[simp] theorem Upd.spdPoisonClear_dramPoison : ((Upd.spdPoisonClear lo hi).apply s).dramPoison = s.dramPoison := rfl
@[simp] theorem Upd.spdPoisonClear_dramWritten : ((Upd.spdPoisonClear lo hi).apply s).dramWritten = s.dramWritten := rfl
@[simp] theorem Upd.spdPoisonClear_caches : ((Upd.spdPoisonClear lo hi).apply s).caches = s.caches := rfl
@[simp] theorem Upd.spdPoisonClear_refreshOnly : ((Upd.spdPoisonClear lo hi).apply s).refreshOnly = s.refreshOnly := rfl
@[simp] theorem Upd.spdPoisonClear_refreshed : ((Upd.spdPoisonClear lo hi).apply s).refreshed = s.refreshed := rfl
@[simp] theorem Upd.spdPoisonClear_flasks : ((Upd.spdPoisonClear lo hi).apply s).flasks = s.flasks := rfl
@[simp] theorem Upd.spdPoisonClear_queues : ((Upd.spdPoisonClear lo hi).apply s).queues = s.queues := rfl
@[simp] theorem Upd.spdPoisonClear_ldls : ((Upd.spdPoisonClear lo hi).apply s).ldls = s.ldls := rfl
@[simp] theorem Upd.spdPoisonClear_msix : ((Upd.spdPoisonClear lo hi).apply s).msix = s.msix := rfl
@[simp] theorem Upd.spdPoisonClear_hports : ((Upd.spdPoisonClear lo hi).apply s).hports = s.hports := rfl
@[simp] theorem Upd.spdPoisonClear_hostOut : ((Upd.spdPoisonClear lo hi).apply s).hostOut = s.hostOut := rfl
@[simp] theorem Upd.spdPoisonClear_rings : ((Upd.spdPoisonClear lo hi).apply s).rings = s.rings := rfl
@[simp] theorem Upd.spdPoisonClear_ev : ((Upd.spdPoisonClear lo hi).apply s).ev = s.ev := rfl
@[simp] theorem Upd.spdPoisonClear_slots : ((Upd.spdPoisonClear lo hi).apply s).slots = s.slots := rfl
@[simp] theorem Upd.spdPoisonClear_mbOrder : ((Upd.spdPoisonClear lo hi).apply s).mbOrder = s.mbOrder := rfl
@[simp] theorem Upd.spdPoisonClear_msgs : ((Upd.spdPoisonClear lo hi).apply s).msgs = s.msgs := rfl
@[simp] theorem Upd.spdPoisonClear_ports : ((Upd.spdPoisonClear lo hi).apply s).ports = s.ports := rfl
@[simp] theorem Upd.spdPoisonClear_pour : ((Upd.spdPoisonClear lo hi).apply s).pour = s.pour := rfl
@[simp] theorem Upd.spdPoisonClear_faults : ((Upd.spdPoisonClear lo hi).apply s).faults = s.faults := rfl
@[simp] theorem Upd.spdPoisonClear_pep : ((Upd.spdPoisonClear lo hi).apply s).pep = s.pep := rfl
@[simp] theorem Upd.spdPoisonClear_power : ((Upd.spdPoisonClear lo hi).apply s).power = s.power := rfl
@[simp] theorem Upd.spdPoisonClear_resp : ((Upd.spdPoisonClear lo hi).apply s).resp = s.resp := rfl
@[simp] theorem Upd.spdPoisonClear_dbg : ((Upd.spdPoisonClear lo hi).apply s).dbg = s.dbg := rfl
@[simp] theorem Upd.spdPoisonClear_pst : ((Upd.spdPoisonClear lo hi).apply s).pst = s.pst := rfl
@[simp] theorem Upd.spdPoisonClear_boot : ((Upd.spdPoisonClear lo hi).apply s).boot = s.boot := rfl
@[simp] theorem Upd.spdPoisonClear_saf : ((Upd.spdPoisonClear lo hi).apply s).saf = s.saf := rfl
@[simp] theorem Upd.spdPoisonClear_svc : ((Upd.spdPoisonClear lo hi).apply s).svc = s.svc := rfl
@[simp] theorem Upd.spdPoisonClear_freeCtr : ((Upd.spdPoisonClear lo hi).apply s).freeCtr = s.freeCtr := rfl
end

section
variable (a : Nat) (bs : List Byte)
@[simp] theorem Upd.dram_flds : ((Upd.dram a bs).apply s).flds = s.flds := rfl
@[simp] theorem Upd.dram_slag : ((Upd.dram a bs).apply s).slag = s.slag := rfl
@[simp] theorem Upd.dram_seam : ((Upd.dram a bs).apply s).seam = s.seam := rfl
@[simp] theorem Upd.dram_align : ((Upd.dram a bs).apply s).align = s.align := rfl
@[simp] theorem Upd.dram_gclk : ((Upd.dram a bs).apply s).gclk = s.gclk := rfl
@[simp] theorem Upd.dram_dec : ((Upd.dram a bs).apply s).dec = s.dec := rfl
@[simp] theorem Upd.dram_ctl : ((Upd.dram a bs).apply s).ctl = s.ctl := rfl
@[simp] theorem Upd.dram_cores : ((Upd.dram a bs).apply s).cores = s.cores := rfl
@[simp] theorem Upd.dram_mes : ((Upd.dram a bs).apply s).mes = s.mes := rfl
@[simp] theorem Upd.dram_ses : ((Upd.dram a bs).apply s).ses = s.ses := rfl
@[simp] theorem Upd.dram_vus : ((Upd.dram a bs).apply s).vus = s.vus := rfl
@[simp] theorem Upd.dram_spd : ((Upd.dram a bs).apply s).spd = s.spd := rfl
@[simp] theorem Upd.dram_spdPoison : ((Upd.dram a bs).apply s).spdPoison = s.spdPoison := rfl
@[simp] theorem Upd.dram_dramPoison : ((Upd.dram a bs).apply s).dramPoison = s.dramPoison := rfl
@[simp] theorem Upd.dram_dramWritten : ((Upd.dram a bs).apply s).dramWritten = s.dramWritten := rfl
@[simp] theorem Upd.dram_caches : ((Upd.dram a bs).apply s).caches = s.caches := rfl
@[simp] theorem Upd.dram_refreshOnly : ((Upd.dram a bs).apply s).refreshOnly = s.refreshOnly := rfl
@[simp] theorem Upd.dram_refreshed : ((Upd.dram a bs).apply s).refreshed = s.refreshed := rfl
@[simp] theorem Upd.dram_flasks : ((Upd.dram a bs).apply s).flasks = s.flasks := rfl
@[simp] theorem Upd.dram_queues : ((Upd.dram a bs).apply s).queues = s.queues := rfl
@[simp] theorem Upd.dram_ldls : ((Upd.dram a bs).apply s).ldls = s.ldls := rfl
@[simp] theorem Upd.dram_msix : ((Upd.dram a bs).apply s).msix = s.msix := rfl
@[simp] theorem Upd.dram_hports : ((Upd.dram a bs).apply s).hports = s.hports := rfl
@[simp] theorem Upd.dram_hostOut : ((Upd.dram a bs).apply s).hostOut = s.hostOut := rfl
@[simp] theorem Upd.dram_rings : ((Upd.dram a bs).apply s).rings = s.rings := rfl
@[simp] theorem Upd.dram_ev : ((Upd.dram a bs).apply s).ev = s.ev := rfl
@[simp] theorem Upd.dram_slots : ((Upd.dram a bs).apply s).slots = s.slots := rfl
@[simp] theorem Upd.dram_mbOrder : ((Upd.dram a bs).apply s).mbOrder = s.mbOrder := rfl
@[simp] theorem Upd.dram_msgs : ((Upd.dram a bs).apply s).msgs = s.msgs := rfl
@[simp] theorem Upd.dram_ports : ((Upd.dram a bs).apply s).ports = s.ports := rfl
@[simp] theorem Upd.dram_pour : ((Upd.dram a bs).apply s).pour = s.pour := rfl
@[simp] theorem Upd.dram_faults : ((Upd.dram a bs).apply s).faults = s.faults := rfl
@[simp] theorem Upd.dram_pep : ((Upd.dram a bs).apply s).pep = s.pep := rfl
@[simp] theorem Upd.dram_power : ((Upd.dram a bs).apply s).power = s.power := rfl
@[simp] theorem Upd.dram_resp : ((Upd.dram a bs).apply s).resp = s.resp := rfl
@[simp] theorem Upd.dram_dbg : ((Upd.dram a bs).apply s).dbg = s.dbg := rfl
@[simp] theorem Upd.dram_pst : ((Upd.dram a bs).apply s).pst = s.pst := rfl
@[simp] theorem Upd.dram_boot : ((Upd.dram a bs).apply s).boot = s.boot := rfl
@[simp] theorem Upd.dram_saf : ((Upd.dram a bs).apply s).saf = s.saf := rfl
@[simp] theorem Upd.dram_svc : ((Upd.dram a bs).apply s).svc = s.svc := rfl
@[simp] theorem Upd.dram_freeCtr : ((Upd.dram a bs).apply s).freeCtr = s.freeCtr := rfl
end

section
variable (lo hi : Nat)
@[simp] theorem Upd.dramClear_flds : ((Upd.dramClear lo hi).apply s).flds = s.flds := rfl
@[simp] theorem Upd.dramClear_slag : ((Upd.dramClear lo hi).apply s).slag = s.slag := rfl
@[simp] theorem Upd.dramClear_seam : ((Upd.dramClear lo hi).apply s).seam = s.seam := rfl
@[simp] theorem Upd.dramClear_align : ((Upd.dramClear lo hi).apply s).align = s.align := rfl
@[simp] theorem Upd.dramClear_gclk : ((Upd.dramClear lo hi).apply s).gclk = s.gclk := rfl
@[simp] theorem Upd.dramClear_dec : ((Upd.dramClear lo hi).apply s).dec = s.dec := rfl
@[simp] theorem Upd.dramClear_ctl : ((Upd.dramClear lo hi).apply s).ctl = s.ctl := rfl
@[simp] theorem Upd.dramClear_cores : ((Upd.dramClear lo hi).apply s).cores = s.cores := rfl
@[simp] theorem Upd.dramClear_mes : ((Upd.dramClear lo hi).apply s).mes = s.mes := rfl
@[simp] theorem Upd.dramClear_ses : ((Upd.dramClear lo hi).apply s).ses = s.ses := rfl
@[simp] theorem Upd.dramClear_vus : ((Upd.dramClear lo hi).apply s).vus = s.vus := rfl
@[simp] theorem Upd.dramClear_spd : ((Upd.dramClear lo hi).apply s).spd = s.spd := rfl
@[simp] theorem Upd.dramClear_spdPoison : ((Upd.dramClear lo hi).apply s).spdPoison = s.spdPoison := rfl
@[simp] theorem Upd.dramClear_dramPoison : ((Upd.dramClear lo hi).apply s).dramPoison = s.dramPoison := rfl
@[simp] theorem Upd.dramClear_dramWritten : ((Upd.dramClear lo hi).apply s).dramWritten = s.dramWritten := rfl
@[simp] theorem Upd.dramClear_caches : ((Upd.dramClear lo hi).apply s).caches = s.caches := rfl
@[simp] theorem Upd.dramClear_refreshOnly : ((Upd.dramClear lo hi).apply s).refreshOnly = s.refreshOnly := rfl
@[simp] theorem Upd.dramClear_refreshed : ((Upd.dramClear lo hi).apply s).refreshed = s.refreshed := rfl
@[simp] theorem Upd.dramClear_flasks : ((Upd.dramClear lo hi).apply s).flasks = s.flasks := rfl
@[simp] theorem Upd.dramClear_queues : ((Upd.dramClear lo hi).apply s).queues = s.queues := rfl
@[simp] theorem Upd.dramClear_ldls : ((Upd.dramClear lo hi).apply s).ldls = s.ldls := rfl
@[simp] theorem Upd.dramClear_msix : ((Upd.dramClear lo hi).apply s).msix = s.msix := rfl
@[simp] theorem Upd.dramClear_hports : ((Upd.dramClear lo hi).apply s).hports = s.hports := rfl
@[simp] theorem Upd.dramClear_hostOut : ((Upd.dramClear lo hi).apply s).hostOut = s.hostOut := rfl
@[simp] theorem Upd.dramClear_rings : ((Upd.dramClear lo hi).apply s).rings = s.rings := rfl
@[simp] theorem Upd.dramClear_ev : ((Upd.dramClear lo hi).apply s).ev = s.ev := rfl
@[simp] theorem Upd.dramClear_slots : ((Upd.dramClear lo hi).apply s).slots = s.slots := rfl
@[simp] theorem Upd.dramClear_mbOrder : ((Upd.dramClear lo hi).apply s).mbOrder = s.mbOrder := rfl
@[simp] theorem Upd.dramClear_msgs : ((Upd.dramClear lo hi).apply s).msgs = s.msgs := rfl
@[simp] theorem Upd.dramClear_ports : ((Upd.dramClear lo hi).apply s).ports = s.ports := rfl
@[simp] theorem Upd.dramClear_pour : ((Upd.dramClear lo hi).apply s).pour = s.pour := rfl
@[simp] theorem Upd.dramClear_faults : ((Upd.dramClear lo hi).apply s).faults = s.faults := rfl
@[simp] theorem Upd.dramClear_pep : ((Upd.dramClear lo hi).apply s).pep = s.pep := rfl
@[simp] theorem Upd.dramClear_power : ((Upd.dramClear lo hi).apply s).power = s.power := rfl
@[simp] theorem Upd.dramClear_resp : ((Upd.dramClear lo hi).apply s).resp = s.resp := rfl
@[simp] theorem Upd.dramClear_dbg : ((Upd.dramClear lo hi).apply s).dbg = s.dbg := rfl
@[simp] theorem Upd.dramClear_pst : ((Upd.dramClear lo hi).apply s).pst = s.pst := rfl
@[simp] theorem Upd.dramClear_boot : ((Upd.dramClear lo hi).apply s).boot = s.boot := rfl
@[simp] theorem Upd.dramClear_saf : ((Upd.dramClear lo hi).apply s).saf = s.saf := rfl
@[simp] theorem Upd.dramClear_svc : ((Upd.dramClear lo hi).apply s).svc = s.svc := rfl
@[simp] theorem Upd.dramClear_freeCtr : ((Upd.dramClear lo hi).apply s).freeCtr = s.freeCtr := rfl
end

section
variable (k : Nat) (b : Bool)
@[simp] theorem Upd.dramPoison_flds : ((Upd.dramPoison k b).apply s).flds = s.flds := rfl
@[simp] theorem Upd.dramPoison_slag : ((Upd.dramPoison k b).apply s).slag = s.slag := rfl
@[simp] theorem Upd.dramPoison_seam : ((Upd.dramPoison k b).apply s).seam = s.seam := rfl
@[simp] theorem Upd.dramPoison_align : ((Upd.dramPoison k b).apply s).align = s.align := rfl
@[simp] theorem Upd.dramPoison_gclk : ((Upd.dramPoison k b).apply s).gclk = s.gclk := rfl
@[simp] theorem Upd.dramPoison_dec : ((Upd.dramPoison k b).apply s).dec = s.dec := rfl
@[simp] theorem Upd.dramPoison_ctl : ((Upd.dramPoison k b).apply s).ctl = s.ctl := rfl
@[simp] theorem Upd.dramPoison_cores : ((Upd.dramPoison k b).apply s).cores = s.cores := rfl
@[simp] theorem Upd.dramPoison_mes : ((Upd.dramPoison k b).apply s).mes = s.mes := rfl
@[simp] theorem Upd.dramPoison_ses : ((Upd.dramPoison k b).apply s).ses = s.ses := rfl
@[simp] theorem Upd.dramPoison_vus : ((Upd.dramPoison k b).apply s).vus = s.vus := rfl
@[simp] theorem Upd.dramPoison_spd : ((Upd.dramPoison k b).apply s).spd = s.spd := rfl
@[simp] theorem Upd.dramPoison_spdPoison : ((Upd.dramPoison k b).apply s).spdPoison = s.spdPoison := rfl
@[simp] theorem Upd.dramPoison_dram : ((Upd.dramPoison k b).apply s).dram = s.dram := rfl
@[simp] theorem Upd.dramPoison_dramWritten : ((Upd.dramPoison k b).apply s).dramWritten = s.dramWritten := rfl
@[simp] theorem Upd.dramPoison_caches : ((Upd.dramPoison k b).apply s).caches = s.caches := rfl
@[simp] theorem Upd.dramPoison_refreshOnly : ((Upd.dramPoison k b).apply s).refreshOnly = s.refreshOnly := rfl
@[simp] theorem Upd.dramPoison_refreshed : ((Upd.dramPoison k b).apply s).refreshed = s.refreshed := rfl
@[simp] theorem Upd.dramPoison_flasks : ((Upd.dramPoison k b).apply s).flasks = s.flasks := rfl
@[simp] theorem Upd.dramPoison_queues : ((Upd.dramPoison k b).apply s).queues = s.queues := rfl
@[simp] theorem Upd.dramPoison_ldls : ((Upd.dramPoison k b).apply s).ldls = s.ldls := rfl
@[simp] theorem Upd.dramPoison_msix : ((Upd.dramPoison k b).apply s).msix = s.msix := rfl
@[simp] theorem Upd.dramPoison_hports : ((Upd.dramPoison k b).apply s).hports = s.hports := rfl
@[simp] theorem Upd.dramPoison_hostOut : ((Upd.dramPoison k b).apply s).hostOut = s.hostOut := rfl
@[simp] theorem Upd.dramPoison_rings : ((Upd.dramPoison k b).apply s).rings = s.rings := rfl
@[simp] theorem Upd.dramPoison_ev : ((Upd.dramPoison k b).apply s).ev = s.ev := rfl
@[simp] theorem Upd.dramPoison_slots : ((Upd.dramPoison k b).apply s).slots = s.slots := rfl
@[simp] theorem Upd.dramPoison_mbOrder : ((Upd.dramPoison k b).apply s).mbOrder = s.mbOrder := rfl
@[simp] theorem Upd.dramPoison_msgs : ((Upd.dramPoison k b).apply s).msgs = s.msgs := rfl
@[simp] theorem Upd.dramPoison_ports : ((Upd.dramPoison k b).apply s).ports = s.ports := rfl
@[simp] theorem Upd.dramPoison_pour : ((Upd.dramPoison k b).apply s).pour = s.pour := rfl
@[simp] theorem Upd.dramPoison_faults : ((Upd.dramPoison k b).apply s).faults = s.faults := rfl
@[simp] theorem Upd.dramPoison_pep : ((Upd.dramPoison k b).apply s).pep = s.pep := rfl
@[simp] theorem Upd.dramPoison_power : ((Upd.dramPoison k b).apply s).power = s.power := rfl
@[simp] theorem Upd.dramPoison_resp : ((Upd.dramPoison k b).apply s).resp = s.resp := rfl
@[simp] theorem Upd.dramPoison_dbg : ((Upd.dramPoison k b).apply s).dbg = s.dbg := rfl
@[simp] theorem Upd.dramPoison_pst : ((Upd.dramPoison k b).apply s).pst = s.pst := rfl
@[simp] theorem Upd.dramPoison_boot : ((Upd.dramPoison k b).apply s).boot = s.boot := rfl
@[simp] theorem Upd.dramPoison_saf : ((Upd.dramPoison k b).apply s).saf = s.saf := rfl
@[simp] theorem Upd.dramPoison_svc : ((Upd.dramPoison k b).apply s).svc = s.svc := rfl
@[simp] theorem Upd.dramPoison_freeCtr : ((Upd.dramPoison k b).apply s).freeCtr = s.freeCtr := rfl
end

section
variable (lo hi : Nat)
@[simp] theorem Upd.dramPoisonClear_flds : ((Upd.dramPoisonClear lo hi).apply s).flds = s.flds := rfl
@[simp] theorem Upd.dramPoisonClear_slag : ((Upd.dramPoisonClear lo hi).apply s).slag = s.slag := rfl
@[simp] theorem Upd.dramPoisonClear_seam : ((Upd.dramPoisonClear lo hi).apply s).seam = s.seam := rfl
@[simp] theorem Upd.dramPoisonClear_align : ((Upd.dramPoisonClear lo hi).apply s).align = s.align := rfl
@[simp] theorem Upd.dramPoisonClear_gclk : ((Upd.dramPoisonClear lo hi).apply s).gclk = s.gclk := rfl
@[simp] theorem Upd.dramPoisonClear_dec : ((Upd.dramPoisonClear lo hi).apply s).dec = s.dec := rfl
@[simp] theorem Upd.dramPoisonClear_ctl : ((Upd.dramPoisonClear lo hi).apply s).ctl = s.ctl := rfl
@[simp] theorem Upd.dramPoisonClear_cores : ((Upd.dramPoisonClear lo hi).apply s).cores = s.cores := rfl
@[simp] theorem Upd.dramPoisonClear_mes : ((Upd.dramPoisonClear lo hi).apply s).mes = s.mes := rfl
@[simp] theorem Upd.dramPoisonClear_ses : ((Upd.dramPoisonClear lo hi).apply s).ses = s.ses := rfl
@[simp] theorem Upd.dramPoisonClear_vus : ((Upd.dramPoisonClear lo hi).apply s).vus = s.vus := rfl
@[simp] theorem Upd.dramPoisonClear_spd : ((Upd.dramPoisonClear lo hi).apply s).spd = s.spd := rfl
@[simp] theorem Upd.dramPoisonClear_spdPoison : ((Upd.dramPoisonClear lo hi).apply s).spdPoison = s.spdPoison := rfl
@[simp] theorem Upd.dramPoisonClear_dram : ((Upd.dramPoisonClear lo hi).apply s).dram = s.dram := rfl
@[simp] theorem Upd.dramPoisonClear_dramWritten : ((Upd.dramPoisonClear lo hi).apply s).dramWritten = s.dramWritten := rfl
@[simp] theorem Upd.dramPoisonClear_caches : ((Upd.dramPoisonClear lo hi).apply s).caches = s.caches := rfl
@[simp] theorem Upd.dramPoisonClear_refreshOnly : ((Upd.dramPoisonClear lo hi).apply s).refreshOnly = s.refreshOnly := rfl
@[simp] theorem Upd.dramPoisonClear_refreshed : ((Upd.dramPoisonClear lo hi).apply s).refreshed = s.refreshed := rfl
@[simp] theorem Upd.dramPoisonClear_flasks : ((Upd.dramPoisonClear lo hi).apply s).flasks = s.flasks := rfl
@[simp] theorem Upd.dramPoisonClear_queues : ((Upd.dramPoisonClear lo hi).apply s).queues = s.queues := rfl
@[simp] theorem Upd.dramPoisonClear_ldls : ((Upd.dramPoisonClear lo hi).apply s).ldls = s.ldls := rfl
@[simp] theorem Upd.dramPoisonClear_msix : ((Upd.dramPoisonClear lo hi).apply s).msix = s.msix := rfl
@[simp] theorem Upd.dramPoisonClear_hports : ((Upd.dramPoisonClear lo hi).apply s).hports = s.hports := rfl
@[simp] theorem Upd.dramPoisonClear_hostOut : ((Upd.dramPoisonClear lo hi).apply s).hostOut = s.hostOut := rfl
@[simp] theorem Upd.dramPoisonClear_rings : ((Upd.dramPoisonClear lo hi).apply s).rings = s.rings := rfl
@[simp] theorem Upd.dramPoisonClear_ev : ((Upd.dramPoisonClear lo hi).apply s).ev = s.ev := rfl
@[simp] theorem Upd.dramPoisonClear_slots : ((Upd.dramPoisonClear lo hi).apply s).slots = s.slots := rfl
@[simp] theorem Upd.dramPoisonClear_mbOrder : ((Upd.dramPoisonClear lo hi).apply s).mbOrder = s.mbOrder := rfl
@[simp] theorem Upd.dramPoisonClear_msgs : ((Upd.dramPoisonClear lo hi).apply s).msgs = s.msgs := rfl
@[simp] theorem Upd.dramPoisonClear_ports : ((Upd.dramPoisonClear lo hi).apply s).ports = s.ports := rfl
@[simp] theorem Upd.dramPoisonClear_pour : ((Upd.dramPoisonClear lo hi).apply s).pour = s.pour := rfl
@[simp] theorem Upd.dramPoisonClear_faults : ((Upd.dramPoisonClear lo hi).apply s).faults = s.faults := rfl
@[simp] theorem Upd.dramPoisonClear_pep : ((Upd.dramPoisonClear lo hi).apply s).pep = s.pep := rfl
@[simp] theorem Upd.dramPoisonClear_power : ((Upd.dramPoisonClear lo hi).apply s).power = s.power := rfl
@[simp] theorem Upd.dramPoisonClear_resp : ((Upd.dramPoisonClear lo hi).apply s).resp = s.resp := rfl
@[simp] theorem Upd.dramPoisonClear_dbg : ((Upd.dramPoisonClear lo hi).apply s).dbg = s.dbg := rfl
@[simp] theorem Upd.dramPoisonClear_pst : ((Upd.dramPoisonClear lo hi).apply s).pst = s.pst := rfl
@[simp] theorem Upd.dramPoisonClear_boot : ((Upd.dramPoisonClear lo hi).apply s).boot = s.boot := rfl
@[simp] theorem Upd.dramPoisonClear_saf : ((Upd.dramPoisonClear lo hi).apply s).saf = s.saf := rfl
@[simp] theorem Upd.dramPoisonClear_svc : ((Upd.dramPoisonClear lo hi).apply s).svc = s.svc := rfl
@[simp] theorem Upd.dramPoisonClear_freeCtr : ((Upd.dramPoisonClear lo hi).apply s).freeCtr = s.freeCtr := rfl
end

section
variable (k : Nat) (b : Bool)
@[simp] theorem Upd.dramWritten_flds : ((Upd.dramWritten k b).apply s).flds = s.flds := rfl
@[simp] theorem Upd.dramWritten_slag : ((Upd.dramWritten k b).apply s).slag = s.slag := rfl
@[simp] theorem Upd.dramWritten_seam : ((Upd.dramWritten k b).apply s).seam = s.seam := rfl
@[simp] theorem Upd.dramWritten_align : ((Upd.dramWritten k b).apply s).align = s.align := rfl
@[simp] theorem Upd.dramWritten_gclk : ((Upd.dramWritten k b).apply s).gclk = s.gclk := rfl
@[simp] theorem Upd.dramWritten_dec : ((Upd.dramWritten k b).apply s).dec = s.dec := rfl
@[simp] theorem Upd.dramWritten_ctl : ((Upd.dramWritten k b).apply s).ctl = s.ctl := rfl
@[simp] theorem Upd.dramWritten_cores : ((Upd.dramWritten k b).apply s).cores = s.cores := rfl
@[simp] theorem Upd.dramWritten_mes : ((Upd.dramWritten k b).apply s).mes = s.mes := rfl
@[simp] theorem Upd.dramWritten_ses : ((Upd.dramWritten k b).apply s).ses = s.ses := rfl
@[simp] theorem Upd.dramWritten_vus : ((Upd.dramWritten k b).apply s).vus = s.vus := rfl
@[simp] theorem Upd.dramWritten_spd : ((Upd.dramWritten k b).apply s).spd = s.spd := rfl
@[simp] theorem Upd.dramWritten_spdPoison : ((Upd.dramWritten k b).apply s).spdPoison = s.spdPoison := rfl
@[simp] theorem Upd.dramWritten_dram : ((Upd.dramWritten k b).apply s).dram = s.dram := rfl
@[simp] theorem Upd.dramWritten_dramPoison : ((Upd.dramWritten k b).apply s).dramPoison = s.dramPoison := rfl
@[simp] theorem Upd.dramWritten_caches : ((Upd.dramWritten k b).apply s).caches = s.caches := rfl
@[simp] theorem Upd.dramWritten_refreshOnly : ((Upd.dramWritten k b).apply s).refreshOnly = s.refreshOnly := rfl
@[simp] theorem Upd.dramWritten_refreshed : ((Upd.dramWritten k b).apply s).refreshed = s.refreshed := rfl
@[simp] theorem Upd.dramWritten_flasks : ((Upd.dramWritten k b).apply s).flasks = s.flasks := rfl
@[simp] theorem Upd.dramWritten_queues : ((Upd.dramWritten k b).apply s).queues = s.queues := rfl
@[simp] theorem Upd.dramWritten_ldls : ((Upd.dramWritten k b).apply s).ldls = s.ldls := rfl
@[simp] theorem Upd.dramWritten_msix : ((Upd.dramWritten k b).apply s).msix = s.msix := rfl
@[simp] theorem Upd.dramWritten_hports : ((Upd.dramWritten k b).apply s).hports = s.hports := rfl
@[simp] theorem Upd.dramWritten_hostOut : ((Upd.dramWritten k b).apply s).hostOut = s.hostOut := rfl
@[simp] theorem Upd.dramWritten_rings : ((Upd.dramWritten k b).apply s).rings = s.rings := rfl
@[simp] theorem Upd.dramWritten_ev : ((Upd.dramWritten k b).apply s).ev = s.ev := rfl
@[simp] theorem Upd.dramWritten_slots : ((Upd.dramWritten k b).apply s).slots = s.slots := rfl
@[simp] theorem Upd.dramWritten_mbOrder : ((Upd.dramWritten k b).apply s).mbOrder = s.mbOrder := rfl
@[simp] theorem Upd.dramWritten_msgs : ((Upd.dramWritten k b).apply s).msgs = s.msgs := rfl
@[simp] theorem Upd.dramWritten_ports : ((Upd.dramWritten k b).apply s).ports = s.ports := rfl
@[simp] theorem Upd.dramWritten_pour : ((Upd.dramWritten k b).apply s).pour = s.pour := rfl
@[simp] theorem Upd.dramWritten_faults : ((Upd.dramWritten k b).apply s).faults = s.faults := rfl
@[simp] theorem Upd.dramWritten_pep : ((Upd.dramWritten k b).apply s).pep = s.pep := rfl
@[simp] theorem Upd.dramWritten_power : ((Upd.dramWritten k b).apply s).power = s.power := rfl
@[simp] theorem Upd.dramWritten_resp : ((Upd.dramWritten k b).apply s).resp = s.resp := rfl
@[simp] theorem Upd.dramWritten_dbg : ((Upd.dramWritten k b).apply s).dbg = s.dbg := rfl
@[simp] theorem Upd.dramWritten_pst : ((Upd.dramWritten k b).apply s).pst = s.pst := rfl
@[simp] theorem Upd.dramWritten_boot : ((Upd.dramWritten k b).apply s).boot = s.boot := rfl
@[simp] theorem Upd.dramWritten_saf : ((Upd.dramWritten k b).apply s).saf = s.saf := rfl
@[simp] theorem Upd.dramWritten_svc : ((Upd.dramWritten k b).apply s).svc = s.svc := rfl
@[simp] theorem Upd.dramWritten_freeCtr : ((Upd.dramWritten k b).apply s).freeCtr = s.freeCtr := rfl
end

section
variable (lo hi : Nat)
@[simp] theorem Upd.dramWrittenClear_flds : ((Upd.dramWrittenClear lo hi).apply s).flds = s.flds := rfl
@[simp] theorem Upd.dramWrittenClear_slag : ((Upd.dramWrittenClear lo hi).apply s).slag = s.slag := rfl
@[simp] theorem Upd.dramWrittenClear_seam : ((Upd.dramWrittenClear lo hi).apply s).seam = s.seam := rfl
@[simp] theorem Upd.dramWrittenClear_align : ((Upd.dramWrittenClear lo hi).apply s).align = s.align := rfl
@[simp] theorem Upd.dramWrittenClear_gclk : ((Upd.dramWrittenClear lo hi).apply s).gclk = s.gclk := rfl
@[simp] theorem Upd.dramWrittenClear_dec : ((Upd.dramWrittenClear lo hi).apply s).dec = s.dec := rfl
@[simp] theorem Upd.dramWrittenClear_ctl : ((Upd.dramWrittenClear lo hi).apply s).ctl = s.ctl := rfl
@[simp] theorem Upd.dramWrittenClear_cores : ((Upd.dramWrittenClear lo hi).apply s).cores = s.cores := rfl
@[simp] theorem Upd.dramWrittenClear_mes : ((Upd.dramWrittenClear lo hi).apply s).mes = s.mes := rfl
@[simp] theorem Upd.dramWrittenClear_ses : ((Upd.dramWrittenClear lo hi).apply s).ses = s.ses := rfl
@[simp] theorem Upd.dramWrittenClear_vus : ((Upd.dramWrittenClear lo hi).apply s).vus = s.vus := rfl
@[simp] theorem Upd.dramWrittenClear_spd : ((Upd.dramWrittenClear lo hi).apply s).spd = s.spd := rfl
@[simp] theorem Upd.dramWrittenClear_spdPoison : ((Upd.dramWrittenClear lo hi).apply s).spdPoison = s.spdPoison := rfl
@[simp] theorem Upd.dramWrittenClear_dram : ((Upd.dramWrittenClear lo hi).apply s).dram = s.dram := rfl
@[simp] theorem Upd.dramWrittenClear_dramPoison : ((Upd.dramWrittenClear lo hi).apply s).dramPoison = s.dramPoison := rfl
@[simp] theorem Upd.dramWrittenClear_caches : ((Upd.dramWrittenClear lo hi).apply s).caches = s.caches := rfl
@[simp] theorem Upd.dramWrittenClear_refreshOnly : ((Upd.dramWrittenClear lo hi).apply s).refreshOnly = s.refreshOnly := rfl
@[simp] theorem Upd.dramWrittenClear_refreshed : ((Upd.dramWrittenClear lo hi).apply s).refreshed = s.refreshed := rfl
@[simp] theorem Upd.dramWrittenClear_flasks : ((Upd.dramWrittenClear lo hi).apply s).flasks = s.flasks := rfl
@[simp] theorem Upd.dramWrittenClear_queues : ((Upd.dramWrittenClear lo hi).apply s).queues = s.queues := rfl
@[simp] theorem Upd.dramWrittenClear_ldls : ((Upd.dramWrittenClear lo hi).apply s).ldls = s.ldls := rfl
@[simp] theorem Upd.dramWrittenClear_msix : ((Upd.dramWrittenClear lo hi).apply s).msix = s.msix := rfl
@[simp] theorem Upd.dramWrittenClear_hports : ((Upd.dramWrittenClear lo hi).apply s).hports = s.hports := rfl
@[simp] theorem Upd.dramWrittenClear_hostOut : ((Upd.dramWrittenClear lo hi).apply s).hostOut = s.hostOut := rfl
@[simp] theorem Upd.dramWrittenClear_rings : ((Upd.dramWrittenClear lo hi).apply s).rings = s.rings := rfl
@[simp] theorem Upd.dramWrittenClear_ev : ((Upd.dramWrittenClear lo hi).apply s).ev = s.ev := rfl
@[simp] theorem Upd.dramWrittenClear_slots : ((Upd.dramWrittenClear lo hi).apply s).slots = s.slots := rfl
@[simp] theorem Upd.dramWrittenClear_mbOrder : ((Upd.dramWrittenClear lo hi).apply s).mbOrder = s.mbOrder := rfl
@[simp] theorem Upd.dramWrittenClear_msgs : ((Upd.dramWrittenClear lo hi).apply s).msgs = s.msgs := rfl
@[simp] theorem Upd.dramWrittenClear_ports : ((Upd.dramWrittenClear lo hi).apply s).ports = s.ports := rfl
@[simp] theorem Upd.dramWrittenClear_pour : ((Upd.dramWrittenClear lo hi).apply s).pour = s.pour := rfl
@[simp] theorem Upd.dramWrittenClear_faults : ((Upd.dramWrittenClear lo hi).apply s).faults = s.faults := rfl
@[simp] theorem Upd.dramWrittenClear_pep : ((Upd.dramWrittenClear lo hi).apply s).pep = s.pep := rfl
@[simp] theorem Upd.dramWrittenClear_power : ((Upd.dramWrittenClear lo hi).apply s).power = s.power := rfl
@[simp] theorem Upd.dramWrittenClear_resp : ((Upd.dramWrittenClear lo hi).apply s).resp = s.resp := rfl
@[simp] theorem Upd.dramWrittenClear_dbg : ((Upd.dramWrittenClear lo hi).apply s).dbg = s.dbg := rfl
@[simp] theorem Upd.dramWrittenClear_pst : ((Upd.dramWrittenClear lo hi).apply s).pst = s.pst := rfl
@[simp] theorem Upd.dramWrittenClear_boot : ((Upd.dramWrittenClear lo hi).apply s).boot = s.boot := rfl
@[simp] theorem Upd.dramWrittenClear_saf : ((Upd.dramWrittenClear lo hi).apply s).saf = s.saf := rfl
@[simp] theorem Upd.dramWrittenClear_svc : ((Upd.dramWrittenClear lo hi).apply s).svc = s.svc := rfl
@[simp] theorem Upd.dramWrittenClear_freeCtr : ((Upd.dramWrittenClear lo hi).apply s).freeCtr = s.freeCtr := rfl
end

section
variable (k : Nat) (v : CacheSt)
@[simp] theorem Upd.caches_flds : ((Upd.caches k v).apply s).flds = s.flds := rfl
@[simp] theorem Upd.caches_slag : ((Upd.caches k v).apply s).slag = s.slag := rfl
@[simp] theorem Upd.caches_seam : ((Upd.caches k v).apply s).seam = s.seam := rfl
@[simp] theorem Upd.caches_align : ((Upd.caches k v).apply s).align = s.align := rfl
@[simp] theorem Upd.caches_gclk : ((Upd.caches k v).apply s).gclk = s.gclk := rfl
@[simp] theorem Upd.caches_dec : ((Upd.caches k v).apply s).dec = s.dec := rfl
@[simp] theorem Upd.caches_ctl : ((Upd.caches k v).apply s).ctl = s.ctl := rfl
@[simp] theorem Upd.caches_cores : ((Upd.caches k v).apply s).cores = s.cores := rfl
@[simp] theorem Upd.caches_mes : ((Upd.caches k v).apply s).mes = s.mes := rfl
@[simp] theorem Upd.caches_ses : ((Upd.caches k v).apply s).ses = s.ses := rfl
@[simp] theorem Upd.caches_vus : ((Upd.caches k v).apply s).vus = s.vus := rfl
@[simp] theorem Upd.caches_spd : ((Upd.caches k v).apply s).spd = s.spd := rfl
@[simp] theorem Upd.caches_spdPoison : ((Upd.caches k v).apply s).spdPoison = s.spdPoison := rfl
@[simp] theorem Upd.caches_dram : ((Upd.caches k v).apply s).dram = s.dram := rfl
@[simp] theorem Upd.caches_dramPoison : ((Upd.caches k v).apply s).dramPoison = s.dramPoison := rfl
@[simp] theorem Upd.caches_dramWritten : ((Upd.caches k v).apply s).dramWritten = s.dramWritten := rfl
@[simp] theorem Upd.caches_refreshOnly : ((Upd.caches k v).apply s).refreshOnly = s.refreshOnly := rfl
@[simp] theorem Upd.caches_refreshed : ((Upd.caches k v).apply s).refreshed = s.refreshed := rfl
@[simp] theorem Upd.caches_flasks : ((Upd.caches k v).apply s).flasks = s.flasks := rfl
@[simp] theorem Upd.caches_queues : ((Upd.caches k v).apply s).queues = s.queues := rfl
@[simp] theorem Upd.caches_ldls : ((Upd.caches k v).apply s).ldls = s.ldls := rfl
@[simp] theorem Upd.caches_msix : ((Upd.caches k v).apply s).msix = s.msix := rfl
@[simp] theorem Upd.caches_hports : ((Upd.caches k v).apply s).hports = s.hports := rfl
@[simp] theorem Upd.caches_hostOut : ((Upd.caches k v).apply s).hostOut = s.hostOut := rfl
@[simp] theorem Upd.caches_rings : ((Upd.caches k v).apply s).rings = s.rings := rfl
@[simp] theorem Upd.caches_ev : ((Upd.caches k v).apply s).ev = s.ev := rfl
@[simp] theorem Upd.caches_slots : ((Upd.caches k v).apply s).slots = s.slots := rfl
@[simp] theorem Upd.caches_mbOrder : ((Upd.caches k v).apply s).mbOrder = s.mbOrder := rfl
@[simp] theorem Upd.caches_msgs : ((Upd.caches k v).apply s).msgs = s.msgs := rfl
@[simp] theorem Upd.caches_ports : ((Upd.caches k v).apply s).ports = s.ports := rfl
@[simp] theorem Upd.caches_pour : ((Upd.caches k v).apply s).pour = s.pour := rfl
@[simp] theorem Upd.caches_faults : ((Upd.caches k v).apply s).faults = s.faults := rfl
@[simp] theorem Upd.caches_pep : ((Upd.caches k v).apply s).pep = s.pep := rfl
@[simp] theorem Upd.caches_power : ((Upd.caches k v).apply s).power = s.power := rfl
@[simp] theorem Upd.caches_resp : ((Upd.caches k v).apply s).resp = s.resp := rfl
@[simp] theorem Upd.caches_dbg : ((Upd.caches k v).apply s).dbg = s.dbg := rfl
@[simp] theorem Upd.caches_pst : ((Upd.caches k v).apply s).pst = s.pst := rfl
@[simp] theorem Upd.caches_boot : ((Upd.caches k v).apply s).boot = s.boot := rfl
@[simp] theorem Upd.caches_saf : ((Upd.caches k v).apply s).saf = s.saf := rfl
@[simp] theorem Upd.caches_svc : ((Upd.caches k v).apply s).svc = s.svc := rfl
@[simp] theorem Upd.caches_freeCtr : ((Upd.caches k v).apply s).freeCtr = s.freeCtr := rfl
end

section
variable (lo hi : Nat)
@[simp] theorem Upd.cachesClear_flds : ((Upd.cachesClear lo hi).apply s).flds = s.flds := rfl
@[simp] theorem Upd.cachesClear_slag : ((Upd.cachesClear lo hi).apply s).slag = s.slag := rfl
@[simp] theorem Upd.cachesClear_seam : ((Upd.cachesClear lo hi).apply s).seam = s.seam := rfl
@[simp] theorem Upd.cachesClear_align : ((Upd.cachesClear lo hi).apply s).align = s.align := rfl
@[simp] theorem Upd.cachesClear_gclk : ((Upd.cachesClear lo hi).apply s).gclk = s.gclk := rfl
@[simp] theorem Upd.cachesClear_dec : ((Upd.cachesClear lo hi).apply s).dec = s.dec := rfl
@[simp] theorem Upd.cachesClear_ctl : ((Upd.cachesClear lo hi).apply s).ctl = s.ctl := rfl
@[simp] theorem Upd.cachesClear_cores : ((Upd.cachesClear lo hi).apply s).cores = s.cores := rfl
@[simp] theorem Upd.cachesClear_mes : ((Upd.cachesClear lo hi).apply s).mes = s.mes := rfl
@[simp] theorem Upd.cachesClear_ses : ((Upd.cachesClear lo hi).apply s).ses = s.ses := rfl
@[simp] theorem Upd.cachesClear_vus : ((Upd.cachesClear lo hi).apply s).vus = s.vus := rfl
@[simp] theorem Upd.cachesClear_spd : ((Upd.cachesClear lo hi).apply s).spd = s.spd := rfl
@[simp] theorem Upd.cachesClear_spdPoison : ((Upd.cachesClear lo hi).apply s).spdPoison = s.spdPoison := rfl
@[simp] theorem Upd.cachesClear_dram : ((Upd.cachesClear lo hi).apply s).dram = s.dram := rfl
@[simp] theorem Upd.cachesClear_dramPoison : ((Upd.cachesClear lo hi).apply s).dramPoison = s.dramPoison := rfl
@[simp] theorem Upd.cachesClear_dramWritten : ((Upd.cachesClear lo hi).apply s).dramWritten = s.dramWritten := rfl
@[simp] theorem Upd.cachesClear_refreshOnly : ((Upd.cachesClear lo hi).apply s).refreshOnly = s.refreshOnly := rfl
@[simp] theorem Upd.cachesClear_refreshed : ((Upd.cachesClear lo hi).apply s).refreshed = s.refreshed := rfl
@[simp] theorem Upd.cachesClear_flasks : ((Upd.cachesClear lo hi).apply s).flasks = s.flasks := rfl
@[simp] theorem Upd.cachesClear_queues : ((Upd.cachesClear lo hi).apply s).queues = s.queues := rfl
@[simp] theorem Upd.cachesClear_ldls : ((Upd.cachesClear lo hi).apply s).ldls = s.ldls := rfl
@[simp] theorem Upd.cachesClear_msix : ((Upd.cachesClear lo hi).apply s).msix = s.msix := rfl
@[simp] theorem Upd.cachesClear_hports : ((Upd.cachesClear lo hi).apply s).hports = s.hports := rfl
@[simp] theorem Upd.cachesClear_hostOut : ((Upd.cachesClear lo hi).apply s).hostOut = s.hostOut := rfl
@[simp] theorem Upd.cachesClear_rings : ((Upd.cachesClear lo hi).apply s).rings = s.rings := rfl
@[simp] theorem Upd.cachesClear_ev : ((Upd.cachesClear lo hi).apply s).ev = s.ev := rfl
@[simp] theorem Upd.cachesClear_slots : ((Upd.cachesClear lo hi).apply s).slots = s.slots := rfl
@[simp] theorem Upd.cachesClear_mbOrder : ((Upd.cachesClear lo hi).apply s).mbOrder = s.mbOrder := rfl
@[simp] theorem Upd.cachesClear_msgs : ((Upd.cachesClear lo hi).apply s).msgs = s.msgs := rfl
@[simp] theorem Upd.cachesClear_ports : ((Upd.cachesClear lo hi).apply s).ports = s.ports := rfl
@[simp] theorem Upd.cachesClear_pour : ((Upd.cachesClear lo hi).apply s).pour = s.pour := rfl
@[simp] theorem Upd.cachesClear_faults : ((Upd.cachesClear lo hi).apply s).faults = s.faults := rfl
@[simp] theorem Upd.cachesClear_pep : ((Upd.cachesClear lo hi).apply s).pep = s.pep := rfl
@[simp] theorem Upd.cachesClear_power : ((Upd.cachesClear lo hi).apply s).power = s.power := rfl
@[simp] theorem Upd.cachesClear_resp : ((Upd.cachesClear lo hi).apply s).resp = s.resp := rfl
@[simp] theorem Upd.cachesClear_dbg : ((Upd.cachesClear lo hi).apply s).dbg = s.dbg := rfl
@[simp] theorem Upd.cachesClear_pst : ((Upd.cachesClear lo hi).apply s).pst = s.pst := rfl
@[simp] theorem Upd.cachesClear_boot : ((Upd.cachesClear lo hi).apply s).boot = s.boot := rfl
@[simp] theorem Upd.cachesClear_saf : ((Upd.cachesClear lo hi).apply s).saf = s.saf := rfl
@[simp] theorem Upd.cachesClear_svc : ((Upd.cachesClear lo hi).apply s).svc = s.svc := rfl
@[simp] theorem Upd.cachesClear_freeCtr : ((Upd.cachesClear lo hi).apply s).freeCtr = s.freeCtr := rfl
end

section
variable (k : Nat) (b : Bool)
@[simp] theorem Upd.refreshOnly_flds : ((Upd.refreshOnly k b).apply s).flds = s.flds := rfl
@[simp] theorem Upd.refreshOnly_slag : ((Upd.refreshOnly k b).apply s).slag = s.slag := rfl
@[simp] theorem Upd.refreshOnly_seam : ((Upd.refreshOnly k b).apply s).seam = s.seam := rfl
@[simp] theorem Upd.refreshOnly_align : ((Upd.refreshOnly k b).apply s).align = s.align := rfl
@[simp] theorem Upd.refreshOnly_gclk : ((Upd.refreshOnly k b).apply s).gclk = s.gclk := rfl
@[simp] theorem Upd.refreshOnly_dec : ((Upd.refreshOnly k b).apply s).dec = s.dec := rfl
@[simp] theorem Upd.refreshOnly_ctl : ((Upd.refreshOnly k b).apply s).ctl = s.ctl := rfl
@[simp] theorem Upd.refreshOnly_cores : ((Upd.refreshOnly k b).apply s).cores = s.cores := rfl
@[simp] theorem Upd.refreshOnly_mes : ((Upd.refreshOnly k b).apply s).mes = s.mes := rfl
@[simp] theorem Upd.refreshOnly_ses : ((Upd.refreshOnly k b).apply s).ses = s.ses := rfl
@[simp] theorem Upd.refreshOnly_vus : ((Upd.refreshOnly k b).apply s).vus = s.vus := rfl
@[simp] theorem Upd.refreshOnly_spd : ((Upd.refreshOnly k b).apply s).spd = s.spd := rfl
@[simp] theorem Upd.refreshOnly_spdPoison : ((Upd.refreshOnly k b).apply s).spdPoison = s.spdPoison := rfl
@[simp] theorem Upd.refreshOnly_dram : ((Upd.refreshOnly k b).apply s).dram = s.dram := rfl
@[simp] theorem Upd.refreshOnly_dramPoison : ((Upd.refreshOnly k b).apply s).dramPoison = s.dramPoison := rfl
@[simp] theorem Upd.refreshOnly_dramWritten : ((Upd.refreshOnly k b).apply s).dramWritten = s.dramWritten := rfl
@[simp] theorem Upd.refreshOnly_caches : ((Upd.refreshOnly k b).apply s).caches = s.caches := rfl
@[simp] theorem Upd.refreshOnly_refreshed : ((Upd.refreshOnly k b).apply s).refreshed = s.refreshed := rfl
@[simp] theorem Upd.refreshOnly_flasks : ((Upd.refreshOnly k b).apply s).flasks = s.flasks := rfl
@[simp] theorem Upd.refreshOnly_queues : ((Upd.refreshOnly k b).apply s).queues = s.queues := rfl
@[simp] theorem Upd.refreshOnly_ldls : ((Upd.refreshOnly k b).apply s).ldls = s.ldls := rfl
@[simp] theorem Upd.refreshOnly_msix : ((Upd.refreshOnly k b).apply s).msix = s.msix := rfl
@[simp] theorem Upd.refreshOnly_hports : ((Upd.refreshOnly k b).apply s).hports = s.hports := rfl
@[simp] theorem Upd.refreshOnly_hostOut : ((Upd.refreshOnly k b).apply s).hostOut = s.hostOut := rfl
@[simp] theorem Upd.refreshOnly_rings : ((Upd.refreshOnly k b).apply s).rings = s.rings := rfl
@[simp] theorem Upd.refreshOnly_ev : ((Upd.refreshOnly k b).apply s).ev = s.ev := rfl
@[simp] theorem Upd.refreshOnly_slots : ((Upd.refreshOnly k b).apply s).slots = s.slots := rfl
@[simp] theorem Upd.refreshOnly_mbOrder : ((Upd.refreshOnly k b).apply s).mbOrder = s.mbOrder := rfl
@[simp] theorem Upd.refreshOnly_msgs : ((Upd.refreshOnly k b).apply s).msgs = s.msgs := rfl
@[simp] theorem Upd.refreshOnly_ports : ((Upd.refreshOnly k b).apply s).ports = s.ports := rfl
@[simp] theorem Upd.refreshOnly_pour : ((Upd.refreshOnly k b).apply s).pour = s.pour := rfl
@[simp] theorem Upd.refreshOnly_faults : ((Upd.refreshOnly k b).apply s).faults = s.faults := rfl
@[simp] theorem Upd.refreshOnly_pep : ((Upd.refreshOnly k b).apply s).pep = s.pep := rfl
@[simp] theorem Upd.refreshOnly_power : ((Upd.refreshOnly k b).apply s).power = s.power := rfl
@[simp] theorem Upd.refreshOnly_resp : ((Upd.refreshOnly k b).apply s).resp = s.resp := rfl
@[simp] theorem Upd.refreshOnly_dbg : ((Upd.refreshOnly k b).apply s).dbg = s.dbg := rfl
@[simp] theorem Upd.refreshOnly_pst : ((Upd.refreshOnly k b).apply s).pst = s.pst := rfl
@[simp] theorem Upd.refreshOnly_boot : ((Upd.refreshOnly k b).apply s).boot = s.boot := rfl
@[simp] theorem Upd.refreshOnly_saf : ((Upd.refreshOnly k b).apply s).saf = s.saf := rfl
@[simp] theorem Upd.refreshOnly_svc : ((Upd.refreshOnly k b).apply s).svc = s.svc := rfl
@[simp] theorem Upd.refreshOnly_freeCtr : ((Upd.refreshOnly k b).apply s).freeCtr = s.freeCtr := rfl
end

section
variable (lo hi : Nat)
@[simp] theorem Upd.refreshOnlyClear_flds : ((Upd.refreshOnlyClear lo hi).apply s).flds = s.flds := rfl
@[simp] theorem Upd.refreshOnlyClear_slag : ((Upd.refreshOnlyClear lo hi).apply s).slag = s.slag := rfl
@[simp] theorem Upd.refreshOnlyClear_seam : ((Upd.refreshOnlyClear lo hi).apply s).seam = s.seam := rfl
@[simp] theorem Upd.refreshOnlyClear_align : ((Upd.refreshOnlyClear lo hi).apply s).align = s.align := rfl
@[simp] theorem Upd.refreshOnlyClear_gclk : ((Upd.refreshOnlyClear lo hi).apply s).gclk = s.gclk := rfl
@[simp] theorem Upd.refreshOnlyClear_dec : ((Upd.refreshOnlyClear lo hi).apply s).dec = s.dec := rfl
@[simp] theorem Upd.refreshOnlyClear_ctl : ((Upd.refreshOnlyClear lo hi).apply s).ctl = s.ctl := rfl
@[simp] theorem Upd.refreshOnlyClear_cores : ((Upd.refreshOnlyClear lo hi).apply s).cores = s.cores := rfl
@[simp] theorem Upd.refreshOnlyClear_mes : ((Upd.refreshOnlyClear lo hi).apply s).mes = s.mes := rfl
@[simp] theorem Upd.refreshOnlyClear_ses : ((Upd.refreshOnlyClear lo hi).apply s).ses = s.ses := rfl
@[simp] theorem Upd.refreshOnlyClear_vus : ((Upd.refreshOnlyClear lo hi).apply s).vus = s.vus := rfl
@[simp] theorem Upd.refreshOnlyClear_spd : ((Upd.refreshOnlyClear lo hi).apply s).spd = s.spd := rfl
@[simp] theorem Upd.refreshOnlyClear_spdPoison : ((Upd.refreshOnlyClear lo hi).apply s).spdPoison = s.spdPoison := rfl
@[simp] theorem Upd.refreshOnlyClear_dram : ((Upd.refreshOnlyClear lo hi).apply s).dram = s.dram := rfl
@[simp] theorem Upd.refreshOnlyClear_dramPoison : ((Upd.refreshOnlyClear lo hi).apply s).dramPoison = s.dramPoison := rfl
@[simp] theorem Upd.refreshOnlyClear_dramWritten : ((Upd.refreshOnlyClear lo hi).apply s).dramWritten = s.dramWritten := rfl
@[simp] theorem Upd.refreshOnlyClear_caches : ((Upd.refreshOnlyClear lo hi).apply s).caches = s.caches := rfl
@[simp] theorem Upd.refreshOnlyClear_refreshed : ((Upd.refreshOnlyClear lo hi).apply s).refreshed = s.refreshed := rfl
@[simp] theorem Upd.refreshOnlyClear_flasks : ((Upd.refreshOnlyClear lo hi).apply s).flasks = s.flasks := rfl
@[simp] theorem Upd.refreshOnlyClear_queues : ((Upd.refreshOnlyClear lo hi).apply s).queues = s.queues := rfl
@[simp] theorem Upd.refreshOnlyClear_ldls : ((Upd.refreshOnlyClear lo hi).apply s).ldls = s.ldls := rfl
@[simp] theorem Upd.refreshOnlyClear_msix : ((Upd.refreshOnlyClear lo hi).apply s).msix = s.msix := rfl
@[simp] theorem Upd.refreshOnlyClear_hports : ((Upd.refreshOnlyClear lo hi).apply s).hports = s.hports := rfl
@[simp] theorem Upd.refreshOnlyClear_hostOut : ((Upd.refreshOnlyClear lo hi).apply s).hostOut = s.hostOut := rfl
@[simp] theorem Upd.refreshOnlyClear_rings : ((Upd.refreshOnlyClear lo hi).apply s).rings = s.rings := rfl
@[simp] theorem Upd.refreshOnlyClear_ev : ((Upd.refreshOnlyClear lo hi).apply s).ev = s.ev := rfl
@[simp] theorem Upd.refreshOnlyClear_slots : ((Upd.refreshOnlyClear lo hi).apply s).slots = s.slots := rfl
@[simp] theorem Upd.refreshOnlyClear_mbOrder : ((Upd.refreshOnlyClear lo hi).apply s).mbOrder = s.mbOrder := rfl
@[simp] theorem Upd.refreshOnlyClear_msgs : ((Upd.refreshOnlyClear lo hi).apply s).msgs = s.msgs := rfl
@[simp] theorem Upd.refreshOnlyClear_ports : ((Upd.refreshOnlyClear lo hi).apply s).ports = s.ports := rfl
@[simp] theorem Upd.refreshOnlyClear_pour : ((Upd.refreshOnlyClear lo hi).apply s).pour = s.pour := rfl
@[simp] theorem Upd.refreshOnlyClear_faults : ((Upd.refreshOnlyClear lo hi).apply s).faults = s.faults := rfl
@[simp] theorem Upd.refreshOnlyClear_pep : ((Upd.refreshOnlyClear lo hi).apply s).pep = s.pep := rfl
@[simp] theorem Upd.refreshOnlyClear_power : ((Upd.refreshOnlyClear lo hi).apply s).power = s.power := rfl
@[simp] theorem Upd.refreshOnlyClear_resp : ((Upd.refreshOnlyClear lo hi).apply s).resp = s.resp := rfl
@[simp] theorem Upd.refreshOnlyClear_dbg : ((Upd.refreshOnlyClear lo hi).apply s).dbg = s.dbg := rfl
@[simp] theorem Upd.refreshOnlyClear_pst : ((Upd.refreshOnlyClear lo hi).apply s).pst = s.pst := rfl
@[simp] theorem Upd.refreshOnlyClear_boot : ((Upd.refreshOnlyClear lo hi).apply s).boot = s.boot := rfl
@[simp] theorem Upd.refreshOnlyClear_saf : ((Upd.refreshOnlyClear lo hi).apply s).saf = s.saf := rfl
@[simp] theorem Upd.refreshOnlyClear_svc : ((Upd.refreshOnlyClear lo hi).apply s).svc = s.svc := rfl
@[simp] theorem Upd.refreshOnlyClear_freeCtr : ((Upd.refreshOnlyClear lo hi).apply s).freeCtr = s.freeCtr := rfl
end

section
variable (k : Nat) (v : Nat)
@[simp] theorem Upd.refreshed_flds : ((Upd.refreshed k v).apply s).flds = s.flds := rfl
@[simp] theorem Upd.refreshed_slag : ((Upd.refreshed k v).apply s).slag = s.slag := rfl
@[simp] theorem Upd.refreshed_seam : ((Upd.refreshed k v).apply s).seam = s.seam := rfl
@[simp] theorem Upd.refreshed_align : ((Upd.refreshed k v).apply s).align = s.align := rfl
@[simp] theorem Upd.refreshed_gclk : ((Upd.refreshed k v).apply s).gclk = s.gclk := rfl
@[simp] theorem Upd.refreshed_dec : ((Upd.refreshed k v).apply s).dec = s.dec := rfl
@[simp] theorem Upd.refreshed_ctl : ((Upd.refreshed k v).apply s).ctl = s.ctl := rfl
@[simp] theorem Upd.refreshed_cores : ((Upd.refreshed k v).apply s).cores = s.cores := rfl
@[simp] theorem Upd.refreshed_mes : ((Upd.refreshed k v).apply s).mes = s.mes := rfl
@[simp] theorem Upd.refreshed_ses : ((Upd.refreshed k v).apply s).ses = s.ses := rfl
@[simp] theorem Upd.refreshed_vus : ((Upd.refreshed k v).apply s).vus = s.vus := rfl
@[simp] theorem Upd.refreshed_spd : ((Upd.refreshed k v).apply s).spd = s.spd := rfl
@[simp] theorem Upd.refreshed_spdPoison : ((Upd.refreshed k v).apply s).spdPoison = s.spdPoison := rfl
@[simp] theorem Upd.refreshed_dram : ((Upd.refreshed k v).apply s).dram = s.dram := rfl
@[simp] theorem Upd.refreshed_dramPoison : ((Upd.refreshed k v).apply s).dramPoison = s.dramPoison := rfl
@[simp] theorem Upd.refreshed_dramWritten : ((Upd.refreshed k v).apply s).dramWritten = s.dramWritten := rfl
@[simp] theorem Upd.refreshed_caches : ((Upd.refreshed k v).apply s).caches = s.caches := rfl
@[simp] theorem Upd.refreshed_refreshOnly : ((Upd.refreshed k v).apply s).refreshOnly = s.refreshOnly := rfl
@[simp] theorem Upd.refreshed_flasks : ((Upd.refreshed k v).apply s).flasks = s.flasks := rfl
@[simp] theorem Upd.refreshed_queues : ((Upd.refreshed k v).apply s).queues = s.queues := rfl
@[simp] theorem Upd.refreshed_ldls : ((Upd.refreshed k v).apply s).ldls = s.ldls := rfl
@[simp] theorem Upd.refreshed_msix : ((Upd.refreshed k v).apply s).msix = s.msix := rfl
@[simp] theorem Upd.refreshed_hports : ((Upd.refreshed k v).apply s).hports = s.hports := rfl
@[simp] theorem Upd.refreshed_hostOut : ((Upd.refreshed k v).apply s).hostOut = s.hostOut := rfl
@[simp] theorem Upd.refreshed_rings : ((Upd.refreshed k v).apply s).rings = s.rings := rfl
@[simp] theorem Upd.refreshed_ev : ((Upd.refreshed k v).apply s).ev = s.ev := rfl
@[simp] theorem Upd.refreshed_slots : ((Upd.refreshed k v).apply s).slots = s.slots := rfl
@[simp] theorem Upd.refreshed_mbOrder : ((Upd.refreshed k v).apply s).mbOrder = s.mbOrder := rfl
@[simp] theorem Upd.refreshed_msgs : ((Upd.refreshed k v).apply s).msgs = s.msgs := rfl
@[simp] theorem Upd.refreshed_ports : ((Upd.refreshed k v).apply s).ports = s.ports := rfl
@[simp] theorem Upd.refreshed_pour : ((Upd.refreshed k v).apply s).pour = s.pour := rfl
@[simp] theorem Upd.refreshed_faults : ((Upd.refreshed k v).apply s).faults = s.faults := rfl
@[simp] theorem Upd.refreshed_pep : ((Upd.refreshed k v).apply s).pep = s.pep := rfl
@[simp] theorem Upd.refreshed_power : ((Upd.refreshed k v).apply s).power = s.power := rfl
@[simp] theorem Upd.refreshed_resp : ((Upd.refreshed k v).apply s).resp = s.resp := rfl
@[simp] theorem Upd.refreshed_dbg : ((Upd.refreshed k v).apply s).dbg = s.dbg := rfl
@[simp] theorem Upd.refreshed_pst : ((Upd.refreshed k v).apply s).pst = s.pst := rfl
@[simp] theorem Upd.refreshed_boot : ((Upd.refreshed k v).apply s).boot = s.boot := rfl
@[simp] theorem Upd.refreshed_saf : ((Upd.refreshed k v).apply s).saf = s.saf := rfl
@[simp] theorem Upd.refreshed_svc : ((Upd.refreshed k v).apply s).svc = s.svc := rfl
@[simp] theorem Upd.refreshed_freeCtr : ((Upd.refreshed k v).apply s).freeCtr = s.freeCtr := rfl
end

section
variable (lo hi : Nat)
@[simp] theorem Upd.refreshedClear_flds : ((Upd.refreshedClear lo hi).apply s).flds = s.flds := rfl
@[simp] theorem Upd.refreshedClear_slag : ((Upd.refreshedClear lo hi).apply s).slag = s.slag := rfl
@[simp] theorem Upd.refreshedClear_seam : ((Upd.refreshedClear lo hi).apply s).seam = s.seam := rfl
@[simp] theorem Upd.refreshedClear_align : ((Upd.refreshedClear lo hi).apply s).align = s.align := rfl
@[simp] theorem Upd.refreshedClear_gclk : ((Upd.refreshedClear lo hi).apply s).gclk = s.gclk := rfl
@[simp] theorem Upd.refreshedClear_dec : ((Upd.refreshedClear lo hi).apply s).dec = s.dec := rfl
@[simp] theorem Upd.refreshedClear_ctl : ((Upd.refreshedClear lo hi).apply s).ctl = s.ctl := rfl
@[simp] theorem Upd.refreshedClear_cores : ((Upd.refreshedClear lo hi).apply s).cores = s.cores := rfl
@[simp] theorem Upd.refreshedClear_mes : ((Upd.refreshedClear lo hi).apply s).mes = s.mes := rfl
@[simp] theorem Upd.refreshedClear_ses : ((Upd.refreshedClear lo hi).apply s).ses = s.ses := rfl
@[simp] theorem Upd.refreshedClear_vus : ((Upd.refreshedClear lo hi).apply s).vus = s.vus := rfl
@[simp] theorem Upd.refreshedClear_spd : ((Upd.refreshedClear lo hi).apply s).spd = s.spd := rfl
@[simp] theorem Upd.refreshedClear_spdPoison : ((Upd.refreshedClear lo hi).apply s).spdPoison = s.spdPoison := rfl
@[simp] theorem Upd.refreshedClear_dram : ((Upd.refreshedClear lo hi).apply s).dram = s.dram := rfl
@[simp] theorem Upd.refreshedClear_dramPoison : ((Upd.refreshedClear lo hi).apply s).dramPoison = s.dramPoison := rfl
@[simp] theorem Upd.refreshedClear_dramWritten : ((Upd.refreshedClear lo hi).apply s).dramWritten = s.dramWritten := rfl
@[simp] theorem Upd.refreshedClear_caches : ((Upd.refreshedClear lo hi).apply s).caches = s.caches := rfl
@[simp] theorem Upd.refreshedClear_refreshOnly : ((Upd.refreshedClear lo hi).apply s).refreshOnly = s.refreshOnly := rfl
@[simp] theorem Upd.refreshedClear_flasks : ((Upd.refreshedClear lo hi).apply s).flasks = s.flasks := rfl
@[simp] theorem Upd.refreshedClear_queues : ((Upd.refreshedClear lo hi).apply s).queues = s.queues := rfl
@[simp] theorem Upd.refreshedClear_ldls : ((Upd.refreshedClear lo hi).apply s).ldls = s.ldls := rfl
@[simp] theorem Upd.refreshedClear_msix : ((Upd.refreshedClear lo hi).apply s).msix = s.msix := rfl
@[simp] theorem Upd.refreshedClear_hports : ((Upd.refreshedClear lo hi).apply s).hports = s.hports := rfl
@[simp] theorem Upd.refreshedClear_hostOut : ((Upd.refreshedClear lo hi).apply s).hostOut = s.hostOut := rfl
@[simp] theorem Upd.refreshedClear_rings : ((Upd.refreshedClear lo hi).apply s).rings = s.rings := rfl
@[simp] theorem Upd.refreshedClear_ev : ((Upd.refreshedClear lo hi).apply s).ev = s.ev := rfl
@[simp] theorem Upd.refreshedClear_slots : ((Upd.refreshedClear lo hi).apply s).slots = s.slots := rfl
@[simp] theorem Upd.refreshedClear_mbOrder : ((Upd.refreshedClear lo hi).apply s).mbOrder = s.mbOrder := rfl
@[simp] theorem Upd.refreshedClear_msgs : ((Upd.refreshedClear lo hi).apply s).msgs = s.msgs := rfl
@[simp] theorem Upd.refreshedClear_ports : ((Upd.refreshedClear lo hi).apply s).ports = s.ports := rfl
@[simp] theorem Upd.refreshedClear_pour : ((Upd.refreshedClear lo hi).apply s).pour = s.pour := rfl
@[simp] theorem Upd.refreshedClear_faults : ((Upd.refreshedClear lo hi).apply s).faults = s.faults := rfl
@[simp] theorem Upd.refreshedClear_pep : ((Upd.refreshedClear lo hi).apply s).pep = s.pep := rfl
@[simp] theorem Upd.refreshedClear_power : ((Upd.refreshedClear lo hi).apply s).power = s.power := rfl
@[simp] theorem Upd.refreshedClear_resp : ((Upd.refreshedClear lo hi).apply s).resp = s.resp := rfl
@[simp] theorem Upd.refreshedClear_dbg : ((Upd.refreshedClear lo hi).apply s).dbg = s.dbg := rfl
@[simp] theorem Upd.refreshedClear_pst : ((Upd.refreshedClear lo hi).apply s).pst = s.pst := rfl
@[simp] theorem Upd.refreshedClear_boot : ((Upd.refreshedClear lo hi).apply s).boot = s.boot := rfl
@[simp] theorem Upd.refreshedClear_saf : ((Upd.refreshedClear lo hi).apply s).saf = s.saf := rfl
@[simp] theorem Upd.refreshedClear_svc : ((Upd.refreshedClear lo hi).apply s).svc = s.svc := rfl
@[simp] theorem Upd.refreshedClear_freeCtr : ((Upd.refreshedClear lo hi).apply s).freeCtr = s.freeCtr := rfl
end

section
variable (k : Nat) (v : FlaskSt)
@[simp] theorem Upd.flasks_flds : ((Upd.flasks k v).apply s).flds = s.flds := rfl
@[simp] theorem Upd.flasks_slag : ((Upd.flasks k v).apply s).slag = s.slag := rfl
@[simp] theorem Upd.flasks_seam : ((Upd.flasks k v).apply s).seam = s.seam := rfl
@[simp] theorem Upd.flasks_align : ((Upd.flasks k v).apply s).align = s.align := rfl
@[simp] theorem Upd.flasks_gclk : ((Upd.flasks k v).apply s).gclk = s.gclk := rfl
@[simp] theorem Upd.flasks_dec : ((Upd.flasks k v).apply s).dec = s.dec := rfl
@[simp] theorem Upd.flasks_ctl : ((Upd.flasks k v).apply s).ctl = s.ctl := rfl
@[simp] theorem Upd.flasks_cores : ((Upd.flasks k v).apply s).cores = s.cores := rfl
@[simp] theorem Upd.flasks_mes : ((Upd.flasks k v).apply s).mes = s.mes := rfl
@[simp] theorem Upd.flasks_ses : ((Upd.flasks k v).apply s).ses = s.ses := rfl
@[simp] theorem Upd.flasks_vus : ((Upd.flasks k v).apply s).vus = s.vus := rfl
@[simp] theorem Upd.flasks_spd : ((Upd.flasks k v).apply s).spd = s.spd := rfl
@[simp] theorem Upd.flasks_spdPoison : ((Upd.flasks k v).apply s).spdPoison = s.spdPoison := rfl
@[simp] theorem Upd.flasks_dram : ((Upd.flasks k v).apply s).dram = s.dram := rfl
@[simp] theorem Upd.flasks_dramPoison : ((Upd.flasks k v).apply s).dramPoison = s.dramPoison := rfl
@[simp] theorem Upd.flasks_dramWritten : ((Upd.flasks k v).apply s).dramWritten = s.dramWritten := rfl
@[simp] theorem Upd.flasks_caches : ((Upd.flasks k v).apply s).caches = s.caches := rfl
@[simp] theorem Upd.flasks_refreshOnly : ((Upd.flasks k v).apply s).refreshOnly = s.refreshOnly := rfl
@[simp] theorem Upd.flasks_refreshed : ((Upd.flasks k v).apply s).refreshed = s.refreshed := rfl
@[simp] theorem Upd.flasks_queues : ((Upd.flasks k v).apply s).queues = s.queues := rfl
@[simp] theorem Upd.flasks_ldls : ((Upd.flasks k v).apply s).ldls = s.ldls := rfl
@[simp] theorem Upd.flasks_msix : ((Upd.flasks k v).apply s).msix = s.msix := rfl
@[simp] theorem Upd.flasks_hports : ((Upd.flasks k v).apply s).hports = s.hports := rfl
@[simp] theorem Upd.flasks_hostOut : ((Upd.flasks k v).apply s).hostOut = s.hostOut := rfl
@[simp] theorem Upd.flasks_rings : ((Upd.flasks k v).apply s).rings = s.rings := rfl
@[simp] theorem Upd.flasks_ev : ((Upd.flasks k v).apply s).ev = s.ev := rfl
@[simp] theorem Upd.flasks_slots : ((Upd.flasks k v).apply s).slots = s.slots := rfl
@[simp] theorem Upd.flasks_mbOrder : ((Upd.flasks k v).apply s).mbOrder = s.mbOrder := rfl
@[simp] theorem Upd.flasks_msgs : ((Upd.flasks k v).apply s).msgs = s.msgs := rfl
@[simp] theorem Upd.flasks_ports : ((Upd.flasks k v).apply s).ports = s.ports := rfl
@[simp] theorem Upd.flasks_pour : ((Upd.flasks k v).apply s).pour = s.pour := rfl
@[simp] theorem Upd.flasks_faults : ((Upd.flasks k v).apply s).faults = s.faults := rfl
@[simp] theorem Upd.flasks_pep : ((Upd.flasks k v).apply s).pep = s.pep := rfl
@[simp] theorem Upd.flasks_power : ((Upd.flasks k v).apply s).power = s.power := rfl
@[simp] theorem Upd.flasks_resp : ((Upd.flasks k v).apply s).resp = s.resp := rfl
@[simp] theorem Upd.flasks_dbg : ((Upd.flasks k v).apply s).dbg = s.dbg := rfl
@[simp] theorem Upd.flasks_pst : ((Upd.flasks k v).apply s).pst = s.pst := rfl
@[simp] theorem Upd.flasks_boot : ((Upd.flasks k v).apply s).boot = s.boot := rfl
@[simp] theorem Upd.flasks_saf : ((Upd.flasks k v).apply s).saf = s.saf := rfl
@[simp] theorem Upd.flasks_svc : ((Upd.flasks k v).apply s).svc = s.svc := rfl
@[simp] theorem Upd.flasks_freeCtr : ((Upd.flasks k v).apply s).freeCtr = s.freeCtr := rfl
end

section
variable (lo hi : Nat)
@[simp] theorem Upd.flasksClear_flds : ((Upd.flasksClear lo hi).apply s).flds = s.flds := rfl
@[simp] theorem Upd.flasksClear_slag : ((Upd.flasksClear lo hi).apply s).slag = s.slag := rfl
@[simp] theorem Upd.flasksClear_seam : ((Upd.flasksClear lo hi).apply s).seam = s.seam := rfl
@[simp] theorem Upd.flasksClear_align : ((Upd.flasksClear lo hi).apply s).align = s.align := rfl
@[simp] theorem Upd.flasksClear_gclk : ((Upd.flasksClear lo hi).apply s).gclk = s.gclk := rfl
@[simp] theorem Upd.flasksClear_dec : ((Upd.flasksClear lo hi).apply s).dec = s.dec := rfl
@[simp] theorem Upd.flasksClear_ctl : ((Upd.flasksClear lo hi).apply s).ctl = s.ctl := rfl
@[simp] theorem Upd.flasksClear_cores : ((Upd.flasksClear lo hi).apply s).cores = s.cores := rfl
@[simp] theorem Upd.flasksClear_mes : ((Upd.flasksClear lo hi).apply s).mes = s.mes := rfl
@[simp] theorem Upd.flasksClear_ses : ((Upd.flasksClear lo hi).apply s).ses = s.ses := rfl
@[simp] theorem Upd.flasksClear_vus : ((Upd.flasksClear lo hi).apply s).vus = s.vus := rfl
@[simp] theorem Upd.flasksClear_spd : ((Upd.flasksClear lo hi).apply s).spd = s.spd := rfl
@[simp] theorem Upd.flasksClear_spdPoison : ((Upd.flasksClear lo hi).apply s).spdPoison = s.spdPoison := rfl
@[simp] theorem Upd.flasksClear_dram : ((Upd.flasksClear lo hi).apply s).dram = s.dram := rfl
@[simp] theorem Upd.flasksClear_dramPoison : ((Upd.flasksClear lo hi).apply s).dramPoison = s.dramPoison := rfl
@[simp] theorem Upd.flasksClear_dramWritten : ((Upd.flasksClear lo hi).apply s).dramWritten = s.dramWritten := rfl
@[simp] theorem Upd.flasksClear_caches : ((Upd.flasksClear lo hi).apply s).caches = s.caches := rfl
@[simp] theorem Upd.flasksClear_refreshOnly : ((Upd.flasksClear lo hi).apply s).refreshOnly = s.refreshOnly := rfl
@[simp] theorem Upd.flasksClear_refreshed : ((Upd.flasksClear lo hi).apply s).refreshed = s.refreshed := rfl
@[simp] theorem Upd.flasksClear_queues : ((Upd.flasksClear lo hi).apply s).queues = s.queues := rfl
@[simp] theorem Upd.flasksClear_ldls : ((Upd.flasksClear lo hi).apply s).ldls = s.ldls := rfl
@[simp] theorem Upd.flasksClear_msix : ((Upd.flasksClear lo hi).apply s).msix = s.msix := rfl
@[simp] theorem Upd.flasksClear_hports : ((Upd.flasksClear lo hi).apply s).hports = s.hports := rfl
@[simp] theorem Upd.flasksClear_hostOut : ((Upd.flasksClear lo hi).apply s).hostOut = s.hostOut := rfl
@[simp] theorem Upd.flasksClear_rings : ((Upd.flasksClear lo hi).apply s).rings = s.rings := rfl
@[simp] theorem Upd.flasksClear_ev : ((Upd.flasksClear lo hi).apply s).ev = s.ev := rfl
@[simp] theorem Upd.flasksClear_slots : ((Upd.flasksClear lo hi).apply s).slots = s.slots := rfl
@[simp] theorem Upd.flasksClear_mbOrder : ((Upd.flasksClear lo hi).apply s).mbOrder = s.mbOrder := rfl
@[simp] theorem Upd.flasksClear_msgs : ((Upd.flasksClear lo hi).apply s).msgs = s.msgs := rfl
@[simp] theorem Upd.flasksClear_ports : ((Upd.flasksClear lo hi).apply s).ports = s.ports := rfl
@[simp] theorem Upd.flasksClear_pour : ((Upd.flasksClear lo hi).apply s).pour = s.pour := rfl
@[simp] theorem Upd.flasksClear_faults : ((Upd.flasksClear lo hi).apply s).faults = s.faults := rfl
@[simp] theorem Upd.flasksClear_pep : ((Upd.flasksClear lo hi).apply s).pep = s.pep := rfl
@[simp] theorem Upd.flasksClear_power : ((Upd.flasksClear lo hi).apply s).power = s.power := rfl
@[simp] theorem Upd.flasksClear_resp : ((Upd.flasksClear lo hi).apply s).resp = s.resp := rfl
@[simp] theorem Upd.flasksClear_dbg : ((Upd.flasksClear lo hi).apply s).dbg = s.dbg := rfl
@[simp] theorem Upd.flasksClear_pst : ((Upd.flasksClear lo hi).apply s).pst = s.pst := rfl
@[simp] theorem Upd.flasksClear_boot : ((Upd.flasksClear lo hi).apply s).boot = s.boot := rfl
@[simp] theorem Upd.flasksClear_saf : ((Upd.flasksClear lo hi).apply s).saf = s.saf := rfl
@[simp] theorem Upd.flasksClear_svc : ((Upd.flasksClear lo hi).apply s).svc = s.svc := rfl
@[simp] theorem Upd.flasksClear_freeCtr : ((Upd.flasksClear lo hi).apply s).freeCtr = s.freeCtr := rfl
end

section
variable (k : Nat) (v : QueueSt)
@[simp] theorem Upd.queues_flds : ((Upd.queues k v).apply s).flds = s.flds := rfl
@[simp] theorem Upd.queues_slag : ((Upd.queues k v).apply s).slag = s.slag := rfl
@[simp] theorem Upd.queues_seam : ((Upd.queues k v).apply s).seam = s.seam := rfl
@[simp] theorem Upd.queues_align : ((Upd.queues k v).apply s).align = s.align := rfl
@[simp] theorem Upd.queues_gclk : ((Upd.queues k v).apply s).gclk = s.gclk := rfl
@[simp] theorem Upd.queues_dec : ((Upd.queues k v).apply s).dec = s.dec := rfl
@[simp] theorem Upd.queues_ctl : ((Upd.queues k v).apply s).ctl = s.ctl := rfl
@[simp] theorem Upd.queues_cores : ((Upd.queues k v).apply s).cores = s.cores := rfl
@[simp] theorem Upd.queues_mes : ((Upd.queues k v).apply s).mes = s.mes := rfl
@[simp] theorem Upd.queues_ses : ((Upd.queues k v).apply s).ses = s.ses := rfl
@[simp] theorem Upd.queues_vus : ((Upd.queues k v).apply s).vus = s.vus := rfl
@[simp] theorem Upd.queues_spd : ((Upd.queues k v).apply s).spd = s.spd := rfl
@[simp] theorem Upd.queues_spdPoison : ((Upd.queues k v).apply s).spdPoison = s.spdPoison := rfl
@[simp] theorem Upd.queues_dram : ((Upd.queues k v).apply s).dram = s.dram := rfl
@[simp] theorem Upd.queues_dramPoison : ((Upd.queues k v).apply s).dramPoison = s.dramPoison := rfl
@[simp] theorem Upd.queues_dramWritten : ((Upd.queues k v).apply s).dramWritten = s.dramWritten := rfl
@[simp] theorem Upd.queues_caches : ((Upd.queues k v).apply s).caches = s.caches := rfl
@[simp] theorem Upd.queues_refreshOnly : ((Upd.queues k v).apply s).refreshOnly = s.refreshOnly := rfl
@[simp] theorem Upd.queues_refreshed : ((Upd.queues k v).apply s).refreshed = s.refreshed := rfl
@[simp] theorem Upd.queues_flasks : ((Upd.queues k v).apply s).flasks = s.flasks := rfl
@[simp] theorem Upd.queues_ldls : ((Upd.queues k v).apply s).ldls = s.ldls := rfl
@[simp] theorem Upd.queues_msix : ((Upd.queues k v).apply s).msix = s.msix := rfl
@[simp] theorem Upd.queues_hports : ((Upd.queues k v).apply s).hports = s.hports := rfl
@[simp] theorem Upd.queues_hostOut : ((Upd.queues k v).apply s).hostOut = s.hostOut := rfl
@[simp] theorem Upd.queues_rings : ((Upd.queues k v).apply s).rings = s.rings := rfl
@[simp] theorem Upd.queues_ev : ((Upd.queues k v).apply s).ev = s.ev := rfl
@[simp] theorem Upd.queues_slots : ((Upd.queues k v).apply s).slots = s.slots := rfl
@[simp] theorem Upd.queues_mbOrder : ((Upd.queues k v).apply s).mbOrder = s.mbOrder := rfl
@[simp] theorem Upd.queues_msgs : ((Upd.queues k v).apply s).msgs = s.msgs := rfl
@[simp] theorem Upd.queues_ports : ((Upd.queues k v).apply s).ports = s.ports := rfl
@[simp] theorem Upd.queues_pour : ((Upd.queues k v).apply s).pour = s.pour := rfl
@[simp] theorem Upd.queues_faults : ((Upd.queues k v).apply s).faults = s.faults := rfl
@[simp] theorem Upd.queues_pep : ((Upd.queues k v).apply s).pep = s.pep := rfl
@[simp] theorem Upd.queues_power : ((Upd.queues k v).apply s).power = s.power := rfl
@[simp] theorem Upd.queues_resp : ((Upd.queues k v).apply s).resp = s.resp := rfl
@[simp] theorem Upd.queues_dbg : ((Upd.queues k v).apply s).dbg = s.dbg := rfl
@[simp] theorem Upd.queues_pst : ((Upd.queues k v).apply s).pst = s.pst := rfl
@[simp] theorem Upd.queues_boot : ((Upd.queues k v).apply s).boot = s.boot := rfl
@[simp] theorem Upd.queues_saf : ((Upd.queues k v).apply s).saf = s.saf := rfl
@[simp] theorem Upd.queues_svc : ((Upd.queues k v).apply s).svc = s.svc := rfl
@[simp] theorem Upd.queues_freeCtr : ((Upd.queues k v).apply s).freeCtr = s.freeCtr := rfl
end

section
variable (lo hi : Nat)
@[simp] theorem Upd.queuesClear_flds : ((Upd.queuesClear lo hi).apply s).flds = s.flds := rfl
@[simp] theorem Upd.queuesClear_slag : ((Upd.queuesClear lo hi).apply s).slag = s.slag := rfl
@[simp] theorem Upd.queuesClear_seam : ((Upd.queuesClear lo hi).apply s).seam = s.seam := rfl
@[simp] theorem Upd.queuesClear_align : ((Upd.queuesClear lo hi).apply s).align = s.align := rfl
@[simp] theorem Upd.queuesClear_gclk : ((Upd.queuesClear lo hi).apply s).gclk = s.gclk := rfl
@[simp] theorem Upd.queuesClear_dec : ((Upd.queuesClear lo hi).apply s).dec = s.dec := rfl
@[simp] theorem Upd.queuesClear_ctl : ((Upd.queuesClear lo hi).apply s).ctl = s.ctl := rfl
@[simp] theorem Upd.queuesClear_cores : ((Upd.queuesClear lo hi).apply s).cores = s.cores := rfl
@[simp] theorem Upd.queuesClear_mes : ((Upd.queuesClear lo hi).apply s).mes = s.mes := rfl
@[simp] theorem Upd.queuesClear_ses : ((Upd.queuesClear lo hi).apply s).ses = s.ses := rfl
@[simp] theorem Upd.queuesClear_vus : ((Upd.queuesClear lo hi).apply s).vus = s.vus := rfl
@[simp] theorem Upd.queuesClear_spd : ((Upd.queuesClear lo hi).apply s).spd = s.spd := rfl
@[simp] theorem Upd.queuesClear_spdPoison : ((Upd.queuesClear lo hi).apply s).spdPoison = s.spdPoison := rfl
@[simp] theorem Upd.queuesClear_dram : ((Upd.queuesClear lo hi).apply s).dram = s.dram := rfl
@[simp] theorem Upd.queuesClear_dramPoison : ((Upd.queuesClear lo hi).apply s).dramPoison = s.dramPoison := rfl
@[simp] theorem Upd.queuesClear_dramWritten : ((Upd.queuesClear lo hi).apply s).dramWritten = s.dramWritten := rfl
@[simp] theorem Upd.queuesClear_caches : ((Upd.queuesClear lo hi).apply s).caches = s.caches := rfl
@[simp] theorem Upd.queuesClear_refreshOnly : ((Upd.queuesClear lo hi).apply s).refreshOnly = s.refreshOnly := rfl
@[simp] theorem Upd.queuesClear_refreshed : ((Upd.queuesClear lo hi).apply s).refreshed = s.refreshed := rfl
@[simp] theorem Upd.queuesClear_flasks : ((Upd.queuesClear lo hi).apply s).flasks = s.flasks := rfl
@[simp] theorem Upd.queuesClear_ldls : ((Upd.queuesClear lo hi).apply s).ldls = s.ldls := rfl
@[simp] theorem Upd.queuesClear_msix : ((Upd.queuesClear lo hi).apply s).msix = s.msix := rfl
@[simp] theorem Upd.queuesClear_hports : ((Upd.queuesClear lo hi).apply s).hports = s.hports := rfl
@[simp] theorem Upd.queuesClear_hostOut : ((Upd.queuesClear lo hi).apply s).hostOut = s.hostOut := rfl
@[simp] theorem Upd.queuesClear_rings : ((Upd.queuesClear lo hi).apply s).rings = s.rings := rfl
@[simp] theorem Upd.queuesClear_ev : ((Upd.queuesClear lo hi).apply s).ev = s.ev := rfl
@[simp] theorem Upd.queuesClear_slots : ((Upd.queuesClear lo hi).apply s).slots = s.slots := rfl
@[simp] theorem Upd.queuesClear_mbOrder : ((Upd.queuesClear lo hi).apply s).mbOrder = s.mbOrder := rfl
@[simp] theorem Upd.queuesClear_msgs : ((Upd.queuesClear lo hi).apply s).msgs = s.msgs := rfl
@[simp] theorem Upd.queuesClear_ports : ((Upd.queuesClear lo hi).apply s).ports = s.ports := rfl
@[simp] theorem Upd.queuesClear_pour : ((Upd.queuesClear lo hi).apply s).pour = s.pour := rfl
@[simp] theorem Upd.queuesClear_faults : ((Upd.queuesClear lo hi).apply s).faults = s.faults := rfl
@[simp] theorem Upd.queuesClear_pep : ((Upd.queuesClear lo hi).apply s).pep = s.pep := rfl
@[simp] theorem Upd.queuesClear_power : ((Upd.queuesClear lo hi).apply s).power = s.power := rfl
@[simp] theorem Upd.queuesClear_resp : ((Upd.queuesClear lo hi).apply s).resp = s.resp := rfl
@[simp] theorem Upd.queuesClear_dbg : ((Upd.queuesClear lo hi).apply s).dbg = s.dbg := rfl
@[simp] theorem Upd.queuesClear_pst : ((Upd.queuesClear lo hi).apply s).pst = s.pst := rfl
@[simp] theorem Upd.queuesClear_boot : ((Upd.queuesClear lo hi).apply s).boot = s.boot := rfl
@[simp] theorem Upd.queuesClear_saf : ((Upd.queuesClear lo hi).apply s).saf = s.saf := rfl
@[simp] theorem Upd.queuesClear_svc : ((Upd.queuesClear lo hi).apply s).svc = s.svc := rfl
@[simp] theorem Upd.queuesClear_freeCtr : ((Upd.queuesClear lo hi).apply s).freeCtr = s.freeCtr := rfl
end

section
variable (k : Nat) (v : LdlSt)
@[simp] theorem Upd.ldls_flds : ((Upd.ldls k v).apply s).flds = s.flds := rfl
@[simp] theorem Upd.ldls_slag : ((Upd.ldls k v).apply s).slag = s.slag := rfl
@[simp] theorem Upd.ldls_seam : ((Upd.ldls k v).apply s).seam = s.seam := rfl
@[simp] theorem Upd.ldls_align : ((Upd.ldls k v).apply s).align = s.align := rfl
@[simp] theorem Upd.ldls_gclk : ((Upd.ldls k v).apply s).gclk = s.gclk := rfl
@[simp] theorem Upd.ldls_dec : ((Upd.ldls k v).apply s).dec = s.dec := rfl
@[simp] theorem Upd.ldls_ctl : ((Upd.ldls k v).apply s).ctl = s.ctl := rfl
@[simp] theorem Upd.ldls_cores : ((Upd.ldls k v).apply s).cores = s.cores := rfl
@[simp] theorem Upd.ldls_mes : ((Upd.ldls k v).apply s).mes = s.mes := rfl
@[simp] theorem Upd.ldls_ses : ((Upd.ldls k v).apply s).ses = s.ses := rfl
@[simp] theorem Upd.ldls_vus : ((Upd.ldls k v).apply s).vus = s.vus := rfl
@[simp] theorem Upd.ldls_spd : ((Upd.ldls k v).apply s).spd = s.spd := rfl
@[simp] theorem Upd.ldls_spdPoison : ((Upd.ldls k v).apply s).spdPoison = s.spdPoison := rfl
@[simp] theorem Upd.ldls_dram : ((Upd.ldls k v).apply s).dram = s.dram := rfl
@[simp] theorem Upd.ldls_dramPoison : ((Upd.ldls k v).apply s).dramPoison = s.dramPoison := rfl
@[simp] theorem Upd.ldls_dramWritten : ((Upd.ldls k v).apply s).dramWritten = s.dramWritten := rfl
@[simp] theorem Upd.ldls_caches : ((Upd.ldls k v).apply s).caches = s.caches := rfl
@[simp] theorem Upd.ldls_refreshOnly : ((Upd.ldls k v).apply s).refreshOnly = s.refreshOnly := rfl
@[simp] theorem Upd.ldls_refreshed : ((Upd.ldls k v).apply s).refreshed = s.refreshed := rfl
@[simp] theorem Upd.ldls_flasks : ((Upd.ldls k v).apply s).flasks = s.flasks := rfl
@[simp] theorem Upd.ldls_queues : ((Upd.ldls k v).apply s).queues = s.queues := rfl
@[simp] theorem Upd.ldls_msix : ((Upd.ldls k v).apply s).msix = s.msix := rfl
@[simp] theorem Upd.ldls_hports : ((Upd.ldls k v).apply s).hports = s.hports := rfl
@[simp] theorem Upd.ldls_hostOut : ((Upd.ldls k v).apply s).hostOut = s.hostOut := rfl
@[simp] theorem Upd.ldls_rings : ((Upd.ldls k v).apply s).rings = s.rings := rfl
@[simp] theorem Upd.ldls_ev : ((Upd.ldls k v).apply s).ev = s.ev := rfl
@[simp] theorem Upd.ldls_slots : ((Upd.ldls k v).apply s).slots = s.slots := rfl
@[simp] theorem Upd.ldls_mbOrder : ((Upd.ldls k v).apply s).mbOrder = s.mbOrder := rfl
@[simp] theorem Upd.ldls_msgs : ((Upd.ldls k v).apply s).msgs = s.msgs := rfl
@[simp] theorem Upd.ldls_ports : ((Upd.ldls k v).apply s).ports = s.ports := rfl
@[simp] theorem Upd.ldls_pour : ((Upd.ldls k v).apply s).pour = s.pour := rfl
@[simp] theorem Upd.ldls_faults : ((Upd.ldls k v).apply s).faults = s.faults := rfl
@[simp] theorem Upd.ldls_pep : ((Upd.ldls k v).apply s).pep = s.pep := rfl
@[simp] theorem Upd.ldls_power : ((Upd.ldls k v).apply s).power = s.power := rfl
@[simp] theorem Upd.ldls_resp : ((Upd.ldls k v).apply s).resp = s.resp := rfl
@[simp] theorem Upd.ldls_dbg : ((Upd.ldls k v).apply s).dbg = s.dbg := rfl
@[simp] theorem Upd.ldls_pst : ((Upd.ldls k v).apply s).pst = s.pst := rfl
@[simp] theorem Upd.ldls_boot : ((Upd.ldls k v).apply s).boot = s.boot := rfl
@[simp] theorem Upd.ldls_saf : ((Upd.ldls k v).apply s).saf = s.saf := rfl
@[simp] theorem Upd.ldls_svc : ((Upd.ldls k v).apply s).svc = s.svc := rfl
@[simp] theorem Upd.ldls_freeCtr : ((Upd.ldls k v).apply s).freeCtr = s.freeCtr := rfl
end

section
variable (lo hi : Nat)
@[simp] theorem Upd.ldlsClear_flds : ((Upd.ldlsClear lo hi).apply s).flds = s.flds := rfl
@[simp] theorem Upd.ldlsClear_slag : ((Upd.ldlsClear lo hi).apply s).slag = s.slag := rfl
@[simp] theorem Upd.ldlsClear_seam : ((Upd.ldlsClear lo hi).apply s).seam = s.seam := rfl
@[simp] theorem Upd.ldlsClear_align : ((Upd.ldlsClear lo hi).apply s).align = s.align := rfl
@[simp] theorem Upd.ldlsClear_gclk : ((Upd.ldlsClear lo hi).apply s).gclk = s.gclk := rfl
@[simp] theorem Upd.ldlsClear_dec : ((Upd.ldlsClear lo hi).apply s).dec = s.dec := rfl
@[simp] theorem Upd.ldlsClear_ctl : ((Upd.ldlsClear lo hi).apply s).ctl = s.ctl := rfl
@[simp] theorem Upd.ldlsClear_cores : ((Upd.ldlsClear lo hi).apply s).cores = s.cores := rfl
@[simp] theorem Upd.ldlsClear_mes : ((Upd.ldlsClear lo hi).apply s).mes = s.mes := rfl
@[simp] theorem Upd.ldlsClear_ses : ((Upd.ldlsClear lo hi).apply s).ses = s.ses := rfl
@[simp] theorem Upd.ldlsClear_vus : ((Upd.ldlsClear lo hi).apply s).vus = s.vus := rfl
@[simp] theorem Upd.ldlsClear_spd : ((Upd.ldlsClear lo hi).apply s).spd = s.spd := rfl
@[simp] theorem Upd.ldlsClear_spdPoison : ((Upd.ldlsClear lo hi).apply s).spdPoison = s.spdPoison := rfl
@[simp] theorem Upd.ldlsClear_dram : ((Upd.ldlsClear lo hi).apply s).dram = s.dram := rfl
@[simp] theorem Upd.ldlsClear_dramPoison : ((Upd.ldlsClear lo hi).apply s).dramPoison = s.dramPoison := rfl
@[simp] theorem Upd.ldlsClear_dramWritten : ((Upd.ldlsClear lo hi).apply s).dramWritten = s.dramWritten := rfl
@[simp] theorem Upd.ldlsClear_caches : ((Upd.ldlsClear lo hi).apply s).caches = s.caches := rfl
@[simp] theorem Upd.ldlsClear_refreshOnly : ((Upd.ldlsClear lo hi).apply s).refreshOnly = s.refreshOnly := rfl
@[simp] theorem Upd.ldlsClear_refreshed : ((Upd.ldlsClear lo hi).apply s).refreshed = s.refreshed := rfl
@[simp] theorem Upd.ldlsClear_flasks : ((Upd.ldlsClear lo hi).apply s).flasks = s.flasks := rfl
@[simp] theorem Upd.ldlsClear_queues : ((Upd.ldlsClear lo hi).apply s).queues = s.queues := rfl
@[simp] theorem Upd.ldlsClear_msix : ((Upd.ldlsClear lo hi).apply s).msix = s.msix := rfl
@[simp] theorem Upd.ldlsClear_hports : ((Upd.ldlsClear lo hi).apply s).hports = s.hports := rfl
@[simp] theorem Upd.ldlsClear_hostOut : ((Upd.ldlsClear lo hi).apply s).hostOut = s.hostOut := rfl
@[simp] theorem Upd.ldlsClear_rings : ((Upd.ldlsClear lo hi).apply s).rings = s.rings := rfl
@[simp] theorem Upd.ldlsClear_ev : ((Upd.ldlsClear lo hi).apply s).ev = s.ev := rfl
@[simp] theorem Upd.ldlsClear_slots : ((Upd.ldlsClear lo hi).apply s).slots = s.slots := rfl
@[simp] theorem Upd.ldlsClear_mbOrder : ((Upd.ldlsClear lo hi).apply s).mbOrder = s.mbOrder := rfl
@[simp] theorem Upd.ldlsClear_msgs : ((Upd.ldlsClear lo hi).apply s).msgs = s.msgs := rfl
@[simp] theorem Upd.ldlsClear_ports : ((Upd.ldlsClear lo hi).apply s).ports = s.ports := rfl
@[simp] theorem Upd.ldlsClear_pour : ((Upd.ldlsClear lo hi).apply s).pour = s.pour := rfl
@[simp] theorem Upd.ldlsClear_faults : ((Upd.ldlsClear lo hi).apply s).faults = s.faults := rfl
@[simp] theorem Upd.ldlsClear_pep : ((Upd.ldlsClear lo hi).apply s).pep = s.pep := rfl
@[simp] theorem Upd.ldlsClear_power : ((Upd.ldlsClear lo hi).apply s).power = s.power := rfl
@[simp] theorem Upd.ldlsClear_resp : ((Upd.ldlsClear lo hi).apply s).resp = s.resp := rfl
@[simp] theorem Upd.ldlsClear_dbg : ((Upd.ldlsClear lo hi).apply s).dbg = s.dbg := rfl
@[simp] theorem Upd.ldlsClear_pst : ((Upd.ldlsClear lo hi).apply s).pst = s.pst := rfl
@[simp] theorem Upd.ldlsClear_boot : ((Upd.ldlsClear lo hi).apply s).boot = s.boot := rfl
@[simp] theorem Upd.ldlsClear_saf : ((Upd.ldlsClear lo hi).apply s).saf = s.saf := rfl
@[simp] theorem Upd.ldlsClear_svc : ((Upd.ldlsClear lo hi).apply s).svc = s.svc := rfl
@[simp] theorem Upd.ldlsClear_freeCtr : ((Upd.ldlsClear lo hi).apply s).freeCtr = s.freeCtr := rfl
end

section
variable (k : Nat) (v : MsixEntry)
@[simp] theorem Upd.msix_flds : ((Upd.msix k v).apply s).flds = s.flds := rfl
@[simp] theorem Upd.msix_slag : ((Upd.msix k v).apply s).slag = s.slag := rfl
@[simp] theorem Upd.msix_seam : ((Upd.msix k v).apply s).seam = s.seam := rfl
@[simp] theorem Upd.msix_align : ((Upd.msix k v).apply s).align = s.align := rfl
@[simp] theorem Upd.msix_gclk : ((Upd.msix k v).apply s).gclk = s.gclk := rfl
@[simp] theorem Upd.msix_dec : ((Upd.msix k v).apply s).dec = s.dec := rfl
@[simp] theorem Upd.msix_ctl : ((Upd.msix k v).apply s).ctl = s.ctl := rfl
@[simp] theorem Upd.msix_cores : ((Upd.msix k v).apply s).cores = s.cores := rfl
@[simp] theorem Upd.msix_mes : ((Upd.msix k v).apply s).mes = s.mes := rfl
@[simp] theorem Upd.msix_ses : ((Upd.msix k v).apply s).ses = s.ses := rfl
@[simp] theorem Upd.msix_vus : ((Upd.msix k v).apply s).vus = s.vus := rfl
@[simp] theorem Upd.msix_spd : ((Upd.msix k v).apply s).spd = s.spd := rfl
@[simp] theorem Upd.msix_spdPoison : ((Upd.msix k v).apply s).spdPoison = s.spdPoison := rfl
@[simp] theorem Upd.msix_dram : ((Upd.msix k v).apply s).dram = s.dram := rfl
@[simp] theorem Upd.msix_dramPoison : ((Upd.msix k v).apply s).dramPoison = s.dramPoison := rfl
@[simp] theorem Upd.msix_dramWritten : ((Upd.msix k v).apply s).dramWritten = s.dramWritten := rfl
@[simp] theorem Upd.msix_caches : ((Upd.msix k v).apply s).caches = s.caches := rfl
@[simp] theorem Upd.msix_refreshOnly : ((Upd.msix k v).apply s).refreshOnly = s.refreshOnly := rfl
@[simp] theorem Upd.msix_refreshed : ((Upd.msix k v).apply s).refreshed = s.refreshed := rfl
@[simp] theorem Upd.msix_flasks : ((Upd.msix k v).apply s).flasks = s.flasks := rfl
@[simp] theorem Upd.msix_queues : ((Upd.msix k v).apply s).queues = s.queues := rfl
@[simp] theorem Upd.msix_ldls : ((Upd.msix k v).apply s).ldls = s.ldls := rfl
@[simp] theorem Upd.msix_hports : ((Upd.msix k v).apply s).hports = s.hports := rfl
@[simp] theorem Upd.msix_hostOut : ((Upd.msix k v).apply s).hostOut = s.hostOut := rfl
@[simp] theorem Upd.msix_rings : ((Upd.msix k v).apply s).rings = s.rings := rfl
@[simp] theorem Upd.msix_ev : ((Upd.msix k v).apply s).ev = s.ev := rfl
@[simp] theorem Upd.msix_slots : ((Upd.msix k v).apply s).slots = s.slots := rfl
@[simp] theorem Upd.msix_mbOrder : ((Upd.msix k v).apply s).mbOrder = s.mbOrder := rfl
@[simp] theorem Upd.msix_msgs : ((Upd.msix k v).apply s).msgs = s.msgs := rfl
@[simp] theorem Upd.msix_ports : ((Upd.msix k v).apply s).ports = s.ports := rfl
@[simp] theorem Upd.msix_pour : ((Upd.msix k v).apply s).pour = s.pour := rfl
@[simp] theorem Upd.msix_faults : ((Upd.msix k v).apply s).faults = s.faults := rfl
@[simp] theorem Upd.msix_pep : ((Upd.msix k v).apply s).pep = s.pep := rfl
@[simp] theorem Upd.msix_power : ((Upd.msix k v).apply s).power = s.power := rfl
@[simp] theorem Upd.msix_resp : ((Upd.msix k v).apply s).resp = s.resp := rfl
@[simp] theorem Upd.msix_dbg : ((Upd.msix k v).apply s).dbg = s.dbg := rfl
@[simp] theorem Upd.msix_pst : ((Upd.msix k v).apply s).pst = s.pst := rfl
@[simp] theorem Upd.msix_boot : ((Upd.msix k v).apply s).boot = s.boot := rfl
@[simp] theorem Upd.msix_saf : ((Upd.msix k v).apply s).saf = s.saf := rfl
@[simp] theorem Upd.msix_svc : ((Upd.msix k v).apply s).svc = s.svc := rfl
@[simp] theorem Upd.msix_freeCtr : ((Upd.msix k v).apply s).freeCtr = s.freeCtr := rfl
end

section
variable (lo hi : Nat)
@[simp] theorem Upd.msixClear_flds : ((Upd.msixClear lo hi).apply s).flds = s.flds := rfl
@[simp] theorem Upd.msixClear_slag : ((Upd.msixClear lo hi).apply s).slag = s.slag := rfl
@[simp] theorem Upd.msixClear_seam : ((Upd.msixClear lo hi).apply s).seam = s.seam := rfl
@[simp] theorem Upd.msixClear_align : ((Upd.msixClear lo hi).apply s).align = s.align := rfl
@[simp] theorem Upd.msixClear_gclk : ((Upd.msixClear lo hi).apply s).gclk = s.gclk := rfl
@[simp] theorem Upd.msixClear_dec : ((Upd.msixClear lo hi).apply s).dec = s.dec := rfl
@[simp] theorem Upd.msixClear_ctl : ((Upd.msixClear lo hi).apply s).ctl = s.ctl := rfl
@[simp] theorem Upd.msixClear_cores : ((Upd.msixClear lo hi).apply s).cores = s.cores := rfl
@[simp] theorem Upd.msixClear_mes : ((Upd.msixClear lo hi).apply s).mes = s.mes := rfl
@[simp] theorem Upd.msixClear_ses : ((Upd.msixClear lo hi).apply s).ses = s.ses := rfl
@[simp] theorem Upd.msixClear_vus : ((Upd.msixClear lo hi).apply s).vus = s.vus := rfl
@[simp] theorem Upd.msixClear_spd : ((Upd.msixClear lo hi).apply s).spd = s.spd := rfl
@[simp] theorem Upd.msixClear_spdPoison : ((Upd.msixClear lo hi).apply s).spdPoison = s.spdPoison := rfl
@[simp] theorem Upd.msixClear_dram : ((Upd.msixClear lo hi).apply s).dram = s.dram := rfl
@[simp] theorem Upd.msixClear_dramPoison : ((Upd.msixClear lo hi).apply s).dramPoison = s.dramPoison := rfl
@[simp] theorem Upd.msixClear_dramWritten : ((Upd.msixClear lo hi).apply s).dramWritten = s.dramWritten := rfl
@[simp] theorem Upd.msixClear_caches : ((Upd.msixClear lo hi).apply s).caches = s.caches := rfl
@[simp] theorem Upd.msixClear_refreshOnly : ((Upd.msixClear lo hi).apply s).refreshOnly = s.refreshOnly := rfl
@[simp] theorem Upd.msixClear_refreshed : ((Upd.msixClear lo hi).apply s).refreshed = s.refreshed := rfl
@[simp] theorem Upd.msixClear_flasks : ((Upd.msixClear lo hi).apply s).flasks = s.flasks := rfl
@[simp] theorem Upd.msixClear_queues : ((Upd.msixClear lo hi).apply s).queues = s.queues := rfl
@[simp] theorem Upd.msixClear_ldls : ((Upd.msixClear lo hi).apply s).ldls = s.ldls := rfl
@[simp] theorem Upd.msixClear_hports : ((Upd.msixClear lo hi).apply s).hports = s.hports := rfl
@[simp] theorem Upd.msixClear_hostOut : ((Upd.msixClear lo hi).apply s).hostOut = s.hostOut := rfl
@[simp] theorem Upd.msixClear_rings : ((Upd.msixClear lo hi).apply s).rings = s.rings := rfl
@[simp] theorem Upd.msixClear_ev : ((Upd.msixClear lo hi).apply s).ev = s.ev := rfl
@[simp] theorem Upd.msixClear_slots : ((Upd.msixClear lo hi).apply s).slots = s.slots := rfl
@[simp] theorem Upd.msixClear_mbOrder : ((Upd.msixClear lo hi).apply s).mbOrder = s.mbOrder := rfl
@[simp] theorem Upd.msixClear_msgs : ((Upd.msixClear lo hi).apply s).msgs = s.msgs := rfl
@[simp] theorem Upd.msixClear_ports : ((Upd.msixClear lo hi).apply s).ports = s.ports := rfl
@[simp] theorem Upd.msixClear_pour : ((Upd.msixClear lo hi).apply s).pour = s.pour := rfl
@[simp] theorem Upd.msixClear_faults : ((Upd.msixClear lo hi).apply s).faults = s.faults := rfl
@[simp] theorem Upd.msixClear_pep : ((Upd.msixClear lo hi).apply s).pep = s.pep := rfl
@[simp] theorem Upd.msixClear_power : ((Upd.msixClear lo hi).apply s).power = s.power := rfl
@[simp] theorem Upd.msixClear_resp : ((Upd.msixClear lo hi).apply s).resp = s.resp := rfl
@[simp] theorem Upd.msixClear_dbg : ((Upd.msixClear lo hi).apply s).dbg = s.dbg := rfl
@[simp] theorem Upd.msixClear_pst : ((Upd.msixClear lo hi).apply s).pst = s.pst := rfl
@[simp] theorem Upd.msixClear_boot : ((Upd.msixClear lo hi).apply s).boot = s.boot := rfl
@[simp] theorem Upd.msixClear_saf : ((Upd.msixClear lo hi).apply s).saf = s.saf := rfl
@[simp] theorem Upd.msixClear_svc : ((Upd.msixClear lo hi).apply s).svc = s.svc := rfl
@[simp] theorem Upd.msixClear_freeCtr : ((Upd.msixClear lo hi).apply s).freeCtr = s.freeCtr := rfl
end

section
variable (k : Nat) (v : HostPort)
@[simp] theorem Upd.hports_flds : ((Upd.hports k v).apply s).flds = s.flds := rfl
@[simp] theorem Upd.hports_slag : ((Upd.hports k v).apply s).slag = s.slag := rfl
@[simp] theorem Upd.hports_seam : ((Upd.hports k v).apply s).seam = s.seam := rfl
@[simp] theorem Upd.hports_align : ((Upd.hports k v).apply s).align = s.align := rfl
@[simp] theorem Upd.hports_gclk : ((Upd.hports k v).apply s).gclk = s.gclk := rfl
@[simp] theorem Upd.hports_dec : ((Upd.hports k v).apply s).dec = s.dec := rfl
@[simp] theorem Upd.hports_ctl : ((Upd.hports k v).apply s).ctl = s.ctl := rfl
@[simp] theorem Upd.hports_cores : ((Upd.hports k v).apply s).cores = s.cores := rfl
@[simp] theorem Upd.hports_mes : ((Upd.hports k v).apply s).mes = s.mes := rfl
@[simp] theorem Upd.hports_ses : ((Upd.hports k v).apply s).ses = s.ses := rfl
@[simp] theorem Upd.hports_vus : ((Upd.hports k v).apply s).vus = s.vus := rfl
@[simp] theorem Upd.hports_spd : ((Upd.hports k v).apply s).spd = s.spd := rfl
@[simp] theorem Upd.hports_spdPoison : ((Upd.hports k v).apply s).spdPoison = s.spdPoison := rfl
@[simp] theorem Upd.hports_dram : ((Upd.hports k v).apply s).dram = s.dram := rfl
@[simp] theorem Upd.hports_dramPoison : ((Upd.hports k v).apply s).dramPoison = s.dramPoison := rfl
@[simp] theorem Upd.hports_dramWritten : ((Upd.hports k v).apply s).dramWritten = s.dramWritten := rfl
@[simp] theorem Upd.hports_caches : ((Upd.hports k v).apply s).caches = s.caches := rfl
@[simp] theorem Upd.hports_refreshOnly : ((Upd.hports k v).apply s).refreshOnly = s.refreshOnly := rfl
@[simp] theorem Upd.hports_refreshed : ((Upd.hports k v).apply s).refreshed = s.refreshed := rfl
@[simp] theorem Upd.hports_flasks : ((Upd.hports k v).apply s).flasks = s.flasks := rfl
@[simp] theorem Upd.hports_queues : ((Upd.hports k v).apply s).queues = s.queues := rfl
@[simp] theorem Upd.hports_ldls : ((Upd.hports k v).apply s).ldls = s.ldls := rfl
@[simp] theorem Upd.hports_msix : ((Upd.hports k v).apply s).msix = s.msix := rfl
@[simp] theorem Upd.hports_hostOut : ((Upd.hports k v).apply s).hostOut = s.hostOut := rfl
@[simp] theorem Upd.hports_rings : ((Upd.hports k v).apply s).rings = s.rings := rfl
@[simp] theorem Upd.hports_ev : ((Upd.hports k v).apply s).ev = s.ev := rfl
@[simp] theorem Upd.hports_slots : ((Upd.hports k v).apply s).slots = s.slots := rfl
@[simp] theorem Upd.hports_mbOrder : ((Upd.hports k v).apply s).mbOrder = s.mbOrder := rfl
@[simp] theorem Upd.hports_msgs : ((Upd.hports k v).apply s).msgs = s.msgs := rfl
@[simp] theorem Upd.hports_ports : ((Upd.hports k v).apply s).ports = s.ports := rfl
@[simp] theorem Upd.hports_pour : ((Upd.hports k v).apply s).pour = s.pour := rfl
@[simp] theorem Upd.hports_faults : ((Upd.hports k v).apply s).faults = s.faults := rfl
@[simp] theorem Upd.hports_pep : ((Upd.hports k v).apply s).pep = s.pep := rfl
@[simp] theorem Upd.hports_power : ((Upd.hports k v).apply s).power = s.power := rfl
@[simp] theorem Upd.hports_resp : ((Upd.hports k v).apply s).resp = s.resp := rfl
@[simp] theorem Upd.hports_dbg : ((Upd.hports k v).apply s).dbg = s.dbg := rfl
@[simp] theorem Upd.hports_pst : ((Upd.hports k v).apply s).pst = s.pst := rfl
@[simp] theorem Upd.hports_boot : ((Upd.hports k v).apply s).boot = s.boot := rfl
@[simp] theorem Upd.hports_saf : ((Upd.hports k v).apply s).saf = s.saf := rfl
@[simp] theorem Upd.hports_svc : ((Upd.hports k v).apply s).svc = s.svc := rfl
@[simp] theorem Upd.hports_freeCtr : ((Upd.hports k v).apply s).freeCtr = s.freeCtr := rfl
end

section
variable (lo hi : Nat)
@[simp] theorem Upd.hportsClear_flds : ((Upd.hportsClear lo hi).apply s).flds = s.flds := rfl
@[simp] theorem Upd.hportsClear_slag : ((Upd.hportsClear lo hi).apply s).slag = s.slag := rfl
@[simp] theorem Upd.hportsClear_seam : ((Upd.hportsClear lo hi).apply s).seam = s.seam := rfl
@[simp] theorem Upd.hportsClear_align : ((Upd.hportsClear lo hi).apply s).align = s.align := rfl
@[simp] theorem Upd.hportsClear_gclk : ((Upd.hportsClear lo hi).apply s).gclk = s.gclk := rfl
@[simp] theorem Upd.hportsClear_dec : ((Upd.hportsClear lo hi).apply s).dec = s.dec := rfl
@[simp] theorem Upd.hportsClear_ctl : ((Upd.hportsClear lo hi).apply s).ctl = s.ctl := rfl
@[simp] theorem Upd.hportsClear_cores : ((Upd.hportsClear lo hi).apply s).cores = s.cores := rfl
@[simp] theorem Upd.hportsClear_mes : ((Upd.hportsClear lo hi).apply s).mes = s.mes := rfl
@[simp] theorem Upd.hportsClear_ses : ((Upd.hportsClear lo hi).apply s).ses = s.ses := rfl
@[simp] theorem Upd.hportsClear_vus : ((Upd.hportsClear lo hi).apply s).vus = s.vus := rfl
@[simp] theorem Upd.hportsClear_spd : ((Upd.hportsClear lo hi).apply s).spd = s.spd := rfl
@[simp] theorem Upd.hportsClear_spdPoison : ((Upd.hportsClear lo hi).apply s).spdPoison = s.spdPoison := rfl
@[simp] theorem Upd.hportsClear_dram : ((Upd.hportsClear lo hi).apply s).dram = s.dram := rfl
@[simp] theorem Upd.hportsClear_dramPoison : ((Upd.hportsClear lo hi).apply s).dramPoison = s.dramPoison := rfl
@[simp] theorem Upd.hportsClear_dramWritten : ((Upd.hportsClear lo hi).apply s).dramWritten = s.dramWritten := rfl
@[simp] theorem Upd.hportsClear_caches : ((Upd.hportsClear lo hi).apply s).caches = s.caches := rfl
@[simp] theorem Upd.hportsClear_refreshOnly : ((Upd.hportsClear lo hi).apply s).refreshOnly = s.refreshOnly := rfl
@[simp] theorem Upd.hportsClear_refreshed : ((Upd.hportsClear lo hi).apply s).refreshed = s.refreshed := rfl
@[simp] theorem Upd.hportsClear_flasks : ((Upd.hportsClear lo hi).apply s).flasks = s.flasks := rfl
@[simp] theorem Upd.hportsClear_queues : ((Upd.hportsClear lo hi).apply s).queues = s.queues := rfl
@[simp] theorem Upd.hportsClear_ldls : ((Upd.hportsClear lo hi).apply s).ldls = s.ldls := rfl
@[simp] theorem Upd.hportsClear_msix : ((Upd.hportsClear lo hi).apply s).msix = s.msix := rfl
@[simp] theorem Upd.hportsClear_hostOut : ((Upd.hportsClear lo hi).apply s).hostOut = s.hostOut := rfl
@[simp] theorem Upd.hportsClear_rings : ((Upd.hportsClear lo hi).apply s).rings = s.rings := rfl
@[simp] theorem Upd.hportsClear_ev : ((Upd.hportsClear lo hi).apply s).ev = s.ev := rfl
@[simp] theorem Upd.hportsClear_slots : ((Upd.hportsClear lo hi).apply s).slots = s.slots := rfl
@[simp] theorem Upd.hportsClear_mbOrder : ((Upd.hportsClear lo hi).apply s).mbOrder = s.mbOrder := rfl
@[simp] theorem Upd.hportsClear_msgs : ((Upd.hportsClear lo hi).apply s).msgs = s.msgs := rfl
@[simp] theorem Upd.hportsClear_ports : ((Upd.hportsClear lo hi).apply s).ports = s.ports := rfl
@[simp] theorem Upd.hportsClear_pour : ((Upd.hportsClear lo hi).apply s).pour = s.pour := rfl
@[simp] theorem Upd.hportsClear_faults : ((Upd.hportsClear lo hi).apply s).faults = s.faults := rfl
@[simp] theorem Upd.hportsClear_pep : ((Upd.hportsClear lo hi).apply s).pep = s.pep := rfl
@[simp] theorem Upd.hportsClear_power : ((Upd.hportsClear lo hi).apply s).power = s.power := rfl
@[simp] theorem Upd.hportsClear_resp : ((Upd.hportsClear lo hi).apply s).resp = s.resp := rfl
@[simp] theorem Upd.hportsClear_dbg : ((Upd.hportsClear lo hi).apply s).dbg = s.dbg := rfl
@[simp] theorem Upd.hportsClear_pst : ((Upd.hportsClear lo hi).apply s).pst = s.pst := rfl
@[simp] theorem Upd.hportsClear_boot : ((Upd.hportsClear lo hi).apply s).boot = s.boot := rfl
@[simp] theorem Upd.hportsClear_saf : ((Upd.hportsClear lo hi).apply s).saf = s.saf := rfl
@[simp] theorem Upd.hportsClear_svc : ((Upd.hportsClear lo hi).apply s).svc = s.svc := rfl
@[simp] theorem Upd.hportsClear_freeCtr : ((Upd.hportsClear lo hi).apply s).freeCtr = s.freeCtr := rfl
end

section
variable (x : HostWr)
@[simp] theorem Upd.hostOut_flds : ((Upd.hostOut x).apply s).flds = s.flds := rfl
@[simp] theorem Upd.hostOut_slag : ((Upd.hostOut x).apply s).slag = s.slag := rfl
@[simp] theorem Upd.hostOut_seam : ((Upd.hostOut x).apply s).seam = s.seam := rfl
@[simp] theorem Upd.hostOut_align : ((Upd.hostOut x).apply s).align = s.align := rfl
@[simp] theorem Upd.hostOut_gclk : ((Upd.hostOut x).apply s).gclk = s.gclk := rfl
@[simp] theorem Upd.hostOut_dec : ((Upd.hostOut x).apply s).dec = s.dec := rfl
@[simp] theorem Upd.hostOut_ctl : ((Upd.hostOut x).apply s).ctl = s.ctl := rfl
@[simp] theorem Upd.hostOut_cores : ((Upd.hostOut x).apply s).cores = s.cores := rfl
@[simp] theorem Upd.hostOut_mes : ((Upd.hostOut x).apply s).mes = s.mes := rfl
@[simp] theorem Upd.hostOut_ses : ((Upd.hostOut x).apply s).ses = s.ses := rfl
@[simp] theorem Upd.hostOut_vus : ((Upd.hostOut x).apply s).vus = s.vus := rfl
@[simp] theorem Upd.hostOut_spd : ((Upd.hostOut x).apply s).spd = s.spd := rfl
@[simp] theorem Upd.hostOut_spdPoison : ((Upd.hostOut x).apply s).spdPoison = s.spdPoison := rfl
@[simp] theorem Upd.hostOut_dram : ((Upd.hostOut x).apply s).dram = s.dram := rfl
@[simp] theorem Upd.hostOut_dramPoison : ((Upd.hostOut x).apply s).dramPoison = s.dramPoison := rfl
@[simp] theorem Upd.hostOut_dramWritten : ((Upd.hostOut x).apply s).dramWritten = s.dramWritten := rfl
@[simp] theorem Upd.hostOut_caches : ((Upd.hostOut x).apply s).caches = s.caches := rfl
@[simp] theorem Upd.hostOut_refreshOnly : ((Upd.hostOut x).apply s).refreshOnly = s.refreshOnly := rfl
@[simp] theorem Upd.hostOut_refreshed : ((Upd.hostOut x).apply s).refreshed = s.refreshed := rfl
@[simp] theorem Upd.hostOut_flasks : ((Upd.hostOut x).apply s).flasks = s.flasks := rfl
@[simp] theorem Upd.hostOut_queues : ((Upd.hostOut x).apply s).queues = s.queues := rfl
@[simp] theorem Upd.hostOut_ldls : ((Upd.hostOut x).apply s).ldls = s.ldls := rfl
@[simp] theorem Upd.hostOut_msix : ((Upd.hostOut x).apply s).msix = s.msix := rfl
@[simp] theorem Upd.hostOut_hports : ((Upd.hostOut x).apply s).hports = s.hports := rfl
@[simp] theorem Upd.hostOut_rings : ((Upd.hostOut x).apply s).rings = s.rings := rfl
@[simp] theorem Upd.hostOut_ev : ((Upd.hostOut x).apply s).ev = s.ev := rfl
@[simp] theorem Upd.hostOut_slots : ((Upd.hostOut x).apply s).slots = s.slots := rfl
@[simp] theorem Upd.hostOut_mbOrder : ((Upd.hostOut x).apply s).mbOrder = s.mbOrder := rfl
@[simp] theorem Upd.hostOut_msgs : ((Upd.hostOut x).apply s).msgs = s.msgs := rfl
@[simp] theorem Upd.hostOut_ports : ((Upd.hostOut x).apply s).ports = s.ports := rfl
@[simp] theorem Upd.hostOut_pour : ((Upd.hostOut x).apply s).pour = s.pour := rfl
@[simp] theorem Upd.hostOut_faults : ((Upd.hostOut x).apply s).faults = s.faults := rfl
@[simp] theorem Upd.hostOut_pep : ((Upd.hostOut x).apply s).pep = s.pep := rfl
@[simp] theorem Upd.hostOut_power : ((Upd.hostOut x).apply s).power = s.power := rfl
@[simp] theorem Upd.hostOut_resp : ((Upd.hostOut x).apply s).resp = s.resp := rfl
@[simp] theorem Upd.hostOut_dbg : ((Upd.hostOut x).apply s).dbg = s.dbg := rfl
@[simp] theorem Upd.hostOut_pst : ((Upd.hostOut x).apply s).pst = s.pst := rfl
@[simp] theorem Upd.hostOut_boot : ((Upd.hostOut x).apply s).boot = s.boot := rfl
@[simp] theorem Upd.hostOut_saf : ((Upd.hostOut x).apply s).saf = s.saf := rfl
@[simp] theorem Upd.hostOut_svc : ((Upd.hostOut x).apply s).svc = s.svc := rfl
@[simp] theorem Upd.hostOut_freeCtr : ((Upd.hostOut x).apply s).freeCtr = s.freeCtr := rfl
end

section
variable (k : Nat) (v : RingSt)
@[simp] theorem Upd.rings_flds : ((Upd.rings k v).apply s).flds = s.flds := rfl
@[simp] theorem Upd.rings_slag : ((Upd.rings k v).apply s).slag = s.slag := rfl
@[simp] theorem Upd.rings_seam : ((Upd.rings k v).apply s).seam = s.seam := rfl
@[simp] theorem Upd.rings_align : ((Upd.rings k v).apply s).align = s.align := rfl
@[simp] theorem Upd.rings_gclk : ((Upd.rings k v).apply s).gclk = s.gclk := rfl
@[simp] theorem Upd.rings_dec : ((Upd.rings k v).apply s).dec = s.dec := rfl
@[simp] theorem Upd.rings_ctl : ((Upd.rings k v).apply s).ctl = s.ctl := rfl
@[simp] theorem Upd.rings_cores : ((Upd.rings k v).apply s).cores = s.cores := rfl
@[simp] theorem Upd.rings_mes : ((Upd.rings k v).apply s).mes = s.mes := rfl
@[simp] theorem Upd.rings_ses : ((Upd.rings k v).apply s).ses = s.ses := rfl
@[simp] theorem Upd.rings_vus : ((Upd.rings k v).apply s).vus = s.vus := rfl
@[simp] theorem Upd.rings_spd : ((Upd.rings k v).apply s).spd = s.spd := rfl
@[simp] theorem Upd.rings_spdPoison : ((Upd.rings k v).apply s).spdPoison = s.spdPoison := rfl
@[simp] theorem Upd.rings_dram : ((Upd.rings k v).apply s).dram = s.dram := rfl
@[simp] theorem Upd.rings_dramPoison : ((Upd.rings k v).apply s).dramPoison = s.dramPoison := rfl
@[simp] theorem Upd.rings_dramWritten : ((Upd.rings k v).apply s).dramWritten = s.dramWritten := rfl
@[simp] theorem Upd.rings_caches : ((Upd.rings k v).apply s).caches = s.caches := rfl
@[simp] theorem Upd.rings_refreshOnly : ((Upd.rings k v).apply s).refreshOnly = s.refreshOnly := rfl
@[simp] theorem Upd.rings_refreshed : ((Upd.rings k v).apply s).refreshed = s.refreshed := rfl
@[simp] theorem Upd.rings_flasks : ((Upd.rings k v).apply s).flasks = s.flasks := rfl
@[simp] theorem Upd.rings_queues : ((Upd.rings k v).apply s).queues = s.queues := rfl
@[simp] theorem Upd.rings_ldls : ((Upd.rings k v).apply s).ldls = s.ldls := rfl
@[simp] theorem Upd.rings_msix : ((Upd.rings k v).apply s).msix = s.msix := rfl
@[simp] theorem Upd.rings_hports : ((Upd.rings k v).apply s).hports = s.hports := rfl
@[simp] theorem Upd.rings_hostOut : ((Upd.rings k v).apply s).hostOut = s.hostOut := rfl
@[simp] theorem Upd.rings_ev : ((Upd.rings k v).apply s).ev = s.ev := rfl
@[simp] theorem Upd.rings_slots : ((Upd.rings k v).apply s).slots = s.slots := rfl
@[simp] theorem Upd.rings_mbOrder : ((Upd.rings k v).apply s).mbOrder = s.mbOrder := rfl
@[simp] theorem Upd.rings_msgs : ((Upd.rings k v).apply s).msgs = s.msgs := rfl
@[simp] theorem Upd.rings_ports : ((Upd.rings k v).apply s).ports = s.ports := rfl
@[simp] theorem Upd.rings_pour : ((Upd.rings k v).apply s).pour = s.pour := rfl
@[simp] theorem Upd.rings_faults : ((Upd.rings k v).apply s).faults = s.faults := rfl
@[simp] theorem Upd.rings_pep : ((Upd.rings k v).apply s).pep = s.pep := rfl
@[simp] theorem Upd.rings_power : ((Upd.rings k v).apply s).power = s.power := rfl
@[simp] theorem Upd.rings_resp : ((Upd.rings k v).apply s).resp = s.resp := rfl
@[simp] theorem Upd.rings_dbg : ((Upd.rings k v).apply s).dbg = s.dbg := rfl
@[simp] theorem Upd.rings_pst : ((Upd.rings k v).apply s).pst = s.pst := rfl
@[simp] theorem Upd.rings_boot : ((Upd.rings k v).apply s).boot = s.boot := rfl
@[simp] theorem Upd.rings_saf : ((Upd.rings k v).apply s).saf = s.saf := rfl
@[simp] theorem Upd.rings_svc : ((Upd.rings k v).apply s).svc = s.svc := rfl
@[simp] theorem Upd.rings_freeCtr : ((Upd.rings k v).apply s).freeCtr = s.freeCtr := rfl
end

section
variable (lo hi : Nat)
@[simp] theorem Upd.ringsClear_flds : ((Upd.ringsClear lo hi).apply s).flds = s.flds := rfl
@[simp] theorem Upd.ringsClear_slag : ((Upd.ringsClear lo hi).apply s).slag = s.slag := rfl
@[simp] theorem Upd.ringsClear_seam : ((Upd.ringsClear lo hi).apply s).seam = s.seam := rfl
@[simp] theorem Upd.ringsClear_align : ((Upd.ringsClear lo hi).apply s).align = s.align := rfl
@[simp] theorem Upd.ringsClear_gclk : ((Upd.ringsClear lo hi).apply s).gclk = s.gclk := rfl
@[simp] theorem Upd.ringsClear_dec : ((Upd.ringsClear lo hi).apply s).dec = s.dec := rfl
@[simp] theorem Upd.ringsClear_ctl : ((Upd.ringsClear lo hi).apply s).ctl = s.ctl := rfl
@[simp] theorem Upd.ringsClear_cores : ((Upd.ringsClear lo hi).apply s).cores = s.cores := rfl
@[simp] theorem Upd.ringsClear_mes : ((Upd.ringsClear lo hi).apply s).mes = s.mes := rfl
@[simp] theorem Upd.ringsClear_ses : ((Upd.ringsClear lo hi).apply s).ses = s.ses := rfl
@[simp] theorem Upd.ringsClear_vus : ((Upd.ringsClear lo hi).apply s).vus = s.vus := rfl
@[simp] theorem Upd.ringsClear_spd : ((Upd.ringsClear lo hi).apply s).spd = s.spd := rfl
@[simp] theorem Upd.ringsClear_spdPoison : ((Upd.ringsClear lo hi).apply s).spdPoison = s.spdPoison := rfl
@[simp] theorem Upd.ringsClear_dram : ((Upd.ringsClear lo hi).apply s).dram = s.dram := rfl
@[simp] theorem Upd.ringsClear_dramPoison : ((Upd.ringsClear lo hi).apply s).dramPoison = s.dramPoison := rfl
@[simp] theorem Upd.ringsClear_dramWritten : ((Upd.ringsClear lo hi).apply s).dramWritten = s.dramWritten := rfl
@[simp] theorem Upd.ringsClear_caches : ((Upd.ringsClear lo hi).apply s).caches = s.caches := rfl
@[simp] theorem Upd.ringsClear_refreshOnly : ((Upd.ringsClear lo hi).apply s).refreshOnly = s.refreshOnly := rfl
@[simp] theorem Upd.ringsClear_refreshed : ((Upd.ringsClear lo hi).apply s).refreshed = s.refreshed := rfl
@[simp] theorem Upd.ringsClear_flasks : ((Upd.ringsClear lo hi).apply s).flasks = s.flasks := rfl
@[simp] theorem Upd.ringsClear_queues : ((Upd.ringsClear lo hi).apply s).queues = s.queues := rfl
@[simp] theorem Upd.ringsClear_ldls : ((Upd.ringsClear lo hi).apply s).ldls = s.ldls := rfl
@[simp] theorem Upd.ringsClear_msix : ((Upd.ringsClear lo hi).apply s).msix = s.msix := rfl
@[simp] theorem Upd.ringsClear_hports : ((Upd.ringsClear lo hi).apply s).hports = s.hports := rfl
@[simp] theorem Upd.ringsClear_hostOut : ((Upd.ringsClear lo hi).apply s).hostOut = s.hostOut := rfl
@[simp] theorem Upd.ringsClear_ev : ((Upd.ringsClear lo hi).apply s).ev = s.ev := rfl
@[simp] theorem Upd.ringsClear_slots : ((Upd.ringsClear lo hi).apply s).slots = s.slots := rfl
@[simp] theorem Upd.ringsClear_mbOrder : ((Upd.ringsClear lo hi).apply s).mbOrder = s.mbOrder := rfl
@[simp] theorem Upd.ringsClear_msgs : ((Upd.ringsClear lo hi).apply s).msgs = s.msgs := rfl
@[simp] theorem Upd.ringsClear_ports : ((Upd.ringsClear lo hi).apply s).ports = s.ports := rfl
@[simp] theorem Upd.ringsClear_pour : ((Upd.ringsClear lo hi).apply s).pour = s.pour := rfl
@[simp] theorem Upd.ringsClear_faults : ((Upd.ringsClear lo hi).apply s).faults = s.faults := rfl
@[simp] theorem Upd.ringsClear_pep : ((Upd.ringsClear lo hi).apply s).pep = s.pep := rfl
@[simp] theorem Upd.ringsClear_power : ((Upd.ringsClear lo hi).apply s).power = s.power := rfl
@[simp] theorem Upd.ringsClear_resp : ((Upd.ringsClear lo hi).apply s).resp = s.resp := rfl
@[simp] theorem Upd.ringsClear_dbg : ((Upd.ringsClear lo hi).apply s).dbg = s.dbg := rfl
@[simp] theorem Upd.ringsClear_pst : ((Upd.ringsClear lo hi).apply s).pst = s.pst := rfl
@[simp] theorem Upd.ringsClear_boot : ((Upd.ringsClear lo hi).apply s).boot = s.boot := rfl
@[simp] theorem Upd.ringsClear_saf : ((Upd.ringsClear lo hi).apply s).saf = s.saf := rfl
@[simp] theorem Upd.ringsClear_svc : ((Upd.ringsClear lo hi).apply s).svc = s.svc := rfl
@[simp] theorem Upd.ringsClear_freeCtr : ((Upd.ringsClear lo hi).apply s).freeCtr = s.freeCtr := rfl
end

section
variable (v : EventSt)
@[simp] theorem Upd.ev_flds : ((Upd.ev v).apply s).flds = s.flds := rfl
@[simp] theorem Upd.ev_slag : ((Upd.ev v).apply s).slag = s.slag := rfl
@[simp] theorem Upd.ev_seam : ((Upd.ev v).apply s).seam = s.seam := rfl
@[simp] theorem Upd.ev_align : ((Upd.ev v).apply s).align = s.align := rfl
@[simp] theorem Upd.ev_gclk : ((Upd.ev v).apply s).gclk = s.gclk := rfl
@[simp] theorem Upd.ev_dec : ((Upd.ev v).apply s).dec = s.dec := rfl
@[simp] theorem Upd.ev_ctl : ((Upd.ev v).apply s).ctl = s.ctl := rfl
@[simp] theorem Upd.ev_cores : ((Upd.ev v).apply s).cores = s.cores := rfl
@[simp] theorem Upd.ev_mes : ((Upd.ev v).apply s).mes = s.mes := rfl
@[simp] theorem Upd.ev_ses : ((Upd.ev v).apply s).ses = s.ses := rfl
@[simp] theorem Upd.ev_vus : ((Upd.ev v).apply s).vus = s.vus := rfl
@[simp] theorem Upd.ev_spd : ((Upd.ev v).apply s).spd = s.spd := rfl
@[simp] theorem Upd.ev_spdPoison : ((Upd.ev v).apply s).spdPoison = s.spdPoison := rfl
@[simp] theorem Upd.ev_dram : ((Upd.ev v).apply s).dram = s.dram := rfl
@[simp] theorem Upd.ev_dramPoison : ((Upd.ev v).apply s).dramPoison = s.dramPoison := rfl
@[simp] theorem Upd.ev_dramWritten : ((Upd.ev v).apply s).dramWritten = s.dramWritten := rfl
@[simp] theorem Upd.ev_caches : ((Upd.ev v).apply s).caches = s.caches := rfl
@[simp] theorem Upd.ev_refreshOnly : ((Upd.ev v).apply s).refreshOnly = s.refreshOnly := rfl
@[simp] theorem Upd.ev_refreshed : ((Upd.ev v).apply s).refreshed = s.refreshed := rfl
@[simp] theorem Upd.ev_flasks : ((Upd.ev v).apply s).flasks = s.flasks := rfl
@[simp] theorem Upd.ev_queues : ((Upd.ev v).apply s).queues = s.queues := rfl
@[simp] theorem Upd.ev_ldls : ((Upd.ev v).apply s).ldls = s.ldls := rfl
@[simp] theorem Upd.ev_msix : ((Upd.ev v).apply s).msix = s.msix := rfl
@[simp] theorem Upd.ev_hports : ((Upd.ev v).apply s).hports = s.hports := rfl
@[simp] theorem Upd.ev_hostOut : ((Upd.ev v).apply s).hostOut = s.hostOut := rfl
@[simp] theorem Upd.ev_rings : ((Upd.ev v).apply s).rings = s.rings := rfl
@[simp] theorem Upd.ev_slots : ((Upd.ev v).apply s).slots = s.slots := rfl
@[simp] theorem Upd.ev_mbOrder : ((Upd.ev v).apply s).mbOrder = s.mbOrder := rfl
@[simp] theorem Upd.ev_msgs : ((Upd.ev v).apply s).msgs = s.msgs := rfl
@[simp] theorem Upd.ev_ports : ((Upd.ev v).apply s).ports = s.ports := rfl
@[simp] theorem Upd.ev_pour : ((Upd.ev v).apply s).pour = s.pour := rfl
@[simp] theorem Upd.ev_faults : ((Upd.ev v).apply s).faults = s.faults := rfl
@[simp] theorem Upd.ev_pep : ((Upd.ev v).apply s).pep = s.pep := rfl
@[simp] theorem Upd.ev_power : ((Upd.ev v).apply s).power = s.power := rfl
@[simp] theorem Upd.ev_resp : ((Upd.ev v).apply s).resp = s.resp := rfl
@[simp] theorem Upd.ev_dbg : ((Upd.ev v).apply s).dbg = s.dbg := rfl
@[simp] theorem Upd.ev_pst : ((Upd.ev v).apply s).pst = s.pst := rfl
@[simp] theorem Upd.ev_boot : ((Upd.ev v).apply s).boot = s.boot := rfl
@[simp] theorem Upd.ev_saf : ((Upd.ev v).apply s).saf = s.saf := rfl
@[simp] theorem Upd.ev_svc : ((Upd.ev v).apply s).svc = s.svc := rfl
@[simp] theorem Upd.ev_freeCtr : ((Upd.ev v).apply s).freeCtr = s.freeCtr := rfl
end

section
variable (k : Nat) (v : MbSlot)
@[simp] theorem Upd.slots_flds : ((Upd.slots k v).apply s).flds = s.flds := rfl
@[simp] theorem Upd.slots_slag : ((Upd.slots k v).apply s).slag = s.slag := rfl
@[simp] theorem Upd.slots_seam : ((Upd.slots k v).apply s).seam = s.seam := rfl
@[simp] theorem Upd.slots_align : ((Upd.slots k v).apply s).align = s.align := rfl
@[simp] theorem Upd.slots_gclk : ((Upd.slots k v).apply s).gclk = s.gclk := rfl
@[simp] theorem Upd.slots_dec : ((Upd.slots k v).apply s).dec = s.dec := rfl
@[simp] theorem Upd.slots_ctl : ((Upd.slots k v).apply s).ctl = s.ctl := rfl
@[simp] theorem Upd.slots_cores : ((Upd.slots k v).apply s).cores = s.cores := rfl
@[simp] theorem Upd.slots_mes : ((Upd.slots k v).apply s).mes = s.mes := rfl
@[simp] theorem Upd.slots_ses : ((Upd.slots k v).apply s).ses = s.ses := rfl
@[simp] theorem Upd.slots_vus : ((Upd.slots k v).apply s).vus = s.vus := rfl
@[simp] theorem Upd.slots_spd : ((Upd.slots k v).apply s).spd = s.spd := rfl
@[simp] theorem Upd.slots_spdPoison : ((Upd.slots k v).apply s).spdPoison = s.spdPoison := rfl
@[simp] theorem Upd.slots_dram : ((Upd.slots k v).apply s).dram = s.dram := rfl
@[simp] theorem Upd.slots_dramPoison : ((Upd.slots k v).apply s).dramPoison = s.dramPoison := rfl
@[simp] theorem Upd.slots_dramWritten : ((Upd.slots k v).apply s).dramWritten = s.dramWritten := rfl
@[simp] theorem Upd.slots_caches : ((Upd.slots k v).apply s).caches = s.caches := rfl
@[simp] theorem Upd.slots_refreshOnly : ((Upd.slots k v).apply s).refreshOnly = s.refreshOnly := rfl
@[simp] theorem Upd.slots_refreshed : ((Upd.slots k v).apply s).refreshed = s.refreshed := rfl
@[simp] theorem Upd.slots_flasks : ((Upd.slots k v).apply s).flasks = s.flasks := rfl
@[simp] theorem Upd.slots_queues : ((Upd.slots k v).apply s).queues = s.queues := rfl
@[simp] theorem Upd.slots_ldls : ((Upd.slots k v).apply s).ldls = s.ldls := rfl
@[simp] theorem Upd.slots_msix : ((Upd.slots k v).apply s).msix = s.msix := rfl
@[simp] theorem Upd.slots_hports : ((Upd.slots k v).apply s).hports = s.hports := rfl
@[simp] theorem Upd.slots_hostOut : ((Upd.slots k v).apply s).hostOut = s.hostOut := rfl
@[simp] theorem Upd.slots_rings : ((Upd.slots k v).apply s).rings = s.rings := rfl
@[simp] theorem Upd.slots_ev : ((Upd.slots k v).apply s).ev = s.ev := rfl
@[simp] theorem Upd.slots_mbOrder : ((Upd.slots k v).apply s).mbOrder = s.mbOrder := rfl
@[simp] theorem Upd.slots_msgs : ((Upd.slots k v).apply s).msgs = s.msgs := rfl
@[simp] theorem Upd.slots_ports : ((Upd.slots k v).apply s).ports = s.ports := rfl
@[simp] theorem Upd.slots_pour : ((Upd.slots k v).apply s).pour = s.pour := rfl
@[simp] theorem Upd.slots_faults : ((Upd.slots k v).apply s).faults = s.faults := rfl
@[simp] theorem Upd.slots_pep : ((Upd.slots k v).apply s).pep = s.pep := rfl
@[simp] theorem Upd.slots_power : ((Upd.slots k v).apply s).power = s.power := rfl
@[simp] theorem Upd.slots_resp : ((Upd.slots k v).apply s).resp = s.resp := rfl
@[simp] theorem Upd.slots_dbg : ((Upd.slots k v).apply s).dbg = s.dbg := rfl
@[simp] theorem Upd.slots_pst : ((Upd.slots k v).apply s).pst = s.pst := rfl
@[simp] theorem Upd.slots_boot : ((Upd.slots k v).apply s).boot = s.boot := rfl
@[simp] theorem Upd.slots_saf : ((Upd.slots k v).apply s).saf = s.saf := rfl
@[simp] theorem Upd.slots_svc : ((Upd.slots k v).apply s).svc = s.svc := rfl
@[simp] theorem Upd.slots_freeCtr : ((Upd.slots k v).apply s).freeCtr = s.freeCtr := rfl
end

section
variable (lo hi : Nat)
@[simp] theorem Upd.slotsClear_flds : ((Upd.slotsClear lo hi).apply s).flds = s.flds := rfl
@[simp] theorem Upd.slotsClear_slag : ((Upd.slotsClear lo hi).apply s).slag = s.slag := rfl
@[simp] theorem Upd.slotsClear_seam : ((Upd.slotsClear lo hi).apply s).seam = s.seam := rfl
@[simp] theorem Upd.slotsClear_align : ((Upd.slotsClear lo hi).apply s).align = s.align := rfl
@[simp] theorem Upd.slotsClear_gclk : ((Upd.slotsClear lo hi).apply s).gclk = s.gclk := rfl
@[simp] theorem Upd.slotsClear_dec : ((Upd.slotsClear lo hi).apply s).dec = s.dec := rfl
@[simp] theorem Upd.slotsClear_ctl : ((Upd.slotsClear lo hi).apply s).ctl = s.ctl := rfl
@[simp] theorem Upd.slotsClear_cores : ((Upd.slotsClear lo hi).apply s).cores = s.cores := rfl
@[simp] theorem Upd.slotsClear_mes : ((Upd.slotsClear lo hi).apply s).mes = s.mes := rfl
@[simp] theorem Upd.slotsClear_ses : ((Upd.slotsClear lo hi).apply s).ses = s.ses := rfl
@[simp] theorem Upd.slotsClear_vus : ((Upd.slotsClear lo hi).apply s).vus = s.vus := rfl
@[simp] theorem Upd.slotsClear_spd : ((Upd.slotsClear lo hi).apply s).spd = s.spd := rfl
@[simp] theorem Upd.slotsClear_spdPoison : ((Upd.slotsClear lo hi).apply s).spdPoison = s.spdPoison := rfl
@[simp] theorem Upd.slotsClear_dram : ((Upd.slotsClear lo hi).apply s).dram = s.dram := rfl
@[simp] theorem Upd.slotsClear_dramPoison : ((Upd.slotsClear lo hi).apply s).dramPoison = s.dramPoison := rfl
@[simp] theorem Upd.slotsClear_dramWritten : ((Upd.slotsClear lo hi).apply s).dramWritten = s.dramWritten := rfl
@[simp] theorem Upd.slotsClear_caches : ((Upd.slotsClear lo hi).apply s).caches = s.caches := rfl
@[simp] theorem Upd.slotsClear_refreshOnly : ((Upd.slotsClear lo hi).apply s).refreshOnly = s.refreshOnly := rfl
@[simp] theorem Upd.slotsClear_refreshed : ((Upd.slotsClear lo hi).apply s).refreshed = s.refreshed := rfl
@[simp] theorem Upd.slotsClear_flasks : ((Upd.slotsClear lo hi).apply s).flasks = s.flasks := rfl
@[simp] theorem Upd.slotsClear_queues : ((Upd.slotsClear lo hi).apply s).queues = s.queues := rfl
@[simp] theorem Upd.slotsClear_ldls : ((Upd.slotsClear lo hi).apply s).ldls = s.ldls := rfl
@[simp] theorem Upd.slotsClear_msix : ((Upd.slotsClear lo hi).apply s).msix = s.msix := rfl
@[simp] theorem Upd.slotsClear_hports : ((Upd.slotsClear lo hi).apply s).hports = s.hports := rfl
@[simp] theorem Upd.slotsClear_hostOut : ((Upd.slotsClear lo hi).apply s).hostOut = s.hostOut := rfl
@[simp] theorem Upd.slotsClear_rings : ((Upd.slotsClear lo hi).apply s).rings = s.rings := rfl
@[simp] theorem Upd.slotsClear_ev : ((Upd.slotsClear lo hi).apply s).ev = s.ev := rfl
@[simp] theorem Upd.slotsClear_mbOrder : ((Upd.slotsClear lo hi).apply s).mbOrder = s.mbOrder := rfl
@[simp] theorem Upd.slotsClear_msgs : ((Upd.slotsClear lo hi).apply s).msgs = s.msgs := rfl
@[simp] theorem Upd.slotsClear_ports : ((Upd.slotsClear lo hi).apply s).ports = s.ports := rfl
@[simp] theorem Upd.slotsClear_pour : ((Upd.slotsClear lo hi).apply s).pour = s.pour := rfl
@[simp] theorem Upd.slotsClear_faults : ((Upd.slotsClear lo hi).apply s).faults = s.faults := rfl
@[simp] theorem Upd.slotsClear_pep : ((Upd.slotsClear lo hi).apply s).pep = s.pep := rfl
@[simp] theorem Upd.slotsClear_power : ((Upd.slotsClear lo hi).apply s).power = s.power := rfl
@[simp] theorem Upd.slotsClear_resp : ((Upd.slotsClear lo hi).apply s).resp = s.resp := rfl
@[simp] theorem Upd.slotsClear_dbg : ((Upd.slotsClear lo hi).apply s).dbg = s.dbg := rfl
@[simp] theorem Upd.slotsClear_pst : ((Upd.slotsClear lo hi).apply s).pst = s.pst := rfl
@[simp] theorem Upd.slotsClear_boot : ((Upd.slotsClear lo hi).apply s).boot = s.boot := rfl
@[simp] theorem Upd.slotsClear_saf : ((Upd.slotsClear lo hi).apply s).saf = s.saf := rfl
@[simp] theorem Upd.slotsClear_svc : ((Upd.slotsClear lo hi).apply s).svc = s.svc := rfl
@[simp] theorem Upd.slotsClear_freeCtr : ((Upd.slotsClear lo hi).apply s).freeCtr = s.freeCtr := rfl
end

section
variable (v : Nat)
@[simp] theorem Upd.mbOrder_flds : ((Upd.mbOrder v).apply s).flds = s.flds := rfl
@[simp] theorem Upd.mbOrder_slag : ((Upd.mbOrder v).apply s).slag = s.slag := rfl
@[simp] theorem Upd.mbOrder_seam : ((Upd.mbOrder v).apply s).seam = s.seam := rfl
@[simp] theorem Upd.mbOrder_align : ((Upd.mbOrder v).apply s).align = s.align := rfl
@[simp] theorem Upd.mbOrder_gclk : ((Upd.mbOrder v).apply s).gclk = s.gclk := rfl
@[simp] theorem Upd.mbOrder_dec : ((Upd.mbOrder v).apply s).dec = s.dec := rfl
@[simp] theorem Upd.mbOrder_ctl : ((Upd.mbOrder v).apply s).ctl = s.ctl := rfl
@[simp] theorem Upd.mbOrder_cores : ((Upd.mbOrder v).apply s).cores = s.cores := rfl
@[simp] theorem Upd.mbOrder_mes : ((Upd.mbOrder v).apply s).mes = s.mes := rfl
@[simp] theorem Upd.mbOrder_ses : ((Upd.mbOrder v).apply s).ses = s.ses := rfl
@[simp] theorem Upd.mbOrder_vus : ((Upd.mbOrder v).apply s).vus = s.vus := rfl
@[simp] theorem Upd.mbOrder_spd : ((Upd.mbOrder v).apply s).spd = s.spd := rfl
@[simp] theorem Upd.mbOrder_spdPoison : ((Upd.mbOrder v).apply s).spdPoison = s.spdPoison := rfl
@[simp] theorem Upd.mbOrder_dram : ((Upd.mbOrder v).apply s).dram = s.dram := rfl
@[simp] theorem Upd.mbOrder_dramPoison : ((Upd.mbOrder v).apply s).dramPoison = s.dramPoison := rfl
@[simp] theorem Upd.mbOrder_dramWritten : ((Upd.mbOrder v).apply s).dramWritten = s.dramWritten := rfl
@[simp] theorem Upd.mbOrder_caches : ((Upd.mbOrder v).apply s).caches = s.caches := rfl
@[simp] theorem Upd.mbOrder_refreshOnly : ((Upd.mbOrder v).apply s).refreshOnly = s.refreshOnly := rfl
@[simp] theorem Upd.mbOrder_refreshed : ((Upd.mbOrder v).apply s).refreshed = s.refreshed := rfl
@[simp] theorem Upd.mbOrder_flasks : ((Upd.mbOrder v).apply s).flasks = s.flasks := rfl
@[simp] theorem Upd.mbOrder_queues : ((Upd.mbOrder v).apply s).queues = s.queues := rfl
@[simp] theorem Upd.mbOrder_ldls : ((Upd.mbOrder v).apply s).ldls = s.ldls := rfl
@[simp] theorem Upd.mbOrder_msix : ((Upd.mbOrder v).apply s).msix = s.msix := rfl
@[simp] theorem Upd.mbOrder_hports : ((Upd.mbOrder v).apply s).hports = s.hports := rfl
@[simp] theorem Upd.mbOrder_hostOut : ((Upd.mbOrder v).apply s).hostOut = s.hostOut := rfl
@[simp] theorem Upd.mbOrder_rings : ((Upd.mbOrder v).apply s).rings = s.rings := rfl
@[simp] theorem Upd.mbOrder_ev : ((Upd.mbOrder v).apply s).ev = s.ev := rfl
@[simp] theorem Upd.mbOrder_slots : ((Upd.mbOrder v).apply s).slots = s.slots := rfl
@[simp] theorem Upd.mbOrder_msgs : ((Upd.mbOrder v).apply s).msgs = s.msgs := rfl
@[simp] theorem Upd.mbOrder_ports : ((Upd.mbOrder v).apply s).ports = s.ports := rfl
@[simp] theorem Upd.mbOrder_pour : ((Upd.mbOrder v).apply s).pour = s.pour := rfl
@[simp] theorem Upd.mbOrder_faults : ((Upd.mbOrder v).apply s).faults = s.faults := rfl
@[simp] theorem Upd.mbOrder_pep : ((Upd.mbOrder v).apply s).pep = s.pep := rfl
@[simp] theorem Upd.mbOrder_power : ((Upd.mbOrder v).apply s).power = s.power := rfl
@[simp] theorem Upd.mbOrder_resp : ((Upd.mbOrder v).apply s).resp = s.resp := rfl
@[simp] theorem Upd.mbOrder_dbg : ((Upd.mbOrder v).apply s).dbg = s.dbg := rfl
@[simp] theorem Upd.mbOrder_pst : ((Upd.mbOrder v).apply s).pst = s.pst := rfl
@[simp] theorem Upd.mbOrder_boot : ((Upd.mbOrder v).apply s).boot = s.boot := rfl
@[simp] theorem Upd.mbOrder_saf : ((Upd.mbOrder v).apply s).saf = s.saf := rfl
@[simp] theorem Upd.mbOrder_svc : ((Upd.mbOrder v).apply s).svc = s.svc := rfl
@[simp] theorem Upd.mbOrder_freeCtr : ((Upd.mbOrder v).apply s).freeCtr = s.freeCtr := rfl
end

section
variable (x : OutMsg)
@[simp] theorem Upd.msgs_flds : ((Upd.msgs x).apply s).flds = s.flds := rfl
@[simp] theorem Upd.msgs_slag : ((Upd.msgs x).apply s).slag = s.slag := rfl
@[simp] theorem Upd.msgs_seam : ((Upd.msgs x).apply s).seam = s.seam := rfl
@[simp] theorem Upd.msgs_align : ((Upd.msgs x).apply s).align = s.align := rfl
@[simp] theorem Upd.msgs_gclk : ((Upd.msgs x).apply s).gclk = s.gclk := rfl
@[simp] theorem Upd.msgs_dec : ((Upd.msgs x).apply s).dec = s.dec := rfl
@[simp] theorem Upd.msgs_ctl : ((Upd.msgs x).apply s).ctl = s.ctl := rfl
@[simp] theorem Upd.msgs_cores : ((Upd.msgs x).apply s).cores = s.cores := rfl
@[simp] theorem Upd.msgs_mes : ((Upd.msgs x).apply s).mes = s.mes := rfl
@[simp] theorem Upd.msgs_ses : ((Upd.msgs x).apply s).ses = s.ses := rfl
@[simp] theorem Upd.msgs_vus : ((Upd.msgs x).apply s).vus = s.vus := rfl
@[simp] theorem Upd.msgs_spd : ((Upd.msgs x).apply s).spd = s.spd := rfl
@[simp] theorem Upd.msgs_spdPoison : ((Upd.msgs x).apply s).spdPoison = s.spdPoison := rfl
@[simp] theorem Upd.msgs_dram : ((Upd.msgs x).apply s).dram = s.dram := rfl
@[simp] theorem Upd.msgs_dramPoison : ((Upd.msgs x).apply s).dramPoison = s.dramPoison := rfl
@[simp] theorem Upd.msgs_dramWritten : ((Upd.msgs x).apply s).dramWritten = s.dramWritten := rfl
@[simp] theorem Upd.msgs_caches : ((Upd.msgs x).apply s).caches = s.caches := rfl
@[simp] theorem Upd.msgs_refreshOnly : ((Upd.msgs x).apply s).refreshOnly = s.refreshOnly := rfl
@[simp] theorem Upd.msgs_refreshed : ((Upd.msgs x).apply s).refreshed = s.refreshed := rfl
@[simp] theorem Upd.msgs_flasks : ((Upd.msgs x).apply s).flasks = s.flasks := rfl
@[simp] theorem Upd.msgs_queues : ((Upd.msgs x).apply s).queues = s.queues := rfl
@[simp] theorem Upd.msgs_ldls : ((Upd.msgs x).apply s).ldls = s.ldls := rfl
@[simp] theorem Upd.msgs_msix : ((Upd.msgs x).apply s).msix = s.msix := rfl
@[simp] theorem Upd.msgs_hports : ((Upd.msgs x).apply s).hports = s.hports := rfl
@[simp] theorem Upd.msgs_hostOut : ((Upd.msgs x).apply s).hostOut = s.hostOut := rfl
@[simp] theorem Upd.msgs_rings : ((Upd.msgs x).apply s).rings = s.rings := rfl
@[simp] theorem Upd.msgs_ev : ((Upd.msgs x).apply s).ev = s.ev := rfl
@[simp] theorem Upd.msgs_slots : ((Upd.msgs x).apply s).slots = s.slots := rfl
@[simp] theorem Upd.msgs_mbOrder : ((Upd.msgs x).apply s).mbOrder = s.mbOrder := rfl
@[simp] theorem Upd.msgs_ports : ((Upd.msgs x).apply s).ports = s.ports := rfl
@[simp] theorem Upd.msgs_pour : ((Upd.msgs x).apply s).pour = s.pour := rfl
@[simp] theorem Upd.msgs_faults : ((Upd.msgs x).apply s).faults = s.faults := rfl
@[simp] theorem Upd.msgs_pep : ((Upd.msgs x).apply s).pep = s.pep := rfl
@[simp] theorem Upd.msgs_power : ((Upd.msgs x).apply s).power = s.power := rfl
@[simp] theorem Upd.msgs_resp : ((Upd.msgs x).apply s).resp = s.resp := rfl
@[simp] theorem Upd.msgs_dbg : ((Upd.msgs x).apply s).dbg = s.dbg := rfl
@[simp] theorem Upd.msgs_pst : ((Upd.msgs x).apply s).pst = s.pst := rfl
@[simp] theorem Upd.msgs_boot : ((Upd.msgs x).apply s).boot = s.boot := rfl
@[simp] theorem Upd.msgs_saf : ((Upd.msgs x).apply s).saf = s.saf := rfl
@[simp] theorem Upd.msgs_svc : ((Upd.msgs x).apply s).svc = s.svc := rfl
@[simp] theorem Upd.msgs_freeCtr : ((Upd.msgs x).apply s).freeCtr = s.freeCtr := rfl
end

section
variable (k : Nat) (v : PortSt)
@[simp] theorem Upd.ports_flds : ((Upd.ports k v).apply s).flds = s.flds := rfl
@[simp] theorem Upd.ports_slag : ((Upd.ports k v).apply s).slag = s.slag := rfl
@[simp] theorem Upd.ports_seam : ((Upd.ports k v).apply s).seam = s.seam := rfl
@[simp] theorem Upd.ports_align : ((Upd.ports k v).apply s).align = s.align := rfl
@[simp] theorem Upd.ports_gclk : ((Upd.ports k v).apply s).gclk = s.gclk := rfl
@[simp] theorem Upd.ports_dec : ((Upd.ports k v).apply s).dec = s.dec := rfl
@[simp] theorem Upd.ports_ctl : ((Upd.ports k v).apply s).ctl = s.ctl := rfl
@[simp] theorem Upd.ports_cores : ((Upd.ports k v).apply s).cores = s.cores := rfl
@[simp] theorem Upd.ports_mes : ((Upd.ports k v).apply s).mes = s.mes := rfl
@[simp] theorem Upd.ports_ses : ((Upd.ports k v).apply s).ses = s.ses := rfl
@[simp] theorem Upd.ports_vus : ((Upd.ports k v).apply s).vus = s.vus := rfl
@[simp] theorem Upd.ports_spd : ((Upd.ports k v).apply s).spd = s.spd := rfl
@[simp] theorem Upd.ports_spdPoison : ((Upd.ports k v).apply s).spdPoison = s.spdPoison := rfl
@[simp] theorem Upd.ports_dram : ((Upd.ports k v).apply s).dram = s.dram := rfl
@[simp] theorem Upd.ports_dramPoison : ((Upd.ports k v).apply s).dramPoison = s.dramPoison := rfl
@[simp] theorem Upd.ports_dramWritten : ((Upd.ports k v).apply s).dramWritten = s.dramWritten := rfl
@[simp] theorem Upd.ports_caches : ((Upd.ports k v).apply s).caches = s.caches := rfl
@[simp] theorem Upd.ports_refreshOnly : ((Upd.ports k v).apply s).refreshOnly = s.refreshOnly := rfl
@[simp] theorem Upd.ports_refreshed : ((Upd.ports k v).apply s).refreshed = s.refreshed := rfl
@[simp] theorem Upd.ports_flasks : ((Upd.ports k v).apply s).flasks = s.flasks := rfl
@[simp] theorem Upd.ports_queues : ((Upd.ports k v).apply s).queues = s.queues := rfl
@[simp] theorem Upd.ports_ldls : ((Upd.ports k v).apply s).ldls = s.ldls := rfl
@[simp] theorem Upd.ports_msix : ((Upd.ports k v).apply s).msix = s.msix := rfl
@[simp] theorem Upd.ports_hports : ((Upd.ports k v).apply s).hports = s.hports := rfl
@[simp] theorem Upd.ports_hostOut : ((Upd.ports k v).apply s).hostOut = s.hostOut := rfl
@[simp] theorem Upd.ports_rings : ((Upd.ports k v).apply s).rings = s.rings := rfl
@[simp] theorem Upd.ports_ev : ((Upd.ports k v).apply s).ev = s.ev := rfl
@[simp] theorem Upd.ports_slots : ((Upd.ports k v).apply s).slots = s.slots := rfl
@[simp] theorem Upd.ports_mbOrder : ((Upd.ports k v).apply s).mbOrder = s.mbOrder := rfl
@[simp] theorem Upd.ports_msgs : ((Upd.ports k v).apply s).msgs = s.msgs := rfl
@[simp] theorem Upd.ports_pour : ((Upd.ports k v).apply s).pour = s.pour := rfl
@[simp] theorem Upd.ports_faults : ((Upd.ports k v).apply s).faults = s.faults := rfl
@[simp] theorem Upd.ports_pep : ((Upd.ports k v).apply s).pep = s.pep := rfl
@[simp] theorem Upd.ports_power : ((Upd.ports k v).apply s).power = s.power := rfl
@[simp] theorem Upd.ports_resp : ((Upd.ports k v).apply s).resp = s.resp := rfl
@[simp] theorem Upd.ports_dbg : ((Upd.ports k v).apply s).dbg = s.dbg := rfl
@[simp] theorem Upd.ports_pst : ((Upd.ports k v).apply s).pst = s.pst := rfl
@[simp] theorem Upd.ports_boot : ((Upd.ports k v).apply s).boot = s.boot := rfl
@[simp] theorem Upd.ports_saf : ((Upd.ports k v).apply s).saf = s.saf := rfl
@[simp] theorem Upd.ports_svc : ((Upd.ports k v).apply s).svc = s.svc := rfl
@[simp] theorem Upd.ports_freeCtr : ((Upd.ports k v).apply s).freeCtr = s.freeCtr := rfl
end

section
variable (lo hi : Nat)
@[simp] theorem Upd.portsClear_flds : ((Upd.portsClear lo hi).apply s).flds = s.flds := rfl
@[simp] theorem Upd.portsClear_slag : ((Upd.portsClear lo hi).apply s).slag = s.slag := rfl
@[simp] theorem Upd.portsClear_seam : ((Upd.portsClear lo hi).apply s).seam = s.seam := rfl
@[simp] theorem Upd.portsClear_align : ((Upd.portsClear lo hi).apply s).align = s.align := rfl
@[simp] theorem Upd.portsClear_gclk : ((Upd.portsClear lo hi).apply s).gclk = s.gclk := rfl
@[simp] theorem Upd.portsClear_dec : ((Upd.portsClear lo hi).apply s).dec = s.dec := rfl
@[simp] theorem Upd.portsClear_ctl : ((Upd.portsClear lo hi).apply s).ctl = s.ctl := rfl
@[simp] theorem Upd.portsClear_cores : ((Upd.portsClear lo hi).apply s).cores = s.cores := rfl
@[simp] theorem Upd.portsClear_mes : ((Upd.portsClear lo hi).apply s).mes = s.mes := rfl
@[simp] theorem Upd.portsClear_ses : ((Upd.portsClear lo hi).apply s).ses = s.ses := rfl
@[simp] theorem Upd.portsClear_vus : ((Upd.portsClear lo hi).apply s).vus = s.vus := rfl
@[simp] theorem Upd.portsClear_spd : ((Upd.portsClear lo hi).apply s).spd = s.spd := rfl
@[simp] theorem Upd.portsClear_spdPoison : ((Upd.portsClear lo hi).apply s).spdPoison = s.spdPoison := rfl
@[simp] theorem Upd.portsClear_dram : ((Upd.portsClear lo hi).apply s).dram = s.dram := rfl
@[simp] theorem Upd.portsClear_dramPoison : ((Upd.portsClear lo hi).apply s).dramPoison = s.dramPoison := rfl
@[simp] theorem Upd.portsClear_dramWritten : ((Upd.portsClear lo hi).apply s).dramWritten = s.dramWritten := rfl
@[simp] theorem Upd.portsClear_caches : ((Upd.portsClear lo hi).apply s).caches = s.caches := rfl
@[simp] theorem Upd.portsClear_refreshOnly : ((Upd.portsClear lo hi).apply s).refreshOnly = s.refreshOnly := rfl
@[simp] theorem Upd.portsClear_refreshed : ((Upd.portsClear lo hi).apply s).refreshed = s.refreshed := rfl
@[simp] theorem Upd.portsClear_flasks : ((Upd.portsClear lo hi).apply s).flasks = s.flasks := rfl
@[simp] theorem Upd.portsClear_queues : ((Upd.portsClear lo hi).apply s).queues = s.queues := rfl
@[simp] theorem Upd.portsClear_ldls : ((Upd.portsClear lo hi).apply s).ldls = s.ldls := rfl
@[simp] theorem Upd.portsClear_msix : ((Upd.portsClear lo hi).apply s).msix = s.msix := rfl
@[simp] theorem Upd.portsClear_hports : ((Upd.portsClear lo hi).apply s).hports = s.hports := rfl
@[simp] theorem Upd.portsClear_hostOut : ((Upd.portsClear lo hi).apply s).hostOut = s.hostOut := rfl
@[simp] theorem Upd.portsClear_rings : ((Upd.portsClear lo hi).apply s).rings = s.rings := rfl
@[simp] theorem Upd.portsClear_ev : ((Upd.portsClear lo hi).apply s).ev = s.ev := rfl
@[simp] theorem Upd.portsClear_slots : ((Upd.portsClear lo hi).apply s).slots = s.slots := rfl
@[simp] theorem Upd.portsClear_mbOrder : ((Upd.portsClear lo hi).apply s).mbOrder = s.mbOrder := rfl
@[simp] theorem Upd.portsClear_msgs : ((Upd.portsClear lo hi).apply s).msgs = s.msgs := rfl
@[simp] theorem Upd.portsClear_pour : ((Upd.portsClear lo hi).apply s).pour = s.pour := rfl
@[simp] theorem Upd.portsClear_faults : ((Upd.portsClear lo hi).apply s).faults = s.faults := rfl
@[simp] theorem Upd.portsClear_pep : ((Upd.portsClear lo hi).apply s).pep = s.pep := rfl
@[simp] theorem Upd.portsClear_power : ((Upd.portsClear lo hi).apply s).power = s.power := rfl
@[simp] theorem Upd.portsClear_resp : ((Upd.portsClear lo hi).apply s).resp = s.resp := rfl
@[simp] theorem Upd.portsClear_dbg : ((Upd.portsClear lo hi).apply s).dbg = s.dbg := rfl
@[simp] theorem Upd.portsClear_pst : ((Upd.portsClear lo hi).apply s).pst = s.pst := rfl
@[simp] theorem Upd.portsClear_boot : ((Upd.portsClear lo hi).apply s).boot = s.boot := rfl
@[simp] theorem Upd.portsClear_saf : ((Upd.portsClear lo hi).apply s).saf = s.saf := rfl
@[simp] theorem Upd.portsClear_svc : ((Upd.portsClear lo hi).apply s).svc = s.svc := rfl
@[simp] theorem Upd.portsClear_freeCtr : ((Upd.portsClear lo hi).apply s).freeCtr = s.freeCtr := rfl
end

section
variable (v : PourSt)
@[simp] theorem Upd.pour_flds : ((Upd.pour v).apply s).flds = s.flds := rfl
@[simp] theorem Upd.pour_slag : ((Upd.pour v).apply s).slag = s.slag := rfl
@[simp] theorem Upd.pour_seam : ((Upd.pour v).apply s).seam = s.seam := rfl
@[simp] theorem Upd.pour_align : ((Upd.pour v).apply s).align = s.align := rfl
@[simp] theorem Upd.pour_gclk : ((Upd.pour v).apply s).gclk = s.gclk := rfl
@[simp] theorem Upd.pour_dec : ((Upd.pour v).apply s).dec = s.dec := rfl
@[simp] theorem Upd.pour_ctl : ((Upd.pour v).apply s).ctl = s.ctl := rfl
@[simp] theorem Upd.pour_cores : ((Upd.pour v).apply s).cores = s.cores := rfl
@[simp] theorem Upd.pour_mes : ((Upd.pour v).apply s).mes = s.mes := rfl
@[simp] theorem Upd.pour_ses : ((Upd.pour v).apply s).ses = s.ses := rfl
@[simp] theorem Upd.pour_vus : ((Upd.pour v).apply s).vus = s.vus := rfl
@[simp] theorem Upd.pour_spd : ((Upd.pour v).apply s).spd = s.spd := rfl
@[simp] theorem Upd.pour_spdPoison : ((Upd.pour v).apply s).spdPoison = s.spdPoison := rfl
@[simp] theorem Upd.pour_dram : ((Upd.pour v).apply s).dram = s.dram := rfl
@[simp] theorem Upd.pour_dramPoison : ((Upd.pour v).apply s).dramPoison = s.dramPoison := rfl
@[simp] theorem Upd.pour_dramWritten : ((Upd.pour v).apply s).dramWritten = s.dramWritten := rfl
@[simp] theorem Upd.pour_caches : ((Upd.pour v).apply s).caches = s.caches := rfl
@[simp] theorem Upd.pour_refreshOnly : ((Upd.pour v).apply s).refreshOnly = s.refreshOnly := rfl
@[simp] theorem Upd.pour_refreshed : ((Upd.pour v).apply s).refreshed = s.refreshed := rfl
@[simp] theorem Upd.pour_flasks : ((Upd.pour v).apply s).flasks = s.flasks := rfl
@[simp] theorem Upd.pour_queues : ((Upd.pour v).apply s).queues = s.queues := rfl
@[simp] theorem Upd.pour_ldls : ((Upd.pour v).apply s).ldls = s.ldls := rfl
@[simp] theorem Upd.pour_msix : ((Upd.pour v).apply s).msix = s.msix := rfl
@[simp] theorem Upd.pour_hports : ((Upd.pour v).apply s).hports = s.hports := rfl
@[simp] theorem Upd.pour_hostOut : ((Upd.pour v).apply s).hostOut = s.hostOut := rfl
@[simp] theorem Upd.pour_rings : ((Upd.pour v).apply s).rings = s.rings := rfl
@[simp] theorem Upd.pour_ev : ((Upd.pour v).apply s).ev = s.ev := rfl
@[simp] theorem Upd.pour_slots : ((Upd.pour v).apply s).slots = s.slots := rfl
@[simp] theorem Upd.pour_mbOrder : ((Upd.pour v).apply s).mbOrder = s.mbOrder := rfl
@[simp] theorem Upd.pour_msgs : ((Upd.pour v).apply s).msgs = s.msgs := rfl
@[simp] theorem Upd.pour_ports : ((Upd.pour v).apply s).ports = s.ports := rfl
@[simp] theorem Upd.pour_faults : ((Upd.pour v).apply s).faults = s.faults := rfl
@[simp] theorem Upd.pour_pep : ((Upd.pour v).apply s).pep = s.pep := rfl
@[simp] theorem Upd.pour_power : ((Upd.pour v).apply s).power = s.power := rfl
@[simp] theorem Upd.pour_resp : ((Upd.pour v).apply s).resp = s.resp := rfl
@[simp] theorem Upd.pour_dbg : ((Upd.pour v).apply s).dbg = s.dbg := rfl
@[simp] theorem Upd.pour_pst : ((Upd.pour v).apply s).pst = s.pst := rfl
@[simp] theorem Upd.pour_boot : ((Upd.pour v).apply s).boot = s.boot := rfl
@[simp] theorem Upd.pour_saf : ((Upd.pour v).apply s).saf = s.saf := rfl
@[simp] theorem Upd.pour_svc : ((Upd.pour v).apply s).svc = s.svc := rfl
@[simp] theorem Upd.pour_freeCtr : ((Upd.pour v).apply s).freeCtr = s.freeCtr := rfl
end

section
variable (v : FaultSt)
@[simp] theorem Upd.faults_flds : ((Upd.faults v).apply s).flds = s.flds := rfl
@[simp] theorem Upd.faults_slag : ((Upd.faults v).apply s).slag = s.slag := rfl
@[simp] theorem Upd.faults_seam : ((Upd.faults v).apply s).seam = s.seam := rfl
@[simp] theorem Upd.faults_align : ((Upd.faults v).apply s).align = s.align := rfl
@[simp] theorem Upd.faults_gclk : ((Upd.faults v).apply s).gclk = s.gclk := rfl
@[simp] theorem Upd.faults_dec : ((Upd.faults v).apply s).dec = s.dec := rfl
@[simp] theorem Upd.faults_ctl : ((Upd.faults v).apply s).ctl = s.ctl := rfl
@[simp] theorem Upd.faults_cores : ((Upd.faults v).apply s).cores = s.cores := rfl
@[simp] theorem Upd.faults_mes : ((Upd.faults v).apply s).mes = s.mes := rfl
@[simp] theorem Upd.faults_ses : ((Upd.faults v).apply s).ses = s.ses := rfl
@[simp] theorem Upd.faults_vus : ((Upd.faults v).apply s).vus = s.vus := rfl
@[simp] theorem Upd.faults_spd : ((Upd.faults v).apply s).spd = s.spd := rfl
@[simp] theorem Upd.faults_spdPoison : ((Upd.faults v).apply s).spdPoison = s.spdPoison := rfl
@[simp] theorem Upd.faults_dram : ((Upd.faults v).apply s).dram = s.dram := rfl
@[simp] theorem Upd.faults_dramPoison : ((Upd.faults v).apply s).dramPoison = s.dramPoison := rfl
@[simp] theorem Upd.faults_dramWritten : ((Upd.faults v).apply s).dramWritten = s.dramWritten := rfl
@[simp] theorem Upd.faults_caches : ((Upd.faults v).apply s).caches = s.caches := rfl
@[simp] theorem Upd.faults_refreshOnly : ((Upd.faults v).apply s).refreshOnly = s.refreshOnly := rfl
@[simp] theorem Upd.faults_refreshed : ((Upd.faults v).apply s).refreshed = s.refreshed := rfl
@[simp] theorem Upd.faults_flasks : ((Upd.faults v).apply s).flasks = s.flasks := rfl
@[simp] theorem Upd.faults_queues : ((Upd.faults v).apply s).queues = s.queues := rfl
@[simp] theorem Upd.faults_ldls : ((Upd.faults v).apply s).ldls = s.ldls := rfl
@[simp] theorem Upd.faults_msix : ((Upd.faults v).apply s).msix = s.msix := rfl
@[simp] theorem Upd.faults_hports : ((Upd.faults v).apply s).hports = s.hports := rfl
@[simp] theorem Upd.faults_hostOut : ((Upd.faults v).apply s).hostOut = s.hostOut := rfl
@[simp] theorem Upd.faults_rings : ((Upd.faults v).apply s).rings = s.rings := rfl
@[simp] theorem Upd.faults_ev : ((Upd.faults v).apply s).ev = s.ev := rfl
@[simp] theorem Upd.faults_slots : ((Upd.faults v).apply s).slots = s.slots := rfl
@[simp] theorem Upd.faults_mbOrder : ((Upd.faults v).apply s).mbOrder = s.mbOrder := rfl
@[simp] theorem Upd.faults_msgs : ((Upd.faults v).apply s).msgs = s.msgs := rfl
@[simp] theorem Upd.faults_ports : ((Upd.faults v).apply s).ports = s.ports := rfl
@[simp] theorem Upd.faults_pour : ((Upd.faults v).apply s).pour = s.pour := rfl
@[simp] theorem Upd.faults_pep : ((Upd.faults v).apply s).pep = s.pep := rfl
@[simp] theorem Upd.faults_power : ((Upd.faults v).apply s).power = s.power := rfl
@[simp] theorem Upd.faults_resp : ((Upd.faults v).apply s).resp = s.resp := rfl
@[simp] theorem Upd.faults_dbg : ((Upd.faults v).apply s).dbg = s.dbg := rfl
@[simp] theorem Upd.faults_pst : ((Upd.faults v).apply s).pst = s.pst := rfl
@[simp] theorem Upd.faults_boot : ((Upd.faults v).apply s).boot = s.boot := rfl
@[simp] theorem Upd.faults_saf : ((Upd.faults v).apply s).saf = s.saf := rfl
@[simp] theorem Upd.faults_svc : ((Upd.faults v).apply s).svc = s.svc := rfl
@[simp] theorem Upd.faults_freeCtr : ((Upd.faults v).apply s).freeCtr = s.freeCtr := rfl
end

section
variable (v : PepSt)
@[simp] theorem Upd.pep_flds : ((Upd.pep v).apply s).flds = s.flds := rfl
@[simp] theorem Upd.pep_slag : ((Upd.pep v).apply s).slag = s.slag := rfl
@[simp] theorem Upd.pep_seam : ((Upd.pep v).apply s).seam = s.seam := rfl
@[simp] theorem Upd.pep_align : ((Upd.pep v).apply s).align = s.align := rfl
@[simp] theorem Upd.pep_gclk : ((Upd.pep v).apply s).gclk = s.gclk := rfl
@[simp] theorem Upd.pep_dec : ((Upd.pep v).apply s).dec = s.dec := rfl
@[simp] theorem Upd.pep_ctl : ((Upd.pep v).apply s).ctl = s.ctl := rfl
@[simp] theorem Upd.pep_cores : ((Upd.pep v).apply s).cores = s.cores := rfl
@[simp] theorem Upd.pep_mes : ((Upd.pep v).apply s).mes = s.mes := rfl
@[simp] theorem Upd.pep_ses : ((Upd.pep v).apply s).ses = s.ses := rfl
@[simp] theorem Upd.pep_vus : ((Upd.pep v).apply s).vus = s.vus := rfl
@[simp] theorem Upd.pep_spd : ((Upd.pep v).apply s).spd = s.spd := rfl
@[simp] theorem Upd.pep_spdPoison : ((Upd.pep v).apply s).spdPoison = s.spdPoison := rfl
@[simp] theorem Upd.pep_dram : ((Upd.pep v).apply s).dram = s.dram := rfl
@[simp] theorem Upd.pep_dramPoison : ((Upd.pep v).apply s).dramPoison = s.dramPoison := rfl
@[simp] theorem Upd.pep_dramWritten : ((Upd.pep v).apply s).dramWritten = s.dramWritten := rfl
@[simp] theorem Upd.pep_caches : ((Upd.pep v).apply s).caches = s.caches := rfl
@[simp] theorem Upd.pep_refreshOnly : ((Upd.pep v).apply s).refreshOnly = s.refreshOnly := rfl
@[simp] theorem Upd.pep_refreshed : ((Upd.pep v).apply s).refreshed = s.refreshed := rfl
@[simp] theorem Upd.pep_flasks : ((Upd.pep v).apply s).flasks = s.flasks := rfl
@[simp] theorem Upd.pep_queues : ((Upd.pep v).apply s).queues = s.queues := rfl
@[simp] theorem Upd.pep_ldls : ((Upd.pep v).apply s).ldls = s.ldls := rfl
@[simp] theorem Upd.pep_msix : ((Upd.pep v).apply s).msix = s.msix := rfl
@[simp] theorem Upd.pep_hports : ((Upd.pep v).apply s).hports = s.hports := rfl
@[simp] theorem Upd.pep_hostOut : ((Upd.pep v).apply s).hostOut = s.hostOut := rfl
@[simp] theorem Upd.pep_rings : ((Upd.pep v).apply s).rings = s.rings := rfl
@[simp] theorem Upd.pep_ev : ((Upd.pep v).apply s).ev = s.ev := rfl
@[simp] theorem Upd.pep_slots : ((Upd.pep v).apply s).slots = s.slots := rfl
@[simp] theorem Upd.pep_mbOrder : ((Upd.pep v).apply s).mbOrder = s.mbOrder := rfl
@[simp] theorem Upd.pep_msgs : ((Upd.pep v).apply s).msgs = s.msgs := rfl
@[simp] theorem Upd.pep_ports : ((Upd.pep v).apply s).ports = s.ports := rfl
@[simp] theorem Upd.pep_pour : ((Upd.pep v).apply s).pour = s.pour := rfl
@[simp] theorem Upd.pep_faults : ((Upd.pep v).apply s).faults = s.faults := rfl
@[simp] theorem Upd.pep_power : ((Upd.pep v).apply s).power = s.power := rfl
@[simp] theorem Upd.pep_resp : ((Upd.pep v).apply s).resp = s.resp := rfl
@[simp] theorem Upd.pep_dbg : ((Upd.pep v).apply s).dbg = s.dbg := rfl
@[simp] theorem Upd.pep_pst : ((Upd.pep v).apply s).pst = s.pst := rfl
@[simp] theorem Upd.pep_boot : ((Upd.pep v).apply s).boot = s.boot := rfl
@[simp] theorem Upd.pep_saf : ((Upd.pep v).apply s).saf = s.saf := rfl
@[simp] theorem Upd.pep_svc : ((Upd.pep v).apply s).svc = s.svc := rfl
@[simp] theorem Upd.pep_freeCtr : ((Upd.pep v).apply s).freeCtr = s.freeCtr := rfl
end

section
variable (v : PowerSt)
@[simp] theorem Upd.power_flds : ((Upd.power v).apply s).flds = s.flds := rfl
@[simp] theorem Upd.power_slag : ((Upd.power v).apply s).slag = s.slag := rfl
@[simp] theorem Upd.power_seam : ((Upd.power v).apply s).seam = s.seam := rfl
@[simp] theorem Upd.power_align : ((Upd.power v).apply s).align = s.align := rfl
@[simp] theorem Upd.power_gclk : ((Upd.power v).apply s).gclk = s.gclk := rfl
@[simp] theorem Upd.power_dec : ((Upd.power v).apply s).dec = s.dec := rfl
@[simp] theorem Upd.power_ctl : ((Upd.power v).apply s).ctl = s.ctl := rfl
@[simp] theorem Upd.power_cores : ((Upd.power v).apply s).cores = s.cores := rfl
@[simp] theorem Upd.power_mes : ((Upd.power v).apply s).mes = s.mes := rfl
@[simp] theorem Upd.power_ses : ((Upd.power v).apply s).ses = s.ses := rfl
@[simp] theorem Upd.power_vus : ((Upd.power v).apply s).vus = s.vus := rfl
@[simp] theorem Upd.power_spd : ((Upd.power v).apply s).spd = s.spd := rfl
@[simp] theorem Upd.power_spdPoison : ((Upd.power v).apply s).spdPoison = s.spdPoison := rfl
@[simp] theorem Upd.power_dram : ((Upd.power v).apply s).dram = s.dram := rfl
@[simp] theorem Upd.power_dramPoison : ((Upd.power v).apply s).dramPoison = s.dramPoison := rfl
@[simp] theorem Upd.power_dramWritten : ((Upd.power v).apply s).dramWritten = s.dramWritten := rfl
@[simp] theorem Upd.power_caches : ((Upd.power v).apply s).caches = s.caches := rfl
@[simp] theorem Upd.power_refreshOnly : ((Upd.power v).apply s).refreshOnly = s.refreshOnly := rfl
@[simp] theorem Upd.power_refreshed : ((Upd.power v).apply s).refreshed = s.refreshed := rfl
@[simp] theorem Upd.power_flasks : ((Upd.power v).apply s).flasks = s.flasks := rfl
@[simp] theorem Upd.power_queues : ((Upd.power v).apply s).queues = s.queues := rfl
@[simp] theorem Upd.power_ldls : ((Upd.power v).apply s).ldls = s.ldls := rfl
@[simp] theorem Upd.power_msix : ((Upd.power v).apply s).msix = s.msix := rfl
@[simp] theorem Upd.power_hports : ((Upd.power v).apply s).hports = s.hports := rfl
@[simp] theorem Upd.power_hostOut : ((Upd.power v).apply s).hostOut = s.hostOut := rfl
@[simp] theorem Upd.power_rings : ((Upd.power v).apply s).rings = s.rings := rfl
@[simp] theorem Upd.power_ev : ((Upd.power v).apply s).ev = s.ev := rfl
@[simp] theorem Upd.power_slots : ((Upd.power v).apply s).slots = s.slots := rfl
@[simp] theorem Upd.power_mbOrder : ((Upd.power v).apply s).mbOrder = s.mbOrder := rfl
@[simp] theorem Upd.power_msgs : ((Upd.power v).apply s).msgs = s.msgs := rfl
@[simp] theorem Upd.power_ports : ((Upd.power v).apply s).ports = s.ports := rfl
@[simp] theorem Upd.power_pour : ((Upd.power v).apply s).pour = s.pour := rfl
@[simp] theorem Upd.power_faults : ((Upd.power v).apply s).faults = s.faults := rfl
@[simp] theorem Upd.power_pep : ((Upd.power v).apply s).pep = s.pep := rfl
@[simp] theorem Upd.power_resp : ((Upd.power v).apply s).resp = s.resp := rfl
@[simp] theorem Upd.power_dbg : ((Upd.power v).apply s).dbg = s.dbg := rfl
@[simp] theorem Upd.power_pst : ((Upd.power v).apply s).pst = s.pst := rfl
@[simp] theorem Upd.power_boot : ((Upd.power v).apply s).boot = s.boot := rfl
@[simp] theorem Upd.power_saf : ((Upd.power v).apply s).saf = s.saf := rfl
@[simp] theorem Upd.power_svc : ((Upd.power v).apply s).svc = s.svc := rfl
@[simp] theorem Upd.power_freeCtr : ((Upd.power v).apply s).freeCtr = s.freeCtr := rfl
end

section
variable (v : Option RespSt)
@[simp] theorem Upd.resp_flds : ((Upd.resp v).apply s).flds = s.flds := rfl
@[simp] theorem Upd.resp_slag : ((Upd.resp v).apply s).slag = s.slag := rfl
@[simp] theorem Upd.resp_seam : ((Upd.resp v).apply s).seam = s.seam := rfl
@[simp] theorem Upd.resp_align : ((Upd.resp v).apply s).align = s.align := rfl
@[simp] theorem Upd.resp_gclk : ((Upd.resp v).apply s).gclk = s.gclk := rfl
@[simp] theorem Upd.resp_dec : ((Upd.resp v).apply s).dec = s.dec := rfl
@[simp] theorem Upd.resp_ctl : ((Upd.resp v).apply s).ctl = s.ctl := rfl
@[simp] theorem Upd.resp_cores : ((Upd.resp v).apply s).cores = s.cores := rfl
@[simp] theorem Upd.resp_mes : ((Upd.resp v).apply s).mes = s.mes := rfl
@[simp] theorem Upd.resp_ses : ((Upd.resp v).apply s).ses = s.ses := rfl
@[simp] theorem Upd.resp_vus : ((Upd.resp v).apply s).vus = s.vus := rfl
@[simp] theorem Upd.resp_spd : ((Upd.resp v).apply s).spd = s.spd := rfl
@[simp] theorem Upd.resp_spdPoison : ((Upd.resp v).apply s).spdPoison = s.spdPoison := rfl
@[simp] theorem Upd.resp_dram : ((Upd.resp v).apply s).dram = s.dram := rfl
@[simp] theorem Upd.resp_dramPoison : ((Upd.resp v).apply s).dramPoison = s.dramPoison := rfl
@[simp] theorem Upd.resp_dramWritten : ((Upd.resp v).apply s).dramWritten = s.dramWritten := rfl
@[simp] theorem Upd.resp_caches : ((Upd.resp v).apply s).caches = s.caches := rfl
@[simp] theorem Upd.resp_refreshOnly : ((Upd.resp v).apply s).refreshOnly = s.refreshOnly := rfl
@[simp] theorem Upd.resp_refreshed : ((Upd.resp v).apply s).refreshed = s.refreshed := rfl
@[simp] theorem Upd.resp_flasks : ((Upd.resp v).apply s).flasks = s.flasks := rfl
@[simp] theorem Upd.resp_queues : ((Upd.resp v).apply s).queues = s.queues := rfl
@[simp] theorem Upd.resp_ldls : ((Upd.resp v).apply s).ldls = s.ldls := rfl
@[simp] theorem Upd.resp_msix : ((Upd.resp v).apply s).msix = s.msix := rfl
@[simp] theorem Upd.resp_hports : ((Upd.resp v).apply s).hports = s.hports := rfl
@[simp] theorem Upd.resp_hostOut : ((Upd.resp v).apply s).hostOut = s.hostOut := rfl
@[simp] theorem Upd.resp_rings : ((Upd.resp v).apply s).rings = s.rings := rfl
@[simp] theorem Upd.resp_ev : ((Upd.resp v).apply s).ev = s.ev := rfl
@[simp] theorem Upd.resp_slots : ((Upd.resp v).apply s).slots = s.slots := rfl
@[simp] theorem Upd.resp_mbOrder : ((Upd.resp v).apply s).mbOrder = s.mbOrder := rfl
@[simp] theorem Upd.resp_msgs : ((Upd.resp v).apply s).msgs = s.msgs := rfl
@[simp] theorem Upd.resp_ports : ((Upd.resp v).apply s).ports = s.ports := rfl
@[simp] theorem Upd.resp_pour : ((Upd.resp v).apply s).pour = s.pour := rfl
@[simp] theorem Upd.resp_faults : ((Upd.resp v).apply s).faults = s.faults := rfl
@[simp] theorem Upd.resp_pep : ((Upd.resp v).apply s).pep = s.pep := rfl
@[simp] theorem Upd.resp_power : ((Upd.resp v).apply s).power = s.power := rfl
@[simp] theorem Upd.resp_dbg : ((Upd.resp v).apply s).dbg = s.dbg := rfl
@[simp] theorem Upd.resp_pst : ((Upd.resp v).apply s).pst = s.pst := rfl
@[simp] theorem Upd.resp_boot : ((Upd.resp v).apply s).boot = s.boot := rfl
@[simp] theorem Upd.resp_saf : ((Upd.resp v).apply s).saf = s.saf := rfl
@[simp] theorem Upd.resp_svc : ((Upd.resp v).apply s).svc = s.svc := rfl
@[simp] theorem Upd.resp_freeCtr : ((Upd.resp v).apply s).freeCtr = s.freeCtr := rfl
end

section
variable (v : DbgSt)
@[simp] theorem Upd.dbg_flds : ((Upd.dbg v).apply s).flds = s.flds := rfl
@[simp] theorem Upd.dbg_slag : ((Upd.dbg v).apply s).slag = s.slag := rfl
@[simp] theorem Upd.dbg_seam : ((Upd.dbg v).apply s).seam = s.seam := rfl
@[simp] theorem Upd.dbg_align : ((Upd.dbg v).apply s).align = s.align := rfl
@[simp] theorem Upd.dbg_gclk : ((Upd.dbg v).apply s).gclk = s.gclk := rfl
@[simp] theorem Upd.dbg_dec : ((Upd.dbg v).apply s).dec = s.dec := rfl
@[simp] theorem Upd.dbg_ctl : ((Upd.dbg v).apply s).ctl = s.ctl := rfl
@[simp] theorem Upd.dbg_cores : ((Upd.dbg v).apply s).cores = s.cores := rfl
@[simp] theorem Upd.dbg_mes : ((Upd.dbg v).apply s).mes = s.mes := rfl
@[simp] theorem Upd.dbg_ses : ((Upd.dbg v).apply s).ses = s.ses := rfl
@[simp] theorem Upd.dbg_vus : ((Upd.dbg v).apply s).vus = s.vus := rfl
@[simp] theorem Upd.dbg_spd : ((Upd.dbg v).apply s).spd = s.spd := rfl
@[simp] theorem Upd.dbg_spdPoison : ((Upd.dbg v).apply s).spdPoison = s.spdPoison := rfl
@[simp] theorem Upd.dbg_dram : ((Upd.dbg v).apply s).dram = s.dram := rfl
@[simp] theorem Upd.dbg_dramPoison : ((Upd.dbg v).apply s).dramPoison = s.dramPoison := rfl
@[simp] theorem Upd.dbg_dramWritten : ((Upd.dbg v).apply s).dramWritten = s.dramWritten := rfl
@[simp] theorem Upd.dbg_caches : ((Upd.dbg v).apply s).caches = s.caches := rfl
@[simp] theorem Upd.dbg_refreshOnly : ((Upd.dbg v).apply s).refreshOnly = s.refreshOnly := rfl
@[simp] theorem Upd.dbg_refreshed : ((Upd.dbg v).apply s).refreshed = s.refreshed := rfl
@[simp] theorem Upd.dbg_flasks : ((Upd.dbg v).apply s).flasks = s.flasks := rfl
@[simp] theorem Upd.dbg_queues : ((Upd.dbg v).apply s).queues = s.queues := rfl
@[simp] theorem Upd.dbg_ldls : ((Upd.dbg v).apply s).ldls = s.ldls := rfl
@[simp] theorem Upd.dbg_msix : ((Upd.dbg v).apply s).msix = s.msix := rfl
@[simp] theorem Upd.dbg_hports : ((Upd.dbg v).apply s).hports = s.hports := rfl
@[simp] theorem Upd.dbg_hostOut : ((Upd.dbg v).apply s).hostOut = s.hostOut := rfl
@[simp] theorem Upd.dbg_rings : ((Upd.dbg v).apply s).rings = s.rings := rfl
@[simp] theorem Upd.dbg_ev : ((Upd.dbg v).apply s).ev = s.ev := rfl
@[simp] theorem Upd.dbg_slots : ((Upd.dbg v).apply s).slots = s.slots := rfl
@[simp] theorem Upd.dbg_mbOrder : ((Upd.dbg v).apply s).mbOrder = s.mbOrder := rfl
@[simp] theorem Upd.dbg_msgs : ((Upd.dbg v).apply s).msgs = s.msgs := rfl
@[simp] theorem Upd.dbg_ports : ((Upd.dbg v).apply s).ports = s.ports := rfl
@[simp] theorem Upd.dbg_pour : ((Upd.dbg v).apply s).pour = s.pour := rfl
@[simp] theorem Upd.dbg_faults : ((Upd.dbg v).apply s).faults = s.faults := rfl
@[simp] theorem Upd.dbg_pep : ((Upd.dbg v).apply s).pep = s.pep := rfl
@[simp] theorem Upd.dbg_power : ((Upd.dbg v).apply s).power = s.power := rfl
@[simp] theorem Upd.dbg_resp : ((Upd.dbg v).apply s).resp = s.resp := rfl
@[simp] theorem Upd.dbg_pst : ((Upd.dbg v).apply s).pst = s.pst := rfl
@[simp] theorem Upd.dbg_boot : ((Upd.dbg v).apply s).boot = s.boot := rfl
@[simp] theorem Upd.dbg_saf : ((Upd.dbg v).apply s).saf = s.saf := rfl
@[simp] theorem Upd.dbg_svc : ((Upd.dbg v).apply s).svc = s.svc := rfl
@[simp] theorem Upd.dbg_freeCtr : ((Upd.dbg v).apply s).freeCtr = s.freeCtr := rfl
end

section
variable (v : PstSt)
@[simp] theorem Upd.pst_flds : ((Upd.pst v).apply s).flds = s.flds := rfl
@[simp] theorem Upd.pst_slag : ((Upd.pst v).apply s).slag = s.slag := rfl
@[simp] theorem Upd.pst_seam : ((Upd.pst v).apply s).seam = s.seam := rfl
@[simp] theorem Upd.pst_align : ((Upd.pst v).apply s).align = s.align := rfl
@[simp] theorem Upd.pst_gclk : ((Upd.pst v).apply s).gclk = s.gclk := rfl
@[simp] theorem Upd.pst_dec : ((Upd.pst v).apply s).dec = s.dec := rfl
@[simp] theorem Upd.pst_ctl : ((Upd.pst v).apply s).ctl = s.ctl := rfl
@[simp] theorem Upd.pst_cores : ((Upd.pst v).apply s).cores = s.cores := rfl
@[simp] theorem Upd.pst_mes : ((Upd.pst v).apply s).mes = s.mes := rfl
@[simp] theorem Upd.pst_ses : ((Upd.pst v).apply s).ses = s.ses := rfl
@[simp] theorem Upd.pst_vus : ((Upd.pst v).apply s).vus = s.vus := rfl
@[simp] theorem Upd.pst_spd : ((Upd.pst v).apply s).spd = s.spd := rfl
@[simp] theorem Upd.pst_spdPoison : ((Upd.pst v).apply s).spdPoison = s.spdPoison := rfl
@[simp] theorem Upd.pst_dram : ((Upd.pst v).apply s).dram = s.dram := rfl
@[simp] theorem Upd.pst_dramPoison : ((Upd.pst v).apply s).dramPoison = s.dramPoison := rfl
@[simp] theorem Upd.pst_dramWritten : ((Upd.pst v).apply s).dramWritten = s.dramWritten := rfl
@[simp] theorem Upd.pst_caches : ((Upd.pst v).apply s).caches = s.caches := rfl
@[simp] theorem Upd.pst_refreshOnly : ((Upd.pst v).apply s).refreshOnly = s.refreshOnly := rfl
@[simp] theorem Upd.pst_refreshed : ((Upd.pst v).apply s).refreshed = s.refreshed := rfl
@[simp] theorem Upd.pst_flasks : ((Upd.pst v).apply s).flasks = s.flasks := rfl
@[simp] theorem Upd.pst_queues : ((Upd.pst v).apply s).queues = s.queues := rfl
@[simp] theorem Upd.pst_ldls : ((Upd.pst v).apply s).ldls = s.ldls := rfl
@[simp] theorem Upd.pst_msix : ((Upd.pst v).apply s).msix = s.msix := rfl
@[simp] theorem Upd.pst_hports : ((Upd.pst v).apply s).hports = s.hports := rfl
@[simp] theorem Upd.pst_hostOut : ((Upd.pst v).apply s).hostOut = s.hostOut := rfl
@[simp] theorem Upd.pst_rings : ((Upd.pst v).apply s).rings = s.rings := rfl
@[simp] theorem Upd.pst_ev : ((Upd.pst v).apply s).ev = s.ev := rfl
@[simp] theorem Upd.pst_slots : ((Upd.pst v).apply s).slots = s.slots := rfl
@[simp] theorem Upd.pst_mbOrder : ((Upd.pst v).apply s).mbOrder = s.mbOrder := rfl
@[simp] theorem Upd.pst_msgs : ((Upd.pst v).apply s).msgs = s.msgs := rfl
@[simp] theorem Upd.pst_ports : ((Upd.pst v).apply s).ports = s.ports := rfl
@[simp] theorem Upd.pst_pour : ((Upd.pst v).apply s).pour = s.pour := rfl
@[simp] theorem Upd.pst_faults : ((Upd.pst v).apply s).faults = s.faults := rfl
@[simp] theorem Upd.pst_pep : ((Upd.pst v).apply s).pep = s.pep := rfl
@[simp] theorem Upd.pst_power : ((Upd.pst v).apply s).power = s.power := rfl
@[simp] theorem Upd.pst_resp : ((Upd.pst v).apply s).resp = s.resp := rfl
@[simp] theorem Upd.pst_dbg : ((Upd.pst v).apply s).dbg = s.dbg := rfl
@[simp] theorem Upd.pst_boot : ((Upd.pst v).apply s).boot = s.boot := rfl
@[simp] theorem Upd.pst_saf : ((Upd.pst v).apply s).saf = s.saf := rfl
@[simp] theorem Upd.pst_svc : ((Upd.pst v).apply s).svc = s.svc := rfl
@[simp] theorem Upd.pst_freeCtr : ((Upd.pst v).apply s).freeCtr = s.freeCtr := rfl
end

section
variable (v : BootSt)
@[simp] theorem Upd.boot_flds : ((Upd.boot v).apply s).flds = s.flds := rfl
@[simp] theorem Upd.boot_slag : ((Upd.boot v).apply s).slag = s.slag := rfl
@[simp] theorem Upd.boot_seam : ((Upd.boot v).apply s).seam = s.seam := rfl
@[simp] theorem Upd.boot_align : ((Upd.boot v).apply s).align = s.align := rfl
@[simp] theorem Upd.boot_gclk : ((Upd.boot v).apply s).gclk = s.gclk := rfl
@[simp] theorem Upd.boot_dec : ((Upd.boot v).apply s).dec = s.dec := rfl
@[simp] theorem Upd.boot_ctl : ((Upd.boot v).apply s).ctl = s.ctl := rfl
@[simp] theorem Upd.boot_cores : ((Upd.boot v).apply s).cores = s.cores := rfl
@[simp] theorem Upd.boot_mes : ((Upd.boot v).apply s).mes = s.mes := rfl
@[simp] theorem Upd.boot_ses : ((Upd.boot v).apply s).ses = s.ses := rfl
@[simp] theorem Upd.boot_vus : ((Upd.boot v).apply s).vus = s.vus := rfl
@[simp] theorem Upd.boot_spd : ((Upd.boot v).apply s).spd = s.spd := rfl
@[simp] theorem Upd.boot_spdPoison : ((Upd.boot v).apply s).spdPoison = s.spdPoison := rfl
@[simp] theorem Upd.boot_dram : ((Upd.boot v).apply s).dram = s.dram := rfl
@[simp] theorem Upd.boot_dramPoison : ((Upd.boot v).apply s).dramPoison = s.dramPoison := rfl
@[simp] theorem Upd.boot_dramWritten : ((Upd.boot v).apply s).dramWritten = s.dramWritten := rfl
@[simp] theorem Upd.boot_caches : ((Upd.boot v).apply s).caches = s.caches := rfl
@[simp] theorem Upd.boot_refreshOnly : ((Upd.boot v).apply s).refreshOnly = s.refreshOnly := rfl
@[simp] theorem Upd.boot_refreshed : ((Upd.boot v).apply s).refreshed = s.refreshed := rfl
@[simp] theorem Upd.boot_flasks : ((Upd.boot v).apply s).flasks = s.flasks := rfl
@[simp] theorem Upd.boot_queues : ((Upd.boot v).apply s).queues = s.queues := rfl
@[simp] theorem Upd.boot_ldls : ((Upd.boot v).apply s).ldls = s.ldls := rfl
@[simp] theorem Upd.boot_msix : ((Upd.boot v).apply s).msix = s.msix := rfl
@[simp] theorem Upd.boot_hports : ((Upd.boot v).apply s).hports = s.hports := rfl
@[simp] theorem Upd.boot_hostOut : ((Upd.boot v).apply s).hostOut = s.hostOut := rfl
@[simp] theorem Upd.boot_rings : ((Upd.boot v).apply s).rings = s.rings := rfl
@[simp] theorem Upd.boot_ev : ((Upd.boot v).apply s).ev = s.ev := rfl
@[simp] theorem Upd.boot_slots : ((Upd.boot v).apply s).slots = s.slots := rfl
@[simp] theorem Upd.boot_mbOrder : ((Upd.boot v).apply s).mbOrder = s.mbOrder := rfl
@[simp] theorem Upd.boot_msgs : ((Upd.boot v).apply s).msgs = s.msgs := rfl
@[simp] theorem Upd.boot_ports : ((Upd.boot v).apply s).ports = s.ports := rfl
@[simp] theorem Upd.boot_pour : ((Upd.boot v).apply s).pour = s.pour := rfl
@[simp] theorem Upd.boot_faults : ((Upd.boot v).apply s).faults = s.faults := rfl
@[simp] theorem Upd.boot_pep : ((Upd.boot v).apply s).pep = s.pep := rfl
@[simp] theorem Upd.boot_power : ((Upd.boot v).apply s).power = s.power := rfl
@[simp] theorem Upd.boot_resp : ((Upd.boot v).apply s).resp = s.resp := rfl
@[simp] theorem Upd.boot_dbg : ((Upd.boot v).apply s).dbg = s.dbg := rfl
@[simp] theorem Upd.boot_pst : ((Upd.boot v).apply s).pst = s.pst := rfl
@[simp] theorem Upd.boot_saf : ((Upd.boot v).apply s).saf = s.saf := rfl
@[simp] theorem Upd.boot_svc : ((Upd.boot v).apply s).svc = s.svc := rfl
@[simp] theorem Upd.boot_freeCtr : ((Upd.boot v).apply s).freeCtr = s.freeCtr := rfl
end

section
variable (v : SafSt)
@[simp] theorem Upd.saf_flds : ((Upd.saf v).apply s).flds = s.flds := rfl
@[simp] theorem Upd.saf_slag : ((Upd.saf v).apply s).slag = s.slag := rfl
@[simp] theorem Upd.saf_seam : ((Upd.saf v).apply s).seam = s.seam := rfl
@[simp] theorem Upd.saf_align : ((Upd.saf v).apply s).align = s.align := rfl
@[simp] theorem Upd.saf_gclk : ((Upd.saf v).apply s).gclk = s.gclk := rfl
@[simp] theorem Upd.saf_dec : ((Upd.saf v).apply s).dec = s.dec := rfl
@[simp] theorem Upd.saf_ctl : ((Upd.saf v).apply s).ctl = s.ctl := rfl
@[simp] theorem Upd.saf_cores : ((Upd.saf v).apply s).cores = s.cores := rfl
@[simp] theorem Upd.saf_mes : ((Upd.saf v).apply s).mes = s.mes := rfl
@[simp] theorem Upd.saf_ses : ((Upd.saf v).apply s).ses = s.ses := rfl
@[simp] theorem Upd.saf_vus : ((Upd.saf v).apply s).vus = s.vus := rfl
@[simp] theorem Upd.saf_spd : ((Upd.saf v).apply s).spd = s.spd := rfl
@[simp] theorem Upd.saf_spdPoison : ((Upd.saf v).apply s).spdPoison = s.spdPoison := rfl
@[simp] theorem Upd.saf_dram : ((Upd.saf v).apply s).dram = s.dram := rfl
@[simp] theorem Upd.saf_dramPoison : ((Upd.saf v).apply s).dramPoison = s.dramPoison := rfl
@[simp] theorem Upd.saf_dramWritten : ((Upd.saf v).apply s).dramWritten = s.dramWritten := rfl
@[simp] theorem Upd.saf_caches : ((Upd.saf v).apply s).caches = s.caches := rfl
@[simp] theorem Upd.saf_refreshOnly : ((Upd.saf v).apply s).refreshOnly = s.refreshOnly := rfl
@[simp] theorem Upd.saf_refreshed : ((Upd.saf v).apply s).refreshed = s.refreshed := rfl
@[simp] theorem Upd.saf_flasks : ((Upd.saf v).apply s).flasks = s.flasks := rfl
@[simp] theorem Upd.saf_queues : ((Upd.saf v).apply s).queues = s.queues := rfl
@[simp] theorem Upd.saf_ldls : ((Upd.saf v).apply s).ldls = s.ldls := rfl
@[simp] theorem Upd.saf_msix : ((Upd.saf v).apply s).msix = s.msix := rfl
@[simp] theorem Upd.saf_hports : ((Upd.saf v).apply s).hports = s.hports := rfl
@[simp] theorem Upd.saf_hostOut : ((Upd.saf v).apply s).hostOut = s.hostOut := rfl
@[simp] theorem Upd.saf_rings : ((Upd.saf v).apply s).rings = s.rings := rfl
@[simp] theorem Upd.saf_ev : ((Upd.saf v).apply s).ev = s.ev := rfl
@[simp] theorem Upd.saf_slots : ((Upd.saf v).apply s).slots = s.slots := rfl
@[simp] theorem Upd.saf_mbOrder : ((Upd.saf v).apply s).mbOrder = s.mbOrder := rfl
@[simp] theorem Upd.saf_msgs : ((Upd.saf v).apply s).msgs = s.msgs := rfl
@[simp] theorem Upd.saf_ports : ((Upd.saf v).apply s).ports = s.ports := rfl
@[simp] theorem Upd.saf_pour : ((Upd.saf v).apply s).pour = s.pour := rfl
@[simp] theorem Upd.saf_faults : ((Upd.saf v).apply s).faults = s.faults := rfl
@[simp] theorem Upd.saf_pep : ((Upd.saf v).apply s).pep = s.pep := rfl
@[simp] theorem Upd.saf_power : ((Upd.saf v).apply s).power = s.power := rfl
@[simp] theorem Upd.saf_resp : ((Upd.saf v).apply s).resp = s.resp := rfl
@[simp] theorem Upd.saf_dbg : ((Upd.saf v).apply s).dbg = s.dbg := rfl
@[simp] theorem Upd.saf_pst : ((Upd.saf v).apply s).pst = s.pst := rfl
@[simp] theorem Upd.saf_boot : ((Upd.saf v).apply s).boot = s.boot := rfl
@[simp] theorem Upd.saf_svc : ((Upd.saf v).apply s).svc = s.svc := rfl
@[simp] theorem Upd.saf_freeCtr : ((Upd.saf v).apply s).freeCtr = s.freeCtr := rfl
end

section
variable (v : SvcSt)
@[simp] theorem Upd.svc_flds : ((Upd.svc v).apply s).flds = s.flds := rfl
@[simp] theorem Upd.svc_slag : ((Upd.svc v).apply s).slag = s.slag := rfl
@[simp] theorem Upd.svc_seam : ((Upd.svc v).apply s).seam = s.seam := rfl
@[simp] theorem Upd.svc_align : ((Upd.svc v).apply s).align = s.align := rfl
@[simp] theorem Upd.svc_gclk : ((Upd.svc v).apply s).gclk = s.gclk := rfl
@[simp] theorem Upd.svc_dec : ((Upd.svc v).apply s).dec = s.dec := rfl
@[simp] theorem Upd.svc_ctl : ((Upd.svc v).apply s).ctl = s.ctl := rfl
@[simp] theorem Upd.svc_cores : ((Upd.svc v).apply s).cores = s.cores := rfl
@[simp] theorem Upd.svc_mes : ((Upd.svc v).apply s).mes = s.mes := rfl
@[simp] theorem Upd.svc_ses : ((Upd.svc v).apply s).ses = s.ses := rfl
@[simp] theorem Upd.svc_vus : ((Upd.svc v).apply s).vus = s.vus := rfl
@[simp] theorem Upd.svc_spd : ((Upd.svc v).apply s).spd = s.spd := rfl
@[simp] theorem Upd.svc_spdPoison : ((Upd.svc v).apply s).spdPoison = s.spdPoison := rfl
@[simp] theorem Upd.svc_dram : ((Upd.svc v).apply s).dram = s.dram := rfl
@[simp] theorem Upd.svc_dramPoison : ((Upd.svc v).apply s).dramPoison = s.dramPoison := rfl
@[simp] theorem Upd.svc_dramWritten : ((Upd.svc v).apply s).dramWritten = s.dramWritten := rfl
@[simp] theorem Upd.svc_caches : ((Upd.svc v).apply s).caches = s.caches := rfl
@[simp] theorem Upd.svc_refreshOnly : ((Upd.svc v).apply s).refreshOnly = s.refreshOnly := rfl
@[simp] theorem Upd.svc_refreshed : ((Upd.svc v).apply s).refreshed = s.refreshed := rfl
@[simp] theorem Upd.svc_flasks : ((Upd.svc v).apply s).flasks = s.flasks := rfl
@[simp] theorem Upd.svc_queues : ((Upd.svc v).apply s).queues = s.queues := rfl
@[simp] theorem Upd.svc_ldls : ((Upd.svc v).apply s).ldls = s.ldls := rfl
@[simp] theorem Upd.svc_msix : ((Upd.svc v).apply s).msix = s.msix := rfl
@[simp] theorem Upd.svc_hports : ((Upd.svc v).apply s).hports = s.hports := rfl
@[simp] theorem Upd.svc_hostOut : ((Upd.svc v).apply s).hostOut = s.hostOut := rfl
@[simp] theorem Upd.svc_rings : ((Upd.svc v).apply s).rings = s.rings := rfl
@[simp] theorem Upd.svc_ev : ((Upd.svc v).apply s).ev = s.ev := rfl
@[simp] theorem Upd.svc_slots : ((Upd.svc v).apply s).slots = s.slots := rfl
@[simp] theorem Upd.svc_mbOrder : ((Upd.svc v).apply s).mbOrder = s.mbOrder := rfl
@[simp] theorem Upd.svc_msgs : ((Upd.svc v).apply s).msgs = s.msgs := rfl
@[simp] theorem Upd.svc_ports : ((Upd.svc v).apply s).ports = s.ports := rfl
@[simp] theorem Upd.svc_pour : ((Upd.svc v).apply s).pour = s.pour := rfl
@[simp] theorem Upd.svc_faults : ((Upd.svc v).apply s).faults = s.faults := rfl
@[simp] theorem Upd.svc_pep : ((Upd.svc v).apply s).pep = s.pep := rfl
@[simp] theorem Upd.svc_power : ((Upd.svc v).apply s).power = s.power := rfl
@[simp] theorem Upd.svc_resp : ((Upd.svc v).apply s).resp = s.resp := rfl
@[simp] theorem Upd.svc_dbg : ((Upd.svc v).apply s).dbg = s.dbg := rfl
@[simp] theorem Upd.svc_pst : ((Upd.svc v).apply s).pst = s.pst := rfl
@[simp] theorem Upd.svc_boot : ((Upd.svc v).apply s).boot = s.boot := rfl
@[simp] theorem Upd.svc_saf : ((Upd.svc v).apply s).saf = s.saf := rfl
@[simp] theorem Upd.svc_freeCtr : ((Upd.svc v).apply s).freeCtr = s.freeCtr := rfl
end

section
variable (v : Nat)
@[simp] theorem Upd.freeCtr_flds : ((Upd.freeCtr v).apply s).flds = s.flds := rfl
@[simp] theorem Upd.freeCtr_slag : ((Upd.freeCtr v).apply s).slag = s.slag := rfl
@[simp] theorem Upd.freeCtr_seam : ((Upd.freeCtr v).apply s).seam = s.seam := rfl
@[simp] theorem Upd.freeCtr_align : ((Upd.freeCtr v).apply s).align = s.align := rfl
@[simp] theorem Upd.freeCtr_gclk : ((Upd.freeCtr v).apply s).gclk = s.gclk := rfl
@[simp] theorem Upd.freeCtr_dec : ((Upd.freeCtr v).apply s).dec = s.dec := rfl
@[simp] theorem Upd.freeCtr_ctl : ((Upd.freeCtr v).apply s).ctl = s.ctl := rfl
@[simp] theorem Upd.freeCtr_cores : ((Upd.freeCtr v).apply s).cores = s.cores := rfl
@[simp] theorem Upd.freeCtr_mes : ((Upd.freeCtr v).apply s).mes = s.mes := rfl
@[simp] theorem Upd.freeCtr_ses : ((Upd.freeCtr v).apply s).ses = s.ses := rfl
@[simp] theorem Upd.freeCtr_vus : ((Upd.freeCtr v).apply s).vus = s.vus := rfl
@[simp] theorem Upd.freeCtr_spd : ((Upd.freeCtr v).apply s).spd = s.spd := rfl
@[simp] theorem Upd.freeCtr_spdPoison : ((Upd.freeCtr v).apply s).spdPoison = s.spdPoison := rfl
@[simp] theorem Upd.freeCtr_dram : ((Upd.freeCtr v).apply s).dram = s.dram := rfl
@[simp] theorem Upd.freeCtr_dramPoison : ((Upd.freeCtr v).apply s).dramPoison = s.dramPoison := rfl
@[simp] theorem Upd.freeCtr_dramWritten : ((Upd.freeCtr v).apply s).dramWritten = s.dramWritten := rfl
@[simp] theorem Upd.freeCtr_caches : ((Upd.freeCtr v).apply s).caches = s.caches := rfl
@[simp] theorem Upd.freeCtr_refreshOnly : ((Upd.freeCtr v).apply s).refreshOnly = s.refreshOnly := rfl
@[simp] theorem Upd.freeCtr_refreshed : ((Upd.freeCtr v).apply s).refreshed = s.refreshed := rfl
@[simp] theorem Upd.freeCtr_flasks : ((Upd.freeCtr v).apply s).flasks = s.flasks := rfl
@[simp] theorem Upd.freeCtr_queues : ((Upd.freeCtr v).apply s).queues = s.queues := rfl
@[simp] theorem Upd.freeCtr_ldls : ((Upd.freeCtr v).apply s).ldls = s.ldls := rfl
@[simp] theorem Upd.freeCtr_msix : ((Upd.freeCtr v).apply s).msix = s.msix := rfl
@[simp] theorem Upd.freeCtr_hports : ((Upd.freeCtr v).apply s).hports = s.hports := rfl
@[simp] theorem Upd.freeCtr_hostOut : ((Upd.freeCtr v).apply s).hostOut = s.hostOut := rfl
@[simp] theorem Upd.freeCtr_rings : ((Upd.freeCtr v).apply s).rings = s.rings := rfl
@[simp] theorem Upd.freeCtr_ev : ((Upd.freeCtr v).apply s).ev = s.ev := rfl
@[simp] theorem Upd.freeCtr_slots : ((Upd.freeCtr v).apply s).slots = s.slots := rfl
@[simp] theorem Upd.freeCtr_mbOrder : ((Upd.freeCtr v).apply s).mbOrder = s.mbOrder := rfl
@[simp] theorem Upd.freeCtr_msgs : ((Upd.freeCtr v).apply s).msgs = s.msgs := rfl
@[simp] theorem Upd.freeCtr_ports : ((Upd.freeCtr v).apply s).ports = s.ports := rfl
@[simp] theorem Upd.freeCtr_pour : ((Upd.freeCtr v).apply s).pour = s.pour := rfl
@[simp] theorem Upd.freeCtr_faults : ((Upd.freeCtr v).apply s).faults = s.faults := rfl
@[simp] theorem Upd.freeCtr_pep : ((Upd.freeCtr v).apply s).pep = s.pep := rfl
@[simp] theorem Upd.freeCtr_power : ((Upd.freeCtr v).apply s).power = s.power := rfl
@[simp] theorem Upd.freeCtr_resp : ((Upd.freeCtr v).apply s).resp = s.resp := rfl
@[simp] theorem Upd.freeCtr_dbg : ((Upd.freeCtr v).apply s).dbg = s.dbg := rfl
@[simp] theorem Upd.freeCtr_pst : ((Upd.freeCtr v).apply s).pst = s.pst := rfl
@[simp] theorem Upd.freeCtr_boot : ((Upd.freeCtr v).apply s).boot = s.boot := rfl
@[simp] theorem Upd.freeCtr_saf : ((Upd.freeCtr v).apply s).saf = s.saf := rfl
@[simp] theorem Upd.freeCtr_svc : ((Upd.freeCtr v).apply s).svc = s.svc := rfl
end

section
variable (f : Fld) (i v : Nat)
@[simp] theorem Upd.fld_slag : ((Upd.fld f i v).apply s).slag = s.slag := by simp only [Upd.apply]; split <;> rfl
@[simp] theorem Upd.fld_seam : ((Upd.fld f i v).apply s).seam = s.seam := by simp only [Upd.apply]; split <;> rfl
@[simp] theorem Upd.fld_align : ((Upd.fld f i v).apply s).align = s.align := by simp only [Upd.apply]; split <;> rfl
@[simp] theorem Upd.fld_gclk : ((Upd.fld f i v).apply s).gclk = s.gclk := by simp only [Upd.apply]; split <;> rfl
@[simp] theorem Upd.fld_dec : ((Upd.fld f i v).apply s).dec = s.dec := by simp only [Upd.apply]; split <;> rfl
@[simp] theorem Upd.fld_ctl : ((Upd.fld f i v).apply s).ctl = s.ctl := by simp only [Upd.apply]; split <;> rfl
@[simp] theorem Upd.fld_cores : ((Upd.fld f i v).apply s).cores = s.cores := by simp only [Upd.apply]; split <;> rfl
@[simp] theorem Upd.fld_mes : ((Upd.fld f i v).apply s).mes = s.mes := by simp only [Upd.apply]; split <;> rfl
@[simp] theorem Upd.fld_ses : ((Upd.fld f i v).apply s).ses = s.ses := by simp only [Upd.apply]; split <;> rfl
@[simp] theorem Upd.fld_vus : ((Upd.fld f i v).apply s).vus = s.vus := by simp only [Upd.apply]; split <;> rfl
@[simp] theorem Upd.fld_spd : ((Upd.fld f i v).apply s).spd = s.spd := by simp only [Upd.apply]; split <;> rfl
@[simp] theorem Upd.fld_spdPoison : ((Upd.fld f i v).apply s).spdPoison = s.spdPoison := by simp only [Upd.apply]; split <;> rfl
@[simp] theorem Upd.fld_dram : ((Upd.fld f i v).apply s).dram = s.dram := by simp only [Upd.apply]; split <;> rfl
@[simp] theorem Upd.fld_dramPoison : ((Upd.fld f i v).apply s).dramPoison = s.dramPoison := by simp only [Upd.apply]; split <;> rfl
@[simp] theorem Upd.fld_dramWritten : ((Upd.fld f i v).apply s).dramWritten = s.dramWritten := by simp only [Upd.apply]; split <;> rfl
@[simp] theorem Upd.fld_caches : ((Upd.fld f i v).apply s).caches = s.caches := by simp only [Upd.apply]; split <;> rfl
@[simp] theorem Upd.fld_refreshOnly : ((Upd.fld f i v).apply s).refreshOnly = s.refreshOnly := by simp only [Upd.apply]; split <;> rfl
@[simp] theorem Upd.fld_refreshed : ((Upd.fld f i v).apply s).refreshed = s.refreshed := by simp only [Upd.apply]; split <;> rfl
@[simp] theorem Upd.fld_flasks : ((Upd.fld f i v).apply s).flasks = s.flasks := by simp only [Upd.apply]; split <;> rfl
@[simp] theorem Upd.fld_queues : ((Upd.fld f i v).apply s).queues = s.queues := by simp only [Upd.apply]; split <;> rfl
@[simp] theorem Upd.fld_ldls : ((Upd.fld f i v).apply s).ldls = s.ldls := by simp only [Upd.apply]; split <;> rfl
@[simp] theorem Upd.fld_msix : ((Upd.fld f i v).apply s).msix = s.msix := by simp only [Upd.apply]; split <;> rfl
@[simp] theorem Upd.fld_hports : ((Upd.fld f i v).apply s).hports = s.hports := by simp only [Upd.apply]; split <;> rfl
@[simp] theorem Upd.fld_hostOut : ((Upd.fld f i v).apply s).hostOut = s.hostOut := by simp only [Upd.apply]; split <;> rfl
@[simp] theorem Upd.fld_rings : ((Upd.fld f i v).apply s).rings = s.rings := by simp only [Upd.apply]; split <;> rfl
@[simp] theorem Upd.fld_ev : ((Upd.fld f i v).apply s).ev = s.ev := by simp only [Upd.apply]; split <;> rfl
@[simp] theorem Upd.fld_slots : ((Upd.fld f i v).apply s).slots = s.slots := by simp only [Upd.apply]; split <;> rfl
@[simp] theorem Upd.fld_mbOrder : ((Upd.fld f i v).apply s).mbOrder = s.mbOrder := by simp only [Upd.apply]; split <;> rfl
@[simp] theorem Upd.fld_msgs : ((Upd.fld f i v).apply s).msgs = s.msgs := by simp only [Upd.apply]; split <;> rfl
@[simp] theorem Upd.fld_ports : ((Upd.fld f i v).apply s).ports = s.ports := by simp only [Upd.apply]; split <;> rfl
@[simp] theorem Upd.fld_pour : ((Upd.fld f i v).apply s).pour = s.pour := by simp only [Upd.apply]; split <;> rfl
@[simp] theorem Upd.fld_faults : ((Upd.fld f i v).apply s).faults = s.faults := by simp only [Upd.apply]; split <;> rfl
@[simp] theorem Upd.fld_pep : ((Upd.fld f i v).apply s).pep = s.pep := by simp only [Upd.apply]; split <;> rfl
@[simp] theorem Upd.fld_power : ((Upd.fld f i v).apply s).power = s.power := by simp only [Upd.apply]; split <;> rfl
@[simp] theorem Upd.fld_resp : ((Upd.fld f i v).apply s).resp = s.resp := by simp only [Upd.apply]; split <;> rfl
@[simp] theorem Upd.fld_dbg : ((Upd.fld f i v).apply s).dbg = s.dbg := by simp only [Upd.apply]; split <;> rfl
@[simp] theorem Upd.fld_pst : ((Upd.fld f i v).apply s).pst = s.pst := by simp only [Upd.apply]; split <;> rfl
@[simp] theorem Upd.fld_boot : ((Upd.fld f i v).apply s).boot = s.boot := by simp only [Upd.apply]; split <;> rfl
@[simp] theorem Upd.fld_saf : ((Upd.fld f i v).apply s).saf = s.saf := by simp only [Upd.apply]; split <;> rfl
@[simp] theorem Upd.fld_svc : ((Upd.fld f i v).apply s).svc = s.svc := by simp only [Upd.apply]; split <;> rfl
@[simp] theorem Upd.fld_freeCtr : ((Upd.fld f i v).apply s).freeCtr = s.freeCtr := by simp only [Upd.apply]; split <;> rfl
end

/-! Units and fields read after an update of another part. -/

@[simp] theorem Upd.slag_fget (v : SlagSt) (f : Fld) (i : Nat) : ((Upd.slag v).apply s).fget f i = s.fget f i := rfl
@[simp] theorem Upd.seam_fget (v : SeamSt) (f : Fld) (i : Nat) : ((Upd.seam v).apply s).fget f i = s.fget f i := rfl
@[simp] theorem Upd.align_fget (v : AlignSt) (f : Fld) (i : Nat) : ((Upd.align v).apply s).fget f i = s.fget f i := rfl
@[simp] theorem Upd.gclk_fget (v : GridClk) (f : Fld) (i : Nat) : ((Upd.gclk v).apply s).fget f i = s.fget f i := rfl
@[simp] theorem Upd.dec_fget (v : DecisionSt) (f : Fld) (i : Nat) : ((Upd.dec v).apply s).fget f i = s.fget f i := rfl
@[simp] theorem Upd.ctl_fget (v : CtlSt) (f : Fld) (i : Nat) : ((Upd.ctl v).apply s).fget f i = s.fget f i := rfl
@[simp] theorem Upd.cores_fget (k : Nat) (v : CoreSt) (f : Fld) (i : Nat) : ((Upd.cores k v).apply s).fget f i = s.fget f i := rfl
@[simp] theorem Upd.coresClear_fget (lo hi : Nat) (f : Fld) (i : Nat) : ((Upd.coresClear lo hi).apply s).fget f i = s.fget f i := rfl
@[simp] theorem Upd.mes_fget (k : Nat) (v : EngSt) (f : Fld) (i : Nat) : ((Upd.mes k v).apply s).fget f i = s.fget f i := rfl
@[simp] theorem Upd.mesClear_fget (lo hi : Nat) (f : Fld) (i : Nat) : ((Upd.mesClear lo hi).apply s).fget f i = s.fget f i := rfl
@[simp] theorem Upd.ses_fget (k : Nat) (v : EngSt) (f : Fld) (i : Nat) : ((Upd.ses k v).apply s).fget f i = s.fget f i := rfl
@[simp] theorem Upd.sesClear_fget (lo hi : Nat) (f : Fld) (i : Nat) : ((Upd.sesClear lo hi).apply s).fget f i = s.fget f i := rfl
@[simp] theorem Upd.vus_fget (k : Nat) (v : VuSt) (f : Fld) (i : Nat) : ((Upd.vus k v).apply s).fget f i = s.fget f i := rfl
@[simp] theorem Upd.vusClear_fget (lo hi : Nat) (f : Fld) (i : Nat) : ((Upd.vusClear lo hi).apply s).fget f i = s.fget f i := rfl
@[simp] theorem Upd.spd_fget (a : Nat) (bs : List Byte) (f : Fld) (i : Nat) : ((Upd.spd a bs).apply s).fget f i = s.fget f i := rfl
@[simp] theorem Upd.spdClear_fget (lo hi : Nat) (f : Fld) (i : Nat) : ((Upd.spdClear lo hi).apply s).fget f i = s.fget f i := rfl
@[simp] theorem Upd.spdPoison_fget (k : Nat) (b : Bool) (f : Fld) (i : Nat) : ((Upd.spdPoison k b).apply s).fget f i = s.fget f i := rfl
@[simp] theorem Upd.spdPoisonClear_fget (lo hi : Nat) (f : Fld) (i : Nat) : ((Upd.spdPoisonClear lo hi).apply s).fget f i = s.fget f i := rfl
@[simp] theorem Upd.dram_fget (a : Nat) (bs : List Byte) (f : Fld) (i : Nat) : ((Upd.dram a bs).apply s).fget f i = s.fget f i := rfl
@[simp] theorem Upd.dramClear_fget (lo hi : Nat) (f : Fld) (i : Nat) : ((Upd.dramClear lo hi).apply s).fget f i = s.fget f i := rfl
@[simp] theorem Upd.dramPoison_fget (k : Nat) (b : Bool) (f : Fld) (i : Nat) : ((Upd.dramPoison k b).apply s).fget f i = s.fget f i := rfl
@[simp] theorem Upd.dramPoisonClear_fget (lo hi : Nat) (f : Fld) (i : Nat) : ((Upd.dramPoisonClear lo hi).apply s).fget f i = s.fget f i := rfl
@[simp] theorem Upd.dramWritten_fget (k : Nat) (b : Bool) (f : Fld) (i : Nat) : ((Upd.dramWritten k b).apply s).fget f i = s.fget f i := rfl
@[simp] theorem Upd.dramWrittenClear_fget (lo hi : Nat) (f : Fld) (i : Nat) : ((Upd.dramWrittenClear lo hi).apply s).fget f i = s.fget f i := rfl
@[simp] theorem Upd.caches_fget (k : Nat) (v : CacheSt) (f : Fld) (i : Nat) : ((Upd.caches k v).apply s).fget f i = s.fget f i := rfl
@[simp] theorem Upd.cachesClear_fget (lo hi : Nat) (f : Fld) (i : Nat) : ((Upd.cachesClear lo hi).apply s).fget f i = s.fget f i := rfl
@[simp] theorem Upd.refreshOnly_fget (k : Nat) (b : Bool) (f : Fld) (i : Nat) : ((Upd.refreshOnly k b).apply s).fget f i = s.fget f i := rfl
@[simp] theorem Upd.refreshOnlyClear_fget (lo hi : Nat) (f : Fld) (i : Nat) : ((Upd.refreshOnlyClear lo hi).apply s).fget f i = s.fget f i := rfl
@[simp] theorem Upd.refreshed_fget (k : Nat) (v : Nat) (f : Fld) (i : Nat) : ((Upd.refreshed k v).apply s).fget f i = s.fget f i := rfl
@[simp] theorem Upd.refreshedClear_fget (lo hi : Nat) (f : Fld) (i : Nat) : ((Upd.refreshedClear lo hi).apply s).fget f i = s.fget f i := rfl
@[simp] theorem Upd.flasks_fget (k : Nat) (v : FlaskSt) (f : Fld) (i : Nat) : ((Upd.flasks k v).apply s).fget f i = s.fget f i := rfl
@[simp] theorem Upd.flasksClear_fget (lo hi : Nat) (f : Fld) (i : Nat) : ((Upd.flasksClear lo hi).apply s).fget f i = s.fget f i := rfl
@[simp] theorem Upd.queues_fget (k : Nat) (v : QueueSt) (f : Fld) (i : Nat) : ((Upd.queues k v).apply s).fget f i = s.fget f i := rfl
@[simp] theorem Upd.queuesClear_fget (lo hi : Nat) (f : Fld) (i : Nat) : ((Upd.queuesClear lo hi).apply s).fget f i = s.fget f i := rfl
@[simp] theorem Upd.ldls_fget (k : Nat) (v : LdlSt) (f : Fld) (i : Nat) : ((Upd.ldls k v).apply s).fget f i = s.fget f i := rfl
@[simp] theorem Upd.ldlsClear_fget (lo hi : Nat) (f : Fld) (i : Nat) : ((Upd.ldlsClear lo hi).apply s).fget f i = s.fget f i := rfl
@[simp] theorem Upd.msix_fget (k : Nat) (v : MsixEntry) (f : Fld) (i : Nat) : ((Upd.msix k v).apply s).fget f i = s.fget f i := rfl
@[simp] theorem Upd.msixClear_fget (lo hi : Nat) (f : Fld) (i : Nat) : ((Upd.msixClear lo hi).apply s).fget f i = s.fget f i := rfl
@[simp] theorem Upd.hports_fget (k : Nat) (v : HostPort) (f : Fld) (i : Nat) : ((Upd.hports k v).apply s).fget f i = s.fget f i := rfl
@[simp] theorem Upd.hportsClear_fget (lo hi : Nat) (f : Fld) (i : Nat) : ((Upd.hportsClear lo hi).apply s).fget f i = s.fget f i := rfl
@[simp] theorem Upd.hostOut_fget (x : HostWr) (f : Fld) (i : Nat) : ((Upd.hostOut x).apply s).fget f i = s.fget f i := rfl
@[simp] theorem Upd.rings_fget (k : Nat) (v : RingSt) (f : Fld) (i : Nat) : ((Upd.rings k v).apply s).fget f i = s.fget f i := rfl
@[simp] theorem Upd.ringsClear_fget (lo hi : Nat) (f : Fld) (i : Nat) : ((Upd.ringsClear lo hi).apply s).fget f i = s.fget f i := rfl
@[simp] theorem Upd.ev_fget (v : EventSt) (f : Fld) (i : Nat) : ((Upd.ev v).apply s).fget f i = s.fget f i := rfl
@[simp] theorem Upd.slots_fget (k : Nat) (v : MbSlot) (f : Fld) (i : Nat) : ((Upd.slots k v).apply s).fget f i = s.fget f i := rfl
@[simp] theorem Upd.slotsClear_fget (lo hi : Nat) (f : Fld) (i : Nat) : ((Upd.slotsClear lo hi).apply s).fget f i = s.fget f i := rfl
@[simp] theorem Upd.mbOrder_fget (v : Nat) (f : Fld) (i : Nat) : ((Upd.mbOrder v).apply s).fget f i = s.fget f i := rfl
@[simp] theorem Upd.msgs_fget (x : OutMsg) (f : Fld) (i : Nat) : ((Upd.msgs x).apply s).fget f i = s.fget f i := rfl
@[simp] theorem Upd.ports_fget (k : Nat) (v : PortSt) (f : Fld) (i : Nat) : ((Upd.ports k v).apply s).fget f i = s.fget f i := rfl
@[simp] theorem Upd.portsClear_fget (lo hi : Nat) (f : Fld) (i : Nat) : ((Upd.portsClear lo hi).apply s).fget f i = s.fget f i := rfl
@[simp] theorem Upd.pour_fget (v : PourSt) (f : Fld) (i : Nat) : ((Upd.pour v).apply s).fget f i = s.fget f i := rfl
@[simp] theorem Upd.faults_fget (v : FaultSt) (f : Fld) (i : Nat) : ((Upd.faults v).apply s).fget f i = s.fget f i := rfl
@[simp] theorem Upd.pep_fget (v : PepSt) (f : Fld) (i : Nat) : ((Upd.pep v).apply s).fget f i = s.fget f i := rfl
@[simp] theorem Upd.power_fget (v : PowerSt) (f : Fld) (i : Nat) : ((Upd.power v).apply s).fget f i = s.fget f i := rfl
@[simp] theorem Upd.resp_fget (v : Option RespSt) (f : Fld) (i : Nat) : ((Upd.resp v).apply s).fget f i = s.fget f i := rfl
@[simp] theorem Upd.dbg_fget (v : DbgSt) (f : Fld) (i : Nat) : ((Upd.dbg v).apply s).fget f i = s.fget f i := rfl
@[simp] theorem Upd.pst_fget (v : PstSt) (f : Fld) (i : Nat) : ((Upd.pst v).apply s).fget f i = s.fget f i := rfl
@[simp] theorem Upd.boot_fget (v : BootSt) (f : Fld) (i : Nat) : ((Upd.boot v).apply s).fget f i = s.fget f i := rfl
@[simp] theorem Upd.saf_fget (v : SafSt) (f : Fld) (i : Nat) : ((Upd.saf v).apply s).fget f i = s.fget f i := rfl
@[simp] theorem Upd.svc_fget (v : SvcSt) (f : Fld) (i : Nat) : ((Upd.svc v).apply s).fget f i = s.fget f i := rfl
@[simp] theorem Upd.freeCtr_fget (v : Nat) (f : Fld) (i : Nat) : ((Upd.freeCtr v).apply s).fget f i = s.fget f i := rfl

end Sys2Proof.Machine
end

