-- ==== Sys2Proof/Tests/Slice0.lean ====
section
/-! SUPPORT. Tests: terms that are not well formed, small runs of one command with results that the spec's own examples give,
and for every statement of the obligations states that meet its hypotheses, clause by clause. -/
set_option linter.all false
set_option maxRecDepth 8000
set_option Elab.async false
namespace Sys2Proof.Tests
open Sys2Proof.Machine

/-- The reset state after some updates. -/
def st (us : List Upd) : State := applyAll us State.reset
/-- A slot with a running command. -/
def cmdIn (k code : Nat) (args : List Byte) : Upd := .slots k { MbSlot.none with cmd := code, state := 2, args }
/-- The boot stage. -/
def stageIs (n : Nat) : Upd := .fld F.MOD_BOOT_STAT_STAGE 0 n
/-- A core in RUN. -/
def runsCore (p : Nat) : Upd := .fld F.CORE_STAT_STATE p 3
/-- A Slosy request. -/
def request (cmd : Nat) (payload : List Byte) : Upd := .dbg { State.reset.dbg with req := some { tag := 0, cmd, session := 0, payload } }
/-- The state of an outcome. -/
def nextOf (o : Host.Outcome State Fault Refusal) : State := match o with | .next t => t | _ => State.reset

/-- A decision record. -/
def dec1 : Decision := { seq := 1, pstep := 12, temper := 0, bubbles := 0, target := 1000, tag := 0, crcOk := true }
/-- A flask control record. -/
def ctl1 : CtlRec := { seq := 1, kind := 2, mouldIdLow := 0, target := 0, tag := 0, crcOk := true }
/-- A boot that meets nothing. -/
def env1 : BootEnv := { flashErr := 0, sizeLog2 := 26, quad := true, clockMhz := 0, fusesOk := true, sigA := true, sigB := true, stageFault := none, selfTest := [], cacheFail := [], hbmFail := [], agentBad := [], portsUp := [], cellLost := false, ms := 0 }
/-- A Mould image of two cores: 1,664 B. -/
def img : List Byte :=
  [77, 79, 76, 68, 2, 0, 0, 1, 3, 0, 32, 0, 255, 255, 255, 255, 1, 0, 0, 0, 128, 6, 0, 0, 15, 0, 1, 0, 2] ++ List.replicate 19 0
   ++ [174, 134, 118, 102, 180, 101, 173, 150, 1] ++ List.replicate 199 0 ++ [1, 255, 255, 255, 0, 3, 0, 0, 18, 0, 0, 0, 88, 148, 200, 21]
   ++ List.replicate 16 0 ++ [2, 0, 0, 0, 64, 3, 0, 0, 80, 0, 0, 0, 247, 86, 172, 146] ++ List.replicate 16 0 ++ [3, 0, 0, 0, 192, 3] ++ List.replicate 26 0
   ++ [4, 0, 0, 0, 192, 3, 0, 0, 48, 0, 0, 0, 219, 209, 26, 25] ++ List.replicate 16 0 ++ [6, 255, 0, 0, 0, 4] ++ List.replicate 26 0
   ++ [7, 255, 0, 0, 0, 4] ++ List.replicate 26 0 ++ [11, 0, 0, 0, 0, 4, 0, 0, 16, 0, 0, 0, 85, 75, 187, 236] ++ List.replicate 16 0
   ++ [2, 0, 1, 0, 64, 4, 0, 0, 80, 0, 0, 0, 247, 86, 172, 146] ++ List.replicate 16 0 ++ [3, 0, 1, 0, 192, 4] ++ List.replicate 26 0
   ++ [4, 0, 1, 0, 192, 4, 0, 0, 48, 0, 0, 0, 131, 16, 132, 210] ++ List.replicate 16 0 ++ [6, 255, 1, 0, 0, 5] ++ List.replicate 26 0
   ++ [7, 255, 1, 0, 0, 5] ++ List.replicate 26 0 ++ [11, 0, 1, 0, 0, 5, 0, 0, 16, 0, 0, 0, 85, 75, 187, 236] ++ List.replicate 16 0
   ++ [8, 0, 255, 255, 64, 5] ++ List.replicate 26 0 ++ [9, 255, 255, 255, 64, 5, 0, 0, 152, 0, 0, 0, 223, 198, 86, 39] ++ List.replicate 48 0 ++ [2]
   ++ List.replicate 16 0 ++ [1] ++ List.replicate 46 0 ++ [1, 0, 0, 0, 1] ++ List.replicate 59 0 ++ [15] ++ List.replicate 63 0 ++ [6, 0, 1]
   ++ List.replicate 15 0 ++ [1, 0, 0, 8, 1] ++ List.replicate 105 0 ++ [1, 0, 0, 0, 1] ++ List.replicate 59 0 ++ [15] ++ List.replicate 63 0 ++ [6, 0, 1]
   ++ List.replicate 13 0 ++ [2, 0, 1, 0, 8, 2, 1] ++ List.replicate 11 0 ++ [2] ++ List.replicate 93 0 ++ [1] ++ List.replicate 19 0
   ++ [1, 0, 0, 0, 144, 0, 0, 0, 1] ++ List.replicate 117 0 ++ [80, 14] ++ List.replicate 172 0
/-- A load whose signature holds. -/
def lenv1 : LoadEnv := { signatureOk := true, padOk := [], verifyFail := false }
/-- The operands of a vector operation. -/
def vopOf (opc fmt : Nat) : VopArgs := { vu := 0, nonsat := false, opc, vd := 1, va := 2, vb := 3, vc := 4, fmt, imm := 0, sreg := 0, tag := 0, parity := [] }
/-- A beat of zeros. -/
def beat (null : Bool) : Beat := { flags := 0, null, elastic := false, frame := 0, epoch := 0, flow := 0, row := 0, payload := List.replicate 128 0 }
/-- An elastic cell without bytes. -/
def elCell (rsp : Bool) : ElCell := { eseq := 0, rsp, dest := 0, src := 0, flags := 0, seg := 0, last := true, bytes := [] }
/-- An engine without faults. -/
def noFaults : EngFaults := { parity := [], abufParity := [], uncorrected := [], corrected := [], conflicts := [] }
/-- A slot with a running command that already waits for something. -/
def cmdAt (k code : Nat) (args : List Byte) : Upd := .slots k { MbSlot.none with cmd := code, state := 2, args, phase := 1 }

/-! What is not well formed: a term for each check. -/

theorem test_wf_records :
    dec1.wf = true ∧ Decision.wf { dec1 with seq := 2 ^ 16 } = false ∧ Decision.wf { dec1 with pstep := 16 } = false ∧ Decision.wf { dec1 with temper := 4 } = false ∧
    Decision.wf { dec1 with bubbles := 49 } = false ∧ Decision.wf { dec1 with target := 2 ^ 64 } = false ∧ Decision.wf { dec1 with tag := 2 ^ 64 } = false ∧
    CtlRec.wf { ctl1 with kind := 0x18 } = true ∧ CtlRec.wf { ctl1 with kind := 0x10 } = false ∧ CtlRec.wf { ctl1 with kind := 0x19 } = false ∧
    CtlRec.wf { ctl1 with kind := 0x11, seq := 2 ^ 16 } = false ∧ CtlRec.wf { ctl1 with kind := 0x11, mouldIdLow := 2 ^ 32 } = false ∧
    SyncMsg.wf ⟨2 ^ 32, 0, 0, 0⟩ = false ∧ SyncMsg.wf ⟨0, 2 ^ 64, 0, 0⟩ = false ∧ SyncMsg.wf ⟨0, 0, 2 ^ 64, 0⟩ = false ∧ SyncMsg.wf ⟨0, 0, 0, 2 ^ 64⟩ = false ∧
    HelloMsg.wf ⟨23, 0, 0, 0, 0, 0⟩ = true ∧ HelloMsg.wf ⟨24, 0, 0, 0, 0, 0⟩ = false ∧ HelloMsg.wf ⟨0, 2 ^ 32, 0, 0, 0, 0⟩ = false ∧ HelloMsg.wf ⟨0, 0, 0, 0, 0, 2 ^ 64⟩ = false := by
  decide +kernel

theorem test_wf_links :
    (beat false).wf = true ∧ Beat.wf { beat false with flags := 32 } = false ∧ Beat.wf { beat false with payload := List.replicate 127 0 } = false ∧
    ElCell.wf { elCell false with bytes := List.replicate 128 0 } = true ∧ (elCell false).wf = false ∧ ElCell.wf { elCell false with bytes := List.replicate 128 0, seg := 3 } = false ∧
    ElCell.wf { elCell false with bytes := List.replicate 128 0, eseq := 256 } = false ∧ Cell.wf (.scheduled 2047 (beat true)) = true ∧
    Cell.wf (.scheduled 2048 (beat true)) = false ∧ Cell.wf (.elastic (elCell true)) = false ∧ Cell.wf (.lost (some 2048)) = false ∧ Cell.wf (.lost none) = true ∧
    LaneWindow.wf ⟨0, List.replicate 15 0, 0⟩ = true ∧ LaneWindow.wf ⟨0, List.replicate 14 0, 0⟩ = false ∧
    Departure.wf (.inject true { beat true with payload := [] }) = false ∧ Departure.wf (.forward 7 true) = true := by decide +kernel

theorem test_wf_accesses :
    dataOk (List.replicate 4096 0) = true ∧ dataOk (List.replicate 4097 0) = false ∧ AccessOp.wf (.read 4097) = false ∧ AccessOp.wf (.addOnWrite 256 []) = false ∧
    AccessOp.wf (.write (List.replicate 4097 0)) = false ∧ RegTarget.wf (.bar0 (2 ^ 24 - 1)) = true ∧ RegTarget.wf (.bar0 (2 ^ 24)) = false ∧
    RegTarget.wf (.bar2 (2 ^ 27)) = false ∧ FabricReq.wf ⟨2 ^ 64, .read 8, true, none, 0, none, false⟩ = false ∧
    FabricReq.wf ⟨0, .read 8, true, none, 2 ^ 32, none, false⟩ = false ∧ BpHit.wf ⟨2 ^ 64, false, 0, 0, 0, 0⟩ = false ∧ BpHit.wf ⟨0, false, 0, 2 ^ 16, 0, 0⟩ = false ∧
    FetchResult.wf (.data [List.replicate 63 0]) = false ∧ FetchResult.wf .abort = true ∧ EnergySample.wf ⟨0, List.replicate 20 0, [(159, 1)], []⟩ = true ∧
    EnergySample.wf ⟨0, List.replicate 19 0, [], []⟩ = false ∧ EnergySample.wf ⟨0, List.replicate 20 0, [(160, 1)], []⟩ = false ∧
    env1.wf = true ∧ BootEnv.wf { env1 with stageFault := some (8, 0) } = false ∧ BootEnv.wf { env1 with selfTest := [(0, 0, 0)] } = false ∧
    BootEnv.wf { env1 with selfTest := [(1, 0, 160)] } = false := by decide +kernel

theorem test_wf_commands :
    (Instr.go { dec1 with bubbles := 49 }).wf = false ∧ (Instr.go dec1).wf = true ∧ (Instr.goDeadline (2 ^ 64)).wf = false ∧ (Instr.start ctl1).wf = false ∧
    (Instr.telemetryReceive 0 (List.replicate 63 0)).wf = false ∧ (Instr.elasticEntryArrival 0 0 0 [] false).wf = false ∧
    (Instr.elasticCell 0 (elCell false)).wf = false ∧ (Instr.slosyFrame (List.replicate 4097 0) 0).wf = false ∧
    (Instr.ldlContextStart 0 0 [(0, List.replicate 4097 0)]).wf = false ∧ (Instr.qualifyWindowEnd 0 [⟨0, [], 0⟩] 0).wf = false := by decide +kernel

/-! Commands and the arithmetic under them, with results that the spec's own examples give. -/

/-- R54: MOD_ID. -/
theorem test_identity : State.reset.regVal .MOD_ID 0 = 0x0003_0020_B001_0000 := by decide +kernel

/-- R76: the bubbles of 3 and of 2 (the cap example of the power chapter). -/
theorem test_bubbles : (List.range 64).filter (bubbled 3) = [10, 32, 53] ∧ (List.range 64).filter (bubbled 2) = [16, 48] := by decide +kernel

/-- The example of R49's addresses: scratchpad byte 0x0123_4560 of logical core 50 of module 300. -/
theorem test_fabric_address : faModule 0x012C_0320_0123_4560 = 300 ∧ faSpace 0x012C_0320_0123_4560 = 0 ∧ faCore 0x012C_0320_0123_4560 = 50 ∧
    faSpd 0x012C_0320_0123_4560 = 0x1234560 ∧ faSpace 0x012C_4000_0196_AF00 = 4 := by decide +kernel

/-- The example of R36: the fence of physical core 57 in a core-row whose column 5 is fenced already. -/
theorem test_fence_moves_the_row :
    let s := st [.slag { State.reset.slag with run := [{ kind := 1, state := 1, reason := 1, flags := 0, location := 53, spare := 0xFFFF, tc := 0 }] },
      .fld F.MOD_ROW_MAP_r_MAP 3 0xFDCB_A987_65F4_3210]
    let t := nextOf (exec (.inServiceFence 57 1 []) s)
    t.fget F.MOD_ROW_MAP_r_MAP 3 = 0xDCBA_98F7_65F4_3210 ∧ t.fget F.MOD_GRID_STAT_WIDTH 0 = 14 ∧ t.physOf 50 = some 58 ∧ t.physOf 52 = some 60 := by decide +kernel

/-- The example of the MX formats: the scale byte and the elements of a block of MXFP4. -/
theorem test_mxfp4 : mxQuant 0x0D ([.fin false 11 0, f32 0xC0533333, f32 0x3F19999A, .fin false 1 (-1), .fin false 5 (-1), .fin true 7 0, f32 0x408CCCCD, .fin false 9 0] ++ List.replicate 24 (.fin false 0 0))
    = (0x80, [0x7, 0xB, 0x1, 0x0, 0x2, 0xE, 0x4, 0x6] ++ List.replicate 24 0, Flags.none) := by decide +kernel

/-- The example of the conversions of FP32 to FP8 E4M3. -/
theorem test_e4m3 :
    (convertTo 3 false (.fin false 300 0)).1 = 0x79 ∧ convertTo 3 false (.fin false 450 0) = (0x7E, Flags.none) ∧
    convertTo 3 false (.fin false 470 0) = (0x7E, Flags.justCsat) ∧ (convertTo 3 true (.fin false 470 0)).1 = 0x7F ∧
    convertTo 3 false (.fin true 1000000 0) = (0xFE, Flags.justCsat) ∧ (convertTo 3 true (.fin true 1000000 0)).1 = 0x7F ∧
    (convertTo 3 false (.fin false 1 (-10))).1 = 0 ∧ (convertTo 3 false (f32 0x3A83126F)).1 = 1 := by decide +kernel

/-- The example of the order of a chain: 2^24, 1, 1, -2^24 in two orders. -/
theorem test_chain_order :
    (chainAdd (chainAdd (chainAdd 0x4B800000 0x3F800000).1 0x3F800000).1 0xCB800000).1 = 0 ∧
    (chainAdd (chainAdd (chainAdd 0x3F800000 0x3F800000).1 0x4B800000).1 0xCB800000).1 = 0x40000000 := by decide +kernel

/-- The example of the scratchpad banks. -/
theorem test_banks : bankOf (0x123440 / 64) = 54 ∧ rowOf (0x123440 / 64) = 291 ∧ bankOf (0x123480 / 64) = 53 ∧ bankOf (0x124440 / 64) = 49 ∧
    bankOf (0xD80 / 64) = 54 := by decide +kernel

/-- The example of the arrival counters. -/
theorem test_arrival_compare : reached 29 28 = true ∧ reached 27 28 = false ∧ reached 28 (2 ^ 32 - 28) = true := by decide +kernel

/-- The example of a draw: token 5, in 429 cycles. -/
theorem test_draw :
    drawToken 4 0x3F666666 0x3F340000 [(17, 0x40400000), (5, 0x40000000), (902, 0x3F800000), (44, 0)] = some 5 ∧
    SampleOp.cycles ⟨0, 262144, 4, 0, 0, 0, 0, true, false, [], []⟩ = 429 ∧ SampleOp.cycles ⟨0, 262144, 50, 0, 0, 0, 0, true, false, [], []⟩ = 475 := by decide +kernel

/-- The example of R399: a lane that passes its window. -/
theorem test_lane_passes : winPasses ⟨0, [0, 0, 0, 900, 14] ++ List.replicate 10 0, 0⟩ = true := by decide +kernel

/-- The example of a cap below the load: 11 bubbles in temper 0, 2 in temper 1. -/
theorem test_cap : bubblesFor 11200 0 3000 100 100 (10000 * 98 * 100) 10000 100 = 11 ∧ bubblesFor 11200 0 3000 85 100 (10000 * 98 * 100) 10000 100 = 2 := by decide +kernel

/-- The check values that the two polynomials are published with. -/
theorem test_crc : crc32 [0x31, 0x32, 0x33, 0x34, 0x35, 0x36, 0x37, 0x38, 0x39] = 0xCBF43926 ∧
    crc64 [0x31, 0x32, 0x33, 0x34, 0x35, 0x36, 0x37, 0x38, 0x39] = 0x995DC9BBDF1939FA := by decide +kernel

/-- The example of MB_PORT_CTL: accepted and running, with its sequence number; with ARG_LEN 16 it fails with 0x0102 (R480). -/
theorem test_submit :
    let s := st [stageIs 7, .fld F.MOD_BOOT_STAT_READY 0 1, .slots 2 { MbSlot.none with payload := Mem.wrN [] 0 [0xA8, 0, 0, 0, 2] }]
    let t := nextOf (exec (.mbSubmit 2 0x8000_0042_0008_0205 255 0) s)
    (t.slot 2).state = 2 ∧ (t.slot 2).seq = 0x42 ∧ (t.slot 2).args = [0xA8, 0, 0, 0, 2, 0, 0, 0] ∧
    let u := nextOf (exec (.mbSubmit 2 0x8000_0042_0010_0205 255 0) s)
    (u.slot 2).state = 5 ∧ (u.slot 2).result = 0x0102 := by decide +kernel

/-- R209, R210: 64-bit wrap, and a write of s0 is discarded. -/
theorem test_scalar :
    let s := st [runsCore 0, .cores 0 { CoreSt.init with scalars := [(1, 2 ^ 64 - 1), (2, 3)] }]
    (nextOf (exec (.aluAdd 0 3 1 2) s)).scalar 0 3 = 2 ∧ (nextOf (exec (.aluAdd 0 0 1 2) s)).scalar 0 0 = 0 ∧
    (nextOf (exec (.aluShl 0 3 1 2) s)).scalar 0 3 = 2 ^ 64 - 8 := by decide +kernel

/-- R66: on an empty queue TC advances by 1, and in a slewed nanosecond by 2 (R70). -/
theorem test_tick : (nextOf (step State.reset)).tc = 1 ∧
    (nextOf (step (st [.align { State.reset.align with slew := 1 }, .fld F.TC_NOW_COUNT 0 5000]))).tc = 5002 := by decide +kernel

/-- R47: a fabric access that names a reserved space fails, and the first such address is held (R58). -/
theorem test_decode_fault :
    let t := nextOf (exec (.fabricAccess ⟨0xF000_0000_0040, .read 8, true, none, 0, none, false⟩) State.reset)
    t.fget F.MOD_FA_FAULT_INFO_VALID 0 = 1 ∧ t.fget F.MOD_FA_FAULT_ADDR_FA 0 = 0xF000_0000_0040 := by decide +kernel

/-- R705: an input sample beyond the ratings is the one stop. -/
theorem test_ratings : exec (.inputSample 65001 0 0 0) State.reset = .fault .beyondRatings ∧ exec (.inputSample (-1001) 0 0 0) State.reset = .fault .beyondRatings :=
  ⟨rfl, rfl⟩

/-- A state whose flask 0, of a pour, is drained except for its last step, with a failed decision noted. -/
def drainedPour : State :=
  st [.fld F.MOD_ROW_MAP_r_MAP 0 0xFEDCBA9876543210, .cores 0 { CoreSt.init with owner := some (0, 1) },
    .flasks 0 { FlaskSt.none with live := true, cores := [0], gib := 1, active := { MouldSt.none with present := true, cores := [0], pourSize := 2 }, draining := true },
    .fld F.CORE_STAT_STATE 0 4, .fld F.CLK_PSTEP_CURRENT 0 15, .fld F.CLK_PSTEP_SEQ 0 7, .fld F.CLK_PSTEP_BUBBLES 0 5,
    .dec { State.reset.dec with revert := some 7, prev := (12, 0, 3) }]

/-- The clause of RepairCommandsAct on the values that return (R84) applies in `drainedPour`, and FLASK_DRAIN returns them. -/
theorem witness_ValuesReturn :
    (drainedPour.flaskIn 0 4 && (drainedPour.flask 0).draining && !(drainedPour.flask 0).drained) = true ∧ drainedPour.drainedContexts 0 = true ∧
    drainedPour.faults.repairs = [] ∧ drainedPour.inPour 0 = true ∧ drainedPour.dec.revert = some (drainedPour.fget F.CLK_PSTEP_SEQ 0) ∧
    (∀ g ∈ drainedPour.pourFlasks, g ≠ 0 → drainedPour.flaskIn g 3 = false ∧ ((drainedPour.flask g).draining = false ∨ (drainedPour.flask g).drained = true)) ∧
    let t := nextOf (exec (.flaskDrain 0 0) drainedPour)
    t.pstep = 12 ∧ t.fget F.CLK_PSTEP_BUBBLES 0 = 3 ∧ t.dec.revert = none := by decide +kernel

/-- The clause of PourMailboxAndBeaconCommandsAct on the failed decision applies in a pour's module that committed one in the frame after the
beacon's. -/
theorem witness_FailedDecision :
    let s := st [.fld F.MOD_POUR_ID_POUR_TAG 0 5, .fld F.CLK_PSTEP_SEQ 0 9, .dec { State.reset.dec with lastCommit := 8 }]
    s.pourTag = 5 ∧ (s.pour.seen.any fun x => x.fst == 3 && x.snd.fst == 2 * 1 && decide (s.clockAt 0 < x.snd.snd + 1000000)) = false ∧
    3 ≠ s.module ∧ (nextOf (exec (.haltBeacon 0 2 3 1 7 5 0) s)).dec.revert = some 9 := by decide +kernel

/-! The premises of the statements on the step, the invariants and the register map. -/

theorem reset_wf : State.reset.Wf := by constructor <;> rfl

theorem st_wf (us : List Upd) : (st us).Wf := applyAll_wf us reset_wf

/-- A running flask 0 of the pour, on core 0. -/
def pourUps : List Upd :=
  [.fld F.MOD_ROW_MAP_r_MAP 0 0xFEDCBA9876543210, .fld F.CORE_STAT_STATE 0 3,
   .flasks 0 { FlaskSt.none with live := true, cores := [0], gib := 1, active := { MouldSt.none with present := true, cores := [0], pourSize := 2 } },
   .fld F.MOD_POUR_ID_POUR_TAG 0 1]

theorem witness_StepRunsTheFrontCommand : ∃ (c : Instr) (cs : List Instr) (s : State), s.pending = c :: cs :=
  ⟨.goDeadline 5, [], { State.reset with pending := [.goDeadline 5] }, rfl⟩

theorem witness_StepTakesOneCommandOrTicks :
    (∃ s : State, s.pending = [] ∧ s.pstate = 4) ∧ (∃ s : State, s.pending = [] ∧ s.pstate ≠ 4 ∧ s.align.slew = 0) ∧
    (∃ s : State, s.pending = [] ∧ s.pstate ≠ 4 ∧ s.align.slew = 3 ∧ s.tc < s.align.slewedAt + 1024) ∧
    (∃ s : State, s.pending = [] ∧ s.pstate ≠ 4 ∧ 0 < s.align.slew ∧ s.align.slewedAt + 1024 ≤ s.tc) ∧
    (∃ s : State, s.pending = [] ∧ s.pstate ≠ 4 ∧ s.align.slew < 0 ∧ s.align.slewedAt + 1024 ≤ s.tc) ∧
    ∃ s t : State, s.pending ≠ [] ∧ step s = .next t :=
  ⟨⟨st [.fld F.PST_STAT_STATE 0 4], by decide +kernel⟩, ⟨State.reset, by decide +kernel⟩,
   ⟨st [.align { State.reset.align with slew := 3 }], by decide +kernel⟩,
   ⟨st [.align { State.reset.align with slew := 3 }, .fld F.TC_NOW_COUNT 0 1024], by decide +kernel⟩,
   ⟨st [.align { State.reset.align with slew := -3 }, .fld F.TC_NOW_COUNT 0 1024], by decide +kernel⟩,
   { State.reset with pending := [.goDeadline 5] }, _, by decide, rfl⟩

theorem witness_StepKeepsTheStateWellFormed : ∃ s t : State, s.Wf ∧ s.pending ≠ [] ∧ step s = .next t :=
  ⟨{ State.reset with pending := [.goDeadline 5] }, _, { reset_wf with }, by decide, rfl⟩

theorem witness_TimeNeverRunsBackwardWhileThePourRuns :
    ∃ (c : Instr) (s t : State), s.Wf ∧ s.pourRuns = true ∧ s.tc + 2 < 2 ^ 64 ∧ (∀ env straps low, c ≠ .powerOn env straps low) ∧
      (∀ tc, c ≠ .pstateEntryComplete tc) ∧ exec c s = .next t :=
  ⟨.goDeadline 5, st pourUps, _, st_wf _, by decide +kernel, by decide +kernel, by simp, by simp, rfl⟩

theorem witness_SomeRegistersHaveOneWriter :
    ∃ (c : Instr) (s t : State), s.Wf ∧ clearsBlocks c = false ∧ exec c s = .next t ∧ (∀ k, c ≠ .mbCapSet k) ∧ (∀ k, c ≠ .mbCachePartSet k) ∧
      (∀ tc, c ≠ .frameBoundary tc) ∧ (∀ n, c ≠ .wakeTimer n) :=
  ⟨.goDeadline 5, st pourUps, _, st_wf _, rfl, rfl, by simp, by simp, by simp, by simp⟩

theorem witness_IdentityIsHardWired : ∃ s : State, s.Wf ∧ s ≠ State.reset := ⟨st [.freeCtr 1], st_wf _, by decide +kernel⟩

theorem witness_RegisterWritesFollowTheFieldTypes :
    (∃ (s : State) (r : Reg) (b : Nat), s.Wf ∧ ∀ f ∈ r.fields, b < f.lo ∨ f.lo + f.len ≤ b) ∧
    (∃ (off : Nat) (data : List Byte) (r : Reg) (i : Nat) (s : State), s.Wf ∧ off % 8 = 0 ∧ off < 0xF00000 ∧ data.length = 8 ∧
      Reg.atBar0 off = some (r, i) ∧ actsOnWrite r = false ∧ s.hostServed 0 = true ∧ s.mbServed = true ∧ hostReadOnly r = false) :=
  ⟨⟨State.reset, .MOD_FAULT_CTL, 63, reset_wf, by decide +kernel⟩,
   ⟨0xC00, natLe 8 1, .MOD_FAULT_CTL, 0, st [stageIs 5], st_wf _, by decide +kernel⟩⟩

theorem witness_ScalarRegistersAndTheirReset_write : ∃ r : Nat, 0 < r ∧ r < 32 := ⟨31, by decide⟩

theorem witness_TheWidthFollowsTheSlagMap_row : ∃ r : Nat, r < 10 := ⟨9, by decide⟩

theorem witness_SlotRolesUntilTheLock_open :
    ∃ s : State, s.Wf ∧ s.mbServed = true ∧ s.fget F.SAF_SLOT_ROLE_LOCK 0 = 0 := ⟨st [stageIs 5], st_wf _, by decide +kernel⟩

/-- A dirty line of the flask's region, which MB_CACHE_FLUSH cleans. -/
theorem witness_mbCacheFlush_line : ∃ (s t : State) (c : Nat) (l : CacheLine), s.Wf ∧ s.mbRuns 0 0x010C = true ∧
    (s.flask (leAt (s.slot 0).args 0 1)).live = true ∧ exec (.mbCacheFlush 0) s = .next t ∧ l ∈ (t.cache c).lines ∧ l.line = 0 :=
  ⟨st [.flasks 0 { FlaskSt.none with live := true, cores := [0], gib := 1 }, cmdIn 0 0x10C [0],
      .caches 0 { CacheSt.empty with lines := [{ line := 0, dirty := true, prefetched := false, spent := false, stream := false }] }], _, 0,
    { line := 0, dirty := false, prefetched := false, spent := false, stream := false }, st_wf _, by decide +kernel, by decide +kernel, rfl, by decide +kernel, rfl⟩

/-- An access of another form than a read, for the elastic timeout. -/
theorem witness_elasticAccessTimeout_write : ∃ op : AccessOp, ∀ n, op ≠ .read n := ⟨.write [0], by simp⟩

/-- Every operation of the classes 0, 1, 4 and 5 is issued by an idle unit of a running core. -/
theorem witness_VectorOperationsCompute_operations :
    (st [runsCore 0]).seqReady 0 = true ∧ ((st [runsCore 0]).vu 0).queued ((st [runsCore 0]).sc 0) < 8 ∧
    (∀ o ∈ [1, 2], ((st [runsCore 0]).due 0).vopValid 0 0 (vopOf o 0) = true) ∧
    (∀ o ∈ [16, 17, 18, 19, 20, 21, 22, 27, 28, 29], ((st [runsCore 0]).due 0).vopValid 0 1 (vopOf o 0) = true) ∧
    (∀ o ∈ [48, 49, 51, 52, 53, 54, 55, 56, 57, 58], ((st [runsCore 0]).due 0).vopValid 0 4 (vopOf o 0) = true) ∧
    (∀ o ∈ [64, 65, 66], ((st [runsCore 0]).due 0).vopValid 0 5 (vopOf o 0) = true) := by decide +kernel

/-! Images in DRAM: the premises of the statements on MB_MOULD_LOAD and MB_SCAN_IN. -/

/-- The first bytes of an image stored at device offset 0 read back where no weight key lies over it. -/
theorem devRd_stored (s : State) (m : List Host.Cell) (b : List Byte) (hk : s.saf.keys = []) (hd : s.dram = Mem.wrN m 0 b)
    (hw : ∀ a, a < b.length → NSet.mem s.dramWritten (a / 65536) = true) (n : Nat) (hn : n ≤ b.length) : s.devRd 0 n = b.take n := by
  have key : ∀ n a, a + n ≤ b.length → s.devRd a n = (b.drop a).take n := by
    intro n
    induction n with
    | zero => intro a _; simp [State.devRd]
    | succ n ih =>
      intro a ha
      have h1 : s.weightAt a = none := by simp [State.weightAt, hk]
      have h3 := Mem.rd_wrN_in b m 0 a (by omega)
      rw [Nat.zero_add] at h3
      have h4 : b.drop a = b.getD a 0 :: b.drop (a + 1) := by
        rw [List.drop_eq_getElem_cons (by omega)]
        simp [List.getD_eq_getElem?_getD, List.getElem?_eq_getElem (show a < b.length by omega)]
      rw [State.devRd, ih (a + 1) (by omega), h4, List.take_succ_cons]
      simp only [State.devByte, h1, State.dramByte, hw a (by omega), hd, h3, if_true]
  simpa using key n 0 (by omega)

/-- A state with an image at device offset 0. -/
def withImage (us : List Upd) (b : List Byte) : State :=
  { st us with dramWritten := List.range (b.length / 65536 + 1), dram := Mem.wrN [] 0 b }

theorem withImage_read (us : List Upd) (b : List Byte) (hk : (st us).saf.keys = []) (n : Nat) (hn : n ≤ b.length) :
    (withImage us b).devRd 0 n = b.take n :=
  devRd_stored (withImage us b) [] b hk rfl (fun a ha => List.elem_iff.2 (List.mem_range.2 (by have := Nat.div_le_div_right (c := 65536) ha.le; omega))) n hn

def mouldUps : List Upd := [.fld F.MOD_ROW_MAP_r_MAP 0 0xFEDCBA9876543210, .flasks 0 { FlaskSt.none with live := true, cores := [0, 1], gib := 1 },
  cmdIn 0 0x103 ([0, 0, 0, 0, 0, 0, 0, 0] ++ natLe 8 0 ++ natLe 4 1664)]
def mouldState : State := withImage mouldUps img

theorem test_mould_accepted : ∀ v : Bool, mouldState.mouldCheck 0 false { lenv1 with verifyFail := v } img 1664 = none := by decide +kernel

theorem img_length : img.length = 1664 := by decide +kernel

theorem mouldState_image : mouldState.devRd 0 1664 = img :=
  (withImage_read mouldUps img (by decide +kernel) 1664 img_length.ge).trans (List.take_of_length_le img_length.le)

theorem witness_mbMouldLoad_accepted :
    mouldState.mbRuns 0 0x0103 = true ∧ mouldState.devRd 0 1664 = img ∧ (mouldState.flask 0).live = true ∧
    ((mouldState.flaskPhys 0).all fun p => mouldState.coreState p == 0 || mouldState.coreState p == 2) = true ∧
    mouldState.rangeOk 0 0 1664 = true ∧ bitOf (leAt img 0x12 2) 1 = (mouldState.flask 0).redundant ∧
    ∀ v : Bool, mouldState.mouldCheck 0 false { lenv1 with verifyFail := v } img 1664 = none :=
  ⟨by decide +kernel, mouldState_image, by decide +kernel, by decide +kernel, by decide +kernel, by decide +kernel, test_mould_accepted⟩

/-! A scan image of one core, 0x391000 B, its checksums left symbolic. -/

theorem crcBit_lt (c : Nat) (h : c < 2 ^ 32) : crcBit 0xEDB88320 c < 2 ^ 32 := by
  unfold crcBit
  split
  · exact Nat.xor_lt_two_pow (by omega) (by decide)
  · omega

theorem crcBits_lt : ∀ (n c : Nat), c < 2 ^ 32 → crcBits 0xEDB88320 n c < 2 ^ 32
  | 0, _, h => h
  | n + 1, c, h => crcBits_lt n _ (crcBit_lt c h)

theorem crcBytes_lt : ∀ (bs : List Byte) (c : Nat), c < 2 ^ 32 → crcBytes 0xEDB88320 bs c < 2 ^ 32
  | [], _, h => h
  | b :: bs, c, h => crcBytes_lt bs _ (crcBits_lt 8 _ (Nat.xor_lt_two_pow h (by have := b.isLt; omega)))

theorem crc32_lt (bs : List Byte) : crc32 bs < 2 ^ 32 := Nat.xor_lt_two_pow (crcBytes_lt bs _ (by decide)) (by decide)

theorem leNat_natLe : ∀ (n v : Nat), leNat (natLe n v) = v % 256 ^ n
  | 0, v => by simp [natLe, leNat, Nat.mod_one]
  | n + 1, v => by
    rw [natLe, leNat, leNat_natLe n (v / 256), BitVec.toNat_ofNat]
    exact (Nat.pow_succ' ▸ (Nat.mod_mul (x := v) (a := 256) (b := 256 ^ n)).symm :)

theorem natLe_length : ∀ (n v : Nat), (natLe n v).length = n
  | 0, _ => rfl
  | n + 1, v => by simp [natLe, natLe_length n]

theorem leAt_left (x y : List Byte) (off n : Nat) (h : off + n ≤ x.length) : leAt (x ++ y) off n = leAt x off n := by
  rw [leAt, leAt, List.drop_append_of_le_length (by omega), List.take_append_of_le_length (by simp; omega)]

theorem leAt_mid (x y : List Byte) (n v off : Nat) (h : off = x.length) (hv : v < 256 ^ n) : leAt (x ++ (natLe n v ++ y)) off n = v := by
  subst h
  rw [leAt, List.drop_left, List.take_left' (natLe_length n v), leNat_natLe, Nat.mod_eq_of_lt hv]

/-- A block of bytes with its checksum between its two parts. -/
def summed (a z extra : List Byte) : List Byte := a ++ (natLe 4 (crc32 (a ++ extra ++ z)) ++ z)

theorem summed_length (a z e : List Byte) : (summed a z e).length = a.length + 4 + z.length := by
  simp [summed, natLe_length]; omega

theorem summed_sum (a z e y : List Byte) (off : Nat) (h : off = a.length) : leAt (summed a z e ++ y) off 4 = crc32 (a ++ e ++ z) := by
  rw [summed, List.append_assoc, List.append_assoc]
  exact leAt_mid a (z ++ y) 4 _ off h (crc32_lt _)

theorem summed_take (a z e : List Byte) (n : Nat) (h : n = a.length) : (summed a z e).take n = a := by subst h; simp [summed]

theorem summed_drop (a z e : List Byte) (n : Nat) (h : n = a.length + 4) : (summed a z e).drop n = z := by
  subst h
  rw [summed, ← List.append_assoc, List.drop_left' (by simp [natLe_length])]

/-- The first 0x40 B of the header: SCAN, format 1, quiesced or not, the Mould identity 5, one core, no regions, the length. -/
def scanHead (mode : Byte) : List Byte :=
  [83, 67, 65, 78, 1, 0, mode, 0] ++ natLe 16 5 ++ List.replicate 24 0 ++ [1, 0, 0, 0, 0, 0, 0, 0] ++ natLe 8 0x391000
def scanTail : List Byte := List.replicate 0xFBC 0
def scanCore : List Byte := List.replicate 4092 0
def scanRest : List Byte := List.replicate 0x38F000 0
def scanImg (mode : Byte) : List Byte := summed (scanHead mode) scanTail (natLe 4 0) ++ summed scanCore scanRest []

theorem scanTail_length : scanTail.length = 0xFBC := List.length_replicate
theorem scanCore_length : scanCore.length = 4092 := List.length_replicate
theorem scanRest_length : scanRest.length = 0x38F000 := List.length_replicate
theorem scanHead_length (m : Byte) : (scanHead m).length = 0x40 := by
  simp [scanHead, natLe_length]

theorem scanImg_header (m : Byte) : (summed (scanHead m) scanTail (natLe 4 0)).length = 0x1000 := by
  rw [summed_length, scanHead_length, scanTail_length]

theorem scanImg_record : (summed scanCore scanRest []).length = recordLen := by
  rw [summed_length, scanCore_length, scanRest_length]; rfl

theorem scanImg_length (m : Byte) : (scanImg m).length = 0x391000 := by
  rw [scanImg, List.length_append, scanImg_header, scanImg_record]; rfl

theorem scanImg_field (m : Byte) (off n : Nat) (h : off + n ≤ 0x40) : leAt (scanImg m) off n = leAt (scanHead m) off n := by
  rw [scanImg, summed, List.append_assoc]
  exact leAt_left _ _ off n (by rw [scanHead_length]; exact h)

theorem scanImg_at (m : Byte) : recordAt (scanImg m) 0 = summed scanCore scanRest [] := by
  rw [recordAt, scanImg, List.drop_left' (by rw [scanImg_header]; rfl), List.take_of_length_le (by rw [scanImg_record])]

theorem test_scan_crc (m : Byte) : scanCrcOk (scanImg m) = true := by
  have f1 : leAt (scanImg m) 0x30 2 = 1 := (scanImg_field m _ _ (by decide)).trans rfl
  have f2 : leAt (scanImg m) 0x36 2 = 0 := (scanImg_field m _ _ (by decide)).trans rfl
  have f3 : leAt (scanImg m) 0x38 8 = 0x391000 := (scanImg_field m _ _ (by decide)).trans rfl
  have h : (scanImg m).take 0x1000 = summed (scanHead m) scanTail (natLe 4 0) := by rw [scanImg, List.take_left' (scanImg_header m)]
  have c1 : leAt (scanImg m) 0x40 4 = crc32 (scanHead m ++ natLe 4 0 ++ scanTail) := summed_sum _ _ _ _ _ (scanHead_length m).symm
  have c2 : leAt (summed scanCore scanRest []) 4092 4 = crc32 (scanCore ++ [] ++ scanRest) := by
    have := summed_sum scanCore scanRest [] [] 4092 scanCore_length.symm
    rwa [List.append_nil] at this
  unfold scanCrcOk
  rw [f1, f2, f3, h, c1, scanImg_length]
  dsimp only
  rw [summed_take _ _ _ 0x40 (scanHead_length m).symm, summed_drop _ _ _ 0x44 (by rw [scanHead_length]),
    List.range_one, List.range_zero, List.all_cons, List.all_nil, List.all_nil, scanImg_at m, c2,
    summed_take scanCore scanRest [] 4092 scanCore_length.symm, summed_drop scanCore scanRest [] 4096 (by rw [scanCore_length]), List.append_nil]
  simp only [recordLen, BEq.rfl, Bool.and_true]
  decide
def scanUps (id state : Nat) : List Upd :=
  [.fld F.MOD_ROW_MAP_r_MAP 0 0xFEDCBA9876543210, .flasks 0 { FlaskSt.none with live := true, cores := [0], gib := 1, active := { MouldSt.none with present := true, id, cores := [0] } },
   .fld F.CORE_STAT_STATE 0 state, cmdIn 0 0x10B ([0, 0, 0, 0, 0, 0, 0, 0] ++ natLe 8 0 ++ natLe 8 0x391000)]
def scanState (id state : Nat) (m : Byte) : State := withImage (scanUps id state) (scanImg m)

theorem scanState_image (id state : Nat) (m : Byte) :
    ((scanState id state m).devRd 0 0x391000).take (leAt ((scanState id state m).devRd 0 64) 0x38 8) = scanImg m := by
  have r := withImage_read (scanUps id state) (scanImg m) rfl
  have f3 : leAt (scanImg m) 0x38 8 = 0x391000 := (scanImg_field m _ _ (by decide)).trans rfl
  have e : leAt ((scanImg m).take 64) 0x38 8 = leAt (scanImg m) 0x38 8 := by
    conv_rhs => rw [← List.take_append_drop 64 (scanImg m)]
    exact (leAt_left _ _ _ _ (by rw [List.length_take, scanImg_length]; decide)).symm
  have r1 := r 0x391000 (by rw [scanImg_length])
  have r2 := r 64 (by rw [scanImg_length]; decide)
  rw [scanState, r1, r2, e, f3, List.take_take, List.take_of_length_le (by rw [scanImg_length]; decide)]

theorem scanState_fits (id state : Nat) (m : Byte) : scanFits ((scanState id state m).flask 0).active (scanImg m) = (5 == id) := by
  have f1 : leAt (scanImg m) 8 16 = 5 := (scanImg_field m _ _ (by decide)).trans rfl
  have f2 : leAt (scanImg m) 0x30 2 = 1 := (scanImg_field m _ _ (by decide)).trans rfl
  have f3 : leAt (summed scanCore scanRest []) 0 8 = 0 := by
    rw [summed, leAt_left _ _ 0 8 (by rw [scanCore_length]; decide)]; rfl
  have a : ((scanState id state m).flask 0).active = { MouldSt.none with present := true, id, cores := [0] } := rfl
  rw [a, scanFits, f1, f2]
  simp [scanImg_at, f3]

theorem withImage_flaskIn (us : List Upd) (b : List Byte) (f n : Nat) : (withImage us b).flaskIn f n = (st us).flaskIn f n := rfl
theorem withImage_mbRuns (us : List Upd) (b : List Byte) (k c : Nat) : (withImage us b).mbRuns k c = (st us).mbRuns k c := rfl
theorem withImage_rangeOk (us : List Upd) (b : List Byte) (f o n : Nat) : (withImage us b).rangeOk f o n = (st us).rangeOk f o n := rfl
theorem withImage_sealAllows (us : List Upd) (b : List Byte) (f o n : Nat) : (withImage us b).sealAllows f o n = (st us).sealAllows f o n := rfl

/-- What the last clause of the statement on MB_SCAN_IN supposes of the state: a slot that runs the command, a flask in INIT, RESET or HALTED. -/
theorem witness_mbScanIn_states (m : Byte) :
    (scanState 5 4 m).mbRuns 0 0x010B = true ∧ (scanState 5 4 m).rangeOk 0 0 0x391000 = true ∧ (scanState 5 4 m).sealAllows 0 0 0x391000 = true ∧
    (scanState 5 2 m).flaskIn 0 2 = true ∧ (scanState 5 4 m).flaskIn 0 4 = true ∧ (scanState 5 0 m).flaskIn 0 2 = false ∧ (scanState 5 0 m).flaskIn 0 4 = false :=
  ⟨(withImage_mbRuns (scanUps 5 4) (scanImg m) 0 0x010B).trans (by decide +kernel), (withImage_rangeOk (scanUps 5 4) (scanImg m) 0 0 0x391000).trans (by decide +kernel),
    (withImage_sealAllows (scanUps 5 4) (scanImg m) 0 0 0x391000).trans (by decide +kernel), (withImage_flaskIn (scanUps 5 2) (scanImg m) 0 2).trans (by decide +kernel),
    (withImage_flaskIn (scanUps 5 4) (scanImg m) 0 4).trans (by decide +kernel),
    (withImage_flaskIn (scanUps 5 0) (scanImg m) 0 2).trans (by decide +kernel),
    (withImage_flaskIn (scanUps 5 0) (scanImg m) 0 4).trans (by decide +kernel)⟩

/-- And of the image: its magic, its checksums, the Mould it is of, and whether it was taken quiesced. -/
theorem witness_mbScanIn_image (m : Byte) : leAt (scanImg m) 0 4 = 0x4E414353 ∧ leAt (scanImg m) 4 2 = 1 ∧ scanCrcOk (scanImg m) = true :=
  ⟨(scanImg_field m 0 4 (by decide)).trans (show leNat [83, 67, 65, 78] = 0x4E414353 by decide), (scanImg_field m 4 2 (by decide)).trans (by rfl), test_scan_crc m⟩

theorem witness_mbScanIn_fits (m : Byte) :
    scanFits ((scanState 6 4 m).flask 0).active (scanImg m) = false ∧ scanFits ((scanState 5 4 m).flask 0).active (scanImg m) = true :=
  ⟨(scanState_fits 6 4 m).trans (by decide), (scanState_fits 5 4 m).trans (by decide)⟩

theorem witness_mbScanIn_mode : bitOf (leAt (scanImg 0) 6 2) 0 = false ∧ bitOf (leAt (scanImg 1) 6 2) 0 = true := by
  refine ⟨(congrArg (bitOf · 0) (scanImg_field 0 6 2 (by decide))).trans ?_, (congrArg (bitOf · 0) (scanImg_field 1 6 2 (by decide))).trans ?_⟩ <;> decide

/-! What many statements suppose of a block at rest: the state after reset meets it. -/

theorem witness_idle_slots : ∀ c ∈ [770, 1537, 1538, 513, 515, 514, 516, 517, 259, 260, 261, 265, 262, 263, 264, 257, 258, 268, 269, 1, 2, 3, 4, 1794, 1793, 769, 771, 772, 266, 773, 267, 1025, 1026, 1028, 1027, 1282, 1281, 1283], State.reset.mbRuns 0 c = false := by decide +kernel

theorem witness_idle_1 : ∃ s : State,
    s.mbServed = false ∧
    s.portState 0 ≠ 4 ∧
    s.fget F.TC_ALIGN_STAT_UPSTREAM 0 ≠ 0 ∧
    s.fget F.TC_ALIGN_STAT_STATE 0 ≠ 1 ∧
    s.fget F.TC_ALIGN_STAT_STATE 0 ≠ 4 ∧
    (s.gclk.running = false ∨ 64 ≤ s.fget F.TC_FRAME_HOLD 0 + 1) ∧
    (s.flask 0).startAt = none ∧
    s.pourTag = 0 ∧
    s.dec.arm = none ∧
    s.svc.refLost = none ∧
    s.svc.tap ≠ TapIr.extest ∧
    s.boot.held = 0 ∧
    (s.fget F.MOD_BOOT_STAT_STAGE 0 < 3 ∨ 7 < s.fget F.MOD_BOOT_STAT_STAGE 0 ∨ s.boot.held ≠ 0) ∧
    (s.domain 0 = 0 ∨ s.domain 0 = 6) ∧
    (s.domain 0 = 0 ∨ 3 < s.domain 0) ∧
    s.nextGrant = none ∧
    s.domain 0 ≠ 2 ∧
    s.seqReady 0 = false ∧
    (s.core 0).wait = none ∧
    ((s.queue 0).kind ≠ QKind.elasticRx ∨ (s.queue 0).popped = (s.queue 0).credited) ∧
    (s.queue 0).kind ≠ QKind.elasticTx ∧
    s.qPhys 0 = none ∧
    (s.vu (0 * 4 + 0)).waiting = [] ∧
    (s.vu (0 * 4 + 0)).sample = none ∧
    s.fget F.SPD_STAT_ZEROING 0 = 0 ∧
    List.find? (fun k => k.engine == 0 && k.ctx == 0) (s.cache 0).trackers = none ∧
    s.flaskOf 0 = none ∧
    (assoc ChanSt.idle (s.ldl 0).chans 0).job = none ∧
    s.scheduled (physAt (0 / 4) 0) = false :=
  ⟨State.reset, by decide +kernel⟩

theorem witness_idle_2 : ∃ s : State,
    ((s.ctx 0 0).job.isSome = true ∨ (s.ldl 0).pick = none) ∧
    (s.ctx 0 0).job = none ∧
    (s.ctx 0 0).abortCause = 0 ∧
    ((s.ctx 0 0).abortCause = 0 ∨ (s.ctx 0 0).open_ ≠ []) ∧
    1024 ≤ (1024 + 2048 - (s.port 0).rxSseq) % 2048 ∧
    takeMsg false (s.port 0).rxElastic [] [] = none ∧
    takeMsg true (s.port 0).rxElastic [] [] = none ∧
    (s.portState 0 ≠ 0 ∨ (s.port 0).enabled = false) ∧
    s.portState 0 ≠ 1 ∧
    s.portState 0 ≠ 2 ∧
    (s.port 0).swap = none ∧
    (s.portState 0 ≠ 4 ∨ (s.port 0).keys.phase ≠ 2 ∧ ((s.port 0).keys.phase ≠ 1 ∨ (s.port 0).keys.rekey = false)) ∧
    (s.fget F.RUN_STAT_ENCRYPTED 0 = 0 ∨ (s.port 0).keys.phase ≠ 0) ∧
    s.portFlask 0 = none ∧
    s.pour.starting = none ∧
    (s.flask 0).halt = none ∧
    (s.flask 0).reported = none ∧
    (s.seqReady 0 = false ∨ s.fget F.CLK_PSTEP_TEMPER 0 = s.fget F.CORE_SEQ_TEMPER 0) ∧
    s.mayStart 0 = false ∧
    List.find? (fun w => w.fst == 0 && w.snd.fst == 0) s.seam.waiting = none ∧
    (s.flaskIn (0) 4 && (s.flask 0).draining && !(s.flask 0).drained) = false ∧
    s.faults.windows[0]? = none ∧
    s.partner 0 = none ∧
    List.find? (fun d => d.fst == pepKey 0 0) s.pep.diag = none ∧
    (s.fget F.PWR_TILE_t_STATE 0 = 0 ∨ s.fget F.PWR_TILE_t_STATE 0 = 3) ∧
    (List.find? (fun e => e.fst == 0) s.power.replacing = none ∨ s.fget F.PWR_TILE_t_STATE 0 ≠ 4) ∧
    (s.isMaster && s.gclk.running && s.frame % 8 == 0 && !s.flag F.CLK_ARM_VALID 0) = false ∧
    s.isMaster = true ∧
    List.elem (0) s.pour.children = false :=
  ⟨State.reset, by decide +kernel⟩

theorem witness_idle_3 : ∃ s : State,
    (s.phase == 1 && (decide (s.fget F.PST_STAT_TARGET 0 < 2) || (List.range 160).all fun p => s.domain p == 0 || s.domain p == 6)) = false ∧
    (s.phase == 2 && decide (1 ≤ s.pstate) && decide (s.pstate ≤ 3) && (decide (s.pstate < 2) || (List.filter s.coreServes (List.range 160)).all fun p => s.domain p == 3)) = false ∧
    s.phase ≠ 2 ∧
    s.fget F.PST_STAT_XTAL_FAIL 0 = 0 ∧
    (0 ≠ 72 + s.svc.sbAddr ∨ bitOf (s.fget F.PST_WAKE_EN_EN 0) 2 = false ∨ s.armed 2 = false) ∧
    (bitOf (s.fget F.PST_WAKE_EN_EN 0) (3 + 0) = false ∨ s.armed (3 + 0) = false) ∧
    (s.hport 0).d3hot = false ∧
    (s.mbServed = false ∨ s.fget F.SAF_SLOT_ROLE_LOCK 0 = 1) ∧
    s.pldmServed = false ∧
    s.stage = 0 ∧
    (s.i3cServed && s.svc.dynAddr.isNone && 0 == 72 + s.svc.sbAddr) = false ∧
    (s.i3cServed && s.svc.dynAddr.isNone) = false ∧
    s.dbg.req = none ∧
    s.dbg.grantEnd = none ∧
    s.dbg.lockEnd = none ∧
    List.find? (fun a => a.flask == 0) s.dbg.armed = none ∧
    ((s.queue 0).kind ≠ QKind.hostSubmit ∨ s.qState 0 = 0 ∨ s.qState 0 = 4) ∧
    ((s.queue 0).kind ≠ QKind.hostPost ∨ s.qState 0 = 0 ∨ s.qState 0 = 4) ∧
    s.qState 0 = 0 ∧
    ((s.queue 0).kind ≠ QKind.hostSubmit ∨ s.qState 0 ≠ 2 ∨ s.portReady (s.qPort 0) = false ∨ s.fetchSpan 0 = 0) ∧
    (s.queue 0).reads = [] ∧
    ((s.queue 0).posts = [] ∨ s.qState 0 ≠ 2 ∨ s.portReady (s.qPort 0) = false) ∧
    (s.queue 0).msgDue = false ∧
    (s.qState 0 ≠ 3 ∨ (s.queue 0).reads ≠ [] ∨ (s.queue 0).posts ≠ []) ∧
    s.fget F.MOD_HOST_STAT_p_LINK_UP 0 ≠ 1 ∧
    (s.fget F.MOD_BOOT_STAT_STAGE 0 = 0 ∨ 0 = 0 ∨ List.elem 0 [1, 2, 4, 8, 16] = false) ∧
    s.ev.formed = [] ∧
    s.ev.windows[0]? = none :=
  ⟨State.reset, by decide +kernel⟩

/-! The hypotheses of the statements, clause by clause. -/

theorem witness_FabricAndHostAccesses :
  (∃ (c : ClusterId) (f : Fld) (i : Nat), f.inReg = true ∧ (f ≠ F.CLU_THERM_PEAK ∨ i ≠ ↑c) ∧ (f.reg ≠ Reg.CLU_THERM ∨ f ∈ Reg.CLU_THERM.fields)) ∧
  (∃ (s : State), s.mbServed = true) ∧
  (∃ (fault : Option FabricReq), fault = none) ∧
  (∃ (req : FabricReq) (s : State), faModule req.fa = s.module ∧ s.faReason { crucible := req.crucible, flask := Option.map (fun f => ↑f) req.flask, tag := req.pourTag } req.fa (opLen req.op) (opWrites req.op) (formOk req.fa req.op) ≠ 0 ∧ opWrites req.op = false) ∧
  (∃ (p : HostId) (data : Option (List Byte)) (s : State), s.hostServed ↑p = true ∧ s.bar4Open = true ∧ (s.flag F.MOD_APERTURE_CTL_EN 0 = false ∨ data.isSome = true ∧ s.flag F.MOD_APERTURE_CTL_WR_EN 0 = false) ∧ data = none) ∧
  (∃ (p : HostId) (off : Nat) (len : Nat) (data : Option (List Byte)) (s : State), s.hostServed ↑p = true ∧ s.bar4Open = true ∧ off + len ≤ dramSize ∧ data = none ∧ 0 < len ∧ s.hostDenied off len false = true) :=
  ⟨⟨0, F.MOD_BOOT_STAT_STAGE, 0, by decide +kernel⟩,
  ⟨st [stageIs 5], by decide +kernel⟩,
  ⟨none, by decide +kernel⟩,
  ⟨{ fa := 0, op := .read 8, crucible := true, flask := none, pourTag := 0, counter := none, poison := false }, State.reset, by decide +kernel⟩,
  ⟨0, none, st [stageIs 5], by decide +kernel⟩,
  ⟨0, 1264 * 2 ^ 30, 8, none, st [stageIs 5], by decide +kernel⟩⟩

theorem witness_AlignmentCommandsAct :
  (∃ (p : PortId) (s : State), s.portState ↑p = 4) ∧
  (∃ (p : PortId) (s : State), s.fget F.TC_ALIGN_STAT_UPSTREAM 0 = ↑p ∧ (s.fget F.TC_ALIGN_STAT_STATE 0 = 2 ∨ s.fget F.TC_ALIGN_STAT_STATE 0 = 3) ∧ s.pour.phase ≠ 1 ∧ s.align.alternative = none) ∧
  (∃ (p : PortId) (alt : Bool) (s : State), s.fget F.TC_ALIGN_STAT_UPSTREAM 0 = ↑p ∧ (s.fget F.TC_ALIGN_STAT_STATE 0 = 2 ∨ s.fget F.TC_ALIGN_STAT_STATE 0 = 3) ∧ s.pour.phase ≠ 1 ∧ Option.any (fun q => decide (alt = true)) (s.align.alternative) = true) ∧
  (∃ (p : PortId) (alt : Bool) (s : State), s.fget F.TC_ALIGN_STAT_UPSTREAM 0 = ↑p ∧ (s.fget F.TC_ALIGN_STAT_STATE 0 = 2 ∨ s.fget F.TC_ALIGN_STAT_STATE 0 = 3) ∧ s.pour.phase ≠ 1 ∧ Option.any (fun q => decide (alt = false)) (s.align.alternative) = true) ∧
  (∃ (tc : Nat) (s : State), s.fget F.TC_ALIGN_STAT_STATE 0 = 1 ∧ s.align.entered + 10000000 ≤ s.clockAt tc ∧ s.pour.phase ≠ 1) ∧
  (∃ (tc : Nat) (s : State), s.fget F.TC_ALIGN_STAT_STATE 0 = 4 ∧ s.pour.phase ≠ 1 ∧ (toInt 16 (s.fget F.TC_ALIGN_STAT_ERROR 0)).natAbs + (s.clockAt tc - s.align.entered) / 20000 ≥ 6000) :=
  ⟨⟨0, st [.fld F.RUN_STAT_STATE 0 4], by decide +kernel⟩,
  ⟨0, st [.align { State.reset.align with alternative := none }, .fld F.TC_ALIGN_STAT_STATE 0 2, .fld F.TC_ALIGN_STAT_UPSTREAM 0 0], by decide +kernel⟩,
  ⟨0, true, st [.align { State.reset.align with alternative := some 0 }, .fld F.TC_ALIGN_STAT_STATE 0 2, .fld F.TC_ALIGN_STAT_UPSTREAM 0 0], by decide +kernel⟩,
  ⟨0, false, st [.align { State.reset.align with alternative := some 0 }, .fld F.TC_ALIGN_STAT_STATE 0 2, .fld F.TC_ALIGN_STAT_UPSTREAM 0 0], by decide +kernel⟩,
  ⟨10000000, st [.fld F.TC_ALIGN_STAT_STATE 0 1], by decide +kernel⟩,
  ⟨120000000, st [.fld F.TC_ALIGN_STAT_STATE 0 4], by decide +kernel⟩⟩

theorem witness_GridTimeCommandsAct :
  (∃ (s : State), s.gclk.running = true ∧ s.fget F.TC_FRAME_HOLD 0 + 1 < 64) ∧
  (∃ (tc : Nat) (s : State), (s.gclk.running = false ∨ s.clockAt tc ≤ s.fget F.TC_FRAME_TC_TC 0)) ∧
  (∃ (tc : Nat) (s : State), s.gclk.running = true ∧ s.fget F.TC_FRAME_TC_TC 0 < s.clockAt tc) ∧
  (∃ (f : FlaskId) (tc : Nat) (s : State), Option.any (fun at_ => decide (at_ ≤ s.clockAt tc ∧ s.startable ↑f = true ∧ s.svc.thermTrip = false ∧ (s.flask ↑f).gridStart = true ∧ s.running = [] ∧ List.isEmpty (s.mouldPhys ↑f) = false)) ((s.flask ↑f).startAt) = true) :=
  ⟨⟨st [.gclk { State.reset.gclk with running := true }], by decide +kernel⟩,
  ⟨0, State.reset, by decide +kernel⟩,
  ⟨1, st [.gclk { State.reset.gclk with running := true }], by decide +kernel⟩,
  ⟨0, 0, st [.fld F.MOD_ROW_MAP_r_MAP 0 0xFEDCBA9876543210, .flasks 0 { FlaskSt.none with cores := [0], startAt := some 0, gridStart := true, live := true, active := { MouldSt.none with present := true, cores := [0] } }, .fld F.CORE_STAT_STATE 0 2], by decide +kernel⟩⟩

theorem witness_SynchronousChangeCommandsAct :
  (∃ (d : Decision) (s : State), d.crcOk = true ∧ s.dec.arm = none) ∧
  (∃ (d : Decision) (s : State), d.crcOk = false ∧ s.fget F.CLK_ARM_VALID 0 = 0) ∧
  (∃ (d : Decision) (s : State), d.crcOk = true ∧ Option.any (fun a => decide (sameDecision a d = true)) (s.dec.arm) = true) ∧
  (∃ (s : State), s.dec.arm = none ∧ s.ctl.armed = none) ∧
  (∃ (n : Nat) (s : State), Option.any (fun d => decide (d.seq = n)) (s.dec.arm) = true) ∧
  (∃ (n : Nat) (s : State), Option.any (fun r => decide (r.seq = n)) (s.ctl.armed) = true) ∧
  (∃ (s : State), s.ctl.armed = none ∧ s.dec.arm = none) ∧
  (∃ (s : State), s.ctl.armed = none ∧ Option.any (fun d => decide (s.isMaster = true ∧ s.fget F.CLK_ARM_GO 0 = 0 ∧ s.fget F.CLK_ARM_WITHDRAWN 0 = 0 ∧ s.dec.ackSent = true)) (s.dec.arm) = true) ∧
  (∃ (s : State), s.ctl.armed = none ∧ Option.any (fun d => decide (s.isMaster = true ∧ s.fget F.CLK_ARM_GO 0 = 0 ∧ s.fget F.CLK_ARM_WITHDRAWN 0 = 0 ∧ s.dec.ackSent = false ∧ s.fget F.CLK_ARM_VALID 0 = 1)) (s.dec.arm) = true) ∧
  (∃ (r : Decision) (s : State), (s.dec.arm = none ∨ r.crcOk = false)) ∧
  (∃ (r : Decision) (s : State), Option.any (fun d => decide (r.crcOk = true ∧ sameDecision d r = true ∧ s.fget F.CLK_ARM_VALID 0 = 1 ∧ s.fget F.CLK_ARM_GO 0 = 0 ∧ s.fget F.CLK_ARM_WITHDRAWN 0 = 0)) (s.dec.arm) = true) ∧
  (∃ (r : Decision) (s : State), Option.any (fun d => decide (r.crcOk = true ∧ r.seq = d.seq ∧ s.fget F.CLK_ARM_VALID 0 = 1 ∧ s.fget F.CLK_ARM_WITHDRAWN 0 = 0)) (s.dec.arm) = true) ∧
  (∃ (s : State), s.pourTag ≠ 0 ∧ s.fget F.CLK_ARM_VALID 0 = 0) ∧
  (∃ (tc : Nat) (s : State), Option.any (fun d => decide (d.target ≤ s.clockAt tc ∧ s.dec.conflict = false ∧ bandOf d.pstep = bandOf s.pstep ∧ s.fget F.CLK_ARM_GO 0 = 0)) (s.dec.arm) = true) ∧
  (∃ (tc : Nat) (s : State), Option.any (fun d => decide (d.target ≤ s.clockAt tc ∧ s.dec.conflict = false ∧ bandOf d.pstep = bandOf s.pstep ∧ s.fget F.CLK_ARM_GO 0 = 1)) (s.dec.arm) = true) :=
  ⟨⟨dec1, State.reset, by decide +kernel⟩,
  ⟨{ dec1 with crcOk := false }, State.reset, by decide +kernel⟩,
  ⟨dec1, st [.dec { State.reset.dec with arm := some dec1 }], by decide +kernel⟩,
  ⟨State.reset, by decide +kernel⟩,
  ⟨1, st [.dec { State.reset.dec with arm := some dec1 }], by decide +kernel⟩,
  ⟨1, st [.ctl { State.reset.ctl with armed := some ctl1 }], by decide +kernel⟩,
  ⟨State.reset, by decide +kernel⟩,
  ⟨st [.dec { State.reset.dec with arm := some dec1, ackSent := true }], by decide +kernel⟩,
  ⟨st [.dec { State.reset.dec with arm := some dec1 }, .fld F.CLK_ARM_VALID 0 1], by decide +kernel⟩,
  ⟨dec1, State.reset, by decide +kernel⟩,
  ⟨dec1, st [.dec { State.reset.dec with arm := some dec1 }, .fld F.CLK_ARM_VALID 0 1], by decide +kernel⟩,
  ⟨dec1, st [.dec { State.reset.dec with arm := some dec1 }, .fld F.CLK_ARM_VALID 0 1], by decide +kernel⟩,
  ⟨st [.fld F.MOD_POUR_ID_POUR_TAG 0 1], by decide +kernel⟩,
  ⟨1000, st [.dec { State.reset.dec with arm := some dec1 }], by decide +kernel⟩,
  ⟨1000, st [.dec { State.reset.dec with arm := some dec1 }, .fld F.CLK_ARM_GO 0 1], by decide +kernel⟩⟩

theorem witness_ReferenceTapAndLifeCommandsAct :
  (∃ (s : State), Option.isSome (s.svc.refLost) = true) ∧
  (∃ (tc : Nat) (s : State), Option.any (fun a => decide (a + 1000000000 ≤ s.clockAt tc)) (s.svc.refLost) = true) ∧
  (∃ (s : State), s.svc.tap = TapIr.extest) :=
  ⟨⟨st [.svc { State.reset.svc with refLost := some 0 }], by decide +kernel⟩,
  ⟨1000000000, st [.svc { State.reset.svc with refLost := some 0 }], by decide +kernel⟩,
  ⟨st [.svc { State.reset.svc with tap := .extest }], by decide +kernel⟩⟩

theorem witness_ResetAndFirmwareCommandsAct :
  (∃ (low : Bool), low = true) ∧
  (∃ (env : BootEnv) (low : Bool), low = false ∧ env.fusesOk = true ∧ env.stageFault = none) ∧
  (∃ (s : State), s.fget F.PST_STAT_STATE 0 = 4) ∧
  (∃ (env : BootEnv) (low : Bool), low = false ∧ env.fusesOk = false) ∧
  (∃ (lowNs : Nat) (s : State), (lowNs < 10000 ∨ s.fget F.PST_STAT_STATE 0 = 4)) ∧
  (∃ (lowNs : Nat) (s : State), 10000 ≤ lowNs ∧ s.fget F.PST_STAT_STATE 0 ≠ 4) ∧
  (∃ (env : BootEnv) (s : State), s.boot.held ≠ 0 ∧ env.fusesOk = true ∧ env.stageFault = none) ∧
  (∃ (env : BootEnv) (s : State), s.boot.held ≠ 0 ∧ env.fusesOk = false ∧ s.fget F.MOD_BOOT_ERR_STAGE_FAULT 0 = 0) ∧
  (∃ (k : Fin 17) (s : State), s.mbRuns (↑k) 770 = true) ∧
  (∃ (s : State), 3 ≤ s.fget F.MOD_BOOT_STAT_STAGE 0 ∧ s.fget F.MOD_BOOT_STAT_STAGE 0 ≤ 7 ∧ s.boot.held = 0) ∧
  (∃ (k : Fin 17) (sig : Bool) (s : State), s.mbRuns (↑k) 1537 = true ∧ s.rangeOk 16 (leAt (s.slot ↑k).args 0 8) (leAt (s.slot ↑k).args 8 4) = true ∧ Option.isSome (s.fwCheck (s.devRd (leAt (s.slot ↑k).args 0 8) (min (leAt (s.slot ↑k).args 8 4) (2 ^ 24 + 1))) (leAt (s.slot ↑k).args 8 4) sig) = true) ∧
  (∃ (k : Fin 17) (s : State), s.mbRuns (↑k) 1537 = true ∧ s.rangeOk 16 (leAt (s.slot ↑k).args 0 8) (leAt (s.slot ↑k).args 8 4) = false) ∧
  (∃ (k : Fin 17) (sig : Bool) (back : Bool) (s : State), s.mbRuns (↑k) 1537 = true ∧ s.rangeOk 16 (leAt (s.slot ↑k).args 0 8) (leAt (s.slot ↑k).args 8 4) = true ∧ s.fwCheck (s.devRd (leAt (s.slot ↑k).args 0 8) (min (leAt (s.slot ↑k).args 8 4) (2 ^ 24 + 1))) (leAt (s.slot ↑k).args 8 4) sig = none ∧ back = true) ∧
  (∃ (k : Fin 17) (s : State), s.mbRuns (↑k) 1538 = true ∧ s.boot.dir.staged = 255) ∧
  (∃ (k : Fin 17) (s : State), s.mbRuns (↑k) 1538 = true ∧ s.boot.dir.staged ≠ 255 ∧ leAt (s.slot ↑k).args 0 1 ≠ 1) ∧
  (∃ (k : Fin 17) (s : State), s.mbRuns (↑k) 1538 = true ∧ s.boot.dir.staged ≠ 255 ∧ leAt (s.slot ↑k).args 0 1 = 1) :=
  ⟨⟨true, by decide +kernel⟩,
  ⟨env1, false, by decide +kernel⟩,
  ⟨st [.fld F.PST_STAT_STATE 0 4], by decide +kernel⟩,
  ⟨{ env1 with fusesOk := false }, false, by decide +kernel⟩,
  ⟨0, State.reset, by decide +kernel⟩,
  ⟨10000, State.reset, by decide +kernel⟩,
  ⟨env1, st [.boot { State.reset.boot with held := 1 }], by decide +kernel⟩,
  ⟨{ env1 with fusesOk := false }, st [.boot { State.reset.boot with held := 1 }], by decide +kernel⟩,
  ⟨0, st [cmdIn 0 0x302 []], by decide +kernel⟩,
  ⟨st [.fld F.MOD_BOOT_STAT_STAGE 0 5], by decide +kernel⟩,
  ⟨0, true, st [cmdIn 0 0x601 []], by decide +kernel⟩,
  ⟨0, st [.slots 0 { MbSlot.none with cmd := 0x601, state := 2, args := [1, 0, 0, 0, 0, 0, 0, 0, 64, 0, 0, 0] }], by decide +kernel⟩,
  ⟨0, true, true, st [.dramWritten 0 true, .dram 0 (([82, 72, 79, 90, 1, 0, 0, 1, 3, 0, 32, 0, 255, 255, 255, 255, 0, 0, 0, 0, 192, 1] ++ List.replicate 19 0 ++ [1, 0, 0, 1] ++ List.replicate 19 0) ++ List.replicate 384 0), .slots 0 { MbSlot.none with cmd := 0x601, state := 2, args := [0, 0, 0, 0, 0, 0, 0, 0, 192, 1, 0, 0] }], by decide +kernel⟩,
  ⟨0, st [cmdIn 0 0x602 []], by decide +kernel⟩,
  ⟨0, st [.boot { State.reset.boot with dir := { State.reset.boot.dir with staged := 1 } }, cmdIn 0 0x602 [0]], by decide +kernel⟩,
  ⟨0, st [.boot { State.reset.boot with dir := { State.reset.boot.dir with staged := 1 } }, cmdIn 0 0x602 [1]], by decide +kernel⟩⟩

theorem witness_CoreDomainCommandsAct :
  (∃ (c : CoreId) (s : State), s.domain ↑c = 4) ∧
  (∃ (c : CoreId) (s : State), s.domain ↑c = 2) ∧
  (∃ (c : CoreId) (s : State), (s.domain ↑c = 1 ∨ s.domain ↑c = 3 ∨ s.domain ↑c = 5 ∨ s.domain ↑c = 7)) ∧
  (∃ (c : CoreId) (s : State), s.domain ↑c = 1) ∧
  (∃ (c : CoreId) (s : State), s.domain ↑c = 3) ∧
  (∃ (s : State) (p : Nat), p < 160 ∧ s.nextGrant = some p) ∧
  (∃ (c : CoreId) (tc : Nat) (s : State), s.domain ↑c = 2 ∧ ((s.power.refill (s.clockAt tc)).first (clusterOf ↑c)).isNone = true ∧ (s.power.refill (s.clockAt tc)).holds (clusterOf ↑c) 32000 = true) ∧
  (∃ (c : CoreId) (s : State), s.domain ↑c ≠ 4 ∧ s.domain ↑c ≠ 5) ∧
  (∃ (c : CoreId) (s : State), s.domain ↑c = 5) :=
  ⟨⟨0, st [.fld F.PST_CORE_PWR_r_STATE 0 4], by decide +kernel⟩,
  ⟨0, st [.fld F.PST_CORE_PWR_r_STATE 0 2], by decide +kernel⟩,
  ⟨0, st [.fld F.PST_CORE_PWR_r_STATE 0 1], by decide +kernel⟩,
  ⟨0, st [.fld F.PST_CORE_PWR_r_STATE 0 1], by decide +kernel⟩,
  ⟨0, st [.fld F.PST_CORE_PWR_r_STATE 0 3], by decide +kernel⟩,
  ⟨st [.pst { State.reset.pst with queue := [0] }], 0, by decide +kernel⟩,
  ⟨0, 0, st [.fld F.PST_CORE_PWR_r_STATE 0 2], by decide +kernel⟩,
  ⟨0, State.reset, by decide +kernel⟩,
  ⟨0, st [.fld F.PST_CORE_PWR_r_STATE 0 5], by decide +kernel⟩⟩

theorem witness_SequencerFlowCommandsAct :
  (∃ (c : CoreId) (s : State), s.seqReady ↑c = true) ∧
  (∃ (c : CoreId) (unit : Fin 72) (index : Fin 4096) (reloc : Fin 32) (mask : BitVec 9) (s : State), s.seqReady ↑c = true ∧ (match (relocate ((s.due ↑c).descAt (↑c) (↑index) 64) mask.toNat ((s.due ↑c).scalar ↑c ↑reloc) 9) with | (b, out) => decide ((fun (u : Eng) => decide ((s.eng u).accepts u.se b = true)) ({ core := ↑c, se := decide (64 ≤ ↑unit), n := ↑unit % 64 }) = true)) = true) ∧
  (∃ (c : CoreId) (unit : Fin 72) (index : Fin 4096) (reloc : Fin 32) (mask : BitVec 9) (s : State), s.seqReady ↑c = true ∧ (match (relocate ((s.due ↑c).descAt (↑c) (↑index) 64) mask.toNat ((s.due ↑c).scalar ↑c ↑reloc) 9) with | (b, out) => decide ((fun (u : Eng) => decide ((s.eng u).accepts u.se b = false)) ({ core := ↑c, se := decide (64 ≤ ↑unit), n := ↑unit % 64 }) = true)) = true) ∧
  (∃ (c : CoreId) (base : Fin 32) (offset : BitVec 48) (s : State), s.seqReady ↑c = true ∧ (fun (T : Nat) => decide (s.sc ↑c < T)) (((s.due ↑c).scalar ↑c ↑base + offset.toNat) % 2 ^ 64) = true) ∧
  (∃ (c : CoreId) (base : Fin 32) (offset : BitVec 48) (s : State), s.seqReady ↑c = true ∧ (fun (T : Nat) => decide (T ≤ s.sc ↑c)) (((s.due ↑c).scalar ↑c ↑base + offset.toNat) % 2 ^ 64) = true) ∧
  (∃ (c : CoreId) (fromReg : Bool) (reg : Fin 32) (count : BitVec 32) (s : State), s.seqReady ↑c = true ∧ (fun (n : Nat) => decide (n = 0)) (if fromReg = true then (s.due ↑c).scalar ↑c ↑reg else count.toNat) = true) ∧
  (∃ (c : CoreId) (fromReg : Bool) (reg : Fin 32) (count : BitVec 32) (s : State), s.seqReady ↑c = true ∧ (fun (n : Nat) => decide (n ≠ 0)) (if fromReg = true then (s.due ↑c).scalar ↑c ↑reg else count.toNat) = true) ∧
  (∃ (c : CoreId) (cond : Fin 5) (a : Fin 32) (b : Fin 64) (s : State), s.seqReady ↑c = true ∧ (s.due ↑c).brTaken ↑c ↑cond ↑a ↑b = true) ∧
  (∃ (c : CoreId) (cond : Fin 5) (a : Fin 32) (b : Fin 64) (s : State), s.seqReady ↑c = true ∧ (s.due ↑c).brTaken ↑c ↑cond ↑a ↑b = false) ∧
  (∃ (c : CoreId) (sameCycle : Nat) (s : State), Option.any (fun w => decide (s.scheduled ↑c = true ∧ s.sc ↑c = w.last ∧ (s.core ↑c).halted = false ∧ (fun (hit : Bool) => decide ((hit = true ∨ w.isFault = false))) (reached ((s.arrival (↑c) w.ctr + 2 ^ 32 - sameCycle % 2 ^ 32) % 2 ^ 32) ((s.due ↑c).scalar (↑c) w.thr)) = true)) ((s.core ↑c).wait) = true) ∧
  (∃ (c : CoreId) (sameCycle : Nat) (s : State), Option.any (fun w => decide (s.scheduled ↑c = true ∧ s.sc ↑c = w.last ∧ (s.core ↑c).halted = false ∧ (fun (hit : Bool) => decide (hit = false ∧ w.isFault = true)) (reached ((s.arrival (↑c) w.ctr + 2 ^ 32 - sameCycle % 2 ^ 32) % 2 ^ 32) ((s.due ↑c).scalar (↑c) w.thr)) = true)) ((s.core ↑c).wait) = true) ∧
  (∃ (c : CoreId) (s : State), s.seqReady ↑c = true ∧ Option.any (fun f => decide ((∀ (q : Nat), q ∈ s.mouldPhys f → q ≠ ↑c → (s.core q).halted = true) ∧ List.isEmpty (s.mouldPhys f) = false)) (s.flaskOf ↑c) = true) :=
  ⟨⟨0, st [runsCore 0], by decide +kernel⟩,
  ⟨0, 0, 0, 0, 0, st [runsCore 0], by decide +kernel⟩,
  ⟨0, 0, 0, 0, 0, st [.mes 0 { EngSt.zero with queue := [{ desc := [0], issued := 0 }, { desc := [0], issued := 0 }, { desc := [0], issued := 0 }, { desc := [0], issued := 0 }] }, runsCore 0], by decide +kernel⟩,
  ⟨0, 0, 5, st [runsCore 0], by decide +kernel⟩,
  ⟨0, 0, 0, st [runsCore 0], by decide +kernel⟩,
  ⟨0, true, 0, 0, st [runsCore 0], by decide +kernel⟩,
  ⟨0, false, 0, 3, st [runsCore 0], by decide +kernel⟩,
  ⟨0, 0, 0, 0, st [runsCore 0], by decide +kernel⟩,
  ⟨0, 1, 0, 0, st [runsCore 0], by decide +kernel⟩,
  ⟨0, 0, st [.cores 0 { CoreSt.init with wait := some { rd := 1, ctr := 0, thr := 0, isFault := false, last := 0 } }, .fld F.CORE_STAT_STATE 0 3], by decide +kernel⟩,
  ⟨0, 0, st [.cores 0 { CoreSt.init with wait := some { rd := 1, ctr := 0, thr := 1, isFault := true, last := 0 }, scalars := [(1, 5)] }, .fld F.CORE_STAT_STATE 0 3], by decide +kernel⟩,
  ⟨0, st [.fld F.MOD_ROW_MAP_r_MAP 0 0xFEDCBA9876543210, .cores 0 { CoreSt.init with owner := some (0, 1) }, .flasks 0 { FlaskSt.none with live := true, cores := [0], active := { MouldSt.none with present := true, cores := [0] } }, runsCore 0], by decide +kernel⟩⟩

theorem witness_ScalarCommandsCompute :
  (∃ (c : CoreId) (s : State), s.seqReady ↑c = true) ∧
  (∃ (c : CoreId) (rb : Fin 32) (s : State), s.seqReady ↑c = true ∧ (s.due ↑c).scalar ↑c ↑rb < 64) :=
  ⟨⟨0, st [runsCore 0], by decide +kernel⟩,
  ⟨0, 0, st [runsCore 0], by decide +kernel⟩⟩

theorem witness_QueueCommandsAct :
  (∃ (c : CoreId) (queue : Fin 8192) (s : State), s.seqReady ↑c = true ∧ (fun (q : Nat) => decide ((s.queue q).kind = QKind.unbound)) (s.queueId ↑c ↑queue) = true) ∧
  (∃ (c : CoreId) (queue : Fin 8192) (s : State), s.seqReady ↑c = true ∧ (fun (q : Nat) => decide ((s.queue q).kind = QKind.elasticTx ∧ faModule (s.queue q).peer = s.module ∧ sub16 (s.queue q).sent (s.queue q).consumed < (s.queue (faQueue (s.queue q).peer)).depth)) (s.queueId ↑c ↑queue) = true) ∧
  (∃ (c : CoreId) (queue : Fin 8192) (s : State), s.seqReady ↑c = true ∧ (fun (q : Nat) => decide ((s.queue q).kind = QKind.elasticTx ∧ faModule (s.queue q).peer = s.module ∧ (s.queue (faQueue (s.queue q).peer)).depth ≤ sub16 (s.queue q).sent (s.queue q).consumed)) (s.queueId ↑c ↑queue) = true) ∧
  (∃ (c : CoreId) (queue : Fin 8192) (areg : Fin 32) (addr : BitVec 28) (s : State), s.seqReady ↑c = true ∧ (fun (q : Nat) => decide (((s.queue q).kind = QKind.local ∨ (s.queue q).kind = QKind.elasticRx) ∧ (s.queue q).ringCount ≠ 0 ∧ (fun (a : Nat) => decide (a + 64 ≤ 2 ^ 28)) ((s.due ↑c).qopAddr (↑c) (↑areg) addr.toNat) = true)) (s.queueId ↑c ↑queue) = true) ∧
  (∃ (c : CoreId) (queue : Fin 8192) (areg : Fin 32) (addr : BitVec 28) (s : State) (i : Nat), s.seqReady ↑c = true ∧ (fun (q : Nat) => decide (((s.queue q).kind = QKind.local ∨ (s.queue q).kind = QKind.elasticRx) ∧ (s.queue q).ringCount ≠ 0 ∧ (fun (a : Nat) => decide ((i < spdBase ↑c + a ∨ spdBase ↑c + a + 64 ≤ i))) ((s.due ↑c).qopAddr (↑c) (↑areg) addr.toNat) = true)) (s.queueId ↑c ↑queue) = true) ∧
  (∃ (c : CoreId) (queue : Fin 8192) (s : State), s.seqReady ↑c = true ∧ (fun (q : Nat) => decide (((s.queue q).kind = QKind.local ∨ (s.queue q).kind = QKind.elasticRx) ∧ (s.queue q).ringCount = 0)) (s.queueId ↑c ↑queue) = true) ∧
  (∃ (c : CoreId) (queue : Fin 8192) (areg : Fin 32) (addr : BitVec 28) (s : State), s.seqReady ↑c = true ∧ (fun (q : Nat) => decide ((s.queue q).kind = QKind.local ∧ (s.queue q).ringCount < (s.queue q).depth ∧ (fun (a : Nat) => decide (a + 64 ≤ 2 ^ 28)) ((s.due ↑c).qopAddr (↑c) (↑areg) addr.toNat) = true)) (s.queueId ↑c ↑queue) = true) ∧
  (∃ (c : CoreId) (queue : Fin 8192) (s : State), s.seqReady ↑c = true ∧ (fun (q : Nat) => decide ((s.queue q).kind = QKind.hostPost ∧ s.canPost q = false)) (s.queueId ↑c ↑queue) = true) ∧
  (∃ (c : CoreId) (queue : Fin 8192) (s : State), s.seqReady ↑c = true ∧ (fun (q : Nat) => decide ((s.queue q).kind = QKind.local ∧ (s.queue q).depth ≤ (s.queue q).ringCount)) (s.queueId ↑c ↑queue) = true) ∧
  (∃ (c : CoreId) (queue : Fin 8192) (s : State), s.seqReady ↑c = true ∧ (fun (q : Nat) => decide ((s.queue q).kind = QKind.hostPost ∧ s.canPost q = true)) (s.queueId ↑c ↑queue) = true) ∧
  (∃ (c : CoreId) (queue : Fin 8192) (s : State), s.seqReady ↑c = true ∧ (fun (q : Nat) => decide (((s.queue q).kind = QKind.local ∨ (s.queue q).kind = QKind.elasticRx))) (s.queueId ↑c ↑queue) = true) ∧
  (∃ (c : CoreId) (queue : Fin 8192) (s : State), s.seqReady ↑c = true ∧ (fun (q : Nat) => decide ((s.queue q).kind = QKind.elasticTx)) (s.queueId ↑c ↑queue) = true) ∧
  (∃ (c : CoreId) (queue : Fin 8192) (s : State), s.seqReady ↑c = true ∧ (fun (q : Nat) => decide (((s.queue q).kind = QKind.hostSubmit ∨ (s.queue q).kind = QKind.hostPost))) (s.queueId ↑c ↑queue) = true) ∧
  (∃ (queue : Fin 2097152) (s : State), (fun (x : QueueSt) => decide (x.kind = QKind.elasticRx ∧ x.popped ≠ x.credited ∧ x.creditBatch ≤ sub16 x.popped x.credited)) (s.queue ↑queue) = true) ∧
  (∃ (queue : Fin 2097152) (s : State), (s.queue ↑queue).kind = QKind.elasticTx) ∧
  (∃ (queue : Fin 2097152) (peer : Nat) (entry : List Byte) (s : State), Option.any (fun p => decide ((s.queue ↑queue).kind = QKind.elasticRx ∧ (s.queue ↑queue).peer = peer ∧ (s.queue ↑queue).ringCount < (s.queue ↑queue).depth ∧ entry.length = 64)) (s.qPhys ↑queue) = true) ∧
  (∃ (queue : Fin 2097152) (peer : Nat) (s : State), Option.any (fun p => decide ((s.queue ↑queue).kind = QKind.elasticRx ∧ ((s.queue ↑queue).peer ≠ peer ∨ (s.queue ↑queue).depth ≤ (s.queue ↑queue).ringCount))) (s.qPhys ↑queue) = true) :=
  ⟨⟨0, 0, st [runsCore 0], by decide +kernel⟩,
  ⟨0, 0, st [runsCore 0, .queues 1146880 { QueueSt.none with kind := .elasticTx }], by decide +kernel⟩,
  ⟨0, 0, st [runsCore 0, .queues 1146880 { QueueSt.none with kind := .elasticTx, depthLog2 := 0, sent := 1 }], by decide +kernel⟩,
  ⟨0, 0, 0, 0, st [runsCore 0, .queues 1146880 { QueueSt.none with kind := .local, depthLog2 := 0, written := 1, tail := 1 }], by decide +kernel⟩,
  ⟨0, 0, 0, 0, st [runsCore 0, .queues 1146880 { QueueSt.none with kind := .local, depthLog2 := 0, written := 1, tail := 1 }], 2 ^ 60, by decide +kernel⟩,
  ⟨0, 0, st [runsCore 0, .queues 1146880 { QueueSt.none with kind := .local }], by decide +kernel⟩,
  ⟨0, 0, 0, 0, st [runsCore 0, .queues 1146880 { QueueSt.none with kind := .local }], by decide +kernel⟩,
  ⟨0, 0, st [runsCore 0, .queues 1146880 { QueueSt.none with kind := .hostPost }, .fld F.QUEUE_STAT_STATE 1146880 2], by decide +kernel⟩,
  ⟨0, 0, st [runsCore 0, .queues 1146880 { QueueSt.none with kind := .local, depthLog2 := 0, written := 1, tail := 1 }], by decide +kernel⟩,
  ⟨0, 0, st [runsCore 0, .queues 1146880 { QueueSt.none with kind := .hostPost, depthLog2 := 1 }, .fld F.QUEUE_STAT_STATE 1146880 2, .fld F.MOD_HOST_STAT_p_BUS_MASTER 0 1], by decide +kernel⟩,
  ⟨0, 0, st [runsCore 0, .queues 1146880 { QueueSt.none with kind := .local }], by decide +kernel⟩,
  ⟨0, 0, st [runsCore 0, .queues 1146880 { QueueSt.none with kind := .elasticTx }], by decide +kernel⟩,
  ⟨0, 0, st [runsCore 0, .queues 1146880 { QueueSt.none with kind := .hostSubmit }], by decide +kernel⟩,
  ⟨0, st [.queues 0 { QueueSt.none with kind := .elasticRx, popped := 1 }], by decide +kernel⟩,
  ⟨0, st [.queues 0 { QueueSt.none with kind := .elasticTx }], by decide +kernel⟩,
  ⟨0, 0, List.replicate 64 0, st [.fld F.MOD_ROW_MAP_r_MAP 0 0xFEDCBA9876543210, .queues 0 { QueueSt.none with kind := .elasticRx, depthLog2 := 1 }], by decide +kernel⟩,
  ⟨0, 1, st [.fld F.MOD_ROW_MAP_r_MAP 0 0xFEDCBA9876543210, .queues 0 { QueueSt.none with kind := .elasticRx, depthLog2 := 1 }], by decide +kernel⟩⟩

theorem witness_MatrixEngineCommandsAct :
  (∃ (c : CoreId) (e : Fin 64) (quad : Fin 4) (f : EngFaults) (s : State), (fun (u : Eng) => decide (f = { parity := [], abufParity := [], uncorrected := [], corrected := [], conflicts := [] } ∧ nextQueued false (↑quad) (s.eng u).queue = none)) (meOf c e) = true) ∧
  (∃ (c : CoreId) (e : Fin 64) (quad : Fin 4) (f : EngFaults) (s : State), (fun (u : Eng) => decide (f.uncorrected = [] ∧ s.scheduled ↑c = true ∧ Option.any (fun q => decide ((s.eng u).canStart false q ((s.eng u).nextBank (parseDesc false q.desc)) = true ∧ s.flag F.ME_CTL_GATE_DIS u.key = false)) (nextQueued false (↑quad) (s.eng u).queue) = true)) (meOf c e) = true) ∧
  (∃ (c : CoreId) (e : Fin 64) (quad : Fin 4) (f : EngFaults) (s : State), (fun (u : Eng) => decide (f.uncorrected = [] ∧ s.scheduled ↑c = true ∧ Option.any (fun q => decide ((s.eng u).canStart false q ((s.eng u).nextBank (parseDesc false q.desc)) = true ∧ s.flag F.ME_CTL_GATE_DIS u.key = true)) (nextQueued false (↑quad) (s.eng u).queue) = true)) (meOf c e) = true) ∧
  (∃ (c : CoreId) (e : Fin 64) (quad : Fin 4) (f : EngFaults) (s : State), (fun (u : Eng) => decide (f.uncorrected = [] ∧ s.scheduled ↑c = true ∧ Option.any (fun x => decide ((fun (d : Desc) => decide (d.drain = 0)) (parseDesc false x.desc) = true)) ((s.eng u).drains false ↑quad) = true)) (meOf c e) = true) ∧
  (∃ (c : CoreId) (e : Fin 64) (quad : Fin 4) (f : EngFaults) (s : State) (a : Nat), (fun (u : Eng) => decide (f.uncorrected = [] ∧ s.scheduled ↑c = true ∧ Option.any (fun x => decide ((fun (d : Desc) => decide ((∀ (i : Nat), i < d.m → a < spdBase ↑c + d.outAddr + i * d.stride ∨ spdBase ↑c + d.outAddr + i * d.stride + (d.outBits * d.n + 7) / 8 ≤ a) ∧ (a < spdBase ↑c + d.outScale ∨ spdBase ↑c + d.outScale + d.m ≤ a))) (parseDesc false x.desc) = true)) ((s.eng u).drains false ↑quad) = true)) (meOf c e) = true) ∧
  (∃ (c : CoreId) (e : Fin 64) (s : State) (i : Nat), (fun (u : Eng) => decide ((match ((s.eng u).loads) with | l :: ls => decide (s.scheduled ↑c = true ∧ (∀ (q : Queued), q ∈ (s.eng u).queue → l.issued ≤ q.issued) ∧ i < (parseDesc false l.desc).k) | _ => false) = true)) (meOf c e) = true) ∧
  (∃ (c : CoreId) (e : Fin 64) (s : State) (a : Nat), (fun (u : Eng) => decide ((match ((s.eng u).loads) with | l :: ls => decide (s.scheduled ↑c = true ∧ (∀ (q : Queued), q ∈ (s.eng u).queue → l.issued ≤ q.issued) ∧ (a < (parseDesc false l.desc).outAddr ∨ (parseDesc false l.desc).outAddr + (parseDesc false l.desc).k ≤ a)) | _ => false) = true)) (meOf c e) = true) ∧
  (∃ (c : CoreId) (e : Fin 64) (s : State), (fun (u : Eng) => decide ((s.eng u).loads = [])) (meOf c e) = true) :=
  ⟨⟨0, 0, 0, noFaults, State.reset, by decide +kernel⟩,
  ⟨0, 0, 0, noFaults, st [.mes 0 { EngSt.zero with queue := [{ desc := [0], issued := 0 }] }, runsCore 0, .fld F.ME_CTL_GATE_DIS 0 0], by decide +kernel⟩,
  ⟨0, 0, 0, noFaults, st [.mes 0 { EngSt.zero with queue := [{ desc := [0], issued := 0 }] }, runsCore 0, .fld F.ME_CTL_GATE_DIS 0 1], by decide +kernel⟩,
  ⟨0, 0, 0, noFaults, st [.mes 0 { EngSt.zero with tiles := [{ desc := ([0, 0, 0, 0, 1, 1] ++ List.replicate 58 0), quad := 0, bank := 0, start := 0, beats := 0, initAt := [], flags := Flags.none }] }, runsCore 0], by decide +kernel⟩,
  ⟨0, 0, 0, noFaults, st [.mes 0 { EngSt.zero with tiles := [{ desc := ([0, 0, 0, 0, 1, 1] ++ List.replicate 58 0), quad := 0, bank := 0, start := 0, beats := 0, initAt := [], flags := Flags.none }] }, runsCore 0], 2 ^ 60, by decide +kernel⟩,
  ⟨0, 0, st [.mes 0 { EngSt.zero with loads := [{ desc := [2, 0, 0, 0, 0, 0, 0, 0, 4, 0, 0, 0], issued := 0 }] }, runsCore 0], 0, by decide +kernel⟩,
  ⟨0, 0, st [.mes 0 { EngSt.zero with loads := [{ desc := [2, 0, 0, 0, 0, 0, 0, 0, 4, 0, 0, 0], issued := 0 }] }, runsCore 0], 2 ^ 60, by decide +kernel⟩,
  ⟨0, 0, State.reset, by decide +kernel⟩⟩

theorem witness_SparseEngineCommandsAct :
  (∃ (c : CoreId) (e : Fin 8) (f : EngFaults) (s : State), (fun (u : Eng) => decide (f = { parity := [], abufParity := [], uncorrected := [], corrected := [], conflicts := [] } ∧ nextQueued true 0 (s.eng u).queue = none)) (seOf c e) = true) ∧
  (∃ (c : CoreId) (e : Fin 8) (f : EngFaults) (s : State), (fun (u : Eng) => decide (f.uncorrected = [] ∧ s.scheduled ↑c = true ∧ Option.any (fun q => decide ((s.eng u).canStart true q ((s.eng u).nextBank (parseDesc true q.desc)) = true ∧ (fun (d : Desc) => decide ((fun (sp : Store) => decide (metaFaulty d sp = true)) (s.spdStore (↑c) (List.map (fun y => y.fst) f.conflicts)) = true)) (parseDesc true q.desc) = true)) (nextQueued true 0 (s.eng u).queue) = true)) (seOf c e) = true) ∧
  (∃ (c : CoreId) (e : Fin 8) (f : EngFaults) (s : State), (fun (u : Eng) => decide (f.uncorrected = [] ∧ s.scheduled ↑c = true ∧ Option.any (fun x => decide ((fun (d : Desc) => decide (d.drain = 0)) (parseDesc true x.desc) = true)) ((s.eng u).drains true 0) = true)) (seOf c e) = true) ∧
  (∃ (c : CoreId) (e : Fin 8) (f : EngFaults) (s : State) (a : Nat), (fun (u : Eng) => decide (f.uncorrected = [] ∧ s.scheduled ↑c = true ∧ Option.any (fun x => decide ((fun (d : Desc) => decide ((∀ (i : Nat), i < d.m → a < spdBase ↑c + d.outAddr + i * d.stride ∨ spdBase ↑c + d.outAddr + i * d.stride + (d.outBits * d.n + 7) / 8 ≤ a) ∧ (a < spdBase ↑c + d.outScale ∨ spdBase ↑c + d.outScale + d.m ≤ a))) (parseDesc true x.desc) = true)) ((s.eng u).drains true 0) = true)) (seOf c e) = true) ∧
  (∃ (c : CoreId) (e : Fin 8) (s : State) (i : Nat), (fun (u : Eng) => decide ((match ((s.eng u).loads) with | l :: ls => decide (s.scheduled ↑c = true ∧ (∀ (q : Queued), q ∈ (s.eng u).queue → l.issued ≤ q.issued) ∧ i < (parseDesc true l.desc).k) | _ => false) = true)) (seOf c e) = true) ∧
  (∃ (c : CoreId) (e : Fin 8) (s : State) (a : Nat), (fun (u : Eng) => decide ((match ((s.eng u).loads) with | l :: ls => decide (s.scheduled ↑c = true ∧ (∀ (q : Queued), q ∈ (s.eng u).queue → l.issued ≤ q.issued) ∧ (a < (parseDesc true l.desc).outAddr ∨ (parseDesc true l.desc).outAddr + (parseDesc true l.desc).k ≤ a)) | _ => false) = true)) (seOf c e) = true) ∧
  (∃ (c : CoreId) (e : Fin 8) (s : State), (fun (u : Eng) => decide ((s.eng u).loads = [])) (seOf c e) = true) :=
  ⟨⟨0, 0, noFaults, State.reset, by decide +kernel⟩,
  ⟨0, 0, noFaults, st [.ses 0 { EngSt.zero with queue := [{ desc := ([0, 1, 0, 0, 0, 1, 0, 0, 4] ++ List.replicate 19 0), issued := 0 }] }, runsCore 0, .spd 0 [1]], by decide +kernel⟩,
  ⟨0, 0, noFaults, st [.ses 0 { EngSt.zero with tiles := [{ desc := ([0, 0, 0, 0, 1, 1] ++ List.replicate 58 0), quad := 0, bank := 0, start := 0, beats := 0, initAt := [], flags := Flags.none }] }, runsCore 0], by decide +kernel⟩,
  ⟨0, 0, noFaults, st [.ses 0 { EngSt.zero with tiles := [{ desc := ([0, 0, 0, 0, 1, 1] ++ List.replicate 58 0), quad := 0, bank := 0, start := 0, beats := 0, initAt := [], flags := Flags.none }] }, runsCore 0], 2 ^ 60, by decide +kernel⟩,
  ⟨0, 0, st [.ses 0 { EngSt.zero with loads := [{ desc := [2, 0, 0, 0, 0, 0, 0, 0, 4, 0, 0, 0], issued := 0 }] }, runsCore 0], 0, by decide +kernel⟩,
  ⟨0, 0, st [.ses 0 { EngSt.zero with loads := [{ desc := [2, 0, 0, 0, 0, 0, 0, 0, 4, 0, 0, 0], issued := 0 }] }, runsCore 0], 2 ^ 60, by decide +kernel⟩,
  ⟨0, 0, State.reset, by decide +kernel⟩⟩

theorem witness_VectorOperationsCompute :
  (∃ (c : CoreId) (a : VopArgs) (s : State), s.seqReady ↑c = true ∧ (s.vu (↑c * 4 + ↑a.vu)).queued (s.sc ↑c) < 8 ∧ (s.due ↑c).vopValid (↑c) 0 a = false) ∧
  (∃ (c : CoreId) (a : VopArgs) (s : State) (r : Nat), (fun (v : VuSt) => decide (s.seqReady ↑c = true ∧ v.queued (s.sc ↑c) < 8 ∧ (s.due ↑c).vopValid (↑c) 0 a = true ∧ r ≠ ↑a.vd)) (s.vu (↑c * 4 + ↑a.vu)) = true) ∧
  (∃ (c : CoreId) (a : VopArgs) (s : State), s.seqReady ↑c = true ∧ 8 ≤ (s.vu (↑c * 4 + ↑a.vu)).queued (s.sc ↑c)) ∧
  (∃ (c : CoreId) (a : VopArgs) (s : State), s.seqReady ↑c = true ∧ (s.vu (↑c * 4 + ↑a.vu)).queued (s.sc ↑c) < 8 ∧ (s.due ↑c).vopValid (↑c) 1 a = false) ∧
  (∃ (c : CoreId) (a : VopArgs) (s : State) (r : Nat), (fun (v : VuSt) => decide (s.seqReady ↑c = true ∧ v.queued (s.sc ↑c) < 8 ∧ (s.due ↑c).vopValid (↑c) 1 a = true ∧ r ≠ ↑a.vd)) (s.vu (↑c * 4 + ↑a.vu)) = true) ∧
  (∃ (c : CoreId) (a : VopArgs) (s : State), s.seqReady ↑c = true ∧ 8 ≤ (s.vu (↑c * 4 + ↑a.vu)).queued (s.sc ↑c)) ∧
  (∃ (c : CoreId) (a : VopArgs) (s : State), s.seqReady ↑c = true ∧ (s.vu (↑c * 4 + ↑a.vu)).queued (s.sc ↑c) < 8 ∧ (s.due ↑c).vopValid (↑c) 2 a = false) ∧
  (∃ (c : CoreId) (a : VopArgs) (s : State) (r : Nat), (fun (v : VuSt) => decide (s.seqReady ↑c = true ∧ v.queued (s.sc ↑c) < 8 ∧ (s.due ↑c).vopValid (↑c) 2 a = true ∧ r ≠ ↑a.vd)) (s.vu (↑c * 4 + ↑a.vu)) = true) ∧
  (∃ (c : CoreId) (a : VopArgs) (s : State), s.seqReady ↑c = true ∧ 8 ≤ (s.vu (↑c * 4 + ↑a.vu)).queued (s.sc ↑c)) ∧
  (∃ (c : CoreId) (a : VopArgs) (s : State) (r : Nat), (fun (v : VuSt) => decide (s.seqReady ↑c = true ∧ v.queued (s.sc ↑c) < 8 ∧ a.opc ≠ 42 ∧ (s.due ↑c).vopValid (↑c) 3 a = true ∧ r ≠ ↑a.vd)) (s.vu (↑c * 4 + ↑a.vu)) = true) ∧
  (∃ (c : CoreId) (a : VopArgs) (s : State) (i : Nat), (fun (v : VuSt) => decide (s.seqReady ↑c = true ∧ v.queued (s.sc ↑c) < 8 ∧ a.opc ≠ 42 ∧ (s.due ↑c).vopValid (↑c) 3 a = true ∧ a.opc = 40 ∧ i < 1024 ∧ Option.any (fun j => decide (j < 1024)) ((v.lanes a.parity ↑a.vb)[i]?) = true)) (s.vu (↑c * 4 + ↑a.vu)) = true) ∧
  (∃ (c : CoreId) (a : VopArgs) (s : State), a.opc ≠ 42 ∧ s.seqReady ↑c = true ∧ (s.vu (↑c * 4 + ↑a.vu)).queued (s.sc ↑c) < 8 ∧ (s.due ↑c).vopValid (↑c) 3 a = false) ∧
  (∃ (c : CoreId) (a : VopArgs) (s : State), s.seqReady ↑c = true ∧ 8 ≤ (s.vu (↑c * 4 + ↑a.vu)).queued (s.sc ↑c)) ∧
  (∃ (c : CoreId) (a : VopArgs) (s : State) (r : Nat), (fun (v : VuSt) => decide (s.seqReady ↑c = true ∧ v.queued (s.sc ↑c) < 8 ∧ a.opc = 42 ∧ (s.due ↑c).vopValid (↑c) 3 a = true ∧ r ≠ ↑a.vd)) (s.vu (↑c * 4 + ↑a.vu)) = true) ∧
  (∃ (c : CoreId) (a : VopArgs) (s : State) (i : Nat), (fun (v : VuSt) => decide (s.seqReady ↑c = true ∧ v.queued (s.sc ↑c) < 8 ∧ a.opc = 42 ∧ (s.due ↑c).vopValid (↑c) 3 a = true ∧ (fun (r : BufRow) => decide (r.valid = true ∧ bitOf r.flags 5 = false ∧ i < 32)) (assoc { bytes := [], flags := 0, valid := false } v.ingress a.imm.toNat) = true)) (s.vu (↑c * 4 + ↑a.vu)) = true) ∧
  (∃ (c : CoreId) (a : VopArgs) (s : State), a.opc = 42 ∧ s.seqReady ↑c = true ∧ (s.vu (↑c * 4 + ↑a.vu)).queued (s.sc ↑c) < 8 ∧ (s.due ↑c).vopValid (↑c) 3 a = false) ∧
  (∃ (c : CoreId) (a : VopArgs) (s : State), s.seqReady ↑c = true ∧ 8 ≤ (s.vu (↑c * 4 + ↑a.vu)).queued (s.sc ↑c)) ∧
  (∃ (c : CoreId) (a : VopArgs) (s : State), s.seqReady ↑c = true ∧ (s.vu (↑c * 4 + ↑a.vu)).queued (s.sc ↑c) < 8 ∧ (s.due ↑c).vopValid (↑c) 4 a = false) ∧
  (∃ (c : CoreId) (a : VopArgs) (s : State) (r : Nat), (fun (v : VuSt) => decide (s.seqReady ↑c = true ∧ v.queued (s.sc ↑c) < 8 ∧ (s.due ↑c).vopValid (↑c) 4 a = true ∧ r ≠ ↑a.vd)) (s.vu (↑c * 4 + ↑a.vu)) = true) ∧
  (∃ (c : CoreId) (a : VopArgs) (s : State), s.seqReady ↑c = true ∧ 8 ≤ (s.vu (↑c * 4 + ↑a.vu)).queued (s.sc ↑c)) ∧
  (∃ (c : CoreId) (a : VopArgs) (s : State), s.seqReady ↑c = true ∧ (s.vu (↑c * 4 + ↑a.vu)).queued (s.sc ↑c) < 8 ∧ (s.due ↑c).vopValid (↑c) 5 a = false) ∧
  (∃ (c : CoreId) (a : VopArgs) (s : State) (r : Nat), (fun (v : VuSt) => decide (s.seqReady ↑c = true ∧ v.queued (s.sc ↑c) < 8 ∧ (s.due ↑c).vopValid (↑c) 5 a = true ∧ r ≠ ↑a.vd)) (s.vu (↑c * 4 + ↑a.vu)) = true) ∧
  (∃ (c : CoreId) (a : VopArgs) (s : State), s.seqReady ↑c = true ∧ 8 ≤ (s.vu (↑c * 4 + ↑a.vu)).queued (s.sc ↑c)) :=
  ⟨⟨0, vopOf 0 0, st [runsCore 0], by decide +kernel⟩,
  ⟨0, vopOf 1 0, st [runsCore 0], 0, by decide +kernel⟩,
  ⟨0, vopOf 1 0, st [runsCore 0, .vus 0 { VuSt.zero with starts := [(0, 9), (0, 10), (0, 11), (0, 12), (0, 13), (0, 14), (0, 15), (0, 16), (0, 17)] }], by decide +kernel⟩,
  ⟨0, vopOf 0 0, st [runsCore 0], by decide +kernel⟩,
  ⟨0, vopOf 16 0, st [runsCore 0], 0, by decide +kernel⟩,
  ⟨0, vopOf 16 0, st [runsCore 0, .vus 0 { VuSt.zero with starts := [(0, 9), (0, 10), (0, 11), (0, 12), (0, 13), (0, 14), (0, 15), (0, 16), (0, 17)] }], by decide +kernel⟩,
  ⟨0, vopOf 0 0, st [runsCore 0], by decide +kernel⟩,
  ⟨0, vopOf 32 0, st [runsCore 0], 0, by decide +kernel⟩,
  ⟨0, vopOf 32 0, st [runsCore 0, .vus 0 { VuSt.zero with starts := [(0, 9), (0, 10), (0, 11), (0, 12), (0, 13), (0, 14), (0, 15), (0, 16), (0, 17)] }], by decide +kernel⟩,
  ⟨0, vopOf 40 0, st [runsCore 0], 0, by decide +kernel⟩,
  ⟨0, vopOf 40 0, st [runsCore 0], 0, by decide +kernel⟩,
  ⟨0, vopOf 0 0, st [runsCore 0], by decide +kernel⟩,
  ⟨0, vopOf 40 0, st [runsCore 0, .vus 0 { VuSt.zero with starts := [(0, 9), (0, 10), (0, 11), (0, 12), (0, 13), (0, 14), (0, 15), (0, 16), (0, 17)] }], by decide +kernel⟩,
  ⟨0, vopOf 42 0, st [runsCore 0, .vus 0 { VuSt.zero with ingress := [(0, { bytes := List.replicate 128 0, flags := 0, valid := true })] }], 0, by decide +kernel⟩,
  ⟨0, vopOf 42 0, st [runsCore 0, .vus 0 { VuSt.zero with ingress := [(0, { bytes := List.replicate 128 0, flags := 0, valid := true })] }], 0, by decide +kernel⟩,
  ⟨0, { vu := 0, nonsat := false, opc := 42, vd := 1, va := 2, vb := 3, vc := 4, fmt := 200, imm := 99, sreg := 0, tag := 0, parity := [] }, st [runsCore 0], by decide +kernel⟩,
  ⟨0, vopOf 42 0, st [runsCore 0, .vus 0 { VuSt.zero with starts := [(0, 9), (0, 10), (0, 11), (0, 12), (0, 13), (0, 14), (0, 15), (0, 16), (0, 17)] }], by decide +kernel⟩,
  ⟨0, vopOf 0 0, st [runsCore 0], by decide +kernel⟩,
  ⟨0, vopOf 48 0, st [runsCore 0], 0, by decide +kernel⟩,
  ⟨0, vopOf 48 0, st [runsCore 0, .vus 0 { VuSt.zero with starts := [(0, 9), (0, 10), (0, 11), (0, 12), (0, 13), (0, 14), (0, 15), (0, 16), (0, 17)] }], by decide +kernel⟩,
  ⟨0, vopOf 0 0, st [runsCore 0], by decide +kernel⟩,
  ⟨0, vopOf 64 0, st [runsCore 0], 0, by decide +kernel⟩,
  ⟨0, vopOf 64 0, st [runsCore 0, .vus 0 { VuSt.zero with starts := [(0, 9), (0, 10), (0, 11), (0, 12), (0, 13), (0, 14), (0, 15), (0, 16), (0, 17)] }], by decide +kernel⟩⟩

theorem witness_VectorMemoryAndSamplerCommandsAct :
  (∃ (c : CoreId) (a : VopArgs) (s : State), (fun (v : VuSt) => decide (s.seqReady ↑c = true ∧ v.queued (s.sc ↑c) < 8 ∧ a.opc = 72 ∧ (s.due ↑c).vopValid (↑c) 6 a = true)) (s.vu (↑c * 4 + ↑a.vu)) = true) ∧
  (∃ (c : CoreId) (a : VopArgs) (s : State) (r : Nat), (fun (v : VuSt) => decide (s.seqReady ↑c = true ∧ v.queued (s.sc ↑c) < 8 ∧ a.opc = 72 ∧ (s.due ↑c).vopValid (↑c) 6 a = true ∧ r ≠ ↑a.vd)) (s.vu (↑c * 4 + ↑a.vu)) = true) ∧
  (∃ (c : CoreId) (a : VopArgs) (s : State), a.opc = 72 ∧ s.seqReady ↑c = true ∧ (s.vu (↑c * 4 + ↑a.vu)).queued (s.sc ↑c) < 8 ∧ (s.due ↑c).vopValid (↑c) 6 a = false) ∧
  (∃ (c : CoreId) (a : VopArgs) (s : State), s.seqReady ↑c = true ∧ 8 ≤ (s.vu (↑c * 4 + ↑a.vu)).queued (s.sc ↑c)) ∧
  (∃ (c : CoreId) (a : VopArgs) (conflicts : List (Nat × Nat)) (s : State), (fun (v : VuSt) => decide (s.seqReady ↑c = true ∧ v.queued (s.sc ↑c) < 8 ∧ a.opc = 73 ∧ (s.due ↑c).vopValid (↑c) 6 a = true ∧ conflicts = [])) (s.vu (↑c * 4 + ↑a.vu)) = true) ∧
  (∃ (c : CoreId) (a : VopArgs) (s : State) (i : Nat), (fun (v : VuSt) => decide (s.seqReady ↑c = true ∧ v.queued (s.sc ↑c) < 8 ∧ a.opc = 73 ∧ (s.due ↑c).vopValid (↑c) 6 a = true ∧ (fun (A : Nat) => decide ((fun (bs : List Byte) => decide ((i < spdBase ↑c + A ∨ spdBase ↑c + A + bs.length ≤ i))) (packOver (fmtBits a.fmt) (List.map (fun x => x.fst) (List.map (storeLane a.fmt a.nonsat) (v.lanes a.parity ↑a.va))) fun x => 0) = true)) ((s.due ↑c).vopAddr (↑c) a.imm ↑a.sreg) = true)) (s.vu (↑c * 4 + ↑a.vu)) = true) ∧
  (∃ (c : CoreId) (a : VopArgs) (s : State), a.opc = 73 ∧ s.seqReady ↑c = true ∧ (s.vu (↑c * 4 + ↑a.vu)).queued (s.sc ↑c) < 8 ∧ (s.due ↑c).vopValid (↑c) 6 a = false) ∧
  (∃ (c : CoreId) (a : VopArgs) (s : State), s.seqReady ↑c = true ∧ 8 ≤ (s.vu (↑c * 4 + ↑a.vu)).queued (s.sc ↑c)) ∧
  (∃ (c : CoreId) (a : VopArgs) (conflicts : List (Nat × Nat)) (s : State), (fun (v : VuSt) => decide (s.seqReady ↑c = true ∧ v.queued (s.sc ↑c) < 8 ∧ a.opc = 74 ∧ (s.due ↑c).vopValid (↑c) 6 a = true ∧ conflicts = [])) (s.vu (↑c * 4 + ↑a.vu)) = true) ∧
  (∃ (c : CoreId) (a : VopArgs) (s : State) (i : Nat), (fun (v : VuSt) => decide (s.seqReady ↑c = true ∧ v.queued (s.sc ↑c) < 8 ∧ a.opc = 74 ∧ (s.due ↑c).vopValid (↑c) 6 a = true ∧ (fun (A : Nat) => decide ((fun (bs : List Byte) => decide ((i < spdBase ↑c + A ∨ spdBase ↑c + A + bs.length ≤ i))) ((packOver (fmtBits a.fmt) (List.flatMap (fun b => (mxQuant a.fmt (List.map f32 b)).snd.fst) (blocks32 (v.lanes a.parity ↑a.va))) fun x => 0) ++ List.map (fun b => BitVec.ofNat 8 (mxQuant a.fmt (List.map f32 b)).fst) (blocks32 (v.lanes a.parity ↑a.va))) = true)) ((s.due ↑c).vopAddr (↑c) a.imm ↑a.sreg) = true)) (s.vu (↑c * 4 + ↑a.vu)) = true) ∧
  (∃ (c : CoreId) (a : VopArgs) (s : State), a.opc = 74 ∧ s.seqReady ↑c = true ∧ (s.vu (↑c * 4 + ↑a.vu)).queued (s.sc ↑c) < 8 ∧ (s.due ↑c).vopValid (↑c) 6 a = false) ∧
  (∃ (c : CoreId) (a : VopArgs) (s : State), s.seqReady ↑c = true ∧ 8 ≤ (s.vu (↑c * 4 + ↑a.vu)).queued (s.sc ↑c)) ∧
  (∃ (c : CoreId) (a : SampleArgs) (s : State), (fun (v : VuSt) => decide ((fun (A : Nat) => decide (s.seqReady ↑c = true ∧ v.queued (s.sc ↑c) < 8 ∧ (a.vmaxBlocks = 0 ∨ 1024 < a.vmaxBlocks ∨ a.kmax = 0 ∨ 4096 < a.kmax ∨ Machine.fits A 64 (2 ^ 28) = false))) ((s.due ↑c).vopAddr (↑c) a.imm ↑a.sreg) = true)) (s.vu (↑c * 4 + ↑a.vu)) = true) ∧
  (∃ (c : CoreId) (a : SampleArgs) (s : State), (fun (v : VuSt) => decide ((fun (A : Nat) => decide (s.seqReady ↑c = true ∧ v.queued (s.sc ↑c) < 8 ∧ 1 ≤ a.vmaxBlocks ∧ a.vmaxBlocks ≤ 1024 ∧ 1 ≤ a.kmax ∧ a.kmax ≤ 4096 ∧ Machine.fits A 64 (2 ^ 28) = true)) ((s.due ↑c).vopAddr (↑c) a.imm ↑a.sreg) = true)) (s.vu (↑c * 4 + ↑a.vu)) = true) ∧
  (∃ (c : CoreId) (a : SampleArgs) (s : State), (fun (v : VuSt) => decide (s.seqReady ↑c = true ∧ 8 ≤ v.queued (s.sc ↑c))) (s.vu (↑c * 4 + ↑a.vu)) = true) ∧
  (∃ (c : CoreId) (vu : Fin 4) (s : State), (match ((s.vu (↑c * 4 + ↑vu)).waiting) with | o :: rest => decide (s.scheduled ↑c = true ∧ (s.vu (↑c * 4 + ↑vu)).sample = none ∧ (s.spdPoisoned (↑c) o.recAddr 64 = true ∨ recordValid o.vmax o.kmax (s.spdRd (↑c) o.recAddr 64) = false)) | _ => false) = true) ∧
  (∃ (c : CoreId) (vu : Fin 4) (s : State), Option.any (fun o => decide (s.scheduled ↑c = true)) ((s.vu (↑c * 4 + ↑vu)).sample) = true) :=
  ⟨⟨0, vopOf 72 0, st [runsCore 0], by decide +kernel⟩,
  ⟨0, vopOf 72 0, st [runsCore 0], 0, by decide +kernel⟩,
  ⟨0, vopOf 72 9, st [runsCore 0], by decide +kernel⟩,
  ⟨0, vopOf 72 0, st [runsCore 0, .vus 0 { VuSt.zero with starts := [(0, 9), (0, 10), (0, 11), (0, 12), (0, 13), (0, 14), (0, 15), (0, 16), (0, 17)] }], by decide +kernel⟩,
  ⟨0, vopOf 73 0, [], st [runsCore 0], by decide +kernel⟩,
  ⟨0, vopOf 73 0, st [runsCore 0], 2 ^ 60, by decide +kernel⟩,
  ⟨0, vopOf 73 9, st [runsCore 0], by decide +kernel⟩,
  ⟨0, vopOf 73 0, st [runsCore 0, .vus 0 { VuSt.zero with starts := [(0, 9), (0, 10), (0, 11), (0, 12), (0, 13), (0, 14), (0, 15), (0, 16), (0, 17)] }], by decide +kernel⟩,
  ⟨0, vopOf 74 9, [], st [runsCore 0], by decide +kernel⟩,
  ⟨0, vopOf 74 9, st [runsCore 0], 2 ^ 60, by decide +kernel⟩,
  ⟨0, vopOf 74 0, st [runsCore 0], by decide +kernel⟩,
  ⟨0, vopOf 74 0, st [runsCore 0, .vus 0 { VuSt.zero with starts := [(0, 9), (0, 10), (0, 11), (0, 12), (0, 13), (0, 14), (0, 15), (0, 16), (0, 17)] }], by decide +kernel⟩,
  ⟨0, { vu := 0, vd := 1, vmaxBlocks := 0, kmax := 0, imm := 0, sreg := 0, tag := 0 }, st [runsCore 0], by decide +kernel⟩,
  ⟨0, { vu := 0, vd := 1, vmaxBlocks := 1, kmax := 1, imm := 0, sreg := 0, tag := 0 }, st [runsCore 0], by decide +kernel⟩,
  ⟨0, { vu := 0, vd := 1, vmaxBlocks := 1, kmax := 1, imm := 0, sreg := 0, tag := 0 }, st [runsCore 0, .vus 0 { VuSt.zero with starts := [(0, 9), (0, 10), (0, 11), (0, 12), (0, 13), (0, 14), (0, 15), (0, 16), (0, 17)] }], by decide +kernel⟩,
  ⟨0, 0, st [runsCore 0, .vus 0 { VuSt.zero with waiting := [{ recAddr := 0, vmax := 1, kmax := 1, vd := 1, tag := 0, issued := 0, start := 0, valid := true, poison := false, record := [], logits := [] }] }], by decide +kernel⟩,
  ⟨0, 0, st [runsCore 0, .vus 0 { VuSt.zero with sample := some { recAddr := 0, vmax := 1, kmax := 1, vd := 1, tag := 0, issued := 0, start := 0, valid := true, poison := false, record := [], logits := [] } }], by decide +kernel⟩⟩

theorem witness_ScratchpadCommandsAct :
  (∃ (op : AccessOp) (n : Nat), op = AccessOp.read n) ∧
  (∃ (c : CoreId) (line : Nat) (s : State), Option.any (fun g => decide (g.bytes.length = 64)) (List.find? (fun g => g.line == line) (s.core ↑c).gather) = true) ∧
  (∃ (c : CoreId) (line : Nat) (s : State) (a : Nat), Option.any (fun g => decide ((a < spdBase ↑c + line * 64 ∨ spdBase ↑c + line * 64 + 64 ≤ a))) (List.find? (fun g => g.line == line) (s.core ↑c).gather) = true) ∧
  (∃ (c : CoreId) (line : Nat) (s : State), List.find? (fun g => g.line == line) (s.core ↑c).gather = none) ∧
  (∃ (c : CoreId) (line : Nat) (s : State), NSet.mem (s.core ↑c).writeBack line = false) ∧
  (∃ (c : CoreId) (line : Nat) (s : State), NSet.mem (s.core ↑c).writeBack line = true) ∧
  (∃ (c : CoreId) (bank : Fin 64) (row : Nat) (reason : Nat) (s : State), row < 65536 ∧ (reason ≠ 3 ∨ NSet.mem (s.core ↑c).badRows (lineOf (↑bank) row) = true) ∧ s.slagFull 3 = false ∧ Option.isSome ((s.core ↑c).freeSpare ↑bank) = true) ∧
  (∃ (c : CoreId) (bank : Fin 64) (row : Nat) (reason : Nat) (s : State), (65536 ≤ row ∨ reason = 3 ∧ NSet.mem (s.core ↑c).badRows (lineOf (↑bank) row) = false)) ∧
  (∃ (c : CoreId) (x : ScrubFinding) (s : State), s.fget F.SPD_SCRUB_CTL_DIS ↑c = 0 ∧ s.fget F.SPD_SCRUB_STAT_ROW ↑c < 65599 ∧ x.behind = true) ∧
  (∃ (c : CoreId) (s : State), s.fget F.SPD_SCRUB_CTL_DIS ↑c = 1) ∧
  (∃ (c : CoreId) (s : State), s.fget F.SPD_SCRUB_CTL_DIS ↑c = 0 ∧ 65599 ≤ s.fget F.SPD_SCRUB_STAT_ROW ↑c) ∧
  (∃ (c : CoreId) (a : Nat), (a < spdBase ↑c ∨ spdBase (↑c + 1) ≤ a)) ∧
  (∃ (c : CoreId) (s : State) (a : Nat), s.fget F.SPD_STAT_ZEROING ↑c = 1 ∧ a < 2 ^ 28) :=
  ⟨⟨.read 0, 0, by decide +kernel⟩,
  ⟨0, 0, st [.cores 0 { CoreSt.init with gather := [{ line := 0, bytes := List.replicate 64 0, mask := 0, poison := false }] }], by decide +kernel⟩,
  ⟨0, 0, st [.cores 0 { CoreSt.init with gather := [{ line := 0, bytes := List.replicate 64 0, mask := 0, poison := false }] }], 2 ^ 60, by decide +kernel⟩,
  ⟨0, 0, State.reset, by decide +kernel⟩,
  ⟨0, 0, State.reset, by decide +kernel⟩,
  ⟨0, 0, st [.cores 0 { CoreSt.init with writeBack := [0] }], by decide +kernel⟩,
  ⟨0, 0, 0, 0, State.reset, by decide +kernel⟩,
  ⟨0, 0, 0, 3, State.reset, by decide +kernel⟩,
  ⟨0, { bank := 0, corrected := false, uncorrected := false, behind := true }, State.reset, by decide +kernel⟩,
  ⟨0, st [.fld F.SPD_SCRUB_CTL_DIS 0 1], by decide +kernel⟩,
  ⟨0, st [.fld F.SPD_SCRUB_STAT_ROW 0 65599], by decide +kernel⟩,
  ⟨0, 2 ^ 60, by decide +kernel⟩,
  ⟨0, st [.fld F.SPD_STAT_ZEROING 0 1], 0, by decide +kernel⟩⟩

theorem witness_CacheAndDramCommandsAct :
  (∃ (off : Nat) (w : Option (List Byte)) (f : CacheFault) (s : State) (i : Nat), off < dramSize ∧ s.dramOpen off 1 = true ∧ f = CacheFault.none ∧ Option.any (fun bs => decide (i < (List.take (256 - off % 256) bs).length)) (w) = true) ∧
  (∃ (off : Nat) (w : Option (List Byte)) (f : CacheFault) (s : State) (a : Nat), off < dramSize ∧ s.dramOpen off 1 = true ∧ f = CacheFault.none ∧ Option.any (fun bs => decide ((a < off ∨ off + (List.take (256 - off % 256) bs).length ≤ a))) (w) = true) ∧
  (∃ (off : Nat) (w : Option (List Byte)) (f : CacheFault) (s : State), off < dramSize ∧ s.dramOpen off 1 = true ∧ f = CacheFault.none ∧ w = none) ∧
  (∃ (off : Nat) (f : CacheFault) (s : State), off < dramSize ∧ s.dramOpen off 1 = true ∧ f = CacheFault.dramCorrected ∧ ((s.cache (homeOf off)).lines.any fun l => l.line == off / 256) = false) ∧
  (∃ (off : Nat) (s : State), (dramSize ≤ off ∨ s.dramOpen off 1 = false)) ∧
  (∃ (h : ClusterId) (e : LdlId) (x : Fin 4) (s : State), Option.any (fun k => decide (k.todo = [])) (List.find? (fun k => k.engine == ↑e && k.ctx == ↑x) (s.cache ↑h).trackers) = true) ∧
  (∃ (h : ClusterId) (e : LdlId) (x : Fin 4) (s : State), Option.any (fun k => decide ((match (k.todo) with | l :: ls => decide (s.regionOf (l * 256) ≠ some k.flask) | _ => false) = true)) (List.find? (fun k => k.engine == ↑e && k.ctx == ↑x) (s.cache ↑h).trackers) = true) ∧
  (∃ (h : ClusterId) (e : LdlId) (x : Fin 4) (s : State), Option.any (fun k => decide ((match (k.todo) with | l :: ls => decide (s.regionOf (l * 256) = some k.flask ∧ k.depth ≤ k.ahead) | _ => false) = true)) (List.find? (fun k => k.engine == ↑e && k.ctx == ↑x) (s.cache ↑h).trackers) = true) ∧
  (∃ (st : Fin 20) (temp : Fin 256), (match (stackCluster ↑st) with | (h, a) => decide (95 < ↑temp)) = true) ∧
  (∃ (st : Fin 20) (fs : List (Nat × Bool)), (∀ (x : Nat × Bool), x ∈ fs → dramSize ≤ x.fst ∨ stackOf x.fst ≠ ↑st)) ∧
  (∃ (st : Fin 20) (fs : List (Nat × Bool)), (match (fs) with | [(off, true)] => decide (off < dramSize ∧ stackOf off = ↑st) | _ => false) = true) ∧
  (∃ (st : Fin 20) (fs : List (Nat × Bool)), (match (fs) with | [(off, false)] => decide (off < dramSize ∧ stackOf off = ↑st) | _ => false) = true) :=
  ⟨⟨0, some [1], .none, State.reset, 0, by decide +kernel⟩,
  ⟨0, some [1], .none, State.reset, 2 ^ 60, by decide +kernel⟩,
  ⟨0, none, .none, State.reset, by decide +kernel⟩,
  ⟨0, .dramCorrected, State.reset, by decide +kernel⟩,
  ⟨dramSize, State.reset, by decide +kernel⟩,
  ⟨0, 0, 0, st [.caches 0 { CacheSt.empty with trackers := [{ engine := 0, ctx := 0, flask := 0, todo := [], depth := 1, ahead := 0 }] }], by decide +kernel⟩,
  ⟨0, 0, 0, st [.caches 0 { CacheSt.empty with trackers := [{ engine := 0, ctx := 0, flask := 0, todo := [0], depth := 1, ahead := 0 }] }], by decide +kernel⟩,
  ⟨0, 0, 0, st [.caches 0 { CacheSt.empty with trackers := [{ engine := 0, ctx := 0, flask := 0, todo := [0], depth := 0, ahead := 0 }] }, .flasks 0 { FlaskSt.none with live := true, baseGib := 0, gib := 1 }], by decide +kernel⟩,
  ⟨0, 96, by decide +kernel⟩,
  ⟨0, [], by decide +kernel⟩,
  ⟨0, [(0, true)], by decide +kernel⟩,
  ⟨0, [(0, false)], by decide +kernel⟩⟩

theorem witness_SprueAndVentCommandsAct :
  (∃ (f : BeatFault), f = BeatFault.parity) ∧
  (∃ (c : CoreId) (i : Fin 8) (sc : Nat) (b : Beat) (f : BeatFault) (lost : List (Nat × Nat)) (s : State), f = BeatFault.none ∧ lost = [] ∧ b.elastic = false ∧ Option.any (fun fl => decide (s.scheduled ↑c = true ∧ s.sprPeriod ↑c ≠ 0 ∧ elasticSlot sc = false ∧ (match (s.slotsAt (↑c) (↑i) sc) with | [(e, k)] => decide (slipCause e (s.tagAt fl (sc - e.latency)) true b ≠ 0) | _ => false) = true)) (s.flaskOf ↑c) = true) ∧
  (∃ (c : CoreId) (i : Fin 8) (sc : Nat) (b : Beat) (f : BeatFault) (lost : List (Nat × Nat)) (s : State), f = BeatFault.none ∧ lost = [] ∧ b.elastic = false ∧ Option.any (fun fl => decide (s.scheduled ↑c = true ∧ s.sprPeriod ↑c ≠ 0 ∧ elasticSlot sc = false ∧ (match (s.slotsAt (↑c) (↑i) sc) with | [(e, k)] => decide (slipCause e (s.tagAt fl (sc - e.latency)) true b = 0 ∧ e.out < 8 ∧ (↑c / 16 ≠ 0 ∨ e.out ≠ 4) ∧ (↑c / 16 ≠ 9 ∨ e.out ≠ 5)) | _ => false) = true)) (s.flaskOf ↑c) = true) ∧
  (∃ (c : CoreId) (o : Fin 8) (sc : Nat) (w : Departure) (s : State) (rsp : Bool) (b : Beat), w = Departure.inject rsp b ∧ (fun (n : Nat) => decide ((elasticSlot sc = true ∨ s.scheduled ↑c = false) ∧ n < 4)) (NMap.get 0 (s.core ↑c).elUsed (↑o * 2 + b2n rsp)) = true) ∧
  (∃ (c : CoreId) (o : Fin 8) (sc : Nat) (w : Departure) (s : State) (rsp : Bool) (b : Beat), w = Departure.inject rsp b ∧ (fun (n : Nat) => decide ((4 ≤ n ∨ elasticSlot sc = false ∧ s.scheduled ↑c = true))) (NMap.get 0 (s.core ↑c).elUsed (↑o * 2 + b2n rsp)) = true) ∧
  (∃ (c : CoreId) (o : Fin 8) (sc : Nat) (w : Departure) (lost : List (Nat × Nat)) (s : State), w = Departure.scheduled ∧ lost = [] ∧ Option.any (fun fl => decide (s.gclk.bubbled = false ∧ s.sprPeriod ↑c ≠ 0 ∧ elasticSlot sc = false ∧ (match (List.filter (fun x => x.fst.out == ↑o) (s.slotsAt (↑c) 8 sc ++ s.slotsAt (↑c) 9 sc)) with | [(e, k)] => decide (e.src = 8 ∧ s.coreState ↑c = 3 ∧ (↑c / 16 ≠ 0 ∨ ↑o ≠ 4) ∧ (↑c / 16 ≠ 9 ∨ ↑o ≠ 5)) | _ => false) = true)) (s.flaskOf ↑c) = true) ∧
  (∃ (c : CoreId) (s : State), Option.any (fun f => decide (s.flaskIn f 3 = false)) (s.flaskOf ↑c) = true) ∧
  (∃ (c : CoreId) (s : State), Option.any (fun f => decide (s.flaskIn f 3 = true)) (s.flaskOf ↑c) = true) ∧
  (∃ (l : Fin 31) (hd : Bool) (ok : Bool) (s : State), bitOf (s.fget F.VNT_STAT_UP 0) ↑l = true ∧ ok = true ∧ hd = true) ∧
  (∃ (l : Fin 31) (ok : Bool) (s : State), (fun (n : Nat) => decide (bitOf (s.fget F.VNT_STAT_UP 0) ↑l = true ∧ ok = false ∧ n < 8)) (NMap.get 0 s.faults.vent ↑l + 1) = true) ∧
  (∃ (l : Fin 31) (s : State), bitOf (s.fget F.VNT_STAT_UP 0) ↑l = false) ∧
  (∃ (l : Fin 31) (ok : Bool) (s : State), (fun (n : Nat) => decide (bitOf (s.fget F.VNT_STAT_UP 0) ↑l = true ∧ ok = false ∧ 8 ≤ n)) (NMap.get 0 s.faults.vent ↑l + 1) = true) :=
  ⟨⟨.parity, by decide +kernel⟩,
  ⟨0, 0, 0, beat true, .none, [], st [.fld F.MOD_ROW_MAP_r_MAP 0 0xFEDCBA9876543210, .cores 0 { CoreSt.init with owner := some (0, 1) }, .flasks 0 { FlaskSt.none with live := true, cores := [0], gib := 1, active := { MouldSt.none with present := true, cores := [0], sections := [(4, 0, 0, ([6, 0, 1] ++ List.replicate 15 0 ++ [1, 0, 1] ++ List.replicate 27 0))] } }, .fld F.CORE_STAT_STATE 0 3, .fld F.SPR_STAT_PERIOD_LOG2 0 6], by decide +kernel⟩,
  ⟨0, 0, 0, beat false, .none, [], st [.fld F.MOD_ROW_MAP_r_MAP 0 0xFEDCBA9876543210, .cores 0 { CoreSt.init with owner := some (0, 1) }, .flasks 0 { FlaskSt.none with live := true, cores := [0], gib := 1, active := { MouldSt.none with present := true, cores := [0], sections := [(4, 0, 0, ([6, 0, 1] ++ List.replicate 15 0 ++ [1, 0, 1] ++ List.replicate 27 0))] } }, .fld F.CORE_STAT_STATE 0 3, .fld F.SPR_STAT_PERIOD_LOG2 0 6], by decide +kernel⟩,
  ⟨0, 0, 0, .inject true { flags := 0, null := false, elastic := true, frame := 0, epoch := 0, flow := 0, row := 0, payload := [] }, State.reset, true, { flags := 0, null := false, elastic := true, frame := 0, epoch := 0, flow := 0, row := 0, payload := [] }, by decide +kernel⟩,
  ⟨0, 0, 0, .inject true { flags := 0, null := false, elastic := true, frame := 0, epoch := 0, flow := 0, row := 0, payload := [] }, st [runsCore 0], true, { flags := 0, null := false, elastic := true, frame := 0, epoch := 0, flow := 0, row := 0, payload := [] }, by decide +kernel⟩,
  ⟨0, 1, 0, .scheduled, [], st [.fld F.MOD_ROW_MAP_r_MAP 0 0xFEDCBA9876543210, .cores 0 { CoreSt.init with owner := some (0, 1) }, .flasks 0 { FlaskSt.none with live := true, cores := [0], gib := 1, active := { MouldSt.none with present := true, cores := [0], sections := [(4, 0, 0, ([6, 0, 1] ++ List.replicate 15 0 ++ [1, 0, 1, 8] ++ List.replicate 26 0))] } }, .fld F.CORE_STAT_STATE 0 3, .fld F.SPR_STAT_PERIOD_LOG2 0 6], by decide +kernel⟩,
  ⟨0, st [.fld F.MOD_ROW_MAP_r_MAP 0 0xFEDCBA9876543210, .cores 0 { CoreSt.init with owner := some (0, 1) }, .flasks 0 { FlaskSt.none with live := true, cores := [0], gib := 1, active := { MouldSt.none with present := true, cores := [0], sections := [] } }, .fld F.CORE_STAT_STATE 0 4], by decide +kernel⟩,
  ⟨0, st [.fld F.MOD_ROW_MAP_r_MAP 0 0xFEDCBA9876543210, .cores 0 { CoreSt.init with owner := some (0, 1) }, .flasks 0 { FlaskSt.none with live := true, cores := [0], gib := 1, active := { MouldSt.none with present := true, cores := [0], sections := [] } }, .fld F.CORE_STAT_STATE 0 3], by decide +kernel⟩,
  ⟨0, true, true, State.reset, by decide +kernel⟩,
  ⟨0, false, State.reset, by decide +kernel⟩,
  ⟨0, st [.fld F.VNT_STAT_UP 0 0], by decide +kernel⟩,
  ⟨0, false, st [.faults { State.reset.faults with vent := [(0, 7)] }], by decide +kernel⟩⟩

theorem witness_LadleCommandsAct_1 :
  (∃ (c : CoreId) (index : Fin 4096) (reloc : Fin 32) (mask : BitVec 16) (s : State), s.seqReady ↑c = true ∧ (fun (m : Nat) => decide ((fun (lg : Nat) => decide ((match (relocate ((s.due ↑c).descAt (↑c) (↑index) 256) (m % 32) ((s.due ↑c).scalar ↑c ↑reloc) 5) with | (b, out) => decide ((fun (reason : Nat) => decide (reason ≠ 0)) (ldlReason (s.module * 2 ^ 20 + lg * 2 ^ 8) (m == bitsOf m 0 1 + 4 * bitsOf m 2 1 + 16 * bitsOf m 4 1) out b) = true)) = true)) (orFF (s.logOf ↑c)) = true)) (mask.toNat) = true) ∧
  (∃ (c : CoreId) (e : Fin 4) (index : Fin 4096) (reloc : Fin 32) (mask : BitVec 16) (s : State), s.seqReady ↑c = true ∧ (fun (m : Nat) => decide ((fun (E : Nat) => decide ((fun (lg : Nat) => decide ((match (relocate ((s.due ↑c).descAt (↑c) (↑index) 256) (m % 32) ((s.due ↑c).scalar ↑c ↑reloc) 5) with | (b, out) => decide ((fun (reason : Nat) => decide ((fun (j : LdlJob) => decide (reason = 0 ∧ j.d.sched = true ∧ (assoc ChanSt.idle (s.ldl E).chans (localOf ↑c)).job = none)) ({ desc := b, core := ↑c, logical := lg, flask := (s.flaskOf ↑c).getD 0 }) = true)) (ldlReason (s.module * 2 ^ 20 + lg * 2 ^ 8) (m == bitsOf m 0 1 + 4 * bitsOf m 2 1 + 16 * bitsOf m 4 1) out b) = true)) = true)) (orFF (s.logOf ↑c)) = true)) (clusterOf ↑c * 4 + ↑e) = true)) (mask.toNat) = true) ∧
  (∃ (c : CoreId) (e : Fin 4) (index : Fin 4096) (reloc : Fin 32) (mask : BitVec 16) (s : State), s.seqReady ↑c = true ∧ (fun (m : Nat) => decide ((fun (E : Nat) => decide ((fun (lg : Nat) => decide ((match (relocate ((s.due ↑c).descAt (↑c) (↑index) 256) (m % 32) ((s.due ↑c).scalar ↑c ↑reloc) 5) with | (b, out) => decide ((fun (reason : Nat) => decide ((fun (j : LdlJob) => decide (reason = 0 ∧ j.d.sched = false ∧ (List.filter (fun x => x.core == ↑c) (s.ldl E).waiting).length < 16)) ({ desc := b, core := ↑c, logical := lg, flask := (s.flaskOf ↑c).getD 0 }) = true)) (ldlReason (s.module * 2 ^ 20 + lg * 2 ^ 8) (m == bitsOf m 0 1 + 4 * bitsOf m 2 1 + 16 * bitsOf m 4 1) out b) = true)) = true)) (orFF (s.logOf ↑c)) = true)) (clusterOf ↑c * 4 + ↑e) = true)) (mask.toNat) = true) ∧
  (∃ (c : CoreId) (e : Fin 4) (index : Fin 4096) (reloc : Fin 32) (mask : BitVec 16) (s : State), s.seqReady ↑c = true ∧ (fun (m : Nat) => decide ((fun (E : Nat) => decide ((fun (lg : Nat) => decide ((match (relocate ((s.due ↑c).descAt (↑c) (↑index) 256) (m % 32) ((s.due ↑c).scalar ↑c ↑reloc) 5) with | (b, out) => decide ((fun (reason : Nat) => decide ((fun (j : LdlJob) => decide (reason = 0 ∧ j.d.sched = false ∧ 16 ≤ (List.filter (fun x => x.core == ↑c) (s.ldl E).waiting).length)) ({ desc := b, core := ↑c, logical := lg, flask := (s.flaskOf ↑c).getD 0 }) = true)) (ldlReason (s.module * 2 ^ 20 + lg * 2 ^ 8) (m == bitsOf m 0 1 + 4 * bitsOf m 2 1 + 16 * bitsOf m 4 1) out b) = true)) = true)) (orFF (s.logOf ↑c)) = true)) (clusterOf ↑c * 4 + ↑e) = true)) (mask.toNat) = true) ∧
  (∃ (c : CoreId) (e : Fin 4) (index : Fin 4096) (reloc : Fin 32) (mask : BitVec 16) (s : State), s.seqReady ↑c = true ∧ (fun (m : Nat) => decide ((fun (E : Nat) => decide ((fun (lg : Nat) => decide ((match (relocate ((s.due ↑c).descAt (↑c) (↑index) 256) (m % 32) ((s.due ↑c).scalar ↑c ↑reloc) 5) with | (b, out) => decide ((fun (reason : Nat) => decide ((fun (j : LdlJob) => decide (reason = 0 ∧ j.d.sched = true ∧ (assoc ChanSt.idle (s.ldl E).chans (localOf ↑c)).job.isSome = true)) ({ desc := b, core := ↑c, logical := lg, flask := (s.flaskOf ↑c).getD 0 }) = true)) (ldlReason (s.module * 2 ^ 20 + lg * 2 ^ 8) (m == bitsOf m 0 1 + 4 * bitsOf m 2 1 + 16 * bitsOf m 4 1) out b) = true)) = true)) (orFF (s.logOf ↑c)) = true)) (clusterOf ↑c * 4 + ↑e) = true)) (mask.toNat) = true) ∧
  (∃ (e : LdlId) (k : Fin 8) (s : State), Option.any (fun j => decide (s.scheduled (physAt (↑e / 4) ↑k) = true)) ((assoc ChanSt.idle (s.ldl ↑e).chans ↑k).job) = true) ∧
  (∃ (e : LdlId) (n : Fin 4) (s : State), (s.ctx ↑e ↑n).job = none ∧ Option.isSome ((s.ldl ↑e).pick) = true) :=
  ⟨⟨0, 0, 0, 0, st [runsCore 0], by decide +kernel⟩,
  ⟨0, 0, 0, 0, 0, st [.fld F.MOD_ROW_MAP_r_MAP 0 0xFEDCBA9876543210, .cores 0 { CoreSt.init with owner := some (0, 1) }, .flasks 0 { FlaskSt.none with live := true, cores := [0], gib := 1, active := { MouldSt.none with present := true, cores := [0], sections := [(3, 0, 0, ([1, 0, 5, 1, 1, 0, 1] ++ List.replicate 18 0 ++ [16] ++ List.replicate 38 0 ++ [64] ++ List.replicate 15 0 ++ [64, 0, 0, 0, 0, 0, 0, 0, 64, 0, 0, 0, 0, 0, 0, 0]))] } }, .fld F.CORE_STAT_STATE 0 3], by decide +kernel⟩,
  ⟨0, 0, 0, 0, 0, st [.fld F.MOD_ROW_MAP_r_MAP 0 0xFEDCBA9876543210, .cores 0 { CoreSt.init with owner := some (0, 1) }, .flasks 0 { FlaskSt.none with live := true, cores := [0], gib := 1, active := { MouldSt.none with present := true, cores := [0], sections := [(3, 0, 0, ([1, 0, 5, 1] ++ List.replicate 21 0 ++ [16] ++ List.replicate 38 0 ++ [64] ++ List.replicate 15 0 ++ [64, 0, 0, 0, 0, 0, 0, 0, 64, 0, 0, 0, 0, 0, 0, 0]))] } }, .fld F.CORE_STAT_STATE 0 3], by decide +kernel⟩,
  ⟨0, 0, 0, 0, 0, st [.fld F.MOD_ROW_MAP_r_MAP 0 0xFEDCBA9876543210, .cores 0 { CoreSt.init with owner := some (0, 1) }, .flasks 0 { FlaskSt.none with live := true, cores := [0], gib := 1, active := { MouldSt.none with present := true, cores := [0], sections := [(3, 0, 0, ([1, 0, 5, 1] ++ List.replicate 21 0 ++ [16] ++ List.replicate 38 0 ++ [64] ++ List.replicate 15 0 ++ [64, 0, 0, 0, 0, 0, 0, 0, 64, 0, 0, 0, 0, 0, 0, 0]))] } }, .fld F.CORE_STAT_STATE 0 3, .ldls 0 { LdlSt.idle with waiting := List.replicate 16 { desc := ([1, 0, 5, 1] ++ List.replicate 21 0 ++ [16] ++ List.replicate 38 0 ++ [64] ++ List.replicate 15 0 ++ [64, 0, 0, 0, 0, 0, 0, 0, 64, 0, 0, 0, 0, 0, 0, 0]), core := 0, logical := 0, flask := 0 } }], by decide +kernel⟩,
  ⟨0, 0, 0, 0, 0, st [.fld F.MOD_ROW_MAP_r_MAP 0 0xFEDCBA9876543210, .cores 0 { CoreSt.init with owner := some (0, 1) }, .flasks 0 { FlaskSt.none with live := true, cores := [0], gib := 1, active := { MouldSt.none with present := true, cores := [0], sections := [(3, 0, 0, ([1, 0, 5, 1, 1, 0, 1] ++ List.replicate 18 0 ++ [16] ++ List.replicate 38 0 ++ [64] ++ List.replicate 15 0 ++ [64, 0, 0, 0, 0, 0, 0, 0, 64, 0, 0, 0, 0, 0, 0, 0]))] } }, .fld F.CORE_STAT_STATE 0 3, .ldls 0 { LdlSt.idle with chans := [(0, { ChanSt.idle with job := some { desc := ([1, 0, 5, 1, 1, 0, 1] ++ List.replicate 18 0 ++ [16] ++ List.replicate 38 0 ++ [64] ++ List.replicate 15 0 ++ [64, 0, 0, 0, 0, 0, 0, 0, 64, 0, 0, 0, 0, 0, 0, 0]), core := 0, logical := 0, flask := 0 } })] }], by decide +kernel⟩,
  ⟨0, 0, st [.ldls 0 { LdlSt.idle with chans := [(0, { ChanSt.idle with job := some { desc := ([1, 0, 2, 1, 1, 0, 1] ++ List.replicate 18 0 ++ [16] ++ List.replicate 38 0 ++ [64] ++ List.replicate 15 0 ++ [64, 0, 0, 0, 0, 0, 0, 0, 64, 0, 0, 0, 0, 0, 0, 0]), core := 0, logical := 0, flask := 0 } })] }, runsCore 0], by decide +kernel⟩,
  ⟨0, 0, st [.ldls 0 { LdlSt.idle with waiting := [{ desc := ([1, 0, 2, 1] ++ List.replicate 21 0 ++ [16] ++ List.replicate 38 0 ++ [64] ++ List.replicate 15 0 ++ [64, 0, 0, 0, 0, 0, 0, 0, 64, 0, 0, 0, 0, 0, 0, 0]), core := 0, logical := 0, flask := 0 }] }], by decide +kernel⟩⟩

theorem witness_LadleCommandsAct_2 :
  (∃ (e : LdlId) (n : Fin 4) (w : Nat) (s : State), Option.any (fun (j : LdlJob) => decide (Option.any (fun (sec : LSec) => decide ((s.ctx ↑e ↑n).mayGo j.d j.d.plan.writes.reverse w = true ∧ s.sectorOpen (sec.sector * 256 :: List.map (fun l => l * 64) (List.drop (s.ctx ↑e ↑n).lines.length (List.take (if (j.d.nextWrite j.d.plan.writes.reverse.length (w + 1)).isNone = true then j.d.plan.nr else sec.need) j.d.plan.reads.reverse))) = true ∧ List.elem w (s.ctx ↑e ↑n).open_ = false ∧ faModule (sec.sector * 256) = s.module)) (j.d.plan.writes.reverse[w]?) = true)) ((s.ctx ↑e ↑n).job) = true) ∧
  (∃ (e : LdlId) (n : Fin 4) (w : Nat) (s : State), ((s.ctx ↑e ↑n).job = none ∨ List.elem w (s.ctx ↑e ↑n).open_ = false)) ∧
  (∃ (e : LdlId) (n : Fin 4) (w : Nat) (o : AckOutcome) (s : State), Option.any (fun j => decide (List.elem w (s.ctx ↑e ↑n).open_ = true ∧ Option.any (fun sec => decide (faModule (sec.sector * 256) ≠ s.module ∧ (o = AckOutcome.refused ∨ o = AckOutcome.discarded ∧ List.elem w (s.ctx ↑e ↑n).resent = true) ∧ (s.ctx ↑e ↑n).abortCause = 0)) (j.d.plan.writes.reverse[w]?) = true)) ((s.ctx ↑e ↑n).job) = true) ∧
  (∃ (e : LdlId) (n : Fin 4) (w : Nat) (o : AckOutcome) (s : State), Option.any (fun j => decide (List.elem w (s.ctx ↑e ↑n).open_ = true ∧ Option.any (fun sec => decide (faModule (sec.sector * 256) ≠ s.module ∧ o = AckOutcome.committed)) (j.d.plan.writes.reverse[w]?) = true)) ((s.ctx ↑e ↑n).job) = true) ∧
  (∃ (e : LdlId) (n : Fin 4) (w : Nat) (o : AckOutcome) (s : State), Option.any (fun j => decide (List.elem w (s.ctx ↑e ↑n).open_ = true ∧ Option.any (fun sec => decide (faModule (sec.sector * 256) ≠ s.module ∧ o = AckOutcome.discarded ∧ (s.ctx ↑e ↑n).abortCause = 0 ∧ List.elem w (s.ctx ↑e ↑n).resent = false)) (j.d.plan.writes.reverse[w]?) = true)) ((s.ctx ↑e ↑n).job) = true) ∧
  (∃ (m : Fin 16) (n : Nat), n < 4 ∧ bitOf (↑m) n = false) ∧
  (∃ (e : LdlId) (m : Fin 16) (s : State) (n : Nat), n < 4 ∧ bitOf (↑m) n = true ∧ (s.ctx (↑e) n).job.isSome = true ∧ (s.ctx (↑e) n).abortCause = 0) ∧
  (∃ (e : LdlId) (n : Fin 4) (s : State), (s.ctx ↑e ↑n).abortCause ≠ 0 ∧ (s.ctx ↑e ↑n).job.isSome = true) ∧
  (∃ (e : LdlId) (n : Fin 4) (s : State), (s.ctx ↑e ↑n).abortCause ≠ 0 ∧ (s.ctx ↑e ↑n).open_ = [] ∧ (s.ctx ↑e ↑n).job.isSome = true) :=
  ⟨⟨0, 0, 0, st [.ldls 0 { LdlSt.idle with ctxs := [(0, { CtxSt.empty with job := some { desc := ([1, 0, 2, 1] ++ List.replicate 21 0 ++ [16] ++ List.replicate 38 0 ++ [64] ++ List.replicate 15 0 ++ [64, 0, 0, 0, 0, 0, 0, 0, 64, 0, 0, 0, 0, 0, 0, 0]), core := 0, logical := 0, flask := 0 } })] }], by decide +kernel⟩,
  ⟨0, 0, 0, State.reset, by decide +kernel⟩,
  ⟨0, 0, 0, .refused, st [.ldls 0 { LdlSt.idle with ctxs := [(0, { CtxSt.empty with job := some { desc := ([1, 0, 2, 1] ++ List.replicate 26 0 ++ [5] ++ List.replicate 33 0 ++ [64] ++ List.replicate 15 0 ++ [64, 0, 0, 0, 0, 0, 0, 0, 64, 0, 0, 0, 0, 0, 0, 0]), core := 0, logical := 0, flask := 0 }, open_ := [0] })] }], by decide +kernel⟩,
  ⟨0, 0, 0, .committed, st [.ldls 0 { LdlSt.idle with ctxs := [(0, { CtxSt.empty with job := some { desc := ([1, 0, 2, 1] ++ List.replicate 26 0 ++ [5] ++ List.replicate 33 0 ++ [64] ++ List.replicate 15 0 ++ [64, 0, 0, 0, 0, 0, 0, 0, 64, 0, 0, 0, 0, 0, 0, 0]), core := 0, logical := 0, flask := 0 }, open_ := [0] })] }], by decide +kernel⟩,
  ⟨0, 0, 0, .discarded, st [.ldls 0 { LdlSt.idle with ctxs := [(0, { CtxSt.empty with job := some { desc := ([1, 0, 2, 1] ++ List.replicate 26 0 ++ [5] ++ List.replicate 33 0 ++ [64] ++ List.replicate 15 0 ++ [64, 0, 0, 0, 0, 0, 0, 0, 64, 0, 0, 0, 0, 0, 0, 0]), core := 0, logical := 0, flask := 0 }, open_ := [0] })] }], by decide +kernel⟩,
  ⟨0, 0, by decide +kernel⟩,
  ⟨0, 1, st [.ldls 0 { LdlSt.idle with ctxs := [(0, { CtxSt.empty with job := some { desc := ([1, 0, 2, 1] ++ List.replicate 21 0 ++ [16] ++ List.replicate 38 0 ++ [64] ++ List.replicate 15 0 ++ [64, 0, 0, 0, 0, 0, 0, 0, 64, 0, 0, 0, 0, 0, 0, 0]), core := 0, logical := 0, flask := 0 } })] }], 0, by decide +kernel⟩,
  ⟨0, 0, st [.ldls 0 { LdlSt.idle with ctxs := [(0, { CtxSt.empty with job := some { desc := ([1, 0, 2, 1] ++ List.replicate 21 0 ++ [16] ++ List.replicate 38 0 ++ [64] ++ List.replicate 15 0 ++ [64, 0, 0, 0, 0, 0, 0, 0, 64, 0, 0, 0, 0, 0, 0, 0]), core := 0, logical := 0, flask := 0 }, open_ := [], abortCause := 1 })] }], by decide +kernel⟩,
  ⟨0, 0, st [.ldls 0 { LdlSt.idle with ctxs := [(0, { CtxSt.empty with job := some { desc := ([1, 0, 2, 1] ++ List.replicate 21 0 ++ [16] ++ List.replicate 38 0 ++ [64] ++ List.replicate 15 0 ++ [64, 0, 0, 0, 0, 0, 0, 0, 64, 0, 0, 0, 0, 0, 0, 0]), core := 0, logical := 0, flask := 0 }, open_ := [], abortCause := 1 })] }], by decide +kernel⟩⟩

theorem witness_RunnerLinkCommandsAct :
  (∃ (p : PortId) (q : Fin 2048) (s : State), (↑q + 2048 - (s.port ↑p).rxSseq) % 2048 < 1024 ∧ (s.port ↑p).release.length < 512) ∧
  (∃ (p : PortId) (q : Fin 2048) (s : State), (↑q + 2048 - (s.port ↑p).rxSseq) % 2048 < 1024 ∧ 512 ≤ (s.port ↑p).release.length) ∧
  (∃ (p : PortId) (s : State), s.stopCore ↑p = none) ∧
  (∃ (p : PortId) (sc : Nat) (s : State), Option.any (fun c => decide (s.scheduled c = true ∧ s.sprPeriod c ≠ 0 ∧ (match (s.slotsAt c (stopInput ↑p) (sc + 2)) with | [(e, k)] => decide (Option.isSome (s.rxEntry (↑p) e.flow) = true) | _ => false) = true)) (s.stopCore ↑p) = true) ∧
  (∃ (p : PortId) (x : ElCell) (s : State), x.eseq = (s.port ↑p).eExpect) ∧
  (∃ (p : PortId) (x : ElCell) (s : State), x.eseq ≠ (s.port ↑p).eExpect) ∧
  (∃ (p : PortId) (tc : Nat) (s : State), (s.clockAt tc < (s.port ↑p).ackAt + 4000 ∨ (s.port ↑p).unacked = [])) ∧
  (∃ (p : PortId) (tc : Nat) (s : State), (s.port ↑p).ackAt + 4000 ≤ s.clockAt tc ∧ (s.port ↑p).unacked ≠ []) ∧
  (∃ (p : PortId) (sf : Superframe) (s : State), s.portState ↑p = 4 ∧ s.fget F.RUN_STAT_ENCRYPTED ↑p = 1 ∧ (sf.crcOk = false ∨ sf.tagOk = false)) ∧
  (∃ (p : PortId) (sf : Superframe) (s : State), s.portState ↑p = 4 ∧ sf.crcOk = true ∧ (s.fget F.RUN_STAT_ENCRYPTED ↑p = 0 ∨ sf.tagOk = true)) ∧
  (∃ (p : PortId) (s : State), s.portState ↑p = 4) ∧
  (∃ (p : PortId) (s : State), (match (takeMsg false (s.port ↑p).rxElastic [] []) with | some (cs, rest) => decide (True) | _ => false) = true) ∧
  (∃ (tag : Nat) (fidx : Fin 1024) (fa : Nat) (s : State), s.faultOwner tag (↑fidx) fa = none) ∧
  (∃ (tag : Nat) (fidx : Fin 1024) (fa : Nat) (s : State), Option.isSome (s.faultOwner tag (↑fidx) fa) = true) ∧
  (∃ (p : PortId) (s : State), (match (takeMsg true (s.port ↑p).rxElastic [] []) with | some (cs, rest) => decide (True) | _ => false) = true) :=
  ⟨⟨0, 0, State.reset, by decide +kernel⟩,
  ⟨0, 0, st [.ports 0 { PortSt.down with release := List.replicate 512 { sseq := 0, beat := beat true } }], by decide +kernel⟩,
  ⟨0, st [.slag { State.reset.slag with run := [{ kind := 1, state := 1, reason := 1, flags := 0, location := 0, spare := 0, tc := 0 }, { kind := 1, state := 1, reason := 1, flags := 0, location := 1, spare := 0, tc := 0 }] }], by decide +kernel⟩,
  ⟨0, 62, st [.fld F.MOD_ROW_MAP_r_MAP 0 0xFEDCBA9876543210, .cores 0 { CoreSt.init with owner := some (0, 1) }, .flasks 0 { FlaskSt.none with live := true, cores := [0], gib := 1, active := { MouldSt.none with present := true, cores := [0], sections := [(4, 0, 0, ([6, 0, 1] ++ List.replicate 15 0 ++ [1, 0, 1, 4] ++ List.replicate 26 0)), (5, 0, 0, ([0, 0, 1] ++ List.replicate 15 0 ++ [1, 0, 1] ++ List.replicate 11 0))] } }, .fld F.CORE_STAT_STATE 0 3, .fld F.SPR_STAT_PERIOD_LOG2 0 6], by decide +kernel⟩,
  ⟨0, elCell false, State.reset, by decide +kernel⟩,
  ⟨0, { eseq := 1, rsp := false, dest := 0, src := 0, flags := 0, seg := 0, last := true, bytes := [] }, State.reset, by decide +kernel⟩,
  ⟨0, 0, State.reset, by decide +kernel⟩,
  ⟨0, 4000, st [.ports 0 { PortSt.down with unacked := [elCell false] }], by decide +kernel⟩,
  ⟨0, { seq := 0, sender := 0, port := 0, creditReq := 0, creditRsp := 0, eAck := 0, eNak := false, laneMap := 0, keyEpoch := 0, crcOk := false, tagOk := false, corrected := 0, uncorr := 0, badCtl := 0, cells := [] }, st [.fld F.RUN_STAT_ENCRYPTED 0 1, .fld F.RUN_STAT_STATE 0 4], by decide +kernel⟩,
  ⟨0, { seq := 0, sender := 0, port := 0, creditReq := 0, creditRsp := 0, eAck := 0, eNak := false, laneMap := 0, keyEpoch := 0, crcOk := true, tagOk := true, corrected := 0, uncorr := 0, badCtl := 0, cells := [] }, st [.fld F.RUN_STAT_STATE 0 4], by decide +kernel⟩,
  ⟨0, st [.fld F.RUN_STAT_STATE 0 4], by decide +kernel⟩,
  ⟨0, st [.ports 0 { PortSt.down with rxElastic := [elCell false] }], by decide +kernel⟩,
  ⟨0, 0, 0, State.reset, by decide +kernel⟩,
  ⟨0, 0, 0, st [.fld F.MOD_ROW_MAP_r_MAP 0 0xFEDCBA9876543210, .cores 0 { CoreSt.init with owner := some (0, 1) }, .flasks 0 { FlaskSt.none with live := true, cores := [0], gib := 1, active := { MouldSt.none with present := true, cores := [0], sections := [(5, 0, 0, ([0, 0, 1] ++ List.replicate 15 0 ++ [1] ++ List.replicate 13 0))] } }, .fld F.CORE_STAT_STATE 0 3], by decide +kernel⟩,
  ⟨0, st [.ports 0 { PortSt.down with rxElastic := [elCell true] }], by decide +kernel⟩⟩

theorem witness_PortStateCommandsAct :
  (∃ (p : PortId) (sig : Bool) (s : State), s.portState ↑p = 0 ∧ sig = true) ∧
  (∃ (p : PortId) (sig : Bool) (s : State), (s.portState ↑p ≠ 0 ∨ sig = false)) ∧
  (∃ (p : PortId) (s : State), s.portState ↑p = 0 ∧ (s.port ↑p).enabled = true) ∧
  (∃ (p : PortId) (ok : Bool) (tc : Nat) (s : State), s.portState ↑p = 1 ∧ ok = true ∧ s.clockAt tc ≤ (s.port ↑p).entered + 200000000) ∧
  (∃ (p : PortId) (ok : Bool) (tc : Nat) (s : State), s.portState ↑p = 1 ∧ (ok = false ∨ (s.port ↑p).entered + 200000000 < s.clockAt tc) ∧ s.pour.phase ≠ 1) ∧
  (∃ (p : PortId) (ok : Bool) (tc : Nat) (s : State), s.portState ↑p = 2 ∧ ok = true ∧ s.clockAt tc ≤ (s.port ↑p).entered + 10000000) ∧
  (∃ (p : PortId) (ok : Bool) (tc : Nat) (s : State), s.portState ↑p = 2 ∧ (ok = false ∨ (s.port ↑p).entered + 10000000 < s.clockAt tc) ∧ s.pour.phase ≠ 1) ∧
  (∃ (p : PortId) (s : State), s.portState ↑p ≠ 3 ∧ s.portState ↑p ≠ 4) ∧
  (∃ (p : PortId) (ws : List LaneWindow) (s : State), s.portState ↑p = 3 ∧ (∀ (l : Nat), l < 5 → winPasses (laneWin ws l) = true)) ∧
  (∃ (p : PortId) (s : State) (l : Nat), (s.portState ↑p = 3 ∨ s.portState ↑p = 4) ∧ l < 5) ∧
  (∃ (p : PortId) (ws : List LaneWindow) (s : State), s.portState ↑p = 3 ∧ 2 ≤ (List.filter (fun l => !winPasses (laneWin ws l)) (List.range 5)).length ∧ s.pour.phase ≠ 1) ∧
  (∃ (p : PortId) (s : State), s.portState ↑p ≠ 2 ∧ s.portState ↑p ≠ 3 ∧ s.portState ↑p ≠ 4) ∧
  (∃ (p : PortId) (l : Fin 5) (b : Bool) (s : State), s.portState ↑p = 4 ∧ Option.any (fun x => decide (b = true)) (s.logLane ↑p ↑l) = true) ∧
  (∃ (p : PortId) (l : Fin 5) (s : State), s.portState ↑p = 4 ∧ s.logLane ↑p ↑l = none) ∧
  (∃ (p : PortId) (s : State), (s.portState ↑p = 2 ∨ s.portState ↑p = 3) ∧ s.pour.phase ≠ 1) ∧
  (∃ (p : PortId) (l : Fin 5) (b : Bool) (s : State), s.portState ↑p = 4 ∧ Option.any (fun x => decide (b = false ∧ s.spareFree ↑p = true)) (s.logLane ↑p ↑l) = true) :=
  ⟨⟨0, true, State.reset, by decide +kernel⟩,
  ⟨0, true, st [.fld F.RUN_STAT_STATE 0 1], by decide +kernel⟩,
  ⟨0, st [.ports 0 { PortSt.down with enabled := true }], by decide +kernel⟩,
  ⟨0, true, 0, st [.fld F.RUN_STAT_STATE 0 1], by decide +kernel⟩,
  ⟨0, false, 0, st [.fld F.RUN_STAT_STATE 0 1], by decide +kernel⟩,
  ⟨0, true, 0, st [.fld F.RUN_STAT_STATE 0 2], by decide +kernel⟩,
  ⟨0, false, 0, st [.fld F.RUN_STAT_STATE 0 2], by decide +kernel⟩,
  ⟨0, State.reset, by decide +kernel⟩,
  ⟨0, [], st [.fld F.RUN_STAT_STATE 0 3], by decide +kernel⟩,
  ⟨0, st [.fld F.RUN_STAT_STATE 0 3, .fld F.RUN_STAT_STATE 0 4], 0, by decide +kernel⟩,
  ⟨0, [{ errors := 2688001, counts := [], uncorr := 0 }, { errors := 2688001, counts := [], uncorr := 0 }], st [.fld F.RUN_STAT_STATE 0 3], by decide +kernel⟩,
  ⟨0, State.reset, by decide +kernel⟩,
  ⟨0, 0, true, st [.fld F.RUN_STAT_STATE 0 4], by decide +kernel⟩,
  ⟨0, 4, st [.fld F.RUN_STAT_STATE 0 4], by decide +kernel⟩,
  ⟨0, st [.fld F.RUN_STAT_STATE 0 2, .fld F.RUN_STAT_STATE 0 3], by decide +kernel⟩,
  ⟨0, 0, false, st [.fld F.RUN_STAT_STATE 0 4, .fld F.RUN_STAT_LANE_OK 0 16], by decide +kernel⟩⟩

theorem witness_LaneSwapAndKeyCommandsAct :
  (∃ (p : PortId) (s : State), s.portState ↑p = 4 ∧ (s.port ↑p).swap = none ∧ s.fget F.RUN_STAT_SPARE_USED ↑p = 0) ∧
  (∃ (p : PortId) (s : State), s.portState ↑p = 4 ∧ (s.port ↑p).swap = none ∧ s.fget F.RUN_STAT_SPARE_USED ↑p = 1) ∧
  (∃ (p : PortId) (l : Fin 4) (target : Nat) (s : State), Option.any (fun w => decide (w.mine = true ∧ w.lane = ↑l ∧ w.target = target)) ((s.port ↑p).swap) = true) ∧
  (∃ (p : PortId) (l : Fin 4) (target : Nat) (s : State), Option.any (fun w => decide ((w.mine = false ∨ w.lane ≠ ↑l ∨ w.target ≠ target))) ((s.port ↑p).swap) = true) ∧
  (∃ (p : PortId) (s : State), Option.any (fun w => decide (w.agreed = true ∧ s.portState ↑p = 4)) ((s.port ↑p).swap) = true) ∧
  (∃ (p : PortId) (s : State), Option.any (fun w => decide ((w.agreed = false ∨ s.portState ↑p ≠ 4))) ((s.port ↑p).swap) = true) ∧
  (∃ (p : PortId) (s : State), Option.any (fun w => decide ((w.mine = false ∨ w.agreed = true ∨ s.portState ↑p ≠ 4))) ((s.port ↑p).swap) = true) ∧
  (∃ (p : PortId) (s : State), Option.any (fun w => decide (w.mine = true ∧ w.agreed = false ∧ s.portState ↑p = 4)) ((s.port ↑p).swap) = true) ∧
  (∃ (p : PortId) (o : KeyOffer) (s : State), s.portState ↑p = 4 ∧ o.rekey = false ∧ (o.chainOk = false ∨ o.certOk = false ∨ o.lifecycle ≠ 2 ∧ o.lifecycle ≠ s.fget F.SAF_STAT_LIFECYCLE 0)) ∧
  (∃ (p : PortId) (o : KeyOffer) (s : State), s.portState ↑p = 4 ∧ o.rekey = false ∧ o.chainOk = true ∧ o.certOk = true ∧ (s.fget F.RUN_STAT_PEER_VALID ↑p = 0 ∨ o.serial = (s.port ↑p).keys.peerSerial) ∧ (o.lifecycle = 2 ∨ o.lifecycle = s.fget F.SAF_STAT_LIFECYCLE 0)) ∧
  (∃ (p : PortId) (o : KeyOffer) (s : State), s.portState ↑p = 4 ∧ o.rekey = true ∧ s.fget F.RUN_STAT_ENCRYPTED ↑p = 1 ∧ o.epoch = (s.fget F.RUN_STAT_KEY_EPOCH ↑p + 1) % 256 ∧ (s.port ↑p).keys.phase = 0) ∧
  (∃ (p : PortId) (ok : Bool) (s : State), s.portState ↑p = 4 ∧ (s.port ↑p).keys.phase = 2 ∧ ok = true) ∧
  (∃ (p : PortId) (ok : Bool) (s : State), s.portState ↑p = 4 ∧ (s.port ↑p).keys.phase = 2 ∧ (s.port ↑p).keys.rekey = false ∧ ok = false) ∧
  (∃ (p : PortId) (tc : Nat) (s : State), (s.portState ↑p ≠ 4 ∨ (s.port ↑p).keys.phase = 0 ∨ s.clockAt tc < (s.port ↑p).keys.since + 10000000)) ∧
  (∃ (p : PortId) (tc : Nat) (s : State), s.portState ↑p = 4 ∧ (s.port ↑p).keys.phase ≠ 0 ∧ (s.port ↑p).keys.rekey = false ∧ (s.port ↑p).keys.since + 10000000 ≤ s.clockAt tc ∧ s.clockAt tc < (s.port ↑p).keys.since + 1000000000) ∧
  (∃ (p : PortId) (tc : Nat) (s : State), s.portState ↑p = 4 ∧ (s.port ↑p).keys.phase ≠ 0 ∧ (s.port ↑p).keys.since + 1000000000 ≤ s.clockAt tc) ∧
  (∃ (p : PortId) (s : State), s.fget F.RUN_STAT_ENCRYPTED ↑p = 1 ∧ (s.port ↑p).keys.phase = 0) :=
  ⟨⟨0, st [.fld F.RUN_STAT_SPARE_USED 0 0, .fld F.RUN_STAT_STATE 0 4], by decide +kernel⟩,
  ⟨0, st [.fld F.RUN_STAT_SPARE_USED 0 1, .fld F.RUN_STAT_STATE 0 4], by decide +kernel⟩,
  ⟨0, 0, 9, st [.ports 0 { PortSt.down with swap := some { lane := 0, target := 9, mine := true, agreed := true, reason := 0 } }, .fld F.RUN_STAT_STATE 0 4], by decide +kernel⟩,
  ⟨0, 0, 9, st [.ports 0 { PortSt.down with swap := some { lane := 0, target := 9, mine := false, agreed := true, reason := 0 } }, .fld F.RUN_STAT_STATE 0 4], by decide +kernel⟩,
  ⟨0, st [.ports 0 { PortSt.down with swap := some { lane := 0, target := 9, mine := true, agreed := true, reason := 0 } }, .fld F.RUN_STAT_STATE 0 4], by decide +kernel⟩,
  ⟨0, st [.ports 0 { PortSt.down with swap := some { lane := 0, target := 9, mine := true, agreed := false, reason := 0 } }, .fld F.RUN_STAT_STATE 0 4], by decide +kernel⟩,
  ⟨0, st [.ports 0 { PortSt.down with swap := some { lane := 0, target := 9, mine := true, agreed := true, reason := 0 } }, .fld F.RUN_STAT_STATE 0 4], by decide +kernel⟩,
  ⟨0, st [.ports 0 { PortSt.down with swap := some { lane := 0, target := 9, mine := true, agreed := false, reason := 0 } }, .fld F.RUN_STAT_STATE 0 4], by decide +kernel⟩,
  ⟨0, { rekey := false, chainOk := false, certOk := true, serial := 0, lifecycle := 2, epoch := 1, startSeq := 0 }, st [.fld F.RUN_STAT_STATE 0 4], by decide +kernel⟩,
  ⟨0, { rekey := false, chainOk := true, certOk := true, serial := 0, lifecycle := 2, epoch := 1, startSeq := 0 }, st [.fld F.RUN_STAT_STATE 0 4], by decide +kernel⟩,
  ⟨0, { rekey := true, chainOk := true, certOk := true, serial := 0, lifecycle := 2, epoch := 1, startSeq := 0 }, st [.fld F.RUN_STAT_STATE 0 4, .fld F.RUN_STAT_ENCRYPTED 0 1, .fld F.RUN_STAT_STATE 0 4], by decide +kernel⟩,
  ⟨0, true, st [.ports 0 { PortSt.down with keys := { phase := 2, rekey := false, since := 0, txFrom := none, rxFrom := none, rxOn := false, began := 0, peerSerial := 0 } }, .fld F.RUN_STAT_STATE 0 4], by decide +kernel⟩,
  ⟨0, false, st [.ports 0 { PortSt.down with keys := { phase := 2, rekey := false, since := 0, txFrom := none, rxFrom := none, rxOn := false, began := 0, peerSerial := 0 } }, .fld F.RUN_STAT_STATE 0 4], by decide +kernel⟩,
  ⟨0, 0, State.reset, by decide +kernel⟩,
  ⟨0, 10000000, st [.ports 0 { PortSt.down with keys := { phase := 1, rekey := false, since := 0, txFrom := none, rxFrom := none, rxOn := false, began := 0, peerSerial := 0 } }, .fld F.RUN_STAT_STATE 0 4], by decide +kernel⟩,
  ⟨0, 1000000000, st [.ports 0 { PortSt.down with keys := { phase := 1, rekey := false, since := 0, txFrom := none, rxFrom := none, rxOn := false, began := 0, peerSerial := 0 } }, .fld F.RUN_STAT_STATE 0 4], by decide +kernel⟩,
  ⟨0, st [.fld F.RUN_STAT_ENCRYPTED 0 1], by decide +kernel⟩⟩

theorem witness_PourFormationCommandsAct :
  (∃ (port : PortId) (msg : HelloMsg) (s : State), s.portState ↑port = 4 ∧ (s.pour.phase ≠ 1 ∨ s.portUsed ↑port = false ∨ msg.tag = 0)) ∧
  (∃ (port : PortId) (tag : Nat) (s : State), (s.pour.phase == 1 && tag == s.pourTag && s.portUsed ↑port && !s.pourMaster) = false) ∧
  (∃ (port : PortId) (tree : Fin 4) (tag : Nat) (s : State), (s.pour.phase == 1 && tag == s.pourTag && s.portUsed ↑port && !s.pourMaster) = true ∧ ↑tree = 3) ∧
  (∃ (port : PortId) (tree : Fin 4) (tag : Nat) (depth : Nat) (s : State), (s.pour.phase == 1 && tag == s.pourTag && s.portUsed ↑port && !s.pourMaster) = true ∧ ↑tree = 0 ∧ s.pour.better 0 (↑port) (depth + 1) = true ∧ depth < 16) ∧
  (∃ (phase : Fin 3) (s : State), s.pourTag ≠ 0 ∧ ↑phase = 0) ∧
  (∃ (port : PortId) (phase : Fin 3) (count : Nat) (digest : Nat) (bindSum : Nat) (status : Nat) (failing : Nat) (s : State), s.pourTag ≠ 0 ∧ ↑phase = 1 ∧ s.pour.phase = 1 ∧ s.pour.formedSent = false ∧ s.pourMaster = false ∧ (fun (x : Machine.State) => decide (Option.isSome (x.treeReport 1) = true)) ({ s with pour := { s.pour with reports := List.filter (fun x => !(x.fst == ↑port && x.snd.phase == ↑phase)) s.pour.reports ++ [(↑port, { phase := ↑phase, count := count, digest := digest, bindSum := bindSum, status := status, failing := failing })] } }) = true) ∧
  (∃ (port : PortId) (phase : Fin 3) (count : Nat) (digest : Nat) (bindSum : Nat) (status : Nat) (failing : Nat) (s : State), s.pourTag ≠ 0 ∧ ↑phase = 2 ∧ s.pour.phase = 2 ∧ s.pour.readySent = false ∧ s.pourMaster = false ∧ (fun (x : Machine.State) => decide (Option.isSome (x.treeReport 2) = true)) ({ s with pour := { s.pour with reports := List.filter (fun x => !(x.fst == ↑port && x.snd.phase == ↑phase)) s.pour.reports ++ [(↑port, { phase := ↑phase, count := count, digest := digest, bindSum := bindSum, status := status, failing := failing })] } }) = true) ∧
  (∃ (tag : Nat) (s : State), (s.pour.phase ≠ 1 ∨ tag ≠ s.pourTag)) ∧
  (∃ (tag : Nat) (s : State), s.pour.phase = 1 ∧ tag = s.pourTag) ∧
  (∃ (port : PortId) (temper : Fin 4) (mouldId : Nat) (tx : Nat) (rx : Nat) (s : State), Option.any (fun f => decide ((fun (x : List Byte) => decide ((mouldId ≠ (s.flask f).active.id % 2 ^ 32 ∨ tx ≠ slotDigest 1 x ∨ rx ≠ slotDigest 0 x))) ((s.flask f).active.sect 5 ↑port ↑temper) = true)) (s.portFlask ↑port) = true) ∧
  (∃ (port : PortId) (temper : Fin 4) (mouldId : Nat) (tx : Nat) (rx : Nat) (s : State), Option.any (fun f => decide ((fun (x : List Byte) => decide (mouldId = (s.flask f).active.id % 2 ^ 32 ∧ tx = slotDigest 1 x ∧ rx = slotDigest 0 x)) ((s.flask f).active.sect 5 ↑port ↑temper) = true)) (s.portFlask ↑port) = true) ∧
  (∃ (tc : Nat) (s : State), (s.pour.phase ≠ 1 ∨ s.clockAt tc < s.pour.since + 10000000000)) ∧
  (∃ (tc : Nat) (s : State), s.pour.phase = 1 ∧ s.pour.since + 10000000000 ≤ s.clockAt tc) ∧
  (∃ (tc : Nat) (s : State), Option.any (fun k => decide (s.clockAt tc < (s.slot k).tcAccepted + 1000000000)) (s.pour.starting) = true) ∧
  (∃ (tc : Nat) (s : State), Option.any (fun k => decide ((s.slot k).tcAccepted + 1000000000 ≤ s.clockAt tc)) (s.pour.starting) = true) :=
  ⟨⟨0, { sender := 0, tag := 0, module := 0, peer := 0, peerPort := 0, serial := 0 }, st [.fld F.RUN_STAT_STATE 0 4], by decide +kernel⟩,
  ⟨0, 0, State.reset, by decide +kernel⟩,
  ⟨0, 3, 1, st [.pour { State.reset.pour with phase := 1, ports := [(0, 1, 0, true)], master := 5 }, .fld F.MOD_POUR_ID_POUR_TAG 0 1], by decide +kernel⟩,
  ⟨0, 0, 1, 0, st [.pour { State.reset.pour with phase := 1, ports := [(0, 1, 0, true)], master := 5 }, .fld F.MOD_POUR_ID_POUR_TAG 0 1], by decide +kernel⟩,
  ⟨0, st [.fld F.MOD_POUR_ID_POUR_TAG 0 1], by decide +kernel⟩,
  ⟨0, 1, 0, 0, 0, 0, 0, st [.fld F.MOD_ROW_MAP_r_MAP 0 0xFEDCBA9876543210, .flasks 0 { FlaskSt.none with live := true, cores := [0], gib := 1, active := { MouldSt.none with present := true, cores := [0], pourSize := 2 } }, .fld F.CORE_STAT_STATE 0 2, .fld F.MOD_POUR_ID_POUR_TAG 0 1, .pour { State.reset.pour with phase := 1, size := 2, master := 5, depth := [(0, 1), (1, 1), (2, 1)], up := [(0, 0), (1, 0), (2, 0)], children := [0] }, .fld F.TC_ALIGN_STAT_STATE 0 2], by decide +kernel⟩,
  ⟨0, 2, 0, 0, 0, 0, 0, st [.fld F.MOD_ROW_MAP_r_MAP 0 0xFEDCBA9876543210, .flasks 0 { FlaskSt.none with live := true, cores := [0], gib := 1, active := { MouldSt.none with present := true, cores := [0], pourSize := 2 } }, .fld F.CORE_STAT_STATE 0 2, .fld F.MOD_POUR_ID_POUR_TAG 0 1, .pour { State.reset.pour with phase := 2, size := 2, master := 5, depth := [(0, 1), (1, 1), (2, 1)], up := [(0, 0), (1, 0), (2, 0)], children := [0] }, .fld F.TC_ALIGN_STAT_STATE 0 2], by decide +kernel⟩,
  ⟨0, State.reset, by decide +kernel⟩,
  ⟨0, st [.pour { State.reset.pour with phase := 1 }], by decide +kernel⟩,
  ⟨0, 0, 1, 0, 0, st [.fld F.MOD_ROW_MAP_r_MAP 0 0xFEDCBA9876543210, .cores 0 { CoreSt.init with owner := some (0, 1) }, .flasks 0 { FlaskSt.none with live := true, cores := [0], gib := 1, active := { MouldSt.none with present := true, cores := [0], sections := [(5, 0, 0, ([0, 0, 1] ++ List.replicate 15 0 ++ [1, 0, 1] ++ List.replicate 11 0))] } }, .fld F.CORE_STAT_STATE 0 3], by decide +kernel⟩,
  ⟨0, 0, 0, slotDigest 1 ([0, 0, 1] ++ List.replicate 15 0 ++ [1, 0, 1] ++ List.replicate 11 0), slotDigest 0 ([0, 0, 1] ++ List.replicate 15 0 ++ [1, 0, 1] ++ List.replicate 11 0), st [.fld F.MOD_ROW_MAP_r_MAP 0 0xFEDCBA9876543210, .cores 0 { CoreSt.init with owner := some (0, 1) }, .flasks 0 { FlaskSt.none with live := true, cores := [0], gib := 1, active := { MouldSt.none with present := true, cores := [0], sections := [(5, 0, 0, ([0, 0, 1] ++ List.replicate 15 0 ++ [1, 0, 1] ++ List.replicate 11 0))] } }, .fld F.CORE_STAT_STATE 0 3], by decide +kernel⟩,
  ⟨0, State.reset, by decide +kernel⟩,
  ⟨10000000000, st [.pour { State.reset.pour with phase := 1 }], by decide +kernel⟩,
  ⟨0, st [.pour { State.reset.pour with starting := some 0 }], by decide +kernel⟩,
  ⟨1000000000, st [.pour { State.reset.pour with starting := some 0 }], by decide +kernel⟩⟩

theorem witness_FlaskControlRecordsAct :
  (∃ (rec : CtlRec) (s : State), (rec.crcOk && rec.tag == s.pourTag && s.pourTag != 0 && s.pourFlasks.any fun f => s.startable f && (s.flask f).startAt != some rec.target) = false) ∧
  (∃ (rec : CtlRec) (s : State), (rec.crcOk && rec.tag == s.pourTag && s.pourTag != 0 && s.pourFlasks.any fun f => s.startable f && (s.flask f).startAt != some rec.target) = true ∧ List.any (s.pourFlasks) (fun f => decide (s.startable f = true)) = true) ∧
  (∃ (rec : CtlRec) (s : State), (rec.crcOk = false ∨ s.pourTag = 0)) ∧
  (∃ (rec : CtlRec) (s : State), rec.crcOk = true ∧ s.pourTag ≠ 0 ∧ s.ctl.armed = none) ∧
  (∃ (rec : CtlRec) (s : State), rec.crcOk = true ∧ s.pourTag ≠ 0 ∧ Option.any (fun a => decide (a.seq ≠ rec.seq)) (s.ctl.armed) = true) ∧
  (∃ (rec : CtlRec) (s : State), rec.crcOk = true ∧ s.pourTag ≠ 0 ∧ Option.any (fun a => decide (a.seq = rec.seq ∧ sameRec a { rec with kind := 17 } = false)) (s.ctl.armed) = true) ∧
  (∃ (rec : CtlRec) (s : State), rec.crcOk = true ∧ s.pourTag ≠ 0 ∧ Option.any (fun a => decide (sameRec a { rec with kind := 17 } = true)) (s.ctl.armed) = true) ∧
  (∃ (rec : CtlRec) (s : State), rec.crcOk = true ∧ s.pourTag ≠ 0 ∧ Option.any (fun a => decide (a.seq = rec.seq ∧ sameRec a { rec with kind := 18 } = false)) (s.ctl.armed) = true) ∧
  (∃ (rec : CtlRec) (s : State), rec.crcOk = true ∧ s.pourTag ≠ 0 ∧ Option.any (fun a => decide (sameRec a { rec with kind := 18 } = true)) (s.ctl.armed) = true) ∧
  (∃ (rec : CtlRec) (s : State), rec.crcOk = true ∧ s.pourTag ≠ 0 ∧ Option.any (fun a => decide (a.seq = rec.seq ∧ sameRec a { rec with kind := 23 } = false)) (s.ctl.armed) = true) ∧
  (∃ (rec : CtlRec) (s : State), rec.crcOk = true ∧ s.pourTag ≠ 0 ∧ Option.any (fun a => decide (sameRec a { rec with kind := 23 } = true)) (s.ctl.armed) = true) ∧
  (∃ (rec : CtlRec) (s : State), rec.crcOk = true ∧ s.pourTag ≠ 0 ∧ Option.any (fun a => decide (a.seq = rec.seq ∧ sameRec a { rec with kind := 24 } = false)) (s.ctl.armed) = true) ∧
  (∃ (rec : CtlRec) (s : State), rec.crcOk = true ∧ s.pourTag ≠ 0 ∧ Option.any (fun a => decide (sameRec a { rec with kind := 24 } = true)) (s.ctl.armed) = true) ∧
  (∃ (rec : CtlRec) (s : State), (s.ctl.armed = none ∨ ∃ a, s.ctl.armed = some a ∧ (rec.crcOk = false ∨ rec.seq ≠ a.seq ∨ s.ctl.go = true))) ∧
  (∃ (rec : CtlRec) (s : State), Option.any (fun a => decide (rec.crcOk = true ∧ rec.seq = a.seq ∧ s.ctl.go = false ∧ rec.target = a.target ∧ rec.tag = a.tag ∧ s.ctl.acked = true ∧ a.kind ≠ 18)) (s.ctl.armed) = true) ∧
  (∃ (rec : CtlRec) (s : State), Option.any (fun a => decide (rec.crcOk = true ∧ rec.seq = a.seq ∧ s.ctl.go = false ∧ rec.target = a.target ∧ rec.tag = a.tag ∧ s.ctl.acked = false)) (s.ctl.armed) = true) ∧
  (∃ (rec : CtlRec) (s : State), Option.any (fun a => decide (rec.crcOk = true ∧ rec.seq = a.seq ∧ s.ctl.go = false ∧ rec.target = a.target ∧ rec.tag = a.tag ∧ s.ctl.acked = true ∧ a.kind = 18)) (s.ctl.armed) = true) ∧
  (∃ (rec : CtlRec) (s : State), Option.any (fun a => decide (rec.crcOk = true ∧ rec.seq = a.seq ∧ s.ctl.go = false ∧ (rec.target ≠ a.target ∨ rec.tag ≠ a.tag))) (s.ctl.armed) = true) ∧
  (∃ (rec : CtlRec) (s : State), Option.any (fun a => decide (rec.crcOk = true ∧ rec.seq = a.seq ∧ s.ctl.go = false)) (s.ctl.armed) = true) ∧
  (∃ (rec : CtlRec) (s : State), (s.ctl.armed = none ∨ ∃ a, s.ctl.armed = some a ∧ (rec.crcOk = false ∨ a.seq ≠ rec.seq))) ∧
  (∃ (rec : CtlRec) (s : State), Option.any (fun a => decide (rec.crcOk = true ∧ a.seq = rec.seq ∧ s.ctl.doneSent = true)) (s.ctl.armed) = true) :=
  ⟨⟨ctl1, State.reset, by decide +kernel⟩,
  ⟨{ ctl1 with tag := 1, target := 5 }, st [.fld F.MOD_ROW_MAP_r_MAP 0 0xFEDCBA9876543210, .cores 0 { CoreSt.init with owner := some (0, 1) }, .flasks 0 { FlaskSt.none with live := true, cores := [0], gib := 1, active := { MouldSt.none with present := true, pourSize := 2, cores := [0], sections := [] } }, .fld F.CORE_STAT_STATE 0 2, .fld F.MOD_POUR_ID_POUR_TAG 0 1], by decide +kernel⟩,
  ⟨ctl1, State.reset, by decide +kernel⟩,
  ⟨ctl1, st [.fld F.MOD_POUR_ID_POUR_TAG 0 1], by decide +kernel⟩,
  ⟨ctl1, st [.fld F.MOD_POUR_ID_POUR_TAG 0 1, .ctl { State.reset.ctl with armed := some { ctl1 with seq := 9 } }], by decide +kernel⟩,
  ⟨ctl1, st [.fld F.MOD_POUR_ID_POUR_TAG 0 1, .ctl { State.reset.ctl with armed := some { ctl1 with kind := 0 } }], by decide +kernel⟩,
  ⟨ctl1, st [.fld F.MOD_POUR_ID_POUR_TAG 0 1, .ctl { State.reset.ctl with armed := some { ctl1 with kind := 17 } }], by decide +kernel⟩,
  ⟨ctl1, st [.fld F.MOD_POUR_ID_POUR_TAG 0 1, .ctl { State.reset.ctl with armed := some { ctl1 with kind := 0 } }], by decide +kernel⟩,
  ⟨ctl1, st [.fld F.MOD_POUR_ID_POUR_TAG 0 1, .ctl { State.reset.ctl with armed := some { ctl1 with kind := 18 } }], by decide +kernel⟩,
  ⟨ctl1, st [.fld F.MOD_POUR_ID_POUR_TAG 0 1, .ctl { State.reset.ctl with armed := some { ctl1 with kind := 0 } }], by decide +kernel⟩,
  ⟨ctl1, st [.fld F.MOD_POUR_ID_POUR_TAG 0 1, .ctl { State.reset.ctl with armed := some { ctl1 with kind := 23 } }], by decide +kernel⟩,
  ⟨ctl1, st [.fld F.MOD_POUR_ID_POUR_TAG 0 1, .ctl { State.reset.ctl with armed := some { ctl1 with kind := 0 } }], by decide +kernel⟩,
  ⟨ctl1, st [.fld F.MOD_POUR_ID_POUR_TAG 0 1, .ctl { State.reset.ctl with armed := some { ctl1 with kind := 24 } }], by decide +kernel⟩,
  ⟨ctl1, State.reset, by decide +kernel⟩,
  ⟨ctl1, st [.ctl { State.reset.ctl with armed := some ctl1, acked := true }], by decide +kernel⟩,
  ⟨ctl1, st [.ctl { State.reset.ctl with armed := some ctl1, acked := false }], by decide +kernel⟩,
  ⟨ctl1, st [.ctl { State.reset.ctl with armed := some { ctl1 with kind := 18 }, acked := true }], by decide +kernel⟩,
  ⟨{ ctl1 with target := 7 }, st [.ctl { State.reset.ctl with armed := some ctl1, acked := true }], by decide +kernel⟩,
  ⟨ctl1, st [.ctl { State.reset.ctl with armed := some ctl1 }], by decide +kernel⟩,
  ⟨ctl1, State.reset, by decide +kernel⟩,
  ⟨ctl1, st [.ctl { State.reset.ctl with armed := some ctl1, doneSent := true }], by decide +kernel⟩⟩

theorem witness_PourMailboxAndBeaconCommandsAct :
  (∃ (k : Fin 17) (s : State), s.mbRuns (↑k) 513 = true ∧ (s.slot ↑k).phase ≠ 0) ∧
  (∃ (k : Fin 17) (s : State), s.mbRuns (↑k) 513 = true ∧ (s.slot ↑k).phase = 0 ∧ planOk (s.slot ↑k).args = false) ∧
  (∃ (k : Fin 17) (s : State), s.mbRuns (↑k) 513 = true ∧ (s.slot ↑k).phase = 0 ∧ planOk (s.slot ↑k).args = true ∧ s.pourTag = 0) ∧
  (∃ (k : Fin 17) (s : State), s.mbRuns (↑k) 513 = true ∧ (s.slot ↑k).phase = 0 ∧ planOk (s.slot ↑k).args = true ∧ s.pourTag ≠ 0) ∧
  (∃ (k : Fin 17) (s : State), s.mbRuns (↑k) 515 = true ∧ s.pourRuns = false) ∧
  (∃ (k : Fin 17) (s : State), s.mbRuns (↑k) 515 = true ∧ s.pourRuns = true) ∧
  (∃ (k : Fin 17) (s : State), s.mbRuns (↑k) 514 = true ∧ (s.pourMaster = false ∨ s.pour.phase ≠ 2)) ∧
  (∃ (k : Fin 17) (s : State), s.mbRuns (↑k) 514 = true ∧ s.pourMaster = true ∧ s.pour.phase = 2 ∧ s.treeReport 2 = none) ∧
  (∃ (k : Fin 17) (s : State), s.mbRuns (↑k) 514 = true ∧ s.pourMaster = true ∧ s.pour.phase = 2 ∧ Option.any (fun r => decide (r.status = 0 ∧ r.count = s.pour.size ∧ r.bindSum = 0)) (s.treeReport 2) = true) ∧
  (∃ (k : Fin 17) (s : State), s.mbRuns (↑k) 514 = true ∧ s.pourMaster = true ∧ s.pour.phase = 2 ∧ Option.any (fun r => decide ((r.status ≠ 0 ∨ r.count ≠ s.pour.size ∨ r.bindSum ≠ 0))) (s.treeReport 2) = true) ∧
  (∃ (k : Fin 17) (s : State), s.mbRuns (↑k) 516 = true ∧ (s.slot ↑k).phase = 0) ∧
  (∃ (k : Fin 17) (tc : Nat) (s : State), s.mbRuns (↑k) 516 = true ∧ (s.slot ↑k).phase ≠ 0 ∧ (s.slot ↑k).waitOn = [] ∧ s.tc = s.clockAt tc ∧ s.flushWaited (leAt (s.slot ↑k).args 0 1) ((s.slot ↑k).phase - 1) (s.slot ↑k).tcAccepted = false) ∧
  (∃ (k : Fin 17) (s : State), s.mbRuns (↑k) 516 = true ∧ (s.slot ↑k).phase ≠ 0 ∧ (s.slot ↑k).waitOn ≠ []) ∧
  (∃ (k : Fin 17) (tc : Nat) (s : State), s.mbRuns (↑k) 516 = true ∧ (s.slot ↑k).phase ≠ 0 ∧ (s.slot ↑k).waitOn = [] ∧ s.tc = s.clockAt tc ∧ s.flushWaited (leAt (s.slot ↑k).args 0 1) ((s.slot ↑k).phase - 1) (s.slot ↑k).tcAccepted = true ∧ bitOf (leAt (s.slot ↑k).args 1 1) 0 = true) ∧
  (∃ (k : Fin 17) (tc : Nat) (s : State), s.mbRuns (↑k) 516 = true ∧ ((s.slot ↑k).waitOn = [] ∨ s.clockAt tc < (s.slot ↑k).tcAccepted + 1000000)) ∧
  (∃ (k : Fin 17) (tc : Nat) (s : State), s.mbRuns (↑k) 516 = true ∧ (s.slot ↑k).waitOn ≠ [] ∧ (s.slot ↑k).tcAccepted + 1000000 ≤ s.clockAt tc) ∧
  (∃ (k : Fin 17) (s : State), s.mbRuns (↑k) 517 = true ∧ (s.slot ↑k).phase ≠ 0) ∧
  (∃ (k : Fin 17) (s : State), s.mbRuns (↑k) 517 = true ∧ (s.slot ↑k).phase = 0 ∧ leAt (s.slot ↑k).args 0 4 = 0 ∧ leAt (s.slot ↑k).args 4 1 ≤ 2) ∧
  (∃ (k : Fin 17) (s : State), s.mbRuns (↑k) 517 = true ∧ (s.slot ↑k).phase = 0 ∧ (2 ^ 24 ≤ leAt (s.slot ↑k).args 0 4 ∨ 2 < leAt (s.slot ↑k).args 4 1)) ∧
  (∃ (k : Fin 17) (s : State) (p : Nat), s.mbRuns (↑k) 517 = true ∧ (s.slot ↑k).phase = 0 ∧ leAt (s.slot ↑k).args 0 4 < 2 ^ 24 ∧ leAt (s.slot ↑k).args 4 1 ≤ 2 ∧ p < 24 ∧ bitOf (leAt (s.slot ↑k).args 0 4) p = true ∧ leAt (s.slot ↑k).args 4 1 ≠ 1) ∧
  (∃ (origin : Nat) (q : Nat) (tc : Nat) (s : State), (origin = s.module ∨ (s.pour.seen.any fun x => x.fst == origin && x.snd.fst == 2 * q && decide (s.clockAt tc < x.snd.snd + 1000000)) = true)) ∧
  (∃ (origin : Nat) (q : Nat) (tag : Nat) (tc : Nat) (s : State), origin ≠ s.module ∧ (s.pour.seen.any fun x => x.fst == origin && x.snd.fst == 2 * q && decide (s.clockAt tc < x.snd.snd + 1000000)) = false ∧ (tag ≠ s.pourTag ∨ s.pourTag = 0)) ∧
  (∃ (origin : Nat) (q : Nat) (tag : Nat) (tc : Nat) (s : State), origin ≠ s.module ∧ (s.pour.seen.any fun x => x.fst == origin && x.snd.fst == 2 * q && decide (s.clockAt tc < x.snd.snd + 1000000)) = false ∧ tag = s.pourTag ∧ s.pourTag ≠ 0) ∧
  (∃ (origin : Nat) (q : Nat) (tc : Nat) (s : State), (origin = s.module ∨ (s.pour.seen.any fun x => x.fst == origin && x.snd.fst == 2 * q + 1 && decide (s.clockAt tc < x.snd.snd + 1000000)) = true)) ∧
  (∃ (origin : Nat) (q : Nat) (tag : Nat) (tc : Nat) (s : State), origin ≠ s.module ∧ (s.pour.seen.any fun x => x.fst == origin && x.snd.fst == 2 * q + 1 && decide (s.clockAt tc < x.snd.snd + 1000000)) = false ∧ (tag ≠ s.pourTag ∨ s.pourTag = 0)) ∧
  (∃ (origin : Nat) (q : Nat) (tag : Nat) (tc : Nat) (s : State), origin ≠ s.module ∧ (s.pour.seen.any fun x => x.fst == origin && x.snd.fst == 2 * q + 1 && decide (s.clockAt tc < x.snd.snd + 1000000)) = false ∧ tag = s.pourTag ∧ s.pourTag ≠ 0) :=
  ⟨⟨0, st [cmdAt 0 0x201 []], by decide +kernel⟩,
  ⟨0, st [cmdIn 0 0x201 []], by decide +kernel⟩,
  ⟨0, st [.slots 0 { MbSlot.none with cmd := 0x201, state := 2, args := ([1, 0, 0, 0, 2] ++ List.replicate 107 0) }], by decide +kernel⟩,
  ⟨0, st [.fld F.MOD_POUR_ID_POUR_TAG 0 1, .slots 0 { MbSlot.none with cmd := 0x201, state := 2, args := ([1, 0, 0, 0, 2] ++ List.replicate 107 0) }], by decide +kernel⟩,
  ⟨0, st [cmdIn 0 0x203 []], by decide +kernel⟩,
  ⟨0, st [.fld F.MOD_ROW_MAP_r_MAP 0 0xFEDCBA9876543210, .cores 0 { CoreSt.init with owner := some (0, 1) }, .flasks 0 { FlaskSt.none with live := true, cores := [0], gib := 1, active := { MouldSt.none with present := true, pourSize := 2, cores := [0], sections := [] } }, .fld F.CORE_STAT_STATE 0 3, .slots 0 { MbSlot.none with cmd := 0x203, state := 2, args := [] }], by decide +kernel⟩,
  ⟨0, st [cmdIn 0 0x202 []], by decide +kernel⟩,
  ⟨0, st [.fld F.MOD_POUR_ID_POUR_TAG 0 1, .pour { State.reset.pour with phase := 2, size := 1 }, .slots 0 { MbSlot.none with cmd := 0x202, state := 2, args := [] }], by decide +kernel⟩,
  ⟨0, st [.fld F.MOD_ROW_MAP_r_MAP 0 0xFEDCBA9876543210, .flasks 0 { FlaskSt.none with live := true, cores := [0], gib := 1, active := { MouldSt.none with present := true, cores := [0], pourSize := 2 } }, .fld F.CORE_STAT_STATE 0 2, .fld F.MOD_POUR_ID_POUR_TAG 0 1, .pour { State.reset.pour with phase := 2, size := 1 }, .slots 0 { MbSlot.none with cmd := 0x202, state := 2, args := [] }], by decide +kernel⟩,
  ⟨0, st [.fld F.MOD_ROW_MAP_r_MAP 0 0xFEDCBA9876543210, .flasks 0 { FlaskSt.none with live := true, cores := [0], gib := 1, active := { MouldSt.none with present := true, cores := [0], pourSize := 2 } }, .fld F.CORE_STAT_STATE 0 2, .fld F.MOD_POUR_ID_POUR_TAG 0 1, .pour { State.reset.pour with phase := 2, size := 2 }, .slots 0 { MbSlot.none with cmd := 0x202, state := 2, args := [] }], by decide +kernel⟩,
  ⟨0, st [cmdIn 0 0x204 []], by decide +kernel⟩,
  ⟨0, 0, st [cmdAt 0 0x204 []], by decide +kernel⟩,
  ⟨0, st [.slots 0 { MbSlot.none with cmd := 0x204, state := 2, args := [0, 1], phase := 1, waitOn := [0] }], by decide +kernel⟩,
  ⟨0, 0, st [.slots 0 { MbSlot.none with cmd := 0x204, state := 2, args := [0, 1], phase := 1 }, .fld F.TC_NOW_COUNT 0 20000], by decide +kernel⟩,
  ⟨0, 0, st [cmdIn 0 0x204 []], by decide +kernel⟩,
  ⟨0, 1000000, st [.slots 0 { MbSlot.none with cmd := 0x204, state := 2, args := [0, 1], phase := 1, waitOn := [0] }], by decide +kernel⟩,
  ⟨0, st [cmdAt 0 0x205 []], by decide +kernel⟩,
  ⟨0, st [cmdIn 0 0x205 [0, 0, 0, 0, 0]], by decide +kernel⟩,
  ⟨0, st [cmdIn 0 0x205 [24, 0, 0, 0, 3]], by decide +kernel⟩,
  ⟨0, st [.slots 0 { MbSlot.none with cmd := 0x205, state := 2, args := [1, 0, 0, 0, 0] }], 0, by decide +kernel⟩,
  ⟨0, 0, 0, State.reset, by decide +kernel⟩,
  ⟨1, 0, 0, 0, State.reset, by decide +kernel⟩,
  ⟨1, 0, 1, 0, st [.fld F.MOD_POUR_ID_POUR_TAG 0 1], by decide +kernel⟩,
  ⟨0, 0, 0, State.reset, by decide +kernel⟩,
  ⟨1, 0, 0, 0, State.reset, by decide +kernel⟩,
  ⟨1, 0, 1, 0, st [.fld F.MOD_POUR_ID_POUR_TAG 0 1], by decide +kernel⟩⟩

theorem witness_MouldCommandsAct :
  (∃ (k : Fin 17) (s : State), s.mbRuns (↑k) 259 = true ∧ (s.flask (leAt (s.slot ↑k).args 0 1)).live = false) ∧
  (∃ (k : Fin 17) (s : State), s.mbRuns (↑k) 259 = true ∧ (fun (stageOk : Bool) => decide ((s.flask (leAt (s.slot ↑k).args 0 1)).live = true ∧ stageOk = true ∧ s.rangeOk (leAt (s.slot ↑k).args 0 1) (leAt (s.slot ↑k).args 8 8) (leAt (s.slot ↑k).args 16 4) = false)) (if leAt (s.slot ↑k).args 1 1 = 1 then (s.flask (leAt (s.slot ↑k).args 0 1)).active.present && List.elem (s.flaskState (leAt (s.slot ↑k).args 0 1)) [2, 3, 4] else (s.flaskPhys (leAt (s.slot ↑k).args 0 1)).all fun p => s.coreState p == 0 || s.coreState p == 2) = true) ∧
  (∃ (k : Fin 17) (s : State), s.mbRuns (↑k) 259 = true ∧ (fun (b : List Byte) => decide ((fun (stageOk : Bool) => decide ((s.flask (leAt (s.slot ↑k).args 0 1)).live = true ∧ stageOk = true ∧ s.rangeOk (leAt (s.slot ↑k).args 0 1) (leAt (s.slot ↑k).args 8 8) (leAt (s.slot ↑k).args 16 4) = true ∧ bitOf (leAt b 18 2) 1 ≠ (s.flask (leAt (s.slot ↑k).args 0 1)).redundant)) (if leAt (s.slot ↑k).args 1 1 = 1 then (s.flask (leAt (s.slot ↑k).args 0 1)).active.present && List.elem (s.flaskState (leAt (s.slot ↑k).args 0 1)) [2, 3, 4] else (s.flaskPhys (leAt (s.slot ↑k).args 0 1)).all fun p => s.coreState p == 0 || s.coreState p == 2) = true)) (s.devRd (leAt (s.slot ↑k).args 8 8) (leAt (s.slot ↑k).args 16 4)) = true) ∧
  (∃ (k : Fin 17) (s : State), s.mbRuns (↑k) 259 = true ∧ (fun (stageOk : Bool) => decide ((s.flask (leAt (s.slot ↑k).args 0 1)).live = true ∧ stageOk = false)) (if leAt (s.slot ↑k).args 1 1 = 1 then (s.flask (leAt (s.slot ↑k).args 0 1)).active.present && List.elem (s.flaskState (leAt (s.slot ↑k).args 0 1)) [2, 3, 4] else (s.flaskPhys (leAt (s.slot ↑k).args 0 1)).all fun p => s.coreState p == 0 || s.coreState p == 2) = true) ∧
  (∃ (k : Fin 17) (s : State), s.mbRuns (↑k) 260 = true ∧ (s.slot ↑k).phase ≠ 0) ∧
  (∃ (k : Fin 17) (s : State), s.mbRuns (↑k) 260 = true ∧ (s.slot ↑k).phase = 0 ∧ ((s.flask (leAt (s.slot ↑k).args 0 1)).live = false ∨ (s.flask (leAt (s.slot ↑k).args 0 1)).staged.present = false ∨ (s.flask (leAt (s.slot ↑k).args 0 1)).active.present = false ∨ (s.flask (leAt (s.slot ↑k).args 0 1)).halt.isSome = true)) ∧
  (∃ (k : Fin 17) (s : State), s.mbRuns (↑k) 260 = true ∧ (s.slot ↑k).phase = 0 ∧ (s.flask (leAt (s.slot ↑k).args 0 1)).live = true ∧ (s.flask (leAt (s.slot ↑k).args 0 1)).staged.present = true ∧ (s.flask (leAt (s.slot ↑k).args 0 1)).active.present = true ∧ (s.flask (leAt (s.slot ↑k).args 0 1)).halt = none ∧ s.flaskState (leAt (s.slot ↑k).args 0 1) = 2 ∧ (s.flask (leAt (s.slot ↑k).args 0 1)).faultHalt = false) ∧
  (∃ (k : Fin 17) (s : State), s.mbRuns (↑k) 260 = true ∧ (s.slot ↑k).phase = 0 ∧ (s.flask (leAt (s.slot ↑k).args 0 1)).live = true ∧ (s.flask (leAt (s.slot ↑k).args 0 1)).staged.present = true ∧ (s.flask (leAt (s.slot ↑k).args 0 1)).active.present = true ∧ (s.flask (leAt (s.slot ↑k).args 0 1)).halt = none ∧ s.flaskState (leAt (s.slot ↑k).args 0 1) = 3 ∧ s.inPour (leAt (s.slot ↑k).args 0 1) = false) ∧
  (∃ (k : Fin 17) (s : State), s.mbRuns (↑k) 260 = true ∧ (s.slot ↑k).phase = 0 ∧ (s.flask (leAt (s.slot ↑k).args 0 1)).live = true ∧ (s.flask (leAt (s.slot ↑k).args 0 1)).staged.present = true ∧ (s.flask (leAt (s.slot ↑k).args 0 1)).active.present = true ∧ (s.flask (leAt (s.slot ↑k).args 0 1)).halt = none ∧ s.flaskState (leAt (s.slot ↑k).args 0 1) = 0) ∧
  (∃ (flask : FlaskId) (quiesce : Bool) (frameBoundary : Bool) (tc : Nat) (s : State), Option.any (fun h => decide ((s.flaskIn (↑flask) 3 = false ∨ (if h.quiesce = true then quiesce else frameBoundary) = false ∨ s.clockAt tc < h.target))) ((s.flask ↑flask).halt) = true) ∧
  (∃ (flask : FlaskId) (quiesce : Bool) (frameBoundary : Bool) (tc : Nat) (s : State), Option.any (fun h => decide (s.flaskIn (↑flask) 3 = true ∧ (if h.quiesce = true then quiesce else frameBoundary) = true ∧ h.target ≤ s.clockAt tc ∧ h.kind ≠ HaltKind.switch ∧ List.isEmpty (s.mouldPhys ↑flask) = false)) ((s.flask ↑flask).halt) = true) ∧
  (∃ (flask : FlaskId) (quiesce : Bool) (frameBoundary : Bool) (tc : Nat) (s : State), Option.any (fun h => decide (s.flaskIn (↑flask) 3 = true ∧ (if h.quiesce = true then quiesce else frameBoundary) = true ∧ h.target ≤ s.clockAt tc ∧ h.kind = HaltKind.switch ∧ (s.flask ↑flask).staged.present = true)) ((s.flask ↑flask).halt) = true) ∧
  (∃ (flask : FlaskId) (tc : Nat) (s : State), Option.any (fun r => decide (((s.flask ↑flask).startAt.isSome = true ∨ s.clockAt tc < r + 1000000))) ((s.flask ↑flask).reported) = true) ∧
  (∃ (flask : FlaskId) (tc : Nat) (s : State), Option.any (fun r => decide ((s.flask ↑flask).startAt = none ∧ r + 1000000 ≤ s.clockAt tc)) ((s.flask ↑flask).reported) = true) ∧
  (∃ (core : CoreId) (point : Fin 65536) (s : State) (q : SwitchPt), s.seqReady ↑core = true ∧ s.fget F.CLK_PSTEP_TEMPER 0 ≠ s.fget F.CORE_SEQ_TEMPER ↑core ∧ ((progPts (s.program ↑core)).any fun q => q.n == ↑point && q.pc == s.fget F.CORE_SEQ_PC ↑core) = true ∧ List.find? (fun q => q.n == ↑point) (progPts (s.coreSect (↑core) 2 (s.fget F.CLK_PSTEP_TEMPER 0))) = some q) ∧
  (∃ (k : Fin 17) (s : State), s.mbRuns (↑k) 261 = true ∧ (s.slot ↑k).phase ≠ 0) ∧
  (∃ (k : Fin 17) (s : State), s.mbRuns (↑k) 261 = true ∧ (s.slot ↑k).phase = 0 ∧ ((s.flask (leAt (s.slot ↑k).args 0 1)).active.present = false ∨ s.flaskIn (leAt (s.slot ↑k).args 0 1) 2 = false ∧ s.flaskIn (leAt (s.slot ↑k).args 0 1) 4 = false)) ∧
  (∃ (k : Fin 17) (s : State), s.mbRuns (↑k) 261 = true ∧ (s.slot ↑k).phase = 0 ∧ (s.flask (leAt (s.slot ↑k).args 0 1)).active.present = true ∧ (s.flaskIn (leAt (s.slot ↑k).args 0 1) 2 = true ∨ s.flaskIn (leAt (s.slot ↑k).args 0 1) 4 = true) ∧ List.isEmpty (s.flaskPhys (leAt (s.slot ↑k).args 0 1)) = false) ∧
  (∃ (k : Fin 17) (s : State), s.mbRuns (↑k) 265 = true ∧ (s.slot ↑k).phase ≠ 0) ∧
  (∃ (k : Fin 17) (s : State), s.mbRuns (↑k) 265 = true ∧ (s.slot ↑k).phase = 0 ∧ (s.flask (leAt (s.slot ↑k).args 0 1)).live = false) ∧
  (∃ (k : Fin 17) (s : State), s.mbRuns (↑k) 265 = true ∧ (s.slot ↑k).phase = 0 ∧ (s.flask (leAt (s.slot ↑k).args 0 1)).live = true ∧ List.isEmpty (s.flaskPhys (leAt (s.slot ↑k).args 0 1)) = false) :=
  ⟨⟨0, st [cmdIn 0 0x103 []], by decide +kernel⟩,
  ⟨0, st [.fld F.MOD_ROW_MAP_r_MAP 0 0xFEDCBA9876543210, .flasks 0 { FlaskSt.none with live := true, cores := [0, 1], gib := 1 }, .slots 0 { MbSlot.none with cmd := 0x103, state := 2, args := [0, 0, 0, 0, 0, 0, 0, 0, 1, 0, 0, 0, 0, 0, 0, 0, 64, 0, 0, 0] }], by decide +kernel⟩,
  ⟨0, st [.fld F.MOD_ROW_MAP_r_MAP 0 0xFEDCBA9876543210, .flasks 0 { FlaskSt.none with live := true, cores := [0, 1], gib := 1, redundant := true }, .slots 0 { MbSlot.none with cmd := 0x103, state := 2, args := [0, 0, 0, 0, 0, 0, 0, 0, 0, 0, 0, 0, 0, 0, 0, 0, 64, 0, 0, 0] }], by decide +kernel⟩,
  ⟨0, st [.fld F.MOD_ROW_MAP_r_MAP 0 0xFEDCBA9876543210, .flasks 0 { FlaskSt.none with live := true, cores := [0, 1], gib := 1 }, .slots 0 { MbSlot.none with cmd := 0x103, state := 2, args := [0, 0, 0, 0, 0, 0, 0, 0, 0, 0, 0, 0, 0, 1, 0, 0, 64, 0, 0, 0] }, cmdIn 0 0x103 [0, 1]], by decide +kernel⟩,
  ⟨0, st [cmdAt 0 0x104 []], by decide +kernel⟩,
  ⟨0, st [cmdIn 0 0x104 []], by decide +kernel⟩,
  ⟨0, st [.fld F.MOD_ROW_MAP_r_MAP 0 0xFEDCBA9876543210, .flasks 0 { FlaskSt.none with live := true, cores := [0], gib := 1, active := { MouldSt.none with present := true, cores := [0] }, staged := { MouldSt.none with present := true, id := 7 } }, .fld F.CORE_STAT_STATE 0 2, .slots 0 { MbSlot.none with cmd := 0x104, state := 2, args := [0, 0, 0, 0, 0, 0, 0, 0, 0, 0, 0, 0, 0, 0, 0, 0] }], by decide +kernel⟩,
  ⟨0, st [.fld F.MOD_ROW_MAP_r_MAP 0 0xFEDCBA9876543210, .flasks 0 { FlaskSt.none with live := true, cores := [0], gib := 1, active := { MouldSt.none with present := true, cores := [0] }, staged := { MouldSt.none with present := true, id := 7 } }, .fld F.CORE_STAT_STATE 0 3, .slots 0 { MbSlot.none with cmd := 0x104, state := 2, args := [0, 0, 0, 0, 0, 0, 0, 0, 0, 0, 0, 0, 0, 0, 0, 0] }], by decide +kernel⟩,
  ⟨0, st [.fld F.MOD_ROW_MAP_r_MAP 0 0xFEDCBA9876543210, .flasks 0 { FlaskSt.none with live := true, cores := [0], gib := 1, active := { MouldSt.none with present := true, cores := [0] }, staged := { MouldSt.none with present := true, id := 7 } }, .fld F.CORE_STAT_STATE 0 0, .slots 0 { MbSlot.none with cmd := 0x104, state := 2, args := [0, 0, 0, 0, 0, 0, 0, 0, 0, 0, 0, 0, 0, 0, 0, 0] }], by decide +kernel⟩,
  ⟨0, false, true, 0, st [.fld F.MOD_ROW_MAP_r_MAP 0 0xFEDCBA9876543210, .flasks 0 { FlaskSt.none with live := true, cores := [0], gib := 1, active := { MouldSt.none with present := true, cores := [0] }, halt := some { kind := .host, quiesce := true, target := 0, slot := none, cause := 1 } }, .fld F.CORE_STAT_STATE 0 3], by decide +kernel⟩,
  ⟨0, true, true, 0, st [.fld F.MOD_ROW_MAP_r_MAP 0 0xFEDCBA9876543210, .flasks 0 { FlaskSt.none with live := true, cores := [0], gib := 1, active := { MouldSt.none with present := true, cores := [0] }, halt := some { kind := .host, quiesce := true, target := 0, slot := none, cause := 1 }, staged := { MouldSt.none with present := true, id := 7 } }, .fld F.CORE_STAT_STATE 0 3], by decide +kernel⟩,
  ⟨0, true, true, 0, st [.fld F.MOD_ROW_MAP_r_MAP 0 0xFEDCBA9876543210, .flasks 0 { FlaskSt.none with live := true, cores := [0], gib := 1, active := { MouldSt.none with present := true, cores := [0] }, halt := some { kind := .switch, quiesce := true, target := 0, slot := none, cause := 1 }, staged := { MouldSt.none with present := true, id := 7 } }, .fld F.CORE_STAT_STATE 0 3], by decide +kernel⟩,
  ⟨0, 0, st [.flasks 0 { FlaskSt.none with reported := some 0 }], by decide +kernel⟩,
  ⟨0, 1000000, st [.flasks 0 { FlaskSt.none with reported := some 0 }], by decide +kernel⟩,
  ⟨0, 5, st [.fld F.MOD_ROW_MAP_r_MAP 0 0xFEDCBA9876543210, .cores 0 { CoreSt.init with owner := some (0, 1) }, .flasks 0 { FlaskSt.none with live := true, cores := [0], gib := 1, active := { MouldSt.none with present := true, cores := [0], sections := [(2, 0, 0, ([1, 0, 0, 0, 1] ++ List.replicate 15 0 ++ [5] ++ List.replicate 43 0 ++ [15] ++ List.replicate 15 0)), (2, 0, 1, ([1, 0, 0, 0, 1] ++ List.replicate 15 0 ++ [5] ++ List.replicate 43 0 ++ [15] ++ List.replicate 15 0))] } }, .fld F.CORE_STAT_STATE 0 3, .fld F.CLK_PSTEP_TEMPER 0 1], { pc := 0, n := 5, quiesce := false }, by decide +kernel⟩,
  ⟨0, st [cmdAt 0 0x105 []], by decide +kernel⟩,
  ⟨0, st [cmdIn 0 0x105 []], by decide +kernel⟩,
  ⟨0, st [.fld F.MOD_ROW_MAP_r_MAP 0 0xFEDCBA9876543210, .flasks 0 { FlaskSt.none with live := true, cores := [0], gib := 1, active := { MouldSt.none with present := true, cores := [0] } }, .fld F.CORE_STAT_STATE 0 2, .slots 0 { MbSlot.none with cmd := 0x105, state := 2, args := [0] }], by decide +kernel⟩,
  ⟨0, st [cmdAt 0 0x109 []], by decide +kernel⟩,
  ⟨0, st [cmdIn 0 0x109 []], by decide +kernel⟩,
  ⟨0, st [.fld F.MOD_ROW_MAP_r_MAP 0 0xFEDCBA9876543210, .flasks 0 { FlaskSt.none with live := true, cores := [0], gib := 1, active := { MouldSt.none with present := true, cores := [0] } }, .fld F.CORE_STAT_STATE 0 2, .slots 0 { MbSlot.none with cmd := 0x109, state := 2, args := [0] }], by decide +kernel⟩⟩

theorem witness_FlaskCommandsAct :
  (∃ (k : Fin 17) (s : State), s.mbRuns (↑k) 262 = true ∧ (s.slot ↑k).phase ≠ 0) ∧
  (∃ (k : Fin 17) (s : State), s.mbRuns (↑k) 262 = true ∧ (s.slot ↑k).phase = 0 ∧ s.flaskIn (leAt (s.slot ↑k).args 0 1) 2 = false) ∧
  (∃ (k : Fin 17) (s : State), s.mbRuns (↑k) 262 = true ∧ (s.slot ↑k).phase = 0 ∧ s.flaskIn (leAt (s.slot ↑k).args 0 1) 2 = true ∧ s.inPour (leAt (s.slot ↑k).args 0 1) = false) ∧
  (∃ (k : Fin 17) (s : State), s.mbRuns (↑k) 262 = true ∧ (s.slot ↑k).phase = 0 ∧ s.flaskIn (leAt (s.slot ↑k).args 0 1) 2 = true ∧ s.inPour (leAt (s.slot ↑k).args 0 1) = true) ∧
  (∃ (k : Fin 17) (s : State), s.mbRuns (↑k) 263 = true ∧ (s.slot ↑k).phase ≠ 0) ∧
  (∃ (k : Fin 17) (s : State), s.mbRuns (↑k) 263 = true ∧ (s.slot ↑k).phase = 0 ∧ (s.flaskIn (leAt (s.slot ↑k).args 0 1) 3 = false ∨ (s.flask (leAt (s.slot ↑k).args 0 1)).halt.isSome = true)) ∧
  (∃ (k : Fin 17) (s : State), s.mbRuns (↑k) 263 = true ∧ (s.slot ↑k).phase = 0 ∧ s.flaskIn (leAt (s.slot ↑k).args 0 1) 3 = true ∧ (s.flask (leAt (s.slot ↑k).args 0 1)).halt = none ∧ (s.inPour (leAt (s.slot ↑k).args 0 1) = false ∨ leAt (s.slot ↑k).args 1 1 ≠ 0)) ∧
  (∃ (k : Fin 17) (s : State), s.mbRuns (↑k) 263 = true ∧ (s.slot ↑k).phase = 0 ∧ s.flaskIn (leAt (s.slot ↑k).args 0 1) 3 = true ∧ (s.flask (leAt (s.slot ↑k).args 0 1)).halt = none ∧ s.inPour (leAt (s.slot ↑k).args 0 1) = true ∧ leAt (s.slot ↑k).args 1 1 = 0 ∧ s.pourMaster = false) ∧
  (∃ (k : Fin 17) (s : State), s.mbRuns (↑k) 264 = true ∧ (s.slot ↑k).phase ≠ 0) ∧
  (∃ (k : Fin 17) (s : State), s.mbRuns (↑k) 264 = true ∧ (s.slot ↑k).phase = 0 ∧ (s.flaskIn (leAt (s.slot ↑k).args 0 1) 4 = false ∨ (s.flask (leAt (s.slot ↑k).args 0 1)).atQuiesce = false ∨ (s.flask (leAt (s.slot ↑k).args 0 1)).faultHalt = true ∨ (s.flask (leAt (s.slot ↑k).args 0 1)).reported.isSome = true)) ∧
  (∃ (k : Fin 17) (s : State), s.mbRuns (↑k) 264 = true ∧ (s.slot ↑k).phase = 0 ∧ s.flaskIn (leAt (s.slot ↑k).args 0 1) 4 = true ∧ (s.flask (leAt (s.slot ↑k).args 0 1)).atQuiesce = true ∧ (s.flask (leAt (s.slot ↑k).args 0 1)).faultHalt = false ∧ (s.flask (leAt (s.slot ↑k).args 0 1)).reported = none) ∧
  (∃ (k : Fin 17) (s : State), s.mbRuns (↑k) 257 = true ∧ (s.slot ↑k).phase ≠ 0) ∧
  (∃ (k : Fin 17) (s : State), s.mbRuns (↑k) 257 = true ∧ (s.slot ↑k).phase = 0 ∧ (s.flask (leAt (s.slot ↑k).args 0 1)).live = false ∧ s.fget F.MOD_GRID_STAT_OUT_OF_SERVICE 0 = 1) ∧
  (∃ (k : Fin 17) (s : State), s.mbRuns (↑k) 257 = true ∧ (s.slot ↑k).phase = 0 ∧ (s.flask (leAt (s.slot ↑k).args 0 1)).live = false ∧ s.fget F.MOD_GRID_STAT_OUT_OF_SERVICE 0 ≠ 1 ∧ (∀ (l : Nat), l ∈ List.filter (fun l => bitOf (leAt (s.slot ↑k).args 8 18) l) (List.range 140) → (s.physOf l).isSome = true ∧ ∀ (g : Nat), g ∈ s.liveFlasks → ¬l ∈ (s.flask g).cores) ∧ Option.any (fun base => decide (List.filter (fun l => bitOf (leAt (s.slot ↑k).args 8 18) l) (List.range 140) = [])) (s.freeRegion (leAt (s.slot ↑k).args 2 2)) = true) ∧
  (∃ (k : Fin 17) (s : State), s.mbRuns (↑k) 257 = true ∧ (s.slot ↑k).phase = 0 ∧ (s.flask (leAt (s.slot ↑k).args 0 1)).live = false ∧ s.fget F.MOD_GRID_STAT_OUT_OF_SERVICE 0 ≠ 1 ∧ (∀ (l : Nat), l ∈ List.filter (fun l => bitOf (leAt (s.slot ↑k).args 8 18) l) (List.range 140) → (s.physOf l).isSome = true ∧ ∀ (g : Nat), g ∈ s.liveFlasks → ¬l ∈ (s.flask g).cores) ∧ s.freeRegion (leAt (s.slot ↑k).args 2 2) = none) ∧
  (∃ (k : Fin 17) (s : State), s.mbRuns (↑k) 257 = true ∧ (s.slot ↑k).phase = 0 ∧ (s.flask (leAt (s.slot ↑k).args 0 1)).live = false ∧ s.fget F.MOD_GRID_STAT_OUT_OF_SERVICE 0 ≠ 1 ∧ (¬∀ (l : Nat), l ∈ List.filter (fun l => bitOf (leAt (s.slot ↑k).args 8 18) l) (List.range 140) → (s.physOf l).isSome = true ∧ ∀ (g : Nat), g ∈ s.liveFlasks → ¬l ∈ (s.flask g).cores)) ∧
  (∃ (k : Fin 17) (s : State), s.mbRuns (↑k) 257 = true ∧ (s.slot ↑k).phase = 0 ∧ (s.flask (leAt (s.slot ↑k).args 0 1)).live = false ∧ s.fget F.MOD_GRID_STAT_OUT_OF_SERVICE 0 ≠ 1 ∧ (∀ (l : Nat), l ∈ List.filter (fun l => bitOf (leAt (s.slot ↑k).args 8 18) l) (List.range 140) → (s.physOf l).isSome = true ∧ ∀ (g : Nat), g ∈ s.liveFlasks → ¬l ∈ (s.flask g).cores) ∧ Option.any (fun base => decide (List.any (List.filter (fun l => bitOf (leAt (s.slot ↑k).args 8 18) l) (List.range 140)) (fun l => decide (Option.isSome (s.physOf l) = true)) = true)) (s.freeRegion (leAt (s.slot ↑k).args 2 2)) = true) ∧
  (∃ (k : Fin 17) (s : State), s.mbRuns (↑k) 257 = true ∧ (s.slot ↑k).phase = 0 ∧ (s.flask (leAt (s.slot ↑k).args 0 1)).live = true) ∧
  (∃ (k : Fin 17) (s : State), s.mbRuns (↑k) 258 = true ∧ (s.slot ↑k).phase ≠ 0) ∧
  (∃ (k : Fin 17) (s : State), s.mbRuns (↑k) 258 = true ∧ (s.slot ↑k).phase = 0 ∧ (s.flask (leAt (s.slot ↑k).args 0 1)).live = false) ∧
  (∃ (k : Fin 17) (s : State), s.mbRuns (↑k) 258 = true ∧ (s.slot ↑k).phase = 0 ∧ (s.flask (leAt (s.slot ↑k).args 0 1)).live = true ∧ List.isEmpty (s.flaskPhys (leAt (s.slot ↑k).args 0 1)) = false) ∧
  (∃ (k : Fin 17) (s : State), s.mbRuns (↑k) 268 = true ∧ (s.flask (leAt (s.slot ↑k).args 0 1)).live = false) ∧
  (∃ (k : Fin 17) (s : State) (c : Nat), s.mbRuns (↑k) 269 = true ∧ (s.running.any fun f => (s.flask f).active.streams) = false ∧ c < 20) ∧
  (∃ (k : Fin 17) (s : State), s.mbRuns (↑k) 269 = true ∧ (s.running.any fun f => (s.flask f).active.streams) = true) :=
  ⟨⟨0, st [cmdAt 0 0x106 []], by decide +kernel⟩,
  ⟨0, st [cmdIn 0 0x106 []], by decide +kernel⟩,
  ⟨0, st [.fld F.MOD_ROW_MAP_r_MAP 0 0xFEDCBA9876543210, .flasks 0 { FlaskSt.none with live := true, cores := [0], gib := 1, active := { MouldSt.none with present := true, cores := [0] } }, .fld F.CORE_STAT_STATE 0 2, .slots 0 { MbSlot.none with cmd := 0x106, state := 2, args := [0, 0, 0, 0, 0, 0, 0, 0, 0, 0, 0, 0, 0, 0, 0, 0] }], by decide +kernel⟩,
  ⟨0, st [.fld F.MOD_ROW_MAP_r_MAP 0 0xFEDCBA9876543210, .flasks 0 { FlaskSt.none with live := true, cores := [0], gib := 1, active := { MouldSt.none with present := true, cores := [0], pourSize := 2 } }, .fld F.CORE_STAT_STATE 0 2, .slots 0 { MbSlot.none with cmd := 0x106, state := 2, args := [0, 0, 0, 0, 0, 0, 0, 0, 0, 0, 0, 0, 0, 0, 0, 0] }], by decide +kernel⟩,
  ⟨0, st [cmdAt 0 0x107 []], by decide +kernel⟩,
  ⟨0, st [cmdIn 0 0x107 []], by decide +kernel⟩,
  ⟨0, st [.fld F.MOD_ROW_MAP_r_MAP 0 0xFEDCBA9876543210, .flasks 0 { FlaskSt.none with live := true, cores := [0], gib := 1, active := { MouldSt.none with present := true, cores := [0] } }, .fld F.CORE_STAT_STATE 0 3, .slots 0 { MbSlot.none with cmd := 0x107, state := 2, args := [0, 0, 0, 0, 0, 0, 0, 0, 0, 0, 0, 0, 0, 0, 0, 0] }], by decide +kernel⟩,
  ⟨0, st [.fld F.MOD_ROW_MAP_r_MAP 0 0xFEDCBA9876543210, .flasks 0 { FlaskSt.none with live := true, cores := [0], gib := 1, active := { MouldSt.none with present := true, cores := [0], pourSize := 2 } }, .fld F.CORE_STAT_STATE 0 3, .slots 0 { MbSlot.none with cmd := 0x107, state := 2, args := [0, 0, 0, 0, 0, 0, 0, 0, 0, 0, 0, 0, 0, 0, 0, 0] }], by decide +kernel⟩,
  ⟨0, st [cmdAt 0 0x108 []], by decide +kernel⟩,
  ⟨0, st [cmdIn 0 0x108 []], by decide +kernel⟩,
  ⟨0, st [.fld F.MOD_ROW_MAP_r_MAP 0 0xFEDCBA9876543210, .flasks 0 { FlaskSt.none with live := true, cores := [0], gib := 1, active := { MouldSt.none with present := true, cores := [0] }, atQuiesce := true }, .fld F.CORE_STAT_STATE 0 4, .slots 0 { MbSlot.none with cmd := 0x108, state := 2, args := [0, 0, 0, 0, 0, 0, 0, 0, 0, 0, 0, 0, 0, 0, 0, 0] }], by decide +kernel⟩,
  ⟨0, st [cmdAt 0 0x101 []], by decide +kernel⟩,
  ⟨0, st [cmdIn 0 0x101 [], .fld F.MOD_GRID_STAT_OUT_OF_SERVICE 0 1], by decide +kernel⟩,
  ⟨0, st [cmdIn 0 0x101 [], .fld F.MOD_GRID_STAT_OUT_OF_SERVICE 0 0], by decide +kernel⟩,
  ⟨0, st [.slots 0 { MbSlot.none with cmd := 0x101, state := 2, args := [0, 0, 241, 4] }], by decide +kernel⟩,
  ⟨0, st [.slots 0 { MbSlot.none with cmd := 0x101, state := 2, args := (List.replicate 25 0 ++ [8]) }], by decide +kernel⟩,
  ⟨0, st [.fld F.MOD_ROW_MAP_r_MAP 0 0xFEDCBA9876543210, .slots 0 { MbSlot.none with cmd := 0x101, state := 2, args := ([0, 0, 1, 0, 0, 0, 0, 0, 1] ++ List.replicate 17 0) }], by decide +kernel⟩,
  ⟨0, st [.fld F.MOD_ROW_MAP_r_MAP 0 0xFEDCBA9876543210, .flasks 0 { FlaskSt.none with live := true, cores := [0], gib := 1, active := { MouldSt.none with present := true, cores := [0] } }, .fld F.CORE_STAT_STATE 0 2, .slots 0 { MbSlot.none with cmd := 0x101, state := 2, args := [0] }], by decide +kernel⟩,
  ⟨0, st [cmdAt 0 0x102 []], by decide +kernel⟩,
  ⟨0, st [cmdIn 0 0x102 []], by decide +kernel⟩,
  ⟨0, st [.fld F.MOD_ROW_MAP_r_MAP 0 0xFEDCBA9876543210, .flasks 0 { FlaskSt.none with live := true, cores := [0], gib := 1, active := { MouldSt.none with present := true, cores := [0] } }, .fld F.CORE_STAT_STATE 0 2, .slots 0 { MbSlot.none with cmd := 0x102, state := 2, args := [0] }], by decide +kernel⟩,
  ⟨0, st [cmdIn 0 0x10C []], by decide +kernel⟩,
  ⟨0, st [cmdIn 0 0x10D []], 0, by decide +kernel⟩,
  ⟨0, st [.fld F.MOD_ROW_MAP_r_MAP 0 0xFEDCBA9876543210, .cores 0 { CoreSt.init with owner := some (0, 1) }, .flasks 0 { FlaskSt.none with live := true, cores := [0], gib := 1, active := { MouldSt.none with present := true, cores := [0], sections := [(2, 0, 0, ([1, 0, 0, 0, 1] ++ List.replicate 15 0 ++ [5] ++ List.replicate 43 0 ++ [2] ++ List.replicate 15 0)), (3, 0, 0, ([0, 0, 0, 0, 4] ++ List.replicate 59 0))] } }, .fld F.CORE_STAT_STATE 0 3, .slots 0 { MbSlot.none with cmd := 0x10D, state := 2, args := [0, 0, 0, 0, 0, 0, 0, 0, 0, 0, 0, 0, 0, 0, 0, 0] }], by decide +kernel⟩⟩

theorem witness_MailboxSlotCommandsAct :
  (∃ (slot : Fin 16) (submit : Word) (byteMask : Fin 256) (s : State), (fun (v : Nat) => decide (s.mbServed = true ∧ (s.slot ↑slot).isOpen = true ∧ (bitOf (↑byteMask) 7 = false ∨ bitOf v 63 = false))) (submitBits ((BitVec.toNat submit &&& coverMask (↑byteMask) 8) + ((s.slot ↑slot).submit - ((s.slot ↑slot).submit &&& coverMask (↑byteMask) 8)))) = true) ∧
  (∃ (slot : Fin 16) (submit : Word) (byteMask : Fin 256) (s : State), (fun (v : Nat) => decide (s.mbServed = true ∧ (s.slot ↑slot).isOpen = true ∧ bitOf (↑byteMask) 7 = true ∧ bitOf v 63 = true)) (submitBits ((BitVec.toNat submit &&& coverMask (↑byteMask) 8) + ((s.slot ↑slot).submit - ((s.slot ↑slot).submit &&& coverMask (↑byteMask) 8)))) = true) ∧
  (∃ (slot : Fin 16) (s : State), s.mbServed = true ∧ (s.slot ↑slot).isOpen = false) ∧
  (∃ (val : Byte) (s : State), (s.mbServed = false ∨ val ≠ 1)) ∧
  (∃ (slot : Fin 16) (val : Byte) (s : State), s.mbServed = true ∧ val = 1 ∧ (s.slot ↑slot).isOpen = true ∧ (s.slot ↑slot).state ≠ 0 ∧ (s.slot ↑slot).cancel ≠ 2) ∧
  (∃ (slot : Fin 16) (val : Byte) (s : State), s.mbServed = true ∧ val = 1 ∧ (s.slot ↑slot).state = 1) ∧
  (∃ (slot : Fin 16) (val : Byte) (s : State), s.mbServed = true ∧ val = 1 ∧ (s.slot ↑slot).runs = true ∧ List.elem (s.slot ↑slot).cmd [259, 266, 773, 517, 1537, 516] = true) ∧
  (∃ (slot : Fin 16) (val : Byte) (s : State), s.mbServed = true ∧ val = 1 ∧ (s.slot ↑slot).runs = true ∧ List.elem (s.slot ↑slot).cmd [259, 266, 773, 517, 1537, 516] = false) ∧
  (∃ (slot : Fin 17) (s : State), s.mayStart ↑slot = true ∧ s.restRefuses (s.slot ↑slot).cmd = false) ∧
  (∃ (slot : Fin 17) (s : State), s.mayStart ↑slot = true ∧ s.restRefuses (s.slot ↑slot).cmd = true) ∧
  (∃ (s : State), s.mbServed = true) ∧
  (∃ (submit : Word) (s : State), s.mbServed = true ∧ ((s.slot 16).isOpen = false ∨ submitBits (BitVec.toNat submit) % 2 ^ 29 = 0)) ∧
  (∃ (submit : Word) (s : State), s.mbServed = true ∧ (s.slot 16).isOpen = true ∧ submitBits (BitVec.toNat submit) % 2 ^ 29 ≠ 0) :=
  ⟨⟨0, 0, 0, st [stageIs 5], by decide +kernel⟩,
  ⟨0, 0x8000000000000000, 255, st [stageIs 5], by decide +kernel⟩,
  ⟨0, st [stageIs 5, .slots 0 { MbSlot.none with state := 2 }], by decide +kernel⟩,
  ⟨0, State.reset, by decide +kernel⟩,
  ⟨0, 1, st [stageIs 5, .slots 0 { MbSlot.none with state := 4 }], by decide +kernel⟩,
  ⟨0, 1, st [stageIs 5, .slots 0 { MbSlot.none with state := 1 }], by decide +kernel⟩,
  ⟨0, 1, st [stageIs 5, .slots 0 { MbSlot.none with state := 2, cmd := 259 }], by decide +kernel⟩,
  ⟨0, 1, st [stageIs 5, .slots 0 { MbSlot.none with state := 2, cmd := 257 }], by decide +kernel⟩,
  ⟨0, st [.slots 0 { MbSlot.none with state := 1, cmd := 1 }], by decide +kernel⟩,
  ⟨0, st [.slots 0 { MbSlot.none with state := 1, cmd := 0x0106 }, .fld F.PST_STAT_STATE 0 1], by decide +kernel⟩,
  ⟨st [stageIs 5], by decide +kernel⟩,
  ⟨0, st [stageIs 5], by decide +kernel⟩,
  ⟨1, st [stageIs 5], by decide +kernel⟩⟩

theorem witness_MailboxQueryCommandsAct :
  (∃ (k : Fin 17) (s : State), s.mbRuns (↑k) 1 = true) ∧
  (∃ (k : Fin 17) (s : State), s.mbRuns (↑k) 2 = true) ∧
  (∃ (k : Fin 17) (s : State), s.mbRuns (↑k) 3 = true) ∧
  (∃ (k : Fin 17) (s : State), s.mbRuns (↑k) 4 = true) ∧
  (∃ (k : Fin 17) (s : State), s.mbRuns (↑k) 1794 = true) ∧
  (∃ (k : Fin 17) (s : State), s.mbRuns (↑k) 1793 = true ∧ s.apertureMay (leAt (s.slot ↑k).args 1 1) = false) ∧
  (∃ (k : Fin 17) (s : State), s.mbRuns (↑k) 1793 = true ∧ s.apertureMay (leAt (s.slot ↑k).args 1 1) = true) :=
  ⟨⟨0, st [cmdIn 0 0x001 []], by decide +kernel⟩,
  ⟨0, st [cmdIn 0 0x002 []], by decide +kernel⟩,
  ⟨0, st [cmdIn 0 0x003 []], by decide +kernel⟩,
  ⟨0, st [cmdIn 0 0x004 []], by decide +kernel⟩,
  ⟨0, st [cmdIn 0 0x702 []], by decide +kernel⟩,
  ⟨0, st [cmdIn 0 0x701 []], by decide +kernel⟩,
  ⟨0, st [.fld F.DBG_STAT_LEVEL 0 3, .fld F.DBG_STAT_FLAGS 0 3, .slots 0 { MbSlot.none with cmd := 0x701, state := 2, args := [0, 0, 0, 0, 0, 0, 0, 0, 0, 0, 0, 0, 0, 0, 0, 0] }], by decide +kernel⟩⟩

theorem witness_RepairCommandsAct :
  (∃ (segment : Fin 31) (group : Fin 272) (s : State), NSet.mem s.seam.failed (↑segment * 512 + ↑group) = true) ∧
  (∃ (segment : Fin 31) (group : Fin 272) (linkCore : CoreId) (s : State), NSet.mem s.seam.failed (↑segment * 512 + ↑group) = false ∧ s.freeGroup ↑segment = none ∧ ↑group < 160 ∧ s.healthy ↑linkCore = true) ∧
  (∃ (segment : Fin 31) (group : Fin 272) (s : State), NSet.mem s.seam.failed (↑segment * 512 + ↑group) = false ∧ s.freeGroup ↑segment = none ∧ 160 ≤ ↑group) ∧
  (∃ (segment : Fin 31) (group : Fin 272) (s : State), s.repairWaits 4 (groupLoc ↑segment ↑group) = [] ∧ Option.any (fun w => decide (s.slagEntry 4 (groupLoc ↑segment ↑group) = none)) (List.find? (fun w => w.fst == ↑segment && w.snd.fst == ↑group) s.seam.waiting) = true) ∧
  (∃ (segment : Fin 31) (group : Fin 272) (s : State), s.repairWaits 4 (groupLoc ↑segment ↑group) ≠ []) ∧
  (∃ (core : CoreId) (s : State), s.repairWaits 1 ↑core = [] ∧ s.healthy ↑core = true) ∧
  (∃ (core : CoreId) (s : State), s.repairWaits 1 ↑core = [] ∧ s.healthy ↑core = false) ∧
  (∃ (core : CoreId) (s : State), s.repairWaits 1 ↑core ≠ [] ∧ s.faults.repairs = []) ∧
  (∃ (flask : FlaskId) (s : State), (s.flaskIn (↑flask) 4 && (s.flask ↑flask).draining && !(s.flask ↑flask).drained) = true ∧ s.drainedContexts ↑flask = true ∧ s.faults.repairs = []) ∧
  (∃ (kind : Nat) (location : Nat) (s : State), kind ≠ 3 ∧ kind ≠ 5 ∧ kind ≠ 6 ∧ s.fget F.MOD_FAULT_CTL_AUTO_REPAIR 0 = 0 ∧ (s.faults.pendings.any fun x => x.fst == kind && x.snd.fst == location) = false) ∧
  (∃ (kind : Nat) (location : Nat) (s : State), kind ≠ 3 ∧ kind ≠ 5 ∧ kind ≠ 6 ∧ s.fget F.MOD_FAULT_CTL_AUTO_REPAIR 0 = 0 ∧ (s.faults.pendings.any fun x => x.fst == kind && x.snd.fst == location) = true) ∧
  (∃ (kind : Nat) (location : Nat) (s : State), (List.find? (fun x => x.fst == kind && x.snd.fst == location) s.faults.pendings = none ∨ s.repairWaits kind location ≠ [])) ∧
  (∃ (kind : Nat) (location : Nat) (s : State), Option.any (fun x => decide (s.repairWaits kind location = [] ∧ kind = 1 ∧ s.healthy location = true)) (List.find? (fun x => x.fst == kind && x.snd.fst == location) s.faults.pendings) = true) ∧
  (∃ (k : Fin 17) (s : State), s.mbRuns (↑k) 769 = true ∧ locOk (leAt (s.slot ↑k).args 0 1) (leAt (s.slot ↑k).args 4 4) = false) ∧
  (∃ (k : Fin 17) (s : State), s.mbRuns (↑k) 769 = true ∧ locOk (leAt (s.slot ↑k).args 0 1) (leAt (s.slot ↑k).args 4 4) = true ∧ s.slagEntry (leAt (s.slot ↑k).args 0 1) (leAt (s.slot ↑k).args 4 4) = none ∧ (s.slot ↑k).phase = 0 ∧ s.fenceRefused (leAt (s.slot ↑k).args 0 1) (leAt (s.slot ↑k).args 4 4) = false ∧ leAt (s.slot ↑k).args 0 1 = 3) ∧
  (∃ (k : Fin 17) (s : State), s.mbRuns (↑k) 769 = true ∧ locOk (leAt (s.slot ↑k).args 0 1) (leAt (s.slot ↑k).args 4 4) = true ∧ s.slagEntry (leAt (s.slot ↑k).args 0 1) (leAt (s.slot ↑k).args 4 4) = none ∧ (s.slot ↑k).phase = 0 ∧ s.fenceRefused (leAt (s.slot ↑k).args 0 1) (leAt (s.slot ↑k).args 4 4) = false ∧ (leAt (s.slot ↑k).args 0 1 = 1 ∨ leAt (s.slot ↑k).args 0 1 = 2)) ∧
  (∃ (k : Fin 17) (s : State), s.mbRuns (↑k) 769 = true ∧ locOk (leAt (s.slot ↑k).args 0 1) (leAt (s.slot ↑k).args 4 4) = true ∧ s.slagEntry (leAt (s.slot ↑k).args 0 1) (leAt (s.slot ↑k).args 4 4) = none ∧ (s.slot ↑k).phase = 0 ∧ s.fenceRefused (leAt (s.slot ↑k).args 0 1) (leAt (s.slot ↑k).args 4 4) = true) ∧
  (∃ (k : Fin 17) (s : State), s.mbRuns (↑k) 769 = true ∧ locOk (leAt (s.slot ↑k).args 0 1) (leAt (s.slot ↑k).args 4 4) = true ∧ (s.slagEntry (leAt (s.slot ↑k).args 0 1) (leAt (s.slot ↑k).args 4 4)).isSome = true) ∧
  (∃ (index : Fin 64) (tc : Nat) (s : State), Option.any (fun w => decide (s.clockAt tc < w.first + 100000)) (s.faults.windows[↑index]?) = true) ∧
  (∃ (index : Fin 64) (tc : Nat) (s : State), Option.any (fun w => decide (w.first + 100000 ≤ s.clockAt tc)) (s.faults.windows[↑index]?) = true) ∧
  (∃ (value : Nat), value < 3) ∧
  (∃ (unit : WearUnit) (value : Nat) (s : State) (x : Fin 256), unit = WearUnit.tile x ∧ (value < 30 ∨ s.fget F.PWR_TILE_t_STATE ↑x ≠ 1)) ∧
  (∃ (unit : WearUnit) (value : Nat) (x : Fin 20), unit = WearUnit.stack x ∧ value < 256) ∧
  (∃ (unit : WearUnit) (value : Nat) (c : ClusterId), unit = WearUnit.margin c ∧ value ≤ 300) ∧
  (∃ (unit : WearUnit) (value : Nat) (s : State) (p : PortId) (l : Fin 4), unit = WearUnit.lane p l ∧ (value ≤ 240 ∨ s.portState ↑p ≠ 4)) ∧
  (∃ (unit : WearUnit) (value : Nat) (tc : Nat) (s : State) (c : ClusterId), unit = WearUnit.margin c ∧ 300 < value ∧ (s.faults.warned.any fun w => w.fst == 8 && w.snd.fst == ↑c && decide (s.clockAt tc < w.snd.snd + 86400000000000)) = false) ∧
  (∃ (unit : WearUnit) (value : Nat) (s : State) (x : Fin 256), unit = WearUnit.tile x ∧ 30 ≤ value ∧ s.fget F.PWR_TILE_t_STATE ↑x = 1) :=
  ⟨⟨0, 0, st [.seam { State.reset.seam with failed := [0] }], by decide +kernel⟩,
  ⟨0, 0, 0, st [.seam { State.reset.seam with failed := (List.range 16).map (fun i => 256 + i) }], by decide +kernel⟩,
  ⟨0, 160, st [.seam { State.reset.seam with failed := (List.range 16).map (fun i => 256 + i) }], by decide +kernel⟩,
  ⟨0, 0, st [.seam { State.reset.seam with waiting := [(0, 0, 256, 1)] }], by decide +kernel⟩,
  ⟨0, 0, st [.fld F.MOD_ROW_MAP_r_MAP 0 0xFEDCBA9876543210, .flasks 0 { FlaskSt.none with live := true, cores := [0, 4], active := { MouldSt.none with present := true, cores := [0, 4] } }, .fld F.CORE_STAT_STATE 0 3], by decide +kernel⟩,
  ⟨0, State.reset, by decide +kernel⟩,
  ⟨0, st [.slag { State.reset.slag with run := [{ kind := 1, state := 1, reason := 1, flags := 0, location := 0, spare := 0, tc := 0 }] }], by decide +kernel⟩,
  ⟨0, st [.fld F.MOD_ROW_MAP_r_MAP 0 0xFEDCBA9876543210, .cores 0 { CoreSt.init with owner := some (0, 1) }, .flasks 0 { FlaskSt.none with live := true, cores := [0], gib := 1, active := { MouldSt.none with present := true, cores := [0], sections := [] } }, .fld F.CORE_STAT_STATE 0 3], by decide +kernel⟩,
  ⟨0, st [.fld F.MOD_ROW_MAP_r_MAP 0 0xFEDCBA9876543210, .cores 0 { CoreSt.init with owner := some (0, 1) }, .flasks 0 { FlaskSt.none with live := true, cores := [0], gib := 1, active := { MouldSt.none with present := true, cores := [0], sections := [] }, draining := true }, .fld F.CORE_STAT_STATE 0 4], by decide +kernel⟩,
  ⟨0, 0, st [.fld F.MOD_FAULT_CTL_AUTO_REPAIR 0 0], by decide +kernel⟩,
  ⟨1, 0, st [.faults { State.reset.faults with pendings := [(1, 0, 1)] }, .fld F.MOD_FAULT_CTL_AUTO_REPAIR 0 0], by decide +kernel⟩,
  ⟨0, 0, State.reset, by decide +kernel⟩,
  ⟨1, 0, st [.faults { State.reset.faults with pendings := [(1, 0, 1)] }], by decide +kernel⟩,
  ⟨0, st [cmdIn 0 0x301 []], by decide +kernel⟩,
  ⟨0, st [cmdIn 0 0x301 [3]], by decide +kernel⟩,
  ⟨0, st [cmdIn 0 0x301 [2]], by decide +kernel⟩,
  ⟨0, st [.slots 0 { MbSlot.none with cmd := 0x301, state := 2, args := [1, 0, 0, 0, 0, 0, 0, 0] }], by decide +kernel⟩,
  ⟨0, st [.slag { State.reset.slag with run := [{ kind := 1, state := 1, reason := 1, flags := 0, location := 0, spare := 0, tc := 0 }] }, .slots 0 { MbSlot.none with cmd := 0x301, state := 2, args := [1, 0, 0, 0, 0, 0, 0, 0] }], by decide +kernel⟩,
  ⟨0, 0, st [.faults { State.reset.faults with windows := [{ code := 1, module := 0, core := 0, who := [], flask := 0, count := 1, units := [], first := 0, last := 0, frame := 0, detail := [] }] }], by decide +kernel⟩,
  ⟨0, 100000, st [.faults { State.reset.faults with windows := [{ code := 1, module := 0, core := 0, who := [], flask := 0, count := 1, units := [], first := 0, last := 0, frame := 0, detail := [] }] }], by decide +kernel⟩,
  ⟨0, by decide +kernel⟩,
  ⟨.tile 0, 0, State.reset, 0, by decide +kernel⟩,
  ⟨.stack 0, 0, 0, by decide +kernel⟩,
  ⟨.margin 0, 0, 0, by decide +kernel⟩,
  ⟨.lane 0 0, 0, State.reset, 0, 0, by decide +kernel⟩,
  ⟨.margin 0, 301, 0, State.reset, 0, by decide +kernel⟩,
  ⟨.tile 0, 30, st [.fld F.PWR_TILE_t_STATE 0 1], 0, by decide +kernel⟩⟩

theorem witness_PepperCommandsAct_1 :
  (∃ (core : CoreId) (unit : Fin 76) (window : Nat) (s : State), (s.fget F.PEP_CTL_SHARE 0 = 0 ∨ window < 256 ∨ s.pepWindow ↑core = false ∨ s.coreServes ↑core = false ∨ 16 ≤ (s.pep.waiting (pepKey ↑core ↑unit)).length ∨ s.pep.left (pepKey ↑core ↑unit) < 2560000)) ∧
  (∃ (core : CoreId) (unit : Fin 76) (window : Nat) (tc : Nat) (s : State), (fun (pw : PowerSt) => decide (0 < s.fget F.PEP_CTL_SHARE 0 ∧ 256 ≤ window ∧ s.pepWindow ↑core = true ∧ s.coreState ↑core ≠ 3 ∧ s.coreServes ↑core = true ∧ 2560000 ≤ s.pep.left (pepKey ↑core ↑unit) ∧ (s.pep.waiting (pepKey ↑core ↑unit)).length < 16 ∧ pw.first (clusterOf ↑core) = none ∧ pw.holds (clusterOf ↑core) 8000 = true)) (s.power.refill (s.clockAt tc)) = true) ∧
  (∃ (core : CoreId) (unit : Fin 76) (s : State), Option.any (fun q => decide ((fun (m : Option ((Nat × Nat × Nat × Nat) × Nat × Nat × Nat × Nat)) => decide (m ≠ none)) (List.findSome? (fun a => Option.map (fun b => (a, b)) (List.find? (fun b => b.snd.fst == a.snd.fst) (s.pep.waiting (pepKey q ↑unit)))) (s.pep.waiting (pepKey ↑core ↑unit))) = true)) (s.partner ↑core) = true ∧ Option.any (fun q => decide ((fun (m : Option ((Nat × Nat × Nat × Nat) × Nat × Nat × Nat × Nat)) => decide ((match (m) with | some (a, b) => decide (a.snd.snd.fst = b.snd.snd.fst) | _ => false) = true)) (List.findSome? (fun a => Option.map (fun b => (a, b)) (List.find? (fun b => b.snd.fst == a.snd.fst) (s.pep.waiting (pepKey q ↑unit)))) (s.pep.waiting (pepKey ↑core ↑unit))) = true)) (s.partner ↑core) = true) ∧
  (∃ (core : CoreId) (unit : Fin 76) (s : State), Option.any (fun q => decide ((fun (m : Option ((Nat × Nat × Nat × Nat) × Nat × Nat × Nat × Nat)) => decide (m = none)) (List.findSome? (fun a => Option.map (fun b => (a, b)) (List.find? (fun b => b.snd.fst == a.snd.fst) (s.pep.waiting (pepKey q ↑unit)))) (s.pep.waiting (pepKey ↑core ↑unit))) = true)) (s.partner ↑core) = true) ∧
  (∃ (core : CoreId) (unit : Fin 76) (s : State), Option.any (fun q => decide ((fun (m : Option ((Nat × Nat × Nat × Nat) × Nat × Nat × Nat × Nat)) => decide ((match (m) with | some (a, b) => decide (a.snd.snd.fst ≠ b.snd.snd.fst) | _ => false) = true)) (List.findSome? (fun a => Option.map (fun b => (a, b)) (List.find? (fun b => b.snd.fst == a.snd.fst) (s.pep.waiting (pepKey q ↑unit)))) (s.pep.waiting (pepKey ↑core ↑unit))) = true)) (s.partner ↑core) = true) ∧
  (∃ (core : CoreId) (unit : Fin 76) (result : PepRun) (s : State), Option.any (fun d => decide (result.complete = true ∧ s.frame ≤ d.snd.snd.fst + 64 ∧ result.first = result.second ∧ result.second = result.referee)) (List.find? (fun d => d.fst == pepKey ↑core ↑unit) s.pep.diag) = true) ∧
  (∃ (core : CoreId) (unit : Fin 76) (result : PepRun) (s : State), Option.any (fun d => decide (result.complete = true ∧ s.frame ≤ d.snd.snd.fst + 64 ∧ result.referee = result.first ∧ result.first ≠ result.second)) (List.find? (fun d => d.fst == pepKey ↑core ↑unit) s.pep.diag) = true) ∧
  (∃ (core : CoreId) (unit : Fin 76) (result : PepRun) (s : State), Option.any (fun d => decide (result.complete = true ∧ s.frame ≤ d.snd.snd.fst + 64 ∧ result.referee = result.second ∧ result.first ≠ result.second)) (List.find? (fun d => d.fst == pepKey ↑core ↑unit) s.pep.diag) = true) ∧
  (∃ (core : CoreId) (unit : Fin 76) (result : PepRun) (s : State), Option.any (fun d => decide ((result.complete = false ∨ d.snd.snd.fst + 64 < s.frame ∨ result.referee ≠ result.first ∧ result.referee ≠ result.second) ∧ d.snd.snd.snd = 0)) (List.find? (fun d => d.fst == pepKey ↑core ↑unit) s.pep.diag) = true) ∧
  (∃ (core : CoreId) (unit : Fin 76) (result : PepRun) (s : State), Option.any (fun d => decide ((result.complete = false ∨ d.snd.snd.fst + 64 < s.frame ∨ result.referee ≠ result.first ∧ result.referee ≠ result.second) ∧ d.snd.snd.snd ≠ 0)) (List.find? (fun d => d.fst == pepKey ↑core ↑unit) s.pep.diag) = true) ∧
  (∃ (core : CoreId) (culprit : Bool) (s : State), culprit = true ∧ s.healthy ↑core = true ∧ s.logOf ↑core = none) ∧
  (∃ (core : CoreId) (culprit : Bool) (s : State), (culprit = false ∨ s.healthy ↑core = false ∨ (s.logOf ↑core).isSome = true)) ∧
  (∃ (k : Fin 17) (s : State), s.mbRuns (↑k) 771 = true) ∧
  (∃ (k : Fin 17) (s : State), s.mbRuns (↑k) 772 = true ∧ (s.flask (leAt (s.slot ↑k).args 0 1)).live = false) ∧
  (∃ (k : Fin 17) (s : State), s.mbRuns (↑k) 772 = true ∧ (s.flask (leAt (s.slot ↑k).args 0 1)).live = true ∧ (s.flask (leAt (s.slot ↑k).args 0 1)).active.present = false ∧ (s.flask (leAt (s.slot ↑k).args 0 1)).staged.present = false ∧ leAt (s.slot ↑k).args 1 1 = 1 ∧ (∀ (l : Nat), l ∈ (s.flask (leAt (s.slot ↑k).args 0 1)).cores → pairOf l ∈ (s.flask (leAt (s.slot ↑k).args 0 1)).cores ∧ (s.physOf (pairOf l)).isSome = true)) ∧
  (∃ (k : Fin 17) (s : State), s.mbRuns (↑k) 772 = true ∧ (s.flask (leAt (s.slot ↑k).args 0 1)).live = true ∧ (s.flask (leAt (s.slot ↑k).args 0 1)).active.present = false ∧ (s.flask (leAt (s.slot ↑k).args 0 1)).staged.present = false ∧ leAt (s.slot ↑k).args 1 1 = 1 ∧ (¬∀ (l : Nat), l ∈ (s.flask (leAt (s.slot ↑k).args 0 1)).cores → pairOf l ∈ (s.flask (leAt (s.slot ↑k).args 0 1)).cores ∧ (s.physOf (pairOf l)).isSome = true)) ∧
  (∃ (k : Fin 17) (s : State), s.mbRuns (↑k) 772 = true ∧ (s.flask (leAt (s.slot ↑k).args 0 1)).live = true ∧ (s.flask (leAt (s.slot ↑k).args 0 1)).active.present = false ∧ (s.flask (leAt (s.slot ↑k).args 0 1)).staged.present = false ∧ leAt (s.slot ↑k).args 1 1 ≠ 1) ∧
  (∃ (k : Fin 17) (s : State), s.mbRuns (↑k) 772 = true ∧ (s.flask (leAt (s.slot ↑k).args 0 1)).live = true ∧ ((s.flask (leAt (s.slot ↑k).args 0 1)).active.present = true ∨ (s.flask (leAt (s.slot ↑k).args 0 1)).staged.present = true)) ∧
  (∃ (primary : Nat) (shadow : Nat), primary % 2 ^ 64 = shadow % 2 ^ 64) ∧
  (∃ (core : CoreId) (primary : Nat) (shadow : Nat) (s : State), primary % 2 ^ 64 ≠ shadow % 2 ^ 64 ∧ Option.any (fun f => decide (((s.flask f).redundant = false ∨ s.flaskIn f 3 = false))) (s.flaskOf ↑core) = true) ∧
  (∃ (core : CoreId) (primary : Nat) (shadow : Nat) (s : State), primary % 2 ^ 64 ≠ shadow % 2 ^ 64 ∧ Option.any (fun f => decide ((s.flask f).redundant = true ∧ s.flaskIn f 3 = true)) (s.flaskOf ↑core) = true) :=
  ⟨⟨0, 0, 0, State.reset, by decide +kernel⟩,
  ⟨0, 0, 256, 0, st [.fld F.MOD_ROW_MAP_r_MAP 0 0xFEDCBA9876543210, .fld F.PEP_CTL_SHARE 0 1, .pep { State.reset.pep with grown := 2560000 }], by decide +kernel⟩,
  ⟨0, 0, st [.fld F.MOD_ROW_MAP_r_MAP 0 0xFEDCBA9876543210, .pep { State.reset.pep with hashes := [(0, 0, 5, 0), (76, 0, 5, 0)] }], by decide +kernel⟩,
  ⟨0, 0, st [.fld F.MOD_ROW_MAP_r_MAP 0 0xFEDCBA9876543210], by decide +kernel⟩,
  ⟨0, 0, st [.fld F.MOD_ROW_MAP_r_MAP 0 0xFEDCBA9876543210, .pep { State.reset.pep with hashes := [(0, 0, 5, 0), (76, 0, 6, 0)] }], by decide +kernel⟩,
  ⟨0, 0, { complete := true, first := 1, second := 1, referee := 1, column := none }, st [.pep { State.reset.pep with diag := [(0, 0, 0, 0)] }], by decide +kernel⟩,
  ⟨0, 0, { complete := true, first := 1, second := 2, referee := 1, column := none }, st [.pep { State.reset.pep with diag := [(0, 0, 0, 0)] }], by decide +kernel⟩,
  ⟨0, 0, { complete := true, first := 1, second := 2, referee := 2, column := none }, st [.pep { State.reset.pep with diag := [(0, 0, 0, 0)] }], by decide +kernel⟩,
  ⟨0, 0, { complete := true, first := 1, second := 2, referee := 3, column := none }, st [.pep { State.reset.pep with diag := [(0, 0, 0, 0)] }], by decide +kernel⟩,
  ⟨0, 0, { complete := true, first := 1, second := 2, referee := 3, column := none }, st [.pep { State.reset.pep with diag := [(0, 0, 0, 1)] }], by decide +kernel⟩,
  ⟨0, true, State.reset, by decide +kernel⟩,
  ⟨0, false, State.reset, by decide +kernel⟩,
  ⟨0, st [cmdIn 0 0x303 []], by decide +kernel⟩,
  ⟨0, st [cmdIn 0 0x304 []], by decide +kernel⟩,
  ⟨0, st [.flasks 0 { FlaskSt.none with live := true }, .slots 0 { MbSlot.none with cmd := 0x304, state := 2, args := [0, 1] }], by decide +kernel⟩,
  ⟨0, st [.flasks 0 { FlaskSt.none with live := true, cores := [0] }, .slots 0 { MbSlot.none with cmd := 0x304, state := 2, args := [0, 1] }], by decide +kernel⟩,
  ⟨0, st [.flasks 0 { FlaskSt.none with live := true }, .slots 0 { MbSlot.none with cmd := 0x304, state := 2, args := [0, 1] }, cmdIn 0 0x304 [0, 0]], by decide +kernel⟩,
  ⟨0, st [.fld F.MOD_ROW_MAP_r_MAP 0 0xFEDCBA9876543210, .flasks 0 { FlaskSt.none with live := true, cores := [0], gib := 1, active := { MouldSt.none with present := true, cores := [0] } }, .fld F.CORE_STAT_STATE 0 2, .slots 0 { MbSlot.none with cmd := 0x304, state := 2, args := [0, 0, 0, 0, 0, 0, 0, 0, 0, 0, 0, 0, 0, 0, 0, 0] }], by decide +kernel⟩,
  ⟨0, 0, by decide +kernel⟩,
  ⟨0, 1, 2, st [.fld F.MOD_ROW_MAP_r_MAP 0 0xFEDCBA9876543210, .cores 0 { CoreSt.init with owner := some (0, 1) }, .flasks 0 { FlaskSt.none with live := true, cores := [0], gib := 1, active := { MouldSt.none with present := true, cores := [0], sections := [] }, redundant := true }, .fld F.CORE_STAT_STATE 0 0], by decide +kernel⟩,
  ⟨0, 1, 2, st [.fld F.MOD_ROW_MAP_r_MAP 0 0xFEDCBA9876543210, .cores 0 { CoreSt.init with owner := some (0, 1) }, .flasks 0 { FlaskSt.none with live := true, cores := [0], gib := 1, active := { MouldSt.none with present := true, cores := [0], sections := [] }, redundant := true }, .fld F.CORE_STAT_STATE 0 3], by decide +kernel⟩⟩

theorem witness_PepperCommandsAct_2 :
  (∃ (core : CoreId) (s : State), Option.any (fun f => decide (((s.flask f).redundant = false ∨ s.flaskIn f 3 = false))) (s.flaskOf ↑core) = true) ∧
  (∃ (core : CoreId) (s : State), Option.any (fun f => decide ((s.flask f).redundant = true ∧ s.flaskIn f 3 = true)) (s.flaskOf ↑core) = true) :=
  ⟨⟨0, st [.fld F.MOD_ROW_MAP_r_MAP 0 0xFEDCBA9876543210, .cores 0 { CoreSt.init with owner := some (0, 1) }, .flasks 0 { FlaskSt.none with live := true, cores := [0], gib := 1, active := { MouldSt.none with present := true, cores := [0], sections := [] }, redundant := true }, .fld F.CORE_STAT_STATE 0 0], by decide +kernel⟩,
  ⟨0, st [.fld F.MOD_ROW_MAP_r_MAP 0 0xFEDCBA9876543210, .cores 0 { CoreSt.init with owner := some (0, 1) }, .flasks 0 { FlaskSt.none with live := true, cores := [0], gib := 1, active := { MouldSt.none with present := true, cores := [0], sections := [] }, redundant := true }, .fld F.CORE_STAT_STATE 0 3], by decide +kernel⟩⟩

theorem witness_ScanCommandsAct :
  (∃ (k : Fin 17) (s : State), s.mbRuns (↑k) 266 = true ∧ (s.flaskIn (leAt (s.slot ↑k).args 0 1) 4 = false ∨ (s.flask (leAt (s.slot ↑k).args 0 1)).active.present = false)) ∧
  (∃ (k : Fin 17) (s : State), s.mbRuns (↑k) 266 = true ∧ s.flaskIn (leAt (s.slot ↑k).args 0 1) 4 = true ∧ (s.flask (leAt (s.slot ↑k).args 0 1)).active.present = true ∧ s.rangeOk (leAt (s.slot ↑k).args 0 1) (leAt (s.slot ↑k).args 8 8) (leAt (s.slot ↑k).args 16 8) = true ∧ s.sealAllows (leAt (s.slot ↑k).args 0 1) (leAt (s.slot ↑k).args 8 8) (leAt (s.slot ↑k).args 16 8) = true ∧ s.scanLen (leAt (s.slot ↑k).args 0 1) (bitOf (leAt (s.slot ↑k).args 1 1) 0) ≤ leAt (s.slot ↑k).args 16 8) ∧
  (∃ (k : Fin 17) (s : State), s.mbRuns (↑k) 266 = true ∧ s.flaskIn (leAt (s.slot ↑k).args 0 1) 4 = true ∧ (s.flask (leAt (s.slot ↑k).args 0 1)).active.present = true ∧ s.rangeOk (leAt (s.slot ↑k).args 0 1) (leAt (s.slot ↑k).args 8 8) (leAt (s.slot ↑k).args 16 8) = false) ∧
  (∃ (k : Fin 17) (s : State), s.mbRuns (↑k) 266 = true ∧ s.flaskIn (leAt (s.slot ↑k).args 0 1) 4 = true ∧ (s.flask (leAt (s.slot ↑k).args 0 1)).active.present = true ∧ s.rangeOk (leAt (s.slot ↑k).args 0 1) (leAt (s.slot ↑k).args 8 8) (leAt (s.slot ↑k).args 16 8) = true ∧ s.sealAllows (leAt (s.slot ↑k).args 0 1) (leAt (s.slot ↑k).args 8 8) (leAt (s.slot ↑k).args 16 8) = true ∧ leAt (s.slot ↑k).args 16 8 < s.scanLen (leAt (s.slot ↑k).args 0 1) (bitOf (leAt (s.slot ↑k).args 1 1) 0)) ∧
  (∃ (k : Fin 17) (s : State), s.mbRuns (↑k) 266 = true ∧ s.flaskIn (leAt (s.slot ↑k).args 0 1) 4 = true ∧ (s.flask (leAt (s.slot ↑k).args 0 1)).active.present = true ∧ s.rangeOk (leAt (s.slot ↑k).args 0 1) (leAt (s.slot ↑k).args 8 8) (leAt (s.slot ↑k).args 16 8) = true ∧ s.sealAllows (leAt (s.slot ↑k).args 0 1) (leAt (s.slot ↑k).args 8 8) (leAt (s.slot ↑k).args 16 8) = false) ∧
  (∃ (k : Fin 17) (s : State), s.mbRuns (↑k) 773 = true ∧ (s.flaskIn (leAt (s.slot ↑k).args 0 1) 4 = false ∨ (s.flask (leAt (s.slot ↑k).args 0 1)).active.present = false)) ∧
  (∃ (k : Fin 17) (s : State), s.mbRuns (↑k) 773 = true ∧ s.flaskIn (leAt (s.slot ↑k).args 0 1) 4 = true ∧ (s.flask (leAt (s.slot ↑k).args 0 1)).active.present = true ∧ (s.flask (leAt (s.slot ↑k).args 0 1)).draining = true ∧ (s.flask (leAt (s.slot ↑k).args 0 1)).drained = false) ∧
  (∃ (k : Fin 17) (s : State), s.mbRuns (↑k) 773 = true ∧ s.flaskIn (leAt (s.slot ↑k).args 0 1) 4 = true ∧ (s.flask (leAt (s.slot ↑k).args 0 1)).active.present = true ∧ ((s.flask (leAt (s.slot ↑k).args 0 1)).draining = false ∨ (s.flask (leAt (s.slot ↑k).args 0 1)).drained = true) ∧ s.rangeOk (leAt (s.slot ↑k).args 0 1) (leAt (s.slot ↑k).args 8 8) (leAt (s.slot ↑k).args 16 8) = true ∧ s.sealAllows (leAt (s.slot ↑k).args 0 1) (leAt (s.slot ↑k).args 8 8) (leAt (s.slot ↑k).args 16 8) = true ∧ s.scanLen (leAt (s.slot ↑k).args 0 1) true ≤ leAt (s.slot ↑k).args 16 8) ∧
  (∃ (k : Fin 17) (s : State), s.mbRuns (↑k) 773 = true ∧ s.flaskIn (leAt (s.slot ↑k).args 0 1) 4 = true ∧ (s.flask (leAt (s.slot ↑k).args 0 1)).active.present = true ∧ ((s.flask (leAt (s.slot ↑k).args 0 1)).draining = false ∨ (s.flask (leAt (s.slot ↑k).args 0 1)).drained = true) ∧ s.rangeOk (leAt (s.slot ↑k).args 0 1) (leAt (s.slot ↑k).args 8 8) (leAt (s.slot ↑k).args 16 8) = false) ∧
  (∃ (k : Fin 17) (s : State), s.mbRuns (↑k) 773 = true ∧ s.flaskIn (leAt (s.slot ↑k).args 0 1) 4 = true ∧ (s.flask (leAt (s.slot ↑k).args 0 1)).active.present = true ∧ ((s.flask (leAt (s.slot ↑k).args 0 1)).draining = false ∨ (s.flask (leAt (s.slot ↑k).args 0 1)).drained = true) ∧ s.rangeOk (leAt (s.slot ↑k).args 0 1) (leAt (s.slot ↑k).args 8 8) (leAt (s.slot ↑k).args 16 8) = true ∧ s.sealAllows (leAt (s.slot ↑k).args 0 1) (leAt (s.slot ↑k).args 8 8) (leAt (s.slot ↑k).args 16 8) = true ∧ leAt (s.slot ↑k).args 16 8 < s.scanLen (leAt (s.slot ↑k).args 0 1) true) ∧
  (∃ (k : Fin 17) (s : State), s.mbRuns (↑k) 773 = true ∧ s.flaskIn (leAt (s.slot ↑k).args 0 1) 4 = true ∧ (s.flask (leAt (s.slot ↑k).args 0 1)).active.present = true ∧ ((s.flask (leAt (s.slot ↑k).args 0 1)).draining = false ∨ (s.flask (leAt (s.slot ↑k).args 0 1)).drained = true) ∧ s.rangeOk (leAt (s.slot ↑k).args 0 1) (leAt (s.slot ↑k).args 8 8) (leAt (s.slot ↑k).args 16 8) = true ∧ s.sealAllows (leAt (s.slot ↑k).args 0 1) (leAt (s.slot ↑k).args 8 8) (leAt (s.slot ↑k).args 16 8) = false) ∧
  (∃ (k : Fin 17) (s : State), s.mbRuns (↑k) 267 = true ∧ (fun (b : List Byte) => decide (s.rangeOk (leAt (s.slot ↑k).args 0 1) (leAt (s.slot ↑k).args 8 8) (leAt (s.slot ↑k).args 16 8) = true ∧ s.sealAllows (leAt (s.slot ↑k).args 0 1) (leAt (s.slot ↑k).args 8 8) (leAt (s.slot ↑k).args 16 8) = true ∧ (leAt b 0 4 ≠ 1312899923 ∨ leAt b 4 2 ≠ 1))) (List.take (leAt (s.devRd (leAt (s.slot ↑k).args 8 8) (min (leAt (s.slot ↑k).args 16 8) 64)) 56 8) (s.devRd (leAt (s.slot ↑k).args 8 8) (leAt (s.slot ↑k).args 16 8))) = true) ∧
  (∃ (k : Fin 17) (s : State), s.mbRuns (↑k) 267 = true ∧ s.rangeOk (leAt (s.slot ↑k).args 0 1) (leAt (s.slot ↑k).args 8 8) (leAt (s.slot ↑k).args 16 8) = false) ∧
  (∃ (k : Fin 17) (s : State), s.mbRuns (↑k) 267 = true ∧ (fun (b : List Byte) => decide (s.rangeOk (leAt (s.slot ↑k).args 0 1) (leAt (s.slot ↑k).args 8 8) (leAt (s.slot ↑k).args 16 8) = true ∧ s.sealAllows (leAt (s.slot ↑k).args 0 1) (leAt (s.slot ↑k).args 8 8) (leAt (s.slot ↑k).args 16 8) = true ∧ leAt b 0 4 = 1312899923 ∧ leAt b 4 2 = 1 ∧ scanCrcOk b = false)) (List.take (leAt (s.devRd (leAt (s.slot ↑k).args 8 8) (min (leAt (s.slot ↑k).args 16 8) 64)) 56 8) (s.devRd (leAt (s.slot ↑k).args 8 8) (leAt (s.slot ↑k).args 16 8))) = true) ∧
  (∃ (k : Fin 17) (s : State), s.mbRuns (↑k) 267 = true ∧ s.rangeOk (leAt (s.slot ↑k).args 0 1) (leAt (s.slot ↑k).args 8 8) (leAt (s.slot ↑k).args 16 8) = true ∧ s.sealAllows (leAt (s.slot ↑k).args 0 1) (leAt (s.slot ↑k).args 8 8) (leAt (s.slot ↑k).args 16 8) = false) :=
  ⟨⟨0, st [cmdIn 0 0x10A []], by decide +kernel⟩,
  ⟨0, st [.fld F.MOD_ROW_MAP_r_MAP 0 0xFEDCBA9876543210, .flasks 0 { FlaskSt.none with live := true, cores := [0], gib := 1, active := { MouldSt.none with present := true, cores := [0] } }, .fld F.CORE_STAT_STATE 0 4, .slots 0 { MbSlot.none with cmd := 0x10A, state := 2, args := (List.replicate 19 0 ++ [1, 0, 0, 0, 0]) }], by decide +kernel⟩,
  ⟨0, st [.fld F.MOD_ROW_MAP_r_MAP 0 0xFEDCBA9876543210, .flasks 0 { FlaskSt.none with live := true, cores := [0], gib := 1, active := { MouldSt.none with present := true, cores := [0] } }, .fld F.CORE_STAT_STATE 0 4, .slots 0 { MbSlot.none with cmd := 0x10A, state := 2, args := (List.replicate 8 0 ++ [1, 0, 0, 0, 0, 0, 0, 0, 64, 0, 0, 0, 0, 0, 0, 0]) }], by decide +kernel⟩,
  ⟨0, st [.fld F.MOD_ROW_MAP_r_MAP 0 0xFEDCBA9876543210, .flasks 0 { FlaskSt.none with live := true, cores := [0], gib := 1, active := { MouldSt.none with present := true, cores := [0] } }, .fld F.CORE_STAT_STATE 0 4, .slots 0 { MbSlot.none with cmd := 0x10A, state := 2, args := (List.replicate 16 0 ++ [64, 0, 0, 0, 0, 0, 0, 0]) }], by decide +kernel⟩,
  ⟨0, st [.fld F.MOD_ROW_MAP_r_MAP 0 0xFEDCBA9876543210, .flasks 0 { FlaskSt.none with live := true, cores := [0], gib := 1, active := { MouldSt.none with present := true, cores := [0] }, isSealed := true }, .fld F.CORE_STAT_STATE 0 4, .slots 0 { MbSlot.none with cmd := 0x10A, state := 2, args := (List.replicate 11 0 ++ [64, 0, 0, 0, 0, 64, 0, 0, 0, 0, 0, 0, 0]) }], by decide +kernel⟩,
  ⟨0, st [cmdIn 0 0x305 []], by decide +kernel⟩,
  ⟨0, st [.fld F.MOD_ROW_MAP_r_MAP 0 0xFEDCBA9876543210, .flasks 0 { FlaskSt.none with live := true, cores := [0], gib := 1, active := { MouldSt.none with present := true, cores := [0] }, draining := true }, .fld F.CORE_STAT_STATE 0 4, .slots 0 { MbSlot.none with cmd := 0x305, state := 2, args := (List.replicate 16 0 ++ [64, 0, 0, 0, 0, 0, 0, 0]) }], by decide +kernel⟩,
  ⟨0, st [.fld F.MOD_ROW_MAP_r_MAP 0 0xFEDCBA9876543210, .flasks 0 { FlaskSt.none with live := true, cores := [0], gib := 1, active := { MouldSt.none with present := true, cores := [0] }, draining := true, drained := true }, .fld F.CORE_STAT_STATE 0 4, .slots 0 { MbSlot.none with cmd := 0x305, state := 2, args := (List.replicate 19 0 ++ [1, 0, 0, 0, 0]) }], by decide +kernel⟩,
  ⟨0, st [.fld F.MOD_ROW_MAP_r_MAP 0 0xFEDCBA9876543210, .flasks 0 { FlaskSt.none with live := true, cores := [0], gib := 1, active := { MouldSt.none with present := true, cores := [0] }, draining := true, drained := true }, .fld F.CORE_STAT_STATE 0 4, .slots 0 { MbSlot.none with cmd := 0x305, state := 2, args := (List.replicate 8 0 ++ [1, 0, 0, 0, 0, 0, 0, 0, 64, 0, 0, 0, 0, 0, 0, 0]) }], by decide +kernel⟩,
  ⟨0, st [.fld F.MOD_ROW_MAP_r_MAP 0 0xFEDCBA9876543210, .flasks 0 { FlaskSt.none with live := true, cores := [0], gib := 1, active := { MouldSt.none with present := true, cores := [0] }, draining := true, drained := true }, .fld F.CORE_STAT_STATE 0 4, .slots 0 { MbSlot.none with cmd := 0x305, state := 2, args := (List.replicate 16 0 ++ [64, 0, 0, 0, 0, 0, 0, 0]) }], by decide +kernel⟩,
  ⟨0, st [.fld F.MOD_ROW_MAP_r_MAP 0 0xFEDCBA9876543210, .flasks 0 { FlaskSt.none with live := true, cores := [0], gib := 1, active := { MouldSt.none with present := true, cores := [0] }, draining := true, drained := true, isSealed := true }, .fld F.CORE_STAT_STATE 0 4, .slots 0 { MbSlot.none with cmd := 0x305, state := 2, args := (List.replicate 11 0 ++ [64, 0, 0, 0, 0, 64, 0, 0, 0, 0, 0, 0, 0]) }], by decide +kernel⟩,
  ⟨0, st [cmdIn 0 0x10B []], by decide +kernel⟩,
  ⟨0, st [.slots 0 { MbSlot.none with cmd := 0x10B, state := 2, args := (List.replicate 8 0 ++ [1, 0, 0, 0, 0, 0, 0, 0, 64, 0, 0, 0, 0, 0, 0, 0]) }], by decide +kernel⟩,
  ⟨0, st [.dramWritten 0 true, .dram 0 ([83, 67, 65, 78, 1] ++ List.replicate 51 0 ++ [64, 0, 0, 0, 0, 0, 0, 0]), .slots 0 { MbSlot.none with cmd := 0x10B, state := 2, args := (List.replicate 16 0 ++ [64, 0, 0, 0, 0, 0, 0, 0]) }], by decide +kernel⟩,
  ⟨0, st [.fld F.MOD_ROW_MAP_r_MAP 0 0xFEDCBA9876543210, .flasks 0 { FlaskSt.none with live := true, cores := [0], gib := 1, active := { MouldSt.none with present := true, cores := [0] }, isSealed := true }, .fld F.CORE_STAT_STATE 0 2, .slots 0 { MbSlot.none with cmd := 0x10B, state := 2, args := (List.replicate 11 0 ++ [64, 0, 0, 0, 0, 64, 0, 0, 0, 0, 0, 0, 0]) }], by decide +kernel⟩⟩

theorem witness_PowerDeliveryCommandsAct :
  (∃ (mv : Int) (s : State) (c : Nat), -1000 ≤ mv ∧ mv ≤ 65000 ∧ s.power.fault = false ∧ (mv < 36000 ∨ 62000 < mv) ∧ c < 20) ∧
  (∃ (mv : Int), -1000 ≤ mv ∧ mv ≤ 65000 ∧ 40000 ≤ mv ∧ mv ≤ 62000) ∧
  (∃ (tile : Fin 256) (cause : TileCause) (s : State), s.fget F.PWR_TILE_t_STATE ↑tile ≠ 0 ∧ s.fget F.PWR_TILE_t_STATE ↑tile ≠ 3 ∧ cause = TileCause.wear) ∧
  (∃ (tile : Fin 256) (cause : TileCause) (s : State), s.fget F.PWR_TILE_t_STATE ↑tile ≠ 0 ∧ s.fget F.PWR_TILE_t_STATE ↑tile ≠ 3 ∧ cause = TileCause.overcurrent) ∧
  (∃ (tile : Fin 256) (cause : TileCause) (s : State), s.fget F.PWR_TILE_t_STATE ↑tile ≠ 0 ∧ s.fget F.PWR_TILE_t_STATE ↑tile ≠ 3 ∧ cause = TileCause.overtemperature) ∧
  (∃ (tile : Fin 256) (ok : Bool) (s : State), Option.any (fun e => decide (s.fget F.PWR_TILE_t_STATE ↑tile = 4 ∧ ok = true)) (List.find? (fun e => e.fst == ↑tile) s.power.replacing) = true) ∧
  (∃ (tile : Fin 256) (ok : Bool) (s : State), Option.any (fun e => decide (s.fget F.PWR_TILE_t_STATE ↑tile = 4 ∧ ok = false)) (List.find? (fun e => e.fst == ↑tile) s.power.replacing) = true) ∧
  (∃ (mv : Nat) (s : State), mv % 65536 < pstepMv s.pstep - 70) ∧
  (∃ (mv : Nat) (s : State), pstepMv s.pstep - 70 ≤ mv % 65536) ∧
  (∃ (cluster : ClusterId) (amps : Nat) (tc : Nat) (s : State), (fun (p : PowerSt) => decide (List.find? (fun w => w.fst == ↑cluster && w.snd.fst == amps * 1000) p.waiting = none ∧ p.first ↑cluster = none ∧ p.holds (↑cluster) (amps * 1000) = true)) (s.power.refill (s.clockAt tc)) = true) ∧
  (∃ (cluster : ClusterId) (amps : Nat) (tc : Nat) (s : State), (fun (p : PowerSt) => decide (List.find? (fun w => w.fst == ↑cluster && w.snd.fst == amps * 1000) p.waiting = none ∧ (p.first ↑cluster ≠ none ∨ p.holds (↑cluster) (amps * 1000) = false))) (s.power.refill (s.clockAt tc)) = true) ∧
  (∃ (cluster : ClusterId) (amps : Nat) (tc : Nat) (s : State), (fun (p : PowerSt) => decide (Option.any (fun w => decide (p.first ↑cluster = some w ∧ p.holds (↑cluster) (amps * 1000) = true)) (List.find? (fun w => w.fst == ↑cluster && w.snd.fst == amps * 1000) p.waiting) = true)) (s.power.refill (s.clockAt tc)) = true) ∧
  (∃ (cluster : ClusterId) (amps : Nat) (tc : Nat) (s : State), (fun (p : PowerSt) => decide (Option.any (fun w => decide ((p.first ↑cluster ≠ some w ∨ p.holds (↑cluster) (amps * 1000) = false))) (List.find? (fun w => w.fst == ↑cluster && w.snd.fst == amps * 1000) p.waiting) = true)) (s.power.refill (s.clockAt tc)) = true) :=
  ⟨⟨0, State.reset, 0, by decide +kernel⟩,
  ⟨40000, by decide +kernel⟩,
  ⟨0, .wear, st [.fld F.PWR_TILE_t_STATE 0 1], by decide +kernel⟩,
  ⟨0, .overcurrent, st [.fld F.PWR_TILE_t_STATE 0 1], by decide +kernel⟩,
  ⟨0, .overtemperature, st [.fld F.PWR_TILE_t_STATE 0 1], by decide +kernel⟩,
  ⟨0, true, st [.fld F.PWR_TILE_t_STATE 0 4, .power { State.reset.power with replacing := [(0, (1, 1, none))] }], by decide +kernel⟩,
  ⟨0, false, st [.fld F.PWR_TILE_t_STATE 0 4, .power { State.reset.power with replacing := [(0, (1, 1, none))] }], by decide +kernel⟩,
  ⟨0, State.reset, by decide +kernel⟩,
  ⟨772, State.reset, by decide +kernel⟩,
  ⟨0, 0, 0, State.reset, by decide +kernel⟩,
  ⟨0, 1, 0, st [.power { State.reset.power with waiting := [(0, 5000, 0)] }], by decide +kernel⟩,
  ⟨0, 1, 0, st [.power { State.reset.power with waiting := [(0, 1000, 0)] }], by decide +kernel⟩,
  ⟨0, 1, 0, st [.power { State.reset.power with waiting := [(0, 5000, 0), (0, 1000, 0)] }], by decide +kernel⟩⟩

theorem witness_PowerCappingCommandsAct :
  (∃ (s : State), (s.isMaster && s.gclk.running && s.frame % 8 == 0 && !s.flag F.CLK_ARM_VALID 0) = true) ∧
  (∃ (tc : Nat) (s : State), s.tc = s.clockAt tc ∧ s.heldWindow = true) ∧
  (∃ (tc : Nat) (s : State), s.tc = s.clockAt tc ∧ s.heldWindow = false ∧ 1 ≤ s.fget F.CLK_PSTEP_BUBBLES 0) ∧
  (∃ (tc : Nat) (s : State) (n : Nat), s.tc = s.clockAt tc ∧ s.heldWindow = false ∧ n < 4 ∧ s.temperHeld n = false) ∧
  (∃ (s : State), s.isMaster = false) ∧
  (∃ (s : State), (s.pour.children.any fun p => (s.childTelem p).snd) = true) ∧
  (∃ (s : State) (k : Nat), k < 17 ∧ s.mbRuns k 1026 = true) ∧
  (∃ (port : PortId) (bytes : List Byte) (s : State) (w : Nat), List.elem (↑port) s.pour.children = true ∧ (Telem.parse bytes = none ∨ s.power.record = none) ∧ w < 8) ∧
  (∃ (port : PortId) (bytes : List Byte) (s : State), List.elem (↑port) s.pour.children = true ∧ Option.any (fun r => decide (Option.any (fun o => decide ((o.seq + 65536 - r.seq) % 65536 < 32768)) (s.power.record) = true)) (Telem.parse bytes) = true) ∧
  (∃ (port : PortId) (bytes : List Byte) (s : State) (w : Nat), List.elem (↑port) s.pour.children = true ∧ Option.any (fun r => decide (Option.any (fun o => decide (32768 ≤ (o.seq + 65536 - r.seq) % 65536 ∧ w < 8)) (s.power.record) = true)) (Telem.parse bytes) = true) ∧
  (∃ (readings : List (Nat × Nat)) (s : State), (fun (x : Nat × Nat) => decide (105 ≤ x.snd)) (hottest (List.filter (fun x => decide (x.fst < 180) && decide (x.snd < 256)) readings)) = true ∧ (fun (x : Nat × Nat) => decide (115 ≤ x.snd ∧ s.fget F.PWR_THERM_TRIPPED 0 = 0)) (hottest (List.filter (fun x => decide (x.fst < 180) && decide (x.snd < 256)) readings)) = true) ∧
  (∃ (readings : List (Nat × Nat)), (fun (x : Nat × Nat) => decide (x.snd < 105)) (hottest (List.filter (fun x => decide (x.fst < 180) && decide (x.snd < 256)) readings)) = true) ∧
  (∃ (f : Nat), f < 16) ∧
  (∃ (k : Fin 17) (fail : List Nat) (s : State), s.mbRuns (↑k) 1025 = true ∧ s.dec.request = none ∧ s.dec.carried = none ∧ s.isMaster = true ∧ bandOf (leAt (s.slot ↑k).args 0 1) ≠ bandOf s.pstep ∧ s.pourTag = 0 ∧ s.running = [] ∧ fail = []) ∧
  (∃ (k : Fin 17) (s : State), s.mbRuns (↑k) 1025 = true ∧ s.dec.request = none ∧ s.dec.carried = none ∧ s.isMaster = true ∧ bandOf (leAt (s.slot ↑k).args 0 1) = bandOf s.pstep) ∧
  (∃ (k : Fin 17) (s : State), s.mbRuns (↑k) 1025 = true ∧ s.dec.request = none ∧ s.dec.carried = none ∧ s.isMaster = false) ∧
  (∃ (k : Fin 17) (s : State) (p : Nat), s.mbRuns (↑k) 1025 = true ∧ s.dec.request = some (↑k, p)) ∧
  (∃ (k : Fin 17) (s : State), s.mbRuns (↑k) 1025 = true ∧ (match (s.dec.request) with | some (j, p) => decide (j ≠ ↑k ∧ s.isMaster = true) | _ => false) = true) ∧
  (∃ (k : Fin 17) (s : State), s.mbRuns (↑k) 1025 = true ∧ s.dec.request = none ∧ s.dec.carried = none ∧ s.isMaster = true ∧ bandOf (leAt (s.slot ↑k).args 0 1) ≠ bandOf s.pstep ∧ (if s.pourTag = 0 then s.running ≠ [] else s.pourRuns = true)) ∧
  (∃ (k : Fin 17) (s : State), s.mbRuns (↑k) 1026 = true) ∧
  (∃ (k : Fin 17) (s : State), s.mbRuns (↑k) 1028 = true ∧ (↑k = 16 ∨ bitOf (s.fget F.SAF_SLOT_ROLE_TENANT 0) ↑k = false)) ∧
  (∃ (k : Fin 17) (s : State), s.mbRuns (↑k) 1028 = true ∧ ↑k < 16 ∧ bitOf (s.fget F.SAF_SLOT_ROLE_TENANT 0) ↑k = true) :=
  ⟨⟨st [.gclk { State.reset.gclk with running := true }], by decide +kernel⟩,
  ⟨0, st [.fld F.DBG_HOLD_HELD 0 1], by decide +kernel⟩,
  ⟨0, st [.fld F.CLK_PSTEP_BUBBLES 0 1], by decide +kernel⟩,
  ⟨0, st [.fld F.MOD_ROW_MAP_r_MAP 0 0xFEDCBA9876543210, .cores 0 { CoreSt.init with owner := some (0, 1) }, .flasks 0 { FlaskSt.none with live := true, cores := [0], gib := 1, active := { MouldSt.none with present := true, cores := [0], sections := [] } }, .fld F.CORE_STAT_STATE 0 3], 0, by decide +kernel⟩,
  ⟨st [.fld F.MOD_POUR_ID_POUR_TAG 0 1], by decide +kernel⟩,
  ⟨st [.pour { State.reset.pour with children := [0] }], by decide +kernel⟩,
  ⟨st [.slots 0 { MbSlot.none with cmd := 0x402, state := 2, args := [] }], 0, by decide +kernel⟩,
  ⟨0, [1], st [.pour { State.reset.pour with children := [0] }], 0, by decide +kernel⟩,
  ⟨0, (natLe 2 5 ++ List.replicate 58 0 ++ natLe 4 1399664953), st [.pour { State.reset.pour with children := [0] }, .power { State.reset.power with record := some { seq := 5, flags := 0, modules := 0, req := [0, 0, 0, 0], tj := 0, thbm := 0, worst := 0, power := 0 } }], by decide +kernel⟩,
  ⟨0, (natLe 2 6 ++ List.replicate 58 0 ++ natLe 4 3613959401), st [.pour { State.reset.pour with children := [0] }, .power { State.reset.power with record := some { seq := 5, flags := 0, modules := 0, req := [0, 0, 0, 0], tj := 0, thbm := 0, worst := 0, power := 0 } }], 0, by decide +kernel⟩,
  ⟨[(0, 115)], State.reset, by decide +kernel⟩,
  ⟨[], by decide +kernel⟩,
  ⟨0, by decide +kernel⟩,
  ⟨0, [], st [cmdIn 0 0x401 []], by decide +kernel⟩,
  ⟨0, st [.slots 0 { MbSlot.none with cmd := 0x401, state := 2, args := [12] }], by decide +kernel⟩,
  ⟨0, st [.fld F.MOD_POUR_ID_POUR_TAG 0 1, .slots 0 { MbSlot.none with cmd := 0x401, state := 2, args := [0, 0, 0, 0, 0, 0, 0, 0, 0, 0, 0, 0, 0, 0, 0, 0] }], by decide +kernel⟩,
  ⟨0, st [.dec { State.reset.dec with request := some (0, 3) }, .slots 0 { MbSlot.none with cmd := 0x401, state := 2, args := [0, 0, 0, 0, 0, 0, 0, 0, 0, 0, 0, 0, 0, 0, 0, 0] }], 3, by decide +kernel⟩,
  ⟨0, st [.dec { State.reset.dec with request := some (1, 3) }, .slots 0 { MbSlot.none with cmd := 0x401, state := 2, args := [0, 0, 0, 0, 0, 0, 0, 0, 0, 0, 0, 0, 0, 0, 0, 0] }], by decide +kernel⟩,
  ⟨0, st [.fld F.MOD_ROW_MAP_r_MAP 0 0xFEDCBA9876543210, .cores 0 { CoreSt.init with owner := some (0, 1) }, .flasks 0 { FlaskSt.none with live := true, cores := [0], gib := 1, active := { MouldSt.none with present := true, cores := [0], sections := [] } }, .fld F.CORE_STAT_STATE 0 3, .slots 0 { MbSlot.none with cmd := 0x401, state := 2, args := [0, 0, 0, 0, 0, 0, 0, 0, 0, 0, 0, 0, 0, 0, 0, 0] }], by decide +kernel⟩,
  ⟨0, st [cmdIn 0 0x402 []], by decide +kernel⟩,
  ⟨0, st [cmdIn 0 0x404 []], by decide +kernel⟩,
  ⟨0, st [.fld F.SAF_SLOT_ROLE_TENANT 0 1, .slots 0 { MbSlot.none with cmd := 0x404, state := 2, args := [0, 0, 0, 0, 0, 0, 0, 0, 0, 0, 0, 0, 0, 0, 0, 0] }], by decide +kernel⟩⟩

theorem witness_PowerStateCommandsAct :
  (∃ (k : Fin 17) (s : State), s.mbRuns (↑k) 1027 = true ∧ ((s.slot ↑k).phase ≠ 0 ∨ s.phase ≠ 0)) ∧
  (∃ (k : Fin 17) (s : State), s.mbRuns (↑k) 1027 = true ∧ (s.slot ↑k).phase = 0 ∧ s.phase = 0 ∧ 4 < leAt (s.slot ↑k).args 0 1) ∧
  (∃ (k : Fin 17) (s : State), s.mbRuns (↑k) 1027 = true ∧ (s.slot ↑k).phase = 0 ∧ s.phase = 0 ∧ leAt (s.slot ↑k).args 0 1 ≤ 4 ∧ leAt (s.slot ↑k).args 0 1 = s.pstate) ∧
  (∃ (k : Fin 17) (s : State), s.mbRuns (↑k) 1027 = true ∧ (s.slot ↑k).phase = 0 ∧ s.phase = 0 ∧ leAt (s.slot ↑k).args 0 1 ≤ 4 ∧ s.pstate < leAt (s.slot ↑k).args 0 1 ∧ s.entryRefused (leAt (s.slot ↑k).args 0 1) = false ∧ s.latches = 0 ∧ leAt (s.slot ↑k).args 0 1 = 4) ∧
  (∃ (k : Fin 17) (s : State), s.mbRuns (↑k) 1027 = true ∧ (s.slot ↑k).phase = 0 ∧ s.phase = 0 ∧ leAt (s.slot ↑k).args 0 1 ≤ 4 ∧ s.pstate < leAt (s.slot ↑k).args 0 1 ∧ s.entryRefused (leAt (s.slot ↑k).args 0 1) = false ∧ s.latches ≠ 0) ∧
  (∃ (k : Fin 17) (s : State), s.mbRuns (↑k) 1027 = true ∧ (s.slot ↑k).phase = 0 ∧ s.phase = 0 ∧ leAt (s.slot ↑k).args 0 1 ≤ 4 ∧ leAt (s.slot ↑k).args 0 1 < s.pstate ∧ leAt (s.slot ↑k).args 0 1 ≤ 1) ∧
  (∃ (k : Fin 17) (s : State), s.mbRuns (↑k) 1027 = true ∧ (s.slot ↑k).phase = 0 ∧ s.phase = 0 ∧ leAt (s.slot ↑k).args 0 1 ≤ 4 ∧ leAt (s.slot ↑k).args 0 1 < s.pstate ∧ 1 < leAt (s.slot ↑k).args 0 1) ∧
  (∃ (k : Fin 17) (s : State), s.mbRuns (↑k) 1027 = true ∧ (s.slot ↑k).phase = 0 ∧ s.phase = 0 ∧ leAt (s.slot ↑k).args 0 1 ≤ 4 ∧ s.pstate < leAt (s.slot ↑k).args 0 1 ∧ s.entryRefused (leAt (s.slot ↑k).args 0 1) = true) ∧
  (∃ (tc : Nat) (s : State), (s.phase == 1 && (decide (s.fget F.PST_STAT_TARGET 0 < 2) || (List.range 160).all fun p => s.domain p == 0 || s.domain p == 6)) = true ∧ (nextOf (exec (Instr.pstateEntryComplete tc) s)).latches = 0) ∧
  (∃ (s : State), (s.phase == 2 && decide (1 ≤ s.pstate) && decide (s.pstate ≤ 3) && (decide (s.pstate < 2) || (List.filter s.coreServes (List.range 160)).all fun p => s.domain p == 3)) = true) ∧
  (∃ (s : State), s.phase = 2) ∧
  (∃ (s : State), bitOf (s.fget F.PST_WAKE_EN_EN 0) 0 = true ∧ s.armed 0 = true) ∧
  (∃ (s : State), (bitOf (s.fget F.PST_WAKE_EN_EN 0) 0 = false ∨ s.armed 0 = false)) ∧
  (∃ (s : State), s.fget F.PST_STAT_XTAL_FAIL 0 = 1) ∧
  (∃ (address : Fin 128) (s : State), ↑address = 72 + s.svc.sbAddr ∧ bitOf (s.fget F.PST_WAKE_EN_EN 0) 2 = true ∧ s.armed 2 = true) ∧
  (∃ (port : HostId) (s : State), bitOf (s.fget F.PST_WAKE_EN_EN 0) (3 + ↑port) = true ∧ s.armed (3 + ↑port) = true) ∧
  (∃ (wake : Bool) (s : State), wake = true ∧ bitOf (s.fget F.PST_WAKE_EN_EN 0) 5 = true ∧ s.armed 5 = true) ∧
  (∃ (wake : Bool) (s : State), (wake = false ∨ bitOf (s.fget F.PST_WAKE_EN_EN 0) 5 = false ∨ s.armed 5 = false)) ∧
  (∃ (port : HostId) (s : State), (s.hport ↑port).d3hot = true) :=
  ⟨⟨0, st [cmdAt 0 0x403 []], by decide +kernel⟩,
  ⟨0, st [cmdIn 0 0x403 [5]], by decide +kernel⟩,
  ⟨0, st [cmdIn 0 0x403 [0]], by decide +kernel⟩,
  ⟨0, st [cmdIn 0 0x403 [4]], by decide +kernel⟩,
  ⟨0, st [.fld F.PST_WAKE_STAT_LATCH 0 1, .slots 0 { MbSlot.none with cmd := 0x403, state := 2, args := [1] }], by decide +kernel⟩,
  ⟨0, st [.fld F.PST_STAT_STATE 0 1, .slots 0 { MbSlot.none with cmd := 0x403, state := 2, args := [0, 0, 0, 0, 0, 0, 0, 0, 0, 0, 0, 0, 0, 0, 0, 0] }], by decide +kernel⟩,
  ⟨0, st [.fld F.PST_STAT_STATE 0 3, .slots 0 { MbSlot.none with cmd := 0x403, state := 2, args := [2, 0, 0, 0, 0, 0, 0, 0, 0, 0, 0, 0, 0, 0, 0, 0] }], by decide +kernel⟩,
  ⟨0, st [.fld F.MOD_ROW_MAP_r_MAP 0 0xFEDCBA9876543210, .cores 0 { CoreSt.init with owner := some (0, 1) }, .flasks 0 { FlaskSt.none with live := true, cores := [0], gib := 1, active := { MouldSt.none with present := true, cores := [0], sections := [] } }, .fld F.CORE_STAT_STATE 0 3, .slots 0 { MbSlot.none with cmd := 0x403, state := 2, args := [1] }], by decide +kernel⟩,
  ⟨0, st [.fld F.PST_STAT_PHASE 0 1, .fld F.PST_STAT_TARGET 0 1], by decide +kernel⟩,
  ⟨st [.fld F.PST_STAT_PHASE 0 2, .fld F.PST_STAT_STATE 0 1], by decide +kernel⟩,
  ⟨st [.fld F.PST_STAT_PHASE 0 2], by decide +kernel⟩,
  ⟨State.reset, by decide +kernel⟩,
  ⟨st [.fld F.PST_WAKE_EN_EN 0 0], by decide +kernel⟩,
  ⟨st [.fld F.PST_STAT_XTAL_FAIL 0 1], by decide +kernel⟩,
  ⟨72, st [.fld F.PST_STAT_STATE 0 4, .fld F.PST_WAKE_EN_EN 0 31], by decide +kernel⟩,
  ⟨0, st [.fld F.PST_STAT_STATE 0 4, .fld F.PST_WAKE_EN_EN 0 31], by decide +kernel⟩,
  ⟨true, State.reset, by decide +kernel⟩,
  ⟨false, State.reset, by decide +kernel⟩,
  ⟨0, st [.hports 0 { HostPort.none with d3hot := true }], by decide +kernel⟩⟩

theorem witness_SecurityCommandsAct :
  (∃ (k : Fin 17) (v : Bool) (s : State), s.mbRuns (↑k) 1282 = true ∧ Option.isSome (List.find? (fun c => !c.fst) (s.keyChecks (↑k) (leAt (s.slot ↑k).args 0 1) (List.drop 8 (s.slot ↑k).args) v)) = true) ∧
  (∃ (k : Fin 17) (v : Bool) (s : State), s.mbRuns (↑k) 1282 = true ∧ List.find? (fun c => !c.fst) (s.keyChecks (↑k) (leAt (s.slot ↑k).args 0 1) (List.drop 8 (s.slot ↑k).args) v) = none ∧ leAt (List.drop 8 (s.slot ↑k).args) 0 1 = 2 ∧ leAt (List.drop 8 (s.slot ↑k).args) 1 1 < 32 ∧ bitOf (s.fget F.SAF_KEYS_MOULD_REVOKED 0) (leAt (List.drop 8 (s.slot ↑k).args) 1 1) = true) ∧
  (∃ (k : Fin 17) (v : Bool) (s : State), s.mbRuns (↑k) 1282 = true ∧ List.find? (fun c => !c.fst) (s.keyChecks (↑k) (leAt (s.slot ↑k).args 0 1) (List.drop 8 (s.slot ↑k).args) v) = none ∧ leAt (List.drop 8 (s.slot ↑k).args) 0 1 = 3 ∧ leAt (List.drop 8 (s.slot ↑k).args) 1 1 = 1) ∧
  (∃ (k : Fin 17) (v : Bool) (s : State), s.mbRuns (↑k) 1282 = true ∧ List.find? (fun c => !c.fst) (s.keyChecks (↑k) (leAt (s.slot ↑k).args 0 1) (List.drop 8 (s.slot ↑k).args) v) = none ∧ leAt (List.drop 8 (s.slot ↑k).args) 0 1 = 2 ∧ bitOf (s.fget F.SAF_KEYS_MOULD_REVOKED 0) (leAt (List.drop 8 (s.slot ↑k).args) 1 1) = false) ∧
  (∃ (k : Fin 17) (v : Bool) (s : State), s.mbRuns (↑k) 1282 = true ∧ List.find? (fun c => !c.fst) (s.keyChecks (↑k) (leAt (s.slot ↑k).args 0 1) (List.drop 8 (s.slot ↑k).args) v) = none ∧ leAt (List.drop 8 (s.slot ↑k).args) 0 1 = 3 ∧ leAt (List.drop 8 (s.slot ↑k).args) 1 1 ≠ 1) ∧
  (∃ (k : Fin 17) (v : Bool) (s : State), s.mbRuns (↑k) 1282 = true ∧ List.find? (fun c => !c.fst) (s.keyChecks (↑k) (leAt (s.slot ↑k).args 0 1) (List.drop 8 (s.slot ↑k).args) v) = none ∧ leAt (List.drop 8 (s.slot ↑k).args) 0 1 = 1) ∧
  (∃ (sensor : Fin 8) (inputPower : Bool) (s : State), (decide (1 ≤ ↑sensor) && ↑sensor != 6 && (inputPower || decide (↑sensor ≤ 4)) && (↑sensor != 7 || s.fget F.SAF_STAT_LIFECYCLE 0 != 1) && !bitOf (s.fget F.SAF_TAMPER_LIVE 0) (↑sensor - 1)) = false) ∧
  (∃ (sensor : Fin 8) (inputPower : Bool) (s : State), (decide (1 ≤ ↑sensor) && ↑sensor != 6 && (inputPower || decide (↑sensor ≤ 4)) && (↑sensor != 7 || s.fget F.SAF_STAT_LIFECYCLE 0 != 1) && !bitOf (s.fget F.SAF_TAMPER_LIVE 0) (↑sensor - 1)) = true ∧ inputPower = true) ∧
  (∃ (sensor : Fin 8) (inputPower : Bool) (s : State), (decide (1 ≤ ↑sensor) && ↑sensor != 6 && (inputPower || decide (↑sensor ≤ 4)) && (↑sensor != 7 || s.fget F.SAF_STAT_LIFECYCLE 0 != 1) && !bitOf (s.fget F.SAF_TAMPER_LIVE 0) (↑sensor - 1)) = true ∧ inputPower = false) ∧
  (∃ (sensor : Fin 8) (n : Nat), 1 ≤ ↑sensor ∧ n < 7) ∧
  (∃ (k : Fin 17) (s : State), s.mbRuns (↑k) 1281 = true ∧ s.fget F.SAF_TAMPER_NEWEST 0 < leAt (s.slot ↑k).args 0 4) ∧
  (∃ (k : Fin 17) (s : State), s.mbRuns (↑k) 1281 = true ∧ leAt (s.slot ↑k).args 0 4 ≤ s.fget F.SAF_TAMPER_NEWEST 0 ∧ (((List.map (fun e => if e.index ≤ leAt (s.slot ↑k).args 0 4 then { e with acked := true } else e) s.saf.log).all fun e => e.acked) = false ∨ s.fget F.SAF_TAMPER_LIVE 0 ≠ 0)) ∧
  (∃ (k : Fin 17) (s : State), s.mbRuns (↑k) 1281 = true ∧ leAt (s.slot ↑k).args 0 4 ≤ s.fget F.SAF_TAMPER_NEWEST 0 ∧ ((List.map (fun e => if e.index ≤ leAt (s.slot ↑k).args 0 4 then { e with acked := true } else e) s.saf.log).all fun e => e.acked) = true ∧ s.fget F.SAF_TAMPER_LIVE 0 = 0 ∧ s.fget F.SAF_STAT_TAMPER 0 = 1) ∧
  (∃ (k : Fin 17) (s : State), s.mbRuns (↑k) 1283 = true) ∧
  (∃ (m : Fin 256) (s : State), s.mbServed = true ∧ s.fget F.SAF_SLOT_ROLE_LOCK 0 ≠ 1 ∧ ↑m = 255) :=
  ⟨⟨0, true, st [cmdIn 0 0x502 []], by decide +kernel⟩,
  ⟨0, true, st [.fld F.SAF_KEYS_MOULD_PRESENT 0 3, .fld F.SAF_KEYS_MOULD_REVOKED 0 2, .slots 0 { MbSlot.none with cmd := 0x502, state := 2, args := (List.replicate 8 0 ++ [2, 1] ++ List.replicate 254 0) }], by decide +kernel⟩,
  ⟨0, true, st [.fld F.SAF_KEYS_MOULD_PRESENT 0 3, .fld F.SAF_KEYS_MOULD_REVOKED 0 0, .slots 0 { MbSlot.none with cmd := 0x502, state := 2, args := (List.replicate 8 0 ++ [3, 1] ++ List.replicate 254 0) }], by decide +kernel⟩,
  ⟨0, true, st [.fld F.SAF_KEYS_MOULD_PRESENT 0 3, .fld F.SAF_KEYS_MOULD_REVOKED 0 0, .slots 0 { MbSlot.none with cmd := 0x502, state := 2, args := (List.replicate 8 0 ++ [2, 1] ++ List.replicate 254 0) }], by decide +kernel⟩,
  ⟨0, true, st [.fld F.SAF_KEYS_MOULD_PRESENT 0 3, .fld F.SAF_KEYS_MOULD_REVOKED 0 0, .slots 0 { MbSlot.none with cmd := 0x502, state := 2, args := (List.replicate 8 0 ++ [3] ++ List.replicate 255 0) }], by decide +kernel⟩,
  ⟨0, true, st [.fld F.SAF_STAT_LIFECYCLE 0 2, .flasks 0 { FlaskSt.none with live := true, gib := 1 }, .slots 0 { MbSlot.none with cmd := 0x502, state := 2, args := (List.replicate 8 0 ++ [1] ++ List.replicate 32 0 ++ [16] ++ List.replicate 222 0) }], by decide +kernel⟩,
  ⟨0, true, State.reset, by decide +kernel⟩,
  ⟨1, true, State.reset, by decide +kernel⟩,
  ⟨1, false, State.reset, by decide +kernel⟩,
  ⟨1, 0, by decide +kernel⟩,
  ⟨0, st [cmdIn 0 0x501 [1, 0, 0, 0]], by decide +kernel⟩,
  ⟨0, st [cmdIn 0 0x501 [], .fld F.SAF_TAMPER_LIVE 0 1], by decide +kernel⟩,
  ⟨0, st [cmdIn 0 0x501 [], .fld F.SAF_TAMPER_LIVE 0 0, .fld F.SAF_STAT_TAMPER 0 1], by decide +kernel⟩,
  ⟨0, st [cmdIn 0 0x503 []], by decide +kernel⟩,
  ⟨255, st [stageIs 5], by decide +kernel⟩⟩

theorem witness_SidebandUpdateCommandsAct :
  (∃ (s : State), s.pldmServed = true) ∧
  (∃ (s : State), s.pldmServed = true ∧ s.boot.pldm.state = 0 ∧ (s.slotsRunning fun m => m.cmd / 256 == 6) = []) ∧
  (∃ (s : State), s.pldmServed = true ∧ s.boot.pldm.state = 0 ∧ (s.slotsRunning fun m => m.cmd / 256 == 6) ≠ []) ∧
  (∃ (s : State), s.pldmServed = true ∧ s.boot.pldm.state ≠ 0) ∧
  (∃ (s : State), s.pldmServed = true ∧ s.boot.pldm.state ≠ 1) ∧
  (∃ (cls : BitVec 16) (ident : BitVec 16) (s : State), s.pldmServed = true ∧ s.boot.pldm.state = 1 ∧ (cls.toNat ≠ 10 ∨ ident.toNat ≠ 1)) ∧
  (∃ (cls : BitVec 16) (ident : BitVec 16) (s : State), s.pldmServed = true ∧ s.boot.pldm.state = 1 ∧ cls.toNat = 10 ∧ ident.toNat = 1) ∧
  (∃ (s : State), s.pldmServed = true ∧ s.boot.pldm.state ≠ 2) ∧
  (∃ (cls : BitVec 16) (ident : BitVec 16) (s : State), s.pldmServed = true ∧ s.boot.pldm.state = 2 ∧ (cls.toNat ≠ 10 ∨ ident.toNat ≠ 1)) ∧
  (∃ (cls : BitVec 16) (ident : BitVec 16) (s : State), s.pldmServed = true ∧ s.boot.pldm.state = 2 ∧ cls.toNat = 10 ∧ ident.toNat = 1) ∧
  (∃ (s : State), s.pldmServed = true ∧ s.boot.pldm.state ≠ 3 ∧ s.boot.pldm.state ≠ 5 ∧ (s.boot.pldm.state ≠ 4 ∨ s.boot.pldm.result ≠ 0)) ∧
  (∃ (s : State), s.pldmServed = true ∧ s.boot.pldm.state = 3 ∧ s.boot.pldm.size ≤ s.boot.pldm.image.length) ∧
  (∃ (s : State), s.pldmServed = true ∧ s.boot.pldm.state = 4 ∧ s.boot.pldm.result = 0) ∧
  (∃ (s : State), s.pldmServed = true ∧ s.boot.pldm.state = 5 ∧ s.stage ≠ 8) ∧
  (∃ (s : State), s.pldmServed = true ∧ s.boot.pldm.state = 3 ∧ s.boot.pldm.image.length < s.boot.pldm.size) ∧
  (∃ (selfContained : Bool) (s : State), s.pldmServed = true ∧ s.boot.pldm.state = 2 ∧ selfContained = true) ∧
  (∃ (selfContained : Bool) (s : State), s.pldmServed = true ∧ s.boot.pldm.state = 2 ∧ selfContained = false ∧ s.boot.dir.staged = 255) ∧
  (∃ (selfContained : Bool) (s : State), s.pldmServed = true ∧ s.boot.pldm.state = 2 ∧ selfContained = false ∧ s.boot.dir.staged ≠ 255) ∧
  (∃ (s : State), s.pldmServed = true ∧ s.boot.pldm.state ≠ 3 ∧ s.boot.pldm.state ≠ 4 ∧ s.boot.pldm.state ≠ 5) ∧
  (∃ (s : State), s.pldmServed = true ∧ (s.boot.pldm.state = 3 ∨ s.boot.pldm.state = 4 ∨ s.boot.pldm.state = 5)) ∧
  (∃ (s : State), s.pldmServed = true ∧ s.boot.pldm.state ≠ 1 ∧ s.boot.pldm.state ≠ 2 ∧ s.boot.pldm.state ≠ 3 ∧ s.boot.pldm.state ≠ 4 ∧ s.boot.pldm.state ≠ 5) ∧
  (∃ (s : State), s.pldmServed = true ∧ (s.boot.pldm.state = 1 ∨ s.boot.pldm.state = 2 ∨ s.boot.pldm.state = 3 ∨ s.boot.pldm.state = 4 ∨ s.boot.pldm.state = 5)) ∧
  (∃ (sensor : BitVec 16) (s : State), s.mbServed = true ∧ s.sensor sensor.toNat = none) ∧
  (∃ (sensor : BitVec 16) (s : State), s.mbServed = true ∧ Option.isSome (s.sensor sensor.toNat) = true) ∧
  (∃ (sensor : BitVec 16) (s : State), s.mbServed = true ∧ sensor.toNat ≠ 16) ∧
  (∃ (sensor : BitVec 16) (s : State), s.mbServed = true ∧ sensor.toNat = 16) ∧
  (∃ (handle : BitVec 32) (s : State), s.mbServed = true ∧ Option.isSome ([1, 2, 3, 4, 16][handle.toNat - 1]?) = true) ∧
  (∃ (handle : BitVec 32) (s : State), s.mbServed = true ∧ 6 ≤ handle.toNat) ∧
  (∃ (command : BitVec 8) (eid : BitVec 8) (s : State), 1 ≤ s.stage ∧ command.toNat = 1 ∧ (eid.toNat = 0 ∨ eid.toNat = 255)) ∧
  (∃ (command : BitVec 8) (eid : BitVec 8) (s : State), 1 ≤ s.stage ∧ command.toNat = 1 ∧ eid.toNat ≠ 0 ∧ eid.toNat ≠ 255) ∧
  (∃ (command : BitVec 8) (s : State), 1 ≤ s.stage ∧ command.toNat = 2) ∧
  (∃ (command : BitVec 8) (s : State), 1 ≤ s.stage ∧ command.toNat = 3) ∧
  (∃ (command : BitVec 8) (s : State), 1 ≤ s.stage ∧ command.toNat = 4) ∧
  (∃ (command : BitVec 8) (s : State), 1 ≤ s.stage ∧ command.toNat = 5) ∧
  (∃ (command : BitVec 8) (s : State), 1 ≤ s.stage ∧ (command.toNat = 0 ∨ 6 ≤ command.toNat)) ∧
  (∃ (static : Fin 128) (s : State), (s.i3cServed && s.svc.dynAddr.isNone && ↑static == 72 + s.svc.sbAddr) = true) ∧
  (∃ (s : State), (s.i3cServed && s.svc.dynAddr.isNone) = true) :=
  ⟨⟨st [stageIs 5], by decide +kernel⟩,
  ⟨st [stageIs 5], by decide +kernel⟩,
  ⟨st [stageIs 5, .slots 0 { MbSlot.none with cmd := 0x601, state := 2, args := [] }], by decide +kernel⟩,
  ⟨st [stageIs 5, .boot { State.reset.boot with pldm := { PldmSt.idle with state := 1 } }], by decide +kernel⟩,
  ⟨st [stageIs 5], by decide +kernel⟩,
  ⟨9, 1, st [stageIs 5, .boot { State.reset.boot with pldm := { PldmSt.idle with state := 1 } }], by decide +kernel⟩,
  ⟨10, 1, st [stageIs 5, .boot { State.reset.boot with pldm := { PldmSt.idle with state := 1 } }], by decide +kernel⟩,
  ⟨st [stageIs 5], by decide +kernel⟩,
  ⟨9, 1, st [stageIs 5, .boot { State.reset.boot with pldm := { PldmSt.idle with state := 2 } }], by decide +kernel⟩,
  ⟨10, 1, st [stageIs 5, .boot { State.reset.boot with pldm := { PldmSt.idle with state := 2 } }], by decide +kernel⟩,
  ⟨st [stageIs 5], by decide +kernel⟩,
  ⟨st [stageIs 5, .boot { State.reset.boot with pldm := { PldmSt.idle with state := 3 } }], by decide +kernel⟩,
  ⟨st [stageIs 5, .boot { State.reset.boot with pldm := { PldmSt.idle with state := 4 } }], by decide +kernel⟩,
  ⟨st [stageIs 5, .boot { State.reset.boot with pldm := { PldmSt.idle with state := 5 } }], by decide +kernel⟩,
  ⟨st [stageIs 5, .boot { State.reset.boot with pldm := { PldmSt.idle with state := 3, size := 4 } }], by decide +kernel⟩,
  ⟨true, st [stageIs 5, .boot { State.reset.boot with pldm := { PldmSt.idle with state := 2 } }], by decide +kernel⟩,
  ⟨false, st [stageIs 5, .boot { State.reset.boot with pldm := { PldmSt.idle with state := 2 } }], by decide +kernel⟩,
  ⟨false, st [stageIs 5, .boot { State.reset.boot with dir := { State.reset.boot.dir with staged := 1 }, pldm := { PldmSt.idle with state := 2 } }], by decide +kernel⟩,
  ⟨st [stageIs 5], by decide +kernel⟩,
  ⟨st [stageIs 5, .boot { State.reset.boot with pldm := { PldmSt.idle with state := 3 } }], by decide +kernel⟩,
  ⟨st [stageIs 5], by decide +kernel⟩,
  ⟨st [stageIs 5, .boot { State.reset.boot with pldm := { PldmSt.idle with state := 1 } }], by decide +kernel⟩,
  ⟨0, st [stageIs 5], by decide +kernel⟩,
  ⟨1, st [stageIs 5], by decide +kernel⟩,
  ⟨0, st [stageIs 5], by decide +kernel⟩,
  ⟨16, st [stageIs 5], by decide +kernel⟩,
  ⟨0, st [stageIs 5], by decide +kernel⟩,
  ⟨6, st [stageIs 5], by decide +kernel⟩,
  ⟨1, 0, st [stageIs 1], by decide +kernel⟩,
  ⟨1, 9, st [stageIs 1], by decide +kernel⟩,
  ⟨2, st [stageIs 1], by decide +kernel⟩,
  ⟨3, st [stageIs 1], by decide +kernel⟩,
  ⟨4, st [stageIs 1], by decide +kernel⟩,
  ⟨5, st [stageIs 1], by decide +kernel⟩,
  ⟨0, st [stageIs 1], by decide +kernel⟩,
  ⟨72, st [stageIs 1], by decide +kernel⟩,
  ⟨st [stageIs 1], by decide +kernel⟩⟩

theorem witness_SidebandAttestationCommandsAct :
  (∃ (s : State), s.mbServed = true) ∧
  (∃ (s : State), s.mbServed = true ∧ s.saf.spdm < 1) ∧
  (∃ (s : State), s.mbServed = true ∧ 1 ≤ s.saf.spdm ∧ s.saf.spdm = 1) ∧
  (∃ (s : State), s.mbServed = true ∧ 1 ≤ s.saf.spdm ∧ s.saf.spdm ≠ 1) ∧
  (∃ (s : State), s.mbServed = true ∧ s.saf.spdm < 2) ∧
  (∃ (s : State), s.mbServed = true ∧ 2 ≤ s.saf.spdm ∧ s.saf.spdm ≠ 2) ∧
  (∃ (supported : Bool) (s : State), s.mbServed = true ∧ 2 ≤ s.saf.spdm ∧ s.saf.spdm = 2 ∧ supported = true) ∧
  (∃ (supported : Bool) (s : State), s.mbServed = true ∧ 2 ≤ s.saf.spdm ∧ s.saf.spdm = 2 ∧ supported = false) ∧
  (∃ (s : State), s.mbServed = true ∧ s.saf.spdm < 3) ∧
  (∃ (s : State), s.mbServed = true ∧ 3 ≤ s.saf.spdm) ∧
  (∃ (certSlot : Fin 8) (s : State), s.mbServed = true ∧ 3 ≤ s.saf.spdm ∧ ↑certSlot = 0) ∧
  (∃ (certSlot : Fin 8) (s : State), s.mbServed = true ∧ 3 ≤ s.saf.spdm ∧ ↑certSlot ≠ 0) ∧
  (∃ (index : BitVec 8) (s : State), s.mbServed = true ∧ 3 ≤ s.saf.spdm ∧ index.toNat = 0) ∧
  (∃ (index : BitVec 8) (s : State), s.mbServed = true ∧ 3 ≤ s.saf.spdm ∧ index.toNat ≠ 0 ∧ Option.isSome (s.measurement index.toNat (Config.freeNat s.freeCtr)) = true) ∧
  (∃ (index : BitVec 8) (s : State), s.mbServed = true ∧ 3 ≤ s.saf.spdm ∧ index.toNat ≠ 0 ∧ s.measurement index.toNat (Config.freeNat s.freeCtr) = none) ∧
  (∃ (id : BitVec 32) (s : State), s.mbServed = true ∧ 3 ≤ s.saf.spdm ∧ s.saf.sessions.length < 4 ∧ (s.saf.sessions.any fun x => x.id == id.toNat) = false) ∧
  (∃ (id : BitVec 32) (s : State), s.mbServed = true ∧ 3 ≤ s.saf.spdm ∧ s.saf.sessions.length < 4 ∧ (s.saf.sessions.any fun x => x.id == id.toNat) = true) ∧
  (∃ (s : State), s.mbServed = true ∧ 3 ≤ s.saf.spdm ∧ 4 ≤ s.saf.sessions.length) ∧
  (∃ (id : BitVec 32) (s : State), s.mbServed = true ∧ 3 ≤ s.saf.spdm ∧ (s.saf.sessions.any fun x => x.id == id.toNat && !x.done) = false) ∧
  (∃ (id : BitVec 32) (verified : Bool) (s : State), s.mbServed = true ∧ 3 ≤ s.saf.spdm ∧ (s.saf.sessions.any fun x => x.id == id.toNat && !x.done) = true ∧ verified = true) ∧
  (∃ (id : BitVec 32) (verified : Bool) (s : State), s.mbServed = true ∧ 3 ≤ s.saf.spdm ∧ (s.saf.sessions.any fun x => x.id == id.toNat && !x.done) = true ∧ verified = false) ∧
  (∃ (id : BitVec 32) (s : State), s.mbServed = true ∧ s.isSecured (some id.toNat) = false) ∧
  (∃ (id : BitVec 32) (s : State), s.mbServed = true ∧ s.isSecured (some id.toNat) = true) :=
  ⟨⟨st [stageIs 5], by decide +kernel⟩,
  ⟨st [stageIs 5], by decide +kernel⟩,
  ⟨st [stageIs 5, .saf { State.reset.saf with spdm := 1 }], by decide +kernel⟩,
  ⟨st [stageIs 5, .saf { State.reset.saf with spdm := 2 }], by decide +kernel⟩,
  ⟨st [stageIs 5], by decide +kernel⟩,
  ⟨st [stageIs 5, .saf { State.reset.saf with spdm := 3 }], by decide +kernel⟩,
  ⟨true, st [stageIs 5, .saf { State.reset.saf with spdm := 2 }], by decide +kernel⟩,
  ⟨false, st [stageIs 5, .saf { State.reset.saf with spdm := 2 }], by decide +kernel⟩,
  ⟨st [stageIs 5], by decide +kernel⟩,
  ⟨st [stageIs 5, .saf { State.reset.saf with spdm := 3 }], by decide +kernel⟩,
  ⟨0, st [stageIs 5, .saf { State.reset.saf with spdm := 3 }], by decide +kernel⟩,
  ⟨1, st [stageIs 5, .saf { State.reset.saf with spdm := 3 }], by decide +kernel⟩,
  ⟨0, st [stageIs 5, .saf { State.reset.saf with spdm := 3 }], by decide +kernel⟩,
  ⟨1, st [stageIs 5, .saf { State.reset.saf with spdm := 3 }], by decide +kernel⟩,
  ⟨200, st [stageIs 5, .saf { State.reset.saf with spdm := 3 }], by decide +kernel⟩,
  ⟨0, st [stageIs 5, .saf { State.reset.saf with spdm := 3 }], by decide +kernel⟩,
  ⟨0, st [stageIs 5, .saf { State.reset.saf with spdm := 3, sessions := [{ id := 0, done := true }] }], by decide +kernel⟩,
  ⟨st [stageIs 5, .saf { State.reset.saf with spdm := 3, sessions := [1, 2, 3, 4].map (fun n => { id := n, done := true }) }], by decide +kernel⟩,
  ⟨0, st [stageIs 5, .saf { State.reset.saf with spdm := 3 }], by decide +kernel⟩,
  ⟨0, true, st [stageIs 5, .saf { State.reset.saf with spdm := 3, sessions := [{ id := 0, done := false }] }], by decide +kernel⟩,
  ⟨0, false, st [stageIs 5, .saf { State.reset.saf with spdm := 3, sessions := [{ id := 0, done := false }] }], by decide +kernel⟩,
  ⟨0, st [stageIs 5], by decide +kernel⟩,
  ⟨0, st [stageIs 5, .saf { State.reset.saf with spdm := 1, sessions := [{ id := 0, done := true }] }], by decide +kernel⟩⟩

theorem witness_SlosySessionCommandsAct :
  (∃ (wire : List Byte) (s : State), Option.any (fun r => decide ((decide (1 ≤ s.fget F.MOD_BOOT_STAT_STAGE 0) && (s.mbServed || r.cmd == 1) && s.dbg.req.isNone) = true ∧ (match (s.dbg.prev) with | some (r, st, bytes) => decide (True) | _ => false) = true)) (slosyParse wire) = true ∧ Option.any (fun r => decide ((decide (1 ≤ s.fget F.MOD_BOOT_STAT_STAGE 0) && (s.mbServed || r.cmd == 1) && s.dbg.req.isNone) = true ∧ Option.any (fun p => decide (p.fst ≠ r ∧ s.slosyCheck r = 0)) (s.dbg.prev) = true)) (slosyParse wire) = true) ∧
  (∃ (wire : List Byte), slosyParse wire = none) ∧
  (∃ (wire : List Byte) (s : State), Option.any (fun r => decide ((decide (1 ≤ s.fget F.MOD_BOOT_STAT_STAGE 0) && (s.mbServed || r.cmd == 1) && s.dbg.req.isNone) = false)) (slosyParse wire) = true) ∧
  (∃ (wire : List Byte) (s : State), Option.any (fun r => decide ((decide (1 ≤ s.fget F.MOD_BOOT_STAT_STAGE 0) && (s.mbServed || r.cmd == 1) && s.dbg.req.isNone) = true ∧ s.dbg.prev = none ∧ s.slosyCheck r = 0)) (slosyParse wire) = true) ∧
  (∃ (wire : List Byte) (s : State), Option.any (fun r => decide ((decide (1 ≤ s.fget F.MOD_BOOT_STAT_STAGE 0) && (s.mbServed || r.cmd == 1) && s.dbg.req.isNone) = true ∧ s.dbg.prev = none ∧ s.slosyCheck r ≠ 0)) (slosyParse wire) = true) ∧
  (∃ (wire : List Byte) (s : State), Option.any (fun r => decide ((decide (1 ≤ s.fget F.MOD_BOOT_STAT_STAGE 0) && (s.mbServed || r.cmd == 1) && s.dbg.req.isNone) = true ∧ Option.any (fun p => decide (p.fst ≠ r ∧ s.slosyCheck r ≠ 0)) (s.dbg.prev) = true)) (slosyParse wire) = true) ∧
  (∃ (s : State), Option.any (fun r => decide (r.cmd = 1)) (s.dbg.req) = true) ∧
  (∃ (s : State), Option.any (fun r => decide (r.cmd ≠ 1)) (s.dbg.req) = true) ∧
  (∃ (s : State), Option.any (fun r => decide (r.cmd = 2 ∧ s.dbg.lockEnd = none)) (s.dbg.req) = true) ∧
  (∃ (s : State), Option.any (fun r => decide (r.cmd ≠ 2)) (s.dbg.req) = true) ∧
  (∃ (s : State), Option.any (fun r => decide (r.cmd = 2 ∧ s.dbg.lockEnd.isSome = true)) (s.dbg.req) = true) ∧
  (∃ (s : State), Option.any (fun r => decide (r.cmd = 3 ∧ grantForm r.payload = false)) (s.dbg.req) = true) ∧
  (∃ (v : Bool) (s : State), Option.any (fun r => decide (r.cmd = 3 ∧ grantForm r.payload = true ∧ s.grantRefusal r.payload v = none)) (s.dbg.req) = true) ∧
  (∃ (v : Bool) (seconds : Nat) (s : State), Option.any (fun r => decide (r.cmd = 3 ∧ grantForm r.payload = true ∧ Option.any (fun why => decide (4 ≤ (nextOf (exec (Instr.slosyAuthGrant v seconds) s)).fget F.DBG_STAT_FAILS 0)) (s.grantRefusal r.payload v) = true)) (s.dbg.req) = true) ∧
  (∃ (s : State), Option.any (fun r => decide (r.cmd = 4)) (s.dbg.req) = true) ∧
  (∃ (s : State), Option.any (fun r => decide (r.cmd ≠ 4)) (s.dbg.req) = true) ∧
  (∃ (s : State), Option.any (fun r => decide (r.cmd = 5 ∧ bitOf s.dbgFlags 2 = false)) (s.dbg.req) = true) ∧
  (∃ (s : State), Option.any (fun r => decide (r.cmd ≠ 5)) (s.dbg.req) = true) ∧
  (∃ (s : State), Option.any (fun r => decide (r.cmd = 5 ∧ bitOf s.dbgFlags 2 = true ∧ s.fget F.SAF_STAT_LIFECYCLE 0 ≠ 2)) (s.dbg.req) = true) ∧
  (∃ (s : State), Option.any (fun r => decide (r.cmd = 5 ∧ bitOf s.dbgFlags 2 = true ∧ s.fget F.SAF_STAT_LIFECYCLE 0 = 2)) (s.dbg.req) = true) ∧
  (∃ (seconds : Nat) (s : State), Option.any (fun e => decide ((nextOf (exec (Instr.grantExpiry seconds) s)).fget F.SAF_SECONDS_SECONDS 0 < e)) (s.dbg.grantEnd) = true) ∧
  (∃ (seconds : Nat) (s : State), Option.any (fun e => decide (e ≤ (nextOf (exec (Instr.grantExpiry seconds) s)).fget F.SAF_SECONDS_SECONDS 0)) (s.dbg.grantEnd) = true) ∧
  (∃ (seconds : Nat) (s : State), Option.any (fun e => decide ((nextOf (exec (Instr.authLockoutExpiry seconds) s)).fget F.SAF_SECONDS_SECONDS 0 < e)) (s.dbg.lockEnd) = true) ∧
  (∃ (seconds : Nat) (s : State), Option.any (fun e => decide (e ≤ (nextOf (exec (Instr.authLockoutExpiry seconds) s)).fget F.SAF_SECONDS_SECONDS 0)) (s.dbg.lockEnd) = true) :=
  ⟨⟨[60, 90, 1, 1, 0, 0, 0, 0, 183, 213, 217, 198], st [.fld F.MOD_BOOT_STAT_STAGE 0 5, .dbg { State.reset.dbg with prev := some ({ tag := 9, cmd := 1, session := 0, payload := [] }, 0, []) }], by decide +kernel⟩,
  ⟨[], by decide +kernel⟩,
  ⟨[60, 90, 1, 1, 0, 0, 0, 0, 183, 213, 217, 198], st [.fld F.MOD_BOOT_STAT_STAGE 0 0], by decide +kernel⟩,
  ⟨[60, 90, 1, 1, 0, 0, 0, 0, 183, 213, 217, 198], st [.fld F.MOD_BOOT_STAT_STAGE 0 5], by decide +kernel⟩,
  ⟨[60, 90, 1, 153, 0, 0, 0, 0, 102, 185, 175, 39], st [.fld F.MOD_BOOT_STAT_STAGE 0 5], by decide +kernel⟩,
  ⟨[60, 90, 1, 153, 0, 0, 0, 0, 102, 185, 175, 39], st [.fld F.MOD_BOOT_STAT_STAGE 0 5, .dbg { State.reset.dbg with prev := some ({ tag := 9, cmd := 1, session := 0, payload := [] }, 0, []) }], by decide +kernel⟩,
  ⟨st [request 1 []], by decide +kernel⟩,
  ⟨st [request 2 []], by decide +kernel⟩,
  ⟨st [request 2 []], by decide +kernel⟩,
  ⟨st [request 3 []], by decide +kernel⟩,
  ⟨st [.dbg { State.reset.dbg with req := some { tag := 0, cmd := 2, session := 0, payload := [] }, lockEnd := some 5 }], by decide +kernel⟩,
  ⟨st [request 3 []], by decide +kernel⟩,
  ⟨true, st [.dbg { State.reset.dbg with req := some { tag := 0, cmd := 3, session := 0, payload := (List.replicate 48 0 ++ [1, 0, 0, 0, 1] ++ List.replicate 107 0) }, nonce := some 0 }, .fld F.SAF_KEYS_MOULD_PRESENT 0 3], by decide +kernel⟩,
  ⟨true, 0, st [.dbg { State.reset.dbg with req := some { tag := 0, cmd := 3, session := 0, payload := (List.replicate 48 0 ++ [1, 0, 0, 0, 1] ++ List.replicate 107 0) }, nonce := some 1 }, .fld F.SAF_KEYS_MOULD_PRESENT 0 3, .fld F.DBG_STAT_FAILS 0 3], by decide +kernel⟩,
  ⟨st [request 4 []], by decide +kernel⟩,
  ⟨st [request 5 []], by decide +kernel⟩,
  ⟨st [request 5 []], by decide +kernel⟩,
  ⟨st [request 6 []], by decide +kernel⟩,
  ⟨st [.dbg { State.reset.dbg with req := some { tag := 0, cmd := 5, session := 0, payload := [] } }, .fld F.DBG_STAT_FLAGS 0 7, .fld F.SAF_STAT_LIFECYCLE 0 0], by decide +kernel⟩,
  ⟨st [.dbg { State.reset.dbg with req := some { tag := 0, cmd := 5, session := 0, payload := [] } }, .fld F.DBG_STAT_FLAGS 0 7, .fld F.SAF_STAT_LIFECYCLE 0 2], by decide +kernel⟩,
  ⟨0, st [.dbg { State.reset.dbg with grantEnd := some 5 }], by decide +kernel⟩,
  ⟨0, st [.dbg { State.reset.dbg with grantEnd := some 0 }], by decide +kernel⟩,
  ⟨0, st [.dbg { State.reset.dbg with lockEnd := some 5 }], by decide +kernel⟩,
  ⟨0, st [.dbg { State.reset.dbg with lockEnd := some 0 }], by decide +kernel⟩⟩

theorem witness_SlosyAccessAndHoldCommandsAct_1 :
  (∃ (s : State), Option.any (fun r => decide (r.cmd = 16 ∧ sizeOk (leAt r.payload 8 2) = false)) (s.dbg.req) = true) ∧
  (∃ (s : State), Option.any (fun r => decide (r.cmd ≠ 16)) (s.dbg.req) = true) ∧
  (∃ (s : State), Option.any (fun r => decide (r.cmd = 16 ∧ sizeOk (leAt r.payload 8 2) = true ∧ Option.isSome (List.find? (fun x => x.fst) (s.slosyReach (leAt r.payload 0 8))) = true)) (s.dbg.req) = true) ∧
  (∃ (s : State), Option.any (fun r => decide (r.cmd = 16 ∧ sizeOk (leAt r.payload 8 2) = true ∧ List.find? (fun x => x.fst) (s.slosyReach (leAt r.payload 0 8)) = none ∧ leAt r.payload 8 2 = 4 ∧ faSpace (leAt r.payload 0 8) ≠ 1)) (s.dbg.req) = true) ∧
  (∃ (s : State), Option.any (fun r => decide (r.cmd = 17 ∧ sizeOk (List.drop 8 r.payload).length = false)) (s.dbg.req) = true) ∧
  (∃ (s : State), Option.any (fun r => decide (r.cmd ≠ 17)) (s.dbg.req) = true) ∧
  (∃ (s : State), Option.any (fun r => decide (r.cmd = 17 ∧ sizeOk (List.drop 8 r.payload).length = true ∧ bitOf s.dbgFlags 0 = false)) (s.dbg.req) = true) ∧
  (∃ (s : State), Option.any (fun r => decide (r.cmd = 17 ∧ sizeOk (List.drop 8 r.payload).length = true ∧ bitOf s.dbgFlags 0 = true ∧ Option.isSome (List.find? (fun x => x.fst) (s.slosyReach (leAt r.payload 0 8))) = true)) (s.dbg.req) = true) ∧
  (∃ (s : State), Option.any (fun r => decide (r.cmd = 17 ∧ sizeOk (List.drop 8 r.payload).length = true ∧ bitOf s.dbgFlags 0 = true ∧ List.find? (fun x => x.fst) (s.slosyReach (leAt r.payload 0 8)) = none ∧ (List.drop 8 r.payload).length = 4 ∧ faSpace (leAt r.payload 0 8) ≠ 1)) (s.dbg.req) = true) ∧
  (∃ (s : State), Option.any (fun r => decide (r.cmd ≠ 18)) (s.dbg.req) = true) ∧
  (∃ (s : State), Option.any (fun r => decide (r.cmd = 18 ∧ (sizeOk (leAt r.payload 8 2) = false ∨ 160 ≤ leAt r.payload 0 1 ∨ 2 ^ 28 < leAt r.payload 4 4 + leAt r.payload 8 2))) (s.dbg.req) = true) ∧
  (∃ (s : State), Option.any (fun r => decide (r.cmd = 18 ∧ sizeOk (leAt r.payload 8 2) = true ∧ leAt r.payload 0 1 < 160 ∧ leAt r.payload 4 4 + leAt r.payload 8 2 ≤ 2 ^ 28 ∧ s.inService = true ∧ (∀ (f : Nat), s.flaskOf (leAt r.payload 0 1) = some f → (s.flask f).isSealed = false) ∧ s.spdPoisoned (leAt r.payload 0 1) (leAt r.payload 4 4) (leAt r.payload 8 2) = false)) (s.dbg.req) = true) ∧
  (∃ (s : State), Option.any (fun r => decide (r.cmd ≠ 32)) (s.dbg.req) = true) ∧
  (∃ (s : State), Option.any (fun r => decide (r.cmd = 32 ∧ leAt r.payload 0 1 ≤ 15 ∧ leAt r.payload 1 1 ≤ 1 ∧ s.inScope (leAt r.payload 0 1) = false)) (s.dbg.req) = true) ∧
  (∃ (s : State), Option.any (fun r => decide (r.cmd = 32 ∧ (15 < leAt r.payload 0 1 ∨ 1 < leAt r.payload 1 1))) (s.dbg.req) = true) ∧
  (∃ (s : State), Option.any (fun r => decide (r.cmd = 32 ∧ leAt r.payload 0 1 ≤ 15 ∧ leAt r.payload 1 1 ≤ 1 ∧ s.inScope (leAt r.payload 0 1) = true ∧ s.flaskIn (leAt r.payload 0 1) 3 = false)) (s.dbg.req) = true) ∧
  (∃ (s : State), Option.any (fun r => decide (r.cmd = 32 ∧ leAt r.payload 0 1 ≤ 15 ∧ leAt r.payload 1 1 = 0 ∧ s.inScope (leAt r.payload 0 1) = true ∧ s.flaskIn (leAt r.payload 0 1) 3 = true ∧ s.inPour (leAt r.payload 0 1) = false ∧ s.held (leAt r.payload 0 1) = false)) (s.dbg.req) = true) ∧
  (∃ (s : State), Option.any (fun r => decide (r.cmd = 32 ∧ leAt r.payload 0 1 ≤ 15 ∧ leAt r.payload 1 1 = 0 ∧ s.inScope (leAt r.payload 0 1) = true ∧ s.flaskIn (leAt r.payload 0 1) 3 = true ∧ s.inPour (leAt r.payload 0 1) = false ∧ s.held (leAt r.payload 0 1) = true)) (s.dbg.req) = true) ∧
  (∃ (s : State), Option.any (fun r => decide (r.cmd ≠ 33)) (s.dbg.req) = true) ∧
  (∃ (s : State), Option.any (fun r => decide (r.cmd = 33 ∧ leAt r.payload 0 1 ≤ 15 ∧ s.inScope (leAt r.payload 0 1) = false)) (s.dbg.req) = true) ∧
  (∃ (s : State), Option.any (fun r => decide (r.cmd = 33 ∧ 15 < leAt r.payload 0 1)) (s.dbg.req) = true) ∧
  (∃ (s : State), Option.any (fun r => decide (r.cmd = 33 ∧ leAt r.payload 0 1 ≤ 15 ∧ s.inScope (leAt r.payload 0 1) = true ∧ s.held (leAt r.payload 0 1) = false)) (s.dbg.req) = true) ∧
  (∃ (s : State), Option.any (fun r => decide (r.cmd = 33 ∧ leAt r.payload 0 1 ≤ 15 ∧ s.inScope (leAt r.payload 0 1) = true ∧ s.held (leAt r.payload 0 1) = true ∧ s.inPour (leAt r.payload 0 1) = false)) (s.dbg.req) = true) ∧
  (∃ (s : State), Option.any (fun r => decide (r.cmd ≠ 34)) (s.dbg.req) = true) ∧
  (∃ (s : State), Option.any (fun r => decide (r.cmd = 34 ∧ (15 < leAt r.payload 0 1 ∨ leAt r.payload 4 4 = 0 ∨ 1048576 < leAt r.payload 4 4))) (s.dbg.req) = true) ∧
  (∃ (s : State), Option.any (fun r => decide (r.cmd = 34 ∧ leAt r.payload 0 1 ≤ 15 ∧ leAt r.payload 4 4 ≠ 0 ∧ leAt r.payload 4 4 ≤ 1048576 ∧ s.inScope (leAt r.payload 0 1) = false)) (s.dbg.req) = true) ∧
  (∃ (s : State), Option.any (fun r => decide (r.cmd = 34 ∧ leAt r.payload 0 1 ≤ 15 ∧ leAt r.payload 4 4 ≠ 0 ∧ leAt r.payload 4 4 ≤ 1048576 ∧ s.inScope (leAt r.payload 0 1) = true ∧ s.held (leAt r.payload 0 1) = false)) (s.dbg.req) = true) ∧
  (∃ (s : State), Option.any (fun r => decide (r.cmd = 34 ∧ leAt r.payload 0 1 ≤ 15 ∧ leAt r.payload 4 4 ≠ 0 ∧ leAt r.payload 4 4 ≤ 1048576 ∧ s.inScope (leAt r.payload 0 1) = true ∧ s.held (leAt r.payload 0 1) = true ∧ s.inPour (leAt r.payload 0 1) = false)) (s.dbg.req) = true) ∧
  (∃ (s : State), Option.any (fun r => decide (r.cmd ≠ 35)) (s.dbg.req) = true) ∧
  (∃ (s : State), Option.any (fun r => decide (r.cmd = 35 ∧ leAt r.payload 0 1 ≤ 15)) (s.dbg.req) = true) ∧
  (∃ (s : State), Option.any (fun r => decide (r.cmd = 35 ∧ 15 < leAt r.payload 0 1)) (s.dbg.req) = true) ∧
  (∃ (flask : FlaskId) (tc : Nat) (s : State), Option.any (fun a => decide (s.clockAt tc < a.at_)) (List.find? (fun a => a.flask == ↑flask) s.dbg.armed) = true) ∧
  (∃ (flask : FlaskId) (tc : Nat) (s : State), Option.any (fun a => decide (a.at_ ≤ s.clockAt tc ∧ a.kind = 0 ∧ s.flaskIn (↑flask) 3 = true)) (List.find? (fun a => a.flask == ↑flask) s.dbg.armed) = true) ∧
  (∃ (flask : FlaskId) (tc : Nat) (s : State), Option.any (fun a => decide (a.at_ ≤ s.clockAt tc ∧ a.kind ≠ 0)) (List.find? (fun a => a.flask == ↑flask) s.dbg.armed) = true) ∧
  (∃ (s : State), Option.any (fun r => decide (r.cmd ≠ 64)) (s.dbg.req) = true) :=
  ⟨⟨st [request 16 []], by decide +kernel⟩,
  ⟨st [request 17 []], by decide +kernel⟩,
  ⟨st [.dbg { State.reset.dbg with req := some { tag := 0, cmd := 16, session := 0, payload := [0, 0, 0, 0, 0, 0, 0, 0, 4, 0] } }], by decide +kernel⟩,
  ⟨st [.dbg { State.reset.dbg with req := some { tag := 0, cmd := 16, session := 0, payload := [0, 0, 0, 0, 0, 144, 0, 0, 4, 0] } }], by decide +kernel⟩,
  ⟨st [request 17 []], by decide +kernel⟩,
  ⟨st [request 18 []], by decide +kernel⟩,
  ⟨st [.dbg { State.reset.dbg with req := some { tag := 0, cmd := 17, session := 0, payload := [0, 0, 0, 0, 0, 0, 0, 0, 5, 0, 0, 0] } }], by decide +kernel⟩,
  ⟨st [.fld F.DBG_STAT_LEVEL 0 3, .fld F.DBG_STAT_FLAGS 0 7, .dbg { State.reset.dbg with req := some { tag := 0, cmd := 17, session := 0, payload := [0, 0, 0, 0, 0, 0, 1, 0, 5, 0, 0, 0] } }], by decide +kernel⟩,
  ⟨st [.fld F.DBG_STAT_LEVEL 0 3, .fld F.DBG_STAT_FLAGS 0 7, .dbg { State.reset.dbg with req := some { tag := 0, cmd := 17, session := 0, payload := [0, 0, 0, 0, 0, 0, 0, 0, 5, 0, 0, 0] } }], by decide +kernel⟩,
  ⟨st [request 19 []], by decide +kernel⟩,
  ⟨st [request 18 [160, 0, 0, 0, 29, 0, 0, 0]], by decide +kernel⟩,
  ⟨st [.dbg { State.reset.dbg with req := some { tag := 0, cmd := 18, session := 0, payload := [0, 0, 0, 0, 0, 0, 0, 0, 4, 0] } }], by decide +kernel⟩,
  ⟨st [request 33 []], by decide +kernel⟩,
  ⟨st [request 32 [0, 0]], by decide +kernel⟩,
  ⟨st [request 32 [16, 2]], by decide +kernel⟩,
  ⟨st [.fld F.DBG_STAT_LEVEL 0 3, .fld F.DBG_STAT_FLAGS 0 7, .dbg { State.reset.dbg with req := some { tag := 0, cmd := 32, session := 0, payload := [0, 0, 0, 0, 0, 0, 0, 0, 0, 0, 0, 0, 0, 0, 0, 0] } }], by decide +kernel⟩,
  ⟨st [.fld F.DBG_STAT_LEVEL 0 3, .fld F.DBG_STAT_FLAGS 0 7, .fld F.MOD_ROW_MAP_r_MAP 0 0xFEDCBA9876543210, .cores 0 { CoreSt.init with owner := some (0, 1) }, .flasks 0 { FlaskSt.none with live := true, cores := [0], gib := 1, active := { MouldSt.none with present := true, cores := [0], sections := [] } }, .fld F.CORE_STAT_STATE 0 3, .dbg { State.reset.dbg with req := some { tag := 0, cmd := 32, session := 0, payload := [0, 0, 0, 0, 0, 0, 0, 0, 0, 0, 0, 0, 0, 0, 0, 0] } }], by decide +kernel⟩,
  ⟨st [.fld F.DBG_STAT_LEVEL 0 3, .fld F.DBG_STAT_FLAGS 0 7, .fld F.MOD_ROW_MAP_r_MAP 0 0xFEDCBA9876543210, .cores 0 { CoreSt.init with owner := some (0, 1) }, .flasks 0 { FlaskSt.none with live := true, cores := [0], gib := 1, active := { MouldSt.none with present := true, cores := [0], sections := [] } }, .fld F.CORE_STAT_STATE 0 3, .fld F.DBG_HOLD_HELD 0 1, .dbg { State.reset.dbg with req := some { tag := 0, cmd := 32, session := 0, payload := [0, 0, 0, 0, 0, 0, 0, 0, 0, 0, 0, 0, 0, 0, 0, 0] } }], by decide +kernel⟩,
  ⟨st [request 34 []], by decide +kernel⟩,
  ⟨st [request 33 [0]], by decide +kernel⟩,
  ⟨st [request 33 [16]], by decide +kernel⟩,
  ⟨st [.fld F.DBG_STAT_LEVEL 0 3, .fld F.DBG_STAT_FLAGS 0 7, .dbg { State.reset.dbg with req := some { tag := 0, cmd := 33, session := 0, payload := [0, 0, 0, 0, 0, 0, 0, 0, 0, 0, 0, 0, 0, 0, 0, 0] } }], by decide +kernel⟩,
  ⟨st [.fld F.DBG_STAT_LEVEL 0 3, .fld F.DBG_STAT_FLAGS 0 7, .fld F.DBG_HOLD_HELD 0 1, .dbg { State.reset.dbg with req := some { tag := 0, cmd := 33, session := 0, payload := [0, 0, 0, 0, 0, 0, 0, 0, 0, 0, 0, 0, 0, 0, 0, 0] } }], by decide +kernel⟩,
  ⟨st [request 35 []], by decide +kernel⟩,
  ⟨st [request 34 [16, 0, 0, 0, 1, 0, 16, 0]], by decide +kernel⟩,
  ⟨st [.dbg { State.reset.dbg with req := some { tag := 0, cmd := 34, session := 0, payload := [0, 0, 0, 0, 1, 0, 0, 0] } }], by decide +kernel⟩,
  ⟨st [.fld F.DBG_STAT_LEVEL 0 3, .fld F.DBG_STAT_FLAGS 0 7, .dbg { State.reset.dbg with req := some { tag := 0, cmd := 34, session := 0, payload := [0, 0, 0, 0, 1, 0, 0, 0] } }], by decide +kernel⟩,
  ⟨st [.fld F.DBG_STAT_LEVEL 0 3, .fld F.DBG_STAT_FLAGS 0 7, .fld F.DBG_HOLD_HELD 0 1, .dbg { State.reset.dbg with req := some { tag := 0, cmd := 34, session := 0, payload := [0, 0, 0, 0, 1, 0, 0, 0] } }], by decide +kernel⟩,
  ⟨st [request 36 []], by decide +kernel⟩,
  ⟨st [request 35 [0]], by decide +kernel⟩,
  ⟨st [request 35 [16]], by decide +kernel⟩,
  ⟨0, 0, st [.fld F.MOD_ROW_MAP_r_MAP 0 0xFEDCBA9876543210, .cores 0 { CoreSt.init with owner := some (0, 1) }, .flasks 0 { FlaskSt.none with live := true, cores := [0], gib := 1, active := { MouldSt.none with present := true, cores := [0], sections := [] } }, .fld F.CORE_STAT_STATE 0 3, .dbg { State.reset.dbg with armed := [{ flask := 0, kind := 0, at_ := 9, pour := false, units := 0 }] }], by decide +kernel⟩,
  ⟨0, 0, st [.fld F.MOD_ROW_MAP_r_MAP 0 0xFEDCBA9876543210, .cores 0 { CoreSt.init with owner := some (0, 1) }, .flasks 0 { FlaskSt.none with live := true, cores := [0], gib := 1, active := { MouldSt.none with present := true, cores := [0], sections := [] } }, .fld F.CORE_STAT_STATE 0 3, .dbg { State.reset.dbg with armed := [{ flask := 0, kind := 0, at_ := 0, pour := false, units := 0 }] }], by decide +kernel⟩,
  ⟨0, 0, st [.fld F.MOD_ROW_MAP_r_MAP 0 0xFEDCBA9876543210, .cores 0 { CoreSt.init with owner := some (0, 1) }, .flasks 0 { FlaskSt.none with live := true, cores := [0], gib := 1, active := { MouldSt.none with present := true, cores := [0], sections := [] } }, .fld F.CORE_STAT_STATE 0 3, .dbg { State.reset.dbg with armed := [{ flask := 0, kind := 1, at_ := 0, pour := false, units := 0 }] }], by decide +kernel⟩,
  ⟨st [request 65 []], by decide +kernel⟩⟩

theorem witness_SlosyAccessAndHoldCommandsAct_2 :
  (∃ (s : State), Option.any (fun r => decide (r.cmd = 64 ∧ (15 < leAt r.payload 0 1 ∨ ¬leAt r.payload 1 1 ∈ (s.flask (leAt r.payload 0 1)).cores ∨ leAt r.payload 8 2 = 0 ∨ 1024 < leAt r.payload 8 2 ∨ recordLen < leAt r.payload 4 4 + leAt r.payload 8 2))) (s.dbg.req) = true) ∧
  (∃ (s : State), Option.any (fun r => decide (r.cmd = 64 ∧ leAt r.payload 0 1 ≤ 15 ∧ leAt r.payload 1 1 ∈ (s.flask (leAt r.payload 0 1)).cores ∧ leAt r.payload 8 2 ≠ 0 ∧ leAt r.payload 8 2 ≤ 1024 ∧ leAt r.payload 4 4 + leAt r.payload 8 2 ≤ recordLen ∧ s.inScope (leAt r.payload 0 1) = true ∧ s.held (leAt r.payload 0 1) = true ∧ Option.any (fun p => decide ((s.flask (leAt r.payload 0 1)).isSealed = false)) (s.physOf (leAt r.payload 1 1)) = true)) (s.dbg.req) = true) :=
  ⟨⟨st [request 64 [16, 0, 0, 0, 0, 0, 0, 0, 1, 4]], by decide +kernel⟩,
  ⟨st [.fld F.DBG_STAT_LEVEL 0 3, .fld F.DBG_STAT_FLAGS 0 7, .fld F.MOD_ROW_MAP_r_MAP 0 0xFEDCBA9876543210, .cores 0 { CoreSt.init with owner := some (0, 1) }, .flasks 0 { FlaskSt.none with live := true, cores := [0], gib := 1, active := { MouldSt.none with present := true, cores := [0], sections := [] } }, .fld F.CORE_STAT_STATE 0 3, .fld F.DBG_HOLD_HELD 0 1, .dbg { State.reset.dbg with req := some { tag := 0, cmd := 64, session := 0, payload := [0, 0, 0, 0, 0, 0, 0, 0, 4, 0] } }], by decide +kernel⟩⟩

theorem witness_SlosyBreakpointCommandsAct :
  (∃ (s : State), Option.any (fun r => decide (r.cmd ≠ 48)) (s.dbg.req) = true) ∧
  (∃ (s : State), Option.any (fun r => decide (r.cmd = 48 ∧ (7 < leAt r.payload 0 1 ∨ 4 < bitsOf (leAt r.payload 8 8) 0 3 ∨ bitsOf (leAt r.payload 8 8) 3 2 = 3 ∨ bitOf (leAt r.payload 8 8) 7 = true ∨ bitsOf (leAt r.payload 8 8) 12 20 ≠ 0))) (s.dbg.req) = true) ∧
  (∃ (s : State), Option.any (fun r => decide (r.cmd = 48 ∧ leAt r.payload 0 1 ≤ 7 ∧ bitsOf (leAt r.payload 8 8) 0 3 ≤ 4 ∧ bitsOf (leAt r.payload 8 8) 3 2 ≠ 3 ∧ bitOf (leAt r.payload 8 8) 7 = false ∧ bitsOf (leAt r.payload 8 8) 12 20 = 0 ∧ bitsOf (leAt r.payload 8 8) 3 2 ≠ 2 ∧ bitsOf (leAt r.payload 8 8) 0 3 ≠ 1 ∧ bitsOf (leAt r.payload 8 8) 0 3 ≠ 2)) (s.dbg.req) = true) ∧
  (∃ (s : State), Option.any (fun r => decide (r.cmd = 48 ∧ leAt r.payload 0 1 ≤ 7 ∧ bitsOf (leAt r.payload 8 8) 0 3 ≤ 4 ∧ bitsOf (leAt r.payload 8 8) 3 2 ≠ 3 ∧ bitOf (leAt r.payload 8 8) 7 = false ∧ bitsOf (leAt r.payload 8 8) 12 20 = 0 ∧ bitsOf (leAt r.payload 8 8) 3 2 = 2 ∧ s.inScope (bitsOf (leAt r.payload 8 8) 8 4) = false)) (s.dbg.req) = true) ∧
  (∃ (s : State), Option.any (fun r => decide (r.cmd ≠ 49)) (s.dbg.req) = true) ∧
  (∃ (s : State), Option.any (fun r => decide (r.cmd = 49 ∧ 7 < leAt r.payload 0 1)) (s.dbg.req) = true) ∧
  (∃ (s : State), Option.any (fun r => decide (r.cmd = 49 ∧ leAt r.payload 0 1 ≤ 7)) (s.dbg.req) = true) ∧
  (∃ (s : State), Option.any (fun r => decide (r.cmd = 50)) (s.dbg.req) = true) ∧
  (∃ (s : State), Option.any (fun r => decide (r.cmd ≠ 50)) (s.dbg.req) = true) ∧
  (∃ (bp : Fin 8) (hit : BpHit) (tc : Nat) (s : State), s.tc = s.clockAt tc ∧ s.bpMatches (↑bp) hit = false) ∧
  (∃ (bp : Fin 8) (hit : BpHit) (tc : Nat) (s : State), s.tc = s.clockAt tc ∧ s.bpMatches (↑bp) hit = true ∧ s.fget F.DBG_BP_CTL_n_KIND ↑bp ≤ 2) :=
  ⟨⟨st [request 49 []], by decide +kernel⟩,
  ⟨st [request 48 [8]], by decide +kernel⟩,
  ⟨st [request 48 [0]], by decide +kernel⟩,
  ⟨st [.dbg { State.reset.dbg with req := some { tag := 0, cmd := 48, session := 0, payload := (List.replicate 8 0 ++ [16] ++ List.replicate 23 0) } }], by decide +kernel⟩,
  ⟨st [request 50 []], by decide +kernel⟩,
  ⟨st [request 49 [8]], by decide +kernel⟩,
  ⟨st [request 49 [0]], by decide +kernel⟩,
  ⟨st [request 50 []], by decide +kernel⟩,
  ⟨st [request 51 []], by decide +kernel⟩,
  ⟨0, { fa := 0, write := true, word := 0, code := 0, requester := 0, core := 0 }, 0, State.reset, by decide +kernel⟩,
  ⟨0, { fa := 0, write := true, word := 0, code := 0, requester := 0, core := 0 }, 0, st [.fld F.DBG_BP_CTL_n_KIND 0 1, .fld F.DBG_BP_CTL_n_WR 0 1], by decide +kernel⟩⟩

theorem witness_HostQueueCommandsAct :
  (∃ (queue : Fin 2097152) (count : BitVec 16) (s : State), (s.queue ↑queue).kind = QKind.hostSubmit ∧ s.qState ↑queue ≠ 0 ∧ s.qState ↑queue ≠ 4 ∧ sub16 count.toNat (s.queue ↑queue).fetched ≤ (s.queue ↑queue).depth) ∧
  (∃ (queue : Fin 2097152) (count : BitVec 16) (s : State), (s.queue ↑queue).kind = QKind.hostSubmit ∧ s.qState ↑queue ≠ 0 ∧ s.qState ↑queue ≠ 4 ∧ (s.queue ↑queue).depth < sub16 count.toNat (s.queue ↑queue).fetched) ∧
  (∃ (queue : Fin 2097152) (count : BitVec 16) (s : State), (s.queue ↑queue).kind = QKind.hostPost ∧ s.qState ↑queue ≠ 0 ∧ s.qState ↑queue ≠ 4 ∧ sub16 (s.queue ↑queue).written count.toNat ≤ (s.queue ↑queue).depth) ∧
  (∃ (queue : Fin 2097152) (count : BitVec 16) (s : State), (s.queue ↑queue).kind = QKind.hostPost ∧ s.qState ↑queue ≠ 0 ∧ s.qState ↑queue ≠ 4 ∧ (s.queue ↑queue).depth < sub16 (s.queue ↑queue).written count.toNat) ∧
  (∃ (queue : Fin 2097152) (val : Word) (m : Fin 256) (s : State), (s.qState ↑queue = 2 ∨ s.qState ↑queue = 4) ∧ ↑m = 255 ∧ bitsOf (BitVec.toNat val) F.QUEUE_CTL_ENABLE.lo 1 = 0 ∧ s.qState ↑queue ≠ 0 ∧ s.qState ↑queue ≠ 1) ∧
  (∃ (queue : Fin 2097152) (val : Word) (m : Fin 256) (s : State), s.qState ↑queue = 1 ∧ ↑m = 255 ∧ bitsOf (BitVec.toNat val) F.QUEUE_CTL_ENABLE.lo 1 = 1 ∧ s.fget F.QUEUE_BASE_ADDR ↑queue ≠ 0) ∧
  (∃ (queue : Fin 2097152) (val : Word) (m : Fin 256) (s : State), s.qState ↑queue = 1 ∧ ↑m = 255 ∧ bitsOf (BitVec.toNat val) F.QUEUE_CTL_ENABLE.lo 1 = 1 ∧ s.fget F.QUEUE_BASE_ADDR ↑queue = 0) ∧
  (∃ (queue : Fin 2097152) (m : Fin 256) (s : State), s.qState ↑queue = 1 ∧ ↑m = 255) ∧
  (∃ (queue : Fin 2097152) (s : State), s.qState ↑queue ≠ 0 ∧ s.qState ↑queue ≠ 1) ∧
  (∃ (queue : Fin 2097152) (m : Fin 256) (s : State), s.qState ↑queue ≠ 0 ∧ ↑m = 255) ∧
  (∃ (queue : Fin 2097152) (s : State), (s.queue ↑queue).kind = QKind.hostSubmit ∧ s.qState ↑queue = 2 ∧ s.portReady (s.qPort ↑queue) = true ∧ 0 < s.fetchSpan ↑queue) ∧
  (∃ (queue : Fin 2097152) (res : FetchResult) (s : State) (es : List (List Byte)), (match ((s.queue ↑queue).reads) with | n :: rest => decide (s.qState ↑queue = 2 ∧ res = FetchResult.data es) | _ => false) = true) ∧
  (∃ (queue : Fin 2097152) (res : FetchResult) (s : State) (c : Nat), (match ((s.queue ↑queue).reads) with | n :: rest => decide (s.qState ↑queue = 2 ∧ (res = FetchResult.unsupported ∧ c = 2 ∨ res = FetchResult.abort ∧ c = 3 ∨ res = FetchResult.poisoned ∧ c = 4)) | _ => false) = true) ∧
  (∃ (queue : Fin 2097152) (s : State), (match ((s.queue ↑queue).reads) with | n :: rest => decide (s.qState ↑queue = 2) | _ => false) = true) ∧
  (∃ (queue : Fin 2097152) (s : State), (match ((s.queue ↑queue).reads) with | n :: rest => decide (s.qState ↑queue ≠ 2) | _ => false) = true) ∧
  (∃ (queue : Fin 2097152) (s : State), (match ((s.queue ↑queue).posts) with | e :: rest => decide (s.qState ↑queue = 2 ∧ s.portReady (s.qPort ↑queue) = true) | _ => false) = true) ∧
  (∃ (queue : Fin 2097152) (s : State), (s.queue ↑queue).msgDue = true ∧ (s.queue ↑queue).lastMsg = none) ∧
  (∃ (queue : Fin 2097152) (tc : Nat) (s : State), (s.queue ↑queue).msgDue = true ∧ Option.any (fun x => decide (s.clockAt tc < x + s.fget F.QUEUE_CTL_HOLDOFF ↑queue * 1000)) ((s.queue ↑queue).lastMsg) = true) ∧
  (∃ (queue : Fin 2097152) (tc : Nat) (s : State), (s.queue ↑queue).msgDue = true ∧ Option.any (fun x => decide (x + s.fget F.QUEUE_CTL_HOLDOFF ↑queue * 1000 ≤ s.clockAt tc)) ((s.queue ↑queue).lastMsg) = true) ∧
  (∃ (queue : Fin 2097152) (s : State), s.qState ↑queue = 3 ∧ (s.queue ↑queue).reads = [] ∧ (s.queue ↑queue).posts = [] ∧ s.fget F.QUEUE_CTL_ENABLE ↑queue = 0) ∧
  (∃ (queue : Fin 2097152) (s : State), s.qState ↑queue = 3 ∧ (s.queue ↑queue).reads = [] ∧ (s.queue ↑queue).posts = [] ∧ s.fget F.QUEUE_CTL_ENABLE ↑queue = 1) :=
  ⟨⟨0, 0, st [.queues 0 { QueueSt.none with kind := .hostSubmit }, .fld F.QUEUE_STAT_STATE 0 2], by decide +kernel⟩,
  ⟨0, 2, st [.queues 0 { QueueSt.none with kind := .hostSubmit }, .fld F.QUEUE_STAT_STATE 0 2], by decide +kernel⟩,
  ⟨0, 0, st [.queues 0 { QueueSt.none with kind := .hostPost }, .fld F.QUEUE_STAT_STATE 0 2], by decide +kernel⟩,
  ⟨0, 1, st [.queues 0 { QueueSt.none with kind := .hostPost }, .fld F.QUEUE_STAT_STATE 0 2], by decide +kernel⟩,
  ⟨0, 0, 255, st [.fld F.QUEUE_STAT_STATE 0 2, .fld F.QUEUE_BASE_ADDR 0 0], by decide +kernel⟩,
  ⟨0, 1, 255, st [.fld F.QUEUE_STAT_STATE 0 1, .fld F.QUEUE_BASE_ADDR 0 1], by decide +kernel⟩,
  ⟨0, 1, 255, st [.fld F.QUEUE_STAT_STATE 0 1, .fld F.QUEUE_BASE_ADDR 0 0], by decide +kernel⟩,
  ⟨0, 255, st [.fld F.QUEUE_STAT_STATE 0 1], by decide +kernel⟩,
  ⟨0, st [.fld F.QUEUE_STAT_STATE 0 2], by decide +kernel⟩,
  ⟨0, 255, st [.fld F.QUEUE_STAT_STATE 0 1], by decide +kernel⟩,
  ⟨0, st [.queues 0 { QueueSt.none with kind := .hostSubmit, depthLog2 := 2, tail := 2, hostParam := 2 }, .fld F.QUEUE_STAT_STATE 0 2, .fld F.MOD_HOST_STAT_p_LINK_UP 0 1, .fld F.MOD_HOST_STAT_p_BUS_MASTER 0 1], by decide +kernel⟩,
  ⟨0, .data [[0]], st [.queues 0 { QueueSt.none with kind := .hostSubmit, reads := [1] }, .fld F.QUEUE_STAT_STATE 0 2], [[0]], by decide +kernel⟩,
  ⟨0, .unsupported, st [.queues 0 { QueueSt.none with kind := .hostSubmit, reads := [1] }, .fld F.QUEUE_STAT_STATE 0 2], 2, by decide +kernel⟩,
  ⟨0, st [.queues 0 { QueueSt.none with kind := .hostSubmit, reads := [1] }, .fld F.QUEUE_STAT_STATE 0 2], by decide +kernel⟩,
  ⟨0, st [.queues 0 { QueueSt.none with kind := .hostSubmit, reads := [1] }, .fld F.QUEUE_STAT_STATE 0 3], by decide +kernel⟩,
  ⟨0, st [.queues 0 { QueueSt.none with kind := .hostPost, posts := [[0]] }, .fld F.QUEUE_STAT_STATE 0 2, .fld F.MOD_HOST_STAT_p_LINK_UP 0 1, .fld F.MOD_HOST_STAT_p_BUS_MASTER 0 1], by decide +kernel⟩,
  ⟨0, st [.queues 0 { QueueSt.none with msgDue := true, lastMsg := none }, .fld F.QUEUE_CTL_HOLDOFF 0 0], by decide +kernel⟩,
  ⟨0, 0, st [.queues 0 { QueueSt.none with msgDue := true, lastMsg := some 0 }, .fld F.QUEUE_CTL_HOLDOFF 0 1], by decide +kernel⟩,
  ⟨0, 0, st [.queues 0 { QueueSt.none with msgDue := true, lastMsg := some 0 }, .fld F.QUEUE_CTL_HOLDOFF 0 0], by decide +kernel⟩,
  ⟨0, st [.fld F.QUEUE_CTL_ENABLE 0 0, .fld F.QUEUE_STAT_STATE 0 3], by decide +kernel⟩,
  ⟨0, st [.fld F.QUEUE_CTL_ENABLE 0 1, .fld F.QUEUE_STAT_STATE 0 3], by decide +kernel⟩⟩

theorem witness_HostPortAndEventCommandsAct :
  (∃ (perst : Bool), perst = true) ∧
  (∃ (port : HostId) (s : State), s.fget F.MOD_HOST_STAT_p_LINK_UP ↑port = 1) ∧
  (∃ (speed : Fin 7) (width : Fin 17) (s : State), 1 ≤ s.fget F.MOD_BOOT_STAT_STAGE 0 ∧ 1 ≤ ↑speed ∧ List.elem ↑width [1, 2, 4, 8, 16] = true) ∧
  (∃ (s : State), (match (s.ev.formed) with | r :: rest => decide (True) | _ => false) = true) ∧
  (∃ (index : Fin 256) (tc : Nat) (s : State), Option.any (fun w => decide (s.clockAt tc < w.tcFirst + 1000000)) (s.ev.windows[↑index]?) = true) ∧
  (∃ (index : Fin 256) (tc : Nat) (s : State), Option.any (fun w => decide (w.tcFirst + 1000000 ≤ s.clockAt tc)) (s.ev.windows[↑index]?) = true) ∧
  (∃ (ring : Fin 17) (head : BitVec 32) (s : State), ((s.ring ↑ring).configured = false ∨ 2 ^ (s.ring ↑ring).depthLog2 < (s.fget F.MOD_EVR_TAIL_n_TAIL ↑ring + 2 ^ 32 - head.toNat) % 2 ^ 32)) ∧
  (∃ (ring : Fin 17) (head : BitVec 32) (s : State), (s.ring ↑ring).configured = true ∧ (s.fget F.MOD_EVR_TAIL_n_TAIL ↑ring + 2 ^ 32 - head.toNat) % 2 ^ 32 ≤ 2 ^ (s.ring ↑ring).depthLog2) :=
  ⟨⟨true, by decide +kernel⟩,
  ⟨0, st [.fld F.MOD_HOST_STAT_p_LINK_UP 0 1], by decide +kernel⟩,
  ⟨6, 16, st [stageIs 1], by decide +kernel⟩,
  ⟨st [.ev { State.reset.ev with formed := [{ code := 1, sev := 1, flags := 0, module := 0, cluster := 0, core := 0, unit := 0, flask := 0, count := 1, corrob := 0, seq := 0, tcFirst := 0, tcLast := 0, detail := 0 }] }], by decide +kernel⟩,
  ⟨0, 0, st [.ev { State.reset.ev with windows := [{ code := 1, sev := 1, flags := 0, module := 0, cluster := 0, core := 0, unit := 0, flask := 0, count := 1, corrob := 0, seq := 0, tcFirst := 0, tcLast := 0, detail := 0 }] }], by decide +kernel⟩,
  ⟨0, 1000000, st [.ev { State.reset.ev with windows := [{ code := 1, sev := 1, flags := 0, module := 0, cluster := 0, core := 0, unit := 0, flask := 0, count := 1, corrob := 0, seq := 0, tcFirst := 0, tcLast := 0, detail := 0 }] }], by decide +kernel⟩,
  ⟨0, 0, State.reset, by decide +kernel⟩,
  ⟨0, 0, st [.rings 0 { RingSt.none with configured := true }], by decide +kernel⟩⟩

theorem witness_LeavingThePour :
  (∃ (k : Fin 17) (s : State), s.mbRuns (↑k) 515 = true ∧ s.pourRuns = false) ∧
  (∃ (k : Fin 17) (s : State), s.mbRuns (↑k) 515 = true ∧ s.pourRuns = true) :=
  ⟨⟨0, st [cmdIn 0 0x203 []], by decide +kernel⟩,
  ⟨0, st [.fld F.MOD_ROW_MAP_r_MAP 0 0xFEDCBA9876543210, .cores 0 { CoreSt.init with owner := some (0, 1) }, .flasks 0 { FlaskSt.none with live := true, cores := [0], gib := 1, active := { MouldSt.none with present := true, pourSize := 2, cores := [0], sections := [] } }, .fld F.CORE_STAT_STATE 0 3, .slots 0 { MbSlot.none with cmd := 0x203, state := 2, args := [] }], by decide +kernel⟩⟩

theorem witness_ScalarRegistersAndTheirReset :
  (∃ (k : Fin 17) (s : State), s.mbRuns (↑k) 265 = true ∧ (s.slot ↑k).phase = 0 ∧ (s.flask (leAt (s.slot ↑k).args 0 1)).live = true ∧ List.isEmpty (s.flaskPhys (leAt (s.slot ↑k).args 0 1)) = false) :=
  ⟨0, st [.fld F.MOD_ROW_MAP_r_MAP 0 0xFEDCBA9876543210, .flasks 0 { FlaskSt.none with live := true, cores := [0], gib := 1, active := { MouldSt.none with present := true, cores := [0] } }, .fld F.CORE_STAT_STATE 0 2, .slots 0 { MbSlot.none with cmd := 0x109, state := 2, args := [0] }], by decide +kernel⟩

theorem witness_TheWidthFollowsTheSlagMap :
  (∃ (core : CoreId) (s : State), s.repairWaits 1 ↑core = [] ∧ s.healthy ↑core = true) :=
  ⟨0, State.reset, by decide +kernel⟩

theorem witness_TooNarrowIsOutOfService :
  (∃ (core : CoreId) (reason : Nat) (bad : List Nat) (s : State), s.repairWaits 1 ↑core = [] ∧ s.healthy ↑core = true ∧ (nextOf (exec (Instr.inServiceFence core reason bad) s)).slagWidth < 8) ∧
  (∃ (slot : Fin 16) (submit : Word) (s : State), s.mbServed = true ∧ (s.slot ↑slot).isOpen = true ∧ s.fget F.MOD_GRID_STAT_OUT_OF_SERVICE 0 = 1 ∧ BitVec.toNat submit % 2 ^ 16 = 259 ∧ bitOf (BitVec.toNat submit) 63 = true) :=
  ⟨⟨8, 0, [], st [.slag { State.reset.slag with run := [{ kind := 1, state := 1, reason := 1, flags := 0, location := 0, spare := 0, tc := 0 }, { kind := 1, state := 1, reason := 1, flags := 0, location := 1, spare := 0, tc := 0 }, { kind := 1, state := 1, reason := 1, flags := 0, location := 2, spare := 0, tc := 0 }, { kind := 1, state := 1, reason := 1, flags := 0, location := 3, spare := 0, tc := 0 }, { kind := 1, state := 1, reason := 1, flags := 0, location := 4, spare := 0, tc := 0 }, { kind := 1, state := 1, reason := 1, flags := 0, location := 5, spare := 0, tc := 0 }, { kind := 1, state := 1, reason := 1, flags := 0, location := 6, spare := 0, tc := 0 }, { kind := 1, state := 1, reason := 1, flags := 0, location := 7, spare := 0, tc := 0 }] }], by decide +kernel⟩,
  ⟨0, 0x8000000000000103, st [stageIs 5, .fld F.MOD_GRID_STAT_OUT_OF_SERVICE 0 1], by decide +kernel⟩⟩

theorem witness_FlaskListRecords :
  (∃ (k : Fin 17) (s : State) (f : Nat), s.mbRuns (↑k) 4 = true ∧ s.tenant ↑k = false ∧ f < 16 ∧ (s.flask f).live = true) :=
  ⟨0, st [.flasks 0 { FlaskSt.none with live := true }, .slots 0 { MbSlot.none with cmd := 0x004, state := 2, args := [] }], 0, by decide +kernel⟩

theorem witness_TheFirstDecodeFaultIsHeld :
  (∃ (req : FabricReq) (s : State), faModule req.fa = s.module ∧ s.faReason { crucible := req.crucible, flask := Option.map (fun f => ↑f) req.flask, tag := req.pourTag } req.fa (opLen req.op) (opWrites req.op) (formOk req.fa req.op) ≠ 0) :=
  ⟨{ fa := 0, op := .read 8, crucible := true, flask := none, pourTag := 0, counter := none, poison := false }, State.reset, by decide +kernel⟩

theorem witness_SlotRolesUntilTheLock :
  (∃ (s : State) (k : Nat), s.mbServed = true ∧ s.fget F.SAF_SLOT_ROLE_LOCK 0 = 0 ∧ k < 16) :=
  ⟨st [stageIs 5], 0, by decide +kernel⟩

theorem witness_RefusedGrantsLockOut :
  (∃ (v : Bool) (r : SlosyReq) (why : Nat) (s : State), s.dbg.req = some r ∧ r.cmd = 3 ∧ grantForm r.payload = true ∧ s.grantRefusal r.payload v = some why ∧ s.fget F.DBG_STAT_FAILS 0 = 3) ∧
  (∃ (v : Bool) (r : SlosyReq) (why : Nat) (s : State), s.dbg.req = some r ∧ r.cmd = 3 ∧ grantForm r.payload = true ∧ s.grantRefusal r.payload v = some why ∧ s.fget F.DBG_STAT_FAILS 0 < 3) ∧
  (∃ (v : Bool) (r : SlosyReq) (s : State), s.dbg.req = some r ∧ r.cmd = 3 ∧ grantForm r.payload = true ∧ s.grantRefusal r.payload v = none) ∧
  (∃ (r : SlosyReq) (s : State), s.dbg.req = some r ∧ r.cmd = 2 ∧ s.dbg.lockEnd = none) ∧
  (∃ (r : SlosyReq) (s : State), s.dbg.req = some r ∧ r.cmd = 2 ∧ s.dbg.lockEnd.isSome = true) ∧
  (∃ (e : Nat) (s : State), s.dbg.lockEnd = some e) :=
  ⟨⟨true, { tag := 0, cmd := 3, session := 0, payload := (List.replicate 48 0 ++ [1, 0, 0, 0, 1] ++ List.replicate 107 0) }, 0, st [.dbg { State.reset.dbg with req := some { tag := 0, cmd := 3, session := 0, payload := (List.replicate 48 0 ++ [1, 0, 0, 0, 1] ++ List.replicate 107 0) }, nonce := some 1 }, .fld F.SAF_KEYS_MOULD_PRESENT 0 3, .fld F.DBG_STAT_FAILS 0 3], by decide +kernel⟩,
  ⟨true, { tag := 0, cmd := 3, session := 0, payload := (List.replicate 48 0 ++ [1, 0, 0, 0, 1] ++ List.replicate 107 0) }, 0, st [.dbg { State.reset.dbg with req := some { tag := 0, cmd := 3, session := 0, payload := (List.replicate 48 0 ++ [1, 0, 0, 0, 1] ++ List.replicate 107 0) }, nonce := some 1 }, .fld F.SAF_KEYS_MOULD_PRESENT 0 3, .fld F.DBG_STAT_FAILS 0 0], by decide +kernel⟩,
  ⟨true, { tag := 0, cmd := 3, session := 0, payload := (List.replicate 48 0 ++ [1, 0, 0, 0, 1] ++ List.replicate 107 0) }, st [.dbg { State.reset.dbg with req := some { tag := 0, cmd := 3, session := 0, payload := (List.replicate 48 0 ++ [1, 0, 0, 0, 1] ++ List.replicate 107 0) }, nonce := some 0 }, .fld F.SAF_KEYS_MOULD_PRESENT 0 3], by decide +kernel⟩,
  ⟨{ tag := 0, cmd := 2, session := 0, payload := [] }, st [.dbg { State.reset.dbg with req := some { tag := 0, cmd := 2, session := 0, payload := [] } }], by decide +kernel⟩,
  ⟨{ tag := 0, cmd := 2, session := 0, payload := [] }, st [.dbg { State.reset.dbg with req := some { tag := 0, cmd := 2, session := 0, payload := [] }, lockEnd := some 5 }], by decide +kernel⟩,
  ⟨0, st [.dbg { State.reset.dbg with lockEnd := some 0 }], by decide +kernel⟩⟩

theorem witness_AuxiliaryRailFaultsAreFatal :
  (∃ (s : State), List.any (s.running) (fun f => decide (List.isEmpty (s.mouldPhys f) = false)) = true) :=
  ⟨st [.fld F.MOD_ROW_MAP_r_MAP 0 0xFEDCBA9876543210, .cores 0 { CoreSt.init with owner := some (0, 1) }, .flasks 0 { FlaskSt.none with live := true, cores := [0], gib := 1, active := { MouldSt.none with present := true, cores := [0], sections := [] } }, .fld F.CORE_STAT_STATE 0 3], by decide +kernel⟩

end Sys2Proof.Tests
end

section
/-! Every step is an effect, so that it keeps the canonical form (R17, R54, R62), and the state after reset. -/
namespace Sys2Proof.Machine

/-- The queue of waiting commands is no part of the canonical form. -/
theorem State.Wf.withPending {s : State} (h : s.Wf) (cs : List Instr) : State.Wf { s with pending := cs } := { h with }

/-- Every command but an input sample runs an effect: what it does to the state is a list of elementary updates. -/
theorem exec_eq_run (c : Instr) (s : State) (hc : ∀ mv ta watts tc, c ≠ .inputSample mv ta watts tc) : ∃ e : Eff, exec c s = run e s := by
  cases c
  case inputSample mv ta watts tc => exact absurd rfl (hc mv ta watts tc)
  all_goals exact ⟨_, rfl⟩

/-- An input sample that answers a next state was within the ratings of R705 and ran an effect. -/
theorem exec_inputSample_next {mv : Int} {ta watts tc : Nat} {s t : State} (h : exec (.inputSample mv ta watts tc) s = .next t) :
    ∃ e : Eff, t = Eff.on e s := by
  rw [exec_inputSample, execInputSample] at h
  split at h
  · cases h
  · rw [run_eq] at h; cases h; exact ⟨_, rfl⟩

/-- The next state of a command is what an effect leaves. -/
theorem exec_next {c : Instr} {s t : State} (h : exec c s = .next t) : ∃ e : Eff, t = Eff.on e s := by
  by_cases hc : ∃ mv ta watts tc, c = .inputSample mv ta watts tc
  · obtain ⟨mv, ta, watts, tc, rfl⟩ := hc
    exact exec_inputSample_next h
  · obtain ⟨e, he⟩ := exec_eq_run c s (fun mv ta watts tc hi => hc ⟨mv, ta, watts, tc, hi⟩)
    rw [he, run_eq] at h; cases h; exact ⟨e, rfl⟩

/-- The next state of a step is what an effect leaves of the state with the rest of the queue. -/
theorem step_next {s t : State} (h : step s = .next t) : ∃ e : Eff, t = Eff.on e { s with pending := s.pending.tail } := by
  unfold step at h
  split at h
  case h_1 hp => rw [run_eq] at h; cases h; exact ⟨tick, by rw [hp, List.tail_nil, ← hp]⟩
  case h_2 c cs hp => rw [hp]; exact exec_next h

/-- The state after reset is canonical: it lists nothing. -/
theorem State.reset_wf : State.reset.Wf := by constructor <;> rfl

end Sys2Proof.Machine

namespace Sys2Proof.Proofs
open Sys2Proof.Machine

/-- Settles O45: a step is a list of elementary updates, and each of them keeps the canonical form. -/
theorem stepKeepsTheStateWellFormed : Obligations.StepKeepsTheStateWellFormed := by
  intro s t hs h
  obtain ⟨e, rfl⟩ := step_next h
  exact Eff.wf e (hs.withPending _)

/-- Settles O46: the reset state stores no register field, so that each reads its table's reset value. -/
theorem resetIsWellFormedAndAtResetValues : Obligations.ResetIsWellFormedAndAtResetValues :=
  ⟨State.reset_wf, rfl, fun _ _ => rfl, rfl, rfl⟩

end Sys2Proof.Proofs
end

section
/-! The register file: what a register reads and what a write of all its 64 bits leaves in its fields (R17 to R20). -/
namespace Sys2Proof.Machine

/-! Bits of numbers. -/

theorem bitOf_eq_testBit (v b : Nat) : bitOf v b = v.testBit b := by
  rw [bitOf, Nat.testBit_eq_decide_div_mod_eq, beq_eq_decide]

theorem testBit_bitsOf (v lo len b : Nat) : (bitsOf v lo len).testBit b = (decide (b < len) && v.testBit (lo + b)) := by
  rw [bitsOf, Nat.testBit_mod_two_pow, Nat.testBit_div_two_pow, Nat.add_comm]

theorem bitsOf_lt (v lo len : Nat) : bitsOf v lo len < 2 ^ len := Nat.mod_lt _ (by positivity)

theorem bitsOf_and (v w lo len : Nat) : bitsOf (v &&& w) lo len = bitsOf v lo len &&& bitsOf w lo len := by
  apply Nat.eq_of_testBit_eq
  intro b
  simp only [testBit_bitsOf, Nat.testBit_and]
  cases decide (b < len) <;> simp

/-- The bits of a register that a write of all 64 covers in a field. -/
theorem bitsOf_ones {lo len : Nat} (h : lo + len ≤ 64) : bitsOf (2 ^ 64 - 1) lo len = 2 ^ len - 1 := by
  apply Nat.eq_of_testBit_eq
  intro b
  rw [testBit_bitsOf, Nat.testBit_two_pow_sub_one, Nat.testBit_two_pow_sub_one]
  by_cases hb : b < len
  · simp only [hb, decide_true, Bool.true_and, decide_eq_true_eq]; omega
  · simp [hb]

/-- A number added where another has no bit leaves that other's bits outside its place alone. -/
theorem testBit_add_outside {v x lo len b : Nat} (hx : x < 2 ^ len) (hv : ∀ j, lo ≤ j → j < lo + len → v.testBit j = false)
    (hb : b < lo ∨ lo + len ≤ b) : (v + x * 2 ^ lo).testBit b = v.testBit b := by
  have hlow : v % 2 ^ (lo + len) < 2 ^ lo := by
    refine Nat.lt_pow_two_of_testBit _ fun j hj => ?_
    rw [Nat.testBit_mod_two_pow]
    by_cases h : j < lo + len
    · simp [h, hv j hj h]
    · simp [h]
  have hin : 2 ^ lo * x + v % 2 ^ (lo + len) < 2 ^ (lo + len) := by
    rw [pow_add] at *
    nlinarith [Nat.mul_le_mul_left (2 ^ lo) hx]
  have hsum : v + x * 2 ^ lo = 2 ^ (lo + len) * (v / 2 ^ (lo + len)) + (2 ^ lo * x + v % 2 ^ (lo + len)) := by
    have := Nat.div_add_mod v (2 ^ (lo + len))
    rw [Nat.mul_comm x]; omega
  have hval : v.testBit b = if b < lo + len then (v % 2 ^ (lo + len)).testBit b else (v / 2 ^ (lo + len)).testBit (b - (lo + len)) := by
    rw [← Nat.testBit_two_pow_mul_add _ (Nat.mod_lt v (by positivity)), Nat.div_add_mod]
  rw [hsum, Nat.testBit_two_pow_mul_add _ hin, hval]
  split
  · rw [Nat.testBit_two_pow_mul_add _ hlow, if_pos (by omega)]
  · rfl

/-! Reading the store of fields. -/

/-- A key reads as the default or as an entry of the map. -/
theorem NMap.get_default_or_mem {α : Type} (d : α) (m : NMap α) (k : Nat) : NMap.get d m k = d ∨ (k, NMap.get d m k) ∈ m := by
  induction m with
  | nil => exact .inl rfl
  | cons e t ih =>
    obtain ⟨a, v⟩ := e
    by_cases h : a = k
    · subst h; simp [NMap.get]
    · simpa [NMap.get, h, Ne.symm h] using ih

/-- In a well-formed state a field whose reset value fits its width reads a value that does. -/
theorem State.Wf.fget_lt {s : State} (h : s.Wf) {f : Fld} {i : Nat} (hlen : f.len ≤ 64) (hreset : f.resetAt i < 2 ^ f.len) :
    s.fget f i < 2 ^ f.len := by
  rcases NMap.get_default_or_mem (f.resetAt i) s.flds (f.key i) with hd | hm
  · rw [State.fget, hd]; exact hreset
  · obtain ⟨-, hall⟩ := (fldsWf_iff _).1 h.flds
    have hlt := (hall _ hm).1
    rwa [Fld.key_len hlen i] at hlt

/-! The register tables. -/

/-- Two fields of a register share no bit. -/
def Fld.Apart (f g : Fld) : Prop := f.lo + f.len ≤ g.lo ∨ g.lo + g.len ≤ f.lo

theorem Reg.fields_apart (r : Reg) : r.fields.Pairwise Fld.Apart := by
  unfold Fld.Apart
  cases r <;> decide

/-- A field has a bit, lies within its register, and its table's reset value fits it. -/
theorem Reg.fields_fit (r : Reg) : ∀ f ∈ r.fields, 0 < f.len ∧ f.lo + f.len ≤ 64 ∧ f.reset < 2 ^ f.len := by
  cases r <;> decide

/-- How many copies of a register the module has. -/
def Reg.copies (r : Reg) : Nat := r.place.n1 * r.place.n2

/-- The reset value of a field fits it in every copy of its register that the module has: for CLU_ID the values of its 20 clusters (R62). -/
theorem Reg.resetAt_lt {r : Reg} {f : Fld} (hf : f ∈ r.fields) {i : Nat} (hi : i < r.copies) : f.resetAt i < 2 ^ f.len := by
  by_cases hr : r = .CLU_ID
  · subst hr
    have hClusters : ∀ j < 20, ∀ g ∈ Reg.CLU_ID.fields, g.resetAt j < 2 ^ g.len := by decide
    exact hClusters i hi f hf
  · have hTable : f.resetAt i = f.reset := by
      unfold Fld.resetAt
      split
      case h_1 h => exact absurd ((Reg.fields_reg r f hf).symm.trans h) hr
      case h_2 => rfl
    rw [hTable]
    exact (Reg.fields_fit r f hf).2.2

/-- In a well-formed state every field of a register the module has reads a value within its width. -/
theorem State.Wf.fget_lt_of_mem {s : State} (h : s.Wf) {r : Reg} {f : Fld} (hf : f ∈ r.fields) {i : Nat} (hi : i < r.copies) :
    s.fget f i < 2 ^ f.len := by
  obtain ⟨-, hplace, -⟩ := Reg.fields_fit r f hf
  exact h.fget_lt (by omega) (Reg.resetAt_lt hf hi)

/-! Reserved bits. -/

/-- Fields laid at their places set no bit outside them. -/
theorem testBit_foldl_outside {l : List Fld} (hl : l.Pairwise Fld.Apart) {x : Fld → Nat} (hx : ∀ f ∈ l, x f < 2 ^ f.len) {b : Nat}
    (hb : ∀ f ∈ l, b < f.lo ∨ f.lo + f.len ≤ b) {v : Nat} (hv : ∀ f ∈ l, ∀ j, f.lo ≤ j → j < f.lo + f.len → v.testBit j = false) :
    (l.foldl (fun v f => v + x f * 2 ^ f.lo) v).testBit b = v.testBit b := by
  induction l generalizing v with
  | nil => rfl
  | cons f l ih =>
    rw [List.pairwise_cons] at hl
    rw [List.forall_mem_cons] at hx hb hv
    obtain ⟨hfl, hl⟩ := hl
    obtain ⟨hxf, hx⟩ := hx
    obtain ⟨hbf, hb⟩ := hb
    obtain ⟨hvf, hv⟩ := hv
    rw [List.foldl_cons, ih hl hx hb, testBit_add_outside hxf hvf hbf]
    intro g hg j hlo hhi
    have hApart : f.lo + f.len ≤ g.lo ∨ g.lo + g.len ≤ f.lo := hfl g hg
    rw [testBit_add_outside hxf hvf (by omega), hv g hg j hlo hhi]

/-- In a well-formed state every bit outside the fields of a register the module has reads 0 (R18). -/
theorem State.Wf.regVal_reserved {s : State} (h : s.Wf) {r : Reg} {i b : Nat} (hi : i < r.copies)
    (hb : ∀ f ∈ r.fields, b < f.lo ∨ f.lo + f.len ≤ b) : bitOf (s.regVal r i) b = false := by
  have hRead : s.regVal r i = r.fields.foldl (fun v f => v + (if f.ty = .wo then 0 else s.fget f i) * 2 ^ f.lo) 0 := by
    simp only [State.regVal, ite_mul, Nat.zero_mul]
  rw [bitOf_eq_testBit, hRead, testBit_foldl_outside r.fields_apart _ hb (fun _ _ _ _ _ => Nat.zero_testBit _)]
  · exact Nat.zero_testBit b
  · intro f hf
    split
    · positivity
    · exact h.fget_lt_of_mem hf hi

/-! Writing the fields of a register. -/

theorem Fld.inReg_of_mem {r : Reg} {f : Fld} (hf : f ∈ r.fields) : f.inReg = true := by
  obtain ⟨hlen, hplace, -⟩ := Reg.fields_fit r f hf
  exact f.inReg_iff.2 (by omega)

/-- Fields that share no bit have keys of their own. -/
theorem Fld.Apart.key_ne {f g : Fld} (h : f.Apart g) (hf : f.inReg = true) (hg : g.inReg = true) (hlen : 0 < f.len) (i : Nat) :
    g.key i ≠ f.key i := by
  intro hk
  obtain ⟨-, hlo, hlen', -⟩ := Fld.key_inj hg hf hk
  have hApart : f.lo + f.len ≤ g.lo ∨ g.lo + g.len ≤ f.lo := h
  omega

/-- The updates that write to each field of a list the value that `w` gives it, if any. -/
def fieldWrites (w : Fld → Option Nat) (i : Nat) (l : List Fld) : List Upd := l.filterMap (fun f => (w f).map (.fld f i))

/-- A field that shares no bit with those written keeps its value. -/
theorem fget_fieldWrites_apart (w : Fld → Option Nat) (i : Nat) {l : List Fld} {f : Fld} (hl : ∀ g ∈ l, g.key i ≠ f.key i) (s : State) :
    (applyAll (fieldWrites w i l) s).fget f i = s.fget f i := by
  refine applyAll_frame (fun s => s.fget f i) (fun u hu s => ?_) s
  obtain ⟨g, hg, hu⟩ := List.mem_filterMap.1 hu
  obtain ⟨v, -, rfl⟩ := Option.map_eq_some_iff.1 hu
  exact Upd.fget_fld_ne v s (hl g hg)

/-- Each field of a register reads what `w` gives it, and its old value where `w` gives none. -/
theorem fget_fieldWrites (w : Fld → Option Nat) (i : Nat) (r : Reg) (hw : ∀ f ∈ r.fields, w f ≠ none → f.settable = true)
    {f : Fld} (hf : f ∈ r.fields) (s : State) :
    (applyAll (fieldWrites w i r.fields) s).fget f i = ((w f).map (· % 2 ^ f.len)).getD (s.fget f i) := by
  obtain ⟨l₁, l₂, hsplit⟩ := List.append_of_mem hf
  have hPairs := hsplit ▸ r.fields_apart
  rw [List.pairwise_append, List.pairwise_cons] at hPairs
  obtain ⟨-, ⟨hAfter, -⟩, hBefore⟩ := hPairs
  have hkey : ∀ g ∈ r.fields, g.Apart f ∨ f.Apart g → g.key i ≠ f.key i := fun g hg h =>
    Fld.Apart.key_ne (h.elim Or.symm id) (Fld.inReg_of_mem hf) (Fld.inReg_of_mem hg) (Reg.fields_fit r f hf).1 i
  have h₁ : ∀ g ∈ l₁, g.key i ≠ f.key i := fun g hg => hkey g (by simp [hsplit, hg]) (.inl (hBefore g hg f (by simp)))
  have h₂ : ∀ g ∈ l₂, g.key i ≠ f.key i := fun g hg => hkey g (by simp [hsplit, hg]) (.inr (hAfter g hg))
  have hParts : fieldWrites w i r.fields = fieldWrites w i l₁ ++ ((w f).map (.fld f i)).toList ++ fieldWrites w i l₂ := by
    rw [hsplit, fieldWrites, List.filterMap_append, List.filterMap_cons]
    cases w f <;> simp [fieldWrites]
  rw [hParts, applyAll_append, applyAll_append, fget_fieldWrites_apart w i h₂]
  cases hv : w f with
  | none => simpa using fget_fieldWrites_apart w i h₁ s
  | some v => simpa using Upd.fget_fld_same (hw f hf (by simp [hv])) i v _

/-! A write of all 64 bits of a register. -/

/-- Only fields that the hardware does not fix take a write. -/
theorem Reg.written_settable (r : Reg) : ∀ f ∈ r.fields, f.ty = .rw ∨ f.ty = .w1c ∨ f.ty = .w1s → f.settable = true := by
  cases r <;> decide

/-- What a write of all 64 bits `v` stores in a field by its type, before the hardware sets its bits; none where it stores nothing. -/
def fieldStored (f : Fld) (old v : Nat) : Option Nat :=
  let x := bitsOf v f.lo f.len
  match f.ty with
  | .rw => if reservedEncoding f x = true then none else some x
  | .w1c => if x = 0 then none else some (old - (old &&& x))
  | .w1s => if x = 0 then none else some (old ||| x)
  | _ => none

/-- What the hardware then sets in a W1C field; none where it sets nothing. -/
def fieldSet (f : Fld) (old v hw : Nat) : Option Nat :=
  let x := bitsOf v f.lo f.len &&& bitsOf hw f.lo f.len
  if f.ty = .w1c ∧ x ≠ 0 then some (old ||| x) else none

/-- The register's fields as a write of all 64 bits leaves them, before the hardware sets its bits. -/
theorem regWrite_ones {r : Reg} {i v : Nat} {s : State} (hOld : ∀ f ∈ r.fields, s.fget f i < 2 ^ f.len) :
    Eff.on (regWrite r i (2 ^ 64 - 1) v) s = applyAll (fieldWrites (fun f => fieldStored f (s.fget f i) v) i r.fields) s := by
  rw [regWrite, on_rd, on_upd, fieldWrites]
  congr 1
  refine List.filterMap_congr fun f hf => ?_
  obtain ⟨hlen, hplace, -⟩ := Reg.fields_fit r f hf
  have hx : bitsOf v f.lo f.len &&& (2 ^ f.len - 1) = bitsOf v f.lo f.len := by
    rw [Nat.and_two_pow_sub_one_eq_mod, Nat.mod_eq_of_lt (bitsOf_lt ..)]
  have hold : s.fget f i &&& (2 ^ f.len - 1) = s.fget f i := by
    rw [Nat.and_two_pow_sub_one_eq_mod, Nat.mod_eq_of_lt (hOld f hf)]
  have hm : 2 ^ f.len - 1 ≠ 0 := by have := Nat.one_lt_two_pow hlen.ne'; omega
  simp only [bitsOf_ones hplace, hx, hold, Nat.sub_self, Nat.add_zero, hm, false_or, fieldStored]
  cases f.ty
  case ro | wo | rc => rfl
  case rw | w1c | w1s => dsimp only; split <;> rfl

/-- The register's fields as the hardware then leaves them. -/
theorem regWriteHw_ones {r : Reg} {i v hw : Nat} {s : State} :
    Eff.on (regWriteHw r i (2 ^ 64 - 1) v hw) s =
      let t := Eff.on (regWrite r i (2 ^ 64 - 1) v) s
      applyAll (fieldWrites (fun f => fieldSet f (t.fget f i) v hw) i r.fields) t := by
  rw [regWriteHw, on_seq_cons, on_seq_cons, on_seq_nil, on_rd, on_upd]
  dsimp only [fieldWrites]
  congr 1
  refine List.filterMap_congr fun f hf => ?_
  obtain ⟨-, hplace, -⟩ := Reg.fields_fit r f hf
  have hx : (2 ^ f.len - 1) &&& bitsOf v f.lo f.len = bitsOf v f.lo f.len := by
    rw [Nat.and_comm, Nat.and_two_pow_sub_one_eq_mod, Nat.mod_eq_of_lt (bitsOf_lt ..)]
  simp only [bitsOf_and, bitsOf_ones hplace, hx, fieldSet]
  split <;> rfl

/-- A write by type stores the value that `fieldAfter` gives where the hardware sets no bit. -/
theorem fieldStored_getD {f : Fld} {old : Nat} (v : Nat) (hOld : old < 2 ^ f.len) :
    ((fieldStored f old v).map (· % 2 ^ f.len)).getD old = fieldAfter f old v 0 := by
  have hx := bitsOf_lt v f.lo f.len
  cases hty : f.ty
  case ro | wo | rc => simp [fieldStored, fieldAfter, hty]
  case rw =>
    simp only [fieldStored, fieldAfter, hty]
    split <;> simp [Nat.mod_eq_of_lt hx]
  case w1c =>
    have hz : bitsOf 0 f.lo f.len = 0 := by simp [bitsOf]
    simp only [fieldStored, fieldAfter, hty, hz, Nat.and_zero, Nat.or_zero]
    split
    next h => simp [h]
    next => exact Nat.mod_eq_of_lt (by omega)
  case w1s =>
    simp only [fieldStored, fieldAfter, hty]
    split
    next h => simp [h]
    next => exact Nat.mod_eq_of_lt (Nat.or_lt_two_pow hOld hx)

theorem fieldAfter_lt {f : Fld} {old : Nat} (v hw : Nat) (hOld : old < 2 ^ f.len) : fieldAfter f old v hw < 2 ^ f.len := by
  have hx := bitsOf_lt v f.lo f.len
  cases hty : f.ty
  case ro | wo | rc => simpa [fieldAfter, hty] using hOld
  case rw =>
    simp only [fieldAfter, hty]
    split <;> assumption
  case w1c =>
    simp only [fieldAfter, hty]
    exact Nat.or_lt_two_pow (by omega) (Nat.and_lt_two_pow _ (bitsOf_lt ..))
  case w1s =>
    simp only [fieldAfter, hty]
    exact Nat.or_lt_two_pow hOld hx

/-- The bits that the hardware sets in the cycle of the write are set after it (R18). -/
theorem fieldSet_getD {f : Fld} {old : Nat} (v hw : Nat) (hOld : old < 2 ^ f.len) :
    ((fieldSet f (fieldAfter f old v 0) v hw).map (· % 2 ^ f.len)).getD (fieldAfter f old v 0) = fieldAfter f old v hw := by
  have hMid := fieldAfter_lt v 0 hOld
  cases hty : f.ty
  case ro | wo | rc | rw | w1s => simp [fieldSet, fieldAfter, hty]
  case w1c =>
    have hSet : fieldAfter f old v hw = fieldAfter f old v 0 ||| (bitsOf v f.lo f.len &&& bitsOf hw f.lo f.len) := by
      simp [fieldAfter, hty, bitsOf]
    rw [hSet, fieldSet]
    simp only [hty, true_and]
    split
    next => exact Nat.mod_eq_of_lt (Nat.or_lt_two_pow hMid (Nat.and_lt_two_pow _ (bitsOf_lt ..)))
    next h => simp [not_not.1 h]

/-- A write of all 64 bits of a register leaves each field as its type says (R17, R18, R20). -/
theorem fget_regWriteHw_ones {r : Reg} {i v hw : Nat} {s : State} (hOld : ∀ f ∈ r.fields, s.fget f i < 2 ^ f.len) {f : Fld}
    (hf : f ∈ r.fields) : (Eff.on (regWriteHw r i (2 ^ 64 - 1) v hw) s).fget f i = fieldAfter f (s.fget f i) v hw := by
  have hStored : (Eff.on (regWrite r i (2 ^ 64 - 1) v) s).fget f i = fieldAfter f (s.fget f i) v 0 := by
    rw [regWrite_ones hOld, fget_fieldWrites _ i r _ hf, fieldStored_getD v (hOld f hf)]
    intro g hg hSome
    refine Reg.written_settable r g hg ?_
    revert hSome
    cases hty : g.ty <;> simp [fieldStored, hty]
  rw [regWriteHw_ones, fget_fieldWrites _ i r _ hf, hStored, fieldSet_getD v hw (hOld f hf)]
  intro g hg hSome
  refine Reg.written_settable r g hg (.inr (.inl ?_))
  by_contra hty
  exact hSome (by simp [fieldSet, hty])

/-! The command. -/

/-- A register without an effect of its own is written by the types of its fields. -/
theorem regStore_plain {r : Reg} (h : actsOnWrite r = false) (i mask v hw : Nat) : regStore r i mask v hw = regWriteHw r i mask v hw := by
  cases r
  case MOD_FA_FAULT_INFO | CLU_THERM | LDL_CTL | MOD_EVR_HEAD_n | PST_TIMER | PST_WAKE_EN | PST_WAKE_REQ | SAF_SLOT_ROLE | SAF_SLOT_FLASK =>
    exact absurd h (by decide)
  all_goals rfl

/-- REGISTER_WRITE of the 8 bytes of a register without an effect of its own, by Crucible or by a host that is served, writes its 64 bits. -/
theorem exec_registerWrite_plain {src : Src} {off : Nat} {data : List Byte} (hw : Word) {r : Reg} {i : Nat} {s : State} (hAlign : off % 8 = 0)
    (hBelow : off < 0xF00000) (hLen : data.length = 8) (hReg : Reg.atBar0 off = some (r, i)) (hPlain : actsOnWrite r = false)
    (hSrc : src = .crucible ∨ ∃ p, src = .host p ∧ s.hostServed p.val = true ∧ s.mbServed = true ∧ hostReadOnly r = false) :
    exec (.registerWrite src (.bar0 off) data hw) s = run (regWriteHw r i (2 ^ 64 - 1) (leNat data) hw.toNat) s := by
  have hOff : off / 8 * 8 = off := by omega
  have hWord : wordOk off 8 = true := by simp [wordOk, hAlign]
  have hMask : byteMask 0 8 = 2 ^ 64 - 1 := rfl
  rw [exec_registerWrite, execRegisterWrite, run_eq, run_eq]
  rcases hSrc with rfl | ⟨p, rfl, hHost, hMb, hMay⟩
  · simp [hLen, hWord, hOff, hReg, hAlign, hMask, regStore_plain hPlain]
  · have hNotMb : ¬ 0xFE0000 ≤ off := by omega
    have hNotMsix : ¬ (0xF00000 ≤ off ∧ off < 0xF08000) := by omega
    simp [hHost, bar0Write, hNotMb, hNotMsix, hLen, hWord, hOff, hReg, hMb, hMay, hAlign, hMask, regStore_plain hPlain]

/-- A register found at an offset is one that the module has. -/
theorem Reg.instAt_lt {r : Reg} {off i : Nat} (h : r.instAt off = some i) : i < r.copies := by
  dsimp only [Reg.instAt] at h
  rw [Option.ite_none_left_eq_some, Option.ite_none_right_eq_some, Option.some.injEq] at h
  obtain ⟨-, ⟨hRow, hCol, -⟩, rfl⟩ := h
  have hlt := Nat.mul_add_lt_mul_of_lt_of_lt hRow hCol
  rwa [Nat.mul_comm] at hlt

theorem Reg.findIn_lt {off : Nat} {l : List Reg} {r : Reg} {i : Nat} (h : Reg.findIn off l = some (r, i)) : i < r.copies := by
  induction l with
  | nil => cases h
  | cons q l ih =>
    unfold Reg.findIn at h
    split at h
    next hAt => cases h; exact Reg.instAt_lt hAt
    next => exact ih h

/-- REGISTER_WRITE of the 8 bytes of a register without an effect of its own, by Crucible or by a host that is served, leaves each field as its
type says and the other registers as they were (R17, R18, R20). -/
theorem registerWrite_fieldAfter {src : Src} {off : Nat} {data : List Byte} (hw : Word) {r : Reg} {i : Nat} {s : State} (hs : s.Wf)
    (hAlign : off % 8 = 0) (hBelow : off < 0xF00000) (hLen : data.length = 8) (hReg : Reg.atBar0 off = some (r, i)) (hPlain : actsOnWrite r = false)
    (hSrc : src = .crucible ∨ ∃ p, src = .host p ∧ s.hostServed p.val = true ∧ s.mbServed = true ∧ hostReadOnly r = false) :
    ∃ t, exec (.registerWrite src (.bar0 off) data hw) s = .next t ∧ SameBut [.fld r] s t ∧
      ∀ f ∈ r.fields, t.fget f i = fieldAfter f (s.fget f i) (leNat data) hw.toNat := by
  refine ⟨_, exec_registerWrite_plain hw hAlign hBelow hLen hReg hPlain hSrc, ?_, fun f hf => ?_⟩
  · exact Eff.Only.same (only_regWriteHw (.inl (List.mem_singleton_self _)) _ _ _ _) s
  · exact fget_regWriteHw_ones (fun g hg => hs.fget_lt_of_mem hg (Reg.findIn_lt hReg)) hf

end Sys2Proof.Machine

namespace Sys2Proof.Proofs
open Sys2Proof.Machine

/-- Refutes O51: its first clause bounds no number of a register's copy. In CLU_ID the numbers of a cluster 32, which the module does not have
(R5 gives 20), overflow their fields, so that in the reset state its reserved bit 5 reads 1. Of the copies that the module has the first clause
holds, by `State.Wf.regVal_reserved`; the second clause holds as it stands, by `registerWrite_fieldAfter`. -/
theorem not_registerWritesFollowTheFieldTypes : ¬ Obligations.RegisterWritesFollowTheFieldTypes := by
  rintro ⟨hReserved, -⟩
  have hClear : bitOf (State.reset.regVal .CLU_ID 32) 5 = false := hReserved _ _ _ _ State.reset_wf (by decide)
  exact absurd hClear (by decide)

end Sys2Proof.Proofs
end

section
/-! The organisation of the module: the identity register, the logical width and what a module too narrow refuses, and the capture of the first
decode fault (R32, R35, R54, R58). -/
namespace Sys2Proof.Machine

/-! Units and fields read after an effect. -/

/-- An effect that writes no slot leaves each of them as it was. -/
theorem Eff.Only.slot {ps : List Part} {e : Eff} (h : e.Only ps) (hp : Part.slots ∉ ps) (s : State) (k : Nat) : (Eff.on e s).slot k = s.slot k := by
  rw [State.slot, State.slot, h.frame_slots hp]

/-- An effect that writes no core's unit leaves each of them as it was. -/
theorem Eff.Only.core {ps : List Part} {e : Eff} (h : e.Only ps) (hp : Part.cores ∉ ps) (s : State) (p : Nat) : (Eff.on e s).core p = s.core p := by
  rw [State.core, State.core, h.frame_cores hp]

/-- A field written under a condition, read at another register, place or width. -/
theorem fget_when_fset_other {f g : Fld} (h : (f.inReg && g.inReg && (f.reg != g.reg || f.lo != g.lo || f.len != g.len)) = true) (b : Bool)
    (i j v : Nat) (s : State) : (Eff.on (when b (fset f i v)) s).fget g j = s.fget g j := by
  cases b
  · rfl
  · exact Upd.fget_fld_other h i j v s

/-! MOD_ID (R54). -/

/-- In a well-formed state a field of a register that the hardware fixes reads its reset value: nothing is stored for it. -/
theorem State.Wf.fget_hardReg {s : State} (h : s.Wf) {f : Fld} (hf : f.inReg = true) (hHard : hardReg f.reg.ix = true) (i : Nat) :
    s.fget f i = f.resetAt i := by
  rcases NMap.get_default_or_mem (f.resetAt i) s.flds (f.key i) with hDefault | hStored
  · exact hDefault
  · obtain ⟨-, hall⟩ := (fldsWf_iff _).1 h.flds
    obtain ⟨-, hSoft⟩ := hall _ hStored
    rw [Fld.key_reg (f.inReg_iff.1 hf) i, hHard] at hSoft
    cases hSoft

/-! The logical width (R32). -/

/-- The least of a bound and the values of a list's members lies below all of them and is one of them. -/
theorem foldl_min_spec {α : Type} (f : α → Nat) (l : List α) (a : Nat) :
    l.foldl (fun w r => min w (f r)) a ≤ a ∧ (∀ r ∈ l, l.foldl (fun w r => min w (f r)) a ≤ f r) ∧
      (l.foldl (fun w r => min w (f r)) a = a ∨ ∃ r ∈ l, l.foldl (fun w r => min w (f r)) a = f r) := by
  induction l generalizing a with
  | nil => simp
  | cons x l ih =>
    obtain ⟨hBound, hAll, hOne⟩ := ih (min a (f x))
    simp only [List.foldl_cons, List.forall_mem_cons, List.exists_mem_cons_iff]
    refine ⟨by omega, ⟨by omega, hAll⟩, ?_⟩
    rcases hOne with h | h
    · rcases Nat.le_total a (f x) with hx | hx
      · left; omega
      · right; left; omega
    · exact .inr (.inr h)

theorem State.slagWidth_le (s : State) : s.slagWidth ≤ 14 := (foldl_min_spec s.healthyIn (List.range 10) 14).1

/-- A core is healthy unless its entry records it as fenced (R32). -/
theorem State.healthy_iff (s : State) (p : Nat) : s.healthy p = true ↔ ∀ e, s.slagEntry 1 p = some e → e.state ≠ 1 := by
  unfold State.healthy
  cases s.slagEntry 1 p <;> simp

/-- The width follows the entries of the running copy of the slag map and nothing else. -/
theorem State.slagWidth_congr {s t : State} (h : t.slag.run = s.slag.run) : t.slagWidth = s.slagWidth := by
  simp only [State.slagWidth, State.healthyIn, State.healthy, State.slagEntry, h]

/-! The application of the grid and the in-service fence (R32, R35, R36). -/

/-- What an application of the grid does once its row maps are written. -/
theorem on_applyGrid (s : State) : ∃ (spares gen : Nat) (u : State), Eff.on applyGrid s =
    Eff.on gridStatus ((Upd.slag { s.slag with width := s.slagWidth }).apply (Eff.on (when (decide (s.slagWidth < 8))
      (fset F.MOD_GRID_STAT_OUT_OF_SERVICE 0 1)) ((Upd.fld F.MOD_GRID_STAT_GEN 0 gen).apply ((Upd.fld F.MOD_GRID_STAT_SPARES 0 spares).apply
        ((Upd.fld F.MOD_GRID_STAT_WIDTH 0 s.slagWidth).apply u))))) := by
  rw [applyGrid, on_rd, on_seq_cons, on_seq_cons, on_seq_cons, on_seq_cons, on_seq_cons, on_seq_cons, on_seq_cons, on_seq_nil, on_fset, on_fset,
    on_fadd, on_upd, on_upd, applyAll_cons, applyAll_nil]
  exact ⟨_, _, _, rfl⟩

/-- The application of the grid enters the width in the slag map's header and leaves its entries alone. -/
theorem applyGrid_slag (s : State) : (Eff.on applyGrid s).slag = { s.slag with width := s.slagWidth } := by
  obtain ⟨spares, gen, u, h⟩ := on_applyGrid s
  rw [h, (only_gridStatus (List.Subset.refl _)).frame_slag (by decide), Upd.slag_slag]

theorem slagWidth_applyGrid (s : State) : (Eff.on applyGrid s).slagWidth = s.slagWidth :=
  State.slagWidth_congr (by rw [applyGrid_slag])

/-- After an application of the grid WIDTH holds the width (R32, R55). -/
theorem applyGrid_WIDTH (s : State) : (Eff.on applyGrid s).fget F.MOD_GRID_STAT_WIDTH 0 = s.slagWidth := by
  obtain ⟨spares, gen, u, h⟩ := on_applyGrid s
  rw [h, (only_gridStatus (List.Subset.refl _)).fget (by decide) (by decide) (by decide), Upd.slag_fget,
    fget_when_fset_other (by decide), Upd.fget_fld_other (by decide), Upd.fget_fld_other (by decide), Upd.fget_fld_same (by decide)]
  exact Nat.mod_eq_of_lt (Nat.lt_of_le_of_lt s.slagWidth_le (by decide))

/-- An application of the grid that finds the width below 8 sets OUT_OF_SERVICE (R35). -/
theorem applyGrid_OUT_OF_SERVICE {s : State} (hNarrow : s.slagWidth < 8) : (Eff.on applyGrid s).fget F.MOD_GRID_STAT_OUT_OF_SERVICE 0 = 1 := by
  obtain ⟨spares, gen, u, h⟩ := on_applyGrid s
  rw [h, (only_gridStatus (List.Subset.refl _)).fget (by decide) (by decide) (by decide), Upd.slag_fget, decide_eq_true hNarrow, on_when_true,
    on_fset, Upd.fget_fld_same (by decide)]
  rfl

/-- After its application of the grid a fence writes neither the slag map nor MOD_GRID_STAT (R36). -/
theorem fenceCore_grid {p : Nat} (reason : Nat) (bad : List Nat) {s : State} (h : s.healthy p = true) :
    ∃ u : State, (Eff.on (fenceCore p reason bad) s).slag = (Eff.on applyGrid u).slag ∧
      ∀ f i, f.inReg = true → f.reg = .MOD_GRID_STAT → (Eff.on (fenceCore p reason bad) s).fget f i = (Eff.on applyGrid u).fget f i := by
  rw [fenceCore, on_rd, h, on_when_true, on_seq_cons, on_seq_cons, on_seq_cons, on_seq_cons, on_seq_cons]
  have hTail : Eff.Only [.cores, .ev, .flasks, .fld .CORE_MOULD, .fld .CORE_SC, .fld .CORE_SEQ, .fld .CORE_STAT, .fld .ME_STAT,
      .fld .QUEUE_BASE, .fld .QUEUE_CTL, .fld .QUEUE_DB, .fld .QUEUE_LEVEL, .fld .QUEUE_STAT, .fld .QUEUE_WM, .fld .SE_STAT, .fld .SPD_ELASTIC,
      .fld .SPD_STAT, .fld .SPR_STAT, .fld .VU_STAT, .mes, .queues, .ses, .vus]
      (seq [reown (s.movingFlasks p), fset F.SPR_STAT_OFF p 1, raiseFenced 1 reason p,
        rd fun t => when (decide (t.healthyIn (p / 16) ≤ t.fget F.MOD_GRID_STAT_WIDTH 0) && (s.logOf p).isSome) (raiseExhausted 1 p)]) :=
    only_seq_cons (only_reown (by decide) _) <| only_seq_cons (only_fset (by decide) _ _) <|
      only_seq_cons (only_raiseFenced (by decide) _ _ _) <|
      only_seq_cons (only_rd fun _ => only_when fun _ => only_raiseExhausted (by decide) _ _) <| only_seq_nil _
  exact ⟨_, hTail.frame_slag (by decide) _, fun f i hf hr => hTail.fget hf (by decide) (by rw [hr]; decide) _ i⟩

/-- An in-service fence of a healthy core for which no flask has to be drained leaves WIDTH at the width of the map, and OUT_OF_SERVICE set when
that is below 8. -/
theorem inServiceFence_width {core : CoreId} (reason : Nat) (bad : List Nat) {s : State} (hWaits : s.repairWaits 1 core.val = [])
    (hHealthy : s.healthy core.val = true) : ∃ t, exec (.inServiceFence core reason bad) s = .next t ∧
      t.fget F.MOD_GRID_STAT_WIDTH 0 = t.slagWidth ∧ (t.slagWidth < 8 → t.fget F.MOD_GRID_STAT_OUT_OF_SERVICE 0 = 1) := by
  obtain ⟨u, hSlag, hField⟩ := fenceCore_grid reason bad hHealthy
  have hWidth : (Eff.on (fenceCore core.val reason bad) s).slagWidth = u.slagWidth :=
    (State.slagWidth_congr (by rw [hSlag])).trans (slagWidth_applyGrid u)
  refine ⟨Eff.on (fenceCore core.val reason bad) s, ?_, ?_, fun hNarrow => ?_⟩
  · rw [exec_inServiceFence, execInServiceFence, run_eq, on_rd, hWaits]; rfl
  · rw [hField _ _ (by decide) rfl, applyGrid_WIDTH, hWidth]
  · rw [hField _ _ (by decide) rfl, applyGrid_OUT_OF_SERVICE (hWidth ▸ hNarrow)]

/-! The first decode fault (R58, R59). -/

/-- A decode fault puts its address into MOD_FA_FAULT_ADDR while VALID is 0, and leaves VALID set (R58). -/
theorem faFault_capture (fa reason : Nat) (write : Bool) (s : State) :
    (Eff.on (faFault fa reason write) s).fget F.MOD_FA_FAULT_INFO_VALID 0 = 1 ∧
      (Eff.on (faFault fa reason write) s).fget F.MOD_FA_FAULT_ADDR_FA 0 =
        (if s.fget F.MOD_FA_FAULT_INFO_VALID 0 = 1 then s.fget F.MOD_FA_FAULT_ADDR_FA 0 else fa % 2 ^ 64) := by
  simp only [faFault, on_rd, on_seq_cons, on_seq_nil, on_raise, on_fsat, Upd.ev_fget]
  rw [Upd.fget_fld_other (by decide), Upd.fget_fld_other (by decide)]
  by_cases hValid : s.fget F.MOD_FA_FAULT_INFO_VALID 0 = 1
  · simp [State.flag, hValid]
  · have hFirst : (!s.flag F.MOD_FA_FAULT_INFO_VALID 0) = true := by simpa [State.flag] using hValid
    simp only [hFirst, hValid, on_when_true, on_seq_cons, on_seq_nil, on_fset, on_fput, if_false]
    rw [Upd.fget_fld_same (by decide), Upd.fget_fld_other (by decide), Upd.fget_fld_other (by decide), Upd.fget_fld_other (by decide),
      Upd.fget_fld_same (by decide)]
    exact ⟨rfl, rfl⟩

/-- An access for this module that fails a check of R47 records its fault and is answered. -/
theorem fabricServe_refused {req : FabricReq} {s : State} (hModule : faModule req.fa = s.module)
    (hReason : s.faReason { crucible := req.crucible, flask := req.flask.map (fun f => f.val), tag := req.pourTag } req.fa (opLen req.op)
      (opWrites req.op) (formOk req.fa req.op) ≠ 0) :
    ∃ reason answered, Eff.on (fabricServe req) s = (Upd.resp answered).apply (Eff.on (faFault req.fa reason (opWrites req.op)) s) := by
  have hServe : (faModule req.fa == s.module) = true := by simp [hModule]
  rw [fabricServe, on_rd, hServe, on_when_true]
  unfold serve
  rw [on_rd, if_pos hReason, on_seq_cons, on_seq_cons, on_seq_nil, on_answer]
  exact ⟨_, _, rfl⟩

/-- Clearing VALID keeps the address (R58, R59). -/
theorem faRearm_capture (s : State) : (Eff.on faRearm s).fget F.MOD_FA_FAULT_INFO_VALID 0 = 0 ∧
    (Eff.on faRearm s).fget F.MOD_FA_FAULT_ADDR_FA 0 = s.fget F.MOD_FA_FAULT_ADDR_FA 0 := by
  simp only [faRearm, on_seq_cons, on_seq_nil, on_fset]
  rw [Upd.fget_fld_other (by decide), Upd.fget_fld_same (by decide), Upd.fget_fld_other (by decide), Upd.fget_fld_other (by decide)]
  exact ⟨rfl, rfl⟩

/-! A refused submission (R35, R474, R475). -/

/-- The end of a command writes its state, result, progress and end time in its slot (R477, R478). -/
theorem slot_mbEnd (k st result progress : Nat) (s : State) :
    (Eff.on (mbEnd k st result progress) s).slot k = { s.slot k with state := st, result, progress, tcEnd := s.tc } := by
  simp only [mbEnd, on_rd, on_seq_cons, on_seq_nil]
  rw [(only_mbNotify (List.Subset.refl _) k 0).slot (by decide),
    (only_when (fun _ => only_seq_cons (only_fbit (ps := [.fld .MOD_MB_SUMMARY]) (by decide) _ _ _)
      (only_seq_cons (only_fbit (by decide) _ _ _) (only_seq_nil _)))).slot (by decide),
    (only_mbBusy (List.Subset.refl _) k false).slot (by decide), onSlot_same]

theorem slot_mbFail (k status : Nat) (s : State) :
    (Eff.on (mbFail k status) s).slot k = { s.slot k with state := 5, result := status, tcEnd := s.tc } := by
  rw [mbFail, on_rd, slot_mbEnd]

/-- A command that fails its checks at acceptance ends FAILED (R474, R475). -/
theorem mbAccept_refused {k : Nat} {secured : Bool} {s : State}
    (h : ∀ args, s.mbCheck k (bitsOf (s.slot k).submit 16 13) (bitsOf (s.slot k).submit 0 16) args secured ≠ 0) :
    ((Eff.on (mbAccept k secured) s).slot k).state = 5 ∧ ((Eff.on (mbAccept k secured) s).slot k).cmd = bitsOf (s.slot k).submit 0 16 := by
  rw [mbAccept, on_rd, on_seq_cons, on_seq_cons, on_seq_cons, on_seq_cons, on_seq_nil, bne_iff_ne.2 (h _), on_either_true, slot_mbFail,
    (only_mbBusy (List.Subset.refl _) k true).slot (by decide), (only_upd (ps := [.mbOrder]) (by simp [Upd.part])).slot (by decide), onSlot_same]
  exact ⟨rfl, rfl⟩

/-- Acceptance refuses MB_MOULD_LOAD on a module that is out of service (R35). -/
theorem mbCheck_mouldLoad_outOfService {s : State} (h : s.fget F.MOD_GRID_STAT_OUT_OF_SERVICE 0 = 1) (k len : Nat) (args : List Byte)
    (secured : Bool) : s.mbCheck k len 0x0103 args secured ≠ 0 := by
  have hOut : (s.flag F.MOD_GRID_STAT_OUT_OF_SERVICE 0 && oosRefuses 0x0103 args) = true := by simp [State.flag, h, oosRefuses]
  simp only [State.mbCheck, hOut, if_true]
  split
  · decide
  · split_ifs <;> decide

/-- SUBMIT of a slot after a write of all its 8 bytes (R472). -/
def submitWritten (submit : Word) (old : Nat) : Nat :=
  submitBits ((submit.toNat &&& coverMask 255 8) + (old - (old &&& coverMask 255 8)))

/-- A write of all 8 bytes of SUBMIT leaves the command code and GO of the word written, whatever stood there. -/
theorem submitWritten_spec (submit : Word) (old : Nat) :
    bitsOf (submitWritten submit old) 0 16 = submit.toNat % 2 ^ 16 ∧ bitOf (submitWritten submit old) 63 = bitOf submit.toNat 63 := by
  have hCover : coverMask 255 8 = 2 ^ 64 - 1 := by decide
  have hlt := submit.isLt
  rw [submitWritten, hCover, Nat.and_two_pow_sub_one_eq_mod, Nat.and_two_pow_sub_one_eq_mod, Nat.mod_eq_of_lt hlt]
  refine ⟨?_, ?_⟩
  · simp only [submitBits, bitsOf]; omega
  · simp only [submitBits, bitsOf, bitOf, beq_eq_beq]; omega

/-- The state in which a slot whose SUBMIT was written whole at a time is accepted. -/
def State.submitted (s : State) (k : Nat) (submit : Word) (tc : Nat) : State :=
  Eff.on (onSlot k (fun m => { m with submit := submitWritten submit (s.slot k).submit })) (Eff.on (tcTo tc) s)

theorem slot_submitted (s : State) (k : Nat) (submit : Word) (tc : Nat) :
    (s.submitted k submit tc).slot k = { s.slot k with submit := submitWritten submit (s.slot k).submit } := by
  rw [State.submitted, onSlot_same, (only_tcTo (ps := [.fld .TC_NOW]) (by decide) tc).slot (by decide)]

/-- The submission of a slot moves no register but the time. -/
theorem fget_submitted (s : State) (k : Nat) (submit : Word) (tc : Nat) {f : Fld} (hf : f.inReg = true) (hr : f.reg ≠ .TC_NOW) (i : Nat) :
    (s.submitted k submit tc).fget f i = s.fget f i := by
  rw [State.submitted, (only_onSlot (ps := [.slots]) (by decide) k _).fget hf (by decide) (by simp),
    (only_tcTo (ps := [.fld .TC_NOW]) (by decide) tc).fget hf (by decide) (by simpa using hr)]

/-- A write of all of SUBMIT that sets GO submits the command of an open slot (R473, R474). -/
theorem exec_mbSubmit_go {slot : Fin 16} {submit : Word} (tc : Nat) {s : State} (hServed : s.mbServed = true)
    (hOpen : (s.slot slot.val).isOpen = true) (hGo : bitOf submit.toNat 63 = true) :
    exec (.mbSubmit slot submit 255 tc) s = run (mbAccept slot.val false) (s.submitted slot.val submit tc) := by
  have hTc : Eff.Only [.fld .TC_NOW] (tcTo tc) := only_tcTo (by decide) tc
  have hSlot : (Eff.on (tcTo tc) s).slot slot.val = s.slot slot.val := hTc.slot (by decide) s slot.val
  have hServed' : (Eff.on (tcTo tc) s).mbServed = true := by
    rw [State.mbServed, hTc.fget (by decide) (by decide) (by decide)]; exact hServed
  have hGo' : (bitOf 255 7 && bitOf (submitWritten submit (s.slot slot.val).submit) 63) = true := by
    rw [(submitWritten_spec _ _).2, hGo]; rfl
  rw [exec_mbSubmit, execMbSubmit, run_eq, run_eq, on_seq_cons, on_seq_cons, on_seq_nil, on_rd, hServed', on_when_true, hSlot, if_pos hOpen,
    on_seq_cons, on_seq_cons, on_seq_nil]
  change Host.Outcome.next (Eff.on (when (bitOf 255 7 && bitOf (submitWritten submit (s.slot slot.val).submit) 63) (mbAccept slot.val false))
    (s.submitted slot.val submit tc)) = _
  rw [hGo', on_when_true]

/-- A submission of MB_MOULD_LOAD to an open slot of a module out of service fails at acceptance (R35, R474). -/
theorem mbSubmit_mouldLoad_outOfService {slot : Fin 16} {submit : Word} (tc : Nat) {s : State} (hServed : s.mbServed = true)
    (hOpen : (s.slot slot.val).isOpen = true) (hOut : s.fget F.MOD_GRID_STAT_OUT_OF_SERVICE 0 = 1) (hCmd : submit.toNat % 2 ^ 16 = 0x0103)
    (hGo : bitOf submit.toNat 63 = true) : ∃ t, exec (.mbSubmit slot submit 255 tc) s = .next t ∧ (t.slot slot.val).state = 5 ∧
      (t.slot slot.val).cmd = 0x0103 := by
  have hCode : bitsOf ((s.submitted slot.val submit tc).slot slot.val).submit 0 16 = 0x0103 := by
    rw [slot_submitted, (submitWritten_spec _ _).1, hCmd]
  have hOut' : (s.submitted slot.val submit tc).fget F.MOD_GRID_STAT_OUT_OF_SERVICE 0 = 1 := by
    rw [fget_submitted _ _ _ _ (by decide) (by decide), hOut]
  obtain ⟨hState, hStored⟩ := mbAccept_refused (secured := false) (fun args => hCode ▸ mbCheck_mouldLoad_outOfService hOut' slot.val _ args false)
  exact ⟨_, exec_mbSubmit_go tc hServed hOpen hGo, hState, hStored.trans hCode⟩

end Sys2Proof.Machine

namespace Sys2Proof.Proofs
open Sys2Proof.Machine

/-- Settles O50: a well-formed state stores no field of MOD_ID, so that each reads its reset value. -/
theorem identityIsHardWired : Obligations.IdentityIsHardWired := by
  refine ⟨rfl, fun s hs => ?_⟩
  have hFamily : s.fget F.MOD_ID_FAMILY 0 = 0x0003 := hs.fget_hardReg (by decide) (by decide) 0
  have hPart : s.fget F.MOD_ID_PART 0 = 0x0020 := hs.fget_hardReg (by decide) (by decide) 0
  have hStepping : s.fget F.MOD_ID_STEPPING 0 = 0xB0 := hs.fget_hardReg (by decide) (by decide) 0
  have hLevel : s.fget F.MOD_ID_COMPAT_LEVEL 0 = 0x01 := hs.fget_hardReg (by decide) (by decide) 0
  refine ⟨?_, hFamily, hPart, hStepping, hLevel⟩
  have hFields : Reg.MOD_ID.fields = [F.MOD_ID_FAMILY, F.MOD_ID_PART, F.MOD_ID_STEPPING, F.MOD_ID_COMPAT_LEVEL] := rfl
  rw [State.regVal, hFields]
  simp only [List.foldl_cons, List.foldl_nil, hFamily, hPart, hStepping, hLevel]
  decide

/-- Settles O54: the width is a least value over the core-rows, and the fence's application of the grid is the last to write the map and WIDTH. -/
theorem theWidthFollowsTheSlagMap : Obligations.TheWidthFollowsTheSlagMap := by
  refine ⟨fun s => ?_, fun _ _ => rfl, State.healthy_iff, fun core reason bad s hWaits hHealthy => ?_⟩
  · simpa [State.slagWidth] using foldl_min_spec s.healthyIn (List.range 10) 14
  · obtain ⟨t, ht, hWidth, -⟩ := inServiceFence_width reason bad hWaits hHealthy
    exact ⟨t, ht, frame_execInServiceFence core reason bad s ht, hWidth⟩

/-- Settles O55: the fence's application of the grid sets OUT_OF_SERVICE, and the checks at acceptance refuse MB_MOULD_LOAD while it is 1. -/
theorem tooNarrowIsOutOfService : Obligations.TooNarrowIsOutOfService := by
  refine ⟨fun core reason bad s hWaits hHealthy => ?_, fun slot submit tc s hServed hOpen hOut hCmd hGo => ?_⟩
  · obtain ⟨t, ht, -, hNarrow⟩ := inServiceFence_width reason bad hWaits hHealthy
    exact ⟨t, ht, frame_execInServiceFence core reason bad s ht, hNarrow⟩
  · obtain ⟨t, ht, hEnd⟩ := mbSubmit_mouldLoad_outOfService tc hServed hOpen hOut hCmd hGo
    exact ⟨t, ht, frame_execMbSubmit slot submit 255 tc s ht, hEnd⟩

/-- Settles O57: a decode fault captures its address while VALID is 0, and clearing VALID writes another register. -/
theorem theFirstDecodeFaultIsHeld : Obligations.TheFirstDecodeFaultIsHeld := by
  refine ⟨rfl, rfl, fun req s hModule hReason => ?_, fun s => ?_⟩
  · refine ⟨_, rfl, frame_execFabricAccess req s rfl, ?_⟩
    obtain ⟨reason, answered, h⟩ := fabricServe_refused hModule hReason
    rw [h, Upd.resp_fget, Upd.resp_fget]
    exact faFault_capture req.fa reason (opWrites req.op) s
  · refine ⟨_, rfl, frame_execFaFaultValidClear none s rfl, ?_⟩
    rw [on_seq_cons, on_seq_cons, on_seq_nil, on_nop]
    exact faRearm_capture s

end Sys2Proof.Proofs
end

section
/-! The scratchpad's own commands (R260 to R280): what a store, a gather flush, a substitution, the scrub and the zeroing leave. -/
namespace Sys2Proof.Machine

/-! Bytes and members read after a change. -/

/-- A byte string read back where it was stored. -/
theorem Mem.rdN_wrN {bs : List Byte} {n : Nat} (h : bs.length = n) (m : List Host.Cell) (a : Nat) : Mem.rdN (Mem.wrN m a bs) a n = bs := by
  subst h
  induction bs generalizing m a with
  | nil => rfl
  | cons b bs ih => rw [Mem.wrN, List.length_cons, Mem.rdN, ih, Mem.rd_wrN_out _ _ _ _ (by omega), Mem.rd_wr_same]

theorem Mem.length_rdN (m : List Host.Cell) (n : Nat) : ∀ a, (Mem.rdN m a n).length = n := by
  induction n with
  | zero => intro a; rfl
  | succ n ih => intro a; rw [Mem.rdN, List.length_cons, ih]

/-- Bytes laid over a line leave its length. -/
theorem length_overlay (mask : Nat) (os : List Byte) : ∀ (i : Nat) (ns : List Byte), (overlay mask i os ns).length = os.length := by
  induction os with
  | nil => intro i ns; rfl
  | cons o os ih =>
    intro i ns
    cases ns with
    | nil => rfl
    | cons n ns => rw [overlay, List.length_cons, List.length_cons, ih]

theorem NSet.mem_del_same (l : List Nat) (k : Nat) : NSet.mem (NSet.del l k) k = false := by simp [NSet.mem, NSet.del]

theorem NSet.mem_add_same (l : List Nat) (k : Nat) : NSet.mem (NSet.add l k) k = true := by
  simp [NSet.mem, (NSet.mem_add l k k).2 (.inl rfl)]

/-! The elastic time-out (R265, R300). -/

/-- An event raised in a state whose events are those of an earlier one has occurred since. -/
theorem raised_raise (code sev : Nat) (w : Who) (d : List (Nat × Nat)) {s u : State} (h : u.ev = s.ev) :
    Raised s (Eff.on (raise code sev w d) u) code sev :=
  ⟨u.occurrence code sev 0 w (pack d), rfl, rfl, by rw [on_raise, Upd.ev_ev, h]⟩

/-- What an elastic access that timed out does, with its answer. -/
def elasticTimedOut (p : Nat) (bs : List Byte) (poison : Bool) (status : Nat) : Eff :=
  seq [fsat F.SPD_ELASTIC_TIMEOUT p 1, fset F.SPD_ELASTIC_TIMEOUT_SEEN p 1, answer bs poison status,
    rd fun s => raise 0x0305 1 (s.who p 109) [(8, s.fget F.SPD_ELASTIC_TIMEOUT p)]]

/-- A timed-out elastic access is counted, saturating, marked, raised and answered (R300). -/
theorem elasticTimedOut_spec (p : Nat) (bs : List Byte) (poison : Bool) (status : Nat) (s : State) :
    (Eff.on (elasticTimedOut p bs poison status) s).fget F.SPD_ELASTIC_TIMEOUT p =
        min (s.fget F.SPD_ELASTIC_TIMEOUT p + 1) (2 ^ F.SPD_ELASTIC_TIMEOUT.len - 1) ∧
      (Eff.on (elasticTimedOut p bs poison status) s).fget F.SPD_ELASTIC_TIMEOUT_SEEN p = 1 ∧
      Raised s (Eff.on (elasticTimedOut p bs poison status) s) 0x0305 1 ∧
      (Eff.on (elasticTimedOut p bs poison status) s).resp = some { bytes := bs, poison, status } := by
  rw [elasticTimedOut, on_seq_cons, on_seq_cons, on_seq_cons, on_seq_cons, on_seq_nil, on_rd, on_answer, on_fset, on_fsat]
  refine ⟨?_, ?_, raised_raise _ _ _ _ ?_, ?_⟩
  · rw [on_raise, Upd.ev_fget, Upd.resp_fget, Upd.fget_fld_other (by decide), Upd.fget_fld_same (by decide), satAdd]
    have hlen : F.SPD_ELASTIC_TIMEOUT.len = 16 := rfl
    rw [hlen]
    split <;> omega
  · rw [on_raise, Upd.ev_fget, Upd.resp_fget, Upd.fget_fld_same (by decide)]
    rfl
  · rw [Upd.resp_ev, Upd.fld_ev, Upd.fld_ev]
  · rw [on_raise, Upd.ev_resp, Upd.resp_resp]

/-- ELASTIC_ACCESS_TIMEOUT answers a read with poisoned zeros and any other access with status 1. -/
theorem elasticAccessTimeout_answers (c : CoreId) (op : AccessOp) (s : State) : ∃ bs poison status,
    exec (.elasticAccessTimeout c op) s = run (elasticTimedOut c.val bs poison status) s ∧
    (∀ n, op = .read n → bs = List.replicate n 0 ∧ poison = true ∧ status = 0) ∧
    ((∀ n, op ≠ .read n) → bs = [] ∧ poison = false ∧ status = 1) := by
  cases op with
  | read n => exact ⟨_, _, _, rfl, fun m hm => by cases hm; exact ⟨rfl, rfl, rfl⟩, fun h => absurd rfl (h n)⟩
  | write b => exact ⟨_, _, _, rfl, nofun, fun _ => ⟨rfl, rfl, rfl⟩⟩
  | addOnWrite fmt b => exact ⟨_, _, _, rfl, nofun, fun _ => ⟨rfl, rfl, rfl⟩⟩

/-! Stores and the gather flush (R267, R268, R273). -/

/-- A core's unit written, and every other one. -/
theorem core_cores (p q : Nat) (c : CoreSt) (s : State) : ((Upd.cores p c).apply s).core q = if q = p then c else s.core q := by
  rw [State.core, Upd.cores_cores]
  split
  · next h => rw [h, NMap.get_put_same]
  · next h => exact NMap.get_put_ne _ _ _ _ (Ne.symm h)

/-- A store in scratchpad puts its bytes there and nowhere else. -/
theorem spd_spdWr (p off : Nat) (bs : List Byte) (poison : Bool) (s : State) :
    (Eff.on (spdWr p off bs poison) s).spd = Mem.wrN s.spd (spdBase p + off) bs := by
  unfold Eff.on spdWr
  rw [applyAll_append, applyAll_cons]
  refine (applyAll_frame (fun s => s.spd) (fun u hu s => Upd.frame_spd ?_) _).trans
    (applyAll_frame (fun s => s.spd) (fun u hu s => Upd.frame_spd ?_) _)
  · split at hu
    · cases hu
    · rw [List.mem_singleton.1 hu]; nofun
  · obtain ⟨l, -, rfl⟩ := List.mem_map.1 hu
    nofun

/-- A store in scratchpad leaves the gather buffers alone. -/
theorem gather_spdWr (p off : Nat) (bs : List Byte) (poison : Bool) (s : State) (q : Nat) :
    ((Eff.on (spdWr p off bs poison) s).core q).gather = (s.core q).gather := by
  have hBytes (us : List Upd) (h : ∀ u ∈ us, u.part ≠ .cores) (s : State) : (applyAll us s).core q = s.core q :=
    applyAll_frame (fun s => s.core q) (fun u hu s => by rw [State.core, State.core, Upd.frame_cores (h u hu)]) s
  have hPoison (ls : List Nat) : ∀ u ∈ ls.map (fun l => Upd.spdPoison (p * 2 ^ 22 + l) poison), u.part ≠ .cores := by
    intro u hu
    obtain ⟨l, -, rfl⟩ := List.mem_map.1 hu
    nofun
  unfold Eff.on spdWr
  rw [applyAll_append, applyAll_cons]
  split
  · rw [applyAll_nil, hBytes _ (hPoison _)]
    rfl
  · rw [applyAll_cons, applyAll_nil, core_cores]
    split
    · next h => rw [h]
    · rw [hBytes _ (hPoison _)]
      rfl

/-- A flush of the entry that holds a line: the entry goes, its bytes are stored over the line, and the count follows (R268). -/
theorem on_gatherFlush {p line : Nat} {s : State} {g : GatherEnt} (h : (s.core p).gather.find? (fun g => g.line == line) = some g) :
    ∃ poison, Eff.on (gatherFlush p line) s = Eff.on (gatherCount p)
      (Eff.on (spdWr p (line * 64) (overlay g.mask 0 (s.spdRd p (line * 64) 64) g.bytes) poison)
        (Eff.on (onCore p (fun c => { c with gather := c.gather.filter (fun e => e.line != line) })) s)) := by
  have hLine : g.line = line := by simpa using List.find?_some h
  rw [gatherFlush, on_rd, h]
  dsimp only
  rw [on_seq_cons, on_seq_cons, on_seq_cons, on_seq_nil, gatherStore, on_rd, hLine]
  exact ⟨_, rfl⟩

theorem gatherFlush_none {p line : Nat} {s : State} (h : (s.core p).gather.find? (fun g => g.line == line) = none) :
    Eff.on (gatherFlush p line) s = s := by
  rw [gatherFlush, on_rd, h]
  rfl

/-- A flush takes the entry out of the buffer and lays its masked bytes over its line, and over no other byte (R268, R300). -/
theorem gatherFlush_found {p line : Nat} {s : State} {g : GatherEnt} (h : (s.core p).gather.find? (fun g => g.line == line) = some g) :
    ((Eff.on (gatherFlush p line) s).core p).gather = (s.core p).gather.filter (fun e => e.line != line) ∧
      (Eff.on (gatherFlush p line) s).spdRd p (line * 64) 64 = overlay g.mask 0 (s.spdRd p (line * 64) 64) g.bytes ∧
      (∀ a, a < spdBase p + line * 64 ∨ spdBase p + line * 64 + 64 ≤ a → Mem.rd (Eff.on (gatherFlush p line) s).spd a = Mem.rd s.spd a) ∧
      (Eff.on (gatherFlush p line) s).fget F.SPD_ELASTIC_GATHER_USED p =
        ((s.core p).gather.filter (fun e => e.line != line)).length % 2 ^ F.SPD_ELASTIC_GATHER_USED.len := by
  obtain ⟨poison, hFlush⟩ := on_gatherFlush h
  have hCount : Eff.Only [.fld .SPD_ELASTIC] (gatherCount p) := only_gatherCount (List.Subset.refl _) p
  have hEntry (f : CoreSt → CoreSt) : Eff.Only [.cores] (onCore p f) := only_onCore (by decide) p f
  have hLen : (overlay g.mask 0 (s.spdRd p (line * 64) 64) g.bytes).length = 64 := by rw [length_overlay, State.spdRd, Mem.length_rdN]
  rw [hFlush]
  refine ⟨?_, ?_, fun a ha => ?_, ?_⟩
  · rw [hCount.core (by decide), gather_spdWr, onCore_same]
  · rw [State.spdRd, hCount.frame_spd (by decide), spd_spdWr, Mem.rdN_wrN hLen]
  · rw [hCount.frame_spd (by decide), spd_spdWr, Mem.rd_wrN_out _ _ _ _ (by rw [hLen]; exact ha), (hEntry _).frame_spd (by decide)]
  · rw [gatherCount, on_rd, on_fset, Upd.fget_fld_same (by decide), gather_spdWr, onCore_same]

/-! Row substitution (R276). -/

/-- A substituted row is mapped to the lowest free spare of its bank, which is in use from then on, and is bad no longer (R276). -/
theorem substituteRow_spare {p bank row reason i : Nat} {s : State} (hFull : s.slagFull 3 = false) (hSpare : (s.core p).freeSpare bank = some i) :
    NMap.get 0 ((Eff.on (substituteRow p bank row reason) s).core p).rowMap (lineOf bank row) = i + 1 ∧
      NSet.mem ((Eff.on (substituteRow p bank row reason) s).core p).badRows (lineOf bank row) = false ∧
      NMap.get 0 ((Eff.on (substituteRow p bank row reason) s).core p).sparesUsed (bank * 64 + i) = 1 := by
  have hFound : (if s.slagFull 3 then none else (s.core p).freeSpare bank) = some i := by rw [hFull]; exact hSpare
  rw [substituteRow, on_rd]
  dsimp only
  rw [hFound]
  dsimp only
  rw [on_seq_cons, on_seq_cons, on_seq_cons, on_seq_cons, on_seq_cons, on_seq_cons, on_seq_nil,
    (only_rd fun _ => only_when fun _ => only_raiseExhausted (List.Subset.refl _) _ _).core (by decide),
    (only_coreBeacon (List.Subset.refl _) _ _ _ _).core (by decide), (only_raiseSubstituted (List.Subset.refl _) _ _ _ _).core (by decide),
    (only_spareMin (List.Subset.refl _) _).core (by decide), onCore_same, (only_slagRecord (List.Subset.refl _) _ _ _ _ _).core (by decide)]
  dsimp only
  exact ⟨NMap.get_put_same _ _ _ _, NSet.mem_del_same _ _, NMap.get_put_same _ _ _ _⟩

/-! The patrol scrub (R275, R299). -/

/-- The scrubber passes from a row to the next, from the last to row 0 with a pass counted, and notes that it is behind. -/
def scrubAdvance (p row : Nat) (behind : Bool) : Eff :=
  seq [either (decide (row ≥ 65599)) (seq [fset F.SPD_SCRUB_STAT_ROW p 0, fadd F.SPD_SCRUB_STAT_PASSES p 1]) (fset F.SPD_SCRUB_STAT_ROW p (row + 1)),
    when behind (fset F.SPD_SCRUB_STAT_BEHIND p 1)]

theorem scrubAdvance_wraps {p row : Nat} (h : 65599 ≤ row) (behind : Bool) (s : State) :
    (Eff.on (scrubAdvance p row behind) s).fget F.SPD_SCRUB_STAT_ROW p = 0 ∧
      (Eff.on (scrubAdvance p row behind) s).fget F.SPD_SCRUB_STAT_PASSES p =
        (s.fget F.SPD_SCRUB_STAT_PASSES p + 1) % 2 ^ F.SPD_SCRUB_STAT_PASSES.len := by
  rw [scrubAdvance, on_seq_cons, on_seq_cons, on_seq_nil, decide_eq_true h, on_either_true, on_seq_cons, on_seq_cons, on_seq_nil, on_fset, on_fadd,
    fget_when_fset_other (by decide), fget_when_fset_other (by decide), Upd.fget_fld_other (by decide), Upd.fget_fld_same (by decide),
    Upd.fget_fld_same (by decide), Upd.fget_fld_other (by decide)]
  exact ⟨rfl, rfl⟩

theorem scrubAdvance_next {p row : Nat} (h : row < 65599) (behind : Bool) (s : State) :
    (Eff.on (scrubAdvance p row behind) s).fget F.SPD_SCRUB_STAT_ROW p = row + 1 := by
  rw [scrubAdvance, on_seq_cons, on_seq_cons, on_seq_nil, decide_eq_false (by omega), on_either_false, on_fset, fget_when_fset_other (by decide),
    Upd.fget_fld_same (by decide)]
  exact Nat.mod_eq_of_lt (show row + 1 < 2 ^ 17 by omega)

theorem scrubAdvance_behind (p row : Nat) (s : State) : (Eff.on (scrubAdvance p row true) s).fget F.SPD_SCRUB_STAT_BEHIND p = 1 := by
  rw [scrubAdvance, on_seq_cons, on_seq_cons, on_seq_nil, on_when_true, on_fset, Upd.fget_fld_same (by decide)]
  rfl

/-- While DIS is set the scrubber does nothing (R275). -/
theorem exec_scrubRow_dis (c : CoreId) (x : ScrubFinding) {s : State} (h : s.fget F.SPD_SCRUB_CTL_DIS c.val = 1) :
    exec (.scrubRow c x) s = .next s := by
  have hDis : (!s.flag F.SPD_SCRUB_CTL_DIS c.val) = false := by simp [State.flag, h]
  rw [exec_scrubRow, execScrubRow, run_eq, on_rd]
  dsimp only
  rw [hDis, on_when_false]

/-- Otherwise it deals with what it found in its row, which touches none of its own registers, and passes on (R275, R299). -/
theorem exec_scrubRow_go (c : CoreId) (x : ScrubFinding) {s : State} (h : s.fget F.SPD_SCRUB_CTL_DIS c.val = 0) :
    ∃ u : State, (∀ f i, f.inReg = true → f.reg = .SPD_SCRUB_STAT → u.fget f i = s.fget f i) ∧
      exec (.scrubRow c x) s = run (scrubAdvance c.val (s.fget F.SPD_SCRUB_STAT_ROW c.val) x.behind) u := by
  have hDis : (!s.flag F.SPD_SCRUB_CTL_DIS c.val) = true := by simp [State.flag, h]
  rw [exec_scrubRow, execScrubRow, run_eq, on_rd]
  dsimp only
  rw [hDis, on_when_true, on_seq_cons]
  refine ⟨_, fun f i hf hr => ?_, rfl⟩
  refine Eff.Only.fget (ps := [.cores, .dbg, .ev, .faults, .flasks, .fld .CORE_MOULD, .fld .CORE_SC, .fld .CORE_SEQ,
    .fld .CORE_STAT, .fld .DBG_HOLD, .fld .LDL_CTX_n, .fld .ME_STAT, .fld .MOD_FAULT_STAT, .fld .MOD_GRID_STAT, .fld .MOD_MB_SUMMARY,
    .fld .QUEUE_BASE, .fld .QUEUE_CTL, .fld .QUEUE_DB, .fld .QUEUE_LEVEL, .fld .QUEUE_STAT, .fld .QUEUE_WM, .fld .SE_STAT, .fld .SPD_ECC,
    .fld .SPD_ECC_ADDR, .fld .SPD_STAT, .fld .SPR_STAT, .fld .VU_STAT, .hostOut, .hports, .ldls, .mes, .msgs, .queues, .ses, .slots, .spdPoison,
    .vus]) ?_ hf (by decide) (by rw [hr]; decide) s i
  split
  · exact only_seq_cons (only_when fun _ => only_spdCorrected (by decide) _ _ _) <|
      only_seq_cons (only_when fun _ => only_spdUncorrected (by decide) _ _ _) <| only_seq_nil _
  · exact only_seq_cons (only_when fun _ => only_seq_cons (only_fsat (by decide) _ _) <| only_seq_cons (only_fset (by decide) _ _) <|
        only_seq_nil _) <|
      only_seq_cons (only_when fun _ => only_seq_cons (only_fsat (by decide) _ _) <| only_seq_cons (only_fset (by decide) _ _) <|
        only_seq_cons (only_onCore (by decide) _ _) <| only_seq_cons (only_spareMin (by decide) _) <| only_seq_nil _) <| only_seq_nil _

/-! Zeroing (R279, R280). -/

/-- The zeroing of a core's scratchpad, where it is under way, comes to its end. -/
def zeroEnd (p : Nat) : Eff := rd fun s => when (s.flag F.SPD_STAT_ZEROING p) (seq [spdZero p, fset F.SPD_STAT_ZEROING p 0])

theorem only_zeroEnd (p : Nat) : Eff.Only [.spd, .spdPoison, .fld .SPD_STAT] (zeroEnd p) :=
  only_rd fun _ => only_when fun _ => only_seq_cons (only_spdZero (by decide) p) <| only_seq_cons (only_fset (by decide) _ _) <| only_seq_nil _

theorem zeroEnd_idle {p : Nat} {s : State} (h : s.fget F.SPD_STAT_ZEROING p = 0) : Eff.on (zeroEnd p) s = s := by
  have hFlag : s.flag F.SPD_STAT_ZEROING p = false := by simp [State.flag, h]
  rw [zeroEnd, on_rd, hFlag, on_when_false]

/-- Zeroing leaves every byte outside the core's part of the store alone. -/
theorem zeroEnd_outside {p a : Nat} {s : State} (h : a < spdBase p ∨ spdBase (p + 1) ≤ a) :
    Mem.rd (Eff.on (zeroEnd p) s).spd a = Mem.rd s.spd a := by
  rw [zeroEnd, on_rd]
  cases s.flag F.SPD_STAT_ZEROING p
  · rfl
  · rw [on_when_true, on_seq_cons, on_seq_cons, on_seq_nil, on_fset, Upd.fld_spd]
    exact NMap.get_clear_ne 0 s.spd (by omega)

/-- Zeroing ends with the core's part of the store cleared and ZEROING 0. -/
theorem zeroEnd_done {p : Nat} {s : State} (h : s.fget F.SPD_STAT_ZEROING p = 1) :
    (Eff.on (zeroEnd p) s).spd = NMap.clear s.spd (spdBase p) (spdBase (p + 1)) ∧ (Eff.on (zeroEnd p) s).fget F.SPD_STAT_ZEROING p = 0 := by
  have hFlag : s.flag F.SPD_STAT_ZEROING p = true := by simp [State.flag, h]
  rw [zeroEnd, on_rd, hFlag, on_when_true, on_seq_cons, on_seq_cons, on_seq_nil, on_fset, Upd.fget_fld_same (by decide), Upd.fld_spd]
  exact ⟨rfl, rfl⟩

/-- ZEROING_COMPLETE ends the zeroing and the state RESET; the mailbox commands that waited for it end without a further write of either. -/
theorem zeroingComplete_spec (c : CoreId) (s : State) : ∃ t, exec (.zeroingComplete c) s = .next t ∧
    t.spd = (Eff.on (zeroEnd c.val) s).spd ∧ t.fget F.SPD_STAT_ZEROING c.val = (Eff.on (zeroEnd c.val) s).fget F.SPD_STAT_ZEROING c.val ∧
    t.coreState c.val = (if s.coreState c.val = 5 then 0 else s.coreState c.val) := by
  have hWaiters : Eff.Only [.fld .MOD_MB_SUMMARY, .hostOut, .hports, .slots] zeroingWaiters := only_zeroingWaiters (List.Subset.refl _)
  have hState (b : Bool) : Eff.Only [.fld .CORE_STAT] (when b (fset F.CORE_STAT_STATE c.val 0)) := only_when fun _ => only_fset (by decide) _ _
  refine ⟨Eff.on zeroingWaiters (Eff.on (when (s.coreState c.val == 5) (fset F.CORE_STAT_STATE c.val 0)) (Eff.on (zeroEnd c.val) s)), ?_, ?_, ?_, ?_⟩
  · rw [exec_zeroingComplete, execZeroingComplete, run_eq, on_rd]
    dsimp only
    rw [on_seq_cons, on_seq_cons, on_seq_cons, on_seq_nil, zeroEnd, on_rd]
  · rw [hWaiters.frame_spd (by decide), (hState _).frame_spd (by decide)]
  · rw [hWaiters.fget (by decide) (by decide) (by decide), (hState _).fget (by decide) (by decide) (by decide)]
  · rw [State.coreState, hWaiters.fget (by decide) (by decide) (by decide)]
    by_cases h : s.coreState c.val = 5
    · rw [h, beq_self_eq_true, on_when_true, on_fset, Upd.fget_fld_same (by decide), if_pos rfl, Nat.zero_mod]
    · rw [beq_false_of_ne h, on_when_false, (only_zeroEnd c.val).fget (by decide) (by decide) (by decide), if_neg h]
      rfl

end Sys2Proof.Machine

namespace Sys2Proof.Proofs
open Sys2Proof.Machine

/-- Settles O15: each command's effect is read off by the rule of the operation it runs. -/
theorem scratchpadCommandsAct : Obligations.ScratchpadCommandsAct := by
  refine ⟨fun c op s => ?_, fun c line s => ?_, fun c line s => ?_, fun c bank row reason s => ?_, fun c x s => ?_, fun c s => ?_⟩
  · obtain ⟨bs, poison, status, ht, hRead, hWrite⟩ := elasticAccessTimeout_answers c op s
    obtain ⟨hCount, hSeen, hRaised, hResp⟩ := elasticTimedOut_spec c.val bs poison status s
    refine ⟨_, ht, frame_execElasticAccessTimeout c op s ht, hCount, hSeen, hRaised, fun n hn => ?_, fun hn => ?_⟩
    · obtain ⟨rfl, rfl, rfl⟩ := hRead n hn
      exact hResp
    · obtain ⟨rfl, rfl, rfl⟩ := hWrite hn
      exact hResp
  · refine ⟨_, rfl, frame_execGatherFlush c line s rfl, gatherFlush_none, fun g hg => ?_⟩
    obtain ⟨hGather, hLine, hOther, hUsed⟩ := gatherFlush_found hg
    exact ⟨hGather, fun _ => hLine, hOther, hUsed⟩
  · refine ⟨_, rfl, frame_execEccWriteBack c line s rfl, fun hDue => ?_, fun hNot => ?_⟩
    · rw [on_rd, hDue, on_when_true, onCore_same]
      exact ⟨NSet.mem_del_same _ _, NSet.mem_add_same _ _⟩
    · rw [on_rd, hNot, on_when_false]
  · refine ⟨_, rfl, frame_execRowSubstitution c bank row reason s rfl, fun i hRow hNamed hFull hSpare => ?_, fun hNot => ?_⟩
    · have hMay : (decide (row < 65536) && (reason != 3 || NSet.mem (s.core c.val).badRows (lineOf bank.val row))) = true := by
        simpa [hRow] using hNamed
      rw [on_rd, hMay, on_when_true]
      exact substituteRow_spare hFull hSpare
    · have hMayNot : (decide (row < 65536) && (reason != 3 || NSet.mem (s.core c.val).badRows (lineOf bank.val row))) = false := by
        rcases hNot with h | ⟨h, hBad⟩
        · simp [h]
        · simp [h, hBad]
      rw [on_rd, hMayNot, on_when_false]
  · refine ⟨_, rfl, frame_execScrubRow c x s rfl, fun hDis => Host.Outcome.next.inj (exec_scrubRow_dis c x hDis), fun hOn hRow => ?_,
      fun hOn hRow => ?_, fun hOn hBehind => ?_⟩
    all_goals
      obtain ⟨u, hu, ht⟩ := exec_scrubRow_go c x hOn
      rw [Host.Outcome.next.inj ht]
    · rw [← hu F.SPD_SCRUB_STAT_PASSES c.val (by decide) rfl]
      exact scrubAdvance_wraps hRow _ u
    · exact scrubAdvance_next hRow _ u
    · rw [hBehind]
      exact scrubAdvance_behind _ _ u
  · obtain ⟨t, ht, hSpd, hZeroing, hState⟩ := zeroingComplete_spec c s
    refine ⟨t, ht, frame_execZeroingComplete c s ht, fun h => ?_, fun h => ?_, fun a ha => ?_, hState⟩
    · obtain ⟨hClear, hDone⟩ := zeroEnd_done h
      refine ⟨hZeroing.trans hDone, fun a ha => ?_⟩
      rw [hSpd, hClear, Mem.rd, NMap.get_clear_in 0 _ (by simp only [spdBase]; omega)]
    · rw [hSpd, zeroEnd_idle h]
    · rw [hSpd]
      exact zeroEnd_outside ha

end Sys2Proof.Proofs
end

section
/-! Steps on the queue (R66, R67, R70): the nanosecond that passes when no command waits. -/
namespace Sys2Proof.Machine

/-- The time counter reads what is written to it, cut to its 64 bits. -/
theorem tc_fset (v : Nat) (s : State) : (Eff.on (fset F.TC_NOW_COUNT 0 v) s).tc = v % 2 ^ 64 := Upd.fget_fld_same (by decide) 0 v s

/-- In STANDBY, which takes the TC domain's supply, a nanosecond changes nothing (R66, R537). -/
theorem tick_standby {s : State} (h : s.pstate = 4) : Eff.on tick s = s := by
  have hOff : (s.fget F.PST_STAT_STATE 0 != 4) = false := by simpa [State.pstate] using h
  rw [tick, on_rd, hOff, on_when_false]

/-- The nanosecond is one that R70 may slew: something is left to slew, and 1,024 ns have passed since the last. -/
def State.maySlew (s : State) : Bool := decide (s.align.slew ≠ 0) && decide (s.align.slewedAt + 1024 ≤ s.tc)

/-- A nanosecond that is not slewed moves TC on by 1. -/
theorem tick_plain {s : State} (hOn : s.pstate ≠ 4) (hSlew : s.maySlew = false) :
    (Eff.on tick s).tc = (s.tc + 1) % 2 ^ 64 ∧ (Eff.on tick s).align = s.align := by
  have hOn' : (s.fget F.PST_STAT_STATE 0 != 4) = true := by simpa [State.pstate] using hOn
  rw [State.maySlew] at hSlew
  rw [tick, on_rd, hOn', on_when_true, on_seq_cons, on_seq_cons, on_seq_nil, hSlew, on_when_false]
  exact ⟨tc_fset _ s, Upd.fld_align ..⟩

/-- A slewed nanosecond moves TC on by 2 or leaves it, and there is one less to slew (R70). -/
theorem tick_slewed {s : State} (hOn : s.pstate ≠ 4) (hSlew : s.maySlew = true) :
    (Eff.on tick s).tc = (s.tc + if decide (s.align.slew > 0) then 2 else 0) % 2 ^ 64 ∧
      (Eff.on tick s).align =
        { s.align with slew := if decide (s.align.slew > 0) then s.align.slew - 1 else s.align.slew + 1, slewedAt := s.tc } := by
  have hOn' : (s.fget F.PST_STAT_STATE 0 != 4) = true := by simpa [State.pstate] using hOn
  rw [State.maySlew] at hSlew
  rw [tick, on_rd, hOn', on_when_true, on_seq_cons, on_seq_cons, on_seq_nil, hSlew, on_when_true]
  exact ⟨tc_fset _ s, rfl⟩

/-- On an empty queue a step is a nanosecond. -/
theorem step_empty {s : State} (h : s.pending = []) : step s = .next (Eff.on tick s) := by rw [step, h, run_eq]

end Sys2Proof.Machine

namespace Sys2Proof.Proofs
open Sys2Proof.Machine

/-- Settles O44: on an empty queue a step is `tick`, and no effect touches the queue. -/
theorem stepTakesOneCommandOrTicks : Obligations.StepTakesOneCommandOrTicks := by
  refine ⟨fun s hEmpty => ⟨_, step_empty hEmpty, (only_tick (List.Subset.refl _)).same s, tick_standby, fun hOn hRest => ?_, fun hOn hUp hAgo => ?_,
    fun hOn hDown hAgo => ?_⟩, fun s t h => ?_⟩
  · exact tick_plain hOn (by simp only [State.maySlew, Bool.and_eq_false_iff, decide_eq_false_iff_not]; omega)
  · have hMay : s.maySlew = true := by simp only [State.maySlew, Bool.and_eq_true, decide_eq_true_eq]; omega
    simpa [hUp] using tick_slewed hOn hMay
  · have hMay : s.maySlew = true := by simp only [State.maySlew, Bool.and_eq_true, decide_eq_true_eq]; omega
    simpa [hDown.not_gt] using tick_slewed hOn hMay
  · obtain ⟨e, rfl⟩ := step_next h
    exact on_pending e _

end Sys2Proof.Proofs
end

section
/-! What can move the time counter (R66, R67, R70): the parts of the state beside TC_NOW, and effects that never take TC back. -/
namespace Sys2Proof.Machine

/-! Effects that leave TC alone. -/

/-- The parts of the state that are not register fields. -/
def offTheRegisters : List Part :=
  [.slag, .seam, .align, .gclk, .dec, .ctl, .cores, .mes, .ses, .vus, .spd, .spdPoison, .dram, .dramPoison, .dramWritten, .caches,
    .refreshOnly, .refreshed, .flasks, .queues, .ldls, .msix, .hports, .hostOut, .rings, .ev, .slots, .mbOrder, .msgs, .ports, .pour,
    .faults, .pep, .power, .resp, .dbg, .pst, .boot, .saf, .svc, .freeCtr]

/-- Every part of the state but TC_NOW, with the register fields taken register by register. -/
def clockFree : List Part := (((List.range 256).map Reg.ofNat).filter (· != .TC_NOW)).map .fld ++ offTheRegisters

/-- A part that holds no field of TC_NOW. -/
def Part.offClock : Part → Bool
  | .fld r => r != .TC_NOW
  | .flds => false
  | _ => true

theorem Part.mem_clockFree_iff {p : Part} : p ∈ clockFree ↔ p.offClock = true := by
  cases p
  case fld r => simpa [clockFree, offTheRegisters, Part.offClock] using fun _ => ⟨r.ix, r.ix_lt, r.ofNat_ix⟩
  all_goals simp [clockFree, offTheRegisters, Part.offClock]

theorem mem_clockFree {p : Part} (h : p.offClock = true) : p ∈ clockFree := Part.mem_clockFree_iff.2 h

theorem sub_clockFree {ps : List Part} (h : ps.all Part.offClock = true) : ps ⊆ clockFree :=
  fun _ hp => mem_clockFree (List.all_eq_true.1 h _ hp)

/-- Elementary updates of parts beside TC_NOW. -/
theorem clockFree_upd {us : List Upd} (h : us.all (fun u => u.part.offClock) = true) : Eff.Only clockFree (upd us) :=
  only_upd fun _ hu => mem_clockFree (List.all_eq_true.1 h _ hu)

/-- An effect on the parts beside TC_NOW leaves TC as it was. -/
theorem Eff.Only.tc {e : Eff} (h : e.Only clockFree) (s : State) : (Eff.on e s).tc = s.tc :=
  h.fget (by decide) (by simp [Part.mem_clockFree_iff, Part.offClock]) (by simp [Part.mem_clockFree_iff, Part.offClock, F.TC_NOW_COUNT]) s 0

/-- A command that writes no field of TC_NOW leaves TC as it was. -/
theorem SameBut.tc_le {ps : List Part} {s t : State} (h : SameBut ps s t) (hp : ps.all Part.offClock = true) : s.tc ≤ t.tc := by
  have hOff : ∀ p ∈ ps, p.offClock = true := List.all_eq_true.1 hp
  exact (h.fld F.TC_NOW_COUNT 0 (by decide) (fun hm => absurd (hOff _ hm) (by decide)) (fun hm => absurd (hOff _ hm) (by decide))).ge

/-! Effects that never take TC back. -/

/-- Whatever state an effect meets, TC is afterwards where it was or further on. -/
def Eff.Forward (e : Eff) : Prop := ∀ s : State, s.tc < 2 ^ 64 → s.tc ≤ (Eff.on e s).tc ∧ (Eff.on e s).tc < 2 ^ 64

theorem Eff.Only.forward {e : Eff} (h : e.Only clockFree) : e.Forward := fun s hs => by rw [h.tc]; exact ⟨le_rfl, hs⟩
theorem forward_tcTo (t : Nat) : Eff.Forward (tcTo t) := fun s hs => by
  have hlt : t % 2 ^ 64 < 2 ^ 64 := Nat.mod_lt _ (by positivity)
  rw [tc_tcTo, Nat.mod_eq_of_lt (max_lt hs hlt)]
  exact ⟨Nat.le_max_left .., max_lt hs hlt⟩
theorem forward_seq_nil : Eff.Forward (seq []) := (only_seq_nil clockFree).forward
theorem forward_seq_cons {e : Eff} {es : List Eff} (h : e.Forward) (h' : Eff.Forward (seq es)) : Eff.Forward (seq (e :: es)) := fun s hs => by
  obtain ⟨hle, hlt⟩ := h s hs
  obtain ⟨hle', hlt'⟩ := h' _ hlt
  rw [on_seq_cons]
  exact ⟨hle.trans hle', hlt'⟩
theorem forward_rd {k : State → Eff} (h : ∀ s, Eff.Forward (k s)) : Eff.Forward (rd k) := fun s => h s s
theorem forward_when {b : Bool} {e : Eff} (h : e.Forward) : Eff.Forward (when b e) := by
  cases b
  · exact forward_seq_nil
  · exact h

/-- The shape of most commands that carry a time: TC moves on to it, then effects that leave TC alone. -/
theorem forward_timed_seq {t : Nat} {es : List Eff} (h : Eff.Only clockFree (seq es)) : Eff.Forward (seq (tcTo t :: es)) :=
  forward_seq_cons (forward_tcTo t) h.forward
theorem forward_timed {t : Nat} {e : Eff} (h : e.Only clockFree) : Eff.Forward (seq [tcTo t, e]) :=
  forward_timed_seq (only_seq_cons h (only_seq_nil _))

/-- A command that runs an effect which never takes TC back. -/
theorem Eff.Forward.tc_le {e : Eff} (h : e.Forward) {s t : State} (hs : s.tc < 2 ^ 64) (hRun : run e s = .next t) : s.tc ≤ t.tc := by
  cases hRun
  exact (h s hs).1

/-! Sequences of a few effects. -/

theorem only_seq₂ {ps : List Part} {a b : Eff} (ha : a.Only ps) (hb : b.Only ps) : Eff.Only ps (seq [a, b]) :=
  only_seq_cons ha (only_seq_cons hb (only_seq_nil ps))
theorem only_seq₃ {ps : List Part} {a b c : Eff} (ha : a.Only ps) (hb : b.Only ps) (hc : c.Only ps) : Eff.Only ps (seq [a, b, c]) :=
  only_seq_cons ha (only_seq₂ hb hc)
theorem only_seq₄ {ps : List Part} {a b c d : Eff} (ha : a.Only ps) (hb : b.Only ps) (hc : c.Only ps) (hd : d.Only ps) :
    Eff.Only ps (seq [a, b, c, d]) := only_seq_cons ha (only_seq₃ hb hc hd)
theorem only_seq₅ {ps : List Part} {a b c d e : Eff} (ha : a.Only ps) (hb : b.Only ps) (hc : c.Only ps) (hd : d.Only ps) (he : e.Only ps) :
    Eff.Only ps (seq [a, b, c, d, e]) := only_seq_cons ha (only_seq₄ hb hc hd he)
theorem only_ite {ps : List Part} {p : Prop} [Decidable p] {a b : Eff} (ha : a.Only ps) (hb : b.Only ps) : Eff.Only ps (if p then a else b) := by
  split <;> assumption

/-! Register writes: the fields of TC_NOW are read-only (R17). -/

/-- Updates of fields of a register that are not read-only. -/
theorem within_clockFree_fields {r : Reg} {us : List Upd} (h : ∀ u ∈ us, ∃ f ∈ r.fields, f.ty ≠ .ro ∧ u.part = .fld f.reg) :
    Within clockFree us := by
  intro u hu
  obtain ⟨f, hf, hty, hpart⟩ := h u hu
  refine .inl (hpart ▸ mem_clockFree ?_)
  rw [Reg.fields_reg r f hf]
  refine bne_iff_ne.2 fun hr => hty ?_
  subst hr
  rw [List.mem_singleton.1 (show f ∈ [F.TC_NOW_COUNT] from hf)]
  rfl

theorem clockFree_regWrite (r : Reg) (i mask v : Nat) : Eff.Only clockFree (regWrite r i mask v) :=
  only_rd fun s => only_updates <| within_clockFree_fields fun u hu => by
    obtain ⟨f, hf, hu⟩ := List.mem_filterMap.1 hu
    refine ⟨f, hf, ?_⟩
    dsimp only at hu
    split at hu
    case h_4 => cases hu
    all_goals
      next hty =>
        split at hu <;> cases hu
        exact ⟨by rw [hty]; nofun, rfl⟩

theorem clockFree_regWriteHw (r : Reg) (i mask v hw : Nat) : Eff.Only clockFree (regWriteHw r i mask v hw) :=
  only_seq₂ (clockFree_regWrite r i mask v) <| only_rd fun s => only_updates <| within_clockFree_fields fun u hu => by
    obtain ⟨f, hf, hu⟩ := List.mem_filterMap.1 hu
    dsimp only at hu
    split at hu <;> cases hu
    next h => exact ⟨f, hf, by rw [h.1]; nofun, rfl⟩

theorem clockFree_regReadClears (r : Reg) (i lo len : Nat) : Eff.Only clockFree (regReadClears r i lo len) :=
  only_updates <| within_clockFree_fields fun u hu => by
    obtain ⟨f, hf, rfl⟩ := List.mem_map.1 hu
    simp only [List.mem_filter, Bool.and_eq_true, beq_iff_eq] at hf
    exact ⟨f, hf.1, by rw [hf.2.1.1]; nofun, rfl⟩

theorem clockFree_regWriteRw (r : Reg) (i mask v : Nat) : Eff.Only clockFree (regWriteRw r i mask v) :=
  only_rd fun s => only_updates <| within_clockFree_fields fun u hu => by
    obtain ⟨f, hf, hu⟩ := List.mem_filterMap.1 hu
    simp only [List.mem_filter, beq_iff_eq] at hf
    dsimp only at hu
    split at hu <;> cases hu
    exact ⟨f, hf.1, by rw [hf.2]; nofun, rfl⟩

theorem clockFree_regStore (r : Reg) (i mask v hw : Nat) : Eff.Only clockFree (regStore r i mask v hw) := by
  have hWrite : Eff.Only clockFree (regWriteHw r i mask v hw) := clockFree_regWriteHw r i mask v hw
  refine only_rd fun s => ?_
  cases r
  case MOD_FA_FAULT_INFO => exact only_when fun _ => only_faRearm (sub_clockFree rfl)
  case CLU_THERM => exact only_seq₂ hWrite (only_when fun _ => only_peakClear (sub_clockFree rfl) _)
  case LDL_CTL => exact only_each fun _ _ => only_ctxAbort (sub_clockFree rfl) _ _ _
  case MOD_EVR_HEAD_n => exact only_when fun _ => only_evrHeadWrite (sub_clockFree rfl) _ _
  case PST_TIMER | PST_WAKE_EN => exact only_seq₂ hWrite (only_timerTest (sub_clockFree rfl))
  case PST_WAKE_REQ => exact only_when fun _ => only_latchSet (sub_clockFree rfl) _
  case SAF_SLOT_ROLE | SAF_SLOT_FLASK => exact only_when fun _ => hWrite
  all_goals exact hWrite

theorem clockFree_bar0Write (p off : Nat) (bs : List Byte) (hw : Nat) : Eff.Only clockFree (bar0Write p off bs hw) := by
  refine only_rd fun s => only_ite (only_ite ?_ (only_when fun _ => ?_)) (only_ite ?_ (only_ite (only_when fun _ => ?_) ?_))
  · exact only_badSize (sub_clockFree rfl) p
  · exact only_mbWrite (sub_clockFree rfl) _ _ _
  · exact only_badSize (sub_clockFree rfl) p
  · exact only_msixTableWrite (sub_clockFree rfl) _ _ _
  · split
    · exact only_when fun _ => clockFree_regStore _ _ _ _ _
    · exact only_nop _

/-- REGISTER_WRITE leaves TC alone, whoever writes and wherever. -/
theorem clockFree_registerWrite (src : Src) (tgt : RegTarget) (data : List Byte) (hwSet : Word) :
    ∃ e : Eff, e.Only clockFree ∧ ∀ s, exec (.registerWrite src tgt data hwSet) s = run e s := by
  refine ⟨_, only_rd fun s => ?_, fun s => rfl⟩
  have hAt (off : Nat) {k : Reg → Nat → Nat → Nat → Eff} (hk : ∀ r i m v, Eff.Only clockFree (k r i m v)) :
      Eff.Only clockFree (when (wordOk off data.length) (match Reg.atBar0 (off / 8 * 8) with
        | some (r, i) => k r i (byteMask (off % 8) data.length) (leNat data * 2 ^ (8 * (off % 8)))
        | none => nop)) := by
    refine only_when fun _ => ?_
    split
    · exact hk _ _ _ _
    · exact only_nop _
  dsimp only
  split
  · exact only_when fun _ => clockFree_bar0Write _ _ _ _
  · exact only_when fun _ => only_either (only_bar2Write (sub_clockFree rfl) _ _ _) (only_badSize (sub_clockFree rfl) _)
  · exact only_cfgWrite (sub_clockFree rfl) _ _
  · exact hAt _ fun r i m v => only_when fun _ => clockFree_regStore _ _ _ _ _
  · exact hAt _ fun r i m v => only_when fun _ => clockFree_regWriteRw _ _ _ _
  · exact hAt _ fun r i m v => clockFree_regStore _ _ _ _ _
  · exact only_when fun _ => only_bar2Write (sub_clockFree rfl) _ _ _
  · exact only_nop _

/-! Accesses by fabric address (R47), to registers among others. -/

theorem clockFree_serveOk (fa : Nat) (op : AccessOp) (counter : Option Nat) (poison : Bool) (peer tag : Nat)
    {k : List Byte → Bool → Nat → Eff} (hk : ∀ bs p st, Eff.Only clockFree (k bs p st)) :
    Eff.Only clockFree (serveOk fa op counter poison peer tag k) := by
  have hCount (s : State) : Eff.Only clockFree (match counter, s.physOf (faCore fa) with
      | some c, some p => when (faSpace fa == 0) (arriveAfter p c)
      | _, _ => nop) := by
    split
    · exact only_when fun _ => only_arriveAfter (sub_clockFree rfl) _ _
    · exact only_nop _
  have hReg (s : State) : Eff.Only clockFree (match s.faReg fa, op with
      | some (r, i), .read n => seq [k ((natLe 8 (s.regVal r i)).drop (fa % 8) |>.take n) false 0, regReadClears r i (8 * (fa % 8)) (8 * n)]
      | some (r, i), .write b =>
        let mask := byteMask (fa % 8) b.length
        let v := leNat b * 2 ^ (8 * (fa % 8))
        if r = .PWR_TELEM_IN_p then
          seq [upd [.fld F.PWR_TELEM_IN_p_RECORD i ((v &&& mask) + (s.fget F.PWR_TELEM_IN_p_RECORD i - (s.fget F.PWR_TELEM_IN_p_RECORD i &&& mask)))],
            k [] false 0]
        else seq [regWrite r i mask v, k [] false 0]
      | _, _ => nop) := by
    split
    · exact only_seq₂ (hk _ _ _) (clockFree_regReadClears _ _ _ _)
    · exact only_ite (only_seq₂ (clockFree_upd rfl) (hk _ _ _)) (only_seq₂ (clockFree_regWrite _ _ _ _) (hk _ _ _))
    · exact only_nop _
  refine only_rd fun s => ?_
  dsimp only
  split
  · cases op with
    | write b =>
      exact only_ite (only_seq₂ (only_entryArrive (sub_clockFree rfl) _ _ _ _ _) (hk _ _ _))
        (only_seq₂ (only_queueWordWrite (sub_clockFree rfl) _ _ _ _ _) (hk _ _ _))
    | read n => exact hk _ _ _
    | addOnWrite fmt b => exact only_nop _
  · exact hReg s
  · exact hReg s
  · cases op with
    | read n => exact only_seq₂ (only_when fun _ => only_dramRead (sub_clockFree rfl) _ _ _) (only_rd fun s => hk _ _ _)
    | write b => exact only_seq₃ (only_faStore (sub_clockFree rfl) _ _ _) (hCount s) (hk _ _ _)
    | addOnWrite fmt b => exact only_seq₃ (only_addOn (sub_clockFree rfl) _ _ _ _) (hCount s) (hk _ _ _)

theorem clockFree_serve (i : Initiator) (fa : Nat) (op : AccessOp) (counter : Option Nat) (poison : Bool) (peer tag : Nat)
    {k : List Byte → Bool → Nat → Eff} (hk : ∀ bs p st, Eff.Only clockFree (k bs p st)) :
    Eff.Only clockFree (serve i fa op counter poison peer tag k) :=
  only_rd fun _ => only_ite (only_seq₂ (only_faFault (sub_clockFree rfl) _ _ _) (hk _ _ _)) (only_when fun _ => clockFree_serveOk _ _ _ _ _ _ hk)

theorem clockFree_fabricServe (req : FabricReq) : Eff.Only clockFree (fabricServe req) :=
  only_rd fun _ => only_when fun _ => clockFree_serve _ _ _ _ _ _ _ fun _ _ _ => only_answer (mem_clockFree rfl) _ _ _

theorem clockFree_serveReq (src : Nat) (bs : List Byte) (poison : Bool) : Eff.Only clockFree (serveReq src bs poison) := by
  have hRespond (m tag op status : Nat) (p : Bool) (d : List Byte) : Eff.Only clockFree (respond m tag op status p d) :=
    only_respond (sub_clockFree rfl) _ _ _ _ _ _
  have hFault (tag st fa : Nat) : Eff.Only clockFree (when (st != 0) (writeFault src 1023 tag st fa)) :=
    only_when fun _ => only_writeFault (sub_clockFree rfl) _ _ _ _ _
  refine only_rd fun s => only_when fun _ => ?_
  split
  · exact clockFree_serve _ _ _ _ _ _ _ fun _ _ _ => hRespond _ _ _ _ _ _
  · refine only_ite (only_either ?_ (only_faFault (sub_clockFree rfl) _ _ _)) (clockFree_serve _ _ _ _ _ _ _ fun _ _ _ => hRespond _ _ _ _ _ _)
    split
    · exact only_arriveAfter (sub_clockFree rfl) _ _
    · exact only_nop _
  · exact clockFree_serve _ _ _ _ _ _ _ fun _ _ _ => hFault _ _ _
  · exact clockFree_serve _ _ _ _ _ _ _ fun _ _ _ => hRespond _ _ _ _ _ _
  · exact clockFree_serve _ _ _ _ _ _ _ fun _ _ _ => hFault _ _ _
  · exact only_either (only_creditTake (sub_clockFree rfl) _ _) (only_faFault (sub_clockFree rfl) _ _ _)
  · exact hRespond _ _ _ _ _ _
  · exact only_nop _

theorem clockFree_slosyReads (fuel fa n : Nat) (acc : List Byte) {k : Option (List Byte) → Eff} (hk : ∀ r, Eff.Only clockFree (k r)) :
    Eff.Only clockFree (slosyReads fuel fa n acc k) := by
  induction fuel generalizing fa n acc with
  | zero => exact hk _
  | succ fuel ih => exact only_ite (hk _) (clockFree_serve _ _ _ _ _ _ _ fun _ _ _ => only_ite (hk _) (ih _ _ _))

theorem clockFree_slosyPut (fa : Nat) (bs : List Byte) {k : Nat → Eff} (hk : ∀ why, Eff.Only clockFree (k why)) :
    Eff.Only clockFree (slosyPut fa bs k) := by
  refine only_rd fun s => only_ite (only_ite (only_seq₂ (only_faFault (sub_clockFree rfl) _ _ _) (hk _)) ?_)
    (clockFree_serve _ _ _ _ _ _ _ fun _ _ why => hk why)
  split
  · exact only_seq₂ (clockFree_regWriteRw _ _ _ _) (hk _)
  · exact hk _

theorem clockFree_slosyWrites (fuel fa : Nat) (bs : List Byte) {k : Bool → Eff} (hk : ∀ ok, Eff.Only clockFree (k ok)) :
    Eff.Only clockFree (slosyWrites fuel fa bs k) := by
  induction fuel generalizing fa bs with
  | zero => exact hk _
  | succ fuel ih => exact only_ite (hk _) (clockFree_slosyPut _ _ fun _ => only_ite (hk _) (ih _ _))

/-! The resets that keep TC (R572, R703). -/

/-- Registers that return to their reset values leave TC alone when TC_NOW is among those kept. -/
theorem tc_fldsKeep {keep : List Nat} (h : keep.elem Reg.TC_NOW.ix = true) (s : State) : ((Upd.fldsKeep keep).apply s).tc = s.tc := by
  have hKey : regOfKey (F.TC_NOW_COUNT.key 0) = Reg.TC_NOW.ix := by decide
  exact NMap.get_filter _ _ _ _ fun _ => hKey ▸ h

theorem tc_clearAll {keep : List Nat} (h : keep.elem Reg.TC_NOW.ix = true) (s : State) : (Eff.on (clearAll keep) s).tc = s.tc := by
  have hFields : Eff.Only clockFree (seq [fset F.SAF_STAT_SEALED 0 0, fset F.SAF_STAT_RELEASE_KEY 0 0]) :=
    only_seq₂ (only_fset (mem_clockFree rfl) _ _) (only_fset (mem_clockFree rfl) _ _)
  rw [clearAll, on_rd, on_seq_cons, hFields.tc, on_upd, applyAll_cons]
  exact (Eff.Only.tc (clockFree_upd (us := _) rfl) _).trans (tc_fldsKeep h s)

theorem forward_clearAll {keep : List Nat} (h : keep.elem Reg.TC_NOW.ix = true) : Eff.Forward (clearAll keep) :=
  fun s hs => by rw [tc_clearAll h]; exact ⟨le_rfl, hs⟩

theorem forward_moduleReset (lowNs tc : Nat) : ∃ e : Eff, e.Forward ∧ ∀ s, exec (.moduleReset lowNs tc) s = run e s := by
  refine ⟨_, forward_rd fun s => forward_when (forward_seq_cons (forward_tcTo tc) (forward_seq_cons (forward_clearAll rfl) ?_)), fun s => rfl⟩
  exact (only_seq₃ (only_lifecycleBack (sub_clockFree rfl)) (only_fset (mem_clockFree rfl) _ _) (only_rd fun _ => clockFree_upd rfl)).forward

theorem forward_tapLoad (ir : TapIr) (env : BootEnv) (tc : Nat) : Eff.Forward (tapLoad ir env tc) := by
  refine forward_rd fun s => forward_seq_cons (Eff.Only.forward (clockFree_upd rfl)) (forward_seq_cons (forward_when ?_) forward_seq_nil)
  refine forward_seq_cons (forward_tcTo tc) (forward_seq_cons (forward_clearAll rfl) ?_)
  exact (only_seq₃ (only_lifecycleBack (sub_clockFree rfl)) (only_fset (mem_clockFree rfl) _ _) (only_bootFull (sub_clockFree rfl) env)).forward

end Sys2Proof.Machine
end

section
/-! A pour that runs (R70): a synchronisation exchange then only slews, since nothing in it ends the run of a flask. -/
namespace Sys2Proof.Machine

/-- Flasks that exist, hold the Moulds and list the cores they did, on cores in the states they were in, run as they did. -/
theorem State.pourRuns_congr {s t : State} (hLive : ∀ f, (t.flask f).live = (s.flask f).live)
    (hActive : ∀ f, (t.flask f).active = (s.flask f).active) (hCores : ∀ f, (t.flask f).cores = (s.flask f).cores)
    (hState : ∀ p, t.coreState p = s.coreState p)
    (hRow : ∀ r, t.fget F.MOD_ROW_MAP_r_MAP r = s.fget F.MOD_ROW_MAP_r_MAP r) : t.pourRuns = s.pourRuns := by
  have hPhysOf : t.physOf = s.physOf := by funext l; simp only [State.physOf, hRow]
  simp only [State.pourRuns, State.pourFlasks, State.liveFlasks, State.flaskIn, State.flaskState, State.mouldPhys, State.flaskPhys, hLive, hActive,
    hCores, hState, hPhysOf, funext fun f => show t.inPour f = s.inPour f by simp only [State.inPour, hLive, hActive]]

/-- While a flask of the pour runs, an effect leaves it running and does not take TC back. -/
def Eff.Steady (e : Eff) : Prop :=
  ∀ s : State, s.pourRuns = true → s.tc < 2 ^ 64 → (Eff.on e s).pourRuns = true ∧ s.tc ≤ (Eff.on e s).tc ∧ (Eff.on e s).tc < 2 ^ 64

theorem steady_seq_nil : Eff.Steady (seq []) := fun _ hp hs => ⟨hp, le_rfl, hs⟩
theorem steady_nop : Eff.Steady nop := steady_seq_nil
theorem steady_seq_cons {e : Eff} {es : List Eff} (h : e.Steady) (h' : Eff.Steady (seq es)) : Eff.Steady (seq (e :: es)) := fun s hp hs => by
  obtain ⟨hp', hle, hlt⟩ := h s hp hs
  obtain ⟨hp'', hle', hlt'⟩ := h' _ hp' hlt
  rw [on_seq_cons]
  exact ⟨hp'', hle.trans hle', hlt'⟩
theorem steady_rd {k : State → Eff} (h : ∀ s : State, s.pourRuns = true → Eff.Steady (k s)) : Eff.Steady (rd k) := fun s hp hs => h s hp s hp hs
theorem steady_when {b : Bool} {e : Eff} (h : e.Steady) : Eff.Steady (when b e) := by
  cases b
  · exact steady_nop
  · exact h
theorem steady_either {b : Bool} {e e' : Eff} (h : e.Steady) (h' : e'.Steady) : Eff.Steady (either b e e') := by
  cases b <;> assumption
theorem steady_each {α : Type} {l : List α} {f : α → Eff} (h : ∀ a, Eff.Steady (f a)) : Eff.Steady (each l f) := by
  induction l with
  | nil => exact steady_nop
  | cons a l ih => exact steady_seq_cons (h a) ih

/-- A part that tells neither the time nor whether a flask of the pour runs. -/
def Part.offPour : Part → Bool
  | .fld r => r != .TC_NOW && r != .CORE_STAT && r != .MOD_ROW_MAP_r
  | .flds | .flasks => false
  | _ => true

theorem Eff.Only.steady {ps : List Part} {e : Eff} (h : e.Only ps) (hps : ps.all Part.offPour = true) : e.Steady := fun s hp hs => by
  have hOff {p : Part} (hp : p.offPour = false) : p ∉ ps := fun hm => by simpa [hp] using List.all_eq_true.1 hps _ hm
  have hFlask (f : Nat) : (Eff.on e s).flask f = s.flask f := by rw [State.flask, State.flask, h.frame_flasks (hOff rfl)]
  have hField {f : Fld} (hf : f.inReg = true) (hr : (Part.fld f.reg).offPour = false) (i : Nat) : (Eff.on e s).fget f i = s.fget f i :=
    h.fget hf (hOff rfl) (hOff hr) s i
  have hTc : (Eff.on e s).tc = s.tc := hField (f := F.TC_NOW_COUNT) rfl rfl 0
  refine ⟨(State.pourRuns_congr (fun f => by rw [hFlask]) (fun f => by rw [hFlask]) (fun f => by rw [hFlask])
    (fun p => hField (f := F.CORE_STAT_STATE) rfl rfl p) (fun r => hField (f := F.MOD_ROW_MAP_r_MAP) rfl rfl r)).trans hp, hTc.ge, hTc ▸ hs⟩

theorem steady_tcTo (t : Nat) : Eff.Steady (tcTo t) := fun s hp hs =>
  have hTc : Eff.Only [.fld .TC_NOW] (tcTo t) := only_tcTo (by decide) t
  have hFlask (f : Nat) : (Eff.on (tcTo t) s).flask f = s.flask f := by rw [State.flask, State.flask, hTc.frame_flasks (by decide)]
  ⟨(State.pourRuns_congr (fun f => by rw [hFlask]) (fun f => by rw [hFlask]) (fun f => by rw [hFlask])
    (fun p => hTc.fget (by decide) (by decide) (by decide) s p) (fun r => hTc.fget (by decide) (by decide) (by decide) s r)).trans hp,
    forward_tcTo t s hs⟩

/-- A change of a flask's record that keeps its Mould and cores lets it run on. -/
theorem steady_onFlask {f : Nat} {g : FlaskSt → FlaskSt} (h : ∀ x, (g x).live = x.live ∧ (g x).active = x.active ∧ (g x).cores = x.cores) :
    Eff.Steady (onFlask f g) := fun s hp hs => by
  have hOnly : Eff.Only [.flasks] (onFlask f g) := only_onFlask (by decide) f g
  have hFlask (j : Nat) : ((Eff.on (onFlask f g) s).flask j).live = (s.flask j).live ∧
      ((Eff.on (onFlask f g) s).flask j).active = (s.flask j).active ∧ ((Eff.on (onFlask f g) s).flask j).cores = (s.flask j).cores := by
    by_cases hj : f = j
    · subst hj; rw [onFlask_same]; exact h _
    · rw [onFlask_ne _ _ hj]; exact ⟨rfl, rfl, rfl⟩
  have hTc : (Eff.on (onFlask f g) s).tc = s.tc := hOnly.fget (by decide) (by decide) (by decide) s 0
  exact ⟨(State.pourRuns_congr (fun j => (hFlask j).1) (fun j => (hFlask j).2.1) (fun j => (hFlask j).2.2)
    (fun p => hOnly.fget (by decide) (by decide) (by decide) s p) (fun r => hOnly.fget (by decide) (by decide) (by decide) s r)).trans hp,
    hTc.ge, hTc ▸ hs⟩

/-- The halt of the pour's flasks is armed for a frame boundary; until then they run. -/
theorem steady_haltPourFlasks (cause t : Nat) : Eff.Steady (haltPourFlasks cause t) :=
  steady_rd fun _ _ => steady_each fun _ => steady_rd fun _ _ => steady_when (steady_onFlask fun _ => ⟨rfl, rfl, rfl⟩)

theorem steady_alignLost : Eff.Steady alignLost :=
  steady_seq_cons ((only_alignTo' (List.Subset.refl _) 5).steady (by decide)) <|
  steady_seq_cons ((only_fset (List.mem_singleton_self _) _ _).steady (by decide)) <|
  steady_seq_cons ((only_fset (List.mem_singleton_self _) _ _).steady (by decide)) <|
  steady_seq_cons ((only_raise (List.mem_singleton_self _) _ _ _ _).steady (by decide)) <|
  steady_seq_cons (steady_haltPourFlasks 3 0) <|
  steady_seq_cons ((only_haltBeacon (List.Subset.refl _) 4).steady (by decide)) <|
  steady_seq_cons ((only_pourFail (List.Subset.refl _) 0x0223).steady (by decide)) steady_seq_nil

theorem steady_alignExchange (e : Int) : Eff.Steady (alignExchange e) := by
  have hTo (st : Nat) : Eff.Steady (alignTo' st) := (only_alignTo' (List.Subset.refl _) st).steady (by decide)
  have hCount (a : AlignSt) : Eff.Steady (upd [.align a]) := (only_upd (ps := [.align]) (by simp [Upd.part])).steady (by decide)
  refine steady_rd fun s _ => ?_
  dsimp only
  split
  · exact steady_either (hTo 2) (hCount _)
  · exact steady_either steady_alignLost (steady_either ((only_alignDegraded (List.Subset.refl _) e).steady (by decide)) (hCount _))
  · exact steady_either steady_alignLost (steady_either (hTo 2) (hCount _))
  · exact steady_nop

/-- While a flask of the pour runs, a phase correction is left to slew (R70). -/
theorem steady_alignCorrect (e : Int) : Eff.Steady (alignCorrect e) := steady_rd fun s hp => by
  dsimp only
  rw [hp]
  exact (only_upd (ps := [.align]) (by simp [Upd.part])).steady (by decide)

theorem steady_syncRsp (p : PortId) (msg : SyncMsg) (rx : Nat) (calib skew : Int) :
    ∃ e : Eff, e.Steady ∧ ∀ s, exec (.syncRsp p msg rx calib skew) s = run e s := by
  refine ⟨_, steady_seq_cons (steady_tcTo _) (steady_seq_cons (steady_rd fun s _ => steady_when ?_) steady_seq_nil), fun s => rfl⟩
  exact steady_seq_cons ((only_fset (List.mem_singleton_self _) _ _).steady (by decide)) <|
    steady_seq_cons ((only_fset (List.mem_singleton_self _) _ _).steady (by decide)) <|
    steady_seq_cons (steady_when ((only_pourFail (List.Subset.refl _) _).steady (by decide))) <|
    steady_seq_cons (steady_rd fun s _ => steady_when <|
      steady_seq_cons ((only_fset (List.mem_singleton_self _) _ _).steady (by decide)) <|
      steady_seq_cons (steady_alignExchange _) <|
      steady_seq_cons (steady_rd fun s _ => steady_when (steady_alignCorrect _)) <|
      steady_seq_cons ((only_formedReport (List.Subset.refl _) _).steady (by decide)) steady_seq_nil) steady_seq_nil

end Sys2Proof.Machine
end

section
/-! The commands that carry a time: each moves TC on to it and leaves TC alone in what follows (R66, R67, R70). -/
namespace Sys2Proof.Machine

/-- A command that leaves TC or moves it on, from every state. -/
def KeepsTime (c : Instr) : Prop := ∀ s t : State, s.tc < 2 ^ 64 → exec c s = .next t → s.tc ≤ t.tc

theorem KeepsTime.of_forward {c : Instr} {e : Eff} (hRun : ∀ s, exec c s = run e s) (h : e.Forward) : KeepsTime c :=
  fun s _ hs hNext => h.tc_le hs ((hRun s).symm.trans hNext)

/-- A command after which TC reads the time it carries, or what TC read before where that was later (R66). -/
def TakesTime (c : Instr) (tc : Nat) : Prop := ∀ s t : State, exec c s = .next t → t.tc = s.clockAt tc

theorem TakesTime.keepsTime {c : Instr} {tc : Nat} (h : TakesTime c tc) : KeepsTime c := fun s t hs hNext => by
  rw [h s t hNext, State.clockAt, Nat.mod_eq_of_lt (max_lt hs (Nat.mod_lt _ (by positivity)))]
  exact Nat.le_max_left ..

/-- A command that moves TC on to the time it carries, then runs effects that leave TC alone. -/
theorem TakesTime.timed {c : Instr} {tc : Nat} {es : List Eff} (hRun : ∀ s, exec c s = run (seq (tcTo tc :: es)) s)
    (h : Eff.Only clockFree (seq es)) : TakesTime c tc := fun s t hNext => by
  cases (hRun s).symm.trans hNext
  rw [on_seq_cons, h.tc]
  exact tc_tcTo tc s

/-- The commonest shape: one effect after the move. -/
theorem TakesTime.timed_one {c : Instr} {tc : Nat} {e : Eff} (hRun : ∀ s, exec c s = run (seq [tcTo tc, e]) s)
    (h : Eff.Only clockFree e) : TakesTime c tc := .timed hRun (only_seq_cons h (only_seq_nil _))

/-! The clock, decisions and frames. -/

theorem takesTime_armSend (tc : Nat) : TakesTime (.armSend tc) tc := .timed_one (fun _ => rfl) <| only_rd fun _ => only_when fun _ =>
  only_seq₃ (clockFree_upd rfl) (only_send (mem_clockFree rfl) _ _ _) (only_armTake (sub_clockFree rfl) _ _ _)

theorem takesTime_armDeadline (tc : Nat) : TakesTime (.armDeadline tc) tc := by
  refine .timed (fun _ => rfl) (only_seq₂ (only_ctlDeadline (sub_clockFree rfl)) (only_rd fun s => ?_))
  split
  · exact only_nop _
  · exact only_when fun _ => only_either (only_seq₂ (only_send (mem_clockFree rfl) _ _ _) (only_fset (mem_clockFree rfl) _ _))
      (only_seq₄ (only_send (mem_clockFree rfl) _ _ _) (only_withdrawn (sub_clockFree rfl)) (only_raise (mem_clockFree rfl) _ _ _ _)
        (only_requestFails (sub_clockFree rfl)))

theorem takesTime_goDeadline (tc : Nat) : TakesTime (.goDeadline tc) tc := .timed_one (fun _ => rfl) <| only_rd fun _ => only_when fun _ =>
  only_seq₂ (only_when fun _ => clockFree_upd rfl) (only_decisionMissing (sub_clockFree rfl) _)

theorem takesTime_decisionCommit (tc : Nat) (relockFail : List Nat) : TakesTime (.decisionCommit tc relockFail) tc := by
  refine .timed_one (fun _ => rfl) (only_rd fun s => ?_)
  split
  · exact only_nop _
  · refine only_when fun _ => only_seq₂ (only_when fun _ => ?_) (only_armClear (sub_clockFree rfl))
    refine only_seq_cons (clockFree_upd rfl) <|
        only_seq_cons (only_either (only_shortStop (sub_clockFree rfl) _ _) (only_pstepSet (sub_clockFree rfl) _)) <|
      only_seq_cons (only_fset (mem_clockFree rfl) _ _) <| only_seq_cons (only_fset (mem_clockFree rfl) _ _) <|
          only_seq_cons (only_fset (mem_clockFree rfl) _ _) <|
      only_seq_cons (only_fadd (mem_clockFree rfl) _ _) <| only_seq_cons (only_fadd (mem_clockFree rfl) _ _) <|
      only_seq₃ (only_remark (sub_clockFree rfl)) (only_holdPoint (sub_clockFree rfl) _) ?_
    split
    · exact only_when fun _ => only_seq₂ (only_mbDone (sub_clockFree rfl) _ _) (only_when fun _ => only_onSlot (mem_clockFree rfl) _ _)
    · exact only_nop _

theorem takesTime_decisionWindowEnd (watts bubbleWatts : Nat) (currents : List (Nat × Nat)) (tc : Nat) :
    TakesTime (.decisionWindowEnd watts bubbleWatts currents tc) tc :=
  .timed (fun _ => rfl) <| only_seq₂ (only_rd fun _ => only_when fun _ => only_fset (mem_clockFree rfl) _ _) <|
    only_rd fun _ => only_ite (clockFree_upd rfl) <|
      only_seq₄ (clockFree_upd rfl) (only_fset (mem_clockFree rfl) _ _) (only_each fun t _ => by
        refine only_fset (mem_clockFree ?_) _ _
        unfold reqField
        split <;> rfl) <|
      only_when fun _ => only_seq₂ (only_fset (mem_clockFree rfl) _ _) (only_raise (mem_clockFree rfl) _ _ _ _)

theorem takesTime_frameBoundary (tc : Nat) : TakesTime (.frameBoundary tc) tc := by
  refine .timed_one (fun _ => rfl) <| only_rd fun _ => only_when fun _ =>
    only_seq_cons (only_vminFrameEnd (sub_clockFree rfl)) <| only_seq_cons (only_fadd (mem_clockFree rfl) _ _) <|
        only_seq_cons (only_fset (mem_clockFree rfl) _ _) <|
    only_seq₄ (only_holdPoint (sub_clockFree rfl) _) (only_markFrame (sub_clockFree rfl) _) (only_rd fun _ => only_each fun f _ => ?_)
      (only_pepFrame (sub_clockFree rfl))
  split
  · exact only_when fun _ => only_haltNow (sub_clockFree rfl) _ _ _ _ _
  · exact only_nop _

theorem takesTime_flaskEpochStart (flask : FlaskId) (tc : Nat) : TakesTime (.flaskEpochStart flask tc) tc := by
  refine .timed_one (fun _ => rfl) (only_rd fun s => ?_)
  dsimp only
  split
  · exact only_nop _
  · exact only_when fun _ => only_either (only_seq₂ (only_gridBegin (sub_clockFree rfl) _) (only_flaskRuns (sub_clockFree rfl) _))
      (only_when fun _ => only_flaskRuns (sub_clockFree rfl) _)

theorem takesTime_holdPointStart (tc : Nat) : TakesTime (.holdPointStart tc) tc :=
  .timed_one (fun _ => rfl) <| only_rd fun _ => only_when fun _ => only_holdPoint (sub_clockFree rfl) _

/-! Alignment and the pour's formation. -/

theorem takesTime_syncTimer (port : PortId) (tc : Nat) : TakesTime (.syncTimer port tc) tc := .timed_one (fun _ => rfl) <|
  only_rd fun _ => only_when fun _ => only_seq₂ (only_send (mem_clockFree rfl) _ _ _) (only_onPort (mem_clockFree rfl) _ _)

theorem takesTime_syncReq (port : PortId) (msg : SyncMsg) (rxTc txTc : Nat) : TakesTime (.syncReq port msg rxTc txTc) (txTc / 16) :=
  .timed_one (fun _ => rfl) <| only_rd fun _ => only_when fun _ => only_send (mem_clockFree rfl) _ _ _

theorem takesTime_acquireTimeout (tc : Nat) : TakesTime (.acquireTimeout tc) tc :=
  .timed_one (fun _ => rfl) <| only_rd fun _ => only_when fun _ => only_alignLost (sub_clockFree rfl)

theorem takesTime_holdoverErrorLimit (tc : Nat) : TakesTime (.holdoverErrorLimit tc) tc :=
  .timed_one (fun _ => rfl) <| only_rd fun _ => only_when fun _ => only_alignLost (sub_clockFree rfl)

theorem takesTime_pourFormTimeout (tc : Nat) : TakesTime (.pourFormTimeout tc) tc :=
  .timed_one (fun _ => rfl) <| only_rd fun _ => only_when fun _ => only_pourAbort (sub_clockFree rfl) _

theorem takesTime_pourStartTimeout (tc : Nat) : TakesTime (.pourStartTimeout tc) tc := by
  refine .timed_one (fun _ => rfl) (only_rd fun s => ?_)
  split
  · exact only_when fun _ => only_seq₂ (clockFree_upd rfl) (only_mbFail (sub_clockFree rfl) _ _)
  · exact only_nop _

theorem takesTime_haltBeacon (port : PortId) (cause origin seq_ frame tag tc : Nat) :
    TakesTime (.haltBeacon port cause origin seq_ frame tag tc) tc :=
  .timed_one (fun _ => rfl) <|
    only_rd fun _ => only_when fun _ => only_seq₃ (only_floodNote (sub_clockFree rfl) _ _) (only_send (mem_clockFree rfl) _ _ _) <|
    only_when fun _ => only_seq₃ (clockFree_upd rfl) (only_when fun _ => clockFree_upd rfl) (only_haltPourFlasks (sub_clockFree rfl) _ _)

theorem takesTime_fenceBeacon (port : PortId) (unit origin seq_ frame tag detail tc : Nat) :
    TakesTime (.fenceBeacon port unit origin seq_ frame tag detail tc) tc :=
  .timed_one (fun _ => rfl) <|
    only_rd fun _ => only_when fun _ => only_seq₃ (only_floodNote (sub_clockFree rfl) _ _) (only_send (mem_clockFree rfl) _ _ _) <|
    only_when fun _ => clockFree_upd rfl

/-! Runner ports. -/

theorem takesTime_elasticResendTimeout (port : PortId) (tc : Nat) : TakesTime (.elasticResendTimeout port tc) tc :=
  .timed_one (fun _ => rfl) <| only_rd fun _ => only_when fun _ => only_resend (sub_clockFree rfl) _

theorem takesTime_superframeReceive (port : PortId) (sf : Superframe) (tc : Nat) : TakesTime (.superframeReceive port sf tc) tc :=
  .timed_one (fun _ => rfl) <| only_rd fun _ => only_when fun _ =>
    only_seq₄ (only_fadd (mem_clockFree rfl) _ _) (only_fsat (mem_clockFree rfl) _ _) (only_when fun _ => only_fset (mem_clockFree rfl) _ _) <|
    only_either (only_authFail (sub_clockFree rfl) _) <| only_seq₃ (only_onPort (mem_clockFree rfl) _ _)
      (only_when fun _ => only_seq₃ (only_onPort (mem_clockFree rfl) _ _) (only_ackTo (sub_clockFree rfl) _ _)
          (only_when fun _ => only_resend (sub_clockFree rfl) _))
      (only_when fun _ => only_each fun _ _ => only_cellIn (sub_clockFree rfl) _ _)

theorem takesTime_portEnable (port : PortId) (signal : Bool) (tc : Nat) : TakesTime (.portEnable port signal tc) tc :=
  .timed (fun _ => rfl) <| only_seq₂ (only_onPort (mem_clockFree rfl) _ _) (only_rd fun _ => only_when fun _ => only_portTo (sub_clockFree rfl) _ _)

theorem takesTime_signalDetected (port : PortId) (tc : Nat) : TakesTime (.signalDetected port tc) tc :=
  .timed_one (fun _ => rfl) <| only_rd fun _ => only_when fun _ => only_portTo (sub_clockFree rfl) _ _

theorem takesTime_trainComplete (port : PortId) (ok : Bool) (tc : Nat) : TakesTime (.trainComplete port ok tc) tc :=
  .timed_one (fun _ => rfl) (only_attemptStep (sub_clockFree rfl) _ _ _ _ _)

theorem takesTime_lockComplete (port : PortId) (ok : Bool) (tc : Nat) : TakesTime (.lockComplete port ok tc) tc :=
  .timed_one (fun _ => rfl) (only_attemptStep (sub_clockFree rfl) _ _ _ _ _)

theorem takesTime_qualifyWindowEnd (port : PortId) (windows : List LaneWindow) (tc : Nat) : TakesTime (.qualifyWindowEnd port windows tc) tc :=
  .timed_one (fun _ => rfl) <| only_rd fun _ => only_when fun _ =>
    only_seq₂ (only_laneRegs (sub_clockFree rfl) _ _) (only_ite (only_qualified (sub_clockFree rfl) _ _) (only_windowInUp (sub_clockFree rfl) _ _))

theorem takesTime_laneLockLoss (port : PortId) (lane : Fin 5) (beyond : Bool) (tc : Nat) : TakesTime (.laneLockLoss port lane beyond tc) tc := by
  refine .timed_one (fun _ => rfl) (only_rd fun s => ?_)
  dsimp only
  split
  · split
    · exact only_ite (only_leaveUp (sub_clockFree rfl) _) (only_laneFail (sub_clockFree rfl) _ _ _)
    · exact only_nop _
  · exact only_attemptFail (sub_clockFree rfl) _
  · exact only_attemptFail (sub_clockFree rfl) _
  · exact only_nop _

theorem takesTime_keyOffer (port : PortId) (offer : KeyOffer) (tc : Nat) : TakesTime (.keyOffer port offer tc) tc :=
  .timed_one (fun _ => rfl) <|
    only_rd fun _ => only_when fun _ => only_ite (only_rekeyOffer (sub_clockFree rfl) _ _) (only_keyOffer (sub_clockFree rfl) _ _)

theorem takesTime_keyExchangeTimeout (port : PortId) (tc : Nat) : TakesTime (.keyExchangeTimeout port tc) tc :=
  .timed_one (fun _ => rfl) <| only_rd fun _ => only_when fun _ => only_either (only_leaveUp (sub_clockFree rfl) _) <|
    only_when fun _ => only_seq₂ (only_onKeys (sub_clockFree rfl) _ _) (only_send (mem_clockFree rfl) _ _ _)

theorem takesTime_rekeyTimer (port : PortId) (tc : Nat) : TakesTime (.rekeyTimer port tc) tc :=
  .timed_one (fun _ => rfl) <|
    only_rd fun _ => only_when fun _ => only_seq₂ (only_onKeys (sub_clockFree rfl) _ _) (only_send (mem_clockFree rfl) _ _ _)

/-! Queues, events and the mailbox. -/

theorem takesTime_mbFlushPosted (slot : Fin 17) (tc : Nat) : TakesTime (.mbFlushPosted slot tc) tc :=
  .timed_one (fun _ => rfl) <| only_mbCommand (fun _ => only_rd fun _ => only_ite
    (only_seq₃ (only_onSlot (mem_clockFree rfl) _ _) (only_onFlask (mem_clockFree rfl) _ _)
        (only_each fun _ _ => only_sendMod (sub_clockFree rfl) _ _ _ _ _ _))
    (only_when fun _ => only_seq₂ (only_mbDoneWith (sub_clockFree rfl) _ _) (only_when fun _ => only_onFlask (mem_clockFree rfl) _ _))) _ _

theorem takesTime_flushAckTimeout (slot : Fin 17) (tc : Nat) : TakesTime (.flushAckTimeout slot tc) tc :=
  .timed_one (fun _ => rfl) <| only_mbCommand (fun _ => only_rd fun _ => only_when fun _ =>
    only_seq₂ (only_mbResult (sub_clockFree rfl) _ _) (only_mbFail (sub_clockFree rfl) _ _)) _ _

theorem takesTime_queueDbSubmit (queue : Fin 2097152) (count : BitVec 16) (tc : Nat) : TakesTime (.queueDbSubmit queue count tc) tc :=
  .timed_one (fun _ => rfl) (only_doorbellSubmit (sub_clockFree rfl) _ _)

theorem takesTime_queueDbPost (queue : Fin 2097152) (count : BitVec 16) (tc : Nat) : TakesTime (.queueDbPost queue count tc) tc :=
  .timed_one (fun _ => rfl) (only_doorbellPost (sub_clockFree rfl) _ _)

theorem takesTime_hostPostWrite (queue : Fin 2097152) (tc : Nat) : TakesTime (.hostPostWrite queue tc) tc := by
  refine .timed_one (fun _ => rfl) (only_rd fun s => ?_)
  dsimp only
  split
  · exact only_nop _
  · exact only_when fun _ => only_seq₃ (only_hostWrite (sub_clockFree rfl) _ _ _) (only_onQueue (mem_clockFree rfl) _ _)
      (only_queueMsg (sub_clockFree rfl) _)

theorem takesTime_msixHoldoffExpiry (queue : Fin 2097152) (tc : Nat) : TakesTime (.msixHoldoffExpiry queue tc) tc :=
  .timed_one (fun _ => rfl) <|
    only_rd fun _ => only_when fun _ => only_seq₂ (only_msixSend (sub_clockFree rfl) _ _) (only_onQueue (mem_clockFree rfl) _ _)

theorem takesTime_eventWindowClose (index : Fin 256) (tc : Nat) : TakesTime (.eventWindowClose index tc) tc := by
  refine .timed_one (fun _ => rfl) (only_rd fun s => ?_)
  split
  · exact only_nop _
  · exact only_when fun _ => clockFree_upd rfl

theorem takesTime_mbSubmit (slot : Fin 16) (submit : Word) (byteMask : Fin 256) (tc : Nat) : TakesTime (.mbSubmit slot submit byteMask tc) tc :=
  .timed_one (fun _ => rfl) <| only_rd fun _ => only_when fun _ => only_ite
    (only_seq₂ (only_onSlot (mem_clockFree rfl) _ _) (only_when fun _ => only_mbAccept (sub_clockFree rfl) _ _)) (only_onSlot (mem_clockFree rfl) _ _)

theorem takesTime_sidebandRequest (submit : Word) (args : List Byte) (session : Option Nat) (tc : Nat) :
    TakesTime (.sidebandRequest submit args session tc) tc :=
  .timed_one (fun _ => rfl) <| only_rd fun _ => only_when fun _ => only_seq₂
    (only_when fun _ => only_seq₂ (only_onSlot (mem_clockFree rfl) _ _) (only_mbAccept (sub_clockFree rfl) _ _))
        (only_sidebandAnswer (sub_clockFree rfl))

theorem takesTime_mbPstateSet (slot : Fin 17) (tc : Nat) : TakesTime (.mbPstateSet slot tc) tc :=
  .timed_one (fun _ => rfl) <| only_mbCommand (fun _ => only_rd fun _ => only_ite (only_nop _) <| only_ite (only_mbFail (sub_clockFree rfl) _ _) <|
    only_ite (only_mbDone (sub_clockFree rfl) _ _) <|
    only_ite (only_ite (only_seq₂ (only_onSlot (mem_clockFree rfl) _ _) (only_exitBegin (sub_clockFree rfl) _ _))
        (only_mbFail (sub_clockFree rfl) _ _)) <|
    only_ite (only_mbFail (sub_clockFree rfl) _ _) <|
        only_ite (only_entryAbandoned (sub_clockFree rfl) _ _) (only_entryCommit (sub_clockFree rfl) _ _)) _ _

theorem takesTime_mbMouldSwitch (slot : Fin 17) (tc : Nat) : TakesTime (.mbMouldSwitch slot tc) tc :=
  .timed_one (fun _ => rfl) <| only_mbCommand (fun _ => only_rd fun _ => only_ite (only_nop _) <| only_ite (only_mbFail (sub_clockFree rfl) _ _) <|
    only_ite (only_ite (only_mbFail (sub_clockFree rfl) _ _) (only_seq₄ (only_bankSwap (sub_clockFree rfl) _ _) (only_readyAgain (sub_clockFree rfl))
      (only_readyReport (sub_clockFree rfl)) (only_rd fun _ => only_mbDone (sub_clockFree rfl) _ _))) <|
    only_ite (only_mbFail (sub_clockFree rfl) _ _) <|
        only_ite (only_pourArm (sub_clockFree rfl) _ _ _ _) (only_armLocal (sub_clockFree rfl) _ _ _ _ _)) _ _

theorem takesTime_mbComputeReset (slot : Fin 17) (env : BootEnv) (tc : Nat) : TakesTime (.mbComputeReset slot env tc) tc :=
  .timed_one (fun _ => rfl) <| only_mbCommand (fun _ => only_seq₃ (only_computeReset (sub_clockFree rfl) _)
    (only_rd fun _ => only_each fun _ _ => only_mbDone (sub_clockFree rfl) _ _)
        (only_rd fun _ => only_each fun _ _ => only_mbFail (sub_clockFree rfl) _ _)) _ _

theorem takesTime_mbFwActivate (slot : Fin 17) (env : BootEnv) (tc : Nat) : TakesTime (.mbFwActivate slot env tc) tc :=
  .timed_one (fun _ => rfl) <| only_mbCommand (fun _ => only_rd fun _ => only_either (only_mbFail (sub_clockFree rfl) _ _) <|
    only_seq₃ (only_fwActivate (sub_clockFree rfl)) (only_mbDone (sub_clockFree rfl) _ _)
        (only_when fun _ => only_managementReset (sub_clockFree rfl) _ _)) _ _

/-! Flasks and debug. -/

theorem takesTime_flaskHaltPoint (flask : FlaskId) (point : Nat) (quiesce frameBoundary : Bool) (tc : Nat) :
    TakesTime (.flaskHaltPoint flask point quiesce frameBoundary tc) tc := by
  refine .timed_one (fun _ => rfl) (only_rd fun s => ?_)
  dsimp only
  split
  · exact only_nop _
  · exact only_when fun _ => only_seq₂ (only_haltNow (sub_clockFree rfl) _ _ _ _ _) (only_when fun _ => only_switchHalted (sub_clockFree rfl) _)

theorem takesTime_startTimeout (flask : FlaskId) (tc : Nat) : TakesTime (.startTimeout flask tc) tc := by
  refine .timed_one (fun _ => rfl) (only_rd fun s => ?_)
  dsimp only
  split
  · exact only_nop _
  · refine only_when fun _ => only_seq₄ (only_fset (mem_clockFree rfl) _ _) (only_raise (mem_clockFree rfl) _ _ _ _)
      (only_onFlask (mem_clockFree rfl) _ _) ?_
    split
    · exact only_when fun _ => only_mbFail (sub_clockFree rfl) _ _
    · exact only_nop _

theorem takesTime_flaskDrain (flask : FlaskId) (tc : Nat) : TakesTime (.flaskDrain flask tc) tc :=
  .timed_one (fun _ => rfl) <|
    only_rd fun _ => only_when fun _ => only_seq₃ (only_ldlAbort (sub_clockFree rfl) _ _ _) (only_dropCells (sub_clockFree rfl) _) <|
    only_when fun _ => only_seq₅ (only_cacheClean (sub_clockFree rfl) _ _) (only_onFlask (mem_clockFree rfl) _ _)
        (only_raise (mem_clockFree rfl) _ _ _ _)
      (only_when fun _ => only_valuesReturn (sub_clockFree rfl)) (only_repairs (sub_clockFree rfl))

theorem takesTime_debugHoldApply (flask : FlaskId) (tc : Nat) : TakesTime (.debugHoldApply flask tc) tc := by
  refine .timed_one (fun _ => rfl) (only_rd fun s => ?_)
  dsimp only
  split
  · exact only_nop _
  · exact only_when fun _ => only_seq₄ (clockFree_upd rfl) (only_ite (only_holdBegin (sub_clockFree rfl) _)
      (only_seq₂ (only_holdRelease (sub_clockFree rfl) _) (only_when fun _ => only_holdArm (sub_clockFree rfl) _)))
      (only_armedBit (sub_clockFree rfl) _) (only_sprSync (sub_clockFree rfl))

theorem takesTime_dbgBpHit (bp : Fin 8) (hit : BpHit) (tc : Nat) : TakesTime (.dbgBpHit bp hit tc) tc :=
  .timed_one (fun _ => rfl) <| only_rd fun _ => only_when fun _ => only_ite (only_bpCapture (sub_clockFree rfl) _ _ _ _) <|
    only_seq₂ (only_when fun _ => clockFree_upd rfl) (only_draw (mem_clockFree rfl) fun _ => only_bpCapture (sub_clockFree rfl) _ _ _ _)

theorem takesTime_slosyFrame (wire : List Byte) (tc : Nat) : TakesTime (.slosyFrame wire tc) tc := by
  refine .timed_one (fun _ => rfl) (only_rd fun s => ?_)
  dsimp only
  split
  · exact only_nop _
  · refine only_when fun _ => only_seq₂ (clockFree_upd rfl) ?_
    split
    · exact only_ite (only_slosyAnswer (sub_clockFree rfl) _ _) (only_rd fun _ => only_when fun _ => only_slosyAnswer (sub_clockFree rfl) _ _)
    · exact only_rd fun _ => only_when fun _ => only_slosyAnswer (sub_clockFree rfl) _ _

theorem takesTime_slosyHold (tc : Nat) : TakesTime (.slosyHold tc) tc :=
  .timed_one (fun _ => rfl) <| only_slosyServe (sub_clockFree rfl) _ _ fun _ => only_rd fun _ => only_refuseIf (sub_clockFree rfl) _ _ <|
    only_either (only_slosyAnswer (sub_clockFree rfl) _ _) (only_holdChange (sub_clockFree rfl) _ _ _ _ _)

theorem takesTime_slosyRelease (tc : Nat) : TakesTime (.slosyRelease tc) tc :=
  .timed_one (fun _ => rfl) <| only_slosyServe (sub_clockFree rfl) _ _ fun _ => only_rd fun _ => only_refuseIf (sub_clockFree rfl) _ _ <|
    only_either (only_slosyAnswer (sub_clockFree rfl) _ _) (only_holdChange (sub_clockFree rfl) _ _ _ _ _)

theorem takesTime_slosyStep (tc : Nat) : TakesTime (.slosyStep tc) tc :=
  .timed_one (fun _ => rfl) <| only_slosyServe (sub_clockFree rfl) _ _ fun _ => only_rd fun _ => only_refuseIf (sub_clockFree rfl) _ _ <|
    only_holdChange (sub_clockFree rfl) _ _ _ _ _

theorem takesTime_slosyRead (tc : Nat) : TakesTime (.slosyRead tc) tc :=
  .timed_one (fun _ => rfl) <| only_slosyServe (sub_clockFree rfl) _ _ fun _ => only_rd fun _ => only_refuseIf (sub_clockFree rfl) _ _ <|
    clockFree_slosyReads _ _ _ _ fun r => by cases r <;> exact only_slosyAnswer (sub_clockFree rfl) _ _

theorem takesTime_slosyWrite (tc : Nat) : TakesTime (.slosyWrite tc) tc :=
  .timed_one (fun _ => rfl) <| only_slosyServe (sub_clockFree rfl) _ _ fun _ => only_rd fun _ => only_refuseIf (sub_clockFree rfl) _ _ <|
    clockFree_slosyWrites _ _ _ fun _ => only_slosyAnswer (sub_clockFree rfl) _ _

/-! Power, wear, the reference clock and resets. -/

theorem takesTime_coreDomainRampDone (core : CoreId) (tc : Nat) : TakesTime (.coreDomainRampDone core tc) tc :=
  .timed_one (fun _ => rfl) <| only_rd fun _ => only_when fun _ => only_seq₃ (clockFree_upd rfl) (only_domainSet (sub_clockFree rfl) _ _) <|
    only_rd fun _ => only_either (only_seq₂ (clockFree_upd rfl) (only_domainSet (sub_clockFree rfl) _ _)) (clockFree_upd rfl)

theorem takesTime_vminSample (cluster : ClusterId) (sensor : Fin 32) (millivolts : Nat) (bubbleEdge : Bool) (tc : Nat) :
    TakesTime (.vminSample cluster sensor millivolts bubbleEdge tc) tc := .timed_one (fun _ => rfl) (only_vminSample (sub_clockFree rfl) _ _ _ _)

theorem takesTime_bucketGrant (cluster : ClusterId) (amps tc : Nat) : TakesTime (.bucketGrant cluster amps tc) tc :=
  .timed_one (fun _ => rfl) (only_bucketAsk (sub_clockFree rfl) _ _)

theorem takesTime_telemetrySend (tc : Nat) : TakesTime (.telemetrySend tc) tc :=
  .timed_one (fun _ => rfl) <| only_rd fun _ => only_seq₅ (clockFree_upd rfl) (only_when fun _ => only_fset (mem_clockFree rfl) _ _)
    (only_each fun _ _ => only_raise (mem_clockFree rfl) _ _ _ _) (only_when fun _ => only_send (mem_clockFree rfl) _ _ _)
    (only_each fun _ _ => only_mbDone (sub_clockFree rfl) _ _)

theorem keepsTime_energyAccount (sample : EnergySample) (tc : Nat) : KeepsTime (.energyAccount sample tc) :=
  .of_forward (fun _ => rfl) <| forward_seq_cons (Eff.Only.forward <| only_rd fun _ => only_when fun _ => clockFree_upd rfl) <|
    forward_timed <| only_rd fun _ => only_seq₂ (only_each fun _ _ => only_fadd (mem_clockFree rfl) _ _) (only_fadd (mem_clockFree rfl) _ _)

theorem keepsTime_inputSample (millivolts : Int) (tenthAmps watts tc : Nat) : KeepsTime (.inputSample millivolts tenthAmps watts tc) := by
  intro s t hs h
  change execInputSample millivolts tenthAmps watts tc s = .next t at h
  unfold execInputSample at h
  split at h
  · cases h
  · exact (forward_timed <|
      only_rd fun _ => only_seq₅ (only_fset (mem_clockFree rfl) _ _) (only_fset (mem_clockFree rfl) _ _) (only_fset (mem_clockFree rfl) _ _)
      (clockFree_upd rfl) (only_ite (only_inputFault (sub_clockFree rfl)) (only_when fun _ => only_raise (mem_clockFree rfl) _ _ _ _))).tc_le hs h

theorem takesTime_pstateExit (tc : Nat) : TakesTime (.pstateExit tc) tc :=
  .timed_one (fun _ => rfl) <| only_rd fun _ => only_when fun _ =>
    only_seq_cons (only_when fun _ => only_enginesLost (sub_clockFree rfl)) <|
        only_seq_cons (only_each fun _ _ => only_padOff (sub_clockFree rfl) _) <|
    only_seq_cons (only_fset (mem_clockFree rfl) _ _) <| only_seq_cons (only_fset (mem_clockFree rfl) _ _) <|
        only_seq_cons (only_fset (mem_clockFree rfl) _ _) <|
    only_seq_cons (only_fset (mem_clockFree rfl) _ _) <|
        only_seq₅ (only_fadd (mem_clockFree rfl) _ _) (only_each fun _ _ => only_onPort (mem_clockFree rfl) _ _)
      (clockFree_upd rfl) (only_rd fun _ => only_each fun _ _ => only_mbDone (sub_clockFree rfl) _ _) (only_raise (mem_clockFree rfl) _ _ _ _)

theorem takesTime_pepperTileStart (core : CoreId) (unit : Fin 76) (window hash tc : Nat) :
    TakesTime (.pepperTileStart core unit window hash tc) tc :=
  .timed_one (fun _ => rfl) <| only_rd fun _ => only_when fun _ => clockFree_upd rfl

theorem takesTime_culpritWindowClose (index : Fin 64) (tc : Nat) : TakesTime (.culpritWindowClose index tc) tc := by
  refine .timed_one (fun _ => rfl) (only_rd fun s => ?_)
  split
  · exact only_nop _
  · exact only_when fun _ => only_seq₃ (clockFree_upd rfl) (only_windowsOpen (sub_clockFree rfl))
      (only_either (only_fsat (mem_clockFree rfl) _ _) (clockFree_upd rfl))

theorem takesTime_wearMonitor (unit : WearUnit) (value tc : Nat) : TakesTime (.wearMonitor unit value tc) tc := by
  refine .timed_one (fun _ => rfl) (only_rd fun s => ?_)
  cases unit with
  | row core bank row => exact only_when fun _ => only_autoRepair (sub_clockFree rfl) _ _ _
  | me core engine column => exact only_when fun _ => by cases column <;> exact only_autoRepair (sub_clockFree rfl) _ _ _
  | se core => exact only_when fun _ => only_autoRepair (sub_clockFree rfl) _ _ _
  | vu core => exact only_when fun _ => only_autoRepair (sub_clockFree rfl) _ _ _
  | trackGroup seg g c => exact only_when fun _ => only_groupFail (sub_clockFree rfl) _ _ _ _
  | lane n l => exact only_when fun _ => only_either (only_laneFail (sub_clockFree rfl) _ _ _) (only_wearWarn (sub_clockFree rfl) _ _ _)
  | tile t =>
    exact only_when fun _ => only_seq₃ (only_fset (mem_clockFree rfl) _ _) (only_raise (mem_clockFree rfl) _ _ _ _)
        (only_repairDo (sub_clockFree rfl) _ _ _)
  | margin c => exact only_when fun _ => only_wearWarn (sub_clockFree rfl) _ _ _
  | stack st => exact only_when fun _ => only_wearWarn (sub_clockFree rfl) _ _ _

theorem takesTime_hbmRefresh (stack : Fin 20) (channel bank : Fin 64) (tc : Nat) : TakesTime (.hbmRefresh stack channel bank tc) tc :=
  .timed_one (fun _ => rfl) <| only_rd fun _ => clockFree_upd rfl

theorem takesTime_refclkLost (tc : Nat) : TakesTime (.refclkLost tc) tc :=
  .timed_one (fun _ => rfl) <| only_rd fun _ => only_when fun _ => only_seq₂ (clockFree_upd rfl) (only_raise (mem_clockFree rfl) _ _ _ _)

theorem takesTime_refclkBackupSwitch (tc : Nat) : TakesTime (.refclkBackupSwitch tc) tc := by
  refine .timed_one (fun _ => rfl) (only_rd fun s => ?_)
  split
  · exact only_when fun _ => clockFree_upd rfl
  · exact only_nop _

theorem takesTime_refclkRestored (tc : Nat) : TakesTime (.refclkRestored tc) tc :=
  .timed_one (fun _ => rfl) <| only_rd fun _ => only_when fun _ => only_seq₂ (clockFree_upd rfl) (only_raise (mem_clockFree rfl) _ _ _ _)

theorem takesTime_lifeHour (tj10 : Int) (fast : Bool) (tc : Nat) : TakesTime (.lifeHour tj10 fast tc) tc :=
  .timed_one (fun _ => rfl) <|
    only_rd fun _ => only_seq₄ (clockFree_upd rfl) (only_fsat (mem_clockFree rfl) _ _) (only_fsat (mem_clockFree rfl) _ _) <|
    only_rd fun _ => only_when fun _ => only_seq₂ (clockFree_upd rfl) (only_draw (mem_clockFree rfl) fun _ => only_raise (mem_clockFree rfl) _ _ _ _)

theorem keepsTime_resetNRelease (env : BootEnv) (straps : Straps) (tc : Nat) : KeepsTime (.resetNRelease env straps tc) :=
  .of_forward (fun _ => rfl) <| forward_rd fun _ => forward_when <| forward_timed_seq <|
    only_seq₃ (only_strapsIn (sub_clockFree rfl) _) (only_rd fun _ => clockFree_upd rfl) (only_bootFull (sub_clockFree rfl) _)

theorem keepsTime_watchdogExpiry (env : BootEnv) (tc : Nat) : KeepsTime (.watchdogExpiry env tc) :=
  .of_forward (fun _ => rfl) <| forward_rd fun _ => forward_when <| forward_timed (only_managementReset (sub_clockFree rfl) _ _)

theorem keepsTime_tapBypass (env : BootEnv) (tc : Nat) : KeepsTime (.tapBypass env tc) :=
  .of_forward (fun _ => rfl) (forward_tapLoad .bypass env tc)

theorem keepsTime_tapIdcode (env : BootEnv) (tc : Nat) : KeepsTime (.tapIdcode env tc) :=
  .of_forward (fun _ => rfl) <| forward_seq_cons (forward_tapLoad .idcode env tc) <|
    forward_seq_cons (only_answer (mem_clockFree rfl) _ _ _).forward forward_seq_nil

theorem keepsTime_tapSamplePreload (pins preload : List Bool) (env : BootEnv) (tc : Nat) : KeepsTime (.tapSamplePreload pins preload env tc) :=
  .of_forward (fun _ => rfl) <| forward_seq_cons (forward_tapLoad .sample env tc) <|
    (only_seq₂ (only_rd fun _ => clockFree_upd rfl) (only_answer (mem_clockFree rfl) _ _ _)).forward

theorem keepsTime_tapExtest (env : BootEnv) (tc : Nat) : KeepsTime (.tapExtest env tc) :=
  .of_forward (fun _ => rfl) <| forward_rd fun _ => forward_seq_cons (forward_tapLoad .extest env tc) <|
    forward_seq_cons (forward_when <| forward_timed_seq <|
      only_seq₃ (only_fset (mem_clockFree rfl) _ _) (only_when fun _ => only_fset (mem_clockFree rfl) _ _)
          (only_computeStop (sub_clockFree rfl))) forward_seq_nil

/-! Commands that carry no time but reach registers by fabric address. -/

theorem keepsTime_faFaultValidClear (fault : Option FabricReq) : KeepsTime (.faFaultValidClear fault) := by
  refine .of_forward (fun _ => rfl) (Eff.Only.forward <| only_seq₂ (only_faRearm (sub_clockFree rfl)) ?_)
  cases fault with
  | none => exact only_nop _
  | some r => exact clockFree_fabricServe r

theorem keepsTime_fabricAccess (req : FabricReq) : KeepsTime (.fabricAccess req) :=
  .of_forward (fun _ => rfl) (clockFree_fabricServe req).forward

theorem keepsTime_elasticRequest (port : PortId) : KeepsTime (.elasticRequest port) := by
  refine .of_forward (fun _ => rfl) <| Eff.Only.forward <| only_popMsg (sub_clockFree rfl) _ _ _ fun cs c => only_rd fun s =>
    only_ite (clockFree_serveReq _ _ _) ?_
  split
  · exact only_forward (sub_clockFree rfl) _ _
  · exact only_refuseReq (sub_clockFree rfl) _ _ _ _ _

theorem keepsTime_registerWrite (src : Src) (tgt : RegTarget) (data : List Byte) (hwSet : Word) :
    KeepsTime (.registerWrite src tgt data hwSet) := by
  obtain ⟨e, hOnly, hRun⟩ := clockFree_registerWrite src tgt data hwSet
  exact .of_forward hRun hOnly.forward

theorem keepsTime_moduleReset (lowNs tc : Nat) : KeepsTime (.moduleReset lowNs tc) := by
  obtain ⟨e, hForward, hRun⟩ := forward_moduleReset lowNs tc
  exact .of_forward hRun hForward

end Sys2Proof.Machine
end

section
/-! Every command while a flask of the pour runs (R66, R67, R70). -/
namespace Sys2Proof.Machine

/-- While a flask of the pour runs, a command other than power-on and the end of an entry leaves TC or moves it on. Most commands do not write TC at
all; those that carry a time move TC on to it; the synchronisation response alone could step TC back, and does not while the pour runs. -/
theorem tc_le_of_exec {c : Instr} {s t : State} (hp : s.pourRuns = true) (hs : s.tc < 2 ^ 64)
    (hOn : ∀ env straps low, c ≠ .powerOn env straps low) (hEntry : ∀ tc, c ≠ .pstateEntryComplete tc) (h : exec c s = .next t) :
    s.tc ≤ t.tc := by
  cases c
  case registerWrite => exact keepsTime_registerWrite _ _ _ _ s t hs h
  case faFaultValidClear => exact keepsTime_faFaultValidClear _ s t hs h
  case apertureDeniedRead => exact (frame_execApertureDeniedRead (h := h)).tc_le rfl
  case peakClr => exact (frame_execPeakClr (h := h)).tc_le rfl
  case fabricAccess => exact keepsTime_fabricAccess _ s t hs h
  case hostDramAccess => exact (frame_execHostDramAccess (h := h)).tc_le rfl
  case apertureAccess => exact (frame_execApertureAccess (h := h)).tc_le rfl
  case trackGroupFailure => exact (frame_execTrackGroupFailure (h := h)).tc_le rfl
  case trackGroupSubstitution => exact (frame_execTrackGroupSubstitution (h := h)).tc_le rfl
  case inServiceFence => exact (frame_execInServiceFence (h := h)).tc_le rfl
  case syncTimer => exact (takesTime_syncTimer _ _).keepsTime s t hs h
  case syncReq => exact (takesTime_syncReq _ _ _ _).keepsTime s t hs h
  case syncRsp port msg rx calib skew =>
    obtain ⟨e, hSteady, hRun⟩ := steady_syncRsp port msg rx calib skew
    cases (hRun s).symm.trans h
    exact (hSteady s hp hs).2.1
  case upstreamPortLost => exact (frame_execUpstreamPortLost (h := h)).tc_le rfl
  case acquireTimeout => exact (takesTime_acquireTimeout _).keepsTime s t hs h
  case holdoverErrorLimit => exact (takesTime_holdoverErrorLimit _).keepsTime s t hs h
  case frameBoundary => exact (takesTime_frameBoundary _).keepsTime s t hs h
  case holdPointStart => exact (takesTime_holdPointStart _).keepsTime s t hs h
  case flaskEpochStart => exact (takesTime_flaskEpochStart _ _).keepsTime s t hs h
  case armSend => exact (takesTime_armSend _).keepsTime s t hs h
  case arm => exact (frame_execArm (h := h)).tc_le rfl
  case ack => exact (frame_execAck (h := h)).tc_le rfl
  case armDeadline => exact (takesTime_armDeadline _).keepsTime s t hs h
  case go => exact (frame_execGo (h := h)).tc_le rfl
  case withdraw => exact (frame_execWithdraw (h := h)).tc_le rfl
  case goDeadline => exact (takesTime_goDeadline _).keepsTime s t hs h
  case decisionCommit => exact (takesTime_decisionCommit _ _).keepsTime s t hs h
  case seqIdle => exact (frame_execSeqIdle (h := h)).tc_le rfl
  case seqIssue => exact (frame_execSeqIssue (h := h)).tc_le rfl
  case seqLdl => exact (frame_execSeqLdl (h := h)).tc_le rfl
  case seqWaits => exact (frame_execSeqWaits (h := h)).tc_le rfl
  case seqLoop => exact (frame_execSeqLoop (h := h)).tc_le rfl
  case seqBr => exact (frame_execSeqBr (h := h)).tc_le rfl
  case aluAdd => exact (frame_execAluAdd (h := h)).tc_le rfl
  case aluSub => exact (frame_execAluSub (h := h)).tc_le rfl
  case aluAnd => exact (frame_execAluAnd (h := h)).tc_le rfl
  case aluOr => exact (frame_execAluOr (h := h)).tc_le rfl
  case aluXor => exact (frame_execAluXor (h := h)).tc_le rfl
  case aluShl => exact (frame_execAluShl (h := h)).tc_le rfl
  case aluShr => exact (frame_execAluShr (h := h)).tc_le rfl
  case aluLi => exact (frame_execAluLi (h := h)).tc_le rfl
  case aluAddi => exact (frame_execAluAddi (h := h)).tc_le rfl
  case aluReadSc => exact (frame_execAluReadSc (h := h)).tc_le rfl
  case seqTmeta => exact (frame_execSeqTmeta (h := h)).tc_le rfl
  case seqWaita => exact (frame_execSeqWaita (h := h)).tc_le rfl
  case waitaCompare => exact (frame_execWaitaCompare (h := h)).tc_le rfl
  case qopSend => exact (frame_execQopSend (h := h)).tc_le rfl
  case qopPop => exact (frame_execQopPop (h := h)).tc_le rfl
  case qopPost => exact (frame_execQopPost (h := h)).tc_le rfl
  case qopLevel => exact (frame_execQopLevel (h := h)).tc_le rfl
  case seqHalt => exact (frame_execSeqHalt (h := h)).tc_le rfl
  case vopMove => exact (frame_execVopMove (h := h)).tc_le rfl
  case vopArithmetic => exact (frame_execVopArithmetic (h := h)).tc_le rfl
  case vopFma => exact (frame_execVopFma (h := h)).tc_le rfl
  case vopPermute => exact (frame_execVopPermute (h := h)).tc_le rfl
  case vopIngress => exact (frame_execVopIngress (h := h)).tc_le rfl
  case vopSpecialFunction => exact (frame_execVopSpecialFunction (h := h)).tc_le rfl
  case vopReduce => exact (frame_execVopReduce (h := h)).tc_le rfl
  case vopLoad => exact (frame_execVopLoad (h := h)).tc_le rfl
  case vopStore => exact (frame_execVopStore (h := h)).tc_le rfl
  case vopQuant => exact (frame_execVopQuant (h := h)).tc_le rfl
  case vopSample => exact (frame_execVopSample (h := h)).tc_le rfl
  case sampleStart => exact (frame_execSampleStart (h := h)).tc_le rfl
  case tokenChosen => exact (frame_execTokenChosen (h := h)).tc_le rfl
  case meMmaStart => exact (frame_execMeMmaStart (h := h)).tc_le rfl
  case meDrain => exact (frame_execMeDrain (h := h)).tc_le rfl
  case meLoadAStart => exact (frame_execMeLoadAStart (h := h)).tc_le rfl
  case seSmmaStart => exact (frame_execSeSmmaStart (h := h)).tc_le rfl
  case seDrain => exact (frame_execSeDrain (h := h)).tc_le rfl
  case seLoadAStart => exact (frame_execSeLoadAStart (h := h)).tc_le rfl
  case temperSwitch => exact (frame_execTemperSwitch (h := h)).tc_le rfl
  case flaskHaltPoint => exact (takesTime_flaskHaltPoint _ _ _ _ _).keepsTime s t hs h
  case startTimeout => exact (takesTime_startTimeout _ _).keepsTime s t hs h
  case creditTimer => exact (frame_execCreditTimer (h := h)).tc_le rfl
  case creditPacket => exact (frame_execCreditPacket (h := h)).tc_le rfl
  case elasticEntryArrival => exact (frame_execElasticEntryArrival (h := h)).tc_le rfl
  case elasticAccessTimeout => exact (frame_execElasticAccessTimeout (h := h)).tc_le rfl
  case gatherFlush => exact (frame_execGatherFlush (h := h)).tc_le rfl
  case eccWriteBack => exact (frame_execEccWriteBack (h := h)).tc_le rfl
  case rowSubstitution => exact (frame_execRowSubstitution (h := h)).tc_le rfl
  case scrubRow => exact (frame_execScrubRow (h := h)).tc_le rfl
  case zeroingComplete => exact (frame_execZeroingComplete (h := h)).tc_le rfl
  case cacheAccess => exact (frame_execCacheAccess (h := h)).tc_le rfl
  case prefetchIssue => exact (frame_execPrefetchIssue (h := h)).tc_le rfl
  case hbmRefresh => exact (takesTime_hbmRefresh _ _ _ _).keepsTime s t hs h
  case hbmTempSample => exact (frame_execHbmTempSample (h := h)).tc_le rfl
  case hbmPatrol => exact (frame_execHbmPatrol (h := h)).tc_le rfl
  case ldlSchedSlot => exact (frame_execLdlSchedSlot (h := h)).tc_le rfl
  case ldlContextStart => exact (frame_execLdlContextStart (h := h)).tc_le rfl
  case sectorWrite => exact (frame_execSectorWrite (h := h)).tc_le rfl
  case sectorBeatTimeout => exact (frame_execSectorBeatTimeout (h := h)).tc_le rfl
  case sectorAck => exact (frame_execSectorAck (h := h)).tc_le rfl
  case ldlAbort => exact (frame_execLdlAbort (h := h)).tc_le rfl
  case abortResolveTimeout => exact (frame_execAbortResolveTimeout (h := h)).tc_le rfl
  case abortCapture => exact (frame_execAbortCapture (h := h)).tc_le rfl
  case sprueBeatReceive => exact (frame_execSprueBeatReceive (h := h)).tc_le rfl
  case haltNotice => exact (frame_execHaltNotice (h := h)).tc_le rfl
  case ventFlitReceive => exact (frame_execVentFlitReceive (h := h)).tc_le rfl
  case superframeReceive => exact (takesTime_superframeReceive _ _ _).keepsTime s t hs h
  case scheduledCell => exact (frame_execScheduledCell (h := h)).tc_le rfl
  case elasticCell => exact (frame_execElasticCell (h := h)).tc_le rfl
  case elasticResendTimeout => exact (takesTime_elasticResendTimeout _ _).keepsTime s t hs h
  case releaseCycle => exact (frame_execReleaseCycle (h := h)).tc_le rfl
  case done => exact (frame_execDone (h := h)).tc_le rfl
  case armHalt => exact (frame_execArmHalt (h := h)).tc_le rfl
  case armSwitch => exact (frame_execArmSwitch (h := h)).tc_le rfl
  case flaskGo => exact (frame_execFlaskGo (h := h)).tc_le rfl
  case flaskWithdraw => exact (frame_execFlaskWithdraw (h := h)).tc_le rfl
  case start => exact (frame_execStart (h := h)).tc_le rfl
  case armHold => exact (frame_execArmHold (h := h)).tc_le rfl
  case armRelease => exact (frame_execArmRelease (h := h)).tc_le rfl
  case haltBeacon => exact (takesTime_haltBeacon _ _ _ _ _ _ _).keepsTime s t hs h
  case fenceBeacon => exact (takesTime_fenceBeacon _ _ _ _ _ _ _ _).keepsTime s t hs h
  case hello => exact (frame_execHello (h := h)).tc_le rfl
  case form => exact (frame_execForm (h := h)).tc_le rfl
  case report => exact (frame_execReport (h := h)).tc_le rfl
  case abort => exact (frame_execAbort (h := h)).tc_le rfl
  case slotDigest => exact (frame_execSlotDigest (h := h)).tc_le rfl
  case laneSwap => exact (frame_execLaneSwap (h := h)).tc_le rfl
  case laneSwapAck => exact (frame_execLaneSwapAck (h := h)).tc_le rfl
  case laneSwapApply => exact (frame_execLaneSwapApply (h := h)).tc_le rfl
  case laneSwapAbandon => exact (frame_execLaneSwapAbandon (h := h)).tc_le rfl
  case portEnable => exact (takesTime_portEnable _ _ _).keepsTime s t hs h
  case trainComplete => exact (takesTime_trainComplete _ _ _).keepsTime s t hs h
  case lockComplete => exact (takesTime_lockComplete _ _ _).keepsTime s t hs h
  case qualifyWindowEnd => exact (takesTime_qualifyWindowEnd _ _ _).keepsTime s t hs h
  case laneLockLoss => exact (takesTime_laneLockLoss _ _ _ _).keepsTime s t hs h
  case elasticRequest => exact keepsTime_elasticRequest _ s t hs h
  case elasticResponse => exact (frame_execElasticResponse (h := h)).tc_le rfl
  case writeFault => exact (frame_execWriteFault (h := h)).tc_le rfl
  case pourFormTimeout => exact (takesTime_pourFormTimeout _).keepsTime s t hs h
  case keyOffer => exact (takesTime_keyOffer _ _ _).keepsTime s t hs h
  case keyAccept => exact (frame_execKeyAccept (h := h)).tc_le rfl
  case keyExchangeTimeout => exact (takesTime_keyExchangeTimeout _ _).keepsTime s t hs h
  case rekeyTimer => exact (takesTime_rekeyTimer _ _).keepsTime s t hs h
  case queueDbSubmit => exact (takesTime_queueDbSubmit _ _ _).keepsTime s t hs h
  case queueDbPost => exact (takesTime_queueDbPost _ _ _).keepsTime s t hs h
  case queueCtlWrite => exact (frame_execQueueCtlWrite (h := h)).tc_le rfl
  case queueBaseWrite => exact (frame_execQueueBaseWrite (h := h)).tc_le rfl
  case queueWmWrite => exact (frame_execQueueWmWrite (h := h)).tc_le rfl
  case hostFetchRead => exact (frame_execHostFetchRead (h := h)).tc_le rfl
  case hostFetchCompletion => exact (frame_execHostFetchCompletion (h := h)).tc_le rfl
  case hostCompletionTimeout => exact (frame_execHostCompletionTimeout (h := h)).tc_le rfl
  case hostPostWrite => exact (takesTime_hostPostWrite _ _).keepsTime s t hs h
  case msixHoldoffExpiry => exact (takesTime_msixHoldoffExpiry _ _).keepsTime s t hs h
  case queueDisableComplete => exact (frame_execQueueDisableComplete (h := h)).tc_le rfl
  case eventRecordWrite => exact (frame_execEventRecordWrite (h := h)).tc_le rfl
  case eventWindowClose => exact (takesTime_eventWindowClose _ _).keepsTime s t hs h
  case evrHeadWrite => exact (frame_execEvrHeadWrite (h := h)).tc_le rfl
  case portFlr => exact (frame_execPortFlr (h := h)).tc_le rfl
  case portHotReset => exact (frame_execPortHotReset (h := h)).tc_le rfl
  case hostLinkLoss => exact (frame_execHostLinkLoss (h := h)).tc_le rfl
  case d3hotEntry => exact (frame_execD3hotEntry (h := h)).tc_le rfl
  case mbSubmit => exact (takesTime_mbSubmit _ _ _ _).keepsTime s t hs h
  case mbCancel => exact (frame_execMbCancel (h := h)).tc_le rfl
  case mbCommandStart => exact (frame_execMbCommandStart (h := h)).tc_le rfl
  case mbInfoGet => exact (frame_execMbInfoGet (h := h)).tc_le rfl
  case mbSlagRead => exact (frame_execMbSlagRead (h := h)).tc_le rfl
  case mbEventRingSet => exact (frame_execMbEventRingSet (h := h)).tc_le rfl
  case mbFlaskList => exact (frame_execMbFlaskList (h := h)).tc_le rfl
  case mbFlaskCreate => exact (frame_execMbFlaskCreate (h := h)).tc_le rfl
  case mbFlaskDestroy => exact (frame_execMbFlaskDestroy (h := h)).tc_le rfl
  case mbMouldLoad => exact (frame_execMbMouldLoad (h := h)).tc_le rfl
  case mbMouldSwitch => exact (takesTime_mbMouldSwitch _ _).keepsTime s t hs h
  case mbMouldUnload => exact (frame_execMbMouldUnload (h := h)).tc_le rfl
  case mbFlaskStart => exact (frame_execMbFlaskStart (h := h)).tc_le rfl
  case mbFlaskHalt => exact (frame_execMbFlaskHalt (h := h)).tc_le rfl
  case mbFlaskResume => exact (frame_execMbFlaskResume (h := h)).tc_le rfl
  case mbFlaskReset => exact (frame_execMbFlaskReset (h := h)).tc_le rfl
  case mbScanOut => exact (frame_execMbScanOut (h := h)).tc_le rfl
  case mbScanIn => exact (frame_execMbScanIn (h := h)).tc_le rfl
  case mbCacheFlush => exact (frame_execMbCacheFlush (h := h)).tc_le rfl
  case mbCachePartSet => exact (frame_execMbCachePartSet (h := h)).tc_le rfl
  case mbPourForm => exact (frame_execMbPourForm (h := h)).tc_le rfl
  case mbPourStart => exact (frame_execMbPourStart (h := h)).tc_le rfl
  case mbPourLeave => exact (frame_execMbPourLeave (h := h)).tc_le rfl
  case mbFlushPosted => exact (takesTime_mbFlushPosted _ _).keepsTime s t hs h
  case mbPortCtl => exact (frame_execMbPortCtl (h := h)).tc_le rfl
  case mbFence => exact (frame_execMbFence (h := h)).tc_le rfl
  case mbComputeReset => exact (takesTime_mbComputeReset _ _ _).keepsTime s t hs h
  case mbPepperSet => exact (frame_execMbPepperSet (h := h)).tc_le rfl
  case mbRedundancySet => exact (frame_execMbRedundancySet (h := h)).tc_le rfl
  case mbFlaskDrain => exact (frame_execMbFlaskDrain (h := h)).tc_le rfl
  case mbPstepSet => exact (frame_execMbPstepSet (h := h)).tc_le rfl
  case mbCapSet => exact (frame_execMbCapSet (h := h)).tc_le rfl
  case mbPstateSet => exact (takesTime_mbPstateSet _ _).keepsTime s t hs h
  case mbEnergyRead => exact (frame_execMbEnergyRead (h := h)).tc_le rfl
  case mbTamperAck => exact (frame_execMbTamperAck (h := h)).tc_le rfl
  case mbWeightKeyLoad => exact (frame_execMbWeightKeyLoad (h := h)).tc_le rfl
  case mbTamperLogRead => exact (frame_execMbTamperLogRead (h := h)).tc_le rfl
  case mbFwStage => exact (frame_execMbFwStage (h := h)).tc_le rfl
  case mbFwActivate => exact (takesTime_mbFwActivate _ _ _).keepsTime s t hs h
  case mbApertureSet => exact (frame_execMbApertureSet (h := h)).tc_le rfl
  case mbEventTest => exact (frame_execMbEventTest (h := h)).tc_le rfl
  case mbPoll => exact (frame_execMbPoll (h := h)).tc_le rfl
  case sidebandRequest => exact (takesTime_sidebandRequest _ _ _ _).keepsTime s t hs h
  case inputSample => exact keepsTime_inputSample _ _ _ _ s t hs h
  case pwrAuxFault => exact (frame_execPwrAuxFault (h := h)).tc_le rfl
  case tileFault => exact (frame_execTileFault (h := h)).tc_le rfl
  case tileSpared => exact (frame_execTileSpared (h := h)).tc_le rfl
  case vminSample => exact (takesTime_vminSample _ _ _ _ _).keepsTime s t hs h
  case riserNotice => exact (frame_execRiserNotice (h := h)).tc_le rfl
  case bucketGrant => exact (takesTime_bucketGrant _ _ _).keepsTime s t hs h
  case decisionWindowEnd => exact (takesTime_decisionWindowEnd _ _ _ _).keepsTime s t hs h
  case telemetrySend => exact (takesTime_telemetrySend _).keepsTime s t hs h
  case telemetryReceive => exact (frame_execTelemetryReceive (h := h)).tc_le rfl
  case thermalSample => exact (frame_execThermalSample (h := h)).tc_le rfl
  case energyAccount => exact keepsTime_energyAccount _ _ s t hs h
  case pstateEntryComplete tc => exact absurd rfl (hEntry tc)
  case pstateExit => exact (takesTime_pstateExit _).keepsTime s t hs h
  case pstReadyTimeout => exact (frame_execPstReadyTimeout (h := h)).tc_le rfl
  case wakePin => exact (frame_execWakePin (h := h)).tc_le rfl
  case wakeTimer => exact (frame_execWakeTimer (h := h)).tc_le rfl
  case wakeI3c => exact (frame_execWakeI3c (h := h)).tc_le rfl
  case wakePerst => exact (frame_execWakePerst (h := h)).tc_le rfl
  case wakeHost => exact (frame_execWakeHost (h := h)).tc_le rfl
  case pstTimerWrite => exact (frame_execPstTimerWrite (h := h)).tc_le rfl
  case pstWakeEnWrite => exact (frame_execPstWakeEnWrite (h := h)).tc_le rfl
  case xtalFail => exact (frame_execXtalFail (h := h)).tc_le rfl
  case coreDomainOnRequest => exact (frame_execCoreDomainOnRequest (h := h)).tc_le rfl
  case coreDomainOffRequest => exact (frame_execCoreDomainOffRequest (h := h)).tc_le rfl
  case coreDomainGrant => exact (frame_execCoreDomainGrant (h := h)).tc_le rfl
  case coreDomainRampDone => exact (takesTime_coreDomainRampDone _ _).keepsTime s t hs h
  case coreDomainShutdownDone => exact (frame_execCoreDomainShutdownDone (h := h)).tc_le rfl
  case powerOn env straps low => exact absurd rfl (hOn env straps low)
  case moduleReset => exact keepsTime_moduleReset _ _ s t hs h
  case watchdogExpiry => exact keepsTime_watchdogExpiry _ _ s t hs h
  case pldmQueryDeviceIds => exact (frame_execPldmQueryDeviceIds (h := h)).tc_le rfl
  case pldmGetFwParameters => exact (frame_execPldmGetFwParameters (h := h)).tc_le rfl
  case pldmRequestUpdate => exact (frame_execPldmRequestUpdate (h := h)).tc_le rfl
  case pldmPassComponentTable => exact (frame_execPldmPassComponentTable (h := h)).tc_le rfl
  case pldmUpdateComponent => exact (frame_execPldmUpdateComponent (h := h)).tc_le rfl
  case pldmActivateFirmware => exact (frame_execPldmActivateFirmware (h := h)).tc_le rfl
  case pldmGetStatus => exact (frame_execPldmGetStatus (h := h)).tc_le rfl
  case pldmCancelUpdateComponent => exact (frame_execPldmCancelUpdateComponent (h := h)).tc_le rfl
  case pldmCancelUpdate => exact (frame_execPldmCancelUpdate (h := h)).tc_le rfl
  case pldmGetSensorReading => exact (frame_execPldmGetSensorReading (h := h)).tc_le rfl
  case pldmGetStateSensorReadings => exact (frame_execPldmGetStateSensorReadings (h := h)).tc_le rfl
  case pldmGetPdr => exact (frame_execPldmGetPdr (h := h)).tc_le rfl
  case mctpControl => exact (frame_execMctpControl (h := h)).tc_le rfl
  case i3cSetdasa => exact (frame_execI3cSetdasa (h := h)).tc_le rfl
  case i3cEntdaa => exact (frame_execI3cEntdaa (h := h)).tc_le rfl
  case spdmGetVersion => exact (frame_execSpdmGetVersion (h := h)).tc_le rfl
  case spdmGetCapabilities => exact (frame_execSpdmGetCapabilities (h := h)).tc_le rfl
  case spdmNegotiateAlgorithms => exact (frame_execSpdmNegotiateAlgorithms (h := h)).tc_le rfl
  case spdmGetDigests => exact (frame_execSpdmGetDigests (h := h)).tc_le rfl
  case spdmGetCertificate => exact (frame_execSpdmGetCertificate (h := h)).tc_le rfl
  case spdmChallenge => exact (frame_execSpdmChallenge (h := h)).tc_le rfl
  case spdmGetMeasurements => exact (frame_execSpdmGetMeasurements (h := h)).tc_le rfl
  case spdmKeyExchange => exact (frame_execSpdmKeyExchange (h := h)).tc_le rfl
  case spdmFinish => exact (frame_execSpdmFinish (h := h)).tc_le rfl
  case spdmHeartbeat => exact (frame_execSpdmHeartbeat (h := h)).tc_le rfl
  case spdmKeyUpdate => exact (frame_execSpdmKeyUpdate (h := h)).tc_le rfl
  case spdmEndSession => exact (frame_execSpdmEndSession (h := h)).tc_le rfl
  case flaskDrain => exact (takesTime_flaskDrain _ _).keepsTime s t hs h
  case culpritWindowClose => exact (takesTime_culpritWindowClose _ _).keepsTime s t hs h
  case autoRepair => exact (frame_execAutoRepair (h := h)).tc_le rfl
  case pendingRepairApply => exact (frame_execPendingRepairApply (h := h)).tc_le rfl
  case wearMonitor => exact (takesTime_wearMonitor _ _ _).keepsTime s t hs h
  case lifeHour => exact (takesTime_lifeHour _ _ _).keepsTime s t hs h
  case pepperTileStart => exact (takesTime_pepperTileStart _ _ _ _ _).keepsTime s t hs h
  case pepperCompare => exact (frame_execPepperCompare (h := h)).tc_le rfl
  case pepperDiagnostic => exact (frame_execPepperDiagnostic (h := h)).tc_le rfl
  case spareCoreCheck => exact (frame_execSpareCoreCheck (h := h)).tc_le rfl
  case redundancyCompare => exact (frame_execRedundancyCompare (h := h)).tc_le rfl
  case redundancyHashTimeout => exact (frame_execRedundancyHashTimeout (h := h)).tc_le rfl
  case tamperSensor => exact (frame_execTamperSensor (h := h)).tc_le rfl
  case slotRoleWrite => exact (frame_execSlotRoleWrite (h := h)).tc_le rfl
  case slotFlaskWrite => exact (frame_execSlotFlaskWrite (h := h)).tc_le rfl
  case slosyFrame => exact (takesTime_slosyFrame _ _).keepsTime s t hs h
  case slosyInfo => exact (frame_execSlosyInfo (h := h)).tc_le rfl
  case slosyAuthReq => exact (frame_execSlosyAuthReq (h := h)).tc_le rfl
  case slosyAuthGrant => exact (frame_execSlosyAuthGrant (h := h)).tc_le rfl
  case slosyAuthDrop => exact (frame_execSlosyAuthDrop (h := h)).tc_le rfl
  case slosyLifecycle => exact (frame_execSlosyLifecycle (h := h)).tc_le rfl
  case slosyRead => exact (takesTime_slosyRead _).keepsTime s t hs h
  case slosyWrite => exact (takesTime_slosyWrite _).keepsTime s t hs h
  case slosyApertureRead => exact (frame_execSlosyApertureRead (h := h)).tc_le rfl
  case slosyHold => exact (takesTime_slosyHold _).keepsTime s t hs h
  case slosyRelease => exact (takesTime_slosyRelease _).keepsTime s t hs h
  case slosyStep => exact (takesTime_slosyStep _).keepsTime s t hs h
  case slosyHoldStat => exact (frame_execSlosyHoldStat (h := h)).tc_le rfl
  case slosyBpSet => exact (frame_execSlosyBpSet (h := h)).tc_le rfl
  case slosyBpClear => exact (frame_execSlosyBpClear (h := h)).tc_le rfl
  case slosyBpStat => exact (frame_execSlosyBpStat (h := h)).tc_le rfl
  case slosyScanCore => exact (frame_execSlosyScanCore (h := h)).tc_le rfl
  case debugHoldApply => exact (takesTime_debugHoldApply _ _).keepsTime s t hs h
  case dbgBpHit => exact (takesTime_dbgBpHit _ _ _).keepsTime s t hs h
  case grantExpiry => exact (frame_execGrantExpiry (h := h)).tc_le rfl
  case authLockoutExpiry => exact (frame_execAuthLockoutExpiry (h := h)).tc_le rfl
  case refclkLost => exact (takesTime_refclkLost _).keepsTime s t hs h
  case refclkBackupSwitch => exact (takesTime_refclkBackupSwitch _).keepsTime s t hs h
  case refclkRestored => exact (takesTime_refclkRestored _).keepsTime s t hs h
  case tapBypass => exact keepsTime_tapBypass _ _ s t hs h
  case tapIdcode => exact keepsTime_tapIdcode _ _ s t hs h
  case tapSamplePreload => exact keepsTime_tapSamplePreload _ _ _ _ s t hs h
  case tapExtest => exact keepsTime_tapExtest _ _ s t hs h
  case sprueDeparture => exact (frame_execSprueDeparture (h := h)).tc_le rfl
  case superframeSend => exact (frame_execSuperframeSend (h := h)).tc_le rfl
  case signalDetected => exact (takesTime_signalDetected _ _).keepsTime s t hs h
  case resetNRelease => exact keepsTime_resetNRelease _ _ _ s t hs h
  case hostLinkUp => exact (frame_execHostLinkUp (h := h)).tc_le rfl
  case returnToD0 => exact (frame_execReturnToD0 (h := h)).tc_le rfl
  case busMasterEnable => exact (frame_execBusMasterEnable (h := h)).tc_le rfl
  case pourStartTimeout => exact (takesTime_pourStartTimeout _).keepsTime s t hs h
  case flushAckTimeout => exact (takesTime_flushAckTimeout _ _).keepsTime s t hs h
  case tamperSensorDeassert => exact (frame_execTamperSensorDeassert (h := h)).tc_le rfl
  case pldmFirmwareData => exact (frame_execPldmFirmwareData (h := h)).tc_le rfl

end Sys2Proof.Machine

namespace Sys2Proof.Proofs
open Sys2Proof.Machine

/-- Settles O48: every command either leaves the counter's register alone or moves it on to the time the command carries; the one correction that
could step it back only slews while a flask of the pour runs. -/
theorem timeNeverRunsBackwardWhileThePourRuns : Obligations.TimeNeverRunsBackwardWhileThePourRuns := by
  unfold Obligations.TimeNeverRunsBackwardWhileThePourRuns
  intro c s t _ hp hs hOn hEntry h
  exact tc_le_of_exec hp (Nat.lt_of_le_of_lt (Nat.le_add_right _ 2) hs) hOn hEntry h

end Sys2Proof.Proofs
end

section
/-! Commands that carry a time (R66): the state they act on is the one they meet, with TC moved on. -/
namespace Sys2Proof.Machine

/-- The state with TC moved on to a time that a command carries. -/
def State.movedOn (s : State) (tc : Nat) : State := Eff.on (tcTo tc) s

@[simp] theorem State.movedOn_tc (s : State) (tc : Nat) : (s.movedOn tc).tc = s.clockAt tc := tc_tcTo tc s
theorem State.movedOn_same (s : State) (tc : Nat) : SameBut [.fld .TC_NOW] s (s.movedOn tc) := (only_tcTo (by decide) tc).same s
theorem State.movedOn_fget (s : State) (tc : Nat) {f : Fld} (h : (f.inReg && f.reg != .TC_NOW) = true) (i : Nat) :
    (s.movedOn tc).fget f i = s.fget f i := by
  simp only [Bool.and_eq_true, bne_iff_ne, ne_eq] at h
  exact (only_tcTo (List.mem_singleton_self _) tc).fget h.1 (by decide) (by simpa using h.2) s i

@[simp] theorem State.movedOn_align (s : State) (tc : Nat) : (s.movedOn tc).align = s.align := Upd.fld_align ..
@[simp] theorem State.movedOn_gclk (s : State) (tc : Nat) : (s.movedOn tc).gclk = s.gclk := Upd.fld_gclk ..
@[simp] theorem State.movedOn_msgs (s : State) (tc : Nat) : (s.movedOn tc).msgs = s.msgs := Upd.fld_msgs ..
@[simp] theorem State.movedOn_pour (s : State) (tc : Nat) : (s.movedOn tc).pour = s.pour := Upd.fld_pour ..
@[simp] theorem State.movedOn_svc (s : State) (tc : Nat) : (s.movedOn tc).svc = s.svc := Upd.fld_svc ..
@[simp] theorem State.movedOn_port (s : State) (tc p : Nat) : (s.movedOn tc).port p = s.port p := congrArg (NMap.get _ · p) (Upd.fld_ports ..)
@[simp] theorem State.movedOn_flask (s : State) (tc f : Nat) : (s.movedOn tc).flask f = s.flask f := congrArg (NMap.get _ · f) (Upd.fld_flasks ..)
@[simp] theorem State.movedOn_portState (s : State) (tc p : Nat) : (s.movedOn tc).portState p = s.portState p := s.movedOn_fget tc (by decide) p

/-- Two effects in order. -/
theorem on_seq_pair (a b : Eff) (s : State) : Eff.on (seq [a, b]) s = Eff.on b (Eff.on a s) := by rw [on_seq_cons, on_seq_cons, on_seq_nil]

/-- A command that moves TC on and then acts on what it finds. -/
theorem on_timed (tc : Nat) (k : State → Eff) (s : State) : Eff.on (seq [tcTo tc, rd k]) s = Eff.on (k (s.movedOn tc)) (s.movedOn tc) := by
  rw [on_seq_pair, on_rd, State.movedOn]

end Sys2Proof.Machine
end

section
/-! Synchronisation and alignment (R69 to R73, R396, R402). -/
namespace Sys2Proof.Machine

/-- Outside a formation there is no formation to fail. -/
theorem pourFail_idle {s : State} (h : s.pour.phase ≠ 1) (status : Nat) : Eff.on (pourFail status) s = s := by
  have hPhase : (s.pour.phase == 1) = false := beq_false_of_ne h
  rw [pourFail, on_rd, hPhase, Bool.false_and, on_when_false]

theorem alignTo'_spec (st : Nat) (s : State) :
    (Eff.on (alignTo' st) s).fget F.TC_ALIGN_STAT_STATE 0 = st % 8 ∧ (Eff.on (alignTo' st) s).pour = s.pour ∧
      (Eff.on (alignTo' st) s).align = { s.align with good := 0, bad := 0, entered := s.tc } := by
  rw [alignTo', on_rd, on_seq_cons, on_seq_cons, on_seq_nil, on_fset, on_upd, applyAll_cons, applyAll_nil, Upd.align_fget,
    Upd.fget_fld_same (by decide), Upd.align_pour, Upd.fld_pour]
  exact ⟨rfl, rfl, rfl⟩

/-- Outside a formation, the loss of alignment ends in LOST and marks CLK_CHG_STAT (R73). -/
theorem alignLost_spec {s : State} (h : s.pour.phase ≠ 1) :
    (Eff.on alignLost s).fget F.TC_ALIGN_STAT_STATE 0 = 5 ∧ (Eff.on alignLost s).fget F.CLK_CHG_STAT_ALIGN 0 = 1 := by
  have hBeacon : Eff.Only [.msgs] (haltBeacon 4) := only_haltBeacon (List.Subset.refl _) 4
  have hHalt : Eff.Only [.flasks] (haltPourFlasks 3 0) := only_haltPourFlasks (List.Subset.refl _) 3 0
  obtain ⟨hState, hPour, -⟩ := alignTo'_spec 5 s
  rw [alignLost, on_seq_cons, on_seq_cons, on_seq_cons, on_seq_cons, on_seq_cons, on_seq_cons, on_seq_cons, on_seq_nil, pourFail_idle, on_raise,
    on_fset, on_fset]
  · simp only [hBeacon.fget (f := F.TC_ALIGN_STAT_STATE) (by decide) (by decide) (by decide),
      hBeacon.fget (f := F.CLK_CHG_STAT_ALIGN) (by decide) (by decide) (by decide),
      hHalt.fget (f := F.TC_ALIGN_STAT_STATE) (by decide) (by decide) (by decide),
      hHalt.fget (f := F.CLK_CHG_STAT_ALIGN) (by decide) (by decide) (by decide), Upd.ev_fget]
    rw [Upd.fget_fld_other (by decide), Upd.fget_fld_other (by decide), hState, Upd.fget_fld_same (by decide)]
    exact ⟨rfl, rfl⟩
  · rwa [hBeacon.frame_pour (by decide), hHalt.frame_pour (by decide), on_raise, on_fset, on_fset, Upd.ev_pour, Upd.fld_pour, Upd.fld_pour, hPour]

/-! The three messages of an exchange (R69, R402). -/

/-- A request goes out with the port's exchange number and the time, and the number is stepped (R402). -/
def syncRequest (p : Nat) : Eff := rd fun s =>
  seq [send p .syncReq [(s.port p).exchange, s.tc * 16], onPort p (fun x => { x with exchange := (x.exchange + 1) % 2 ^ 32 })]

theorem syncRequest_spec (p : Nat) (s : State) :
    Sent s (Eff.on (syncRequest p) s) p .syncReq [(s.port p).exchange, (Eff.on (syncRequest p) s).tc * 16] ∧
      ((Eff.on (syncRequest p) s).port p).exchange = ((s.port p).exchange + 1) % 2 ^ 32 := by
  have hTc : Eff.Only clockFree (syncRequest p) := only_rd fun _ => only_seq₂ (only_send (mem_clockFree rfl) _ _ _)
      (only_onPort (mem_clockFree rfl) _ _)
  rw [hTc.tc, syncRequest, on_rd, on_seq_pair, onPort_same]
  exact ⟨rfl, rfl⟩

/-- SYNC_RSP writes the measured delay of its port, and nothing after it writes that register again (R402). -/
theorem syncRsp_delay {p : PortId} (msg : SyncMsg) (rx : Nat) (calib skew : Int) {s : State} (h : s.portState p.val = 4) :
    ∃ t, exec (.syncRsp p msg rx calib skew) s = .next t ∧ t.fget F.RUN_DELAY_DELAY_PS p.val =
      ((((msg.t2 : Int) - msg.t1) + ((rx : Int) - msg.t3)) * 125 / 4 - calib).toNat % 2 ^ F.RUN_DELAY_DELAY_PS.len := by
  have hUp : ((s.movedOn (rx / 16)).portState p.val == 4) = true := by simp [h]
  refine ⟨_, rfl, ?_⟩
  rw [on_timed]
  dsimp only
  rw [hUp, on_when_true, on_seq_cons, on_seq_cons]
  refine (Eff.Only.fget (ps := [.align, .ctl, .ev, .flasks, .fld .CLK_CHG_STAT, .fld .MOD_MB_SUMMARY, .fld .MOD_POUR_ID, .fld .RUN_STAT,
    .fld .TC_ALIGN_STAT, .fld .TC_NOW, .hostOut, .hports, .msgs, .pour, .slots]) ?_ (by decide) (by decide) (by decide) _ _).trans ?_
  · exact only_seq₂ (only_when fun _ => only_pourFail (by decide) _) <| only_rd fun _ => only_when fun _ =>
      only_seq₄ (only_fset (by decide) _ _) (only_alignExchange (by decide) _) (only_rd fun _ => only_when fun _ => only_alignCorrect (by decide) _)
        (only_formedReport (by decide) _)
  · rw [on_fset, on_fset, Upd.fget_fld_other (by decide), Upd.fget_fld_same (by decide)]

/-! The loss of the upstream port (R71, R72). -/

/-- Another port's loss changes nothing. -/
theorem upstreamLost_other {p : Nat} {s : State} (h : s.fget F.TC_ALIGN_STAT_UPSTREAM 0 ≠ p) (alt : Bool) : Eff.on (upstreamLost p alt) s = s := by
  have hPort : (s.fget F.TC_ALIGN_STAT_UPSTREAM 0 == p) = false := beq_false_of_ne h
  rw [upstreamLost, on_rd]
  dsimp only
  rw [hPort, on_when_false]

/-- An alternative upstream port is taken and acquired (R72). -/
def toAlternative (q : Nat) : Eff :=
  seq [alignTo' 1, fset F.TC_ALIGN_STAT_UPSTREAM 0 q, rd fun s => upd [.align { s.align with alternative := none }]]

theorem toAlternative_spec (q : Nat) (s : State) : (Eff.on (toAlternative q) s).fget F.TC_ALIGN_STAT_STATE 0 = 1 ∧
    (Eff.on (toAlternative q) s).fget F.TC_ALIGN_STAT_UPSTREAM 0 = q % 2 ^ F.TC_ALIGN_STAT_UPSTREAM.len := by
  rw [toAlternative, on_seq_cons, on_seq_cons, on_seq_cons, on_seq_nil, on_rd, on_upd, applyAll_cons, applyAll_nil, Upd.align_fget, Upd.align_fget,
    on_fset, Upd.fget_fld_other (by decide), (alignTo'_spec 1 s).1, Upd.fget_fld_same (by decide)]
  exact ⟨rfl, rfl⟩

/-- An ALIGNED or DEGRADED module that loses its upstream port goes to HOLDOVER, and on from there as its alternative says (R71, R72). -/
theorem upstreamLost_holdover {p : Nat} {s : State} (hPort : s.fget F.TC_ALIGN_STAT_UPSTREAM 0 = p)
    (hState : s.fget F.TC_ALIGN_STAT_STATE 0 = 2 ∨ s.fget F.TC_ALIGN_STAT_STATE 0 = 3) (alt : Bool) :
    Eff.on (upstreamLost p alt) s = match s.align.alternative with
      | none => Eff.on alignLost (Eff.on (alignTo' 4) s)
      | some q => Eff.on (when alt (toAlternative q)) (Eff.on (alignTo' 4) s) := by
  have hSame : (s.fget F.TC_ALIGN_STAT_UPSTREAM 0 == p) = true := beq_iff_eq.2 hPort
  rw [upstreamLost, on_rd]
  dsimp only
  rw [hSame, on_when_true]
  cases s.align.alternative with
  | none => rcases hState with h | h <;> rw [h] <;> exact on_seq_pair (alignTo' 4) alignLost s
  | some q => rcases hState with h | h <;> rw [h] <;> exact on_seq_pair (alignTo' 4) (when alt (toAlternative q)) s

end Sys2Proof.Machine

namespace Sys2Proof.Proofs
open Sys2Proof.Machine

/-- Settles O2: each command moves TC on and acts on the port or the alignment as it finds them; what follows the register written last leaves it
alone. -/
theorem alignmentCommandsAct : Obligations.AlignmentCommandsAct := by
  refine ⟨fun p tc s => ?_, fun p msg rx tx s => ?_, fun p msg rx calib skew s => ?_, fun p alt s => ?_, fun tc s => ?_, fun tc s => ?_⟩
  · refine ⟨_, rfl, frame_execSyncTimer p tc s rfl, takesTime_syncTimer p tc s _ rfl, fun hUp => ?_, fun hNot => ?_⟩
    · have hUp' : ((s.movedOn tc).portState p.val == 4) = true := by simp [hUp]
      rw [on_timed]
      dsimp only
      rw [hUp', on_when_true]
      obtain ⟨hSent, hNext⟩ := syncRequest_spec p.val (s.movedOn tc)
      rw [Sent, State.movedOn_msgs, s.movedOn_port] at hSent
      rw [s.movedOn_port] at hNext
      exact ⟨hSent, hNext⟩
    · have hNot' : ((s.movedOn tc).portState p.val == 4) = false := by simp [hNot]
      rw [on_timed]
      dsimp only
      rw [hNot', on_when_false]
      exact s.movedOn_same tc
  · refine ⟨_, rfl, frame_execSyncReq p msg rx tx s rfl, fun hUp => ?_, fun hNot => ?_⟩
    · have hUp' : ((s.movedOn (tx / 16)).portState p.val == 4) = true := by simp [hUp]
      rw [on_timed, hUp', on_when_true, Sent, on_send, Upd.msgs_msgs, State.movedOn_msgs]
    · have hNot' : ((s.movedOn (tx / 16)).portState p.val == 4) = false := by simp [hNot]
      rw [on_timed, hNot', on_when_false]
      exact s.movedOn_same _
  · refine ⟨_, rfl, frame_execSyncRsp p msg rx calib skew s rfl, fun hUp => ?_, fun hNot => ?_⟩
    · obtain ⟨t, ht, hDelay⟩ := syncRsp_delay msg rx calib skew hUp
      cases ht
      exact hDelay
    · have hNot' : ((s.movedOn (rx / 16)).portState p.val == 4) = false := by simp [hNot]
      rw [on_timed]
      dsimp only
      rw [hNot', on_when_false]
      exact s.movedOn_same _
  · refine ⟨_, rfl, frame_execUpstreamPortLost p alt s rfl, fun hOther => upstreamLost_other hOther alt, fun hPort hState hPhase => ?_⟩
    obtain ⟨hHoldover, hPour, -⟩ := alignTo'_spec 4 s
    rw [upstreamLost_holdover hPort hState]
    refine ⟨fun hAlt => ?_, fun q hAlt hRefused => ?_, fun q hAlt hTaken => ?_⟩ <;> rw [hAlt]
    · exact (alignLost_spec (hPour ▸ hPhase)).1
    · rw [hRefused]
      exact hHoldover
    · rw [hTaken]
      exact toAlternative_spec q _
  · refine ⟨_, rfl, frame_execAcquireTimeout tc s rfl, fun hState hDue hPhase => ?_, fun hNot => ?_⟩
    · have hDue' : ((s.movedOn tc).fget F.TC_ALIGN_STAT_STATE 0 == 1 &&
          decide ((s.movedOn tc).align.entered + 10000000 ≤ (s.movedOn tc).tc)) = true := by
        rw [s.movedOn_fget tc (by decide), s.movedOn_align, s.movedOn_tc, hState]
        simpa using hDue
      rw [on_timed, hDue', on_when_true]
      exact alignLost_spec (by rwa [s.movedOn_pour])
    · have hNot' : ((s.movedOn tc).fget F.TC_ALIGN_STAT_STATE 0 == 1) = false := by rw [s.movedOn_fget tc (by decide)]; exact beq_false_of_ne hNot
      rw [on_timed, hNot', Bool.false_and, on_when_false]
      exact s.movedOn_same tc
  · refine ⟨_, rfl, frame_execHoldoverErrorLimit tc s rfl, fun hState hPhase hError => ?_, fun hNot => ?_⟩
    · have hOver : ((s.movedOn tc).fget F.TC_ALIGN_STAT_STATE 0 == 4 &&
          decide ((toInt 16 ((s.movedOn tc).fget F.TC_ALIGN_STAT_ERROR 0)).natAbs +
            ((s.movedOn tc).tc - (s.movedOn tc).align.entered) / 20000 ≥ 6000)) = true := by
        rw [s.movedOn_fget tc (by decide), s.movedOn_fget tc (by decide), s.movedOn_align, s.movedOn_tc, hState]
        simpa using hError
      rw [on_timed]
      dsimp only
      rw [hOver, on_when_true]
      exact alignLost_spec (by rwa [s.movedOn_pour])
    · have hNot' : ((s.movedOn tc).fget F.TC_ALIGN_STAT_STATE 0 == 4) = false := by rw [s.movedOn_fget tc (by decide)]; exact beq_false_of_ne hNot
      rw [on_timed]
      dsimp only
      rw [hNot', Bool.false_and, on_when_false]
      exact s.movedOn_same tc

end Sys2Proof.Proofs
end

section
/-! Hold points, frames and the start of a flask at its epoch (R74 to R76, R90, R238, R420). -/
namespace Sys2Proof.Machine

/-! The cores and states of the flasks, where no effect touches what they are read from. -/

theorem Eff.Only.flask {ps : List Part} {e : Eff} (h : e.Only ps) (hp : Part.flasks ∉ ps) (s : State) (f : Nat) :
    (Eff.on e s).flask f = s.flask f := congrArg (NMap.get _ · f) (h.frame_flasks hp s)

theorem State.mouldPhys_congr {s t : State} {f : Nat} (hFlask : t.flask f = s.flask f)
    (hRow : ∀ r, t.fget F.MOD_ROW_MAP_r_MAP r = s.fget F.MOD_ROW_MAP_r_MAP r) : t.mouldPhys f = s.mouldPhys f := by
  have hPhysOf : t.physOf = s.physOf := by funext l; simp only [State.physOf, hRow]
  simp only [State.mouldPhys, State.flaskPhys, hFlask, hPhysOf]

@[simp] theorem State.movedOn_mouldPhys (s : State) (tc f : Nat) : (s.movedOn tc).mouldPhys f = s.mouldPhys f :=
  State.mouldPhys_congr (s.movedOn_flask tc f) fun r => s.movedOn_fget tc (by decide) r
@[simp] theorem State.movedOn_coreState (s : State) (tc p : Nat) : (s.movedOn tc).coreState p = s.coreState p := s.movedOn_fget tc (by decide) p
@[simp] theorem State.movedOn_flaskState (s : State) (tc f : Nat) : (s.movedOn tc).flaskState f = s.flaskState f := by
  simp only [State.flaskState, s.movedOn_mouldPhys, s.movedOn_coreState]
@[simp] theorem State.movedOn_startable (s : State) (tc f : Nat) : (s.movedOn tc).startable f = s.startable f := by
  simp only [State.startable, State.flaskIn, s.movedOn_flask, s.movedOn_flaskState]
@[simp] theorem State.movedOn_running (s : State) (tc : Nat) : (s.movedOn tc).running = s.running := by
  simp only [State.running, State.liveFlasks, s.movedOn_flask, s.movedOn_flaskState]

/-! Hold points and frames. -/

/-- A hold point starts: HOLD takes its number, its bubble follows the decision's count, and the frame goes on (R75). -/
theorem holdPoint_spec {h : Nat} (hLt : h < 64) (s : State) : (Eff.on (holdPoint h) s).fget F.TC_FRAME_HOLD 0 = h ∧
    (Eff.on (holdPoint h) s).gclk = { s.gclk with bubbled := bubbled (s.fget F.CLK_PSTEP_BUBBLES 0) h } ∧
    (Eff.on (holdPoint h) s).fget F.TC_FRAME_FRAME 0 = s.fget F.TC_FRAME_FRAME 0 := by
  have hSync : Eff.Only [.fld .SPR_STAT] sprSync := only_sprSync (List.Subset.refl _)
  rw [holdPoint, on_rd, on_seq_cons, on_seq_pair, hSync.fget (by decide) (by decide) (by decide), hSync.fget (by decide) (by decide) (by decide),
    hSync.frame_gclk (by decide), on_fset, on_upd, applyAll_cons, applyAll_nil, Upd.gclk_fget, Upd.gclk_fget, Upd.fget_fld_same (by decide),
    Upd.fget_fld_other (by decide)]
  exact ⟨Nat.mod_eq_of_lt hLt, rfl, rfl⟩

/-- The next frame starts at TC with hold point 0 (R74, R76). -/
def nextFrame (s : State) : Eff :=
  seq [vminFrameEnd, fadd F.TC_FRAME_FRAME 0 1, fset F.TC_FRAME_TC_TC 0 s.tc, holdPoint 0, markFrame s,
    rd fun s => each s.running (fun f => match (s.flask f).halt with
      | some h => when (!h.quiesce && decide (h.target ≤ s.tc)) (haltNow f h.cause 0xFFFF false (h.kind == .fault))
      | none => nop),
    pepFrame]

theorem nextFrame_spec (s : State) : (Eff.on (nextFrame s) s).fget F.TC_FRAME_FRAME 0 = (s.fget F.TC_FRAME_FRAME 0 + 1) % 2 ^ F.TC_FRAME_FRAME.len ∧
    (Eff.on (nextFrame s) s).fget F.TC_FRAME_TC_TC 0 = s.tc % 2 ^ 64 ∧ (Eff.on (nextFrame s) s).fget F.TC_FRAME_HOLD 0 = 0 := by
  have hRest : Eff.Only [.dbg, .flasks, .fld .CORE_STAT, .fld .DBG_HOLD, .fld .MOD_MB_SUMMARY, .fld .PEP_CTL, .fld .PEP_STAT, .fld .SPR_STAT,
      .hostOut, .hports, .pep, .slots] (seq [markFrame s,
        rd fun s => each s.running (fun f => match (s.flask f).halt with
          | some h => when (!h.quiesce && decide (h.target ≤ s.tc)) (haltNow f h.cause 0xFFFF false (h.kind == .fault))
          | none => nop),
        pepFrame]) := by
    refine only_seq₃ (only_markFrame (by decide) _) (only_rd fun _ => only_each fun f _ => ?_) (only_pepFrame (by decide))
    split
    · exact only_when fun _ => only_haltNow (by decide) _ _ _ _ _
    · exact only_nop _
  have hPoint : Eff.Only [.fld .SPR_STAT, .fld .TC_FRAME, .gclk] (holdPoint 0) := only_holdPoint (List.Subset.refl _) 0
  have hVmin : Eff.Only [.fld .PWR_VMIN_STAT, .power] vminFrameEnd := only_vminFrameEnd (List.Subset.refl _)
  obtain ⟨hHold, -, hFrame⟩ := holdPoint_spec (h := 0) (by decide) (Eff.on (fset F.TC_FRAME_TC_TC 0 s.tc)
    (Eff.on (fadd F.TC_FRAME_FRAME 0 1) (Eff.on vminFrameEnd s)))
  rw [nextFrame, on_seq_cons, on_seq_cons, on_seq_cons, on_seq_cons, hRest.fget (by decide) (by decide) (by decide),
    hRest.fget (by decide) (by decide) (by decide), hRest.fget (by decide) (by decide) (by decide), hHold, hFrame,
    hPoint.fget (by decide) (by decide) (by decide), on_fset, on_fadd, Upd.fget_fld_same (by decide), Upd.fget_fld_other (by decide),
    Upd.fget_fld_same (by decide), hVmin.fget (by decide) (by decide) (by decide)]
  exact ⟨rfl, rfl, rfl⟩

/-! The start of a flask. -/

/-- Every core of a flask's Mould is in the state that the flask takes. -/
theorem coreState_setFlaskState {f st p : Nat} {s : State} (hSt : st < 8) (h : p ∈ s.mouldPhys f) :
    (Eff.on (setFlaskState f st) s).coreState p = st := by
  have hKeep (l : List Nat) (u : State) (hIn : p ∈ l ∨ u.coreState p = st) :
      (applyAll (l.map fun q => .fld F.CORE_STAT_STATE q st) u).coreState p = st := by
    induction l generalizing u with
    | nil => exact hIn.resolve_left List.not_mem_nil
    | cons q l ih =>
      rw [List.map_cons, applyAll_cons]
      refine ih _ ?_
      by_cases hq : q = p
      · subst hq
        exact .inr ((Upd.fget_fld_same (by decide) q st u).trans (Nat.mod_eq_of_lt hSt))
      · rcases hIn with hIn | hIn
        · exact .inl ((List.mem_cons.1 hIn).resolve_left (Ne.symm hq))
        · exact .inr ((Upd.fget_fld_at (by decide) hq st u).trans hIn)
  exact hKeep _ _ (.inl h)

/-- The slots that wait for a flask's start leave its start time alone. -/
theorem startAt_startedSlots (f : Nat) (s : State) : ((Eff.on (startedSlots f) s).flask f).startAt = (s.flask f).startAt := by
  have hDone (k n : Nat) : Eff.Only [.fld .MOD_MB_SUMMARY, .hostOut, .hports, .slots] (mbDone k n) := only_mbDone (List.Subset.refl _) k n
  rw [startedSlots, on_rd, on_seq_cons, on_seq_cons, on_seq_pair, onFlask_same,
    Eff.Only.flask (ps := [.fld .MOD_MB_SUMMARY, .hostOut, .hports, .slots]) _ (by decide),
    (only_each fun k _ => hDone k 0).flask (by decide), (only_each fun k _ => only_mbDoneWith (List.Subset.refl _) k _).flask (by decide)]
  split
  · exact only_when fun _ => hDone _ _
  · exact only_nop _

/-- A flask that runs has every core of its Mould in RUN, and its epoch is used up (R238, R420). -/
theorem flaskRuns_spec (f : Nat) (s : State) : ((Eff.on (flaskRuns f) s).flask f).startAt = none ∧
    ∀ p ∈ s.mouldPhys f, (Eff.on (flaskRuns f) s).coreState p = 3 := by
  have hStart (b : Bool) (l : List Nat) (t : Nat) : Eff.Only [.cores, .fld .CORE_SC, .fld .CORE_SEQ, .fld .SPR_STAT]
      (when b (each l fun p => progStart p t)) := only_when fun _ => only_each fun _ _ => only_progStart (List.Subset.refl _) _ _
  have hSync : Eff.Only [.fld .SPR_STAT] sprSync := only_sprSync (List.Subset.refl _)
  have hSlots : Eff.Only [.flasks, .fld .MOD_MB_SUMMARY, .hostOut, .hports, .slots] (startedSlots f) := only_startedSlots (List.Subset.refl _) f
  rw [flaskRuns, on_rd]
  dsimp only
  rw [on_seq_cons, on_seq_cons, on_seq_cons, on_seq_pair, on_rd]
  refine ⟨?_, fun p hp => ?_⟩
  · rw [startAt_startedSlots, hSync.flask (by decide), onFlask_same]
  · rw [State.coreState, hSlots.fget (by decide) (by decide) (by decide), hSync.fget (by decide) (by decide) (by decide),
      (only_onFlask (ps := [.flasks]) (by decide) f _).fget (by decide) (by decide) (by decide)]
    refine coreState_setFlaskState (by decide) ?_
    rwa [State.mouldPhys_congr ((hStart _ _ _).flask (by decide) s f) fun r => (hStart _ _ _).fget (by decide) (by decide) (by decide) s r]

/-- The grid's frames begin at the first start (R74). -/
theorem gridBegin_spec (tc : Nat) (s : State) : (Eff.on (gridBegin tc) s).gclk.running = true ∧
    (Eff.on (gridBegin tc) s).fget F.TC_FRAME_TC_TC 0 = tc % 2 ^ 64 := by
  have hPoint : Eff.Only [.fld .SPR_STAT, .fld .TC_FRAME, .gclk] (holdPoint 0) := only_holdPoint (List.Subset.refl _) 0
  rw [gridBegin, on_rd, on_seq_cons, on_seq_cons, on_seq_cons, on_seq_pair, hPoint.fget (by decide) (by decide) (by decide), on_fset,
    Upd.fget_fld_same (by decide), (holdPoint_spec (by decide) _).2.1, Upd.fld_gclk, on_fset, Upd.fld_gclk, on_fset, Upd.fld_gclk]
  exact ⟨rfl, rfl⟩

/-- The first flask to start brings the grid's frames with it, at the time of its start (R74, R238). -/
theorem flaskRuns_gridBegin (f tc : Nat) (s : State) : ((Eff.on (seq [gridBegin tc, flaskRuns f]) s).flask f).startAt = none ∧
    (Eff.on (seq [gridBegin tc, flaskRuns f]) s).gclk.running = true ∧
    (Eff.on (seq [gridBegin tc, flaskRuns f]) s).fget F.TC_FRAME_TC_TC 0 = tc % 2 ^ 64 ∧
    ∀ p ∈ s.mouldPhys f, (Eff.on (seq [gridBegin tc, flaskRuns f]) s).coreState p = 3 := by
  have hRuns : Eff.Only [.cores, .flasks, .fld .CORE_SC, .fld .CORE_SEQ, .fld .CORE_STAT, .fld .MOD_MB_SUMMARY, .fld .SPR_STAT, .hostOut,
      .hports, .slots] (flaskRuns f) := only_flaskRuns (List.Subset.refl _) f
  have hBegin : Eff.Only [.fld .SPR_STAT, .fld .TC_FRAME, .fld .TC_FRAME_TC, .gclk] (gridBegin tc) := only_gridBegin (List.Subset.refl _) tc
  obtain ⟨hStarted, hCores⟩ := flaskRuns_spec f (Eff.on (gridBegin tc) s)
  obtain ⟨hRunning, hTime⟩ := gridBegin_spec tc s
  rw [State.mouldPhys_congr (hBegin.flask (by decide) s f) fun r => hBegin.fget (by decide) (by decide) (by decide) s r] at hCores
  rw [on_seq_pair, hRuns.frame_gclk (by decide), hRuns.fget (by decide) (by decide) (by decide)]
  exact ⟨hStarted, hRunning, hTime, hCores⟩

end Sys2Proof.Machine

namespace Sys2Proof.Proofs
open Sys2Proof.Machine

/-- Settles O3: each command moves TC on and then finds its occasion or not; what a hold point, a frame and a start write is not written again. -/
theorem gridTimeCommandsAct : Obligations.GridTimeCommandsAct := by
  have hClock (s : State) (tc : Nat) : s.clockAt tc % 2 ^ 64 = s.clockAt tc := Nat.mod_mod ..
  refine ⟨fun tc s => ?_, fun tc s => ?_, fun f tc s => ?_⟩
  · refine ⟨_, rfl, frame_execHoldPointStart tc s rfl, takesTime_holdPointStart tc s _ rfl,
      fun hRun hNext => ?_, fun hNot => ?_⟩
    · have hDue : ((s.movedOn tc).gclk.running && decide ((s.movedOn tc).fget F.TC_FRAME_HOLD 0 + 1 < 64)) = true := by
        simpa [s.movedOn_fget tc (f := F.TC_FRAME_HOLD) (by decide), hRun] using hNext
      obtain ⟨hHold, hClk, -⟩ := holdPoint_spec hNext (s.movedOn tc)
      rw [on_timed]
      dsimp only
      rw [hDue, on_when_true, s.movedOn_fget tc (by decide), hHold, hClk, s.movedOn_fget tc (by decide)]
      exact ⟨rfl, rfl⟩
    · have hOff : ((s.movedOn tc).gclk.running && decide ((s.movedOn tc).fget F.TC_FRAME_HOLD 0 + 1 < 64)) = false := by
        simpa [s.movedOn_fget tc (f := F.TC_FRAME_HOLD) (by decide), or_iff_not_imp_left] using hNot
      rw [on_timed]
      dsimp only
      rw [hOff, on_when_false]
      exact s.movedOn_same tc
  · refine ⟨_, rfl, frame_execFrameBoundary tc s rfl, takesTime_frameBoundary tc s _ rfl, fun hRun hNext => ?_, fun hNot => ?_⟩
    · have hDue : ((s.movedOn tc).gclk.running && decide ((s.movedOn tc).fget F.TC_FRAME_TC_TC 0 < (s.movedOn tc).tc)) = true := by
        simpa [s.movedOn_fget tc (f := F.TC_FRAME_TC_TC) (by decide), hRun] using hNext
      obtain ⟨hFrame, hTime, hHold⟩ := nextFrame_spec (s.movedOn tc)
      rw [s.movedOn_fget tc (by decide)] at hFrame
      rw [s.movedOn_tc, hClock] at hTime
      rw [on_timed, hDue, on_when_true]
      exact ⟨hFrame, hTime, hHold⟩
    · have hOff : ((s.movedOn tc).gclk.running && decide ((s.movedOn tc).fget F.TC_FRAME_TC_TC 0 < (s.movedOn tc).tc)) = false := by
        simpa [s.movedOn_fget tc (f := F.TC_FRAME_TC_TC) (by decide), or_iff_not_imp_left] using hNot
      rw [on_timed, hOff, on_when_false]
      exact s.movedOn_same tc
  · refine ⟨_, rfl, frame_execFlaskEpochStart f tc s rfl, takesTime_flaskEpochStart f tc s _ rfl,
      fun at_ hAt hDue hStart hTrip hGrid hNone => ?_, fun hNot => ?_⟩
    · have hDue' : (((s.movedOn tc).startable f.val || ((s.movedOn tc).flaskIn f.val 4 && (s.flask f.val).resumed)) &&
          decide (at_ ≤ (s.movedOn tc).tc) && !(s.movedOn tc).svc.thermTrip) = true := by simp [hStart, hDue, hTrip]
      have hFirst : ((s.flask f.val).gridStart && (s.movedOn tc).running.isEmpty) = true := by simp [hGrid, hNone]
      obtain ⟨hStarted, hRunning, hTime, hCores⟩ := flaskRuns_gridBegin f.val (s.movedOn tc).tc (s.movedOn tc)
      rw [s.movedOn_mouldPhys] at hCores
      rw [on_timed]
      dsimp only
      rw [s.movedOn_flask, hAt]
      dsimp only
      rw [hDue', on_when_true, hFirst, on_either_true]
      exact ⟨hStarted, hRunning, hTime.trans (by rw [s.movedOn_tc, hClock]), hCores⟩
    · rw [on_timed]
      dsimp only
      rw [s.movedOn_flask, hNot]
      exact s.movedOn_same tc

end Sys2Proof.Proofs
end

section
/-! The pour's control records: START, the arming records, GO, WITHDRAW and DONE (R81 to R83, R238 to R240, R684). -/
namespace Sys2Proof.Machine

/-! The operations that the records share. -/

/-- An acknowledgement sent up leaves the record held. -/
theorem armed_ctlAckUp (s : State) : (Eff.on ctlAckUp s).ctl.armed = s.ctl.armed := by
  rw [ctlAckUp, on_rd]
  cases h : s.ctl.armed with
  | none => rw [on_nop, h]
  | some r =>
    dsimp only
    cases s.ctl.acked && !s.ctl.ackSent && s.pour.children.all (fun p => s.ctl.childAcks.elem p) with
    | false => rw [on_when_false, h]
    | true =>
      have hSend (b : Bool) : Eff.Only [.msgs] (when b (send toParent .ack [r.seq, r.tag, r.target])) :=
        only_when fun _ => only_send (List.mem_singleton_self _) _ _ _
      rw [on_when_true, on_seq_pair, (hSend _).frame_ctl (by decide), on_upd, applyAll_cons, applyAll_nil, Upd.ctl_ctl]
      exact h

/-- A record forwarded and taken is held (R684). -/
theorem armed_ctlTake (m : MsgKind) (fs : List Nat) (r : CtlRec) (slot : Option Nat) (s : State) :
    (Eff.on (seq [send toTrees m fs, ctlTake r slot]) s).ctl.armed = some r := by
  rw [on_seq_pair, ctlTake, on_rd, on_seq_pair, armed_ctlAckUp, on_upd, applyAll_cons, applyAll_nil, Upd.ctl_ctl]

/-- A conflict drops the record held and is marked (R684). -/
theorem ctlConflict_spec (t : Nat) (s : State) :
    (Eff.on (ctlConflict t) s).ctl = CtlSt.none ∧ (Eff.on (ctlConflict t) s).fget F.CLK_CHG_STAT_CONFLICT 0 = 1 := by
  have hRest (d : List (Nat × Nat)) : Eff.Only [.ev, .flasks, .msgs] (seq [raise 0x0105 2 crucible d, haltPourFlasks 3 t, haltBeacon 3]) :=
    only_seq₃ (only_raise (by decide) _ _ _ _) (only_haltPourFlasks (by decide) _ _) (only_haltBeacon (by decide) _)
  rw [ctlConflict, on_rd, on_seq_cons, on_seq_cons, (hRest _).frame_ctl (by decide), (hRest _).fget (by decide) (by decide) (by decide), on_fset,
    Upd.fld_ctl, on_upd, applyAll_cons, applyAll_nil, Upd.ctl_ctl, Upd.fget_fld_same (by decide)]
  exact ⟨rfl, rfl⟩

/-- GO of the record held ends it, but for a switch, which is held until it is done (R239). -/
theorem ctl_ctlGo (r : CtlRec) (s : State) :
    (Eff.on (ctlGo r) s).ctl = if r.kind = 0x12 then { s.ctl with go := true } else CtlSt.none := by
  rw [ctlGo, on_rd, on_seq_pair, on_upd, applyAll_cons, applyAll_nil, Upd.ctl_ctl]

/-- A flask that may start, and has another start time or none, takes this one (R238). -/
def startFlask (s : State) (t f : Nat) : Eff := when (s.startable f && (s.flask f).startAt != some t)
  (onFlask f (fun x => { x with startAt := some t, gridStart := x.reported.isNone && s.running.isEmpty }))

theorem startFlask_other {s u : State} {t f g : Nat} (h : f ≠ g) : (Eff.on (startFlask s t f) u).flask g = u.flask g := by
  rw [startFlask]
  cases s.startable f && (s.flask f).startAt != some t with
  | false => rw [on_when_false]
  | true => rw [on_when_true, onFlask_ne _ _ h]

theorem startFlask_due {s u : State} {t f : Nat} (hStart : s.startable f = true) (hNew : (s.flask f).startAt ≠ some t) :
    ((Eff.on (startFlask s t f) u).flask f).startAt = some t := by
  have hDue : (s.startable f && (s.flask f).startAt != some t) = true := by simp [hStart, hNew]
  rw [startFlask, hDue, on_when_true, onFlask_same]

theorem startFlask_keeps {s u : State} {t f : Nat} (h : (u.flask f).startAt = some t) : ((Eff.on (startFlask s t f) u).flask f).startAt = some t := by
  rw [startFlask]
  cases s.startable f && (s.flask f).startAt != some t with
  | false => exact h
  | true => rw [on_when_true, onFlask_same]

/-- Every flask of the pour that may start has the start time then (R238). -/
theorem startAt_startFlasks {t f : Nat} {s : State} (hPour : f ∈ s.pourFlasks) (hStart : s.startable f = true) :
    ((Eff.on (startFlasks t) s).flask f).startAt = some t := by
  have hEach (l : List Nat) (u : State) (h : (f ∈ l ∧ (s.flask f).startAt ≠ some t) ∨ (u.flask f).startAt = some t) :
      ((Eff.on (each l (startFlask s t)) u).flask f).startAt = some t := by
    induction l generalizing u with
    | nil => exact h.resolve_left fun h => List.not_mem_nil h.1
    | cons g l ih =>
      rw [on_each_cons]
      refine ih _ ?_
      by_cases hg : g = f
      · subst hg
        exact .inr (h.elim (fun h => startFlask_due hStart h.2) startFlask_keeps)
      · rw [startFlask_other hg]
        exact h.imp_left fun h => ⟨(List.mem_cons.1 h.1).resolve_left (Ne.symm hg), h.2⟩
  by_cases hOld : (s.flask f).startAt = some t
  · exact hEach s.pourFlasks s (.inr hOld)
  · exact hEach s.pourFlasks s (.inl ⟨hPour, hOld⟩)

/-! Arming records. -/

/-- An arming record with a bad CRC, or outside a pour, changes nothing; the first is taken, a copy ignored, and one that reuses the sequence number
of the record held is a conflict (R240, R684). -/
theorem ctlArm_spec (kind : Nat) (rec : CtlRec) (s : State) :
    SameBut [.ctl, .ev, .flasks, .fld .CLK_CHG_STAT, .msgs] s (Eff.on (ctlArm kind rec) s) ∧
    (rec.crcOk = false ∨ s.pourTag = 0 → Eff.on (ctlArm kind rec) s = s) ∧
    (rec.crcOk = true → s.pourTag ≠ 0 → s.ctl.armed = none → (Eff.on (ctlArm kind rec) s).ctl.armed = some { rec with kind }) ∧
    (∀ a, rec.crcOk = true → s.pourTag ≠ 0 → s.ctl.armed = some a →
      (sameRec a { rec with kind } = true → Eff.on (ctlArm kind rec) s = s) ∧
      (a.seq = rec.seq → sameRec a { rec with kind } = false →
        (Eff.on (ctlArm kind rec) s).ctl = CtlSt.none ∧ (Eff.on (ctlArm kind rec) s).fget F.CLK_CHG_STAT_CONFLICT 0 = 1) ∧
      (a.seq ≠ rec.seq → (Eff.on (ctlArm kind rec) s).ctl.armed = some { rec with kind })) := by
  have hGood (hCrc : rec.crcOk = true) (hPour : s.pourTag ≠ 0) : (rec.crcOk && s.pourTag != 0) = true := by simp [hCrc, hPour]
  refine ⟨(only_ctlArm (List.Subset.refl _) kind rec).same s, fun hBad => ?_, fun hCrc hPour hFree => ?_,
    fun a hCrc hPour hHeld => ⟨fun hSame => ?_, fun hSeq hOther => ?_, fun hSeq => ?_⟩⟩
  all_goals
    rw [ctlArm, on_rd]
    dsimp only
  · have hOff : (rec.crcOk && s.pourTag != 0) = false := by rcases hBad with h | h <;> simp [h]
    rw [hOff, on_when_false]
  · rw [hGood hCrc hPour, on_when_true, hFree]
    exact armed_ctlTake _ _ _ _ s
  · rw [hGood hCrc hPour, on_when_true, hHeld]
    dsimp only
    rw [if_pos hSame, on_nop]
  · rw [hGood hCrc hPour, on_when_true, hHeld]
    dsimp only
    rw [if_neg (by simp [hOther]), if_pos hSeq]
    exact ctlConflict_spec a.target s
  · have hOther : sameRec a { rec with kind } ≠ true := by simp [sameRec, hSeq]
    rw [hGood hCrc hPour, on_when_true, hHeld]
    dsimp only
    rw [if_neg hOther, if_neg hSeq]
    exact armed_ctlTake _ _ _ _ s

/-! START (R238). -/

/-- START goes on down the trees, gives the pour's flasks their start time, and no record is held from then on. -/
theorem start_spec (t tag : Nat) (s : State) :
    let u := Eff.on (seq [send toTrees .start [t, tag], startFlasks t, upd [.ctl CtlSt.none], readyAgain]) s
    u.ctl = CtlSt.none ∧ Sent s u toTrees .start [t, tag] ∧
      ∀ f, f ∈ s.pourFlasks → s.startable f = true → (u.flask f).startAt = some t := by
  have hReady : Eff.Only [.pour] readyAgain := only_readyAgain (List.Subset.refl _)
  have hFlasks : Eff.Only [.flasks] (startFlasks t) := only_startFlasks (List.Subset.refl _) t
  intro u
  have hu : u = Eff.on readyAgain (Eff.on (upd [.ctl CtlSt.none]) (Eff.on (startFlasks t) (Eff.on (send toTrees .start [t, tag]) s))) := by
    rw [← on_seq_pair, ← on_seq_cons, ← on_seq_cons]
  rw [hu]
  refine ⟨?_, ?_, fun f hPour hStart => ?_⟩
  · rw [hReady.frame_ctl (by decide), on_upd, applyAll_cons, applyAll_nil, Upd.ctl_ctl]
  · rw [Sent, hReady.frame_msgs (by decide), on_upd, applyAll_cons, applyAll_nil, Upd.ctl_msgs, hFlasks.frame_msgs (by decide), on_send,
      Upd.msgs_msgs]
  · rw [hReady.flask (by decide)]
    exact startAt_startFlasks (s := Eff.on (send toTrees .start [t, tag]) s) hPour hStart

/-! The records that name the one held (R81 to R83, R239, R240). -/

/-- What a record does that names the one held by its sequence number, before GO: `k` of the state and the record held. -/
def ofHeld (rec : CtlRec) (k : State → CtlRec → Eff) : Eff := rd fun s =>
  match s.ctl.armed with
  | none => nop
  | some r => when (rec.crcOk && rec.seq == r.seq && !s.ctl.go) (k s r)

theorem ofHeld_other {rec : CtlRec} {k : State → CtlRec → Eff} {s : State}
    (h : s.ctl.armed = none ∨ ∃ a, s.ctl.armed = some a ∧ (rec.crcOk = false ∨ rec.seq ≠ a.seq ∨ s.ctl.go = true)) :
    Eff.on (ofHeld rec k) s = s := by
  rw [ofHeld, on_rd]
  rcases h with h | ⟨a, h, hNot⟩ <;> rw [h]
  · exact on_nop s
  · have hOff : (rec.crcOk && rec.seq == a.seq && !s.ctl.go) = false := by rcases hNot with h | h | h <;> simp [h]
    dsimp only
    rw [hOff, on_when_false]

theorem ofHeld_named {rec a : CtlRec} (k : State → CtlRec → Eff) {s : State} (hHeld : s.ctl.armed = some a) (hCrc : rec.crcOk = true)
    (hSeq : rec.seq = a.seq) (hNew : s.ctl.go = false) : Eff.on (ofHeld rec k) s = Eff.on (k s a) s := by
  have hNamed : (rec.crcOk && rec.seq == a.seq && !s.ctl.go) = true := by simp [hCrc, hSeq, hNew]
  rw [ofHeld, on_rd, hHeld]
  dsimp only
  rw [hNamed, on_when_true]

/-- GO of the record held: forwarded, and committed where this module has acknowledged it (R82, R239). -/
def goHeld (s : State) (r : CtlRec) : Eff := seq [send toTrees .flaskCtl (ctlFields r 0x13), when s.ctl.acked (ctlGo r)]

theorem goHeld_spec (r : CtlRec) (s : State) : Sent s (Eff.on (goHeld s r) s) toTrees .flaskCtl (ctlFields r 0x13) ∧
    (Eff.on (goHeld s r) s).ctl =
      if s.ctl.acked then (if r.kind = 0x12 then { s.ctl with go := true } else CtlSt.none) else s.ctl := by
  have hGo (b : Bool) : Eff.Only [.ctl, .dbg, .flasks, .fld .DBG_HOLD] (when b (ctlGo r)) := only_when fun _ => only_ctlGo (List.Subset.refl _) r
  rw [goHeld, on_seq_pair]
  refine ⟨?_, ?_⟩
  · rw [Sent, (hGo _).frame_msgs (by decide), on_send, Upd.msgs_msgs]
  · cases s.ctl.acked with
    | false => exact Upd.msgs_ctl ..
    | true => exact ctl_ctlGo r _

/-- GO that names the record held: a conflict where its target or tag differs (R684). -/
def goNamed (rec : CtlRec) (s : State) (r : CtlRec) : Eff := either (rec.target != r.target || rec.tag != r.tag) (ctlConflict r.target) (goHeld s r)

theorem goNamed_conflict {rec r : CtlRec} {s : State} (h : rec.target ≠ r.target ∨ rec.tag ≠ r.tag) :
    goNamed rec s r = ctlConflict r.target := by
  have hOther : (rec.target != r.target || rec.tag != r.tag) = true := by simpa using h
  rw [goNamed, hOther]
  rfl

theorem goNamed_held {rec r : CtlRec} {s : State} (hTarget : rec.target = r.target) (hTag : rec.tag = r.tag) : goNamed rec s r = goHeld s r := by
  have hSame : (rec.target != r.target || rec.tag != r.tag) = false := by simp [hTarget, hTag]
  rw [goNamed, hSame]
  rfl

/-- WITHDRAW that names the record held: forwarded, and none is held from then on (R83, R240). -/
def withdrawHeld (r : CtlRec) : Eff := seq [send toTrees .flaskCtl (ctlFields r 0x14), upd [.ctl CtlSt.none]]

/-- DONE from below is noted; once this module's own has gone up, nothing follows (R239). -/
theorem doneUp_sent {s : State} (h : s.ctl.doneSent = true) : Eff.on doneUp s = s := by
  rw [doneUp, on_rd, h]
  dsimp only
  rw [Bool.not_true, Bool.and_false, Bool.false_and, on_when_false]

end Sys2Proof.Machine

namespace Sys2Proof.Proofs
open Sys2Proof.Machine

/-- Settles O23: the four arming records run one operation, and each of the other records is read off the record held. -/
theorem flaskControlRecordsAct : Obligations.FlaskControlRecordsAct := by
  refine ⟨fun rec s => ?_, fun rec s => ⟨_, rfl, ctlArm_spec 0x11 rec s⟩, fun rec s => ⟨_, rfl, ctlArm_spec 0x12 rec s⟩,
    fun rec s => ⟨_, rfl, ctlArm_spec 0x17 rec s⟩, fun rec s => ⟨_, rfl, ctlArm_spec 0x18 rec s⟩, fun rec s => ?_, fun rec s => ?_,
    fun port rec s => ?_⟩
  · refine ⟨_, rfl, frame_execStart rec s rfl, fun hNot => ?_, fun hDue => ?_⟩
    · rw [on_rd, hNot, on_when_false]
    · rw [on_rd, hDue, on_when_true]
      exact start_spec rec.target rec.tag s
  · refine ⟨Eff.on (ofHeld rec (goNamed rec)) s, rfl, frame_execFlaskGo rec s rfl, ofHeld_other, fun a hHeld hCrc hSeq hNew => ?_⟩
    rw [ofHeld_named _ hHeld hCrc hSeq hNew]
    refine ⟨fun hOther => ?_, fun hTarget hTag => ?_⟩
    · rw [goNamed_conflict hOther]
      exact ctlConflict_spec a.target s
    · obtain ⟨hSent, hCtl⟩ := goHeld_spec a s
      rw [goNamed_held hTarget hTag, hCtl]
      exact ⟨hSent, fun hNot => by simp [hNot], fun hAcked hKind => by simp [hAcked, hKind], fun hAcked hKind => by simp [hAcked, hKind]⟩
  · refine ⟨Eff.on (ofHeld rec fun _ => withdrawHeld) s, rfl, frame_execFlaskWithdraw rec s rfl, ofHeld_other, fun a hHeld hCrc hSeq hNew => ?_⟩
    rw [ofHeld_named _ hHeld hCrc hSeq hNew, withdrawHeld, on_seq_pair]
    exact ⟨Upd.ctl_ctl .., Upd.ctl_msgs ..⟩
  · refine ⟨_, rfl, frame_execDone port rec s rfl, fun hNot => ?_, fun a hHeld hCrc hSeq hSent => ?_⟩
    · rw [on_rd]
      rcases hNot with h | ⟨a, h, hNot⟩ <;> rw [h]
      · rw [Bool.and_false, on_when_false]
      · have hOff : (rec.crcOk && a.seq == rec.seq) = false := by rcases hNot with h | h <;> simp [h]
        dsimp only
        rw [hOff, on_when_false]
    · have hNamed : (rec.crcOk && a.seq == rec.seq) = true := by simp [hCrc, hSeq]
      rw [on_rd, hHeld]
      dsimp only
      rw [hNamed, on_when_true, on_seq_pair]
      exact congrArg State.ctl (doneUp_sent (s := Eff.on (upd [.ctl { s.ctl with dones := NSet.add s.ctl.dones port.val }]) s) hSent)

end Sys2Proof.Proofs
end

section
/-! Engines: what their storage shows, the start of a tile, its drain and LOAD_A (R137 to R143, R147 to R153). -/
namespace Sys2Proof.Machine

/-! Engines and cores read after an effect. -/

/-- What each effect of a list leaves alone, all of them in order leave alone. -/
theorem on_each_keeps {α β : Type} (g : State → β) {l : List α} {f : α → Eff} (h : ∀ a ∈ l, ∀ s, g (Eff.on (f a) s) = g s) (s : State) :
    g (Eff.on (each l f) s) = g s := by
  induction l generalizing s with
  | nil => rfl
  | cons a l ih => rw [on_each_cons, ih fun b hb => h b (List.mem_cons_of_mem _ hb), h a List.mem_cons_self]

theorem Eff.Only.eng {ps : List Part} {e : Eff} (h : e.Only ps) (hMe : Part.mes ∉ ps) (hSe : Part.ses ∉ ps) (s : State) (u : Eng) :
    (Eff.on e s).eng u = s.eng u := by
  simp only [State.eng, State.me, State.se, h.frame_mes hMe, h.frame_ses hSe]

@[simp] theorem onEng_same (u : Eng) (f : EngSt → EngSt) (s : State) : (Eff.on (onEng u f) s).eng u = f (s.eng u) := by
  cases h : u.se <;> simp [State.eng, onEng, h]

/-- What a change of one engine leaves alone in an engine's state, it leaves alone in every engine. -/
theorem onEng_keeps {α : Type} (g : EngSt → α) {f : EngSt → EngSt} (h : ∀ e, g (f e) = g e) (u v : Eng) (s : State) :
    g ((Eff.on (onEng u f) s).eng v) = g (s.eng v) := by
  have hMe (k j : Nat) : g ((Eff.on (onMe k f) s).me j) = g (s.me j) := by
    by_cases hk : k = j
    · rw [hk, onMe_same, h]
    · rw [onMe_ne f s hk]
  have hSe (k j : Nat) : g ((Eff.on (onSe k f) s).se j) = g (s.se j) := by
    by_cases hk : k = j
    · rw [hk, onSe_same, h]
    · rw [onSe_ne f s hk]
  cases hu : u.se <;> cases hv : v.se <;> simp only [State.eng, onEng, hu, hv, if_true, if_false, Bool.false_eq_true]
  · exact hMe _ _
  · rfl
  · rfl
  · exact hSe _ _

/-- What a change of one core's unit leaves alone in a unit, it leaves alone in every core's. -/
theorem onCore_keeps {α : Type} (g : CoreSt → α) {f : CoreSt → CoreSt} (h : ∀ c, g (f c) = g c) (p q : Nat) (s : State) :
    g ((Eff.on (onCore p f) s).core q) = g (s.core q) := by
  by_cases hp : p = q
  · rw [hp, onCore_same, h]
  · rw [onCore_ne f s hp]

/-- A field that both kinds of engine have keeps its value where neither kind's register is written. -/
theorem Eff.Only.fget_eng {ps : List Part} {e : Eff} (h : e.Only ps) {a b : Fld}
    (hKeep : (a.inReg = true ∧ Part.fld a.reg ∉ ps) ∧ (b.inReg = true ∧ Part.fld b.reg ∉ ps) ∧ Part.flds ∉ ps) (u : Eng) (s : State) (i : Nat) :
    (Eff.on e s).fget (u.fld a b) i = s.fget (u.fld a b) i := by
  obtain ⟨⟨hInA, hRegA⟩, ⟨hInB, hRegB⟩, hFlds⟩ := hKeep
  rw [Eng.fld]
  split
  · exact h.fget hInB hFlds hRegB s i
  · exact h.fget hInA hFlds hRegA s i

/-- A core's schedule advances by its state, its owner, the hold point and the debug holds. -/
theorem State.scheduled_congr {s t : State} {p : Nat} (hState : t.coreState p = s.coreState p) (hClk : t.gclk = s.gclk)
    (hOwner : (t.core p).owner = (s.core p).owner) (hHeld : t.fget F.DBG_HOLD_HELD 0 = s.fget F.DBG_HOLD_HELD 0) :
    t.scheduled p = s.scheduled p := by
  simp only [State.scheduled, State.flaskOf, hState, hClk, hOwner, hHeld]

/-! What an engine's storage shows as it runs (R264, R273). -/

/-- Nothing found, nothing changed. -/
theorem engFaults_none {f : EngFaults} (hConf : f.conflicts = []) (hCorr : f.corrected = []) (hUnc : f.uncorrected = []) (u : Eng) (s : State) :
    Eff.on (engFaults u f) s = s := by
  rw [engFaults, hConf, hCorr, hUnc]
  rfl

/-- Lost bank cycles and corrected errors are told and counted, and note the rows found. -/
theorem only_engFaults_corrected {f : EngFaults} (h : f.uncorrected = []) (u : Eng) :
    Eff.Only [.cores, .ev, .fld .SPD_CONFLICT, .fld .SPD_ECC, .fld .SPD_ECC_ADDR] (engFaults u f) := by
  rw [engFaults, h]
  exact only_seq₃ (only_each fun _ _ => only_spdConflict (by decide) _ _ _) (only_each fun _ _ => only_spdCorrected (by decide) _ _ _)
    (only_each nofun)

/-- A corrected error moves no core to another owner. -/
theorem owner_spdCorrected (p line : Nat) (scrub : Bool) (q : Nat) (s : State) :
    ((Eff.on (spdCorrected p line scrub) s).core q).owner = (s.core q).owner := by
  have hFlds (b : Bool) (x y z : Nat) (v : Bool) : Eff.Only [.fld .SPD_ECC_ADDR] (when b (seq [fset F.SPD_ECC_ADDR_OFFSET p x,
      fset F.SPD_ECC_ADDR_UNCORR p y, fput F.SPD_ECC_ADDR_SCRUB z v])) :=
    only_when fun _ => only_seq₃ (only_fset (by decide) _ _) (only_fset (by decide) _ _) (only_fput (by decide) _ _)
  rw [spdCorrected, on_rd]
  dsimp only
  rw [on_seq_cons, on_seq_cons, on_seq_cons, on_seq_cons, on_seq_pair]
  have hWhen (b : Bool) (f : CoreSt → CoreSt) (hf : ∀ c, (f c).owner = c.owner) (t : State) :
      ((Eff.on (when b (onCore p f)) t).core q).owner = (t.core q).owner := by
    cases b
    · rfl
    · exact onCore_keeps CoreSt.owner hf p q t
  refine (hWhen _ _ ?_ _).trans <| (onCore_keeps CoreSt.owner ?_ p q _).trans ?_
  · exact fun _ => rfl
  · exact fun _ => rfl
  rw [(only_raise (ps := [.ev]) (by decide) _ _ _ _).core (by decide), (hFlds _ _ _ _ _).core (by decide),
    (only_fset (ps := [.fld .SPD_ECC]) (by decide) _ _).core (by decide), (only_fsat (ps := [.fld .SPD_ECC]) (by decide) _ _).core (by decide)]

/-- A core's schedule advances after lost bank cycles and corrected errors as it did before. -/
theorem scheduled_engFaults {f : EngFaults} (h : f.uncorrected = []) (u : Eng) (s : State) (p : Nat) :
    (Eff.on (engFaults u f) s).scheduled p = s.scheduled p := by
  have hOnly := only_engFaults_corrected h u
  refine State.scheduled_congr (hOnly.fget (by decide) (by decide) (by decide) s p) (hOnly.frame_gclk (by decide) s) ?_
    (hOnly.fget (by decide) (by decide) (by decide) s 0)
  rw [engFaults, h, on_seq_cons, on_seq_pair, on_each_nil, on_each_keeps (fun s => (s.core p).owner) fun _ _ _ => owner_spdCorrected ..,
    on_each_keeps (fun s => (s.core p).owner) fun c _ s => congrArg CoreSt.owner
      ((only_spdConflict (pt := [.ev, .fld .SPD_CONFLICT]) (by decide) _ _ _).core (by decide) s p)]

/-! The start of a tile (R136 to R143). -/

/-- A core's store reads as its bytes and its poisoned lines. -/
theorem State.spdStore_congr {s t : State} (hSpd : t.spd = s.spd) (hPoison : t.spdPoison = s.spdPoison) (p : Nat) (lost : List Nat) :
    t.spdStore p lost = s.spdStore p lost := by
  simp only [State.spdStore, hSpd, hPoison]

/-- A tile that begins is in flight. -/
theorem EngSt.begin_mem_tiles (e : EngSt) (se : Bool) (c : Queued) (bank : Nat) (sp : Store) :
    (e.begin se c bank sp).2.1 ∈ (e.begin se c bank sp).1.tiles := by
  rw [EngSt.begin]
  exact List.mem_append_right _ (List.mem_singleton_self _)

/-- The lines of its A buffer that parity strikes anew as an engine starts a tile (R152). -/
def EngSt.strikes (e : EngSt) (f : EngFaults) : List Nat := f.abufParity.filter (fun l => !NSet.mem e.abufParity l)

/-- An engine with those lines struck. -/
def EngSt.struck (e : EngSt) (f : EngFaults) : EngSt := { e with abufParity := (e.strikes f).foldl NSet.add e.abufParity }

/-- With nothing queued that could start, only the storage's findings are told. -/
theorem engStart_none {u : Eng} {quad : Nat} {f : EngFaults} {after : Desc → Store → Nat → Eff} {s : State} (hUnc : f.uncorrected = [])
    (hNone : nextQueued u.se quad (s.eng u).queue = none) : Eff.on (engStart u quad f after) s = Eff.on (engFaults u f) s := by
  rw [engStart, on_seq_pair, on_rd, (only_engFaults_corrected hUnc u).eng (by decide) (by decide)]
  dsimp only
  rw [hNone, on_nop]

/-- What precedes the effect of a start that its kind adds: findings and struck lines, the engine with its tile begun, the cycles held. -/
def tileStart (u : Eng) (f : EngFaults) (struck : List Nat) (x : EngSt × Tile × Nat × Nat × Nat) : Eff :=
  seq [engFaults u f, onEng u (fun e => { e with abufParity := struck.foldl NSet.add e.abufParity }), engParity u struck.length, onEng u (fun _ => x.1),
    fsat (u.fld F.ME_STALL_SWAP F.SE_STALL_SWAP) u.key x.2.2.2.2, when (!u.se) (fsat F.ME_STALL_SHAPE u.key x.2.2.2.1)]

theorem only_tileStart {f : EngFaults} (h : f.uncorrected = []) (u : Eng) (struck : List Nat) (x : EngSt × Tile × Nat × Nat × Nat) :
    Eff.Only [.cores, .ev, .fld .ME_ERR, .fld .ME_STALL, .fld .SE_ERR, .fld .SE_STALL, .fld .SPD_CONFLICT, .fld .SPD_ECC, .fld .SPD_ECC_ADDR,
      .mes, .ses] (tileStart u f struck x) :=
  only_seq_cons ((only_engFaults_corrected h u).mono (by decide)) <| only_seq_cons (only_onEng (by decide) _ _) <|
    only_seq₄ (only_engParity (by decide) _ _) (only_onEng (by decide) _ _) (only_fsat (Eng.fld_mem (by decide) (by decide)) _ _)
      (only_when fun _ => only_fsat (by decide) _ _)

/-- The engine is left with its tile begun. -/
theorem eng_tileStart (u : Eng) (f : EngFaults) (struck : List Nat) (x : EngSt × Tile × Nat × Nat × Nat) (s : State) :
    (Eff.on (tileStart u f struck x) s).eng u = x.1 := by
  have hShape (b : Bool) : Eff.Only [.fld .ME_STALL] (when b (fsat F.ME_STALL_SHAPE u.key x.2.2.2.1)) :=
    only_when fun _ => only_fsat (by decide) _ _
  have hSwap : Eff.Only [.fld .ME_STALL, .fld .SE_STALL] (fsat (u.fld F.ME_STALL_SWAP F.SE_STALL_SWAP) u.key x.2.2.2.2) :=
    only_fsat (Eng.fld_mem (by decide) (by decide)) _ _
  rw [tileStart, on_seq_cons, on_seq_cons, on_seq_cons, on_seq_cons, on_seq_pair, (hShape _).eng (by decide) (by decide),
    hSwap.eng (by decide) (by decide), onEng_same]

/-- A descriptor that can start does so: its tile begins in the engine's bank; what the kind of engine adds and the engine's status follow. -/
theorem engStart_begins {u : Eng} {quad : Nat} {f : EngFaults} (after : Desc → Store → Nat → Eff) {s : State} {q : Queued}
    (hUnc : f.uncorrected = []) (hRuns : s.scheduled u.core = true) (hNext : nextQueued u.se quad (s.eng u).queue = some q)
    (hCan : (s.eng u).canStart u.se q ((s.eng u).nextBank (parseDesc u.se q.desc)) = true)
    {sp : Store} (hSp : sp = s.spdStore u.core (f.conflicts.map (fun y => y.1))) {x : EngSt × Tile × Nat × Nat × Nat}
    (hx : x = EngSt.begin ((s.eng u).struck f) u.se q ((s.eng u).nextBank (parseDesc u.se q.desc)) sp) :
    Eff.on (engStart u quad f after) s =
      Eff.on (engStat u) (Eff.on (after (parseDesc u.se q.desc) sp x.2.2.1) (Eff.on (tileStart u f ((s.eng u).strikes f) x) s)) := by
  have hFaults := only_engFaults_corrected hUnc u
  have hStruck (g : EngSt → EngSt) : Eff.Only [.mes, .ses] (onEng u g) := only_onEng (by decide) u g
  have hParity (n : Nat) : Eff.Only [.ev, .fld .ME_ERR, .fld .SE_ERR] (engParity u n) := only_engParity (List.Subset.refl _) u n
  have hEng := hFaults.eng (by decide) (by decide) s u
  have hStore (g : EngSt → EngSt) (n : Nat) (lost : List Nat) :
      (Eff.on (engParity u n) (Eff.on (onEng u g) (Eff.on (engFaults u f) s))).spdStore u.core lost = s.spdStore u.core lost := by
    refine State.spdStore_congr ?_ ?_ _ _
    · rw [(hParity n).frame_spd (by decide), (hStruck g).frame_spd (by decide), hFaults.frame_spd (by decide)]
    · rw [(hParity n).frame_spdPoison (by decide), (hStruck g).frame_spdPoison (by decide), hFaults.frame_spdPoison (by decide)]
  subst hx hSp
  rw [engStart, on_seq_pair, on_rd, hEng]
  dsimp only
  rw [hNext]
  dsimp only
  rw [scheduled_engFaults hUnc, hRuns, hCan, Bool.and_self, on_when_true, on_seq_cons, on_seq_pair, on_rd,
    (hParity _).eng (by decide) (by decide), onEng_same, hEng, hStore, on_seq_cons, on_seq_cons, on_seq_cons, on_seq_pair, tileStart,
    on_seq_cons, on_seq_cons, on_seq_cons, on_seq_cons, on_seq_pair]
  rfl

/-- The products gated are added unless GATE_DIS is set (R143, R158). -/
def addGated (u : Eng) (n : Nat) : Eff := rd fun s => when (!s.flag F.ME_CTL_GATE_DIS u.key) (fadd F.ME_GATED_COUNT u.key n)

theorem only_addGated (u : Eng) (n : Nat) : Eff.Only [.fld .ME_GATED] (addGated u n) := only_rd fun _ => only_when fun _ => only_fadd (by decide) _ _

theorem addGated_on {u : Eng} {s : State} (h : s.flag F.ME_CTL_GATE_DIS u.key = false) (n : Nat) :
    (Eff.on (addGated u n) s).fget F.ME_GATED_COUNT u.key = (s.fget F.ME_GATED_COUNT u.key + n) % 2 ^ F.ME_GATED_COUNT.len := by
  rw [addGated, on_rd, h, Bool.not_false, on_when_true, on_fadd, Upd.fget_fld_same (by decide)]

theorem addGated_off {u : Eng} {s : State} (h : s.flag F.ME_CTL_GATE_DIS u.key = true) (n : Nat) : Eff.on (addGated u n) s = s := by
  rw [addGated, on_rd, h, Bool.not_true, on_when_false]

/-- The start of a tile on a matrix engine, as ME_MMA_START runs it (R136, R143). -/
def meStart (u : Eng) (quad : Nat) (f : EngFaults) : Eff := engStart u quad f (fun _ _ gated => addGated u gated)

/-- A start leaves the engine with its tile begun and in flight, and GATED with the products gated unless GATE_DIS is set. -/
theorem meStart_begins {u : Eng} {quad : Nat} {f : EngFaults} {s : State} {q : Queued} (hUnc : f.uncorrected = [])
    (hRuns : s.scheduled u.core = true) (hNext : nextQueued u.se quad (s.eng u).queue = some q)
    (hCan : (s.eng u).canStart u.se q ((s.eng u).nextBank (parseDesc u.se q.desc)) = true)
    {sp : Store} (hSp : sp = s.spdStore u.core (f.conflicts.map (fun y => y.1))) {x : EngSt × Tile × Nat × Nat × Nat}
    (hx : x = EngSt.begin ((s.eng u).struck f) u.se q ((s.eng u).nextBank (parseDesc u.se q.desc)) sp) :
    (Eff.on (meStart u quad f) s).eng u = x.1 ∧ x.2.1 ∈ ((Eff.on (meStart u quad f) s).eng u).tiles ∧
      (s.flag F.ME_CTL_GATE_DIS u.key = false → (Eff.on (meStart u quad f) s).fget F.ME_GATED_COUNT u.key =
        (s.fget F.ME_GATED_COUNT u.key + x.2.2.1) % 2 ^ F.ME_GATED_COUNT.len) ∧
      (s.flag F.ME_CTL_GATE_DIS u.key = true → (Eff.on (meStart u quad f) s).fget F.ME_GATED_COUNT u.key = s.fget F.ME_GATED_COUNT u.key) := by
  have hStart := only_tileStart hUnc u ((s.eng u).strikes f) x
  have hGated := only_addGated u x.2.2.1
  have hStatus : Eff.Only [.fld .ME_STAT, .fld .SE_STAT] (engStat u) := only_engStat (List.Subset.refl _) u
  have hDis : (Eff.on (tileStart u f ((s.eng u).strikes f) x) s).flag F.ME_CTL_GATE_DIS u.key = s.flag F.ME_CTL_GATE_DIS u.key :=
    congrArg (· == 1) (hStart.fget (by decide) (by decide) (by decide) s _)
  rw [meStart, engStart_begins _ hUnc hRuns hNext hCan hSp hx, hStatus.eng (by decide) (by decide), hGated.eng (by decide) (by decide),
    eng_tileStart, hStatus.fget (by decide) (by decide) (by decide)]
  refine ⟨rfl, hx ▸ EngSt.begin_mem_tiles .., fun hOn => ?_, fun hOff => ?_⟩
  · rw [addGated_on (hDis.trans hOn), hStart.fget (by decide) (by decide) (by decide)]
  · rw [addGated_off (hDis.trans hOff), hStart.fget (by decide) (by decide) (by decide)]

/-! A tile that drains (R137, R138, R147 to R153). -/

/-- The length of an MX block is kept (R104). -/
theorem length_mxQuant (c : Nat) (xs : List Num) : (mxQuant c xs).2.1.length = xs.length := by
  rw [mxQuant]
  split
  · exact List.length_map _
  · dsimp only
    split <;> exact List.length_map _

/-- A drained row has a value for each column. -/
theorem length_outRow (se : Bool) (d : Desc) (t : Tile) (e : EngSt) (arr : List (Nat × BufRow)) (sp : Store) (struck : List Nat) (i : Nat) :
    (outRow se d t e arr sp struck i).1.vals.length = d.n := by
  rw [outRow]
  dsimp only
  split
  · rw [length_mxQuant, List.length_map, List.length_map, List.length_range]
  · rw [List.length_map, List.length_map, List.length_map, List.length_range]

theorem length_natLe (n : Nat) : ∀ v, (natLe n v).length = n := by
  induction n with
  | zero => exact fun _ => rfl
  | succ n ih => exact fun v => congrArg (· + 1) (ih _)

/-- A packed run takes whole bytes (R100). -/
theorem length_packOver (w : Nat) (vals : List Nat) (old : Nat → Byte) : (packOver w vals old).length = (w * vals.length + 7) / 8 := by
  rw [packOver, List.length_append, length_natLe]
  split
  · rw [List.length_nil]; omega
  · rw [List.length_singleton]; omega

/-- A scheduled write reaches no byte outside its extent, whatever lines it loses (R264). -/
theorem spdWrLost_outside {p off a : Nat} {bs : List Byte} (h : a < spdBase p + off ∨ spdBase p + off + bs.length ≤ a) (poison : Bool)
    (lost : List Nat) (s : State) : Mem.rd (Eff.on (spdWrLost p off bs poison lost) s).spd a = Mem.rd s.spd a := by
  refine on_each_keeps (fun s => Mem.rd s.spd a) (fun l _ s => ?_) s
  dsimp only
  cases lost.elem l
  · rw [on_either_false, spd_spdWr, Mem.rd_wrN_out]
    rw [List.length_take, List.length_drop]
    omega
  · rw [on_either_true, (only_spdMark (List.Subset.refl _) p l).frame_spd (by decide)]

/-- The tiles that an engine has in flight and holds. -/
def EngSt.outstanding (e : EngSt) : List Tile × List Tile := (e.tiles, e.held)

/-- A row that reaches a chain register neither starts nor ends a tile of any engine (R148, R149). -/
theorem outstanding_chainRow (u v : Eng) (quad i at_ : Nat) (vals : List Nat) (fl : Flags) (s : State) :
    ((Eff.on (chainRow u quad i at_ vals fl) s).eng v).outstanding = (s.eng v).outstanding := by
  have hKeeps (f : EngSt → EngSt) (hf : ∀ e, (f e).outstanding = e.outstanding) (s : State) :
      ((Eff.on (onEng u f) s).eng v).outstanding = (s.eng v).outstanding := onEng_keeps EngSt.outstanding hf u v s
  rw [chainRow, on_rd]
  dsimp only
  cases (assoc [] (s.eng u).chain quad).any (fun r => r.row == i)
  · refine hKeeps _ ?_ s
    exact fun _ => rfl
  · rw [on_either_true, on_seq_pair, (only_chainLate (List.Subset.refl _) _ _).eng (by decide) (by decide)]
    refine hKeeps _ ?_ s
    exact fun _ => rfl

/-- A row that goes out neither starts nor ends a tile of any engine. -/
theorem outstanding_issueRow (u v : Eng) (d : Desc) (t : Tile) (lost : List Nat) (fl : Flags) (i : Nat) (r : OutRow) (s : State) :
    ((Eff.on (issueRow u d t lost fl i r) s).eng v).outstanding = (s.eng v).outstanding := by
  rw [issueRow, on_rd]
  split
  · rw [(only_spdWrLost (List.Subset.refl _) _ _ _ _ _).eng (by decide) (by decide)]
  · dsimp only
    rw [(only_onCore (ps := [.cores]) (by decide) _ _).eng (by decide) (by decide)]
  · exact outstanding_chainRow ..
  · rw [(only_ingressRow (List.Subset.refl _) _ _ _ _ _ _).eng (by decide) (by decide)]

/-- A row that goes out writes scratchpad in its own extent only (R147, R151). -/
theorem issueRow_outside {u : Eng} {d : Desc} {i a : Nat} {r : OutRow} (hLen : r.vals.length = d.n)
    (h : a < spdBase u.core + d.outAddr + i * d.stride ∨ spdBase u.core + d.outAddr + i * d.stride + (d.outBits * d.n + 7) / 8 ≤ a)
    (t : Tile) (lost : List Nat) (fl : Flags) (s : State) : Mem.rd (Eff.on (issueRow u d t lost fl i r) s).spd a = Mem.rd s.spd a := by
  rw [issueRow, on_rd]
  split
  · refine spdWrLost_outside ?_ _ _ _
    rw [length_packOver, hLen]
    omega
  · dsimp only
    rw [(only_onCore (ps := [.cores]) (by decide) _ _).frame_spd (by decide)]
  · rw [(only_chainRow (List.Subset.refl _) _ _ _ _ _ _).frame_spd (by decide)]
  · rw [(only_ingressRow (List.Subset.refl _) _ _ _ _ _ _).frame_spd (by decide)]

/-- The rows of a tile go out, then the scale bytes of an MX tile. -/
def issueTile (u : Eng) (d : Desc) (t : Tile) (lost : List Nat) (fl : Flags) (rows : List OutRow) : Eff :=
  seq [each ((List.range d.m).zip rows) (fun r => issueRow u d t lost fl r.1 r.2),
    when (d.drain == 2 && isMx d.outFmt)
      (spdWrLost u.core d.outScale (rows.map (fun r => BitVec.ofNat 8 (r.scale.getD 0))) fl.poison lost)]

theorem only_issueTile (u : Eng) (d : Desc) (t : Tile) (lost : List Nat) (fl : Flags) (rows : List OutRow) :
    Eff.Only [.cores, .ev, .faults, .fld .ME_ERR, .fld .MOD_FAULT_STAT, .fld .SE_ERR, .fld .VU_ERR, .fld .VU_STAT, .mes, .ses, .spd, .spdPoison,
      .vus] (issueTile u d t lost fl rows) :=
  only_seq₂ (only_each fun _ _ => only_issueRow (List.Subset.refl _) _ _ _ _ _ _ _) (only_when fun _ => only_spdWrLost (by decide) _ _ _ _ _)

theorem outstanding_issueTile (u v : Eng) (d : Desc) (t : Tile) (lost : List Nat) (fl : Flags) (rows : List OutRow) (s : State) :
    ((Eff.on (issueTile u d t lost fl rows) s).eng v).outstanding = (s.eng v).outstanding := by
  have hScale (b : Bool) (off : Nat) (bs : List Byte) : Eff.Only [.cores, .spd, .spdPoison] (when b (spdWrLost u.core off bs fl.poison lost)) :=
    only_when fun _ => only_spdWrLost (List.Subset.refl _) _ _ _ _ _
  rw [issueTile, on_seq_pair, (hScale _ _ _).eng (by decide) (by decide),
    on_each_keeps (fun s => (s.eng v).outstanding) fun _ _ _ => outstanding_issueRow ..]

/-- A byte outside the rows and the scale bytes of a tile stays as it was. -/
theorem issueTile_outside {u : Eng} {d : Desc} {rows : List OutRow} {a : Nat} (hRows : rows.length = d.m) (hLen : ∀ r ∈ rows, r.vals.length = d.n)
    (hOut : ∀ i, i < d.m → a < spdBase u.core + d.outAddr + i * d.stride ∨
      spdBase u.core + d.outAddr + i * d.stride + (d.outBits * d.n + 7) / 8 ≤ a)
    (hScale : a < spdBase u.core + d.outScale ∨ spdBase u.core + d.outScale + d.m ≤ a) (t : Tile) (lost : List Nat) (fl : Flags) (s : State) :
    Mem.rd (Eff.on (issueTile u d t lost fl rows) s).spd a = Mem.rd s.spd a := by
  have hIssued : Mem.rd (Eff.on (each ((List.range d.m).zip rows) (fun r => issueRow u d t lost fl r.1 r.2)) s).spd a = Mem.rd s.spd a := by
    refine on_each_keeps (fun s => Mem.rd s.spd a) (fun r hr s => ?_) s
    obtain ⟨hi, hRow⟩ := List.of_mem_zip (show (r.1, r.2) ∈ _ from hr)
    exact issueRow_outside (hLen _ hRow) (hOut _ (List.mem_range.1 hi)) t lost fl s
  rw [issueTile, on_seq_pair]
  cases (d.drain == 2 && isMx d.outFmt)
  · rw [on_when_false, hIssued]
  · rw [on_when_true, spdWrLost_outside, hIssued]
    rwa [List.length_map, hRows]

/-- Every tile that ends is counted (R161). -/
theorem tileEnd_count (u : Eng) (d : Desc) (fl : Flags) (s : State) :
    (Eff.on (tileEnd u d fl) s).fget (u.fld F.ME_TILES_COUNT F.SE_TILES_COUNT) u.key =
      (s.fget (u.fld F.ME_TILES_COUNT F.SE_TILES_COUNT) u.key + 1) % 2 ^ F.ME_TILES_COUNT.len := by
  have hLast (b : Bool) : Eff.Only [.fld .ME_LAST_TAG] (when b (seq [fset F.ME_LAST_TAG_TAG u.key d.tag, fset F.ME_LAST_TAG_QUAD u.key d.quad])) :=
    only_when fun _ => only_seq₂ (only_fset (by decide) _ _) (only_fset (by decide) _ _)
  have hFlags : Eff.Only [.fld .ME_FLAGS, .fld .SE_FLAGS] (orFlags u.flagFields u.key fl) := only_orFlags (Eng.flag_mem (by decide)) _ _
  have hSet : (u.fld F.ME_TILES_COUNT F.SE_TILES_COUNT).settable = true ∧
      (u.fld F.ME_TILES_COUNT F.SE_TILES_COUNT).len = F.ME_TILES_COUNT.len := by
    rw [Eng.fld]
    split <;> decide
  rw [tileEnd, on_rd, on_seq_cons, on_seq_cons, on_seq_cons, on_seq_pair, (only_engStat (List.Subset.refl _) u).fget_eng (by decide),
    (hLast _).fget_eng (by decide), on_fadd, Upd.fget_fld_same hSet.1, hSet.2, hFlags.fget_eng (by decide),
    (only_writeMeta (List.Subset.refl _) _ _ _).fget_eng (by decide)]

/-- What a drain tells once the rows are out: parity, a late chain row, the hash, the end of the tile. -/
def tileReport (u : Eng) (d : Desc) (fl : Flags) (struck : Nat) (late : Bool) (hash : Nat) : Eff :=
  seq [engParity u struck, when late (chainLate u d), fset (u.fld F.ME_HASH_HASH F.SE_HASH_HASH) u.key hash, tileEnd u d fl]

theorem only_tileReport (u : Eng) (d : Desc) (fl : Flags) (struck : Nat) (late : Bool) (hash : Nat) :
    Eff.Only [.cores, .ev, .faults, .fld .ME_ERR, .fld .ME_FLAGS, .fld .ME_HASH, .fld .ME_LAST_TAG, .fld .ME_STAT, .fld .ME_TILES,
      .fld .MOD_FAULT_STAT, .fld .SE_ERR, .fld .SE_FLAGS, .fld .SE_HASH, .fld .SE_STAT, .fld .SE_TILES] (tileReport u d fl struck late hash) :=
  only_seq₄ (only_engParity (by decide) _ _) (only_when fun _ => only_chainLate (by decide) _ _)
    (only_fset (Eng.fld_mem (by decide) (by decide)) _ _) (only_tileEnd (by decide) _ _ _)

/-- What a drain tells counts the tile once. -/
theorem tileReport_count (u : Eng) (d : Desc) (fl : Flags) (struck : Nat) (late : Bool) (hash : Nat) (s : State) :
    (Eff.on (tileReport u d fl struck late hash) s).fget (u.fld F.ME_TILES_COUNT F.SE_TILES_COUNT) u.key =
      (s.fget (u.fld F.ME_TILES_COUNT F.SE_TILES_COUNT) u.key + 1) % 2 ^ F.ME_TILES_COUNT.len := by
  have hLate : Eff.Only [.ev, .faults, .fld .ME_ERR, .fld .MOD_FAULT_STAT, .fld .SE_ERR] (when late (chainLate u d)) :=
    only_when fun _ => only_chainLate (List.Subset.refl _) _ _
  have hHash : Eff.Only [.fld .ME_HASH, .fld .SE_HASH] (fset (u.fld F.ME_HASH_HASH F.SE_HASH_HASH) u.key hash) :=
    only_fset (Eng.fld_mem (by decide) (by decide)) _ _
  rw [tileReport, on_seq_cons, on_seq_cons, on_seq_pair, tileEnd_count, hHash.fget_eng (by decide), hLate.fget_eng (by decide),
    (only_engParity (List.Subset.refl _) u struck).fget_eng (by decide)]

/-- A tile with a DRAIN but 0: it leaves its bank, its rows are taken through the chain and go out, the drain is told. -/
theorem drainTile_issues {u : Eng} {t : Tile} (h : (parseDesc u.se t.desc).drain ≠ 0) (f : EngFaults) (s : State) :
    ∃ (leave : EngSt → EngSt) (taken : Eff) (lost : List Nat) (fl : Flags) (rows : List OutRow) (struck : Nat) (late : Bool) (hash : Nat),
      (∀ e, (leave e).outstanding = (e.tiles.erase t, e.held)) ∧ taken.Only [.cores] ∧ rows.length = (parseDesc u.se t.desc).m ∧
      (∀ r ∈ rows, r.vals.length = (parseDesc u.se t.desc).n) ∧
      Eff.on (drainTile u t f) s = Eff.on (tileReport u (parseDesc u.se t.desc) fl struck late hash)
        (Eff.on (issueTile u (parseDesc u.se t.desc) t lost fl rows) (Eff.on taken (Eff.on (onEng u leave) s))) := by
  rw [drainTile, on_rd]
  dsimp only
  rw [if_neg h]
  simp only [tileReport, issueTile, on_seq_cons, on_seq_nil]
  refine ⟨_, _, _, _, _, _, _, _, ?_, ?_, ?_, ?_, rfl⟩
  · exact fun e => by rw [EngSt.outstanding, EngSt.leave, if_neg h]
  · exact only_when fun _ => only_onCore (by decide) _ _
  · rw [List.length_map, List.length_map, List.length_range]
  · intro r hr
    obtain ⟨x, hx, rfl⟩ := List.mem_map.1 hr
    obtain ⟨i, -, rfl⟩ := List.mem_map.1 hx
    exact length_outRow ..

/-- A tile with DRAIN 0 is held (R137). -/
theorem drainTile_holds {u : Eng} {t : Tile} (h : (parseDesc u.se t.desc).drain = 0) (f : EngFaults) (s : State) :
    Eff.on (drainTile u t f) s =
      Eff.on (tileEnd u (parseDesc u.se t.desc) t.flags) (Eff.on (onEng u (fun e => e.leave u.se (parseDesc u.se t.desc) t)) s) := by
  rw [drainTile, on_rd]
  dsimp only
  rw [if_pos h, on_seq_pair]

/-- A tile that drains leaves the engine's tiles in flight, and is held where DRAIN is 0 (R137). -/
theorem drainTile_outstanding (u : Eng) (t : Tile) (f : EngFaults) (s : State) : ((Eff.on (drainTile u t f) s).eng u).outstanding =
    ((s.eng u).tiles.erase t, if (parseDesc u.se t.desc).drain = 0 then (s.eng u).held ++ [t] else (s.eng u).held) := by
  by_cases h : (parseDesc u.se t.desc).drain = 0
  · rw [drainTile_holds h, (only_tileEnd (List.Subset.refl _) _ _ _).eng (by decide) (by decide), onEng_same]
    rfl
  · obtain ⟨leave, taken, lost, fl, rows, struck, late, hash, hLeave, hTaken, -, -, hOn⟩ := drainTile_issues h f s
    rw [hOn, (only_tileReport _ _ _ _ _ _).eng (by decide) (by decide), outstanding_issueTile, hTaken.eng (by decide) (by decide), onEng_same,
      hLeave, if_neg h]

/-- A drain counts its tile, held or not (R161). -/
theorem drainTile_count (u : Eng) (t : Tile) (f : EngFaults) (s : State) :
    (Eff.on (drainTile u t f) s).fget (u.fld F.ME_TILES_COUNT F.SE_TILES_COUNT) u.key =
      (s.fget (u.fld F.ME_TILES_COUNT F.SE_TILES_COUNT) u.key + 1) % 2 ^ F.ME_TILES_COUNT.len := by
  have hEng (g : EngSt → EngSt) : Eff.Only [.mes, .ses] (onEng u g) := only_onEng (List.Subset.refl _) u g
  by_cases h : (parseDesc u.se t.desc).drain = 0
  · rw [drainTile_holds h, tileEnd_count, (hEng _).fget_eng (by decide)]
  · obtain ⟨leave, taken, lost, fl, rows, struck, late, hash, -, hTaken, -, -, hOn⟩ := drainTile_issues h f s
    rw [hOn, tileReport_count, (only_issueTile _ _ _ _ _ _).fget_eng (by decide), hTaken.fget_eng (by decide), (hEng _).fget_eng (by decide)]

/-- A tile that is held writes nothing out. -/
theorem drainTile_spd_held {u : Eng} {t : Tile} (h : (parseDesc u.se t.desc).drain = 0) (f : EngFaults) (s : State) :
    (Eff.on (drainTile u t f) s).spd = s.spd := by
  rw [drainTile_holds h, (only_tileEnd (List.Subset.refl _) _ _ _).frame_spd (by decide),
    (only_onEng (List.Subset.refl _) u _).frame_spd (by decide)]

/-- A drain changes no byte of scratchpad but those of its rows and its scale bytes (R147, R151). -/
theorem drainTile_outside {u : Eng} {t : Tile} {d : Desc} (hd : d = parseDesc u.se t.desc) {a : Nat}
    (hOut : ∀ i, i < d.m → a < spdBase u.core + d.outAddr + i * d.stride ∨
      spdBase u.core + d.outAddr + i * d.stride + (d.outBits * d.n + 7) / 8 ≤ a)
    (hScale : a < spdBase u.core + d.outScale ∨ spdBase u.core + d.outScale + d.m ≤ a) (f : EngFaults) (s : State) :
    Mem.rd (Eff.on (drainTile u t f) s).spd a = Mem.rd s.spd a := by
  subst hd
  by_cases h : (parseDesc u.se t.desc).drain = 0
  · rw [drainTile_spd_held h]
  · obtain ⟨leave, taken, lost, fl, rows, struck, late, hash, -, hTaken, hRows, hLen, hOn⟩ := drainTile_issues h f s
    rw [hOn, (only_tileReport _ _ _ _ _ _).frame_spd (by decide), issueTile_outside hRows hLen hOut hScale, hTaken.frame_spd (by decide),
      (only_onEng (List.Subset.refl _) u _).frame_spd (by decide)]

/-- A drain command drains the quadrant's oldest tile once its storage's findings are told. -/
theorem engDrain_drains {u : Eng} {quad : Nat} {f : EngFaults} {s : State} {t : Tile} (hUnc : f.uncorrected = [])
    (hRuns : s.scheduled u.core = true) (hNext : (s.eng u).drains u.se quad = some t) :
    Eff.on (engDrain u quad f) s = Eff.on (drainTile u t f) (Eff.on (engFaults u f) s) := by
  rw [engDrain, on_seq_pair, on_rd, (only_engFaults_corrected hUnc u).eng (by decide) (by decide), hNext]
  dsimp only
  rw [scheduled_engFaults hUnc, hRuns, on_when_true]

/-! LOAD_A (R142). -/

theorem Mem.getD_rdN (m : List Host.Cell) (n : Nat) : ∀ a i, i < n → (Mem.rdN m a n).getD i 0 = Mem.rd m (a + i) := by
  induction n with
  | zero => exact fun _ _ h => absurd h (Nat.not_lt_zero _)
  | succ n ih =>
    intro a i h
    cases i with
    | zero => rfl
    | succ i => rw [Mem.rdN, List.getD_cons_succ, ih _ _ (Nat.lt_of_succ_lt_succ h), Nat.add_assoc, Nat.add_comm 1]

/-- Bytes copied from a memory read as they stand there. -/
theorem Mem.rd_copy_in (m m' : List Host.Cell) (a b : Nat) {n i : Nat} (h : i < n) :
    Mem.rd (Mem.wrN m a (Mem.rdN m' b n)) (a + i) = Mem.rd m' (b + i) := by
  rw [Mem.rd_wrN_in _ _ _ _ (by rwa [Mem.length_rdN]), Mem.getD_rdN _ _ _ _ h]

/-- A copy leaves every other byte alone. -/
theorem Mem.rd_copy_out (m m' : List Host.Cell) {a n c : Nat} (b : Nat) (h : c < a ∨ a + n ≤ c) :
    Mem.rd (Mem.wrN m a (Mem.rdN m' b n)) c = Mem.rd m c := Mem.rd_wrN_out _ _ _ _ (by rwa [Mem.length_rdN])

theorem loadAStart_none {u : Eng} {s : State} (h : (s.eng u).loads = []) : Eff.on (loadAStart u) s = s := by
  rw [loadAStart, on_rd]
  dsimp only
  rw [h, on_nop]

/-- The oldest LOAD_A moves its bytes into the A buffer once no earlier full-shape descriptor that reads it waits (R142). -/
theorem loadAStart_loads {u : Eng} {s : State} {l : Queued} {ls : List Queued} (hLoads : (s.eng u).loads = l :: ls)
    (hRuns : s.scheduled u.core = true) (hFirst : ∀ q ∈ (s.eng u).queue, l.issued ≤ q.issued) {d : Desc} (hd : d = parseDesc u.se l.desc) :
    ((Eff.on (loadAStart u) s).eng u).loads = ls ∧
      ((Eff.on (loadAStart u) s).eng u).abuf = Mem.wrN (s.eng u).abuf d.outAddr (s.spdRd u.core d.aAddr d.k) := by
  have hFree : ((s.eng u).queue.any fun q => !u.se && !(parseDesc u.se q.desc).quadShape && (parseDesc u.se q.desc).aSrc == 0 &&
      decide (q.issued < l.issued)) = false := by
    refine List.any_eq_false.2 fun q hq => ?_
    have hLate : decide (q.issued < l.issued) = false := decide_eq_false (Nat.not_lt.2 (hFirst q hq))
    rw [hLate, Bool.and_false]
    exact Bool.false_ne_true
  subst hd
  rw [loadAStart, on_rd]
  dsimp only
  rw [hLoads]
  dsimp only
  rw [hFree, hRuns, Bool.not_false, Bool.and_self, on_when_true, onEng_same]
  exact ⟨rfl, rfl⟩

end Sys2Proof.Machine

namespace Sys2Proof.Proofs
open Sys2Proof.Machine

/-- Settles O11: a start begins the tile of the next descriptor, a drain takes the oldest tile out, and a LOAD_A writes its own bytes of the
A buffer. -/
theorem matrixEngineCommandsAct : Obligations.MatrixEngineCommandsAct := by
  refine ⟨fun c e quad f s => ?_, fun c e quad f s => ?_, fun c e s => ?_⟩
  · refine ⟨_, rfl, frame_execMeMmaStart c e quad f s rfl, fun u q hu hUnc hRuns hNext hCan x hx => ?_, fun u hu hf hNone => ?_⟩
    · subst hu
      exact meStart_begins (u := meOf c e) hUnc hRuns hNext hCan rfl hx
    · subst hu
      rw [engStart_none (u := meOf c e) (congrArg EngFaults.uncorrected hf) hNone, engFaults_none (congrArg EngFaults.conflicts hf)
        (congrArg EngFaults.corrected hf) (congrArg EngFaults.uncorrected hf)]
  · refine ⟨_, rfl, frame_execMeDrain c e quad f s rfl, fun u x hu hUnc hRuns hNext d hd => ?_⟩
    subst hu
    have hFaults := only_engFaults_corrected hUnc (meOf c e)
    have hTiles := drainTile_outstanding (meOf c e) x f (Eff.on (engFaults (meOf c e) f) s)
    rw [hFaults.eng (by decide) (by decide)] at hTiles
    obtain ⟨hFlight, hHeld⟩ := Prod.mk.inj hTiles
    rw [engDrain_drains (u := meOf c e) hUnc hRuns hNext]
    refine ⟨hFlight, hd ▸ hHeld, ?_, fun hNot => ?_, fun a hOut hScale => ?_⟩
    · rw [drainTile_count, hFaults.fget_eng (by decide)]
    · rw [drainTile_spd_held (hd ▸ hNot), hFaults.frame_spd (by decide)]
    · rw [drainTile_outside (u := meOf c e) hd hOut hScale, hFaults.frame_spd (by decide)]
  · refine ⟨_, rfl, frame_execMeLoadAStart c e s rfl, fun u l ls hu hLoads hRuns hFirst => ?_, fun u hu hNone => ?_⟩
    · subst hu
      obtain ⟨hRest, hBuf⟩ := loadAStart_loads (u := meOf c e) hLoads hRuns hFirst rfl
      rw [hBuf]
      exact ⟨hRest, fun i hi => Mem.rd_copy_in _ _ _ _ hi, fun a ha => Mem.rd_copy_out _ _ _ ha⟩
    · subst hu
      exact loadAStart_none hNone

end Sys2Proof.Proofs
end

section
/-! Sparse engines: what the start of a tile adds, and the drain of a tile of either kind (R170 to R179). -/
namespace Sys2Proof.Machine

/-- What a sparse engine reports of a tile's metadata that break the rule of its form (R170). -/
def metaFault (u : Eng) (d : Desc) (w : Who) : Eff :=
  if d.form = 1 then seq [fset F.SE_ERR_META u.key 1, raise 0x0207 1 w []] else seq [fset F.SE_ERR_OVERRUN u.key 1, raise 0x0208 1 w []]

theorem only_metaFault (u : Eng) (d : Desc) (w : Who) : Eff.Only [.ev, .fld .SE_ERR] (metaFault u d w) :=
  only_ite (only_seq₂ (only_fset (by decide) _ _) (only_raise (by decide) _ _ _ _))
    (only_seq₂ (only_fset (by decide) _ _) (only_raise (by decide) _ _ _ _))

/-- The bit of the form's rule is set. -/
theorem metaFault_sets (u : Eng) (d : Desc) (w : Who) (s : State) :
    (Eff.on (metaFault u d w) s).fget (if d.form = 1 then F.SE_ERR_META else F.SE_ERR_OVERRUN) u.key = 1 := by
  rw [metaFault]
  split <;>
  · rw [on_seq_pair, on_raise, Upd.ev_fget, on_fset, Upd.fget_fld_same (by decide)]
    rfl

/-- What the start of a tile adds on a sparse engine: the products skipped, and what its metadata show (R170, R177). -/
def smmaReport (u : Eng) (d : Desc) (sp : Store) : Eff := rd fun s =>
  seq [fadd F.SE_SKIPPED_COUNT u.key (16 * unstored d sp), when (metaFaulty d sp) (metaFault u d (s.who u.core u.unit))]

theorem only_smmaReport (u : Eng) (d : Desc) (sp : Store) : Eff.Only [.ev, .fld .SE_ERR, .fld .SE_SKIPPED] (smmaReport u d sp) :=
  only_rd fun _ => only_seq₂ (only_fadd (by decide) _ _) (only_when fun _ => (only_metaFault u d _).mono (by decide))

/-- SKIPPED goes up by 16 for every element that is not stored, and metadata that break their rule set its bit. -/
theorem smmaReport_counts (u : Eng) (d : Desc) (sp : Store) (s : State) :
    (Eff.on (smmaReport u d sp) s).fget F.SE_SKIPPED_COUNT u.key =
        (s.fget F.SE_SKIPPED_COUNT u.key + 16 * unstored d sp) % 2 ^ F.SE_SKIPPED_COUNT.len ∧
      (metaFaulty d sp = true →
        (Eff.on (smmaReport u d sp) s).fget (if d.form = 1 then F.SE_ERR_META else F.SE_ERR_OVERRUN) u.key = 1) := by
  have hFault (b : Bool) (w : Who) : Eff.Only [.ev, .fld .SE_ERR] (when b (metaFault u d w)) := only_when fun _ => only_metaFault u d w
  rw [smmaReport, on_rd, on_seq_pair]
  refine ⟨?_, fun hFaulty => ?_⟩
  · rw [(hFault _ _).fget (by decide) (by decide) (by decide), on_fadd, Upd.fget_fld_same (by decide)]
  · rw [hFaulty, on_when_true, metaFault_sets]

/-- The start of a tile on a sparse engine, as SE_SMMA_START runs it (R177). -/
def seStart (u : Eng) (f : EngFaults) : Eff := engStart u 0 f (fun d sp _ => smmaReport u d sp)

theorem execSeSmmaStart_eq (c : CoreId) (e : Fin 8) (f : EngFaults) (s : State) :
    execSeSmmaStart c e f s = .next (Eff.on (seStart (seOf c e) f) s) := rfl

/-- A start leaves the engine with its tile begun and in flight, with what its metadata show counted and reported. -/
theorem seStart_begins {u : Eng} {f : EngFaults} {s : State} {q : Queued} (hUnc : f.uncorrected = [])
    (hRuns : s.scheduled u.core = true) (hNext : nextQueued u.se 0 (s.eng u).queue = some q)
    (hCan : (s.eng u).canStart u.se q ((s.eng u).nextBank (parseDesc u.se q.desc)) = true)
    {sp : Store} (hSp : sp = s.spdStore u.core (f.conflicts.map (fun y => y.1))) {d : Desc} (hd : d = parseDesc u.se q.desc)
    {x : EngSt × Tile × Nat × Nat × Nat}
    (hx : x = EngSt.begin ((s.eng u).struck f) u.se q ((s.eng u).nextBank (parseDesc u.se q.desc)) sp) :
    (Eff.on (seStart u f) s).eng u = x.1 ∧ x.2.1 ∈ ((Eff.on (seStart u f) s).eng u).tiles ∧
      (Eff.on (seStart u f) s).fget F.SE_SKIPPED_COUNT u.key =
        (s.fget F.SE_SKIPPED_COUNT u.key + 16 * unstored d sp) % 2 ^ F.SE_SKIPPED_COUNT.len ∧
      (metaFaulty d sp = true → (Eff.on (seStart u f) s).fget (if d.form = 1 then F.SE_ERR_META else F.SE_ERR_OVERRUN) u.key = 1) := by
  have hStart := only_tileStart hUnc u ((s.eng u).strikes f) x
  have hStatus : Eff.Only [.fld .ME_STAT, .fld .SE_STAT] (engStat u) := only_engStat (List.Subset.refl _) u
  have hSkipped := hStart.fget (f := F.SE_SKIPPED_COUNT) (by decide) (by decide) (by decide) s u.key
  obtain ⟨hCount, hReport⟩ := smmaReport_counts u d sp (Eff.on (tileStart u f ((s.eng u).strikes f) x) s)
  rw [seStart, engStart_begins _ hUnc hRuns hNext hCan hSp hx, ← hd, hStatus.eng (by decide) (by decide),
    (only_smmaReport u d sp).eng (by decide) (by decide), eng_tileStart, hStatus.fget (by decide) (by decide) (by decide), hCount, hSkipped]
  refine ⟨rfl, hx ▸ EngSt.begin_mem_tiles .., rfl, fun hFaulty => ?_⟩
  refine Eq.trans ?_ (hReport hFaulty)
  split <;> rw [hStatus.fget (by decide) (by decide) (by decide)]

/-- A drain takes the quadrant's oldest tile out of flight, holds it where DRAIN is 0, counts it, and writes scratchpad only where its rows and
its scale bytes go (R137, R147, R151, R161). -/
theorem engDrain_takes {u : Eng} {quad : Nat} {f : EngFaults} {s : State} {x : Tile} (hUnc : f.uncorrected = [])
    (hRuns : s.scheduled u.core = true) (hNext : (s.eng u).drains u.se quad = some x) {d : Desc} (hd : d = parseDesc u.se x.desc) :
    ((Eff.on (engDrain u quad f) s).eng u).outstanding =
        ((s.eng u).tiles.erase x, if d.drain = 0 then (s.eng u).held ++ [x] else (s.eng u).held) ∧
      (Eff.on (engDrain u quad f) s).fget (u.fld F.ME_TILES_COUNT F.SE_TILES_COUNT) u.key =
        (s.fget (u.fld F.ME_TILES_COUNT F.SE_TILES_COUNT) u.key + 1) % 2 ^ F.ME_TILES_COUNT.len ∧
      (d.drain = 0 → (Eff.on (engDrain u quad f) s).spd = s.spd) ∧
      ∀ a, (∀ i, i < d.m → a < spdBase u.core + d.outAddr + i * d.stride ∨
          spdBase u.core + d.outAddr + i * d.stride + (d.outBits * d.n + 7) / 8 ≤ a) →
        (a < spdBase u.core + d.outScale ∨ spdBase u.core + d.outScale + d.m ≤ a) →
        Mem.rd (Eff.on (engDrain u quad f) s).spd a = Mem.rd s.spd a := by
  have hFaults := only_engFaults_corrected hUnc u
  have hEng := hFaults.eng (by decide) (by decide) s u
  rw [engDrain_drains hUnc hRuns hNext]
  refine ⟨?_, ?_, fun hHeld => ?_, fun a hOut hScale => ?_⟩
  · rw [drainTile_outstanding, hEng, hd]
  · rw [drainTile_count, hFaults.fget_eng (by decide)]
  · rw [drainTile_spd_held (hd ▸ hHeld), hFaults.frame_spd (by decide)]
  · rw [drainTile_outside hd hOut hScale, hFaults.frame_spd (by decide)]

end Sys2Proof.Machine

namespace Sys2Proof.Proofs
open Sys2Proof.Machine

/-- Settles O12: a sparse engine starts, drains and loads as a matrix engine does; its start also counts what is not stored and reports faulty
metadata. -/
theorem sparseEngineCommandsAct : Obligations.SparseEngineCommandsAct := by
  refine ⟨fun c e f s => ?_, fun c e f s => ?_, fun c e s => ?_⟩
  · refine ⟨_, execSeSmmaStart_eq c e f s, frame_execSeSmmaStart c e f s rfl, fun u q hu hUnc hRuns hNext hCan x hx => ?_, fun u hu hf hNone => ?_⟩
    · subst hu
      obtain ⟨hEng, hTile, -⟩ := seStart_begins (u := seOf c e) hUnc hRuns hNext hCan rfl rfl hx
      refine ⟨hEng, hTile, fun d sp hd hSp => ?_⟩
      subst hSp
      exact (seStart_begins (u := seOf c e) hUnc hRuns hNext hCan rfl hd hx).2.2
    · subst hu
      rw [seStart, engStart_none (u := seOf c e) (congrArg EngFaults.uncorrected hf) hNone, engFaults_none (congrArg EngFaults.conflicts hf)
        (congrArg EngFaults.corrected hf) (congrArg EngFaults.uncorrected hf)]
  · refine ⟨_, rfl, frame_execSeDrain c e f s rfl, fun u x hu hUnc hRuns hNext d hd => ?_⟩
    subst hu
    obtain ⟨hTiles, hCount, hHeld, hOutside⟩ := engDrain_takes (u := seOf c e) hUnc hRuns hNext hd
    obtain ⟨hFlight, hHolds⟩ := Prod.mk.inj hTiles
    exact ⟨hFlight, hHolds, hCount, hHeld, hOutside⟩
  · refine ⟨_, rfl, frame_execSeLoadAStart c e s rfl, fun u l ls hu hLoads hRuns hFirst => ?_, fun u hu hNone => ?_⟩
    · subst hu
      obtain ⟨hRest, hBuf⟩ := loadAStart_loads (u := seOf c e) hLoads hRuns hFirst rfl
      rw [hBuf]
      exact ⟨hRest, fun i hi => Mem.rd_copy_in _ _ _ _ hi, fun a ha => Mem.rd_copy_out _ _ _ ha⟩
    · subst hu
      exact loadAStart_none hNone

end Sys2Proof.Proofs
end

section
/-! The core sequencer: what an effect leaves alone, and how an instruction that can execute ends (R207 to R214). -/
namespace Sys2Proof.Machine

/-! What an effect leaves alone, whatever state it meets. -/

/-- An effect leaves a reading of the state as it was. -/
def Eff.Keeps {α : Type} (g : State → α) (e : Eff) : Prop := ∀ s, g (Eff.on e s) = g s

section
variable {α : Type} {g : State → α}

theorem keeps_seq_nil : Eff.Keeps g (seq []) := fun _ => rfl
theorem keeps_seq_cons {e : Eff} {es : List Eff} (h : e.Keeps g) (h' : Eff.Keeps g (seq es)) : Eff.Keeps g (seq (e :: es)) := fun s => by
  rw [on_seq_cons, h', h]
theorem keeps_seq₂ {a b : Eff} (ha : a.Keeps g) (hb : b.Keeps g) : Eff.Keeps g (seq [a, b]) :=
  keeps_seq_cons ha (keeps_seq_cons hb keeps_seq_nil)
theorem keeps_rd {k : State → Eff} (h : ∀ s, (k s).Keeps g) : Eff.Keeps g (rd k) := fun s => h s s
theorem keeps_when {b : Bool} {e : Eff} (h : e.Keeps g) : Eff.Keeps g (when b e) := by
  cases b
  · exact fun _ => rfl
  · exact h
theorem keeps_either {b : Bool} {e e' : Eff} (h : e.Keeps g) (h' : e'.Keeps g) : Eff.Keeps g (either b e e') := by cases b <;> assumption
theorem keeps_each {β : Type} {l : List β} {f : β → Eff} (h : ∀ a, (f a).Keeps g) : Eff.Keeps g (each l f) :=
  on_each_keeps g fun a _ => h a
theorem keeps_upd {us : List Upd} (h : ∀ u ∈ us, ∀ s, g (u.apply s) = g s) : Eff.Keeps g (upd us) := applyAll_frame g h

end

/-! Units and their readings after an effect. -/

/-- An effect that writes no vector unit leaves each of them as it was. -/
theorem Eff.Only.vu {ps : List Part} {e : Eff} (h : e.Only ps) (hp : Part.vus ∉ ps) (s : State) (k : Nat) : (Eff.on e s).vu k = s.vu k := by
  rw [State.vu, State.vu, h.frame_vus hp]

/-- A store in scratchpad marks rewritten rows in the core it belongs to and changes nothing else of any core (R273). -/
theorem keeps_spdWr_core {α : Type} {g : CoreSt → α} (h : ∀ c rows due, g { c with rewritten := rows, writeBack := due } = g c) (p off : Nat)
    (bs : List Byte) (poison : Bool) (q : Nat) : Eff.Keeps (fun s => g (s.core q)) (spdWr p off bs poison) := by
  intro s
  have hBytes (us : List Upd) (h : ∀ u ∈ us, u.part ≠ .cores) (s : State) : (applyAll us s).core q = s.core q :=
    applyAll_frame (fun s => s.core q) (fun u hu s => by rw [State.core, State.core, Upd.frame_cores (h u hu)]) s
  have hPoison (ls : List Nat) : ∀ u ∈ ls.map (fun l => Upd.spdPoison (p * 2 ^ 22 + l) poison), u.part ≠ .cores := by
    intro u hu
    obtain ⟨l, -, rfl⟩ := List.mem_map.1 hu
    nofun
  unfold Eff.on spdWr
  dsimp only
  rw [applyAll_append, applyAll_cons]
  split
  · rw [applyAll_nil, hBytes _ (hPoison _)]
    rfl
  · rw [applyAll_cons, applyAll_nil, core_cores]
    split
    · next hp => rw [h, hp]
    · rw [hBytes _ (hPoison _)]
      rfl

theorem keeps_spdWrLost_core {α : Type} {g : CoreSt → α} (h : ∀ c rows due, g { c with rewritten := rows, writeBack := due } = g c) (p off : Nat)
    (bs : List Byte) (poison : Bool) (lost : List Nat) (q : Nat) : Eff.Keeps (fun s => g (s.core q)) (spdWrLost p off bs poison lost) := by
  refine keeps_each fun l => keeps_either (fun s => ?_) (keeps_spdWr_core h _ _ _ _ q)
  rw [(only_spdMark (List.Subset.refl _) p l).core (by decide)]

/-- What a change of one core's unit leaves alone in a unit, it leaves alone in every core's. -/
theorem keeps_onCore {α : Type} {g : CoreSt → α} {f : CoreSt → CoreSt} (h : ∀ c, g (f c) = g c) (p q : Nat) :
    Eff.Keeps (fun s => g (s.core q)) (onCore p f) := onCore_keeps g h p q

/-! The place of a core in its program. -/

/-- Where a core stands in its program: its state, its SC, its PC and its loops. -/
def State.place (s : State) (p : Nat) : Nat × Nat × Nat × List LoopSt :=
  (s.coreState p, s.sc p, s.fget F.CORE_SEQ_PC p, (s.core p).loops)

/-- An effect that writes none of the registers that hold a core's place keeps it where it keeps the core's loops. -/
theorem Eff.Only.keeps_place {ps : List Part} {e : Eff} (h : e.Only ps)
    (hp : Part.flds ∉ ps ∧ Part.fld .CORE_STAT ∉ ps ∧ Part.fld .CORE_SC ∉ ps ∧ Part.fld .CORE_SEQ ∉ ps) {p : Nat}
    (hLoops : e.Keeps fun s => (s.core p).loops) : e.Keeps (fun s => s.place p) := by
  obtain ⟨hFlds, hStat, hSc, hSeq⟩ := hp
  intro s
  simp only [State.place, State.coreState, State.sc]
  have hSame : ((Eff.on e s).core p).loops = (s.core p).loops := hLoops s
  rw [h.fget (by decide) hFlds hStat, h.fget (by decide) hFlds hSc, h.fget (by decide) hFlds hSeq, hSame]

/-- An effect that also leaves every core's unit alone keeps each core's place. -/
theorem Eff.Only.keeps_place_off {ps : List Part} {e : Eff} (h : e.Only ps)
    (hp : Part.flds ∉ ps ∧ Part.fld .CORE_STAT ∉ ps ∧ Part.fld .CORE_SC ∉ ps ∧ Part.fld .CORE_SEQ ∉ ps ∧ Part.cores ∉ ps) (p : Nat) :
    e.Keeps (fun s => s.place p) := by
  obtain ⟨hFlds, hStat, hSc, hSeq, hCores⟩ := hp
  exact h.keeps_place ⟨hFlds, hStat, hSc, hSeq⟩ fun s => congrArg CoreSt.loops (h.core hCores s p)

/-- Results that come due are scalars: the core stays at its place (R218). -/
theorem keeps_settle_place (p q : Nat) : Eff.Keeps (fun s => s.place q) (settle p) := by
  refine (only_settle (List.Subset.refl _) p).keeps_place (by decide)
    (keeps_rd fun s => keeps_when (keeps_seq₂ (keeps_onCore (g := CoreSt.loops) ?_ p q) (keeps_each fun d => ?_)))
  · exact fun _ => rfl
  · rw [setScalar]
    split
    · exact fun _ => rfl
    · refine keeps_onCore (g := CoreSt.loops) ?_ p q
      exact fun _ => rfl

theorem State.due_place (s : State) (p q : Nat) : (s.due p).place q = s.place q := keeps_settle_place p q s
theorem State.due_sc (s : State) (p q : Nat) : (s.due p).sc q = s.sc q :=
  (only_settle (List.Subset.refl _) p).fget (by decide) (by decide) (by decide) s q
theorem State.due_vu (s : State) (p k : Nat) : (s.due p).vu k = s.vu k := (only_settle (List.Subset.refl _) p).vu (by decide) s k
theorem State.due_spdStore (s : State) (p q : Nat) (lost : List Nat) : (s.due p).spdStore q lost = s.spdStore q lost :=
  State.spdStore_congr ((only_settle (List.Subset.refl _) p).frame_spd (by decide) s)
    ((only_settle (List.Subset.refl _) p).frame_spdPoison (by decide) s) q lost
theorem State.due_spd (s : State) (p : Nat) : (s.due p).spd = s.spd := (only_settle (List.Subset.refl _) p).frame_spd (by decide) s

/-- A core that can execute an instruction is in RUN. -/
theorem State.coreState_of_seqReady {s : State} {p : Nat} (h : s.seqReady p = true) : s.coreState p = 3 := by
  simp only [State.seqReady, State.scheduled, Bool.and_eq_true, beq_iff_eq] at h
  exact h.1.1.1.1

/-! The end of an instruction (R210, R213). -/

/-- BUSY is the only field of the units' status that follows their operations. -/
theorem vuBusy_fget {f : Fld} (h : (f.inReg && (f.reg != .VU_STAT || f.lo != 0)) = true) (p i : Nat) :
    Eff.Keeps (fun s => s.fget f i) (vuBusy p) := by
  refine keeps_rd fun s => keeps_upd fun u hu t => ?_
  obtain ⟨k, -, rfl⟩ := List.mem_map.1 hu
  refine Upd.fget_fld_other ?_ _ _ _ _
  have hBusy : F.VU_STAT_BUSY.inReg = true := by decide
  simp only [Bool.and_eq_true, Bool.or_eq_true, bne_iff_ne, ne_eq] at h ⊢
  obtain ⟨hReg, hOther⟩ := h
  exact ⟨⟨hBusy, hReg⟩, .inl (hOther.imp Ne.symm Ne.symm)⟩

/-- A switch point passed is noted beside the PC (R255). -/
theorem setPc_PC (p pc : Nat) (s : State) : (Eff.on (setPc p pc) s).fget F.CORE_SEQ_PC p = pc % 2 ^ F.CORE_SEQ_PC.len := by
  rw [setPc, on_rd, on_seq_pair, on_fset]
  split
  · rw [on_fset, Upd.fget_fld_other (by decide), Upd.fget_fld_same (by decide)]
  · rw [on_nop, Upd.fget_fld_same (by decide)]

/-- An instruction that ends without a target leaves SC and the PC moved on from the core's place before it. -/
theorem advance_advanced {s u : State} {p : Nat} (h : u.place p = s.place p) (n : Nat) : Advanced s (Eff.on (advance p n none) u) p n := by
  simp only [State.place, Prod.mk.injEq] at h
  obtain ⟨-, hSc, hPc, hLoops⟩ := h
  have hBusy : Eff.Only [.fld .VU_STAT] (vuBusy p) := only_vuBusy (List.Subset.refl _) p
  have hSetPc (pc : Nat) : Eff.Only [.fld .CORE_SEQ] (setPc p pc) := only_setPc (List.Subset.refl _) p pc
  have hCore (f : CoreSt → CoreSt) : Eff.Only [.cores] (onCore p f) := only_onCore (List.mem_singleton_self _) p f
  rw [advance, on_rd, on_seq_cons, on_seq_cons, on_seq_pair]
  refine ⟨?_, ?_⟩
  · rw [State.sc, hBusy.fget (by decide) (by decide) (by decide), (hSetPc _).fget (by decide) (by decide) (by decide),
      (hCore _).fget (by decide) (by decide) (by decide), on_fadd, Upd.fget_fld_same (by decide), ← hSc]
    rfl
  · rw [hBusy.fget (by decide) (by decide) (by decide), setPc_PC, ← hPc, ← hLoops]

theorem seqStep_waits {p : Nat} {s : State} (h : s.seqReady p = false) (n : Nat) (tgt : Option Nat) (body : Eff) :
    Eff.on (seqStep p n tgt body) s = s := by
  rw [seqStep, on_rd, h, on_when_false]

/-- An instruction that can execute takes its effect once the results due are settled; where that keeps the core's place, the core moves on. -/
theorem seqStep_ends {p n : Nat} {tgt : Option Nat} {body : Eff} {s : State} (h : s.seqReady p = true)
    (hBody : (Eff.on body (s.due p)).place p = s.place p) :
    Eff.on (seqStep p n tgt body) s = Eff.on (advance p n tgt) (Eff.on body (s.due p)) := by
  have hRuns : (Eff.on body (s.due p)).coreState p = 3 := by
    rw [← State.coreState_of_seqReady h]
    exact congrArg Prod.fst hBody
  rw [seqStep, on_rd, h, on_when_true, on_seq_cons, on_seq_pair, on_rd, ← State.due, hRuns, beq_self_eq_true, on_when_true]

/-- A register that the end of an instruction does not write reads as the instruction's effect left it. -/
theorem seqStep_fget {p : Nat} {s : State} (h : s.seqReady p = true) {f : Fld}
    (hf : (f.inReg && f.reg != .CORE_SC && f.reg != .CORE_SEQ && f.reg != .VU_STAT) = true) (n : Nat) (tgt : Option Nat) (body : Eff) (i : Nat) :
    (Eff.on (seqStep p n tgt body) s).fget f i = (Eff.on body (s.due p)).fget f i := by
  have hEnd : Eff.Only [.cores, .fld .CORE_SC, .fld .CORE_SEQ, .fld .VU_STAT] (rd fun s => when (s.coreState p == 3) (advance p n tgt)) :=
    only_rd fun _ => only_when fun _ => only_advance (List.Subset.refl _) p n tgt
  simp only [Bool.and_eq_true, bne_iff_ne, ne_eq] at hf
  obtain ⟨⟨⟨hReg, hSc⟩, hSeq⟩, hStat⟩ := hf
  rw [seqStep, on_rd, h, on_when_true, on_seq_cons, on_seq_pair, ← State.due, hEnd.fget hReg (by decide) (by simp [hSc, hSeq, hStat])]

/-- An issue to a full queue sets its bit (R214, R258). -/
theorem issueOverflow_sets (p : Nat) (s : State) : (Eff.on (issueOverflow p) s).fget F.CORE_SEQ_ERR_ISSUE_OVERFLOW p = 1 := by
  rw [issueOverflow, seqError, on_rd, on_seq_cons, on_seq_pair,
    (only_containCore (List.Subset.refl _) _ _ _ _).fget (by decide) (by decide) (by decide),
    on_fset, on_fset, Upd.fget_fld_other (by decide), Upd.fget_fld_same (by decide)]
  rfl

end Sys2Proof.Machine
end

section
/-! Vector units: the registers of a unit, how an operation is issued, and what an operation on lanes writes (R181, R203, R214, R219 to R221). -/
namespace Sys2Proof.Machine

/-! Registers (R181). -/

@[simp] theorem VuSt.length_lanes (v : VuSt) (struck : List Nat) (r : Nat) : (v.lanes struck r).length = 1024 := by
  rw [VuSt.lanes, List.length_map, List.length_range]

/-- Lanes are read from the registers alone. -/
theorem VuSt.lanes_congr {v w : VuSt} (h : w.regs = v.regs) (struck : List Nat) (r : Nat) : w.lanes struck r = v.lanes struck r := by
  simp only [VuSt.lanes, h]

@[simp] theorem VuSt.regs_ingress (v : VuSt) (rows : NMap BufRow) : { v with ingress := rows }.regs = v.regs := rfl

/-- A lane whose number none of the values stored bears keeps its value. -/
theorem get_putLanes_ne {b key : Nat} {l : List (Nat × Nat)} (h : ∀ x ∈ l, b + x.1 ≠ key) (m : NMap Nat) :
    NMap.get 0 (l.foldl (fun m x => NMap.put 0 m (b + x.1) (x.2 % 2 ^ 32)) m) key = NMap.get 0 m key := by
  induction l generalizing m with
  | nil => rfl
  | cons x l ih =>
    rw [List.forall_mem_cons] at h
    rw [List.foldl_cons, ih h.2, NMap.get_put_ne _ _ _ _ h.1]

/-- A lane stored once holds its value. -/
theorem get_putLanes_mem {b i x : Nat} {l : List (Nat × Nat)} (hOnce : (l.map Prod.fst).Nodup) (h : (i, x) ∈ l) (m : NMap Nat) :
    NMap.get 0 (l.foldl (fun m x => NMap.put 0 m (b + x.1) (x.2 % 2 ^ 32)) m) (b + i) = x % 2 ^ 32 := by
  induction l generalizing m with
  | nil => cases h
  | cons y l ih =>
    rw [List.map_cons, List.nodup_cons] at hOnce
    obtain ⟨hNot, hOnce⟩ := hOnce
    rw [List.foldl_cons]
    rcases List.mem_cons.1 h with rfl | h
    · rw [get_putLanes_ne, NMap.get_put_same]
      intro z hz hEq
      exact hNot (List.mem_map.2 ⟨z, hz, Nat.add_left_cancel hEq⟩)
    · exact ih hOnce h _

/-- A register that takes 1,024 values holds them in its lanes, cut to their 32 bits. -/
theorem VuSt.lanes_setReg_same (v : VuSt) (r : Nat) {xs : List Nat} (h : xs.length = 1024) (fl : Flags) :
    (v.setReg r xs fl).lanes [] r = xs.map (· % 2 ^ 32) := by
  refine List.ext_getElem (by rw [VuSt.length_lanes, List.length_map, h]) fun i hi hi' => ?_
  rw [VuSt.length_lanes] at hi
  have hLane : i < xs.length := by rwa [h]
  have hIn : (i, xs[i]'hLane) ∈ (List.range 1024).zip xs := by
    refine List.mem_iff_getElem.2 ⟨i, by rw [List.length_zip, List.length_range, h]; omega, ?_⟩
    rw [List.getElem_zip, List.getElem_range]
  have hOnce : (((List.range 1024).zip xs).map Prod.fst).Nodup := by
    rw [List.map_fst_zip (by rw [List.length_range, h])]
    exact List.nodup_range
  simp only [VuSt.lanes, List.getElem_map, List.getElem_range, List.elem_nil, Bool.false_eq_true, if_false, VuSt.setReg]
  exact get_putLanes_mem hOnce hIn _

/-- A register that takes values leaves every other one as it was. -/
theorem VuSt.lanes_setReg_ne (v : VuSt) {r r' : Nat} (h : r' ≠ r) (xs : List Nat) (fl : Flags) :
    (v.setReg r xs fl).lanes [] r' = v.lanes [] r' := by
  refine List.map_congr_left fun i hi => ?_
  have hLane := List.mem_range.1 hi
  simp only [List.elem_nil, Bool.false_eq_true, if_false, VuSt.setReg]
  refine get_putLanes_ne (fun x hx => ?_) _
  have hLane' := List.mem_range.1 (List.of_mem_zip (show (x.1, x.2) ∈ _ from hx)).1
  omega

/-! Results of lanes (R121, R220). -/

theorem length_lanes1 (f : Nat → Nat × Flags) {x : List Nat} (h : x.length = 1024) : (lanes1 f [x]).length = 1024 := by
  rw [lanes1, List.length_map, h]

theorem length_lanes2 (f : Nat → Nat → Nat × Flags) {x y : List Nat} (hx : x.length = 1024) (hy : y.length = 1024) :
    (lanes2 f [x, y]).length = 1024 := by
  rw [lanes2, List.length_map, List.length_zip, hx, hy, Nat.min_self]

theorem length_lanes3 (f : Nat → Nat → Nat → Nat × Flags) {x y z : List Nat} (hx : x.length = 1024) (hy : y.length = 1024)
    (hz : z.length = 1024) : (lanes3 f [x, y, z]).length = 1024 := by
  rw [lanes3, List.length_map, List.length_zip, List.length_zip, hx, hy, hz, Nat.min_self, Nat.min_self]

theorem length_foldHalf {α : Type} (f : α → α → α) (xs : List α) (d : Nat) : (foldHalf f xs d).length = min d (xs.length - d) := by
  rw [foldHalf, List.length_map, List.length_zip, List.length_take, List.length_drop]
  omega

/-- The tree over 1,024 lanes leaves one. -/
theorem length_reduceTree {α : Type} (f : α → α → α) {xs : List α} (h : xs.length = 1024) : (reduceTree f xs).length = 1 := by
  simp only [reduceTree, List.foldl_cons, List.foldl_nil, length_foldHalf, h]
  decide

theorem length_reduced {xs : List (Nat × Flags)} (h : xs.length ≤ 1024) : (reduced xs).length = 1024 := by
  rw [reduced, List.length_append, List.length_replicate]
  omega

/-! Issue (R203, R214, R221). -/

/-- The state in which an operation that is accepted takes its effect: due results written, the operation in its unit, parity errors told. -/
def State.issued (s : State) (core : CoreId) (cls : Nat) (a : VopArgs) : State :=
  Eff.on (vuParity core.val a.vu.val a.parity.length)
    (Eff.on (onVu (core.val * 4 + a.vu.val) (fun v => v.accept cls (s.sc core.val))) (s.due core.val))

section
variable (s : State) (core : CoreId) (cls : Nat) (a : VopArgs)

theorem State.issued_vu : (s.issued core cls a).vu (core.val * 4 + a.vu.val) = (s.vu (core.val * 4 + a.vu.val)).accept cls (s.sc core.val) := by
  rw [State.issued, (only_vuParity (List.Subset.refl _) _ _ _).vu (by decide), onVu_same, State.due_vu]

theorem State.issued_lanes (struck : List Nat) (r : Nat) :
    ((s.issued core cls a).vu (core.val * 4 + a.vu.val)).lanes struck r = (s.vu (core.val * 4 + a.vu.val)).lanes struck r := by
  rw [State.issued_vu]
  rfl

theorem State.issued_core (q : Nat) : (s.issued core cls a).core q = (s.due core.val).core q := by
  rw [State.issued, (only_vuParity (List.Subset.refl _) _ _ _).core (by decide), (only_onVu (ps := [.vus]) (by decide) _ _).core (by decide)]

theorem State.issued_spd : (s.issued core cls a).spd = s.spd := by
  rw [State.issued, (only_vuParity (List.Subset.refl _) _ _ _).frame_spd (by decide),
    (only_onVu (ps := [.vus]) (by decide) _ _).frame_spd (by decide),
    State.due_spd]

theorem State.issued_spdStore (q : Nat) (lost : List Nat) : (s.issued core cls a).spdStore q lost = s.spdStore q lost := by
  rw [← State.due_spdStore s core.val]
  refine State.spdStore_congr ?_ ?_ _ _
  · rw [State.issued_spd, State.due_spd]
  · rw [State.issued, (only_vuParity (List.Subset.refl _) _ _ _).frame_spdPoison (by decide),
      (only_onVu (ps := [.vus]) (by decide) _ _).frame_spdPoison (by decide)]

theorem State.issued_place : (s.issued core cls a).place core.val = s.place core.val := by
  have hParity (n : Nat) := (only_vuParity (List.Subset.refl _) core.val a.vu.val n).keeps_place_off (by decide) core.val
  have hAccept (f : VuSt → VuSt) := (only_onVu (ps := [.vus]) (by decide) (core.val * 4 + a.vu.val) f).keeps_place_off (by decide) core.val
  exact ((hParity _ _).trans (hAccept _ _)).trans (State.due_place ..)

end

section
variable {core : CoreId} {cls : Nat} {a : VopArgs} {body : Eff} {s : State}

theorem vop_waits (h : s.seqReady core.val = false) : Eff.on (vop core cls a body) s = s := seqStep_waits h _ _ _

theorem vop_overflow (h : s.seqReady core.val = true) (hFull : 8 ≤ (s.vu (core.val * 4 + a.vu.val)).queued (s.sc core.val)) :
    (Eff.on (vop core cls a body) s).fget F.CORE_SEQ_ERR_ISSUE_OVERFLOW core.val = 1 := by
  rw [vop, seqStep_fget h (by decide), on_rd, State.due_vu, State.due_sc, if_pos hFull, issueOverflow_sets]

/-- An operation that fails validation sets the bit of its unit (R203, R221). -/
theorem opInvalid_sets (p k unit : Nat) (detail : List (Nat × Nat)) (s : State) :
    (Eff.on (seq [fset F.VU_ERR_OP_INVALID k 1, containCore p 0x0209 unit detail]) s).fget F.VU_ERR_OP_INVALID k = 1 := by
  rw [on_seq_pair, (only_containCore (List.Subset.refl _) _ _ _ _).fget (by decide) (by decide) (by decide), on_fset, Upd.fget_fld_same (by decide)]
  rfl

theorem vop_invalid (h : s.seqReady core.val = true) (hRoom : (s.vu (core.val * 4 + a.vu.val)).queued (s.sc core.val) < 8)
    (hInvalid : (s.due core.val).vopValid core.val cls a = false) :
    (Eff.on (vop core cls a body) s).fget F.VU_ERR_OP_INVALID (core.val * 4 + a.vu.val) = 1 := by
  rw [vop, seqStep_fget h (by decide), on_rd, State.due_vu, State.due_sc, if_neg (Nat.not_le.2 hRoom), hInvalid, if_neg Bool.false_ne_true,
    opInvalid_sets]

/-- A valid operation issued to a unit with room takes its effect, and where that keeps the core's place the core moves on. -/
theorem vop_issues (h : s.seqReady core.val = true) (hRoom : (s.vu (core.val * 4 + a.vu.val)).queued (s.sc core.val) < 8)
    (hValid : (s.due core.val).vopValid core.val cls a = true) (hPlace : body.Keeps fun s => s.place core.val) :
    Eff.on (vop core cls a body) s = Eff.on (advance core.val 1 none) (Eff.on body (s.issued core cls a)) ∧
      Advanced s (Eff.on (vop core cls a body) s) core.val 1 := by
  have hStays : (Eff.on body (s.issued core cls a)).place core.val = s.place core.val := (hPlace _).trans (State.issued_place ..)
  have hEnd : Eff.on (vop core cls a body) s = Eff.on (advance core.val 1 none) (Eff.on body (s.issued core cls a)) := by
    rw [vop, seqStep_ends h]
    all_goals
      rw [on_rd, State.due_vu, State.due_sc, if_neg (Nat.not_le.2 hRoom), hValid, if_pos rfl, on_seq_cons, on_seq_pair, ← State.issued]
    exact hStays
  exact ⟨hEnd, hEnd ▸ advance_advanced hStays 1⟩

end

/-! The effect of an operation. -/

/-- The effect of an operation on registers: the core keeps its place and the unit every register but VD. -/
structure Eff.ActsOnVd (core : CoreId) (a : VopArgs) (e : Eff) : Prop where
  place : e.Keeps fun s => s.place core.val
  others : ∀ r, r ≠ a.vd.val → e.Keeps fun s => (s.vu (core.val * 4 + a.vu.val)).lanes [] r

theorem Eff.Only.actsOnVd {ps : List Part} {e : Eff} (h : e.Only ps)
    (hp : (Part.flds ∉ ps ∧ Part.fld .CORE_STAT ∉ ps ∧ Part.fld .CORE_SC ∉ ps ∧ Part.fld .CORE_SEQ ∉ ps ∧ Part.cores ∉ ps) ∧ Part.vus ∉ ps)
    (core : CoreId) (a : VopArgs) : e.ActsOnVd core a :=
  ⟨h.keeps_place_off hp.1 _, fun r _ s => congrArg (fun v => VuSt.lanes v [] r) (h.vu hp.2 s _)⟩

section
variable {core : CoreId} {a : VopArgs}

theorem actsOnVd_rd {k : State → Eff} (h : ∀ s, (k s).ActsOnVd core a) : (rd k).ActsOnVd core a :=
  ⟨keeps_rd fun s => (h s).place, fun r hr => keeps_rd fun s => (h s).others r hr⟩

theorem actsOnVd_seq_nil : (seq []).ActsOnVd core a := ⟨keeps_seq_nil, fun _ _ => keeps_seq_nil⟩

theorem actsOnVd_seq_cons {e : Eff} {es : List Eff} (h : e.ActsOnVd core a) (h' : (seq es).ActsOnVd core a) : (seq (e :: es)).ActsOnVd core a :=
  ⟨keeps_seq_cons h.place h'.place, fun r hr => keeps_seq_cons (h.others r hr) (h'.others r hr)⟩

theorem actsOnVd_seq₂ {e e' : Eff} (h : e.ActsOnVd core a) (h' : e'.ActsOnVd core a) : (seq [e, e']).ActsOnVd core a :=
  actsOnVd_seq_cons h (actsOnVd_seq_cons h' actsOnVd_seq_nil)

theorem actsOnVd_ite {p : Prop} [Decidable p] {e e' : Eff} (h : e.ActsOnVd core a) (h' : e'.ActsOnVd core a) :
    (if p then e else e').ActsOnVd core a := by
  split <;> assumption

theorem actsOnVd_free (n : Nat) : (upd [.freeCtr n]).ActsOnVd core a :=
  (only_upd (ps := [.freeCtr]) (by simp [Upd.part])).actsOnVd (by decide) core a

theorem actsOnVd_draw {k : Nat → Eff} (h : ∀ x, (k x).ActsOnVd core a) : (draw k).ActsOnVd core a :=
  actsOnVd_rd fun _ => actsOnVd_seq₂ (actsOnVd_free _) (h _)

theorem actsOnVd_drawLanes {k : (Nat → Nat) → Eff} (h : ∀ x, (k x).ActsOnVd core a) : (drawLanes k).ActsOnVd core a :=
  actsOnVd_rd fun _ => actsOnVd_seq₂ (actsOnVd_free _) (h _)

/-- A change of the unit whose registers take values in VD. -/
theorem actsOnVd_onVu {f : VuSt → VuSt} (h : ∀ v, ∃ xs fl, (f v).regs = (v.setReg a.vd.val xs fl).regs) :
    (onVu (core.val * 4 + a.vu.val) f).ActsOnVd core a := by
  refine ⟨(only_onVu (ps := [.vus]) (by decide) _ f).keeps_place_off (by decide) _, fun r hr s => ?_⟩
  obtain ⟨xs, fl, hRegs⟩ := h (s.vu (core.val * 4 + a.vu.val))
  simp only [onVu_same]
  rw [VuSt.lanes_congr hRegs, VuSt.lanes_setReg_ne _ hr]

/-- What ends an operation writes its metadata entry in the core and its sticky flags. -/
theorem keeps_vopEnd_place (p v tag : Nat) (fl : Flags) (q : Nat) : (vopEnd p v tag fl).Keeps fun s => s.place q := by
  have hFlags (k : Nat) : Eff.Only [.fld .VU_FLAGS]
      (orFlags [F.VU_FLAGS_OVF, F.VU_FLAGS_NAN, F.VU_FLAGS_INF, F.VU_FLAGS_CSAT, F.VU_FLAGS_POISON] k fl) := only_orFlags (by decide) _ _
  refine (only_vopEnd (List.Subset.refl _) p v tag fl).keeps_place (by decide) (keeps_rd fun s => keeps_seq₂ ?_ fun t => ?_)
  · refine keeps_onCore (g := CoreSt.loops) ?_ p q
    exact fun _ => rfl
  · rw [(hFlags _).core (by decide)]

theorem actsOnVd_vopEnd (p v tag : Nat) (fl : Flags) : (vopEnd p v tag fl).ActsOnVd core a :=
  ⟨keeps_vopEnd_place p v tag fl _, fun r _ s =>
    congrArg (fun v => VuSt.lanes v [] r) ((only_vopEnd (List.Subset.refl _) p v tag fl).vu (by decide) s _)⟩

theorem actsOnVd_vopLanes (srcs : List Nat) (f : List (List Nat) → List (Nat × Flags)) : (vopLanes core a srcs f).ActsOnVd core a :=
  actsOnVd_rd fun _ => actsOnVd_seq₂ (actsOnVd_onVu fun _ => ⟨_, _, rfl⟩) (actsOnVd_vopEnd _ _ _ _)

end

/-- An operation on lanes leaves its 1,024 results in VD. -/
theorem vopLanes_lanes {core : CoreId} {a : VopArgs} {srcs : List Nat} {f : List (List Nat) → List (Nat × Flags)} {s : State}
    {out : List (Nat × Flags)} (hOut : f (srcs.map ((s.vu (core.val * 4 + a.vu.val)).lanes a.parity)) = out) (hLen : out.length = 1024) :
    Lanes (Eff.on (vopLanes core a srcs f) s) (core.val * 4 + a.vu.val) a.vd.val out := by
  rw [Lanes, vopLanes, on_rd]
  dsimp only
  rw [hOut, on_seq_pair, (only_vopEnd (List.Subset.refl _) _ _ _ _).vu (by decide), onVu_same,
    VuSt.lanes_setReg_same _ _ (by rw [List.length_map, hLen]), List.map_map]
  rfl

section
variable {core : CoreId} {cls : Nat} {a : VopArgs} {body : Eff} {s : State}

/-- A valid operation issued to a unit with room takes one cycle of the sequencer and keeps every register but VD. -/
theorem vop_keeps (h : s.seqReady core.val = true) (hRoom : (s.vu (core.val * 4 + a.vu.val)).queued (s.sc core.val) < 8)
    (hValid : (s.due core.val).vopValid core.val cls a = true) (hBody : body.ActsOnVd core a) :
    Advanced s (Eff.on (vop core cls a body) s) core.val 1 ∧ ∀ r, r ≠ a.vd.val →
      ((Eff.on (vop core cls a body) s).vu (core.val * 4 + a.vu.val)).lanes [] r = (s.vu (core.val * 4 + a.vu.val)).lanes [] r := by
  obtain ⟨hEnd, hAdvanced⟩ := vop_issues h hRoom hValid hBody.place
  refine ⟨hAdvanced, fun r hr => ?_⟩
  rw [hEnd, (only_advance (List.Subset.refl _) _ _ _).vu (by decide)]
  exact (hBody.others r hr _).trans (State.issued_lanes ..)

/-- Such an operation leaves its unit as its effect does. -/
theorem vop_vu (h : s.seqReady core.val = true) (hRoom : (s.vu (core.val * 4 + a.vu.val)).queued (s.sc core.val) < 8)
    (hValid : (s.due core.val).vopValid core.val cls a = true) (hPlace : body.Keeps fun s => s.place core.val) (k : Nat) :
    (Eff.on (vop core cls a body) s).vu k = (Eff.on body (s.issued core cls a)).vu k := by
  rw [(vop_issues h hRoom hValid hPlace).1, (only_advance (List.Subset.refl _) _ _ _).vu (by decide)]

/-- Such an operation on lanes leaves in VD its results of its sources' lanes, whatever it does before that to what is no register. -/
theorem vop_lanes_after (h : s.seqReady core.val = true) (hRoom : (s.vu (core.val * 4 + a.vu.val)).queued (s.sc core.val) < 8)
    (hValid : (s.due core.val).vopValid core.val cls a = true) (hActs : body.ActsOnVd core a) {u : State} {srcs : List Nat}
    {f : List (List Nat) → List (Nat × Flags)} (hBody : Eff.on body (s.issued core cls a) = Eff.on (vopLanes core a srcs f) u)
    (hUnit : u.vu (core.val * 4 + a.vu.val) = (s.issued core cls a).vu (core.val * 4 + a.vu.val)) {out : List (Nat × Flags)}
    (hOut : f (srcs.map ((s.vu (core.val * 4 + a.vu.val)).lanes a.parity)) = out) (hLen : out.length = 1024) :
    Lanes (Eff.on (vop core cls a body) s) (core.val * 4 + a.vu.val) a.vd.val out := by
  have hSrcs : (u.vu (core.val * 4 + a.vu.val)).lanes a.parity = (s.vu (core.val * 4 + a.vu.val)).lanes a.parity := by
    rw [hUnit]
    exact funext fun r => State.issued_lanes s core cls a a.parity r
  rw [Lanes, vop_vu h hRoom hValid hActs.place, hBody]
  exact vopLanes_lanes (by rw [hSrcs, hOut]) hLen

/-- An operation on lanes leaves in VD its results of its sources' lanes. -/
theorem vop_lanes (h : s.seqReady core.val = true) (hRoom : (s.vu (core.val * 4 + a.vu.val)).queued (s.sc core.val) < 8)
    (hValid : (s.due core.val).vopValid core.val cls a = true) {srcs : List Nat} {f : List (List Nat) → List (Nat × Flags)}
    (hBody : body = vopLanes core a srcs f) {out : List (Nat × Flags)}
    (hOut : f (srcs.map ((s.vu (core.val * 4 + a.vu.val)).lanes a.parity)) = out) (hLen : out.length = 1024) :
    Lanes (Eff.on (vop core cls a body) s) (core.val * 4 + a.vu.val) a.vd.val out :=
  vop_lanes_after h hRoom hValid (hBody ▸ actsOnVd_vopLanes srcs f) (hBody ▸ rfl) rfl hOut hLen

end

end Sys2Proof.Machine
end

section
/-! The operations of a vector unit on its registers: which lanes each code writes (R181, R184, R219 to R221). -/
namespace Sys2Proof.Machine

/-- An effect that does not look at the state. -/
theorem rd_const (e : Eff) : (rd fun _ => e) = e := rfl

theorem on_drawLanes (k : (Nat → Nat) → Eff) (s : State) :
    Eff.on (drawLanes k) s = Eff.on (k fun i => Config.freeNat (s.freeCtr + i) % 2 ^ 32) ((Upd.freeCtr (s.freeCtr + 1024)).apply s) := by
  rw [drawLanes, on_rd, on_seq_pair, on_upd, applyAll_cons, applyAll_nil]

section
variable (c : CoreId) (a : VopArgs)

/-- VOP_MOVE runs an operation on lanes, by its code (R220). -/
theorem vopMove_runs : ∃ body : Eff, body.ActsOnVd c a ∧ (∀ s, exec (.vopMove c a) s = .next (Eff.on (vop c 0 a body) s)) ∧
    (a.opc = 0x01 → body = vopLanes c a [a.va.val] (lanes1 clean)) ∧
    (a.opc = 0x02 → body = vopLanes c a [a.va.val, a.vb.val, a.vc.val] (lanes3 fun x y m => clean (if m = 0 then y else x))) := by
  refine ⟨_, ?_, fun s => rfl, fun h => ?_, fun h => ?_⟩
  · refine actsOnVd_rd fun s => ?_
    dsimp only
    split <;> exact actsOnVd_vopLanes ..
  · rw [h]
    exact rd_const _
  · rw [h]
    exact rd_const _

/-- VOP_ARITHMETIC runs an operation on lanes, by its code (R182, R220, R221). -/
theorem vopArithmetic_runs : ∃ body : Eff, body.ActsOnVd c a ∧ (∀ s, exec (.vopArithmetic c a) s = .next (Eff.on (vop c 1 a body) s)) ∧
    (a.opc = 0x10 → body = vopLanes c a [a.va.val, a.vb.val] (lanes2 (vAdd false))) ∧
    (a.opc = 0x11 → body = vopLanes c a [a.va.val, a.vb.val] (lanes2 (vAdd true))) ∧
    (a.opc = 0x12 → body = vopLanes c a [a.va.val, a.vb.val] (lanes2 vMul)) ∧
    (a.opc = 0x13 → body = vopLanes c a [a.va.val, a.vb.val] (lanes2 (vMinMax false))) ∧
    (a.opc = 0x14 → body = vopLanes c a [a.va.val, a.vb.val] (lanes2 (vMinMax true))) ∧
    (a.opc = 0x15 → body = vopLanes c a [a.va.val] (lanes1 fun x => vSpecial (x % 2 ^ 31))) ∧
    (a.opc = 0x16 → body = vopLanes c a [a.va.val] (lanes1 fun x => vSpecial (x ^^^ 2 ^ 31))) ∧
    (a.opc = 0x1B → body = vopLanes c a [a.va.val, a.vb.val] (lanes2 fun x y => clean ((x + y) % 2 ^ 32))) ∧
    (a.opc = 0x1C → body = vopLanes c a [a.va.val, a.vb.val] (lanes2 fun x y => clean ((x + 2 ^ 32 - y) % 2 ^ 32))) ∧
    (a.opc = 0x1D → body = vopLanes c a [a.va.val, a.vb.val] (lanes2 fun x y => clean (x * y % 2 ^ 32))) := by
  refine ⟨_, ?_, fun s => rfl, ?_⟩
  · split <;> exact actsOnVd_vopLanes ..
  · refine ⟨?_, ?_, ?_, ?_, ?_, ?_, ?_, ?_, ?_, ?_⟩
    all_goals
      intro h
      rw [h]
      rfl

/-- VOP_SPECIAL_FUNCTION runs a special function on the lanes, by its code (R184, R220). -/
theorem vopSpecialFunction_runs : ∃ body : Eff, body.ActsOnVd c a ∧
    (∀ s, exec (.vopSpecialFunction c a) s = .next (Eff.on (vop c 4 a body) s)) ∧
    (a.opc = 0x30 → body = vopLanes c a [a.va.val] (lanes1 fun x => spExp (f32 x))) ∧
    (a.opc = 0x31 → body = vopLanes c a [a.va.val] (lanes1 fun x => spExp2 (f32 x))) ∧
    (a.opc = 0x33 → body = vopLanes c a [a.va.val] (lanes1 fun x => spLog true (f32 x))) ∧
    (a.opc = 0x34 → body = vopLanes c a [a.va.val] (lanes1 fun x => spLog false (f32 x))) ∧
    (a.opc = 0x35 → body = vopLanes c a [a.va.val] (lanes1 fun x => spRcp (f32 x))) ∧
    (a.opc = 0x36 → body = vopLanes c a [a.va.val] (lanes1 fun x => spSqrt (f32 x))) ∧
    (a.opc = 0x37 → body = vopLanes c a [a.va.val] (lanes1 fun x => spRsqrt (f32 x))) ∧
    (a.opc = 0x38 → body = vopLanes c a [a.va.val] (lanes1 fun x => spTanh (f32 x))) ∧
    (a.opc = 0x39 → body = vopLanes c a [a.va.val] (lanes1 fun x => spSigmoid (f32 x))) ∧
    (a.opc = 0x3A → body = vopLanes c a [a.va.val] (lanes1 fun x => spSilu (f32 x))) := by
  refine ⟨_, ?_, fun s => rfl, ?_⟩
  · split <;> exact actsOnVd_vopLanes ..
  · refine ⟨?_, ?_, ?_, ?_, ?_, ?_, ?_, ?_, ?_, ?_⟩
    all_goals
      intro h
      rw [h]
      rfl

/-- The reduction of the lanes of a register by a function of two of them, flags joined (R121). -/
def reduceLanes (f : Nat → Nat → Nat × Flags) : List (List Nat) → List (Nat × Flags)
  | x :: _ => reduced (reduceTree (reduce2 f) (x.map fun v => (v, if f32 v = .nan then Flags.justNan else Flags.none)))
  | _ => []

theorem length_reduceLanes (f : Nat → Nat → Nat × Flags) {x : List Nat} (h : x.length = 1024) : (reduceLanes f [x]).length = 1024 := by
  rw [reduceLanes, length_reduced]
  rw [length_reduceTree _ (by rw [List.length_map, h])]
  decide

/-- VOP_REDUCE reduces the lanes, by its code (R121, R220). -/
theorem vopReduce_runs : ∃ body : Eff, body.ActsOnVd c a ∧ (∀ s, exec (.vopReduce c a) s = .next (Eff.on (vop c 5 a body) s)) ∧
    (a.opc = 0x40 → body = vopLanes c a [a.va.val] (reduceLanes (vAdd false))) ∧
    (a.opc = 0x41 → body = vopLanes c a [a.va.val] (reduceLanes (vMinMax true))) ∧
    (a.opc = 0x42 → body = vopLanes c a [a.va.val] (reduceLanes (vMinMax false))) := by
  refine ⟨_, ?_, fun s => rfl, fun h => ?_, fun h => ?_, fun h => ?_⟩
  · split
    · exact actsOnVd_vopLanes ..
    · exact actsOnVd_vopLanes ..
    · exact actsOnVd_vopLanes ..
    · exact actsOnVd_draw fun _ => actsOnVd_vopLanes ..
  all_goals
    rw [h]
    refine congrArg (vopLanes c a [a.va.val]) (funext fun r => ?_)
    cases r <;> rfl

/-- VOP_PERMUTE draws free values and runs an operation on lanes; PERM takes its lanes where VB says (R220). -/
theorem vopPermute_runs : ∃ (code : Nat) (body : Eff), (a.opc ≠ 0x2A → { a with opc := code } = a) ∧ body.ActsOnVd c a ∧
    (∀ s, exec (.vopPermute c a) s = .next (Eff.on (vop c 3 { a with opc := code } body) s)) ∧
    (a.opc = 0x28 → ∀ s, ∃ (n : Nat) (free : Nat → Nat) (f : List (List Nat) → List (Nat × Flags)),
      Eff.on body s = Eff.on (vopLanes c a [a.va.val, a.vb.val] f) ((Upd.freeCtr n).apply s) ∧
      ∀ x y, f [x, y] = (List.range 1024).map (fun i => clean ((x[(y[i]?).getD 0]?).getD (free i)))) := by
  refine ⟨if a.opc = 0x2A then 0 else a.opc, _, fun h => by rw [if_neg h], ?_, fun s => rfl, fun h s => ?_⟩
  · exact actsOnVd_drawLanes fun _ => actsOnVd_ite (actsOnVd_vopLanes ..) (actsOnVd_vopLanes ..)
  · exact ⟨_, _, _, (on_drawLanes _ s).trans (congrArg (fun e => Eff.on e _) (if_pos h)), fun _ _ => rfl⟩

/-- VOP_INGRESS draws free values and takes the row of its slot into VD; the slot then holds no row (R181). -/
theorem vopIngress_runs : ∃ (code : Nat) (body : Eff), (a.opc = 0x2A → { a with opc := code } = a) ∧ body.ActsOnVd c a ∧
    (∀ s, exec (.vopIngress c a) s = .next (Eff.on (vop c 3 { a with opc := code } body) s)) ∧
    ∀ s v r, v = s.vu (c.val * 4 + a.vu.val) → r = assoc ⟨[], 0, false⟩ v.ingress a.imm.toNat →
      (r.valid = true → bitOf r.flags 5 = false → ∀ i, i < 32 →
        (((Eff.on body s).vu (c.val * 4 + a.vu.val)).lanes [] a.vd.val)[i]? = some (leAt r.bytes (4 * i) 4 % 2 ^ 32)) ∧
      (assoc ⟨[], 0, false⟩ ((Eff.on body s).vu (c.val * 4 + a.vu.val)).ingress a.imm.toNat).valid = false := by
  refine ⟨if a.opc = 0x2A then 0x2A else 0, _, fun h => by rw [if_pos h, ← h], ?_, fun s => rfl, fun s v r hv hr => ?_⟩
  · exact actsOnVd_drawLanes fun _ => actsOnVd_rd fun _ => actsOnVd_seq_cons (actsOnVd_onVu fun v => ⟨_, _, (v.setReg ..).regs_ingress _⟩)
      (actsOnVd_seq₂ ((only_ingressRows (List.Subset.refl _) _).actsOnVd (by decide) c a) (actsOnVd_vopEnd ..))
  · have hUnit : ((Upd.freeCtr (s.freeCtr + 1024)).apply s).vu (c.val * 4 + a.vu.val) = v := hv.symm
    rw [on_drawLanes, on_rd]
    dsimp only
    rw [on_seq_cons, on_seq_pair, (only_vopEnd (List.Subset.refl _) _ _ _ _).vu (by decide),
      (only_ingressRows (List.Subset.refl _) _).vu (by decide), onVu_same, hUnit, ← hr]
    refine ⟨fun hRow hKept i hi => ?_, ?_⟩
    · have hLane : i < 1024 := by omega
      rw [VuSt.lanes_congr (VuSt.regs_ingress ..), VuSt.lanes_setReg_same _ _ (by rw [List.length_map, List.length_range]), List.getElem?_map,
        List.getElem?_map, List.getElem?_range hLane, Option.map_some, Option.map_some, hRow, hKept, decide_eq_true hi]
      rfl
    · dsimp only
      rw [assoc, NMap.get_put_same]

end

end Sys2Proof.Machine

namespace Sys2Proof.Proofs
open Sys2Proof.Machine

/-- Settles O13: each command issues one operation, which acts on VD alone, and the lanes it writes follow its code. -/
theorem vectorOperationsCompute : Obligations.VectorOperationsCompute := by
  refine ⟨fun c a s => ?_, fun c a s => ?_, fun c a s => ?_, fun c a s => ?_, fun c a s => ?_, fun c a s => ?_, fun c a s => ?_⟩
  · obtain ⟨body, hActs, hExec, hCopy, hSelect⟩ := vopMove_runs c a
    refine ⟨_, hExec s, frame_execVopMove c a s (hExec s), fun v hv hReady hRoom hValid => ?_, vop_overflow, vop_invalid, vop_waits⟩
    subst hv
    obtain ⟨hAdvanced, hOthers⟩ := vop_keeps hReady hRoom hValid hActs
    refine ⟨hAdvanced, hOthers, fun h => ?_, fun h => ?_⟩
    · exact vop_lanes hReady hRoom hValid (hCopy h) rfl (length_lanes1 _ (VuSt.length_lanes ..))
    · exact vop_lanes hReady hRoom hValid (hSelect h) rfl (length_lanes3 _ (VuSt.length_lanes ..) (VuSt.length_lanes ..) (VuSt.length_lanes ..))
  · obtain ⟨body, hActs, hExec, hAdd, hSub, hMul, hMin, hMax, hAbs, hNeg, hAddI, hSubI, hMulI⟩ := vopArithmetic_runs c a
    refine ⟨_, hExec s, frame_execVopArithmetic c a s (hExec s), fun v hv hReady hRoom hValid => ?_, vop_overflow, vop_invalid, vop_waits⟩
    subst hv
    have hOne {f : Nat → Nat × Flags} (h : body = vopLanes c a [a.va.val] (lanes1 f)) := vop_lanes hReady hRoom hValid h rfl
      (length_lanes1 f (VuSt.length_lanes ..))
    have hTwo {f : Nat → Nat → Nat × Flags} (h : body = vopLanes c a [a.va.val, a.vb.val] (lanes2 f)) := vop_lanes hReady hRoom hValid h rfl
      (length_lanes2 f (VuSt.length_lanes ..) (VuSt.length_lanes ..))
    obtain ⟨hAdvanced, hOthers⟩ := vop_keeps hReady hRoom hValid hActs
    exact ⟨hAdvanced, hOthers, fun h => hTwo (hAdd h), fun h => hTwo (hSub h), fun h => hTwo (hMul h), fun h => hTwo (hMin h),
      fun h => hTwo (hMax h), fun h => hOne (hAbs h), fun h => hOne (hNeg h), fun h => hTwo (hAddI h), fun h => hTwo (hSubI h),
      fun h => hTwo (hMulI h)⟩
  · refine ⟨_, rfl, frame_execVopFma c a s rfl, fun v hv hReady hRoom hValid => ?_, vop_overflow, vop_invalid, vop_waits⟩
    subst hv
    obtain ⟨hAdvanced, hOthers⟩ := vop_keeps hReady hRoom hValid (actsOnVd_vopLanes ..)
    exact ⟨hAdvanced, hOthers, vop_lanes hReady hRoom hValid rfl rfl
      (length_lanes3 _ (VuSt.length_lanes ..) (VuSt.length_lanes ..) (VuSt.length_lanes ..))⟩
  · obtain ⟨code, body, hCode, hActs, hExec, hPerm⟩ := vopPermute_runs c a
    refine ⟨_, hExec s, frame_execVopPermute c a s (hExec s), fun v hv hReady hRoom hNot hValid => ?_,
      vop_overflow (a := { a with opc := code }), fun hNot hReady hRoom hInvalid =>
        vop_invalid (a := { a with opc := code }) hReady hRoom ((hCode hNot).symm ▸ hInvalid), vop_waits⟩
    subst hv
    rw [hCode hNot]
    obtain ⟨hAdvanced, hOthers⟩ := vop_keeps hReady hRoom hValid hActs
    refine ⟨hAdvanced, hOthers, fun h i hi j hj hLane => ?_⟩
    obtain ⟨n, free, f, hBody, hPick⟩ := hPerm h (s.issued c 3 a)
    have hLanes := vop_lanes_after hReady hRoom hValid hActs hBody rfl (hPick _ _) (by rw [List.length_map, List.length_range])
    have hSrc : j < ((s.vu (c.val * 4 + a.vu.val)).lanes a.parity a.va.val).length := by rwa [VuSt.length_lanes]
    rw [hLanes, List.getElem?_map, List.getElem?_map, List.getElem?_range hi]
    simp only [Option.map_some, hj, Option.getD_some, List.getElem?_eq_getElem hSrc, clean]
  · obtain ⟨code, body, hCode, hActs, hExec, hTakes⟩ := vopIngress_runs c a
    refine ⟨_, hExec s, frame_execVopIngress c a s (hExec s), fun v hv hReady hRoom hIs hValid => ?_,
      vop_overflow (a := { a with opc := code }), fun hIs hReady hRoom hInvalid =>
        vop_invalid (a := { a with opc := code }) hReady hRoom ((hCode hIs).symm ▸ hInvalid), vop_waits⟩
    subst hv
    rw [hCode hIs]
    obtain ⟨hAdvanced, hOthers⟩ := vop_keeps hReady hRoom hValid hActs
    have hTaken := hTakes (s.issued c 3 a) _ _ rfl rfl
    rw [← vop_vu hReady hRoom hValid hActs.place, State.issued_vu] at hTaken
    obtain ⟨hRow, hConsumed⟩ := hTaken
    refine ⟨hAdvanced, hOthers, fun r hr => ?_, hConsumed⟩
    subst hr
    exact hRow
  · obtain ⟨body, hActs, hExec, hExp, hExp2, hLog2, hLogE, hRcp, hSqrt, hRsqrt, hTanh, hSigmoid, hSilu⟩ := vopSpecialFunction_runs c a
    refine ⟨_, hExec s, frame_execVopSpecialFunction c a s (hExec s), fun v hv hReady hRoom hValid => ?_, vop_overflow, vop_invalid, vop_waits⟩
    subst hv
    have hOne {f : Nat → Nat × Flags} (h : body = vopLanes c a [a.va.val] (lanes1 f)) := vop_lanes hReady hRoom hValid h rfl
      (length_lanes1 f (VuSt.length_lanes ..))
    obtain ⟨hAdvanced, hOthers⟩ := vop_keeps hReady hRoom hValid hActs
    exact ⟨hAdvanced, hOthers, fun h => hOne (hExp h), fun h => hOne (hExp2 h), fun h => hOne (hLog2 h), fun h => hOne (hLogE h),
      fun h => hOne (hRcp h), fun h => hOne (hSqrt h), fun h => hOne (hRsqrt h), fun h => hOne (hTanh h), fun h => hOne (hSigmoid h),
      fun h => hOne (hSilu h)⟩
  · obtain ⟨body, hActs, hExec, hSum, hMax, hMin⟩ := vopReduce_runs c a
    refine ⟨_, hExec s, frame_execVopReduce c a s (hExec s), fun v hv hReady hRoom hValid => ?_, vop_overflow, vop_invalid, vop_waits⟩
    subst hv
    have hTree {f : Nat → Nat → Nat × Flags} (h : body = vopLanes c a [a.va.val] (reduceLanes f)) := vop_lanes hReady hRoom hValid h rfl
      (length_reduceLanes f (VuSt.length_lanes ..))
    obtain ⟨hAdvanced, hOthers⟩ := vop_keeps hReady hRoom hValid hActs
    exact ⟨hAdvanced, hOthers, fun h => hTree (hSum h), fun h => hTree (hMax h), fun h => hTree (hMin h)⟩

end Sys2Proof.Proofs
end

section
/-! Vector units and scratchpad: a run of bytes written line by line, and the operations that load and store (R117, R118, R221, R264). -/
namespace Sys2Proof.Machine

/-! A scheduled write that loses no line. -/

/-- What one effect of a list establishes and none of them breaks, holds after all of them. -/
theorem on_each_establishes {α : Type} {P : State → Prop} {l : List α} {f : α → Eff} {a : α} (ha : a ∈ l) (hSets : ∀ s, P (Eff.on (f a) s))
    (hKeeps : ∀ b s, P s → P (Eff.on (f b) s)) (s : State) : P (Eff.on (each l f) s) := by
  have hAll (l : List α) (s : State) (h : P s) : P (Eff.on (each l f) s) := by
    induction l generalizing s with
    | nil => exact h
    | cons b l ih => exact (on_each_cons b l f s).symm ▸ ih _ (hKeeps b s h)
  induction l generalizing s with
  | nil => cases ha
  | cons b l ih =>
    rw [on_each_cons]
    rcases List.mem_cons.1 ha with rfl | h
    · exact hAll l _ (hSets s)
    · exact ih h _

/-- A byte of a range lies in a block that the range touches. -/
theorem mem_touched {size off n i : Nat} (hi : i < n) : (off + i) / size ∈ touched size off n := by
  have hLow : off / size ≤ (off + i) / size := Nat.div_le_div_right (Nat.le_add_right ..)
  have hHigh : (off + i) / size ≤ (off + n - 1) / size := Nat.div_le_div_right (by omega)
  rw [touched, if_neg (by omega), List.mem_map]
  exact ⟨(off + i) / size - off / size, List.mem_range.2 (by omega), by omega⟩

/-- The part of a run that lies in a line, written at its place: a byte of the run in that line takes its value, every other byte stays. -/
theorem Mem.rd_wrN_line {m : List Host.Cell} {bs : List Byte} {base off l i : Nat} (hi : i < bs.length) :
    Mem.rd (Mem.wrN m (base + max off (l * 64)) ((bs.drop (max off (l * 64) - off)).take (min (off + bs.length) (l * 64 + 64) - max off (l * 64))))
      (base + (off + i)) = if (off + i) / 64 = l then bs.getD i 0 else Mem.rd m (base + (off + i)) := by
  split
  · next hLine =>
    have hPlace : base + (off + i) = base + max off (l * 64) + (off + i - max off (l * 64)) := by omega
    have hIn : off + i - max off (l * 64) <
        ((bs.drop (max off (l * 64) - off)).take (min (off + bs.length) (l * 64 + 64) - max off (l * 64))).length := by
      rw [List.length_take, List.length_drop]
      omega
    have hIndex : max off (l * 64) - off + (off + i - max off (l * 64)) = i := by omega
    rw [hPlace, Mem.rd_wrN_in _ _ _ _ hIn, List.getD_eq_getElem?_getD, List.getElem?_take_of_lt (by omega), List.getElem?_drop, hIndex,
      List.getD_eq_getElem?_getD]
  · next hLine =>
    rw [Mem.rd_wrN_out]
    rw [List.length_take, List.length_drop]
    omega

/-- A scheduled write that loses no line puts its bytes where they belong. -/
theorem spdWrLost_run (p off : Nat) (bs : List Byte) (poison : Bool) (s : State) :
    (Eff.on (spdWrLost p off bs poison []) s).spdRd p off bs.length = bs := by
  have hByte (i : Nat) (hi : i < bs.length) :
      Mem.rd (Eff.on (spdWrLost p off bs poison []) s).spd (spdBase p + (off + i)) = bs.getD i 0 := by
    refine on_each_establishes (P := fun s => Mem.rd s.spd (spdBase p + (off + i)) = bs.getD i 0) (mem_touched hi) (fun s => ?_) (fun l s h => ?_) s
    · dsimp only
      rw [List.elem_nil, on_either_false, spd_spdWr, Mem.rd_wrN_line hi, if_pos rfl]
    · dsimp only
      rw [List.elem_nil, on_either_false, spd_spdWr, Mem.rd_wrN_line hi, h, ite_self]
  refine List.ext_getElem (Mem.length_rdN ..) fun i hi hi' => ?_
  rw [← List.getD_eq_getElem _ 0, ← List.getD_eq_getElem _ 0, State.spdRd, Mem.getD_rdN _ _ _ _ hi', Nat.add_assoc, hByte i hi']

/-! LOAD, STORE and QUANT (R221). -/

/-- Lost bank cycles of an operation's accesses are told. -/
def vuConflicts (c : CoreId) (a : VopArgs) (conflicts : List (Nat × Nat)) : Eff :=
  each conflicts (fun x => spdConflict c.val x.2 (72 + a.vu.val))

theorem only_vuConflicts (c : CoreId) (a : VopArgs) (conflicts : List (Nat × Nat)) : Eff.Only [.ev, .fld .SPD_CONFLICT] (vuConflicts c a conflicts) :=
  only_each fun _ _ => only_spdConflict (List.Subset.refl _) _ _ _

/-- An operation's address depends on its core's scalar registers alone. -/
theorem State.vopAddr_congr {s t : State} {p : Nat} (h : t.core p = s.core p) (imm : BitVec 32) (r : Nat) :
    t.vopAddr p imm r = s.vopAddr p imm r := by
  rw [State.vopAddr, State.vopAddr, State.scalar, State.scalar, h]

theorem State.issued_vopAddr (s : State) (c : CoreId) (cls : Nat) (a : VopArgs) (imm : BitVec 32) (r : Nat) :
    (s.issued c cls a).vopAddr c.val imm r = (s.due c.val).vopAddr c.val imm r := State.vopAddr_congr (State.issued_core ..) imm r

/-- The lanes that a LOAD takes from a store: packed elements widened, a poisoned one +0 with its flag (R117). -/
def loadedLanes (st : Store) (addr fmt : Nat) : List (Nat × Flags) :=
  (List.range 1024).map fun i =>
    let e := st.elem addr (fmtBits fmt) i
    if e.2 then (0, Flags.poisonIf true) else widen fmt e.1

theorem length_loadedLanes (st : Store) (addr fmt : Nat) : (loadedLanes st addr fmt).length = 1024 := by
  rw [loadedLanes, List.length_map, List.length_range]

/-- VOP_LOAD tells its lost bank cycles and writes to VD the lanes loaded (R221). -/
theorem vopLoad_runs (c : CoreId) (a : VopArgs) (conflicts : List (Nat × Nat)) : ∃ (code : Nat) (body : Eff),
    (a.opc = 0x48 → { a with opc := code } = a) ∧ body.ActsOnVd c a ∧
    (∀ s, exec (.vopLoad c a conflicts) s = .next (Eff.on (vop c 6 { a with opc := code } body) s)) ∧
    ∀ s, Eff.on body s = Eff.on (vopLanes c a [] fun _ => loadedLanes (s.spdStore c.val (conflicts.map (fun y => y.1)))
      (s.vopAddr c.val a.imm a.sreg.val) a.fmt) (Eff.on (vuConflicts c a conflicts) s) := by
  have hTold := only_vuConflicts c a conflicts
  refine ⟨if a.opc = 0x48 then 0x48 else 0, _, fun h => by rw [if_pos h, ← h], ?_, fun s => rfl, fun s => ?_⟩
  · exact actsOnVd_seq₂ (hTold.actsOnVd (by decide) c a) (actsOnVd_rd fun _ => actsOnVd_vopLanes ..)
  · have hStore : (Eff.on (vuConflicts c a conflicts) s).spdStore c.val (conflicts.map (fun y => y.1)) =
        s.spdStore c.val (conflicts.map (fun y => y.1)) :=
      State.spdStore_congr (hTold.frame_spd (by decide) s) (hTold.frame_spdPoison (by decide) s) _ _
    rw [on_seq_pair, on_rd, ← vuConflicts]
    dsimp only
    rw [hStore, State.vopAddr_congr (hTold.core (by decide) s c.val), List.map_map]
    rfl

/-- An operation that stores: lost bank cycles are told, then the bytes that its lanes make are written at its address (R118, R221). -/
def storeRun (c : CoreId) (a : VopArgs) (conflicts : List (Nat × Nat)) (bytes : List Nat → List Byte) (flags : VuSt → Flags) : Eff :=
  seq [vuConflicts c a conflicts, rd fun s =>
    let v := s.vu (c.val * 4 + a.vu.val)
    seq [spdWrLost c.val (s.vopAddr c.val a.imm a.sreg.val) (bytes (v.lanes a.parity a.va.val)) (flags v).poison (conflicts.map (fun x => x.1)),
      vopEnd c.val a.vu.val a.tag.val (flags v)]]

section
variable {c : CoreId} {a : VopArgs} {conflicts : List (Nat × Nat)} {bytes : List Nat → List Byte} {flags : VuSt → Flags}

theorem only_storeRun : Eff.Only [.cores, .ev, .fld .SPD_CONFLICT, .fld .VU_FLAGS, .spd, .spdPoison] (storeRun c a conflicts bytes flags) :=
  only_seq₂ ((only_vuConflicts c a conflicts).mono (by decide)) <| only_rd fun _ =>
    only_seq₂ (only_spdWrLost (by decide) _ _ _ _ _) (only_vopEnd (by decide) _ _ _ _)

theorem keeps_storeRun_place (q : Nat) : (storeRun c a conflicts bytes flags).Keeps fun s => s.place q := by
  refine keeps_seq₂ ((only_vuConflicts c a conflicts).keeps_place_off (by decide) q) (keeps_rd fun s => keeps_seq₂ ?_ (keeps_vopEnd_place _ _ _ _ q))
  refine (only_spdWrLost (List.Subset.refl _) _ _ _ _ _).keeps_place (by decide) (keeps_spdWrLost_core (g := CoreSt.loops) ?_ _ _ _ _ _ q)
  exact fun _ _ _ => rfl

/-- The bytes are written at the operation's address, as lines lost allow. -/
theorem storeRun_spd {s : State} {addr : Nat} (hAddr : addr = s.vopAddr c.val a.imm a.sreg.val) {bs : List Byte}
    (hBytes : bs = bytes ((s.vu (c.val * 4 + a.vu.val)).lanes a.parity a.va.val)) :
    ∃ (poison : Bool) (u : State), u.spd = s.spd ∧ (Eff.on (storeRun c a conflicts bytes flags) s).spd =
      (Eff.on (spdWrLost c.val addr bs poison (conflicts.map (fun x => x.1))) u).spd := by
  have hTold := only_vuConflicts c a conflicts
  refine ⟨(flags (s.vu (c.val * 4 + a.vu.val))).poison, Eff.on (vuConflicts c a conflicts) s, hTold.frame_spd (by decide) s, ?_⟩
  rw [storeRun, on_seq_pair, on_rd]
  dsimp only
  rw [on_seq_pair, (only_vopEnd (List.Subset.refl _) _ _ _ _).frame_spd (by decide), hTold.vu (by decide),
    State.vopAddr_congr (hTold.core (by decide) s c.val), ← hAddr, ← hBytes]

/-- A valid operation that stores, issued to a unit with room, writes its bytes at its address and changes no other byte and no register. -/
theorem vop_stores {cls : Nat} {s : State} (h : s.seqReady c.val = true) (hRoom : (s.vu (c.val * 4 + a.vu.val)).queued (s.sc c.val) < 8)
    (hValid : (s.due c.val).vopValid c.val cls a = true) {addr : Nat} (hAddr : addr = (s.due c.val).vopAddr c.val a.imm a.sreg.val)
    {bs : List Byte} (hBytes : bs = bytes ((s.vu (c.val * 4 + a.vu.val)).lanes a.parity a.va.val)) {t : State}
    (ht : t = Eff.on (vop c cls a (storeRun c a conflicts bytes flags)) s) :
    Advanced s t c.val 1 ∧ (t.vu (c.val * 4 + a.vu.val)).regs = (s.vu (c.val * 4 + a.vu.val)).regs ∧
      (conflicts = [] → t.spdRd c.val addr bs.length = bs) ∧
      ∀ i, (i < spdBase c.val + addr ∨ spdBase c.val + addr + bs.length ≤ i) → Mem.rd t.spd i = Mem.rd s.spd i := by
  subst ht
  obtain ⟨hEnd, hAdvanced⟩ := vop_issues h hRoom hValid (keeps_storeRun_place (conflicts := conflicts) (bytes := bytes) (flags := flags) c.val)
  obtain ⟨poison, u, hBefore, hSpd⟩ := storeRun_spd (c := c) (a := a) (conflicts := conflicts) (bytes := bytes) (flags := flags)
    (s := s.issued c cls a) (hAddr.trans (State.issued_vopAddr ..).symm) (hBytes.trans (by rw [State.issued_lanes]))
  rw [← (only_advance (List.Subset.refl _) c.val 1 none).frame_spd (by decide), ← hEnd] at hSpd
  refine ⟨hAdvanced, ?_, fun hNone => ?_, fun i hi => ?_⟩
  · rw [hEnd, (only_advance (List.Subset.refl _) _ _ _).vu (by decide), only_storeRun.vu (by decide), State.issued_vu]
    rfl
  · rw [State.spdRd, hSpd, hNone, List.map_nil]
    exact spdWrLost_run ..
  · rw [hSpd, spdWrLost_outside hi, hBefore, State.issued_spd]

end

/-- The packed run that a STORE makes of its lanes (R118, R221). -/
def storedBytes (a : VopArgs) (xs : List Nat) : List Byte :=
  packOver (fmtBits a.fmt) ((xs.map (storeLane a.fmt a.nonsat)).map (fun x => x.1)) (fun _ => 0)

/-- The packed run that a QUANT makes of its lanes, and the scale bytes after it (R104, R221). -/
def quantBytes (a : VopArgs) (xs : List Nat) : List Byte :=
  packOver (fmtBits a.fmt) ((blocks32 xs).flatMap (fun b => (mxQuant a.fmt (b.map f32)).2.1)) (fun _ => 0) ++
    (blocks32 xs).map (fun b => BitVec.ofNat 8 (mxQuant a.fmt (b.map f32)).1)

/-- VOP_STORE stores the run of its lanes. -/
theorem vopStore_runs (c : CoreId) (a : VopArgs) (conflicts : List (Nat × Nat)) : ∃ (code : Nat) (flags : VuSt → Flags),
    (a.opc = 0x49 → { a with opc := code } = a) ∧
    ∀ s, exec (.vopStore c a conflicts) s = .next (Eff.on (vop c 6 { a with opc := code } (storeRun c a conflicts (storedBytes a) flags)) s) := by
  refine ⟨if a.opc = 0x49 then 0x49 else 0, fun v => (((v.lanes a.parity a.va.val).map (storeLane a.fmt a.nonsat)).foldl (fun g x => g.or x.2)
    (v.flagsOf a.va.val)).or (Flags.poisonIf (!a.parity.isEmpty)), fun h => by rw [if_pos h, ← h], fun s => ?_⟩
  rfl

/-- VOP_QUANT stores the blocks of its lanes, quantised. -/
theorem vopQuant_runs (c : CoreId) (a : VopArgs) (conflicts : List (Nat × Nat)) : ∃ (code : Nat) (flags : VuSt → Flags),
    (a.opc = 0x4A → { a with opc := code } = a) ∧
    ∀ s, exec (.vopQuant c a conflicts) s = .next (Eff.on (vop c 6 { a with opc := code } (storeRun c a conflicts (quantBytes a) flags)) s) := by
  refine ⟨if a.opc = 0x4A then 0x4A else 0, fun v => ((((blocks32 (v.lanes a.parity a.va.val)).map (fun b => mxQuant a.fmt (b.map f32))).foldl
    (fun g q => g.or q.2.2) (v.flagsOf a.va.val)).or (Flags.poisonIf (!a.parity.isEmpty))), fun h => by rw [if_pos h, ← h], fun s => ?_⟩
  have hBytes : quantBytes a = fun xs => packOver (fmtBits a.fmt) (((blocks32 xs).map fun b => mxQuant a.fmt (b.map f32)).flatMap fun q => q.2.1)
      (fun _ => 0) ++ ((blocks32 xs).map fun b => mxQuant a.fmt (b.map f32)).map fun q => BitVec.ofNat 8 q.1 := by
    funext xs
    rw [List.flatMap_map, List.map_map]
    rfl
  rw [hBytes]
  rfl

end Sys2Proof.Machine
end

section
/-! The token sampler: the issue of a SAMPLE, its start and the token it chooses (R185 to R190, R201 to R205). -/
namespace Sys2Proof.Machine

/-! Issue (R186, R221). -/

/-- The bounds that a SAMPLE's operands and its record's address keep (R186, R221). -/
abbrev SampleInBounds (a : SampleArgs) (addr : Nat) : Prop :=
  1 ≤ a.vmaxBlocks ∧ a.vmaxBlocks ≤ 1024 ∧ 1 ≤ a.kmax ∧ a.kmax ≤ 4096 ∧ fits addr 64 (2 ^ 28) = true

/-- A SAMPLE as it waits in its unit: its operands, its record's address and the cycle of its issue (R186). -/
def sampleIssued (a : SampleArgs) (addr cycle : Nat) : SampleOp where
  recAddr := addr
  vmax := a.vmaxBlocks * 1024
  kmax := a.kmax
  vd := a.vd.val
  tag := a.tag.val
  issued := cycle
  start := 0
  valid := false
  poison := false
  record := []
  logits := []

/-- A SAMPLE goes to the end of those that wait in its unit. -/
def sampleWaits (k : Nat) (o : SampleOp) : Eff := onVu k fun v => { v with waiting := v.waiting ++ [o] }

/-- A SAMPLE's effect, by the room of its unit and its operands. -/
theorem vopSample_runs (c : CoreId) (a : SampleArgs) : ∃ body : Eff,
    (∀ s, exec (.vopSample c a) s = .next (Eff.on (seqStep c.val 1 none body) s)) ∧
    (∀ s, 8 ≤ (s.vu (c.val * 4 + a.vu.val)).queued (s.sc c.val) → Eff.on body s = Eff.on (issueOverflow c.val) s) ∧
    (∀ s, (s.vu (c.val * 4 + a.vu.val)).queued (s.sc c.val) < 8 → SampleInBounds a (s.vopAddr c.val a.imm a.sreg.val) →
      Eff.on body s = Eff.on (sampleWaits (c.val * 4 + a.vu.val) (sampleIssued a (s.vopAddr c.val a.imm a.sreg.val) (s.sc c.val))) s) ∧
    ∀ s, (s.vu (c.val * 4 + a.vu.val)).queued (s.sc c.val) < 8 → ¬ SampleInBounds a (s.vopAddr c.val a.imm a.sreg.val) →
      Eff.on body s = Eff.on (seq [fset F.VU_ERR_OP_INVALID (c.val * 4 + a.vu.val) 1,
        containCore c.val 0x0209 (72 + a.vu.val) [(1, 0x50)]]) s := by
  refine ⟨_, fun s => rfl, fun s hFull => ?_, fun s hRoom hIn => ?_, fun s hRoom hOut => ?_⟩
  · rw [on_rd]
    dsimp only
    rw [if_pos hFull]
  · rw [on_rd]
    dsimp only
    rw [if_neg (Nat.not_le.2 hRoom), if_pos hIn, sampleWaits]
    rfl
  · rw [on_rd]
    dsimp only
    rw [if_neg (Nat.not_le.2 hRoom), if_neg hOut]

section
variable {c : CoreId} {a : SampleArgs} {s : State}

/-- An issue to a full unit sets ISSUE_OVERFLOW, invalid operands OP_INVALID; a valid SAMPLE takes a cycle of the sequencer and waits. -/
theorem vopSample_spec {t : State} (ht : exec (.vopSample c a) s = .next t) (h : s.seqReady c.val = true) :
    (8 ≤ (s.vu (c.val * 4 + a.vu.val)).queued (s.sc c.val) → t.fget F.CORE_SEQ_ERR_ISSUE_OVERFLOW c.val = 1) ∧
    ((s.vu (c.val * 4 + a.vu.val)).queued (s.sc c.val) < 8 → SampleInBounds a ((s.due c.val).vopAddr c.val a.imm a.sreg.val) →
      Advanced s t c.val 1 ∧ (t.vu (c.val * 4 + a.vu.val)).waiting.length = (s.vu (c.val * 4 + a.vu.val)).waiting.length + 1) ∧
    ((s.vu (c.val * 4 + a.vu.val)).queued (s.sc c.val) < 8 → ¬ SampleInBounds a ((s.due c.val).vopAddr c.val a.imm a.sreg.val) →
      t.fget F.VU_ERR_OP_INVALID (c.val * 4 + a.vu.val) = 1) := by
  obtain ⟨body, hExec, hOverflow, hWaits, hInvalid⟩ := vopSample_runs c a
  obtain rfl := Host.Outcome.next.inj ((hExec s).symm.trans ht)
  have hQueued : ((s.due c.val).vu (c.val * 4 + a.vu.val)).queued ((s.due c.val).sc c.val) =
      (s.vu (c.val * 4 + a.vu.val)).queued (s.sc c.val) := by rw [State.due_vu, State.due_sc]
  refine ⟨fun hFull => ?_, fun hRoom hIn => ?_, fun hRoom hOut => ?_⟩
  · rw [seqStep_fget h (by decide), hOverflow _ (hQueued ▸ hFull), issueOverflow_sets]
  · have hOn := hWaits _ (hQueued ▸ hRoom) hIn
    have hPlace : (Eff.on body (s.due c.val)).place c.val = s.place c.val := by
      rw [hOn]
      exact ((only_onVu (ps := [.vus]) (by decide) _ _).keeps_place_off (by decide) _ _).trans (State.due_place ..)
    rw [seqStep_ends h hPlace]
    refine ⟨advance_advanced hPlace 1, ?_⟩
    rw [(only_advance (List.Subset.refl _) _ _ _).vu (by decide), hOn, sampleWaits, onVu_same, List.length_append,
      List.length_singleton, State.due_vu]
  · rw [seqStep_fget h (by decide), hInvalid _ (hQueued ▸ hRoom) hOut, opInvalid_sets]

end

/-! The start (R186, R190, R201). -/

/-- A SAMPLE begins on its unit: the others wait on, SAMPLING and its delay are noted, and a record that breaks the bounds is reported. -/
def sampleBegin (k : Nat) (rest : List SampleOp) (o : SampleOp) (free stall : Nat) (ok : Bool) (w : Who) : Eff :=
  seq [onVu k (fun v => { v with waiting := rest, sample := some o, sampleFree := free }), fset F.VU_STAT_SAMPLING k 1,
    fsat F.VU_SAMP_STALL_CYCLES k stall, when (!ok) (seq [fset F.VU_ERR_SAMP_PARAM k 1, raise 0x020C 1 w []])]

theorem sampleBegin_spec (k : Nat) (rest : List SampleOp) (o : SampleOp) (free stall : Nat) (ok : Bool) (w : Who) (s : State) {t : State}
    (ht : t = Eff.on (sampleBegin k rest o free stall ok w) s) :
    (t.vu k).waiting = rest ∧ (t.vu k).sample.isSome = true ∧ t.fget F.VU_STAT_SAMPLING k = 1 ∧
      (ok = false → t.fget F.VU_ERR_SAMP_PARAM k = 1 ∧ Raised s t 0x020C 1) := by
  subst ht
  have hReport (b : Bool) : Eff.Only [.ev, .fld .VU_ERR] (when b (seq [fset F.VU_ERR_SAMP_PARAM k 1, raise 0x020C 1 w []])) :=
    only_when fun _ => only_seq₂ (only_fset (by decide) _ _) (only_raise (by decide) _ _ _ _)
  have hStall : Eff.Only [.fld .VU_SAMP_STALL] (fsat F.VU_SAMP_STALL_CYCLES k stall) := only_fsat (by decide) _ _
  have hSampling : Eff.Only [.fld .VU_STAT] (fset F.VU_STAT_SAMPLING k 1) := only_fset (by decide) _ _
  have hUnit (f : VuSt → VuSt) : Eff.Only [.vus] (onVu k f) := only_onVu (by decide) _ _
  rw [sampleBegin, on_seq_cons, on_seq_cons, on_seq_pair]
  refine ⟨?_, ?_, ?_, fun hBad => ?_⟩
  · rw [(hReport _).vu (by decide), hStall.vu (by decide), hSampling.vu (by decide), onVu_same]
  · rw [(hReport _).vu (by decide), hStall.vu (by decide), hSampling.vu (by decide), onVu_same]
    rfl
  · rw [(hReport _).fget (by decide) (by decide) (by decide), hStall.fget (by decide) (by decide) (by decide), on_fset,
      Upd.fget_fld_same (by decide)]
    rfl
  · rw [hBad, Bool.not_false, on_when_true, on_seq_pair]
    refine ⟨?_, raised_raise _ _ _ _ ?_⟩
    · rw [on_raise, Upd.ev_fget, on_fset, Upd.fget_fld_same (by decide)]
      rfl
    · rw [on_fset, Upd.fld_ev, hStall.frame_ev (by decide), hSampling.frame_ev (by decide), (hUnit _).frame_ev (by decide)]

section
variable {c : CoreId} {vu : Fin 4} {s : State}

theorem sampleStart_idle (h : (s.vu (c.val * 4 + vu.val)).waiting = []) : exec (.sampleStart c vu) s = .next s := by
  rw [exec_sampleStart, execSampleStart, run_eq, on_rd]
  dsimp only
  rw [h, on_nop]

/-- The first SAMPLE that waits begins on a unit whose sampler is free, its record checked against its bounds. -/
theorem sampleStart_begins {o : SampleOp} {rest : List SampleOp} (hWaiting : (s.vu (c.val * 4 + vu.val)).waiting = o :: rest)
    (hRuns : s.scheduled c.val = true) (hFree : (s.vu (c.val * 4 + vu.val)).sample = none) :
    ∃ (o' : SampleOp) (free stall : Nat) (ok : Bool) (w : Who),
    exec (.sampleStart c vu) s = .next (Eff.on (sampleBegin (c.val * 4 + vu.val) rest o' free stall ok w) s) ∧
      (s.spdPoisoned c.val o.recAddr 64 = true ∨ recordValid o.vmax o.kmax (s.spdRd c.val o.recAddr 64) = false → ok = false) := by
  rw [exec_sampleStart, execSampleStart, run_eq, on_rd]
  dsimp only
  rw [hWaiting]
  dsimp only
  rw [hRuns, hFree, Option.isNone_none, Bool.and_self, on_when_true]
  refine ⟨_, _, _, _, _, rfl, fun hBad => ?_⟩
  cases hPoison : s.spdPoisoned c.val o.recAddr 64
  · rw [hPoison] at hBad
    have hRecord := hBad.resolve_left Bool.false_ne_true
    rw [if_neg Bool.false_ne_true, hRecord, Bool.and_false]
  · rfl

end

/-! The choice of a token (R188, R189, R202, R204, R205). -/

/-- What a SAMPLE that ends notes in its unit's registers. -/
def tokenNote (k token outcome : Nat) (poison : Bool) (position : Nat) : Eff :=
  seq [fset F.VU_STAT_SAMPLING k 0, fadd F.VU_SAMP_COUNT_COUNT k 1, fset F.VU_SAMP_LAST_TOKEN k token, fset F.VU_SAMP_LAST_OUTCOME k outcome,
    fput F.VU_SAMP_LAST_POISON k poison, fset F.VU_SAMP_LAST_POSITION k position]

theorem only_tokenNote (k token outcome : Nat) (poison : Bool) (position : Nat) :
    Eff.Only [.fld .VU_STAT, .fld .VU_SAMP_COUNT, .fld .VU_SAMP_LAST] (tokenNote k token outcome poison position) :=
  only_seq_cons (only_fset (by decide) _ _) <| only_seq_cons (only_fadd (by decide) _ _) <|
    only_seq₄ (only_fset (by decide) _ _) (only_fset (by decide) _ _) (only_fput (by decide) _ _) (only_fset (by decide) _ _)

theorem tokenNote_spec (k token : Nat) {outcome : Nat} (hOutcome : outcome < 4) (poison : Bool) (position : Nat) (s : State) {t : State}
    (ht : t = Eff.on (tokenNote k token outcome poison position) s) :
    t.fget F.VU_STAT_SAMPLING k = 0 ∧ t.fget F.VU_SAMP_COUNT_COUNT k = (s.fget F.VU_SAMP_COUNT_COUNT k + 1) % 2 ^ F.VU_SAMP_COUNT_COUNT.len ∧
      t.fget F.VU_SAMP_LAST_OUTCOME k = outcome ∧ t.fget F.VU_SAMP_LAST_TOKEN k = token % 2 ^ F.VU_SAMP_LAST_TOKEN.len ∧
      t.fget F.VU_SAMP_LAST_POISON k = b2n poison := by
  subst ht
  rw [tokenNote, on_seq_cons, on_seq_cons, on_seq_cons, on_seq_cons, on_seq_pair, on_fset, on_fput, on_fset, on_fset, on_fadd, on_fset]
  refine ⟨?_, ?_, ?_, ?_, ?_⟩
  · rw [Upd.fget_fld_other (by decide), Upd.fget_fld_other (by decide), Upd.fget_fld_other (by decide), Upd.fget_fld_other (by decide),
      Upd.fget_fld_other (by decide), Upd.fget_fld_same (by decide), Nat.zero_mod]
  · rw [Upd.fget_fld_other (by decide), Upd.fget_fld_other (by decide), Upd.fget_fld_other (by decide), Upd.fget_fld_other (by decide),
      Upd.fget_fld_same (by decide), Upd.fget_fld_other (by decide)]
  · rw [Upd.fget_fld_other (by decide), Upd.fget_fld_other (by decide), Upd.fget_fld_same (by decide)]
    exact Nat.mod_eq_of_lt hOutcome
  · rw [Upd.fget_fld_other (by decide), Upd.fget_fld_other (by decide), Upd.fget_fld_other (by decide), Upd.fget_fld_same (by decide)]
  · rw [Upd.fget_fld_other (by decide), Upd.fget_fld_same (by decide)]
    cases poison <;> rfl

/-- A SAMPLE that ends leaves its unit and writes VD, notes its token, and posts its record. -/
def tokenEnd (p vu : Nat) (o : SampleOp) (lanes : List Nat) (fl : Flags) (token outcome q : Nat) (record : List Byte) : Eff :=
  seq [seq [onVu (p * 4 + vu) (fun v => { v.setReg o.vd lanes fl with sample := none }), vopEnd p vu o.tag fl],
    tokenNote (p * 4 + vu) token outcome o.poison (leAt o.record 0x18 8), seq [samplePost p q record, vuBusy p]]

theorem tokenEnd_spec (p vu : Nat) (o : SampleOp) (lanes : List Nat) (fl : Flags) (token : Nat) {outcome : Nat} (hOutcome : outcome < 4) (q : Nat)
    (record : List Byte) (s : State) {t : State} (ht : t = Eff.on (tokenEnd p vu o lanes fl token outcome q record) s) :
    (t.vu (p * 4 + vu)).sample = none ∧ t.fget F.VU_STAT_SAMPLING (p * 4 + vu) = 0 ∧
      t.fget F.VU_SAMP_COUNT_COUNT (p * 4 + vu) = (s.fget F.VU_SAMP_COUNT_COUNT (p * 4 + vu) + 1) % 2 ^ F.VU_SAMP_COUNT_COUNT.len ∧
      t.fget F.VU_SAMP_LAST_OUTCOME (p * 4 + vu) = outcome ∧
      t.fget F.VU_SAMP_LAST_TOKEN (p * 4 + vu) = token % 2 ^ F.VU_SAMP_LAST_TOKEN.len ∧
      t.fget F.VU_SAMP_LAST_POISON (p * 4 + vu) = b2n o.poison := by
  have hPost := only_samplePost (List.Subset.refl _) p q record
  have hBusy : Eff.Only [.fld .VU_STAT] (vuBusy p) := only_vuBusy (List.Subset.refl _) p
  have hFirst : Eff.Only [.cores, .fld .VU_FLAGS, .vus]
      (seq [onVu (p * 4 + vu) (fun v => { v.setReg o.vd lanes fl with sample := none }), vopEnd p vu o.tag fl]) :=
    only_seq₂ (only_onVu (by decide) _ _) (only_vopEnd (by decide) _ _ _ _)
  have hAfter {f : Fld} (hReg : f.inReg = true) (hNotBusy : (f.inReg && (f.reg != .VU_STAT || f.lo != 0)) = true)
      (hNotPost : Part.fld f.reg ∉ [Part.cores, .ev, .fld .CORE_QSTAT, .fld .QUEUE_LEVEL, .fld .QUEUE_STAT, .fld .QUEUE_WM,
        .queues, .spd, .spdPoison])
      (u : State) (i : Nat) : (Eff.on (vuBusy p) (Eff.on (samplePost p q record) u)).fget f i = u.fget f i :=
    (vuBusy_fget hNotBusy p i _).trans (hPost.fget hReg (by decide) hNotPost u i)
  subst ht
  rw [tokenEnd, on_seq_cons, on_seq_pair, on_seq_pair]
  obtain ⟨hSampling, hCount, hOut, hToken, hPoison⟩ := tokenNote_spec (p * 4 + vu) token hOutcome o.poison (leAt o.record 0x18 8)
    (Eff.on (seq [onVu (p * 4 + vu) (fun v => { v.setReg o.vd lanes fl with sample := none }), vopEnd p vu o.tag fl]) s) rfl
  refine ⟨?_, ?_, ?_, ?_, ?_, ?_⟩
  · rw [hBusy.vu (by decide), hPost.vu (by decide), (only_tokenNote _ _ _ _ _).vu (by decide), on_seq_pair,
      (only_vopEnd (List.Subset.refl _) _ _ _ _).vu (by decide), onVu_same]
  · rw [hAfter (by decide) (by decide) (by decide), hSampling]
  · rw [hAfter (by decide) (by decide) (by decide), hCount, hFirst.fget (by decide) (by decide) (by decide)]
  · rw [hAfter (by decide) (by decide) (by decide), hOut]
  · rw [hAfter (by decide) (by decide) (by decide), hToken]
  · rw [hAfter (by decide) (by decide) (by decide), hPoison]

section
variable {c : CoreId} {vu : Fin 4} {s : State}

theorem tokenChosen_idle (h : (s.vu (c.val * 4 + vu.val)).sample = none) : exec (.tokenChosen c vu) s = .next s := by
  rw [exec_tokenChosen, execTokenChosen, run_eq, on_rd]
  dsimp only
  rw [h, on_nop]

/-- The token that a SAMPLE ends with, all ones where it chooses none (R188, R205). -/
def SampleOp.token (o : SampleOp) : Nat :=
  if o.valid = true then (chooseToken o.record o.logits).1.getD 0xFFFFFFFF else 0xFFFFFFFF
/-- The outcome that a SAMPLE ends with: 0 a token chosen, 1 no candidate, 2 an invalid record (R205). -/
def SampleOp.outcome (o : SampleOp) : Nat :=
  if o.valid = false then 2 else if (chooseToken o.record o.logits).1.isSome = true then 0 else 1

theorem SampleOp.outcome_lt (o : SampleOp) : o.outcome < 4 := by
  rw [SampleOp.outcome]
  split_ifs <;> decide

/-- The SAMPLE in progress ends with its token. -/
theorem tokenChosen_ends {o : SampleOp} (hSample : (s.vu (c.val * 4 + vu.val)).sample = some o) (hRuns : s.scheduled c.val = true) :
    ∃ (lanes : List Nat) (fl : Flags) (q : Nat) (record : List Byte),
      exec (.tokenChosen c vu) s = .next (Eff.on (tokenEnd c.val vu.val o lanes fl o.token o.outcome q record) s) := by
  rw [exec_tokenChosen, execTokenChosen, run_eq, on_rd]
  dsimp only
  rw [hSample]
  dsimp only
  rw [hRuns, on_when_true, SampleOp.token, SampleOp.outcome]
  simp only [tokenEnd, tokenNote, on_seq_cons, on_seq_nil]
  cases o.valid
  · exact ⟨_, _, _, _, rfl⟩
  · exact ⟨_, _, _, _, rfl⟩

end

end Sys2Proof.Machine

namespace Sys2Proof.Proofs
open Sys2Proof.Machine

/-- Settles O14: the memory operations run as `vopLoad_runs` and `vop_stores` say, and a SAMPLE is issued, begins and ends as
`vopSample_spec`, `sampleBegin_spec` and `tokenEnd_spec` say. -/
theorem vectorMemoryAndSamplerCommandsAct : Obligations.VectorMemoryAndSamplerCommandsAct := by
  unfold Obligations.VectorMemoryAndSamplerCommandsAct
  refine ⟨fun c a conflicts s => ?load, fun c a conflicts s => ?store, fun c a conflicts s => ?quant, fun c a s => ?sample,
    fun c vu s => ?start, fun c vu s => ?chosen⟩
  case load =>
    obtain ⟨code, body, hCode, hActs, hExec, hLoads⟩ := vopLoad_runs c a conflicts
    refine ⟨_, hExec s, frame_execVopLoad c a conflicts s (hExec s), fun v hv hReady hRoom hIs hValid => ?_,
      vop_overflow (a := { a with opc := code }), fun hIs hReady hRoom hInvalid =>
        vop_invalid (a := { a with opc := code }) hReady hRoom ((hCode hIs).symm ▸ hInvalid), vop_waits⟩
    subst hv
    rw [hCode hIs]
    obtain ⟨hAdvanced, hOthers⟩ := vop_keeps hReady hRoom hValid hActs
    refine ⟨hAdvanced, hOthers, fun A hA => ?_⟩
    subst hA
    have hLoaded := hLoads (s.issued c 6 a)
    rw [State.issued_spdStore, State.issued_vopAddr] at hLoaded
    have hUnit := (only_vuConflicts c a conflicts).vu (by decide) (s.issued c 6 a) (c.val * 4 + a.vu.val)
    have hLanes := vop_lanes_after hReady hRoom hValid hActs hLoaded hUnit rfl (length_loadedLanes ..)
    rwa [loadedLanes] at hLanes
  case store =>
    obtain ⟨code, flags, hCode, hExec⟩ := vopStore_runs c a conflicts
    refine ⟨_, hExec s, frame_execVopStore c a conflicts s (hExec s), fun v hv hReady hRoom hIs hValid A hA bs hBytes => ?_,
      vop_overflow (a := { a with opc := code }), fun hIs hReady hRoom hInvalid =>
        vop_invalid (a := { a with opc := code }) hReady hRoom ((hCode hIs).symm ▸ hInvalid), vop_waits⟩
    subst hv
    rw [hCode hIs]
    exact vop_stores (bytes := storedBytes a) hReady hRoom hValid hA hBytes rfl
  case quant =>
    obtain ⟨code, flags, hCode, hExec⟩ := vopQuant_runs c a conflicts
    refine ⟨_, hExec s, frame_execVopQuant c a conflicts s (hExec s), fun v hv hReady hRoom hIs hValid A hA bs hBytes => ?_,
      vop_overflow (a := { a with opc := code }), fun hIs hReady hRoom hInvalid =>
        vop_invalid (a := { a with opc := code }) hReady hRoom ((hCode hIs).symm ▸ hInvalid), vop_waits⟩
    subst hv
    rw [hCode hIs]
    exact vop_stores (bytes := quantBytes a) hReady hRoom hValid hA hBytes rfl
  case sample =>
    obtain ⟨body, hExec, -⟩ := vopSample_runs c a
    refine ⟨_, hExec s, frame_execVopSample c a s (hExec s), fun v A hv hA hReady => ?_, fun hWaits => seqStep_waits hWaits ..⟩
    subst hv hA
    obtain ⟨hOverflow, hValid, hInvalid⟩ := vopSample_spec (hExec s) hReady
    refine ⟨hOverflow, fun hRoom hV hV' hK hK' hFits => hValid hRoom ⟨hV, hV', hK, hK', hFits⟩, fun hRoom hOut => hInvalid hRoom ?_⟩
    rintro ⟨hV, hV', hK, hK', hFits⟩
    rcases hOut with h | h | h | h | h
    · omega
    · omega
    · omega
    · omega
    · exact Bool.false_ne_true (h.symm.trans hFits)
  case start =>
    obtain ⟨t, ht⟩ : ∃ t, exec (.sampleStart c vu) s = .next t := ⟨_, rfl⟩
    refine ⟨t, ht, frame_execSampleStart c vu s ht, fun hNone => Host.Outcome.next.inj (ht.symm.trans (sampleStart_idle hNone)),
      fun o rest hWaiting hRuns hFree => ?_⟩
    obtain ⟨o', free, stall, ok, w, hExec, hBad⟩ := sampleStart_begins hWaiting hRuns hFree
    obtain ⟨hRest, hSample, hSampling, hParam⟩ := sampleBegin_spec _ rest o' free stall ok w s (Host.Outcome.next.inj (ht.symm.trans hExec))
    exact ⟨hRest, hSample, hSampling, fun h => hParam (hBad h)⟩
  case chosen =>
    obtain ⟨t, ht⟩ : ∃ t, exec (.tokenChosen c vu) s = .next t := ⟨_, rfl⟩
    refine ⟨t, ht, frame_execTokenChosen c vu s ht, fun hNone => Host.Outcome.next.inj (ht.symm.trans (tokenChosen_idle hNone)),
      fun o hSample hRuns => ?_⟩
    obtain ⟨lanes, fl, q, record, hExec⟩ := tokenChosen_ends hSample hRuns
    exact tokenEnd_spec _ _ o lanes fl o.token o.outcome_lt q record s (Host.Outcome.next.inj (ht.symm.trans hExec))

end Sys2Proof.Proofs
end

section
/-! Scalar registers (R209) and the instructions of a core that write one (R207 to R210). -/
namespace Sys2Proof.Machine

/-! A scalar register written, and every other one. -/

theorem State.scalar_zero (s : State) (p : Nat) : s.scalar p 0 = 0 := rfl

theorem setScalar_zero (p v : Nat) (s : State) : Eff.on (setScalar p 0 v) s = s := rfl

/-- Scalar registers are read from the core's unit alone. -/
theorem State.scalar_congr {s t : State} {p : Nat} (h : (t.core p).scalars = (s.core p).scalars) (r : Nat) : t.scalar p r = s.scalar p r := by
  simp only [State.scalar, h]

theorem scalar_setScalar {r : Nat} (h : r ≠ 0) (p v q n : Nat) (s : State) :
    (Eff.on (setScalar p r v) s).scalar q n = if q = p ∧ n = r then v % 2 ^ 64 else s.scalar q n := by
  rw [setScalar, if_neg h]
  by_cases hq : q = p
  · subst hq
    by_cases hn : n = r
    · subst hn
      rw [if_pos ⟨rfl, rfl⟩, State.scalar, if_neg h, onCore_same, NMap.get_put_same]
    · rw [if_neg fun k => hn k.2, State.scalar, State.scalar, onCore_same, NMap.get_put_ne _ _ _ _ (Ne.symm hn)]
  · rw [if_neg fun k => hq k.1]
    exact State.scalar_congr (congrArg CoreSt.scalars (onCore_ne _ s (Ne.symm hq))) n

/-- A register that takes a value holds it modulo 2^64, s0 aside, and the core's other registers keep theirs (R209). -/
theorem setScalar_spec (p d v : Nat) (s : State) : SetScalar s (Eff.on (setScalar p d v) s) p d v := by
  by_cases hd : d = 0
  · subst hd
    exact ⟨rfl, fun _ _ => rfl⟩
  · refine ⟨?_, fun r hr => ?_⟩
    · rw [scalar_setScalar hd, if_pos ⟨rfl, rfl⟩, if_neg hd]
    · rw [scalar_setScalar hd, if_neg fun k => hr k.2]

/-! What an instruction of one core leaves alone in the others. -/

/-- What of a core its own instructions change: its unit, its SC and its PC. -/
def State.seat (s : State) (q : Nat) : CoreSt × Nat × Nat := (s.core q, s.sc q, s.fget F.CORE_SEQ_PC q)

theorem apart_iff {s t : State} {p : Nat} : Apart s t p ↔ ∀ q, q ≠ p → t.seat q = s.seat q := by
  simp only [Apart, State.seat, Prod.mk.injEq]

/-- An effect that writes no core's unit and no SC or PC keeps each core's seat. -/
theorem Eff.Only.keeps_seat {ps : List Part} {e : Eff} (h : e.Only ps)
    (hp : Part.flds ∉ ps ∧ Part.cores ∉ ps ∧ Part.fld .CORE_SC ∉ ps ∧ Part.fld .CORE_SEQ ∉ ps) (q : Nat) :
    e.Keeps fun s => s.seat q := by
  obtain ⟨hFlds, hCores, hSc, hSeq⟩ := hp
  intro s
  simp only [State.seat, State.sc]
  rw [h.core hCores, h.fget (by decide) hFlds hSc, h.fget (by decide) hFlds hSeq]

theorem keeps_onCore_seat {p q : Nat} (h : q ≠ p) (f : CoreSt → CoreSt) : (onCore p f).Keeps fun s => s.seat q := by
  have hCore : Eff.Only [.cores] (onCore p f) := only_onCore (List.mem_singleton_self _) p f
  intro s
  simp only [State.seat, State.sc]
  rw [onCore_ne _ _ (Ne.symm h), hCore.fget (by decide) (by decide) (by decide), hCore.fget (by decide) (by decide) (by decide)]

/-- A register field of one core moves no other core's SC or PC. -/
theorem keeps_fset_seat {p q : Nat} (h : q ≠ p) {f : Fld} (hf : f ∈ [F.CORE_SC_SC, F.CORE_SEQ_PC, F.CORE_SEQ_SWITCH_POINT]) (v : State → Nat) :
    Eff.Keeps (fun s => s.seat q) (rd fun s => fset f p (v s)) := by
  intro s
  simp only [List.mem_cons, List.not_mem_nil, or_false] at hf
  rw [on_rd, on_fset]
  simp only [State.seat, State.sc, State.core, Upd.fld_cores]
  rcases hf with rfl | rfl | rfl
  · rw [Upd.fget_fld_at (by decide) (Ne.symm h), Upd.fget_fld_other (by decide)]
  · rw [Upd.fget_fld_at (by decide) (Ne.symm h), Upd.fget_fld_other (by decide)]
  · rw [Upd.fget_fld_other (by decide), Upd.fget_fld_other (by decide)]

theorem keeps_setScalar_seat {p q : Nat} (h : q ≠ p) (r v : Nat) : (setScalar p r v).Keeps fun s => s.seat q := by
  rw [setScalar]
  split
  · exact fun _ => rfl
  · exact keeps_onCore_seat h _

theorem keeps_settle_seat {p q : Nat} (h : q ≠ p) : (settle p).Keeps fun s => s.seat q :=
  keeps_rd fun _ => keeps_when (keeps_seq₂ (keeps_onCore_seat h _) (keeps_each fun _ => keeps_setScalar_seat h _ _))

theorem keeps_advance_seat {p q : Nat} (h : q ≠ p) (n : Nat) (target : Option Nat) : (advance p n target).Keeps fun s => s.seat q := by
  have hPc (pc : Nat) : (setPc p pc).Keeps fun s => s.seat q := by
    refine keeps_rd fun s => keeps_seq₂ (keeps_fset_seat h (by decide) fun _ => pc) ?_
    split
    · exact keeps_fset_seat h (by decide) fun _ => _
    · exact fun _ => rfl
  exact keeps_rd fun s => keeps_seq_cons (keeps_fset_seat h (by decide) fun s => s.fget F.CORE_SC_SC p + n) <|
    keeps_seq_cons (keeps_onCore_seat h _) <| keeps_seq₂ (hPc _) ((only_vuBusy (List.Subset.refl _) p).keeps_seat (by decide) q)

/-- A core that moves on keeps what of its unit its loops have no part in. -/
theorem core_advance {α : Type} {g : CoreSt → α} (hg : ∀ c loops, g { c with loops } = g c) (p n : Nat) (tgt : Option Nat) (s : State) :
    g ((Eff.on (advance p n tgt) s).core p) = g (s.core p) := by
  rw [advance, on_rd, on_seq_cons, on_seq_cons, on_seq_pair, (only_vuBusy (List.Subset.refl _) p).core (by decide),
    (only_setPc (List.Subset.refl _) p _).core (by decide), onCore_same, hg, on_fadd]
  simp only [State.core, Upd.fld_cores]

/-! Instructions. -/

/-- The effect of an instruction of a core: the core stays at its place until the instruction ends, and the other cores are left alone. -/
structure Eff.OfCore (p : Nat) (e : Eff) : Prop where
  place : e.Keeps fun s => s.place p
  others : ∀ q, q ≠ p → e.Keeps fun s => s.seat q

section
variable {p : Nat}

theorem ofCore_rd {k : State → Eff} (h : ∀ s, (k s).OfCore p) : (rd k).OfCore p :=
  ⟨keeps_rd fun s => (h s).place, fun q hq => keeps_rd fun s => (h s).others q hq⟩

theorem ofCore_seq₂ {a b : Eff} (ha : a.OfCore p) (hb : b.OfCore p) : (seq [a, b]).OfCore p :=
  ⟨keeps_seq₂ ha.place hb.place, fun q hq => keeps_seq₂ (ha.others q hq) (hb.others q hq)⟩

theorem ofCore_ite {c : Prop} [Decidable c] {a b : Eff} (ha : a.OfCore p) (hb : b.OfCore p) : (if c then a else b).OfCore p := by
  split <;> assumption

/-- An effect on what is no core's is an effect that any core's instruction may have. -/
theorem Eff.Only.ofCore {ps : List Part} {e : Eff} (h : e.Only ps)
    (hp : Part.flds ∉ ps ∧ Part.fld .CORE_STAT ∉ ps ∧ Part.fld .CORE_SC ∉ ps ∧ Part.fld .CORE_SEQ ∉ ps ∧ Part.cores ∉ ps)
    (p : Nat) : e.OfCore p := by
  obtain ⟨hFlds, hStat, hSc, hSeq, hCores⟩ := hp
  exact ⟨h.keeps_place_off ⟨hFlds, hStat, hSc, hSeq, hCores⟩ p, fun q _ => h.keeps_seat ⟨hFlds, hCores, hSc, hSeq⟩ q⟩

/-- A change of the core's unit that keeps its loops. -/
theorem ofCore_onCore {f : CoreSt → CoreSt} (h : ∀ c, (f c).loops = c.loops) : (onCore p f).OfCore p :=
  ⟨(only_onCore (List.mem_singleton_self _) p f).keeps_place (by decide) (keeps_onCore (g := CoreSt.loops) h p p),
    fun _ hq => keeps_onCore_seat hq f⟩

theorem ofCore_setScalar (r v : Nat) : (setScalar p r v).OfCore p := by
  rw [setScalar]
  split
  · exact ⟨fun _ => rfl, fun _ _ _ => rfl⟩
  · exact ofCore_onCore fun _ => rfl

theorem ofCore_draw {k : Nat → Eff} (h : ∀ v, (k v).OfCore p) : (draw k).OfCore p :=
  ofCore_rd fun s => ofCore_seq₂ ((only_upd (ps := [.freeCtr]) (us := [.freeCtr (s.freeCtr + 1)]) (by simp [Upd.part])).ofCore (by decide) p) (h _)

/-- An instruction that can execute ends with its core moved on and the others left alone (R207, R210). -/
theorem Eff.OfCore.advances {body : Eff} (hBody : body.OfCore p) {s : State} (h : s.seqReady p = true) (n : Nat) :
    Advanced s (Eff.on (seqStep p n none body) s) p n ∧ Apart s (Eff.on (seqStep p n none body) s) p := by
  have hPlace : (Eff.on body (s.due p)).place p = s.place p := (hBody.place _).trans (s.due_place p p)
  rw [seqStep_ends h hPlace]
  refine ⟨advance_advanced hPlace n, apart_iff.2 fun q hq => ?_⟩
  exact (keeps_advance_seat hq n none _).trans ((hBody.others q hq _).trans (keeps_settle_seat hq s))

/-- An instruction that can execute ends with the units of the core and its scalars as its effect left them, its loops aside. -/
theorem Eff.OfCore.core_after {body : Eff} (hBody : body.OfCore p) {s : State} (h : s.seqReady p = true) (n : Nat) {α : Type} {g : CoreSt → α}
    (hg : ∀ c loops, g { c with loops } = g c) :
    g ((Eff.on (seqStep p n none body) s).core p) = g ((Eff.on body (s.due p)).core p) := by
  rw [seqStep_ends h ((hBody.place _).trans (s.due_place p p)), core_advance hg]

end

/-- An instruction whose effect sets a scalar register ends with that register set and the core's others as they were once results due were
written. -/
theorem seqStep_setScalar {p d v : Nat} {body : Eff} (hBody : body.OfCore p) {s u : State} (h : s.seqReady p = true)
    (hSet : Eff.on body (s.due p) = Eff.on (setScalar p d v) u) (hu : u.core p = (s.due p).core p) :
    SetScalar (s.due p) (Eff.on (seqStep p 1 none body) s) p d v := by
  have hScalar (r : Nat) : (Eff.on (seqStep p 1 none body) s).scalar p r = (Eff.on (setScalar p d v) u).scalar p r := by
    rw [← hSet]
    exact State.scalar_congr (hBody.core_after (g := CoreSt.scalars) h 1 fun _ _ => rfl) r
  obtain ⟨hReg, hOthers⟩ := setScalar_spec p d v u
  refine ⟨(hScalar d).trans hReg, fun r hr => ?_⟩
  rw [hScalar, hOthers r hr]
  exact State.scalar_congr (congrArg CoreSt.scalars hu) r

/-- One cycle in which a register takes a value read off the state in which the results due are written. -/
theorem scalarStep_spec (p d : Nat) (val : State → Nat) (s : State) {t : State}
    (ht : t = Eff.on (seqStep p 1 none (rd fun s => setScalar p d (val s))) s) :
    (s.seqReady p = true → Advanced s t p 1 ∧ Apart s t p ∧ SetScalar (s.due p) t p d (val (s.due p))) ∧
    (s.seqReady p = false → t = s) := by
  subst ht
  have hBody : (rd fun s => setScalar p d (val s)).OfCore p := ofCore_rd fun _ => ofCore_setScalar _ _
  refine ⟨fun h => ?_, fun h => seqStep_waits h _ _ _⟩
  obtain ⟨hAdvanced, hApart⟩ := hBody.advances h 1
  exact ⟨hAdvanced, hApart, seqStep_setScalar hBody h rfl rfl⟩

/-- A shift by less than 64 sets its register to its result, and one by more to some value (log entry 3). -/
theorem aluShift_spec (c : CoreId) (d ra rb : Fin 32) (f : Nat → Nat → Nat) (s : State) {t : State} (ht : t = Eff.on (aluShift c d ra rb f) s) :
    (s.seqReady c.val = true → Advanced s t c.val 1 ∧ Apart s t c.val ∧
      ((s.due c.val).scalar c.val rb.val < 64 →
        SetScalar (s.due c.val) t c.val d.val (f ((s.due c.val).scalar c.val ra.val) ((s.due c.val).scalar c.val rb.val))) ∧
      ∃ v, SetScalar (s.due c.val) t c.val d.val v) ∧
    (s.seqReady c.val = false → t = s) := by
  subst ht
  have hBody := ofCore_rd (p := c.val) fun s : State => ofCore_ite (c := s.scalar c.val rb.val < 64)
    (ofCore_setScalar d.val (f (s.scalar c.val ra.val) (s.scalar c.val rb.val))) (ofCore_draw fun v => ofCore_setScalar d.val v)
  refine ⟨fun h => ?_, fun h => seqStep_waits h _ _ _⟩
  obtain ⟨hAdvanced, hApart⟩ := hBody.advances h 1
  have hShort (hLt : (s.due c.val).scalar c.val rb.val < 64) : SetScalar (s.due c.val) (Eff.on (aluShift c d ra rb f) s) c.val d.val
      (f ((s.due c.val).scalar c.val ra.val) ((s.due c.val).scalar c.val rb.val)) :=
    seqStep_setScalar hBody h (by rw [on_rd, if_pos hLt]) rfl
  refine ⟨hAdvanced, hApart, hShort, ?_⟩
  by_cases hLt : (s.due c.val).scalar c.val rb.val < 64
  · exact ⟨_, hShort hLt⟩
  · exact ⟨_, seqStep_setScalar (u := (Upd.freeCtr ((s.due c.val).freeCtr + 1)).apply (s.due c.val)) hBody h
      (by rw [on_rd, if_neg hLt, on_draw]) rfl⟩

end Sys2Proof.Machine

namespace Sys2Proof.Proofs
open Sys2Proof.Machine

/-- Settles O9: each command is one cycle that sets its register, to what `scalarStep_spec` and `aluShift_spec` say. -/
theorem scalarCommandsCompute : Obligations.ScalarCommandsCompute := by
  refine ⟨fun c d ra rb s => ?add, fun c d ra rb s => ?sub, fun c d ra rb s => ?and, fun c d ra rb s => ?or, fun c d ra rb s => ?xor,
    fun c d ra rb s => ?shl, fun c d ra rb s => ?shr, fun c d imm s => ?li, fun c d ra imm s => ?addi, fun c d s => ?readSc⟩
  case add => exact ⟨_, rfl, frame_execAluAdd c d ra rb s rfl,
    scalarStep_spec c.val d.val (fun s => s.scalar c.val ra.val + s.scalar c.val rb.val) s rfl⟩
  case sub => exact ⟨_, rfl, frame_execAluSub c d ra rb s rfl,
    scalarStep_spec c.val d.val (fun s => s.scalar c.val ra.val + 2 ^ 64 - s.scalar c.val rb.val) s rfl⟩
  case and => exact ⟨_, rfl, frame_execAluAnd c d ra rb s rfl,
    scalarStep_spec c.val d.val (fun s => s.scalar c.val ra.val &&& s.scalar c.val rb.val) s rfl⟩
  case or => exact ⟨_, rfl, frame_execAluOr c d ra rb s rfl,
    scalarStep_spec c.val d.val (fun s => s.scalar c.val ra.val ||| s.scalar c.val rb.val) s rfl⟩
  case xor => exact ⟨_, rfl, frame_execAluXor c d ra rb s rfl,
    scalarStep_spec c.val d.val (fun s => s.scalar c.val ra.val ^^^ s.scalar c.val rb.val) s rfl⟩
  case shl => exact ⟨_, rfl, frame_execAluShl c d ra rb s rfl, aluShift_spec c d ra rb (fun a n => a * 2 ^ n) s rfl⟩
  case shr => exact ⟨_, rfl, frame_execAluShr c d ra rb s rfl, aluShift_spec c d ra rb (fun a n => a / 2 ^ n) s rfl⟩
  case li => exact ⟨_, rfl, frame_execAluLi c d imm s rfl, scalarStep_spec c.val d.val (fun _ => imm.toNat) s rfl⟩
  case addi => exact ⟨_, rfl, frame_execAluAddi c d ra imm s rfl, scalarStep_spec c.val d.val (fun s => s.scalar c.val ra.val + imm.toNat) s rfl⟩
  case readSc =>
    have hStep := scalarStep_spec c.val d.val (fun s => s.sc c.val) s rfl
    rw [State.due_sc] at hStep
    exact ⟨_, rfl, frame_execAluReadSc c d s rfl, hStep⟩

end Sys2Proof.Proofs
end

section
/-! Mailbox commands as they end, and the reset of a core and of a flask (R154, R192, R209, R222, R475, R477). -/
namespace Sys2Proof.Machine

/-! Mailbox commands (R472, R475, R477). -/

section
variable {k cmd : Nat} {e : List Byte → Eff} {s : State}

theorem mbCommand_runs (h : s.mbRuns k cmd = true) : Eff.on (mbCommand k cmd e) s = Eff.on (e (s.slot k).args) s := by
  rw [mbCommand, on_rd, h, on_when_true]

theorem mbCommand_idle (h : s.mbRuns k cmd = false) : Eff.on (mbCommand k cmd e) s = s := by
  rw [mbCommand, on_rd, h, on_when_false]

end

/-- What the end of a command writes: slots, the mailbox summary and what goes to the host. -/
def mbParts : List Part := [.fld .MOD_MB_SUMMARY, .hostOut, .hports, .slots]

theorem only_mbFail_parts (k status : Nat) : Eff.Only mbParts (mbFail k status) := only_mbFail (List.Subset.refl _) k status
theorem only_mbDone_parts (k inline_ : Nat) : Eff.Only mbParts (mbDone k inline_) := only_mbDone (List.Subset.refl _) k inline_

theorem slotFailed_mbFail (k status : Nat) (s : State) : SlotFailed (Eff.on (mbFail k status) s) k status := by
  rw [SlotFailed, slot_mbFail]
  exact ⟨rfl, rfl⟩

/-- A command that fails has its status in its slot and leaves the flasks as they were. -/
theorem mbFail_spec (k status : Nat) (s : State) :
    SlotFailed (Eff.on (mbFail k status) s) k status ∧ (Eff.on (mbFail k status) s).flasks = s.flasks :=
  ⟨slotFailed_mbFail k status s, (only_mbFail_parts k status).frame_flasks (by decide) s⟩

theorem slotDone_mbDone (k inline_ : Nat) (s : State) : SlotDone (Eff.on (mbDone k inline_) s) k inline_ := by
  rw [SlotDone, mbDone, slot_mbEnd]
  exact ⟨rfl, rfl⟩

/-- A command that ends with result bytes has them in its payload from offset 0 (R479). -/
theorem slot_mbDoneWith (k : Nat) (bs : List Byte) (s : State) : SlotDone (Eff.on (mbDoneWith k bs) s) k 0 ∧
    ((Eff.on (mbDoneWith k bs) s).slot k).payload = Mem.wrN [] 0 bs ∧ ((Eff.on (mbDoneWith k bs) s).slot k).resultLen = bs.length := by
  rw [mbDoneWith, on_seq_pair]
  refine ⟨slotDone_mbDone .., ?_⟩
  rw [mbDone, slot_mbEnd, mbResult, onSlot_same]
  exact ⟨rfl, rfl⟩

/-! One effect of a list that brings a condition about, which the others keep. -/

theorem on_each_keeps_prop {α : Type} {P : State → Prop} {f : α → Eff} (h : ∀ b s, P s → P (Eff.on (f b) s)) (l : List α) {s : State}
    (hs : P s) : P (Eff.on (each l f) s) := by
  induction l generalizing s with
  | nil => exact hs
  | cons b l ih =>
    rw [on_each_cons]
    exact ih (h b s hs)

theorem on_each_reaches {α : Type} {P : State → Prop} {l : List α} {f : α → Eff} {a : α} (ha : a ∈ l) (hMakes : ∀ s, P (Eff.on (f a) s))
    (hKeeps : ∀ b s, P s → P (Eff.on (f b) s)) (s : State) : P (Eff.on (each l f) s) := by
  induction l generalizing s with
  | nil => cases ha
  | cons b l ih =>
    rw [on_each_cons]
    rcases List.mem_cons.1 ha with rfl | ha
    · exact on_each_keeps_prop hKeeps l (hMakes s)
    · exact ih ha _

/-! The reset of a core (R154, R192, R222). -/

/-- A core's unit and its state. -/
def State.coreAt (s : State) (p : Nat) : CoreSt × Nat := (s.core p, s.coreState p)

theorem Eff.Only.keeps_coreAt {ps : List Part} {e : Eff} (h : e.Only ps)
    (hp : Part.flds ∉ ps ∧ Part.cores ∉ ps ∧ Part.fld .CORE_STAT ∉ ps) (p : Nat) : e.Keeps fun s => s.coreAt p := by
  obtain ⟨hFlds, hCores, hStat⟩ := hp
  intro s
  simp only [State.coreAt, State.coreState]
  rw [h.core hCores, h.fget (by decide) hFlds hStat]

/-- A core's unit as its reset leaves it: what its owner and its scratchpad have there stays. -/
def CoreSt.stopped (c : CoreSt) : CoreSt :=
  { c with scalars := [], loops := [], qopDue := [], wait := none, halted := false, sprOut := [], sprArr := [], arrive := [] }

/-- The reset of a core in order: its units stop, its Mould's marks go, its queues are emptied and its state is RESET. -/
theorem on_coreReset (p : Nat) (s : State) : ∃ e : Eff,
    e.Only [.fld .QUEUE_BASE, .fld .QUEUE_CTL, .fld .QUEUE_DB, .fld .QUEUE_LEVEL, .fld .QUEUE_STAT, .fld .QUEUE_WM, .queues] ∧
    Eff.on (coreReset p) s = (Upd.fld F.CORE_STAT_STATE p 5).apply (Eff.on e (Eff.on (coreUnload p) (Eff.on (coreStop p) s))) := by
  rw [coreReset, on_rd, on_seq_cons, on_seq_cons, on_seq_pair, on_fset]
  refine ⟨_, ?_, rfl⟩
  split
  · exact only_queuesZero (List.Subset.refl _) _
  · exact only_nop _

theorem core_coreReset (p q : Nat) (s : State) :
    (Eff.on (coreReset p) s).core q = if q = p then (s.core p).stopped else s.core q := by
  have hStop : (Eff.on (coreStop p) s).core q =
      if q = p then { s.core p with scalars := [], loops := [], qopDue := [], wait := none, halted := false, sprOut := [], sprArr := [] }
      else s.core q := core_cores p q _ _
  have hUnload (s : State) : (Eff.on (coreUnload p) s).core q = if q = p then { s.core p with arrive := [] } else s.core q :=
    (congrArg (NMap.get _ · q) (Upd.fld_cores ..)).trans (core_cores p q _ s)
  obtain ⟨e, he, hReset⟩ := on_coreReset p s
  rw [hReset, State.core, Upd.fld_cores, ← State.core, he.core (by decide), hUnload]
  by_cases h : q = p
  · subst h
    rw [if_pos rfl, if_pos rfl, hStop, if_pos rfl]
    rfl
  · rw [if_neg h, if_neg h, hStop, if_neg h]

theorem coreState_coreReset_same (p : Nat) (s : State) : (Eff.on (coreReset p) s).coreState p = 5 := by
  obtain ⟨e, -, hReset⟩ := on_coreReset p s
  rw [hReset]
  exact Upd.fget_fld_same (by decide) p 5 _

theorem coreState_coreReset_ne {p q : Nat} (h : q ≠ p) (s : State) : (Eff.on (coreReset p) s).coreState q = s.coreState q := by
  have hUnload (s : State) : (Eff.on (coreUnload p) s).fget F.CORE_STAT_STATE q = s.fget F.CORE_STAT_STATE q :=
    (Upd.fget_fld_other (by decide) _ _ _ _).trans (Upd.fget_fldsDrop (by decide) _ _ _ _ _ (by decide))
  obtain ⟨e, he, hReset⟩ := on_coreReset p s
  rw [hReset, State.coreState, Upd.fget_fld_at (by decide) (Ne.symm h), he.fget (by decide) (by decide) (by decide), hUnload]
  exact (only_coreStop (List.Subset.refl _) p).fget (by decide) (by decide) (by decide) s q

/-- A core that is reset is in RESET with its unit stopped, and every other core is as it was. -/
theorem coreAt_coreReset_ne {p q : Nat} (h : q ≠ p) : (coreReset p).Keeps fun s => s.coreAt q := fun s => by
  simp only [State.coreAt]
  rw [core_coreReset, if_neg h, coreState_coreReset_ne h]

/-- A core in RESET with no loop under way and its scalar registers empty (R209, R213). -/
def State.coreIsReset (s : State) (p : Nat) : Prop := s.coreState p = 5 ∧ (s.core p).loops = [] ∧ (s.core p).scalars = []

theorem coreIsReset_congr {s t : State} {p : Nat} (h : t.coreAt p = s.coreAt p) (hs : s.coreIsReset p) : t.coreIsReset p := by
  obtain ⟨hCore, hState⟩ := Prod.mk.inj h
  rwa [State.coreIsReset, hCore, hState]

theorem coreIsReset_coreReset (p : Nat) (s : State) : (Eff.on (coreReset p) s).coreIsReset p := by
  refine ⟨coreState_coreReset_same p s, ?_, ?_⟩
  all_goals
    rw [core_coreReset, if_pos rfl]
    rfl

/-- Every core of a list that is reset core by core ends reset. -/
theorem coreIsReset_each {p : Nat} {l : List Nat} (h : p ∈ l) (s : State) : (Eff.on (each l coreReset) s).coreIsReset p := by
  refine on_each_reaches (P := fun s => s.coreIsReset p) h (coreIsReset_coreReset p) (fun q s hs => ?_) s
  by_cases hq : p = q
  · exact hq ▸ coreIsReset_coreReset p s
  · exact coreIsReset_congr (coreAt_coreReset_ne hq s) hs

/-! The reset of a flask (R222, R606). -/

/-- A flask that is reset keeps its cores, region and owner, and its Moulds and what was armed on it end. -/
theorem flask_flaskReset (f : Nat) (s : State) : (Eff.on (flaskReset f) s).flask f = (s.flask f).unload := by
  have hCores (l : List Nat) : Eff.Only [.cores, .fld .CORE_MOULD, .fld .CORE_SC, .fld .CORE_SEQ, .fld .CORE_STAT, .fld .ME_STAT,
      .fld .QUEUE_BASE, .fld .QUEUE_CTL, .fld .QUEUE_DB, .fld .QUEUE_LEVEL, .fld .QUEUE_STAT, .fld .QUEUE_WM, .fld .SE_STAT, .fld .SPR_STAT,
      .fld .VU_STAT, .mes, .queues, .ses, .vus] (each l coreReset) := only_each fun p _ => only_coreReset (List.Subset.refl _) p
  rw [flaskReset, on_rd, on_seq_cons, on_seq_cons, on_seq_cons, on_seq_cons, on_seq_pair,
    (only_failFlaskSlots (List.Subset.refl _) _ _ _).flask (by decide), onFlask_same, (only_holdEnd (List.Subset.refl _) f).flask (by decide),
    (hCores _).flask (by decide), (only_compatEnd (List.Subset.refl _) f).flask (by decide),
    (only_ldlAbort (List.Subset.refl _) _ _ _).flask (by decide)]

/-- Every core of a flask that is reset ends reset. -/
theorem coreIsReset_flaskReset {f p : Nat} {s : State} (h : p ∈ s.flaskPhys f) : (Eff.on (flaskReset f) s).coreIsReset p := by
  have hAfter : Eff.Only [.dbg, .flasks, .fld .DBG_HOLD, .fld .MOD_MB_SUMMARY, .hostOut, .hports, .slots]
      (seq [holdEnd f, onFlask f FlaskSt.unload, failFlaskSlots f [0x0104, 0x0106, 0x0107, 0x0108, 0x010A, 0x010B, 0x0305] 0x0210]) :=
    only_seq₃ (only_holdEnd (by decide) f) (only_onFlask (by decide) f _) (only_failFlaskSlots (by decide) _ _ _)
  rw [flaskReset, on_rd, on_seq_cons, on_seq_cons, on_seq_cons]
  exact coreIsReset_congr (hAfter.keeps_coreAt (by decide) p _) (coreIsReset_each h _)

/-- A flask reset for a command leaves its flask without Moulds and its cores reset. -/
theorem resetFor_spec (k f : Nat) (s : State) : (Eff.on (resetFor k f) s).flask f = (s.flask f).unload ∧
    ∀ p ∈ s.flaskPhys f, (Eff.on (resetFor k f) s).coreIsReset p := by
  have hEnd (b : Bool) (ps : List Nat) : Eff.Only (.pour :: mbParts)
      (seq [readyAgain, either b (mbDone k 0) (onSlot k fun m => { m with phase := 1, waitOn := ps })]) :=
    only_seq₂ (only_readyAgain (by decide)) (only_either (only_mbDone (by decide) k 0) (only_onSlot (by decide) k _))
  rw [resetFor, on_rd]
  dsimp only
  rw [on_seq_cons]
  refine ⟨?_, fun p hp => coreIsReset_congr ((hEnd _ _).keeps_coreAt (by decide) p _) (coreIsReset_flaskReset hp)⟩
  rw [(hEnd _ _).flask (by decide), flask_flaskReset]

/-- MB_FLASK_RESET of a flask that exists resets it. -/
theorem exec_mbFlaskReset_runs {k : Fin 17} {s : State} (h : s.mbRuns k.val 0x0109 = true) (hPhase : (s.slot k.val).phase = 0)
    (hLive : (s.flask (leAt (s.slot k.val).args 0 1)).live = true) :
    exec (.mbFlaskReset k) s = .next (Eff.on (resetFor k.val (leAt (s.slot k.val).args 0 1)) s) := by
  rw [exec_mbFlaskReset, execMbFlaskReset, run_eq, mbCommand_runs h, on_rd]
  dsimp only
  rw [if_neg (not_not.2 hPhase), hLive, if_neg (by decide)]

end Sys2Proof.Machine

namespace Sys2Proof.Proofs
open Sys2Proof.Machine

/-- Settles O53: a write of s0 is no effect, and the reset of a core empties its scalar registers and its loops. -/
theorem scalarRegistersAndTheirReset : Obligations.ScalarRegistersAndTheirReset := by
  refine ⟨State.scalar_zero, fun s p v => setScalar_zero p v s, fun s p r v q n hr => scalar_setScalar hr.ne' p v q n s,
    fun k s hRun hPhase hLive => ?_⟩
  have ht := exec_mbFlaskReset_runs hRun hPhase hLive
  refine ⟨_, ht, frame_execMbFlaskReset k s ht, fun p hp => ?_⟩
  obtain ⟨-, hCores⟩ := resetFor_spec k.val (leAt (s.slot k.val).args 0 1) s
  obtain ⟨-, hLoops, hScalars⟩ := hCores p hp
  refine ⟨hLoops, fun r => ?_⟩
  rw [State.scalar, hScalars]
  exact ite_self _

end Sys2Proof.Proofs
end

section
/-! Scan: what a halted flask's state is captured into and restored from (R248 to R252, R482, R609). -/
namespace Sys2Proof.Machine

/-! Scan-out. -/

/-- The checks of a scan-out in order, and its end with the image's length once the image is written. -/
theorem scanOutCmd_spec (k f : Nat) (args : List Byte) (regions : Bool) (s : State) {t : State} (ht : t = Eff.on (scanOutCmd k f args regions) s) :
    (s.rangeOk f (leAt args 8 8) (leAt args 16 8) = false → SlotFailed t k 0x0502) ∧
    (s.rangeOk f (leAt args 8 8) (leAt args 16 8) = true → s.sealAllows f (leAt args 8 8) (leAt args 16 8) = false → SlotFailed t k 0x0403) ∧
    (s.rangeOk f (leAt args 8 8) (leAt args 16 8) = true → s.sealAllows f (leAt args 8 8) (leAt args 16 8) = true →
      leAt args 16 8 < s.scanLen f regions → SlotFailed t k 0x0305) ∧
    (s.rangeOk f (leAt args 8 8) (leAt args 16 8) = true → s.sealAllows f (leAt args 8 8) (leAt args 16 8) = true →
      s.scanLen f regions ≤ leAt args 16 8 → SlotDone t k 0 ∧ (t.slot k).payload = Mem.wrN [] 0 (natLe 8 (s.scanLen f regions)) ∧
        (t.slot k).resultLen = 8) := by
  subst ht
  rw [scanOutCmd, on_rd]
  dsimp only
  refine ⟨fun hRange => ?_, fun hRange hSeal => ?_, fun hRange hSeal hLen => ?_, fun hRange hSeal hLen => ?_⟩
  · rw [hRange, if_pos (by decide)]
    exact slotFailed_mbFail ..
  · rw [hRange, if_neg (by decide), hSeal, if_pos (by decide)]
    exact slotFailed_mbFail ..
  · rw [hRange, if_neg (by decide), hSeal, if_neg (by decide), if_pos hLen]
    exact slotFailed_mbFail ..
  · rw [hRange, if_neg (by decide), hSeal, if_neg (by decide), if_neg hLen.not_gt, on_seq_pair]
    exact slot_mbDoneWith k (natLe 8 _) _

/-- What MB_SCAN_OUT does: nothing while it is not asked for, a refusal, or the scan-out. -/
theorem mbScanOut_next (k : Fin 17) (s : State) : ∃ t, exec (.mbScanOut k) s = .next t ∧
    (s.mbRuns k.val 0x010A = false → t = s) ∧
    (s.mbRuns k.val 0x010A = true → s.flaskIn (leAt (s.slot k.val).args 0 1) 4 = false ∨
      (s.flask (leAt (s.slot k.val).args 0 1)).active.present = false → SlotFailed t k.val 0x0210) ∧
    (s.mbRuns k.val 0x010A = true → s.flaskIn (leAt (s.slot k.val).args 0 1) 4 = true →
      (s.flask (leAt (s.slot k.val).args 0 1)).active.present = true →
      t = Eff.on (scanOutCmd k.val (leAt (s.slot k.val).args 0 1) (s.slot k.val).args (bitOf (leAt (s.slot k.val).args 1 1) 0)) s) := by
  refine ⟨_, rfl, fun h => mbCommand_idle h, fun h hNot => ?_, fun h hIn hMould => ?_⟩ <;>
    rw [mbCommand_runs h, on_rd] <;> dsimp only
  · rw [if_pos (by simpa using hNot)]
    exact slotFailed_mbFail ..
  · rw [hIn, hMould, if_neg (by decide)]

/-- What MB_FLASK_DRAIN does: as MB_SCAN_OUT with the regions, once the flask has drained (R609). -/
theorem mbFlaskDrain_next (k : Fin 17) (s : State) : ∃ t, exec (.mbFlaskDrain k) s = .next t ∧
    (s.mbRuns k.val 0x0305 = false → t = s) ∧
    (s.mbRuns k.val 0x0305 = true → s.flaskIn (leAt (s.slot k.val).args 0 1) 4 = false ∨
      (s.flask (leAt (s.slot k.val).args 0 1)).active.present = false → SlotFailed t k.val 0x0210) ∧
    (s.mbRuns k.val 0x0305 = true → s.flaskIn (leAt (s.slot k.val).args 0 1) 4 = true →
      (s.flask (leAt (s.slot k.val).args 0 1)).active.present = true → (s.flask (leAt (s.slot k.val).args 0 1)).draining = true →
      (s.flask (leAt (s.slot k.val).args 0 1)).drained = false → t = s) ∧
    (s.mbRuns k.val 0x0305 = true → s.flaskIn (leAt (s.slot k.val).args 0 1) 4 = true →
      (s.flask (leAt (s.slot k.val).args 0 1)).active.present = true → (s.flask (leAt (s.slot k.val).args 0 1)).draining = false ∨
      (s.flask (leAt (s.slot k.val).args 0 1)).drained = true →
      t = Eff.on (scanOutCmd k.val (leAt (s.slot k.val).args 0 1) (s.slot k.val).args true) s) := by
  refine ⟨_, rfl, fun h => mbCommand_idle h, fun h hNot => ?_, fun h hIn hMould hDraining hDrained => ?_, fun h hIn hMould hDrained => ?_⟩ <;>
    rw [mbCommand_runs h, on_rd] <;> dsimp only
  · rw [if_pos (by simpa using hNot)]
    exact slotFailed_mbFail ..
  · rw [hIn, hMould, if_neg (by decide), hDraining, hDrained]
    exact on_when_false _ _
  · rw [hIn, hMould, if_neg (by decide), show (_ || _) = true by simpa using hDrained, on_when_true]

/-! Scan-in. -/

theorem State.mouldPhys_of_mould {s t : State} {f : Nat} (hActive : (t.flask f).active = (s.flask f).active)
    (hCores : (t.flask f).cores = (s.flask f).cores) (hRow : ∀ r, t.fget F.MOD_ROW_MAP_r_MAP r = s.fget F.MOD_ROW_MAP_r_MAP r) :
    t.mouldPhys f = s.mouldPhys f := by
  have hPhysOf : t.physOf = s.physOf := by funext l; simp only [State.physOf, hRow]
  simp only [State.mouldPhys, State.flaskPhys, hActive, hCores, hPhysOf]

/-- A flask but for when it begins. -/
def FlaskSt.unstarted (x : FlaskSt) : FlaskSt := { x with startAt := .none, gridStart := false }

/-- The master's start gives a flask nothing but when it begins (R74). -/
theorem keeps_startFlasks (t f : Nat) : (startFlasks t).Keeps fun s => (s.flask f).unstarted := by
  refine keeps_rd fun s => keeps_each fun g => keeps_when fun u => ?_
  by_cases h : g = f
  · rw [h, onFlask_same]
    rfl
  · rw [onFlask_ne _ _ h]

theorem Eff.Only.keeps_unstarted {ps : List Part} {e : Eff} (h : e.Only ps) (hp : Part.flasks ∉ ps) (f : Nat) :
    e.Keeps fun s => (s.flask f).unstarted := fun s => congrArg FlaskSt.unstarted (h.flask hp s f)

theorem keeps_startCheck (f : Nat) : startCheck.Keeps fun s => (s.flask f).unstarted := by
  have hPour (q : PourSt) : (upd [.pour q]).Keeps fun s => (s.flask f).unstarted := fun _ => rfl
  have hEnds (k st : Nat) (d : List (Nat × Nat)) : Eff.Only (.ev :: mbParts) (seq [raise 0x0605 0 nobody d, mbFail k st]) :=
    only_seq₂ (only_raise (by decide) _ _ _ _) (only_mbFail (by decide) k st)
  refine keeps_rd fun s => ?_
  split
  · exact keeps_seq₂ (hPour _) (keeps_either (keeps_seq_cons (hPour _) (keeps_seq_cons (fun _ => rfl) (keeps_seq₂ (keeps_startFlasks _ f)
      ((only_mbDoneWith (pt := mbParts) (by decide) _ _).keeps_unstarted (by decide) f)))) ((hEnds _ _ _).keeps_unstarted (by decide) f))
  · exact fun _ => rfl

/-- The report of READY gives a flask nothing but when it begins (R420). -/
theorem keeps_readyReport (f : Nat) : readyReport.Keeps fun s => (s.flask f).unstarted := by
  refine keeps_rd fun s => keeps_when (keeps_either (keeps_startCheck f) (keeps_when ?_))
  split
  · exact fun _ => rfl
  · exact fun _ => rfl

theorem flaskFields_of_unstarted {x y : FlaskSt} (h : x.unstarted = y.unstarted) :
    x.resumed = y.resumed ∧ x.halt = y.halt ∧ x.active = y.active ∧ x.staged = y.staged := by
  simp only [FlaskSt.unstarted, FlaskSt.mk.injEq] at h
  simp only [h, and_self]

/-- A scan-in in order: what the image holds is restored, the flask is ready to resume, and its cores are READY. -/
theorem on_scanIn (f : Nat) (b : List Byte) (s : State) : ∃ (e e' : Eff) (g : FlaskSt → FlaskSt),
    e.Only [.cores, .fld .CORE_SC, .fld .CORE_SEQ, .fld .ME_CTL, .fld .SPD_SCRUB_CTL, .fld .SPR_STAT, .mes, .queues, .ses, .vus] ∧
    e'.Only [.cores, .fld .SPD_ELASTIC, .spd, .spdPoison] ∧
    (∀ x, (g x).resumed = true ∧ (g x).halt = none ∧ (g x).active = x.active ∧ (g x).cores = x.cores) ∧
    Eff.on (scanIn f b) s = Eff.on (setFlaskState f 2) (Eff.on (onFlask f g) (Eff.on e' (Eff.on e s))) := by
  rw [scanIn, on_rd]
  dsimp only
  rw [on_seq_cons, on_seq_cons, on_seq_pair]
  refine ⟨_, _, _, only_each fun i _ => ?_, only_each fun i _ => ?_, ?_, rfl⟩
  · split
    · exact only_restoreCore (by decide) _ _ _ _ _ _
    · exact only_nop _
  · split
    · exact only_seq₂ (only_gatherFlushAll (by decide) _) (only_spdWr (by decide) _ _ _ _)
    · exact only_nop _
  · exact fun x => ⟨rfl, rfl, rfl, rfl⟩

/-- A flask restored from an image is READY to resume at the switch point it was captured at (R252). -/
theorem scanIn_spec (f : Nat) (b : List Byte) (s : State) {t : State} (ht : t = Eff.on (scanIn f b) s) :
    (t.flask f).resumed = true ∧ (t.flask f).halt = none ∧ (t.flask f).active = (s.flask f).active ∧ ∀ p ∈ s.mouldPhys f, t.coreState p = 2 := by
  obtain ⟨e, e', g, he, he', hg, hIn⟩ := on_scanIn f b s
  have hFlask : (Eff.on (onFlask f g) (Eff.on e' (Eff.on e s))).flask f = g (s.flask f) := by
    rw [onFlask_same, he'.flask (by decide), he.flask (by decide)]
  obtain ⟨hResumed, hHalt, hActive, hCores⟩ := hg (s.flask f)
  subst ht
  rw [hIn, (only_setFlaskState (List.Subset.refl _) f 2).flask (by decide), hFlask]
  refine ⟨hResumed, hHalt, hActive, fun p hp => coreState_setFlaskState (by decide) ?_⟩
  rwa [State.mouldPhys_of_mould (s := s) (by rw [hFlask, hActive]) (by rw [hFlask, hCores]) fun r => ?_]
  rw [(only_onFlask (ps := [.flasks]) (by decide) f g).fget (by decide) (by decide) (by decide), he'.fget (by decide) (by decide) (by decide),
    he.fget (by decide) (by decide) (by decide)]

/-- A flask that its command has made READY again reports so, and the command ends (R420). -/
theorem on_readyEnds (k : Nat) (s : State) {t : State} (ht : t = Eff.on (seq [readyAgain, readyReport, mbDone k 0]) s) : SlotDone t k 0 ∧
    (∀ f, (t.flask f).unstarted = (s.flask f).unstarted) ∧ ∀ p, t.coreState p = s.coreState p := by
  have hAll : Eff.Only (.pour :: .ev :: .flasks :: .msgs :: mbParts) (seq [readyAgain, readyReport, mbDone k 0]) :=
    only_seq₃ (only_readyAgain (by decide)) (only_readyReport (by decide)) (only_mbDone (by decide) k 0)
  subst ht
  refine ⟨?_, fun f => ?_, fun p => hAll.fget (by decide) (by decide) (by decide) s p⟩
  · rw [on_seq_cons, on_seq_pair]
    exact slotDone_mbDone k 0 _
  · rw [on_seq_cons, on_seq_pair, (only_mbDone_parts k 0).flask (by decide)]
    exact (keeps_readyReport f _).trans (congrArg FlaskSt.unstarted ((only_readyAgain (List.Subset.refl _)).flask (by decide) s f))

/-- The end of MB_SCAN_IN: the flask is restored, and READY is reported. -/
theorem scanInDone_spec (k f : Nat) (b : List Byte) (s : State) {t : State}
    (ht : t = Eff.on (seq [scanIn f b, readyAgain, readyReport, mbDone k 0]) s) : SlotDone t k 0 ∧ (t.flask f).resumed = true ∧
    (t.flask f).halt = none ∧ (t.flask f).active = (s.flask f).active ∧ ∀ p ∈ s.mouldPhys f, t.coreState p = 2 := by
  rw [on_seq_cons] at ht
  obtain ⟨hResumed, hHalt, hActive, hCores⟩ := scanIn_spec f b s rfl
  obtain ⟨hDone, hFlask, hState⟩ := on_readyEnds k _ ht
  obtain ⟨hResumed', hHalt', hActive', -⟩ := flaskFields_of_unstarted (hFlask f)
  exact ⟨hDone, hResumed'.trans hResumed, hHalt'.trans hHalt, hActive'.trans hActive, fun p hp => (hState p).trans (hCores p hp)⟩

end Sys2Proof.Machine

namespace Sys2Proof.Proofs
open Sys2Proof.Machine

/-- Settles O31: a scan command goes through its checks in order and ends by writing or restoring the image. -/
theorem scanCommandsAct : Obligations.ScanCommandsAct := by
  refine ⟨fun k s => ?_, fun k s => ?_, fun k s => ?_⟩
  · obtain ⟨t, ht, hIdle, hRefused, hOut⟩ := mbScanOut_next k s
    refine ⟨t, ht, frame_execMbScanOut k s ht, hRefused, fun h hIn hMould => ?_, fun h hIn hMould => ?_, fun h hIn hMould => ?_,
      fun h hIn hMould => ?_, hIdle⟩ <;>
      obtain ⟨hRange, hSeal, hRoom, hDone⟩ := scanOutCmd_spec k.val _ _ _ s (hOut h hIn hMould)
    exacts [hRange, hSeal, hRoom, hDone]
  · obtain ⟨t, ht, hIdle, hRefused, hWaits, hOut⟩ := mbFlaskDrain_next k s
    refine ⟨t, ht, frame_execMbFlaskDrain k s ht, hRefused, fun h hIn hMould hDrained => ?_, fun h hIn hMould hDrained => ?_,
      fun h hIn hMould hDrained => ?_, fun h hIn hMould hDrained => ?_, hWaits, hIdle⟩ <;>
      obtain ⟨hRange, hSeal, hRoom, hDone⟩ := scanOutCmd_spec k.val _ _ _ s (hOut h hIn hMould hDrained)
    exacts [hRange, hSeal, hRoom, hDone]
  · refine ⟨_, rfl, frame_execMbScanIn k s rfl, fun h hRange => ?_, fun h hRange hSeal => ?_, fun h b hb hRange hSeal => ?_,
      fun h => mbCommand_idle h⟩ <;> rw [mbCommand_runs h, on_rd] <;> dsimp only
    · rw [hRange, if_pos (by decide)]
      exact mbFail_spec ..
    · rw [hRange, if_neg (by decide), hSeal, if_pos (by decide)]
      exact mbFail_spec ..
    · rw [hRange, if_neg (by decide), hSeal, if_neg (by decide), ← hb]
      refine ⟨fun hHeader => ?_, fun hMagic hVersion => ⟨fun hCrc => ?_, fun hCrc hFits => ?_, fun hCrc hFits hReady hHalted => ?_,
        fun hCrc hFits hState hPoint => ?_, fun hCrc hFits hState hPoint => ?_⟩⟩
      · rw [if_pos hHeader]
        exact slotFailed_mbFail ..
      all_goals rw [if_neg (by simp [hMagic, hVersion]), hCrc]
      · exact slotFailed_mbFail ..
      all_goals rw [if_neg (by decide), hFits]
      · exact slotFailed_mbFail ..
      · rw [if_neg (by decide), hReady, hHalted]
        exact slotFailed_mbFail ..
      all_goals rw [if_neg (by decide), show (_ || _) = true by simpa using hState, if_neg (by decide), hPoint]
      · exact slotFailed_mbFail ..
      · exact scanInDone_spec _ _ _ _ rfl

end Sys2Proof.Proofs
end

section
/-! Flasks: their creation and end, their start, halt and resumption, and the cache commands (R222, R278, R292, R482). -/
namespace Sys2Proof.Machine

/-! A core that a flask takes or gives up: reset, zeroed and with its owner set (R222). -/

/-- A core in RESET with this flask and generation as its owner. -/
def State.coreOwned (s : State) (o : Option (Nat × Nat)) (p : Nat) : Prop := s.coreState p = 5 ∧ (s.core p).owner = o

theorem coreOwned_congr {s t : State} {o : Option (Nat × Nat)} {p : Nat} (h : t.coreAt p = s.coreAt p) (hs : s.coreOwned o p) :
    t.coreOwned o p := by
  obtain ⟨hCore, hState⟩ := Prod.mk.inj h
  rwa [State.coreOwned, hCore, hState]

/-- The zeroing of a core in order: its reset, its owner, and marks in registers that hold no core's state. -/
theorem on_coreZero (p : Nat) (o : Option (Nat × Nat)) (s : State) : ∃ (g : CoreSt → CoreSt) (e : Eff), (∀ c, (g c).owner = o) ∧
    (∀ q, e.Keeps fun s => s.coreAt q) ∧ Eff.on (coreZero p o) s = Eff.on e (Eff.on (onCore p g) (Eff.on (coreReset p) s)) := by
  have hOther {f : Fld} (hf : (f.inReg && F.CORE_STAT_STATE.inReg && (f.reg != F.CORE_STAT_STATE.reg || f.lo != F.CORE_STAT_STATE.lo ||
      f.len != F.CORE_STAT_STATE.len)) = true) (i v q : Nat) : (fset f i v).Keeps fun s => s.coreAt q := fun s =>
    Prod.ext (congrArg (NMap.get _ · q) (Upd.fld_cores ..)) (Upd.fget_fld_other hf i q v s)
  rw [coreZero.eq_def, on_seq_cons, on_seq_cons]
  exact ⟨_, _, fun _ => rfl,
    fun q => keeps_seq_cons (hOther (by decide) _ _ q) (keeps_seq₂ (hOther (by decide) _ _ q) (hOther (by decide) _ _ q)), rfl⟩

theorem coreOwned_coreZero (p : Nat) (o : Option (Nat × Nat)) (s : State) : (Eff.on (coreZero p o) s).coreOwned o p := by
  obtain ⟨g, e, hOwner, hKeeps, hZero⟩ := on_coreZero p o s
  rw [hZero]
  refine coreOwned_congr (hKeeps p _) ⟨?_, by rw [onCore_same, hOwner]⟩
  rw [State.coreState, (only_onCore (ps := [.cores]) (by decide) p g).fget (by decide) (by decide) (by decide)]
  exact coreState_coreReset_same p s

theorem coreAt_coreZero_ne {p q : Nat} (h : q ≠ p) (o : Option (Nat × Nat)) : (coreZero p o).Keeps fun s => s.coreAt q := fun s => by
  obtain ⟨g, e, -, hKeeps, hZero⟩ := on_coreZero p o s
  have hCore : (onCore p g).Keeps fun s => s.coreAt q := fun s => Prod.ext (onCore_ne g s (Ne.symm h))
    ((only_onCore (ps := [.cores]) (by decide) p g).fget (by decide) (by decide) (by decide) s q)
  exact (congrArg (State.coreAt · q) hZero).trans ((hKeeps q _).trans ((hCore _).trans (coreAt_coreReset_ne h s)))

/-- Every core of a list that is zeroed core by core ends zeroed. -/
theorem coreOwned_each {p : Nat} {l : List Nat} (h : p ∈ l) (o : Option (Nat × Nat)) (s : State) :
    (Eff.on (each l fun p => coreZero p o) s).coreOwned o p := by
  refine on_each_reaches (P := fun s => s.coreOwned o p) h (coreOwned_coreZero p o) (fun q s hs => ?_) s
  by_cases hq : p = q
  · exact hq ▸ coreOwned_coreZero p o s
  · exact coreOwned_congr (coreAt_coreZero_ne hq o s) hs

/-- What the zeroing of cores writes. -/
def zeroParts : List Part := [.cores, .fld .CORE_MOULD, .fld .CORE_SC, .fld .CORE_SEQ, .fld .CORE_STAT, .fld .ME_STAT, .fld .QUEUE_BASE,
  .fld .QUEUE_CTL, .fld .QUEUE_DB, .fld .QUEUE_LEVEL, .fld .QUEUE_STAT, .fld .QUEUE_WM, .fld .SE_STAT, .fld .SPD_ELASTIC, .fld .SPD_STAT,
  .fld .SPR_STAT, .fld .VU_STAT, .mes, .queues, .ses, .vus]

theorem only_eachZero (l : List Nat) (o : Option (Nat × Nat)) : Eff.Only zeroParts (each l fun p => coreZero p o) :=
  only_each fun p _ => only_coreZero (List.Subset.refl _) p o

/-! The creation and the end of a flask (R278, R482). -/

/-- A flask can be made of cores that are there and that no live flask has. -/
theorem State.coresFree_iff (s : State) (l : List Nat) :
    (l.all fun c => (s.physOf c).isSome && s.liveFlasks.all fun g => !(s.flask g).cores.elem c) = true ↔
      ∀ c, c ∈ l → (s.physOf c).isSome = true ∧ ∀ g, g ∈ s.liveFlasks → c ∉ (s.flask g).cores := by
  simp only [List.all_eq_true, Bool.and_eq_true, Bool.not_eq_true', List.elem_eq_mem, decide_eq_false_iff_not]

/-- The creation of a flask: its record, its region and its cores; a flask without cores is done at once. -/
theorem flaskMade_spec (k f base gib : Nat) (g : FlaskSt → FlaskSt) (ps : List Nat) (o : Option (Nat × Nat)) (r : State → List Byte)
    (w : MbSlot → MbSlot) (s : State) {t : State} (ht : t = Eff.on (seq [onFlask f g, regionOpen base gib, each ps (fun p => coreZero p o),
      either ps.isEmpty (rd fun s => mbDoneWith k (r s)) (onSlot k w)]) s) :
    t.flask f = g (s.flask f) ∧ (ps = [] → SlotDone t k 0) ∧ ∀ p ∈ ps, t.coreOwned o p := by
  have hOpen : Eff.Only [.caches, .dram, .dramPoison, .dramWritten] (regionOpen base gib) := only_regionOpen (List.Subset.refl _) base gib
  have hEnd : Eff.Only mbParts (either ps.isEmpty (rd fun s => mbDoneWith k (r s)) (onSlot k w)) :=
    only_either (only_rd fun s => only_mbDoneWith (by decide) k _) (only_onSlot (by decide) k w)
  subst ht
  rw [on_seq_cons, on_seq_cons, on_seq_pair]
  refine ⟨?_, fun h => ?_, fun p hp => coreOwned_congr (hEnd.keeps_coreAt (by decide) p _) (coreOwned_each hp o _)⟩
  · rw [hEnd.flask (by decide), (only_eachZero ps o).flask (by decide), hOpen.flask (by decide), onFlask_same]
  · subst h
    exact (slot_mbDoneWith k _ _).1

/-- The end of a flask keeps its generation, and its cores are in RESET without an owner. -/
theorem flaskEnded_spec (k f base gib : Nat) (ps : List Nat) (w : MbSlot → MbSlot) (s : State) {t : State}
    (ht : t = Eff.on (seq [flaskReset f, each ps (fun p => coreZero p none), regionOpen base gib, weightsEnd f, onFlask f FlaskSt.gone, readyAgain,
      either ps.isEmpty (mbDone k 0) (onSlot k w)]) s) :
    t.flask f = (s.flask f).unload.gone ∧ ∀ p ∈ ps, t.coreOwned none p := by
  have hOpen : Eff.Only [.caches, .dram, .dramPoison, .dramWritten] (regionOpen base gib) := only_regionOpen (List.Subset.refl _) base gib
  have hWeights : Eff.Only [.fld .SAF_STAT, .saf] (weightsEnd f) := only_weightsEnd (List.Subset.refl _) f
  have hEnd : Eff.Only (.pour :: mbParts) (seq [readyAgain, either ps.isEmpty (mbDone k 0) (onSlot k w)]) :=
    only_seq₂ (only_readyAgain (by decide)) (only_either (only_mbDone (by decide) k 0) (only_onSlot (by decide) k w))
  subst ht
  rw [on_seq_cons, on_seq_cons, on_seq_cons, on_seq_cons, on_seq_cons]
  refine ⟨?_, fun p hp => ?_⟩
  · rw [hEnd.flask (by decide), onFlask_same, hWeights.flask (by decide), hOpen.flask (by decide), (only_eachZero ps none).flask (by decide),
      flask_flaskReset]
  · have hFlask : Eff.Only [.flasks] (onFlask f FlaskSt.gone) := only_onFlask (by decide) f _
    exact coreOwned_congr ((hEnd.keeps_coreAt (by decide) p _).trans ((hFlask.keeps_coreAt (by decide) p _).trans
      ((hWeights.keeps_coreAt (by decide) p _).trans (hOpen.keeps_coreAt (by decide) p _)))) (coreOwned_each hp none _)

/-! A halt point. -/

/-- A halt that a command arms on its flask (R74, R482). -/
theorem armLocal_spec (k f : Nat) (kind : HaltKind) (quiesce : Bool) (target : Nat) (s : State) :
    ((Eff.on (armLocal k f kind quiesce target) s).flask f).halt = some { kind, quiesce, target, slot := some k, cause := 1 } := by
  rw [armLocal, on_seq_pair, onFlask_same]

/-! Cached lines written back (R292). -/

/-- No line of a cache in a range of addresses is dirty. -/
def State.cleanIn (s : State) (c lo hi : Nat) : Prop :=
  ∀ l, l ∈ (s.cache c).lines → lo ≤ l.line * 256 → l.line * 256 < hi → l.dirty = false

theorem cache_caches (k c : Nat) (v : CacheSt) (s : State) : (Eff.on (upd [.caches k v]) s).cache c = if c = k then v else s.cache c := by
  rw [on_upd, applyAll_cons, applyAll_nil]
  by_cases h : c = k
  · rw [if_pos h, h]
    exact NMap.get_put_same ..
  · rw [if_neg h]
    exact NMap.get_put_ne _ _ _ _ (Ne.symm h)

/-- A map without an entry for a key has its default there. -/
theorem NMap.get_of_absent {α : Type} (d : α) {m : NMap α} {k : Nat} (h : ∀ e ∈ m, e.1 ≠ k) : NMap.get d m k = d := by
  induction m with
  | nil => rfl
  | cons e m ih =>
    obtain ⟨a, v⟩ := e
    rw [NMap.get, if_neg (h _ List.mem_cons_self)]
    exact ih fun e he => h e (List.mem_cons_of_mem _ he)

/-- Lines whose dirty mark is dropped where they lie in a range are clean there. -/
theorem clean_of_mem_map {lo hi : Nat} {ls : List CacheLine} {l : CacheLine}
    (h : l ∈ ls.map fun l => if lo ≤ l.line * 256 ∧ l.line * 256 < hi then { l with dirty := false } else l) (hLo : lo ≤ l.line * 256)
    (hHi : l.line * 256 < hi) : l.dirty = false := by
  obtain ⟨x, -, rfl⟩ := List.mem_map.1 h
  split
  · rfl
  · next hOut =>
    rw [if_neg hOut] at hLo hHi
    exact absurd ⟨hLo, hHi⟩ hOut

/-- A flush leaves no dirty line of its range in any cache. -/
theorem cleanIn_cacheClean (c lo hi : Nat) (s : State) : (Eff.on (cacheClean lo hi) s).cleanIn c lo hi := by
  rw [cacheClean, on_rd]
  have hKeeps (e : Nat × CacheSt) (s : State) (hs : s.cleanIn c lo hi) : State.cleanIn (Eff.on (upd [.caches e.1 { e.2 with
      lines := e.2.lines.map (fun l => if lo ≤ l.line * 256 ∧ l.line * 256 < hi then { l with dirty := false } else l) }]) s) c lo hi := by
    rw [State.cleanIn, cache_caches]
    by_cases h : c = e.1
    · rw [if_pos h]
      exact fun l hl => clean_of_mem_map hl
    · rw [if_neg h]
      exact hs
  by_cases hIn : ∃ e ∈ s.caches, e.1 = c
  · obtain ⟨e, he, rfl⟩ := hIn
    refine on_each_reaches (P := fun s => s.cleanIn e.1 lo hi) he (fun s => ?_) hKeeps s
    rw [State.cleanIn, cache_caches, if_pos rfl]
    exact fun l hl => clean_of_mem_map hl
  · refine on_each_keeps_prop hKeeps _ fun l hl => ?_
    rw [State.cache, NMap.get_of_absent _ fun e he hc => hIn ⟨e, he, hc⟩] at hl
    cases hl

/-- One field written alike at several places holds the value at each of them. -/
theorem fget_eachSet {f : Fld} (hf : f.settable = true) (hr : f.inReg = true) {l : List Nat} {i : Nat} (h : i ∈ l) (v : Nat) (s : State) :
    (Eff.on (each l fun i => fset f i v) s).fget f i = v % 2 ^ f.len := by
  refine on_each_reaches (P := fun s => s.fget f i = v % 2 ^ f.len) (f := fun i => fset f i v) h
    (fun s => Upd.fget_fld_same hf i v s) (fun j s hs => ?_) s
  by_cases hj : j = i
  · exact hj ▸ Upd.fget_fld_same hf j v s
  · exact (Upd.fget_fld_at hr hj v s).trans hs

end Sys2Proof.Machine

namespace Sys2Proof.Proofs
open Sys2Proof.Machine

/-- Settles O26: a flask command goes through its checks in order and then writes its flask, cores and region. -/
theorem flaskCommandsAct : Obligations.FlaskCommandsAct := by
  refine ⟨fun k s => ?_, fun k s => ?_, fun k s => ?_, fun k s => ?_, fun k s => ?_, fun k s => ?_, fun k s => ?_⟩
  · refine ⟨_, rfl, frame_execMbFlaskStart k s rfl, fun h hPhase => ?_, fun h hPhase hReady => ?_, fun h hPhase hReady hPour => ?_,
      fun h hPhase hReady hPour => ?_, fun h => mbCommand_idle h⟩ <;> rw [mbCommand_runs h, on_rd] <;> dsimp only
    · rw [if_pos hPhase]
      rfl
    all_goals rw [if_neg (not_not.2 hPhase), hReady]
    · exact mbFail_spec ..
    all_goals rw [if_neg (by decide), hPour]
    · exact mbFail_spec ..
    · rw [if_neg (by decide), on_seq_pair, onFlask_same, (only_onFlask (ps := [.flasks]) (by decide) _ _).slot (by decide), onSlot_same]
      exact ⟨rfl, rfl, rfl⟩
  · refine ⟨_, rfl, frame_execMbFlaskHalt k s rfl, fun h hPhase => ?_, fun h hPhase hNot => ?_, fun h hPhase hRun hHalt hLocal => ?_,
      fun h hPhase hRun hHalt hPour hQuiesce hMaster => ?_, fun h => mbCommand_idle h⟩ <;> rw [mbCommand_runs h, on_rd] <;> dsimp only
    · rw [if_pos hPhase]
      rfl
    all_goals rw [if_neg (not_not.2 hPhase)]
    · rw [if_pos (by simpa using hNot)]
      exact mbFail_spec ..
    all_goals rw [hRun, hHalt, if_neg (by decide)]
    · rw [if_neg (by simpa [or_iff_not_imp_left] using hLocal)]
      exact armLocal_spec ..
    · rw [hPour, hQuiesce, if_pos (by decide), pourArm, on_rd, hMaster]
      exact slotFailed_mbFail ..
  · refine ⟨_, rfl, frame_execMbFlaskResume k s rfl, fun h hPhase => ?_, fun h hPhase hNot => ?_, fun h hPhase hHalted hPoint hFault
      hReported => ?_, fun h => mbCommand_idle h⟩ <;> rw [mbCommand_runs h, on_rd] <;> dsimp only
    · rw [if_pos hPhase]
      rfl
    all_goals rw [if_neg (not_not.2 hPhase)]
    · rw [if_pos (by simpa [or_assoc] using hNot)]
      exact mbFail_spec ..
    · rw [hHalted, hPoint, hFault, hReported, if_neg (by decide), on_seq_pair, onFlask_same,
        (only_onFlask (ps := [.flasks]) (by decide) _ _).slot (by decide), onSlot_same]
      exact ⟨rfl, rfl, rfl⟩
  · refine ⟨_, rfl, frame_execMbFlaskCreate k s rfl, fun h hPhase => ?_, fun h hPhase hLive => ?_, fun h hPhase hLive hOut => ?_,
      fun h hPhase hLive hOut hCores => ?_, fun h hPhase hLive hOut hCores hRegion => ?_, fun h base hPhase hLive hOut hCores hRegion => ?_,
      fun h => mbCommand_idle h⟩ <;> rw [mbCommand_runs h, on_rd] <;> dsimp only
    · rw [if_pos hPhase]
      rfl
    all_goals rw [if_neg (not_not.2 hPhase), hLive]
    · exact mbFail_spec ..
    all_goals rw [if_neg (by decide), State.flag]
    · rw [hOut]
      exact mbFail_spec ..
    all_goals rw [if_neg (by simpa using hOut)]
    · rw [if_pos (by simpa only [Bool.not_eq_true', ← Bool.not_eq_true, State.coresFree_iff] using hCores)]
      exact mbFail_spec ..
    all_goals rw [(State.coresFree_iff s _).2 hCores, if_neg (by decide), hRegion]
    · exact mbFail_spec ..
    · generalize ht : Eff.on _ s = t
      obtain ⟨hFlask, hDone, hOwned⟩ := flaskMade_spec _ _ _ _ _ _ _ _ _ s ht.symm
      rw [hFlask]
      exact ⟨rfl, rfl, rfl, rfl, rfl, fun hNone => hDone (by rw [hNone]; rfl), fun l p hl hp => hOwned p (List.mem_filterMap.2 ⟨l, hl, hp⟩)⟩
  · refine ⟨_, rfl, frame_execMbFlaskDestroy k s rfl, fun h hPhase => ?_, fun h hPhase hLive => ?_, fun h hPhase hLive => ?_,
      fun h => mbCommand_idle h⟩ <;> rw [mbCommand_runs h, on_rd] <;> dsimp only
    · rw [if_pos hPhase]
      rfl
    all_goals rw [if_neg (not_not.2 hPhase), hLive]
    · exact mbFail_spec ..
    · rw [if_neg (by decide)]
      generalize ht : Eff.on _ s = t
      obtain ⟨hFlask, hOwned⟩ := flaskEnded_spec _ _ _ _ _ _ s ht.symm
      rw [hFlask]
      exact ⟨rfl, rfl, hOwned⟩
  · refine ⟨_, rfl, frame_execMbCacheFlush k s rfl, fun h hLive => ?_, fun h hLive => ?_, fun h => mbCommand_idle h⟩ <;>
      rw [mbCommand_runs h, on_rd] <;> dsimp only <;> rw [hLive]
    · rw [on_either_false]
      exact ⟨slotFailed_mbFail .., (only_mbFail_parts _ _).frame_caches (by decide) s⟩
    · rw [on_either_true, on_seq_pair]
      refine ⟨slotDone_mbDone .., fun c l _ => ?_⟩
      rw [State.cache, (only_mbDone_parts _ _).frame_caches (by decide)]
      exact cleanIn_cacheClean c _ _ s l
  · refine ⟨_, rfl, frame_execMbCachePartSet k s rfl, fun h hStreams => ?_, fun h hStreams => ?_, fun h => mbCommand_idle h⟩ <;>
      rw [mbCommand_runs h, on_rd, hStreams]
    · exact slotFailed_mbFail ..
    · rw [if_neg (by decide), on_seq_pair]
      refine ⟨slotDone_mbDone .., fun c hc => ?_⟩
      rw [(only_mbDone_parts _ _).fget (by decide) (by decide) (by decide)]
      exact fget_eachSet (by decide) (by decide) (List.mem_range.2 hc) _ s

end Sys2Proof.Proofs
end

section
/-! Moulds: loading, staging, the exchange of banks, halt points and unloading (R222, R223, R234, R236, R238, R242). -/
namespace Sys2Proof.Machine

/-! Mailbox commands that carry a time. -/

theorem State.movedOn_flasks (s : State) (tc : Nat) : (s.movedOn tc).flasks = s.flasks := Upd.fld_flasks ..
theorem State.movedOn_slot (s : State) (tc k : Nat) : (s.movedOn tc).slot k = s.slot k := congrArg (NMap.get _ · k) (Upd.fld_slots ..)
theorem State.movedOn_flaskIn (s : State) (tc f st : Nat) : (s.movedOn tc).flaskIn f st = s.flaskIn f st := by
  simp only [State.flaskIn, s.movedOn_flask, s.movedOn_flaskState]
theorem State.movedOn_inPour (s : State) (tc f : Nat) : (s.movedOn tc).inPour f = s.inPour f := by
  simp only [State.inPour, s.movedOn_flask]

section
variable {k cmd : Nat} {e : List Byte → Eff} {s : State}

theorem mbCommand_runsAt (tc : Nat) (h : s.mbRuns k cmd = true) :
    Eff.on (seq [tcTo tc, mbCommand k cmd e]) s = Eff.on (e (s.slot k).args) (s.movedOn tc) := by
  rw [on_seq_pair, ← State.movedOn, mbCommand_runs (by rwa [State.mbRuns, s.movedOn_slot]), s.movedOn_slot]

theorem mbCommand_idleAt (tc : Nat) (h : s.mbRuns k cmd = false) : Eff.on (seq [tcTo tc, mbCommand k cmd e]) s = s.movedOn tc := by
  rw [on_seq_pair, ← State.movedOn, mbCommand_idle (by rwa [State.mbRuns, s.movedOn_slot])]

end

/-- A command that fails leaves the flasks as they were before its time. -/
theorem mbFailAt_spec (k status tc : Nat) (s : State) : SlotFailed (Eff.on (mbFail k status) (s.movedOn tc)) k status ∧
    (Eff.on (mbFail k status) (s.movedOn tc)).flasks = s.flasks := by
  rw [← s.movedOn_flasks tc]
  exact mbFail_spec k status _

/-! Loading (R223, R234). -/

/-- A flask's active and staged Moulds. -/
def State.banks (s : State) (f : Nat) : MouldSt × MouldSt := ((s.flask f).active, (s.flask f).staged)

theorem Eff.Only.keeps_banks {ps : List Part} {e : Eff} (h : e.Only ps) (hp : Part.flasks ∉ ps) (f : Nat) : e.Keeps fun s => s.banks f := fun s => by
  simp only [State.banks, h.flask hp]

/-- What gives a flask nothing but when it begins leaves its Moulds as they were. -/
theorem Eff.Keeps.banks {e : Eff} {f : Nat} (h : e.Keeps fun s => (s.flask f).unstarted) : e.Keeps fun s => s.banks f := fun s => by
  obtain ⟨-, -, hActive, hStaged⟩ := flaskFields_of_unstarted (h s)
  exact Prod.ext hActive hStaged

/-- The end of a load that went well: its registers, the report of READY and the result, with the flask's Moulds as loaded. -/
theorem loadDone_spec (k f : Nat) (bs : List Byte) (s : State) {t : State}
    (ht : t = Eff.on (seq [mouldRegs f, readyAgain, readyReport, mbDoneWith k bs]) s) : SlotDone t k 0 ∧ ∀ g, t.banks g = s.banks g := by
  subst ht
  refine ⟨?_, fun g => keeps_seq_cons ((only_mouldRegs (List.Subset.refl _) f).keeps_banks (by decide) g)
    (keeps_seq_cons ((only_readyAgain (List.Subset.refl _)).keeps_banks (by decide) g)
      (keeps_seq₂ (keeps_readyReport g).banks ((only_mbDoneWith (List.Subset.refl _) k bs).keeps_banks (by decide) g))) s⟩
  rw [on_seq_cons, on_seq_cons, on_seq_pair]
  exact (slot_mbDoneWith k bs _).1

/-- The first load of a flask makes the Mould its active one. -/
theorem active_loadFirst (f : Nat) (m : MouldSt) (s : State) : ((Eff.on (loadFirst f m) s).flask f).active = m := by
  rw [loadFirst, on_seq_cons, on_seq_cons, on_seq_cons, on_seq_cons, Eff.Only.flask (ps := [.cores, .fld .CORE_MOULD, .fld .CORE_SC, .fld .CORE_SEQ,
    .fld .CORE_STAT, .fld .ME_STAT, .fld .MOD_GRID_STAT, .fld .QUEUE_BASE, .fld .QUEUE_CTL, .fld .QUEUE_DB, .fld .QUEUE_LEVEL, .fld .QUEUE_STAT,
    .fld .QUEUE_WM, .fld .SE_STAT, .fld .SPD_ELASTIC, .fld .SPR_STAT, .fld .VU_STAT, .mes, .queues, .ses, .spd, .spdPoison, .vus]) ?_ (by decide),
    onFlask_same]
  exact only_seq_cons (only_when fun _ => only_compatPut (by decide) _) <|
    only_seq_cons (only_rd fun _ => only_each fun _ _ => only_coreStop (by decide) _) <| only_seq_cons (only_setFlaskState (by decide) f 1) <|
    only_seq₅ (only_writeInit (by decide) m) (only_each fun _ _ => only_putBinding (by decide) _ _)
      (only_rd fun _ => only_each fun _ _ => only_progStart (by decide) _ _) (only_mouldRegs (by decide) f) (only_setFlaskState (by decide) f 2)

/-- The first load is done with its Mould active. -/
theorem firstDone_spec (k f : Nat) (m : MouldSt) (bs : List Byte) (s : State) {t : State}
    (ht : t = Eff.on (seq [loadFirst f m, sendDigests f, seq [mouldRegs f, readyAgain, readyReport, mbDoneWith k bs]]) s) :
    SlotDone t k 0 ∧ (t.flask f).active = m := by
  rw [on_seq_cons, on_seq_pair] at ht
  obtain ⟨hDone, hBanks⟩ := loadDone_spec k f bs _ ht
  refine ⟨hDone, (congrArg Prod.fst (hBanks f)).trans ?_⟩
  rw [State.banks, (only_sendDigests (List.Subset.refl _) f).flask (by decide)]
  exact active_loadFirst f m s

/-- A staging load is done with its Mould staged. -/
theorem stagedDone_spec (k f : Nat) (m : MouldSt) (bs : List Byte) (g : FlaskSt → FlaskSt) (hg : ∀ x, (g x).staged = m) (s : State) {t : State}
    (ht : t = Eff.on (seq [onFlask f g, writeInit m, seq [mouldRegs f, readyAgain, readyReport, mbDoneWith k bs]]) s) :
    SlotDone t k 0 ∧ (t.flask f).staged = m := by
  rw [on_seq_cons, on_seq_pair] at ht
  obtain ⟨hDone, hBanks⟩ := loadDone_spec k f bs _ ht
  refine ⟨hDone, (congrArg Prod.snd (hBanks f)).trans ?_⟩
  rw [State.banks, (only_writeInit (List.Subset.refl _) m).flask (by decide), onFlask_same]
  exact hg _

/-! The exchange of banks (R236, R238). -/

/-- A switch makes the staged Mould the active one and the other way round. -/
theorem banks_bankSwap (f st : Nat) (s : State) : (Eff.on (bankSwap f st) s).banks f = ((s.flask f).staged, (s.flask f).active) := by
  rw [bankSwap, on_rd]
  dsimp only
  rw [State.banks, on_seq_cons, on_seq_cons, on_seq_cons, on_seq_cons, Eff.Only.flask (ps := [.cores, .fld .CORE_MOULD, .fld .CORE_SC, .fld .CORE_SEQ,
    .fld .CORE_STAT, .fld .MOD_GRID_STAT, .fld .SPR_STAT, .msgs]) ?_ (by decide), onFlask_same]
  exact only_seq_cons (only_when fun _ => only_compatPut (by decide) _) <|
    only_seq₅ (only_rd fun _ => only_each fun _ _ => only_fset (by decide) _ _) (only_rd fun _ => only_each fun _ _ => only_progStart (by decide) _ _)
      (only_mouldRegs (by decide) f) (only_setFlaskState (by decide) f st) (only_sendDigests (by decide) f)

/-- A switch outside RUN ends the command with what the exchange discarded (R236). -/
theorem switchDone_spec (k f : Nat) (s : State) {t : State}
    (ht : t = Eff.on (seq [bankSwap f 2, readyAgain, readyReport, rd fun s => mbDone k (s.flask f).discarded]) s) :
    SlotDone t k (t.flask f).discarded ∧ t.banks f = ((s.flask f).staged, (s.flask f).active) := by
  subst ht
  rw [on_seq_cons]
  refine ⟨?_, (keeps_seq_cons ((only_readyAgain (List.Subset.refl _)).keeps_banks (by decide) f)
    (keeps_seq₂ (keeps_readyReport f).banks (keeps_rd fun _ => (only_mbDone_parts k _).keeps_banks (by decide) f)) _).trans (banks_bankSwap f 2 s)⟩
  rw [on_seq_cons, on_seq_pair, on_rd, (only_mbDone_parts k _).flask (by decide)]
  exact slotDone_mbDone ..

/-- What a module reports of its part in an exchange gives a flask nothing but when it begins. -/
theorem keeps_doneUp (f : Nat) : doneUp.Keeps fun s => (s.flask f).unstarted := by
  refine keeps_rd fun s => keeps_when (keeps_seq₂ (fun _ => rfl) ?_)
  split
  · exact fun _ => rfl
  · exact keeps_either (keeps_seq_cons (fun _ => rfl) (keeps_seq₂ (keeps_startFlasks _ f) fun _ => rfl)) fun _ => rfl

/-- A switch in RUN has exchanged the banks at its halt point (R238). -/
theorem banks_switchHalted (f : Nat) (s : State) : (Eff.on (switchHalted f) s).banks f = ((s.flask f).staged, (s.flask f).active) := by
  have hReported : Eff.Keeps (fun s => s.banks f) (rd fun s => onFlask f fun x => { x with reported := some s.tc, gridStart := false }) := by
    refine keeps_rd fun u s => ?_
    rw [State.banks, onFlask_same]
    rfl
  have hEpoch : Eff.Keeps (fun s => s.banks f)
      (rd fun s => either (s.inPour f) doneUp (onFlask f fun x => { x with startAt := some (s.boundaryAfter 4) })) := by
    refine keeps_rd fun u => keeps_either (keeps_doneUp f).banks fun s => ?_
    rw [State.banks, onFlask_same]
    rfl
  rw [switchHalted, on_seq_cons]
  exact (keeps_seq₂ hReported hEpoch _).trans (banks_bankSwap f 4 s)

/-! Halt points (R238, R248). -/

/-- A flask that halts leaves its halt point behind, with its cores in HALTED and its Moulds as they were. -/
theorem haltNow_spec (f cause point : Nat) (quiesce fault : Bool) (s : State) {t : State} (ht : t = Eff.on (haltNow f cause point quiesce fault) s) :
    (t.flask f).halt = none ∧ (t.flask f).haltPoint = point ∧ (t.flask f).atQuiesce = quiesce ∧ (t.flask f).haltCause = cause ∧
    (t.flask f).haltTc = s.tc ∧ t.banks f = s.banks f ∧ ∀ p ∈ s.mouldPhys f, t.coreState p = 4 := by
  subst ht
  have hRest : Eff.Only [.dbg, .fld .DBG_HOLD, .fld .SPR_STAT] (seq [when fault (holdEnd f), sprSync]) :=
    only_seq₂ (only_when fun _ => only_holdEnd (by decide) f) (only_sprSync (by decide))
  rw [haltNow, on_rd]
  dsimp only
  rw [State.banks, on_seq_cons, on_seq_cons, on_seq_cons, hRest.flask (by decide), onFlask_same, Eff.Only.flask (ps := mbParts) ?slot (by decide),
    (only_setFlaskState (List.Subset.refl _) f 4).flask (by decide)]
  · refine ⟨rfl, rfl, rfl, rfl, rfl, rfl, fun p hp => ?_⟩
    rw [State.coreState, hRest.fget (by decide) (by decide) (by decide),
      (only_onFlask (ps := [.flasks]) (by decide) f _).fget (by decide) (by decide) (by decide), Eff.Only.fget (ps := mbParts) ?slot (by decide)
      (by decide) (by decide)]
    · exact coreState_setFlaskState (by decide) hp
  case slot =>
    split
    · split
      · refine only_when fun _ => only_ite ?_ ?_
        · exact only_when fun _ => only_mbFail (by decide) _ _
        · exact only_mbDoneWith (by decide) _ _
      · exact only_nop _
    · exact only_nop _

/-- A flask that halts for a switch has its banks exchanged (R238). -/
theorem banks_switchHalted_haltNow (f cause point : Nat) (quiesce fault : Bool) (s : State) :
    (Eff.on (switchHalted f) (Eff.on (haltNow f cause point quiesce fault) s)).banks f = ((s.flask f).staged, (s.flask f).active) := by
  obtain ⟨-, -, -, -, -, hBanks, -⟩ := haltNow_spec f cause point quiesce fault s rfl
  obtain ⟨hActive, hStaged⟩ := Prod.mk.inj hBanks
  rw [banks_switchHalted, hActive, hStaged]

/-! A core at a switch point of its tempers (R242), and a START that does not come (R238). -/

/-- A core that goes on at a switch point has the point, its place in the new program and the temper. -/
theorem temperSwitched_spec (p pc temper point period temper' : Nat) (g : CoreSt → CoreSt) (s : State) {t : State}
    (ht : t = Eff.on (seq [onCore p g, fset F.CORE_SEQ_PC p pc, fset F.CORE_SEQ_TEMPER p temper, fset F.CORE_SEQ_SWITCH_POINT p point,
      fset F.SPR_STAT_PERIOD_LOG2 p period, fset F.SPR_STAT_TEMPER p temper']) s) :
    t.fget F.CORE_SEQ_PC p = pc % 2 ^ F.CORE_SEQ_PC.len ∧ t.fget F.CORE_SEQ_TEMPER p = temper % 2 ^ F.CORE_SEQ_TEMPER.len ∧
      t.fget F.CORE_SEQ_SWITCH_POINT p = point % 2 ^ F.CORE_SEQ_SWITCH_POINT.len := by
  subst ht
  simp only [on_seq_cons, on_seq_nil, on_fset]
  refine ⟨?_, ?_, ?_⟩
  · rw [Upd.fget_fld_other (by decide), Upd.fget_fld_other (by decide), Upd.fget_fld_other (by decide), Upd.fget_fld_other (by decide),
      Upd.fget_fld_same (by decide)]
  · rw [Upd.fget_fld_other (by decide), Upd.fget_fld_other (by decide), Upd.fget_fld_other (by decide), Upd.fget_fld_same (by decide)]
  · rw [Upd.fget_fld_other (by decide), Upd.fget_fld_other (by decide), Upd.fget_fld_same (by decide)]

/-- A START that did not come is counted missing, and the flask no longer waits for it (R238). -/
theorem startMissing_spec (f c sv : Nat) (w : Who) (d : List (Nat × Nat)) (e : Eff) (he : e.Only mbParts) (g : FlaskSt → FlaskSt)
    (hg : ∀ x, (g x).reported = none) (s : State) {t : State}
    (ht : t = Eff.on (seq [fset F.CLK_CHG_STAT_MISSING 0 1, raise c sv w d, onFlask f g, e]) s) :
    t.fget F.CLK_CHG_STAT_MISSING 0 = 1 ∧ (t.flask f).reported = none := by
  have hRest : Eff.Only (.ev :: .flasks :: mbParts) (seq [raise c sv w d, onFlask f g, e]) :=
    only_seq₃ (only_raise (by decide) c sv w d) (only_onFlask (by decide) f g) (he.mono (by decide))
  subst ht
  refine ⟨?_, ?_⟩
  · rw [on_seq_cons, hRest.fget (by decide) (by decide) (by decide), on_fset, Upd.fget_fld_same (by decide)]
    rfl
  · rw [on_seq_cons, on_seq_cons, on_seq_pair, he.flask (by decide), onFlask_same, hg]

end Sys2Proof.Machine

namespace Sys2Proof.Proofs
open Sys2Proof.Machine

/-- Settles O25: a Mould command goes through its checks in order and then loads, exchanges or unloads a flask's Moulds. -/
theorem mouldCommandsAct : Obligations.MouldCommandsAct := by
  refine ⟨fun k env s => ?_, fun k tc s => ?_, fun f point quiesce frameBoundary tc s => ?_, fun f tc s => ?_, fun p point s => ?_, fun k s => ?_,
    fun k s => ?_⟩
  · refine ⟨_, rfl, frame_execMbMouldLoad k env s rfl, fun h hLive => ?_, fun h b stageOk hb hStage => ⟨fun hLive hNot => ?_,
      fun hLive hOk hRange => ?_, fun hLive hOk hRange hKind => ?_, fun r hLive hOk hRange hKind hCheck => ?_,
      fun hLive hOk hRange hKind hCheck hVerify => ?_, fun hLive hOk hRange hKind hCheck hVerify => ?_⟩, fun h => mbCommand_idle h⟩ <;>
      rw [mbCommand_runs h, on_rd] <;> dsimp only <;> rw [hLive]
    · exact mbFail_spec ..
    all_goals rw [if_neg (by decide), ← hb]
    all_goals simp only [beq_iff_eq]
    all_goals rw [← hStage]
    · rw [hNot]
      exact mbFail_spec ..
    all_goals rw [hOk, if_neg (by decide), hRange]
    · exact mbFail_spec ..
    all_goals rw [if_neg (by decide)]
    · rw [if_pos (bne_iff_ne.2 hKind)]
      exact mbFail_spec ..
    all_goals rw [if_neg (by simpa using hKind), hCheck]; dsimp only
    · rw [on_seq_pair]
      exact ⟨slotFailed_mbFail .., (only_mbFail_parts _ _).frame_flasks (by decide) _⟩
    all_goals rw [hVerify]
    · rcases Bool.eq_false_or_eq_true (leAt (s.slot k.val).args 1 1 == 1) with hFirst | hFirst <;> rw [hFirst]
      · rw [on_either_true, on_either_true, on_seq_cons, on_seq_pair]
        exact slotFailed_mbFail ..
      · rw [on_either_false, on_either_true, on_seq_pair]
        exact slotFailed_mbFail ..
    · by_cases hFirst : leAt (s.slot k.val).args 1 1 = 1
      · rw [if_pos hFirst, beq_iff_eq.2 hFirst, on_either_true, on_either_false]
        exact stagedDone_spec _ _ _ _ _ (fun _ => rfl) s rfl
      · rw [if_neg hFirst, beq_false_of_ne hFirst, on_either_false, on_either_false]
        exact firstDone_spec _ _ _ _ s rfl
  · refine ⟨_, rfl, frame_execMbMouldSwitch k tc s rfl, takesTime_mbMouldSwitch k tc s _ rfl, fun h hPhase => ?_, fun h hPhase hNot => ?_,
      fun h hPhase hLive hStaged hActive hHalt => ⟨fun hState hFault => ?_, fun hState hPour => ?_, fun hState => ?_⟩, fun h => ?_⟩
    on_goal 6 => rw [mbCommand_idleAt tc h]; exact s.movedOn_same tc
    all_goals rw [mbCommand_runsAt tc h, on_rd]; dsimp only; rw [s.movedOn_slot]
    · rw [if_pos hPhase]
      exact s.movedOn_same tc
    all_goals rw [if_neg (not_not.2 hPhase), s.movedOn_flask]
    · rw [if_pos (by simpa [or_assoc] using hNot)]
      exact mbFailAt_spec ..
    all_goals rw [hLive, hStaged, hActive, hHalt, if_neg (by decide), s.movedOn_flaskState, hState]
    · rw [if_pos (by decide), hFault, Bool.false_and, if_neg (by decide)]
      obtain ⟨hDone, hBanks⟩ := switchDone_spec k.val (leAt (s.slot k.val).args 0 1) (s.movedOn tc) rfl
      rw [s.movedOn_flask] at hBanks
      exact ⟨hDone, congrArg Prod.fst hBanks, congrArg Prod.snd hBanks⟩
    · rw [if_neg (by decide), if_neg (by decide), s.movedOn_inPour, hPour, if_neg (by decide), armLocal_spec]
      exact ⟨_, rfl, fun hTarget => if_neg hTarget⟩
    · exact slotFailed_mbFail ..
  · refine ⟨_, rfl, frame_execFlaskHaltPoint f point quiesce frameBoundary tc s rfl, takesTime_flaskHaltPoint f point quiesce frameBoundary tc s _ rfl,
      fun hHalt => ?_, fun h hHalt => ⟨fun hNot => ?_, fun hRun hHere hTime hKind => ?_, fun hRun hHere hTime hKind hStaged => ?_⟩⟩ <;>
      rw [on_timed] <;> dsimp only <;> rw [s.movedOn_flask, hHalt] <;> dsimp only
    · exact s.movedOn_same tc
    all_goals rw [s.movedOn_flaskIn, s.movedOn_tc]
    · rw [show (_ && _) = false by simpa [or_iff_not_imp_left, and_assoc] using hNot]
      exact s.movedOn_same tc
    all_goals rw [hRun, hHere, decide_eq_true hTime, Bool.and_true, Bool.and_true, on_when_true, on_seq_pair]
    · rw [beq_false_of_ne hKind, Bool.false_and, on_when_false]
      obtain ⟨hHalted, hPoint, hQuiesce, hCause, hTc, -, hCores⟩ := haltNow_spec f.val h.cause (if quiesce then point else 0xFFFF) quiesce
        (h.kind == .fault) (s.movedOn tc) rfl
      rw [s.movedOn_mouldPhys] at hCores
      exact ⟨hHalted, hPoint, hQuiesce, hCause, hTc.trans ((only_haltNow (sub_clockFree rfl) _ _ _ _ _).tc _).symm, hCores⟩
    · rw [hKind, hStaged, show (HaltKind.switch == HaltKind.switch && true) = true from rfl, on_when_true]
      have hBanks := banks_switchHalted_haltNow f.val h.cause (if quiesce then point else 0xFFFF) quiesce (HaltKind.switch == .fault)
        (s.movedOn tc)
      rw [s.movedOn_flask] at hBanks
      exact ⟨congrArg Prod.fst hBanks, congrArg Prod.snd hBanks⟩
  · refine ⟨_, rfl, frame_execStartTimeout f tc s rfl, takesTime_startTimeout f tc s _ rfl, fun hReported => ?_,
      fun r hReported => ⟨fun hNot => ?_, fun hStart hTime => ?_⟩⟩ <;>
      rw [on_timed] <;> dsimp only <;> rw [s.movedOn_flask, hReported] <;> dsimp only
    · exact s.movedOn_same tc
    · rw [s.movedOn_tc, show (_ && _) = false by simpa [or_iff_not_imp_left] using hNot]
      exact s.movedOn_same tc
    · rw [s.movedOn_tc, hStart, decide_eq_true hTime]
      refine startMissing_spec _ _ _ _ _ _ ?_ _ (fun _ => rfl) _ rfl
      split
      · exact only_when fun _ => only_mbFail_parts _ _
      · exact only_nop _
  · refine ⟨_, rfl, frame_execTemperSwitch p point s rfl, fun hNot => ?_, fun q hReady hTemper hHere hPoint => ?_⟩ <;> rw [on_rd] <;> dsimp only
    · split
      · rw [show (_ && _) = false by rcases hNot with h | h <;> simp [h]]
        rfl
      · rfl
    · rw [hPoint]
      dsimp only
      rw [hReady, hHere, bne_iff_ne.2 hTemper]
      exact temperSwitched_spec _ _ _ _ _ _ _ s rfl
  · refine ⟨_, rfl, frame_execMbMouldUnload k s rfl, fun h hPhase => ?_, fun h hPhase hNot => ?_, fun h hPhase hActive hState => ?_,
      fun h => mbCommand_idle h⟩ <;> rw [mbCommand_runs h, on_rd] <;> dsimp only
    · rw [if_pos hPhase]
      rfl
    all_goals rw [if_neg (not_not.2 hPhase)]
    · rw [if_pos (by simpa using hNot)]
      exact mbFail_spec ..
    · rw [hActive, if_neg (by rcases hState with hState | hState <;> simp [hState])]
      obtain ⟨hFlask, hCores⟩ := resetFor_spec k.val (leAt (s.slot k.val).args 0 1) s
      rw [hFlask]
      exact ⟨rfl, rfl, fun p hp => (hCores p hp).1⟩
  · refine ⟨_, rfl, frame_execMbFlaskReset k s rfl, fun h hPhase => ?_, fun h hPhase hLive => ?_, fun h hPhase hLive => ?_,
      fun h => mbCommand_idle h⟩ <;> rw [mbCommand_runs h, on_rd] <;> dsimp only
    · rw [if_pos hPhase]
      rfl
    all_goals rw [if_neg (not_not.2 hPhase), hLive]
    · exact mbFail_spec ..
    · rw [if_neg (by decide)]
      obtain ⟨hFlask, hCores⟩ := resetFor_spec k.val (leAt (s.slot k.val).args 0 1) s
      rw [hFlask]
      exact ⟨rfl, rfl, fun p hp => (hCores p hp).1⟩

end Sys2Proof.Proofs
end

section
/-! Queue operations of a core, and the credits and entries of elastic queues (R218, R231, R244, R245, R247). -/
namespace Sys2Proof.Machine

/-! A core as a QOP finds it, once the results due are written: all but its own unit is as before. -/

section
variable (s : State) (p : Nat)

theorem only_due : Eff.Only [.cores] (settle p) := only_settle (List.Subset.refl _) p

theorem State.due_fget {f : Fld} (h : f.inReg = true) (i : Nat) : (s.due p).fget f i = s.fget f i := (only_due p).fget h (by decide) (by simp) s i
theorem State.due_queues : (s.due p).queues = s.queues := (only_due p).frame_queues (by decide) s
theorem State.due_msgs : (s.due p).msgs = s.msgs := (only_due p).frame_msgs (by decide) s
theorem State.due_queue (q : Nat) : (s.due p).queue q = s.queue q := congrArg (NMap.get _ · q) (s.due_queues p)
theorem State.due_module : (s.due p).module = s.module := s.due_fget p (by decide) 0
theorem State.due_qState (q : Nat) : (s.due p).qState q = s.qState q := s.due_fget p (by decide) q
theorem State.due_queueId (c n : Nat) : (s.due p).queueId c n = s.queueId c n := by
  simp only [State.queueId, State.logOf, s.due_fget p (f := F.MOD_ROW_MAP_r_MAP) (by decide)]
theorem State.due_canPost (q : Nat) : (s.due p).canPost q = s.canPost q := by
  simp only [State.canPost, s.due_queue, s.due_qState, State.flag, State.qPort, s.due_fget p (f := F.MOD_HOST_STAT_p_BUS_MASTER) (by decide),
    s.due_fget p (f := F.QUEUE_CTL_PORT) (by decide)]
theorem State.due_spdRd (c a n : Nat) : (s.due p).spdRd c a n = s.spdRd c a n := by simp only [State.spdRd, s.due_spd]

end

theorem Eff.Only.queue {ps : List Part} {e : Eff} (h : e.Only ps) (hp : Part.queues ∉ ps) (s : State) (q : Nat) : (Eff.on e s).queue q = s.queue q :=
  congrArg (NMap.get _ · q) (h.frame_queues hp s)

theorem SameBut.queue {ps : List Part} {s t : State} (h : SameBut ps s t) (hp : Part.queues ∉ ps) (q : Nat) : t.queue q = s.queue q :=
  congrArg (NMap.get _ · q) (h.queues hp)

theorem SameBut.spdRd {ps : List Part} {s t : State} (h : SameBut ps s t) (hp : Part.spd ∉ ps) (p a n : Nat) : t.spdRd p a n = s.spdRd p a n := by
  simp only [State.spdRd, h.spd hp]

theorem State.length_spdRd (s : State) (p a n : Nat) : (s.spdRd p a n).length = n := Mem.length_rdN ..

/-! How a QOP ends: its result code due four cycles on, and the core one cycle further (R218). -/

/-- Where a core is, and the results that are due at it. -/
def State.stand (s : State) (p : Nat) : (Nat × Nat × Nat × List LoopSt) × List (Nat × Nat × Nat) := (s.place p, (s.core p).qopDue)

theorem Eff.Only.keeps_stand {ps : List Part} {e : Eff} (h : e.Only ps)
    (hp : Part.flds ∉ ps ∧ Part.fld .CORE_STAT ∉ ps ∧ Part.fld .CORE_SC ∉ ps ∧ Part.fld .CORE_SEQ ∉ ps ∧ Part.cores ∉ ps) (p : Nat) :
    e.Keeps fun s => s.stand p := fun s => by
  have hPlace := h.keeps_place_off hp p s
  obtain ⟨-, -, -, -, hCores⟩ := hp
  exact Prod.ext hPlace (congrArg CoreSt.qopDue (h.core hCores s p))

theorem keeps_spdWr_stand (p off : Nat) (bs : List Byte) (poison : Bool) (q : Nat) : (spdWr p off bs poison).Keeps fun s => s.stand q := fun s =>
  Prod.ext ((only_spdWr (List.Subset.refl _) p off bs poison).keeps_place (by decide)
      (keeps_spdWr_core (g := CoreSt.loops) (fun _ _ _ => rfl) _ _ _ _ _) s)
    (keeps_spdWr_core (g := CoreSt.qopDue) (fun _ _ _ => rfl) p off bs poison q s)

/-- What is written between a QOP's own effect and the core's next cycle. -/
def cycleParts : List Part := [.cores, .fld .CORE_SC, .fld .CORE_SEQ, .fld .VU_STAT]

theorem keeps_qopResult_place (p d v : Nat) : (qopResult p d v).Keeps fun s => s.place p := by
  refine keeps_rd fun s => Eff.OfCore.place ?_
  exact ofCore_onCore fun _ => rfl

/-- A QOP whose effect ends with a result code, the core still where it was. -/
theorem qop_ends {p d v : Nat} {k : State → Eff} {s u t : State} (h : s.seqReady p = true) (ht : t = Eff.on (seqStep p 1 none (rd k)) s)
    (hCode : Eff.on (k (s.due p)) (s.due p) = Eff.on (qopResult p d v) u) (hStand : u.stand p = (s.due p).stand p) :
    QopCode s t p d v ∧ Advanced s t p 1 ∧ ∃ e : Eff, e.Only cycleParts ∧ t = Eff.on e u := by
  obtain ⟨hPlace, hDue⟩ := Prod.mk.inj hStand
  have hResult : (Eff.on (qopResult p d v) u).place p = s.place p :=
    (keeps_qopResult_place p d v u).trans (hPlace.trans (s.due_place p p))
  have hEnd : t = Eff.on (advance p 1 none) (Eff.on (qopResult p d v) u) := by
    rw [ht, seqStep_ends h (by rw [on_rd, hCode, hResult]), on_rd, hCode]
  have hSc : u.sc p = s.sc p := (congrArg (·.2.1) hPlace).trans (s.due_sc p p)
  refine ⟨?_, hEnd ▸ advance_advanced hResult 1, seq [qopResult p d v, advance p 1 none], only_seq₂ (only_qopResult (by decide) p d v)
    (only_advance (by decide) p 1 none), hEnd.trans (on_seq_pair _ _ u).symm⟩
  rw [QopCode, hEnd, core_advance (g := CoreSt.qopDue) fun _ _ => rfl, qopResult, on_rd, onCore_same, hDue, hSc]

/-- A QOP that only answers changes nothing else. -/
theorem qop_answers {p d v : Nat} {k : State → Eff} {s t : State} (h : s.seqReady p = true) (ht : t = Eff.on (seqStep p 1 none (rd k)) s)
    (hCode : Eff.on (k (s.due p)) (s.due p) = Eff.on (qopResult p d v) (s.due p)) :
    QopCode s t p d v ∧ Advanced s t p 1 ∧ SameBut cycleParts s t := by
  obtain ⟨hQop, hOn, e, he, hEnd⟩ := qop_ends h ht hCode rfl
  refine ⟨hQop, hOn, ?_⟩
  rw [hEnd, State.due, ← on_seq_pair]
  exact (only_seq₂ ((only_due p).mono (by decide)) he).same s

/-- A QOP that acts and then answers: what it has written stands once the core has moved on. -/
theorem qop_acts {p d v : Nat} {k : State → Eff} {s u t : State} (h : s.seqReady p = true) (ht : t = Eff.on (seqStep p 1 none (rd k)) s)
    (hCode : Eff.on (k (s.due p)) (s.due p) = Eff.on (qopResult p d v) u) (hStand : u.stand p = (s.due p).stand p) :
    QopCode s t p d v ∧ Advanced s t p 1 ∧ SameBut cycleParts u t := by
  obtain ⟨hQop, hOn, e, he, hEnd⟩ := qop_ends h ht hCode hStand
  exact ⟨hQop, hOn, hEnd ▸ he.same u⟩

/-! The parts of QOPs (R218, R244). -/

/-- A count that saturates at its register's width. -/
theorem fget_fsat {f : Fld} (hf : f.settable = true) (i n : Nat) (s : State) :
    (Eff.on (fsat f i n) s).fget f i = min (s.fget f i + n) (2 ^ f.len - 1) := by
  have hTop : satAdd (2 ^ f.len - 1) (s.fget f i) n = min (s.fget f i + n) (2 ^ f.len - 1) := by
    rw [satAdd]
    split <;> omega
  rw [on_fsat, Upd.fget_fld_same hf, hTop, Nat.mod_eq_of_lt]
  have hPow : 0 < 2 ^ f.len := Nat.two_pow_pos _
  omega

/-- The entry that a QOP reads is taken from scratchpad, or is a free value. -/
theorem on_qopEntry (p a : Nat) (k : List Byte → Bool → Eff) (s : State) : ∃ (w : Eff) (e : List Byte) (poison : Bool), w.Only [.freeCtr] ∧
    Eff.on (qopEntry p a k) s = Eff.on (k e poison) (Eff.on w s) ∧ (a + 64 ≤ 2 ^ 28 → e = s.spdRd p a 64) := by
  rw [qopEntry, on_rd]
  by_cases ha : a + 64 ≤ 2 ^ 28
  · rw [if_pos ha]
    exact ⟨nop, _, _, only_nop _, rfl, fun _ => rfl⟩
  · rw [if_neg ha]
    exact ⟨upd [.freeCtr (s.freeCtr + 1)], _, _, only_upd (by simp [Upd.part]), on_draw _ s, fun h => absurd h ha⟩

/-- The entry that a QOP delivers is stored in scratchpad, where it fits, and nowhere else. -/
theorem spd_qopDeliver (p a : Nat) (e : List Byte) (poison : Bool) (s : State) :
    (Eff.on (qopDeliver p a e poison) s).spd = if a + 64 ≤ 2 ^ 28 then Mem.wrN s.spd (spdBase p + a) e else s.spd := by
  rw [qopDeliver]
  split
  · exact spd_spdWr p a e poison s
  · rfl

theorem keeps_qopDeliver_stand (p a : Nat) (e : List Byte) (poison : Bool) (q : Nat) : (qopDeliver p a e poison).Keeps fun s => s.stand q := by
  rw [qopDeliver]
  split
  · exact keeps_spdWr_stand p a e poison q
  · exact fun _ => rfl

section
variable {p q d a : Nat} {s : State}

/-! SEND (R244). -/

theorem qopSend_unbound (h : (s.queue q).kind = .unbound) : Eff.on (qopSend p q d a) s = Eff.on (qopResult p d 2) s := by
  rw [qopSend, on_rd]
  dsimp only
  rw [h]

theorem qopSend_noCredit (h : (s.queue q).kind = .elasticTx) (hPeer : faModule (s.queue q).peer = s.module)
    (hDepth : (s.queue (faQueue (s.queue q).peer)).depth ≤ sub16 (s.queue q).sent (s.queue q).consumed) :
    Eff.on (qopSend p q d a) s = Eff.on (qopResult p d 1) (Eff.on (fsat F.CORE_QSTAT_NOCREDIT p 1) s) := by
  rw [qopSend, on_rd]
  dsimp only
  rw [h]
  dsimp only
  rw [State.peerDepth, if_pos hPeer, decide_eq_false hDepth.not_gt, on_either_false, on_seq_pair]

/-- With credit, in order: the entry is read, counted as sent and goes out, and the answer is due. -/
theorem on_qopSend_credit (h : (s.queue q).kind = .elasticTx) (hPeer : faModule (s.queue q).peer = s.module)
    (hDepth : sub16 (s.queue q).sent (s.queue q).consumed < (s.queue (faQueue (s.queue q).peer)).depth) :
    ∃ w m m' : Eff, w.Only [.freeCtr] ∧ m.Only [.msgs, .ports] ∧ m'.Only [.flasks] ∧ Eff.on (qopSend p q d a) s =
      Eff.on (qopResult p d 0) (Eff.on m' (Eff.on m (Eff.on (onQueue q fun x => { x with sent := (x.sent + 1) % 2 ^ 19 }) (Eff.on w s)))) := by
  rw [qopSend, on_rd]
  dsimp only
  rw [h]
  dsimp only
  rw [State.peerDepth, if_pos hPeer, decide_eq_true hDepth, on_either_true]
  obtain ⟨w, e, poison, hw, hEntry, -⟩ := on_qopEntry p a _ s
  rw [hEntry, on_rd, on_seq_cons, on_seq_cons, on_seq_pair]
  refine ⟨w, _, _, hw, only_sendMod (by decide) _ _ _ _ _ _, ?_, rfl⟩
  split
  · exact only_when fun _ => only_onFlask (by decide) _ _
  · exact only_nop _

theorem qopSend_credit (h : (s.queue q).kind = .elasticTx) (hPeer : faModule (s.queue q).peer = s.module)
    (hDepth : sub16 (s.queue q).sent (s.queue q).consumed < (s.queue (faQueue (s.queue q).peer)).depth) :
    ∃ u, Eff.on (qopSend p q d a) s = Eff.on (qopResult p d 0) u ∧ u.stand p = s.stand p ∧ (u.queue q).sent = ((s.queue q).sent + 1) % 2 ^ 19 := by
  obtain ⟨w, m, m', hw, hm, hm', hSend⟩ := on_qopSend_credit h hPeer hDepth (p := p) (d := d) (a := a)
  refine ⟨_, hSend, (hm'.keeps_stand (by decide) p _).trans ((hm.keeps_stand (by decide) p _).trans
    (((only_onQueue (ps := [.queues]) (by decide) q _).keeps_stand (by decide) p _).trans (hw.keeps_stand (by decide) p s))), ?_⟩
  rw [hm'.queue (by decide), hm.queue (by decide), onQueue_same, hw.queue (by decide)]

/-! POP (R231, R245). -/

theorem qopPop_unbound (h : (s.queue q).kind = .unbound) : Eff.on (qopPop p q d a) s = Eff.on (qopResult p d 2) s := by
  rw [qopPop, on_rd]
  dsimp only
  rw [h]

theorem qopPop_empty (h : (s.queue q).kind = .local ∨ (s.queue q).kind = .elasticRx) (hEmpty : (s.queue q).ringCount = 0) :
    Eff.on (qopPop p q d a) s = Eff.on (qopResult p d 1) s := by
  rw [qopPop, on_rd]
  dsimp only
  rcases h with h | h <;> rw [h, if_pos hEmpty]

/-- What a POP leaves: its core still at its place, one entry more taken, and the entry's bytes where it delivers them. -/
structure Popped (s u : State) (p q a from_ : Nat) : Prop where
  stand : u.stand p = s.stand p
  taken : (u.queue q).popped = ((s.queue q).popped + 1) % 65536
  spd : u.spd = if a + 64 ≤ 2 ^ 28 then Mem.wrN s.spd (spdBase p + a) (s.spdRd p from_ 64) else s.spd

theorem Popped.delivered {u : State} {from_ : Nat} (h : Popped s u p q a from_) (ha : a + 64 ≤ 2 ^ 28) :
    u.spdRd p a 64 = s.spdRd p from_ 64 := by
  rw [State.spdRd, h.spd, if_pos ha, Mem.rdN_wrN (State.length_spdRd ..)]

theorem Popped.elsewhere {u : State} {from_ i : Nat} (h : Popped s u p q a from_) (hi : i < spdBase p + a ∨ spdBase p + a + 64 ≤ i) :
    Mem.rd u.spd i = Mem.rd s.spd i := by
  rw [h.spd]
  split
  · exact Mem.rd_wrN_out _ _ _ _ (by rwa [State.length_spdRd])
  · rfl

/-- A POP delivers its entry and then counts it. -/
theorem popped_of_deliver (from_ : Nat) (poison : Bool) {g : QueueSt → QueueSt} (hg : ∀ x, (g x).popped = (x.popped + 1) % 65536) :
    Popped s (Eff.on (onQueue q g) (Eff.on (qopDeliver p a (s.spdRd p from_ 64) poison) s)) p q a from_ := by
  have hCount : Eff.Only [.queues] (onQueue q g) := only_onQueue (by decide) q g
  have hDeliver : Eff.Only [.cores, .spd, .spdPoison] (qopDeliver p a (s.spdRd p from_ 64) poison) := only_qopDeliver (List.Subset.refl _) _ _ _ _
  refine ⟨(hCount.keeps_stand (by decide) p _).trans (keeps_qopDeliver_stand _ _ _ _ p s), ?_, ?_⟩
  · rw [onQueue_same, hg, hDeliver.queue (by decide)]
  · rw [hCount.frame_spd (by decide), spd_qopDeliver]

theorem qopPop_ring (h : (s.queue q).kind = .local ∨ (s.queue q).kind = .elasticRx) (hSome : (s.queue q).ringCount ≠ 0) :
    ∃ u, Eff.on (qopPop p q d a) s = Eff.on (qopResult p d 0) u ∧ Popped s u p q a ((s.queue q).entryAddr (s.queue q).popped) := by
  rw [qopPop, on_rd]
  dsimp only
  rcases h with h | h <;> rw [h, if_neg hSome, on_seq_cons, on_seq_pair] <;>
    exact ⟨_, rfl, popped_of_deliver _ _ fun _ => rfl⟩

theorem qopPop_hostEmpty (h : (s.queue q).kind = .hostSubmit) (hEmpty : (s.queue q).shadow = 0 ∨ s.qState q ≠ 2 ∧ s.qState q ≠ 4) :
    Eff.on (qopPop p q d a) s = Eff.on (qopResult p d 1) s := by
  rw [qopPop, on_rd]
  dsimp only
  rw [h]
  dsimp only
  rw [show (_ && _) = false by rcases hEmpty with hNone | ⟨hOn, hDrain⟩ <;> simp [*], on_either_false]

theorem qopPop_host (h : (s.queue q).kind = .hostSubmit) (hSome : (s.queue q).shadow ≠ 0) (hState : s.qState q = 2 ∨ s.qState q = 4) :
    ∃ u, Eff.on (qopPop p q d a) s = Eff.on (qopResult p d 0) u ∧ (u.queue q).shadow = (s.queue q).shadow - 1 ∧
      Popped s u p q a ((s.queue q).shadowAddr ((s.queue q).fetched + 64 - (s.queue q).shadow)) := by
  have hSync : Eff.Only [.ev, .fld .QUEUE_LEVEL, .fld .QUEUE_STAT, .fld .QUEUE_WM] (queueSync q) := only_queueSync (List.Subset.refl _) q
  rw [qopPop, on_rd]
  dsimp only
  rw [h]
  dsimp only
  rw [show (_ && _) = true by rcases hState with hOn | hOn <;> simp [hSome, hOn], on_either_true, on_seq_cons, on_seq_cons, on_seq_pair]
  obtain ⟨hStand, hTaken, hSpd⟩ := popped_of_deliver (s := s) (p := p) (q := q) (a := a)
    ((s.queue q).shadowAddr ((s.queue q).fetched + 64 - (s.queue q).shadow))
    (s.spdPoisoned p ((s.queue q).shadowAddr ((s.queue q).fetched + 64 - (s.queue q).shadow)) 64)
    (g := fun x => { x with shadow := x.shadow - 1, popped := (x.popped + 1) % 65536 }) fun _ => rfl
  refine ⟨_, rfl, ?_, (hSync.keeps_stand (by decide) p _).trans hStand, ?_, ?_⟩
  · rw [hSync.queue (by decide), onQueue_same, (only_qopDeliver (List.Subset.refl _) _ _ _ _).queue (by decide)]
  · rwa [hSync.queue (by decide)]
  · rwa [hSync.frame_spd (by decide)]

/-! POST (R231). -/

theorem qopPost_unbound (h : (s.queue q).kind = .unbound) : Eff.on (qopPost p q d a) s = Eff.on (qopResult p d 2) s := by
  rw [qopPost, on_rd]
  dsimp only
  rw [h]

theorem qopPost_full (h : (s.queue q).kind = .local) (hFull : (s.queue q).depth ≤ (s.queue q).ringCount) :
    Eff.on (qopPost p q d a) s = Eff.on (qopResult p d 1) s := by
  rw [qopPost, on_rd]
  dsimp only
  rw [h]
  dsimp only
  rw [decide_eq_false hFull.not_gt, on_either_false]

theorem qopPost_hostFull (h : (s.queue q).kind = .hostPost) (hFull : s.canPost q = false) :
    Eff.on (qopPost p q d a) s = Eff.on (qopResult p d 1) s := by
  rw [qopPost, on_rd]
  dsimp only
  rw [h]
  dsimp only
  rw [hFull, on_either_false]

theorem qopPost_host (h : (s.queue q).kind = .hostPost) (hRoom : s.canPost q = true) :
    ∃ u, Eff.on (qopPost p q d a) s = Eff.on (qopResult p d 0) u ∧ u.stand p = s.stand p := by
  rw [qopPost, on_rd]
  dsimp only
  rw [h]
  dsimp only
  obtain ⟨w, e, poison, hw, hEntry, -⟩ := on_qopEntry p a (fun e _ => postAccept q e) s
  rw [hRoom, on_either_true, on_seq_pair, hEntry]
  exact ⟨_, rfl, ((only_postAccept (List.Subset.refl _) q e).keeps_stand (by decide) p _).trans (hw.keeps_stand (by decide) p s)⟩

/-- An entry pushed on a ring is counted, and stands in scratchpad at the ring's end. -/
theorem ringPush_spec (p q : Nat) (e : List Byte) (poison : Bool) (s : State) :
    (Eff.on (ringPush p q e poison) s).stand p = s.stand p ∧
    ((Eff.on (ringPush p q e poison) s).queue q).written = ((s.queue q).written + 1) % 65536 ∧
    (Eff.on (ringPush p q e poison) s).spd = Mem.wrN s.spd (spdBase p + (s.queue q).entryAddr (s.queue q).written) e := by
  have hCount (g : QueueSt → QueueSt) : Eff.Only [.queues] (onQueue q g) := only_onQueue (by decide) q g
  rw [ringPush, on_rd, on_seq_pair]
  refine ⟨((hCount _).keeps_stand (by decide) p _).trans (keeps_spdWr_stand _ _ _ _ p s), ?_, ?_⟩
  · rw [onQueue_same, (only_spdWr (List.Subset.refl _) _ _ _ _).queue (by decide)]
  · rw [(hCount _).frame_spd (by decide), spd_spdWr]

theorem qopPost_ring (h : (s.queue q).kind = .local) (hRoom : (s.queue q).ringCount < (s.queue q).depth) :
    ∃ u, Eff.on (qopPost p q d a) s = Eff.on (qopResult p d 0) u ∧ u.stand p = s.stand p ∧
      (u.queue q).written = ((s.queue q).written + 1) % 65536 ∧
      (a + 64 ≤ 2 ^ 28 → u.spd = Mem.wrN s.spd (spdBase p + (s.queue q).entryAddr (s.queue q).written) (s.spdRd p a 64)) := by
  rw [qopPost, on_rd]
  dsimp only
  rw [h]
  dsimp only
  obtain ⟨w, e, poison, hw, hEntry, hBytes⟩ := on_qopEntry p a (fun e poison => ringPush p q e poison) s
  rw [decide_eq_true hRoom, on_either_true, on_seq_pair, hEntry]
  obtain ⟨hStand, hWritten, hSpd⟩ := ringPush_spec p q e poison (Eff.on w s)
  rw [hw.queue (by decide)] at hWritten hSpd
  rw [hw.frame_spd (by decide)] at hSpd
  exact ⟨_, rfl, hStand.trans (hw.keeps_stand (by decide) p s), hWritten, fun ha => by rw [hSpd, hBytes ha]⟩

/-! Credits and entries from a peer (R244, R247). -/

/-- Credit sent covers every entry popped. -/
theorem credited_creditSend (q : Nat) (s : State) : ((Eff.on (creditSend q) s).queue q).credited = (s.queue q).popped := by
  rw [creditSend, on_rd]
  dsimp only
  rw [on_seq_pair, onQueue_same, (only_sendMod (List.Subset.refl _) _ _ _ _ _ _).queue (by decide)]

/-- An entry that finds no room is counted at its core and stored nowhere. -/
theorem overrun_spec (p q m fidx tag status fa : Nat) (b : Bool) (s : State) {t : State}
    (ht : t = Eff.on (seq [queueOverrun p q, when b (writeFault m fidx tag status fa)]) s) : t.queues = s.queues ∧ t.spd = s.spd ∧
    t.fget F.CORE_QSTAT_OVERRUN p = min (s.fget F.CORE_QSTAT_OVERRUN p + 1) (2 ^ F.CORE_QSTAT_OVERRUN.len - 1) := by
  have hAll : Eff.Only [.ev, .fld .CORE_QSTAT, .msgs, .ports] (seq [queueOverrun p q, when b (writeFault m fidx tag status fa)]) :=
    only_seq₂ (only_queueOverrun (by decide) p q) (only_when fun _ => only_writeFault (by decide) m fidx tag status fa)
  have hFault : Eff.Only [.msgs, .ports] (when b (writeFault m fidx tag status fa)) :=
    only_when fun _ => only_writeFault (List.Subset.refl _) m fidx tag status fa
  subst ht
  refine ⟨hAll.frame_queues (by decide) s, hAll.frame_spd (by decide) s, ?_⟩
  rw [on_seq_pair, hFault.fget (by decide) (by decide) (by decide), queueOverrun, on_rd, on_seq_pair,
    (only_raise (ps := [.ev]) (by decide) _ _ _ _).fget (by decide) (by decide) (by decide), fget_fsat (by decide)]

/-! LEVEL (R218). -/

theorem qopLevel_unbound (h : (s.queue q).kind = .unbound) : Eff.on (qopLevel p q d) s = Eff.on (qopResult p d (2 * 2 ^ 32)) s := by
  rw [qopLevel, on_rd]
  dsimp only
  rw [h]

theorem qopLevel_ring (h : (s.queue q).kind = .local ∨ (s.queue q).kind = .elasticRx) :
    Eff.on (qopLevel p q d) s = Eff.on (qopResult p d (s.queue q).ringCount) s := by
  rw [qopLevel, on_rd]
  dsimp only
  rcases h with h | h <;> rw [h]

theorem qopLevel_sent (h : (s.queue q).kind = .elasticTx) :
    Eff.on (qopLevel p q d) s = Eff.on (qopResult p d (sub16 (s.queue q).sent (s.queue q).consumed)) s := by
  rw [qopLevel, on_rd]
  dsimp only
  rw [h]

theorem qopLevel_host (h : (s.queue q).kind = .hostSubmit ∨ (s.queue q).kind = .hostPost) :
    Eff.on (qopLevel p q d) s = Eff.on (qopResult p d (s.queue q).live) s := by
  rw [qopLevel, on_rd]
  dsimp only
  rcases h with h | h <;> rw [h]

end

end Sys2Proof.Machine

namespace Sys2Proof.Proofs
open Sys2Proof.Machine

/-- Settles O10: a QOP acts on its queue and leaves its result code due four cycles on. -/
theorem queueCommandsAct : Obligations.QueueCommandsAct := by
  refine ⟨fun c queue d areg addr s => ?_, fun c queue d areg addr s => ?_, fun c queue d areg addr s => ?_, fun c queue d s => ?_,
    fun queue s => ?_, fun queue n s => ?_, fun queue peer tag entry poison s => ?_⟩
  · obtain ⟨t, ht⟩ : ∃ t, t = Eff.on (seqStep c.val 1 none (rd fun s =>
        qopSend c.val (s.queueId c.val queue.val) d.val (s.qopAddr c.val areg.val addr.toNat))) s := ⟨_, rfl⟩
    have hNext : exec (.qopSend c queue d areg addr) s = .next t := by rw [ht]; rfl
    refine ⟨t, hNext, frame_execQopSend c queue d areg addr s hNext, fun h q hq hKind => ?_,
      fun h q hq hKind hPeer => ⟨fun hDepth => ?_, fun hDepth => ?_⟩, fun h => ht.trans (seqStep_waits h _ _ _)⟩ <;>
      (rw [← s.due_queueId c.val] at hq; subst hq; simp only [← s.due_queue c.val] at *)
    · exact qop_answers h ht (qopSend_unbound hKind)
    all_goals rw [← s.due_module c.val] at hPeer
    · obtain ⟨u, hCode, hStand, hSent⟩ := qopSend_credit hKind hPeer hDepth (p := c.val) (d := d.val)
        (a := (s.due c.val).qopAddr c.val areg.val addr.toNat)
      obtain ⟨hQop, hOn, hSame⟩ := qop_acts h ht hCode hStand
      exact ⟨hQop, hOn, by rw [hSame.queue (by decide), hSent]⟩
    · have hCount : Eff.Only [.fld .CORE_QSTAT] (fsat F.CORE_QSTAT_NOCREDIT c.val 1) := only_fsat (by decide) _ _
      obtain ⟨hQop, hOn, hSame⟩ := qop_acts h ht (qopSend_noCredit hKind hPeer hDepth) (hCount.keeps_stand (by decide) c.val _)
      refine ⟨hQop, hOn, ?_, ?_, ?_⟩
      · rw [hSame.queues (by decide), hCount.frame_queues (by decide), s.due_queues]
      · rw [hSame.msgs (by decide), hCount.frame_msgs (by decide), s.due_msgs]
      · rw [hSame.fld _ _ (by decide) (by decide) (by decide), fget_fsat (by decide), s.due_fget c.val (by decide)]
  · obtain ⟨t, ht⟩ : ∃ t, t = Eff.on (seqStep c.val 1 none (rd fun s =>
        qopPop c.val (s.queueId c.val queue.val) d.val (s.qopAddr c.val areg.val addr.toNat))) s := ⟨_, rfl⟩
    have hNext : exec (.qopPop c queue d areg addr) s = .next t := by rw [ht]; rfl
    refine ⟨t, hNext, frame_execQopPop c queue d areg addr s hNext, fun h q hq hKind => ?_,
      fun h q hq hKind => ⟨fun hEmpty => ?_, fun hSome => ?_⟩, fun h q hq hKind => ⟨fun hEmpty => ?_, fun hSome hState => ?_⟩,
      fun h => ht.trans (seqStep_waits h _ _ _)⟩ <;>
      (rw [← s.due_queueId c.val] at hq; subst hq; simp only [← s.due_queue c.val, ← s.due_qState c.val, ← s.due_spdRd c.val] at *)
    · obtain ⟨hQop, hOn, -⟩ := qop_answers h ht (qopPop_unbound hKind)
      exact ⟨hQop, hOn⟩
    · obtain ⟨hQop, -, hSame⟩ := qop_answers h ht (qopPop_empty hKind hEmpty)
      exact ⟨hQop, hSame.queues (by decide), hSame.spd (by decide)⟩
    · obtain ⟨u, hCode, hPop⟩ := qopPop_ring hKind hSome (p := c.val) (d := d.val)
        (a := (s.due c.val).qopAddr c.val areg.val addr.toNat)
      obtain ⟨hQop, -, hSame⟩ := qop_acts h ht hCode hPop.stand
      refine ⟨hQop, by rw [hSame.queue (by decide), hPop.taken], fun a ha => ?_⟩
      subst ha
      exact ⟨fun hFits => by rw [hSame.spdRd (by decide), hPop.delivered hFits], fun i hi => by
        rw [hSame.spd (by decide), hPop.elsewhere hi, s.due_spd]⟩
    · obtain ⟨hQop, -, hSame⟩ := qop_answers h ht (qopPop_hostEmpty hKind hEmpty)
      exact ⟨hQop, hSame.queues (by decide), hSame.spd (by decide)⟩
    · obtain ⟨u, hCode, hShadow, hPop⟩ := qopPop_host hKind hSome hState (p := c.val) (d := d.val)
        (a := (s.due c.val).qopAddr c.val areg.val addr.toNat)
      obtain ⟨hQop, -, hSame⟩ := qop_acts h ht hCode hPop.stand
      refine ⟨hQop, by rw [hSame.queue (by decide), hPop.taken], by rw [hSame.queue (by decide), hShadow], fun a ha hFits => ?_⟩
      subst ha
      rw [hSame.spdRd (by decide), hPop.delivered hFits]
  · obtain ⟨t, ht⟩ : ∃ t, t = Eff.on (seqStep c.val 1 none (rd fun s =>
        qopPost c.val (s.queueId c.val queue.val) d.val (s.qopAddr c.val areg.val addr.toNat))) s := ⟨_, rfl⟩
    have hNext : exec (.qopPost c queue d areg addr) s = .next t := by rw [ht]; rfl
    refine ⟨t, hNext, frame_execQopPost c queue d areg addr s hNext, fun h q hq hKind => ?_,
      fun h q hq hKind => ⟨fun hFull => ?_, fun hRoom => ?_⟩, fun h q hq hKind => ⟨fun hRoom => ?_, fun hFull => ?_⟩,
      fun h => ht.trans (seqStep_waits h _ _ _)⟩ <;>
      (rw [← s.due_queueId c.val] at hq; subst hq; simp only [← s.due_queue c.val, ← s.due_canPost c.val, ← s.due_spdRd c.val] at *)
    · obtain ⟨hQop, hOn, -⟩ := qop_answers h ht (qopPost_unbound hKind)
      exact ⟨hQop, hOn⟩
    · obtain ⟨hQop, -, hSame⟩ := qop_answers h ht (qopPost_full hKind hFull)
      exact ⟨hQop, hSame.queues (by decide), hSame.spd (by decide)⟩
    · obtain ⟨u, hCode, hStand, hWritten, hSpd⟩ := qopPost_ring hKind hRoom (p := c.val) (d := d.val)
        (a := (s.due c.val).qopAddr c.val areg.val addr.toNat)
      obtain ⟨hQop, -, hSame⟩ := qop_acts h ht hCode hStand
      refine ⟨hQop, by rw [hSame.queue (by decide), hWritten], fun a ha hFits => ?_⟩
      subst ha
      rw [hSame.spdRd (by decide), State.spdRd, hSpd hFits, Mem.rdN_wrN (State.length_spdRd ..)]
    · obtain ⟨u, hCode, hStand⟩ := qopPost_host hKind hRoom (p := c.val) (d := d.val) (a := (s.due c.val).qopAddr c.val areg.val addr.toNat)
      exact (qop_acts h ht hCode hStand).1
    · obtain ⟨hQop, -, hSame⟩ := qop_answers h ht (qopPost_hostFull hKind hFull)
      exact ⟨hQop, hSame.queues (by decide)⟩
  · obtain ⟨t, ht⟩ : ∃ t, t = Eff.on (seqStep c.val 1 none (rd fun s => qopLevel c.val (s.queueId c.val queue.val) d.val)) s := ⟨_, rfl⟩
    have hNext : exec (.qopLevel c queue d) s = .next t := by rw [ht]; rfl
    refine ⟨t, hNext, frame_execQopLevel c queue d s hNext, fun h q hq => ?_, fun h q hq hKind => ?_, fun h q hq hKind => ?_,
      fun h q hq hKind => ?_, fun h q hq hKind => ?_, fun h => ht.trans (seqStep_waits h _ _ _)⟩ <;>
      (rw [← s.due_queueId c.val] at hq; subst hq)
    · obtain ⟨-, hOn, hSame⟩ := qop_answers h ht rfl
      exact ⟨hOn, hSame.queues (by decide)⟩
    all_goals simp only [← s.due_queue c.val] at *
    · exact (qop_answers h ht (qopLevel_unbound hKind)).1
    · exact (qop_answers h ht (qopLevel_ring hKind)).1
    · exact (qop_answers h ht (qopLevel_sent hKind)).1
    · exact (qop_answers h ht (qopLevel_host hKind)).1
  · refine ⟨_, rfl, frame_execCreditTimer queue s rfl, fun x hx hKind hOwed hBatch => ?_, fun hNot => ?_⟩ <;> rw [on_rd] <;> dsimp only
    · subst hx
      rw [hKind, bne_iff_ne.2 hOwed, decide_eq_true hBatch, Bool.true_or, show (QKind.elasticRx == QKind.elasticRx && true && true) = true from rfl,
        on_when_true]
      exact credited_creditSend ..
    · rw [show ((s.queue queue.val).kind == .elasticRx && (s.queue queue.val).popped != (s.queue queue.val).credited) = false by
        rcases hNot with h | h <;> simp [h], Bool.false_and, on_when_false]
  · refine ⟨_, rfl, frame_execCreditPacket queue n s rfl, fun hKind => ?_, fun hKind => ?_⟩ <;> rw [creditTake, on_rd]
    · rw [hKind, show (QKind.elasticTx == QKind.elasticTx) = true from rfl, on_when_true, onQueue_same, Nat.mod_eq_of_lt n.isLt]
    · rw [beq_false_of_ne hKind, on_when_false]
  · refine ⟨_, rfl, frame_execElasticEntryArrival queue peer tag entry poison s rfl, fun hNone => ?_, fun p hPhys hKind =>
      ⟨fun hPeer hRoom hLen => ?_, fun hNot => ?_⟩⟩ <;> rw [entryArrive, on_rd] <;> dsimp only
    · rw [hNone]
      rfl
    all_goals rw [hPhys]; dsimp only; rw [hKind, show (QKind.elasticRx == QKind.elasticRx) = true from rfl, on_when_true]
    · rw [hPeer, decide_eq_true hRoom, beq_self_eq_true, Bool.and_self, on_either_true, List.take_of_length_le hLen.le, hLen, Nat.sub_self,
        List.replicate_zero, List.append_nil]
      obtain ⟨-, hWritten, hSpd⟩ := ringPush_spec p queue.val entry poison s
      rw [State.spdRd, hSpd]
      exact ⟨hWritten, Mem.rdN_wrN hLen _ _⟩
    · rw [show (_ && _) = false by rcases hNot with h | h <;> simp [h], on_either_false]
      exact overrun_spec _ _ _ _ _ _ _ _ _ rfl

end Sys2Proof.Proofs
end

section
/-! The Sprue and the Vent: beats received and driven, the slip detector, elastic credits, halt notices and flits (R352 to R384). -/
namespace Sys2Proof.Machine

/-! Bits of a field. -/

theorem bitOf_setBit_same (v b : Nat) : bitOf (setBit v b) b = true := by
  rw [setBit]
  split
  · assumption
  · next h =>
    rw [bitOf_eq_testBit] at h ⊢
    rw [Nat.add_comm, Nat.testBit_two_pow_add_eq, Bool.eq_false_of_not_eq_true h, Bool.not_false]

theorem bitOf_clrBit_same (v b : Nat) : bitOf (clrBit v b) b = false := by
  rw [clrBit]
  split
  · next h =>
    rw [bitOf_eq_testBit] at h ⊢
    obtain ⟨w, rfl⟩ := Nat.exists_eq_add_of_le (Nat.ge_two_pow_of_testBit h)
    rw [Nat.testBit_two_pow_add_eq] at h
    rw [Nat.add_sub_cancel_left]
    exact Bool.not_eq_true' _ ▸ h
  · next h => exact Bool.eq_false_of_not_eq_true h

/-- The bit of a field that is written reads as the value written. -/
theorem bitOf_fbit {f : Fld} (hf : f.settable = true) (i : Nat) {b : Nat} (hb : b < f.len) (v : Bool) (s : State) :
    bitOf ((Eff.on (fbit f i b v) s).fget f i) b = v := by
  rw [on_fbit, Upd.fget_fld_same hf, bitOf_eq_testBit, Nat.testBit_mod_two_pow, decide_eq_true hb, Bool.true_and, ← bitOf_eq_testBit]
  cases v
  · exact bitOf_clrBit_same ..
  · exact bitOf_setBit_same ..

/-! Fields and tags read after an effect. -/

/-- A write of one field leaves a field at another register, place or width alone. -/
theorem keeps_fset_other {f g : Fld} (h : (f.inReg && g.inReg && (f.reg != g.reg || f.lo != g.lo || f.len != g.len)) = true) (i j v : Nat) :
    (fset f i v).Keeps fun s => s.fget g j := fun s => Upd.fget_fld_other h i j v s

/-- An effect that does not write a field's register leaves the field alone. -/
theorem Eff.Only.keeps_fget {ps : List Part} {e : Eff} (h : e.Only ps) {f : Fld}
    (hf : f.inReg = true ∧ Part.flds ∉ ps ∧ Part.fld f.reg ∉ ps) (i : Nat) : e.Keeps fun s => s.fget f i := by
  obtain ⟨hIn, hFlds, hReg⟩ := hf
  exact fun s => h.fget hIn hFlds hReg s i

/-- The frame and epoch of a schedule cycle stand where neither the flasks nor TC_FRAME are written (R367). -/
theorem Eff.Only.tagAt {ps : List Part} {e : Eff} (h : e.Only ps) (hp : Part.flds ∉ ps ∧ Part.fld .TC_FRAME ∉ ps ∧ Part.flasks ∉ ps) (s : State)
    (f c : Nat) : (Eff.on e s).tagAt f c = s.tagAt f c := by
  obtain ⟨hFlds, hFrame, hFlasks⟩ := hp
  simp only [State.tagAt, State.frame, h.flask hFlasks, h.fget (f := F.TC_FRAME_FRAME) (by decide) hFlds hFrame,
    h.fget (f := F.TC_FRAME_EPOCH) (by decide) hFlds hFrame]

/-! A beat on an output (R352, R354). -/

/-- An output of a router that leads to a neighbour, not to a port stop (R356). -/
def toNeighbour (p out : Nat) : Prop := (p / 16 ≠ 0 ∨ out ≠ 4) ∧ (p / 16 ≠ 9 ∨ out ≠ 5)

theorem drive_sent {p out : Nat} (h : toNeighbour p out) (b : Beat) (s : State) :
    Sent s (Eff.on (drive p out b) s) toSprue .beat ([p, out] ++ beatFields b) := by
  obtain ⟨hNorth, hSouth⟩ := h
  rw [drive, on_rd, if_neg (by omega)]
  rfl

theorem on_dispatch_out {e : SprSlot} (h : e.out < 8) (p k : Nat) (b : Beat) (lost : List Nat) (s : State) :
    Eff.on (dispatch p [(e, k)] b lost) s = Eff.on (drive p e.out b) s := by
  rw [dispatch, on_each_cons, on_each_nil, if_neg h.ne, decide_eq_true h, on_when_true]

/-! The slip detector (R367, R368). -/

/-- A slip of a router's has been counted, with DESYNC set. -/
def Slipped (s t : State) (p : Nat) : Prop :=
  t.fget F.CLK_CHG_STAT_DESYNC 0 = 1 ∧
    t.fget F.SPR_SLIP_COUNT p = min (s.fget F.SPR_SLIP_COUNT p + 1) (2 ^ F.SPR_SLIP_COUNT.len - 1)

theorem slip_spec (p f input cause slot flow origin seen : Nat) (cul tag : Nat × Nat) (epoch : Nat) (s : State) {t : State}
    (ht : t = Eff.on (slip p f input cause slot flow origin seen cul tag epoch) s) :
    Slipped s t p := by
  have hHalt (b c : Bool) (x : Nat) : Eff.Only [.dec, .flasks, .msgs] (seq [send toVent .haltNotice [f], faultHaltAtFrame f 3,
      when b (seq [haltBeacon 1, when c (decisionFails x epoch)])]) :=
    only_seq₃ (only_send (by decide) _ _ _) (only_faultHaltAtFrame (by decide) _ _)
      (only_when fun _ => only_seq₂ (only_haltBeacon (by decide) 1) (only_when fun _ => only_decisionFails (by decide) _ _))
  subst ht
  rw [slip, on_rd, on_seq_cons]
  refine ⟨?_, (keeps_seq_cons (g := fun s => s.fget F.SPR_SLIP_COUNT p) ?_ (keeps_seq_cons ?_ (keeps_seq_cons
    (keeps_fset_other (by decide) _ _ _) ((hHalt _ _ _).keeps_fget (by decide) p))) _).trans (fget_fsat (by decide) p 1 s)⟩
  · rw [on_seq_cons, on_seq_cons, on_seq_cons, (hHalt _ _ _).fget (by decide) (by decide) (by decide), on_fset, Upd.fget_fld_same (by decide)]
    rfl
  · have hOther {g : Fld} (hg : (g.inReg && F.SPR_SLIP_COUNT.inReg && (g.reg != F.SPR_SLIP_COUNT.reg || g.lo != F.SPR_SLIP_COUNT.lo ||
        g.len != F.SPR_SLIP_COUNT.len)) = true) (v : Nat) : (fset g p v).Keeps fun s => s.fget F.SPR_SLIP_COUNT p := keeps_fset_other hg p p v
    exact keeps_when <| keeps_seq_cons (hOther (by decide) _) <| keeps_seq_cons (hOther (by decide) _) <| keeps_seq_cons (hOther (by decide) _) <|
      keeps_seq_cons (hOther (by decide) _) <| keeps_seq_cons (hOther (by decide) _) <| keeps_seq₂ (hOther (by decide) _) (hOther (by decide) _)
  · exact Eff.Only.keeps_fget (ps := [.cores, .ev, .faults, .fld .MOD_FAULT_STAT]) (only_when fun _ =>
      only_seq₂ (only_onCore (by decide) _ _) (only_culpritReport (by decide) _ _ _ _ _ _ _ _ _ _)) (by decide) p

section
variable {p f i sc k : Nat} {e : SprSlot} {b : Beat} {lost : List Nat} {s : State}

/-- A beat that passes the checks of its slot's entry goes where the entry sends it (R361). -/
theorem on_inputSlot_passes (h : slipCause e (s.tagAt f (sc - e.latency)) true b = 0) :
    Eff.on (inputSlot p f i sc [(e, k)] true b lost) s = Eff.on (dispatch p [(e, k)] b lost) s := by
  rw [inputSlot, on_rd]
  dsimp only
  rw [if_pos rfl, h, show ((0 : Nat) != 0) = false from rfl, on_seq_pair, on_when_false, if_pos rfl]

/-- One that fails a check is a slip, counted with DESYNC set, and goes on poisoned (R367, R368). -/
theorem inputSlot_slips (h : slipCause e (s.tagAt f (sc - e.latency)) true b ≠ 0) {t : State}
    (ht : t = Eff.on (inputSlot p f i sc [(e, k)] true b lost) s) :
    Slipped s t p := by
  have hOn : Eff.Only [.cores, .ev, .fld .SPR_ERR, .msgs, .ports, .spd, .spdPoison] (dispatch p [(e, k)] (beatPoison b) lost) :=
    only_dispatch (List.Subset.refl _) _ _ _ _
  subst ht
  rw [inputSlot, on_rd]
  dsimp only
  rw [if_pos rfl, bne_iff_ne.2 h, on_seq_pair, on_when_true, if_neg h, Slipped, hOn.fget (by decide) (by decide) (by decide),
    hOn.fget (by decide) (by decide) (by decide)]
  exact slip_spec _ _ _ _ _ _ _ _ _ _ _ s rfl

end

/-! Parity errors (R358). -/

/-- The parity errors of a router: their count, and whether one was seen. -/
def State.parityErrs (s : State) (p : Nat) : Nat × Nat := (s.fget F.SPR_ERR_PARITY p, s.fget F.SPR_ERR_PARITY_SEEN p)

theorem Eff.Only.keeps_parityErrs {ps : List Part} {e : Eff} (h : e.Only ps) (hp : Part.flds ∉ ps ∧ Part.fld .SPR_ERR ∉ ps) (q : Nat) :
    e.Keeps fun s => s.parityErrs q := fun s => by
  obtain ⟨hFlds, hErr⟩ := hp
  exact Prod.ext (h.fget (by decide) hFlds hErr s q) (h.fget (by decide) hFlds hErr s q)

/-- An overwritten buffer entry is told in another bit of SPR_ERR (R363). -/
theorem keeps_bufArrive_parityErrs (p n : Nat) (b : Beat) (q : Nat) : (bufArrive p n b).Keeps fun s => s.parityErrs q := by
  have hRow (g : CoreSt → CoreSt) : (onCore p g).Keeps fun s => s.parityErrs q :=
    (only_onCore (ps := [.cores]) (by decide) p g).keeps_parityErrs (by decide) q
  have hMark : (fset F.SPR_ERR_OVERWRITE p 1).Keeps fun s => s.parityErrs q := fun s =>
    Prod.ext (Upd.fget_fld_other (by decide) p q 1 s) (Upd.fget_fld_other (by decide) p q 1 s)
  refine keeps_rd fun s => keeps_either (keeps_seq_cons (hRow _) (keeps_seq₂ hMark ?_)) (hRow _)
  exact (only_raise (ps := [.ev]) (by decide) _ _ _ _).keeps_parityErrs (by decide) q

theorem keeps_localArrive_parityErrs (p : Nat) (e : SprSlot) (k : Nat) (b : Beat) (lost : List Nat) (q : Nat) :
    (localArrive p e k b lost).Keeps fun s => s.parityErrs q := by
  refine keeps_seq₂ ?_ (keeps_when ((only_arriveBy (List.Subset.refl _) _ _ _).keeps_parityErrs (by decide) q))
  split
  · exact keeps_bufArrive_parityErrs _ _ _ _
  · exact (only_spdWrLost (List.Subset.refl _) _ _ _ _ _).keeps_parityErrs (by decide) q

theorem keeps_dispatch_parityErrs (p : Nat) (es : List (SprSlot × Nat)) (b : Beat) (lost : List Nat) (q : Nat) :
    (dispatch p es b lost).Keeps fun s => s.parityErrs q := by
  refine keeps_each fun x => ?_
  split
  · exact keeps_localArrive_parityErrs _ _ _ _ _ _
  · exact keeps_when ((only_drive (List.Subset.refl _) _ _ _).keeps_parityErrs (by decide) q)

theorem keeps_inputSlot_parityErrs (p f i sc : Nat) (es : List (SprSlot × Nat)) (readable : Bool) (b : Beat) (lost : List Nat) (q : Nat) :
    (inputSlot p f i sc es readable b lost).Keeps fun s => s.parityErrs q := by
  have hSlip {p f i cause slot flow origin seen : Nat} {cul tag : Nat × Nat} {epoch : Nat} :
      (slip p f i cause slot flow origin seen cul tag epoch).Keeps fun s => s.parityErrs q :=
    (only_slip (List.Subset.refl _) _ _ _ _ _ _ _ _ _ _ _).keeps_parityErrs (by decide) q
  refine keeps_rd fun s => ?_
  split
  · exact keeps_when hSlip
  · exact keeps_seq₂ (keeps_when hSlip) (keeps_dispatch_parityErrs _ _ _ _ _)

/-- A parity error is counted and marked seen before it is raised. -/
theorem parityErrs_counted (p : Nat) (w : State → Who) (d : State → List (Nat × Nat)) (s : State) :
    (Eff.on (seq [fsat F.SPR_ERR_PARITY p 1, fset F.SPR_ERR_PARITY_SEEN p 1, rd fun s => raise 0x0501 1 (w s) (d s)]) s).parityErrs p =
      (min (s.fget F.SPR_ERR_PARITY p + 1) (2 ^ F.SPR_ERR_PARITY.len - 1), 1) := by
  have hTold : Eff.Only [.ev] (rd fun s => raise 0x0501 1 (w s) (d s)) := only_rd fun _ => only_raise (by decide) _ _ _ _
  rw [on_seq_cons, on_seq_pair]
  refine (hTold.keeps_parityErrs (by decide) p _).trans (Prod.ext ?_ (Upd.fget_fld_same (by decide) p 1 _))
  exact (keeps_fset_other (by decide) p p 1 _).trans (fget_fsat (by decide) p 1 s)

/-! A beat received. -/

section
variable {c : CoreId} {i : Fin 8} {sc : Nat} {b : Beat} {rsp : Bool} {cr : Fin 5 × Fin 5} {s t : State}

/-- A beat whose parity fails is counted, and seen (R358). -/
theorem beatReceive_parity {lost : List (Nat × Nat)} (h : exec (.sprueBeatReceive c i sc b .parity rsp cr lost) s = .next t) :
    t.parityErrs c.val = (min (s.fget F.SPR_ERR_PARITY c.val + 1) (2 ^ F.SPR_ERR_PARITY.len - 1), 1) := by
  have hCredit : Eff.Only [.cores] (elasticCredit c.val i.val cr.1.val cr.2.val) := only_elasticCredit (List.Subset.refl _) _ _ _ _
  have hLost : Eff.Only [.ev, .fld .SPD_CONFLICT] (each lost fun x => spdConflict c.val x.2 77) :=
    only_each fun _ _ => only_spdConflict (List.Subset.refl _) _ _ _
  have hElastic (r e z : Bool) (x : Beat) : Eff.Only [.cores, .fld .SPR_ELASTIC, .msgs] (either r (when e (elasticIn c.val i.val rsp x))
      (when z (seq [fsat F.SPR_ELASTIC_LOST c.val 1, send toSprue .credit [c.val, i.val, b2n rsp]]))) :=
    only_either (only_when fun _ => only_elasticIn (List.Subset.refl _) _ _ _ _) (only_when fun _ =>
      only_seq₂ (only_fsat (by decide) _ _) (only_send (by decide) _ _ _))
  cases h
  rw [on_rd]
  dsimp only
  rw [on_seq_cons, on_seq_cons, on_seq_cons]
  refine (keeps_seq_cons (g := fun s => s.parityErrs c.val) (hLost.keeps_parityErrs (by decide) _)
    (keeps_seq₂ ?_ ((hElastic _ _ _ _).keeps_parityErrs (by decide) _)) _).trans ?_
  · split
    · exact keeps_when (keeps_inputSlot_parityErrs _ _ _ _ _ _ _ _ _)
    · exact fun _ => rfl
  · rw [← hCredit.fget (by decide) (by decide) (by decide) s]
    exact parityErrs_counted ..

/-- A beat in a scheduled slot, with no fault of its own, meets the slot's entries once the credits of its link are back (R361, R370). -/
theorem beatReceive_scheduled {f : Nat} (hBeat : b.elastic = false) (hFlask : s.flaskOf c.val = some f) (hRun : s.scheduled c.val = true)
    (hTable : s.sprPeriod c.val ≠ 0) (hSlot : elasticSlot sc = false) (h : exec (.sprueBeatReceive c i sc b .none rsp cr []) s = .next t) :
    t = Eff.on (inputSlot c.val f i.val sc (s.slotsAt c.val i.val sc) true b [])
      (Eff.on (elasticCredit c.val i.val cr.1.val cr.2.val) s) := by
  cases h
  rw [on_rd]
  dsimp only
  rw [on_seq_cons, on_seq_cons, on_seq_cons, on_seq_cons, on_seq_pair, hFlask, hRun, bne_iff_ne.2 hTable, hSlot]
  change Eff.on (when (b.elastic && _) _) _ = _
  rw [hBeat]
  rfl

/-- Such a beat in a slot with one entry passes its checks and goes where the entry sends it, or is a slip (R361, R367, R368). -/
theorem beatReceive_entry {f k : Nat} {e : SprSlot} (hBeat : b.elastic = false) (hFlask : s.flaskOf c.val = some f)
    (hRun : s.scheduled c.val = true) (hTable : s.sprPeriod c.val ≠ 0) (hSlot : elasticSlot sc = false)
    (hEntry : s.slotsAt c.val i.val sc = [(e, k)]) (h : exec (.sprueBeatReceive c i sc b .none rsp cr []) s = .next t) :
    (slipCause e (s.tagAt f (sc - e.latency)) true b = 0 → e.out < 8 → toNeighbour c.val e.out →
      Sent s t toSprue .beat ([c.val, e.out] ++ beatFields b)) ∧
    (slipCause e (s.tagAt f (sc - e.latency)) true b ≠ 0 → Slipped s t c.val) := by
  have hCredit : Eff.Only [.cores] (elasticCredit c.val i.val cr.1.val cr.2.val) := only_elasticCredit (List.Subset.refl _) _ _ _ _
  have hAt := beatReceive_scheduled hBeat hFlask hRun hTable hSlot h
  rw [hEntry] at hAt
  rw [← hCredit.tagAt (by decide)]
  refine ⟨fun hPass hOut hLink => ?_, fun hSlip => ?_⟩
  · rw [hAt, on_inputSlot_passes hPass, on_dispatch_out hOut, Sent, ← hCredit.frame_msgs (by decide) s]
    exact drive_sent hLink b _
  · rw [Slipped, ← hCredit.fget (by decide) (by decide) (by decide) s]
    exact inputSlot_slips hSlip hAt

end

/-! What leaves a router (R354, R369, R370). -/

/-- An entry with SRC 8 of a core in RUN sends the 128 bytes at its place in scratchpad under its flow (R354, R357). -/
theorem departs_scratchpad {p f k sc : Nat} {e : SprSlot} {lost : List Nat} {s : State} (hSrc : e.src = 8) (hRun : s.coreState p = 3)
    (hLink : toNeighbour p e.out) : ∃ b : Beat, Sent s (Eff.on (departs p f e k sc lost) s) toSprue .beat ([p, e.out] ++ beatFields b) ∧
      b.flow = e.flow ∧ b.null = false ∧ b.payload = s.spdRd p (e.addr % 2 ^ 28 + k * e.step * 128) 128 := by
  rw [departs, on_rd]
  dsimp only
  rw [if_neg (not_not.2 hRun), if_pos hSrc]
  exact ⟨_, drive_sent hLink _ s, rfl, rfl, rfl⟩

section
variable {c : CoreId} {o : Fin 8} {sc : Nat} {s t : State}

/-- A scheduled departure of an output that one entry names is that entry's (R354, R361). -/
theorem departure_scheduled {f k : Nat} {e : SprSlot} (hFlask : s.flaskOf c.val = some f) (hClk : s.gclk.bubbled = false)
    (hTable : s.sprPeriod c.val ≠ 0) (hSlot : elasticSlot sc = false)
    (hEntry : (s.slotsAt c.val 8 sc ++ s.slotsAt c.val 9 sc).filter (fun x => x.1.out == o.val) = [(e, k)])
    (h : exec (.sprueDeparture c o sc .scheduled []) s = .next t) : e.out = o.val ∧ t = Eff.on (departs c.val f e k sc []) s := by
  have hMem : (e, k) ∈ (s.slotsAt c.val 8 sc ++ s.slotsAt c.val 9 sc).filter (fun x => x.1.out == o.val) := hEntry ▸ List.mem_singleton_self _
  refine ⟨beq_iff_eq.1 (List.mem_filter.1 hMem).2, ?_⟩
  cases h
  rw [on_rd]
  dsimp only
  rw [hFlask, hClk, bne_iff_ne.2 hTable, hSlot, hEntry]
  change Eff.on (seq [each [] _, each [(e, k)] _]) s = _
  rw [on_seq_pair, on_each_nil, on_each_cons, on_each_nil]
  rfl

/-- An elastic beat with room and a credit goes out, spends the credit and is counted (R369, R370). -/
theorem departure_injects {rsp : Bool} {b : Beat} {lost : List (Nat × Nat)} (hRoom : elasticSlot sc = true ∨ s.scheduled c.val = false)
    (hCredit : NMap.get 0 (s.core c.val).elUsed (o.val * 2 + b2n rsp) < 4)
    (h : exec (.sprueDeparture c o sc (.inject rsp b) lost) s = .next t) :
    NMap.get 0 (t.core c.val).elUsed (o.val * 2 + b2n rsp) = NMap.get 0 (s.core c.val).elUsed (o.val * 2 + b2n rsp) + 1 ∧
      t.fget F.SPR_ELASTIC_SENT c.val = (s.fget F.SPR_ELASTIC_SENT c.val + 1) % 2 ^ F.SPR_ELASTIC_SENT.len := by
  have hDrive (b : Beat) : Eff.Only [.msgs, .ports] (drive c.val o.val b) := only_drive (List.Subset.refl _) _ _ _
  have hCount : Eff.Only [.fld .SPR_ELASTIC] (fadd F.SPR_ELASTIC_SENT c.val 1) := only_fadd (by decide) _ _
  have hSpend (g : CoreSt → CoreSt) : Eff.Only [.cores] (onCore c.val g) := only_onCore (by decide) _ _
  have hElastic : (elasticSlot sc || !s.scheduled c.val) = true := by rcases hRoom with h | h <;> simp [h]
  cases h
  rw [on_rd]
  dsimp only
  rw [hElastic, decide_eq_true hCredit, Bool.and_self, on_when_true, on_seq_cons, on_seq_pair]
  refine ⟨?_, ?_⟩
  · rw [hCount.core (by decide), (hDrive _).core (by decide), onCore_same, NMap.get_put_same]
  · rw [on_fadd, Upd.fget_fld_same (by decide), (hDrive _).fget (by decide) (by decide) (by decide),
      (hSpend _).fget (by decide) (by decide) (by decide)]

/-- Without room or without a credit it stays where it is. -/
theorem departure_waits {rsp : Bool} {b : Beat} {lost : List (Nat × Nat)}
    (hNot : 4 ≤ NMap.get 0 (s.core c.val).elUsed (o.val * 2 + b2n rsp) ∨ (elasticSlot sc = false ∧ s.scheduled c.val = true))
    (h : exec (.sprueDeparture c o sc (.inject rsp b) lost) s = .next t) : t = s := by
  have hStays : ((elasticSlot sc || !s.scheduled c.val) && decide (NMap.get 0 (s.core c.val).elUsed (o.val * 2 + b2n rsp) < 4)) = false := by
    rcases hNot with h | ⟨hSlot, hRun⟩
    · rw [decide_eq_false (Nat.not_lt.2 h), Bool.and_false]
    · rw [hSlot, hRun]
      rfl
  cases h
  rw [on_rd]
  dsimp only
  rw [hStays, on_when_false]

end

/-! Halt notices (R368). -/

theorem on_faultHaltAtFrame_idle {f : Nat} {s : State} (h : s.flaskIn f 3 = false) (cause : Nat) :
    Eff.on (faultHaltAtFrame f cause) s = s := by
  rw [faultHaltAtFrame, faultHaltFrom, on_rd, h, on_when_false]

theorem halt_faultHaltAtFrame {f : Nat} {s : State} (h : s.flaskIn f 3 = true) (cause : Nat) :
    ((Eff.on (faultHaltAtFrame f cause) s).flask f).halt = some { kind := .fault, quiesce := false, target := 0, slot := none, cause } := by
  rw [faultHaltAtFrame, faultHaltFrom, on_rd, h, on_when_true, onFlask_same]

/-! Flits of a Vent link (R65, R376). -/

section
variable {l : Fin 31} {h : ClusterId} {k : Fin 3} {hd : Bool} {occ : Fin 9} {s t : State}

/-- A flit with a good CRC ends the link's failures in a row and, with a header, counts a packet. -/
theorem flitReceive_good (hUp : bitOf (s.fget F.VNT_STAT_UP 0) l.val = true) (ht : exec (.ventFlitReceive l h k hd occ true) s = .next t) :
    NMap.get 0 t.faults.vent l.val = 0 ∧
      (hd = true → t.fget F.CLU_VENT_PACKETS h.val = (s.fget F.CLU_VENT_PACKETS h.val + 1) % 2 ^ F.CLU_VENT_PACKETS.len) := by
  have hCount : Eff.Only [.fld .CLU_VENT] (when hd (fadd F.CLU_VENT_PACKETS h.val 1)) := only_when fun _ => only_fadd (by decide) _ _
  cases ht
  rw [on_rd]
  dsimp only
  rw [hUp, on_when_true, on_either_true, on_seq_cons, on_seq_pair, on_fmax]
  refine ⟨?_, ?_⟩
  · rw [Upd.fld_faults, hCount.frame_faults (by decide), on_upd, applyAll_cons, applyAll_nil, Upd.faults_faults, NMap.get_put_same]
  · rintro rfl
    refine Eq.trans (b := (Eff.on (when true (fadd F.CLU_VENT_PACKETS h.val 1)) _).fget F.CLU_VENT_PACKETS h.val) ?_
      (Upd.fget_fld_same (by decide) _ _ _)
    split <;> exact Upd.fget_fld_other (by decide) _ _ _ _

/-- A bad flit short of the eighth in a row is counted as sent again. -/
theorem flitReceive_retry (hUp : bitOf (s.fget F.VNT_STAT_UP 0) l.val = true) (hFew : NMap.get 0 s.faults.vent l.val + 1 < 8)
    (ht : exec (.ventFlitReceive l h k hd occ false) s = .next t) :
    NMap.get 0 t.faults.vent l.val = NMap.get 0 s.faults.vent l.val + 1 ∧
      t.fget F.VNT_ERR_RETRIES 0 = min (s.fget F.VNT_ERR_RETRIES 0 + 1) (2 ^ F.VNT_ERR_RETRIES.len - 1) := by
  cases ht
  rw [on_rd]
  dsimp only
  rw [hUp, on_when_true, on_either_false, decide_eq_false (by omega), on_either_false, on_seq_pair]
  refine ⟨?_, fget_fsat (by decide) ..⟩
  rw [on_fsat, Upd.fld_faults, on_upd, applyAll_cons, applyAll_nil, Upd.faults_faults, NMap.get_put_same]

/-- The eighth in a row takes the link out of service. -/
theorem flitReceive_down (hUp : bitOf (s.fget F.VNT_STAT_UP 0) l.val = true) (hEighth : 8 ≤ NMap.get 0 s.faults.vent l.val + 1)
    (ht : exec (.ventFlitReceive l h k hd occ false) s = .next t) :
    bitOf (t.fget F.VNT_STAT_UP 0) l.val = false ∧ bitOf (t.fget F.VNT_ERR_LINK_DOWN 0) l.val = true := by
  have hFatal (k : State → List (Nat × Nat)) : Eff.Only [.dbg, .ev, .faults, .flasks, .fld .CORE_STAT, .fld .DBG_HOLD, .fld .MOD_FAULT_STAT,
      .fld .MOD_MB_SUMMARY, .fld .SPR_STAT, .hostOut, .hports, .msgs, .slots] (rd fun s => fatal 0x0503 { nobody with cluster := h.val } (k s)) :=
    only_rd fun s => only_fatal (List.Subset.refl _) _ _ _
  have hDown : Eff.Only [.fld .VNT_ERR] (fbit F.VNT_ERR_LINK_DOWN 0 l.val true) := only_fbit (by decide) _ _ _
  cases ht
  rw [on_rd]
  dsimp only
  rw [hUp, on_when_true, on_either_false, decide_eq_true hEighth, on_either_true, on_seq_cons, on_seq_cons, on_seq_pair,
    (hFatal _).fget (by decide) (by decide) (by decide), (hFatal _).fget (by decide) (by decide) (by decide)]
  refine ⟨?_, bitOf_fbit (by decide) 0 l.isLt true _⟩
  rw [hDown.fget (by decide) (by decide) (by decide)]
  exact bitOf_fbit (by decide) 0 l.isLt false _

end

end Sys2Proof.Machine

namespace Sys2Proof.Proofs
open Sys2Proof.Machine

/-- Settles O17: each command of a router or a Vent link is taken apart into what it checks, what it drives and what it counts. -/
theorem sprueAndVentCommandsAct : Obligations.SprueAndVentCommandsAct := by
  refine ⟨fun c i sc b f rsp cr lost s => ?_, fun c o sc w lost s => ?_, fun c s => ?_, fun l h k hd occ ok s => ?_⟩
  · refine ⟨_, rfl, frame_execSprueBeatReceive c i sc b f rsp cr lost s rfl, ?_, ?_⟩
    · rintro rfl
      exact Prod.mk.inj (beatReceive_parity rfl)
    · rintro fl e k rfl rfl hBeat hFlask hRun hTable hSlot hEntry
      obtain ⟨hPass, hSlip⟩ := beatReceive_entry hBeat hFlask hRun hTable hSlot hEntry rfl
      exact ⟨fun hCause hOut hNorth hSouth => hPass hCause hOut ⟨hNorth, hSouth⟩, hSlip⟩
  · refine ⟨_, rfl, frame_execSprueDeparture c o sc w lost s rfl, ?_, ?_⟩
    · rintro fl e k rfl rfl hFlask hClk hTable hSlot hEntry hSrc hRun hNorth hSouth
      obtain ⟨hOut, hDeparts⟩ := departure_scheduled hFlask hClk hTable hSlot hEntry rfl
      rw [hDeparts, ← hOut]
      exact departs_scratchpad hSrc hRun (hOut.symm ▸ ⟨hNorth, hSouth⟩)
    · rintro rsp b rfl n rfl
      exact ⟨fun hRoom hCredit => departure_injects (lost := lost) hRoom hCredit rfl, fun hNot => departure_waits (lost := lost) hNot rfl⟩
  · refine ⟨_, rfl, frame_execHaltNotice c s rfl, fun hNone => ?_, fun f hFlask => ?_⟩ <;> rw [on_rd]
    · rw [hNone]
      rfl
    · rw [hFlask]
      exact ⟨fun hNot => on_faultHaltAtFrame_idle hNot 3, fun hRun =>
        ⟨(only_faultHaltAtFrame (List.Subset.refl _) f 3).same s, halt_faultHaltAtFrame hRun 3⟩⟩
  · refine ⟨_, rfl, frame_execVentFlitReceive l h k hd occ ok s rfl, fun hDown => ?_, ?_, ?_⟩
    · rw [on_rd]
      dsimp only
      rw [hDown, on_when_false]
    · rintro hUp rfl
      exact flitReceive_good hUp rfl
    · rintro n rfl hUp rfl
      exact ⟨fun hFew => flitReceive_retry hUp hFew rfl, fun hEighth => flitReceive_down hUp hEighth rfl⟩

end Sys2Proof.Proofs
end

section
/-! Runner links: a superframe before its direction has come to the peer's START_SEQ (R423, R424). -/
namespace Sys2Proof.Machine

/-- A direction that has not come to its START_SEQ carries superframes in clear: none of them fails authentication (R424). -/
theorem authFail_superframeReceive_clear {p : PortId} {sf : Superframe} {tc : Nat} {s t : State} (hCrc : sf.crcOk = true)
    (hClear : (s.port p.val).keys.rxOn = false) (hBefore : started (s.port p.val).keys.rxFrom (some sf.seq) = false)
    (ht : exec (.superframeReceive p sf tc) s = .next t) : t.fget F.RUN_ERR_AUTH_FAIL p.val = s.fget F.RUN_ERR_AUTH_FAIL p.val := by
  have hPorts (g : PortSt → PortSt) : Eff.Only [.ports] (onPort p.val g) := only_onPort (by decide) _ _
  have hAgain : Eff.Only [.fld .RUN_ELASTIC, .ports] (resend p.val) := only_resend (List.Subset.refl _) _
  cases ht
  rw [on_timed]
  dsimp only
  rw [s.movedOn_port, hCrc, if_pos rfl, hClear, hBefore, Bool.or_false, Bool.and_false, Bool.false_and]
  refine (keeps_when (g := fun s => s.fget F.RUN_ERR_AUTH_FAIL p.val) (keeps_seq_cons ?_ <| keeps_seq_cons ?_ <| keeps_seq_cons ?_ <|
    keeps_seq_cons ?_ keeps_seq_nil) _).trans (s.movedOn_fget tc (f := F.RUN_ERR_AUTH_FAIL) (by decide) _)
  · exact (only_fadd (ps := [.fld .RUN_FEC]) (by decide) _ _).keeps_fget (by decide) _
  · exact (only_fsat (ps := [.fld .RUN_FEC]) (by decide) _ _).keeps_fget (by decide) _
  · exact keeps_when (keeps_fset_other (by decide) _ _ _)
  · exact keeps_seq_cons ((hPorts _).keeps_fget (by decide) _) <| keeps_seq₂
      (keeps_seq_cons ((hPorts _).keeps_fget (by decide) _) <| keeps_seq₂
        ((only_ackTo (List.Subset.refl _) _ _).keeps_fget (by decide) _) (keeps_when (hAgain.keeps_fget (by decide) _)))
      keeps_seq_nil

end Sys2Proof.Machine

namespace Sys2Proof.Proofs
open Sys2Proof.Machine

/-- An UP port that is keyed and whose peer encrypts from SF_SEQ 100 on. -/
def keyedFrom100 : State := applyAll [.fld F.RUN_STAT_STATE 0 4, .fld F.RUN_STAT_ENCRYPTED 0 1,
  .ports 0 { PortSt.down with keys := { PortSt.down.keys with rxFrom := some 100 } }] State.reset

/-- The superframe of SF_SEQ 0, which the peer still sends in clear and so without a tag. -/
def clearSuperframe : Superframe :=
  { seq := 0, sender := 0, port := 0, creditReq := 0, creditRsp := 0, eAck := 0, eNak := false, laneMap := 0, keyEpoch := 0, crcOk := true,
    tagOk := false, corrected := 0, uncorr := 0, badCtl := 0, cells := [] }

/-- Refutes O19: ENCRYPTED is set as KEY_ACCEPT ends the exchange, and up to the peer's START_SEQ its superframes come in clear (R424), so one
without a tag that holds does not set AUTH_FAIL. -/
theorem not_runnerLinkCommandsAct : ¬ Obligations.RunnerLinkCommandsAct := by
  rintro ⟨-, -, -, -, hReceive, -⟩
  obtain ⟨t, ht, -, -, -, -, hAuthFail, -⟩ := hReceive 0 clearSuperframe 0 keyedFrom100
  have hSet : t.fget F.RUN_ERR_AUTH_FAIL 0 = 1 := hAuthFail (by decide) (by decide) (.inr rfl)
  have hKept := authFail_superframeReceive_clear rfl (by decide) (by decide) ht
  exact absurd (hSet.symm.trans hKept) (by decide)

end Sys2Proof.Proofs
end

section
/-! Pours: leaving one, and the formation's messages and time limits (R407, R417 to R422). -/
namespace Sys2Proof.Machine

/-! Ports read after an effect. -/

/-- An effect that writes no port leaves each of them as it was. -/
theorem Eff.Only.port {ps : List Part} {e : Eff} (h : e.Only ps) (hp : Part.ports ∉ ps) (s : State) (p : Nat) : (Eff.on e s).port p = s.port p := by
  rw [State.port, State.port, h.frame_ports hp]

theorem SameBut.port {ps : List Part} {s t : State} (h : SameBut ps s t) (hp : Part.ports ∉ ps) (p : Nat) : t.port p = s.port p := by
  rw [State.port, State.port, h.ports hp]

/-! Registers back at reset. -/

/-- A register of the module that returns to its reset value has each of its fields there. -/
theorem fget_regReset {r : Reg} {f : Fld} (hf : f ∈ r.fields) (hSet : ∀ g ∈ r.fields, g.settable = true) {i : Nat} (hi : i < r.copies)
    (s : State) : (Eff.on (regReset r i) s).fget f i = f.resetAt i := by
  have hWrites : regReset r i s = fieldWrites (fun g => some (g.resetAt i)) i r.fields := by simp [regReset, fieldWrites]
  rw [Eff.on, hWrites, fget_fieldWrites _ i r (fun g hg _ => hSet g hg) hf]
  exact Nat.mod_eq_of_lt (Reg.resetAt_lt hf hi)

/-- MOD_POUR_ID reads 0 where both of its fields do (R56). -/
theorem regVal_MOD_POUR_ID {s : State} (hModule : s.module = 0) (hTag : s.pourTag = 0) : s.regVal .MOD_POUR_ID 0 = 0 := by
  rw [State.module] at hModule
  rw [State.pourTag] at hTag
  simp [State.regVal, Reg.fields, hModule, hTag]

/-! What formation leaves alone of a port (R418, R422). -/

/-- A field of RUN_STAT that formation never writes: one that is neither TREE_UP nor POUR_LINK. -/
def Fld.ofLink (f : Fld) : Bool :=
  f.inReg && f.reg == .RUN_STAT && f.lo != F.RUN_STAT_TREE_UP.lo && f.lo != F.RUN_STAT_POUR_LINK.lo

section
variable {f : Fld} (hf : f.ofLink = true) (i : Nat)
include hf

theorem Eff.Only.keeps_link {ps : List Part} {e : Eff} (h : e.Only ps) (hp : Part.flds ∉ ps ∧ Part.fld .RUN_STAT ∉ ps) :
    e.Keeps fun s => s.fget f i := by
  simp only [Fld.ofLink, Bool.and_eq_true, beq_iff_eq] at hf
  obtain ⟨⟨⟨hIn, hReg⟩, -⟩, -⟩ := hf
  exact h.keeps_fget ⟨hIn, hp.1, hReg ▸ hp.2⟩ i

theorem keeps_treeUp_link (p v : Nat) : (fset F.RUN_STAT_TREE_UP p v).Keeps fun s => s.fget f i := by
  simp only [Fld.ofLink, Bool.and_eq_true, bne_iff_ne, ne_eq] at hf
  obtain ⟨⟨⟨hIn, -⟩, hTree⟩, -⟩ := hf
  exact keeps_fset_other (by simp [hIn, Ne.symm hTree]; decide) _ _ _

theorem keeps_pourLink_link (p v : Nat) : (fset F.RUN_STAT_POUR_LINK p v).Keeps fun s => s.fget f i := by
  simp only [Fld.ofLink, Bool.and_eq_true, bne_iff_ne, ne_eq] at hf
  obtain ⟨⟨⟨hIn, -⟩, -⟩, hLink⟩ := hf
  exact keeps_fset_other (by simp [hIn, Ne.symm hLink]; decide) _ _ _

theorem keeps_pourClear_link : pourClear.Keeps fun s => s.fget f i :=
  keeps_rd fun _ => keeps_seq_cons ((only_regReset (ps := [.fld .MOD_POUR_ID]) (by decide) _).keeps_link hf i (by decide)) <|
    keeps_seq_cons ((only_regReset (ps := [.fld .TC_ALIGN_STAT]) (by decide) _).keeps_link hf i (by decide)) <| keeps_seq₂
      (Eff.Only.keeps_link (ps := [.pour, .align, .ctl]) hf i (only_upd (by simp [Upd.part])) (by decide))
      (keeps_each fun _ => keeps_seq₂ (keeps_treeUp_link hf i _ _) (keeps_pourLink_link hf i _ _))

theorem keeps_pourAbort_link (status : Nat) : (pourAbort status).Keeps fun s => s.fget f i :=
  keeps_rd fun _ => keeps_when <|
    keeps_seq₂ (keeps_each fun k => (only_mbFail_parts k status).keeps_link hf i (by decide)) (keeps_pourClear_link hf i)

theorem keeps_formedReport_link (routes : List (Nat × Nat)) : (formedReport routes).Keeps fun s => s.fget f i := by
  have hSend (p : Nat) (k : MsgKind) (fs : List Nat) : (send p k fs).Keeps fun s => s.fget f i :=
    (only_send (ps := [.msgs]) (by decide) p k fs).keeps_link hf i (by decide)
  refine keeps_rd fun s => keeps_when ?_
  split
  · exact fun _ => rfl
  · exact keeps_seq₂ (Eff.Only.keeps_link (ps := [.pour]) hf i (only_upd (by simp [Upd.part])) (by decide)) <| keeps_either (hSend _ _ _) <|
      keeps_either (keeps_seq₂ (hSend _ _ _) ((only_pourFormed (List.Subset.refl _) routes).keeps_link hf i (by decide)))
        (keeps_seq₂ (hSend _ _ _) (keeps_pourAbort_link hf i _))

theorem keeps_pourFail_link (status : Nat) : (pourFail status).Keeps fun s => s.fget f i :=
  keeps_rd fun _ => keeps_when <| keeps_seq₂ (Eff.Only.keeps_link (ps := [.pour]) hf i (only_upd (by simp [Upd.part])) (by decide))
    (keeps_formedReport_link hf i [])

theorem keeps_helloDone_link : helloDone.Keeps fun s => s.fget f i :=
  keeps_rd fun _ => keeps_when <| keeps_seq₂ ((only_formStart (List.Subset.refl _)).keeps_link hf i (by decide)) (keeps_formedReport_link hf i [])

end

/-! The end of a formation (R418, R422). -/

/-- Nothing of the formation is left: no plan, no tag, no forwarding table, and the module is FREE. -/
theorem pourClear_spec (s : State) : (Eff.on pourClear s).pour = PourSt.none ∧ (Eff.on pourClear s).module = 0 ∧
    (Eff.on pourClear s).pourTag = 0 ∧ (Eff.on pourClear s).fget F.TC_ALIGN_STAT_STATE 0 = 0 := by
  have hPorts : Eff.Only [.fld .RUN_STAT] (each (List.range 24) fun p => seq [fset F.RUN_STAT_TREE_UP p 0, fset F.RUN_STAT_POUR_LINK p 0]) :=
    only_each fun _ _ => only_seq₂ (only_fset (by decide) _ _) (only_fset (by decide) _ _)
  have hAlign : Eff.Only [.fld .TC_ALIGN_STAT] (regReset .TC_ALIGN_STAT 0) := only_regReset (by decide) 0
  rw [pourClear, on_rd, on_seq_cons, on_seq_cons, on_seq_pair, hPorts.frame_pour (by decide), State.module, State.pourTag,
    hPorts.fget (by decide) (by decide) (by decide), hPorts.fget (by decide) (by decide) (by decide),
    hPorts.fget (by decide) (by decide) (by decide), on_upd]
  refine ⟨rfl, ?_, ?_, fget_regReset (r := .TC_ALIGN_STAT) (by decide) (by decide) (by decide) _⟩
  · exact (hAlign.fget (f := F.MOD_POUR_ID_MODULE) (by decide) (by decide) (by decide) _ _).trans
      (fget_regReset (r := .MOD_POUR_ID) (by decide) (by decide) (by decide) _)
  · exact (hAlign.fget (f := F.MOD_POUR_ID_POUR_TAG) (by decide) (by decide) (by decide) _ _).trans
      (fget_regReset (r := .MOD_POUR_ID) (by decide) (by decide) (by decide) _)

/-! MB_POUR_LEAVE (R422). -/

/-- What a running MB_POUR_LEAVE does, on a module as it stands. -/
def pourLeave (k : Nat) : Eff := rd fun s => if s.pourRuns then mbFail k 0x0228 else seq [pourClear, mbDone k 0]

theorem pourLeave_refused {k : Nat} {s : State} (h : s.pourRuns = true) : SlotFailed (Eff.on (pourLeave k) s) k 0x0228 ∧
    (Eff.on (pourLeave k) s).pour = s.pour ∧ (Eff.on (pourLeave k) s).regVal .MOD_POUR_ID 0 = s.regVal .MOD_POUR_ID 0 := by
  rw [pourLeave, on_rd, if_pos h]
  refine ⟨slotFailed_mbFail k _ s, (only_mbFail_parts k _).frame_pour (by decide) s, ?_⟩
  simp only [State.regVal, Reg.fields, List.foldl_cons, List.foldl_nil]
  rw [(only_mbFail_parts k _).fget (by decide) (by decide) (by decide), (only_mbFail_parts k _).fget (by decide) (by decide) (by decide)]

theorem pourLeave_leaves {k : Nat} {s : State} (h : s.pourRuns = false) : SlotDone (Eff.on (pourLeave k) s) k 0 ∧
    (Eff.on (pourLeave k) s).regVal .MOD_POUR_ID 0 = 0 ∧ (Eff.on (pourLeave k) s).fget F.TC_ALIGN_STAT_STATE 0 = 0 ∧
      (Eff.on (pourLeave k) s).pour.routes = [] := by
  obtain ⟨hPour, hModule, hTag, hState⟩ := pourClear_spec s
  rw [pourLeave, on_rd, h, if_neg Bool.false_ne_true, on_seq_pair]
  have hEnd : Eff.Only mbParts (mbDone k 0) := only_mbDone_parts k 0
  refine ⟨slotDone_mbDone k 0 _, regVal_MOD_POUR_ID ?_ ?_, ?_, ?_⟩
  · exact (hEnd.fget (by decide) (by decide) (by decide) _ _).trans hModule
  · exact (hEnd.fget (by decide) (by decide) (by decide) _ _).trans hTag
  · exact (hEnd.fget (by decide) (by decide) (by decide) _ _).trans hState
  · rw [hEnd.frame_pour (by decide), hPour]
    rfl

theorem portState_pourLeave (k p : Nat) (s : State) : (Eff.on (pourLeave k) s).portState p = s.portState p := by
  rw [pourLeave, on_rd]
  split
  · exact (only_mbFail_parts k _).keeps_link (f := F.RUN_STAT_STATE) (by decide) p (by decide) s
  · exact keeps_seq₂ (keeps_pourClear_link (f := F.RUN_STAT_STATE) (by decide) p)
      ((only_mbDone_parts k 0).keeps_link (by decide) p (by decide)) s

end Sys2Proof.Machine

namespace Sys2Proof.Proofs
open Sys2Proof.Machine

/-- Settles O52: leaving clears what formation wrote, which is neither the state nor the keys of a port. -/
theorem leavingThePour : Obligations.LeavingThePour := by
  intro k s hRuns
  have hLeave : exec (.mbPourLeave k) s = .next (Eff.on (pourLeave k.val) s) :=
    congrArg Host.Outcome.next (mbCommand_runs (e := fun _ => pourLeave k.val) hRuns)
  refine ⟨_, hLeave, frame_execMbPourLeave k s hLeave, pourLeave_refused, pourLeave_leaves, fun p => ⟨portState_pourLeave k.val p s, ?_⟩⟩
  rw [(frame_execMbPourLeave k s hLeave).port (by decide)]

end Sys2Proof.Proofs
end

section
/-! Pours as they form: HELLO, FORM, REPORT, ABORT, slot digests and the time limits (R407, R418 to R420, R422). -/
namespace Sys2Proof.Machine

/-! The end and the completion of a formation (R418). -/

theorem pourAbort_spec {s : State} (h : s.pour.phase = 1) (status : Nat) :
    (Eff.on (pourAbort status) s).pour = PourSt.none ∧ (Eff.on (pourAbort status) s).pourTag = 0 := by
  rw [pourAbort, on_rd, beq_iff_eq.2 h, on_when_true, on_seq_pair]
  exact ⟨(pourClear_spec _).1, (pourClear_spec _).2.2.1⟩

theorem pourAbort_idle {s : State} (h : s.pour.phase ≠ 1) (status : Nat) : Eff.on (pourAbort status) s = s := by
  rw [pourAbort, on_rd, beq_false_of_ne h, on_when_false]

theorem pour_pourFormed {s : State} (h : s.pour.phase = 1) (routes : List (Nat × Nat)) :
    (Eff.on (pourFormed routes) s).pour = { s.pour with phase := 2, routes } := by
  rw [pourFormed, on_rd, beq_iff_eq.2 h, on_when_true, on_seq_pair, (only_each fun k _ => only_mbDone_parts k 0).frame_pour (by decide)]
  rfl

/-! Reports (R418, R420). -/

/-- A module that is not the master and now has all reports of the formation sends its own to its parent, once. -/
theorem formedReport_rises {s : State} {r : Report} (hPhase : s.pour.phase = 1) (hOnce : s.pour.formedSent = false) (hMaster : s.pourMaster = false)
    (hAll : s.treeReport 1 = some r) (routes : List (Nat × Nat)) :
    (Eff.on (formedReport routes) s).pour.formedSent = true ∧ Sent s (Eff.on (formedReport routes) s) toParent .report r.fields := by
  rw [formedReport, on_rd, hPhase, hOnce, beq_self_eq_true, Bool.not_false, Bool.and_true, on_when_true, hAll]
  dsimp only
  rw [hMaster, Bool.not_false, on_seq_pair, on_either_true]
  exact ⟨rfl, rfl⟩

/-- So does one that now has all reports of the start. -/
theorem readyReport_rises {s : State} {r : Report} (hPhase : s.pour.phase = 2) (hOnce : s.pour.readySent = false) (hMaster : s.pourMaster = false)
    (hAll : s.treeReport 2 = some r) :
    (Eff.on readyReport s).pour.readySent = true ∧ Sent s (Eff.on readyReport s) toParent .report r.fields := by
  rw [readyReport, on_rd, hPhase, beq_self_eq_true, on_when_true, hMaster, on_either_false, hOnce, Bool.not_false, on_when_true, hAll]
  dsimp only
  rw [on_seq_pair]
  exact ⟨rfl, rfl⟩

/-- The plan with a report of a port noted in the place of the one of its phase. -/
def PourSt.noted (x : PourSt) (port : Nat) (r : Report) : PourSt :=
  { x with reports := (x.reports.filter (fun y => !(y.1 == port && y.2.phase == r.phase))) ++ [(port, r)] }

/-- A report that a module in a pour receives is noted, and then its own may rise. -/
theorem report_runs {port : PortId} {phase : Fin 3} {count digest bindSum status failing : Nat} {routes : List (Nat × Nat)} {s t : State}
    (hPour : s.pourTag ≠ 0) (ht : exec (.report port phase count digest bindSum status failing routes) s = .next t) :
    t = Eff.on (if phase.val = 1 then formedReport routes else if phase.val = 2 then readyReport else nop)
      { s with pour := s.pour.noted port.val { phase := phase.val, count, digest, bindSum, status, failing } } := by
  cases ht
  rw [on_rd]
  dsimp only
  rw [bne_iff_ne.2 hPour, on_when_true, on_seq_pair]
  rfl

/-! HELLO and FORM (R418, R419). -/

/-- FORM(0) on the port of a better upstream: the port, the hops and ACQUIRE (R419). -/
theorem formTake_timing {p d : Nat} (h : d < 16) (children : List Nat) (s : State) {u : State} (hu : u = Eff.on (formTake 0 p d children) s) :
    u.fget F.TC_ALIGN_STAT_UPSTREAM 0 = p % 2 ^ F.TC_ALIGN_STAT_UPSTREAM.len ∧
      u.fget F.TC_ALIGN_STAT_HOPS 0 = (d + 1) % 2 ^ F.TC_ALIGN_STAT_HOPS.len ∧ u.fget F.TC_ALIGN_STAT_STATE 0 = 1 := by
  have hForward (l : List Nat) (fs : List Nat) : Eff.Only [.msgs] (each l fun q => send q .form fs) :=
    only_each fun _ _ => only_send (by decide) _ _ _
  have hShallow : decide (d + 1 > 16) = false := decide_eq_false (by omega)
  rw [hu, formTake, on_rd]
  dsimp only
  rw [hShallow, beq_self_eq_true, Bool.and_false, Bool.true_and, on_seq_cons, on_seq_cons, on_seq_cons, on_seq_pair, on_when_true, on_when_false]
  simp only [(hForward _ _).fget (f := F.TC_ALIGN_STAT_UPSTREAM) (by decide) (by decide) (by decide),
    (hForward _ _).fget (f := F.TC_ALIGN_STAT_HOPS) (by decide) (by decide) (by decide),
    (hForward _ _).fget (f := F.TC_ALIGN_STAT_STATE) (by decide) (by decide) (by decide)]
  rw [on_seq_cons, on_seq_cons, on_seq_pair, on_rd, on_upd, applyAll_cons, applyAll_nil, Upd.align_fget, Upd.align_fget, Upd.align_fget,
    on_fset, on_fset, on_fset, Upd.fget_fld_other (by decide), Upd.fget_fld_other (by decide), Upd.fget_fld_same (by decide),
    Upd.fget_fld_other (by decide), Upd.fget_fld_same (by decide), Upd.fget_fld_same (by decide)]
  exact ⟨rfl, rfl, rfl⟩

/-- What HELLO on an UP port notes of its sender (R418). -/
def peerNoted (n : Nat) (msg : HelloMsg) : Eff :=
  seq [fset F.RUN_STAT_PEER_MODULE n msg.module, fset F.RUN_STAT_PEER_PORT n msg.sender, fset F.RUN_STAT_PEER_VALID n 1,
    onKeys n (fun k => { k with peerSerial := msg.serial })]

theorem peerNoted_spec (n : Nat) (msg : HelloMsg) (s : State) {u : State} (hu : u = Eff.on (peerNoted n msg) s) :
    u.fget F.RUN_STAT_PEER_MODULE n = msg.module % 2 ^ F.RUN_STAT_PEER_MODULE.len ∧
      u.fget F.RUN_STAT_PEER_PORT n = msg.sender % 2 ^ F.RUN_STAT_PEER_PORT.len ∧ u.fget F.RUN_STAT_PEER_VALID n = 1 ∧
      (u.port n).keys.peerSerial = msg.serial ∧ u.pour = s.pour := by
  have hKeys : Eff.Only [.ports] (onKeys n (fun k => { k with peerSerial := msg.serial })) := only_onKeys (List.Subset.refl _) _ _
  rw [hu, peerNoted, on_seq_cons, on_seq_cons, on_seq_pair, hKeys.fget (by decide) (by decide) (by decide),
    hKeys.fget (by decide) (by decide) (by decide), hKeys.fget (by decide) (by decide) (by decide), hKeys.frame_pour (by decide), on_fset, on_fset,
    on_fset, Upd.fget_fld_other (by decide), Upd.fget_fld_other (by decide), Upd.fget_fld_same (by decide), Upd.fget_fld_other (by decide),
    Upd.fget_fld_same (by decide), Upd.fget_fld_same (by decide), onKeys, onPort_same, Upd.fld_pour, Upd.fld_pour, Upd.fld_pour]
  exact ⟨rfl, rfl, rfl, rfl, rfl⟩

/-- What HELLO does to a formation that its port is part of: the port joins those heard, or the formation fails (R418). -/
def helloFollows (n : Nat) (msg : HelloMsg) (agrees : Bool) (s : State) : Eff :=
  when (s.pour.phase == 1 && s.portUsed n && msg.tag != 0)
    (either agrees (seq [upd [.pour { s.pour with hello := NSet.add s.pour.hello n }], helloDone]) (pourFail 0x0221))

section
variable (n : Nat) (msg : HelloMsg) (agrees : Bool) (s : State)

theorem only_helloFollows : Eff.Only [.align, .ctl, .fld .MOD_MB_SUMMARY, .fld .MOD_POUR_ID, .fld .RUN_STAT, .fld .TC_ALIGN_STAT, .hostOut, .hports,
    .msgs, .pour, .slots] (helloFollows n msg agrees s) :=
  only_when fun _ => only_either (only_seq₂ (only_upd (by simp [Upd.part])) (only_helloDone (by decide))) (only_pourFail (by decide) _)

theorem keeps_helloFollows_link {f : Fld} (hf : f.ofLink = true) (i : Nat) : (helloFollows n msg agrees s).Keeps fun s => s.fget f i :=
  keeps_when <| keeps_either
    (keeps_seq₂ (Eff.Only.keeps_link (ps := [.pour]) hf i (only_upd (by simp [Upd.part])) (by decide)) (keeps_helloDone_link hf i))
    (keeps_pourFail_link hf i _)

theorem helloFollows_idle {s : State} (h : s.pour.phase ≠ 1 ∨ s.portUsed n = false ∨ msg.tag = 0) : helloFollows n msg agrees s = nop := by
  have hOff : (s.pour.phase == 1 && s.portUsed n && msg.tag != 0) = false := by rcases h with h | h | h <;> simp [h]
  rw [helloFollows, hOff]
  rfl

end

/-- HELLO on an UP port: its sender is noted, then the formation goes on. -/
theorem hello_runs {port : PortId} {msg : HelloMsg} {s t : State} (hUp : s.portState port.val = 4) (ht : exec (.hello port msg) s = .next t) :
    ∃ agrees, t = Eff.on (helloFollows port.val msg agrees s) (Eff.on (peerNoted port.val msg) s) := by
  cases ht
  rw [on_rd]
  dsimp only
  rw [beq_iff_eq.2 hUp, on_when_true]
  simp only [peerNoted, on_seq_cons, on_seq_nil]
  exact ⟨_, rfl⟩

end Sys2Proof.Machine

namespace Sys2Proof.Proofs
open Sys2Proof.Machine

/-- Settles O22: each message acts where its occasion is there, and what follows what it writes leaves that alone. -/
theorem pourFormationCommandsAct : Obligations.PourFormationCommandsAct := by
  refine ⟨fun port msg s => ?_, fun port tree tag depth children routes s => ?_, fun port phase count digest bindSum status failing routes s => ?_,
    fun tag status failing s => ?_, fun port temper mouldId tx rx s => ?_, fun tc s => ?_, fun tc s => ?_⟩
  · refine ⟨_, rfl, frame_execHello port msg s rfl, fun hDown => ?_, fun hUp => ?_, fun hUp hIdle => ?_⟩
    · rw [on_rd]
      dsimp only
      rw [beq_false_of_ne hDown, on_when_false]
    all_goals
      obtain ⟨agrees, ht⟩ := hello_runs hUp rfl
      obtain ⟨hModule, hPort, hValid, hSerial, hPour⟩ := peerNoted_spec port.val msg s rfl
      rw [ht]
    · have hLink {f : Fld} (hf : f.ofLink = true) := keeps_helloFollows_link port.val msg agrees s hf port.val (Eff.on (peerNoted port.val msg) s)
      exact ⟨(hLink (by decide)).trans hModule, (hLink (by decide)).trans hPort, (hLink (by decide)).trans hValid,
        by rw [(only_helloFollows port.val msg agrees s).port (by decide), hSerial]⟩
    · rw [helloFollows_idle _ _ _ hIdle]
      exact hPour
  · refine ⟨_, rfl, frame_execForm port tree tag depth children routes s rfl, fun hNot => ?_, fun hDue hFlood => ?_,
      fun hDue hTiming hBetter hNear => ?_⟩
    all_goals
      rw [on_rd]
      dsimp only
    · rw [hNot, on_when_false]
    · have hPhase : s.pour.phase = 1 := by simp_all
      rw [hDue, on_when_true, if_pos hFlood, on_seq_pair, pour_pourFormed (s := Eff.on (send _ _ _) s) hPhase]
      exact ⟨rfl, rfl⟩
    · have hAfter : Eff.Only [.align] pourAlternative := only_pourAlternative (List.Subset.refl _)
      rw [hDue, on_when_true, if_neg (by omega), hTiming, hBetter, on_seq_cons, on_seq_pair, on_when_true,
        hAfter.fget (by decide) (by decide) (by decide), hAfter.fget (by decide) (by decide) (by decide),
        hAfter.fget (by decide) (by decide) (by decide)]
      exact formTake_timing hNear _ _ rfl
  · refine ⟨_, rfl, frame_execReport port phase count digest bindSum status failing routes s rfl, fun hNone => ?_,
      fun hPour hPhase => ?_, ?_, ?_⟩
    · rw [on_rd]
      dsimp only
      rw [hNone, bne_self_eq_false, on_when_false]
    · rw [report_runs hPour rfl, if_neg (by omega), if_neg (by omega)]
      rfl
    · rintro x r hPour hPhase hForming hOnce hMaster rfl hAll
      rw [report_runs hPour rfl, if_pos hPhase]
      exact formedReport_rises (by exact hForming) (by exact hOnce) (by exact hMaster) hAll routes
    · rintro x r hPour hPhase hFormed hOnce hMaster rfl hAll
      rw [report_runs hPour rfl, if_neg (by omega), if_pos hPhase]
      exact readyReport_rises (by exact hFormed) (by exact hOnce) (by exact hMaster) hAll
  · refine ⟨_, rfl, frame_execAbort tag status failing s rfl, fun hNot => ?_, fun hPhase hTag => ?_⟩ <;> rw [on_rd]
    · have hOff : (s.pour.phase == 1 && tag == s.pourTag) = false := by rcases hNot with h | h <;> simp [h]
      rw [hOff, on_when_false]
    · rw [beq_iff_eq.2 hPhase, beq_iff_eq.2 hTag, Bool.and_self, on_when_true, on_seq_pair]
      exact pourAbort_spec (s := Eff.on (send _ _ _) s) hPhase status
  · refine ⟨_, rfl, frame_execSlotDigest port temper mouldId tx rx s rfl, fun hNone => ?_, ?_⟩
    · rw [on_rd, hNone, on_nop]
    · rintro f x hFlask rfl
      rw [on_rd, hFlask]
      dsimp only
      refine ⟨fun hMould hTx hRx => ?_, fun hDiffers => ?_⟩
      · rw [beq_iff_eq.2 hMould, beq_iff_eq.2 hTx, beq_iff_eq.2 hRx, Bool.and_self, Bool.and_self, Bool.not_true, on_when_false]
      · have hBad : (mouldId == (s.flask f).active.id % 2 ^ 32 && tx == slotDigest 1 ((s.flask f).active.sect 5 port.val temper.val) &&
            rx == slotDigest 0 ((s.flask f).active.sect 5 port.val temper.val)) = false := by
          simpa only [Bool.and_eq_false_iff, beq_eq_false_iff_ne, or_assoc] using hDiffers
        rw [hBad, Bool.not_false, on_when_true]
        rfl
  · refine ⟨_, rfl, frame_execPourFormTimeout tc s rfl, takesTime_pourFormTimeout tc s _ rfl, fun hNot => ?_, fun hPhase hDue => ?_⟩ <;>
      rw [on_timed, s.movedOn_pour, s.movedOn_tc]
    · rcases hNot with hPhase | hEarly
      · cases decide (s.pour.since + 10000000000 ≤ s.clockAt tc)
        · exact s.movedOn_same tc
        · rw [on_when_true, pourAbort_idle (by rwa [s.movedOn_pour])]
          exact s.movedOn_same tc
      · rw [decide_eq_false (by omega), on_when_false]
        exact s.movedOn_same tc
    · rw [decide_eq_true hDue, on_when_true]
      exact pourAbort_spec (by rwa [s.movedOn_pour]) _
  · refine ⟨_, rfl, frame_execPourStartTimeout tc s rfl, takesTime_pourStartTimeout tc s _ rfl, fun hNone => ?_, fun k hStarting => ?_⟩ <;>
      rw [on_timed, s.movedOn_pour, s.movedOn_tc]
    · rw [hNone]
      exact s.movedOn_same tc
    · rw [hStarting]
      dsimp only
      rw [s.movedOn_slot]
      refine ⟨fun hEarly => ?_, fun hDue => ?_⟩
      · rw [decide_eq_false (by omega), on_when_false]
        exact s.movedOn_same tc
      · rw [decide_eq_true hDue, on_when_true, on_seq_pair]
        refine ⟨?_, slotFailed_mbFail k _ _⟩
        rw [(only_mbFail_parts k _).frame_pour (by decide)]
        rfl

end Sys2Proof.Proofs
end

section
/-! Runner ports: enabling, training, locking, qualification and the loss of lock (R398 to R401, R430). -/
namespace Sys2Proof.Machine

/-! The state machine (R398). -/

theorem Eff.Only.portState {ps : List Part} {e : Eff} (h : e.Only ps) (hp : Part.flds ∉ ps ∧ Part.fld .RUN_STAT ∉ ps) (s : State) (p : Nat) :
    (Eff.on e s).portState p = s.portState p := h.fget (f := F.RUN_STAT_STATE) (by decide) hp.1 hp.2 s p

theorem portTo_spec (n st : Nat) (s : State) : (Eff.on (portTo n st) s).portState n = st % 8 ∧
    (Eff.on (portTo n st) s).port n = { s.port n with entered := s.tc } := by
  have hCtl : Eff.Only mbParts (portCtl n) := only_portCtl (List.Subset.refl _) n
  have hEntered : Eff.Only [.ports] (onPort n fun x => { x with entered := s.tc }) := only_onPort (by decide) _ _
  have hState : Eff.Only [.fld .RUN_STAT] (fset F.RUN_STAT_STATE n st) := only_fset (by decide) _ _
  rw [portTo, on_rd, on_seq_cons, on_seq_pair, hCtl.portState (by decide), hCtl.port (by decide), hEntered.portState (by decide), onPort_same,
    hState.port (by decide)]
  exact ⟨Upd.fget_fld_same (by decide) .., rfl⟩

/-- A port that leaves UP is DOWN, and its link is marked as lost (R398). -/
theorem leaveUp_spec (n : Nat) (s : State) : (Eff.on (leaveUp n) s).portState n = 0 ∧ (Eff.on (leaveUp n) s).fget F.RUN_ERR_LINK_DOWN n = 1 := by
  have hTold (b : Bool) (fs : List Nat) : Eff.Only [.ev, .faults, .flasks, .fld .MOD_FAULT_STAT, .msgs]
      (seq [when b (raise 0x0601 0 (portWho n 0xFF) [(8, n)]), each fs (fun f => seq [raise 0x0601 2 (portWho n f) [(8, n)],
        when (s.inPour f) (fenceBeacon 0x12 n 0xFF 0x0601 f 0), faultHaltAtFrame f 4])]) :=
    only_seq₂ (only_when fun _ => only_raise (by decide) _ _ _ _) <| only_each fun _ _ => only_seq₃ (only_raise (by decide) _ _ _ _)
      (only_when fun _ => only_fenceBeacon (by decide) _ _ _ _ _ _) (only_faultHaltAtFrame (by decide) _ _)
  have hTo : Eff.Only [.fld .MOD_MB_SUMMARY, .fld .RUN_STAT, .hostOut, .hports, .ports, .slots] (portTo n 0) := only_portTo (List.Subset.refl _) n 0
  rw [leaveUp, on_rd]
  dsimp only
  rw [on_seq_cons, on_seq_cons, on_seq_cons, on_seq_cons, on_seq_cons, (hTold _ _).portState (by decide),
    (hTold _ _).fget (by decide) (by decide) (by decide), (portTo_spec n 0 _).1, hTo.fget (by decide) (by decide) (by decide),
    (only_onPort (ps := [.ports]) (by decide) _ _).fget (by decide) (by decide) (by decide), on_fset, Upd.fget_fld_same (by decide)]
  exact ⟨rfl, rfl⟩

/-- The attempts of a port that have ended in DOWN within 10 s of a time, that time among them (R398). -/
def State.failsAt (s : State) (n now : Nat) : List Nat := (s.port n).fails.filter (fun x => decide (now < x + 10000000000)) ++ [now]

/-- Where a failed attempt leaves a port: FAILED after the third within 10 s, else DOWN (R398). -/
theorem portState_attemptFail {s : State} (h : s.pour.phase ≠ 1) (n : Nat) :
    (Eff.on (attemptFail n) s).portState n = if 3 ≤ (s.failsAt n s.tc).length then 5 else 0 := by
  have hTo : Eff.Only [.fld .MOD_MB_SUMMARY, .fld .RUN_STAT, .hostOut, .hports, .ports, .slots] (portTo n 5) := only_portTo (List.Subset.refl _) n 5
  rw [attemptFail, on_rd]
  dsimp only
  rw [on_seq_pair, ← State.failsAt]
  by_cases hThird : 3 ≤ (s.failsAt n s.tc).length
  · rw [decide_eq_true (show (s.failsAt n s.tc).length ≥ 3 from hThird), on_either_true, on_seq_pair, if_pos hThird]
    cases s.portUsed n
    · exact (portTo_spec n 5 _).1
    · rw [on_when_true, pourFail_idle (by rw [hTo.frame_pour (by decide)]; exact h)]
      exact (portTo_spec n 5 _).1
  · rw [decide_eq_false (show ¬ (s.failsAt n s.tc).length ≥ 3 from hThird), on_either_false, if_neg hThird]
    exact (portTo_spec n 0 _).1

theorem portUp_spec (n : Nat) (s : State) : (Eff.on (portUp n) s).portState n = 4 ∧ ((Eff.on (portUp n) s).port n).fails = [] := by
  have hHello : Eff.Only [.msgs] (rd fun s => either (s.pour.phase == 1 && s.portUsed n) helloAll (sendHello n)) :=
    only_rd fun _ => only_either (only_helloAll (List.Subset.refl _)) (only_sendHello (List.Subset.refl _) n)
  have hSend (k : MsgKind) (fs : List Nat) : Eff.Only [.msgs] (send n k fs) := only_send (by decide) n k fs
  rw [portUp, on_rd, on_seq_cons, on_seq_cons, on_seq_cons, on_seq_pair, hHello.portState (by decide), hHello.port (by decide),
    (hSend _ _).portState (by decide), (hSend _ _).port (by decide), onPort_same,
    (only_onPort (ps := [.ports]) (by decide) _ _).portState (by decide)]
  exact ⟨(portTo_spec n 4 _).1, rfl⟩

/-- An end of a phase of an attempt: on time it leads to the next phase, else the attempt has failed; in another state it moves the time on. -/
theorem attemptStep_spec {n st next bound tc : Nat} {ok : Bool} {s u : State} (hNext : next < 8)
    (hu : u = Eff.on (seq [tcTo tc, attemptStep n st next bound ok]) s) :
    (s.portState n = st → ok = true → s.clockAt tc ≤ (s.port n).entered + bound → u.portState n = next ∧
      (u.port n).entered = s.clockAt tc) ∧
    (s.portState n = st → (ok = false ∨ (s.port n).entered + bound < s.clockAt tc) → s.pour.phase ≠ 1 →
      u.portState n = if 3 ≤ (s.failsAt n (s.clockAt tc)).length then 5 else 0) ∧
    (s.portState n ≠ st → SameBut [.fld .TC_NOW] s u) := by
  rw [attemptStep, on_timed, s.movedOn_portState, s.movedOn_port, s.movedOn_tc] at hu
  rw [hu]
  refine ⟨fun hState hOk hSoon => ?_, fun hState hLate hPhase => ?_, fun hOther => ?_⟩
  · obtain ⟨hTo, hPort⟩ := portTo_spec n next (s.movedOn tc)
    rw [beq_iff_eq.2 hState, hOk, decide_eq_true hSoon, Bool.and_self, on_when_true, on_either_true, hTo, hPort, Nat.mod_eq_of_lt hNext]
    exact ⟨rfl, s.movedOn_tc tc⟩
  · have hFailed : (ok && decide (s.clockAt tc ≤ (s.port n).entered + bound)) = false := by
      rcases hLate with h | h
      · rw [h, Bool.false_and]
      · rw [decide_eq_false (by omega), Bool.and_false]
    rw [beq_iff_eq.2 hState, hFailed, on_when_true, on_either_false, portState_attemptFail (by rwa [s.movedOn_pour]), State.failsAt, s.movedOn_port,
      s.movedOn_tc]
    rfl
  · rw [beq_false_of_ne hOther, on_when_false]
    exact s.movedOn_same tc

/-! Qualification windows (R399, R400, R430). -/

/-- Whether the last window of a lane passed, and how many windows it has had. -/
def State.laneTally (s : State) (i : Nat) : Nat × Nat := (s.fget F.RUN_LANE_l_PASS i, s.fget F.RUN_LANE_l_WINDOWS i)

/-- A tally with a window counted. -/
def tallied (w : LaneWindow) (x : Nat × Nat) : Nat × Nat := (b2n (winPasses w), (x.2 + 1) % 2 ^ F.RUN_LANE_l_WINDOWS.len)

theorem Eff.Only.keeps_laneTally {ps : List Part} {e : Eff} (h : e.Only ps) (hp : Part.flds ∉ ps ∧ Part.fld .RUN_LANE_l ∉ ps) (i : Nat) :
    e.Keeps fun s => s.laneTally i := fun s => Prod.ext (h.fget (by decide) hp.1 hp.2 s i) (h.fget (by decide) hp.1 hp.2 s i)

theorem keeps_laneOut_laneTally (i v j : Nat) : (fset F.RUN_LANE_l_OUT i v).Keeps fun s => s.laneTally j := fun s =>
  Prod.ext (Upd.fget_fld_other (by decide) i j v s) (Upd.fget_fld_other (by decide) i j v s)

/-- One effect of a list changes a reading, which the others leave alone. -/
theorem on_each_once {α β : Type} {g : State → β} {h : β → β} {f : α → Eff} {a : α} (hOne : ∀ s, g (Eff.on (f a) s) = h (g s))
    {l : List α} (ha : a ∈ l) (hl : l.Nodup) (hOther : ∀ b ∈ l, b ≠ a → (f b).Keeps g) (s : State) :
    g (Eff.on (each l f) s) = h (g s) := by
  induction l generalizing s with
  | nil => cases ha
  | cons b l ih =>
    obtain ⟨hb, hl⟩ := List.nodup_cons.1 hl
    rw [on_each_cons]
    by_cases hab : b = a
    · subst hab
      rw [on_each_keeps g fun c hc => hOther c (List.mem_cons_of_mem _ hc) fun e => hb (e ▸ hc), hOne]
    · rw [ih ((List.mem_cons.1 ha).resolve_left (Ne.symm hab)) hl fun c hc => hOther c (List.mem_cons_of_mem _ hc),
        hOther b (List.mem_cons_self ..) hab]

/-- The registers of a lane after a window. -/
def laneNote (n : Nat) (ws : List LaneWindow) (l : Nat) : Eff :=
  let w := laneWin ws l
  let i := n * 5 + l
  seq [fset F.RUN_LANE_l_ERRORS i (min w.errors 0xFFFFFFFF), fput F.RUN_LANE_l_PASS i (winPasses w), fput F.RUN_LANE_l_UNCORR i (w.uncorr != 0),
    fset F.RUN_LANE_l_MAX_SYMBOLS i (winMost w 15), fadd F.RUN_LANE_l_WINDOWS i 1]

theorem laneTally_laneNote (n : Nat) (ws : List LaneWindow) (l : Nat) (s : State) :
    (Eff.on (laneNote n ws l) s).laneTally (n * 5 + l) = tallied (laneWin ws l) (s.laneTally (n * 5 + l)) := by
  have hBit (b : Bool) : b2n b % 2 ^ F.RUN_LANE_l_PASS.len = b2n b := by cases b <;> rfl
  rw [laneNote, State.laneTally, on_seq_cons, on_seq_cons, on_seq_cons, on_seq_pair, on_fadd, Upd.fget_fld_other (by decide),
    Upd.fget_fld_same (by decide), on_fset, on_fset, on_fput, on_fput, Upd.fget_fld_other (by decide), Upd.fget_fld_other (by decide),
    Upd.fget_fld_same (by decide), Upd.fget_fld_other (by decide), Upd.fget_fld_other (by decide), Upd.fget_fld_other (by decide),
    Upd.fget_fld_other (by decide), hBit]
  rfl

theorem keeps_laneNote_other {n l j : Nat} (h : n * 5 + l ≠ j) (ws : List LaneWindow) : (laneNote n ws l).Keeps fun s => s.laneTally j := by
  have hAt {f : Fld} (hf : f.inReg = true) (v : Nat) (s : State) : ((Upd.fld f (n * 5 + l) v).apply s).fget f j = s.fget f j :=
    Upd.fget_fld_at hf h v s
  refine keeps_seq_cons ?_ <| keeps_seq_cons ?_ <| keeps_seq_cons ?_ <| keeps_seq₂ ?_ ?_
  · exact fun s => Prod.ext (Upd.fget_fld_other (by decide) _ j _ s) (Upd.fget_fld_other (by decide) _ j _ s)
  · exact fun s => Prod.ext (hAt (by decide) _ s) (Upd.fget_fld_other (by decide) _ j _ s)
  · exact fun s => Prod.ext (Upd.fget_fld_other (by decide) _ j _ s) (Upd.fget_fld_other (by decide) _ j _ s)
  · exact fun s => Prod.ext (Upd.fget_fld_other (by decide) _ j _ s) (Upd.fget_fld_other (by decide) _ j _ s)
  · exact fun s => Prod.ext (Upd.fget_fld_other (by decide) _ j _ s) (hAt (by decide) _ s)

/-- A window is recorded for each of the five lanes (R430). -/
theorem laneTally_laneRegs (n : Nat) (ws : List LaneWindow) {l : Nat} (hl : l < 5) (s : State) :
    (Eff.on (laneRegs n ws) s).laneTally (n * 5 + l) = tallied (laneWin ws l) (s.laneTally (n * 5 + l)) := by
  rw [laneRegs, on_seq_pair]
  refine ((only_fset (ps := [.fld .RUN_STAT]) (by decide) _ _).keeps_laneTally (by decide) _ _).trans ?_
  exact on_each_once (laneTally_laneNote n ws l) (List.mem_range.2 hl) List.nodup_range (fun b _ hb => keeps_laneNote_other (by omega) ws) s

theorem portState_laneRegs (n : Nat) (ws : List LaneWindow) (p : Nat) (s : State) : (Eff.on (laneRegs n ws) s).portState p = s.portState p := by
  have hNotes : Eff.Only [.fld .RUN_LANE_l] (each (List.range 5) (laneNote n ws)) := only_each fun _ _ =>
    only_seq₅ (only_fset (by decide) _ _) (only_fput (by decide) _ _) (only_fput (by decide) _ _) (only_fset (by decide) _ _)
      (only_fadd (by decide) _ _)
  exact keeps_seq₂ (hNotes.keeps_fget (f := F.RUN_STAT_STATE) (by decide) p) (keeps_fset_other (by decide) _ _ _) s

/-- The spare in the place of a logical lane that a physical lane carried (R401). -/
def spareTakes (n l p : Nat) : Eff :=
  seq [onPort n (fun x => { x with laneMap := x.laneMap - bitsOf x.laneMap (3 * l) 3 * 8 ^ l + 4 * 8 ^ l, swap := none,
                                   badWindows := NMap.put 0 x.badWindows p 0, badUncorr := NMap.put 0 x.badUncorr p 0 }),
    fset F.RUN_STAT_SPARE_USED n 1, fset F.RUN_STAT_SPARE_FOR n l, fset F.RUN_LANE_l_OUT (n * 5 + p) 1, fset F.RUN_ERR_LANE_SWAPPED n 1]

/-- A swap changes the lanes, and then at most notes the lane in the slag map, raises its event and sends a beacon. -/
theorem on_laneSpared (n l reason : Nat) (note : Bool) (s : State) : ∃ e : Eff, e.Only [.slag, .ev, .faults, .fld .MOD_FAULT_STAT, .msgs] ∧
    Eff.on (laneSpared n l reason note) s = Eff.on e (Eff.on (spareTakes n l (s.physLane n l)) s) := by
  rw [laneSpared, on_rd]
  dsimp only
  simp only [spareTakes, on_seq_cons, on_seq_nil]
  refine ⟨_, only_when fun _ => only_seq₃ (only_slagRecord (by decide) _ _ _ _ _) (only_raise (by decide) _ _ _ _) ?_, rfl⟩
  split
  · exact only_when fun _ => only_fenceBeacon (by decide) _ _ _ _ _ _
  · exact only_nop _

/-- A swap of lanes takes a lane out of service and leaves its tally as it was. -/
theorem keeps_laneSpared_laneTally (n l reason : Nat) (note : Bool) (j : Nat) :
    (laneSpared n l reason note).Keeps fun s => s.laneTally j := fun s => by
  have hStat (f : Fld) (hf : Part.fld f.reg ∈ [.fld .RUN_STAT, .fld .RUN_ERR]) (i v : Nat) : (fset f i v).Keeps fun s => s.laneTally j :=
    (only_fset hf i v).keeps_laneTally (by decide) j
  have hTakes : (spareTakes n l (s.physLane n l)).Keeps fun s => s.laneTally j :=
    keeps_seq_cons ((only_onPort (ps := [.ports]) (by decide) _ _).keeps_laneTally (by decide) j) <| keeps_seq_cons (hStat _ (by decide) _ _) <|
      keeps_seq_cons (hStat _ (by decide) _ _) <| keeps_seq₂ (keeps_laneOut_laneTally _ _ j) (hStat _ (by decide) _ _)
  obtain ⟨e, he, hSwap⟩ := on_laneSpared n l reason note s
  rw [hSwap]
  exact (he.keeps_laneTally (by decide) j _).trans (hTakes s)

theorem keeps_qualified_laneTally (n : Nat) (ws : List LaneWindow) (j : Nat) : (qualified n ws).Keeps fun s => s.laneTally j := by
  have hUp : (portUp n).Keeps fun s => s.laneTally j := (only_portUp (List.Subset.refl _) n).keeps_laneTally (by decide) j
  have hStat (f : Fld) (hf : Part.fld f.reg ∈ [.fld .RUN_STAT]) (i v : Nat) : (fset f i v).Keeps fun s => s.laneTally j :=
    (only_fset hf i v).keeps_laneTally (by decide) j
  rw [qualified]
  split
  · exact hUp
  · exact keeps_seq_cons ((only_onPort (ps := [.ports]) (by decide) _ _).keeps_laneTally (by decide) j) <|
      keeps_seq_cons (hStat _ (by decide) _ _) <| keeps_seq_cons (hStat _ (by decide) _ _) <|
      keeps_seq₂ (keeps_either (keeps_laneSpared_laneTally _ _ _ _ j) (keeps_laneOut_laneTally _ _ j)) hUp
  · exact (only_attemptFail (List.Subset.refl _) n).keeps_laneTally (by decide) j

theorem keeps_windowInUp_laneTally (n : Nat) (ws : List LaneWindow) (j : Nat) : (windowInUp n ws).Keeps fun s => s.laneTally j := by
  have hPort (f : PortSt → PortSt) : (onPort n f).Keeps fun s => s.laneTally j :=
    (only_onPort (ps := [.ports]) (by decide) n f).keeps_laneTally (by decide) j
  exact keeps_rd fun _ => keeps_seq_cons (hPort _) <| keeps_seq₂
    (keeps_when <| keeps_seq_cons (hPort _) <| keeps_seq₂ (keeps_laneOut_laneTally _ _ j)
      ((only_slagRecord (List.Subset.refl _) _ _ _ _ _).keeps_laneTally (by decide) j))
    (keeps_each fun _ => keeps_rd fun _ => keeps_when ((only_laneFail (List.Subset.refl _) _ _ _).keeps_laneTally (by decide) j))

/-- QUALIFY ends in UP when all lanes pass. -/
theorem qualified_passes {ws : List LaneWindow} (h : ∀ l, l < 5 → winPasses (laneWin ws l) = true) (n : Nat) : qualified n ws = portUp n := by
  have hBad : (List.range 5).filter (fun l => !(winPasses (laneWin ws l))) = [] :=
    List.filter_eq_nil_iff.2 fun l hl => by rw [h l (List.mem_range.1 hl)]; decide
  rw [qualified, hBad]

/-- QUALIFY fails when two lanes or more do. -/
theorem qualified_fails {ws : List LaneWindow} (h : 2 ≤ ((List.range 5).filter (fun l => !(winPasses (laneWin ws l)))).length) (n : Nat) :
    qualified n ws = attemptFail n := by
  rw [qualified]
  split
  · next hBad => rw [hBad, List.length_nil] at h; omega
  · next hBad => rw [hBad, List.length_singleton] at h; omega
  · rfl

/-- A window that ends in QUALIFY or UP is recorded first, and then judged. -/
theorem qualifyWindowEnd_runs {p : PortId} {ws : List LaneWindow} {tc : Nat} {s t : State} (hState : s.portState p.val = 3 ∨ s.portState p.val = 4)
    (ht : exec (.qualifyWindowEnd p ws tc) s = .next t) :
    t = Eff.on (if s.portState p.val = 3 then qualified p.val ws else windowInUp p.val ws) (Eff.on (laneRegs p.val ws) (s.movedOn tc)) := by
  have hDue : (s.portState p.val == 3 || s.portState p.val == 4) = true := by simpa using hState
  cases ht
  rw [on_timed]
  dsimp only
  rw [s.movedOn_portState, hDue, on_when_true, on_seq_pair]

/-! Loss of lock (R398, R400). -/

theorem State.movedOn_logLane (s : State) (tc n l : Nat) : (s.movedOn tc).logLane n l = s.logLane n l := by
  simp only [State.logLane, State.physLane, s.movedOn_port]

theorem State.movedOn_spareFree (s : State) (tc n : Nat) : (s.movedOn tc).spareFree n = s.spareFree n := by
  simp only [State.spareFree, State.flag, s.movedOn_port, s.movedOn_fget tc (f := F.RUN_STAT_LANE_OK) (by decide),
    s.movedOn_fget tc (f := F.RUN_STAT_SPARE_USED) (by decide)]

/-- A lane that has failed is to be replaced while the spare is free (R400). -/
theorem swap_laneFail {n : Nat} {s : State} (h : s.spareFree n = true) (l reason : Nat) : ((Eff.on (laneFail n l reason) s).port n).swap =
    some { lane := l, target := ((s.port n).txSeq + 64) % 2 ^ 32, mine := true, agreed := false, reason } := by
  rw [laneFail, on_rd]
  dsimp only
  rw [h, on_either_true, on_seq_pair, (only_send (ps := [.msgs]) (by decide) _ _ _).port (by decide), onPort_same]

end Sys2Proof.Machine

namespace Sys2Proof.Proofs
open Sys2Proof.Machine

/-- Settles O20: each command moves TC on and acts on the port's state as it finds it, by the rules of the state machine. -/
theorem portStateCommandsAct : Obligations.PortStateCommandsAct := by
  refine ⟨fun p sig tc s => ?_, fun p tc s => ?_, fun p ok tc s => ?_, fun p ok tc s => ?_, fun p ws tc s => ?_, fun p l b tc s => ?_⟩
  · have hTc := takesTime_portEnable p sig tc s _ rfl
    have hEnable : Eff.Only [.ports] (onPort p.val fun x => { x with enabled := true }) := only_onPort (by decide) _ _
    refine ⟨_, rfl, frame_execPortEnable p sig tc s rfl, hTc, ?_, fun hDown hSig => ?_, fun hNot => ?_⟩
    all_goals
      try rw [hTc]
      rw [on_seq_cons, on_seq_pair, on_rd, hEnable.portState (by decide), ← State.movedOn, s.movedOn_portState]
    · cases s.portState p.val == 0 && sig
      · rw [on_when_false, onPort_same]
      · rw [on_when_true, (portTo_spec p.val 1 _).2, onPort_same]
    · obtain ⟨hState, hPort⟩ := portTo_spec p.val 1 (Eff.on (onPort p.val fun x => { x with enabled := true }) (s.movedOn tc))
      rw [beq_iff_eq.2 hDown, hSig, Bool.and_self, on_when_true, hState, hPort]
      exact ⟨rfl, (hEnable.fget (f := F.TC_NOW_COUNT) (by decide) (by decide) (by decide) _ _).trans (s.movedOn_tc tc)⟩
    · have hOff : (s.portState p.val == 0 && sig) = false := by rcases hNot with h | h <;> simp [h]
      rw [hOff, on_when_false, hEnable.portState (by decide), s.movedOn_portState]
  · have hTc := takesTime_signalDetected p tc s _ rfl
    refine ⟨_, rfl, frame_execSignalDetected p tc s rfl, hTc, fun hDown hEnabled => ?_, fun hNot => ?_⟩
    · obtain ⟨hState, hPort⟩ := portTo_spec p.val 1 (s.movedOn tc)
      rw [hTc, on_timed, s.movedOn_portState, s.movedOn_port, beq_iff_eq.2 hDown, hEnabled, Bool.and_self, on_when_true, hState, hPort]
      exact ⟨rfl, s.movedOn_tc tc⟩
    · have hOff : (s.portState p.val == 0 && (s.port p.val).enabled) = false := by rcases hNot with h | h <;> simp [h]
      rw [on_timed, s.movedOn_portState, s.movedOn_port, hOff, on_when_false]
      exact s.movedOn_same tc
  · have hTc := takesTime_trainComplete p ok tc s _ rfl
    refine ⟨_, rfl, frame_execTrainComplete p ok tc s rfl, hTc, ?_⟩
    rw [hTc]
    exact attemptStep_spec (by decide) rfl
  · have hTc := takesTime_lockComplete p ok tc s _ rfl
    refine ⟨_, rfl, frame_execLockComplete p ok tc s rfl, hTc, ?_⟩
    rw [hTc]
    exact attemptStep_spec (by decide) rfl
  · refine ⟨_, rfl, frame_execQualifyWindowEnd p ws tc s rfl, takesTime_qualifyWindowEnd p ws tc s _ rfl, fun hState l hl => ?_,
      fun hState hPass => ?_, fun hState hBad hPhase => ?_, fun hNot3 hNot4 => ?_⟩
    · rw [← Prod.mk.injEq]
      have hJudged : ((if s.portState p.val = 3 then qualified p.val ws else windowInUp p.val ws) : Eff).Keeps
          fun s => s.laneTally (p.val * 5 + l) := by
        split
        · exact keeps_qualified_laneTally p.val ws _
        · exact keeps_windowInUp_laneTally p.val ws _
      rw [qualifyWindowEnd_runs hState rfl]
      refine (hJudged _).trans ((laneTally_laneRegs p.val ws hl _).trans ?_)
      rw [tallied, State.laneTally, s.movedOn_fget tc (f := F.RUN_LANE_l_WINDOWS) (by decide)]
    · rw [qualifyWindowEnd_runs (.inl hState) rfl, if_pos hState, qualified_passes hPass]
      exact portUp_spec ..
    · have hRegs : Eff.Only [.fld .RUN_LANE_l, .fld .RUN_STAT] (laneRegs p.val ws) := only_laneRegs (List.Subset.refl _) _ _
      rw [qualifyWindowEnd_runs (.inl hState) rfl, if_pos hState, qualified_fails hBad,
        portState_attemptFail (by rwa [hRegs.frame_pour (by decide), s.movedOn_pour]), State.failsAt, hRegs.port (by decide), s.movedOn_port,
        State.tc, hRegs.fget (by decide) (by decide) (by decide), ← State.tc, s.movedOn_tc]
    · have hOff : (s.portState p.val == 3 || s.portState p.val == 4) = false := by simp [hNot3, hNot4]
      rw [on_timed]
      dsimp only
      rw [s.movedOn_portState, hOff, on_when_false]
      exact s.movedOn_same tc
  · refine ⟨_, rfl, frame_execLaneLockLoss p l b tc s rfl, takesTime_laneLockLoss p l b tc s _ rfl, fun hState hPhase => ?_,
      fun x hUp hLane hLong => ?_, fun x hUp hLane hShort hFree => ?_, fun hUp hNone => ?_, fun h2 h3 h4 => ?_⟩
    all_goals
      rw [on_timed]
      dsimp only
      rw [s.movedOn_portState]
    · have hFail := portState_attemptFail (s := s.movedOn tc) (by rwa [s.movedOn_pour]) p.val
      rw [State.failsAt, s.movedOn_port, s.movedOn_tc] at hFail
      rcases hState with h | h <;> rw [h] <;> exact hFail
    · rw [hUp, s.movedOn_logLane, hLane, hLong]
      exact leaveUp_spec ..
    · rw [hUp, s.movedOn_logLane, hLane, hShort]
      exact (swap_laneFail (by rwa [s.movedOn_spareFree]) x 5).trans (by rw [s.movedOn_port])
    · rw [hUp, s.movedOn_logLane, hNone]
      exact s.movedOn_same tc
    · split
      · contradiction
      · contradiction
      · contradiction
      · exact s.movedOn_same tc

end Sys2Proof.Proofs
end

section
/-! Runner ports: lane swaps (R401) and link keys (R423, R424, R658 to R660). -/
namespace Sys2Proof.Machine

/-! Lane swaps (R401). -/

theorem laneSpared_spec (n l reason : Nat) (note : Bool) (s : State) {u : State} (hu : u = Eff.on (laneSpared n l reason note) s) :
    (u.port n).swap = none ∧ u.fget F.RUN_STAT_SPARE_USED n = 1 ∧ u.fget F.RUN_STAT_SPARE_FOR n = l % 2 ^ F.RUN_STAT_SPARE_FOR.len ∧
      u.fget F.RUN_ERR_LANE_SWAPPED n = 1 := by
  have hFld {f : Fld} (hf : Part.fld f.reg ∈ [.fld .RUN_STAT, .fld .RUN_LANE_l, .fld .RUN_ERR]) (i v : Nat) :
      Eff.Only [.fld .RUN_STAT, .fld .RUN_LANE_l, .fld .RUN_ERR] (fset f i v) := only_fset hf i v
  obtain ⟨e, he, hSwap⟩ := on_laneSpared n l reason note s
  rw [hu, hSwap, he.port (by decide), he.fget (by decide) (by decide) (by decide), he.fget (by decide) (by decide) (by decide),
    he.fget (by decide) (by decide) (by decide), spareTakes, on_seq_cons, on_seq_cons, on_seq_cons, on_seq_pair]
  refine ⟨?_, ?_, ?_, Upd.fget_fld_same (by decide) ..⟩
  · rw [(hFld (by decide) _ _).port (by decide), (hFld (by decide) _ _).port (by decide), (hFld (by decide) _ _).port (by decide),
      (hFld (by decide) _ _).port (by decide), onPort_same]
  · rw [on_fset, on_fset, on_fset, Upd.fget_fld_other (by decide), Upd.fget_fld_other (by decide), Upd.fget_fld_other (by decide), on_fset,
      Upd.fget_fld_same (by decide)]
    rfl
  · rw [on_fset, on_fset, on_fset, Upd.fget_fld_other (by decide), Upd.fget_fld_other (by decide), Upd.fget_fld_same (by decide)]

/-- A peer's request agreed to. -/
def swapAgree (n l target : Nat) : Eff :=
  seq [onPort n (fun x => { x with swap := some { lane := l, target, mine := false, agreed := true, reason := 5 } }),
    send n .laneSwapAck [n, l, target]]

theorem swapAgree_spec (n l target : Nat) (s : State) : SameBut [.ports, .msgs] s (Eff.on (swapAgree n l target) s) ∧
    ((Eff.on (swapAgree n l target) s).port n).swap = some { lane := l, target, mine := false, agreed := true, reason := 5 } ∧
      Sent s (Eff.on (swapAgree n l target) s) n .laneSwapAck [n, l, target] := by
  refine ⟨(only_seq₂ (only_onPort (by decide) _ _) (only_send (by decide) _ _ _)).same s, ?_, ?_⟩ <;> rw [swapAgree, on_seq_pair]
  · rw [(only_send (ps := [.msgs]) (by decide) _ _ _).port (by decide), onPort_same]
  · rfl

/-! Link keys (R658 to R660). -/

/-- A key offer refused is marked, and takes the port to DOWN (R659). -/
theorem keyRefuse_spec (n reason : Nat) (s : State) :
    (Eff.on (keyRefuse n reason) s).fget F.SAF_ERR_LINK_REFUSED 0 = 1 ∧ (Eff.on (keyRefuse n reason) s).portState n = 0 := by
  rw [keyRefuse, on_seq_cons, on_seq_pair, (leaveUp_spec n _).1, (only_leaveUp (List.Subset.refl _) n).fget (by decide) (by decide) (by decide),
    on_raise, Upd.ev_fget, on_fset, Upd.fget_fld_same (by decide)]
  exact ⟨rfl, rfl⟩

theorem keys_onKeys (n : Nat) (f : KeySt → KeySt) (s : State) : ((Eff.on (onKeys n f) s).port n).keys = f (s.port n).keys := by
  rw [onKeys, onPort_same]

/-! A change of keys followed by a message of the exchange. -/

theorem keys_onKeys_send (n : Nat) (f : KeySt → KeySt) (k : MsgKind) (fs : List Nat) (s : State) :
    ((Eff.on (seq [onKeys n f, send n k fs]) s).port n).keys = f (s.port n).keys := by
  rw [on_seq_pair, (only_send (ps := [.msgs]) (by decide) _ _ _).port (by decide), keys_onKeys]

theorem sent_onKeys_send (n : Nat) (f : KeySt → KeySt) (k : MsgKind) (fs : List Nat) {s u : State} (h : u.msgs = s.msgs) :
    Sent s (Eff.on (seq [onKeys n f, send n k fs]) u) n k fs := by
  rw [Sent, on_seq_pair, on_send, Upd.msgs_msgs, (only_onKeys (List.Subset.refl _) n f).frame_msgs (by decide), h]

/-- An offer that fails a check is refused (R658, R659). -/
theorem keyOffer_refused {n : Nat} {o : KeyOffer} {s : State}
    (h : o.chainOk = false ∨ o.certOk = false ∨ (o.lifecycle ≠ 2 ∧ o.lifecycle ≠ s.fget F.SAF_STAT_LIFECYCLE 0)) :
    (Eff.on (keyOffer n o) s).fget F.SAF_ERR_LINK_REFUSED 0 = 1 ∧ (Eff.on (keyOffer n o) s).portState n = 0 := by
  rw [keyOffer, on_rd]
  dsimp only
  split
  · exact keyRefuse_spec ..
  · split
    · exact keyRefuse_spec ..
    · next hChain hCert =>
      rw [if_pos]
      · exact keyRefuse_spec ..
      · rcases h with h | h | ⟨hUnfused, hOwn⟩
        · simp [h] at hChain
        · simp [h] at hCert
        · simp [hUnfused, hOwn]

/-- An offer that passes the checks is accepted (R658). -/
theorem keyOffer_accepted {n : Nat} {o : KeyOffer} {s : State} (hChain : o.chainOk = true) (hCert : o.certOk = true)
    (hSerial : s.fget F.RUN_STAT_PEER_VALID n = 0 ∨ o.serial = (s.port n).keys.peerSerial)
    (hLife : o.lifecycle = 2 ∨ o.lifecycle = s.fget F.SAF_STAT_LIFECYCLE 0) : ((Eff.on (keyOffer n o) s).port n).keys.phase = 2 ∧
      ((Eff.on (keyOffer n o) s).port n).keys.peerSerial = o.serial ∧ ∃ q, Sent s (Eff.on (keyOffer n o) s) n .keyAccept [n, q] := by
  have hKnown : (s.flag F.RUN_STAT_PEER_VALID n && o.serial != (s.port n).keys.peerSerial) = false := by
    rcases hSerial with h | h <;> simp [State.flag, h]
  have hLife' : (o.lifecycle == 2 || o.lifecycle == s.fget F.SAF_STAT_LIFECYCLE 0) = true := by simpa using hLife
  rw [keyOffer, on_rd]
  dsimp only
  rw [hChain, hCert, hKnown, hLife', if_neg (by decide), if_neg (by decide), if_neg (by decide), keys_onKeys_send]
  exact ⟨rfl, rfl, _, sent_onKeys_send _ _ _ _ rfl⟩

/-- An offer of the next KEY_EPOCH on a keyed port with no exchange of its own is accepted (R660). -/
theorem rekeyOffer_accepted {n : Nat} {o : KeyOffer} {s : State} (hKeyed : s.fget F.RUN_STAT_ENCRYPTED n = 1)
    (hEpoch : o.epoch = (s.fget F.RUN_STAT_KEY_EPOCH n + 1) % 256) (hIdle : (s.port n).keys.phase = 0) :
    ((Eff.on (rekeyOffer n o) s).port n).keys.rxFrom = some o.startSeq ∧ ∃ q, Sent s (Eff.on (rekeyOffer n o) s) n .keyAccept [n, q] := by
  have hDue : (s.flag F.RUN_STAT_ENCRYPTED n && o.epoch == (s.fget F.RUN_STAT_KEY_EPOCH n + 1) % 256 &&
      !((s.port n).keys.phase != 0 && (s.port n).keys.rekey && decide (s.slag.serial % 2 ^ 64 < (s.port n).keys.peerSerial))) = true := by
    simp [State.flag, hKeyed, hEpoch, hIdle]
  rw [rekeyOffer, on_rd]
  dsimp only
  rw [hDue, on_when_true, keys_onKeys_send]
  exact ⟨rfl, _, sent_onKeys_send _ _ _ _ rfl⟩

end Sys2Proof.Machine

namespace Sys2Proof.Proofs
open Sys2Proof.Machine

/-- Settles O21: each command acts on an UP port whose swap or exchange is as it needs, by the rule of the operation it runs. -/
theorem laneSwapAndKeyCommandsAct : Obligations.LaneSwapAndKeyCommandsAct := by
  refine ⟨fun p l target sender s => ?_, fun p l target s => ?_, fun p s => ?_, fun p s => ?_, fun p o tc s => ?_, fun p q ok s => ?_,
    fun p tc s => ?_, fun p tc s => ?_⟩
  · refine ⟨_, rfl, frame_execLaneSwap p l target sender s rfl, fun hDown => ?_, fun hUp hNone hFree => ?_, fun hUp hNone hUsed => ?_⟩
    all_goals
      rw [on_rd]
      dsimp only
    · rw [beq_false_of_ne hDown, on_when_false]
    · have hFree' : s.flag F.RUN_STAT_SPARE_USED p.val = false := by simp [State.flag, hFree]
      rw [beq_iff_eq.2 hUp, on_when_true, hNone, hFree']
      exact swapAgree_spec ..
    · have hUsed' : s.flag F.RUN_STAT_SPARE_USED p.val = true := by simp [State.flag, hUsed]
      rw [beq_iff_eq.2 hUp, on_when_true, hNone, hUsed']
      rfl
  · refine ⟨_, rfl, frame_execLaneSwapAck p l target s rfl, fun hNone => ?_,
      fun w hSwap => ⟨fun hMine hLane hTarget => ?_, fun hOther => ?_⟩⟩
    · rw [on_rd, hNone]
      rfl
    · rw [on_rd, hSwap]
      dsimp only
      rw [hMine, beq_iff_eq.2 hLane, beq_iff_eq.2 hTarget, Bool.and_self, Bool.and_self, on_when_true, onPort_same]
    · have hOff : (w.mine && w.lane == l.val && w.target == target) = false := by rcases hOther with h | h | h <;> simp [h]
      rw [on_rd, hSwap]
      dsimp only
      rw [hOff, on_when_false]
  · refine ⟨_, rfl, frame_execLaneSwapApply p s rfl, fun hNone => ?_, fun w hSwap => ⟨fun hAgreed hUp => ?_, fun hNot => ?_⟩⟩
    · rw [on_rd, hNone]
      rfl
    · rw [on_rd, hSwap]
      dsimp only
      rw [hAgreed, beq_iff_eq.2 hUp, Bool.and_self, on_when_true]
      exact laneSpared_spec p.val w.lane w.reason w.mine s rfl
    · have hOff : (w.agreed && s.portState p.val == 4) = false := by rcases hNot with h | h <;> simp [h]
      rw [on_rd, hSwap]
      dsimp only
      rw [hOff, on_when_false]
  · refine ⟨_, rfl, frame_execLaneSwapAbandon p s rfl, fun hNone => ?_, fun w hSwap => ⟨fun hMine hOpen hUp => ?_, fun hNot => ?_⟩⟩
    · rw [on_rd, hNone]
      rfl
    · rw [on_rd, hSwap]
      dsimp only
      rw [hMine, hOpen, beq_iff_eq.2 hUp]
      exact leaveUp_spec p.val s
    · have hOff : (w.mine && !w.agreed && s.portState p.val == 4) = false := by rcases hNot with h | h | h <;> simp [h]
      rw [on_rd, hSwap]
      dsimp only
      rw [hOff, on_when_false]
  · refine ⟨_, rfl, frame_execKeyOffer p o tc s rfl, takesTime_keyOffer p o tc s _ rfl, fun hDown => ?_, fun hUp hFirst hBad => ?_,
      fun hUp hFirst hChain hCert hSerial hLife => ?_, fun hUp hRekey hKeyed hEpoch hIdle => ?_⟩
    all_goals rw [on_timed, s.movedOn_portState]
    · rw [beq_false_of_ne hDown, on_when_false]
      exact s.movedOn_same tc
    · rw [beq_iff_eq.2 hUp, on_when_true, if_neg (by simp [hFirst])]
      exact keyOffer_refused (by rwa [s.movedOn_fget tc (by decide)])
    · rw [beq_iff_eq.2 hUp, on_when_true, if_neg (by simp [hFirst])]
      have h := keyOffer_accepted (n := p.val) (s := s.movedOn tc) hChain hCert (by rwa [s.movedOn_fget tc (by decide), s.movedOn_port])
        (by rwa [s.movedOn_fget tc (by decide)])
      simpa only [Sent, s.movedOn_msgs] using h
    · rw [beq_iff_eq.2 hUp, on_when_true, if_pos hRekey]
      have h := rekeyOffer_accepted (n := p.val) (s := s.movedOn tc) (o := o) (by rwa [s.movedOn_fget tc (by decide)])
        (by rwa [s.movedOn_fget tc (by decide)]) (by rwa [s.movedOn_port])
      simpa only [Sent, s.movedOn_msgs] using h
  · refine ⟨_, rfl, frame_execKeyAccept p q ok s rfl, fun hNot => ?_, fun hUp hPhase hOk => ?_, fun hUp hPhase hFirst hBad => ?_⟩
    all_goals
      rw [on_rd]
      dsimp only
    · have hOff : (s.portState p.val == 4 && ((s.port p.val).keys.phase == 2 || ((s.port p.val).keys.phase == 1 &&
          (s.port p.val).keys.rekey))) = false := by
        
        rcases hNot with h | ⟨h2, h1 | hFirst⟩
        · simp [h]
        · simp [h2, h1]
        · simp [h2, hFirst]
      rw [hOff, on_when_false]
    · rw [beq_iff_eq.2 hUp, beq_iff_eq.2 hPhase, Bool.true_or, Bool.and_self, on_when_true, hOk, Bool.true_or, on_either_true, on_seq_pair,
        (only_fset (ps := [.fld .RUN_STAT]) (by decide) _ _).port (by decide), keys_onKeys, on_fset, Upd.fget_fld_same (by decide)]
      exact ⟨rfl, rfl⟩
    · rw [beq_iff_eq.2 hUp, beq_iff_eq.2 hPhase, Bool.true_or, Bool.and_self, on_when_true, hBad, hFirst, Bool.or_self, on_either_false]
      exact keyRefuse_spec ..
  · refine ⟨_, rfl, frame_execKeyExchangeTimeout p tc s rfl, takesTime_keyExchangeTimeout p tc s _ rfl, fun hNot => ?_, fun hUp hPhase hLong => ?_,
      fun hUp hPhase hFirst hShort hNotLong => ?_⟩
    all_goals
      rw [on_timed]
      dsimp only
      rw [s.movedOn_portState, s.movedOn_port, s.movedOn_tc]
    · by_cases hOpen : s.portState p.val = 4 ∧ (s.port p.val).keys.phase ≠ 0
      · have hEarly : s.clockAt tc < (s.port p.val).keys.since + 10000000 := (hNot.resolve_left (not_not.2 hOpen.1)).resolve_left hOpen.2
        rw [decide_eq_false (by omega), decide_eq_false (by omega), Bool.and_false, beq_iff_eq.2 hOpen.1, bne_iff_ne.2 hOpen.2,
          Bool.and_self, on_when_true, on_either_false, on_when_false]
        exact s.movedOn_same tc
      · have hOff : (s.portState p.val == 4 && (s.port p.val).keys.phase != 0) = false := by simpa using hOpen
        rw [hOff, on_when_false]
        exact s.movedOn_same tc
    · rw [beq_iff_eq.2 hUp, bne_iff_ne.2 hPhase, Bool.and_self, on_when_true, decide_eq_true hLong, on_either_true]
      exact (leaveUp_spec ..).1
    · rw [beq_iff_eq.2 hUp, bne_iff_ne.2 hPhase, Bool.and_self, on_when_true, decide_eq_false (by omega), on_either_false, hFirst,
        decide_eq_true hShort, Bool.not_false, Bool.and_self, on_when_true, keys_onKeys_send]
      exact ⟨rfl, rfl, sent_onKeys_send _ _ _ _ (s.movedOn_msgs tc)⟩
  · have hTc := takesTime_rekeyTimer p tc s _ rfl
    refine ⟨_, rfl, frame_execRekeyTimer p tc s rfl, hTc, fun hNot => ?_, fun hKeyed hIdle => ?_⟩
    all_goals
      try rw [hTc]
      rw [on_timed]
      dsimp only
      rw [State.flag, s.movedOn_fget tc (by decide), s.movedOn_port]
    · have hOff : (s.fget F.RUN_STAT_ENCRYPTED p.val == 1 && (s.port p.val).keys.phase == 0) = false := by rcases hNot with h | h <;> simp [h]
      rw [hOff, on_when_false]
      exact s.movedOn_same tc
    · rw [beq_iff_eq.2 hKeyed, beq_iff_eq.2 hIdle, Bool.and_self, on_when_true, keys_onKeys_send]
      rw [s.movedOn_fget tc (f := F.RUN_STAT_KEY_EPOCH) (by decide)]
      exact ⟨rfl, rfl, s.movedOn_tc tc, _, sent_onKeys_send _ _ _ _ (s.movedOn_msgs tc)⟩

end Sys2Proof.Proofs
end

section
/-! Mailbox queries, test events, the aperture, and the configuration of an event ring (R464, R479, R482, R487, R491, R582, R680). -/
namespace Sys2Proof.Machine

/-- A query that is running ends with its record in the payload (R479). -/
theorem mbQuery_answers {k cmd : Nat} {s : State} (h : s.mbRuns k cmd = true) (record : List Byte → State → List Byte) {t : State}
    (ht : t = Eff.on (mbCommand k cmd fun args => rd fun s => mbDoneWith k (record args s)) s) : SlotDone t k 0 ∧
    (t.slot k).payload = Mem.wrN [] 0 (record (s.slot k).args s) ∧ (t.slot k).resultLen = (record (s.slot k).args s).length := by
  rw [ht, mbCommand_runs h, on_rd]
  exact slot_mbDoneWith ..

/-! The configuration of a ring (R464). -/

/-- What MB_EVENT_RING_SET gives a ring: whether it is configured, its base, port, depth and vector. -/
def RingSt.setup (g : RingSt) : Bool × Nat × Nat × Nat × Nat := (g.configured, g.base, g.port, g.depthLog2, g.vector)

/-- An effect that writes no ring leaves the configuration of each. -/
theorem Eff.Only.keeps_ringSetup {ps : List Part} {e : Eff} (h : e.Only ps) (hp : Part.rings ∉ ps) (j : Nat) :
    e.Keeps fun s => (s.ring j).setup := fun s => by
  simp only [State.ring, h.frame_rings hp]

theorem keeps_fset_ringSetup (f : Fld) (i v j : Nat) : (fset f i v).Keeps fun s => (s.ring j).setup :=
  (only_fset (ps := [.fld f.reg]) (List.mem_singleton_self _) i v).keeps_ringSetup (by simp) j

/-- A change of a ring that leaves its configuration leaves that of every ring. -/
theorem keeps_onRing_ringSetup {f : RingSt → RingSt} (h : ∀ g, (f g).setup = g.setup) (n j : Nat) :
    (onRing n f).Keeps fun s => (s.ring j).setup := fun s => by
  dsimp only
  rcases eq_or_ne n j with rfl | hOther
  · rw [onRing_same, h]
  · rw [onRing_ne f s hOther]

theorem keeps_ringWrite_ringSetup (n : Nat) (r : EvRec) (j : Nat) : (ringWrite n r).Keeps fun s => (s.ring j).setup :=
  (only_ringWrite (List.Subset.refl _) n r).keeps_ringSetup (by decide) j

theorem keeps_ringLose_ringSetup (n : Nat) (r : EvRec) (j : Nat) : (ringLose n r).Keeps fun s => (s.ring j).setup :=
  keeps_rd fun _ => keeps_seq_cons (keeps_onRing_ringSetup (by intro; rfl) n j) <|
    keeps_seq₂ (keeps_fset_ringSetup _ _ _ _) (keeps_fset_ringSetup _ _ _ _)

theorem keeps_ringReport_ringSetup (n j : Nat) : (ringReport n).Keeps fun s => (s.ring j).setup :=
  keeps_rd fun s => keeps_when <| keeps_seq_cons (keeps_ringWrite_ringSetup n (s.lostRecord n) j) <|
    keeps_seq₂ (keeps_onRing_ringSetup (by intro; rfl) n j) (keeps_fset_ringSetup _ _ _ _)

/-- Ring 0's first configuration sends it the records held since the boot, as they fit or are lost (R582). -/
theorem keeps_heldRecords_ringSetup (e : EventSt) (held : List EvRec) (j : Nat) : (seq [upd [.ev e],
    each held fun r => rd fun s => either (s.ringRoom 0) (ringWrite 0 r) (ringLose 0 r)]).Keeps fun s => (s.ring j).setup :=
  keeps_seq₂ ((only_upd (ps := [.ev]) (by simp [Upd.part])).keeps_ringSetup (by decide) j) <|
    keeps_each fun r => keeps_rd fun _ => keeps_either (keeps_ringWrite_ringSetup 0 r j) (keeps_ringLose_ringSetup 0 r j)

/-- A ring takes its configuration first; the counters, held records and reports that follow leave it. -/
theorem ringSet_setup (n port depth vector base : Nat) (s : State) :
    ((Eff.on (ringSet n port depth vector base) s).ring n).setup = (decide (base ≠ 0), base, port, depth, vector) := by
  rw [ringSet, on_rd, on_seq_cons]
  refine (keeps_seq₂ (keeps_when ?_) ((only_ringStatus (List.Subset.refl _) n).keeps_ringSetup (by decide) n) _).trans ?_
  · exact keeps_seq_cons (keeps_fset_ringSetup _ _ _ _) <| keeps_seq_cons (keeps_fset_ringSetup _ _ _ _) <|
      keeps_seq_cons (keeps_fset_ringSetup _ _ _ _) <| keeps_seq₂ (keeps_when (keeps_heldRecords_ringSetup _ _ n)) (keeps_ringReport_ringSetup n n)
  · rw [onRing_same, decide_not]
    rfl

end Sys2Proof.Machine

namespace Sys2Proof.Proofs
open Sys2Proof.Machine

/-- Settles O28: a query ends with its record, a ring is configured before anything is written to it, and the other commands are read off what
they write before they end. -/
theorem mailboxQueryCommandsAct : Obligations.MailboxQueryCommandsAct := by
  refine ⟨fun k s => ?_, fun k s => ?_, fun k s => ?_, fun k s => ?_, fun k s => ?_, fun k s => ?_⟩
  · exact ⟨_, rfl, frame_execMbInfoGet k s rfl, fun h => mbQuery_answers h (fun _ s => s.infoRecord) rfl, fun h => mbCommand_idle h⟩
  · exact ⟨_, rfl, frame_execMbSlagRead k s rfl, fun h => mbQuery_answers h (fun args s => (s.slagImage.drop (leAt args 0 4)).take 4096) rfl,
      fun h => mbCommand_idle h⟩
  · refine ⟨_, rfl, frame_execMbEventRingSet k s rfl, fun h => ?_, fun h => mbCommand_idle h⟩
    rw [mbCommand_runs h, on_seq_pair]
    have hSetup := ((only_mbDone_parts k.val 0).keeps_ringSetup (by decide) (leAt (s.slot k.val).args 0 1) _).trans <|
      ringSet_setup (leAt (s.slot k.val).args 0 1) (leAt (s.slot k.val).args 1 1) (leAt (s.slot k.val).args 2 1)
        (leAt (s.slot k.val).args 4 2) (leAt (s.slot k.val).args 8 8) s
    simp only [RingSt.setup, Prod.mk.injEq] at hSetup
    obtain ⟨hConfigured, hBase, hPort, hDepth, hVector⟩ := hSetup
    exact ⟨slotDone_mbDone .., hConfigured, hBase, hPort, hDepth, hVector⟩
  · refine ⟨_, rfl, frame_execMbFlaskList k s rfl, fun h b hb => ?_, fun h => mbCommand_idle h⟩
    rw [hb]
    exact mbQuery_answers h (fun _ s => (List.range 16).flatMap fun f => s.flaskRecord f (!s.tenant k.val || s.tenantFlask k.val == f)) rfl
  · refine ⟨_, rfl, frame_execMbEventTest k s rfl, fun h => ?_, fun h => mbCommand_idle h⟩
    rw [mbCommand_runs h, on_draw, on_seq_pair]
    refine ⟨slotDone_mbDone .., ?_, ?_⟩
    · rw [Raised, (only_mbDone_parts k.val 0).frame_ev (by decide)]
      exact ⟨_, rfl, rfl, rfl⟩
    · rw [(only_mbDone_parts k.val 0).frame_freeCtr (by decide)]
      rfl
  · refine ⟨_, rfl, frame_execMbApertureSet k s rfl, fun h hMay => ?_, fun h hMay => ?_, fun h => mbCommand_idle h⟩ <;>
      rw [mbCommand_runs h, on_rd, hMay]
    · rw [on_either_false]
      exact ⟨slotFailed_mbFail .., (only_mbFail_parts _ _).keeps_fget (by decide) 0 s⟩
    · rw [on_either_true, on_seq_cons, on_seq_pair]
      refine ⟨slotDone_mbDone .., ?_, ?_⟩
      · exact ((only_mbDone_parts _ _).keeps_fget (by decide) 0 _).trans <| (keeps_fset_other (by decide) 0 0 _ _).trans <|
          Upd.fget_fld_same (by decide) ..
      · exact ((only_mbDone_parts _ _).keeps_fget (by decide) 0 _).trans <| Upd.fget_fld_same (by decide) ..

end Sys2Proof.Proofs
end

section
/-! MB_FLASK_LIST: the bytes of its sixteen records (R487). -/
namespace Sys2Proof.Machine

/-- A part of a byte string read back from where the string was stored. -/
theorem Mem.rdN_wrN_part {bs : List Byte} {a n : Nat} (h : a + n ≤ bs.length) : Mem.rdN (Mem.wrN [] 0 bs) a n = (bs.drop a).take n := by
  refine List.ext_getElem (by rw [Mem.length_rdN, List.length_take, List.length_drop]; omega) fun i hi _ => ?_
  have hLt : i < n := by rwa [Mem.length_rdN] at hi
  rw [← List.getD_eq_getElem _ 0 hi, Mem.getD_rdN _ _ _ _ hLt, ← Nat.zero_add (a + i), Mem.rd_wrN_in _ _ _ _ (by omega),
    List.getElem_take, List.getElem_drop, List.getD_eq_getElem]

/-- Records of one length put one after the other, in order of their numbers: record `f` begins at `f` times that length. -/
theorem drop_flatMap_range {α : Type} {g : Nat → List α} {w n f : Nat} (hLen : ∀ i, (g i).length = w) (hf : f < n) :
    ∃ rest, ((List.range n).flatMap g).drop (w * f) = g f ++ rest := by
  obtain ⟨r, rfl⟩ : ∃ r, n = f + (r + 1) := ⟨n - f - 1, by omega⟩
  have hBefore : ((List.range f).flatMap g).length = w * f := by simp [List.length_flatMap, hLen, Nat.mul_comm]
  rw [List.range_add, List.flatMap_append, List.drop_left' hBefore, List.range_succ_eq_map, List.map_cons, List.flatMap_cons, Nat.add_zero]
  exact ⟨_, rfl⟩

theorem State.length_flaskRecord (s : State) (f : Nat) (shown : Bool) : (s.flaskRecord f shown).length = 16 := by
  unfold State.flaskRecord
  dsimp only
  split <;> simp [length_natLe]

/-- The records of all flasks, as a slot that is no tenant's sees them (R487, R650). -/
def State.flaskRecords (s : State) : List Byte := (List.range 16).flatMap fun f => s.flaskRecord f true

theorem State.length_flaskRecords (s : State) : s.flaskRecords.length = 256 := by
  simp [State.flaskRecords, List.length_flatMap, State.length_flaskRecord]

/-- Bytes within the record of a flask, read from the stored list. -/
theorem State.rdN_flaskRecords (s : State) {f o n : Nat} (hf : f < 16) (hn : o + n ≤ 16) :
    Mem.rdN (Mem.wrN [] 0 s.flaskRecords) (16 * f + o) n = ((s.flaskRecord f true).drop o).take n := by
  obtain ⟨rest, hRest⟩ := drop_flatMap_range (fun i => s.length_flaskRecord i true) hf
  have hLen := s.length_flaskRecord f true
  rw [Mem.rdN_wrN_part (by rw [s.length_flaskRecords]; omega), ← List.drop_drop, State.flaskRecords, hRest,
    List.drop_append_of_le_length (by omega), List.take_append_of_le_length (by rw [List.length_drop]; omega)]

/-- The head of a record: the flask's number and state, 0 for one that does not exist (R487). -/
theorem State.flaskRecord_head (s : State) (f : Nat) :
    (s.flaskRecord f true).take 2 = natLe 1 f ++ natLe 1 (if (s.flask f).live then 1 + s.flaskState f else 0) := by
  unfold State.flaskRecord
  dsimp only
  cases (s.flask f).live <;> rfl

/-- The rest of the record of a flask that exists (R487). -/
theorem State.flaskRecord_tail {s : State} {f : Nat} (h : (s.flask f).live = true) : ((s.flaskRecord f true).drop 2).take 14 =
    natLe 2 (s.flask f).cores.length ++ natLe 4 (s.flask f).gen ++ natLe 2 (s.flask f).baseGib ++ natLe 2 (s.flask f).gib ++
      natLe 4 ((s.flask f).active.id % 2 ^ 32) := by
  unfold State.flaskRecord
  dsimp only
  rw [h]
  rfl

end Sys2Proof.Machine

namespace Sys2Proof.Proofs
open Sys2Proof.Machine

/-- Settles O56: the payload holds the sixteen records one after the other, each of 16 bytes. -/
theorem flaskListRecords : Obligations.FlaskListRecords := by
  intro k s hRuns hTenant
  have hShown : (List.range 16).flatMap (fun f => s.flaskRecord f (!s.tenant k.val || s.tenantFlask k.val == f)) = s.flaskRecords := by
    simp [hTenant, State.flaskRecords]
  obtain ⟨hDone, hPayload, hLen⟩ := mbQuery_answers hRuns
    (fun _ s => (List.range 16).flatMap fun f => s.flaskRecord f (!s.tenant k.val || s.tenantFlask k.val == f)) rfl
  rw [hShown] at hPayload hLen
  refine ⟨_, rfl, frame_execMbFlaskList k s rfl, hDone, hLen.trans s.length_flaskRecords, fun f hf => ⟨?_, fun hLive => ?_⟩⟩
  · rw [hPayload, ← s.flaskRecord_head f]
    exact s.rdN_flaskRecords (o := 0) hf (by decide)
  · rw [hPayload, ← State.flaskRecord_tail hLive]
    exact s.rdN_flaskRecords hf (by decide)

end Sys2Proof.Proofs
end

section
/-! Mailbox slots: acceptance, the start and the cancellation of a command, and the sideband's slot (R472 to R476, R486, R490, R540). -/
namespace Sys2Proof.Machine

/-! The start of a command (R475, R540). -/

theorem mbStart_waits {k : Nat} {s : State} (h : s.mayStart k = false) : Eff.on (mbStart k) s = s := by
  rw [mbStart, on_rd, h, on_when_false]

theorem mbStart_refused {k : Nat} {s : State} (h : s.mayStart k = true) (hRest : s.restRefuses (s.slot k).cmd = true) :
    Eff.on (mbStart k) s = Eff.on (mbFail k 0x0210) s := by
  rw [mbStart, on_rd, h, on_when_true, hRest, on_either_true]

theorem slot_mbStart_runs {k : Nat} {s : State} (h : s.mayStart k = true) (hRest : s.restRefuses (s.slot k).cmd = false) :
    (Eff.on (mbStart k) s).slot k = { s.slot k with state := 2 } := by
  rw [mbStart, on_rd, h, on_when_true, hRest, on_either_false, on_seq_pair,
    (only_when fun _ => only_fbit (ps := [.fld .MOD_MB_SUMMARY]) (by decide) _ _ _).slot (by decide), onSlot_same]

/-- What acceptance copies of a command, which its end leaves: code, arguments, SEQ, the time and the count of refused writes (R474). -/
def MbSlot.copied (m : MbSlot) : Nat × List Byte × Nat × Nat × Nat := (m.cmd, m.args, m.seq, m.tcAccepted, m.refused)

theorem mbFail_copied (k status : Nat) (s : State) : ((Eff.on (mbFail k status) s).slot k).copied = (s.slot k).copied ∧
    ((Eff.on (mbFail k status) s).slot k).state = 5 := by
  rw [slot_mbFail]
  exact ⟨rfl, rfl⟩

/-- A waiting command goes on waiting, runs or fails, and keeps what was copied. -/
theorem mbStart_copied {k : Nat} {s : State} (hWaits : (s.slot k).state = 1) : ((Eff.on (mbStart k) s).slot k).copied = (s.slot k).copied ∧
    (((Eff.on (mbStart k) s).slot k).state = 1 ∨ ((Eff.on (mbStart k) s).slot k).state = 2 ∨ ((Eff.on (mbStart k) s).slot k).state = 5) := by
  cases hMay : s.mayStart k
  case false =>
    rw [mbStart_waits hMay]
    exact ⟨rfl, .inl hWaits⟩
  case true =>
    cases hRest : s.restRefuses (s.slot k).cmd
    case true =>
      rw [mbStart_refused hMay hRest]
      exact ⟨(mbFail_copied ..).1, .inr (.inr (mbFail_copied ..).2)⟩
    case false =>
      rw [slot_mbStart_runs hMay hRest]
      exact ⟨rfl, .inr (.inl rfl)⟩

/-! Acceptance (R472 to R474). -/

theorem mbAccept_copied (k : Nat) (secured : Bool) (s : State) {t : State} (ht : t = Eff.on (mbAccept k secured) s) :
    (t.slot k).copied = (bitsOf (s.slot k).submit 0 16, Mem.rdN (s.slot k).payload 0 (min (bitsOf (s.slot k).submit 16 13) 4096),
      bitsOf (s.slot k).submit 32 16, s.tc, 0) ∧ ((t.slot k).state = 1 ∨ (t.slot k).state = 2 ∨ (t.slot k).state = 5) := by
  have hBusy (u : State) : (Eff.on (mbBusy k true) u).slot k = u.slot k := (only_mbBusy (List.Subset.refl _) k true).slot (by decide) u k
  have hOrder (n : Nat) (u : State) : (Eff.on (upd [.mbOrder n]) u).slot k = u.slot k :=
    (only_upd (ps := [.mbOrder]) (by simp [Upd.part])).slot (by decide) u k
  rw [ht, mbAccept, on_rd]
  dsimp only
  rw [on_seq_cons, on_seq_cons, on_seq_pair]
  generalize (s.mbCheck k _ _ _ secured != 0) = refused
  cases refused
  case true =>
    rw [on_either_true]
    refine ⟨(mbFail_copied ..).1.trans ?_, .inr (.inr (mbFail_copied ..).2)⟩
    rw [hBusy, hOrder, onSlot_same]
    rfl
  case false =>
    rw [on_either_false]
    refine ⟨(mbStart_copied (by rw [hBusy, hOrder, onSlot_same])).1.trans ?_, (mbStart_copied (by rw [hBusy, hOrder, onSlot_same])).2⟩
    rw [hBusy, hOrder, onSlot_same]
    rfl

theorem tc_onSlot (k : Nat) (f : MbSlot → MbSlot) (s : State) : (Eff.on (onSlot k f) s).tc = s.tc :=
  (only_onSlot (ps := [.slots]) (by decide) k f).fget (by decide) (by decide) (by decide) s 0

theorem bitsOf_submitBits (v : Nat) : bitsOf (submitBits v) 0 16 = v % 2 ^ 16 := by
  simp only [submitBits, bitsOf]
  omega

theorem State.movedOn_mbServed (s : State) (tc : Nat) : (s.movedOn tc).mbServed = s.mbServed := by
  rw [State.mbServed, s.movedOn_fget tc (by decide), State.mbServed]

/-! MB_SUBMIT (R473, R474). -/

/-- SUBMIT of a slot after a write of the bytes of a mask (R472). -/
def submitMasked (submit : Word) (mask old : Nat) : Nat :=
  submitBits ((submit.toNat &&& coverMask mask 8) + (old - (old &&& coverMask mask 8)))

section
variable {slot : Fin 16} {submit : Word} {mask : Fin 256} {tc : Nat} {s t : State}

theorem mbSubmit_unserved (h : s.mbServed = false) (ht : exec (.mbSubmit slot submit mask tc) s = .next t) : t = s.movedOn tc := by
  rw [exec_mbSubmit, execMbSubmit, run_eq, on_timed, s.movedOn_mbServed, h, on_when_false] at ht
  exact (Host.Outcome.next.inj ht).symm

theorem mbSubmit_busy (h : s.mbServed = true) (hBusy : (s.slot slot.val).isOpen = false) (ht : exec (.mbSubmit slot submit mask tc) s = .next t) :
    t.slot slot.val = { s.slot slot.val with refused := satAdd 0xFFFF (s.slot slot.val).refused 1 } := by
  rw [exec_mbSubmit, execMbSubmit, run_eq, on_timed, s.movedOn_mbServed, h, on_when_true, s.movedOn_slot, hBusy, if_neg (by decide)] at ht
  rw [← Host.Outcome.next.inj ht, onSlot_same, s.movedOn_slot]

/-- A write to an open slot is held in SUBMIT; with GO it is then accepted. -/
theorem mbSubmit_open (h : s.mbServed = true) (hOpen : (s.slot slot.val).isOpen = true) {v : Nat}
    (hv : v = submitMasked submit mask.val (s.slot slot.val).submit) (ht : exec (.mbSubmit slot submit mask tc) s = .next t) :
    t = Eff.on (when (bitOf mask.val 7 && bitOf v 63) (mbAccept slot.val false))
      (Eff.on (onSlot slot.val fun m => { m with submit := v }) (s.movedOn tc)) := by
  rw [exec_mbSubmit, execMbSubmit, run_eq, on_timed, s.movedOn_mbServed, h, on_when_true, s.movedOn_slot, hOpen, if_pos rfl, on_seq_pair] at ht
  rw [← Host.Outcome.next.inj ht, hv]
  rfl

theorem mbSubmit_held (h : s.mbServed = true) (hOpen : (s.slot slot.val).isOpen = true) {v : Nat}
    (hv : v = submitMasked submit mask.val (s.slot slot.val).submit) (hNoGo : bitOf mask.val 7 = false ∨ bitOf v 63 = false)
    (ht : exec (.mbSubmit slot submit mask tc) s = .next t) : t.slot slot.val = { s.slot slot.val with submit := v } := by
  have hOff : (bitOf mask.val 7 && bitOf v 63) = false := by rcases hNoGo with h | h <;> simp [h]
  rw [mbSubmit_open h hOpen hv ht, hOff, on_when_false, onSlot_same, s.movedOn_slot]

theorem mbSubmit_accepted (h : s.mbServed = true) (hOpen : (s.slot slot.val).isOpen = true) {v : Nat}
    (hv : v = submitMasked submit mask.val (s.slot slot.val).submit) (hTop : bitOf mask.val 7 = true) (hGo : bitOf v 63 = true)
    (ht : exec (.mbSubmit slot submit mask tc) s = .next t) :
    (t.slot slot.val).copied = (v % 2 ^ 16, Mem.rdN (s.slot slot.val).payload 0 (min (bitsOf v 16 13) 4096), bitsOf v 32 16, s.clockAt tc, 0) ∧
      ((t.slot slot.val).state = 1 ∨ (t.slot slot.val).state = 2 ∨ (t.slot slot.val).state = 5) := by
  have hRun := mbSubmit_open h hOpen hv ht
  rw [hTop, hGo, Bool.and_self, on_when_true] at hRun
  have hCode : bitsOf v 0 16 = v % 2 ^ 16 := by rw [bitsOf, Nat.pow_zero, Nat.div_one]
  obtain ⟨hCopied, hState⟩ := mbAccept_copied slot.val false _ hRun
  rw [onSlot_same, s.movedOn_slot, tc_onSlot, s.movedOn_tc, hCode] at hCopied
  exact ⟨hCopied, hState⟩

end

/-! Effects that leave a slot alone unless its command runs: a port that changes its state ends only running commands (R486). -/

/-- The effect leaves slot `k` as it is in every state in which no command of it runs. -/
def Eff.SparesIdle (k : Nat) (e : Eff) : Prop := ∀ s : State, (s.slot k).runs = false → (Eff.on e s).slot k = s.slot k

section
variable {k : Nat}

theorem Eff.Only.sparesIdle {ps : List Part} {e : Eff} (h : e.Only ps) (hp : Part.slots ∉ ps) : e.SparesIdle k := fun s _ => h.slot hp s k
theorem sparesIdle_seq_nil : (seq []).SparesIdle k := fun _ _ => rfl
theorem sparesIdle_seq_cons {e : Eff} {es : List Eff} (h : e.SparesIdle k) (h' : (seq es).SparesIdle k) : (seq (e :: es)).SparesIdle k :=
  fun s hs => by rw [on_seq_cons, h' _ (by rw [h s hs]; exact hs), h s hs]
theorem sparesIdle_seq₂ {a b : Eff} (ha : a.SparesIdle k) (hb : b.SparesIdle k) : (seq [a, b]).SparesIdle k :=
  sparesIdle_seq_cons ha (sparesIdle_seq_cons hb sparesIdle_seq_nil)
theorem sparesIdle_rd {e : State → Eff} (h : ∀ s, (e s).SparesIdle k) : (rd e).SparesIdle k := fun s => h s s
theorem sparesIdle_each {α : Type} {l : List α} {f : α → Eff} (h : ∀ a, (f a).SparesIdle k) : (each l f).SparesIdle k := by
  induction l with
  | nil => exact sparesIdle_seq_nil
  | cons a l ih => exact sparesIdle_seq_cons (h a) ih

theorem keeps_onSlot_other {j : Nat} (h : j ≠ k) (f : MbSlot → MbSlot) : (onSlot j f).Keeps fun s => s.slot k := fun s => onSlot_ne f s h

/-- The end of a command leaves the other slots. -/
theorem keeps_mbEnd_other {j : Nat} (h : j ≠ k) (st result progress : Nat) : (mbEnd j st result progress).Keeps fun s => s.slot k :=
  keeps_rd fun _ => keeps_seq_cons (keeps_onSlot_other h _) fun s => (only_seq₃ (ps := [.fld .MOD_MB_SUMMARY, .hostOut, .hports])
    (only_mbBusy (by decide) j false) (only_when fun _ => only_seq₂ (only_fbit (by decide) _ _ _) (only_fbit (by decide) _ _ _))
    (only_mbNotify (by decide) j 0)).slot (by decide) s k

theorem keeps_portCtlEnd_other {j : Nat} (h : j ≠ k) (n : Nat) : (portCtlEnd n j).Keeps fun s => s.slot k :=
  keeps_rd fun _ => keeps_seq_cons (keeps_onSlot_other h _) <| keeps_seq₂ (keeps_onSlot_other h _) <| keeps_when <|
    keeps_either (keeps_rd fun _ => keeps_mbEnd_other h _ _ _) (keeps_mbEnd_other h _ _ _)

theorem State.not_mem_slotsRunning {s : State} (h : (s.slot k).runs = false) (pred : MbSlot → Bool) : k ∉ s.slotsRunning pred := by
  rw [MbSlot.runs] at h
  simp [State.slotsRunning, h]

theorem sparesIdle_portCtl (n : Nat) : (portCtl n).SparesIdle k := fun s hs =>
  on_each_keeps (fun s => s.slot k) (fun _ hj => keeps_portCtlEnd_other (fun hjk => s.not_mem_slotsRunning hs _ (hjk ▸ hj)) n) s

theorem sparesIdle_portTo (n st : Nat) : (portTo n st).SparesIdle k :=
  sparesIdle_rd fun _ => sparesIdle_seq_cons ((only_fset (ps := [.fld .RUN_STAT]) (by decide) _ _).sparesIdle (by decide)) <|
    sparesIdle_seq₂ ((only_onPort (ps := [.ports]) (by decide) _ _).sparesIdle (by decide)) (sparesIdle_portCtl n)

theorem sparesIdle_leaveUp (n : Nat) : (leaveUp n).SparesIdle k := by
  have hFld {f : Fld} (hf : Part.fld f.reg ∈ [.fld .RUN_STAT, .fld .RUN_ERR]) (v : Nat) : (fset f n v).SparesIdle k :=
    (only_fset hf n v).sparesIdle (by decide)
  have hPort (f : PortSt → PortSt) : (onPort n f).SparesIdle k := (only_onPort (ps := [.ports]) (by decide) n f).sparesIdle (by decide)
  have hEvent (b : Bool) (w : Who) (d : List (Nat × Nat)) : (when b (raise 0x0601 0 w d)).SparesIdle k :=
    (only_when fun _ => only_raise (ps := [.ev]) (by decide) _ _ _ _).sparesIdle (by decide)
  have hFlask (b : Bool) (w : Who) (d : List (Nat × Nat)) (f : Nat) :
      (seq [raise 0x0601 2 w d, when b (fenceBeacon 0x12 n 0xFF 0x0601 f 0), faultHaltAtFrame f 4]).SparesIdle k :=
    (only_seq₃ (ps := [.ev, .faults, .fld .MOD_FAULT_STAT, .flasks, .msgs]) (only_raise (by decide) _ _ _ _)
      (only_when fun _ => only_fenceBeacon (by decide) _ _ _ _ _ _) (only_faultHaltAtFrame (by decide) _ _)).sparesIdle (by decide)
  unfold leaveUp
  refine sparesIdle_rd fun s => ?_
  dsimp only
  refine sparesIdle_seq_cons (hFld (by decide) _) <| sparesIdle_seq_cons (hFld (by decide) _) <| sparesIdle_seq_cons (hFld (by decide) _) <|
    sparesIdle_seq_cons (hPort _) <| sparesIdle_seq_cons (sparesIdle_portTo n 0) <| sparesIdle_seq₂ (hEvent _ _ _) ?_
  exact sparesIdle_each fun f => hFlask _ _ _ f

theorem sparesIdle_portDrop (n : Nat) : (portDrop n).SparesIdle k := fun s hs => by
  rw [portDrop, on_rd]
  split
  · exact sparesIdle_leaveUp n s hs
  · exact sparesIdle_portTo n 0 s hs

end

/-! Cancellation (R476). -/

section
variable {k : Nat} {s : State}

theorem MbSlot.runs_iff (m : MbSlot) : m.runs = true ↔ m.state = 2 ∨ m.state = 3 := by simp [MbSlot.runs]

theorem MbSlot.isOpen_of_busy {m : MbSlot} (h : m.state = 1 ∨ m.state = 2 ∨ m.state = 3) : m.isOpen = false := by
  rcases h with h | h | h <;> simp [MbSlot.isOpen, h]

/-- The command can be cancelled where it stands: it waits, or runs and is one of the cancellable commands (R476). -/
def MbSlot.honoured (m : MbSlot) : Bool := m.state == 1 || (m.runs && [0x0103, 0x010A, 0x0305, 0x0205, 0x0601, 0x0204].elem m.cmd)

theorem MbSlot.honoured_of_waits {m : MbSlot} (h : m.state = 1) : m.honoured = true := by simp [MbSlot.honoured, h]

theorem MbSlot.honoured_of_runs {m : MbSlot} (h : m.runs = true) : m.honoured = [0x0103, 0x010A, 0x0305, 0x0205, 0x0601, 0x0204].elem m.cmd := by
  have hState : (m.state == 1) = false := by rcases m.runs_iff.1 h with h | h <;> simp [h]
  rw [MbSlot.honoured, hState, h, Bool.false_or, Bool.true_and]

/-- A write of CANCEL to a slot that has ended is held there. -/
theorem mbCancel_open (h : (s.slot k).isOpen = true) (hEnded : (s.slot k).state ≠ 0) (hCancel : (s.slot k).cancel ≠ 2) :
    (Eff.on (mbCancel k) s).slot k = { s.slot k with cancel := 1 } := by
  rw [mbCancel, on_rd]
  dsimp only
  rw [if_pos h, bne_iff_ne.2 hEnded, bne_iff_ne.2 hCancel, Bool.and_self, on_when_true, onSlot_same]

/-- What can be cancelled ends with status 0x0201; the ports that it waited for are dropped, which leaves its slot alone. -/
theorem mbCancel_ends (hBusy : (s.slot k).isOpen = false) (h : (s.slot k).honoured = true) :
    SlotFailed (Eff.on (mbCancel k) s) k 0x0201 ∧ ((Eff.on (mbCancel k) s).slot k).cancel = 2 := by
  have hPorts (b : Bool) (l : List Nat) :
      (when b (each l fun p => seq [onPort p (fun x => { x with enabled := false }), portDrop p])).SparesIdle k := by
    cases b
    · exact fun _ _ => rfl
    · exact sparesIdle_each fun p =>
        sparesIdle_seq₂ ((only_onPort (ps := [.ports]) (by decide) _ _).sparesIdle (by decide)) (sparesIdle_portDrop p)
  rw [MbSlot.honoured] at h
  rw [mbCancel, on_rd]
  dsimp only
  rw [if_neg (by rw [hBusy]; decide), h, on_seq_pair, on_when_true, on_seq_cons, on_seq_pair, SlotFailed,
    hPorts _ _ _ (by rw [slot_mbFail]; rfl)]
  exact ⟨slotFailed_mbFail .., by rw [slot_mbFail, onSlot_same]⟩

/-- A command that cannot be cancelled goes on, its CANCEL held. -/
theorem mbCancel_goesOn (hBusy : (s.slot k).isOpen = false) (h : (s.slot k).honoured = false) :
    (Eff.on (mbCancel k) s).slot k = { s.slot k with cancel := 1 } := by
  rw [MbSlot.honoured] at h
  rw [mbCancel, on_rd]
  dsimp only
  rw [if_neg (by rw [hBusy]; decide), h, on_seq_pair, on_when_false, onSlot_same]

theorem exec_mbCancel_idle {slot : Fin 16} {val : Byte} (h : s.mbServed = false ∨ val ≠ 1) : exec (.mbCancel slot val) s = .next s := by
  have hOff : (s.mbServed && val == 1) = false := by
    rcases h with h | h
    · rw [h, Bool.false_and]
    · rw [beq_eq_false_iff_ne.2 h, Bool.and_false]
  rw [exec_mbCancel, execMbCancel, run_eq, on_rd, hOff, on_when_false]

theorem mbCancel_served {slot : Fin 16} {val : Byte} {t : State} (h : s.mbServed = true) (hVal : val = 1)
    (ht : exec (.mbCancel slot val) s = .next t) : t = Eff.on (mbCancel slot.val) s := by
  rw [exec_mbCancel, execMbCancel, run_eq, on_rd, h, hVal, beq_self_eq_true, Bool.and_self, on_when_true] at ht
  exact (Host.Outcome.next.inj ht).symm

end

/-! The sideband's slot (R490). -/

theorem sidebandAnswer_spec (s : State) {t : State} (ht : t = Eff.on sidebandAnswer s) :
    t.resp = some { bytes := (t.slot 16).response, poison := false, status := 0 } ∧ t.slots = s.slots := by
  subst ht
  exact ⟨rfl, rfl⟩

section
variable {submit : Word} {args : List Byte} {session : Option Nat} {tc : Nat} {s t : State}

theorem sidebandRequest_unserved (h : s.mbServed = false) (ht : exec (.sidebandRequest submit args session tc) s = .next t) : t = s.movedOn tc := by
  rw [exec_sidebandRequest, execSidebandRequest, run_eq, on_timed, s.movedOn_mbServed, h, on_when_false] at ht
  exact (Host.Outcome.next.inj ht).symm

/-- A request is taken where the slot is open and the request is no poll; the answer follows either way. -/
theorem sidebandRequest_served (h : s.mbServed = true) (ht : exec (.sidebandRequest submit args session tc) s = .next t) :
    t = Eff.on sidebandAnswer (Eff.on (when ((s.slot 16).isOpen && !(submitBits submit.toNat % 2 ^ 29 == 0))
      (seq [onSlot 16 fun m => { m with submit := submitBits submit.toNat, payload := Mem.wrN [] 0 (args.take 4096) },
        mbAccept 16 ((s.movedOn tc).isSecured session)])) (s.movedOn tc)) := by
  rw [exec_sidebandRequest, execSidebandRequest, run_eq, on_timed, s.movedOn_mbServed, h, on_when_true, on_seq_pair, s.movedOn_slot] at ht
  exact (Host.Outcome.next.inj ht).symm

theorem sidebandRequest_polls (h : s.mbServed = true) (hPoll : (s.slot 16).isOpen = false ∨ submitBits submit.toNat % 2 ^ 29 = 0)
    (ht : exec (.sidebandRequest submit args session tc) s = .next t) : t.slots = s.slots := by
  have hOff : ((s.slot 16).isOpen && !(submitBits submit.toNat % 2 ^ 29 == 0)) = false := by
    rcases hPoll with h | h
    · rw [h, Bool.false_and]
    · rw [h, beq_self_eq_true, Bool.not_true, Bool.and_false]
  have hRun := sidebandRequest_served h ht
  rw [hOff, on_when_false] at hRun
  rw [(sidebandAnswer_spec _ hRun).2]
  exact Upd.fld_slots ..

theorem sidebandRequest_accepted (h : s.mbServed = true) (hOpen : (s.slot 16).isOpen = true) (hReq : submitBits submit.toNat % 2 ^ 29 ≠ 0)
    (ht : exec (.sidebandRequest submit args session tc) s = .next t) : (t.slot 16).cmd = submit.toNat % 2 ^ 16 ∧
      (t.slot 16).tcAccepted = s.clockAt tc ∧ (t.slot 16).state ≠ 0 := by
  have hOn : ((s.slot 16).isOpen && !(submitBits submit.toNat % 2 ^ 29 == 0)) = true := by
    rw [hOpen, beq_eq_false_iff_ne.2 hReq, Bool.not_false, Bool.and_self]
  have hRun := sidebandRequest_served h ht
  rw [hOn, on_when_true, on_seq_pair] at hRun
  obtain ⟨hCopied, hState⟩ := mbAccept_copied 16 ((s.movedOn tc).isSecured session)
    (Eff.on (onSlot 16 fun m => { m with submit := submitBits submit.toNat, payload := Mem.wrN [] 0 (args.take 4096) }) (s.movedOn tc)) rfl
  rw [onSlot_same, tc_onSlot, s.movedOn_tc, bitsOf_submitBits] at hCopied
  simp only [MbSlot.copied, Prod.mk.injEq] at hCopied
  obtain ⟨hCmd, -, -, hAccepted, -⟩ := hCopied
  have hSlot : t.slot 16 = State.slot _ 16 := congrArg (NMap.get MbSlot.none · 16) (sidebandAnswer_spec _ hRun).2
  rw [hSlot]
  exact ⟨hCmd, hAccepted, by omega⟩

end

end Sys2Proof.Machine

namespace Sys2Proof.Proofs
open Sys2Proof.Machine

/-- Settles O27: what acceptance copies stays through the start or the failure of a command, and a cancelled command's ports spare its slot. -/
theorem mailboxSlotCommandsAct : Obligations.MailboxSlotCommandsAct := by
  refine ⟨fun slot submit mask tc s => ?submit, fun slot val s => ?cancel, fun slot s => ?start, fun s => ?poll,
    fun submit args session tc s => ?sideband⟩
  case submit =>
    refine ⟨_, rfl, frame_execMbSubmit slot submit mask tc s rfl, takesTime_mbSubmit slot submit mask tc s _ rfl, fun h => ?_, fun h hBusy => ?_,
      fun v hv h hOpen hNoGo => mbSubmit_held h hOpen hv hNoGo rfl, fun v hv h hOpen hTop hGo => ?_⟩
    · rw [mbSubmit_unserved h rfl]
      exact s.movedOn_same tc
    · rw [mbSubmit_busy h hBusy rfl]
      exact ⟨rfl, rfl⟩
    · obtain ⟨hCopied, hState⟩ := mbSubmit_accepted (tc := tc) h hOpen hv hTop hGo rfl
      simp only [MbSlot.copied, Prod.mk.injEq] at hCopied
      obtain ⟨hCmd, hArgs, hSeq, hAccepted, hRefused⟩ := hCopied
      exact ⟨hCmd, hArgs, hSeq, hAccepted.trans (takesTime_mbSubmit slot submit mask tc s _ rfl).symm, hRefused, hState⟩
  case cancel =>
    refine ⟨_, rfl, frame_execMbCancel slot val s rfl, fun h => Host.Outcome.next.inj (exec_mbCancel_idle h), fun h hVal hOpen hEnded hCancel => ?_,
      fun h hVal hWaits => ?_, fun h hVal hRuns hCmd => ?_, fun h hVal hRuns hCmd => ?_⟩ <;> rw [mbCancel_served h hVal rfl]
    · exact mbCancel_open hOpen hEnded hCancel
    · exact mbCancel_ends (MbSlot.isOpen_of_busy (.inl hWaits)) (MbSlot.honoured_of_waits hWaits)
    · exact mbCancel_ends (MbSlot.isOpen_of_busy (.inr ((MbSlot.runs_iff _).1 hRuns))) ((MbSlot.honoured_of_runs hRuns).trans hCmd)
    · exact mbCancel_goesOn (MbSlot.isOpen_of_busy (.inr ((MbSlot.runs_iff _).1 hRuns))) ((MbSlot.honoured_of_runs hRuns).trans hCmd)
  case start =>
    refine ⟨_, rfl, frame_execMbCommandStart slot s rfl, fun h => mbStart_waits h, fun h hRest => ?_, fun h hRest => ?_⟩
    · rw [mbStart_refused h hRest]
      exact slotFailed_mbFail ..
    · rw [slot_mbStart_runs h hRest]
      exact ⟨rfl, rfl⟩
  case poll =>
    refine ⟨_, rfl, frame_execMbPoll s rfl, fun h => ?_, fun h => ?_⟩ <;> rw [on_rd, h]
    · exact on_when_false ..
    · exact ⟨rfl, rfl⟩
  case sideband =>
    refine ⟨_, rfl, frame_execSidebandRequest submit args session tc s rfl, takesTime_sidebandRequest submit args session tc s _ rfl, fun h => ?_,
      fun h => (sidebandAnswer_spec _ (sidebandRequest_served h rfl)).1, fun h hPoll => sidebandRequest_polls h hPoll rfl, fun h hOpen hReq => ?_⟩
    · rw [sidebandRequest_unserved h rfl]
      exact s.movedOn_same tc
    · rw [takesTime_sidebandRequest submit args session tc s _ rfl]
      exact sidebandRequest_accepted h hOpen hReq rfl

end Sys2Proof.Proofs
end

section
/-! The management sideband's own requests: firmware update over PLDM, sensors, MCTP control and the I3C address (R549, R577, R579, R591 to R594). -/
namespace Sys2Proof.Machine

/-! Requests served while the mailbox is open, or in some state of the update (R579, R593). -/

section
variable {states : List Nat} {e : Eff} {s : State}

theorem on_served (k : State → Eff) {b : State → Bool} (h : b s = true) : Eff.on (rd fun s => when (b s) (k s)) s = Eff.on (k s) s := by
  rw [on_rd, h, on_when_true]

theorem on_unserved (k : State → Eff) {b : State → Bool} (h : b s = false) : Eff.on (rd fun s => when (b s) (k s)) s = s := by
  rw [on_rd, h, on_when_false]

theorem inUpdate_unserved (h : s.pldmServed = false) : Eff.on (inUpdate states e) s = s := on_unserved _ h

/-- A request in a state of the update that does not take it is refused (R593). -/
theorem inUpdate_refuses (h : s.pldmServed = true) (hState : s.boot.pldm.state ∉ states) :
    Answered (Eff.on (inUpdate states e) s) (if s.boot.pldm.state = 0 then 0x80 else 0x84) [] ∧ (Eff.on (inUpdate states e) s).boot = s.boot := by
  rw [inUpdate, on_served _ h, if_neg (by simpa using hState)]
  exact ⟨rfl, rfl⟩

theorem inUpdate_takes (h : s.pldmServed = true) (hState : s.boot.pldm.state ∈ states) : Eff.on (inUpdate states e) s = Eff.on e s := by
  rw [inUpdate, on_served _ h, if_pos (by simpa using hState)]

end

/-- A change of the update followed by a completion code. -/
theorem onPldm_code (f : PldmSt → PldmSt) (n : Nat) (s : State) : Answered (Eff.on (seq [onPldm f, code n]) s) n [] ∧
    (Eff.on (seq [onPldm f, code n]) s).boot.pldm = f s.boot.pldm := by
  rw [on_seq_pair]
  exact ⟨rfl, rfl⟩

/-- An answer with the next free value. -/
theorem draw_answer (bs : Nat → List Byte) (s : State) :
    Answered (Eff.on (draw fun v => answer (bs v) false 0) s) 0 (bs (Config.freeNat s.freeCtr)) ∧
    (Eff.on (draw fun v => answer (bs v) false 0) s).freeCtr = s.freeCtr + 1 := by
  rw [on_draw]
  exact ⟨rfl, rfl⟩

theorem isRhozel_other {cls ident : Nat} (h : cls ≠ 0x000A ∨ ident ≠ 1) : isRhozel cls ident = false := by
  rcases h with h | h <;> simp [isRhozel, h]

/-! The component table and the component's transfer (R593). -/

theorem passComponent_spec (last : Bool) (bs : List Byte) (s : State) {t : State}
    (ht : t = Eff.on (seq [when last (onPldm fun p => { p with state := 2 }), answer bs false 0]) s) :
    t.boot.pldm.state = (if last then 2 else s.boot.pldm.state) ∧ Answered t 0 bs := by
  rw [ht, on_seq_pair]
  cases last <;> exact ⟨rfl, rfl⟩

/-- The transfer starts: the image is empty, and the device asks for its first bytes. -/
theorem updateComponent_spec (size : Nat) (s : State) {t : State}
    (ht : t = Eff.on (seq [onPldm fun p => { p with state := 3, size, image := [], result := 0 }, answer (natLe 1 0) false 0, pldmAsk]) s) :
    Answered t 0 (natLe 1 0) ∧ t.boot.pldm.state = 3 ∧ t.boot.pldm.size = size ∧ t.boot.pldm.image = [] := by
  have hAsk : Eff.Only [.msgs] pldmAsk := only_pldmAsk (List.Subset.refl _)
  rw [ht, Answered, on_seq_cons, on_seq_pair, hAsk.frame_resp (by decide), hAsk.frame_boot (by decide)]
  exact ⟨rfl, rfl, rfl, rfl⟩

theorem imageTaken_spec (f : PldmSt → List Byte) (s : State) {t : State}
    (ht : t = Eff.on (seq [onPldm fun p => { p with image := f p }, pldmAsk]) s) :
    t.boot.pldm.image = f s.boot.pldm ∧ t.boot.pldm.state = s.boot.pldm.state := by
  rw [ht, on_seq_pair, (only_pldmAsk (List.Subset.refl _)).frame_boot (by decide)]
  exact ⟨rfl, rfl⟩

/-! The directory, a stored image, and the verification (R575, R577, R591, R592). -/

theorem boot_dirWrite (f : BootDir → BootDir) (s : State) : (Eff.on (dirWrite f) s).boot =
    { s.boot with dir := { f s.boot.dir with gen := (s.boot.dir.gen + 1) % 2 ^ 32, ok := true } } := by
  rw [dirWrite, on_rd, on_seq_pair, on_fset, Upd.fld_boot]
  rfl

theorem pldm_fwStore (b : List Byte) (s : State) : (Eff.on (fwStore b) s).boot.pldm = s.boot.pldm := by
  rw [fwStore, on_rd, on_seq_pair, boot_dirWrite]
  dsimp only [on_upd, applyAll_cons, applyAll_nil, Upd.boot_boot]
  split <;> rfl

theorem pldmVerify_state (sig readBack : Bool) (s : State) : (Eff.on (pldmVerify sig readBack) s).boot.pldm.state = 4 := by
  rw [pldmVerify, on_rd]
  dsimp only
  rw [on_seq_cons, on_seq_pair, on_send, Upd.msgs_boot]
  cases s.fwCheck s.boot.pldm.image s.boot.pldm.size sig with
  | some r => exact congrArg (fun b => b.pldm.state) ((only_fwReject (List.Subset.refl _) 3 r).frame_boot (by decide) _)
  | none =>
    cases readBack
    · rfl
    · rw [on_when_true, on_seq_pair]
      split
      · rfl
      · rw [pldm_fwStore, on_fset, Upd.fld_boot]
        rfl

/-! Activation (R592). -/

theorem activateUpdate_spec (s : State) {t : State} (ht : t = Eff.on (seq [fwActivate, onPldm fun _ => PldmSt.idle, code 0]) s) :
    Answered t 0 [] ∧ t.boot.pldm = PldmSt.idle ∧ t.boot.dir.active = s.boot.dir.staged % 2 ∧ t.boot.dir.staged = 0xFF := by
  have hBoot : t.boot = { (Eff.on fwActivate s).boot with pldm := PldmSt.idle } := by rw [ht, on_seq_cons, on_seq_pair]; rfl
  rw [hBoot, fwActivate, on_rd, boot_dirWrite, ht, on_seq_cons, on_seq_pair]
  exact ⟨rfl, rfl, rfl, rfl⟩

end Sys2Proof.Machine

namespace Sys2Proof.Proofs
open Sys2Proof.Machine

/-- Settles O36: each request is read off the state of the update, of the sensors or of the addresses that it meets. -/
theorem sidebandUpdateCommandsAct : Obligations.SidebandUpdateCommandsAct := by
  refine ⟨fun s => ?queryDeviceIds, fun s => ?getFwParameters, fun transfer s => ?requestUpdate,
    fun cls ident last s => ?passComponentTable, fun cls ident size s => ?updateComponent, fun data sig back env s => ?firmwareData,
    fun selfContained s => ?activateFirmware, fun s => ?getStatus, fun s => ?cancelUpdateComponent, fun s => ?cancelUpdate,
    fun sensor s => ?sensorReading, fun sensor s => ?stateSensor, fun handle s => ?getPdr, fun command eid s => ?mctpControl,
    fun static dynamic s => ?setdasa, fun dynamic s => ?entdaa⟩
  case queryDeviceIds =>
    refine ⟨_, rfl, frame_execPldmQueryDeviceIds s rfl, fun h => on_unserved _ h, fun h => ?_⟩
    rw [on_served _ h]
    exact draw_answer (natLe 8) s
  case getFwParameters =>
    refine ⟨_, rfl, frame_execPldmGetFwParameters s rfl, fun h => on_unserved _ h, fun h => ?_⟩
    rw [on_served _ h]
    exact rfl
  case requestUpdate =>
    refine ⟨_, rfl, frame_execPldmRequestUpdate transfer s rfl, fun h => on_unserved _ h, fun h hOpen => ?_, fun h hNone hBusy => ?_,
      fun h hNone hFree => ?_⟩ <;> rw [on_served _ h]
    · rw [if_pos hOpen]
      exact ⟨rfl, rfl⟩
    · rw [if_neg (not_not.2 hNone), if_pos (by simpa using hBusy)]
      exact ⟨rfl, rfl⟩
    · rw [if_neg (not_not.2 hNone), if_neg (by simp [hFree])]
      exact onPldm_code ..
  case passComponentTable =>
    refine ⟨_, rfl, frame_execPldmPassComponentTable cls ident last s rfl, fun h => inUpdate_unserved h,
      fun h hState => inUpdate_refuses h (by simpa using hState), fun h hState => ?_, fun h hState hCls hIdent => ?_, fun h hState hOther => ?_⟩ <;>
      rw [inUpdate_takes h (by simp [hState])]
    · rw [(passComponent_spec last _ s rfl).1, hState]
    · rw [hCls, hIdent]
      exact (passComponent_spec last _ s rfl).2
    · rw [isRhozel_other hOther]
      exact (passComponent_spec last _ s rfl).2
  case updateComponent =>
    refine ⟨_, rfl, frame_execPldmUpdateComponent cls ident size s rfl, fun h => inUpdate_unserved h,
      fun h hState => inUpdate_refuses h (by simpa using hState), fun h hState hCls hIdent => ?_, fun h hState hOther => ?_⟩ <;>
      rw [inUpdate_takes h (by simp [hState])]
    · rw [hCls, hIdent]
      exact updateComponent_spec size.toNat s rfl
    · rw [isRhozel_other hOther, on_either_false]
      exact ⟨rfl, rfl⟩
  case firmwareData =>
    refine ⟨_, rfl, frame_execPldmFirmwareData data sig back env s rfl, fun h => on_unserved _ h, fun h hState hMore => ?_, fun h hState hAll => ?_,
      fun h hState hResult => ?_, fun h hState hStage => ?_, fun h hLoad hApply hVerify => ?_⟩ <;> rw [on_served _ h]
    · rw [if_pos hState, if_pos hMore, ← hState]
      exact imageTaken_spec _ s rfl
    · rw [if_pos hState, if_neg (by omega)]
      exact pldmVerify_state sig back s
    · rw [if_neg (by omega), if_pos ⟨hState, hResult⟩, on_seq_pair]
      exact ⟨rfl, rfl⟩
    · rw [if_neg (by omega), if_neg (by omega), if_pos hState, beq_eq_false_iff_ne.2 hStage]
      rfl
    · rw [if_neg hLoad, if_neg (by omega), if_neg hApply, on_nop]
  case activateFirmware =>
    refine ⟨_, rfl, frame_execPldmActivateFirmware selfContained s rfl, fun h => inUpdate_unserved h,
      fun h hState => inUpdate_refuses h (by simpa using hState), fun h hState hSelf => ?_, fun h hState hSelf hNone => ?_,
      fun h hState hSelf hStaged => ?_⟩ <;> rw [inUpdate_takes h (by simp [hState]), on_rd, hSelf]
    · exact ⟨rfl, rfl⟩
    · rw [if_neg (by decide), if_pos hNone]
      exact ⟨rfl, rfl⟩
    · rw [if_neg (by decide), if_neg hStaged]
      exact activateUpdate_spec s rfl
  case getStatus =>
    refine ⟨_, rfl, frame_execPldmGetStatus s rfl, fun h => on_unserved _ h, fun h => ?_⟩
    rw [on_served _ h]
    exact rfl
  case cancelUpdateComponent =>
    refine ⟨_, rfl, frame_execPldmCancelUpdateComponent s rfl, fun h => inUpdate_unserved h,
      fun h h3 h4 h5 => inUpdate_refuses h (by simp [h3, h4, h5]), fun h hState => ?_⟩
    rw [inUpdate_takes h (by simpa using hState)]
    obtain ⟨hAnswered, hUpdate⟩ := onPldm_code (fun p => { p with state := 2, size := 0, image := [], result := 0 }) 0 s
    exact ⟨hAnswered, by rw [hUpdate], by rw [hUpdate]⟩
  case cancelUpdate =>
    refine ⟨_, rfl, frame_execPldmCancelUpdate s rfl, fun h => inUpdate_unserved h,
      fun h h1 h2 h3 h4 h5 => inUpdate_refuses h (by simp [h1, h2, h3, h4, h5]), fun h hState => ?_⟩
    rw [inUpdate_takes h (by simpa using hState)]
    exact onPldm_code ..
  case sensorReading =>
    refine ⟨_, rfl, frame_execPldmGetSensorReading sensor s rfl, fun h => on_unserved _ h, fun h hNone => ?_, fun v h hSome => ?_⟩ <;>
      rw [on_served _ h]
    · rw [hNone]
      exact rfl
    · rw [hSome]
      exact rfl
  case stateSensor =>
    refine ⟨_, rfl, frame_execPldmGetStateSensorReadings sensor s rfl, fun h => on_unserved _ h, fun h hOther => ?_, fun h hStage => ?_⟩ <;>
      rw [on_served _ h]
    · rw [beq_eq_false_iff_ne.2 hOther]
      exact rfl
    · rw [hStage]
      exact rfl
  case getPdr =>
    refine ⟨_, rfl, frame_execPldmGetPdr handle s rfl, fun h => on_unserved _ h, fun id h hSome => ?_, fun h hPast => ?_⟩ <;>
      rw [on_served _ h]
    · rw [hSome]
      exact (draw_answer (fun v => natLe 2 id ++ natLe 8 v) s).1
    · rw [List.getElem?_eq_none (by simp; omega)]
      exact rfl
  case mctpControl =>
    refine ⟨_, rfl, frame_execMctpControl command eid s rfl, fun h => on_unserved _ (by simp [h]), fun h hCmd hBad => ?_,
      fun h hCmd hZero hAll => ?_, fun h hCmd => ?_, fun h hCmd => ?_, fun h hCmd => ?_, fun h hCmd => ?_, fun h hOther => ?_⟩ <;>
      rw [on_served (b := fun s => decide (s.stage ≥ 1)) _ (decide_eq_true h)]
    · rw [hCmd, if_pos hBad]
      exact ⟨rfl, rfl⟩
    · rw [hCmd, if_neg (by omega)]
      exact ⟨rfl, rfl⟩
    · rw [hCmd]
      exact rfl
    · rw [hCmd]
      exact (draw_answer (natLe 16) s).1
    · rw [hCmd]
      exact (draw_answer (natLe 4) s).1
    · rw [hCmd]
      exact rfl
    · split
      case h_6 => exact rfl
      all_goals omega
  case setdasa =>
    refine ⟨_, rfl, frame_execI3cSetdasa static dynamic s rfl, fun h => on_unserved _ h, fun h => ?_⟩
    rw [on_served _ h]
    rfl
  case entdaa =>
    refine ⟨_, rfl, frame_execI3cEntdaa dynamic s rfl, fun h => on_unserved _ h, fun h => ?_⟩
    rw [on_served _ h]
    rfl

end Sys2Proof.Proofs
end

section
/-! FATAL events (R498, R610): the event, and the halt of every flask that runs. -/
namespace Sys2Proof.Machine

/-- A halt in order: the flask's cores pass to HALTED, the slot that waits for it ends, and the flask keeps its Mould and its cores (R238). -/
theorem on_haltNow (f cause point : Nat) (quiesce fault : Bool) (s : State) : ∃ (slotEnd rest : Eff) (g : FlaskSt → FlaskSt),
    slotEnd.Only mbParts ∧ rest.Only [.dbg, .fld .DBG_HOLD, .fld .SPR_STAT] ∧ (∀ x, (g x).active = x.active ∧ (g x).cores = x.cores) ∧
    Eff.on (haltNow f cause point quiesce fault) s = Eff.on rest (Eff.on (onFlask f g) (Eff.on slotEnd (Eff.on (setFlaskState f 4) s))) := by
  rw [haltNow, on_rd, on_seq_cons, on_seq_cons, on_seq_cons]
  refine ⟨_, _, _, ?_, only_seq₂ (only_when fun _ => only_holdEnd (by decide) f) (only_sprSync (by decide)), ?_, rfl⟩
  case refine_2 => exact fun _ => ⟨rfl, rfl⟩
  split
  · split
    · refine only_when fun _ => only_ite (only_when fun _ => only_mbFail_parts _ _) (only_mbDoneWith (List.Subset.refl _) _ _)
    · exact only_nop _
  · exact only_nop _

theorem mouldPhys_onFlask {g : FlaskSt → FlaskSt} (hg : ∀ x, (g x).active = x.active ∧ (g x).cores = x.cores) (f j : Nat) (s : State) :
    (Eff.on (onFlask f g) s).mouldPhys j = s.mouldPhys j := by
  have hFlask : ((Eff.on (onFlask f g) s).flask j).active = (s.flask j).active ∧
      ((Eff.on (onFlask f g) s).flask j).cores = (s.flask j).cores := by
    by_cases hj : f = j
    · rw [hj, onFlask_same]
      exact hg _
    · rw [onFlask_ne _ _ hj]
      exact ⟨rfl, rfl⟩
  exact State.mouldPhys_of_mould hFlask.1 hFlask.2 fun r =>
    (only_onFlask (ps := [.flasks]) (by decide) f g).fget (by decide) (by decide) (by decide) s r

/-- The cores that a flask's Mould runs on stand where neither the flasks nor the row maps are written. -/
theorem Eff.Only.mouldPhys {ps : List Part} {e : Eff} (h : e.Only ps)
    (hp : Part.flds ∉ ps ∧ Part.flasks ∉ ps ∧ Part.fld .MOD_ROW_MAP_r ∉ ps) (s : State) (f : Nat) :
    (Eff.on e s).mouldPhys f = s.mouldPhys f := by
  obtain ⟨hFlds, hFlasks, hRow⟩ := hp
  exact State.mouldPhys_congr (h.flask hFlasks s f) fun r => h.fget (by decide) hFlds hRow s r

theorem mouldPhys_haltNow (f cause point : Nat) (quiesce fault : Bool) (s : State) (j : Nat) :
    (Eff.on (haltNow f cause point quiesce fault) s).mouldPhys j = s.mouldPhys j := by
  obtain ⟨slotEnd, rest, g, hSlot, hRest, hg, hOn⟩ := on_haltNow f cause point quiesce fault s
  have hState : Eff.Only [.fld .CORE_STAT] (setFlaskState f 4) := only_setFlaskState (List.Subset.refl _) f 4
  rw [hOn, hRest.mouldPhys (by decide), mouldPhys_onFlask hg, hSlot.mouldPhys (by decide), hState.mouldPhys (by decide)]

/-- A core in HALTED stays there as a flask halts (R238). -/
theorem coreState_haltNow_halted (f cause point : Nat) (quiesce fault : Bool) {p : Nat} {s : State} (h : s.coreState p = 4) :
    (Eff.on (haltNow f cause point quiesce fault) s).coreState p = 4 := by
  by_cases hOwn : p ∈ s.mouldPhys f
  · obtain ⟨-, -, -, -, -, -, hCores⟩ := haltNow_spec f cause point quiesce fault s rfl
    exact hCores p hOwn
  · obtain ⟨slotEnd, rest, g, hSlot, hRest, -, hOn⟩ := on_haltNow f cause point quiesce fault s
    rw [hOn, State.coreState, hRest.fget (by decide) (by decide) (by decide),
      (only_onFlask (ps := [.flasks]) (by decide) f g).fget (by decide) (by decide) (by decide),
      hSlot.fget (by decide) (by decide) (by decide)]
    refine Eq.trans (applyAll_frame (fun s => s.coreState p) (fun u hu s => ?_) s) h
    obtain ⟨q, hq, rfl⟩ := List.mem_map.1 hu
    exact Upd.fget_fld_at (by decide) (fun e : q = p => hOwn (e ▸ hq)) 4 s

/-- A core of a flask that runs is in HALTED once every running flask has halted (R610). -/
theorem coreState_haltModule (cause : Nat) {f p : Nat} {s : State} (hRuns : f ∈ s.running) (hCore : p ∈ s.mouldPhys f) :
    (Eff.on (haltModule cause) s).coreState p = 4 := by
  rw [haltModule, on_rd]
  refine on_each_reaches (P := fun s => p ∈ s.mouldPhys f → s.coreState p = 4) hRuns (fun u hu => ?_) (fun g u hu hp => ?_) s ?_
  · obtain ⟨-, -, -, -, -, -, hCores⟩ := haltNow_spec f cause 0xFFFF false true u rfl
    exact hCores p (mouldPhys_haltNow f cause 0xFFFF false true u f ▸ hu)
  · exact coreState_haltNow_halted g cause 0xFFFF false true (hu (mouldPhys_haltNow g cause 0xFFFF false true u f ▸ hp))
  · exact (on_each_keeps (fun s => s.mouldPhys f) (fun g _ u => mouldPhys_haltNow g cause 0xFFFF false true u f) s).symm ▸ hCore

/-- The flasks that run are those that ran where neither a flask, nor a core's state, nor the row maps are written. -/
theorem Eff.Only.running {ps : List Part} {e : Eff} (h : e.Only ps)
    (hp : Part.flds ∉ ps ∧ Part.flasks ∉ ps ∧ Part.fld .MOD_ROW_MAP_r ∉ ps) (hState : Part.fld .CORE_STAT ∉ ps) (s : State) :
    (Eff.on e s).running = s.running := by
  have ⟨hFlds, hFlasks, _⟩ := hp
  have hCore (p : Nat) : (Eff.on e s).coreState p = s.coreState p := h.fget (by decide) hFlds hState s p
  simp only [State.running, State.liveFlasks, State.flaskState, h.flask hFlasks, h.mouldPhys hp, hCore]

/-- A FATAL event is raised, and halts every flask that runs (R610). -/
theorem fatal_spec (code : Nat) (w : Who) (detail : List (Nat × Nat)) (s : State) {t : State} (ht : t = Eff.on (fatal code w detail) s) :
    Raised s t code 3 ∧ ∀ f p, f ∈ s.running → p ∈ s.mouldPhys f → t.coreState p = 4 := by
  have hRaise : Eff.Only [.ev] (raise code 3 w detail) := only_raise (List.mem_singleton_self _) _ _ _ _
  have hBeacon (b : Bool) : Eff.Only [.faults, .fld .MOD_FAULT_STAT, .msgs] (when b (fenceBeacon 0x11 w.core w.cluster code 0xFF 0)) :=
    only_when fun _ => only_fenceBeacon (List.Subset.refl _) _ _ _ _ _ _
  have hHalt : Eff.Only [.dbg, .flasks, .fld .CORE_STAT, .fld .DBG_HOLD, .fld .MOD_MB_SUMMARY, .fld .SPR_STAT, .hostOut, .hports, .slots]
      (haltModule 4) := only_haltModule (List.Subset.refl _) 4
  rw [fatal, on_rd, on_seq_cons, on_seq_pair] at ht
  subst ht
  refine ⟨?_, fun f p hRuns hCore => coreState_haltModule (f := f) 4 ?_ ?_⟩
  · rw [Raised, hHalt.frame_ev (by decide), (hBeacon _).frame_ev (by decide)]
    exact raised_raise code 3 w detail rfl
  · rwa [(hBeacon _).running (by decide) (by decide), hRaise.running (by decide) (by decide)]
  · rwa [(hBeacon _).mouldPhys (by decide), hRaise.mouldPhys (by decide)]

end Sys2Proof.Machine

namespace Sys2Proof.Proofs
open Sys2Proof.Machine

/-- Settles O60: the command is a FATAL event, which halts each flask it finds running; a core in HALTED stays there as the others halt. -/
theorem auxiliaryRailFaultsAreFatal : Obligations.AuxiliaryRailFaultsAreFatal := fun s =>
  have ⟨hRaised, hHalted⟩ := fatal_spec 0x0803 nobody [(8, 0)] s rfl
  ⟨_, rfl, frame_execPwrAuxFault s rfl, hRaised, hHalted⟩

end Sys2Proof.Proofs
end

section
/-! Input samples and input faults (R496, R697). -/
namespace Sys2Proof.Machine

/-- The state with an input reading taken at a time: its registers, and since when the input has been below 40 V. -/
def State.inputRead (s : State) (mv ta watts tc : Nat) : State :=
  Eff.on (seq [fset F.PWR_INPUT_VIN 0 (mv / 10), fset F.PWR_INPUT_IIN 0 ta, fset F.PWR_INPUT_PIN 0 watts,
    upd [.power { s.power with lowSince := if decide (mv < 40000) then some (s.power.lowSince.getD (s.movedOn tc).tc) else none }]]) (s.movedOn tc)

theorem inputRead_spec (s : State) (mv ta watts tc : Nat) {u : State} (hu : u = s.inputRead mv ta watts tc) : u.tc = s.clockAt tc ∧
    u.fget F.PWR_INPUT_VIN 0 = mv / 10 % 2 ^ F.PWR_INPUT_VIN.len ∧ u.fget F.PWR_INPUT_IIN 0 = ta % 2 ^ F.PWR_INPUT_IIN.len ∧
    u.fget F.PWR_INPUT_PIN 0 = watts % 2 ^ F.PWR_INPUT_PIN.len ∧ u.ev = s.ev ∧
    u.power = { s.power with lowSince := if mv < 40000 then some (s.power.lowSince.getD (s.clockAt tc)) else none } := by
  rw [State.inputRead, on_seq_cons, on_seq_cons, on_seq_pair, on_fset, on_fset, on_fset, on_upd, applyAll_cons, applyAll_nil,
    s.movedOn_tc] at hu
  simp only [decide_eq_true_eq] at hu
  subst hu
  refine ⟨?_, ?_, ?_, ?_, ?_, Upd.power_power ..⟩
  · rw [State.tc, Upd.power_fget, Upd.fget_fld_other (by decide), Upd.fget_fld_other (by decide), Upd.fget_fld_other (by decide)]
    exact s.movedOn_tc tc
  · rw [Upd.power_fget, Upd.fget_fld_other (by decide), Upd.fget_fld_other (by decide), Upd.fget_fld_same (by decide)]
  · rw [Upd.power_fget, Upd.fget_fld_other (by decide), Upd.fget_fld_same (by decide)]
  · rw [Upd.power_fget, Upd.fget_fld_same (by decide)]
  · rw [Upd.power_ev, Upd.fld_ev, Upd.fld_ev, Upd.fld_ev, State.movedOn, on_tcTo, Upd.fld_ev]

/-- An input sample within the ratings is read and then judged: outside 36 to 62 V it is an input fault, and from 40 to 62 V nothing follows
(R496). -/
theorem exec_inputSample_judged {mv : Int} (ta watts tc : Nat) (s : State) (hMin : -1000 ≤ mv) (hMax : mv ≤ 65000) :
    ∃ e : Eff, exec (.inputSample mv ta watts tc) s = .next (Eff.on e (s.inputRead mv.toNat ta watts tc)) ∧
      (e = inputFault ∨ e = when (decide (mv.toNat < 40000)) (raise 0x0801 0 nobody [(8, mv.toNat / 10)])) ∧
      (mv < 36000 ∨ 62000 < mv → e = inputFault) ∧ (40000 ≤ mv → mv ≤ 62000 → e = nop) := by
  have hPower : (s.movedOn tc).power = s.power := by rw [State.movedOn, on_tcTo, Upd.fld_power]
  rw [exec_inputSample, execInputSample, if_neg (by omega), run_eq, on_timed, hPower, State.inputRead]
  simp only [on_seq_cons, on_seq_nil]
  refine ⟨_, rfl, ?_, fun hOut => if_pos (by omega), fun hLow hHigh => ?_⟩
  · split
    · exact .inl rfl
    · exact .inr rfl
  · have hNotLow : decide (mv.toNat < 40000) = false := decide_eq_false (by omega)
    rw [hNotLow, if_neg (by simp; omega)]
    rfl

/-- What a FATAL event writes (R610). -/
def fatalParts : List Part := [.dbg, .ev, .faults, .flasks, .fld .CORE_STAT, .fld .DBG_HOLD, .fld .MOD_FAULT_STAT, .fld .MOD_MB_SUMMARY,
  .fld .SPR_STAT, .hostOut, .hports, .msgs, .slots]

/-- The first input fault takes the compute rails off, with THERMTRIP_N low and a FATAL event (R496, R697). -/
theorem inputFault_first {s : State} (h : s.power.fault = false) {t : State} (ht : t = Eff.on inputFault s) :
    t.power = { s.power with fault := true } ∧ t.svc.thermTrip = true ∧ Raised s t 0x0802 3 ∧
      ∀ c, c < 20 → t.fget F.PWR_CLUSTER_c_SETPOINT c = 0 := by
  have hFatal : Eff.Only fatalParts (fatal 0x0802 nobody [(8, s.fget F.PWR_INPUT_VIN 0)]) := only_fatal (List.Subset.refl _) _ _ _
  have hSetpoints : Eff.Only [.fld .PWR_CLUSTER_c] (each (List.range 20) fun c => fset F.PWR_CLUSTER_c_SETPOINT c 0) :=
    only_each fun _ _ => only_fset (by decide) _ _
  have hZero (c : Nat) (s : State) : (Eff.on (fset F.PWR_CLUSTER_c_SETPOINT c 0) s).fget F.PWR_CLUSTER_c_SETPOINT c = 0 :=
    Upd.fget_fld_same (by decide) c 0 s
  have hTiles : Eff.Only [.fld .PWR_TILE_t]
      (each (List.range 240) fun t => when (s.fget F.PWR_TILE_t_STATE t == 1) (fset F.PWR_TILE_t_STATE t 0)) :=
    only_each fun _ _ => only_when fun _ => only_fset (by decide) _ _
  have hPin : Eff.on thermPin (Eff.on (upd [.power { s.power with fault := true }]) s) =
      (Upd.svc { s.svc with thermTrip := true }).apply ((Upd.power { s.power with fault := true }).apply s) := by
    rw [thermPin, on_rd, on_upd, on_upd, applyAll_cons, applyAll_nil, applyAll_cons, applyAll_nil, Upd.power_svc]
  obtain ⟨⟨r, hCode, hSev, hEv⟩, -⟩ := fatal_spec 0x0802 nobody [(8, s.fget F.PWR_INPUT_VIN 0)]
    ((Upd.svc { s.svc with thermTrip := true }).apply ((Upd.power { s.power with fault := true }).apply s)) rfl
  rw [Upd.svc_ev, Upd.power_ev] at hEv
  rw [inputFault, on_rd, h, Bool.not_false, on_when_true, on_seq_cons, on_seq_cons, on_seq_cons, on_seq_pair, hPin] at ht
  subst ht
  refine ⟨?_, ?_, ⟨r, hCode, hSev, ?_⟩, fun c hc => ?_⟩
  · rw [hTiles.frame_power (by decide), hSetpoints.frame_power (by decide), hFatal.frame_power (by decide), Upd.svc_power, Upd.power_power]
  · rw [hTiles.frame_svc (by decide), hSetpoints.frame_svc (by decide), hFatal.frame_svc (by decide), Upd.svc_svc]
  · rw [hTiles.frame_ev (by decide), hSetpoints.frame_ev (by decide), hEv]
  · rw [hTiles.fget (by decide) (by decide) (by decide)]
    refine on_each_reaches (P := fun s => s.fget F.PWR_CLUSTER_c_SETPOINT c = 0) (List.mem_range.2 hc) (hZero c) (fun d s hs => ?_) _
    by_cases hd : d = c
    · exact hd ▸ hZero d s
    · exact (Upd.fget_fld_at (by decide) hd 0 s).trans hs

/-- An input fault leaves the time since which the input has been low. -/
theorem lowSince_inputFault (s : State) : (Eff.on inputFault s).power.lowSince = s.power.lowSince := by
  cases h : s.power.fault with
  | true => rw [inputFault, on_rd, h, Bool.not_true, on_when_false]
  | false => rw [(inputFault_first h rfl).1]

/-- What the judgement of an input reading leaves of the reading. -/
theorem inputJudged_keeps {e : Eff} {b : Bool} {d : List (Nat × Nat)} (h : e = inputFault ∨ e = when b (raise 0x0801 0 nobody d)) (s : State) :
    (Eff.on e s).tc = s.tc ∧ (Eff.on e s).power.lowSince = s.power.lowSince ∧
      ∀ f, f.inReg = true → f.reg = .PWR_INPUT → (Eff.on e s).fget f 0 = s.fget f 0 := by
  rcases h with rfl | rfl
  · exact ⟨(only_inputFault (sub_clockFree rfl)).tc s, lowSince_inputFault s,
      fun f hf hr => (only_inputFault (List.Subset.refl _)).fget hf (by decide) (by rw [hr]; decide) s 0⟩
  · have hRaise : Eff.Only [.ev] (when b (raise 0x0801 0 nobody d)) := only_when fun _ => only_raise (List.mem_singleton_self _) _ _ _ _
    exact ⟨hRaise.fget (by decide) (by decide) (by decide) s 0, by rw [hRaise.frame_power (by decide)],
      fun f hf _ => hRaise.fget hf (by decide) (by simp) s 0⟩

theorem inputSample_spec {mv : Int} (ta watts tc : Nat) (s : State) (hMin : -1000 ≤ mv) (hMax : mv ≤ 65000) :
    ∃ t, exec (.inputSample mv ta watts tc) s = .next t ∧ t.tc = s.clockAt tc ∧
      t.fget F.PWR_INPUT_VIN 0 = mv.toNat / 10 % 2 ^ F.PWR_INPUT_VIN.len ∧ t.fget F.PWR_INPUT_IIN 0 = ta % 2 ^ F.PWR_INPUT_IIN.len ∧
      t.fget F.PWR_INPUT_PIN 0 = watts % 2 ^ F.PWR_INPUT_PIN.len ∧
      t.power.lowSince = (if mv.toNat < 40000 then some (s.power.lowSince.getD t.tc) else none) ∧
      (s.power.fault = false → mv < 36000 ∨ 62000 < mv → t.power.fault = true ∧ t.svc.thermTrip = true ∧ Raised s t 0x0802 3 ∧
        ∀ c, c < 20 → t.fget F.PWR_CLUSTER_c_SETPOINT c = 0) ∧
      (40000 ≤ mv → mv ≤ 62000 → t.power.fault = s.power.fault ∧ t.ev = s.ev) := by
  obtain ⟨e, hExec, hKind, hOut, hIn⟩ := exec_inputSample_judged ta watts tc s hMin hMax
  obtain ⟨hTc, hVin, hIin, hPin, hEv, hPower⟩ := inputRead_spec s mv.toNat ta watts tc rfl
  obtain ⟨hTcKept, hLowKept, hKept⟩ := inputJudged_keeps hKind (s.inputRead mv.toNat ta watts tc)
  refine ⟨_, hExec, hTcKept.trans hTc, (hKept _ (by decide) rfl).trans hVin, (hKept _ (by decide) rfl).trans hIin,
    (hKept _ (by decide) rfl).trans hPin, ?_, fun hFault h => ?_, fun hLow hHigh => ?_⟩
  · rw [hLowKept, hTcKept, hTc, hPower]
  · have hFirst : (s.inputRead mv.toNat ta watts tc).power.fault = false := by rw [hPower]; exact hFault
    obtain ⟨hFaulty, hTrip, hRaised, hOff⟩ := inputFault_first hFirst rfl
    rw [Raised, hEv] at hRaised
    rw [hOut h]
    exact ⟨by rw [hFaulty], hTrip, hRaised, hOff⟩
  · rw [hIn hLow hHigh, on_nop, hPower]
    exact ⟨rfl, hEv⟩

end Sys2Proof.Machine
end

section
/-! Power tiles and their spares (R497, R499). -/
namespace Sys2Proof.Machine

/-- A spare that starts its ramp is an idle one: a tile that is not idle keeps its register (R499). -/
theorem spareRamp_keeps {t : Nat} {s : State} (hBusy : s.fget F.PWR_TILE_t_STATE t ≠ 2) (failed c reason : Nat) (slot : Option Nat) {g : Fld}
    (hg : g.inReg = true) (hReg : g.reg = .PWR_TILE_t) : (Eff.on (spareRamp failed c reason slot) s).fget g t = s.fget g t := by
  rw [spareRamp.eq_def, on_rd]
  cases h : s.freeTile c with
  | none =>
    have hRest : Eff.Only (.ev :: mbParts) (seq [raiseExhausted 6 failed, match slot with | some k => mbFail k 0x0304 | none => nop]) := by
      refine only_seq₂ (only_raiseExhausted (by decide) _ _) ?_
      cases slot
      · exact only_nop _
      · exact only_mbFail (by decide) _ _
    exact hRest.fget hg (by decide) (by rw [hReg]; decide) s t
  | some u =>
    have hIdle : s.fget F.PWR_TILE_t_STATE u = 2 := by
      have hFound := List.find?_some h
      simp only [Bool.and_eq_true, beq_iff_eq] at hFound
      exact hFound.2
    have hOther : u ≠ t := fun e => hBusy (e ▸ hIdle)
    have hKey {f : Fld} (hf : f.inReg = true) : f.key u ≠ g.key t := fun k => hOther (Fld.key_inj hf hg k).2.2.2
    dsimp only
    rw [on_seq_cons, on_seq_pair, on_upd, applyAll_cons, applyAll_nil, Upd.power_fget, on_fset, on_fset, Upd.fget_fld_ne _ _ (hKey (by decide)),
      Upd.fget_fld_ne _ _ (hKey (by decide))]

/-- The flags of a tile that has failed. -/
def tileFlags : List Fld := [F.PWR_TILE_t_OC, F.PWR_TILE_t_OT, F.PWR_TILE_t_WEAR]

theorem tileFlags_reg : ∀ g ∈ tileFlags, g.inReg = true ∧ g.reg = .PWR_TILE_t := by decide

/-- The flags stand apart from the other fields of a tile's register. -/
theorem tileFlags_apart : ∀ g ∈ tileFlags, ∀ f ∈ [F.PWR_TILE_t_STATE, F.PWR_TILE_t_SERVES, F.PWR_TILE_t_CURRENT],
    (f.inReg && g.inReg && (f.reg != g.reg || f.lo != g.lo || f.len != g.len)) = true := by decide

/-- A tile that leaves service is out and serves nothing, with its flags as they were (R499). -/
theorem tileOut_spec (t : Nat) (s : State) {u : State} (hu : u = Eff.on (tileOut t) s) : u.fget F.PWR_TILE_t_STATE t = 3 ∧
    u.fget F.PWR_TILE_t_SERVES t = 0xFF ∧ ∀ g ∈ tileFlags, u.fget g t = s.fget g t := by
  have hCluster (b : Bool) (c : Nat) {g : Fld} (hg : g.inReg = true) (hReg : g.reg = .PWR_TILE_t) :
      (when b (seq [fset F.PWR_CLUSTER_c_TILES_IN c (s.fget F.PWR_CLUSTER_c_TILES_IN c - 1), rd fun s =>
        when (decide (s.fget F.PWR_CLUSTER_c_TILES_IN c < 10)) (each (List.range 8) fun k => fenceCore (physAt c k) 6 [])])).Keeps
        fun s => s.fget g t := by
    refine keeps_when (keeps_seq₂ (Eff.Only.keeps_fget (only_fset (List.mem_singleton_self _) _ _) ⟨hg, by decide, by rw [hReg]; decide⟩ t)
      (keeps_rd fun _ => keeps_when (keeps_each fun k =>
        (only_fenceCore (List.Subset.refl _) (physAt c k) 6 []).keeps_fget ⟨hg, by decide, by rw [hReg]; decide⟩ t)))
  rw [tileOut, on_rd] at hu
  dsimp only at hu
  rw [on_seq_cons, on_seq_cons, on_seq_pair, on_fset, on_fset, on_fset] at hu
  subst hu
  refine ⟨(hCluster _ _ (by decide) rfl _).trans ?_, (hCluster _ _ (by decide) rfl _).trans ?_, fun g hg => ?_⟩
  · dsimp only
    rw [Upd.fget_fld_other (by decide), Upd.fget_fld_other (by decide), Upd.fget_fld_same (by decide)]
    rfl
  · dsimp only
    rw [Upd.fget_fld_other (by decide), Upd.fget_fld_same (by decide)]
    rfl
  · obtain ⟨hIn, hReg⟩ := tileFlags_reg g hg
    refine (hCluster _ _ hIn hReg _).trans ?_
    dsimp only
    rw [Upd.fget_fld_other (tileFlags_apart g hg _ (by simp)), Upd.fget_fld_other (tileFlags_apart g hg _ (by simp)),
      Upd.fget_fld_other (tileFlags_apart g hg _ (by simp))]

/-- A tile fails: its flag, its way out of service, the event, and a spare for it (R499). -/
def tileFails (flag : Eff) (t c st n : Nat) : Eff :=
  seq [flag, tileOut t, raise 0x0804 0 nobody [(1, t), (1, n)], (if st = 1 ∧ c < 20 then spareRamp t c 6 none else nop),
    when (st == 2) (slagRecord 6 3 6 t 0xFFFF)]

theorem tileFails_spec (flag : Eff) (t c st n : Nat) (s : State) {u : State} (hu : u = Eff.on (tileFails flag t c st n) s) :
    u.fget F.PWR_TILE_t_STATE t = 3 ∧ u.fget F.PWR_TILE_t_SERVES t = 0xFF ∧ ∀ g ∈ tileFlags, u.fget g t = (Eff.on flag s).fget g t := by
  obtain ⟨hOut, hServes, hFlags⟩ := tileOut_spec t (Eff.on flag s) rfl
  have hSlag : Eff.Only [.slag] (when (st == 2) (slagRecord 6 3 6 t 0xFFFF)) := only_when fun _ => only_slagRecord (List.Subset.refl _) _ _ _ _ _
  rw [tileFails, on_seq_cons, on_seq_cons, on_seq_cons, on_seq_pair, on_raise] at hu
  have hKept {g : Fld} (hg : g.inReg = true) (hReg : g.reg = .PWR_TILE_t) :
      u.fget g t = (Eff.on (tileOut t) (Eff.on flag s)).fget g t := by
    rw [hu, hSlag.fget hg (by decide) (by simp)]
    split
    · rw [spareRamp_keeps (by rw [Upd.ev_fget, hOut]; decide) _ _ _ _ hg hReg, Upd.ev_fget]
    · rw [on_nop, Upd.ev_fget]
  refine ⟨(hKept (by decide) rfl).trans hOut, (hKept (by decide) rfl).trans hServes, fun g hg => ?_⟩
  obtain ⟨hIn, hReg⟩ := tileFlags_reg g hg
  exact (hKept hIn hReg).trans (hFlags g hg)

/-- A tile that is off or out of service does not fail again. -/
theorem tileFault_idle {tile : Fin 256} {s : State} (h : s.fget F.PWR_TILE_t_STATE tile.val = 0 ∨ s.fget F.PWR_TILE_t_STATE tile.val = 3)
    (cause : TileCause) {t : State} (ht : exec (.tileFault tile cause) s = .next t) : t = s := by
  have hIdle : (s.fget F.PWR_TILE_t_STATE tile.val != 3 && s.fget F.PWR_TILE_t_STATE tile.val != 0) = false := by
    rcases h with h | h <;> rw [h] <;> rfl
  rw [exec_tileFault, execTileFault.eq_def, run_eq, on_rd] at ht
  dsimp only at ht
  rw [hIdle, on_when_false] at ht
  exact (Host.Outcome.next.inj ht).symm

/-- A tile in service or idle that fails has the flag of its cause. -/
theorem tileFault_fails {tile : Fin 256} {s : State} (hOn : s.fget F.PWR_TILE_t_STATE tile.val ≠ 0) (hIn : s.fget F.PWR_TILE_t_STATE tile.val ≠ 3)
    (cause : TileCause) {t : State} (ht : exec (.tileFault tile cause) s = .next t) :
    t.fget F.PWR_TILE_t_STATE tile.val = 3 ∧ t.fget F.PWR_TILE_t_SERVES tile.val = 0xFF ∧
      (cause = .overcurrent → t.fget F.PWR_TILE_t_OC tile.val = 1) ∧ (cause = .overtemperature → t.fget F.PWR_TILE_t_OT tile.val = 1) ∧
      (cause = .wear → t.fget F.PWR_TILE_t_WEAR tile.val = 1) := by
  have hFails : (s.fget F.PWR_TILE_t_STATE tile.val != 3 && s.fget F.PWR_TILE_t_STATE tile.val != 0) = true := by simp [hOn, hIn]
  rw [exec_tileFault, execTileFault.eq_def, run_eq, on_rd] at ht
  dsimp only at ht
  rw [hFails, on_when_true] at ht
  have hSet {g : Fld} (hg : g.settable = true ∧ g.len = 1) : (Eff.on (fset g tile.val 1) s).fget g tile.val = 1 := by
    rw [on_fset, Upd.fget_fld_same hg.1, hg.2]
    rfl
  obtain ⟨hOut, hServes, hFlags⟩ := tileFails_spec _ _ _ _ _ s (Host.Outcome.next.inj ht).symm
  refine ⟨hOut, hServes, fun h => ?_, fun h => ?_, fun h => ?_⟩ <;> subst h <;>
    exact (hFlags _ (by decide)).trans (hSet (by decide))

/-- What follows a spare's own fields and its cluster's once it has come up. -/
def spareUpParts : List Part := [.slag, .power, .ev, .faults, .fld .MOD_FAULT_STAT, .msgs] ++ mbParts

/-- A spare that has come up serves its cluster, which has one tile more (R499). -/
theorem tileSpared_up {tile : Fin 256} {s : State} {e : Nat × Nat × Nat × Option Nat}
    (hFor : s.power.replacing.find? (fun e => e.1 == tile.val) = some e) (hRamps : s.fget F.PWR_TILE_t_STATE tile.val = 4) {t : State}
    (ht : exec (.tileSpared tile true) s = .next t) : t.fget F.PWR_TILE_t_STATE tile.val = 1 ∧
      t.fget F.PWR_CLUSTER_c_TILES_IN (s.fget F.PWR_TILE_t_SERVES tile.val) =
        (s.fget F.PWR_CLUSTER_c_TILES_IN (s.fget F.PWR_TILE_t_SERVES tile.val) + 1) % 2 ^ F.PWR_CLUSTER_c_TILES_IN.len := by
  obtain ⟨i, failed, reason, slot⟩ := e
  rw [exec_tileSpared, execTileSpared, run_eq, on_rd] at ht
  dsimp only at ht
  rw [hFor] at ht
  dsimp only at ht
  rw [hRamps, beq_self_eq_true, on_when_true, on_either_true, on_seq_cons, on_seq_cons, on_fset, on_fadd] at ht
  rw [← Host.Outcome.next.inj ht, Eff.Only.fget (ps := spareUpParts) ?rest (by decide) (by decide) (by decide),
    Eff.Only.fget (ps := spareUpParts) ?rest (by decide) (by decide) (by decide), Upd.fget_fld_other (by decide), Upd.fget_fld_same (by decide),
    Upd.fget_fld_same (by decide), Upd.fget_fld_other (by decide)]
  · exact ⟨rfl, rfl⟩
  case rest =>
    refine only_seq₅ (only_slagRecord (by decide) _ _ _ _ _) (only_upd (by simp [Upd.part, spareUpParts])) (only_raise (by decide) _ _ _ _)
      (only_each fun _ _ => only_fenceBeacon (by decide) _ _ _ _ _ _) (only_rd fun _ => ?_)
    split
    · exact only_mbDone (by decide) _ _
    · exact only_nop _

/-- A spare that fails on its ramp is out of service, and the next spare is another tile (R499). -/
theorem tileSpared_fails {tile : Fin 256} {s : State} {e : Nat × Nat × Nat × Option Nat}
    (hFor : s.power.replacing.find? (fun e => e.1 == tile.val) = some e) (hRamps : s.fget F.PWR_TILE_t_STATE tile.val = 4) {t : State}
    (ht : exec (.tileSpared tile false) s = .next t) :
    t.fget F.PWR_TILE_t_STATE tile.val = 3 ∧ t.fget F.PWR_TILE_t_SERVES tile.val = 0xFF := by
  obtain ⟨i, failed, reason, slot⟩ := e
  rw [exec_tileSpared, execTileSpared, run_eq, on_rd] at ht
  dsimp only at ht
  rw [hFor] at ht
  dsimp only at ht
  rw [hRamps, beq_self_eq_true, on_when_true, on_either_false, on_seq_cons, on_seq_cons, on_seq_cons, on_seq_pair] at ht
  have hRecord (p : PowerSt) (u : State) {g : Fld} (hg : g.inReg = true) (hReg : g.reg = .PWR_TILE_t) :
      (Eff.on (upd [.power p]) (Eff.on (slagRecord 6 3 reason tile.val 0xFFFF) u)).fget g tile.val = u.fget g tile.val := by
    rw [on_upd, applyAll_cons, applyAll_nil, Upd.power_fget,
      (only_slagRecord (List.Subset.refl _) _ _ _ _ _).fget hg (by decide) (by simp)]
  have hState : ((Upd.fld F.PWR_TILE_t_SERVES tile.val 0xFF).apply ((Upd.fld F.PWR_TILE_t_STATE tile.val 3).apply s)).fget F.PWR_TILE_t_STATE
      tile.val = 3 := by
    rw [Upd.fget_fld_other (by decide), Upd.fget_fld_same (by decide)]
    rfl
  rw [← Host.Outcome.next.inj ht, spareRamp_keeps ?busy _ _ _ _ (by decide) rfl, spareRamp_keeps ?busy _ _ _ _ (by decide) rfl,
    hRecord _ _ (by decide) rfl, hRecord _ _ (by decide) rfl]
  · exact ⟨hState, Upd.fget_fld_same (by decide) _ _ _⟩
  case busy =>
    rw [hRecord _ _ (by decide) rfl]
    exact ne_of_eq_of_ne hState (by decide)

/-- A tile that is not a spare on its ramp neither comes up nor fails. -/
theorem tileSpared_idle {tile : Fin 256} {s : State}
    (h : s.power.replacing.find? (fun e => e.1 == tile.val) = none ∨ s.fget F.PWR_TILE_t_STATE tile.val ≠ 4) (ok : Bool) {t : State}
    (ht : exec (.tileSpared tile ok) s = .next t) : t = s := by
  rw [exec_tileSpared, execTileSpared, run_eq, on_rd] at ht
  dsimp only at ht
  cases hFor : s.power.replacing.find? (fun e => e.1 == tile.val) with
  | none =>
    rw [hFor] at ht
    exact (Host.Outcome.next.inj ht).symm
  | some e =>
    have hNot : (s.fget F.PWR_TILE_t_STATE tile.val == 4) = false := beq_false_of_ne (h.resolve_left (by rw [hFor]; nofun))
    obtain ⟨i, failed, reason, slot⟩ := e
    rw [hFor, hNot] at ht
    exact (Host.Outcome.next.inj ht).symm

end Sys2Proof.Machine
end

section
/-! The minimum-voltage loop, riser notices and slew buckets (R502, R503, R507, R510). -/
namespace Sys2Proof.Machine

/-! The minimum-voltage loop (R502, R503). -/

/-- What counts breaches. -/
def breachFields : List Fld := [F.PWR_VMIN_STAT_BREACH_SEEN, F.PWR_VMIN_STAT_BREACHES]

/-- A write of another field leaves the count of breaches alone. -/
theorem keeps_fset_breach {f g : Fld} (hg : g ∈ breachFields) (hf : f.inReg = true ∧ (f.reg ≠ .PWR_VMIN_STAT ∨ f.lo ∉ breachFields.map Fld.lo))
    (i v : Nat) : (fset f i v).Keeps fun s => s.fget g 0 := by
  obtain ⟨hIn, hApart⟩ := hf
  refine keeps_fset_other ?_ i 0 v
  have hLo : g.inReg = true ∧ g.reg = .PWR_VMIN_STAT := by revert g; decide
  have hMem : g.lo ∈ breachFields.map Fld.lo := List.mem_map_of_mem hg
  simp only [Bool.and_eq_true, Bool.or_eq_true, bne_iff_ne, ne_eq]
  refine ⟨⟨hIn, hLo.1⟩, .inl (hApart.imp (hLo.2 ▸ ·) fun h e => h (e ▸ hMem))⟩

theorem keeps_loopBy_breach {g : Fld} (hg : g ∈ breachFields) (c sensor mv : Nat) (steps : Int) :
    (loopBy c sensor mv steps).Keeps fun s => s.fget g 0 := by
  have hRaise (d : List (Nat × Nat)) : (raise 0x0806 0 ⟨c, 0xFF, 0xFF, 0xFF⟩ d).Keeps fun s => s.fget g 0 := fun s => Upd.ev_fget ..
  exact keeps_rd fun s => keeps_seq_cons (keeps_fset_breach hg (by decide) _ _) <| keeps_seq_cons (keeps_fset_breach hg (by decide) _ _) <|
    keeps_seq₂ (keeps_rd fun s => keeps_fset_breach hg (by decide) _ _)
      (keeps_when (keeps_seq₂ (keeps_fset_breach hg (by decide) _ _) (hRaise _)))

/-- A breach is counted and marked, and contains each flask of the cluster (R503). -/
def breachNoted (c sensor mv : Nat) (fs : List Nat) : Eff :=
  seq [fsat F.PWR_VMIN_STAT_BREACHES 0 1, fset F.PWR_VMIN_STAT_BREACH_SEEN 0 1,
    each fs (fun f => contain f 0x0807 ⟨c, 0xFF, 0xFF, f⟩ [(1, c), (1, sensor), (2, mv)])]

theorem breachNoted_spec (c sensor mv : Nat) (fs : List Nat) (s : State) {t : State} (ht : t = Eff.on (breachNoted c sensor mv fs) s) :
    t.fget F.PWR_VMIN_STAT_BREACH_SEEN 0 = 1 ∧
      t.fget F.PWR_VMIN_STAT_BREACHES 0 = min (s.fget F.PWR_VMIN_STAT_BREACHES 0 + 1) (2 ^ F.PWR_VMIN_STAT_BREACHES.len - 1) := by
  have hContain {g : Fld} (hg : g.inReg = true ∧ g.reg = .PWR_VMIN_STAT) (u : State) :
      (Eff.on (each fs fun f => contain f 0x0807 ⟨c, 0xFF, 0xFF, f⟩ [(1, c), (1, sensor), (2, mv)]) u).fget g 0 = u.fget g 0 :=
    (only_each fun f _ => only_contain (List.Subset.refl _) f _ _ _).fget hg.1 (by decide) (by rw [hg.2]; decide) u 0
  rw [breachNoted, on_seq_cons, on_seq_pair] at ht
  rw [ht, hContain (by decide), hContain (by decide), on_fset, Upd.fget_fld_same (by decide), Upd.fget_fld_other (by decide),
    fget_fsat (by decide)]
  exact ⟨rfl, rfl⟩

/-- What a sample does to the loop: it moves by some steps, or it stays and is not at its limit (R502). -/
def loopMove (c sensor mv : Nat) (e : Eff) : Prop := (∃ steps, e = loopBy c sensor mv steps) ∨ e = fset F.PWR_CLUSTER_c_AT_LIMIT c 0

theorem loopMove_keeps {c sensor mv : Nat} {e : Eff} (h : loopMove c sensor mv e) {g : Fld} (hg : g ∈ breachFields) : e.Keeps fun s => s.fget g 0 := by
  rcases h with ⟨steps, rfl⟩ | rfl
  · exact keeps_loopBy_breach hg c sensor mv steps
  · exact keeps_fset_breach hg (by decide) c 0

theorem loopMove_only {c sensor mv : Nat} {e : Eff} (h : loopMove c sensor mv e) : e.Only [.ev, .fld .PWR_CLUSTER_c, .fld .PWR_VMIN_STAT] := by
  rcases h with ⟨steps, rfl⟩ | rfl
  · exact only_loopBy (List.Subset.refl _) c sensor mv steps
  · exact only_fset (by decide) c 0

theorem loopMove_by {c sensor mv : Nat} (steps : Int) : loopMove c sensor mv (loopBy c sensor mv steps) := .inl ⟨steps, rfl⟩
theorem loopMove_ite {c sensor mv : Nat} {p : Prop} [Decidable p] {a b : Eff} (ha : loopMove c sensor mv a) (hb : loopMove c sensor mv b) :
    loopMove c sensor mv (if p then a else b) := by
  split <;> assumption

/-- Five effects in order: the last one meets what the first four leave. -/
theorem on_seq_last₅ (a b c d e : Eff) (s : State) : Eff.on (seq [a, b, c, d, e]) s = Eff.on e (Eff.on (seq [a, b, c, d]) s) := by
  simp only [on_seq_cons, on_seq_nil]

/-- A sample moves the loop and the log's marks, and then is a breach or not (R502, R503). -/
theorem on_vminSample (c sensor mv : Nat) (edge : Bool) (s : State) : ∃ e : Eff, (∀ g ∈ breachFields, e.Keeps fun s => s.fget g 0) ∧
    e.Only [.ev, .power, .fld .PWR_CLUSTER_c, .fld .PWR_VMIN_STAT] ∧ Eff.on (vminSample c sensor mv edge) s =
      Eff.on (when (decide (mv < pstepMv s.pstep - 70)) (breachNoted c sensor mv (s.flasksIn c))) (Eff.on e s) := by
  have hPower (p : PowerSt) {g : Fld} : (upd [.power p]).Keeps fun s => s.fget g 0 := fun s => Upd.power_fget ..
  have hLimit {g : Fld} (hg : g ∈ breachFields) (b : Bool) : (when b (fsat F.PWR_VMIN_STAT_LIMIT_US 0 1)).Keeps fun s => s.fget g 0 :=
    keeps_when fun s => keeps_fset_breach hg (f := F.PWR_VMIN_STAT_LIMIT_US) (by decide) 0 _ s
  have hLoop (drop : Bool) : loopMove c sensor mv (if decide (mv < pstepMv s.pstep - 70) then loopBy c sensor mv 4
      else if mv < pstepMv s.pstep - 70 + 5 then loopBy c sensor mv 4
      else if mv < pstepMv s.pstep - 70 + 20 then loopBy c sensor mv 1
      else if drop then loopBy c sensor mv (-1) else fset F.PWR_CLUSTER_c_AT_LIMIT c 0) :=
    loopMove_ite (loopMove_by 4) (loopMove_ite (loopMove_by 4) (loopMove_ite (loopMove_by 1) (loopMove_ite (loopMove_by (-1)) (.inr rfl))))
  rw [vminSample.eq_def, on_rd]
  dsimp only
  rw [on_seq_last₅]
  refine ⟨_, fun g hg => ?_, ?_, rfl⟩
  · refine keeps_seq_cons (hPower _) (keeps_seq_cons (keeps_fset_breach hg (by decide) _ _)
      (keeps_seq₂ (loopMove_keeps (hLoop _) hg) (keeps_rd fun _ => hLimit hg _)))
  · exact only_seq₄ (only_upd (by simp [Upd.part])) (only_fset (by decide) _ _) ((loopMove_only (hLoop _)).mono (by decide))
      (only_rd fun _ => only_when fun _ => only_fsat (by decide) _ _)

theorem vminSample_breach {c sensor mv : Nat} {s : State} (h : mv < pstepMv s.pstep - 70) (edge : Bool) {t : State}
    (ht : t = Eff.on (vminSample c sensor mv edge) s) : t.fget F.PWR_VMIN_STAT_BREACH_SEEN 0 = 1 ∧
      t.fget F.PWR_VMIN_STAT_BREACHES 0 = min (s.fget F.PWR_VMIN_STAT_BREACHES 0 + 1) (2 ^ F.PWR_VMIN_STAT_BREACHES.len - 1) := by
  obtain ⟨e, hKeeps, -, hOn⟩ := on_vminSample c sensor mv edge s
  rw [hOn, decide_eq_true h, on_when_true] at ht
  obtain ⟨hSeen, hCount⟩ := breachNoted_spec _ _ _ _ _ ht
  exact ⟨hSeen, hCount.trans (congrArg (fun n => min (n + 1) _) (hKeeps _ (by decide) s))⟩

theorem vminSample_calm {c sensor mv : Nat} {s : State} (h : pstepMv s.pstep - 70 ≤ mv) (edge : Bool) {t : State}
    (ht : t = Eff.on (vminSample c sensor mv edge) s) : t.fget F.PWR_VMIN_STAT_BREACH_SEEN 0 = s.fget F.PWR_VMIN_STAT_BREACH_SEEN 0 ∧
      t.fget F.PWR_VMIN_STAT_BREACHES 0 = s.fget F.PWR_VMIN_STAT_BREACHES 0 ∧ t.flasks = s.flasks := by
  obtain ⟨e, hKeeps, hOnly, hOn⟩ := on_vminSample c sensor mv edge s
  rw [hOn, decide_eq_false (Nat.not_lt.2 h), on_when_false] at ht
  subst ht
  exact ⟨hKeeps _ (by decide) s, hKeeps _ (by decide) s, hOnly.frame_flasks (by decide) s⟩

/-! Riser notices (R507). -/

/-- A notice sets its cluster's level, and the buckets are refilled to its time before they are debited (R507, R510). -/
theorem riserNotice_spec (c level : Nat) (s : State) {t : State} (ht : t = Eff.on (riserNotice c level) s) :
    (assoc (0, 0) t.power.riser c).1 = level ∧ t.power.refillAt = max s.tc s.power.refillAt := by
  have hRiser : ∃ bias, t.power.riser = NMap.ins (NMap.del s.power.riser c) c (level, bias) := by rw [ht]; exact ⟨_, rfl⟩
  obtain ⟨bias, hRiser⟩ := hRiser
  refine ⟨?_, by rw [ht]; rfl⟩
  rw [assoc, hRiser, NMap.get_ins_same _ _ _ _ fun e he => ((NMap.mem_del _ _ e).1 he).2]

/-! Slew buckets (R510). -/

section
variable {c ma : Nat} {s t : State} {p : PowerSt} {w : Nat × Nat × Nat}

/-- A new request is granted when no other is before it and both buckets hold it; otherwise it waits, counted. -/
theorem on_bucketAsk_new (hp : s.power.refill s.tc = p) (hNew : p.waiting.find? (fun w => w.1 == c && w.2.1 == ma) = none) :
    Eff.on (bucketAsk c ma) s = if p.first c = none ∧ p.holds c ma = true then (Upd.power (p.debit c ma)).apply s
      else Eff.on (fsat F.PWR_SLEW_WAITS 0 1) ((Upd.power { p with waiting := p.waiting ++ [(c, ma, s.tc)] }).apply s) := by
  rw [bucketAsk.eq_def, on_rd, hp]
  dsimp only
  rw [hNew]
  dsimp only
  simp only [Option.isNone_iff_eq_none]
  split
  · rw [on_upd, applyAll_cons, applyAll_nil]
  · rw [on_seq_pair, on_upd, applyAll_cons, applyAll_nil]

/-- A waiting request is granted when it is first and both buckets hold it; otherwise it goes on waiting. -/
theorem on_bucketAsk_waiting (hp : s.power.refill s.tc = p) (hOld : p.waiting.find? (fun w => w.1 == c && w.2.1 == ma) = some w) :
    Eff.on (bucketAsk c ma) s = if p.first c = some w ∧ p.holds c ma = true then Eff.on (fmax F.PWR_SLEW_MAX_WAIT 0 (min 0xFFFF (s.tc - w.2.2)))
        ((Upd.power (PowerSt.debit { p with waiting := p.waiting.erase w } c ma)).apply s)
      else (Upd.power p).apply s := by
  rw [bucketAsk.eq_def, on_rd, hp]
  dsimp only
  rw [hOld]
  dsimp only
  split
  · rw [on_seq_pair, on_upd, applyAll_cons, applyAll_nil]
  · rw [on_upd, applyAll_cons, applyAll_nil]

/-- A request that is not first, or that a bucket does not hold, is not granted. -/
theorem not_grantable {first : Prop} {holds : Bool} (h : ¬first ∨ holds = false) : ¬(first ∧ holds = true) := by
  rintro ⟨hFirst, rfl⟩
  exact h.elim (· hFirst) nofun

theorem bucketAsk_new_spec (hp : s.power.refill s.tc = p) (hNew : p.waiting.find? (fun w => w.1 == c && w.2.1 == ma) = none)
    (ht : t = Eff.on (bucketAsk c ma) s) : (p.first c = none → p.holds c ma = true → t.power = p.debit c ma) ∧
      (p.first c ≠ none ∨ p.holds c ma = false → t.power = { p with waiting := p.waiting ++ [(c, ma, s.tc)] } ∧
        t.fget F.PWR_SLEW_WAITS 0 = min (s.fget F.PWR_SLEW_WAITS 0 + 1) (2 ^ F.PWR_SLEW_WAITS.len - 1)) := by
  rw [on_bucketAsk_new hp hNew] at ht
  subst ht
  refine ⟨fun hFirst hHolds => ?_, fun hWaits => ?_⟩
  · rw [if_pos ⟨hFirst, hHolds⟩, Upd.power_power]
  · rw [if_neg (not_grantable hWaits), fget_fsat (by decide), Upd.power_fget, on_fsat, Upd.fld_power, Upd.power_power]
    exact ⟨rfl, rfl⟩

theorem bucketAsk_waiting_spec (hp : s.power.refill s.tc = p) (hOld : p.waiting.find? (fun w => w.1 == c && w.2.1 == ma) = some w)
    (ht : t = Eff.on (bucketAsk c ma) s) : (p.first c = some w → p.holds c ma = true →
        t.power = PowerSt.debit { p with waiting := p.waiting.erase w } c ma) ∧
      (p.first c ≠ some w ∨ p.holds c ma = false → t.power = p) := by
  rw [on_bucketAsk_waiting hp hOld] at ht
  subst ht
  refine ⟨fun hFirst hHolds => ?_, fun hWaits => ?_⟩
  · rw [if_pos ⟨hFirst, hHolds⟩, on_fmax, Upd.fld_power, Upd.power_power]
  · rw [if_neg (not_grantable hWaits), Upd.power_power]

end

end Sys2Proof.Machine

namespace Sys2Proof.Proofs
open Sys2Proof.Machine

/-- Settles O32: each command acts on the reading, the tile, the sample or the request as it finds them, and what it goes on to write leaves the
registers of its own alone. -/
theorem powerDeliveryCommandsAct : Obligations.PowerDeliveryCommandsAct := by
  refine ⟨fun mv ta watts tc s hMin hMax => ?inputSample, fun s => ?auxFault, fun tile cause s => ?tileFault, fun tile ok s => ?tileSpared,
    fun cluster sensor mv edge tc s => ?vminSample, fun cluster level s => ?riserNotice, fun cluster amps tc s => ?bucketGrant⟩
  case inputSample =>
    obtain ⟨t, hNext, hSpec⟩ := inputSample_spec ta watts tc s hMin hMax
    exact ⟨t, hNext, frame_execInputSample mv ta watts tc s hNext, hSpec⟩
  case auxFault => exact ⟨_, rfl, frame_execPwrAuxFault s rfl, (fatal_spec 0x0803 nobody [(8, 0)] s rfl).1⟩
  case tileFault =>
    exact ⟨_, rfl, frame_execTileFault tile cause s rfl, fun h => tileFault_idle h cause rfl, fun hOn hIn => tileFault_fails hOn hIn cause rfl⟩
  case tileSpared =>
    refine ⟨_, rfl, frame_execTileSpared tile ok s rfl, fun h => tileSpared_idle h ok rfl,
      fun e hFor hRamps => ⟨fun hOk => ?_, fun hOk => ?_⟩⟩ <;> subst hOk
    · exact tileSpared_up hFor hRamps rfl
    · exact tileSpared_fails hFor hRamps rfl
  case vminSample =>
    have hStep : (s.movedOn tc).pstep = s.pstep := s.movedOn_fget tc (by decide) 0
    refine ⟨_, rfl, frame_execVminSample cluster sensor mv edge tc s rfl, takesTime_vminSample cluster sensor mv edge tc s _ rfl,
      fun h => ?_, fun h => ?_⟩ <;> rw [on_seq_pair]
    · rw [← s.movedOn_fget tc (f := F.PWR_VMIN_STAT_BREACHES) (by decide)]
      exact vminSample_breach (hStep ▸ h) edge rfl
    · rw [← s.movedOn_fget tc (f := F.PWR_VMIN_STAT_BREACHES) (by decide), ← s.movedOn_fget tc (f := F.PWR_VMIN_STAT_BREACH_SEEN) (by decide)]
      exact vminSample_calm (hStep ▸ h) edge rfl
  case riserNotice => exact ⟨_, rfl, frame_execRiserNotice cluster level s rfl, riserNotice_spec cluster.val level.val s rfl⟩
  case bucketGrant =>
    have hTime := takesTime_bucketGrant cluster amps tc s _ rfl
    have hRefill : (s.movedOn tc).power.refill (s.movedOn tc).tc = s.power.refill (s.clockAt tc) := by
      rw [s.movedOn_tc, State.movedOn, on_tcTo, Upd.fld_power]
    refine ⟨_, rfl, frame_execBucketGrant cluster amps tc s rfl, hTime, fun p hp hNew => ?_, fun p w hp hOld => ?_⟩
    · rw [hTime, on_seq_pair, ← s.movedOn_tc, ← s.movedOn_fget tc (f := F.PWR_SLEW_WAITS) (by decide)]
      exact bucketAsk_new_spec (hRefill.trans hp.symm) hNew rfl
    · rw [on_seq_pair]
      exact bucketAsk_waiting_spec (hRefill.trans hp.symm) hOld rfl

end Sys2Proof.Proofs
end

section
/-! The queue and the roles of the mailbox slots (R668, R669, R705). -/
namespace Sys2Proof.Machine

/-! Slot roles (R668, R669). -/

/-- A write of all 64 bits of a register leaves each field as its type says, with no bit set by the hardware (R17). -/
theorem fget_regWrite_ones {r : Reg} {i v : Nat} {s : State} (hOld : ∀ f ∈ r.fields, s.fget f i < 2 ^ f.len) {f : Fld} (hf : f ∈ r.fields) :
    (Eff.on (regWrite r i (2 ^ 64 - 1) v) s).fget f i = fieldAfter f (s.fget f i) v 0 := by
  rw [regWrite_ones hOld, fget_fieldWrites _ i r _ hf, fieldStored_getD v (hOld f hf)]
  intro g hg hSome
  refine Reg.written_settable r g hg ?_
  revert hSome
  cases hty : g.ty <;> simp [fieldStored, hty]

/-- A served host's write of a role register while LOCK is 0 is the register's write. -/
theorem on_roleWrite_open (r : Reg) (val : Word) {s : State} (hServed : s.mbServed = true) (hOpen : s.fget F.SAF_SLOT_ROLE_LOCK 0 = 0) :
    Eff.on (roleWrite r val 255) s = Eff.on (regWrite r 0 (2 ^ 64 - 1) val.toNat) s := by
  have hCover : coverMask 255 8 = 2 ^ 64 - 1 := by decide
  rw [roleWrite, on_rd, hServed, State.flag, hOpen, hCover]
  rfl

/-- While LOCK is 1 a write of a role register is discarded. -/
theorem on_roleWrite_locked (r : Reg) (val : Word) (bm : Nat) {s : State} (hLock : s.fget F.SAF_SLOT_ROLE_LOCK 0 = 1) :
    Eff.on (roleWrite r val bm) s = s := by
  rw [roleWrite, on_rd, State.flag, hLock]
  simp

/-- A well-formed SAF_SLOT_ROLE reads its two fields side by side. -/
theorem State.Wf.regVal_slotRole_lt {s : State} (h : s.Wf) : s.regVal .SAF_SLOT_ROLE 0 < 2 ^ 17 := by
  have hTenant : s.fget F.SAF_SLOT_ROLE_TENANT 0 < 2 ^ 16 := h.fget_lt_of_mem (r := .SAF_SLOT_ROLE) (.head _) (by decide)
  have hLock : s.fget F.SAF_SLOT_ROLE_LOCK 0 < 2 ^ 1 := h.fget_lt_of_mem (r := .SAF_SLOT_ROLE) (.tail _ (.head _)) (by decide)
  have hRead : s.regVal .SAF_SLOT_ROLE 0 = 0 + s.fget F.SAF_SLOT_ROLE_TENANT 0 * 2 ^ 0 + s.fget F.SAF_SLOT_ROLE_LOCK 0 * 2 ^ 16 := rfl
  omega

/-- Slot `k` is a tenant as bit `k` of the word stored in TENANT says. -/
theorem State.tenant_of_stored {t : State} {v k : Nat} (hStored : t.fget F.SAF_SLOT_ROLE_TENANT 0 = bitsOf v 0 16) (hk : k < 16) :
    t.tenant k = bitOf v k := by
  rw [State.tenant, hStored, bitOf_eq_testBit, bitOf_eq_testBit, testBit_bitsOf, decide_eq_true hk, Bool.true_and, Bool.true_and, Nat.zero_add]

/-! Input samples beyond the ratings (R705). -/

/-- An input sample answers a next state, or its voltage lies beyond the absolute maximum ratings. -/
theorem execInputSample_next_or_fault (mv : Int) (ta watts tc : Nat) (s : State) : (∃ t, execInputSample mv ta watts tc s = .next t) ∨
    (mv < -1000 ∨ 65000 < mv) ∧ execInputSample mv ta watts tc s = .fault .beyondRatings := by
  rw [execInputSample]
  split
  · exact .inr ⟨‹_›, rfl⟩
  · exact .inl ⟨_, rfl⟩

end Sys2Proof.Machine

namespace Sys2Proof.Proofs
open Sys2Proof.Machine

/-- Settles O43: it is the step's own second case. -/
theorem stepRunsTheFrontCommand : Obligations.StepRunsTheFrontCommand := by
  intro c cs s h
  rw [step, h]

/-- Settles O47: every command but an input sample runs an effect, and an effect always leaves a state. -/
theorem onlyInputSamplesBeyondTheRatingsStop : Obligations.OnlyInputSamplesBeyondTheRatingsStop := by
  intro c s
  by_cases hc : ∃ mv ta watts tc, c = .inputSample mv ta watts tc
  · obtain ⟨mv, ta, watts, tc, rfl⟩ := hc
    exact (execInputSample_next_or_fault mv ta watts tc s).imp id fun ⟨hBeyond, hFault⟩ => ⟨mv, ta, watts, tc, rfl, hBeyond, hFault⟩
  · obtain ⟨e, he⟩ := exec_eq_run c s fun mv ta watts tc h => hc ⟨mv, ta, watts, tc, h⟩
    exact .inl ⟨_, he⟩

/-- Settles O58: while LOCK is 0 a write of all bits leaves TENANT, an RW field, as the word says, and LOCK, a W1S field, set where the word
sets it; while LOCK is 1 the write is discarded. -/
theorem slotRolesUntilTheLock : Obligations.SlotRolesUntilTheLock := by
  refine ⟨rfl, rfl, rfl, fun s hs => hs.regVal_slotRole_lt, fun val s hs hServed hOpen => ?_, fun val m s hLock => ?_⟩
  · have hOld : ∀ f ∈ Reg.SAF_SLOT_ROLE.fields, s.fget f 0 < 2 ^ f.len := fun f hf => hs.fget_lt_of_mem hf (by decide)
    refine ⟨_, rfl, frame_execSlotRoleWrite val 255 s rfl, fun k hk => ?_, ?_⟩
    · refine State.tenant_of_stored ?_ hk
      rw [show (255 : Fin 256).val = 255 from rfl, on_roleWrite_open _ val hServed hOpen, fget_regWrite_ones hOld (.head _)]
      rfl
    · rw [show (255 : Fin 256).val = 255 from rfl, on_roleWrite_open _ val hServed hOpen, fget_regWrite_ones hOld (.tail _ (.head _)), hOpen]
      exact Nat.zero_or _
  · exact ⟨congrArg _ (on_roleWrite_locked .SAF_SLOT_ROLE val m hLock), congrArg _ (on_roleWrite_locked .SAF_SLOT_FLASK val m hLock)⟩

end Sys2Proof.Proofs
end

section
/-! Slosy requests and their answers: identity, nonce, grants and the lockout (R674 to R681). -/
namespace Sys2Proof.Machine

section
variable {r : SlosyReq} {s t : State}

/-- The command that a request names serves it. -/
theorem slosyServe_named {cmd : Nat} (e : List Byte → Eff) (hReq : s.dbg.req = some r) (hCmd : r.cmd = cmd) :
    Eff.on (slosyServe cmd e) s = Eff.on (e r.payload) s := by
  rw [slosyServe, on_rd, hReq]
  dsimp only
  rw [hCmd, beq_self_eq_true, on_when_true]

/-- An answer is sent, stored and ends the request; a lockout goes on. -/
theorem slosyAnswer_spec (status : Nat) (bytes : List Byte) (hReq : s.dbg.req = some r) (ht : t = Eff.on (slosyAnswer status bytes) s) :
    SlosyAnswered t r status bytes ∧ t.dbg.lockEnd = s.dbg.lockEnd := by
  rw [slosyAnswer, on_rd, hReq] at ht
  subst ht
  exact ⟨⟨rfl, rfl, rfl⟩, rfl⟩

end

/-- An event is raised between any two states with the events of the two between which it was. -/
theorem raised_of_ev {code sev : Nat} {s s' t t' : State} (h : Raised s t code sev) (hs : s.ev = s'.ev) (ht : t'.ev = t.ev) :
    Raised s' t' code sev := by
  obtain ⟨r, hCode, hSev, hEv⟩ := h
  exact ⟨r, hCode, hSev, by rw [ht, hEv, hs]⟩

/-! Identity (R480, R676). -/

/-- The alignment of the last field puts the information record at 40 bytes: six bytes of padding stand before it (R480). -/
theorem length_slosyInfo (a b c d e : Nat) : (pack [(8, a), (16, b), (1, c), (1, d), (8, e)]).length = 40 := by
  simp [pack, packFrom, alignTo, natLe]

/-- The fields of the information record without padding. -/
theorem length_slosyInfo_unpadded (a b c d e : Nat) :
    (natLe 8 a ++ natLe 16 b ++ natLe 1 c ++ natLe 1 d ++ natLe 8 e).length = 34 := by
  simp [natLe]

/-- A module after reset with an INFO request in service. -/
def infoAsked : State := { State.reset with dbg := { State.reset.dbg with req := some { tag := 0, cmd := 0x01, session := 0, payload := [] } } }

/-- INFO answers with the packed identity. -/
theorem slosyInfo_answers {r : SlosyReq} {s t : State} (hReq : s.dbg.req = some r) (hCmd : r.cmd = 0x01) (hNext : exec .slosyInfo s = .next t) :
    SlosyAnswered t r 0 (pack [(8, s.regVal .MOD_ID 0), (16, s.slag.serial), (1, s.fget F.SAF_STAT_LIFECYCLE 0), (1, s.dbgLevel),
      (8, s.regVal .DBG_HOLD 0)]) := by
  rw [exec_slosyInfo, execSlosyInfo, run_eq, slosyServe_named _ hReq hCmd, on_rd] at hNext
  cases hNext
  exact (slosyAnswer_spec 0 _ hReq rfl).1

/-! Grant records (R677, R679). -/

section
variable {s t : State}

/-- Seconds that move on leave the Slosy port and the checks of a grant record alone. -/
theorem secondsTo_dbg (n : Nat) (s : State) : (Eff.on (secondsTo n) s).dbg = s.dbg :=
  (only_secondsTo (List.Subset.refl _) n).frame_dbg (by decide) s

theorem secondsTo_ev (n : Nat) (s : State) : (Eff.on (secondsTo n) s).ev = s.ev :=
  (only_secondsTo (List.Subset.refl _) n).frame_ev (by decide) s

theorem secondsTo_fails (n : Nat) (s : State) : (Eff.on (secondsTo n) s).fget F.DBG_STAT_FAILS 0 = s.fget F.DBG_STAT_FAILS 0 :=
  (only_secondsTo (List.Subset.refl _) n).fget (by decide) (by decide) (by decide) s 0

theorem grantRefusal_secondsTo (n : Nat) (s : State) (b : List Byte) (v : Bool) :
    (Eff.on (secondsTo n) s).grantRefusal b v = s.grantRefusal b v := by
  have hFld {f : Fld} (hf : f.inReg = true) (hr : Part.fld f.reg ∉ [Part.fld .SAF_SECONDS]) :
      (Eff.on (secondsTo n) s).fget f 0 = s.fget f 0 := (only_secondsTo (List.Subset.refl _) n).fget hf (by decide) hr s 0
  have hSlag : (Eff.on (secondsTo n) s).slag = s.slag := (only_secondsTo (List.Subset.refl _) n).frame_slag (by decide) s
  simp only [State.grantRefusal, State.signerOk, State.flag, secondsTo_dbg, hSlag, hFld (f := F.SAF_KEYS_MOULD_PRESENT) (by decide) (by decide),
    hFld (f := F.SAF_KEYS_MOULD_REVOKED) (by decide) (by decide), hFld (f := F.SAF_STAT_FW_REVOKED) (by decide) (by decide),
    hFld (f := F.SAF_STAT_TAMPER) (by decide) (by decide), hFld (f := F.SAF_STAT_LIFECYCLE) (by decide) (by decide)]

/-- What follows a refused grant record: FAILS counts, the event is raised, and from the fourth refusal on AUTH_REQ is locked out. -/
def grantRefused (why now : Nat) : Eff :=
  seq [fsat F.DBG_STAT_FAILS 0 1, raise 0x0C02 0 nobody [(1, why)],
    rd fun s => when (decide (s.fget F.DBG_STAT_FAILS 0 ≥ 4)) (upd [.dbg { s.dbg with lockEnd := some (now + 60) }]), slosyAnswer 3 []]

theorem grantRefused_spec (why now : Nat) {r : SlosyReq} (hReq : s.dbg.req = some r) (ht : t = Eff.on (grantRefused why now) s) :
    Raised s t 0x0C02 0 ∧ t.fget F.DBG_STAT_FAILS 0 = min (s.fget F.DBG_STAT_FAILS 0 + 1) (2 ^ F.DBG_STAT_FAILS.len - 1) ∧
      t.fget F.SAF_SECONDS_SECONDS 0 = s.fget F.SAF_SECONDS_SECONDS 0 ∧
      t.dbg.lockEnd = if s.fget F.DBG_STAT_FAILS 0 < 3 then s.dbg.lockEnd else some (now + 60) := by
  obtain ⟨u, hu⟩ : ∃ u, u = Eff.on (raise 0x0C02 0 nobody [(1, why)]) (Eff.on (fsat F.DBG_STAT_FAILS 0 1) s) := ⟨_, rfl⟩
  have hFails : u.fget F.DBG_STAT_FAILS 0 = min (s.fget F.DBG_STAT_FAILS 0 + 1) (2 ^ F.DBG_STAT_FAILS.len - 1) := by
    rw [hu, on_raise, Upd.ev_fget, fget_fsat (by decide)]
  have hSeconds : u.fget F.SAF_SECONDS_SECONDS 0 = s.fget F.SAF_SECONDS_SECONDS 0 := by
    rw [hu, on_raise, Upd.ev_fget, on_fsat, Upd.fget_fld_other (by decide)]
  have hDbg : u.dbg = s.dbg := by rw [hu, on_raise, Upd.ev_dbg, on_fsat, Upd.fld_dbg]
  have hRaised : Raised s u 0x0C02 0 := hu ▸ raised_raise _ _ _ _ (by rw [on_fsat, Upd.fld_ev])
  rw [grantRefused, on_seq_cons, on_seq_cons, ← hu] at ht
  have hRest : Eff.Only [.dbg, .msgs, .resp] (seq [rd fun s => when (decide (s.fget F.DBG_STAT_FAILS 0 ≥ 4))
      (upd [.dbg { s.dbg with lockEnd := some (now + 60) }]), slosyAnswer 3 []]) :=
    only_seq₂ (only_rd fun _ => only_when fun _ => only_upd (by simp [Upd.part])) (only_slosyAnswer (List.Subset.refl _) _ _)
  refine ⟨raised_of_ev hRaised rfl (ht ▸ hRest.frame_ev (by decide) u), ?_, ?_, ?_⟩
  · exact ht ▸ (hRest.fget (by decide) (by decide) (by decide) u 0).trans hFails
  · exact ht ▸ (hRest.fget (by decide) (by decide) (by decide) u 0).trans hSeconds
  · have hLen : F.DBG_STAT_FAILS.len = 8 := rfl
    rw [hLen] at hFails
    rw [on_seq_pair, on_rd] at ht
    by_cases hThree : s.fget F.DBG_STAT_FAILS 0 < 3
    · rw [decide_eq_false (by omega), on_when_false] at ht
      obtain ⟨-, hKeep⟩ := slosyAnswer_spec 3 [] (hDbg ▸ hReq) ht
      rw [hKeep, if_pos hThree, hDbg]
    · rw [decide_eq_true (by omega), on_when_true, on_upd, applyAll_cons, applyAll_nil] at ht
      obtain ⟨-, hKeep⟩ := slosyAnswer_spec 3 [] (by rw [Upd.dbg_dbg]; exact hDbg ▸ hReq) ht
      rw [hKeep, if_neg hThree, Upd.dbg_dbg]

/-- What follows an accepted grant record in a state whose nonce is spent. -/
def grantAccepted (now level signer flags scope duration : Nat) : Eff :=
  seq [grantEnds, fset F.DBG_STAT_FAILS 0 0, fset F.DBG_STAT_LEVEL 0 level, fset F.DBG_STAT_FLAGS 0 flags,
    fset F.DBG_STAT_SCOPE 0 scope, draw fun v => fset F.DBG_STAT_SESSION 0 (v % 65535 + 1),
    rd fun s => upd [.dbg { s.dbg with grantEnd := some (now + duration) }],
    raise 0x0C01 0 nobody [(1, level), (1, signer), (1, flags), (2, scope)], slosyAnswer 0 (natLe 1 level)]

/-- An accepted grant clears FAILS, and nothing after that counts in it. -/
theorem grantAccepted_fails (now level signer flags scope duration : Nat) (s : State) :
    (Eff.on (grantAccepted now level signer flags scope duration) s).fget F.DBG_STAT_FAILS 0 = 0 := by
  have hAnswer := only_slosyAnswer (List.Subset.refl _) 0 (natLe 1 level)
  rw [grantAccepted]
  simp only [on_seq_cons, on_seq_nil, on_draw, on_rd]
  rw [hAnswer.fget (by decide) (by decide) (by decide), on_raise, Upd.ev_fget, on_upd, applyAll_cons, applyAll_nil, Upd.dbg_fget]
  simp only [on_fset]
  rw [Upd.fget_fld_other (by decide), Upd.freeCtr_fget, Upd.fget_fld_other (by decide), Upd.fget_fld_other (by decide),
    Upd.fget_fld_other (by decide), Upd.fget_fld_same (by decide), Nat.zero_mod]

/-- A grant record in form for the request in service is refused or accepted as its checks say. -/
theorem slosyAuthGrant_next {r : SlosyReq} {v : Bool} (seconds : Nat) (hReq : s.dbg.req = some r) (hCmd : r.cmd = 0x03)
    (hForm : grantForm r.payload = true) : ∃ now u, u = (Upd.dbg { s.dbg with nonce := none }).apply (Eff.on (secondsTo seconds) s) ∧
      now = u.fget F.SAF_SECONDS_SECONDS 0 ∧ exec (.slosyAuthGrant v seconds) s = .next (Eff.on (match s.grantRefusal r.payload v with
        | some why => grantRefused why now
        | none => grantAccepted now (leAt r.payload 0x30 1) (leAt r.payload 0x38 1) (leAt r.payload 0x31 1) (leAt r.payload 0x32 2)
            (leAt r.payload 0x34 4)) u) := by
  refine ⟨_, _, rfl, rfl, congrArg Host.Outcome.next ?_⟩
  rw [on_seq_pair, slosyServe_named _ (secondsTo_dbg seconds s ▸ hReq) hCmd, on_rd]
  dsimp only
  rw [on_seq_pair, hForm, grantRefusal_secondsTo, secondsTo_dbg]
  cases s.grantRefusal r.payload v <;> rfl

/-- A refused grant record in form raises its event, counts in FAILS, and at the fourth the lockout begins. -/
theorem slosyAuthGrant_refuses {r : SlosyReq} {v : Bool} {why : Nat} (seconds : Nat) (hReq : s.dbg.req = some r) (hCmd : r.cmd = 0x03)
    (hForm : grantForm r.payload = true) (hWhy : s.grantRefusal r.payload v = some why) : ∃ t, exec (.slosyAuthGrant v seconds) s = .next t ∧
      Raised s t 0x0C02 0 ∧ t.fget F.DBG_STAT_FAILS 0 = min (s.fget F.DBG_STAT_FAILS 0 + 1) (2 ^ F.DBG_STAT_FAILS.len - 1) ∧
      t.dbg.lockEnd = if s.fget F.DBG_STAT_FAILS 0 < 3 then s.dbg.lockEnd else some (t.fget F.SAF_SECONDS_SECONDS 0 + 60) := by
  obtain ⟨now, u, hu, hNow, hNext⟩ := slosyAuthGrant_next (v := v) seconds hReq hCmd hForm
  have hFails : u.fget F.DBG_STAT_FAILS 0 = s.fget F.DBG_STAT_FAILS 0 := by rw [hu, Upd.dbg_fget, secondsTo_fails]
  have hEv : u.ev = s.ev := by rw [hu, Upd.dbg_ev, secondsTo_ev]
  have hLock : u.dbg.lockEnd = s.dbg.lockEnd := by rw [hu, Upd.dbg_dbg]
  have hAsked : u.dbg.req = some r := by rw [hu, Upd.dbg_dbg, hReq]
  rw [hWhy] at hNext
  obtain ⟨hRaised, hCount, hSeconds, hEnd⟩ := grantRefused_spec why now hAsked rfl
  refine ⟨_, hNext, raised_of_ev hRaised hEv rfl, hFails ▸ hCount, ?_⟩
  rw [hEnd, hFails, hLock, hSeconds, hNow]

/-- A grant record in form that passes every check starts the count of failures again. -/
theorem slosyAuthGrant_accepts {r : SlosyReq} {v : Bool} (seconds : Nat) (hReq : s.dbg.req = some r) (hCmd : r.cmd = 0x03)
    (hForm : grantForm r.payload = true) (hPass : s.grantRefusal r.payload v = none) : ∃ t, exec (.slosyAuthGrant v seconds) s = .next t ∧
      t.fget F.DBG_STAT_FAILS 0 = 0 := by
  obtain ⟨now, u, -, -, hNext⟩ := slosyAuthGrant_next (v := v) seconds hReq hCmd hForm
  rw [hPass] at hNext
  exact ⟨_, hNext, grantAccepted_fails ..⟩

/-- AUTH_REQ is answered 0x07 in a lockout, and with a fresh nonce otherwise (R677, R679). -/
theorem slosyAuthReq_spec {r : SlosyReq} (hReq : s.dbg.req = some r) (hCmd : r.cmd = 0x02) : ∃ t, exec .slosyAuthReq s = .next t ∧
    (s.dbg.lockEnd.isSome = true → SlosyAnswered t r 7 []) ∧ (s.dbg.lockEnd = none → ∃ bytes, SlosyAnswered t r 0 bytes) := by
  refine ⟨_, rfl, fun hLocked => ?_, fun hOpen => ?_⟩ <;> rw [slosyServe_named _ hReq hCmd, on_rd]
  · rw [if_pos hLocked]
    exact (slosyAnswer_spec 7 [] hReq rfl).1
  · rw [if_neg (by simp [hOpen]), on_draw, on_rd, on_seq_pair]
    exact ⟨_, (slosyAnswer_spec 0 _ (by rw [on_upd, applyAll_cons, applyAll_nil, Upd.dbg_dbg]; exact hReq) rfl).1⟩

/-- A lockout ends at its second, and not before. -/
theorem authLockoutExpiry_spec {e : Nat} (hLock : s.dbg.lockEnd = some e) (seconds : Nat) : ∃ t, exec (.authLockoutExpiry seconds) s = .next t ∧
    t.dbg.lockEnd = if e ≤ t.fget F.SAF_SECONDS_SECONDS 0 then none else some e := by
  obtain ⟨u, hu⟩ : ∃ u, u = Eff.on (secondsTo seconds) s := ⟨_, rfl⟩
  have hLocked : u.dbg.lockEnd = some e := by rw [hu, secondsTo_dbg, hLock]
  have hNext : exec (.authLockoutExpiry seconds) s = .next (Eff.on (when (decide (e ≤ u.fget F.SAF_SECONDS_SECONDS 0))
      (upd [.dbg { u.dbg with lockEnd := none }])) u) := by
    refine congrArg Host.Outcome.next ?_
    rw [on_seq_pair, ← hu, on_rd, hLocked]
  by_cases hOver : e ≤ u.fget F.SAF_SECONDS_SECONDS 0
  · rw [decide_eq_true hOver, on_when_true] at hNext
    exact ⟨_, hNext, (if_pos hOver).symm⟩
  · rw [decide_eq_false hOver, on_when_false] at hNext
    exact ⟨u, hNext, hLocked.trans (if_neg hOver).symm⟩

end

end Sys2Proof.Machine

namespace Sys2Proof.Proofs
open Sys2Proof.Machine

/-- Refutes O38: the answer to INFO holds six bytes of padding before its last field, which the statement leaves out (R480). -/
theorem not_slosySessionCommandsAct : ¬ Obligations.SlosySessionCommandsAct := by
  rintro ⟨-, hInfo, -⟩
  obtain ⟨t, hNext, -, hAnswered, -⟩ := hInfo infoAsked
  obtain ⟨hClaimed, -⟩ := hAnswered _ rfl rfl
  obtain ⟨hPacked, -⟩ := slosyInfo_answers rfl rfl hNext
  have hBytes := congrArg (fun resp => resp.map fun resp => resp.bytes.length) (hPacked.symm.trans hClaimed)
  simp only [Option.map_some, length_slosyInfo, length_slosyInfo_unpadded] at hBytes
  exact absurd hBytes (by decide)

/-- Settles O59: a grant record in form is refused or accepted as its checks say, and AUTH_REQ is answered as the lockout says. -/
theorem refusedGrantsLockOut : Obligations.RefusedGrantsLockOut := by
  refine ⟨fun v seconds r why s hReq hCmd hForm hWhy => ?_, fun v seconds r s hReq hCmd hForm hPass => ?_, fun r s hReq hCmd => ?_,
    fun seconds e s hLock => ?_⟩
  · obtain ⟨t, hNext, hRaised, hCount, hEnd⟩ := slosyAuthGrant_refuses seconds hReq hCmd hForm hWhy
    exact ⟨t, hNext, frame_execSlosyAuthGrant v seconds s hNext, hRaised, hCount, fun hThree => hEnd.trans (if_neg (by omega)),
      fun hFewer => hEnd.trans (if_pos hFewer)⟩
  · obtain ⟨t, hNext, hClear⟩ := slosyAuthGrant_accepts seconds hReq hCmd hForm hPass
    exact ⟨t, hNext, frame_execSlosyAuthGrant v seconds s hNext, hClear⟩
  · obtain ⟨t, hNext, hAnswers⟩ := slosyAuthReq_spec hReq hCmd
    exact ⟨t, hNext, frame_execSlosyAuthReq s hNext, hAnswers⟩
  · obtain ⟨t, hNext, hEnd⟩ := authLockoutExpiry_spec hLock seconds
    exact ⟨t, hNext, frame_execAuthLockoutExpiry seconds s hNext, hEnd⟩

end Sys2Proof.Proofs
end

section
/-! The sideband's attestation requests: the SPDM connection and its sessions (R647, R648). -/
namespace Sys2Proof.Machine

section
variable {s : State} {e : Eff}

/-- A completion code is an empty answer; keys and sessions stay as they are. -/
theorem code_spec (n : Nat) (s : State) : Answered (Eff.on (code n) s) n [] ∧ (Eff.on (code n) s).saf = s.saf := ⟨rfl, rfl⟩

/-! Requests that need a connection at a point. -/

theorem spdmAt_unserved {p : Nat} (h : s.mbServed = false) : Eff.on (spdmAt p e) s = s := on_unserved _ h

/-- Before its point of the connection a request is unexpected. -/
theorem spdmAt_early {p : Nat} (h : s.mbServed = true) (hEarly : s.saf.spdm < p) :
    Answered (Eff.on (spdmAt p e) s) 4 [] ∧ (Eff.on (spdmAt p e) s).saf = s.saf := by
  rw [spdmAt, on_served _ h, decide_eq_false (Nat.not_le.2 hEarly), on_either_false]
  exact code_spec 4 s

theorem spdmAt_reached {p : Nat} (h : s.mbServed = true) (hReached : p ≤ s.saf.spdm) : Eff.on (spdmAt p e) s = Eff.on e s := by
  rw [spdmAt, on_served _ h, decide_eq_true hReached, on_either_true]

/-! Requests within a completed session. -/

theorem inSession_unserved {id : Nat} (h : s.mbServed = false) : Eff.on (inSession id e) s = s := on_unserved _ h

theorem inSession_none {id : Nat} (h : s.mbServed = true) (hNone : s.isSecured (some id) = false) :
    Answered (Eff.on (inSession id e) s) 2 [] ∧ (Eff.on (inSession id e) s).saf = s.saf := by
  rw [inSession, on_served _ h, hNone, on_either_false]
  exact code_spec 2 s

theorem inSession_within {id : Nat} (h : s.mbServed = true) (hIn : s.isSecured (some id) = true) :
    Eff.on (inSession id e) s = Eff.on e s := by
  rw [inSession, on_served _ h, hIn, on_either_true]

/-- What a request that keeps a session alive does. -/
theorem inSession_code (id : Nat) (s : State) : (s.mbServed = false → Eff.on (inSession id (code 0)) s = s) ∧
    (s.mbServed = true → s.isSecured (some id) = false →
      Answered (Eff.on (inSession id (code 0)) s) 2 [] ∧ (Eff.on (inSession id (code 0)) s).saf = s.saf) ∧
    (s.mbServed = true → s.isSecured (some id) = true →
      Answered (Eff.on (inSession id (code 0)) s) 0 [] ∧ (Eff.on (inSession id (code 0)) s).saf = s.saf) :=
  ⟨inSession_unserved, inSession_none, fun h hIn => by rw [inSession_within h hIn]; exact code_spec 0 s⟩

end

/-! Certificates and challenges: slot 0 alone holds a chain (R647). -/

section
variable {certSlot : Fin 8} {s : State}

/-- A request for slot 0's chain is answered with a free value. -/
theorem slotZero_answers (bs : Nat → List Byte) (h : certSlot.val = 0) :
    Answered (Eff.on (either (certSlot.val == 0) (draw fun v => answer (bs v) false 0) (code 1)) s) 0 (bs (Config.freeNat s.freeCtr)) := by
  rw [h, beq_self_eq_true, on_either_true]
  exact (draw_answer bs s).1

theorem slotOther_refuses (e : Eff) (h : certSlot.val ≠ 0) : Answered (Eff.on (either (certSlot.val == 0) e (code 1)) s) 1 [] := by
  rw [beq_eq_false_iff_ne.2 h, on_either_false]
  exact (code_spec 1 s).1

end

/-! Measurements (R648). -/

/-- Drawing a value changes no block that is measured. -/
theorem measurement_drawn (n index free : Nat) (s : State) :
    ((Upd.freeCtr n).apply s).measurement index free = s.measurement index free := rfl

/-! The sessions of the connection (R647). -/

/-- A session whose handshake is open is secured once it is marked done. -/
theorem isSecured_done {s t : State} {id : Nat} (hOpen : s.saf.sessions.any (fun x => x.id == id && !x.done) = true)
    (ht : t.saf.sessions = s.saf.sessions.map (fun x => if x.id = id then { x with done := true } else x)) : t.isSecured (some id) = true := by
  obtain ⟨x, hx, hId⟩ := List.any_eq_true.1 hOpen
  rw [Bool.and_eq_true, beq_iff_eq] at hId
  rw [State.isSecured, ht]
  exact List.any_eq_true.2 ⟨_, List.mem_map_of_mem hx, by simp [hId.1]⟩

/-- A session that was removed is not secured. -/
theorem isSecured_removed {s t : State} {id : Nat} (ht : t.saf.sessions = s.saf.sessions.filter (fun x => x.id != id)) :
    t.isSecured (some id) = false := by
  simp only [State.isSecured, ht, List.any_filter, List.any_eq_false, Bool.and_eq_true, bne_iff_ne, beq_iff_eq]
  exact fun x _ h => h.1 h.2.1

end Sys2Proof.Machine

namespace Sys2Proof.Proofs
open Sys2Proof.Machine

/-- Settles O37: a request acts where its point of the connection, or its session, has been reached, and is refused where it has not. -/
theorem sidebandAttestationCommandsAct : Obligations.SidebandAttestationCommandsAct := by
  refine ⟨fun s => ?version, fun s => ?capabilities, fun supported s => ?algorithms, fun s => ?digests, fun certSlot length s => ?certificate,
    fun certSlot s => ?challenge, fun index s => ?measurements, fun id s => ?keyExchange, fun id verified s => ?finish, fun id s => ?heartbeat,
    fun id s => ?keyUpdate, fun id s => ?endSession⟩
  case version =>
    refine ⟨_, rfl, frame_execSpdmGetVersion s rfl, fun h => on_unserved _ h, fun h => ?_⟩
    rw [on_served _ h, on_seq_pair]
    exact ⟨rfl, rfl, rfl⟩
  case capabilities =>
    refine ⟨_, rfl, frame_execSpdmGetCapabilities s rfl, spdmAt_unserved, spdmAt_early, fun h hAt hOne => ?_, fun h hAt hPast => ?_⟩ <;>
      rw [spdmAt_reached h hAt, on_rd]
    · rw [hOne, beq_self_eq_true, on_either_true, on_seq_pair]
      exact ⟨rfl, rfl⟩
    · rw [beq_eq_false_iff_ne.2 hPast, on_either_false]
      exact code_spec 4 s
  case algorithms =>
    refine ⟨_, rfl, frame_execSpdmNegotiateAlgorithms supported s rfl, spdmAt_unserved, spdmAt_early, fun h hAt hPast => ?_,
      fun h hAt hTwo hNone => ?_, fun h hAt hTwo hAll => ?_⟩ <;> rw [spdmAt_reached h hAt, on_rd]
    · rw [if_pos hPast]
      exact code_spec 4 s
    · rw [if_neg (not_not.2 hTwo), hNone, on_either_false]
      exact code_spec 1 s
    · rw [if_neg (not_not.2 hTwo), hAll, on_either_true, on_seq_pair]
      exact ⟨rfl, rfl⟩
  case digests =>
    refine ⟨_, rfl, frame_execSpdmGetDigests s rfl, spdmAt_unserved, spdmAt_early, fun h hAt => ?_⟩
    rw [spdmAt_reached h hAt]
    exact (draw_answer (fun v => natLe 1 1 ++ natLe 48 v) s).1
  case certificate =>
    refine ⟨_, rfl, frame_execSpdmGetCertificate certSlot length s rfl, spdmAt_unserved, spdmAt_early, fun h hAt hZero => ?_,
      fun h hAt hOther => ?_⟩ <;> rw [spdmAt_reached h hAt]
    · exact slotZero_answers (natLe length.toNat) hZero
    · exact slotOther_refuses _ hOther
  case challenge =>
    refine ⟨_, rfl, frame_execSpdmChallenge certSlot s rfl, spdmAt_unserved, spdmAt_early, fun h hAt hZero => ?_,
      fun h hAt hOther => ?_⟩ <;> rw [spdmAt_reached h hAt]
    · exact slotZero_answers (natLe 96) hZero
    · exact slotOther_refuses _ hOther
  case measurements =>
    refine ⟨_, rfl, frame_execSpdmGetMeasurements index s rfl, spdmAt_unserved, spdmAt_early, fun h hAt hZero => ?_,
      fun h hAt hOther hNone => ?_, fun h hAt b hOther hSome => ?_⟩ <;> rw [spdmAt_reached h hAt, on_draw, on_rd]
    · rw [if_pos hZero]
      rfl
    · rw [if_neg hOther, measurement_drawn, hNone]
      exact (code_spec 1 _).1
    · rw [if_neg hOther, measurement_drawn, hSome]
      exact (draw_answer (fun g => b ++ natLe 96 g) _).1
  case keyExchange =>
    refine ⟨_, rfl, frame_execSpdmKeyExchange id s rfl, spdmAt_unserved, spdmAt_early, fun h hAt hFull => ?_, fun h hAt hRoom hTaken => ?_,
      fun h hAt hRoom hNew => ?_⟩ <;> rw [spdmAt_reached h hAt, on_rd]
    · rw [if_pos hFull]
      exact code_spec 0x0A s
    · rw [if_neg (Nat.not_le.2 hRoom), if_pos hTaken]
      exact code_spec 1 s
    · rw [if_neg (Nat.not_le.2 hRoom), if_neg (Bool.not_eq_true _ ▸ hNew), on_seq_pair]
      exact ⟨rfl, (draw_answer (natLe 96) _).1⟩
  case finish =>
    refine ⟨_, rfl, frame_execSpdmFinish id verified s rfl, spdmAt_unserved, spdmAt_early, fun h hAt hNone => ?_, fun h hAt hOpen hGood => ?_,
      fun h hAt hOpen hBad => ?_⟩ <;> (rw [spdmAt_reached h hAt, on_rd]; dsimp only)
    · rw [hNone]
      exact code_spec 2 s
    · rw [hOpen, hGood]
      exact ⟨rfl, isSecured_done hOpen rfl⟩
    · rw [hOpen, hBad]
      exact ⟨rfl, isSecured_removed (s := s) rfl⟩
  case heartbeat => exact ⟨_, rfl, frame_execSpdmHeartbeat id s rfl, inSession_code id.toNat s⟩
  case keyUpdate => exact ⟨_, rfl, frame_execSpdmKeyUpdate id s rfl, inSession_code id.toNat s⟩
  case endSession =>
    refine ⟨_, rfl, frame_execSpdmEndSession id s rfl, inSession_unserved, inSession_none, fun h hIn => ?_⟩
    rw [inSession_within h hIn, on_rd, on_seq_pair]
    exact ⟨rfl, isSecured_removed (s := s) rfl⟩

end Sys2Proof.Proofs
end

section
/-! Core power domains: the state that a domain enters, and what each request does in each state (R551 to R554, R569). -/
namespace Sys2Proof.Machine

/-! The states of a row (R571). -/

/-- Bits that a field holds are those of the number stored in it. -/
theorem bitsOf_mod (v : Nat) {lo len n : Nat} (h : lo + len ≤ n) : bitsOf (v % 2 ^ n) lo len = bitsOf v lo len := by
  refine Nat.eq_of_testBit_eq fun b => ?_
  rw [testBit_bitsOf, testBit_bitsOf, Nat.testBit_mod_two_pow]
  by_cases hb : b < len
  · rw [decide_eq_true hb, decide_eq_true (show lo + b < n by omega), Bool.true_and, Bool.true_and]
  · rw [decide_eq_false hb, Bool.false_and, Bool.false_and]

/-- A row with one state changed holds that state. -/
theorem bitsOf_rowPut (row col v : Nat) : bitsOf (rowPut row col v) (3 * col) 3 = v % 8 := by
  obtain ⟨B, hB⟩ : ∃ B, B = 2 ^ (3 * col) := ⟨_, rfl⟩
  have hPos : 0 < B := hB ▸ Nat.two_pow_pos _
  have hEight : 8 ^ col = B := by rw [hB, pow_mul]; rfl
  obtain ⟨e, he⟩ : ∃ e, row / B = row / B % 8 + 8 * e := ⟨row / B / 8, (Nat.mod_add_div _ 8).symm⟩
  have hRow : row = row % B + B * (row / B % 8 + 8 * e) := by rw [← he, Nat.mod_add_div]
  have hPut : rowPut row col v = row % B + B * (8 * e + v % 8) := by
    rw [rowPut, bitsOf, hEight, ← hB, Nat.mul_comm _ B, Nat.mul_comm _ B]
    rw [Nat.mul_add] at hRow ⊢
    change row - B * (row / B % 8) + _ = _
    omega
  rw [hPut, bitsOf, ← hB, Nat.add_mul_div_left _ _ hPos, Nat.div_eq_of_lt (Nat.mod_lt _ hPos)]
  omega

/-- A domain's state is the one that it enters (R571). -/
theorem domain_domainSet (p v : Nat) (s : State) : (Eff.on (domainSet p v) s).domain p = v % 8 := by
  have hCol : 3 * (p % 16) + 3 ≤ F.PST_CORE_PWR_r_STATE.len := by
    have hLen : F.PST_CORE_PWR_r_STATE.len = 48 := rfl
    omega
  rw [State.domain, domainSet, on_rd, on_seq_pair, (only_rampCount (List.Subset.refl _)).fget (by decide) (by decide) (by decide), on_fset,
    Upd.fget_fld_same (by decide), bitsOf_mod _ hCol, bitsOf_rowPut]

theorem domain_lt (s : State) (p : Nat) : s.domain p < 8 := bitsOf_lt _ _ _

theorem domainSet_pst (p v : Nat) (s : State) : (Eff.on (domainSet p v) s).pst = s.pst :=
  (only_domainSet (List.Subset.refl _) p v).frame_pst (by decide) s

theorem domainSet_power (p v : Nat) (s : State) : (Eff.on (domainSet p v) s).power = s.power :=
  (only_domainSet (List.Subset.refl _) p v).frame_power (by decide) s

/-- The counts of the domains leave the count of pending on-requests alone. -/
theorem keeps_domainSet_pendingOns (p v : Nat) : (domainSet p v).Keeps fun s => s.fget F.PST_RAMP_PENDING_ONS 0 :=
  keeps_rd fun _ => keeps_seq₂ (keeps_fset_other (by decide) _ _ _)
    (keeps_rd fun _ => keeps_seq₂ (keeps_fset_other (by decide) _ _ _) (keeps_fset_other (by decide) _ _ _))

/-- A change of the bookkeeping is all that an update of it does. -/
theorem pst_same (x : PstSt) (s : State) : SameBut [.pst] s (Eff.on (upd [.pst x]) s) :=
  (only_upd (ps := [.pst]) (by simp [Upd.part])).same s

/-! On-requests (R551, R554). -/

section
variable {p : Nat} {s t : State}

/-- An on-request queues a domain that is off, its arrays kept or not. -/
theorem domainOn_off (h : s.domain p = 0 ∨ s.domain p = 6) (ht : t = Eff.on (domainOn p) s) :
    t.domain p = 1 ∧ t.pst.queue = s.pst.queue ++ [p] := by
  have hQueue : t = Eff.on (domainSet p 1) ((Upd.pst { s.pst with queue := s.pst.queue ++ [p] }).apply s) := by
    rw [ht, domainOn, on_rd]
    rcases h with h | h <;> rw [h] <;> exact on_seq_pair ..
  rw [hQueue]
  exact ⟨domain_domainSet p 1 _, by rw [domainSet_pst, Upd.pst_pst]⟩

/-- An on-request of a domain that shuts down waits, counted. -/
theorem domainOn_shutting (h : s.domain p = 4) (ht : t = Eff.on (domainOn p) s) : t.domain p = 5 ∧ t.pst = s.pst ∧
    t.fget F.PST_RAMP_PENDING_ONS 0 = min (s.fget F.PST_RAMP_PENDING_ONS 0 + 1) (2 ^ F.PST_RAMP_PENDING_ONS.len - 1) := by
  have hCount : t = Eff.on (fsat F.PST_RAMP_PENDING_ONS 0 1) (Eff.on (domainSet p 5) s) := by
    rw [ht, domainOn, on_rd, h]
    exact on_seq_pair ..
  have hKeep : (Eff.on (domainSet p 5) s).fget F.PST_RAMP_PENDING_ONS 0 = s.fget F.PST_RAMP_PENDING_ONS 0 := keeps_domainSet_pendingOns p 5 s
  rw [hCount, fget_fsat (by decide), on_fsat, Upd.fld_pst, domainSet_pst, hKeep]
  refine ⟨?_, rfl, rfl⟩
  rw [State.domain, Upd.fget_fld_other (by decide)]
  exact domain_domainSet p 5 s

/-- An on-request withdraws the off-request held for a domain that ramps. -/
theorem domainOn_ramping (h : s.domain p = 2) (ht : t = Eff.on (domainOn p) s) : NSet.mem t.pst.offHeld p = false ∧ SameBut [.pst] s t := by
  rw [domainOn, on_rd, h] at ht
  subst ht
  exact ⟨NSet.mem_del_same _ p, pst_same _ s⟩

/-- A domain that is on, or about to be, leaves an on-request without effect. -/
theorem domainOn_idle (h : s.domain p = 1 ∨ s.domain p = 3 ∨ s.domain p = 5 ∨ s.domain p = 7) : Eff.on (domainOn p) s = s := by
  rw [domainOn, on_rd]
  rcases h with h | h | h | h <;> rw [h] <;> rfl

/-! Off-requests (R551). -/

/-- An off-request takes a queued domain out of the queue, to where it rests. -/
theorem domainOff_queued (h : s.domain p = 1) (ht : t = Eff.on (domainOff p) s) :
    t.domain p = (if NSet.mem s.pst.retained p = true then 6 else 0) ∧ p ∉ t.pst.queue := by
  have hLeft : t = Eff.on (domainSet p (s.restOf p)) ((Upd.pst { s.pst with queue := s.pst.queue.filter (fun q => q != p) }).apply s) := by
    rw [ht, domainOff, on_rd, h]
    exact on_seq_pair ..
  rw [hLeft, domain_domainSet, domainSet_pst, State.restOf, Upd.pst_pst]
  exact ⟨by split <;> rfl, by simp⟩

/-- An off-request of a domain that ramps is held. -/
theorem domainOff_ramping (h : s.domain p = 2) (ht : t = Eff.on (domainOff p) s) : NSet.mem t.pst.offHeld p = true ∧ SameBut [.pst] s t := by
  rw [domainOff, on_rd, h] at ht
  subst ht
  exact ⟨NSet.mem_add_same _ p, pst_same _ s⟩

/-- An off-request shuts a domain down that is on. -/
theorem domainOff_on (h : s.domain p = 3) (ht : t = Eff.on (domainOff p) s) : t.domain p = 4 ∧ t.pst = s.pst := by
  rw [domainOff, on_rd, h] at ht
  subst ht
  exact ⟨domain_domainSet p 4 s, domainSet_pst p 4 s⟩

/-- A domain that is off, or shuts down, leaves an off-request without effect. -/
theorem domainOff_idle (h : s.domain p = 0 ∨ 3 < s.domain p) : Eff.on (domainOff p) s = s := by
  have hLt := domain_lt s p
  have hStates : s.domain p = 0 ∨ s.domain p = 4 ∨ s.domain p = 5 ∨ s.domain p = 6 ∨ s.domain p = 7 := by omega
  rw [domainOff, on_rd]
  rcases hStates with h | h | h | h | h <;> rw [h] <;> rfl

end

/-! The end of a ramp (R552). -/

/-- What the end of a ramp that the buckets carry does to a domain in a state whose power has been debited. -/
def rampEnds (p : Nat) : Eff := seq [domainSet p 3, rd fun s => either (NSet.mem s.pst.offHeld p)
  (seq [upd [.pst { s.pst with offHeld := NSet.del s.pst.offHeld p }], domainSet p 4])
  (upd [.pst { s.pst with retained := NSet.del s.pst.retained p }])]

/-- A ramp ends ON, or where an off-request is held, which is then over, in a shutdown. -/
theorem rampEnds_spec (p : Nat) {s t : State} (ht : t = Eff.on (rampEnds p) s) :
    t.domain p = (if NSet.mem s.pst.offHeld p = true then 4 else 3) ∧ NSet.mem t.pst.offHeld p = false ∧ t.power = s.power := by
  rw [rampEnds, on_seq_pair, on_rd, domainSet_pst] at ht
  subst ht
  cases hHeld : NSet.mem s.pst.offHeld p with
  | true =>
    rw [on_either_true, on_seq_pair, domain_domainSet, domainSet_pst, domainSet_power]
    exact ⟨rfl, NSet.mem_del_same _ p, domainSet_power p 3 s⟩
  | false =>
    rw [on_either_false]
    exact ⟨domain_domainSet p 3 s, hHeld, domainSet_power p 3 s⟩

section
variable {c : CoreId} {tc : Nat} {s t : State}

/-- The ramp of a domain that the buckets carry ends, and takes its 32 A from them. -/
theorem rampDone_carried (h : s.domain c.val = 2) (hFirst : ((s.power.refill (s.clockAt tc)).first (clusterOf c.val)).isNone = true)
    (hHolds : (s.power.refill (s.clockAt tc)).holds (clusterOf c.val) 32000 = true) (hNext : exec (.coreDomainRampDone c tc) s = .next t) :
    t.domain c.val = (if NSet.mem s.pst.offHeld c.val = true then 4 else 3) ∧ NSet.mem t.pst.offHeld c.val = false ∧
      t.power = (s.power.refill (s.clockAt tc)).debit (clusterOf c.val) 32000 := by
  obtain ⟨u, hu⟩ : ∃ u, u = s.movedOn tc := ⟨_, rfl⟩
  have hDomain : u.domain c.val = 2 := by rw [hu, ← h, State.domain, s.movedOn_fget tc (by decide), State.domain]
  have hPower : u.power.refill u.tc = s.power.refill (s.clockAt tc) := by rw [hu, s.movedOn_tc]; rfl
  have hPst : u.pst = s.pst := by rw [hu]; rfl
  rw [exec_coreDomainRampDone, execCoreDomainRampDone, run_eq, on_timed, ← hu] at hNext
  dsimp only at hNext
  rw [hPower, hDomain, hFirst, hHolds] at hNext
  cases hNext
  rw [← hPst]
  exact rampEnds_spec c.val (s := (Upd.power ((s.power.refill (s.clockAt tc)).debit (clusterOf c.val) 32000)).apply u) rfl

/-- Outside RAMPING the end of a ramp only moves the time on. -/
theorem rampDone_idle (h : s.domain c.val ≠ 2) (hNext : exec (.coreDomainRampDone c tc) s = .next t) : SameBut [.fld .TC_NOW] s t := by
  have hDomain : ((s.movedOn tc).domain c.val == 2) = false := by
    rw [State.domain, s.movedOn_fget tc (by decide)]
    exact beq_eq_false_iff_ne.2 h
  rw [exec_coreDomainRampDone, execCoreDomainRampDone, run_eq, on_timed] at hNext
  dsimp only at hNext
  rw [hDomain, Bool.false_and, Bool.false_and, on_when_false] at hNext
  cases hNext
  exact s.movedOn_same tc

end

/-! Grants and ends of shutdowns (R551, R553, R554). -/

section
variable {s t : State}

theorem coreDomainGrant_none (h : s.nextGrant = none) (hNext : exec .coreDomainGrant s = .next t) : t = s := by
  rw [exec_coreDomainGrant, execCoreDomainGrant, run_eq, on_rd, h] at hNext
  cases hNext
  rfl

/-- A grant takes its domain from the queue into RAMPING. -/
theorem coreDomainGrant_some {p : Nat} (h : s.nextGrant = some p) (hNext : exec .coreDomainGrant s = .next t) :
    t.domain p = 2 ∧ t.pst.queue = s.pst.queue.filter (fun q => q != p) := by
  rw [exec_coreDomainGrant, execCoreDomainGrant, run_eq, on_rd, h] at hNext
  dsimp only at hNext
  rw [on_seq_pair] at hNext
  cases hNext
  exact ⟨domain_domainSet p 2 _, by rw [domainSet_pst]; rfl⟩

/-- The end of a shutdown queues a domain with a pending on-request. -/
theorem shutdownDone_pending {c : CoreId} (h : s.domain c.val = 5) (hNext : exec (.coreDomainShutdownDone c) s = .next t) :
    t.domain c.val = 1 ∧ t.pst.queue = s.pst.queue ++ [c.val] := by
  rw [exec_coreDomainShutdownDone, execCoreDomainShutdownDone, run_eq, on_rd] at hNext
  dsimp only at hNext
  rw [h, show (5 == 4 || 5 == 5) = true from rfl, on_when_true, on_seq_pair] at hNext
  cases hNext
  exact ⟨domain_domainSet c.val 1 _, by rw [domainSet_pst]; rfl⟩

/-- The end of a shutdown leaves the domain where it rests: RETAINED while the module enters NAP, OFF_SAFE otherwise. -/
theorem shutdownDone_rests {c : CoreId} (h : s.domain c.val = 4) (hNext : exec (.coreDomainShutdownDone c) s = .next t) :
    t.domain c.val = (if s.fget F.PST_STAT_PHASE 0 = 1 ∧ s.fget F.PST_STAT_TARGET 0 = 2 then 6 else 0) ∧ t.pst.queue = s.pst.queue := by
  rw [exec_coreDomainShutdownDone, execCoreDomainShutdownDone, run_eq, on_rd] at hNext
  dsimp only at hNext
  rw [h, show (4 == 4 || 4 == 5) = true from rfl, on_when_true, on_seq_pair] at hNext
  cases hNext
  rw [domain_domainSet, domainSet_pst, if_neg (by decide : ¬4 = 5)]
  simp only [Bool.and_eq_true, beq_iff_eq]
  exact ⟨by split <;> rfl, rfl⟩

theorem shutdownDone_idle {c : CoreId} (hShut : s.domain c.val ≠ 4) (hPending : s.domain c.val ≠ 5)
    (hNext : exec (.coreDomainShutdownDone c) s = .next t) : t = s := by
  rw [exec_coreDomainShutdownDone, execCoreDomainShutdownDone, run_eq, on_rd] at hNext
  dsimp only at hNext
  rw [beq_eq_false_iff_ne.2 hShut, beq_eq_false_iff_ne.2 hPending, Bool.false_or, on_when_false] at hNext
  cases hNext
  rfl

end

end Sys2Proof.Machine

namespace Sys2Proof.Proofs
open Sys2Proof.Machine

/-- Settles O7: each command acts as the domain's state says, and the state that a domain enters is the one it then shows. -/
theorem coreDomainCommandsAct : Obligations.CoreDomainCommandsAct := by
  refine ⟨fun c s => ?onRequest, fun c s => ?offRequest, fun s => ?grant, fun c tc s => ?rampDone, fun c s => ?shutdownDone⟩
  case onRequest =>
    exact ⟨_, rfl, frame_execCoreDomainOnRequest c s rfl, fun h => domainOn_off h rfl, fun h => domainOn_shutting h rfl,
      fun h => domainOn_ramping h rfl, domainOn_idle⟩
  case offRequest =>
    exact ⟨_, rfl, frame_execCoreDomainOffRequest c s rfl, fun h => domainOff_queued h rfl, fun h => domainOff_ramping h rfl,
      fun h => domainOff_on h rfl, domainOff_idle⟩
  case grant =>
    exact ⟨_, rfl, frame_execCoreDomainGrant s rfl, fun h => coreDomainGrant_none h rfl, fun p _ h => coreDomainGrant_some h rfl⟩
  case rampDone =>
    exact ⟨_, rfl, frame_execCoreDomainRampDone c tc s rfl, takesTime_coreDomainRampDone c tc s _ rfl,
      fun h hFirst hHolds => rampDone_carried h hFirst hHolds rfl, fun h => rampDone_idle h rfl⟩
  case shutdownDone =>
    exact ⟨_, rfl, frame_execCoreDomainShutdownDone c s rfl, fun h => shutdownDone_pending h rfl, fun h => shutdownDone_rests h rfl,
      fun hShut hPending => shutdownDone_idle hShut hPending rfl⟩

end Sys2Proof.Proofs
end

section
/-! The reference clock, the test access port and the life count (R701, R703, R709, R710). -/
namespace Sys2Proof.Machine

/-! The reference clock (R701). -/

section
variable {tc a : Nat} {s t : State}

/-- The first loss of the reference is noted with its time and told. -/
theorem refclkLost_first (h : s.svc.refLost = none) (hNext : exec (.refclkLost tc) s = .next t) :
    t.svc = { s.svc with refLost := some (s.clockAt tc) } ∧ Raised s t 0x0B09 0 := by
  rw [exec_refclkLost, execRefclkLost, run_eq, on_timed, s.movedOn_svc, h, s.movedOn_tc, Option.isNone_none, on_when_true, on_seq_pair] at hNext
  cases hNext
  exact ⟨rfl, raised_raise _ _ _ _ rfl⟩

/-- A loss that was noted only moves the time on. -/
theorem refclkLost_again (h : s.svc.refLost = some a) (hNext : exec (.refclkLost tc) s = .next t) : SameBut [.fld .TC_NOW] s t := by
  rw [exec_refclkLost, execRefclkLost, run_eq, on_timed, s.movedOn_svc, h, Option.isNone_some, on_when_false] at hNext
  cases hNext
  exact s.movedOn_same tc

/-- A second after the loss the backup takes over. -/
theorem refclkBackupSwitch_due (h : s.svc.refLost = some a) (hDue : a + 1000000000 ≤ s.clockAt tc)
    (hNext : exec (.refclkBackupSwitch tc) s = .next t) : t.svc = { s.svc with backup := true } := by
  rw [exec_refclkBackupSwitch, execRefclkBackupSwitch, run_eq, on_timed, s.movedOn_svc, h, s.movedOn_tc] at hNext
  dsimp only at hNext
  rw [decide_eq_true hDue, on_when_true] at hNext
  cases hNext
  rfl

theorem refclkBackupSwitch_idle (h : s.svc.refLost = none) (hNext : exec (.refclkBackupSwitch tc) s = .next t) :
    SameBut [.fld .TC_NOW] s t := by
  rw [exec_refclkBackupSwitch, execRefclkBackupSwitch, run_eq, on_timed, s.movedOn_svc, h] at hNext
  cases hNext
  exact s.movedOn_same tc

/-- The reference's return ends the loss and the backup's turn, and is told. -/
theorem refclkRestored_lost (h : s.svc.refLost = some a) (hNext : exec (.refclkRestored tc) s = .next t) :
    t.svc = { s.svc with refLost := none, backup := false } ∧ Raised s t 0x0B09 0 := by
  rw [exec_refclkRestored, execRefclkRestored, run_eq, on_timed, s.movedOn_svc, h, Option.isSome_some, on_when_true, on_seq_pair] at hNext
  cases hNext
  exact ⟨rfl, raised_raise _ _ _ _ rfl⟩

theorem refclkRestored_idle (h : s.svc.refLost = none) (hNext : exec (.refclkRestored tc) s = .next t) : SameBut [.fld .TC_NOW] s t := by
  rw [exec_refclkRestored, execRefclkRestored, run_eq, on_timed, s.movedOn_svc, h, Option.isSome_none, on_when_false] at hNext
  cases hNext
  exact s.movedOn_same tc

end

/-! The test access port (R703). -/

section
variable {ir : TapIr} {env : BootEnv} {tc : Nat} {s t : State}

/-- Unless it leaves EXTEST, an instruction only enters the instruction register. -/
theorem on_tapLoad_stays (h : s.svc.tap ≠ .extest ∨ ir = .extest) :
    Eff.on (tapLoad ir env tc) s = Eff.on (upd [.svc { s.svc with tap := ir }]) s := by
  have hStays : (s.svc.tap == .extest && ir != .extest) = false := by
    rcases h with h | rfl
    · rw [beq_eq_false_iff_ne.2 h, Bool.false_and]
    · simp
  rw [tapLoad, on_rd, hStays, on_seq_pair, on_when_false]

/-- A module reset leaves the instruction in the instruction register. -/
theorem clearAll_tap (keep : List Nat) (s : State) : (Eff.on (clearAll keep) s).svc.tap = s.svc.tap := rfl

/-- An instruction that leaves EXTEST starts a module reset, whose cause is RESET_N. -/
theorem tapLoad_leaves (h : s.svc.tap = .extest) (hOut : ir ≠ .extest) (ht : t = Eff.on (tapLoad ir env tc) s) :
    t.svc.tap = ir ∧ t.fget F.MOD_RESET_STAT_LAST 0 = 1 := by
  have hLeaves : (s.svc.tap == .extest && ir != .extest) = true := by simp [h, hOut]
  have hBoot := only_bootFull (List.Subset.refl _) env
  have hBack := only_lifecycleBack (List.Subset.refl _)
  rw [tapLoad, on_rd, hLeaves, on_seq_pair, on_when_true, on_seq_cons, on_seq_cons, on_seq_cons, on_seq_pair] at ht
  subst ht
  constructor
  · rw [hBoot.frame_svc (by decide), on_fset, Upd.fld_svc, hBack.frame_svc (by decide), clearAll_tap, on_tcTo, Upd.fld_svc]
    rfl
  · rw [hBoot.fget (by decide) (by decide) (by decide), on_fset, Upd.fget_fld_same (by decide)]
    rfl

/-- The instruction and the cells are the port's own; what is shifted out is the response. -/
theorem tapShift_same (x : SvcSt) (bs : List Byte) (s : State) :
    SameBut [.svc, .resp] s (Eff.on (answer bs false 0) (Eff.on (upd [.svc x]) s)) := by
  have hOnly : Eff.Only [.svc, .resp] (seq [upd [.svc x], answer bs false 0]) :=
    only_seq₂ (only_upd (by simp [Upd.part])) (only_answer (by decide) _ _ _)
  exact on_seq_pair _ _ s ▸ hOnly.same s

/-- EXTEST, from another instruction, holds the module in a compute-only reset (R703). -/
theorem tapExtest_enters (h : s.svc.tap ≠ .extest) (hNext : exec (.tapExtest env tc) s = .next t) :
    t.tc = s.clockAt tc ∧ t.svc.tap = .extest ∧ t.fget F.MOD_RESET_STAT_IN_PROGRESS 0 = 1 := by
  have hEnters : (s.svc.tap != .extest) = true := by simp [h]
  have hStop := only_computeStop (List.Subset.refl _)
  have hStage (b : Bool) : Eff.Only [.fld .MOD_BOOT_STAT] (when b (fset F.MOD_BOOT_STAT_STAGE 0 9)) :=
    only_when fun _ => only_fset (by decide) _ _
  rw [exec_tapExtest, execTapExtest, run_eq, on_rd, on_seq_pair, hEnters, on_when_true, on_seq_cons, on_seq_cons, on_seq_pair,
    on_tapLoad_stays (.inl h)] at hNext
  cases hNext
  refine ⟨?_, ?_, ?_⟩
  · rw [State.tc, hStop.fget (by decide) (by decide) (by decide), (hStage _).fget (by decide) (by decide) (by decide), on_fset,
      Upd.fget_fld_other (by decide)]
    exact tc_tcTo tc _
  · rw [hStop.frame_svc (by decide), (hStage _).frame_svc (by decide)]
    rfl
  · rw [hStop.fget (by decide) (by decide) (by decide), (hStage _).fget (by decide) (by decide) (by decide), on_fset,
      Upd.fget_fld_same (by decide)]
    rfl

theorem tapExtest_again (h : s.svc.tap = .extest) (hNext : exec (.tapExtest env tc) s = .next t) : t = s := by
  have hStays : (s.svc.tap != .extest) = false := by simp [h]
  rw [exec_tapExtest, execTapExtest, run_eq, on_rd, on_seq_pair, hStays, on_when_false, on_tapLoad_stays (.inr rfl), ← h] at hNext
  cases hNext
  rfl

end

/-! The life count (R709, R710). -/

/-- The warning of the design life, told once. -/
def lifeWarning : Eff := rd fun s =>
  when (decide (s.fget F.MOD_LIFE_EQ_HOURS 0 ≥ 87600) && !s.svc.lifeWarned)
    (seq [upd [.svc { s.svc with lifeWarned := true }], draw fun v => raise 0x0A08 0 nobody [(1, 9), (4, v), (4, s.fget F.MOD_LIFE_EQ_HOURS 0)]])

theorem only_lifeWarning : lifeWarning.Only [.ev, .freeCtr, .svc] :=
  only_rd fun _ => only_when fun _ => only_seq₂ (only_upd (by simp [Upd.part])) (only_draw (by decide) fun _ => only_raise (by decide) _ _ _ _)

theorem keeps_lifeWarning_frac : lifeWarning.Keeps fun s => s.svc.lifeFrac := by
  intro s
  rw [lifeWarning, on_rd]
  cases decide (s.fget F.MOD_LIFE_EQ_HOURS 0 ≥ 87600) && !s.svc.lifeWarned
  · rfl
  · rw [on_when_true, on_seq_pair, on_draw]
    rfl

/-- An hour of operation is added to POWER_HOURS, and its equivalent, with the fraction carried, to EQ_HOURS. -/
theorem lifeHour_spec (tj10 : Int) (fast : Bool) {tc : Nat} {s t : State} (hNext : exec (.lifeHour tj10 fast tc) s = .next t) :
    t.fget F.MOD_LIFE_POWER_HOURS 0 = min (s.fget F.MOD_LIFE_POWER_HOURS 0 + 1) (2 ^ F.MOD_LIFE_POWER_HOURS.len - 1) ∧
    t.fget F.MOD_LIFE_EQ_HOURS 0 =
      min (s.fget F.MOD_LIFE_EQ_HOURS 0 + (s.svc.lifeFrac + lifeHour tj10 fast) / 2 ^ 32) (2 ^ F.MOD_LIFE_EQ_HOURS.len - 1) ∧
    t.svc.lifeFrac = (s.svc.lifeFrac + lifeHour tj10 fast) % 2 ^ 32 := by
  have hEff : t = Eff.on lifeWarning (Eff.on (fsat F.MOD_LIFE_POWER_HOURS 0 1)
      (Eff.on (fsat F.MOD_LIFE_EQ_HOURS 0 ((s.svc.lifeFrac + lifeHour tj10 fast) / 2 ^ 32))
        ((Upd.svc { s.svc with lifeFrac := (s.svc.lifeFrac + lifeHour tj10 fast) % 2 ^ 32 }).apply (s.movedOn tc)))) := by
    rw [exec_lifeHour, execLifeHour, run_eq, on_timed, s.movedOn_svc] at hNext
    dsimp only at hNext
    rw [on_seq_cons, on_seq_cons, on_seq_pair] at hNext
    cases hNext
    rfl
  have hFrac := keeps_lifeWarning_frac (Eff.on (fsat F.MOD_LIFE_POWER_HOURS 0 1)
      (Eff.on (fsat F.MOD_LIFE_EQ_HOURS 0 ((s.svc.lifeFrac + lifeHour tj10 fast) / 2 ^ 32))
        ((Upd.svc { s.svc with lifeFrac := (s.svc.lifeFrac + lifeHour tj10 fast) % 2 ^ 32 }).apply (s.movedOn tc))))
  subst hEff
  refine ⟨?_, ?_, hFrac⟩
  · rw [only_lifeWarning.fget (by decide) (by decide) (by decide), fget_fsat (by decide), on_fsat, Upd.fget_fld_other (by decide),
      Upd.svc_fget, s.movedOn_fget tc (by decide)]
  · rw [only_lifeWarning.fget (by decide) (by decide) (by decide), on_fsat, Upd.fget_fld_other (by decide), fget_fsat (by decide),
      Upd.svc_fget, s.movedOn_fget tc (by decide)]

end Sys2Proof.Machine

namespace Sys2Proof.Proofs
open Sys2Proof.Machine

/-- Settles O5: the reference acts on its loss, an instruction on whether it leaves EXTEST, and an hour on the counts as it finds them. -/
theorem referenceTapAndLifeCommandsAct : Obligations.ReferenceTapAndLifeCommandsAct := by
  refine ⟨fun tc s => ?lost, fun tc s => ?backup, fun tc s => ?restored, fun env tc s => ?bypass, fun env tc s => ?idcode,
    fun pins preload env tc s => ?sample, fun env tc s => ?extest, fun tj10 fast tc s => ?lifeHour⟩
  case lost =>
    have hTime := takesTime_refclkLost tc s _ rfl
    exact ⟨_, rfl, frame_execRefclkLost tc s rfl, hTime, fun h => hTime ▸ refclkLost_first h rfl, fun a h => refclkLost_again h rfl⟩
  case backup =>
    exact ⟨_, rfl, frame_execRefclkBackupSwitch tc s rfl, takesTime_refclkBackupSwitch tc s _ rfl, fun a h hDue => refclkBackupSwitch_due h hDue rfl,
      fun h => refclkBackupSwitch_idle h rfl⟩
  case restored =>
    exact ⟨_, rfl, frame_execRefclkRestored tc s rfl, takesTime_refclkRestored tc s _ rfl, fun a h => refclkRestored_lost h rfl,
      fun h => refclkRestored_idle h rfl⟩
  case bypass =>
    exact ⟨_, rfl, frame_execTapBypass env tc s rfl, fun h => on_tapLoad_stays (.inl h), fun h => tapLoad_leaves h (by decide) rfl⟩
  case idcode =>
    refine ⟨_, rfl, frame_execTapIdcode env tc s rfl, fun h => ?_, ?_⟩ <;> rw [on_seq_pair]
    · rw [on_tapLoad_stays (.inl h)]
      exact ⟨rfl, tapShift_same _ _ s⟩
    · rfl
  case sample =>
    refine ⟨_, rfl, frame_execTapSamplePreload pins preload env tc s rfl, fun h => ?_, ?_, ?_⟩ <;> rw [on_seq_cons, on_seq_pair, on_rd]
    · rw [on_tapLoad_stays (.inl h)]
      exact ⟨rfl, tapShift_same _ _ s⟩
    · rfl
    · exact ⟨_, rfl, length_natLe _ _⟩
  case extest =>
    exact ⟨_, rfl, frame_execTapExtest env tc s rfl, fun h => tapExtest_again h rfl, fun h => tapExtest_enters h rfl⟩
  case lifeHour =>
    exact ⟨_, rfl, frame_execLifeHour tj10 fast tc s rfl, takesTime_lifeHour tj10 fast tc s _ rfl, lifeHour_spec tj10 fast rfl⟩

end Sys2Proof.Proofs
end

section
/-! Power states: wake sources, registers of Anise and D3hot (R547 to R550, R555). -/
namespace Sys2Proof.Machine

/-! Wake sources (R547). -/

section
variable {b : Nat} {s t : State}

/-- A source that is not enabled, or not armed, latches nothing. -/
theorem latchSet_idle (h : bitOf (s.fget F.PST_WAKE_EN_EN 0) b = false ∨ s.armed b = false) : Eff.on (latchSet b) s = s := by
  have hIdle : (bitOf (s.fget F.PST_WAKE_EN_EN 0) b && s.armed b) = false := by rcases h with h | h <;> simp [h]
  rw [latchSet, on_rd, hIdle, on_when_false]

/-- A trigger of an armed source that is enabled sets its latch, which the exit it may begin leaves set. -/
theorem latchSet_sets (hb : b < 6) (hEn : bitOf (s.fget F.PST_WAKE_EN_EN 0) b = true) (hArmed : s.armed b = true)
    (ht : t = Eff.on (latchSet b) s) : bitOf (t.fget F.PST_WAKE_STAT_LATCH 0) b = true := by
  rw [latchSet, on_rd, hEn, hArmed, Bool.and_self, on_when_true, on_seq_pair] at ht
  rw [ht, (only_wakeExit (List.Subset.refl _) 1).fget (by decide) (by decide) (by decide)]
  exact bitOf_fbit (by decide) 0 hb true s

/-- A latch behind a condition of its trigger that is not met, that is not enabled, or not armed, is left alone. -/
theorem latchSet_when_idle {c : Bool} (h : c = false ∨ bitOf (s.fget F.PST_WAKE_EN_EN 0) b = false ∨ s.armed b = false) :
    Eff.on (when c (latchSet b)) s = s := by
  cases c with
  | false => rfl
  | true => exact latchSet_idle (h.resolve_left (by decide))

end

/-- The test of the wake timer leaves registers beside the wake latches and PST_STAT alone. -/
theorem timerTest_fget {f : Fld} (hf : f.inReg = true)
    (hr : Part.fld f.reg ∉ [.fld .PST_CORE_PWR_r, .fld .PST_RAMP, .fld .PST_STAT, .fld .PST_WAKE_STAT, .pst]) (s : State) (i : Nat) :
    (Eff.on timerTest s).fget f i = s.fget f i :=
  (only_timerTest (List.Subset.refl _)).fget hf (by decide) hr s i

/-- PST_TICKS stands still once the crystal has failed. -/
theorem wakeTimer_failed {ticks : Nat} {s t : State} (h : s.fget F.PST_STAT_XTAL_FAIL 0 = 1) (hNext : exec (.wakeTimer ticks) s = .next t) :
    t = s := by
  rw [exec_wakeTimer, execWakeTimer, run_eq, on_rd, State.flag, h] at hNext
  cases hNext
  rfl

/-- PST_TICKS follows the wake timer while the crystal runs. -/
theorem wakeTimer_counts {ticks : Nat} {s t : State} (h : s.fget F.PST_STAT_XTAL_FAIL 0 = 0) (hNext : exec (.wakeTimer ticks) s = .next t) :
    t.fget F.PST_TICKS_COUNT 0 = max (s.fget F.PST_TICKS_COUNT 0) (ticks % 2 ^ 48) % 2 ^ F.PST_TICKS_COUNT.len := by
  rw [exec_wakeTimer, execWakeTimer, run_eq, on_rd, State.flag, h, show (!((0 : Nat) == 1)) = true from rfl, on_when_true, on_seq_pair] at hNext
  cases hNext
  rw [timerTest_fget (by decide) (by decide), on_fmax, Upd.fget_fld_same (by decide)]

/-! Registers of one RW field (R17, R564, R567). -/

section
variable {r : Reg} {f : Fld} (hFields : r.fields = [f]) (hRw : f.ty = .rw) (hOpen : ∀ v, reservedEncoding f v = false)

include hFields hRw in
/-- A write of no bit leaves the register as it is. -/
theorem regWrite_none (i v : Nat) (s : State) : Eff.on (regWrite r i 0 v) s = s := by
  have hMask : bitsOf 0 f.lo f.len = 0 := by simp [bitsOf]
  rw [regWrite, on_rd, hFields]
  simp only [List.filterMap_cons, List.filterMap_nil, hRw, hMask, true_or, if_true]
  rfl

include hFields hRw hOpen in
/-- A write of all bits stores the field's bits of the word, whatever the field held. -/
theorem fget_regWrite_only (i v : Nat) (s : State) : (Eff.on (regWrite r i (2 ^ 64 - 1) v) s).fget f i = bitsOf v f.lo f.len := by
  have hMem : f ∈ r.fields := hFields ▸ List.mem_singleton_self f
  obtain ⟨hLen, hFit, -⟩ := Reg.fields_fit r f hMem
  have hMask : 2 ^ f.len - 1 ≠ 0 := by have := Nat.one_lt_two_pow hLen.ne'; omega
  have hNew : (bitsOf v f.lo f.len + (s.fget f i - s.fget f i % 2 ^ f.len)) % 2 ^ f.len = bitsOf v f.lo f.len := by
    rw [Nat.sub_eq_of_eq_add (Nat.div_add_mod _ _).symm, Nat.add_mul_mod_self_left, Nat.mod_eq_of_lt (bitsOf_lt ..)]
  have hStored : Eff.on (regWrite r i (2 ^ 64 - 1) v) s =
      (Upd.fld f i (bitsOf v f.lo f.len + (s.fget f i - s.fget f i % 2 ^ f.len))).apply s := by
    rw [regWrite, on_rd, hFields]
    simp only [List.filterMap_cons, List.filterMap_nil, hRw, hOpen, bitsOf_ones hFit, Nat.and_two_pow_sub_one_eq_mod, hMask, false_or,
      Nat.mod_eq_of_lt (bitsOf_lt ..)]
    rfl
  rw [hStored, Upd.fget_fld_same (Reg.written_settable r f hMem (.inl hRw)), hNew]

end

/-- A write of PST_TIMER with all its bytes, or none, leaves COMPARE as written, or as it was, whatever the test then finds. -/
theorem pstTimerWrite_spec {val : Word} {m : Fin 256} {s t : State} (hNext : exec (.pstTimerWrite val m) s = .next t) :
    (m.val = 255 → t.fget F.PST_TIMER_COMPARE 0 = bitsOf val.toNat F.PST_TIMER_COMPARE.lo F.PST_TIMER_COMPARE.len) ∧
    (m.val = 0 → t.fget F.PST_TIMER_COMPARE 0 = s.fget F.PST_TIMER_COMPARE 0) := by
  rw [exec_pstTimerWrite, execPstTimerWrite, run_eq, on_seq_pair] at hNext
  cases hNext
  rw [timerTest_fget (by decide) (by decide)]
  refine ⟨fun hAll => ?_, fun hNone => ?_⟩
  · rw [hAll, show coverMask 255 8 = 2 ^ 64 - 1 by decide, fget_regWrite_only (r := .PST_TIMER) rfl rfl fun _ => rfl]
  · rw [hNone, show coverMask 0 8 = 0 by decide, regWrite_none (r := .PST_TIMER) (f := F.PST_TIMER_COMPARE) rfl rfl]

/-- So it is with EN of PST_WAKE_EN. -/
theorem pstWakeEnWrite_spec {val : Word} {m : Fin 256} {s t : State} (hNext : exec (.pstWakeEnWrite val m) s = .next t) :
    (m.val = 255 → t.fget F.PST_WAKE_EN_EN 0 = bitsOf val.toNat F.PST_WAKE_EN_EN.lo F.PST_WAKE_EN_EN.len) ∧
    (m.val = 0 → t.fget F.PST_WAKE_EN_EN 0 = s.fget F.PST_WAKE_EN_EN 0) := by
  rw [exec_pstWakeEnWrite, execPstWakeEnWrite, run_eq, on_seq_pair] at hNext
  cases hNext
  rw [timerTest_fget (by decide) (by decide)]
  refine ⟨fun hAll => ?_, fun hNone => ?_⟩
  · rw [hAll, show coverMask 255 8 = 2 ^ 64 - 1 by decide, fget_regWrite_only (r := .PST_WAKE_EN) rfl rfl fun _ => rfl]
  · rw [hNone, show coverMask 0 8 = 0 by decide, regWrite_none (r := .PST_WAKE_EN) (f := F.PST_WAKE_EN_EN) rfl rfl]

/-! D3hot (R470, R555). -/

section
variable {p : HostId} {s t : State}

/-- The queues and rings that a port's reset stops leave its BUS_MASTER and MSIX_EN alone. -/
theorem portReset_cleared (p : Nat) (s : State) : (Eff.on (portReset p) s).fget F.MOD_HOST_STAT_p_BUS_MASTER p = 0 ∧
    (Eff.on (portReset p) s).fget F.MOD_HOST_STAT_p_MSIX_EN p = 0 := by
  have hQueues (l : List Nat) : Eff.Only [.fld .MOD_HOST_ERR_p, .fld .QUEUE_CTL, .fld .QUEUE_STAT, .queues] (each l fun q =>
      seq [queueDisabling q true, fset F.QUEUE_STAT_FAULT_CAUSE q 5, fset F.QUEUE_CTL_ENABLE q 0, onQueue q (fun x => { x with reads := [] })]) :=
    only_each fun q _ => only_seq₄ (only_queueDisabling (by decide) _ _) (only_fset (by decide) _ _) (only_fset (by decide) _ _)
      (only_onQueue (by decide) _ _)
  have hRings (l : List Nat) : Eff.Only [.fld .MOD_EVR_TAIL_n, .rings] (each l fun n =>
      seq [onRing n (fun g => { g with stopped := true }), ringStatus n]) :=
    only_each fun n _ => only_seq₂ (only_onRing (by decide) _ _) (only_ringStatus (by decide) _)
  rw [portReset, on_rd]
  dsimp only
  rw [on_seq_cons, on_seq_cons, on_seq_cons, on_seq_pair]
  constructor <;> rw [(hRings _).fget (by decide) (by decide) (by decide), (hQueues _).fget (by decide) (by decide) (by decide), on_fset]
  · rw [Upd.fget_fld_other (by decide), on_fset, Upd.fget_fld_same (by decide), Nat.zero_mod]
  · rw [Upd.fget_fld_same (by decide), Nat.zero_mod]

/-- D3hot resets the port, and marks it. -/
theorem d3hotEntry_spec (hNext : exec (.d3hotEntry p) s = .next t) : (t.hport p.val).d3hot = true ∧
    t.fget F.MOD_HOST_STAT_p_BUS_MASTER p.val = 0 ∧ t.fget F.MOD_HOST_STAT_p_MSIX_EN p.val = 0 := by
  have hMark : Eff.Only [.hports] (onHport p.val fun h => { h with d3hot := true }) := only_onHport (by decide) _ _
  obtain ⟨hMaster, hMsix⟩ := portReset_cleared p.val s
  rw [exec_d3hotEntry, execD3hotEntry, run_eq, on_seq_pair] at hNext
  cases hNext
  refine ⟨by rw [onHport_same], ?_, ?_⟩
  · rw [hMark.fget (by decide) (by decide) (by decide), hMaster]
  · rw [hMark.fget (by decide) (by decide) (by decide), hMsix]

/-- A port that is not in D3hot has nothing to return from. -/
theorem returnToD0_idle (h : (s.hport p.val).d3hot = false) (hNext : exec (.returnToD0 p) s = .next t) : t = s := by
  rw [exec_returnToD0, execReturnToD0, run_eq, on_unserved _ h] at hNext
  cases hNext
  rfl

/-- The return to D0 resets the port's host state. -/
theorem returnToD0_spec (h : (s.hport p.val).d3hot = true) (hNext : exec (.returnToD0 p) s = .next t) : t.hport p.val = HostPort.none ∧
    t.fget F.MOD_HOST_STAT_p_BUS_MASTER p.val = 0 ∧ t.fget F.MOD_HOST_STAT_p_MSIX_EN p.val = 0 := by
  have hReset : (Eff.on (upd [.hports p.val HostPort.none, .msixClear (p.val * 2048) (p.val * 2048 + 2048)]) s).hport p.val = HostPort.none := by
    simp [State.hport]
  rw [exec_returnToD0, execReturnToD0, run_eq, on_served _ h, on_seq_cons, on_seq_pair, on_fset, on_fset] at hNext
  cases hNext
  refine ⟨?_, ?_, ?_⟩
  · rw [State.hport, Upd.fld_hports, Upd.fld_hports]
    exact hReset
  · rw [Upd.fget_fld_other (by decide), Upd.fget_fld_same (by decide), Nat.zero_mod]
  · rw [Upd.fget_fld_same (by decide), Nat.zero_mod]

end

end Sys2Proof.Machine

end

section
/-! Power states: the mailbox command, the end of an entry and of an exit, and ready signals (R538, R539, R542 to R544, R546 to R548). -/
namespace Sys2Proof.Machine

/-! Time moves none of what the power states go by. -/

section
variable (s : State) (tc : Nat)

theorem State.movedOn_phase : (s.movedOn tc).phase = s.phase := s.movedOn_fget tc (by decide) 0
theorem State.movedOn_pstate : (s.movedOn tc).pstate = s.pstate := s.movedOn_fget tc (by decide) 0
theorem State.movedOn_latches : (s.movedOn tc).latches = s.latches := s.movedOn_fget tc (by decide) 0
theorem State.movedOn_domain (p : Nat) : (s.movedOn tc).domain p = s.domain p := by
  rw [State.domain, s.movedOn_fget tc (by decide), State.domain]
theorem State.movedOn_coreServes (p : Nat) : (s.movedOn tc).coreServes p = s.coreServes p := by
  rw [State.coreServes, State.logOf, s.movedOn_fget tc (by decide)]
  rfl
theorem State.movedOn_entryRefused (st : Nat) : (s.movedOn tc).entryRefused st = s.entryRefused st := by
  have hFld {f : Fld} (h : (f.inReg && f.reg != .TC_NOW) = true) : (s.movedOn tc).fget f 0 = s.fget f 0 := s.movedOn_fget tc h 0
  have hPour : (s.movedOn tc).pourRuns = s.pourRuns := by
    have hIn (f : Nat) : (s.movedOn tc).inPour f = s.inPour f := by rw [State.inPour, s.movedOn_flask, State.inPour]
    simp only [State.pourRuns, State.pourFlasks, State.liveFlasks, s.movedOn_flask, s.movedOn_flaskIn, funext hIn]
  simp only [State.entryRefused, s.movedOn_running, State.liveFlasks, s.movedOn_flask, s.movedOn_flaskIn, hPour, State.flag,
    hFld (f := F.PST_WAKE_EN_EN) (by decide), hFld (f := F.PST_STAT_XTAL_FAIL) (by decide)]

end

/-! What MB_PSTATE_SET does (R538, R539, R548). -/

/-- The command's effect for a target. -/
def pstateAsk (k st : Nat) : Eff := rd fun s =>
  if (s.slot k).phase ≠ 0 ∨ s.phase ≠ 0 then nop
  else if st > 4 then mbFail k 0x0103
  else if st = s.pstate then mbDone k st
  else if st < s.pstate then
    if st ≤ 1 then seq [onSlot k (fun m => { m with phase := 1 }), exitBegin st 0] else mbFail k 0x0210
  else if s.entryRefused st then mbFail k 0x0210
  else if s.latches ≠ 0 then entryAbandoned k st
  else entryCommit k st

section
variable {k st : Nat} {s t : State}

theorem pstateAsk_waits (h : (s.slot k).phase ≠ 0 ∨ s.phase ≠ 0) : Eff.on (pstateAsk k st) s = s := by
  rw [pstateAsk, on_rd, if_pos h, on_nop]

/-- A module at rest looks at the target. -/
theorem on_pstateAsk_rest (hSlot : (s.slot k).phase = 0) (hPhase : s.phase = 0) : Eff.on (pstateAsk k st) s = Eff.on (
    if st > 4 then mbFail k 0x0103
    else if st = s.pstate then mbDone k st
    else if st < s.pstate then
      if st ≤ 1 then seq [onSlot k (fun m => { m with phase := 1 }), exitBegin st 0] else mbFail k 0x0210
    else if s.entryRefused st then mbFail k 0x0210
    else if s.latches ≠ 0 then entryAbandoned k st
    else entryCommit k st) s := by
  rw [pstateAsk, on_rd, if_neg (by simp [hSlot, hPhase])]

/-- What follows the start of an exit leaves its phase and target. -/
theorem exitBegin_spec (hst : st ≤ 4) (cause : Nat) (ht : t = Eff.on (exitBegin st cause) s) :
    t.phase = 2 ∧ t.fget F.PST_STAT_TARGET 0 = st := by
  have hDomains (b : Bool) (l : List Nat) : Eff.Only [.fld .PST_CORE_PWR_r, .fld .PST_RAMP, .pst] (when b (each l domainOn)) :=
    only_when fun _ => only_each fun p _ => only_domainOn (List.Subset.refl _) p
  have hLen : F.PST_STAT_TARGET.len = 3 := rfl
  rw [exitBegin, on_rd, on_seq_cons, on_seq_cons, on_seq_pair, on_upd, applyAll_cons, applyAll_nil] at ht
  subst ht
  rw [State.phase, (hDomains _ _).fget (by decide) (by decide) (by decide), (hDomains _ _).fget (by decide) (by decide) (by decide),
    Upd.pst_fget, Upd.pst_fget, on_fset, Upd.fget_fld_other (by decide), on_fset, Upd.fget_fld_same (by decide), Upd.fget_fld_same (by decide), hLen]
  exact ⟨rfl, Nat.mod_eq_of_lt (by omega)⟩

/-- An abandoned entry fails its command and is told; the latches and the state are as they were. -/
theorem entryAbandoned_spec (ht : t = Eff.on (entryAbandoned k st) s) : SlotFailed t k 0x0207 ∧ t.fget F.PST_STAT_ABANDONED 0 = 1 ∧
    Raised s t 0x080D 0 ∧ t.latches = s.latches ∧ t.pstate = s.pstate := by
  have hFail := only_mbFail_parts k 0x0207
  rw [entryAbandoned, on_rd, on_seq_cons, on_seq_pair] at ht
  subst ht
  refine ⟨slotFailed_mbFail k _ _, ?_, raised_of_ev (raised_raise _ _ _ _ rfl) (by rfl) (hFail.frame_ev (by decide) _), ?_, ?_⟩
  · rw [hFail.fget (by decide) (by decide) (by decide), on_raise, Upd.ev_fget, on_fset, Upd.fget_fld_same (by decide)]
    rfl
  · rw [State.latches, hFail.fget (by decide) (by decide) (by decide), on_raise, Upd.ev_fget, on_fset, Upd.fget_fld_other (by decide), State.latches]
  · rw [State.pstate, hFail.fget (by decide) (by decide) (by decide), on_raise, Upd.ev_fget, on_fset, Upd.fget_fld_other (by decide), State.pstate]

/-- What follows the commitment of an entry: gather buffers, caches and core domains. -/
theorem only_quiesce (st : Nat) (l : List Nat) : Eff.Only [.caches, .cores, .fld .PST_CORE_PWR_r, .fld .PST_RAMP, .fld .SPD_ELASTIC, .pst, .spd,
    .spdPoison] (seq [each l gatherFlushAll, when (decide (st ≥ 2)) (seq [cacheClean 0 dramSize, each (List.range 160) domainOff])]) :=
  only_seq₂ (only_each fun p _ => only_gatherFlushAll (by decide) p) (only_when fun _ => only_seq₂ (only_cacheClean (by decide) _ _)
    (only_each fun p _ => only_domainOff (by decide) p))

/-- A committed entry is under way to its target; the command for STANDBY ends at once. -/
theorem entryCommit_spec (hst : st ≤ 4) (ht : t = Eff.on (entryCommit k st) s) : t.phase = 1 ∧ t.fget F.PST_STAT_TARGET 0 = st ∧
    (st = 4 → SlotDone t k 4) := by
  have hLen : F.PST_STAT_TARGET.len = 3 := rfl
  obtain ⟨u, hu⟩ : ∃ u, u = Eff.on (when (st == 4) (mbDone k 4)) (Eff.on (onSlot k fun m => { m with phase := 1 })
    (Eff.on (fset F.PST_STAT_TARGET 0 st) (Eff.on (fset F.PST_STAT_PHASE 0 1) s))) := ⟨_, rfl⟩
  have hDone (b : Bool) : Eff.Only mbParts (when b (mbDone k 4)) := only_when fun _ => only_mbDone_parts k 4
  have hSlot : Eff.Only [.slots] (onSlot k fun m => { m with phase := 1 }) := only_onSlot (by decide) _ _
  have hFlds {f : Fld} (hf : f.inReg = true) (hr : Part.fld f.reg ∉ mbParts) : u.fget f 0 =
      (Eff.on (fset F.PST_STAT_TARGET 0 st) (Eff.on (fset F.PST_STAT_PHASE 0 1) s)).fget f 0 := by
    rw [hu, (hDone _).fget hf (by decide) hr, hSlot.fget hf (by decide) (by simp)]
  have hQuiesce : t = Eff.on (seq [each (s.cores.map (fun e => e.1)) gatherFlushAll,
      when (decide (st ≥ 2)) (seq [cacheClean 0 dramSize, each (List.range 160) domainOff])]) u := by
    rw [ht, hu, entryCommit, on_rd, on_seq_cons, on_seq_cons, on_seq_cons, on_seq_cons]
  have hOnly := only_quiesce st (s.cores.map (fun e => e.1))
  refine ⟨?_, ?_, fun hStandby => ?_⟩
  · rw [State.phase, hQuiesce, hOnly.fget (by decide) (by decide) (by decide), hFlds (by decide) (by decide), on_fset,
      Upd.fget_fld_other (by decide), on_fset, Upd.fget_fld_same (by decide)]
    rfl
  · rw [hQuiesce, hOnly.fget (by decide) (by decide) (by decide), hFlds (by decide) (by decide), on_fset, Upd.fget_fld_same (by decide), hLen]
    exact Nat.mod_eq_of_lt (by omega)
  · rw [SlotDone, hQuiesce, hOnly.slot (by decide), hu, hStandby, beq_self_eq_true, on_when_true]
    exact slotDone_mbDone k 4 _

/-- At rest the command's effect goes by the target, on the state at its time. -/
theorem mbPstateSet_runs {k : Fin 17} {tc : Nat} (h : s.mbRuns k.val 0x0403 = true) (hst : leAt (s.slot k.val).args 0 1 = st)
    (hNext : exec (.mbPstateSet k tc) s = .next t) : t = Eff.on (pstateAsk k.val st) (s.movedOn tc) := by
  rw [exec_mbPstateSet, execMbPstateSet, run_eq, mbCommand_runsAt tc h] at hNext
  cases hNext
  rw [← hst]
  rfl

theorem mbPstateSet_rest {k : Fin 17} {tc : Nat} (h : s.mbRuns k.val 0x0403 = true) (hSlot : (s.slot k.val).phase = 0) (hPhase : s.phase = 0)
    (hst : leAt (s.slot k.val).args 0 1 = st) (hNext : exec (.mbPstateSet k tc) s = .next t) : t = Eff.on (
    if st > 4 then mbFail k.val 0x0103
    else if st = s.pstate then mbDone k.val st
    else if st < s.pstate then
      if st ≤ 1 then seq [onSlot k.val (fun m => { m with phase := 1 }), exitBegin st 0] else mbFail k.val 0x0210
    else if s.entryRefused st then mbFail k.val 0x0210
    else if s.latches ≠ 0 then entryAbandoned k.val st
    else entryCommit k.val st) (s.movedOn tc) := by
  rw [mbPstateSet_runs h hst hNext, on_pstateAsk_rest (by rw [s.movedOn_slot, hSlot]) (by rw [s.movedOn_phase, hPhase]), s.movedOn_pstate,
    s.movedOn_entryRefused, s.movedOn_latches]

end

/-! The end of an entry (R543, R548). -/

/-- What the end of an entry to a state does once its effects are there. -/
def entryReached (old st latches : Nat) : Eff := seq [
  fset F.PST_STAT_STATE 0 st, fset F.PST_STAT_PHASE 0 0, fset F.PST_STAT_TARGET 0 st,
  rd fun s => each ((List.range 17).filter (fun k => s.mbRuns k 0x0403 && (s.slot k).phase == 1)) (fun k => mbDone k st),
  raise 0x080C 0 nobody [(1, old), (1, st), (1, 0), (1, latches)],
  when (decide (latches ≠ 0)) (fset F.PST_STAT_REPLAYED 0 1), wakeExit 2]

/-- The wake latches of a replay leave the state that rests, and without a latch its phase. -/
theorem wakeExit_spec (cause : Nat) {s t : State} (ht : t = Eff.on (wakeExit cause) s) : t.pstate = s.pstate ∧ (t.latches = 0 → t = s) := by
  have hLatches : t.latches = s.latches := by
    rw [ht, State.latches, (only_wakeExit (List.Subset.refl _) cause).fget (by decide) (by decide) (by decide), State.latches]
  have hState (target : Nat) : (exitBegin target cause).Keeps fun s => s.pstate := by
    refine keeps_rd fun u => keeps_seq_cons (keeps_fset_other (by decide) _ _ _) (keeps_seq_cons (keeps_fset_other (by decide) _ _ _) ?_)
    exact keeps_seq₂ (keeps_upd fun x hx s => by rw [List.mem_singleton.1 hx]; rfl) (keeps_when (keeps_each fun p =>
      (only_domainOn (List.Subset.refl _) p).keeps_fget (by decide) 0))
  refine ⟨ht ▸ keeps_rd (fun u => keeps_when (hState _)) s, fun hNone => ?_⟩
  rw [ht, wakeExit, on_rd, ← hLatches, hNone]
  simp

/-- The state is the target, and without a latch the module rests in it. -/
theorem entryReached_spec (old st latches : Nat) {s t : State} (ht : t = Eff.on (entryReached old st latches) s) :
    t.pstate = st % 2 ^ F.PST_STAT_STATE.len ∧ (t.latches = 0 → t.phase = 0) := by
  have hEnds (l : List Nat) : Eff.Only mbParts (each l fun k => mbDone k st) := only_each fun k _ => only_mbDone_parts k st
  have hReplay {g : Fld} (hg : (F.PST_STAT_REPLAYED.inReg && g.inReg && (F.PST_STAT_REPLAYED.reg != g.reg || F.PST_STAT_REPLAYED.lo != g.lo ||
      F.PST_STAT_REPLAYED.len != g.len)) = true) (b : Bool) (s : State) : (Eff.on (when b (fset F.PST_STAT_REPLAYED 0 1)) s).fget g 0 = s.fget g 0 :=
    keeps_when (keeps_fset_other hg 0 0 1) s
  rw [entryReached] at ht
  simp only [on_seq_cons, on_seq_nil, on_rd] at ht
  obtain ⟨hState, hRest⟩ := wakeExit_spec 2 ht
  refine ⟨?_, fun hNone => ?_⟩
  · rw [hState, State.pstate, hReplay (by decide), on_raise, Upd.ev_fget, (hEnds _).fget (by decide) (by decide) (by decide)]
    simp only [on_fset]
    rw [Upd.fget_fld_other (by decide), Upd.fget_fld_other (by decide), Upd.fget_fld_same (by decide)]
  · rw [hRest hNone, State.phase, hReplay (by decide), on_raise, Upd.ev_fget, (hEnds _).fget (by decide) (by decide) (by decide)]
    simp only [on_fset]
    rw [Upd.fget_fld_other (by decide), Upd.fget_fld_same (by decide), Nat.zero_mod]

/-- An entry has reached its end: it is under way, and every core domain that the state needs off is off (R543). -/
def State.entryDone (s : State) : Bool :=
  s.phase == 1 && (decide (s.fget F.PST_STAT_TARGET 0 < 2) || (List.range 160).all (fun p => s.domain p == 0 || s.domain p == 6))

theorem State.movedOn_entryDone (s : State) (tc : Nat) : (s.movedOn tc).entryDone = s.entryDone := by
  simp only [State.entryDone, s.movedOn_phase, s.movedOn_domain, s.movedOn_fget tc (f := F.PST_STAT_TARGET) (by decide)]

section
variable {tc : Nat} {s t : State}

theorem pstateEntryComplete_idle (h : s.entryDone = false) (hNext : exec (.pstateEntryComplete tc) s = .next t) : SameBut [.fld .TC_NOW] s t := by
  rw [exec_pstateEntryComplete, execPstateEntryComplete, run_eq, on_timed] at hNext
  dsimp only at hNext
  rw [← State.entryDone, s.movedOn_entryDone, h, on_when_false] at hNext
  cases hNext
  exact s.movedOn_same tc

theorem pstateEntryComplete_reaches (h : s.entryDone = true) (hNext : exec (.pstateEntryComplete tc) s = .next t) :
    t.pstate = s.fget F.PST_STAT_TARGET 0 % 2 ^ F.PST_STAT_STATE.len ∧ (t.latches = 0 → t.phase = 0) := by
  rw [exec_pstateEntryComplete, execPstateEntryComplete, run_eq, on_timed] at hNext
  dsimp only at hNext
  rw [← State.entryDone, s.movedOn_entryDone, h, on_when_true, on_seq_cons, s.movedOn_fget tc (by decide)] at hNext
  cases hNext
  exact entryReached_spec _ _ _ rfl

end

/-! The end of an exit (R544, R547). -/

/-- An exit has reached its end: it leads from a state below RUN, and every core in service is ON (R544). -/
def State.exitDone (s : State) : Bool :=
  s.phase == 2 && decide (1 ≤ s.pstate) && decide (s.pstate ≤ 3) &&
    (decide (s.pstate < 2) || ((List.range 160).filter s.coreServes).all (fun p => s.domain p == 3))

theorem State.movedOn_exitDone (s : State) (tc : Nat) : (s.movedOn tc).exitDone = s.exitDone := by
  simp only [State.exitDone, s.movedOn_phase, s.movedOn_pstate, s.movedOn_domain, funext (s.movedOn_coreServes tc)]

/-- The registers that the end of an exit sets, the latches being read in the state before it. -/
def exitFields (st latches : Nat) : Eff := seq [fset F.PST_STAT_STATE 0 st, fset F.PST_STAT_PHASE 0 0, fset F.PST_WAKE_STAT_LAST 0 latches,
  fset F.PST_WAKE_STAT_LATCH 0 0, fadd F.PST_WAKE_STAT_EXITS 0 1]

/-- What follows them: ports come back, the commands that asked end, the event is raised. -/
def exitTold (ports : List Nat) (pst : PstSt) (st : Nat) (detail : List (Nat × Nat)) : Eff := seq [
  each ports (fun p => onPort p (fun x => { x with enabled := true })), upd [.pst pst],
  rd fun s => each ((List.range 17).filter (fun k => s.mbRuns k 0x0403 && (s.slot k).phase == 1)) (fun k => mbDone k st), raise 0x080C 0 nobody detail]

theorem only_exitTold (ports : List Nat) (pst : PstSt) (st : Nat) (detail : List (Nat × Nat)) :
    (exitTold ports pst st detail).Only [.ev, .fld .MOD_MB_SUMMARY, .hostOut, .hports, .ports, .pst, .slots] :=
  only_seq₄ (only_each fun _ _ => only_onPort (by decide) _ _) (only_upd (by simp [Upd.part]))
    (only_rd fun _ => only_each fun _ _ => only_mbDone (by decide) _ _) (only_raise (by decide) _ _ _ _)

section
variable {st latches : Nat} {s t : State}

theorem exitFields_spec (ht : t = Eff.on (exitFields st latches) s) : t.pstate = st % 2 ^ F.PST_STAT_STATE.len ∧ t.phase = 0 ∧
    t.fget F.PST_WAKE_STAT_LAST 0 = latches % 2 ^ F.PST_WAKE_STAT_LAST.len ∧ t.latches = 0 ∧
    t.fget F.PST_WAKE_STAT_EXITS 0 = (s.fget F.PST_WAKE_STAT_EXITS 0 + 1) % 2 ^ F.PST_WAKE_STAT_EXITS.len := by
  rw [exitFields] at ht
  simp only [on_seq_cons, on_seq_nil, on_fset, on_fadd] at ht
  subst ht
  refine ⟨?_, ?_, ?_, ?_, ?_⟩
  · rw [State.pstate, Upd.fget_fld_other (by decide), Upd.fget_fld_other (by decide), Upd.fget_fld_other (by decide),
      Upd.fget_fld_other (by decide), Upd.fget_fld_same (by decide)]
  · rw [State.phase, Upd.fget_fld_other (by decide), Upd.fget_fld_other (by decide), Upd.fget_fld_other (by decide),
      Upd.fget_fld_same (by decide), Nat.zero_mod]
  · rw [Upd.fget_fld_other (by decide), Upd.fget_fld_other (by decide), Upd.fget_fld_same (by decide)]
  · rw [State.latches, Upd.fget_fld_other (by decide), Upd.fget_fld_same (by decide), Nat.zero_mod]
  · rw [Upd.fget_fld_same (by decide), Upd.fget_fld_other (by decide), Upd.fget_fld_other (by decide), Upd.fget_fld_other (by decide),
      Upd.fget_fld_other (by decide)]

theorem pstateExit_idle {tc : Nat} (h : s.exitDone = false) (hNext : exec (.pstateExit tc) s = .next t) : SameBut [.fld .TC_NOW] s t := by
  rw [exec_pstateExit, execPstateExit, run_eq, on_timed] at hNext
  dsimp only at hNext
  rw [← State.exitDone, s.movedOn_exitDone, h, on_when_false] at hNext
  cases hNext
  exact s.movedOn_same tc

/-- The state is the target, and the latches are copied and cleared. -/
theorem pstateExit_reaches {tc : Nat} (h : s.exitDone = true) (hNext : exec (.pstateExit tc) s = .next t) :
    t.pstate = s.fget F.PST_STAT_TARGET 0 % 2 ^ F.PST_STAT_STATE.len ∧ t.phase = 0 ∧
    t.fget F.PST_WAKE_STAT_LAST 0 = s.latches % 2 ^ F.PST_WAKE_STAT_LAST.len ∧ t.latches = 0 ∧
    t.fget F.PST_WAKE_STAT_EXITS 0 = (s.fget F.PST_WAKE_STAT_EXITS 0 + 1) % 2 ^ F.PST_WAKE_STAT_EXITS.len := by
  have hFirst (b : Bool) (l : List Nat) : Eff.Only [.fld .PST_PAD_HOLD, .mes, .ses, .vus] (seq [when b enginesLost, each l padOff]) :=
    only_seq₂ (only_when fun _ => only_enginesLost (by decide)) (only_each fun _ _ => only_padOff (by decide) _)
  obtain ⟨b, l, ports, pst, detail, ht⟩ : ∃ b l ports pst detail, t = Eff.on (exitTold ports pst (s.fget F.PST_STAT_TARGET 0) detail)
      (Eff.on (exitFields (s.fget F.PST_STAT_TARGET 0) s.latches) (Eff.on (seq [when b enginesLost, each l padOff]) (s.movedOn tc))) := by
    rw [exec_pstateExit, execPstateExit, run_eq, on_timed] at hNext
    dsimp only at hNext
    rw [← State.exitDone, s.movedOn_exitDone, h, on_when_true, s.movedOn_fget tc (by decide), s.movedOn_latches] at hNext
    cases hNext
    refine ⟨decide ((s.movedOn tc).pstate ≥ 2), [4, 5].filter (fun g => !(s.movedOn tc).pst.failed.elem g), (s.movedOn tc).pst.ports,
      { (s.movedOn tc).pst with ports := [], failed := [] }, [(1, (s.movedOn tc).pstate), (1, s.fget F.PST_STAT_TARGET 0),
        (1, (s.movedOn tc).pst.cause), (1, s.latches)], ?_⟩
    simp only [exitTold, exitFields, on_seq_cons, on_seq_nil]
  have hOnly := only_exitTold ports pst (s.fget F.PST_STAT_TARGET 0) detail
  have hKeep {f : Fld} (hf : f.inReg = true) (hr : Part.fld f.reg ∉ [Part.ev, .fld .MOD_MB_SUMMARY, .hostOut, .hports, .ports, .pst, .slots]) :=
    ht ▸ hOnly.fget hf (by decide) hr (Eff.on (exitFields (s.fget F.PST_STAT_TARGET 0) s.latches)
      (Eff.on (seq [when b enginesLost, each l padOff]) (s.movedOn tc))) 0
  obtain ⟨hState, hPhase, hLast, hLatch, hExits⟩ := exitFields_spec (st := s.fget F.PST_STAT_TARGET 0) (latches := s.latches)
    (s := Eff.on (seq [when b enginesLost, each l padOff]) (s.movedOn tc)) rfl
  rw [(hFirst b l).fget (by decide) (by decide) (by decide), s.movedOn_fget tc (by decide)] at hExits
  exact ⟨(hKeep (by decide) (by decide)).trans hState, (hKeep (by decide) (by decide)).trans hPhase, (hKeep (by decide) (by decide)).trans hLast,
    (hKeep (by decide) (by decide)).trans hLatch, (hKeep (by decide) (by decide)).trans hExits⟩

end

/-! Ready signals (R546). -/

/-- The parts that the answer to a ready signal that stays away may write: PST_STAT is none of them. -/
def readyParts : List Part := [.cores, .dbg, .ev, .faults, .flasks, .fld .CLK_STOP_STAT, .fld .CLU_CORES, .fld .CORE_MOULD, .fld .CORE_SC,
  .fld .CORE_SEQ, .fld .CORE_STAT, .fld .DBG_HOLD, .fld .LDL_CTX_n, .fld .ME_STAT, .fld .MOD_BOOT_ERR, .fld .MOD_FAULT_STAT, .fld .MOD_GRID_STAT,
  .fld .MOD_MB_SUMMARY, .fld .MOD_ROW_MAP_r, .fld .PST_CORE_PWR_r, .fld .PST_RAMP, .fld .QUEUE_BASE, .fld .QUEUE_CTL, .fld .QUEUE_DB,
  .fld .QUEUE_LEVEL, .fld .QUEUE_STAT, .fld .QUEUE_WM, .fld .SE_STAT, .fld .SPD_ELASTIC, .fld .SPD_STAT, .fld .SPR_STAT, .fld .VU_STAT, .hostOut,
  .hports, .ldls, .mes, .msgs, .pst, .queues, .ses, .slag, .slots, .vus]

theorem only_readyPst (f : State → PstSt) : Eff.Only readyParts (rd fun s => upd [.pst (f s)]) :=
  only_rd fun _ => only_upd (by simp [Upd.part, readyParts])

/-- A ready signal of an exit that stays away is noted in READY_FAULT, whatever answers it. -/
theorem pstReadyTimeout_noted {signal : Fin 5} {unit : Nat} {other retryOk : Bool} {s t : State} (h : s.phase = 2)
    (hNext : exec (.pstReadyTimeout signal unit other retryOk) s = .next t) : t.fget F.PST_STAT_READY_FAULT 0 = 1 := by
  have hNoted {e : Eff} (he : e.Only readyParts) : (Eff.on (seq [fset F.PST_STAT_READY_FAULT 0 1, e]) s).fget F.PST_STAT_READY_FAULT 0 = 1 := by
    rw [on_seq_pair, he.fget (by decide) (by decide) (by decide), on_fset, Upd.fget_fld_same (by decide)]
    rfl
  have hRaise (sev : Nat) (d : List (Nat × Nat)) : Eff.Only readyParts (raise 0x080E sev nobody d) := only_raise (by decide) _ _ _ _
  have hFence (ps : List Nat) (d : List (Nat × Nat)) : Eff.Only readyParts (readyFence ps d) := only_readyFence (by decide) _ _
  have hFatal (code : Nat) (d : List (Nat × Nat)) : Eff.Only readyParts (fatal code nobody d) := only_fatal (by decide) _ _ _
  rw [exec_pstReadyTimeout, execPstReadyTimeout, run_eq, on_rd] at hNext
  dsimp only at hNext
  rw [h, beq_self_eq_true, on_when_true] at hNext
  cases hNext
  refine hNoted ?_
  split
  · exact only_seq₂ (hRaise _ _) (hFatal _ _)
  · exact only_either (hRaise _ _) (hFence _ _)
  · exact only_seq₂ (hRaise _ _) (only_when fun _ => only_readyPst _)
  · exact only_either (hRaise _ _) (only_seq₂ (only_fbit (by decide) _ _ _) (hFence _ _))
  · exact only_seq₂ (hFatal _ _) (only_readyPst _)
  · exact hFence _ _

theorem pstReadyTimeout_idle {signal : Fin 5} {unit : Nat} {other retryOk : Bool} {s t : State} (h : s.phase ≠ 2)
    (hNext : exec (.pstReadyTimeout signal unit other retryOk) s = .next t) : t = s := by
  rw [exec_pstReadyTimeout, execPstReadyTimeout, run_eq, on_rd] at hNext
  dsimp only at hNext
  rw [beq_eq_false_iff_ne.2 h, on_when_false] at hNext
  cases hNext
  rfl

end Sys2Proof.Machine

namespace Sys2Proof.Proofs
open Sys2Proof.Machine

/-- Settles O34: MB_PSTATE_SET acts at rest by its target, an entry and an exit end when the domains have followed, and a trigger latches where
its source is enabled and armed. -/
theorem powerStateCommandsAct : Obligations.PowerStateCommandsAct := by
  refine ⟨fun k tc s => ?set, fun tc s => ?entry, fun tc s => ?exit, fun signal unit other retryOk s => ?ready, fun s => ?pin, fun ticks s => ?timer,
    fun address s => ?i3c, fun port s => ?perst, fun wake s => ?host, fun val m s => ?timerWrite, fun val m s => ?wakeEnWrite, fun s => ?xtal,
    fun port s => ?d3hot, fun port s => ?returnToD0⟩
  case set =>
    refine ⟨_, rfl, frame_execMbPstateSet k tc s rfl, takesTime_mbPstateSet k tc s _ rfl, fun h hBusy => ?waits,
      fun h hSlot hPhase hRange => ?range, fun h hSlot hPhase hIn hSame => ?same, fun h hSlot hPhase hIn hLess hShallow => ?exits,
      fun h hSlot hPhase hIn hLess hDeep => ?tooDeep, fun h hSlot hPhase hIn hMore hRefused => ?refused,
      fun h hSlot hPhase hIn hMore hOpen hLatched => ?abandoned, fun h hSlot hPhase hIn hMore hOpen hNone => ?commits, fun h => ?idle⟩
    case waits =>
      rw [mbPstateSet_runs h rfl rfl, pstateAsk_waits (by rwa [s.movedOn_slot, s.movedOn_phase])]
      exact s.movedOn_same tc
    case idle => exact mbCommand_idleAt tc h ▸ s.movedOn_same tc
    all_goals rw [mbPstateSet_rest h hSlot hPhase rfl rfl]
    case range =>
      rw [if_pos hRange]
      exact slotFailed_mbFail ..
    all_goals rw [if_neg (Nat.not_lt.2 hIn)]
    case same =>
      rw [if_pos hSame, hSame]
      refine ⟨slotDone_mbDone .., ?_⟩
      rw [State.pstate, (only_mbDone_parts _ _).fget (by decide) (by decide) (by decide)]
      exact s.movedOn_pstate tc
    case exits =>
      rw [if_neg hLess.ne, if_pos hLess, if_pos hShallow, on_seq_pair]
      exact exitBegin_spec hIn 0 rfl
    case tooDeep =>
      rw [if_neg hLess.ne, if_pos hLess, if_neg (Nat.not_le.2 hDeep)]
      exact slotFailed_mbFail ..
    all_goals rw [if_neg hMore.ne', if_neg hMore.le.not_gt]
    case refused =>
      rw [if_pos hRefused]
      exact slotFailed_mbFail ..
    all_goals rw [if_neg (Bool.not_eq_true _ ▸ hOpen)]
    case abandoned =>
      rw [if_pos hLatched]
      obtain ⟨hFailed, hAbandoned, hRaised, hLatches, hState⟩ := entryAbandoned_spec (k := k.val) (st := leAt (s.slot k.val).args 0 1)
        (s := s.movedOn tc) rfl
      exact ⟨hFailed, hAbandoned, raised_of_ev hRaised rfl rfl, hLatches.trans (s.movedOn_latches tc), hState.trans (s.movedOn_pstate tc)⟩
    case commits =>
      rw [if_neg (not_not.2 hNone)]
      exact entryCommit_spec hIn rfl
  case entry =>
    exact ⟨_, rfl, frame_execPstateEntryComplete tc s rfl, fun h => pstateEntryComplete_idle h rfl, fun h => pstateEntryComplete_reaches h rfl⟩
  case exit =>
    exact ⟨_, rfl, frame_execPstateExit tc s rfl, takesTime_pstateExit tc s _ rfl, fun h => pstateExit_idle h rfl,
      fun h => pstateExit_reaches h rfl⟩
  case ready =>
    exact ⟨_, rfl, frame_execPstReadyTimeout signal unit other retryOk s rfl, fun h => pstReadyTimeout_idle h rfl,
      fun h => pstReadyTimeout_noted h rfl⟩
  case pin => exact ⟨_, rfl, frame_execWakePin s rfl, latchSet_idle, fun hEn hArmed => latchSet_sets (by decide) hEn hArmed rfl⟩
  case timer => exact ⟨_, rfl, frame_execWakeTimer ticks s rfl, fun h => wakeTimer_failed h rfl, fun h => wakeTimer_counts h rfl⟩
  case i3c =>
    refine ⟨_, rfl, frame_execWakeI3c address s rfl, fun h => ?_, fun hOwn hEn hArmed => ?_⟩ <;> rw [on_rd]
    · exact latchSet_when_idle (h.imp beq_eq_false_iff_ne.2 id)
    · rw [beq_iff_eq.2 hOwn, on_when_true]
      exact latchSet_sets (by decide) hEn hArmed rfl
  case perst =>
    exact ⟨_, rfl, frame_execWakePerst port s rfl, latchSet_idle, fun hEn hArmed => latchSet_sets (by have := port.isLt; omega) hEn hArmed rfl⟩
  case host =>
    refine ⟨_, rfl, frame_execWakeHost wake s rfl, latchSet_when_idle, fun hWake hEn hArmed => ?_⟩
    rw [hWake, on_when_true]
    exact latchSet_sets (by decide) hEn hArmed rfl
  case timerWrite => exact ⟨_, rfl, frame_execPstTimerWrite val m s rfl, pstTimerWrite_spec rfl⟩
  case wakeEnWrite => exact ⟨_, rfl, frame_execPstWakeEnWrite val m s rfl, pstWakeEnWrite_spec rfl⟩
  case xtal => exact ⟨_, rfl, frame_execXtalFail s rfl, Upd.fget_fld_same (by decide) ..⟩
  case d3hot => exact ⟨_, rfl, frame_execD3hotEntry port s rfl, d3hotEntry_spec rfl⟩
  case returnToD0 => exact ⟨_, rfl, frame_execReturnToD0 port s rfl, fun h => returnToD0_idle h rfl, fun h => returnToD0_spec h rfl⟩

end Sys2Proof.Proofs
end

section
/-! Pepper: test tiles, their comparison, diagnoses and spare cores; redundancy (R621 to R630). -/
namespace Sys2Proof.Machine

/-! Test tiles (R622, R623). -/

section
variable (s : State) (tc : Nat)

theorem State.movedOn_pepWindow (p : Nat) : (s.movedOn tc).pepWindow p = s.pepWindow p := by
  have hMould : (s.movedOn tc).mouldOf p = s.mouldOf p := by
    rw [State.mouldOf, State.logOf, s.movedOn_fget tc (by decide)]
    rfl
  rw [State.pepWindow, s.movedOn_coreState, hMould, State.pepWindow]

theorem State.movedOn_pep : (s.movedOn tc).pep = s.pep := Upd.fld_pep ..

end

section
variable {core : CoreId} {unit : Fin 76} {window hash tc : Nat} {s t : State}

/-- A tile that lacks its share, its window, its core, room for its hash or its allowance does not start. -/
theorem pepperTileStart_idle (h : s.fget F.PEP_CTL_SHARE 0 = 0 ∨ window < 256 ∨ s.pepWindow core.val = false ∨ s.coreServes core.val = false ∨
      16 ≤ (s.pep.waiting (pepKey core.val unit.val)).length ∨ s.pep.left (pepKey core.val unit.val) < 2560000)
    (hNext : exec (.pepperTileStart core unit window hash tc) s = .next t) : SameBut [.fld .TC_NOW] s t := by
  rw [exec_pepperTileStart, execPepperTileStart, run_eq, on_timed] at hNext
  dsimp only at hNext
  rw [s.movedOn_fget tc (by decide), s.movedOn_pepWindow, s.movedOn_coreServes, s.movedOn_pep] at hNext
  have hStays {b : Bool} {e : Eff} (hb : b = false) (ht : Host.Outcome.next (Eff.on (when b e) (s.movedOn tc)) =
      (.next t : Host.Outcome State Fault Refusal)) : SameBut [.fld .TC_NOW] s t := by
    rw [hb, on_when_false] at ht
    cases ht
    exact s.movedOn_same tc
  refine hStays ?_ hNext
  rcases h with h | h | h | h | h | h
  · simp [h]
  · simp [Nat.not_le.2 h]
  · simp [h]
  · simp [h]
  · simp [Nat.not_lt.2 h]
  · simp [Nat.not_le.2 h]

/-- A tile with all it needs takes its 8 A, and its hash waits. -/
theorem pepperTileStart_starts (hShare : 0 < s.fget F.PEP_CTL_SHARE 0) (hWindow : 256 ≤ window) (hOpen : s.pepWindow core.val = true)
    (hRun : s.coreState core.val ≠ 3) (hServes : s.coreServes core.val = true) (hLeft : 2560000 ≤ s.pep.left (pepKey core.val unit.val))
    (hRoom : (s.pep.waiting (pepKey core.val unit.val)).length < 16)
    (hFirst : (s.power.refill (s.clockAt tc)).first (clusterOf core.val) = none)
    (hHolds : (s.power.refill (s.clockAt tc)).holds (clusterOf core.val) 8000 = true)
    (hNext : exec (.pepperTileStart core unit window hash tc) s = .next t) :
    t.power = (s.power.refill (s.clockAt tc)).debit (clusterOf core.val) 8000 ∧ t.pep.hashes = s.pep.hashes ++
      [(pepKey core.val unit.val, NMap.get 0 s.pep.tile (pepKey core.val unit.val), hash % 2 ^ 64, s.clockAt tc)] := by
  have hPower : (s.movedOn tc).power.refill (s.movedOn tc).tc = s.power.refill (s.clockAt tc) := by
    rw [s.movedOn_tc, State.movedOn, on_tcTo, Upd.fld_power]
  rw [exec_pepperTileStart, execPepperTileStart, run_eq, on_timed] at hNext
  dsimp only at hNext
  rw [hPower, s.movedOn_fget tc (by decide), s.movedOn_pepWindow, s.movedOn_coreServes, s.movedOn_pep, s.movedOn_coreState, s.movedOn_tc, hOpen,
    hServes, hFirst, hHolds, decide_eq_true hShare, decide_eq_true hWindow, decide_eq_true hLeft, decide_eq_true hRoom,
    beq_eq_false_iff_ne.2 hRun] at hNext
  cases hNext
  exact ⟨rfl, rfl⟩

end

/-! The comparison of two hashes (R624, R625). -/

/-- An effect behind a condition establishes what holds with and without it. -/
theorem on_when_establishes {P : State → Prop} {b : Bool} {e : Eff} {s : State} (hRuns : P (Eff.on e s)) (hStays : P s) :
    P (Eff.on (when b e) s) := by
  cases b
  · exact hStays
  · exact hRuns

/-- The record of a sweep starts no diagnosis. -/
theorem pepSweep_diag (s : State) : (Eff.on pepSweep s).pep.diag = s.pep.diag := by
  rw [pepSweep, on_rd]
  refine on_when_establishes (P := fun u => u.pep.diag = s.pep.diag) ?_ rfl
  rw [on_seq_pair]
  rfl

/-- Two hashes that have been compared wait no longer. -/
def PepSt.compared (x : PepSt) (a b : Nat × Nat × Nat × Nat) : PepSt := { x with hashes := x.hashes.filter (fun h => h != a && h != b) }

/-- What follows hashes that agree, and hashes that differ. -/
def hashesAgree (x : PepSt) : Eff := seq [upd [.pep x], pepSweep]
def hashesDiffer (x : PepSt) (w : Who) (detail : List (Nat × Nat)) : Eff :=
  seq [upd [.pep x], fsat F.PEP_STAT_MISMATCHES 0 1, raise 0x0A01 0 w detail]

theorem hashesAgree_spec (x : PepSt) {s t : State} (ht : t = Eff.on (hashesAgree x) s) : t.fget F.PEP_STAT_TILES 0 = s.fget F.PEP_STAT_TILES 0 ∧
    t.fget F.PEP_STAT_MISMATCHES 0 = s.fget F.PEP_STAT_MISMATCHES 0 ∧ t.pep.diag = x.diag := by
  have hOnly : (hashesAgree x).Only [.fld .PEP_SWEEP, .pep] :=
    only_seq₂ (only_upd (by simp [Upd.part])) (only_pepSweep (List.Subset.refl _))
  subst ht
  refine ⟨hOnly.fget (by decide) (by decide) (by decide) s 0, hOnly.fget (by decide) (by decide) (by decide) s 0, ?_⟩
  rw [hashesAgree, on_seq_pair, pepSweep_diag]
  rfl

theorem hashesDiffer_spec (x : PepSt) (w : Who) (detail : List (Nat × Nat)) {s t : State} (ht : t = Eff.on (hashesDiffer x w detail) s) :
    t.fget F.PEP_STAT_TILES 0 = s.fget F.PEP_STAT_TILES 0 ∧
    t.fget F.PEP_STAT_MISMATCHES 0 = min (s.fget F.PEP_STAT_MISMATCHES 0 + 1) (2 ^ F.PEP_STAT_MISMATCHES.len - 1) ∧ Raised s t 0x0A01 0 ∧
    t.pep.diag = x.diag := by
  rw [hashesDiffer, on_seq_cons, on_seq_pair] at ht
  subst ht
  refine ⟨?_, ?_, raised_raise _ _ _ _ rfl, rfl⟩
  · rw [on_raise, Upd.ev_fget, on_fsat, Upd.fget_fld_other (by decide)]
    rfl
  · rw [on_raise, Upd.ev_fget, fget_fsat (by decide)]
    rfl

section
variable {core : CoreId} {unit : Fin 76} {q : Nat} {s t : State}

theorem pepperCompare_alone (hPartner : s.partner core.val = none) (hNext : exec (.pepperCompare core unit) s = .next t) : t = s := by
  rw [exec_pepperCompare, execPepperCompare, run_eq, on_rd] at hNext
  dsimp only at hNext
  rw [hPartner] at hNext
  cases hNext
  rfl

/-- The oldest pair of waiting hashes of one tile, from a unit and its partner's. -/
def State.hashPair (s : State) (p q u : Nat) : Option ((Nat × Nat × Nat × Nat) × (Nat × Nat × Nat × Nat)) :=
  (s.pep.waiting (pepKey p u)).findSome? (fun a => ((s.pep.waiting (pepKey q u)).find? (fun b => b.2.1 == a.2.1)).map (fun b => (a, b)))

theorem pepperCompare_none (hPartner : s.partner core.val = some q) (hPair : s.hashPair core.val q unit.val = none)
    (hNext : exec (.pepperCompare core unit) s = .next t) : t = s := by
  rw [exec_pepperCompare, execPepperCompare, run_eq, on_rd] at hNext
  dsimp only at hNext
  rw [hPartner] at hNext
  dsimp only at hNext
  rw [← State.hashPair, hPair] at hNext
  cases hNext
  rfl

/-- A pair of hashes is counted, and then agrees or differs. -/
theorem pepperCompare_pair {a b : Nat × Nat × Nat × Nat} (hPartner : s.partner core.val = some q)
    (hPair : s.hashPair core.val q unit.val = some (a, b)) (hNext : exec (.pepperCompare core unit) s = .next t) :
    t = Eff.on (either (a.2.2.1 == b.2.2.1)
        (hashesAgree (((s.pep.compared a b).pass a.1 a.2.1 a.2.2.2).pass b.1 a.2.1 b.2.2.2))
        (hashesDiffer { s.pep.compared a b with diag := s.pep.diag ++ [(pepKey (min core.val q) unit.val, a.2.1, s.frame, 0)] }
          (s.who core.val unit.val) (pepDetail core.val q unit.val a.2.1))) (Eff.on (fadd F.PEP_STAT_TILES 0 1) s) := by
  rw [exec_pepperCompare, execPepperCompare, run_eq, on_rd] at hNext
  dsimp only at hNext
  rw [hPartner] at hNext
  dsimp only at hNext
  rw [← State.hashPair, hPair] at hNext
  dsimp only at hNext
  rw [on_seq_pair] at hNext
  cases hNext
  rfl

theorem pepperCompare_agree {a b : Nat × Nat × Nat × Nat} (hPartner : s.partner core.val = some q)
    (hPair : s.hashPair core.val q unit.val = some (a, b)) (hSame : a.2.2.1 = b.2.2.1) (hNext : exec (.pepperCompare core unit) s = .next t) :
    t.fget F.PEP_STAT_TILES 0 = (s.fget F.PEP_STAT_TILES 0 + 1) % 2 ^ F.PEP_STAT_TILES.len ∧
    t.fget F.PEP_STAT_MISMATCHES 0 = s.fget F.PEP_STAT_MISMATCHES 0 ∧ t.pep.diag = s.pep.diag := by
  have ht := pepperCompare_pair hPartner hPair hNext
  rw [hSame, beq_self_eq_true, on_either_true] at ht
  obtain ⟨hTiles, hMismatches, hDiag⟩ := hashesAgree_spec _ ht
  rw [on_fadd, Upd.fget_fld_same (by decide)] at hTiles
  rw [on_fadd, Upd.fget_fld_other (by decide)] at hMismatches
  exact ⟨hTiles, hMismatches, hDiag⟩

theorem pepperCompare_differ {a b : Nat × Nat × Nat × Nat} (hPartner : s.partner core.val = some q)
    (hPair : s.hashPair core.val q unit.val = some (a, b)) (hDiffer : a.2.2.1 ≠ b.2.2.1) (hNext : exec (.pepperCompare core unit) s = .next t) :
    t.fget F.PEP_STAT_TILES 0 = (s.fget F.PEP_STAT_TILES 0 + 1) % 2 ^ F.PEP_STAT_TILES.len ∧
    t.fget F.PEP_STAT_MISMATCHES 0 = min (s.fget F.PEP_STAT_MISMATCHES 0 + 1) (2 ^ F.PEP_STAT_MISMATCHES.len - 1) ∧ Raised s t 0x0A01 0 ∧
    t.pep.diag = s.pep.diag ++ [(pepKey (min core.val q) unit.val, a.2.1, s.frame, 0)] := by
  have ht := pepperCompare_pair hPartner hPair hNext
  rw [beq_eq_false_iff_ne.2 hDiffer, on_either_false] at ht
  obtain ⟨hTiles, hMismatches, hRaised, hDiag⟩ := hashesDiffer_spec _ _ _ ht
  rw [on_fadd, Upd.fget_fld_same (by decide)] at hTiles
  rw [on_fadd, Upd.fget_fld_other (by decide)] at hMismatches
  exact ⟨hTiles, hMismatches, raised_of_ev hRaised rfl rfl, hDiag⟩

end

/-! Diagnoses (R624). -/

/-- The parts that a repair may write: Pepper's own registers and records are none of them. -/
def repairParts : List Part := [.cores, .dbg, .ev, .faults, .flasks, .fld .CLU_CORES, .fld .CORE_MOULD, .fld .CORE_SC, .fld .CORE_SEQ,
  .fld .CORE_STAT, .fld .DBG_HOLD, .fld .LDL_CTX_n, .fld .ME_CAP, .fld .ME_STAT, .fld .MOD_BOOT_ERR, .fld .MOD_FAULT_STAT, .fld .MOD_GRID_STAT,
  .fld .MOD_MB_SUMMARY, .fld .MOD_ROW_MAP_r, .fld .PWR_CLUSTER_c, .fld .PWR_TILE_t, .fld .QUEUE_BASE, .fld .QUEUE_CTL, .fld .QUEUE_DB,
  .fld .QUEUE_LEVEL, .fld .QUEUE_STAT, .fld .QUEUE_WM, .fld .RUN_ERR, .fld .RUN_STAT, .fld .SE_STAT, .fld .SPD_ELASTIC, .fld .SPD_STAT,
  .fld .SPR_STAT, .fld .VU_STAT, .hostOut, .hports, .ldls, .mes, .msgs, .ports, .power, .queues, .seam, .ses, .slag, .slots, .vus]

theorem only_repair (kind loc reason : Nat) : Eff.Only repairParts (autoRepair kind loc reason) := only_autoRepair (List.Subset.refl _) kind loc reason

/-- The registers of the last culprit, as far as they stand between its core and its validity. -/
def culpritPlace (u n column : Nat) (localised : Bool) : Eff := seq [fset F.PEP_LAST_TYPE 0 (pepUnit u).1, fset F.PEP_LAST_UNIT 0 (pepUnit u).2,
  fset F.PEP_LAST_COMBO 0 (n % 14), fset F.PEP_LAST_COLUMN 0 column, fput F.PEP_LAST_LOCALISED 0 localised]

theorem keeps_culpritPlace_core (u n column : Nat) (localised : Bool) : (culpritPlace u n column localised).Keeps fun s => s.fget F.PEP_LAST_CORE 0 :=
  keeps_seq_cons (keeps_fset_other (by decide) _ _ _) <| keeps_seq_cons (keeps_fset_other (by decide) _ _ _) <|
    keeps_seq_cons (keeps_fset_other (by decide) _ _ _) <| keeps_seq₂ (keeps_fset_other (by decide) _ _ _) (keeps_fset_other (by decide) _ _ _)

theorem only_culpritPlace (u n column : Nat) (localised : Bool) : (culpritPlace u n column localised).Only [.fld .PEP_LAST] :=
  only_seq_cons (only_fset (by decide) _ _) <| only_seq_cons (only_fset (by decide) _ _) <| only_seq_cons (only_fset (by decide) _ _) <|
    only_seq₂ (only_fset (by decide) _ _) (only_fput (by decide) _ _)

/-- The effects of a culprit in groups: its count, its core, its place, its validity, and what follows them. -/
theorem on_seq_culprit (count core type unit combo column localised valid told repair : Eff) (s : State) :
    Eff.on (seq [count, core, type, unit, combo, column, localised, valid, told, repair]) s = Eff.on (seq [told, repair])
      (Eff.on valid (Eff.on (seq [type, unit, combo, column, localised]) (Eff.on core (Eff.on count s)))) := by
  simp only [on_seq_cons, on_seq_nil]

/-- A culprit is counted and captured, and its repair leaves that alone. -/
theorem pepCulprit_spec (p u n : Nat) (column : Option (Fin 32)) {s t : State} (ht : t = Eff.on (pepCulprit p u n column) s) :
    t.fget F.PEP_RESOLVE_CULPRITS 0 = min (s.fget F.PEP_RESOLVE_CULPRITS 0 + 1) (2 ^ F.PEP_RESOLVE_CULPRITS.len - 1) ∧
    t.fget F.PEP_LAST_CORE 0 = p % 2 ^ F.PEP_LAST_CORE.len ∧ t.fget F.PEP_LAST_VALID 0 = 1 := by
  obtain ⟨c, l, w, d, e, ht, he⟩ : ∃ c l w d e, t = Eff.on (seq [raise 0x0A02 1 w d, e])
      (Eff.on (fset F.PEP_LAST_VALID 0 1) (Eff.on (culpritPlace u n c l) (Eff.on (fset F.PEP_LAST_CORE 0 p)
        (Eff.on (fsat F.PEP_RESOLVE_CULPRITS 0 1) s)))) ∧ Eff.Only repairParts e := by
    rw [pepCulprit, on_rd] at ht
    dsimp only at ht
    rw [on_seq_culprit] at ht
    refine ⟨_, _, _, _, _, ht, ?_⟩
    split
    · exact only_ite (only_repair _ _ _) (only_repair _ _ _)
    · exact only_repair _ _ _
  have hEnd : Eff.Only repairParts (seq [raise 0x0A02 1 w d, e]) := only_seq₂ (only_raise (by decide) _ _ _ _) he
  have hPlace := only_culpritPlace u n c l
  subst ht
  refine ⟨?_, ?_, ?_⟩
  · rw [hEnd.fget (by decide) (by decide) (by decide), on_fset, Upd.fget_fld_other (by decide), hPlace.fget (by decide) (by decide) (by decide), on_fset,
      Upd.fget_fld_other (by decide), fget_fsat (by decide)]
  · rw [hEnd.fget (by decide) (by decide) (by decide), on_fset, Upd.fget_fld_other (by decide)]
    exact (keeps_culpritPlace_core u n c l _).trans (Upd.fget_fld_same (by decide) ..)
  · rw [hEnd.fget (by decide) (by decide) (by decide), on_fset, Upd.fget_fld_same (by decide)]
    rfl

section
variable {core : CoreId} {unit : Fin 76} {result : PepRun} {d : Nat × Nat × Nat × Nat} {s t : State}

/-- The diagnosis of a unit that is under way. -/
def State.diagOf (s : State) (key : Nat) : Option (Nat × Nat × Nat × Nat) := s.pep.diag.find? (fun d => d.1 == key)

theorem pepperDiagnostic_none (h : s.diagOf (pepKey core.val unit.val) = none) (hNext : exec (.pepperDiagnostic core unit result) s = .next t) :
    t = s := by
  rw [exec_pepperDiagnostic, execPepperDiagnostic, run_eq, on_rd] at hNext
  dsimp only at hNext
  rw [← State.diagOf, h] at hNext
  cases hNext
  rfl

/-- A diagnosis that ends. -/
def diagnosisDone (s : State) (d : Nat × Nat × Nat × Nat) : Eff := upd [.pep { s.pep with diag := s.pep.diag.filter (fun x => x != d) }]

theorem diagnosisDone_fget (s : State) (d : Nat × Nat × Nat × Nat) (f : Fld) (i : Nat) : (Eff.on (diagnosisDone s d) s).fget f i = s.fget f i := rfl

/-- The end of a diagnostic run of a pair: by its results the run is a transient, names a culprit, is made again or counts as unresolved. -/
theorem pepperDiagnostic_run (h : s.diagOf (pepKey core.val unit.val) = some d) (hNext : exec (.pepperDiagnostic core unit result) s = .next t) :
    t = Eff.on (
      if (result.complete && decide (s.frame ≤ d.2.2.1 + 64)) = true ∧ result.first = result.second ∧ result.second = result.referee then
        seq [diagnosisDone s d, fsat F.PEP_RESOLVE_TRANSIENTS 0 1, raise 0x0A03 0 (s.who core.val unit.val)
          (pepDetail core.val ((s.partner core.val).getD core.val) unit.val d.2.1)]
      else if (result.complete && decide (s.frame ≤ d.2.2.1 + 64)) = true ∧ result.referee = result.first ∧ result.first ≠ result.second then
        seq [diagnosisDone s d, pepCulprit ((s.partner core.val).getD core.val) unit.val d.2.1 result.column]
      else if (result.complete && decide (s.frame ≤ d.2.2.1 + 64)) = true ∧ result.referee = result.second ∧ result.first ≠ result.second then
        seq [diagnosisDone s d, pepCulprit core.val unit.val d.2.1 result.column]
      else if d.2.2.2 = 0 then upd [.pep { s.pep with diag := s.pep.diag.map (fun x => if x == d then (d.1, d.2.1, s.frame, 1) else x) }]
      else seq [diagnosisDone s d, fsat F.PEP_RESOLVE_UNRESOLVED 0 1, raise 0x0A04 1 (s.who core.val unit.val)
          (pepDetail core.val ((s.partner core.val).getD core.val) unit.val d.2.1), autoRepair 1 core.val 4,
        autoRepair 1 ((s.partner core.val).getD core.val) 4]) s := by
  obtain ⟨key, n, since, tries⟩ := d
  rw [exec_pepperDiagnostic, execPepperDiagnostic, run_eq, on_rd] at hNext
  dsimp only at hNext
  rw [← State.diagOf, h] at hNext
  cases hNext
  rfl

/-- The run is whole and in time. -/
theorem diagnosis_valid (hComplete : result.complete = true) (hFrame : s.frame ≤ d.2.2.1 + 64) :
    (result.complete && decide (s.frame ≤ d.2.2.1 + 64)) = true := by
  rw [hComplete, decide_eq_true hFrame, Bool.and_self]

/-- Three equal results are a transient. -/
theorem pepperDiagnostic_transient (h : s.diagOf (pepKey core.val unit.val) = some d) (hComplete : result.complete = true)
    (hFrame : s.frame ≤ d.2.2.1 + 64) (hPair : result.first = result.second) (hAll : result.second = result.referee)
    (hNext : exec (.pepperDiagnostic core unit result) s = .next t) :
    t.fget F.PEP_RESOLVE_TRANSIENTS 0 = min (s.fget F.PEP_RESOLVE_TRANSIENTS 0 + 1) (2 ^ F.PEP_RESOLVE_TRANSIENTS.len - 1) ∧
    Raised s t 0x0A03 0 ∧ t.pep.diag = s.pep.diag.filter (fun x => x != d) := by
  have ht := pepperDiagnostic_run h hNext
  rw [if_pos ⟨diagnosis_valid hComplete hFrame, hPair, hAll⟩, on_seq_cons, on_seq_pair] at ht
  subst ht
  refine ⟨?_, raised_raise _ _ _ _ rfl, rfl⟩
  rw [on_raise, Upd.ev_fget, fget_fsat (by decide)]
  rfl

/-- A unit that differs from its partner and the referee is the culprit: the partner where the referee sides with the unit under test. -/
theorem pepperDiagnostic_partner (h : s.diagOf (pepKey core.val unit.val) = some d) (hComplete : result.complete = true)
    (hFrame : s.frame ≤ d.2.2.1 + 64) (hSides : result.referee = result.first) (hDiffer : result.first ≠ result.second)
    (hNext : exec (.pepperDiagnostic core unit result) s = .next t) :
    t.fget F.PEP_RESOLVE_CULPRITS 0 = min (s.fget F.PEP_RESOLVE_CULPRITS 0 + 1) (2 ^ F.PEP_RESOLVE_CULPRITS.len - 1) ∧
    t.fget F.PEP_LAST_CORE 0 = (s.partner core.val).getD core.val % 2 ^ F.PEP_LAST_CORE.len ∧ t.fget F.PEP_LAST_VALID 0 = 1 := by
  have ht := pepperDiagnostic_run h hNext
  rw [if_neg fun hAll => hDiffer hAll.2.1, if_pos ⟨diagnosis_valid hComplete hFrame, hSides, hDiffer⟩, on_seq_pair] at ht
  obtain ⟨hCount, hCaptured⟩ := pepCulprit_spec _ _ _ _ ht
  exact ⟨hCount.trans (by rw [diagnosisDone_fget]), hCaptured⟩

theorem pepperDiagnostic_own (h : s.diagOf (pepKey core.val unit.val) = some d) (hComplete : result.complete = true)
    (hFrame : s.frame ≤ d.2.2.1 + 64) (hSides : result.referee = result.second) (hDiffer : result.first ≠ result.second)
    (hNext : exec (.pepperDiagnostic core unit result) s = .next t) :
    t.fget F.PEP_RESOLVE_CULPRITS 0 = min (s.fget F.PEP_RESOLVE_CULPRITS 0 + 1) (2 ^ F.PEP_RESOLVE_CULPRITS.len - 1) ∧
    t.fget F.PEP_LAST_CORE 0 = core.val % 2 ^ F.PEP_LAST_CORE.len ∧ t.fget F.PEP_LAST_VALID 0 = 1 := by
  have ht := pepperDiagnostic_run h hNext
  rw [if_neg fun hAll => hDiffer hAll.2.1, if_neg fun hFirst => hDiffer (hFirst.2.1.symm.trans hSides),
    if_pos ⟨diagnosis_valid hComplete hFrame, hSides, hDiffer⟩, on_seq_pair] at ht
  obtain ⟨hCount, hCaptured⟩ := pepCulprit_spec _ _ _ _ ht
  exact ⟨hCount.trans (by rw [diagnosisDone_fget]), hCaptured⟩

/-- A run that is not whole, late or names neither is made again once, and then counts as unresolved. -/
theorem pepperDiagnostic_unresolved (h : s.diagOf (pepKey core.val unit.val) = some d) (hOpen : result.complete = false ∨ d.2.2.1 + 64 < s.frame ∨
      (result.referee ≠ result.first ∧ result.referee ≠ result.second)) (hNext : exec (.pepperDiagnostic core unit result) s = .next t) :
    (d.2.2.2 = 0 → t.pep.diag = s.pep.diag.map (fun x => if x == d then (d.1, d.2.1, s.frame, 1) else x)) ∧
    (d.2.2.2 ≠ 0 → t.fget F.PEP_RESOLVE_UNRESOLVED 0 = min (s.fget F.PEP_RESOLVE_UNRESOLVED 0 + 1) (2 ^ F.PEP_RESOLVE_UNRESOLVED.len - 1)) := by
  have hNone {P : Prop} (hSides : P → result.referee = result.first ∨ result.referee = result.second) :
      ¬((result.complete && decide (s.frame ≤ d.2.2.1 + 64)) = true ∧ P) := by
    rintro ⟨hValid, hP⟩
    rw [Bool.and_eq_true, decide_eq_true_iff] at hValid
    rcases hOpen with hOpen | hOpen | ⟨hFirst, hSecond⟩
    · rw [hOpen] at hValid
      exact absurd hValid.1 (by decide)
    · omega
    · exact (hSides hP).elim hFirst hSecond
  have ht := pepperDiagnostic_run h hNext
  rw [if_neg (hNone fun hAll => .inr hAll.2.symm), if_neg (hNone fun hFirst => .inl hFirst.1), if_neg (hNone fun hSecond => .inr hSecond.1)] at ht
  refine ⟨fun hFirst => ?_, fun hAgain => ?_⟩
  · rw [if_pos hFirst] at ht
    rw [ht]
    rfl
  · have hRepairs (w : Who) (l : List (Nat × Nat)) (p q : Nat) : Eff.Only repairParts (seq [raise 0x0A04 1 w l, autoRepair 1 p 4, autoRepair 1 q 4]) :=
      only_seq₃ (only_raise (by decide) _ _ _ _) (only_repair _ _ _) (only_repair _ _ _)
    rw [if_neg hAgain, on_seq_cons, on_seq_cons] at ht
    rw [ht, (hRepairs _ _ _ _).fget (by decide) (by decide) (by decide), fget_fsat (by decide)]
    rfl

end

/-! Spare cores (R586, R626). -/

/-- A unit recorded as fenced is fenced, whether an entry for it stood or not. -/
theorem slagPut_fenced {e : SlagEntry} (he : e.state = 1) (l : List SlagEntry) :
    ∃ x, (slagPut e l).find? (fun x => x.kind == e.kind && x.location == e.location) = some x ∧ x.state = 1 := by
  induction l with
  | nil => exact ⟨e, by simp [slagPut], he⟩
  | cons y ys ih =>
    rw [slagPut]
    by_cases hy : y.kind = e.kind ∧ y.location = e.location
    · rw [if_pos hy]
      split
      · next hFenced => exact ⟨y, by simp [hy], hFenced⟩
      · exact ⟨e, by simp, he⟩
    · rw [if_neg hy, List.find?_cons_of_neg (by simpa using hy)]
      exact ih

/-- A core recorded as fenced is not healthy. -/
theorem healthy_slagRecord (reason p spare : Nat) (s : State) : (Eff.on (slagRecord 1 1 reason p spare) s).healthy p = false := by
  obtain ⟨x, hFind, hFenced⟩ := slagPut_fenced (e := { kind := 1, state := 1, reason, flags := 0, location := p, spare, tc := s.tc }) rfl s.slag.run
  have hEntry : (Eff.on (slagRecord 1 1 reason p spare) s).slagEntry 1 p = some x := hFind
  rw [State.healthy, hEntry]
  simp [hFenced]

section
variable {core : CoreId} {culprit : Bool} {s t : State}

theorem spareCoreCheck_idle (h : culprit = false ∨ s.healthy core.val = false ∨ (s.logOf core.val).isSome = true)
    (hNext : exec (.spareCoreCheck core culprit) s = .next t) : t = s := by
  have hIdle : (culprit && s.healthy core.val && (s.logOf core.val).isNone) = false := by
    rcases h with h | h | h
    · simp [h]
    · simp [h]
    · simp [Option.isNone_eq_false_iff.2 h]
  rw [exec_spareCoreCheck, execSpareCoreCheck, run_eq, on_rd] at hNext
  dsimp only at hNext
  rw [hIdle, on_when_false] at hNext
  cases hNext
  rfl

/-- A healthy core without a logical column that is found at fault is fenced. -/
theorem spareCoreCheck_fences (hCulprit : culprit = true) (hHealthy : s.healthy core.val = true) (hSpare : s.logOf core.val = none)
    (hNext : exec (.spareCoreCheck core culprit) s = .next t) : t.healthy core.val = false := by
  have hMay : (culprit && s.healthy core.val && (s.logOf core.val).isNone) = true := by simp [hCulprit, hHealthy, hSpare]
  have hRest (b : Bool) (n : Nat) : Eff.Only [.ev, .fld .CLU_CORES, .fld .CORE_STAT, .fld .MOD_GRID_STAT] (seq [gridStatus,
      fset F.MOD_GRID_STAT_SPARES 0 n, raiseFenced 1 4 core.val, when b (raiseExhausted 1 core.val)]) :=
    only_seq₄ (only_gridStatus (by decide)) (only_fset (by decide) _ _) (only_raiseFenced (by decide) _ _ _)
      (only_when fun _ => only_raiseExhausted (by decide) _ _)
  rw [exec_spareCoreCheck, execSpareCoreCheck, run_eq, on_rd] at hNext
  dsimp only at hNext
  rw [hMay, on_when_true, on_seq_cons] at hNext
  cases hNext
  rw [State.healthy, State.slagEntry, (hRest _ _).frame_slag (by decide)]
  exact healthy_slagRecord 4 core.val 0xFFFF s

end

/-! Redundancy (R627 to R630). -/

section
variable {k : Fin 17} {s t : State}

/-- MB_REDUNDANCY_SET acts on the flask its arguments name. -/
theorem mbRedundancySet_runs (h : s.mbRuns k.val 0x0304 = true) (hNext : exec (.mbRedundancySet k) s = .next t) : t = Eff.on (
    if !(s.flask (leAt (s.slot k.val).args 0 1)).live then mbFail k.val 0x0213
    else if (s.flask (leAt (s.slot k.val).args 0 1)).active.present || (s.flask (leAt (s.slot k.val).args 0 1)).staged.present then
      mbFail k.val 0x0210
    else if (leAt (s.slot k.val).args 1 1 == 1) && !(s.flask (leAt (s.slot k.val).args 0 1)).cores.all (fun l =>
        (s.flask (leAt (s.slot k.val).args 0 1)).cores.elem (pairOf l) && (s.physOf (pairOf l)).isSome) then mbFail k.val 0x0304
    else seq [onFlask (leAt (s.slot k.val).args 0 1) (fun x => { x with redundant := leAt (s.slot k.val).args 1 1 == 1 }), mbDone k.val 0]) s := by
  rw [exec_mbRedundancySet, execMbRedundancySet, run_eq, mbCommand_runs h] at hNext
  cases hNext
  rfl

/-- Every core of a flask has its partner in the flask, at a physical column. -/
theorem pairs_iff (l : List Nat) (s : State) : l.all (fun c => l.elem (pairOf c) && (s.physOf (pairOf c)).isSome) = true ↔
    ∀ c, c ∈ l → pairOf c ∈ l ∧ (s.physOf (pairOf c)).isSome = true := by
  simp only [List.all_eq_true, Bool.and_eq_true, List.elem_eq_mem, decide_eq_true_eq]

/-- The flask's mode is set, and the command is done. -/
theorem redundancySet_done (f : Nat) (on : Bool) (ht : t = Eff.on (seq [onFlask f (fun x => { x with redundant := on }), mbDone k.val 0]) s) :
    SlotDone t k.val 0 ∧ (t.flask f).redundant = on := by
  rw [on_seq_pair] at ht
  subst ht
  exact ⟨slotDone_mbDone .., by rw [(only_mbDone_parts _ _).flask (by decide), onFlask_same]⟩

end

section
variable {f p u tag tileTc primary shadow : Nat} {s t : State}

/-- Hashes outside a flask that runs in redundancy are left alone. -/
theorem redundancyBad_idle (hFlask : ∀ f, s.flaskOf p = some f → (s.flask f).redundant = false ∨ s.flaskIn f 3 = false) :
    Eff.on (redundancyBad p u tag tileTc primary shadow) s = s := by
  rw [redundancyBad, on_rd]
  cases hOwner : s.flaskOf p with
  | none => rfl
  | some f =>
    have hIdle : ((s.flask f).redundant && s.flaskIn f 3) = false := by rcases hFlask f hOwner with h | h <;> simp [h]
    dsimp only
    rw [hIdle, on_when_false]

/-- A contained fault raises its event and unloads the flask, and a beacon of the pour leaves both. -/
theorem contain_spec (f code : Nat) (w : Who) (detail : List (Nat × Nat)) (ht : t = Eff.on (contain f code w detail) s) :
    Raised s t code 2 ∧ (t.flask f).active = MouldSt.none := by
  have hBeacon (b : Bool) : Eff.Only [.faults, .fld .MOD_FAULT_STAT, .msgs] (when b (fenceBeacon 0x10 w.core w.cluster code f 0)) :=
    only_when fun _ => only_fenceBeacon (List.Subset.refl _) _ _ _ _ _ _
  rw [contain, on_rd, on_seq_cons, on_seq_pair] at ht
  subst ht
  refine ⟨raised_of_ev (raised_raise code 2 w detail rfl) rfl ?_, ?_⟩
  · rw [(hBeacon _).frame_ev (by decide), (only_flaskReset (List.Subset.refl _) f).frame_ev (by decide)]
  · rw [(hBeacon _).flask (by decide), flask_flaskReset]
    rfl

/-- Hashes that differ contain a flask that runs in redundancy. -/
theorem redundancyBad_contains (hOwner : s.flaskOf p = some f) (hMode : (s.flask f).redundant = true) (hRuns : s.flaskIn f 3 = true)
    (ht : t = Eff.on (redundancyBad p u tag tileTc primary shadow) s) : Raised s t 0x0A05 2 ∧ (t.flask f).active = MouldSt.none := by
  rw [redundancyBad, on_rd, hOwner] at ht
  dsimp only at ht
  rw [hMode, hRuns, Bool.and_self, on_when_true] at ht
  exact contain_spec _ _ _ _ ht

/-- What becomes of a flask draws no free value. -/
theorem redundancyBad_freeCtr (s : State) : (Eff.on (redundancyBad p u tag tileTc primary shadow) s).freeCtr = s.freeCtr := by
  rw [redundancyBad, on_rd]
  cases s.flaskOf p with
  | none => rfl
  | some f =>
    exact on_when_establishes (P := fun t => t.freeCtr = s.freeCtr) ((only_contain (List.Subset.refl _) _ _ _ _).frame_freeCtr (by decide) s) rfl

end

end Sys2Proof.Machine

namespace Sys2Proof.Proofs
open Sys2Proof.Machine

/-- Settles O30: a tile starts with all it needs, a pair of hashes agrees or differs, and a diagnostic run ends by its three results. -/
theorem pepperCommandsAct : Obligations.PepperCommandsAct := by
  refine ⟨fun core unit window hash tc s => ?tile, fun core unit s => ?compare, fun core unit result s => ?diagnostic,
    fun core culprit s => ?spare, fun k s => ?share, fun k s => ?redundancySet, fun core unit tag primary shadow tileTc s => ?redundancy,
    fun core unit tag hash tileTc s => ?timeout⟩
  case tile =>
    have hTime := takesTime_pepperTileStart core unit window hash tc s _ rfl
    refine ⟨_, rfl, frame_execPepperTileStart core unit window hash tc s rfl, hTime, fun h => pepperTileStart_idle h rfl,
      fun pw hpw hShare hWindow hOpen hRun hServes hLeft hRoom hFirst hHolds => ?_⟩
    subst hpw
    rw [hTime]
    exact pepperTileStart_starts hShare hWindow hOpen hRun hServes hLeft hRoom hFirst hHolds rfl
  case compare =>
    refine ⟨_, rfl, frame_execPepperCompare core unit s rfl, fun h => pepperCompare_alone h rfl, fun q m hPartner hm =>
      ⟨fun hNone => pepperCompare_none hPartner (hm.symm.trans hNone) rfl, fun hSome => ?_, fun a b hPair hSame => ?_, fun a b hPair hDiffer => ?_⟩⟩
    · obtain ⟨⟨a, b⟩, hPair⟩ := Option.ne_none_iff_exists'.1 hSome
      by_cases hSame : a.2.2.1 = b.2.2.1
      · exact (pepperCompare_agree hPartner (hm.symm.trans hPair) hSame rfl).1
      · exact (pepperCompare_differ hPartner (hm.symm.trans hPair) hSame rfl).1
    · exact (pepperCompare_agree hPartner (hm.symm.trans hPair) hSame rfl).2
    · exact (pepperCompare_differ hPartner (hm.symm.trans hPair) hDiffer rfl).2
  case diagnostic =>
    exact ⟨_, rfl, frame_execPepperDiagnostic core unit result s rfl, fun h => pepperDiagnostic_none h rfl,
      fun d h hComplete hFrame hPair hAll => pepperDiagnostic_transient h hComplete hFrame hPair hAll rfl,
      fun d h hComplete hFrame hSides hDiffer => pepperDiagnostic_partner h hComplete hFrame hSides hDiffer rfl,
      fun d h hComplete hFrame hSides hDiffer => pepperDiagnostic_own h hComplete hFrame hSides hDiffer rfl,
      fun d h hOpen => pepperDiagnostic_unresolved h hOpen rfl⟩
  case spare =>
    exact ⟨_, rfl, frame_execSpareCoreCheck core culprit s rfl, fun h => spareCoreCheck_idle h rfl,
      fun hCulprit hHealthy hSpare => spareCoreCheck_fences hCulprit hHealthy hSpare rfl⟩
  case share =>
    refine ⟨_, rfl, frame_execMbPepperSet k s rfl, fun h => ?_, mbCommand_idle⟩
    rw [mbCommand_runs h, on_rd, on_seq_pair]
    exact ⟨slotDone_mbDone .., (only_mbDone_parts _ _).frame_pep (by decide) _⟩
  case redundancySet =>
    refine ⟨_, rfl, frame_execMbRedundancySet k s rfl, fun h hDead => ?_, fun h hLive hMould => ?_, fun h hLive hActive hStaged hOff => ?_,
      fun h hLive hActive hStaged hOn => ⟨fun hPairs => ?_, fun hPairs => ?_⟩, mbCommand_idle⟩ <;> rw [mbRedundancySet_runs h rfl]
    · rw [if_pos (by simp [hDead])]
      exact mbFail_spec ..
    · rw [if_neg (by simp [hLive]), if_pos (by simpa using hMould)]
      exact mbFail_spec ..
    all_goals rw [if_neg (by simp [hLive]), if_neg (by simp [hActive, hStaged])]
    · rw [if_neg (by simp [hOff])]
      exact (redundancySet_done _ _ rfl).imp id fun hMode => hMode.trans (beq_eq_false_iff_ne.2 hOff)
    · rw [(pairs_iff _ s).2 hPairs, if_neg (by simp)]
      exact (redundancySet_done _ _ rfl).imp id fun hMode => hMode.trans (beq_iff_eq.2 hOn)
    · rw [Bool.eq_false_of_not_eq_true (mt (pairs_iff _ s).1 hPairs), beq_iff_eq.2 hOn, if_pos (by decide)]
      exact mbFail_spec ..
  case redundancy =>
    refine ⟨_, rfl, frame_execRedundancyCompare core unit tag primary shadow tileTc s rfl, fun hSame => ?_, fun hNone => ?_,
      fun f hDiffer hOwner => ⟨fun hIdle => ?_, fun hMode hRuns => ?_⟩⟩
    · rw [bne_eq_false_iff_eq.2 hSame, on_when_false]
    · exact on_when_establishes (P := fun u => u = s) (redundancyBad_idle fun f hOwner => absurd (hNone.symm.trans hOwner) nofun) rfl
    · exact on_when_establishes (P := fun u => u = s) (redundancyBad_idle fun g hOwner' => Option.some.inj (hOwner.symm.trans hOwner') ▸ hIdle) rfl
    · rw [bne_iff_ne.2 hDiffer, on_when_true]
      exact redundancyBad_contains hOwner hMode hRuns rfl
  case timeout =>
    refine ⟨_, rfl, frame_execRedundancyHashTimeout core unit tag hash tileTc s rfl, ?_, fun hNone => ?_,
      fun f hOwner => ⟨fun hIdle => ?_, fun hMode hRuns => ?_⟩⟩ <;> rw [on_draw]
    · exact redundancyBad_freeCtr ..
    · rw [redundancyBad_idle (s := (Upd.freeCtr (s.freeCtr + 1)).apply s) fun f hOwner => absurd (hNone.symm.trans hOwner) nofun]
      exact ⟨rfl, rfl⟩
    · rw [redundancyBad_idle (s := (Upd.freeCtr (s.freeCtr + 1)).apply s) fun g hOwner' =>
        Option.some.inj (hOwner.symm.trans hOwner') ▸ hIdle]
      exact ⟨rfl, rfl⟩
    · obtain ⟨hRaised, hGone⟩ := redundancyBad_contains (s := (Upd.freeCtr (s.freeCtr + 1)).apply s) hOwner hMode hRuns rfl
      exact ⟨raised_of_ev hRaised rfl rfl, hGone⟩

end Sys2Proof.Proofs
end

section
/-! Boot: what the boot stages leave in STAGE and READY, and what resets keep (R572 to R580, R699). -/
namespace Sys2Proof.Machine

/-! What a reset keeps (R572, R580). -/

/-- A register that a reset keeps reads as before, but for the two fields of SAF_STAT that end with it. -/
theorem fget_clearAll {keep : List Nat} {f : Fld} (hf : f.inReg = true) (hKeep : keep.elem f.reg.ix = true) (hr : f.reg ≠ .SAF_STAT) (i : Nat)
    (s : State) : (Eff.on (clearAll keep) s).fget f i = s.fget f i := by
  have hFields : Eff.Only [.fld .SAF_STAT] (seq [fset F.SAF_STAT_SEALED 0 0, fset F.SAF_STAT_RELEASE_KEY 0 0]) :=
    only_seq₂ (only_fset (by decide) _ _) (only_fset (by decide) _ _)
  have hKey : regOfKey (f.key i) = f.reg.ix := by
    have hLt := Reg.ix_lt f.reg
    rw [Fld.inReg_iff] at hf
    unfold regOfKey Fld.key
    omega
  rw [clearAll, on_rd, on_seq_cons, hFields.fget hf (by decide) (by simpa using hr), on_upd, applyAll_cons]
  change ((Upd.fldsKeep keep).apply s).fget f i = s.fget f i
  exact NMap.get_filter _ _ _ _ fun _ => hKey ▸ hKeep

/-! The boot stage and READY (R580). -/

/-- The boot stage and READY, as BOOT_STAT shows them. -/
def State.bootAt (s : State) : Nat × Nat := (s.fget F.MOD_BOOT_STAT_STAGE 0, s.fget F.MOD_BOOT_STAT_READY 0)

theorem Eff.Only.bootAt {ps : List Part} {e : Eff} (h : e.Only ps) (hp : Part.flds ∉ ps ∧ Part.fld .MOD_BOOT_STAT ∉ ps) : e.Keeps State.bootAt := by
  obtain ⟨hFlds, hReg⟩ := hp
  intro s
  rw [State.bootAt, h.fget (by decide) hFlds hReg, h.fget (by decide) hFlds hReg, State.bootAt]

theorem bootAt_fset_stage (v : Nat) (s : State) :
    (Eff.on (fset F.MOD_BOOT_STAT_STAGE 0 v) s).bootAt = (v % 2 ^ F.MOD_BOOT_STAT_STAGE.len, s.fget F.MOD_BOOT_STAT_READY 0) := by
  rw [State.bootAt, on_fset, Upd.fget_fld_same (by decide), Upd.fget_fld_other (by decide)]

/-- The boot has come to an end: READY, or RECOVERY (R579, R580). -/
def State.booted (s : State) : Prop :=
  s.fget F.MOD_BOOT_STAT_STAGE 0 = 8 ∨ s.fget F.MOD_BOOT_STAT_STAGE 0 = 7 ∧ s.fget F.MOD_BOOT_STAT_READY 0 = 1

theorem Eff.Keeps.stage {e : Eff} (h : e.Keeps State.bootAt) (s : State) : (Eff.on e s).stage = s.stage := congrArg Prod.fst (h s)

theorem stage_fset (v : Nat) (s : State) : (Eff.on (fset F.MOD_BOOT_STAT_STAGE 0 v) s).stage = v % 2 ^ F.MOD_BOOT_STAT_STAGE.len :=
  congrArg Prod.fst (bootAt_fset_stage v s)

/-- The last of a list of effects that sets the stage, with effects after it that leave it. -/
theorem stage_set {e : Eff} (h : e.Keeps State.bootAt) (v : Nat) (s : State) :
    (Eff.on e (Eff.on (fset F.MOD_BOOT_STAT_STAGE 0 v) s)).stage = v % 2 ^ F.MOD_BOOT_STAT_STAGE.len := by
  rw [h.stage, stage_fset]

/-! The image (R577 to R579). -/

/-- An image that takes over puts the boot in stage 3. -/
theorem imageRuns_stage (n : Nat) (fallback : Bool) (s : State) : (Eff.on (imageRuns n fallback) s).stage = 3 := by
  have hKeep : (releaseDraw).Keeps State.bootAt := (only_releaseDraw (List.Subset.refl _)).bootAt (by decide)
  rw [imageRuns, on_rd]
  dsimp only
  rw [on_seq_cons, on_seq_cons, on_seq_cons, on_seq_pair, hKeep.stage, State.stage, on_fput, Upd.fget_fld_other (by decide), on_fset,
    Upd.fget_fld_other (by decide)]
  exact stage_fset 3 _

theorem recovery_stage (s : State) : (Eff.on recovery s).stage = 8 := stage_fset 8 s

/-- A choice between effects establishes what each of them does. -/
theorem on_ite_establishes {P : State → Prop} {c : Prop} [Decidable c] {e e' : Eff} {s : State} (h : P (Eff.on e s)) (h' : P (Eff.on e' s)) :
    P (Eff.on (if c then e else e') s) := by
  split
  · exact h
  · exact h'

/-- The boot image is found, or the module goes to RECOVERY. -/
theorem imageLoad_stage (env : BootEnv) (s : State) : (Eff.on (imageLoad env) s).stage = 3 ∨ (Eff.on (imageLoad env) s).stage = 8 := by
  have hRuns (n : Nat) (fallback : Bool) (s : State) := Or.inl (b := (Eff.on (imageRuns n fallback) s).stage = 8) (imageRuns_stage n fallback s)
  have hRecovers (s : State) := Or.inr (a := (Eff.on recovery s).stage = 3) (recovery_stage s)
  rw [imageLoad, on_rd]
  dsimp only
  rw [on_seq_cons, on_seq_cons, on_seq_pair]
  refine on_ite_establishes (P := fun t => t.stage = 3 ∨ t.stage = 8) (hRecovers _) (on_ite_establishes (P := fun t => t.stage = 3 ∨ t.stage = 8) ?_ ?_)
  · rw [on_seq_pair]
    exact hRecovers _
  · rw [on_seq_cons, on_seq_cons, on_seq_pair]
    refine on_ite_establishes (P := fun t => t.stage = 3 ∨ t.stage = 8) (hRuns _ _ _) ?_
    rw [on_seq_cons, on_seq_pair]
    exact on_ite_establishes (P := fun t => t.stage = 3 ∨ t.stage = 8) (hRuns _ _ _) (hRecovers _)

/-! The stages after it (R580). -/

section
variable {env : BootEnv} {stage : Nat} {e : Eff} {s : State}

theorem upTo_runs (hEnv : env.stageFault = none) (h : stage < 3 ∨ stage ≤ s.stage + 1 ∧ s.stage < 8) : Eff.on (upTo env stage e) s = Eff.on e s := by
  have hRuns : (decide (stage < 3) || (decide (s.fget F.MOD_BOOT_STAT_STAGE 0 + 1 ≥ stage) && decide (s.fget F.MOD_BOOT_STAT_STAGE 0 < 8))) = true := by
    rw [State.stage] at h
    rcases h with h | ⟨hBelow, hImage⟩
    · simp [h]
    · simp [hBelow, hImage]
  rw [upTo, on_rd, hEnv, hRuns]
  exact on_when_true e s

/-- In RECOVERY no stage that needs the image runs. -/
theorem upTo_recovery (hStage : 3 ≤ stage) (h : s.stage = 8) : Eff.on (upTo env stage e) s = s := by
  have hStays : (decide (stage < 3) || (decide (s.fget F.MOD_BOOT_STAT_STAGE 0 + 1 ≥ stage) && decide (s.fget F.MOD_BOOT_STAT_STAGE 0 < 8))) = false := by
    rw [State.stage] at h
    simp [h, Nat.not_lt.2 hStage]
  rw [upTo, on_rd, hStays, Bool.and_false, on_when_false]

end

/-- Stages 4 to 7, each of which ends in its own number, lead an image that runs to READY, and leave RECOVERY as it is. -/
theorem bootSteps_booted {env : BootEnv} {a b c d e : Eff} (hEnv : env.stageFault = none) (ha : ∀ s, (Eff.on a s).stage = 4)
    (hb : ∀ s, (Eff.on b s).stage = 5) (hc : ∀ s, (Eff.on c s).stage = 6) (hd : ∀ s, (Eff.on d s).bootAt = (7, 1)) (he : ∀ s, Eff.on e s = s) {s : State}
    (h : s.stage = 3 ∨ s.stage = 8) : (Eff.on (seq [upTo env 4 a, upTo env 5 b, upTo env 6 c, upTo env 7 d, e]) s).booted := by
  rw [on_seq_cons, on_seq_cons, on_seq_cons, on_seq_pair, he]
  rcases h with h | h
  · have hReady := hd (Eff.on c (Eff.on b (Eff.on a s)))
    rw [upTo_runs (stage := 4) hEnv (by omega), upTo_runs (stage := 5) hEnv (.inr (by rw [ha]; decide)),
      upTo_runs (stage := 6) hEnv (.inr (by rw [hb]; decide)), upTo_runs (stage := 7) hEnv (.inr (by rw [hc]; decide))]
    exact .inr ⟨congrArg Prod.fst hReady, congrArg Prod.snd hReady⟩
  · rw [upTo_recovery (by decide) h, upTo_recovery (by decide) h, upTo_recovery (by decide) h, upTo_recovery (by decide) h]
    exact .inl h

theorem keeps_fset_bootAt {f : Fld} (hf : (f.inReg && F.MOD_BOOT_STAT_STAGE.inReg && (f.reg != F.MOD_BOOT_STAT_STAGE.reg ||
      f.lo != F.MOD_BOOT_STAT_STAGE.lo || f.len != F.MOD_BOOT_STAT_STAGE.len)) = true ∧ (f.inReg && F.MOD_BOOT_STAT_READY.inReg &&
      (f.reg != F.MOD_BOOT_STAT_READY.reg || f.lo != F.MOD_BOOT_STAT_READY.lo || f.len != F.MOD_BOOT_STAT_READY.len)) = true) (i v : Nat) :
    (fset f i v).Keeps State.bootAt := fun s => by
  obtain ⟨hStage, hReady⟩ := hf
  rw [State.bootAt, on_fset, Upd.fget_fld_other hStage, Upd.fget_fld_other hReady, State.bootAt]

/-- READY is reached (R580 step 14). -/
theorem bootReady_bootAt (env : BootEnv) (s : State) : (Eff.on (bootReady env) s).bootAt = (7, 1) := by
  have hDir (f : BootDir → BootDir) : (dirWrite f).Keeps State.bootAt := (only_dirWrite (List.Subset.refl _) f).bootAt (by decide)
  have hRaise (c : Nat) (w : Who) (l : List (Nat × Nat)) : (raise c 0 w l).Keeps State.bootAt := (only_raise (ps := [.ev]) (by decide) c 0 w l).bootAt (by decide)
  have hTold : tamperTold.Keeps State.bootAt := (only_tamperTold (List.Subset.refl _)).bootAt (by decide)
  have hBoot (b : BootSt) : (upd [.boot b]).Keeps State.bootAt := fun _ => rfl
  have hReady (s : State) : (Eff.on (fset F.MOD_BOOT_STAT_READY 0 1) (Eff.on (fset F.MOD_BOOT_STAT_STAGE 0 7) s)).bootAt = (7, 1) := by
    rw [State.bootAt, on_fset, Upd.fget_fld_same (by decide), Upd.fget_fld_other (by decide), on_fset, Upd.fget_fld_same (by decide)]
    rfl
  rw [bootReady, on_rd]
  dsimp only
  rw [on_seq_cons, on_seq_cons, ← hReady s]
  refine keeps_seq_cons (keeps_fset_bootAt (by decide) _ _) (keeps_seq_cons (keeps_fset_bootAt (by decide) _ _)
    (keeps_seq_cons (keeps_when (keeps_fset_bootAt (by decide) _ _)) (keeps_seq_cons ?_ (keeps_seq_cons (keeps_rd fun _ => hBoot _)
      (keeps_seq_cons (keeps_when (keeps_seq₂ (keeps_when (keeps_seq₂ (keeps_fset_bootAt (by decide) _ _) (hRaise _ _ _)))
        (keeps_fset_bootAt (by decide) _ _))) (keeps_seq₂ (hRaise _ _ _) hTold)))))) _
  split
  · exact keeps_seq₂ (hDir _) (hRaise _ _ _)
  · exact keeps_when (hDir _)

/-! The whole sequence (R580). -/

section
variable {env : BootEnv} {s t : State}

theorem only_trims : Eff.Only [.fld .PWR_CLUSTER_c]
    (rd fun s => upd ((List.range 20).map fun c => .fld F.PWR_CLUSTER_c_TRIM c (s.boot.trims.getD c 0))) := by
  refine only_rd fun s => only_upd fun u hu => ?_
  obtain ⟨c, -, rfl⟩ := List.mem_map.1 hu
  exact List.mem_singleton_self _

/-- A failing step outside RECOVERY is noted, and the stage stays (R580). -/
theorem stageFault_noted (x : Nat × Nat) (h : s.stage ≠ 8) (ht : t = Eff.on (stageFault x) s) :
    t.stage = s.stage ∧ t.fget F.MOD_BOOT_ERR_STAGE_FAULT 0 = 1 := by
  have hNoted : t = Eff.on (raise 0x0B08 3 nobody [(1, x.1), (2, x.2)]) (Eff.on (fset F.MOD_BOOT_ERR_STAGE_FAULT 0 1) s) := by
    rw [ht, stageFault, on_rd, ← State.stage, bne_iff_ne.2 h, on_when_true, on_seq_pair]
  rw [hNoted, State.stage, on_raise, Upd.ev_fget, Upd.ev_fget, on_fset, Upd.fget_fld_other (by decide), Upd.fget_fld_same (by decide)]
  exact ⟨rfl, rfl⟩

/-- What opens the sequence leaves it in stage 1. -/
theorem bootOpens_stage (s : State) :
    (Eff.on (padOff 3) (Eff.on (padOff 2) (Eff.on (padOff 1) (Eff.on (padOff 0) (Eff.on (fset F.MOD_BOOT_STAT_STAGE 0 1) s))))).stage = 1 := by
  have hPad (g : Nat) : (padOff g).Keeps State.bootAt := (only_padOff (List.Subset.refl _) g).bootAt (by decide)
  rw [(hPad 3).stage, (hPad 2).stage, (hPad 1).stage, (hPad 0).stage, stage_fset]
  rfl

/-- Bad fuses end the sequence in stage 1, with STAGE_FAULT. -/
theorem bootFull_badFuses (h : env.fusesOk = false) (ht : t = Eff.on (bootFull env) s) :
    t.stage = 1 ∧ t.fget F.MOD_BOOT_ERR_STAGE_FAULT 0 = 1 := by
  have hOpens := bootOpens_stage (Eff.on grantEnds s)
  obtain ⟨hStage, hFault⟩ := stageFault_noted (1, 0) (by rw [hOpens]; decide) rfl
  rw [bootFull, h, on_seq_cons, on_seq_cons, on_seq_cons, on_seq_cons, on_seq_cons, on_seq_cons, on_seq_cons, on_seq_pair, on_either_false,
    on_when_false] at ht
  subst ht
  rw [(only_trims.bootAt (by decide)).stage, only_trims.fget (by decide) (by decide) (by decide), hStage, hOpens]
  exact ⟨rfl, hFault⟩

/-- Good fuses with no failing step lead to READY or RECOVERY. -/
theorem bootFull_booted (h : env.fusesOk = true) (hEnv : env.stageFault = none) (ht : t = Eff.on (bootFull env) s) : t.booted := by
  have hPorts : (bootPorts env).Keeps State.bootAt := (only_bootPorts (List.Subset.refl _) env).bootAt (by decide)
  have hGrid : (bootGrid env).Keeps State.bootAt := (only_bootGrid (List.Subset.refl _) env).bootAt (by decide)
  have hRails : (seq [tilesOn, pstepSet 12]).Keeps State.bootAt :=
    keeps_seq₂ ((only_tilesOn (List.Subset.refl _)).bootAt (by decide)) ((only_pstepSet (List.Subset.refl _) 12).bootAt (by decide))
  rw [bootFull, h, on_seq_cons, on_seq_cons, on_seq_cons, on_seq_cons, on_seq_cons, on_seq_cons, on_seq_cons, on_seq_pair, on_either_true,
    on_when_true, upTo_runs hEnv (.inl (by decide))] at ht
  subst ht
  refine bootSteps_booted hEnv (fun s => ?_) (fun s => ?_) (fun s => ?_) (bootReady_bootAt env) (fun s => by rw [hEnv]; rfl) ?_
  · rw [on_seq_cons, on_seq_cons, stage_set hRails]
    rfl
  · rw [on_seq_cons, on_seq_cons, on_seq_cons, on_seq_cons, on_seq_pair, stage_set hPorts]
    rfl
  · rw [on_seq_cons, on_seq_pair, stage_set hGrid]
    rfl
  · rw [(only_trims.bootAt (by decide)).stage]
    exact imageLoad_stage env _

end

end Sys2Proof.Machine
end

section
/-! Resets and firmware commands (R572, R591, R592, R595 to R597, R699). -/
namespace Sys2Proof.Machine

/-! Who holds the boot (R699): nothing in the sequence itself. -/

/-- The step at which RESET_N holds the boot, 0 for none. -/
def State.bootHold (s : State) : Nat := s.boot.held

theorem Eff.Only.bootHold {ps : List Part} {e : Eff} (h : e.Only ps) (hp : Part.boot ∉ ps) : e.Keeps State.bootHold :=
  fun s => congrArg BootSt.held (h.frame_boot hp s)

/-- A change of the boot's records that leaves the hold alone. -/
theorem keeps_updBoot_bootHold {f : State → BootSt} (hf : ∀ s, (f s).held = s.boot.held) : Eff.Keeps State.bootHold (rd fun s => upd [.boot (f s)]) :=
  fun s => hf s

theorem keeps_dirWrite_bootHold (f : BootDir → BootDir) : (dirWrite f).Keeps State.bootHold := fun s => by
  rw [State.bootHold, boot_dirWrite, State.bootHold]

theorem keeps_imageRuns_bootHold (n : Nat) (fallback : Bool) : (imageRuns n fallback).Keeps State.bootHold := fun s => by
  have hRest : Eff.Only [.fld .MOD_BOOT_STAT, .fld .SAF_STAT, .saf] (seq [fset F.MOD_BOOT_STAT_STAGE 0 3, fset F.MOD_BOOT_STAT_SLOT 0 n,
      fput F.MOD_BOOT_STAT_FALLBACK 0 fallback, releaseDraw]) :=
    only_seq₄ (only_fset (by decide) _ _) (only_fset (by decide) _ _) (only_fput (by decide) _ _) (only_releaseDraw (by decide))
  rw [imageRuns, on_rd]
  dsimp only
  rw [on_seq_cons, hRest.bootHold (by decide)]
  rfl

/-- Effects of an `if` that each leave a reading alone. -/
theorem keeps_ite {α : Type} {g : State → α} {c : Prop} [Decidable c] {e e' : Eff} (h : e.Keeps g) (h' : e'.Keeps g) :
    Eff.Keeps g (if c then e else e') := by
  split
  · exact h
  · exact h'

theorem keeps_imageLoad_bootHold (env : BootEnv) : (imageLoad env).Keeps State.bootHold := by
  have hSet {f : Fld} (i v : Nat) : (fset f i v).Keeps State.bootHold := (only_fset (ps := [.fld f.reg]) (.head _) i v).bootHold (by simp)
  have hPut {f : Fld} (i : Nat) (b : Bool) : (fput f i b).Keeps State.bootHold := (only_fput (ps := [.fld f.reg]) (.head _) i b).bootHold (by simp)
  have hReject (n : Nat) (r : Nat × Nat) : (fwReject n r).Keeps State.bootHold := (only_fwReject (List.Subset.refl _) n r).bootHold (by decide)
  have hRecovery : recovery.Keeps State.bootHold := hSet 0 8
  refine keeps_rd fun s => ?_
  dsimp only
  refine keeps_seq_cons (hSet _ _) (keeps_seq_cons (hPut _ _) (keeps_seq₂ (hSet _ _) (keeps_ite hRecovery (keeps_ite (keeps_seq₂ (hSet _ _) hRecovery)
    (keeps_seq_cons (hSet _ _) (keeps_seq_cons (keeps_when (hSet _ _)) (keeps_seq₂ (hSet _ _) (keeps_ite (keeps_imageRuns_bootHold _ _) ?_))))))))
  refine keeps_seq_cons ?_ (keeps_seq₂ ?_ (keeps_ite (keeps_imageRuns_bootHold _ _) hRecovery))
  all_goals
    split
    · exact hReject _ _
    · exact fun _ => rfl

theorem keeps_bootReady_bootHold (env : BootEnv) : (bootReady env).Keeps State.bootHold := by
  have hSet {f : Fld} (i v : Nat) : (fset f i v).Keeps State.bootHold := (only_fset (ps := [.fld f.reg]) (.head _) i v).bootHold (by simp)
  have hRaise (c : Nat) (w : Who) (l : List (Nat × Nat)) : (raise c 0 w l).Keeps State.bootHold :=
    (only_raise (ps := [.ev]) (by decide) c 0 w l).bootHold (by decide)
  have hTold : tamperTold.Keeps State.bootHold := (only_tamperTold (List.Subset.refl _)).bootHold (by decide)
  refine keeps_rd fun s => ?_
  dsimp only
  refine keeps_seq_cons (hSet _ _) (keeps_seq_cons (hSet _ _) (keeps_seq_cons (hSet _ _) (keeps_seq_cons (hSet _ _) (keeps_seq_cons
    (keeps_when (hSet _ _)) (keeps_seq_cons (keeps_ite (keeps_seq₂ (keeps_dirWrite_bootHold _) (hRaise _ _ _)) (keeps_when (keeps_dirWrite_bootHold _)))
      (keeps_seq_cons (keeps_updBoot_bootHold fun _ => rfl) (keeps_seq_cons (keeps_when (keeps_seq₂ (keeps_when (keeps_seq₂ (hSet _ _) (hRaise _ _ _)))
        (hSet _ _))) (keeps_seq₂ (hRaise _ _ _) hTold))))))))

theorem keeps_upTo_bootHold (env : BootEnv) (stage : Nat) {e : Eff} (h : e.Keeps State.bootHold) : (upTo env stage e).Keeps State.bootHold :=
  keeps_rd fun _ => keeps_when h

/-- The sequence goes on from a hold without changing it. -/
theorem keeps_bootFull_bootHold (env : BootEnv) : (bootFull env).Keeps State.bootHold := by
  have hSet {f : Fld} (i v : Nat) : (fset f i v).Keeps State.bootHold := (only_fset (ps := [.fld f.reg]) (.head _) i v).bootHold (by simp)
  have hPad (g : Nat) : (padOff g).Keeps State.bootHold := (only_padOff (List.Subset.refl _) g).bootHold (by decide)
  have hFault (x : Nat × Nat) : (stageFault x).Keeps State.bootHold := (only_stageFault (List.Subset.refl _) x).bootHold (by decide)
  have hTest (l : List (Nat × Nat × Nat)) : (each l selfTestFail).Keeps State.bootHold :=
    keeps_each fun u => (only_selfTestFail (List.Subset.refl _) u).bootHold (by decide)
  have hRepair (k l c r : Nat) : (slagRepair k l c r).Keeps State.bootHold := (only_slagRepair (List.Subset.refl _) k l c r).bootHold (by decide)
  have hRaise (c sv : Nat) (w : Who) (l : List (Nat × Nat)) : (raise c sv w l).Keeps State.bootHold :=
    (only_raise (ps := [.ev]) (by decide) c sv w l).bootHold (by decide)
  have hRails : (seq [slagMerge, fset F.MOD_BOOT_STAT_STAGE 0 4, tilesOn, pstepSet 12]).Keeps State.bootHold :=
    keeps_seq_cons ((only_slagMerge (List.Subset.refl _)).bootHold (by decide)) (keeps_seq_cons (hSet _ _)
      (keeps_seq₂ ((only_tilesOn (List.Subset.refl _)).bootHold (by decide)) ((only_pstepSet (List.Subset.refl _) _).bootHold (by decide))))
  have hPorts : (bootPorts env).Keeps State.bootHold := (only_bootPorts (List.Subset.refl _) env).bootHold (by decide)
  have hGrid : (bootGrid env).Keeps State.bootHold := (only_bootGrid (List.Subset.refl _) env).bootHold (by decide)
  refine keeps_seq_cons ((only_grantEnds (List.Subset.refl _)).bootHold (by decide)) (keeps_seq_cons (hSet _ _) (keeps_seq_cons (hPad _)
    (keeps_seq_cons (hPad _) (keeps_seq_cons (hPad _) (keeps_seq_cons (hPad _) (keeps_seq_cons
      (keeps_either (keeps_upTo_bootHold _ _ (keeps_imageLoad_bootHold env)) (hFault _)) (keeps_seq₂ (only_trims.bootHold (by decide)) (keeps_when ?_))))))))
  refine keeps_seq_cons (keeps_upTo_bootHold _ _ hRails) (keeps_seq_cons (keeps_upTo_bootHold _ _ ?_) (keeps_seq_cons
    (keeps_upTo_bootHold _ _ (keeps_seq_cons (hTest _) (keeps_seq₂ (hSet _ _) hGrid))) (keeps_seq₂
      (keeps_upTo_bootHold _ _ (keeps_bootReady_bootHold env)) ?_)))
  · exact keeps_seq_cons (keeps_each fun _ => keeps_seq₂ (hSet _ _) (hRaise _ _ _ _)) (keeps_seq_cons (keeps_when (hPad _)) (keeps_seq_cons
      (keeps_each fun _ => keeps_each fun _ => hRepair _ _ _ _) (keeps_seq_cons (hTest _) (keeps_seq₂ (hSet _ _) hPorts))))
  · split
    · exact hFault _
    · exact fun _ => rfl

/-! Power-on, module reset and the release of RESET_N (R572, R580, R699). -/

section
variable {env : BootEnv} {x : Straps} {low : Bool} {lowNs tc : Nat} {s t : State}

/-- What a power-on does before the boot sequence: everything but the stores is cleared; from STANDBY Anise stays and its exit is counted. -/
def powerOnOpens (env : BootEnv) (x : Straps) : Eff := rd fun s =>
  let standby := s.fget F.PST_STAT_STATE 0 == 4
  let latch := s.fget F.PST_WAKE_STAT_LATCH 0
  seq [
    clearAll (if standby then storeRegs ++ aniseRegs else storeRegs),
    fset F.PST_PAD_HOLD_HOLD 0 0x3F,
    when standby (seq [fset F.PST_STAT_XTAL_FAIL 0 (s.fget F.PST_STAT_XTAL_FAIL 0), fset F.PST_STAT_REPLAYED 0 (s.fget F.PST_STAT_REPLAYED 0)]),
    when (!standby) (strapsIn x),
    when env.cellLost cellReset,
    when standby (seq [fset F.PST_STAT_TICK_TC0_TICKS 0 (s.fget F.PST_TICKS_COUNT 0), fset F.PST_WAKE_STAT_LAST 0 latch,
      fset F.PST_WAKE_STAT_LATCH 0 0, fadd F.PST_WAKE_STAT_EXITS 0 1, raise 0x080C 0 nobody [(1, 4), (1, 0), (1, s.pst.cause), (1, latch)]]),
    lifecycleBack]

theorem exec_powerOn_opens (env : BootEnv) (x : Straps) (low : Bool) (s : State) : exec (.powerOn env x low) s = .next (Eff.on
    (either low (rd fun s => upd [.boot { s.boot with held := 2 }]) (seq [tcTo (env.ms * 1000000), bootFull env])) (Eff.on (powerOnOpens env x) s)) := by
  rw [exec_powerOn, execPowerOn, run_eq, on_rd, powerOnOpens, on_rd]
  dsimp only
  simp only [on_seq_cons, on_seq_nil]

/-- From STANDBY the exit is counted and the wake latches are cleared. -/
theorem powerOnOpens_standby (h : s.fget F.PST_STAT_STATE 0 = 4) (ht : t = Eff.on (powerOnOpens env x) s) : t.fget F.PST_WAKE_STAT_LATCH 0 = 0 ∧
    t.fget F.PST_WAKE_STAT_EXITS 0 = (s.fget F.PST_WAKE_STAT_EXITS 0 + 1) % 2 ^ F.PST_WAKE_STAT_EXITS.len := by
  have hBack := only_lifecycleBack (List.Subset.refl _)
  have hCell (b : Bool) : Eff.Only [.fld .SAF_SECONDS, .fld .SAF_STAT, .fld .SAF_TAMPER, .saf] (when b cellReset) :=
    only_when fun _ => only_cellReset (List.Subset.refl _)
  rw [powerOnOpens, on_rd] at ht
  dsimp only at ht
  rw [h, beq_self_eq_true, Bool.not_true, on_seq_cons, on_seq_cons, on_seq_cons, on_seq_cons, on_seq_cons, on_seq_pair, on_when_true, on_when_true,
    on_when_false] at ht
  simp only [ht, hBack.fget (f := F.PST_WAKE_STAT_LATCH) (by decide) (by decide) (by decide),
    hBack.fget (f := F.PST_WAKE_STAT_EXITS) (by decide) (by decide) (by decide), on_seq_cons, on_seq_nil, on_raise, Upd.ev_fget, on_fadd]
  constructor
  · rw [Upd.fget_fld_other (by decide), on_fset, Upd.fget_fld_same (by decide), Nat.zero_mod]
  · rw [Upd.fget_fld_same (by decide), on_fset, Upd.fget_fld_other (by decide), on_fset, Upd.fget_fld_other (by decide), on_fset,
      Upd.fget_fld_other (by decide), (hCell _).fget (by decide) (by decide) (by decide), on_fset, Upd.fget_fld_other (by decide), on_fset,
      Upd.fget_fld_other (by decide), on_fset, Upd.fget_fld_other (by decide)]
    exact congrArg (fun n => (n + 1) % _) (fget_clearAll (by decide) (by decide) (by decide) 0 s)

/-- With RESET_N low the sequence waits; without, the boot sequence follows. -/
theorem powerOn_low (hNext : exec (.powerOn env x true) s = .next t) : t.boot.held = 2 ∧
    ∀ (f : Fld) (i : Nat), t.fget f i = (Eff.on (powerOnOpens env x) s).fget f i := by
  obtain ⟨u, hu⟩ : ∃ u, u = Eff.on (powerOnOpens env x) s := ⟨_, rfl⟩
  rw [exec_powerOn_opens, on_either_true, on_rd, ← hu] at hNext
  cases hNext
  rw [← hu]
  exact ⟨rfl, fun _ _ => rfl⟩

theorem powerOn_boots (hNext : exec (.powerOn env x false) s = .next t) :
    t = Eff.on (bootFull env) ((Eff.on (powerOnOpens env x) s).movedOn (env.ms * 1000000)) := by
  rw [exec_powerOn_opens, on_either_false, on_seq_pair] at hNext
  cases hNext
  rfl

/-- The boot sequence writes nothing of Anise's wake registers, so what opened the power-on still shows at its end. -/
theorem powerOn_standby (hNext : exec (.powerOn env x low) s = .next t) (h : s.fget F.PST_STAT_STATE 0 = 4) : t.fget F.PST_WAKE_STAT_LATCH 0 = 0 ∧
    t.fget F.PST_WAKE_STAT_EXITS 0 = (s.fget F.PST_WAKE_STAT_EXITS 0 + 1) % 2 ^ F.PST_WAKE_STAT_EXITS.len := by
  obtain ⟨hLatch, hExits⟩ := powerOnOpens_standby (env := env) (x := x) h rfl
  cases low with
  | true =>
    obtain ⟨-, hSame⟩ := powerOn_low hNext
    rw [hSame, hSame]
    exact ⟨hLatch, hExits⟩
  | false =>
    have hBoot := only_bootFull (List.Subset.refl _) env
    rw [powerOn_boots hNext, hBoot.fget (by decide) (by decide) (by decide), hBoot.fget (by decide) (by decide) (by decide),
      State.movedOn_fget _ _ (by decide), State.movedOn_fget _ _ (by decide)]
    exact ⟨hLatch, hExits⟩

/-- MODULE_RESET holds the module and keeps the time. -/
theorem moduleReset_spec (hNext : exec (.moduleReset lowNs tc) s = .next t) :
    (10000 ≤ lowNs → s.fget F.PST_STAT_STATE 0 ≠ 4 → t.tc = s.clockAt tc ∧ t.boot.held = 1 ∧ t.fget F.MOD_RESET_STAT_LAST 0 = 1) ∧
    (lowNs < 10000 ∨ s.fget F.PST_STAT_STATE 0 = 4 → t = s) := by
  rw [exec_moduleReset, execModuleReset, run_eq, on_rd] at hNext
  refine ⟨fun hLow hState => ?_, fun hNot => ?_⟩
  · rw [decide_eq_true hLow, bne_iff_ne.2 hState, Bool.and_self, on_when_true, on_seq_cons, on_seq_cons, on_seq_cons, on_seq_pair, on_rd] at hNext
    obtain ⟨u, hu⟩ : ∃ u, u = Eff.on (fset F.MOD_RESET_STAT_LAST 0 1) (Eff.on lifecycleBack
      (Eff.on (clearAll (storeRegs ++ aniseRegs ++ [Reg.TC_NOW.ix])) (Eff.on (tcTo tc) s))) := ⟨_, rfl⟩
    rw [← hu] at hNext
    cases hNext
    refine ⟨?_, rfl, ?_⟩
    · change u.tc = _
      rw [State.tc, hu, on_fset, Upd.fget_fld_other (by decide), (only_lifecycleBack (List.Subset.refl _)).fget (by decide) (by decide) (by decide)]
      exact (tc_clearAll (by decide) _).trans (s.movedOn_tc tc)
    · change u.fget F.MOD_RESET_STAT_LAST 0 = 1
      rw [hu, on_fset, Upd.fget_fld_same (by decide)]
      rfl
  · have hStays : (decide (lowNs ≥ 10000) && s.fget F.PST_STAT_STATE 0 != 4) = false := by
      rcases hNot with h | h
      · rw [decide_eq_false (by omega), Bool.false_and]
      · rw [h, bne_self_eq_false, Bool.and_false]
    rw [hStays, on_when_false] at hNext
    cases hNext
    rfl

/-- A held module goes on with its boot sequence once RESET_N is released. -/
theorem resetNRelease_spec (hNext : exec (.resetNRelease env x tc) s = .next t) :
    (s.boot.held = 0 → t = s) ∧
    (s.boot.held ≠ 0 → t.tc = s.clockAt tc ∧ t.boot.held = 0 ∧ t.svc.sbAddr = x.sbAddr.val ∧ ∃ u, t = Eff.on (bootFull env) u) := by
  rw [exec_resetNRelease, execResetNRelease, run_eq, on_rd] at hNext
  refine ⟨fun h => ?_, fun h => ?_⟩
  · rw [h, bne_self_eq_false, on_when_false] at hNext
    cases hNext
    rfl
  · have hBoot := only_bootFull (List.Subset.refl _) env
    rw [bne_iff_ne.2 h, on_when_true, on_seq_cons, on_seq_cons, on_seq_pair, on_rd] at hNext
    cases hNext
    refine ⟨?_, ?_, ?_, _, rfl⟩
    · rw [State.tc, hBoot.fget (by decide) (by decide) (by decide)]
      change (Eff.on (strapsIn x) _).fget _ _ = _
      rw [(only_strapsIn (List.Subset.refl _) x).fget (by decide) (by decide) (by decide)]
      exact s.movedOn_tc tc
    · exact keeps_bootFull_bootHold env _
    · rw [hBoot.frame_svc (by decide)]
      rfl

end

/-! The compute-only reset and the management reset (R595 to R598). -/

section
variable {env : BootEnv} {k : Fin 17} {cause tc : Nat} {s t : State}

theorem computeReset_counts (ht : t = Eff.on (computeReset env) s) : t.fget F.MOD_RESET_STAT_LAST 0 = 4 ∧ t.fget F.MOD_RESET_STAT_IN_PROGRESS 0 = 0 ∧
    t.fget F.MOD_RESET_STAT_COMPUTE_RESETS 0 = (s.fget F.MOD_RESET_STAT_COMPUTE_RESETS 0 + 1) % 2 ^ F.MOD_RESET_STAT_COMPUTE_RESETS.len := by
  have hStop := only_computeStop (List.Subset.refl _)
  have hStart := only_computeStart (List.Subset.refl _) env
  rw [computeReset, on_rd] at ht
  dsimp only at ht
  rw [on_seq_cons, on_seq_cons, on_seq_cons, on_seq_cons, on_seq_cons, on_seq_pair, on_rd, on_raise, on_fadd] at ht
  subst ht
  rw [Upd.ev_fget, Upd.ev_fget, Upd.ev_fget, Upd.fget_fld_other (by decide), Upd.fget_fld_other (by decide), Upd.fget_fld_same (by decide)]
  refine ⟨?_, ?_, ?_⟩
  · rw [on_fset, Upd.fget_fld_same (by decide)]
    rfl
  · rw [on_fset, Upd.fget_fld_other (by decide), on_fset, Upd.fget_fld_same (by decide)]
    rfl
  · rw [on_fset, Upd.fget_fld_other (by decide), on_fset, Upd.fget_fld_other (by decide), hStart.fget (by decide) (by decide) (by decide),
      hStop.fget (by decide) (by decide) (by decide), on_fset, Upd.fget_fld_other (by decide)]

theorem mbComputeReset_spec (hNext : exec (.mbComputeReset k env tc) s = .next t) :
    (s.mbRuns k.val 0x0302 = true → t.fget F.MOD_RESET_STAT_LAST 0 = 4 ∧ t.fget F.MOD_RESET_STAT_IN_PROGRESS 0 = 0 ∧
      t.fget F.MOD_RESET_STAT_COMPUTE_RESETS 0 = (s.fget F.MOD_RESET_STAT_COMPUTE_RESETS 0 + 1) % 2 ^ F.MOD_RESET_STAT_COMPUTE_RESETS.len) ∧
    (s.mbRuns k.val 0x0302 = false → SameBut [.fld .TC_NOW] s t) := by
  rw [exec_mbComputeReset, execMbComputeReset, run_eq] at hNext
  refine ⟨fun h => ?_, fun h => ?_⟩
  · have hDone (p : State → List Nat) : Eff.Only mbParts (rd fun s => each (p s) fun k => mbDone k 0) :=
      only_rd fun _ => only_each fun k _ => only_mbDone_parts k 0
    have hFail (p : State → List Nat) : Eff.Only mbParts (rd fun s => each (p s) fun k => mbFail k 0x0213) :=
      only_rd fun _ => only_each fun k _ => only_mbFail_parts k _
    obtain ⟨hLast, hProgress, hCount⟩ := computeReset_counts (env := env) (s := s.movedOn tc) rfl
    rw [mbCommand_runsAt tc h, on_seq_cons, on_seq_pair] at hNext
    simp only [← Host.Outcome.next.inj hNext, (hFail _).fget (f := F.MOD_RESET_STAT_LAST) (by decide) (by decide) (by decide),
      (hDone _).fget (f := F.MOD_RESET_STAT_LAST) (by decide) (by decide) (by decide),
      (hFail _).fget (f := F.MOD_RESET_STAT_IN_PROGRESS) (by decide) (by decide) (by decide),
      (hDone _).fget (f := F.MOD_RESET_STAT_IN_PROGRESS) (by decide) (by decide) (by decide),
      (hFail _).fget (f := F.MOD_RESET_STAT_COMPUTE_RESETS) (by decide) (by decide) (by decide),
      (hDone _).fget (f := F.MOD_RESET_STAT_COMPUTE_RESETS) (by decide) (by decide) (by decide)]
    rw [s.movedOn_fget tc (by decide)] at hCount
    exact ⟨hLast, hProgress, hCount⟩
  · rw [mbCommand_idleAt tc h] at hNext
    cases hNext
    exact s.movedOn_same tc

/-- What a management reset does once its cause is recorded: the boot goes on from step 2. -/
def managementBoots (cause : Nat) (env : BootEnv) : Eff := seq [
  fset F.MOD_BOOT_STAT_STAGE 0 1,
  either env.fusesOk (upTo env 2 (imageLoad env)) (stageFault (1, 0)),
  when env.fusesOk (seq [
    upTo env 4 (fset F.MOD_BOOT_STAT_STAGE 0 4),
    upTo env 5 (fset F.MOD_BOOT_STAT_STAGE 0 5),
    upTo env 6 (seq [computeStart env, fset F.MOD_BOOT_STAT_STAGE 0 6]),
    upTo env 7 (seq [bootReady env, raise 0x0B06 0 nobody [(1, cause)]]),
    (match env.stageFault with | some x => stageFault x | none => nop)])]

/-- The last reset and the counts of resets, as MOD_RESET_STAT shows them. -/
def State.resets (s : State) : Nat × Nat := (s.fget F.MOD_RESET_STAT_LAST 0, s.fget F.MOD_RESET_STAT_MGMT_RESETS 0)

theorem Eff.Only.resets {ps : List Part} {e : Eff} (h : e.Only ps) (hp : Part.flds ∉ ps ∧ Part.fld .MOD_RESET_STAT ∉ ps) : e.Keeps State.resets := by
  obtain ⟨hFlds, hReg⟩ := hp
  intro s
  rw [State.resets, h.fget (by decide) hFlds hReg, h.fget (by decide) hFlds hReg, State.resets]

theorem managementBoots_resets (cause : Nat) (env : BootEnv) : (managementBoots cause env).Keeps State.resets := by
  have hUpTo {e : Eff} (stage : Nat) (h : e.Keeps State.resets) : (upTo env stage e).Keeps State.resets := keeps_rd fun _ => keeps_when h
  have hStage (v : Nat) : (fset F.MOD_BOOT_STAT_STAGE 0 v).Keeps State.resets :=
    (only_fset (ps := [.fld .MOD_BOOT_STAT]) (by decide) _ _).resets (by decide)
  have hFault (x : Nat × Nat) : (stageFault x).Keeps State.resets := (only_stageFault (List.Subset.refl _) x).resets (by decide)
  have hLoad : (imageLoad env).Keeps State.resets := (only_imageLoad (List.Subset.refl _) env).resets (by decide)
  have hStart : (computeStart env).Keeps State.resets := (only_computeStart (List.Subset.refl _) env).resets (by decide)
  have hReady : (bootReady env).Keeps State.resets := (only_bootReady (List.Subset.refl _) env).resets (by decide)
  have hRaise : (raise 0x0B06 0 nobody [(1, cause)]).Keeps State.resets := (only_raise (ps := [.ev]) (by decide) _ _ _ _).resets (by decide)
  refine keeps_seq_cons (hStage 1) (keeps_seq₂ (keeps_either (hUpTo 2 hLoad) (hFault _)) (keeps_when (keeps_seq_cons (hUpTo 4 (hStage 4))
    (keeps_seq_cons (hUpTo 5 (hStage 5)) (keeps_seq_cons (hUpTo 6 (keeps_seq₂ hStart (hStage 6))) (keeps_seq₂ (hUpTo 7 (keeps_seq₂ hReady hRaise)) ?_))))))
  split
  · exact hFault _
  · exact fun _ => rfl

/-- What a management reset drops: slots, rings, events but for their count, the boot's and the mailbox's registers, sessions. -/
def managementDrops : Eff := rd fun s => upd [.slotsClear 0 17, .ringsClear 0 17, .ev { State.reset.ev with seq := s.ev.seq },
  .fldsDrop [Reg.MOD_MB_SUMMARY.ix, Reg.MOD_EVR_HEAD_n.ix, Reg.MOD_EVR_TAIL_n.ix, Reg.SAF_SLOT_ROLE.ix, Reg.SAF_SLOT_FLASK.ix,
    Reg.MOD_BOOT_STAT.ix, Reg.MOD_BOOT_ERR.ix] 0 17,
  .boot { s.boot with pldm := PldmSt.idle }, .saf { s.saf with sessions := [], spdm := 0 }]

theorem managementDrops_mgmtResets (s : State) : (Eff.on managementDrops s).fget F.MOD_RESET_STAT_MGMT_RESETS 0 = s.fget F.MOD_RESET_STAT_MGMT_RESETS 0 := by
  rw [managementDrops, on_rd, on_upd, applyAll_cons, applyAll_cons, applyAll_cons, applyAll_cons, applyAll_cons, applyAll_cons, applyAll_nil,
    Upd.saf_fget, Upd.boot_fget, Upd.fget_fldsDrop (by decide) _ _ _ _ _ (by decide), Upd.ev_fget, Upd.ringsClear_fget, Upd.slotsClear_fget]

/-- A management reset is counted and its cause recorded (R595). -/
theorem managementReset_counts (ht : t = Eff.on (managementReset cause env) s) : t.fget F.MOD_RESET_STAT_LAST 0 = cause % 2 ^ F.MOD_RESET_STAT_LAST.len ∧
    t.fget F.MOD_RESET_STAT_MGMT_RESETS 0 = (s.fget F.MOD_RESET_STAT_MGMT_RESETS 0 + 1) % 2 ^ F.MOD_RESET_STAT_MGMT_RESETS.len := by
  have hEnds := only_grantEnds (List.Subset.refl _)
  have hClear := only_pourClear (List.Subset.refl _)
  have hStop := only_computeStop (List.Subset.refl _)
  obtain ⟨u, hu⟩ : ∃ u, u = Eff.on grantEnds (Eff.on pourClear (Eff.on managementDrops (Eff.on computeStop s))) := ⟨_, rfl⟩
  have hCount : u.fget F.MOD_RESET_STAT_MGMT_RESETS 0 = s.fget F.MOD_RESET_STAT_MGMT_RESETS 0 := by
    rw [hu, hEnds.fget (by decide) (by decide) (by decide), hClear.fget (by decide) (by decide) (by decide), managementDrops_mgmtResets,
      hStop.fget (by decide) (by decide) (by decide)]
  have hRest : t = Eff.on (managementBoots cause env) (Eff.on (fadd F.MOD_RESET_STAT_MGMT_RESETS 0 1) (Eff.on (fset F.MOD_RESET_STAT_LAST 0 cause) u)) := by
    rw [managementReset, on_seq_cons, on_seq_cons, on_seq_cons, on_seq_cons, on_seq_cons, on_seq_cons] at ht
    rw [hu]
    exact ht
  have hKept := managementBoots_resets cause env (Eff.on (fadd F.MOD_RESET_STAT_MGMT_RESETS 0 1) (Eff.on (fset F.MOD_RESET_STAT_LAST 0 cause) u))
  rw [← hRest] at hKept
  refine ⟨(congrArg Prod.fst hKept).trans ?_, (congrArg Prod.snd hKept).trans ?_⟩
  · rw [State.resets, on_fadd, Upd.fget_fld_other (by decide), on_fset, Upd.fget_fld_same (by decide)]
  · dsimp only [State.resets]
    rw [on_fadd, Upd.fget_fld_same (by decide), on_fset, Upd.fget_fld_other (by decide), hCount]

/-- The watchdog expires in stages 3 to 7 of a module that is not held. -/
theorem watchdogExpiry_spec (hNext : exec (.watchdogExpiry env tc) s = .next t) :
    (3 ≤ s.fget F.MOD_BOOT_STAT_STAGE 0 → s.fget F.MOD_BOOT_STAT_STAGE 0 ≤ 7 → s.boot.held = 0 → t.tc = s.clockAt tc ∧
      t.fget F.MOD_RESET_STAT_LAST 0 = 3 ∧
      t.fget F.MOD_RESET_STAT_MGMT_RESETS 0 = (s.fget F.MOD_RESET_STAT_MGMT_RESETS 0 + 1) % 2 ^ F.MOD_RESET_STAT_MGMT_RESETS.len) ∧
    (s.fget F.MOD_BOOT_STAT_STAGE 0 < 3 ∨ 7 < s.fget F.MOD_BOOT_STAT_STAGE 0 ∨ s.boot.held ≠ 0 → t = s) := by
  rw [exec_watchdogExpiry, execWatchdogExpiry, run_eq, on_rd] at hNext
  dsimp only at hNext
  refine ⟨fun hFrom hTo hHeld => ?_, fun hNot => ?_⟩
  · rw [decide_eq_true hFrom, decide_eq_true hTo, hHeld, beq_self_eq_true, Bool.and_self, Bool.and_self, on_when_true, on_seq_pair] at hNext
    cases hNext
    obtain ⟨hLast, hCount⟩ := managementReset_counts (cause := 3) (env := env) (s := s.movedOn tc) rfl
    rw [s.movedOn_fget tc (by decide)] at hCount
    refine ⟨?_, hLast, hCount⟩
    rw [State.tc, (only_managementReset (List.Subset.refl _) 3 env).fget (by decide) (by decide) (by decide)]
    exact s.movedOn_tc tc
  · have hStays : (decide (3 ≤ s.fget F.MOD_BOOT_STAT_STAGE 0) && decide (s.fget F.MOD_BOOT_STAT_STAGE 0 ≤ 7) && s.boot.held == 0) = false := by
      rcases hNot with h | h | h
      · rw [decide_eq_false (Nat.not_le.2 h), Bool.false_and, Bool.false_and]
      · rw [decide_eq_false (Nat.not_le.2 h), Bool.and_false, Bool.false_and]
      · rw [beq_false_of_ne h, Bool.and_false]
    rw [hStays, on_when_false] at hNext
    cases hNext
    rfl

end

/-! Staging and activating firmware (R577, R591, R592). -/

section
variable {env : BootEnv} {k : Fin 17} {sig back : Bool} {tc : Nat} {s t : State}

/-- What MB_FW_STAGE does with its command running: the range, then the check of the image, then the read back. -/
theorem mbFwStage_runs (hNext : exec (.mbFwStage k sig back) s = .next t) (h : s.mbRuns k.val 0x0601 = true) {src len : Nat} {b : List Byte}
    (hSrc : src = leAt (s.slot k.val).args 0 8) (hLen : len = leAt (s.slot k.val).args 8 4) (hb : b = s.devRd src (min len (2 ^ 24 + 1))) :
    (s.rangeOk 16 src len = false → t = Eff.on (mbFail k.val 0x0502) s) ∧
    (s.rangeOk 16 src len = true → s.fwCheck b len sig = none → back = true →
      t = Eff.on (seq [fset F.MOD_BOOT_ERR_REJECT_LAST 0 0, fwStore b, mbDone k.val 0]) s) ∧
    (s.rangeOk 16 src len = true → ∀ r, s.fwCheck b len sig = some r → t = Eff.on (seq [fwReject 2 r, mbFail k.val (rejectStatus r.1)]) s) := by
  rw [exec_mbFwStage, execMbFwStage, run_eq, mbCommand_runs h, on_rd] at hNext
  dsimp only at hNext
  rw [← hSrc, ← hLen, ← hb] at hNext
  refine ⟨fun hRange => ?_, fun hRange hCheck hBack => ?_, fun hRange r hCheck => ?_⟩
  · rw [hRange] at hNext
    cases hNext
    rfl
  · rw [hRange, hCheck, hBack] at hNext
    cases hNext
    rfl
  · rw [hRange, hCheck] at hNext
    cases hNext
    rfl

theorem boot_mbFail (k status : Nat) (s : State) : (Eff.on (mbFail k status) s).boot = s.boot := (only_mbFail_parts k status).frame_boot (by decide) s
theorem boot_mbDone (k v : Nat) (s : State) : (Eff.on (mbDone k v) s).boot = s.boot := (only_mbDone_parts k v).frame_boot (by decide) s

/-- A stored image is staged in the slot that is not active (R591). -/
theorem dir_fwStore (b : List Byte) (s : State) : (Eff.on (fwStore b) s).boot.dir.staged = 1 - s.boot.dir.active ∧
    (Eff.on (fwStore b) s).boot.dir.active = s.boot.dir.active := by
  have hDir : (Eff.on (upd [.boot (if 1 - s.boot.dir.active = 0 then { s.boot with slotA := b } else { s.boot with slotB := b })]) s).boot.dir =
      s.boot.dir := by
    change (if 1 - s.boot.dir.active = 0 then { s.boot with slotA := b } else { s.boot with slotB := b } : BootSt).dir = _
    split <;> rfl
  rw [fwStore, on_rd]
  dsimp only
  rw [on_seq_pair, boot_dirWrite, hDir]
  exact ⟨rfl, rfl⟩

theorem fwStored_spec {b : List Byte} (ht : t = Eff.on (seq [fset F.MOD_BOOT_ERR_REJECT_LAST 0 0, fwStore b, mbDone k.val 0]) s) :
    SlotDone t k.val 0 ∧ t.fget F.MOD_BOOT_ERR_REJECT_LAST 0 = 0 ∧ t.boot.dir.staged = 1 - s.boot.dir.active ∧
      t.boot.dir.active = s.boot.dir.active := by
  rw [on_seq_cons, on_seq_pair] at ht
  subst ht
  have hSet : (Eff.on (fset F.MOD_BOOT_ERR_REJECT_LAST 0 0) s).boot = s.boot :=
    (only_fset (ps := [.fld .MOD_BOOT_ERR]) (by decide) _ _).frame_boot (by decide) s
  obtain ⟨hStaged, hActive⟩ := dir_fwStore b (Eff.on (fset F.MOD_BOOT_ERR_REJECT_LAST 0 0) s)
  rw [hSet] at hStaged hActive
  refine ⟨slotDone_mbDone .., ?_, ?_, ?_⟩
  · rw [(only_mbDone_parts _ _).fget (by decide) (by decide) (by decide), (only_fwStore (List.Subset.refl _) b).fget (by decide) (by decide) (by decide),
      on_fset, Upd.fget_fld_same (by decide)]
    rfl
  · rw [boot_mbDone, hStaged]
  · rw [boot_mbDone, hActive]

/-- A rejected image changes nothing of the boot. -/
theorem fwRejected_spec {r : Nat × Nat} (ht : t = Eff.on (seq [fwReject 2 r, mbFail k.val (rejectStatus r.1)]) s) :
    SlotFailed t k.val (rejectStatus r.1) ∧ t.boot = s.boot := by
  rw [on_seq_pair] at ht
  subst ht
  refine ⟨slotFailed_mbFail .., ?_⟩
  rw [boot_mbFail, (only_fwReject (List.Subset.refl _) 2 r).frame_boot (by decide)]

theorem mbFwStage_idle (hNext : exec (.mbFwStage k sig back) s = .next t) (h : s.mbRuns k.val 0x0601 = false) : t = s := by
  rw [exec_mbFwStage, execMbFwStage, run_eq, mbCommand_idle h] at hNext
  cases hNext
  rfl

/-- The staged slot becomes active with TRIAL (R592). -/
theorem dir_fwActivate (s : State) : (Eff.on fwActivate s).boot.dir.active = s.boot.dir.staged % 2 ∧ (Eff.on fwActivate s).boot.dir.trial = 1 ∧
    (Eff.on fwActivate s).boot.dir.staged = 0xFF := by
  rw [fwActivate, on_rd, boot_dirWrite]
  exact ⟨rfl, rfl, rfl⟩

theorem mbFwActivate_runs (hNext : exec (.mbFwActivate k env tc) s = .next t) (h : s.mbRuns k.val 0x0602 = true) :
    (s.boot.dir.staged = 0xFF → SlotFailed t k.val 0x0210 ∧ t.boot = s.boot) ∧
    (s.boot.dir.staged ≠ 0xFF → leAt (s.slot k.val).args 0 1 ≠ 1 → SlotDone t k.val 0 ∧ t.boot.dir.active = s.boot.dir.staged % 2 ∧
      t.boot.dir.trial = 1 ∧ t.boot.dir.staged = 0xFF) ∧
    (s.boot.dir.staged ≠ 0xFF → leAt (s.slot k.val).args 0 1 = 1 → t.fget F.MOD_RESET_STAT_LAST 0 = 2) := by
  have hBoot : (s.movedOn tc).boot = s.boot := Upd.fld_boot ..
  rw [exec_mbFwActivate, execMbFwActivate, run_eq, mbCommand_runsAt tc h, on_rd, hBoot] at hNext
  refine ⟨fun hStaged => ?_, fun hStaged hMode => ?_, fun hStaged hMode => ?_⟩
  · rw [hStaged, beq_self_eq_true, on_either_true] at hNext
    cases hNext
    exact ⟨slotFailed_mbFail .., (boot_mbFail ..).trans hBoot⟩
  · rw [beq_false_of_ne hStaged, beq_false_of_ne hMode, on_either_false, on_seq_cons, on_seq_pair, on_when_false] at hNext
    cases hNext
    obtain ⟨hActive, hTrial, hEmpty⟩ := dir_fwActivate (s.movedOn tc)
    rw [boot_mbDone]
    exact ⟨slotDone_mbDone .., hActive.trans (congrArg (fun b => b.dir.staged % 2) hBoot), hTrial, hEmpty⟩
  · rw [beq_false_of_ne hStaged, hMode, beq_self_eq_true, on_either_false, on_seq_cons, on_seq_pair, on_when_true] at hNext
    cases hNext
    exact (managementReset_counts rfl).1

theorem mbFwActivate_idle (hNext : exec (.mbFwActivate k env tc) s = .next t) (h : s.mbRuns k.val 0x0602 = false) : SameBut [.fld .TC_NOW] s t := by
  rw [exec_mbFwActivate, execMbFwActivate, run_eq, mbCommand_idleAt tc h] at hNext
  cases hNext
  exact s.movedOn_same tc

end

end Sys2Proof.Machine

namespace Sys2Proof.Proofs
open Sys2Proof.Machine

/-- Settles O6: each command by its occasion, with the boot sequence by what its stages leave in STAGE. -/
theorem resetAndFirmwareCommandsAct : Obligations.ResetAndFirmwareCommandsAct := by
  unfold Obligations.ResetAndFirmwareCommandsAct
  refine ⟨fun env x low s => ?powerOn, fun lowNs tc s => ?moduleReset, fun env x tc s => ?release, fun k env tc s => ?computeReset,
    fun env tc s => ?watchdog, fun k sig back s => ?stage, fun k env tc s => ?activate⟩
  case powerOn =>
    refine ⟨_, rfl, frame_execPowerOn env x low s rfl, ?_, powerOn_standby rfl, ?_, ?_⟩
    · rintro rfl
      exact (powerOn_low rfl).1
    · rintro rfl hFuses
      exact bootFull_badFuses hFuses (powerOn_boots rfl)
    · rintro rfl hFuses hStages
      exact bootFull_booted hFuses hStages (powerOn_boots rfl)
  case moduleReset => exact ⟨_, rfl, frame_execModuleReset lowNs tc s rfl, moduleReset_spec rfl⟩
  case release =>
    refine ⟨_, rfl, frame_execResetNRelease env x tc s rfl, (resetNRelease_spec rfl).1, fun h => ?_, fun h hFuses _ => ?_, fun h hFuses hStages => ?_⟩
    · obtain ⟨hTime, hHeld, hStrap, -⟩ := (resetNRelease_spec rfl).2 h
      exact ⟨hTime, hHeld, hStrap⟩
    · obtain ⟨-, -, -, u, hu⟩ := (resetNRelease_spec rfl).2 h
      exact bootFull_badFuses hFuses hu
    · obtain ⟨-, -, -, u, hu⟩ := (resetNRelease_spec rfl).2 h
      exact bootFull_booted hFuses hStages hu
  case computeReset => exact ⟨_, rfl, frame_execMbComputeReset k env tc s rfl, takesTime_mbComputeReset k env tc _ _ rfl, mbComputeReset_spec rfl⟩
  case watchdog => exact ⟨_, rfl, frame_execWatchdogExpiry env tc s rfl, watchdogExpiry_spec rfl⟩
  case stage =>
    refine ⟨_, rfl, frame_execMbFwStage k sig back s rfl, fun h hRange => ?_, fun h hRange hCheck hBack => ?_, fun h r hRange hCheck => ?_,
      mbFwStage_idle rfl⟩
    · have hFails := (mbFwStage_runs (sig := sig) (back := back) rfl h rfl rfl rfl).1 hRange
      rw [hFails]
      exact ⟨slotFailed_mbFail .., boot_mbFail ..⟩
    · exact fwStored_spec ((mbFwStage_runs rfl h rfl rfl rfl).2.1 hRange hCheck hBack)
    · exact fwRejected_spec ((mbFwStage_runs rfl h rfl rfl rfl).2.2 hRange r hCheck)
  case activate =>
    refine ⟨_, rfl, frame_execMbFwActivate k env tc s rfl, takesTime_mbFwActivate k env tc _ _ rfl, fun h => (mbFwActivate_runs rfl h).1,
      fun h => (mbFwActivate_runs rfl h).2.1, fun h => (mbFwActivate_runs rfl h).2.2, mbFwActivate_idle rfl⟩

end Sys2Proof.Proofs
end
